-- ==== Sys2Proof/Word.lean ====
section
/-! DEFINITION. Words and bytes of the MH-4096: register words, cell bytes, and the plainest arithmetic on bit fields. -/
namespace Sys2Proof

/-- A register of the block is 64 bits wide (R8). -/
abbrev Word := BitVec 64

/-- One byte of a cell, a Hall window, a plan image or a table bank. -/
abbrev Byte := BitVec 8

/-- The number held by bits `[lo+n-1 : lo]` of a register word (bit 0 least significant, 00 "Bit ranges"). -/
def bitsOf (w : Word) (lo n : Nat) : Nat := (w.toNat / 2 ^ lo) % 2 ^ n

/-- The word `w` with bits `[lo+n-1 : lo]` replaced by the low `n` bits of `v`. -/
def setBits (w : Word) (lo n v : Nat) : Word :=
  BitVec.ofNat 64 (w.toNat - bitsOf w lo n * 2 ^ lo + (v % 2 ^ n) * 2 ^ lo)

/-- Bit `i` of a word. -/
def bitAt (w : Word) (i : Nat) : Bool := w.toNat / 2 ^ i % 2 == 1

/-- A mask of the bits `[lo+n-1 : lo]`. -/
def maskBits (lo n : Nat) : Nat := (2 ^ n - 1) * 2 ^ lo

/-- A Boolean as a register bit. -/
def bit (b : Bool) : Nat := if b then 1 else 0

/-- A two's-complement number of `n` bits as its unsigned field value. -/
def twos (n : Nat) (i : Int) : Nat := (i % (2 ^ n : Nat)).toNat

/-- The signed value of an `n`-bit field. -/
def signed (n v : Nat) : Int :=
  let u := v % 2 ^ n
  if 2 * u < 2 ^ n then (u : Int) else (u : Int) - (2 ^ n : Nat)

/-- The `n` bytes of `v`, least significant first: every multi-byte field is little-endian (R4). -/
def leBytes : Nat → Nat → List Byte
  | 0, _ => []
  | n + 1, v => BitVec.ofNat 8 v :: leBytes n (v / 256)

/-- The number that a list of bytes spells, least significant byte first (R4). -/
def leNat : List Byte → Nat
  | [] => 0
  | b :: t => b.toNat + 256 * leNat t

/-- `n` bytes of a list from offset `o`, short where the list ends. -/
def bytesAt (l : List Byte) (o n : Nat) : List Byte := (l.drop o).take n

/-- The little-endian number in the `n` bytes of a list from offset `o`. -/
def fieldAt (l : List Byte) (o n : Nat) : Nat := leNat (bytesAt l o n)

/-- Restrict `x` to the interval from `lo` to `hi`. -/
def clampInt (lo hi x : Int) : Int := if x < lo then lo else if hi < x then hi else x

/-- Restrict `x` to the interval from `lo` to `hi`. -/
def clampNat (lo hi x : Nat) : Nat := if x < lo then lo else if hi < x then hi else x

/-- The numbers `a, a+1, …, a+n-1` in ascending order. -/
def span (a n : Nat) : List Nat := (List.range n).map (a + ·)

end Sys2Proof
end

