-- ==== Sys2Proof/Records.lean ====
section
/-! DEFINITION. Records that cross the block's edge: what received cells, readings and messages carry. They are operands of
commands and parts of the state. -/
namespace Sys2Proof

/-- The width of a register access (R8): 64 bits, or the 32 bits of one half of a register. -/
inductive Width where
  | full | half
  deriving DecidableEq, Repr

/-- The frame timing of a FRAME section (03 FRAME table; R19, R20), in core cycles after the tick.
The default values are the default frame of R19 and R51. -/
structure FrameCfg where
  period     : Nat := 75000
  emitDl     : Nat := 60000
  lateFill   : Nat := 4800
  senseStart : Nat := 0
  senseEnd   : Nat := 48000
  loopStart  : Nat := 48000
  loopEnd    : Nat := 57600
  emitStart  : Nat := 48000
  emitEnd    : Nat := 60000
  guardStart : Nat := 71400
  guardEnd   : Nat := 75000
  deriving DecidableEq, Repr

/-- One estimate record (R161) of a mirror: angles in Q1.15 LSB, `CONF` in Q0.16, `FLAGS` of R162. -/
structure EstRec where
  mirror : Nat
  thetaX : Int
  thetaY : Int
  conf   : Nat
  energy : Nat
  flags  : Nat
  tick   : Nat
  deriving DecidableEq, Repr

/-- One tap reading (R171) of an output port. -/
structure TapReading where
  power : Nat := 0
  flags : Nat := 2
  deriving DecidableEq, Repr

/-- The items of a TIME cell (R50, R331). Device times are in units of 2^-16 ns. -/
structure TimeCell where
  frame       : Nat
  tickTime    : Nat
  txTime      : Nat
  periodCyc   : Nat
  periodDt    : Nat
  delayPs     : Nat
  epoch       : Nat
  stepTick    : Nat
  stepTime    : Nat
  side        : Nat
  stepPending : Bool
  notLocked   : Bool
  deriving DecidableEq, Repr

/-- The payload of a STATE cell (R335). -/
structure StateCell where
  frame         : Nat
  epoch         : Nat
  side          : Nat
  role          : Nat
  lock          : Nat
  commitPending : Bool
  fault         : Bool
  halt          : Bool
  guard         : Bool
  reach         : Nat
  edits         : Nat
  ovrWindow     : Nat
  guardEvent    : Nat
  pendingTick   : Nat
  planDigest    : Nat
  pendingDigest : Nat
  deriving DecidableEq, Repr

/-- The payload of a COMMAND cell (R324): its entries are (loop, command) pairs, commands in Q1.15 LSB. -/
structure CommandCell where
  applyTick : Nat
  epoch     : Nat
  porch     : Nat
  side      : Nat
  fill      : Bool
  entries   : List (Nat × Int)
  deriving DecidableEq, Repr

/-- The payload of an ACK cell (R329). -/
structure AckCell where
  applyTick : Nat
  epoch     : Nat
  fromA     : Nat
  fromB     : Nat
  repeated  : Nat
  duplicate : Nat
  late      : Nat
  stale     : Nat
  held      : Nat
  deriving DecidableEq, Repr

/-- The payload of a FAULT cell (R330). -/
structure FaultCell where
  headId : Nat
  code   : Nat
  first  : Nat
  count  : Nat
  deriving DecidableEq, Repr

/-- The payload of a GRANT cell (R334). -/
structure GrantCell where
  epoch    : Nat
  headId   : Nat
  headType : Nat
  toSide   : Nat
  verdict  : Nat
  deriving DecidableEq, Repr

/-- The payload of a WITHDRAW cell (R334). -/
structure WithdrawCell where
  epoch  : Nat
  side   : Nat
  reason : Nat
  frame  : Nat
  deriving DecidableEq, Repr

/-- The payload of a HEALTH cell (R337). -/
structure HealthCell where
  headId  : Nat
  temp    : Int
  flags   : Nat
  corrA   : Nat
  corrB   : Nat
  uncorrA : Nat
  uncorrB : Nat
  frame   : Nat
  deriving DecidableEq, Repr

/-- The data of an IDENT message (R338). -/
structure IdentMsg where
  headType : Nat
  headId   : Nat
  port     : Nat
  other    : Nat
  fwVer    : Nat
  countMax : Nat
  deriving DecidableEq, Repr

/-- The data of a CONFIG message (R338). -/
structure ConfigMsg where
  role      : Nat
  edge      : Nat
  bits      : Nat
  first     : Nat
  count     : Nat
  expose    : Nat
  streamOff : Nat
  window    : Nat
  planId    : Nat
  effective : Nat
  porch     : Nat
  deriving DecidableEq, Repr

/-- An SPDM request of R432 to R434, as the responder tells them apart. -/
inductive SpdmReq where
  /-- Negotiation: the requester offers SPDM 1.3 with the algorithms of R432. -/
  | negotiate (offered : Bool)
  | getCertificate (slot : BitVec 3)
  | challenge
  | getMeasurement (index : BitVec 8)
  | keyExchange
  | endSession
  /-- SET_CERTIFICATE, GET_CSR, PSK, CHUNK, events and the other requests that R432 does not support. -/
  | unsupported
  deriving DecidableEq, Repr

/-- A request on a DOE mailbox (R432 to R435): SPDM, or CXL IDE key management for the CXL.io and the CXL.cachemem stream. -/
inductive DoeReq where
  | spdm (r : SpdmReq)
  | ide (io mem : Bool)
  deriving DecidableEq, Repr

end Sys2Proof
end

