-- ==== Sys2Proof/Blocks/Loop.lean ====
section
/-! DEFINITION. State of the loop engine: the loops, the set-point inputs, the trace channels (07). Each default value is
the reset value; a loop not listed in the state is a loop in OFF. -/
namespace Sys2Proof.Machine

/-- The class of a loop (R186). -/
inductive LoopClass where
  | off | acquire | slew | hold | track | freeze
  deriving DecidableEq, Repr

/-- The phase of ACQUIRE (R199). -/
inductive AcqPhase where
  | park | wait | search
  deriving DecidableEq, Repr

/-- The past inputs and outputs of one section of the cascade (R191). -/
structure Section where
  x1 : Int := 0
  x2 : Int := 0
  y1 : Int := 0
  y2 : Int := 0
  deriving DecidableEq, Repr

/-- Output and rate of a limiter (R193), Q1.15 LSB. -/
structure Limiter where
  u : Int := 0
  v : Int := 0
  deriving DecidableEq, Repr

/-- The values that the read-only `LOOP_` registers show (R222). -/
structure LoopView where
  cmdTick  : Nat := 0
  sent     : Bool := false
  cmd      : Int := 0
  estTick  : Nat := 0
  estFlags : Nat := 0
  theta    : Int := 0
  conf     : Nat := 0
  predict  : Int := 0
  resid    : Int := 0
  spRate   : Int := 0
  rEff     : Int := 0
  integ    : Int := 0
  bad      : Nat := 0
  ovrRun   : Nat := 0
  phase    : AcqPhase := .park
  reason   : Nat := 0
  warm     : Nat := 0
  /-- A move holds the loop (`LOOP_STATUS.MOVE`). -/
  held     : Bool := false
  deriving DecidableEq, Repr

/-- The leg a move gives a loop (R232, R238, R247). -/
structure Leg where
  /-- The waypoint that is the loop's set-point source, Q1.15. -/
  target : Int
  /-- The leg's rate and acceleration limits for this axis (R232). -/
  rate   : Nat
  acc    : Nat
  /-- It is the last leg of the trajectory. -/
  last   : Bool
  /-- It is a stop (R247): the limiter decelerates to rest under `acc`. -/
  stop   : Bool
  deriving DecidableEq, Repr

/-- One loop context (07). -/
structure Loop where
  cls      : LoopClass := .off
  phase    : AcqPhase := .park
  /-- Freeze reason (R206), 0 none. -/
  reason   : Nat := 0
  /-- Frames of warm-up left (R203). -/
  warm     : Nat := 0
  /-- Consecutive bad frames (R203). -/
  bad      : Nat := 0
  /-- Every bad frame of the current run was bad only by confidence or validity in its last frame (R205). -/
  lowConf  : Bool := false
  /-- Consecutive overruns (R32). -/
  ovrRun   : Nat := 0
  /-- `LOOP_STATUS.RESULT`: 0 OK, 1 REFUSED. -/
  result   : Nat := 0
  /-- A move holds the loop (R230). -/
  held     : Bool := false
  /-- The loop descriptor in force, byte 0 in the low bits (R214). -/
  desc     : BitVec 512 := 0
  /-- `LOOP_SETPOINT` (R196). -/
  setpoint : Int := 0
  /-- A value written to `LOOP_SETPOINT` in this frame, taken up at the next tick. -/
  spWrite  : Option Int := .none
  /-- The integrator in Q9.31 (R190). -/
  integ    : Int := 0
  /-- States of sections 0 to 3 (R191); a section not listed has zero states. -/
  secs     : List Section := []
  sp       : Limiter := {}
  cmd      : Limiter := {}
  /-- Input of the command limiter in the last computed frame (R190). -/
  cmdIn    : Int := 0
  /-- The held command (R194). -/
  heldCmd  : Int := 0
  /-- The commands this unit sent, relayed or received for the newest apply ticks, newest first (R201). -/
  sentCmds : List (Nat × Int) := []
  /-- The angle history, newest first (R201). -/
  angles   : List Int := []
  /-- Consecutive frames that meet the hand-over conditions (R192). -/
  handRun  : Nat := 0
  /-- Frames since the loop entered ACQUIRE (R199). -/
  acqFrames : Nat := 0
  /-- Frames since WAIT was entered from PARK, and whether it was. -/
  waitFrames : Nat := 0
  fromPark : Bool := false
  /-- Consecutive confident frames in WAIT. -/
  confRun  : Nat := 0
  /-- Sweep target and direction of SEARCH. -/
  sweep    : Int := 0
  sweepUp  : Bool := false
  /-- The command of the frame in which a confident record ended the sweep (R199). -/
  frzCmd   : Int := 0
  /-- The record landed in this frame (R184). -/
  record   : Option EstRec := .none
  /-- The loop's command of this frame is complete (R184). -/
  ready    : Option Int := .none
  /-- The loop's command of this frame lies in an open or queued cell, or has been sent. -/
  celled   : Bool := false
  /-- The loop's estimates pass through a lost tile: its missing commands are no overruns (R88). -/
  excused  : Bool := false
  /-- The first frame the loop is computed in (R188); 0 when it may be computed. -/
  startFrame : Nat := 0
  /-- A freeze cause that awaits the next tick, 0 none (R207). -/
  frzWait  : Nat := 0
  /-- The leg of the move that holds the loop. -/
  leg      : Option Leg := .none
  /-- The precedence (R525) of the class change taken for the tick that comes, 0 none; 9 a start from OFF by a commit, which no freeze
cause meets. -/
  took     : Nat := 0
  /-- The class that governs the current frame, and that of the frame before (R221). -/
  clsNow   : LoopClass := .off
  clsPrev  : LoopClass := .off
  /-- Values computed in this frame, and the values the registers show (R222). -/
  now      : LoopView := {}
  view     : LoopView := {}
  deriving DecidableEq, Repr

/-- One set-point input (R198). -/
structure SpInput where
  /-- The value latched at the current tick, Q1.15. -/
  x      : Int := 0
  /-- STEP_DIR step count, signed 32 bits. -/
  count  : Int := 0
  stale  : Bool := false
  /-- Duty of the last complete PWM period, high cycles and period cycles. -/
  high   : Nat := 0
  period : Nat := 0
  /-- A PWM period has completed within the last 2,000 µs. -/
  fresh  : Bool := false
  /-- The input became stale in the current frame. -/
  nowStale : Bool := false
  deriving DecidableEq, Repr

/-- One trace channel (R218 to R221). -/
structure Channel where
  /-- 0 IDLE, 1 ARMED, 2 TRIGGERED, 3 DONE. -/
  state     : Nat := 0
  armResult : Nat := 0
  dropped   : Nat := 0
  /-- Settings copied at arm. -/
  seat      : Nat := 0
  off       : Nat := 0
  sizeLog2  : Nat := 0
  loopIx    : Nat := 0
  node      : Nat := 0
  pre       : Nat := 0
  post      : Nat := 0
  period    : Nat := 0
  armFrame  : Nat := 0
  /-- Samples taken since arm. -/
  taken     : Nat := 0
  /-- Samples written to the ring since arm (`WRITE_IDX`). -/
  writeIdx  : Nat := 0
  trigIdx   : Option Nat := .none
  trigFrame : Nat := 0
  seq       : Nat := 0
  /-- Staged samples not yet written to the ring, oldest first, each with its loss mark (R220). -/
  staged    : List Word := []
  /-- The next sample carries GAP. -/
  gap       : Bool := false
  /-- Value of the previous sample. -/
  prev      : Option Int := .none
  /-- The channel fired in the current frame (R221). -/
  fired     : Bool := false
  /-- Arm and manual trigger written in this frame. -/
  armNow    : Bool := false
  trigNow   : Bool := false
  deriving DecidableEq, Repr

/-- The loop engine's state that belongs to no single loop. -/
structure Engine where
  /-- Datapaths out of service (R213). -/
  dpOut     : List Nat := []
  /-- Datapaths whose mismatch was found in the current frame (R213). -/
  dpStopped : List Nat := []
  /-- Descriptor changes since the last commit (R217). -/
  edits     : Nat := 0
  /-- A pending descriptor change: loop, descriptor, tick (R217). -/
  change    : Option (Nat × BitVec 512 × Nat) := .none
  inputs    : List (Nat × SpInput) := []
  channels  : List (Nat × Channel) := []
  /-- `TRC_LE_PASS.LAST`. -/
  passLast  : Nat := 0
  deriving DecidableEq, Repr

end Sys2Proof.Machine
end

