-- ==== Sys2Proof/Blocks/Move.lean ====
section
/-! DEFINITION. State of the move planner: moves, paths, parked mirrors, schedules and reflex entries (08). -/
namespace Sys2Proof.Machine

/-- The state of a path record (R229). -/
inductive PathState where
  | none | planning | planned | moving | settling | inService | failed | aborted
  deriving DecidableEq, Repr

/-- The path record of an input port (R252). -/
structure PathRec where
  out      : Nat := 0xFFFF
  state    : PathState := .none
  reason   : Nat := 0
  unverified : Bool := false
  unguarded  : Bool := false
  reflex     : Bool := false
  moveId   : Nat := 0
  readyTick : Nat := 0
  /-- `A_X`, `A_Y`, `B_X`, `B_Y`. -/
  targets  : List Int := []
  losses   : Nat := 0
  /-- The tick at which the last of its loops entered HOLD (R240). -/
  hTick    : Option Nat := .none
  /-- Counted readings since then, newest first (R240). -/
  counted  : List TapReading := []
  deriving DecidableEq, Repr

/-- A path in service, by its input port (R224, R248); one not listed is not in service. -/
structure Service where
  out      : Nat := 0xFFFF
  refPower : Option Nat := .none
  loss     : Bool := false
  /-- Consecutive low readings, and consecutive readings within `LOSS_DB` (R248). -/
  low      : Nat := 0
  good     : Nat := 0
  deriving DecidableEq, Repr

/-- One leg of a mirror's trajectory (R232): waypoint, limits of both axes, length in frames. -/
structure MirrorLeg where
  x     : Int
  y     : Int
  rateX : Nat
  accX  : Nat
  rateY : Nat
  accY  : Nat
  len   : Nat
  deriving DecidableEq, Repr

/-- The schedule of one mirror of a move (R232 to R235). -/
structure MirrorPlan where
  mirror : Nat
  /-- Tick at which its first leg begins. -/
  start  : Nat
  legs   : List MirrorLeg
  /-- It moves to its `PARK` values (R225). -/
  parked : Bool
  unguarded : Bool
  /-- Axes whose distance is not 0 in every leg (R233). -/
  axisX  : Bool := true
  axisY  : Bool := true
  /-- Legs begun, and the tick at which the next leg begins or the last one has ended. -/
  begun  : Nat := 0
  nextAt : Nat := 0
  /-- Its last leg has ended. -/
  arrived : Bool := false
  /-- Its two loops have handed over to HOLD (R192). -/
  settled : Bool := false
  /-- It was aborted, and was then slewing or had not begun (R247). -/
  abortedM : Bool := false
  deriving DecidableEq, Repr

/-- The state of a move (R228). -/
inductive MoveState where
  | openS | planned | moving | settling | done | aborted | failed
  deriving DecidableEq, Repr

/-- A path that a move creates. -/
structure MovePath where
  inp   : Nat
  out   : Nat
  /-- 0 open, 1 ready, 2 failed, 3 aborted. -/
  state : Nat := 0
  deriving DecidableEq, Repr

/-- One move (R225 to R247). -/
structure Move where
  id       : Nat
  tag      : Nat := 0
  /-- 0 ORDER, 1 REFLEX. -/
  origin   : Nat := 0
  seat     : Nat := 0
  /-- Its seat has been reset since: its notices go to the Owner seat only (R425). -/
  gone     : Bool := false
  strict   : Bool := false
  blind    : Bool := false
  abortDl  : Bool := false
  startAt  : Nat := 0
  deadline : Nat := 0
  /-- Device times in ns that TIME_NS gives for `START` and `DEADLINE` (R40, R226). -/
  startNs  : Option Nat := .none
  deadlineNs : Option Nat := .none
  /-- The connections: input port, and output port or 0xFFFF (R226). -/
  conns    : List (Nat × Nat) := []
  state    : MoveState := .openS
  reason   : Nat := 0
  paths    : List MovePath := []
  mirrors  : List MirrorPlan := []
  /-- Loops that it holds (R230). -/
  holds    : List Nat := []
  /-- `MOV_SLEW_MAX.LIMIT` and `ZONE_R` + `SWEEP_MARGIN` as planning began (R254). -/
  limit    : Nat := 1024
  zone     : Nat := 576
  tTakeup  : Nat := 0
  tPlanned : Nat := 0
  tStart   : Nat := 0
  tEnd     : Nat := 0
  /-- Predicted end tick (R236). -/
  endTick  : Nat := 0
  lmax     : Nat := 0
  waves    : Nat := 0
  missed   : Bool := false
  /-- The planning of the move is in progress (R230). -/
  planning : Bool := false
  /-- Known only from the twin's schedule: received whole or in part (R237). -/
  fromTwin : Bool := false
  whole    : Bool := true
  /-- A part arrived after the end of frame P + 1, so that the schedule is not received whole (R237). -/
  late     : Bool := false
  /-- The frame in which the SCHED stream taken in began (R237, R399). -/
  stream   : Nat := 0
  /-- SCHED parts received so far. -/
  parts    : List Nat := []
  /-- A reflex move: the watched path, which leaves service at its start (R251). -/
  watched  : Option (Nat × Nat) := .none
  deriving DecidableEq, Repr

/-- The run-time state of one FALLBACK entry (R249, R250). -/
structure Reflex where
  fired     : Bool := false
  unguarded : Bool := false
  low       : Nat := 0
  deriving DecidableEq, Repr

/-- What the path records of the Halls show: the values of the last tick at which they were rewritten (R252). -/
structure PathView where
  paths    : List (Nat × PathRec) := []
  service  : List (Nat × Service) := []
  taps     : List (Nat × TapReading) := []
  /-- Input ports whose path an armed FALLBACK entry watches (WATCHED). -/
  watched  : List Nat := []
  deriving DecidableEq, Repr

/-- The move block's state. -/
structure MoveBlock where
  nextId   : Nat := 1
  moves    : List (Nat × Move) := []
  paths    : List (Nat × PathRec) := []
  service  : List (Nat × Service) := []
  reflexes : List (Nat × Reflex) := []
  /-- The newest tap reading of each output port, and the ports read in this frame (R170). -/
  taps     : List (Nat × TapReading) := []
  tapNow   : List (Nat × TapReading) := []
  /-- The FALLBACK entries are to be checked against R234 at the coming tick (R250). -/
  recheck  : Bool := false
  /-- Schedules continued and moves lost at the last takeover (R397). -/
  heldAt   : Nat := 0
  lostAt   : Nat := 0
  /-- Ticks at which the path records were rewritten: `SEQ` of every record is twice this number (R252). -/
  rewrites : Nat := 0
  /-- The path records as last rewritten. -/
  view     : PathView := {}
  deriving DecidableEq, Repr

end Sys2Proof.Machine
end

