-- ==== Sys2Proof/Blocks/Cell.lean ====
section
/-! DEFINITION. The cells the unit sends, and the parts of the streams between the units of a pair (11, R336). -/
namespace Sys2Proof
open Sys2Proof.Machine

/-- One SCHED part (R237, R336): the move it belongs to and what it makes known of the schedule. -/
structure SchedPart where
  move   : BitVec 32
  tag    : BitVec 32
  part   : Nat
  parts  : Nat
  /-- The frame in which the stream begins: the tick P of R237, or the frame of R399. -/
  planned : Nat
  start  : Nat
  blind  : Bool
  paths  : List (Nat × Nat)
  mirrors : List MirrorPlan
  deriving DecidableEq, Repr

/-- One whole piece of a RESYNC stream (R399, R446). -/
inductive ResyncPart where
  | contexts (batch : Nat) (ls : List (Nat × Loop))
  | table (id : Nat) (bytes : List (Nat × Byte))
  /-- A bundle forwarded by the twin has arrived whole: its length and its nonzero bytes by offset. -/
  | bundle (len : Nat) (bytes : List (Nat × Byte))
  /-- The rejoining unit asks for the stream to go on at a batch (R399, log 17). -/
  | again (batch : Nat)
  deriving DecidableEq, Repr

/-- A cell the unit sends (R320), by its type. Class and payload bytes follow from it (R320, R324 to R344). -/
inductive TxCell where
  | command (c : CommandCell)
  | time (t : TimeCell)
  /-- HOLD (R328): `THROUGH`, `EPOCH`, first loop, count (0 = every loop of the head), side, Guard event code. -/
  | hold (through epoch first count side cause : Nat)
  /-- CLAIM (R334): epoch, side, reason, frame. -/
  | claim (epoch side reason frame : Nat)
  | withdraw (w : WithdrawCell)
  | state (s : StateCell)
  /-- MGMT HELLO (R338): side, porch, plan number. -/
  | hello (side porch planId : Nat)
  /-- MGMT REQ (R338): the record asked for. -/
  | req (record : Nat)
  | config (c : ConfigMsg)
  /-- MGMT RESET (R338). -/
  | headReset
  /-- MGMT IMG_DATA (R338, R447): a whole message by its relay header: `OP`, `IMAGE_LEN`, `ACT_TICK`; the image is opaque. -/
  | imgData (op len actTick : Nat)
  /-- ECHO request (R333): its number and the device stamp of its first bit, 2^-16 ns. -/
  | echo (id tx : Nat)
  /-- LANE (R343): operation, lane, result, `LSEQ`. -/
  | lane (op lane result lseq : Nat)
  /-- SCHED (R336, R237): one part of the schedule of a move. -/
  | sched (p : SchedPart)
  /-- RESYNC (R336, R399, R446): one whole piece of a stream. -/
  | resync (p : ResyncPart)
  deriving DecidableEq, Repr

end Sys2Proof
end

