-- ==== Sys2Proof/Blocks/Lane.lean ====
section
/-! DEFINITION. State of lane calibration and laser fade (12). Each default value is the reset value. -/
namespace Sys2Proof.Machine

/-- The state of a receive lane (R353). -/
inductive LaneState where
  | down | inService | cal | spared | replaced | shed | compatOut | carrying
  deriving DecidableEq, Repr

/-- The calibration values of a lane (R351, R361): CTLE code, CDR offset, taps and slicers. -/
structure CalValues where
  ctle   : Nat := 0
  cdr    : Int := 0
  ffe    : List Int := []
  dfe    : List Int := []
  slicer : List Int := []
  deriving DecidableEq, Repr

/-- One receive lane (R353 to R368). Lane l of porch p is listed under 16p + l. -/
structure Lane where
  state    : LaneState := .down
  /-- Values in force, old values and targets of a run. -/
  vals     : CalValues := {}
  old      : CalValues := {}
  target   : CalValues := {}
  /-- Region temperature recorded at the last run or training, 1/256 °C, and the tick at which the run ended. -/
  runT     : Int := 0
  runFrame : Nat := 0
  queued   : Bool := false
  runs     : Nat := 0
  calResult : Nat := 0
  spareWanted : Bool := false
  baseOk   : Bool := false
  baseline : Nat := 0
  /-- Frames into baseline formation and the sum of A over them (R364). -/
  baseFrames : Nat := 0
  baseSum  : Nat := 0
  /-- A write to BASELINE that takes effect at the next tick. -/
  baseWrite : Option Nat := .none
  /-- 0 none, 1 Watch, 2 Spare, 3 Shed (R365). -/
  level    : Nat := 0
  f1       : Int := 0
  f64      : Int := 0
  /-- Fade of the frames in the 64-frame window, newest first. -/
  fades    : List Int := []
  /-- Corrected bits of the frames in the window, newest first. -/
  corr     : List Nat := []
  /-- Codeword lock was lost in this frame outside a run (R527). -/
  lockLost : Bool := false
  /-- Consecutive correctable, and consecutive uncorrectable, codewords (R313). -/
  goodCw   : Nat := 0
  badCw    : Nat := 0
  /-- Cell delineation is lost until the next correctable codeword (R313). -/
  undelin  : Bool := false
  /-- A lane that a LOCK_FAILED run left SPARED (R357). -/
  lockFailed : Bool := false
  /-- The lane has values: training adapted them or RESTORE brought them (R351, R362). -/
  hasVals  : Bool := false
  /-- What a read of the calibration record shows: the values in force with their temperature and tick, as of the last tick, none
  before values exist (R361). -/
  shown    : Option (CalValues × Int × Nat) := .none
  deriving DecidableEq, Repr

/-- The phase of a porch's calibration run (R372). -/
inductive CalPhase where
  | idle | mirroring | adapt | ramp | unmirroring | lockWait | compat
  deriving DecidableEq, Repr

/-- The calibration run of a porch (R355 to R359). -/
structure CalRun where
  phase   : CalPhase := .idle
  lane    : Nat := 15
  /-- The tick a at which the turn of the lane came. -/
  start   : Nat := 0
  /-- Ramp steps applied. -/
  step    : Nat := 0
  /-- Frame in which SHED_DONE of a run in MH-3000 mode arrived (R359). -/
  shedAt  : Nat := 0
  /-- The run is a RESTORE: no adaptation (R362). -/
  restore : Bool := false
  /-- The run is in MH-3000 mode (R359). -/
  compat  : Bool := false
  /-- Tick of the loss of lock in the run, and consecutive frames of lock since (R357). -/
  lostAt  : Nat := 0
  heldFor : Nat := 0
  /-- Result the run ends with when it unmirrors. -/
  result  : Nat := 1
  /-- Lane 8 carries the duplicate of this lane since the last tick, 15 none (R372). -/
  carries : Nat := 15
  /-- Region temperature of the porch, 1/256 °C. -/
  regionT : Int := 0
  opResult : Nat := 0
  /-- Result to be shown at the tick after take-up (R370). -/
  opNext  : Option Nat := .none
  /-- Operation and lane written in this frame (R370, R497); operation 0 none. -/
  op      : Nat × Nat := (0, 0)
  /-- LANE requests waiting for the outstanding one: operation and lane, oldest first (R366). -/
  requests : List (Nat × Nat) := []
  /-- Lanes whose run ended NO_ANSWER, taken after the other queued lanes (R356). -/
  deferred : List Nat := []
  /-- An answer has arrived that takes effect at the next tick: operation and lane. -/
  answered : List (Nat × Nat) := []
  deriving DecidableEq, Repr

end Sys2Proof.Machine
end

