-- ==== Sys2Proof/Blocks/Plan.lean ====
section
/-! DEFINITION. State of the plan: the candidate and committed images with their sections, the tables and their banks, and
the commit in progress (03). -/
namespace Sys2Proof.Machine

/-- One entry of LANES (03 LANES table). -/
structure LaneEntry where
  /-- 0 NONE, 1 IMAGER, 2 DRIVE, 3 TAP, 4 LANDING, 5 MONITOR. -/
  role     : Nat := 0
  headType : Nat := 0
  headId   : Nat := 0
  first    : Nat := 0
  count    : Nat := 0
  edge     : Nat := 0
  bits     : Nat := 0
  deriving DecidableEq, Repr

/-- One sensing entry of ESTIM (R152). -/
structure SenseEntry where
  porch     : Nat
  expose    : Nat
  streamOff : Nat
  window    : Nat
  deriving DecidableEq, Repr

/-- One table of the TABLES section (03 TABLES table, R62). `bytes` lists the nonzero contents by offset. -/
structure TableDesc where
  id        : Nat
  kind      : Nat
  loc       : Nat
  flags     : Nat
  entrySize : Nat
  count     : Nat
  dataOff   : Nat
  bankBytes : Nat
  crc       : Nat
  bytes     : List (Nat × Byte)
  deriving DecidableEq, Repr

/-- A table of the committed plan with its two banks (R62, R81 to R86). -/
structure PlanTable where
  desc     : TableDesc
  /-- Committed bank: 0 A, 1 B. -/
  active   : Nat := 0
  /-- Nonzero bytes of the committed bank. -/
  bank     : List (Nat × Byte) := []
  /-- The committed bank holds contents; an EXTERNAL table may start EMPTY (R62). -/
  loaded   : Bool := true
  /-- Nonzero bytes of the inactive bank. -/
  other    : List (Nat × Byte) := []
  /-- State of the inactive bank (R81): 0 EMPTY, 1 CLEAN, 2 WRITING, 3 READY, 4 SWAP_PENDING. -/
  inactive : Nat := 0
  /-- 0 none, 1 Owner seat, 2 job, 3 patch. -/
  writer   : Nat := 0
  writerJob : Nat := 0
  /-- A COPY_ACTIVE copy is running (R82). -/
  copying  : Bool := false
  result   : Nat := 0
  gen      : Nat := 0
  /-- Tick at which the last swap or revert took effect (R86). -/
  lastTick : Nat := 0
  /-- An accepted swap or revert: its tick and its place in the order of take-up (R84 to R86). -/
  swapAt   : Option (Nat × Nat) := .none
  deriving DecidableEq, Repr

/-- One shelf record of SHELVES (R303). -/
structure ShelfRec where
  shelf     : Nat
  prodKind  : Nat
  prodIndex : Nat
  consKind  : Nat
  consIndex : Nat
  swapMode  : Nat
  cls       : Nat
  notice    : Nat
  minPages  : Nat
  maxPages  : Nat
  swapWords : Nat
  staleUs   : Nat
  deriving DecidableEq, Repr

/-- One job record of JOBS (R117), or of a JOB_START order (R119). -/
structure JobRec where
  job      : Nat
  /-- Seat that may stop, park and resume it, or its submitting seat; 0xFF none. -/
  seat     : Nat
  weight   : Nat
  /-- [0] AUTOSTART, [1] RESTART_ON_FAULT, [2] CELLAR, [3] USE_MASK. -/
  flags    : Nat
  /-- Service program, 0 for a user job. -/
  service  : Nat
  /-- Tile mask, and the number of tiles. -/
  tiles    : Nat
  count    : Nat
  scratch  : Nat
  gddr7Kb  : Nat
  tables   : List Nat
  digest   : Nat
  args     : List Nat
  imgOff   : Nat
  imgLen   : Nat
  deriving DecidableEq, Repr

/-- A Frame-class transfer between the dies of two stages (R102); stage 4 stands for the IOD. The end of `stage` waits for it. -/
structure Transfer where
  stage : Nat
  src   : Nat
  dst   : Nat
  bytes : Nat
  deriving DecidableEq, Repr

/-- A placement: variant 0 of ESTIM and JOBS, or a record of PLACE (R64). -/
structure Placement where
  /-- Tiles required, bit 32d + t for CDd.Tt. -/
  mask    : Nat := 0
  /-- First refusal code, 0 usable (`PLN_VAR_FAIL`). -/
  fail    : Nat := 0
  /-- Estimation stage of each Sense tile. -/
  stages  : List (Nat × Nat) := []
  /-- Frame-critical scratch bytes of each tile. -/
  scratch : List (Nat × Nat) := []
  /-- Tiles of the resident and service jobs, by job number. -/
  jobs    : List (Nat × Nat) := []
  /-- Worst-case end cycle of each stage under a variant, from the static schedule of its programs alone (R63, R64). -/
  ends    : List (Nat × Nat) := []
  /-- Frame-class transfers of a frame, in the order in which they are charged (R102), and the Frame-class GDDR7 copies of each stage
  (R263). -/
  moves   : List Transfer := []
  gddr7   : List (Nat × Nat) := []
  deriving DecidableEq, Repr

/-- What the validator derives from the parts of an image that are in Gorlith's encoding (R63, R64, R72). -/
structure Figures where
  /-- Worst-case end cycle of each stage under variant 0, from the static schedule of the tile programs alone. -/
  stageEnds : List (Nat × Nat) := []
  /-- Pinned GDDR7 of ESTIM, KB (R259). -/
  pinnedKb  : Nat := 0
  /-- Frame-critical data placed in GDDR7 outside pinned pages, KB (R262). -/
  unpinnedKb : Nat := 0
  /-- Frame-critical objects placed in the Cellar. -/
  cellarObjs : List Nat := []
  /-- Variant 0, and the variant records of PLACE with the first refusal code of each. -/
  place0    : Placement := {}
  places    : List Placement := []
  /-- Preload frames of a ROLLING candidate and bridge frames of a BRIDGED one (R72). -/
  preload   : Nat := 0
  bridge    : Nat := 1
  /-- Data of JOBS and weight objects that do not fit where the image places them, KB, and the Bulk cost per mille (R70); tables are
  counted from the image. -/
  spillKb   : Nat := 0
  bulkCost  : Nat := 0
  /-- Jobs whose memory does not fit (R280) and jobs of a tile whose contexts or pages do not fit (R118). -/
  badJobs   : List Nat := []
  deriving DecidableEq, Repr

/-- The resources in service at the tick at which a validation or a commit is taken up, with the settings it runs under
(R57, R68, R70). -/
structure Resources where
  dps     : List Nat := []
  /-- Validation width of each porch (R63). -/
  widths  : List Nat := []
  /-- Pantry plan pages in service (R285). -/
  pantry  : Nat := 0
  /-- GDDR7 devices in service. -/
  devices : Nat := 0
  lost    : List Nat := []
  /-- Stair hops that are down (R101). -/
  hops    : List Nat := []
  signed  : Bool := false
  spill   : Bool := true
  deriving DecidableEq, Repr

/-- The sections of an image as the device reads them (R54 to R64). -/
structure Plan where
  /-- 0 FULL, 1 PATCH. -/
  kind     : Nat := 0
  planId   : Nat := 0
  base     : Nat := 0
  digest   : Nat := 0
  required : Nat := 0
  frame    : FrameCfg := {}
  lanes    : List LaneEntry := []
  /-- Descriptors by loop; a loop not listed has the all-zero descriptor, `CLASS` OFF. -/
  loops    : List (Nat × BitVec 512) := []
  tables   : List TableDesc := []
  senses   : List SenseEntry := []
  shelves  : List ShelfRec := []
  jobs     : List JobRec := []
  place0   : Placement := {}
  places   : List Placement := []
  deriving DecidableEq, Repr

/-- One refusal (R71, R90). -/
structure Refusal1 where
  code   : Nat
  unit   : Nat
  loc    : Nat
  excess : Nat
  deriving DecidableEq, Repr

/-- The load of an EXTERNAL table from the Cellar (R62, R278): contents by offset, the beats received, and a fault. -/
structure TableLoad where
  bytes  : List (Nat × Byte) := []
  beats  : List Nat := []
  failed : Bool := false
  deriving DecidableEq, Repr

/-- `PLN_STATUS.STATE` (R90). -/
inductive PlanState where
  | idle | validating | valid | refused | scheduled | preload | bridge
  deriving DecidableEq, Repr

/-- The plan block's state. -/
structure PlanBlock where
  st         : PlanState := .idle
  /-- The image copied into the candidate store, nonzero bytes by offset, and its length (R66). -/
  image      : List (Nat × Byte) := []
  imageLen   : Nat := 0
  /-- Resources and settings at the take-up of the running validation (R68). -/
  res        : Resources := {}
  /-- The validated candidate, the PATCH or FULL image as it stands, and what the validator derived from it. -/
  cand       : Option Plan := .none
  fig        : Figures := {}
  /-- The running validation has ended: its figures, for the coming tick (R66). -/
  valEnd     : Option Figures := .none
  /-- Class of the candidate (R72), 0 none. -/
  candKind   : Nat := 0
  preload    : Nat := 0
  bridge     : Nat := 0
  refusals   : List Refusal1 := []
  refuseCount : Nat := 0
  cmdResult  : Nat := 0
  valDigest  : Nat := 0
  /-- NEED and AVAIL of the three budgets (R63). -/
  sense      : Nat × Nat := (0, 0)
  loopB      : Nat × Nat := (0, 0)
  emit       : Nat × Nat := (0, 0)
  spillKb    : Nat := 0
  bulkCost   : Nat := 0
  /-- Tables of the candidate that spill to GDDR7 (R70). -/
  spilled    : List Nat := []
  varFail    : List Nat := []
  /-- The scheduled commit's tick and FORCE (R73). -/
  commitAt   : Nat := 0
  force      : Bool := false
  /-- The tick at which the scheduled COMMIT was taken up (R74). -/
  commitTaken : Nat := 0
  /-- First frame governed by the new plan while a bridge runs (R76). -/
  bridgeEnd  : Nat := 0
  /-- A plan has been committed (R17). -/
  committed  : Bool := false
  plan       : Plan := {}
  /-- Committed plan digest (R56). -/
  digest     : Nat := 0
  planId     : Nat := 0
  commitFrame : Nat := 0
  tables     : List (Nat × PlanTable) := []
  /-- Loads of EXTERNAL tables for the commit to come, by `TABLE_ID`. -/
  loads      : List (Nat × TableLoad) := []
  /-- Last frame in which loops whose estimates pass through a lost tile send no command (R88). -/
  excuseTo   : Option Nat := .none
  /-- Claims of jobs that await the next tick: job, table, COPY_ACTIVE (R82). -/
  jobClaims  : List (Nat × Nat × Bool) := []
  /-- The table number of the last operation that named no table (R90). -/
  noTable    : Option Nat := .none
  /-- Swaps taken up so far, for the order of R86. -/
  swapSeq    : Nat := 0
  /-- Placement in force (0 to 4), and one selected for tick k + 2 (R88). -/
  variant    : Nat := 0
  switchAt   : Option (Nat × Nat) := .none
  /-- A tile was lost in the current frame and the placement is to be selected at the next tick (R88). -/
  selectNow  : Bool := false
  /-- No usable variant: the affected loops freeze at this tick on a Solo unit (R89). -/
  freezeAt   : Option Nat := .none
  /-- The cause NO_VARIANT holds, until a FULL commit takes effect (R490). -/
  noVariant  : Bool := false
  deriving DecidableEq, Repr

end Sys2Proof.Machine
end

