-- ==== Sys2Proof/Syntax.lean ====
section
/-! DEFINITION. The commands: one constructor of `Instr` for each row of spec/opcode_table.json, with the operands that the
outside world (a host, a head, the twin, a module, a sensor) or the instant of the event supplies. -/
namespace Sys2Proof
open Sys2Proof.Machine

/-- Who asks for a job control or an abort: the Owner's register, or an order in a slot of a seat (R119, R245). -/
inductive CtlSource where
  | register
  | order (seat : BitVec 3) (slot : BitVec 12)
  deriving DecidableEq, Repr

/-- What the outside gives the unit at a tick: the sensor readings of the frame that ends, the conversions and amplitude
statistics completed in it, and what its work consumed. -/
structure TickIn where
  /-- Correction that steering asks for in the frame that ends, cycles (R18). -/
  steer   : Int := 0
  /-- Conversions that the set-point inputs completed in the frame that ends, by input, oldest first (R198). -/
  analog  : List (Nat × List Int) := []
  /-- Die readings, 1/256 °C: 0 to 3 CD0 to CD3, 4 IOD (R483). -/
  temps   : List (Nat × Int) := []
  /-- IOD region readings by porch, 1/256 °C (R354). -/
  regions : List (Nat × Int) := []
  /-- Supply readings, mV (R493). -/
  vdd     : List (Nat × Nat) := []
  /-- Package power averaged over 10 ms, W (R487). -/
  pkgW    : Nat := 0
  /-- Estimated power of a job's work, W (R487). -/
  jobW    : List (Nat × Nat) := []
  /-- Amplitude statistic A in 1/16 mV and corrected bits of a lane (porch, lane, A, bits) (R363, R365). -/
  fades   : List (Nat × Nat × Nat × Nat) := []
  /-- Tile-cycles that a job's contexts ran in the frame that ends (R126). -/
  ran     : List (Nat × Nat) := []
  /-- Cycles of the loop pass of the frame that ends (R223). -/
  pass    : Nat := 0
  /-- Words of tile scratch that were corrected in the frame that ends (R97), and flits sent again on the Stair (R100). -/
  scratchFixed : Nat := 0
  retries : Nat := 0
  /-- Loops whose context had an error corrected in the frame that ends, one entry for each error, oldest first (R212). -/
  stateFixed : List (BitVec 14) := []
  deriving DecidableEq, Repr

/-- The network's FP32 outputs for one mirror (R161, R164). -/
structure NetOut where
  mirror  : BitVec 13
  x       : BitVec 32
  y       : BitVec 32
  conf    : BitVec 32
  energy  : BitVec 32
  /-- The tile of the heads stage that converts the outputs (R148, R164). -/
  tile    : BitVec 7
  deriving DecidableEq, Repr

/-- A copy descriptor (R103 to R106). A row of 0 bytes is a plain copy. -/
structure CopyDesc where
  src      : BitVec 48
  dst      : BitVec 48
  len      : BitVec 32
  row      : BitVec 32
  srcPitch : BitVec 32
  dstPitch : BitVec 32
  frame    : Bool
  deriving DecidableEq, Repr

/-- What a read finds in the code of the word it reads (R292). -/
inductive WordCheck where
  | good | corrected | uncorrectable
  deriving DecidableEq, Repr

/-- How the memory or the Cellar answered a beat (R263 to R266, R270). -/
inductive BeatOutcome where
  /-- The source was read; a Cellar source delivered these bytes. -/
  | ok (cellar : List Byte)
  /-- A line of this page was corrected. -/
  | corrected (page : BitVec 24)
  /-- A line of this unprotected page is uncorrectable. -/
  | unprotected (page : BitVec 24)
  /-- One copy of a line of this protected page is uncorrectable; `again`: also after the rewrite. -/
  | oneCopy (page : BitVec 24) (again : Bool)
  /-- Both copies of a line of this protected page are uncorrectable: line `n` of the page. -/
  | bothCopies (page : BitVec 24) (n : BitVec 6)
  /-- A line of this page as the device gave it: the bytes that its on-die report calls bad, and its 64 data bytes with the two check
  bytes (R256). -/
  | code (page : BitVec 24) (report : List (Fin 66)) (line : List Byte)
  /-- The source is a shelf; the words of the copy, by place, that were corrected or uncorrectable (R292, R299). -/
  | words (checks : List (Nat × WordCheck))
  /-- The Cellar answered Unsupported Request or Completer Abort. -/
  | cellarAbort
  /-- The beat was issued before the tick that took up the Cellar window in force, and finishes against the old one, which delivered these
  bytes (R277). -/
  | oldWindow (cellar : List Byte)
  /-- A beat of the load of an EXTERNAL table, which no context issued: its bytes, or a Cellar fault (R62, R278). -/
  | tableLoad (table : BitVec 16) (bytes : List Byte)
  | tableFault (table : BitVec 16)
  deriving DecidableEq, Repr

/-- One application that a module advertises (R345): its lanes on each side, and whether the qualified list names its host interface code. -/
structure AppAd where
  host   : Nat
  media  : Nat
  listed : Bool
  deriving DecidableEq, Repr

/-- What a producer does to a shelf (R289 to R291). -/
inductive ShelfOp where
  | word (w : Word)
  | abort
  deriving DecidableEq, Repr

/-- The route the planner chose for one mirror (R232 to R235): its waypoints, the last of them the target, the delay of its
first leg after the start tick. -/
structure Route where
  mirror    : BitVec 13
  delay     : Nat
  way       : List (Int × Int)
  deriving DecidableEq, Repr

/-- What the patrol scrubber finds in a line (R268). -/
inductive ScrubResult where
  | clean | corrected
  /-- Uncorrectable in the copy read; `again`: a protected page's line also after it was rewritten from the other copy (R263). -/
  | uncorrectable (again : Bool)
  /-- Both copies of a protected page's line are uncorrectable (R264). -/
  | bothCopies
  /-- The line as the device gave it (R256). -/
  | code (report : List (Fin 66)) (line : List Byte)
  deriving DecidableEq, Repr

/-- What a job's runtime does with a table (R82). -/
inductive TableOp where
  | claim (copyActive : Bool)
  | ready
  | release
  deriving DecidableEq, Repr

/-- Why a received cell is dropped (R317), and the shelf packet of it that was open. -/
inductive DropCause where
  | crc | length | reservedType | wrongClass
  deriving DecidableEq, Repr

/-- A command of the block: a host access, a pin event, a received cell, or an event of one of its sequencers. -/
inductive Instr where
  -- Reset and boot
  | porAssert
  | porDeassert
  | configurationReady (ms : BitVec 32) (badDevs : List (Fin 16)) (badHops : List (Fin 5))
  | timebaseAbsent
  -- Hearth
  | tickZero
  | tick (x : TickIn)
  | ppsSecond
  | timebaseLoss
  | timebaseReturn
  | tickInEdge (offset : Int)
  | timeCellRx (c : TimeCell) (offset : Int)
  | alignmentStep (cycles : BitVec 21)
  | lockGained
  | referenceLost
  | epochArm
  | epochStep
  -- Frame and tiles
  | guardSlotStart (missed : List (BitVec 7))
  | yieldPoint (tile : BitVec 7)
  | forcedPreemption (tile : BitVec 7) (pc : BitVec 48)
  | contextSwitch (tile : BitVec 7) (job : BitVec 8)
  | emitDeadline
  | overrunFreeze (loop : BitVec 14)
  | lateFillSnapshot
  | cellClose (porch : BitVec 4) (cycle leaves : BitVec 21)
  -- Guard events
  | halt (lowNs : Nat)
  | lossOfLight (cage : Fin 18)
  | supervisorFatal
  | guardMismatch
  -- Plan
  | planValidate
  | validationEnd (fig : Figures)
  | planCommit (force : Bool)
  | planCancel
  | commitTakeEffect
  | bridgeEnd
  | tableClaim (copyActive : Bool)
  | copyActiveDone (table : BitVec 16)
  | tableReady
  | tableRelease
  | tableSwap
  | tableRevert
  | swapTakeEffect
  | tableWindowAccess (offset : BitVec 21) (w : Width) (data : Option Word)
  | placementSelect
  | variantSwitch
  -- Copies and memory faults
  | copyIssue (tile : BitVec 7) (queue : BitVec 2) (c : CopyDesc)
  | copyFence (tile : BitVec 7) (queues : BitVec 4)
  | beatComplete (tile : BitVec 7) (queue : BitVec 2) (beat : Option (BitVec 8) × Nat) (out : BeatOutcome)
  | cellarTimeout (tile : BitVec 7) (queue : BitVec 2) (beat : BitVec 8 × Nat)
  | retireSwitch (page : BitVec 24)
  | faultRetry (job : BitVec 8) (completes : Bool)
  | faultLimit (job : BitVec 8)
  | scratchUe (tile : BitVec 7) (page : BitVec 10)
  | partitionViolation (tile : BitVec 7) (frameCritical : Bool)
  | hopDown (hop : Fin 5)
  -- Jobs
  | jobStart (seat : BitVec 3) (slot : BitVec 12)
  | jobAdmitted (job : BitVec 8)
  | jobPark (src : CtlSource) (job : BitVec 8)
  | jobResume (src : CtlSource) (job : BitVec 8)
  | jobStop (src : CtlSource) (job : BitVec 8)
  | jobExit (job : BitVec 8) (code : BitVec 32)
  -- Sensing and estimation
  | patchCell (porch : BitVec 4) (expo : BitVec 32) (mirror : BitVec 13) (bit : BitVec 16) (pixels : List Byte)
  | tapCell (porch : BitVec 4) (tick : BitVec 32) (first : BitVec 12) (readings : List TapReading × WordCheck)
  | cutoff (mirrors : BitVec 13 × BitVec 14) (checks : List (BitVec 13 × WordCheck))
  | estimateLands (outs : List NetOut) (late : List (BitVec 14))
  | adaptCandidate (job : BitVec 8) (samples : BitVec 32)
  | adaptDone (committed candidate : BitVec 32)
  | rebuildRoundEnd (job : BitVec 8) (averages : List (Nat × Int × Int × Int × Int))
  -- Loops
  | loopCtlStart (loop : BitVec 14)
  | loopCtlOff (loop : BitVec 14)
  | loopCtlFreeze (loop : BitVec 14)
  | loopCtlRelease (loop : BitVec 14)
  | releaseAll (maxReason : BitVec 4)
  | setpointWrite (loop : BitVec 14) (v : BitVec 16)
  | handOver (loop : BitVec 14)
  | acquisitionComplete (loop : BitVec 14)
  | search (loop : BitVec 14)
  | acqTimeout (loop : BitVec 14)
  | warmUpEnd (loop : BitVec 14)
  | implausible (loop : BitVec 14)
  | stateEcc (loop : BitVec 14)
  | datapathMismatch (dp : BitVec 6)
  | descLoad
  | descWrite
  | descCancel
  | descTakeEffect
  | traceArm (channel : BitVec 6)
  | trigNow (channel : BitVec 6)
  | traceWrite (channel : BitVec 6) (count : BitVec 14)
  | stepEdge (input : BitVec 3) (up : Bool)
  | pwmPeriod (input : BitVec 3) (high period : BitVec 21)
  | pwmStale (input : BitVec 3)
  | clrCount (mask : BitVec 8)
  -- Moves
  | move (seat : BitVec 3) (slot : BitVec 12)
  | abort (src : CtlSource)
  | rearm (entry : BitVec 12)
  | rearmAll
  | planningStart
  | planningDone (routes : List Route) (loose failed : List (BitVec 13))
  | moveStart (id : BitVec 32)
  | legEnd (id : BitVec 32) (mirror : BitVec 13)
  | pathReady (port : BitVec 12)
  | settleTimeout (port : BitVec 12)
  | deadlineMissed (id : BitVec 32)
  | pathLoss (port : BitVec 12)
  | reflexTrip (entry : BitVec 12)
  | schedCell (p : SchedPart)
  -- Memory tiers
  | gddr7DeviceLost (dev : Fin 16)
  | cellarApply
  -- Shelves
  | shelfWrite (shelf : BitVec 10) (op : ShelfOp)
  | shelfSwap (shelf : BitVec 10)
  | shelfPop (seat : BitVec 3) (shelf : BitVec 10) (w : Width) (check : WordCheck)
  | staleTimer (shelf : BitVec 10)
  | flush (shelf : BitVec 10)
  | empty (shelf : BitVec 10)
  -- Link
  | codewordLock (porch : BitVec 4) (lane : Fin 9 × CalValues)
  | lockLoss (porch : BitVec 4) (lane : Fin 9)
  | lseqGap (porch : BitVec 4) (lseq : BitVec 16)
  | commandCell (c : CommandCell)
  | ackCell (porch : BitVec 4) (a : AckCell)
  | faultCell (porch : BitVec 4) (f : FaultCell)
  | grantCell (porch : BitVec 4) (g : GrantCell)
  | withdrawCell (w : WithdrawCell)
  | stateCell (c : StateCell)
  | healthCell (porch : BitVec 4) (h : HealthCell)
  | echoReply (porch : BitVec 4) (id : BitVec 32) (arrival : Nat) (turnPs : BitVec 32)
  | laneCell (porch : BitVec 4) (op : BitVec 8) (lane : BitVec 8) (result : BitVec 8) (lseq : BitVec 16)
  | resyncCell (p : ResyncPart)
  | ident (porch : BitVec 4) (m : IdentMsg)
  | windows (porch : BitVec 4) (origins : List (Nat × Nat))
  | holding (porch : BitVec 4) (entries : List (Nat × Int × Bool))
  | scale (porch : BitVec 4) (nw : BitVec 32)
  | configAck (porch : BitVec 4) (result : BitVec 8) (effective : BitVec 32)
  | imgResult (porch : BitVec 4) (result : BitVec 8)
  | porchLost (porch : BitVec 4)
  | rediscover (porch : BitVec 4)
  | headReset (porch : BitVec 4)
  | echoNow (porch : BitVec 4)
  -- Cages
  | moduleInsert (cage : Fin 18) (qualified : Bool) (modState : BitVec 8 × List AppAd)
  | moduleRemove (cage : Fin 18)
  | moduleInt (cage : Fin 18) (rxLos txLos modState : BitVec 8)
  | monitorPoll (cage : Fin 18) (temp : BitVec 16) (vcc : BitVec 16) (rx : List (BitVec 16))
  | probe (cage : Fin 18)
  | probeEnd (cage : Fin 18) (lit : BitVec 8)
  | lightReturn (cage : Fin 18) (lit : BitVec 8)
  | latchClear (cage : Fin 18)
  -- Lane health
  | calRunStart (porch : BitVec 4)
  | rampStep (porch : BitVec 4) (targets : CalValues)
  | noAnswer (porch : BitVec 4)
  | calLockRegained (porch : BitVec 4)
  | lockFailed (porch : BitVec 4)
  | compatApply (porch : BitVec 4) (targets : CalValues)
  | baselineFormed (porch : BitVec 4) (lane : Fin 9 × BitVec 16)
  | baselineWrite (porch : BitVec 4) (lane : Fin 9) (v : BitVec 16)
  | calNow (porch : BitVec 4) (lane : BitVec 4)
  | restore (porch : BitVec 4) (lane : BitVec 4)
  | laneReturn (porch : BitVec 4) (lane : BitVec 4)
  | calAbort (porch : BitVec 4)
  -- Twin
  | heartbeatEdge
  | heartbeatLost
  | claim (trigger : BitVec 4)
  | claimDecision
  | reassert
  | rejoin
  | resyncStart
  -- Seats and the CXL port
  | seatBound (seat : BitVec 3)
  | clearingDone (seat : BitVec 3)
  | seatReset (seat : BitVec 3) (unbind : Bool)
  | perst
  | linkDown
  | linkUp (x8 gt64 : Bool)
  | featureCommit (seat : BitVec 3)
  | slotWrite (seat : BitVec 3) (offset : BitVec 28) (bytes : List Byte)
  | ideFail
  | spdmRequest (ld : Fin 9) (r : SpdmReq)
  | ideKeyManagement (ld : Fin 9) (io mem : Bool)
  | mailboxCommand (seat : BitVec 3) (opcode : BitVec 16)
  | fmApiCommand (opcode : BitVec 16) (allocMb : BitVec 32)
  -- Trust and update
  | enrollKey
  | revokeKey
  | cupboardWriteDone
  | stage (pair : Bool)
  | stagingDone (flashOk : Bool)
  | activate (timeNs : Bool)
  | updateCancel
  | confirm
  | fallback
  | activation (migrationFails : Bool) (newSchema : BitVec 16)
  | restartEnd
  | selftestEnd (pass : Bool)
  | healthWindowEnd
  | fallbackTakeEffect
  -- Attic
  | coalesceWindowEnd (number : BitVec 48)
  | flashCommit (images : List (BitVec 48 × Option (List Byte)))
  | flashFail
  | opsecSave
  | atticRead
  | atticCancel
  | readDone
  -- Governor
  | shedClear
  | stepEnd
  | trip (die : Fin 5) (temp : BitVec 16)
  | tripStop
  | supplyFail (die : Fin 4)
  | iodSupplyFault
  | faultClear (mask : BitVec 13)
  -- Register accesses
  | timeNsRead (seat : BitVec 3) (offset : BitVec 22) (w : Width) (cycle : BitVec 21)
  | rcRead (seat : BitVec 3) (offset : BitVec 22) (w : Width)
  | registerWrite (seat : BitVec 3) (offset : BitVec 22) (w : Width) (v : Word)
  -- Further events
  | haltNDeasserted
  | iodSupplyReturn
  | uncorrectableCodeword (porch : BitVec 4) (lane : Fin 9)
  | cellDropped (porch : BitVec 4) (cause : DropCause) (mirror : Option (BitVec 13))
  | frameProgramEnd (tile : BitVec 7)
  | patrolScrub (page : BitVec 24) (r : ScrubResult)
  | pageZeroed (job : BitVec 8) (pages : BitVec 24)
  | jobTableClaim (job : BitVec 8) (table : BitVec 16) (op : TableOp)
  | channelRetraining (dev : Fin 16) (success : Bool)
  | linkRecovery
  deriving DecidableEq, Repr

end Sys2Proof
end

