-- ==== Sys2Proof/Config.lean ====
section
/-! DEFINITION. What the spec leaves open, and what it names without giving its inside. Every constant here is opaque: no proof
can see a value of it, so a statement about the model holds whatever it is. -/
namespace Sys2Proof.Config

/-- DESIGN CHOICE (log 3). A Boolean the spec leaves open, applied to the model's count of free values used so far. -/
opaque freeBool : Nat → Bool

/-- DESIGN CHOICE (log 3). A number the spec leaves open, applied to the model's count of free values used so far; the user of it
keeps the limit the spec sets. -/
opaque freeNat : Nat → Nat

/-- DESIGN CHOICE (log 3). A signed number the spec leaves open. -/
opaque freeInt : Nat → Int

/-- UNVERIFIED (log 4). SHAKE256 with 512-bit output over a byte string (R56), which the spec names and does not define. The
string is given by its length and its nonzero bytes by offset. -/
opaque shake256 : Nat → List (Nat × Byte) → Nat

/-- UNVERIFIED (log 4). Ed448 verification (R57, R441): context, key, signed digest, signature. -/
opaque ed448 : List Byte → List Byte → Nat → List Byte → Bool

/-- UNVERIFIED (log 4). The four firmware-key digests that Apior fused (R441); none where the revocation fuse is burned. -/
opaque fusedKey : Nat → Option Nat

/-- DESIGN CHOICE (log 5). The FM API's and the mailbox's answer bodies that CXL 3.1 defines and this spec does not: an
uninterpreted function of the opcode. -/
opaque cxlReply : Nat → List Nat

/-- DESIGN CHOICE (log 5). The contents of SPDM certificates, measurements and signatures of a unit: an uninterpreted function
of the request's kind, its index, the serial number and the manifest digest of the running slot. -/
opaque spdmReply : Nat → Nat → Nat → Nat → List Nat

/-- DESIGN CHOICE (log 55). The frame-critical contents that a plan gives a tile's scratch, in Gorlith's encoding: by plan digest, tile and
offset (R93, R96). -/
opaque fcByte : Nat → Nat → Nat → Byte

/-- DESIGN CHOICE (log 31). Where within the bound of R141 a result of the vector unit lies, in units of the last place: by operation and
operand, for one program on one tile repeats its bits (R149). -/
opaque vecUlp : Nat → Nat → Int

/-- DESIGN CHOICE (log 53). Data of cells that is not a user interface, such as the parts of a SCHED or RESYNC stream and of a head image
(R336, R338): by stream or message and offset. -/
opaque cellByte : Nat → Nat → Byte

/-- DESIGN CHOICE (log 24). The fixed transmit latency of a porch in core cycles, which step 4 of R63 names without a value. -/
opaque txLatency : Nat → Nat

end Sys2Proof.Config
end

