-- ==== Sys2Proof/Machine/Crc.lean ====
section
/-! DEFINITION. CRC-32C and the digests of byte strings: CRC-32C is the check of image sections, tables, lists and calibration records. PRESUMED (log 11): the spec names
it and gives no polynomial; this is the Castagnoli polynomial, reflected, with initial value and final XOR all ones. -/
namespace Sys2Proof.Machine

/-- One bit of the reflected CRC-32C register. -/
def crcBit (c : BitVec 32) : BitVec 32 := if c.getLsbD 0 then (c >>> 1) ^^^ 0x82F63B78#32 else c >>> 1

/-- One byte of the CRC-32C register. -/
def crcByte (c : BitVec 32) (b : Byte) : BitVec 32 :=
  crcBit (crcBit (crcBit (crcBit (crcBit (crcBit (crcBit (crcBit (c ^^^ b.setWidth 32))))))))

/-- CRC-32C of a byte string: initial value and final XOR all ones. -/
def crc32c (l : List Byte) : Nat := (l.foldl crcByte 0xFFFFFFFF#32 ^^^ 0xFFFFFFFF#32).toNat

/-- CRC-32C of `n` bytes from offset `o` of sparse contents. -/
def crcSparse (get : Nat → Byte) (o n : Nat) : Nat :=
  ((List.range n).foldl (fun c i => crcByte c (get (o + i))) 0xFFFFFFFF#32 ^^^ 0xFFFFFFFF#32).toNat

/-- The nonzero bytes of a string by offset, from offset `o`. -/
def sparse (o : Nat) : List Byte → List (Nat × Byte)
  | [] => []
  | b :: t => if b = 0 then sparse (o + 1) t else (o, b) :: sparse (o + 1) t

/-- SHAKE256-512 of a byte string. -/
def digestOf (l : List Byte) : Nat := Config.shake256 l.length (sparse 0 l)

/-- `KEY_ID` of a public key: the first 16 bytes of its SHAKE256-512 (R436, R440). -/
def keyIdOf (k : List Byte) : List Byte := leBytes 16 (digestOf k)

end Sys2Proof.Machine
end

