-- ==== Sys2Proof/Machine/Table.lean ====
section
/-! DEFINITION. Tables: lists of (key, value) pairs in ascending key order that list no entry equal to the reset value of its
key. Memory and every numbered group of like things are kept so; equal tables are equal lists. -/
namespace Sys2Proof.Machine

variable {α : Type}

/-- The entry of key `i`; one not listed has the reset value `d i`. -/
def tget (d : Nat → α) : List (Nat × α) → Nat → α
  | [], i => d i
  | (j, v) :: t, i => if j = i then v else tget d t i

/-- Put an entry in front of a table unless it equals the reset value. -/
def tcons [DecidableEq α] (d : Nat → α) (i : Nat) (v : α) (t : List (Nat × α)) : List (Nat × α) :=
  if v = d i then t else (i, v) :: t

/-- Write the entry of key `i`; the canonical form is kept. -/
def tset [DecidableEq α] (d : Nat → α) : List (Nat × α) → Nat → α → List (Nat × α)
  | [], i, v => tcons d i v []
  | (j, w) :: t, i, v =>
    if i < j then tcons d i v ((j, w) :: t)
    else if i = j then tcons d i v t
    else (j, w) :: tset d t i v

/-- Change the entry of key `i`. -/
def tupd [DecidableEq α] (d : Nat → α) (t : List (Nat × α)) (i : Nat) (f : α → α) : List (Nat × α) :=
  tset d t i (f (tget d t i))

/-- Change every listed entry; an entry that becomes its reset value is no longer listed. -/
def tmap [DecidableEq α] (d : Nat → α) (f : Nat → α → α) : List (Nat × α) → List (Nat × α)
  | [] => []
  | (i, v) :: t => tcons d i (f i v) (tmap d f t)

/-- Every key of a table is above `lo` (when given), keys rise, and no entry is the reset value of its key. -/
def twfFrom [DecidableEq α] (d : Nat → α) : Option Nat → List (Nat × α) → Bool
  | _, [] => true
  | lo, (i, v) :: t =>
    (match lo with | none => true | some l => decide (l < i)) && !decide (v = d i) && twfFrom d (some i) t

/-- The canonical form of a table. -/
def twf [DecidableEq α] (d : Nat → α) (t : List (Nat × α)) : Bool := twfFrom d none t

/-- Write consecutive entries from key `i`. -/
def tsetList [DecidableEq α] (d : Nat → α) (t : List (Nat × α)) (i : Nat) : List α → List (Nat × α)
  | [] => t
  | v :: vs => tsetList d (tset d t i v) (i + 1) vs

/-- The entries of keys `i` to `i + n - 1`. -/
def tgetList (d : Nat → α) (t : List (Nat × α)) (i n : Nat) : List α := (span i n).map (tget d t)

/-- The listed entries whose keys lie from `i` to `i + n - 1`, with their keys counted from `i`. -/
def tslice (t : List (Nat × α)) (i n : Nat) : List (Nat × α) :=
  (t.filter fun p => decide (i ≤ p.1) && decide (p.1 < i + n)).map fun p => (p.1 - i, p.2)

/-- Return every key from `i` to `i + n - 1` to its reset value. -/
def terase (t : List (Nat × α)) (i n : Nat) : List (Nat × α) :=
  t.filter fun p => !(decide (i ≤ p.1) && decide (p.1 < i + n))

/-- Keys of the listed entries that satisfy `p`. -/
def tkeys (p : α → Bool) (t : List (Nat × α)) : List Nat := (t.filter fun e => p e.2).map (·.1)

end Sys2Proof.Machine
end

