-- ==== Sys2Proof/Machine/RegMap.lean ====
section
/-! DEFINITION. The register map (18, R494 to R496): where each register lies, which of its bits are RW, W1C and RC (R5), and
what the stored bits hold at reset. Addresses are Owner BAR0 offsets; the page of seat s lies at 0x0100_0000 + 0x1_0000·s. -/
namespace Sys2Proof.Machine

-- SYS_
def Reg.SYS_ID : Nat := 0x0
def Reg.SYS_LINK : Nat := 0x10
def Reg.SYS_EVT : Nat := 0x20
def Reg.SYS_SEATs_CFG (i : Nat) : Nat := 0x100 + 64 * i
def Reg.SYS_SEATs_STATUS (i : Nat) : Nat := 0x108 + 64 * i
def Reg.SYS_SEATs_GRANT (i j : Nat) : Nat := 0x110 + 64 * i + 8 * j
-- HRT_
def Reg.HRT_CTL : Nat := 0x10000
def Reg.HRT_STATUS : Nat := 0x10008
def Reg.HRT_FRAME : Nat := 0x10010
def Reg.HRT_TIME_NS : Nat := 0x10018
def Reg.HRT_TIME_FRAC : Nat := 0x10020
def Reg.HRT_TICK_NS : Nat := 0x10028
def Reg.HRT_TICK_FRAC : Nat := 0x10030
def Reg.HRT_FRAME_CFG : Nat := 0x10038
def Reg.HRT_SLOT_SENSE : Nat := 0x10040
def Reg.HRT_SLOT_LOOP : Nat := 0x10048
def Reg.HRT_SLOT_EMIT : Nat := 0x10050
def Reg.HRT_SLOT_GUARD : Nat := 0x10058
def Reg.HRT_EPOCH_NS : Nat := 0x10060
def Reg.HRT_EPOCH_FRAC : Nat := 0x10068
def Reg.HRT_EPOCH_TICK : Nat := 0x10070
def Reg.HRT_TRIM : Nat := 0x10078
def Reg.HRT_TICKIN_CFG : Nat := 0x10080
def Reg.HRT_PHASE : Nat := 0x10088
def Reg.HRT_PPS_CFG : Nat := 0x10090
def Reg.HRT_OVR_STAT : Nat := 0x10098
def Reg.HRT_OVR_LAST : Nat := 0x100A0
def Reg.HRT_OVR_TOTAL : Nat := 0x100A8
def Reg.HRT_GUARD_STAT : Nat := 0x100B0
def Reg.HRT_EVT : Nat := 0x100B8
-- PLN_
def Reg.PLN_CTL : Nat := 0x20000
def Reg.PLN_CMD : Nat := 0x20008
def Reg.PLN_STATUS : Nat := 0x20010
def Reg.PLN_STAGE_OFF : Nat := 0x20018
def Reg.PLN_STAGE_LEN : Nat := 0x20020
def Reg.PLN_COMMIT_TICK : Nat := 0x20028
def Reg.PLN_ACTIVE_ID : Nat := 0x20030
def Reg.PLN_COMMIT_FRAME : Nat := 0x20038
def Reg.PLN_DIGEST (i : Nat) : Nat := 0x20040 + 8 * i
def Reg.PLN_VAL_DIGEST (i : Nat) : Nat := 0x20080 + 8 * i
def Reg.PLN_FEAT (i : Nat) : Nat := 0x200C0 + 8 * i
def Reg.PLN_BUDGET_SENSE : Nat := 0x200E0
def Reg.PLN_BUDGET_LOOP : Nat := 0x200E8
def Reg.PLN_BUDGET_EMIT : Nat := 0x200F0
def Reg.PLN_SPILL : Nat := 0x200F8
def Reg.PLN_REFUSE (i : Nat) : Nat := 0x20100 + 8 * i
def Reg.PLN_VAR_FAIL : Nat := 0x20180
def Reg.PLN_TBL_SEL : Nat := 0x20188
def Reg.PLN_TBL_CTL : Nat := 0x20190
def Reg.PLN_TBL_STATUS : Nat := 0x20198
def Reg.PLN_TBL_WIN : Nat := 0x201A0
def Reg.PLN_TBL_CRC : Nat := 0x201A8
def Reg.PLN_TBL_SWAP_TICK : Nat := 0x201B0
def Reg.PLN_EVT : Nat := 0x201B8
def Reg.PLN_TBL_TICK : Nat := 0x201C0
-- MOV_
def Reg.MOV_CTL : Nat := 0x30000
def Reg.MOV_STATUS : Nat := 0x30008
def Reg.MOV_READY_CFG : Nat := 0x30010
def Reg.MOV_SWEEP_CFG : Nat := 0x30018
def Reg.MOV_SLEW_MAX : Nat := 0x30020
def Reg.MOV_LOSS_CFG : Nat := 0x30028
def Reg.MOV_SEL : Nat := 0x30030
def Reg.MOV_INFO : Nat := 0x30038
def Reg.MOV_PATHS : Nat := 0x30040
def Reg.MOV_T_TAKEUP : Nat := 0x30048
def Reg.MOV_T_PLANNED : Nat := 0x30050
def Reg.MOV_T_START : Nat := 0x30058
def Reg.MOV_T_END : Nat := 0x30060
def Reg.MOV_CMD : Nat := 0x30068
def Reg.MOV_REFLEX_STAT : Nat := 0x30070
def Reg.MOV_PLAN_STAT : Nat := 0x30078
def Reg.MOV_HEAD_SLEW (i : Nat) : Nat := 0x30080 + 8 * i
def Reg.MOV_EVT : Nat := 0x300A0
-- TIL_
def Reg.TIL_CTL : Nat := 0x40000
def Reg.TIL_STATUS : Nat := 0x40008
def Reg.TIL_INSERV_LO : Nat := 0x40010
def Reg.TIL_INSERV_HI : Nat := 0x40018
def Reg.TIL_LOST_LO : Nat := 0x40020
def Reg.TIL_LOST_HI : Nat := 0x40028
def Reg.TIL_STAIR : Nat := 0x40030
def Reg.TIL_PREEMPT : Nat := 0x40038
def Reg.TIL_SCRATCH_ECC : Nat := 0x40040
def Reg.TIL_JOB_SEL : Nat := 0x40048
def Reg.TIL_JOB_STATUS : Nat := 0x40050
def Reg.TIL_JOB_CTL : Nat := 0x40058
def Reg.TIL_JOB_TIME : Nat := 0x40060
def Reg.TIL_JOB_TILES_LO : Nat := 0x40068
def Reg.TIL_JOB_TILES_HI : Nat := 0x40070
def Reg.TIL_JOB_COPY : Nat := 0x40078
def Reg.TIL_SEAT_QUOTA (i : Nat) : Nat := 0x40080 + 8 * i
def Reg.TIL_EVT : Nat := 0x400C0
def Reg.TIL_TILE (i : Nat) : Nat := 0x41000 + 8 * i
-- MEM_
def Reg.MEM_CTL : Nat := 0x50000
def Reg.MEM_STATUS : Nat := 0x50008
def Reg.MEM_CAP : Nat := 0x50010
def Reg.MEM_CELLAR_BASE : Nat := 0x50018
def Reg.MEM_CELLAR_SIZE : Nat := 0x50020
def Reg.MEM_CELLAR_CTL : Nat := 0x50028
def Reg.MEM_FAULT_CFG : Nat := 0x50030
def Reg.MEM_FAULT_INFO : Nat := 0x50038
def Reg.MEM_FAULT_ADDR : Nat := 0x50040
def Reg.MEM_FAULT_PROG : Nat := 0x50048
def Reg.MEM_ECC : Nat := 0x50050
def Reg.MEM_RETIRE : Nat := 0x50058
def Reg.MEM_EVT : Nat := 0x50060
def Reg.MEM_SEAT_QUOTA (i : Nat) : Nat := 0x50080 + 8 * i
def Reg.MEM_DEV (i : Nat) : Nat := 0x50100 + 8 * i
-- SHF_
def Reg.SHF_CFG (i : Nat) : Nat := 0x60000 + 64 * i
def Reg.SHF_ENDS (i : Nat) : Nat := 0x60008 + 64 * i
def Reg.SHF_STATUS (i : Nat) : Nat := 0x60010 + 64 * i
def Reg.SHF_WORDS (i : Nat) : Nat := 0x60018 + 64 * i
def Reg.SHF_POP (i : Nat) : Nat := 0x60020 + 64 * i
def Reg.SHF_ERR (i : Nat) : Nat := 0x60028 + 64 * i
def Reg.SHF_DROP (i : Nat) : Nat := 0x60030 + 64 * i
def Reg.SHF_EVT (i : Nat) : Nat := 0x60038 + 64 * i
-- PCH_
def Reg.PCH_STATUS : Nat := 0x70000
def Reg.PCH_CAGES : Nat := 0x70008
def Reg.PCH_EVT : Nat := 0x70010
def Reg.PCH_Pp_CTL (i : Nat) : Nat := 0x71000 + 128 * i
def Reg.PCH_Pp_STATUS (i : Nat) : Nat := 0x71008 + 128 * i
def Reg.PCH_Pp_HEAD (i : Nat) : Nat := 0x71010 + 128 * i
def Reg.PCH_Pp_DELAY (i : Nat) : Nat := 0x71018 + 128 * i
def Reg.PCH_Pp_RX (i : Nat) : Nat := 0x71020 + 128 * i
def Reg.PCH_Pp_PATCH (i : Nat) : Nat := 0x71028 + 128 * i
def Reg.PCH_Pp_TX (i : Nat) : Nat := 0x71030 + 128 * i
def Reg.PCH_Pp_CMD (i : Nat) : Nat := 0x71038 + 128 * i
def Reg.PCH_Pp_HEADSTAT (i : Nat) : Nat := 0x71040 + 128 * i
def Reg.PCH_Cc_STATUS (i : Nat) : Nat := 0x72000 + 32 * i
def Reg.PCH_Cc_MON (i : Nat) : Nat := 0x72008 + 32 * i
def Reg.PCH_Cc_RXPWR0 (i : Nat) : Nat := 0x72010 + 32 * i
def Reg.PCH_Cc_RXPWR1 (i : Nat) : Nat := 0x72018 + 32 * i
-- LNH_
def Reg.LNH_CTL : Nat := 0x80000
def Reg.LNH_STATUS : Nat := 0x80008
def Reg.LNH_EVT : Nat := 0x80010
def Reg.LNH_Pp_CTL (i : Nat) : Nat := 0x81000 + 64 * i
def Reg.LNH_Pp_STATUS (i : Nat) : Nat := 0x81008 + 64 * i
def Reg.LNH_Pp_Ll_STATUS (i j : Nat) : Nat := 0x82000 + 1024 * i + 64 * j
def Reg.LNH_Pp_Ll_FADE (i j : Nat) : Nat := 0x82008 + 1024 * i + 64 * j
def Reg.LNH_Pp_Ll_BER (i j : Nat) : Nat := 0x82010 + 1024 * i + 64 * j
def Reg.LNH_Pp_Ll_CAL0 (i j : Nat) : Nat := 0x82018 + 1024 * i + 64 * j
def Reg.LNH_Pp_Ll_CAL1 (i j : Nat) : Nat := 0x82020 + 1024 * i + 64 * j
def Reg.LNH_Pp_Ll_CAL2 (i j : Nat) : Nat := 0x82028 + 1024 * i + 64 * j
def Reg.LNH_Pp_Ll_CAL3 (i j : Nat) : Nat := 0x82030 + 1024 * i + 64 * j
def Reg.LNH_Pp_Ll_CAL4 (i j : Nat) : Nat := 0x82038 + 1024 * i + 64 * j
-- TWN_
def Reg.TWN_CTL : Nat := 0x90000
def Reg.TWN_STATUS : Nat := 0x90008
def Reg.TWN_EPOCH : Nat := 0x90010
def Reg.TWN_CLAIM : Nat := 0x90018
def Reg.TWN_CLAIM_FRAME : Nat := 0x90020
def Reg.TWN_TWIN : Nat := 0x90028
def Reg.TWN_TAKEOVER : Nat := 0x90030
def Reg.TWN_HB : Nat := 0x90038
def Reg.TWN_RELAY : Nat := 0x90040
def Reg.TWN_MOVES : Nat := 0x90048
def Reg.TWN_EVT : Nat := 0x90050
-- UPD_
def Reg.UPD_CTL : Nat := 0xB0000
def Reg.UPD_CMD : Nat := 0xB0008
def Reg.UPD_STATUS : Nat := 0xB0010
def Reg.UPD_STAGE_OFF : Nat := 0xB0018
def Reg.UPD_STAGE_LEN : Nat := 0xB0020
def Reg.UPD_ACT_TIME : Nat := 0xB0028
def Reg.UPD_ACT_EFFECTIVE : Nat := 0xB0030
def Reg.UPD_WINDOW_END : Nat := 0xB0038
def Reg.UPD_SVN : Nat := 0xB0040
def Reg.UPD_SLOTA : Nat := 0xB0048
def Reg.UPD_SLOTB : Nat := 0xB0050
def Reg.UPD_HEADS : Nat := 0xB0058
def Reg.UPD_KEY_OFF : Nat := 0xB0060
def Reg.UPD_KEYS : Nat := 0xB0068
def Reg.UPD_CUPBOARD : Nat := 0xB0070
def Reg.UPD_SERIAL : Nat := 0xB0078
def Reg.UPD_MANIFEST (i : Nat) : Nat := 0xB0080 + 8 * i
def Reg.UPD_EVT : Nat := 0xB00C0
-- ATT_
def Reg.ATT_CTL : Nat := 0xC0000
def Reg.ATT_STATUS : Nat := 0xC0008
def Reg.ATT_CMD : Nat := 0xC0010
def Reg.ATT_READ_OFF : Nat := 0xC0018
def Reg.ATT_READ_LEN : Nat := 0xC0020
def Reg.ATT_READ_FROM : Nat := 0xC0028
def Reg.ATT_READ_CFG : Nat := 0xC0030
def Reg.ATT_READ_RESULT : Nat := 0xC0038
def Reg.ATT_READ_NEXT : Nat := 0xC0040
def Reg.ATT_OLDEST : Nat := 0xC0048
def Reg.ATT_NEWEST : Nat := 0xC0050
def Reg.ATT_SPACE : Nat := 0xC0058
def Reg.ATT_COUNTS : Nat := 0xC0060
def Reg.ATT_OPSEC : Nat := 0xC0068
def Reg.ATT_CYCLES : Nat := 0xC0070
def Reg.ATT_EVT : Nat := 0xC0078
-- TRC_
def Reg.TRC_LE_CMD : Nat := 0xD0000
def Reg.TRC_LE_STATUS : Nat := 0xD0008
def Reg.TRC_LE_DP : Nat := 0xD0010
def Reg.TRC_LE_PASS : Nat := 0xD0018
def Reg.TRC_LE_ECC : Nat := 0xD0020
def Reg.TRC_LE_ACQ : Nat := 0xD0028
def Reg.TRC_LE_DSEL : Nat := 0xD0030
def Reg.TRC_LE_DCMD : Nat := 0xD0038
def Reg.TRC_LE_DESC (i : Nat) : Nat := 0xD0040 + 8 * i
def Reg.TRC_LE_DTICK : Nat := 0xD0080
def Reg.TRC_LE_EVT : Nat := 0xD0088
def Reg.TRC_SP_VAL (i : Nat) : Nat := 0xD00C0 + 8 * i
def Reg.TRC_SP_CTL : Nat := 0xD0100
def Reg.TRC_CHc_CFG (i : Nat) : Nat := 0xD1000 + 32 * i
def Reg.TRC_CHc_RING (i : Nat) : Nat := 0xD1008 + 32 * i
def Reg.TRC_CHc_TRIG (i : Nat) : Nat := 0xD1010 + 32 * i
def Reg.TRC_CHc_STAT (i : Nat) : Nat := 0xD1018 + 32 * i
-- THM_
def Reg.THM_CTL : Nat := 0xE0000
def Reg.THM_STATUS : Nat := 0xE0008
def Reg.THM_POWER : Nat := 0xE0010
def Reg.THM_DIE (i : Nat) : Nat := 0xE0018 + 8 * i
def Reg.THM_FAULT : Nat := 0xE0040
def Reg.THM_BOOT : Nat := 0xE0048
def Reg.THM_EVT : Nat := 0xE0050
-- LOOP_
def Reg.LOOP_CTL (i : Nat) : Nat := 0x100000 + 64 * i
def Reg.LOOP_SETPOINT (i : Nat) : Nat := 0x100008 + 64 * i
def Reg.LOOP_STATUS (i : Nat) : Nat := 0x100010 + 64 * i
def Reg.LOOP_CMD (i : Nat) : Nat := 0x100018 + 64 * i
def Reg.LOOP_EST (i : Nat) : Nat := 0x100020 + 64 * i
def Reg.LOOP_SUPV (i : Nat) : Nat := 0x100028 + 64 * i
def Reg.LOOP_STATE (i : Nat) : Nat := 0x100030 + 64 * i
def Reg.LOOP_COUNT (i : Nat) : Nat := 0x100038 + 64 * i
-- SEAT_
def Reg.SEAT_ID (i : Nat) : Nat := 0x1000000 + 65536 * i
def Reg.SEAT_FEAT_CMD (i : Nat) : Nat := 0x1000008 + 65536 * i
def Reg.SEAT_FEAT_OFFER (i j : Nat) : Nat := 0x1000010 + 65536 * i + 8 * j
def Reg.SEAT_FEAT_ACC (i j : Nat) : Nat := 0x1000030 + 65536 * i + 8 * j
def Reg.SEAT_FEAT_AGREED (i j : Nat) : Nat := 0x1000050 + 65536 * i + 8 * j
def Reg.SEAT_NTC_PROD (i : Nat) : Nat := 0x1000080 + 65536 * i
def Reg.SEAT_NTC_CONS (i : Nat) : Nat := 0x1000088 + 65536 * i
def Reg.SEAT_NTC_CFG (i : Nat) : Nat := 0x1000090 + 65536 * i
def Reg.SEAT_NTC_LOST (i : Nat) : Nat := 0x1000098 + 65536 * i
def Reg.SEAT_VEC_MAP (i j : Nat) : Nat := 0x10000A0 + 65536 * i + 8 * j
def Reg.SEAT_TIME_NS (i : Nat) : Nat := 0x1000100 + 65536 * i
def Reg.SEAT_TIME_FRAC (i : Nat) : Nat := 0x1000108 + 65536 * i
def Reg.SEAT_FRAME (i : Nat) : Nat := 0x1000110 + 65536 * i
def Reg.SEAT_TICK_NS (i : Nat) : Nat := 0x1000118 + 65536 * i
def Reg.SEAT_TICK_FRAC (i : Nat) : Nat := 0x1000120 + 65536 * i
def Reg.SEAT_HALL (i j : Nat) : Nat := 0x1000180 + 65536 * i + 8 * j
def Reg.SEAT_EVT (i : Nat) : Nat := 0x1000200 + 65536 * i

/-- One row of the map: registers at `base + s1·i + s2·j` for i < n1 and j < n2, their RW, W1C and RC bits, and the reset value
of the stored bits. -/
structure RegRow where
  base  : Nat
  s1    : Nat := 8
  n1    : Nat := 1
  s2    : Nat := 8
  n2    : Nat := 1
  rw    : Nat := 0
  w1c   : Nat := 0
  rc    : Nat := 0
  reset : Nat := 0
  deriving DecidableEq, Repr

/-- The address belongs to the row. -/
def RegRow.has (r : RegRow) (a : Nat) : Bool :=
  let o := a - r.base
  decide (r.base ≤ a) && decide (o / r.s1 < r.n1) && decide (o % r.s1 % r.s2 = 0) && decide (o % r.s1 / r.s2 < r.n2)

/-- Rows of the SYS_ block. -/
def regRowsSYS : List RegRow := [
  { base := 0x10, rc := 0xFFFFFFFF00000000 },
  { base := 0x20, w1c := 0x3F },
  { base := 0x100, s1 := 64, n1 := 8, rw := 0x103 },
  { base := 0x108, s1 := 64, n1 := 8, rc := 0xFFFFFFFF00000000 },
  { base := 0x110, s1 := 64, n1 := 8, s2 := 8, n2 := 4, rw := 0xC0000FFF00001FFF } ]

/-- Rows of the HRT_ block. -/
def regRowsHRT : List RegRow := [
  { base := 0x10000, rw := 0xE3, reset := 0x60 },
  { base := 0x10060, rw := 0xFFFFFFFFFFFFFFFF },
  { base := 0x10068, rw := 0xFFFF },
  { base := 0x10070, rw := 0xFFFFFFFFFFFFFFFF },
  { base := 0x10078, rw := 0xFFFFFFFF },
  { base := 0x10080, rw := 0xFFFF0000FFFF, reset := 0x1 },
  { base := 0x10090, rw := 0x1FF, reset := 0x64 },
  { base := 0x100A8, rc := 0xFFFFFFFFFFFFFFFF },
  { base := 0x100B0, rc := 0xFFFFFFFF0000FFFF },
  { base := 0x100B8, w1c := 0xFF } ]

/-- Rows of the PLN_ block. -/
def regRowsPLN : List RegRow := [
  { base := 0x20000, rw := 0x3, reset := 0x2 },
  { base := 0x20018, rw := 0xFFFFFFF },
  { base := 0x20020, rw := 0xFFFFFFF },
  { base := 0x20028, rw := 0xFFFFFFFFFFFFFFFF },
  { base := 0x20188, rw := 0xFFFF },
  { base := 0x201A0, rw := 0xFFFFFFFF },
  { base := 0x201A8, rw := 0xFFFFFFFF },
  { base := 0x201B0, rw := 0xFFFFFFFFFFFFFFFF },
  { base := 0x201B8, w1c := 0x3FF } ]

/-- Rows of the MOV_ block. -/
def regRowsMOV : List RegRow := [
  { base := 0x30000, rw := 0x7, reset := 0x3 },
  { base := 0x30010, rw := 0xFFFFFFFFFFFF000F, reset := 0x40010000400004 },
  { base := 0x30018, rw := 0xFFFFFFFF, reset := 0x2000040 },
  { base := 0x30020, rw := 0x7FF, reset := 0x400 },
  { base := 0x30028, rw := 0xFFFFF, reset := 0x20300 },
  { base := 0x30030, rw := 0xFFFFFFFF },
  { base := 0x30070, rc := 0xFFFFFFFF },
  { base := 0x30078, rc := 0xFFFF0000FFFFFFFF },
  { base := 0x300A0, w1c := 0x7F } ]

/-- Rows of the TIL_ block. -/
def regRowsTIL : List RegRow := [
  { base := 0x40000, rw := 0x3, reset := 0x1 },
  { base := 0x40030, rc := 0xFFFFFFFF00000000 },
  { base := 0x40038, rc := 0xFFFFFFFFFFFFFFFF },
  { base := 0x40040, rc := 0xFFFFFFFFFFFF0000 },
  { base := 0x40048, rw := 0xFF },
  { base := 0x40080, s1 := 8, n1 := 8, rw := 0xFF00FF0000FF, reset := 0xFF0080000020 },
  { base := 0x400C0, w1c := 0x3F } ]

/-- Rows of the MEM_ block. -/
def regRowsMEM : List RegRow := [
  { base := 0x50000, rw := 0x1, reset := 0x1 },
  { base := 0x50018, rw := 0xFFFFFFFFFFFFF000 },
  { base := 0x50020, rw := 0x7FFFFFFF000 },
  { base := 0x50028, rw := 0xFFFF0001, reset := 0x3E80000 },
  { base := 0x50030, rw := 0xFFFFFFFF0000FFFF, reset := 0x3E800000010 },
  { base := 0x50050, rc := 0xFFFFFFFFFFFFFFFF },
  { base := 0x50060, w1c := 0x7F },
  { base := 0x50080, s1 := 8, n1 := 8, rw := 0xFFFFFFFF, reset := 0x1000 },
  { base := 0x50100, s1 := 8, n1 := 16, rc := 0xFFFFFFFFFFFF0000 } ]

/-- Rows of the SHF_ block. -/
def regRowsSHF : List RegRow := [
  { base := 0x60028, s1 := 64, n1 := 1024, rc := 0xFFFFFFFF00000000 },
  { base := 0x60030, s1 := 64, n1 := 1024, rc := 0xFFFFFFFFFFFFFFFF },
  { base := 0x60038, s1 := 64, n1 := 1024, w1c := 0x3F } ]

/-- Rows of the PCH_ block. -/
def regRowsPCH : List RegRow := [
  { base := 0x70010, w1c := 0x1FF },
  { base := 0x71000, s1 := 128, n1 := 16, rw := 0x1F0, reset := 0x140 },
  { base := 0x71018, s1 := 128, n1 := 16, rw := 0xFFFFFFFF00000000 },
  { base := 0x71020, s1 := 128, n1 := 16, rc := 0xFFFFFFFFFFFFFFFF },
  { base := 0x71028, s1 := 128, n1 := 16, rc := 0xFFFFFFFFFFFFFFFF },
  { base := 0x71030, s1 := 128, n1 := 16, rc := 0xFFFFFFFFFFFFFFFF },
  { base := 0x71038, s1 := 128, n1 := 16, rc := 0xFFFFFFFFFFFFFFFF } ]

/-- Rows of the LNH_ block. -/
def regRowsLNH : List RegRow := [
  { base := 0x80000, rw := 0xF, reset := 0x4 },
  { base := 0x80008, rc := 0xFFFF000000000000 },
  { base := 0x80010, w1c := 0x7F },
  { base := 0x81000, s1 := 64, n1 := 16, rw := 0xD, reset := 0x8 },
  { base := 0x82008, s1 := 1024, n1 := 16, s2 := 64, n2 := 9, rw := 0xFFFF000000000000 },
  { base := 0x82010, s1 := 1024, n1 := 16, s2 := 64, n2 := 9, rc := 0xFFFFFFFF00000000 },
  { base := 0x82018, s1 := 1024, n1 := 16, s2 := 64, n2 := 9, rw := 0xFFFFFFFFFFFFFFFF },
  { base := 0x82020, s1 := 1024, n1 := 16, s2 := 64, n2 := 9, rw := 0xFFFFFFFFFFFFFFFF },
  { base := 0x82028, s1 := 1024, n1 := 16, s2 := 64, n2 := 9, rw := 0xFFFFFFFFFFFFFFFF },
  { base := 0x82030, s1 := 1024, n1 := 16, s2 := 64, n2 := 9, rw := 0xFFFFFFFFFFFFFFFF },
  { base := 0x82038, s1 := 1024, n1 := 16, s2 := 64, n2 := 9, rw := 0xFFFFFFFFFFFFFFFF } ]

/-- Rows of the TWN_ block. -/
def regRowsTWN : List RegRow := [
  { base := 0x90038, rc := 0xFFFFFFFFFFFFFFFF },
  { base := 0x90040, rc := 0xFFFFFFFFFFFFFFFF },
  { base := 0x90050, w1c := 0xFFF } ]

/-- Rows of the UPD_ block. -/
def regRowsUPD : List RegRow := [
  { base := 0xB0000, rw := 0xFFFFFFFF00000001, reset := 0x38400000000 },
  { base := 0xB0018, rw := 0xFFFFFFF },
  { base := 0xB0020, rw := 0xFFFFFFF },
  { base := 0xB0028, rw := 0xFFFFFFFFFFFFFFFF },
  { base := 0xB0060, rw := 0xFFFFFFF },
  { base := 0xB00C0, w1c := 0xFF } ]

/-- Rows of the ATT_ block. -/
def regRowsATT : List RegRow := [
  { base := 0xC0000, rw := 0x7FFFF, reset := 0x403E8 },
  { base := 0xC0018, rw := 0xFFFFFFF },
  { base := 0xC0020, rw := 0xFFFFFFF },
  { base := 0xC0028, rw := 0xFFFFFFFFFFFF },
  { base := 0xC0030, rw := 0xFFFFFFFF00000007, reset := 0x4 },
  { base := 0xC0060, rc := 0xFFFFFFFFFFFFFFFF },
  { base := 0xC0078, w1c := 0x1F } ]

/-- Rows of the TRC_ block. -/
def regRowsTRC : List RegRow := [
  { base := 0xD0018, rc := 0xFFFFFFFF00000000 },
  { base := 0xD0020, rc := 0xFFFFFFFF00000000 },
  { base := 0xD0028, rw := 0xFFFFFFFFFFFFFF, reset := 0x80000800004000 },
  { base := 0xD0030, rw := 0x3FFF },
  { base := 0xD0040, s1 := 8, n1 := 8, rw := 0xFFFFFFFFFFFFFFFF },
  { base := 0xD0080, rw := 0xFFFFFFFFFFFFFFFF },
  { base := 0xD0088, w1c := 0x3F },
  { base := 0xD1000, s1 := 32, n1 := 64, rw := 0x3F07000F3FFF },
  { base := 0xD1008, s1 := 32, n1 := 64, rw := 0xE01F00000FFFFFFF, reset := 0xA000000000000 },
  { base := 0xD1010, s1 := 32, n1 := 64, rw := 0xFFFFFFFFFF00FFFF } ]

/-- Rows of the THM_ block. -/
def regRowsTHM : List RegRow := [
  { base := 0xE0000, rw := 0xFF0003FF0001, reset := 0x140002BC0001 },
  { base := 0xE0010, rc := 0xFFFF00000000 },
  { base := 0xE0018, s1 := 8, n1 := 5, rc := 0xFFFF00000000 },
  { base := 0xE0040, w1c := 0x1FFE },
  { base := 0xE0050, w1c := 0x7F } ]

/-- Rows of the LOOP_ block. -/
def regRowsLOOP : List RegRow := [
  { base := 0x100008, s1 := 64, n1 := 16384, rw := 0xFFFF },
  { base := 0x100038, s1 := 64, n1 := 16384, rc := 0xFFFFFFFFFFFFFFFF } ]

/-- Rows of the SEAT_ block. -/
def regRowsSEAT : List RegRow := [
  { base := 0x1000030, s1 := 65536, n1 := 8, s2 := 8, n2 := 4, rw := 0xFFFFFFFFFFFFFFFF },
  { base := 0x1000088, s1 := 65536, n1 := 8, rw := 0xFFFFFFFF },
  { base := 0x1000090, s1 := 65536, n1 := 8, rw := 0xFFFF },
  { base := 0x1000098, s1 := 65536, n1 := 8, rc := 0xFFFFFFFF },
  { base := 0x10000A0, s1 := 65536, n1 := 8, s2 := 8, n2 := 2, rw := 0xBFBFBFBFBFBFBFBF, reset := 0x8080808080808080 },
  { base := 0x1000200, s1 := 65536, n1 := 8, w1c := 0xF },
  { base := 0x1008000, s1 := 65536, n1 := 8, s2 := 16, n2 := 64, rw := 0xFFFFFFFFFFFFFFFC },
  { base := 0x1008008, s1 := 65536, n1 := 8, s2 := 16, n2 := 64, rw := 0x1FFFFFFFF, reset := 0x100000000 } ]

/-- The rows of the block in which an address lies (R494). -/
def regRowsAt (a : Nat) : List RegRow :=
  if 0x1000000 ≤ a then regRowsSEAT
  else if 0x100000 ≤ a then regRowsLOOP
  else match a / 0x10000 with
    | 0 => regRowsSYS
    | 1 => regRowsHRT
    | 2 => regRowsPLN
    | 3 => regRowsMOV
    | 4 => regRowsTIL
    | 5 => regRowsMEM
    | 6 => regRowsSHF
    | 7 => regRowsPCH
    | 8 => regRowsLNH
    | 9 => regRowsTWN
    | 11 => regRowsUPD
    | 12 => regRowsATT
    | 13 => regRowsTRC
    | 14 => regRowsTHM
    | _ => []

/-- The row of a register; where none lists the address, a row without writable bits (R7). -/
def regRow (a : Nat) : RegRow := ((regRowsAt a).find? (·.has a)).getD { base := a }

/-- The stored bits of a register at reset. -/
def regReset (a : Nat) : Word := BitVec.ofNat 64 (regRow a).reset

end Sys2Proof.Machine
end

