-- ==== Sys2Proof/Blocks/Core.lean ====
section
/-! DEFINITION. State of the Hearth, the guard cores, the boot, the pins, the governor, the host port with its seats, the
notices, and the Attic. Each default value is the reset value. -/
namespace Sys2Proof.Machine

/-- The Hearth's lock state (R45). -/
inductive Lock where
  | free | acquire | locked | holdover
  deriving DecidableEq, Repr

/-- The role of the unit in its pair (R373); `none` before the first commit (`ROLE` 0xF). -/
inductive Role where
  | none | active | standby | withdrawn | solo
  deriving DecidableEq, Repr

/-- The Hearth (02): the frame, device time, the lock and the overrun window. -/
structure Hearth where
  /-- Tick 0 has happened (R15). -/
  running    : Bool := false
  /-- Frame number (R15). -/
  frame      : Nat := 0
  /-- Device time of the current tick in units of 2^-48 ns: the 80-bit counter above a 32-bit trim fraction (R36). -/
  time       : Nat := 0
  /-- Which of the three increments of R36 the next core cycle adds. -/
  phase      : Nat := 0
  /-- Core cycles from tick 0 to the current tick. -/
  cycles     : Nat := 0
  /-- Ticks since tick 0, which no adopted frame number changes (R34, R47). -/
  ticks      : Nat := 0
  /-- The timing in force: the committed FRAME section, or the default frame (R17). -/
  cfg        : FrameCfg := {}
  lock       : Lock := .free
  /-- Consecutive frames within 2 cycles of the reference (R45). -/
  near       : Nat := 0
  /-- Consecutive frames without an edge or TIME cell of the reference (R48). -/
  silent     : Nat := 0
  /-- The reference's phase against the own tick in ps, measured in this frame (R43, R46). -/
  phaseNow   : Option Int := .none
  /-- An edge arrived on `TICK_IN` in this frame. -/
  edgeNow    : Bool := false
  /-- A TIME cell of the reference arrived in this frame. -/
  cellNow    : Bool := false
  /-- The newest TIME cell of the reference since the unit last entered ACQUIRE (R37, R47), the own frame it arrived in, and the
  phase of the reference's tick it names against the own tick of that frame, ps. -/
  refCell    : Option TimeCell := .none
  refFrame   : Nat := 0
  refPhase   : Int := 0
  /-- The alignment step of the current ACQUIRE has been made (R47). -/
  aligned    : Bool := false
  /-- Cycles by which the current frame is lengthened for the alignment step (R47). -/
  alignBy    : Nat := 0
  /-- Frame number and device time (2^-16 ns) adopted at the next tick (R47). -/
  adopt      : Option (Nat × Nat) := .none
  /-- Device time (2^-16 ns) that the next tick takes for an epoch step (R39). -/
  setTime    : Option Nat := .none
  /-- The device time of the current tick did not follow from the tick before: a step or an adoption (R39, R40, R47). -/
  stepped    : Bool := false
  /-- The Hearth slews the phase difference of a return to `TIMEBASE_IN` (R49). -/
  slew       : Bool := false
  /-- An edge arrived on `TICK_IN` in the previous frame (`TICKIN_SEEN`). -/
  edgeSeen   : Bool := false
  /-- The steering correction of the last frame, kept in HOLDOVER (R45). -/
  steer      : Int := 0
  /-- The Hearth runs from `TIMEBASE_IN` (R49). -/
  timebaseOk : Bool := false
  /-- `TIMEBASE_IN` has returned and the Hearth goes back to it at the next tick (R49). -/
  timebaseBack : Bool := false
  /-- A pending epoch step: its tick and the 80-bit device time it sets (R39). -/
  epochStep  : Option (Nat × Nat) := .none
  /-- The overrun frames counted in the window of R34, each by the value of `ticks` in it, newest first. -/
  ovrFrames  : List Nat := []
  /-- Loops that have overrun in the current frame (R31). -/
  ovrNow     : List Nat := []
  /-- The emit deadline of the current frame has passed. -/
  emitted    : Bool := false
  /-- Core-cycle count at which `PPS_OUT` last rose, while it is high (R44). -/
  ppsRise    : Option Nat := .none
  /-- A Guard event was detected in the current frame (R221). -/
  guardNow   : Bool := false
  /-- A Guard event falls at the coming tick. -/
  guardNext  : Bool := false
  /-- `TICKIN_CFG.DIV` frame counter of EXTERNAL mode: frames since the last edge arrived or was due (R43). -/
  extCount   : Nat := 0
  deriving DecidableEq, Repr

/-- The pins the spec names, as the unit drives or senses them (R10, R42, R44, R377, R515). -/
structure Pins where
  tickOut   : Bool := false
  ppsOut    : Bool := false
  faultN    : Bool := true
  hbOut     : Bool := false
  /-- Level of `HALT_N`; an input, deasserted when nothing drives it. -/
  haltN     : Bool := true
  /-- Level of `POR_N`; asserted in the reset state. -/
  porN      : Bool := false
  deriving DecidableEq, Repr

/-- The boot (R478 to R480, R438). -/
structure Boot where
  /-- `POR_N` has been deasserted and the boot runs or has run. -/
  started  : Bool := false
  /-- `THM_BOOT.STAGE` (R480). -/
  stage    : Nat := 0
  /-- `THM_BOOT.BOOT_MS`. -/
  ms       : Nat := 0
  /-- Configuration requests are no longer retried (R478). -/
  ready    : Bool := false
  /-- The POWER_UP record is still to be written at the first tick (R480). -/
  powerUp  : Bool := false
  /-- An IOD supply fault holds the device in reset (R476). -/
  supplyHold : Bool := false
  /-- The trip has stopped the unit (R486). -/
  stopped  : Bool := false
  /-- The trip latch (R486). -/
  tripLatch : Bool := false
  /-- Core-cycle count at the start of the frame in which it was set. -/
  tripFrom : Nat := 0
  deriving DecidableEq, Repr

/-- One die as the governor sees it (R483, R488, R489). -/
structure Die where
  /-- Last reading, signed 1/256 °C. -/
  temp   : Int := 0
  vddMv  : Nat := 0
  /-- 0 OK, 1 SUPPLY_FAIL, 2 LOST. -/
  state  : Nat := 0
  /-- Readings of the last 1 ms with their core-cycle counts, newest first (R488). -/
  recent : List (Nat × Int) := []
  /-- Core-cycle count since which the die has stayed below 92.0 °C without a break (R485). -/
  coolSince : Option Nat := .none
  /-- Core-cycle count since which the die has risen by less than 2 °C, and its lowest reading since then (R488). -/
  calmSince : Option (Nat × Int) := .none
  deriving DecidableEq, Repr

/-- The governor (17). -/
structure Thm where
  dies       : List (Nat × Die) := []
  level      : Nat := 0
  stepActive : Bool := false
  limited    : Bool := false
  pkgW       : Nat := 0
  /-- The Bulk budget of the current frame in 2^-16 W (R487). -/
  bulkW      : Nat := 0
  /-- Jobs that get no tile time in the current frame (R487). -/
  withheld   : List Nat := []
  deriving DecidableEq, Repr

/-- A seat's state (R404). -/
inductive SeatState where
  | unbound | clearing | negotiate | ready
  deriving DecidableEq, Repr

/-- The device status page of a seat as last written (R410). -/
structure StatusPage where
  seq        : Nat := 0
  ntcProd    : Nat := 0
  frame      : Nat := 0
  time       : Nat := 0
  unitRole   : Nat := 0
  side       : Nat := 0
  lock       : Nat := 0
  seatRole   : Nat := 0
  pathsIn    : Nat := 0
  epoch      : Nat := 0
  planId     : Nat := 0
  edits      : Nat := 0
  moves      : Nat := 0
  planDigest : Nat := 0
  deriving DecidableEq, Repr

/-- An order taken up at a tick and not yet DONE (R413, R414). -/
structure TakenOrder where
  seat   : Nat
  slot   : Nat
  typ    : Nat
  flags  : Nat
  cookie : Nat
  taken  : Nat
  /-- The generic check that failed (0x80 to 0x82), or the result of the order type. -/
  result : Nat
  obj    : Nat
  /-- The body as copied at take-up. -/
  body   : List Byte
  /-- Its seat has been reset since: nothing is written to its slot (R425). -/
  gone   : Bool := false
  /-- Its checks have been made and its effect has begun. -/
  carried : Bool := false
  deriving DecidableEq, Repr

/-- One seat (14). Its register page is held in `regs`. -/
structure Seat where
  state    : SeatState := .unbound
  /-- The LD is bound to a host (R404). -/
  bound    : Bool := false
  /-- The tick from which the seat has been READY (R413). -/
  readyAt  : Nat := 0
  /-- The agreed feature word (R422). -/
  agreed   : Nat := 0
  /-- `SEAT_NTC_PROD` (R418). -/
  prod     : Nat := 0
  /-- A notice was dropped and the next record carries LOST (R418). -/
  lost     : Bool := false
  /-- The seat waits for the tick at which its reset takes effect (R425). -/
  resetting : Bool := false
  status   : StatusPage := {}
  deriving DecidableEq, Repr

/-- What the device answers on a mailbox (R402, R431 to R435). -/
inductive Reply where
  | none
  /-- The request or its option is not supported. -/
  | unsupported
  /-- The request is refused. -/
  | refused
  /-- The contents of the answer. -/
  | answer (l : List Nat)
  deriving DecidableEq, Repr

/-- The CXL port (14, 15). -/
structure Port where
  linkUp    : Bool := false
  width     : Nat := 0
  speed     : Nat := 0
  flit256   : Bool := false
  ioSecure  : Bool := false
  memSecure : Bool := false
  /-- `PERST_N` or a hot reset holds the port: the link has not come up since (R424). -/
  perst     : Bool := false
  /-- Vectors that sent one MSI-X message after the last tick, as (seat, vector) pairs (R420). -/
  msix      : List (Nat × Nat) := []
  /-- The answer last given to a mailbox, FM API or DOE request. -/
  reply     : Reply := .none
  /-- DOE requests that wait for the end of the supervisor restart, by LD, oldest first (R433). -/
  waiting   : List (Nat × DoeReq) := []
  deriving DecidableEq, Repr

/-- A notice that waits for the tick at which it is written (R27, R417, R418). -/
structure Event where
  /-- Source (R419). -/
  src    : Nat
  /-- 0 EVT, 1 RECORD (R417). -/
  kind   : Nat
  /-- EVT: bit number of the source's EVT register; RECORD: event code. -/
  event  : Nat
  /-- Object concerned, 0xFFFF_FFFF for none. -/
  obj    : Nat
  arg    : Nat
  /-- Body of a RECORD notice (R417). -/
  body   : List Byte
  /-- The seats that the rule names. -/
  seats  : List Nat
  deriving DecidableEq, Repr

/-- An event that an Attic record is to be written for at the next tick (R464, R474). -/
structure AtticEvent where
  typ     : Nat
  sev     : Nat
  /-- Length of the key in bytes (R465). -/
  key     : Nat
  payload : List Byte
  deriving DecidableEq, Repr

/-- One Attic record (R460). -/
structure AtticRec where
  number  : Nat
  tick    : Nat
  cycles  : Nat
  opsec   : Nat
  typ     : Nat
  sev     : Nat
  key     : Nat
  payload : List Byte
  rep     : Nat
  lastMs  : Nat
  /-- Core-cycle counts at creation and at the end of the window of R466. -/
  born    : Nat
  ends    : Nat
  /-- The record's window has not ended (R466). -/
  isOpen  : Bool
  /-- `REPEAT` and `LAST_MS` of its durable image, none before the first (R469). -/
  saved   : Option (Nat × Nat)
  /-- Held in the Critical reserve (R467). -/
  reserve : Bool
  /-- Core-cycle count of its creation or latest change (R469). -/
  changed : Nat := 0
  /-- The flash answers a read of its durable image with an uncorrectable error, and with these bytes (R472). -/
  damaged : Option (List Byte) := .none
  deriving DecidableEq, Repr

/-- A READ in progress (R471, R472). -/
structure AtticRead where
  /-- Buffer in the Owner's Hall. -/
  off    : Nat
  len    : Nat
  /-- Number of the next record to copy, the limit of records (0 none), and the severity filter. -/
  cur    : Nat
  maxRec : Nat
  maxSev : Nat
  /-- The newest record as of the take-up tick. -/
  newest : Nat
  /-- Bytes and records copied, and GAP. -/
  bytes  : Nat := 0
  recs   : Nat := 0
  gap    : Bool
  deriving DecidableEq, Repr

/-- The Attic (16). -/
structure Attic where
  /-- Records held, in ascending number (general area, Critical reserve and staging ring). -/
  recs    : List AtticRec := []
  /-- The number the next record receives (R463). -/
  nextNum : Nat := 1
  /-- Power-cycle count (R462). -/
  cycles  : Nat := 0
  /-- Operating seconds, and their number at tick 0 (R462). -/
  opsec   : Nat := 0
  opsecBase : Nat := 0
  /-- Operating seconds last saved to flash (R462). -/
  opsecSaved : Nat := 0
  /-- FLASH shows FAILED (R470). -/
  failed  : Bool := false
  reading : Option AtticRead := .none
  /-- A CANCEL or an Owner reset ends the READ at the next tick (R473). -/
  aborting : Bool := false
  /-- A READ whose last record is copied: its result is written at the next tick (R472). -/
  done    : Bool := false
  /-- Events that await the next tick (R464). -/
  waiting : List AtticEvent := []
  deriving DecidableEq, Repr

end Sys2Proof.Machine
end

