-- ==== Sys2Proof/Blocks/Tile.lean ====
section
/-! DEFINITION. State of the tiles, the Stair, the copies and the background jobs (04). Each default value is the reset
value; a tile, context or job not listed is in its reset state. -/
namespace Sys2Proof.Machine

/-- The kinds of copy fault, in the order of their values 1 to 9 (R270). -/
inductive CopyFault where
  | overlap | unmapped | protection | cellarRange | cellarAbort | cellarTimeout | gddr7Ue | deviceLost | hallReset
  deriving DecidableEq, Repr

/-- One copy in a copy queue (R103 to R110). -/
structure Copy where
  /-- Source and destination device addresses, and length. -/
  src      : Nat
  dst      : Nat
  len      : Nat
  /-- Two-dimensional strides: bytes per row, source and destination pitch; a row length of 0 is a plain copy. -/
  row      : Nat
  srcPitch : Nat
  dstPitch : Nat
  /-- 1 Frame, 2 Bulk. -/
  cls      : Nat
  /-- Beats completed and not yet in the unbroken run, by number. -/
  ahead    : List Nat := []
  /-- Progress in whole beats from the start of the copy (R104). -/
  beats    : Nat := 0
  /-- The beat at which a fault stopped it, until its queue resumes (R110). -/
  stop     : Option Nat := .none
  /-- Its source is a shelf whose packets have been reserved (R299); `len` is then what they hold. -/
  reserved : Bool := false
  deriving DecidableEq, Repr

/-- A copy fault that parks or ends a job (R271 to R274). -/
structure JobFault where
  cause  : CopyFault
  addr   : Nat
  queue  : Nat
  prog   : Nat
  /-- Length of the copy that met the fault. -/
  len    : Nat := 0
  /-- The tick at which the job parked, and its core-cycle count (R274). -/
  tick   : Nat
  cycles : Nat := 0
  /-- The re-issued beat has completed: FAULT clears at the next tick (R274). -/
  clear  : Bool := false
  deriving DecidableEq, Repr

/-- One bank of a tile (R91): the programmer-visible registers, sparse, zero where not listed. Scalar register r of core c
is at 64c + r, vector element e of register v at 512v + e, accumulator (i, j) at 64i + j. An accumulator holds FP32 or INT32 in its low 32 bits, or
the 40 bits of Q9.31 (R131). -/
structure Bank where
  scalar  : List (Nat × Word) := []
  vector  : List (Nat × BitVec 32) := []
  accum   : List (Nat × BitVec 40) := []
  /-- Sticky flags INVALID, OVERFLOW, SATURATE (R148). -/
  invalid  : Bool := false
  overflow : Bool := false
  saturate : Bool := false
  /-- Stochastic-rounding generators (R147), by lane. -/
  gens    : List (Nat × BitVec 32) := []
  /-- The four copy queues, head first (R106). -/
  queues  : List (List Copy) := []
  /-- Queues of the fence that the program waits on (R106, R127). -/
  waitOn  : List Nat := []
  /-- The resume point: program counter of the context (R113). -/
  pc      : Nat := 0
  deriving DecidableEq, Repr

/-- One tile (R91 to R97, R111 to R114, R128). -/
structure Tile where
  lost      : Bool := false
  /-- Lost in the current frame, reported at the next tick (R129). -/
  lostNow   : Bool := false
  frame     : Bank := {}
  bulk      : Bank := {}
  /-- The job whose context is on the bulk bank. -/
  running   : Option Nat := .none
  /-- The bulk bank runs now (after the last frame-critical program on a Sense tile, R111). -/
  bulkOn    : Bool := false
  /-- The context on the bulk bank waits on a fence and its queues go on issuing beats (R127). -/
  waiting   : Bool := false
  /-- Context records saved in scratch, by job (R114). -/
  saved     : List (Nat × Bank) := []
  /-- The page map (R93): jobs that hold a context on the tile with the scratch pages allotted to each, and the pages of the
  frame-critical partition, both in the order of the program's addresses; retired background pages (R97). -/
  contexts  : List (Nat × List Nat) := []
  fcMap     : List Nat := []
  retired   : List Nat := []
  /-- The pages that a preload has filled and that become the frame-critical partition at tick T (R96). -/
  nextMap   : List Nat := []
  /-- Estimation stage, 15 none. -/
  stage     : Nat := 15
  /-- A pre-emption request is outstanding (R112). -/
  request   : Bool := false
  /-- The job that is to run after the context gives way (R112). -/
  nextJob   : Option Nat := .none
  /-- The last frame-critical program of the frame has ended (R111). -/
  fcDone    : Bool := false
  /-- Consecutive missed completion tokens (R128). -/
  missed    : Nat := 0
  deriving DecidableEq, Repr

/-- The state of a job (R121). -/
inductive JobState where
  | none | admitting | ready | running | parked | ended
  deriving DecidableEq, Repr

/-- One job (R117 to R126). -/
structure Job where
  state     : JobState := .none
  info      : Option JobRec := .none
  /-- 0xFF resident or service. -/
  seat      : Nat := 0xFF
  /-- 0 user job; 1 planner, 2 adaptation, 3 rebuild, 4 trace writer (R118). -/
  service   : Nat := 0
  /-- Park reasons that hold (R121). -/
  parks     : List Nat := []
  endReason : Nat := 0
  /-- End reasons that fall at the next tick (R122). -/
  ending    : List Nat := []
  /-- `TIL_JOB_STATUS.ADMIT_RESULT` (R120). -/
  admission : Nat := 0
  tiles     : List Nat := []
  pages     : Nat := 0
  exitCode  : Nat := 0
  time      : Nat := 0
  /-- Deficit count of tile-cycles (R126). -/
  deficit   : Int := 0
  /-- Progress and length of the copy at the head of queue 0 when the job last gave way (R130). -/
  copyProg  : Nat := 0
  copyLen   : Nat := 0
  fault     : Option JobFault := .none
  /-- The image digest check has passed: READY at the next tick (R120). -/
  admitted  : Bool := false
  /-- The checked image lies in GDDR7, so that a restart needs no copy from the Hall (R124). -/
  imageHeld : Bool := false
  gddr7Kb   : Nat := 0
  /-- It was resident: its record lies in the committed plan. -/
  resident  : Bool := false
  /-- The tick at which the job is admitted again under R124. -/
  restart   : Option Nat := .none
  /-- Its end has been read: the number is free from the next tick (R121). -/
  endRead   : Bool := false
  /-- Its scratch was evicted to GDDR7 and is reloaded before it next runs (R96). -/
  evicted   : Bool := false
  /-- What the job's last claim of a bank was answered: 0, or 1 BANK_BUSY (R82). -/
  tblResult : Nat := 0
  deriving DecidableEq, Repr

/-- The tile block's state. -/
structure TileBlock where
  tiles   : List (Nat × Tile) := []
  jobs    : List (Nat × Job) := []
  /-- Hops that are down (R100). -/
  hops    : List Nat := []
  /-- Dies lost. -/
  dies    : List Nat := []
  /-- The operation of `TIL_JOB_CTL`, which the next tick takes up for the job that `TIL_JOB_SEL` then selects (R130, R497). -/
  ctlOp   : Option Nat := .none
  deriving DecidableEq, Repr

end Sys2Proof.Machine
end

