-- ==== Sys2Proof/Blocks/Memory.lean ====
section
/-! DEFINITION. State of the memory tiers, the shelves with the Pantry, and the estimation (06, 09, 10). Each default value
is the reset value. -/
namespace Sys2Proof.Machine

/-- One GDDR7 device (R255, R266, R282). Its read-to-clear counters are held in `regs`. -/
structure Gddr7 where
  /-- 0 IN_SERVICE, 1 RETRAINING, 2 LOST (R284). -/
  state   : Nat := 0
  spares  : Nat := 1024
  /-- Consecutive failed retraining attempts (R282). -/
  failed  : Nat := 0
  /-- Core-cycle counts of the uncorrectable lines reported within the last second (R282). -/
  ues     : List Nat := []
  /-- Its metadata: the retirement map, as (page index, spare page index), and the page that the patrol scrub read last (R255). -/
  map     : List (Nat × Nat) := []
  scrub   : Nat := 0
  deriving DecidableEq, Repr

/-- A page whose retirement copy runs: page address, and whether the copy into the spare is complete (R266). -/
structure Retiring where
  page  : Nat
  cause : Nat
  /-- The spare page that takes its place. -/
  spare : Nat := 0
  ready : Bool := false
  deriving DecidableEq, Repr

/-- The memory block's state. -/
structure MemBlock where
  devs      : List (Nat × Gddr7) := []
  /-- Retired pages in force (R266, R267). -/
  retired   : List Nat := []
  /-- The retired-page list of the Cupboard, kept over every reset (R267, R476). -/
  cupboard  : List Nat := []
  retiring  : List Retiring := []
  /-- Retired unprotected pages whose place has not been allotted again, so that no spare has taken it yet (R266). -/
  unallotted : List Nat := []
  /-- Corrected-error occasions of a page (R266). -/
  occasions : List (Nat × Nat) := []
  /-- Protected pages run on one copy (R282). -/
  degraded  : Bool := false
  /-- Cellar window in force: base, size, VALID (R277). -/
  cellar    : Nat × Nat × Bool := (0, 0, false)
  /-- The window before it, against which the beats issued before its tick finish. -/
  oldCellar : Nat × Nat × Bool := (0, 0, false)
  apply     : Bool := false
  /-- Retired pages that left service for want of a spare (R266). -/
  gone      : Nat := 0
  /-- Pages waiting to be zeroed, as (job, pages of 4 KB left) (R275). -/
  zeroing   : List (Nat × Nat) := []
  /-- MEM_FAULT_INFO, ADDR and PROG (R284). -/
  faultInfo : Word := 0
  faultAddr : Nat := 0
  faultProg : Word := 0
  /-- Faults of the current frame: tile, queue, job, fault (R271). -/
  faults    : List (Nat × Nat × Nat × JobFault) := []
  lastRetired  : Nat := 0
  /-- Pinned pages of the committed plan, KB (R259), and its spilled background data, KB. -/
  pinnedKb  : Nat := 0
  spillKb   : Nat := 0
  /-- Its tables that lie in the unprotected region instead of the Pantry (R279). -/
  spilled   : List Nat := []
  /-- The devices over which the protected and unprotected regions were last built (R259, R283). -/
  builtOn   : List Nat := List.range 16
  deriving DecidableEq, Repr

/-- How many devices the regions were last built over. -/
def MemBlock.builtWith (m : MemBlock) : Nat := m.builtOn.length

/-- One shelf (R289 to R300). Words are kept as written, with their VALID and CORRECTED bits 0. -/
structure Shelf where
  cls       : Nat := 0
  notice    : Nat := 0
  swapMode  : Nat := 0
  minPages  : Nat := 0
  maxPages  : Nat := 0
  swapWords : Nat := 0
  staleUs   : Nat := 0
  prodKind  : Nat := 0
  prodIndex : Nat := 0
  consKind  : Nat := 0
  consIndex : Nat := 0
  /-- Committed packets of the fill bank, oldest first, and the words of the open packet. -/
  fill      : List (List Word) := []
  opened    : List Word := []
  /-- Words whose write waits for room, oldest first (R295). -/
  waiting   : List Word := []
  /-- Packets of the drain bank, oldest first; the words already popped from the first are gone. -/
  drain     : List (List Word) := []
  /-- Packets reserved by a running copy (R299). -/
  reserved  : List (List Word) := []
  /-- Pages borrowed above the minimum by the fill bank and by the drain bank (R293), and the words popped from the drain bank
  since its swap. -/
  fillExtra  : Nat := 0
  drainExtra : Nat := 0
  popped    : Nat := 0
  swapPend  : Bool := false
  /-- The stale-tail timer has fired and starts again only after the next pop (R300). -/
  fired     : Bool := false
  /-- The packet being drained is damaged from here on (R292). -/
  poison    : Bool := false
  /-- Pages of its minimum that were retired while the free pool was empty (R288). -/
  short     : Nat := 0
  /-- EMPTY written in this frame (R307). -/
  emptyNow  : Bool := false
  deriving DecidableEq, Repr

/-- What has been received of one mirror's patch of the expected exposure (R157, R165, R322). -/
structure Patch where
  /-- Low 32 bits of its exposure tick. -/
  expo    : Nat := 0
  /-- Bits delivered. -/
  bits    : Nat := 0
  /-- A bit of it was lost on the link. -/
  missing : Bool := false
  /-- Its shelf packet was committed after the cutoff (R157). -/
  late    : Bool := false
  /-- Bits of the largest code at the end of what has been delivered that belong to one pixel, and whole pixels at the largest code
  (R162). -/
  ones    : Nat := 0
  full    : Nat := 0
  /-- The cutoff of its micro-batch has passed, and the FLAGS fixed then (R163). -/
  fixed   : Option Nat := .none
  deriving DecidableEq, Repr

/-- Parameters of the adaptation service as it read them (R175). -/
structure AdaptParams where
  dither  : Nat := 0x0010
  mirrors : Nat := 1
  samples : Nat := 16384
  /-- Samples kept for evaluation, per mille. -/
  holdout : Nat := 50
  accept  : Nat := 0
  deriving DecidableEq, Repr

/-- Parameters of the atlas rebuild service as it read them (R175). -/
structure RebuildParams where
  settle  : Nat := 256
  peakWin : Nat := 16
  round   : Nat := 4096
  change  : Nat := 1
  deriving DecidableEq, Repr

/-- What a rebuild round has measured of a path in service (R180). -/
structure Settle where
  /-- Frames counted so far, and the sums of the four angles over them. -/
  frames  : Nat := 0
  sums    : List Int := []
  deriving DecidableEq, Repr

/-- The estimation and its services (06). -/
structure EstBlock where
  patches   : List (Nat × Patch) := []
  /-- Adaptation: samples collected, whether its candidate is being trained, table and job (R177). -/
  adaptJob  : Option Nat := .none
  samples   : Nat := 0
  training  : Bool := false
  /-- Samples of the candidate that are held out for evaluation (R175, R177). -/
  heldOut   : Nat := 0
  /-- Parameters of the services as of the last claim that each began (R175). -/
  adapt     : Option AdaptParams := .none
  rebuild   : Option RebuildParams := .none
  /-- Mirrors dithered with their offsets in Q1.15 (R176). -/
  dithered  : List (Nat × Int × Int) := []
  /-- Rebuild: tick at which the round began, entries written (R180). -/
  round     : Option Nat := .none
  written   : Nat := 0
  /-- Paths in service measured in the round, by atlas entry (R180). -/
  settles   : List (Nat × Settle) := []
  deriving DecidableEq, Repr

end Sys2Proof.Machine
end

