-- ==== Sys2Proof/Blocks/Porch.lean ====
section
/-! DEFINITION. State of the porches, their links and their cages (11). Each default value is the reset value. -/
namespace Sys2Proof.Machine

/-- `PCH_Pp_STATUS.STATE` (R350). -/
inductive PorchState where
  | down | training | discovery | ready | wrongHead | miswired | dark | lost
  deriving DecidableEq, Repr

/-- An open COMMAND cell (R325): its entries in order. -/
structure OpenCell where
  entries : List (Nat × Int) := []
  deriving DecidableEq, Repr

/-- One porch p (11). Its read-to-clear counters are held in `regs`. -/
structure Porch where
  state     : PorchState := .down
  /-- Bit l: receive lane l lit. -/
  lit       : Nat := 0
  /-- Bit l: lane l holds codeword lock (R313). -/
  locked    : Nat := 0
  /-- Lane duplicated onto lane 8, 15 none (R343). -/
  mirror    : Nat := 15
  /-- The porch is lost since it was READY (R342). -/
  lost      : Bool := false
  headType  : Nat := 0
  headId    : Nat := 0
  headPort  : Nat := 0
  other     : Nat := 0
  /-- `COUNT_MAX` of IDENT. -/
  countMax  : Nat := 0
  /-- An accepted IDENT has been received in this discovery (R340). -/
  identOk   : Bool := false
  /-- The record of the head's role has been collected (R340 step 4). -/
  recordOk  : Bool := false
  /-- Window origins of WINDOWS (R338), by head index. -/
  windows   : List (Nat × Nat) := []
  /-- HOLDING of the head (R338): (axis index, command, KNOWN). -/
  holding   : List (Nat × Int × Bool) := []
  /-- Full scale of SCALE (R338), nW. -/
  scale     : Nat := 0
  /-- The CONFIG that awaits its CONFIG_ACK (R340). -/
  config    : Option ConfigMsg := .none
  /-- A CONFIG_ACK with RESULT OK has arrived: READY at the next tick (R340). -/
  readyNext : Bool := false
  delayPs   : Nat := 0
  /-- The last 16 delay measurements, newest first, ps (R333). -/
  measured  : List Int := []
  /-- Outstanding ECHO requests: number and transmit stamp (2^-16 ns). -/
  echoes    : List (Nat × Nat) := []
  echoNext  : Nat := 0
  /-- Delay measurements still to be made in discovery (R333). -/
  echoLeft  : Nat := 0
  /-- Consecutive frames without a valid cell from the head (R342), and whether one arrived in this frame. -/
  silent    : Nat := 0
  heard     : Bool := false
  /-- HEADSTAT (R350). -/
  temp      : Int := 0
  repeated  : Nat := 0
  stale     : Nat := 0
  faultCode : Nat := 0
  /-- EPOCH of the head's last ACK (R394), and the apply tick it answered. -/
  ackEpoch  : Option Nat := .none
  ackTick   : Nat := 0
  /-- Last HEALTH (R337). -/
  health    : Option HealthCell := .none
  /-- Receive side of the link: next LSEQ to deliver (R318). -/
  rxSeq     : Nat := 0
  /-- LSEQ of the next cell sent (R318). -/
  txSeq     : Nat := 0
  /-- The open COMMAND cell of the porch (R325). -/
  openCell  : OpenCell := {}
  /-- Cells queued or sent in the current frame, each with its precedence, in the order they leave (R25, R319): a Guard cell has
  the code of its Guard event (or 7), a Frame cell 64, a Bulk cell 128. -/
  sent      : List (Nat × TxCell) := []
  /-- Cells that leave at the start of the frame that the coming tick begins. -/
  next      : List (Nat × TxCell) := []
  /-- The porch was READY at the last tick and has not been lost since (R342). -/
  up        : Bool := false
  /-- A LANE request of this receiver awaits its answer: operation and lane (R344). -/
  laneReq   : Option (Nat × Nat) := .none
  /-- Transmit direction: lane duplicated onto lane 8 by the far end's request, and lanes it has asked to shed. -/
  txMirror  : Nat := 15
  txShed    : Nat := 0
  /-- Transmit lanes squelched (R347, R23). -/
  squelch   : Nat := 0
  /-- A number of the receive side has counted as a gap since the last sensing cell was delivered (R318, R322). -/
  holed     : Bool := false
  /-- Patches in from an IMAGER head in the current frame (R166). -/
  patchesIn : Nat := 0
  /-- REDISCOVER, HEAD_RESET or ECHO_NOW written in this frame, 0 none (R350, R497). -/
  op        : Nat := 0
  deriving DecidableEq, Repr

/-- One cage c (R345 to R349). -/
structure Cage where
  present   : Bool := false
  qualified : Bool := false
  intN      : Bool := false
  /-- The application selected by its number in the module's list, 0 none, and whether its data path has been initialised (R345). -/
  app       : Nat := 0
  dataPath  : Bool := false
  /-- Tx squelch on host-side loss of signal in average-power mode, and Rx output squelch, are enabled (R345). -/
  squelchOn : Bool := false
  /-- Latched DARK (R348). -/
  dark      : Bool := false
  txDisabled : Bool := false
  modState  : Nat := 0
  rxLos     : Nat := 0
  txLos     : Nat := 0
  temp      : Int := 0
  vcc       : Nat := 0
  rxPower   : List Nat := []
  /-- A probe is running (R349). -/
  probing   : Bool := false
  deriving DecidableEq, Repr

end Sys2Proof.Machine
end

