-- ==== Sys2Proof/Blocks/Trust.lean ====
section
/-! DEFINITION. State of identity, attestation and firmware update, with the flash and the fuses (15). -/
namespace Sys2Proof.Machine

/-- A firmware slot of the flash (R437, R459). -/
structure FwSlot where
  /-- 0 EMPTY, 1 CONFIRMED, 2 PENDING, 3 INVALID. -/
  state     : Nat := 0
  bundleVer : Nat := 0
  svn       : Nat := 0
  /-- Manifest digest (R441). -/
  manifest  : Nat := 0
  /-- The step of R474's BOOT_FAIL at which the boot checks of its contents end, 0 when they pass (R438). -/
  badStep   : Nat := 0
  deriving DecidableEq, Repr

/-- A Cupboard slot (R456): what its header says and the settings it holds. -/
structure CupSlot where
  /-- 0 EMPTY, 1 LIVE, 2 PREVIOUS, 3 FAILED. -/
  state   : Nat := 0
  schema  : Nat := 0
  gen     : Nat := 0
  /-- Firmware slot it belongs to, 0 A, 1 B. -/
  fw      : Nat := 0
  /-- Enrolled keys by key slot, and the retired-page list. -/
  keys    : List (Nat × List Byte) := []
  retired : List Nat := []
  deriving DecidableEq, Repr

/-- What whole-device resets leave (R476): flash and fuses. -/
structure Flash where
  slotA    : FwSlot := { state := 1 }
  slotB    : FwSlot := { badStep := 1 }
  /-- The boot header's confirmed slot, and the pending slot if any (R437). -/
  confirmed : Nat := 0
  pending  : Option Nat := .none
  /-- Cupboard slots 0 to 3. -/
  cups     : List (Nat × CupSlot) := [(0, { state := 1 })]
  /-- Count of burned fuses (R439), and the fused serial number (R430). -/
  fusedSvn : Nat := 0
  /-- The count up to which fuses are being burned (R439, R453). -/
  burnTo   : Option Nat := .none
  serial   : Nat := 0
  /-- The slot that a whole-device reset made fall back: recorded after the boot (R455). -/
  porFall  : Option Nat := .none
  deriving DecidableEq, Repr

/-- What the staged bundle's manifest says (R440 to R444). -/
structure Bundle where
  svn       : Nat
  version   : Nat
  manifest  : Nat
  /-- HEAD_TYPE and length of its head images. -/
  heads     : List (Nat × Nat)
  deriving DecidableEq, Repr

/-- `UPD_STATUS.STATE` (R459). -/
inductive UpdState where
  | idle | staging | staged | scheduled | restarting | pending | fallingBack
  deriving DecidableEq, Repr

/-- The update block's state. -/
structure UpdBlock where
  st         : UpdState := .idle
  cmdResult  : Nat := 0
  loc        : Nat := 0
  fbCause    : Nat := 0
  /-- Staging lock: 0 Owner seat, 8 twin, 15 free (R445). -/
  lockSrc    : Nat := 15
  /-- 0 NOT_RUN, 1 RUNNING, 2 PASSED, 3 FAILED (R459). -/
  selftest   : Nat := 0
  runSlot    : Nat := 0
  recovery   : Bool := false
  /-- The bundle as copied for staging: length and nonzero bytes by offset (R444), and the steps of it that have ended. -/
  imageLen   : Nat := 0
  image      : List (Nat × Byte) := []
  pair       : Bool := false
  bundle     : Option Bundle := .none
  /-- The bundle that the twin forwarded: it has arrived whole and asks for the lock at the next tick (R446). -/
  twinBundle : Option (Nat × List (Nat × Byte)) := .none
  /-- Porches whose heads have been sent LOAD in this staging, once the flash is written (R444). -/
  relayed    : Option (List Nat) := .none
  /-- The staging result that takes effect at the next tick: result and WHERE (R444). -/
  stageEnd   : Option (Nat × Nat) := .none
  /-- Head-image operations not yet answered, by porch, oldest first (R447). -/
  asked      : List (Nat × Nat) := []
  /-- Porches of `UPD_HEADS`, and the porches whose heads have accepted ACTIVATE. -/
  loaded     : List Nat := []
  failed     : List Nat := []
  skipped    : List Nat := []
  switched   : List Nat := []
  accepted   : List Nat := []
  /-- Tick of the scheduled or last activation or fallback (R449, R454). -/
  actTick    : Nat := 0
  /-- The device time in ns that TIME_NS gave for the activation (R40, R449). -/
  actNs      : Option Nat := .none
  /-- End of the health window: device time in ns, and core cycles (R453). -/
  windowEnd  : Nat := 0
  windowCyc  : Nat := 0
  /-- The supervisor restart runs (R451), and the core cycle at which it began. -/
  restart    : Bool := false
  restartCyc : Nat := 0
  /-- The fallback in progress has taken effect (R454). -/
  falling    : Bool := false
  /-- `TIL_CTL.BULK_EN` before the restart (R451). -/
  savedBulk  : Bool := true
  /-- A fallback cause found, with the tick after its frame (R454). -/
  fbFound    : Option (Nat × Nat) := .none
  migrFailed : Bool := false
  /-- A Cupboard write in progress: the keys enrolled once it takes effect (R436). -/
  keyWrite   : Option (List (Nat × List Byte)) := .none
  /-- The write has completed and the change takes effect at the next tick. -/
  keyDone    : Bool := false
  /-- The enrolled plan-signing keys in force, by key slot (R436). -/
  keys       : List (Nat × List Byte) := []
  /-- The keys enrolled when the running validation was taken up (R436). -/
  valKeys    : List (List Byte) := []
  /-- Secure SPDM sessions: the LDs that hold them (R433); LD 8 is the FM-owned LD. -/
  sessions   : List Nat := []
  deriving DecidableEq, Repr

end Sys2Proof.Machine
end

