-- ==== Sys2Proof/Blocks/Twin.lean ====
section
/-! DEFINITION. State of twin operation: roles, heartbeat, epochs, claims, relay and resynchronisation (13). -/
namespace Sys2Proof.Machine

/-- A claim that awaits its decision tick (R388, R391). -/
structure Claim where
  epoch   : Nat
  frame   : Nat
  /-- `TWN_CLAIM.TRIGGER` (R401). -/
  trigger : Nat
  /-- Porches whose heads granted and refused, and the verdicts of the refusals. -/
  granted : List Nat := []
  refused : List Nat := []
  live    : List Nat := []
  /-- Porches whose refusal was REFUSED_OWNER_LIVE (R390, R395). -/
  ownerLive : List Nat := []
  deriving DecidableEq, Repr

/-- The twin block's state. -/
structure Twin where
  role      : Role := .none
  /-- The side in force (R375). -/
  side      : Nat := 0
  epoch     : Nat := 0
  seen      : Nat := 0
  cause     : Nat := 0
  causePorch : Nat := 0
  opResult  : Nat := 0
  /-- The twin's last STATE cell, and the frame in which it arrived (R335). -/
  twin      : Option StateCell := .none
  /-- A STATE cell and a heartbeat edge arrived in the current frame (R378). -/
  stateNow  : Bool := false
  edgeNow   : Bool := false
  silent    : Nat := 0
  hbLost    : Bool := false
  sideConflict : Bool := false
  /-- Consecutive STATE cells whose digest or EDITS differ, and whose pending commit differs; of the latter, 2 when the notice is due
  and 3 when it has been raised (R381). -/
  mismatch  : Nat := 0
  pendMis   : Nat := 0
  /-- Consecutive frames whose STATE showed WITHDRAWN, and STANDBY (R388). -/
  twinWdr   : Nat := 0
  twinSby   : Nat := 0
  claim     : Option Claim := .none
  /-- The last claim's result (R401), and what it showed. -/
  claimRes  : Nat := 0
  claimTrig : Nat := 0
  claimGranted : List Nat := []
  claimRefused : List Nat := []
  claimFrame : Nat := 0
  /-- Frame of the last claim of each trigger, while its condition lasts (R388). -/
  lastClaims : List (Nat × Nat) := []
  /-- Epochs for which a GRANT with verdict 1 or 2 to the other side has been received (R388). -/
  grantedOther : List Nat := []
  takeover  : Nat := 0
  /-- Higher and equal epochs reported in the ACKs of one apply tick: the tick, heads above, heads equal (R386). -/
  ackTick   : Nat := 0
  ackAbove  : List Nat := []
  ackEqual  : List Nat := []
  /-- Sequence numbers (apply tick, loop) filled by this unit's late fill, and relayed cells that reached it (R30, R379). -/
  filled    : List (Nat × Nat) := []
  relayed   : List (Nat × Nat) := []
  snapshot  : Bool := false
  /-- The unit's role changes to WITHDRAWN at the next tick, with this cause (R27, R381, R386). -/
  withdrawAt : Option Nat := .none
  /-- Self-diagnosis verdicts reached in the current frame, each acted on at once (R383). -/
  rejoin    : Bool := false
  rejoinOk  : Bool := false
  /-- A resynchronisation runs: the batches installed so far (R399). -/
  sync      : Option (List Nat) := .none
  /-- Tick at which it started. -/
  syncFrom  : Nat := 0
  /-- Batches received in this frame with their loop contexts, installed at the next tick. -/
  syncBatches : List (Nat × List (Nat × Loop)) := []
  /-- This unit's twin is resynchronising from it: next batch to send (R399). -/
  feeding   : Option Nat := .none
  /-- Tables received whole by RESYNC, to be installed by a swap at the next tick (R399). -/
  syncTables : List (Nat × List (Nat × Byte)) := []
  deriving DecidableEq, Repr

end Sys2Proof.Machine
end

