-- ==== Sys2Proof/Machine/State.lean ====
section
/-! DEFINITION. The state of the block, the reasons a step can stop, and the state after reset. State is plain data: every
register, queue, buffer, counter, mode and pin the spec names, and the queue of the commands that wait. -/
namespace Sys2Proof.Machine

/-- Operations written to `OP` fields in the current frame and taken up at the next tick. Only the last write to one field
is kept (R497). -/
structure PendingOps where
  /-- `HRT_CTL.EPOCH_ARM` (R39). -/
  epochArm   : Bool := false
  /-- `PLN_CMD`: operation and FORCE (R90). -/
  plan       : Option (Nat × Bool) := .none
  /-- `PLN_TBL_CTL`: operation and COPY_ACTIVE (R90). -/
  table      : Option (Nat × Bool) := .none
  /-- `MOV_CMD`: operation and ENTRY (R254). -/
  mov        : Option (Nat × Nat) := .none
  /-- Seats whose `SEAT_FEAT_CMD` holds a COMMIT (R422). -/
  feat       : List Nat := []
  /-- `UPD_CMD`: operation and its flag PAIR or TIME_NS (R459). -/
  upd        : Option (Nat × Bool) := .none
  /-- `ATT_CMD` (R475). -/
  att        : Option Nat := .none
  /-- `TWN_CTL` REJOIN (R398). -/
  rejoin     : Bool := false
  /-- `TRC_LE_CMD` RELEASE_ALL with its MAX_REASON (R223). -/
  releaseAll : Option Nat := .none
  /-- `TRC_LE_DCMD` (R217). -/
  desc       : Option Nat := .none
  /-- `LOOP_CTL` by loop: 1 START, 2 OFF, 3 FREEZE, 4 RELEASE (R222). -/
  loops      : List (Nat × Nat) := []
  /-- `TRC_SP_CTL.CLR_COUNT` (R198). -/
  clrCount   : Nat := 0
  deriving DecidableEq, Repr

/-- Why the machine stops with a fault. -/
inductive Fault where
  /-- Raised by a register access whose offset is not naturally aligned for its width: the registers accept only aligned
  accesses (R8) and the spec gives no other access an effect. Safe. -/
  | unaligned
  /-- Raised by a host write that runs past the end of the 256 MB Hall window (R407): the address does not exist. Safe. -/
  | outsideHall
  deriving DecidableEq, Repr

/-- Why the model gives a command no meaning. -/
inductive Refusal where
  /-- Raised by an arm of `exec` whose command has no meaning yet. Safe. -/
  | notModelled (mnemonic : String)
  deriving DecidableEq, Repr

/-- The state of the block. Tables (`List (Nat × α)`) are sorted by key and list no entry equal to the reset value. -/
structure State where
  hrt      : Hearth := {}
  pins     : Pins := {}
  boot     : Boot := {}
  thm      : Thm := {}
  /-- Seats by number (R404). -/
  seats    : List (Nat × Seat) := []
  /-- Orders taken up and not yet DONE, in the order of take-up (R413, R414). -/
  taken    : List TakenOrder := []
  port     : Port := {}
  att      : Attic := {}
  /-- Register words by address: Owner BAR0 offset, or 0x0100_0000 + 0x1_0000·s + offset for the page of seat s. They hold the
  RW, W1C and RC fields, and RO results that hardware writes; the other RO fields are formed when read. -/
  regs     : List (Nat × Word) := []
  /-- The register words as they stood at the last tick: a configuration field in force since then. -/
  live     : List (Nat × Word) := []
  /-- The staged value of `TWN_CTL.SIDE`, the one RWL field (R5, R401), where it is not the side in force. -/
  staged   : Option Nat := .none
  /-- Notices that await the next tick (R27), oldest first. -/
  events   : List Event := []
  /-- Notices that await the tick after the next (R245). -/
  later    : List Event := []
  ops      : PendingOps := {}
  /-- Loops by index; one not listed is in OFF with all-zero state. -/
  loops    : List (Nat × Loop) := []
  eng      : Engine := {}
  plan     : PlanBlock := {}
  mov      : MoveBlock := {}
  est      : EstBlock := {}
  porches  : List (Nat × Porch) := []
  cages    : List (Nat × Cage) := []
  /-- Receive lanes: lane l of porch p under 16p + l. -/
  lanes    : List (Nat × Lane) := []
  cals     : List (Nat × CalRun) := []
  twn      : Twin := {}
  til      : TileBlock := {}
  mem      : MemBlock := {}
  shelves  : List (Nat × Shelf) := []
  /-- Pantry pages retired since `POR_N` (R288). -/
  pantryRetired : Nat := 0
  upd      : UpdBlock := {}
  flash    : Flash := {}
  /-- All addressed RAM in one list of cells: the Hall window of seat s from 2^32 + 2^28·s, the scratch of tile t from
  2^33 + 2^22·t, the memory of job j from 2^40 + 2^37·j. An address not listed reads 0. -/
  ram      : List Host.Cell := []
  /-- The data the last register read, pop or window read returned. -/
  readData : Word := 0
  /-- The model's own count of free values used so far; no value of it means anything to the device. -/
  free     : Nat := 0
  /-- The commands that wait, first in, first out. -/
  pending  : List Instr := []
  deriving DecidableEq, Repr

/-- The block right after reset: `POR_N` asserted with every transmit lane squelched (R477), every register at its reset value, an empty
queue. -/
def State.reset : State := { porches := (List.range 16).map fun p => (p, { squelch := 511 }) }

end Sys2Proof.Machine
end

