-- ==== Sys2Proof/Machine/Ops.lean ====
section
/-! DEFINITION. The named operations over the state: the numbered things, the registers, the addressed RAM, notices, Attic
records and `FAULT_N`. -/
namespace Sys2Proof.Machine

-- Numbered things -------------------------------------------------------------------------------------------------------

def State.seat (s : State) (i : Nat) : Seat := tget (fun _ => {}) s.seats i
def State.updSeat (s : State) (i : Nat) (f : Seat → Seat) : State := { s with seats := tupd (fun _ => {}) s.seats i f }
def State.loop (s : State) (i : Nat) : Loop := tget (fun _ => {}) s.loops i
def State.updLoop (s : State) (i : Nat) (f : Loop → Loop) : State := { s with loops := tupd (fun _ => {}) s.loops i f }
def State.porch (s : State) (p : Nat) : Porch := tget (fun _ => {}) s.porches p
def State.updPorch (s : State) (p : Nat) (f : Porch → Porch) : State := { s with porches := tupd (fun _ => {}) s.porches p f }
def State.cage (s : State) (c : Nat) : Cage := tget (fun _ => {}) s.cages c
def State.updCage (s : State) (c : Nat) (f : Cage → Cage) : State := { s with cages := tupd (fun _ => {}) s.cages c f }
/-- Lane `l` of porch `p`. -/
def State.lane (s : State) (p l : Nat) : Lane := tget (fun _ => {}) s.lanes (16 * p + l)
def State.updLane (s : State) (p l : Nat) (f : Lane → Lane) : State :=
  { s with lanes := tupd (fun _ => {}) s.lanes (16 * p + l) f }
def State.cal (s : State) (p : Nat) : CalRun := tget (fun _ => {}) s.cals p
def State.updCal (s : State) (p : Nat) (f : CalRun → CalRun) : State := { s with cals := tupd (fun _ => {}) s.cals p f }
def State.shelf (s : State) (n : Nat) : Shelf := tget (fun _ => {}) s.shelves n
def State.updShelf (s : State) (n : Nat) (f : Shelf → Shelf) : State := { s with shelves := tupd (fun _ => {}) s.shelves n f }
def State.tile (s : State) (t : Nat) : Tile := tget (fun _ => {}) s.til.tiles t
def State.updTile (s : State) (t : Nat) (f : Tile → Tile) : State :=
  { s with til := { s.til with tiles := tupd (fun _ => {}) s.til.tiles t f } }
def State.job (s : State) (j : Nat) : Job := tget (fun _ => {}) s.til.jobs j
def State.updJob (s : State) (j : Nat) (f : Job → Job) : State :=
  { s with til := { s.til with jobs := tupd (fun _ => {}) s.til.jobs j f } }
def State.dev (s : State) (d : Nat) : Gddr7 := tget (fun _ => {}) s.mem.devs d
def State.updDev (s : State) (d : Nat) (f : Gddr7 → Gddr7) : State :=
  { s with mem := { s.mem with devs := tupd (fun _ => {}) s.mem.devs d f } }
def State.path (s : State) (i : Nat) : PathRec := tget (fun _ => {}) s.mov.paths i
def State.updPath (s : State) (i : Nat) (f : PathRec → PathRec) : State :=
  { s with mov := { s.mov with paths := tupd (fun _ => {}) s.mov.paths i f } }
/-- The path in service of an input port. -/
def State.service (s : State) (i : Nat) : Service := tget (fun _ => {}) s.mov.service i
def State.updService (s : State) (i : Nat) (f : Service → Service) : State :=
  { s with mov := { s.mov with service := tupd (fun _ => {}) s.mov.service i f } }
def State.reflex (s : State) (e : Nat) : Reflex := tget (fun _ => {}) s.mov.reflexes e
def State.updReflex (s : State) (e : Nat) (f : Reflex → Reflex) : State :=
  { s with mov := { s.mov with reflexes := tupd (fun _ => {}) s.mov.reflexes e f } }
def State.spIn (s : State) (i : Nat) : SpInput := tget (fun _ => {}) s.eng.inputs i
def State.updSpIn (s : State) (i : Nat) (f : SpInput → SpInput) : State :=
  { s with eng := { s.eng with inputs := tupd (fun _ => {}) s.eng.inputs i f } }
def State.chan (s : State) (c : Nat) : Channel := tget (fun _ => {}) s.eng.channels c
def State.updChan (s : State) (c : Nat) (f : Channel → Channel) : State :=
  { s with eng := { s.eng with channels := tupd (fun _ => {}) s.eng.channels c f } }
def State.patch (s : State) (m : Nat) : Patch := tget (fun _ => {}) s.est.patches m
def State.updPatch (s : State) (m : Nat) (f : Patch → Patch) : State :=
  { s with est := { s.est with patches := tupd (fun _ => {}) s.est.patches m f } }
def State.die (s : State) (d : Nat) : Die := tget (fun _ => {}) s.thm.dies d
def State.updDie (s : State) (d : Nat) (f : Die → Die) : State :=
  { s with thm := { s.thm with dies := tupd (fun _ => {}) s.thm.dies d f } }

/-- The move with number `id`, while it is known. -/
def State.move? (s : State) (id : Nat) : Option Move := (s.mov.moves.find? (·.1 = id)).map (·.2)
/-- Change the move with number `id`. -/
def State.updMove (s : State) (id : Nat) (f : Move → Move) : State :=
  { s with mov := { s.mov with moves := s.mov.moves.map fun p => if p.1 = id then (p.1, f p.2) else p } }
/-- The table with `TABLE_ID` `t` of the committed plan. -/
def State.table? (s : State) (t : Nat) : Option PlanTable := (s.plan.tables.find? (·.1 = t)).map (·.2)
/-- Change a table of the committed plan. -/
def State.updTable (s : State) (t : Nat) (f : PlanTable → PlanTable) : State :=
  { s with plan := { s.plan with tables := s.plan.tables.map fun p => if p.1 = t then (p.1, f p.2) else p } }

/-- Apply `f` to a state for each number of a list, in order. -/
def State.each (l : List Nat) (f : Nat → State → State) (s : State) : State := l.foldl (fun s i => f i s) s

/-- Scratch pages of each context of a job (R116). -/
def JobRec.pages (r : JobRec) : Nat := (r.scratch + 4095) / 4096

/-- KB that a job's working memory and the backing stores of its contexts take of the unprotected region (R281). -/
def JobRec.needKb (r : JobRec) : Nat := r.gddr7Kb + r.count * (r.scratch / 1024)

/-- Tiles of a job under a placement record (R64). -/
def Placement.tilesOf (v : Placement) (r : JobRec) : Nat := ((v.jobs.find? fun e => e.1 = r.job).map (·.2)).getD r.tiles

-- Registers -------------------------------------------------------------------------------------------------------------

/-- The stored word of a register. -/
def State.reg (s : State) (a : Nat) : Word := tget regReset s.regs a
def State.setReg (s : State) (a : Nat) (w : Word) : State := { s with regs := tset regReset s.regs a w }
/-- The stored word as it stood at the last tick: the configuration in force (DEDUCED, log 6). -/
def State.cfgReg (s : State) (a : Nat) : Word := tget regReset s.live a
/-- A field of a stored register. -/
def State.field (s : State) (a lo n : Nat) : Nat := bitsOf (s.reg a) lo n
/-- A field in force since the last tick. -/
def State.inForce (s : State) (a lo n : Nat) : Nat := bitsOf (s.cfgReg a) lo n
/-- Replace a field of a stored register. -/
def State.setField (s : State) (a lo n v : Nat) : State := s.setReg a (setBits (s.reg a) lo n v)
/-- Add `k` to an RC counter of `n` bits at `lo`, which saturates. -/
def State.count (s : State) (a lo n k : Nat) : State := s.setField a lo n (min (2 ^ n - 1) (s.field a lo n + k))
/-- Raise a maximum field to at least `v`. -/
def State.maxField (s : State) (a lo n v : Nat) : State := s.setField a lo n (max (s.field a lo n) (min (2 ^ n - 1) v))

/-- Use one free value (log 3). -/
def State.freeTick (s : State) : State := { s with free := s.free + 1 }

-- Addressed RAM ---------------------------------------------------------------------------------------------------------

/-- The canonical form of the RAM: addresses strictly rise, and no cell lists the 0 that an unlisted address reads. -/
def Memory.wf (m : List Host.Cell) : Bool := twf (fun _ => (0 : Byte)) m

/-- A byte of RAM; one never written reads 0 (log 7). -/
def State.readByte (s : State) (a : Nat) : Byte := tget (fun _ => 0) s.ram a
def State.writeByte (s : State) (a : Nat) (b : Byte) : State := { s with ram := tset (fun _ => 0) s.ram a b }
/-- Consecutive bytes of RAM from `a`. -/
def State.readBytes (s : State) (a n : Nat) : List Byte := tgetList (fun _ => 0) s.ram a n
def State.writeBytes (s : State) (a : Nat) (l : List Byte) : State := { s with ram := tsetList (fun _ => 0) s.ram a l }
/-- Zero `n` bytes of RAM from `a`. -/
def State.zeroBytes (s : State) (a n : Nat) : State := { s with ram := terase s.ram a n }

/-- Copy `n` bytes of RAM from `src` to `dst`. -/
def State.copyRange (s : State) (src dst n : Nat) : State :=
  (tslice s.ram src n).foldl (fun s c => s.writeByte (dst + c.1) c.2) (s.zeroBytes dst n)

/-- Where the Hall window of a seat begins in RAM (log 8). -/
def hallBase (seat : Nat) : Nat := 2 ^ 32 + 2 ^ 28 * seat
/-- Where the scratch of a tile begins in RAM (log 8). -/
def scratchBase (tile : Nat) : Nat := 2 ^ 33 + 2 ^ 22 * tile
/-- Where the working memory of a job begins in RAM (log 8). -/
def jobBase (job : Nat) : Nat := 2 ^ 40 + 2 ^ 37 * job
/-- Where the Pantry objects and the pinned GDDR7 data of the frame-critical programs begin in RAM (log 8). -/
def framePantry : Nat := 2 ^ 34
def framePinned : Nat := 2 ^ 35
/-- Length of a Hall window (R407). -/
def hallSize : Nat := 2 ^ 28

/-- A byte, and a little-endian number, of a seat's Hall window. -/
def State.hallByte (s : State) (seat off : Nat) : Byte := s.readByte (hallBase seat + off)
def State.hallNat (s : State) (seat off n : Nat) : Nat := leNat (s.readBytes (hallBase seat + off) n)
def State.hallWrite (s : State) (seat off : Nat) (l : List Byte) : State := s.writeBytes (hallBase seat + off) l

-- Time ------------------------------------------------------------------------------------------------------------------

/-- Number of the next tick: one more than the frame's, or the frame number that an alignment step adopts (R15, R47). -/
def State.nextTick (s : State) : Nat := match s.hrt.adopt with | some (f, _) => f | none => s.hrt.frame + 1
/-- The next tick's number as a payload field. -/
def State.tickBytes (s : State) : List Byte := leBytes 8 s.nextTick
/-- Device time of the current tick in units of 2^-16 ns (R36). -/
def State.tickTime (s : State) : Nat := s.hrt.time / 2 ^ 32
/-- Core cycles in `ms` milliseconds (R1). -/
def cyclesMs (ms : Nat) : Nat := 1200000 * ms
/-- Largest steering correction of a frame (R18). -/
def steerMax (c : FrameCfg) : Nat := max 8 ((c.period + 4799) / 4800)

/-- `HRT_OVR_STAT.WINDOW` (R51): overrun frames among the last 1,024 completed frames. -/
def Hearth.windowDone (h : Hearth) : Nat :=
  (h.ovrFrames.filter fun f => decide (f < h.ticks) && decide (h.ticks ≤ f + 1024)).length

-- Roles and porches -----------------------------------------------------------------------------------------------------

/-- The role holds authority (R373). -/
def Role.holds : Role → Bool
  | .active | .solo => true
  | _ => false

/-- `ROLE` as registers, pages and cells show it; 0xF before the first commit (R373, R401). -/
def Role.code : Role → Nat
  | .active => 0
  | .standby => 1
  | .withdrawn => 2
  | .solo => 3
  | .none => 15

/-- `LOCK_STATE` (R45). -/
def Lock.code : Lock → Nat
  | .free => 0
  | .acquire => 1
  | .locked => 2
  | .holdover => 3

/-- The unit holds authority and has not withdrawn in the current frame (R385). -/
def State.commands (s : State) : Bool := s.twn.role.holds && s.twn.withdrawAt.isNone

/-- The LANES entry of a porch in the committed plan. -/
def State.laneEntry (s : State) (p : Nat) : LaneEntry := (s.plan.plan.lanes[p]?).getD {}
/-- Role of a porch in the committed plan: 0 NONE, 1 IMAGER, 2 DRIVE, 3 TAP, 4 LANDING, 5 MONITOR. -/
def State.porchRole (s : State) (p : Nat) : Nat := (s.laneEntry p).role
/-- Porches of a role, ascending. -/
def State.porchesOf (s : State) (role : Nat) : List Nat := (List.range 16).filter fun p => s.porchRole p = role
/-- READY porches of a role, ascending. -/
def State.readyOf (s : State) (role : Nat) : List Nat := (s.porchesOf role).filter fun p => (s.porch p).state = .ready
/-- The Landing (R60). -/
def State.landing (s : State) : Option Nat := (s.porchesOf 4).head?
/-- The porch of a role whose range holds a mirror or port. -/
def State.porchFor (s : State) (role i : Nat) : Option Nat :=
  (s.porchesOf role).find? fun p => let e := s.laneEntry p; decide (e.first ≤ i) && decide (i < e.first + e.count)
/-- The drive porch of a loop: loop `l` is an axis of mirror `l / 2` (R181). -/
def State.drivePorch (s : State) (l : Nat) : Option Nat := s.porchFor 2 (l / 2)

/-- Bit set of a list of small numbers. -/
def bitSet (l : List Nat) : Nat := l.eraseDups.foldl (fun a i => a + 2 ^ i) 0
/-- Members of a bit set of `n` bits, ascending. -/
def members (n w : Nat) : List Nat := (List.range n).filter fun i => w / 2 ^ i % 2 = 1

-- Cells out -------------------------------------------------------------------------------------------------------------

/-- Insert a cell behind every cell of its own or higher precedence (R25, R319). -/
def enqueue (prio : Nat) (c : TxCell) : List (Nat × TxCell) → List (Nat × TxCell)
  | [] => [(prio, c)]
  | (q, d) :: t => if prio < q then (prio, c) :: (q, d) :: t else (q, d) :: enqueue prio c t

/-- Precedence of a Frame and of a Bulk cell. -/
def prioFrame : Nat := 64
def prioBulk : Nat := 128

/-- Queue a cell on a porch. Nothing leaves a porch whose working lanes are all squelched, nor a unit that the trip has stopped
(R347, R486; log 9). -/
def State.send (s : State) (p prio : Nat) (c : TxCell) : State :=
  if s.boot.stopped || (s.porch p).squelch % 256 = 255 then s
  else
    let s := s.updPorch p fun q => { q with sent := enqueue prio c q.sent, txSeq := (q.txSeq + 1) % 65536 }
    let s := s.count (Reg.PCH_Pp_TX p) 32 32 1
    let s := match c with
      | .command c => s.count (Reg.PCH_Pp_CMD p) 32 32 c.entries.length
      | _ => s
    if prio < prioFrame then
      let w := min 43 (Config.freeNat s.free)
      ((s.count (Reg.PCH_Pp_TX p) 16 16 1).maxField (Reg.PCH_Pp_TX p) 0 16 w).freeTick
    else s

/-- Queue one cell on each porch of a list. -/
def State.sendAll (ps : List Nat) (prio : Nat) (c : TxCell) (s : State) : State := s.each ps fun p s => s.send p prio c

/-- Run at the coming tick something that sends cells: its frame is the one the tick begins, and its cells leave in it. -/
def State.inTick (f : State → State) (s : State) : State :=
  let u := f { s with hrt := { s.hrt with frame := s.nextTick, adopt := none, guardNow := s.hrt.guardNext }
                      porches := tmap (fun _ => {}) (fun _ q => { q with sent := [] }) s.porches }
  { u with
    hrt := { u.hrt with frame := s.hrt.frame, adopt := s.hrt.adopt, guardNow := s.hrt.guardNow, guardNext := u.hrt.guardNow }
    porches := (List.range 16).foldl (fun t p =>
      tupd (fun _ => {}) t p fun q => { q with sent := (s.porch p).sent, next := q.next ++ q.sent }) u.porches }

-- Notices ---------------------------------------------------------------------------------------------------------------

/-- Object number of a notice that concerns none (R417). -/
def noObj : Nat := 0xFFFFFFFF

/-- Seat roles (R405, R410): 0 Observer, 1 Operator, 2 Owner. -/
def State.seatRole (s : State) (i : Nat) : Nat := if i = 0 then 2 else s.inForce (Reg.SYS_SEATs_CFG i) 0 2

/-- Raise the notice of bit `b` of the EVT register of source `src` (R419). It is written at the next tick (R27). -/
def State.raiseTo (s : State) (seats : List Nat) (src b : Nat) (obj : Nat := noObj) (arg : Nat := 0) : State :=
  { s with events := s.events ++ [⟨src, 0, b, obj, arg, [], seats⟩] }

/-- Raise a notice to the Owner seat. -/
def State.raise (s : State) (src b : Nat) (obj : Nat := noObj) (arg : Nat := 0) : State := s.raiseTo [0] src b obj arg

/-- Raise a RECORD notice (R417). -/
def State.raiseRecord (s : State) (seats : List Nat) (src event : Nat) (body : List Byte) : State :=
  { s with events := s.events ++ [⟨src, 1, event, noObj, 0, body, seats⟩] }

/-- Sources of notices (R419). -/
def Src.order : Nat := 0
def Src.sys : Nat := 1
def Src.hrt : Nat := 2
def Src.pln : Nat := 3
def Src.mov : Nat := 4
def Src.til : Nat := 5
def Src.mem : Nat := 6
def Src.shf : Nat := 7
def Src.pch : Nat := 8
def Src.lnh : Nat := 9
def Src.twn : Nat := 10
def Src.seatSrc : Nat := 11
def Src.upd : Nat := 12
def Src.att : Nat := 13
def Src.trc : Nat := 14
def Src.thm : Nat := 15

/-- A bit of a seat's own `SEAT_EVT` is set at once, and its notice follows at the next tick (R428). -/
def State.seatEvt (s : State) (seat b : Nat) : State :=
  (s.setField (Reg.SEAT_EVT seat) b 1 1).raiseTo [seat] Src.seatSrc b

/-- A bit of a shelf's `SHF_EVT` is set at once, and its notice follows at the next tick (R307). -/
def State.shelfEvt (s : State) (n b : Nat) (seats : List Nat := [0]) : State :=
  (s.setField (Reg.SHF_EVT n) b 1 1).raiseTo seats Src.shf b n

/-- Every seat; a notice reaches only those in READY (R419). -/
def allSeats : List Nat := List.range 8

-- The Attic's waiting events --------------------------------------------------------------------------------------------

/-- Severities (R461). -/
def Sev.critical : Nat := 0
def Sev.error : Nat := 1
def Sev.warning : Nat := 2
def Sev.info : Nat := 4

/-- An event for the Attic: a record at the next tick, or an increment of an open one (R464). -/
def State.record (s : State) (typ sev key : Nat) (payload : List Byte) : State :=
  { s with att := { s.att with waiting := s.att.waiting ++ [⟨typ, sev, key, payload⟩] } }

/-- Frame number as a payload field. -/
def State.frameBytes (s : State) : List Byte := leBytes 8 s.hrt.frame

-- FAULT_N ---------------------------------------------------------------------------------------------------------------

/-- Set cause `c` of `THM_FAULT` and assert `FAULT_N` (R490). A newly set bit raises `THM_EVT.FAULT` and writes FAULT_ASSERTED
unless another Critical record is written for the same event (`other`; R474). -/
def State.faultOn (s : State) (c : Nat) (other : Bool) : State :=
  if bitAt (s.reg Reg.THM_FAULT) c then s
  else
    let s := (s.setField Reg.THM_FAULT c 1 1).raise Src.thm 6 noObj c
    let s := { s with pins := { s.pins with faultN := false } }
    if other then s else s.record 0x16 Sev.critical 1 [BitVec.ofNat 8 c]

/-- Causes of `FAULT_N` (R490). -/
def FaultCause.fatal : Nat := 1
def FaultCause.verdict : Nat := 2
def FaultCause.soloOverrun : Nat := 3
def FaultCause.timebaseLoss : Nat := 4
def FaultCause.noVariant : Nat := 5
def FaultCause.stateEcc : Nat := 6
def FaultCause.lineLost : Nat := 7
def FaultCause.thermal : Nat := 8
def FaultCause.trip : Nat := 9
def FaultCause.recovery : Nat := 10
def FaultCause.timebaseAbsent : Nat := 11
def FaultCause.supply : Nat := 12

end Sys2Proof.Machine
end

