-- ==== Sys2Proof/Machine/Guard.lean ====
section
/-! DEFINITION. Guard events and their effects: holds, withdrawals, verdicts and claims (R23 to R27, R383 to R388). -/
namespace Sys2Proof.Machine

/-- Codes of the Guard events (R23). -/
def GuardCode.halt : Nat := 1
def GuardCode.light : Nat := 2
def GuardCode.headFault : Nat := 3
def GuardCode.withdraw : Nat := 4
def GuardCode.fatal : Nat := 5
def GuardCode.verdict : Nat := 6
/-- Precedence of a Guard cell that no Guard event calls for, such as a CLAIM that repeats. -/
def prioGuard : Nat := 7

/-- Count a Guard event (`HRT_GUARD_STAT`, R51). Its latency is a free value within the bound of R23 (log 3). -/
def State.guardEvent (s : State) (code : Nat) : State :=
  let s := { s with hrt := { s.hrt with guardNow := true } }
  let s := (s.count Reg.HRT_GUARD_STAT 32 32 1).setField Reg.HRT_GUARD_STAT 16 8 code
  (s.maxField Reg.HRT_GUARD_STAT 0 16 (min 1200 (Config.freeNat s.free))).freeTick

/-- A commit is scheduled, so that it is pending (R73, R335). -/
def PlanBlock.pending (p : PlanBlock) : Bool := decide (p.st = .scheduled) || decide (p.st = .preload)

/-- The role the unit acts in: a unit that has withdrawn in this frame is WITHDRAWN from that instant (R385). -/
def State.roleNow (s : State) : Role := if s.twn.withdrawAt.isSome then .withdrawn else s.twn.role

/-- The STATE cell with the unit's values (R335); `event` is the Guard event it answers, 0 for the Frame-class cell. -/
def State.stateCell (s : State) (event : Nat) : StateCell :=
  { frame := s.hrt.frame, epoch := s.twn.epoch, side := s.twn.side, role := s.roleNow.code, lock := s.hrt.lock.code,
    commitPending := s.plan.pending, fault := !s.pins.faultN, halt := !s.pins.haltN, guard := decide (event ≠ 0),
    reach := bitSet ((List.range 16).filter fun p => (s.porch p).state = .ready), edits := s.eng.edits,
    ovrWindow := s.hrt.windowDone, guardEvent := event,
    pendingTick := if s.plan.pending then s.plan.commitAt else 0, planDigest := s.plan.digest,
    pendingDigest := if s.plan.pending then s.plan.valDigest else 0 }

/-- Send a Guard-class STATE cell to the twin (R23, R24). -/
def State.guardState (s : State) (code : Nat) : State :=
  State.sendAll s.landing.toList code (.state (s.stateCell code)) s

/-- A HOLD of this unit for a Guard event of this frame (R328). -/
def State.holdCell (s : State) (first count cause : Nat) : TxCell :=
  .hold ((s.hrt.frame + 2) % 2 ^ 32) s.twn.epoch first count s.twn.side cause

/-- The pending freeze reason with one more cause: the lowest value wins (R207). -/
def joinFreeze (r pending : Nat) : Nat := if pending = 0 then r else min r pending

/-- A freeze cause of a loop that is not OFF, which takes effect at the next tick (R27, R206). -/
def State.freezeLoop (s : State) (r l : Nat) : State :=
  s.updLoop l fun x => if x.cls = .off then x else { x with frzWait := joinFreeze r x.frzWait }

/-- A freeze cause of every listed loop that satisfies `p`. -/
def State.freezeWhere (s : State) (r : Nat) (p : Nat → Bool) : State :=
  { s with loops := tmap (fun _ => {}) (fun l x => if x.cls = .off || !p l then x else
      { x with frzWait := joinFreeze r x.frzWait }) s.loops }

/-- Send WITHDRAW cells on every drive porch and on the Landing (R23, R334). -/
def State.sendWithdraw (s : State) (reason code : Nat) : State :=
  State.sendAll (s.readyOf 2 ++ s.landing.toList) code
    (.withdraw ⟨s.twn.epoch, s.twn.side, reason, s.hrt.frame⟩) s

/-- The record WITHDRAWAL (R474). -/
def State.recordWithdrawal (s : State) (cause : Nat) : State :=
  s.record 0x0004 Sev.critical 1 ([BitVec.ofNat 8 cause, 0, 0, 0] ++ leBytes 4 s.twn.epoch ++ s.frameBytes)

/-- Command cells that have not left do not leave (R385). -/
def State.dropOpen (s : State) : State :=
  { s with
    porches := tmap (fun _ => {}) (fun _ q => { q with openCell := {} }) s.porches
    loops := tmap (fun _ => {}) (fun _ x => { x with celled := false }) s.loops }

/-- The unit gives up control at once; its role is WITHDRAWN from the next tick (R374, R385). -/
def State.giveUp (s : State) (cause : Nat) : State :=
  ({ s.dropOpen with twn := { s.twn with withdrawAt := some cause } }).recordWithdrawal cause

/-- A withdrawal with its cells and `FAULT_N` (R23, R383). -/
def State.withdraw (s : State) (reason code : Nat) : State :=
  ((s.sendWithdraw reason code).faultOn FaultCause.verdict true).giveUp reason

/-- A self-diagnosis verdict (R383): what each role does; `solo` is the rule of a unit in role SOLO. -/
def State.verdict (s : State) (reason code : Nat) (solo : State → State) : State :=
  let s := s.guardEvent code
  match s.roleNow with
  | .active => s.withdraw reason code
  | .solo => solo s
  | .standby => ((s.guardState code).faultOn FaultCause.verdict true).giveUp reason
  | .withdrawn => (s.guardState code).faultOn FaultCause.verdict false
  | .none => (s.guardState code).faultOn FaultCause.verdict false

/-- Supervisor fatal: the verdict FATAL, with `THM_FAULT` bits 1 and 2 (R23, R383, R486). -/
def State.fatal (s : State) : State :=
  ((s.verdict 6 GuardCode.fatal fun s => s.withdraw 6 GuardCode.fatal).faultOn FaultCause.fatal true)

/-- The epoch a claim is for (R387). -/
def State.claimEpoch (s : State) : Nat := max s.twn.epoch s.twn.seen + 1

/-- Nothing of R388 keeps a STANDBY from claiming. -/
def State.mayClaim (s : State) : Bool :=
  decide (s.roleNow = .standby) && !(s.readyOf 2).isEmpty && !s.twn.sideConflict && s.twn.claim.isNone
    && !s.twn.grantedOther.contains s.claimEpoch

/-- `REASON` of a CLAIM by its trigger (R388). -/
def claimReason (trigger : Nat) : Nat := if trigger = 1 ∨ trigger = 3 then 1 else 2

/-- Claim authority in the current frame (R388, R389). -/
def State.startClaim (s : State) (trigger prio : Nat) : State :=
  let c := s.claimEpoch
  let ps := s.readyOf 2
  let s := State.sendAll ps prio (.claim c s.twn.side (claimReason trigger) s.hrt.frame) s
  { s with twn := { s.twn with
      claim := some { epoch := c, frame := s.hrt.frame, trigger := trigger, live := ps }
      claimRes := 1
      claimTrig := trigger
      claimGranted := []
      claimRefused := []
      claimFrame := s.hrt.frame
      lastClaims := (s.twn.lastClaims.filter fun p => p.1 ≠ trigger) ++ [(trigger, s.hrt.frame)] } }

/-- `HALT_N` asserted (R23, R24, R206): HOLD cells to every drive head, or a STATE cell where the role forbids them, and
every loop that is not OFF freezes at the next tick. A low pulse shorter than 40 ns may pass unseen (R26, log 3). -/
def execHalt (lowNs : Nat) (s : State) : Host.Outcome State Fault Refusal :=
  let seen := decide (40 ≤ lowNs) || Config.freeBool s.free
  let s := s.freeTick
  if seen then
    let s := ({ s with pins := { s.pins with haltN := false } }).guardEvent GuardCode.halt
    let s := if s.commands then State.sendAll (s.readyOf 2) GuardCode.halt (s.holdCell 0 0 GuardCode.halt) s
      else s.guardState GuardCode.halt
    .next (s.freezeWhere 1 fun _ => true)
  else .next s

/-- `HALT_N` returns to its deasserted level (R209). -/
def execHaltNDeasserted (s : State) : Host.Outcome State Fault Refusal :=
  .next { s with pins := { s.pins with haltN := true } }

/-- The guard cores latch the fatal condition (R23, Guard event 5). -/
def execSupervisorFatal (s : State) : Host.Outcome State Fault Refusal := .next s.fatal

/-- The guard cores disagree (R383); a Solo unit acts as for supervisor fatal. -/
def execGuardMismatch (s : State) : Host.Outcome State Fault Refusal :=
  .next (s.verdict 3 GuardCode.verdict fun s => s.withdraw 3 GuardCode.verdict)

end Sys2Proof.Machine
end

