-- ==== Sys2Proof/Machine/Hearth.lean ====
section
/-! DEFINITION. The Hearth: device time, the lock, epoch steps, the time base and the pins it drives (02). -/
namespace Sys2Proof.Machine

/-- This unit is the time reference (R13). -/
def State.isRef (s : State) : Bool := s.twn.role.holds

/-- `TICKIN_MODE` in force (R43): 0 OFF, 1 TWIN, 2 EXTERNAL; the reserved value acts as OFF. -/
def State.tickinMode (s : State) : Nat := let m := s.inForce Reg.HRT_CTL 0 2; if m = 3 then 0 else m

/-- The unit follows a reference (R43, R46): EXTERNAL in every role, TWIN while it is not the time reference. -/
def State.follows (s : State) : Bool := s.tickinMode = 2 || (s.tickinMode = 1 && !s.isRef)

/-- `DIV` of EXTERNAL mode; 0 acts as 1 (R43). -/
def State.tickinDiv (s : State) : Nat := max 1 (s.inForce Reg.HRT_TICKIN_CFG 0 16)

/-- `n` core cycles as picoseconds, rounded to zero; one cycle is 2,500/3 ps (R36). -/
def cyclesPs (n : Int) : Int := n * 2500 / 3

/-- A phase lies within `n` core cycles. -/
def withinCycles (n : Nat) (ps : Int) : Bool := decide (3 * ps.natAbs ≤ 2500 * n)

/-- What `n` core cycles add to device time, in increments of 2^-16 ns, and the place in the sequence of three (R36). -/
def timeIncrements (phase n : Nat) : Nat := 54613 * n + (phase + n) / 3

/-- `HRT_TRIM` in force, saturated (R37). A unit that is not the time reference ignores it. -/
def State.trim (s : State) : Int :=
  if s.isRef then clampInt (-429497) 429497 (signed 32 (s.inForce Reg.HRT_TRIM 0 32)) else 0

/-- The unit follows the device time of the reference (R13, R37): in TWIN mode, once it is aligned. -/
def State.followsTime (s : State) : Bool :=
  !s.isRef && decide (s.tickinMode = 1)
    && match s.hrt.lock with | .locked | .holdover => true | .acquire => s.hrt.aligned | .free => false

/-- The rate of the reference (R37): the frame period of its newest TIME cell in device time and in core cycles. -/
def State.refRate (s : State) : Option (Nat × Nat) :=
  match s.followsTime, s.hrt.refCell with
  | true, some c => if c.periodCyc = 0 then none else some (c.periodDt, c.periodCyc)
  | _, _ => none

/-- Device time after `n` more core cycles, in units of 2^-48 ns; the counter has 80 bits above the fraction (R36). A unit that
follows a reference runs at the reference's rate (R37; DEDUCED, log 43). -/
def State.timeAfter (s : State) (n : Nat) : Nat :=
  match s.refRate with
  | some (dt, cyc) => (s.hrt.time + n * dt * 2 ^ 32 / cyc) % 2 ^ 112
  | none => (s.hrt.time + timeIncrements s.hrt.phase n * (2 ^ 32 + s.trim).toNat) % 2 ^ 112

/-- Device time of the next tick (2^-16 ns) as the TIME cell of this frame gives it (R13, R37). -/
def State.refTime (s : State) : Option Nat :=
  match s.followsTime && s.hrt.cellNow && decide (s.hrt.refFrame = s.hrt.frame), s.hrt.refCell with
  | true, some c => if c.frame ≤ s.hrt.frame + 1 then some (c.tickTime + (s.hrt.frame + 1 - c.frame) * c.periodDt) else none
  | _, _ => none

/-- The increments left over before the next whole sequence of three have been counted into `phase`. -/
def phaseAfter (phase n : Nat) : Nat := (phase + n) % 3

/-- One second of device time in units of 2^-48 ns. -/
def secondUnits : Nat := 10 ^ 9 * 2 ^ 48

/-- The most core cycles that the current frame can last: its period with steering and the alignment step (R18). -/
def Hearth.longest (h : Hearth) : Nat := h.cfg.period + steerMax h.cfg + h.alignBy

/-- A whole second lies within the current frame, its tick and its steering cycles included (R44). -/
def State.secondInFrame (s : State) : Bool :=
  decide (s.hrt.time % secondUnits = 0) || decide (s.timeAfter s.hrt.longest / secondUnits ≠ s.hrt.time / secondUnits)

/-- `PPS_OUT` rises (R44). -/
def execPpsSecond (s : State) : Host.Outcome State Fault Refusal :=
  if s.hrt.running && s.secondInFrame && bitAt (s.cfgReg Reg.HRT_CTL) 6 then
    .next { s with pins := { s.pins with ppsOut := true }, hrt := { s.hrt with ppsRise := some s.hrt.cycles } }
  else .next s

/-- High time of `PPS_OUT` in ms; 0 acts as 1 and values above 500 as 500 (R51). -/
def State.ppsMs (s : State) : Nat := clampNat 1 500 (s.inForce Reg.HRT_PPS_CFG 0 9)

/-- `TIMEBASE_IN` shows no edge for 64 ns (R49): the Hearth goes on from its internal oscillator. -/
def execTimebaseLoss (s : State) : Host.Outcome State Fault Refusal :=
  if s.hrt.timebaseOk then
    let s := { s with hrt := { s.hrt with timebaseOk := false, timebaseBack := false } }
    .next (((s.faultOn FaultCause.timebaseLoss true).raise Src.hrt 4).record 0x0003 Sev.critical 0 s.frameBytes)
  else .next s

/-- `TIMEBASE_IN` has been valid for 1 ms: the Hearth returns to it at the next tick (R49). -/
def execTimebaseReturn (s : State) : Host.Outcome State Fault Refusal :=
  if s.hrt.running && !s.hrt.timebaseOk then .next { s with hrt := { s.hrt with timebaseBack := true } } else .next s

/-- `TIMEBASE_IN` is not valid 100 ms after `POR_N` is deasserted (R479). -/
def execTimebaseAbsent (s : State) : Host.Outcome State Fault Refusal :=
  if s.boot.started && !s.hrt.running then .next (s.faultOn FaultCause.timebaseAbsent false) else .next s

/-- The reference was seen with this phase (R43, R46, R48). In LOCKED and HOLDOVER an edge counts only within S + 16 cycles of
the expected instant. -/
def State.seeReference (s : State) (ps : Int) : State :=
  { s with hrt := { s.hrt with phaseNow := some ps } }.setReg Reg.HRT_PHASE (BitVec.ofNat 64 (twos 32 ps))

/-- A rising edge on `TICK_IN`, `offset` ps from the own tick (R43, R46, R48). -/
def execTickInEdge (offset : Int) (s : State) : Host.Outcome State Fault Refusal :=
  let s := { s with hrt := { s.hrt with edgeNow := true } }
  let ps := offset - (s.inForce Reg.HRT_TICKIN_CFG 32 16 : Nat)
  let window := decide (s.hrt.lock = .locked) || decide (s.hrt.lock = .holdover)
  if s.hrt.running && s.follows && (!window || withinCycles (steerMax s.hrt.cfg + 16) ps) then .next (s.seeReference ps)
  else .next s

/-- Reference ticks from that of the newest cell of this ACQUIRE to the next own tick, when the current frame is lengthened by
`cycles` (R47). -/
def Hearth.ticksFromCell (h : Hearth) (cycles : Nat) : Nat :=
  let period := h.cfg.period
  let num : Int := 2500 * ((h.frame - h.refFrame : Nat) * period + (period + cycles : Nat) : Int) - 3 * h.refPhase
  let den : Int := 2500 * period
  ((num + den / 2) / den).toNat

/-- The frame that an alignment step lengthens is not counted as an overrun frame, even where the step comes after its emit
deadline (R34); `HRT_OVR_TOTAL` counts as the window does (DEDUCED, log 43). -/
def State.uncountFrame (s : State) : State :=
  if s.hrt.ovrFrames.head? = some s.hrt.ticks then
    { s with hrt := { s.hrt with ovrFrames := s.hrt.ovrFrames.tail } }.setField Reg.HRT_OVR_TOTAL 0 32 (s.field Reg.HRT_OVR_TOTAL 0 32 - 1)
  else s

/-- The one alignment step of an ACQUIRE (R47): the current frame is lengthened so that the next tick lies on the reference's. -/
def execAlignmentStep (cycles : BitVec 21) (s : State) : Host.Outcome State Fault Refusal :=
  let h := s.hrt
  let twin := decide (s.tickinMode = 1)
  if h.running && decide (h.lock = .acquire) && !h.aligned && !s.isRef && s.follows && (!twin || h.refCell.isSome)
      && decide (cycles.toNat < h.cfg.period) then
    let adopt := match twin, h.refCell with
      | true, some c =>
        let n := h.ticksFromCell cycles.toNat
        some (c.frame + n, c.tickTime + n * c.periodDt)
      | _, _ => none
    let s := s.uncountFrame
    .next { s with hrt := { s.hrt with aligned := true, alignBy := cycles.toNat, adopt := adopt } }
  else .next s

/-- The reference's tick was due in the frame: always in TWIN mode, every `DIV`-th frame in EXTERNAL mode (R43). -/
def State.refDue (s : State) : Bool := s.tickinMode ≠ 2 || (s.hrt.extCount + 1) % s.tickinDiv = 0

/-- Consecutive frames without a reference, with the frame that ends (R48). -/
def State.silentNext (s : State) : Nat :=
  if s.hrt.phaseNow.isSome || s.hrt.cellNow then 0 else if s.refDue then s.hrt.silent + 1 else s.hrt.silent

/-- Consecutive frames within 2 cycles of the reference, with the frame that ends (R45). -/
def State.nearNext (s : State) : Nat :=
  match s.hrt.phaseNow with
  | some ps => if withinCycles 2 ps then min 64 (s.hrt.near + 1) else 0
  | none => if s.refDue || s.hrt.near = 0 then 0 else min 64 (s.hrt.near + 1)

/-- Put the lock into a state; leaving and reaching LOCKED raise their notices (R51). -/
def State.toLock (s : State) (l : Lock) : State :=
  let s := if s.hrt.lock = .locked ∧ l ≠ .locked then s.raise Src.hrt 2 else s
  let s := if s.hrt.lock ≠ .locked ∧ l = .locked then s.raise Src.hrt 3 else s
  { s with hrt := { s.hrt with lock := l } }

/-- Enter ACQUIRE: its alignment step and its TIME cell are still to come (R47). -/
def State.toAcquire (s : State) : State :=
  let s := s.toLock .acquire
  { s with hrt := { s.hrt with aligned := false, refCell := none, near := 0 } }

/-- The tick has stayed within 2 cycles for 64 frames, this one included, and the unit is aligned (R45, R47). -/
def State.lockDue (s : State) : Bool :=
  decide (s.hrt.lock = .acquire) && decide (64 ≤ s.nearNext) && (s.isRef || s.hrt.aligned) && s.follows

/-- The lock state becomes LOCKED (R45). -/
def execLockGained (s : State) : Host.Outcome State Fault Refusal :=
  if s.lockDue then .next (s.toLock .locked) else .next s

/-- The reference is lost: HOLDOVER from LOCKED, FREE from ACQUIRE (R48). -/
def State.loseReference (s : State) : State :=
  if 3 ≤ s.silentNext then
    match s.hrt.lock with
    | .locked => s.toLock .holdover
    | .acquire => s.toLock .free
    | _ => s
  else s

/-- No edge and no TIME cell for 3 consecutive frames (R48). -/
def execReferenceLost (s : State) : Host.Outcome State Fault Refusal := .next s.loseReference

/-- The unit takes authority by a claim at this tick (R14, R48). -/
def State.takesOver (s : State) : Bool := decide (s.twn.takeover = s.nextTick) && s.isRef

/-- The lock at a tick, from what the frame that ends showed, and from the role of the new frame (R45 to R48). -/
def State.lockTick (s : State) : State :=
  let near := s.nearNext
  let silent := s.silentNext
  let s1 :=
    if !s.follows || (s.takesOver && decide (s.hrt.lock = .holdover)) then (if s.hrt.lock = .free then s else s.toLock .free)
    else
      match s.hrt.lock, s.hrt.phaseNow with
      | .free, some _ => s.toAcquire
      | .locked, some ps => if withinCycles 16 ps then s else s.toAcquire
      | .holdover, some ps => if withinCycles 8 ps then s.toLock .locked else s.toAcquire
      | .acquire, _ => if s.lockDue then s.toLock .locked else s.loseReference
      | _, none => s.loseReference
  { s1 with hrt := { s1.hrt with
      near := if s1.hrt.lock = .acquire && s.hrt.lock ≠ .acquire then 0 else near
      silent := silent
      extCount := if s.refDue || s.hrt.phaseNow.isSome then 0 else s.hrt.extCount + 1
      edgeSeen := s.hrt.edgeNow
      edgeNow := false
      cellNow := false
      phaseNow := none } }

/-- The steering correction of the frame that ends (R18, R45): at most S cycles of its own period; kept in HOLDOVER; none in FREE but for the phase
difference of a return to `TIMEBASE_IN` (R49). -/
def State.steering (s : State) (want : Int) : Int :=
  let limit (x : Int) : Int := clampInt (-(steerMax s.hrt.cfg : Int)) (steerMax s.hrt.cfg) x
  let c := limit want
  match s.hrt.lock with
  | .holdover => limit s.hrt.steer
  | .locked => c
  | .acquire => if s.isRef || s.hrt.aligned || s.hrt.slew then c else 0
  | .free => if s.hrt.slew then c else 0

/-- Device time and the cycle count at the next tick (R18, R36, R39, R47); the frame's length is its period with the steering
correction and the alignment step. -/
def State.advance (s : State) (want : Int) : State :=
  let d := s.steering want
  let n := ((s.hrt.cfg.period : Int) + d + s.hrt.alignBy).toNat
  let time := match s.hrt.setTime, s.hrt.adopt with
    | some t, _ => t * 2 ^ 32 % 2 ^ 112
    | none, some (_, t) => t * 2 ^ 32 % 2 ^ 112
    | none, none => match s.refTime with | some t => t * 2 ^ 32 % 2 ^ 112 | none => s.timeAfter n
  { s with hrt := { s.hrt with
      time := time
      phase := phaseAfter s.hrt.phase n
      cycles := s.hrt.cycles + n
      ticks := s.hrt.ticks + 1
      steer := d
      slew := s.hrt.slew && decide (want ≠ 0)
      alignBy := 0
      setTime := none
      stepped := s.hrt.setTime.isSome || s.hrt.adopt.isSome } }

/-- A kept frame number after an adoption that moved the numbers by `d`: what is counted in frames goes on counting (R18, R47). -/
def renumber (d : Int) (f : Nat) : Nat := (f + d).toNat

/-- The frame numbers that durations are counted from, after an adoption that moved the numbers by `d`. -/
def State.renumberAll (s : State) (d : Int) : State :=
  { s with
    twn := { s.twn with
      claim := s.twn.claim.map fun c => { c with frame := renumber d c.frame }
      lastClaims := s.twn.lastClaims.map fun e => (e.1, renumber d e.2) }
    cals := tmap (fun _ => {}) (fun _ c =>
      if c.phase = .idle then c else { c with start := renumber d c.start, lostAt := renumber d c.lostAt }) s.cals
    est := { s.est with round := s.est.round.map (renumber d) } }

/-- The frame number rises by one, or becomes the adopted one (R15). -/
def State.newFrame (s : State) : State :=
  let d : Int := (s.nextTick : Int) - (s.hrt.frame + 1 : Nat)
  let s := if d = 0 then s else s.renumberAll d
  { s with hrt := { s.hrt with frame := s.nextTick, adopt := none } }

/-- Writing 1 to `HRT_CTL.EPOCH_ARM`; taken up at the next tick (R38, R39, R497). -/
def execEpochArm (s : State) : Host.Outcome State Fault Refusal := .next { s with ops := { s.ops with epochArm := true } }

/-- `EPOCH_RESULT` (R51). -/
def State.epochResult (s : State) (r : Nat) : State := s.setField Reg.HRT_STATUS 8 3 r

/-- The Hearth takes up an arm at tick k, the next tick (R39). -/
def State.takeArm (s : State) : State :=
  if s.ops.epochArm then
    let s := { s with ops := { s.ops with epochArm := false } }
    let k := s.nextTick
    let at_ := (s.reg Reg.HRT_EPOCH_TICK).toNat
    if at_ ≠ 0 ∧ at_ < k + 4 then (s.epochResult 3).raise Src.hrt 1
    else if !s.isRef then (s.epochResult 4).raise Src.hrt 1
    else if s.hrt.epochStep.isSome then (s.epochResult 5).raise Src.hrt 1
    else
      let v := (s.reg Reg.HRT_EPOCH_NS).toNat * 65536 + s.field Reg.HRT_EPOCH_FRAC 0 16
      { s with hrt := { s.hrt with epochStep := some (if at_ = 0 then k + 4 else at_, v) } }.epochResult 1
  else s

/-- A pending epoch step whose tick is the next one is made at that tick (R39). -/
def State.stepEpoch (s : State) : State :=
  match s.hrt.epochStep with
  | some (t, v) =>
    if t ≤ s.nextTick then
      (({ s with hrt := { s.hrt with epochStep := none, setTime := some v } }).epochResult 2).raise Src.hrt 0
    else s
  | none => s

/-- The step tick of a pending epoch step (R39). -/
def execEpochStep (s : State) : Host.Outcome State Fault Refusal := .next s.stepEpoch

/-- Pins and time base at the tick (R42, R44, R49, R377). -/
def State.pinTick (s : State) : State :=
  let fall := match s.hrt.ppsRise with | some c => decide (c + cyclesMs s.ppsMs ≤ s.hrt.cycles) | none => true
  let back := s.hrt.timebaseBack
  { s with
    pins := { s.pins with
      tickOut := s.boot.ready && bitAt (s.cfgReg Reg.HRT_CTL) 5
      hbOut := s.boot.ready && !s.boot.stopped && (decide (s.twn.role = .active) || decide (s.twn.role = .standby)
        || decide (s.twn.role = .solo))
      ppsOut := s.pins.ppsOut && !fall }
    hrt := { s.hrt with
      ppsRise := if fall then none else s.hrt.ppsRise
      timebaseOk := s.hrt.timebaseOk || back
      timebaseBack := false
      slew := s.hrt.slew || back } }

/-- The overrun frames among the last 1,024 frames, the current one counted (R34). -/
def Hearth.windowAfter (h : Hearth) : List Nat := (h.ticks :: h.ovrFrames).filter fun f => decide (h.ticks < f + 1024)

/-- The overrun verdict on a unit in role SOLO (R35). -/
def State.soloOverrun (s : State) : State :=
  if bitAt (s.cfgReg Reg.HRT_CTL) 7 then s.withdraw 2 GuardCode.verdict
  else
    let n := s.hrt.ovrFrames.length
    let s := (s.faultOn FaultCause.soloOverrun true).record 0x0002 Sev.critical 0 (s.frameBytes ++ leBytes 2 n)
    { s with hrt := { s.hrt with ovrFrames := [] } }

/-- At the emit deadline, an overrun frame raises its notice and is counted, and the sixteenth reaches the verdict (R34, R35). The
frame that an alignment step lengthens is an overrun frame too, and it is not counted (log 43). -/
def State.overrunFrame (s : State) : State :=
  if s.hrt.ovrNow.isEmpty then s
  else
    let s := (s.raise Src.hrt 5).setReg Reg.HRT_OVR_LAST (BitVec.ofNat 64 s.hrt.frame)
    if s.hrt.alignBy ≠ 0 then s
    else
    let s := { s with hrt := { s.hrt with ovrFrames := s.hrt.windowAfter } }
    let s := s.count Reg.HRT_OVR_TOTAL 0 32 1
    if s.hrt.ovrFrames.length = 16 then (s.raise Src.hrt 7).verdict 2 GuardCode.verdict State.soloOverrun else s

/-- A loop overruns in the current frame (R31, R32): its counts rise once. -/
def State.loopOverrun (s : State) (l : Nat) : State :=
  if s.hrt.ovrNow.contains l then s
  else
    let s := s.updLoop l fun x => { x with ovrRun := x.ovrRun + 1 }
    let s := s.count (Reg.LOOP_COUNT l) 32 32 1
    let s := { s with hrt := { s.hrt with ovrNow := s.hrt.ovrNow ++ [l] } }
    s.setField Reg.HRT_OVR_STAT 32 15 s.hrt.ovrNow.length

/-- A pass overrun: loops whose estimates had landed were not computed (R33). -/
def State.passOverrun (s : State) (n : Nat) : State :=
  if n = 0 then s
  else ((s.count Reg.HRT_OVR_TOTAL 32 32 1).raise Src.hrt 6).record 0x0001 Sev.error 0 (s.frameBytes ++ leBytes 4 n)

end Sys2Proof.Machine
end

