-- ==== Sys2Proof/Machine/Arith.lean ====
section
/-! DEFINITION. The fixed-point arithmetic of the loop engine and the conversions from FP32 (05). A Q1.15 value is an integer
number of LSB from −32,768 to 32,767; a Q9.31 value an integer number of 2^-31. -/
namespace Sys2Proof.Machine

/-- `x / 2^n` rounded to the nearest integer, ties to even (R145). -/
def rne (x : Int) (n : Nat) : Int :=
  let d : Int := 2 ^ n
  let q := x / d
  let r := x % d
  if 2 * r < d then q else if d < 2 * r then q + 1 else if q % 2 = 0 then q else q + 1

/-- `x / d` for a positive `d`, rounded to the nearest integer, ties to even. -/
def rneDiv (x : Int) (d : Nat) : Int :=
  let q := x / d
  let r := x % d
  if 2 * r < d then q else if (d : Int) < 2 * r then q + 1 else if q % 2 = 0 then q else q + 1

/-- Saturate to Q1.15. -/
def sat15 (x : Int) : Int := clampInt (-32768) 32767 x

/-- Saturate a Q9.31 accumulator (R139). -/
def sat931 (x : Int) : Int := clampInt (-(2 ^ 39)) (2 ^ 39 - 1) x

/-- Product of two Q1.15 values in Q9.31: exact, the Q2.30 product shifted left by one bit (R139). -/
def mulQ (a b : Int) : Int := 2 * a * b

/-- Conversion from Q9.31 to Q1.15 with output shift `s`: exact shift, round to nearest-even, saturate (R140). -/
def toQ15 (acc : Int) (s : Nat) : Int := sat15 (rne (acc * 2 ^ s) 16)

/-- A Q1.15 value in Q9.31. -/
def ofQ15 (x : Int) : Int := x * 2 ^ 16

/-- Accumulate products in order; each addition saturates (R139). -/
def macQ (l : List (Int × Int)) : Int := l.foldl (fun acc p => sat931 (acc + mulQ p.1 p.2)) 0

/-- Integer square root from the bit `n` down: the largest root whose square does not exceed `x`. -/
def isqrtFrom : Nat → Nat → Nat → Nat
  | 0, _, r => r
  | n + 1, x, r => let t := r + 2 ^ n; isqrtFrom n x (if t * t ≤ x then t else r)

/-- ⌊√x⌋ for x below 2^48. -/
def isqrt (x : Nat) : Nat := isqrtFrom 24 x 0

/-- The parts of an FP32 value: sign, biased exponent, fraction. -/
def f32Neg (w : BitVec 32) : Bool := decide (2 ^ 31 ≤ w.toNat)
def f32Exp (w : BitVec 32) : Nat := w.toNat / 2 ^ 23 % 256
def f32Frac (w : BitVec 32) : Nat := w.toNat % 2 ^ 23

/-- NaN or ±∞. -/
def f32NonFinite (w : BitVec 32) : Bool := decide (f32Exp w = 255)

/-- A finite FP32 value times `2^k`, rounded to the nearest integer, ties to even (R142). -/
def f32Scaled (w : BitVec 32) (k : Nat) : Int :=
  let e := f32Exp w
  let m : Int := if e = 0 then f32Frac w else 2 ^ 23 + f32Frac w
  let sh := (if e = 0 then 1 else e) + k
  let v := if 150 ≤ sh then m * 2 ^ (sh - 150) else rne m (150 - sh)
  if f32Neg w then -v else v

/-- FP32 to Q1.15 under RNE; values out of range saturate (R142). -/
def f32ToQ15 (w : BitVec 32) : Int := sat15 (f32Scaled w 15)

/-- FP32 to Q0.16 under RNE; values out of range saturate (R142). -/
def f32ToQ016 (w : BitVec 32) : Nat := (clampInt 0 65535 (f32Scaled w 16)).toNat

/-- FP32 spot energy in units of 2^-12, saturated (R161). -/
def f32ToEnergy (w : BitVec 32) : Nat := (clampInt 0 65535 (f32Scaled w 12)).toNat

end Sys2Proof.Machine
end

