-- ==== Sys2Proof/Machine/LoopCalc.lean ====
section
/-! DEFINITION. What a loop computes in one frame: the descriptor's fields, the limiter, the section cascade, ACQUIRE, the
prediction and the supervision (07). -/
namespace Sys2Proof.Machine

-- The descriptor (R214) ---------------------------------------------------------------------------------------------------

/-- `n` bytes of a descriptor from offset `o`, little-endian. -/
def descNat (d : BitVec 512) (o n : Nat) : Nat := d.toNat / 2 ^ (8 * o) % 2 ^ (8 * n)
/-- A signed 16-bit field. -/
def descInt (d : BitVec 512) (o : Nat) : Int := signed 16 (descNat d o 2)

def Desc.runClass (d : BitVec 512) : Nat := descNat d 0 1
def Desc.dp (d : BitVec 512) : Nat := descNat d 1 1
def Desc.nsec (d : BitVec 512) : Nat := descNat d 2 1 % 8
def Desc.spSrc (d : BitVec 512) : Nat := descNat d 2 1 / 8 % 4
def Desc.swap (d : BitVec 512) : Bool := decide (descNat d 2 1 / 32 % 2 = 1)
def Desc.plausEn (d : BitVec 512) : Bool := decide (descNat d 2 1 / 64 % 2 = 1)
def Desc.shift (d : BitVec 512) (k : Nat) : Nat := descNat d 3 1 / 4 ^ k % 4
def Desc.lut (d : BitVec 512) : Nat := descNat d 4 1
def Desc.lutShift (d : BitVec 512) : Nat := descNat d 5 1 % 16
def Desc.kiShift (d : BitVec 512) : Nat := descNat d 5 1 / 16
def Desc.ki (d : BitVec 512) : Int := descInt d 6
def Desc.iMin (d : BitVec 512) : Int := descInt d 8
def Desc.iMax (d : BitVec 512) : Int := descInt d 10
def Desc.park (d : BitVec 512) : Int := descInt d 12
def Desc.holdIn (d : BitVec 512) : Int := descInt d 14
def Desc.spRate (d : BitVec 512) : Nat := descNat d 16 2
def Desc.spAcc (d : BitVec 512) : Nat := descNat d 18 2
def Desc.cmdRate (d : BitVec 512) : Nat := descNat d 20 2
def Desc.cmdAcc (d : BitVec 512) : Nat := descNat d 22 2
/-- Coefficient `j` (B0, B1, B2, A1, A2) of section `k`. -/
def Desc.coef (d : BitVec 512) (k j : Nat) : Int := descInt d (24 + 10 * k + 2 * j)

/-- The run class of a descriptor as a loop class: HOLD or TRACK. -/
def Desc.run (d : BitVec 512) : LoopClass := if Desc.runClass d = 4 then .track else .hold

-- The limiter (R193) ------------------------------------------------------------------------------------------------------

/-- The braking bound of R193. -/
def brakeBound (a : Nat) (d : Int) : Int := ((isqrt (a * a + 8 * a * d.natAbs) : Int) - a) / 2

/-- One frame of a limiter with target `c`, rate limit `m` and acceleration limit `a` (R193). -/
def limit (x : Limiter) (c : Int) (m a : Nat) : Limiter :=
  let d := c - x.u
  if d.natAbs ≤ a ∧ x.v.natAbs ≤ a then { u := c, v := 0 }
  else
    let w := clampInt (-(m : Int)) m d
    let b := brakeBound a d
    let w := clampInt (-b) b w
    let v := clampInt (x.v - a) (x.v + a) w
    { u := sat15 (x.u + v), v := v }

/-- One frame of a limiter that comes to rest under `a` (R247). -/
def limitStop (x : Limiter) (a : Nat) : Limiter :=
  let v := x.v - x.v.sign * min a x.v.natAbs
  { u := sat15 (x.u + v), v := v }

/-- The stop point of R247, over at most `n` frames. -/
def stopPoint : Nat → Limiter → Nat → Int
  | 0, x, _ => x.u
  | n + 1, x, a => if x.v = 0 then x.u else stopPoint n (limitStop x a) a

-- Sections (R191) ---------------------------------------------------------------------------------------------------------

/-- One section on input `x` with coefficients B0, B1, B2, A1, A2 and post-shift `s` (R191). -/
def sectionOut (c : Nat → Int) (s : Nat) (st : Section) (x : Int) : Int :=
  toQ15 (macQ [(c 0, x), (c 1, st.x1), (c 2, st.x2), (c 3, st.y1), (c 4, st.y2)]) s

/-- The states of a section after input `x` and output `y`. -/
def sectionNext (st : Section) (x y : Int) : Section := { x1 := x, x2 := st.x1, y1 := y, y2 := st.y1 }

/-- The cascade of sections `k` to `k + n - 1`: their new states and the last output (R191). -/
def cascade (d : BitVec 512) : Nat → Nat → List Section → Int → List Section × Int
  | 0, _, _, x => ([], x)
  | n + 1, k, sts, x =>
    let st := (sts.head?).getD {}
    let y := sectionOut (Desc.coef d k) (Desc.shift d k) st x
    let r := cascade d n (k + 1) sts.tail y
    (sectionNext st x y :: r.1, r.2)

-- Tables of the loop engine -----------------------------------------------------------------------------------------------

/-- The committed plan's table of a `KIND`. -/
def State.tableOfKind (s : State) (k : Nat) : Option PlanTable :=
  (s.plan.tables.find? fun p => p.2.desc.kind = k).map (·.2)

/-- `n` bytes at offset `o` of sparse table contents, little-endian. -/
def bankNat (b : List (Nat × Byte)) (o n : Nat) : Nat := leNat (tgetList (fun _ => 0) b o n)

/-- A PLANT entry (R200). -/
structure PlantRec where
  p1     : Int
  p2     : Int
  q1     : Int
  q2     : Int
  shift  : Nat
  n      : Nat
  resTh  : Int
  confTh : Nat
  deriving DecidableEq, Repr

/-- Entry `l` of a PLANT bank. -/
def plantOf (b : List (Nat × Byte)) (l : Nat) : PlantRec :=
  let o := 16 * l
  { p1 := signed 16 (bankNat b o 2), p2 := signed 16 (bankNat b (o + 2) 2), q1 := signed 16 (bankNat b (o + 4) 2),
    q2 := signed 16 (bankNat b (o + 6) 2), shift := bankNat b (o + 8) 1 % 4, n := bankNat b (o + 9) 1,
    resTh := signed 16 (bankNat b (o + 10) 2), confTh := bankNat b (o + 12) 2 }

/-- The PLANT entry of a loop, when the committed plan has the table (R200, R202). -/
def State.plant? (s : State) (l : Nat) : Option PlantRec := (s.tableOfKind 2).map fun t => plantOf t.bank l

/-- The confidence threshold of ACQUIRE (R199, R202). -/
def State.acqConf (s : State) (l : Nat) : Nat :=
  match s.plant? l with | some p => p.confTh | none => s.inForce Reg.TRC_LE_ACQ 40 16

/-- `WAIT_FRAMES`; 0 acts as 1 (R223). -/
def State.waitFrames (s : State) : Nat := max 1 (s.inForce Reg.TRC_LE_ACQ 32 8)
/-- `ACQ_FRAMES`; 0 acts as 1 (R223). -/
def State.acqLimit (s : State) : Nat := max 1 (s.inForce Reg.TRC_LE_ACQ 0 32)

/-- The slew gain, Q4.12 (R216). -/
def State.slewGain (s : State) (d : BitVec 512) (e : Int) : Nat :=
  match s.tableOfKind 1 with
  | some t => bankNat t.bank (512 * Desc.lut d + 2 * min 255 (e.natAbs / 2 ^ Desc.lutShift d)) 2
  | none => 0

/-- The set-point of a loop from its input (R197, R198): an SP_MAP entry without an input 0 to 7 gives x = 0. -/
def State.inputSetpoint (s : State) (l : Nat) : Int :=
  match s.tableOfKind 3 with
  | some t =>
    let o := 8 * (8 + l)
    let i := bankNat t.bank (o + 4) 1
    let x := if i ≤ 7 then (s.spIn i).x else 0
    toQ15 (mulQ (signed 16 (bankNat t.bank o 2)) x + ofQ15 (signed 16 (bankNat t.bank (o + 2) 2))) 0
  | none => 0

/-- Offset that the adaptation service adds to the static set-point of a loop (R176). -/
def State.dither (s : State) (l : Nat) : Int :=
  match s.est.dithered.find? (·.1 = l / 2) with | some (_, x, y) => if l % 2 = 0 then x else y | none => 0

/-- The set-point source's value (R195): the leg of the move that holds the loop, the host's value, or the input's. -/
def State.source (s : State) (l : Nat) (x : Loop) : Int :=
  match x.leg with
  | some g => g.target
  | none => if Desc.spSrc x.desc = 1 then s.inputSetpoint l else sat15 (x.setpoint + s.dither l)

/-- One frame of the set-point limiter: a leg's limits replace the descriptor's, a stop decelerates (R193, R232, R247). -/
def State.spStep (s : State) (l : Nat) (x : Loop) : Limiter :=
  match x.leg with
  | some g => if g.stop then limitStop x.sp g.acc else limit x.sp g.target g.rate g.acc
  | none => limit x.sp (s.source l x) (Desc.spRate x.desc) (Desc.spAcc x.desc)

-- Prediction (R201, R202) -------------------------------------------------------------------------------------------------

/-- The command held for an apply tick, or for the newest earlier tick that has one, or the held command (R194, R201). -/
def Loop.commandAt (x : Loop) (t : Nat) : Int :=
  match x.sentCmds.find? fun p => p.1 ≤ t with | some p => p.2 | none => x.heldCmd

/-- The prediction ŷ in the frame with number `frame`, and whether the residual is formed from it (R201, R202). -/
def State.predict (s : State) (l : Nat) (x : Loop) : Int × Bool :=
  match s.plant? l, x.angles with
  | some p, y1 :: y2 :: _ =>
    let n := s.hrt.frame - 1
    (toQ15 (macQ [(p.p1, y1), (p.p2, y2), (p.q1, x.commandAt n), (p.q2, x.commandAt (n - 1))]) p.shift, true)
  | _, y1 :: _ => (y1, false)
  | _, [] => (x.heldCmd, false)

/-- Enter an angle into the history of the last two exposures (R201). -/
def Loop.pushAngle (x : Loop) (a : Int) : Loop := { x with angles := (a :: x.angles).take 2 }

-- The computation of a frame ----------------------------------------------------------------------------------------------

/-- Bit 0 of `FLAGS`: the record is VALID (R162). -/
def estValid (r : EstRec) : Bool := decide (r.flags % 2 = 1)

/-- The angle a loop reads from a record (R181). -/
def Loop.angleOf (l : Nat) (x : Loop) (r : EstRec) : Int :=
  if decide (l % 2 = 0) != Desc.swap x.desc then r.thetaX else r.thetaY

/-- Integration with anti-windup (R190): nothing is added while the previous command was limited on the side of `e`. -/
def Loop.integrate (x : Loop) (e : Int) (valid : Bool) : Int :=
  let d := x.desc
  let excess := x.cmdIn - x.cmd.u
  if !valid || decide (Desc.ki d = 0) || (decide (excess ≠ 0) && decide (e.sign = excess.sign)) then x.integ
  else clampInt (ofQ15 (Desc.iMin d)) (ofQ15 (Desc.iMax d)) (sat931 (x.integ + rne (mulQ (Desc.ki d) e) (Desc.kiShift d)))

/-- What a record shows of a loop in the frame: residual, and whether the frame is bad (R203, R204). -/
structure Check where
  resid  : Int
  armed  : Bool
  bad    : Bool
  /-- Bad only by confidence or validity (R205). -/
  low    : Bool
  limitN : Nat
  deriving DecidableEq, Repr

/-- Supervision of a frame (R203): residual and confidence against the PLANT entry, once the warm-up is over. -/
def State.check (s : State) (l : Nat) (x : Loop) (r : EstRec) (theta yhat : Int) (formed : Bool) : Check :=
  let resid := if estValid r && formed then sat15 (theta - yhat) else 0
  match s.plant? l with
  | some p =>
    let armed := Desc.plausEn x.desc && decide (x.warm = 0)
    let far := decide (p.resTh < (resid.natAbs : Int))
    let low := !estValid r || decide (r.conf < p.confTh)
    { resid := resid, armed := armed, bad := armed && (low || far), low := low && !far, limitN := p.n }
  | none => { resid := resid, armed := false, bad := false, low := false, limitN := 0 }

/-- Hand-over conditions of a frame (R192, R238): the limiter has arrived at rest, the error is small, and a move that holds the
loop is on its last leg. -/
def Loop.arrived (x : Loop) (src : Int) (sp : Limiter) (e : Int) : Bool :=
  decide (sp.u = src) && decide (sp.v = 0) && decide ((e.natAbs : Int) ≤ Desc.holdIn x.desc)
    && (match x.leg with | some g => g.last | none => !x.held)

/-- A loop in SLEW, HOLD or TRACK computes its command from a record (R190 to R205). -/
def State.computeRun (s : State) (l : Nat) (x : Loop) (r : EstRec) : Loop :=
  let d := x.desc
  let pr := s.predict l x
  let read := x.angleOf l r
  let theta := if estValid r then read else pr.1
  let chk := s.check l x r theta pr.1 pr.2
  let sp := s.spStep l x
  let src := match x.leg with | some g => if g.stop then sp.u else g.target | none => s.source l x
  let e := sat15 (sp.u - theta)
  let slew := decide (x.cls = .slew)
  let integ := if slew then x.integ else x.integrate e (estValid r)
  let cas := if slew then (x.secs, 0) else cascade d (Desc.nsec d) 0 x.secs e
  let out := if slew then toQ15 (sat931 (x.integ + s.slewGain d e * e * 16)) 0
    else toQ15 (sat931 (integ + ofQ15 (if Desc.nsec d = 0 then 0 else cas.2))) 0
  let lim := limit x.cmd out (Desc.cmdRate d) (Desc.cmdAcc d)
  let bad := if chk.bad then x.bad + 1 else 0
  let stopNow := chk.bad && decide (chk.limitN ≤ bad)
  let u := if stopNow then x.heldCmd else lim.u
  { x.pushAngle theta with
    sp := sp
    cmd := lim
    integ := integ
    secs := cas.1
    cmdIn := out
    bad := bad
    lowConf := chk.low
    handRun := if slew && x.arrived src sp e then x.handRun + 1 else 0
    ready := some u
    now := { x.now with
      estTick := r.tick, estFlags := r.flags, theta := read, conf := r.conf, predict := pr.1, resid := chk.resid
      spRate := sp.v, rEff := sp.u, integ := toQ15 integ 0, bad := bad } }

/-- The sweep target moves by one frame and reverses at the bounds (R199). -/
def sweepStep (d : BitVec 512) (even : Bool) (x : Loop) : Int × Bool :=
  let rate : Int := if even then Desc.cmdRate d else max 1 (Desc.cmdRate d / 8)
  if x.sweepUp then
    let t := x.sweep + rate
    if Desc.iMax d ≤ t then (Desc.iMax d, false) else (t, true)
  else
    let t := x.sweep - rate
    if t ≤ Desc.iMin d then (Desc.iMin d, true) else (t, false)

/-- A loop in ACQUIRE computes its open-loop command (R199). `leave`: a confident record ends the sweep of the mirror. -/
def State.computeAcquire (s : State) (l : Nat) (x : Loop) (r : EstRec) (leave : Bool) : Loop :=
  let d := x.desc
  let lim (t : Int) := limit x.cmd t (Desc.cmdRate d) (Desc.cmdAcc d)
  let sure := estValid r && decide (s.acqConf l ≤ r.conf)
  let read := x.angleOf l r
  let x1 := if estValid r then x.pushAngle read else x
  let pr := s.predict l x
  let x1 := { x1 with now := { x1.now with
    estTick := r.tick, estFlags := r.flags, theta := read, conf := r.conf, predict := pr.1
    resid := if estValid r && pr.2 then sat15 (read - pr.1) else 0
    bad := 0, integ := toQ15 x.integ 0, spRate := x.sp.v, rEff := x.sp.u } }
  match x.phase with
  | .park =>
    let c := lim (Desc.park d)
    let x1 := { x1 with cmd := c, ready := some c.u, cmdIn := Desc.park d }
    if c.u = Desc.park d then
      { x1 with phase := .wait, fromPark := true, waitFrames := 0, confRun := 0, frzCmd := Desc.park d }
    else x1
  | .wait =>
    let c := lim x.frzCmd
    { x1 with cmd := c, ready := some c.u, cmdIn := x.frzCmd, waitFrames := x.waitFrames + 1,
               confRun := if sure then x.confRun + 1 else 0 }
  | .search =>
    let t := sweepStep d (decide (l % 2 = 0)) x
    let c := lim t.1
    let x1 := { x1 with cmd := c, ready := some c.u, cmdIn := t.1, sweep := t.1, sweepUp := t.2 }
    if leave then { x1 with phase := .wait, fromPark := false, waitFrames := 0, confRun := 0, frzCmd := c.u } else x1

/-- Datapaths in service in the current frame (R182, R213). -/
def State.dpIn (s : State) : List Nat := (List.range 64).filter fun i => !s.eng.dpOut.contains i

/-- Fewest loops, lowest number first: the datapath that takes the next reassigned loop (R182). -/
def leastLoaded (load : List (Nat × Nat)) : List Nat → Option Nat
  | [] => none
  | i :: is =>
    match leastLoaded load is with
    | none => some i
    | some j => if tget (fun _ => 0) load i ≤ tget (fun _ => 0) load j then some i else some j

/-- The datapath of every loop whose descriptor `CLASS` is not OFF, given those in service (R182): loops whose own datapath
serves stay there; the others are reassigned in ascending order. -/
def assignDps (inService : List Nat) (loops : List (Nat × BitVec 512)) : List (Nat × Nat) :=
  let live := loops.filter fun p => Desc.runClass p.2 ≠ 0
  let own := live.filter fun p => inService.contains (Desc.dp p.2)
  let load := own.foldl (fun t p => tupd (fun _ => 0) t (Desc.dp p.2) (· + 1)) ([] : List (Nat × Nat))
  let moved := live.filter fun p => !inService.contains (Desc.dp p.2)
  let r := moved.foldl (fun (acc : List (Nat × Nat) × List (Nat × Nat)) p =>
    match leastLoaded acc.1 inService with
    | some i => (tupd (fun _ => 0) acc.1 i (· + 1), acc.2 ++ [(p.1, i)])
    | none => acc) (load, [])
  own.map (fun p => (p.1, Desc.dp p.2)) ++ r.2

/-- The datapath of a loop; 0xFF when it has none (R182, R222). -/
def State.dpOf (s : State) (l : Nat) : Nat :=
  if s.eng.dpOut.isEmpty then Desc.dp (s.loop l).desc
  else if s.dpIn.isEmpty then 0xFF
  else
    match (assignDps s.dpIn (s.loops.map fun p => (p.1, p.2.desc))).find? (·.1 = l) with
    | some p => p.2
    | none => Desc.dp (s.loop l).desc

/-- The loop is computed in the current frame when its record has landed (R184, R188, R213). -/
def State.computes (s : State) (l : Nat) (x : Loop) : Bool :=
  s.hrt.running && !s.hrt.emitted && decide (x.cls ≠ .off) && decide (x.cls ≠ .freeze) && decide (x.startFrame ≤ s.hrt.frame)
    && !(let dp := s.dpOf l; decide (dp = 0xFF) || s.eng.dpStopped.contains dp)

/-- Both loops of a record's mirror leave SEARCH in the same frame (R199). -/
def State.leavesSearch (s : State) (r : EstRec) : Bool :=
  [2 * r.mirror, 2 * r.mirror + 1].any fun l =>
    decide ((s.loop l).cls = .acquire) && decide ((s.loop l).phase = .search) && estValid r && decide (s.acqConf l ≤ r.conf)

/-- One loop takes up the record of its mirror (R184). `late`: the pass has not reached the loop by the emit deadline. -/
def State.landLoop (s : State) (r : EstRec) (leave late : Bool) (l : Nat) : State :=
  let x := s.loop l
  if x.record.isSome then s
  else if s.computes l x && !late then
    let y := if x.cls = .acquire then s.computeAcquire l x r leave else s.computeRun l x r
    let s := if y.cls ≠ .acquire ∧ 0 < y.bad then s.count (Reg.LOOP_COUNT l) 16 16 1 else s
    s.updLoop l fun _ => { y with record := some r }
  else s.updLoop l fun x => { x with record := some r }

/-- A record lands in the loop engine (R158, R184): the X loop of its mirror first. -/
def State.landRecord (s : State) (r : EstRec) (late : List Nat) : State :=
  let leave := s.leavesSearch r
  (s.landLoop r leave (late.contains (2 * r.mirror)) (2 * r.mirror)).landLoop r leave
    (late.contains (2 * r.mirror + 1)) (2 * r.mirror + 1)

end Sys2Proof.Machine
end

