-- ==== Sys2Proof/Machine/Cells.lean ====
section
/-! DEFINITION. Command cells: how a computed command enters a cell and leaves, the emit deadline with its overruns, and the
standby's late fill (R28 to R33, R194, R211, R324 to R326, R380). -/
namespace Sys2Proof.Machine

/-- The unit sends its own COMMAND cells in this frame: it holds authority, or it is a claimant after frame k (R373, R389). -/
def State.sendsOwn (s : State) : Bool :=
  s.commands || match s.twn.claim with
    | some c => decide (s.roleNow = .standby) && decide (c.frame + 1 ≤ s.hrt.frame)
    | none => false

/-- The epoch its own COMMAND cells carry (R324, R389). -/
def State.cellEpoch (s : State) : Nat :=
  if s.commands then s.twn.epoch else match s.twn.claim with | some c => c.epoch | none => s.twn.epoch

/-- Enter a command for an apply tick in a list, newest tick first. -/
def enterCmd (tick : Nat) (u : Int) : List (Nat × Int) → List (Nat × Int)
  | [] => [(tick, u)]
  | (t, v) :: l => if t < tick then (tick, u) :: (t, v) :: l else if t = tick then (tick, u) :: l else (t, v) :: enterCmd tick u l

/-- The commands of a loop by apply tick; before the first of them, the held command stands for every earlier tick (R201). -/
def Loop.cmdList (x : Loop) : List (Nat × Int) := if x.sentCmds.isEmpty then [(0, x.heldCmd)] else x.sentCmds

/-- The unit keeps a command that left, or that it relayed or received, for an apply tick (R194). -/
def State.keepCommand (s : State) (tick : Nat) (e : Nat × Int) : State :=
  s.updLoop e.1 fun x => { x with
    heldCmd := e.2, sentCmds := (enterCmd tick e.2 x.cmdList).take 4
    now := { x.now with cmdTick := tick, cmd := e.2, sent := x.now.sent && decide (x.now.cmdTick = tick) } }

/-- The unit relays a command to its drive porch, so that a cell leaves for it (R194, R222). -/
def State.relayCommand (s : State) (tick : Nat) (e : Nat × Int) : State :=
  (s.keepCommand tick e).updLoop e.1 fun x => { x with now := { x.now with sent := true } }

/-- A loop's command of the current frame has left in time (R32, R222). -/
def State.commandLeft (s : State) (e : Nat × Int) : State :=
  (s.keepCommand (s.hrt.frame + 1) e).updLoop e.1 fun x =>
    { x with ovrRun := 0, now := { x.now with sent := true } }

/-- After an overrun the command limiter's output is the held command, and the prediction of the frame stands for an angle
(R211). -/
def State.overrunState (s : State) (l : Nat) : State :=
  s.updLoop l fun x =>
    let y := if x.ready.isNone then x.pushAngle (s.predict l x).1 else x
    let waits := decide (x.cls = .acquire) && decide (x.phase = .wait) && x.ready.isNone
    { y with cmd := { y.cmd with u := y.heldCmd }, waitFrames := if waits then y.waitFrames + 1 else y.waitFrames
             confRun := if waits then 0 else y.confRun, handRun := if x.ready.isNone then 0 else y.handRun }

/-- Queue the open cell of a porch, and its copies on the Landing (of an ACTIVE unit) and on MONITOR porches (R325, R326). A cell
that cannot leave by the emit deadline is withdrawn, and its loops overrun. -/
def State.closeCell (s : State) (p : Nat) (inTime : Bool) : State :=
  let es := (s.porch p).openCell.entries
  let s := s.updPorch p fun q => { q with openCell := {} }
  if es.isEmpty then s
  else if inTime then
    let c := TxCell.command { applyTick := (s.hrt.frame + 1) % 2 ^ 32, epoch := s.cellEpoch, porch := p, side := s.twn.side,
                              fill := false, entries := es }
    let s := s.send p prioFrame c
    let s := if s.commands && decide (s.twn.role = .active) then State.sendAll s.landing.toList prioFrame c s else s
    let s := if s.commands then State.sendAll (s.readyOf 5) prioFrame c s else s
    es.foldl State.commandLeft s
  else
    let s := s.count (Reg.PCH_Pp_CMD p) 16 16 es.length
    es.foldl (fun s e => ((s.loopOverrun e.1).overrunState e.1).updLoop e.1 fun x => { x with celled := false }) s

/-- Add a command to the open cell of the loop's drive porch; a full cell closes (R325). A porch that is not READY carries no
cells. -/
def State.addCommand (s : State) (l : Nat) (u : Int) : State :=
  match s.drivePorch l with
  | some p =>
    let s := s.updLoop l fun x => { x with celled := true }
    if (s.porch p).state = .ready then
      let s := s.updPorch p fun q => { q with openCell := { q.openCell with entries := q.openCell.entries ++ [(l, u)] } }
      if 126 ≤ (s.porch p).openCell.entries.length then s.closeCell p true else s
    else s
  | none => s

/-- Every command computed and not yet in a cell enters one, where the unit sends its own cells (R184, R325). -/
def State.cellReady (s : State) (l : Nat) : State :=
  let x := s.loop l
  match x.ready with
  | some u => if x.celled || x.excused || !s.sendsOwn then s else s.addCommand l u
  | none => s

/-- An open cell is closed: 480 cycles after its first entry, or from cycle D − 480 on as soon as it takes an entry (R325). Its
first bit reaches the balls at cycle `leaves` of the frame. -/
def execCellClose (porch : BitVec 4) (cycle leaves : BitVec 21) (s : State) : Host.Outcome State Fault Refusal :=
  if s.hrt.running && !s.hrt.emitted && decide (cycle.toNat ≤ leaves.toNat) then
    .next (s.closeCell porch.toNat (decide (leaves.toNat ≤ s.hrt.cfg.emitDl)))
  else .next s

/-- Loops listed in the state that satisfy `p`, ascending. -/
def State.loopsWhere (s : State) (p : Nat → Loop → Bool) : List Nat := (s.loops.filter fun e => p e.1 e.2).map (·.1)

/-- The loop must be computed in the current frame: a class other than OFF or FREEZE, and its first frame has come
(R31, R188). -/
def Loop.due (frame : Nat) (x : Loop) : Bool :=
  decide (x.cls ≠ .off) && decide (x.cls ≠ .freeze) && decide (x.startFrame ≤ frame)

/-- The frame belongs to a bridge: no loop is computed and no command cell leaves (R76). -/
def State.bridging (s : State) : Bool := decide (s.hrt.frame < s.plan.bridgeEnd)

-- What a holder sends to its twin (R237, R399) ------------------------------------------------------------------------------

/-- The move has ended (R228). -/
def MoveState.ended : MoveState → Bool
  | .done | .aborted | .failed => true
  | _ => false

/-- Open paths of a move. -/
def Move.openPaths (m : Move) : List MovePath := m.paths.filter fun p => p.state = 0

/-- Mirrors and paths that one SCHED part carries (DESIGN CHOICE, log 45). -/
def partSize : Nat := 8

/-- The parts of a move's schedule, in a stream that begins in frame `k` (R237, R336). -/
def Move.schedParts (m : Move) (k : Nat) : List SchedPart :=
  let n := max 1 ((max m.mirrors.length m.openPaths.length + partSize - 1) / partSize)
  (List.range n).map fun i =>
    { move := BitVec.ofNat 32 m.id, tag := BitVec.ofNat 32 m.tag, part := i, parts := n, planned := k, start := m.startAt, blind := m.blind
      paths := ((m.openPaths.drop (partSize * i)).take partSize).map fun p => (p.inp, p.out)
      mirrors := (m.mirrors.drop (partSize * i)).take partSize }

/-- The committed plans of both units differ (R381). -/
def State.planDiffers (s : State) (t : StateCell) : Bool := decide (t.planDigest ≠ s.plan.digest) || decide (t.edits ≠ s.eng.edits)

/-- The committed plans of both units agree (R398, R401). -/
def State.plansAgree (s : State) : Bool := match s.twn.twin with | some t => !s.planDiffers t | none => false

/-- The twin's last STATE shows a role. -/
def State.twinShows (s : State) (role : Nat) : Bool := match s.twn.twin with | some t => decide (t.role = role) | none => false

/-- The loop contexts of batch `b` (R399); a loop that is not listed is in OFF. -/
def State.contextsOf (s : State) (b : Nat) : List (Nat × Loop) := s.loops.filter fun e => e.1 / 64 = b

/-- What a run of RESYNC begins with (R399): the schedules of moves that have not ended and the committed banks of tables whose `GEN`
is not 0. -/
def State.resyncFirst (s : State) : List TxCell :=
  ((s.mov.moves.filter fun m => !m.2.state.ended && decide (m.2.tPlanned ≠ 0)).flatMap fun m => (m.2.schedParts s.hrt.frame).map TxCell.sched)
    ++ ((s.plan.tables.filter fun t => t.2.gen ≠ 0).map fun t => TxCell.resync (.table t.1 t.2.bank))

/-- A holder sends the next batch to a twin that resynchronises from it, at the end of its loop pass (R399, log 17). -/
def State.feedTwin (s : State) : State :=
  match s.twn.feeding, s.landing with
  | some i, some p =>
    if s.commands && s.plansAgree && s.twinShows 2 then
      let s := (if i = 0 then s.resyncFirst else []).foldl (fun s c => s.send p prioBulk c) s
      let s := s.send p prioBulk (.resync (.contexts i (s.contextsOf i)))
      { s with twn := { s.twn with feeding := if i + 1 < 256 then some (i + 1) else none } }
    else { s with twn := { s.twn with feeding := none } }
  | some _, none => { s with twn := { s.twn with feeding := none } }
  | none, _ => s

/-- Cycle D of the frame: frozen loops send their held command, open cells leave, and every loop without a command overruns;
the pass is over, and a holder sends its contexts to a twin that rejoins (R28, R31 to R35, R206). Nothing runs on a unit that the trip has stopped (R486). -/
def State.emitDeadline (s : State) : State :=
  if s.boot.stopped then { s with hrt := { s.hrt with emitted := true } } else
  let frozen := s.loopsWhere fun _ x => decide (x.cls = .freeze) && !x.celled && !x.excused
  let s := if s.sendsOwn && !s.bridging then s.each frozen fun l s => s.addCommand l (s.loop l).frzCmd else s
  let s := s.each (List.range 16) fun p s => s.closeCell p true
  let missed := s.loopsWhere fun _ x => x.due s.hrt.frame && x.ready.isNone && !x.excused
  let passed := s.loopsWhere fun _ x => x.due s.hrt.frame && x.ready.isNone && x.record.isSome
  let s := s.passOverrun passed.length
  let s := s.each missed fun l s => (s.loopOverrun l).overrunState l
  let s := { s with loops := tmap (fun _ => {}) (fun _ x =>
    if x.cls = LoopClass.freeze ∨ (x.ready.isSome ∧ !s.sendsOwn) then { x with ovrRun := 0 } else x) s.loops }
  ({ s.overrunFrame with hrt := { s.overrunFrame.hrt with emitted := true } }).feedTwin

/-- EMIT_DEADLINE (R28). -/
def execEmitDeadline (s : State) : Host.Outcome State Fault Refusal :=
  if s.hrt.running && !s.hrt.emitted then .next s.emitDeadline else .next s

/-- A standby knows the whole schedule of every move that holds the mirror (R380). -/
def State.fillKnown (s : State) (mirror : Nat) : Bool :=
  s.mov.moves.all fun m => !m.2.fromTwin || m.2.whole || m.2.state.ended || !(m.2.mirrors.any fun p => p.mirror = mirror)

/-- The loop's own command may fill (R30, R210, R380). -/
def State.fills (s : State) (l : Nat) (x : Loop) : Bool :=
  (decide (x.cls = .slew) || decide (x.cls = .hold) || decide (x.cls = .track)) && x.ready.isSome && s.fillKnown (l / 2)
    && !s.twn.relayed.contains (s.hrt.frame + 1, l)

/-- A list cut into pieces of at most `n`, for a list of at most `fuel` pieces. -/
def pieces (n : Nat) : Nat → List (Nat × Int) → List (List (Nat × Int))
  | 0, _ => []
  | _, [] => []
  | fuel + 1, l => l.take n :: pieces n fuel (l.drop n)

/-- Send late-fill cells for a drive porch, with the epoch in force (R30, R326, R380). -/
def State.fillPorch (s : State) (epoch p : Nat) (es : List (Nat × Int)) : State :=
  if es.isEmpty || decide ((s.porch p).state ≠ .ready) then s
  else
    let s := (pieces 126 130 es).foldl (fun s e => s.send p prioFrame (.command
      { applyTick := (s.hrt.frame + 1) % 2 ^ 32, epoch := epoch, porch := p, side := s.twn.side, fill := true, entries := e })) s
    let s := s.count (Reg.PCH_Pp_CMD p) 0 16 es.length
    let s := es.foldl State.commandLeft s
    { s with twn := { s.twn with filled := s.twn.filled ++ es.map fun e => (s.hrt.frame + 1, e.1) } }

/-- The unit makes its late fill in this frame: a STANDBY that is LOCKED or in HOLDOVER, and has not claimed in an earlier frame
(R30, R389). -/
def State.makesFill (s : State) : Bool :=
  decide (s.roleNow = .standby) && (decide (s.hrt.lock = .locked) || decide (s.hrt.lock = .holdover))
    && (match s.twn.claim with | some c => decide (c.frame = s.hrt.frame) | none => true)

/-- LATE_FILL_SNAPSHOT (R30, R380): at cycle D + L the standby fills every loop not in the snapshot. -/
def execLateFillSnapshot (s : State) : Host.Outcome State Fault Refusal :=
  match s.twn.twin with
  | some t =>
    if s.hrt.running && !s.twn.snapshot && s.makesFill then
      let ls := s.loopsWhere fun l x => s.fills l x
      let s := s.each (s.readyOf 2) fun p s => s.fillPorch t.epoch p
        ((ls.filter fun l => s.drivePorch l = some p).map fun l => (l, ((s.loop l).ready).getD 0))
      .next { s with twn := { s.twn with snapshot := true } }
    else .next s
  | none => .next s

end Sys2Proof.Machine
end

