-- ==== Sys2Proof/Machine/Loops.lean ====
section
/-! DEFINITION. Loop classes and their changes at a tick, freezing and release, descriptor changes, and the set-point inputs
(R186 to R213, R217, R525, R526). A change named by a row is taken for the next tick; TICK takes every other change that is
due then, in the precedence of R525. -/
namespace Sys2Proof.Machine

-- Grants (R406) -----------------------------------------------------------------------------------------------------------

/-- A port is in the grant of an Operator seat; the Owner acts on every port and an Observer on none (R406). -/
def State.granted (s : State) (seat side port : Nat) : Bool :=
  match s.seatRole seat with
  | 2 => true
  | 1 => (List.range 4).any fun j =>
      let w := s.cfgReg (Reg.SYS_SEATs_GRANT seat j)
      bitAt w 63 && decide (bitsOf w 62 1 = side) && decide (bitsOf w 32 12 ≤ port) && decide (port ≤ 4095)
        && decide (port < bitsOf w 32 12 + bitsOf w 0 13)
  | _ => false

/-- Seats of role Operator. -/
def State.operators (s : State) : List Nat := (List.range 8).filter fun i => s.seatRole i = 1

/-- The Owner seat and the Operator seats whose grant holds one of the ports, each given by side and number. -/
def State.ownersOf (s : State) (ports : List (Nat × Nat)) : List Nat :=
  0 :: s.operators.filter fun i => ports.any fun p => s.granted i p.1 p.2

/-- The port of a mirror (R208): input port m for m below 4,096, output port m − 4,096 otherwise. -/
def mirrorPort (m : Nat) : Nat × Nat := if m < 4096 then (0, m) else (1, m - 4096)

-- Class changes -----------------------------------------------------------------------------------------------------------

/-- A loop enters ACQUIRE in phase PARK; its command limiter starts from the held command (R194, R199). -/
def Loop.toAcquire (x : Loop) : Loop :=
  { x with cls := .acquire, phase := .park, reason := 0, acqFrames := 0, waitFrames := 0, confRun := 0, bad := 0, handRun := 0
           ovrRun := 0, cmd := { u := x.heldCmd, v := 0 }, cmdIn := x.heldCmd }

/-- A loop starts from OFF: `LOOP_SETPOINT` takes `PARK`, and the angle history is emptied (R194, R196, R201). -/
def Loop.start (x : Loop) : Loop := { x.toAcquire with setpoint := Desc.park x.desc, spWrite := .none, angles := [] }

/-- A change into HOLD or TRACK: section states 0, the integrator at the held command (R192). -/
def Loop.toRun (x : Loop) : Loop :=
  { x with cls := Desc.run x.desc, secs := [], integ := ofQ15 x.heldCmd, handRun := 0 }

/-- A change into SLEW keeps the integrator (R192). -/
def Loop.toSlew (x : Loop) : Loop := { x with cls := .slew, handRun := 0 }

/-- A change to OFF. -/
def Loop.toOff (x : Loop) : Loop :=
  { x with cls := .off, reason := 0, bad := 0, ovrRun := 0, handRun := 0, warm := 0, phase := .park, frzWait := 0 }

/-- Mark the class change taken for the next tick (R525). -/
def Loop.takes (x : Loop) (rank : Nat) : Loop := { x with took := rank }

/-- IMPLAUSIBLE or LOW_CONF is due: the count of bad frames has reached `N` (R205). -/
def State.implausible (s : State) (l : Nat) (x : Loop) : Bool :=
  match s.plant? l with
  | some p => decide (0 < x.bad) && decide (p.n ≤ x.bad)
      && (decide (x.cls = .slew) || decide (x.cls = .hold) || decide (x.cls = .track))
  | none => false

/-- ACQ_TIMEOUT is due: the loop is still in ACQUIRE after `ACQ_FRAMES` frames (R199). -/
def State.acqTimedOut (s : State) (x : Loop) : Bool := decide (x.cls = .acquire) && decide (s.acqLimit ≤ x.acqFrames + 1)

/-- The freeze cause of lowest value that falls at the next tick, 0 none (R206, R207). `LOOP_CTL` FREEZE is cause 10. -/
def State.freezeCause (s : State) (l : Nat) (x : Loop) : Nat :=
  if x.cls = .off then 0
  else
    let r := x.frzWait
    let r := if 3 ≤ x.ovrRun ∧ x.cls ≠ .freeze then joinFreeze 6 r else r
    let r := if s.implausible l x then joinFreeze (if x.lowConf then 8 else 7) r else r
    let r := if s.acqTimedOut x then joinFreeze 9 r else r
    if s.ops.loops.contains (l, 3) then joinFreeze 10 r else r

/-- The loop freezes at the next tick with reason `r` (R206 to R208). -/
def State.freezeAt (s : State) (r l : Nat) : State :=
  let x := s.loop l
  match x.cls with
  | .off => s
  | .freeze => s.updLoop l fun x => ({ x with reason := min r x.reason, frzWait := 0 }).takes 2
  | _ =>
    let s := s.updLoop l fun x =>
      ({ x with cls := .freeze, reason := r, frzCmd := x.heldCmd, frzWait := 0, bad := 0, handRun := 0 }).takes 2
    let s := s.count (Reg.LOOP_COUNT l) 0 16 1
    let s := s.raiseTo (s.ownersOf [mirrorPort (l / 2)]) Src.trc 1 l r
    s.record 0x0009 Sev.warning 3 (leBytes 2 l ++ [BitVec.ofNat 8 r, 0, 0, 0, 0, 0] ++ s.tickBytes)

/-- A commit whose tick is the next one (R73, R77). -/
def State.commitDue (s : State) : Bool := s.plan.pending && decide (s.plan.commitAt ≤ s.nextTick)

/-- The descriptor of a loop that the candidate gives; a PATCH leaves loops it does not list as they are. -/
def State.candDesc (s : State) (l : Nat) : BitVec 512 :=
  match s.plan.cand with
  | some p =>
    match p.loops.find? (·.1 = l) with
    | some e => e.2
    | none => if p.kind = 0 then 0 else (s.loop l).desc
  | none => (s.loop l).desc

/-- Nothing of higher precedence than `rank` falls on the loop at the next tick, and no change is taken yet (R525). -/
def State.freeFor (s : State) (l rank : Nat) : Bool :=
  let x := s.loop l
  decide (x.took = 0) && (decide (rank ≤ 1) || !s.ops.loops.contains (l, 2))
    && (decide (rank ≤ 2) || decide (s.freezeCause l x = 0))
    && (decide (rank ≤ 3) || !((s.commitDue && decide (s.candDesc l ≠ x.desc))
      || (match s.eng.change with | some (i, _, t) => decide (i = l) && decide (t ≤ s.nextTick) | none => false)))

/-- Hand-over is due: the conditions of R192 have held in 4 consecutive frames. -/
def State.handOverDue (s : State) (l : Nat) : Bool :=
  decide ((s.loop l).cls = .slew) && decide (4 ≤ (s.loop l).handRun) && s.freeFor l 5

/-- HAND_OVER (R192). -/
def execHandOver (l : BitVec 14) (s : State) : Host.Outcome State Fault Refusal :=
  if s.handOverDue l.toNat then .next (s.updLoop l.toNat fun x => x.toRun.takes 5) else .next s

/-- Acquisition is complete: `WAIT_FRAMES` confident records in a row (R199). -/
def State.acquiredDue (s : State) (l : Nat) : Bool :=
  let x := s.loop l
  decide (x.cls = .acquire) && decide (x.phase = .wait) && decide (s.waitFrames ≤ x.confRun) && s.freeFor l 6

/-- The loop leaves ACQUIRE (R187, R194, R203): the set-point limiter starts at the estimate, and the warm-up begins. -/
def State.leaveAcquire (s : State) (l : Nat) : State :=
  s.updLoop l fun x =>
    let est := (x.angles.head?).getD x.heldCmd
    let x1 := { x with sp := { u := est, v := 0 }, warm := 64, bad := 0 }
    let far := decide (Desc.holdIn x.desc < ((s.source l x - est).natAbs : Int))
    (if far then x1.toSlew else x1.toRun).takes 6

/-- ACQUISITION_COMPLETE (R199). -/
def execAcquisitionComplete (l : BitVec 14) (s : State) : Host.Outcome State Fault Refusal :=
  if s.acquiredDue l.toNat then .next (s.leaveAcquire l.toNat) else .next s

/-- SEARCH is due: 64 frames of WAIT after PARK without a confident run (R199). -/
def State.searchDue (s : State) (l : Nat) : Bool :=
  let x := s.loop l
  decide (x.cls = .acquire) && decide (x.phase = .wait) && x.fromPark && decide (64 ≤ x.waitFrames)
    && decide (x.confRun < s.waitFrames)

/-- The sweep starts at the command in force, toward the farther bound, or toward `I_MAX` from midway (R199). -/
def Loop.toSearch (x : Loop) : Loop :=
  let up := decide (x.cmd.u - Desc.iMin x.desc ≤ Desc.iMax x.desc - x.cmd.u)
  { x with phase := .search, sweep := x.cmd.u, sweepUp := up, confRun := 0 }

/-- SEARCH (R199). -/
def execSearch (l : BitVec 14) (s : State) : Host.Outcome State Fault Refusal :=
  if s.searchDue l.toNat then .next (s.updLoop l.toNat Loop.toSearch) else .next s

/-- A freeze whose cause is due at the next tick; OFF at the same tick wins (R207). -/
def State.freezeIf (s : State) (due : Bool) (l : Nat) : State :=
  if due && s.freeFor l 2 then s.freezeAt (s.freezeCause l (s.loop l)) l else s

/-- ACQ_TIMEOUT (R199). -/
def execAcqTimeout (l : BitVec 14) (s : State) : Host.Outcome State Fault Refusal :=
  .next (s.freezeIf (s.acqTimedOut (s.loop l.toNat)) l.toNat)

/-- OVERRUN_FREEZE (R32): the third consecutive overrun. -/
def execOverrunFreeze (l : BitVec 14) (s : State) : Host.Outcome State Fault Refusal :=
  .next (s.freezeIf (decide (3 ≤ (s.loop l.toNat).ovrRun)) l.toNat)

/-- IMPLAUSIBLE (R205). -/
def execImplausible (l : BitVec 14) (s : State) : Host.Outcome State Fault Refusal :=
  .next (s.freezeIf (s.implausible l.toNat (s.loop l.toNat)) l.toNat)

/-- WARM_UP_END (R203): the last of the 64 frames ends, after its computations, and the checks are armed. -/
def execWarmUpEnd (l : BitVec 14) (s : State) : Host.Outcome State Fault Refusal :=
  if (s.loop l.toNat).warm ≤ 1 ∧ s.hrt.emitted then .next (s.updLoop l.toNat fun x => { x with warm := 0 }) else .next s

-- Operations --------------------------------------------------------------------------------------------------------------

/-- An operation written to `LOOP_CTL` of a loop; the last of a frame is taken up (R222, R497). -/
def State.loopOp (s : State) (l op : Nat) : State :=
  { s with ops := { s.ops with loops := (s.ops.loops.filter fun p => p.1 ≠ l) ++ [(l, op)] } }

/-- LOOP_CTL_START (R526). -/
def execLoopCtlStart (l : BitVec 14) (s : State) : Host.Outcome State Fault Refusal := .next (s.loopOp l.toNat 1)
/-- LOOP_CTL_OFF (R526). -/
def execLoopCtlOff (l : BitVec 14) (s : State) : Host.Outcome State Fault Refusal := .next (s.loopOp l.toNat 2)
/-- LOOP_CTL_FREEZE (R526). -/
def execLoopCtlFreeze (l : BitVec 14) (s : State) : Host.Outcome State Fault Refusal := .next (s.loopOp l.toNat 3)
/-- LOOP_CTL_RELEASE (R209). -/
def execLoopCtlRelease (l : BitVec 14) (s : State) : Host.Outcome State Fault Refusal := .next (s.loopOp l.toNat 4)
/-- RELEASE_ALL (R209). -/
def execReleaseAll (maxReason : BitVec 4) (s : State) : Host.Outcome State Fault Refusal :=
  .next { s with ops := { s.ops with releaseAll := some maxReason.toNat } }

/-- `LOOP_STATUS.RESULT`: 0 OK, 1 REFUSED (R222). -/
def State.loopResult (s : State) (l r : Nat) : State := s.updLoop l fun x => { x with result := r }

/-- The porch whose loss froze the loop is still lost: the drive or imager porch of its mirror (R209, R491). -/
def State.porchStillLost (s : State) (l : Nat) : Bool :=
  [s.porchFor 2 (l / 2), s.porchFor 1 (l / 2)].any fun p =>
    match p with | some p => (s.porch p).lost | none => false

/-- START (R526): from OFF, with a descriptor whose `CLASS` is not OFF. -/
def State.takeStart (s : State) (l : Nat) : State :=
  let x := s.loop l
  if x.cls = LoopClass.off ∧ Desc.runClass x.desc ≠ 0 ∧ s.freeFor l 7 then
    s.updLoop l fun x => { x.start.takes 7 with result := 0 }
  else s.loopResult l 1

/-- RELEASE (R209, R526). -/
def State.takeRelease (s : State) (l : Nat) : State :=
  let x := s.loop l
  let held := (decide (x.reason = 1) && !s.pins.haltN) || (decide (x.reason = 3) && s.porchStillLost l)
  if x.cls = LoopClass.freeze ∧ !held ∧ s.freeFor l 8 then s.updLoop l fun x => { x.toAcquire.takes 8 with result := 0 }
  else s.loopResult l 1

/-- OFF, the highest precedence, which always reports OK (R525, R526). -/
def State.takeOff (s : State) (l : Nat) : State := s.updLoop l fun x => { x.toOff.takes 1 with result := 0 }

/-- FREEZE, once the changes to OFF and the freeze causes of the tick are made: refused for a loop in OFF, and where a change to OFF has
won (R525, R526). -/
def State.freezeResult (s : State) (l : Nat) : State := s.loopResult l (if (s.loop l).cls = .freeze then 0 else 1)

/-- Loops with this operation pending. -/
def State.opLoops (s : State) (op : Nat) : List Nat := (s.ops.loops.filter fun p => p.2 = op).map (·.1)

/-- A commit or a descriptor change of this tick takes the loop to OFF (R187). -/
def State.offByPlan (s : State) (l : Nat) : Bool :=
  (s.commitDue && decide (Desc.runClass (s.candDesc l) = 0) && decide (s.candDesc l ≠ (s.loop l).desc))
    || match s.eng.change with
      | some (i, d, t) => decide (i = l) && decide (t ≤ s.nextTick) && decide (Desc.runClass d = 0)
      | none => false

/-- A freeze cause of the tick is heard: no change is taken yet, or one of lower precedence that a row of the frame took (R525). -/
def Loop.mayFreeze (x : Loop) : Bool :=
  decide (x.took = 0) || (decide (3 ≤ x.took) && decide (x.took ≤ 6))

/-- Freeze causes at the tick (R525, rank 2), of the loops that satisfy `p`. -/
def State.freezeDue (s : State) (p : Nat → Bool) : State :=
  let due := s.loopsWhere fun l x => x.mayFreeze && decide (s.freezeCause l x ≠ 0) && p l
  s.each due fun l s => s.freezeAt (s.freezeCause l (s.loop l)) l

/-- Changes to OFF and freeze causes at the tick (R525, ranks 1 and 2); a loop that the plan takes to OFF does not freeze. -/
def State.offAndFreeze (s : State) : State :=
  let s := s.each (s.opLoops 2) fun l s => s.takeOff l
  s.freezeDue fun l => !s.offByPlan l

/-- Freeze causes of loops that the plan was to take to OFF and has not, because its commit failed; and the results of FREEZE. -/
def State.freezeRest (s : State) : State :=
  let s := s.freezeDue fun _ => true
  s.each (s.opLoops 3) fun l s => s.freezeResult l

/-- Hand-overs from SLEW to HOLD at the tick (R192; R525, rank 5). -/
def State.handOvers (s : State) : State :=
  s.each (s.loopsWhere fun l _ => s.handOverDue l) fun l s => s.updLoop l fun x => x.toRun.takes 5

/-- Hand-overs, acquisitions, START and RELEASE at the tick (R525, ranks 5 to 8). -/
def State.lowChanges (s : State) : State :=
  let s := s.handOvers
  let s := s.each (s.loopsWhere fun l _ => s.acquiredDue l) fun l s => s.leaveAcquire l
  let s := s.each (s.opLoops 1) fun l s => s.takeStart l
  let s := s.each (s.opLoops 4) fun l s => s.takeRelease l
  let s := match s.ops.releaseAll with
    | some r =>
      s.each (s.loopsWhere fun _ x => decide (x.cls = LoopClass.freeze) && decide (r ≤ x.reason)) fun l s => s.takeRelease l
    | none => s
  let s := s.each (s.loopsWhere fun l _ => s.searchDue l) fun l s => s.updLoop l Loop.toSearch
  { s with ops := { s.ops with loops := [], releaseAll := none } }

-- Set-points --------------------------------------------------------------------------------------------------------------

/-- SETPOINT_WRITE (R196): taken up at the next tick. -/
def execSetpointWrite (l : BitVec 14) (v : BitVec 16) (s : State) : Host.Outcome State Fault Refusal :=
  .next (s.updLoop l.toNat fun x => { x with spWrite := some (signed 16 v.toNat) })

/-- Set-points written in the frame that ends are taken up; while a move holds the loop they are ignored, with a notice (R196). -/
def State.takeSetpoints (s : State) : State :=
  let s := s.each (s.loopsWhere fun _ x => x.spWrite.isSome && x.held) fun l s =>
    (s.updLoop l fun x => { x with spWrite := none }).raise Src.trc 5 l
  { s with loops := tmap (fun _ => {}) (fun _ x =>
      match x.spWrite with | some v => { x with setpoint := v, spWrite := .none } | none => x) s.loops }

/-- `MODE` of an input in force (R197): 0 OFF, 1 ANALOG, 2 STEP_DIR, 3 PWM; reserved values act as OFF. -/
def State.spMode (s : State) (i : Nat) : Nat :=
  match s.tableOfKind 3 with | some t => (let m := bankNat t.bank (8 * i) 1; if 3 < m then 0 else m) | none => 0

/-- `STEP` of an input (R197). -/
def State.spStepSize (s : State) (i : Nat) : Int :=
  match s.tableOfKind 3 with | some t => signed 16 (bankNat t.bank (8 * i + 2) 2) | none => 0

/-- STEP_EDGE (R198, R518): the signed 32-bit count goes up with `SPn_AUX` high and down with it low. -/
def execStepEdge (input : BitVec 3) (up : Bool) (s : State) : Host.Outcome State Fault Refusal :=
  let i := input.toNat
  if s.spMode i = 2 then
    .next (s.updSpIn i fun x => { x with count := signed 32 (twos 32 (x.count + if up then 1 else -1)) })
  else .next s

/-- PWM_PERIOD (R198): a complete period with its high time; the input is not stale. -/
def execPwmPeriod (input : BitVec 3) (high period : BitVec 21) (s : State) : Host.Outcome State Fault Refusal :=
  let i := input.toNat
  if s.spMode i = 3 ∧ 0 < period.toNat ∧ high.toNat ≤ period.toNat then
    .next (s.updSpIn i fun x => { x with high := high.toNat, period := period.toNat, fresh := true, stale := false
                                         nowStale := false })
  else .next s

/-- PWM_STALE (R198): no complete period within 2,000 µs. -/
def execPwmStale (input : BitVec 3) (s : State) : Host.Outcome State Fault Refusal :=
  let i := input.toNat
  if s.spMode i = 3 ∧ !(s.spIn i).stale then
    .next ((s.updSpIn i fun x => { x with stale := true, fresh := false, nowStale := true }).raise Src.trc 0 i)
  else .next s

/-- CLR_COUNT (R198): taken up at the next tick, with every bit written in the frame. -/
def execClrCount (mask : BitVec 8) (s : State) : Host.Outcome State Fault Refusal :=
  .next { s with ops := { s.ops with clrCount := s.ops.clrCount ||| mask.toNat } }

/-- The value an input latches at a tick (R198). -/
def State.latchInput (s : State) (analog : List (Nat × List Int)) (i : Nat) : State :=
  match s.spMode i with
  | 1 =>
    match analog.find? (·.1 = i) with
    | some (_, l) => if l.isEmpty then s else s.updSpIn i fun x => { x with x := sat15 (rneDiv (l.foldl (· + ·) 0) l.length) }
    | none => s
  | 2 => s.updSpIn i fun x => { x with x := sat15 (x.count * s.spStepSize i) }
  | 3 => s.updSpIn i fun x => if x.stale || x.period = 0 then x else
      { x with x := sat15 (rneDiv ((2 * (x.high : Int) - x.period) * 32768) x.period) }
  | _ => s.updSpIn i fun x => { x with x := 0 }

/-- The set-point inputs at a tick: counts cleared, values latched (R198). -/
def State.latchInputs (s : State) (analog : List (Nat × List Int)) : State :=
  let s := s.each (members 8 s.ops.clrCount) fun i s => s.updSpIn i fun x => { x with count := 0 }
  let s := s.each (List.range 8) fun i s => s.latchInput analog i
  { s with ops := { s.ops with clrCount := 0 } }

-- Errors inside the engine --------------------------------------------------------------------------------------------------

/-- STATE_ECC (R212): an uncorrectable error in a loop's context. -/
def execStateEcc (loop : BitVec 14) (s : State) : Host.Outcome State Fault Refusal :=
  let l := loop.toNat
  let s := (s.raise Src.trc 2 l).setField Reg.TRC_LE_ECC 0 14 l
  .next (s.verdict 1 GuardCode.verdict fun s =>
    ((s.freezeLoop 4 l).faultOn FaultCause.stateEcc true).record 0x000A Sev.critical 2
      (leBytes 2 l ++ [0, 0, 0, 0, 0, 0] ++ s.frameBytes))

/-- Corrected errors of loop contexts in the frame that ends (R212, R223). -/
def State.countState (s : State) (ls : List (BitVec 14)) : State :=
  match ls.getLast? with
  | some l => (s.count Reg.TRC_LE_ECC 32 32 ls.length).setField Reg.TRC_LE_ECC 0 14 l.toNat
  | none => s

/-- DATAPATH_MISMATCH (R213): the datapath computes nothing more in this frame and leaves service at the next tick. -/
def execDatapathMismatch (dp : BitVec 6) (s : State) : Host.Outcome State Fault Refusal :=
  if s.eng.dpOut.contains dp.toNat || s.eng.dpStopped.contains dp.toNat then .next s
  else .next { s with eng := { s.eng with dpStopped := s.eng.dpStopped ++ [dp.toNat] } }

/-- Stopped datapaths leave service (R213). -/
def State.loseDatapaths (s : State) : State :=
  let ds := s.eng.dpStopped
  let s := s.each ds fun d s => s.raise Src.trc 3 d
  { s with eng := { s.eng with dpOut := s.eng.dpOut ++ ds, dpStopped := [] } }

-- Descriptor changes (R217) -------------------------------------------------------------------------------------------------

/-- DESC_LOAD (R217). -/
def execDescLoad (s : State) : Host.Outcome State Fault Refusal := .next { s with ops := { s.ops with desc := some 1 } }
/-- DESC_WRITE (R217). -/
def execDescWrite (s : State) : Host.Outcome State Fault Refusal := .next { s with ops := { s.ops with desc := some 2 } }
/-- DESC_CANCEL (R217). -/
def execDescCancel (s : State) : Host.Outcome State Fault Refusal := .next { s with ops := { s.ops with desc := some 3 } }

/-- `TRC_LE_DCMD.RESULT` (R217, R223). -/
def State.descResult (s : State) (r : Nat) : State := s.setField Reg.TRC_LE_DCMD 8 8 r

/-- The descriptor in `TRC_LE_DESC0` to `TRC_LE_DESC7` (R217). -/
def State.descRegs (s : State) : BitVec 512 :=
  BitVec.ofNat 512 ((List.range 8).foldl (fun a i => a + (s.reg (Reg.TRC_LE_DESC i)).toNat * 2 ^ (64 * i)) 0)

/-- What R215 needs of a plan: tables and SP_MAP entries. -/
structure DescEnv where
  slewEntries : Option Nat
  hasPlant    : Bool
  spMap       : Option (List (Nat × Byte))
  deriving DecidableEq, Repr

/-- A descriptor of loop `l` is valid (R195, R214, R215). -/
def descValid (env : DescEnv) (l : Nat) (d : BitVec 512) : Bool :=
  if Desc.runClass d = 0 then true
  else
    (decide (Desc.runClass d = 3) || decide (Desc.runClass d = 4)) && decide (Desc.dp d ≤ 63) && decide (Desc.nsec d ≤ 4)
      && decide (descNat d 2 1 < 128) && decide (Desc.lutShift d ≤ 7)
      && decide (1 ≤ Desc.holdIn d) && decide (Desc.iMin d ≤ Desc.iMax d)
      && decide (Desc.spRate d ≠ 0) && decide (Desc.spAcc d ≠ 0) && decide (Desc.cmdRate d ≠ 0) && decide (Desc.cmdAcc d ≠ 0)
      && decide (Desc.spSrc d = if Desc.runClass d = 4 then 1 else 0)
      && (match env.slewEntries with | some n => decide (Desc.lut d < n) | none => false)
      && (!Desc.plausEn d || env.hasPlant)
      && (decide (Desc.spSrc d ≠ 1) || match env.spMap with
        | some b =>
          let i := bankNat b (8 * (8 + l) + 4) 1
          decide (i ≠ 0xFF) && (decide (7 < i) || decide (bankNat b (8 * i) 1 ≠ 0))
        | none => false)

/-- The tables of the committed plan as R215 reads them. -/
def State.descEnv (s : State) : DescEnv :=
  { slewEntries := (s.tableOfKind 1).map (·.desc.count), hasPlant := (s.tableOfKind 2).isSome
    spMap := (s.tableOfKind 3).map (·.bank) }

/-- Cycles the LOOP_BUDGET check needs of the fullest datapath, for descriptors by loop (R183). -/
def loopNeed (inService : List Nat) (loops : List (Nat × BitVec 512)) : Nat :=
  let n := (loops.filter fun p => Desc.runClass p.2 ≠ 0).length
  if inService.isEmpty then (if n = 0 then 0 else 96 + 24 * n)
  else
    let a := assignDps inService loops
    96 + 24 * ((inService.map fun i => (a.filter fun p => p.2 = i).length).foldl max 0)

/-- Cycles a datapath has in the Loop slot (R71, R183). -/
def loopAvail (inService : List Nat) (c : FrameCfg) : Nat := if inService.isEmpty then 0 else c.loopEnd - max c.loopStart c.senseEnd

/-- Descriptors by loop in force. -/
def State.descs (s : State) : List (Nat × BitVec 512) := s.loops.map fun p => (p.1, p.2.desc)

/-- WRITE at its take-up (R217). -/
def State.takeDescWrite (s : State) : State :=
  let l := s.field Reg.TRC_LE_DSEL 0 14
  let d := s.descRegs
  let t := (s.reg Reg.TRC_LE_DTICK).toNat
  let refuse (r : Nat) := (s.descResult r).raise Src.trc 4 l
  if !s.plan.committed then refuse 7
  else if !descValid s.descEnv l d then refuse 2
  else if loopAvail s.dpIn s.hrt.cfg < loopNeed s.dpIn (tset (fun _ => 0) s.descs l d) then refuse 3
  else if t ≠ 0 ∧ t < s.nextTick + 1 then refuse 4
  else { s with eng := { s.eng with change := some (l, d, if t = 0 then s.nextTick + 1 else t) } }.descResult 5

/-- LOAD at its take-up: the selected loop's descriptor appears (R217). -/
def State.takeDescLoad (s : State) : State :=
  let d := (s.loop (s.field Reg.TRC_LE_DSEL 0 14)).desc
  (s.each (List.range 8) fun i s => s.setReg (Reg.TRC_LE_DESC i) (BitVec.ofNat 64 (d.toNat / 2 ^ (64 * i)))).descResult 1

/-- `TRC_LE_DCMD` at the tick (R217). -/
def State.takeDesc (s : State) : State :=
  let op := s.ops.desc
  let s := { s with ops := { s.ops with desc := none } }
  match op with
  | some 1 => s.takeDescLoad
  | some 2 => s.takeDescWrite
  | some 3 => if s.eng.change.isSome then { s with eng := { s.eng with change := none } }.descResult 6 else s
  | _ => s

/-- A new descriptor for a loop (R187, R189): `starts` when a commit or patch gives it, which starts a loop in OFF. -/
def State.giveDesc (s : State) (starts : Bool) (l : Nat) (d : BitVec 512) : State :=
  let x := s.loop l
  if d = x.desc then s
  else
    let y := { x with desc := d }
    if decide (Desc.runClass d = 0) then
      s.updLoop l fun _ => if x.cls = .off then y else y.toOff.takes 1
    else
      match x.cls with
      | .off => s.updLoop l fun _ => if starts && decide (x.took = 0) then y.start.takes 9 else y
      | _ =>
        let y := { y with secs := [], integ := clampInt (ofQ15 (Desc.iMin d)) (ofQ15 (Desc.iMax d)) x.integ, warm := 64
                          bad := 0, handRun := 0 }
        let y := match x.cls with
          | .acquire => { y with phase := .park, acqFrames := 0, waitFrames := 0, confRun := 0 }
          | .hold => { y with cls := Desc.run d }
          | .track => { y with cls := Desc.run d }
          | _ => y
        s.updLoop l fun _ => if x.took = 0 then y.takes 3 else y

/-- A pending descriptor change takes effect at its tick (R189, R217). -/
def State.descTakeEffect (s : State) : State :=
  match s.eng.change with
  | some (l, d, t) =>
    if t ≤ s.nextTick then
      let s := s.giveDesc false l d
      let s := { s with eng := { s.eng with change := none, edits := min 0xFFFF (s.eng.edits + 1) } }
      (s.descResult 1).raise Src.trc 4 l
    else s
  | none => s

/-- DESC_TAKE_EFFECT (R189, R217). Where a commit is due at the same tick it is left to TICK, since the commit may drop the change. -/
def execDescTakeEffect (s : State) : Host.Outcome State Fault Refusal := .next (if s.commitDue then s else s.descTakeEffect)

/-- The values of the frame that ends appear in the read-only registers, and the loops begin a new frame (R184, R203, R222). -/
def Loop.newFrame (x : Loop) : Loop :=
  let running := decide (x.cls = .slew) || decide (x.cls = .hold) || decide (x.cls = .track)
  let warm := if running && decide (x.took ≠ 3)
      && (decide (x.clsNow = .slew) || decide (x.clsNow = .hold) || decide (x.clsNow = .track)) then x.warm - 1 else x.warm
  let v := { x.now with ovrRun := x.ovrRun, phase := x.phase, reason := x.reason, warm := warm, held := x.held }
  { x with
    view := v
    now := v
    record := .none
    ready := .none
    celled := false
    excused := false
    acqFrames := if decide (x.cls = .acquire) && decide (x.clsNow = .acquire) && decide (x.took ≠ 3) then x.acqFrames + 1 else x.acqFrames
    warm := warm
    frzCmd := if decide (x.took = 2) && decide (x.clsNow ≠ .freeze) then x.heldCmd else x.frzCmd
    took := 0
    clsPrev := x.clsNow
    clsNow := x.cls }

end Sys2Proof.Machine
end

