-- ==== Sys2Proof/Machine/Shelves.lean ====
section
/-! DEFINITION. The shelves and the Pantry (R285 to R307): words and packets, banks and swaps, pops, the stale-tail timer. -/
namespace Sys2Proof.Machine

/-- Words of a list of packets. -/
def wordsOf (l : List (List Word)) : Nat := (l.map List.length).sum

/-- Fields of a shelf word (R289). -/
def wordEnd (w : Word) : Bool := bitAt w 62
def wordPoison (w : Word) : Bool := bitAt w 61

/-- The word as the shelf stores it: the producer's `VALID`, `POISON` and `CORRECTED` bits are not kept (R289). -/
def storedWord (w : Word) : Word := setBits (setBits w 60 2 0) 63 1 0

/-- Pages that `n` words take (R285). -/
def pagesFor (n : Nat) : Nat := (n + 511) / 512

/-- Words of a packet that carries `n` bytes, 7 bytes a word (R321). -/
def packetWords (n : Nat) : Nat := (n + 6) / 7

/-- Bits of one mirror's patch on an IMAGER porch (R150). -/
def LaneEntry.patchBits (e : LaneEntry) : Nat := e.edge * e.edge * e.bits

/-- Pages per bank that one exposure's stream of a sensing porch needs (R302): full cells of 4,096 bits or 128 readings. -/
def LaneEntry.streamPages (e : LaneEntry) : Nat :=
  match e.role with
  | 1 => pagesFor (75 * ((e.count * e.patchBits + 4095) / 4096))
  | 3 => pagesFor (75 * ((e.count + 127) / 128))
  | _ => 0

/-- Fixed pages per bank of the device's own shelves (R301, R302), and of a user shelf by its record. -/
def State.minPages (s : State) (n : Nat) : Nat :=
  if n < 16 then (s.laneEntry n).streamPages else if n < 50 then 4 else (s.shelf n).minPages
/-- Ceiling per bank. -/
def State.maxPages (s : State) (n : Nat) : Nat :=
  if n < 16 then (s.laneEntry n).streamPages else if n < 50 then 32 else (s.shelf n).maxPages

/-- Class of a shelf: 0 unused, 1 FRAME, 2 BULK (R301, R307). -/
def State.shelfCls (s : State) (n : Nat) : Nat :=
  if n < 16 then (if (s.laneEntry n).role = 1 ∨ (s.laneEntry n).role = 3 then 1 else 0)
  else if n < 50 then 2 else (s.shelf n).cls

/-- Producer and consumer of a shelf, each as its kind code and index (R301, R303, R307). -/
def State.shelfEnds (s : State) (n : Nat) : Nat × Nat × Nat × Nat :=
  if n < 16 then (if s.shelfCls n = 0 then (0, 0, 0, 0) else (1, n, 3, 0))
  else if n < 32 then (1, n - 16, 3, 0)
  else if n < 48 then (3, 0, 1, n - 32)
  else if n = 48 then (1, s.landing.getD 0, 3, 0)
  else if n = 49 then (3, 0, 1, s.landing.getD 0)
  else ((s.shelf n).prodKind, (s.shelf n).prodIndex, (s.shelf n).consKind, (s.shelf n).consIndex)

/-- The producer of a shelf is a porch, which cannot stall its lanes (R296, R301). -/
def porchShelf (n : Nat) : Bool := decide (n < 32) || decide (n = 48)

/-- Pages of the tables whose `LOC` is PANTRY, both banks, but for those that spilled (R279, R285, R286). -/
def State.tablePages (s : State) : Nat :=
  (s.plan.tables.map fun t => if t.2.desc.loc = 2 ∧ !s.mem.spilled.contains t.1 then 2 * ((t.2.desc.bankBytes + 4095) / 4096) else 0).sum

/-- Plan pages that tables, shelf minimums and borrowed pages take now (R285, R287). -/
def State.poolUsed (s : State) : Nat :=
  let lanes := ((List.range 16).map fun n => 2 * s.minPages n).sum
  let user := (s.shelves.map fun p => if 64 ≤ p.1 then 2 * p.2.minPages + p.2.fillExtra + p.2.drainExtra else 0).sum
  s.tablePages + lanes + user

/-- Pages in the free pool now (R285, R287): plan pages in service less those taken. -/
def State.poolFree (s : State) : Nat := 24064 - s.pantryRetired - s.poolUsed

/-- Pages that shelves run short until pages free, because a retired page found the pool empty (R288). -/
def State.poolShort (s : State) : Nat := s.pantryRetired + s.poolUsed - 24064

/-- Pages left in the firmware reserve for shelves 16 to 49 to borrow (R302). -/
def State.reserveFree (s : State) : Nat :=
  240 - (s.shelves.map fun p => if 16 ≤ p.1 ∧ p.1 < 50 then p.2.fillExtra + p.2.drainExtra else 0).sum

/-- Pages a shelf may borrow now. -/
def State.canBorrow (s : State) (n : Nat) : Nat := if n < 50 then s.reserveFree else s.poolFree

/-- Words in the fill bank, the open packet included. -/
def Shelf.fillWords (x : Shelf) : Nat := wordsOf x.fill + x.opened.length
/-- Words in the drain bank, reserved packets included (R307). -/
def Shelf.drainWords (x : Shelf) : Nat := wordsOf x.drain + wordsOf x.reserved

/-- The fill bank has room for a word as it is. -/
def State.hasRoom (s : State) (n : Nat) : Bool :=
  decide ((s.shelf n).fillWords < 512 * (s.minPages n + (s.shelf n).fillExtra - min (s.shelf n).short s.poolShort))
/-- The fill bank may grow by a page (R293). -/
def State.canGrow (s : State) (n : Nat) : Bool :=
  decide (s.shelfCls n = 2) && decide (s.minPages n + (s.shelf n).fillExtra < s.maxPages n) && decide (0 < s.canBorrow n)

/-- Every condition of a swap holds (R294); `stuck`: the fill bank cannot take another word. -/
def State.swapDue (s : State) (n : Nat) (stuck : Bool) : Bool :=
  let x := s.shelf n
  x.drain.isEmpty && x.reserved.isEmpty && !x.fill.isEmpty
    && (decide (x.swapMode = 0) || decide (x.swapWords ≤ wordsOf x.fill) || stuck || x.swapPend)

/-- The banks exchange roles (R294). -/
def State.swapShelf (s : State) (n : Nat) : State :=
  let m := s.minPages n
  s.updShelf n fun x =>
    { x with drain := x.fill, fill := [], swapPend := false, popped := 0
             drainExtra := pagesFor (wordsOf x.fill) - m, fillExtra := pagesFor x.opened.length - m }

/-- The swap takes place as soon as all its conditions hold (R294). -/
def State.swapNow (s : State) (n : Nat) : State := if s.swapDue n (!s.hasRoom n && !s.canGrow n) then s.swapShelf n else s

/-- The page of an uncorrectable word is retired; one that held a shelf minimum is replaced from the free pool, or the shelf runs one page
short (R288, R292). -/
def State.badWord (s : State) (n : Nat) : State :=
  let dry := decide (s.poolFree = 0)
  let s := if dry then s.updShelf n fun x => { x with short := x.short + 1 } else s
  (({ s with pantryRetired := s.pantryRetired + 1 }).count (Reg.SHF_ERR n) 32 16 1).shelfEvt n 5

/-- What the code of a word that is read shows (R292). -/
def State.noteWord (s : State) (n : Nat) : WordCheck → State
  | .good => s
  | .corrected => s.count (Reg.SHF_ERR n) 48 16 1
  | .uncorrectable => s.badWord n

/-- Discard the open packet (R291): `lo` is its counter's place in `SHF_DROP`, `evt` its bit in `SHF_EVT`. -/
def State.rewind (s : State) (n lo evt : Nat) : State :=
  let m := s.minPages n
  let s := s.updShelf n fun x => { x with opened := [], fillExtra := min x.fillExtra (pagesFor (wordsOf x.fill) - m) }
  (s.count (Reg.SHF_DROP n) lo 16 1).shelfEvt n evt

/-- Discard the open packet on an abort, a job's end or a removal, when there is one, with the writes that wait (R291). -/
def State.abortPacket (s : State) (n : Nat) : State :=
  let none := (s.shelf n).opened.isEmpty && (s.shelf n).waiting.isEmpty
  let s := if (s.shelf n).waiting.isEmpty then s else s.updShelf n fun x => { x with waiting := [] }
  if none then s else s.rewind n 32 2

/-- Store a word for which there is room (R289 to R291). -/
def State.storeWord (s : State) (n : Nat) (w : Word) : State :=
  let v := storedWord w
  let x := s.shelf n
  if wordEnd w then (s.updShelf n fun x => { x with fill := x.fill ++ [x.opened ++ [v]], opened := [] }).swapNow n
  else if 512 * s.maxPages n ≤ x.opened.length + 1 then s.rewind n 16 3
  else s.updShelf n fun x => { x with opened := x.opened ++ [v] }

/-- Make room for a word, by growth or else by a swap (R293 to R295); none where there is none. -/
def State.makeRoom (s : State) (n : Nat) : Option State :=
  if s.hasRoom n then some s
  else if s.canGrow n then some (s.updShelf n fun x => { x with fillExtra := x.fillExtra + 1 })
  else if s.swapDue n true && (s.swapShelf n).hasRoom n then some (s.swapShelf n)
  else none

/-- A word that waits for room, or is the first to be written, as soon as there is room for it; none while there is none (R291, R293). -/
def State.tryWord (s : State) (n : Nat) (w : Word) : Option State :=
  if wordPoison w then some (s.rewind n 48 2) else (s.makeRoom n).map fun t => t.storeWord n w

/-- Writes that wait complete in their order as far as there is room (R295), for at most `fuel` words. -/
def State.resumeShelf (n : Nat) : Nat → State → State
  | 0, s => s
  | fuel + 1, s =>
    match (s.shelf n).waiting with
    | [] => s
    | w :: ws =>
      match (s.updShelf n fun x => { x with waiting := ws }).tryWord n w with
      | some t => t.resumeShelf n fuel
      | none => s

/-- Writes that wait go on after something made room. -/
def State.resume (s : State) (n : Nat) : State := s.resumeShelf n (s.shelf n).waiting.length

/-- SHELF_SWAP (R294). -/
def execShelfSwap (shelf : BitVec 10) (s : State) : Host.Outcome State Fault Refusal :=
  .next ((s.swapNow shelf.toNat).resume shelf.toNat)

/-- A producer writes a word (R289 to R296). One that finds no room waits, and a porch's packet is rewound. -/
def State.pushWord (s : State) (n : Nat) (w : Word) : State :=
  if (s.shelf n).waiting.isEmpty then
    match s.tryWord n w with
    | some t => t
    | none => if porchShelf n then s.rewind n 0 4 else (s.updShelf n fun x => { x with waiting := [w] }).shelfEvt n 0
  else s.updShelf n fun x => { x with waiting := x.waiting ++ [w] }

/-- SHELF_WRITE (R290): an unused shelf takes nothing. -/
def execShelfWrite (shelf : BitVec 10) (op : ShelfOp) (s : State) : Host.Outcome State Fault Refusal :=
  let n := shelf.toNat
  if s.shelfCls n = 0 then .next s
  else match op with
  | .word w => .next (s.pushWord n w)
  | .abort => .next (s.abortPacket n)

/-- The words of a packet with `CH` and bytes, 7 a word, padded with zeros; the last word carries `END` (R321). -/
def packCell (ch : Nat) : Nat → List Byte → List Word
  | 0, _ => []
  | n + 1, l =>
    let w := leNat (l.take 7) + ch % 16 * 2 ^ 56
    if l.length ≤ 7 then [BitVec.ofNat 64 (w + 2 ^ 62)] else BitVec.ofNat 64 w :: packCell ch n (l.drop 7)

/-- A porch producer stores a cell's packet, or rewinds it where a word finds no room (R296); the answer says whether it is
committed. -/
def State.pushPacket (s : State) (n : Nat) : List Word → State × Bool
  | [] => (s, true)
  | w :: ws =>
    match s.makeRoom n with
    | some t => (t.storeWord n w).pushPacket n ws
    | none => (s.rewind n 0 4, false)

/-- The seat that a shelf's notices go to: its consumer seat, or the Owner seat (R300). -/
def Shelf.seatOf (x : Shelf) : Nat := if x.consKind = 4 then x.consIndex else 0

/-- Count a popped word: a borrowed page whose last word is gone returns to the pool (R287). -/
def Shelf.countPop (m : Nat) (x : Shelf) : Shelf :=
  let k := x.popped + 1
  let last := decide (k % 512 = 0) || (x.drain.isEmpty && x.reserved.isEmpty)
  { x with popped := k, drainExtra := if last && decide (m < pagesFor k) then x.drainExtra - 1 else x.drainExtra, fired := false }

/-- The word a pop delivers, with its `VALID`, `POISON` and `CORRECTED` bits (R289, R292). -/
def poppedWord (w : Word) (poison : Bool) (check : WordCheck) : Word :=
  setBits (setBits (setBits w 63 1 1) 61 1 (bit poison)) 60 1 (bit (decide (check = .corrected)))

/-- Remove the head word of the drain bank (R292, R298). -/
def State.popWord (s : State) (n : Nat) (check : WordCheck) : State :=
  match (s.shelf n).drain with
  | (w :: ws) :: ps =>
    let bad := (s.shelf n).poison || decide (check = .uncorrectable)
    let m := s.minPages n
    let s := s.updShelf n fun x =>
      Shelf.countPop m { x with drain := if ws.isEmpty then ps else ws :: ps, poison := bad && !ws.isEmpty }
    (({ s with readData := poppedWord w bad check }).noteWord n check).swapNow n
  | _ => { s with readData := 0 }

/-- SHELF_POP (R297, R298): only a 64-bit read by the seat that `CONS_INDEX` names pops. -/
def execShelfPop (seat : BitVec 3) (shelf : BitVec 10) (w : Width) (check : WordCheck) (s : State) :
    Host.Outcome State Fault Refusal :=
  let n := shelf.toNat
  let x := s.shelf n
  if w = .full ∧ x.cls ≠ 0 ∧ x.consKind = 4 ∧ x.consIndex = seat.toNat then .next ((s.popWord n check).resume n)
  else .next { s with readData := 0 }

/-- STALE_TIMER (R300): `STALE_US` have passed since the last pop with a committed packet in the shelf. -/
def execStaleTimer (shelf : BitVec 10) (s : State) : Host.Outcome State Fault Refusal :=
  let n := shelf.toNat
  let x := s.shelf n
  if x.notice = 1 ∧ !x.fired ∧ !(x.drain.isEmpty && x.fill.isEmpty) then
    .next (((s.updShelf n fun x => { x with swapPend := true, fired := true }).shelfEvt n 1 [x.seatOf]).swapNow n |>.resume n)
  else .next s

/-- FLUSH (R307): a swap is pending as R300 says. -/
def execFlush (shelf : BitVec 10) (s : State) : Host.Outcome State Fault Refusal :=
  if s.shelfCls shelf.toNat = 0 then .next s
  else .next (((s.updShelf shelf.toNat fun x => { x with swapPend := true }).swapNow shelf.toNat).resume shelf.toNat)

/-- EMPTY (R307): the shelf is emptied at the next tick. -/
def execEmpty (shelf : BitVec 10) (s : State) : Host.Outcome State Fault Refusal :=
  if s.shelfCls shelf.toNat = 0 then .next s else .next (s.updShelf shelf.toNat fun x => { x with emptyNow := true })

/-- Empty a shelf: its open packet counts as aborted, and its pages return (R305 to R307). -/
def State.emptyShelf (s : State) (n : Nat) : State :=
  (s.abortPacket n).updShelf n fun x =>
    { x with fill := [], opened := [], drain := [], fillExtra := 0, drainExtra := 0, popped := 0, swapPend := false, fired := false
             poison := false, emptyNow := false }

/-- Shelves whose EMPTY is due at the tick, and every swap that is due by then (R294, R307). -/
def State.shelfTick (s : State) : State :=
  let s := s.each (tkeys (·.emptyNow) s.shelves) fun n s => s.emptyShelf n
  s.each (s.shelves.map (·.1)) fun n s => (s.swapNow n).resume n

-- Copies from a shelf (R299) ----------------------------------------------------------------------------------------------

/-- Whole packets from the front that fit in `len` bytes. -/
def fitting (len : Nat) : List (List Word) → List (List Word) × List (List Word)
  | [] => ([], [])
  | p :: ps =>
    if 8 * p.length ≤ len then
      let r := fitting (len - 8 * p.length) ps
      (p :: r.1, r.2)
    else ([], p :: ps)

/-- A copy whose source is a shelf reserves the packets that can be read now (R299). -/
def State.reserveShelf (s : State) (n len : Nat) : State :=
  s.updShelf n fun x =>
    let r := fitting len x.drain
    { x with reserved := x.reserved ++ r.1, drain := r.2 }

/-- Words of one packet as a copy delivers them from its word `i` on: a word that is uncorrectable and every later one carry POISON
(R292). -/
def markPacket (checks : List (Nat × WordCheck)) : Nat → Bool → List Word → List Word
  | _, _, [] => []
  | i, bad, w :: ws =>
    let is (c : WordCheck) := checks.contains (i, c)
    let bad := bad || wordPoison w || is .uncorrectable
    setBits (setBits w 61 1 (bit bad)) 60 1 (bit (bitAt w 60 || is .corrected)) :: markPacket checks (i + 1) bad ws

/-- The packets that a copy has reserved, with the words that were corrected or uncorrectable, by their place in the copy. -/
def markPackets (checks : List (Nat × WordCheck)) : Nat → List (List Word) → List (List Word)
  | _, [] => []
  | i, p :: ps => markPacket checks i false p :: markPackets checks (i + p.length) ps

/-- Words of a copy from a shelf were corrected or uncorrectable (R292, R299). -/
def State.checkReserved (s : State) (n : Nat) (checks : List (Nat × WordCheck)) : State :=
  let s := s.updShelf n fun x => { x with reserved := markPackets checks 0 x.reserved }
  checks.foldl (fun s c => s.noteWord n c.2) s

/-- The copy has completed: its packets leave (R299). -/
def State.releaseShelf (s : State) (n : Nat) : State :=
  let m := s.minPages n
  (s.updShelf n fun x =>
    let k := x.popped + wordsOf x.reserved
    let y := { x with reserved := [], popped := k, fired := false }
    if y.drain.isEmpty then { y with drainExtra := 0 }
    else { y with drainExtra := min y.drainExtra (pagesFor (k + wordsOf y.drain) - max m (k / 512)) }).swapNow n |>.resume n

/-- The job has ended before the copy completed: the packets return to the head of the shelf (R299). -/
def State.returnShelf (s : State) (n : Nat) : State :=
  s.updShelf n fun x => { x with drain := x.reserved ++ x.drain, reserved := [] }

end Sys2Proof.Machine
end

