-- ==== Sys2Proof/Machine/Tiles.lean ====
section
/-! DEFINITION. The tiles: pre-emption, context switches, scratch faults, lost tiles and dies, and the Stair (R91 to R101, R111 to
R114, R127 to R129). -/
namespace Sys2Proof.Machine

/-- Tile 32d + t is in service (R129). -/
def State.tileIn (s : State) (t : Nat) : Bool := !(s.tile t).lost && !s.boot.stopped

/-- Tiles lost, or lost in the current frame (R128). -/
def State.tilesOut (s : State) : List Nat := (List.range 128).filter fun t => (s.tile t).lost || (s.tile t).lostNow

/-- The tile holds Sense work (R111). -/
def Tile.sense (x : Tile) : Bool := decide (x.stage ≠ 15)

/-- Pages that the contexts of a tile hold. -/
def Tile.used (x : Tile) : Nat := (x.contexts.map fun c => c.2.length).sum

/-- Pages in the frame-critical partition (R93, R130). -/
def Tile.fcPages (x : Tile) : Nat := x.fcMap.length

/-- A page of the background partition that is neither allotted nor retired (R93, R97). -/
def Tile.isFree (x : Tile) (p : Nat) : Bool :=
  !x.fcMap.contains p && !x.retired.contains p && !(x.contexts.any fun c => c.2.contains p)

/-- The free background pages, ascending; 992 to 1,023 are the runtime's (R93). -/
def Tile.free (x : Tile) : List Nat := (List.range 992).filter x.isFree

/-- Background pages not allotted and not retired (R130): a retired page of a context that has not ended yet counts once. -/
def Tile.freePages (x : Tile) : Nat :=
  992 - x.fcPages - x.used - (x.retired.filter fun p => !(x.contexts.any fun c => c.2.contains p)).length

/-- The pages allotted to a job's context on a tile, in the order of its addresses. -/
def Tile.pagesOf (x : Tile) (j : Nat) : List Nat := match x.contexts.find? (·.1 = j) with | some c => c.2 | none => []

/-- Where byte `a` of a program's scratch lies in RAM, through its page map (R93); none for an address it does not hold. -/
def pageAt (t : Nat) (pages : List Nat) (a : Nat) : Option Nat :=
  (pages[a / 4096]?).map fun p => scratchBase t + 4096 * p + a % 4096

/-- Tiles of a bit set. -/
def maskTiles (m : Nat) : List Nat := members 128 m

-- Copies at the head of a queue ---------------------------------------------------------------------------------------------

/-- Pages that a destination range touches: the beats of a plain copy, or of one row of a strided one (R103). The spec gives a
descriptor "optional two-dimensional strides" and no form for them: a row length, a pitch for each side, a length that counts all bytes,
and beats cut within each row are the model's choice (DESIGN CHOICE, log 54). -/
def beatsIn (dst len : Nat) : Nat := if len = 0 then 0 else (dst + len - 1) / 4096 - dst / 4096 + 1

/-- Start and length, from `dst`, of beat `b` of a plain range (R103). -/
def beatSpan (dst len b : Nat) : Nat × Nat :=
  let lo := if b = 0 then 0 else (dst / 4096 + b) * 4096 - dst
  (lo, min len ((dst / 4096 + b + 1) * 4096 - dst) - lo)

/-- Rows of a copy. -/
def Copy.rows (c : Copy) : Nat := if c.row = 0 then 1 else (c.len + c.row - 1) / c.row
/-- Bytes of row `r`. -/
def Copy.rowLen (c : Copy) (r : Nat) : Nat := if c.row = 0 then c.len else min c.row (c.len - r * c.row)

/-- Beats of the first `n` rows. -/
def Copy.beatsOfRows (c : Copy) : Nat → Nat
  | 0 => 0
  | n + 1 => c.beatsOfRows n + beatsIn (c.dst + n * c.dstPitch) (c.rowLen n)

/-- Beats of a copy. -/
def Copy.total (c : Copy) : Nat := c.beatsOfRows c.rows

/-- Offset in the copy, source, destination and length of beat `b`, looked for from row `r` over at most `n` rows. -/
def Copy.beatAt (c : Copy) : Nat → Nat → Nat → Nat × Nat × Nat × Nat
  | 0, _, _ => (c.len, c.src, c.dst, 0)
  | n + 1, r, b =>
    let dst := c.dst + r * c.dstPitch
    let k := beatsIn dst (c.rowLen r)
    if b < k then
      let sp := beatSpan dst (c.rowLen r) b
      (r * c.row + sp.1, c.src + r * c.srcPitch + sp.1, dst + sp.1, sp.2)
    else c.beatAt n (r + 1) (b - k)

/-- Beat `b` of a copy: offset, source, destination, length. -/
def Copy.beat (c : Copy) (b : Nat) : Nat × Nat × Nat × Nat := c.beatAt c.rows 0 b

/-- Progress in bytes: what the unbroken run of completed beats covers (R104). -/
def Copy.progress (c : Copy) : Nat := if c.beats = 0 then 0 else let p := c.beat (c.beats - 1); p.1 + p.2.2.2

/-- Queue `q` of a bank. -/
def Bank.queue (b : Bank) (q : Nat) : List Copy := (b.queues[q]?).getD []
/-- Replace queue `q` of a bank. -/
def Bank.setQueue (b : Bank) (q : Nat) (l : List Copy) : Bank :=
  { b with queues := (List.range 4).map fun i => if i = q then l else b.queue i }

-- Giving way ------------------------------------------------------------------------------------------------------------------

/-- Recorded progress and length of the copy at the head of queue 0 of a bank (R109, R130). -/
def Bank.headCopy (b : Bank) : Nat × Nat := match b.queue 0 with | c :: _ => (c.progress, c.len) | [] => (0, 0)

/-- Record the head copy of a job's context that gives way, or has given way (R109, R130). -/
def State.noteCopy (s : State) (j : Nat) (b : Bank) : State :=
  s.updJob j fun y => { y with copyProg := b.headCopy.1, copyLen := b.headCopy.2 }

/-- The context on the bulk bank gives way: its queues stop issuing and the progress of their heads is recorded (R109, R130). Beats
already issued complete and still raise it. -/
def State.giveWay (s : State) (t : Nat) : State :=
  let x := s.tile t
  let s := match x.running with
    | some j => s.noteCopy j x.bulk
    | none => s
  s.updTile t fun x => { x with bulkOn := false, waiting := false, request := false }

/-- The queues of a context that runs again: every beat beyond the recorded progress is executed again (R104, R109). -/
def Bank.resume (b : Bank) : Bank :=
  { b with queues := b.queues.map fun q => q.map fun c => { c with ahead := [], stop := none } }

/-- The context on the bulk bank runs, or goes on waiting on its fence (R106, R127). -/
def Tile.enter (x : Tile) : Tile :=
  { x with bulkOn := x.bulk.waitOn.isEmpty, waiting := !x.bulk.waitOn.isEmpty, request := false, nextJob := none }

/-- The runtime sends a pre-emption request to a tile (R112): a context that waits on a fence gives way at once (R127). -/
def State.requestTile (s : State) (t : Nat) : State :=
  if (s.tile t).waiting then s.giveWay t
  else s.updTile t fun x => if x.bulkOn then { x with request := true } else x

/-- Every context of a job is asked to give way (R271). -/
def State.requestJob (s : State) (j : Nat) : State :=
  s.each ((s.job j).tiles.filter fun u => (s.tile u).running = some j) fun u s => s.requestTile u

/-- YIELD_POINT (R112): the context gives way when a request is pending. -/
def execYieldPoint (tile : BitVec 7) (s : State) : Host.Outcome State Fault Refusal :=
  let t := tile.toNat
  if (s.tile t).request && (s.tile t).bulkOn then .next ((s.giveWay t).count Reg.TIL_PREEMPT 0 32 1) else .next s

/-- FORCED_PREEMPTION (R113): the resume point is the oldest abandoned operation. -/
def execForcedPreemption (tile : BitVec 7) (pc : BitVec 48) (s : State) : Host.Outcome State Fault Refusal :=
  let t := tile.toNat
  let x := s.tile t
  if x.request && x.bulkOn then
    let s := (s.giveWay t).updTile t fun x => { x with bulk := { x.bulk with pc := pc.toNat } }
    let s := s.count Reg.TIL_PREEMPT 32 32 1
    .next (if bitAt (s.cfgReg Reg.TIL_CTL) 1 then
      s.record 0x0006 Sev.info 2 [BitVec.ofNat 8 t, BitVec.ofNat 8 (x.running.getD 0)] else s)
  else .next s

/-- The bulk bank goes to the save area of its context (R114). -/
def Tile.stow (x : Tile) : Tile :=
  match x.running with
  | some i => { x with saved := tset (fun _ => ({} : Bank)) x.saved i x.bulk, bulk := {}, running := none }
  | none => x

/-- The runtime switches the bulk bank to a job's context: the outgoing bank goes to its save area (R114). A context that runs on is
not touched. -/
def State.switchTo (s : State) (t j : Nat) : State :=
  let x := s.tile t
  if x.running = some j then
    s.updTile t fun x => ({ x with bulk := if x.bulkOn || x.waiting then x.bulk else x.bulk.resume }).enter
  else
    let s := if x.bulkOn || x.waiting then s.giveWay t else s
    s.updTile t fun x =>
      let y := x.stow
      ({ y with saved := tset (fun _ => ({} : Bank)) y.saved j {}, bulk := (tget (fun _ => ({} : Bank)) y.saved j).resume
                running := some j }).enter

/-- A job may run on a tile: it holds a context there and is READY or RUNNING. -/
def State.mayRun (s : State) (t j : Nat) : Bool :=
  ((s.tile t).contexts.any fun c => c.1 = j) && (decide ((s.job j).state = .ready) || decide ((s.job j).state = .running))

/-- CONTEXT_SWITCH (R114, R127): on a Sense tile the bulk bank runs only after the last frame-critical program of the frame. -/
def execContextSwitch (tile : BitVec 7) (job : BitVec 8) (s : State) : Host.Outcome State Fault Refusal :=
  let t := tile.toNat
  let x := s.tile t
  if s.tileIn t && s.mayRun t job.toNat && (!x.sense || x.fcDone) then .next (s.switchTo t job.toNat) else .next s

/-- FRAME_PROGRAM_END (R111): background contexts run from here on a Sense tile. A program that waits on a fence has not ended. -/
def execFrameProgramEnd (tile : BitVec 7) (s : State) : Host.Outcome State Fault Refusal :=
  let t := tile.toNat
  let x := s.tile t
  if x.sense && s.tileIn t && !x.fcDone && x.frame.waitOn.isEmpty then
    let s := s.updTile t fun x => { x with fcDone := true }
    match x.nextJob with
    | some j => .next (if s.mayRun t j then s.switchTo t j else s)
    | none => .next s
  else .next s

-- Lost tiles and dies (R100, R128) ----------------------------------------------------------------------------------------------

/-- The estimates of every loop pass through the tiles of the placement in force (R88, log 18): the loops send no command and
overrun in no frame that the loss touches. -/
def State.excuseLoops (s : State) : State :=
  { s with loops := tmap (fun _ => {}) (fun _ x => if x.cls = .off then x else { x with excused := true }) s.loops }

/-- A tile is lost in the current frame (R128). -/
def State.loseTile (s : State) (t : Nat) : State :=
  let x := s.tile t
  if x.lost || x.lostNow then s
  else
    let s := s.updTile t fun x => { x with lostNow := true, bulkOn := false, waiting := false, request := false }
    let s := { s with plan := { s.plan with selectNow := true } }
    if x.sense then { s.excuseLoops with plan := { s.plan with excuseTo := some (s.hrt.frame + 1) } } else s

/-- A compute die is lost: all of its tiles are (R128). -/
def State.loseDie (s : State) (d : Nat) : State := s.each (span (32 * d) 32) fun t s => s.loseTile t

/-- The die that a down hop names (R100). -/
def hopDie (h : Nat) : Nat := match h with | 0 => 0 | 1 => 1 | 2 => 2 | 3 => 2 | _ => 3

/-- Dies joined to the IOD through hops that are up: CDd by hops 0 to d, or by hops d + 1 to 4 (R100, R101). -/
def joined (down : List Nat) (d : Nat) : Bool :=
  !(down.any fun h => decide (h ≤ d)) || !(down.any fun h => decide (d < h))

/-- Hops from node `a` to node `b` of the ring, counted upward: node 0 is the IOD, node d + 1 is CDd, and hop h joins nodes h and
h + 1 (R98). -/
def upHops (a b : Nat) : List Nat := (List.range ((b + 5 - a) % 5)).map fun i => (a + i) % 5

/-- The hops of the path between two nodes (R98, R101): the shorter way round while every hop is up, else the way that crosses no hop that
is down; none where there is no such way. -/
def hopPath (down : List Nat) (a b : Nat) : Option (List Nat) :=
  let u := upHops a b
  let v := (upHops b a).reverse
  if down.isEmpty then some (if u.length ≤ v.length then u else v)
  else if !u.any down.contains then some u
  else if !v.any down.contains then some v
  else none

/-- A hop goes down (R100, R101): the die beyond it is lost, and every die no longer joined to the IOD. -/
def State.downHop (s : State) (h : Nat) : State :=
  if s.til.hops.contains h then s
  else
    let s := ({ s with til := { s.til with hops := s.til.hops ++ [h] } }).raise Src.til 5 h
    let s := s.loseDie (hopDie h)
    s.each ((List.range 4).filter fun d => !joined s.til.hops d) fun d s => s.loseDie d

/-- HOP_DOWN (R100, R101). -/
def execHopDown (hop : Fin 5) (s : State) : Host.Outcome State Fault Refusal := .next (s.downHop hop.val)

/-- An end reason of a job, which falls at the next tick (R121, R122). -/
def State.endAt (s : State) (r j : Nat) : State :=
  let x := s.job j
  if x.state = .none ∨ x.state = .ended then s
  else s.updJob j fun y => { y with ending := if y.ending.contains r then y.ending else y.ending ++ [r] }

/-- End reasons (R121). -/
def EndReason.done : Nat := 1
def EndReason.stopped : Nat := 2
def EndReason.fault : Nat := 3
def EndReason.commit : Nat := 4
def EndReason.seatReset : Nat := 5
def EndReason.tileLost : Nat := 6
def EndReason.placement : Nat := 7
def EndReason.refused : Nat := 8

/-- SCRATCH_UE (R97): an uncorrectable error in a scratch page. -/
def execScratchUe (tile : BitVec 7) (page : BitVec 10) (s : State) : Host.Outcome State Fault Refusal :=
  let t := tile.toNat
  let x := s.tile t
  let g := page.toNat
  let s := ((s.count Reg.TIL_SCRATCH_ECC 16 16 1).setField Reg.TIL_SCRATCH_ECC 0 8 t).raise Src.til 2 t
  if g ∈ x.fcMap ∨ 992 ≤ g then .next (s.loseTile t)
  else
    let s := s.updTile t fun x => { x with retired := if x.retired.contains g then x.retired else x.retired ++ [g] }
    match x.contexts.find? fun c => c.2.contains g with
    | some c => .next ((s.endAt EndReason.fault c.1).requestJob c.1)
    | none => .next s

/-- PARTITION_VIOLATION (R94): the program stops. It is a job fault for the background context that runs, the loss of the tile for a
frame-critical program. -/
def execPartitionViolation (tile : BitVec 7) (frameCritical : Bool) (s : State) : Host.Outcome State Fault Refusal :=
  let t := tile.toNat
  if frameCritical then .next (s.loseTile t)
  else match (s.tile t).running with
  | some j => .next (if (s.tile t).bulkOn then ((s.giveWay t).endAt EndReason.fault j).requestJob j else s)
  | none => .next s

/-- A tile's completion token for the frame (R128). -/
def State.tokenTile (s : State) (missed : List Nat) (t : Nat) : State :=
  let x := s.tile t
  if x.lost || x.lostNow then s
  else if missed.contains t then
    let s := s.updTile t fun x => { x with missed := x.missed + 1 }
    if 2 ≤ x.missed + 1 then s.loseTile t else s
  else if x.missed = 0 then s else s.updTile t fun x => { x with missed := 0 }

-- At the tick -----------------------------------------------------------------------------------------------------------------------

/-- Tiles lost in the frame that ends leave service, and dies with them (R128, R129). -/
def State.tileTick (s : State) : State :=
  let lost := (List.range 128).filter fun t => (s.tile t).lostNow
  let s := s.each lost fun t s =>
    let js := (s.tile t).contexts.map (·.1)
    let s := (s.updTile t fun x => { x with lost := true, lostNow := false, running := none, bulk := {}, saved := [], contexts := [] }).raise Src.til 3 t
    s.each js fun j s => s.endAt EndReason.tileLost j
  let dies := (List.range 4).filter fun d => !s.til.dies.contains d && (span (32 * d) 32).all fun t => (s.tile t).lost
  let s := s.each dies fun d s => s.raise Src.til 4 d
  { s with til := { s.til with dies := s.til.dies ++ dies } }

end Sys2Proof.Machine
end

