-- ==== Sys2Proof/Machine/Image.lean ====
section
/-! DEFINITION. The plan image: its container and sections, and the two phases of validation (R53 to R72). Contents are sparse:
the nonzero bytes by offset. -/
namespace Sys2Proof.Machine

-- The container (R53 to R55) ------------------------------------------------------------------------------------------------

/-- One directory entry (R54). -/
structure ImgSection where
  typ : Nat
  crc : Nat
  off : Nat
  len : Nat
  deriving DecidableEq, Repr

/-- Section types (R55). -/
def Sec.features : Nat := 1
def Sec.frame : Nat := 2
def Sec.lanes : Nat := 3
def Sec.loops : Nat := 4
def Sec.tables : Nat := 5
def Sec.estim : Nat := 6
def Sec.place : Nat := 7
def Sec.shelves : Nat := 8
def Sec.jobs : Nat := 9
def Sec.sign : Nat := 0xFF

/-- `KIND` of an image: 0 FULL, 1 PATCH (R54). -/
def imgKind (im : List (Nat × Byte)) : Nat := bankNat im 6 1

/-- The directory of an image (R54). -/
def imgSections (im : List (Nat × Byte)) : List ImgSection :=
  (List.range (min 16 (bankNat im 0x10 2))).map fun i =>
    let o := 0x80 + 32 * i
    ⟨bankNat im o 2, bankNat im (o + 4) 4, bankNat im (o + 8) 8, bankNat im (o + 16) 8⟩

/-- The section of a type. -/
def secOf (l : List ImgSection) (t : Nat) : Option ImgSection := l.find? fun x => x.typ = t

/-- The first condition of a list that does not hold, with its place. -/
def firstFail : List (Bool × Nat) → Option Nat
  | [] => none
  | (ok, w) :: t => if ok then firstFail t else some w

/-- A section's own length is one that its layout allows (R55 to R62, R117, R303). -/
def secLength (im : List (Nat × Byte)) (x : ImgSection) : Bool :=
  let n := bankNat im x.off 4
  if x.typ = Sec.features ∨ x.typ = Sec.frame then decide (x.len = 64)
  else if x.typ = Sec.lanes then decide (x.len = 512)
  else if x.typ = Sec.loops then
    (if imgKind im = 1 then decide (x.len = 8 + 72 * n) else decide (x.len = 1048576))
  else if x.typ = Sec.tables then decide (n ≤ 1024) && decide (8 + 48 * n ≤ x.len)
  else if x.typ = Sec.shelves then decide (n ≤ 960) && decide (x.len = 8 + 32 * n)
  else if x.typ = Sec.jobs then decide (n ≤ 64) && decide (8 + 192 * n ≤ x.len)
  else if x.typ = Sec.sign then decide (x.len = 256)
  else true

/-- The set of sections fits the image's kind (R55). -/
def secSet (kind : Nat) (l : List ImgSection) : Bool :=
  let has (t : Nat) : Bool := (secOf l t).isSome
  if kind = 1 then
    (l.all fun x => decide (x.typ = Sec.loops) || decide (x.typ = Sec.tables) || decide (x.typ = Sec.sign))
      && (has Sec.loops || has Sec.tables)
  else has Sec.features && has Sec.frame && has Sec.lanes && has Sec.loops && has Sec.estim

/-- Two sections share no byte. -/
def apart (a b : ImgSection) : Bool := decide (a.off + a.len ≤ b.off) || decide (b.off + b.len ≤ a.off)

/-- The pairs of a list satisfy `p`. -/
def pairsAll {α : Type} (p : α → α → Bool) : List α → Bool
  | [] => true
  | a :: t => t.all (p a) && pairsAll p t

/-- The place, byte offset ÷ 4,096, of the first fault of header, directory, section set or padding; none where all are valid
(R53 to R55). SIGN must be the last entry of the directory as well as the section that ends the image (DESIGN CHOICE, log 49). -/
def formatFault (im : List (Nat × Byte)) (n : Nat) : Option Nat :=
  let l := imgSections im
  let dirEnd := 0x80 + 32 * l.length
  let head := firstFail [(decide (n ≤ 251658240) && decide (0x80 ≤ n), 0), (decide (bankNat im 0 4 = 0x4950484D), 0),
    (decide (bankNat im 4 1 = 1), 0), (decide (imgKind im ≤ 1), 0), (decide (bankNat im 8 8 = n), 0),
    (decide (1 ≤ bankNat im 0x10 2) && decide (bankNat im 0x10 2 ≤ 16), 0), (decide (dirEnd ≤ n), 0),
    (decide (imgKind im = 1) || decide (bankNat im 0x40 64 = 0), 0)]
  let dir := firstFail [
    (l.all fun x => decide (1 ≤ x.typ) && (decide (x.typ ≤ 9) || decide (x.typ = Sec.sign)), 0),
    (pairsAll (fun a b => decide (a.typ ≠ b.typ)) l, 0), (pairsAll apart l, 0),
    (l.all fun x => decide (x.off % 4096 = 0) && decide (dirEnd ≤ x.off) && decide (x.off + x.len ≤ n), 0),
    (l.all fun x => decide (x.typ ≠ Sec.sign)
      || (decide (x.off + x.len = n) && decide ((l.getLast?).map (·.typ) = some Sec.sign)), 0),
    (secSet (imgKind im) l, 0)]
  let body := firstFail (l.map fun x => (secLength im x, x.off / 4096))
  let pad := (im.find? fun b => decide (dirEnd ≤ b.1) && l.all fun x => decide (b.1 < x.off) || decide (x.off + x.len ≤ b.1)).map
    fun b => b.1 / 4096
  match head, dir, body with
  | some w, _, _ => some w
  | none, some w, _ => some w
  | none, none, some w => some w
  | none, none, none => pad

/-- The image digest (R56): over the image up to SIGN. -/
def imageDigest (im : List (Nat × Byte)) (n : Nat) : Nat :=
  let e := match secOf (imgSections im) Sec.sign with | some x => x.off | none => n
  Config.shake256 e (im.filter fun b => b.1 < e)

/-- The bytes of sparse contents. -/
def imgBytes (im : List (Nat × Byte)) (o n : Nat) : List Byte := tgetList (fun _ => 0) im o n

/-- The context string of a plan's signature, "MHPLAN" (R57). -/
def planContext : List Byte := [0x4D, 0x48, 0x50, 0x4C, 0x41, 0x4E]

/-- The signature check of R57. -/
def signOk (im : List (Nat × Byte)) (n : Nat) (keys : List (List Byte)) (required : Bool) : Bool :=
  match secOf (imgSections im) Sec.sign with
  | none => !required
  | some x =>
    decide (bankNat im x.off 2 = 1) && decide (bankNat im (x.off + 8) 64 = imageDigest im n)
      && keys.any fun k => decide (keyIdOf k = imgBytes im (x.off + 0x48) 16)
        && Config.ed448 planContext k (imageDigest im n) (imgBytes im (x.off + 0x58) 114)

-- Sections -----------------------------------------------------------------------------------------------------------------------

/-- FRAME (03). -/
def parseFrame (im : List (Nat × Byte)) (o : Nat) : FrameCfg :=
  let v (k : Nat) := bankNat im (o + k) 4
  { period := v 0, emitDl := v 4, lateFill := v 8, senseStart := v 0x10, senseEnd := v 0x14, loopStart := v 0x18
    loopEnd := v 0x1C, emitStart := v 0x20, emitEnd := v 0x24, guardStart := v 0x28, guardEnd := v 0x2C }

/-- LANES (03). -/
def parseLanes (im : List (Nat × Byte)) (o : Nat) : List LaneEntry :=
  (List.range 16).map fun p =>
    let v (k n : Nat) := bankNat im (o + 32 * p + k) n
    { role := v 0 1, headType := v 2 2, headId := v 4 4, first := v 8 2, count := v 10 2, edge := v 0x10 2, bits := v 0x12 1 }

/-- LOOPS of a FULL image, or the records of a PATCH (R61); all-zero descriptors of a FULL image are not listed. -/
def parseLoops (im : List (Nat × Byte)) (x : ImgSection) : List (Nat × BitVec 512) :=
  let d (o : Nat) : BitVec 512 := BitVec.ofNat 512 (bankNat im o 64)
  if imgKind im = 1 then
    (List.range (bankNat im x.off 4)).map fun i => (bankNat im (x.off + 8 + 72 * i) 2, d (x.off + 16 + 72 * i))
  else ((List.range 16384).map fun l => (l, d (x.off + 64 * l))).filter fun p => p.2 ≠ 0

/-- TABLES (03). -/
def parseTables (im : List (Nat × Byte)) (x : ImgSection) : List TableDesc :=
  (List.range (min 1024 (bankNat im x.off 4))).map fun i =>
    let v (k n : Nat) := bankNat im (x.off + 8 + 48 * i + k) n
    let ext := decide (v 4 2 / 2 % 2 = 1)
    { id := v 0 2, kind := v 2 1, loc := v 3 1, flags := v 4 2, entrySize := v 8 4, count := v 0xC 4, dataOff := v 0x10 8
      bankBytes := v 0x18 8, crc := v 0x20 4
      bytes := if ext then [] else tslice im (x.off + v 0x10 8) (v 8 4 * v 0xC 4) }

/-- The sensing entries of ESTIM (R152, log 10): one for each IMAGER or TAP porch of LANES, at the start of the section. -/
def parseSenses (im : List (Nat × Byte)) (x : ImgSection) (n : Nat) : List SenseEntry :=
  (List.range n).map fun i =>
    let v (k w : Nat) := bankNat im (x.off + 16 * i + k) w
    ⟨v 0 1, v 4 4, v 8 4, v 12 4⟩

/-- SHELVES (R303). -/
def parseShelves (im : List (Nat × Byte)) (x : ImgSection) : List ShelfRec :=
  (List.range (min 960 (bankNat im x.off 4))).map fun i =>
    let v (k n : Nat) := bankNat im (x.off + 8 + 32 * i + k) n
    { shelf := v 0 2, cls := v 2 1, notice := v 3 1 % 2, swapMode := v 3 1 / 2, minPages := v 4 2, maxPages := v 6 2
      swapWords := v 8 4, staleUs := v 0xC 2, prodKind := v 0x10 1, prodIndex := v 0x11 1, consKind := v 0x12 1
      consIndex := v 0x13 1 }

/-- A JOBS record with its `KIND` (R117); reserved bits of `FLAGS` are ignored (log 10), and its tiles are those of its mask. -/
def parseJobs (im : List (Nat × Byte)) (x : ImgSection) : List (Nat × JobRec) :=
  (List.range (min 64 (bankNat im x.off 4))).map fun i =>
    let v (k n : Nat) := bankNat im (x.off + 8 + 192 * i + k) n
    let svc := decide (v 2 1 = 1)
    (v 2 1, { job := v 0 2, seat := v 0x80 1, weight := v 3 1, flags := v 4 4 % 8 + 8
              service := if svc then v 0x20 8 else 0, tiles := v 8 16, count := (members 128 (v 8 16)).length
              scratch := v 0x18 4, gddr7Kb := v 0x1C 4
              tables := ((List.range 8).map fun k => v (0x30 + 2 * k) 2).filter fun t => t ≠ 0xFFFF
              digest := v 0x40 64, args := [], imgOff := v 0x20 8, imgLen := v 0x28 8 })

/-- The plan that an image spells, with what the validator derives from the parts in Gorlith's encoding (R63, R64). -/
def parsePlan (im : List (Nat × Byte)) (n : Nat) (fig : Figures) : Plan :=
  let l := imgSections im
  let at_ {α : Type} (t : Nat) (d : α) (f : ImgSection → α) : α := match secOf l t with | some x => f x | none => d
  let lanes : List LaneEntry := at_ Sec.lanes [] fun x => parseLanes im x.off
  let k := (lanes.filter fun e => decide (e.role = 1) || decide (e.role = 3)).length
  { kind := imgKind im, planId := bankNat im 0x14 4, base := bankNat im 0x40 64, digest := imageDigest im n
    required := at_ Sec.features 0 fun x => bankNat im x.off 32, frame := at_ Sec.frame {} fun x => parseFrame im x.off
    lanes := lanes, loops := at_ Sec.loops [] (parseLoops im), tables := at_ Sec.tables [] (parseTables im)
    senses := at_ Sec.estim [] fun x => parseSenses im x k, shelves := at_ Sec.shelves [] (parseShelves im)
    jobs := at_ Sec.jobs [] fun x => (parseJobs im x).map (·.2), place0 := fig.place0, places := fig.places }

-- Refusals (R71) ------------------------------------------------------------------------------------------------------------------------

/-- `UNIT` of a refusal code (R71, R90): 0 cycles, 1 bytes, 2 KB, 3 count. -/
def refusalUnit (code : Nat) : Nat :=
  if code = 8 ∨ code = 9 ∨ code = 10 then 0
  else if code = 11 ∨ code = 12 then 1
  else if code = 13 ∨ code = 0x14 then 2
  else 3

/-- One refusal. -/
def refusal (code loc excess : Nat) : Refusal1 := ⟨code, refusalUnit code, loc, min excess (2 ^ 32 - 1)⟩

/-- The refusals of a check that fails at these places. -/
def refuseAt (code : Nat) (l : List Nat) : List Refusal1 := l.eraseDups.map fun w => refusal code w 1

/-- Ascending order of code and then of `WHERE` (R67). -/
def insertRefusal (r : Refusal1) : List Refusal1 → List Refusal1
  | [] => [r]
  | h :: t => if r.code < h.code ∨ (r.code = h.code ∧ r.loc < h.loc) then r :: h :: t else h :: insertRefusal r t

/-- FRAME constraints that fail, by row of R20 (R59). -/
def frameFaults (c : FrameCfg) : List Nat :=
  let rows : List Bool := [
    decide (37500 ≤ c.period) && decide (c.period ≤ 1200000),
    decide (c.guardEnd = c.period) && decide (c.guardStart + 3008 + steerMax c ≤ c.guardEnd),
    decide (c.senseStart = 0) && decide (c.senseEnd ≤ c.loopEnd),
    decide (c.senseStart ≤ c.loopStart) && decide (c.loopEnd ≤ c.emitDl),
    decide (c.emitStart = c.loopStart) && decide (c.emitEnd = c.emitDl),
    decide (2400 ≤ c.lateFill) && decide (c.lateFill ≤ 9600),
    decide (c.emitDl + c.lateFill + 2400 ≤ c.guardStart)]
  (rows.zipIdx.filter fun r => !r.1).map fun r => r.2 + 1

/-- The entry holds mirrors or ports, and these lie in range (R60). -/
def laneRange (e : LaneEntry) : Bool :=
  if e.role = 1 ∨ e.role = 2 then decide (e.first + e.count ≤ 8192)
  else if e.role = 3 then decide (e.first + e.count ≤ 4096) else true

/-- Two entries of one role whose ranges meet. -/
def lanesMeet (a b : LaneEntry) : Bool :=
  decide (a.role = b.role) && (decide (a.role = 1) || decide (a.role = 2) || decide (a.role = 3))
    && decide (a.first < b.first + b.count) && decide (b.first < a.first + a.count) && decide (1 ≤ a.count) && decide (1 ≤ b.count)

/-- The sensing entry meets every constraint of R153. -/
def senseValid (c : FrameCfg) (e : LaneEntry) (w : Nat) (x : SenseEntry) : Bool :=
  if e.role = 1 then
    decide (600 ≤ x.expose) && decide (x.expose + 2400 ≤ c.period) && decide (x.expose + 2400 ≤ x.streamOff)
      && decide (x.window ≤ c.period) && decide (x.streamOff + x.window ≤ c.period + c.senseEnd)
      && decide (4 * (e.count * e.edge * e.edge * e.bits) ≤ 385 * w * x.window)
  else
    decide (600 ≤ x.expose) && decide (x.expose + 1200 ≤ c.period) && decide (600 ≤ x.streamOff)
      && decide (x.streamOff + x.window ≤ c.senseEnd)

/-- LANES and sensing entries that are invalid (R60, R153). -/
def laneFaults (widths : List Nat) (q : Plan) : List Nat :=
  let one (p : Nat) (e : LaneEntry) : Bool :=
    let before := q.lanes.take p
    let w := (widths[p]?).getD 0
    decide (e.role ≤ 5)
      && (decide (e.role ≠ 4) || !(before.any fun d => d.role = 4))
      && laneRange e && !(before.any (lanesMeet e))
      && (if e.role = 1 then (decide (e.edge = 48) || decide (e.edge = 64))
            && (decide (e.bits = 8) || decide (e.bits = 10) || decide (e.bits = 12))
          else decide (e.edge = 0) && decide (e.bits = 0))
      && (decide (e.role = 0) || decide (1 ≤ w))
      && (let xs := q.senses.filter fun x => x.porch = p
          if e.role = 1 ∨ e.role = 3 then decide (xs.length = 1) && xs.all (senseValid q.frame e w) else xs.isEmpty)
  let porches := ((q.lanes.zipIdx.filter fun e => !one e.2 e.1).map (·.2))
    ++ ((q.senses.map (·.porch)).filter fun p => 16 ≤ p)
  let ms := ((q.loops.filter fun p => Desc.runClass p.2 ≠ 0).map fun p => p.1 / 2).eraseDups
  let within (role m : Nat) : Bool :=
    q.lanes.any fun e => decide (e.role = role) && decide (e.first ≤ m) && decide (m < e.first + e.count)
  porches ++ (ms.filter fun m => !(within 2 m && within 1 m)).map fun m => 0x10000 + m

/-- The first table of a kind. -/
def Plan.table (q : Plan) (k : Nat) : Option TableDesc := q.tables.find? fun t => t.kind = k

/-- What R215 reads of a plan. -/
def Plan.descEnv (q : Plan) : DescEnv :=
  { slewEntries := (q.table 1).map (·.count), hasPlant := (q.table 2).isSome, spMap := (q.table 3).map (·.bytes) }

/-- Loops whose descriptor is invalid (R61, R215). PATCH records that do not stand in strictly ascending order, or whose index is above
16,383, are refused with LOOPS too, a code that the spec does not name for them (DESIGN CHOICE, log 49). -/
def loopFaults (q : Plan) (records : List (Nat × BitVec 512)) (patch : Bool) : List Nat :=
  let bad := (q.loops.filter fun p => !descValid q.descEnv p.1 p.2).map (·.1)
  let far := if patch then (records.filter fun p => 16384 ≤ p.1).map (·.1) else []
  let order := if patch then ((records.zip records.tail).filter fun p => p.2.1 ≤ p.1.1).map fun p => p.2.1 else []
  bad ++ far ++ order

/-- What a kind demands of its table (R159, R178, R197, R200, R216, R249): entry size, entries, locations, FC. -/
def kindRule (k : Nat) (t : TableDesc) : Bool :=
  let fc := decide (t.flags % 2 = 1)
  let is (size lo hi : Nat) (locs : List Nat) (f : Bool) : Bool :=
    decide (t.entrySize = size) && decide (lo ≤ t.count) && decide (t.count ≤ hi) && locs.contains t.loc && decide (fc = f)
  match k with
  | 1 => is 512 1 256 [1] true
  | 2 => is 16 16384 16384 [1] true
  | 3 => is 8 16392 16392 [1] true
  | 4 => is 8 16777216 16777216 [3, 4] false
  | 5 => decide (t.entrySize = 4096) && decide (t.loc = 0) && fc
  | 6 => is 16 1 4096 [2] true
  | _ => true

/-- The contents of an SP_MAP that R197 refuses. -/
def spMapFault (b : List (Nat × Byte)) : Bool :=
  ((List.range 8).any fun i =>
    decide (3 < bankNat b (8 * i) 1) || decide (bankNat b (8 * i + 1) 1 ≠ 0) || decide (bankNat b (8 * i + 4) 4 ≠ 0)
      || (decide (bankNat b (8 * i) 1 ≠ 2) && decide (bankNat b (8 * i + 2) 2 ≠ 0)))
  || b.any fun e => decide (64 ≤ e.1) && decide (e.1 % 8 = 4) && decide (8 ≤ e.2.toNat) && decide (e.2.toNat ≤ 0xFE)

/-- Bytes of a bank, rounded up to pages (03). -/
def bankSize (t : TableDesc) : Nat := (t.entrySize * t.count + 4095) / 4096 * 4096

/-- One table entry is valid by itself (R62). -/
def tableValid (secLen : Nat) (t : TableDesc) : Bool :=
  let ext := decide (t.flags / 2 % 2 = 1)
  (decide (1 ≤ t.kind) && (decide (t.kind ≤ 6) || decide (0x80 ≤ t.kind))) && decide (t.loc ≤ 4)
    && decide (t.bankBytes = bankSize t) && !(decide (t.flags % 2 = 1) && ext) && kindRule t.kind t
    && (ext || (decide (t.dataOff + t.entrySize * t.count ≤ secLen)
      && decide (crcSparse (tget (fun _ => 0) t.bytes) 0 (t.entrySize * t.count) = t.crc)))
    && !(decide (t.kind = 3) && spMapFault t.bytes)

/-- Tables in ascending order whose LOOPENG banks no longer fit in 4 MB (R216). -/
def loopEngOver : Nat → List TableDesc → List Nat
  | _, [] => []
  | used, t :: ts =>
    let u := used + 2 * t.bankBytes
    if t.loc = 1 then (if 4194304 < u then t.id :: loopEngOver u ts else loopEngOver u ts) else loopEngOver used ts

/-- Insert a table in ascending order of `TABLE_ID`. -/
def insertTable (t : TableDesc) : List TableDesc → List TableDesc
  | [] => [t]
  | h :: r => if t.id < h.id then t :: h :: r else h :: insertTable t r

/-- Tables and kinds that TABLES refuses (R62, R71, R159, R178, R197, R216, R249). -/
def tableFaults (secLen : Nat) (tables : List TableDesc) (checked : List TableDesc) : List Nat :=
  let dup := (checked.zipIdx.filter fun t => (checked.take t.2).any fun u => u.id = t.1.id).map (·.1.id)
  let est := tables.filter fun t => t.kind = 5
  ((checked.filter fun t => !tableValid secLen t).map (·.id)) ++ dup
    ++ loopEngOver 0 (tables.foldl (fun a t => insertTable t a) [])
    ++ est.tail.map (·.id) ++ (if est.isEmpty then [0x10005] else [])

-- Budgets (R63, R183) ---------------------------------------------------------------------------------------------------------------------

/-- Insert a time in ascending order. -/
def insertTime (t : Nat) : List Nat → List Nat
  | [] => [t]
  | h :: r => if t < h then t :: h :: r else h :: insertTime t r

/-- When each loop of the worst-case pass completes its command (R63 step 1): loop and cycle. -/
def passEnds (inService : List Nat) (q : Plan) : List (Nat × Nat) :=
  let a := assignDps inService q.loops
  let start := max q.frame.loopStart q.frame.senseEnd
  (inService.flatMap fun d =>
    let ls := ((a.filter fun p => p.2 = d).map (·.1)).foldl (fun l t => insertTime t l) []
    ls.zipIdx.map fun l => (l.1, start + 96 + 24 * (l.2 + 1)))

/-- Closing cycle and entries of the cells of completion times in ascending order (R63 step 2, R325). -/
def closeCells (d : Nat) : Option (Nat × Nat) → List Nat → List (Nat × Nat)
  | none, [] => []
  | some (t0, n), [] => [(t0 + 480, n)]
  | c, t :: ts =>
    let (done, t0, n) : List (Nat × Nat) × Nat × Nat := match c with
      | some (t0, n) => if t0 + 480 ≤ t then ([(t0 + 480, n)], t, 1) else ([], t0, n + 1)
      | none => ([], t, 1)
    if n = 126 ∨ d ≤ t + 480 then done ++ (t, n) :: closeCells d none ts else done ++ closeCells d (some (t0, n)) ts

/-- Core cycles that a command cell of `n` entries occupies its lane (R63). -/
def cellCycles (n : Nat) : Nat := (51 * (8 + 8 * ((16 + 4 * n + 7) / 8)) + 639) / 640

/-- Give the next cell to the lane that is free first. -/
def takeLane (begin_ len : Nat) : List Nat → Nat × List Nat
  | [] => (begin_, [])
  | l :: ls =>
    if ls.all fun x => l ≤ x then (max l begin_, (max l begin_ + len) :: ls)
    else let r := takeLane begin_ len ls; (r.1, l :: r.2)

/-- The cycle at which the last cell of a porch begins to leave (R63 step 3). -/
def lastLeaves : List Nat → Nat → List (Nat × Nat) → Nat
  | _, last, [] => last
  | lanes, last, (c, n) :: t => let r := takeLane c (cellCycles n) lanes; lastLeaves r.2 (max last r.1) t

/-- Insert a cell in order of closing. -/
def insertCell (c : Nat × Nat) : List (Nat × Nat) → List (Nat × Nat)
  | [] => [c]
  | h :: r => if c.1 < h.1 then c :: h :: r else h :: insertCell c r

/-- Need of every DRIVE, LANDING and MONITOR porch that carries command cells (R63). -/
def emitNeeds (inService widths : List Nat) (q : Plan) : List (Nat × Nat) :=
  let ends := passEnds inService q
  let cellsOf (e : LaneEntry) : List (Nat × Nat) :=
    closeCells q.frame.emitDl none
      (((ends.filter fun l => decide (e.first ≤ l.1 / 2) && decide (l.1 / 2 < e.first + e.count)).map (·.2)).foldl
        (fun l t => insertTime t l) [])
  let drives := (q.lanes.zipIdx.filter fun e => e.1.role = 2).map fun e => (e.2, cellsOf e.1)
  let copies := (drives.flatMap (·.2)).foldl (fun l c => insertCell c l) []
  let others := (q.lanes.zipIdx.filter fun e => decide (e.1.role = 4) || decide (e.1.role = 5)).map fun e => (e.2, copies)
  ((drives ++ others).filter fun p => !p.2.isEmpty).map fun p =>
    let w := max 1 ((widths[p.1]?).getD 0)
    (p.1, lastLeaves (List.replicate w (q.frame.emitStart + 43)) 0 p.2 + Config.txLatency p.1)

/-- Need of every datapath in service (R183). -/
def dpNeeds (inService : List Nat) (q : Plan) : List (Nat × Nat) :=
  let a := assignDps inService q.loops
  inService.map fun d => (d, 96 + 24 * (a.filter fun p => p.2 = d).length)

/-- The item shown in a budget register: the one of greatest need (R63). -/
def worstNeed (l : List (Nat × Nat)) : Nat := (l.map (·.2)).foldl max 0

/-- The excesses of items over what is available. -/
def overs (code avail : Nat) (l : List (Nat × Nat)) : List Refusal1 :=
  (l.filter fun p => avail < p.2).map fun p => refusal code p.1 (p.2 - avail)

-- Phase two ----------------------------------------------------------------------------------------------------------------------------------

/-- Tables whose FC flag is set and whose `LOC` is PANTRY, both banks in pages (R286). -/
def Plan.fcPantry (q : Plan) : Nat :=
  ((q.tables.filter fun t => decide (t.loc = 2) && decide (t.flags % 2 = 1)).map fun t => 2 * (t.bankBytes / 4096)).sum

/-- Shelf minimums of both banks (R286, R302). -/
def Plan.shelfMins (q : Plan) : Nat :=
  ((q.lanes.filter fun e => decide (e.role = 1) || decide (e.role = 3)).map fun e => 2 * e.streamPages).sum
    + (q.shelves.map fun r => 2 * r.minPages).sum

/-- Pinned GDDR7 pages of the plan, KB (R259). -/
def Plan.pinned (q : Plan) (fig : Figures) : Nat :=
  fig.pinnedKb + ((q.tables.filter fun t => t.loc = 3).map fun t => 2 * (t.bankBytes / 1024)).sum

/-- Tables without FC that the image places in the Pantry and that do not fit in the plan pages in service beside the frame-critical ones,
in ascending `TABLE_ID`: they spill to GDDR7 (R70, R286; the order is DESIGN CHOICE, log 49). -/
def spillTables : Nat → List TableDesc → List TableDesc
  | _, [] => []
  | room, t :: ts =>
    if t.loc = 2 ∧ t.flags % 2 = 0 then
      (if 2 * (t.bankBytes / 4096) ≤ room then spillTables (room - 2 * (t.bankBytes / 4096)) ts else t :: spillTables room ts)
    else spillTables room ts

/-- The tables of a plan that spill, with so many Pantry plan pages in service. -/
def Plan.spills (q : Plan) (pantry : Nat) : List TableDesc :=
  spillTables (pantry - (q.shelfMins + q.fcPantry)) (q.tables.foldl (fun a t => insertTable t a) [])

/-- The spilled background data of a plan, KB (R70): its tables, and what the validator derives for JOBS data and weight objects. -/
def Plan.spillKb (q : Plan) (pantry : Nat) (fig : Figures) : Nat :=
  fig.spillKb + ((q.spills pantry).map fun t => 2 * (t.bankBytes / 1024)).sum

/-- A job of the JOBS section by number. -/
def Plan.job (q : Plan) (j : Nat) : Option JobRec := q.jobs.find? fun r => r.job = j

/-- The job runs only on tiles that hold no other work of the JOBS section (R304, log 10). -/
def Plan.alone (q : Plan) (j : Nat) : Bool :=
  match q.job j with
  | some r => q.jobs.all fun o => decide (o.job = j) || (members 128 r.tiles).all fun t => !(members 128 o.tiles).contains t
  | none => false

/-- A shelf record is valid (R303, R304). -/
def shelfValid (q : Plan) (r : ShelfRec) : Bool :=
  let job (i : Nat) : Bool := decide (i ≤ 63) && (q.job i).isSome
  decide (64 ≤ r.shelf) && decide (r.shelf ≤ 1023) && (decide (r.cls = 1) || decide (r.cls = 2)) && decide (r.swapMode ≤ 1)
    && decide (1 ≤ r.minPages) && decide (r.minPages ≤ r.maxPages) && decide (r.maxPages ≤ 4096)
    && (if r.swapMode = 1 then decide (1 ≤ r.swapWords) && decide (r.swapWords ≤ 512 * r.minPages) else decide (r.swapWords = 0))
    && (if r.notice = 1 then decide (1 ≤ r.staleUs) else decide (r.staleUs = 0))
    && (if r.prodKind = 2 then job r.prodIndex else decide (r.prodKind = 3) && decide (r.prodIndex = 0))
    && (if r.consKind = 2 then job r.consIndex else decide (r.consKind = 4) && decide (r.consIndex ≤ 7))
    && !(decide (r.prodKind = 2) && decide (r.consKind = 2) && decide (r.prodIndex = r.consIndex))
    && (decide (r.cls ≠ 1) || (decide (r.minPages = r.maxPages) && decide (r.prodKind = 2) && decide (r.consKind = 2)
      && q.alone r.prodIndex && q.alone r.consIndex))

/-- A JOBS record is valid (R116 to R118). -/
def jobValid (im : List (Nat × Byte)) (x : ImgSection) (lost : List Nat) (q : Plan) (e : Nat × JobRec) : Bool :=
  let r := e.2
  let svc := decide (e.1 = 1)
  decide (e.1 ≤ 1) && decide (r.job ≤ 63) && decide (1 ≤ r.count)
    && (if svc then decide (r.weight = 0) && decide (1 ≤ r.service) && decide (r.imgLen = 0) && decide (r.digest = 0)
        else decide (1 ≤ r.weight) && decide (r.imgOff % 4096 = 0) && decide (r.imgOff + r.imgLen ≤ x.len)
          && decide (Config.shake256 r.imgLen (tslice im (x.off + r.imgOff) r.imgLen) = r.digest))
    && decide (98304 ≤ r.scratch) && decide (r.scratch ≤ 4063232) && decide (r.scratch % 4096 = 0)
    && (r.tables.all fun t => q.tables.any fun d => decide (d.id = t) && decide (d.flags / 8 % 2 = 1))
    && (decide (r.flags / 4 % 2 = 0) || decide (q.required / 128 % 2 = 1))
    && (decide (r.seat ≤ 7) || decide (r.seat = 0xFF))
    && (members 128 r.tiles).all (fun t => !lost.contains t)
    && (decide (r.service ≠ 2) || (q.table 2).isSome)

/-- Jobs, in the order of a placement, that find no context or not enough background pages on one of their tiles (R118, R129): a tile
holds 4 contexts, and its background partition is what its frame-critical scratch leaves of 992 pages (R93). -/
def overPlaced (jobs : List JobRec) (v : Placement) (tilesOf : JobRec → Nat) : List Nat :=
  (jobs.zipIdx.filter fun e =>
    (members 128 (tilesOf e.1)).any fun t =>
      let here := (jobs.take (e.2 + 1)).filter fun r => (members 128 (tilesOf r)).contains t
      decide (4 < here.length)
        || decide (992 < (here.map JobRec.pages).sum + (tget (fun _ => 0) v.scratch t + 4095) / 4096)).map (·.1.job)

-- The Stair (R101, R102) ----------------------------------------------------------------------------------------------------------------

/-- Node of the ring on which a stage lies (R98, R102): every tile of a stage is on one die; stage 4 is the IOD. None where it is not. -/
def Placement.node (v : Placement) (stage : Nat) : Option Nat :=
  if stage = 4 then some 0
  else match (v.stages.filter fun e => e.2 = stage).map fun e => e.1 / 32 with
    | d :: ds => if ds.all fun x => x = d then some (d + 1) else none
    | [] => none

/-- Stages whose tiles do not lie on one die (R102). -/
def Placement.splitStages (v : Placement) : List Nat :=
  (List.range 4).filter fun g => (v.stages.any fun e => e.2 = g) && (v.node g).isNone

/-- Cycles of one transfer over a path and what each hop then carries in its direction (R101, R102): 60 cycles of latency for each hop, and
the bytes at the bandwidth of 10,000 bytes in 3 cycles that the Frame-class traffic charged before leaves of the fullest hop
(DEDUCED, log 51). -/
def chargeHops (frame : Nat) (load : List (Nat × Nat)) (hops : List Nat) (bytes : Nat) : Nat × List (Nat × Nat) :=
  let room := ((hops.map fun h => 10000 * frame / 3 - tget (fun _ => 0) load h).min?).getD 0
  (60 * hops.length + (if hops.isEmpty then 0 else (bytes * frame + max 1 room - 1) / max 1 room),
    hops.foldl (fun l h => tupd (fun _ => 0) l h (· + bytes)) load)

/-- Cycles that the transfers of a placement add before the end of each stage (R102), in their order. -/
def Placement.charges (v : Placement) (down : List Nat) (frame : Nat) : List (Nat × Nat) :=
  (v.moves.foldl (fun (a : List (Nat × Nat) × List (Nat × Nat)) m =>
    match v.node m.src, v.node m.dst with
    | some x, some y =>
      match hopPath down x y with
      | some hops =>
        let up := decide (hops = upHops x y)
        let r := chargeHops frame a.2 (hops.map fun h => if up then h else h + 5) m.bytes
        (a.1 ++ [(m.stage, r.1)], r.2)
      | none => a
    | _, _ => a) ([], [])).1

/-- The worst-case end of each stage (R63): its static schedule, the transfers that it and the stages before it wait for (R102), and 700
cycles for one re-read of each of their Frame-class GDDR7 copies (R263). -/
def Placement.ends1 (v : Placement) (ends : List (Nat × Nat)) (down : List Nat) (frame : Nat) : List (Nat × Nat) :=
  let c := v.charges down frame
  ends.map fun e => (e.1, e.2 + ((c.filter fun x => x.1 ≤ e.1).map (·.2)).sum + 700 * ((v.gddr7.filter fun x => x.1 ≤ e.1).map (·.2)).sum)

/-- The first refusal code of a variant checked against its own mask, 0 usable (R64): the checks of variant 0 on its stages, scratch,
tiles and jobs, and what its parts in Gorlith's encoding give. -/
def Placement.refuse (v : Placement) (r : Resources) (m : Plan) : Nat :=
  let late := match (v.ends1 v.ends r.hops m.frame.period).getLast? with | some e => decide (m.frame.senseEnd < e.2) | none => false
  let codes : List Nat := (if late || !v.splitStages.isEmpty then [8] else [])
    ++ (if v.scratch.any fun p => decide ((if r.lost.contains p.1 then 0 else 4063232) < p.2) then [11] else [])
    ++ (if (members 128 v.mask).any r.lost.contains then [11] else [])
    ++ (if (overPlaced m.jobs v v.tilesOf).isEmpty then [] else [19])
    ++ (if v.fail = 0 then [] else [v.fail])
  (codes.min?).getD 0

/-- The unprotected region of so many devices, KB (R260, R283). -/
def unprotKb (devices : Nat) : Nat := 1024 * (3964 * devices - 16384)

/-- The lowest job whose working memory and backing stores no longer fit in the unprotected region beside the spilled objects and the jobs
below it (R280). -/
def memoryFault (room : Nat) (jobs : List JobRec) : List Nat :=
  (((jobs.filter fun r => room < ((jobs.filter fun o => o.job ≤ r.job).map JobRec.needKb).sum).map (·.job)).min?).toList

/-- JOBS records that are refused. -/
def jobFaults (im : List (Nat × Byte)) (lost : List Nat) (q : Plan) (fig : Figures) (room : Nat) : List Nat :=
  match secOf (imgSections im) Sec.jobs with
  | some x =>
    let l := parseJobs im x
    ((l.filter fun e => !jobValid im x lost q e).map (·.2.job))
      ++ ((l.zipIdx.filter fun e => (l.take e.2).any fun d => d.2.job = e.1.2.job).map (·.1.2.job))
      ++ overPlaced (l.map (·.2)) fig.place0 JobRec.tiles ++ memoryFault room (l.map (·.2)) ++ fig.badJobs
  | none => fig.badJobs

/-- The plan-feature word of stepping B0 (R58): bits 0 to 7. -/
def planFeatures : Nat := 0xFF

/-- Class of a candidate and its frames (R72): 1 PATCH, 2 ROLLING, 3 BRIDGED. -/
def State.candClass (s : State) (q : Plan) (fig : Figures) : Nat :=
  if q.kind = 1 then 1
  else if s.plan.committed && decide (q.frame = s.plan.plan.frame) && decide (q.lanes = s.plan.plan.lanes)
      && fig.place0.scratch.all fun p => decide (p.2 ≤ 4096 * (992 - (s.tile p.1).fcPages - (s.tile p.1).retired.length)) then 2
  else 3

/-- The candidate as it would stand when committed: a PATCH changes loops and table contents of the committed plan (R80). -/
def State.merged (s : State) (q : Plan) : Plan :=
  if q.kind = 1 then
    { s.plan.plan with
      loops := q.loops.foldl (fun t p => tset (fun _ => 0) t p.1 p.2) s.descs
      tables := s.plan.plan.tables.map fun t =>
        match q.tables.find? (fun d => d.id = t.id), s.table? t.id with
        | some d, _ => d
        | none, some x => { t with bytes := x.bank }
        | none, none => t }
  else q

/-- PATCH tables that do not fit the committed plan's table of the same number (R80): not in the plan, of another shape, or EXTERNAL.
That TABLES refuses them is a choice (DESIGN CHOICE, log 49). -/
def State.patchTableFaults (s : State) (q : Plan) : List Nat :=
  if q.kind = 1 then
    (q.tables.filter fun t => !(s.plan.plan.tables.any fun d =>
      decide (d.id = t.id) && decide (d.kind = t.kind) && decide (d.loc = t.loc) && decide (d.flags = t.flags)
        && decide (d.entrySize = t.entrySize) && decide (d.count = t.count) && decide (t.flags / 2 % 2 = 0))).map (·.id)
  else []

/-- The result of a validation. -/
structure Verdict where
  refusals : List Refusal1 := []
  kind     : Nat := 0
  plan     : Option Plan := .none
  sense    : Nat × Nat := (0, 0)
  loopB    : Nat × Nat := (0, 0)
  emit     : Nat × Nat := (0, 0)
  varFail  : List Nat := []
  spillKb  : Nat := 0
  spilled  : List Nat := []
  deriving DecidableEq, Repr

/-- The first failure of phase one (R67): FORMAT, CRC, DEVICE, SIGNATURE, BASE. -/
def State.phaseOne (s : State) (r : Resources) (im : List (Nat × Byte)) (n : Nat) (keys : List (List Byte)) : Option Refusal1 :=
  match formatFault im n with
  | some w => some (refusal 1 w 1)
  | none =>
    match (imgSections im).find? fun x => crcSparse (tget (fun _ => 0) im) x.off x.len ≠ x.crc with
    | some x => some (refusal 2 x.typ 1)
    | none =>
      if bankNat im 0x18 4 ≠ 0x4096 ∨ bankNat im 0x1C 1 ≠ 0xB0 then some (refusal 3 0 1)
      else if !signOk im n keys r.signed then some (refusal 4 0 1)
      else if imgKind im = 1 ∧ (bankNat im 0x40 64 ≠ s.plan.digest ∨ !s.plan.committed) then some (refusal 5 0 1)
      else none

/-- All checks of phase two on variant 0 (R67 to R71). -/
def State.phaseTwo (s : State) (r : Resources) (im : List (Nat × Byte)) (q : Plan) (fig : Figures) : Verdict :=
  let m := s.merged q
  let secLen := match secOf (imgSections im) Sec.tables with | some x => x.len | none => 0
  let ends := fig.place0.ends1 fig.stageEnds r.hops m.frame.period
  let avail := m.frame.loopEnd - max m.frame.loopStart m.frame.senseEnd
  let live := (m.loops.filter fun p => Desc.runClass p.2 ≠ 0).length
  let dps := dpNeeds r.dps m
  let emits := emitNeeds r.dps r.widths m
  let last := match ends.getLast? with | some e => [e] | none => []
  let scratchOf (p : Nat × Nat) : Nat := if r.lost.contains p.1 then 0 else 4063232
  let pantry := m.shelfMins + m.fcPantry
  let pinned := m.pinned fig
  let kind := s.candClass q fig
  let spill := m.spillKb r.pantry fig
  let places : List Placement := fig.places.map fun v => { v with fail := v.refuse r m }
  let l : List Refusal1 :=
    refuseAt 6 ((List.range 256).filter fun b => decide (m.required / 2 ^ b % 2 = 1) && decide (planFeatures / 2 ^ b % 2 = 0))
    ++ refuseAt 7 (frameFaults m.frame)
    ++ overs 8 m.frame.senseEnd last ++ refuseAt 8 fig.place0.splitStages
    ++ (if r.dps.isEmpty then (if live = 0 then [] else [refusal 9 64 (96 + 24 * live)]) else overs 9 avail dps)
    ++ overs 10 m.frame.emitEnd emits
    ++ (fig.place0.scratch.filter fun p => scratchOf p < p.2).map (fun p => refusal 11 p.1 (p.2 - scratchOf p))
    ++ (if r.pantry < pantry then [refusal 12 0 (4096 * (pantry - r.pantry))] else [])
    ++ (if r.devices < 5 ∧ q.kind = 0 then [refusal 13 0 pinned]
        else if 0 < pinned - 5980160 + fig.unpinnedKb then [refusal 13 0 (pinned - 5980160 + fig.unpinnedKb)] else [])
    ++ refuseAt 14 (((m.tables.filter fun t => decide (t.flags % 2 = 1) && decide (t.loc = 4)).map (·.id)) ++ fig.cellarObjs)
    ++ refuseAt 15 (laneFaults r.widths m)
    ++ refuseAt 16 (loopFaults m q.loops (decide (q.kind = 1)))
    ++ refuseAt 17 (tableFaults secLen m.tables q.tables ++ s.patchTableFaults q)
    ++ refuseAt 18 (((m.shelves.filter fun x => !shelfValid m x).map (·.shelf))
        ++ (m.shelves.zipIdx.filter fun e => (m.shelves.take e.2).any fun d => d.shelf = e.1.shelf).map (·.1.shelf))
    ++ refuseAt 19 (jobFaults im r.lost m fig (unprotKb r.devices - spill))
    ++ (if 0 < spill ∧ !r.spill then [refusal 20 0 spill] else [])
    ++ (if kind = 3 ∧ 8 < fig.bridge then [refusal 21 0 (fig.bridge - 8)] else [])
  let l := l.foldl (fun a x => insertRefusal x a) []
  { refusals := l, kind := if l.isEmpty then kind else 0, plan := if l.isEmpty then some { q with places := places } else none
    sense := (worstNeed ends, m.frame.senseEnd)
    loopB := if r.dps.isEmpty ∧ live ≠ 0 then (96 + 24 * live, 0) else (worstNeed dps, avail)
    emit := (worstNeed emits, m.frame.emitEnd)
    varFail := places.map (·.fail), spillKb := spill, spilled := (m.spills r.pantry).map (·.id) }

/-- Validation of an image against resources (R67). -/
def State.validateImage (s : State) (r : Resources) (keys : List (List Byte)) (im : List (Nat × Byte)) (n : Nat) (fig : Figures) :
    Verdict :=
  match s.phaseOne r im n keys with
  | some x => { refusals := [x] }
  | none => s.phaseTwo r im (parsePlan im n fig) fig

end Sys2Proof.Machine
end

