-- ==== Sys2Proof/Machine/Codes.lean ====
section
/-! DEFINITION. Reed-Solomon codes over GF(2^m): the inline code of a GDDR7 line (R256) and the code of a link codeword with its bit order
and its PAM4 levels (R311, R312). -/
namespace Sys2Proof.Machine

-- The field -------------------------------------------------------------------------------------------------------------------------

/-- A field GF(2^m) by `m` and its polynomial, the top bit included. -/
structure GField where
  m    : Nat
  poly : Nat
  deriving DecidableEq, Repr

/-- The product by the element α = 2. -/
def GField.twice (g : GField) (a : Nat) : Nat := if 2 ^ g.m ≤ 2 * a then (2 * a) ^^^ g.poly else 2 * a

/-- The product of `a` and the lowest `n` bits of `b`. -/
def GField.mulBits (g : GField) (a : Nat) : Nat → Nat → Nat
  | 0, _ => 0
  | n + 1, b => let d := g.twice (g.mulBits a n (b / 2)); if b % 2 = 1 then d ^^^ a else d

/-- The product of two elements. -/
def GField.mul (g : GField) (a b : Nat) : Nat := g.mulBits a g.m b

/-- α to the power `n`. -/
def GField.alpha (g : GField) : Nat → Nat
  | 0 => 1
  | n + 1 => g.twice (g.alpha n)

/-- A polynomial, highest coefficient first, at `x`. -/
def GField.eval (g : GField) (x : Nat) (p : List Nat) : Nat := p.foldl (fun a c => g.mul a x ^^^ c) 0

-- The code ---------------------------------------------------------------------------------------------------------------------------

/-- The generator polynomial with roots α^0 to α^(n-1), highest coefficient first. -/
def GField.generator (g : GField) : Nat → List Nat
  | 0 => [1]
  | n + 1 => let l := g.generator n; List.zipWith (· ^^^ ·) (l ++ [0]) (0 :: l.map (g.mul (g.alpha n)))

/-- One step of the division by the generator: the remainder after one more message symbol. -/
def GField.divide (g : GField) (gen r : List Nat) (d : Nat) : List Nat :=
  let f := d ^^^ r.headD 0
  List.zipWith (· ^^^ ·) (r.drop 1 ++ [0]) ((gen.drop 1).map (g.mul f))

/-- The `n` check symbols of a message, first symbol highest. -/
def GField.parity (g : GField) (n : Nat) (msg : List Nat) : List Nat :=
  let gen := g.generator n
  msg.foldl (fun r d => g.divide gen r d) (List.replicate n 0)

/-- The `n` syndromes of a received word; all 0 exactly when it is a codeword. -/
def GField.syndromes (g : GField) (n : Nat) (word : List Nat) : List Nat := (List.range n).map fun i => g.eval (g.alpha i) word

-- The inline code of a GDDR7 line (R256) ---------------------------------------------------------------------------------------------

/-- GF(2^8) of the inline code. The spec gives neither its polynomial nor the roots of the generator (PRESUMED, log 52): the usual
x^8 + x^4 + x^3 + x^2 + 1 with roots α^0 and α^1. -/
def lineField : GField := ⟨8, 0x11D⟩

/-- The two check bytes of a line of 64 bytes: the 16-bit code that the carve-out holds (R255, R256). -/
def lineCode (l : List Byte) : List Byte := (lineField.parity 2 (l.map BitVec.toNat)).map (BitVec.ofNat 8)

/-- The inline decode of a line with its check bytes: none where it fails, else the byte it corrected, if any (R256). -/
def lineDecode (l : List Byte) : Option (Option Nat) :=
  match lineField.syndromes 2 (l.map BitVec.toNat) with
  | [a, b] =>
    if a = 0 ∧ b = 0 then some none
    else match (List.range 66).find? fun i => decide (a ≠ 0) && decide (b = lineField.mul a (lineField.alpha (65 - i))) with
      | some i => some (some i)
      | none => none
  | _ => none

/-- What a line turns out to be (R256). -/
inductive LineClass where
  | clean | corrected | uncorrectable
  deriving DecidableEq, Repr

/-- The class of a line from the bytes that the on-die report calls bad and from the inline decode (R256): more than one bad byte
together is uncorrectable. -/
def lineClass (report : List Nat) (l : List Byte) : LineClass :=
  match lineDecode l with
  | none => .uncorrectable
  | some e =>
    let bad := (report ++ e.toList).eraseDups
    if bad.isEmpty then .clean else if bad.length = 1 then .corrected else .uncorrectable

-- Link codewords (R311, R312) ----------------------------------------------------------------------------------------------------------

/-- GF(2^10) of the RS(544,514) code of IEEE 802.3 Clause 91, which the spec names (PRESUMED, log 53): polynomial x^10 + x^3 + 1, roots
α^0 to α^29. -/
def linkField : GField := ⟨10, 0x409⟩

/-- One codeword of a lane before coding (R311): `FIRST`, `CW_SEQ`, and 640 bytes of cell stream. -/
structure Codeword where
  /-- Offset in units of 8 bytes of the first cell header that begins here, 0x7F none. -/
  first  : Nat
  seq    : Nat
  stream : List Byte
  deriving DecidableEq, Repr

/-- The lowest `n` bits of a number, least significant first. -/
def lsbFirst : Nat → Nat → List Bool
  | 0, _ => []
  | n + 1, w => decide (w % 2 = 1) :: lsbFirst n (w / 2)

/-- The number whose bits are given, least significant first. -/
def fromLsb : List Bool → Nat
  | [] => 0
  | b :: t => (if b then 1 else 0) + 2 * fromLsb t

/-- The 5,140 message bits in order of transmission (R311, R312). -/
def Codeword.bits (c : Codeword) : List Bool :=
  lsbFirst 16 (c.first % 128 + c.seq % 32 * 2 ^ 7) ++ (c.stream.flatMap fun b => lsbFirst 8 b.toNat) ++ lsbFirst 4 0

/-- The first `n` symbols of `k` bits, the first bit of each least significant. -/
def symbolsOf (k : Nat) : Nat → List Bool → List Nat
  | 0, _ => []
  | n + 1, l => fromLsb (l.take k) :: symbolsOf k n (l.drop k)

/-- The 544 symbols of a codeword: the message, then the 30 parity symbols (R311, R312). -/
def Codeword.symbols (c : Codeword) : List Nat :=
  let m := symbolsOf 10 514 c.bits
  m ++ linkField.parity 30 m

/-- The PAM4 level of a pair of bits, first bit least significant (R312). -/
def pam4 : Nat → Nat
  | 0 => 0
  | 1 => 1
  | 3 => 2
  | _ => 3

/-- The 2,720 PAM4 levels of a codeword in order of transmission; no precoding (R312). -/
def Codeword.levels (c : Codeword) : List Nat :=
  let b := c.symbols.flatMap (lsbFirst 10)
  (symbolsOf 2 2720 b).map pam4

/-- The received word is a codeword: every syndrome is 0. -/
def linkClean (symbols : List Nat) : Bool := (linkField.syndromes 30 symbols).all fun x => x = 0

/-- The codeword that 514 corrected message symbols carry (R311). -/
def codewordOf (symbols : List Nat) : Codeword :=
  let b := (symbols.take 514).flatMap (lsbFirst 10)
  let h := fromLsb (b.take 16)
  { first := h % 128, seq := h / 128 % 32, stream := (symbolsOf 8 640 (b.drop 16)).map (BitVec.ofNat 8) }

end Sys2Proof.Machine
end

