-- ==== Sys2Proof/Machine/Pages.lean ====
section
/-! DEFINITION. The status pages and path records of the Halls as bytes, and what a read of a Hall returns (R252, R408, R410). -/
namespace Sys2Proof.Machine

/-- The value of a path state (R229). -/
def PathState.code : PathState → Nat
  | .none => 0
  | .planning => 1
  | .planned => 2
  | .moving => 3
  | .settling => 4
  | .inService => 5
  | .failed => 6
  | .aborted => 7

/-- `power` lies at least `n`/256 dB below `ref`: 2,560·log10(ref / power) is at least `n`, exactly. -/
def dropAtLeast (ref power n : Nat) : Bool := decide (10 ^ n * power ^ 2560 ≤ ref ^ 2560)

/-- The largest n in a range of `2^fuel` from `lo` with `dropAtLeast`. -/
def dropFrom (ref power : Nat) : Nat → Nat → Nat
  | 0, lo => lo
  | k + 1, lo => if dropAtLeast ref power (lo + 2 ^ k) then dropFrom ref power k (lo + 2 ^ k) else dropFrom ref power k lo

/-- `DROP` of a path record: `REF_POWER` minus `POWER` in 1/256 dB, rounded down and at least 0; no power at all saturates
(R252, log 46). -/
def dropOf (ref power : Nat) : Nat :=
  if ref ≤ power then 0 else if power = 0 then 65535 else dropFrom ref power 14 0

/-- The 64-byte path record of input port `i` (R252). -/
def PathView.bytes (v : PathView) (seq i : Nat) : List Byte :=
  let r := tget (fun _ => ({} : PathRec)) v.paths i
  let x := tget (fun _ => ({} : Service)) v.service i
  let p := if r.out = 0xFFFF then 0 else (tget (fun _ => ({} : TapReading)) v.taps r.out).power
  let ref := x.refPower.getD 0
  leBytes 2 i ++ leBytes 2 r.out ++ [BitVec.ofNat 8 r.state.code, BitVec.ofNat 8 r.reason]
    ++ leBytes 2 (bit r.unverified + 2 * bit r.unguarded + 4 * bit x.loss + 8 * bit r.reflex + 16 * bit (v.watched.contains i))
    ++ leBytes 4 r.moveId ++ leBytes 4 seq ++ leBytes 8 r.readyTick ++ leBytes 2 p ++ leBytes 2 ref ++ leBytes 2 (dropOf ref p)
    ++ leBytes 2 0 ++ ((r.targets ++ [0, 0, 0, 0]).take 4).flatMap (fun t => leBytes 2 (twos 16 t)) ++ leBytes 4 r.losses
    ++ List.replicate 20 0

/-- The 4,096 bytes of a status page (R410). -/
def StatusPage.bytes (p : StatusPage) : List Byte :=
  leBytes 4 p.seq ++ leBytes 4 p.ntcProd ++ leBytes 8 p.frame ++ leBytes 8 (p.time / 65536) ++ leBytes 2 p.time
    ++ [BitVec.ofNat 8 p.unitRole, BitVec.ofNat 8 p.side, BitVec.ofNat 8 p.lock, BitVec.ofNat 8 p.seatRole]
    ++ leBytes 2 p.pathsIn ++ leBytes 4 p.epoch ++ leBytes 4 p.planId ++ leBytes 2 p.edits
    ++ [BitVec.ofNat 8 p.moves, 0, 0, 0, 0, 0] ++ leBytes 64 p.planDigest ++ List.replicate 3984 0

/-- The device writes the pages of this seat: it is READY (R410, log 46). -/
def State.pagesOn (s : State) (seat : Nat) : Bool := decide ((s.seat seat).state = .ready)

/-- A byte of a Hall as a read returns it: the status page and the path records that the device rewrites at every tick, the reserved
area, or the bytes last written (R408). -/
def State.hallRead (s : State) (seat off : Nat) : Byte :=
  if 0x500000 ≤ off ∧ off < 0x541000 then
    if !s.pagesOn seat then s.hallByte seat off
    else if off < 0x501000 then ((s.seat seat).status.bytes[off - 0x500000]?).getD 0
    else ((s.mov.view.bytes (2 * s.mov.rewrites) ((off - 0x501000) / 64))[(off - 0x501000) % 64]?).getD 0
  else if 0x541000 ≤ off ∧ off < 0x1000000 then 0
  else s.hallByte seat off

/-- Consecutive bytes of a Hall as a read returns them. -/
def State.hallReads (s : State) (seat off n : Nat) : List Byte :=
  if off + n ≤ 0x500000 ∨ 0x1000000 ≤ off then s.readBytes (hallBase seat + off) n else (span off n).map (s.hallRead seat)

end Sys2Proof.Machine
end

