-- ==== Sys2Proof/Machine/Memory.lean ====
section
/-! DEFINITION. Copies, the memory tiers and faults in flight: beats, retired pages, lost devices, the Cellar (R103 to R110, R255 to
R284). -/
namespace Sys2Proof.Machine

-- GDDR7 (R255 to R261, R282, R283) ------------------------------------------------------------------------------------------------

/-- GDDR7 devices in service. -/
def State.devsIn (s : State) : List Nat := (List.range 16).filter fun d => (s.dev d).state ≠ 2

/-- Device of a page address, and its page index (R258). -/
def pageDev (p : Nat) : Nat := p / 2 ^ 20 % 16
def pageIndex (p : Nat) : Nat := p % 2 ^ 20

/-- Data pages of a device (R255): page indexes from here on are its 1,024 spare pages. -/
def dataPages : Nat := 1014784

/-- The device has such a page, data or spare (R255). -/
def pageExists (p : Nat) : Bool := decide (pageIndex p < dataPages + 1024)

/-- Page `i` of device `d` as a page address (R258). -/
def pageAddr (d i : Nat) : Nat := d * 2 ^ 20 + i

/-- The data page whose contents a page holds: itself, or for a spare the page it replaces (R266). -/
def State.origin (s : State) (p : Nat) : Nat :=
  match (s.dev (pageDev p)).map.find? fun e => e.2 = pageIndex p with
  | some e => pageAddr (pageDev p) e.1
  | none => p

/-- The page that holds the contents of a data page now (R266). -/
def State.home (s : State) (p : Nat) : Nat :=
  match (s.dev (pageDev p)).map.find? fun e => e.1 = pageIndex p with
  | some e => pageAddr (pageDev p) e.2
  | none => p

/-- Primary pages of the protected region on each device it was built over; as many mirror pages follow them (R259, R261; the places are
DESIGN CHOICE, log 19). -/
def State.halfPages (s : State) : Nat := 8192 * 256 / max 1 s.mem.builtWith

/-- A page of the protected region (R259, log 19): the lowest pages of each device the region was built over. -/
def State.protectedPage (s : State) (p : Nat) : Bool := decide (pageIndex (s.origin p) < 2 * s.halfPages)

/-- The other copy of a protected page: of a primary on device c its mirror on device c XOR 8, or, over fewer devices, on the one that
lies half the list of devices further (R261, R283). -/
def State.mate (s : State) (p : Nat) : Nat :=
  let l := s.mem.builtOn
  let d := (l[(l.findIdx (fun x => x = pageDev p) + l.length / 2) % max 1 l.length]?).getD 0
  let i := pageIndex p
  pageAddr d (if i < s.halfPages then i + s.halfPages else i - s.halfPages)

/-- Both copies of a protected page, the primary first (R261). -/
def State.copies (s : State) (p : Nat) : List Nat :=
  let p := s.origin p
  if pageIndex p < s.halfPages then [p, s.mate p] else [s.mate p, p]

/-- The page that serves a read of a protected page: the primary, or the copy that survives its device (R261, R282). -/
def State.servedFrom (s : State) (p : Nat) : Option Nat :=
  ((s.copies p).filter fun c => s.devsIn.contains (pageDev c)).head?.map s.home

/-- The pages that a write of a protected page goes to, complete when all are written (R261): both copies in service, and the spare of a
copy whose retirement runs (R266). -/
def State.writtenTo (s : State) (p : Nat) : List Nat :=
  ((s.copies p).filter fun c => s.devsIn.contains (pageDev c)).flatMap fun c =>
    s.home c :: ((s.mem.retiring.filter fun r => r.page = s.home c).map (·.spare))

/-- The unprotected region in service, MB (R260, R283). -/
def State.unprotTotal (s : State) : Nat :=
  let b := s.mem.builtWith
  let n := s.devsIn.length
  if b = 0 then 0 else (3964 * b - 16384) * n / b - (s.mem.gone + 255) / 256

/-- The job is in states 1 to 4. -/
def Job.live (x : Job) : Bool := decide (x.state ≠ .none) && decide (x.state ≠ .ended)

/-- KB of the image of a job that lies in GDDR7 (R120, R260). -/
def JobRec.imageKb (r : JobRec) : Nat := 4 * ((r.imgLen + 4095) / 4096)

/-- KB that a live job takes of the unprotected region. -/
def Job.heldKb (x : Job) : Nat :=
  match x.info with
  | some r => r.needKb + (if x.imageHeld then r.imageKb else 0)
  | none => 0

/-- KB of the unprotected region in use: live jobs, spilled objects, and pages not yet zeroed (R260, R275). -/
def State.unprotUsed (s : State) : Nat :=
  (s.til.jobs.map fun j => if j.2.live then j.2.heldKb else 0).sum
    + s.mem.spillKb + 4 * (s.mem.zeroing.map (·.2)).sum

/-- Free unprotected KB. -/
def State.unprotFree (s : State) : Nat := 1024 * s.unprotTotal - s.unprotUsed

/-- Working memory of a seat's jobs, KB (R281). -/
def State.seatKb (s : State) (seat : Nat) : Nat :=
  (s.til.jobs.map fun j => if j.2.live && decide (j.2.seat = seat) then j.2.gddr7Kb else 0).sum

-- Retirement (R266, R267) -----------------------------------------------------------------------------------------------------------

/-- Causes of a retirement (R474). -/
def RetireCause.uncorrectable : Nat := 1
def RetireCause.corrected : Nat := 2
def RetireCause.scrub : Nat := 3

/-- The lowest spare page of a device that nothing uses (R266). -/
def State.nextSpare (s : State) (d : Nat) : Option Nat :=
  ((List.range 1024).map fun k => pageAddr d (dataPages + k)).find? fun p =>
    !((s.dev d).map.any fun e => e.2 = pageIndex p) && !(s.mem.retiring.any fun r => r.spare = p) && !s.mem.retired.contains p

/-- A spare takes the place of a retired page; without one the page leaves service (R266). -/
def State.takeSpare (s : State) (page : Nat) (spare : Option Nat) : State :=
  let d := pageDev page
  let i := pageIndex (s.origin page)
  match spare with
  | some p =>
    s.updDev d fun x => { x with spares := x.spares - 1, map := (x.map.filter fun e => e.1 ≠ i) ++ [(i, pageIndex p)] }
  | none => { s with mem := { s.mem with gone := s.mem.gone + 1 } }

/-- A device that falls below 64 spares (R266). -/
def State.sparesLow (s : State) (d before : Nat) : State :=
  if before = 64 ∧ (s.dev d).spares = 63 then (s.raise Src.mem 3 d).record 0x000D Sev.warning 1 ([BitVec.ofNat 8 d, 0] ++ leBytes 2 63) else s

/-- A page is retired: list, record and notice (R266, R267). A protected page's place is taken by its spare at once, that of an
unprotected one when it is next allotted. The Cupboard's list holds 16,384 page addresses. -/
def State.finishRetire (s : State) (page cause : Nat) (spare : Option Nat) : State :=
  let d := pageDev page
  let n := (s.dev d).spares
  let s := { s with mem := { s.mem with
    retired := s.mem.retired ++ [page], lastRetired := page
    cupboard := if s.mem.cupboard.length < 16384 then s.mem.cupboard ++ [page] else s.mem.cupboard
    retiring := s.mem.retiring.filter fun r => r.page ≠ page } }
  let s := if s.protectedPage page || decide (n = 0) then s.takeSpare page spare
    else { s with mem := { s.mem with unallotted := s.mem.unallotted ++ [page] } }
  let s := (s.raise Src.mem 2 page).record 0x000C Sev.error 5 (leBytes 4 page ++ [BitVec.ofNat 8 cause])
  s.sparesLow d n

/-- Retire a page (R266): a protected page is first copied into a spare of its device. -/
def State.retirePage (s : State) (page cause : Nat) : State :=
  if s.mem.retired.contains page || (s.mem.retiring.any fun r => r.page = page) || !pageExists page then s
  else match s.nextSpare (pageDev page) with
    | some p =>
      if s.protectedPage page then
        { s with mem := { s.mem with retiring := s.mem.retiring ++ [{ page := page, cause := cause, spare := p }] } }
      else s.finishRetire page cause none
    | none => s.finishRetire page cause none

/-- Pages of the unprotected region are allotted: spares take the places of the retired ones (R266). That an admission allots them is the
model's reading, for no rule says which pages a job's memory takes (DESIGN CHOICE, log 19). -/
def State.allotPages (s : State) : State :=
  let l := s.mem.unallotted
  l.foldl (fun s p => (s.takeSpare p (s.nextSpare (pageDev p))).sparesLow (pageDev p) (s.dev (pageDev p)).spares)
    { s with mem := { s.mem with unallotted := [] } }

/-- RETIRE_SWITCH (R266): the copy into the spare is complete; the switch takes effect at the next tick. -/
def execRetireSwitch (page : BitVec 24) (s : State) : Host.Outcome State Fault Refusal :=
  .next { s with mem := { s.mem with
    retiring := s.mem.retiring.map fun r => if r.page = page.toNat then { r with ready := true } else r } }

/-- Retirements whose copy is complete take effect (R266). -/
def State.retireTick (s : State) : State :=
  (s.mem.retiring.filter (·.ready)).foldl (fun s r => s.finishRetire r.page r.cause (some r.spare)) s

/-- A corrected line of a page: counts, and the fourth occasion retires the page (R256, R266). -/
def State.correctedLine (s : State) (page cause : Nat) : State :=
  let s := (s.count Reg.MEM_ECC 32 32 1).count (Reg.MEM_DEV (pageDev page)) 32 32 1
  let n := tget (fun _ => 0) s.mem.occasions page + 1
  let s := { s with mem := { s.mem with occasions := tset (fun _ => 0) s.mem.occasions page n } }
  if n = 4 then s.retirePage page cause else s

/-- An uncorrectable line of a page is counted (R256, R282). -/
def State.badLine (s : State) (page : Nat) : State :=
  let d := pageDev page
  let s := (s.count Reg.MEM_ECC 16 16 1).count (Reg.MEM_DEV d) 16 16 1
  s.updDev d fun x => { x with ues := (s.hrt.cycles :: x.ues).take 16 }

/-- One copy of a protected line is uncorrectable: the read is served from the other copy and the bad one rewritten; the page is retired
where the line is uncorrectable again after that (R263). -/
def State.oneCopy (s : State) (page cause : Nat) (again : Bool) : State :=
  let s := (s.badLine page).count Reg.MEM_ECC 0 16 1
  if again then s.retirePage page cause else s

/-- Both copies of a protected line are uncorrectable (R264). -/
def State.lineLost (s : State) (page cause : Nat) : State :=
  let mate := s.home (s.mate (s.origin page))
  let s := ((s.badLine page).badLine mate).raise Src.mem 1 page
  s.verdict 8 GuardCode.verdict fun s =>
    let s := (s.faultOn FaultCause.lineLost true).record 0x000B Sev.critical 4 (leBytes 4 page ++ [0, 0, 0, 0] ++ s.frameBytes)
    (s.retirePage page cause).retirePage mate cause

/-- A line that the scrub cannot correct in the copy it read (R263, R266, R268). -/
def State.scrubBad (s : State) (p : Nat) (again : Bool) : State :=
  if s.protectedPage p then s.oneCopy p RetireCause.scrub again else (s.badLine p).retirePage p RetireCause.scrub

/-- What the scrub finds in a line of a page (R268). -/
def State.scrubFinds (s : State) (p : Nat) : ScrubResult → State
  | .clean => s
  | .corrected => s.correctedLine p RetireCause.scrub
  | .uncorrectable again => s.scrubBad p again
  | .bothCopies => if s.protectedPage p then s.lineLost p RetireCause.scrub else s.scrubBad p false
  | .code report line =>
    match lineClass (report.map Fin.val) line with
    | .clean => s
    | .corrected => s.correctedLine p RetireCause.scrub
    | .uncorrectable => s.scrubBad p false

/-- PATROL_SCRUB (R268): in service only while `SCRUB_EN` is 1. -/
def execPatrolScrub (page : BitVec 24) (r : ScrubResult) (s : State) : Host.Outcome State Fault Refusal :=
  let p := page.toNat
  if s.inForce Reg.MEM_CTL 0 1 = 0 then .next s
  else .next ((s.updDev (pageDev p) fun x => { x with scrub := pageIndex p }).scrubFinds p r)

-- Lost devices (R282) -----------------------------------------------------------------------------------------------------------------

/-- The device is lost: three failed retraining attempts in a row, or 16 uncorrectable lines within 1 s. The cause is that of
GDDR7_LOST (R474), 0 while it is not. -/
def State.devDue (s : State) (d : Nat) : Nat :=
  let x := s.dev d
  if x.state = 2 then 0
  else if 3 ≤ x.failed then 1
  else match x.ues with
  | c :: _ => if x.ues.length = 16 ∧ c ≤ (x.ues.getLastD 0) + cyclesMs 1000 then 2 else 0
  | [] => 0

/-- The device leaves service at the coming tick (R282). -/
def State.loseDevice (s : State) (d : Nat) : State :=
  let c := s.devDue d
  if c = 0 then s
  else
    let s := (s.updDev d fun x => { x with state := 2 }).raise Src.mem 0 d
    let s := { s with mem := { s.mem with degraded := true } }
    let s := s.record 0x000E Sev.critical 1 ([BitVec.ofNat 8 d, BitVec.ofNat 8 c, 0, 0, 0, 0, 0, 0] ++ s.frameBytes)
    s.each ((s.til.jobs.filter fun j => j.2.live).map (·.1)) fun j s => s.endAt EndReason.fault j

/-- GDDR7_DEVICE_LOST (R282). -/
def execGddr7DeviceLost (dev : Fin 16) (s : State) : Host.Outcome State Fault Refusal := .next (s.loseDevice dev.val)

/-- CHANNEL_RETRAINING (R282): an attempt ends. -/
def execChannelRetraining (dev : Fin 16) (success : Bool) (s : State) : Host.Outcome State Fault Refusal :=
  let d := dev.val
  if (s.dev d).state = 2 then .next s
  else .next (s.updDev d fun x => if success then { x with state := 0, failed := 0 } else { x with state := 1, failed := x.failed + 1 })

-- The Cellar window (R277) --------------------------------------------------------------------------------------------------------------

/-- CELLAR_APPLY (R277): the window is taken up at the next tick. -/
def execCellarApply (s : State) : Host.Outcome State Fault Refusal := .next { s with mem := { s.mem with apply := true } }

/-- The window at the tick. -/
def State.cellarTick (s : State) : State :=
  if s.mem.apply then
    let size := (s.reg Reg.MEM_CELLAR_SIZE).toNat
    { s with mem := { s.mem with apply := false, oldCellar := s.mem.cellar
                                 cellar := ((s.reg Reg.MEM_CELLAR_BASE).toNat, min size (2 ^ 42), bitAt (s.reg Reg.MEM_CELLAR_CTL) 0) } }
  else s

-- Context addresses (R269) ----------------------------------------------------------------------------------------------------------------

/-- What a context address names. -/
inductive Loc where
  /-- A byte of RAM of the model. -/
  | ram (a : Nat)
  /-- Byte `off` of a program's scratch on a tile, which its page map places (R93). -/
  | scratch (tile : Nat) (pages : List Nat) (off : Nat)
  | bank (table : Nat) (inactive : Bool) (off : Nat)
  | hall (seat off : Nat)
  | cellar (off : Nat)
  /-- A shelf endpoint (log 20). -/
  | shelf (n : Nat)
  deriving DecidableEq, Repr

/-- Where the backing store of a job's context on a tile lies in the model's RAM (R95, R96), its Pantry objects and its image (log 8). -/
def jobScratch (job tile : Nat) : Nat := jobBase job + 2 ^ 36 + 2 ^ 22 * tile
def jobPantry (job : Nat) : Nat := jobBase job + 2 ^ 36 + 2 ^ 32
def jobImage (job : Nat) : Nat := jobBase job + 2 ^ 36 + 2 ^ 33

/-- The address form of a shelf endpoint in a copy descriptor (DESIGN CHOICE, log 20): shelf n at 2^46 + 2^16·n. -/
def shelfAddr : Nat := 2 ^ 46

/-- Seat whose Hall window a job sees: its submitting seat, the Owner seat for the others (R269). -/
def Job.hallSeat (x : Job) : Nat := if x.seat ≤ 7 then x.seat else 0

/-- A Cellar offset (R270). -/
def State.cellarLoc (s : State) (off : Nat) : Except CopyFault Loc :=
  let (_, size, valid) := s.mem.cellar
  if valid && decide (off < size) then .ok (.cellar off) else .error .cellarRange

/-- Translate a context address of a job on a tile for a read or a write (R269, R270). -/
def State.translate (s : State) (t j a : Nat) (write : Bool) : Except CopyFault Loc :=
  let x := s.job j
  let flags := match x.info with | some r => r.flags | none => 0
  let tables := match x.info with | some r => r.tables | none => []
  let own (u o : Nat) : Except CopyFault Loc :=
    let l := (s.tile u).pagesOf j
    if o < 4096 * l.length then .ok (.scratch u l o) else .error .unmapped
  if a < 0x400000 then own t a
  else if 0x40000000 ≤ a ∧ a < 0x60000000 then
    match x.tiles[(a - 0x40000000) / 0x400000]? with
    | some u => own u ((a - 0x40000000) % 0x400000)
    | none => .error .unmapped
  else if 0x100000000 ≤ a ∧ a < 0x200000000 then
    let o := a - 0x100000000
    match tables[o / 0x20000000]? with
    | some id =>
      match s.table? id with
      | some tb =>
        let inactive := decide (0x10000000 ≤ o % 0x20000000)
        let off := o % 0x10000000
        if tb.desc.bankBytes ≤ off then .error .unmapped
        else if !inactive then (if write then .error .protection else .ok (.bank id false off))
        else if tb.writer = 2 ∧ tb.writerJob = j ∧ tb.inactive = 2 then .ok (.bank id true off)
        else .error .unmapped
      | none => .error .unmapped
    | none => .error .unmapped
  else if 0x200000000 ≤ a ∧ a < 0x210000000 then
    let o := a - 0x200000000
    if write ∧ o < 0x1000000 then .error .protection else .ok (.hall x.hallSeat o)
  else if 0x300000000 ≤ a ∧ a < 0x306000000 then .ok (.ram (jobPantry j + (a - 0x300000000)))
  else if 0x1000000000 ≤ a ∧ a < 0x1000000000 + 1024 * x.gddr7Kb then .ok (.ram (jobBase j + (a - 0x1000000000)))
  else if 0x100000000000 ≤ a ∧ a < 0x100000000000 + 2 ^ 42 then
    (if flags / 4 % 2 = 1 then s.cellarLoc (a - 0x100000000000) else .error .unmapped)
  else if shelfAddr ≤ a ∧ a < shelfAddr + 2 ^ 26 then
    let n := (a - shelfAddr) / 2 ^ 16
    let h := s.shelf n
    let mine := if write then decide (h.prodKind = 2) && decide (h.prodIndex = j) else decide (h.consKind = 2) && decide (h.consIndex = j)
    if h.cls ≠ 0 ∧ mine then .ok (.shelf n) else .error .unmapped
  else .error .unmapped

/-- Translate an address of a frame-critical program on a tile (R94, R110, R262). The page table that the runtime builds for it is not a
user interface: the model takes the form of R269, with every tile's frame-critical partition at 0x4000_0000 + 4 MB × tile, its Pantry
objects, its pinned GDDR7 data, and the committed bank of FC table i at 2^45 + 512 MB × i (DESIGN CHOICE, log 20). -/
def State.frameLoc (s : State) (t a : Nat) (write : Bool) : Except CopyFault Loc :=
  let own (u o : Nat) (f : CopyFault) : Except CopyFault Loc :=
    let l := (s.tile u).fcMap
    if o < 4096 * l.length then .ok (.scratch u l o) else .error f
  if a < 0x400000 then own t a .protection
  else if 0x40000000 ≤ a ∧ a < 0x60000000 then own ((a - 0x40000000) / 0x400000) ((a - 0x40000000) % 0x400000) .unmapped
  else if 0x300000000 ≤ a ∧ a < 0x306000000 then .ok (.ram (framePantry + (a - 0x300000000)))
  else if 0x1000000000 ≤ a ∧ a < 0x1000000000 + 1024 * s.mem.pinnedKb then .ok (.ram (framePinned + (a - 0x1000000000)))
  else if 2 ^ 45 ≤ a ∧ a < 2 ^ 46 then
    match s.table? ((a - 2 ^ 45) / 2 ^ 29) with
    | some tb =>
      if tb.desc.flags % 2 = 0 ∨ tb.desc.bankBytes ≤ a % 2 ^ 29 then .error .unmapped
      else if write then .error .protection
      else .ok (.bank ((a - 2 ^ 45) / 2 ^ 29) false (a % 2 ^ 29))
    | none => .error .unmapped
  else .error .unmapped

/-- One name for each byte of scratch and of a table bank that a job sees at two context addresses (R269): scratch in the window of the
job's tiles, and a table at its first grant. -/
def State.canon (s : State) (t j a : Nat) : Nat :=
  let x := s.job j
  let tables := match x.info with | some r => r.tables | none => []
  if a < 0x400000 then
    (if x.tiles.contains t then 0x40000000 + 0x400000 * x.tiles.findIdx (fun u => u = t) + a else a)
  else if 0x100000000 ≤ a ∧ a < 0x200000000 then
    let o := a - 0x100000000
    match tables[o / 0x20000000]? with
    | some id => 0x100000000 + 0x20000000 * tables.findIdx (fun d => d = id) + o % 0x20000000
    | none => a
  else a

/-- The same for a frame-critical program. -/
def frameCanon (t a : Nat) : Nat := if a < 0x400000 then 0x40000000 + 0x400000 * t + a else a

/-- Read `n` bytes; `cellar` are the bytes that the Cellar delivered, and `off` the offset in a copy from a shelf. -/
def State.readLoc (s : State) (cellar : List Byte) (off n : Nat) : Loc → List Byte
  | .ram a => s.readBytes a n
  | .scratch t pages o => (span o n).map fun a => match pageAt t pages a with | some r => s.readByte r | none => 0
  | .bank id inactive o =>
    match s.table? id with
    | some tb => tgetList (fun _ => 0) (if inactive then tb.other else tb.bank) o n
    | none => []
  | .hall seat o => s.hallReads seat o n
  | .cellar _ => (List.range n).map fun i => (cellar[i]?).getD 0
  | .shelf k => bytesAt ((s.shelf k).reserved.flatten.flatMap fun w => leBytes 8 (setBits w 63 1 1).toNat) off n

/-- Write bytes to a program's scratch through its page map (R93). -/
def State.writeScratch (s : State) (t : Nat) (pages : List Nat) (o : Nat) (l : List Byte) : State :=
  l.zipIdx.foldl (fun s b => match pageAt t pages (o + b.2) with | some r => s.writeByte r b.1 | none => s) s

/-- Words of a byte string, 8 bytes each (R295). -/
def wordsFrom : Nat → List Byte → List Word
  | 0, _ => []
  | n + 1, l => BitVec.ofNat 64 (leNat (l.take 8)) :: wordsFrom n (l.drop 8)

/-- Push words into a shelf; none where one finds no room (R295). -/
def State.pushWords (s : State) (n : Nat) : List Word → Option State
  | [] => some s
  | w :: ws => if wordPoison w then (s.rewind n 48 2).pushWords n ws else
    match s.makeRoom n with | some t => (t.storeWord n w).pushWords n ws | none => none

/-- The Hall window takes writes of the device's copies: it is not being reset or zeroed (R275). -/
def State.hallOpen (s : State) (seat : Nat) : Bool :=
  let x := s.seat seat
  !x.resetting && (decide (x.state = .negotiate) || decide (x.state = .ready))

/-- Write bytes; none where a shelf cannot take them. -/
def State.writeLoc (s : State) (l : List Byte) : Loc → Option State
  | .ram a => some (s.writeBytes a l)
  | .scratch t pages o => some (s.writeScratch t pages o l)
  | .bank id _ o => some (s.updTable id fun tb => { tb with other := tsetList (fun _ => 0) tb.other o l })
  | .hall seat o => some (s.hallWrite seat o l)
  | .cellar _ => some s
  | .shelf k => s.pushWords k (wordsFrom (l.length / 8) l)

-- Copies ------------------------------------------------------------------------------------------------------------------------------------

/-- Two ranges of bytes have a byte in common. -/
def rangesMeet (a m b n : Nat) : Bool := decide (a < b + n) && decide (b < a + m)

/-- Source and destination overlap (R105): some row of the source with some row of the destination, under the names `canon` gives the
addresses. That the rows of a strided copy are compared one by one, not the spans that hold them, is the model's reading
(DESIGN CHOICE, log 54). -/
def Copy.overlaps (canon : Nat → Nat) (c : Copy) : Bool :=
  (List.range c.rows).any fun i => (List.range c.rows).any fun k =>
    rangesMeet (canon (c.src + i * c.srcPitch)) (c.rowLen i) (canon (c.dst + k * c.dstPitch)) (c.rowLen k)

/-- The value of a copy fault in `MEM_FAULT_INFO.KIND` (R270). -/
def CopyFault.code : CopyFault → Nat
  | .overlap => 1
  | .unmapped => 2
  | .protection => 3
  | .cellarRange => 4
  | .cellarAbort => 5
  | .cellarTimeout => 6
  | .gddr7Ue => 7
  | .deviceLost => 8
  | .hallReset => 9

/-- The job parks on the fault (R270). -/
def CopyFault.parks : CopyFault → Bool
  | .cellarRange | .cellarAbort | .cellarTimeout => true
  | _ => false

/-- The bank of a context on a tile: the frame bank, or that of a job, loaded or in its save area (R91, R114). -/
def Tile.bankOf (x : Tile) : Option Nat → Option Bank
  | none => some x.frame
  | some j =>
    if x.running = some j then some x.bulk
    else if x.contexts.any fun c => c.1 = j then some (tget (fun _ => ({} : Bank)) x.saved j) else none

/-- Change the bank of a context on a tile. -/
def State.updBank (s : State) (t : Nat) (owner : Option Nat) (f : Bank → Bank) : State :=
  s.updTile t fun x =>
    match owner with
    | none => { x with frame := f x.frame }
    | some j =>
      if x.running = some j then { x with bulk := f x.bulk }
      else { x with saved := tupd (fun _ => ({} : Bank)) x.saved j f }

/-- A fault of a job's copy in the current frame (R271): its contexts are asked to give way at once, and the queue goes no further than
the beat that met it (R110). -/
def State.copyFault (s : State) (t q j : Nat) (c : Copy) (beat : Option Nat) (f : CopyFault) (addr : Nat) : State :=
  let e : JobFault := { cause := f, addr := addr, queue := q, prog := c.progress, len := c.len, tick := 0 }
  let s := { s with mem := { s.mem with faults := s.mem.faults ++ [(t, q, j, e)] } }
  if f = .hallReset then s
  else
    let s := match beat with
      | some b => s.updBank t (some j) fun x => x.setQueue q ({ c with stop := some b } :: (x.queue q).tail)
      | none => s
    s.requestJob j

/-- COPY_ISSUE (R103, R105, R106): a queue holds up to 64 copies; a full one takes no further copy. A Frame-class copy has no job
that an overlap could end (R270): it is refused all the same. A program that waits on a fence issues nothing. -/
def execCopyIssue (tile : BitVec 7) (queue : BitVec 2) (d : CopyDesc) (s : State) : Host.Outcome State Fault Refusal :=
  let t := tile.toNat
  let q := queue.toNat
  let x := s.tile t
  let c : Copy := { src := d.src.toNat, dst := d.dst.toNat, len := d.len.toNat, row := d.row.toNat, srcPitch := d.srcPitch.toNat
                    dstPitch := d.dstPitch.toNat, cls := if d.frame then 1 else 2 }
  if c.len = 0 ∨ !s.tileIn t then .next s
  else if d.frame then
    if x.sense && !x.fcDone && x.frame.waitOn.isEmpty && decide ((x.frame.queue q).length < 64) && !c.overlaps (frameCanon t) then
      .next (s.updBank t none fun b => b.setQueue q (b.queue q ++ [c]))
    else .next s
  else match x.running with
  | some j =>
    if !x.bulkOn ∨ 64 ≤ (x.bulk.queue q).length then .next s
    else if c.overlaps (s.canon t j) then .next (s.copyFault t q j c none .overlap c.src)
    else .next (s.updBank t (some j) fun b => b.setQueue q (b.queue q ++ [c]))
  | none => .next s

/-- Queues of a bit set that still hold copies. -/
def Bank.busy (b : Bank) (queues : Nat) : List Nat := (members 4 queues).filter fun q => !(b.queue q).isEmpty

/-- COPY_FENCE (R106, R127): the program that runs on the tile waits until its queues are empty. A background context gives way there:
its queues go on issuing while no other context is loaded, unless a request is outstanding (R109). -/
def execCopyFence (tile : BitVec 7) (queues : BitVec 4) (s : State) : Host.Outcome State Fault Refusal :=
  let t := tile.toNat
  let x := s.tile t
  if x.bulkOn then
    match x.running, x.bulk.busy queues.toNat with
    | some j, q :: qs =>
      let s := s.updTile t fun x => { x with bulk := { x.bulk with waitOn := q :: qs } }
      .next (if x.request then s.giveWay t
        else (s.noteCopy j x.bulk).updTile t fun x => { x with bulkOn := false, waiting := true })
    | _, _ => .next s
  else if x.sense && !x.fcDone then
    .next (s.updTile t fun x => { x with frame := { x.frame with waitOn := x.frame.busy queues.toNat } })
  else .next s

/-- The unbroken run of completed beats grows over beats that were complete ahead of it. -/
def runOn : Nat → Nat → List Nat → Nat × List Nat
  | 0, b, l => (b, l)
  | n + 1, b, l => if l.contains b then runOn n (b + 1) (l.filter fun x => x ≠ b) else (b, l)

/-- Beat `b` of a copy is complete. -/
def Copy.done (c : Copy) (b : Nat) : Copy :=
  if b < c.beats then c
  else
    let r := runOn (c.ahead.length + 1) c.beats (c.ahead.filter (fun x => x ≠ b) ++ [b])
    { c with beats := r.1, ahead := r.2 }

/-- A fence whose queues are empty has passed (R106). -/
def Bank.passFence (b : Bank) : Bank := { b with waitOn := if b.waitOn.all fun q => (b.queue q).isEmpty then [] else b.waitOn }

/-- A context whose fence has passed runs on (R127). -/
def State.runOnTile (s : State) (t : Nat) : State :=
  s.updTile t fun x => if x.waiting && x.bulk.waitOn.isEmpty then { x with waiting := false, bulkOn := true } else x

/-- The head copy of a context's queue has advanced; a complete copy leaves its queue (R106, R107). A beat that completes after the
context gave way raises the recorded progress (R109). -/
def State.advanceCopy (s : State) (t q : Nat) (owner : Option Nat) (c : Copy) : State :=
  let complete := decide (c.total ≤ c.beats)
  let s := s.updBank t owner fun b => (b.setQueue q (if complete then (b.queue q).tail else c :: (b.queue q).tail)).passFence
  let s := if complete && c.reserved then s.releaseShelf ((c.src - shelfAddr) / 2 ^ 16) else s
  match owner with
  | none => s
  | some j =>
    let x := s.tile t
    if x.running = some j ∧ (x.bulkOn ∨ x.waiting) then s.runOnTile t
    else match x.bankOf (some j) with
      | some b => s.noteCopy j b
      | none => s

/-- A copy from a shelf reserves what can be read when its first beat issues (R299). -/
def State.reserveCopy (s : State) (t q j : Nat) (c : Copy) (n : Nat) : State × Copy :=
  if c.reserved then (s, c)
  else
    let s := s.reserveShelf n c.len
    let c := { c with reserved := true, len := 8 * wordsOf (s.shelf n).reserved, row := 0 }
    (s.updBank t (some j) fun b => b.setQueue q (c :: (b.queue q).tail), c)

/-- What a lost line reads as (R264): zeros on a SOLO unit; another one is at its verdict, and no rule gives it a value (log 19). -/
def State.lostByte (s : State) (i : Nat) : Byte := if s.twn.role = .solo then 0 else BitVec.ofNat 8 (Config.freeNat s.free / 256 ^ i)

/-- The bytes of a beat that begins at `src`, with the lost line of its page replaced (R264). -/
def State.patchLine (s : State) (src : Nat) (lost : Option Nat) (l : List Byte) : List Byte :=
  match lost with
  | some n => l.zipIdx.map fun b => if (src + b.2) / 64 % 64 = n then s.lostByte b.2 else b.1
  | none => l

/-- The state as seen through a Cellar window. -/
def State.withWindow (s : State) (w : Nat × Nat × Bool) : State := { s with mem := { s.mem with cellar := w } }

/-- The side of a beat that lies in the Cellar window: its context address. -/
def State.cellarSide (s : State) (t j : Nat) (c : Copy) (b : Nat) : Option Nat :=
  let (_, src, dst, _) := c.beat b
  match s.translate t j src false, s.translate t j dst true with
  | .ok (.cellar _), _ => some src
  | _, .ok (.cellar _) => some dst
  | _, _ => none

/-- The same through the window in force, or through the one before it (R277). -/
def State.cellarAddr (s : State) (t j : Nat) (c : Copy) (b : Nat) : Option Nat :=
  match s.cellarSide t j c b with
  | some a => some a
  | none => (s.withWindow s.mem.oldCellar).cellarSide t j c b

/-- A beat faults (R270): at the address of its Cellar side where the Cellar did not answer or aborted, which needs one. -/
def State.faultBeat (s : State) (t q j : Nat) (c : Copy) (b : Nat) (f : CopyFault) : State :=
  match if f = .cellarAbort ∨ f = .cellarTimeout then s.cellarAddr t j c b else some (c.beat b).2.1 with
  | some a => s.copyFault t q j c (some b) f a
  | none => s

/-- Move the bytes of one beat of a job's copy, whose Cellar side lies in the window `win`; the copy engine answers a fault, or nothing
where a shelf has no room. -/
def State.moveBeat (s : State) (t q j : Nat) (c : Copy) (b : Nat) (cellar : List Byte) (lost : Option Nat) (win : Nat × Nat × Bool) :
    State :=
  let (off, src, dst, n) := c.beat b
  let v := s.withWindow win
  let fail (f : CopyFault) (a : Nat) := s.copyFault t q j c (some b) f a
  match v.translate t j src false, v.translate t j (src + n - 1) false, v.translate t j dst true, v.translate t j (dst + n - 1) true with
  | .error f, _, _, _ => fail f src
  | _, .error f, _, _ => fail f (src + n - 1)
  | _, _, .error f, _ => fail f dst
  | _, _, _, .error f => fail f (dst + n - 1)
  | .ok from_, _, .ok dstLoc, _ =>
    let put (s : State) : State :=
      match s.writeLoc (s.patchLine src lost (s.readLoc cellar off n from_)) dstLoc with
      | some u => u.advanceCopy t q (some j) (c.done b)
      | none => s
    match dstLoc with
    | .hall seat _ => if s.hallOpen seat then put s else (fail .hallReset dst).advanceCopy t q (some j) (c.done b)
    | .shelf _ => if c.len % 8 ≠ 0 then fail .protection dst else if b ≠ c.beats then s else put s
    | _ => put s

/-- What the device's report and the inline decode make of a line that a beat read (R256). -/
def State.lineOutcome (s : State) : BeatOutcome → BeatOutcome
  | .code p report line =>
    match lineClass (report.map Fin.val) line with
    | .clean => .ok []
    | .corrected => .corrected p
    | .uncorrectable => if s.protectedPage p.toNat then .oneCopy p false else .unprotected p
  | o => o

/-- What a line error does to a job's beat: a fault, or none, and a line that is lost (R263 to R265). A lost device's page faults with
DEVICE_LOST (R270). -/
def State.lineError (s : State) : BeatOutcome → State × Option CopyFault × Option Nat
  | .corrected p => (s.correctedLine p.toNat RetireCause.corrected, none, none)
  | .unprotected p =>
    if (s.dev (pageDev p.toNat)).state = 2 then (s, some .deviceLost, none)
    else ((s.badLine p.toNat).retirePage p.toNat RetireCause.uncorrectable, some .gddr7Ue, none)
  | .oneCopy p again => (s.oneCopy p.toNat RetireCause.uncorrectable again, none, none)
  | .bothCopies p n => ((s.lineLost p.toNat RetireCause.uncorrectable).freeTick, none, some n.toNat)
  | .cellarAbort => (s, some .cellarAbort, none)
  | _ => (s, none, none)

/-- Bytes the Cellar delivered with a beat. -/
def cellarBytes : BeatOutcome → List Byte
  | .ok l | .oldWindow l => l
  | _ => []

/-- The Cellar window against which a beat finishes (R277). -/
def State.beatWindow (s : State) : BeatOutcome → Nat × Nat × Bool
  | .oldWindow _ => s.mem.oldCellar
  | _ => s.mem.cellar

/-- A copy out of a shelf takes the shelf's bytes as its own when its first beat issues (R299). -/
def State.reserveFor (s : State) (t q j : Nat) (c : Copy) : State × Copy :=
  match s.translate t j c.src false with
  | .ok (.shelf n) => s.reserveCopy t q j c n
  | _ => (s, c)

/-- The words of a beat that a shelf gives are checked as they are read (R292, R299). -/
def State.checkBeat (s : State) (t j : Nat) (c : Copy) : BeatOutcome → State
  | .words l =>
    match s.translate t j c.src false with
    | .ok (.shelf n) => s.checkReserved n l
    | _ => s
  | _ => s

/-- A beat that can no longer complete: it has, or a fault stopped the copy there. -/
def Copy.past (c : Copy) (b : Nat) : Bool :=
  decide (c.total ≤ b) || c.ahead.contains b || decide (b < c.beats) || decide (c.stop = some b)

/-- A beat of the head copy of a job's queue (R103 to R107, R270). -/
def State.bulkBeat (s : State) (t q j : Nat) (c : Copy) (b : Nat) (out : BeatOutcome) : State :=
  let (s, c) := s.reserveFor t q j c
  if c.past b then (if c.total = 0 then s.advanceCopy t q (some j) c else s)
  else
    let out := s.lineOutcome out
    let (s, f, lost) := (s.checkBeat t j c out).lineError out
    match f with
    | some f => s.faultBeat t q j c b f
    | none => s.moveBeat t q j c b (cellarBytes out) lost (s.beatWindow out)

/-- A beat of a Frame-class copy (R94, R107, R108, R110). An own scratch address outside the frame-critical partition loses the tile; any
other fault cannot occur (R270), and the beat does not complete. -/
def State.frameBeat (s : State) (t q : Nat) (c : Copy) (b : Nat) (out : BeatOutcome) : State :=
  if c.past b then s
  else
    let (s, _, lost) := s.lineError (s.lineOutcome out)
    let (off, src, dst, n) := c.beat b
    let fail (f : CopyFault) (a : Nat) := if f = .protection ∧ a < 0x400000 then s.loseTile t else s
    match s.frameLoc t src false, s.frameLoc t (src + n - 1) false, s.frameLoc t dst true, s.frameLoc t (dst + n - 1) true with
    | .error f, _, _, _ => fail f src
    | _, .error f, _, _ => fail f (src + n - 1)
    | _, _, .error f, _ => fail f dst
    | _, _, _, .error f => fail f (dst + n - 1)
    | .ok from_, _, .ok dstLoc, _ =>
      match s.writeLoc (s.patchLine src lost (s.readLoc [] off n from_)) dstLoc with
      | some u => u.advanceCopy t q none (c.done b)
      | none => s

/-- A beat of the load of an EXTERNAL table (R62, R278). -/
def State.loadBeat (s : State) (id b : Nat) (bytes : List Byte) (failed : Bool) : State :=
  let loading := decide (s.plan.st = .scheduled) || decide (s.plan.st = .preload) || decide (s.plan.st = .bridge)
  if !loading then s
  else { s with plan := { s.plan with loads := tupd (fun _ => {}) s.plan.loads id fun x =>
    { bytes := tsetList (fun _ => 0) x.bytes (4096 * b) (bytes.take 4096), beats := (x.beats ++ [b]).eraseDups
      failed := x.failed || failed } } }

/-- BEAT_COMPLETE (R103, R107, R109, R271): `beat` holds the job whose context issued the copy, none for the frame bank, and the beat's
number. The engine tracks the beats of each class and context apart (R108, R109), so a beat issued before its context gave way is
credited to it. -/
def execBeatComplete (tile : BitVec 7) (queue : BitVec 2) (beat : Option (BitVec 8) × Nat) (out : BeatOutcome) (s : State) :
    Host.Outcome State Fault Refusal :=
  let t := tile.toNat
  let q := queue.toNat
  let x := s.tile t
  match out with
  | .tableLoad id bytes => .next (s.loadBeat id.toNat beat.2 bytes false)
  | .tableFault id => .next ((s.loadBeat id.toNat beat.2 [] true).raise Src.mem 5 id.toNat)
  | _ =>
    if s.boot.stopped then .next s else
    match beat.1 with
    | none =>
      match x.frame.queue q with
      | c :: _ => .next (s.frameBeat t q c beat.2 out)
      | [] => .next s
    | some j =>
      match x.bankOf (some j.toNat) with
      | some b =>
        match b.queue q with
        | c :: _ => .next (s.bulkBeat t q j.toNat c beat.2 out)
        | [] => .next s
      | none => .next s

/-- CELLAR_TIMEOUT (R270) of a job's beat that touches the Cellar: no completion within `TIMEOUT_US` after two automatic re-issues. -/
def execCellarTimeout (tile : BitVec 7) (queue : BitVec 2) (beat : BitVec 8 × Nat) (s : State) : Host.Outcome State Fault Refusal :=
  let t := tile.toNat
  let q := queue.toNat
  let j := beat.1.toNat
  match (s.tile t).bankOf (some j) with
  | some b =>
    match b.queue q with
    | c :: _ => .next (if c.past beat.2 then s else s.faultBeat t q j c beat.2 .cellarTimeout)
    | [] => .next s
  | none => .next s

-- Faulted jobs (R271 to R274) -----------------------------------------------------------------------------------------------------------------

/-- Park reasons (R121). -/
def Park.order : Nat := 1
def Park.commit : Nat := 2
def Park.thermal : Nat := 3
def Park.fault : Nat := 4
def Park.bulkOff : Nat := 5

/-- The first fault of a frame in ascending order of tile and then of queue (R271). -/
def firstFault (l : List (Nat × Nat × Nat × JobFault)) : Option (Nat × Nat × Nat × JobFault) :=
  l.foldl (fun acc e => match acc with
    | none => some e
    | some a => if 4 * e.1 + e.2.1 < 4 * a.1 + a.2.1 then some e else some a) none

/-- The progress that a fault's copy has recorded by now (R271 to R273): beats issued before it may have completed since. -/
def State.faultProgress (s : State) (e : Nat × Nat × Nat × JobFault) : Nat :=
  match (s.tile e.1).bankOf (some e.2.2.1) with
  | some b =>
    match b.queue e.2.1 with
    | c :: _ => if c.stop.isSome then c.progress else e.2.2.2.prog
    | [] => e.2.2.2.prog
  | none => e.2.2.2.prog

/-- `MEM_FAULT_INFO`, `MEM_FAULT_ADDR` and `MEM_FAULT_PROG` (R284). -/
def State.reportFault (s : State) (frame : Nat) (e : Nat × Nat × Nat × JobFault) : State :=
  let (t, q, j, f) := e
  let action := if f.cause = .hallReset then 3 else if f.cause.parks then 1 else 2
  { s with mem := { s.mem with
      faultInfo := BitVec.ofNat 64 (frame % 2 ^ 32 * 2 ^ 32 + j * 2 ^ 24 + t * 2 ^ 16 + q * 2 ^ 10 + action * 2 ^ 8 + f.cause.code)
      faultAddr := f.addr
      faultProg := BitVec.ofNat 64 (s.faultProgress e % 2 ^ 32 * 2 ^ 32 + f.len % 2 ^ 32) } }

/-- One fault of the frame that ends takes effect: the job ends or parks (R270, R271). A job that is parked already keeps its first
fault. -/
def State.takeFault (s : State) (cycles : Nat) (e : Nat × Nat × Nat × JobFault) : State :=
  let (_, _, j, f) := e
  if f.cause = .hallReset then s.raise Src.mem 6
  else if !(s.job j).live then s
  else
    let s := s.raise Src.mem 4 j f.cause.code
    if f.cause.parks then
      (s.raise Src.mem 5 j f.cause.code).updJob j fun x =>
        if x.parks.contains Park.fault then x
        else { x with parks := x.parks ++ [Park.fault], fault := some { f with tick := s.nextTick, cycles := cycles } }
    else s.endAt EndReason.fault j

/-- Faults of the frame that ends (R271). -/
def State.faultTick (s : State) (cycles : Nat) : State :=
  match firstFault s.mem.faults with
  | some e =>
    let fs := s.mem.faults
    let s := s.reportFault s.hrt.frame e
    fs.foldl (State.takeFault · cycles) { s with mem := { s.mem with faults := [] } }
  | none => s

/-- The address of a fault has a mapping now, in the window in force (R274, R277). -/
def State.faultMaps (s : State) (j : Nat) (f : JobFault) : Bool :=
  match s.translate 0 j f.addr false with | .ok _ => true | .error _ => false

/-- FAULT_RETRY (R274): the faulted beat is issued again in every `RETRY_FRAMES`-th frame after the park tick; it can complete only where
its address has a mapping. -/
def execFaultRetry (job : BitVec 8) (completes : Bool) (s : State) : Host.Outcome State Fault Refusal :=
  let j := job.toNat
  let x := s.job j
  match x.fault with
  | some f =>
    let n := max 1 (s.inForce Reg.MEM_FAULT_CFG 0 16)
    if x.parks.contains Park.fault ∧ f.tick < s.hrt.frame ∧ (s.hrt.frame - f.tick) % n = 0 ∧ completes ∧ s.faultMaps j f then
      .next (s.updJob j fun y => { y with fault := some { f with clear := true } })
    else .next s
  | none => .next s

/-- The job has been parked with FAULT for `LIMIT_MS` at core-cycle count `cycles` (R274). -/
def State.limitDue (s : State) (cycles j : Nat) : Bool :=
  match (s.job j).fault with
  | some f => (s.job j).parks.contains Park.fault && !f.clear
      && decide (f.cycles + cyclesMs (max 1 (s.inForce Reg.MEM_FAULT_CFG 32 32)) ≤ cycles)
  | none => false

/-- FAULT_LIMIT (R274): the job ends with FAULT at the coming tick. -/
def execFaultLimit (job : BitVec 8) (s : State) : Host.Outcome State Fault Refusal :=
  let j := job.toNat
  if s.limitDue (s.hrt.cycles + s.hrt.cfg.period) j then .next (s.endAt EndReason.fault j) else .next s

/-- PAGE_ZEROED (R275): pages of an ended job return to the free pool. -/
def execPageZeroed (job : BitVec 8) (pages : BitVec 24) (s : State) : Host.Outcome State Fault Refusal :=
  .next { s with mem := { s.mem with zeroing := tupd (fun _ => 0) s.mem.zeroing job.toNat (· - pages.toNat) } }

/-- Memory at the tick: switches, lost devices, the Cellar window, and the faults of the frame that ends. -/
def State.memTick (s : State) (cycles : Nat) : State :=
  let s := s.retireTick
  let s := s.each (List.range 16) fun d s => s.loseDevice d
  let s := s.cellarTick.faultTick cycles
  s.each ((s.til.jobs.filter fun j => s.limitDue cycles j.1).map (·.1)) fun j s => s.endAt EndReason.fault j

end Sys2Proof.Machine
end

