-- ==== Sys2Proof/Machine/Jobs.lean ====
section
/-! DEFINITION. Background jobs: orders that have been taken up, admission, control, ends, restarts and the scheduler (R116 to R127,
R275, R276, R281). -/
namespace Sys2Proof.Machine

-- Orders taken up (R413, R414) --------------------------------------------------------------------------------------------------

/-- The order in a slot that has been taken up and not yet carried out. -/
def State.order? (s : State) (seat slot typ : Nat) : Option TakenOrder :=
  s.taken.find? fun o => decide (o.seat = seat) && decide (o.slot = slot) && decide (o.typ = typ) && !o.carried

/-- The order has been carried out with this result and object (R414, R415). -/
def State.settle (s : State) (o : TakenOrder) (result obj : Nat) : State :=
  { s with taken := s.taken.map fun p =>
      if p.seat = o.seat ∧ p.slot = o.slot then { p with carried := true, result := result, obj := obj } else p }

/-- A field of the body as copied at take-up. -/
def TakenOrder.num (o : TakenOrder) (off n : Nat) : Nat := fieldAt o.body off n

/-- The generic checks of an order (R414): 0x82 BAD_HEADER, 0x80 BAD_TYPE, 0x81 FEATURE, 0 when none applies. -/
def genericCheck (agreed typ flags reserved : Nat) (body : List Byte) : Nat :=
  let has := fun b => decide (agreed / 2 ^ b % 2 = 1)
  if 2 ≤ flags ∨ reserved ≠ 0 then 0x82
  else match typ with
    | 1 => if has 1 && (has 3 || decide (fieldAt body 10 2 / 8 % 2 = 0)) then 0 else 0x81
    | 2 => if has 1 then 0 else 0x81
    | 3 => if has 2 && (has 7 || decide (fieldAt body 0x53 1 / 2 % 2 = 0)) then 0 else 0x81
    | 4 => if has 2 then 0 else 0x81
    | _ => 0x80

/-- The slots of a seat that are POSTED, ascending (R411). -/
def State.postedSlots (s : State) (i : Nat) : List Nat :=
  (s.ram.filter fun c => decide (hallBase i ≤ c.1) && decide (c.1 < hallBase i + 0x100000) && decide ((c.1 - hallBase i) % 256 = 0)
    && decide (c.2 = 1)).map fun c => (c.1 - hallBase i) / 256

/-- Take up the order of a slot at the coming tick: the header and body are copied (R413). -/
def State.takeSlot (s : State) (i n : Nat) : State :=
  let k := s.nextTick
  let at_ := 256 * n
  let h := s.readBytes (hallBase i + at_) 32
  let body := s.readBytes (hallBase i + at_ + 32) 224
  let r := genericCheck (s.seat i).agreed (fieldAt h 1 1) (fieldAt h 2 1) (fieldAt h 0x14 4) body
  let s := (s.hallWrite i at_ [2]).hallWrite i (at_ + 8) (leBytes 8 k)
  { s.count (Reg.SYS_SEATs_STATUS i) 32 32 1 with
    taken := s.taken ++ [{ seat := i, slot := n, typ := fieldAt h 1 1, flags := fieldAt h 2 1, cookie := fieldAt h 4 4, taken := k
                           result := r, obj := 0, body := body, carried := decide (r ≠ 0) }] }

/-- Seats whose orders are served at the coming tick: READY since before it, ascending (R413). -/
def State.servedSeats (s : State) : List Nat :=
  (List.range 8).filter fun i => decide ((s.seat i).state = .ready) && decide ((s.seat i).readyAt < s.nextTick)

/-- Orders that have been taken up for the coming tick. -/
def State.takenNow (s : State) : List TakenOrder := s.taken.filter fun o => decide (o.taken = s.nextTick) && !o.gone

/-- The slots to take up at the coming tick: at most 32 of a seat and 256 of the device (R413); none while the supervisors restart
(R451). -/
def State.slotsToTake (s : State) : List (Nat × Nat) :=
  if s.upd.restart || s.boot.stopped then []
  else (s.servedSeats.flatMap fun i => ((s.postedSlots i).take (32 - (s.takenNow.filter fun o => o.seat = i).length)).map (i, ·)).take
    (256 - s.takenNow.length)

/-- Take up the orders posted before the tick (R413). -/
def State.takeOrders (s : State) : State := s.slotsToTake.foldl (fun s p => s.takeSlot p.1 p.2) s

/-- Take up, for the coming tick, the order of a type that is posted in a slot (log 47). -/
def State.takeEarly (s : State) (i n typ : Nat) : State :=
  if s.slotsToTake.contains (i, n) && decide (s.hallNat i (256 * n + 1) 1 = typ) then s.takeSlot i n else s

-- States of a job (R121, R122) ----------------------------------------------------------------------------------------------------

/-- The state's value (R121). -/
def JobState.code : JobState → Nat
  | .none => 0
  | .admitting => 1
  | .ready => 2
  | .running => 3
  | .parked => 4
  | .ended => 5

/-- Lowest park reason that applies, 0 none (R122). -/
def Job.parkReason (x : Job) : Nat := (x.parks.min?).getD 0

/-- The JOB_STATE record (R417) to the submitting seat, or to the Owner seat (R122). -/
def State.jobNotice (s : State) (j : Nat) : State :=
  let x := s.job j
  s.raiseRecord [if x.seat ≤ 7 then x.seat else 0] Src.til 1
    ([BitVec.ofNat 8 j, BitVec.ofNat 8 x.state.code, BitVec.ofNat 8 x.parkReason, BitVec.ofNat 8 x.endReason,
      BitVec.ofNat 8 x.admission, 0, 0, 0] ++ leBytes 4 (if x.endReason = EndReason.done then x.exitCode else 0))

/-- Change the state of a job, with its notice (R122). -/
def State.setJob (s : State) (j : Nat) (st : JobState) : State :=
  if (s.job j).state = st then s else (s.updJob j fun x => { x with state := st }).jobNotice j

/-- Jobs in states 1 to 4, ascending. -/
def State.liveJobs (s : State) : List Nat := tkeys Job.live s.til.jobs

/-- Live jobs that a seat submitted. -/
def State.seatJobs (s : State) (seat : Nat) : List Nat := s.liveJobs.filter fun j => (s.job j).seat = seat

/-- Tiles that a seat's jobs hold together (R130). -/
def State.seatTiles (s : State) (seat : Nat) : Nat := ((s.seatJobs seat).map fun j => (s.job j).tiles.length).sum

-- Admission (R116, R120, R124, R281) ------------------------------------------------------------------------------------------------

/-- The tile can take a context of so many pages; a tile lost in the frame that begins is in service at its tick (R120). -/
def State.roomOn (s : State) (pages t : Nat) : Bool :=
  s.tileIn t && decide ((s.tile t).contexts.length < 4) && decide (pages ≤ (s.tile t).freePages)

/-- The tiles for a job: those of its mask, or in the fixed order of R120; none where they do not suffice. -/
def State.pickTiles (s : State) (r : JobRec) : Option (List Nat) :=
  if bitAt (BitVec.ofNat 64 r.flags) 3 then
    let l := maskTiles r.tiles
    if l.length = r.count ∧ l.all (s.roomOn r.pages) then some l else none
  else
    let ok := (List.range 128).filter (s.roomOn r.pages)
    let l := ((ok.filter fun t => !(s.tile t).sense) ++ ok.filter fun t => (s.tile t).sense).take r.count
    if l.length = r.count then some l else none

/-- The number for a new seat job: the lowest free one, else the lowest whose job has ended (R116, R121). -/
def State.jobNumber (s : State) : Option Nat :=
  let l := span 64 192
  match l.find? fun j => (s.job j).state = .none with
  | some j => some j
  | none => l.find? fun j => decide ((s.job j).state = .ended) && (s.job j).restart.isNone

/-- A commit is SCHEDULED, in PRELOAD or in BRIDGE. -/
def State.commitBusy (s : State) : Bool :=
  decide (s.plan.st = .scheduled) || decide (s.plan.st = .preload) || decide (s.plan.st = .bridge)

/-- Limits of R116 that no seat moves. -/
def JobRec.inLimits (r : JobRec) : Bool :=
  decide (1 ≤ r.count) && decide (r.count ≤ 128) && decide (1 ≤ r.weight) && decide (r.weight ≤ 255)
    && decide (98304 ≤ r.scratch) && decide (r.scratch ≤ 4063232) && decide (r.scratch % 4096 = 0)

/-- A limit of R116 would be exceeded for the seat; 0xFF is a resident job, which no seat quota governs. -/
def State.overQuota (s : State) (seat : Nat) (r : JobRec) : Bool :=
  if 7 < seat then false
  else
    let q := Reg.TIL_SEAT_QUOTA seat
    !r.inLimits || decide (min 192 (s.inForce q 0 8) < (s.seatJobs seat).length + 1)
      || decide (min 128 (s.inForce q 24 8) < s.seatTiles seat + r.count) || decide (s.inForce q 40 8 < r.weight)

/-- The refusal code of an admission, 0 accepted; the lowest that holds (R120). -/
def State.admitCheck (s : State) (seat : Nat) (r : JobRec) : Nat :=
  if seat ≤ 7 ∧ s.seatRole seat = 0 then 1
  else if s.overQuota seat r || s.jobNumber.isNone then 2
  else if (s.pickTiles r).isNone then 3
  else if bitAt (BitVec.ofNat 64 r.flags) 2 && !decide (s.plan.plan.required / 128 % 2 = 1) then 4
  else if r.tables.any fun t => match s.table? t with | some x => decide (x.desc.flags / 8 % 2 = 0) | none => true then 5
  else if s.commitBusy then 7
  else if s.unprotFree < r.needKb
    ∨ (seat ≤ 7 ∧ 1024 * s.inForce (Reg.MEM_SEAT_QUOTA seat) 0 16 < s.seatKb seat + r.gddr7Kb) then 8
  else 0

/-- Place the contexts of a job on its tiles: each takes free background pages there (R93, R94). -/
def State.placeJob (s : State) (j pages : Nat) (l : List Nat) : State :=
  s.each l fun t s => s.updTile t fun x => { x with contexts := x.contexts ++ [(j, x.free.take pages)] }

/-- A job enters ADMITTING (R120); its memory is allotted (R266). -/
def State.admitJob (s : State) (j seat : Nat) (r : JobRec) (held resident : Bool) : State :=
  let l := (s.pickTiles r).getD []
  let x : Job := { state := .none, info := some r, seat := seat, service := r.service, tiles := l, pages := r.pages, gddr7Kb := r.gddr7Kb
                   admitted := held, imageHeld := held, resident := resident }
  (((s.allotPages).updJob j fun _ => x).placeJob j r.pages l).setJob j .admitting

/-- The record of a JOB_START body (R119). -/
def TakenOrder.jobRec (o : TakenOrder) : JobRec :=
  let f := o.num 0x53 1
  { job := 0, seat := o.seat, weight := o.num 0x52 1
    flags := 2 * (f % 2) + 4 * (f / 2 % 2) + 8 * (f / 4 % 2), service := 0
    tiles := o.num 0x60 16, count := o.num 0x50 2, scratch := o.num 0x54 4, gddr7Kb := o.num 0x58 4
    tables := ((List.range 8).map fun i => o.num (0x70 + 2 * i) 2).filter fun t => t ≠ 0xFFFF
    digest := o.num 0x10 64, args := (List.range 8).map fun i => o.num (0x80 + 8 * i) 8
    imgOff := o.num 0 8, imgLen := o.num 8 8 }

/-- Carry out a JOB_START (R120). -/
def State.startJob (s : State) (o : TakenOrder) : State :=
  let r := o.jobRec
  let code := s.admitCheck o.seat r
  match code, s.jobNumber with
  | 0, some j => (s.admitJob j o.seat { r with job := j } false false).settle o 0 j
  | _, _ => (s.raise Src.til 1 noObj code).settle o code 0

/-- JOB_START (R120): the order in this slot, taken up at the last tick. -/
def execJobStart (seat : BitVec 3) (slot : BitVec 12) (s : State) : Host.Outcome State Fault Refusal :=
  match s.order? seat.toNat slot.toNat 3 with
  | some o => .next (s.startJob o)
  | none => .next s

/-- The image lies in the Bulk area of the Hall at a multiple of 4,096 (R119). -/
def JobRec.imageOk (r : JobRec) : Bool :=
  decide (0x1000000 ≤ r.imgOff) && decide (r.imgOff % 4096 = 0) && decide (r.imgOff + r.imgLen ≤ hallSize)

/-- JOB_ADMITTED (R120): the image has been copied from the Hall into GDDR7 and is checked against `DIGEST`; READY at the next tick, or
refused. -/
def execJobAdmitted (job : BitVec 8) (s : State) : Host.Outcome State Fault Refusal :=
  let j := job.toNat
  let x := s.job j
  match x.info with
  | some r =>
    if x.state ≠ .admitting ∨ x.admitted then .next s
    else if r.imageOk && decide (Config.shake256 r.imgLen (tslice s.ram (hallBase x.hallSeat + r.imgOff) r.imgLen) = r.digest) then
      .next ((s.copyRange (hallBase x.hallSeat + r.imgOff) (jobImage j) r.imgLen).updJob j fun y =>
        { y with admitted := true, imageHeld := true })
    else .next ((s.updJob j fun y => { y with admission := 6 }).endAt EndReason.refused j)
  | none => .next s

-- Ends (R122, R123, R276) ---------------------------------------------------------------------------------------------------------------

/-- Free a job's claims on inactive banks, in WRITING or READY (R82, R123). -/
def State.freeClaims (s : State) (j : Nat) : State :=
  { s with plan := { s.plan with tables := s.plan.tables.map fun p =>
      if p.2.writer = 2 ∧ p.2.writerJob = j ∧ (p.2.inactive = 2 ∨ p.2.inactive = 3) then
        (p.1, { p.2 with inactive := 0, writer := 0, writerJob := 0, other := [], copying := false })
      else p } }

/-- The shelves of a job that ends: its open packets are discarded, and what its copies had reserved stays (R291, R299). -/
def State.freeShelves (s : State) (j : Nat) : State :=
  s.each (s.shelves.map (·.1)) fun n s =>
    let x := s.shelf n
    let s := if x.prodKind = 2 ∧ x.prodIndex = j then s.abortPacket n else s
    if x.consKind = 2 ∧ x.consIndex = j then s.returnShelf n else s

/-- A tile without the context of a job (R123); the context's copies end with it (R276). -/
def Tile.drop (x : Tile) (j : Nat) : Tile :=
  let x := { x with contexts := x.contexts.filter fun c => c.1 ≠ j
                    saved := x.saved.filter fun c => c.1 ≠ j
                    nextJob := if x.nextJob = some j then none else x.nextJob }
  if x.running = some j then { x with running := none, bulk := {}, bulkOn := false, waiting := false, request := false } else x

/-- A job with RESTART_ON_FAULT that ends so is admitted again (R124). A service job whose tile or pages were lost is placed again by
the variant instead (R129). -/
def Job.restarts (x : Job) (r : Nat) : Bool :=
  match x.info with
  | some i => bitAt (BitVec.ofNat 64 i.flags) 1
      && (decide (r = 3) || (decide (x.service = 0) && (decide (r = 6) || decide (r = 7))))
  | none => false

/-- The memory of a job that ends: zeroed before it is used again (R275), but for the image of a job that is admitted again (R124). -/
def State.freeMemory (s : State) (j : Nat) (again : Bool) : State :=
  let x := s.job j
  let kb := x.heldKb - (match x.info with | some i => if again && x.imageHeld then i.imageKb else 0 | none => 0)
  let s := if again then s.zeroBytes (jobBase j) (2 ^ 36 + 2 ^ 33) else s.zeroBytes (jobBase j) (2 ^ 37)
  { s with mem := { s.mem with zeroing := tupd (fun _ => 0) s.mem.zeroing j (· + (kb + 3) / 4) } }

/-- A job ends with reason `r` (R122, R123, R276): contexts, pages and claims are free at once. -/
def State.endJob (s : State) (r j : Nat) : State :=
  let again := (s.job j).restarts r
  let s := { s with til := { s.til with tiles := tmap (fun _ => {}) (fun _ y => y.drop j) s.til.tiles } }
  let s := ((s.freeClaims j).freeShelves j).freeMemory j again
  let s := { s with est := if s.est.adaptJob = some j then { s.est with adaptJob := none, training := false } else s.est }
  let s := s.updJob j fun y => { y with
    parks := [], endReason := r, ending := [], tiles := [], pages := 0, fault := none, admitted := false
    restart := if again then some (s.nextTick + 1) else none, evicted := false, endRead := false }
  let s := (s.setJob j .ended).raise Src.til 0 j r
  if r = EndReason.refused then s.raise Src.til 1 j (s.job j).admission else s

/-- A fault of the frame that ends will end the job (R270, R271). -/
def State.faultEnds (s : State) (j : Nat) : Bool :=
  s.mem.faults.any fun e => decide (e.2.2.1 = j) && decide (e.2.2.2.cause ≠ .hallReset) && !e.2.2.2.cause.parks

/-- End reasons that fall at the coming tick (R122): those noted, and those that the tick itself will find. -/
def State.dueEnds (s : State) (j : Nat) : List Nat :=
  (s.job j).ending
    ++ (if s.faultEnds j || s.limitDue s.hrt.cycles j || (List.range 16).any fun d => decide (s.devDue d ≠ 0) then [EndReason.fault] else [])
    ++ (if (s.job j).tiles.any fun t => (s.tile t).lostNow then [EndReason.tileLost] else [])

/-- A job ends at the coming tick with the lowest of `r` and what else falls at it (R122). -/
def State.endNow (s : State) (r j : Nat) : State := s.endJob (((r :: s.dueEnds j).min?).getD r) j

/-- Every end reason of the frame that ends takes effect; the lowest value wins (R122). -/
def State.endJobs (s : State) : State :=
  s.each s.liveJobs fun j s => match (s.job j).ending.min? with
    | some r => s.endJob r j
    | none => s

/-- JOB_EXIT (R121): the job has called exit; it ends with DONE at the next tick. -/
def execJobExit (job : BitVec 8) (code : BitVec 32) (s : State) : Host.Outcome State Fault Refusal :=
  let j := job.toNat
  if (s.job j).state = .running then
    .next (((s.updJob j fun x => { x with exitCode := code.toNat }).endAt EndReason.done j).requestJob j)
  else .next s

-- Control (R119, R120, R122) --------------------------------------------------------------------------------------------------------------

/-- The seat that the job's record names besides the Owner, or that submitted it, may control it (R117, R120). -/
def State.mayControl (s : State) (seat j : Nat) : Bool :=
  let x := s.job j
  decide (s.seatRole seat = 2) || decide (x.seat = seat) || (match x.info with | some r => decide (r.seat = seat) | none => false)

/-- Result of a JOB_CTL (R415): 1 ROLE, 10 NO_JOB, 9 STATE, 0 OK. -/
def State.ctlCheck (s : State) (seat j op : Nat) : Nat :=
  let x := s.job j
  if s.seatRole seat = 0 then 1
  else if x.state = .none then 10
  else if !s.mayControl seat j then 1
  else if x.state = .ended ∨ (op = 2 ∧ !x.parks.contains Park.order) ∨ op = 0 ∨ 3 < op then 9
  else 0

/-- The state of a job that no longer waits for admission, by its park reasons. -/
def State.settleParks (s : State) (j : Nat) : State :=
  let x := s.job j
  if x.state = .admitting ∨ !x.live then s
  else if !x.parks.isEmpty then (s.requestJob j).setJob j .parked
  else if x.state = .parked then s.setJob j .ready
  else s

/-- Carry out a control operation on a live job (R119, R121): 1 PARK, 2 RESUME, 3 STOP. -/
def State.control (s : State) (op j : Nat) : State :=
  match op with
  | 1 => (s.updJob j fun x => { x with parks := (x.parks.filter (· ≠ Park.order)) ++ [Park.order] }).settleParks j
  | 2 => (s.updJob j fun x => { x with parks := x.parks.filter (· ≠ Park.order) }).settleParks j
  | 3 => s.endJob EndReason.stopped j
  | _ => s

/-- Carry out a JOB_CTL order at the tick of its take-up (R119, R122). -/
def State.controlOrder (s : State) (o : TakenOrder) : State :=
  let j := o.num 0 2
  let op := o.num 2 1
  let r := s.ctlCheck o.seat j op
  (if r = 0 then s.control op j else s).settle o r (if r = 10 then 0 else j)

/-- JOB_CTL orders taken up at the coming tick: the end of a job stands (R122). -/
def State.controlOrders (s : State) : State :=
  ((s.takenNow.filter fun o => decide (o.typ = 4)).filter fun o => !o.carried).foldl (fun s o => s.controlOrder o) s

/-- The control operation of a row: written to `TIL_JOB_CTL` while `TIL_JOB_SEL` names the job (R130), or the order posted in a slot.
Either is taken up at the next tick, and TICK carries it out then, after the ends of the tick (R122; log 47). -/
def State.jobCtl (s : State) (src : CtlSource) (op j : Nat) : State :=
  match src with
  | .register => if s.field Reg.TIL_JOB_SEL 0 8 = j then { s with til := { s.til with ctlOp := some op } } else s
  | .order seat slot =>
    if s.hallNat seat.toNat (256 * slot.toNat + 34) 1 = op ∧ s.hallNat seat.toNat (256 * slot.toNat + 32) 2 = j then
      s.takeEarly seat.toNat slot.toNat 4 else s

/-- JOB_PARK (R119). -/
def execJobPark (src : CtlSource) (job : BitVec 8) (s : State) : Host.Outcome State Fault Refusal :=
  .next (s.jobCtl src 1 job.toNat)

/-- JOB_RESUME (R119). -/
def execJobResume (src : CtlSource) (job : BitVec 8) (s : State) : Host.Outcome State Fault Refusal :=
  .next (s.jobCtl src 2 job.toNat)

/-- JOB_STOP (R119). -/
def execJobStop (src : CtlSource) (job : BitVec 8) (s : State) : Host.Outcome State Fault Refusal :=
  .next (s.jobCtl src 3 job.toNat)

/-- The operation of `TIL_JOB_CTL` at its tick, on the job that `TIL_JOB_SEL` selects then (R497): the end of a job stands (R122). -/
def State.takeJobCtl (s : State) : State :=
  match s.til.ctlOp with
  | some op =>
    let j := s.field Reg.TIL_JOB_SEL 0 8
    let s := { s with til := { s.til with ctlOp := none } }
    if s.ctlCheck 0 j op = 0 then s.control op j else s
  | none => s

-- Restarts (R124) -------------------------------------------------------------------------------------------------------------------------

/-- A placement of the committed plan: 0, or one of its variants. -/
def State.placement (s : State) (v : Nat) : Option Placement :=
  if v = 0 then some s.plan.plan.place0 else s.plan.plan.places[v - 1]?

/-- The record under which a job is admitted again (R124): a resident job takes the tiles that the placement in force gives it. -/
def State.againRec (s : State) (x : Job) (i : JobRec) : JobRec :=
  if x.resident then
    let m := match s.placement s.plan.variant with | some v => v.tilesOf i | none => i.tiles
    { i with tiles := m, flags := setBits (BitVec.ofNat 64 i.flags) 3 1 1 |>.toNat, count := (maskTiles m).length }
  else i

/-- Admit a job again under the checks of R120, from its entry, with its arguments and a new number (R124). The image stays in GDDR7. -/
def State.restartJob (s : State) (j : Nat) : State :=
  let x := s.job j
  match x.info with
  | some i =>
    let s := s.updJob j fun y => { y with restart := none }
    let r := s.againRec x i
    match s.admitCheck x.seat r, s.jobNumber with
    | 0, some n =>
      let s := s.admitJob n x.seat (if x.resident then r else { r with job := n }) x.imageHeld x.resident
      (s.copyRange (jobImage j) (jobImage n) i.imgLen).zeroBytes (jobImage j) i.imgLen
    | c, _ => (s.updJob j fun y => { y with endReason := EndReason.refused, admission := c }).jobNotice j |>.raise Src.til 1 j c
  | none => s

/-- Resident jobs whose admission was refused are tried again at a commit (R124). -/
def State.retryRefused (s : State) : State :=
  s.each (tkeys (fun x => x.resident && decide (x.state = .ended) && decide (x.endReason = EndReason.refused)) s.til.jobs)
    fun j s => s.restartJob j

-- The scheduler (R126, R127) ----------------------------------------------------------------------------------------------------------------

/-- Tile-cycles of a job in a list of what ran. -/
def ranOf (ran : List (Nat × Nat)) (j : Nat) : Nat := ((ran.filter (·.1 = j)).map (·.2)).sum

/-- User jobs on a tile that share its frames. -/
def State.sharers (s : State) (t : Nat) : List Nat :=
  ((s.tile t).contexts.map (·.1)).filter fun j =>
    let x := s.job j
    decide (x.service = 0) && (decide (x.state = .ready) || decide (x.state = .running))

/-- Weight of a job. -/
def Job.weight (x : Job) : Nat := match x.info with | some r => r.weight | none => 0

/-- What a job should have had of a tile's user time in the frame that ends (R126). -/
def State.shareOn (s : State) (ran : List (Nat × Nat)) (j t : Nat) : Nat :=
  let l := s.sharers t
  let total := (l.map fun i => ranOf ran i / max 1 (s.job i).tiles.length).sum
  total * (s.job j).weight / max 1 (l.map fun i => (s.job i).weight).sum

/-- Count what ran in the frame that ends (R126). -/
def State.countRan (s : State) (ran : List (Nat × Nat)) : State :=
  let due := s.liveJobs.map fun j => (j, ((s.job j).tiles.map fun t => s.shareOn ran j t).sum)
  due.foldl (fun s d => s.updJob d.1 fun x =>
    let n := ranOf ran d.1
    { x with time := x.time + n
             deficit := if x.service = 0 ∧ (x.state = .ready ∨ x.state = .running) then x.deficit + (d.2 : Int) - (n : Int) else x.deficit }) s

/-- Order by deficit, the largest first; of equals the lower number first. -/
def insertDeficit (e : Nat × Int) : List (Nat × Int) → List (Nat × Int)
  | [] => [e]
  | h :: t => if h.2 < e.2 then e :: h :: t else h :: insertDeficit e t

/-- Jobs that may run in the coming frame, in the order in which they are granted their tiles (R126); a STANDBY runs neither the
adaptation nor the rebuild service (R382), a restart no service job (R451), a stopped unit none (R486). -/
def State.candidates (s : State) : List Nat :=
  let l := s.liveJobs.filter fun j =>
    let x := s.job j
    (decide (x.state = .ready) || decide (x.state = .running)) && !s.thm.withheld.contains j
      && !(decide (s.twn.role = .standby) && (decide (x.service = 2) || decide (x.service = 3)))
      && !(s.upd.restart && decide (x.service ≠ 0)) && !s.boot.stopped
  let service := l.filter fun j => (s.job j).service ≠ 0
  let user := (l.filter fun j => (s.job j).service = 0).foldl (fun a j => insertDeficit (j, (s.job j).deficit) a) []
  service ++ user.map (·.1)

/-- Grant tiles: a job runs on all of its tiles or on none (R126). -/
def grantTiles (tilesOf : Nat → List Nat) : List Nat → List Nat → List Nat → List Nat
  | [], _, acc => acc
  | j :: js, busy, acc =>
    let l := tilesOf j
    if l.any busy.contains then grantTiles tilesOf js busy acc else grantTiles tilesOf js (l ++ busy) (acc ++ [j])

/-- The jobs that are granted their tiles (R126). -/
def State.grantedJobs (s : State) : List Nat := grantTiles (fun j => (s.job j).tiles) s.candidates [] []

-- Evictions (R95, R96) -----------------------------------------------------------------------------------------------------------------------

/-- Copy the pages of a job's context on a tile to its backing store, or back (R95). -/
def State.storePages (s : State) (j t : Nat) (back : Bool) : State :=
  (((s.tile t).pagesOf j).zipIdx).foldl (fun s p =>
    let page := scratchBase t + 4096 * p.1
    let store := jobScratch j t + 4096 * p.2
    if back then s.copyRange store page 4096 else s.copyRange page store 4096) s

/-- Evict a job's scratch and context records to GDDR7 (R96). The records keep their form (log 55). -/
def State.evictJob (s : State) (j : Nat) : State :=
  let s := s.each (s.job j).tiles fun t s =>
    let s := if (s.tile t).running = some j then (s.giveWay t).updTile t Tile.stow else s
    if (s.job j).evicted then s else s.storePages j t false
  s.updJob j fun x => { x with evicted := true }

/-- Reload the scratch of an evicted job before its first instruction (R96). -/
def State.reloadJob (s : State) (j : Nat) : State :=
  (s.each (s.job j).tiles fun t s => s.storePages j t true).updJob j fun x => { x with evicted := false }

-- The frame's schedule ----------------------------------------------------------------------------------------------------------------------

/-- The jobs of the coming frame (R126): the bulk bank of a tile without Sense work switches at once, that of a Sense tile after its
last frame-critical program. -/
def State.schedule (s : State) : State :=
  let run := s.grantedJobs
  let held := run.flatMap fun j => (s.job j).tiles
  let s := s.each (tkeys (fun x => x.bulkOn || x.waiting) s.til.tiles) fun t s =>
    if (s.tile t).sense || !held.contains t then s.giveWay t else s
  let s := { s with til := { s.til with tiles := tmap (fun _ => {}) (fun _ x => { x with fcDone := false, nextJob := none }) s.til.tiles } }
  let s := s.each s.liveJobs fun j s => if (s.job j).state = .running && !run.contains j then s.setJob j .ready else s
  s.each run fun j s =>
    let s := (if (s.job j).evicted then s.reloadJob j else s).setJob j .running
    s.each (s.job j).tiles fun t s =>
      if (s.tile t).sense then s.updTile t fun x => { x with nextJob := some j } else s.switchTo t j

-- The Guard slot (R112) ----------------------------------------------------------------------------------------------------------------------

/-- The placement that governs the next frame as far as it is known: that of a FULL commit or of a switch that is due at the next tick. -/
def State.nextPlacement (s : State) : Option Placement :=
  let running := decide (s.plan.st = .scheduled) || decide (s.plan.st = .preload)
  match s.plan.cand, s.plan.switchAt with
  | some q, w =>
    if running ∧ s.plan.commitAt ≤ s.nextTick ∧ q.kind = 0 then some q.place0
    else match w with
      | some (v, t) => if t ≤ s.nextTick then s.placement v else none
      | none => none
  | none, some (v, t) => if t ≤ s.nextTick then s.placement v else none
  | none, none => none

/-- The next frame begins with frame-critical work on the tile (R112). -/
def State.senseNext (s : State) (t : Nat) : Bool :=
  match s.nextPlacement with
  | some v => decide (tget (fun _ => 15) v.stages t ≠ 15)
  | none => (s.tile t).sense

/-- Tiles that get a request at the start of the Guard slot (R112): the next frame begins with frame-critical work there, or runs another
background context than the one now running. -/
def State.guardRequests (s : State) : List Nat :=
  let run := s.grantedJobs
  (List.range 128).filter fun t => s.senseNext t
    || match run.find? fun j => (s.job j).tiles.contains t with
      | some j => decide ((s.tile t).running ≠ some j)
      | none => false

/-- GUARD_SLOT_START (R21, R112, R128): a second missed token in a row loses the tile, and the requests go out. What the Hearth prepares
here it shows at the tick (R84, R39, R50). -/
def execGuardSlotStart (missed : List (BitVec 7)) (s : State) : Host.Outcome State Fault Refusal :=
  if s.hrt.running then
    let s := s.each (List.range 128) fun t s => s.tokenTile (missed.map BitVec.toNat) t
    .next (s.each s.guardRequests fun t s => s.requestTile t)
  else .next s

-- At the tick ---------------------------------------------------------------------------------------------------------------------------------

/-- The park reasons that the device's condition gives a job (R121): COMMIT, THERMAL, BULK_OFF. -/
def State.condParks (s : State) (x : Job) : List Nat :=
  (if s.plan.st = .preload then [Park.commit] else [])
    ++ (if 1 ≤ s.thm.level ∨ s.thm.stepActive then [Park.thermal] else [])
    ++ (if x.service = 0 ∧ s.inForce Reg.TIL_CTL 0 1 = 0 then [Park.bulkOff] else [])

/-- Park reasons of every job at the tick (R121, R122, R274). -/
def State.parkTick (s : State) : State :=
  s.each s.liveJobs fun j s =>
    let s := s.updJob j fun x =>
      let x := match x.fault with
        | some f => if f.clear then { x with fault := none, parks := x.parks.filter (· ≠ Park.fault) } else x
        | none => x
      { x with parks := x.parks.filter (fun p => p = Park.order ∨ p = Park.fault) ++ s.condParks x }
    s.settleParks j

/-- The numbers of ended jobs whose end has been read are free (R121). -/
def State.freeNumbers (s : State) : State :=
  { s with til := { s.til with jobs := tmap (fun _ => {}) (fun _ x =>
      if x.state = .ended ∧ x.endRead ∧ x.restart.isNone then {} else x) s.til.jobs } }

/-- Jobs at the tick: ends, restarts of the ends of the tick before, control, parks, and the frame's schedule; a job whose admission
ends here is READY, and runs in a later frame (R120). -/
def State.jobTick (s : State) : State :=
  let s := s.endJobs
  let s := s.each (tkeys (fun x => match x.restart with | some t => decide (t ≤ s.nextTick) | none => false) s.til.jobs)
    fun j s => s.restartJob j
  let fresh := tkeys (fun x => x.admitted && decide (x.state = .admitting)) s.til.jobs
  let s := s.takeJobCtl.controlOrders.parkTick.schedule
  (s.each (fresh.filter fun j => (s.job j).state = .admitting) fun j s =>
    ((s.updJob j fun x => { x with admitted := false }).setJob j .ready).settleParks j).freeNumbers

end Sys2Proof.Machine
end

