-- ==== Sys2Proof/Machine/Tables.lean ====
section
/-! DEFINITION. Table banks: claims, READY, swaps and reverts, the staging window, and the services that rebuild tables (R81 to R87,
R175 to R180). -/
namespace Sys2Proof.Machine

-- Operations of PLN_TBL_CTL (R82 to R85, R90) --------------------------------------------------------------------------------------

/-- An operation written to `PLN_TBL_CTL`: 1 CLAIM, 2 READY, 3 RELEASE, 4 SWAP, 5 REVERT. -/
def State.tableOp (s : State) (op : Nat) (copy : Bool) : State := { s with ops := { s.ops with table := some (op, copy) } }

/-- TABLE_CLAIM (R82). -/
def execTableClaim (copyActive : Bool) (s : State) : Host.Outcome State Fault Refusal := .next (s.tableOp 1 copyActive)
/-- TABLE_READY (R83). -/
def execTableReady (s : State) : Host.Outcome State Fault Refusal := .next (s.tableOp 2 false)
/-- TABLE_RELEASE (R82). -/
def execTableRelease (s : State) : Host.Outcome State Fault Refusal := .next (s.tableOp 3 false)
/-- TABLE_SWAP (R84). -/
def execTableSwap (s : State) : Host.Outcome State Fault Refusal := .next (s.tableOp 4 false)
/-- TABLE_REVERT (R85). -/
def execTableRevert (s : State) : Host.Outcome State Fault Refusal := .next (s.tableOp 5 false)

/-- Results of `PLN_TBL_STATUS` (R90). -/
def TblResult.busy : Nat := 1
def TblResult.notReady : Nat := 2
def TblResult.badCrc : Nat := 3
def TblResult.notWriter : Nat := 4
def TblResult.noTable : Nat := 5
def TblResult.noRevert : Nat := 6
def TblResult.stale : Nat := 7

/-- The bank is claimed by this writer (R82): WRITING or READY. -/
def PlanTable.heldBy (t : PlanTable) (writer job : Nat) : Bool :=
  decide (t.writer = writer) && decide (t.writerJob = job) && (decide (t.inactive = 2) || decide (t.inactive = 3))

/-- Claim the inactive bank for a writer: WRITING (R82). -/
def PlanTable.claim (t : PlanTable) (writer job : Nat) (copy : Bool) : PlanTable :=
  { t with inactive := 2, writer := writer, writerJob := job, copying := copy, result := 0 }

/-- Give up a claim (R82): the bank becomes EMPTY, also one that was CLEAN before the claim, whose contents may have been written over
(DESIGN CHOICE, log 49). -/
def PlanTable.release (t : PlanTable) : PlanTable :=
  { t with inactive := 0, writer := 0, writerJob := 0, copying := false, other := [] }

/-- The bank may be claimed: EMPTY or CLEAN. -/
def PlanTable.free (t : PlanTable) : Bool := decide (t.inactive ≤ 1)

/-- CRC-32C of the whole inactive bank (R83). -/
def PlanTable.otherCrc (t : PlanTable) : Nat := crcSparse (tget (fun _ => 0) t.other) 0 t.desc.bankBytes

/-- CLAIM, READY and RELEASE of the Owner seat on a table (R82, R83). READY is accepted while the copy of COPY_ACTIVE still runs, and ends
it (DESIGN CHOICE, log 49). -/
def PlanTable.ownerOp (op : Nat) (copy : Bool) (crc : Nat) (t : PlanTable) : PlanTable :=
  match op with
  | 1 =>
    if t.desc.flags / 4 % 2 = 0 then { t with result := TblResult.notWriter }
    else if t.free then t.claim 1 0 copy else { t with result := TblResult.busy }
  | 2 =>
    if ¬ (t.heldBy 1 0 ∧ t.inactive = 2) then { t with result := TblResult.notWriter }
    else if t.otherCrc = crc then { t with inactive := 3, copying := false, result := 0 } else { t with result := TblResult.badCrc }
  | 3 => if t.heldBy 1 0 then { t.release with result := 0 } else { t with result := TblResult.notWriter }
  | _ => t

/-- SWAP and REVERT taken up at tick `k` with the written swap tick (R84, R85). -/
def PlanTable.swapOp (revert : Bool) (k want seq : Nat) (t : PlanTable) : PlanTable :=
  if revert && decide (t.inactive ≠ 1) then { t with result := TblResult.noRevert }
  else if !revert && decide (t.inactive ≠ 3) then { t with result := TblResult.notReady }
  else if want ≠ 0 ∧ want < k + 1 then { t with result := TblResult.stale }
  else { t with inactive := 4, swapAt := some (if want = 0 then k + 1 else want, seq), result := 0 }

/-- The operation of `PLN_TBL_CTL` at its tick. -/
def State.takeTable (s : State) : State :=
  match s.ops.table with
  | some (op, copy) =>
    let s := { s with ops := { s.ops with table := none } }
    let id := s.field Reg.PLN_TBL_SEL 0 16
    if op = 0 ∨ 5 < op then s
    else if (s.table? id).isNone then { s with plan := { s.plan with noTable := some id } }
    else
      let s := { s with plan := { s.plan with noTable := none } }
      if op ≤ 3 then s.updTable id fun t => t.ownerOp op copy (s.field Reg.PLN_TBL_CRC 0 32)
      else
        let seq := s.plan.swapSeq
        ({ s with plan := { s.plan with swapSeq := seq + 1 } }).updTable id
          fun t => t.swapOp (decide (op = 5)) s.nextTick (s.reg Reg.PLN_TBL_SWAP_TICK).toNat seq
  | none => s

/-- COPY_ACTIVE_DONE (R82): the committed bank has been copied into the claimed bank. -/
def execCopyActiveDone (table : BitVec 16) (s : State) : Host.Outcome State Fault Refusal :=
  .next (s.updTable table.toNat fun t => if t.copying then { t with other := t.bank, copying := false } else t)

-- Swaps (R84 to R86) --------------------------------------------------------------------------------------------------------------------

/-- Insert a due swap by its place in the order of take-up. -/
def insertSwap (e : Nat × Nat) : List (Nat × Nat) → List (Nat × Nat)
  | [] => [e]
  | h :: t => if e.1 < h.1 then e :: h :: t else h :: insertSwap e t

/-- Swaps of the coming tick that have taken effect already: a patch's, or those of SWAP_TAKE_EFFECT before it (R86). -/
def State.swapsMade (s : State) : Nat := (s.plan.tables.filter fun p => decide (p.2.lastTick = s.nextTick) && decide (p.2.gen ≠ 0)).length

/-- Tables whose swap tick has come, in the order of take-up, at most 64 at one tick (R86). -/
def State.swapsDue (s : State) : List Nat :=
  let l := s.plan.tables.filterMap fun p => match p.2.swapAt with
    | some (t, seq) => if t ≤ s.nextTick then some (seq, p.1) else none
    | none => none
  ((l.foldl (fun acc e => insertSwap e acc) []).take (64 - s.swapsMade)).map (·.2)

/-- The banks exchange places (R84). -/
def PlanTable.swap (k : Nat) (t : PlanTable) : PlanTable :=
  { t with active := 1 - t.active, bank := t.other, other := t.bank, loaded := true, inactive := if t.loaded then 1 else 0
           writer := 0, writerJob := 0, copying := false, swapAt := none, gen := (t.gen + 1) % 2 ^ 32, lastTick := k }

/-- A swap of FALLBACK ends the fired state of its entries (R250). -/
def State.rearmAll (s : State) : State :=
  { s with mov := { s.mov with recheck := true
                               reflexes := tmap (fun _ => {}) (fun _ r => { r with fired := false, low := 0 }) s.mov.reflexes } }

/-- A swap of ATLAS restarts the planning in progress on the new bank (R231), which PLANNING_DONE then reads. -/
def State.restartPlanning (s : State) : State :=
  if s.mov.moves.any fun m => m.2.planning then (s.count Reg.MOV_PLAN_STAT 0 32 1).raise Src.mov 6 else s

/-- The swaps of the coming tick take effect together (R86). -/
def State.swapTakeEffect (s : State) : State :=
  s.each s.swapsDue fun id s =>
    let kind := match s.table? id with | some t => t.desc.kind | none => 0
    let s := (s.updTable id (PlanTable.swap s.nextTick)).raise Src.pln 4 id
    let s := if kind = 4 then { s.restartPlanning with mov := { s.restartPlanning.mov with recheck := true } } else s
    if kind = 6 then s.rearmAll else s

/-- SWAP_TAKE_EFFECT (R86). -/
def execSwapTakeEffect (s : State) : Host.Outcome State Fault Refusal := .next s.swapTakeEffect

-- The staging window (R83) ------------------------------------------------------------------------------------------------------------------

/-- The Owner seat holds the claim on the bank, until it releases it or the bank is swapped (R82, R83). -/
def PlanTable.ownerHolds (t : PlanTable) : Bool := decide (t.writer = 1) && decide (2 ≤ t.inactive)

/-- Bank offset of an access of the staging window. A `PLN_TBL_WIN` that is no multiple of 4,096 stays as written and is rounded down here
(DESIGN CHOICE, log 49). -/
def State.windowAt (s : State) (offset : Nat) : Nat := s.field Reg.PLN_TBL_WIN 0 32 / 4096 * 4096 + offset

/-- TABLE_WINDOW_ACCESS (R8, R83): a read, or a write of `data`; while the Owner seat does not hold the claim the range reads 0
and ignores writes. -/
def execTableWindowAccess (offset : BitVec 21) (w : Width) (data : Option Word) (s : State) : Host.Outcome State Fault Refusal :=
  let o := offset.toNat
  let n := if w = .full then 8 else 4
  let id := s.field Reg.PLN_TBL_SEL 0 16
  if o % n ≠ 0 then .fault .unaligned
  else
    match s.table? id with
    | some t =>
      let a := s.windowAt o
      if t.ownerHolds ∧ a + n ≤ t.desc.bankBytes then
        match data with
        | some v => .next (s.updTable id fun t => { t with other := tsetList (fun _ => 0) t.other a (leBytes n v.toNat) })
        | none => .next { s with readData := BitVec.ofNat 64 (bankNat t.other a n) }
      else if data.isSome then .next s else .next { s with readData := 0 }
    | none => if data.isSome then .next s else .next { s with readData := 0 }

-- Claims of jobs (R82) ------------------------------------------------------------------------------------------------------------------------

/-- The job may write the table: JOB_WR is set, and its record grants the table. -/
def State.jobMayWrite (s : State) (j id : Nat) : Bool :=
  (match s.table? id with | some t => decide (t.desc.flags / 8 % 2 = 1) | none => false)
    && (match (s.job j).info with | some r => r.tables.contains id | none => false)

/-- JOB_TABLE_CLAIM (R82): a claim is taken up at the next tick. -/
def execJobTableClaim (job : BitVec 8) (table : BitVec 16) (op : TableOp) (s : State) : Host.Outcome State Fault Refusal :=
  let j := job.toNat
  let id := table.toNat
  if !(s.job j).live || !s.jobMayWrite j id then .next s
  else match op with
  | .claim copy => .next { s with plan := { s.plan with jobClaims := s.plan.jobClaims ++ [(j, id, copy)] } }
  | .ready => .next (s.updTable id fun t => if t.heldBy 2 j then { t with inactive := 3, copying := false } else t)
  | .release => .next (s.updTable id fun t => if t.heldBy 2 j then t.release else t)

/-- A parameter of a service: from its parameter table, clamped (R175). -/
def State.param (s : State) (j off n lo hi : Nat) : Nat :=
  let id := match (s.job j).info with | some r => (r.tables.head?).getD 0xFFFF | none => 0xFFFF
  match s.table? id with
  | some t => clampNat lo hi (bankNat t.bank off n)
  | none => lo

/-- The parameters of the adaptation service as its table holds them now (R175). -/
def State.readAdapt (s : State) (j : Nat) : AdaptParams :=
  { dither := s.param j 0 2 0x0010 0x0400, mirrors := s.param j 2 2 1 1024, samples := s.param j 4 4 16384 16777216
    holdout := s.param j 8 2 50 500, accept := s.param j 10 2 0 1000 }

/-- The parameters of the rebuild service as its table holds them now (R175). -/
def State.readRebuild (s : State) (j : Nat) : RebuildParams :=
  { settle := s.param j 0 4 256 65536, peakWin := s.param j 4 2 16 1024, round := s.param j 8 4 4096 (2 ^ 31)
    change := s.param j 12 2 1 256 }

/-- A service reads its parameters as it begins a claim (R175). -/
def State.readParams (s : State) (j : Nat) : State :=
  match (s.job j).service with
  | 2 => { s with est := { s.est with adapt := some (s.readAdapt j) } }
  | 3 => { s with est := { s.est with rebuild := some (s.readRebuild j) } }
  | _ => s

/-- The parameters in force; before the first claim of the service they are those its table holds (DESIGN CHOICE, log 56). -/
def State.adaptParams (s : State) (j : Nat) : AdaptParams := s.est.adapt.getD (s.readAdapt j)
def State.rebuildParams (s : State) (j : Nat) : RebuildParams := s.est.rebuild.getD (s.readRebuild j)

/-- One claim of a job at the tick: the first one taken up wins, and a later one gets BANK_BUSY (R82). -/
def State.takeClaim (s : State) (c : Nat × Nat × Bool) : State :=
  match s.table? c.2.1 with
  | some t =>
    if t.free && (s.job c.1).live then
      ((s.updTable c.2.1 fun t => t.claim 2 c.1 c.2.2).updJob c.1 fun x => { x with tblResult := 0 }).readParams c.1
    else
      let s := s.updJob c.1 fun x => { x with tblResult := TblResult.busy }
      if s.est.adaptJob = some c.1 then { s with est := { s.est with adaptJob := none, training := false } } else s
  | none => s

/-- Claims of jobs at the tick, in ascending job number (R82). -/
def State.takeClaims (s : State) : State :=
  let cs := (List.range 256).flatMap fun j => s.plan.jobClaims.filter fun c => c.1 = j
  cs.foldl State.takeClaim { s with plan := { s.plan with jobClaims := [] } }

-- The services (R175 to R180) --------------------------------------------------------------------------------------------------------------------

/-- The table a service works on: the second of its record. -/
def State.workTable (s : State) (j : Nat) : Nat :=
  match (s.job j).info with | some r => (r.tables[1]?).getD 0xFFFF | none => 0xFFFF

/-- ADAPT_CANDIDATE (R177): `SAMPLES` samples are collected, `HOLDOUT` per mille of which are kept for evaluation, and the service claims
EST_WEIGHTS with COPY_ACTIVE. -/
def execAdaptCandidate (job : BitVec 8) (samples : BitVec 32) (s : State) : Host.Outcome State Fault Refusal :=
  let j := job.toNat
  let x := s.job j
  let s := { s with est := { s.est with samples := samples.toNat } }
  if x.live && decide (x.service = 2) && decide (s.twn.role ≠ .standby) && s.est.adaptJob.isNone && decide ((s.adaptParams j).samples ≤ samples.toNat) then
    .next { s with est := { s.est with
                     adaptJob := some j, training := true, heldOut := samples.toNat * (s.adaptParams j).holdout / 1000 }
                   plan := { s.plan with jobClaims := s.plan.jobClaims ++ [(j, s.workTable j, true)] } }
  else .next s

/-- The value of a finite FP32 number in units of 2^-149. -/
def f32Exact (w : BitVec 32) : Nat := if f32Exp w = 0 then f32Frac w else (2 ^ 23 + f32Frac w) * 2 ^ (f32Exp w - 1)

/-- The candidate lowers the residual by at least `accept` per mille (R177). -/
def accepts (accept : Nat) (committed candidate : BitVec 32) : Bool :=
  !f32NonFinite committed && !f32NonFinite candidate && !f32Neg committed && !f32Neg candidate
    && decide (1000 * f32Exact candidate + accept * f32Exact committed ≤ 1000 * f32Exact committed)

/-- ADAPT_DONE (R177): the residuals of the committed bank and of the candidate. -/
def execAdaptDone (committed candidate : BitVec 32) (s : State) : Host.Outcome State Fault Refusal :=
  match s.est.adaptJob with
  | some j =>
    let id := s.workTable j
    let held := match s.table? id with | some t => t.heldBy 2 j && !t.copying | none => false
    if s.est.training && held then
      let ok := accepts (s.adaptParams j).accept committed candidate
      let s := s.updTable id fun t => if ok then { t with inactive := 3 } else t.release
      let s := { s with est := { s.est with adaptJob := none, training := false, samples := 0, heldOut := 0 } }
      .next ((s.raise Src.pln 7 id (bit ok)).record 0x0008 Sev.info 0
        ([BitVec.ofNat 8 (bit ok), 0, 0, 0] ++ leBytes 4 committed.toNat ++ leBytes 4 candidate.toNat))
    else .next s
  | none => .next s

/-- The four averages differ from an entry by at least `change` (R180). -/
def moved (change : Nat) (b : List (Nat × Byte)) (o : Nat) (v : Int × Int × Int × Int) : Bool :=
  let far (k : Nat) (x : Int) := decide ((change : Int) ≤ ((x - signed 16 (bankNat b (o + k) 2)).natAbs : Int))
  far 0 v.1 || far 2 v.2.1 || far 4 v.2.2.1 || far 6 v.2.2.2

/-- Rewrite one entry of an atlas bank (R178): `A_X` is never −1.0. -/
def putEntry (b : List (Nat × Byte)) (o : Nat) (v : Int × Int × Int × Int) : List (Nat × Byte) :=
  tsetList (fun _ => 0) b o (leBytes 2 (twos 16 (clampInt (-32767) 32767 v.1)) ++ leBytes 2 (twos 16 (sat15 v.2.1))
    ++ leBytes 2 (twos 16 (sat15 v.2.2.1)) ++ leBytes 2 (twos 16 (sat15 v.2.2.2)))

/-- A path in service from input to output port, with all four loops in HOLD (R180). -/
def State.measurable (s : State) (e : Nat) : Bool :=
  let i := e / 4096
  let o := e % 4096
  decide (e < 16777216) && decide ((s.service i).out = o)
    && [2 * i, 2 * i + 1, 2 * (4096 + o), 2 * (4096 + o) + 1].all fun l => (s.loop l).cls = .hold

/-- `POWER` lies more than `w`/256 dB below `ref`: 2,560·log10(ref / power) > w, exactly. -/
def belowBy (ref power w : Nat) : Bool := decide (10 ^ w * power ^ 2560 < ref ^ 2560)

/-- Atlas entry of a path (R178). -/
def atlasEntry (inp out : Nat) : Nat := 4096 * inp + out

/-- The frame that ends measures a path in service (R180): all four loops in HOLD, both estimates VALID, and its reading within
`PEAK_WIN` of the best one since the path entered service. -/
def State.settlesNow (s : State) (win : Nat) (p : Nat × Service) : Bool :=
  let r := tget (fun _ => ({} : TapReading)) s.mov.tapNow p.2.out
  let best := max (p.2.refPower.getD 0) r.power
  s.measurable (atlasEntry p.1 p.2.out) && decide (r.flags % 2 = 1) && !belowBy best r.power win
    && [2 * p.1, 2 * (4096 + p.2.out)].all fun l => match (s.loop l).record with | some e => decide (e.flags % 2 = 1) | none => false

/-- The four angles that the frame's records give a path. -/
def State.pathAngles (s : State) (p : Nat × Service) : List Int :=
  [p.1, 4096 + p.2.out].flatMap fun m => match (s.loop (2 * m)).record with | some e => [e.thetaX, e.thetaY] | none => [0, 0]

/-- One more frame of a path's averages, up to `SETTLE_FRAMES`. -/
def Settle.add (n : Nat) (a : List Int) (x : Settle) : Settle :=
  if n ≤ x.frames then x
  else { frames := x.frames + 1, sums := if x.sums.isEmpty then a else List.zipWith (· + ·) x.sums a }

/-- The frame that ends in a rebuild round: a path that it does not measure begins anew, unless its averages are complete (R180, log
56). -/
def State.settleTick (s : State) (j : Nat) : State :=
  let q := s.rebuildParams j
  let old (e : Nat) : Settle := tget (fun _ => ({} : Settle)) s.est.settles e
  let full := s.est.settles.filter fun x => decide (q.settle ≤ x.2.frames)
  let l := s.mov.service.filterMap fun p =>
    let e := atlasEntry p.1 p.2.out
    if decide ((old e).frames < q.settle) && s.settlesNow q.peakWin p then some (e, (old e).add q.settle (s.pathAngles p)) else none
  { s with est := { s.est with settles := full ++ l } }

/-- Averages that the service reports for an entry are those of the frames measured, to less than one LSB: the spec states no rounding
(R180, log 56). -/
def State.averaged (s : State) (n : Nat) (a : Nat × Int × Int × Int × Int) : Bool :=
  let x := tget (fun _ => ({} : Settle)) s.est.settles a.1
  decide (n ≤ x.frames) && decide (0 < x.frames)
    && (List.zip [a.2.1, a.2.2.1, a.2.2.2.1, a.2.2.2.2] x.sums).all fun v => decide ((v.1 * x.frames - v.2).natAbs < x.frames)

/-- REBUILD_ROUND_END (R180): the measured averages by atlas entry; the round does not end before its COPY_ACTIVE. -/
def execRebuildRoundEnd (job : BitVec 8) (averages : List (Nat × Int × Int × Int × Int)) (s : State) :
    Host.Outcome State Fault Refusal :=
  let j := job.toNat
  let id := s.workTable j
  match s.est.round, s.table? id with
  | some r, some t =>
    if t.heldBy 2 j && !t.copying && decide (r + (s.rebuildParams j).round ≤ s.hrt.frame + 1) then
      let change := (s.rebuildParams j).change
      let new := averages.filter fun a => s.averaged (s.rebuildParams j).settle a && moved change t.other (8 * a.1) a.2
      let n := new.length
      let s := s.updTable id fun t =>
        if n = 0 then t.release else { t with inactive := 3, other := new.foldl (fun b a => putEntry b (8 * a.1) a.2) t.other }
      .next (({ s with est := { s.est with round := none, written := n, settles := [] } }).raise Src.pln 8 id n)
    else .next s
  | _, _ => .next s

/-- The rebuild service that runs on this unit (R180, R382). -/
def State.rebuilder (s : State) : Option Nat :=
  (s.liveJobs.filter fun j => decide ((s.job j).service = 3) && decide ((s.job j).state ≠ .admitting) && decide (s.twn.role ≠ .standby)).head?

/-- Between its rounds the rebuild service claims ATLAS with COPY_ACTIVE; the claim takes its place among those of the jobs (R82, R180). -/
def State.rebuildAsk (s : State) : State :=
  match s.rebuilder with
  | some j =>
    let id := s.workTable j
    if s.est.round.isNone && s.jobMayWrite j id then
      { s with plan := { s.plan with jobClaims := s.plan.jobClaims ++ [(j, id, true)] } }
    else s
  | none => s

/-- A rebuild round begins with the claim of its service, and ends without a result where the claim is lost (R180). -/
def State.rebuildTick (s : State) : State :=
  match s.rebuilder with
  | some j =>
    match s.est.round, s.table? (s.workTable j) with
    | none, some t =>
      if t.heldBy 2 j && decide (t.inactive = 2) then
        { s with est := { s.est with round := some s.nextTick, written := 0, settles := [] } } else s
    | some _, some t => if t.heldBy 2 j then s.settleTick j else { s with est := { s.est with round := none } }
    | _, none => { s with est := { s.est with round := none } }
  | none => if s.est.round.isNone then s else { s with est := { s.est with round := none } }

/-- A mirror that the adaptation service may dither (R176): both loops in HOLD and not held, no path in service on it. -/
def State.mayDither (s : State) (m : Nat) : Bool :=
  [2 * m, 2 * m + 1].all (fun l => decide ((s.loop l).cls = .hold) && !(s.loop l).held)
    && !(s.mov.service.any fun p => decide (p.1 = m) || decide (4096 + p.2.out = m))

/-- The parameters of a service whose job runs no more are forgotten. -/
def State.dropParams (s : State) : State :=
  let on (k : Nat) : Bool := s.liveJobs.any fun j => (s.job j).service = k
  let s := if s.est.adapt.isSome ∧ on 2 = false then { s with est := { s.est with adapt := none } } else s
  if s.est.rebuild.isSome ∧ on 3 = false then { s with est := { s.est with rebuild := none } } else s

/-- Dither at the tick (R176): the lowest mirrors that may be dithered; their offsets are free values within `DITHER`. -/
def State.ditherTick (s : State) : State :=
  match (s.liveJobs.filter fun j => decide ((s.job j).service = 2) && decide ((s.job j).state = .running)).head? with
  | some j =>
    let d : Int := (s.adaptParams j).dither
    let ms := (((s.loops.map fun p => p.1 / 2).eraseDups).filter s.mayDither).take (s.adaptParams j).mirrors
    let l := ms.zipIdx.map fun e =>
      (e.1, clampInt (-d) d (Config.freeInt (s.free + 2 * e.2)), clampInt (-d) d (Config.freeInt (s.free + 2 * e.2 + 1)))
    { s with est := { s.est with dithered := l }, free := s.free + 2 * ms.length }
  | none => if s.est.dithered.isEmpty then s else { s with est := { s.est with dithered := [] } }

/-- Tables at the tick: the Owner's operation, then the jobs' claims (R82), and the rounds of the rebuild service. -/
def State.tableTick (s : State) : State := s.takeTable.rebuildAsk.takeClaims.rebuildTick.dropParams.ditherTick

end Sys2Proof.Machine
end

