-- ==== Sys2Proof/Machine/Planner.lean ====
section
/-! DEFINITION. Move orders and planning: connections, refusals, trajectories, the limits of slewing and the sweep check (R224 to
R237, R243 to R245). -/
namespace Sys2Proof.Machine

-- Values --------------------------------------------------------------------------------------------------------------------------

/-- DISCONNECT (R226). -/
def disconnect : Nat := 0xFFFF

/-- The value of a move state (R228). -/
def MoveState.code : MoveState → Nat
  | .openS => 1
  | .planned => 2
  | .moving => 3
  | .settling => 4
  | .done => 5
  | .aborted => 6
  | .failed => 7

/-- Reasons of a path (R252). -/
def PathReason.atlasUnknown : Nat := 1
def PathReason.noRoute : Nat := 2
def PathReason.deadline : Nat := 3
def PathReason.loopClass : Nat := 4
def PathReason.freeze : Nat := 5
def PathReason.settleTimeout : Nat := 6
def PathReason.dark : Nat := 7
def PathReason.abortOrder : Nat := 8
def PathReason.abortDeadline : Nat := 9
def PathReason.commit : Nat := 10
def PathReason.replaced : Nat := 11
def PathReason.busy : Nat := 12
def PathReason.occupied : Nat := 13

/-- Events of move notices (R253). -/
def MoveEvent.accepted : Nat := 1
def MoveEvent.refused : Nat := 2
def MoveEvent.planned : Nat := 3
def MoveEvent.moving : Nat := 4
def MoveEvent.settling : Nat := 5
def MoveEvent.deadlineMissed : Nat := 9
def MoveEvent.abortResult : Nat := 10
def MoveEvent.pathLoss : Nat := 11
def MoveEvent.reflex : Nat := 12

-- Paths and connections (R224, R225) ------------------------------------------------------------------------------------------------

/-- Paths in service, input and output port. -/
def State.inService (s : State) : List (Nat × Nat) := s.mov.service.map fun p => (p.1, p.2.out)

/-- Paths in service that connections remove (R225). -/
def State.removedBy (s : State) (conns : List (Nat × Nat)) : List (Nat × Nat) :=
  s.inService.filter fun p => !conns.contains p &&
    conns.any fun c => decide (c.1 = p.1) || (decide (c.2 ≠ disconnect) && decide (c.2 = p.2))

/-- Connections that create a path not yet in service (R225). -/
def State.creates (s : State) (conns : List (Nat × Nat)) : List (Nat × Nat) :=
  conns.filter fun c => decide (c.2 ≠ disconnect) && decide ((s.service c.1).out ≠ c.2)

/-- The two mirrors of a path (R224). -/
def pathMirrors (p : Nat × Nat) : List Nat := [p.1, 4096 + p.2]

/-- Mirrors that lose their path and move to `PARK` (R225). -/
def State.parks (s : State) (conns : List (Nat × Nat)) : List Nat :=
  let named := (conns.filter fun c => c.2 ≠ disconnect).flatMap pathMirrors
  (((s.removedBy conns).flatMap pathMirrors).filter fun m => !named.contains m).eraseDups

/-- Mirrors that connections move. -/
def State.moves (s : State) (conns : List (Nat × Nat)) : List Nat :=
  (s.creates conns).flatMap pathMirrors ++ s.parks conns

/-- The two loops of a mirror (R181). -/
def mirrorLoops (m : Nat) : List Nat := [2 * m, 2 * m + 1]

/-- The target angles of a path in the committed ATLAS bank: `A_X`, `A_Y`, `B_X`, `B_Y`; none where UNKNOWN or EMPTY (R178, R231). -/
def State.atlas (s : State) (i j : Nat) : Option (Int × Int × Int × Int) :=
  match s.tableOfKind 4 with
  | some t =>
    let o := 8 * (4096 * i + j)
    let v (k : Nat) := signed 16 (bankNat t.bank (o + k) 2)
    if t.loaded && decide (v 0 ≠ -32768) then some (v 0, v 2, v 4, v 6) else none
  | none => none

-- Notices (R253) --------------------------------------------------------------------------------------------------------------------------

/-- Paths of a move in a state: 1 ready, 2 failed, 3 aborted. -/
def Move.count (m : Move) (st : Nat) : Nat := (m.paths.filter fun p => p.state = st).length

/-- The 32-byte body of a move notice (R253). -/
def Move.noticeBody (m : Move) (event reason result inp out tick : Nat) : List Byte :=
  leBytes 4 m.id ++ leBytes 4 m.tag
    ++ [BitVec.ofNat 8 event, BitVec.ofNat 8 m.state.code, BitVec.ofNat 8 reason, BitVec.ofNat 8 result]
    ++ leBytes 2 inp ++ leBytes 2 out ++ leBytes 2 (m.count 1) ++ leBytes 2 (m.count 2) ++ leBytes 2 (m.count 3)
    ++ leBytes 2 m.paths.length ++ leBytes 8 tick

/-- Ports that a move touches, by side and number. -/
def Move.ports (m : Move) : List (Nat × Nat) :=
  m.conns.flatMap fun c => (0, c.1) :: (if c.2 = disconnect then [] else [(1, c.2)])

/-- Seats of a move's notices (R253): reflex moves go to Operators with feature 6 whose grant holds a port. -/
def State.moveSeats (s : State) (m : Move) : List Nat :=
  if m.origin = 0 then (if m.gone then [0] else [0, m.seat].eraseDups)
  else (s.ownersOf m.ports).filter fun i => decide (i = 0) || decide ((s.seat i).agreed / 64 % 2 = 1)

/-- Raise a move notice; a unit without authority reports no moves (R397) but answers its own orders. -/
def State.moveNotice (s : State) (m : Move) (event reason result inp out : Nat) (tick : Nat := s.nextTick) : State :=
  if s.twn.role.holds || decide (event = 2) || decide (event = 10) then
    s.raiseRecord (s.moveSeats m) Src.mov event (m.noticeBody event reason result inp out tick)
  else s

/-- Raise a bit of `MOV_EVT` on a unit that reports. -/
def State.moveEvt (s : State) (b obj arg : Nat) : State := if s.twn.role.holds then s.raise Src.mov b obj arg else s

/-- Notice of a move's own state. -/
def State.stateNotice (s : State) (id event : Nat) (tick : Nat := s.nextTick) : State :=
  match s.move? id with | some m => s.moveNotice m event m.reason 0 0xFFFF 0xFFFF tick | none => s

-- Records of paths (R229, R252) -----------------------------------------------------------------------------------------------------------

/-- Change the record of a port, while the move is the last that named it. -/
def State.recPath (s : State) (id inp : Nat) (st : PathState) (reason : Nat) : State :=
  if (s.path inp).moveId = id then s.updPath inp fun r => { r with state := st, reason := reason } else s

/-- A path of a move is ready, failed or aborted: 1, 2, 3. The first reason is the move's (R254). -/
def State.closePath (s : State) (id inp code : Nat) (st : PathState) (reason : Nat) : State :=
  (s.updMove id fun m => { m with
      paths := m.paths.map fun p => if p.inp = inp then { p with state := code } else p
      reason := if m.reason = 0 then reason else m.reason }).recPath id inp st reason

/-- Open paths that are not in service already: a connection whose path is in service leaves it untouched (R225). -/
def State.openNew (s : State) (m : Move) : List MovePath := m.openPaths.filter fun p => (s.service p.inp).out ≠ p.out

/-- The state in which a move ends (R228). -/
def Move.outcome (m : Move) : MoveState :=
  if m.paths.any fun p => p.state = 2 then .failed
  else if (m.paths.any fun p => p.state = 3) || (m.mirrors.any fun p => p.parked && p.abortedM) then .aborted
  else .done

/-- A move ends (R228). One that is aborted before its start moves no mirror (R246); the legs of a move that FREEZE fails before
its start stay scheduled (R239). -/
def State.endMove (s : State) (id : Nat) (st : MoveState) (reason : Nat) (tick : Nat := s.nextTick) : State :=
  let s := s.updMove id fun m => { m with
    state := st, tEnd := tick, planning := false, reason := if m.reason = 0 then reason else m.reason
    mirrors := m.mirrors.map fun p => if m.tStart = 0 ∧ st = .aborted then { p with abortedM := true } else p }
  (s.stateNotice id (match st with | .done => 6 | .failed => 7 | _ => 8) tick).moveEvt 0 id 0

/-- A move fails in planning, and none of its mirrors moves (R230, R231, R235, R236). -/
def State.failMove (s : State) (id reason : Nat) : State :=
  match s.move? id with
  | some m =>
    let s := s.each ((s.openNew m).map (·.inp)) fun i s => s.closePath id i 2 .failed reason
    s.endMove id .failed reason
  | none => s

-- Taking a MOVE (R226, R227) ------------------------------------------------------------------------------------------------------------------

/-- The first tick, from tick `k` with the device time of the state, whose device time is at or after `ns` (R40). -/
def State.tickFrom (s : State) (k ns : Nat) : Nat :=
  let want := ns * 2 ^ 48
  let per := max 1 (s.timeAfter s.hrt.cfg.period - s.hrt.time)
  if want ≤ s.hrt.time then k else k + (want - s.hrt.time + per - 1) / per

/-- The first tick, from that of the current frame, whose device time is at or after `ns` (R40). -/
def State.tickOfNs (s : State) (ns : Nat) : Nat := s.tickFrom s.hrt.frame ns

/-- The connection list as copied from the Hall. -/
def State.moveList (s : State) (o : TakenOrder) : List (Nat × Nat) :=
  (List.range (o.num 8 2)).map fun i => (s.hallNat o.seat (o.num 0 8 + 4 * i) 2, s.hallNat o.seat (o.num 0 8 + 4 * i + 2) 2)

/-- `COUNT`, `LIST_OFF` and the reserved fields of a MOVE body are in range (R226, R227). -/
def TakenOrder.moveFormat (o : TakenOrder) : Bool :=
  decide (1 ≤ o.num 8 2) && decide (o.num 8 2 ≤ 4096) && decide (0x1000000 ≤ o.num 0 8) && decide (o.num 0 8 % 64 = 0)
    && decide (o.num 0 8 + 4 * o.num 8 2 ≤ hallSize) && decide (o.num 10 2 < 16) && decide (o.num 0x24 28 = 0)

/-- No port appears in more than one entry (R227). -/
def noRepeats (conns : List (Nat × Nat)) : Bool :=
  let outs := (conns.filter fun c => c.2 ≠ disconnect).map (·.2)
  decide ((conns.map (·.1)).eraseDups.length = conns.length) && decide (outs.eraseDups.length = outs.length)

/-- The seat's grant holds every port of the list and of the paths it removes (R227). -/
def State.grants (s : State) (seat : Nat) (conns : List (Nat × Nat)) : Bool :=
  (conns ++ s.removedBy conns).all fun c => s.granted seat 0 c.1 && (decide (c.2 = disconnect) || s.granted seat 1 c.2)

/-- Every loop of the mirrors named or parked has descriptor `CLASS` HOLD (R227). -/
def State.allHold (s : State) (conns : List (Nat × Nat)) : Bool :=
  let named := conns.flatMap fun c => c.1 :: (if c.2 = disconnect then [] else [4096 + c.2])
  (named ++ (s.removedBy conns).flatMap pathMirrors).all fun m => (mirrorLoops m).all fun l => Desc.runClass (s.loop l).desc = 3

/-- Moves that have not ended. -/
def State.openMoves (s : State) : List Move := (s.mov.moves.map (·.2)).filter fun m => !m.state.ended

/-- The result of a MOVE order taken up at tick `k`, in the order of R227; 0 accepted. -/
def State.moveCheck (s : State) (o : TakenOrder) (conns : List (Nat × Nat)) (deadline k : Nat) : Nat :=
  if s.seatRole o.seat = 0 then 1
  else if !o.moveFormat then 3
  else if crc32c (s.readBytes (hallBase o.seat + o.num 0 8) (4 * o.num 8 2)) ≠ o.num 12 4 then 6
  else if conns.any fun c => decide (4095 < c.1) || (decide (4095 < c.2) && decide (c.2 ≠ disconnect)) then 4
  else if !noRepeats conns then 5
  else if !s.grants o.seat conns then 2
  else if 64 ≤ s.openMoves.length then 7
  else if s.inForce Reg.MOV_CTL 0 1 = 0 then 8
  else if !s.allHold conns then 9
  else if deadline ≠ 0 ∧ deadline < k + 2 then 10
  else if s.twn.role = .standby ∨ s.twn.role = .withdrawn then 11
  else 0

/-- Carry out a MOVE order (R227). -/
def State.takeMove (s : State) (o : TakenOrder) : State :=
  let id := s.mov.nextId
  let s := { s with mov := { s.mov with nextId := id + 1 } }
  let ns := decide (o.num 10 2 / 8 % 2 = 1)
  let tick (off : Nat) := let v := o.num off 8; if ns && decide (v ≠ 0) then s.tickOfNs v else v
  let dev (off : Nat) : Option Nat := let v := o.num off 8; if ns && decide (v ≠ 0) then some v else none
  let conns := if o.moveFormat then s.moveList o else []
  let m : Move := { id := id, tag := o.num 0x20 4, seat := o.seat, strict := decide (o.num 10 2 % 2 = 1), blind := decide (o.num 10 2 / 2 % 2 = 1)
                    abortDl := decide (o.num 10 2 / 4 % 2 = 1), startAt := tick 0x10, deadline := tick 0x18, conns := conns
                    startNs := dev 0x10, deadlineNs := dev 0x18
                    paths := (conns.filter fun c => c.2 ≠ disconnect).map fun c => { inp := c.1, out := c.2 }
                    tTakeup := o.taken }
  let r : Nat := s.moveCheck o conns m.deadline o.taken
  if r = 0 then
    (({ s with mov := { s.mov with moves := s.mov.moves ++ [(id, m)] } }).moveNotice m MoveEvent.accepted 0 0 0xFFFF 0xFFFF o.taken).settle o 0 id
  else
    (((s.moveNotice { m with paths := [] } MoveEvent.refused 0 r 0xFFFF 0xFFFF o.taken).raise Src.mov 1 id r)).settle o r id

/-- MOVE (R227): the order in this slot, taken up at the last tick. -/
def execMove (seat : BitVec 3) (slot : BitVec 12) (s : State) : Host.Outcome State Fault Refusal :=
  match s.order? seat.toNat slot.toNat 1 with
  | some o => .next (s.takeMove o)
  | none => .next s

-- Planning begins (R230) --------------------------------------------------------------------------------------------------------------------------

/-- Mirrors of a move: those its list names, and those it moves. -/
def State.mirrorsOf (s : State) (m : Move) : List Nat :=
  (m.conns.flatMap fun c => c.1 :: (if c.2 = disconnect then [] else [4096 + c.2]))
    ++ (if m.mirrors.isEmpty then s.moves m.conns else m.mirrors.map (·.mirror))

/-- An earlier move keeps a later one from being planned: one that shares a mirror with it and has not ended (R230), or that still
holds a loop in HOLD, whose scheduled legs are still to come (R239, log 44). -/
def State.waitsFor (s : State) (m e : Move) : Bool :=
  decide (e.id < m.id) && (!e.state.ended || e.holds.any fun l => decide ((s.loop l).cls = .hold))
    && (s.mirrorsOf e).any (s.mirrorsOf m).contains

/-- The planner service can run (R230, R243, R382); it has no tile time while the supervisors restart (R451). -/
def State.plannerRuns (s : State) : Bool :=
  s.twn.role.holds && !s.upd.restart && s.liveJobs.any fun j =>
    decide ((s.job j).service = 1) && (decide ((s.job j).state = .ready) || decide ((s.job j).state = .running))

/-- The move planned next: the lowest OPEN one that shares no mirror with an earlier move that has not ended (R230). -/
def State.nextToPlan (s : State) : Option Move :=
  if s.mov.moves.any fun m => m.2.planning then none
  else
    let l := s.openMoves.filter fun m => decide (m.state = .openS) && !m.fromTwin && !((s.mov.moves.map (·.2)).any (s.waitsFor m))
    l.foldl (fun a m => match a with | none => some m | some b => if m.id < b.id then some m else some b) none

/-- Planning of a move begins (R230): it holds its loops, and a loop that is not in HOLD fails it. -/
def State.beginPlanning (s : State) (m : Move) : State :=
  let ms := s.moves m.conns
  let ls := ms.flatMap mirrorLoops
  let s := s.updMove m.id fun x => { x with
    planning := true, holds := ls, limit := clampNat 1 1024 (s.inForce Reg.MOV_SLEW_MAX 0 11)
    zone := s.inForce Reg.MOV_SWEEP_CFG 16 16 + s.inForce Reg.MOV_SWEEP_CFG 0 16 }
  let s := s.each ls fun l s => s.updLoop l fun x => { x with held := true }
  let s := { s with est := { s.est with dithered := s.est.dithered.filter fun d => !ms.contains d.1 } }
  let s := s.each (m.conns.map (·.1)) fun i s => s.updPath i fun r => { r with moveId := m.id }
  let off := (m.conns.filter fun c => decide (c.2 = disconnect)).map (·.1)
  let s := s.each off fun i s => if (s.path i).state = .failed ∨ (s.path i).state = .aborted then
    s.updPath i fun r => { r with state := .none, reason := 0, out := 0xFFFF } else s
  let s := (s.creates m.conns).foldl (fun s c => s.updPath c.1 fun _ =>
    { out := c.2, state := .planning, moveId := m.id }) s
  if ls.all fun l => (s.loop l).cls = .hold then s else s.failMove m.id PathReason.loopClass

/-- PLANNING_START (R230). -/
def execPlanningStart (s : State) : Host.Outcome State Fault Refusal :=
  if s.plannerRuns then
    match s.nextToPlan with
    | some m => .next (s.beginPlanning m)
    | none => .next s
  else .next s

-- Trajectories (R232) ---------------------------------------------------------------------------------------------------------------------------------

/-- Frames in which a limiter at rest at `x.u` reaches `c` (R193), over at most `n`. -/
def runFrames : Nat → Limiter → Int → Nat → Nat → Nat
  | 0, _, _, _, _ => 0
  | n + 1, x, c, m, a => let y := limit x c m a; if y.u = c ∧ y.v = 0 then 1 else 1 + runFrames n y c m a

/-- Frames of a run from one angle to another. -/
def legFrames (a b : Int) (rate acc : Nat) : Nat := runFrames 262144 { u := a, v := 0 } b rate acc

/-- A leading limit scaled to the other axis (R232): rounded up, at least 1, at most the axis's own limit. -/
def scaleLimit (lead own : Nat) (dOther dLead : Nat) : Nat := min own (max 1 ((lead * dOther + dLead - 1) / dLead))

/-- One leg of a mirror from `a` to `b` (R232). -/
def State.makeLeg (s : State) (m : Nat) (a b : Int × Int) : MirrorLeg :=
  let dx := s.loop (2 * m) |>.desc
  let dy := s.loop (2 * m + 1) |>.desc
  let (rx, ax, ry, ay) := (Desc.spRate dx, Desc.spAcc dx, Desc.spRate dy, Desc.spAcc dy)
  let nx := (b.1 - a.1).natAbs
  let ny := (b.2 - a.2).natAbs
  let fx := legFrames a.1 b.1 rx ax
  let fy := legFrames a.2 b.2 ry ay
  let leadX := decide (fy < fx) || (decide (fy = fx) && decide (ny ≤ nx))
  let (rx, ax, ry, ay) :=
    if leadX then (if nx = 0 then (rx, ax, ry, ay) else (rx, ax, scaleLimit rx ry ny nx, scaleLimit ax ay ny nx))
    else (if ny = 0 then (rx, ax, ry, ay) else (scaleLimit ry rx nx ny, scaleLimit ay ax nx ny, ry, ay))
  { x := b.1, y := b.2, rateX := rx, accX := ax, rateY := ry, accY := ay
    len := max (legFrames a.1 b.1 rx ax) (legFrames a.2 b.2 ry ay) }

/-- The legs through a list of waypoints. -/
def State.makeLegs (s : State) (m : Nat) (a : Int × Int) : List (Int × Int) → List MirrorLeg
  | [] => []
  | b :: t => s.makeLeg m a b :: s.makeLegs m b t

/-- Frames of a trajectory. -/
def MirrorPlan.frames (p : MirrorPlan) : Nat := (p.legs.map (·.len)).sum

/-- Where a mirror's set-points stand. -/
def State.mirrorAt (s : State) (m : Nat) : Int × Int := ((s.loop (2 * m)).setpoint, (s.loop (2 * m + 1)).setpoint)

/-- The plan of one mirror from its way (R232, R233). -/
def State.mirrorPlan (s : State) (m : Nat) (way : List (Int × Int)) (start : Nat) (parked unguarded : Bool) : MirrorPlan :=
  let a := s.mirrorAt m
  { mirror := m, start := start, legs := s.makeLegs m a way, parked := parked, unguarded := unguarded
    axisX := way.any fun p => p.1 ≠ a.1, axisY := way.any fun p => p.2 ≠ a.2, nextAt := start }

-- Slewing (R233) -----------------------------------------------------------------------------------------------------------------------------------------

/-- Axes of a mirror that slew. -/
def MirrorPlan.axes (p : MirrorPlan) : Nat := bit p.axisX + bit p.axisY

/-- Frames, from the coming one, until a stopped axis rests. -/
def restFrames (x : Loop) : Nat :=
  match x.leg with | some g => if g.stop then (x.sp.v.natAbs + g.acc - 1) / max 1 g.acc else 0 | none => 0

/-- Axes of one mirror that slew, or are to slew, on a drive porch from one frame through another. -/
structure SlewSpan where
  head   : Option Nat
  mirror : Nat
  first  : Nat
  last   : Nat
  axes   : Nat
  deriving DecidableEq, Repr

/-- The span of a mirror under its plan (R233). -/
def State.planSpan (s : State) (p : MirrorPlan) : SlewSpan :=
  { head := s.drivePorch (2 * p.mirror), mirror := p.mirror, first := p.start, last := p.start + p.frames - 1, axes := p.axes }

/-- Every axis that slews or is to slew (R233): each axis of an aborted mirror until it rests at its own stop point. -/
def State.spans (s : State) : List SlewSpan :=
  s.mov.moves.flatMap fun m => m.2.mirrors.flatMap fun p =>
    if p.arrived then []
    else if p.abortedM then
      if p.begun = 0 then [] else (mirrorLoops p.mirror).filterMap fun l =>
        let n := restFrames (s.loop l)
        if n = 0 then none else some ⟨s.drivePorch l, p.mirror, s.nextTick, s.nextTick + n - 1, 1⟩
    else [s.planSpan p]

/-- The spans of a head that take in a frame. -/
def spansIn (l : List SlewSpan) (h : Option Nat) (f : Nat) : List SlewSpan :=
  l.filter fun e => decide (e.head = h) && decide (e.first ≤ f) && decide (f ≤ e.last) && decide (e.axes ≠ 0)

/-- The limit holds in every frame (R233): the count can rise only where a mirror begins. With a limit of 1, both axes of a mirror may
slew while no other axis of the head does. -/
def withinLimit (l : List SlewSpan) (limit : Nat) : Bool :=
  l.all fun e =>
    let x := spansIn l e.head e.first
    decide ((x.map (·.axes)).sum ≤ limit) || (decide (limit = 1) && x.all fun d => decide (d.mirror = e.mirror))
      || decide (e.axes = 0)

/-- `WAVES` of a schedule (R233, R254): the largest number of ticks at which mirrors of one head begin (DEDUCED, log 44). -/
def State.wavesOf (s : State) (plans : List MirrorPlan) : Nat :=
  ((List.range 16).map fun h => (((plans.filter fun p => s.drivePorch (2 * p.mirror) = some h).map (·.start)).eraseDups).length).foldl
    max 0

-- The sweep check (R234) ---------------------------------------------------------------------------------------------------------------------------------------

/-- The segment from `a` to `b` keeps a distance of at least `r` from `c`. -/
def segClear (a b c : Int × Int) (r : Nat) : Bool :=
  let dx := b.1 - a.1
  let dy := b.2 - a.2
  let cx := c.1 - a.1
  let cy := c.2 - a.2
  let l2 := dx * dx + dy * dy
  let dot := cx * dx + cy * dy
  let r2 : Int := r * r
  if l2 = 0 ∨ dot ≤ 0 then decide (r2 ≤ cx * cx + cy * cy)
  else if l2 ≤ dot then decide (r2 ≤ (c.1 - b.1) * (c.1 - b.1) + (c.2 - b.2) * (c.2 - b.2))
  else decide (r2 * l2 ≤ (dx * cy - dy * cx) * (dx * cy - dy * cx))

/-- The zone centre of a live path in the angle space of a mirror; none where UNKNOWN (R234). -/
def State.zoneAt (s : State) (m : Nat) (p : Nat × Nat) : Option (Int × Int) :=
  if m < 4096 then (s.atlas m p.2).map fun t => (t.1, t.2.1) else (s.atlas p.1 (m - 4096)).map fun t => (t.2.2.1, t.2.2.2)

/-- No end of a live interval. -/
def never : Nat := 2 ^ 64

/-- The tick from which a path counts as live under a schedule: the frame after both of its mirrors arrive (R234). -/
def State.liveFrom (s : State) (plans : List MirrorPlan) (p : Nat × Nat) : Nat :=
  ((plans.filter fun q => (pathMirrors p).contains q.mirror && !q.arrived).map fun q => q.start + q.frames).foldl max s.nextTick

/-- Live paths with their first tick and the tick at which they leave service (R234), under every schedule and `plans`. The watched
path of a reflex move leaves service at its start (R251). -/
def State.livePaths (s : State) (plans : List MirrorPlan) (new : List (Nat × Nat)) : List ((Nat × Nat) × Nat × Nat) :=
  let all := (s.mov.moves.flatMap fun m => m.2.mirrors.filter fun p => decide (p.begun = 0) && !p.abortedM) ++ plans
  let left (p : Nat × Nat) := (s.openMoves.filter fun m => m.watched = some p && decide (m.tStart = 0)).map (·.startAt)
  let firstOf (p : Nat × Nat) :=
    (((all.filter fun q => (pathMirrors p).contains q.mirror).map (·.start)) ++ left p).min?.getD never
  let coming := s.openMoves.flatMap fun m =>
    if m.mirrors.isEmpty then [] else (s.openNew m).map fun p => ((p.inp, p.out), s.liveFrom m.mirrors (p.inp, p.out), never)
  (s.inService.map fun p => (p, 0, firstOf p)) ++ coming ++ new.map fun p => (p, s.liveFrom plans p, never)

/-- Every leg of a mirror is clear of the zones that are live during it (R234). -/
def State.routeClear (s : State) (live : List ((Nat × Nat) × Nat × Nat)) (zone m : Nat) : Nat → Int × Int → List MirrorLeg → Bool
  | _, _, [] => true
  | t, a, g :: gs =>
    (live.all fun z => !(decide (z.2.1 < t + g.len) && decide (t < z.2.2)) ||
      match s.zoneAt m z.1 with | some c => segClear a (g.x, g.y) c zone | none => false)
      && s.routeClear live zone m (t + g.len) (g.x, g.y) gs

-- Planning ends (R231, R235, R236) --------------------------------------------------------------------------------------------------------------------------------

/-- The target of a mirror of a move: that of its path, or its `PARK` values. -/
def State.targetOf (s : State) (m : Move) (x : Nat) : Option (Int × Int) :=
  match m.openPaths.find? fun p => decide (p.inp = x) || decide (4096 + p.out = x) with
  | some p => (s.atlas p.inp p.out).map fun t => if p.inp = x then (t.1, t.2.1) else (t.2.2.1, t.2.2.2)
  | none => some (Desc.park (s.loop (2 * x)).desc, Desc.park (s.loop (2 * x + 1)).desc)

/-- The plan that a route gives a mirror: up to two waypoints and its target; an unguarded mirror, one of `loose`, takes one straight
leg. -/
def State.routePlan (s : State) (m : Move) (start : Nat) (routes : List Route) (loose parked : List Nat) (x : Nat) :
    Option MirrorPlan :=
  match routes.find? fun r => r.mirror.toNat = x, s.targetOf m x with
  | some r, some t =>
    let mid := if loose.contains x then [] else r.way.dropLast.take 2
    some (s.mirrorPlan x (mid.map (fun p => (sat15 p.1, sat15 p.2)) ++ [t]) (start + r.delay) (parked.contains x) (loose.contains x))
  | _, _ => none

/-- The straight leg of a mirror to its target is not clear, so that the planner may call the mirror unguarded (R235, log 44). -/
def State.straightBlocked (s : State) (m : Move) (plans : List MirrorPlan) (start x : Nat) : Bool :=
  match s.targetOf m x with
  | some t =>
    let a := s.mirrorAt x
    !s.routeClear (s.livePaths plans ((s.openNew m).map fun p => (p.inp, p.out))) m.zone x start a [s.makeLeg x a t]
  | none => true

/-- What the planner may answer (R233 to R235): every guarded route is clear, an unguarded mirror has no clear straight leg, and the
slewing limit holds. -/
def State.scheduleOk (s : State) (m : Move) (plans : List MirrorPlan) : Bool :=
  let live := s.livePaths plans ((s.openNew m).map fun p => (p.inp, p.out))
  withinLimit (s.spans ++ plans.map s.planSpan) m.limit
    && plans.all fun p => if p.unguarded then s.straightBlocked m plans p.start p.mirror
      else s.routeClear live m.zone p.mirror p.start (s.mirrorAt p.mirror) p.legs

-- Schedule streams (R237, R336, R399) -------------------------------------------------------------------------------------------------------

/-- Send the schedule of a move to the twin (R237). -/
def State.sendSched (s : State) (id : Nat) : State :=
  match s.move? id with
  | some m => (m.schedParts s.hrt.frame).foldl (fun s p => State.sendAll s.landing.toList prioBulk (.sched p) s) s
  | none => s

/-- The move is PLANNED (R236, R237). -/
def State.setPlanned (s : State) (m : Move) (plans : List MirrorPlan) (start last : Nat) : State :=
  let k := s.nextTick
  let same := m.openPaths.filter fun p => (s.service p.inp).out = p.out
  let s := s.updMove m.id fun x => { x with
    state := .planned, planning := false, mirrors := plans, tPlanned := k, startAt := start, endTick := last
    lmax := (plans.map MirrorPlan.frames).foldl max 0, waves := min 255 (s.wavesOf plans)
    paths := x.paths.map fun p => if same.contains p then { p with state := 1 } else p }
  let s := m.openPaths.foldl (fun s p =>
    if same.contains p then s
    else
      let ung := plans.any fun q => q.unguarded && (pathMirrors (p.inp, p.out)).contains q.mirror
      let ts := match s.atlas p.inp p.out with | some t => [t.1, t.2.1, t.2.2.1, t.2.2.2] | none => []
      (s.recPath m.id p.inp .planned 0).updPath p.inp fun r => { r with targets := ts, unguarded := ung }) s
  let s := s.maxField Reg.MOV_PLAN_STAT 48 16 (k - m.tTakeup)
  let s := s.stateNotice m.id MoveEvent.planned
  let s := if s.twn.role = .active then
      s.inTick fun s => s.sendSched m.id
    else s
  if plans.isEmpty then s.endMove m.id (match s.move? m.id with | some x => x.outcome | none => .done) 0 else s

/-- The committed ATLAS table is EMPTY (R231). -/
def State.atlasEmpty (s : State) : Bool := match s.tableOfKind 4 with | some t => !t.loaded | none => false

/-- The planner finishes a move (R231, R235, R236). A report that leaves a mirror without a route, that calls a mirror unguarded whose
straight leg is clear, or that breaks R233 or R234, is none the planner makes. -/
def State.planMove (s : State) (m : Move) (routes : List Route) (loose failed : List Nat) : State :=
  let k := s.nextTick
  let made := (s.creates m.conns).filter fun c => m.openPaths.any fun p => p.inp = c.1
  let none_ := failed ++ loose
  if s.atlasEmpty || made.any fun c => (s.atlas c.1 c.2).isNone then s.failMove m.id PathReason.atlasUnknown
  else if (m.strict || decide (s.inForce Reg.MOV_CTL 2 1 = 1)) && !none_.isEmpty then
    (if none_.any fun x => (s.moves m.conns).contains x && s.straightBlocked m [] (max m.startAt (k + 2)) x then
      s.failMove m.id PathReason.noRoute else s)
  else
    let parked := s.parks m.conns
    let xs := made.flatMap pathMirrors ++ parked
    let start := max m.startAt (k + 2)
    let plans := xs.filterMap (s.routePlan m start routes loose parked)
    if plans.length ≠ xs.length ∨ !s.scheduleOk m plans then s
    else
      let last := if plans.isEmpty then k else (plans.map fun p => p.start + p.frames).foldl max 0 + 15
      if m.deadline ≠ 0 ∧ m.deadline < last then s.failMove m.id PathReason.deadline
      else s.setPlanned m plans start last

/-- PLANNING_DONE (R231, R235, R236): the routes chosen, and the mirrors without a clear one: unguarded (`loose`), or with no route at
all. -/
def execPlanningDone (routes : List Route) (loose failed : List (BitVec 13)) (s : State) :
    Host.Outcome State Fault Refusal :=
  match s.mov.moves.find? fun m => m.2.planning with
  | some (_, m) => if s.plannerRuns then .next (s.planMove m routes (loose.map BitVec.toNat) (failed.map BitVec.toNat)) else .next s
  | none => .next s

-- Schedules of the twin (R237) ---------------------------------------------------------------------------------------------------------------------------------------------

/-- SCHED_CELL (R237): a part makes known what it names; the loops it names are held from now on. -/
def execSchedCell (p : SchedPart) (s : State) : Host.Outcome State Fault Refusal :=
  let id := p.move.toNat
  if s.twn.role.holds || s.landing.isNone then .next s
  else
    let known := s.move? id
    match known with
    | some m =>
      if !m.fromTwin || m.whole then .next s
      else if m.stream ≠ p.planned then .next (addPart (s.updMove id fun m => { m with
          parts := [], mirrors := [], paths := [], conns := [], late := false, stream := p.planned }) id p)
      else if m.parts.contains p.part then .next s else .next (addPart s id p)
    | none => .next (addPart { s with mov := { s.mov with moves := s.mov.moves ++ [(id,
        { id := id, tag := p.tag.toNat, blind := p.blind, startAt := p.start, tPlanned := p.planned, stream := p.planned, state := .planned, fromTwin := true, whole := false })] } } id p)
where
  addPart (s : State) (id : Nat) (p : SchedPart) : State :=
    let ls := p.mirrors.flatMap fun q => mirrorLoops q.mirror
    let s := s.updMove id fun m =>
      let parts := m.parts ++ [p.part]
      let late := m.late || decide (p.planned + 1 < s.hrt.frame)
      let mirrors := m.mirrors ++ p.mirrors
      { m with parts := parts, late := late, whole := decide (parts.length = p.parts) && !late, mirrors := mirrors, holds := m.holds ++ ls
               paths := m.paths ++ p.paths.map (fun c => { inp := c.1, out := c.2 })
               conns := m.conns ++ p.paths
               endTick := (mirrors.map fun q => q.start + q.frames).foldl max 0 + 15
               state := if mirrors.any fun q => 0 < q.begun then .moving else m.state
               tStart := if mirrors.any fun q => 0 < q.begun then p.start else m.tStart }
    let s := s.each ls fun l s => s.updLoop l fun x => { x with held := true }
    p.paths.foldl (fun s c => s.updPath c.1 fun _ => { out := c.2, state := .planned, moveId := id }) s

end Sys2Proof.Machine
end

