-- ==== Sys2Proof/Machine/Moves.lean ====
section
/-! DEFINITION. Execution of moves: legs and hand-over, completion from tap power, deadlines, aborts, path loss and reflex moves
(R224 to R230, R233, R236, R238 to R242, R244 to R251). All instants are those of the coming tick. -/
namespace Sys2Proof.Machine

-- Readings (R170, R240, R248) ---------------------------------------------------------------------------------------------------

/-- The reading of an output port that becomes available at the coming tick; one not received is MISSING (R170, R171). -/
def State.reading (s : State) (j : Nat) : TapReading := tget (fun _ => {}) s.mov.tapNow j

/-- Flags of a reading (R170). -/
def tapValid (r : TapReading) : Bool := bitAt (BitVec.ofNat 64 r.flags) 0
def tapMissing (r : TapReading) : Bool := bitAt (BitVec.ofNat 64 r.flags) 1
def tapDark (r : TapReading) : Bool := bitAt (BitVec.ofNat 64 r.flags) 3

/-- The best of a list of powers. -/
def bestPower (l : List TapReading) : Option Nat := ((l.filter tapValid).map (·.power)).max?

/-- Counted readings of a path after its reading of the coming tick (R240): readings n ≥ h + 2, MISSING ones not counted. -/
def State.countedNow (s : State) (i : Nat) : List TapReading :=
  let r := s.path i
  match r.hTick with
  | some h =>
    let x := s.reading r.out
    if h + 2 ≤ s.hrt.frame ∧ !tapMissing x then x :: r.counted else r.counted
  | none => r.counted

/-- `READY_FRAMES` and `SETTLE_LIMIT`; 0 acts as 1 (R254). -/
def State.readyFrames (s : State) : Nat := max 1 (s.inForce Reg.MOV_READY_CFG 0 4)
def State.settleLimit (s : State) : Nat := max 1 (s.inForce Reg.MOV_READY_CFG 48 16)

/-- The last `READY_FRAMES` counted readings make the path ready (R240). -/
def State.readyBy (s : State) (l : List TapReading) : Bool :=
  let n := s.readyFrames
  let best := (l.map (·.power)).foldl max 0
  decide (n ≤ l.length) && (l.take n).all fun r =>
    tapValid r && !tapDark r && decide (s.inForce Reg.MOV_READY_CFG 32 16 ≤ r.power)
      && !belowBy best r.power (s.inForce Reg.MOV_READY_CFG 16 16)

-- Services --------------------------------------------------------------------------------------------------------------------------

/-- A path leaves service (R224); its record, while it still shows the path, carries STATE NONE and `OUT` 0xFFFF. -/
def State.leaveService (s : State) (reason : Nat) (p : Nat × Nat) : State :=
  let r := s.path p.1
  let s := if r.out = p.2 ∧ r.state = .inService then
      s.updPath p.1 fun x => { x with
        out := 0xFFFF, state := .none, reason := reason, unverified := false, unguarded := false, reflex := false }
    else s
  let s := s.updService p.1 fun _ => {}
  { s with mov := { s.mov with recheck := true } }

/-- Services that use a mirror. -/
def State.serviceOn (s : State) (m : Nat) : List (Nat × Nat) := s.inService.filter fun q => (pathMirrors q).contains m

/-- The open path of an input port and the move that creates it. -/
def State.openPath? (s : State) (i : Nat) : Option (Move × MovePath) :=
  s.mov.moves.findSome? fun m =>
    if m.2.state.ended then none else (m.2.openPaths.find? fun p => p.inp = i).map fun p => (m.2, p)

-- Legs (R232, R238) -------------------------------------------------------------------------------------------------------------------

/-- Change the schedule of a mirror. -/
def State.updMirror (s : State) (id m : Nat) (f : MirrorPlan → MirrorPlan) : State :=
  s.updMove id fun x => { x with mirrors := x.mirrors.map fun p => if p.mirror = m then f p else p }

/-- A loop takes a leg: from HOLD it changes to SLEW, in SLEW it goes on (R187, R238). -/
def State.setLeg (s : State) (l : Nat) (g : Leg) : State :=
  match (s.loop l).cls with
  | .hold => s.updLoop l fun x => { (if s.freeFor l 4 then x.toSlew.takes 4 else x) with leg := some g, handRun := 0 }
  | .slew => s.updLoop l fun x => { x with leg := some g, handRun := 0 }
  | _ => s

/-- The legs of a move are carried out: it has started, or FREEZE failed it between its PLANNED tick and its start (R239). -/
def Move.runs (m : Move) : Bool := decide (m.tStart ≠ 0) || (decide (m.state = .failed) && decide (m.tPlanned ≠ 0))

/-- The next leg of a mirror, or its arrival, is due at the coming tick. -/
def State.legDue (s : State) (m : Move) (p : MirrorPlan) : Bool :=
  m.runs && !p.abortedM && !p.arrived && decide (p.nextAt ≤ s.nextTick)

/-- A mirror takes its next leg, or has arrived (R232, R238). Its first leg ends the services that use it (R224). -/
def State.legStep (s : State) (id : Nat) (p : MirrorPlan) : State :=
  match p.legs[p.begun]? with
  | some g =>
    let last := decide (p.begun + 1 = p.legs.length)
    let s := if p.begun = 0 then (s.serviceOn p.mirror).foldl (fun s q => s.leaveService 0 q) s else s
    let s := s.setLeg (2 * p.mirror) ⟨g.x, g.rateX, g.accX, last, false⟩
    let s := s.setLeg (2 * p.mirror + 1) ⟨g.y, g.rateY, g.accY, last, false⟩
    s.updMirror id p.mirror fun q => { q with begun := q.begun + 1, nextAt := s.nextTick + g.len }
  | none => s.updMirror id p.mirror fun q => { q with arrived := true }

/-- A commit that is scheduled holds the move back: one that cannot end before it (R236), and one whose order was taken up since the
COMMIT was (R74). -/
def State.heldBack (s : State) (m : Move) : Bool :=
  s.plan.pending && (decide (s.plan.commitAt ≤ m.endTick) || (decide (m.origin = 0) && decide (s.plan.commitTaken ≤ m.tTakeup)))

/-- The start tick of a planned move has come and nothing keeps it from starting (R236, R237). -/
def State.startDue (s : State) (m : Move) : Bool :=
  decide (m.state = .planned) && decide (m.startAt = s.nextTick) && !(m.fromTwin && !m.whole) && !s.heldBack m

/-- The start tick passed while a commit held the move back, and it holds it back no longer (R236). -/
def State.lateStart (s : State) (m : Move) : Bool :=
  decide (m.state = .planned) && decide (m.startAt < s.nextTick) && !(m.fromTwin && !m.whole) && !s.heldBack m

/-- The record of a port goes back to the path in service there, or to none. -/
def State.restoreRec (s : State) (id i : Nat) : State :=
  if (s.path i).moveId = id then
    let o := (s.service i).out
    s.updPath i fun r => { r with out := o, state := if o = 0xFFFF then .none else .inService, reason := 0 }
  else s

/-- A move returns to OPEN and lets its loops go (R74, R236). A standby forgets it: the active plans it again and sends the new
schedule (R237). -/
def State.reopen (s : State) (id : Nat) : State :=
  match s.move? id with
  | some m =>
    let s := s.each m.holds fun l s => s.updLoop l fun x => { x with held := false, leg := none }
    if m.fromTwin then { s with mov := { s.mov with moves := s.mov.moves.filter fun q => decide (q.1 ≠ id) } } else
    let s := s.each ((m.paths.filter fun p => p.state = 0).map (·.inp)) fun i s => s.restoreRec id i
    s.updMove id fun m => { m with
      state := .openS, planning := false, mirrors := [], holds := [], tPlanned := 0
      paths := m.paths.map fun p => { p with state := 0 } }
  | none => s

/-- A move starts (R228, R238): its open paths are MOVING, and the watched path of a reflex move leaves service (R251). -/
def State.startMove (s : State) (m : Move) : State :=
  let s := match m.watched with
    | some w => if s.inService.contains w then s.leaveService PathReason.replaced w else s
    | none => s
  let s := s.updMove m.id fun x => { x with state := .moving, tStart := s.nextTick }
  let s := s.each (m.openPaths.map (·.inp)) fun i s => s.recPath m.id i .moving 0
  s.stateNotice m.id MoveEvent.moving

/-- Legs of one move that are due. -/
def State.moveSteps (s : State) (id : Nat) : State :=
  match s.move? id with
  | some m => (m.mirrors.filter fun p => s.legDue m p).foldl (fun s p => s.legStep id p) s
  | none => s

/-- Numbers of the moves the unit knows, ascending. -/
def State.moveIds (s : State) : List Nat := s.mov.moves.map (·.1)

/-- Starts and legs of the coming tick. -/
def State.moveLegs (s : State) : State :=
  let s := s.each s.moveIds fun id s => match s.move? id with
    | some m => if s.lateStart m then s.reopen id else if s.startDue m then s.startMove m else s
    | none => s
  s.each s.moveIds fun id s => s.moveSteps id

/-- MOVE_START (R228, R238). -/
def execMoveStart (id : BitVec 32) (s : State) : Host.Outcome State Fault Refusal :=
  match s.move? id.toNat with
  | some m => .next (if s.startDue m then (s.startMove m).moveSteps id.toNat else s)
  | none => .next s

/-- LEG_END (R232, R238): the next leg, or the arrival. -/
def execLegEnd (id : BitVec 32) (mirror : BitVec 13) (s : State) : Host.Outcome State Fault Refusal :=
  match s.move? id.toNat with
  | some m =>
    match m.mirrors.find? fun p => p.mirror = mirror.toNat with
    | some p => .next (if s.legDue m p && decide (0 < p.begun) then s.legStep id.toNat p else s)
    | none => .next s
  | none => .next s

-- Settling (R228, R229, R240) ----------------------------------------------------------------------------------------------------------

/-- A mirror of a path has arrived, or the move does not move it. -/
def Move.mirrorIn (m : Move) (x : Nat) : Bool := m.mirrors.all fun p => decide (p.mirror ≠ x) || p.arrived

/-- All four loops of a path are in HOLD. -/
def State.inHold (s : State) (p : Nat × Nat) : Bool :=
  ((pathMirrors p).flatMap mirrorLoops).all fun l => decide ((s.loop l).cls = .hold)

/-- A path's last axis has arrived: SETTLING; and its last loop has entered HOLD: tick h (R229, R240). -/
def State.settlePath (s : State) (m : Move) (p : MovePath) : State :=
  if decide (m.tStart ≠ 0) && m.mirrorIn p.inp && m.mirrorIn (4096 + p.out) then
    let s := if (s.path p.inp).state = .moving then s.recPath m.id p.inp .settling 0 else s
    if (s.path p.inp).hTick.isNone && s.inHold (p.inp, p.out) then
      s.updPath p.inp fun r => { r with hTick := some s.nextTick, counted := [] }
    else s
  else s

/-- Parked mirrors whose loops have handed over to HOLD (R225, R246). -/
def State.settleParked (s : State) (id : Nat) : State :=
  s.updMove id fun m => { m with mirrors := m.mirrors.map fun p =>
    if p.parked && p.arrived && !p.abortedM && (mirrorLoops p.mirror).all fun l => decide ((s.loop l).cls = .hold) then
      { p with settled := true } else p }

/-- The last axis of a move has arrived (R228). -/
def State.moveSettles (s : State) (id : Nat) : State :=
  match s.move? id with
  | some m =>
    if m.state = .moving ∧ m.mirrors.all (fun p => p.arrived || p.abortedM) then
      (s.updMove id fun x => { x with state := .settling }).stateNotice id MoveEvent.settling
    else s
  | none => s

-- Ready and failed (R239 to R242) ------------------------------------------------------------------------------------------------------

/-- The path is ready at the coming tick (R240); with BLIND at tick h itself (R242). -/
def State.readyNow (s : State) (m : Move) (p : MovePath) : Bool :=
  match (s.path p.inp).hTick with
  | some h => if m.blind then true else decide (h < s.nextTick) && s.readyBy (s.countedNow p.inp)
  | none => false

/-- A path becomes ready: it enters service (R224, R240, R242), and its reference is the best of the readings that made it ready
(R248). -/
def State.makeReady (s : State) (m : Move) (p : MovePath) : State :=
  let ref := if m.blind then none else bestPower ((s.countedNow p.inp).take s.readyFrames)
  let s := s.closePath m.id p.inp 1 .inService 0
  let s := s.updPath p.inp fun r => { r with
    out := p.out, unverified := m.blind, readyTick := s.nextTick, hTick := none, counted := [] }
  let s := s.updService p.inp fun _ => { out := p.out, refPower := ref }
  { s with mov := { s.mov with recheck := true } }

/-- Reason of a settle failure (R241). -/
def State.settleReason (s : State) (l : List TapReading) : Nat :=
  if !l.isEmpty && l.all fun r => tapDark r || decide (r.power < s.inForce Reg.MOV_READY_CFG 32 16) then PathReason.dark
  else PathReason.settleTimeout

/-- The settle limit ends at the coming tick (R241). -/
def State.settleOver (s : State) (p : MovePath) : Bool :=
  match (s.path p.inp).hTick with | some h => decide (h + s.settleLimit ≤ s.nextTick) | none => false

/-- A loop of the path that the move holds is in a class other than HOLD or SLEW (R239). -/
def State.frozenPath (s : State) (m : Move) (p : MovePath) : Bool :=
  ((pathMirrors (p.inp, p.out)).flatMap mirrorLoops).any fun l =>
    m.holds.contains l && decide ((s.loop l).cls ≠ .hold) && decide ((s.loop l).cls ≠ .slew)

/-- What the coming tick decides for one open path: readiness wins over every failure (R240). -/
def State.judgePath (s : State) (m : Move) (p : MovePath) : State :=
  if s.readyNow m p then s.makeReady m p
  else if s.frozenPath m p then s.closePath m.id p.inp 2 .failed PathReason.freeze
  else if s.settleOver p then s.closePath m.id p.inp 2 .failed (s.settleReason (s.countedNow p.inp))
  else if (s.path p.inp).hTick.isSome then
    let l := s.countedNow p.inp
    s.updPath p.inp fun r => { r with counted := l }
  else s

/-- PATH_READY (R240). -/
def execPathReady (port : BitVec 12) (s : State) : Host.Outcome State Fault Refusal :=
  match s.openPath? port.toNat with
  | some (m, p) => .next (if s.readyNow m p then s.makeReady m p else s)
  | none => .next s

/-- SETTLE_TIMEOUT (R241). -/
def execSettleTimeout (port : BitVec 12) (s : State) : Host.Outcome State Fault Refusal :=
  match s.openPath? port.toNat with
  | some (m, p) =>
    .next (if !s.readyNow m p && s.settleOver p then
      s.closePath m.id p.inp 2 .failed (s.settleReason (s.countedNow p.inp)) else s)
  | none => .next s

-- The end of a move (R228, R230) -----------------------------------------------------------------------------------------------------------

/-- Everything a move must bring about is decided (R228). -/
def Move.complete (m : Move) : Bool :=
  m.paths.all (fun p => decide (p.state ≠ 0)) && m.mirrors.all fun p => !p.parked || p.settled || p.abortedM

/-- A move ends at the coming tick once it is complete. -/
def State.endIfComplete (s : State) (id : Nat) (tick : Nat := s.nextTick) : State :=
  match s.move? id with
  | some m =>
    if !m.state.ended && (decide (m.state ≠ .openS) || m.planning) && m.complete then s.endMove id m.outcome m.reason tick
    else s
  | none => s

/-- The path or the parked mirror that a loop serves is closed (R230). -/
def Move.closedAt (m : Move) (x : Nat) : Bool :=
  match m.paths.find? fun p => decide (p.inp = x) || decide (4096 + p.out = x) with
  | some p => decide (p.state ≠ 0)
  | none => m.state.ended || m.mirrors.all fun p => decide (p.mirror ≠ x) || p.settled || p.abortedM

/-- A held loop is let go at the coming tick (R230): what it serves is closed, it is not in SLEW, and none of its legs is still to
come (R239). -/
def State.letsGo (s : State) (m : Move) (l : Nat) : Bool :=
  let x := s.loop l
  m.closedAt (l / 2) && decide (x.cls ≠ .slew)
    && (decide (x.cls ≠ .hold) || m.mirrors.all fun p => decide (p.mirror ≠ l / 2) || p.arrived || p.abortedM)

/-- The final value of a loop's trajectory: its target, or the stop point; of a loop that has begun no leg its set-point
(R196, R247). -/
def State.trajectoryEnd (s : State) (m : Move) (l : Nat) : Int :=
  let x := s.loop l
  match x.leg with
  | some g =>
    if g.stop then g.target
    else match (m.mirrors.find? fun p => p.mirror = l / 2).bind fun p => p.legs.getLast? with
      | some q => if l % 2 = 0 then q.x else q.y
      | none => g.target
  | none => x.setpoint

/-- The final value is the static set-point from the release on (R196, R230). -/
def State.releaseLoop (s : State) (m : Move) (l : Nat) : State :=
  let v := s.trajectoryEnd m l
  s.updLoop l fun x => { x with held := false, leg := none, setpoint := v }

/-- Loops that a move lets go. -/
def State.moveReleases (s : State) (id : Nat) : State :=
  match s.move? id with
  | some m =>
    let go := m.holds.filter fun l => s.letsGo m l
    let s := s.each go fun l s => s.releaseLoop m l
    s.updMove id fun m => { m with holds := m.holds.filter fun l => !go.contains l }
  | none => s

-- Aborts (R244 to R247) ------------------------------------------------------------------------------------------------------------------------

/-- A slewing loop is told to stop at its stop point (R247). -/
def State.stopLoop (s : State) (l : Nat) : State :=
  s.updLoop l fun x => match x.leg with
    | some g =>
      if x.cls = .slew then
        { x with leg := some { g with target := stopPoint 65536 x.sp g.acc, last := true, stop := true }, handRun := 0 }
      else x
    | none => x

/-- A mirror of an aborted path, or an aborted parked mirror (R247): one that has arrived stays at its target. -/
def State.abortMirror (s : State) (id : Nat) (p : MirrorPlan) : State :=
  let s := if decide (0 < p.begun) && !p.arrived then s.each (mirrorLoops p.mirror) fun l s => s.stopLoop l else s
  s.updMirror id p.mirror fun q => { q with abortedM := !q.arrived || q.parked }

/-- The mirrors that an abort reaches: those of open paths, and open parked mirrors (R246). -/
def Move.openMirrors (m : Move) : List MirrorPlan :=
  m.mirrors.filter fun p =>
    if p.parked then !p.settled && !p.abortedM
    else m.openPaths.any fun q => (pathMirrors (q.inp, q.out)).contains p.mirror

/-- An abort with a reason, at tick `tick` (R246, R247); a path in service that the move leaves untouched stays as it is (R225). -/
def State.abortMove (s : State) (id reason : Nat) (tick : Nat := s.nextTick) : State :=
  match s.move? id with
  | some m =>
    let s := m.openMirrors.foldl (fun s p => s.abortMirror id p) s
    let s := s.each ((s.openNew m).map (·.inp)) fun i s => s.closePath id i 3 .aborted reason
    let s := s.updMove id fun x => { x with reason := if x.reason = 0 then reason else x.reason }
    if m.tStart = 0 then s.endMove id .aborted reason tick else s.endIfComplete id tick
  | none => s

/-- The result of an abort at tick `k` (R245); a unit without authority knows no move (R395). -/
def State.abortCheck (s : State) (id k : Nat) (allowed : Move → Bool) : Nat :=
  if s.twn.role = .standby ∨ s.twn.role = .withdrawn then 4
  else match s.move? id with
    | none => 4
    | some m => if !allowed m then 5 else if !m.state.ended then 1 else if m.tEnd = k then 2 else 3

/-- The ABORT_RESULT notice (R245, R253). -/
def State.abortNotice (s : State) (id seat result tick : Nat) : State :=
  let m := (s.move? id).getD { id := id }
  let code := if (s.move? id).isSome then m.state.code else 0
  let body := (m.noticeBody MoveEvent.abortResult m.reason result 0xFFFF 0xFFFF tick).zipIdx.map fun b =>
    if b.2 = 9 then BitVec.ofNat 8 code else b.1
  s.raiseRecord [0, seat].eraseDups Src.mov MoveEvent.abortResult body

/-- An order or an operation raises a notice that is visible a tick after the coming one (R245). -/
def State.noticeLater (s : State) (f : State → State) : State :=
  let v := f { s with events := [] }
  { s with later := s.later ++ v.events }

/-- Carry out an ABORT order at the tick of its take-up (R245, R246). -/
def State.takeAbort (s : State) (o : TakenOrder) : State :=
  let id := o.num 0 4
  let role := s.seatRole o.seat
  let r := s.abortCheck id o.taken fun m => decide (role = 2) || (decide (role = 1) && decide (m.origin = 0) && decide (m.seat = o.seat))
  let s := if r = 1 then s.abortMove id PathReason.abortOrder o.taken else s
  (s.noticeLater fun s => s.abortNotice id o.seat r o.taken).settle o r id

/-- ABORT orders taken up at the coming tick (R246). -/
def State.takeAborts (s : State) : State :=
  ((s.takenNow.filter fun o => decide (o.typ = 2)).filter fun o => !o.carried).foldl (fun s o => s.takeAbort o) s

/-- ABORT (R245): by `MOV_CMD`, which is taken up at the next tick, or by the order posted in a slot, which is taken up for the coming
tick. TICK then carries it out among the tick's decisions; a further ABORT before it carries the order out at once (log 47). -/
def execAbort (src : CtlSource) (s : State) : Host.Outcome State Fault Refusal :=
  match src with
  | .register => .next { s with ops := { s.ops with mov := some (1, 0) } }
  | .order seat slot =>
    match s.order? seat.toNat slot.toNat 2 with
    | some o => .next (s.takeAbort o)
    | none => .next (s.takeEarly seat.toNat slot.toNat 2)

/-- REARM (R250, R254): taken up at the next tick. -/
def execRearm (entry : BitVec 12) (s : State) : Host.Outcome State Fault Refusal :=
  .next { s with ops := { s.ops with mov := some (2, entry.toNat) } }

/-- REARM_ALL (R250, R254): taken up at the next tick. -/
def execRearmAll (s : State) : Host.Outcome State Fault Refusal :=
  .next { s with ops := { s.ops with mov := some (3, 0) } }

/-- Entries of the FALLBACK table (R249). -/
def State.fallbacks (s : State) : Nat := match s.tableOfKind 6 with | some t => t.desc.count | none => 0

/-- One entry ends its fired state (R250). -/
def State.rearmEntry (s : State) (e : Nat) : State :=
  let s := s.updReflex e fun r => { r with fired := false, low := 0 }
  { s with mov := { s.mov with recheck := true } }

/-- `MOV_CMD` is taken up (R245, R254). -/
def State.takeMovCmd (s : State) : State :=
  let t := s.nextTick
  let u := { s with ops := { s.ops with mov := none } }
  match s.ops.mov with
  | some (1, _) =>
    let id := u.field Reg.MOV_SEL 0 32
    let r := u.abortCheck id t fun _ => true
    let u := if r = 1 then u.abortMove id PathReason.abortOrder else u
    (u.noticeLater fun u => u.abortNotice id 0 r t).setField Reg.MOV_CMD 8 8 r
  | some (2, e) =>
    if e < u.fallbacks then (u.rearmEntry e).setField Reg.MOV_CMD 8 8 0 else u.setField Reg.MOV_CMD 8 8 6
  | some (3, _) => u.rearmAll.setField Reg.MOV_CMD 8 8 0
  | _ => u

/-- A deadline passes at the coming tick (R244). -/
def State.deadlineDue (s : State) (m : Move) : Bool :=
  decide (m.deadline ≠ 0) && decide (m.deadline ≤ s.nextTick) && !m.missed && !m.state.ended && !m.fromTwin

/-- DEADLINE_MISSED, and the abort that ABORT_AT_DEADLINE asks for (R244). -/
def State.missDeadline (s : State) (m : Move) : State :=
  let s := s.updMove m.id fun x => { x with missed := true }
  let s := (s.stateNotice m.id MoveEvent.deadlineMissed).moveEvt 2 m.id 0
  if m.abortDl then s.abortMove m.id PathReason.abortDeadline else s

/-- What the coming tick decides of one move (R228, R229, R239 to R242): arrivals, readiness and failures, and its end. -/
def State.decideMove (s : State) (id : Nat) : State :=
  match s.move? id with
  | some m =>
    if m.state.ended then s
    else
      let s := (m.openPaths.foldl (fun s p => s.settlePath m p) s).settleParked id
      let s := s.moveSettles id
      let s := m.openPaths.foldl (fun s p => s.judgePath m p) s
      s.endIfComplete id
  | none => s

/-- Nothing that the coming tick decides before the deadline ends the move; an abort waits for TICK where the tick decides anything
else of the move (R244). -/
def State.stillOpen (s : State) (m : Move) : Bool :=
  match (s.moveLegs.handOvers.decideMove m.id).move? m.id with
  | some x => !x.state.ended && (!m.abortDl || (decide (x.paths = m.paths) && decide (x.mirrors = m.mirrors)))
  | none => false

/-- DEADLINE_MISSED (R244). -/
def execDeadlineMissed (id : BitVec 32) (s : State) : Host.Outcome State Fault Refusal :=
  match s.move? id.toNat with
  | some m => .next (if s.deadlineDue m && s.stillOpen m then s.missDeadline m else s)
  | none => .next s

-- Path loss (R248) ---------------------------------------------------------------------------------------------------------------------------------

/-- `LOSS_FRAMES`; 0 acts as 1 (R254). -/
def State.lossFrames (s : State) : Nat := max 1 (s.inForce Reg.MOV_LOSS_CFG 16 4)

/-- The reference after a reading: the best VALID one (R248). -/
def refAfter (ref : Option Nat) (r : TapReading) : Option Nat :=
  if tapValid r then some (max (ref.getD 0) r.power) else ref

/-- The reading is low against a reference: DARK, or more than `w`/256 dB below it; without a reference none is (R248). -/
def lowReading (ref : Option Nat) (r : TapReading) (w : Nat) : Bool :=
  match ref with | some p => tapDark r || belowBy p r.power w | none => false

/-- A service after the reading of the coming tick; MISSING readings change nothing (R248). -/
def State.serviceNext (s : State) (v : Service) : Service :=
  let r := s.reading v.out
  if tapMissing r then v
  else
    let ref := refAfter v.refPower r
    if lowReading ref r (s.inForce Reg.MOV_LOSS_CFG 0 16) then { v with refPower := ref, low := v.low + 1, good := 0 }
    else
      let good := v.good + 1
      { v with refPower := ref, low := 0, good := good, loss := v.loss && decide (good < s.lossFrames) }

/-- The path of an input port is lost at the coming tick (R248). -/
def State.pathLossDue (s : State) (i : Nat) : Bool :=
  let v := s.service i
  decide (v.out ≠ 0xFFFF) && !v.loss && decide (s.lossFrames ≤ (s.serviceNext v).low)

/-- The 32-byte body of a PATH_LOSS notice (R253). -/
def State.lossBody (s : State) (i j : Nat) : List Byte :=
  leBytes 8 0 ++ [BitVec.ofNat 8 MoveEvent.pathLoss, 0, 0, 0] ++ leBytes 2 i ++ leBytes 2 j ++ leBytes 8 0 ++ s.tickBytes

/-- A path is lost (R248). -/
def State.losePath (s : State) (i : Nat) : State :=
  let j := (s.service i).out
  let s := s.updService i fun v => { v with loss := true }
  let s := s.updPath i fun r => { r with losses := min (2 ^ 32 - 1) (r.losses + 1) }
  if s.twn.role.holds then
    (s.raiseRecord (s.ownersOf [(0, i), (1, j)]) Src.mov MoveEvent.pathLoss (s.lossBody i j)).raise Src.mov 3 i
  else s

/-- PATH_LOSS (R248). -/
def execPathLoss (port : BitVec 12) (s : State) : Host.Outcome State Fault Refusal :=
  .next (if s.pathLossDue port.toNat then s.losePath port.toNat else s)

/-- Services take the readings of the coming tick. -/
def State.serviceTick (s : State) : State :=
  let s := s.each ((s.mov.service.map (·.1)).filter s.pathLossDue) fun i s => s.losePath i
  { s with mov := { s.mov with service := tmap (fun _ => {}) (fun _ v => s.serviceNext v) s.mov.service } }

-- Reflex moves (R249 to R251) ------------------------------------------------------------------------------------------------------------------

/-- One FALLBACK entry (R249). -/
structure Fallback where
  inp    : Nat
  out    : Nat
  newIn  : Nat
  newOut : Nat
  loss   : Nat
  frames : Nat
  enable : Bool
  strict : Bool
  deriving DecidableEq, Repr

/-- Entry `e` of the FALLBACK table (R249). -/
def State.fallback (s : State) (e : Nat) : Fallback :=
  match s.tableOfKind 6 with
  | some t =>
    let v (o n : Nat) := bankNat t.bank (16 * e + o) n
    { inp := v 0 2, out := v 2 2, newIn := v 4 2, newOut := v 6 2, loss := v 8 2, frames := max 1 (v 10 1)
      enable := decide (v 11 1 % 2 = 1), strict := decide (v 11 1 / 2 % 2 = 1) }
  | none => ⟨0, 0, 0, 0, 0, 1, false, false⟩

/-- The entry is armed, or would be but for its mark (R250). -/
def State.armable (s : State) (e : Nat) : Bool :=
  let f := s.fallback e
  decide (e < s.fallbacks) && f.enable && decide (s.inForce Reg.MOV_CTL 1 1 = 1) && decide (f.out ≠ 0xFFFF)
    && decide ((s.service f.inp).out = f.out) && !(s.reflex e).fired

/-- The entry is armed (R250). -/
def State.armed (s : State) (e : Nat) : Bool := s.armable e && !((s.reflex e).unguarded && (s.fallback e).strict)

/-- Mirrors that the fallback path moves: those whose set-points are not at the target. -/
def State.reflexMoves (s : State) (f : Fallback) (t : Int × Int × Int × Int) : List (Nat × Int × Int) :=
  [(f.newIn, t.1, t.2.1), (4096 + f.newOut, t.2.2.1, t.2.2.2)].filter fun p => s.mirrorAt p.1 ≠ (p.2.1, p.2.2)

/-- The check of R250: one straight leg for each mirror that the fallback path moves is clear. -/
def State.reflexClear (s : State) (f : Fallback) : Bool :=
  let zone := s.inForce Reg.MOV_SWEEP_CFG 16 16 + s.inForce Reg.MOV_SWEEP_CFG 0 16
  match s.atlas f.newIn f.newOut with
  | some t =>
    let live := (s.livePaths [] []).filter fun z => z.1 ≠ (f.inp, f.out)
    (s.reflexMoves f t).all fun p =>
      let a := s.mirrorAt p.1
      s.routeClear live zone p.1 (s.nextTick + 2) a [s.makeLeg p.1 a (p.2.1, p.2.2)]
  | none => false

/-- The planner checks the armed entries (R250). -/
def State.recheckTick (s : State) : State :=
  if s.mov.recheck then
    let s := { s with mov := { s.mov with recheck := false } }
    s.each ((List.range s.fallbacks).filter fun e => s.armable e) fun e s =>
      let bad := !s.reflexClear (s.fallback e)
      s.updReflex e fun r => { r with unguarded := bad }
  else s

/-- Consecutive low readings of an entry after the reading of the coming tick (R251). -/
def State.reflexLow (s : State) (e : Nat) : Nat :=
  let f := s.fallback e
  let v := s.service f.inp
  let r := s.reading f.out
  if tapMissing r then (s.reflex e).low
  else if lowReading (refAfter v.refPower r) r f.loss then min 255 ((s.reflex e).low + 1) else 0

/-- The entry trips at the coming tick (R251). -/
def State.tripDue (s : State) (e : Nat) : Bool :=
  s.twn.role.holds && s.armed e && decide ((s.reflex e).low < (s.fallback e).frames)
    && decide (s.reflexLow e = (s.fallback e).frames)

/-- Why a tripped entry is skipped, 0 not (R251). Without targets both mirrors would move. -/
def State.skipReason (s : State) (f : Fallback) : Nat :=
  let t := s.atlas f.newIn f.newOut
  let ms : List Nat := match t with | some t => (s.reflexMoves f t).map (·.1) | none => pathMirrors (f.newIn, f.newOut)
  let busy := s.openMoves.any fun m => (ms.flatMap mirrorLoops).any m.holds.contains
  let taken := s.inService.any fun p =>
    decide (p ≠ (f.inp, f.out)) && (decide (p.1 = f.newIn) || decide (p.2 = f.newOut))
  if busy then PathReason.busy else if taken then PathReason.occupied
  else if t.isNone then PathReason.atlasUnknown else 0

/-- The first tick, from t + 2, at which the axes of a mirror fit under the limit of R233. -/
def State.firstFit (s : State) (placed : List MirrorPlan) (limit : Nat) (p : MirrorPlan) : Nat :=
  let t := s.nextTick + 2
  let head := s.drivePorch (2 * p.mirror)
  let l := s.spans ++ placed.map s.planSpan
  let at_ (a : Nat) : Bool := withinLimit (l ++ [s.planSpan { p with start := a }]) limit
  let ends := ((l.filter fun e => decide (e.head = head)).map fun e => e.last + 1).filter fun a => t < a
  let ok : List Nat := (t :: ends).filter at_
  (ok.min?).getD t

/-- The plans of a reflex move: one straight leg for each mirror that must move, later where the limit asks for it (R251). -/
def State.reflexPlans (s : State) (limit : Nat) (unguarded : Bool) : List (Nat × Int × Int) → List MirrorPlan → List MirrorPlan
  | [], acc => acc
  | p :: ps, acc =>
    let q := s.mirrorPlan p.1 [(p.2.1, p.2.2)] (s.nextTick + 2) false unguarded
    let a := s.firstFit acc limit q
    s.reflexPlans limit unguarded ps (acc ++ [{ q with start := a, nextAt := a }])

/-- The move by which an entry fires (R250, R251): taken up at this tick, its first frame the next but one. -/
def State.reflexMove (s : State) (e : Nat) (f : Fallback) (t : Int × Int × Int × Int) : Move :=
  let k := s.nextTick
  let limit := clampNat 1 1024 (s.inForce Reg.MOV_SLEW_MAX 0 11)
  let plans : List MirrorPlan := s.reflexPlans limit (s.reflex e).unguarded (s.reflexMoves f t) []
  { id := s.mov.nextId, origin := 1, seat := 0xFF, startAt := k + 2, conns := [(f.newIn, f.newOut)], state := .planned
    paths := [{ inp := f.newIn, out := f.newOut }], mirrors := plans, holds := (plans.map (·.mirror)).flatMap mirrorLoops
    limit := limit, tTakeup := k, tPlanned := k, endTick := (plans.map fun p => p.start + p.frames).foldl max (k + 2) + 15
    lmax := (plans.map MirrorPlan.frames).foldl max 0, waves := s.wavesOf plans, watched := some (f.inp, f.out) }

/-- A reflex move is created (R251). -/
def State.fireReflex (s : State) (e : Nat) (f : Fallback) (t : Int × Int × Int × Int) : State :=
  let id := s.mov.nextId
  let m := s.reflexMove e f t
  let ung := (s.reflex e).unguarded
  let s := { s with mov := { s.mov with nextId := id + 1, moves := s.mov.moves ++ [(id, m)] } }
  let s := s.each m.holds fun l s => s.updLoop l fun x => { x with held := true }
  let ms := m.mirrors.map (·.mirror)
  let s := { s with est := { s.est with dithered := s.est.dithered.filter fun d => !ms.contains d.1 } }
  let s := s.updPath f.newIn fun r => { r with
    out := f.newOut, state := .planned, reason := 0, unverified := false, unguarded := ung, reflex := true, moveId := id
    targets := [t.1, t.2.1, t.2.2.1, t.2.2.2], hTick := none, counted := [] }
  let s := s.updReflex e fun r => { r with fired := true }
  let s := (s.stateNotice id MoveEvent.planned).moveEvt 4 id e
  let s := s.count Reg.MOV_REFLEX_STAT 16 16 1
  if s.twn.role = Role.active then s.inTick fun s => s.sendSched id else s

/-- A tripped entry is skipped (R251). -/
def State.skipReflex (s : State) (e reason : Nat) (f : Fallback) : State :=
  let m : Move := { id := 0, origin := 1, conns := [(f.newIn, f.newOut)] }
  let body := leBytes 8 0 ++ [BitVec.ofNat 8 MoveEvent.reflex, 0, BitVec.ofNat 8 reason, 0] ++ leBytes 2 f.newIn
    ++ leBytes 2 f.newOut ++ leBytes 8 0 ++ s.tickBytes
  let s := s.raiseRecord (s.moveSeats m) Src.mov MoveEvent.reflex body
  (s.raise Src.mov 5 e reason).count Reg.MOV_REFLEX_STAT 0 16 1

/-- An entry trips (R251). -/
def State.tripReflex (s : State) (e : Nat) : State :=
  let f := s.fallback e
  let low := s.reflexLow e
  let r := s.skipReason f
  let s := s.updReflex e fun x => { x with low := low }
  match r, s.atlas f.newIn f.newOut with
  | 0, some t => s.fireReflex e f t
  | r, _ => s.skipReflex e r f

/-- REFLEX_TRIP (R251). The entry's count of low readings is taken up here, and its reading counts no more at the tick. -/
def execReflexTrip (entry : BitVec 12) (s : State) : Host.Outcome State Fault Refusal :=
  .next (if s.tripDue entry.toNat then s.tripReflex entry.toNat else s)

/-- Entries take the readings of the coming tick; those due trip, in ascending order (R251). -/
def State.reflexTick (s : State) : State :=
  let due := (List.range s.fallbacks).filter s.tripDue
  let lows := (List.range s.fallbacks).map fun e => (e, if s.armed e then s.reflexLow e else 0)
  let s := s.each due fun e s => s.tripReflex e
  lows.foldl (fun s e => s.updReflex e.1 fun r => { r with low := e.2 }) s

-- The tick ------------------------------------------------------------------------------------------------------------------------------------------

/-- Schedules that the standby never received whole end when their mirrors would have settled (R237). -/
def State.dropPartial (s : State) : State :=
  let old := (s.mov.moves.map (·.2)).filter fun m => m.fromTwin && !m.whole && decide (m.endTick ≤ s.nextTick)
  let s := s.each (old.flatMap (·.holds)) fun l s => s.updLoop l fun x => { x with held := false }
  { s with mov := { s.mov with moves := s.mov.moves.filter fun m => !(old.any fun o => o.id = m.1) } }

/-- What the coming tick decides for moves and paths, in this order: arrivals, readiness and failures, ends, deadlines and aborts,
losses, reflexes, and the loops that are let go. -/
def State.movePaths (s : State) : State :=
  let s := s.serviceTick.reflexTick
  let s := s.each s.moveIds fun id s => s.decideMove id
  let s := s.each s.moveIds fun id s => match s.move? id with
    | some m => if s.deadlineDue m then s.missDeadline m else s
    | none => s
  let s := s.takeMovCmd.takeAborts
  let s := s.each s.moveIds fun id s => s.moveReleases id
  s.dropPartial.recheckTick

/-- After a step of device time, orders timed by it are converted anew (R40). A move that is
PLANNED for another tick returns to OPEN and is planned again (log 48). -/
def State.retimeMoves (s : State) : State :=
  s.each s.moveIds fun id s => match s.move? id with
    | some m =>
      if m.state.ended then s
      else
        let at_ : Nat := match m.startNs with | some v => s.tickFrom s.nextTick v | none => m.startAt
        let dl : Nat := match m.deadlineNs with | some v => s.tickFrom s.nextTick v | none => m.deadline
        let s := if m.startNs.isSome ∧ m.state = .planned ∧ max at_ (m.tPlanned + 2) ≠ m.startAt then s.reopen id else s
        s.updMove id fun x => { x with deadline := dl, startAt := if x.state = .openS then at_ else x.startAt }
    | none => s

/-- Aborts and reopenings that a commit brings (R74, R224, R236); the planning that a PATCH meets goes on, unless it swaps ATLAS
(R231). -/
def State.commitMoves (s : State) (restarted : List Nat) (patch : Bool) : State :=
  let s := s.each s.moveIds fun id s => match s.move? id with
    | some m =>
      if m.state.ended then s
      else if m.tStart ≠ 0 then s.abortMove id PathReason.commit
      else if m.state = .planned || (m.planning && !patch) then s.reopen id
      else s
    | none => s
  let gone := s.inService.filter fun p => ((pathMirrors p).flatMap mirrorLoops).any restarted.contains
  gone.foldl (fun s p => s.leaveService PathReason.commit p) s

end Sys2Proof.Machine
end

