-- ==== Sys2Proof/Machine/Sense.lean ====
section
/-! DEFINITION. Sensing: cells from imager and tap heads, the cutoffs, the estimate records and their landing
(R150 to R171, R317, R321 to R323). -/
namespace Sys2Proof.Machine

-- Receiving -----------------------------------------------------------------------------------------------------------------

/-- The porch delivers cells at all: lanes are locked and the porch is in service or in discovery. -/
def State.linked (s : State) (p : Nat) : Bool :=
  match (s.porch p).state with
  | .down | .training | .dark => false
  | .discovery | .ready | .wrongHead | .miswired | .lost => true

/-- Cells of every type pass: in WRONG_HEAD and MISWIRED only HELLO, ECHO, LANE and HEALTH do (R340). -/
def State.passes (s : State) (p : Nat) : Bool :=
  s.linked p && decide ((s.porch p).state ≠ .wrongHead) && decide ((s.porch p).state ≠ .miswired)

/-- A valid cell has arrived and is delivered in its order (R318, R342, R350). -/
def State.receive (s : State) (p : Nat) : State :=
  (s.updPorch p fun q => { q with heard := true, rxSeq := (q.rxSeq + 1) % 65536 }).count (Reg.PCH_Pp_RX p) 32 32 1

/-- Bytes of a cell's header (R314): type, class 1 Frame, length in units of 8 bytes, and `LSEQ`. -/
def frameHeader (typ len lseq : Nat) : List Byte := leBytes 4 (typ * 2 ^ 26 + 2 ^ 24 + len * 2 ^ 16 + lseq)

/-- Pad with zeros to a multiple of 8 bytes. -/
def padTo8 (l : List Byte) : List Byte := l ++ List.replicate ((8 - l.length % 8) % 8) 0

/-- The words of a Frame cell's shelf packet (R321). -/
def cellPacket (typ lseq : Nat) (payload : List Byte) : List Word :=
  let body := padTo8 payload
  packCell typ 80 (frameHeader typ (body.length / 8) lseq ++ body)

-- Patches -------------------------------------------------------------------------------------------------------------------

/-- Where the patch of a mirror for an exposure is kept: exposures that can overlap differ in parity (R154). -/
def patchKey (expo mirror : Nat) : Nat := 8192 * (expo % 2) + mirror

/-- What has been received of a mirror's patch for an exposure. -/
def State.patchOf (s : State) (expo mirror : Nat) : Patch :=
  let q := s.patch (patchKey expo mirror)
  if q.expo = expo % 2 ^ 32 then q else { expo := expo % 2 ^ 32 }

/-- Change what has been received of a mirror's patch. -/
def State.setPatch (s : State) (expo mirror : Nat) (q : Patch) : State := s.updPatch (patchKey expo mirror) fun _ => q

/-- The sensing entry of a porch in the committed plan (R152). -/
def State.sense (s : State) (p : Nat) : Option SenseEntry := s.plan.plan.senses.find? (·.porch = p)

/-- Exposures whose patches may arrive in the current frame: that of the frame before, and that of this frame when the stream
starts before the next tick (R154, R165). -/
def State.expected (s : State) (p : Nat) : List Nat :=
  match s.sense p with
  | some e => (if 0 < s.hrt.frame then [s.hrt.frame - 1] else [])
      ++ (if e.streamOff < s.hrt.cfg.period then [s.hrt.frame] else [])
  | none => []

/-- Mirrors of a LANES range. -/
def LaneEntry.holds (e : LaneEntry) (i : Nat) : Bool := decide (e.first ≤ i) && decide (i < e.first + e.count)

/-- Mark a patch as missing a bit, and count it lost once (R165, R322). -/
def State.losePatch (s : State) (p expo mirror : Nat) : State :=
  let q := s.patchOf expo mirror
  if q.missing then s else (s.setPatch expo mirror { q with missing := true }).count (Reg.PCH_Pp_PATCH p) 48 16 1

/-- The patches of mirrors below `m` that the stream has passed without all their bits are lost (R318, R322). -/
def State.losePassed (s : State) (p expo m : Nat) : State :=
  let e := s.laneEntry p
  s.each (span e.first (m - e.first)) fun i s =>
    let q := s.patchOf expo i
    if q.bits < e.patchBits then s.losePatch p expo i else s

/-- A patch whose stream is over, because a cell of the next exposure has arrived or the frame ends behind a gap, has lost the bits that
never came (R154, R165, R318). -/
def State.loseRest (s : State) (p expo : Nat) : State :=
  let e := s.laneEntry p
  s.losePassed p expo (e.first + e.count)

/-- Count the pixels at the largest code: `i` is the place of the next bit in the patch, `w` the bits of a pixel, `ones` the bits of the
pixel so far that were all 1, and `full` the pixels found (R162). -/
def scanPixels (w : Nat) : Nat → List Bool → Nat × Nat → Nat × Nat
  | _, [], a => a
  | i, x :: xs, (ones, full) =>
    let n := (if i % w = 0 then 0 else ones) + bit x
    if (i + 1) % w = 0 then scanPixels w (i + 1) xs (0, full + bit (decide (n = w))) else scanPixels w (i + 1) xs (n, full)

/-- Bits of a list of bytes, least significant first (R322). -/
def bytesBits (l : List Byte) : List Bool := l.flatMap fun b => (List.range 8).map b.getLsbD

/-- The bits `l` of a mirror's patch from offset `b` on are delivered (R157, R162, R165, R322). A patch begun again is a duplicate. -/
def State.patchBitsIn (s : State) (p expo m b : Nat) (l : List Bool) : State :=
  let e := s.laneEntry p
  let q := s.patchOf expo m
  if b < q.bits then (if b = 0 then s.count (Reg.PCH_Pp_PATCH p) 0 16 1 else s)
  else
    let s := if q.bits < b then s.losePatch p expo m else s
    let q := s.patchOf expo m
    let n := scanPixels e.bits b l (if q.bits < b then 0 else q.ones, q.full)
    let q := { q with bits := b + l.length, ones := n.1, full := n.2 }
    let whole := decide (e.patchBits ≤ q.bits) && !q.missing
    let late := whole && q.fixed.isSome
    let s := s.setPatch expo m { q with late := q.late || late }
    if whole && !late then s.updPorch p fun r => { r with patchesIn := r.patchesIn + 1 } else s

/-- The pieces of patches that `n` bits from offset `b` of a mirror's patch belong to: mirror, offset and bits. -/
def patchPieces (size : Nat) : Nat → Nat → Nat → Nat → List (Nat × Nat × Nat)
  | 0, _, _, _ => []
  | fuel + 1, m, b, n =>
    if n = 0 ∨ size ≤ b then [] else (m, b, min n (size - b)) :: patchPieces size fuel (m + 1) 0 (n - min n (size - b))

/-- Patches that begin in a list of pieces; fewer than 64 bits at the end of a cell are its padding (R322). -/
def begins (l : List (Nat × Nat × Nat)) : Nat := (l.filter fun x => decide (x.2.1 = 0) && decide (64 ≤ x.2.2)).length

/-- The pieces of a cell are delivered in their order. -/
def State.patchSpread (s : State) (p expo : Nat) : List (Nat × Nat × Nat) → List Bool → State
  | [], _ => s
  | x :: xs, l => (s.patchBitsIn p expo x.1 x.2.1 (l.take x.2.2)).patchSpread p expo xs (l.drop x.2.2)

/-- A porch takes a cell's packet for its shelf (R296, R321). -/
def State.shelfCell (s : State) (p typ lseq : Nat) (payload : List Byte) : State × Bool :=
  s.pushPacket p (cellPacket typ lseq payload)

/-- The bits of a patch that has been begun before are discarded (R165). -/
def State.again (s : State) (expo : Nat) (x : Nat × Nat × Nat) : Bool := decide (x.2.1 < (s.patchOf expo x.1).bits)

/-- A cell of an expected exposure: the pieces in the porch's range are delivered, unless all of them have been before, and patches
outside it are foreign (R165, R322). -/
def State.takePatch (s : State) (p x seq mirror bit : Nat) (pieces : List (Nat × Nat × Nat)) (pixels : List Byte) : State :=
  let e := s.laneEntry p
  let mine := pieces.takeWhile fun y => e.holds y.1
  let s := s.count (Reg.PCH_Pp_PATCH p) 16 16 (begins (pieces.drop mine.length))
  let s := if x = s.hrt.frame ∧ 0 < x then s.loseRest p (x - 1) else s
  if mine.all (s.again x) then mine.foldl (fun s y => s.patchBitsIn p x y.1 y.2.1 (List.replicate y.2.2 false)) s
  else
    let s := (s.losePassed p x mirror).updPorch p fun q => { q with holed := false }
    let r := s.shelfCell p 1 seq (leBytes 4 x ++ leBytes 2 mirror ++ leBytes 2 bit ++ pixels)
    if r.2 then r.1.patchSpread p x mine (bytesBits pixels)
    else (mine.filter fun y => !s.again x y).foldl (fun s y => s.losePatch p x y.1) r.1

/-- PATCH_CELL (R165, R322): a foreign patch is discarded on arrival. -/
def execPatchCell (porch : BitVec 4) (expo : BitVec 32) (mirror : BitVec 13) (bit : BitVec 16) (pixels : List Byte)
    (s : State) : Host.Outcome State Fault Refusal :=
  let p := porch.toNat
  if !s.passes p then .next s
  else
    let e := s.laneEntry p
    let m := mirror.toNat
    let seq := (s.porch p).rxSeq
    let s := s.receive p
    let pieces := patchPieces e.patchBits 600 m bit.toNat (8 * pixels.length)
    match (s.expected p).find? fun x => x % 2 ^ 32 = expo.toNat with
    | some x =>
      if e.role = 1 ∧ e.holds m then .next (s.takePatch p x seq m bit.toNat pieces pixels)
      else .next (s.count (Reg.PCH_Pp_PATCH p) 16 16 (begins pieces))
    | none => .next (s.count (Reg.PCH_Pp_PATCH p) 16 16 (begins pieces))

/-- An exposure before the first one under the plan in force, which begins at tick T + B − 1 of a BRIDGED commit (R174). -/
def State.unsensed (s : State) (n : Nat) : Bool :=
  decide (s.plan.commitFrame < s.plan.bridgeEnd) && decide (n + 1 < s.plan.bridgeEnd)

/-- The exposure that a cutoff of a mirror's micro-batch belongs to: that of the frame before until its flags are fixed, where the plan
in force has one (R155, R174). -/
def State.openExposure (s : State) (m : Nat) : Nat :=
  let n := s.hrt.frame - 1
  if (s.patchOf n m).fixed.isSome || s.unsensed n then s.hrt.frame else n

/-- The exposure that a lost cell of a mirror belongs to: that of the frame before while its patch is not complete. -/
def State.lostExposure (s : State) (p m : Nat) : Nat :=
  let n := s.hrt.frame - 1
  if decide ((s.laneEntry p).patchBits ≤ (s.patchOf n m).bits) || s.unsensed n then s.hrt.frame else n

/-- CELL_DROPPED (R317): never delivered, and counted; the shelf packet it had begun is rewound (R291), and a patch or reading it
carried is lost (R165). -/
def execCellDropped (porch : BitVec 4) (cause : DropCause) (mirror : Option (BitVec 13)) (s : State) :
    Host.Outcome State Fault Refusal :=
  let p := porch.toNat
  if !s.linked p then .next s
  else
    let e := s.laneEntry p
    let s := s.count (Reg.PCH_Pp_RX p) 16 16 1
    let s := if (e.role = 1 ∨ e.role = 3) ∧ cause = .crc then s.rewind p 32 2 else s
    let s := s.updPorch p fun q => { q with holed := true }
    match e.role, mirror with
    | 1, some m => .next (if e.holds m.toNat then s.losePatch p (s.lostExposure p m.toNat) m.toNat else s)
    | 3, _ => .next (s.count (Reg.PCH_Pp_PATCH p) 48 16 1)
    | _, _ => .next s

/-- The frame comes before the first tap reading under the plan in force, reading T + B (R174). -/
def State.untapped (s : State) : Bool :=
  decide (s.plan.commitFrame < s.plan.bridgeEnd) && decide (s.hrt.frame < s.plan.bridgeEnd)

/-- TAP_CELL (R170, R171, R174, R323): readings of the current frame's number for ports of the porch's range; the first under a plan is
that of tick T + B. A packet with an uncorrectable word is discarded whole (R292). -/
def execTapCell (porch : BitVec 4) (tick : BitVec 32) (first : BitVec 12) (readings : List TapReading × WordCheck)
    (s : State) : Host.Outcome State Fault Refusal :=
  let p := porch.toNat
  if !s.passes p then .next s
  else
    let e := s.laneEntry p
    let s := s.receive p
    if e.role = 3 ∧ tick.toNat = s.hrt.frame % 2 ^ 32 ∧ (s.sense p).isSome ∧ s.untapped = false then
      let s := s.noteWord p readings.2
      if readings.2 = .uncorrectable then .next s else
      let new := (readings.1.zipIdx.filter fun r => e.holds (first.toNat + r.2)).map fun r =>
        (first.toNat + r.2, { r.1 with flags := r.1.flags % 16 })
      let taps := new.foldl (fun t r => tset (fun _ => ({} : TapReading)) t r.1 r.2) s.mov.tapNow
      .next { s with mov := { s.mov with tapNow := taps } }
    else .next s

/-- The porch of an IMAGER role whose range holds a mirror. -/
def State.imagerPorch (s : State) (m : Nat) : Option Nat := s.porchFor 1 m

-- Cutoffs and records -------------------------------------------------------------------------------------------------------

/-- FLAGS bits 1, 2 and 5 as they stand for a patch (R162): MISSING or LATE, and CLIPPED. Bits that have not come while a number of the
link is missing behind the last sensing cell count as lost (DEDUCED, log 13). -/
def patchFlags (total : Nat) (holed : Bool) (q : Patch) : Nat :=
  (if q.bits = 0 ∨ q.missing then 2 else if q.bits < total then (if holed then 2 else 4) else 0) + 32 * bit (decide (16 ≤ q.full))

/-- Fix the flags of one mirror (R163). -/
def State.fixFlags (s : State) (expo m : Nat) : State :=
  match s.imagerPorch m with
  | some p =>
    let q := s.patchOf expo m
    if q.fixed.isSome then s else s.setPatch expo m { q with fixed := some (patchFlags (s.laneEntry p).patchBits (s.porch p).holed q) }
  | none => s

/-- The exposure tick (low 24 bits) and the mirror of a PATCH packet in a shelf (R321, R322). -/
def packetExpo (ws : List Word) : Nat := bitsOf ((ws[0]?).getD 0) 32 24
def packetMirror (ws : List Word) : Nat := bitsOf ((ws[1]?).getD 0) 8 16

/-- Drop the packets of a sensing shelf that satisfy `p`: they have been copied, or removed as late. -/
def State.dropPackets (s : State) (n : Nat) (p : List Word → Bool) : State :=
  s.updShelf n fun x => { x with fill := x.fill.filter fun ws => !p ws, drain := x.drain.filter fun ws => !p ws }

/-- The copy of a mirror's packet meets a word that is corrected or uncorrectable; a packet with an uncorrectable one is discarded and counts
as lost (R165, R292). -/
def State.checkPatch (s : State) (x : Nat) (c : BitVec 13 × WordCheck) : State :=
  match s.imagerPorch c.1.toNat with
  | some p =>
    let s := s.noteWord p c.2
    if c.2 = .uncorrectable ∧ 0 < (s.patchOf x c.1.toNat).bits then s.losePatch p x c.1.toNat else s
  | none => s

/-- CUTOFF (R157, R163): `mirrors` is the first mirror of the micro-batch and their count. The patches that are in are copied into stage-0 scratch, and its flags are fixed. -/
def execCutoff (mirrors : BitVec 13 × BitVec 14) (checks : List (BitVec 13 × WordCheck)) (s : State) :
    Host.Outcome State Fault Refusal :=
  let x := s.openExposure mirrors.1.toNat
  let ms := (span mirrors.1.toNat mirrors.2.toNat).filter fun m => decide (m < 8192)
  let s := (checks.filter fun c => ms.contains c.1.toNat).foldl (fun s c => s.checkPatch x c) s
  let s := s.each ms fun m s => s.fixFlags x m
  .next (s.each (ms.filterMap s.imagerPorch).eraseDups fun p s => s.dropPackets p fun ws =>
    decide (packetExpo ws = x % 2 ^ 24) && ms.contains (packetMirror ws))

/-- An FP32 output of the network is NaN or infinite (R162, R164). -/
def netBad (o : NetOut) : Bool := f32NonFinite o.x || f32NonFinite o.y || f32NonFinite o.conf || f32NonFinite o.energy

/-- A value at a scale of `2^n` lies outside a range after rounding. -/
def f32Outside (n : Nat) (lo hi : Int) (w : BitVec 32) : Bool := decide (f32Scaled w n < lo) || decide (hi < f32Scaled w n)

/-- A conversion of the outputs saturates (R142, R148). -/
def netSaturates (o : NetOut) : Bool :=
  !netBad o && (f32Outside 15 (-32768) 32767 o.x || f32Outside 15 (-32768) 32767 o.y || f32Outside 16 0 65535 o.conf
    || f32Outside 12 0 65535 o.energy)

/-- The estimate record of a mirror from the network's outputs and the flags fixed at its cutoff (R161 to R164). -/
def estRecord (tick flags : Nat) (o : NetOut) : EstRec :=
  let bad := netBad o
  let sat := !bad && (f32Outside 15 (-32768) 32767 o.x || f32Outside 15 (-32768) 32767 o.y)
  let esat := !bad && decide (65535 < f32Scaled o.energy 12)
  let valid := decide (flags % 8 = 0) && !bad
  { mirror := o.mirror.toNat
    thetaX := if bad then 0 else f32ToQ15 o.x
    thetaY := if bad then 0 else f32ToQ15 o.y
    conf := if valid then f32ToQ016 o.conf else 0
    energy := if bad then 0 else f32ToEnergy o.energy
    flags := bit valid + flags + 8 * bit bad + 16 * bit sat + 64 * bit esat
    tick := tick }

/-- Estimates exist in the current frame: a plan governs it, and no bridge runs (R155, R173, R174). -/
def State.estimates (s : State) : Bool :=
  s.hrt.running && !s.boot.stopped && s.plan.committed && decide (s.plan.st ≠ .bridge) && decide (0 < s.hrt.frame)

/-- A conversion of the heads stage that saturates sets the flag of the frame bank that issued it (R148). -/
def State.noteSaturate (s : State) (o : NetOut) : State :=
  if netSaturates o ∧ o.tile.toNat < 96 then s.updTile o.tile.toNat fun t => { t with frame := { t.frame with saturate := true } } else s

/-- One mirror's record is made and lands; the loops it unblocks are computed, and their commands enter cells (R158, R184). -/
def State.landOut (s : State) (late : List Nat) (o : NetOut) : State :=
  let n := s.hrt.frame - 1
  let m := o.mirror.toNat
  if (s.imagerPorch m).isSome then
    let s := s.fixFlags n m
    let r := estRecord (n % 2 ^ 32) (((s.patchOf n m).fixed).getD 2) o
    (((s.noteSaturate o).landRecord r late).cellReady (2 * m)).cellReady (2 * m + 1)
  else s

/-- ESTIMATE_LANDS (R158). -/
def execEstimateLands (outs : List NetOut) (late : List (BitVec 14)) (s : State) : Host.Outcome State Fault Refusal :=
  if s.estimates then .next (outs.foldl (fun s o => s.landOut (late.map BitVec.toNat) o) s) else .next s

-- At the tick ---------------------------------------------------------------------------------------------------------------

/-- Patches of the exposure whose frame ends are removed; those in after their cutoff are counted late, and behind a gap those that are
not complete are counted lost (R157, R165). -/
def State.patchTick (s : State) : State :=
  let n := s.hrt.frame - 1
  let s := s.each ((s.porchesOf 1).filter fun p => (s.porch p).holed && !s.unsensed n) fun p s => s.loseRest p n
  let late (p : Nat) : Nat := ((List.range 8192).filter fun m =>
    decide (s.imagerPorch m = some p) && (s.patchOf n m).late).length
  let ps := s.porchesOf 1
  let keys := s.est.patches.filter fun q => q.2.expo ≠ n % 2 ^ 32
  let s := if s.est.patches.any fun q => q.2.late then s.each ps fun p t => t.count (Reg.PCH_Pp_PATCH p) 32 16 (late p) else s
  let s := s.each ps fun p s => s.dropPackets p fun ws => decide (packetExpo ws ≠ s.hrt.frame % 2 ^ 24)
  { s with est := { s.est with patches := keys } }

/-- A frame without a patch in from an IMAGER head whose porch is not lost (R166). -/
def State.silentImagers (s : State) : State :=
  let s := s.each ((s.porchesOf 1).filter fun p => !(s.porch p).lost && decide ((s.porch p).patchesIn = 0) && (s.sense p).isSome && s.estimates)
    fun p s => (s.raise Src.pch 8 p).record 0x0007 Sev.warning 1 ([BitVec.ofNat 8 p, 0, 0, 0, 0, 0, 0, 0] ++ s.frameBytes)
  s.each (List.range 16) fun p s => s.updPorch p fun q => { q with patchesIn := 0 }

/-- Every port of a TAP range has a reading from the next tick on; one not received is MISSING (R170, R171). None exists before the first
under the plan in force (R174). -/
def State.tapTick (s : State) : State :=
  let ports := ((s.porchesOf 3).filter fun p => (s.sense p).isSome && !s.untapped).flatMap fun p =>
    let e := s.laneEntry p; span e.first e.count
  let taps := ports.foldl (fun t i => tset (fun _ => ({} : TapReading)) t i (tget (fun _ => {}) s.mov.tapNow i)) []
  { s with mov := { s.mov with taps := taps, tapNow := [] } }

end Sys2Proof.Machine
end

