-- ==== Sys2Proof/Machine/Lanes.lean ====
section
/-! DEFINITION. Receive lanes: codeword lock, calibration runs, laser fade, the spare lane and the LANE cells that ask for it
(R310, R313, R343, R344, R351 to R372, R527). -/
namespace Sys2Proof.Machine

/-- Bit `i` of a small bit set. -/
def natBit (n i : Nat) : Bool := decide (n / 2 ^ i % 2 = 1)
/-- A bit set with bit `i` set or cleared. -/
def putBit (n i : Nat) (b : Bool) : Nat := n - bit (natBit n i) * 2 ^ i + bit b * 2 ^ i

/-- The lane holds codeword lock (R313). -/
def State.hasLock (s : State) (p l : Nat) : Bool := natBit (s.porch p).locked l

/-- The working lane stream of lane `l`, 0 to 7, is in service (R310): on its own lane or on its duplicate. A DOWN lane that has
found lock again returns only by RETURN (R527). -/
def State.streamIn (s : State) (p l : Nat) : Bool :=
  let st := (s.lane p l).state
  (s.hasLock p l && decide (st ≠ .shed) && decide (st ≠ .compatOut) && decide (st ≠ .down))
    || (decide ((s.porch p).mirror = l) && s.hasLock p 8)

/-- w: working lane streams in service (R310). -/
def State.width (s : State) (p : Nat) : Nat := ((List.range 8).filter fun l => s.streamIn p l).length

/-- `MIN_W`: 0 acts as 1, values above 8 as 8 (R350). -/
def State.minWidth (s : State) (p : Nat) : Nat := clampNat 1 8 (s.inForce (Reg.PCH_Pp_CTL p) 4 4)

-- LANE cells (R343, R344) -------------------------------------------------------------------------------------------------

/-- A LANE request of this receiver waits to be sent. -/
def State.askLane (s : State) (p op l : Nat) : State := s.updCal p fun c => { c with requests := c.requests ++ [(op, l)] }

/-- Send the next waiting request when none is outstanding (R344). -/
def State.pumpLane (s : State) (p : Nat) : State :=
  match (s.porch p).laneReq, (s.cal p).requests with
  | none, (op, l) :: rest =>
    let s := (s.updCal p fun c => { c with requests := rest }).updPorch p fun q => { q with laneReq := some (op, l) }
    s.send p prioFrame (.lane op l 0 0)
  | _, _ => s

/-- A MIRROR_REQ waits or is outstanding. -/
def State.mirrorPending (s : State) (p : Nat) : Bool :=
  ((s.cal p).requests.any fun r => r.1 = 1) || (match (s.porch p).laneReq with | some r => decide (r.1 = 1) | none => false)

/-- The unit answers a request of the far end about its transmit lanes (R343, R344, R352). -/
def State.answerLane (s : State) (p op l : Nat) : State :=
  if 7 < l then s.send p prioFrame (.lane (op + 1) l 2 (s.porch p).txSeq)
  else
    let s := s.updPorch p fun q => match op with
      | 1 => { q with txMirror := l }
      | 3 => { q with txMirror := 15 }
      | 5 => { q with txShed := putBit q.txShed l true }
      | _ => { q with txShed := putBit q.txShed l false }
    s.send p prioFrame (.lane (op + 1) l 0 (s.porch p).txSeq)

/-- An OK answer to a request of this receiver. SHED_DONE narrows the porch at once; the other changes follow at the next tick
(R356, R359, R366, R367). -/
def State.laneDone (s : State) (p op l : Nat) : State :=
  let s := s.updPorch p fun q => { q with laneReq := none }
  match op with
  | 2 => (s.updPorch p fun q => { q with mirror := l }).updCal p fun c => { c with answered := c.answered ++ [(2, l)] }
  | 4 => (s.updPorch p fun q => { q with mirror := 15 }).updCal p fun c => { c with answered := c.answered ++ [(4, l)] }
  | 6 =>
    let c := s.cal p
    if c.compat ∧ c.lane = l then
      (s.updLane p l fun x => { x with state := .compatOut }).updCal p fun c => { c with shedAt := s.hrt.frame }
    else s.updLane p l fun x => { x with state := .shed }
  | _ => s.updCal p fun c => { c with answered := c.answered ++ [(8, l)] }

/-- LANE_CELL (R343, R344): a BUSY answer makes the receiver ask again; BAD_LANE ends the request (log 14). -/
def execLaneCell (porch : BitVec 4) (op : BitVec 8) (lane : BitVec 8) (result : BitVec 8) (_lseq : BitVec 16) (s : State) :
    Host.Outcome State Fault Refusal :=
  let p := porch.toNat
  let o := op.toNat
  let l := lane.toNat
  if !s.linked p then .next s
  else
    let s := s.receive p
    if o = 1 ∨ o = 3 ∨ o = 5 ∨ o = 7 then .next (s.answerLane p o l)
    else if (s.porch p).laneReq = some (o - 1, l) ∧ (o = 2 ∨ o = 4 ∨ o = 6 ∨ o = 8) then
      match result.toNat with
      | 0 => .next ((s.laneDone p o l).pumpLane p)
      | 1 => .next (((s.updPorch p fun q => { q with laneReq := none }).updCal p fun c =>
          { c with requests := (o - 1, l) :: c.requests }).pumpLane p)
      | _ => .next ((s.updPorch p fun q => { q with laneReq := none }).pumpLane p)
    else .next s

-- Calibration runs (R354 to R359) -------------------------------------------------------------------------------------------

/-- Values moved `i` of 256 steps from the old to the target values, rounded to nearest (R356). -/
def stepValue (i : Nat) (a b : Int) : Int := a + rneDiv ((i : Int) * (b - a)) 256

/-- Step `i` of a list of taps; a tap one side lacks counts as 0. -/
def stepList (i : Nat) (a b : List Int) : List Int :=
  (List.range (max a.length b.length)).map fun k => stepValue i ((a[k]?).getD 0) ((b[k]?).getD 0)

/-- All values of a lane at step `i` (R356). -/
def CalValues.stepTo (old target : CalValues) (i : Nat) : CalValues :=
  { ctle := (stepValue i old.ctle target.ctle).toNat, cdr := stepValue i old.cdr target.cdr
    ffe := stepList i old.ffe target.ffe, dfe := stepList i old.dfe target.dfe, slicer := stepList i old.slicer target.slicer }

/-- `DELTA_T` in 1/256 °C; 0 acts as 1 (R354, R372). -/
def State.deltaT (s : State) : Nat := 256 * max 1 (s.inForce Reg.LNH_CTL 0 4)

/-- The object number of a lane in notices: 16 times its porch, plus the lane (log 14). -/
def laneObj (p l : Nat) : Nat := 16 * p + l

/-- A run ends with a result (R356 to R358, R372); `stays`: a queued lane remains queued. The lane records the temperature of its
region at the end of every run, whatever its result (R354), and a restored lane keeps the one of its record (R362). -/
def State.endRun (s : State) (p result : Nat) (stays : Bool) : State :=
  let c := s.cal p
  let k := c.lane
  let t := if c.restore then (s.lane p k).runT else c.regionT
  let s := s.updLane p k fun x =>
    { x with runs := min (2 ^ 32 - 1) (x.runs + 1), calResult := result, queued := x.queued && stays
             runT := t, runFrame := s.nextTick }
  let s := s.updCal p fun c =>
    { c with phase := .idle, lane := 15, step := 0, restore := false, compat := false, heldFor := 0
             deferred := if result = 5 then c.deferred ++ [k] else c.deferred.filter (· ≠ k) }
  let s := s.count Reg.LNH_STATUS 48 16 1
  s.raise Src.lnh (if result = 1 then 0 else if result = 2 then 1 else 2) (laneObj p k) result

/-- Lanes of a porch in the order a porch takes them (R355): lane 8, then 0 to 7; those that gave no answer last. -/
def State.calOrder (s : State) (p : Nat) : List Nat :=
  let ls := (8 :: List.range 8).filter fun l => (s.lane p l).queued && decide ((s.lane p l).state = .inService)
  (ls.filter fun l => !(s.cal p).deferred.contains l) ++ ls.filter fun l => (s.cal p).deferred.contains l

/-- The spare is held for a faded lane (R355, R369). -/
def State.spareHeld (s : State) (p : Nat) : Bool := decide ((s.lane p 8).state = .carrying) && decide ((s.cal p).phase = .idle)

/-- How a run of lane `l` may begin now: 1 natively, 2 in MH-3000 mode, 0 not (R355, R358, R359). -/
def State.runMode (s : State) (p l : Nat) : Nat :=
  let ctl := Reg.LNH_Pp_CTL p
  if l = 8 then 1
  else
    let compat := decide (s.minWidth p + 1 ≤ s.width p)
    if s.inForce ctl 0 1 = 1 then (if compat then 2 else 0)
    else if (s.lane p 8).state = .inService then 1
    else if s.spareHeld p && decide (s.inForce ctl 2 1 = 1) && compat then 2
    else 0

/-- No LANE request of this receiver is outstanding or waits (R355). -/
def State.laneIdle (s : State) (p : Nat) : Bool := (s.porch p).laneReq.isNone && (s.cal p).requests.isEmpty

/-- The next run of a porch and its mode, when one may begin at the next tick (R355). -/
def State.runDue (s : State) (p : Nat) : Option (Nat × Nat) :=
  if (s.porch p).state = .ready ∧ (s.cal p).phase = .idle ∧ s.inForce (Reg.LNH_Pp_CTL p) 3 1 = 1
      ∧ s.laneIdle p then
    ((s.calOrder p).map fun l => (l, s.runMode p l)).find? fun r => r.2 ≠ 0
  else none

/-- A lane without a run goes back into service, or is DOWN where it holds no lock: the loss then counts at the next evaluation of
its level (R527). -/
def State.backInService (s : State) (p l : Nat) : State :=
  s.updLane p l fun x => if s.hasLock p l then { x with state := .inService } else { x with state := .down, lockLost := true }

/-- A run of lane `l` begins at tick a, the next tick (R356, R358, R359). -/
def State.beginRun (s : State) (p l mode : Nat) (restore : Bool) : State :=
  let s := s.updLane p l fun x => { x with old := x.vals }
  let s := s.updCal p fun c =>
    { c with phase := if l = 8 then (if restore then .ramp else .adapt) else if mode = 2 then .compat else .mirroring
             lane := l, start := s.nextTick, step := 0, restore := restore, compat := decide (mode = 2), heldFor := 0, result := 1 }
  if l = 8 then s else s.askLane p (if mode = 2 then 5 else 1) l

/-- CAL_RUN_START (R355): the run that is due on the porch begins at the next tick. -/
def State.startRun (s : State) (p : Nat) : State :=
  match s.runDue p with | some (l, m) => s.beginRun p l m false | none => s

def execCalRunStart (porch : BitVec 4) (s : State) : Host.Outcome State Fault Refusal := .next (s.startRun porch.toNat)

/-- Tick after which ramp step i falls at its i-th tick (R356, R362). -/
def CalRun.rampFrom (c : CalRun) : Nat := if c.restore then c.start else c.start + 64

/-- Ramp step that falls at the next tick, 0 none. -/
def State.rampDue (s : State) (p : Nat) : Nat :=
  let c := s.cal p
  if c.phase = .adapt ∨ c.phase = .ramp then min 256 (s.nextTick - c.rampFrom) else 0

/-- Apply ramp step `i`; after the last one a lane that holds lock asks for the end of the duplication (R356). -/
def State.rampTo (s : State) (p i : Nat) : State :=
  let c := s.cal p
  let s := s.updLane p c.lane fun x => { x with vals := x.old.stepTo x.target i }
  let s := s.updCal p fun c => { c with phase := .ramp, step := i }
  if i = 256 ∧ c.lane ≠ 8 ∧ s.hasLock p c.lane then
    (s.updCal p fun c => { c with phase := .unmirroring }).askLane p 3 c.lane
  else s

/-- RAMP_STEP (R356): the first step brings the targets that the adaptation found. -/
def execRampStep (porch : BitVec 4) (targets : CalValues) (s : State) : Host.Outcome State Fault Refusal :=
  let p := porch.toNat
  let i := s.rampDue p
  if i = 0 ∨ i ≤ (s.cal p).step then .next s
  else
    let s := if (s.cal p).phase = .adapt then s.updLane p (s.cal p).lane fun x => { x with target := targets } else s
    .next (s.rampTo p i)

/-- NO_ANSWER is due: tick a + 16 without MIRROR_ON (R356). -/
def State.noAnswerDue (s : State) (p : Nat) : Bool :=
  let c := s.cal p
  decide (c.phase = .mirroring) && decide (c.start + 16 ≤ s.nextTick) && !c.answered.contains (2, c.lane)

/-- The run ends with NO_ANSWER; the lane stays queued. -/
def State.noAnswer (s : State) (p : Nat) : State :=
  if s.noAnswerDue p then
    let k := (s.cal p).lane
    let s := s.updPorch p fun q => if q.laneReq = some (1, k) then { q with laneReq := none } else q
    (s.updCal p fun c => { c with requests := c.requests.filter (· ≠ (1, k)) }).endRun p 5 true
  else s

/-- NO_ANSWER (R356). -/
def execNoAnswer (porch : BitVec 4) (s : State) : Host.Outcome State Fault Refusal := .next (s.noAnswer porch.toNat)

/-- The lane of the run holds lock in 16 consecutive frames, with the frame that ends (R357). -/
def State.regainDue (s : State) (p : Nat) : Bool :=
  let c := s.cal p
  decide (c.phase = .lockWait) && s.hasLock p c.lane && decide (16 ≤ c.heldFor + 1)

/-- The run goes on to its end with REVERTED (R357). -/
def State.regain (s : State) (p : Nat) : State :=
  if s.regainDue p then
    let c := s.cal p
    let s := s.updCal p fun c => { c with result := 3, phase := if c.compat then .compat else .unmirroring }
    if c.lane = 8 then s.endRun p 3 false else s.askLane p (if c.compat then 7 else 3) c.lane
  else s

/-- CAL_LOCK_REGAINED (R357). -/
def execCalLockRegained (porch : BitVec 4) (s : State) : Host.Outcome State Fault Refusal := .next (s.regain porch.toNat)

/-- 256 frames after the loss the lane of the run has not regained lock (R357). -/
def State.lockFailDue (s : State) (p : Nat) : Bool :=
  let c := s.cal p
  decide (c.phase = .lockWait) && !s.hasLock p c.lane && decide (c.lostAt + 256 ≤ s.nextTick)

/-- The run ends with LOCK_FAILED, and its lane is SPARED (R357); a lane that lane 8 does not duplicate leaves service as R527 says
(log 14). -/
def State.lockFail (s : State) (p : Nat) : State :=
  if s.lockFailDue p then
    let c := s.cal p
    let s := s.updLane p c.lane fun x =>
      if c.compat then { x with state := .shed, lockLost := true }
      else if (s.porch p).mirror = c.lane then { x with state := .spared, level := max 2 x.level, lockFailed := true }
      else { x with state := .down, lockLost := true }
    s.endRun p 4 false
  else s

/-- LOCK_FAILED (R357). -/
def execLockFailed (porch : BitVec 4) (s : State) : Host.Outcome State Fault Refusal := .next (s.lockFail porch.toNat)

/-- 180 µs after SHED_DONE can fall in this frame: 216,000 cycles of the frame clock (R359). -/
def State.compatDue (s : State) (p : Nat) : Bool :=
  decide (216000 < (s.hrt.frame + 1 - (s.cal p).shedAt) * s.hrt.cfg.period)

/-- COMPAT_APPLY (R359): the targets take effect in one step, and the lane is asked back. -/
def execCompatApply (porch : BitVec 4) (targets : CalValues) (s : State) : Host.Outcome State Fault Refusal :=
  let p := porch.toNat
  let c := s.cal p
  if c.phase = .compat ∧ c.step = 0 ∧ (s.lane p c.lane).state = .compatOut ∧ s.compatDue p then
    let s := s.updLane p c.lane fun x => { x with target := targets, vals := targets, hasVals := true }
    .next (((s.updCal p fun c => { c with step := 256 }).askLane p 7 c.lane).pumpLane p)
  else .next s

/-- The run in progress is abandoned (R358, R366, R371): it ends at once and the values in force are kept. A fade action (`move`)
takes the duplicate itself; otherwise the far end is asked to undo what the run asked for, and the lane returns with the answer. -/
def State.abandonRun (s : State) (p : Nat) (stays move : Bool) : State :=
  let c := s.cal p
  if c.phase = .idle then s
  else
    let s' := s.endRun p 2 stays
    if c.lane = 8 ∨ move then s'
    else if c.compat then if c.step = 256 then s' else s'.askLane p 7 c.lane
    else if c.phase = .unmirroring then s' else s'.askLane p 3 c.lane

-- Lock (R313, R357, R527) -----------------------------------------------------------------------------------------------------

/-- The cage that carries a lane (R309). -/
def laneCage (p l : Nat) : Nat := if l < 8 then p else 16 + p / 8

/-- The cage of a lane holds a module of the qualified list with its data path up (R345). -/
def State.cageCarries (s : State) (p l : Nat) : Bool := (s.cage (laneCage p l)).qualified && (s.cage (laneCage p l)).dataPath

/-- CODEWORD_LOCK (R313, R340): a lane that has not been shed carries cells; a porch whose eight streams hold lock leaves TRAINING
for DISCOVERY, and every lane that holds lock records the temperature at the end of this training (R354). A lane locks for the first
time with the values that its adaptation found, which `lane` brings (R351). -/
def execCodewordLock (porch : BitVec 4) (lane : Fin 9 × CalValues) (s : State) : Host.Outcome State Fault Refusal :=
  let p := porch.toNat
  let l := lane.1.val
  if !s.boot.started || s.boot.stopped || decide ((s.porch p).state = .dark) || !s.cageCarries p l then .next s
  else
    let s := s.updPorch p fun q => { q with locked := putBit q.locked l true, state := if q.state = .down then .training else q.state }
    let s := s.updLane p l fun x =>
      let x := { x with goodCw := 4, badCw := 0, undelin := false }
      if x.state = .down ∧ x.level < 3 ∧ !x.lockLost then
        { x with state := .inService, vals := lane.2, hasVals := true, runT := (s.cal p).regionT }
      else x
    let held := ((List.range 9).filter fun i => s.hasLock p i).length
    if (s.porch p).state = .training ∧ 8 ≤ held then
      let s := s.updPorch p fun q => { q with state := .discovery, identOk := false, recordOk := false, echoLeft := 16 }
      .next (s.each (List.range 9) fun i s =>
        if s.hasLock p i then s.updLane p i fun x => { x with runT := (s.cal p).regionT } else s)
    else .next s

/-- A lane loses codeword lock: in its own run it returns to its old values (R357); otherwise it leaves w at once and takes level
Shed at the next tick (R527). A porch without any lock is DOWN (log 15). -/
def State.loseLock (s : State) (p l : Nat) : State :=
  let c := s.cal p
  let s := s.updPorch p fun q => { q with locked := putBit q.locked l false }
  let s := s.updLane p l fun x => { x with goodCw := 0, undelin := true }
  let s :=
    if c.phase ≠ .idle ∧ c.lane = l then
      (s.updLane p l fun x => { x with vals := x.old }).updCal p fun c => { c with phase := .lockWait, lostAt := s.hrt.frame, heldFor := 0 }
    else s.updLane p l fun x =>
      { x with lockLost := true, state := if x.state = .inService ∨ x.state = .carrying then .down else x.state }
  let q := s.porch p
  if q.locked = 0 ∧ q.state ≠ .dark then s.updPorch p fun q => { q with state := .down } else s

/-- LOCK_LOSS (R313, R527). -/
def execLockLoss (porch : BitVec 4) (lane : Fin 9) (s : State) : Host.Outcome State Fault Refusal :=
  if s.hasLock porch.toNat lane.val then .next (s.loseLock porch.toNat lane.val) else .next s

/-- UNCORRECTABLE_CODEWORD (R313): cell delineation is lost until the next correctable codeword, and the eighth in a row loses lock. -/
def execUncorrectableCodeword (porch : BitVec 4) (lane : Fin 9) (s : State) : Host.Outcome State Fault Refusal :=
  let p := porch.toNat
  let l := lane.val
  let s := s.updLane p l fun x => { x with badCw := min 8 (x.badCw + 1), goodCw := 0, undelin := true }
  .next (if 8 ≤ (s.lane p l).badCw ∧ s.hasLock p l then s.loseLock p l else s)

/-- LSEQ_GAP (R318): the missing number counts as a gap, and delivery goes on behind it. -/
def execLseqGap (porch : BitVec 4) (lseq : BitVec 16) (s : State) : Host.Outcome State Fault Refusal :=
  let p := porch.toNat
  if !s.linked p then .next s
  else .next ((s.updPorch p fun q => { q with rxSeq := (lseq.toNat + 1) % 65536, holed := true }).count (Reg.PCH_Pp_RX p) 0 16 1)

-- Fade (R363 to R369) ---------------------------------------------------------------------------------------------------------

/-- `10^(n/2560) ≤ a/b`: the fade a/b is at least n/256 dB (R363). -/
def fadeAtLeast (a b : Nat) (n : Int) : Bool :=
  if 0 ≤ n then decide (10 ^ n.toNat * b ^ 2560 ≤ a ^ 2560) else decide (b ^ 2560 ≤ a ^ 2560 * 10 ^ (-n).toNat)

/-- The largest n in a range of `2^fuel` from `lo` with `fadeAtLeast`. -/
def fadeFrom (a b : Nat) : Nat → Int → Int
  | 0, lo => lo
  | k + 1, lo => if fadeAtLeast a b (lo + 2 ^ k) then fadeFrom a b k (lo + 2 ^ k) else fadeFrom a b k lo

/-- A lane's fade in 1/256 dB, rounded down (R363, log 14); none where the logarithm has no value. -/
def fadeOf (a b : Nat) : Option Int := if a = 0 ∨ b = 0 then none else some (fadeFrom a b 15 (-16384))

/-- Corrected bits of the 64-frame window. -/
def Lane.corr64 (x : Lane) : Nat := x.corr.sum

/-- The level whose condition holds on the window (R365). B64 compares corrected bits with 128 Gb/s over 64 frames. -/
def Lane.levelNow (period : Nat) (x : Lane) : Nat :=
  let full := decide (x.fades.length = 64)
  if (full && decide (x.f64 ≤ -1152)) || decide (81920 * period ≤ x.corr64 * 120000) then 3
  else if (full && decide (x.f64 ≤ -768)) || decide (163840 * period ≤ x.corr64 * 1200000) then 2
  else if full && decide (x.f64 ≤ -384) then 1 else 0

/-- The level after a tick (R365, R527): Watch alone clears by itself. -/
def Lane.nextLevel (period : Nat) (x : Lane) : Nat :=
  let n := if x.lockLost then 3 else x.levelNow period
  if x.level < n then n else if x.level = 1 ∧ n = 0 ∧ -256 < x.f64 then 0 else x.level

/-- The mean of A over 4,096 frames as BASELINE holds it, rounded to nearest (R364, log 14). -/
def baseMean (sum : Nat) : Nat := min 65535 ((2 * sum + 4096) / 8192)

/-- One frame of baseline formation: the frame counts while the lane holds lock, and the 4,096th forms the baseline (R364). -/
def State.baseFrame (s : State) (p l a : Nat) : State :=
  let x := s.lane p l
  if x.baseOk ∨ !s.hasLock p l then s
  else if x.baseFrames + 1 < 4096 then
    s.updLane p l fun x => { x with baseFrames := x.baseFrames + 1, baseSum := x.baseSum + a }
  else
    (s.updLane p l fun x => { x with baseFrames := 4096, baseSum := x.baseSum + a, baseOk := true, baseline := baseMean (x.baseSum + a) }).raise
      Src.lnh 6 (laneObj p l)

/-- BASELINE_FORMED (R364): the lane has 4,095 frames, and `lane` brings the statistic of the frame that ends. -/
def execBaselineFormed (porch : BitVec 4) (lane : Fin 9 × BitVec 16) (s : State) : Host.Outcome State Fault Refusal :=
  if (s.lane porch.toNat lane.1.val).baseFrames = 4095 then .next (s.baseFrame porch.toNat lane.1.val lane.2.toNat) else .next s

/-- One frame's statistics of a lane (R363 to R365). -/
def State.fadeFrame (s : State) (p l a bits : Nat) : State :=
  let s := (s.count (Reg.LNH_Pp_Ll_BER p l) 32 32 bits).updLane p l fun x => { x with corr := (bits :: x.corr).take 64 }
  let x := s.lane p l
  let f := match fadeOf a x.baseline with | some f => f | none => Config.freeInt s.free
  let s := if (fadeOf a x.baseline).isNone && x.baseOk then s.freeTick else s
  if x.baseOk then
    s.updLane p l fun x =>
      let fs := (f :: x.fades).take 64
      { x with f1 := f, fades := fs, f64 := rneDiv (fs.foldl (· + ·) 0) fs.length }
  else s.baseFrame p l a

/-- BASELINE_WRITE (R364): takes effect at the next tick. -/
def execBaselineWrite (porch : BitVec 4) (lane : Fin 9) (v : BitVec 16) (s : State) : Host.Outcome State Fault Refusal :=
  .next (s.updLane porch.toNat lane.val fun x => { x with baseWrite := some v.toNat })

/-- Written baselines come into force. -/
def State.takeBaseline (s : State) (p l : Nat) : State :=
  s.updLane p l fun x => match x.baseWrite with
    | some v => { x with baseline := v, baseWrite := none, baseOk := true }
    | none => x

/-- The lane holds a fade duplicate or is past Spare, so that lane 8 serves it. -/
def LaneState.isSpared : LaneState → Bool
  | .spared | .replaced => true
  | _ => false

/-- A lane in its own native run that reaches Spare or Shed keeps the duplicate that the run asked for (log 14): the run is
abandoned, and the lane is SPARED, or REPLACED, with it. -/
def State.keepDuplicate (s : State) (p j : Nat) : State :=
  let here := decide ((s.lane p j).state = .cal)
  let s := s.abandonRun p true true
  if here then s.updLane p j fun x => { x with state := if x.level = 3 then .replaced else .spared, spareWanted := false } else s

/-- Lane `j` is in its own native run, and the duplicate is not on its way back. -/
def State.ownRun (s : State) (p j : Nat) : Bool :=
  let c := s.cal p
  decide (c.lane = j) && !c.compat && decide (c.phase ≠ .idle) && decide (c.phase ≠ .unmirroring)

/-- Lane `j` reaches Spare and wants lane 8 (R366). -/
def State.fadeSpare (s : State) (p j : Nat) : State :=
  let c := s.cal p
  let x8 := s.lane p 8
  let take (s : State) := (s.updLane p j fun x => { x with spareWanted := false }).askLane p 1 j
  let want := s.updLane p j fun x => { x with spareWanted := true }
  if j = 8 then s
  else if (s.lane p j).state.isSpared then s
  else if s.ownRun p j then s.keepDuplicate p j
  else if 2 ≤ x8.level ∨ x8.state = .down ∨ x8.state = .shed ∨ !s.hasLock p 8 then want
  else if c.phase ≠ .idle ∧ c.lane = 8 then take (s.abandonRun p true true)
  else if c.phase ≠ .idle ∧ !c.compat ∧ c.lane ≠ j ∧ (x8.state = .carrying ∨ c.phase = .mirroring) then
    take (s.abandonRun p true true)
  else if x8.state = .inService ∧ !s.mirrorPending p then take s
  else want

/-- A MIRROR_REQ that has not been sent is withdrawn, and its lane goes on wanting the spare (R366). -/
def State.dropMirrorRequests (s : State) (p : Nat) : State :=
  let rs := (s.cal p).requests
  let s := s.updCal p fun c => { c with requests := rs.filter fun r => r.1 ≠ 1 }
  (rs.filter fun r => r.1 = 1).foldl (fun s r => s.updLane p r.2 fun x => { x with spareWanted := decide (2 ≤ x.level) }) s

/-- Lane 8 leaves service (R367). A SPARED lane that holds no lock of its own (R357) is shed like a REPLACED one (log 14). -/
def State.loseSpare (s : State) (p : Nat) : State :=
  let j := (s.porch p).mirror
  let s := if (s.cal p).phase ≠ .idle ∧ !(s.cal p).compat then s.abandonRun p true true else s
  let s := (s.updLane p 8 fun x => { x with state := if s.hasLock p 8 then .shed else .down }).dropMirrorRequests p
  let back (s : State) := (s.backInService p j).updPorch p fun q => { q with mirror := 15 }
  match (s.lane p j).state with
  | .spared =>
    if s.hasLock p j then (back s).updLane p j fun x => { x with spareWanted := true } else (s.askLane p 5 j).askLane p 3 j
  | .replaced => (s.askLane p 5 j).askLane p 3 j
  | .cal => back s
  | _ => s

/-- Lane `j` reaches Shed (R367, R527). -/
def State.fadeShed (s : State) (p j : Nat) : State :=
  if j = 8 then s.loseSpare p
  else match (s.lane p j).state with
  | .spared => s.updLane p j fun x => { x with state := .replaced }
  | .inService | .down => s.askLane p 5 j
  | .cal => if s.ownRun p j then s.keepDuplicate p j else s.askLane p 5 j
  | _ => s

/-- A lane enters a level: its notice, its record and its action (R365). -/
def State.enterLevel (s : State) (p j n : Nat) : State :=
  let s := s.updLane p j fun x => { x with level := n, lockLost := false }
  let x := s.lane p j
  let s := s.raise Src.lnh (2 + n) (laneObj p j)
  let s := s.record 0x000F (if n = 3 then Sev.error else Sev.warning) 3
    ([BitVec.ofNat 8 p, BitVec.ofNat 8 j, BitVec.ofNat 8 n, 0] ++ leBytes 2 (twos 16 x.f64) ++ [0, 0] ++ leBytes 4 x.corr64)
  if n = 3 then s.fadeShed p j else if n = 2 then s.fadeSpare p j else s

/-- Insert a lane in the order in which lanes take the spare: higher B64, then lower F64, then lower number (R366). -/
def spareBefore (s : State) (p i j : Nat) : Bool :=
  let x := s.lane p i
  let y := s.lane p j
  decide (y.corr64 < x.corr64) || (decide (x.corr64 = y.corr64) && (decide (x.f64 < y.f64) || (decide (x.f64 = y.f64) && decide (i < j))))

def insertLane (s : State) (p i : Nat) : List Nat → List Nat
  | [] => [i]
  | j :: t => if spareBefore s p i j then i :: j :: t else j :: insertLane s p i t

/-- Lanes in that order. -/
def State.spareOrder (s : State) (p : Nat) (l : List Nat) : List Nat := l.foldl (fun t i => insertLane s p i t) []

/-- The levels of a porch at the tick (R365 to R368): Shed first, then Spare in its order, then Watch and what clears. -/
def State.fadeTick (s : State) (p : Nat) : State :=
  let f := s.hrt.cfg.period
  let nexts := (List.range 9).map fun l => (l, (s.lane p l).nextLevel f)
  let rises := nexts.filter fun e => (s.lane p e.1).level < e.2 || (s.lane p e.1).lockLost
  let at_ (n : Nat) := (rises.filter fun e => e.2 = n).map (·.1)
  let s1 := s.each (at_ 3) fun l t => if (t.lane p l).level = 3 then t.updLane p l fun x => { x with lockLost := false } else t.enterLevel p l 3
  let s2 := s1.each (s.spareOrder p (at_ 2)) fun l t => t.enterLevel p l 2
  let s3 := s2.each (at_ 1) fun l t => t.enterLevel p l 1
  let s4 := s3.each ((nexts.filter fun e => e.2 = 0 && (s.lane p e.1).level = 1).map (·.1)) fun l t => t.updLane p l fun x => { x with level := 0 }
  let wants := (List.range 8).filter fun l => (s4.lane p l).spareWanted
  let order := s4.spareOrder p (wants.filter fun l => (s4.lane p l).level = 3) ++ s4.spareOrder p (wants.filter fun l => (s4.lane p l).level ≠ 3)
  match order with
  | j :: _ => if (s4.lane p 8).state = .inService ∧ !s4.mirrorPending p then s4.fadeSpare p j else s4
  | [] => s4

-- Answers at the tick ------------------------------------------------------------------------------------------------------------

/-- Every lane of a finished run returns to service (R366). -/
def State.freeCal (s : State) (p except_ : Nat) : State :=
  s.each (List.range 8) fun l s => if l ≠ except_ ∧ (s.lane p l).state = .cal then s.backInService p l else s

/-- One answer takes effect at the tick (R356, R359, R366, R367, R371). -/
def State.takeAnswer (s : State) (p : Nat) (r : Nat × Nat) : State :=
  let c := s.cal p
  let l := r.2
  match r.1 with
  | 2 =>
    let x8 := (s.lane p 8).state
    if x8 = .down ∨ x8 = .shed then
      ((s.updLane p l fun x => { x with spareWanted := decide (2 ≤ x.level) }).updPorch p fun q => { q with mirror := 15 }).askLane p 3 l
    else
    let s := s.updLane p 8 fun x => { x with state := .carrying }
    if c.phase = .mirroring ∧ c.lane = l then
      (s.updLane p l fun x => { x with state := .cal }).updCal p fun c =>
        { c with phase := if c.restore then .ramp else .adapt, start := s.nextTick - 1 }
    else
      (s.freeCal p c.lane).updLane p l fun x =>
        { x with state := if x.level = 3 then .replaced else if x.level = 2 then .spared else .cal, spareWanted := false }
  | 4 =>
    let s := s.updLane p 8 fun x => { x with state := if x.state = .carrying then .inService else x.state }
    let s := if (s.lane p l).state = .shed then s else s.backInService p l
    if c.phase = .unmirroring ∧ c.lane = l then s.endRun p c.result false else s
  | _ =>
    let s := s.backInService p l
    if c.phase = .compat ∧ c.lane = l then s.endRun p c.result false else s

/-- Answers that have arrived since the last tick. -/
def State.takeAnswers (s : State) (p : Nat) : State :=
  let rs := (s.cal p).answered
  rs.foldl (fun s r => s.takeAnswer p r) (s.updCal p fun c => { c with answered := [] })

-- Operations (R370, R371) ----------------------------------------------------------------------------------------------------------

/-- An operation written in this frame; the last one is taken up (R370, R497). -/
def State.laneOp (s : State) (p op l : Nat) : State := s.updCal p fun c => { c with op := (op, l) }

/-- CAL_NOW (R371). -/
def execCalNow (porch lane : BitVec 4) (s : State) : Host.Outcome State Fault Refusal := .next (s.laneOp porch.toNat 1 lane.toNat)
/-- RESTORE (R362). -/
def execRestore (porch lane : BitVec 4) (s : State) : Host.Outcome State Fault Refusal := .next (s.laneOp porch.toNat 2 lane.toNat)
/-- RETURN (R371). -/
def execLaneReturn (porch lane : BitVec 4) (s : State) : Host.Outcome State Fault Refusal := .next (s.laneOp porch.toNat 3 lane.toNat)
/-- ABORT of a run (R371). -/
def execCalAbort (porch : BitVec 4) (s : State) : Host.Outcome State Fault Refusal := .next (s.laneOp porch.toNat 4 0)

/-- The bytes of a lane's staged calibration record (R361). -/
def State.calRecord (s : State) (p l : Nat) : List Byte :=
  (List.range 5).flatMap fun i => leBytes 8 (s.reg (Reg.LNH_Pp_Ll_CAL0 p l + 8 * i)).toNat

/-- Signed bytes of a record. -/
def signedBytes (l : List Byte) (o n : Nat) : List Int := (bytesAt l o n).map fun b => signed 8 b.toNat

/-- The values of a calibration record (R361). -/
def calOf (r : List Byte) : CalValues :=
  { ctle := fieldAt r 1 1, cdr := signed 16 (fieldAt r 2 2), ffe := signedBytes r 4 8, dfe := signedBytes r 12 4
    slicer := [signed 16 (fieldAt r 16 2), signed 16 (fieldAt r 18 2), signed 16 (fieldAt r 20 2)] }

/-- The calibration record of lane `l` of porch `p` with its values, temperature and tick (R361). -/
def calBytes (p l : Nat) (v : CalValues) (temp : Int) (frame : Nat) : List Byte :=
  let bytes (v : List Int) (n : Nat) := (List.range n).map fun k => BitVec.ofNat 8 (twos 8 ((v[k]?).getD 0))
  let body : List Byte := [1, BitVec.ofNat 8 v.ctle] ++ leBytes 2 (twos 16 v.cdr) ++ bytes v.ffe 8 ++ bytes v.dfe 4
    ++ ((List.range 3).flatMap fun k => leBytes 2 (twos 16 ((v.slicer[k]?).getD 0))) ++ leBytes 2 (twos 16 temp)
    ++ leBytes 4 frame ++ [BitVec.ofNat 8 l, BitVec.ofNat 8 p, 0xB0, 0]
  body ++ leBytes 4 (crc32c body) ++ [0, 0, 0, 0]

/-- The staged record fits its lane (R362). -/
def State.recordOk (s : State) (p l : Nat) : Bool :=
  let r := s.calRecord p l
  decide (fieldAt r 0 1 = 1) && decide (fieldAt r 0x1C 3 = l + 256 * p + 65536 * 0xB0) && decide (fieldAt r 1 1 ≤ 31)
    && decide (fieldAt r 0x20 4 = crc32c (r.take 32))

/-- `OP_RESULT`, shown from the tick after the take-up (R370). -/
def State.laneResult (s : State) (p r : Nat) : State := s.updCal p fun c => { c with opNext := some r }

/-- RESTORE at its take-up (R362): 2 BUSY, 3 BAD_RECORD. On a READY porch it is a run, so it is BUSY too where no run may begin
(R355, R372, log 14). -/
def State.takeRestore (s : State) (p l : Nat) : State :=
  let q := s.porch p
  let r := s.calRecord p l
  let young := decide (q.state = .training) || decide (q.state = .discovery)
  if 8 < l then s.laneResult p 3
  else if (s.cal p).phase ≠ .idle ∨ !(young || decide ((s.lane p l).state = .inService)) then s.laneResult p 2
  else if !s.recordOk p l then s.laneResult p 3
  else
    let take (s : State) := (s.laneResult p 0).updLane p l fun x => { x with target := calOf r, runT := signed 16 (fieldAt r 22 2) }
    if q.state ≠ .ready then (take s).updLane p l fun x => { x with vals := x.target, hasVals := true }
    else if s.inForce (Reg.LNH_Pp_CTL p) 3 1 = 0 ∨ !s.laneIdle p ∨ (l ≠ 8 ∧ (s.lane p 8).state ≠ .inService) then s.laneResult p 2
    else (take s).beginRun p l 1 true

/-- RETURN at its take-up (R371): 4 LEVEL, also for a lane without lock (R527); a lane number that no lane has does nothing (log 14). -/
def State.takeReturn (s : State) (p l : Nat) : State :=
  let x := s.lane p l
  if 8 < l then s.laneResult p 0
  else if 2 ≤ x.levelNow s.hrt.cfg.period ∨ !s.hasLock p l then s.laneResult p 4
  else
    let s := (s.laneResult p 0).updLane p l fun x =>
      { x with level := if x.fades.length = 64 ∧ x.f64 ≤ -384 then 1 else 0, corr := [], spareWanted := false, lockFailed := false }
    match x.state with
    | .spared | .replaced => s.askLane p 3 l
    | .shed | .down => if l = 8 then s.updLane p 8 fun x => { x with state := .inService } else s.askLane p 7 l
    | _ => s

/-- The operation of a porch at the tick (R370, R371). -/
def State.takeLaneOp (s : State) (p : Nat) : State :=
  let c := s.cal p
  let s := match c.opNext with | some r => s.updCal p fun c => { c with opResult := r, opNext := none } | none => s
  let s := s.updCal p fun c => { c with op := (0, 0) }
  match c.op with
  | (1, l) =>
    if (s.porch p).state ≠ .ready then s.laneResult p 1
    else (s.laneResult p 0).each ((List.range 9).filter fun i => l = 15 ∨ i = l) fun l s => s.updLane p l fun x => { x with queued := true }
  | (2, l) => s.takeRestore p l
  | (3, l) => s.takeReturn p l
  | (4, _) => if c.phase = .idle then s.laneResult p 5 else (s.laneResult p 0).abandonRun p false false
  | _ => s

/-- Everything of a porch's lanes at a tick, before its requests are sent: answers, runs, levels, operations, queueing. -/
def State.lanePorchTick (s : State) (p : Nat) : State :=
  let s := s.takeAnswers p
  let s := ((s.noAnswer p).regain p).lockFail p
  let c := s.cal p
  let s := if c.phase = .lockWait then s.updCal p fun c => { c with heldFor := if s.hasLock p c.lane then c.heldFor + 1 else 0 } else s
  let i := s.rampDue p
  let s := if c.phase = .ramp ∧ c.step < i then s.rampTo p i else s
  let s := if c.phase = .ramp ∧ c.lane = 8 ∧ c.step = 256 then s.endRun p 1 false else s
  let s := s.fadeTick p
  let s := s.takeLaneOp p
  let s := if (s.porch p).state = .ready then
      s.each (List.range 9) fun l s =>
        if s.deltaT < ((s.cal p).regionT - (s.lane p l).runT).natAbs then s.updLane p l fun x => { x with queued := true } else s
    else s
  s.startRun p

/-- What `SPARE_FOR` and the calibration records show until the next tick (R361, R372). -/
def State.showLanes (s : State) (p : Nat) : State :=
  let s := s.updCal p fun c => { c with carries := if (s.lane p 8).state = .carrying then (s.porch p).mirror else 15 }
  s.each (List.range 9) fun l s => s.updLane p l fun x => { x with shown := if x.hasVals then some (x.vals, x.runT, x.runFrame) else none }

/-- Lanes at a tick, with the statistics and the region temperatures of the frame that ends. -/
def State.laneTick (s : State) (regions : List (Nat × Int)) (fades : List (Nat × Nat × Nat × Nat)) : State :=
  let s := s.each (List.range 16) fun p s => s.each (List.range 9) fun l s => s.takeBaseline p l
  let s := regions.foldl (fun s r => s.updCal r.1 fun c => { c with regionT := r.2 }) s
  let s := fades.foldl (fun s f => s.fadeFrame f.1 f.2.1 f.2.2.1 f.2.2.2) s
  let s := s.each (List.range 16) fun p s => s.lanePorchTick p
  s.each (List.range 16) fun p s => s.showLanes p

end Sys2Proof.Machine
end

