-- ==== Sys2Proof/Machine/Porches.lean ====
section
/-! DEFINITION. Porches: discovery of heads, their records and configuration, delay measurement, loss, and the cells of heads
that name faults, acknowledge commands and report health (R329, R330, R333, R337 to R342, R350, R384, R491). -/
namespace Sys2Proof.Machine

/-- Queue a cell that leaves in the frame the coming tick begins. -/
def State.sendNext (s : State) (p prio : Nat) (c : TxCell) : State := s.inTick fun t => t.send p prio c

/-- Roles of porches (R60). -/
def roleImager : Nat := 1
def roleDrive : Nat := 2
def roleTap : Nat := 3
def roleLanding : Nat := 4

-- Discovery (R338 to R340) --------------------------------------------------------------------------------------------------

/-- The MGMT record that a head of this role holds (R338): none for a MONITOR head. -/
def recordOf (role : Nat) : Option Nat :=
  match role with | 1 => some 4 | 2 => some 5 | 3 => some 6 | _ => none

/-- The tick that a CONFIG of the committed plan names (R174, R340): T + B − 1 for a BRIDGED commit, else the commit tick. -/
def State.effectiveTick (s : State) : Nat :=
  if s.plan.commitFrame < s.plan.bridgeEnd then s.plan.bridgeEnd - 1 else s.plan.commitFrame

/-- The CONFIG of a porch under the committed plan (R338). -/
def State.configOf (s : State) (p : Nat) : ConfigMsg :=
  let e := s.laneEntry p
  let n := (s.sense p).getD ⟨p, 0, 0, 0⟩
  { role := e.role, edge := e.edge, bits := e.bits, first := e.first, count := e.count, expose := n.expose
    streamOff := n.streamOff, window := n.window, planId := s.plan.planId, effective := s.effectiveTick, porch := p }

/-- Send CONFIG and await its CONFIG_ACK. -/
def State.configure (s : State) (p : Nat) : State :=
  (s.updPorch p fun q => { q with config := some (s.configOf p) }).send p prioBulk (.config (s.configOf p))

/-- Discovery starts again (R340 step 2). -/
def State.toDiscovery (s : State) (p : Nat) : State :=
  s.updPorch p fun q => { q with state := .discovery, identOk := false, recordOk := false, echoLeft := 16, config := none
                                 readyNext := false, measured := [] }

/-- The head fits the committed LANES entry (R340 step 3); before the first commit there is none to fit. -/
def State.identFits (s : State) (p : Nat) (m : IdentMsg) : Bool :=
  let e := s.laneEntry p
  !s.plan.committed || (decide (m.headType / 4096 = e.role) && decide (m.headType = e.headType)
    && (decide (e.headId = 0) || decide (m.headId = e.headId)))

/-- IDENT (R338, R340). -/
def execIdent (porch : BitVec 4) (m : IdentMsg) (s : State) : Host.Outcome State Fault Refusal :=
  let p := porch.toNat
  if !s.linked p then .next s
  else
    let st := (s.porch p).state
    let s := (s.receive p).updPorch p fun q =>
      { q with headType := m.headType, headId := m.headId, headPort := m.port, other := m.other, countMax := m.countMax }
    if st = .ready then .next s
    else if m.port ≠ s.twn.side then
      let s := s.updPorch p fun q => { q with state := .miswired, identOk := false }
      .next (if st = .miswired then s else s.raise Src.pch 3 p)
    else if !s.identFits p m then
      let s := s.updPorch p fun q => { q with state := .wrongHead, identOk := false }
      .next (if st = .wrongHead then s else s.raise Src.pch 2 p)
    else
      let s := s.updPorch p fun q => { q with state := .discovery, identOk := true }
      match recordOf (m.headType / 4096) with
      | some r => .next (s.send p prioBulk (.req r))
      | none => .next (s.updPorch p fun q => { q with recordOk := true })

/-- A record of the head's role arrives (R338, R340 step 4). -/
def State.headRecord (s : State) (p role : Nat) (f : Porch → Porch) : State :=
  if s.passes p ∧ (s.porch p).headType / 4096 = role then
    (s.receive p).updPorch p fun q => { f q with recordOk := true }
  else if s.linked p then s.receive p else s

/-- WINDOWS (R338). -/
def execWindows (porch : BitVec 4) (origins : List (Nat × Nat)) (s : State) : Host.Outcome State Fault Refusal :=
  .next (s.headRecord porch.toNat roleImager fun q => { q with windows := origins })
/-- HOLDING (R338). -/
def execHolding (porch : BitVec 4) (entries : List (Nat × Int × Bool)) (s : State) : Host.Outcome State Fault Refusal :=
  .next (s.headRecord porch.toNat roleDrive fun q => { q with holding := entries })
/-- SCALE (R338). -/
def execScale (porch : BitVec 4) (nw : BitVec 32) (s : State) : Host.Outcome State Fault Refusal :=
  .next (s.headRecord porch.toNat roleTap fun q => { q with scale := nw.toNat })

/-- CONFIG_ACK (R340 step 6): OK makes the porch READY at the next tick, any other result WRONG_HEAD. -/
def execConfigAck (porch : BitVec 4) (result : BitVec 8) (effective : BitVec 32) (s : State) : Host.Outcome State Fault Refusal :=
  let p := porch.toNat
  if !s.passes p then .next s
  else
    let s := s.receive p
    match (s.porch p).config with
    | some c =>
      if c.effective % 2 ^ 32 ≠ effective.toNat then .next s
      else if result.toNat = 0 then
        .next (s.updPorch p fun q => { q with config := none, readyNext := decide (q.state ≠ .ready) })
      else
        .next ((s.updPorch p fun q => { q with config := none, state := .wrongHead }).raise Src.pch 2 p)
    | none => .next s

/-- The held commands of a drive porch's axes as its head reported them (R194). -/
def State.takeHolding (s : State) (p : Nat) : State :=
  let e := s.laneEntry p
  if e.role ≠ roleDrive then s
  else s.each (span (2 * e.first) (2 * e.count)) fun l s =>
    let h := (s.porch p).holding.find? fun h => h.1 = l - 2 * e.first
    let v : Int := match h with | some (_, u, true) => u | _ => 0
    s.updLoop l fun x => { x with heldCmd := v, sentCmds := [] }

/-- A porch becomes READY (R340, R342). -/
def State.becomeReady (s : State) (p : Nat) : State :=
  (s.updPorch p fun q => { q with state := .ready, up := true, lost := false, readyNext := false, silent := 0
                                  ackEpoch := none }).takeHolding p |>.raise Src.pch 0 p

/-- The Landing carries no IDENT: it is READY once its delay is measured and a plan names it (R339, R340, log 15). -/
def State.landingReady (s : State) (p : Nat) : Bool :=
  decide (s.landing = some p) && s.plan.committed && decide ((s.porch p).state = .discovery) && decide ((s.porch p).echoLeft = 0)
    && decide (16 ≤ (s.porch p).measured.length)

-- Delay (R333) ----------------------------------------------------------------------------------------------------------------

/-- Send one ECHO request with the stamp of the tick (log 15). -/
def State.echo (s : State) (p : Nat) : State :=
  let n := (s.porch p).echoNext
  (s.updPorch p fun q => { q with echoNext := (n + 1) % 2 ^ 32, echoes := ((n, s.tickTime) :: q.echoes).take 16 }).send p
    prioBulk (.echo n s.tickTime)

/-- ECHO_REPLY (R333): one measurement; the delay in use is the mean of the last 16. -/
def execEchoReply (porch : BitVec 4) (id : BitVec 32) (arrival : Nat) (turnPs : BitVec 32) (s : State) :
    Host.Outcome State Fault Refusal :=
  let p := porch.toNat
  if !s.linked p then .next s
  else
    let s := s.receive p
    match (s.porch p).echoes.find? fun e => e.1 = id.toNat with
    | some (_, tx) =>
      let m := ((arrival : Int) - tx) * 1000 / 65536 - turnPs.toNat
      let m := m / 2 + signed 32 (s.inForce (Reg.PCH_Pp_DELAY p) 32 32)
      .next (s.updPorch p fun q =>
        let ms := (m :: q.measured).take 16
        { q with echoes := q.echoes.filter fun e => e.1 ≠ id.toNat, measured := ms
                 delayPs := (rneDiv (ms.foldl (· + ·) 0) ms.length).toNat, echoLeft := q.echoLeft - 1 })
    | none => .next s

-- Operations (R350) -------------------------------------------------------------------------------------------------------------

/-- An operation written to `PCH_Pp_CTL.OP`; the last one of a frame is taken up (R350, R497). -/
def State.porchOp (s : State) (p op : Nat) : State := s.updPorch p fun q => { q with op := op }

/-- REDISCOVER (R350). -/
def execRediscover (porch : BitVec 4) (s : State) : Host.Outcome State Fault Refusal := .next (s.porchOp porch.toNat 1)
/-- HEAD_RESET (R350). -/
def execHeadReset (porch : BitVec 4) (s : State) : Host.Outcome State Fault Refusal := .next (s.porchOp porch.toNat 2)
/-- ECHO_NOW (R350). -/
def execEchoNow (porch : BitVec 4) (s : State) : Host.Outcome State Fault Refusal := .next (s.porchOp porch.toNat 3)

/-- The operation of a porch at the tick. -/
def State.takePorchOp (s : State) (p : Nat) : State :=
  let op := (s.porch p).op
  let s := s.updPorch p fun q => { q with op := 0 }
  match op with
  | 1 => if s.linked p then (s.toDiscovery p).updPorch p fun q => { q with up := false } else s
  | 2 => if s.passes p then s.send p prioBulk .headReset else s
  | 3 => if s.linked p then s.echo p else s
  | _ => s

-- Cells from heads --------------------------------------------------------------------------------------------------------------

/-- An epoch received in an ACK, GRANT, TIME or STATE cell (R387). -/
def State.seeEpoch (s : State) (e : Nat) : State := { s with twn := { s.twn with seen := max s.twn.seen e } }

/-- ACK_CELL (R329, R386, R394): the heads that report another epoch are counted for the apply tick. -/
def execAckCell (porch : BitVec 4) (a : AckCell) (s : State) : Host.Outcome State Fault Refusal :=
  let p := porch.toNat
  if !s.passes p then .next s
  else
    let s := ((s.receive p).seeEpoch a.epoch).updPorch p fun q =>
      { q with repeated := a.repeated, stale := a.stale, ackEpoch := some a.epoch, ackTick := a.applyTick }
    if s.porchRole p ≠ roleDrive then .next s
    else
      let t := if s.twn.ackTick = a.applyTick then s.twn else { s.twn with ackTick := a.applyTick, ackAbove := [], ackEqual := [] }
      .next { s with twn :=
        if t.epoch < a.epoch then { t with ackAbove := (t.ackAbove ++ [p]).eraseDups }
        else if a.epoch = t.epoch then { t with ackEqual := (t.ackEqual ++ [p]).eraseDups } else t }

/-- HEALTH_CELL (R337). -/
def execHealthCell (porch : BitVec 4) (h : HealthCell) (s : State) : Host.Outcome State Fault Refusal :=
  let p := porch.toNat
  if !s.linked p then .next s
  else .next ((s.receive p).updPorch p fun q => { q with health := some h, temp := h.temp })

/-- Mirrors that a fault of an IMAGER or DRIVE head names (R330): 0 items means all of the head. -/
def faultMirrors (e : LaneEntry) (f : FaultCell) : List Nat :=
  if e.role ≠ roleImager ∧ e.role ≠ roleDrive then []
  else if f.count = 0 then span e.first e.count
  else (span (e.first + f.first) f.count).filter fun m => e.holds m

/-- One HOLD for each run of consecutive named mirrors of a drive porch (R328); a HOLD of the whole head has count 0. -/
def State.holdPorch (s : State) (ms : List Nat) (p : Nat) : State :=
  let e := s.laneEntry p
  match ms.filter fun m => e.holds m with
  | [] => s
  | m :: t =>
    let n := t.length + 1
    s.send p GuardCode.headFault (if n = e.count then s.holdCell 0 0 GuardCode.headFault else s.holdCell (2 * m) (2 * n) GuardCode.headFault)

/-- FAULT_CELL (R23, R206, R330): Guard event 3. A drive head's fault freezes the loops of the mirrors it names. -/
def execFaultCell (porch : BitVec 4) (f : FaultCell) (s : State) : Host.Outcome State Fault Refusal :=
  let p := porch.toNat
  if !s.passes p then .next s
  else
    let e := s.laneEntry p
    let ms := faultMirrors e f
    let s := (((s.receive p).updPorch p fun q => { q with faultCode := f.code }).raise Src.pch 6 p).guardEvent GuardCode.headFault
    let s := if s.commands then s.each (s.readyOf roleDrive) fun d s => s.holdPorch ms d else s
    let s := s.guardState GuardCode.headFault
    .next (if e.role = roleDrive then s.freezeWhere 2 fun l => ms.contains (l / 2) else s)

-- Loss (R342, R384, R491) ---------------------------------------------------------------------------------------------------------

/-- `PCH_Pp_STATUS.STATE` (R350). -/
def PorchState.code : PorchState → Nat
  | .down => 0
  | .training => 1
  | .discovery => 2
  | .ready => 3
  | .wrongHead => 4
  | .miswired => 5
  | .dark => 6
  | .lost => 7

/-- Consecutive silent frames of a porch with the frame that ends. -/
def Porch.silentNext (q : Porch) : Nat := if q.heard then 0 else q.silent + 1

/-- The porch is lost at the next tick (R342). -/
def State.lossDue (s : State) (p : Nat) : Bool :=
  let q := s.porch p
  q.up && (decide (q.state ≠ .ready) || decide (s.width p < s.minWidth p) || decide (3 ≤ q.silentNext))

/-- The twin still has the porch, and its plan is the same (R384). -/
def State.twinHas (s : State) (p : Nat) : Bool :=
  match s.twn.twin with | some t => natBit t.reach p && decide (t.planDigest = s.plan.digest) | none => false

/-- What a lost porch leads to (R384, R491): an ACTIVE unit whose twin has it withdraws; otherwise its loops freeze. -/
def State.lossFollows (s : State) (p : Nat) : State :=
  let r := s.porchRole p
  if r = roleLanding then s.raise Src.twn 10
  else if (r = roleImager ∨ r = roleDrive ∨ r = roleTap) ∧ s.roleNow = .active ∧ s.twinHas p then
    let s := { s with twn := { s.twn with causePorch := p } }
    s.verdict 5 GuardCode.verdict fun s => s
  else if r = roleImager ∨ r = roleDrive then
    s.freezeWhere 3 fun l => decide (s.porchFor r (l / 2) = some p)
  else s

/-- A porch is lost at the coming tick. -/
def State.losePorch (s : State) (p : Nat) : State :=
  if !s.lossDue p then s
  else
    let s := s.updPorch p fun q => { q with up := false, lost := true, state := if q.state = .ready then .lost else q.state }
    let s := s.inTick fun s =>
      if s.porchRole p = 0 then s
      else
        let s := (s.raise Src.pch 1 p).record 0x0014 Sev.error 1
          ([BitVec.ofNat 8 p, BitVec.ofNat 8 (s.porch p).state.code, 0, 0, 0, 0, 0, 0] ++ s.frameBytes)
        s.lossFollows p
    s

/-- PORCH_LOST (R342). -/
def execPorchLost (porch : BitVec 4) (s : State) : Host.Outcome State Fault Refusal := .next (s.losePorch porch.toNat)

-- At the tick -------------------------------------------------------------------------------------------------------------------------

/-- States of a porch at a tick, before the new frame's cells: losses, porches that become READY or come back. -/
def State.porchTick (s : State) (p : Nat) : State :=
  let s := s.losePorch p
  let q := s.porch p
  let s := if q.state = .lost ∧ q.heard ∧ s.minWidth p ≤ s.width p then s.toDiscovery p else s
  let s := if (q.readyNext && decide (q.state = .discovery)) || s.landingReady p then s.becomeReady p else s
  s.updPorch p fun q => { q with silent := if q.state = .ready then q.silentNext else 0, heard := false }

/-- Cells that a porch sends at the start of a frame for discovery and measurement (R333, R340). -/
def State.porchCells (s : State) (p : Nat) : State :=
  let s := s.takePorchOp p
  let q := s.porch p
  if !s.linked p then s
  else
    let s := if !q.identOk ∧ q.state ≠ .ready ∧ s.landing ≠ some p ∧ s.hrt.frame % 16 = 0 then
        s.send p prioBulk (.hello s.twn.side p s.plan.planId) else s
    let measuring := q.identOk || decide (s.landing = some p)
    let s := if (measuring && decide (0 < q.echoLeft) && decide (q.state = .discovery)) || decide (s.hrt.frame % 256 = 0) then s.echo p else s
    if q.state = .discovery ∧ q.identOk ∧ q.recordOk ∧ 16 ≤ q.measured.length ∧ s.plan.committed ∧ q.config.isNone
        ∧ !q.readyNext then s.configure p
    else s

/-- Deposed at the next tick: more heads report a higher epoch than report the unit's own (R386). -/
def State.deposedDue (s : State) : Bool := s.commands && decide (s.twn.ackEqual.length < s.twn.ackAbove.length)

end Sys2Proof.Machine
end

