-- ==== Sys2Proof/Machine/Twins.lean ====
section
/-! DEFINITION. Twin operation: relay, STATE and GRANT cells, the heartbeat, claims and their decision, roles at the tick, rejoining
and resynchronisation (R373 to R401). -/
namespace Sys2Proof.Machine

-- Cells from the twin ----------------------------------------------------------------------------------------------------------

/-- The Landing delivers cells. Before the first commit no plan names the Landing, and cells of the twin are taken as they come,
since R374 needs the twin's STATE at the first commit (log 28). -/
def State.landingUp (s : State) : Bool := match s.landing with | some p => s.passes p | none => !s.plan.committed

/-- A cell of the twin is received on the Landing. -/
def State.receiveLanding (s : State) : State := match s.landing with | some p => s.receive p | none => s

/-- The whole tick that the low 32 bits of a cell name: at most two ticks ahead of the frame (R324, R327). -/
def State.fullTick (s : State) (low : Nat) : Nat :=
  let base := s.hrt.frame + 2
  base - (base + 2 ^ 32 - low % 2 ^ 32) % 2 ^ 32

/-- The standby relays: its role is STANDBY and it does not await a decision (R379, R389). -/
def State.relays (s : State) : Bool := decide (s.roleNow = .standby) && s.twn.claim.isNone

/-- A TIME cell whose first bit arrived `offset` ps after the own tick (R46, R47). Its stamps and delay give the phase where no
`TICK_IN` edge does; its epoch counts into `SEEN` (R387), and a pending step of it is made here too (R39). -/
def execTimeCellRx (c : TimeCell) (offset : Int) (s : State) : Host.Outcome State Fault Refusal :=
  if !s.landingUp then .next s
  else
  let s := s.receiveLanding.seeEpoch c.epoch
  if s.hrt.running && !s.isRef then
    let ps := offset - (c.delayPs : Int) - ((c.txTime : Int) - c.tickTime) * 1000 / 65536
    let twin := decide (s.tickinMode = 1)
    let s := { s with hrt := { s.hrt with
      cellNow := twin || s.hrt.cellNow
      epochStep := if c.stepPending then some (c.stepTick, c.stepTime) else s.hrt.epochStep } }
    if twin then
      let s := if s.hrt.lock = .free then s
        else { s with hrt := { s.hrt with refCell := some c, refFrame := s.hrt.frame, refPhase := ps } }
      if s.hrt.edgeNow && s.hrt.phaseNow.isSome then .next s else .next (s.seeReference ps)
    else .next s
  else .next s

/-- COMMAND_CELL on the Landing (R30, R194, R379). A cell of which only some entries have been filled is discarded whole: R326 keeps every
payload byte of a relayed cell, and R30 speaks of single sequence numbers (DESIGN CHOICE, log 57). -/
def execCommandCell (c : CommandCell) (s : State) : Host.Outcome State Fault Refusal :=
  if !s.landingUp then .next s
  else
    let s := s.receiveLanding
    let n := s.fullTick c.applyTick
    if !s.relays then .next (c.entries.foldl (fun s e => s.keepCommand n e) s)
    else match s.twn.twin with
    | some t =>
      if t.epoch ≠ c.epoch then .next (s.count Reg.TWN_RELAY 0 16 1)
      else if c.entries.any fun e => s.twn.filled.contains (n, e.1) then .next (s.count Reg.TWN_RELAY 16 16 1)
      else if (s.porch c.porch).state = .ready ∧ s.porchRole c.porch = roleDrive then
        let s := (s.send c.porch prioFrame (.command c)).count Reg.TWN_RELAY 32 32 1
        let s := { s with twn := { s.twn with relayed := s.twn.relayed ++ c.entries.map fun e => (n, e.1) } }
        .next (c.entries.foldl (fun s e => s.relayCommand n e) s)
      else .next (c.entries.foldl (fun s e => s.keepCommand n e) s)
    | none => .next (s.count Reg.TWN_RELAY 0 16 1)

/-- GRANT_CELL (R387, R388, R390). -/
def execGrantCell (porch : BitVec 4) (g : GrantCell) (s : State) : Host.Outcome State Fault Refusal :=
  let p := porch.toNat
  if !s.passes p then .next s
  else
    let s := (s.receive p).seeEpoch g.epoch
    let given := decide (g.verdict = 1) || decide (g.verdict = 2)
    if g.toSide ≠ s.twn.side then
      .next (if given then { s with twn := { s.twn with grantedOther := (s.twn.grantedOther ++ [g.epoch]).eraseDups } } else s)
    else match s.twn.claim with
    | some c =>
      if c.epoch ≠ g.epoch then .next s
      else
        let c := if given then { c with granted := (c.granted ++ [p]).eraseDups }
          else { c with refused := (c.refused ++ [p]).eraseDups
                        ownerLive := if g.verdict = 3 then (c.ownerLive ++ [p]).eraseDups else c.ownerLive }
        .next { s with twn := { s.twn with claim := some c, claimGranted := c.granted, claimRefused := c.refused } }
    | none => .next s

/-- WITHDRAW_CELL (R23, R388): Guard event 4; a CLAIM where the rules let the unit claim on it, else a STATE cell. -/
def execWithdrawCell (w : WithdrawCell) (s : State) : Host.Outcome State Fault Refusal :=
  if !s.landingUp then .next s
  else
    let s := s.receiveLanding.guardEvent GuardCode.withdraw
    .next (if w.reason ≠ 9 ∧ s.mayClaim then s.startClaim 1 GuardCode.withdraw else s.guardState GuardCode.withdraw)

/-- The pending commits of both units differ (R381). -/
def State.pendingDiffers (s : State) (t : StateCell) : Bool :=
  let c := s.stateCell 0
  decide (t.pendingDigest ≠ c.pendingDigest) || decide (t.pendingTick ≠ c.pendingTick)

/-- STATE_CELL (R335, R378, R381, R387). -/
def execStateCell (c : StateCell) (s : State) : Host.Outcome State Fault Refusal :=
  if !s.landingUp then .next s
  else
    let s := s.receiveLanding.seeEpoch c.epoch
    let standby := decide (s.roleNow = .standby)
    let mis := if standby && s.planDiffers c then s.twn.mismatch + 1 else if 2 ≤ s.twn.mismatch then s.twn.mismatch else 0
    let pend := if standby && s.pendingDiffers c then (if s.twn.pendMis = 3 then 3 else min 2 (s.twn.pendMis + 1)) else 0
    let s := { s with twn := { s.twn with twin := some c, stateNow := true, mismatch := mis, pendMis := pend } }
    .next s

/-- HEARTBEAT_EDGE (R378). -/
def execHeartbeatEdge (s : State) : Host.Outcome State Fault Refusal := .next { s with twn := { s.twn with edgeNow := true } }

/-- Consecutive silent frames with the frame that ends (R378). -/
def State.twinSilent (s : State) : Nat := if s.twn.stateNow || s.twn.edgeNow then 0 else s.twn.silent + 1

/-- The heartbeat is lost at the next tick. -/
def State.heartbeatDue (s : State) : Bool := s.landing.isSome && !s.twn.hbLost && decide (3 ≤ s.twinSilent)

/-- The heartbeat is lost (R378). -/
def State.loseHeartbeat (s : State) : State :=
  if s.heartbeatDue then ({ s with twn := { s.twn with hbLost := true } }).raise Src.twn 1 else s

/-- HEARTBEAT_LOST (R378). -/
def execHeartbeatLost (s : State) : Host.Outcome State Fault Refusal := .next s.loseHeartbeat

-- Claims (R388 to R394) ----------------------------------------------------------------------------------------------------------

/-- A trigger may claim again: at first, and every 16 frames after the last claim of its kind (R388). -/
def State.claimAgain (s : State) (trigger : Nat) : Bool :=
  match s.twn.lastClaims.find? (·.1 = trigger) with
  | some (_, f) => decide (f + 16 ≤ s.hrt.frame)
  | none => true

/-- The Landing is lost (R342, R388). -/
def State.landingLost (s : State) : Bool := match s.landing with | some p => (s.porch p).lost | none => false

/-- The condition of a trigger holds in this frame (R388). -/
def State.triggerHolds (s : State) (trigger : Nat) : Bool :=
  match trigger with
  | 2 => s.twn.hbLost
  | 3 => decide (3 ≤ s.twn.twinWdr)
  | 4 => decide (3 ≤ s.twn.twinSby)
  | 5 => s.landingLost
  | _ => false

/-- The twin's STATE shows that it holds authority. -/
def State.twinHolds (s : State) : Bool := match s.twn.twin with | some t => decide (t.role = 0) || decide (t.role = 3) | none => false

/-- CLAIM (R388): the claims that no WITHDRAW cell calls for. A unit whose twin's STATE shows authority does not claim while the
heartbeat is present (R388, R400). -/
def execClaim (trigger : BitVec 4) (s : State) : Host.Outcome State Fault Refusal :=
  let t := trigger.toNat
  if s.triggerHolds t && s.claimAgain t && s.mayClaim && !(s.twinHolds && !s.twn.hbLost) then .next (s.startClaim t prioGuard) else .next s

/-- The role of a unit that holds authority (R374). -/
def State.holderRole (s : State) : Role :=
  match s.twn.twin with
  | some t => if s.landing.isSome && decide (t.role = 1) && !s.twn.hbLost then .active else .solo
  | none => .solo

/-- The number of DRIVE entries in LANES (R391). -/
def State.driveCount (s : State) : Nat := (s.porchesOf roleDrive).length

/-- A claim wins (R391). -/
def State.claimWins (s : State) (c : Claim) : Bool :=
  decide (s.driveCount < 2 * c.granted.length) || (decide (2 * c.granted.length = s.driveCount) && decide (s.twn.side = 0))

/-- Moves at a takeover (R397): whole schedules are continued, parts of schedules are lost. -/
def State.takeOverMoves (s : State) : State :=
  let open_ (m : Move) : Bool := match m.state with | .done | .aborted | .failed => false | _ => true
  let twin := s.mov.moves.filter fun m => m.2.fromTwin && open_ m.2
  let moves := (s.mov.moves.filter fun m => !(m.2.fromTwin && !m.2.whole)).map fun m => (m.1, { m.2 with fromTwin := false })
  let top := (s.mov.moves.map (·.1)).foldl max 0
  let lost := twin.flatMap fun m => if m.2.whole then [] else m.2.mirrors.map (·.mirror)
  let s := s.each (lost.flatMap fun m => [2 * m, 2 * m + 1]) fun l s => s.updLoop l fun x => { x with held := false, leg := none }
  { s with mov := { s.mov with
      moves := moves, nextId := max s.mov.nextId (top + 1)
      heldAt := (twin.filter fun m => m.2.whole).length
      lostAt := (twin.filter fun m => !m.2.whole).length } }

/-- A won claim (R391, R397). -/
def State.winClaim (s : State) (c : Claim) : State :=
  let s := { s with twn := { s.twn with
    epoch := c.epoch, claim := none, claimRes := 2, takeover := s.nextTick, role := s.holderRole } }
  let s := s.takeOverMoves
  (s.raiseTo allSeats Src.twn 3 c.epoch).raiseTo allSeats Src.twn 0 noObj s.twn.role.code

/-- A retracted claim (R392, R395): WITHDRAW to the porches whose heads granted it. -/
def State.retractClaim (s : State) (c : Claim) : State :=
  let s := if s.roleNow = .standby then
      s.inTick fun s => State.sendAll c.granted prioGuard (.withdraw ⟨c.epoch, s.twn.side, 9, s.hrt.frame⟩) s
    else s
  let s := { s with twn := { s.twn with claim := none, claimRes := if c.granted.isEmpty then 4 else 3 } }
  let s := s.raise Src.twn 4
  if (s.porchesOf roleDrive).all fun p => c.ownerLive.contains p then s.raise Src.twn 5 else s

/-- The unit holds authority at the coming tick: device time and the frame number go on without a step (R14, R47). -/
def State.timeGoesOn (s : State) : Bool :=
  s.isRef || match s.twn.claim with
    | some c => decide (c.frame + 2 ≤ s.hrt.frame + 1) && s.claimWins c && decide (s.roleNow = .standby)
    | none => false

/-- A unit that takes authority at the coming tick drops an alignment step of the frame that ends (R14; DEDUCED, log 43). -/
def State.keepTime (s : State) : State :=
  if s.timeGoesOn then { s with hrt := { s.hrt with alignBy := 0, adopt := none } } else s

/-- The decision tick of a claim has come (R391, R392). -/
def State.decideClaim (s : State) : State :=
  match s.twn.claim with
  | some c =>
    if c.frame + 2 ≤ s.nextTick then
      if s.claimWins c && decide (s.roleNow = .standby) then s.winClaim c else s.retractClaim c
    else s
  | none => s

/-- CLAIM_DECISION (R391, R392). -/
def execClaimDecision (s : State) : Host.Outcome State Fault Refusal := .next s.decideClaim

/-- REASSERT (R394): in every sixteenth frame, on READY drive porches whose last ACK shows a lower epoch. -/
def execReassert (s : State) : Host.Outcome State Fault Refusal :=
  if s.hrt.running && s.commands && decide (s.hrt.frame % 16 = 0) then
    let ps := (s.readyOf roleDrive).filter fun p => match (s.porch p).ackEpoch with | some e => decide (e < s.twn.epoch) | none => false
    .next (State.sendAll ps prioGuard (.claim s.twn.epoch s.twn.side 3 s.hrt.frame) s)
  else .next s

-- Rejoining (R398 to R400) -----------------------------------------------------------------------------------------------------------

/-- REJOIN (R398): taken up at the next tick. -/
def execRejoin (s : State) : Host.Outcome State Fault Refusal := .next { s with ops := { s.ops with rejoin := true } }

/-- The hottest die's reading. -/
def State.maxTemp (s : State) : Int := (List.range 5).foldl (fun t d => max t (s.die d).temp) (s.die 0).temp

/-- REJOIN's result (R398, R401): 0 OK, 1 NOT_WITHDRAWN, 2 NEEDS_POR, 3 CAUSE_PRESENT. -/
def State.rejoinResult (s : State) : Nat :=
  if s.twn.role ≠ .withdrawn then 1
  else match s.twn.cause with
    | 1 | 3 | 6 | 7 | 8 => 2
    | 4 => if 95 * 256 ≤ s.maxTemp then 3 else 0
    | 5 => if (s.porch s.twn.causePorch).lost then 3 else 0
    | _ => 0

/-- REJOIN at its take-up. -/
def State.takeRejoin (s : State) : State :=
  if s.ops.rejoin then
    let r := s.rejoinResult
    { s with ops := { s.ops with rejoin := false }
             twn := { s.twn with opResult := r, rejoinOk := s.twn.rejoinOk || decide (r = 0) } }
  else s

/-- The cause of the withdrawal permits a resynchronisation (R398). -/
def State.causePermits (s : State) : Bool :=
  match s.twn.cause with
  | 0 | 0x11 => true
  | 2 | 4 | 5 | 0x10 => s.twn.rejoinOk
  | _ => false

/-- A resynchronisation starts at the next tick (R398). -/
def State.resyncDue (s : State) : Bool :=
  decide (s.twn.role = .withdrawn) && s.twn.withdrawAt.isNone && s.twn.sync.isNone && s.twinHolds && s.plansAgree && s.causePermits
    && !s.twn.hbLost

/-- The rejoining unit asks the holder to send from a batch on, in the frame that the coming tick begins (R399, log 17). -/
def State.askBatch (s : State) (b : Nat) : State :=
  s.inTick fun s => State.sendAll s.landing.toList prioBulk (.resync (.again b)) s

/-- RESYNC_START (R399). -/
def State.startResync (s : State) : State :=
  if s.resyncDue then
    ({ s with twn := { s.twn with sync := some [], syncFrom := s.nextTick, syncBatches := [], syncTables := [] } }).askBatch 0
  else s

def execResyncStart (s : State) : Host.Outcome State Fault Refusal := .next s.startResync

/-- RESYNC_CELL (R399, R446): a whole piece of a stream. -/
def execResyncCell (part : ResyncPart) (s : State) : Host.Outcome State Fault Refusal :=
  if !s.landingUp then .next s
  else
    let s := s.receiveLanding
    match part with
    | .bundle len bytes => .next { s with upd := { s.upd with twinBundle := some (len, bytes) } }
    | .contexts b ls =>
      if s.twn.sync.isSome ∧ b < 256 then
        .next { s with twn := { s.twn with syncBatches := s.twn.syncBatches ++ [(b, ls)] } }
      else .next s
    | .again b => .next { s with twn := { s.twn with feeding := if s.commands then some b else s.twn.feeding } }
    | .table id bytes =>
      if s.twn.sync.isSome then .next { s with twn := { s.twn with syncTables := s.twn.syncTables ++ [(id, bytes)] } } else .next s

/-- A loop takes the context that a holder sent (R399); the descriptor stays as the common plan gives it, and so does what belongs to
the frame. -/
def Loop.takeContext (x c : Loop) : Loop :=
  { x with
    cls := c.cls, phase := c.phase, reason := c.reason, warm := c.warm, bad := c.bad, lowConf := c.lowConf, ovrRun := c.ovrRun
    held := c.held, setpoint := c.setpoint, integ := c.integ, secs := c.secs, sp := c.sp, cmd := c.cmd, cmdIn := c.cmdIn
    heldCmd := c.heldCmd, sentCmds := c.sentCmds, angles := c.angles, handRun := c.handRun, acqFrames := c.acqFrames
    waitFrames := c.waitFrames, fromPark := c.fromPark, confRun := c.confRun, sweep := c.sweep, sweepUp := c.sweepUp
    frzCmd := c.frzCmd, leg := c.leg }

/-- One batch of contexts is installed (R399); a loop that it does not list is in OFF. -/
def State.installBatch (s : State) (b : Nat) (ls : List (Nat × Loop)) : State :=
  s.each ((List.range 64).map fun k => 64 * b + k) fun l s => s.updLoop l fun x =>
    x.takeContext (match ls.find? (·.1 = l) with | some e => e.2 | none => {})

/-- The first batch that a run still lacks. -/
def firstMissing (done : List Nat) : Nat := ((List.range 256).find? fun b => !done.contains b).getD 0

/-- One table is installed by a swap (R399). -/
def State.installTable (s : State) (id : Nat) (bytes : List (Nat × Byte)) : State :=
  s.updTable id fun t => { t with bank := bytes, other := t.bank, inactive := 1, active := 1 - t.active, gen := (t.gen + 1) % 2 ^ 32
                                  lastTick := s.nextTick, loaded := true }

/-- A resynchronisation at the tick (R399): what arrived is installed, and a frame that brought no batch makes the unit ask again. -/
def State.resyncTick (s : State) : State :=
  match s.twn.sync with
  | none => s
  | some done =>
    if !s.twinHolds || s.twn.hbLost || !s.plansAgree then { s with twn := { s.twn with sync := none, syncBatches := [], syncTables := [] } }
    else
      let bs := s.twn.syncBatches
      let ts := s.twn.syncTables
      let s := bs.foldl (fun s b => s.installBatch b.1 b.2) s
      let s := ts.foldl (fun s t => s.installTable t.1 t.2) s
      let all := (done ++ bs.map (·.1)).eraseDups
      let s : State := { s with twn := { s.twn with sync := some all, syncBatches := [], syncTables := [] } }
      if all.length = 256 ∧ bs.isEmpty ∧ ts.isEmpty then
        let s := { s with twn := { s.twn with sync := none, role := .standby, rejoinOk := false } }
        (s.raise Src.twn 7).raiseTo allSeats Src.twn 0 noObj 1
      else if bs.isEmpty && decide (all.length < 256) && decide (s.twn.syncFrom < s.nextTick) then s.askBatch (firstMissing all)
      else s

-- Roles at the tick -------------------------------------------------------------------------------------------------------------------

/-- A change of the role, with its notice to every seat (R397, R401). -/
def State.setRole (s : State) (r : Role) : State :=
  if s.twn.role = r then s
  else ({ s with twn := { s.twn with role := r } }).raiseTo allSeats Src.twn 0 noObj r.code

/-- Two STATE cells in a row differed from the plan of a STANDBY: it becomes WITHDRAWN at the next tick (R381). -/
def State.takeMismatch (s : State) : State :=
  if s.twn.mismatch < 2 then s
  else
    let s := { s with twn := { s.twn with mismatch := 0 } }
    if s.roleNow = .standby then (s.raise Src.twn 6).giveUp 0x11 else s

/-- A withdrawal reached since the last tick takes effect (R374, R385, R386). -/
def State.takeWithdrawal (s : State) : State :=
  let s := (if s.deposedDue then (s.raise Src.twn 8).giveUp 0x10 else s).takeMismatch
  match s.twn.withdrawAt with
  | some c =>
    let s := { s with twn := { s.twn with withdrawAt := none, cause := c, causePorch := if c = 5 then s.twn.causePorch else 0
                                          rejoinOk := false, sync := none } }
    s.setRole .withdrawn
  | none => s

/-- Frames in a row in which a STATE cell of the twin showed a role, with the frame that ends (R388). -/
def State.twinRun (s : State) (role n : Nat) : Nat :=
  match s.twn.twin with | some t => if t.role = role ∧ s.twn.stateNow then n + 1 else 0 | none => 0

/-- The heartbeat counters of a frame (R401). -/
def State.heartbeatCounts (s : State) : State :=
  if !s.landing.isSome then s
  else match s.twn.stateNow, s.twn.edgeNow with
    | false, false => s.count Reg.TWN_HB 32 32 1
    | false, true => s.count Reg.TWN_HB 16 16 1
    | true, false => s.count Reg.TWN_HB 0 16 1
    | true, true => s

/-- The heartbeat and the twin's STATE at the tick (R375, R378, R388). -/
def State.heartbeatTick (s : State) : State :=
  let s := s.heartbeatCounts.loseHeartbeat
  let back := s.twn.hbLost && s.twn.stateNow
  let s := if back then s.raise Src.twn 2 else s
  let conflict := match s.twn.twin with | some t => decide (t.side = s.twn.side) | none => false
  let s := if conflict && !s.twn.sideConflict then s.raise Src.twn 9 else s
  let wdr := s.twinRun 2 s.twn.twinWdr
  let sby := s.twinRun 1 s.twn.twinSby
  { s with twn := { s.twn with
      silent := s.twinSilent, hbLost := s.twn.hbLost && !back, sideConflict := conflict, twinWdr := wdr, twinSby := sby
      stateNow := false, edgeNow := false
      lastClaims := s.twn.lastClaims.filter fun e => match e.1 with
        | 2 => s.twn.hbLost && !back
        | 3 => s.twinShows 2
        | 4 => s.twinShows 1
        | 5 => s.landingLost
        | _ => true } }

/-- Roles at the tick (R374): withdrawals first, then the claim's decision, then ACTIVE or SOLO. -/
def State.roleTick (s : State) : State :=
  let s := s.heartbeatTick
  let s := s.takeWithdrawal
  let s := s.decideClaim
  let s := if s.twn.role.holds then s.setRole s.holderRole else s
  let s := ((s.takeRejoin).resyncTick).startResync
  let s := if s.twn.pendMis = 2 then ({ s with twn := { s.twn with pendMis := 3 } }).raise Src.twn 11 else s
  { s with twn := { s.twn with
      ackAbove := [], ackEqual := [], snapshot := false
      filled := s.twn.filled.filter fun e => decide (s.nextTick ≤ e.1 + 1), relayed := s.twn.relayed.filter fun e => decide (s.nextTick ≤ e.1 + 1) } }

end Sys2Proof.Machine
end

