-- ==== Sys2Proof/Machine/Plans.lean ====
section
/-! DEFINITION. Validation, commit and cancel of plan images, bridges, and the change to a placement variant when tiles are lost
(R65 to R80, R87 to R89, R528). -/
namespace Sys2Proof.Machine

/-- `CMD_RESULT` (R90). -/
def PlnResult.done : Nat := 1
def PlnResult.refused : Nat := 2
def PlnResult.needForce : Nat := 3
def PlnResult.moveBusy : Nat := 4
def PlnResult.stale : Nat := 5
def PlnResult.noCandidate : Nat := 6
def PlnResult.busy : Nat := 7
def PlnResult.cancelled : Nat := 8

/-- An operation written to `PLN_CMD`; the last of a frame is taken up (R90, R497). -/
def State.planOp (s : State) (op : Nat) (force : Bool) : State := { s with ops := { s.ops with plan := some (op, force) } }

/-- PLAN_VALIDATE (R65, R66): taken up at the next tick. -/
def execPlanValidate (s : State) : Host.Outcome State Fault Refusal := .next (s.planOp 1 false)
/-- PLAN_COMMIT (R73): taken up at the next tick. -/
def execPlanCommit (force : Bool) (s : State) : Host.Outcome State Fault Refusal := .next (s.planOp 2 force)
/-- PLAN_CANCEL (R79): taken up at the next tick. -/
def execPlanCancel (s : State) : Host.Outcome State Fault Refusal := .next (s.planOp 3 false)

/-- Set `CMD_RESULT`. -/
def State.planResult (s : State) (r : Nat) : State := { s with plan := { s.plan with cmdResult := r } }

/-- A commit ends without effect: REFUSED, NEED_FORCE, MOVE_BUSY and STALE raise COMMIT_FAIL (R90). -/
def State.commitFail (s : State) (r : Nat) : State :=
  let s := s.planResult r
  if 2 ≤ r ∧ r ≤ 5 then s.raise Src.pln 2 noObj r else s

-- Validation (R66 to R68) ---------------------------------------------------------------------------------------------------------

/-- The validation width of a porch: 8 less its lanes in SHED, a lane that lane 8 carries counted as one with it (R63, log 49). -/
def State.validWidth (s : State) (p : Nat) : Nat :=
  8 - ((List.range 8).filter fun l => decide ((s.lane p l).state = .shed) && decide ((s.porch p).mirror ≠ l)).length

/-- The resources in service and the settings at this tick (R57, R68, R70). -/
def State.resources (s : State) : Resources :=
  { dps := s.dpIn.filter fun d => !s.eng.dpStopped.contains d, widths := (List.range 16).map s.validWidth
    pantry := 24064 - s.pantryRetired, devices := s.devsIn.length, lost := s.tilesOut, hops := s.til.hops
    signed := decide (s.inForce Reg.PLN_CTL 0 1 = 1), spill := decide (s.inForce Reg.PLN_CTL 1 1 = 1) }

/-- VALIDATE at its take-up: the staged image is copied into the candidate store (R65, R66). -/
def State.takeValidate (s : State) : State :=
  if s.commitBusy then s.planResult PlnResult.busy
  else
    let off := s.field Reg.PLN_STAGE_OFF 0 28
    let len := s.field Reg.PLN_STAGE_LEN 0 28
    let ok := decide (0x1000000 ≤ off) && decide (off % 4096 = 0) && decide (off + len ≤ hallSize)
    { s with
      plan := { s.plan with
        st := .validating, image := if ok then tslice s.ram (hallBase 0 + off) len else [], imageLen := if ok then len else 0
        res := s.resources, cand := none, candKind := 0, preload := 0, bridge := 0, valEnd := none, cmdResult := 0 }
      upd := { s.upd with valKeys := s.upd.keys.map (·.2) } }

/-- VALIDATION_END (R66): the result is visible at the next tick. -/
def execValidationEnd (fig : Figures) (s : State) : Host.Outcome State Fault Refusal :=
  if s.plan.st = .validating then .next { s with plan := { s.plan with valEnd := some fig } } else .next s

/-- Refusals and budgets of a validation appear in the registers (R63, R67, R70). -/
def State.publish (s : State) (v : Verdict) (fig : Figures) : State :=
  { s with plan := { s.plan with
      refusals := v.refusals.take 16, refuseCount := min 255 v.refusals.length, sense := v.sense, loopB := v.loopB, emit := v.emit
      spillKb := v.spillKb, spilled := v.spilled, bulkCost := fig.bulkCost, varFail := if v.kind = 1 then s.plan.varFail else v.varFail } }

/-- The candidate that a verdict leaves, with its class and its frames (R72). -/
def State.keepCandidate (s : State) (v : Verdict) (fig : Figures) : State :=
  { s with plan := { s.plan with
      st := if v.plan.isSome then .valid else .refused, cand := v.plan, candKind := v.kind
      preload := if v.kind = 2 then fig.preload else 0, bridge := if v.kind = 3 then clampNat 1 8 fig.bridge else 0 } }

/-- A validation that has ended shows its result at the tick (R66). -/
def State.finishValidation (s : State) : State :=
  match s.plan.valEnd with
  | some fig =>
    let s := { s with plan := { s.plan with valEnd := none } }
    if s.plan.st = .validating then
      let v := s.validateImage s.plan.res s.upd.valKeys s.plan.image s.plan.imageLen fig
      let s := (s.publish v fig).keepCandidate v fig
      let s := { s with plan := { s.plan with fig := fig, valDigest := imageDigest s.plan.image s.plan.imageLen } }
      if v.plan.isSome then s.raise Src.pln 0 else s.raise Src.pln 1 noObj s.plan.refuseCount
    else s
  | none => s

-- Commit (R73, R80) -------------------------------------------------------------------------------------------------------------------

/-- Tables that a PATCH names and whose inactive bank is claimed (R80, R87). -/
def State.patchHeld (s : State) (q : Plan) : List Nat :=
  if q.kind = 1 then
    (q.tables.filter fun t => match s.table? t.id with | some x => decide (2 ≤ x.inactive) | none => true).map (·.id)
  else []

/-- A PATCH claims the inactive banks of its tables and writes its contents there (R80, R82). -/
def State.patchClaim (s : State) (q : Plan) : State :=
  if q.kind = 1 then
    q.tables.foldl (fun s t => s.updTable t.id fun x => { x with inactive := 4, writer := 3, writerJob := 0, other := t.bytes }) s
  else s

/-- The banks that a PATCH had claimed hold no contents any more. -/
def State.patchRelease (s : State) : State :=
  { s with plan := { s.plan with tables := s.plan.tables.map (fun (p : Nat × PlanTable) =>
      if p.2.writer = 3 then (p.1, { p.2 with inactive := 0, writer := 0, other := [] }) else p) } }

/-- Paths are in service (R73). -/
def State.anyService (s : State) : Bool := !s.mov.service.isEmpty

/-- COMMIT at its take-up, tick k (R73): the first result that applies, or the commit is scheduled. -/
def State.takeCommit (s : State) (force : Bool) : State :=
  let k := s.nextTick
  if s.commitBusy then s.planResult PlnResult.busy
  else
    match s.plan.st, s.plan.cand with
    | .valid, some q =>
      let fig := s.plan.fig
      let v := s.validateImage s.resources s.upd.valKeys s.plan.image s.plan.imageLen fig
      let held := s.patchHeld q
      let v := if v.refusals.isEmpty && !held.isEmpty then { v with refusals := refuseAt 17 held, plan := none, kind := 0 } else v
      if v.plan.isNone then ((s.publish v fig).keepCandidate v fig).commitFail PlnResult.refused
      else
        let s := s.keepCandidate v fig
        let want := (s.cfgReg Reg.PLN_COMMIT_TICK).toNat
        if want ≠ 0 ∧ want < k + s.plan.preload + 2 then s.commitFail PlnResult.stale
        else if v.kind = 3 ∧ !force ∧ s.anyService then s.commitFail PlnResult.needForce
        else
          let t := if want = 0 then k + s.plan.preload + 2 else want
          ({ s with plan := { s.plan with st := .scheduled, commitAt := t, force := force, commitTaken := k, loads := [], cmdResult := 0 } }).patchClaim q
    | _, _ => s.commitFail PlnResult.noCandidate

/-- CANCEL at its take-up (R79). -/
def State.takeCancel (s : State) : State :=
  match s.plan.st with
  | .validating => { s with plan := { s.plan with st := .idle, valEnd := none, cmdResult := PlnResult.cancelled } }
  | .valid => { s with plan := { s.plan with st := .idle, cand := none, candKind := 0, preload := 0, bridge := 0
                                             cmdResult := PlnResult.cancelled } }
  | .scheduled => ({ s with plan := { s.plan with st := .valid, cmdResult := PlnResult.cancelled } }).patchRelease
  | .preload => ({ s with plan := { s.plan with st := .valid, cmdResult := PlnResult.cancelled } }).patchRelease
  | .bridge => s.planResult PlnResult.busy
  | .idle => s.planResult PlnResult.noCandidate
  | .refused => s.planResult PlnResult.noCandidate

/-- `PLN_CMD` at the tick (R66, R73, R79, R528). -/
def State.takePlan (s : State) : State :=
  let u := { s with ops := { s.ops with plan := none } }
  match s.ops.plan with
  | some (1, _) => u.takeValidate
  | some (2, f) => u.takeCommit f
  | some (3, _) => u.takeCancel
  | _ => u

-- Scratch at a commit (R93, R95, R96) -----------------------------------------------------------------------------------------------------

/-- The pages of a tile that a program may hold: neither the runtime's nor retired (R93, R97). -/
def Tile.sound (x : Tile) : List Nat := (List.range 992).filter fun p => !x.retired.contains p

/-- Frame-critical pages of a tile under a placement (R93). -/
def Placement.fcPages (v : Placement) (t : Nat) : Nat := (tget (fun _ => 0) v.scratch t + 4095) / 4096

/-- Write the frame-critical contents of a plan into pages of a tile (R96, log 55). -/
def State.fillPages (s : State) (t digest : Nat) (pages : List Nat) : State :=
  pages.zipIdx.foldl (fun s p =>
    s.writeBytes (scratchBase t + 4096 * p.1) ((span (4096 * p.2) 4096).map (Config.fcByte digest t))) s

/-- The pages that a ROLLING commit makes frame-critical: those of the background partition, ascending (R96). -/
def Tile.rollMap (x : Tile) (n : Nat) : List Nat :=
  ((x.sound.filter fun p => !x.fcMap.contains p) ++ x.sound.filter x.fcMap.contains).take n

/-- The pages that a placement variant makes frame-critical: those that are already, then free ones, then those of the contexts, highest job
number first (R129; the order is DESIGN CHOICE, log 18). -/
def Tile.variantMap (x : Tile) (n : Nat) : List Nat :=
  let held := x.contexts.foldl (fun (l : List (Nat × List Nat)) c =>
    (l.filter fun d => c.1 < d.1) ++ [c] ++ l.filter fun d => d.1 ≤ c.1) []
  ((x.fcMap ++ x.free ++ held.flatMap (·.2)).filter fun p => !x.retired.contains p).take n

/-- The preload of a ROLLING commit begins at the tick after its take-up (R75, R96): every context is evicted, and the new frame-critical
contents go into the background partition. -/
def State.preloadTick (s : State) : State :=
  if s.plan.st = .scheduled ∧ s.plan.candKind = 2 ∧ s.nextTick < s.plan.commitAt then
    let v := match s.plan.cand with | some q => q.place0 | none => {}
    let digest := match s.plan.cand with | some q => q.digest | none => 0
    let s := s.each s.liveJobs fun j s => s.evictJob j
    let s := s.each (List.range 128) fun t s =>
      let l := (s.tile t).rollMap (v.fcPages t)
      (s.fillPages t digest l).updTile t fun x => { x with nextMap := l }
    { s with plan := { s.plan with st := .preload } }
  else s

-- The commit takes effect (R74 to R77, R87) -----------------------------------------------------------------------------------------------

/-- Legs, hand-overs, readiness and failures that fall at this very tick come before the aborts of a commit (R74, R246). -/
def State.decideMoves (s : State) : State :=
  let s := s.moveLegs.handOvers
  s.each s.moveIds fun id s => s.decideMove id

/-- A move is MOVING or SETTLING (R74). -/
def State.movesRun (s : State) : Bool := s.openMoves.any fun m => decide (m.state = .moving) || decide (m.state = .settling)

/-- A table of a new plan (R62): the committed bank from the image or from its load, the other bank EMPTY. -/
def newTable (loads : List (Nat × TableLoad)) (t : TableDesc) : PlanTable :=
  let ext := decide (t.flags / 2 % 2 = 1)
  let n := t.entrySize * t.count
  let ld := tget (fun _ => ({} : TableLoad)) loads t.id
  let whole := !ld.failed && decide ((n + 4095) / 4096 ≤ ld.beats.length)
    && decide (crcSparse (tget (fun _ => 0) ld.bytes) 0 n = t.crc)
  if !ext then { desc := t, bank := t.bytes }
  else if t.dataOff = 2 ^ 64 - 1 ∨ !whole then { desc := t, bank := [], loaded := false }
  else { desc := t, bank := tslice ld.bytes 0 n }

/-- An EXTERNAL table whose load failed (R278). -/
def PlanTable.lostLoad (t : PlanTable) : Bool :=
  decide (t.desc.flags / 2 % 2 = 1) && !t.loaded && decide (t.desc.dataOff ≠ 2 ^ 64 - 1)

/-- Every EXTERNAL table takes what its load brought; one that failed starts EMPTY with a notice (R62, R278). -/
def State.finishLoads (s : State) : State :=
  let ts : List (Nat × PlanTable) := s.plan.tables.map fun (p : Nat × PlanTable) =>
    if p.2.desc.flags / 2 % 2 = 1 then
      let n := newTable s.plan.loads p.2.desc
      (p.1, { p.2 with bank := n.bank, loaded := n.loaded })
    else p
  let s := { s with plan := { s.plan with tables := ts, loads := [] }, mov := { s.mov with recheck := true } }
  s.each ((ts.filter fun p => p.2.lostLoad).map (·.1)) fun id s => s.raise Src.pln 9 id

/-- Tables at a FULL commit: claims and inactive banks are gone, and pending swaps are dropped (R77, R87). -/
def State.commitTables (s : State) (q : Plan) : State :=
  let dropped := (s.plan.tables.filter fun p => p.2.swapAt.isSome).map (·.1)
  let s := s.each dropped fun id s => s.raise Src.pln 6 id
  { s with
    plan := { s.plan with
      tables := q.tables.map (fun (t : TableDesc) =>
        (t.id, { newTable [] t with result := if dropped.contains t.id then 7 else 0 }))
      jobClaims := [] }
    mov := { s.mov with reflexes := [], recheck := true }
    est := { s.est with dithered := [], adaptJob := none, training := false, round := none, settles := [] } }

/-- Tables at a PATCH commit: the named ones swap, and `GEN` counts from this commit on (R80, R90): 0 for every table, and then 1 for the
swaps of the patch itself, which the spec does not say (DESIGN CHOICE, log 49). -/
def State.patchTables (s : State) (q : Plan) : State :=
  let s := { s with plan := { s.plan with tables := s.plan.tables.map (fun (p : Nat × PlanTable) => (p.1, { p.2 with gen := 0 })) } }
  s.each (q.tables.map (·.id)) fun id s =>
    let kind := match s.table? id with | some t => t.desc.kind | none => 0
    let s := (s.updTable id (PlanTable.swap s.nextTick)).raise Src.pln 4 id
    let s := if kind = 4 then { s.restartPlanning with mov := { s.restartPlanning.mov with recheck := true } } else s
    if kind = 6 then s.rearmAll else s

/-- Loops whose descriptor the commit changes (R77). -/
def State.changedLoops (s : State) (q : Plan) : List Nat :=
  ((s.loops.map (·.1)) ++ (q.loops.map (·.1)).filter fun l => !(s.loops.any fun e => e.1 = l)).filter fun l =>
    decide (l < 16384) && decide (s.candDesc l ≠ (s.loop l).desc)

/-- Loops take their new descriptors (R77, R187 to R189); `first` is the first frame they are computed in. -/
def State.commitLoops (s : State) (q : Plan) (ls : List Nat) (first : Option Nat) : State :=
  let s := s.each ls fun l s => s.giveDesc true l (s.candDesc l)
  let dropped := match s.eng.change with
    | some (l, _, _) => decide (q.kind = 0) || q.loops.any fun p => p.1 = l
    | none => false
  let s := if dropped then
      ({ s with eng := { s.eng with change := none } }.descResult 8).raise Src.trc 4 (match s.eng.change with | some (l, _, _) => l | none => 0)
    else s
  let s := { s with eng := { s.eng with edits := 0 } }
  match first with
  | some f => { s with loops := tmap (fun _ => {}) (fun _ x => if x.cls = .off then x else { x with startFrame := f }) s.loops }
  | none => s

/-- The job of a JOBS record, as a commit admits it (R125). -/
def residentJob (r : JobRec) : Job :=
  { info := some r, service := r.service, tiles := members 128 r.tiles, pages := r.pages, gddr7Kb := r.gddr7Kb, imageHeld := true
    resident := true, parks := if r.flags % 2 = 1 then [] else [Park.order] }

/-- The image of a resident job in the committed plan (R117). -/
def State.loadImage (s : State) (r : JobRec) : State :=
  match secOf (imgSections s.plan.image) Sec.jobs with
  | some x =>
    (tslice s.plan.image (x.off + r.imgOff) r.imgLen).foldl (fun s c => s.writeByte (jobImage r.job + c.1) c.2)
      (s.zeroBytes (jobImage r.job) r.imgLen)
  | none => s

/-- Jobs that go on at a FULL commit: those of the new JOBS section with the same number and digest (R77). -/
def State.keptJobs (s : State) (q : Plan) : List Nat :=
  s.liveJobs.filter fun j =>
    match q.jobs.find? fun r => r.job = j, (s.job j).info with
    | some r, some i => decide (r.digest = i.digest) && decide (r.service = i.service)
    | _, _ => false

/-- Jobs that a FULL commit removes end (R77, R122); the contents and records of those that go on are kept while the page maps change
(R95, log 55). -/
def State.clearJobs (s : State) (kept : List Nat) : State :=
  let s := s.each (s.liveJobs.filter fun j => !kept.contains j) fun j s => s.endNow EndReason.commit j
  let s := s.each kept fun j s => s.evictJob j
  { s with til := { s.til with tiles := tmap (fun _ => {}) (fun _ x => { x with contexts := [] }) s.til.tiles } }

/-- Jobs of a FULL plan (R77, R125): those that go on take their new records, and the records without a job are admitted. -/
def State.commitJobs (s : State) (q : Plan) (kept : List Nat) : State :=
  q.jobs.foldl (fun s r =>
    let s := if kept.contains r.job then
        s.updJob r.job fun x => { x with info := some r, tiles := members 128 r.tiles, pages := r.pages, resident := true }
      else
        let s := s.updJob r.job fun _ => residentJob r
        (if r.service = 0 then s.loadImage r else s).setJob r.job (if r.flags % 2 = 1 then .ready else .parked)
    s.placeJob r.job r.pages (members 128 r.tiles)) s.allotPages

/-- The frame-critical partition and the stage of every tile at a FULL commit (R64, R93, R96): what the preload has filled, or, where there
was none, the lowest sound pages, which the bridge fills. -/
def State.placeTiles (s : State) (v : Placement) (rolled : Bool) (digest : Nat) : State :=
  s.each (List.range 128) fun t s =>
    let l := if rolled then (s.tile t).nextMap else (s.tile t).sound.take (v.fcPages t)
    (if rolled then s else s.fillPages t digest l).updTile t fun x =>
      { x with fcMap := l, nextMap := [], stage := tget (fun _ => 15) v.stages t }

/-- Borrowed pages of a shelf that keeps its contents when its minimum becomes `m` (R293, R305): those that its words still need. -/
def Shelf.resize (m : Nat) (x : Shelf) : Shelf :=
  { x with fillExtra := min (x.minPages + x.fillExtra) (pagesFor x.fillWords) - m
           drainExtra := min (x.minPages + x.drainExtra) (pagesFor (x.popped + x.drainWords)) - m }

/-- User shelves at a FULL commit (R305): a shelf with the same class, modes and ends keeps its contents. -/
def State.commitShelves (s : State) (q : Plan) (bridged : Bool) : State :=
  let old := (s.shelves.filter fun p => decide (64 ≤ p.1)).map (·.1)
  let same (n : Nat) : Bool :=
    let x := s.shelf n
    q.shelves.any fun r => decide (r.shelf = n) && decide (r.cls = x.cls) && decide (r.notice = x.notice)
      && decide (r.swapMode = x.swapMode) && decide (r.prodKind = x.prodKind) && decide (r.prodIndex = x.prodIndex)
      && decide (r.consKind = x.consKind) && decide (r.consIndex = x.consIndex)
  let gone := (old.filter fun n => !same n) ++ (if bridged then List.range 16 else [])
  let s := s.each gone fun n s =>
    let s := s.emptyShelf n
    if n < 64 then s else s.updShelf n fun _ => {}
  q.shelves.foldl (fun s r => s.updShelf r.shelf fun x => { x.resize r.minPages with
    cls := r.cls, notice := r.notice, swapMode := r.swapMode, minPages := r.minPages, maxPages := r.maxPages
    swapWords := r.swapWords, staleUs := r.staleUs, prodKind := r.prodKind, prodIndex := r.prodIndex
    consKind := r.consKind, consIndex := r.consIndex }) s

/-- Heads at a commit (R340 steps 3 and 5): one that no longer fits its LANES entry is WRONG_HEAD, every other one is configured. -/
def State.commitPorch (old : List LaneEntry) (s : State) (p : Nat) : State :=
  let q := s.porch p
  let m : IdentMsg := { headType := q.headType, headId := q.headId, port := q.headPort, other := q.other, countMax := q.countMax, fwVer := 0 }
  if s.landing = some p ∨ !q.identOk then s
  else if !s.identFits p m then
    (s.updPorch p fun q => { q with state := .wrongHead, identOk := false }).raise Src.pch 2 p
  else
    let st := if q.state = .ready ∧ old[p]? = s.plan.plan.lanes[p]? then PorchState.ready else PorchState.discovery
    let s := s.updPorch p fun q => { q with state := st }
    if q.recordOk ∧ 16 ≤ q.measured.length then s.inTick fun s => s.configure p else s

/-- The role at the first commit (R374). -/
def State.firstRole (s : State) : State :=
  if s.twn.role ≠ .none then s
  else s.setRole (if s.landing.isNone then .solo else if s.twinHolds then .withdrawn else .standby)

/-- The role at a later FULL commit: a unit whose plan has no Landing runs only in role SOLO (R60). -/
def State.laterRole (s : State) : State := if s.landing.isNone then s.setRole .solo else s

/-- `TWN_CTL.SIDE` comes into force (R5, R375). -/
def State.commitSide (s : State) : State :=
  let v := s.staged.getD s.twn.side
  { (s.setField Reg.TWN_CTL 0 1 v) with twn := { s.twn with side := v } }

/-- The committed plan digest after a commit (R56). -/
def State.nextDigest (s : State) (q : Plan) : Nat :=
  if q.kind = 1 then
    Config.shake256 128 (((leBytes 64 s.plan.digest ++ leBytes 64 q.digest).zipIdx.filter fun b => b.1 ≠ 0).map fun b => (b.2, b.1))
  else q.digest

/-- The commit is complete: IDLE with result DONE (R77). -/
def State.commitDone (s : State) : State :=
  ({ s with plan := { s.plan with st := .idle, cmdResult := PlnResult.done, candKind := 0, preload := 0, bridge := 0 } }).raise Src.pln 3

/-- A FULL plan governs from the coming tick (R59, R62, R77, R87); a resynchronisation in progress ends (R399). It starts on variant 0,
and a selection in progress is dropped, also where a tile was lost between the checks at take-up and T: the spec does not say on which
placement a plan starts then (DESIGN CHOICE, log 50). -/
def State.commitFull (s : State) (q : Plan) (kind : Nat) : State :=
  let t := s.nextTick
  let old := s.plan.plan.lanes
  let first := !s.plan.committed
  let bridged := decide (kind = 3)
  let bend := if bridged then t + s.plan.bridge else t
  let ls := s.changedLoops q
  let s := s.commitMoves ls false
  let s := s.commitLoops q ls (if bridged then some bend else none)
  let loads := s.plan.loads
  let s := s.commitTables q
  let s := { s with
    plan := { s.plan with
      plan := q, committed := true, digest := s.nextDigest q, planId := q.planId, commitFrame := t, bridgeEnd := bend
      variant := 0, switchAt := none, selectNow := false, freezeAt := none, excuseTo := none, loads := loads
      noVariant := false }
    hrt := { s.hrt with cfg := q.frame }
    twn := { s.twn with sync := none, syncBatches := [], syncTables := [] }
    mem := { s.mem with builtOn := s.devsIn, degraded := false, pinnedKb := q.pinned s.plan.fig, spillKb := s.plan.spillKb, spilled := s.plan.spilled } }
  let kept := s.keptJobs q
  let s := (((s.commitShelves q bridged).clearJobs kept).placeTiles q.place0 (decide (kind = 2)) q.digest).commitJobs q kept
  let s := s.each (List.range 16) fun p s => State.commitPorch old s p
  if first then s.firstRole else s.laterRole

/-- A PATCH changes loops and tables of the committed plan at one tick (R80); refused resident jobs are tried again (R124). -/
def State.commitPatch (s : State) (q : Plan) : State :=
  let t := s.nextTick
  let ls := s.changedLoops q
  let m := s.merged q
  let s := ((s.commitMoves ls true).commitLoops q ls none).patchTables q
  let s := { s with plan := { s.plan with
    plan := { m with kind := 0 }, digest := s.nextDigest q, commitFrame := t, bridgeEnd := t } }
  (s.each (List.range 16) fun p s => State.commitPorch s.plan.plan.lanes s p).retryRefused

/-- COMMIT_TAKE_EFFECT (R74 to R77, R80, R87) at tick T. A move in progress makes a PATCH without FORCE fail with MOVE_BUSY as well:
R74 speaks of any commit, while R80 says that a PATCH needs no FORCE (DESIGN CHOICE, log 49). -/
def State.commitEffect (s : State) : State :=
  if s.commitDue then
    match s.plan.cand with
    | some q =>
      let s := s.decideMoves
      if s.movesRun ∧ !s.plan.force then
        (({ s with plan := { s.plan with st := .valid } }).patchRelease).commitFail PlnResult.moveBusy
      else
        let kind := s.plan.candKind
        let s := if q.kind = 1 then s.commitPatch q else s.commitFull q kind
        let s := { s.commitSide with staged := none }
        let s := { s with plan := { s.plan with cand := none } }
        if kind = 3 then { s.commitDone with plan := { s.commitDone.plan with st := .bridge } }
        else if q.kind = 1 then s.commitDone
        else s.finishLoads.commitDone
    | none => { s with plan := { s.plan with st := .idle } }
  else s

/-- COMMIT_TAKE_EFFECT. -/
def execCommitTakeEffect (s : State) : Host.Outcome State Fault Refusal := .next s.commitEffect

/-- The bridge ends at tick T + B (R76); the commit took effect at T (R77, R528). -/
def State.endBridge (s : State) : State :=
  if s.plan.st = .bridge ∧ s.plan.bridgeEnd ≤ s.nextTick then
    let s := s.finishLoads
    { s with plan := { s.plan with st := .idle } }
  else s

/-- BRIDGE_END (R76). -/
def execBridgeEnd (s : State) : Host.Outcome State Fault Refusal := .next s.endBridge

-- Placement variants (R88, R89) -----------------------------------------------------------------------------------------------------------------

/-- The placement is usable and its tiles are in service (R88). -/
def State.fits (s : State) (v : Nat) : Bool :=
  match s.placement v with
  | some p => decide (p.fail = 0) && (members 128 p.mask).all fun t => !s.tilesOut.contains t
  | none => false

/-- No usable variant: the verdict PLACEMENT of an ACTIVE or STANDBY unit; a SOLO unit freezes its loops at tick k + 2 (R89). -/
def State.noVariant (s : State) : State :=
  let lost := s.tilesOut
  let solo (s : State) : State :=
    let s := { s with plan := { s.plan with freezeAt := some (s.hrt.frame + 1), noVariant := true } }
    (s.faultOn FaultCause.noVariant true).record 0x0005 Sev.critical 0 (leBytes 8 s.hrt.frame ++ leBytes 16 (bitSet lost))
  match s.roleNow with
  | .active => s.inTick fun s => s.verdict 7 GuardCode.verdict solo
  | .standby => s.inTick fun s => s.verdict 7 GuardCode.verdict solo
  | .solo => s.inTick fun s => s.verdict 7 GuardCode.verdict solo
  | .withdrawn => s
  | .none => s

/-- The frame-critical partition and the stage of every tile under a placement variant (R64, R88, R93). -/
def State.placeVariant (s : State) (v : Placement) : State :=
  s.each (List.range 128) fun t s =>
    let l := (s.tile t).variantMap (v.fcPages t)
    (if l = (s.tile t).fcMap then s else s.fillPages t s.plan.plan.digest l).updTile t fun x =>
      { x with fcMap := l, stage := tget (fun _ => 15) v.stages t }

/-- User jobs whose pages the new frame-critical partition takes end with PLACEMENT (R129). -/
def State.takePages (s : State) : State :=
  s.each (List.range 128) fun t s =>
    let x := s.tile t
    if x.lost then s
    else s.each ((x.contexts.filter fun c => decide ((s.job c.1).service = 0) && c.2.any x.fcMap.contains).map (·.1)) fun j s =>
      s.endAt EndReason.placement j

/-- Contexts to end, in order, until `need` pages are free and a tile holds fewer than 4. -/
def victims (need : Nat) : Nat → Nat → List (Nat × List Nat) → List (Nat × List Nat)
  | _, _, [] => []
  | free, count, c :: cs => if need ≤ free ∧ count < 4 then [] else c :: victims need (free + c.2.length) (count - 1) cs

/-- Place a service job's context on a tile: where the limits of R116 leave no room, the user jobs with the highest numbers end with
PLACEMENT (DESIGN CHOICE, log 18). -/
def State.placeService (s : State) (j pages t : Nat) : State :=
  let x := s.tile t
  let users := x.contexts.foldl (fun (l : List (Nat × List Nat)) c =>
    if (s.job c.1).service = 0 then (l.filter fun d => c.1 < d.1) ++ [c] ++ l.filter fun d => d.1 ≤ c.1 else l) []
  let gone := victims pages x.free.length x.contexts.length users
  let s := s.each (gone.map (·.1)) fun i s => s.endAt EndReason.placement i
  s.updTile t fun x => { x with contexts := x.contexts ++ [(j, (x.free ++ gone.flatMap (·.2)).take pages)] }

/-- A service job is placed again by the variant (R129): one that runs on where it was keeps its contexts, and one that ended with its tile
begins anew. -/
def State.moveService (s : State) (v : Placement) (r : JobRec) : State :=
  let j := r.job
  let x := s.job j
  let l := members 128 (v.tilesOf r)
  let taken := l.any fun t => ((s.tile t).pagesOf j).any (s.tile t).fcMap.contains
  if x.live && decide (x.tiles = l) && !taken then s
  else if x.live then
    let s := { s with til := { s.til with tiles := tmap (fun _ => {}) (fun _ y => y.drop j) s.til.tiles } }
    (s.updJob j fun x => { x with tiles := l }).each l fun t s => s.placeService j x.pages t
  else if x.state = .ended ∧ x.endReason = EndReason.tileLost then
    ((s.updJob j fun _ => { residentJob r with tiles := l, parks := [] }).each l fun t s => s.placeService j r.pages t).setJob j .ready
  else s

/-- Service jobs are placed again by the variant (R129). -/
def State.moveServices (s : State) (v : Placement) : State :=
  (s.plan.plan.jobs.filter fun r => r.service ≠ 0).foldl (fun s r => s.moveService v r) s

/-- The inactive bank of EST_WEIGHTS becomes EMPTY and its claim is released (R160). -/
def State.dropWeights (s : State) : State :=
  let s := { s with plan := { s.plan with tables := s.plan.tables.map (fun (p : Nat × PlanTable) =>
      if p.2.desc.kind = 5 then
        (p.1, { p.2 with inactive := 0, writer := 0, writerJob := 0, other := [], copying := false, swapAt := none })
      else p) } }
  { s with est := { s.est with adaptJob := none, training := false } }

/-- VARIANT_SWITCH at tick k + 2 (R88, R129, R160). -/
def State.switchVariant (s : State) : State :=
  match s.plan.switchAt with
  | some (v, t) =>
    if t ≤ s.nextTick then
      let s := { s with plan := { s.plan with variant := v, switchAt := none } }
      match s.placement v with
      | some p => ((((s.placeVariant p).takePages).moveServices p).dropWeights).raise Src.pln 5 v
      | none => s
    else s
  | none => s

/-- VARIANT_SWITCH. -/
def execVariantSwitch (s : State) : Host.Outcome State Fault Refusal := .next s.switchVariant

/-- PLACEMENT_SELECT at tick k + 1 after the loss of a tile in frame k (R88); a switch that is due at this tick is made first. -/
def State.selectPlacement (s : State) : State :=
  if s.plan.selectNow then
    let s := { s.switchVariant with plan := { s.switchVariant.plan with selectNow := false } }
    if !s.plan.committed then s
    else
      match (List.range 5).find? s.fits with
      | some v =>
        if v = s.plan.variant then s
        else { s with plan := { s.plan with switchAt := some (v, s.nextTick + 1) } }
      | none => s.noVariant
  else s

/-- PLACEMENT_SELECT. -/
def execPlacementSelect (s : State) : Host.Outcome State Fault Refusal := .next s.selectPlacement

/-- On a SOLO unit without a usable variant the loops freeze at tick k + 2 (R89, R206). -/
def State.freezeLost (s : State) : State :=
  match s.plan.freezeAt with
  | some t =>
    if t ≤ s.nextTick then { (s.freezeWhere 5 fun _ => true) with plan := { s.plan with freezeAt := none } } else s
  | none => s

end Sys2Proof.Machine
end

