-- ==== Sys2Proof/Machine/Trace.lean ====
section
/-! DEFINITION. The trace channels: arming, samples, triggers and the rings in the Hall (R218 to R221). -/
namespace Sys2Proof.Machine

/-- TRACE_ARM (R220, R223): taken up at the next tick. -/
def execTraceArm (channel : BitVec 6) (s : State) : Host.Outcome State Fault Refusal :=
  .next (s.updChan channel.toNat fun c => { c with armNow := true })

/-- TRIG_NOW (R221): a MANUAL trigger in the current frame. -/
def execTrigNow (channel : BitVec 6) (s : State) : Host.Outcome State Fault Refusal :=
  .next (s.updChan channel.toNat fun c => { c with trigNow := true })

/-- Capacity of a ring in samples (R219). -/
def Channel.capacity (c : Channel) : Nat := 2 ^ c.sizeLog2

/-- Bytes of a ring with its header (R219). -/
def ringBytes (sizeLog2 : Nat) : Nat := 4096 + 8 * 2 ^ sizeLog2

/-- A ring is in use by a channel of the state. -/
def Channel.owns (c : Channel) : Bool := decide (c.state ≠ 0)

/-- `ARM_RESULT` of an arm taken up now (R219, R220, R223): 0 OK, 1 RANGE, 2 SEAT. A reserved node is out of range (log 10). -/
def State.armCheck (s : State) (ch : Nat) : Nat :=
  let cfg := s.reg (Reg.TRC_CHc_CFG ch)
  let ring := s.reg (Reg.TRC_CHc_RING ch)
  let trig := s.reg (Reg.TRC_CHc_TRIG ch)
  let seat := bitsOf ring 61 3
  let size := bitsOf ring 48 5
  let off := bitsOf ring 0 28
  if !(s.seat seat).bound then 2
  else if size < 10 ∨ 20 < size ∨ off % 4096 ≠ 0 ∨ off < 0x1000000 ∨ hallSize < off + ringBytes size then 1
  else if (List.range 64).any fun o => decide (o ≠ ch) && (s.chan o).owns && decide ((s.chan o).seat = seat)
      && decide (off < (s.chan o).off + ringBytes (s.chan o).sizeLog2) && decide ((s.chan o).off < off + ringBytes size) then 1
  else if 2 ^ size < bitsOf trig 24 20 + bitsOf trig 44 20 + 1 then 1
  else if 11 < bitsOf cfg 16 4 then 1
  else 0

/-- Take up an arm (R220): the settings are copied, and the first sample is that of the frame the tick begins. -/
def State.takeTraceArm (s : State) (ch : Nat) : State :=
  let r := s.armCheck ch
  if r ≠ 0 then s.updChan ch fun c => { c with armNow := false, armResult := r }
  else
    let cfg := s.reg (Reg.TRC_CHc_CFG ch)
    let ring := s.reg (Reg.TRC_CHc_RING ch)
    let trig := s.reg (Reg.TRC_CHc_TRIG ch)
    s.updChan ch fun c =>
      { state := 1, seat := bitsOf ring 61 3, off := bitsOf ring 0 28, sizeLog2 := bitsOf ring 48 5, loopIx := bitsOf cfg 0 14
        node := bitsOf cfg 16 4, pre := bitsOf trig 24 20, post := bitsOf trig 44 20, period := s.hrt.cfg.period
        armFrame := s.nextTick, seq := c.seq }

/-- Arms written in the frame that ends. -/
def State.takeTraceArms (s : State) : State :=
  s.each (tkeys (·.armNow) s.eng.channels) fun ch s => s.takeTraceArm ch

/-- The value of a node in the frame that ends (R218). -/
def State.nodeValue (s : State) (node l : Nat) : Int :=
  let x := s.loop l
  let sec (k : Nat) : Int := ((x.secs[k]?).getD {}).y1
  match node with
  | 0 => sat15 (x.now.rEff - (x.angles.head?).getD 0)
  | 1 => sec 0
  | 2 => sec 1
  | 3 => sec 2
  | 4 => sec 3
  | 5 => toQ15 x.integ 0
  | 6 => if x.clsNow = .freeze then x.frzCmd else (x.ready).getD x.cmd.u
  | 7 => x.now.theta
  | 8 => x.now.conf
  | 9 => x.now.resid
  | 10 => x.now.rEff
  | 11 => x.now.predict
  | _ => 0

/-- `CLASS` of a loop as registers, tables and samples show it (R186). -/
def LoopClass.code : LoopClass → Nat
  | .off => 0
  | .acquire => 1
  | .slew => 2
  | .hold => 3
  | .track => 4
  | .freeze => 5

/-- The sample's value: the last command in a frame in which the loop overran (R219). -/
def State.sampleValue (s : State) (c : Channel) : Int :=
  if s.hrt.ovrNow.contains c.loopIx then (s.loop c.loopIx).heldCmd else s.nodeValue c.node c.loopIx

/-- A trigger's condition on this sample, for the types that look at no other channel (R221). -/
def State.trigFires (s : State) (ch : Nat) (c : Channel) (v : Int) : Bool :=
  let cfg := s.reg (Reg.TRC_CHc_CFG ch)
  let lev := s.field (Reg.TRC_CHc_TRIG ch) 0 16
  let level : Int := if c.node = 8 then (lev : Int) else signed 16 lev
  let x := s.loop c.loopIx
  match bitsOf cfg 32 3 with
  | 0 => c.trigNow
  | 1 => (match c.prev with | some p => decide (level ≤ v) && decide (p < level) | none => false)
  | 2 => (match c.prev with | some p => decide (v < level) && decide (level ≤ p) | none => false)
  | 3 => decide (level.natAbs ≤ v.natAbs)
  | 4 => decide (x.clsNow = .freeze) && decide (x.clsPrev ≠ .freeze)
  | 5 => decide (x.clsNow ≠ x.clsPrev)
  | 6 => s.hrt.guardNow
  | _ => false

/-- A sample finds the staging buffer full (R220). -/
def Channel.full (c : Channel) : Bool := decide (8192 ≤ c.staged.length)

/-- The channel can take a trigger on this sample: it is armed, `PRE` samples have been written, and the sample is not lost. -/
def Channel.ready (c : Channel) : Bool := decide (c.state = 1) && decide (c.pre ≤ c.taken) && !c.full

/-- Channels that fire in the frame, with those of type CHANNEL whose source fires (R221), in at most `fuel` rounds. -/
def State.fireRounds (s : State) : Nat → List Nat → List Nat
  | 0, f => f
  | n + 1, f =>
    s.fireRounds n (f ++ tkeysOf s f)
where
  /-- Armed CHANNEL channels not in the list whose source is. -/
  tkeysOf (s : State) (f : List Nat) : List Nat :=
    (s.eng.channels.filter fun p => p.2.ready && !f.contains p.1
      && decide (s.field (Reg.TRC_CHc_CFG p.1) 32 3 = 7) && f.contains (s.field (Reg.TRC_CHc_CFG p.1) 40 6)).map (·.1)

/-- Channels that fire in the frame that ends. -/
def State.firing (s : State) : List Nat :=
  s.fireRounds 64 ((s.eng.channels.filter fun p => p.2.ready && s.trigFires p.1 p.2 (s.sampleValue p.2)).map (·.1))

/-- The sample word of R219. -/
def State.sampleWord (s : State) (c : Channel) (v : Int) (trig : Bool) : Word :=
  let x := s.loop c.loopIx
  let valid := match x.record with | some r => estValid r | none => false
  BitVec.ofNat 64 (s.hrt.frame % 2 ^ 32 * 2 ^ 32 + bit trig * 2 ^ 22 + bit c.gap * 2 ^ 21
    + bit (s.hrt.ovrNow.contains c.loopIx) * 2 ^ 20 + bit valid * 2 ^ 19 + x.clsNow.code * 2 ^ 16 + twos 16 v)

/-- One channel records its node for the frame that ends (R220). -/
def State.traceSample (s : State) (fired : List Nat) (ch : Nat) : State :=
  let c := s.chan ch
  if c.state ≠ 1 ∧ c.state ≠ 2 then s
  else if s.hrt.frame < c.armFrame then s
  else if c.full then
    s.updChan ch fun c => { c with dropped := min (2 ^ 32 - 1) (c.dropped + 1), gap := true, prev := some (s.sampleValue c) }
  else
    let v := s.sampleValue c
    let trig := fired.contains ch
    let w := s.sampleWord c v trig
    let after := match c.trigIdx with | some i => c.taken - i | none => 0
    let state := if trig then (if c.post = 0 then 3 else 2) else if c.state = 2 ∧ c.post ≤ after then 3 else c.state
    s.updChan ch fun c => { c with
      state := state, taken := c.taken + 1, staged := c.staged ++ [w], gap := false, prev := some v, fired := trig
      trigIdx := if trig then some c.taken else c.trigIdx, trigFrame := if trig then s.hrt.frame else c.trigFrame }

/-- All channels at the end of a frame; a MANUAL trigger lasts for its frame (R220, R221). -/
def State.traceFrame (s : State) : State :=
  let fired := s.firing
  let s := s.each (s.eng.channels.map (·.1)) fun ch s => s.traceSample fired ch
  s.each (tkeys (·.trigNow) s.eng.channels) fun ch s => s.updChan ch fun c => { c with trigNow := false }

/-- The first 64 bytes of a ring's header (R219); the rest of it is 0, which every batch writes too. -/
def Channel.header (ch : Nat) (c : Channel) : List Byte :=
  leBytes 4 0x434E5254 ++ leBytes 2 1 ++ [BitVec.ofNat 8 ch, BitVec.ofNat 8 c.node] ++ leBytes 2 c.loopIx
    ++ [BitVec.ofNat 8 c.sizeLog2, BitVec.ofNat 8 c.state] ++ leBytes 4 c.period ++ leBytes 8 c.armFrame
    ++ leBytes 8 c.writeIdx ++ leBytes 8 (match c.trigIdx with | some i => i | none => 2 ^ 64 - 1) ++ leBytes 8 c.trigFrame
    ++ leBytes 4 c.pre ++ leBytes 4 c.post ++ leBytes 4 c.dropped ++ leBytes 4 c.seq

/-- Write a sample into its slot of the ring. -/
def State.ringSample (s : State) (c : Channel) (i : Nat) (w : Word) : State :=
  s.hallWrite c.seat (c.off + 4096 + 8 * (i % c.capacity)) (leBytes 8 w.toNat)

/-- Write consecutive samples from count `i`. -/
def State.ringSamples (s : State) (c : Channel) : Nat → List Word → State
  | _, [] => s
  | i, w :: ws => (s.ringSample c i w).ringSamples c (i + 1) ws

/-- TRACE_WRITE (R220): a batch of staged samples goes to the ring, and the header is brought up to date with an even `SEQ`. -/
def execTraceWrite (channel : BitVec 6) (count : BitVec 14) (s : State) : Host.Outcome State Fault Refusal :=
  let ch := channel.toNat
  let c := s.chan ch
  let ws := c.staged.take count.toNat
  if c.state = 0 ∨ ws.isEmpty then .next s
  else
    let s := s.ringSamples c c.writeIdx ws
    let c1 := { c with staged := c.staged.drop count.toNat, writeIdx := c.writeIdx + ws.length, seq := (c.seq + 2) % 2 ^ 32 }
    .next (((s.updChan ch fun _ => c1).zeroBytes (hallBase c.seat + c.off) 4096).hallWrite c.seat c.off (c1.header ch))

end Sys2Proof.Machine
end

