-- ==== Sys2Proof/Machine/Seats.lean ====
section
/-! DEFINITION. The CXL port and the seats: binding, reset and clearing, features, the host's writes to its Hall, and the mailboxes
(R402 to R408, R411, R416, R421 to R435). -/
namespace Sys2Proof.Machine

/-- Bits of `SYS_EVT` (R429). -/
def SysEvt.bound : Nat := 0
def SysEvt.reset : Nat := 1
def SysEvt.down : Nat := 2
def SysEvt.up : Nat := 3
def SysEvt.degraded : Nat := 4
def SysEvt.ideFail : Nat := 5

/-- Seats that a host holds, ascending. -/
def State.boundSeats (s : State) : List Nat := (List.range 8).filter fun i => (s.seat i).bound

-- Binding, reset and clearing (R404, R424, R425) ------------------------------------------------------------------------------

/-- SEAT_BOUND (R404): the fabric manager binds the LD. In recovery only seat 0 is exposed (R438). -/
def execSeatBound (seat : BitVec 3) (s : State) : Host.Outcome State Fault Refusal :=
  let i := seat.toNat
  if !s.boot.ready || !s.port.linkUp || (s.seat i).bound || (s.upd.recovery && decide (i ≠ 0)) then .next s
  else .next ((s.updSeat i fun x => { x with bound := true, state := .clearing }).raise Src.sys SysEvt.bound i)

/-- CLEARING_DONE (R404, R425): the Hall is zeroed; a bound seat waits for its features. -/
def execClearingDone (seat : BitVec 3) (s : State) : Host.Outcome State Fault Refusal :=
  let i := seat.toNat
  let x := s.seat i
  if x.state = .clearing ∧ !x.resetting then
    .next ((s.zeroBytes (hallBase i) hallSize).updSeat i fun x => { x with state := if x.bound then .negotiate else .unbound })
  else .next s

/-- What a reset of a seat does at its instant (R425): take-up stops, POSTED slots are discarded, and the secure sessions of the
LD end (R433). `stays`: the LD stays bound. -/
def State.resetSeat (s : State) (stays : Bool) (i : Nat) : State :=
  if (s.seat i).bound then
    let s := s.updSeat i fun x => { x with state := .clearing, resetting := true, bound := stays }
    let s := { s with
      taken := s.taken.map (fun (o : TakenOrder) => if o.seat = i then { o with gone := true } else o)
      mov := { s.mov with moves := s.mov.moves.map (fun (p : Nat × Move) =>
        if p.2.seat = i then (p.1, { p.2 with gone := true }) else p) }
      upd := { s.upd with sessions := s.upd.sessions.filter (· ≠ i) }
      port := { s.port with waiting := s.port.waiting.filter (fun (r : Nat × DoeReq) => r.1 ≠ i) } }
    s.raise Src.sys SysEvt.reset i
  else s

/-- SEAT_RESET (R424): an FLR of the LD, or unbinding. -/
def execSeatReset (seat : BitVec 3) (unbind : Bool) (s : State) : Host.Outcome State Fault Refusal :=
  .next (s.resetSeat (!unbind) seat.toNat)

/-- Every bound seat is reset, and the IDE streams end (R424, R435). -/
def State.resetSeats (s : State) (stays : Bool) : State :=
  let s := s.each s.boundSeats fun i s => s.resetSeat stays i
  { s with port := { s.port with ioSecure := false, memSecure := false } }

/-- PERST (R424): `PERST_N` or a hot reset. -/
def execPerst (s : State) : Host.Outcome State Fault Refusal :=
  let s := s.resetSeats true
  .next { s with port := { s.port with perst := true } }

/-- LINK_DOWN (R424, R426): the fabric manager binds the LDs anew when the link is up again. -/
def execLinkDown (s : State) : Host.Outcome State Fault Refusal :=
  if s.port.linkUp then
    let s := (s.resetSeats false).raise Src.sys SysEvt.down
    .next { s with port := { s.port with linkUp := false, width := 0, speed := 0, flit256 := false } }
  else .next s

/-- LINK_UP (R402, R403, R426): 256-byte flits at 64 GT/s, 68-byte flits at 32 GT/s. -/
def execLinkUp (x8 gt64 : Bool) (s : State) : Host.Outcome State Fault Refusal :=
  if s.boot.started && (!s.port.linkUp || s.port.perst) then
    let s := { s with port := { s.port with
      linkUp := true, perst := false, width := if x8 then 8 else 4, speed := if gt64 then 2 else 1, flit256 := gt64 } }
    let s := s.raise Src.sys SysEvt.up
    .next (if x8 && gt64 then s else s.raise Src.sys SysEvt.degraded)
  else .next s

/-- LINK_RECOVERY (R429). -/
def execLinkRecovery (s : State) : Host.Outcome State Fault Refusal :=
  if s.port.linkUp then .next (s.count Reg.SYS_LINK 32 32 1) else .next s

/-- IDE_FAIL (R423): both streams leave the secure state, and every seat that requires them is reset. -/
def execIdeFail (s : State) : Host.Outcome State Fault Refusal :=
  let s := ({ s with port := { s.port with ioSecure := false, memSecure := false } }).raise Src.sys SysEvt.ideFail
  .next (s.each (s.boundSeats.filter fun i => s.inForce (Reg.SYS_SEATs_CFG i) 8 1 = 1) fun i s => s.resetSeat true i)

/-- A seat page returns to its reset values (R425, R428). -/
def State.clearPage (s : State) (i : Nat) : State :=
  let keep := fun (p : Nat × Word) => p.1 < 0x1000000 + 0x10000 * i ∨ 0x1000000 + 0x10000 * (i + 1) ≤ p.1
  { s with regs := s.regs.filter keep, live := s.live.filter keep }

/-- The staging lock of the Owner seat is released and its bundle discarded (R445); an activation that is scheduled stays. -/
def State.dropStaging (s : State) : State :=
  if s.upd.lockSrc = 0 ∧ (s.upd.st = .staging ∨ s.upd.st = .staged) then
    let s := s.inTick fun t => State.sendAll s.upd.loaded prioBulk (.imgData 4 0 0) t
    { s with upd := { s.upd with
        st := .idle, lockSrc := 15, bundle := none, imageLen := 0, image := [], relayed := none, stageEnd := none
        asked := s.upd.asked ++ s.upd.loaded.map (·, 4), loaded := [] } }
  else s

/-- What a reset of the Owner seat also does (R79, R445, R473). -/
def State.resetOwner (s : State) : State :=
  let s := if s.plan.st = .validating then { s with plan := { s.plan with st := .idle, valEnd := none } } else s
  let s := { s with
    plan := { s.plan with tables := s.plan.tables.map (fun (p : Nat × PlanTable) => if p.2.heldBy 1 0 then (p.1, p.2.release) else p) }
    att := { s.att with aborting := s.att.aborting || s.att.reading.isSome } }
  s.dropStaging

/-- The effects of a seat's reset at the next tick (R425). Its jobs end with the ends of that tick (R123). -/
def State.resetTick (s : State) (i : Nat) : State :=
  let s := s.each (s.seatJobs i) fun j s => s.endAt EndReason.seatReset j
  let s := s.each ((s.shelves.filter fun p => decide (p.2.consKind = 4) && decide (p.2.consIndex = i)).map (·.1))
    fun n s => s.emptyShelf n
  let s := s.each ((s.eng.channels.filter fun p => p.2.owns && decide (p.2.seat = i)).map (·.1))
    fun c s => s.updChan c fun x => { x with state := 0, staged := [] }
  let s := if i = 0 then s.resetOwner else s
  let s := { s.clearPage i with ops := { s.ops with feat := s.ops.feat.filter (· ≠ i) } }
  s.updSeat i fun x => { state := .clearing, bound := x.bound }

/-- Resets whose tick has come. -/
def State.resetsTick (s : State) : State := s.each (tkeys (·.resetting) s.seats) fun i s => s.resetTick i

-- Features (R421, R422) -----------------------------------------------------------------------------------------------------------

/-- The feature word offered: bits 0 to 7 (R421). -/
def featOffer : Nat := 0xFF

/-- The accepted feature word of a seat. -/
def State.accepted (s : State) (i : Nat) : Nat :=
  ((List.range 4).map fun j => (s.reg (Reg.SEAT_FEAT_ACC i j)).toNat * 2 ^ (64 * j)).sum

/-- FEATURE_COMMIT (R422): taken up at the next tick. -/
def execFeatureCommit (seat : BitVec 3) (s : State) : Host.Outcome State Fault Refusal :=
  if s.ops.feat.contains seat.toNat then .next s
  else .next { s with ops := { s.ops with feat := s.ops.feat ++ [seat.toNat] } }

/-- `RESULT` of a COMMIT (R422, R423): 1 DONE, 2 NO_BASE, 3 UNOFFERED, 4 NO_IDE, 5 STATE. -/
def State.featResult (s : State) (i : Nat) : Nat :=
  let a := s.accepted i
  if a % 2 = 0 then 2
  else if featOffer < a then 3
  else if s.inForce (Reg.SYS_SEATs_CFG i) 8 1 = 1 ∧ !(s.port.ioSecure && s.port.memSecure) then 4
  else if (s.seat i).state ≠ .negotiate then 5
  else 1

/-- Take up a COMMIT at the tick: the seat is READY from it, and its orders are taken up from the next (R422). -/
def State.takeFeat (s : State) (i : Nat) : State :=
  let r := s.featResult i
  let s := s.setField (Reg.SEAT_FEAT_CMD i) 8 8 r
  let s := if r = 1 then
      let a := s.accepted i
      let s := (List.range 4).foldl (fun s j => s.setReg (Reg.SEAT_FEAT_AGREED i j) (BitVec.ofNat 64 (a / 2 ^ (64 * j)))) s
      s.updSeat i fun x => { x with state := .ready, readyAt := s.nextTick, agreed := a }
    else s
  let s := s.setField (Reg.SEAT_EVT i) 0 1 1
  { s with later := s.later ++ [⟨Src.seatSrc, 0, 0, noObj, r, [], [i]⟩] }

/-- Feature commits at the tick. -/
def State.featTick (s : State) : State :=
  let l := s.ops.feat
  s.each l (fun i s => s.takeFeat i) |> fun s => { s with ops := { s.ops with feat := [] } }

-- Host writes to a Hall (R407, R408, R416) --------------------------------------------------------------------------------------------

/-- The byte lies in a slot that is TAKEN: its order has been taken up and is not yet DONE (R413, R416). -/
def State.slotTaken (s : State) (i off : Nat) : Bool :=
  decide (off < 0x100000) && s.taken.any fun o => decide (o.seat = i) && decide (o.slot = off / 256) && !o.gone

/-- The byte lies in the reserved area, which reads 0 (R408). -/
def hallReserved (off : Nat) : Bool := decide (0x541000 ≤ off) && decide (off < 0x1000000)

/-- SLOT_WRITE (R408, R416): a host writes its Hall. Bytes of a TAKEN slot are ignored, and a write to its header is flagged. -/
def execSlotWrite (seat : BitVec 3) (offset : BitVec 28) (bytes : List Byte) (s : State) : Host.Outcome State Fault Refusal :=
  let i := seat.toNat
  let o := offset.toNat
  if hallSize < o + bytes.length then .fault .outsideHall
  else if !s.boot.ready || s.boot.stopped || !(s.seat i).bound then .next s
  else
    let at_ := (span o bytes.length).zip bytes
    let flagged := at_.any fun p => s.slotTaken i p.1 && decide (p.1 % 256 < 32)
    let u := at_.foldl (fun u p => if s.slotTaken i p.1 || hallReserved p.1 then u else u.writeByte (hallBase i + p.1) p.2) s
    .next (if flagged then u.seatEvt i 3 else u)

-- Mailboxes (R402, R431 to R435) --------------------------------------------------------------------------------------------------

/-- Give an answer. -/
def State.answer (s : State) (r : Reply) : State := { s with port := { s.port with reply := r } }

/-- MAILBOX_COMMAND (R402): Identify Memory Device, Get Supported Logs and Get Log; the opcodes are those of CXL (PRESUMED,
log 5). -/
def execMailboxCommand (seat : BitVec 3) (opcode : BitVec 16) (s : State) : Host.Outcome State Fault Refusal :=
  if !s.boot.ready || !(s.seat seat.toNat).bound then .next s
  else if [0x4000, 0x0400, 0x0401].contains opcode.toNat then .next (s.answer (.answer (Config.cxlReply opcode.toNat)))
  else .next (s.answer .unsupported)

/-- FM_API_COMMAND (R402): Get LD Info and Get LD Allocations; Set LD Allocations is refused for any size but 256 MB. -/
def execFmApiCommand (opcode : BitVec 16) (allocMb : BitVec 32) (s : State) : Host.Outcome State Fault Refusal :=
  if !s.boot.ready then .next s
  else match opcode.toNat with
    | 0x5400 => .next (s.answer (.answer (Config.cxlReply 0x5400)))
    | 0x5401 => .next (s.answer (.answer (Config.cxlReply 0x5401)))
    | 0x5402 => .next (s.answer (if allocMb = 256 then .answer (Config.cxlReply 0x5402) else .refused))
    | _ => .next (s.answer .unsupported)

/-- A firmware slot: 0 A, 1 B. -/
def State.fwSlot (s : State) (i : Nat) : FwSlot := if i = 0 then s.flash.slotA else s.flash.slotB

/-- The manifest digest of the running slot (R434, R459). -/
def State.manifest (s : State) : Nat := (s.fwSlot s.upd.runSlot).manifest

/-- A measurement (R434); the digests of the boot ROM and of the components are opaque (log 5). -/
def State.measure (s : State) (i : Nat) : Reply :=
  if i = 0x10 then .answer (((leBytes 8 s.flash.fusedSvn).map BitVec.toNat))
  else if i = 0x11 then .answer (((leBytes 64 s.manifest).map BitVec.toNat))
  else if i = 0x12 then .answer (((leBytes 64 (if s.plan.committed then s.plan.digest else 0)).map BitVec.toNat))
  else if i = 0x13 then .answer [bit s.flash.pending.isSome]
  else if 1 ≤ i ∧ i ≤ 8 then .answer (Config.spdmReply 2 i s.flash.serial s.manifest)
  else .unsupported

/-- Answer an SPDM request (R431 to R434): certificate slot 0 alone holds a chain; an LD holds at most 2 secure sessions, the device
8. -/
def State.spdm (s : State) (ld : Nat) : SpdmReq → State
  | .negotiate offered => s.answer (if offered then .answer (Config.spdmReply 0 0 s.flash.serial 0) else .unsupported)
  | .getCertificate slot =>
    s.answer (.answer (if slot = 0 then Config.spdmReply 1 0 s.flash.serial 0 else []))
  | .challenge => s.answer (.answer (Config.spdmReply 3 0 s.flash.serial s.manifest))
  | .getMeasurement i => s.answer (s.measure i.toNat)
  | .keyExchange =>
    if (s.upd.sessions.filter (· = ld)).length < 2 ∧ s.upd.sessions.length < 8 then
      ({ s with upd := { s.upd with sessions := s.upd.sessions ++ [ld] } }).answer (.answer (Config.spdmReply 4 ld s.flash.serial 0))
    else s.answer .refused
  | .endSession => { s with upd := { s.upd with sessions := s.upd.sessions.erase ld } }.answer (.answer [])
  | .unsupported => s.answer .unsupported

/-- IDE key management (R435): only on LD 0 and the FM-owned LD, within a secure session, and on a link that is up. -/
def State.ideKeys (s : State) (ld : Nat) (io mem : Bool) : State :=
  if (ld = 0 ∨ ld = 8) ∧ s.upd.sessions.contains ld ∧ s.port.linkUp then
    { s with port := { s.port with
        ioSecure := s.port.ioSecure || io, memSecure := s.port.memSecure || mem, reply := .answer [] } }
  else s.answer .refused

/-- Answer one DOE request. -/
def State.doeAnswer (s : State) (ld : Nat) : DoeReq → State
  | .spdm r => s.spdm ld r
  | .ide io mem => s.ideKeys ld io mem

/-- A DOE request: while the supervisors restart it waits (R433). -/
def State.doe (s : State) (ld : Nat) (r : DoeReq) : State :=
  if !s.boot.ready then s
  else if s.upd.restart then { s with port := { s.port with waiting := s.port.waiting ++ [(ld, r)] } }
  else s.doeAnswer ld r

/-- SPDM_REQUEST (R432). -/
def execSpdmRequest (ld : Fin 9) (r : SpdmReq) (s : State) : Host.Outcome State Fault Refusal := .next (s.doe ld.val (.spdm r))

/-- IDE_KEY_MANAGEMENT (R435). -/
def execIdeKeyManagement (ld : Fin 9) (io mem : Bool) (s : State) : Host.Outcome State Fault Refusal :=
  .next (s.doe ld.val (.ide io mem))

end Sys2Proof.Machine
end

