-- ==== Sys2Proof/Machine/Update.lean ====
section
/-! DEFINITION. Plan-signing keys, staging, activation, confirmation and fallback of firmware, and the Cupboard (R436, R440 to
R458). -/
namespace Sys2Proof.Machine

/-- `CMD_RESULT` (R459). -/
def UpdResult.done : Nat := 1
def UpdResult.stageBusy : Nat := 2
def UpdResult.badBundle : Nat := 3
def UpdResult.signature : Nat := 4
def UpdResult.rollback : Nat := 5
def UpdResult.state : Nat := 6
def UpdResult.stale : Nat := 7
def UpdResult.notHealthy : Nat := 8
def UpdResult.migration : Nat := 9
def UpdResult.headImage : Nat := 10
def UpdResult.flash : Nat := 11
def UpdResult.keyFull : Nat := 12
def UpdResult.noKey : Nat := 13

/-- Causes of a fallback (R459). -/
def FbCause.selftest : Nat := 1
def FbCause.timeout : Nat := 2
def FbCause.migration : Nat := 3
def FbCause.owner : Nat := 4
def FbCause.por : Nat := 5

/-- `UPD_STATUS.STATE` (R459). -/
def UpdState.code : UpdState → Nat
  | .idle => 0
  | .staging => 1
  | .staged => 2
  | .scheduled => 3
  | .restarting => 4
  | .pending => 5
  | .fallingBack => 6

/-- An operation written to `UPD_CMD`; the last of a frame is taken up (R459, R497). -/
def State.updOp (s : State) (op : Nat) (flag : Bool) : State := { s with ops := { s.ops with upd := some (op, flag) } }

/-- STAGE (R443): taken up at the next tick. -/
def execStage (pair : Bool) (s : State) : Host.Outcome State Fault Refusal := .next (s.updOp 1 pair)
/-- ACTIVATE (R449): taken up at the next tick. -/
def execActivate (timeNs : Bool) (s : State) : Host.Outcome State Fault Refusal := .next (s.updOp 2 timeNs)
/-- CANCEL (R449): taken up at the next tick. -/
def execUpdateCancel (s : State) : Host.Outcome State Fault Refusal := .next (s.updOp 3 false)
/-- CONFIRM (R453): taken up at the next tick. -/
def execConfirm (s : State) : Host.Outcome State Fault Refusal := .next (s.updOp 4 false)
/-- FALLBACK (R454): taken up at the next tick. -/
def execFallback (s : State) : Host.Outcome State Fault Refusal := .next (s.updOp 5 false)
/-- ENROLL_KEY (R436): taken up at the next tick. -/
def execEnrollKey (s : State) : Host.Outcome State Fault Refusal := .next (s.updOp 6 false)
/-- REVOKE_KEY (R436): taken up at the next tick. -/
def execRevokeKey (s : State) : Host.Outcome State Fault Refusal := .next (s.updOp 7 false)

/-- Set `CMD_RESULT` and `WHERE`. -/
def State.updResult (s : State) (r : Nat) (loc : Nat := 0) : State :=
  { s with upd := { s.upd with cmdResult := r, loc := loc } }

/-- The flash takes no write (R470, R492); recovery alone does not keep a bundle from being staged (R438). -/
def State.flashOut (s : State) : Bool := s.att.failed && !s.upd.recovery

-- The Cupboard (R456) -----------------------------------------------------------------------------------------------------------------

/-- A Cupboard slot. -/
def State.cup (s : State) (c : Nat) : CupSlot := tget (fun _ => {}) s.flash.cups c
def State.updCup (s : State) (c : Nat) (f : CupSlot → CupSlot) : State :=
  { s with flash := { s.flash with cups := tupd (fun _ => {}) s.flash.cups c f } }
/-- The first Cupboard slot that satisfies `p`. -/
def State.cupWhere (s : State) (p : CupSlot → Bool) : Option Nat := (List.range 4).find? fun c => p (s.cup c)
/-- The LIVE slot of a firmware slot. -/
def State.liveCup (s : State) (fw : Nat) : Option Nat := s.cupWhere fun c => decide (c.state = 1) && decide (c.fw = fw)
/-- The PREVIOUS slot. -/
def State.prevCup (s : State) : Option Nat := s.cupWhere fun c => decide (c.state = 2)
/-- The running firmware writes its settings to its LIVE slot (R456). -/
def State.saveCup (s : State) : State :=
  match s.liveCup s.upd.runSlot with
  | some c => s.updCup c fun x => { x with keys := s.upd.keys, retired := s.mem.cupboard }
  | none => s

/-- Take the settings of a Cupboard slot: the keys, and the retired-page list; a page retired since is in use again (R456,
R458). -/
def State.loadCup (s : State) (c : Nat) : State :=
  let x := s.cup c
  let back := s.mem.retired.filter fun p => !x.retired.contains p
  let s := back.foldl (fun s p => s.updDev (pageDev p) fun d =>
    let m := d.map.filter fun e => e.1 ≠ pageIndex (s.origin p)
    { d with map := m, spares := d.spares + (d.map.length - m.length) }) s
  { s with upd := { s.upd with keys := x.keys }
           mem := { s.mem with cupboard := x.retired, retired := s.mem.retired.filter x.retired.contains
                               unallotted := s.mem.unallotted.filter x.retired.contains } }

/-- The new firmware migrates the settings of the firmware slot `old` (R457, R458). -/
def State.migrate (s : State) (old new : Nat) (fails : Bool) (schema : Nat) : State :=
  let s := s.saveCup
  match s.liveCup old, s.cupWhere fun c => decide (c.state = 0) || decide (c.state = 3) with
  | some a, some b =>
    let x := s.cup a
    let s := s.updCup a fun y => { y with state := 2 }
    if fails then
      let s := s.updCup b fun y => { y with state := 3, fw := new }
      let s := (s.record 0x0011 Sev.error 0 (leBytes 2 x.schema ++ leBytes 2 schema)).raise Src.upd 3
      { s with upd := { s.upd with migrFailed := true, fbFound := some (FbCause.migration, s.nextTick + 1) } }
    else
      s.updCup b fun _ => { x with state := 1, schema := schema, gen := (x.gen + 1) % 2 ^ 32, fw := new }
  | _, _ => s

/-- The restored firmware makes the PREVIOUS slot LIVE again and runs from it; settings changed since are lost (R458). -/
def State.restoreCup (s : State) (new : Nat) : State :=
  let s := match s.liveCup new with
    | some b => s.updCup b fun y => { y with state := 3 }
    | none => s
  match s.prevCup with
  | some a => (s.updCup a fun y => { y with state := 1 }).loadCup a
  | none => s

-- Plan-signing keys (R436) ------------------------------------------------------------------------------------------------------------

/-- ENROLL_KEY at its take-up: the write to the Cupboard begins, in the lowest free key slot. -/
def State.takeEnroll (s : State) : State :=
  let k := s.readBytes (hallBase 0 + s.field Reg.UPD_KEY_OFF 0 28) 57
  match (List.range 8).find? fun i => (s.upd.keys.find? (·.1 = i)).isNone with
  | some i => { s with upd := { s.upd with keyWrite := some (s.upd.keys ++ [(i, k)]), keyDone := false, cmdResult := 0 } }
  | none => s.updResult UpdResult.keyFull

/-- REVOKE_KEY at its take-up. -/
def State.takeRevoke (s : State) : State :=
  let n := s.readBytes (hallBase 0 + s.field Reg.UPD_KEY_OFF 0 28) 16
  if s.upd.keys.any fun k => keyIdOf k.2 = n then
    { s with upd := { s.upd with
      keyWrite := some (s.upd.keys.filter fun k => keyIdOf k.2 ≠ n), keyDone := false, cmdResult := 0 } }
  else s.updResult UpdResult.noKey

/-- A key operation at its take-up (R436, R492): one that meets a write in progress waits for nothing and gets STATE. -/
def State.takeKey (s : State) (op : Nat) : State :=
  if s.flashOut then s.updResult UpdResult.flash
  else if s.upd.keyWrite.isSome then s.updResult UpdResult.state
  else if op = 6 then s.takeEnroll
  else s.takeRevoke

/-- CUPBOARD_WRITE_DONE (R436): the change takes effect at the next tick. -/
def execCupboardWriteDone (s : State) : Host.Outcome State Fault Refusal :=
  if s.upd.keyWrite.isSome then .next { s with upd := { s.upd with keyDone := true } } else .next s

/-- A completed change of the keys takes effect. -/
def State.keyTick (s : State) : State :=
  match s.upd.keyWrite with
  | some l =>
    if s.upd.keyDone then
      (({ s with upd := { s.upd with keys := l, keyWrite := none, keyDone := false } }).saveCup).updResult UpdResult.done
    else s
  | none => s

-- The update bundle (R440 to R442) ------------------------------------------------------------------------------------------------------

/-- A number in a bundle. -/
def bunNat (b : List (Nat × Byte)) (o n : Nat) : Nat := bankNat b o n
/-- Offset of the component entry `i`. -/
def bunEntry (i : Nat) : Nat := 0x20 + 96 * i
/-- Count of entries. -/
def bunCount (b : List (Nat × Byte)) : Nat := bunNat b 6 2

/-- The manifest digest (R441). -/
def bunDigest (b : List (Nat × Byte)) : Nat := Config.shake256 0x1000 (tslice b 0 0x1000)

/-- The rules of the entry `i` (R440, R442): type, head type, place and length, and no earlier entry of the same component. -/
def bunEntryOk (b : List (Nat × Byte)) (len i : Nat) : Bool :=
  let o := bunEntry i
  let typ := bunNat b o 2
  let head := bunNat b (o + 2) 2
  let off := bunNat b (o + 8) 8
  let n := bunNat b (o + 0x10) 8
  decide (1 ≤ typ) && decide (typ ≤ 8) && (decide (typ = 8) || decide (head = 0)) && decide (off % 4096 = 0)
    && decide (0x2000 ≤ off) && decide (off + n ≤ len)
    && (List.range i).all fun k => decide (bunNat b (bunEntry k) 2 ≠ typ) || decide (bunNat b (bunEntry k + 2) 2 ≠ head)

/-- The first fault of a manifest, by its WHERE: 0xFF for the header (R444). -/
def bunFault (b : List (Nat × Byte)) (len : Nat) : Option Nat :=
  let n := bunCount b
  let all := (List.range 7).all fun t => (List.range n).any fun i => bunNat b (bunEntry i) 2 = t + 1
  if bunNat b 0 4 ≠ 0x5055484D ∨ bunNat b 4 2 ≠ 1 ∨ bunNat b 8 8 ≠ len ∨ len < 0x2000 ∨ 48 * 2 ^ 20 < len ∨ n < 7 ∨ 23 < n
      ∨ 64 < bunNat b 0x15 1 then some 0xFF
  else match (List.range n).find? fun i => !bunEntryOk b len i with
    | some i => some i
    | none => if !all ∨ bunNat b 0x10 4 ≠ 0x4096 ∨ bunNat b 0x14 1 ≠ 0xB0 then some 0xFF else none

/-- The context of a bundle's signature, "MHUPDATE" (R441). -/
def bunContext : List Byte := [0x4D, 0x48, 0x55, 0x50, 0x44, 0x41, 0x54, 0x45]

/-- The signature verifies under a key whose digest Apior has fused and not revoked (R441). -/
def bunSigned (b : List (Nat × Byte)) : Bool :=
  let k := imgBytes b 0x1018 57
  decide (bunNat b 0x1000 2 = 1) && decide (imgBytes b 0x1008 16 = keyIdOf k)
    && ((List.range 4).any fun i => decide (Config.fusedKey i = some (digestOf k)))
    && Config.ed448 bunContext k (bunDigest b) (imgBytes b 0x1058 114)

/-- The first component whose digest differs (R444). -/
def bunBadDigest (b : List (Nat × Byte)) : Option Nat :=
  (List.range (bunCount b)).find? fun i =>
    let o := bunEntry i
    let n := bunNat b (o + 0x10) 8
    Config.shake256 n (tslice b (bunNat b (o + 8) 8) n) ≠ bunNat b (o + 0x20) 64

/-- The checks of R444 that concern the manifest: a failure with its WHERE. -/
def State.manifestFault (s : State) : Option (Nat × Nat) :=
  let b := s.upd.image
  match bunFault b s.upd.imageLen with
  | some w => some (UpdResult.badBundle, w)
  | none =>
    if !bunSigned b then some (UpdResult.signature, 0)
    else if bunNat b 0x15 1 < s.flash.fusedSvn then some (UpdResult.rollback, 0)
    else none

/-- The checks of R444 up to the write of the flash: a failure with its WHERE. -/
def State.bundleFault (s : State) : Option (Nat × Nat) :=
  match s.manifestFault with
  | some f => some f
  | none => (bunBadDigest s.upd.image).map fun i => (UpdResult.badBundle, i)

/-- What the manifest of the staged bundle says. -/
def State.bundleOf (s : State) : Bundle :=
  let b := s.upd.image
  { svn := bunNat b 0x15 1, version := bunNat b 0x18 4, manifest := bunDigest b
    heads := ((List.range (bunCount b)).filter fun i => bunNat b (bunEntry i) 2 = 8).map fun i =>
      (bunNat b (bunEntry i + 2) 2, bunNat b (bunEntry i + 0x10) 8) }

-- Staging (R443 to R447) ---------------------------------------------------------------------------------------------------------------

/-- STAGE at its take-up with the lock free: the bundle is copied (R444), and will be forwarded where the unit then holds authority
(R446). -/
def State.beginStaging (s : State) (src len : Nat) (image : List (Nat × Byte)) (pair : Bool) : State :=
  { s with upd := { s.upd with
      st := .staging, lockSrc := src, imageLen := len, image := image, pair := pair && s.twn.role.holds, bundle := none, relayed := none
      stageEnd := none, loaded := [], failed := [], skipped := [], accepted := [], cmdResult := 0, loc := 0 } }

/-- STAGE of the Owner seat at its take-up (R445). -/
def State.takeStage (s : State) (pair : Bool) : State :=
  let off := s.field Reg.UPD_STAGE_OFF 0 28
  let len := s.field Reg.UPD_STAGE_LEN 0 28
  if s.upd.st ≠ .idle then s.updResult UpdResult.state
  else if s.upd.lockSrc ≠ 15 then s.updResult UpdResult.stageBusy
  else if off < 0x1000000 ∨ off % 4096 ≠ 0 ∨ hallSize < off + len then
    (s.updResult UpdResult.badBundle 0xFF).raise Src.upd 1
  else s.beginStaging 0 len (tslice s.ram (hallBase 0 + off) len) pair

/-- The twin's request for the lock, source 8, after the Owner's (R445, R446); `was` is STATE before the requests of the tick. -/
def State.takeTwinStage (s : State) (was : UpdState) : State :=
  match s.upd.twinBundle with
  | some (len, image) =>
    let s := { s with upd := { s.upd with twinBundle := none } }
    if s.inForce Reg.UPD_CTL 0 1 = 0 ∨ s.upd.recovery then s.raise Src.upd 1
    else if was ≠ .idle then (s.updResult UpdResult.state).raise Src.upd 1
    else if s.upd.lockSrc ≠ 15 then (s.updResult UpdResult.stageBusy).raise Src.upd 1
    else s.beginStaging 8 len image false
  | none => s

/-- Send a head-image operation to the head of a porch (R447). -/
def State.askHead (s : State) (op len tick p : Nat) : State :=
  let s := s.send p prioBulk (.imgData op len tick)
  { s with upd := { s.upd with asked := s.upd.asked ++ [(p, op)] } }

/-- The same at a tick: the cell leaves in the frame that begins. -/
def State.askHeadNext (s : State) (op len tick p : Nat) : State := s.inTick fun t => t.askHead op len tick p

/-- Porches of heads: every porch with a role but the Landing. -/
def State.headPorches (s : State) : List Nat :=
  (List.range 16).filter fun p => decide (s.porchRole p ≠ 0) && decide (s.porchRole p ≠ roleLanding)

/-- The image in the staged bundle for the head of a READY porch. -/
def State.imageFor (s : State) (b : Bundle) (p : Nat) : Option Nat :=
  if (s.porch p).state = .ready then (b.heads.find? fun h => h.1 = (s.porch p).headType).map (·.2) else none

/-- Relay the head images with LOAD; heads on porches that are not READY are skipped (R444). -/
def State.relayHeads (s : State) (b : Bundle) : State :=
  let ps := s.headPorches.filter fun p => (s.imageFor b p).isSome
  let s := s.each ps fun p s => s.askHead 1 ((s.imageFor b p).getD 0) 0 p
  { s with upd := { s.upd with
      relayed := some ps
      skipped := if b.heads.isEmpty then [] else s.headPorches.filter fun p => (s.porch p).state ≠ .ready } }

/-- Forward the bundle to the twin once its manifest has passed (R446): one stream in RESYNC cells. -/
def State.forwardBundle (s : State) : State :=
  match s.landing with
  | some p => if s.upd.pair && s.manifestFault.isNone then s.send p prioBulk (.resync (.bundle s.upd.imageLen s.upd.image)) else s
  | none => s

/-- Every LOAD of the staging has been answered. -/
def State.relayAnswered (s : State) : Bool := match s.upd.relayed with
  | some ps => ps.all fun p => !s.upd.asked.contains (p, 1)
  | none => false

/-- The last step of staging has ended; its result takes effect at the next tick (R444). -/
def State.endStaging (s : State) (r loc : Nat) : State := { s with upd := { s.upd with stageEnd := some (r, loc) } }

/-- Replace a firmware slot's figures. -/
def State.setFwSlot (s : State) (i : Nat) (x : FwSlot) : State :=
  if i = 0 then { s with flash := { s.flash with slotA := x } } else { s with flash := { s.flash with slotB := x } }

/-- The bundle in the staging is in the slot that does not run (R444). -/
def State.writeSlot (s : State) (b : Bundle) : State :=
  s.setFwSlot (1 - s.upd.runSlot) { state := 0, bundleVer := b.version, svn := b.svn, manifest := b.manifest }

/-- STAGING_DONE (R444): the checks are made and the flash is written (`flashOk`), and the head images are relayed; with images
relayed, the staging ends when the last head has answered, or here when one of them has not (log 25). -/
def execStagingDone (flashOk : Bool) (s : State) : Host.Outcome State Fault Refusal :=
  if s.upd.st ≠ .staging ∨ s.upd.stageEnd.isSome then .next s
  else match s.upd.relayed with
    | some ps =>
      match ps.find? fun p => s.upd.asked.contains (p, 1) with
      | some p => .next (s.endStaging UpdResult.headImage p)
      | none => .next s
    | none =>
      let s := s.forwardBundle
      match s.bundleFault with
      | some (r, w) => .next (s.endStaging r w)
      | none =>
        if !flashOk || s.flashOut then .next (s.endStaging UpdResult.flash 0)
        else
          let b := s.bundleOf
          let s := ({ s with upd := { s.upd with bundle := some b } }).writeSlot b
          let s := s.relayHeads b
          .next (if s.relayAnswered then s.endStaging UpdResult.done 0 else s)

/-- IMG_RESULT (R447): the answer to the oldest operation of the porch: 1 LOAD, 2 ACTIVATE, 3 REVERT, 4 DISCARD. -/
def execImgResult (porch : BitVec 4) (result : BitVec 8) (s : State) : Host.Outcome State Fault Refusal :=
  let p := porch.toNat
  if !s.passes p then .next s
  else
    let s := s.receive p
    match s.upd.asked.find? fun a => a.1 = p with
    | none => .next s
    | some (_, op) =>
      let u := { s.upd with asked := s.upd.asked.erase (p, op) }
      if result ≠ 0 then
        let s := { s with upd := { u with failed := (u.failed ++ [p]).eraseDups } }
        .next (if op = 1 ∧ s.upd.st = .staging ∧ s.upd.relayed.isSome ∧ s.upd.stageEnd.isNone then
          s.endStaging UpdResult.headImage p else s)
      else
        let s := match op with
          | 1 => { s with upd := { u with loaded := (u.loaded ++ [p]).eraseDups } }
          | 2 => { s with upd := { u with accepted := (u.accepted ++ [p]).eraseDups } }
          | _ => { s with upd := u }
        .next (if op = 1 ∧ s.upd.st = .staging ∧ s.relayAnswered ∧ s.upd.stageEnd.isNone then s.endStaging UpdResult.done 0 else s)

/-- Staging ends at the tick after its last step (R444). -/
def State.stageTick (s : State) : State :=
  match s.upd.stageEnd with
  | some (1, _) =>
    ({ s with upd := { s.upd with st := .staged, stageEnd := none, image := [], imageLen := 0 } }).updResult UpdResult.done
      |>.raise Src.upd 0
  | some (r, w) =>
    let s := s.inTick fun t => State.sendAll s.upd.loaded prioBulk (.imgData 4 0 0) t
    ({ s with upd := { s.upd with
        st := .idle, lockSrc := 15, stageEnd := none, image := [], imageLen := 0, bundle := none, relayed := none
        asked := s.upd.asked ++ s.upd.loaded.map (·, 4), loaded := [] } }).updResult r w
      |>.raise Src.upd 1 noObj r
  | none => s

/-- A skipped head that becomes READY before activation is scheduled receives LOAD (R444). -/
def State.loadSkipped (s : State) : State :=
  match s.upd.bundle with
  | some b =>
    if s.upd.relayed.isSome ∧ (s.upd.st = .staging ∨ s.upd.st = .staged) then
      s.each (s.upd.skipped.filter fun p => (s.imageFor b p).isSome) fun p s =>
        let s := s.askHeadNext 1 ((s.imageFor b p).getD 0) 0 p
        { s with upd := { s.upd with skipped := s.upd.skipped.filter (· ≠ p) } }
    else s
  | none => s

-- Activation (R449 to R452) ---------------------------------------------------------------------------------------------------------------

/-- ACTIVATE at its take-up, tick k (R449). -/
def State.takeActivate (s : State) (timeNs : Bool) : State :=
  let k := s.nextTick
  let v := (s.reg Reg.UPD_ACT_TIME).toNat
  let t := if v = 0 then k + 16 else if timeNs then s.tickFrom k v else v
  if s.upd.st ≠ .staged then s.updResult UpdResult.state
  else if t < k + 16 then s.updResult UpdResult.stale
  else
    let s := s.each s.upd.loaded fun p s => s.askHeadNext 2 0 t p
    ({ s with upd := { s.upd with
        st := .scheduled, actTick := t, actNs := if timeNs ∧ v ≠ 0 then some v else none } }).updResult UpdResult.done

/-- After a step of device time an activation timed by it is converted anew (R40): a later tick where the time has gone back, an
earlier one, at least 16 ticks away for the heads, where it has gone forward (log 48). -/
def State.retimeActivation (s : State) : State :=
  match s.upd.actNs with
  | some v =>
    let c := s.tickFrom s.nextTick v
    let t := if c ≤ s.upd.actTick then min s.upd.actTick (max c (s.nextTick + 16)) else c
    if s.upd.st = .scheduled ∧ t ≠ s.upd.actTick then
      let s := s.each s.upd.loaded fun p s => s.askHeadNext 2 0 t p
      { s with upd := { s.upd with actTick := t } }
    else s
  | none => s

/-- CANCEL at its take-up (R445, R449): the bundle is discarded and the lock released. -/
def State.takeUpdCancel (s : State) : State :=
  if s.upd.st ≠ .staging ∧ s.upd.st ≠ .staged ∧ s.upd.st ≠ .scheduled then s.updResult UpdResult.state
  else if s.upd.st = .scheduled ∧ s.upd.actTick < s.nextTick + 16 then s.updResult UpdResult.stale
  else
    let s := s.each s.upd.loaded fun p s => s.askHeadNext 4 0 0 p
    ({ s with upd := { s.upd with
        st := .idle, lockSrc := 15, bundle := none, image := [], imageLen := 0, relayed := none, stageEnd := none, loaded := []
        accepted := [] } }).updResult UpdResult.done

/-- Ticks of a commit that is scheduled, or of a bridge in progress: from the commit to the end of its bridge. -/
def State.commitSpan (s : State) : Option (Nat × Nat) :=
  if s.plan.pending then some (s.plan.commitAt, s.plan.commitAt + s.plan.bridge)
  else if s.plan.commitFrame < s.plan.bridgeEnd then some (s.plan.commitFrame, s.plan.bridgeEnd)
  else if s.plan.committed then some (s.plan.commitFrame, s.plan.commitFrame)
  else none

/-- A commit within T − 16 to T + 3,200, or a bridge that covers any of those ticks, defers the activation (R452). -/
def State.deferActivation (s : State) : State :=
  match s.commitSpan with
  | some (a, e) =>
    let t := s.upd.actTick
    if s.upd.st = .scheduled ∧ t ≤ e + 16 ∧ a ≤ t + 3200 ∧ e + 16 ≠ t then
      let s := s.each s.upd.loaded fun p s => s.askHeadNext 2 0 (e + 16) p
      { s with upd := { s.upd with actTick := e + 16 } }
    else s
  | none => s

/-- Set `TIL_CTL.BULK_EN`, in force at once. -/
def State.setBulk (s : State) (on : Bool) : State :=
  let s := s.setField Reg.TIL_CTL 0 1 (bit on)
  { s with live := tupd regReset s.live Reg.TIL_CTL fun w => setBits w 0 1 (bit on) }

/-- The supervisors restart (R451). -/
def State.beginRestart (s : State) (cycles : Nat) : State :=
  let saved := if s.upd.restart then s.upd.savedBulk else s.field Reg.TIL_CTL 0 1 = 1
  let s := s.setBulk false
  { s with upd := { s.upd with restart := true, restartCyc := cycles, savedBulk := saved } }

/-- The health window in seconds, clamped (R453). -/
def State.windowS (s : State) : Nat := clampNat 60 86400 (s.inForce Reg.UPD_CTL 32 32)

/-- The activation is due at the coming tick. In recovery it takes effect by a whole-device reset (R438). -/
def State.activationDue (s : State) : Bool :=
  decide (s.upd.st = .scheduled) && decide (s.upd.actTick ≤ s.nextTick) && !s.upd.recovery

/-- At tick T the new components and heads switch and the restart begins (R450); `cycles` is the core cycle of the tick. -/
def State.activateNow (s : State) (cycles : Nat) (fails : Bool) (schema : Option Nat) : State :=
  if s.activationDue then
    let old := s.upd.runSlot
    let new := 1 - old
    let x := s.fwSlot new
    let s := s.setFwSlot new { x with state := 2 }
    let s := { s with
      flash := { s.flash with pending := some new }
      upd := { s.upd with
        st := .restarting, runSlot := new, lockSrc := 15, switched := s.upd.accepted
        loaded := s.upd.loaded.filter fun p => !s.upd.accepted.contains p, selftest := 0, migrFailed := false, fbFound := none
        windowEnd := s.timeAfter (cycles - s.hrt.cycles) / 2 ^ 48 + 10 ^ 9 * s.windowS, windowCyc := cycles + 1200000000 * s.windowS } }
    let s := (s.beginRestart cycles).raise Src.upd 4
    s.migrate old new fails (schema.getD (match s.liveCup old with | some c => (s.cup c).schema | none => 0))
  else s

/-- ACTIVATION (R450): at tick T. -/
def execActivation (migrationFails : Bool) (newSchema : BitVec 16) (s : State) : Host.Outcome State Fault Refusal :=
  .next (s.activateNow (s.hrt.cycles + s.hrt.cfg.period) migrationFails (some newSchema.toNat))

-- Confirmation and fallback (R453, R454) ----------------------------------------------------------------------------------------------------

/-- CONFIRM at its take-up (R453). Where fuses are to be burned, the burn ends at the next tick, and STATE returns to IDLE with it
(DESIGN CHOICE, log 25: within 10 ms). -/
def State.takeConfirm (s : State) : State :=
  if s.upd.st ≠ .pending then s.updResult UpdResult.state
  else if s.upd.migrFailed then s.updResult UpdResult.migration
  else if s.upd.selftest ≠ 2 then s.updResult UpdResult.notHealthy
  else
    let r := s.upd.runSlot
    let x := s.fwSlot r
    let burn := decide (s.flash.fusedSvn < x.svn)
    let s := (s.setFwSlot r { x with state := 1 }).setFwSlot (1 - r) { s.fwSlot (1 - r) with state := 0 }
    let s := { s with flash := { s.flash with
      confirmed := r, pending := none, burnTo := if burn then some x.svn else none } }
    let s := match s.prevCup with | some c => s.updCup c fun y => { y with state := 0 } | none => s
    let s := ({ s with upd := { s.upd with
      st := if burn then .pending else .idle, bundle := none, relayed := none } }).updResult UpdResult.done
    s.raise Src.upd 5

/-- The fuses are burned (R453). -/
def State.burnTick (s : State) : State :=
  match s.flash.burnTo with
  | some n =>
    ({ s with flash := { s.flash with fusedSvn := max s.flash.fusedSvn n, burnTo := none }
              upd := { s.upd with st := .idle } }).raise Src.upd 7
  | none => s

/-- STATE becomes FALLING_BACK at this tick: the heads that switched revert 16 ticks on (R454). -/
def State.beginFallback (s : State) (cause : Nat) : State :=
  if s.upd.st = .restarting ∨ s.upd.st = .pending then
    let t := s.nextTick + 16
    let s := s.each s.upd.switched fun p s => s.askHeadNext 3 0 t p
    { s with upd := { s.upd with st := .fallingBack, actTick := t, fbCause := cause, falling := false, fbFound := none } }
  else s

/-- FALLBACK at its take-up (R454): its frame is the one that ends. -/
def State.takeFallback (s : State) : State :=
  if s.upd.st = .restarting ∨ s.upd.st = .pending then (s.beginFallback FbCause.owner).updResult UpdResult.done
  else s.updResult UpdResult.state

/-- A fallback cause of this frame (R454); one found while a fallback is under way is ignored. -/
def State.findFallback (s : State) (cause : Nat) : State :=
  if (s.upd.st = .restarting ∨ s.upd.st = .pending) ∧ s.upd.fbFound.isNone ∧ s.flash.burnTo.isNone then
    { s with upd := { s.upd with fbFound := some (cause, s.nextTick) } }
  else s

/-- SELFTEST_END (R453, R454). -/
def execSelftestEnd (pass : Bool) (s : State) : Host.Outcome State Fault Refusal :=
  if s.upd.selftest ≠ 1 then .next s
  else if pass then .next { s with upd := { s.upd with selftest := 2 } }
  else .next ((({ s with upd := { s.upd with selftest := 3 } }).raise Src.upd 2).findFallback FbCause.selftest)

/-- The health window has ended by the core cycle `cycles`, without an accepted CONFIRM (R454). -/
def State.endWindow (s : State) (cycles : Nat) : State :=
  if s.upd.windowCyc ≤ cycles then s.findFallback FbCause.timeout else s

/-- HEALTH_WINDOW_END (R454): the window ends in this frame. -/
def execHealthWindowEnd (s : State) : Host.Outcome State Fault Refusal :=
  .next (s.endWindow (s.hrt.cycles + s.hrt.cfg.period))

/-- Tick g + 17: the previous slot is activated again, and the supervisors restart (R454, R458). -/
def State.fallbackNow (s : State) (cycles : Nat) : State :=
  if s.upd.st = .fallingBack ∧ !s.upd.falling ∧ s.upd.actTick ≤ s.nextTick then
    let new := s.upd.runSlot
    let s := { s with flash := { s.flash with pending := none }, upd := { s.upd with runSlot := 1 - new, falling := true } }
    ((s.restoreCup new).beginRestart cycles).raise Src.upd 6
  else s

/-- FALLBACK_TAKE_EFFECT (R454). -/
def execFallbackTakeEffect (s : State) : Host.Outcome State Fault Refusal :=
  .next (s.fallbackNow (s.hrt.cycles + s.hrt.cfg.period))

/-- The record of a fallback, with the slot fallen from (R474). -/
def State.recordFallback (s : State) (cause slot : Nat) : State :=
  s.record 0x0010 Sev.error 0 ([BitVec.ofNat 8 cause, BitVec.ofNat 8 slot, 0, 0] ++ leBytes 4 (s.fwSlot slot).bundleVer)

/-- The restart ends (R451, R453, R454): PENDING with the self-test running, or IDLE with the slot that fell back INVALID. The
requests that wait on the mailboxes are answered. -/
def State.endRestart (s : State) : State :=
  if s.upd.restart then
    let s := s.setBulk s.upd.savedBulk
    let s := { s with upd := { s.upd with restart := false } }
    let w := s.port.waiting
    let s := w.foldl (fun s r => s.doeAnswer r.1 r.2) { s with port := { s.port with waiting := [] } }
    if s.upd.falling then
      let bad := 1 - s.upd.runSlot
      let s := s.setFwSlot bad { s.fwSlot bad with state := 3 }
      ({ s with upd := { s.upd with st := .idle, falling := false, bundle := none, relayed := none } }).recordFallback s.upd.fbCause bad
    else if s.upd.st = .restarting then { s with upd := { s.upd with st := .pending, selftest := 1 } }
    else s
  else s

/-- RESTART_END (R451). -/
def execRestartEnd (s : State) : Host.Outcome State Fault Refusal := .next s.endRestart

/-- `UPD_CMD` at the tick (R459); in recovery only STAGE and ACTIVATE are accepted (R438). -/
def State.takeUpdCmd (s : State) : State :=
  let u := { s with ops := { s.ops with upd := none } }
  match s.ops.upd with
  | some (op, flag) =>
    if u.upd.recovery ∧ op ≠ 1 ∧ op ≠ 2 then u.updResult UpdResult.state
    else match op with
      | 1 => u.takeStage flag
      | 2 => u.takeActivate flag
      | 3 => u.takeUpdCancel
      | 4 => u.takeConfirm
      | 5 => u.takeFallback
      | 6 => u.takeKey 6
      | 7 => u.takeKey 7
      | _ => u
  | none => u

/-- The update block at the tick; `cycles` is the core cycle of the tick. -/
def State.updTick (s : State) (cycles : Nat) : State :=
  let s := if s.hrt.stepped then s.burnTick.retimeActivation else s.burnTick
  let s := if s.upd.restart ∧ s.upd.restartCyc + cyclesMs 200 ≤ cycles then s.endRestart else s
  let s := s.endWindow cycles
  let s := (s.fallbackNow cycles).activateNow cycles false none
  let s := match s.upd.fbFound with
    | some (c, t) => if t ≤ s.nextTick then s.beginFallback c else s
    | none => s
  let s := s.keyTick.stageTick
  let s := s.takeUpdCmd.takeTwinStage s.upd.st
  s.loadSkipped.deferActivation

end Sys2Proof.Machine
end

