-- ==== Sys2Proof/Machine/Attic.lean ====
section
/-! DEFINITION. The Attic: records and their repeats, space, the flash, operating seconds, and reads (R460 to R475). -/
namespace Sys2Proof.Machine

/-- Bits of `ATT_EVT` (R475). -/
def AttEvt.critical : Nat := 0
def AttEvt.error : Nat := 1
def AttEvt.flashFail : Nat := 2
def AttEvt.dropped : Nat := 3
def AttEvt.readDone : Nat := 4

/-- Sizes of the areas in bytes (R467, R470). -/
def generalSize : Nat := 120 * 2 ^ 20
def reserveSize : Nat := 8 * 2 ^ 20
def ringSize : Nat := 4 * 2 ^ 20

/-- Bytes of a record as delivered (R460); the model counts them as its space in an area (log 26). -/
def AtticRec.size (r : AtticRec) : Nat := 24 + r.payload.length
/-- The record's image in flash is not its present one (R469). -/
def AtticRec.staged (r : AtticRec) : Bool := decide (r.saved ≠ some (r.rep, r.lastMs))

/-- The coalescing window in milliseconds, and the least severe severity written (R464, R475). -/
def State.coalesceMs (s : State) : Nat := s.inForce Reg.ATT_CTL 0 16
def State.minSev (s : State) : Nat := clampNat 1 4 (s.inForce Reg.ATT_CTL 16 3)

-- Space (R467, R468, R470) -----------------------------------------------------------------------------------------------------

/-- Bytes of the records that satisfy `p`. -/
def Attic.used (a : Attic) (p : AtticRec → Bool) : Nat := ((a.recs.filter p).map AtticRec.size).sum
/-- The records of the general area: of the staging ring once the flash has failed. -/
def Attic.general (a : Attic) (r : AtticRec) : Bool := if a.failed then r.saved.isNone else !r.reserve
/-- Room in the general area, and in the Critical reserve. -/
def Attic.generalFree (a : Attic) : Nat := (if a.failed then ringSize else generalSize) - a.used a.general
def Attic.reserveFree (a : Attic) : Nat := if a.failed then 0 else reserveSize - a.used (·.reserve)

/-- Remove the oldest records that satisfy `p` until `enough` holds; `n` bounds their number. -/
def Attic.evict (p : AtticRec → Bool) (enough : Attic → Bool) : Nat → Attic → Attic
  | 0, a => a
  | n + 1, a =>
    if enough a then a
    else match a.recs.find? p with
      | some r => Attic.evict p enough n { a with recs := a.recs.filter fun x => x.number ≠ r.number }
      | none => a

/-- The Attic after room is made for a record, with the area it goes to: `true` the reserve; none when it does not fit (R468). -/
def Attic.place (a : Attic) (r : AtticRec) : Option (Attic × Bool) :=
  let fits := fun (b : Attic) => decide (r.size ≤ b.generalFree)
  let either := fun (b : Attic) => decide (r.size ≤ b.reserveFree) || fits b
  if r.sev = Sev.critical ∧ r.size ≤ a.reserveFree then some (a, true)
  else if fits a then some (a, false)
  else if r.sev = Sev.critical then
    let b := a.evict (fun x => a.general x && decide (x.sev ≠ Sev.critical)) fits a.recs.length
    let c := if fits b then b else b.evict (fun x => decide (x.sev = Sev.critical) && (!b.failed || b.general x)) either b.recs.length
    if r.size ≤ c.reserveFree then some (c, true) else if fits c then some (c, false) else none
  else
    let b := a.evict (fun x => a.general x && decide (r.sev ≤ x.sev)) fits a.recs.length
    if fits b then some (b, false) else none

-- Records (R463 to R466) ------------------------------------------------------------------------------------------------------

/-- The payload filled up with zeros to 8 × LEN bytes (R460). -/
def padPayload (l : List Byte) : List Byte := l ++ List.replicate ((8 - l.length % 8) % 8) 0

/-- Payload bytes in ascending order (R463). -/
def bytesLe : List Byte → List Byte → Bool
  | [], _ => true
  | _ :: _, [] => false
  | a :: s, b :: t => decide (a.toNat < b.toNat) || (decide (a = b) && bytesLe s t)

/-- Insert an event by TYPE and then by payload (R463). -/
def insertEvent (e : AtticEvent) : List AtticEvent → List AtticEvent
  | [] => [e]
  | h :: t =>
    if e.typ < h.typ ∨ (e.typ = h.typ ∧ bytesLe e.payload h.payload) then e :: h :: t else h :: insertEvent e t

/-- The record that an event merges into (R465): the newest of its type, severity and key, while its window runs. -/
def Attic.openFor (a : Attic) (e : AtticEvent) : Option AtticRec :=
  match (a.recs.filter fun r => decide (r.typ = e.typ) && decide (r.sev = e.sev)
      && decide (r.payload.take e.key = (padPayload e.payload).take e.key)).getLast? with
  | some r => if r.isOpen then some r else none
  | none => none

/-- One event: an increment, or a new record (R464, R465, R468). -/
def State.writeRecord (s : State) (e : AtticEvent) : State :=
  if s.minSev < e.sev then s
  else match (if s.coalesceMs = 0 then none else s.att.openFor e) with
    | some r =>
      let x := { r with rep := min 65535 (r.rep + 1), lastMs := min 65535 ((s.hrt.cycles - r.born) / cyclesMs 1), changed := s.hrt.cycles }
      ({ s with att := { s.att with recs := s.att.recs.map (fun (y : AtticRec) => if y.number = r.number then x else y) } }).count
        Reg.ATT_COUNTS 0 32 1
    | none =>
      let r : AtticRec := {
        number := s.att.nextNum, tick := s.hrt.frame % 2 ^ 32, cycles := s.att.cycles, opsec := s.att.opsec, typ := e.typ
        sev := e.sev, key := e.key, payload := padPayload e.payload, rep := 1, lastMs := 0, born := s.hrt.cycles
        ends := s.hrt.cycles + cyclesMs s.coalesceMs, isOpen := decide (0 < s.coalesceMs), saved := none, reserve := false, changed := s.hrt.cycles }
      match s.att.place r with
      | some (a, res) =>
        let gone := s.att.recs.length - a.recs.length
        let s := { s with att := { a with recs := a.recs ++ [{ r with reserve := res }], nextNum := (a.nextNum + 1) % 2 ^ 48 } }
        let s := s.count Reg.ATT_COUNTS 32 16 gone
        if e.sev = Sev.critical then s.raise Src.att AttEvt.critical
        else if e.sev = Sev.error then s.raise Src.att AttEvt.error
        else s
      | none => (s.count Reg.ATT_COUNTS 48 16 1).raise Src.att AttEvt.dropped

/-- Windows that have ended by the core cycle `cycles` (R466). -/
def Attic.close (a : Attic) (cycles : Nat) (p : AtticRec → Bool) : Attic :=
  { a with recs := a.recs.map fun r => if p r ∧ r.ends ≤ cycles then { r with isOpen := false } else r }

/-- COALESCE_WINDOW_END (R466). -/
def execCoalesceWindowEnd (number : BitVec 48) (s : State) : Host.Outcome State Fault Refusal :=
  .next { s with att := s.att.close (s.hrt.cycles + s.hrt.cfg.period) fun r => decide (r.number = number.toNat) }

-- The flash (R462, R469, R470) --------------------------------------------------------------------------------------------------

/-- The present image of a record is durable; `l` are the bytes of an image that the flash cannot correct when it is read. -/
def AtticRec.save (r : AtticRec) (l : Option (List Byte)) : AtticRec := { r with saved := some (r.rep, r.lastMs), damaged := l }

/-- A record after the images of a FLASH_COMMIT. -/
def AtticRec.commit (r : AtticRec) (images : List (BitVec 48 × Option (List Byte))) : AtticRec :=
  match images.find? fun n => decide (n.1.toNat = r.number) with
  | some n => r.save n.2
  | none => r

/-- FLASH_COMMIT (R469): the present images of these records are durable. An image that the flash will not return whole comes with the
bytes that a read of it gives (R472). -/
def execFlashCommit (images : List (BitVec 48 × Option (List Byte))) (s : State) : Host.Outcome State Fault Refusal :=
  if s.att.failed then .next s
  else .next { s with att := { s.att with recs := s.att.recs.map fun r => r.commit images } }

/-- A creation or change is durable within 20 ms where the record is Critical or Error, and within 1,000 ms otherwise (R469). -/
def AtticRec.bound (r : AtticRec) : Nat := if r.sev ≤ Sev.error then cyclesMs 20 else cyclesMs 1000

/-- Images that no FLASH_COMMIT has made durable are so at the bounds of R469, as long as the flash is in service (log 16). -/
def Attic.commitLate (a : Attic) (cycles : Nat) : Attic :=
  if a.failed then a
  else { a with recs := a.recs.map fun r => if r.staged ∧ r.changed + r.bound ≤ cycles then r.save none else r }

/-- FLASH_FAIL (R470). -/
def execFlashFail (s : State) : Host.Outcome State Fault Refusal :=
  if s.att.failed then .next s
  else .next (({ s with att := { s.att with failed := true } }).raise Src.att AttEvt.flashFail)

/-- OPSEC is saved every 60 s (R462). -/
def Attic.saveOpsec (a : Attic) : Attic :=
  if a.opsecSaved + 60 ≤ a.opsec ∧ !a.failed then { a with opsecSaved := a.opsec } else a

/-- OPSEC_SAVE (R462). -/
def execOpsecSave (s : State) : Host.Outcome State Fault Refusal := .next { s with att := s.att.saveOpsec }

-- Reads (R471 to R473) ------------------------------------------------------------------------------------------------------------

/-- ATTIC_READ (R471): taken up at the next tick. -/
def execAtticRead (s : State) : Host.Outcome State Fault Refusal := .next { s with ops := { s.ops with att := some 1 } }
/-- ATTIC_CANCEL (R473): taken up at the next tick. -/
def execAtticCancel (s : State) : Host.Outcome State Fault Refusal := .next { s with ops := { s.ops with att := some 2 } }

/-- A record as delivered (R460). -/
def AtticRec.bytes (r : AtticRec) : List Byte :=
  let body := leBytes 4 r.tick ++ leBytes 4 r.cycles ++ leBytes 5 r.opsec
    ++ leBytes 3 (r.typ * 1024 + r.sev * 128 + r.payload.length / 8) ++ r.payload ++ leBytes 2 r.rep ++ leBytes 2 r.lastMs
  body ++ leBytes 4 (crc32c body)

/-- A copy of the record comes from the flash, which cannot correct it (R472). -/
def AtticRec.isDamaged (r : AtticRec) : Bool := r.damaged.isSome && !r.staged

/-- The bytes of a record as they are copied: those the flash returned where it could not correct them (R472). -/
def AtticRec.asRead (r : AtticRec) : List Byte :=
  match r.damaged, r.staged with
  | some l, false => l.take r.size ++ r.bytes.drop l.length
  | _, _ => r.bytes

/-- The envelope of a record in the buffer (R472). -/
def AtticRec.envelope (r : AtticRec) : List Byte :=
  leBytes 8 (r.number + 2 ^ 48 * bit r.isOpen + 2 ^ 49 * bit r.isDamaged + 2 ^ 50 * bit r.staged + 2 ^ 51 * bit r.reserve)

/-- Copy records into the buffer in ascending number until one of the ends of R472. -/
def State.copyRecords (s : State) (x : AtticRead) : List AtticRec → State × AtticRead
  | [] => (s, { x with cur := max x.cur (x.newest + 1) })
  | r :: t =>
    if r.number < x.cur then s.copyRecords x t
    else if x.newest < r.number then (s, { x with cur := max x.cur (x.newest + 1) })
    else if x.maxSev < r.sev then s.copyRecords { x with cur := r.number + 1 } t
    else if x.maxRec ≠ 0 ∧ x.maxRec ≤ x.recs then (s, x)
    else
      let l := r.envelope ++ r.asRead
      if x.len < x.bytes + l.length then (s, { x with cur := r.number })
      else
        let s := if s.hallOpen 0 then s.hallWrite 0 (x.off + x.bytes) l else s
        s.copyRecords { x with cur := r.number + 1, bytes := x.bytes + l.length, recs := x.recs + 1 } t

/-- The record that a READ is to start at no longer exists, though its number is not above the newest (R472). -/
def Attic.gone (a : Attic) (first newest : Nat) : Bool :=
  decide (first ≠ 0) && decide (first ≤ newest) && !(a.recs.any fun r => decide (r.number = first))

/-- READ_DONE (R472): the records are copied, the last of them now; the result follows at the next tick (log 26). -/
def execReadDone (s : State) : Host.Outcome State Fault Refusal :=
  match s.att.reading with
  | some x =>
    if s.att.done || s.att.aborting then .next s
    else
      let r := s.copyRecords { x with gap := x.gap || s.att.gone x.cur x.newest } s.att.recs
      .next { r.1 with att := { r.1.att with reading := some r.2, done := true } }
  | none => .next s

/-- `ATT_READ_RESULT` and `ATT_READ_NEXT` at the end of a READ (R472, R473): 1 DONE, 4 ABORTED. -/
def State.endRead (s : State) (x : AtticRead) (r : Nat) : State :=
  let s := s.setReg Reg.ATT_READ_RESULT (BitVec.ofNat 64 (x.bytes * 2 ^ 32 + x.recs % 2 ^ 24 * 256 + r * 16 + bit x.gap))
  let s := s.setReg Reg.ATT_READ_NEXT (BitVec.ofNat 64 (x.cur % 2 ^ 48))
  ({ s with att := { s.att with reading := none, done := false, aborting := false } }).raise Src.att AttEvt.readDone noObj r

/-- READ at its take-up (R471): 2 BUSY, 3 RANGE. -/
def State.takeRead (s : State) : State :=
  let off := s.field Reg.ATT_READ_OFF 0 28
  let len := s.field Reg.ATT_READ_LEN 0 28
  let from_ := s.field Reg.ATT_READ_FROM 0 48
  if s.att.reading.isSome then s.setField Reg.ATT_READ_RESULT 4 4 2
  else if off < 0x1000000 ∨ off % 4096 ≠ 0 ∨ hallSize < off + len then s.setField Reg.ATT_READ_RESULT 4 4 3
  else
    let newest := s.att.nextNum - 1
    let s := s.setReg Reg.ATT_READ_RESULT 0
    { s with att := { s.att with reading := some {
        off := off, len := len, cur := from_, maxRec := s.field Reg.ATT_READ_CFG 32 32, maxSev := s.field Reg.ATT_READ_CFG 0 3
        newest := newest, gap := s.att.gone from_ newest } } }

/-- `ATT_CMD` and the ends of reads at the tick (R471 to R473). -/
def State.takeAtt (s : State) : State :=
  let op := s.ops.att
  let s := { s with ops := { s.ops with att := none } }
  let s := match s.att.reading with
    | some x =>
      if s.att.done then s.endRead x 1
      else if s.att.aborting || decide (op = some 2) then s.endRead x 4
      else s
    | none => { s with att := { s.att with aborting := false, done := false } }
  if op = some 1 then s.takeRead else s

/-- The Attic at the tick, once the new frame has begun: windows that have ended, the records of the events that wait, operating
seconds, and reads. -/
def State.atticTick (s : State) : State :=
  let a := (s.att.commitLate s.hrt.cycles).close s.hrt.cycles fun _ => true
  let s := { s with att := { a with waiting := [], opsec := a.opsecBase + s.hrt.cycles / 1200000000 } }
  let s := { s with att := s.att.saveOpsec }
  let s := (a.waiting.foldl (fun l e => insertEvent e l) []).foldl (fun s e => s.writeRecord e) s
  s.takeAtt

end Sys2Proof.Machine
end

