-- ==== Sys2Proof/Machine/Cages.lean ====
section
/-! DEFINITION. Cages: modules, their monitors, and open-fibre control (R309, R345 to R349). -/
namespace Sys2Proof.Machine

/-- Receive lanes of a cage, as (porch, lane) pairs in the order of its cage lanes (R309). -/
def cageLanes (c : Nat) : List (Nat × Nat) :=
  if c < 16 then (List.range 8).map fun q => (c, q) else (List.range 8).map fun q => (8 * (c - 16) + q, 8)

/-- Porches that a cage serves. -/
def cagePorches (c : Nat) : List Nat := ((cageLanes c).map (·.1)).eraseDups

/-- The detector of a cage is enabled (R349). -/
def State.detectorOn (s : State) (c : Nat) : Bool := (cagePorches c).any fun p => s.inForce (Reg.PCH_Pp_CTL p) 8 1 = 1

/-- Squelch the transmit lanes of a cage, or free them (R347 to R349). -/
def State.squelchCage (s : State) (c : Nat) (on : Bool) : State :=
  (cageLanes c).foldl (fun s e => s.updPorch e.1 fun q => { q with squelch := putBit q.squelch e.2 on }) s

/-- Which receive lanes of a cage are lit (R347). -/
def State.setLit (s : State) (c lit : Nat) : State :=
  (cageLanes c).zipIdx.foldl (fun s e => s.updPorch e.1.1 fun q => { q with lit := putBit q.lit e.1.2 (natBit lit e.2) }) s

/-- Lit lanes of a cage. -/
def State.litLanes (s : State) (c : Nat) : Nat := ((cageLanes c).filter fun e => natBit (s.porch e.1).lit e.2).length

/-- The lanes of a dark cage carry nothing; they take no fade level, and train again when light returns (R348, R349). -/
def State.darkLane (s : State) (e : Nat × Nat) : State :=
  let s := s.updPorch e.1 fun q => { q with locked := putBit q.locked e.2 false, lit := putBit q.lit e.2 false }
  if e.2 = 8 then (s.loseSpare e.1).updLane e.1 8 fun x => { x with state := .down }
  else s.updLane e.1 e.2 fun x => { x with state := if x.level = 3 then x.state else .down, undelin := true }

/-- The run of a dark porch ends (R355). -/
def State.darkRun (s : State) (p : Nat) : State :=
  if (s.cal p).phase = .idle then s else s.abandonRun p true true

/-- LOSS_OF_LIGHT (R23, R347, R348): Guard event 2. The cage's transmit lanes are squelched in every role, and it latches DARK. -/
def execLossOfLight (cage : Fin 18) (s : State) : Host.Outcome State Fault Refusal :=
  let c := cage.val
  if !s.detectorOn c || ((s.cage c).dark && !(s.cage c).probing) then .next s
  else
    let s := (s.guardEvent GuardCode.light).squelchCage c true
    let s := s.updCage c fun x => { x with dark := true, txDisabled := true, probing := false }
    let s := if c < 16 then (s.darkRun c).updPorch c fun q => { q with state := .dark } else s
    let s := (cageLanes c).foldl State.darkLane s
    .next (s.raise Src.pch 4 c)

/-- A probe begins: Tx Disable and squelch are cleared (R349). -/
def State.beginProbe (s : State) (c : Nat) : State :=
  (s.squelchCage c false).updCage c fun x => { x with probing := true, txDisabled := false }

/-- PROBE (R349). -/
def execProbe (cage : Fin 18) (s : State) : Host.Outcome State Fault Refusal :=
  if (s.cage cage.val).dark && !(s.cage cage.val).probing then .next (s.beginProbe cage.val) else .next s

/-- PROBE_END (R349): a probe goes on while 7 or more lanes are lit. -/
def execProbeEnd (cage : Fin 18) (lit : BitVec 8) (s : State) : Host.Outcome State Fault Refusal :=
  let c := cage.val
  if (s.cage c).probing then
    let s := s.setLit c lit.toNat
    if 7 ≤ s.litLanes c then .next s
    else .next ((s.squelchCage c true).updCage c fun x => { x with probing := false, txDisabled := true })
  else .next s

/-- LIGHT_RETURN (R349): 7 or more lanes lit outside a probe start one at once. -/
def execLightReturn (cage : Fin 18) (lit : BitVec 8) (s : State) : Host.Outcome State Fault Refusal :=
  let c := cage.val
  let s := s.setLit c lit.toNat
  if (s.cage c).dark && !(s.cage c).probing && decide (7 ≤ s.litLanes c) then .next (s.beginProbe c) else .next s

/-- LATCH_CLEAR (R349): transmit stays enabled and the porch trains. -/
def execLatchClear (cage : Fin 18) (s : State) : Host.Outcome State Fault Refusal :=
  let c := cage.val
  if (s.cage c).dark && (s.cage c).probing && decide (7 ≤ s.litLanes c) then
    let s := s.updCage c fun x => { x with dark := false, probing := false }
    let s := if c < 16 then s.updPorch c fun q => { q with state := .training } else s
    .next (s.raise Src.pch 5 c)
  else .next s

/-- The application that the device selects: the first advertised one with 8 host and 8 media lanes whose host interface code the list
names, by its number from 1; 0 where there is none (R345). -/
def appSelect (apps : List AppAd) : Nat :=
  let i := apps.findIdx fun a => decide (a.host = 8) && decide (a.media = 8) && a.listed
  if i < apps.length then i + 1 else 0

/-- MODULE_INSERT (R345): `modState` is the module's state and its list of applications; a module that is not on the list leaves the cage UNQUALIFIED and unpowered for data. -/
def execModuleInsert (cage : Fin 18) (qualified : Bool) (modState : BitVec 8 × List AppAd) (s : State) :
    Host.Outcome State Fault Refusal :=
  let app := if qualified then appSelect modState.2 else 0
  let s := s.updCage cage.val fun x => { x with
    present := true, qualified := qualified, modState := modState.1.toNat, app := app, dataPath := decide (app ≠ 0), squelchOn := decide (app ≠ 0) }
  .next (s.raise Src.pch 7 cage.val)

/-- MODULE_REMOVE (R345): the latch of open-fibre control stays as it is. -/
def execModuleRemove (cage : Fin 18) (s : State) : Host.Outcome State Fault Refusal :=
  let s := s.updCage cage.val fun x => { dark := x.dark, txDisabled := x.txDisabled, probing := x.probing }
  .next (s.raise Src.pch 7 cage.val)

/-- MODULE_INT (R345): the lane flags and the module state are read. -/
def execModuleInt (cage : Fin 18) (rxLos txLos modState : BitVec 8) (s : State) : Host.Outcome State Fault Refusal :=
  if (s.cage cage.val).present then
    .next (s.updCage cage.val fun x =>
      { x with intN := true, rxLos := rxLos.toNat, txLos := txLos.toNat, modState := modState.toNat })
  else .next s

/-- MONITOR_POLL (R345): the monitors are read; the flags have been read before, so `INT_N` is released (log 15). -/
def execMonitorPoll (cage : Fin 18) (temp vcc : BitVec 16) (rx : List (BitVec 16)) (s : State) : Host.Outcome State Fault Refusal :=
  if (s.cage cage.val).present then
    .next (s.updCage cage.val fun x =>
      { x with intN := false, temp := signed 16 temp.toNat, vcc := vcc.toNat, rxPower := (rx.take 8).map BitVec.toNat })
  else .next s

end Sys2Proof.Machine
end

