-- ==== Sys2Proof/Machine/Power.lean ====
section
/-! DEFINITION. Resets, the boot, the thermal and power governor, supplies, and the clearing of `FAULT_N` (R438, R455, R462,
R476 to R493). -/
namespace Sys2Proof.Machine

-- Whole-device resets (R476, R477) ----------------------------------------------------------------------------------------------

/-- The Attic over a whole-device reset: what is durable stays, with the images in flash (R462, R463, R469, R476). -/
def Attic.afterReset (a : Attic) : Attic :=
  { recs := a.recs.filterMap fun r => r.saved.map fun v =>
      { r with rep := v.1, lastMs := v.2, isOpen := false }
    nextNum := a.nextNum, cycles := a.cycles, opsec := a.opsecSaved, opsecSaved := a.opsecSaved }

/-- The firmware slot that a whole-device reset makes fall back (R455); none once it has been confirmed. -/
def State.fallSlot (s : State) : Option Nat :=
  if s.flash.burnTo.isSome then none
  else match s.upd.st with
  | .scheduled => some (1 - s.upd.runSlot)
  | .restarting | .pending => some s.upd.runSlot
  | .fallingBack => some (if s.upd.falling then 1 - s.upd.runSlot else s.upd.runSlot)
  | _ => none

/-- The count of burned fuses that a whole-device reset leaves: one that cuts a burn short leaves a count between the old and the new
one (R439). -/
def State.fusedLeft (s : State) : Nat :=
  match s.flash.burnTo with
  | some n => s.flash.fusedSvn + Config.freeNat s.free % (n - s.flash.fusedSvn + 1)
  | none => s.flash.fusedSvn

/-- Every state but flash and fuses returns to its reset value (R476); `POR_N` and `HALT_N` are inputs. -/
def State.wholeReset (s : State) : State :=
  { State.reset with
    flash := { s.flash with pending := none, porFall := (s.fallSlot).or s.flash.porFall, fusedSvn := s.fusedLeft, burnTo := none }
    att := s.att.afterReset
    mem := { State.reset.mem with cupboard := s.mem.cupboard }
    pins := { State.reset.pins with haltN := s.pins.haltN, porN := s.pins.porN }
    free := s.free + 1
    pending := s.pending }

/-- POR_ASSERT (R476, R477). -/
def execPorAssert (s : State) : Host.Outcome State Fault Refusal :=
  .next { s.wholeReset with pins := { s.wholeReset.pins with porN := false } }

-- The boot (R438, R478 to R480) ---------------------------------------------------------------------------------------------------

/-- The step at which the boot checks of a firmware slot fail, 0 when they pass (R438, R474): 3 ROLLBACK. -/
def State.bootFault (s : State) (i : Nat) : Nat :=
  let x := s.fwSlot i
  if x.badStep = 1 ∨ x.badStep = 2 then x.badStep else if x.svn < s.flash.fusedSvn then 3 else x.badStep

/-- Try a firmware slot: a failed one is marked INVALID and recorded. -/
def State.trySlot (s : State) (i : Nat) : State × Bool :=
  let f := s.bootFault i
  if f = 0 then (s, true)
  else ((s.setFwSlot i { s.fwSlot i with state := 3 }).record 0x0012 Sev.critical 1 [BitVec.ofNat 8 i, BitVec.ofNat 8 f], false)

/-- The boot ROM chooses the confirmed slot, else the other; when both fail the device enters recovery (R438, R470, R490). -/
def State.chooseSlot (s : State) : State :=
  let c := s.flash.confirmed
  let a := s.trySlot c
  if a.2 then { a.1 with upd := { a.1.upd with runSlot := c } }
  else
    let b := a.1.trySlot (1 - c)
    if b.2 then { b.1 with upd := { b.1.upd with runSlot := 1 - c } }
    else
      let s := { b.1 with upd := { b.1.upd with runSlot := c, recovery := true }, att := { b.1.att with failed := true } }
      (s.raise Src.att AttEvt.flashFail).faultOn FaultCause.recovery true

/-- The settings of the Cupboard slot of the firmware that boots, and the retired-page list (R267, R455, R458). -/
def State.bootCup (s : State) : State :=
  let r := s.upd.runSlot
  let s := match s.liveCup r with
    | some c => { s with upd := { s.upd with keys := (s.cup c).keys } }
    | none => s.restoreCup (1 - r)
  let s := { s with mem := { s.mem with retired := s.mem.cupboard } }
  s.mem.cupboard.foldl (fun s p => s.takeSpare p (s.nextSpare (pageDev p))) s

/-- A fallback with cause POR is recorded after the boot (R455). -/
def State.bootFallback (s : State) : State :=
  match s.flash.porFall with
  | some i =>
    let s := s.setFwSlot i { s.fwSlot i with state := 3 }
    let s := { s with flash := { s.flash with porFall := none }, upd := { s.upd with fbCause := FbCause.por } }
    s.recordFallback FbCause.por i
  | none => s

/-- The boot begins (R438, R462, R479): `CYCLES` rises by one, and `OPSEC` resumes 60 s above the saved value. -/
def State.startBoot (s : State) : State :=
  let o := s.att.opsecSaved + 60
  let s := { s with boot := { s.boot with started := true, supplyHold := false }
                    att := { s.att with cycles := (s.att.cycles + 1) % 2 ^ 32, opsec := o, opsecBase := o } }
  s.bootFallback.chooseSlot.bootCup

/-- POR_DEASSERT (R476, R478): the boot begins unless an IOD supply still holds the device in reset. -/
def execPorDeassert (s : State) : Host.Outcome State Fault Refusal :=
  let s1 := { s with pins := { s.pins with porN := true } }
  if s.boot.started || s.boot.supplyHold then .next s1 else .next s1.startBoot

/-- IOD_SUPPLY_FAULT (R476, R489): a whole-device reset that lasts until the supplies have returned. -/
def execIodSupplyFault (s : State) : Host.Outcome State Fault Refusal :=
  .next { s.wholeReset with boot := { s.wholeReset.boot with supplyHold := true } }

/-- IOD_SUPPLY_RETURN (R476): the reset is released. -/
def execIodSupplyReturn (s : State) : Host.Outcome State Fault Refusal :=
  if s.boot.supplyHold then
    let s := { s with boot := { s.boot with supplyHold := false } }
    .next (if s.pins.porN then s.startBoot else s)
  else .next s

/-- A GDDR7 channel that failed its training is lost (R282, R480). -/
def State.lostAtBoot (s : State) (d : Nat) : State := (s.updDev d fun x => { x with failed := 3 }).loseDevice d

/-- CONFIGURATION_READY (R478, R480): the porches have started and transmit, channels and hops that failed training are lost, and the
POWER_UP record follows at the next tick. -/
def execConfigurationReady (ms : BitVec 32) (badDevs : List (Fin 16)) (badHops : List (Fin 5)) (s : State) :
    Host.Outcome State Fault Refusal :=
  if !s.boot.started || s.boot.ready then .next s
  else
    let s := { s with boot := { s.boot with
      ready := true, ms := ms.toNat, stage := if s.upd.recovery then 0xFE else 5, powerUp := true } }
    let s := s.each (List.range 16) fun p s => s.updPorch p fun q => { q with squelch := 0 }
    let s := s.each (badDevs.map Fin.val) fun d s => s.lostAtBoot d
    .next (s.each (badHops.map Fin.val) fun h s => s.downHop h)

/-- The POWER_UP record at the first tick (R474, R480). -/
def State.powerUpTick (s : State) : State :=
  if s.boot.powerUp then
    let s := { s with boot := { s.boot with powerUp := false } }
    s.record 0x0015 Sev.info 0 ([BitVec.ofNat 8 s.upd.runSlot, BitVec.ofNat 8 (bit s.upd.recovery),
      BitVec.ofNat 8 s.flash.fusedSvn, 0] ++ leBytes 4 (s.fwSlot s.upd.runSlot).bundleVer)
  else s

-- The thermal ladder (R484 to R486) -------------------------------------------------------------------------------------------------

/-- Bits of `THM_EVT` (R493). -/
def ThmEvt.shed : Nat := 0
def ThmEvt.shedClear : Nat := 1
def ThmEvt.withdraw : Nat := 2
def ThmEvt.step : Nat := 3
def ThmEvt.powerLimit : Nat := 4
def ThmEvt.supplyFail : Nat := 5

/-- A threshold in 1/256 °C. -/
def degrees (c : Int) : Int := 256 * c

/-- The hottest die, the lowest number first, with its reading (R493). -/
def State.hottest (s : State) : Nat × Int :=
  (List.range 5).foldl (fun a d => if a.2 < (s.die d).temp then (d, (s.die d).temp) else a) (0, (s.die 0).temp)

/-- The THERMAL record (R474). -/
def State.recordThermal (s : State) (sev die level : Nat) (temp : Int) : State :=
  s.record 0x0013 sev 2 ([BitVec.ofNat 8 die, BitVec.ofNat 8 level] ++ leBytes 2 (twos 16 temp))

/-- The trip latch is set (R486): by hardware `THM_FAULT` bits 1, 2 and 9, and the Guard effect of supervisor fatal. -/
def State.tripNow (s : State) (die : Nat) (temp : Int) : State :=
  if s.boot.tripLatch then s
  else
    let s := { s with boot := { s.boot with tripLatch := true, tripFrom := s.hrt.cycles }, thm := { s.thm with level := 3 } }
    let s := s.fatal.recordThermal Sev.critical die 3 temp
    (s.faultOn FaultCause.verdict true).faultOn FaultCause.trip true

/-- TRIP (R486): the comparator of a sensor. -/
def execTrip (die : Fin 5) (temp : BitVec 16) (s : State) : Host.Outcome State Fault Refusal :=
  if s.boot.started then .next (s.tripNow die.val (signed 16 temp.toNat)) else .next s

/-- The compute dies, the loop engine, the porches and the GDDR7 channels stop (R486). -/
def State.tripStop (s : State) : State :=
  let s := { s with boot := { s.boot with stopped := true }, pins := { s.pins with hbOut := false } }
  s.each (List.range 16) fun p s => s.updPorch p fun q =>
    { q with squelch := 511, state := .down, locked := 0, heard := false, openCell := {}, sent := [], next := [], up := false }

/-- 1 ms after the trip can have passed by the core cycle `cycles` (R486); before tick 0 no cycle is counted. -/
def State.stopDue (s : State) (cycles : Nat) : Bool :=
  s.boot.tripLatch && !s.boot.stopped && (!s.hrt.running || decide (s.boot.tripFrom + cyclesMs 1 ≤ cycles))

/-- TRIP_STOP (R486): 1 ms after the trip. -/
def execTripStop (s : State) : Host.Outcome State Fault Refusal :=
  if s.stopDue (s.hrt.cycles + s.hrt.cfg.period) then .next s.tripStop else .next s

/-- A stop that no row has made falls at the tick by which the time has passed from every instant of the frame of the trip (log 16). -/
def State.stopTick (s : State) : State :=
  if s.hrt.running && s.stopDue (s.hrt.cycles - s.hrt.cfg.period) then s.tripStop else s

/-- Level 2 is entered (R383, R484): the verdict THERMAL; a unit in role SOLO keeps control and asserts `FAULT_N`. -/
def State.enterWithdraw (s : State) (die : Nat) (temp : Int) : State :=
  let s := { s with thm := { s.thm with level := 2 } }
  let s := (s.raise Src.thm ThmEvt.withdraw die).recordThermal Sev.critical die 2 temp
  s.verdict 4 GuardCode.verdict fun s => s.faultOn FaultCause.thermal true

/-- Level 1 is entered (R484). -/
def State.enterShed (s : State) (die : Nat) (temp : Int) : State :=
  let s := { s with thm := { s.thm with level := 1 } }
  (s.raise Src.thm ThmEvt.shed die).recordThermal Sev.warning die 1 temp

/-- The ladder at the tick (R484): level 2 acts once per crossing, and gives way to level 1 below its threshold. -/
def State.ladder (s : State) : State :=
  let h := s.hottest
  if s.thm.level = 3 then s
  else
    let s := if s.thm.level = 0 ∧ degrees 95 ≤ h.2 then s.enterShed h.1 h.2 else s
    let s := if s.thm.level = 1 ∧ degrees 105 ≤ h.2 then s.inTick fun t => t.enterWithdraw h.1 h.2
      else if s.thm.level = 2 ∧ h.2 < degrees 105 then { s with thm := { s.thm with level := 1 } }
      else s
    if degrees 115 ≤ h.2 then s.inTick fun t => t.tripNow h.1 h.2 else s

/-- Every die has stayed below 92.0 °C for 100 ms by the core cycle `cycles` (R485). -/
def State.coolDies (s : State) (cycles : Nat) : Bool :=
  (List.range 5).all fun d => match (s.die d).coolSince with
    | some c => decide (c + cyclesMs 100 ≤ cycles)
    | none => false

/-- Every die has risen by less than 2 °C over 100 ms (R488). -/
def State.calmDies (s : State) (cycles : Nat) : Bool :=
  (List.range 5).all fun d => match (s.die d).calmSince with
    | some c => decide (c.1 + cyclesMs 100 ≤ cycles)
    | none => false

/-- A step in force ends (R488). -/
def State.endStep (s : State) (cycles : Nat) : State :=
  if s.thm.stepActive ∧ s.coolDies cycles ∧ s.calmDies cycles then
    ({ s with thm := { s.thm with stepActive := false } }).raise Src.thm ThmEvt.shedClear
  else s

/-- STEP_END (R488). -/
def execStepEnd (s : State) : Host.Outcome State Fault Refusal := .next (s.endStep (s.hrt.cycles + s.hrt.cfg.period))

/-- Level 1 clears (R485). -/
def State.clearShed (s : State) (cycles : Nat) : State :=
  if s.thm.level = 1 ∧ !s.thm.stepActive ∧ s.coolDies cycles then
    ({ s with thm := { s.thm with level := 0 } }).raise Src.thm ThmEvt.shedClear
  else s

/-- SHED_CLEAR (R485). -/
def execShedClear (s : State) : Host.Outcome State Fault Refusal := .next (s.clearShed (s.hrt.cycles + s.hrt.cfg.period))

-- Readings (R483, R485, R488) ----------------------------------------------------------------------------------------------------------

/-- Highest `TEMP` since the last read, signed (R493). -/
def State.maxTempReg (s : State) (d : Nat) (t : Int) : State :=
  if signed 16 (s.field (Reg.THM_DIE d) 32 16) < t then s.setField (Reg.THM_DIE d) 32 16 (twos 16 t) else s

/-- A die's reading of the frame that ends, which began at the core cycle `from_`. -/
def Die.read (from_ : Nat) (t : Int) (x : Die) : Die :=
  { x with
    temp := t
    recent := (from_, t) :: x.recent.filter fun r => decide (from_ ≤ r.1 + cyclesMs 1)
    coolSince := if t < degrees 92 then some (x.coolSince.getD from_) else none
    calmSince := match x.calmSince with
      | some (c, low) => if low + degrees 2 ≤ t then some (from_, t) else some (c, min low t)
      | none => some (from_, t) }

/-- The step threshold in degrees (R493). -/
def State.stepC (s : State) : Nat := clampNat 5 40 (s.inForce Reg.THM_CTL 40 8)

/-- The reading exceeds the lowest of the preceding 1 ms by the step threshold (R488). -/
def State.stepOn (s : State) (from_ d : Nat) : Bool :=
  let x := s.die d
  match ((x.recent.filter fun r => decide (r.1 < from_)).map (·.2)).min? with
  | some low => decide (low + degrees s.stepC ≤ x.temp)
  | none => false

/-- Step detection at the tick, armed 1 ms after tick 0 (R481, R488). -/
def State.detectStep (s : State) (from_ : Nat) : State :=
  if s.thm.stepActive ∨ s.inForce Reg.THM_CTL 0 1 = 0 ∨ from_ < cyclesMs 1 then s
  else match (List.range 4).find? fun d => s.stepOn from_ d with
    | some d =>
      let s := ({ s with thm := { s.thm with stepActive := true } }).raise Src.thm ThmEvt.step d
      s.recordThermal Sev.warning d 1 (s.die d).temp
    | none => s

-- Power (R487) -----------------------------------------------------------------------------------------------------------------------------

/-- `POWER_CAP` in watts. -/
def State.powerCap (s : State) : Nat := clampNat 300 700 (s.inForce Reg.THM_CTL 16 10)

/-- 50 W per ms over a frame, in 2^-16 W. -/
def State.rampStep (s : State) : Nat := 50 * 65536 * s.hrt.cfg.period / cyclesMs 1

/-- The budget of the coming frame in 2^-16 W (R487): it rises by 50 W per ms up to the cap, and falls by as much while the
average exceeds the cap (log 27). -/
def State.budget (s : State) : Nat :=
  if s.powerCap < s.thm.pkgW then s.thm.bulkW - s.rampStep
  else min (65536 * s.powerCap) (s.thm.bulkW + s.rampStep)

/-- Withhold jobs in descending number until the estimated power of the rest fits `w` watts; `l` ascends. -/
def withhold (power : Nat → Nat) (w : Nat) : List Nat → List Nat
  | [] => []
  | j :: t =>
    let rest := withhold power (w - power j) t
    if power j ≤ w then rest else j :: t

/-- The power budget at the tick. -/
def State.powerTick (s : State) (jobW : List (Nat × Nat)) : State :=
  let b := s.budget
  let run := s.liveJobs.filter fun j => decide ((s.job j).state = .ready) || decide ((s.job j).state = .running)
  let power := fun j => ((jobW.find? (·.1 = j)).map (·.2)).getD 0
  let lim := decide (b = 0) && decide (s.powerCap < s.thm.pkgW)
  let s' := { s with thm := { s.thm with bulkW := b, withheld := withhold power (b / 65536) run, limited := lim } }
  if lim && !s.thm.limited then s'.raise Src.thm ThmEvt.powerLimit else s'

/-- The governor at the tick (R482 to R488): the readings of the frame that ends, which began at the core cycle `from_`; the core
cycle of the tick is in the state. -/
def State.thermTick (s : State) (x : TickIn) (from_ : Nat) : State :=
  if !s.boot.started then s
  else
    let s := s.each (List.range 5) fun d s =>
      let t := ((x.temps.find? (·.1 = d)).map (·.2)).getD (s.die d).temp
      let v := ((x.vdd.find? (·.1 = d)).map (·.2)).getD (s.die d).vddMv
      (s.updDie d fun y => { y.read from_ t with vddMv := v % 65536 }).maxTempReg d t
    let s := { s with thm := { s.thm with pkgW := min 65535 x.pkgW } }
    let s := s.maxField Reg.THM_POWER 32 16 (min 65535 x.pkgW)
    let s := (s.detectStep from_).ladder
    (s.endStep s.hrt.cycles).clearShed s.hrt.cycles |>.powerTick x.jobW

-- Supplies and FAULT_N (R489, R490) -----------------------------------------------------------------------------------------------------------

/-- SUPPLY_FAIL (R489): the die is lost in this frame. -/
def execSupplyFail (die : Fin 4) (s : State) : Host.Outcome State Fault Refusal :=
  let d := die.val
  if (s.die d).state = 1 then .next s
  else .next ((((s.updDie d fun x => { x with state := 1 }).loseDie d).raise Src.thm ThmEvt.supplyFail d).faultOn
    FaultCause.supply false)

/-- The cause of a `THM_FAULT` bit still holds (R490). -/
def State.causeHolds (s : State) (c : Nat) : Bool :=
  if c = 1 ∨ c = 9 ∨ c = 10 ∨ c = 12 then true
  else if c = 2 then decide (s.roleNow = .withdrawn)
  else if c = 4 then !s.hrt.timebaseOk
  else if c = 5 then s.plan.noVariant
  else if c = 8 then (List.range 5).any fun d => decide (degrees 105 ≤ (s.die d).temp)
  else if c = 11 then !s.hrt.running
  else false

/-- FAULT_CLEAR (R490): a bit is cleared only when its cause no longer holds; `FAULT_N` follows the bits. -/
def execFaultClear (mask : BitVec 13) (s : State) : Host.Outcome State Fault Refusal :=
  let cs := (List.range 13).filter fun c => mask.getLsbD c && !s.causeHolds c
  let s := cs.foldl (fun s c => s.setField Reg.THM_FAULT c 1 0) s
  .next { s with pins := { s.pins with faultN := decide (s.reg Reg.THM_FAULT = 0) } }

end Sys2Proof.Machine
end

