-- ==== Sys2Proof/Machine/Notices.lean ====
section
/-! DEFINITION. What the device writes to the Halls at a tick: orders taken up and DONE, notices, status pages and interrupts
(R252, R410 to R420, R428). -/
namespace Sys2Proof.Machine

-- Orders (R413 to R415) ---------------------------------------------------------------------------------------------------------

/-- Carry out an order of the frame that ends (R227, R415): MOVE and JOB_START orders, whose lists and checks belong to the frame after
their take-up. -/
def State.carryOrder (s : State) (o : TakenOrder) : State :=
  if o.carried then s
  else match o.typ with
    | 1 => s.takeMove o
    | 3 => s.startJob o
    | _ => s

/-- Every such order that no command has carried out since its take-up. -/
def State.carryOrders (s : State) : State := s.taken.foldl (fun s o => s.carryOrder o) s

/-- An order ends (R414): its slot becomes DONE, with a notice where NOTIFY is set. Nothing is written for a seat that has been reset
since (R425). -/
def State.finishOrder (s : State) (o : TakenOrder) : State :=
  if o.gone then s
  else
    let s := s.hallWrite o.seat (256 * o.slot) ([3, BitVec.ofNat 8 o.typ, BitVec.ofNat 8 o.flags, BitVec.ofNat 8 o.result]
      ++ leBytes 4 o.cookie ++ leBytes 8 o.taken ++ leBytes 4 o.obj ++ leBytes 4 0 ++ leBytes 8 s.hrt.frame)
    if o.flags % 2 = 1 then
      s.raiseRecord [o.seat] Src.order 1 (leBytes 2 o.slot ++ [BitVec.ofNat 8 o.typ, BitVec.ofNat 8 o.result]
        ++ leBytes 4 o.cookie ++ leBytes 4 o.obj ++ leBytes 4 0 ++ leBytes 8 o.taken)
    else s

/-- Orders taken up at the tick before become DONE (R414). -/
def State.finishOrders (s : State) : State :=
  let l := s.taken.filter fun o => o.taken ≠ s.hrt.frame
  let s := l.foldl (fun s o => s.finishOrder o) s
  { s with taken := s.taken.filter fun o => o.taken = s.hrt.frame }

-- Notices (R417 to R419) ------------------------------------------------------------------------------------------------------------

/-- The EVT register of a source; that of SEAT and SHF bits is set at its instant, and ORDER has none (R419). -/
def evtReg (src : Nat) : Option Nat :=
  match src with
  | 1 => some Reg.SYS_EVT
  | 2 => some Reg.HRT_EVT
  | 3 => some Reg.PLN_EVT
  | 4 => some Reg.MOV_EVT
  | 5 => some Reg.TIL_EVT
  | 6 => some Reg.MEM_EVT
  | 8 => some Reg.PCH_EVT
  | 9 => some Reg.LNH_EVT
  | 10 => some Reg.TWN_EVT
  | 12 => some Reg.UPD_EVT
  | 13 => some Reg.ATT_EVT
  | 14 => some Reg.TRC_LE_EVT
  | 15 => some Reg.THM_EVT
  | _ => none

/-- Set the EVT bit of a notice. -/
def State.setEvt (s : State) (e : Event) : State :=
  match evtReg e.src, e.kind with
  | some a, 0 => s.setField a e.event 1 1
  | _, _ => s

/-- The seat receives notices of the source (R419, R421): READY, not masked, and with the feature they belong to. -/
def State.receives (s : State) (i : Nat) (e : Event) : Bool :=
  let x := s.seat i
  let has := fun b => decide (x.agreed / 2 ^ b % 2 = 1)
  decide (x.state = .ready) && e.seats.contains i && !bitAt (s.reg (Reg.SEAT_NTC_CFG i)) e.src
    && (decide (e.src ≠ Src.mov) || has 1) && (decide (e.src ≠ Src.til) || decide (e.kind = 0) || has 2)

/-- Merge the occurrences of one source, bit and object into one record with their count (R417). -/
def mergeEvents : List Event → List (Event × Nat) → List (Event × Nat)
  | [], acc => acc
  | e :: t, acc =>
    if e.kind = 0 ∧ acc.any fun p => decide (p.1.kind = 0) && decide (p.1.src = e.src) && decide (p.1.event = e.event)
        && decide (p.1.obj = e.obj) then
      mergeEvents t (acc.map fun p =>
        if p.1.kind = 0 ∧ p.1.src = e.src ∧ p.1.event = e.event ∧ p.1.obj = e.obj then (p.1, p.2 + 1) else p)
    else mergeEvents t (acc ++ [(e, 1)])

/-- The 64 bytes of a record (R417). -/
def noticeBytes (index tick : Nat) (lost : Bool) (e : Event) (count : Nat) : List Byte :=
  let body := if e.kind = 0 then leBytes 4 e.obj ++ leBytes 4 e.arg ++ leBytes 2 (min 65535 count) else e.body
  leBytes 4 index ++ [BitVec.ofNat 8 e.src, BitVec.ofNat 8 e.kind, BitVec.ofNat 8 e.event, BitVec.ofNat 8 (bit lost)]
    ++ leBytes 8 tick ++ body.take 48 ++ List.replicate (48 - body.length) 0

/-- Records in the ring of a seat that its host has not consumed (R418). -/
def State.ringUsed (s : State) (i : Nat) : Nat :=
  ((s.seat i).prod + 2 ^ 32 - s.field (Reg.SEAT_NTC_CONS i) 0 32) % 2 ^ 32

/-- Write one record to the ring of a seat; a full ring drops it (R418). A bit that is set already raises no further notice, which
would be dropped as well. -/
def State.writeNotice (s : State) (i : Nat) (e : Event × Nat) : State :=
  if 65536 ≤ s.ringUsed i then
    let s := (s.count (Reg.SEAT_NTC_LOST i) 0 32 1).updSeat i fun x => { x with lost := true }
    if bitAt (s.reg (Reg.SEAT_EVT i)) 1 then s else s.seatEvt i 1
  else
    let x := s.seat i
    let s := s.hallWrite i (0x100000 + 64 * (x.prod % 65536)) (noticeBytes x.prod s.hrt.frame x.lost e.1 e.2)
    s.updSeat i fun x => { x with prod := (x.prod + 1) % 2 ^ 32, lost := false }

/-- The vectors of a seat that have records from this tick, by source (R420). -/
def State.vectors (s : State) (i : Nat) (srcs : List Nat) : List Nat :=
  (srcs.filterMap fun c =>
    let w := s.reg (Reg.SEAT_VEC_MAP i (c / 8))
    if bitAt w (8 * (c % 8) + 7) then some (bitsOf w (8 * (c % 8)) 6) else none).eraseDups

/-- The entry of a vector in the MSI-X table is masked; the pending-bit array of a seat (R407, R428). -/
def State.vectorMasked (s : State) (i v : Nat) : Bool := bitAt (s.reg (0x1008008 + 65536 * i + 16 * v)) 32
def pbaReg (i : Nat) : Nat := 0x1009000 + 65536 * i

/-- MSI-X messages of a seat after the tick: a masked vector stays pending (R420). -/
def State.sendMsix (s : State) (i : Nat) (srcs : List Nat) : State :=
  let want := (s.vectors i srcs ++ members 64 (s.reg (pbaReg i)).toNat).eraseDups
  let held := want.filter (s.vectorMasked i)
  let s := s.setReg (pbaReg i) (BitVec.ofNat 64 (bitSet held))
  { s with port := { s.port with msix := s.port.msix ++ ((want.filter fun v => !s.vectorMasked i v).map (i, ·)) } }

/-- The notices of the tick, in the rings of the seats, and their interrupts (R417 to R420). On a unit that the trip has stopped the
Halls take no record (R486). -/
def State.flushNotices (s : State) : State :=
  let es := s.events
  let s := es.foldl (fun s e => s.setEvt e) { s with events := s.later, later := [], port := { s.port with msix := [] } }
  if s.boot.stopped then s
  else s.each (List.range 8) fun i s =>
    let l := mergeEvents (es.filter (s.receives i)) []
    let before := (s.seat i).prod
    let s := l.foldl (fun s e => s.writeNotice i e) s
    let written := l.take (((s.seat i).prod + 2 ^ 32 - before) % 2 ^ 32)
    let s := if written.isEmpty then s else s.setReg (Reg.SEAT_NTC_PROD i) (BitVec.ofNat 64 (s.seat i).prod)
    if (s.seat i).state = .ready then s.sendMsix i ((written.map (·.1.src)).eraseDups) else s

-- Status pages (R252, R410) ----------------------------------------------------------------------------------------------------------

/-- The status page of a seat with the values of the tick. -/
def State.page (s : State) (i : Nat) : StatusPage :=
  { seq := ((s.seat i).status.seq + 2) % 2 ^ 32, ntcProd := (s.seat i).prod, frame := s.hrt.frame, time := s.tickTime
    unitRole := if s.twn.role = .none then 0xFF else s.twn.role.code, side := s.twn.side, lock := s.hrt.lock.code
    seatRole := s.seatRole i, pathsIn := s.mov.service.length, epoch := s.twn.epoch, planId := s.plan.planId, edits := s.eng.edits
    moves := s.openMoves.length, planDigest := s.plan.digest }

/-- Status pages of the READY seats and the path records are rewritten at the tick (R252, R410). -/
def State.writePages (s : State) : State :=
  if s.boot.stopped then s
  else
    let s := s.each ((List.range 8).filter fun i => (s.seat i).state = .ready) fun i s => s.updSeat i fun x => { x with status := s.page i }
    { s with mov := { s.mov with
        rewrites := (s.mov.rewrites + 1) % 2 ^ 31
        view := { paths := s.mov.paths, service := s.mov.service, taps := s.mov.taps
                  watched := ((List.range s.fallbacks).filter s.armed).map fun e => (s.fallback e).inp } } }

end Sys2Proof.Machine
end

