-- ==== Sys2Proof/Machine/RegRead.lean ====
section
/-! DEFINITION. What a register reads (R5, R7, R8, R494 to R496): the stored bits, and the read-only fields that show the state. -/
namespace Sys2Proof.Machine

/-- Values of fields of a register: low bit, width, value. -/
abbrev Fields := List (Nat × Nat × Nat)

/-- Put values of fields into a word. -/
def putFields (w : Word) (l : Fields) : Word := l.foldl (fun w f => setBits w f.1 f.2.1 f.2.2) w

/-- A register of one field of 64 bits. -/
def whole (v : Nat) : Fields := [(0, 64, v)]

/-- Device time (2^-48 ns) in a core cycle of the current frame (R36, R41); 0 before tick 0. -/
def State.timeNow (s : State) (cycle : Nat) : Nat := if s.hrt.running then s.timeAfter cycle else 0

/-- A slot register (R51). -/
def slotFields (a b : Nat) : Fields := [(0, 21, a), (32, 21, b)]

/-- `HRT_` (R51). -/
def State.readHRT (s : State) (cycle o : Nat) : Fields :=
  let c := s.hrt.cfg
  match o with
  | 0x08 => [(0, 3, s.hrt.lock.code), (3, 1, bit s.hrt.timebaseOk), (4, 1, bit s.hrt.edgeSeen), (5, 1, bit s.isRef)]
  | 0x10 => whole s.hrt.frame
  | 0x18 => whole (s.timeNow cycle / 2 ^ 48)
  | 0x28 => whole (s.hrt.time / 2 ^ 48)
  | 0x30 => [(0, 16, s.hrt.time / 2 ^ 32)]
  | 0x38 => [(0, 21, c.period), (21, 21, c.emitDl), (42, 14, c.lateFill)]
  | 0x40 => slotFields c.senseStart c.senseEnd
  | 0x48 => slotFields c.loopStart c.loopEnd
  | 0x50 => slotFields c.emitStart c.emitEnd
  | 0x58 => slotFields c.guardStart c.guardEnd
  | 0x98 => [(0, 11, s.hrt.windowDone)]
  | _ => []

/-- `PLN_STATUS.STATE` (R90). -/
def PlanState.code : PlanState → Nat
  | .idle => 0
  | .validating => 1
  | .valid => 2
  | .refused => 3
  | .scheduled => 4
  | .preload => 5
  | .bridge => 6

/-- A budget register (R90). -/
def budgetFields (x : Nat × Nat) : Fields := [(0, 21, x.2), (32, 21, x.1)]

/-- The first refusal code of variant `v` of the committed plan or the last validation; 0xFF absent (R64, R90). -/
def State.varFail (s : State) (v : Nat) : Nat := (s.plan.varFail[v - 1]?).getD 0xFF

/-- Bit v − 1: variant v of the committed plan is usable (R64, R90). -/
def State.varOk (s : State) : Nat := bitSet ((List.range s.plan.plan.places.length).filter fun i =>
  match s.plan.plan.places[i]? with | some p => decide (p.fail = 0) | none => false)

/-- `PLN_TBL_STATUS` of the selected table (R90): NO_TABLE shows for a number without a table. -/
def State.readTblStatus (s : State) : Fields :=
  match s.table? (s.field Reg.PLN_TBL_SEL 0 16) with
  | some t => [(0, 2, t.writer), (4, 1, t.active), (8, 3, t.inactive), (16, 8, t.result), (32, 32, t.gen)]
  | none => if s.plan.noTable = some (s.field Reg.PLN_TBL_SEL 0 16) then [(16, 8, TblResult.noTable)] else []

/-- `PLN_` (R90). -/
def State.readPLN (s : State) (o : Nat) : Fields :=
  let p := s.plan
  if 0x40 ≤ o ∧ o < 0x80 then whole (p.digest / 2 ^ (64 * ((o - 0x40) / 8)))
  else if 0x80 ≤ o ∧ o < 0xC0 then whole (p.valDigest / 2 ^ (64 * ((o - 0x80) / 8)))
  else if 0x100 ≤ o ∧ o < 0x180 then
    match p.refusals[(o - 0x100) / 8]? with
    | some r => [(0, 32, r.excess), (32, 22, r.loc), (54, 2, r.unit), (56, 8, r.code)]
    | none => []
  else match o with
  | 0x10 => [(0, 3, p.st.code), (8, 2, p.candKind), (16, 8, p.cmdResult), (24, 8, p.refuseCount), (32, 4, p.variant), (36, 4, s.varOk),
      (44, 4, p.bridge), (48, 16, p.preload)]
  | 0x30 => [(0, 32, p.planId)]
  | 0x38 => whole p.commitFrame
  | 0xC0 => whole planFeatures
  | 0xE0 => budgetFields p.sense
  | 0xE8 => budgetFields p.loopB
  | 0xF0 => budgetFields p.emit
  | 0xF8 => [(0, 16, p.bulkCost), (32, 32, p.spillKb)]
  | 0x180 => [(0, 8, s.varFail 1), (8, 8, s.varFail 2), (16, 8, s.varFail 3), (24, 8, s.varFail 4)]
  | 0x198 => s.readTblStatus
  | 0x1C0 => whole (match s.table? (s.field Reg.PLN_TBL_SEL 0 16) with | some t => t.lastTick | none => 0)
  | _ => []

/-- Axes of a move's mirror that are slewing (R233): its first leg has begun and its last has not ended, or its stop lasts. -/
def State.slewAxes (s : State) (p : MirrorPlan) : Nat :=
  if p.arrived ∨ p.begun = 0 then 0
  else if p.abortedM then
    bit (decide (restFrames (s.loop (2 * p.mirror)) ≠ 0)) + bit (decide (restFrames (s.loop (2 * p.mirror + 1)) ≠ 0))
  else p.axes

/-- Axes slewing in the current frame on the head of a drive porch (R233). -/
def State.slewingOn (s : State) (porch : Nat) : Nat :=
  (s.mov.moves.map fun m => ((m.2.mirrors.filter fun p => s.drivePorch (2 * p.mirror) = some porch).map s.slewAxes).sum).sum

/-- The move that `MOV_SEL` selects. -/
def State.selMove (s : State) : Option Move := s.move? (s.field Reg.MOV_SEL 0 32)

/-- `MOV_INFO` (R254). -/
def Move.infoFields (m : Move) : Fields :=
  [(0, 16, (m.mirrors.filter (·.unguarded)).length), (24, 8, if m.origin = 1 then 0xFF else m.seat), (32, 4, m.origin)
  , (36, 4, m.state.code), (40, 8, min 255 m.waves), (48, 8, min 255 m.lmax), (56, 8, m.reason)]

/-- `MOV_` (R254). -/
def State.readMOV (s : State) (o : Nat) : Fields :=
  let sel (f : Move → Fields) : Fields := match s.selMove with | some m => f m | none => []
  match o with
  | 0x08 => [(0, 8, s.openMoves.length), (24, 8, min 255 ((s.mov.service.filter fun p => p.2.loss).length))
      , (32, 16, ((List.range 16).map s.slewingOn).sum), (48, 16, s.mov.service.length)]
  | 0x38 => sel Move.infoFields
  | 0x40 => sel fun m => [(0, 16, m.count 3), (16, 16, m.count 2), (32, 16, m.count 1), (48, 16, m.paths.length)]
  | 0x48 => sel fun m => whole m.tTakeup
  | 0x50 => sel fun m => whole m.tPlanned
  | 0x58 => sel fun m => whole m.tStart
  | 0x60 => sel fun m => whole m.tEnd
  | 0x68 => [(32, 12, 0)]
  | 0x70 =>
    let n := List.range s.fallbacks
    [(32, 16, (n.filter fun e => (s.reflex e).unguarded).length), (48, 16, (n.filter s.armed).length)]
  | 0x80 | 0x88 | 0x90 | 0x98 => (List.range 4).map fun q => (16 * q, 16, s.slewingOn (4 * ((o - 0x80) / 8) + q))
  | _ => []

/-- Tiles of a job as a bit set. -/
def Job.tileSet (x : Job) : Nat := bitSet x.tiles

/-- The job that `TIL_JOB_SEL` selects. -/
def State.selJob (s : State) : Job := s.job (s.field Reg.TIL_JOB_SEL 0 8)

/-- `TIL_` (R130). -/
def State.readTIL (s : State) (o : Nat) : Fields :=
  let lost := bitSet ((List.range 128).filter fun t => (s.tile t).lost)
  let x := s.selJob
  if 0x80 ≤ o ∧ o < 0xC0 then
    let seat := (o - 0x80) / 8
    [(8, 8, (s.seatJobs seat).length), (16, 8, s.seatTiles seat)]
  else if 0x1000 ≤ o ∧ o < 0x1400 then
    let t := s.tile ((o - 0x1000) / 8)
    [(0, 2, bit t.lost), (8, 4, t.stage), (16, 10, t.freePages), (32, 10, t.fcPages), (48, 3, t.contexts.length)]
  else match o with
  | 0x08 => [(0, 4, bitSet ((List.range 4).filter fun d => !s.til.dies.contains d))
      , (16, 8, ((List.range 128).filter fun t => !(s.tile t).lost).length), (32, 9, s.liveJobs.length)]
  | 0x10 => whole (2 ^ 64 - 1 - lost % 2 ^ 64)
  | 0x18 => whole (2 ^ 64 - 1 - lost / 2 ^ 64)
  | 0x20 => whole (lost % 2 ^ 64)
  | 0x28 => whole (lost / 2 ^ 64)
  | 0x30 => (List.range 5).map fun h => (2 * h, 2, if s.til.hops.contains h then 0 else 2)
  | 0x50 =>
    if x.state = .none then []
    else [(0, 32, if x.state = .ended ∧ x.endReason = EndReason.done then x.exitCode else 0), (32, 8, x.tiles.length), (40, 4, x.admission), (44, 4, x.parkReason), (48, 4, x.endReason)
      , (52, 4, x.state.code), (56, 8, x.seat)]
  | 0x60 => whole x.time
  | 0x68 => whole (x.tileSet % 2 ^ 64)
  | 0x70 => whole (x.tileSet / 2 ^ 64)
  | 0x78 => [(0, 32, x.copyLen), (32, 32, x.copyProg)]
  | _ => []

/-- Megabytes of a number of KB, rounded up. -/
def mbUp (kb : Nat) : Nat := (kb + 1023) / 1024

/-- Fewest spares left on a device in service (R284). -/
def State.sparesMin (s : State) : Nat := ((s.devsIn.map fun d => (s.dev d).spares).min?).getD 0

/-- `MEM_` (R284). The capacity shows once the memory has been brought up (R478). -/
def State.readMEM (s : State) (o : Nat) : Fields :=
  if 0x80 ≤ o ∧ o < 0xC0 then [(32, 32, mbUp (s.seatKb ((o - 0x80) / 8)))]
  else if 0x100 ≤ o ∧ o < 0x180 then
    let d := s.dev ((o - 0x100) / 8)
    [(0, 2, d.state), (4, 12, min 4095 d.spares)]
  else match o with
  | 0x08 => [(0, 16, bitSet s.devsIn), (32, 1, bit s.mem.degraded), (33, 1, bit s.mem.cellar.2.2)]
  | 0x10 =>
    if s.boot.ready then [(0, 16, s.unprotTotal), (16, 16, mbUp s.mem.pinnedKb), (32, 32, s.unprotFree / 1024)] else []
  | 0x38 => whole s.mem.faultInfo.toNat
  | 0x40 => whole s.mem.faultAddr
  | 0x48 => whole s.mem.faultProg.toNat
  | 0x58 => [(0, 24, s.mem.lastRetired), (32, 16, s.sparesMin), (48, 16, s.mem.retired.length)]
  | _ => []

/-- Pages that both banks of a shelf hold, borrowed pages included (R307). -/
def State.shelfPages (s : State) (n : Nat) : Nat :=
  let x := s.shelf n
  if s.shelfCls n = 0 then 0 else 2 * s.minPages n + x.fillExtra + x.drainExtra

/-- `SHF_` of shelf n (R307). -/
def State.readSHF (s : State) (n o : Nat) : Fields :=
  let e := s.shelfEnds n
  let x := s.shelf n
  match o with
  | 0x00 => [(0, 2, s.shelfCls n), (4, 1, x.notice), (5, 1, x.swapMode), (16, 16, x.staleUs), (32, 16, s.minPages n), (48, 16, s.maxPages n)]
  | 0x08 => [(0, 24, x.swapWords), (32, 8, e.2.2.2), (40, 8, e.2.2.1), (48, 8, e.2.1), (56, 8, e.1)]
  | 0x10 => [(0, 1, bit !x.opened.isEmpty), (1, 1, bit x.swapPend), (16, 16, s.shelfPages n), (32, 16, min 65535 x.fill.length)
      , (48, 16, min 65535 x.drain.length)]
  | 0x18 => [(0, 32, x.fillWords), (32, 32, x.drainWords)]
  | 0x28 => if s.boot.ready then [(0, 32, s.poolFree)] else []
  | _ => []

/-- Receive lanes of a porch that carry cells (R350): its own lanes that lock holds and that are in service, and lane 8 while
it holds a duplicate. -/
def State.carryingLanes (s : State) (p : Nat) : Nat :=
  bitSet ((List.range 9).filter fun l =>
    let st := (s.lane p l).state
    s.hasLock p l && (if l = 8 then decide ((s.porch p).mirror ≠ 15)
      else decide (st = .inService) || decide (st = .spared) || decide (st = .cal)))

/-- `PCH_Pp_` registers (R350). -/
def State.readPorch (s : State) (p o : Nat) : Fields :=
  let q := s.porch p
  match o with
  | 0x08 => [(0, 4, q.state.code), (8, 4, s.width p), (12, 4, q.mirror), (16, 9, s.carryingLanes p), (32, 9, q.lit)]
  | 0x10 => [(0, 32, q.headId), (32, 1, q.headPort), (40, 1, q.other), (48, 16, q.headType)]
  | 0x18 => [(0, 32, q.delayPs)]
  | 0x40 => [(0, 16, q.faultCode), (16, 16, q.stale), (32, 16, q.repeated), (48, 16, twos 16 q.temp)]
  | _ => []

/-- `PCH_Cc_` registers (R350). -/
def State.readCage (s : State) (c o : Nat) : Fields :=
  let x := s.cage c
  match o with
  | 0x00 => [(0, 1, bit x.present), (1, 1, bit x.qualified), (2, 1, bit x.intN), (3, 1, bit x.dark), (4, 1, bit x.txDisabled)
      , (8, 8, x.modState), (16, 8, x.txLos), (24, 8, x.rxLos)]
  | 0x08 => [(0, 16, x.vcc), (16, 16, twos 16 x.temp)]
  | _ => (List.range 4).map fun k => (16 * k, 16, (x.rxPower[4 * ((o - 0x10) / 8) + k]?).getD 0)

/-- `PCH_` (R350). -/
def State.readPCH (s : State) (o : Nat) : Fields :=
  if 0x1000 ≤ o ∧ o < 0x1800 then s.readPorch ((o - 0x1000) / 0x80) (o % 0x80)
  else if 0x2000 ≤ o ∧ o < 0x2240 then s.readCage ((o - 0x2000) / 0x20) (o % 0x20)
  else
    let porches (f : Porch → Bool) := bitSet ((List.range 16).filter fun p => f (s.porch p))
    let cages (f : Cage → Bool) := bitSet ((List.range 18).filter fun c => f (s.cage c))
    match o with
    | 0x00 => [(0, 16, porches fun q => decide (q.state = .ready)), (16, 16, porches fun q => decide (q.state = .dark))
        , (32, 16, porches (·.lost))]
    | 0x08 => [(0, 18, cages fun c => c.present && c.qualified), (32, 18, cages (·.dark))]
    | _ => []

/-- `STATE` of a lane (R353). -/
def LaneState.code : LaneState → Nat
  | .down => 0
  | .inService => 1
  | .cal => 2
  | .spared => 3
  | .replaced => 4
  | .shed => 5
  | .compatOut => 6
  | .carrying => 7

/-- `PHASE` of a run (R372). -/
def CalPhase.code : CalPhase → Nat
  | .idle => 0
  | .mirroring => 1
  | .adapt => 2
  | .ramp => 3
  | .unmirroring => 4
  | .lockWait => 5
  | .compat => 6

/-- `LNH_Pp_STATUS` (R372). -/
def State.readCal (s : State) (p : Nat) : Fields :=
  let c := s.cal p
  [(0, 3, c.phase.code), (8, 4, c.carries), (16, 8, min 255 c.step), (24, 4, if c.phase = .idle then 15 else c.lane)
  , (31, 9, bitSet ((List.range 9).filter fun l => (s.lane p l).queued)), (40, 8, c.opResult), (48, 16, twos 16 c.regionT)]

/-- `LNH_Pp_Ll_` registers (R361, R372). -/
def State.readLane (s : State) (p l o : Nat) : Fields :=
  let x := s.lane p l
  match o with
  | 0x00 => [(0, 4, x.state.code), (4, 2, x.level), (6, 1, bit x.baseOk), (7, 1, bit x.spareWanted), (8, 4, x.calResult)
      , (16, 16, twos 16 x.runT), (32, 32, min (2 ^ 32 - 1) x.runs)]
  | 0x08 => [(0, 16, twos 16 x.f1), (16, 16, twos 16 x.f64), (32, 16, min 4096 x.baseFrames)
      , (48, 16, x.baseWrite.getD x.baseline)]
  | 0x10 => [(0, 32, x.corr64)]
  | _ => whole (match x.shown with | some (v, t, n) => fieldAt (calBytes p l v t n) (o - 0x18) 8 | none => 0)

/-- `LNH_` (R372). -/
def State.readLNH (s : State) (o : Nat) : Fields :=
  if 0x2000 ≤ o ∧ o < 0x6000 then
    let l := o % 0x400 / 0x40
    if l < 9 ∧ o % 0x40 < 0x40 then s.readLane ((o - 0x2000) / 0x400) l (o % 0x40) else []
  else if 0x1000 ≤ o ∧ o < 0x1400 then if o % 0x40 = 8 then s.readCal ((o - 0x1000) / 0x40) else []
  else if o = 8 then
    let n (f : Lane → Bool) := (s.lanes.filter fun e => f e.2).length
    [(0, 16, n fun x => decide (x.state = .shed)), (16, 16, n fun x => decide (x.state = .spared) || decide (x.state = .replaced))
    , (32, 16, n (·.queued))]
  else []

/-- `TWN_STATUS.LANDING` (R401): 0 NONE, 1 UP, 2 LOST. -/
def State.landingCode (s : State) : Nat :=
  if s.landing.isNone then 0 else if s.landingLost then 2 else bit s.landingUp

/-- `FLAGS` of a STATE cell (R335). -/
def stateFlags (c : StateCell) : Nat := bit c.commitPending + 2 * bit c.fault + 4 * bit c.halt + 8 * bit c.guard

/-- Loops not yet installed in the current resynchronisation: 64 with each of 256 batches (R399, R401). -/
def State.syncLeft (s : State) : Nat := match s.twn.sync with | some l => 64 * (256 - l.length) | none => 0

/-- `TWN_` (R401). -/
def State.readTWN (s : State) (o : Nat) : Fields :=
  let t := s.twn
  match o with
  | 0x00 => [(0, 1, t.side)]
  | 0x08 => [(0, 4, t.role.code), (12, 1, bit t.hbLost), (13, 1, bit s.plansAgree), (14, 1, bit t.sideConflict), (15, 1, bit t.claim.isSome)
      , (22, 2, s.landingCode), (24, 4, t.causePorch), (28, 4, match t.twin with | some c => c.role | none => 15), (32, 8, t.opResult)
      , (40, 8, t.cause), (48, 16, s.syncLeft)]
  | 0x10 => [(0, 32, t.epoch), (32, 32, t.seen)]
  | 0x18 => [(0, 4, t.claimTrig), (8, 4, t.claimRes), (16, 8, s.driveCount), (32, 16, bitSet t.claimRefused), (48, 16, bitSet t.claimGranted)]
  | 0x20 => whole t.claimFrame
  | 0x28 =>
    match t.twin with
    | some c => [(0, 4, c.role), (8, 1, c.side), (16, 8, c.lock), (24, 8, stateFlags c), (32, 32, c.frame)]
    | none => [(0, 4, 15)]
  | 0x30 => whole t.takeover
  | 0x48 => [(0, 32, s.mov.lostAt), (32, 32, s.mov.heldAt)]
  | _ => []

/-- `STATE` of a seat (R404). -/
def SeatState.code : SeatState → Nat
  | .unbound => 0
  | .clearing => 1
  | .negotiate => 2
  | .ready => 3

/-- The page of seat i (R428): `STATE` reads 1 until the seat is past CLEARING, as at reset. -/
def State.readSEAT (s : State) (i cycle o : Nat) : Fields :=
  match o with
  | 0x00 =>
    let x := s.seat i
    [(0, 3, i), (8, 2, s.seatRole i), (16, 3, max 1 x.state.code), (32, 4, s.twn.role.code), (40, 1, s.twn.side)]
  | 0x10 => whole featOffer
  | 0x100 => whole (s.timeNow cycle / 2 ^ 48)
  | 0x110 => whole s.hrt.frame
  | 0x118 => whole (s.hrt.time / 2 ^ 48)
  | 0x120 => [(0, 16, s.hrt.time / 2 ^ 32)]
  | 0x180 => whole 0x0010000000000000
  | 0x188 => whole 0x0100000000500000
  | 0x190 => whole 0x0F00000000001000
  | _ => []

/-- The seat meets its IDE requirement (R423, R429): none of its own, or both streams secure. -/
def State.ideOk (s : State) (i : Nat) : Bool :=
  s.inForce (Reg.SYS_SEATs_CFG i) 8 1 = 0 || (s.port.ioSecure && s.port.memSecure)

/-- `SYS_` (R429). A bound seat shows whether it meets its IDE requirement. -/
def State.readSYS (s : State) (o : Nat) : Fields :=
  if 0x100 ≤ o ∧ o < 0x300 then
    let i := (o - 0x100) / 0x40
    match o % 0x40 with
    | 0x00 => if i = 0 then [(0, 2, 2)] else []
    | 0x08 => [(0, 3, (s.seat i).state.code), (16, 1, bit ((s.seat i).bound && s.ideOk i))]
    | _ => []
  else match o with
  | 0x00 => [(0, 32, 0x4096), (40, 8, 0xB0)]
  | 0x10 => [(0, 4, s.port.width), (4, 4, s.port.speed), (8, 1, bit s.port.linkUp), (9, 1, bit s.port.flit256)
      , (10, 1, bit (s.port.ioSecure && s.port.memSecure))]
  | _ => []

/-- A firmware slot's register (R459). -/
def FwSlot.fields (x : FwSlot) : Fields := [(0, 2, x.state), (24, 8, x.svn), (32, 32, x.bundleVer)]

/-- `UPD_` (R459). -/
def State.readUPD (s : State) (o : Nat) : Fields :=
  let u := s.upd
  let run := s.fwSlot u.runSlot
  if 0x80 ≤ o ∧ o < 0xC0 then whole (run.manifest / 2 ^ (64 * ((o - 0x80) / 8)))
  else match o with
  | 0x10 => [(0, 3, u.st.code), (32, 1, bit u.recovery), (33, 1, u.runSlot), (34, 2, u.selftest), (36, 4, u.lockSrc), (40, 8, u.fbCause)
      , (48, 8, u.loc), (56, 8, u.cmdResult)]
  | 0x30 => whole u.actTick
  | 0x38 => whole u.windowEnd
  | 0x40 => [(0, 8, s.flash.fusedSvn), (8, 8, run.svn)]
  | 0x48 => s.flash.slotA.fields
  | 0x50 => s.flash.slotB.fields
  | 0x58 => [(0, 16, bitSet u.switched), (16, 16, bitSet u.skipped), (32, 16, bitSet u.failed), (48, 16, bitSet u.loaded)]
  | 0x68 => [(0, 8, bitSet (u.keys.map (·.1)))]
  | 0x70 =>
    let live := ((s.liveCup u.runSlot).orElse fun _ => s.prevCup).getD 0
    [(0, 4, s.prevCup.getD 15), (4, 4, live), (16, 32, (s.cup live).gen), (48, 16, (s.cup live).schema)]
  | 0x78 => whole s.flash.serial
  | _ => []

/-- `ATT_` (R475). -/
def State.readATT (s : State) (o : Nat) : Fields :=
  let a := s.att
  match o with
  | 0x08 => [(0, 2, bit a.failed), (2, 1, bit a.reading.isSome), (32, 32, (a.used AtticRec.staged + 1023) / 1024)]
  | 0x48 => [(0, 48, match a.recs.head? with | some r => r.number | none => 0)]
  | 0x50 => [(0, 48, match a.recs.getLast? with | some r => r.number | none => 0)]
  | 0x58 => if s.boot.ready then [(0, 32, a.reserveFree / 1024), (32, 32, a.generalFree / 1024)] else []
  | 0x68 => [(0, 40, a.opsec)]
  | 0x70 => [(0, 32, a.cycles)]
  | _ => []

/-- `TRC_` (R223). -/
def State.readTRC (s : State) (o : Nat) : Fields :=
  if 0xC0 ≤ o ∧ o < 0x100 then
    let x := s.spIn ((o - 0xC0) / 8)
    [(0, 16, twos 16 x.x), (17, 1, bit x.stale), (32, 32, twos 32 x.count)]
  else if 0x1000 ≤ o ∧ o < 0x1800 then
    if o % 0x20 = 0x18 then
      let c := s.chan ((o - 0x1000) / 0x20)
      [(0, 2, c.state), (24, 8, c.armResult), (32, 32, min (2 ^ 32 - 1) c.dropped)]
    else []
  else
    let n (k : LoopClass) := (s.loops.filter fun p => p.2.clsNow = k).length
    match o with
    | 0x08 => [(0, 7, s.dpIn.length), (16, 16, s.eng.edits), (32, 16, n .acquire), (48, 16, n LoopClass.freeze)]
    | 0x10 => whole (bitSet s.dpIn)
    | 0x18 => [(0, 32, s.eng.passLast)]
    | _ => []

/-- `THM_DIEn` (R493). -/
def State.readDie (s : State) (d : Nat) : Fields :=
  let x := s.die d
  [(0, 2, if d < 4 ∧ s.til.dies.contains d then (if x.state = 1 then 1 else 2) else x.state), (16, 16, x.vddMv), (48, 16, twos 16 x.temp)]

/-- `THM_` (R493). -/
def State.readTHM (s : State) (o : Nat) : Fields :=
  if 0x18 ≤ o ∧ o < 0x40 then s.readDie ((o - 0x18) / 8)
  else match o with
  | 0x08 => [(0, 3, s.thm.level), (16, 1, bit s.thm.limited), (17, 1, bit s.thm.stepActive), (32, 4, s.hottest.1), (48, 16, twos 16 s.hottest.2)]
  | 0x10 => [(16, 16, s.thm.bulkW / 65536), (48, 16, s.thm.pkgW)]
  | 0x48 => [(0, 8, s.boot.stage), (32, 32, s.boot.ms)]
  | _ => []

/-- `PHASE` of an acquiring loop (R199). -/
def AcqPhase.code : AcqPhase → Nat
  | .park => 0
  | .wait => 1
  | .search => 2

/-- `LOOP_` of loop l (R222). -/
def State.readLOOP (s : State) (l o : Nat) : Fields :=
  let x := s.loop l
  let v := x.view
  match o with
  | 0x08 => [(0, 16, twos 16 (x.spWrite.getD x.setpoint))]
  | 0x10 => [(0, 3, x.clsNow.code), (7, 1, bit v.held), (8, 2, v.phase.code), (12, 4, v.reason), (16, 4, min 3 v.ovrRun),
      (24, 4, min 15 v.bad), (32, 8, x.result), (40, 8, v.warm), (48, 8, s.dpOf l)]
  | 0x18 => [(0, 16, twos 16 v.cmd), (16, 1, bit v.sent), (32, 32, v.cmdTick)]
  | 0x20 => [(0, 16, twos 16 v.theta), (16, 16, v.estFlags), (32, 32, v.estTick)]
  | 0x28 => [(0, 16, twos 16 v.resid), (16, 16, twos 16 v.predict), (48, 16, v.conf)]
  | 0x30 => [(0, 16, twos 16 v.integ), (32, 16, twos 16 v.rEff), (48, 16, twos 16 v.spRate)]
  | _ => []

/-- The fields of a register that show the state. -/
def State.readFields (s : State) (cycle a : Nat) : Fields :=
  let o := a % 0x10000
  if 0x1000000 ≤ a then s.readSEAT (a / 0x10000 % 0x100) cycle o
  else if 0x100000 ≤ a then s.readLOOP ((a - 0x100000) / 64) (o % 64)
  else match a / 0x10000 with
    | 0 => s.readSYS o
    | 1 => s.readHRT cycle o
    | 2 => s.readPLN o
    | 3 => s.readMOV o
    | 4 => s.readTIL o
    | 5 => s.readMEM o
    | 6 => s.readSHF (o / 64) (o % 64)
    | 7 => s.readPCH o
    | 8 => s.readLNH o
    | 9 => s.readTWN o
    | 11 => s.readUPD o
    | 12 => s.readATT o
    | 13 => s.readTRC o
    | 14 => s.readTHM o
    | _ => []

/-- What a 64-bit read of a register returns in core cycle `cycle` of the frame. -/
def State.readReg (s : State) (a : Nat) (cycle : Nat := 0) : Word := putFields (s.reg a) (s.readFields cycle a)

end Sys2Proof.Machine
end

