-- ==== Sys2Proof/Machine/Regs.lean ====
section
/-! DEFINITION. Register accesses (R5 to R9, R41, R497): reads, with what they clear and latch, and writes, with the operations that
their `OP` fields ask for. -/
namespace Sys2Proof.Machine

/-- The address in the register map of an offset in a seat's BAR0, none outside it (R494, R496). -/
def regAddr (seat off : Nat) : Option Nat :=
  if seat = 0 then some (if 0xA0000 ≤ off ∧ off < 0xB0000 then 0x1000000 + (off - 0xA0000) else off)
  else if off < 0x10000 then some (0x1000000 + 0x10000 * seat + off) else none

/-- The offset is a multiple of the width of the access (R8). -/
def aligned (w : Width) (off : Nat) : Bool :=
  match w with
  | .full => decide (off % 8 = 0)
  | .half => decide (off % 4 = 0)

/-- The register that an access reaches begins at a multiple of 8. -/
def regOf (a : Nat) : Nat := a / 8 * 8

/-- Low bit and number of the bits of a register that an access at an address covers. -/
def lane (w : Width) (a : Nat) : Nat × Nat :=
  match w with
  | .full => (0, 64)
  | .half => (if a % 8 = 0 then 0 else 32, 32)

/-- The bits of a register that an access covers. -/
def laneMask (w : Width) (a : Nat) : Nat := maskBits (lane w a).1 (lane w a).2

/-- What an access returns of a register's word. -/
def laneRead (w : Width) (a : Nat) (x : Word) : Word := BitVec.ofNat 64 (bitsOf x (lane w a).1 (lane w a).2)

/-- The written value at its place in the register. -/
def laneWrite (w : Width) (a : Nat) (v : Word) : Word := setBits 0 (lane w a).1 (lane w a).2 v.toNat

/-- Bitwise operations with a mask. -/
def keepBits (x : Word) (m : Nat) : Word := x &&& BitVec.ofNat 64 m
def dropBits (x : Word) (m : Nat) : Word := x &&& ~~~(BitVec.ofNat 64 m)

-- Reads -------------------------------------------------------------------------------------------------------------------------------

/-- Return the part of a register that an access covers. -/
def State.returnReg (s : State) (a : Nat) (w : Width) (cycle : Nat) : State :=
  { s with readData := laneRead w a (s.readReg (regOf a) cycle) }

/-- Registers of device time, each with the register that latches its fraction (R41, R428). -/
def fracOf (a : Nat) : Option Nat :=
  if a = Reg.HRT_TIME_NS then some Reg.HRT_TIME_FRAC
  else if 0x1000000 ≤ a ∧ a % 0x10000 = 0x100 then some (a + 8) else none

/-- A read of device time in a core cycle of the frame: a 64-bit read latches the fraction of the same instant (R41). -/
def State.readTime (s : State) (a : Nat) (w : Width) (cycle : Nat) : State :=
  let s := s.returnReg a w cycle
  match fracOf (regOf a), w with
  | some f, .full => s.setReg f (BitVec.ofNat 64 (s.timeNow cycle / 2 ^ 32 % 2 ^ 16))
  | _, _ => s

/-- The RC fields that an access covers return to their reset value (R5). -/
def State.clearRc (s : State) (a : Nat) (w : Width) : State :=
  let r := regOf a
  let m := (BitVec.ofNat 64 (regRow r).rc &&& BitVec.ofNat 64 (laneMask w a)).toNat
  s.setReg r (dropBits (s.reg r) m ||| keepBits (regReset r) m)

/-- A read that covers `STATE` of `TIL_JOB_STATUS` reads the end of the selected job (R121). -/
def State.readEnd (s : State) (a : Nat) (w : Width) : State :=
  let j := s.field Reg.TIL_JOB_SEL 0 8
  if regOf a = Reg.TIL_JOB_STATUS ∧ laneMask w a / 2 ^ 52 % 2 = 1 ∧ (s.job j).state = .ended then
    s.updJob j fun x => { x with endRead := true }
  else s

/-- A read of a register in core cycle `cycle` of the frame, with the effects that a read of it has (R5, R41, R121). -/
def State.readAt (s : State) (seat o : Nat) (w : Width) (cycle : Nat) : Host.Outcome State Fault Refusal :=
  if !aligned w o then .fault .unaligned
  else match regAddr seat o with
    | none => .next { s with readData := 0 }
    | some a =>
      let i := BitVec.ofNat 3 seat
      if 0x200000 ≤ a ∧ a < 0x400000 then execTableWindowAccess (BitVec.ofNat 21 (a - 0x200000)) w none s
      else if a / 0x10000 = 6 ∧ regOf a % 64 = 0x20 then execShelfPop i (BitVec.ofNat 10 (a % 0x10000 / 64)) w .good s
      else if 0x1000000 ≤ a ∧ 0x1000 ≤ a % 0x10000 ∧ a % 0x10000 < 0x3000 then
        execShelfPop i (BitVec.ofNat 10 ((a % 0x10000 - 0x1000) / 8)) w .good s
      else .next (((s.readTime a w cycle).clearRc a w).readEnd a w)

/-- TIME_NS_READ (R41): `cycle` is the core cycle of the frame in which the read takes place; another register at the offset is read as
by RC_READ. -/
def execTimeNsRead (seat : BitVec 3) (offset : BitVec 22) (w : Width) (cycle : BitVec 21) (s : State) :
    Host.Outcome State Fault Refusal := s.readAt seat.toNat offset.toNat w cycle.toNat

/-- RC_READ (R5): a read of any register, with the effects that a read of it has. -/
def execRcRead (seat : BitVec 3) (offset : BitVec 22) (w : Width) (s : State) : Host.Outcome State Fault Refusal :=
  s.readAt seat.toNat offset.toNat w 0

-- Writes ------------------------------------------------------------------------------------------------------------------------------

/-- RW bits take the written value and W1C bits written with 1 clear; reserved and RO bits stay (R5, R7). -/
def State.storeReg (s : State) (a : Nat) (m : Nat) (x : Word) : State :=
  let r := regRow a
  let rw := (BitVec.ofNat 64 r.rw &&& BitVec.ofNat 64 m).toNat
  let old := dropBits (s.reg a) (keepBits x r.w1c).toNat
  s.setReg a (dropBits old rw ||| keepBits x rw)

/-- The value as a field's own rules let it be stored: seat 0 keeps its role, and no role of 2 or 3 is written (R405, R429). -/
def State.roleWrite (s : State) (a : Nat) (x : Word) : Word :=
  if (a - 0x100) / 64 = 0 ∨ 2 ≤ bitsOf x 0 2 then setBits x 0 2 (s.field a 0 2) else x

/-- `TWN_CTL.SIDE` is staged until a commit; locked, it keeps its value and the writing seat is told (R5, R9). -/
def State.sideWrite (s : State) (seat v : Nat) : State :=
  if s.plan.pending then s.seatEvt seat 2
  else { s with staged := if v = s.twn.side then none else some v }

/-- Operations of `PLN_CMD` and `PLN_TBL_CTL` (R90). -/
def plnWrite (a : Nat) (x : Word) (s : State) : Host.Outcome State Fault Refusal :=
  if a = Reg.PLN_CMD then
    match bitsOf x 0 4 with
    | 1 => execPlanValidate s
    | 2 => execPlanCommit (bitAt x 8) s
    | 3 => execPlanCancel s
    | _ => .next s
  else if a = Reg.PLN_TBL_CTL then
    match bitsOf x 0 4 with
    | 1 => execTableClaim (bitAt x 16) s
    | 2 => execTableReady s
    | 3 => execTableRelease s
    | 4 => execTableSwap s
    | 5 => execTableRevert s
    | _ => .next s
  else .next s

/-- Operations of `MOV_CMD` (R254): a write keeps `ENTRY` for the operation. -/
def movWrite (a m : Nat) (x : Word) (s : State) : Host.Outcome State Fault Refusal :=
  if a = Reg.MOV_CMD then
    let s := if m / 2 ^ 32 = 0 then s else s.setField a 32 12 (bitsOf x 32 12)
    match bitsOf x 0 4 with
    | 1 => execAbort .register s
    | 2 => execRearm (BitVec.ofNat 12 (s.field a 32 12)) s
    | 3 => execRearmAll s
    | _ => .next s
  else .next s

/-- Operations of `TIL_JOB_CTL` on the job that is selected when they are taken up (R130, R497). -/
def tilWrite (a : Nat) (x : Word) (s : State) : Host.Outcome State Fault Refusal :=
  if a = Reg.TIL_JOB_CTL then
    let j := BitVec.ofNat 8 (s.field Reg.TIL_JOB_SEL 0 8)
    match bitsOf x 0 4 with
    | 1 => execJobPark .register j s
    | 2 => execJobResume .register j s
    | 3 => execJobStop .register j s
    | _ => .next s
  else .next s

/-- Operations of a shelf (R307). -/
def shfWrite (a : Nat) (x : Word) (s : State) : Host.Outcome State Fault Refusal :=
  let n := BitVec.ofNat 10 (a % 0x10000 / 64)
  if a % 64 = 0x38 then
    match bitsOf x 8 4 with
    | 1 => execFlush n s
    | 2 => execEmpty n s
    | _ => .next s
  else .next s

/-- Operations of a porch (R350). -/
def pchWrite (a : Nat) (x : Word) (s : State) : Host.Outcome State Fault Refusal :=
  let p := (a - 0x71000) / 128
  if 0x71000 ≤ a ∧ p < 16 ∧ a = Reg.PCH_Pp_CTL p then
    match bitsOf x 0 4 with
    | 1 => execRediscover (BitVec.ofNat 4 p) s
    | 2 => execHeadReset (BitVec.ofNat 4 p) s
    | 3 => execEchoNow (BitVec.ofNat 4 p) s
    | _ => .next s
  else .next s

/-- Operations of a porch's lanes, and the baseline of a lane (R364, R371, R372). -/
def lnhWrite (a m : Nat) (x : Word) (s : State) : Host.Outcome State Fault Refusal :=
  if 0x82000 ≤ a then
    let p := (a - 0x82000) / 1024
    let l := a % 1024 / 64
    if h : l < 9 then
      if p < 16 ∧ a = Reg.LNH_Pp_Ll_FADE p l ∧ m / 2 ^ 32 ≠ 0 then
        execBaselineWrite (BitVec.ofNat 4 p) ⟨l, h⟩ (BitVec.ofNat 16 (bitsOf x 48 16)) s
      else .next s
    else .next s
  else
    let p := (a - 0x81000) / 64
    let lane := BitVec.ofNat 4 (bitsOf x 12 4)
    if 0x81000 ≤ a ∧ p < 16 ∧ a = Reg.LNH_Pp_CTL p then
      match bitsOf x 8 4 with
      | 1 => execCalNow (BitVec.ofNat 4 p) lane s
      | 2 => execRestore (BitVec.ofNat 4 p) lane s
      | 3 => execLaneReturn (BitVec.ofNat 4 p) lane s
      | 4 => execCalAbort (BitVec.ofNat 4 p) s
      | _ => .next s
    else .next s

/-- `TWN_CTL` (R401). -/
def twnWrite (seat a m : Nat) (x : Word) (s : State) : Host.Outcome State Fault Refusal :=
  if a = Reg.TWN_CTL ∧ m % 2 = 1 then
    let s := s.sideWrite seat (bitsOf x 0 1)
    if bitsOf x 8 4 = 1 then execRejoin s else .next s
  else .next s

/-- Operations of `UPD_CMD` (R459). -/
def updWrite (a : Nat) (x : Word) (s : State) : Host.Outcome State Fault Refusal :=
  if a = Reg.UPD_CMD then
    match bitsOf x 0 4 with
    | 1 => execStage (bitAt x 16) s
    | 2 => execActivate (bitAt x 12) s
    | 3 => execUpdateCancel s
    | 4 => execConfirm s
    | 5 => execFallback s
    | 6 => execEnrollKey s
    | 7 => execRevokeKey s
    | _ => .next s
  else .next s

/-- Operations of `ATT_CMD` (R475). -/
def attWrite (a : Nat) (x : Word) (s : State) : Host.Outcome State Fault Refusal :=
  if a = Reg.ATT_CMD then
    match bitsOf x 0 4 with
    | 1 => execAtticRead s
    | 2 => execAtticCancel s
    | _ => .next s
  else .next s

/-- Operations of the loop engine and the trace channels (R217, R220, R221, R223). -/
def trcWrite (a : Nat) (x : Word) (s : State) : Host.Outcome State Fault Refusal :=
  if a = Reg.TRC_LE_CMD then
    if bitsOf x 0 4 = 1 then execReleaseAll (BitVec.ofNat 4 (bitsOf x 16 4)) s else .next s
  else if a = Reg.TRC_LE_DCMD then
    match bitsOf x 0 4 with
    | 1 => execDescLoad s
    | 2 => execDescWrite s
    | 3 => execDescCancel s
    | _ => .next s
  else if a = Reg.TRC_SP_CTL then
    if bitsOf x 0 8 = 0 then .next s else execClrCount (BitVec.ofNat 8 (bitsOf x 0 8)) s
  else
    let c := (a - 0xD1000) / 32
    if 0xD1000 ≤ a ∧ c < 64 ∧ a = Reg.TRC_CHc_CFG c then
      .next (s.updChan c fun y => { y with armNow := y.armNow || bitAt x 48, trigNow := y.trigNow || bitAt x 49 })
    else .next s

/-- Operations and the set-point of a loop (R196, R222). -/
def loopWrite (a m : Nat) (x : Word) (s : State) : Host.Outcome State Fault Refusal :=
  let l := BitVec.ofNat 14 ((a - 0x100000) / 64)
  if a % 64 = 0 then
    match bitsOf x 0 4 with
    | 1 => execLoopCtlStart l s
    | 2 => execLoopCtlOff l s
    | 3 => execLoopCtlFreeze l s
    | 4 => execLoopCtlRelease l s
    | _ => .next s
  else if a % 64 = 8 ∧ m % 2 = 1 then execSetpointWrite l (BitVec.ofNat 16 (bitsOf x 0 16)) s
  else .next s

/-- Operations of a seat page (R422, R428). -/
def seatWrite (seat a : Nat) (x : Word) (s : State) : Host.Outcome State Fault Refusal :=
  if a % 0x10000 = 8 ∧ bitsOf x 0 4 = 1 then execFeatureCommit (BitVec.ofNat 3 seat) s else .next s

/-- The operation that a write asks for, by block: `m` marks the bits written, `x` holds their values. -/
def opWrite (seat a m : Nat) (x : Word) (s : State) : Host.Outcome State Fault Refusal :=
  if 0x1000000 ≤ a then seatWrite seat a x s
  else if 0x100000 ≤ a then loopWrite a m x s
  else match a / 0x10000 with
    | 1 => if a = Reg.HRT_CTL ∧ bitAt x 4 then execEpochArm s else .next s
    | 2 => plnWrite a x s
    | 3 => movWrite a m x s
    | 4 => tilWrite a x s
    | 5 => if a = Reg.MEM_CELLAR_CTL ∧ bitAt x 1 then execCellarApply s else .next s
    | 6 => shfWrite a x s
    | 7 => pchWrite a x s
    | 8 => lnhWrite a m x s
    | 9 => twnWrite seat a m x s
    | 11 => updWrite a x s
    | 12 => attWrite a x s
    | 13 => trcWrite a x s
    | 14 => if a = Reg.THM_FAULT then execFaultClear (BitVec.ofNat 13 x.toNat) s else .next s
    | _ => .next s

/-- A write of the bits `m` of the register at `a` with the values `x` (R5, R7): its stored bits, then its operation. -/
def State.writeReg (s : State) (seat a m : Nat) (x : Word) : Host.Outcome State Fault Refusal :=
  if 0x100 ≤ a ∧ a < 0x300 ∧ a % 64 = 0 then .next (s.storeReg a m (if m % 2 = 1 then s.roleWrite a x else x))
  else if 0x1000000 ≤ a ∧ 0x30 ≤ a % 0x10000 ∧ a % 0x10000 < 0x50 ∧ (s.seat seat).state = .ready then .next s
  else if a = Reg.THM_FAULT then opWrite seat a m x s
  else opWrite seat a m x (s.storeReg a m x)

/-- REGISTER_WRITE (R5 to R9, R494 to R497). -/
def execRegisterWrite (seat : BitVec 3) (offset : BitVec 22) (w : Width) (v : Word) (s : State) : Host.Outcome State Fault Refusal :=
  let o := offset.toNat
  if !aligned w o then .fault .unaligned
  else match regAddr seat.toNat o with
    | none => .next s
    | some a =>
      if 0x200000 ≤ a ∧ a < 0x400000 then execTableWindowAccess (BitVec.ofNat 21 (a - 0x200000)) w (some v) s
      else s.writeReg seat.toNat (regOf a) (laneMask w a) (laneWrite w a v)

end Sys2Proof.Machine
end

