-- ==== Sys2Proof/Machine/Tick.lean ====
section
/-! DEFINITION. The tick (R2, R15, R27): the frame that ends, everything that falls at the tick in the order of the chapters, and what
leaves or is written at the start of the new frame. -/
namespace Sys2Proof.Machine

-- The frame that ends ---------------------------------------------------------------------------------------------------------------

/-- What the frame that ends still owes: its emit deadline, its trace samples, and its patches (R28, R166, R220). -/
def State.endFrame (s : State) : State :=
  if s.boot.stopped then s
  else
    let s := if s.hrt.emitted then s else s.emitDeadline
    s.traceFrame.silentImagers.patchTick

/-- What the frame that ends counted: the time of its contexts, corrected scratch words and loop contexts, and flits sent again (R97,
R100, R126, R212). -/
def State.countFrame (s : State) (x : TickIn) : State :=
  (((s.countState x.stateFixed).countRan x.ran).count Reg.TIL_SCRATCH_ECC 32 32 x.scratchFixed).count Reg.TIL_STAIR 32 32 x.retries

/-- The cells of the frame that ends have left. -/
def State.clearSent (s : State) : State :=
  { s with porches := tmap (fun _ => {}) (fun _ q => { q with sent := [] }) s.porches }

-- What falls at the tick ----------------------------------------------------------------------------------------------------------------

/-- The configuration at the tick (R5): register fields written before it are in force from it. -/
def State.configTick (s : State) : State := { s with live := s.regs }

/-- The Hearth at the tick, in the role of the new frame (R14, R39, R45, R48). -/
def State.hearthTick (s : State) : State := s.lockTick.takeArm

/-- Every porch, lane 0 to 15. -/
def porchNumbers : List Nat := List.range 16

/-- Links, roles and losses: they decide which loops freeze, so they come first (R342, R374, R525). -/
def State.linkTick (s : State) : State :=
  let s := (s.each porchNumbers fun p s => s.porchTick p).loseDatapaths
  s.roleTick.switchVariant.selectPlacement.freezeLost

/-- Plans, descriptors and tables at the tick (R66, R73 to R77, R84 to R86, R217). -/
def State.planTick (s : State) : State :=
  s.finishValidation.preloadTick.endBridge.commitEffect.takePlan.descTakeEffect.takeDesc.swapTakeEffect.tableTick

/-- Moves, loop classes, set-points and inputs (R198, R228, R525). -/
def State.loopTick (s : State) (x : TickIn) : State :=
  let s := if s.hrt.stepped then s.retimeMoves else s
  let s := s.moveLegs.lowChanges.movePaths.tapTick.takeSetpoints
  (s.latchInputs x.analog).takeTraceArms

/-- Tiles, memory, jobs, shelves and lanes. -/
def State.workTick (s : State) (x : TickIn) : State :=
  (((s.tileTick.memTick s.hrt.cycles).jobTick).shelfTick).laneTick x.regions x.fades

/-- The length of the loop pass of the frame that ends (R223). -/
def State.passTick (s : State) (pass : Nat) : State :=
  ({ s with eng := { s.eng with passLast := min (2 ^ 32 - 1) pass } }).maxField Reg.TRC_LE_PASS 32 32 pass

/-- All that falls at the tick; a unit that the trip has stopped runs its Hearth, its port, the governor and its updates only
(R486). -/
def State.atTick (s : State) (x : TickIn) (from_ : Nat) : State :=
  let on := !s.boot.stopped
  let s := s.configTick
  let s := (if on then s.linkTick else s).hearthTick
  let s := if on then s.offAndFreeze else s
  let s := ((s.resetsTick).thermTick x from_).updTick s.hrt.cycles
  let s := s.takeOrders
  let s := if on then ((s.planTick.freezeRest.loopTick x).workTick x).passTick x.pass else s
  s.featTick.powerUpTick

-- The new frame ---------------------------------------------------------------------------------------------------------------------------

/-- Cells that were bound for the new frame are the first it sends (R25). -/
def State.startCells (s : State) : State :=
  { s with porches := tmap (fun _ => {}) (fun _ q =>
      { q with sent := q.next.foldl (fun l c => enqueue c.1 c.2 l) [], next := [] }) s.porches }

/-- The TIME cell of a porch in the new frame (R50, R331); its first bit leaves between cycles 1,200 and 2,400. -/
def State.timeCell (s : State) (p : Nat) : TimeCell :=
  let cycle := 1200 + Config.freeNat s.free % 1201
  { frame := s.hrt.frame, tickTime := s.tickTime, txTime := s.timeAfter cycle / 2 ^ 32, periodCyc := s.hrt.cfg.period
    periodDt := (s.timeAfter s.hrt.cfg.period - s.hrt.time) / 2 ^ 32, delayPs := (s.porch p).delayPs, epoch := s.twn.epoch
    stepTick := match s.hrt.epochStep with | some (t, _) => t | none => 0
    stepTime := match s.hrt.epochStep with | some (_, v) => v | none => 0
    side := s.twn.side, stepPending := s.hrt.epochStep.isSome
    notLocked := decide (s.tickinMode = 2) && decide (s.hrt.lock ≠ .locked) }

/-- The porch has a head that takes TIME cells, or it is the Landing (R50, R340). -/
def State.timePorch (s : State) (p : Nat) : Bool :=
  s.passes p && (decide (s.landing = some p) || decide ((s.porch p).state = .ready) || (s.porch p).identOk)

/-- TIME cells of the time reference, and the STATE cell of the frame (R50, R376). -/
def State.frameCells (s : State) : State :=
  let s := if s.commands then
      s.each (porchNumbers.filter s.timePorch) fun p s => (s.send p prioFrame (.time (s.timeCell p))).freeTick
    else s
  match s.landing with
  | some p => if s.linked p then s.send p prioFrame (.state (s.stateCell 0)) else s
  | none => s

/-- Cells that leave at the start of the new frame. -/
def State.newCells (s : State) : State :=
  let s := s.startCells
  let s := s.each porchNumbers fun p s => s.pumpLane p
  let s := s.each porchNumbers fun p s => s.porchCells p
  s.frameCells

/-- The flags of the frame begin anew (R31, R88, R221). -/
def State.freshFrame (s : State) : State :=
  let loops := tmap (fun _ => {}) (fun _ x => x.newFrame) s.loops
  let s := { s with
    loops := loops
    hrt := { s.hrt with emitted := false, ovrNow := [], guardNow := s.hrt.guardNext, guardNext := false
                        ovrFrames := s.hrt.ovrFrames.filter fun f => decide (s.hrt.ticks ≤ f + 1024) }
    eng := { s.eng with
      inputs := tmap (fun _ => {}) (fun _ i => { i with nowStale := false }) s.eng.inputs
      channels := tmap (fun _ => {}) (fun _ c => { c with fired := false }) s.eng.channels } }
  match s.plan.excuseTo with
  | some t => if s.hrt.frame ≤ t then s.excuseLoops else { s with plan := { s.plan with excuseTo := none } }
  | none => s

/-- The new frame (R15): its cells, the orders of the Halls, the Attic, the notices and the pages (R252, R410 to R420, R464). -/
def State.beginFrame (s : State) : State :=
  let on := !s.boot.stopped
  let s := s.newFrame.pinTick
  let s := if on then s.newCells.finishOrders else s.startCells
  s.atticTick.flushNotices.writePages.freshFrame

/-- In recovery an activation takes effect by a whole-device reset, from the bundle that is staged (R438, R476). -/
def State.recoverTick (s : State) : State :=
  if s.upd.recovery && decide (s.upd.st = .scheduled) && decide (s.upd.actTick ≤ s.hrt.frame) then
    ({ s with upd := { s.upd with st := .staged } }).wholeReset.startBoot
  else s

/-- All that comes before the tick: the frame that ends, what it counted, and the orders that are carried out (R119, R245). -/
def State.closeFrame (s : State) (x : TickIn) : State :=
  let s := (s.endFrame.clearSent).countFrame x
  if s.boot.stopped then s else s.carryOrders

/-- TICK (R2): nothing before tick 0. -/
def execTick (x : TickIn) (s : State) : Host.Outcome State Fault Refusal :=
  if !s.hrt.running then .next s
  else .next ((((s.closeFrame x).keepTime.stepEpoch.advance x.steer).stopTick.atTick x s.hrt.cycles).beginFrame.recoverTick)

/-- The Hearth at tick 0 (R15): frame 0, device time 0. -/
def State.hearthStart (s : State) : State :=
  { s with hrt := { s.hrt with running := true, frame := 0, time := 0, phase := 0, cycles := 0, adopt := some (0, 0), timebaseOk := true } }

/-- TICK_ZERO (R15): the first tick once `POR_N` is deasserted and `TIMEBASE_IN` is valid. -/
def execTickZero (s : State) : Host.Outcome State Fault Refusal :=
  if s.boot.started && !s.hrt.running then .next (s.hearthStart.atTick {} 0).beginFrame.recoverTick else .next s

end Sys2Proof.Machine
end

