-- ==== Sys2Proof/Machine/Dispatch.lean ====
section
/-! DEFINITION. The dispatch: one arm per command, each a direct call of its meaning. -/
namespace Sys2Proof.Machine

/-- The effect of a command on the state, by the meaning of its constructor. -/
def exec (i : Instr) (s : State) : Host.Outcome State Fault Refusal :=
  match i with
  | .porAssert => Sys2Proof.Machine.execPorAssert s
  | .porDeassert => Sys2Proof.Machine.execPorDeassert s
  | .configurationReady ms badDevs badHops => Sys2Proof.Machine.execConfigurationReady ms badDevs badHops s
  | .timebaseAbsent => Sys2Proof.Machine.execTimebaseAbsent s
  | .tickZero => Sys2Proof.Machine.execTickZero s
  | .tick x => Sys2Proof.Machine.execTick x s
  | .ppsSecond => Sys2Proof.Machine.execPpsSecond s
  | .timebaseLoss => Sys2Proof.Machine.execTimebaseLoss s
  | .timebaseReturn => Sys2Proof.Machine.execTimebaseReturn s
  | .tickInEdge offset => Sys2Proof.Machine.execTickInEdge offset s
  | .timeCellRx c offset => Sys2Proof.Machine.execTimeCellRx c offset s
  | .alignmentStep cycles => Sys2Proof.Machine.execAlignmentStep cycles s
  | .lockGained => Sys2Proof.Machine.execLockGained s
  | .referenceLost => Sys2Proof.Machine.execReferenceLost s
  | .epochArm => Sys2Proof.Machine.execEpochArm s
  | .epochStep => Sys2Proof.Machine.execEpochStep s
  | .guardSlotStart missed => Sys2Proof.Machine.execGuardSlotStart missed s
  | .yieldPoint tile => Sys2Proof.Machine.execYieldPoint tile s
  | .forcedPreemption tile pc => Sys2Proof.Machine.execForcedPreemption tile pc s
  | .contextSwitch tile job => Sys2Proof.Machine.execContextSwitch tile job s
  | .emitDeadline => Sys2Proof.Machine.execEmitDeadline s
  | .overrunFreeze loop => Sys2Proof.Machine.execOverrunFreeze loop s
  | .lateFillSnapshot => Sys2Proof.Machine.execLateFillSnapshot s
  | .cellClose porch cycle leaves => Sys2Proof.Machine.execCellClose porch cycle leaves s
  | .halt lowNs => Sys2Proof.Machine.execHalt lowNs s
  | .lossOfLight cage => Sys2Proof.Machine.execLossOfLight cage s
  | .supervisorFatal => Sys2Proof.Machine.execSupervisorFatal s
  | .guardMismatch => Sys2Proof.Machine.execGuardMismatch s
  | .planValidate => Sys2Proof.Machine.execPlanValidate s
  | .validationEnd fig => Sys2Proof.Machine.execValidationEnd fig s
  | .planCommit force => Sys2Proof.Machine.execPlanCommit force s
  | .planCancel => Sys2Proof.Machine.execPlanCancel s
  | .commitTakeEffect => Sys2Proof.Machine.execCommitTakeEffect s
  | .bridgeEnd => Sys2Proof.Machine.execBridgeEnd s
  | .tableClaim copyActive => Sys2Proof.Machine.execTableClaim copyActive s
  | .copyActiveDone table => Sys2Proof.Machine.execCopyActiveDone table s
  | .tableReady => Sys2Proof.Machine.execTableReady s
  | .tableRelease => Sys2Proof.Machine.execTableRelease s
  | .tableSwap => Sys2Proof.Machine.execTableSwap s
  | .tableRevert => Sys2Proof.Machine.execTableRevert s
  | .swapTakeEffect => Sys2Proof.Machine.execSwapTakeEffect s
  | .tableWindowAccess offset w data => Sys2Proof.Machine.execTableWindowAccess offset w data s
  | .placementSelect => Sys2Proof.Machine.execPlacementSelect s
  | .variantSwitch => Sys2Proof.Machine.execVariantSwitch s
  | .copyIssue tile queue c => Sys2Proof.Machine.execCopyIssue tile queue c s
  | .copyFence tile queues => Sys2Proof.Machine.execCopyFence tile queues s
  | .beatComplete tile queue beat out => Sys2Proof.Machine.execBeatComplete tile queue beat out s
  | .cellarTimeout tile queue beat => Sys2Proof.Machine.execCellarTimeout tile queue beat s
  | .retireSwitch page => Sys2Proof.Machine.execRetireSwitch page s
  | .faultRetry job completes => Sys2Proof.Machine.execFaultRetry job completes s
  | .faultLimit job => Sys2Proof.Machine.execFaultLimit job s
  | .scratchUe tile page => Sys2Proof.Machine.execScratchUe tile page s
  | .partitionViolation tile frameCritical => Sys2Proof.Machine.execPartitionViolation tile frameCritical s
  | .hopDown hop => Sys2Proof.Machine.execHopDown hop s
  | .jobStart seat slot => Sys2Proof.Machine.execJobStart seat slot s
  | .jobAdmitted job => Sys2Proof.Machine.execJobAdmitted job s
  | .jobPark src job => Sys2Proof.Machine.execJobPark src job s
  | .jobResume src job => Sys2Proof.Machine.execJobResume src job s
  | .jobStop src job => Sys2Proof.Machine.execJobStop src job s
  | .jobExit job code => Sys2Proof.Machine.execJobExit job code s
  | .patchCell porch expo mirror bit pixels => Sys2Proof.Machine.execPatchCell porch expo mirror bit pixels s
  | .tapCell porch tick first readings => Sys2Proof.Machine.execTapCell porch tick first readings s
  | .cutoff mirrors checks => Sys2Proof.Machine.execCutoff mirrors checks s
  | .estimateLands outs late => Sys2Proof.Machine.execEstimateLands outs late s
  | .adaptCandidate job samples => Sys2Proof.Machine.execAdaptCandidate job samples s
  | .adaptDone committed candidate => Sys2Proof.Machine.execAdaptDone committed candidate s
  | .rebuildRoundEnd job averages => Sys2Proof.Machine.execRebuildRoundEnd job averages s
  | .loopCtlStart loop => Sys2Proof.Machine.execLoopCtlStart loop s
  | .loopCtlOff loop => Sys2Proof.Machine.execLoopCtlOff loop s
  | .loopCtlFreeze loop => Sys2Proof.Machine.execLoopCtlFreeze loop s
  | .loopCtlRelease loop => Sys2Proof.Machine.execLoopCtlRelease loop s
  | .releaseAll maxReason => Sys2Proof.Machine.execReleaseAll maxReason s
  | .setpointWrite loop v => Sys2Proof.Machine.execSetpointWrite loop v s
  | .handOver loop => Sys2Proof.Machine.execHandOver loop s
  | .acquisitionComplete loop => Sys2Proof.Machine.execAcquisitionComplete loop s
  | .search loop => Sys2Proof.Machine.execSearch loop s
  | .acqTimeout loop => Sys2Proof.Machine.execAcqTimeout loop s
  | .warmUpEnd loop => Sys2Proof.Machine.execWarmUpEnd loop s
  | .implausible loop => Sys2Proof.Machine.execImplausible loop s
  | .stateEcc loop => Sys2Proof.Machine.execStateEcc loop s
  | .datapathMismatch dp => Sys2Proof.Machine.execDatapathMismatch dp s
  | .descLoad => Sys2Proof.Machine.execDescLoad s
  | .descWrite => Sys2Proof.Machine.execDescWrite s
  | .descCancel => Sys2Proof.Machine.execDescCancel s
  | .descTakeEffect => Sys2Proof.Machine.execDescTakeEffect s
  | .traceArm channel => Sys2Proof.Machine.execTraceArm channel s
  | .trigNow channel => Sys2Proof.Machine.execTrigNow channel s
  | .traceWrite channel count => Sys2Proof.Machine.execTraceWrite channel count s
  | .stepEdge input up => Sys2Proof.Machine.execStepEdge input up s
  | .pwmPeriod input high period => Sys2Proof.Machine.execPwmPeriod input high period s
  | .pwmStale input => Sys2Proof.Machine.execPwmStale input s
  | .clrCount mask => Sys2Proof.Machine.execClrCount mask s
  | .move seat slot => Sys2Proof.Machine.execMove seat slot s
  | .abort src => Sys2Proof.Machine.execAbort src s
  | .rearm entry => Sys2Proof.Machine.execRearm entry s
  | .rearmAll => Sys2Proof.Machine.execRearmAll s
  | .planningStart => Sys2Proof.Machine.execPlanningStart s
  | .planningDone routes loose failed => Sys2Proof.Machine.execPlanningDone routes loose failed s
  | .moveStart id => Sys2Proof.Machine.execMoveStart id s
  | .legEnd id mirror => Sys2Proof.Machine.execLegEnd id mirror s
  | .pathReady port => Sys2Proof.Machine.execPathReady port s
  | .settleTimeout port => Sys2Proof.Machine.execSettleTimeout port s
  | .deadlineMissed id => Sys2Proof.Machine.execDeadlineMissed id s
  | .pathLoss port => Sys2Proof.Machine.execPathLoss port s
  | .reflexTrip entry => Sys2Proof.Machine.execReflexTrip entry s
  | .schedCell p => Sys2Proof.Machine.execSchedCell p s
  | .gddr7DeviceLost dev => Sys2Proof.Machine.execGddr7DeviceLost dev s
  | .cellarApply => Sys2Proof.Machine.execCellarApply s
  | .shelfWrite shelf op => Sys2Proof.Machine.execShelfWrite shelf op s
  | .shelfSwap shelf => Sys2Proof.Machine.execShelfSwap shelf s
  | .shelfPop seat shelf w check => Sys2Proof.Machine.execShelfPop seat shelf w check s
  | .staleTimer shelf => Sys2Proof.Machine.execStaleTimer shelf s
  | .flush shelf => Sys2Proof.Machine.execFlush shelf s
  | .empty shelf => Sys2Proof.Machine.execEmpty shelf s
  | .codewordLock porch lane => Sys2Proof.Machine.execCodewordLock porch lane s
  | .lockLoss porch lane => Sys2Proof.Machine.execLockLoss porch lane s
  | .lseqGap porch lseq => Sys2Proof.Machine.execLseqGap porch lseq s
  | .commandCell c => Sys2Proof.Machine.execCommandCell c s
  | .ackCell porch a => Sys2Proof.Machine.execAckCell porch a s
  | .faultCell porch f => Sys2Proof.Machine.execFaultCell porch f s
  | .grantCell porch g => Sys2Proof.Machine.execGrantCell porch g s
  | .withdrawCell w => Sys2Proof.Machine.execWithdrawCell w s
  | .stateCell c => Sys2Proof.Machine.execStateCell c s
  | .healthCell porch h => Sys2Proof.Machine.execHealthCell porch h s
  | .echoReply porch id arrival turnPs => Sys2Proof.Machine.execEchoReply porch id arrival turnPs s
  | .laneCell porch op lane result lseq => Sys2Proof.Machine.execLaneCell porch op lane result lseq s
  | .resyncCell p => Sys2Proof.Machine.execResyncCell p s
  | .ident porch m => Sys2Proof.Machine.execIdent porch m s
  | .windows porch origins => Sys2Proof.Machine.execWindows porch origins s
  | .holding porch entries => Sys2Proof.Machine.execHolding porch entries s
  | .scale porch nw => Sys2Proof.Machine.execScale porch nw s
  | .configAck porch result effective => Sys2Proof.Machine.execConfigAck porch result effective s
  | .imgResult porch result => Sys2Proof.Machine.execImgResult porch result s
  | .porchLost porch => Sys2Proof.Machine.execPorchLost porch s
  | .rediscover porch => Sys2Proof.Machine.execRediscover porch s
  | .headReset porch => Sys2Proof.Machine.execHeadReset porch s
  | .echoNow porch => Sys2Proof.Machine.execEchoNow porch s
  | .moduleInsert cage qualified modState => Sys2Proof.Machine.execModuleInsert cage qualified modState s
  | .moduleRemove cage => Sys2Proof.Machine.execModuleRemove cage s
  | .moduleInt cage rxLos txLos modState => Sys2Proof.Machine.execModuleInt cage rxLos txLos modState s
  | .monitorPoll cage temp vcc rx => Sys2Proof.Machine.execMonitorPoll cage temp vcc rx s
  | .probe cage => Sys2Proof.Machine.execProbe cage s
  | .probeEnd cage lit => Sys2Proof.Machine.execProbeEnd cage lit s
  | .lightReturn cage lit => Sys2Proof.Machine.execLightReturn cage lit s
  | .latchClear cage => Sys2Proof.Machine.execLatchClear cage s
  | .calRunStart porch => Sys2Proof.Machine.execCalRunStart porch s
  | .rampStep porch targets => Sys2Proof.Machine.execRampStep porch targets s
  | .noAnswer porch => Sys2Proof.Machine.execNoAnswer porch s
  | .calLockRegained porch => Sys2Proof.Machine.execCalLockRegained porch s
  | .lockFailed porch => Sys2Proof.Machine.execLockFailed porch s
  | .compatApply porch targets => Sys2Proof.Machine.execCompatApply porch targets s
  | .baselineFormed porch lane => Sys2Proof.Machine.execBaselineFormed porch lane s
  | .baselineWrite porch lane v => Sys2Proof.Machine.execBaselineWrite porch lane v s
  | .calNow porch lane => Sys2Proof.Machine.execCalNow porch lane s
  | .restore porch lane => Sys2Proof.Machine.execRestore porch lane s
  | .laneReturn porch lane => Sys2Proof.Machine.execLaneReturn porch lane s
  | .calAbort porch => Sys2Proof.Machine.execCalAbort porch s
  | .heartbeatEdge => Sys2Proof.Machine.execHeartbeatEdge s
  | .heartbeatLost => Sys2Proof.Machine.execHeartbeatLost s
  | .claim trigger => Sys2Proof.Machine.execClaim trigger s
  | .claimDecision => Sys2Proof.Machine.execClaimDecision s
  | .reassert => Sys2Proof.Machine.execReassert s
  | .rejoin => Sys2Proof.Machine.execRejoin s
  | .resyncStart => Sys2Proof.Machine.execResyncStart s
  | .seatBound seat => Sys2Proof.Machine.execSeatBound seat s
  | .clearingDone seat => Sys2Proof.Machine.execClearingDone seat s
  | .seatReset seat unbind => Sys2Proof.Machine.execSeatReset seat unbind s
  | .perst => Sys2Proof.Machine.execPerst s
  | .linkDown => Sys2Proof.Machine.execLinkDown s
  | .linkUp x8 gt64 => Sys2Proof.Machine.execLinkUp x8 gt64 s
  | .featureCommit seat => Sys2Proof.Machine.execFeatureCommit seat s
  | .slotWrite seat offset bytes => Sys2Proof.Machine.execSlotWrite seat offset bytes s
  | .ideFail => Sys2Proof.Machine.execIdeFail s
  | .spdmRequest ld r => Sys2Proof.Machine.execSpdmRequest ld r s
  | .ideKeyManagement ld io mem => Sys2Proof.Machine.execIdeKeyManagement ld io mem s
  | .mailboxCommand seat opcode => Sys2Proof.Machine.execMailboxCommand seat opcode s
  | .fmApiCommand opcode allocMb => Sys2Proof.Machine.execFmApiCommand opcode allocMb s
  | .enrollKey => Sys2Proof.Machine.execEnrollKey s
  | .revokeKey => Sys2Proof.Machine.execRevokeKey s
  | .cupboardWriteDone => Sys2Proof.Machine.execCupboardWriteDone s
  | .stage pair => Sys2Proof.Machine.execStage pair s
  | .stagingDone flashOk => Sys2Proof.Machine.execStagingDone flashOk s
  | .activate timeNs => Sys2Proof.Machine.execActivate timeNs s
  | .updateCancel => Sys2Proof.Machine.execUpdateCancel s
  | .confirm => Sys2Proof.Machine.execConfirm s
  | .fallback => Sys2Proof.Machine.execFallback s
  | .activation migrationFails newSchema => Sys2Proof.Machine.execActivation migrationFails newSchema s
  | .restartEnd => Sys2Proof.Machine.execRestartEnd s
  | .selftestEnd pass => Sys2Proof.Machine.execSelftestEnd pass s
  | .healthWindowEnd => Sys2Proof.Machine.execHealthWindowEnd s
  | .fallbackTakeEffect => Sys2Proof.Machine.execFallbackTakeEffect s
  | .coalesceWindowEnd number => Sys2Proof.Machine.execCoalesceWindowEnd number s
  | .flashCommit images => Sys2Proof.Machine.execFlashCommit images s
  | .flashFail => Sys2Proof.Machine.execFlashFail s
  | .opsecSave => Sys2Proof.Machine.execOpsecSave s
  | .atticRead => Sys2Proof.Machine.execAtticRead s
  | .atticCancel => Sys2Proof.Machine.execAtticCancel s
  | .readDone => Sys2Proof.Machine.execReadDone s
  | .shedClear => Sys2Proof.Machine.execShedClear s
  | .stepEnd => Sys2Proof.Machine.execStepEnd s
  | .trip die temp => Sys2Proof.Machine.execTrip die temp s
  | .tripStop => Sys2Proof.Machine.execTripStop s
  | .supplyFail die => Sys2Proof.Machine.execSupplyFail die s
  | .iodSupplyFault => Sys2Proof.Machine.execIodSupplyFault s
  | .faultClear mask => Sys2Proof.Machine.execFaultClear mask s
  | .timeNsRead seat offset w cycle => Sys2Proof.Machine.execTimeNsRead seat offset w cycle s
  | .rcRead seat offset w => Sys2Proof.Machine.execRcRead seat offset w s
  | .registerWrite seat offset w v => Sys2Proof.Machine.execRegisterWrite seat offset w v s
  | .haltNDeasserted => Sys2Proof.Machine.execHaltNDeasserted s
  | .iodSupplyReturn => Sys2Proof.Machine.execIodSupplyReturn s
  | .uncorrectableCodeword porch lane => Sys2Proof.Machine.execUncorrectableCodeword porch lane s
  | .cellDropped porch cause mirror => Sys2Proof.Machine.execCellDropped porch cause mirror s
  | .frameProgramEnd tile => Sys2Proof.Machine.execFrameProgramEnd tile s
  | .patrolScrub page r => Sys2Proof.Machine.execPatrolScrub page r s
  | .pageZeroed job pages => Sys2Proof.Machine.execPageZeroed job pages s
  | .jobTableClaim job table op => Sys2Proof.Machine.execJobTableClaim job table op s
  | .channelRetraining dev success => Sys2Proof.Machine.execChannelRetraining dev success s
  | .linkRecovery => Sys2Proof.Machine.execLinkRecovery s

end Sys2Proof.Machine
end

