-- ==== Sys2Proof/Machine/Formats.lean ====
section
/-! DEFINITION. The number formats of the tiles and their arithmetic (R131 to R148): encodings, exact values, rounding, conversions,
dot products, the vector unit, and the generators of stochastic rounding. The opcode table has no row for an instruction of a tile
program, so no command reaches these definitions; they say what the registers of a bank hold after an operation (log 31). -/
namespace Sys2Proof.Machine

-- Encodings (R132) ----------------------------------------------------------------------------------------------------------------

/-- What the largest exponent field of a format means: infinities and NaN, one NaN code, or ordinary values. -/
inductive TopCodes where
  | ieee | oneNan | ordinary
  deriving DecidableEq, Repr

/-- A floating-point format: widths of the exponent and fraction fields, bias, and what its top codes mean. -/
structure FloatFmt where
  expBits  : Nat
  fracBits : Nat
  bias     : Nat
  top      : TopCodes
  deriving DecidableEq, Repr

def fmtFp32 : FloatFmt := ⟨8, 23, 127, .ieee⟩
/-- binary64 of the scalar cores (R131). -/
def fmtFp64 : FloatFmt := ⟨11, 52, 1023, .ieee⟩
def fmtBf16 : FloatFmt := ⟨8, 7, 127, .ieee⟩
def fmtFp16 : FloatFmt := ⟨5, 10, 15, .ieee⟩
def fmtE5m2 : FloatFmt := ⟨5, 2, 15, .ieee⟩
def fmtE4m3 : FloatFmt := ⟨4, 3, 7, .oneNan⟩
def fmtE3m2 : FloatFmt := ⟨3, 2, 3, .ordinary⟩
def fmtE2m3 : FloatFmt := ⟨2, 3, 1, .ordinary⟩
def fmtE2m1 : FloatFmt := ⟨2, 1, 1, .ordinary⟩

/-- A value of a floating-point format: NaN, an infinity, or (−1)^neg × mag × 2^exp. Every NaN is the same one (R135). -/
inductive FpVal where
  | nan
  | inf (neg : Bool)
  | fin (neg : Bool) (mag : Nat) (exp : Int)
  deriving DecidableEq, Repr

/-- Exponent of the last place of the subnormals of a format. -/
def FloatFmt.low (f : FloatFmt) : Int := 1 - (f.bias : Int) - f.fracBits

/-- The value of an encoding (R132). Subnormals are honoured and both zeros are told apart (R136, R137). -/
def FloatFmt.decode (f : FloatFmt) (w : Nat) : FpVal :=
  let frac := w % 2 ^ f.fracBits
  let e := w / 2 ^ f.fracBits % 2 ^ f.expBits
  let neg := decide (w / 2 ^ (f.fracBits + f.expBits) % 2 = 1)
  let last := 2 ^ f.expBits - 1
  if e = last ∧ f.top = .ieee then (if frac = 0 then .inf neg else .nan)
  else if e = last ∧ f.top = .oneNan ∧ frac = 2 ^ f.fracBits - 1 then .nan
  else if e = 0 then .fin neg frac f.low
  else .fin neg (2 ^ f.fracBits + frac) ((e : Int) - 1 + f.low)

/-- Exponent field and fraction of the largest finite value. -/
def FloatFmt.largest (f : FloatFmt) : Nat :=
  match f.top with
  | .ieee => (2 ^ f.expBits - 1) * 2 ^ f.fracBits - 1
  | .oneNan => 2 ^ (f.expBits + f.fracBits) - 2
  | .ordinary => 2 ^ (f.expBits + f.fracBits) - 1

/-- The sign bit of an encoding. -/
def FloatFmt.signBit (f : FloatFmt) (neg : Bool) : Nat := bit neg * 2 ^ (f.expBits + f.fracBits)

/-- The canonical NaN of a format that has one, its sign bit clear (R135). -/
def FloatFmt.canonicalNan (f : FloatFmt) : Nat :=
  match f.top with
  | .ieee => (2 ^ f.expBits - 1) * 2 ^ f.fracBits + if f.fracBits = 2 then 3 else 2 ^ (f.fracBits - 1)
  | _ => 2 ^ (f.expBits + f.fracBits) - 1

/-- Bits of an infinity of a format that has one. -/
def FloatFmt.infinity (f : FloatFmt) (neg : Bool) : Nat := f.signBit neg + (2 ^ f.expBits - 1) * 2 ^ f.fracBits

-- Rounding (R145, R146) -----------------------------------------------------------------------------------------------------------

/-- The rounding mode of a conversion; stochastic rounding with the 16 bits drawn (R145, R146). -/
inductive RoundMode where
  | nearest | towardZero | stochastic (draw : Nat)
  deriving DecidableEq, Repr

/-- `mag / 2^n` rounded to an integer. -/
def roundMag (m : RoundMode) (mag n : Nat) : Nat :=
  let q := mag / 2 ^ n
  match m with
  | .towardZero => q
  | .nearest =>
    let r := 2 * (mag % 2 ^ n)
    if r < 2 ^ n then q else if 2 ^ n < r then q + 1 else q + q % 2
  | .stochastic draw => (mag * 2 ^ 16 / 2 ^ n + draw % 2 ^ 16) / 2 ^ 16

/-- `mag × 2^exp` as a multiple of `2^q`, rounded. -/
def roundTo (m : RoundMode) (mag : Nat) (exp q : Int) : Nat :=
  if q ≤ exp then mag * 2 ^ (exp - q).toNat else roundMag m mag (q - exp).toNat

/-- The exponent of the leading bit of a nonzero `mag × 2^exp`. -/
def leadExp (mag : Nat) (exp : Int) : Int := (Nat.log2 mag : Int) + exp

/-- The exponent of the last place of a format at a nonzero magnitude: its spacing there. -/
def FloatFmt.place (f : FloatFmt) (mag : Nat) (exp : Int) : Int := max f.low (leadExp mag exp - f.fracBits)

/-- Bits of a magnitude of `k` places of exponent `q`, at most one leading bit above the fraction. -/
def FloatFmt.encodeMag (f : FloatFmt) (k : Nat) (q : Int) : Nat := (q - f.low).toNat * 2 ^ f.fracBits + k

/-- Rounding of a nonzero magnitude: the bits it would have if the exponent field had no end. A carry into the next binade and
from the subnormals to the normals comes out of the sum. -/
def FloatFmt.roundBits (f : FloatFmt) (m : RoundMode) (mag : Nat) (exp : Int) : Nat :=
  let q := f.place mag exp
  f.encodeMag (roundTo m mag exp q) q

-- Conversions (R142 to R144) ------------------------------------------------------------------------------------------------------

/-- The flags that an operation raises (R148). -/
structure FpFlags where
  invalid  : Bool := false
  overflow : Bool := false
  saturate : Bool := false
  deriving DecidableEq, Repr

/-- Flags raised by either of two operations. -/
def FpFlags.or (a b : FpFlags) : FpFlags := ⟨a.invalid || b.invalid, a.overflow || b.overflow, a.saturate || b.saturate⟩

/-- An overflow of a format goes to the largest finite value: with SAT, under RTZ, and in formats without an infinity (R142). -/
def FloatFmt.toLargest (f : FloatFmt) (m : RoundMode) (sat : Bool) : Bool :=
  sat || decide (m = .towardZero) || decide (f.top ≠ .ieee)

/-- Conversion of a value to a floating-point format (R142): its bits and the flags raised. A NaN or an infinity in an MX element
without a code for it is a matter of the block's scale, and gives 0 here (R143). -/
def FloatFmt.convert (f : FloatFmt) (m : RoundMode) (sat : Bool) (v : FpVal) : Nat × FpFlags :=
  match v with
  | .nan => (if f.top = .ordinary then 0 else f.canonicalNan, {})
  | .inf neg =>
    if f.top ≠ .ieee then (0, {}) else if sat then (f.signBit neg + f.largest, {}) else (f.infinity neg, {})
  | .fin neg mag exp =>
    if mag = 0 then (f.signBit neg, {})
    else
      let b := f.roundBits m mag exp
      if b ≤ f.largest then (f.signBit neg + b, {})
      else (if f.toLargest m sat then f.signBit neg + f.largest else f.infinity neg, { overflow := true })

/-- Conversion to a two's-complement or unsigned fixed-point format of `frac` fraction bits and the given limits (R142). -/
def toFixed (m : RoundMode) (frac : Nat) (lo hi : Int) (v : FpVal) : Int × FpFlags :=
  match v with
  | .nan => (0, { invalid := true })
  | .inf neg => (if neg then lo else hi, {})
  | .fin neg mag exp =>
    let k : Int := roundTo m mag exp (-(frac : Int))
    let x := if neg then -k else k
    (clampInt lo hi x, { saturate := decide (x < lo) || decide (hi < x) })

def toInt8 (m : RoundMode) (v : FpVal) : Int × FpFlags := toFixed m 0 (-128) 127 v
def toInt32 (m : RoundMode) (v : FpVal) : Int × FpFlags := toFixed m 0 (-(2 ^ 31)) (2 ^ 31 - 1) v
def toQ115 (m : RoundMode) (v : FpVal) : Int × FpFlags := toFixed m 15 (-32768) 32767 v
def toQ016 (m : RoundMode) (v : FpVal) : Int × FpFlags := toFixed m 16 0 65535 v

/-- A fixed-point number of `frac` fraction bits as a value. -/
def ofFixed (frac : Nat) (x : Int) : FpVal := .fin (decide (x < 0)) x.natAbs (-(frac : Int))

/-- Conversion to FP32 (R144): exact, or rounded to nearest-even where more than 24 significant bits are needed. -/
def toFp32 (v : FpVal) : Nat × FpFlags := fmtFp32.convert .nearest false v

/-- A Q9.31 value in two's complement with output shift `s`, converted under a mode (R140). -/
def fixedOut (m : RoundMode) (frac : Nat) (lo hi : Int) (acc : Int) (s : Nat) : Int × FpFlags :=
  toFixed m frac lo hi (.fin (decide (acc < 0)) acc.natAbs ((s : Int) - 31))

-- MX blocks (R133, R134, R143) ------------------------------------------------------------------------------------------------------

/-- The element formats of MX blocks (R133). -/
inductive MxFmt where
  | e5m2 | e4m3 | e3m2 | e2m3 | e2m1 | int8
  deriving DecidableEq, Repr

/-- The floating-point format of the elements, none for MXINT8. -/
def MxFmt.float : MxFmt → Option FloatFmt
  | .e5m2 => some fmtE5m2
  | .e4m3 => some fmtE4m3
  | .e3m2 => some fmtE3m2
  | .e2m3 => some fmtE2m3
  | .e2m1 => some fmtE2m1
  | .int8 => none

/-- Bits of an element (R132). -/
def MxFmt.bits : MxFmt → Nat
  | .e5m2 | .e4m3 | .int8 => 8
  | .e3m2 | .e2m3 => 6
  | .e2m1 => 4

/-- The exponent of the element format's largest power of two (R143). -/
def MxFmt.emax : MxFmt → Int
  | .e5m2 => 15
  | .e4m3 => 8
  | .e3m2 => 4
  | .e2m3 => 2
  | .e2m1 => 2
  | .int8 => 0

/-- A value times 2^k. -/
def FpVal.scale (v : FpVal) (k : Int) : FpVal :=
  match v with
  | .fin neg mag exp => .fin neg mag (exp + k)
  | v => v

/-- The value of an element before its scale; an MXINT8 element of 0x80 is −2 (R132, R134). -/
def MxFmt.element (f : MxFmt) (w : Nat) : FpVal :=
  match f.float with
  | some g => g.decode w
  | none => ofFixed 6 (signed 8 w)

/-- The value of element with scale byte `x` (R133): a scale of 0xFF makes it NaN. -/
def MxFmt.value (f : MxFmt) (x w : Nat) : FpVal :=
  if x = 255 then .nan else (f.element w).scale ((x : Int) - 127)

/-- Element `i` of the packed bytes of a block: lower-numbered elements take the lower bits (R133). -/
def MxFmt.packed (f : MxFmt) (bytes : List Byte) (i : Nat) : Nat := leNat bytes / 2 ^ (f.bits * i) % 2 ^ f.bits

/-- Bytes of a block's elements (R133). -/
def MxFmt.blockBytes (f : MxFmt) : Nat := 4 * f.bits

/-- Pack elements densely in ascending order (R133). -/
def MxFmt.pack (f : MxFmt) (l : List Nat) : List Byte :=
  leBytes f.blockBytes (l.foldr (fun w acc => w % 2 ^ f.bits + 2 ^ f.bits * acc) 0)

/-- A value is NaN. -/
def FpVal.isNan : FpVal → Bool
  | .nan => true
  | _ => false

/-- A value is an infinity. -/
def FpVal.isInf : FpVal → Bool
  | .inf _ => true
  | _ => false

/-- `mag × 2^exp` as a fraction of `2^low`, for an exponent not below `low`. -/
def alignMag (low : Int) (mag : Nat) (exp : Int) : Nat := mag * 2 ^ (exp - low).toNat

/-- Magnitude of a finite value in units of 2^-149, the last place of FP32; 0 for the others. -/
def FpVal.fp32Mag : FpVal → Nat
  | .fin _ mag exp => alignMag (-149) mag exp
  | _ => 0

/-- The shared exponent of a block of FP32 values (R143). -/
def MxFmt.blockExp (f : MxFmt) (l : List FpVal) : Int :=
  let a := (l.map FpVal.fp32Mag).foldl max 0
  if a = 0 then -127 else clampInt (-127) 127 (leadExp a (-149) - f.emax)

/-- One element under R142; its infinity is a code of E5M2 only (R143). An MXINT8 result stays in ±127/64 (R134). -/
def MxFmt.convertElem (f : MxFmt) (m : RoundMode) (sat : Bool) (v : FpVal) : Nat × FpFlags :=
  match f.float, v with
  | some g, .inf neg => (g.infinity neg, {})
  | some g, v => g.convert m sat v
  | none, v => let r := toFixed m 6 (-127) 127 v; (twos 8 r.1, r.2)

/-- A block of FP32 values in an MX format (R143): scale byte, elements, flags. `mode i` is the mode for element i, so that each
element has a draw of its own under stochastic rounding. -/
def MxFmt.convertBlock (f : MxFmt) (mode : Nat → RoundMode) (sat : Bool) (l : List FpVal) : Nat × List Nat × FpFlags :=
  if l.any FpVal.isNan || (l.any FpVal.isInf && decide (f ≠ .e5m2)) then (255, l.map (fun _ => 0), { invalid := true })
  else
    let e := f.blockExp l
    let rs := l.zipIdx.map fun p => f.convertElem (mode p.2) sat (p.1.scale (-e))
    ((e + 127).toNat, rs.map (·.1), rs.foldl (fun acc r => acc.or r.2) {})

-- Exact arithmetic (R137, R138) -----------------------------------------------------------------------------------------------------

/-- The exact product of two values (R137, R138): 0 × ∞ is NaN. -/
def fpMul (a b : FpVal) : FpVal :=
  match a, b with
  | .nan, _ => .nan
  | _, .nan => .nan
  | .inf s, .inf t => .inf (s != t)
  | .inf s, .fin t m _ => if m = 0 then .nan else .inf (s != t)
  | .fin t m _, .inf s => if m = 0 then .nan else .inf (s != t)
  | .fin s m e, .fin t n g => .fin (s != t) (m * n) (e + g)

/-- A finite value as a signed number of units of 2^low. -/
def signedAt (low : Int) (neg : Bool) (mag : Nat) (exp : Int) : Int :=
  let k : Int := alignMag low mag exp
  if neg then -k else k

/-- The exact sum of two values (R137): ∞ + (−∞) is NaN, and a zero sum is −0 only of two negative zeros. -/
def fpAdd (a b : FpVal) : FpVal :=
  match a, b with
  | .nan, _ => .nan
  | _, .nan => .nan
  | .inf s, .inf t => if s = t then .inf s else .nan
  | .inf s, .fin _ _ _ => .inf s
  | .fin _ _ _, .inf t => .inf t
  | .fin s m e, .fin t n g =>
    let low := min e g
    let k := signedAt low s m e + signedAt low t n g
    if k = 0 then .fin (s && t && decide (m = 0) && decide (n = 0)) 0 low else .fin (decide (k < 0)) k.natAbs low

/-- The exact sum of a list. -/
def fpSum (l : List FpVal) : FpVal :=
  match l with
  | [] => .fin false 0 0
  | x :: t => t.foldl fpAdd x

/-- A sum beyond the FP32 range is an infinity (R138). -/
def fpInRange (v : FpVal) : FpVal :=
  match v with
  | .fin neg mag exp => if decide (exp < 128) && decide (alignMag (min exp 0) mag exp ≤ (2 ^ 128 - 2 ^ 104) * 2 ^ (0 - min exp 0).toNat)
      then v else if mag = 0 then v else .inf neg
  | v => v

/-- The value of FP32 bits, and the FP32 bits of a value under a single rounding to nearest-even. -/
def ofFp32 (w : Nat) : FpVal := fmtFp32.decode w
def fp32Bits (v : FpVal) : Nat := (toFp32 v).1

/-- One group of up to 32 products into an FP32 accumulator (R138): exact products and sum, one rounding. -/
def accumulateGroup (acc : Nat) (pairs : List (FpVal × FpVal)) : Nat :=
  fp32Bits (fpAdd (ofFp32 acc) (fpInRange (fpSum (pairs.map fun p => fpMul p.1 p.2))))

/-- A dot product in groups in ascending order of the reduction index (R138). -/
def dotGroups (acc : Nat) (groups : List (List (FpVal × FpVal))) : Nat := groups.foldl accumulateGroup acc

/-- Consecutive groups of 32 along the reduction dimension, `n` of them (R138). -/
def groupsOf {α : Type} : Nat → List α → List (List α)
  | 0, _ => []
  | n + 1, l => l.take 32 :: groupsOf n (l.drop 32)

/-- A dot product of scalar floating-point operands: groups of 32 consecutive elements (R138). -/
def dotFloat (acc : Nat) (l : List (FpVal × FpVal)) : Nat := dotGroups acc (groupsOf ((l.length + 31) / 32) l)

/-- An MX block as an operand: element format, scale byte and packed element bytes (R133). -/
structure MxBlock where
  fmt   : MxFmt
  scale : Nat
  bytes : List Byte
  deriving DecidableEq, Repr

/-- The 32 values of a block, its scale applied exactly (R133, R138). -/
def MxBlock.values (b : MxBlock) : List FpVal := (List.range 32).map fun i => b.fmt.value b.scale (b.fmt.packed b.bytes i)

/-- A dot product of MX operands: a group is one block of each side (R138). -/
def dotMx (acc : Nat) (l : List (MxBlock × MxBlock)) : Nat := dotGroups acc (l.map fun p => p.1.values.zip p.2.values)

/-- One saturating addition into an accumulator (R139): its value and SATURATE. -/
def satAdd (lo hi : Int) (acc x : Int) : Int × Bool :=
  (clampInt lo hi (acc + x), decide (acc + x < lo) || decide (hi < acc + x))

/-- Products in order into a saturating accumulator (R139). -/
def satDot (lo hi : Int) (mul : Int → Int → Int) (acc : Int) (l : List (Int × Int)) : Int × Bool :=
  l.foldl (fun a p => let r := satAdd lo hi a.1 (mul p.1 p.2); (r.1, a.2 || r.2)) (acc, false)

/-- INT8 products into INT32, and Q1.15 products into Q9.31 (R139). -/
def dotInt8 (acc : Int) (l : List (Int × Int)) : Int × Bool := satDot (-(2 ^ 31)) (2 ^ 31 - 1) (· * ·) acc l
def dotQ15 (acc : Int) (l : List (Int × Int)) : Int × Bool := satDot (-(2 ^ 39)) (2 ^ 39 - 1) mulQ acc l

-- What the array accepts (R131) -------------------------------------------------------------------------------------------------------

/-- Operand formats of the array. -/
inductive ArrayOperand where
  | mxfp8 | mxfp6 | mxfp4 | mxint8 | int8 | bf16 | fp16 | q15
  deriving DecidableEq, Repr

/-- Accumulators of the array. -/
inductive Accumulator where
  | fp32 | int32 | q931
  deriving DecidableEq, Repr

/-- Accumulator and multiply-accumulates per cycle and tile of an operand pair; none for a pair that the array does not accept. -/
def arrayRate (a b : ArrayOperand) : Option (Accumulator × Nat) :=
  match a, b with
  | .mxfp4, .mxfp4 => some (.fp32, 8192)
  | .mxfp8, .mxfp8 | .mxfp8, .mxfp6 | .mxfp6, .mxfp8 | .mxfp6, .mxfp6
  | .mxfp4, .mxfp8 | .mxfp4, .mxfp6 | .mxfp8, .mxfp4 | .mxfp6, .mxfp4 => some (.fp32, 4096)
  | .mxint8, .mxint8 => some (.fp32, 4096)
  | .int8, .int8 => some (.int32, 4096)
  | .bf16, .bf16 | .bf16, .fp16 | .fp16, .bf16 | .fp16, .fp16 => some (.fp32, 2048)
  | .q15, .q15 => some (.q931, 2048)
  | _, _ => none

-- The vector unit (R141) --------------------------------------------------------------------------------------------------------------

/-- Addition, subtraction, multiplication and fused multiply-add, each correctly rounded. -/
def vAdd (a b : Nat) : Nat := fp32Bits (fpAdd (ofFp32 a) (ofFp32 b))
def fpNeg (v : FpVal) : FpVal :=
  match v with
  | .nan => .nan
  | .inf s => .inf (!s)
  | .fin s m e => .fin (!s) m e
def vSub (a b : Nat) : Nat := fp32Bits (fpAdd (ofFp32 a) (fpNeg (ofFp32 b)))
def vMul (a b : Nat) : Nat := fp32Bits (fpMul (ofFp32 a) (ofFp32 b))
def vFma (a b c : Nat) : Nat := fp32Bits (fpAdd (fpMul (ofFp32 a) (ofFp32 b)) (ofFp32 c))
/-- Packed BF16 operands, FP32 accumulate. -/
def vFmaBf16 (a b c : Nat) : Nat := fp32Bits (fpAdd (fpMul (fmtBf16.decode a) (fmtBf16.decode b)) (ofFp32 c))

/-- The quotient of two values with enough places that one rounding follows, its last place sticky. -/
def fpDiv (a b : FpVal) : FpVal :=
  match a, b with
  | .nan, _ => .nan
  | _, .nan => .nan
  | .inf _, .inf _ => .nan
  | .inf s, .fin t _ _ => .inf (s != t)
  | .fin s _ _, .inf t => .fin (s != t) 0 0
  | .fin s m e, .fin t n g =>
    if n = 0 then (if m = 0 then .nan else .inf (s != t))
    else
      let q := m * 2 ^ 120 / n
      .fin (s != t) (2 * q + bit (decide (m * 2 ^ 120 % n ≠ 0))) (e - g - 121)

/-- The square root with enough places that one rounding follows, its last place sticky. -/
def fpSqrt (a : FpVal) : FpVal :=
  match a with
  | .nan => .nan
  | .inf s => if s then .nan else .inf false
  | .fin s m e =>
    if m = 0 then .fin s 0 e
    else if s then .nan
    else
      let odd : Nat := (e % 2).toNat
      let x := m * 2 ^ (120 + odd)
      let r := isqrtFrom 90 x 0
      .fin false (2 * r + bit (decide (r * r ≠ x))) ((e - odd - 120) / 2 - 1)

def vDiv (a b : Nat) : Nat := fp32Bits (fpDiv (ofFp32 a) (ofFp32 b))
def vSqrt (a : Nat) : Nat := fp32Bits (fpSqrt (ofFp32 a))

/-- How two values compare: none when either is NaN (unordered). -/
def fpOrder (a b : FpVal) : Option Ordering :=
  match a, b with
  | .nan, _ => none
  | _, .nan => none
  | .inf s, .inf t => some (if s = t then .eq else if s then .lt else .gt)
  | .inf s, .fin _ _ _ => some (if s then .lt else .gt)
  | .fin _ _ _, .inf t => some (if t then .gt else .lt)
  | .fin s m e, .fin t n g =>
    let low := min e g
    some (compare (signedAt low s m e) (signedAt low t n g))

/-- A zero is negative, the order of minimum and maximum (R141). -/
def FpVal.isNeg : FpVal → Bool
  | .nan => false
  | .inf s => s
  | .fin s _ _ => s

/-- Minimum and maximum: a NaN operand gives NaN, and −0 is below +0 (R141). -/
def vMin (a b : Nat) : Nat :=
  let x := ofFp32 a
  let y := ofFp32 b
  match fpOrder x y with
  | none => fmtFp32.canonicalNan
  | some .lt => a
  | some .gt => b
  | some .eq => if x.isNeg then a else b
def vMax (a b : Nat) : Nat :=
  let x := ofFp32 a
  let y := ofFp32 b
  match fpOrder x y with
  | none => fmtFp32.canonicalNan
  | some .lt => b
  | some .gt => a
  | some .eq => if x.isNeg then b else a

/-- The largest FP32 magnitude not above a value, and whether it is the value; none for NaN, an infinity and a zero, which are exact. -/
def floorFp32 (v : FpVal) : Option (Nat × Bool) :=
  match v with
  | .fin _ mag exp =>
    if mag = 0 then none
    else
      let b := min fmtFp32.largest (fmtFp32.roundBits .towardZero mag exp)
      some (b, decide (b = fmtFp32.roundBits .nearest mag exp) && decide (fpOrder (fmtFp32.decode b) (.fin false mag exp) = some .eq))
  | _ => none

/-- A result of the vector unit within `k` units of the last place of its exact value (R141): which one is not stated (log 31). -/
def within (op k operand : Nat) (v : FpVal) : Nat :=
  match floorFp32 v with
  | none => fp32Bits v
  | some (b, exact) =>
    let lo : Int := if exact then -k else 1 - (k : Int)
    fmtFp32.signBit v.isNeg + (clampInt 0 fmtFp32.largest ((b : Int) + clampInt lo k (Config.vecUlp op operand))).toNat

/-- Reciprocal and reciprocal square root, within 1 ulp (R141). -/
def vRecip (a : Nat) : Nat := within 0 1 a (fpDiv (.fin false 1 0) (ofFp32 a))
def vRsqrt (a : Nat) : Nat := within 1 1 a (fpDiv (.fin false 1 0) (fpSqrt (ofFp32 a)))

/-- Bits after the point of log2 of `m / 2^200` in [1, 2), by repeated squaring. -/
def log2Bits : Nat → Nat → Nat → Nat
  | 0, _, acc => acc
  | n + 1, m, acc =>
    let q := m * m / 2 ^ 200
    if 2 ^ 201 ≤ q then log2Bits n (q / 2) (2 * acc + 1) else log2Bits n q (2 * acc)

/-- log2 to 100 bits after the point, rounded down; exact for a power of two. -/
def fpLog2 (v : FpVal) : FpVal :=
  match v with
  | .nan => .nan
  | .inf s => if s then .nan else .inf false
  | .fin s m e =>
    if m = 0 then .inf true
    else if s then .nan
    else
      let k : Int := leadExp m e
      let x : Int := k * 2 ^ 100 + (log2Bits 100 (m * 2 ^ 200 / 2 ^ Nat.log2 m) 0 : Int)
      .fin (decide (x < 0)) x.natAbs (-100)

/-- The product of the roots 2^(2^-i) named by the bits of a fraction, highest bit first, in units of 2^-120; `r` is the root in turn. -/
def exp2Bits : Nat → Nat → Nat → Nat → Nat
  | 0, _, _, acc => acc
  | n + 1, f, r, acc =>
    let r := isqrtFrom 122 (r * 2 ^ 120) 0
    exp2Bits n f r (if f / 2 ^ n % 2 = 1 then acc * r / 2 ^ 120 else acc)

/-- 2 to the power of a value, to 64 bits of its fraction; beyond the range of FP32 it is 0 or an infinity. -/
def fpExp2 (v : FpVal) : FpVal :=
  match v with
  | .nan => .nan
  | .inf s => if s then .fin false 0 0 else .inf false
  | .fin s m e =>
    let x : Int := if 0 ≤ e then signedAt 0 s m e * 2 ^ 64 else (if s then -((m * 2 ^ 64 / 2 ^ (-e).toNat : Nat) : Int) else (m * 2 ^ 64 / 2 ^ (-e).toNat : Nat))
    let k := x / 2 ^ 64
    if 128 ≤ k then .inf false else if k < -200 then .fin false 0 0
    else .fin false (exp2Bits 64 (x % 2 ^ 64).toNat (2 ^ 121) (2 ^ 120)) (k - 120)

/-- exp2 and log2, within 2 ulp over the whole finite range (R141). -/
def vExp2 (a : Nat) : Nat := within 2 2 a (fpExp2 (ofFp32 a))
def vLog2 (a : Nat) : Nat := within 3 2 a (fpLog2 (ofFp32 a))

/-- Comparison of FP32, none where either operand is NaN, and of INT32 (R141). -/
def vCompare (a b : Nat) : Option Ordering := fpOrder (ofFp32 a) (ofFp32 b)
def vCompareInt (a b : BitVec 32) : Ordering := compare a.toInt b.toInt

/-- The integer operations on INT32, which wrap (R141). -/
inductive IntOp where
  | add | sub | shl | shr | sar | and | or | xor | satAdd
  deriving DecidableEq, Repr

/-- The saturating add of INT32 (R141). -/
def vSatAdd (a b : BitVec 32) : BitVec 32 := BitVec.ofInt 32 (clampInt (-(2 ^ 31)) (2 ^ 31 - 1) (a.toInt + b.toInt))

/-- One integer operation of a lane (R141). The spec gives no count for shifts: the low 5 bits of the second operand (log 31). -/
def IntOp.run (o : IntOp) (a b : BitVec 32) : BitVec 32 :=
  match o with
  | .add => a + b
  | .sub => a - b
  | .shl => a <<< (b.toNat % 32)
  | .shr => a >>> (b.toNat % 32)
  | .sar => BitVec.sshiftRight a (b.toNat % 32)
  | .and => a &&& b
  | .or => a ||| b
  | .xor => a ^^^ b
  | .satAdd => vSatAdd a b

/-- The packed Q1.15 multiply-accumulate: exact, saturating (R139, R141). -/
def vMacQ (acc a b : Int) : Int × Bool := satAdd (-(2 ^ 39)) (2 ^ 39 - 1) acc (mulQ a b)

-- The scalar cores (R131) ---------------------------------------------------------------------------------------------------------------

/-- Binary32 and binary64 arithmetic of the scalar cores: rounding to nearest-even only, and no flags (R131, R135, R136). Their 64-bit
integer arithmetic is that of `Word`. -/
inductive ScalarOp where
  | add | sub | mul | div
  deriving DecidableEq, Repr

/-- One scalar floating-point operation. -/
def ScalarOp.run (o : ScalarOp) (f : FloatFmt) (a b : Nat) : Nat :=
  let x := f.decode a
  let y := f.decode b
  (f.convert .nearest false (match o with
    | .add => fpAdd x y
    | .sub => fpAdd x (fpNeg y)
    | .mul => fpMul x y
    | .div => fpDiv x y)).1

/-- Fused multiply-add and square root of a scalar core. -/
def scalarFma (f : FloatFmt) (a b c : Nat) : Nat := (f.convert .nearest false (fpAdd (fpMul (f.decode a) (f.decode b)) (f.decode c))).1
def scalarSqrt (f : FloatFmt) (a : Nat) : Nat := (f.convert .nearest false (fpSqrt (f.decode a))).1

-- Generators (R147) and a bank's flags (R148) -------------------------------------------------------------------------------------------

/-- One step of xorshift32 with shifts 13, 17 and 5 (R147). -/
def xorshift (x : BitVec 32) : BitVec 32 :=
  let x := x ^^^ (x <<< 13)
  let x := x ^^^ (x >>> 17)
  x ^^^ (x <<< 5)

/-- The seed of a lane (R147). -/
def laneSeed (seed : Word) (i : Nat) : BitVec 32 :=
  let x := BitVec.ofNat 32 seed.toNat ^^^ BitVec.ofNat 32 (i * 0x9E3779B9)
  if x = 0 then 1 else x

/-- A program seeds the generators of a bank (R147). -/
def Bank.seed (b : Bank) (seed : Word) : Bank :=
  { b with gens := (List.range 512).map fun i => (i, laneSeed seed i) }

/-- One draw of a lane: the lower 16 bits of the new state (R147). -/
def Bank.draw (b : Bank) (lane : Nat) : Bank × Nat :=
  let x := xorshift (tget (fun _ => 0) b.gens lane)
  ({ b with gens := tset (fun _ => 0) b.gens lane x }, x.toNat % 2 ^ 16)

/-- Sticky flags of a bank after an operation (R148). -/
def Bank.flag (b : Bank) (f : FpFlags) : Bank :=
  { b with invalid := b.invalid || f.invalid, overflow := b.overflow || f.overflow, saturate := b.saturate || f.saturate }

/-- A program clears its flags (R148). -/
def Bank.clearFlags (b : Bank) : Bank := { b with invalid := false, overflow := false, saturate := false }

/-- The rounding that a conversion asks for (R145). -/
inductive Rounding where
  | rne | rtz | sr
  deriving DecidableEq, Repr

/-- Targets of a conversion of one FP32 value (R142). -/
inductive ConvTarget where
  | bf16 | fp16 | int8 | int32 | q15 | q016
  deriving DecidableEq, Repr

/-- Bits of the result of a conversion, in two's complement where it is signed, and the flags raised (R142). -/
def ConvTarget.convert (t : ConvTarget) (m : RoundMode) (sat : Bool) (v : FpVal) : Nat × FpFlags :=
  let bits (n : Nat) (r : Int × FpFlags) : Nat × FpFlags := (twos n r.1, r.2)
  match t with
  | .bf16 => fmtBf16.convert m sat v
  | .fp16 => fmtFp16.convert m sat v
  | .int8 => bits 8 (toInt8 m v)
  | .int32 => bits 32 (toInt32 m v)
  | .q15 => bits 16 (toQ115 m v)
  | .q016 => bits 16 (toQ016 m v)

/-- A lane's rounding mode for one value; stochastic rounding consumes a draw of the lane's generator (R146). -/
def Bank.mode (b : Bank) (lane : Nat) (r : Rounding) : Bank × RoundMode :=
  match r with
  | .rne => (b, .nearest)
  | .rtz => (b, .towardZero)
  | .sr => let d := b.draw lane; (d.1, .stochastic d.2)

/-- A conversion of one lane: the flags of the bank are set (R142, R148). None where the mode is not accepted: SR converts only to BF16 and
to MXFP8, under a plan that requires STOCH_ROUND (R145, R146). -/
def Bank.convert (b : Bank) (stoch : Bool) (lane : Nat) (t : ConvTarget) (r : Rounding) (sat : Bool) (w : Nat) : Option (Bank × Nat) :=
  if r = .sr ∧ (t ≠ .bf16 ∨ !stoch) then none
  else
    let d := b.mode lane r
    let c := t.convert d.2 sat (ofFp32 w)
    some (d.1.flag c.2, c.1)

/-- A conversion of lane `lane` from FP32 to BF16 under stochastic rounding: a draw, the result and the flags (R146, R148). -/
def Bank.convertBf16 (b : Bank) (lane w : Nat) (sat : Bool) : Bank × Nat :=
  let d := b.draw lane
  let r := fmtBf16.convert (.stochastic d.2) sat (ofFp32 w)
  (d.1.flag r.2, r.1)

/-- The modes of the 32 elements of a block whose first element is in lane `lane`; each has its own draw under SR. -/
def Bank.modes (b : Bank) (lane : Nat) (r : Rounding) : Nat → Bank × List RoundMode
  | 0 => (b, [])
  | n + 1 => let p := b.modes lane r n; let d := p.1.mode (lane + n) r; (d.1, p.2 ++ [d.2])

/-- A conversion of 32 lanes to an MX block (R143, R145, R148): scale byte and elements. A block whose scale becomes 0xFF draws nothing. -/
def Bank.convertMx (b : Bank) (stoch : Bool) (lane : Nat) (f : MxFmt) (r : Rounding) (sat : Bool) (l : List FpVal) :
    Option (Bank × Nat × List Nat) :=
  if r = .sr ∧ ((f ≠ .e4m3 ∧ f ≠ .e5m2) ∨ !stoch) then none
  else
    let bad := (f.convertBlock (fun _ => .nearest) sat l).1 = 255
    let p := if bad then (b, []) else b.modes lane r 32
    let c := f.convertBlock (fun i => (p.2[i]?).getD .nearest) sat l
    some (p.1.flag c.2.2, c.1, c.2.1)

/-- Accumulator (i, j) of a bank. -/
def Bank.acc (b : Bank) (i j : Nat) : BitVec 40 := tget (fun _ => 0) b.accum (64 * i + j)
def Bank.setAcc (b : Bank) (i j : Nat) (v : BitVec 40) : Bank := { b with accum := tset (fun _ => 0) b.accum (64 * i + j) v }

/-- An INT8 or Q1.15 dot product of the bank sets SATURATE where the accumulator met a limit (R139, R148). -/
def Bank.dot (b : Bank) (q15 : Bool) (acc : Int) (l : List (Int × Int)) : Bank × Int :=
  let r := if q15 then dotQ15 acc l else dotInt8 acc l
  (b.flag { saturate := r.2 }, r.1)

/-- Operands of one array operation into one accumulator: floating-point scalars, MX blocks, or fixed-point numbers, along the reduction
dimension. -/
inductive ArrayData where
  | scalars (l : List (FpVal × FpVal))
  | blocks (l : List (MxBlock × MxBlock))
  | fixed (l : List (Int × Int))
  deriving DecidableEq, Repr

/-- An array operation into accumulator (i, j) (R131, R138, R139): none for a pair that the array does not accept, or for operands of
another form. -/
def Bank.array (b : Bank) (x y : ArrayOperand) (i j : Nat) (d : ArrayData) : Option Bank :=
  let w := (b.acc i j).toNat
  match arrayRate x y, d with
  | some (.fp32, _), .scalars l => some (b.setAcc i j (BitVec.ofNat 40 (dotFloat (w % 2 ^ 32) l)))
  | some (.fp32, _), .blocks l => some (b.setAcc i j (BitVec.ofNat 40 (dotMx (w % 2 ^ 32) l)))
  | some (.int32, _), .fixed l => let r := b.dot false (signed 32 (w % 2 ^ 32)) l; some (r.1.setAcc i j (BitVec.ofNat 40 (twos 32 r.2)))
  | some (.q931, _), .fixed l => let r := b.dot true (signed 40 w) l; some (r.1.setAcc i j (BitVec.ofInt 40 r.2))
  | _, _ => none

/-- A Q9.31 accumulator converted to Q1.15, or to Q0.16, with output shift `s` (R140, R148). -/
def Bank.accOut (b : Bank) (i j s : Nat) (m : RoundMode) (unsigned : Bool) : Bank × Int :=
  let a := signed 40 (b.acc i j).toNat
  let r := if unsigned then fixedOut m 16 0 65535 a s else fixedOut m 15 (-32768) 32767 a s
  (b.flag r.2, r.1)

/-- Element `e` of vector register `v`. -/
def Bank.elem (b : Bank) (v e : Nat) : BitVec 32 := tget (fun _ => 0) b.vector (512 * v + e)

/-- An elementwise operation on the 512 lanes of vector registers into register `d` (R141). -/
def Bank.lanes (b : Bank) (d : Nat) (f : Nat → BitVec 32) : Bank :=
  { b with vector := tsetList (fun _ => 0) b.vector (512 * d) ((List.range 512).map f) }

/-- Operations of one and of two FP32 registers, the fused multiply-add, and those of INT32, on every lane (R141). -/
def Bank.vec1 (b : Bank) (f : Nat → Nat) (d x : Nat) : Bank := b.lanes d fun e => BitVec.ofNat 32 (f (b.elem x e).toNat)
def Bank.vec2 (b : Bank) (f : Nat → Nat → Nat) (d x y : Nat) : Bank :=
  b.lanes d fun e => BitVec.ofNat 32 (f (b.elem x e).toNat (b.elem y e).toNat)
def Bank.vec3 (b : Bank) (f : Nat → Nat → Nat → Nat) (d x y z : Nat) : Bank :=
  b.lanes d fun e => BitVec.ofNat 32 (f (b.elem x e).toNat (b.elem y e).toNat (b.elem z e).toNat)
def Bank.vecInt (b : Bank) (o : IntOp) (d x y : Nat) : Bank := b.lanes d fun e => o.run (b.elem x e) (b.elem y e)

/-- The packed BF16 fused multiply-add: the lower halves of the lanes accumulate in registers `d`, the upper halves in `d + 1` (R141; the
places are DESIGN CHOICE, log 31). -/
def Bank.vecBf16 (b : Bank) (d x y : Nat) : Bank :=
  let half (k e : Nat) : BitVec 32 :=
    BitVec.ofNat 32 (vFmaBf16 ((b.elem x e).toNat / 2 ^ (16 * k) % 2 ^ 16) ((b.elem y e).toNat / 2 ^ (16 * k) % 2 ^ 16) (b.elem (d + k) e).toNat)
  (b.lanes d (half 0)).lanes (d + 1) (half 1)

end Sys2Proof.Machine
end

