-- ==== Sys2Proof/Safety.lean ====
section
/-! DEFINITION. What statements about the machine are written in: the parts of the state, frames, the canonical form of memory,
and what a safe step is. -/
namespace Sys2Proof.Machine

/-- The parts of the state. -/
inductive Part where
  | hrt | pins | boot | thm | seats | taken | port | att | regs | live | staged | events | later | ops | loops | eng | plan | mov | est | porches | cages | lanes | cals | twn | til | mem | shelves | pantryRetired | upd | flash | ram | readData | free | pending
  deriving DecidableEq, Repr

/-- A part is the same in two states. -/
def Part.same (p : Part) (s t : State) : Prop :=
  match p with
  | .hrt => t.hrt = s.hrt
  | .pins => t.pins = s.pins
  | .boot => t.boot = s.boot
  | .thm => t.thm = s.thm
  | .seats => t.seats = s.seats
  | .taken => t.taken = s.taken
  | .port => t.port = s.port
  | .att => t.att = s.att
  | .regs => t.regs = s.regs
  | .live => t.live = s.live
  | .staged => t.staged = s.staged
  | .events => t.events = s.events
  | .later => t.later = s.later
  | .ops => t.ops = s.ops
  | .loops => t.loops = s.loops
  | .eng => t.eng = s.eng
  | .plan => t.plan = s.plan
  | .mov => t.mov = s.mov
  | .est => t.est = s.est
  | .porches => t.porches = s.porches
  | .cages => t.cages = s.cages
  | .lanes => t.lanes = s.lanes
  | .cals => t.cals = s.cals
  | .twn => t.twn = s.twn
  | .til => t.til = s.til
  | .mem => t.mem = s.mem
  | .shelves => t.shelves = s.shelves
  | .pantryRetired => t.pantryRetired = s.pantryRetired
  | .upd => t.upd = s.upd
  | .flash => t.flash = s.flash
  | .ram => t.ram = s.ram
  | .readData => t.readData = s.readData
  | .free => t.free = s.free
  | .pending => t.pending = s.pending

/-- The frame: `t` is `s` but for the listed parts. -/
def SameBut (l : List Part) (s t : State) : Prop := ∀ p, p ∉ l → p.same s t

/-- The parts of the state that each command may change; every other part stands. -/
def touches : Instr → List Part
  | .porAssert => [.hrt, .pins, .boot, .thm, .seats, .taken, .port, .att, .regs, .live, .staged, .events, .later, .ops, .loops, .eng, .plan, .mov, .est, .porches, .cages, .lanes, .cals, .twn, .til, .mem, .shelves, .pantryRetired, .upd, .flash, .ram, .readData, .free]
  | .porDeassert => [.pins, .boot, .att, .regs, .events, .mem, .upd, .flash]
  | .configurationReady _ _ _ => [.boot, .att, .events, .loops, .plan, .porches, .til, .mem]
  | .timebaseAbsent => [.pins, .att, .regs, .events]
  | .tickZero => [.hrt, .pins, .boot, .thm, .seats, .taken, .port, .att, .regs, .live, .staged, .events, .later, .ops, .loops, .eng, .plan, .mov, .est, .porches, .cages, .lanes, .cals, .twn, .til, .mem, .shelves, .pantryRetired, .upd, .flash, .ram, .readData, .free]
  | .tick _ => [.hrt, .pins, .boot, .thm, .seats, .taken, .port, .att, .regs, .live, .staged, .events, .later, .ops, .loops, .eng, .plan, .mov, .est, .porches, .cages, .lanes, .cals, .twn, .til, .mem, .shelves, .pantryRetired, .upd, .flash, .ram, .readData, .free]
  | .ppsSecond => [.hrt, .pins]
  | .timebaseLoss => [.hrt, .pins, .att, .regs, .events]
  | .timebaseReturn => [.hrt]
  | .tickInEdge _ => [.hrt, .regs]
  | .timeCellRx _ _ => [.hrt, .regs, .porches, .twn]
  | .alignmentStep _ => [.hrt, .regs]
  | .lockGained => [.hrt, .events]
  | .referenceLost => [.hrt, .events]
  | .epochArm => [.ops]
  | .epochStep => [.hrt, .regs, .events]
  | .guardSlotStart _ => [.loops, .plan, .til]
  | .yieldPoint _ => [.regs, .til]
  | .forcedPreemption _ _ => [.att, .regs, .til]
  | .contextSwitch _ _ => [.til]
  | .emitDeadline => [.hrt, .pins, .att, .regs, .events, .loops, .porches, .twn, .free]
  | .overrunFreeze _ => [.att, .regs, .events, .loops]
  | .lateFillSnapshot => [.regs, .loops, .porches, .twn, .free]
  | .cellClose _ _ _ => [.hrt, .regs, .loops, .porches, .free]
  | .halt _ => [.hrt, .pins, .regs, .loops, .porches, .free]
  | .lossOfLight _ => [.hrt, .regs, .events, .porches, .cages, .lanes, .cals, .free]
  | .supervisorFatal => [.hrt, .pins, .att, .regs, .events, .loops, .porches, .twn, .free]
  | .guardMismatch => [.hrt, .pins, .att, .regs, .events, .loops, .porches, .twn, .free]
  | .planValidate => [.ops]
  | .validationEnd _ => [.plan]
  | .planCommit _ => [.ops]
  | .planCancel => [.ops]
  | .commitTakeEffect => [.hrt, .att, .regs, .staged, .events, .loops, .eng, .plan, .mov, .est, .porches, .twn, .til, .mem, .shelves, .ram, .free]
  | .bridgeEnd => [.events, .plan, .mov]
  | .tableClaim _ => [.ops]
  | .copyActiveDone _ => [.plan]
  | .tableReady => [.ops]
  | .tableRelease => [.ops]
  | .tableSwap => [.ops]
  | .tableRevert => [.ops]
  | .swapTakeEffect => [.regs, .events, .plan, .mov]
  | .tableWindowAccess _ _ _ => [.plan, .readData]
  | .placementSelect => [.hrt, .pins, .att, .regs, .events, .loops, .plan, .est, .porches, .twn, .til, .ram, .free]
  | .variantSwitch => [.events, .plan, .est, .til, .ram]
  | .copyIssue _ _ _ => [.til, .mem]
  | .copyFence _ _ => [.til]
  | .beatComplete _ _ _ _ => [.hrt, .pins, .att, .regs, .events, .loops, .plan, .porches, .twn, .til, .mem, .shelves, .pantryRetired, .ram, .free]
  | .cellarTimeout _ _ _ => [.til, .mem]
  | .retireSwitch _ => [.mem]
  | .faultRetry _ _ => [.til]
  | .faultLimit _ => [.til]
  | .scratchUe _ _ => [.regs, .events, .loops, .plan, .til]
  | .partitionViolation _ _ => [.loops, .plan, .til]
  | .hopDown _ => [.events, .loops, .plan, .til]
  | .jobStart _ _ => [.taken, .att, .events, .til, .mem]
  | .jobAdmitted _ => [.til, .ram]
  | .jobPark _ _ => [.taken, .regs, .til, .ram]
  | .jobResume _ _ => [.taken, .regs, .til, .ram]
  | .jobStop _ _ => [.taken, .regs, .til, .ram]
  | .jobExit _ _ => [.til]
  | .patchCell _ _ _ _ _ => [.regs, .events, .est, .porches, .shelves]
  | .tapCell _ _ _ _ => [.regs, .events, .mov, .porches, .shelves, .pantryRetired]
  | .cutoff _ _ => [.regs, .events, .est, .shelves, .pantryRetired]
  | .estimateLands _ _ => [.hrt, .regs, .loops, .est, .porches, .til, .free]
  | .adaptCandidate _ _ => [.plan, .est]
  | .adaptDone _ _ => [.att, .events, .plan, .est]
  | .rebuildRoundEnd _ _ => [.events, .plan, .est]
  | .loopCtlStart _ => [.ops]
  | .loopCtlOff _ => [.ops]
  | .loopCtlFreeze _ => [.ops]
  | .loopCtlRelease _ => [.ops]
  | .releaseAll _ => [.ops]
  | .setpointWrite _ _ => [.loops]
  | .handOver _ => [.loops]
  | .acquisitionComplete _ => [.loops]
  | .search _ => [.loops]
  | .acqTimeout _ => [.att, .regs, .events, .loops]
  | .warmUpEnd _ => [.loops]
  | .implausible _ => [.att, .regs, .events, .loops]
  | .stateEcc _ => [.hrt, .pins, .att, .regs, .events, .loops, .porches, .twn, .free]
  | .datapathMismatch _ => [.eng]
  | .descLoad => [.ops]
  | .descWrite => [.ops]
  | .descCancel => [.ops]
  | .descTakeEffect => [.regs, .events, .loops, .eng]
  | .traceArm _ => [.eng]
  | .trigNow _ => [.eng]
  | .traceWrite _ _ => [.eng, .ram]
  | .stepEdge _ _ => [.eng]
  | .pwmPeriod _ _ _ => [.eng]
  | .pwmStale _ => [.events, .eng]
  | .clrCount _ => [.ops]
  | .move _ _ => [.taken, .events, .mov]
  | .abort _ => [.taken, .regs, .events, .later, .ops, .loops, .mov, .ram]
  | .rearm _ => [.ops]
  | .rearmAll => [.ops]
  | .planningStart => [.events, .loops, .mov, .est]
  | .planningDone _ _ _ => [.hrt, .regs, .events, .mov, .porches, .free]
  | .moveStart _ => [.events, .loops, .mov]
  | .legEnd _ _ => [.loops, .mov]
  | .pathReady _ => [.mov]
  | .settleTimeout _ => [.mov]
  | .deadlineMissed _ => [.events, .loops, .mov]
  | .pathLoss _ => [.events, .mov]
  | .reflexTrip _ => [.hrt, .regs, .events, .loops, .mov, .est, .porches, .free]
  | .schedCell _ => [.loops, .mov]
  | .gddr7DeviceLost _ => [.att, .events, .til, .mem]
  | .cellarApply => [.mem]
  | .shelfWrite _ _ => [.regs, .events, .shelves]
  | .shelfSwap _ => [.regs, .events, .shelves]
  | .shelfPop _ _ _ _ => [.regs, .events, .shelves, .pantryRetired, .readData]
  | .staleTimer _ => [.regs, .events, .shelves]
  | .flush _ => [.regs, .events, .shelves]
  | .empty _ => [.shelves]
  | .codewordLock _ _ => [.porches, .lanes]
  | .lockLoss _ _ => [.porches, .lanes, .cals]
  | .lseqGap _ _ => [.regs, .porches]
  | .commandCell _ => [.regs, .loops, .porches, .twn, .free]
  | .ackCell _ _ => [.regs, .porches, .twn]
  | .faultCell _ _ => [.hrt, .regs, .events, .loops, .porches, .free]
  | .grantCell _ _ => [.regs, .porches, .twn]
  | .withdrawCell _ => [.hrt, .regs, .porches, .twn, .free]
  | .stateCell _ => [.regs, .porches, .twn]
  | .healthCell _ _ => [.regs, .porches]
  | .echoReply _ _ _ _ => [.regs, .porches]
  | .laneCell _ _ _ _ _ => [.regs, .porches, .lanes, .cals, .free]
  | .resyncCell _ => [.regs, .porches, .twn, .upd]
  | .ident _ _ => [.regs, .events, .porches, .free]
  | .windows _ _ => [.regs, .porches]
  | .holding _ _ => [.regs, .porches]
  | .scale _ _ => [.regs, .porches]
  | .configAck _ _ _ => [.regs, .events, .porches]
  | .imgResult _ _ => [.regs, .porches, .upd]
  | .porchLost _ => [.hrt, .pins, .att, .regs, .events, .loops, .porches, .twn, .free]
  | .rediscover _ => [.porches]
  | .headReset _ => [.porches]
  | .echoNow _ => [.porches]
  | .moduleInsert _ _ _ => [.events, .cages]
  | .moduleRemove _ => [.events, .cages]
  | .moduleInt _ _ _ _ => [.cages]
  | .monitorPoll _ _ _ _ => [.cages]
  | .probe _ => [.porches, .cages]
  | .probeEnd _ _ => [.porches, .cages]
  | .lightReturn _ _ => [.porches, .cages]
  | .latchClear _ => [.events, .porches, .cages]
  | .calRunStart _ => [.lanes, .cals]
  | .rampStep _ _ => [.lanes, .cals]
  | .noAnswer _ => [.regs, .events, .porches, .lanes, .cals]
  | .calLockRegained _ => [.regs, .events, .lanes, .cals]
  | .lockFailed _ => [.regs, .events, .lanes, .cals]
  | .compatApply _ _ => [.regs, .porches, .lanes, .cals, .free]
  | .baselineFormed _ _ => [.events, .lanes]
  | .baselineWrite _ _ _ => [.lanes]
  | .calNow _ _ => [.cals]
  | .restore _ _ => [.cals]
  | .laneReturn _ _ => [.cals]
  | .calAbort _ => [.cals]
  | .heartbeatEdge => [.twn]
  | .heartbeatLost => [.events, .twn]
  | .claim _ => [.regs, .porches, .twn, .free]
  | .claimDecision => [.hrt, .regs, .events, .loops, .mov, .porches, .twn, .free]
  | .reassert => [.regs, .porches, .free]
  | .rejoin => [.ops]
  | .resyncStart => [.hrt, .regs, .porches, .twn, .free]
  | .seatBound _ => [.seats, .events]
  | .clearingDone _ => [.seats, .ram]
  | .seatReset _ _ => [.seats, .taken, .port, .events, .mov, .upd]
  | .perst => [.seats, .taken, .port, .events, .mov, .upd]
  | .linkDown => [.seats, .taken, .port, .events, .mov, .upd]
  | .linkUp _ _ => [.port, .events]
  | .featureCommit _ => [.ops]
  | .slotWrite _ _ _ => [.regs, .events, .ram]
  | .ideFail => [.seats, .taken, .port, .events, .mov, .upd]
  | .spdmRequest _ _ => [.port, .upd]
  | .ideKeyManagement _ _ _ => [.port, .upd]
  | .mailboxCommand _ _ => [.port]
  | .fmApiCommand _ _ => [.port]
  | .enrollKey => [.ops]
  | .revokeKey => [.ops]
  | .cupboardWriteDone => [.upd]
  | .stage _ => [.ops]
  | .stagingDone _ => [.regs, .porches, .upd, .flash, .free]
  | .activate _ => [.ops]
  | .updateCancel => [.ops]
  | .confirm => [.ops]
  | .fallback => [.ops]
  | .activation _ _ => [.att, .regs, .live, .events, .upd, .flash]
  | .restartEnd => [.port, .att, .regs, .live, .upd, .flash]
  | .selftestEnd _ => [.events, .upd]
  | .healthWindowEnd => [.upd]
  | .fallbackTakeEffect => [.regs, .live, .events, .mem, .upd, .flash]
  | .coalesceWindowEnd _ => [.att]
  | .flashCommit _ => [.att]
  | .flashFail => [.att, .events]
  | .opsecSave => [.att]
  | .atticRead => [.ops]
  | .atticCancel => [.ops]
  | .readDone => [.att, .ram]
  | .shedClear => [.thm, .events]
  | .stepEnd => [.thm, .events]
  | .trip _ _ => [.hrt, .pins, .boot, .thm, .att, .regs, .events, .loops, .porches, .twn, .free]
  | .tripStop => [.pins, .boot, .porches]
  | .supplyFail _ => [.pins, .thm, .att, .regs, .events, .loops, .plan, .til]
  | .iodSupplyFault => [.hrt, .pins, .boot, .thm, .seats, .taken, .port, .att, .regs, .live, .staged, .events, .later, .ops, .loops, .eng, .plan, .mov, .est, .porches, .cages, .lanes, .cals, .twn, .til, .mem, .shelves, .pantryRetired, .upd, .flash, .ram, .readData, .free]
  | .faultClear _ => [.pins, .regs]
  | .timeNsRead _ _ _ _ => [.regs, .events, .plan, .til, .shelves, .pantryRetired, .readData]
  | .rcRead _ _ _ => [.regs, .events, .plan, .til, .shelves, .pantryRetired, .readData]
  | .registerWrite _ _ _ _ => [.pins, .taken, .regs, .staged, .events, .later, .ops, .loops, .eng, .plan, .mov, .porches, .lanes, .cals, .til, .mem, .shelves, .ram, .readData]
  | .haltNDeasserted => [.pins]
  | .iodSupplyReturn => [.pins, .boot, .att, .regs, .events, .mem, .upd, .flash]
  | .uncorrectableCodeword _ _ => [.porches, .lanes, .cals]
  | .cellDropped _ _ _ => [.regs, .events, .est, .porches, .shelves]
  | .frameProgramEnd _ => [.til]
  | .patrolScrub _ _ => [.hrt, .pins, .att, .regs, .events, .loops, .porches, .twn, .mem, .free]
  | .pageZeroed _ _ => [.mem]
  | .jobTableClaim _ _ _ => [.plan]
  | .channelRetraining _ _ => [.mem]
  | .linkRecovery => [.regs]

/-- Whatever next state an outcome answers, it is `s` but for the listed parts. -/
def Frames (l : List Part) (s : State) (o : Host.Outcome State Fault Refusal) : Prop := ∀ t, o = .next t → SameBut l s t

/-- Whatever next state an outcome answers, the relation `R` leads from `s` to it. -/
def After (R : State → State → Prop) (s : State) (o : Host.Outcome State Fault Refusal) : Prop := ∀ t, o = .next t → R s t

/-- Frame number, device time and the count of core cycles stand (R15, R36). -/
def TimeKept (s t : State) : Prop :=
  t.hrt.running = s.hrt.running ∧ t.hrt.frame = s.hrt.frame ∧ t.hrt.time = s.hrt.time ∧ t.hrt.phase = s.hrt.phase
    ∧ t.hrt.cycles = s.hrt.cycles ∧ t.hrt.adopt = s.hrt.adopt

/-- Time stands, and so does all that the length of the frame follows from (R17, R18, R45). -/
def ClockKept (s t : State) : Prop :=
  TimeKept s t ∧ t.hrt.cfg = s.hrt.cfg ∧ t.hrt.lock = s.hrt.lock ∧ t.hrt.steer = s.hrt.steer ∧ t.hrt.alignBy = s.hrt.alignBy

/-- The RAM stays in its canonical form. -/
def RamKept (s t : State) : Prop := Memory.wf s.ram = true → Memory.wf t.ram = true

/-- The fused security version does not fall (R439). -/
def SvnKept (s t : State) : Prop := s.flash.fusedSvn ≤ t.flash.fusedSvn

/-- The unit stays in recovery, or out of it (R438). -/
def RecoveryKept (s t : State) : Prop := t.upd.recovery = s.upd.recovery

/-- The trip latch and the stop that it caused hold (R486). -/
def TripKept (s t : State) : Prop :=
  (s.boot.tripLatch = true → t.boot.tripLatch = true) ∧ (s.boot.stopped = true → t.boot.stopped = true)

/-- The commands that move time: the tick, tick 0, an alignment step, and the whole-device resets (R15, R47, R476). -/
def movesTime : Instr → Bool
  | .tick _ | .tickZero | .alignmentStep _ | .porAssert | .iodSupplyFault => true
  | _ => false

/-- The accesses that the registers do not accept: not naturally aligned for their width (R8). -/
def unalignedAccess : Instr → Bool
  | .timeNsRead _ o w _ | .rcRead _ o w | .registerWrite _ o w _ => !aligned w o.toNat
  | .tableWindowAccess o w _ => !aligned w o.toNat
  | _ => false

/-- A host write that runs past the end of the 256 MB Hall window (R407). -/
def pastHall : Instr → Bool
  | .slotWrite _ o l => decide (2 ^ 28 < o.toNat + l.length)
  | _ => false

/-- The register file is in its canonical form. -/
abbrev RegsCanonical (s : State) : Prop := twf regReset s.regs = true

/-- Every numbered table of the state is in its canonical form: keys rise, and no entry equals its reset value. -/
structure Canonical (s : State) : Prop where
  regs      : twf regReset s.regs = true
  ram       : Memory.wf s.ram = true
  seats     : twf (fun _ => ({} : Seat)) s.seats = true
  loops     : twf (fun _ => ({} : Loop)) s.loops = true
  porches   : twf (fun _ => ({} : Porch)) s.porches = true
  cages     : twf (fun _ => ({} : Cage)) s.cages = true
  lanes     : twf (fun _ => ({} : Lane)) s.lanes = true
  cals      : twf (fun _ => ({} : CalRun)) s.cals = true
  shelves   : twf (fun _ => ({} : Shelf)) s.shelves = true
  tiles     : twf (fun _ => ({} : Tile)) s.til.tiles = true
  jobs      : twf (fun _ => ({} : Job)) s.til.jobs = true
  devs      : twf (fun _ => ({} : Gddr7)) s.mem.devs = true
  zeroing   : twf (fun _ => 0) s.mem.zeroing = true
  occasions : twf (fun _ => 0) s.mem.occasions = true
  paths     : twf (fun _ => ({} : PathRec)) s.mov.paths = true
  service   : twf (fun _ => ({} : Service)) s.mov.service = true
  reflexes  : twf (fun _ => ({} : Reflex)) s.mov.reflexes = true
  tapNow    : twf (fun _ => ({} : TapReading)) s.mov.tapNow = true
  inputs    : twf (fun _ => ({} : SpInput)) s.eng.inputs = true
  channels  : twf (fun _ => ({} : Channel)) s.eng.channels = true
  patches   : twf (fun _ => ({} : Patch)) s.est.patches = true
  dies      : twf (fun _ => ({} : Die)) s.thm.dies = true
  loads     : twf (fun _ => ({} : TableLoad)) s.plan.loads = true

/-- `FAULT_N` is asserted for cause `c`: the bit of `THM_FAULT` is set, and the pin has gone low if the bit is new (R490). -/
abbrev FaultAsserted (c : Nat) (s t : State) : Prop :=
  bitAt (t.reg Reg.THM_FAULT) c = true ∧ (bitAt (s.reg Reg.THM_FAULT) c = false → t.pins.faultN = false)

/-- A notice of bit `b` of source `src` to the Owner seat waits for the next tick. -/
abbrev Notified (src b : Nat) (obj arg : Nat) (t : State) : Prop := Event.mk src 0 b obj arg [] [0] ∈ t.events

end Sys2Proof.Machine
end

