-- ==== Sys2Proof/Certificates/Slice0/Obligations.lean ====
section
/-! DEFINITION. The statements for the provers. -/
open Sys2Proof Sys2Proof.Machine

-- The machine -----------------------------------------------------------------------------------------------------------

/-- O1. A step takes the command at the front of the queue and runs it with the rest of the queue. With nothing in the
queue the block idles: the step answers the state itself (the model's choice, log 1). -/
def Obligations.StepRunsFrontCommand : Prop :=
  (∀ (s : State) (c : Instr) (r : List Instr), s.pending = c :: r → step s = exec c { s with pending := r })
  ∧ (∀ s : State, s.pending = [] → step s = .next s)

/-- O2. Every step removes the front command from the queue and nothing else, and whatever else it changes lies in the parts
that the table `touches` names for that command. -/
def Obligations.StepFrame : Prop :=
  ∀ (s t : State) (c : Instr) (r : List Instr), s.pending = c :: r → step s = .next t →
    t.pending = r ∧ SameBut (touches c ++ [.pending]) s t

/-- O3. Every step keeps the canonical form of the addressed RAM, and of every numbered table of the state: keys rise, and no entry
equals what an entry not listed reads as, so that equal contents are equal data.
Where the rules leave room, it follows the model's choices and readings in log entry 7. -/
def Obligations.StepKeepsTables : Prop :=
  ∀ s t : State, step s = .next t → (Memory.wf s.ram = true → Memory.wf t.ram = true) ∧ (Canonical s → Canonical t)

/-- O4. Frame number, device time and the cycle count change at a tick, by an alignment step and by a whole-device reset, and by
nothing else: no seat reset, plan commit or firmware activation stops or resets the Hearth (R15, R16). -/
def Obligations.OnlyTicksMoveTime : Prop :=
  ∀ (c : Instr) (s t : State), movesTime c = false → exec c s = .next t → TimeKept s t

/-- O5. The fused security version never falls, whatever command runs in whatever state (R439). -/
def Obligations.FusedVersionNeverFalls : Prop :=
  ∀ (c : Instr) (s t : State), exec c s = .next t → s.flash.fusedSvn ≤ t.flash.fusedSvn

/-- O6. A tripped unit leaves the trip only through a whole-device reset: `POR_N`, an IOD supply fault, or the reset that
ends a recovery (R476, R486). After a TICK the latch is clear only where that reset has stopped the Hearth. -/
def Obligations.TripHoldsUntilReset : Prop :=
  ∀ (c : Instr) (s t : State), c ≠ .porAssert → c ≠ .iodSupplyFault → exec c s = .next t → s.boot.tripLatch = true →
    t.boot.tripLatch = true ∨ (t.hrt.running = false ∧ ((∃ x, c = .tick x) ∨ c = .tickZero))

/-- O7. The only commands that stop are an access that is not naturally aligned and a host write past the end of a Hall
window; every other command completes in every state. -/
def Obligations.OnlyBadAccessesStop : Prop :=
  ∀ (c : Instr) (s : State),
    (unalignedAccess c = true → exec c s = .fault .unaligned) ∧ (pastHall c = true → exec c s = .fault .outsideHall)
    ∧ (unalignedAccess c = false → pastHall c = false → ∃ t, exec c s = .next t)


-- Reset, boot and the Hearth ----------------------------------------------------------------------------------------------

/-- O8. What reset leaves: the values the spec gives (02, 13, 14, 15, 17 and the register tables). -/
def Obligations.ResetLeaves : Prop :=
  let s := State.reset
  s.hrt.running = false ∧ s.hrt.frame = 0 ∧ s.hrt.time = 0 ∧ s.hrt.lock = .free
    ∧ s.hrt.cfg = ⟨75000, 60000, 4800, 0, 48000, 48000, 57600, 48000, 60000, 71400, 75000⟩
    ∧ s.pins.faultN = true ∧ s.pins.tickOut = false ∧ s.pins.hbOut = false ∧ s.pins.ppsOut = false
    ∧ s.twn.role = .none ∧ s.plan.committed = false ∧ (∀ i, (s.seat i).state = .unbound)
    ∧ (∀ l, (s.loop l).cls = .off) ∧ (∀ p, (s.porch p).state = .down) ∧ (∀ p, p < 16 → (s.porch p).squelch = 511) ∧ s.pending = []
    ∧ (∀ a, s.reg a = regReset a) ∧ Canonical s

/-- O9. The whole-device resets and the boot (R438, R462, R476, R478). `POR_N` and an IOD supply fault return everything but
flash, the durable Attic and the inputs to its reset value; the boot begins when `POR_N` is deasserted and no IOD supply
holds the device; it ends with configuration ready.
Where the rules leave room, it follows the model's choices and readings in log entries 2, 7 and 40. -/
def Obligations.WholeDeviceReset : Prop :=
  (∀ s : State, ∃ t, exec .porAssert s = .next t
      ∧ t = { State.reset with flash := t.flash, att := t.att, mem := t.mem, pins := t.pins, free := s.free + 1, pending := s.pending }
      ∧ (s.flash.burnTo = none → t.flash.fusedSvn = s.flash.fusedSvn)
      ∧ (∀ n, s.flash.burnTo = some n → s.flash.fusedSvn ≤ n → s.flash.fusedSvn ≤ t.flash.fusedSvn ∧ t.flash.fusedSvn ≤ n)
      ∧ t.flash.burnTo = none ∧ t.flash.confirmed = s.flash.confirmed ∧ t.flash.slotA = s.flash.slotA
      ∧ t.flash.slotB = s.flash.slotB ∧ t.flash.cups = s.flash.cups
      ∧ t.att.nextNum = s.att.nextNum ∧ t.mem = { cupboard := s.mem.cupboard }
      ∧ t.pins = { haltN := s.pins.haltN, porN := false })
  ∧ (∀ s : State, ∃ t, exec .iodSupplyFault s = .next t ∧ t.boot = { supplyHold := true }
      ∧ t = { State.reset with flash := t.flash, att := t.att, mem := t.mem, pins := t.pins, free := s.free + 1, pending := s.pending
                               boot := { supplyHold := true } }
      ∧ t.pins = { haltN := s.pins.haltN, porN := s.pins.porN })
  ∧ (∀ s : State, s.boot.started = false → s.boot.supplyHold = false → ∃ t, exec .porDeassert s = .next t
      ∧ t.pins.porN = true ∧ t.boot = { s.boot with started := true } ∧ t.hrt = s.hrt
      ∧ t.att.cycles = (s.att.cycles + 1) % 2 ^ 32 ∧ t.att.opsec = s.att.opsecSaved + 60)
  ∧ (∀ s : State, s.boot.supplyHold = true → s.pins.porN = true → ∃ t, exec .iodSupplyReturn s = .next t
      ∧ t.boot = { s.boot with started := true, supplyHold := false } ∧ t.hrt = s.hrt
      ∧ t.att.cycles = (s.att.cycles + 1) % 2 ^ 32 ∧ t.att.opsec = s.att.opsecSaved + 60)
  ∧ (∀ (s : State) (ms : BitVec 32), s.boot.started = true → s.boot.ready = false → twf (fun _ => ({} : Porch)) s.porches = true →
      ∃ t, exec (.configurationReady ms [] []) s = .next t
        ∧ t.boot = { s.boot with ready := true, ms := ms.toNat, stage := if s.upd.recovery then 0xFE else 5, powerUp := true }
        ∧ (∀ p, p < 16 → t.porch p = { s.porch p with squelch := 0 }) ∧ SameBut [.boot, .porches] s t)

/-- O10. A tick raises the frame number by one, or takes the number that an alignment step adopts (R15, R47), and the frame it
ends was its period long, but for a steering correction of at most S cycles and the alignment step (R18). A unit that holds
authority at that tick goes on without a step. Tick 0 starts the Hearth with frame 0 and device time 0 (R15), once the boot runs
and the Hearth does not. In recovery, and there alone, a reset may end the tick and stop the Hearth (R438).
Where the rules leave room, it follows the model's choices and readings in log entry 32. -/
def Obligations.TickAdvancesTheFrame : Prop :=
  (∀ (s : State) (x : TickIn), s.hrt.running = true → steerMax s.hrt.cfg ≤ s.hrt.cfg.period →
     let goesOn := (s.closeFrame x).timeGoesOn
     let step := if goesOn then 0 else s.hrt.alignBy
     ∃ t, exec (.tick x) s = .next t
       ∧ (s.upd.recovery = false → t.hrt.running = true)
       ∧ (t.hrt.running = true →
           t.hrt.frame = (match s.hrt.adopt with | some (f, _) => if goesOn then s.hrt.frame + 1 else f | none => s.hrt.frame + 1)
           ∧ t.hrt.adopt = none ∧ t.hrt.emitted = false
           ∧ s.hrt.cycles + s.hrt.cfg.period + step - steerMax s.hrt.cfg ≤ t.hrt.cycles
           ∧ t.hrt.cycles ≤ s.hrt.cycles + s.hrt.cfg.period + step + steerMax s.hrt.cfg))
  ∧ (∀ s : State, s.boot.started = true → s.hrt.running = false → ∃ t, exec .tickZero s = .next t
        ∧ (s.upd.recovery = false → t.hrt.running = true)
        ∧ (t.hrt.running = true → t.hrt.frame = 0 ∧ t.hrt.time = 0 ∧ t.hrt.cycles = 0 ∧ t.hrt.adopt = none))

/-- O11. The time base and `PPS_OUT` (R44, R49, R479). -/
def Obligations.TimebaseAndPps : Prop :=
  ∀ s : State, RegsCanonical s →
    (s.hrt.timebaseOk = true → ∃ t, exec .timebaseLoss s = .next t
      ∧ t.hrt = { s.hrt with timebaseOk := false, timebaseBack := false } ∧ FaultAsserted 4 s t ∧ Notified Src.hrt 4 noObj 0 t
      ∧ ⟨0x0003, Sev.critical, 0, s.frameBytes⟩ ∈ t.att.waiting ∧ (∀ a, a ≠ Reg.THM_FAULT → t.reg a = s.reg a)
      ∧ SameBut [.hrt, .pins, .att, .regs, .events] s t)
    ∧ (s.hrt.running = true → s.hrt.timebaseOk = false →
        exec .timebaseReturn s = .next { s with hrt := { s.hrt with timebaseBack := true } })
    ∧ (s.boot.started = true → s.hrt.running = false → ∃ t, exec .timebaseAbsent s = .next t ∧ FaultAsserted 11 s t
        ∧ (∀ a, a ≠ Reg.THM_FAULT → t.reg a = s.reg a) ∧ SameBut [.pins, .att, .regs, .events] s t)
    ∧ (s.hrt.running = true → s.secondInFrame = true → bitAt (s.cfgReg Reg.HRT_CTL) 6 = true →
        exec .ppsSecond s = .next { s with
          pins := { s.pins with ppsOut := true }, hrt := { s.hrt with ppsRise := some s.hrt.cycles } })

/-- O12. Following a reference (R43, R45 to R48): an edge, corrected for the configured delay, gives the phase of the frame; a
TIME cell of the reference shows that the reference lives; the one alignment step of an ACQUIRE lengthens the frame; LOCKED
follows 64 near frames; three silent frames lose the reference. -/
def Obligations.FollowingTheReference : Prop :=
  ∀ s : State, RegsCanonical s →
    (∀ off : Int, s.hrt.running = true → s.follows = true → s.hrt.lock ≠ .locked → s.hrt.lock ≠ .holdover →
      ∃ t, exec (.tickInEdge off) s = .next t
        ∧ t.hrt = { s.hrt with edgeNow := true, phaseNow := some (off - (s.inForce Reg.HRT_TICKIN_CFG 32 16 : Nat)) }
        ∧ SameBut [.hrt, .regs] s t ∧ (∀ a, a ≠ Reg.HRT_PHASE → t.reg a = s.reg a))
    ∧ (∀ off : Int, s.hrt.lock = .locked →
        withinCycles (steerMax s.hrt.cfg + 16) (off - (s.inForce Reg.HRT_TICKIN_CFG 32 16 : Nat)) = false →
        exec (.tickInEdge off) s = .next { s with hrt := { s.hrt with edgeNow := true } })
    ∧ (∀ (c : TimeCell) (off : Int), s.landingUp = true → s.hrt.running = true → s.isRef = false → s.tickinMode = 1 →
        s.hrt.lock = .acquire → ∃ t, exec (.timeCellRx c off) s = .next t
        ∧ t.hrt.cellNow = true ∧ t.hrt.refCell = some c ∧ t.hrt.refFrame = s.hrt.frame
        ∧ t.hrt.frame = s.hrt.frame ∧ t.hrt.lock = .acquire
        ∧ (c.stepPending = true → t.hrt.epochStep = some (c.stepTick, c.stepTime))
        ∧ SameBut [.hrt, .porches, .regs, .twn] s t)
    ∧ (∀ n : BitVec 21, s.hrt.running = true → s.hrt.lock = .acquire → s.hrt.aligned = false → s.isRef = false →
        s.follows = true → (s.tickinMode = 1 → s.hrt.refCell.isSome = true) → n.toNat < s.hrt.cfg.period →
        ∃ t, exec (.alignmentStep n) s = .next t ∧ t.hrt.alignBy = n.toNat ∧ t.hrt.aligned = true
          ∧ t.hrt.frame = s.hrt.frame ∧ (s.tickinMode ≠ 1 → t.hrt.adopt = none)
          ∧ (∀ a, a ≠ Reg.HRT_OVR_TOTAL → t.reg a = s.reg a) ∧ SameBut [.hrt, .regs] s t)
    ∧ (s.hrt.lock = .acquire → 64 ≤ s.nearNext → s.hrt.aligned = true → s.follows = true →
        ∃ t, exec .lockGained s = .next t ∧ t.hrt = { s.hrt with lock := .locked } ∧ Notified Src.hrt 3 noObj 0 t
          ∧ SameBut [.hrt, .events] s t)
    ∧ (s.hrt.lock = .locked → 3 ≤ s.silentNext →
        ∃ t, exec .referenceLost s = .next t ∧ t.hrt = { s.hrt with lock := .holdover } ∧ Notified Src.hrt 2 noObj 0 t
          ∧ SameBut [.hrt, .events] s t)
    ∧ (s.hrt.lock = .acquire → 3 ≤ s.silentNext →
        ∃ t, exec .referenceLost s = .next t ∧ t.hrt = { s.hrt with lock := .free } ∧ SameBut [.hrt, .events] s t)

/-- O13. An epoch step (R38, R39): EPOCH_ARM is kept for the next tick, and at its tick a pending step gives device time its new
value, shows DONE, and raises its notice; before that tick the row changes nothing.
The device refuses a late EPOCH_ARM and one on a unit that is not the time reference (R39), and takes up any other that
finds no step pending, for the tick it names or the fourth tick on.
Where the rules leave room, it follows the model's choices and readings in log entry 35. -/
def Obligations.EpochSteps : Prop :=
  (∀ s : State, RegsCanonical s →
     exec .epochArm s = .next { s with ops := { s.ops with epochArm := true } }
     ∧ (∀ k v : Nat, s.hrt.epochStep = some (k, v) → k ≤ s.nextTick → ∃ t, exec .epochStep s = .next t
         ∧ t.hrt = { s.hrt with epochStep := none, setTime := some v } ∧ t.field Reg.HRT_STATUS 8 3 = 2
         ∧ Notified Src.hrt 0 noObj 0 t ∧ (∀ a, a ≠ Reg.HRT_STATUS → t.reg a = s.reg a) ∧ SameBut [.hrt, .regs, .events] s t)
     ∧ (∀ k v : Nat, s.hrt.epochStep = some (k, v) → s.nextTick < k → exec .epochStep s = .next s))
  ∧ (∀ s : State, RegsCanonical s → s.ops.epochArm = true →
        let at_ := (s.reg Reg.HRT_EPOCH_TICK).toNat
        (at_ ≠ 0 → at_ < s.nextTick + 4 → s.takeArm.field Reg.HRT_STATUS 8 3 = 3 ∧ s.takeArm.hrt = s.hrt)
        ∧ (at_ = 0 ∨ s.nextTick + 4 ≤ at_ → s.isRef = false → s.takeArm.field Reg.HRT_STATUS 8 3 = 4 ∧ s.takeArm.hrt = s.hrt)
        ∧ (at_ = 0 ∨ s.nextTick + 4 ≤ at_ → s.isRef = true → s.hrt.epochStep = none →
            s.takeArm.field Reg.HRT_STATUS 8 3 = 1
            ∧ s.takeArm.hrt = { s.hrt with epochStep := some (if at_ = 0 then s.nextTick + 4 else at_,
                (s.reg Reg.HRT_EPOCH_NS).toNat * 65536 + s.field Reg.HRT_EPOCH_FRAC 0 16) })
        ∧ s.takeArm.ops = { s.ops with epochArm := false })

-- Guard events, the governor and FAULT_N ----------------------------------------------------------------------------------

/-- O14. Pulses on `HALT_N` (R26): one of 40 ns or longer is always detected; a shorter one is ignored or acts as a longer one. -/
def Obligations.HaltPulses : Prop :=
  ∀ (s : State) (low : Nat),
    (40 ≤ low → ∃ t, exec (.halt low) s = .next t ∧ t.pins = { s.pins with haltN := false } ∧ t.hrt.guardNow = true)
    ∧ (low < 40 → exec (.halt low) s = .next { s with free := s.free + 1 } ∨ exec (.halt low) s = exec (.halt 40) s)

/-- O15. `HALT_N` freezes (R24, R206): a detected pulse gives every loop that is not OFF the freeze cause HALT for the next tick,
whatever the role of the unit, and leaves loops in OFF alone; the deasserted level only shows on the pin (R209). -/
def Obligations.HaltFreezesEveryLoop : Prop :=
  ∀ s : State, twf (fun _ => ({} : Loop)) s.loops = true →
    (∀ low : Nat, 40 ≤ low → ∃ t, exec (.halt low) s = .next t
      ∧ (∀ l, (s.loop l).cls ≠ .off → t.loop l = { s.loop l with frzWait := joinFreeze 1 (s.loop l).frzWait })
      ∧ (∀ l, (s.loop l).cls = .off → t.loop l = s.loop l)
      ∧ SameBut [.hrt, .pins, .regs, .loops, .porches, .free] s t)
    ∧ exec .haltNDeasserted s = .next { s with pins := { s.pins with haltN := true } }

/-- O16. The trip (R486): the comparator of a running device sets the latch, level 3 and bits 1, 2 and 9 of `THM_FAULT`; 1 ms
later every porch is down, with its transmit lanes squelched. Once the latch is set, the comparator changes nothing more.
The guard cores (R23, R383): a supervisor fatal sets bits 1 and 2 of `THM_FAULT`, a guard mismatch bit 2; a unit that
holds authority or stands by gives up control at once and records the withdrawal, with the verdict's own reason.
Where the rules leave room, it follows the model's choices and readings in log entries 27 and 36. -/
def Obligations.TripAndStop : Prop :=
  (∀ s : State, RegsCanonical s → twf (fun _ => ({} : Porch)) s.porches = true →
     (∀ (d : Fin 5) (temp : BitVec 16), s.boot.started = true → s.boot.tripLatch = false →
       ∃ t, exec (.trip d temp) s = .next t
         ∧ t.boot = { s.boot with tripLatch := true, tripFrom := s.hrt.cycles } ∧ t.thm.level = 3
         ∧ FaultAsserted 1 s t ∧ FaultAsserted 2 s t ∧ FaultAsserted 9 s t)
     ∧ (∀ (d : Fin 5) (temp : BitVec 16), s.boot.tripLatch = true → exec (.trip d temp) s = .next s)
     ∧ (s.boot.tripLatch = true → s.boot.stopped = false → s.hrt.running = true →
         s.hrt.cycles + s.hrt.cfg.period < s.boot.tripFrom + cyclesMs 1 → exec .tripStop s = .next s)
     ∧ (s.boot.tripLatch = true → s.boot.stopped = false →
         s.hrt.running = false ∨ s.boot.tripFrom + cyclesMs 1 ≤ s.hrt.cycles + s.hrt.cfg.period →
         ∃ t, exec .tripStop s = .next t ∧ t.boot = { s.boot with stopped := true }
         ∧ (∀ p, p < 16 → (t.porch p).state = .down ∧ (t.porch p).squelch = 511 ∧ (t.porch p).sent = [])
         ∧ t.pins = { s.pins with hbOut := false } ∧ SameBut [.boot, .pins, .porches] s t))
  ∧ (∀ s : State, RegsCanonical s → s.twn.withdrawAt = none → s.twn.role = .active ∨ s.twn.role = .standby ∨ s.twn.role = .solo →
        (∃ t, exec .supervisorFatal s = .next t ∧ t.twn.withdrawAt = some 6 ∧ FaultAsserted 1 s t ∧ FaultAsserted 2 s t
          ∧ ⟨0x0004, Sev.critical, 1, [6, 0, 0, 0] ++ leBytes 4 s.twn.epoch ++ s.frameBytes⟩ ∈ t.att.waiting ∧ t.twn.role = s.twn.role
          ∧ t.twn.epoch = s.twn.epoch)
        ∧ (∃ t, exec .guardMismatch s = .next t ∧ t.twn.withdrawAt = some 3 ∧ FaultAsserted 2 s t
          ∧ ⟨0x0004, Sev.critical, 1, [3, 0, 0, 0] ++ leBytes 4 s.twn.epoch ++ s.frameBytes⟩ ∈ t.att.waiting ∧ t.twn.role = s.twn.role
          ∧ t.twn.epoch = s.twn.epoch))

/-- O17. The ladder and a step end (R485, R488), and `FAULT_N` clears (R490). Level 1 clears once every die has stayed below
92.0 °C for 100 ms and no step is in force; a step ends once every die is also calm. FAULT_CLEAR clears exactly the named
bits whose cause no longer holds, and the pin follows the bits.
SUPPLY_FAIL (R489): the supply of a compute die fails: the die shows SUPPLY_FAIL, the Owner is told, and `FAULT_N` is
asserted for cause 12. A supply that has failed already changes nothing. -/
def Obligations.GovernorClears : Prop :=
  (∀ s : State, RegsCanonical s →
     (s.thm.level = 1 → s.thm.stepActive = false → s.coolDies (s.hrt.cycles + s.hrt.cfg.period) = true →
       exec .shedClear s = .next { s with thm := { s.thm with level := 0 }
                                          events := s.events ++ [⟨Src.thm, 0, 1, noObj, 0, [], [0]⟩] })
     ∧ (s.thm.stepActive = true → exec .shedClear s = .next s)
     ∧ (s.thm.stepActive = true → s.coolDies (s.hrt.cycles + s.hrt.cfg.period) = true →
         s.calmDies (s.hrt.cycles + s.hrt.cfg.period) = true →
         exec .stepEnd s = .next { s with thm := { s.thm with stepActive := false }
                                          events := s.events ++ [⟨Src.thm, 0, 1, noObj, 0, [], [0]⟩] })
     ∧ (∀ mask : BitVec 13, ∃ t, exec (.faultClear mask) s = .next t
         ∧ (∀ c, c < 13 → bitAt (t.reg Reg.THM_FAULT) c
             = (bitAt (s.reg Reg.THM_FAULT) c && !(mask.getLsbD c && !s.causeHolds c)))
         ∧ t.pins = { s.pins with faultN := decide (t.reg Reg.THM_FAULT = 0) }
         ∧ (∀ a, a ≠ Reg.THM_FAULT → t.reg a = s.reg a) ∧ SameBut [.pins, .regs] s t))
  ∧ (∀ (s : State) (d : Fin 4), RegsCanonical s → twf (fun _ => ({} : Die)) s.thm.dies = true →
        ((s.die d).state ≠ 1 → ∃ t, exec (.supplyFail d) s = .next t ∧ (t.die d).state = 1 ∧ (t.die d).temp = (s.die d).temp
          ∧ FaultAsserted 12 s t ∧ Notified Src.thm 5 d 0 t ∧ (∀ e, e ≠ d.val → t.die e = s.die e) ∧ t.hrt = s.hrt)
        ∧ ((s.die d).state = 1 → exec (.supplyFail d) s = .next s))

-- The tiles and the frame -------------------------------------------------------------------------------------------------

/-- O18. Giving way and switching (R104, R109, R112 to R114, R127): a requested context gives way at a yield point or when it is
forced, which `TIL_PREEMPT` counts, with the progress of the copy at the head of its queue 0 recorded; a switch puts another job's
saved bank on the bulk bank, where it runs on or goes on waiting on its fence; on a Sense tile it waits for the last frame-critical
program of the frame, and a program that waits on a fence has not ended.
The guard slot (R21, R112, R128): requests go to the tiles that the next frame begins with frame-critical work; a context that
waits on a fence gives way at once; a tile misses its token once and is lost on a second miss in a row; a token in between
clears the count.
Where the rules leave room, it follows the model's choices and readings in log entry 32. -/
def Obligations.TilesGiveWay : Prop :=
  (∀ (s : State) (n : BitVec 7), Canonical s →
     let x := s.tile n.toNat
     (x.request = true → x.bulkOn = true → ∃ t, exec (.yieldPoint n) s = .next t
       ∧ (t.tile n.toNat).bulkOn = false ∧ (t.tile n.toNat).request = false ∧ (t.tile n.toNat).running = x.running
       ∧ (∀ u, u ≠ n.toNat → t.tile u = s.tile u) ∧ (∀ j, x.running ≠ some j → t.job j = s.job j)
       ∧ (∀ j, x.running = some j → t.job j = { s.job j with copyProg := x.bulk.headCopy.1, copyLen := x.bulk.headCopy.2 })
       ∧ t.field Reg.TIL_PREEMPT 0 32 = min (2 ^ 32 - 1) (s.field Reg.TIL_PREEMPT 0 32 + 1)
       ∧ (∀ a, a ≠ Reg.TIL_PREEMPT → t.reg a = s.reg a) ∧ SameBut [.til, .regs] s t)
     ∧ (∀ pc : BitVec 48, x.request = true → x.bulkOn = true → ∃ t, exec (.forcedPreemption n pc) s = .next t
       ∧ (t.tile n.toNat).bulkOn = false ∧ (t.tile n.toNat).request = false ∧ (t.tile n.toNat).bulk.pc = pc.toNat
       ∧ (∀ u, u ≠ n.toNat → t.tile u = s.tile u)
       ∧ t.field Reg.TIL_PREEMPT 32 32 = min (2 ^ 32 - 1) (s.field Reg.TIL_PREEMPT 32 32 + 1)
       ∧ (bitAt (s.cfgReg Reg.TIL_CTL) 1 = true →
           ⟨0x0006, Sev.info, 2, [BitVec.ofNat 8 n.toNat, BitVec.ofNat 8 (x.running.getD 0)]⟩ ∈ t.att.waiting)
       ∧ (bitAt (s.cfgReg Reg.TIL_CTL) 1 = false → t.att = s.att)
       ∧ (∀ a, a ≠ Reg.TIL_PREEMPT → t.reg a = s.reg a) ∧ SameBut [.til, .regs, .att] s t)
     ∧ (∀ j : BitVec 8, s.tileIn n.toNat = true → s.mayRun n.toNat j.toNat = true → (x.sense = false ∨ x.fcDone = true) →
       ∃ t, exec (.contextSwitch n j) s = .next t ∧ (t.tile n.toNat).running = some j.toNat
         ∧ (t.tile n.toNat).bulkOn = (t.tile n.toNat).bulk.waitOn.isEmpty
         ∧ (t.tile n.toNat).waiting = !(t.tile n.toNat).bulk.waitOn.isEmpty
         ∧ (t.tile n.toNat).request = false ∧ (t.tile n.toNat).nextJob = none
         ∧ (x.running = none → (t.tile n.toNat).bulk = (tget (fun _ => ({} : Bank)) x.saved j.toNat).resume)
         ∧ (∀ i, x.running = some i → i ≠ j.toNat →
             (t.tile n.toNat).bulk = (tget (fun _ => ({} : Bank)) x.saved j.toNat).resume
             ∧ (twf (fun _ => ({} : Bank)) x.saved = true → tget (fun _ => ({} : Bank)) (t.tile n.toNat).saved i = x.bulk))
         ∧ (x.running = some j.toNat →
             (t.tile n.toNat).bulk = if x.bulkOn || x.waiting then x.bulk else x.bulk.resume)
         ∧ (t.tile n.toNat).frame = x.frame ∧ (∀ u, u ≠ n.toNat → t.tile u = s.tile u) ∧ SameBut [.til] s t)
     ∧ (∀ j : BitVec 8, x.sense = true → x.fcDone = false → exec (.contextSwitch n j) s = .next s)
     ∧ (x.frame.waitOn ≠ [] → exec (.frameProgramEnd n) s = .next s)
     ∧ (x.sense = true → s.tileIn n.toNat = true → x.fcDone = false → x.frame.waitOn = [] →
         ∃ t, exec (.frameProgramEnd n) s = .next t ∧ (t.tile n.toNat).fcDone = true
         ∧ (∀ j, x.nextJob = some j → s.mayRun n.toNat j = true → (t.tile n.toNat).running = some j
             ∧ (t.tile n.toNat).bulkOn = (t.tile n.toNat).bulk.waitOn.isEmpty)
         ∧ (x.nextJob = none → t.tile n.toNat = { x with fcDone := true })
         ∧ (∀ u, u ≠ n.toNat → t.tile u = s.tile u) ∧ SameBut [.til] s t))
  ∧ (∀ (s : State) (missed : List (BitVec 7)), Canonical s → s.hrt.running = true →
        ∃ t, exec (.guardSlotStart missed) s = .next t ∧ t.hrt = s.hrt ∧ SameBut [.til, .plan, .loops] s t
          ∧ ∀ n : BitVec 7, (s.tile n.toNat).lost = false → (s.tile n.toNat).lostNow = false →
            (n ∈ missed → (s.tile n.toNat).missed = 0 →
                (t.tile n.toNat).missed = 1 ∧ (t.tile n.toNat).lostNow = false)
            ∧ (n ∈ missed → 0 < (s.tile n.toNat).missed → (t.tile n.toNat).lostNow = true ∧ t.plan.selectNow = true)
            ∧ (n ∉ missed → (t.tile n.toNat).missed = 0 ∧ (t.tile n.toNat).lostNow = false
                ∧ (s.senseNext n.toNat = true → (s.tile n.toNat).bulkOn = true → (s.tile n.toNat).waiting = false →
                    (t.tile n.toNat).request = true ∧ (t.tile n.toNat).bulkOn = true)
                ∧ (s.senseNext n.toNat = true → (s.tile n.toNat).waiting = true →
                    (t.tile n.toNat).bulkOn = false ∧ (t.tile n.toNat).waiting = false)))

/-- O19. What loses tiles (R94, R97, R100, R101): an uncorrectable scratch error in a frame-critical or runtime page loses the
tile, one elsewhere retires the page and ends the job that holds it; a partition violation loses the tile or ends the job; a
hop that goes down loses its die and every die no longer joined to the IOD.
A lost tile (R88, R89, R129, R160): the lowest usable placement whose tiles are in service is selected for tick k + 2, when it
governs every tile's partition and stage; with none, an ACTIVE unit gives up control.
Where the rules leave room, it follows the model's choices and readings in log entry 18. -/
def Obligations.LosingTilesAndDies : Prop :=
  (∀ s : State, Canonical s →
     (∀ (n : BitVec 7) (g : BitVec 10), (s.tile n.toNat).lost = false → (s.tile n.toNat).lostNow = false →
       ∃ t, exec (.scratchUe n g) s = .next t ∧ Notified Src.til 2 n.toNat 0 t ∧ t.field Reg.TIL_SCRATCH_ECC 0 8 = n.toNat
         ∧ t.field Reg.TIL_SCRATCH_ECC 16 16 = min (2 ^ 16 - 1) (s.field Reg.TIL_SCRATCH_ECC 16 16 + 1)
         ∧ (∀ a, a ≠ Reg.TIL_SCRATCH_ECC → t.reg a = s.reg a) ∧ SameBut [.regs, .events, .til, .plan, .loops] s t
         ∧ (g.toNat ∈ (s.tile n.toNat).fcMap ∨ 992 ≤ g.toNat →
             (t.tile n.toNat).lostNow = true ∧ t.plan.selectNow = true)
         ∧ (g.toNat ∉ (s.tile n.toNat).fcMap → g.toNat < 992 →
             g.toNat ∈ (t.tile n.toNat).retired
             ∧ (∀ k, k ≠ g.toNat → (k ∈ (t.tile n.toNat).retired ↔ k ∈ (s.tile n.toNat).retired))
             ∧ (t.tile n.toNat).retired.length ≤ (s.tile n.toNat).retired.length + 1
             ∧ (g.toNat ∈ (s.tile n.toNat).retired → (t.tile n.toNat).retired = (s.tile n.toNat).retired)
             ∧ (t.tile n.toNat).lostNow = false ∧ t.loops = s.loops)
         ∧ (∀ j l, (s.tile n.toNat).contexts.find? (fun c => c.2.contains g.toNat) = some (j, l) →
             g.toNat ∉ (s.tile n.toNat).fcMap → g.toNat < 992 →
             (s.job j).state = .running ∨ (s.job j).state = .ready →
             EndReason.fault ∈ (t.job j).ending ∧ ∀ i, i ≠ j → (t.job i).ending = (s.job i).ending))
     ∧ (∀ n : BitVec 7, (s.tile n.toNat).lost = false → (s.tile n.toNat).lostNow = false →
         (∃ t, exec (.partitionViolation n true) s = .next t ∧ (t.tile n.toNat).lostNow = true
           ∧ (∀ u, u ≠ n.toNat → t.tile u = s.tile u) ∧ SameBut [.til, .plan, .loops] s t)
         ∧ (∀ j, (s.tile n.toNat).running = some j → (s.job j).state = .running → (s.tile n.toNat).bulkOn = true →
           ∃ t, exec (.partitionViolation n false) s = .next t ∧ EndReason.fault ∈ (t.job j).ending
             ∧ (t.tile n.toNat).bulkOn = false ∧ (t.tile n.toNat).waiting = false
             ∧ (t.tile n.toNat).lostNow = false ∧ (∀ i, i ≠ j → t.job i = s.job i) ∧ SameBut [.til] s t)
         ∧ ((s.tile n.toNat).bulkOn = false → exec (.partitionViolation n false) s = .next s))
     ∧ (∀ h : Fin 5, h.val ∉ s.til.hops → ∃ t, exec (.hopDown h) s = .next t ∧ t.til.hops = s.til.hops ++ [h.val]
         ∧ Notified Src.til 5 h.val 0 t
         ∧ (∀ u, u < 128 → (u / 32 = hopDie h.val ∨ joined (s.til.hops ++ [h.val]) (u / 32) = false) →
             (t.tile u).lost = true ∨ (t.tile u).lostNow = true)
         ∧ (∀ u, u < 128 → u / 32 ≠ hopDie h.val → joined (s.til.hops ++ [h.val]) (u / 32) = true → t.tile u = s.tile u)
         ∧ SameBut [.events, .til, .plan, .loops] s t)
     ∧ (∀ h : Fin 5, h.val ∈ s.til.hops → exec (.hopDown h) s = .next s))
  ∧ (∀ s : State, Canonical s →
        (∀ v, s.plan.selectNow = true → s.plan.committed = true → (∀ w k, s.plan.switchAt = some (w, k) → s.nextTick < k) →
          s.fits v = true → v < 5 → (∀ u, u < v → s.fits u = false) → v ≠ s.plan.variant →
          exec .placementSelect s = .next { s with plan := { s.plan with selectNow := false, switchAt := some (v, s.nextTick + 1) } })
        ∧ (s.plan.selectNow = true → s.plan.committed = true → (∀ w k, s.plan.switchAt = some (w, k) → s.nextTick < k) →
          (∀ v, v < 5 → s.fits v = false) → s.roleNow = .active →
          ∃ t, exec .placementSelect s = .next t ∧ t.twn.withdrawAt = some 7 ∧ FaultAsserted 2 s t ∧ t.plan.selectNow = false
            ∧ t.plan.variant = s.plan.variant)
        ∧ (s.plan.selectNow = false → exec .placementSelect s = .next s)
        ∧ (∀ v k p, s.plan.switchAt = some (v, k) → k ≤ s.nextTick → s.placement v = some p →
          ∃ t, exec .variantSwitch s = .next t ∧ t.plan.variant = v ∧ t.plan.switchAt = none ∧ Notified Src.pln 5 v 0 t
            ∧ (∀ u, u < 128 → (t.tile u).stage = tget (fun _ => 15) p.stages u
                ∧ (t.tile u).fcMap = (s.tile u).variantMap (p.fcPages u))
            ∧ (∀ e ∈ t.plan.tables, e.2.desc.kind = 5 → e.2.inactive = 0 ∧ e.2.other = [] ∧ e.2.swapAt = none)
            ∧ t.plan.plan = s.plan.plan ∧ SameBut [.events, .plan, .est, .til, .ram] s t)
        ∧ (∀ v k, s.plan.switchAt = some (v, k) → s.nextTick < k → exec .variantSwitch s = .next s))

/-- O20. Command cells leave in time or not at all (R28, R31, R325): a closed cell that can leave by the emit deadline is sent with
apply tick k + 1 and the unit's epoch, and its commands become the held ones; one that cannot is withdrawn. At the deadline
every open cell closes, and a loop that should have been computed and was not overruns once.
The late fill (R30, R380): the standby fills every loop of a READY drive porch whose own command may fill and that its
snapshot does not hold, once a frame.
Where the rules leave room, it follows the model's choices and readings in log entries 9 and 36. -/
def Obligations.CellsAndTheEmitDeadline : Prop :=
  (∀ s : State, Canonical s → s.hrt.running = true → s.hrt.emitted = false →
     (∀ (p : BitVec 4) (cycle leaves : BitVec 21), cycle.toNat ≤ leaves.toNat → leaves.toNat ≤ s.hrt.cfg.emitDl →
       (s.porch p.toNat).openCell.entries ≠ [] → ((s.porch p.toNat).openCell.entries.map Prod.fst).Nodup →
       ∃ t, exec (.cellClose p cycle leaves) s = .next t ∧ (t.porch p.toNat).openCell = {}
         ∧ (∀ e ∈ (s.porch p.toNat).openCell.entries, (t.loop e.1).heldCmd = e.2 ∧ (t.loop e.1).ovrRun = 0)
         ∧ (s.boot.stopped = false → (s.porch p.toNat).squelch % 256 ≠ 255 →
             (prioFrame, TxCell.command (CommandCell.mk ((s.hrt.frame + 1) % 2 ^ 32) s.cellEpoch p.toNat s.twn.side false
               (s.porch p.toNat).openCell.entries)) ∈ (t.porch p.toNat).sent)
         ∧ (∀ l, l ∉ (s.porch p.toNat).openCell.entries.map Prod.fst → t.loop l = s.loop l)
         ∧ SameBut [.hrt, .regs, .loops, .porches, .free] s t)
     ∧ (∀ (p : BitVec 4) (cycle leaves : BitVec 21), cycle.toNat ≤ leaves.toNat → s.hrt.cfg.emitDl < leaves.toNat →
       ∃ t, exec (.cellClose p cycle leaves) s = .next t ∧ (t.porch p.toNat).openCell = {}
         ∧ (t.porch p.toNat).sent = (s.porch p.toNat).sent
         ∧ (∀ e ∈ (s.porch p.toNat).openCell.entries, e.1 ∈ t.hrt.ovrNow ∧ (t.loop e.1).celled = false
             ∧ (t.loop e.1).heldCmd = (s.loop e.1).heldCmd))
     ∧ (s.boot.stopped = false → ∃ t, exec .emitDeadline s = .next t ∧ t.hrt.emitted = true
         ∧ (∀ p, p < 16 → (t.porch p).openCell = {})
         ∧ (∀ l, (s.loop l).due s.hrt.frame = true → (s.loop l).ready = none → (s.loop l).excused = false → l ∉ s.hrt.ovrNow →
             (∀ p e, e ∈ (s.porch p).openCell.entries → e.1 ≠ l) →
             l ∈ t.hrt.ovrNow ∧ (t.loop l).ovrRun = (s.loop l).ovrRun + 1 ∧ (t.loop l).heldCmd = (s.loop l).heldCmd)))
  ∧ (∀ (s : State) (h : StateCell), Canonical s → s.twn.twin = some h → s.hrt.running = true → s.twn.snapshot = false →
        s.makesFill = true → ∃ t, exec .lateFillSnapshot s = .next t ∧ t.twn.snapshot = true
          ∧ (∀ l p, s.drivePorch l = some p → (s.porch p).state = .ready → s.fills l (s.loop l) = true →
              (s.hrt.frame + 1, l) ∈ t.twn.filled ∧ (t.loop l).heldCmd = (s.loop l).ready.getD 0)
          ∧ (∀ l, s.fills l (s.loop l) = false → t.loop l = s.loop l)
          ∧ SameBut [.regs, .loops, .porches, .twn, .free] s t)

/-- O21. No late fill for a loop in OFF, ACQUIRE or FREEZE (R210): the snapshot leaves the cells of every porch that name the loop, and
the loop itself, as they were. -/
def Obligations.NoLateFillOutsideRun : Prop :=
  ∀ (s : State) (l : Nat), Canonical s → (s.loop l).cls = .off ∨ (s.loop l).cls = .acquire ∨ (s.loop l).cls = .freeze →
    ∃ t, exec .lateFillSnapshot s = .next t ∧ t.loop l = s.loop l
      ∧ (∀ n, (n, l) ∈ t.twn.filled → (n, l) ∈ s.twn.filled)
      ∧ ∀ p, let named := fun x : Nat × TxCell => match x.2 with
            | .command c => decide (l ∈ c.entries.map Prod.fst)
            | _ => false
          (t.porch p).sent.filter named = (s.porch p).sent.filter named

-- Copies, memory and jobs -------------------------------------------------------------------------------------------------

/-- A copy of a descriptor as a queue holds it when it is issued. -/
abbrev Issued (d : CopyDesc) : Copy :=
  { src := d.src.toNat, dst := d.dst.toNat, len := d.len.toNat, row := d.row.toNat, srcPitch := d.srcPitch.toNat
    dstPitch := d.dstPitch.toNat, cls := if d.frame then 1 else 2 }

/-- Where byte `k` of a run of bytes lies in RAM, for a place in RAM or in the scratch of a program (R93). -/
abbrev PlaceOf (l : Loc) (k : Nat) : Option Nat :=
  match l with
  | .ram d => some (d + k)
  | .scratch u m o => pageAt u m (o + k)
  | _ => none

/-- Places whose bytes all lie apart: RAM, or scratch under a page map without repeats. -/
abbrev Plain (l : Loc) : Prop := (∃ d, l = .ram d) ∨ ∃ u m o, l = .scratch u m o ∧ m.Nodup

/-- `n` bytes from the place `l` on have become `bytes`, and no other byte has changed. -/
abbrev BytesMoved (l : Loc) (bytes : List Byte) (n : Nat) (s t : State) : Prop :=
  (∀ k r, k < n → PlaceOf l k = some r → t.readByte r = (bytes[k]?).getD 0)
  ∧ ∀ r, (∀ k, k < n → PlaceOf l k ≠ some r) → t.readByte r = s.readByte r

/-- What a request does to a tile whose bulk bank holds a context of job `j` (R112, R127): a running context sees it, one that waits on
a fence gives way at once. -/
abbrev Asked (j : Nat) (x y : Tile) : Prop :=
  x.running = some j → (x.bulkOn = true → x.waiting = false → y.request = true) ∧ (x.waiting = true → y.bulkOn = false ∧ y.waiting = false)

/-- O22. A copy whose source and destination ranges overlap is refused when issued (R105), under whatever names its addresses have
(R269): it joins no queue and moves no byte, and a background context's copy leaves the copy fault OVERLAP.
Where the rules leave room, it follows the model's choices and readings in log entries 20 and 54. -/
def Obligations.OverlapRefused : Prop :=
  ∀ (s : State) (n : BitVec 7) (q : BitVec 2) (d : CopyDesc), Canonical s →
    (d.frame = true → (Issued d).overlaps (frameCanon n.toNat) = true → exec (.copyIssue n q d) s = .next s)
    ∧ (∀ j, d.frame = false → (s.tile n.toNat).running = some j → (Issued d).overlaps (s.canon n.toNat j) = true →
      ∃ t, exec (.copyIssue n q d) s = .next t ∧ t.ram = s.ram
        ∧ (∀ u, (t.tile u).bulk = (s.tile u).bulk ∧ (t.tile u).frame = (s.tile u).frame)
        ∧ (d.len ≠ 0 → s.tileIn n.toNat = true → (s.tile n.toNat).bulkOn = true →
          ((s.tile n.toNat).bulk.queue q.toNat).length < 64 →
          t.mem = { s.mem with faults := s.mem.faults ++
            [(n.toNat, q.toNat, j, { cause := .overlap, addr := d.src.toNat, queue := q.toNat, prog := 0, len := d.len.toNat, tick := 0 })] }
          ∧ ∀ u ∈ (s.job j).tiles, Asked j (s.tile u) (t.tile u))
        ∧ SameBut [.til, .mem] s t)

/-- O23. Any other copy joins the end of its queue of up to 64 (R106); a fence waits while one of its queues holds a copy, and the
context gives way meanwhile, with the progress of its queue 0 recorded (R109, R127). The fence of a frame-critical program holds its
frame bank.
Where the rules leave room, it follows the model's choices and readings in log entry 20. -/
def Obligations.CopiesQueue : Prop :=
  ∀ (s : State) (n : BitVec 7) (q : BitVec 2), Canonical s →
    let x := s.tile n.toNat
    (∀ (d : CopyDesc) (j : Nat), (Issued d).overlaps (s.canon n.toNat j) = false → d.len ≠ 0 → d.frame = false →
      s.tileIn n.toNat = true → x.running = some j → x.bulkOn = true → (x.bulk.queue q.toNat).length < 64 →
      ∃ t, exec (.copyIssue n q d) s = .next t
        ∧ (t.tile n.toNat).bulk.queue q.toNat = x.bulk.queue q.toNat ++ [Issued d]
        ∧ (∀ i, i < 4 → i ≠ q.toNat → (t.tile n.toNat).bulk.queue i = x.bulk.queue i)
        ∧ (t.tile n.toNat).frame = x.frame
        ∧ (∀ u, u ≠ n.toNat → t.tile u = s.tile u) ∧ SameBut [.til] s t)
    ∧ (∀ d : CopyDesc, (Issued d).overlaps (frameCanon n.toNat) = false → d.len ≠ 0 → d.frame = true → s.tileIn n.toNat = true →
      x.sense = true → x.fcDone = false → x.frame.waitOn = [] → (x.frame.queue q.toNat).length < 64 →
      ∃ t, exec (.copyIssue n q d) s = .next t
        ∧ (t.tile n.toNat).frame.queue q.toNat = x.frame.queue q.toNat ++ [Issued d]
        ∧ (t.tile n.toNat).bulk = x.bulk
        ∧ (∀ u, u ≠ n.toNat → t.tile u = s.tile u) ∧ SameBut [.til] s t)
    ∧ (∀ (m : BitVec 4) (j : Nat), x.running = some j → x.bulkOn = true → x.bulk.busy m.toNat ≠ [] →
      ∃ t, exec (.copyFence n m) s = .next t
        ∧ t.tile n.toNat = { x with bulk := { x.bulk with waitOn := x.bulk.busy m.toNat }
                                    bulkOn := false, waiting := !x.request, request := false }
        ∧ t.job j = { s.job j with copyProg := x.bulk.headCopy.1, copyLen := x.bulk.headCopy.2 }
        ∧ (∀ i, i ≠ j → t.job i = s.job i) ∧ (∀ u, u ≠ n.toNat → t.tile u = s.tile u) ∧ SameBut [.til] s t)
    ∧ (∀ m : BitVec 4, x.bulkOn = true → (∀ i ∈ members 4 m.toNat, x.bulk.queue i = []) → exec (.copyFence n m) s = .next s)
    ∧ (∀ m : BitVec 4, x.bulkOn = false → x.sense = true → x.fcDone = false → ∃ t, exec (.copyFence n m) s = .next t
        ∧ t.tile n.toNat = { x with frame := { x.frame with waitOn := x.frame.busy m.toNat } }
        ∧ (∀ u, u ≠ n.toNat → t.tile u = s.tile u) ∧ SameBut [.til] s t)
    ∧ (∀ m : BitVec 4, x.bulkOn = false → x.sense = false ∨ x.fcDone = true → exec (.copyFence n m) s = .next s)

/-- O24. A completed beat (R103, R104, R107 to R109): it moves the bytes of its span from source to destination and no other byte, the
copy's progress grows over the unbroken run, and a complete copy leaves its queue. It is credited to the context that issued it: a beat
that completes after its context gave way raises the recorded progress. A frame-critical copy from or to an own scratch address outside
the frame-critical partition moves nothing and loses the tile (R94).
A beat of the load of an EXTERNAL table puts its bytes into that table's load while a commit is pending.
Where the rules leave room, it follows the model's choices and readings in log entries 8 and 20. -/
def Obligations.BeatsMoveBytes : Prop :=
  ∀ (s : State) (n : BitVec 7) (q : BitVec 2) (b : Nat), Canonical s →
    (∀ (j : BitVec 8) (x : Bank) (c : Copy) (rest : List Copy) (src src' dst dst' : Loc) (l bytes : List Byte),
      s.boot.stopped = false → twf (fun _ => ({} : Bank)) (s.tile n.toNat).saved = true →
      (s.tile n.toNat).bankOf (some j.toNat) = some x → x.queue q.toNat = c :: rest → c.past b = false → c.reserved = false →
      (∀ k, s.translate n.toNat j.toNat c.src false ≠ .ok (.shelf k)) →
      s.translate n.toNat j.toNat (c.beat b).2.1 false = .ok src →
      s.translate n.toNat j.toNat ((c.beat b).2.1 + (c.beat b).2.2.2 - 1) false = .ok src' →
      s.translate n.toNat j.toNat (c.beat b).2.2.1 true = .ok dst →
      s.translate n.toNat j.toNat ((c.beat b).2.2.1 + (c.beat b).2.2.2 - 1) true = .ok dst' →
      bytes = s.readLoc l (c.beat b).1 (c.beat b).2.2.2 src → bytes.length = (c.beat b).2.2.2 → Plain dst →
      ∃ t y, exec (.beatComplete n q (some j, b) (.ok l)) s = .next t
        ∧ BytesMoved dst bytes (c.beat b).2.2.2 s t
        ∧ (t.tile n.toNat).bankOf (some j.toNat) = some y
        ∧ y.queue q.toNat = (if c.total ≤ (c.done b).beats then rest else c.done b :: rest)
        ∧ (∀ i, i < 4 → i ≠ q.toNat → y.queue i = x.queue i)
        ∧ (t.tile n.toNat).frame = (s.tile n.toNat).frame
        ∧ ((s.tile n.toNat).running ≠ some j.toNat →
            t.job j.toNat = { s.job j.toNat with copyProg := y.headCopy.1, copyLen := y.headCopy.2 }
            ∧ (t.tile n.toNat).bulk = (s.tile n.toNat).bulk)
        ∧ ((s.tile n.toNat).running = some j.toNat → (s.tile n.toNat).bulkOn = true → t.job j.toNat = s.job j.toNat)
        ∧ (∀ i, i ≠ j.toNat → t.job i = s.job i) ∧ (∀ u, u ≠ n.toNat → t.tile u = s.tile u) ∧ SameBut [.til, .ram] s t)
    ∧ (∀ (c : Copy) (rest : List Copy) (src src' dst dst' : Loc) (l bytes : List Byte), s.boot.stopped = false →
      (s.tile n.toNat).frame.queue q.toNat = c :: rest → c.past b = false → c.reserved = false →
      s.frameLoc n.toNat (c.beat b).2.1 false = .ok src →
      s.frameLoc n.toNat ((c.beat b).2.1 + (c.beat b).2.2.2 - 1) false = .ok src' →
      s.frameLoc n.toNat (c.beat b).2.2.1 true = .ok dst →
      s.frameLoc n.toNat ((c.beat b).2.2.1 + (c.beat b).2.2.2 - 1) true = .ok dst' →
      bytes = s.readLoc [] (c.beat b).1 (c.beat b).2.2.2 src → bytes.length = (c.beat b).2.2.2 → Plain dst →
      ∃ t, exec (.beatComplete n q (none, b) (.ok l)) s = .next t
        ∧ BytesMoved dst bytes (c.beat b).2.2.2 s t
        ∧ (t.tile n.toNat).frame.queue q.toNat = (if c.total ≤ (c.done b).beats then rest else c.done b :: rest)
        ∧ (t.tile n.toNat).bulk = (s.tile n.toNat).bulk
        ∧ (∀ u, u ≠ n.toNat → t.tile u = s.tile u) ∧ (∀ i, t.job i = s.job i) ∧ SameBut [.til, .ram] s t)
    ∧ (∀ (c : Copy) (rest : List Copy) (l : List Byte), s.boot.stopped = false →
      (s.tile n.toNat).frame.queue q.toNat = c :: rest → c.past b = false → (c.beat b).2.1 < 0x400000 →
      4096 * (s.tile n.toNat).fcMap.length ≤ (c.beat b).2.1 →
      ∃ t, exec (.beatComplete n q (none, b) (.ok l)) s = .next t
        ∧ ((t.tile n.toNat).lost = true ∨ (t.tile n.toNat).lostNow = true)
        ∧ t.ram = s.ram ∧ (t.tile n.toNat).frame = (s.tile n.toNat).frame)
    ∧ (∀ (o : Option (BitVec 8)) (id : BitVec 16) (l : List Byte), s.plan.st = .preload ∨ s.plan.st = .scheduled ∨ s.plan.st = .bridge →
      twf (fun _ => (0 : Byte)) (tget (fun _ => ({} : TableLoad)) s.plan.loads id.toNat).bytes = true →
      ∃ t, exec (.beatComplete n q (o, b) (.tableLoad id l)) s = .next t
        ∧ SameBut [.plan] s t ∧ t.plan = { s.plan with loads := t.plan.loads }
        ∧ (∀ k, k ≠ id.toNat → tget (fun _ => ({} : TableLoad)) t.plan.loads k = tget (fun _ => {}) s.plan.loads k)
        ∧ (∀ k, k < min 4096 l.length → tget (fun _ => (0 : Byte))
            (tget (fun _ => ({} : TableLoad)) t.plan.loads id.toNat).bytes (4096 * b + k) = (l[k]?).getD 0)
        ∧ b ∈ (tget (fun _ => ({} : TableLoad)) t.plan.loads id.toNat).beats)

/-- O25. Faults in flight (R110, R270 to R274): a Cellar time-out of a beat that touches the Cellar is kept with its queue, the
address of its Cellar side and its progress, moves no byte, and stops the queue at its beat, and no other beat has one; the re-issue of
a parked job's beat, every `RETRY_FRAMES` frames, clears its fault when it completes, which needs a mapping; at `LIMIT_MS` the job
ends. -/
def Obligations.CopyFaultsOfJobs : Prop :=
  ∀ s : State, Canonical s →
    (∀ (n : BitVec 7) (q : BitVec 2) (j : BitVec 8) (b a : Nat) (x : Bank) (c : Copy) (rest : List Copy),
      twf (fun _ => ({} : Bank)) (s.tile n.toNat).saved = true →
      (s.tile n.toNat).bankOf (some j.toNat) = some x → x.queue q.toNat = c :: rest → c.past b = false →
      s.cellarAddr n.toNat j.toNat c b = some a →
      ∃ t y, exec (.cellarTimeout n q (j, b)) s = .next t ∧ (a = (c.beat b).2.1 ∨ a = (c.beat b).2.2.1)
        ∧ t.mem = { s.mem with faults := s.mem.faults ++ [(n.toNat, q.toNat, j.toNat,
            { cause := .cellarTimeout, addr := a, queue := q.toNat, prog := c.progress, len := c.len, tick := 0 })] }
        ∧ (t.tile n.toNat).bankOf (some j.toNat) = some y ∧ y.queue q.toNat = { c with stop := some b } :: rest
        ∧ (∀ i, i < 4 → i ≠ q.toNat → y.queue i = x.queue i)
        ∧ (∀ u ∈ (s.job j.toNat).tiles, Asked j.toNat (s.tile u) (t.tile u))
        ∧ (∀ u, (t.tile u).frame = (s.tile u).frame) ∧ (∀ i, i ≠ j.toNat → t.job i = s.job i) ∧ SameBut [.til, .mem] s t)
    ∧ (∀ (n : BitVec 7) (q : BitVec 2) (j : BitVec 8) (b : Nat) (x : Bank) (c : Copy) (rest : List Copy),
      (s.tile n.toNat).bankOf (some j.toNat) = some x → x.queue q.toNat = c :: rest →
      s.cellarAddr n.toNat j.toNat c b = none → exec (.cellarTimeout n q (j, b)) s = .next s)
    ∧ (∀ (j : BitVec 8) (f : JobFault), (s.job j.toNat).fault = some f → Park.fault ∈ (s.job j.toNat).parks → f.tick < s.hrt.frame →
      (s.hrt.frame - f.tick) % max 1 (s.inForce Reg.MEM_FAULT_CFG 0 16) = 0 →
      (s.faultMaps j.toNat f = true → ∃ t, exec (.faultRetry j true) s = .next t ∧ t.job j.toNat = { s.job j.toNat with fault := some { f with clear := true } }
        ∧ (∀ i, i ≠ j.toNat → t.job i = s.job i) ∧ SameBut [.til] s t)
      ∧ (s.faultMaps j.toNat f = false → exec (.faultRetry j true) s = .next s) ∧ exec (.faultRetry j false) s = .next s)
    ∧ (∀ j : BitVec 8, s.limitDue (s.hrt.cycles + s.hrt.cfg.period) j.toNat = true → (s.job j.toNat).state = .parked →
      ∃ t, exec (.faultLimit j) s = .next t ∧ EndReason.fault ∈ (t.job j.toNat).ending
        ∧ (∀ i, i ≠ j.toNat → t.job i = s.job i) ∧ SameBut [.til] s t)

/-- O26. GDDR7 (R256, R261, R263, R264, R266 to R268, R275, R277, R282): a lost device leaves service and ends every live job;
retraining counts its failures; the patrol, which works only while `SCRUB_EN` is 1, retires an unprotected page with an uncorrectable
line, whose place a spare takes when it is next allotted; a line that is bad in one copy of a protected page is served from the other
copy; one that is bad in both raises the notice of a lost line.
Where the rules leave room, it follows the model's choices and readings in log entry 19. -/
def Obligations.MemoryTiers : Prop :=
  ∀ s : State, Canonical s →
    (∀ d : Fin 16, s.devDue d.val ≠ 0 → ∃ t, exec (.gddr7DeviceLost d) s = .next t ∧ (t.dev d.val).state = 2
      ∧ t.mem = { s.mem with devs := t.mem.devs, degraded := true } ∧ (∀ e, e ≠ d.val → t.dev e = s.dev e)
      ∧ Notified Src.mem 0 d.val 0 t ∧ (∀ j, (s.job j).live = true → EndReason.fault ∈ (t.job j).ending)
      ∧ SameBut [.mem, .events, .att, .til] s t)
    ∧ (∀ (d : Fin 16) (ok : Bool), (s.dev d.val).state ≠ 2 → ∃ t, exec (.channelRetraining d ok) s = .next t
      ∧ (t.dev d.val).state = (if ok then 0 else 1) ∧ (t.dev d.val).failed = (if ok then 0 else (s.dev d.val).failed + 1)
      ∧ (t.dev d.val).spares = (s.dev d.val).spares ∧ (∀ e, e ≠ d.val → t.dev e = s.dev e) ∧ SameBut [.mem] s t)
    ∧ (∀ (p : BitVec 24) (r : ScrubResult), s.inForce Reg.MEM_CTL 0 1 = 0 → exec (.patrolScrub p r) s = .next s)
    ∧ (∀ (p : BitVec 24) (again : Bool), s.inForce Reg.MEM_CTL 0 1 = 1 → s.protectedPage p.toNat = false → p.toNat ∉ s.mem.retired →
      pageExists p.toNat = true → (∀ r ∈ s.mem.retiring, r.page ≠ p.toNat) →
      ∃ t, exec (.patrolScrub p (.uncorrectable again)) s = .next t
      ∧ t.mem.retired = s.mem.retired ++ [p.toNat] ∧ Notified Src.mem 2 p.toNat 0 t
      ∧ ⟨0x000C, Sev.error, 5, leBytes 4 p.toNat ++ [BitVec.ofNat 8 RetireCause.scrub]⟩ ∈ t.att.waiting
      ∧ t.field Reg.MEM_ECC 16 16 = min (2 ^ 16 - 1) (s.field Reg.MEM_ECC 16 16 + 1)
      ∧ (t.dev (pageDev p.toNat)).spares = (s.dev (pageDev p.toNat)).spares
      ∧ (t.dev (pageDev p.toNat)).scrub = pageIndex p.toNat
      ∧ ((s.dev (pageDev p.toNat)).spares ≠ 0 → t.mem.unallotted = s.mem.unallotted ++ [p.toNat] ∧ t.mem.gone = s.mem.gone)
      ∧ ((s.dev (pageDev p.toNat)).spares = 0 → t.mem.unallotted = s.mem.unallotted ∧ t.mem.gone = s.mem.gone + 1)
      ∧ SameBut [.mem, .events, .att, .regs] s t)
    ∧ (∀ p : BitVec 24, s.inForce Reg.MEM_CTL 0 1 = 1 → s.protectedPage p.toNat = true →
      (∃ t, exec (.patrolScrub p (.uncorrectable false)) s = .next t ∧ t.mem = { s.mem with devs := t.mem.devs }
        ∧ t.field Reg.MEM_ECC 0 16 = min (2 ^ 16 - 1) (s.field Reg.MEM_ECC 0 16 + 1)
        ∧ t.field Reg.MEM_ECC 16 16 = min (2 ^ 16 - 1) (s.field Reg.MEM_ECC 16 16 + 1)
        ∧ (t.dev (pageDev p.toNat)).scrub = pageIndex p.toNat ∧ SameBut [.mem, .regs] s t)
      ∧ (∃ t, exec (.patrolScrub p .bothCopies) s = .next t ∧ Notified Src.mem 1 p.toNat 0 t))
    ∧ (∀ p : BitVec 24, s.inForce Reg.MEM_CTL 0 1 = 1 → tget (fun _ => 0) s.mem.occasions p.toNat ≠ 3 →
      ∃ t, exec (.patrolScrub p .corrected) s = .next t
      ∧ tget (fun _ => 0) t.mem.occasions p.toNat = tget (fun _ => 0) s.mem.occasions p.toNat + 1
      ∧ t.mem = { s.mem with occasions := t.mem.occasions, devs := t.mem.devs }
      ∧ (t.dev (pageDev p.toNat)).scrub = pageIndex p.toNat
      ∧ t.field Reg.MEM_ECC 32 32 = min (2 ^ 32 - 1) (s.field Reg.MEM_ECC 32 32 + 1) ∧ SameBut [.mem, .regs] s t)
    ∧ (∀ p : BitVec 24, ∃ t, exec (.retireSwitch p) s = .next t
      ∧ t.mem = { s.mem with retiring := t.mem.retiring } ∧ t.mem.retiring.length = s.mem.retiring.length
      ∧ (∀ r ∈ t.mem.retiring, r.page = p.toNat → r.ready = true) ∧ SameBut [.mem] s t)
    ∧ (∀ (j : BitVec 8) (n : BitVec 24), ∃ t, exec (.pageZeroed j n) s = .next t
      ∧ tget (fun _ => 0) t.mem.zeroing j.toNat = tget (fun _ => 0) s.mem.zeroing j.toNat - n.toNat
      ∧ (∀ i, i ≠ j.toNat → tget (fun _ => 0) t.mem.zeroing i = tget (fun _ => 0) s.mem.zeroing i)
      ∧ t.mem = { s.mem with zeroing := t.mem.zeroing } ∧ SameBut [.mem] s t)
    ∧ (exec .cellarApply s = .next { s with mem := { s.mem with apply := true } })

/-- O27. Jobs begin (R93, R116, R119, R120): a JOB_START whose checks pass gets the lowest number, its tiles and free background pages
there, and waits for its image; one that fails is answered with the refusal code and changes nothing else; an image with the record's
digest is copied into GDDR7 and lets the job become READY, any other ends it with code 6.
Where the rules leave room, it follows the model's choices and readings in log entries 8 and 19. -/
def Obligations.JobsBegin : Prop :=
  ∀ s : State, Canonical s →
    (∀ (seat : BitVec 3) (slot : BitVec 12) (o : TakenOrder) (j : Nat), s.order? seat.toNat slot.toNat 3 = some o →
      s.admitCheck o.seat o.jobRec = 0 → s.jobNumber = some j → ∃ t, exec (.jobStart seat slot) s = .next t
      ∧ (t.job j).state = .admitting ∧ (t.job j).seat = o.seat ∧ (t.job j).info = some { o.jobRec with job := j }
      ∧ some (t.job j).tiles = s.pickTiles o.jobRec ∧ (t.job j).pages = o.jobRec.pages
      ∧ (∀ u ∈ (t.job j).tiles, ∃ l, (j, l) ∈ (t.tile u).contexts ∧ l.length ≤ o.jobRec.pages
          ∧ ∀ p ∈ l, p < 992 ∧ p ∉ (t.tile u).fcMap ∧ p ∉ (t.tile u).retired)
      ∧ (∀ u, u ∉ (t.job j).tiles → t.tile u = s.tile u) ∧ (∀ i, i ≠ j → t.job i = s.job i)
      ∧ (∃ p ∈ t.taken, p.seat = o.seat ∧ p.slot = o.slot ∧ p.carried = true ∧ p.result = 0 ∧ p.obj = j)
      ∧ SameBut [.taken, .til, .events, .mem, .att] s t)
    ∧ (∀ (seat : BitVec 3) (slot : BitVec 12) (o : TakenOrder), s.order? seat.toNat slot.toNat 3 = some o →
      s.admitCheck o.seat o.jobRec ≠ 0 → ∃ t, exec (.jobStart seat slot) s = .next t
      ∧ Notified Src.til 1 noObj (s.admitCheck o.seat o.jobRec) t
      ∧ (∃ p ∈ t.taken, p.seat = o.seat ∧ p.slot = o.slot ∧ p.carried = true ∧ p.result = s.admitCheck o.seat o.jobRec)
      ∧ SameBut [.taken, .events] s t)
    ∧ (∀ (j : BitVec 8) (r : JobRec), (s.job j.toNat).info = some r → (s.job j.toNat).state = .admitting →
      (s.job j.toNat).admitted = false →
      (r.imageOk = true → Config.shake256 r.imgLen (tslice s.ram (hallBase (s.job j.toNat).hallSeat + r.imgOff) r.imgLen) = r.digest →
        ∃ t, exec (.jobAdmitted j) s = .next t ∧ t.job j.toNat = { s.job j.toNat with admitted := true, imageHeld := true }
          ∧ (∀ k, k < r.imgLen → t.readByte (jobImage j.toNat + k) = s.readByte (hallBase (s.job j.toNat).hallSeat + r.imgOff + k))
          ∧ (∀ a, a < jobImage j.toNat ∨ jobImage j.toNat + r.imgLen ≤ a → t.readByte a = s.readByte a)
          ∧ (∀ i, i ≠ j.toNat → t.job i = s.job i) ∧ SameBut [.til, .ram] s t)
      ∧ (r.imageOk = false ∨
          Config.shake256 r.imgLen (tslice s.ram (hallBase (s.job j.toNat).hallSeat + r.imgOff) r.imgLen) ≠ r.digest →
        ∃ t, exec (.jobAdmitted j) s = .next t ∧ (t.job j.toNat).admission = 6 ∧ EndReason.refused ∈ (t.job j.toNat).ending
          ∧ (t.job j.toNat).admitted = false ∧ (∀ i, i ≠ j.toNat → t.job i = s.job i) ∧ SameBut [.til] s t))

/-- O28. Jobs are controlled and end (R119, R121 to R123, R276): the register form waits for its tick, for the job that `TIL_JOB_SEL`
selects; the order form takes its order up; what the tick then carries out parks, resumes or stops the job; a stopped job frees its
contexts, and its memory reads 0 from then on; an exit ends the job with DONE and its code.
Where the rules leave room, it follows the model's choices and readings in log entries 7, 21 and 47. -/
def Obligations.JobsControlled : Prop :=
  ∀ s : State, Canonical s →
    (∀ j : BitVec 8, s.field Reg.TIL_JOB_SEL 0 8 = j.toNat →
      exec (.jobPark .register j) s = .next { s with til := { s.til with ctlOp := some 1 } }
      ∧ exec (.jobResume .register j) s = .next { s with til := { s.til with ctlOp := some 2 } }
      ∧ exec (.jobStop .register j) s = .next { s with til := { s.til with ctlOp := some 3 } })
    ∧ (∀ op, s.til.ctlOp = some op → s.ctlCheck 0 (s.field Reg.TIL_JOB_SEL 0 8) op = 0 →
      s.takeJobCtl = ({ s with til := { s.til with ctlOp := none } }).control op (s.field Reg.TIL_JOB_SEL 0 8))
    ∧ (∀ (seat : BitVec 3) (slot : BitVec 12) (j : BitVec 8), (seat.toNat, slot.toNat) ∈ s.slotsToTake →
      s.hallNat seat.toNat (256 * slot.toNat + 1) 1 = 4 → s.hallNat seat.toNat (256 * slot.toNat + 32) 2 = j.toNat →
      ∀ c : Instr, (s.hallNat seat.toNat (256 * slot.toNat + 34) 1 = 1 ∧ c = .jobPark (.order seat slot) j)
          ∨ (s.hallNat seat.toNat (256 * slot.toNat + 34) 1 = 2 ∧ c = .jobResume (.order seat slot) j)
          ∨ (s.hallNat seat.toNat (256 * slot.toNat + 34) 1 = 3 ∧ c = .jobStop (.order seat slot) j) →
        ∃ t o, exec c s = .next t ∧ t.taken = s.taken ++ [o] ∧ o.seat = seat.toNat ∧ o.slot = slot.toNat ∧ o.typ = 4
          ∧ o.taken = s.nextTick ∧ o.num 0 2 = j.toNat ∧ o.num 2 1 = s.hallNat seat.toNat (256 * slot.toNat + 34) 1
          ∧ t.hallNat seat.toNat (256 * slot.toNat) 1 = 2 ∧ SameBut [.taken, .ram, .regs] s t)
    ∧ (∀ j : Nat,
      ((s.job j).state = .ready ∨ (s.job j).state = .running → ((s.control 1 j).job j).state = .parked
          ∧ Park.order ∈ ((s.control 1 j).job j).parks ∧ (∀ i, i ≠ j → (s.control 1 j).job i = s.job i)
          ∧ SameBut [.til, .events] s (s.control 1 j))
      ∧ ((s.job j).state = .parked → (s.job j).parks = [Park.order] → ((s.control 2 j).job j).state = .ready
          ∧ ((s.control 2 j).job j).parks = [] ∧ (∀ i, i ≠ j → (s.control 2 j).job i = s.job i)
          ∧ SameBut [.til, .events] s (s.control 2 j))
      ∧ (let t := s.control 3 j
        (t.job j).state = .ended ∧ (t.job j).endReason = EndReason.stopped ∧ (t.job j).tiles = []
          ∧ (∀ u c, c ∈ (t.tile u).contexts → c.1 ≠ j) ∧ (∀ u, (t.tile u).running ≠ some j)
          ∧ (∀ a, jobBase j ≤ a → a < jobBase j + 2 ^ 37 → t.readByte a = 0)
          ∧ (∀ a, a < jobBase j ∨ jobBase j + 2 ^ 37 ≤ a → t.readByte a = s.readByte a)
          ∧ (∀ i, i ≠ j → t.job i = s.job i)))
    ∧ (∀ (j : BitVec 8) (code : BitVec 32), (s.job j.toNat).state = .running → ∃ t, exec (.jobExit j code) s = .next t
      ∧ (t.job j.toNat).exitCode = code.toNat ∧ EndReason.done ∈ (t.job j.toNat).ending ∧ (t.job j.toNat).state = .running
      ∧ (∀ u ∈ (s.job j.toNat).tiles, Asked j.toNat (s.tile u) (t.tile u))
      ∧ (∀ i, i ≠ j.toNat → t.job i = s.job i) ∧ SameBut [.til] s t)


-- Operations, the plan and the tables -------------------------------------------------------------------------------------

/-- O29. Operations written to an `OP` field wait for the next tick and do nothing else (R497): what waits is the operation last
written to the field, whatever waited before.
Where the rules leave room, it follows the model's choices and readings in log entry 22. -/
def Obligations.OperationsWaitForTheTick : Prop :=
  ∀ s : State,
    (exec .planValidate s = .next { s with ops := { s.ops with plan := some (1, false) } }
      ∧ (∀ f, exec (.planCommit f) s = .next { s with ops := { s.ops with plan := some (2, f) } })
      ∧ exec .planCancel s = .next { s with ops := { s.ops with plan := some (3, false) } })
    ∧ ((∀ c, exec (.tableClaim c) s = .next { s with ops := { s.ops with table := some (1, c) } })
      ∧ exec .tableReady s = .next { s with ops := { s.ops with table := some (2, false) } }
      ∧ exec .tableRelease s = .next { s with ops := { s.ops with table := some (3, false) } }
      ∧ exec .tableSwap s = .next { s with ops := { s.ops with table := some (4, false) } }
      ∧ exec .tableRevert s = .next { s with ops := { s.ops with table := some (5, false) } })
    ∧ (exec .descLoad s = .next { s with ops := { s.ops with desc := some 1 } }
      ∧ exec .descWrite s = .next { s with ops := { s.ops with desc := some 2 } }
      ∧ exec .descCancel s = .next { s with ops := { s.ops with desc := some 3 } })
    ∧ (∀ l : BitVec 14, ∃ a b c d, exec (.loopCtlStart l) s = .next a ∧ exec (.loopCtlOff l) s = .next b
      ∧ exec (.loopCtlFreeze l) s = .next c ∧ exec (.loopCtlRelease l) s = .next d
      ∧ a.ops.loops.filter (·.1 = l.toNat) = [(l.toNat, 1)] ∧ b.ops.loops.filter (·.1 = l.toNat) = [(l.toNat, 2)]
      ∧ c.ops.loops.filter (·.1 = l.toNat) = [(l.toNat, 3)] ∧ d.ops.loops.filter (·.1 = l.toNat) = [(l.toNat, 4)]
      ∧ (∀ m, m ≠ l.toNat → a.ops.loops.filter (·.1 = m) = s.ops.loops.filter (·.1 = m))
      ∧ SameBut [.ops] s a ∧ SameBut [.ops] s b ∧ SameBut [.ops] s c ∧ SameBut [.ops] s d)
    ∧ ((∀ r, exec (.releaseAll r) s = .next { s with ops := { s.ops with releaseAll := some r.toNat } })
      ∧ (∀ m, exec (.clrCount m) s = .next { s with ops := { s.ops with clrCount := s.ops.clrCount ||| m.toNat } })
      ∧ exec (.abort .register) s = .next { s with ops := { s.ops with mov := some (1, 0) } }
      ∧ (∀ e, exec (.rearm e) s = .next { s with ops := { s.ops with mov := some (2, e.toNat) } })
      ∧ exec .rearmAll s = .next { s with ops := { s.ops with mov := some (3, 0) } })
    ∧ ((∀ p, exec (.stage p) s = .next { s with ops := { s.ops with upd := some (1, p) } })
      ∧ (∀ p, exec (.activate p) s = .next { s with ops := { s.ops with upd := some (2, p) } })
      ∧ exec .updateCancel s = .next { s with ops := { s.ops with upd := some (3, false) } }
      ∧ exec .confirm s = .next { s with ops := { s.ops with upd := some (4, false) } }
      ∧ exec .fallback s = .next { s with ops := { s.ops with upd := some (5, false) } }
      ∧ exec .enrollKey s = .next { s with ops := { s.ops with upd := some (6, false) } }
      ∧ exec .revokeKey s = .next { s with ops := { s.ops with upd := some (7, false) } })
    ∧ (exec .atticRead s = .next { s with ops := { s.ops with att := some 1 } }
      ∧ exec .atticCancel s = .next { s with ops := { s.ops with att := some 2 } }
      ∧ exec .rejoin s = .next { s with ops := { s.ops with rejoin := true } })

/-- O30. The operations of `PLN_CMD` at their tick (R66, R73, R79): a validation copies the staged image into the candidate store;
while a commit is pending it and a commit are BUSY; a commit needs a candidate; CANCEL drops a validation, a candidate or a
pending commit.
Where the rules leave room, it follows the model's choices and readings in log entries 10 and 22. -/
def Obligations.PlanOperationsTakenUp : Prop :=
  ∀ s : State,
    (s.ops.plan = some (1, false) → s.commitBusy = false → s.takePlan.plan.st = .validating ∧ s.takePlan.plan.cand = none
      ∧ (0x1000000 ≤ s.field Reg.PLN_STAGE_OFF 0 28 → s.field Reg.PLN_STAGE_OFF 0 28 % 4096 = 0 →
          s.field Reg.PLN_STAGE_OFF 0 28 + s.field Reg.PLN_STAGE_LEN 0 28 ≤ hallSize →
          s.takePlan.plan.imageLen = s.field Reg.PLN_STAGE_LEN 0 28
          ∧ s.takePlan.plan.image = tslice s.ram (hallBase 0 + s.field Reg.PLN_STAGE_OFF 0 28) (s.field Reg.PLN_STAGE_LEN 0 28))
      ∧ s.takePlan.plan.plan = s.plan.plan ∧ s.takePlan.plan.tables = s.plan.tables ∧ SameBut [.plan, .upd, .ops] s s.takePlan)
    ∧ (∀ f, s.commitBusy = true → s.ops.plan = some (1, f) ∨ s.ops.plan = some (2, f) →
        s.takePlan = { s with ops := { s.ops with plan := none }, plan := { s.plan with cmdResult := 7 } })
    ∧ (∀ f, s.ops.plan = some (2, f) → s.commitBusy = false → s.plan.st ≠ .valid →
        s.takePlan = { s with ops := { s.ops with plan := none }, plan := { s.plan with cmdResult := 6 } })
    ∧ (s.ops.plan = some (3, false) → (s.plan.st = .valid ∨ s.plan.st = .validating) →
        s.takePlan.plan.st = .idle ∧ s.takePlan.plan.cmdResult = 8 ∧ s.takePlan.plan.plan = s.plan.plan)
    ∧ (s.ops.plan = some (3, false) → (s.plan.st = .scheduled ∨ s.plan.st = .preload) →
        s.takePlan.plan.st = .valid ∧ s.takePlan.plan.cmdResult = 8 ∧ s.takePlan.plan.plan = s.plan.plan
        ∧ ∀ p ∈ s.takePlan.plan.tables, p.2.writer ≠ 3)
    ∧ (s.ops.plan = some (3, false) → s.plan.st = .bridge → s.takePlan.plan.st = .bridge ∧ s.takePlan.plan.cmdResult = 7)

/-- O31. A commit takes effect at its tick (R74 to R77): the candidate governs from that tick, with its frame and its tables; a
move in progress turns back a commit that is not forced.
A BRIDGED commit is DONE at T and shows BRIDGE until tick T + B, where its bridge ends, and not before (R76, R528); a validation
that ends waits for its tick with its figures (R66).
Where the rules leave room, it follows the model's choices and readings in log entry 10. -/
def Obligations.CommitTakesEffect : Prop :=
  (∀ (s : State) (q : Plan), s.commitDue = true → s.plan.cand = some q →
     (q.kind = 0 → (s.plan.force = true ∨ s.decideMoves.movesRun = false) → ∃ t, exec .commitTakeEffect s = .next t
       ∧ t.plan.plan = q ∧ t.plan.committed = true ∧ t.plan.digest = q.digest ∧ t.plan.planId = q.planId
       ∧ t.plan.commitFrame = s.nextTick ∧ t.plan.variant = 0 ∧ t.plan.cand = none ∧ t.hrt.cfg = q.frame
       ∧ t.plan.tables.map Prod.fst = q.tables.map (·.id) ∧ t.staged = none
       ∧ t.hrt.frame = s.hrt.frame ∧ t.hrt.time = s.hrt.time
       ∧ t.plan.cmdResult = 1 ∧ Notified Src.pln 3 noObj 0 t
       ∧ (s.plan.candKind = 3 → t.plan.st = .bridge ∧ t.plan.bridgeEnd = s.nextTick + s.plan.bridge)
       ∧ (s.plan.candKind ≠ 3 → t.plan.st = .idle))
     ∧ (q.kind = 1 → s.plan.candKind ≠ 3 → (s.plan.force = true ∨ s.decideMoves.movesRun = false) →
       ∃ t, exec .commitTakeEffect s = .next t ∧ t.plan.st = .idle ∧ t.plan.cmdResult = 1 ∧ t.plan.cand = none
         ∧ t.plan.commitFrame = s.nextTick ∧ t.plan.tables.map Prod.fst = s.plan.tables.map Prod.fst
         ∧ Notified Src.pln 3 noObj 0 t ∧ t.staged = none)
     ∧ (s.plan.force = false → s.decideMoves.movesRun = true → ∃ t, exec .commitTakeEffect s = .next t
         ∧ t.plan.st = .valid ∧ t.plan.cmdResult = 4 ∧ t.plan.plan = s.plan.plan ∧ t.plan.cand = some q ∧ t.hrt = s.hrt
         ∧ Notified Src.pln 2 noObj 4 t))
  ∧ (∀ s : State,
        (s.plan.st = .bridge → s.plan.bridgeEnd ≤ s.nextTick → ∃ t, exec .bridgeEnd s = .next t ∧ t.plan.st = .idle
          ∧ t.plan.cmdResult = s.plan.cmdResult ∧ t.plan.plan = s.plan.plan ∧ SameBut [.plan, .mov, .events] s t)
        ∧ (s.plan.st ≠ .bridge ∨ s.nextTick < s.plan.bridgeEnd → exec .bridgeEnd s = .next s)
        ∧ (∀ fig, s.plan.st = .validating →
            exec (.validationEnd fig) s = .next { s with plan := { s.plan with valEnd := some fig } })
        ∧ (∀ fig, s.plan.st ≠ .validating → exec (.validationEnd fig) s = .next s))

/-- O32. The operations of `PLN_TBL_CTL` at their tick (R82 to R85), for a table of the plan in force.
Swaps take effect together (R84, R86): the two banks of every due table exchange places, `GEN` counts the swap, and the
table's last tick is the coming one; no other table changes.
Where the rules leave room, it follows the model's choices and readings in log entry 22. -/
def Obligations.TableOperationsTakenUp : Prop :=
  (∀ (s : State) (x : PlanTable), s.table? (s.field Reg.PLN_TBL_SEL 0 16) = some x →
     let id := s.field Reg.PLN_TBL_SEL 0 16
     let want := (s.reg Reg.PLN_TBL_SWAP_TICK).toNat
     (∀ c, s.ops.table = some (1, c) → x.desc.flags / 4 % 2 = 1 → x.inactive ≤ 1 →
       s.takeTable.table? id = some { x with inactive := 2, writer := 1, writerJob := 0, copying := c, result := 0 })
     ∧ (∀ c, s.ops.table = some (1, c) → x.desc.flags / 4 % 2 = 1 → 2 ≤ x.inactive →
       s.takeTable.table? id = some { x with result := 1 })
     ∧ (∀ c, s.ops.table = some (1, c) → x.desc.flags / 4 % 2 = 0 → s.takeTable.table? id = some { x with result := 4 })
     ∧ (∀ c, s.ops.table = some (2, c) → x.inactive = 2 → x.writer = 1 → x.writerJob = 0 →
       s.takeTable.table? id = some (if x.otherCrc = s.field Reg.PLN_TBL_CRC 0 32
         then { x with inactive := 3, copying := false, result := 0 } else { x with result := 3 }))
     ∧ (∀ c, s.ops.table = some (3, c) → (x.inactive = 2 ∨ x.inactive = 3) → x.writer = 1 → x.writerJob = 0 →
       s.takeTable.table? id = some { x with inactive := 0, writer := 0, writerJob := 0, copying := false, other := [], result := 0 })
     ∧ (∀ c, s.ops.table = some (4, c) → x.inactive ≠ 3 → s.takeTable.table? id = some { x with result := 2 })
     ∧ (∀ c, s.ops.table = some (5, c) → x.inactive ≠ 1 → s.takeTable.table? id = some { x with result := 6 })
     ∧ (∀ c, (s.ops.table = some (4, c) ∧ x.inactive = 3) ∨ (s.ops.table = some (5, c) ∧ x.inactive = 1) →
         want ≠ 0 → want < s.nextTick + 1 → s.takeTable.table? id = some { x with result := 7 })
     ∧ (∀ c, (s.ops.table = some (4, c) ∧ x.inactive = 3) ∨ (s.ops.table = some (5, c) ∧ x.inactive = 1) →
         want = 0 ∨ s.nextTick + 1 ≤ want → s.takeTable.table? id = some { x with
           inactive := 4, swapAt := some (if want = 0 then s.nextTick + 1 else want, s.plan.swapSeq), result := 0 })
     ∧ SameBut [.plan, .ops] s s.takeTable ∧ (∀ i, i ≠ id → s.takeTable.table? i = s.table? i))
  ∧ (∀ s : State, s.swapsDue.Nodup → ∃ t, exec .swapTakeEffect s = .next t
        ∧ (∀ id x, id ∈ s.swapsDue → s.table? id = some x → ∃ y, t.table? id = some y ∧ y.bank = x.other ∧ y.other = x.bank
            ∧ y.active = 1 - x.active ∧ y.gen = (x.gen + 1) % 2 ^ 32 ∧ y.lastTick = s.nextTick ∧ y.swapAt = none
            ∧ (x.loaded = true → y.inactive = 1) ∧ Notified Src.pln 4 id 0 t)
        ∧ (∀ id, id ∉ s.swapsDue → t.table? id = s.table? id)
        ∧ s.swapsDue.length ≤ 64 ∧ SameBut [.plan, .regs, .events, .mov] s t)

/-- O33. The staging window and the writers of a bank (R82, R83): while the Owner seat holds the claim the window reads and writes the
inactive bank, otherwise it reads 0 and ignores writes; the committed bank is copied into a bank claimed so; a job claims,
readies and releases the banks its record grants.
Where the rules leave room, it follows the model's choices and readings in log entry 29. -/
def Obligations.BanksAreWritten : Prop :=
  ∀ s : State,
    (∀ (o : BitVec 21) (w : Width) (x : PlanTable), aligned w o.toNat = true → s.table? (s.field Reg.PLN_TBL_SEL 0 16) = some x →
      x.ownerHolds = true → s.windowAt o.toNat + (if w = .full then 8 else 4) ≤ x.desc.bankBytes →
      (∀ v, ∃ t, exec (.tableWindowAccess o w (some v)) s = .next t
        ∧ t.table? (s.field Reg.PLN_TBL_SEL 0 16) = some { x with
            other := tsetList (fun _ => 0) x.other (s.windowAt o.toNat) (leBytes (if w = .full then 8 else 4) v.toNat) }
        ∧ (∀ i, i ≠ s.field Reg.PLN_TBL_SEL 0 16 → t.table? i = s.table? i) ∧ SameBut [.plan] s t)
      ∧ exec (.tableWindowAccess o w none) s = .next { s with
          readData := BitVec.ofNat 64 (bankNat x.other (s.windowAt o.toNat) (if w = .full then 8 else 4)) })
    ∧ (∀ (o : BitVec 21) (w : Width), aligned w o.toNat = true →
        (∀ x, s.table? (s.field Reg.PLN_TBL_SEL 0 16) = some x → x.ownerHolds = false) →
        (∀ v, exec (.tableWindowAccess o w (some v)) s = .next s)
        ∧ exec (.tableWindowAccess o w none) s = .next { s with readData := 0 })
    ∧ (∀ (id : BitVec 16) (x : PlanTable), s.table? id.toNat = some x → x.copying = true →
        ∃ t, exec (.copyActiveDone id) s = .next t ∧ t.table? id.toNat = some { x with other := x.bank, copying := false }
          ∧ (∀ i, i ≠ id.toNat → t.table? i = s.table? i) ∧ SameBut [.plan] s t)
    ∧ (∀ (j : BitVec 8) (id : BitVec 16), (s.job j.toNat).live = true → s.jobMayWrite j.toNat id.toNat = true →
        (∀ c, exec (.jobTableClaim j id (.claim c)) s = .next { s with
            plan := { s.plan with jobClaims := s.plan.jobClaims ++ [(j.toNat, id.toNat, c)] } })
        ∧ (∀ x, s.table? id.toNat = some x → x.heldBy 2 j.toNat = true →
            (∃ t, exec (.jobTableClaim j id .ready) s = .next t
              ∧ t.table? id.toNat = some { x with inactive := 3, copying := false } ∧ SameBut [.plan] s t)
            ∧ (∃ t, exec (.jobTableClaim j id .release) s = .next t
              ∧ t.table? id.toNat = some { x with inactive := 0, writer := 0, writerJob := 0, copying := false, other := [] }
              ∧ SameBut [.plan] s t)))
    ∧ (∀ (j : BitVec 8) (id : BitVec 16) (op : TableOp), s.jobMayWrite j.toNat id.toNat = false →
        exec (.jobTableClaim j id op) s = .next s)

-- Sensing and estimation --------------------------------------------------------------------------------------------------

/-- The payload of a PATCH cell as its shelf packet holds it. -/
abbrev PatchPayload (expo : BitVec 32) (mirror : BitVec 13) (bit : BitVec 16) (pixels : List Byte) : List Byte :=
  leBytes 4 expo.toNat ++ leBytes 2 mirror.toNat ++ leBytes 2 bit.toNat ++ pixels

/-- O34. Patches and readings (R157, R163, R165, R170, R292, R317, R322): a cell that brings a whole patch of the expected exposure makes
it complete, and the mirrors the stream has passed without theirs are lost; one that comes in after its cutoff is late and counts for
no patch of the frame; one that finds no room loses its patch; a foreign one changes no patch; readings of the current frame are kept,
unless their packet has an uncorrectable word; a dropped cell is counted; the cutoff fixes the flags once, and a patch whose packet has
an uncorrectable word is MISSING.
Where the rules leave room, it follows the model's choices and readings in log entry 13. -/
def Obligations.PatchesAndReadings : Prop :=
  ∀ (s : State) (p : BitVec 4), Canonical s →
    (∀ (expo : BitVec 32) (m : BitVec 13) (pixels : List Byte) (x : Nat), s.passes p.toNat = true →
      (s.laneEntry p.toNat).role = 1 → (s.laneEntry p.toNat).holds m.toNat = true → 0 < (s.laneEntry p.toNat).patchBits →
      (s.expected p.toNat).find? (fun x => x % 2 ^ 32 = expo.toNat) = some x → 8 * pixels.length = (s.laneEntry p.toNat).patchBits →
      (s.patchOf x m.toNat).bits = 0 → (s.patchOf x m.toNat).missing = false →
      (s.laneEntry p.toNat).first + (s.laneEntry p.toNat).count ≤ 8192 →
      (((s.receive p.toNat).shelfCell p.toNat 1 (s.porch p.toNat).rxSeq (PatchPayload expo m 0 pixels)).2 = true →
        ∃ t, exec (.patchCell p expo m 0 pixels) s = .next t
          ∧ (t.patchOf x m.toNat).bits = (s.laneEntry p.toNat).patchBits ∧ (t.patchOf x m.toNat).missing = false
          ∧ (t.patchOf x m.toNat).late = ((s.patchOf x m.toNat).late || (s.patchOf x m.toNat).fixed.isSome)
          ∧ (t.porch p.toNat).patchesIn = (s.porch p.toNat).patchesIn + (if (s.patchOf x m.toNat).fixed.isSome then 0 else 1)
          ∧ (∀ i, (s.laneEntry p.toNat).first ≤ i → i < m.toNat → (s.patchOf x i).bits < (s.laneEntry p.toNat).patchBits →
              (t.patchOf x i).missing = true)
          ∧ (∀ i, i < 8192 → m.toNat < i → t.patchOf x i = s.patchOf x i) ∧ SameBut [.regs, .events, .est, .porches, .shelves] s t)
      ∧ (((s.receive p.toNat).shelfCell p.toNat 1 (s.porch p.toNat).rxSeq (PatchPayload expo m 0 pixels)).2 = false →
        ∃ t, exec (.patchCell p expo m 0 pixels) s = .next t ∧ (t.patchOf x m.toNat).missing = true
          ∧ (t.porch p.toNat).patchesIn = (s.porch p.toNat).patchesIn))
    ∧ (∀ (expo : BitVec 32) (m : BitVec 13) (b : BitVec 16) (pixels : List Byte), s.passes p.toNat = true →
      (∀ x ∈ s.expected p.toNat, x % 2 ^ 32 ≠ expo.toNat) → ∃ t, exec (.patchCell p expo m b pixels) s = .next t
        ∧ t.est = s.est ∧ t.shelves = s.shelves
        ∧ t.porch p.toNat = { s.porch p.toNat with heard := true, rxSeq := ((s.porch p.toNat).rxSeq + 1) % 65536 }
        ∧ t.field (Reg.PCH_Pp_PATCH p.toNat) 16 16
            = min (2 ^ 16 - 1) (s.field (Reg.PCH_Pp_PATCH p.toNat) 16 16
                + begins (patchPieces (s.laneEntry p.toNat).patchBits 600 m.toNat b.toNat (8 * pixels.length))))
    ∧ (∀ (tick : BitVec 32) (first : BitVec 12) (rs : List TapReading) (i : Nat) (r : TapReading), s.passes p.toNat = true →
      (s.laneEntry p.toNat).role = 3 → tick.toNat = s.hrt.frame % 2 ^ 32 → (s.sense p.toNat).isSome = true → s.untapped = false →
      rs[i]? = some r → (s.laneEntry p.toNat).holds (first.toNat + i) = true → ∃ t, exec (.tapCell p tick first (rs, .good)) s = .next t
        ∧ tget (fun _ => ({} : TapReading)) t.mov.tapNow (first.toNat + i) = { r with flags := r.flags % 16 }
        ∧ (∀ k, k < first.toNat ∨ first.toNat + rs.length ≤ k →
            tget (fun _ => ({} : TapReading)) t.mov.tapNow k = tget (fun _ => {}) s.mov.tapNow k)
        ∧ SameBut [.regs, .mov, .porches] s t)
    ∧ (∀ (tick : BitVec 32) (first : BitVec 12) (rs : List TapReading), ∃ t, exec (.tapCell p tick first (rs, .uncorrectable)) s = .next t
        ∧ t.mov = s.mov)
    ∧ (∀ (c : DropCause) (m : BitVec 13), s.linked p.toNat = true → (s.laneEntry p.toNat).role = 1 →
      (s.laneEntry p.toNat).holds m.toNat = true → ∃ t, exec (.cellDropped p c (some m)) s = .next t
        ∧ (t.patchOf (s.lostExposure p.toNat m.toNat) m.toNat).missing = true
        ∧ t.field (Reg.PCH_Pp_RX p.toNat) 16 16 = min (2 ^ 16 - 1) (s.field (Reg.PCH_Pp_RX p.toNat) 16 16 + 1)
        ∧ t.porch p.toNat = { s.porch p.toNat with holed := true } ∧ (∀ q, q ≠ p.toNat → t.porch q = s.porch q)
        ∧ SameBut [.regs, .events, .est, .porches, .shelves] s t)
    ∧ (∀ (first : BitVec 13) (count : BitVec 14), ∃ t, exec (.cutoff (first, count) []) s = .next t ∧ SameBut [.est, .shelves] s t
        ∧ (∀ m q, first.toNat ≤ m → m < first.toNat + count.toNat → m < 8192 → s.imagerPorch m = some q →
            (t.patchOf (s.openExposure first.toNat) m).fixed
              = some ((s.patchOf (s.openExposure first.toNat) m).fixed.getD
                  (patchFlags (s.laneEntry q).patchBits (s.porch q).holed (s.patchOf (s.openExposure first.toNat) m))))
        ∧ (∀ m, m < 8192 → (m < first.toNat ∨ first.toNat + count.toNat ≤ m) →
            t.patchOf (s.openExposure first.toNat) m = s.patchOf (s.openExposure first.toNat) m))
    ∧ (∀ (first m : BitVec 13) (count : BitVec 14) (q : Nat), first.toNat ≤ m.toNat → m.toNat < first.toNat + count.toNat →
        s.imagerPorch m.toNat = some q → 0 < (s.patchOf (s.openExposure first.toNat) m.toNat).bits →
        (s.patchOf (s.openExposure first.toNat) m.toNat).fixed = none →
        ∃ t f, exec (.cutoff (first, count) [(m, .uncorrectable)]) s = .next t
          ∧ (t.patchOf (s.openExposure first.toNat) m.toNat).fixed = some f ∧ f % 8 = 2)

/-- O35. Estimates land (R158, R161 to R164, R184): the record of a mirror is that of its outputs and of the flags its patch had at
the cutoff; both of its loops keep it, and those that are computed in the frame have their command. Outputs land one by one.
The services that use them (R177, R180): a candidate is trained once enough samples are in, and becomes READY only if it lowers
the residual as asked; a rebuild round ends with the entries that moved. -/
def Obligations.EstimatesAndServices : Prop :=
  ∀ s : State, Canonical s →
    (∀ (o : NetOut) (late : List (BitVec 14)) (p : Nat), s.estimates = true → s.imagerPorch o.mirror.toNat = some p →
      let q := s.patchOf (s.hrt.frame - 1) o.mirror.toNat
      ∃ t, exec (.estimateLands [o] late) s = .next t
        ∧ (∀ l, l = 2 * o.mirror.toNat ∨ l = 2 * o.mirror.toNat + 1 → (s.loop l).record = none →
            (t.loop l).record = some (estRecord ((s.hrt.frame - 1) % 2 ^ 32)
              (q.fixed.getD (patchFlags (s.laneEntry p).patchBits (s.porch p).holed q)) o)
            ∧ (s.eng.dpOut = [] → s.computes l (s.loop l) = true → (∀ b ∈ late, b.toNat ≠ l) → (t.loop l).ready.isSome = true))
        ∧ (∀ l, l ≠ 2 * o.mirror.toNat → l ≠ 2 * o.mirror.toNat + 1 →
            (t.loop l).record = (s.loop l).record ∧ (t.loop l).ready = (s.loop l).ready)
        ∧ (netSaturates o = true → o.tile.toNat < 96 → (t.tile o.tile.toNat).frame.saturate = true)
        ∧ t.hrt.frame = s.hrt.frame ∧ SameBut [.hrt, .regs, .loops, .est, .porches, .til, .free] s t)
    ∧ (∀ (o : NetOut) (os : List NetOut) (late : List (BitVec 14)) (t : State), exec (.estimateLands [o] late) s = .next t →
        exec (.estimateLands (o :: os) late) s = exec (.estimateLands os late) t)
    ∧ (∀ (os : List NetOut) (late : List (BitVec 14)), s.estimates = false → exec (.estimateLands os late) s = .next s)
    ∧ (∀ (j : BitVec 8) (n : BitVec 32), (s.job j.toNat).live = true → (s.job j.toNat).service = 2 → s.twn.role ≠ .standby →
        s.est.adaptJob = none → (s.adaptParams j.toNat).samples ≤ n.toNat → exec (.adaptCandidate j n) s = .next { s with
          est := { s.est with samples := n.toNat, adaptJob := some j.toNat, training := true
                              heldOut := n.toNat * (s.adaptParams j.toNat).holdout / 1000 }
          plan := { s.plan with jobClaims := s.plan.jobClaims ++ [(j.toNat, s.workTable j.toNat, true)] } })
    ∧ (∀ (a b : BitVec 32) (j : Nat) (x : PlanTable), s.est.adaptJob = some j → s.est.training = true →
        s.table? (s.workTable j) = some x → x.heldBy 2 j = true → x.copying = false → ∃ t, exec (.adaptDone a b) s = .next t
          ∧ t.table? (s.workTable j) = some (if accepts (s.adaptParams j).accept a b then { x with inactive := 3 }
              else { x with inactive := 0, writer := 0, writerJob := 0, copying := false, other := [] })
          ∧ t.est = { s.est with adaptJob := none, training := false, samples := 0, heldOut := 0 }
          ∧ Notified Src.pln 7 (s.workTable j) (bit (accepts (s.adaptParams j).accept a b)) t
          ∧ SameBut [.att, .events, .plan, .est] s t)
    ∧ (∀ (j : BitVec 8) (avg : List (Nat × Int × Int × Int × Int)) (r : Nat) (x : PlanTable), s.est.round = some r →
        s.table? (s.workTable j.toNat) = some x → x.heldBy 2 j.toNat = true → x.copying = false →
        r + (s.rebuildParams j.toNat).round ≤ s.hrt.frame + 1 → ∃ t, exec (.rebuildRoundEnd j avg) s = .next t
          ∧ t.est.round = none
          ∧ t.est.written = (avg.filter fun a =>
              s.averaged (s.rebuildParams j.toNat).settle a && moved (s.rebuildParams j.toNat).change x.other (8 * a.1) a.2).length
          ∧ (0 < t.est.written → ∃ y, t.table? (s.workTable j.toNat) = some y ∧ y.inactive = 3 ∧ y.bank = x.bank)
          ∧ (t.est.written = 0 → ∃ y, t.table? (s.workTable j.toNat) = some y ∧ y.inactive = 0 ∧ y.other = [])
          ∧ Notified Src.pln 8 (s.workTable j.toNat) t.est.written t ∧ SameBut [.events, .plan, .est] s t)


-- The loop engine ---------------------------------------------------------------------------------------------------------

/-- O36. Class changes that a row names (R187, R192 to R194, R199, R203, R205, R209, R525), where nothing of higher precedence falls on
the loop: hand-over, acquisition, search, the end of the warm-up, and the three freezes. A frozen loop keeps its held command, and
the change shows its rank.
Where the rules leave room, it follows the model's choices and readings in log entry 30. -/
def Obligations.LoopsChangeClass : Prop :=
  ∀ (s : State) (l : BitVec 14), Canonical s →
    let x := s.loop l.toNat
    (s.handOverDue l.toNat = true → ∃ t, exec (.handOver l) s = .next t
      ∧ t.loop l.toNat = { x with cls := Desc.run x.desc, secs := [], integ := ofQ15 x.heldCmd, handRun := 0, took := 5 }
      ∧ (∀ m, m ≠ l.toNat → t.loop m = s.loop m) ∧ SameBut [.loops] s t)
    ∧ (s.acquiredDue l.toNat = true → ∃ t, exec (.acquisitionComplete l) s = .next t
      ∧ (t.loop l.toNat).warm = 64 ∧ (t.loop l.toNat).took = 6 ∧ (t.loop l.toNat).heldCmd = x.heldCmd
      ∧ (t.loop l.toNat).sp = { u := (x.angles.head?).getD x.heldCmd, v := 0 }
      ∧ (t.loop l.toNat).cls = (if Desc.holdIn x.desc < ((s.source l.toNat x - (x.angles.head?).getD x.heldCmd).natAbs : Int)
          then .slew else Desc.run x.desc)
      ∧ (∀ m, m ≠ l.toNat → t.loop m = s.loop m) ∧ SameBut [.loops] s t)
    ∧ (s.searchDue l.toNat = true → ∃ t, exec (.search l) s = .next t
      ∧ t.loop l.toNat = { x with phase := .search, sweep := x.cmd.u, confRun := 0
                                  sweepUp := decide (x.cmd.u - Desc.iMin x.desc ≤ Desc.iMax x.desc - x.cmd.u) }
      ∧ (∀ m, m ≠ l.toNat → t.loop m = s.loop m) ∧ SameBut [.loops] s t)
    ∧ (x.warm ≤ 1 → s.hrt.emitted = true → ∃ t, exec (.warmUpEnd l) s = .next t ∧ t.loop l.toNat = { x with warm := 0 }
      ∧ (∀ m, m ≠ l.toNat → t.loop m = s.loop m) ∧ SameBut [.loops] s t)
    ∧ (∀ c, (c = Instr.acqTimeout l ∧ s.acqTimedOut x = true) ∨ (c = .overrunFreeze l ∧ 3 ≤ x.ovrRun)
          ∨ (c = .implausible l ∧ s.implausible l.toNat x = true) →
        s.freeFor l.toNat 2 = true → x.cls ≠ .off → x.cls ≠ .freeze → ∃ t, exec c s = .next t
      ∧ (t.loop l.toNat).cls = .freeze ∧ (t.loop l.toNat).reason = s.freezeCause l.toNat x
      ∧ (t.loop l.toNat).frzCmd = x.heldCmd ∧ (t.loop l.toNat).heldCmd = x.heldCmd ∧ (t.loop l.toNat).took = 2
      ∧ t.field (Reg.LOOP_COUNT l.toNat) 0 16 = min (2 ^ 16 - 1) (s.field (Reg.LOOP_COUNT l.toNat) 0 16 + 1)
      ∧ ⟨0x0009, Sev.warning, 3, leBytes 2 l.toNat ++ [BitVec.ofNat 8 (s.freezeCause l.toNat x), 0, 0, 0, 0, 0] ++ s.tickBytes⟩
          ∈ t.att.waiting
      ∧ Event.mk Src.trc 0 1 l.toNat (s.freezeCause l.toNat x) [] (s.ownersOf [mirrorPort (l.toNat / 2)]) ∈ t.events
      ∧ (∀ m, m ≠ l.toNat → t.loop m = s.loop m) ∧ SameBut [.loops, .regs, .events, .att] s t)
    ∧ (s.handOverDue l.toNat = false → exec (.handOver l) s = .next s)

/-- O37. `LOOP_CTL` and the set-point at their tick (R187, R194, R196, R209, R525, R526): START from OFF, OFF from any class, RELEASE
to ACQUIRE of a frozen loop whose cause is gone; a refused operation changes the result alone.
Where the rules leave room, it follows the model's choices and readings in log entry 30. -/
def Obligations.LoopOperationsTakenUp : Prop :=
  ∀ (s : State) (l : Nat), Canonical s →
    ((s.loop l).cls = .off → Desc.runClass (s.loop l).desc ≠ 0 → s.freeFor l 7 = true →
      ((s.takeStart l).loop l).cls = .acquire ∧ ((s.takeStart l).loop l).phase = .park
      ∧ ((s.takeStart l).loop l).setpoint = Desc.park (s.loop l).desc ∧ ((s.takeStart l).loop l).angles = []
      ∧ ((s.takeStart l).loop l).heldCmd = (s.loop l).heldCmd ∧ ((s.takeStart l).loop l).result = 0)
    ∧ ((s.loop l).cls ≠ .off → (s.takeStart l).loop l = { s.loop l with result := 1 })
    ∧ (((s.takeOff l).loop l).cls = .off ∧ ((s.takeOff l).loop l).result = 0 ∧ ((s.takeOff l).loop l).heldCmd = (s.loop l).heldCmd)
    ∧ ((s.loop l).cls = .freeze → (s.loop l).reason ≠ 1 ∨ s.pins.haltN = true → ((s.loop l).reason = 3 → s.porchStillLost l = false) → s.freeFor l 8 = true →
        ((s.takeRelease l).loop l).cls = .acquire ∧ ((s.takeRelease l).loop l).reason = 0 ∧ ((s.takeRelease l).loop l).result = 0)
    ∧ ((s.loop l).reason = 1 → s.pins.haltN = false → (s.takeRelease l).loop l = { s.loop l with result := 1 })
    ∧ (∀ m, m ≠ l → (s.takeStart l).loop m = s.loop m ∧ (s.takeOff l).loop m = s.loop m ∧ (s.takeRelease l).loop m = s.loop m)
    ∧ SameBut [.loops] s (s.takeStart l) ∧ SameBut [.loops] s (s.takeOff l) ∧ SameBut [.loops] s (s.takeRelease l)
    ∧ (∀ (i : BitVec 14) (v : BitVec 16), ∃ t, exec (.setpointWrite i v) s = .next t
        ∧ t.loop i.toNat = { s.loop i.toNat with spWrite := some v.toInt }
        ∧ (∀ m, m ≠ i.toNat → t.loop m = s.loop m) ∧ SameBut [.loops] s t)

/-- O38. Errors inside the engine, and descriptor changes (R189, R212, R213, R217): an uncorrectable context error of a unit in SOLO
freezes the loop and asserts `FAULT_N`, any other unit with a role gives up control or reports; a mismatched datapath stops for the
frame; a pending descriptor takes effect at its tick, where no commit is due that may drop it. -/
def Obligations.EngineErrorsAndDescriptors : Prop :=
  ∀ s : State, Canonical s →
    (∀ l : BitVec 14, s.roleNow = .solo → (s.loop l.toNat).cls ≠ .off → ∃ t, exec (.stateEcc l) s = .next t
      ∧ t.loop l.toNat = { s.loop l.toNat with frzWait := joinFreeze 4 (s.loop l.toNat).frzWait } ∧ t.twn = s.twn
      ∧ t.field Reg.TRC_LE_ECC 0 14 = l.toNat ∧ FaultAsserted 6 s t ∧ Notified Src.trc 2 l.toNat 0 t
      ∧ ⟨0x000A, Sev.critical, 2, leBytes 2 l.toNat ++ [0, 0, 0, 0, 0, 0] ++ s.frameBytes⟩ ∈ t.att.waiting
      ∧ (∀ m, m ≠ l.toNat → t.loop m = s.loop m))
    ∧ (∀ l : BitVec 14, s.roleNow = .active ∨ s.roleNow = .standby → ∃ t, exec (.stateEcc l) s = .next t
      ∧ t.twn.withdrawAt = some 1 ∧ FaultAsserted 2 s t ∧ Notified Src.trc 2 l.toNat 0 t)
    ∧ (∀ d : BitVec 6, d.toNat ∉ s.eng.dpOut → d.toNat ∉ s.eng.dpStopped → exec (.datapathMismatch d) s = .next
        { s with eng := { s.eng with dpStopped := s.eng.dpStopped ++ [d.toNat] } })
    ∧ (s.commitDue = true → exec .descTakeEffect s = .next s)
    ∧ (∀ l d k, s.eng.change = some (l, d, k) → k ≤ s.nextTick → s.commitDue = false → ∃ t, exec .descTakeEffect s = .next t
      ∧ (t.loop l).desc = d ∧ t.eng.change = none ∧ t.eng.edits = min 0xFFFF (s.eng.edits + 1)
      ∧ (Desc.runClass d = 0 → d ≠ (s.loop l).desc → (t.loop l).cls = .off) ∧ ((s.loop l).cls = .off → (t.loop l).cls = .off)
      ∧ (Desc.runClass d ≠ 0 → d ≠ (s.loop l).desc → (s.loop l).cls ≠ .off → (t.loop l).warm = 64 ∧ (t.loop l).secs = [])
      ∧ t.field Reg.TRC_LE_DCMD 8 8 = 1 ∧ Notified Src.trc 4 l 0 t
      ∧ (∀ m, m ≠ l → t.loop m = s.loop m) ∧ SameBut [.regs, .events, .loops, .eng] s t)
    ∧ (∀ l d k, s.eng.change = some (l, d, k) → s.nextTick < k → exec .descTakeEffect s = .next s)

/-- O39. Set-point inputs and trace channels (R198, R219 to R221): steps count, periods refresh, a silent input goes stale once; an
armed or triggered channel is marked for its tick; a batch of staged samples goes into the ring in the channel's Hall window, with
the header brought up to date, and nothing else in memory changes.
Where the rules leave room, it follows the model's choices and readings in log entries 8 and 16. -/
def Obligations.InputsAndTraces : Prop :=
  ∀ s : State, Canonical s →
    (∀ (i : BitVec 3) (up : Bool), s.spMode i.toNat = 2 → ∃ t, exec (.stepEdge i up) s = .next t
      ∧ t.spIn i.toNat = { s.spIn i.toNat with
          count := signed 32 (twos 32 ((s.spIn i.toNat).count + if up then 1 else -1)) }
      ∧ (∀ k, k ≠ i.toNat → t.spIn k = s.spIn k) ∧ t.eng = { s.eng with inputs := t.eng.inputs } ∧ SameBut [.eng] s t)
    ∧ (∀ (i : BitVec 3) (h p : BitVec 21), s.spMode i.toNat = 3 → p ≠ 0 → h.toNat ≤ p.toNat → ∃ t, exec (.pwmPeriod i h p) s = .next t
      ∧ t.spIn i.toNat = { s.spIn i.toNat with high := h.toNat, period := p.toNat, fresh := true, stale := false, nowStale := false }
      ∧ (∀ k, k ≠ i.toNat → t.spIn k = s.spIn k) ∧ t.eng = { s.eng with inputs := t.eng.inputs } ∧ SameBut [.eng] s t)
    ∧ (∀ i : BitVec 3, s.spMode i.toNat = 3 → (s.spIn i.toNat).stale = false → ∃ t, exec (.pwmStale i) s = .next t
      ∧ t.spIn i.toNat = { s.spIn i.toNat with stale := true, fresh := false, nowStale := true } ∧ Notified Src.trc 0 i.toNat 0 t
      ∧ (∀ k, k ≠ i.toNat → t.spIn k = s.spIn k) ∧ SameBut [.eng, .events] s t)
    ∧ (∀ c : BitVec 6, (∃ t, exec (.traceArm c) s = .next t ∧ t.chan c.toNat = { s.chan c.toNat with armNow := true }
        ∧ (∀ k, k ≠ c.toNat → t.chan k = s.chan k) ∧ SameBut [.eng] s t)
      ∧ (∃ t, exec (.trigNow c) s = .next t ∧ t.chan c.toNat = { s.chan c.toNat with trigNow := true }
        ∧ (∀ k, k ≠ c.toNat → t.chan k = s.chan k) ∧ SameBut [.eng] s t))
    ∧ (∀ (c : BitVec 6) (n : BitVec 14), (s.chan c.toNat).state ≠ 0 → (s.chan c.toNat).staged.take n.toNat ≠ [] →
      n.toNat ≤ (s.chan c.toNat).capacity → ∃ t, exec (.traceWrite c n) s = .next t
        ∧ (t.chan c.toNat).staged = (s.chan c.toNat).staged.drop n.toNat
        ∧ (t.chan c.toNat).writeIdx = (s.chan c.toNat).writeIdx + ((s.chan c.toNat).staged.take n.toNat).length
        ∧ (∀ k w, ((s.chan c.toNat).staged.take n.toNat)[k]? = some w →
            t.hallNat (s.chan c.toNat).seat
              ((s.chan c.toNat).off + 4096 + 8 * (((s.chan c.toNat).writeIdx + k) % (s.chan c.toNat).capacity)) 8 = w.toNat)
        ∧ t.hallNat (s.chan c.toNat).seat (s.chan c.toNat).off 4 = 0x434E5254
        ∧ t.hallNat (s.chan c.toNat).seat ((s.chan c.toNat).off + 24) 8 = (t.chan c.toNat).writeIdx % 2 ^ 64
        ∧ (∀ k, 64 ≤ k → k < 4096 → t.readByte (hallBase (s.chan c.toNat).seat + (s.chan c.toNat).off + k) = 0)
        ∧ (∀ a, a < hallBase (s.chan c.toNat).seat + (s.chan c.toNat).off
              ∨ hallBase (s.chan c.toNat).seat + (s.chan c.toNat).off + ringBytes (s.chan c.toNat).sizeLog2 ≤ a →
            t.readByte a = s.readByte a)
        ∧ (∀ k, k ≠ c.toNat → t.chan k = s.chan k) ∧ SameBut [.eng, .ram] s t)


-- Moves -------------------------------------------------------------------------------------------------------------------

/-- An order of `seat` and `slot` has been carried out with this result and object (R414, R415). -/
abbrev Settled (o : TakenOrder) (result obj : Nat) (t : State) : Prop :=
  ∃ p ∈ t.taken, p.seat = o.seat ∧ p.slot = o.slot ∧ p.carried = true ∧ p.result = result ∧ p.obj = obj

/-- O40. Orders for moves (R226, R227, R237, R245): an order that passes its checks becomes an OPEN move with the next number; one that
fails is answered with the first result that applies and moves nothing; an abort closes every open path but those that the move leaves
untouched in service, and ends at once a move that has not started; an ABORT order still posted is taken up; a unit without authority
keeps the schedule that its twin sends, holds its loops, and does not call it whole when a part comes after frame P + 1.
Where the rules leave room, it follows the model's choices and readings in log entries 21 and 47. -/
def Obligations.MoveOrders : Prop :=
  ∀ s : State, Canonical s →
    (∀ (seat : BitVec 3) (slot : BitVec 12) (o : TakenOrder) (dl : Nat), s.order? seat.toNat slot.toNat 1 = some o →
      dl = (if o.num 10 2 / 8 % 2 = 1 ∧ o.num 0x18 8 ≠ 0 then s.tickOfNs (o.num 0x18 8) else o.num 0x18 8) →
      (s.moveCheck o (if o.moveFormat then s.moveList o else []) dl o.taken = 0 → s.move? s.mov.nextId = none →
        ∃ t m, exec (.move seat slot) s = .next t ∧ t.move? s.mov.nextId = some m ∧ m.state = .openS ∧ m.conns = s.moveList o
          ∧ m.deadline = dl ∧ m.seat = o.seat ∧ m.holds = [] ∧ t.mov.nextId = s.mov.nextId + 1 ∧ Settled o 0 s.mov.nextId t
          ∧ SameBut [.taken, .events, .mov] s t)
      ∧ (s.moveCheck o (if o.moveFormat then s.moveList o else []) dl o.taken ≠ 0 →
        ∃ t, exec (.move seat slot) s = .next t ∧ t.mov = { s.mov with nextId := s.mov.nextId + 1 }
          ∧ Settled o (s.moveCheck o (if o.moveFormat then s.moveList o else []) dl o.taken) s.mov.nextId t
          ∧ Notified Src.mov 1 s.mov.nextId (s.moveCheck o (if o.moveFormat then s.moveList o else []) dl o.taken) t
          ∧ SameBut [.taken, .events, .mov] s t))
    ∧ (∀ (seat : BitVec 3) (slot : BitVec 12) (o : TakenOrder) (m : Move), s.order? seat.toNat slot.toNat 2 = some o →
      s.twn.role ≠ .standby → s.twn.role ≠ .withdrawn → s.seatRole o.seat = 2 → s.move? (o.num 0 4) = some m → m.state.ended = false →
      ∃ t m', exec (.abort (.order seat slot)) s = .next t ∧ t.move? (o.num 0 4) = some m'
        ∧ (∀ p ∈ m'.paths, p.state = 0 → (s.service p.inp).out = p.out)
        ∧ (m.tStart = 0 → m'.state = .aborted ∧ m'.tEnd = o.taken) ∧ Settled o 1 (o.num 0 4) t
        ∧ (∀ i, i ≠ o.num 0 4 → t.move? i = s.move? i)
        ∧ SameBut [.taken, .events, .later, .loops, .mov] s t)
    ∧ (∀ (seat : BitVec 3) (slot : BitVec 12), s.order? seat.toNat slot.toNat 2 = none →
      (seat.toNat, slot.toNat) ∈ s.slotsToTake → s.hallNat seat.toNat (256 * slot.toNat + 1) 1 = 2 →
      ∃ t o, exec (.abort (.order seat slot)) s = .next t ∧ t.taken = s.taken ++ [o] ∧ o.seat = seat.toNat ∧ o.slot = slot.toNat
        ∧ o.typ = 2 ∧ o.taken = s.nextTick ∧ t.mov = s.mov ∧ SameBut [.taken, .ram, .regs] s t)
    ∧ (∀ p : SchedPart, s.twn.role.holds = false → s.landing.isSome = true → s.move? p.move.toNat = none →
      ∃ t m, exec (.schedCell p) s = .next t ∧ t.move? p.move.toNat = some m ∧ m.fromTwin = true ∧ m.parts = [p.part]
        ∧ m.whole = (decide (p.parts = 1) && !decide (p.planned + 1 < s.hrt.frame)) ∧ m.conns = p.paths ∧ m.mirrors = p.mirrors
        ∧ (∀ q ∈ p.mirrors, (t.loop (2 * q.mirror)).held = true ∧ (t.loop (2 * q.mirror + 1)).held = true)
        ∧ (∀ l, (∀ q ∈ p.mirrors, l / 2 ≠ q.mirror) → t.loop l = s.loop l) ∧ SameBut [.loops, .mov] s t)

/-- O41. Planning (R230, R231, R235, R236): the lowest open move that waits for no other holds its loops; one with a loop outside HOLD
fails; a schedule that keeps the rules makes the move PLANNED from its start tick, and a path unknown to the ATLAS, or an EMPTY ATLAS,
fails it.
Where the rules leave room, it follows the model's choices and readings in log entries 23 and 44. -/
def Obligations.MovePlanning : Prop :=
  ∀ (s : State) (m : Move), Canonical s → s.plannerRuns = true → s.move? m.id = some m →
    (s.nextToPlan = some m → ∃ t m', exec .planningStart s = .next t ∧ t.move? m.id = some m'
      ∧ m'.holds = (s.moves m.conns).flatMap mirrorLoops
      ∧ (∀ l ∈ (s.moves m.conns).flatMap mirrorLoops, (t.loop l).held = true ∧ (t.loop l).cls = (s.loop l).cls)
      ∧ (∀ l, l ∉ (s.moves m.conns).flatMap mirrorLoops → t.loop l = s.loop l)
      ∧ ((∀ l ∈ (s.moves m.conns).flatMap mirrorLoops, (s.loop l).cls = .hold) → m'.planning = true ∧ m'.state = m.state)
      ∧ ((∃ l ∈ (s.moves m.conns).flatMap mirrorLoops, (s.loop l).cls ≠ .hold) →
          m'.state = .failed ∧ m'.planning = false ∧ (m.reason = 0 → m'.reason = 4))
      ∧ SameBut [.events, .loops, .mov, .est] s t)
    ∧ (∀ (routes : List Route) (loose failed : List (BitVec 13)) (plans : List MirrorPlan) (start last : Nat),
      s.mov.moves.find? (fun e => e.2.planning) = some (m.id, m) → s.atlasEmpty = false →
      (∀ c ∈ s.creates m.conns, (∃ p ∈ m.openPaths, p.inp = c.1) → (s.atlas c.1 c.2).isSome = true) →
      (m.strict = true ∨ s.inForce Reg.MOV_CTL 2 1 = 1 → failed = [] ∧ loose = []) →
      start = max m.startAt (s.nextTick + 2) →
      plans = ((((s.creates m.conns).filter fun c => m.openPaths.any fun p => p.inp = c.1).flatMap pathMirrors)
        ++ s.parks m.conns).filterMap (s.routePlan m start routes (loose.map BitVec.toNat) (s.parks m.conns)) →
      plans.length = ((((s.creates m.conns).filter fun c => m.openPaths.any fun p => p.inp = c.1).flatMap pathMirrors)
        ++ s.parks m.conns).length → plans ≠ [] → s.scheduleOk m plans = true →
      last = (plans.map fun p => p.start + p.frames).foldl max 0 + 15 → (m.deadline = 0 ∨ last ≤ m.deadline) →
      ∃ t m', exec (.planningDone routes loose failed) s = .next t ∧ t.move? m.id = some m' ∧ m'.state = .planned
        ∧ m'.planning = false ∧ m'.mirrors = plans ∧ m'.startAt = start ∧ m'.endTick = last
        ∧ m'.waves = min 255 (s.wavesOf plans)
        ∧ t.loops = s.loops ∧ (∀ i, i ≠ m.id → t.move? i = s.move? i))
    ∧ (∀ (routes : List Route) (loose failed : List (BitVec 13)),
      s.mov.moves.find? (fun e => e.2.planning) = some (m.id, m) →
      s.atlasEmpty = true ∨ (∃ c ∈ s.creates m.conns, (∃ p ∈ m.openPaths, p.inp = c.1) ∧ s.atlas c.1 c.2 = none) →
      ∃ t m', exec (.planningDone routes loose failed) s = .next t ∧ t.move? m.id = some m' ∧ m'.state = .failed
        ∧ m'.planning = false ∧ (∀ p ∈ m'.paths, p.state = 0 → (s.service p.inp).out = p.out) ∧ t.loops = s.loops)

/-- O42. Moves run (R228, R229, R232, R238, R240, R241, R244): a due move starts at its tick; a mirror takes its next leg or has
arrived; a path becomes ready and enters service, or fails at the settle limit; a missed deadline is marked once, and closes the
paths where the order asks for it.
Where the rules leave room, it follows the model's choices and readings in log entry 16. -/
def Obligations.MovesRun : Prop :=
  ∀ s : State, Canonical s →
    (∀ (id : BitVec 32) (m : Move), s.move? id.toNat = some m → m.id = id.toNat → s.startDue m = true →
      ∃ t m', exec (.moveStart id) s = .next t ∧ t.move? id.toNat = some m' ∧ m'.state = .moving ∧ m'.tStart = s.nextTick
        ∧ m'.paths = m.paths ∧ (∀ i, i ≠ id.toNat → t.move? i = s.move? i) ∧ SameBut [.events, .loops, .mov] s t)
    ∧ (∀ (id : BitVec 32) (x : BitVec 13) (m : Move) (p : MirrorPlan), s.move? id.toNat = some m →
      m.mirrors.find? (fun p => p.mirror = x.toNat) = some p → s.legDue m p = true → 0 < p.begun →
      (∀ g, p.legs[p.begun]? = some g → (s.loop (2 * x.toNat)).cls = .slew → (s.loop (2 * x.toNat + 1)).cls = .slew →
        ∃ t m' q, exec (.legEnd id x) s = .next t ∧ t.move? id.toNat = some m' ∧ q ∈ m'.mirrors ∧ q.mirror = x.toNat
          ∧ q.begun = p.begun + 1 ∧ q.nextAt = s.nextTick + g.len
          ∧ (t.loop (2 * x.toNat)).leg = some ⟨g.x, g.rateX, g.accX, decide (p.begun + 1 = p.legs.length), false⟩
          ∧ (t.loop (2 * x.toNat + 1)).leg = some ⟨g.y, g.rateY, g.accY, decide (p.begun + 1 = p.legs.length), false⟩
          ∧ (∀ l, l / 2 ≠ x.toNat → t.loop l = s.loop l) ∧ SameBut [.loops, .mov] s t)
      ∧ (p.legs.length ≤ p.begun → ∃ t m' q, exec (.legEnd id x) s = .next t ∧ t.move? id.toNat = some m' ∧ q ∈ m'.mirrors
          ∧ q.mirror = x.toNat ∧ q.arrived = true ∧ SameBut [.mov] s t))
    ∧ (∀ (i : BitVec 12) (m : Move) (p : MovePath), s.openPath? i.toNat = some (m, p) → s.move? m.id = some m →
      (s.path i.toNat).moveId = m.id →
      (s.readyNow m p = true → ∃ t m', exec (.pathReady i) s = .next t ∧ t.move? m.id = some m'
        ∧ (∀ q ∈ m'.paths, q.inp = i.toNat → q.state = 1) ∧ (t.path i.toNat).state = .inService
        ∧ (t.path i.toNat).out = p.out ∧ (t.path i.toNat).readyTick = s.nextTick ∧ (t.path i.toNat).unverified = m.blind
        ∧ (t.service i.toNat).out = p.out
        ∧ (t.service i.toNat).refPower = (if m.blind then none else bestPower ((s.countedNow p.inp).take s.readyFrames))
        ∧ (∀ k, k ≠ i.toNat → t.service k = s.service k ∧ t.path k = s.path k)
        ∧ SameBut [.mov] s t)
      ∧ (s.readyNow m p = false → s.settleOver p = true → ∃ t m', exec (.settleTimeout i) s = .next t ∧ t.move? m.id = some m'
        ∧ (∀ q ∈ m'.paths, q.inp = i.toNat → q.state = 2) ∧ (t.path i.toNat).state = .failed
        ∧ (t.path i.toNat).reason = s.settleReason (s.countedNow i.toNat)
        ∧ (∀ k, k ≠ i.toNat → t.path k = s.path k) ∧ t.mov.service = s.mov.service ∧ SameBut [.mov] s t))
    ∧ (∀ (id : BitVec 32) (m : Move), s.move? id.toNat = some m → m.id = id.toNat → s.deadlineDue m = true → s.stillOpen m = true →
      ∃ t m', exec (.deadlineMissed id) s = .next t ∧ t.move? id.toNat = some m' ∧ m'.missed = true
        ∧ (m.abortDl = false → m' = { m with missed := true } ∧ t.loops = s.loops)
        ∧ (m.abortDl = true → ∀ p ∈ m'.paths, p.state = 0 → (s.service p.inp).out = p.out)
        ∧ (s.twn.role.holds = true → Notified Src.mov 2 id.toNat 0 t) ∧ SameBut [.events, .loops, .mov] s t)

/-- O43. Path loss and reflex moves (R248, R250, R251): a service that stays low is lost, counted, and reported by the unit that holds
authority; an armed entry that trips fires its fallback move under the next number, or is skipped with the reason. -/
def Obligations.LossAndReflex : Prop :=
  ∀ s : State, Canonical s →
    (∀ i : BitVec 12, s.pathLossDue i.toNat = true → ∃ t, exec (.pathLoss i) s = .next t
      ∧ t.service i.toNat = { s.service i.toNat with loss := true }
      ∧ t.path i.toNat = { s.path i.toNat with losses := min (2 ^ 32 - 1) ((s.path i.toNat).losses + 1) }
      ∧ (∀ k, k ≠ i.toNat → t.service k = s.service k ∧ t.path k = s.path k)
      ∧ (s.twn.role.holds = true → Notified Src.mov 3 i.toNat 0 t) ∧ (s.twn.role.holds = false → t.events = s.events)
      ∧ SameBut [.events, .mov] s t)
    ∧ (∀ e : BitVec 12, s.tripDue e.toNat = true → s.skipReason (s.fallback e.toNat) = 0 → s.move? s.mov.nextId = none →
      ∃ t m, exec (.reflexTrip e) s = .next t ∧ t.move? s.mov.nextId = some m ∧ m.origin = 1 ∧ m.state = .planned
        ∧ m.conns = [((s.fallback e.toNat).newIn, (s.fallback e.toNat).newOut)] ∧ m.startAt = s.nextTick + 2
        ∧ (∀ l ∈ m.holds, (t.loop l).held = true) ∧ (∀ l, l ∉ m.holds → t.loop l = s.loop l)
        ∧ (t.reflex e.toNat).fired = true ∧ t.mov.nextId = s.mov.nextId + 1 ∧ Notified Src.mov 4 s.mov.nextId e.toNat t
        ∧ t.field Reg.MOV_REFLEX_STAT 16 16 = min (2 ^ 16 - 1) (s.field Reg.MOV_REFLEX_STAT 16 16 + 1))
    ∧ (∀ e : BitVec 12, s.tripDue e.toNat = true → s.skipReason (s.fallback e.toNat) ≠ 0 → ∃ t, exec (.reflexTrip e) s = .next t
      ∧ Notified Src.mov 5 e.toNat (s.skipReason (s.fallback e.toNat)) t ∧ t.mov.moves = s.mov.moves ∧ t.loops = s.loops
      ∧ (t.reflex e.toNat).fired = (s.reflex e.toNat).fired
      ∧ t.field Reg.MOV_REFLEX_STAT 0 16 = min (2 ^ 16 - 1) (s.field Reg.MOV_REFLEX_STAT 0 16 + 1)
      ∧ SameBut [.events, .mov, .regs] s t)
    ∧ (∀ e : BitVec 12, s.tripDue e.toNat = false → exec (.reflexTrip e) s = .next s)


-- The shelves -------------------------------------------------------------------------------------------------------------

/-- O44. Shelves (R289 to R300, R307): a word joins the open packet, which END commits; a word that finds no room waits, behind those
that wait already, or rewinds a porch's packet; ABORT discards the open packet; the banks swap as soon as they may, and a write that
waited then goes on; a pop takes the head word of the drain bank for its consumer seat alone; the stale-tail timer fires once; FLUSH
and EMPTY are kept for the shelf.
Where the rules leave room, it follows the model's choices and readings in log entries 12 and 16. -/
def Obligations.Shelves : Prop :=
  ∀ (s : State) (n : BitVec 10), Canonical s →
    let x := s.shelf n.toNat
    let stuck := !s.hasRoom n.toNat && !s.canGrow n.toNat
    (s.shelfCls n.toNat ≠ 0 → x.waiting = [] → ∀ w : Word, wordPoison w = false → s.hasRoom n.toNat = true →
      (wordEnd w = true → ∃ t, exec (.shelfWrite n (.word w)) s = .next t
        ∧ (x.drain ≠ [] ∨ x.reserved ≠ [] → t.shelf n.toNat = { x with fill := x.fill ++ [x.opened ++ [storedWord w]], opened := [] })
        ∧ (x.drain = [] → x.reserved = [] → x.swapMode = 0 →
            (t.shelf n.toNat).drain = x.fill ++ [x.opened ++ [storedWord w]] ∧ (t.shelf n.toNat).fill = []
            ∧ (t.shelf n.toNat).opened = [])
        ∧ (∀ k, k ≠ n.toNat → t.shelf k = s.shelf k) ∧ SameBut [.shelves] s t)
      ∧ (wordEnd w = false → x.opened.length + 1 < 512 * s.maxPages n.toNat →
        ∃ t, exec (.shelfWrite n (.word w)) s = .next t
          ∧ t.shelf n.toNat = { x with opened := x.opened ++ [storedWord w] }
          ∧ (∀ k, k ≠ n.toNat → t.shelf k = s.shelf k) ∧ SameBut [.shelves] s t))
    ∧ (s.shelfCls n.toNat ≠ 0 → x.waiting = [] → ∀ w : Word, wordPoison w = false → s.makeRoom n.toNat = none →
      (porchShelf n.toNat = false → ∃ t, exec (.shelfWrite n (.word w)) s = .next t ∧ t.shelf n.toNat = { x with waiting := [w] }
        ∧ (∀ k, k ≠ n.toNat → t.shelf k = s.shelf k)
        ∧ t.field (Reg.SHF_EVT n.toNat) 0 1 = 1 ∧ SameBut [.shelves, .regs, .events] s t)
      ∧ (porchShelf n.toNat = true → ∃ t, exec (.shelfWrite n (.word w)) s = .next t ∧ (t.shelf n.toNat).opened = []
        ∧ (t.shelf n.toNat).fill = x.fill
        ∧ t.field (Reg.SHF_DROP n.toNat) 0 16 = min (2 ^ 16 - 1) (s.field (Reg.SHF_DROP n.toNat) 0 16 + 1)))
    ∧ (s.shelfCls n.toNat ≠ 0 → x.waiting ≠ [] → ∀ w : Word, ∃ t, exec (.shelfWrite n (.word w)) s = .next t
      ∧ t.shelf n.toNat = { x with waiting := x.waiting ++ [w] }
      ∧ (∀ k, k ≠ n.toNat → t.shelf k = s.shelf k) ∧ SameBut [.shelves] s t)
    ∧ (s.shelfCls n.toNat ≠ 0 → x.opened ≠ [] → ∃ t, exec (.shelfWrite n .abort) s = .next t
      ∧ (t.shelf n.toNat).opened = [] ∧ (t.shelf n.toNat).waiting = [] ∧ (t.shelf n.toNat).fill = x.fill
      ∧ (t.shelf n.toNat).drain = x.drain
      ∧ t.field (Reg.SHF_DROP n.toNat) 32 16 = min (2 ^ 16 - 1) (s.field (Reg.SHF_DROP n.toNat) 32 16 + 1)
      ∧ (∀ k, k ≠ n.toNat → t.shelf k = s.shelf k) ∧ SameBut [.shelves, .regs, .events] s t)
    ∧ (s.shelfCls n.toNat = 0 → ∀ op, exec (.shelfWrite n op) s = .next s)
    ∧ (s.swapDue n.toNat stuck = true → x.waiting = [] → ∃ t, exec (.shelfSwap n) s = .next t
      ∧ (t.shelf n.toNat).drain = x.fill ∧ (t.shelf n.toNat).fill = []
      ∧ (t.shelf n.toNat).opened = x.opened ∧ (t.shelf n.toNat).swapPend = false
      ∧ (∀ k, k ≠ n.toNat → t.shelf k = s.shelf k) ∧ SameBut [.shelves] s t)
    ∧ (∀ w : Word, s.swapDue n.toNat stuck = true → x.waiting = [w] → wordPoison w = false → (s.swapShelf n.toNat).hasRoom n.toNat = true →
      ∃ t, exec (.shelfSwap n) s = .next t ∧ (t.shelf n.toNat).waiting = [])
    ∧ (s.swapDue n.toNat stuck = false → x.waiting = [] → exec (.shelfSwap n) s = .next s)
    ∧ (∀ (seat : BitVec 3) (w : Word) (ws : List Word) (ps : List (List Word)), x.cls ≠ 0 →
      x.consKind = 4 → x.consIndex = seat.toNat → x.drain = (w :: ws) :: ps → x.poison = false → x.waiting = [] →
      ∃ t, exec (.shelfPop seat n .full .good) s = .next t ∧ t.readData = poppedWord w false .good
        ∧ (ws ≠ [] ∨ ps ≠ [] → (t.shelf n.toNat).drain = (if ws.isEmpty then ps else ws :: ps) ∧ (t.shelf n.toNat).fill = x.fill
            ∧ (t.shelf n.toNat).popped = x.popped + 1)
        ∧ (ws = [] → ps = [] → x.reserved = [] → x.swapMode = 0 → (t.shelf n.toNat).drain = x.fill ∧ (t.shelf n.toNat).fill = [])
        ∧ (∀ k, k ≠ n.toNat → t.shelf k = s.shelf k) ∧ SameBut [.shelves, .readData] s t)
    ∧ (∀ (seat : BitVec 3) (w : Width) (c : WordCheck), w ≠ .full ∨ x.consKind ≠ 4 ∨ x.consIndex ≠ seat.toNat →
        exec (.shelfPop seat n w c) s = .next { s with readData := 0 })
    ∧ (x.notice = 1 → x.fired = false → x.waiting = [] → (x.drain ≠ [] ∨ x.fill ≠ []) → ∃ t, exec (.staleTimer n) s = .next t
        ∧ (x.drain ≠ [] ∨ x.reserved ≠ [] → t.shelf n.toNat = { x with swapPend := true, fired := true })
        ∧ (x.drain = [] → x.reserved = [] → (t.shelf n.toNat).drain = x.fill ∧ (t.shelf n.toNat).fill = []
            ∧ (t.shelf n.toNat).fired = true ∧ (t.shelf n.toNat).swapPend = false)
        ∧ t.field (Reg.SHF_EVT n.toNat) 1 1 = 1 ∧ Event.mk Src.shf 0 1 n.toNat 0 [] [x.seatOf] ∈ t.events
        ∧ (∀ k, k ≠ n.toNat → t.shelf k = s.shelf k) ∧ SameBut [.shelves, .regs, .events] s t)
    ∧ (x.fired = true → exec (.staleTimer n) s = .next s)
    ∧ (s.shelfCls n.toNat ≠ 0 → x.waiting = [] → (∃ t, exec (.flush n) s = .next t
        ∧ (x.drain ≠ [] ∨ x.reserved ≠ [] ∨ x.fill = [] → t.shelf n.toNat = { x with swapPend := true })
        ∧ (x.drain = [] → x.reserved = [] → x.fill ≠ [] → (t.shelf n.toNat).drain = x.fill ∧ (t.shelf n.toNat).fill = [])
        ∧ (∀ k, k ≠ n.toNat → t.shelf k = s.shelf k) ∧ SameBut [.shelves] s t)
      ∧ (∃ t, exec (.empty n) s = .next t ∧ t.shelf n.toNat = { x with emptyNow := true }
        ∧ (∀ k, k ≠ n.toNat → t.shelf k = s.shelf k) ∧ SameBut [.shelves] s t))


-- Porches and heads -------------------------------------------------------------------------------------------------------

/-- O45. Discovery (R333, R338 to R340, R350): an IDENT makes the porch MISWIRED, WRONG_HEAD or known; the record of the head's role is
collected; CONFIG_ACK with result OK makes it READY at the next tick; an ECHO reply is one measurement of 16; the operations of
`PCH_Pp_CTL` wait for the tick.
Where the rules leave room, it follows the model's choices and readings in log entry 15. -/
def Obligations.HeadsAreFound : Prop :=
  ∀ (s : State) (p : BitVec 4), Canonical s →
    (∀ m : IdentMsg, s.linked p.toNat = true → (s.porch p.toNat).state ≠ .ready →
      (m.port ≠ s.twn.side → ∃ t, exec (.ident p m) s = .next t ∧ (t.porch p.toNat).state = .miswired
        ∧ (t.porch p.toNat).identOk = false ∧ ((s.porch p.toNat).state ≠ .miswired → Notified Src.pch 3 p.toNat 0 t))
      ∧ (m.port = s.twn.side → s.identFits p.toNat m = false → ∃ t, exec (.ident p m) s = .next t
        ∧ (t.porch p.toNat).state = .wrongHead ∧ (t.porch p.toNat).identOk = false
        ∧ ((s.porch p.toNat).state ≠ .wrongHead → Notified Src.pch 2 p.toNat 0 t))
      ∧ (m.port = s.twn.side → s.identFits p.toNat m = true → ∃ t, exec (.ident p m) s = .next t
        ∧ (t.porch p.toNat).state = .discovery ∧ (t.porch p.toNat).identOk = true ∧ (t.porch p.toNat).headType = m.headType
        ∧ (t.porch p.toNat).headId = m.headId ∧ (recordOf (m.headType / 4096) = none → (t.porch p.toNat).recordOk = true)
        ∧ (∀ r, recordOf (m.headType / 4096) = some r → s.boot.stopped = false → (s.porch p.toNat).squelch % 256 ≠ 255 →
            (prioBulk, TxCell.req r) ∈ (t.porch p.toNat).sent)
        ∧ (∀ q, q ≠ p.toNat → t.porch q = s.porch q) ∧ SameBut [.regs, .events, .porches, .free] s t))
    ∧ (∀ (l : List (Nat × Nat)) (h : List (Nat × Int × Bool)) (nw : BitVec 32), s.passes p.toNat = true →
      ((s.porch p.toNat).headType / 4096 = 1 → ∃ t, exec (.windows p l) s = .next t ∧ (t.porch p.toNat).windows = l
        ∧ (t.porch p.toNat).recordOk = true ∧ (∀ q, q ≠ p.toNat → t.porch q = s.porch q) ∧ SameBut [.regs, .porches] s t)
      ∧ ((s.porch p.toNat).headType / 4096 = 2 → ∃ t, exec (.holding p h) s = .next t ∧ (t.porch p.toNat).holding = h
        ∧ (t.porch p.toNat).recordOk = true ∧ (∀ q, q ≠ p.toNat → t.porch q = s.porch q) ∧ SameBut [.regs, .porches] s t)
      ∧ ((s.porch p.toNat).headType / 4096 = 3 → ∃ t, exec (.scale p nw) s = .next t ∧ (t.porch p.toNat).scale = nw.toNat
        ∧ (t.porch p.toNat).recordOk = true ∧ (∀ q, q ≠ p.toNat → t.porch q = s.porch q) ∧ SameBut [.regs, .porches] s t))
    ∧ (∀ (r : BitVec 8) (e : BitVec 32) (c : ConfigMsg), s.passes p.toNat = true → (s.porch p.toNat).config = some c →
      c.effective % 2 ^ 32 = e.toNat →
      (r = 0 → ∃ t, exec (.configAck p r e) s = .next t ∧ (t.porch p.toNat).config = none
        ∧ ((s.porch p.toNat).state ≠ .ready → (t.porch p.toNat).readyNext = true)
        ∧ (t.porch p.toNat).state = (s.porch p.toNat).state ∧ SameBut [.regs, .porches] s t)
      ∧ (r ≠ 0 → ∃ t, exec (.configAck p r e) s = .next t ∧ (t.porch p.toNat).config = none
        ∧ (t.porch p.toNat).state = .wrongHead ∧ Notified Src.pch 2 p.toNat 0 t ∧ SameBut [.regs, .events, .porches] s t))
    ∧ (∀ (id turn : BitVec 32) (arr tx : Nat), s.linked p.toNat = true →
      (s.porch p.toNat).echoes.find? (fun e => e.1 = id.toNat) = some (id.toNat, tx) →
      ∃ t, exec (.echoReply p id arr turn) s = .next t
        ∧ (t.porch p.toNat).measured = List.take 16
            (((((arr : Int) - (tx : Int)) * 1000 / 65536 - (turn.toNat : Int)) / 2
              + signed 32 (s.inForce (Reg.PCH_Pp_DELAY p.toNat) 32 32)) :: (s.porch p.toNat).measured)
        ∧ (t.porch p.toNat).echoLeft = (s.porch p.toNat).echoLeft - 1
        ∧ (∀ e ∈ (t.porch p.toNat).echoes, e.1 ≠ id.toNat) ∧ SameBut [.regs, .porches] s t)
    ∧ ((∃ t, exec (.rediscover p) s = .next t ∧ t.porch p.toNat = { s.porch p.toNat with op := 1 } ∧ SameBut [.porches] s t)
      ∧ (∃ t, exec (.headReset p) s = .next t ∧ t.porch p.toNat = { s.porch p.toNat with op := 2 } ∧ SameBut [.porches] s t)
      ∧ (∃ t, exec (.echoNow p) s = .next t ∧ t.porch p.toNat = { s.porch p.toNat with op := 3 } ∧ SameBut [.porches] s t))

/-- O46. Cells of heads, and lost porches (R23, R206, R329, R330, R337, R342, R384, R386, R491): an ACK shows its head's epoch; the
newest HEALTH stands; a fault of a drive head freezes the loops it names, and a unit that holds authority sends HOLD on the READY
drive porches that carry them; a lost porch freezes its loops, unless an ACTIVE unit withdraws because its twin still has it.
Where the rules leave room, it follows the model's choices and readings in log entry 9. -/
def Obligations.CellsOfHeadsAndLoss : Prop :=
  ∀ (s : State) (p : BitVec 4), Canonical s →
    (∀ a : AckCell, s.passes p.toNat = true → ∃ t, exec (.ackCell p a) s = .next t
      ∧ (t.porch p.toNat).ackEpoch = some a.epoch ∧ (t.porch p.toNat).ackTick = a.applyTick ∧ t.twn.seen = max s.twn.seen a.epoch
      ∧ (s.porchRole p.toNat = 2 → s.twn.epoch < a.epoch → p.toNat ∈ t.twn.ackAbove)
      ∧ (s.porchRole p.toNat = 2 → a.epoch = s.twn.epoch → p.toNat ∈ t.twn.ackEqual)
      ∧ t.twn.role = s.twn.role ∧ t.twn.epoch = s.twn.epoch ∧ SameBut [.regs, .porches, .twn] s t)
    ∧ (∀ h : HealthCell, s.linked p.toNat = true → ∃ t, exec (.healthCell p h) s = .next t
      ∧ (t.porch p.toNat).health = some h ∧ (t.porch p.toNat).temp = h.temp ∧ SameBut [.regs, .porches] s t)
    ∧ (∀ f : FaultCell, s.passes p.toNat = true → ∃ t, exec (.faultCell p f) s = .next t
      ∧ (t.porch p.toNat).faultCode = f.code ∧ t.hrt = { s.hrt with guardNow := true } ∧ Notified Src.pch 6 p.toNat 0 t
      ∧ ((s.laneEntry p.toNat).role = 2 → ∀ l, l / 2 ∈ faultMirrors (s.laneEntry p.toNat) f → (s.loop l).cls ≠ .off →
          t.loop l = { s.loop l with frzWait := joinFreeze 2 (s.loop l).frzWait })
      ∧ (∀ l, (s.laneEntry p.toNat).role ≠ 2 ∨ l / 2 ∉ faultMirrors (s.laneEntry p.toNat) f → t.loop l = s.loop l)
      ∧ (∀ d, s.commands = true → d ∈ s.readyOf 2 → s.boot.stopped = false → (s.porch d).squelch % 256 ≠ 255 →
          (∃ m ∈ faultMirrors (s.laneEntry p.toNat) f, (s.laneEntry d).holds m = true) →
          ∃ first count, (GuardCode.headFault, s.holdCell first count GuardCode.headFault) ∈ (t.porch d).sent)
      ∧ SameBut [.hrt, .regs, .events, .loops, .porches, .free] s t)
    ∧ (s.lossDue p.toNat = true → ∃ t, exec (.porchLost p) s = .next t
      ∧ (t.porch p.toNat).lost = true ∧ (t.porch p.toNat).up = false
      ∧ ((s.porch p.toNat).state = .ready → (t.porch p.toNat).state = .lost)
      ∧ (s.porchRole p.toNat ≠ 0 → Notified Src.pch 1 p.toNat 0 t)
      ∧ ((s.porchRole p.toNat = 1 ∨ s.porchRole p.toNat = 2) → (s.roleNow ≠ .active ∨ s.twinHas p.toNat = false) →
          ∀ l, s.porchFor (s.porchRole p.toNat) (l / 2) = some p.toNat → (s.loop l).cls ≠ .off →
            (t.loop l).frzWait = joinFreeze 3 (s.loop l).frzWait)
      ∧ ((s.porchRole p.toNat = 1 ∨ s.porchRole p.toNat = 2 ∨ s.porchRole p.toNat = 3) → s.roleNow = .active →
          s.twinHas p.toNat = true → t.twn.withdrawAt = some 5 ∧ t.twn.causePorch = p.toNat))
    ∧ (s.lossDue p.toNat = false → exec (.porchLost p) s = .next s)


-- Cages and lanes ---------------------------------------------------------------------------------------------------------

/-- O47. Modules and open-fibre control (R345, R347 to R349): insertion, removal and interrupts are read; a probe clears Tx Disable and
the squelch of the cage's lanes, and ends dark while fewer than 7 lanes are lit; 7 lit lanes start a probe, and the latch clears
in one.
Light (R23, R347 to R349): when the light of a powered cage fails it latches DARK in the same frame, its transmit lanes
are squelched and disabled, its porch is DARK, and the Owner is told.
Where the rules leave room, it follows the model's choices and readings in log entry 15. -/
def Obligations.Cages : Prop :=
  (∀ (s : State) (c : Fin 18), Canonical s →
     (∀ (q : Bool) (m : BitVec 8) (apps : List AppAd), ∃ t, exec (.moduleInsert c q (m, apps)) s = .next t
       ∧ t.cage c.val = { s.cage c.val with
           present := true, qualified := q, modState := m.toNat, app := if q then appSelect apps else 0
           dataPath := q && decide (appSelect apps ≠ 0), squelchOn := q && decide (appSelect apps ≠ 0) }
       ∧ (∀ i, i < apps.length → appSelect apps = i + 1 → ∀ a, apps[i]? = some a → a.host = 8 ∧ a.media = 8 ∧ a.listed = true)
       ∧ Notified Src.pch 7 c.val 0 t
       ∧ (∀ d, d ≠ c.val → t.cage d = s.cage d) ∧ SameBut [.cages, .events] s t)
     ∧ (∃ t, exec (.moduleRemove c) s = .next t ∧ (t.cage c.val).present = false ∧ (t.cage c.val).dark = (s.cage c.val).dark
       ∧ (t.cage c.val).probing = (s.cage c.val).probing ∧ (t.cage c.val).txDisabled = (s.cage c.val).txDisabled
       ∧ (t.cage c.val).dataPath = false
       ∧ Notified Src.pch 7 c.val 0 t ∧ (∀ d, d ≠ c.val → t.cage d = s.cage d) ∧ SameBut [.cages, .events] s t)
     ∧ (∀ r x m : BitVec 8, (s.cage c.val).present = true → ∃ t, exec (.moduleInt c r x m) s = .next t
       ∧ t.cage c.val = { s.cage c.val with intN := true, rxLos := r.toNat, txLos := x.toNat, modState := m.toNat }
       ∧ (∀ d, d ≠ c.val → t.cage d = s.cage d) ∧ SameBut [.cages] s t)
     ∧ (∀ (a v : BitVec 16) (l : List (BitVec 16)), (s.cage c.val).present = true → ∃ t, exec (.monitorPoll c a v l) s = .next t
       ∧ t.cage c.val = { s.cage c.val with
           intN := false, temp := a.toInt, vcc := v.toNat, rxPower := (l.take 8).map BitVec.toNat }
       ∧ (∀ d, d ≠ c.val → t.cage d = s.cage d) ∧ SameBut [.cages] s t)
     ∧ ((s.cage c.val).dark = true → (s.cage c.val).probing = false → ∃ t, exec (.probe c) s = .next t
       ∧ t.cage c.val = { s.cage c.val with probing := true, txDisabled := false }
       ∧ (∀ e ∈ cageLanes c.val, natBit (t.porch e.1).squelch e.2 = false)
       ∧ (∀ d, d ≠ c.val → t.cage d = s.cage d) ∧ SameBut [.cages, .porches] s t)
     ∧ (∀ l : BitVec 8, (s.cage c.val).probing = true →
       (7 ≤ (s.setLit c.val l.toNat).litLanes c.val → ∃ t, exec (.probeEnd c l) s = .next t ∧ t.cages = s.cages
         ∧ SameBut [.porches] s t)
       ∧ ((s.setLit c.val l.toNat).litLanes c.val < 7 → ∃ t, exec (.probeEnd c l) s = .next t
         ∧ t.cage c.val = { s.cage c.val with probing := false, txDisabled := true }
         ∧ (∀ e ∈ cageLanes c.val, natBit (t.porch e.1).squelch e.2 = true) ∧ SameBut [.cages, .porches] s t))
     ∧ (∀ l : BitVec 8, (s.cage c.val).dark = true → (s.cage c.val).probing = false →
       7 ≤ (s.setLit c.val l.toNat).litLanes c.val → ∃ t, exec (.lightReturn c l) s = .next t
         ∧ t.cage c.val = { s.cage c.val with probing := true, txDisabled := false } ∧ SameBut [.cages, .porches] s t)
     ∧ ((s.cage c.val).dark = true → (s.cage c.val).probing = true → 7 ≤ s.litLanes c.val → ∃ t, exec (.latchClear c) s = .next t
       ∧ t.cage c.val = { s.cage c.val with dark := false, probing := false } ∧ Notified Src.pch 5 c.val 0 t
       ∧ (c.val < 16 → (t.porch c.val).state = .training) ∧ SameBut [.cages, .porches, .events] s t))
  ∧ (∀ (s : State) (c : Fin 18), Canonical s → s.detectorOn c.val = true → ((s.cage c.val).dark = false ∨ (s.cage c.val).probing = true) →
        ∃ t, exec (.lossOfLight c) s = .next t ∧ (t.cage c.val).dark = true ∧ (t.cage c.val).txDisabled = true
          ∧ (t.cage c.val).probing = false ∧ t.hrt = { s.hrt with guardNow := true } ∧ Notified Src.pch 4 c.val 0 t
          ∧ (∀ e ∈ cageLanes c.val, natBit (t.porch e.1).squelch e.2 = true ∧ natBit (t.porch e.1).lit e.2 = false
              ∧ natBit (t.porch e.1).locked e.2 = false)
          ∧ (c.val < 16 → (t.porch c.val).state = .dark)
          ∧ (∀ d, d ≠ c.val → t.cage d = s.cage d))

/-- O48. The link of a porch (R310, R313, R318, R340, R343, R344, R357, R527): a lane that finds lock carries cells, and eight of them
take the porch from TRAINING to DISCOVERY; a lane that loses lock outside a run leaves the width, and in its own run takes back
its old values; a request of the far end is carried out and answered; an answer ends the request of this receiver.
Where the rules leave room, it follows the model's choices and readings in log entries 14 and 15. -/
def Obligations.LinkOfAPorch : Prop :=
  ∀ (s : State) (p : BitVec 4) (l : Fin 9), Canonical s →
    (∀ v : CalValues, s.boot.started = true → s.boot.stopped = false → (s.porch p.toNat).state ≠ .dark →
      s.cageCarries p.toNat l.val = true →
      ∃ t, exec (.codewordLock p (l, v)) s = .next t ∧ t.hasLock p.toNat l.val = true ∧ (t.lane p.toNat l.val).goodCw = 4
        ∧ (t.lane p.toNat l.val).undelin = false
        ∧ ((s.lane p.toNat l.val).state = .down → (s.lane p.toNat l.val).level < 3 → (s.lane p.toNat l.val).lockLost = false →
            (t.lane p.toNat l.val).state = .inService ∧ (t.lane p.toNat l.val).vals = v)
        ∧ ((s.lane p.toNat l.val).state ≠ .down ∨ 3 ≤ (s.lane p.toNat l.val).level ∨ (s.lane p.toNat l.val).lockLost = true →
            (t.lane p.toNat l.val).state = (s.lane p.toNat l.val).state ∧ (t.lane p.toNat l.val).vals = (s.lane p.toNat l.val).vals)
        ∧ ((s.porch p.toNat).state = .training ∨ (s.porch p.toNat).state = .down →
            (t.porch p.toNat).state = if 8 ≤ ((List.range 9).filter fun i => t.hasLock p.toNat i).length then .discovery else .training)
        ∧ ((s.porch p.toNat).state = .ready → (t.porch p.toNat).state = .ready)
        ∧ (∀ i, i < 9 → i ≠ l.val → t.hasLock p.toNat i = s.hasLock p.toNat i) ∧ SameBut [.porches, .lanes] s t)
    ∧ (∀ v : CalValues, s.cageCarries p.toNat l.val = false → exec (.codewordLock p (l, v)) s = .next s)
    ∧ (s.hasLock p.toNat l.val = true → ∃ t, exec (.lockLoss p l) s = .next t ∧ t.hasLock p.toNat l.val = false
        ∧ ((s.cal p.toNat).phase = .idle ∨ (s.cal p.toNat).lane ≠ l.val → (t.lane p.toNat l.val).lockLost = true
            ∧ ((s.lane p.toNat l.val).state = .inService ∨ (s.lane p.toNat l.val).state = .carrying →
                (t.lane p.toNat l.val).state = .down) ∧ t.cal p.toNat = s.cal p.toNat)
        ∧ ((s.cal p.toNat).phase ≠ .idle → (s.cal p.toNat).lane = l.val →
            (t.lane p.toNat l.val).vals = (s.lane p.toNat l.val).old ∧ (t.cal p.toNat).phase = .lockWait
            ∧ (t.cal p.toNat).lostAt = s.hrt.frame)
        ∧ ((t.porch p.toNat).locked = 0 → (s.porch p.toNat).state ≠ .dark → (t.porch p.toNat).state = .down)
        ∧ SameBut [.porches, .lanes, .cals] s t)
    ∧ (s.hasLock p.toNat l.val = false → exec (.lockLoss p l) s = .next s)
    ∧ ((s.lane p.toNat l.val).badCw < 7 ∨ s.hasLock p.toNat l.val = false →
        ∃ t, exec (.uncorrectableCodeword p l) s = .next t ∧ t.lane p.toNat l.val = { s.lane p.toNat l.val with
          badCw := min 8 ((s.lane p.toNat l.val).badCw + 1), goodCw := 0, undelin := true } ∧ SameBut [.lanes] s t)
    ∧ (7 ≤ (s.lane p.toNat l.val).badCw → s.hasLock p.toNat l.val = true →
        ∃ t, exec (.uncorrectableCodeword p l) s = .next t ∧ t.hasLock p.toNat l.val = false ∧ (t.lane p.toNat l.val).undelin = true
          ∧ ((s.cal p.toNat).phase = .idle ∨ (s.cal p.toNat).lane ≠ l.val → (t.lane p.toNat l.val).lockLost = true
              ∧ ((s.lane p.toNat l.val).state = .inService → (t.lane p.toNat l.val).state = .down))
          ∧ SameBut [.porches, .lanes, .cals] s t)
    ∧ (∀ n : BitVec 16, s.linked p.toNat = true → ∃ t, exec (.lseqGap p n) s = .next t
        ∧ t.porch p.toNat = { s.porch p.toNat with rxSeq := (n.toNat + 1) % 65536, holed := true }
        ∧ t.field (Reg.PCH_Pp_RX p.toNat) 0 16 = min (2 ^ 16 - 1) (s.field (Reg.PCH_Pp_RX p.toNat) 0 16 + 1)
        ∧ SameBut [.porches, .regs] s t)
    ∧ (∀ (o k r : BitVec 8) (q : BitVec 16), s.linked p.toNat = true → k.toNat ≤ 7 →
        (o = 1 ∨ o = 3 ∨ o = 5 ∨ o = 7) → ∃ t, exec (.laneCell p o k r q) s = .next t
          ∧ (o = 1 → (t.porch p.toNat).txMirror = k.toNat) ∧ (o = 3 → (t.porch p.toNat).txMirror = 15)
          ∧ (o = 5 → natBit (t.porch p.toNat).txShed k.toNat = true) ∧ (o = 7 → natBit (t.porch p.toNat).txShed k.toNat = false)
          ∧ (s.boot.stopped = false → (s.porch p.toNat).squelch % 256 ≠ 255 →
              (prioFrame, TxCell.lane (o.toNat + 1) k.toNat 0 (s.porch p.toNat).txSeq) ∈ (t.porch p.toNat).sent)
          ∧ t.lanes = s.lanes)
    ∧ (∀ (o k r : BitVec 8) (q : BitVec 16), s.linked p.toNat = true → 7 < k.toNat →
        (o = 1 ∨ o = 3 ∨ o = 5 ∨ o = 7) → ∃ t, exec (.laneCell p o k r q) s = .next t
          ∧ (t.porch p.toNat).txMirror = (s.porch p.toNat).txMirror ∧ (t.porch p.toNat).txShed = (s.porch p.toNat).txShed
          ∧ (s.boot.stopped = false → (s.porch p.toNat).squelch % 256 ≠ 255 →
              (prioFrame, TxCell.lane (o.toNat + 1) k.toNat 2 (s.porch p.toNat).txSeq) ∈ (t.porch p.toNat).sent)
          ∧ t.lanes = s.lanes)
    ∧ (∀ (o k : BitVec 8) (q : BitVec 16), s.linked p.toNat = true → o.toNat = 2 ∨ o.toNat = 4 ∨ o.toNat = 6 ∨ o.toNat = 8 →
        (s.porch p.toNat).laneReq = some (o.toNat - 1, k.toNat) → ∃ t, exec (.laneCell p o k 1 q) s = .next t
          ∧ (t.porch p.toNat).laneReq = some (o.toNat - 1, k.toNat) ∧ t.cal p.toNat = s.cal p.toNat ∧ t.lanes = s.lanes
          ∧ (s.boot.stopped = false → (s.porch p.toNat).squelch % 256 ≠ 255 →
              (prioFrame, TxCell.lane (o.toNat - 1) k.toNat 0 0) ∈ (t.porch p.toNat).sent))
    ∧ (∀ (o k : BitVec 8) (q : BitVec 16), s.linked p.toNat = true → o.toNat = 2 ∨ o.toNat = 4 ∨ o.toNat = 8 →
        (s.porch p.toNat).laneReq = some (o.toNat - 1, k.toNat) → (s.cal p.toNat).requests = [] →
        ∃ t, exec (.laneCell p o k 0 q) s = .next t ∧ (t.porch p.toNat).laneReq = none
          ∧ (o.toNat = 2 → (t.porch p.toNat).mirror = k.toNat) ∧ (o.toNat = 4 → (t.porch p.toNat).mirror = 15)
          ∧ (t.cal p.toNat).answered = (s.cal p.toNat).answered ++ [(o.toNat, k.toNat)])
    ∧ (∀ (k : BitVec 8) (q : BitVec 16), s.linked p.toNat = true → (s.porch p.toNat).laneReq = some (5, k.toNat) →
        ∃ t, exec (.laneCell p 6 k 0 q) s = .next t ∧ (t.lane p.toNat k.toNat).state
          = if (s.cal p.toNat).compat && decide ((s.cal p.toNat).lane = k.toNat) then .compatOut else .shed)

/-- O49. Calibration runs and baselines (R355 to R357, R359, R362, R364, R370, R371): a due run begins at the next tick with the old
values kept; a ramp step moves every value on the way to its target; a run that gets no answer, or whose lane fails, ends with its
result; a lane that regains lock asks for the end of the duplication; baselines form and are written; the operations wait.
Where the rules leave room, it follows the model's choices and readings in log entries 14 and 16. -/
def Obligations.CalibrationRuns : Prop :=
  ∀ (s : State) (p : BitVec 4), Canonical s →
    (∀ l mode, s.runDue p.toNat = some (l, mode) → ∃ t, exec (.calRunStart p) s = .next t
      ∧ (t.cal p.toNat).lane = l ∧ (t.cal p.toNat).start = s.nextTick ∧ (t.cal p.toNat).step = 0
      ∧ (t.cal p.toNat).phase = (if l = 8 then .adapt else if mode = 2 then .compat else .mirroring)
      ∧ (t.lane p.toNat l).old = (s.lane p.toNat l).vals ∧ (t.lane p.toNat l).vals = (s.lane p.toNat l).vals
      ∧ (l ≠ 8 → (t.cal p.toNat).requests = (s.cal p.toNat).requests ++ [(if mode = 2 then 5 else 1, l)])
      ∧ SameBut [.lanes, .cals] s t)
    ∧ (s.runDue p.toNat = none → exec (.calRunStart p) s = .next s)
    ∧ (∀ v : CalValues, s.rampDue p.toNat ≠ 0 → (s.cal p.toNat).step < s.rampDue p.toNat → ∃ t, exec (.rampStep p v) s = .next t
      ∧ (t.cal p.toNat).step = s.rampDue p.toNat
      ∧ (t.lane p.toNat (s.cal p.toNat).lane).vals = (s.lane p.toNat (s.cal p.toNat).lane).old.stepTo
          (if (s.cal p.toNat).phase = .adapt then v else (s.lane p.toNat (s.cal p.toNat).lane).target) (s.rampDue p.toNat)
      ∧ (s.rampDue p.toNat < 256 → (t.cal p.toNat).phase = .ramp)
      ∧ (s.rampDue p.toNat = 256 → (s.cal p.toNat).lane ≠ 8 → s.hasLock p.toNat (s.cal p.toNat).lane = true →
          (t.cal p.toNat).phase = .unmirroring ∧ (t.cal p.toNat).requests = (s.cal p.toNat).requests ++ [(3, (s.cal p.toNat).lane)])
      ∧ SameBut [.lanes, .cals] s t)
    ∧ (s.noAnswerDue p.toNat = true → ∃ t, exec (.noAnswer p) s = .next t ∧ (t.cal p.toNat).phase = .idle
      ∧ (t.lane p.toNat (s.cal p.toNat).lane).calResult = 5
      ∧ (t.lane p.toNat (s.cal p.toNat).lane).queued = (s.lane p.toNat (s.cal p.toNat).lane).queued
      ∧ (s.cal p.toNat).lane ∈ (t.cal p.toNat).deferred
      ∧ Notified Src.lnh 2 (laneObj p.toNat (s.cal p.toNat).lane) 5 t)
    ∧ (s.regainDue p.toNat = true → (s.cal p.toNat).lane ≠ 8 → ∃ t, exec (.calLockRegained p) s = .next t
      ∧ (t.cal p.toNat).result = 3 ∧ (t.cal p.toNat).phase = (if (s.cal p.toNat).compat then .compat else .unmirroring)
      ∧ (t.cal p.toNat).requests = (s.cal p.toNat).requests ++ [(if (s.cal p.toNat).compat then 7 else 3, (s.cal p.toNat).lane)]
      ∧ SameBut [.cals] s t)
    ∧ (s.regainDue p.toNat = true → (s.cal p.toNat).lane = 8 → ∃ t, exec (.calLockRegained p) s = .next t
      ∧ (t.cal p.toNat).phase = .idle ∧ (t.lane p.toNat 8).calResult = 3 ∧ Notified Src.lnh 2 (laneObj p.toNat 8) 3 t)
    ∧ (s.lockFailDue p.toNat = true → ∃ t, exec (.lockFailed p) s = .next t ∧ (t.cal p.toNat).phase = .idle
      ∧ (t.lane p.toNat (s.cal p.toNat).lane).calResult = 4
      ∧ (t.lane p.toNat (s.cal p.toNat).lane).state
          = (if (s.cal p.toNat).compat then .shed
             else if (s.porch p.toNat).mirror = (s.cal p.toNat).lane then .spared else .down)
      ∧ Notified Src.lnh 2 (laneObj p.toNat (s.cal p.toNat).lane) 4 t)
    ∧ (∀ v : CalValues, (s.cal p.toNat).phase = .compat → (s.cal p.toNat).step = 0 →
      (s.lane p.toNat (s.cal p.toNat).lane).state = .compatOut → s.compatDue p.toNat = true → ∃ t, exec (.compatApply p v) s = .next t
        ∧ (t.lane p.toNat (s.cal p.toNat).lane).vals = v ∧ (t.cal p.toNat).step = 256 ∧ (t.cal p.toNat).phase = .compat)
    ∧ (∀ (l : Fin 9) (a : BitVec 16), (s.lane p.toNat l.val).baseFrames = 4095 → (s.lane p.toNat l.val).baseOk = false →
      s.hasLock p.toNat l.val = true → ∃ t, exec (.baselineFormed p (l, a)) s = .next t
      ∧ t.lane p.toNat l.val = { s.lane p.toNat l.val with
          baseFrames := 4096, baseSum := (s.lane p.toNat l.val).baseSum + a.toNat, baseOk := true
          baseline := min 65535 ((2 * ((s.lane p.toNat l.val).baseSum + a.toNat) + 4096) / 8192) }
      ∧ Notified Src.lnh 6 (laneObj p.toNat l.val) 0 t ∧ SameBut [.lanes, .events] s t)
    ∧ (∀ (l : Fin 9) (v : BitVec 16), ∃ t, exec (.baselineWrite p l v) s = .next t
      ∧ t.lane p.toNat l.val = { s.lane p.toNat l.val with baseWrite := some v.toNat } ∧ SameBut [.lanes] s t)
    ∧ (∀ l : BitVec 4, (∃ t, exec (.calNow p l) s = .next t ∧ t.cal p.toNat = { s.cal p.toNat with op := (1, l.toNat) } ∧ SameBut [.cals] s t)
      ∧ (∃ t, exec (.restore p l) s = .next t ∧ t.cal p.toNat = { s.cal p.toNat with op := (2, l.toNat) } ∧ SameBut [.cals] s t)
      ∧ (∃ t, exec (.laneReturn p l) s = .next t ∧ t.cal p.toNat = { s.cal p.toNat with op := (3, l.toNat) } ∧ SameBut [.cals] s t)
      ∧ (∃ t, exec (.calAbort p) s = .next t ∧ t.cal p.toNat = { s.cal p.toNat with op := (4, 0) } ∧ SameBut [.cals] s t))


-- Twin operation ----------------------------------------------------------------------------------------------------------

/-- O50. The heartbeat, claims and what comes of them (R374, R378, R388 to R394, R397, R399): a silent twin is noted; a claim goes to
every READY drive porch, and the unit keeps its role until the decision tick; a claim that wins takes the claimed epoch and the role
of a holder, and one that does not is retracted and leaves epoch and role; a holder asserts its epoch again in every sixteenth frame
on the porches that show a lower one; a resynchronisation begins where the rules allow it.
Where the rules leave room, it follows the model's choices and readings in log entries 16 and 17. -/
def Obligations.ClaimsAndRoles : Prop :=
  ∀ s : State, Canonical s →
    exec .heartbeatEdge s = .next { s with twn := { s.twn with edgeNow := true } }
    ∧ (s.landing.isSome = true → s.twn.hbLost = false → s.twn.stateNow = false → s.twn.edgeNow = false → 2 ≤ s.twn.silent →
        ∃ t, exec .heartbeatLost s = .next t ∧ t.twn = { s.twn with hbLost := true } ∧ Notified Src.twn 1 noObj 0 t
          ∧ SameBut [.twn, .events] s t)
    ∧ (s.twn.hbLost = true ∨ s.twn.edgeNow = true ∨ s.twn.silent < 2 → exec .heartbeatLost s = .next s)
    ∧ (∀ g : BitVec 4, s.triggerHolds g.toNat = true → s.claimAgain g.toNat = true → s.mayClaim = true →
        (s.twinHolds = false ∨ s.twn.hbLost = true) → ∃ t, exec (.claim g) s = .next t
          ∧ t.twn.claim = some { epoch := s.claimEpoch, frame := s.hrt.frame, trigger := g.toNat, live := s.readyOf roleDrive }
          ∧ t.twn.claimRes = 1 ∧ t.twn.role = s.twn.role ∧ t.twn.epoch = s.twn.epoch ∧ s.twn.epoch < s.claimEpoch
          ∧ (∀ p ∈ s.readyOf roleDrive, s.boot.stopped = false → (s.porch p).squelch % 256 ≠ 255 →
              (prioGuard, TxCell.claim s.claimEpoch s.twn.side (claimReason g.toNat) s.hrt.frame) ∈ (t.porch p).sent)
          ∧ SameBut [.regs, .porches, .twn, .free] s t)
    ∧ (∀ g : BitVec 4, s.triggerHolds g.toNat = false ∨ s.claimAgain g.toNat = false ∨ s.mayClaim = false →
        exec (.claim g) s = .next s)
    ∧ (∀ g : BitVec 4, s.twinHolds = true → s.twn.hbLost = false → exec (.claim g) s = .next s)
    ∧ (∀ c, s.twn.claim = some c → c.frame + 2 ≤ s.nextTick → s.claimWins c = true → s.roleNow = .standby →
        ∃ t, exec .claimDecision s = .next t ∧ t.twn.epoch = c.epoch ∧ t.twn.role = s.holderRole ∧ t.twn.claim = none
          ∧ t.twn.claimRes = 2 ∧ t.twn.takeover = s.nextTick ∧ Event.mk Src.twn 0 3 c.epoch 0 [] allSeats ∈ t.events
          ∧ (∀ m ∈ t.mov.moves, m.2.fromTwin = false) ∧ SameBut [.events, .loops, .mov, .twn] s t)
    ∧ (∀ c, s.twn.claim = some c → c.frame + 2 ≤ s.nextTick → s.claimWins c = false ∨ s.roleNow ≠ .standby →
        ∃ t, exec .claimDecision s = .next t ∧ t.twn.epoch = s.twn.epoch ∧ t.twn.role = s.twn.role ∧ t.twn.claim = none
          ∧ t.twn.claimRes = (if c.granted = [] then 4 else 3) ∧ Notified Src.twn 4 noObj 0 t
          ∧ (∀ p ∈ c.granted, p < 16 → s.roleNow = .standby → s.boot.stopped = false → (s.porch p).squelch % 256 ≠ 255 →
              (prioGuard, TxCell.withdraw ⟨c.epoch, s.twn.side, 9, s.nextTick⟩) ∈ (t.porch p).next)
          ∧ SameBut [.hrt, .regs, .events, .porches, .twn, .free] s t)
    ∧ ((∀ c, s.twn.claim = some c → s.nextTick < c.frame + 2) → exec .claimDecision s = .next s)
    ∧ (s.hrt.running = true → s.commands = true → s.hrt.frame % 16 = 0 → ∃ t, exec .reassert s = .next t
        ∧ (∀ p ∈ s.readyOf roleDrive, (∃ e, (s.porch p).ackEpoch = some e ∧ e < s.twn.epoch) → s.boot.stopped = false →
            (s.porch p).squelch % 256 ≠ 255 →
            (prioGuard, TxCell.claim s.twn.epoch s.twn.side 3 s.hrt.frame) ∈ (t.porch p).sent)
        ∧ (∀ p, (∀ e, (s.porch p).ackEpoch = some e → s.twn.epoch ≤ e) → t.porch p = s.porch p)
        ∧ SameBut [.regs, .porches, .free] s t)
    ∧ (s.commands = false → exec .reassert s = .next s)
    ∧ (s.resyncDue = true → ∃ t, exec .resyncStart s = .next t
        ∧ t.twn = { s.twn with sync := some [], syncFrom := s.nextTick, syncBatches := [], syncTables := [] }
        ∧ (∀ p, s.landing = some p → s.boot.stopped = false → (s.porch p).squelch % 256 ≠ 255 →
            (prioBulk, TxCell.resync (.again 0)) ∈ (t.porch p).next)
        ∧ SameBut [.hrt, .regs, .porches, .twn] s t)
    ∧ (s.resyncDue = false → exec .resyncStart s = .next s)

/-- O51. Cells of the twin and of the heads that decide a claim (R30, R194, R378, R379, R387, R388, R390, R399): a unit that does not
relay keeps the commands as held and sends nothing; a standby relays only cells of the twin's epoch that its late fill has not
overtaken, and counts the others; a GRANT is noted for the claim it answers; WITHDRAW lets a standby claim; STATE is the
heartbeat; a stream of a resynchronisation is kept for the next tick. Every valid cell counts as received.
Where the rules leave room, it follows the model's choices and readings in log entries 17 and 28. -/
def Obligations.CellsOfTheTwin : Prop :=
  ∀ s : State, Canonical s →
    (∀ c : CommandCell, s.landingUp = true → (c.entries.map (·.1)).Nodup →
      (s.relays = false → ∃ t, exec (.commandCell c) s = .next t
        ∧ (∀ e ∈ c.entries, (t.loop e.1).heldCmd = e.2 ∧ (t.loop e.1).cls = (s.loop e.1).cls)
        ∧ (∀ l, l ∉ c.entries.map (·.1) → t.loop l = s.loop l) ∧ (∀ p, (t.porch p).sent = (s.porch p).sent)
        ∧ SameBut [.regs, .loops, .porches] s t)
      ∧ (s.relays = true → (∀ w, s.twn.twin = some w → w.epoch ≠ c.epoch) → ∃ t, exec (.commandCell c) s = .next t
        ∧ t.field Reg.TWN_RELAY 0 16 = min (2 ^ 16 - 1) (s.field Reg.TWN_RELAY 0 16 + 1)
        ∧ (∀ p, (t.porch p).sent = (s.porch p).sent) ∧ SameBut [.regs, .porches] s t)
      ∧ (∀ w, s.relays = true → s.twn.twin = some w → w.epoch = c.epoch →
          (∃ e ∈ c.entries, (s.fullTick c.applyTick, e.1) ∈ s.twn.filled) → ∃ t, exec (.commandCell c) s = .next t
        ∧ t.field Reg.TWN_RELAY 16 16 = min (2 ^ 16 - 1) (s.field Reg.TWN_RELAY 16 16 + 1)
        ∧ (∀ p, (t.porch p).sent = (s.porch p).sent) ∧ SameBut [.regs, .porches] s t)
      ∧ (∀ w, s.relays = true → s.twn.twin = some w → w.epoch = c.epoch →
          (∀ e ∈ c.entries, (s.fullTick c.applyTick, e.1) ∉ s.twn.filled) → c.porch < 16 → (s.porch c.porch).state = .ready →
          s.porchRole c.porch = roleDrive → ∃ t, exec (.commandCell c) s = .next t
        ∧ t.field Reg.TWN_RELAY 32 32 = min (2 ^ 32 - 1) (s.field Reg.TWN_RELAY 32 32 + 1)
        ∧ (s.boot.stopped = false → (s.porch c.porch).squelch % 256 ≠ 255 →
            (prioFrame, TxCell.command c) ∈ (t.porch c.porch).sent)
        ∧ t.twn.relayed = s.twn.relayed ++ c.entries.map (fun e => (s.fullTick c.applyTick, e.1))
        ∧ (∀ e ∈ c.entries, (t.loop e.1).heldCmd = e.2) ∧ SameBut [.regs, .loops, .porches, .twn, .free] s t)
      ∧ (∀ w, s.relays = true → s.twn.twin = some w → w.epoch = c.epoch →
          (∀ e ∈ c.entries, (s.fullTick c.applyTick, e.1) ∉ s.twn.filled) →
          (s.porch c.porch).state ≠ .ready ∨ s.porchRole c.porch ≠ roleDrive → ∃ t, exec (.commandCell c) s = .next t
        ∧ (∀ e ∈ c.entries, (t.loop e.1).heldCmd = e.2) ∧ (∀ p, (t.porch p).sent = (s.porch p).sent)
        ∧ SameBut [.regs, .loops, .porches] s t))
    ∧ (∀ (p : BitVec 4) (g : GrantCell), s.passes p.toNat = true → ∃ t, exec (.grantCell p g) s = .next t
        ∧ t.twn.seen = max s.twn.seen g.epoch ∧ t.twn.role = s.twn.role ∧ t.twn.epoch = s.twn.epoch
        ∧ (g.toSide ≠ s.twn.side → t.twn.claim = s.twn.claim
            ∧ (g.verdict = 1 ∨ g.verdict = 2 → g.epoch ∈ t.twn.grantedOther))
        ∧ (∀ c, g.toSide = s.twn.side → s.twn.claim = some c → c.epoch = g.epoch →
            (g.verdict = 1 ∨ g.verdict = 2 → ∃ d, t.twn.claim = some d ∧ p.toNat ∈ d.granted ∧ d.refused = c.refused)
            ∧ (g.verdict ≠ 1 → g.verdict ≠ 2 → ∃ d, t.twn.claim = some d ∧ p.toNat ∈ d.refused ∧ d.granted = c.granted
                ∧ (g.verdict = 3 → p.toNat ∈ d.ownerLive)))
        ∧ SameBut [.regs, .porches, .twn] s t)
    ∧ (∀ w : WithdrawCell, s.landingUp = true → ∃ t, exec (.withdrawCell w) s = .next t ∧ t.hrt = { s.hrt with guardNow := true }
        ∧ t.field Reg.HRT_GUARD_STAT 16 8 = 4
        ∧ (w.reason ≠ 9 → s.mayClaim = true → ∃ c, t.twn.claim = some c ∧ c.trigger = 1 ∧ c.epoch = s.claimEpoch)
        ∧ (w.reason = 9 ∨ s.mayClaim = false → t.twn = s.twn ∧ (∀ p, s.landing = some p → s.boot.stopped = false →
            (s.porch p).squelch % 256 ≠ 255 → ∃ x, (GuardCode.withdraw, TxCell.state x) ∈ (t.porch p).sent))
        ∧ SameBut [.hrt, .regs, .porches, .twn, .free] s t)
    ∧ (∀ c : StateCell, s.landingUp = true → ∃ t, exec (.stateCell c) s = .next t ∧ t.twn.twin = some c ∧ t.twn.stateNow = true
        ∧ t.twn.seen = max s.twn.seen c.epoch ∧ t.twn.role = s.twn.role ∧ t.twn.epoch = s.twn.epoch
        ∧ (s.roleNow = .standby → c.planDigest ≠ s.plan.digest → t.twn.mismatch = s.twn.mismatch + 1)
        ∧ (c.planDigest = s.plan.digest → c.edits = s.eng.edits → s.twn.mismatch < 2 → t.twn.mismatch = 0)
        ∧ SameBut [.regs, .events, .porches, .twn] s t)
    ∧ (∀ (b : Nat) (ls : List (Nat × Loop)), s.landingUp = true → s.twn.sync.isSome = true → b < 256 →
        ∃ t, exec (.resyncCell (.contexts b ls)) s = .next t
          ∧ t.twn = { s.twn with syncBatches := s.twn.syncBatches ++ [(b, ls)] } ∧ SameBut [.regs, .porches, .twn] s t)
    ∧ (∀ (n : Nat) (l : List (Nat × Byte)), s.landingUp = true → s.twn.sync.isSome = true →
        ∃ t, exec (.resyncCell (.table n l)) s = .next t
          ∧ t.twn = { s.twn with syncTables := s.twn.syncTables ++ [(n, l)] } ∧ SameBut [.regs, .porches, .twn] s t)
    ∧ (∀ (n : Nat) (l : List (Nat × Byte)), s.landingUp = true → ∃ t, exec (.resyncCell (.bundle n l)) s = .next t
          ∧ t.upd = { s.upd with twinBundle := some (n, l) } ∧ SameBut [.regs, .porches, .upd] s t)
    ∧ (∀ b : Nat, s.landingUp = true → ∃ t, exec (.resyncCell (.again b)) s = .next t
          ∧ t.twn = { s.twn with feeding := if s.commands then some b else s.twn.feeding } ∧ SameBut [.regs, .porches, .twn] s t)
    ∧ (∀ (b : Nat) (ls : List (Nat × Loop)), s.landingUp = true → s.twn.sync = none →
        ∃ t, exec (.resyncCell (.contexts b ls)) s = .next t ∧ t.twn = s.twn ∧ SameBut [.regs, .porches] s t)
    ∧ (∀ c : CommandCell, s.landingUp = false → exec (.commandCell c) s = .next s)


-- The port, the seats and their Halls ---------------------------------------------------------------------------------------

/-- O52. Seats and the link (R404, R422 to R426, R429): a seat is bound, cleared and waits for its features; a reset, PERST, the end of
the link and an IDE failure take it out of service at once; the link shows its width and speed.
Where the rules leave room, it follows the model's choices and readings in log entry 27. -/
def Obligations.SeatsAndTheLink : Prop :=
  ∀ s : State, Canonical s →
    (∀ i : BitVec 3, s.boot.ready = true → s.port.linkUp = true → (s.seat i.toNat).bound = false →
      s.upd.recovery = false ∨ i.toNat = 0 → ∃ t, exec (.seatBound i) s = .next t
        ∧ t.seat i.toNat = { s.seat i.toNat with bound := true, state := .clearing } ∧ Notified Src.sys 0 i.toNat 0 t
        ∧ (∀ j, j ≠ i.toNat → t.seat j = s.seat j) ∧ SameBut [.seats, .events] s t)
    ∧ (∀ i : BitVec 3, s.upd.recovery = true → i.toNat ≠ 0 → exec (.seatBound i) s = .next s)
    ∧ (∀ i : BitVec 3, (s.seat i.toNat).state = .clearing → (s.seat i.toNat).resetting = false →
        ∃ t, exec (.clearingDone i) s = .next t
        ∧ t.seat i.toNat = { s.seat i.toNat with state := if (s.seat i.toNat).bound then .negotiate else .unbound }
        ∧ (∀ o, o < hallSize → t.hallByte i.toNat o = 0)
        ∧ (∀ a, (a < hallBase i.toNat ∨ hallBase (i.toNat + 1) ≤ a) → t.readByte a = s.readByte a)
        ∧ (∀ j, j ≠ i.toNat → t.seat j = s.seat j) ∧ SameBut [.seats, .ram] s t)
    ∧ (∀ (i : BitVec 3) (u : Bool), (s.seat i.toNat).bound = true → ∃ t, exec (.seatReset i u) s = .next t
        ∧ t.seat i.toNat = { s.seat i.toNat with state := .clearing, resetting := true, bound := !u }
        ∧ (∀ j, j ≠ i.toNat → t.seat j = s.seat j) ∧ Notified Src.sys 1 i.toNat 0 t
        ∧ (∀ o ∈ t.taken, o.seat = i.toNat → o.gone = true) ∧ i.toNat ∉ t.upd.sessions
        ∧ SameBut [.seats, .taken, .port, .events, .mov, .upd] s t)
    ∧ (∀ (i : BitVec 3) (u : Bool), (s.seat i.toNat).bound = false → exec (.seatReset i u) s = .next s)
    ∧ (∃ t, exec .perst s = .next t ∧ t.port.perst = true ∧ t.port.ioSecure = false ∧ t.port.memSecure = false
        ∧ (∀ i, i < 8 → (s.seat i).bound = true → (t.seat i).bound = true ∧ (t.seat i).state = .clearing
            ∧ (t.seat i).resetting = true ∧ Notified Src.sys 1 i 0 t)
        ∧ (∀ i, (s.seat i).bound = false → t.seat i = s.seat i)
        ∧ SameBut [.seats, .taken, .port, .events, .mov, .upd] s t)
    ∧ (s.port.linkUp = true → ∃ t, exec .linkDown s = .next t ∧ t.port.linkUp = false ∧ t.port.width = 0 ∧ Notified Src.sys 2 noObj 0 t
        ∧ (∀ i, i < 8 → (s.seat i).bound = true → (t.seat i).bound = false ∧ (t.seat i).state = .clearing)
        ∧ SameBut [.seats, .taken, .port, .events, .mov, .upd] s t)
    ∧ (∀ x g : Bool, s.boot.started = true → s.port.linkUp = true → s.port.perst = false → exec (.linkUp x g) s = .next s)
    ∧ (∀ x g : Bool, s.boot.started = true → s.port.linkUp = false ∨ s.port.perst = true → ∃ t, exec (.linkUp x g) s = .next t
        ∧ t.port = { s.port with
            linkUp := true, perst := false, width := if x then 8 else 4, speed := if g then 2 else 1, flit256 := g }
        ∧ Notified Src.sys 3 noObj 0 t ∧ (x = false ∨ g = false → Notified Src.sys 4 noObj 0 t) ∧ SameBut [.port, .events] s t)
    ∧ (s.port.linkUp = true → ∃ t, exec .linkRecovery s = .next t
        ∧ t.field Reg.SYS_LINK 32 32 = min (2 ^ 32 - 1) (s.field Reg.SYS_LINK 32 32 + 1)
        ∧ (∀ a, a ≠ Reg.SYS_LINK → t.reg a = s.reg a) ∧ SameBut [.regs] s t)
    ∧ (∃ t, exec .ideFail s = .next t ∧ t.port.ioSecure = false ∧ t.port.memSecure = false ∧ Notified Src.sys 5 noObj 0 t
        ∧ (∀ i, i < 8 → (s.seat i).bound = true → s.inForce (Reg.SYS_SEATs_CFG i) 8 1 = 1 →
            (t.seat i).state = .clearing ∧ (t.seat i).bound = true)
        ∧ (∀ i, s.inForce (Reg.SYS_SEATs_CFG i) 8 1 = 0 → t.seat i = s.seat i)
        ∧ SameBut [.seats, .taken, .port, .events, .mov, .upd] s t)
    ∧ (∀ i : BitVec 3, ∃ t, exec (.featureCommit i) s = .next t ∧ i.toNat ∈ t.ops.feat
        ∧ t.ops = { s.ops with feat := t.ops.feat } ∧ SameBut [.ops] s t)
    ∧ (∀ i, i < 8 → s.featResult i = 1 → (s.takeFeat i).seat i
        = { s.seat i with state := .ready, readyAt := s.nextTick, agreed := s.accepted i }
          ∧ (s.takeFeat i).field (Reg.SEAT_FEAT_CMD i) 8 8 = 1)
    ∧ (∀ i, i < 8 → s.featResult i ≠ 1 → (s.takeFeat i).seat i = s.seat i
        ∧ (s.takeFeat i).field (Reg.SEAT_FEAT_CMD i) 8 8 = s.featResult i)
    ∧ (∀ i, s.accepted i % 2 = 0 → s.featResult i = 2)

/-- O53. A host reaches its own Hall and no other memory (R407, R408, R416): the bytes of a write within the window land, but for those
of a slot that is taken and of the reserved area; no byte outside them changes, and a write to the header of a taken slot is
flagged. A seat that is not bound writes nothing.
Where the rules leave room, it follows the model's choices and readings in log entry 8. -/
def Obligations.HostWrites : Prop :=
  ∀ (s : State) (i : BitVec 3) (o : BitVec 28) (l : List Byte), Canonical s → o.toNat + l.length ≤ 2 ^ 28 →
    (s.boot.ready = true → s.boot.stopped = false → (s.seat i.toNat).bound = true → ∃ t, exec (.slotWrite i o l) s = .next t
      ∧ (∀ k (h : k < l.length), s.slotTaken i.toNat (o.toNat + k) = false → hallReserved (o.toNat + k) = false →
          t.hallByte i.toNat (o.toNat + k) = l[k])
      ∧ (∀ k, k < l.length → s.slotTaken i.toNat (o.toNat + k) = true ∨ hallReserved (o.toNat + k) = true →
          t.hallByte i.toNat (o.toNat + k) = s.hallByte i.toNat (o.toNat + k))
      ∧ (∀ a, (a < hallBase i.toNat + o.toNat ∨ hallBase i.toNat + o.toNat + l.length ≤ a) → t.readByte a = s.readByte a)
      ∧ ((∃ k, k < l.length ∧ s.slotTaken i.toNat (o.toNat + k) = true ∧ (o.toNat + k) % 256 < 32) →
          bitAt (t.reg (Reg.SEAT_EVT i.toNat)) 3 = true)
      ∧ ((∀ k, k < l.length → s.slotTaken i.toNat (o.toNat + k) = false) → SameBut [.ram] s t)
      ∧ SameBut [.ram, .regs, .events] s t)
    ∧ (s.boot.ready = false ∨ s.boot.stopped = true ∨ (s.seat i.toNat).bound = false → exec (.slotWrite i o l) s = .next s)

/-- O54. The mailboxes (R402, R431 to R435): a command that the device supports is answered, and any other is not; an allocation is
refused for a size other than 256 MB; a measurement shows what the device holds; sessions are limited to 2 for an LD and 8 in all;
the IDE keys are set on LD 0 and the FM-owned LD within a session alone. Requests wait while the supervisors restart.
Where the rules leave room, it follows the model's choices and readings in log entry 5. -/
def Obligations.MailboxesAnswer : Prop :=
  ∀ s : State, s.boot.ready = true →
    (∀ (i : BitVec 3) (o : BitVec 16), (s.seat i.toNat).bound = true → exec (.mailboxCommand i o) s = .next (s.answer
      (if o = 0x4000 ∨ o = 0x0400 ∨ o = 0x0401 then .answer (Config.cxlReply o.toNat) else .unsupported)))
    ∧ (∀ (i : BitVec 3) (o : BitVec 16), (s.seat i.toNat).bound = false → exec (.mailboxCommand i o) s = .next s)
    ∧ (∀ n : BitVec 32, n ≠ 256 → exec (.fmApiCommand 0x5402 n) s = .next (s.answer .refused))
    ∧ (∀ n : BitVec 32, exec (.fmApiCommand 0x5400 n) s = .next (s.answer (.answer (Config.cxlReply 0x5400)))
        ∧ exec (.fmApiCommand 0x5401 n) s = .next (s.answer (.answer (Config.cxlReply 0x5401))))
    ∧ (s.upd.restart = false → ∀ ld : Fin 9,
        exec (.spdmRequest ld (.getMeasurement 0x10)) s
          = .next (s.answer (.answer ((leBytes 8 s.flash.fusedSvn).map BitVec.toNat)))
        ∧ exec (.spdmRequest ld .unsupported) s = .next (s.answer .unsupported)
        ∧ (s.upd.sessions.count ld.val < 2 → s.upd.sessions.length < 8 → ∃ t, exec (.spdmRequest ld .keyExchange) s = .next t
            ∧ t.upd = { s.upd with sessions := s.upd.sessions ++ [ld.val] } ∧ t.port.reply ≠ .refused
            ∧ SameBut [.port, .upd] s t)
        ∧ (2 ≤ s.upd.sessions.count ld.val ∨ 8 ≤ s.upd.sessions.length →
            exec (.spdmRequest ld .keyExchange) s = .next (s.answer .refused))
        ∧ (∀ io mem : Bool, (ld.val = 0 ∨ ld.val = 8) → ld.val ∈ s.upd.sessions → s.port.linkUp = true →
            ∃ t, exec (.ideKeyManagement ld io mem) s = .next t
              ∧ t.port = { s.port with
                  ioSecure := s.port.ioSecure || io, memSecure := s.port.memSecure || mem, reply := .answer [] }
              ∧ SameBut [.port] s t)
        ∧ (∀ io mem : Bool, ld.val ∉ s.upd.sessions ∨ (ld.val ≠ 0 ∧ ld.val ≠ 8) →
            exec (.ideKeyManagement ld io mem) s = .next (s.answer .refused)))
    ∧ (∀ (ld : Fin 9) (r : SpdmReq), s.upd.restart = true →
        exec (.spdmRequest ld r) s = .next { s with port := { s.port with waiting := s.port.waiting ++ [(ld.val, .spdm r)] } })

/-- O55. Orders and notices (R413, R414, R417, R418): the generic checks of an order; a slot that is taken up is marked and its order
kept; an order that ends writes its own slot; a record goes to the next place of the ring, and one that finds the ring full is
dropped and counted.
Where the rules leave room, it follows the model's choices and readings in log entries 21 and 39. -/
def Obligations.OrdersAndNotices : Prop :=
  ∀ s : State, Canonical s →
    (∀ agreed typ flags reserved body, 2 ≤ flags ∨ reserved ≠ 0 → genericCheck agreed typ flags reserved body = 0x82)
    ∧ (∀ agreed typ flags body, flags < 2 → typ = 0 ∨ 4 < typ → genericCheck agreed typ flags 0 body = 0x80)
    ∧ (∀ agreed flags body, flags < 2 → agreed / 2 % 2 = 0 → genericCheck agreed 1 flags 0 body = 0x81
        ∧ genericCheck agreed 2 flags 0 body = 0x81)
    ∧ (∀ i n, i < 8 → n < 4096 → (s.takeSlot i n).hallByte i (256 * n) = 2
        ∧ (s.takeSlot i n).hallNat i (256 * n + 8) 8 = s.nextTick % 2 ^ 64
        ∧ (∃ o, (s.takeSlot i n).taken = s.taken ++ [o] ∧ o.seat = i ∧ o.slot = n ∧ o.taken = s.nextTick)
        ∧ (∀ b, b < 256 → (s.takeSlot i n).slotTaken i (256 * n + b) = true)
        ∧ (∀ a, (a < hallBase i + 256 * n ∨ hallBase i + 256 * n + 16 ≤ a) → (s.takeSlot i n).readByte a = s.readByte a))
    ∧ (∀ o : TakenOrder, o.gone = true → s.finishOrder o = s)
    ∧ (∀ o : TakenOrder, o.gone = false → (s.finishOrder o).hallByte o.seat (256 * o.slot) = 3
        ∧ (s.finishOrder o).hallByte o.seat (256 * o.slot + 3) = BitVec.ofNat 8 o.result
        ∧ (∀ a, (a < hallBase o.seat + 256 * o.slot ∨ hallBase o.seat + 256 * o.slot + 32 ≤ a) →
            (s.finishOrder o).readByte a = s.readByte a))
    ∧ (∀ i e, s.ringUsed i < 65536 → (s.writeNotice i e).readBytes (hallBase i + 0x100000 + 64 * ((s.seat i).prod % 65536)) 64
            = noticeBytes (s.seat i).prod s.hrt.frame (s.seat i).lost e.1 e.2
        ∧ (s.writeNotice i e).seat i = { s.seat i with prod := ((s.seat i).prod + 1) % 2 ^ 32, lost := false }
        ∧ SameBut [.ram, .seats] s (s.writeNotice i e))
    ∧ (∀ i e, i < 8 → 65536 ≤ s.ringUsed i → (s.writeNotice i e).ram = s.ram
        ∧ (s.writeNotice i e).seat i = { s.seat i with lost := true }
        ∧ (s.writeNotice i e).field (Reg.SEAT_NTC_LOST i) 0 32 = min (2 ^ 32 - 1) (s.field (Reg.SEAT_NTC_LOST i) 0 32 + 1))
    ∧ (∀ e : Event, e.kind = 0 → mergeEvents [e, e] [] = [(e, 2)])


-- Firmware ------------------------------------------------------------------------------------------------------------------

/-- O56. Staging (R436, R439, R442, R444, R447): the checks of a bundle come before its write, in their order, and one that fails ends
the staging with its result and leaves the flash as it was; a bundle with a security version below the fused one is refused; a
bundle that passes is kept, and ends the staging at once where it holds no head image; an answer of a head is noted for its oldest
operation; a change of the keys waits for the next tick.
Where the rules leave room, it follows the model's choices and readings in log entries 4 and 25. -/
def Obligations.FirmwareIsStaged : Prop :=
  ∀ s : State, Canonical s →
    (s.upd.st = .staging → s.upd.stageEnd = none → s.upd.relayed = none →
      (∀ ok r w, s.bundleFault = some (r, w) → ∃ t, exec (.stagingDone ok) s = .next t
          ∧ t.upd = { s.upd with stageEnd := some (r, w) } ∧ SameBut [.regs, .porches, .upd] s t
          ∧ (s.upd.pair = false ∨ s.manifestFault ≠ none → t.porches = s.porches))
      ∧ (s.bundleFault = none → ∃ t, exec (.stagingDone false) s = .next t
          ∧ t.upd = { s.upd with stageEnd := some (11, 0) } ∧ SameBut [.regs, .porches, .upd] s t)
      ∧ (s.bundleFault = none → s.flashOut = false → ∃ t, exec (.stagingDone true) s = .next t
          ∧ t.upd.bundle = some s.bundleOf ∧ t.upd.st = .staging
          ∧ t.fwSlot (1 - s.upd.runSlot) = { state := 0, bundleVer := s.bundleOf.version, svn := s.bundleOf.svn, manifest := s.bundleOf.manifest }
          ∧ t.fwSlot s.upd.runSlot = s.fwSlot s.upd.runSlot ∧ t.flash.fusedSvn = s.flash.fusedSvn
          ∧ (s.bundleOf.heads = [] → t.upd.stageEnd = some (1, 0) ∧ t.upd.asked = s.upd.asked)
          ∧ SameBut [.regs, .porches, .upd, .flash, .free] s t)
      ∧ (∀ ok p, s.upd.pair = true → s.manifestFault = none → s.landing = some p → s.boot.stopped = false →
          (s.porch p).squelch % 256 ≠ 255 → ∃ t, exec (.stagingDone ok) s = .next t
            ∧ (prioBulk, TxCell.resync (.bundle s.upd.imageLen s.upd.image)) ∈ (t.porch p).sent)
      ∧ (bunFault s.upd.image s.upd.imageLen = none → bunSigned s.upd.image = true →
          bunNat s.upd.image 0x15 1 < s.flash.fusedSvn → s.bundleFault = some (5, 0)))
    ∧ (∀ ok, s.upd.st ≠ .staging → exec (.stagingDone ok) s = .next s)
    ∧ (∀ r w, s.upd.stageEnd = some (r, w) → r ≠ 1 → s.stageTick.upd.st = .idle ∧ s.stageTick.upd.cmdResult = r
        ∧ s.stageTick.upd.loc = w ∧ s.stageTick.upd.lockSrc = 15 ∧ s.stageTick.upd.bundle = none ∧ s.stageTick.flash = s.flash
        ∧ (∀ p ∈ s.upd.loaded, p < 16 → s.boot.stopped = false → (s.porch p).squelch % 256 ≠ 255 →
            (prioBulk, TxCell.imgData 4 0 0) ∈ (s.stageTick.porch p).next))
    ∧ (∀ w, s.upd.stageEnd = some (1, w) → s.stageTick.upd.st = .staged ∧ s.stageTick.upd.cmdResult = 1
        ∧ s.stageTick.upd.bundle = s.upd.bundle ∧ s.stageTick.flash = s.flash)
    ∧ (∀ (p : BitVec 4) (r : BitVec 8), s.passes p.toNat = true → (∃ t, exec (.imgResult p r) s = .next t
        ∧ ((∀ op, (p.toNat, op) ∉ s.upd.asked) → t.upd = s.upd)
        ∧ (∀ op, s.upd.asked.find? (fun a => a.1 = p.toNat) = some (p.toNat, op) →
            t.upd.asked = s.upd.asked.erase (p.toNat, op)
            ∧ (r.toNat ≠ 0 → p.toNat ∈ t.upd.failed ∧ t.upd.loaded = s.upd.loaded ∧ t.upd.accepted = s.upd.accepted)
            ∧ (r.toNat = 0 → op = 1 → p.toNat ∈ t.upd.loaded) ∧ (r.toNat = 0 → op = 2 → p.toNat ∈ t.upd.accepted)
            ∧ (r.toNat = 0 → t.upd.failed = s.upd.failed))
        ∧ SameBut [.regs, .porches, .upd] s t))
    ∧ (∀ w, s.upd.keyWrite = some w → exec .cupboardWriteDone s = .next { s with upd := { s.upd with keyDone := true } })
    ∧ (s.upd.keyWrite = none → exec .cupboardWriteDone s = .next s)
    ∧ (∀ w, s.upd.keyWrite = some w → s.upd.keyDone = true → s.keyTick.upd.keys = w ∧ s.keyTick.upd.cmdResult = 1)
    ∧ (s.upd.keyDone = false → s.keyTick = s)

/-- O57. Activation, confirmation and fallback (R449 to R454, R439): the new slot runs from the tick of the activation, pending; the
restart ends with the self-test or, after a fallback, with the slot fallen from invalid; a failed self-test and the end of the window
are causes of a fallback; the fallback gives the old slot back; a CONFIRM of a healthy slot makes it the confirmed one, and where its
security version is above the fused one, the fuses are burned to it and the update block is idle with the next tick.
Where the rules leave room, it follows the model's choices and readings in log entry 25. -/
def Obligations.FirmwareIsActivated : Prop :=
  ∀ s : State, Canonical s →
    (∀ (m : Bool) (v : BitVec 16), s.activationDue = true → ∃ t, exec (.activation m v) s = .next t
        ∧ t.upd.st = .restarting ∧ t.upd.restart = true ∧ t.upd.runSlot = 1 - s.upd.runSlot ∧ t.upd.lockSrc = 15
        ∧ t.upd.selftest = 0 ∧ t.flash.pending = some (1 - s.upd.runSlot) ∧ t.flash.confirmed = s.flash.confirmed
        ∧ t.flash.fusedSvn = s.flash.fusedSvn
        ∧ t.fwSlot (1 - s.upd.runSlot) = { s.fwSlot (1 - s.upd.runSlot) with state := 2 }
        ∧ t.field Reg.TIL_CTL 0 1 = 0 ∧ Notified Src.upd 4 noObj 0 t ∧ (∀ a, a ≠ Reg.TIL_CTL → t.reg a = s.reg a)
        ∧ SameBut [.att, .regs, .live, .events, .upd, .flash] s t)
    ∧ (∀ (m : Bool) (v : BitVec 16), s.activationDue = false → exec (.activation m v) s = .next s)
    ∧ (s.upd.restart = true → s.upd.falling = false → s.upd.st = .restarting → ∃ t, exec .restartEnd s = .next t
        ∧ t.upd.restart = false ∧ t.upd.st = .pending ∧ t.upd.selftest = 1 ∧ t.port.waiting = []
        ∧ t.field Reg.TIL_CTL 0 1 = (if s.upd.savedBulk then 1 else 0) ∧ t.flash = s.flash
        ∧ SameBut [.port, .regs, .live, .upd] s t)
    ∧ (s.upd.restart = true → s.upd.falling = true → ∃ t, exec .restartEnd s = .next t
        ∧ t.upd.restart = false ∧ t.upd.st = .idle ∧ t.upd.falling = false
        ∧ t.fwSlot (1 - s.upd.runSlot) = { s.fwSlot (1 - s.upd.runSlot) with state := 3 }
        ∧ SameBut [.port, .att, .regs, .live, .upd, .flash] s t)
    ∧ (s.upd.restart = false → exec .restartEnd s = .next s)
    ∧ (s.upd.selftest = 1 → exec (.selftestEnd true) s = .next { s with upd := { s.upd with selftest := 2 } })
    ∧ (s.upd.selftest = 1 → s.upd.st = .pending → s.upd.fbFound = none → s.flash.burnTo = none → ∃ t, exec (.selftestEnd false) s = .next t
        ∧ t.upd = { s.upd with selftest := 3, fbFound := some (1, s.nextTick) } ∧ Notified Src.upd 2 noObj 0 t
        ∧ SameBut [.events, .upd] s t)
    ∧ (∀ b, s.upd.selftest ≠ 1 → exec (.selftestEnd b) s = .next s)
    ∧ (s.upd.windowCyc ≤ s.hrt.cycles + s.hrt.cfg.period → s.upd.st = .pending → s.upd.fbFound = none → s.flash.burnTo = none →
        exec .healthWindowEnd s = .next { s with upd := { s.upd with fbFound := some (2, s.nextTick) } })
    ∧ (s.hrt.cycles + s.hrt.cfg.period < s.upd.windowCyc → exec .healthWindowEnd s = .next s)
    ∧ (s.upd.st = .fallingBack → s.upd.falling = false → s.upd.actTick ≤ s.nextTick → ∃ t, exec .fallbackTakeEffect s = .next t
        ∧ t.upd.runSlot = 1 - s.upd.runSlot ∧ t.upd.falling = true ∧ t.upd.restart = true ∧ t.flash.pending = none
        ∧ t.flash.confirmed = s.flash.confirmed ∧ t.flash.fusedSvn = s.flash.fusedSvn ∧ t.field Reg.TIL_CTL 0 1 = 0
        ∧ Notified Src.upd 6 noObj 0 t ∧ SameBut [.regs, .live, .events, .mem, .upd, .flash] s t)
    ∧ (s.upd.st ≠ .fallingBack ∨ s.nextTick < s.upd.actTick → exec .fallbackTakeEffect s = .next s)
    ∧ (s.upd.st = .pending → s.upd.migrFailed = false → s.upd.selftest = 2 →
        s.takeConfirm.flash.confirmed = s.upd.runSlot ∧ s.takeConfirm.flash.pending = none
        ∧ s.takeConfirm.flash.fusedSvn = s.flash.fusedSvn ∧ s.takeConfirm.upd.cmdResult = 1
        ∧ (s.flash.fusedSvn < (s.fwSlot s.upd.runSlot).svn →
            s.takeConfirm.flash.burnTo = some (s.fwSlot s.upd.runSlot).svn ∧ s.takeConfirm.upd.st = .pending)
        ∧ ((s.fwSlot s.upd.runSlot).svn ≤ s.flash.fusedSvn → s.takeConfirm.flash.burnTo = none ∧ s.takeConfirm.upd.st = .idle)
        ∧ Notified Src.upd 5 noObj 0 s.takeConfirm)
    ∧ (∀ n, s.flash.burnTo = some n → s.burnTick.flash = { s.flash with fusedSvn := max s.flash.fusedSvn n, burnTo := none }
        ∧ s.burnTick.upd = { s.upd with st := .idle } ∧ Notified Src.upd 7 noObj 0 s.burnTick)
    ∧ (s.upd.st = .pending → s.upd.migrFailed = true → s.takeConfirm = s.updResult 9)
    ∧ (s.upd.st ≠ .pending → s.takeConfirm = s.updResult 6)
    ∧ (s.upd.st = .pending → s.upd.migrFailed = false → s.upd.selftest ≠ 2 → s.takeConfirm = s.updResult 8)


-- The Attic -------------------------------------------------------------------------------------------------------------------

/-- O58. Records (R462, R464 to R466, R468 to R470, R472): an event less severe than the least written leaves no record; one that finds
a record of its kind open is counted there; any other that fits takes the next number; windows end; records become durable; the
flash fails once and for all; operating seconds are saved every minute; a read writes within its buffer alone.
Where the rules leave room, it follows the model's choices and readings in log entry 26. -/
def Obligations.AtticRecords : Prop :=
  ∀ s : State, Canonical s →
    (∀ e : AtticEvent, s.minSev < e.sev → s.writeRecord e = s)
    ∧ (∀ (e : AtticEvent) (r : AtticRec), e.sev ≤ s.minSev → s.coalesceMs ≠ 0 → s.att.openFor e = some r →
        (s.writeRecord e).att.recs.map (·.number) = s.att.recs.map (·.number)
        ∧ (s.writeRecord e).att.nextNum = s.att.nextNum
        ∧ (∃ x ∈ (s.writeRecord e).att.recs, x.number = r.number ∧ x.rep = min 65535 (r.rep + 1) ∧ x.payload = r.payload)
        ∧ (s.writeRecord e).field Reg.ATT_COUNTS 0 32 = min (2 ^ 32 - 1) (s.field Reg.ATT_COUNTS 0 32 + 1))
    ∧ (∀ e : AtticEvent, e.sev ≤ s.minSev → s.att.openFor e = none → s.att.recs = [] → s.att.failed = false →
        e.payload.length ≤ 1024 → ∃ r, (s.writeRecord e).att.recs = [r] ∧ r.number = s.att.nextNum ∧ r.typ = e.typ ∧ r.sev = e.sev
          ∧ r.rep = 1 ∧ r.tick = s.hrt.frame % 2 ^ 32 ∧ r.payload.length % 8 = 0 ∧ r.reserve = decide (e.sev = Sev.critical)
          ∧ (s.writeRecord e).att.nextNum = (s.att.nextNum + 1) % 2 ^ 48)
    ∧ (∀ n : BitVec 48, ∃ t, exec (.coalesceWindowEnd n) s = .next t
        ∧ t.att.recs.map (·.number) = s.att.recs.map (·.number)
        ∧ (∀ r ∈ t.att.recs, r.number = n.toNat → r.ends ≤ s.hrt.cycles + s.hrt.cfg.period → r.isOpen = false)
        ∧ (∀ r ∈ s.att.recs, r.number ≠ n.toNat → r ∈ t.att.recs) ∧ SameBut [.att] s t)
    ∧ (∀ l : List (BitVec 48 × Option (List Byte)), s.att.failed = false → ∃ t, exec (.flashCommit l) s = .next t
        ∧ t.att.recs.map (·.number) = s.att.recs.map (·.number)
        ∧ (∀ r ∈ t.att.recs, (∃ n ∈ l, n.1.toNat = r.number) → r.staged = false)
        ∧ (∀ r ∈ t.att.recs, (∀ n ∈ l, n.1.toNat = r.number → n.2 = none) → (∃ n ∈ l, n.1.toNat = r.number) →
            r.asRead = r.bytes)
        ∧ (∀ r ∈ s.att.recs, (∀ n ∈ l, n.1.toNat ≠ r.number) → r ∈ t.att.recs) ∧ SameBut [.att] s t)
    ∧ (s.att.failed = false → ∃ t, exec .flashFail s = .next t ∧ t.att = { s.att with failed := true }
        ∧ Notified Src.att 2 noObj 0 t ∧ SameBut [.att, .events] s t)
    ∧ (∀ l, s.att.failed = true → exec .flashFail s = .next s ∧ exec (.flashCommit l) s = .next s)
    ∧ (s.att.opsecSaved + 60 ≤ s.att.opsec → s.att.failed = false →
        exec .opsecSave s = .next { s with att := { s.att with opsecSaved := s.att.opsec } })
    ∧ (s.att.opsec < s.att.opsecSaved + 60 → exec .opsecSave s = .next s)
    ∧ (∀ x : AtticRead, s.att.reading = some x → s.att.done = false → s.att.aborting = false → ∃ t, exec .readDone s = .next t
        ∧ t.att.done = true ∧ t.att.recs = s.att.recs ∧ (∃ y, t.att.reading = some y ∧ x.recs ≤ y.recs)
        ∧ (∀ a, (a < hallBase 0 + x.off ∨ hallBase 0 + x.off + x.len ≤ a) → t.readByte a = s.readByte a)
        ∧ SameBut [.att, .ram] s t)
    ∧ (s.att.reading = none → exec .readDone s = .next s)


-- Register accesses -------------------------------------------------------------------------------------------------------------

/-- An address whose read is one of a register, and not of a table window or a shelf's head. -/
abbrev plainRead (a : Nat) : Bool :=
  (decide (a < 0x60000) || decide (0x70000 ≤ a))
    && (decide (a < 0x200000) || (decide (0x1000000 ≤ a) && (decide (a % 0x10000 < 0x1000) || decide (0x3000 ≤ a % 0x10000))))

/-- What a read of the register at `a` leaves: the part of it that the access covers in the read data, the RC bits that the access
covers at their reset values, the end of the selected job read where the access shows it, and all else as it was. -/
abbrev ReadOf (s t : State) (a : Nat) (w : Width) (cycle : Nat) : Prop :=
  t.readData = laneRead w a (s.readReg (regOf a) cycle)
    ∧ (∀ b, b < 64 → bitAt (t.reg (regOf a)) b
        = if natBit (regRow (regOf a)).rc b && natBit (laneMask w a) b then bitAt (regReset (regOf a)) b else bitAt (s.reg (regOf a)) b)
    ∧ (∀ b, b ≠ regOf a → fracOf (regOf a) ≠ some b → t.reg b = s.reg b)
    ∧ (regOf a ≠ Reg.TIL_JOB_STATUS → t.til = s.til)
    ∧ (regOf a = Reg.TIL_JOB_STATUS → w = .full → (s.job (s.field Reg.TIL_JOB_SEL 0 8)).state = .ended →
        (t.job (s.field Reg.TIL_JOB_SEL 0 8)).endRead = true)
    ∧ SameBut [.regs, .readData, .til] s t

/-- O59. Reads (R5, R8, R41, R494, R496): an access outside a seat's map reads 0 and changes nothing; a read returns the part of the
register it covers; a 64-bit read of device time latches its fraction; a read of any register returns the RC bits that it covers to
their reset values and leaves every other bit, and a read that shows the end of a job is noted as its host's.
Where the rules leave room, it follows the model's choices and readings in log entries 29 and 41. -/
def Obligations.RegisterReads : Prop :=
  ∀ (s : State) (i : BitVec 3) (o : BitVec 22) (w : Width), Canonical s → aligned w o.toNat = true →
    (∀ c : BitVec 21, regAddr i.toNat o.toNat = none → exec (.timeNsRead i o w c) s = .next { s with readData := 0 }
        ∧ exec (.rcRead i o w) s = .next { s with readData := 0 })
    ∧ (∀ (c : BitVec 21) (a : Nat), regAddr i.toNat o.toNat = some a → plainRead a = true → ∃ t, exec (.timeNsRead i o w c) s = .next t
        ∧ ReadOf s t a w c.toNat
        ∧ (regOf a = Reg.HRT_TIME_NS → w = .full →
            t.reg Reg.HRT_TIME_FRAC = BitVec.ofNat 64 (s.timeNow c.toNat / 2 ^ 32 % 2 ^ 16)))
    ∧ (∀ a : Nat, regAddr i.toNat o.toNat = some a → plainRead a = true → ∃ t, exec (.rcRead i o w) s = .next t ∧ ReadOf s t a w 0)


/-- O60. Writes (R5 to R7, R9, R494, R497): RW bits that the access covers take the written value, a W1C bit written with 1 clears, and
every other bit stands; a write outside a seat's map has no effect; the `OP` of a command register is the command itself; a locked
field keeps its value and the writing seat is told; a seat's notice configuration reaches no other seat's page.
Where the rules leave room, it follows the model's choices and readings in log entry 29. -/
def Obligations.RegisterWrites : Prop :=
  ∀ s : State, Canonical s →
    (∀ a m x b, b < 64 → bitAt ((s.storeReg a m x).reg a) b
        = if natBit (regRow a).rw b && natBit m b then bitAt x b
          else if natBit (regRow a).w1c b && bitAt x b then false else bitAt (s.reg a) b)
    ∧ (∀ a m x c, c ≠ a → (s.storeReg a m x).reg c = s.reg c)
    ∧ (∀ (i : BitVec 3) (o : BitVec 22) (w : Width) (v : Word), aligned w o.toNat = true → regAddr i.toNat o.toNat = none →
        exec (.registerWrite i o w v) s = .next s)
    ∧ (∀ (o : BitVec 22) (w : Width) (v : Word), aligned w o.toNat = true → o.toNat < 0x10000 →
        (o.toNat < 0x100 ∨ 0x300 ≤ o.toNat ∨ 8 ≤ o.toNat % 64) → exec (.registerWrite 0 o w v) s
          = .next (s.storeReg (regOf o.toNat) (laneMask w o.toNat) (laneWrite w o.toNat v)))
    ∧ (∀ (i : BitVec 3) (o : BitVec 22) (v : Word), 0 < i.toNat → o.toNat < 0x10000 → o.toNat % 8 = 0 → 0x50 ≤ o.toNat →
        exec (.registerWrite i o .full v) s = .next (s.storeReg (0x1000000 + 0x10000 * i.toNat + o.toNat) (maskBits 0 64) v))
    ∧ (∀ v : Word, (bitsOf v 0 4 = 1 → exec (.registerWrite 0 (BitVec.ofNat 22 Reg.UPD_CMD) .full v) s = exec (.stage (bitAt v 16)) s)
        ∧ (bitsOf v 0 4 = 4 → exec (.registerWrite 0 (BitVec.ofNat 22 Reg.UPD_CMD) .full v) s = exec .confirm s)
        ∧ (bitsOf v 0 4 = 1 → exec (.registerWrite 0 (BitVec.ofNat 22 Reg.PLN_CMD) .full v) s = exec .planValidate s)
        ∧ (bitsOf v 0 4 = 2 → exec (.registerWrite 0 (BitVec.ofNat 22 Reg.PLN_CMD) .full v) s = exec (.planCommit (bitAt v 8)) s)
        ∧ (bitsOf v 0 4 = 1 → exec (.registerWrite 0 (BitVec.ofNat 22 Reg.ATT_CMD) .full v) s = exec .atticRead s)
        ∧ (bitsOf v 0 4 = 2 → exec (.registerWrite 0 (BitVec.ofNat 22 Reg.TRC_LE_DCMD) .full v) s = exec .descWrite s)
        ∧ (exec (.registerWrite 0 (BitVec.ofNat 22 Reg.THM_FAULT) .full v) s = exec (.faultClear (BitVec.ofNat 13 v.toNat)) s))
    ∧ (∀ v : Word, s.plan.pending = true → bitsOf v 8 4 ≠ 1 → ∃ t, exec (.registerWrite 0 (BitVec.ofNat 22 Reg.TWN_CTL) .full v) s = .next t
        ∧ t.staged = s.staged ∧ t.twn = s.twn ∧ bitAt (t.reg (Reg.SEAT_EVT 0)) 2 = true ∧ SameBut [.regs, .events] s t)
    ∧ (∀ v : Word, s.plan.pending = false → bitsOf v 8 4 ≠ 1 → ∃ t, exec (.registerWrite 0 (BitVec.ofNat 22 Reg.TWN_CTL) .full v) s = .next t
        ∧ t.staged = (if bitsOf v 0 1 = s.twn.side then none else some (bitsOf v 0 1)) ∧ t.twn = s.twn
        ∧ (∀ a, t.reg a = s.reg a) ∧ SameBut [.staged, .regs] s t)
end

