-- ==== Sys2Proof/Laws/Frame.lean ====
section
/-! SUPPORT. Frames compose: reflexivity, transitivity, a wider list, and one lemma per field of the state. -/
namespace Sys2Proof.Machine

theorem SameBut.refl (l : List Part) (s : State) : SameBut l s s := by
  intro p _; cases p <;> rfl

theorem SameBut.trans {l : List Part} {s t u : State} (h : SameBut l s t) (k : SameBut l t u) : SameBut l s u := by
  intro p hp
  have a := h p hp
  have b := k p hp
  cases p <;> exact Eq.trans b a

theorem SameBut.mono {l m : List Part} {s t : State} (h : SameBut l s t) (hlm : ∀ p, p ∈ l → p ∈ m) : SameBut m s t :=
  fun p hp => h p fun hl => hp (hlm p hl)

/-- A further change within the list. -/
theorem SameBut.after {l m : List Part} {s t u : State} (k : SameBut l t u) (hlm : ∀ p, p ∈ l → p ∈ m) (h : SameBut m s t) :
    SameBut m s u := h.trans (k.mono hlm)

theorem SameBut.ite {m : List Part} {s a b : State} {c : Prop} [Decidable c] (ha : SameBut m s a) (hb : SameBut m s b) :
    SameBut m s (if c then a else b) := by split <;> assumption

theorem SameBut.foldl {β : Type} {m : List Part} {s t : State} {f : State → β → State} (hf : ∀ u x, SameBut m u (f u x)) (h : SameBut m s t)
    (l : List β) : SameBut m s (l.foldl f t) := by
  induction l generalizing t with
  | nil => exact h
  | cons x l ih => exact ih (h.trans (hf t x))

theorem SameBut.each {m : List Part} {s t : State} {f : Nat → State → State} (hf : ∀ i u, SameBut m u (f i u)) (h : SameBut m s t)
    (l : List Nat) : SameBut m s (State.each l f t) := SameBut.foldl (fun u i => hf i u) h l

theorem SameBut.hrt_frame (s : State) (x) : SameBut [.hrt] s { s with hrt := x } := by
  intro p hp; cases p <;> first | rfl | exact absurd (List.mem_singleton.2 rfl) hp

theorem SameBut.pins_frame (s : State) (x) : SameBut [.pins] s { s with pins := x } := by
  intro p hp; cases p <;> first | rfl | exact absurd (List.mem_singleton.2 rfl) hp

theorem SameBut.boot_frame (s : State) (x) : SameBut [.boot] s { s with boot := x } := by
  intro p hp; cases p <;> first | rfl | exact absurd (List.mem_singleton.2 rfl) hp

theorem SameBut.thm_frame (s : State) (x) : SameBut [.thm] s { s with thm := x } := by
  intro p hp; cases p <;> first | rfl | exact absurd (List.mem_singleton.2 rfl) hp

theorem SameBut.seats_frame (s : State) (x) : SameBut [.seats] s { s with seats := x } := by
  intro p hp; cases p <;> first | rfl | exact absurd (List.mem_singleton.2 rfl) hp

theorem SameBut.taken_frame (s : State) (x) : SameBut [.taken] s { s with taken := x } := by
  intro p hp; cases p <;> first | rfl | exact absurd (List.mem_singleton.2 rfl) hp

theorem SameBut.port_frame (s : State) (x) : SameBut [.port] s { s with port := x } := by
  intro p hp; cases p <;> first | rfl | exact absurd (List.mem_singleton.2 rfl) hp

theorem SameBut.att_frame (s : State) (x) : SameBut [.att] s { s with att := x } := by
  intro p hp; cases p <;> first | rfl | exact absurd (List.mem_singleton.2 rfl) hp

theorem SameBut.regs_frame (s : State) (x) : SameBut [.regs] s { s with regs := x } := by
  intro p hp; cases p <;> first | rfl | exact absurd (List.mem_singleton.2 rfl) hp

theorem SameBut.live_frame (s : State) (x) : SameBut [.live] s { s with live := x } := by
  intro p hp; cases p <;> first | rfl | exact absurd (List.mem_singleton.2 rfl) hp

theorem SameBut.staged_frame (s : State) (x) : SameBut [.staged] s { s with staged := x } := by
  intro p hp; cases p <;> first | rfl | exact absurd (List.mem_singleton.2 rfl) hp

theorem SameBut.events_frame (s : State) (x) : SameBut [.events] s { s with events := x } := by
  intro p hp; cases p <;> first | rfl | exact absurd (List.mem_singleton.2 rfl) hp

theorem SameBut.later_frame (s : State) (x) : SameBut [.later] s { s with later := x } := by
  intro p hp; cases p <;> first | rfl | exact absurd (List.mem_singleton.2 rfl) hp

theorem SameBut.ops_frame (s : State) (x) : SameBut [.ops] s { s with ops := x } := by
  intro p hp; cases p <;> first | rfl | exact absurd (List.mem_singleton.2 rfl) hp

theorem SameBut.loops_frame (s : State) (x) : SameBut [.loops] s { s with loops := x } := by
  intro p hp; cases p <;> first | rfl | exact absurd (List.mem_singleton.2 rfl) hp

theorem SameBut.eng_frame (s : State) (x) : SameBut [.eng] s { s with eng := x } := by
  intro p hp; cases p <;> first | rfl | exact absurd (List.mem_singleton.2 rfl) hp

theorem SameBut.plan_frame (s : State) (x) : SameBut [.plan] s { s with plan := x } := by
  intro p hp; cases p <;> first | rfl | exact absurd (List.mem_singleton.2 rfl) hp

theorem SameBut.mov_frame (s : State) (x) : SameBut [.mov] s { s with mov := x } := by
  intro p hp; cases p <;> first | rfl | exact absurd (List.mem_singleton.2 rfl) hp

theorem SameBut.est_frame (s : State) (x) : SameBut [.est] s { s with est := x } := by
  intro p hp; cases p <;> first | rfl | exact absurd (List.mem_singleton.2 rfl) hp

theorem SameBut.porches_frame (s : State) (x) : SameBut [.porches] s { s with porches := x } := by
  intro p hp; cases p <;> first | rfl | exact absurd (List.mem_singleton.2 rfl) hp

theorem SameBut.cages_frame (s : State) (x) : SameBut [.cages] s { s with cages := x } := by
  intro p hp; cases p <;> first | rfl | exact absurd (List.mem_singleton.2 rfl) hp

theorem SameBut.lanes_frame (s : State) (x) : SameBut [.lanes] s { s with lanes := x } := by
  intro p hp; cases p <;> first | rfl | exact absurd (List.mem_singleton.2 rfl) hp

theorem SameBut.cals_frame (s : State) (x) : SameBut [.cals] s { s with cals := x } := by
  intro p hp; cases p <;> first | rfl | exact absurd (List.mem_singleton.2 rfl) hp

theorem SameBut.twn_frame (s : State) (x) : SameBut [.twn] s { s with twn := x } := by
  intro p hp; cases p <;> first | rfl | exact absurd (List.mem_singleton.2 rfl) hp

theorem SameBut.til_frame (s : State) (x) : SameBut [.til] s { s with til := x } := by
  intro p hp; cases p <;> first | rfl | exact absurd (List.mem_singleton.2 rfl) hp

theorem SameBut.mem_frame (s : State) (x) : SameBut [.mem] s { s with mem := x } := by
  intro p hp; cases p <;> first | rfl | exact absurd (List.mem_singleton.2 rfl) hp

theorem SameBut.shelves_frame (s : State) (x) : SameBut [.shelves] s { s with shelves := x } := by
  intro p hp; cases p <;> first | rfl | exact absurd (List.mem_singleton.2 rfl) hp

theorem SameBut.pantryRetired_frame (s : State) (x) : SameBut [.pantryRetired] s { s with pantryRetired := x } := by
  intro p hp; cases p <;> first | rfl | exact absurd (List.mem_singleton.2 rfl) hp

theorem SameBut.upd_frame (s : State) (x) : SameBut [.upd] s { s with upd := x } := by
  intro p hp; cases p <;> first | rfl | exact absurd (List.mem_singleton.2 rfl) hp

theorem SameBut.flash_frame (s : State) (x) : SameBut [.flash] s { s with flash := x } := by
  intro p hp; cases p <;> first | rfl | exact absurd (List.mem_singleton.2 rfl) hp

theorem SameBut.ram_frame (s : State) (x) : SameBut [.ram] s { s with ram := x } := by
  intro p hp; cases p <;> first | rfl | exact absurd (List.mem_singleton.2 rfl) hp

theorem SameBut.readData_frame (s : State) (x) : SameBut [.readData] s { s with readData := x } := by
  intro p hp; cases p <;> first | rfl | exact absurd (List.mem_singleton.2 rfl) hp

theorem SameBut.free_frame (s : State) (x) : SameBut [.free] s { s with free := x } := by
  intro p hp; cases p <;> first | rfl | exact absurd (List.mem_singleton.2 rfl) hp

theorem SameBut.pending_frame (s : State) (x) : SameBut [.pending] s { s with pending := x } := by
  intro p hp; cases p <;> first | rfl | exact absurd (List.mem_singleton.2 rfl) hp

theorem SameBut.att_plan_frame (s : State) (xatt) (xplan) :
    SameBut [.att, .plan] s { s with att := xatt, plan := xplan } := by
  intro p hp; cases p <;> first | rfl | exact absurd (by decide) hp

theorem SameBut.att_upd_frame (s : State) (xatt) (xupd) :
    SameBut [.att, .upd] s { s with att := xatt, upd := xupd } := by
  intro p hp; cases p <;> first | rfl | exact absurd (by decide) hp

theorem SameBut.boot_att_frame (s : State) (xboot) (xatt) :
    SameBut [.boot, .att] s { s with boot := xboot, att := xatt } := by
  intro p hp; cases p <;> first | rfl | exact absurd (by decide) hp

theorem SameBut.boot_thm_frame (s : State) (xboot) (xthm) :
    SameBut [.boot, .thm] s { s with boot := xboot, thm := xthm } := by
  intro p hp; cases p <;> first | rfl | exact absurd (by decide) hp

theorem SameBut.est_cals_twn_frame (s : State) (xest) (xcals) (xtwn) :
    SameBut [.est, .cals, .twn] s { s with est := xest, cals := xcals, twn := xtwn } := by
  intro p hp; cases p <;> first | rfl | exact absurd (by decide) hp

theorem SameBut.est_free_frame (s : State) (xest) (xfree) :
    SameBut [.est, .free] s { s with est := xest, free := xfree } := by
  intro p hp; cases p <;> first | rfl | exact absurd (by decide) hp

theorem SameBut.hrt_loops_eng_frame (s : State) (xhrt) (xloops) (xeng) :
    SameBut [.hrt, .loops, .eng] s { s with hrt := xhrt, loops := xloops, eng := xeng } := by
  intro p hp; cases p <;> first | rfl | exact absurd (by decide) hp

theorem SameBut.hrt_pins_frame (s : State) (xhrt) (xpins) :
    SameBut [.hrt, .pins] s { s with hrt := xhrt, pins := xpins } := by
  intro p hp; cases p <;> first | rfl | exact absurd (by decide) hp

theorem SameBut.hrt_plan_twn_mem_frame (s : State) (xhrt) (xplan) (xtwn) (xmem) :
    SameBut [.hrt, .plan, .twn, .mem] s { s with hrt := xhrt, plan := xplan, twn := xtwn, mem := xmem } := by
  intro p hp; cases p <;> first | rfl | exact absurd (by decide) hp

theorem SameBut.hrt_porches_frame (s : State) (xhrt) (xporches) :
    SameBut [.hrt, .porches] s { s with hrt := xhrt, porches := xporches } := by
  intro p hp; cases p <;> first | rfl | exact absurd (by decide) hp

theorem SameBut.loops_porches_frame (s : State) (xloops) (xporches) :
    SameBut [.loops, .porches] s { s with loops := xloops, porches := xporches } := by
  intro p hp; cases p <;> first | rfl | exact absurd (by decide) hp

theorem SameBut.mem_upd_frame (s : State) (xmem) (xupd) :
    SameBut [.mem, .upd] s { s with mem := xmem, upd := xupd } := by
  intro p hp; cases p <;> first | rfl | exact absurd (by decide) hp

theorem SameBut.ops_twn_frame (s : State) (xops) (xtwn) :
    SameBut [.ops, .twn] s { s with ops := xops, twn := xtwn } := by
  intro p hp; cases p <;> first | rfl | exact absurd (by decide) hp

theorem SameBut.pins_att_mem_flash_free_frame (s : State) (xpins) (xatt) (xmem) (xflash) (xfree) :
    SameBut [.pins, .att, .mem, .flash, .free] s { s with pins := xpins, att := xatt, mem := xmem, flash := xflash, free := xfree } := by
  intro p hp; cases p <;> first | rfl | exact absurd (by decide) hp

theorem SameBut.pins_boot_frame (s : State) (xpins) (xboot) :
    SameBut [.pins, .boot] s { s with pins := xpins, boot := xboot } := by
  intro p hp; cases p <;> first | rfl | exact absurd (by decide) hp

theorem SameBut.plan_est_frame (s : State) (xplan) (xest) :
    SameBut [.plan, .est] s { s with plan := xplan, est := xest } := by
  intro p hp; cases p <;> first | rfl | exact absurd (by decide) hp

theorem SameBut.plan_mov_frame (s : State) (xplan) (xmov) :
    SameBut [.plan, .mov] s { s with plan := xplan, mov := xmov } := by
  intro p hp; cases p <;> first | rfl | exact absurd (by decide) hp

theorem SameBut.plan_mov_est_frame (s : State) (xplan) (xmov) (xest) :
    SameBut [.plan, .mov, .est] s { s with plan := xplan, mov := xmov, est := xest } := by
  intro p hp; cases p <;> first | rfl | exact absurd (by decide) hp

theorem SameBut.plan_upd_frame (s : State) (xplan) (xupd) :
    SameBut [.plan, .upd] s { s with plan := xplan, upd := xupd } := by
  intro p hp; cases p <;> first | rfl | exact absurd (by decide) hp

theorem SameBut.port_events_later_frame (s : State) (xport) (xevents) (xlater) :
    SameBut [.port, .events, .later] s { s with port := xport, events := xevents, later := xlater } := by
  intro p hp; cases p <;> first | rfl | exact absurd (by decide) hp

theorem SameBut.regs_live_frame (s : State) (xregs) (xlive) :
    SameBut [.regs, .live] s { s with regs := xregs, live := xlive } := by
  intro p hp; cases p <;> first | rfl | exact absurd (by decide) hp

theorem SameBut.taken_port_mov_upd_frame (s : State) (xtaken) (xport) (xmov) (xupd) :
    SameBut [.taken, .port, .mov, .upd] s { s with taken := xtaken, port := xport, mov := xmov, upd := xupd } := by
  intro p hp; cases p <;> first | rfl | exact absurd (by decide) hp

theorem SameBut.upd_flash_frame (s : State) (xupd) (xflash) :
    SameBut [.upd, .flash] s { s with upd := xupd, flash := xflash } := by
  intro p hp; cases p <;> first | rfl | exact absurd (by decide) hp

theorem Frames.next {l : List Part} {s t : State} (h : SameBut l s t) : Frames l s (.next t) := by
  intro u hu; cases hu; exact h

theorem Frames.fault (l : List Part) (s : State) (e : Fault) : Frames l s (.fault e) := by
  intro u hu; cases hu

theorem Frames.ite {l : List Part} {s : State} {a b : Host.Outcome State Fault Refusal} {c : Prop} [Decidable c] (ha : Frames l s a)
    (hb : Frames l s b) : Frames l s (if c then a else b) := by split <;> assumption

theorem Frames.mono {l m : List Part} {s : State} {o : Host.Outcome State Fault Refusal} (h : Frames l s o)
    (hlm : ∀ p, p ∈ l → p ∈ m) : Frames m s o := fun t ht => (h t ht).mono hlm

/-- An outcome reached from a state that is itself `s` but for the list. -/
theorem Frames.after {l m : List Part} {s t : State} {o : Host.Outcome State Fault Refusal} (h : Frames l t o)
    (hlm : ∀ p, p ∈ l → p ∈ m) (k : SameBut m s t) : Frames m s o := fun u hu => k.trans ((h u hu).mono hlm)

end Sys2Proof.Machine
end

