-- ==== Sys2Proof/Laws/Frame/Ops.lean ====
section
/-! SUPPORT. What the definitions of Machine/Ops.lean change of the state: one frame for each. -/
namespace Sys2Proof.Machine

theorem State.updCal_frame (s : State) (p : Nat) (f : CalRun → CalRun) :
    SameBut [.cals] s (State.updCal s p f) := by
  unfold State.updCal
  with_reducible refine (SameBut.cals_frame _ _).after (by decide) ?_
  with_reducible exact SameBut.refl _ _

theorem State.setReg_frame (s : State) (a : Nat) (w : Word) :
    SameBut [.regs] s (State.setReg s a w) := by
  unfold State.setReg
  with_reducible refine (SameBut.regs_frame _ _).after (by decide) ?_
  with_reducible exact SameBut.refl _ _

theorem State.setField_frame (s : State) (a lo n v : Nat) :
    SameBut [.regs] s (State.setField s a lo n v) := by
  unfold State.setField
  with_reducible refine (State.setReg_frame _ _ _).after (by decide) ?_
  with_reducible exact SameBut.refl _ _

theorem State.count_frame (s : State) (a lo n k : Nat) :
    SameBut [.regs] s (State.count s a lo n k) := by
  unfold State.count
  with_reducible refine (State.setField_frame _ _ _ _ _).after (by decide) ?_
  with_reducible exact SameBut.refl _ _

theorem State.raiseTo_frame (s : State) (seats : List Nat) (src b : Nat) (obj : optParam Nat noObj) (arg : optParam Nat 0) :
    SameBut [.events] s (State.raiseTo s seats src b obj arg) := by
  unfold State.raiseTo
  with_reducible refine (SameBut.events_frame _ _).after (by decide) ?_
  with_reducible exact SameBut.refl _ _

theorem State.raise_frame (s : State) (src b : Nat) (obj : optParam Nat noObj) (arg : optParam Nat 0) :
    SameBut [.events] s (State.raise s src b obj arg) := by
  unfold State.raise
  with_reducible refine (State.raiseTo_frame _ _ _ _ _ _).after (by decide) ?_
  with_reducible exact SameBut.refl _ _

theorem State.updLane_frame (s : State) (p l : Nat) (f : Lane → Lane) :
    SameBut [.lanes] s (State.updLane s p l f) := by
  unfold State.updLane
  with_reducible refine (SameBut.lanes_frame _ _).after (by decide) ?_
  with_reducible exact SameBut.refl _ _

theorem State.each_frame {m : List Part} (l : List Nat) (f : Nat → State → State) (s : State) (hf : ∀ i t, SameBut m t (f i t)) :
    SameBut m s (State.each l f s) := SameBut.each hf (SameBut.refl _ _) l

theorem State.updLoop_frame (s : State) (i : Nat) (f : Loop → Loop) :
    SameBut [.loops] s (State.updLoop s i f) := by
  unfold State.updLoop
  with_reducible refine (SameBut.loops_frame _ _).after (by decide) ?_
  with_reducible exact SameBut.refl _ _

theorem State.updMove_frame (s : State) (id : Nat) (f : Move → Move) :
    SameBut [.mov] s (State.updMove s id f) := by
  unfold State.updMove
  extract_lets
  with_reducible refine (SameBut.mov_frame _ _).after (by decide) ?_
  with_reducible exact SameBut.refl _ _

theorem State.updPath_frame (s : State) (i : Nat) (f : PathRec → PathRec) :
    SameBut [.mov] s (State.updPath s i f) := by
  unfold State.updPath
  extract_lets
  with_reducible refine (SameBut.mov_frame _ _).after (by decide) ?_
  with_reducible exact SameBut.refl _ _

theorem State.raiseRecord_frame (s : State) (seats : List Nat) (src event : Nat) (body : List Byte) :
    SameBut [.events] s (State.raiseRecord s seats src event body) := by
  unfold State.raiseRecord
  with_reducible refine (SameBut.events_frame _ _).after (by decide) ?_
  with_reducible exact SameBut.refl _ _

theorem State.shelfEvt_frame (s : State) (n b : Nat) (seats : optParam (List Nat) [0]) :
    SameBut [.regs, .events] s (State.shelfEvt s n b seats) := by
  unfold State.shelfEvt
  with_reducible refine (State.raiseTo_frame _ _ _ _ _ _).after (by decide) ?_
  with_reducible refine (State.setField_frame _ _ _ _ _).after (by decide) ?_
  with_reducible exact SameBut.refl _ _

theorem State.updShelf_frame (s : State) (n : Nat) (f : Shelf → Shelf) :
    SameBut [.shelves] s (State.updShelf s n f) := by
  unfold State.updShelf
  with_reducible refine (SameBut.shelves_frame _ _).after (by decide) ?_
  with_reducible exact SameBut.refl _ _

theorem State.record_frame (s : State) (typ sev key : Nat) (payload : List Byte) :
    SameBut [.att] s (State.record s typ sev key payload) := by
  unfold State.record
  extract_lets
  with_reducible refine (SameBut.att_frame _ _).after (by decide) ?_
  with_reducible exact SameBut.refl _ _

theorem State.freeTick_frame (s : State) :
    SameBut [.free] s (State.freeTick s) := by
  unfold State.freeTick
  with_reducible refine (SameBut.free_frame _ _).after (by decide) ?_
  with_reducible exact SameBut.refl _ _

theorem State.maxField_frame (s : State) (a lo n v : Nat) :
    SameBut [.regs] s (State.maxField s a lo n v) := by
  unfold State.maxField
  with_reducible refine (State.setField_frame _ _ _ _ _).after (by decide) ?_
  with_reducible exact SameBut.refl _ _

theorem State.updPorch_frame (s : State) (p : Nat) (f : Porch → Porch) :
    SameBut [.porches] s (State.updPorch s p f) := by
  unfold State.updPorch
  with_reducible refine (SameBut.porches_frame _ _).after (by decide) ?_
  with_reducible exact SameBut.refl _ _

theorem State.send_frame (s : State) (p prio : Nat) (c : TxCell) :
    SameBut [.regs, .porches, .free] s (State.send s p prio c) := by
  unfold State.send
  extract_lets v1 v2 v3
  with_reducible refine SameBut.ite ?_ ?_
  with_reducible exact SameBut.refl _ _
  with_reducible refine SameBut.ite ?_ ?_
  with_reducible refine (State.freeTick_frame _).after (by decide) ?_
  with_reducible refine (State.maxField_frame _ _ _ _ _).after (by decide) ?_
  with_reducible refine (State.count_frame _ _ _ _ _).after (by decide) ?_
  extract_lets
  dsimp only [v3]
  split
  with_reducible refine (State.count_frame _ _ _ _ _).after (by decide) ?_
  with_reducible refine (State.count_frame _ _ _ _ _).after (by decide) ?_
  with_reducible refine (State.updPorch_frame _ _ _).after (by decide) ?_
  with_reducible exact SameBut.refl _ _
  with_reducible refine (State.count_frame _ _ _ _ _).after (by decide) ?_
  with_reducible refine (State.updPorch_frame _ _ _).after (by decide) ?_
  with_reducible exact SameBut.refl _ _
  extract_lets
  dsimp only [v3]
  split
  with_reducible refine (State.count_frame _ _ _ _ _).after (by decide) ?_
  with_reducible refine (State.count_frame _ _ _ _ _).after (by decide) ?_
  with_reducible refine (State.updPorch_frame _ _ _).after (by decide) ?_
  with_reducible exact SameBut.refl _ _
  with_reducible refine (State.count_frame _ _ _ _ _).after (by decide) ?_
  with_reducible refine (State.updPorch_frame _ _ _).after (by decide) ?_
  with_reducible exact SameBut.refl _ _

theorem State.sendAll_frame (ps : List Nat) (prio : Nat) (c : TxCell) (s : State) :
    SameBut [.regs, .porches, .free] s (State.sendAll ps prio c s) := by
  unfold State.sendAll
  with_reducible refine SameBut.each (fun _ _ => ?_) ?_ _
  with_reducible refine (State.send_frame _ _ _ _).after (by decide) ?_
  with_reducible exact SameBut.refl _ _
  with_reducible exact SameBut.refl _ _

theorem State.updDev_frame (s : State) (d : Nat) (f : Gddr7 → Gddr7) :
    SameBut [.mem] s (State.updDev s d f) := by
  unfold State.updDev
  extract_lets
  with_reducible refine (SameBut.mem_frame _ _).after (by decide) ?_
  with_reducible exact SameBut.refl _ _

theorem State.updTile_frame (s : State) (t : Nat) (f : Tile → Tile) :
    SameBut [.til] s (State.updTile s t f) := by
  unfold State.updTile
  extract_lets
  with_reducible refine (SameBut.til_frame _ _).after (by decide) ?_
  with_reducible exact SameBut.refl _ _

theorem State.updJob_frame (s : State) (j : Nat) (f : Job → Job) :
    SameBut [.til] s (State.updJob s j f) := by
  unfold State.updJob
  extract_lets
  with_reducible refine (SameBut.til_frame _ _).after (by decide) ?_
  with_reducible exact SameBut.refl _ _

theorem State.inTick_frame {m : List Part} (f : State → State) (s : State) (hf : ∀ t, SameBut m t (f t)) (hm : ∀ p, p ∈ [.hrt, .porches] → p ∈ m) :
    SameBut m s (State.inTick f s) := by
  unfold State.inTick
  extract_lets u
  refine (SameBut.hrt_porches_frame _ _ _).after hm ?_
  refine SameBut.trans ?_ (hf _)
  exact (SameBut.hrt_porches_frame _ _ _).mono hm

theorem State.updSeat_frame (s : State) (i : Nat) (f : Seat → Seat) :
    SameBut [.seats] s (State.updSeat s i f) := by
  unfold State.updSeat
  with_reducible refine (SameBut.seats_frame _ _).after (by decide) ?_
  with_reducible exact SameBut.refl _ _

theorem State.faultOn_frame (s : State) (c : Nat) (other : Bool) :
    SameBut [.pins, .att, .regs, .events] s (State.faultOn s c other) := by
  unfold State.faultOn
  extract_lets
  with_reducible refine SameBut.ite ?_ ?_
  with_reducible exact SameBut.refl _ _
  with_reducible refine SameBut.ite ?_ ?_
  with_reducible refine (SameBut.pins_frame _ _).after (by decide) ?_
  with_reducible refine (State.raise_frame _ _ _ _ _).after (by decide) ?_
  with_reducible refine (State.setField_frame _ _ _ _ _).after (by decide) ?_
  with_reducible exact SameBut.refl _ _
  with_reducible refine (State.record_frame _ _ _ _ _).after (by decide) ?_
  with_reducible refine (SameBut.pins_frame _ _).after (by decide) ?_
  with_reducible refine (State.raise_frame _ _ _ _ _).after (by decide) ?_
  with_reducible refine (State.setField_frame _ _ _ _ _).after (by decide) ?_
  with_reducible exact SameBut.refl _ _

theorem State.updTable_frame (s : State) (t : Nat) (f : PlanTable → PlanTable) :
    SameBut [.plan] s (State.updTable s t f) := by
  unfold State.updTable
  extract_lets
  with_reducible refine (SameBut.plan_frame _ _).after (by decide) ?_
  with_reducible exact SameBut.refl _ _

theorem State.writeBytes_frame (s : State) (a : Nat) (l : List Byte) :
    SameBut [.ram] s (State.writeBytes s a l) := by
  unfold State.writeBytes
  with_reducible refine (SameBut.ram_frame _ _).after (by decide) ?_
  with_reducible exact SameBut.refl _ _

theorem State.updSpIn_frame (s : State) (i : Nat) (f : SpInput → SpInput) :
    SameBut [.eng] s (State.updSpIn s i f) := by
  unfold State.updSpIn
  extract_lets
  with_reducible refine (SameBut.eng_frame _ _).after (by decide) ?_
  with_reducible exact SameBut.refl _ _

theorem State.updService_frame (s : State) (i : Nat) (f : Service → Service) :
    SameBut [.mov] s (State.updService s i f) := by
  unfold State.updService
  extract_lets
  with_reducible refine (SameBut.mov_frame _ _).after (by decide) ?_
  with_reducible exact SameBut.refl _ _

theorem State.updReflex_frame (s : State) (e : Nat) (f : Reflex → Reflex) :
    SameBut [.mov] s (State.updReflex s e f) := by
  unfold State.updReflex
  extract_lets
  with_reducible refine (SameBut.mov_frame _ _).after (by decide) ?_
  with_reducible exact SameBut.refl _ _

theorem State.updChan_frame (s : State) (c : Nat) (f : Channel → Channel) :
    SameBut [.eng] s (State.updChan s c f) := by
  unfold State.updChan
  extract_lets
  with_reducible refine (SameBut.eng_frame _ _).after (by decide) ?_
  with_reducible exact SameBut.refl _ _

theorem State.zeroBytes_frame (s : State) (a n : Nat) :
    SameBut [.ram] s (State.zeroBytes s a n) := by
  unfold State.zeroBytes
  with_reducible refine (SameBut.ram_frame _ _).after (by decide) ?_
  with_reducible exact SameBut.refl _ _

theorem State.writeByte_frame (s : State) (a : Nat) (b : Byte) :
    SameBut [.ram] s (State.writeByte s a b) := by
  unfold State.writeByte
  with_reducible refine (SameBut.ram_frame _ _).after (by decide) ?_
  with_reducible exact SameBut.refl _ _

theorem State.copyRange_frame (s : State) (src dst n : Nat) :
    SameBut [.ram] s (State.copyRange s src dst n) := by
  unfold State.copyRange
  with_reducible refine SameBut.foldl (fun _ _ => ?_) ?_ _
  with_reducible refine (State.writeByte_frame _ _ _).after (by decide) ?_
  with_reducible exact SameBut.refl _ _
  with_reducible refine (State.zeroBytes_frame _ _ _).after (by decide) ?_
  with_reducible exact SameBut.refl _ _

theorem State.hallWrite_frame (s : State) (seat off : Nat) (l : List Byte) :
    SameBut [.ram] s (State.hallWrite s seat off l) := by
  unfold State.hallWrite
  with_reducible refine (State.writeBytes_frame _ _ _).after (by decide) ?_
  with_reducible exact SameBut.refl _ _

theorem State.updDie_frame (s : State) (d : Nat) (f : Die → Die) :
    SameBut [.thm] s (State.updDie s d f) := by
  unfold State.updDie
  extract_lets
  with_reducible refine (SameBut.thm_frame _ _).after (by decide) ?_
  with_reducible exact SameBut.refl _ _

theorem State.seatEvt_frame (s : State) (seat b : Nat) :
    SameBut [.regs, .events] s (State.seatEvt s seat b) := by
  unfold State.seatEvt
  with_reducible refine (State.raiseTo_frame _ _ _ _ _ _).after (by decide) ?_
  with_reducible refine (State.setField_frame _ _ _ _ _).after (by decide) ?_
  with_reducible exact SameBut.refl _ _

theorem State.updCage_frame (s : State) (c : Nat) (f : Cage → Cage) :
    SameBut [.cages] s (State.updCage s c f) := by
  unfold State.updCage
  with_reducible refine (SameBut.cages_frame _ _).after (by decide) ?_
  with_reducible exact SameBut.refl _ _

theorem State.updPatch_frame (s : State) (m : Nat) (f : Patch → Patch) :
    SameBut [.est] s (State.updPatch s m f) := by
  unfold State.updPatch
  extract_lets
  with_reducible refine (SameBut.est_frame _ _).after (by decide) ?_
  with_reducible exact SameBut.refl _ _

end Sys2Proof.Machine
end

