-- ==== Sys2Proof/Laws/Frame/Guard.lean ====
section
/-! SUPPORT. What the definitions of Machine/Guard.lean change of the state: one frame for each. -/
namespace Sys2Proof.Machine

theorem State.freezeWhere_frame (s : State) (r : Nat) (p : Nat → Bool) :
    SameBut [.loops] s (State.freezeWhere s r p) := by
  unfold State.freezeWhere
  with_reducible refine (SameBut.loops_frame _ _).after (by decide) ?_
  with_reducible exact SameBut.refl _ _

theorem State.dropOpen_frame (s : State) :
    SameBut [.loops, .porches] s (State.dropOpen s) := by
  unfold State.dropOpen
  with_reducible refine (SameBut.loops_porches_frame _ _ _).after (by decide) ?_
  with_reducible exact SameBut.refl _ _

theorem State.recordWithdrawal_frame (s : State) (cause : Nat) :
    SameBut [.att] s (State.recordWithdrawal s cause) := by
  unfold State.recordWithdrawal
  with_reducible refine (State.record_frame _ _ _ _ _).after (by decide) ?_
  with_reducible exact SameBut.refl _ _

theorem State.giveUp_frame (s : State) (cause : Nat) :
    SameBut [.att, .loops, .porches, .twn] s (State.giveUp s cause) := by
  unfold State.giveUp
  extract_lets
  with_reducible refine (State.recordWithdrawal_frame _ _).after (by decide) ?_
  with_reducible refine (SameBut.twn_frame _ _).after (by decide) ?_
  with_reducible refine (State.dropOpen_frame _).after (by decide) ?_
  with_reducible exact SameBut.refl _ _

theorem State.guardEvent_frame (s : State) (code : Nat) :
    SameBut [.hrt, .regs, .free] s (State.guardEvent s code) := by
  unfold State.guardEvent
  extract_lets
  with_reducible refine (State.freeTick_frame _).after (by decide) ?_
  with_reducible refine (State.maxField_frame _ _ _ _ _).after (by decide) ?_
  with_reducible refine (State.setField_frame _ _ _ _ _).after (by decide) ?_
  with_reducible refine (State.count_frame _ _ _ _ _).after (by decide) ?_
  with_reducible refine (SameBut.hrt_frame _ _).after (by decide) ?_
  with_reducible exact SameBut.refl _ _

theorem State.guardState_frame (s : State) (code : Nat) :
    SameBut [.regs, .porches, .free] s (State.guardState s code) := by
  unfold State.guardState
  with_reducible refine (State.sendAll_frame _ _ _ _).after (by decide) ?_
  with_reducible exact SameBut.refl _ _

theorem State.sendWithdraw_frame (s : State) (reason code : Nat) :
    SameBut [.regs, .porches, .free] s (State.sendWithdraw s reason code) := by
  unfold State.sendWithdraw
  with_reducible refine (State.sendAll_frame _ _ _ _).after (by decide) ?_
  with_reducible exact SameBut.refl _ _

theorem State.withdraw_frame (s : State) (reason code : Nat) :
    SameBut [.pins, .att, .regs, .events, .loops, .porches, .twn, .free] s (State.withdraw s reason code) := by
  unfold State.withdraw
  with_reducible refine (State.giveUp_frame _ _).after (by decide) ?_
  with_reducible refine (State.faultOn_frame _ _ _).after (by decide) ?_
  with_reducible refine (State.sendWithdraw_frame _ _ _).after (by decide) ?_
  with_reducible exact SameBut.refl _ _

theorem State.verdict_frame {m : List Part} (s : State) (reason code : Nat) (solo : State → State) (hs : ∀ t, SameBut m t (solo t))
    (hm : ∀ p, p ∈ [.hrt, .pins, .att, .regs, .events, .loops, .porches, .twn, .free] → p ∈ m) :
    SameBut m s (State.verdict s reason code solo) := by
  have hg : SameBut m s (s.guardEvent code) := (State.guardEvent_frame _ _).mono fun p hp => hm p (by revert hp; cases p <;> decide)
  unfold State.verdict
  extract_lets v1
  have hk : SameBut m s (v1.guardState code) :=
    (State.guardState_frame _ _).after (fun p hp => hm p (by revert hp; cases p <;> decide)) hg
  split
  · exact (State.withdraw_frame _ _ _).after (fun p hp => hm p (by revert hp; cases p <;> decide)) hg
  · exact hg.trans (hs _)
  · refine (State.giveUp_frame _ _).after (fun p hp => hm p (by revert hp; cases p <;> decide)) ?_
    exact (State.faultOn_frame _ _ _).after (fun p hp => hm p (by revert hp; cases p <;> decide)) hk
  · exact (State.faultOn_frame _ _ _).after (fun p hp => hm p (by revert hp; cases p <;> decide)) hk
  · exact (State.faultOn_frame _ _ _).after (fun p hp => hm p (by revert hp; cases p <;> decide)) hk

theorem State.fatal_frame (s : State) :
    SameBut [.hrt, .pins, .att, .regs, .events, .loops, .porches, .twn, .free] s (State.fatal s) := by
  unfold State.fatal
  with_reducible refine (State.faultOn_frame _ _ _).after (by decide) ?_
  with_reducible refine SameBut.trans ?_ (State.verdict_frame _ _ _ _ (fun _ => ?_) (by decide))
  with_reducible exact SameBut.refl _ _
  with_reducible refine (State.withdraw_frame _ _ _).after (by decide) ?_
  with_reducible exact SameBut.refl _ _

theorem State.freezeLoop_frame (s : State) (r l : Nat) :
    SameBut [.loops] s (State.freezeLoop s r l) := by
  unfold State.freezeLoop
  with_reducible refine (State.updLoop_frame _ _ _).after (by decide) ?_
  with_reducible exact SameBut.refl _ _

theorem State.startClaim_frame (s : State) (trigger prio : Nat) :
    SameBut [.regs, .porches, .twn, .free] s (State.startClaim s trigger prio) := by
  unfold State.startClaim
  extract_lets
  with_reducible refine (SameBut.twn_frame _ _).after (by decide) ?_
  with_reducible refine (State.sendAll_frame _ _ _ _).after (by decide) ?_
  with_reducible exact SameBut.refl _ _

theorem execGuardMismatch_frame (s : State) :
    Frames [.hrt, .pins, .att, .regs, .events, .loops, .porches, .twn, .free] s (execGuardMismatch s) := by
  unfold execGuardMismatch
  with_reducible refine Frames.next ?_
  with_reducible refine SameBut.trans ?_ (State.verdict_frame _ _ _ _ (fun _ => ?_) (by decide))
  with_reducible exact SameBut.refl _ _
  with_reducible refine (State.withdraw_frame _ _ _).after (by decide) ?_
  with_reducible exact SameBut.refl _ _

theorem execHalt_frame (lowNs : Nat) (s : State) :
    Frames [.hrt, .pins, .regs, .loops, .porches, .free] s (execHalt lowNs s) := by
  unfold execHalt
  extract_lets
  with_reducible refine Frames.ite ?_ ?_
  with_reducible refine Frames.next ?_
  with_reducible refine (State.freezeWhere_frame _ _ _).after (by decide) ?_
  with_reducible refine SameBut.ite ?_ ?_
  with_reducible refine (State.sendAll_frame _ _ _ _).after (by decide) ?_
  with_reducible refine (State.guardEvent_frame _ _).after (by decide) ?_
  with_reducible refine (SameBut.pins_frame _ _).after (by decide) ?_
  with_reducible refine (State.freeTick_frame _).after (by decide) ?_
  with_reducible exact SameBut.refl _ _
  with_reducible refine (State.guardState_frame _ _).after (by decide) ?_
  with_reducible refine (State.guardEvent_frame _ _).after (by decide) ?_
  with_reducible refine (SameBut.pins_frame _ _).after (by decide) ?_
  with_reducible refine (State.freeTick_frame _).after (by decide) ?_
  with_reducible exact SameBut.refl _ _
  with_reducible refine Frames.next ?_
  with_reducible refine (State.freeTick_frame _).after (by decide) ?_
  with_reducible exact SameBut.refl _ _

theorem execHaltNDeasserted_frame (s : State) :
    Frames [.pins] s (execHaltNDeasserted s) := by
  unfold execHaltNDeasserted
  extract_lets
  with_reducible refine Frames.next ?_
  with_reducible refine (SameBut.pins_frame _ _).after (by decide) ?_
  with_reducible exact SameBut.refl _ _

theorem execSupervisorFatal_frame (s : State) :
    Frames [.hrt, .pins, .att, .regs, .events, .loops, .porches, .twn, .free] s (execSupervisorFatal s) := by
  unfold execSupervisorFatal
  with_reducible refine Frames.next ?_
  with_reducible refine (State.fatal_frame _).after (by decide) ?_
  with_reducible exact SameBut.refl _ _

end Sys2Proof.Machine
end

