-- ==== Sys2Proof/Laws/Frame/Hearth.lean ====
section
/-! SUPPORT. What the definitions of Machine/Hearth.lean change of the state: one frame for each. -/
namespace Sys2Proof.Machine

theorem State.loopOverrun_frame (s : State) (l : Nat) :
    SameBut [.hrt, .regs, .loops] s (State.loopOverrun s l) := by
  unfold State.loopOverrun
  extract_lets
  with_reducible refine SameBut.ite ?_ ?_
  with_reducible exact SameBut.refl _ _
  with_reducible refine (State.setField_frame _ _ _ _ _).after (by decide) ?_
  with_reducible refine (SameBut.hrt_frame _ _).after (by decide) ?_
  with_reducible refine (State.count_frame _ _ _ _ _).after (by decide) ?_
  with_reducible refine (State.updLoop_frame _ _ _).after (by decide) ?_
  with_reducible exact SameBut.refl _ _

theorem State.advance_frame (s : State) (want : Int) :
    SameBut [.hrt] s (State.advance s want) := by
  unfold State.advance
  extract_lets
  with_reducible refine (SameBut.hrt_frame _ _).after (by decide) ?_
  with_reducible exact SameBut.refl _ _

theorem State.toLock_frame (s : State) (l : Lock) :
    SameBut [.hrt, .events] s (State.toLock s l) := by
  unfold State.toLock
  extract_lets
  with_reducible refine (SameBut.hrt_frame _ _).after (by decide) ?_
  with_reducible refine SameBut.ite ?_ ?_
  with_reducible refine (State.raise_frame _ _ _ _ _).after (by decide) ?_
  with_reducible refine SameBut.ite ?_ ?_
  with_reducible refine (State.raise_frame _ _ _ _ _).after (by decide) ?_
  with_reducible exact SameBut.refl _ _
  with_reducible exact SameBut.refl _ _
  with_reducible refine SameBut.ite ?_ ?_
  with_reducible refine (State.raise_frame _ _ _ _ _).after (by decide) ?_
  with_reducible exact SameBut.refl _ _
  with_reducible exact SameBut.refl _ _

theorem State.loseReference_frame (s : State) :
    SameBut [.hrt, .events] s (State.loseReference s) := by
  unfold State.loseReference
  with_reducible refine SameBut.ite ?_ ?_
  extract_lets
  split
  with_reducible refine (State.toLock_frame _ _).after (by decide) ?_
  with_reducible exact SameBut.refl _ _
  with_reducible refine (State.toLock_frame _ _).after (by decide) ?_
  with_reducible exact SameBut.refl _ _
  with_reducible exact SameBut.refl _ _
  with_reducible exact SameBut.refl _ _

theorem State.toAcquire_frame (s : State) :
    SameBut [.hrt, .events] s (State.toAcquire s) := by
  unfold State.toAcquire
  extract_lets
  with_reducible refine (SameBut.hrt_frame _ _).after (by decide) ?_
  with_reducible refine (State.toLock_frame _ _).after (by decide) ?_
  with_reducible exact SameBut.refl _ _

theorem State.lockTick_frame (s : State) :
    SameBut [.hrt, .events] s (State.lockTick s) := by
  unfold State.lockTick
  extract_lets
  with_reducible refine (SameBut.hrt_frame _ _).after (by decide) ?_
  with_reducible refine SameBut.ite ?_ ?_
  with_reducible refine SameBut.ite ?_ ?_
  with_reducible exact SameBut.refl _ _
  with_reducible refine (State.toLock_frame _ _).after (by decide) ?_
  with_reducible exact SameBut.refl _ _
  extract_lets
  split
  with_reducible refine (State.toAcquire_frame _).after (by decide) ?_
  with_reducible exact SameBut.refl _ _
  with_reducible refine SameBut.ite ?_ ?_
  with_reducible exact SameBut.refl _ _
  with_reducible refine (State.toAcquire_frame _).after (by decide) ?_
  with_reducible exact SameBut.refl _ _
  with_reducible refine SameBut.ite ?_ ?_
  with_reducible refine (State.toLock_frame _ _).after (by decide) ?_
  with_reducible exact SameBut.refl _ _
  with_reducible refine (State.toAcquire_frame _).after (by decide) ?_
  with_reducible exact SameBut.refl _ _
  with_reducible refine SameBut.ite ?_ ?_
  with_reducible refine (State.toLock_frame _ _).after (by decide) ?_
  with_reducible exact SameBut.refl _ _
  with_reducible refine (State.loseReference_frame _).after (by decide) ?_
  with_reducible exact SameBut.refl _ _
  with_reducible refine (State.loseReference_frame _).after (by decide) ?_
  with_reducible exact SameBut.refl _ _

theorem State.epochResult_frame (s : State) (r : Nat) :
    SameBut [.regs] s (State.epochResult s r) := by
  unfold State.epochResult
  with_reducible refine (State.setField_frame _ _ _ _ _).after (by decide) ?_
  with_reducible exact SameBut.refl _ _

theorem State.takeArm_frame (s : State) :
    SameBut [.hrt, .regs, .events, .ops] s (State.takeArm s) := by
  unfold State.takeArm
  extract_lets
  with_reducible refine SameBut.ite ?_ ?_
  with_reducible refine SameBut.ite ?_ ?_
  with_reducible refine (State.raise_frame _ _ _ _ _).after (by decide) ?_
  with_reducible refine (State.epochResult_frame _ _).after (by decide) ?_
  with_reducible refine (SameBut.ops_frame _ _).after (by decide) ?_
  with_reducible exact SameBut.refl _ _
  with_reducible refine SameBut.ite ?_ ?_
  with_reducible refine (State.raise_frame _ _ _ _ _).after (by decide) ?_
  with_reducible refine (State.epochResult_frame _ _).after (by decide) ?_
  with_reducible refine (SameBut.ops_frame _ _).after (by decide) ?_
  with_reducible exact SameBut.refl _ _
  with_reducible refine SameBut.ite ?_ ?_
  with_reducible refine (State.raise_frame _ _ _ _ _).after (by decide) ?_
  with_reducible refine (State.epochResult_frame _ _).after (by decide) ?_
  with_reducible refine (SameBut.ops_frame _ _).after (by decide) ?_
  with_reducible exact SameBut.refl _ _
  with_reducible refine (State.epochResult_frame _ _).after (by decide) ?_
  with_reducible refine (SameBut.hrt_frame _ _).after (by decide) ?_
  with_reducible refine (SameBut.ops_frame _ _).after (by decide) ?_
  with_reducible exact SameBut.refl _ _
  with_reducible exact SameBut.refl _ _

theorem State.renumberAll_frame (s : State) (d : Int) :
    SameBut [.est, .cals, .twn] s (State.renumberAll s d) := by
  unfold State.renumberAll
  extract_lets
  with_reducible refine (SameBut.est_cals_twn_frame _ _ _ _).after (by decide) ?_
  with_reducible exact SameBut.refl _ _

theorem State.newFrame_frame (s : State) :
    SameBut [.hrt, .est, .cals, .twn] s (State.newFrame s) := by
  unfold State.newFrame
  extract_lets
  with_reducible refine (SameBut.hrt_frame _ _).after (by decide) ?_
  with_reducible refine SameBut.ite ?_ ?_
  with_reducible exact SameBut.refl _ _
  with_reducible refine (State.renumberAll_frame _ _).after (by decide) ?_
  with_reducible exact SameBut.refl _ _

theorem State.pinTick_frame (s : State) :
    SameBut [.hrt, .pins] s (State.pinTick s) := by
  unfold State.pinTick
  extract_lets
  with_reducible refine (SameBut.hrt_pins_frame _ _ _).after (by decide) ?_
  with_reducible exact SameBut.refl _ _

theorem State.soloOverrun_frame (s : State) :
    SameBut [.hrt, .pins, .att, .regs, .events, .loops, .porches, .twn, .free] s (State.soloOverrun s) := by
  unfold State.soloOverrun
  extract_lets
  with_reducible refine SameBut.ite ?_ ?_
  with_reducible refine (State.withdraw_frame _ _ _).after (by decide) ?_
  with_reducible exact SameBut.refl _ _
  with_reducible refine (SameBut.hrt_frame _ _).after (by decide) ?_
  with_reducible refine (State.record_frame _ _ _ _ _).after (by decide) ?_
  with_reducible refine (State.faultOn_frame _ _ _).after (by decide) ?_
  with_reducible exact SameBut.refl _ _

theorem State.overrunFrame_frame (s : State) :
    SameBut [.hrt, .pins, .att, .regs, .events, .loops, .porches, .twn, .free] s (State.overrunFrame s) := by
  unfold State.overrunFrame
  extract_lets
  with_reducible refine SameBut.ite ?_ ?_
  with_reducible exact SameBut.refl _ _
  with_reducible refine SameBut.ite ?_ ?_
  with_reducible refine (State.setReg_frame _ _ _).after (by decide) ?_
  with_reducible refine (State.raise_frame _ _ _ _ _).after (by decide) ?_
  with_reducible exact SameBut.refl _ _
  with_reducible refine SameBut.ite ?_ ?_
  with_reducible refine SameBut.trans ?_ (State.verdict_frame _ _ _ _ (fun _ => ?_) (by decide))
  with_reducible refine (State.raise_frame _ _ _ _ _).after (by decide) ?_
  with_reducible refine (State.count_frame _ _ _ _ _).after (by decide) ?_
  with_reducible refine (SameBut.hrt_frame _ _).after (by decide) ?_
  with_reducible refine (State.setReg_frame _ _ _).after (by decide) ?_
  with_reducible refine (State.raise_frame _ _ _ _ _).after (by decide) ?_
  with_reducible exact SameBut.refl _ _
  with_reducible refine (State.soloOverrun_frame _).after (by decide) ?_
  with_reducible exact SameBut.refl _ _
  with_reducible refine (State.count_frame _ _ _ _ _).after (by decide) ?_
  with_reducible refine (SameBut.hrt_frame _ _).after (by decide) ?_
  with_reducible refine (State.setReg_frame _ _ _).after (by decide) ?_
  with_reducible refine (State.raise_frame _ _ _ _ _).after (by decide) ?_
  with_reducible exact SameBut.refl _ _

theorem State.passOverrun_frame (s : State) (n : Nat) :
    SameBut [.att, .regs, .events] s (State.passOverrun s n) := by
  unfold State.passOverrun
  with_reducible refine SameBut.ite ?_ ?_
  with_reducible exact SameBut.refl _ _
  with_reducible refine (State.record_frame _ _ _ _ _).after (by decide) ?_
  with_reducible refine (State.raise_frame _ _ _ _ _).after (by decide) ?_
  with_reducible refine (State.count_frame _ _ _ _ _).after (by decide) ?_
  with_reducible exact SameBut.refl _ _

theorem State.seeReference_frame (s : State) (ps : Int) :
    SameBut [.hrt, .regs] s (State.seeReference s ps) := by
  unfold State.seeReference
  extract_lets
  with_reducible refine (State.setReg_frame _ _ _).after (by decide) ?_
  with_reducible refine (SameBut.hrt_frame _ _).after (by decide) ?_
  with_reducible exact SameBut.refl _ _

theorem State.stepEpoch_frame (s : State) :
    SameBut [.hrt, .regs, .events] s (State.stepEpoch s) := by
  unfold State.stepEpoch
  extract_lets
  split
  with_reducible refine SameBut.ite ?_ ?_
  with_reducible refine (State.raise_frame _ _ _ _ _).after (by decide) ?_
  with_reducible refine (State.epochResult_frame _ _).after (by decide) ?_
  with_reducible refine (SameBut.hrt_frame _ _).after (by decide) ?_
  with_reducible exact SameBut.refl _ _
  with_reducible exact SameBut.refl _ _
  with_reducible exact SameBut.refl _ _

theorem State.uncountFrame_frame (s : State) :
    SameBut [.hrt, .regs] s (State.uncountFrame s) := by
  unfold State.uncountFrame
  extract_lets
  with_reducible refine SameBut.ite ?_ ?_
  with_reducible refine (State.setField_frame _ _ _ _ _).after (by decide) ?_
  with_reducible refine (SameBut.hrt_frame _ _).after (by decide) ?_
  with_reducible exact SameBut.refl _ _
  with_reducible exact SameBut.refl _ _

theorem execEpochArm_frame (s : State) :
    Frames [.ops] s (execEpochArm s) := by
  unfold execEpochArm
  extract_lets
  with_reducible refine Frames.next ?_
  with_reducible refine (SameBut.ops_frame _ _).after (by decide) ?_
  with_reducible exact SameBut.refl _ _

theorem execAlignmentStep_frame (cycles : BitVec 21) (s : State) :
    Frames [.hrt, .regs] s (execAlignmentStep cycles s) := by
  unfold execAlignmentStep
  extract_lets
  with_reducible refine Frames.ite ?_ ?_
  with_reducible refine Frames.next ?_
  with_reducible refine (SameBut.hrt_frame _ _).after (by decide) ?_
  with_reducible refine (State.uncountFrame_frame _).after (by decide) ?_
  with_reducible exact SameBut.refl _ _
  with_reducible refine Frames.next ?_
  with_reducible exact SameBut.refl _ _

theorem execEpochStep_frame (s : State) :
    Frames [.hrt, .regs, .events] s (execEpochStep s) := by
  unfold execEpochStep
  with_reducible refine Frames.next ?_
  with_reducible refine (State.stepEpoch_frame _).after (by decide) ?_
  with_reducible exact SameBut.refl _ _

theorem execLockGained_frame (s : State) :
    Frames [.hrt, .events] s (execLockGained s) := by
  unfold execLockGained
  with_reducible refine Frames.ite ?_ ?_
  with_reducible refine Frames.next ?_
  with_reducible refine (State.toLock_frame _ _).after (by decide) ?_
  with_reducible exact SameBut.refl _ _
  with_reducible refine Frames.next ?_
  with_reducible exact SameBut.refl _ _

theorem execPpsSecond_frame (s : State) :
    Frames [.hrt, .pins] s (execPpsSecond s) := by
  unfold execPpsSecond
  extract_lets
  with_reducible refine Frames.ite ?_ ?_
  with_reducible refine Frames.next ?_
  with_reducible refine (SameBut.hrt_pins_frame _ _ _).after (by decide) ?_
  with_reducible exact SameBut.refl _ _
  with_reducible refine Frames.next ?_
  with_reducible exact SameBut.refl _ _

theorem execReferenceLost_frame (s : State) :
    Frames [.hrt, .events] s (execReferenceLost s) := by
  unfold execReferenceLost
  with_reducible refine Frames.next ?_
  with_reducible refine (State.loseReference_frame _).after (by decide) ?_
  with_reducible exact SameBut.refl _ _

theorem execTickInEdge_frame (offset : Int) (s : State) :
    Frames [.hrt, .regs] s (execTickInEdge offset s) := by
  unfold execTickInEdge
  extract_lets
  with_reducible refine Frames.ite ?_ ?_
  with_reducible refine Frames.next ?_
  with_reducible refine (State.seeReference_frame _ _).after (by decide) ?_
  with_reducible refine (SameBut.hrt_frame _ _).after (by decide) ?_
  with_reducible exact SameBut.refl _ _
  with_reducible refine Frames.next ?_
  with_reducible refine (SameBut.hrt_frame _ _).after (by decide) ?_
  with_reducible exact SameBut.refl _ _

theorem execTimebaseAbsent_frame (s : State) :
    Frames [.pins, .att, .regs, .events] s (execTimebaseAbsent s) := by
  unfold execTimebaseAbsent
  with_reducible refine Frames.ite ?_ ?_
  with_reducible refine Frames.next ?_
  with_reducible refine (State.faultOn_frame _ _ _).after (by decide) ?_
  with_reducible exact SameBut.refl _ _
  with_reducible refine Frames.next ?_
  with_reducible exact SameBut.refl _ _

theorem execTimebaseLoss_frame (s : State) :
    Frames [.hrt, .pins, .att, .regs, .events] s (execTimebaseLoss s) := by
  unfold execTimebaseLoss
  extract_lets
  with_reducible refine Frames.ite ?_ ?_
  with_reducible refine Frames.next ?_
  with_reducible refine (State.record_frame _ _ _ _ _).after (by decide) ?_
  with_reducible refine (State.raise_frame _ _ _ _ _).after (by decide) ?_
  with_reducible refine (State.faultOn_frame _ _ _).after (by decide) ?_
  with_reducible refine (SameBut.hrt_frame _ _).after (by decide) ?_
  with_reducible exact SameBut.refl _ _
  with_reducible refine Frames.next ?_
  with_reducible exact SameBut.refl _ _

theorem execTimebaseReturn_frame (s : State) :
    Frames [.hrt] s (execTimebaseReturn s) := by
  unfold execTimebaseReturn
  extract_lets
  with_reducible refine Frames.ite ?_ ?_
  with_reducible refine Frames.next ?_
  with_reducible refine (SameBut.hrt_frame _ _).after (by decide) ?_
  with_reducible exact SameBut.refl _ _
  with_reducible refine Frames.next ?_
  with_reducible exact SameBut.refl _ _

end Sys2Proof.Machine
end

