-- ==== Sys2Proof/Laws/Frame/LoopCalc.lean ====
section
/-! SUPPORT. What the definitions of Machine/LoopCalc.lean change of the state: one frame for each. -/
namespace Sys2Proof.Machine

theorem State.landLoop_frame (s : State) (r : EstRec) (leave late : Bool) (l : Nat) :
    SameBut [.regs, .loops] s (State.landLoop s r leave late l) := by
  unfold State.landLoop
  extract_lets
  with_reducible refine SameBut.ite ?_ ?_
  with_reducible exact SameBut.refl _ _
  with_reducible refine SameBut.ite ?_ ?_
  with_reducible refine (State.updLoop_frame _ _ _).after (by decide) ?_
  with_reducible refine SameBut.ite ?_ ?_
  with_reducible refine (State.count_frame _ _ _ _ _).after (by decide) ?_
  with_reducible exact SameBut.refl _ _
  with_reducible exact SameBut.refl _ _
  with_reducible refine (State.updLoop_frame _ _ _).after (by decide) ?_
  with_reducible exact SameBut.refl _ _

theorem State.landRecord_frame (s : State) (r : EstRec) (late : List Nat) :
    SameBut [.regs, .loops] s (State.landRecord s r late) := by
  unfold State.landRecord
  extract_lets
  with_reducible refine (State.landLoop_frame _ _ _ _ _).after (by decide) ?_
  with_reducible refine (State.landLoop_frame _ _ _ _ _).after (by decide) ?_
  with_reducible exact SameBut.refl _ _

end Sys2Proof.Machine
end

