-- ==== Sys2Proof/Laws/Frame/Cells.lean ====
section
/-! SUPPORT. What the definitions of Machine/Cells.lean change of the state: one frame for each. -/
namespace Sys2Proof.Machine

theorem State.keepCommand_frame (s : State) (tick : Nat) (e : Nat × Int) :
    SameBut [.loops] s (State.keepCommand s tick e) := by
  unfold State.keepCommand
  with_reducible refine (State.updLoop_frame _ _ _).after (by decide) ?_
  with_reducible exact SameBut.refl _ _

theorem State.commandLeft_frame (s : State) (e : Nat × Int) :
    SameBut [.loops] s (State.commandLeft s e) := by
  unfold State.commandLeft
  with_reducible refine (State.updLoop_frame _ _ _).after (by decide) ?_
  with_reducible refine (State.keepCommand_frame _ _ _).after (by decide) ?_
  with_reducible exact SameBut.refl _ _

theorem State.overrunState_frame (s : State) (l : Nat) :
    SameBut [.loops] s (State.overrunState s l) := by
  unfold State.overrunState
  with_reducible refine (State.updLoop_frame _ _ _).after (by decide) ?_
  with_reducible exact SameBut.refl _ _

theorem State.closeCell_frame (s : State) (p : Nat) (inTime : Bool) :
    SameBut [.hrt, .regs, .loops, .porches, .free] s (State.closeCell s p inTime) := by
  unfold State.closeCell
  extract_lets
  with_reducible refine SameBut.ite ?_ ?_
  with_reducible refine (State.updPorch_frame _ _ _).after (by decide) ?_
  with_reducible exact SameBut.refl _ _
  with_reducible refine SameBut.ite ?_ ?_
  with_reducible refine SameBut.foldl (fun _ _ => ?_) ?_ _
  with_reducible refine (State.commandLeft_frame _ _).after (by decide) ?_
  with_reducible exact SameBut.refl _ _
  with_reducible refine SameBut.ite ?_ ?_
  with_reducible refine (State.sendAll_frame _ _ _ _).after (by decide) ?_
  with_reducible refine SameBut.ite ?_ ?_
  with_reducible refine (State.sendAll_frame _ _ _ _).after (by decide) ?_
  with_reducible refine (State.send_frame _ _ _ _).after (by decide) ?_
  with_reducible refine (State.updPorch_frame _ _ _).after (by decide) ?_
  with_reducible exact SameBut.refl _ _
  with_reducible refine (State.send_frame _ _ _ _).after (by decide) ?_
  with_reducible refine (State.updPorch_frame _ _ _).after (by decide) ?_
  with_reducible exact SameBut.refl _ _
  with_reducible refine SameBut.ite ?_ ?_
  with_reducible refine (State.sendAll_frame _ _ _ _).after (by decide) ?_
  with_reducible refine (State.send_frame _ _ _ _).after (by decide) ?_
  with_reducible refine (State.updPorch_frame _ _ _).after (by decide) ?_
  with_reducible exact SameBut.refl _ _
  with_reducible refine (State.send_frame _ _ _ _).after (by decide) ?_
  with_reducible refine (State.updPorch_frame _ _ _).after (by decide) ?_
  with_reducible exact SameBut.refl _ _
  with_reducible refine SameBut.foldl (fun _ _ => ?_) ?_ _
  with_reducible refine (State.updLoop_frame _ _ _).after (by decide) ?_
  with_reducible refine (State.overrunState_frame _ _).after (by decide) ?_
  with_reducible refine (State.loopOverrun_frame _ _).after (by decide) ?_
  with_reducible exact SameBut.refl _ _
  with_reducible refine (State.count_frame _ _ _ _ _).after (by decide) ?_
  with_reducible refine (State.updPorch_frame _ _ _).after (by decide) ?_
  with_reducible exact SameBut.refl _ _

theorem State.addCommand_frame (s : State) (l : Nat) (u : Int) :
    SameBut [.hrt, .regs, .loops, .porches, .free] s (State.addCommand s l u) := by
  unfold State.addCommand
  extract_lets
  split
  with_reducible refine SameBut.ite ?_ ?_
  with_reducible refine SameBut.ite ?_ ?_
  with_reducible refine (State.closeCell_frame _ _ _).after (by decide) ?_
  with_reducible refine (State.updPorch_frame _ _ _).after (by decide) ?_
  with_reducible refine (State.updLoop_frame _ _ _).after (by decide) ?_
  with_reducible exact SameBut.refl _ _
  with_reducible refine (State.updPorch_frame _ _ _).after (by decide) ?_
  with_reducible refine (State.updLoop_frame _ _ _).after (by decide) ?_
  with_reducible exact SameBut.refl _ _
  with_reducible refine (State.updLoop_frame _ _ _).after (by decide) ?_
  with_reducible exact SameBut.refl _ _
  with_reducible exact SameBut.refl _ _

theorem State.cellReady_frame (s : State) (l : Nat) :
    SameBut [.hrt, .regs, .loops, .porches, .free] s (State.cellReady s l) := by
  unfold State.cellReady
  extract_lets
  split
  with_reducible refine SameBut.ite ?_ ?_
  with_reducible exact SameBut.refl _ _
  with_reducible refine (State.addCommand_frame _ _ _).after (by decide) ?_
  with_reducible exact SameBut.refl _ _
  with_reducible exact SameBut.refl _ _

theorem State.feedTwin_frame (s : State) :
    SameBut [.regs, .porches, .twn, .free] s (State.feedTwin s) := by
  unfold State.feedTwin
  extract_lets
  split
  with_reducible refine SameBut.ite ?_ ?_
  with_reducible refine (SameBut.twn_frame _ _).after (by decide) ?_
  with_reducible refine (State.send_frame _ _ _ _).after (by decide) ?_
  with_reducible refine SameBut.foldl (fun _ _ => ?_) ?_ _
  with_reducible refine (State.send_frame _ _ _ _).after (by decide) ?_
  with_reducible exact SameBut.refl _ _
  with_reducible exact SameBut.refl _ _
  with_reducible refine (SameBut.twn_frame _ _).after (by decide) ?_
  with_reducible exact SameBut.refl _ _
  with_reducible refine (SameBut.twn_frame _ _).after (by decide) ?_
  with_reducible exact SameBut.refl _ _
  with_reducible exact SameBut.refl _ _

theorem State.emitDeadline_frame (s : State) :
    SameBut [.hrt, .pins, .att, .regs, .events, .loops, .porches, .twn, .free] s (State.emitDeadline s) := by
  unfold State.emitDeadline
  extract_lets
  with_reducible refine SameBut.ite ?_ ?_
  with_reducible refine (SameBut.hrt_frame _ _).after (by decide) ?_
  with_reducible exact SameBut.refl _ _
  with_reducible refine (State.feedTwin_frame _).after (by decide) ?_
  with_reducible refine (SameBut.hrt_frame _ _).after (by decide) ?_
  with_reducible refine (State.overrunFrame_frame _).after (by decide) ?_
  with_reducible refine (SameBut.loops_frame _ _).after (by decide) ?_
  with_reducible refine SameBut.each (fun _ _ => ?_) ?_ _
  with_reducible refine (State.overrunState_frame _ _).after (by decide) ?_
  with_reducible refine (State.loopOverrun_frame _ _).after (by decide) ?_
  with_reducible exact SameBut.refl _ _
  with_reducible refine (State.passOverrun_frame _ _).after (by decide) ?_
  with_reducible refine SameBut.each (fun _ _ => ?_) ?_ _
  with_reducible refine (State.closeCell_frame _ _ _).after (by decide) ?_
  with_reducible exact SameBut.refl _ _
  with_reducible refine SameBut.ite ?_ ?_
  with_reducible refine SameBut.each (fun _ _ => ?_) ?_ _
  with_reducible refine (State.addCommand_frame _ _ _).after (by decide) ?_
  with_reducible exact SameBut.refl _ _
  with_reducible exact SameBut.refl _ _
  with_reducible exact SameBut.refl _ _

theorem State.fillPorch_frame (s : State) (epoch p : Nat) (es : List (Nat × Int)) :
    SameBut [.regs, .loops, .porches, .twn, .free] s (State.fillPorch s epoch p es) := by
  unfold State.fillPorch
  extract_lets
  with_reducible refine SameBut.ite ?_ ?_
  with_reducible exact SameBut.refl _ _
  with_reducible refine (SameBut.twn_frame _ _).after (by decide) ?_
  with_reducible refine SameBut.foldl (fun _ _ => ?_) ?_ _
  with_reducible refine (State.commandLeft_frame _ _).after (by decide) ?_
  with_reducible exact SameBut.refl _ _
  with_reducible refine (State.count_frame _ _ _ _ _).after (by decide) ?_
  with_reducible refine SameBut.foldl (fun _ _ => ?_) ?_ _
  with_reducible refine (State.send_frame _ _ _ _).after (by decide) ?_
  with_reducible exact SameBut.refl _ _
  with_reducible exact SameBut.refl _ _

theorem State.relayCommand_frame (s : State) (tick : Nat) (e : Nat × Int) :
    SameBut [.loops] s (State.relayCommand s tick e) := by
  unfold State.relayCommand
  with_reducible refine (State.updLoop_frame _ _ _).after (by decide) ?_
  with_reducible refine (State.keepCommand_frame _ _ _).after (by decide) ?_
  with_reducible exact SameBut.refl _ _

theorem execCellClose_frame (porch : BitVec 4) (cycle leaves : BitVec 21) (s : State) :
    Frames [.hrt, .regs, .loops, .porches, .free] s (execCellClose porch cycle leaves s) := by
  unfold execCellClose
  with_reducible refine Frames.ite ?_ ?_
  with_reducible refine Frames.next ?_
  with_reducible refine (State.closeCell_frame _ _ _).after (by decide) ?_
  with_reducible exact SameBut.refl _ _
  with_reducible refine Frames.next ?_
  with_reducible exact SameBut.refl _ _

theorem execEmitDeadline_frame (s : State) :
    Frames [.hrt, .pins, .att, .regs, .events, .loops, .porches, .twn, .free] s (execEmitDeadline s) := by
  unfold execEmitDeadline
  with_reducible refine Frames.ite ?_ ?_
  with_reducible refine Frames.next ?_
  with_reducible refine (State.emitDeadline_frame _).after (by decide) ?_
  with_reducible exact SameBut.refl _ _
  with_reducible refine Frames.next ?_
  with_reducible exact SameBut.refl _ _

theorem execLateFillSnapshot_frame (s : State) :
    Frames [.regs, .loops, .porches, .twn, .free] s (execLateFillSnapshot s) := by
  unfold execLateFillSnapshot
  extract_lets
  split
  with_reducible refine Frames.ite ?_ ?_
  with_reducible refine Frames.next ?_
  with_reducible refine (SameBut.twn_frame _ _).after (by decide) ?_
  with_reducible refine SameBut.each (fun _ _ => ?_) ?_ _
  with_reducible refine (State.fillPorch_frame _ _ _ _).after (by decide) ?_
  with_reducible exact SameBut.refl _ _
  with_reducible exact SameBut.refl _ _
  with_reducible refine Frames.next ?_
  with_reducible exact SameBut.refl _ _
  with_reducible refine Frames.next ?_
  with_reducible exact SameBut.refl _ _

end Sys2Proof.Machine
end

