-- ==== Sys2Proof/Laws/Frame/Loops.lean ====
section
/-! SUPPORT. What the definitions of Machine/Loops.lean change of the state: one frame for each. -/
namespace Sys2Proof.Machine

theorem State.freezeAt_frame (s : State) (r l : Nat) :
    SameBut [.att, .regs, .events, .loops] s (State.freezeAt s r l) := by
  unfold State.freezeAt
  extract_lets
  split
  with_reducible exact SameBut.refl _ _
  with_reducible refine (State.updLoop_frame _ _ _).after (by decide) ?_
  with_reducible exact SameBut.refl _ _
  with_reducible refine (State.record_frame _ _ _ _ _).after (by decide) ?_
  with_reducible refine (State.raiseTo_frame _ _ _ _ _ _).after (by decide) ?_
  with_reducible refine (State.count_frame _ _ _ _ _).after (by decide) ?_
  with_reducible refine (State.updLoop_frame _ _ _).after (by decide) ?_
  with_reducible exact SameBut.refl _ _

theorem State.freezeDue_frame (s : State) (p : Nat → Bool) :
    SameBut [.att, .regs, .events, .loops] s (State.freezeDue s p) := by
  unfold State.freezeDue
  extract_lets
  with_reducible refine SameBut.each (fun _ _ => ?_) ?_ _
  with_reducible refine (State.freezeAt_frame _ _ _).after (by decide) ?_
  with_reducible exact SameBut.refl _ _
  with_reducible exact SameBut.refl _ _

theorem State.loopResult_frame (s : State) (l r : Nat) :
    SameBut [.loops] s (State.loopResult s l r) := by
  unfold State.loopResult
  with_reducible refine (State.updLoop_frame _ _ _).after (by decide) ?_
  with_reducible exact SameBut.refl _ _

theorem State.freezeResult_frame (s : State) (l : Nat) :
    SameBut [.loops] s (State.freezeResult s l) := by
  unfold State.freezeResult
  with_reducible refine (State.loopResult_frame _ _ _).after (by decide) ?_
  with_reducible exact SameBut.refl _ _

theorem State.freezeRest_frame (s : State) :
    SameBut [.att, .regs, .events, .loops] s (State.freezeRest s) := by
  unfold State.freezeRest
  extract_lets
  with_reducible refine SameBut.each (fun _ _ => ?_) ?_ _
  with_reducible refine (State.freezeResult_frame _ _).after (by decide) ?_
  with_reducible exact SameBut.refl _ _
  with_reducible refine (State.freezeDue_frame _ _).after (by decide) ?_
  with_reducible exact SameBut.refl _ _

theorem State.loseDatapaths_frame (s : State) :
    SameBut [.events, .eng] s (State.loseDatapaths s) := by
  unfold State.loseDatapaths
  extract_lets
  with_reducible refine (SameBut.eng_frame _ _).after (by decide) ?_
  with_reducible refine SameBut.each (fun _ _ => ?_) ?_ _
  with_reducible refine (State.raise_frame _ _ _ _ _).after (by decide) ?_
  with_reducible exact SameBut.refl _ _
  with_reducible exact SameBut.refl _ _

theorem State.latchInput_frame (s : State) (analog : List (Nat × List Int)) (i : Nat) :
    SameBut [.eng] s (State.latchInput s analog i) := by
  unfold State.latchInput
  split
  split
  with_reducible refine SameBut.ite ?_ ?_
  with_reducible exact SameBut.refl _ _
  with_reducible refine (State.updSpIn_frame _ _ _).after (by decide) ?_
  with_reducible exact SameBut.refl _ _
  with_reducible exact SameBut.refl _ _
  with_reducible refine (State.updSpIn_frame _ _ _).after (by decide) ?_
  with_reducible exact SameBut.refl _ _
  with_reducible refine (State.updSpIn_frame _ _ _).after (by decide) ?_
  with_reducible exact SameBut.refl _ _
  with_reducible refine (State.updSpIn_frame _ _ _).after (by decide) ?_
  with_reducible exact SameBut.refl _ _

theorem State.latchInputs_frame (s : State) (analog : List (Nat × List Int)) :
    SameBut [.ops, .eng] s (State.latchInputs s analog) := by
  unfold State.latchInputs
  extract_lets
  with_reducible refine (SameBut.ops_frame _ _).after (by decide) ?_
  with_reducible refine SameBut.each (fun _ _ => ?_) ?_ _
  with_reducible refine (State.latchInput_frame _ _ _).after (by decide) ?_
  with_reducible exact SameBut.refl _ _
  with_reducible refine SameBut.each (fun _ _ => ?_) ?_ _
  with_reducible refine (State.updSpIn_frame _ _ _).after (by decide) ?_
  with_reducible exact SameBut.refl _ _
  with_reducible exact SameBut.refl _ _

theorem State.handOvers_frame (s : State) :
    SameBut [.loops] s (State.handOvers s) := by
  unfold State.handOvers
  with_reducible refine SameBut.each (fun _ _ => ?_) ?_ _
  with_reducible refine (State.updLoop_frame _ _ _).after (by decide) ?_
  with_reducible exact SameBut.refl _ _
  with_reducible exact SameBut.refl _ _

theorem State.leaveAcquire_frame (s : State) (l : Nat) :
    SameBut [.loops] s (State.leaveAcquire s l) := by
  unfold State.leaveAcquire
  with_reducible refine (State.updLoop_frame _ _ _).after (by decide) ?_
  with_reducible exact SameBut.refl _ _

theorem State.takeRelease_frame (s : State) (l : Nat) :
    SameBut [.loops] s (State.takeRelease s l) := by
  unfold State.takeRelease
  extract_lets
  with_reducible refine SameBut.ite ?_ ?_
  with_reducible refine (State.updLoop_frame _ _ _).after (by decide) ?_
  with_reducible exact SameBut.refl _ _
  with_reducible refine (State.loopResult_frame _ _ _).after (by decide) ?_
  with_reducible exact SameBut.refl _ _

theorem State.takeStart_frame (s : State) (l : Nat) :
    SameBut [.loops] s (State.takeStart s l) := by
  unfold State.takeStart
  extract_lets
  with_reducible refine SameBut.ite ?_ ?_
  with_reducible refine (State.updLoop_frame _ _ _).after (by decide) ?_
  with_reducible exact SameBut.refl _ _
  with_reducible refine (State.loopResult_frame _ _ _).after (by decide) ?_
  with_reducible exact SameBut.refl _ _

theorem State.lowChanges_frame (s : State) :
    SameBut [.ops, .loops] s (State.lowChanges s) := by
  unfold State.lowChanges
  extract_lets v1 v2 v3 v4 v5
  with_reducible refine (SameBut.ops_frame _ _).after (by decide) ?_
  with_reducible refine SameBut.each (fun _ _ => ?_) ?_ _
  with_reducible refine (State.updLoop_frame _ _ _).after (by decide) ?_
  with_reducible exact SameBut.refl _ _
  extract_lets
  dsimp only [v5]
  split
  with_reducible refine SameBut.each (fun _ _ => ?_) ?_ _
  with_reducible refine (State.takeRelease_frame _ _).after (by decide) ?_
  with_reducible exact SameBut.refl _ _
  with_reducible refine SameBut.each (fun _ _ => ?_) ?_ _
  with_reducible refine (State.takeRelease_frame _ _).after (by decide) ?_
  with_reducible exact SameBut.refl _ _
  with_reducible refine SameBut.each (fun _ _ => ?_) ?_ _
  with_reducible refine (State.takeStart_frame _ _).after (by decide) ?_
  with_reducible exact SameBut.refl _ _
  with_reducible refine SameBut.each (fun _ _ => ?_) ?_ _
  with_reducible refine (State.leaveAcquire_frame _ _).after (by decide) ?_
  with_reducible exact SameBut.refl _ _
  with_reducible refine (State.handOvers_frame _).after (by decide) ?_
  with_reducible exact SameBut.refl _ _
  with_reducible refine SameBut.each (fun _ _ => ?_) ?_ _
  with_reducible refine (State.takeRelease_frame _ _).after (by decide) ?_
  with_reducible exact SameBut.refl _ _
  with_reducible refine SameBut.each (fun _ _ => ?_) ?_ _
  with_reducible refine (State.takeStart_frame _ _).after (by decide) ?_
  with_reducible exact SameBut.refl _ _
  with_reducible refine SameBut.each (fun _ _ => ?_) ?_ _
  with_reducible refine (State.leaveAcquire_frame _ _).after (by decide) ?_
  with_reducible exact SameBut.refl _ _
  with_reducible refine (State.handOvers_frame _).after (by decide) ?_
  with_reducible exact SameBut.refl _ _

theorem State.takeSetpoints_frame (s : State) :
    SameBut [.events, .loops] s (State.takeSetpoints s) := by
  unfold State.takeSetpoints
  extract_lets
  with_reducible refine (SameBut.loops_frame _ _).after (by decide) ?_
  with_reducible refine SameBut.each (fun _ _ => ?_) ?_ _
  with_reducible refine (State.raise_frame _ _ _ _ _).after (by decide) ?_
  with_reducible refine (State.updLoop_frame _ _ _).after (by decide) ?_
  with_reducible exact SameBut.refl _ _
  with_reducible exact SameBut.refl _ _

theorem State.takeOff_frame (s : State) (l : Nat) :
    SameBut [.loops] s (State.takeOff s l) := by
  unfold State.takeOff
  with_reducible refine (State.updLoop_frame _ _ _).after (by decide) ?_
  with_reducible exact SameBut.refl _ _

theorem State.offAndFreeze_frame (s : State) :
    SameBut [.att, .regs, .events, .loops] s (State.offAndFreeze s) := by
  unfold State.offAndFreeze
  extract_lets
  with_reducible refine (State.freezeDue_frame _ _).after (by decide) ?_
  with_reducible refine SameBut.each (fun _ _ => ?_) ?_ _
  with_reducible refine (State.takeOff_frame _ _).after (by decide) ?_
  with_reducible exact SameBut.refl _ _
  with_reducible exact SameBut.refl _ _

theorem State.descResult_frame (s : State) (r : Nat) :
    SameBut [.regs] s (State.descResult s r) := by
  unfold State.descResult
  with_reducible refine (State.setField_frame _ _ _ _ _).after (by decide) ?_
  with_reducible exact SameBut.refl _ _

theorem State.giveDesc_frame (s : State) (starts : Bool) (l : Nat) (d : BitVec 512) :
    SameBut [.loops] s (State.giveDesc s starts l d) := by
  unfold State.giveDesc
  extract_lets
  with_reducible refine SameBut.ite ?_ ?_
  with_reducible exact SameBut.refl _ _
  with_reducible refine SameBut.ite ?_ ?_
  with_reducible refine (State.updLoop_frame _ _ _).after (by decide) ?_
  with_reducible exact SameBut.refl _ _
  extract_lets
  split
  with_reducible refine (State.updLoop_frame _ _ _).after (by decide) ?_
  with_reducible exact SameBut.refl _ _
  with_reducible refine (State.updLoop_frame _ _ _).after (by decide) ?_
  with_reducible exact SameBut.refl _ _

theorem State.descTakeEffect_frame (s : State) :
    SameBut [.regs, .events, .loops, .eng] s (State.descTakeEffect s) := by
  unfold State.descTakeEffect
  split
  with_reducible refine SameBut.ite ?_ ?_
  with_reducible refine (State.raise_frame _ _ _ _ _).after (by decide) ?_
  with_reducible refine (State.descResult_frame _ _).after (by decide) ?_
  with_reducible refine (SameBut.eng_frame _ _).after (by decide) ?_
  with_reducible refine (State.giveDesc_frame _ _ _ _).after (by decide) ?_
  with_reducible exact SameBut.refl _ _
  with_reducible exact SameBut.refl _ _
  with_reducible exact SameBut.refl _ _

theorem State.takeDescLoad_frame (s : State) :
    SameBut [.regs] s (State.takeDescLoad s) := by
  unfold State.takeDescLoad
  extract_lets
  with_reducible refine (State.descResult_frame _ _).after (by decide) ?_
  with_reducible refine SameBut.each (fun _ _ => ?_) ?_ _
  with_reducible refine (State.setReg_frame _ _ _).after (by decide) ?_
  with_reducible exact SameBut.refl _ _
  with_reducible exact SameBut.refl _ _

theorem State.takeDescWrite_frame (s : State) :
    SameBut [.regs, .events, .eng] s (State.takeDescWrite s) := by
  unfold State.takeDescWrite
  extract_lets
  with_reducible refine SameBut.ite ?_ ?_
  with_reducible refine (State.raise_frame _ _ _ _ _).after (by decide) ?_
  with_reducible refine (State.descResult_frame _ _).after (by decide) ?_
  with_reducible exact SameBut.refl _ _
  with_reducible refine SameBut.ite ?_ ?_
  with_reducible refine (State.raise_frame _ _ _ _ _).after (by decide) ?_
  with_reducible refine (State.descResult_frame _ _).after (by decide) ?_
  with_reducible exact SameBut.refl _ _
  with_reducible refine SameBut.ite ?_ ?_
  with_reducible refine (State.raise_frame _ _ _ _ _).after (by decide) ?_
  with_reducible refine (State.descResult_frame _ _).after (by decide) ?_
  with_reducible exact SameBut.refl _ _
  with_reducible refine SameBut.ite ?_ ?_
  with_reducible refine (State.raise_frame _ _ _ _ _).after (by decide) ?_
  with_reducible refine (State.descResult_frame _ _).after (by decide) ?_
  with_reducible exact SameBut.refl _ _
  with_reducible refine (State.descResult_frame _ _).after (by decide) ?_
  with_reducible refine (SameBut.eng_frame _ _).after (by decide) ?_
  with_reducible exact SameBut.refl _ _

theorem State.takeDesc_frame (s : State) :
    SameBut [.regs, .events, .ops, .eng] s (State.takeDesc s) := by
  unfold State.takeDesc
  extract_lets v1 v2 v3 v4
  dsimp only [v4]
  dsimp only [v3]
  dsimp only [v2]
  dsimp only [v1]
  split
  with_reducible refine (State.takeDescLoad_frame _).after (by decide) ?_
  with_reducible refine (SameBut.ops_frame _ _).after (by decide) ?_
  with_reducible exact SameBut.refl _ _
  with_reducible refine (State.takeDescWrite_frame _).after (by decide) ?_
  with_reducible refine (SameBut.ops_frame _ _).after (by decide) ?_
  with_reducible exact SameBut.refl _ _
  with_reducible refine SameBut.ite ?_ ?_
  with_reducible refine (State.descResult_frame _ _).after (by decide) ?_
  extract_lets
  (intro p hp; cases p <;> first | rfl | exact absurd (by decide) hp)
  with_reducible refine (SameBut.ops_frame _ _).after (by decide) ?_
  with_reducible exact SameBut.refl _ _
  with_reducible refine (SameBut.ops_frame _ _).after (by decide) ?_
  with_reducible exact SameBut.refl _ _

theorem State.countState_frame (s : State) (ls : List (BitVec 14)) :
    SameBut [.regs] s (State.countState s ls) := by
  unfold State.countState
  split
  with_reducible refine (State.setField_frame _ _ _ _ _).after (by decide) ?_
  with_reducible refine (State.count_frame _ _ _ _ _).after (by decide) ?_
  with_reducible exact SameBut.refl _ _
  with_reducible exact SameBut.refl _ _

theorem State.freezeIf_frame (s : State) (due : Bool) (l : Nat) :
    SameBut [.att, .regs, .events, .loops] s (State.freezeIf s due l) := by
  unfold State.freezeIf
  with_reducible refine SameBut.ite ?_ ?_
  with_reducible refine (State.freezeAt_frame _ _ _).after (by decide) ?_
  with_reducible exact SameBut.refl _ _
  with_reducible exact SameBut.refl _ _

theorem State.loopOp_frame (s : State) (l op : Nat) :
    SameBut [.ops] s (State.loopOp s l op) := by
  unfold State.loopOp
  extract_lets
  with_reducible refine (SameBut.ops_frame _ _).after (by decide) ?_
  with_reducible exact SameBut.refl _ _

theorem execLoopCtlFreeze_frame (l : BitVec 14) (s : State) :
    Frames [.ops] s (execLoopCtlFreeze l s) := by
  unfold execLoopCtlFreeze
  with_reducible refine Frames.next ?_
  with_reducible refine (State.loopOp_frame _ _ _).after (by decide) ?_
  with_reducible exact SameBut.refl _ _

theorem execLoopCtlOff_frame (l : BitVec 14) (s : State) :
    Frames [.ops] s (execLoopCtlOff l s) := by
  unfold execLoopCtlOff
  with_reducible refine Frames.next ?_
  with_reducible refine (State.loopOp_frame _ _ _).after (by decide) ?_
  with_reducible exact SameBut.refl _ _

theorem execLoopCtlRelease_frame (l : BitVec 14) (s : State) :
    Frames [.ops] s (execLoopCtlRelease l s) := by
  unfold execLoopCtlRelease
  with_reducible refine Frames.next ?_
  with_reducible refine (State.loopOp_frame _ _ _).after (by decide) ?_
  with_reducible exact SameBut.refl _ _

theorem execLoopCtlStart_frame (l : BitVec 14) (s : State) :
    Frames [.ops] s (execLoopCtlStart l s) := by
  unfold execLoopCtlStart
  with_reducible refine Frames.next ?_
  with_reducible refine (State.loopOp_frame _ _ _).after (by decide) ?_
  with_reducible exact SameBut.refl _ _

theorem execSetpointWrite_frame (l : BitVec 14) (v : BitVec 16) (s : State) :
    Frames [.loops] s (execSetpointWrite l v s) := by
  unfold execSetpointWrite
  with_reducible refine Frames.next ?_
  with_reducible refine (State.updLoop_frame _ _ _).after (by decide) ?_
  with_reducible exact SameBut.refl _ _

theorem execClrCount_frame (mask : BitVec 8) (s : State) :
    Frames [.ops] s (execClrCount mask s) := by
  unfold execClrCount
  extract_lets
  with_reducible refine Frames.next ?_
  with_reducible refine (SameBut.ops_frame _ _).after (by decide) ?_
  with_reducible exact SameBut.refl _ _

theorem execDescCancel_frame (s : State) :
    Frames [.ops] s (execDescCancel s) := by
  unfold execDescCancel
  extract_lets
  with_reducible refine Frames.next ?_
  with_reducible refine (SameBut.ops_frame _ _).after (by decide) ?_
  with_reducible exact SameBut.refl _ _

theorem execDescLoad_frame (s : State) :
    Frames [.ops] s (execDescLoad s) := by
  unfold execDescLoad
  extract_lets
  with_reducible refine Frames.next ?_
  with_reducible refine (SameBut.ops_frame _ _).after (by decide) ?_
  with_reducible exact SameBut.refl _ _

theorem execDescWrite_frame (s : State) :
    Frames [.ops] s (execDescWrite s) := by
  unfold execDescWrite
  extract_lets
  with_reducible refine Frames.next ?_
  with_reducible refine (SameBut.ops_frame _ _).after (by decide) ?_
  with_reducible exact SameBut.refl _ _

theorem execReleaseAll_frame (maxReason : BitVec 4) (s : State) :
    Frames [.ops] s (execReleaseAll maxReason s) := by
  unfold execReleaseAll
  extract_lets
  with_reducible refine Frames.next ?_
  with_reducible refine (SameBut.ops_frame _ _).after (by decide) ?_
  with_reducible exact SameBut.refl _ _

theorem execAcqTimeout_frame (l : BitVec 14) (s : State) :
    Frames [.att, .regs, .events, .loops] s (execAcqTimeout l s) := by
  unfold execAcqTimeout
  with_reducible refine Frames.next ?_
  with_reducible refine (State.freezeIf_frame _ _ _).after (by decide) ?_
  with_reducible exact SameBut.refl _ _

theorem execAcquisitionComplete_frame (l : BitVec 14) (s : State) :
    Frames [.loops] s (execAcquisitionComplete l s) := by
  unfold execAcquisitionComplete
  with_reducible refine Frames.ite ?_ ?_
  with_reducible refine Frames.next ?_
  with_reducible refine (State.leaveAcquire_frame _ _).after (by decide) ?_
  with_reducible exact SameBut.refl _ _
  with_reducible refine Frames.next ?_
  with_reducible exact SameBut.refl _ _

theorem execDatapathMismatch_frame (dp : BitVec 6) (s : State) :
    Frames [.eng] s (execDatapathMismatch dp s) := by
  unfold execDatapathMismatch
  extract_lets
  with_reducible refine Frames.ite ?_ ?_
  with_reducible refine Frames.next ?_
  with_reducible exact SameBut.refl _ _
  with_reducible refine Frames.next ?_
  with_reducible refine (SameBut.eng_frame _ _).after (by decide) ?_
  with_reducible exact SameBut.refl _ _

theorem execDescTakeEffect_frame (s : State) :
    Frames [.regs, .events, .loops, .eng] s (execDescTakeEffect s) := by
  unfold execDescTakeEffect
  with_reducible refine Frames.next ?_
  with_reducible refine SameBut.ite ?_ ?_
  with_reducible exact SameBut.refl _ _
  with_reducible refine (State.descTakeEffect_frame _).after (by decide) ?_
  with_reducible exact SameBut.refl _ _

theorem execHandOver_frame (l : BitVec 14) (s : State) :
    Frames [.loops] s (execHandOver l s) := by
  unfold execHandOver
  with_reducible refine Frames.ite ?_ ?_
  with_reducible refine Frames.next ?_
  with_reducible refine (State.updLoop_frame _ _ _).after (by decide) ?_
  with_reducible exact SameBut.refl _ _
  with_reducible refine Frames.next ?_
  with_reducible exact SameBut.refl _ _

theorem execImplausible_frame (l : BitVec 14) (s : State) :
    Frames [.att, .regs, .events, .loops] s (execImplausible l s) := by
  unfold execImplausible
  with_reducible refine Frames.next ?_
  with_reducible refine (State.freezeIf_frame _ _ _).after (by decide) ?_
  with_reducible exact SameBut.refl _ _

theorem execOverrunFreeze_frame (l : BitVec 14) (s : State) :
    Frames [.att, .regs, .events, .loops] s (execOverrunFreeze l s) := by
  unfold execOverrunFreeze
  with_reducible refine Frames.next ?_
  with_reducible refine (State.freezeIf_frame _ _ _).after (by decide) ?_
  with_reducible exact SameBut.refl _ _

theorem execPwmPeriod_frame (input : BitVec 3) (high period : BitVec 21) (s : State) :
    Frames [.eng] s (execPwmPeriod input high period s) := by
  unfold execPwmPeriod
  extract_lets
  with_reducible refine Frames.ite ?_ ?_
  with_reducible refine Frames.next ?_
  with_reducible refine (State.updSpIn_frame _ _ _).after (by decide) ?_
  with_reducible exact SameBut.refl _ _
  with_reducible refine Frames.next ?_
  with_reducible exact SameBut.refl _ _

theorem execPwmStale_frame (input : BitVec 3) (s : State) :
    Frames [.events, .eng] s (execPwmStale input s) := by
  unfold execPwmStale
  extract_lets
  with_reducible refine Frames.ite ?_ ?_
  with_reducible refine Frames.next ?_
  with_reducible refine (State.raise_frame _ _ _ _ _).after (by decide) ?_
  with_reducible refine (State.updSpIn_frame _ _ _).after (by decide) ?_
  with_reducible exact SameBut.refl _ _
  with_reducible refine Frames.next ?_
  with_reducible exact SameBut.refl _ _

theorem execSearch_frame (l : BitVec 14) (s : State) :
    Frames [.loops] s (execSearch l s) := by
  unfold execSearch
  with_reducible refine Frames.ite ?_ ?_
  with_reducible refine Frames.next ?_
  with_reducible refine (State.updLoop_frame _ _ _).after (by decide) ?_
  with_reducible exact SameBut.refl _ _
  with_reducible refine Frames.next ?_
  with_reducible exact SameBut.refl _ _

theorem execStateEcc_frame (loop : BitVec 14) (s : State) :
    Frames [.hrt, .pins, .att, .regs, .events, .loops, .porches, .twn, .free] s (execStateEcc loop s) := by
  unfold execStateEcc
  extract_lets
  with_reducible refine Frames.next ?_
  with_reducible refine SameBut.trans ?_ (State.verdict_frame _ _ _ _ (fun _ => ?_) (by decide))
  with_reducible refine (State.setField_frame _ _ _ _ _).after (by decide) ?_
  with_reducible refine (State.raise_frame _ _ _ _ _).after (by decide) ?_
  with_reducible exact SameBut.refl _ _
  with_reducible refine (State.record_frame _ _ _ _ _).after (by decide) ?_
  with_reducible refine (State.faultOn_frame _ _ _).after (by decide) ?_
  with_reducible refine (State.freezeLoop_frame _ _ _).after (by decide) ?_
  with_reducible exact SameBut.refl _ _

theorem execStepEdge_frame (input : BitVec 3) (up : Bool) (s : State) :
    Frames [.eng] s (execStepEdge input up s) := by
  unfold execStepEdge
  extract_lets
  with_reducible refine Frames.ite ?_ ?_
  with_reducible refine Frames.next ?_
  with_reducible refine (State.updSpIn_frame _ _ _).after (by decide) ?_
  with_reducible exact SameBut.refl _ _
  with_reducible refine Frames.next ?_
  with_reducible exact SameBut.refl _ _

theorem execWarmUpEnd_frame (l : BitVec 14) (s : State) :
    Frames [.loops] s (execWarmUpEnd l s) := by
  unfold execWarmUpEnd
  with_reducible refine Frames.ite ?_ ?_
  with_reducible refine Frames.next ?_
  with_reducible refine (State.updLoop_frame _ _ _).after (by decide) ?_
  with_reducible exact SameBut.refl _ _
  with_reducible refine Frames.next ?_
  with_reducible exact SameBut.refl _ _

end Sys2Proof.Machine
end

