-- ==== Sys2Proof/Laws/Frame/Shelves.lean ====
section
/-! SUPPORT. What the definitions of Machine/Shelves.lean change of the state: one frame for each. -/
namespace Sys2Proof.Machine

theorem State.rewind_frame (s : State) (n lo evt : Nat) :
    SameBut [.regs, .events, .shelves] s (State.rewind s n lo evt) := by
  unfold State.rewind
  extract_lets
  with_reducible refine (State.shelfEvt_frame _ _ _ _).after (by decide) ?_
  with_reducible refine (State.count_frame _ _ _ _ _).after (by decide) ?_
  with_reducible refine (State.updShelf_frame _ _ _).after (by decide) ?_
  with_reducible exact SameBut.refl _ _

theorem State.abortPacket_frame (s : State) (n : Nat) :
    SameBut [.regs, .events, .shelves] s (State.abortPacket s n) := by
  unfold State.abortPacket
  extract_lets
  with_reducible refine SameBut.ite ?_ ?_
  with_reducible refine SameBut.ite ?_ ?_
  with_reducible exact SameBut.refl _ _
  with_reducible refine (State.updShelf_frame _ _ _).after (by decide) ?_
  with_reducible exact SameBut.refl _ _
  with_reducible refine (State.rewind_frame _ _ _ _).after (by decide) ?_
  with_reducible refine SameBut.ite ?_ ?_
  with_reducible exact SameBut.refl _ _
  with_reducible refine (State.updShelf_frame _ _ _).after (by decide) ?_
  with_reducible exact SameBut.refl _ _

theorem State.swapShelf_frame (s : State) (n : Nat) :
    SameBut [.shelves] s (State.swapShelf s n) := by
  unfold State.swapShelf
  extract_lets
  with_reducible refine (State.updShelf_frame _ _ _).after (by decide) ?_
  with_reducible exact SameBut.refl _ _

theorem State.makeRoom_frame (s : State) (n : Nat) : ∀ t, s.makeRoom n = some t → SameBut [.shelves] s t := by
  intro t h
  unfold State.makeRoom at h
  split at h
  · cases h; exact SameBut.refl _ _
  · split at h
    · cases h; exact State.updShelf_frame _ _ _
    · split at h
      · cases h; exact State.swapShelf_frame _ _
      · cases h

theorem State.swapNow_frame (s : State) (n : Nat) :
    SameBut [.shelves] s (State.swapNow s n) := by
  unfold State.swapNow
  with_reducible refine SameBut.ite ?_ ?_
  with_reducible refine (State.swapShelf_frame _ _).after (by decide) ?_
  with_reducible exact SameBut.refl _ _
  with_reducible exact SameBut.refl _ _

theorem State.storeWord_frame (s : State) (n : Nat) (w : Word) :
    SameBut [.regs, .events, .shelves] s (State.storeWord s n w) := by
  unfold State.storeWord
  extract_lets
  with_reducible refine SameBut.ite ?_ ?_
  with_reducible refine (State.swapNow_frame _ _).after (by decide) ?_
  with_reducible refine (State.updShelf_frame _ _ _).after (by decide) ?_
  with_reducible exact SameBut.refl _ _
  with_reducible refine SameBut.ite ?_ ?_
  with_reducible refine (State.rewind_frame _ _ _ _).after (by decide) ?_
  with_reducible exact SameBut.refl _ _
  with_reducible refine (State.updShelf_frame _ _ _).after (by decide) ?_
  with_reducible exact SameBut.refl _ _

theorem State.tryWord_frame (s : State) (n : Nat) (w : Word) :
    ∀ t, s.tryWord n w = some t → SameBut [.regs, .events, .shelves] s t := by
  intro t h
  unfold State.tryWord at h
  split at h
  · cases h; exact (State.rewind_frame _ _ _ _).mono (by decide)
  · obtain ⟨u, hu, rfl⟩ := Option.map_eq_some_iff.1 h
    exact (State.storeWord_frame _ _ _).after (by decide) ((State.makeRoom_frame _ _ _ hu).mono (by decide))

theorem State.resumeShelf_frame (n fuel : Nat) (s : State) :
    SameBut [.regs, .events, .shelves] s (State.resumeShelf n fuel s) := by
  induction fuel generalizing s with
  | zero => exact SameBut.refl _ _
  | succ fuel ih =>
    unfold State.resumeShelf
    split
    · exact SameBut.refl _ _
    · split
      · rename_i t h
        exact ((State.updShelf_frame _ _ _).mono (by decide)).trans ((State.tryWord_frame _ _ _ _ h).trans (ih _))
      · exact SameBut.refl _ _

theorem State.resume_frame (s : State) (n : Nat) :
    SameBut [.regs, .events, .shelves] s (State.resume s n) := by
  unfold State.resume
  with_reducible refine (State.resumeShelf_frame _ _ _).after (by decide) ?_
  with_reducible exact SameBut.refl _ _

theorem State.releaseShelf_frame (s : State) (n : Nat) :
    SameBut [.regs, .events, .shelves] s (State.releaseShelf s n) := by
  unfold State.releaseShelf
  extract_lets
  with_reducible refine (State.resume_frame _ _).after (by decide) ?_
  with_reducible refine (State.swapNow_frame _ _).after (by decide) ?_
  with_reducible refine (State.updShelf_frame _ _ _).after (by decide) ?_
  with_reducible exact SameBut.refl _ _

theorem State.returnShelf_frame (s : State) (n : Nat) :
    SameBut [.shelves] s (State.returnShelf s n) := by
  unfold State.returnShelf
  with_reducible refine (State.updShelf_frame _ _ _).after (by decide) ?_
  with_reducible exact SameBut.refl _ _

theorem State.emptyShelf_frame (s : State) (n : Nat) :
    SameBut [.regs, .events, .shelves] s (State.emptyShelf s n) := by
  unfold State.emptyShelf
  with_reducible refine (State.updShelf_frame _ _ _).after (by decide) ?_
  with_reducible refine (State.abortPacket_frame _ _).after (by decide) ?_
  with_reducible exact SameBut.refl _ _

theorem State.shelfTick_frame (s : State) :
    SameBut [.regs, .events, .shelves] s (State.shelfTick s) := by
  unfold State.shelfTick
  extract_lets
  with_reducible refine SameBut.each (fun _ _ => ?_) ?_ _
  with_reducible refine (State.resume_frame _ _).after (by decide) ?_
  with_reducible refine (State.swapNow_frame _ _).after (by decide) ?_
  with_reducible exact SameBut.refl _ _
  with_reducible refine SameBut.each (fun _ _ => ?_) ?_ _
  with_reducible refine (State.emptyShelf_frame _ _).after (by decide) ?_
  with_reducible exact SameBut.refl _ _
  with_reducible exact SameBut.refl _ _

theorem State.badWord_frame (s : State) (n : Nat) :
    SameBut [.regs, .events, .shelves, .pantryRetired] s (State.badWord s n) := by
  unfold State.badWord
  extract_lets
  with_reducible refine (State.shelfEvt_frame _ _ _ _).after (by decide) ?_
  with_reducible refine (State.count_frame _ _ _ _ _).after (by decide) ?_
  with_reducible refine (SameBut.pantryRetired_frame _ _).after (by decide) ?_
  with_reducible refine SameBut.ite ?_ ?_
  with_reducible refine (State.updShelf_frame _ _ _).after (by decide) ?_
  with_reducible exact SameBut.refl _ _
  with_reducible exact SameBut.refl _ _

theorem State.noteWord_frame (s : State) (n : Nat) (x2 : WordCheck) :
    SameBut [.regs, .events, .shelves, .pantryRetired] s (State.noteWord s n x2) := by
  unfold State.noteWord
  split
  with_reducible exact SameBut.refl _ _
  with_reducible refine (State.count_frame _ _ _ _ _).after (by decide) ?_
  with_reducible exact SameBut.refl _ _
  with_reducible refine (State.badWord_frame _ _).after (by decide) ?_
  with_reducible exact SameBut.refl _ _

theorem State.checkReserved_frame (s : State) (n : Nat) (checks : List (Nat × WordCheck)) :
    SameBut [.regs, .events, .shelves, .pantryRetired] s (State.checkReserved s n checks) := by
  unfold State.checkReserved
  extract_lets
  with_reducible refine SameBut.foldl (fun _ _ => ?_) ?_ _
  with_reducible refine (State.noteWord_frame _ _ _).after (by decide) ?_
  with_reducible exact SameBut.refl _ _
  with_reducible refine (State.updShelf_frame _ _ _).after (by decide) ?_
  with_reducible exact SameBut.refl _ _

theorem State.reserveShelf_frame (s : State) (n len : Nat) :
    SameBut [.shelves] s (State.reserveShelf s n len) := by
  unfold State.reserveShelf
  with_reducible refine (State.updShelf_frame _ _ _).after (by decide) ?_
  with_reducible exact SameBut.refl _ _

theorem State.popWord_frame (s : State) (n : Nat) (check : WordCheck) :
    SameBut [.regs, .events, .shelves, .pantryRetired, .readData] s (State.popWord s n check) := by
  unfold State.popWord
  extract_lets
  split
  with_reducible refine (State.swapNow_frame _ _).after (by decide) ?_
  with_reducible refine (State.noteWord_frame _ _ _).after (by decide) ?_
  with_reducible refine (SameBut.readData_frame _ _).after (by decide) ?_
  with_reducible refine (State.updShelf_frame _ _ _).after (by decide) ?_
  with_reducible exact SameBut.refl _ _
  with_reducible refine (SameBut.readData_frame _ _).after (by decide) ?_
  with_reducible exact SameBut.refl _ _

theorem State.pushPacket_frame (s : State) (n : Nat) (ws : List Word) : SameBut [.regs, .events, .shelves] s (s.pushPacket n ws).1 := by
  induction ws generalizing s with
  | nil => exact SameBut.refl _ _
  | cons w ws ih =>
    unfold State.pushPacket
    split
    · rename_i t h
      refine SameBut.trans ?_ (ih _)
      refine (State.storeWord_frame _ _ _).after (by decide) ?_
      exact (State.makeRoom_frame _ _ _ h).mono (by decide)
    · exact (State.rewind_frame _ _ _ _).mono (by decide)

theorem State.pushWord_frame (s : State) (n : Nat) (w : Word) :
    SameBut [.regs, .events, .shelves] s (State.pushWord s n w) := by
  unfold State.pushWord
  with_reducible refine SameBut.ite ?_ ?_
  extract_lets
  split
  with_reducible refine (State.tryWord_frame _ _ _ _ (by assumption)).after (by decide) ?_
  with_reducible exact SameBut.refl _ _
  with_reducible refine SameBut.ite ?_ ?_
  with_reducible refine (State.rewind_frame _ _ _ _).after (by decide) ?_
  with_reducible exact SameBut.refl _ _
  with_reducible refine (State.shelfEvt_frame _ _ _ _).after (by decide) ?_
  with_reducible refine (State.updShelf_frame _ _ _).after (by decide) ?_
  with_reducible exact SameBut.refl _ _
  with_reducible refine (State.updShelf_frame _ _ _).after (by decide) ?_
  with_reducible exact SameBut.refl _ _

theorem execShelfPop_frame (seat : BitVec 3) (shelf : BitVec 10) (w : Width) (check : WordCheck) (s : State) :
    Frames [.regs, .events, .shelves, .pantryRetired, .readData] s (execShelfPop seat shelf w check s) := by
  unfold execShelfPop
  extract_lets
  with_reducible refine Frames.ite ?_ ?_
  with_reducible refine Frames.next ?_
  with_reducible refine (State.resume_frame _ _).after (by decide) ?_
  with_reducible refine (State.popWord_frame _ _ _).after (by decide) ?_
  with_reducible exact SameBut.refl _ _
  with_reducible refine Frames.next ?_
  with_reducible refine (SameBut.readData_frame _ _).after (by decide) ?_
  with_reducible exact SameBut.refl _ _

theorem execEmpty_frame (shelf : BitVec 10) (s : State) :
    Frames [.shelves] s (execEmpty shelf s) := by
  unfold execEmpty
  with_reducible refine Frames.ite ?_ ?_
  with_reducible refine Frames.next ?_
  with_reducible exact SameBut.refl _ _
  with_reducible refine Frames.next ?_
  with_reducible refine (State.updShelf_frame _ _ _).after (by decide) ?_
  with_reducible exact SameBut.refl _ _

theorem execFlush_frame (shelf : BitVec 10) (s : State) :
    Frames [.regs, .events, .shelves] s (execFlush shelf s) := by
  unfold execFlush
  with_reducible refine Frames.ite ?_ ?_
  with_reducible refine Frames.next ?_
  with_reducible exact SameBut.refl _ _
  with_reducible refine Frames.next ?_
  with_reducible refine (State.resume_frame _ _).after (by decide) ?_
  with_reducible refine (State.swapNow_frame _ _).after (by decide) ?_
  with_reducible refine (State.updShelf_frame _ _ _).after (by decide) ?_
  with_reducible exact SameBut.refl _ _

theorem execShelfSwap_frame (shelf : BitVec 10) (s : State) :
    Frames [.regs, .events, .shelves] s (execShelfSwap shelf s) := by
  unfold execShelfSwap
  with_reducible refine Frames.next ?_
  with_reducible refine (State.resume_frame _ _).after (by decide) ?_
  with_reducible refine (State.swapNow_frame _ _).after (by decide) ?_
  with_reducible exact SameBut.refl _ _

theorem execShelfWrite_frame (shelf : BitVec 10) (op : ShelfOp) (s : State) :
    Frames [.regs, .events, .shelves] s (execShelfWrite shelf op s) := by
  unfold execShelfWrite
  extract_lets
  with_reducible refine Frames.ite ?_ ?_
  with_reducible refine Frames.next ?_
  with_reducible exact SameBut.refl _ _
  extract_lets
  split
  with_reducible refine Frames.next ?_
  with_reducible refine (State.pushWord_frame _ _ _).after (by decide) ?_
  with_reducible exact SameBut.refl _ _
  with_reducible refine Frames.next ?_
  with_reducible refine (State.abortPacket_frame _ _).after (by decide) ?_
  with_reducible exact SameBut.refl _ _

theorem execStaleTimer_frame (shelf : BitVec 10) (s : State) :
    Frames [.regs, .events, .shelves] s (execStaleTimer shelf s) := by
  unfold execStaleTimer
  extract_lets
  with_reducible refine Frames.ite ?_ ?_
  with_reducible refine Frames.next ?_
  with_reducible refine (State.resume_frame _ _).after (by decide) ?_
  with_reducible refine (State.swapNow_frame _ _).after (by decide) ?_
  with_reducible refine (State.shelfEvt_frame _ _ _ _).after (by decide) ?_
  with_reducible refine (State.updShelf_frame _ _ _).after (by decide) ?_
  with_reducible exact SameBut.refl _ _
  with_reducible refine Frames.next ?_
  with_reducible exact SameBut.refl _ _

end Sys2Proof.Machine
end

