-- ==== Sys2Proof/Laws/Frame/Tiles.lean ====
section
/-! SUPPORT. What the definitions of Machine/Tiles.lean change of the state: one frame for each. -/
namespace Sys2Proof.Machine

theorem State.noteCopy_frame (s : State) (j : Nat) (b : Bank) :
    SameBut [.til] s (State.noteCopy s j b) := by
  unfold State.noteCopy
  with_reducible refine (State.updJob_frame _ _ _).after (by decide) ?_
  with_reducible exact SameBut.refl _ _

theorem State.endAt_frame (s : State) (r j : Nat) :
    SameBut [.til] s (State.endAt s r j) := by
  unfold State.endAt
  extract_lets
  with_reducible refine SameBut.ite ?_ ?_
  with_reducible exact SameBut.refl _ _
  with_reducible refine (State.updJob_frame _ _ _).after (by decide) ?_
  with_reducible exact SameBut.refl _ _

theorem State.giveWay_frame (s : State) (t : Nat) :
    SameBut [.til] s (State.giveWay s t) := by
  unfold State.giveWay
  extract_lets v1 v2
  with_reducible refine (State.updTile_frame _ _ _).after (by decide) ?_
  extract_lets
  dsimp only [v2]
  split
  with_reducible refine (State.noteCopy_frame _ _ _).after (by decide) ?_
  with_reducible exact SameBut.refl _ _
  with_reducible exact SameBut.refl _ _

theorem State.requestTile_frame (s : State) (t : Nat) :
    SameBut [.til] s (State.requestTile s t) := by
  unfold State.requestTile
  with_reducible refine SameBut.ite ?_ ?_
  with_reducible refine (State.giveWay_frame _ _).after (by decide) ?_
  with_reducible exact SameBut.refl _ _
  with_reducible refine (State.updTile_frame _ _ _).after (by decide) ?_
  with_reducible exact SameBut.refl _ _

theorem State.requestJob_frame (s : State) (j : Nat) :
    SameBut [.til] s (State.requestJob s j) := by
  unfold State.requestJob
  with_reducible refine SameBut.each (fun _ _ => ?_) ?_ _
  with_reducible refine (State.requestTile_frame _ _).after (by decide) ?_
  with_reducible exact SameBut.refl _ _
  with_reducible exact SameBut.refl _ _

theorem State.switchTo_frame (s : State) (t j : Nat) :
    SameBut [.til] s (State.switchTo s t j) := by
  unfold State.switchTo
  extract_lets
  with_reducible refine SameBut.ite ?_ ?_
  with_reducible refine (State.updTile_frame _ _ _).after (by decide) ?_
  with_reducible exact SameBut.refl _ _
  with_reducible refine (State.updTile_frame _ _ _).after (by decide) ?_
  with_reducible refine SameBut.ite ?_ ?_
  with_reducible refine (State.giveWay_frame _ _).after (by decide) ?_
  with_reducible exact SameBut.refl _ _
  with_reducible exact SameBut.refl _ _

theorem State.tileTick_frame (s : State) :
    SameBut [.events, .til] s (State.tileTick s) := by
  unfold State.tileTick
  extract_lets
  with_reducible refine (SameBut.til_frame _ _).after (by decide) ?_
  with_reducible refine SameBut.each (fun _ _ => ?_) ?_ _
  with_reducible refine (State.raise_frame _ _ _ _ _).after (by decide) ?_
  with_reducible exact SameBut.refl _ _
  with_reducible refine SameBut.each (fun _ _ => ?_) ?_ _
  with_reducible refine SameBut.each (fun _ _ => ?_) ?_ _
  with_reducible refine (State.endAt_frame _ _ _).after (by decide) ?_
  with_reducible exact SameBut.refl _ _
  with_reducible refine (State.raise_frame _ _ _ _ _).after (by decide) ?_
  with_reducible refine (State.updTile_frame _ _ _).after (by decide) ?_
  with_reducible exact SameBut.refl _ _
  with_reducible exact SameBut.refl _ _

theorem State.excuseLoops_frame (s : State) :
    SameBut [.loops] s (State.excuseLoops s) := by
  unfold State.excuseLoops
  with_reducible refine (SameBut.loops_frame _ _).after (by decide) ?_
  with_reducible exact SameBut.refl _ _

theorem State.loseTile_frame (s : State) (t : Nat) :
    SameBut [.loops, .plan, .til] s (State.loseTile s t) := by
  unfold State.loseTile
  extract_lets
  with_reducible refine SameBut.ite ?_ ?_
  with_reducible exact SameBut.refl _ _
  with_reducible refine SameBut.ite ?_ ?_
  with_reducible refine (SameBut.plan_frame _ _).after (by decide) ?_
  with_reducible refine (State.excuseLoops_frame _).after (by decide) ?_
  with_reducible refine (SameBut.plan_frame _ _).after (by decide) ?_
  with_reducible refine (State.updTile_frame _ _ _).after (by decide) ?_
  with_reducible exact SameBut.refl _ _
  with_reducible refine (SameBut.plan_frame _ _).after (by decide) ?_
  with_reducible refine (State.updTile_frame _ _ _).after (by decide) ?_
  with_reducible exact SameBut.refl _ _

theorem State.loseDie_frame (s : State) (d : Nat) :
    SameBut [.loops, .plan, .til] s (State.loseDie s d) := by
  unfold State.loseDie
  with_reducible refine SameBut.each (fun _ _ => ?_) ?_ _
  with_reducible refine (State.loseTile_frame _ _).after (by decide) ?_
  with_reducible exact SameBut.refl _ _
  with_reducible exact SameBut.refl _ _

theorem State.downHop_frame (s : State) (h : Nat) :
    SameBut [.events, .loops, .plan, .til] s (State.downHop s h) := by
  unfold State.downHop
  extract_lets
  with_reducible refine SameBut.ite ?_ ?_
  with_reducible exact SameBut.refl _ _
  with_reducible refine SameBut.each (fun _ _ => ?_) ?_ _
  with_reducible refine (State.loseDie_frame _ _).after (by decide) ?_
  with_reducible exact SameBut.refl _ _
  with_reducible refine (State.loseDie_frame _ _).after (by decide) ?_
  with_reducible refine (State.raise_frame _ _ _ _ _).after (by decide) ?_
  with_reducible refine (SameBut.til_frame _ _).after (by decide) ?_
  with_reducible exact SameBut.refl _ _

theorem State.tokenTile_frame (s : State) (missed : List Nat) (t : Nat) :
    SameBut [.loops, .plan, .til] s (State.tokenTile s missed t) := by
  unfold State.tokenTile
  extract_lets
  with_reducible refine SameBut.ite ?_ ?_
  with_reducible exact SameBut.refl _ _
  with_reducible refine SameBut.ite ?_ ?_
  with_reducible refine SameBut.ite ?_ ?_
  with_reducible refine (State.loseTile_frame _ _).after (by decide) ?_
  with_reducible refine (State.updTile_frame _ _ _).after (by decide) ?_
  with_reducible exact SameBut.refl _ _
  with_reducible refine (State.updTile_frame _ _ _).after (by decide) ?_
  with_reducible exact SameBut.refl _ _
  with_reducible refine SameBut.ite ?_ ?_
  with_reducible exact SameBut.refl _ _
  with_reducible refine (State.updTile_frame _ _ _).after (by decide) ?_
  with_reducible exact SameBut.refl _ _

theorem execContextSwitch_frame (tile : BitVec 7) (job : BitVec 8) (s : State) :
    Frames [.til] s (execContextSwitch tile job s) := by
  unfold execContextSwitch
  extract_lets
  with_reducible refine Frames.ite ?_ ?_
  with_reducible refine Frames.next ?_
  with_reducible refine (State.switchTo_frame _ _ _).after (by decide) ?_
  with_reducible exact SameBut.refl _ _
  with_reducible refine Frames.next ?_
  with_reducible exact SameBut.refl _ _

theorem execForcedPreemption_frame (tile : BitVec 7) (pc : BitVec 48) (s : State) :
    Frames [.att, .regs, .til] s (execForcedPreemption tile pc s) := by
  unfold execForcedPreemption
  extract_lets
  with_reducible refine Frames.ite ?_ ?_
  with_reducible refine Frames.next ?_
  with_reducible refine SameBut.ite ?_ ?_
  with_reducible refine (State.record_frame _ _ _ _ _).after (by decide) ?_
  with_reducible refine (State.count_frame _ _ _ _ _).after (by decide) ?_
  with_reducible refine (State.updTile_frame _ _ _).after (by decide) ?_
  with_reducible refine (State.giveWay_frame _ _).after (by decide) ?_
  with_reducible exact SameBut.refl _ _
  with_reducible refine (State.count_frame _ _ _ _ _).after (by decide) ?_
  with_reducible refine (State.updTile_frame _ _ _).after (by decide) ?_
  with_reducible refine (State.giveWay_frame _ _).after (by decide) ?_
  with_reducible exact SameBut.refl _ _
  with_reducible refine Frames.next ?_
  with_reducible exact SameBut.refl _ _

theorem execFrameProgramEnd_frame (tile : BitVec 7) (s : State) :
    Frames [.til] s (execFrameProgramEnd tile s) := by
  unfold execFrameProgramEnd
  extract_lets
  with_reducible refine Frames.ite ?_ ?_
  extract_lets
  split
  with_reducible refine Frames.next ?_
  with_reducible refine SameBut.ite ?_ ?_
  with_reducible refine (State.switchTo_frame _ _ _).after (by decide) ?_
  with_reducible refine (State.updTile_frame _ _ _).after (by decide) ?_
  with_reducible exact SameBut.refl _ _
  with_reducible refine (State.updTile_frame _ _ _).after (by decide) ?_
  with_reducible exact SameBut.refl _ _
  with_reducible refine Frames.next ?_
  with_reducible refine (State.updTile_frame _ _ _).after (by decide) ?_
  with_reducible exact SameBut.refl _ _
  with_reducible refine Frames.next ?_
  with_reducible exact SameBut.refl _ _

theorem execHopDown_frame (hop : Fin 5) (s : State) :
    Frames [.events, .loops, .plan, .til] s (execHopDown hop s) := by
  unfold execHopDown
  with_reducible refine Frames.next ?_
  with_reducible refine (State.downHop_frame _ _).after (by decide) ?_
  with_reducible exact SameBut.refl _ _

theorem execPartitionViolation_frame (tile : BitVec 7) (frameCritical : Bool) (s : State) :
    Frames [.loops, .plan, .til] s (execPartitionViolation tile frameCritical s) := by
  unfold execPartitionViolation
  extract_lets
  with_reducible refine Frames.ite ?_ ?_
  with_reducible refine Frames.next ?_
  with_reducible refine (State.loseTile_frame _ _).after (by decide) ?_
  with_reducible exact SameBut.refl _ _
  extract_lets
  split
  with_reducible refine Frames.next ?_
  with_reducible refine SameBut.ite ?_ ?_
  with_reducible refine (State.requestJob_frame _ _).after (by decide) ?_
  with_reducible refine (State.endAt_frame _ _ _).after (by decide) ?_
  with_reducible refine (State.giveWay_frame _ _).after (by decide) ?_
  with_reducible exact SameBut.refl _ _
  with_reducible exact SameBut.refl _ _
  with_reducible refine Frames.next ?_
  with_reducible exact SameBut.refl _ _

theorem execScratchUe_frame (tile : BitVec 7) (page : BitVec 10) (s : State) :
    Frames [.regs, .events, .loops, .plan, .til] s (execScratchUe tile page s) := by
  unfold execScratchUe
  extract_lets
  with_reducible refine Frames.ite ?_ ?_
  with_reducible refine Frames.next ?_
  with_reducible refine (State.loseTile_frame _ _).after (by decide) ?_
  with_reducible refine (State.raise_frame _ _ _ _ _).after (by decide) ?_
  with_reducible refine (State.setField_frame _ _ _ _ _).after (by decide) ?_
  with_reducible refine (State.count_frame _ _ _ _ _).after (by decide) ?_
  with_reducible exact SameBut.refl _ _
  extract_lets
  split
  with_reducible refine Frames.next ?_
  with_reducible refine (State.requestJob_frame _ _).after (by decide) ?_
  with_reducible refine (State.endAt_frame _ _ _).after (by decide) ?_
  with_reducible refine (State.updTile_frame _ _ _).after (by decide) ?_
  with_reducible refine (State.raise_frame _ _ _ _ _).after (by decide) ?_
  with_reducible refine (State.setField_frame _ _ _ _ _).after (by decide) ?_
  with_reducible refine (State.count_frame _ _ _ _ _).after (by decide) ?_
  with_reducible exact SameBut.refl _ _
  with_reducible refine Frames.next ?_
  with_reducible refine (State.updTile_frame _ _ _).after (by decide) ?_
  with_reducible refine (State.raise_frame _ _ _ _ _).after (by decide) ?_
  with_reducible refine (State.setField_frame _ _ _ _ _).after (by decide) ?_
  with_reducible refine (State.count_frame _ _ _ _ _).after (by decide) ?_
  with_reducible exact SameBut.refl _ _

theorem execYieldPoint_frame (tile : BitVec 7) (s : State) :
    Frames [.regs, .til] s (execYieldPoint tile s) := by
  unfold execYieldPoint
  extract_lets
  with_reducible refine Frames.ite ?_ ?_
  with_reducible refine Frames.next ?_
  with_reducible refine (State.count_frame _ _ _ _ _).after (by decide) ?_
  with_reducible refine (State.giveWay_frame _ _).after (by decide) ?_
  with_reducible exact SameBut.refl _ _
  with_reducible refine Frames.next ?_
  with_reducible exact SameBut.refl _ _

end Sys2Proof.Machine
end

