-- ==== Sys2Proof/Laws/Frame/Memory.lean ====
section
/-! SUPPORT. What the definitions of Machine/Memory.lean change of the state: one frame for each. -/
namespace Sys2Proof.Machine

theorem State.sparesLow_frame (s : State) (d before : Nat) :
    SameBut [.att, .events] s (State.sparesLow s d before) := by
  unfold State.sparesLow
  with_reducible refine SameBut.ite ?_ ?_
  with_reducible refine (State.record_frame _ _ _ _ _).after (by decide) ?_
  with_reducible refine (State.raise_frame _ _ _ _ _).after (by decide) ?_
  with_reducible exact SameBut.refl _ _
  with_reducible exact SameBut.refl _ _

theorem State.takeSpare_frame (s : State) (page : Nat) (spare : Option Nat) :
    SameBut [.mem] s (State.takeSpare s page spare) := by
  unfold State.takeSpare
  extract_lets
  split
  with_reducible refine (State.updDev_frame _ _ _).after (by decide) ?_
  with_reducible exact SameBut.refl _ _
  with_reducible refine (SameBut.mem_frame _ _).after (by decide) ?_
  with_reducible exact SameBut.refl _ _

theorem State.allotPages_frame (s : State) :
    SameBut [.att, .events, .mem] s (State.allotPages s) := by
  unfold State.allotPages
  extract_lets
  with_reducible refine SameBut.foldl (fun _ _ => ?_) ?_ _
  with_reducible refine (State.sparesLow_frame _ _ _).after (by decide) ?_
  with_reducible refine (State.takeSpare_frame _ _ _).after (by decide) ?_
  with_reducible exact SameBut.refl _ _
  with_reducible refine (SameBut.mem_frame _ _).after (by decide) ?_
  with_reducible exact SameBut.refl _ _

theorem State.runOnTile_frame (s : State) (t : Nat) :
    SameBut [.til] s (State.runOnTile s t) := by
  unfold State.runOnTile
  with_reducible refine (State.updTile_frame _ _ _).after (by decide) ?_
  with_reducible exact SameBut.refl _ _

theorem State.updBank_frame (s : State) (t : Nat) (owner : Option Nat) (f : Bank → Bank) :
    SameBut [.til] s (State.updBank s t owner f) := by
  unfold State.updBank
  with_reducible refine (State.updTile_frame _ _ _).after (by decide) ?_
  with_reducible exact SameBut.refl _ _

theorem State.advanceCopy_frame (s : State) (t q : Nat) (owner : Option Nat) (c : Copy) :
    SameBut [.regs, .events, .til, .shelves] s (State.advanceCopy s t q owner c) := by
  unfold State.advanceCopy
  extract_lets
  split
  with_reducible refine SameBut.ite ?_ ?_
  with_reducible refine (State.releaseShelf_frame _ _).after (by decide) ?_
  with_reducible refine (State.updBank_frame _ _ _ _).after (by decide) ?_
  with_reducible exact SameBut.refl _ _
  with_reducible refine (State.updBank_frame _ _ _ _).after (by decide) ?_
  with_reducible exact SameBut.refl _ _
  with_reducible refine SameBut.ite ?_ ?_
  with_reducible refine (State.runOnTile_frame _ _).after (by decide) ?_
  with_reducible refine SameBut.ite ?_ ?_
  with_reducible refine (State.releaseShelf_frame _ _).after (by decide) ?_
  with_reducible refine (State.updBank_frame _ _ _ _).after (by decide) ?_
  with_reducible exact SameBut.refl _ _
  with_reducible refine (State.updBank_frame _ _ _ _).after (by decide) ?_
  with_reducible exact SameBut.refl _ _
  extract_lets
  split
  with_reducible refine (State.noteCopy_frame _ _ _).after (by decide) ?_
  with_reducible refine SameBut.ite ?_ ?_
  with_reducible refine (State.releaseShelf_frame _ _).after (by decide) ?_
  with_reducible refine (State.updBank_frame _ _ _ _).after (by decide) ?_
  with_reducible exact SameBut.refl _ _
  with_reducible refine (State.updBank_frame _ _ _ _).after (by decide) ?_
  with_reducible exact SameBut.refl _ _
  with_reducible refine SameBut.ite ?_ ?_
  with_reducible refine (State.releaseShelf_frame _ _).after (by decide) ?_
  with_reducible refine (State.updBank_frame _ _ _ _).after (by decide) ?_
  with_reducible exact SameBut.refl _ _
  with_reducible refine (State.updBank_frame _ _ _ _).after (by decide) ?_
  with_reducible exact SameBut.refl _ _

theorem State.cellarTick_frame (s : State) :
    SameBut [.mem] s (State.cellarTick s) := by
  unfold State.cellarTick
  extract_lets
  with_reducible refine SameBut.ite ?_ ?_
  with_reducible refine (SameBut.mem_frame _ _).after (by decide) ?_
  with_reducible exact SameBut.refl _ _
  with_reducible exact SameBut.refl _ _

theorem State.reportFault_frame (s : State) (frame : Nat) (e : Nat × Nat × Nat × JobFault) :
    SameBut [.mem] s (State.reportFault s frame e) := by
  unfold State.reportFault
  extract_lets
  with_reducible refine (SameBut.mem_frame _ _).after (by decide) ?_
  with_reducible exact SameBut.refl _ _

theorem State.takeFault_frame (s : State) (cycles : Nat) (e : Nat × Nat × Nat × JobFault) :
    SameBut [.events, .til] s (State.takeFault s cycles e) := by
  unfold State.takeFault
  with_reducible refine SameBut.ite ?_ ?_
  with_reducible refine (State.raise_frame _ _ _ _ _).after (by decide) ?_
  with_reducible exact SameBut.refl _ _
  with_reducible refine SameBut.ite ?_ ?_
  with_reducible exact SameBut.refl _ _
  with_reducible refine SameBut.ite ?_ ?_
  with_reducible refine (State.updJob_frame _ _ _).after (by decide) ?_
  with_reducible refine (State.raise_frame _ _ _ _ _).after (by decide) ?_
  with_reducible refine (State.raise_frame _ _ _ _ _).after (by decide) ?_
  with_reducible exact SameBut.refl _ _
  with_reducible refine (State.endAt_frame _ _ _).after (by decide) ?_
  with_reducible refine (State.raise_frame _ _ _ _ _).after (by decide) ?_
  with_reducible exact SameBut.refl _ _

theorem State.faultTick_frame (s : State) (cycles : Nat) :
    SameBut [.events, .til, .mem] s (State.faultTick s cycles) := by
  unfold State.faultTick
  extract_lets
  split
  with_reducible refine SameBut.foldl (fun _ _ => ?_) ?_ _
  with_reducible refine (State.takeFault_frame _ _ _).after (by decide) ?_
  with_reducible exact SameBut.refl _ _
  with_reducible refine (SameBut.mem_frame _ _).after (by decide) ?_
  with_reducible refine (State.reportFault_frame _ _ _).after (by decide) ?_
  with_reducible exact SameBut.refl _ _
  with_reducible exact SameBut.refl _ _

theorem State.loseDevice_frame (s : State) (d : Nat) :
    SameBut [.att, .events, .til, .mem] s (State.loseDevice s d) := by
  unfold State.loseDevice
  extract_lets
  with_reducible refine SameBut.ite ?_ ?_
  with_reducible exact SameBut.refl _ _
  with_reducible refine SameBut.each (fun _ _ => ?_) ?_ _
  with_reducible refine (State.endAt_frame _ _ _).after (by decide) ?_
  with_reducible exact SameBut.refl _ _
  with_reducible refine (State.record_frame _ _ _ _ _).after (by decide) ?_
  with_reducible refine (SameBut.mem_frame _ _).after (by decide) ?_
  with_reducible refine (State.raise_frame _ _ _ _ _).after (by decide) ?_
  with_reducible refine (State.updDev_frame _ _ _).after (by decide) ?_
  with_reducible exact SameBut.refl _ _

theorem State.finishRetire_frame (s : State) (page cause : Nat) (spare : Option Nat) :
    SameBut [.att, .events, .mem] s (State.finishRetire s page cause spare) := by
  unfold State.finishRetire
  extract_lets
  with_reducible refine (State.sparesLow_frame _ _ _).after (by decide) ?_
  with_reducible refine (State.record_frame _ _ _ _ _).after (by decide) ?_
  with_reducible refine (State.raise_frame _ _ _ _ _).after (by decide) ?_
  with_reducible refine SameBut.ite ?_ ?_
  with_reducible refine (State.takeSpare_frame _ _ _).after (by decide) ?_
  with_reducible refine (SameBut.mem_frame _ _).after (by decide) ?_
  with_reducible exact SameBut.refl _ _
  with_reducible refine (SameBut.mem_frame _ _).after (by decide) ?_
  with_reducible refine (SameBut.mem_frame _ _).after (by decide) ?_
  with_reducible exact SameBut.refl _ _

theorem State.retireTick_frame (s : State) :
    SameBut [.att, .events, .mem] s (State.retireTick s) := by
  unfold State.retireTick
  with_reducible refine SameBut.foldl (fun _ _ => ?_) ?_ _
  with_reducible refine (State.finishRetire_frame _ _ _ _).after (by decide) ?_
  with_reducible exact SameBut.refl _ _
  with_reducible exact SameBut.refl _ _

theorem State.memTick_frame (s : State) (cycles : Nat) :
    SameBut [.att, .events, .til, .mem] s (State.memTick s cycles) := by
  unfold State.memTick
  extract_lets
  with_reducible refine SameBut.each (fun _ _ => ?_) ?_ _
  with_reducible refine (State.endAt_frame _ _ _).after (by decide) ?_
  with_reducible exact SameBut.refl _ _
  with_reducible refine (State.faultTick_frame _ _).after (by decide) ?_
  with_reducible refine (State.cellarTick_frame _).after (by decide) ?_
  with_reducible refine SameBut.each (fun _ _ => ?_) ?_ _
  with_reducible refine (State.loseDevice_frame _ _).after (by decide) ?_
  with_reducible exact SameBut.refl _ _
  with_reducible refine (State.retireTick_frame _).after (by decide) ?_
  with_reducible exact SameBut.refl _ _

theorem State.badLine_frame (s : State) (page : Nat) :
    SameBut [.regs, .mem] s (State.badLine s page) := by
  unfold State.badLine
  extract_lets
  with_reducible refine (State.updDev_frame _ _ _).after (by decide) ?_
  with_reducible refine (State.count_frame _ _ _ _ _).after (by decide) ?_
  with_reducible refine (State.count_frame _ _ _ _ _).after (by decide) ?_
  with_reducible exact SameBut.refl _ _

theorem State.checkBeat_frame (s : State) (t j : Nat) (c : Copy) (x4 : BeatOutcome) :
    SameBut [.regs, .events, .shelves, .pantryRetired] s (State.checkBeat s t j c x4) := by
  unfold State.checkBeat
  split
  split
  with_reducible refine (State.checkReserved_frame _ _ _).after (by decide) ?_
  with_reducible exact SameBut.refl _ _
  with_reducible exact SameBut.refl _ _
  with_reducible exact SameBut.refl _ _

theorem State.copyFault_frame (s : State) (t q j : Nat) (c : Copy) (beat : Option Nat) (f : CopyFault) (addr : Nat) :
    SameBut [.til, .mem] s (State.copyFault s t q j c beat f addr) := by
  unfold State.copyFault
  extract_lets v1 v2 v3 v4
  with_reducible refine SameBut.ite ?_ ?_
  with_reducible refine (SameBut.mem_frame _ _).after (by decide) ?_
  with_reducible exact SameBut.refl _ _
  with_reducible refine (State.requestJob_frame _ _).after (by decide) ?_
  extract_lets
  dsimp only [v4]
  split
  with_reducible refine (State.updBank_frame _ _ _ _).after (by decide) ?_
  with_reducible refine (SameBut.mem_frame _ _).after (by decide) ?_
  with_reducible exact SameBut.refl _ _
  with_reducible refine (SameBut.mem_frame _ _).after (by decide) ?_
  with_reducible exact SameBut.refl _ _

theorem State.retirePage_frame (s : State) (page cause : Nat) :
    SameBut [.att, .events, .mem] s (State.retirePage s page cause) := by
  unfold State.retirePage
  extract_lets
  with_reducible refine SameBut.ite ?_ ?_
  with_reducible exact SameBut.refl _ _
  extract_lets
  split
  with_reducible refine SameBut.ite ?_ ?_
  with_reducible refine (SameBut.mem_frame _ _).after (by decide) ?_
  with_reducible exact SameBut.refl _ _
  with_reducible refine (State.finishRetire_frame _ _ _ _).after (by decide) ?_
  with_reducible exact SameBut.refl _ _
  with_reducible refine (State.finishRetire_frame _ _ _ _).after (by decide) ?_
  with_reducible exact SameBut.refl _ _

theorem State.correctedLine_frame (s : State) (page cause : Nat) :
    SameBut [.att, .regs, .events, .mem] s (State.correctedLine s page cause) := by
  unfold State.correctedLine
  extract_lets
  with_reducible refine SameBut.ite ?_ ?_
  with_reducible refine (State.retirePage_frame _ _ _).after (by decide) ?_
  with_reducible refine (SameBut.mem_frame _ _).after (by decide) ?_
  with_reducible refine (State.count_frame _ _ _ _ _).after (by decide) ?_
  with_reducible refine (State.count_frame _ _ _ _ _).after (by decide) ?_
  with_reducible exact SameBut.refl _ _
  with_reducible refine (SameBut.mem_frame _ _).after (by decide) ?_
  with_reducible refine (State.count_frame _ _ _ _ _).after (by decide) ?_
  with_reducible refine (State.count_frame _ _ _ _ _).after (by decide) ?_
  with_reducible exact SameBut.refl _ _

theorem State.lineLost_frame (s : State) (page cause : Nat) :
    SameBut [.hrt, .pins, .att, .regs, .events, .loops, .porches, .twn, .mem, .free] s (State.lineLost s page cause) := by
  unfold State.lineLost
  extract_lets
  with_reducible refine SameBut.trans ?_ (State.verdict_frame _ _ _ _ (fun _ => ?_) (by decide))
  with_reducible refine (State.raise_frame _ _ _ _ _).after (by decide) ?_
  with_reducible refine (State.badLine_frame _ _).after (by decide) ?_
  with_reducible refine (State.badLine_frame _ _).after (by decide) ?_
  with_reducible exact SameBut.refl _ _
  with_reducible refine (State.retirePage_frame _ _ _).after (by decide) ?_
  with_reducible refine (State.retirePage_frame _ _ _).after (by decide) ?_
  with_reducible refine (State.record_frame _ _ _ _ _).after (by decide) ?_
  with_reducible refine (State.faultOn_frame _ _ _).after (by decide) ?_
  with_reducible exact SameBut.refl _ _

theorem State.oneCopy_frame (s : State) (page cause : Nat) (again : Bool) :
    SameBut [.att, .regs, .events, .mem] s (State.oneCopy s page cause again) := by
  unfold State.oneCopy
  extract_lets
  with_reducible refine SameBut.ite ?_ ?_
  with_reducible refine (State.retirePage_frame _ _ _).after (by decide) ?_
  with_reducible refine (State.count_frame _ _ _ _ _).after (by decide) ?_
  with_reducible refine (State.badLine_frame _ _).after (by decide) ?_
  with_reducible exact SameBut.refl _ _
  with_reducible refine (State.count_frame _ _ _ _ _).after (by decide) ?_
  with_reducible refine (State.badLine_frame _ _).after (by decide) ?_
  with_reducible exact SameBut.refl _ _

theorem State.lineError_frame (s : State) (o : BeatOutcome) :
    SameBut [.hrt, .pins, .att, .regs, .events, .loops, .porches, .twn, .mem, .free] s (s.lineError o).1 := by
  cases o with
  | corrected p =>
    dsimp only [State.lineError]
    with_reducible exact (State.correctedLine_frame _ _ _).mono (by decide)
  | unprotected p =>
    dsimp only [State.lineError]
    split
    · exact SameBut.refl _ _
    · dsimp only
      with_reducible exact (State.retirePage_frame _ _ _).after (by decide) ((State.badLine_frame _ _).mono (by decide))
  | oneCopy p again =>
    dsimp only [State.lineError]
    with_reducible exact (State.oneCopy_frame _ _ _ _).mono (by decide)
  | bothCopies p n =>
    dsimp only [State.lineError]
    with_reducible exact (State.freeTick_frame _).after (by decide) ((State.lineLost_frame _ _ _).mono (by decide))
  | _ => exact SameBut.refl _ _

theorem State.pushWords_frame (s : State) (n : Nat) (ws : List Word) :
    ∀ t, s.pushWords n ws = some t → SameBut [.regs, .events, .shelves] s t := by
  induction ws generalizing s with
  | nil => intro t h; cases h; exact SameBut.refl _ _
  | cons w ws ih =>
    intro t h
    unfold State.pushWords at h
    split at h
    · exact ((State.rewind_frame _ _ _ _).mono (by decide)).trans (ih _ _ h)
    · split at h
      · rename_i u k
        refine SameBut.trans ?_ (ih _ _ h)
        refine (State.storeWord_frame _ _ _).after (by decide) ?_
        exact (State.makeRoom_frame _ _ _ k).mono (by decide)
      · cases h

theorem State.writeScratch_frame (s : State) (t : Nat) (pages : List Nat) (o : Nat) (l : List Byte) :
    SameBut [.ram] s (State.writeScratch s t pages o l) := by
  unfold State.writeScratch
  with_reducible refine SameBut.foldl (fun _ _ => ?_) ?_ _
  extract_lets
  split
  with_reducible refine (State.writeByte_frame _ _ _).after (by decide) ?_
  with_reducible exact SameBut.refl _ _
  with_reducible exact SameBut.refl _ _
  with_reducible exact SameBut.refl _ _

theorem State.writeLoc_frame (s : State) (l : List Byte) (x : Loc) :
    ∀ t, s.writeLoc l x = some t → SameBut [.regs, .events, .plan, .shelves, .ram] s t := by
  intro t h
  unfold State.writeLoc at h
  split at h
  · cases h; exact (State.writeBytes_frame _ _ _).mono (by decide)
  · cases h; exact (State.writeScratch_frame _ _ _ _ _).mono (by decide)
  · cases h; exact (State.updTable_frame _ _ _).mono (by decide)
  · cases h; exact (State.hallWrite_frame _ _ _ _).mono (by decide)
  · cases h; exact SameBut.refl _ _
  · exact (State.pushWords_frame _ _ _ _ h).mono (by decide)

theorem State.faultBeat_frame (s : State) (t q j : Nat) (c : Copy) (b : Nat) (f : CopyFault) :
    SameBut [.til, .mem] s (State.faultBeat s t q j c b f) := by
  unfold State.faultBeat
  split
  · with_reducible exact (State.copyFault_frame _ _ _ _ _ _ _ _).after (by decide) (SameBut.refl _ _)
  · with_reducible exact SameBut.refl _ _

theorem State.moveBeat_frame (s : State) (t q j : Nat) (c : Copy) (b : Nat) (cellar : List Byte) (lost : Option Nat)
    (win : Nat × Nat × Bool) :
    SameBut [.regs, .events, .plan, .til, .mem, .shelves, .ram] s (State.moveBeat s t q j c b cellar lost win) := by
  unfold State.moveBeat
  extract_lets
  split
  split
  with_reducible refine (State.copyFault_frame _ _ _ _ _ _ _ _).after (by decide) ?_
  with_reducible exact SameBut.refl _ _
  with_reducible refine (State.copyFault_frame _ _ _ _ _ _ _ _).after (by decide) ?_
  with_reducible exact SameBut.refl _ _
  with_reducible refine (State.copyFault_frame _ _ _ _ _ _ _ _).after (by decide) ?_
  with_reducible exact SameBut.refl _ _
  with_reducible refine (State.copyFault_frame _ _ _ _ _ _ _ _).after (by decide) ?_
  with_reducible exact SameBut.refl _ _
  extract_lets w1
  split
  with_reducible refine SameBut.ite ?_ ?_
  extract_lets w1
  dsimp only [w1]
  split
  with_reducible refine (State.advanceCopy_frame _ _ _ _ _).after (by decide) ?_
  with_reducible refine (State.writeLoc_frame _ _ _ _ (by assumption)).after (by decide) ?_
  with_reducible exact SameBut.refl _ _
  with_reducible exact SameBut.refl _ _
  with_reducible refine (State.advanceCopy_frame _ _ _ _ _).after (by decide) ?_
  with_reducible refine (State.copyFault_frame _ _ _ _ _ _ _ _).after (by decide) ?_
  with_reducible exact SameBut.refl _ _
  with_reducible refine SameBut.ite ?_ ?_
  with_reducible refine (State.copyFault_frame _ _ _ _ _ _ _ _).after (by decide) ?_
  with_reducible exact SameBut.refl _ _
  with_reducible refine SameBut.ite ?_ ?_
  with_reducible exact SameBut.refl _ _
  extract_lets w1
  dsimp only [w1]
  split
  with_reducible refine (State.advanceCopy_frame _ _ _ _ _).after (by decide) ?_
  with_reducible refine (State.writeLoc_frame _ _ _ _ (by assumption)).after (by decide) ?_
  with_reducible exact SameBut.refl _ _
  with_reducible exact SameBut.refl _ _
  dsimp only [w1]
  split
  with_reducible refine (State.advanceCopy_frame _ _ _ _ _).after (by decide) ?_
  with_reducible refine (State.writeLoc_frame _ _ _ _ (by assumption)).after (by decide) ?_
  with_reducible exact SameBut.refl _ _
  with_reducible exact SameBut.refl _ _

theorem State.reserveCopy_frame (s : State) (t q j : Nat) (c : Copy) (n : Nat) :
    SameBut [.til, .shelves] s (s.reserveCopy t q j c n).1 := by
  unfold State.reserveCopy
  split
  · exact SameBut.refl _ _
  · extract_lets s1 c1
    exact (State.updBank_frame _ _ _ _).after (by decide) ((State.reserveShelf_frame _ _ _).mono (by decide))

theorem State.reserveFor_frame (s : State) (t q j : Nat) (c : Copy) :
    SameBut [.til, .shelves] s (s.reserveFor t q j c).1 := by
  unfold State.reserveFor
  split
  · exact State.reserveCopy_frame _ _ _ _ _ _
  · exact SameBut.refl _ _

theorem State.bulkBeat_frame (s : State) (t q j : Nat) (c : Copy) (b : Nat) (out : BeatOutcome) :
    SameBut [.hrt, .pins, .att, .regs, .events, .loops, .plan, .porches, .twn, .til, .mem, .shelves, .pantryRetired, .ram, .free] s
      (s.bulkBeat t q j c b out) := by
  have hp := State.reserveFor_frame s t q j c
  unfold State.bulkBeat
  revert hp
  generalize s.reserveFor t q j c = p
  intro hp
  obtain ⟨s1, c1⟩ := p
  have hm : SameBut [.hrt, .pins, .att, .regs, .events, .loops, .plan, .porches, .twn, .til, .mem, .shelves, .pantryRetired, .ram, .free] s s1 :=
    hp.mono (by decide)
  dsimp only
  refine SameBut.ite (SameBut.ite ((State.advanceCopy_frame _ _ _ _ _).after (by decide) hm) hm) ?_
  have h2 : SameBut [.hrt, .pins, .att, .regs, .events, .loops, .plan, .porches, .twn, .til, .mem, .shelves, .pantryRetired, .ram, .free] s (s1.checkBeat t j c1 (s1.lineOutcome out)) := (State.checkBeat_frame _ _ _ _ _).after (by decide) hm
  have hl := State.lineError_frame (s1.checkBeat t j c1 (s1.lineOutcome out)) (s1.lineOutcome out)
  revert hl
  generalize (s1.checkBeat t j c1 (s1.lineOutcome out)).lineError (s1.lineOutcome out) = r
  intro hl
  obtain ⟨s3, f, lost⟩ := r
  have hn : SameBut [.hrt, .pins, .att, .regs, .events, .loops, .plan, .porches, .twn, .til, .mem, .shelves, .pantryRetired, .ram, .free] s s3 :=
    hl.after (by decide) h2
  cases f with
  | none => exact (State.moveBeat_frame _ _ _ _ _ _ _ _ _).after (by decide) hn
  | some f => exact (State.faultBeat_frame _ _ _ _ _ _ _).after (by decide) hn

theorem State.frameBeat_frame (s : State) (t q : Nat) (c : Copy) (b : Nat) (out : BeatOutcome) :
    SameBut [.hrt, .pins, .att, .regs, .events, .loops, .plan, .porches, .twn, .til, .mem, .shelves, .ram, .free] s (s.frameBeat t q c b out) := by
  unfold State.frameBeat
  refine SameBut.ite (SameBut.refl _ _) ?_
  have hl := State.lineError_frame s (s.lineOutcome out)
  revert hl
  generalize s.lineError (s.lineOutcome out) = r
  intro hl
  obtain ⟨s1, f, lost⟩ := r
  have hn : SameBut [.hrt, .pins, .att, .regs, .events, .loops, .plan, .porches, .twn, .til, .mem, .shelves, .ram, .free] s s1 := hl.mono (by decide)
  have hf : ∀ (e : CopyFault) (a : Nat), SameBut [.hrt, .pins, .att, .regs, .events, .loops, .plan, .porches, .twn, .til, .mem, .shelves, .ram, .free] s (if e = .protection ∧ a < 0x400000 then s1.loseTile t else s1) :=
    fun e a => SameBut.ite ((State.loseTile_frame _ _).after (by decide) hn) hn
  dsimp only
  split
  · exact hf _ _
  · exact hf _ _
  · exact hf _ _
  · exact hf _ _
  · split
    · rename_i u h
      exact (State.advanceCopy_frame _ _ _ _ _).after (by decide) ((State.writeLoc_frame _ _ _ _ h).after (by decide) hn)
    · exact hn

theorem State.loadBeat_frame (s : State) (id b : Nat) (bytes : List Byte) (failed : Bool) :
    SameBut [.plan] s (State.loadBeat s id b bytes failed) := by
  unfold State.loadBeat
  extract_lets
  with_reducible refine SameBut.ite ?_ ?_
  with_reducible exact SameBut.refl _ _
  with_reducible refine (SameBut.plan_frame _ _).after (by decide) ?_
  with_reducible exact SameBut.refl _ _

theorem State.scrubBad_frame (s : State) (p : Nat) (again : Bool) :
    SameBut [.att, .regs, .events, .mem] s (State.scrubBad s p again) := by
  unfold State.scrubBad
  with_reducible refine SameBut.ite ?_ ?_
  with_reducible refine (State.oneCopy_frame _ _ _ _).after (by decide) ?_
  with_reducible exact SameBut.refl _ _
  with_reducible refine (State.retirePage_frame _ _ _).after (by decide) ?_
  with_reducible refine (State.badLine_frame _ _).after (by decide) ?_
  with_reducible exact SameBut.refl _ _

theorem State.scrubFinds_frame (s : State) (p : Nat) (x2 : ScrubResult) :
    SameBut [.hrt, .pins, .att, .regs, .events, .loops, .porches, .twn, .mem, .free] s (State.scrubFinds s p x2) := by
  unfold State.scrubFinds
  split
  with_reducible exact SameBut.refl _ _
  with_reducible refine (State.correctedLine_frame _ _ _).after (by decide) ?_
  with_reducible exact SameBut.refl _ _
  with_reducible refine (State.scrubBad_frame _ _ _).after (by decide) ?_
  with_reducible exact SameBut.refl _ _
  with_reducible refine SameBut.ite ?_ ?_
  with_reducible refine (State.lineLost_frame _ _ _).after (by decide) ?_
  with_reducible exact SameBut.refl _ _
  with_reducible refine (State.scrubBad_frame _ _ _).after (by decide) ?_
  with_reducible exact SameBut.refl _ _
  split
  with_reducible exact SameBut.refl _ _
  with_reducible refine (State.correctedLine_frame _ _ _).after (by decide) ?_
  with_reducible exact SameBut.refl _ _
  with_reducible refine (State.scrubBad_frame _ _ _).after (by decide) ?_
  with_reducible exact SameBut.refl _ _

theorem execCellarApply_frame (s : State) :
    Frames [.mem] s (execCellarApply s) := by
  unfold execCellarApply
  extract_lets
  with_reducible refine Frames.next ?_
  with_reducible refine (SameBut.mem_frame _ _).after (by decide) ?_
  with_reducible exact SameBut.refl _ _

theorem execBeatComplete_frame (tile : BitVec 7) (queue : BitVec 2) (beat : Option (BitVec 8) × Nat) (out : BeatOutcome) (s : State) :
    Frames [.hrt, .pins, .att, .regs, .events, .loops, .plan, .porches, .twn, .til, .mem, .shelves, .pantryRetired, .ram, .free] s (execBeatComplete tile queue beat out s) := by
  unfold execBeatComplete
  extract_lets
  split
  with_reducible refine Frames.next ?_
  with_reducible refine (State.loadBeat_frame _ _ _ _ _).after (by decide) ?_
  with_reducible exact SameBut.refl _ _
  with_reducible refine Frames.next ?_
  with_reducible refine (State.raise_frame _ _ _ _ _).after (by decide) ?_
  with_reducible refine (State.loadBeat_frame _ _ _ _ _).after (by decide) ?_
  with_reducible exact SameBut.refl _ _
  with_reducible refine Frames.ite ?_ ?_
  with_reducible refine Frames.next ?_
  with_reducible exact SameBut.refl _ _
  extract_lets
  split
  split
  with_reducible refine Frames.next ?_
  with_reducible refine (State.frameBeat_frame _ _ _ _ _ _).after (by decide) ?_
  with_reducible exact SameBut.refl _ _
  with_reducible refine Frames.next ?_
  with_reducible exact SameBut.refl _ _
  split
  split
  with_reducible refine Frames.next ?_
  with_reducible refine (State.bulkBeat_frame _ _ _ _ _ _ _).after (by decide) ?_
  with_reducible exact SameBut.refl _ _
  with_reducible refine Frames.next ?_
  with_reducible exact SameBut.refl _ _
  with_reducible refine Frames.next ?_
  with_reducible exact SameBut.refl _ _

theorem execCellarTimeout_frame (tile : BitVec 7) (queue : BitVec 2) (beat : BitVec 8 × Nat) (s : State) :
    Frames [.til, .mem] s (execCellarTimeout tile queue beat s) := by
  unfold execCellarTimeout
  extract_lets
  split
  split
  with_reducible refine Frames.next ?_
  with_reducible refine SameBut.ite ?_ ?_
  with_reducible exact SameBut.refl _ _
  with_reducible refine (State.faultBeat_frame _ _ _ _ _ _ _).after (by decide) ?_
  with_reducible exact SameBut.refl _ _
  with_reducible refine Frames.next ?_
  with_reducible exact SameBut.refl _ _
  with_reducible refine Frames.next ?_
  with_reducible exact SameBut.refl _ _

theorem execChannelRetraining_frame (dev : Fin 16) (success : Bool) (s : State) :
    Frames [.mem] s (execChannelRetraining dev success s) := by
  unfold execChannelRetraining
  extract_lets
  with_reducible refine Frames.ite ?_ ?_
  with_reducible refine Frames.next ?_
  with_reducible exact SameBut.refl _ _
  with_reducible refine Frames.next ?_
  with_reducible refine (State.updDev_frame _ _ _).after (by decide) ?_
  with_reducible exact SameBut.refl _ _

theorem execCopyFence_frame (tile : BitVec 7) (queues : BitVec 4) (s : State) :
    Frames [.til] s (execCopyFence tile queues s) := by
  unfold execCopyFence
  extract_lets
  with_reducible refine Frames.ite ?_ ?_
  extract_lets
  split
  with_reducible refine Frames.next ?_
  with_reducible refine SameBut.ite ?_ ?_
  with_reducible refine (State.giveWay_frame _ _).after (by decide) ?_
  with_reducible refine (State.updTile_frame _ _ _).after (by decide) ?_
  with_reducible exact SameBut.refl _ _
  with_reducible refine (State.updTile_frame _ _ _).after (by decide) ?_
  with_reducible refine (State.noteCopy_frame _ _ _).after (by decide) ?_
  with_reducible refine (State.updTile_frame _ _ _).after (by decide) ?_
  with_reducible exact SameBut.refl _ _
  with_reducible refine Frames.next ?_
  with_reducible exact SameBut.refl _ _
  with_reducible refine Frames.ite ?_ ?_
  with_reducible refine Frames.next ?_
  with_reducible refine (State.updTile_frame _ _ _).after (by decide) ?_
  with_reducible exact SameBut.refl _ _
  with_reducible refine Frames.next ?_
  with_reducible exact SameBut.refl _ _

theorem execCopyIssue_frame (tile : BitVec 7) (queue : BitVec 2) (d : CopyDesc) (s : State) :
    Frames [.til, .mem] s (execCopyIssue tile queue d s) := by
  unfold execCopyIssue
  extract_lets
  with_reducible refine Frames.ite ?_ ?_
  with_reducible refine Frames.next ?_
  with_reducible exact SameBut.refl _ _
  with_reducible refine Frames.ite ?_ ?_
  with_reducible refine Frames.ite ?_ ?_
  with_reducible refine Frames.next ?_
  with_reducible refine (State.updBank_frame _ _ _ _).after (by decide) ?_
  with_reducible exact SameBut.refl _ _
  with_reducible refine Frames.next ?_
  with_reducible exact SameBut.refl _ _
  extract_lets
  split
  with_reducible refine Frames.ite ?_ ?_
  with_reducible refine Frames.next ?_
  with_reducible exact SameBut.refl _ _
  with_reducible refine Frames.ite ?_ ?_
  with_reducible refine Frames.next ?_
  with_reducible refine (State.copyFault_frame _ _ _ _ _ _ _ _).after (by decide) ?_
  with_reducible exact SameBut.refl _ _
  with_reducible refine Frames.next ?_
  with_reducible refine (State.updBank_frame _ _ _ _).after (by decide) ?_
  with_reducible exact SameBut.refl _ _
  with_reducible refine Frames.next ?_
  with_reducible exact SameBut.refl _ _

theorem execFaultLimit_frame (job : BitVec 8) (s : State) :
    Frames [.til] s (execFaultLimit job s) := by
  unfold execFaultLimit
  extract_lets
  with_reducible refine Frames.ite ?_ ?_
  with_reducible refine Frames.next ?_
  with_reducible refine (State.endAt_frame _ _ _).after (by decide) ?_
  with_reducible exact SameBut.refl _ _
  with_reducible refine Frames.next ?_
  with_reducible exact SameBut.refl _ _

theorem execFaultRetry_frame (job : BitVec 8) (completes : Bool) (s : State) :
    Frames [.til] s (execFaultRetry job completes s) := by
  unfold execFaultRetry
  extract_lets
  split
  with_reducible refine Frames.ite ?_ ?_
  with_reducible refine Frames.next ?_
  with_reducible refine (State.updJob_frame _ _ _).after (by decide) ?_
  with_reducible exact SameBut.refl _ _
  with_reducible refine Frames.next ?_
  with_reducible exact SameBut.refl _ _
  with_reducible refine Frames.next ?_
  with_reducible exact SameBut.refl _ _

theorem execGddr7DeviceLost_frame (dev : Fin 16) (s : State) :
    Frames [.att, .events, .til, .mem] s (execGddr7DeviceLost dev s) := by
  unfold execGddr7DeviceLost
  with_reducible refine Frames.next ?_
  with_reducible refine (State.loseDevice_frame _ _).after (by decide) ?_
  with_reducible exact SameBut.refl _ _

theorem execPageZeroed_frame (job : BitVec 8) (pages : BitVec 24) (s : State) :
    Frames [.mem] s (execPageZeroed job pages s) := by
  unfold execPageZeroed
  extract_lets
  with_reducible refine Frames.next ?_
  with_reducible refine (SameBut.mem_frame _ _).after (by decide) ?_
  with_reducible exact SameBut.refl _ _

theorem execPatrolScrub_frame (page : BitVec 24) (r : ScrubResult) (s : State) :
    Frames [.hrt, .pins, .att, .regs, .events, .loops, .porches, .twn, .mem, .free] s (execPatrolScrub page r s) := by
  unfold execPatrolScrub
  extract_lets
  with_reducible refine Frames.ite ?_ ?_
  with_reducible refine Frames.next ?_
  with_reducible exact SameBut.refl _ _
  with_reducible refine Frames.next ?_
  with_reducible refine (State.scrubFinds_frame _ _ _).after (by decide) ?_
  with_reducible refine (State.updDev_frame _ _ _).after (by decide) ?_
  with_reducible exact SameBut.refl _ _

theorem execRetireSwitch_frame (page : BitVec 24) (s : State) :
    Frames [.mem] s (execRetireSwitch page s) := by
  unfold execRetireSwitch
  extract_lets
  with_reducible refine Frames.next ?_
  with_reducible refine (SameBut.mem_frame _ _).after (by decide) ?_
  with_reducible exact SameBut.refl _ _

end Sys2Proof.Machine
end

