-- ==== Sys2Proof/Laws/Frame/Jobs.lean ====
section
/-! SUPPORT. What the definitions of Machine/Jobs.lean change of the state: one frame for each. -/
namespace Sys2Proof.Machine

theorem State.placeJob_frame (s : State) (j pages : Nat) (l : List Nat) :
    SameBut [.til] s (State.placeJob s j pages l) := by
  unfold State.placeJob
  with_reducible refine SameBut.each (fun _ _ => ?_) ?_ _
  with_reducible refine (State.updTile_frame _ _ _).after (by decide) ?_
  with_reducible exact SameBut.refl _ _
  with_reducible exact SameBut.refl _ _

theorem State.jobNotice_frame (s : State) (j : Nat) :
    SameBut [.events] s (State.jobNotice s j) := by
  unfold State.jobNotice
  extract_lets
  with_reducible refine (State.raiseRecord_frame _ _ _ _ _).after (by decide) ?_
  with_reducible exact SameBut.refl _ _

theorem State.setJob_frame (s : State) (j : Nat) (st : JobState) :
    SameBut [.events, .til] s (State.setJob s j st) := by
  unfold State.setJob
  with_reducible refine SameBut.ite ?_ ?_
  with_reducible exact SameBut.refl _ _
  with_reducible refine (State.jobNotice_frame _ _).after (by decide) ?_
  with_reducible refine (State.updJob_frame _ _ _).after (by decide) ?_
  with_reducible exact SameBut.refl _ _

theorem State.admitJob_frame (s : State) (j seat : Nat) (r : JobRec) (held resident : Bool) :
    SameBut [.att, .events, .til, .mem] s (State.admitJob s j seat r held resident) := by
  unfold State.admitJob
  extract_lets
  with_reducible refine (State.setJob_frame _ _ _).after (by decide) ?_
  with_reducible refine (State.placeJob_frame _ _ _ _).after (by decide) ?_
  with_reducible refine (State.updJob_frame _ _ _).after (by decide) ?_
  with_reducible refine (State.allotPages_frame _).after (by decide) ?_
  with_reducible exact SameBut.refl _ _

theorem State.settle_frame (s : State) (o : TakenOrder) (result obj : Nat) :
    SameBut [.taken] s (State.settle s o result obj) := by
  unfold State.settle
  with_reducible refine (SameBut.taken_frame _ _).after (by decide) ?_
  with_reducible exact SameBut.refl _ _

theorem State.freeClaims_frame (s : State) (j : Nat) :
    SameBut [.plan] s (State.freeClaims s j) := by
  unfold State.freeClaims
  extract_lets
  with_reducible refine (SameBut.plan_frame _ _).after (by decide) ?_
  with_reducible exact SameBut.refl _ _

theorem State.freeMemory_frame (s : State) (j : Nat) (again : Bool) :
    SameBut [.mem, .ram] s (State.freeMemory s j again) := by
  unfold State.freeMemory
  extract_lets
  with_reducible refine (SameBut.mem_frame _ _).after (by decide) ?_
  with_reducible refine SameBut.ite ?_ ?_
  with_reducible refine (State.zeroBytes_frame _ _ _).after (by decide) ?_
  with_reducible exact SameBut.refl _ _
  with_reducible refine (State.zeroBytes_frame _ _ _).after (by decide) ?_
  with_reducible exact SameBut.refl _ _

theorem State.freeShelves_frame (s : State) (j : Nat) :
    SameBut [.regs, .events, .shelves] s (State.freeShelves s j) := by
  unfold State.freeShelves
  with_reducible refine SameBut.each (fun _ _ => ?_) ?_ _
  with_reducible refine SameBut.ite ?_ ?_
  with_reducible refine (State.returnShelf_frame _ _).after (by decide) ?_
  with_reducible refine SameBut.ite ?_ ?_
  with_reducible refine (State.abortPacket_frame _ _).after (by decide) ?_
  with_reducible exact SameBut.refl _ _
  with_reducible exact SameBut.refl _ _
  with_reducible refine SameBut.ite ?_ ?_
  with_reducible refine (State.abortPacket_frame _ _).after (by decide) ?_
  with_reducible exact SameBut.refl _ _
  with_reducible exact SameBut.refl _ _
  with_reducible exact SameBut.refl _ _

theorem State.endJob_frame (s : State) (r j : Nat) :
    SameBut [.regs, .events, .plan, .est, .til, .mem, .shelves, .ram] s (State.endJob s r j) := by
  unfold State.endJob
  extract_lets
  with_reducible refine SameBut.ite ?_ ?_
  with_reducible refine (State.raise_frame _ _ _ _ _).after (by decide) ?_
  with_reducible refine (State.raise_frame _ _ _ _ _).after (by decide) ?_
  with_reducible refine (State.setJob_frame _ _ _).after (by decide) ?_
  with_reducible refine (State.updJob_frame _ _ _).after (by decide) ?_
  with_reducible refine (SameBut.est_frame _ _).after (by decide) ?_
  with_reducible refine (State.freeMemory_frame _ _ _).after (by decide) ?_
  with_reducible refine (State.freeShelves_frame _ _).after (by decide) ?_
  with_reducible refine (State.freeClaims_frame _ _).after (by decide) ?_
  with_reducible refine (SameBut.til_frame _ _).after (by decide) ?_
  with_reducible exact SameBut.refl _ _
  with_reducible refine (State.raise_frame _ _ _ _ _).after (by decide) ?_
  with_reducible refine (State.setJob_frame _ _ _).after (by decide) ?_
  with_reducible refine (State.updJob_frame _ _ _).after (by decide) ?_
  with_reducible refine (SameBut.est_frame _ _).after (by decide) ?_
  with_reducible refine (State.freeMemory_frame _ _ _).after (by decide) ?_
  with_reducible refine (State.freeShelves_frame _ _).after (by decide) ?_
  with_reducible refine (State.freeClaims_frame _ _).after (by decide) ?_
  with_reducible refine (SameBut.til_frame _ _).after (by decide) ?_
  with_reducible exact SameBut.refl _ _

theorem State.endNow_frame (s : State) (r j : Nat) :
    SameBut [.regs, .events, .plan, .est, .til, .mem, .shelves, .ram] s (State.endNow s r j) := by
  unfold State.endNow
  with_reducible refine (State.endJob_frame _ _ _).after (by decide) ?_
  with_reducible exact SameBut.refl _ _

theorem State.storePages_frame (s : State) (j t : Nat) (back : Bool) :
    SameBut [.ram] s (State.storePages s j t back) := by
  unfold State.storePages
  with_reducible refine SameBut.foldl (fun _ _ => ?_) ?_ _
  with_reducible refine SameBut.ite ?_ ?_
  with_reducible refine (State.copyRange_frame _ _ _ _).after (by decide) ?_
  with_reducible exact SameBut.refl _ _
  with_reducible refine (State.copyRange_frame _ _ _ _).after (by decide) ?_
  with_reducible exact SameBut.refl _ _
  with_reducible exact SameBut.refl _ _

theorem State.evictJob_frame (s : State) (j : Nat) :
    SameBut [.til, .ram] s (State.evictJob s j) := by
  unfold State.evictJob
  extract_lets
  with_reducible refine (State.updJob_frame _ _ _).after (by decide) ?_
  with_reducible refine SameBut.each (fun _ _ => ?_) ?_ _
  with_reducible refine SameBut.ite ?_ ?_
  with_reducible refine SameBut.ite ?_ ?_
  with_reducible refine (State.updTile_frame _ _ _).after (by decide) ?_
  with_reducible refine (State.giveWay_frame _ _).after (by decide) ?_
  with_reducible exact SameBut.refl _ _
  with_reducible exact SameBut.refl _ _
  with_reducible refine (State.storePages_frame _ _ _ _).after (by decide) ?_
  with_reducible refine SameBut.ite ?_ ?_
  with_reducible refine (State.updTile_frame _ _ _).after (by decide) ?_
  with_reducible refine (State.giveWay_frame _ _).after (by decide) ?_
  with_reducible exact SameBut.refl _ _
  with_reducible exact SameBut.refl _ _
  with_reducible exact SameBut.refl _ _

theorem State.restartJob_frame (s : State) (j : Nat) :
    SameBut [.att, .events, .til, .mem, .ram] s (State.restartJob s j) := by
  unfold State.restartJob
  extract_lets
  split
  extract_lets
  split
  with_reducible refine (State.zeroBytes_frame _ _ _).after (by decide) ?_
  with_reducible refine (State.copyRange_frame _ _ _ _).after (by decide) ?_
  with_reducible refine (State.admitJob_frame _ _ _ _ _ _).after (by decide) ?_
  with_reducible refine (State.updJob_frame _ _ _).after (by decide) ?_
  with_reducible exact SameBut.refl _ _
  with_reducible refine (State.raise_frame _ _ _ _ _).after (by decide) ?_
  with_reducible refine (State.jobNotice_frame _ _).after (by decide) ?_
  with_reducible refine (State.updJob_frame _ _ _).after (by decide) ?_
  with_reducible refine (State.updJob_frame _ _ _).after (by decide) ?_
  with_reducible exact SameBut.refl _ _
  with_reducible exact SameBut.refl _ _

theorem State.retryRefused_frame (s : State) :
    SameBut [.att, .events, .til, .mem, .ram] s (State.retryRefused s) := by
  unfold State.retryRefused
  with_reducible refine SameBut.each (fun _ _ => ?_) ?_ _
  with_reducible refine (State.restartJob_frame _ _).after (by decide) ?_
  with_reducible exact SameBut.refl _ _
  with_reducible exact SameBut.refl _ _

theorem State.takeSlot_frame (s : State) (i n : Nat) :
    SameBut [.taken, .regs, .ram] s (State.takeSlot s i n) := by
  unfold State.takeSlot
  extract_lets
  with_reducible refine (SameBut.taken_frame _ _).after (by decide) ?_
  with_reducible refine (State.count_frame _ _ _ _ _).after (by decide) ?_
  with_reducible refine (State.hallWrite_frame _ _ _ _).after (by decide) ?_
  with_reducible refine (State.hallWrite_frame _ _ _ _).after (by decide) ?_
  with_reducible exact SameBut.refl _ _

theorem State.takeOrders_frame (s : State) :
    SameBut [.taken, .regs, .ram] s (State.takeOrders s) := by
  unfold State.takeOrders
  with_reducible refine SameBut.foldl (fun _ _ => ?_) ?_ _
  with_reducible refine (State.takeSlot_frame _ _ _).after (by decide) ?_
  with_reducible exact SameBut.refl _ _
  with_reducible exact SameBut.refl _ _

theorem State.settleParks_frame (s : State) (j : Nat) :
    SameBut [.events, .til] s (State.settleParks s j) := by
  unfold State.settleParks
  extract_lets
  with_reducible refine SameBut.ite ?_ ?_
  with_reducible exact SameBut.refl _ _
  with_reducible refine SameBut.ite ?_ ?_
  with_reducible refine (State.setJob_frame _ _ _).after (by decide) ?_
  with_reducible refine (State.requestJob_frame _ _).after (by decide) ?_
  with_reducible exact SameBut.refl _ _
  with_reducible refine SameBut.ite ?_ ?_
  with_reducible refine (State.setJob_frame _ _ _).after (by decide) ?_
  with_reducible exact SameBut.refl _ _
  with_reducible exact SameBut.refl _ _

theorem State.control_frame (s : State) (op j : Nat) :
    SameBut [.regs, .events, .plan, .est, .til, .mem, .shelves, .ram] s (State.control s op j) := by
  unfold State.control
  split
  with_reducible refine (State.settleParks_frame _ _).after (by decide) ?_
  with_reducible refine (State.updJob_frame _ _ _).after (by decide) ?_
  with_reducible exact SameBut.refl _ _
  with_reducible refine (State.settleParks_frame _ _).after (by decide) ?_
  with_reducible refine (State.updJob_frame _ _ _).after (by decide) ?_
  with_reducible exact SameBut.refl _ _
  with_reducible refine (State.endJob_frame _ _ _).after (by decide) ?_
  with_reducible exact SameBut.refl _ _
  with_reducible exact SameBut.refl _ _

theorem State.controlOrder_frame (s : State) (o : TakenOrder) :
    SameBut [.taken, .regs, .events, .plan, .est, .til, .mem, .shelves, .ram] s (State.controlOrder s o) := by
  unfold State.controlOrder
  extract_lets
  with_reducible refine (State.settle_frame _ _ _ _).after (by decide) ?_
  with_reducible refine SameBut.ite ?_ ?_
  with_reducible refine (State.control_frame _ _ _).after (by decide) ?_
  with_reducible exact SameBut.refl _ _
  with_reducible exact SameBut.refl _ _

theorem State.controlOrders_frame (s : State) :
    SameBut [.taken, .regs, .events, .plan, .est, .til, .mem, .shelves, .ram] s (State.controlOrders s) := by
  unfold State.controlOrders
  with_reducible refine SameBut.foldl (fun _ _ => ?_) ?_ _
  with_reducible refine (State.controlOrder_frame _ _).after (by decide) ?_
  with_reducible exact SameBut.refl _ _
  with_reducible exact SameBut.refl _ _

theorem State.endJobs_frame (s : State) :
    SameBut [.regs, .events, .plan, .est, .til, .mem, .shelves, .ram] s (State.endJobs s) := by
  unfold State.endJobs
  with_reducible refine SameBut.each (fun _ _ => ?_) ?_ _
  extract_lets
  split
  with_reducible refine (State.endJob_frame _ _ _).after (by decide) ?_
  with_reducible exact SameBut.refl _ _
  with_reducible exact SameBut.refl _ _
  with_reducible exact SameBut.refl _ _

theorem State.freeNumbers_frame (s : State) :
    SameBut [.til] s (State.freeNumbers s) := by
  unfold State.freeNumbers
  extract_lets
  with_reducible refine (SameBut.til_frame _ _).after (by decide) ?_
  with_reducible exact SameBut.refl _ _

theorem State.parkTick_frame (s : State) :
    SameBut [.events, .til] s (State.parkTick s) := by
  unfold State.parkTick
  with_reducible refine SameBut.each (fun _ _ => ?_) ?_ _
  with_reducible refine (State.settleParks_frame _ _).after (by decide) ?_
  with_reducible refine (State.updJob_frame _ _ _).after (by decide) ?_
  with_reducible exact SameBut.refl _ _
  with_reducible exact SameBut.refl _ _

theorem State.reloadJob_frame (s : State) (j : Nat) :
    SameBut [.til, .ram] s (State.reloadJob s j) := by
  unfold State.reloadJob
  with_reducible refine (State.updJob_frame _ _ _).after (by decide) ?_
  with_reducible refine SameBut.each (fun _ _ => ?_) ?_ _
  with_reducible refine (State.storePages_frame _ _ _ _).after (by decide) ?_
  with_reducible exact SameBut.refl _ _
  with_reducible exact SameBut.refl _ _

theorem State.schedule_frame (s : State) :
    SameBut [.events, .til, .ram] s (State.schedule s) := by
  unfold State.schedule
  extract_lets
  with_reducible refine SameBut.each (fun _ _ => ?_) ?_ _
  with_reducible refine SameBut.each (fun _ _ => ?_) ?_ _
  with_reducible refine SameBut.ite ?_ ?_
  with_reducible refine (State.updTile_frame _ _ _).after (by decide) ?_
  with_reducible exact SameBut.refl _ _
  with_reducible refine (State.switchTo_frame _ _ _).after (by decide) ?_
  with_reducible exact SameBut.refl _ _
  with_reducible refine (State.setJob_frame _ _ _).after (by decide) ?_
  with_reducible refine SameBut.ite ?_ ?_
  with_reducible refine (State.reloadJob_frame _ _).after (by decide) ?_
  with_reducible exact SameBut.refl _ _
  with_reducible exact SameBut.refl _ _
  with_reducible refine SameBut.each (fun _ _ => ?_) ?_ _
  with_reducible refine SameBut.ite ?_ ?_
  with_reducible refine (State.setJob_frame _ _ _).after (by decide) ?_
  with_reducible exact SameBut.refl _ _
  with_reducible exact SameBut.refl _ _
  with_reducible refine (SameBut.til_frame _ _).after (by decide) ?_
  with_reducible refine SameBut.each (fun _ _ => ?_) ?_ _
  with_reducible refine SameBut.ite ?_ ?_
  with_reducible refine (State.giveWay_frame _ _).after (by decide) ?_
  with_reducible exact SameBut.refl _ _
  with_reducible exact SameBut.refl _ _
  with_reducible exact SameBut.refl _ _

theorem State.takeJobCtl_frame (s : State) :
    SameBut [.regs, .events, .plan, .est, .til, .mem, .shelves, .ram] s (State.takeJobCtl s) := by
  unfold State.takeJobCtl
  extract_lets
  split
  with_reducible refine SameBut.ite ?_ ?_
  with_reducible refine (State.control_frame _ _ _).after (by decide) ?_
  with_reducible refine (SameBut.til_frame _ _).after (by decide) ?_
  with_reducible exact SameBut.refl _ _
  with_reducible refine (SameBut.til_frame _ _).after (by decide) ?_
  with_reducible exact SameBut.refl _ _
  with_reducible exact SameBut.refl _ _

theorem State.jobTick_frame (s : State) :
    SameBut [.taken, .att, .regs, .events, .plan, .est, .til, .mem, .shelves, .ram] s (State.jobTick s) := by
  unfold State.jobTick
  extract_lets
  with_reducible refine (State.freeNumbers_frame _).after (by decide) ?_
  with_reducible refine SameBut.each (fun _ _ => ?_) ?_ _
  with_reducible refine (State.settleParks_frame _ _).after (by decide) ?_
  with_reducible refine (State.setJob_frame _ _ _).after (by decide) ?_
  with_reducible refine (State.updJob_frame _ _ _).after (by decide) ?_
  with_reducible exact SameBut.refl _ _
  with_reducible refine (State.schedule_frame _).after (by decide) ?_
  with_reducible refine (State.parkTick_frame _).after (by decide) ?_
  with_reducible refine (State.controlOrders_frame _).after (by decide) ?_
  with_reducible refine (State.takeJobCtl_frame _).after (by decide) ?_
  with_reducible refine SameBut.each (fun _ _ => ?_) ?_ _
  with_reducible refine (State.restartJob_frame _ _).after (by decide) ?_
  with_reducible exact SameBut.refl _ _
  with_reducible refine (State.endJobs_frame _).after (by decide) ?_
  with_reducible exact SameBut.refl _ _

theorem State.startJob_frame (s : State) (o : TakenOrder) :
    SameBut [.taken, .att, .events, .til, .mem] s (State.startJob s o) := by
  unfold State.startJob
  extract_lets
  split
  with_reducible refine (State.settle_frame _ _ _ _).after (by decide) ?_
  with_reducible refine (State.admitJob_frame _ _ _ _ _ _).after (by decide) ?_
  with_reducible exact SameBut.refl _ _
  with_reducible refine (State.settle_frame _ _ _ _).after (by decide) ?_
  with_reducible refine (State.raise_frame _ _ _ _ _).after (by decide) ?_
  with_reducible exact SameBut.refl _ _

theorem State.countRan_frame (s : State) (ran : List (Nat × Nat)) :
    SameBut [.til] s (State.countRan s ran) := by
  unfold State.countRan
  extract_lets
  with_reducible refine SameBut.foldl (fun _ _ => ?_) ?_ _
  with_reducible refine (State.updJob_frame _ _ _).after (by decide) ?_
  with_reducible exact SameBut.refl _ _
  with_reducible exact SameBut.refl _ _

theorem State.takeEarly_frame (s : State) (i n typ : Nat) :
    SameBut [.taken, .regs, .ram] s (State.takeEarly s i n typ) := by
  unfold State.takeEarly
  with_reducible refine SameBut.ite ?_ ?_
  with_reducible refine (State.takeSlot_frame _ _ _).after (by decide) ?_
  with_reducible exact SameBut.refl _ _
  with_reducible exact SameBut.refl _ _

theorem State.jobCtl_frame (s : State) (src : CtlSource) (op j : Nat) :
    SameBut [.taken, .regs, .til, .ram] s (State.jobCtl s src op j) := by
  unfold State.jobCtl
  extract_lets
  split
  with_reducible refine SameBut.ite ?_ ?_
  with_reducible refine (SameBut.til_frame _ _).after (by decide) ?_
  with_reducible exact SameBut.refl _ _
  with_reducible exact SameBut.refl _ _
  with_reducible refine SameBut.ite ?_ ?_
  with_reducible refine (State.takeEarly_frame _ _ _ _).after (by decide) ?_
  with_reducible exact SameBut.refl _ _
  with_reducible exact SameBut.refl _ _

theorem execJobPark_frame (src : CtlSource) (job : BitVec 8) (s : State) :
    Frames [.taken, .regs, .til, .ram] s (execJobPark src job s) := by
  unfold execJobPark
  with_reducible refine Frames.next ?_
  with_reducible refine (State.jobCtl_frame _ _ _ _).after (by decide) ?_
  with_reducible exact SameBut.refl _ _

theorem execJobResume_frame (src : CtlSource) (job : BitVec 8) (s : State) :
    Frames [.taken, .regs, .til, .ram] s (execJobResume src job s) := by
  unfold execJobResume
  with_reducible refine Frames.next ?_
  with_reducible refine (State.jobCtl_frame _ _ _ _).after (by decide) ?_
  with_reducible exact SameBut.refl _ _

theorem execJobStop_frame (src : CtlSource) (job : BitVec 8) (s : State) :
    Frames [.taken, .regs, .til, .ram] s (execJobStop src job s) := by
  unfold execJobStop
  with_reducible refine Frames.next ?_
  with_reducible refine (State.jobCtl_frame _ _ _ _).after (by decide) ?_
  with_reducible exact SameBut.refl _ _

theorem execGuardSlotStart_frame (missed : List (BitVec 7)) (s : State) :
    Frames [.loops, .plan, .til] s (execGuardSlotStart missed s) := by
  unfold execGuardSlotStart
  extract_lets
  with_reducible refine Frames.ite ?_ ?_
  with_reducible refine Frames.next ?_
  with_reducible refine SameBut.each (fun _ _ => ?_) ?_ _
  with_reducible refine (State.requestTile_frame _ _).after (by decide) ?_
  with_reducible exact SameBut.refl _ _
  with_reducible refine SameBut.each (fun _ _ => ?_) ?_ _
  with_reducible refine (State.tokenTile_frame _ _ _).after (by decide) ?_
  with_reducible exact SameBut.refl _ _
  with_reducible exact SameBut.refl _ _
  with_reducible refine Frames.next ?_
  with_reducible exact SameBut.refl _ _

theorem execJobAdmitted_frame (job : BitVec 8) (s : State) :
    Frames [.til, .ram] s (execJobAdmitted job s) := by
  unfold execJobAdmitted
  extract_lets
  split
  with_reducible refine Frames.ite ?_ ?_
  with_reducible refine Frames.next ?_
  with_reducible exact SameBut.refl _ _
  with_reducible refine Frames.ite ?_ ?_
  with_reducible refine Frames.next ?_
  with_reducible refine (State.updJob_frame _ _ _).after (by decide) ?_
  with_reducible refine (State.copyRange_frame _ _ _ _).after (by decide) ?_
  with_reducible exact SameBut.refl _ _
  with_reducible refine Frames.next ?_
  with_reducible refine (State.endAt_frame _ _ _).after (by decide) ?_
  with_reducible refine (State.updJob_frame _ _ _).after (by decide) ?_
  with_reducible exact SameBut.refl _ _
  with_reducible refine Frames.next ?_
  with_reducible exact SameBut.refl _ _

theorem execJobExit_frame (job : BitVec 8) (code : BitVec 32) (s : State) :
    Frames [.til] s (execJobExit job code s) := by
  unfold execJobExit
  extract_lets
  with_reducible refine Frames.ite ?_ ?_
  with_reducible refine Frames.next ?_
  with_reducible refine (State.requestJob_frame _ _).after (by decide) ?_
  with_reducible refine (State.endAt_frame _ _ _).after (by decide) ?_
  with_reducible refine (State.updJob_frame _ _ _).after (by decide) ?_
  with_reducible exact SameBut.refl _ _
  with_reducible refine Frames.next ?_
  with_reducible exact SameBut.refl _ _

theorem execJobStart_frame (seat : BitVec 3) (slot : BitVec 12) (s : State) :
    Frames [.taken, .att, .events, .til, .mem] s (execJobStart seat slot s) := by
  unfold execJobStart
  split
  with_reducible refine Frames.next ?_
  with_reducible refine (State.startJob_frame _ _).after (by decide) ?_
  with_reducible exact SameBut.refl _ _
  with_reducible refine Frames.next ?_
  with_reducible exact SameBut.refl _ _

end Sys2Proof.Machine
end

