-- ==== Sys2Proof/Laws/Frame/Tables.lean ====
section
/-! SUPPORT. What the definitions of Machine/Tables.lean change of the state: one frame for each. -/
namespace Sys2Proof.Machine

theorem State.rearmAll_frame (s : State) :
    SameBut [.mov] s (State.rearmAll s) := by
  unfold State.rearmAll
  extract_lets
  with_reducible refine (SameBut.mov_frame _ _).after (by decide) ?_
  with_reducible exact SameBut.refl _ _

theorem State.restartPlanning_frame (s : State) :
    SameBut [.regs, .events] s (State.restartPlanning s) := by
  unfold State.restartPlanning
  with_reducible refine SameBut.ite ?_ ?_
  with_reducible refine (State.raise_frame _ _ _ _ _).after (by decide) ?_
  with_reducible refine (State.count_frame _ _ _ _ _).after (by decide) ?_
  with_reducible exact SameBut.refl _ _
  with_reducible exact SameBut.refl _ _

theorem State.swapTakeEffect_frame (s : State) :
    SameBut [.regs, .events, .plan, .mov] s (State.swapTakeEffect s) := by
  unfold State.swapTakeEffect
  with_reducible refine SameBut.each (fun _ _ => ?_) ?_ _
  with_reducible refine SameBut.ite ?_ ?_
  with_reducible refine (State.rearmAll_frame _).after (by decide) ?_
  with_reducible refine SameBut.ite ?_ ?_
  with_reducible refine (SameBut.mov_frame _ _).after (by decide) ?_
  with_reducible refine (State.restartPlanning_frame _).after (by decide) ?_
  with_reducible refine (State.raise_frame _ _ _ _ _).after (by decide) ?_
  with_reducible refine (State.updTable_frame _ _ _).after (by decide) ?_
  with_reducible exact SameBut.refl _ _
  with_reducible refine (State.raise_frame _ _ _ _ _).after (by decide) ?_
  with_reducible refine (State.updTable_frame _ _ _).after (by decide) ?_
  with_reducible exact SameBut.refl _ _
  with_reducible refine SameBut.ite ?_ ?_
  with_reducible refine (SameBut.mov_frame _ _).after (by decide) ?_
  with_reducible refine (State.restartPlanning_frame _).after (by decide) ?_
  with_reducible refine (State.raise_frame _ _ _ _ _).after (by decide) ?_
  with_reducible refine (State.updTable_frame _ _ _).after (by decide) ?_
  with_reducible exact SameBut.refl _ _
  with_reducible refine (State.raise_frame _ _ _ _ _).after (by decide) ?_
  with_reducible refine (State.updTable_frame _ _ _).after (by decide) ?_
  with_reducible exact SameBut.refl _ _
  with_reducible exact SameBut.refl _ _

theorem State.ditherTick_frame (s : State) :
    SameBut [.est, .free] s (State.ditherTick s) := by
  unfold State.ditherTick
  extract_lets
  split
  with_reducible refine (SameBut.est_free_frame _ _ _).after (by decide) ?_
  with_reducible exact SameBut.refl _ _
  with_reducible refine SameBut.ite ?_ ?_
  with_reducible exact SameBut.refl _ _
  with_reducible refine (SameBut.est_free_frame _ _ _).after (by decide) ?_
  with_reducible exact SameBut.refl _ _

theorem State.dropParams_frame (s : State) :
    SameBut [.est] s (State.dropParams s) := by
  unfold State.dropParams
  extract_lets
  with_reducible refine SameBut.ite ?_ ?_
  with_reducible refine (SameBut.est_frame _ _).after (by decide) ?_
  with_reducible refine SameBut.ite ?_ ?_
  with_reducible refine (SameBut.est_frame _ _).after (by decide) ?_
  with_reducible exact SameBut.refl _ _
  with_reducible exact SameBut.refl _ _
  with_reducible refine SameBut.ite ?_ ?_
  with_reducible refine (SameBut.est_frame _ _).after (by decide) ?_
  with_reducible exact SameBut.refl _ _
  with_reducible exact SameBut.refl _ _

theorem State.rebuildAsk_frame (s : State) :
    SameBut [.plan] s (State.rebuildAsk s) := by
  unfold State.rebuildAsk
  extract_lets
  split
  with_reducible refine SameBut.ite ?_ ?_
  with_reducible refine (SameBut.plan_frame _ _).after (by decide) ?_
  with_reducible exact SameBut.refl _ _
  with_reducible exact SameBut.refl _ _
  with_reducible exact SameBut.refl _ _

theorem State.settleTick_frame (s : State) (j : Nat) :
    SameBut [.est] s (State.settleTick s j) := by
  unfold State.settleTick
  extract_lets
  with_reducible refine (SameBut.est_frame _ _).after (by decide) ?_
  with_reducible exact SameBut.refl _ _

theorem State.rebuildTick_frame (s : State) :
    SameBut [.est] s (State.rebuildTick s) := by
  unfold State.rebuildTick
  extract_lets
  split
  split
  with_reducible refine SameBut.ite ?_ ?_
  with_reducible refine (SameBut.est_frame _ _).after (by decide) ?_
  with_reducible exact SameBut.refl _ _
  with_reducible exact SameBut.refl _ _
  with_reducible refine SameBut.ite ?_ ?_
  with_reducible refine (State.settleTick_frame _ _).after (by decide) ?_
  with_reducible exact SameBut.refl _ _
  with_reducible refine (SameBut.est_frame _ _).after (by decide) ?_
  with_reducible exact SameBut.refl _ _
  with_reducible refine (SameBut.est_frame _ _).after (by decide) ?_
  with_reducible exact SameBut.refl _ _
  with_reducible refine SameBut.ite ?_ ?_
  with_reducible exact SameBut.refl _ _
  with_reducible refine (SameBut.est_frame _ _).after (by decide) ?_
  with_reducible exact SameBut.refl _ _

theorem State.readParams_frame (s : State) (j : Nat) :
    SameBut [.est] s (State.readParams s j) := by
  unfold State.readParams
  extract_lets
  split
  with_reducible refine (SameBut.est_frame _ _).after (by decide) ?_
  with_reducible exact SameBut.refl _ _
  with_reducible refine (SameBut.est_frame _ _).after (by decide) ?_
  with_reducible exact SameBut.refl _ _
  with_reducible exact SameBut.refl _ _

theorem State.takeClaim_frame (s : State) (c : Nat × Nat × Bool) :
    SameBut [.plan, .est, .til] s (State.takeClaim s c) := by
  unfold State.takeClaim
  extract_lets
  split
  with_reducible refine SameBut.ite ?_ ?_
  with_reducible refine (State.readParams_frame _ _).after (by decide) ?_
  with_reducible refine (State.updJob_frame _ _ _).after (by decide) ?_
  with_reducible refine (State.updTable_frame _ _ _).after (by decide) ?_
  with_reducible exact SameBut.refl _ _
  with_reducible refine SameBut.ite ?_ ?_
  with_reducible refine (SameBut.est_frame _ _).after (by decide) ?_
  with_reducible refine (State.updJob_frame _ _ _).after (by decide) ?_
  with_reducible exact SameBut.refl _ _
  with_reducible refine (State.updJob_frame _ _ _).after (by decide) ?_
  with_reducible exact SameBut.refl _ _
  with_reducible exact SameBut.refl _ _

theorem State.takeClaims_frame (s : State) :
    SameBut [.plan, .est, .til] s (State.takeClaims s) := by
  unfold State.takeClaims
  extract_lets
  with_reducible refine SameBut.foldl (fun _ _ => ?_) ?_ _
  with_reducible refine (State.takeClaim_frame _ _).after (by decide) ?_
  with_reducible exact SameBut.refl _ _
  with_reducible refine (SameBut.plan_frame _ _).after (by decide) ?_
  with_reducible exact SameBut.refl _ _

theorem State.takeTable_frame (s : State) :
    SameBut [.ops, .plan] s (State.takeTable s) := by
  unfold State.takeTable
  extract_lets
  split
  with_reducible refine SameBut.ite ?_ ?_
  with_reducible refine (SameBut.ops_frame _ _).after (by decide) ?_
  with_reducible exact SameBut.refl _ _
  with_reducible refine SameBut.ite ?_ ?_
  with_reducible refine (SameBut.plan_frame _ _).after (by decide) ?_
  with_reducible refine (SameBut.ops_frame _ _).after (by decide) ?_
  with_reducible exact SameBut.refl _ _
  with_reducible refine SameBut.ite ?_ ?_
  with_reducible refine (State.updTable_frame _ _ _).after (by decide) ?_
  with_reducible refine (SameBut.plan_frame _ _).after (by decide) ?_
  with_reducible refine (SameBut.ops_frame _ _).after (by decide) ?_
  with_reducible exact SameBut.refl _ _
  with_reducible refine (State.updTable_frame _ _ _).after (by decide) ?_
  with_reducible refine (SameBut.plan_frame _ _).after (by decide) ?_
  with_reducible refine (SameBut.plan_frame _ _).after (by decide) ?_
  with_reducible refine (SameBut.ops_frame _ _).after (by decide) ?_
  with_reducible exact SameBut.refl _ _
  with_reducible exact SameBut.refl _ _

theorem State.tableTick_frame (s : State) :
    SameBut [.ops, .plan, .est, .til, .free] s (State.tableTick s) := by
  unfold State.tableTick
  with_reducible refine (State.ditherTick_frame _).after (by decide) ?_
  with_reducible refine (State.dropParams_frame _).after (by decide) ?_
  with_reducible refine (State.rebuildTick_frame _).after (by decide) ?_
  with_reducible refine (State.takeClaims_frame _).after (by decide) ?_
  with_reducible refine (State.rebuildAsk_frame _).after (by decide) ?_
  with_reducible refine (State.takeTable_frame _).after (by decide) ?_
  with_reducible exact SameBut.refl _ _

theorem execTableWindowAccess_frame (offset : BitVec 21) (w : Width) (data : Option Word) (s : State) :
    Frames [.plan, .readData] s (execTableWindowAccess offset w data s) := by
  unfold execTableWindowAccess
  extract_lets
  with_reducible refine Frames.ite ?_ ?_
  with_reducible exact Frames.fault _ _ _
  extract_lets
  split
  with_reducible refine Frames.ite ?_ ?_
  extract_lets
  split
  with_reducible refine Frames.next ?_
  with_reducible refine (State.updTable_frame _ _ _).after (by decide) ?_
  with_reducible exact SameBut.refl _ _
  with_reducible refine Frames.next ?_
  with_reducible refine (SameBut.readData_frame _ _).after (by decide) ?_
  with_reducible exact SameBut.refl _ _
  with_reducible refine Frames.ite ?_ ?_
  with_reducible refine Frames.next ?_
  with_reducible exact SameBut.refl _ _
  with_reducible refine Frames.next ?_
  with_reducible refine (SameBut.readData_frame _ _).after (by decide) ?_
  with_reducible exact SameBut.refl _ _
  with_reducible refine Frames.ite ?_ ?_
  with_reducible refine Frames.next ?_
  with_reducible exact SameBut.refl _ _
  with_reducible refine Frames.next ?_
  with_reducible refine (SameBut.readData_frame _ _).after (by decide) ?_
  with_reducible exact SameBut.refl _ _

theorem State.tableOp_frame (s : State) (op : Nat) (copy : Bool) :
    SameBut [.ops] s (State.tableOp s op copy) := by
  unfold State.tableOp
  extract_lets
  with_reducible refine (SameBut.ops_frame _ _).after (by decide) ?_
  with_reducible exact SameBut.refl _ _

theorem execTableClaim_frame (copyActive : Bool) (s : State) :
    Frames [.ops] s (execTableClaim copyActive s) := by
  unfold execTableClaim
  with_reducible refine Frames.next ?_
  with_reducible refine (State.tableOp_frame _ _ _).after (by decide) ?_
  with_reducible exact SameBut.refl _ _

theorem execTableReady_frame (s : State) :
    Frames [.ops] s (execTableReady s) := by
  unfold execTableReady
  with_reducible refine Frames.next ?_
  with_reducible refine (State.tableOp_frame _ _ _).after (by decide) ?_
  with_reducible exact SameBut.refl _ _

theorem execTableRelease_frame (s : State) :
    Frames [.ops] s (execTableRelease s) := by
  unfold execTableRelease
  with_reducible refine Frames.next ?_
  with_reducible refine (State.tableOp_frame _ _ _).after (by decide) ?_
  with_reducible exact SameBut.refl _ _

theorem execTableRevert_frame (s : State) :
    Frames [.ops] s (execTableRevert s) := by
  unfold execTableRevert
  with_reducible refine Frames.next ?_
  with_reducible refine (State.tableOp_frame _ _ _).after (by decide) ?_
  with_reducible exact SameBut.refl _ _

theorem execTableSwap_frame (s : State) :
    Frames [.ops] s (execTableSwap s) := by
  unfold execTableSwap
  with_reducible refine Frames.next ?_
  with_reducible refine (State.tableOp_frame _ _ _).after (by decide) ?_
  with_reducible exact SameBut.refl _ _

theorem execAdaptCandidate_frame (job : BitVec 8) (samples : BitVec 32) (s : State) :
    Frames [.plan, .est] s (execAdaptCandidate job samples s) := by
  unfold execAdaptCandidate
  extract_lets
  with_reducible refine Frames.ite ?_ ?_
  with_reducible refine Frames.next ?_
  with_reducible refine (SameBut.plan_est_frame _ _ _).after (by decide) ?_
  with_reducible refine (SameBut.plan_est_frame _ _ _).after (by decide) ?_
  with_reducible exact SameBut.refl _ _
  with_reducible refine Frames.next ?_
  with_reducible refine (SameBut.plan_est_frame _ _ _).after (by decide) ?_
  with_reducible exact SameBut.refl _ _

theorem execAdaptDone_frame (committed candidate : BitVec 32) (s : State) :
    Frames [.att, .events, .plan, .est] s (execAdaptDone committed candidate s) := by
  unfold execAdaptDone
  split
  with_reducible refine Frames.ite ?_ ?_
  with_reducible refine Frames.next ?_
  with_reducible refine (State.record_frame _ _ _ _ _).after (by decide) ?_
  with_reducible refine (State.raise_frame _ _ _ _ _).after (by decide) ?_
  with_reducible refine (SameBut.est_frame _ _).after (by decide) ?_
  with_reducible refine (State.updTable_frame _ _ _).after (by decide) ?_
  with_reducible exact SameBut.refl _ _
  with_reducible refine Frames.next ?_
  with_reducible exact SameBut.refl _ _
  with_reducible refine Frames.next ?_
  with_reducible exact SameBut.refl _ _

theorem execCopyActiveDone_frame (table : BitVec 16) (s : State) :
    Frames [.plan] s (execCopyActiveDone table s) := by
  unfold execCopyActiveDone
  with_reducible refine Frames.next ?_
  with_reducible refine (State.updTable_frame _ _ _).after (by decide) ?_
  with_reducible exact SameBut.refl _ _

theorem execJobTableClaim_frame (job : BitVec 8) (table : BitVec 16) (op : TableOp) (s : State) :
    Frames [.plan] s (execJobTableClaim job table op s) := by
  unfold execJobTableClaim
  extract_lets
  with_reducible refine Frames.ite ?_ ?_
  with_reducible refine Frames.next ?_
  with_reducible exact SameBut.refl _ _
  extract_lets
  split
  with_reducible refine Frames.next ?_
  with_reducible refine (SameBut.plan_frame _ _).after (by decide) ?_
  with_reducible exact SameBut.refl _ _
  with_reducible refine Frames.next ?_
  with_reducible refine (State.updTable_frame _ _ _).after (by decide) ?_
  with_reducible exact SameBut.refl _ _
  with_reducible refine Frames.next ?_
  with_reducible refine (State.updTable_frame _ _ _).after (by decide) ?_
  with_reducible exact SameBut.refl _ _

theorem execRebuildRoundEnd_frame (job : BitVec 8) (averages : List (Nat × Int × Int × Int × Int)) (s : State) :
    Frames [.events, .plan, .est] s (execRebuildRoundEnd job averages s) := by
  unfold execRebuildRoundEnd
  extract_lets
  split
  with_reducible refine Frames.ite ?_ ?_
  with_reducible refine Frames.next ?_
  with_reducible refine (State.raise_frame _ _ _ _ _).after (by decide) ?_
  with_reducible refine (SameBut.est_frame _ _).after (by decide) ?_
  with_reducible refine (State.updTable_frame _ _ _).after (by decide) ?_
  with_reducible exact SameBut.refl _ _
  with_reducible refine Frames.next ?_
  with_reducible exact SameBut.refl _ _
  with_reducible refine Frames.next ?_
  with_reducible exact SameBut.refl _ _

theorem execSwapTakeEffect_frame (s : State) :
    Frames [.regs, .events, .plan, .mov] s (execSwapTakeEffect s) := by
  unfold execSwapTakeEffect
  with_reducible refine Frames.next ?_
  with_reducible refine (State.swapTakeEffect_frame _).after (by decide) ?_
  with_reducible exact SameBut.refl _ _

end Sys2Proof.Machine
end

