-- ==== Sys2Proof/Laws/Frame/Planner.lean ====
section
/-! SUPPORT. What the definitions of Machine/Planner.lean change of the state: one frame for each. -/
namespace Sys2Proof.Machine

theorem State.recPath_frame (s : State) (id inp : Nat) (st : PathState) (reason : Nat) :
    SameBut [.mov] s (State.recPath s id inp st reason) := by
  unfold State.recPath
  with_reducible refine SameBut.ite ?_ ?_
  with_reducible refine (State.updPath_frame _ _ _).after (by decide) ?_
  with_reducible exact SameBut.refl _ _
  with_reducible exact SameBut.refl _ _

theorem State.closePath_frame (s : State) (id inp code : Nat) (st : PathState) (reason : Nat) :
    SameBut [.mov] s (State.closePath s id inp code st reason) := by
  unfold State.closePath
  with_reducible refine (State.recPath_frame _ _ _ _ _).after (by decide) ?_
  with_reducible refine (State.updMove_frame _ _ _).after (by decide) ?_
  with_reducible exact SameBut.refl _ _

theorem State.moveEvt_frame (s : State) (b obj arg : Nat) :
    SameBut [.events] s (State.moveEvt s b obj arg) := by
  unfold State.moveEvt
  with_reducible refine SameBut.ite ?_ ?_
  with_reducible refine (State.raise_frame _ _ _ _ _).after (by decide) ?_
  with_reducible exact SameBut.refl _ _
  with_reducible exact SameBut.refl _ _

theorem State.moveNotice_frame (s : State) (m : Move) (event reason result inp out : Nat) (tick : optParam Nat s.nextTick) :
    SameBut [.events] s (State.moveNotice s m event reason result inp out tick) := by
  unfold State.moveNotice
  with_reducible refine SameBut.ite ?_ ?_
  with_reducible refine (State.raiseRecord_frame _ _ _ _ _).after (by decide) ?_
  with_reducible exact SameBut.refl _ _
  with_reducible exact SameBut.refl _ _

theorem State.stateNotice_frame (s : State) (id event : Nat) (tick : optParam Nat s.nextTick) :
    SameBut [.events] s (State.stateNotice s id event tick) := by
  unfold State.stateNotice
  split
  with_reducible refine (State.moveNotice_frame _ _ _ _ _ _ _ _).after (by decide) ?_
  with_reducible exact SameBut.refl _ _
  with_reducible exact SameBut.refl _ _

theorem State.endMove_frame (s : State) (id : Nat) (st : MoveState) (reason : Nat) (tick : optParam Nat s.nextTick) :
    SameBut [.events, .mov] s (State.endMove s id st reason tick) := by
  unfold State.endMove
  extract_lets
  with_reducible refine (State.moveEvt_frame _ _ _ _).after (by decide) ?_
  with_reducible refine (State.stateNotice_frame _ _ _ _).after (by decide) ?_
  with_reducible refine (State.updMove_frame _ _ _).after (by decide) ?_
  with_reducible exact SameBut.refl _ _

theorem State.sendSched_frame (s : State) (id : Nat) :
    SameBut [.regs, .porches, .free] s (State.sendSched s id) := by
  unfold State.sendSched
  split
  with_reducible refine SameBut.foldl (fun _ _ => ?_) ?_ _
  with_reducible refine (State.sendAll_frame _ _ _ _).after (by decide) ?_
  with_reducible exact SameBut.refl _ _
  with_reducible exact SameBut.refl _ _
  with_reducible exact SameBut.refl _ _

theorem State.failMove_frame (s : State) (id reason : Nat) :
    SameBut [.events, .mov] s (State.failMove s id reason) := by
  unfold State.failMove
  split
  with_reducible refine (State.endMove_frame _ _ _ _ _).after (by decide) ?_
  with_reducible refine SameBut.each (fun _ _ => ?_) ?_ _
  with_reducible refine (State.closePath_frame _ _ _ _ _ _).after (by decide) ?_
  with_reducible exact SameBut.refl _ _
  with_reducible exact SameBut.refl _ _
  with_reducible exact SameBut.refl _ _

theorem State.beginPlanning_frame (s : State) (m : Move) :
    SameBut [.events, .loops, .mov, .est] s (State.beginPlanning s m) := by
  unfold State.beginPlanning
  extract_lets
  with_reducible refine SameBut.ite ?_ ?_
  with_reducible refine SameBut.foldl (fun _ _ => ?_) ?_ _
  with_reducible refine (State.updPath_frame _ _ _).after (by decide) ?_
  with_reducible exact SameBut.refl _ _
  with_reducible refine SameBut.each (fun _ _ => ?_) ?_ _
  with_reducible refine SameBut.ite ?_ ?_
  with_reducible refine (State.updPath_frame _ _ _).after (by decide) ?_
  with_reducible exact SameBut.refl _ _
  with_reducible exact SameBut.refl _ _
  with_reducible refine SameBut.each (fun _ _ => ?_) ?_ _
  with_reducible refine (State.updPath_frame _ _ _).after (by decide) ?_
  with_reducible exact SameBut.refl _ _
  with_reducible refine (SameBut.est_frame _ _).after (by decide) ?_
  with_reducible refine SameBut.each (fun _ _ => ?_) ?_ _
  with_reducible refine (State.updLoop_frame _ _ _).after (by decide) ?_
  with_reducible exact SameBut.refl _ _
  with_reducible refine (State.updMove_frame _ _ _).after (by decide) ?_
  with_reducible exact SameBut.refl _ _
  with_reducible refine (State.failMove_frame _ _ _).after (by decide) ?_
  with_reducible refine SameBut.foldl (fun _ _ => ?_) ?_ _
  with_reducible refine (State.updPath_frame _ _ _).after (by decide) ?_
  with_reducible exact SameBut.refl _ _
  with_reducible refine SameBut.each (fun _ _ => ?_) ?_ _
  with_reducible refine SameBut.ite ?_ ?_
  with_reducible refine (State.updPath_frame _ _ _).after (by decide) ?_
  with_reducible exact SameBut.refl _ _
  with_reducible exact SameBut.refl _ _
  with_reducible refine SameBut.each (fun _ _ => ?_) ?_ _
  with_reducible refine (State.updPath_frame _ _ _).after (by decide) ?_
  with_reducible exact SameBut.refl _ _
  with_reducible refine (SameBut.est_frame _ _).after (by decide) ?_
  with_reducible refine SameBut.each (fun _ _ => ?_) ?_ _
  with_reducible refine (State.updLoop_frame _ _ _).after (by decide) ?_
  with_reducible exact SameBut.refl _ _
  with_reducible refine (State.updMove_frame _ _ _).after (by decide) ?_
  with_reducible exact SameBut.refl _ _

theorem State.takeMove_frame (s : State) (o : TakenOrder) :
    SameBut [.taken, .events, .mov] s (State.takeMove s o) := by
  unfold State.takeMove
  extract_lets
  with_reducible refine SameBut.ite ?_ ?_
  with_reducible refine (State.settle_frame _ _ _ _).after (by decide) ?_
  with_reducible refine (State.moveNotice_frame _ _ _ _ _ _ _ _).after (by decide) ?_
  with_reducible refine (SameBut.mov_frame _ _).after (by decide) ?_
  with_reducible refine (SameBut.mov_frame _ _).after (by decide) ?_
  with_reducible exact SameBut.refl _ _
  with_reducible refine (State.settle_frame _ _ _ _).after (by decide) ?_
  with_reducible refine (State.raise_frame _ _ _ _ _).after (by decide) ?_
  with_reducible refine (State.moveNotice_frame _ _ _ _ _ _ _ _).after (by decide) ?_
  with_reducible refine (SameBut.mov_frame _ _).after (by decide) ?_
  with_reducible exact SameBut.refl _ _

theorem State.setPlanned_frame (s : State) (m : Move) (plans : List MirrorPlan) (start last : Nat) :
    SameBut [.hrt, .regs, .events, .mov, .porches, .free] s (State.setPlanned s m plans start last) := by
  unfold State.setPlanned
  extract_lets
  with_reducible refine SameBut.ite ?_ ?_
  with_reducible refine (State.endMove_frame _ _ _ _ _).after (by decide) ?_
  with_reducible refine SameBut.ite ?_ ?_
  with_reducible refine SameBut.trans ?_ (State.inTick_frame _ _ (fun _ => ?_) (by decide))
  with_reducible refine (State.stateNotice_frame _ _ _ _).after (by decide) ?_
  with_reducible refine (State.maxField_frame _ _ _ _ _).after (by decide) ?_
  with_reducible refine SameBut.foldl (fun _ _ => ?_) ?_ _
  with_reducible refine SameBut.ite ?_ ?_
  with_reducible exact SameBut.refl _ _
  with_reducible refine (State.updPath_frame _ _ _).after (by decide) ?_
  with_reducible refine (State.recPath_frame _ _ _ _ _).after (by decide) ?_
  with_reducible exact SameBut.refl _ _
  with_reducible refine (State.updMove_frame _ _ _).after (by decide) ?_
  with_reducible exact SameBut.refl _ _
  with_reducible refine (State.sendSched_frame _ _).after (by decide) ?_
  with_reducible exact SameBut.refl _ _
  with_reducible refine (State.stateNotice_frame _ _ _ _).after (by decide) ?_
  with_reducible refine (State.maxField_frame _ _ _ _ _).after (by decide) ?_
  with_reducible refine SameBut.foldl (fun _ _ => ?_) ?_ _
  with_reducible refine SameBut.ite ?_ ?_
  with_reducible exact SameBut.refl _ _
  with_reducible refine (State.updPath_frame _ _ _).after (by decide) ?_
  with_reducible refine (State.recPath_frame _ _ _ _ _).after (by decide) ?_
  with_reducible exact SameBut.refl _ _
  with_reducible refine (State.updMove_frame _ _ _).after (by decide) ?_
  with_reducible exact SameBut.refl _ _
  with_reducible refine SameBut.ite ?_ ?_
  with_reducible refine SameBut.trans ?_ (State.inTick_frame _ _ (fun _ => ?_) (by decide))
  with_reducible refine (State.stateNotice_frame _ _ _ _).after (by decide) ?_
  with_reducible refine (State.maxField_frame _ _ _ _ _).after (by decide) ?_
  with_reducible refine SameBut.foldl (fun _ _ => ?_) ?_ _
  with_reducible refine SameBut.ite ?_ ?_
  with_reducible exact SameBut.refl _ _
  with_reducible refine (State.updPath_frame _ _ _).after (by decide) ?_
  with_reducible refine (State.recPath_frame _ _ _ _ _).after (by decide) ?_
  with_reducible exact SameBut.refl _ _
  with_reducible refine (State.updMove_frame _ _ _).after (by decide) ?_
  with_reducible exact SameBut.refl _ _
  with_reducible refine (State.sendSched_frame _ _).after (by decide) ?_
  with_reducible exact SameBut.refl _ _
  with_reducible refine (State.stateNotice_frame _ _ _ _).after (by decide) ?_
  with_reducible refine (State.maxField_frame _ _ _ _ _).after (by decide) ?_
  with_reducible refine SameBut.foldl (fun _ _ => ?_) ?_ _
  with_reducible refine SameBut.ite ?_ ?_
  with_reducible exact SameBut.refl _ _
  with_reducible refine (State.updPath_frame _ _ _).after (by decide) ?_
  with_reducible refine (State.recPath_frame _ _ _ _ _).after (by decide) ?_
  with_reducible exact SameBut.refl _ _
  with_reducible refine (State.updMove_frame _ _ _).after (by decide) ?_
  with_reducible exact SameBut.refl _ _

theorem State.planMove_frame (s : State) (m : Move) (routes : List Route) (loose failed : List Nat) :
    SameBut [.hrt, .regs, .events, .mov, .porches, .free] s (State.planMove s m routes loose failed) := by
  unfold State.planMove
  extract_lets
  with_reducible refine SameBut.ite ?_ ?_
  with_reducible refine (State.failMove_frame _ _ _).after (by decide) ?_
  with_reducible exact SameBut.refl _ _
  with_reducible refine SameBut.ite ?_ ?_
  with_reducible refine SameBut.ite ?_ ?_
  with_reducible refine (State.failMove_frame _ _ _).after (by decide) ?_
  with_reducible exact SameBut.refl _ _
  with_reducible exact SameBut.refl _ _
  with_reducible refine SameBut.ite ?_ ?_
  with_reducible exact SameBut.refl _ _
  with_reducible refine SameBut.ite ?_ ?_
  with_reducible refine (State.failMove_frame _ _ _).after (by decide) ?_
  with_reducible exact SameBut.refl _ _
  with_reducible refine (State.setPlanned_frame _ _ _ _ _).after (by decide) ?_
  with_reducible exact SameBut.refl _ _

theorem execMove_frame (seat : BitVec 3) (slot : BitVec 12) (s : State) :
    Frames [.taken, .events, .mov] s (execMove seat slot s) := by
  unfold execMove
  split
  with_reducible refine Frames.next ?_
  with_reducible refine (State.takeMove_frame _ _).after (by decide) ?_
  with_reducible exact SameBut.refl _ _
  with_reducible refine Frames.next ?_
  with_reducible exact SameBut.refl _ _

theorem execPlanningDone_frame (routes : List Route) (loose failed : List (BitVec 13)) (s : State) :
    Frames [.hrt, .regs, .events, .mov, .porches, .free] s (execPlanningDone routes loose failed s) := by
  unfold execPlanningDone
  split
  with_reducible refine Frames.ite ?_ ?_
  with_reducible refine Frames.next ?_
  with_reducible refine (State.planMove_frame _ _ _ _ _).after (by decide) ?_
  with_reducible exact SameBut.refl _ _
  with_reducible refine Frames.next ?_
  with_reducible exact SameBut.refl _ _
  with_reducible refine Frames.next ?_
  with_reducible exact SameBut.refl _ _

theorem execPlanningStart_frame (s : State) :
    Frames [.events, .loops, .mov, .est] s (execPlanningStart s) := by
  unfold execPlanningStart
  with_reducible refine Frames.ite ?_ ?_
  extract_lets
  split
  with_reducible refine Frames.next ?_
  with_reducible refine (State.beginPlanning_frame _ _).after (by decide) ?_
  with_reducible exact SameBut.refl _ _
  with_reducible refine Frames.next ?_
  with_reducible exact SameBut.refl _ _
  with_reducible refine Frames.next ?_
  with_reducible exact SameBut.refl _ _

theorem execSchedCell.addPart_frame (s : State) (id : Nat) (p : SchedPart) :
    SameBut [.loops, .mov] s (execSchedCell.addPart s id p) := by
  unfold execSchedCell.addPart
  extract_lets
  with_reducible refine SameBut.foldl (fun _ _ => ?_) ?_ _
  with_reducible refine (State.updPath_frame _ _ _).after (by decide) ?_
  with_reducible exact SameBut.refl _ _
  with_reducible refine SameBut.each (fun _ _ => ?_) ?_ _
  with_reducible refine (State.updLoop_frame _ _ _).after (by decide) ?_
  with_reducible exact SameBut.refl _ _
  with_reducible refine (State.updMove_frame _ _ _).after (by decide) ?_
  with_reducible exact SameBut.refl _ _

theorem execSchedCell_frame (p : SchedPart) (s : State) :
    Frames [.loops, .mov] s (execSchedCell p s) := by
  unfold execSchedCell
  extract_lets v1 v2 v3
  with_reducible refine Frames.ite ?_ ?_
  with_reducible refine Frames.next ?_
  with_reducible exact SameBut.refl _ _
  extract_lets
  dsimp only [v3]
  dsimp only [v2]
  split
  with_reducible refine Frames.ite ?_ ?_
  with_reducible refine Frames.next ?_
  with_reducible exact SameBut.refl _ _
  with_reducible refine Frames.ite ?_ ?_
  with_reducible refine Frames.next ?_
  with_reducible refine (execSchedCell.addPart_frame _ _ _).after (by decide) ?_
  with_reducible refine (State.updMove_frame _ _ _).after (by decide) ?_
  with_reducible exact SameBut.refl _ _
  with_reducible refine Frames.ite ?_ ?_
  with_reducible refine Frames.next ?_
  with_reducible exact SameBut.refl _ _
  with_reducible refine Frames.next ?_
  with_reducible refine (execSchedCell.addPart_frame _ _ _).after (by decide) ?_
  with_reducible exact SameBut.refl _ _
  with_reducible refine Frames.next ?_
  with_reducible refine (execSchedCell.addPart_frame _ _ _).after (by decide) ?_
  with_reducible refine (SameBut.mov_frame _ _).after (by decide) ?_
  with_reducible exact SameBut.refl _ _

end Sys2Proof.Machine
end

