-- ==== Sys2Proof/Laws/Frame/Moves.lean ====
section
/-! SUPPORT. What the definitions of Machine/Moves.lean change of the state: one frame for each. -/
namespace Sys2Proof.Machine

theorem State.stopLoop_frame (s : State) (l : Nat) :
    SameBut [.loops] s (State.stopLoop s l) := by
  unfold State.stopLoop
  with_reducible refine (State.updLoop_frame _ _ _).after (by decide) ?_
  with_reducible exact SameBut.refl _ _

theorem State.updMirror_frame (s : State) (id m : Nat) (f : MirrorPlan → MirrorPlan) :
    SameBut [.mov] s (State.updMirror s id m f) := by
  unfold State.updMirror
  with_reducible refine (State.updMove_frame _ _ _).after (by decide) ?_
  with_reducible exact SameBut.refl _ _

theorem State.abortMirror_frame (s : State) (id : Nat) (p : MirrorPlan) :
    SameBut [.loops, .mov] s (State.abortMirror s id p) := by
  unfold State.abortMirror
  extract_lets
  with_reducible refine (State.updMirror_frame _ _ _ _).after (by decide) ?_
  with_reducible refine SameBut.ite ?_ ?_
  with_reducible refine SameBut.each (fun _ _ => ?_) ?_ _
  with_reducible refine (State.stopLoop_frame _ _).after (by decide) ?_
  with_reducible exact SameBut.refl _ _
  with_reducible exact SameBut.refl _ _
  with_reducible exact SameBut.refl _ _

theorem State.endIfComplete_frame (s : State) (id : Nat) (tick : optParam Nat s.nextTick) :
    SameBut [.events, .mov] s (State.endIfComplete s id tick) := by
  unfold State.endIfComplete
  split
  with_reducible refine SameBut.ite ?_ ?_
  with_reducible refine (State.endMove_frame _ _ _ _ _).after (by decide) ?_
  with_reducible exact SameBut.refl _ _
  with_reducible exact SameBut.refl _ _
  with_reducible exact SameBut.refl _ _

theorem State.abortMove_frame (s : State) (id reason : Nat) (tick : optParam Nat s.nextTick) :
    SameBut [.events, .loops, .mov] s (State.abortMove s id reason tick) := by
  unfold State.abortMove
  split
  with_reducible refine SameBut.ite ?_ ?_
  with_reducible refine (State.endMove_frame _ _ _ _ _).after (by decide) ?_
  with_reducible refine (State.updMove_frame _ _ _).after (by decide) ?_
  with_reducible refine SameBut.each (fun _ _ => ?_) ?_ _
  with_reducible refine (State.closePath_frame _ _ _ _ _ _).after (by decide) ?_
  with_reducible exact SameBut.refl _ _
  with_reducible refine SameBut.foldl (fun _ _ => ?_) ?_ _
  with_reducible refine (State.abortMirror_frame _ _ _).after (by decide) ?_
  with_reducible exact SameBut.refl _ _
  with_reducible exact SameBut.refl _ _
  with_reducible refine (State.endIfComplete_frame _ _ _).after (by decide) ?_
  with_reducible refine (State.updMove_frame _ _ _).after (by decide) ?_
  with_reducible refine SameBut.each (fun _ _ => ?_) ?_ _
  with_reducible refine (State.closePath_frame _ _ _ _ _ _).after (by decide) ?_
  with_reducible exact SameBut.refl _ _
  with_reducible refine SameBut.foldl (fun _ _ => ?_) ?_ _
  with_reducible refine (State.abortMirror_frame _ _ _).after (by decide) ?_
  with_reducible exact SameBut.refl _ _
  with_reducible exact SameBut.refl _ _
  with_reducible exact SameBut.refl _ _

theorem State.abortNotice_frame (s : State) (id seat result tick : Nat) :
    SameBut [.events] s (State.abortNotice s id seat result tick) := by
  unfold State.abortNotice
  extract_lets
  with_reducible refine (State.raiseRecord_frame _ _ _ _ _).after (by decide) ?_
  with_reducible exact SameBut.refl _ _

theorem State.leaveService_frame (s : State) (reason : Nat) (p : Nat × Nat) :
    SameBut [.mov] s (State.leaveService s reason p) := by
  unfold State.leaveService
  extract_lets
  with_reducible refine (SameBut.mov_frame _ _).after (by decide) ?_
  with_reducible refine (State.updService_frame _ _ _).after (by decide) ?_
  with_reducible refine SameBut.ite ?_ ?_
  with_reducible refine (State.updPath_frame _ _ _).after (by decide) ?_
  with_reducible exact SameBut.refl _ _
  with_reducible exact SameBut.refl _ _

theorem State.setLeg_frame (s : State) (l : Nat) (g : Leg) :
    SameBut [.loops] s (State.setLeg s l g) := by
  unfold State.setLeg
  split
  with_reducible refine (State.updLoop_frame _ _ _).after (by decide) ?_
  with_reducible exact SameBut.refl _ _
  with_reducible refine (State.updLoop_frame _ _ _).after (by decide) ?_
  with_reducible exact SameBut.refl _ _
  with_reducible exact SameBut.refl _ _

theorem State.legStep_frame (s : State) (id : Nat) (p : MirrorPlan) :
    SameBut [.loops, .mov] s (State.legStep s id p) := by
  unfold State.legStep
  extract_lets
  split
  with_reducible refine (State.updMirror_frame _ _ _ _).after (by decide) ?_
  with_reducible refine (State.setLeg_frame _ _ _).after (by decide) ?_
  with_reducible refine (State.setLeg_frame _ _ _).after (by decide) ?_
  with_reducible refine SameBut.ite ?_ ?_
  with_reducible refine SameBut.foldl (fun _ _ => ?_) ?_ _
  with_reducible refine (State.leaveService_frame _ _ _).after (by decide) ?_
  with_reducible exact SameBut.refl _ _
  with_reducible exact SameBut.refl _ _
  with_reducible exact SameBut.refl _ _
  with_reducible refine (State.updMirror_frame _ _ _ _).after (by decide) ?_
  with_reducible exact SameBut.refl _ _

theorem State.moveSteps_frame (s : State) (id : Nat) :
    SameBut [.loops, .mov] s (State.moveSteps s id) := by
  unfold State.moveSteps
  split
  with_reducible refine SameBut.foldl (fun _ _ => ?_) ?_ _
  with_reducible refine (State.legStep_frame _ _ _).after (by decide) ?_
  with_reducible exact SameBut.refl _ _
  with_reducible exact SameBut.refl _ _
  with_reducible exact SameBut.refl _ _

theorem State.restoreRec_frame (s : State) (id i : Nat) :
    SameBut [.mov] s (State.restoreRec s id i) := by
  unfold State.restoreRec
  extract_lets
  with_reducible refine SameBut.ite ?_ ?_
  with_reducible refine (State.updPath_frame _ _ _).after (by decide) ?_
  with_reducible exact SameBut.refl _ _
  with_reducible exact SameBut.refl _ _

theorem State.reopen_frame (s : State) (id : Nat) :
    SameBut [.loops, .mov] s (State.reopen s id) := by
  unfold State.reopen
  split
  with_reducible refine SameBut.ite ?_ ?_
  with_reducible refine (SameBut.mov_frame _ _).after (by decide) ?_
  with_reducible refine SameBut.each (fun _ _ => ?_) ?_ _
  with_reducible refine (State.updLoop_frame _ _ _).after (by decide) ?_
  with_reducible exact SameBut.refl _ _
  with_reducible exact SameBut.refl _ _
  with_reducible refine (State.updMove_frame _ _ _).after (by decide) ?_
  with_reducible refine SameBut.each (fun _ _ => ?_) ?_ _
  with_reducible refine (State.restoreRec_frame _ _ _).after (by decide) ?_
  with_reducible exact SameBut.refl _ _
  with_reducible refine SameBut.each (fun _ _ => ?_) ?_ _
  with_reducible refine (State.updLoop_frame _ _ _).after (by decide) ?_
  with_reducible exact SameBut.refl _ _
  with_reducible exact SameBut.refl _ _
  with_reducible exact SameBut.refl _ _

theorem State.startMove_frame (s : State) (m : Move) :
    SameBut [.events, .mov] s (State.startMove s m) := by
  unfold State.startMove
  extract_lets v1
  with_reducible refine (State.stateNotice_frame _ _ _ _).after (by decide) ?_
  with_reducible refine SameBut.each (fun _ _ => ?_) ?_ _
  with_reducible refine (State.recPath_frame _ _ _ _ _).after (by decide) ?_
  with_reducible exact SameBut.refl _ _
  with_reducible refine (State.updMove_frame _ _ _).after (by decide) ?_
  extract_lets
  dsimp only [v1]
  split
  with_reducible refine SameBut.ite ?_ ?_
  with_reducible refine (State.leaveService_frame _ _ _).after (by decide) ?_
  with_reducible exact SameBut.refl _ _
  with_reducible exact SameBut.refl _ _
  with_reducible exact SameBut.refl _ _

theorem State.moveLegs_frame (s : State) :
    SameBut [.events, .loops, .mov] s (State.moveLegs s) := by
  unfold State.moveLegs
  extract_lets
  with_reducible refine SameBut.each (fun _ _ => ?_) ?_ _
  with_reducible refine (State.moveSteps_frame _ _).after (by decide) ?_
  with_reducible exact SameBut.refl _ _
  with_reducible refine SameBut.each (fun _ _ => ?_) ?_ _
  extract_lets
  split
  with_reducible refine SameBut.ite ?_ ?_
  with_reducible refine (State.reopen_frame _ _).after (by decide) ?_
  with_reducible exact SameBut.refl _ _
  with_reducible refine SameBut.ite ?_ ?_
  with_reducible refine (State.startMove_frame _ _).after (by decide) ?_
  with_reducible exact SameBut.refl _ _
  with_reducible exact SameBut.refl _ _
  with_reducible exact SameBut.refl _ _
  with_reducible exact SameBut.refl _ _

theorem State.makeReady_frame (s : State) (m : Move) (p : MovePath) :
    SameBut [.mov] s (State.makeReady s m p) := by
  unfold State.makeReady
  extract_lets
  with_reducible refine (SameBut.mov_frame _ _).after (by decide) ?_
  with_reducible refine (State.updService_frame _ _ _).after (by decide) ?_
  with_reducible refine (State.updPath_frame _ _ _).after (by decide) ?_
  with_reducible refine (State.closePath_frame _ _ _ _ _ _).after (by decide) ?_
  with_reducible exact SameBut.refl _ _

theorem State.judgePath_frame (s : State) (m : Move) (p : MovePath) :
    SameBut [.mov] s (State.judgePath s m p) := by
  unfold State.judgePath
  extract_lets
  with_reducible refine SameBut.ite ?_ ?_
  with_reducible refine (State.makeReady_frame _ _ _).after (by decide) ?_
  with_reducible exact SameBut.refl _ _
  with_reducible refine SameBut.ite ?_ ?_
  with_reducible refine (State.closePath_frame _ _ _ _ _ _).after (by decide) ?_
  with_reducible exact SameBut.refl _ _
  with_reducible refine SameBut.ite ?_ ?_
  with_reducible refine (State.closePath_frame _ _ _ _ _ _).after (by decide) ?_
  with_reducible exact SameBut.refl _ _
  with_reducible refine SameBut.ite ?_ ?_
  with_reducible refine (State.updPath_frame _ _ _).after (by decide) ?_
  with_reducible exact SameBut.refl _ _
  with_reducible exact SameBut.refl _ _

theorem State.moveSettles_frame (s : State) (id : Nat) :
    SameBut [.events, .mov] s (State.moveSettles s id) := by
  unfold State.moveSettles
  split
  with_reducible refine SameBut.ite ?_ ?_
  with_reducible refine (State.stateNotice_frame _ _ _ _).after (by decide) ?_
  with_reducible refine (State.updMove_frame _ _ _).after (by decide) ?_
  with_reducible exact SameBut.refl _ _
  with_reducible exact SameBut.refl _ _
  with_reducible exact SameBut.refl _ _

theorem State.settleParked_frame (s : State) (id : Nat) :
    SameBut [.mov] s (State.settleParked s id) := by
  unfold State.settleParked
  with_reducible refine (State.updMove_frame _ _ _).after (by decide) ?_
  with_reducible exact SameBut.refl _ _

theorem State.settlePath_frame (s : State) (m : Move) (p : MovePath) :
    SameBut [.mov] s (State.settlePath s m p) := by
  unfold State.settlePath
  extract_lets
  with_reducible refine SameBut.ite ?_ ?_
  with_reducible refine SameBut.ite ?_ ?_
  with_reducible refine (State.updPath_frame _ _ _).after (by decide) ?_
  with_reducible refine SameBut.ite ?_ ?_
  with_reducible refine (State.recPath_frame _ _ _ _ _).after (by decide) ?_
  with_reducible exact SameBut.refl _ _
  with_reducible exact SameBut.refl _ _
  with_reducible refine SameBut.ite ?_ ?_
  with_reducible refine (State.recPath_frame _ _ _ _ _).after (by decide) ?_
  with_reducible exact SameBut.refl _ _
  with_reducible exact SameBut.refl _ _
  with_reducible exact SameBut.refl _ _

theorem State.decideMove_frame (s : State) (id : Nat) :
    SameBut [.events, .mov] s (State.decideMove s id) := by
  unfold State.decideMove
  split
  with_reducible refine SameBut.ite ?_ ?_
  with_reducible exact SameBut.refl _ _
  with_reducible refine (State.endIfComplete_frame _ _ _).after (by decide) ?_
  with_reducible refine SameBut.foldl (fun _ _ => ?_) ?_ _
  with_reducible refine (State.judgePath_frame _ _ _).after (by decide) ?_
  with_reducible exact SameBut.refl _ _
  with_reducible refine (State.moveSettles_frame _ _).after (by decide) ?_
  with_reducible refine (State.settleParked_frame _ _).after (by decide) ?_
  with_reducible refine SameBut.foldl (fun _ _ => ?_) ?_ _
  with_reducible refine (State.settlePath_frame _ _ _).after (by decide) ?_
  with_reducible exact SameBut.refl _ _
  with_reducible exact SameBut.refl _ _
  with_reducible exact SameBut.refl _ _

theorem State.dropPartial_frame (s : State) :
    SameBut [.loops, .mov] s (State.dropPartial s) := by
  unfold State.dropPartial
  extract_lets
  with_reducible refine (SameBut.mov_frame _ _).after (by decide) ?_
  with_reducible refine SameBut.each (fun _ _ => ?_) ?_ _
  with_reducible refine (State.updLoop_frame _ _ _).after (by decide) ?_
  with_reducible exact SameBut.refl _ _
  with_reducible exact SameBut.refl _ _

theorem State.missDeadline_frame (s : State) (m : Move) :
    SameBut [.events, .loops, .mov] s (State.missDeadline s m) := by
  unfold State.missDeadline
  extract_lets
  with_reducible refine SameBut.ite ?_ ?_
  with_reducible refine (State.abortMove_frame _ _ _ _).after (by decide) ?_
  with_reducible refine (State.moveEvt_frame _ _ _ _).after (by decide) ?_
  with_reducible refine (State.stateNotice_frame _ _ _ _).after (by decide) ?_
  with_reducible refine (State.updMove_frame _ _ _).after (by decide) ?_
  with_reducible exact SameBut.refl _ _
  with_reducible refine (State.moveEvt_frame _ _ _ _).after (by decide) ?_
  with_reducible refine (State.stateNotice_frame _ _ _ _).after (by decide) ?_
  with_reducible refine (State.updMove_frame _ _ _).after (by decide) ?_
  with_reducible exact SameBut.refl _ _

theorem State.releaseLoop_frame (s : State) (m : Move) (l : Nat) :
    SameBut [.loops] s (State.releaseLoop s m l) := by
  unfold State.releaseLoop
  extract_lets
  with_reducible refine (State.updLoop_frame _ _ _).after (by decide) ?_
  with_reducible exact SameBut.refl _ _

theorem State.moveReleases_frame (s : State) (id : Nat) :
    SameBut [.loops, .mov] s (State.moveReleases s id) := by
  unfold State.moveReleases
  split
  with_reducible refine (State.updMove_frame _ _ _).after (by decide) ?_
  with_reducible refine SameBut.each (fun _ _ => ?_) ?_ _
  with_reducible refine (State.releaseLoop_frame _ _ _).after (by decide) ?_
  with_reducible exact SameBut.refl _ _
  with_reducible exact SameBut.refl _ _
  with_reducible exact SameBut.refl _ _

theorem State.recheckTick_frame (s : State) :
    SameBut [.mov] s (State.recheckTick s) := by
  unfold State.recheckTick
  extract_lets
  with_reducible refine SameBut.ite ?_ ?_
  with_reducible refine SameBut.each (fun _ _ => ?_) ?_ _
  with_reducible refine (State.updReflex_frame _ _ _).after (by decide) ?_
  with_reducible exact SameBut.refl _ _
  with_reducible refine (SameBut.mov_frame _ _).after (by decide) ?_
  with_reducible exact SameBut.refl _ _
  with_reducible exact SameBut.refl _ _

theorem State.fireReflex_frame (s : State) (e : Nat) (f : Fallback) (t : Int × Int × Int × Int) :
    SameBut [.hrt, .regs, .events, .loops, .mov, .est, .porches, .free] s (State.fireReflex s e f t) := by
  unfold State.fireReflex
  extract_lets id m ung m1 s1 s2 ms e1 s3 s4 s5 s6 s7
  have h1 : SameBut [.hrt, .regs, .events, .loops, .mov, .est, .porches, .free] s s1 := (SameBut.mov_frame _ _).mono (by decide)
  have h2 : SameBut [.hrt, .regs, .events, .loops, .mov, .est, .porches, .free] s s2 :=
    h1.trans ((SameBut.each (fun _ _ => State.updLoop_frame _ _ _) (SameBut.refl _ _) _).mono (by decide))
  have h3 : SameBut [.hrt, .regs, .events, .loops, .mov, .est, .porches, .free] s s3 := (SameBut.est_frame _ _).after (by decide) h2
  have h4 : SameBut [.hrt, .regs, .events, .loops, .mov, .est, .porches, .free] s s4 := (State.updPath_frame _ _ _).after (by decide) h3
  have h5 : SameBut [.hrt, .regs, .events, .loops, .mov, .est, .porches, .free] s s5 := (State.updReflex_frame _ _ _).after (by decide) h4
  have h6 : SameBut [.hrt, .regs, .events, .loops, .mov, .est, .porches, .free] s s6 :=
    (State.moveEvt_frame _ _ _ _).after (by decide) ((State.stateNotice_frame _ _ _ _).after (by decide) h5)
  have h7 : SameBut [.hrt, .regs, .events, .loops, .mov, .est, .porches, .free] s s7 := (State.count_frame _ _ _ _ _).after (by decide) h6
  split
  · exact h7.trans (State.inTick_frame _ _ (fun _ => (State.sendSched_frame _ _).mono (by decide)) (by decide))
  · exact h7

theorem State.skipReflex_frame (s : State) (e reason : Nat) (f : Fallback) :
    SameBut [.regs, .events] s (State.skipReflex s e reason f) := by
  unfold State.skipReflex
  extract_lets
  with_reducible refine (State.count_frame _ _ _ _ _).after (by decide) ?_
  with_reducible refine (State.raise_frame _ _ _ _ _).after (by decide) ?_
  with_reducible refine (State.raiseRecord_frame _ _ _ _ _).after (by decide) ?_
  with_reducible exact SameBut.refl _ _

theorem State.tripReflex_frame (s : State) (e : Nat) :
    SameBut [.hrt, .regs, .events, .loops, .mov, .est, .porches, .free] s (State.tripReflex s e) := by
  unfold State.tripReflex
  extract_lets
  split
  with_reducible refine (State.fireReflex_frame _ _ _ _).after (by decide) ?_
  with_reducible refine (State.updReflex_frame _ _ _).after (by decide) ?_
  with_reducible exact SameBut.refl _ _
  with_reducible refine (State.skipReflex_frame _ _ _ _).after (by decide) ?_
  with_reducible refine (State.updReflex_frame _ _ _).after (by decide) ?_
  with_reducible exact SameBut.refl _ _

theorem State.reflexTick_frame (s : State) :
    SameBut [.hrt, .regs, .events, .loops, .mov, .est, .porches, .free] s (State.reflexTick s) := by
  unfold State.reflexTick
  extract_lets
  with_reducible refine SameBut.foldl (fun _ _ => ?_) ?_ _
  with_reducible refine (State.updReflex_frame _ _ _).after (by decide) ?_
  with_reducible exact SameBut.refl _ _
  with_reducible refine SameBut.each (fun _ _ => ?_) ?_ _
  with_reducible refine (State.tripReflex_frame _ _).after (by decide) ?_
  with_reducible exact SameBut.refl _ _
  with_reducible exact SameBut.refl _ _

theorem State.losePath_frame (s : State) (i : Nat) :
    SameBut [.events, .mov] s (State.losePath s i) := by
  unfold State.losePath
  extract_lets
  with_reducible refine SameBut.ite ?_ ?_
  with_reducible refine (State.raise_frame _ _ _ _ _).after (by decide) ?_
  with_reducible refine (State.raiseRecord_frame _ _ _ _ _).after (by decide) ?_
  with_reducible refine (State.updPath_frame _ _ _).after (by decide) ?_
  with_reducible refine (State.updService_frame _ _ _).after (by decide) ?_
  with_reducible exact SameBut.refl _ _
  with_reducible refine (State.updPath_frame _ _ _).after (by decide) ?_
  with_reducible refine (State.updService_frame _ _ _).after (by decide) ?_
  with_reducible exact SameBut.refl _ _

theorem State.serviceTick_frame (s : State) :
    SameBut [.events, .mov] s (State.serviceTick s) := by
  unfold State.serviceTick
  extract_lets
  with_reducible refine (SameBut.mov_frame _ _).after (by decide) ?_
  with_reducible refine SameBut.each (fun _ _ => ?_) ?_ _
  with_reducible refine (State.losePath_frame _ _).after (by decide) ?_
  with_reducible exact SameBut.refl _ _
  with_reducible exact SameBut.refl _ _

theorem State.noticeLater_frame (s : State) (f : State → State) :
    SameBut [.events, .later] s (State.noticeLater s f) := by
  unfold State.noticeLater
  extract_lets
  with_reducible refine (SameBut.later_frame _ _).after (by decide) ?_
  with_reducible exact SameBut.refl _ _

theorem State.takeAbort_frame (s : State) (o : TakenOrder) :
    SameBut [.taken, .events, .later, .loops, .mov] s (State.takeAbort s o) := by
  unfold State.takeAbort
  extract_lets
  with_reducible refine (State.settle_frame _ _ _ _).after (by decide) ?_
  with_reducible refine (State.noticeLater_frame _ _).after (by decide) ?_
  with_reducible refine SameBut.ite ?_ ?_
  with_reducible refine (State.abortMove_frame _ _ _ _).after (by decide) ?_
  with_reducible exact SameBut.refl _ _
  with_reducible exact SameBut.refl _ _

theorem State.takeAborts_frame (s : State) :
    SameBut [.taken, .events, .later, .loops, .mov] s (State.takeAborts s) := by
  unfold State.takeAborts
  with_reducible refine SameBut.foldl (fun _ _ => ?_) ?_ _
  with_reducible refine (State.takeAbort_frame _ _).after (by decide) ?_
  with_reducible exact SameBut.refl _ _
  with_reducible exact SameBut.refl _ _

theorem State.rearmEntry_frame (s : State) (e : Nat) :
    SameBut [.mov] s (State.rearmEntry s e) := by
  unfold State.rearmEntry
  extract_lets
  with_reducible refine (SameBut.mov_frame _ _).after (by decide) ?_
  with_reducible refine (State.updReflex_frame _ _ _).after (by decide) ?_
  with_reducible exact SameBut.refl _ _

theorem State.takeMovCmd_frame (s : State) :
    SameBut [.regs, .events, .later, .ops, .loops, .mov] s (State.takeMovCmd s) := by
  unfold State.takeMovCmd
  extract_lets
  split
  with_reducible refine (State.setField_frame _ _ _ _ _).after (by decide) ?_
  with_reducible refine (State.noticeLater_frame _ _).after (by decide) ?_
  with_reducible refine SameBut.ite ?_ ?_
  with_reducible refine (State.abortMove_frame _ _ _ _).after (by decide) ?_
  with_reducible refine (SameBut.ops_frame _ _).after (by decide) ?_
  with_reducible exact SameBut.refl _ _
  with_reducible refine (SameBut.ops_frame _ _).after (by decide) ?_
  with_reducible exact SameBut.refl _ _
  with_reducible refine SameBut.ite ?_ ?_
  with_reducible refine (State.setField_frame _ _ _ _ _).after (by decide) ?_
  with_reducible refine (State.rearmEntry_frame _ _).after (by decide) ?_
  with_reducible refine (SameBut.ops_frame _ _).after (by decide) ?_
  with_reducible exact SameBut.refl _ _
  with_reducible refine (State.setField_frame _ _ _ _ _).after (by decide) ?_
  with_reducible refine (SameBut.ops_frame _ _).after (by decide) ?_
  with_reducible exact SameBut.refl _ _
  with_reducible refine (State.setField_frame _ _ _ _ _).after (by decide) ?_
  with_reducible refine (State.rearmAll_frame _).after (by decide) ?_
  with_reducible refine (SameBut.ops_frame _ _).after (by decide) ?_
  with_reducible exact SameBut.refl _ _
  with_reducible refine (SameBut.ops_frame _ _).after (by decide) ?_
  with_reducible exact SameBut.refl _ _

theorem State.movePaths_frame (s : State) :
    SameBut [.hrt, .taken, .regs, .events, .later, .ops, .loops, .mov, .est, .porches, .free] s (State.movePaths s) := by
  unfold State.movePaths
  extract_lets
  with_reducible refine (State.recheckTick_frame _).after (by decide) ?_
  with_reducible refine (State.dropPartial_frame _).after (by decide) ?_
  with_reducible refine SameBut.each (fun _ _ => ?_) ?_ _
  with_reducible refine (State.moveReleases_frame _ _).after (by decide) ?_
  with_reducible exact SameBut.refl _ _
  with_reducible refine (State.takeAborts_frame _).after (by decide) ?_
  with_reducible refine (State.takeMovCmd_frame _).after (by decide) ?_
  with_reducible refine SameBut.each (fun _ _ => ?_) ?_ _
  extract_lets
  split
  with_reducible refine SameBut.ite ?_ ?_
  with_reducible refine (State.missDeadline_frame _ _).after (by decide) ?_
  with_reducible exact SameBut.refl _ _
  with_reducible exact SameBut.refl _ _
  with_reducible exact SameBut.refl _ _
  with_reducible refine SameBut.each (fun _ _ => ?_) ?_ _
  with_reducible refine (State.decideMove_frame _ _).after (by decide) ?_
  with_reducible exact SameBut.refl _ _
  with_reducible refine (State.reflexTick_frame _).after (by decide) ?_
  with_reducible refine (State.serviceTick_frame _).after (by decide) ?_
  with_reducible exact SameBut.refl _ _

theorem State.retimeMoves_frame (s : State) :
    SameBut [.loops, .mov] s (State.retimeMoves s) := by
  unfold State.retimeMoves
  with_reducible refine SameBut.each (fun _ _ => ?_) ?_ _
  extract_lets
  split
  with_reducible refine SameBut.ite ?_ ?_
  with_reducible exact SameBut.refl _ _
  with_reducible refine (State.updMove_frame _ _ _).after (by decide) ?_
  with_reducible refine SameBut.ite ?_ ?_
  with_reducible refine (State.reopen_frame _ _).after (by decide) ?_
  with_reducible exact SameBut.refl _ _
  with_reducible exact SameBut.refl _ _
  with_reducible exact SameBut.refl _ _
  with_reducible exact SameBut.refl _ _

theorem State.commitMoves_frame (s : State) (restarted : List Nat) (patch : Bool) :
    SameBut [.events, .loops, .mov] s (State.commitMoves s restarted patch) := by
  unfold State.commitMoves
  extract_lets
  with_reducible refine SameBut.foldl (fun _ _ => ?_) ?_ _
  with_reducible refine (State.leaveService_frame _ _ _).after (by decide) ?_
  with_reducible exact SameBut.refl _ _
  with_reducible refine SameBut.each (fun _ _ => ?_) ?_ _
  extract_lets
  split
  with_reducible refine SameBut.ite ?_ ?_
  with_reducible exact SameBut.refl _ _
  with_reducible refine SameBut.ite ?_ ?_
  with_reducible refine (State.abortMove_frame _ _ _ _).after (by decide) ?_
  with_reducible exact SameBut.refl _ _
  with_reducible refine SameBut.ite ?_ ?_
  with_reducible refine (State.reopen_frame _ _).after (by decide) ?_
  with_reducible exact SameBut.refl _ _
  with_reducible exact SameBut.refl _ _
  with_reducible exact SameBut.refl _ _
  with_reducible exact SameBut.refl _ _

theorem execAbort_frame (src : CtlSource) (s : State) :
    Frames [.taken, .regs, .events, .later, .ops, .loops, .mov, .ram] s (execAbort src s) := by
  unfold execAbort
  extract_lets
  split
  with_reducible refine Frames.next ?_
  with_reducible refine (SameBut.ops_frame _ _).after (by decide) ?_
  with_reducible exact SameBut.refl _ _
  split
  with_reducible refine Frames.next ?_
  with_reducible refine (State.takeAbort_frame _ _).after (by decide) ?_
  with_reducible exact SameBut.refl _ _
  with_reducible refine Frames.next ?_
  with_reducible refine (State.takeEarly_frame _ _ _ _).after (by decide) ?_
  with_reducible exact SameBut.refl _ _

theorem execRearm_frame (entry : BitVec 12) (s : State) :
    Frames [.ops] s (execRearm entry s) := by
  unfold execRearm
  extract_lets
  with_reducible refine Frames.next ?_
  with_reducible refine (SameBut.ops_frame _ _).after (by decide) ?_
  with_reducible exact SameBut.refl _ _

theorem execRearmAll_frame (s : State) :
    Frames [.ops] s (execRearmAll s) := by
  unfold execRearmAll
  extract_lets
  with_reducible refine Frames.next ?_
  with_reducible refine (SameBut.ops_frame _ _).after (by decide) ?_
  with_reducible exact SameBut.refl _ _

theorem execDeadlineMissed_frame (id : BitVec 32) (s : State) :
    Frames [.events, .loops, .mov] s (execDeadlineMissed id s) := by
  unfold execDeadlineMissed
  split
  with_reducible refine Frames.next ?_
  with_reducible refine SameBut.ite ?_ ?_
  with_reducible refine (State.missDeadline_frame _ _).after (by decide) ?_
  with_reducible exact SameBut.refl _ _
  with_reducible exact SameBut.refl _ _
  with_reducible refine Frames.next ?_
  with_reducible exact SameBut.refl _ _

theorem execLegEnd_frame (id : BitVec 32) (mirror : BitVec 13) (s : State) :
    Frames [.loops, .mov] s (execLegEnd id mirror s) := by
  unfold execLegEnd
  split
  split
  with_reducible refine Frames.next ?_
  with_reducible refine SameBut.ite ?_ ?_
  with_reducible refine (State.legStep_frame _ _ _).after (by decide) ?_
  with_reducible exact SameBut.refl _ _
  with_reducible exact SameBut.refl _ _
  with_reducible refine Frames.next ?_
  with_reducible exact SameBut.refl _ _
  with_reducible refine Frames.next ?_
  with_reducible exact SameBut.refl _ _

theorem execMoveStart_frame (id : BitVec 32) (s : State) :
    Frames [.events, .loops, .mov] s (execMoveStart id s) := by
  unfold execMoveStart
  split
  with_reducible refine Frames.next ?_
  with_reducible refine SameBut.ite ?_ ?_
  with_reducible refine (State.moveSteps_frame _ _).after (by decide) ?_
  with_reducible refine (State.startMove_frame _ _).after (by decide) ?_
  with_reducible exact SameBut.refl _ _
  with_reducible exact SameBut.refl _ _
  with_reducible refine Frames.next ?_
  with_reducible exact SameBut.refl _ _

theorem execPathLoss_frame (port : BitVec 12) (s : State) :
    Frames [.events, .mov] s (execPathLoss port s) := by
  unfold execPathLoss
  with_reducible refine Frames.next ?_
  with_reducible refine SameBut.ite ?_ ?_
  with_reducible refine (State.losePath_frame _ _).after (by decide) ?_
  with_reducible exact SameBut.refl _ _
  with_reducible exact SameBut.refl _ _

theorem execPathReady_frame (port : BitVec 12) (s : State) :
    Frames [.mov] s (execPathReady port s) := by
  unfold execPathReady
  split
  with_reducible refine Frames.next ?_
  with_reducible refine SameBut.ite ?_ ?_
  with_reducible refine (State.makeReady_frame _ _ _).after (by decide) ?_
  with_reducible exact SameBut.refl _ _
  with_reducible exact SameBut.refl _ _
  with_reducible refine Frames.next ?_
  with_reducible exact SameBut.refl _ _

theorem execReflexTrip_frame (entry : BitVec 12) (s : State) :
    Frames [.hrt, .regs, .events, .loops, .mov, .est, .porches, .free] s (execReflexTrip entry s) := by
  unfold execReflexTrip
  with_reducible refine Frames.next ?_
  with_reducible refine SameBut.ite ?_ ?_
  with_reducible refine (State.tripReflex_frame _ _).after (by decide) ?_
  with_reducible exact SameBut.refl _ _
  with_reducible exact SameBut.refl _ _

theorem execSettleTimeout_frame (port : BitVec 12) (s : State) :
    Frames [.mov] s (execSettleTimeout port s) := by
  unfold execSettleTimeout
  split
  with_reducible refine Frames.next ?_
  with_reducible refine SameBut.ite ?_ ?_
  with_reducible refine (State.closePath_frame _ _ _ _ _ _).after (by decide) ?_
  with_reducible exact SameBut.refl _ _
  with_reducible exact SameBut.refl _ _
  with_reducible refine Frames.next ?_
  with_reducible exact SameBut.refl _ _

end Sys2Proof.Machine
end

