-- ==== Sys2Proof/Laws/Frame/Sense.lean ====
section
/-! SUPPORT. What the definitions of Machine/Sense.lean change of the state: one frame for each. -/
namespace Sys2Proof.Machine

theorem State.tapTick_frame (s : State) :
    SameBut [.mov] s (State.tapTick s) := by
  unfold State.tapTick
  extract_lets
  with_reducible refine (SameBut.mov_frame _ _).after (by decide) ?_
  with_reducible exact SameBut.refl _ _

theorem State.setPatch_frame (s : State) (expo mirror : Nat) (q : Patch) :
    SameBut [.est] s (State.setPatch s expo mirror q) := by
  unfold State.setPatch
  with_reducible refine (State.updPatch_frame _ _ _).after (by decide) ?_
  with_reducible exact SameBut.refl _ _

theorem State.losePatch_frame (s : State) (p expo mirror : Nat) :
    SameBut [.regs, .est] s (State.losePatch s p expo mirror) := by
  unfold State.losePatch
  extract_lets
  with_reducible refine SameBut.ite ?_ ?_
  with_reducible exact SameBut.refl _ _
  with_reducible refine (State.count_frame _ _ _ _ _).after (by decide) ?_
  with_reducible refine (State.setPatch_frame _ _ _ _).after (by decide) ?_
  with_reducible exact SameBut.refl _ _

theorem State.checkPatch_frame (s : State) (x : Nat) (c : BitVec 13 × WordCheck) :
    SameBut [.regs, .events, .est, .shelves, .pantryRetired] s (State.checkPatch s x c) := by
  unfold State.checkPatch
  split
  with_reducible refine SameBut.ite ?_ ?_
  with_reducible refine (State.losePatch_frame _ _ _ _).after (by decide) ?_
  with_reducible refine (State.noteWord_frame _ _ _).after (by decide) ?_
  with_reducible exact SameBut.refl _ _
  with_reducible refine (State.noteWord_frame _ _ _).after (by decide) ?_
  with_reducible exact SameBut.refl _ _
  with_reducible exact SameBut.refl _ _

theorem State.dropPackets_frame (s : State) (n : Nat) (p : List Word → Bool) :
    SameBut [.shelves] s (State.dropPackets s n p) := by
  unfold State.dropPackets
  with_reducible refine (State.updShelf_frame _ _ _).after (by decide) ?_
  with_reducible exact SameBut.refl _ _

theorem State.losePassed_frame (s : State) (p expo m : Nat) :
    SameBut [.regs, .est] s (State.losePassed s p expo m) := by
  unfold State.losePassed
  extract_lets
  with_reducible refine SameBut.each (fun _ _ => ?_) ?_ _
  with_reducible refine SameBut.ite ?_ ?_
  with_reducible refine (State.losePatch_frame _ _ _ _).after (by decide) ?_
  with_reducible exact SameBut.refl _ _
  with_reducible exact SameBut.refl _ _
  with_reducible exact SameBut.refl _ _

theorem State.loseRest_frame (s : State) (p expo : Nat) :
    SameBut [.regs, .est] s (State.loseRest s p expo) := by
  unfold State.loseRest
  extract_lets
  with_reducible refine (State.losePassed_frame _ _ _ _).after (by decide) ?_
  with_reducible exact SameBut.refl _ _

theorem State.patchTick_frame (s : State) :
    SameBut [.regs, .est, .shelves] s (State.patchTick s) := by
  unfold State.patchTick
  extract_lets
  with_reducible refine (SameBut.est_frame _ _).after (by decide) ?_
  with_reducible refine SameBut.each (fun _ _ => ?_) ?_ _
  with_reducible refine (State.dropPackets_frame _ _ _).after (by decide) ?_
  with_reducible exact SameBut.refl _ _
  with_reducible refine SameBut.ite ?_ ?_
  with_reducible refine SameBut.each (fun _ _ => ?_) ?_ _
  with_reducible refine (State.count_frame _ _ _ _ _).after (by decide) ?_
  with_reducible exact SameBut.refl _ _
  with_reducible refine SameBut.each (fun _ _ => ?_) ?_ _
  with_reducible refine (State.loseRest_frame _ _ _).after (by decide) ?_
  with_reducible exact SameBut.refl _ _
  with_reducible exact SameBut.refl _ _
  with_reducible refine SameBut.each (fun _ _ => ?_) ?_ _
  with_reducible refine (State.loseRest_frame _ _ _).after (by decide) ?_
  with_reducible exact SameBut.refl _ _
  with_reducible exact SameBut.refl _ _

theorem State.silentImagers_frame (s : State) :
    SameBut [.att, .events, .porches] s (State.silentImagers s) := by
  unfold State.silentImagers
  extract_lets
  with_reducible refine SameBut.each (fun _ _ => ?_) ?_ _
  with_reducible refine (State.updPorch_frame _ _ _).after (by decide) ?_
  with_reducible exact SameBut.refl _ _
  with_reducible refine SameBut.each (fun _ _ => ?_) ?_ _
  with_reducible refine (State.record_frame _ _ _ _ _).after (by decide) ?_
  with_reducible refine (State.raise_frame _ _ _ _ _).after (by decide) ?_
  with_reducible exact SameBut.refl _ _
  with_reducible exact SameBut.refl _ _

theorem State.fixFlags_frame (s : State) (expo m : Nat) :
    SameBut [.est] s (State.fixFlags s expo m) := by
  unfold State.fixFlags
  extract_lets
  split
  with_reducible refine SameBut.ite ?_ ?_
  with_reducible exact SameBut.refl _ _
  with_reducible refine (State.setPatch_frame _ _ _ _).after (by decide) ?_
  with_reducible exact SameBut.refl _ _
  with_reducible exact SameBut.refl _ _

theorem State.receive_frame (s : State) (p : Nat) :
    SameBut [.regs, .porches] s (State.receive s p) := by
  unfold State.receive
  with_reducible refine (State.count_frame _ _ _ _ _).after (by decide) ?_
  with_reducible refine (State.updPorch_frame _ _ _).after (by decide) ?_
  with_reducible exact SameBut.refl _ _

theorem State.noteSaturate_frame (s : State) (o : NetOut) :
    SameBut [.til] s (State.noteSaturate s o) := by
  unfold State.noteSaturate
  with_reducible refine SameBut.ite ?_ ?_
  with_reducible refine (State.updTile_frame _ _ _).after (by decide) ?_
  with_reducible exact SameBut.refl _ _
  with_reducible exact SameBut.refl _ _

theorem State.landOut_frame (s : State) (late : List Nat) (o : NetOut) :
    SameBut [.hrt, .regs, .loops, .est, .porches, .til, .free] s (State.landOut s late o) := by
  unfold State.landOut
  extract_lets
  with_reducible refine SameBut.ite ?_ ?_
  with_reducible refine (State.cellReady_frame _ _).after (by decide) ?_
  with_reducible refine (State.cellReady_frame _ _).after (by decide) ?_
  with_reducible refine (State.landRecord_frame _ _ _).after (by decide) ?_
  with_reducible refine (State.noteSaturate_frame _ _).after (by decide) ?_
  with_reducible refine (State.fixFlags_frame _ _ _).after (by decide) ?_
  with_reducible exact SameBut.refl _ _
  with_reducible exact SameBut.refl _ _

theorem State.patchBitsIn_frame (s : State) (p expo m b : Nat) (l : List Bool) :
    SameBut [.regs, .est, .porches] s (State.patchBitsIn s p expo m b l) := by
  unfold State.patchBitsIn
  extract_lets
  with_reducible refine SameBut.ite ?_ ?_
  with_reducible refine SameBut.ite ?_ ?_
  with_reducible refine (State.count_frame _ _ _ _ _).after (by decide) ?_
  with_reducible exact SameBut.refl _ _
  with_reducible exact SameBut.refl _ _
  with_reducible refine SameBut.ite ?_ ?_
  with_reducible refine (State.updPorch_frame _ _ _).after (by decide) ?_
  with_reducible refine (State.setPatch_frame _ _ _ _).after (by decide) ?_
  with_reducible refine SameBut.ite ?_ ?_
  with_reducible refine (State.losePatch_frame _ _ _ _).after (by decide) ?_
  with_reducible exact SameBut.refl _ _
  with_reducible exact SameBut.refl _ _
  with_reducible refine (State.setPatch_frame _ _ _ _).after (by decide) ?_
  with_reducible refine SameBut.ite ?_ ?_
  with_reducible refine (State.losePatch_frame _ _ _ _).after (by decide) ?_
  with_reducible exact SameBut.refl _ _
  with_reducible exact SameBut.refl _ _

theorem State.patchSpread_frame (s : State) (p expo : Nat) (l : List (Nat × Nat × Nat)) (bs : List Bool) :
    SameBut [.regs, .est, .porches] s (s.patchSpread p expo l bs) := by
  induction l generalizing s bs with
  | nil => exact SameBut.refl _ _
  | cons x xs ih => exact (State.patchBitsIn_frame _ _ _ _ _ _).trans (ih _ _)

theorem State.shelfCell_frame (s : State) (p typ lseq : Nat) (payload : List Byte) :
    SameBut [.regs, .events, .shelves] s (s.shelfCell p typ lseq payload).1 := State.pushPacket_frame _ _ _

theorem State.takePatch_frame (s : State) (p x seq mirror bit : Nat) (pieces : List (Nat × Nat × Nat)) (pixels : List Byte) :
    SameBut [.regs, .events, .est, .porches, .shelves] s (State.takePatch s p x seq mirror bit pieces pixels) := by
  unfold State.takePatch
  extract_lets e mine s1 s2 s3 r
  have h1 : SameBut [.regs, .events, .est, .porches, .shelves] s s1 := (State.count_frame _ _ _ _ _).mono (by decide)
  have h2 : SameBut [.regs, .events, .est, .porches, .shelves] s s2 := SameBut.ite ((State.loseRest_frame _ _ _).after (by decide) h1) h1
  have h3 : SameBut [.regs, .events, .est, .porches, .shelves] s s3 := (State.updPorch_frame _ _ _).after (by decide) ((State.losePassed_frame _ _ _ _).after (by decide) h2)
  have h4 : SameBut [.regs, .events, .est, .porches, .shelves] s r.1 := (State.shelfCell_frame _ _ _ _ _).after (by decide) h3
  refine SameBut.ite (SameBut.foldl (fun _ _ => (State.patchBitsIn_frame _ _ _ _ _ _).mono (by decide)) h2 _) (SameBut.ite ?_ ?_)
  · exact (State.patchSpread_frame _ _ _ _ _).after (by decide) h4
  · exact SameBut.foldl (fun _ _ => (State.losePatch_frame _ _ _ _).mono (by decide)) h4 _

theorem execCellDropped_frame (porch : BitVec 4) (cause : DropCause) (mirror : Option (BitVec 13)) (s : State) :
    Frames [.regs, .events, .est, .porches, .shelves] s (execCellDropped porch cause mirror s) := by
  unfold execCellDropped
  extract_lets
  with_reducible refine Frames.ite ?_ ?_
  with_reducible refine Frames.next ?_
  with_reducible exact SameBut.refl _ _
  extract_lets
  split
  with_reducible refine Frames.next ?_
  with_reducible refine SameBut.ite ?_ ?_
  with_reducible refine (State.losePatch_frame _ _ _ _).after (by decide) ?_
  with_reducible refine (State.updPorch_frame _ _ _).after (by decide) ?_
  with_reducible refine SameBut.ite ?_ ?_
  with_reducible refine (State.rewind_frame _ _ _ _).after (by decide) ?_
  with_reducible refine (State.count_frame _ _ _ _ _).after (by decide) ?_
  with_reducible exact SameBut.refl _ _
  with_reducible refine (State.count_frame _ _ _ _ _).after (by decide) ?_
  with_reducible exact SameBut.refl _ _
  with_reducible refine (State.updPorch_frame _ _ _).after (by decide) ?_
  with_reducible refine SameBut.ite ?_ ?_
  with_reducible refine (State.rewind_frame _ _ _ _).after (by decide) ?_
  with_reducible refine (State.count_frame _ _ _ _ _).after (by decide) ?_
  with_reducible exact SameBut.refl _ _
  with_reducible refine (State.count_frame _ _ _ _ _).after (by decide) ?_
  with_reducible exact SameBut.refl _ _
  with_reducible refine Frames.next ?_
  with_reducible refine (State.count_frame _ _ _ _ _).after (by decide) ?_
  with_reducible refine (State.updPorch_frame _ _ _).after (by decide) ?_
  with_reducible refine SameBut.ite ?_ ?_
  with_reducible refine (State.rewind_frame _ _ _ _).after (by decide) ?_
  with_reducible refine (State.count_frame _ _ _ _ _).after (by decide) ?_
  with_reducible exact SameBut.refl _ _
  with_reducible refine (State.count_frame _ _ _ _ _).after (by decide) ?_
  with_reducible exact SameBut.refl _ _
  with_reducible refine Frames.next ?_
  with_reducible refine (State.updPorch_frame _ _ _).after (by decide) ?_
  with_reducible refine SameBut.ite ?_ ?_
  with_reducible refine (State.rewind_frame _ _ _ _).after (by decide) ?_
  with_reducible refine (State.count_frame _ _ _ _ _).after (by decide) ?_
  with_reducible exact SameBut.refl _ _
  with_reducible refine (State.count_frame _ _ _ _ _).after (by decide) ?_
  with_reducible exact SameBut.refl _ _

theorem execCutoff_frame (mirrors : BitVec 13 × BitVec 14) (checks : List (BitVec 13 × WordCheck)) (s : State) :
    Frames [.regs, .events, .est, .shelves, .pantryRetired] s (execCutoff mirrors checks s) := by
  unfold execCutoff
  extract_lets
  with_reducible refine Frames.next ?_
  with_reducible refine SameBut.each (fun _ _ => ?_) ?_ _
  with_reducible refine (State.dropPackets_frame _ _ _).after (by decide) ?_
  with_reducible exact SameBut.refl _ _
  with_reducible refine SameBut.each (fun _ _ => ?_) ?_ _
  with_reducible refine (State.fixFlags_frame _ _ _).after (by decide) ?_
  with_reducible exact SameBut.refl _ _
  with_reducible refine SameBut.foldl (fun _ _ => ?_) ?_ _
  with_reducible refine (State.checkPatch_frame _ _ _).after (by decide) ?_
  with_reducible exact SameBut.refl _ _
  with_reducible exact SameBut.refl _ _

theorem execEstimateLands_frame (outs : List NetOut) (late : List (BitVec 14)) (s : State) :
    Frames [.hrt, .regs, .loops, .est, .porches, .til, .free] s (execEstimateLands outs late s) := by
  unfold execEstimateLands
  with_reducible refine Frames.ite ?_ ?_
  with_reducible refine Frames.next ?_
  with_reducible refine SameBut.foldl (fun _ _ => ?_) ?_ _
  with_reducible refine (State.landOut_frame _ _ _).after (by decide) ?_
  with_reducible exact SameBut.refl _ _
  with_reducible exact SameBut.refl _ _
  with_reducible refine Frames.next ?_
  with_reducible exact SameBut.refl _ _

theorem execPatchCell_frame (porch : BitVec 4) (expo : BitVec 32) (mirror : BitVec 13) (bit : BitVec 16) (pixels : List Byte) (s : State) :
    Frames [.regs, .events, .est, .porches, .shelves] s (execPatchCell porch expo mirror bit pixels s) := by
  unfold execPatchCell
  extract_lets
  with_reducible refine Frames.ite ?_ ?_
  with_reducible refine Frames.next ?_
  with_reducible exact SameBut.refl _ _
  extract_lets
  split
  with_reducible refine Frames.ite ?_ ?_
  with_reducible refine Frames.next ?_
  with_reducible refine (State.takePatch_frame _ _ _ _ _ _ _ _).after (by decide) ?_
  with_reducible refine (State.receive_frame _ _).after (by decide) ?_
  with_reducible exact SameBut.refl _ _
  with_reducible refine Frames.next ?_
  with_reducible refine (State.count_frame _ _ _ _ _).after (by decide) ?_
  with_reducible refine (State.receive_frame _ _).after (by decide) ?_
  with_reducible exact SameBut.refl _ _
  with_reducible refine Frames.next ?_
  with_reducible refine (State.count_frame _ _ _ _ _).after (by decide) ?_
  with_reducible refine (State.receive_frame _ _).after (by decide) ?_
  with_reducible exact SameBut.refl _ _

theorem execTapCell_frame (porch : BitVec 4) (tick : BitVec 32) (first : BitVec 12) (readings : List TapReading × WordCheck) (s : State) :
    Frames [.regs, .events, .mov, .porches, .shelves, .pantryRetired] s (execTapCell porch tick first readings s) := by
  unfold execTapCell
  extract_lets
  with_reducible refine Frames.ite ?_ ?_
  with_reducible refine Frames.next ?_
  with_reducible exact SameBut.refl _ _
  with_reducible refine Frames.ite ?_ ?_
  with_reducible refine Frames.ite ?_ ?_
  with_reducible refine Frames.next ?_
  with_reducible refine (State.noteWord_frame _ _ _).after (by decide) ?_
  with_reducible refine (State.receive_frame _ _).after (by decide) ?_
  with_reducible exact SameBut.refl _ _
  with_reducible refine Frames.next ?_
  with_reducible refine (SameBut.mov_frame _ _).after (by decide) ?_
  with_reducible refine (State.noteWord_frame _ _ _).after (by decide) ?_
  with_reducible refine (State.receive_frame _ _).after (by decide) ?_
  with_reducible exact SameBut.refl _ _
  with_reducible refine Frames.next ?_
  with_reducible refine (State.receive_frame _ _).after (by decide) ?_
  with_reducible exact SameBut.refl _ _

end Sys2Proof.Machine
end

