-- ==== Sys2Proof/Laws/Frame/Lanes.lean ====
section
/-! SUPPORT. What the definitions of Machine/Lanes.lean change of the state: one frame for each. -/
namespace Sys2Proof.Machine

theorem State.askLane_frame (s : State) (p op l : Nat) :
    SameBut [.cals] s (State.askLane s p op l) := by
  unfold State.askLane
  with_reducible refine (State.updCal_frame _ _ _).after (by decide) ?_
  with_reducible exact SameBut.refl _ _

theorem State.endRun_frame (s : State) (p result : Nat) (stays : Bool) :
    SameBut [.regs, .events, .lanes, .cals] s (State.endRun s p result stays) := by
  unfold State.endRun
  extract_lets
  with_reducible refine (State.raise_frame _ _ _ _ _).after (by decide) ?_
  with_reducible refine (State.count_frame _ _ _ _ _).after (by decide) ?_
  with_reducible refine (State.updCal_frame _ _ _).after (by decide) ?_
  with_reducible refine (State.updLane_frame _ _ _ _).after (by decide) ?_
  with_reducible exact SameBut.refl _ _

theorem State.abandonRun_frame (s : State) (p : Nat) (stays move : Bool) :
    SameBut [.regs, .events, .lanes, .cals] s (State.abandonRun s p stays move) := by
  unfold State.abandonRun
  extract_lets
  with_reducible refine SameBut.ite ?_ ?_
  with_reducible exact SameBut.refl _ _
  with_reducible refine SameBut.ite ?_ ?_
  with_reducible refine (State.endRun_frame _ _ _ _).after (by decide) ?_
  with_reducible exact SameBut.refl _ _
  with_reducible refine SameBut.ite ?_ ?_
  with_reducible refine SameBut.ite ?_ ?_
  with_reducible refine (State.endRun_frame _ _ _ _).after (by decide) ?_
  with_reducible exact SameBut.refl _ _
  with_reducible refine (State.askLane_frame _ _ _ _).after (by decide) ?_
  with_reducible refine (State.endRun_frame _ _ _ _).after (by decide) ?_
  with_reducible exact SameBut.refl _ _
  with_reducible refine SameBut.ite ?_ ?_
  with_reducible refine (State.endRun_frame _ _ _ _).after (by decide) ?_
  with_reducible exact SameBut.refl _ _
  with_reducible refine (State.askLane_frame _ _ _ _).after (by decide) ?_
  with_reducible refine (State.endRun_frame _ _ _ _).after (by decide) ?_
  with_reducible exact SameBut.refl _ _

theorem State.answerLane_frame (s : State) (p op l : Nat) :
    SameBut [.regs, .porches, .free] s (State.answerLane s p op l) := by
  unfold State.answerLane
  extract_lets
  with_reducible refine SameBut.ite ?_ ?_
  with_reducible refine (State.send_frame _ _ _ _).after (by decide) ?_
  with_reducible exact SameBut.refl _ _
  with_reducible refine (State.send_frame _ _ _ _).after (by decide) ?_
  with_reducible refine (State.updPorch_frame _ _ _).after (by decide) ?_
  with_reducible exact SameBut.refl _ _

theorem State.baseFrame_frame (s : State) (p l a : Nat) :
    SameBut [.events, .lanes] s (State.baseFrame s p l a) := by
  unfold State.baseFrame
  extract_lets
  with_reducible refine SameBut.ite ?_ ?_
  with_reducible exact SameBut.refl _ _
  with_reducible refine SameBut.ite ?_ ?_
  with_reducible refine (State.updLane_frame _ _ _ _).after (by decide) ?_
  with_reducible exact SameBut.refl _ _
  with_reducible refine (State.raise_frame _ _ _ _ _).after (by decide) ?_
  with_reducible refine (State.updLane_frame _ _ _ _).after (by decide) ?_
  with_reducible exact SameBut.refl _ _

theorem State.fadeFrame_frame (s : State) (p l a bits : Nat) :
    SameBut [.regs, .events, .lanes, .free] s (State.fadeFrame s p l a bits) := by
  unfold State.fadeFrame
  extract_lets
  with_reducible refine SameBut.ite ?_ ?_
  with_reducible refine (State.updLane_frame _ _ _ _).after (by decide) ?_
  with_reducible refine SameBut.ite ?_ ?_
  with_reducible refine (State.freeTick_frame _).after (by decide) ?_
  with_reducible refine (State.updLane_frame _ _ _ _).after (by decide) ?_
  with_reducible refine (State.count_frame _ _ _ _ _).after (by decide) ?_
  with_reducible exact SameBut.refl _ _
  with_reducible refine (State.updLane_frame _ _ _ _).after (by decide) ?_
  with_reducible refine (State.count_frame _ _ _ _ _).after (by decide) ?_
  with_reducible exact SameBut.refl _ _
  with_reducible refine (State.baseFrame_frame _ _ _ _).after (by decide) ?_
  with_reducible refine SameBut.ite ?_ ?_
  with_reducible refine (State.freeTick_frame _).after (by decide) ?_
  with_reducible refine (State.updLane_frame _ _ _ _).after (by decide) ?_
  with_reducible refine (State.count_frame _ _ _ _ _).after (by decide) ?_
  with_reducible exact SameBut.refl _ _
  with_reducible refine (State.updLane_frame _ _ _ _).after (by decide) ?_
  with_reducible refine (State.count_frame _ _ _ _ _).after (by decide) ?_
  with_reducible exact SameBut.refl _ _

theorem State.keepDuplicate_frame (s : State) (p j : Nat) :
    SameBut [.regs, .events, .lanes, .cals] s (State.keepDuplicate s p j) := by
  unfold State.keepDuplicate
  extract_lets
  with_reducible refine SameBut.ite ?_ ?_
  with_reducible refine (State.updLane_frame _ _ _ _).after (by decide) ?_
  with_reducible refine (State.abandonRun_frame _ _ _ _).after (by decide) ?_
  with_reducible exact SameBut.refl _ _
  with_reducible refine (State.abandonRun_frame _ _ _ _).after (by decide) ?_
  with_reducible exact SameBut.refl _ _

theorem State.backInService_frame (s : State) (p l : Nat) :
    SameBut [.lanes] s (State.backInService s p l) := by
  unfold State.backInService
  with_reducible refine (State.updLane_frame _ _ _ _).after (by decide) ?_
  with_reducible exact SameBut.refl _ _

theorem State.dropMirrorRequests_frame (s : State) (p : Nat) :
    SameBut [.lanes, .cals] s (State.dropMirrorRequests s p) := by
  unfold State.dropMirrorRequests
  extract_lets
  with_reducible refine SameBut.foldl (fun _ _ => ?_) ?_ _
  with_reducible refine (State.updLane_frame _ _ _ _).after (by decide) ?_
  with_reducible exact SameBut.refl _ _
  with_reducible refine (State.updCal_frame _ _ _).after (by decide) ?_
  with_reducible exact SameBut.refl _ _

theorem State.loseSpare_frame (s : State) (p : Nat) :
    SameBut [.regs, .events, .porches, .lanes, .cals] s (State.loseSpare s p) := by
  unfold State.loseSpare
  extract_lets
  split
  with_reducible refine SameBut.ite ?_ ?_
  with_reducible refine (State.updLane_frame _ _ _ _).after (by decide) ?_
  with_reducible refine (State.updPorch_frame _ _ _).after (by decide) ?_
  with_reducible refine (State.backInService_frame _ _ _).after (by decide) ?_
  with_reducible refine (State.dropMirrorRequests_frame _ _).after (by decide) ?_
  with_reducible refine (State.updLane_frame _ _ _ _).after (by decide) ?_
  with_reducible refine SameBut.ite ?_ ?_
  with_reducible refine (State.abandonRun_frame _ _ _ _).after (by decide) ?_
  with_reducible exact SameBut.refl _ _
  with_reducible exact SameBut.refl _ _
  with_reducible refine (State.askLane_frame _ _ _ _).after (by decide) ?_
  with_reducible refine (State.askLane_frame _ _ _ _).after (by decide) ?_
  with_reducible refine (State.dropMirrorRequests_frame _ _).after (by decide) ?_
  with_reducible refine (State.updLane_frame _ _ _ _).after (by decide) ?_
  with_reducible refine SameBut.ite ?_ ?_
  with_reducible refine (State.abandonRun_frame _ _ _ _).after (by decide) ?_
  with_reducible exact SameBut.refl _ _
  with_reducible exact SameBut.refl _ _
  with_reducible refine (State.askLane_frame _ _ _ _).after (by decide) ?_
  with_reducible refine (State.askLane_frame _ _ _ _).after (by decide) ?_
  with_reducible refine (State.dropMirrorRequests_frame _ _).after (by decide) ?_
  with_reducible refine (State.updLane_frame _ _ _ _).after (by decide) ?_
  with_reducible refine SameBut.ite ?_ ?_
  with_reducible refine (State.abandonRun_frame _ _ _ _).after (by decide) ?_
  with_reducible exact SameBut.refl _ _
  with_reducible exact SameBut.refl _ _
  with_reducible refine (State.updPorch_frame _ _ _).after (by decide) ?_
  with_reducible refine (State.backInService_frame _ _ _).after (by decide) ?_
  with_reducible refine (State.dropMirrorRequests_frame _ _).after (by decide) ?_
  with_reducible refine (State.updLane_frame _ _ _ _).after (by decide) ?_
  with_reducible refine SameBut.ite ?_ ?_
  with_reducible refine (State.abandonRun_frame _ _ _ _).after (by decide) ?_
  with_reducible exact SameBut.refl _ _
  with_reducible exact SameBut.refl _ _
  with_reducible refine (State.dropMirrorRequests_frame _ _).after (by decide) ?_
  with_reducible refine (State.updLane_frame _ _ _ _).after (by decide) ?_
  with_reducible refine SameBut.ite ?_ ?_
  with_reducible refine (State.abandonRun_frame _ _ _ _).after (by decide) ?_
  with_reducible exact SameBut.refl _ _
  with_reducible exact SameBut.refl _ _

theorem State.fadeShed_frame (s : State) (p j : Nat) :
    SameBut [.regs, .events, .porches, .lanes, .cals] s (State.fadeShed s p j) := by
  unfold State.fadeShed
  with_reducible refine SameBut.ite ?_ ?_
  with_reducible refine (State.loseSpare_frame _ _).after (by decide) ?_
  with_reducible exact SameBut.refl _ _
  extract_lets
  split
  with_reducible refine (State.updLane_frame _ _ _ _).after (by decide) ?_
  with_reducible exact SameBut.refl _ _
  with_reducible refine (State.askLane_frame _ _ _ _).after (by decide) ?_
  with_reducible exact SameBut.refl _ _
  with_reducible refine (State.askLane_frame _ _ _ _).after (by decide) ?_
  with_reducible exact SameBut.refl _ _
  with_reducible refine SameBut.ite ?_ ?_
  with_reducible refine (State.keepDuplicate_frame _ _ _).after (by decide) ?_
  with_reducible exact SameBut.refl _ _
  with_reducible refine (State.askLane_frame _ _ _ _).after (by decide) ?_
  with_reducible exact SameBut.refl _ _
  with_reducible exact SameBut.refl _ _

theorem State.fadeSpare_frame (s : State) (p j : Nat) :
    SameBut [.regs, .events, .lanes, .cals] s (State.fadeSpare s p j) := by
  unfold State.fadeSpare
  extract_lets
  with_reducible refine SameBut.ite ?_ ?_
  with_reducible exact SameBut.refl _ _
  with_reducible refine SameBut.ite ?_ ?_
  with_reducible exact SameBut.refl _ _
  with_reducible refine SameBut.ite ?_ ?_
  with_reducible refine (State.keepDuplicate_frame _ _ _).after (by decide) ?_
  with_reducible exact SameBut.refl _ _
  with_reducible refine SameBut.ite ?_ ?_
  with_reducible refine (State.updLane_frame _ _ _ _).after (by decide) ?_
  with_reducible exact SameBut.refl _ _
  with_reducible refine SameBut.ite ?_ ?_
  with_reducible refine (State.askLane_frame _ _ _ _).after (by decide) ?_
  with_reducible refine (State.updLane_frame _ _ _ _).after (by decide) ?_
  with_reducible refine (State.abandonRun_frame _ _ _ _).after (by decide) ?_
  with_reducible exact SameBut.refl _ _
  with_reducible refine SameBut.ite ?_ ?_
  with_reducible refine (State.askLane_frame _ _ _ _).after (by decide) ?_
  with_reducible refine (State.updLane_frame _ _ _ _).after (by decide) ?_
  with_reducible refine (State.abandonRun_frame _ _ _ _).after (by decide) ?_
  with_reducible exact SameBut.refl _ _
  with_reducible refine SameBut.ite ?_ ?_
  with_reducible refine (State.askLane_frame _ _ _ _).after (by decide) ?_
  with_reducible refine (State.updLane_frame _ _ _ _).after (by decide) ?_
  with_reducible exact SameBut.refl _ _
  with_reducible refine (State.updLane_frame _ _ _ _).after (by decide) ?_
  with_reducible exact SameBut.refl _ _

theorem State.enterLevel_frame (s : State) (p j n : Nat) :
    SameBut [.att, .regs, .events, .porches, .lanes, .cals] s (State.enterLevel s p j n) := by
  unfold State.enterLevel
  extract_lets
  with_reducible refine SameBut.ite ?_ ?_
  with_reducible refine (State.fadeShed_frame _ _ _).after (by decide) ?_
  with_reducible refine (State.record_frame _ _ _ _ _).after (by decide) ?_
  with_reducible refine (State.raise_frame _ _ _ _ _).after (by decide) ?_
  with_reducible refine (State.updLane_frame _ _ _ _).after (by decide) ?_
  with_reducible exact SameBut.refl _ _
  with_reducible refine SameBut.ite ?_ ?_
  with_reducible refine (State.fadeSpare_frame _ _ _).after (by decide) ?_
  with_reducible refine (State.record_frame _ _ _ _ _).after (by decide) ?_
  with_reducible refine (State.raise_frame _ _ _ _ _).after (by decide) ?_
  with_reducible refine (State.updLane_frame _ _ _ _).after (by decide) ?_
  with_reducible exact SameBut.refl _ _
  with_reducible refine (State.record_frame _ _ _ _ _).after (by decide) ?_
  with_reducible refine (State.raise_frame _ _ _ _ _).after (by decide) ?_
  with_reducible refine (State.updLane_frame _ _ _ _).after (by decide) ?_
  with_reducible exact SameBut.refl _ _

theorem State.fadeTick_frame (s : State) (p : Nat) :
    SameBut [.att, .regs, .events, .porches, .lanes, .cals] s (State.fadeTick s p) := by
  unfold State.fadeTick
  extract_lets v1 v2 v3 v4 v5 v6 v7 v8 v9 v10
  dsimp only [v10]
  split
  with_reducible refine SameBut.ite ?_ ?_
  with_reducible refine (State.fadeSpare_frame _ _ _).after (by decide) ?_
  with_reducible refine SameBut.each (fun _ _ => ?_) ?_ _
  with_reducible refine (State.updLane_frame _ _ _ _).after (by decide) ?_
  with_reducible exact SameBut.refl _ _
  with_reducible refine SameBut.each (fun _ _ => ?_) ?_ _
  with_reducible refine (State.enterLevel_frame _ _ _ _).after (by decide) ?_
  with_reducible exact SameBut.refl _ _
  with_reducible refine SameBut.each (fun _ _ => ?_) ?_ _
  with_reducible refine (State.enterLevel_frame _ _ _ _).after (by decide) ?_
  with_reducible exact SameBut.refl _ _
  with_reducible refine SameBut.each (fun _ _ => ?_) ?_ _
  with_reducible refine SameBut.ite ?_ ?_
  with_reducible refine (State.updLane_frame _ _ _ _).after (by decide) ?_
  with_reducible exact SameBut.refl _ _
  with_reducible refine (State.enterLevel_frame _ _ _ _).after (by decide) ?_
  with_reducible exact SameBut.refl _ _
  with_reducible exact SameBut.refl _ _
  with_reducible refine SameBut.each (fun _ _ => ?_) ?_ _
  with_reducible refine (State.updLane_frame _ _ _ _).after (by decide) ?_
  with_reducible exact SameBut.refl _ _
  with_reducible refine SameBut.each (fun _ _ => ?_) ?_ _
  with_reducible refine (State.enterLevel_frame _ _ _ _).after (by decide) ?_
  with_reducible exact SameBut.refl _ _
  with_reducible refine SameBut.each (fun _ _ => ?_) ?_ _
  with_reducible refine (State.enterLevel_frame _ _ _ _).after (by decide) ?_
  with_reducible exact SameBut.refl _ _
  with_reducible refine SameBut.each (fun _ _ => ?_) ?_ _
  with_reducible refine SameBut.ite ?_ ?_
  with_reducible refine (State.updLane_frame _ _ _ _).after (by decide) ?_
  with_reducible exact SameBut.refl _ _
  with_reducible refine (State.enterLevel_frame _ _ _ _).after (by decide) ?_
  with_reducible exact SameBut.refl _ _
  with_reducible exact SameBut.refl _ _
  with_reducible refine SameBut.each (fun _ _ => ?_) ?_ _
  with_reducible refine (State.updLane_frame _ _ _ _).after (by decide) ?_
  with_reducible exact SameBut.refl _ _
  with_reducible refine SameBut.each (fun _ _ => ?_) ?_ _
  with_reducible refine (State.enterLevel_frame _ _ _ _).after (by decide) ?_
  with_reducible exact SameBut.refl _ _
  with_reducible refine SameBut.each (fun _ _ => ?_) ?_ _
  with_reducible refine (State.enterLevel_frame _ _ _ _).after (by decide) ?_
  with_reducible exact SameBut.refl _ _
  with_reducible refine SameBut.each (fun _ _ => ?_) ?_ _
  with_reducible refine SameBut.ite ?_ ?_
  with_reducible refine (State.updLane_frame _ _ _ _).after (by decide) ?_
  with_reducible exact SameBut.refl _ _
  with_reducible refine (State.enterLevel_frame _ _ _ _).after (by decide) ?_
  with_reducible exact SameBut.refl _ _
  with_reducible exact SameBut.refl _ _

theorem State.lockFail_frame (s : State) (p : Nat) :
    SameBut [.regs, .events, .lanes, .cals] s (State.lockFail s p) := by
  unfold State.lockFail
  extract_lets
  with_reducible refine SameBut.ite ?_ ?_
  with_reducible refine (State.endRun_frame _ _ _ _).after (by decide) ?_
  with_reducible refine (State.updLane_frame _ _ _ _).after (by decide) ?_
  with_reducible exact SameBut.refl _ _
  with_reducible exact SameBut.refl _ _

theorem State.noAnswer_frame (s : State) (p : Nat) :
    SameBut [.regs, .events, .porches, .lanes, .cals] s (State.noAnswer s p) := by
  unfold State.noAnswer
  extract_lets
  with_reducible refine SameBut.ite ?_ ?_
  with_reducible refine (State.endRun_frame _ _ _ _).after (by decide) ?_
  with_reducible refine (State.updCal_frame _ _ _).after (by decide) ?_
  with_reducible refine (State.updPorch_frame _ _ _).after (by decide) ?_
  with_reducible exact SameBut.refl _ _
  with_reducible exact SameBut.refl _ _

theorem State.rampTo_frame (s : State) (p i : Nat) :
    SameBut [.lanes, .cals] s (State.rampTo s p i) := by
  unfold State.rampTo
  extract_lets
  with_reducible refine SameBut.ite ?_ ?_
  with_reducible refine (State.askLane_frame _ _ _ _).after (by decide) ?_
  with_reducible refine (State.updCal_frame _ _ _).after (by decide) ?_
  with_reducible refine (State.updCal_frame _ _ _).after (by decide) ?_
  with_reducible refine (State.updLane_frame _ _ _ _).after (by decide) ?_
  with_reducible exact SameBut.refl _ _
  with_reducible refine (State.updCal_frame _ _ _).after (by decide) ?_
  with_reducible refine (State.updLane_frame _ _ _ _).after (by decide) ?_
  with_reducible exact SameBut.refl _ _

theorem State.regain_frame (s : State) (p : Nat) :
    SameBut [.regs, .events, .lanes, .cals] s (State.regain s p) := by
  unfold State.regain
  extract_lets
  with_reducible refine SameBut.ite ?_ ?_
  with_reducible refine SameBut.ite ?_ ?_
  with_reducible refine (State.endRun_frame _ _ _ _).after (by decide) ?_
  with_reducible refine (State.updCal_frame _ _ _).after (by decide) ?_
  with_reducible exact SameBut.refl _ _
  with_reducible refine (State.askLane_frame _ _ _ _).after (by decide) ?_
  with_reducible refine (State.updCal_frame _ _ _).after (by decide) ?_
  with_reducible exact SameBut.refl _ _
  with_reducible exact SameBut.refl _ _

theorem State.beginRun_frame (s : State) (p l mode : Nat) (restore : Bool) :
    SameBut [.lanes, .cals] s (State.beginRun s p l mode restore) := by
  unfold State.beginRun
  extract_lets
  with_reducible refine SameBut.ite ?_ ?_
  with_reducible refine (State.updCal_frame _ _ _).after (by decide) ?_
  with_reducible refine (State.updLane_frame _ _ _ _).after (by decide) ?_
  with_reducible exact SameBut.refl _ _
  with_reducible refine (State.askLane_frame _ _ _ _).after (by decide) ?_
  with_reducible refine (State.updCal_frame _ _ _).after (by decide) ?_
  with_reducible refine (State.updLane_frame _ _ _ _).after (by decide) ?_
  with_reducible exact SameBut.refl _ _

theorem State.startRun_frame (s : State) (p : Nat) :
    SameBut [.lanes, .cals] s (State.startRun s p) := by
  unfold State.startRun
  split
  with_reducible refine (State.beginRun_frame _ _ _ _ _).after (by decide) ?_
  with_reducible exact SameBut.refl _ _
  with_reducible exact SameBut.refl _ _

theorem State.freeCal_frame (s : State) (p except_ : Nat) :
    SameBut [.lanes] s (State.freeCal s p except_) := by
  unfold State.freeCal
  with_reducible refine SameBut.each (fun _ _ => ?_) ?_ _
  with_reducible refine SameBut.ite ?_ ?_
  with_reducible refine (State.backInService_frame _ _ _).after (by decide) ?_
  with_reducible exact SameBut.refl _ _
  with_reducible exact SameBut.refl _ _
  with_reducible exact SameBut.refl _ _

theorem State.takeAnswer_frame (s : State) (p : Nat) (r : Nat × Nat) :
    SameBut [.regs, .events, .porches, .lanes, .cals] s (State.takeAnswer s p r) := by
  unfold State.takeAnswer
  extract_lets
  split
  with_reducible refine SameBut.ite ?_ ?_
  with_reducible refine (State.askLane_frame _ _ _ _).after (by decide) ?_
  with_reducible refine (State.updPorch_frame _ _ _).after (by decide) ?_
  with_reducible refine (State.updLane_frame _ _ _ _).after (by decide) ?_
  with_reducible exact SameBut.refl _ _
  with_reducible refine SameBut.ite ?_ ?_
  with_reducible refine (State.updCal_frame _ _ _).after (by decide) ?_
  with_reducible refine (State.updLane_frame _ _ _ _).after (by decide) ?_
  with_reducible refine (State.updLane_frame _ _ _ _).after (by decide) ?_
  with_reducible exact SameBut.refl _ _
  with_reducible refine (State.updLane_frame _ _ _ _).after (by decide) ?_
  with_reducible refine (State.freeCal_frame _ _ _).after (by decide) ?_
  with_reducible refine (State.updLane_frame _ _ _ _).after (by decide) ?_
  with_reducible exact SameBut.refl _ _
  with_reducible refine SameBut.ite ?_ ?_
  with_reducible refine (State.endRun_frame _ _ _ _).after (by decide) ?_
  with_reducible refine SameBut.ite ?_ ?_
  with_reducible refine (State.updLane_frame _ _ _ _).after (by decide) ?_
  with_reducible exact SameBut.refl _ _
  with_reducible refine (State.backInService_frame _ _ _).after (by decide) ?_
  with_reducible refine (State.updLane_frame _ _ _ _).after (by decide) ?_
  with_reducible exact SameBut.refl _ _
  with_reducible refine SameBut.ite ?_ ?_
  with_reducible refine (State.updLane_frame _ _ _ _).after (by decide) ?_
  with_reducible exact SameBut.refl _ _
  with_reducible refine (State.backInService_frame _ _ _).after (by decide) ?_
  with_reducible refine (State.updLane_frame _ _ _ _).after (by decide) ?_
  with_reducible exact SameBut.refl _ _
  with_reducible refine SameBut.ite ?_ ?_
  with_reducible refine (State.endRun_frame _ _ _ _).after (by decide) ?_
  with_reducible refine (State.backInService_frame _ _ _).after (by decide) ?_
  with_reducible exact SameBut.refl _ _
  with_reducible refine (State.backInService_frame _ _ _).after (by decide) ?_
  with_reducible exact SameBut.refl _ _

theorem State.takeAnswers_frame (s : State) (p : Nat) :
    SameBut [.regs, .events, .porches, .lanes, .cals] s (State.takeAnswers s p) := by
  unfold State.takeAnswers
  extract_lets
  with_reducible refine SameBut.foldl (fun _ _ => ?_) ?_ _
  with_reducible refine (State.takeAnswer_frame _ _ _).after (by decide) ?_
  with_reducible exact SameBut.refl _ _
  with_reducible refine (State.updCal_frame _ _ _).after (by decide) ?_
  with_reducible exact SameBut.refl _ _

theorem State.laneResult_frame (s : State) (p r : Nat) :
    SameBut [.cals] s (State.laneResult s p r) := by
  unfold State.laneResult
  with_reducible refine (State.updCal_frame _ _ _).after (by decide) ?_
  with_reducible exact SameBut.refl _ _

theorem State.takeRestore_frame (s : State) (p l : Nat) :
    SameBut [.lanes, .cals] s (State.takeRestore s p l) := by
  unfold State.takeRestore
  extract_lets
  with_reducible refine SameBut.ite ?_ ?_
  with_reducible refine (State.laneResult_frame _ _ _).after (by decide) ?_
  with_reducible exact SameBut.refl _ _
  with_reducible refine SameBut.ite ?_ ?_
  with_reducible refine (State.laneResult_frame _ _ _).after (by decide) ?_
  with_reducible exact SameBut.refl _ _
  with_reducible refine SameBut.ite ?_ ?_
  with_reducible refine (State.laneResult_frame _ _ _).after (by decide) ?_
  with_reducible exact SameBut.refl _ _
  with_reducible refine SameBut.ite ?_ ?_
  with_reducible refine (State.updLane_frame _ _ _ _).after (by decide) ?_
  with_reducible refine (State.updLane_frame _ _ _ _).after (by decide) ?_
  with_reducible refine (State.laneResult_frame _ _ _).after (by decide) ?_
  with_reducible exact SameBut.refl _ _
  with_reducible refine SameBut.ite ?_ ?_
  with_reducible refine (State.laneResult_frame _ _ _).after (by decide) ?_
  with_reducible exact SameBut.refl _ _
  with_reducible refine (State.beginRun_frame _ _ _ _ _).after (by decide) ?_
  with_reducible refine (State.updLane_frame _ _ _ _).after (by decide) ?_
  with_reducible refine (State.laneResult_frame _ _ _).after (by decide) ?_
  with_reducible exact SameBut.refl _ _

theorem State.takeReturn_frame (s : State) (p l : Nat) :
    SameBut [.lanes, .cals] s (State.takeReturn s p l) := by
  unfold State.takeReturn
  extract_lets
  with_reducible refine SameBut.ite ?_ ?_
  with_reducible refine (State.laneResult_frame _ _ _).after (by decide) ?_
  with_reducible exact SameBut.refl _ _
  with_reducible refine SameBut.ite ?_ ?_
  with_reducible refine (State.laneResult_frame _ _ _).after (by decide) ?_
  with_reducible exact SameBut.refl _ _
  extract_lets
  split
  with_reducible refine (State.askLane_frame _ _ _ _).after (by decide) ?_
  with_reducible refine (State.updLane_frame _ _ _ _).after (by decide) ?_
  with_reducible refine (State.laneResult_frame _ _ _).after (by decide) ?_
  with_reducible exact SameBut.refl _ _
  with_reducible refine (State.askLane_frame _ _ _ _).after (by decide) ?_
  with_reducible refine (State.updLane_frame _ _ _ _).after (by decide) ?_
  with_reducible refine (State.laneResult_frame _ _ _).after (by decide) ?_
  with_reducible exact SameBut.refl _ _
  with_reducible refine SameBut.ite ?_ ?_
  with_reducible refine (State.updLane_frame _ _ _ _).after (by decide) ?_
  with_reducible refine (State.updLane_frame _ _ _ _).after (by decide) ?_
  with_reducible refine (State.laneResult_frame _ _ _).after (by decide) ?_
  with_reducible exact SameBut.refl _ _
  with_reducible refine (State.askLane_frame _ _ _ _).after (by decide) ?_
  with_reducible refine (State.updLane_frame _ _ _ _).after (by decide) ?_
  with_reducible refine (State.laneResult_frame _ _ _).after (by decide) ?_
  with_reducible exact SameBut.refl _ _
  with_reducible refine SameBut.ite ?_ ?_
  with_reducible refine (State.updLane_frame _ _ _ _).after (by decide) ?_
  with_reducible refine (State.updLane_frame _ _ _ _).after (by decide) ?_
  with_reducible refine (State.laneResult_frame _ _ _).after (by decide) ?_
  with_reducible exact SameBut.refl _ _
  with_reducible refine (State.askLane_frame _ _ _ _).after (by decide) ?_
  with_reducible refine (State.updLane_frame _ _ _ _).after (by decide) ?_
  with_reducible refine (State.laneResult_frame _ _ _).after (by decide) ?_
  with_reducible exact SameBut.refl _ _
  with_reducible refine (State.updLane_frame _ _ _ _).after (by decide) ?_
  with_reducible refine (State.laneResult_frame _ _ _).after (by decide) ?_
  with_reducible exact SameBut.refl _ _

theorem State.takeLaneOp_frame (s : State) (p : Nat) :
    SameBut [.regs, .events, .lanes, .cals] s (State.takeLaneOp s p) := by
  unfold State.takeLaneOp
  extract_lets v1 v2
  split
  with_reducible refine SameBut.ite ?_ ?_
  with_reducible refine (State.laneResult_frame _ _ _).after (by decide) ?_
  with_reducible refine (State.updCal_frame _ _ _).after (by decide) ?_
  extract_lets
  dsimp only [v2]
  split
  with_reducible refine (State.updCal_frame _ _ _).after (by decide) ?_
  with_reducible exact SameBut.refl _ _
  with_reducible exact SameBut.refl _ _
  with_reducible refine SameBut.each (fun _ _ => ?_) ?_ _
  with_reducible refine (State.updLane_frame _ _ _ _).after (by decide) ?_
  with_reducible exact SameBut.refl _ _
  with_reducible refine (State.laneResult_frame _ _ _).after (by decide) ?_
  with_reducible refine (State.updCal_frame _ _ _).after (by decide) ?_
  extract_lets
  dsimp only [v2]
  split
  with_reducible refine (State.updCal_frame _ _ _).after (by decide) ?_
  with_reducible exact SameBut.refl _ _
  with_reducible exact SameBut.refl _ _
  with_reducible refine (State.takeRestore_frame _ _ _).after (by decide) ?_
  with_reducible refine (State.updCal_frame _ _ _).after (by decide) ?_
  extract_lets
  dsimp only [v2]
  split
  with_reducible refine (State.updCal_frame _ _ _).after (by decide) ?_
  with_reducible exact SameBut.refl _ _
  with_reducible exact SameBut.refl _ _
  with_reducible refine (State.takeReturn_frame _ _ _).after (by decide) ?_
  with_reducible refine (State.updCal_frame _ _ _).after (by decide) ?_
  extract_lets
  dsimp only [v2]
  split
  with_reducible refine (State.updCal_frame _ _ _).after (by decide) ?_
  with_reducible exact SameBut.refl _ _
  with_reducible exact SameBut.refl _ _
  with_reducible refine SameBut.ite ?_ ?_
  with_reducible refine (State.laneResult_frame _ _ _).after (by decide) ?_
  with_reducible refine (State.updCal_frame _ _ _).after (by decide) ?_
  extract_lets
  dsimp only [v2]
  split
  with_reducible refine (State.updCal_frame _ _ _).after (by decide) ?_
  with_reducible exact SameBut.refl _ _
  with_reducible exact SameBut.refl _ _
  with_reducible refine (State.abandonRun_frame _ _ _ _).after (by decide) ?_
  with_reducible refine (State.laneResult_frame _ _ _).after (by decide) ?_
  with_reducible refine (State.updCal_frame _ _ _).after (by decide) ?_
  extract_lets
  dsimp only [v2]
  split
  with_reducible refine (State.updCal_frame _ _ _).after (by decide) ?_
  with_reducible exact SameBut.refl _ _
  with_reducible exact SameBut.refl _ _
  with_reducible refine (State.updCal_frame _ _ _).after (by decide) ?_
  extract_lets
  dsimp only [v2]
  split
  with_reducible refine (State.updCal_frame _ _ _).after (by decide) ?_
  with_reducible exact SameBut.refl _ _
  with_reducible exact SameBut.refl _ _

theorem State.lanePorchTick_frame (s : State) (p : Nat) :
    SameBut [.att, .regs, .events, .porches, .lanes, .cals] s (State.lanePorchTick s p) := by
  unfold State.lanePorchTick
  extract_lets
  with_reducible refine (State.startRun_frame _ _).after (by decide) ?_
  with_reducible refine SameBut.ite ?_ ?_
  with_reducible refine SameBut.each (fun _ _ => ?_) ?_ _
  with_reducible refine SameBut.ite ?_ ?_
  with_reducible refine (State.updLane_frame _ _ _ _).after (by decide) ?_
  with_reducible exact SameBut.refl _ _
  with_reducible exact SameBut.refl _ _
  with_reducible refine (State.takeLaneOp_frame _ _).after (by decide) ?_
  with_reducible refine (State.fadeTick_frame _ _).after (by decide) ?_
  with_reducible refine SameBut.ite ?_ ?_
  with_reducible refine (State.endRun_frame _ _ _ _).after (by decide) ?_
  with_reducible refine SameBut.ite ?_ ?_
  with_reducible refine (State.rampTo_frame _ _ _).after (by decide) ?_
  with_reducible refine SameBut.ite ?_ ?_
  with_reducible refine (State.updCal_frame _ _ _).after (by decide) ?_
  with_reducible refine (State.lockFail_frame _ _).after (by decide) ?_
  with_reducible refine (State.regain_frame _ _).after (by decide) ?_
  with_reducible refine (State.noAnswer_frame _ _).after (by decide) ?_
  with_reducible refine (State.takeAnswers_frame _ _).after (by decide) ?_
  with_reducible exact SameBut.refl _ _
  with_reducible refine (State.lockFail_frame _ _).after (by decide) ?_
  with_reducible refine (State.regain_frame _ _).after (by decide) ?_
  with_reducible refine (State.noAnswer_frame _ _).after (by decide) ?_
  with_reducible refine (State.takeAnswers_frame _ _).after (by decide) ?_
  with_reducible exact SameBut.refl _ _
  with_reducible refine SameBut.ite ?_ ?_
  with_reducible refine (State.updCal_frame _ _ _).after (by decide) ?_
  with_reducible refine (State.lockFail_frame _ _).after (by decide) ?_
  with_reducible refine (State.regain_frame _ _).after (by decide) ?_
  with_reducible refine (State.noAnswer_frame _ _).after (by decide) ?_
  with_reducible refine (State.takeAnswers_frame _ _).after (by decide) ?_
  with_reducible exact SameBut.refl _ _
  with_reducible refine (State.lockFail_frame _ _).after (by decide) ?_
  with_reducible refine (State.regain_frame _ _).after (by decide) ?_
  with_reducible refine (State.noAnswer_frame _ _).after (by decide) ?_
  with_reducible refine (State.takeAnswers_frame _ _).after (by decide) ?_
  with_reducible exact SameBut.refl _ _
  with_reducible refine SameBut.ite ?_ ?_
  with_reducible refine (State.rampTo_frame _ _ _).after (by decide) ?_
  with_reducible refine SameBut.ite ?_ ?_
  with_reducible refine (State.updCal_frame _ _ _).after (by decide) ?_
  with_reducible refine (State.lockFail_frame _ _).after (by decide) ?_
  with_reducible refine (State.regain_frame _ _).after (by decide) ?_
  with_reducible refine (State.noAnswer_frame _ _).after (by decide) ?_
  with_reducible refine (State.takeAnswers_frame _ _).after (by decide) ?_
  with_reducible exact SameBut.refl _ _
  with_reducible refine (State.lockFail_frame _ _).after (by decide) ?_
  with_reducible refine (State.regain_frame _ _).after (by decide) ?_
  with_reducible refine (State.noAnswer_frame _ _).after (by decide) ?_
  with_reducible refine (State.takeAnswers_frame _ _).after (by decide) ?_
  with_reducible exact SameBut.refl _ _
  with_reducible refine SameBut.ite ?_ ?_
  with_reducible refine (State.updCal_frame _ _ _).after (by decide) ?_
  with_reducible refine (State.lockFail_frame _ _).after (by decide) ?_
  with_reducible refine (State.regain_frame _ _).after (by decide) ?_
  with_reducible refine (State.noAnswer_frame _ _).after (by decide) ?_
  with_reducible refine (State.takeAnswers_frame _ _).after (by decide) ?_
  with_reducible exact SameBut.refl _ _
  with_reducible refine (State.lockFail_frame _ _).after (by decide) ?_
  with_reducible refine (State.regain_frame _ _).after (by decide) ?_
  with_reducible refine (State.noAnswer_frame _ _).after (by decide) ?_
  with_reducible refine (State.takeAnswers_frame _ _).after (by decide) ?_
  with_reducible exact SameBut.refl _ _
  with_reducible refine (State.takeLaneOp_frame _ _).after (by decide) ?_
  with_reducible refine (State.fadeTick_frame _ _).after (by decide) ?_
  with_reducible refine SameBut.ite ?_ ?_
  with_reducible refine (State.endRun_frame _ _ _ _).after (by decide) ?_
  with_reducible refine SameBut.ite ?_ ?_
  with_reducible refine (State.rampTo_frame _ _ _).after (by decide) ?_
  with_reducible refine SameBut.ite ?_ ?_
  with_reducible refine (State.updCal_frame _ _ _).after (by decide) ?_
  with_reducible refine (State.lockFail_frame _ _).after (by decide) ?_
  with_reducible refine (State.regain_frame _ _).after (by decide) ?_
  with_reducible refine (State.noAnswer_frame _ _).after (by decide) ?_
  with_reducible refine (State.takeAnswers_frame _ _).after (by decide) ?_
  with_reducible exact SameBut.refl _ _
  with_reducible refine (State.lockFail_frame _ _).after (by decide) ?_
  with_reducible refine (State.regain_frame _ _).after (by decide) ?_
  with_reducible refine (State.noAnswer_frame _ _).after (by decide) ?_
  with_reducible refine (State.takeAnswers_frame _ _).after (by decide) ?_
  with_reducible exact SameBut.refl _ _
  with_reducible refine SameBut.ite ?_ ?_
  with_reducible refine (State.updCal_frame _ _ _).after (by decide) ?_
  with_reducible refine (State.lockFail_frame _ _).after (by decide) ?_
  with_reducible refine (State.regain_frame _ _).after (by decide) ?_
  with_reducible refine (State.noAnswer_frame _ _).after (by decide) ?_
  with_reducible refine (State.takeAnswers_frame _ _).after (by decide) ?_
  with_reducible exact SameBut.refl _ _
  with_reducible refine (State.lockFail_frame _ _).after (by decide) ?_
  with_reducible refine (State.regain_frame _ _).after (by decide) ?_
  with_reducible refine (State.noAnswer_frame _ _).after (by decide) ?_
  with_reducible refine (State.takeAnswers_frame _ _).after (by decide) ?_
  with_reducible exact SameBut.refl _ _
  with_reducible refine SameBut.ite ?_ ?_
  with_reducible refine (State.rampTo_frame _ _ _).after (by decide) ?_
  with_reducible refine SameBut.ite ?_ ?_
  with_reducible refine (State.updCal_frame _ _ _).after (by decide) ?_
  with_reducible refine (State.lockFail_frame _ _).after (by decide) ?_
  with_reducible refine (State.regain_frame _ _).after (by decide) ?_
  with_reducible refine (State.noAnswer_frame _ _).after (by decide) ?_
  with_reducible refine (State.takeAnswers_frame _ _).after (by decide) ?_
  with_reducible exact SameBut.refl _ _
  with_reducible refine (State.lockFail_frame _ _).after (by decide) ?_
  with_reducible refine (State.regain_frame _ _).after (by decide) ?_
  with_reducible refine (State.noAnswer_frame _ _).after (by decide) ?_
  with_reducible refine (State.takeAnswers_frame _ _).after (by decide) ?_
  with_reducible exact SameBut.refl _ _
  with_reducible refine SameBut.ite ?_ ?_
  with_reducible refine (State.updCal_frame _ _ _).after (by decide) ?_
  with_reducible refine (State.lockFail_frame _ _).after (by decide) ?_
  with_reducible refine (State.regain_frame _ _).after (by decide) ?_
  with_reducible refine (State.noAnswer_frame _ _).after (by decide) ?_
  with_reducible refine (State.takeAnswers_frame _ _).after (by decide) ?_
  with_reducible exact SameBut.refl _ _
  with_reducible refine (State.lockFail_frame _ _).after (by decide) ?_
  with_reducible refine (State.regain_frame _ _).after (by decide) ?_
  with_reducible refine (State.noAnswer_frame _ _).after (by decide) ?_
  with_reducible refine (State.takeAnswers_frame _ _).after (by decide) ?_
  with_reducible exact SameBut.refl _ _

theorem State.takeBaseline_frame (s : State) (p l : Nat) :
    SameBut [.lanes] s (State.takeBaseline s p l) := by
  unfold State.takeBaseline
  with_reducible refine (State.updLane_frame _ _ _ _).after (by decide) ?_
  with_reducible exact SameBut.refl _ _

theorem State.showLanes_frame (s : State) (p : Nat) :
    SameBut [.lanes, .cals] s (State.showLanes s p) := by
  unfold State.showLanes
  extract_lets
  with_reducible refine SameBut.each (fun _ _ => ?_) ?_ _
  with_reducible refine (State.updLane_frame _ _ _ _).after (by decide) ?_
  with_reducible exact SameBut.refl _ _
  with_reducible refine (State.updCal_frame _ _ _).after (by decide) ?_
  with_reducible exact SameBut.refl _ _

theorem State.laneTick_frame (s : State) (regions : List (Nat × Int)) (fades : List (Nat × Nat × Nat × Nat)) :
    SameBut [.att, .regs, .events, .porches, .lanes, .cals, .free] s (State.laneTick s regions fades) := by
  unfold State.laneTick
  extract_lets
  with_reducible refine SameBut.each (fun _ _ => ?_) ?_ _
  with_reducible refine (State.showLanes_frame _ _).after (by decide) ?_
  with_reducible exact SameBut.refl _ _
  with_reducible refine SameBut.each (fun _ _ => ?_) ?_ _
  with_reducible refine (State.lanePorchTick_frame _ _).after (by decide) ?_
  with_reducible exact SameBut.refl _ _
  with_reducible refine SameBut.foldl (fun _ _ => ?_) ?_ _
  with_reducible refine (State.fadeFrame_frame _ _ _ _ _).after (by decide) ?_
  with_reducible exact SameBut.refl _ _
  with_reducible refine SameBut.foldl (fun _ _ => ?_) ?_ _
  with_reducible refine (State.updCal_frame _ _ _).after (by decide) ?_
  with_reducible exact SameBut.refl _ _
  with_reducible refine SameBut.each (fun _ _ => ?_) ?_ _
  with_reducible refine SameBut.each (fun _ _ => ?_) ?_ _
  with_reducible refine (State.takeBaseline_frame _ _ _).after (by decide) ?_
  with_reducible exact SameBut.refl _ _
  with_reducible exact SameBut.refl _ _
  with_reducible exact SameBut.refl _ _

theorem State.pumpLane_frame (s : State) (p : Nat) :
    SameBut [.regs, .porches, .cals, .free] s (State.pumpLane s p) := by
  unfold State.pumpLane
  split
  with_reducible refine (State.send_frame _ _ _ _).after (by decide) ?_
  with_reducible refine (State.updPorch_frame _ _ _).after (by decide) ?_
  with_reducible refine (State.updCal_frame _ _ _).after (by decide) ?_
  with_reducible exact SameBut.refl _ _
  with_reducible exact SameBut.refl _ _

theorem State.laneDone_frame (s : State) (p op l : Nat) :
    SameBut [.porches, .lanes, .cals] s (State.laneDone s p op l) := by
  unfold State.laneDone
  extract_lets
  split
  with_reducible refine (State.updCal_frame _ _ _).after (by decide) ?_
  with_reducible refine (State.updPorch_frame _ _ _).after (by decide) ?_
  with_reducible refine (State.updPorch_frame _ _ _).after (by decide) ?_
  with_reducible exact SameBut.refl _ _
  with_reducible refine (State.updCal_frame _ _ _).after (by decide) ?_
  with_reducible refine (State.updPorch_frame _ _ _).after (by decide) ?_
  with_reducible refine (State.updPorch_frame _ _ _).after (by decide) ?_
  with_reducible exact SameBut.refl _ _
  with_reducible refine SameBut.ite ?_ ?_
  with_reducible refine (State.updCal_frame _ _ _).after (by decide) ?_
  with_reducible refine (State.updLane_frame _ _ _ _).after (by decide) ?_
  with_reducible refine (State.updPorch_frame _ _ _).after (by decide) ?_
  with_reducible exact SameBut.refl _ _
  with_reducible refine (State.updLane_frame _ _ _ _).after (by decide) ?_
  with_reducible refine (State.updPorch_frame _ _ _).after (by decide) ?_
  with_reducible exact SameBut.refl _ _
  with_reducible refine (State.updCal_frame _ _ _).after (by decide) ?_
  with_reducible refine (State.updPorch_frame _ _ _).after (by decide) ?_
  with_reducible exact SameBut.refl _ _

theorem State.laneOp_frame (s : State) (p op l : Nat) :
    SameBut [.cals] s (State.laneOp s p op l) := by
  unfold State.laneOp
  with_reducible refine (State.updCal_frame _ _ _).after (by decide) ?_
  with_reducible exact SameBut.refl _ _

theorem State.loseLock_frame (s : State) (p l : Nat) :
    SameBut [.porches, .lanes, .cals] s (State.loseLock s p l) := by
  unfold State.loseLock
  extract_lets
  with_reducible refine SameBut.ite ?_ ?_
  with_reducible refine (State.updPorch_frame _ _ _).after (by decide) ?_
  with_reducible refine SameBut.ite ?_ ?_
  with_reducible refine (State.updCal_frame _ _ _).after (by decide) ?_
  with_reducible refine (State.updLane_frame _ _ _ _).after (by decide) ?_
  with_reducible refine (State.updLane_frame _ _ _ _).after (by decide) ?_
  with_reducible refine (State.updPorch_frame _ _ _).after (by decide) ?_
  with_reducible exact SameBut.refl _ _
  with_reducible refine (State.updLane_frame _ _ _ _).after (by decide) ?_
  with_reducible refine (State.updLane_frame _ _ _ _).after (by decide) ?_
  with_reducible refine (State.updPorch_frame _ _ _).after (by decide) ?_
  with_reducible exact SameBut.refl _ _
  with_reducible refine SameBut.ite ?_ ?_
  with_reducible refine (State.updCal_frame _ _ _).after (by decide) ?_
  with_reducible refine (State.updLane_frame _ _ _ _).after (by decide) ?_
  with_reducible refine (State.updLane_frame _ _ _ _).after (by decide) ?_
  with_reducible refine (State.updPorch_frame _ _ _).after (by decide) ?_
  with_reducible exact SameBut.refl _ _
  with_reducible refine (State.updLane_frame _ _ _ _).after (by decide) ?_
  with_reducible refine (State.updLane_frame _ _ _ _).after (by decide) ?_
  with_reducible refine (State.updPorch_frame _ _ _).after (by decide) ?_
  with_reducible exact SameBut.refl _ _

theorem execBaselineWrite_frame (porch : BitVec 4) (lane : Fin 9) (v : BitVec 16) (s : State) :
    Frames [.lanes] s (execBaselineWrite porch lane v s) := by
  unfold execBaselineWrite
  with_reducible refine Frames.next ?_
  with_reducible refine (State.updLane_frame _ _ _ _).after (by decide) ?_
  with_reducible exact SameBut.refl _ _

theorem execCalAbort_frame (porch : BitVec 4) (s : State) :
    Frames [.cals] s (execCalAbort porch s) := by
  unfold execCalAbort
  with_reducible refine Frames.next ?_
  with_reducible refine (State.laneOp_frame _ _ _ _).after (by decide) ?_
  with_reducible exact SameBut.refl _ _

theorem execCalNow_frame (porch lane : BitVec 4) (s : State) :
    Frames [.cals] s (execCalNow porch lane s) := by
  unfold execCalNow
  with_reducible refine Frames.next ?_
  with_reducible refine (State.laneOp_frame _ _ _ _).after (by decide) ?_
  with_reducible exact SameBut.refl _ _

theorem execLaneReturn_frame (porch lane : BitVec 4) (s : State) :
    Frames [.cals] s (execLaneReturn porch lane s) := by
  unfold execLaneReturn
  with_reducible refine Frames.next ?_
  with_reducible refine (State.laneOp_frame _ _ _ _).after (by decide) ?_
  with_reducible exact SameBut.refl _ _

theorem execRestore_frame (porch lane : BitVec 4) (s : State) :
    Frames [.cals] s (execRestore porch lane s) := by
  unfold execRestore
  with_reducible refine Frames.next ?_
  with_reducible refine (State.laneOp_frame _ _ _ _).after (by decide) ?_
  with_reducible exact SameBut.refl _ _

theorem execBaselineFormed_frame (porch : BitVec 4) (lane : Fin 9 × BitVec 16) (s : State) :
    Frames [.events, .lanes] s (execBaselineFormed porch lane s) := by
  unfold execBaselineFormed
  with_reducible refine Frames.ite ?_ ?_
  with_reducible refine Frames.next ?_
  with_reducible refine (State.baseFrame_frame _ _ _ _).after (by decide) ?_
  with_reducible exact SameBut.refl _ _
  with_reducible refine Frames.next ?_
  with_reducible exact SameBut.refl _ _

theorem execCalLockRegained_frame (porch : BitVec 4) (s : State) :
    Frames [.regs, .events, .lanes, .cals] s (execCalLockRegained porch s) := by
  unfold execCalLockRegained
  with_reducible refine Frames.next ?_
  with_reducible refine (State.regain_frame _ _).after (by decide) ?_
  with_reducible exact SameBut.refl _ _

theorem execCalRunStart_frame (porch : BitVec 4) (s : State) :
    Frames [.lanes, .cals] s (execCalRunStart porch s) := by
  unfold execCalRunStart
  with_reducible refine Frames.next ?_
  with_reducible refine (State.startRun_frame _ _).after (by decide) ?_
  with_reducible exact SameBut.refl _ _

theorem execCodewordLock_frame (porch : BitVec 4) (lane : Fin 9 × CalValues) (s : State) :
    Frames [.porches, .lanes] s (execCodewordLock porch lane s) := by
  unfold execCodewordLock
  extract_lets
  with_reducible refine Frames.ite ?_ ?_
  with_reducible refine Frames.next ?_
  with_reducible exact SameBut.refl _ _
  with_reducible refine Frames.ite ?_ ?_
  with_reducible refine Frames.next ?_
  with_reducible refine SameBut.each (fun _ _ => ?_) ?_ _
  with_reducible refine SameBut.ite ?_ ?_
  with_reducible refine (State.updLane_frame _ _ _ _).after (by decide) ?_
  with_reducible exact SameBut.refl _ _
  with_reducible exact SameBut.refl _ _
  with_reducible refine (State.updPorch_frame _ _ _).after (by decide) ?_
  with_reducible refine (State.updLane_frame _ _ _ _).after (by decide) ?_
  with_reducible refine (State.updPorch_frame _ _ _).after (by decide) ?_
  with_reducible exact SameBut.refl _ _
  with_reducible refine Frames.next ?_
  with_reducible refine (State.updLane_frame _ _ _ _).after (by decide) ?_
  with_reducible refine (State.updPorch_frame _ _ _).after (by decide) ?_
  with_reducible exact SameBut.refl _ _

theorem execCompatApply_frame (porch : BitVec 4) (targets : CalValues) (s : State) :
    Frames [.regs, .porches, .lanes, .cals, .free] s (execCompatApply porch targets s) := by
  unfold execCompatApply
  extract_lets
  with_reducible refine Frames.ite ?_ ?_
  with_reducible refine Frames.next ?_
  with_reducible refine (State.pumpLane_frame _ _).after (by decide) ?_
  with_reducible refine (State.askLane_frame _ _ _ _).after (by decide) ?_
  with_reducible refine (State.updCal_frame _ _ _).after (by decide) ?_
  with_reducible refine (State.updLane_frame _ _ _ _).after (by decide) ?_
  with_reducible exact SameBut.refl _ _
  with_reducible refine Frames.next ?_
  with_reducible exact SameBut.refl _ _

theorem execLaneCell_frame (porch : BitVec 4) (op lane result : BitVec 8) (_lseq : BitVec 16) (s : State) :
    Frames [.regs, .porches, .lanes, .cals, .free] s (execLaneCell porch op lane result _lseq s) := by
  unfold execLaneCell
  extract_lets
  with_reducible refine Frames.ite ?_ ?_
  with_reducible refine Frames.next ?_
  with_reducible exact SameBut.refl _ _
  with_reducible refine Frames.ite ?_ ?_
  with_reducible refine Frames.next ?_
  with_reducible refine (State.answerLane_frame _ _ _ _).after (by decide) ?_
  with_reducible refine (State.receive_frame _ _).after (by decide) ?_
  with_reducible exact SameBut.refl _ _
  with_reducible refine Frames.ite ?_ ?_
  extract_lets
  split
  with_reducible refine Frames.next ?_
  with_reducible refine (State.pumpLane_frame _ _).after (by decide) ?_
  with_reducible refine (State.laneDone_frame _ _ _ _).after (by decide) ?_
  with_reducible refine (State.receive_frame _ _).after (by decide) ?_
  with_reducible exact SameBut.refl _ _
  with_reducible refine Frames.next ?_
  with_reducible refine (State.pumpLane_frame _ _).after (by decide) ?_
  with_reducible refine (State.updCal_frame _ _ _).after (by decide) ?_
  with_reducible refine (State.updPorch_frame _ _ _).after (by decide) ?_
  with_reducible refine (State.receive_frame _ _).after (by decide) ?_
  with_reducible exact SameBut.refl _ _
  with_reducible refine Frames.next ?_
  with_reducible refine (State.pumpLane_frame _ _).after (by decide) ?_
  with_reducible refine (State.updPorch_frame _ _ _).after (by decide) ?_
  with_reducible refine (State.receive_frame _ _).after (by decide) ?_
  with_reducible exact SameBut.refl _ _
  with_reducible refine Frames.next ?_
  with_reducible refine (State.receive_frame _ _).after (by decide) ?_
  with_reducible exact SameBut.refl _ _

theorem execLockFailed_frame (porch : BitVec 4) (s : State) :
    Frames [.regs, .events, .lanes, .cals] s (execLockFailed porch s) := by
  unfold execLockFailed
  with_reducible refine Frames.next ?_
  with_reducible refine (State.lockFail_frame _ _).after (by decide) ?_
  with_reducible exact SameBut.refl _ _

theorem execLockLoss_frame (porch : BitVec 4) (lane : Fin 9) (s : State) :
    Frames [.porches, .lanes, .cals] s (execLockLoss porch lane s) := by
  unfold execLockLoss
  with_reducible refine Frames.ite ?_ ?_
  with_reducible refine Frames.next ?_
  with_reducible refine (State.loseLock_frame _ _ _).after (by decide) ?_
  with_reducible exact SameBut.refl _ _
  with_reducible refine Frames.next ?_
  with_reducible exact SameBut.refl _ _

theorem execLseqGap_frame (porch : BitVec 4) (lseq : BitVec 16) (s : State) :
    Frames [.regs, .porches] s (execLseqGap porch lseq s) := by
  unfold execLseqGap
  extract_lets
  with_reducible refine Frames.ite ?_ ?_
  with_reducible refine Frames.next ?_
  with_reducible exact SameBut.refl _ _
  with_reducible refine Frames.next ?_
  with_reducible refine (State.count_frame _ _ _ _ _).after (by decide) ?_
  with_reducible refine (State.updPorch_frame _ _ _).after (by decide) ?_
  with_reducible exact SameBut.refl _ _

theorem execNoAnswer_frame (porch : BitVec 4) (s : State) :
    Frames [.regs, .events, .porches, .lanes, .cals] s (execNoAnswer porch s) := by
  unfold execNoAnswer
  with_reducible refine Frames.next ?_
  with_reducible refine (State.noAnswer_frame _ _).after (by decide) ?_
  with_reducible exact SameBut.refl _ _

theorem execRampStep_frame (porch : BitVec 4) (targets : CalValues) (s : State) :
    Frames [.lanes, .cals] s (execRampStep porch targets s) := by
  unfold execRampStep
  extract_lets
  with_reducible refine Frames.ite ?_ ?_
  with_reducible refine Frames.next ?_
  with_reducible exact SameBut.refl _ _
  with_reducible refine Frames.next ?_
  with_reducible refine (State.rampTo_frame _ _ _).after (by decide) ?_
  with_reducible refine SameBut.ite ?_ ?_
  with_reducible refine (State.updLane_frame _ _ _ _).after (by decide) ?_
  with_reducible exact SameBut.refl _ _
  with_reducible exact SameBut.refl _ _

theorem execUncorrectableCodeword_frame (porch : BitVec 4) (lane : Fin 9) (s : State) :
    Frames [.porches, .lanes, .cals] s (execUncorrectableCodeword porch lane s) := by
  unfold execUncorrectableCodeword
  extract_lets
  with_reducible refine Frames.next ?_
  with_reducible refine SameBut.ite ?_ ?_
  with_reducible refine (State.loseLock_frame _ _ _).after (by decide) ?_
  with_reducible refine (State.updLane_frame _ _ _ _).after (by decide) ?_
  with_reducible exact SameBut.refl _ _
  with_reducible refine (State.updLane_frame _ _ _ _).after (by decide) ?_
  with_reducible exact SameBut.refl _ _

end Sys2Proof.Machine
end

