-- ==== Sys2Proof/Laws/Frame/Porches.lean ====
section
/-! SUPPORT. What the definitions of Machine/Porches.lean change of the state: one frame for each. -/
namespace Sys2Proof.Machine

theorem State.takeHolding_frame (s : State) (p : Nat) :
    SameBut [.loops] s (State.takeHolding s p) := by
  unfold State.takeHolding
  extract_lets
  with_reducible refine SameBut.ite ?_ ?_
  with_reducible exact SameBut.refl _ _
  with_reducible refine SameBut.each (fun _ _ => ?_) ?_ _
  with_reducible refine (State.updLoop_frame _ _ _).after (by decide) ?_
  with_reducible exact SameBut.refl _ _
  with_reducible exact SameBut.refl _ _

theorem State.becomeReady_frame (s : State) (p : Nat) :
    SameBut [.events, .loops, .porches] s (State.becomeReady s p) := by
  unfold State.becomeReady
  with_reducible refine (State.raise_frame _ _ _ _ _).after (by decide) ?_
  with_reducible refine (State.takeHolding_frame _ _).after (by decide) ?_
  with_reducible refine (State.updPorch_frame _ _ _).after (by decide) ?_
  with_reducible exact SameBut.refl _ _

theorem State.lossFollows_frame (s : State) (p : Nat) :
    SameBut [.hrt, .pins, .att, .regs, .events, .loops, .porches, .twn, .free] s (State.lossFollows s p) := by
  unfold State.lossFollows
  extract_lets
  with_reducible refine SameBut.ite ?_ ?_
  with_reducible refine (State.raise_frame _ _ _ _ _).after (by decide) ?_
  with_reducible exact SameBut.refl _ _
  with_reducible refine SameBut.ite ?_ ?_
  with_reducible refine SameBut.trans ?_ (State.verdict_frame _ _ _ _ (fun _ => ?_) (by decide))
  with_reducible refine (SameBut.twn_frame _ _).after (by decide) ?_
  with_reducible exact SameBut.refl _ _
  with_reducible exact SameBut.refl _ _
  with_reducible refine SameBut.ite ?_ ?_
  with_reducible refine (State.freezeWhere_frame _ _ _).after (by decide) ?_
  with_reducible exact SameBut.refl _ _
  with_reducible exact SameBut.refl _ _

theorem State.losePorch_frame (s : State) (p : Nat) :
    SameBut [.hrt, .pins, .att, .regs, .events, .loops, .porches, .twn, .free] s (State.losePorch s p) := by
  unfold State.losePorch
  extract_lets
  with_reducible refine SameBut.ite ?_ ?_
  with_reducible exact SameBut.refl _ _
  with_reducible refine SameBut.trans ?_ (State.inTick_frame _ _ (fun _ => ?_) (by decide))
  with_reducible refine (State.updPorch_frame _ _ _).after (by decide) ?_
  with_reducible exact SameBut.refl _ _
  with_reducible refine SameBut.ite ?_ ?_
  with_reducible exact SameBut.refl _ _
  with_reducible refine (State.lossFollows_frame _ _).after (by decide) ?_
  with_reducible refine (State.record_frame _ _ _ _ _).after (by decide) ?_
  with_reducible refine (State.raise_frame _ _ _ _ _).after (by decide) ?_
  with_reducible exact SameBut.refl _ _

theorem State.toDiscovery_frame (s : State) (p : Nat) :
    SameBut [.porches] s (State.toDiscovery s p) := by
  unfold State.toDiscovery
  with_reducible refine (State.updPorch_frame _ _ _).after (by decide) ?_
  with_reducible exact SameBut.refl _ _

theorem State.porchTick_frame (s : State) (p : Nat) :
    SameBut [.hrt, .pins, .att, .regs, .events, .loops, .porches, .twn, .free] s (State.porchTick s p) := by
  unfold State.porchTick
  extract_lets
  with_reducible refine (State.updPorch_frame _ _ _).after (by decide) ?_
  with_reducible refine SameBut.ite ?_ ?_
  with_reducible refine (State.becomeReady_frame _ _).after (by decide) ?_
  with_reducible refine SameBut.ite ?_ ?_
  with_reducible refine (State.toDiscovery_frame _ _).after (by decide) ?_
  with_reducible refine (State.losePorch_frame _ _).after (by decide) ?_
  with_reducible exact SameBut.refl _ _
  with_reducible refine (State.losePorch_frame _ _).after (by decide) ?_
  with_reducible exact SameBut.refl _ _
  with_reducible refine SameBut.ite ?_ ?_
  with_reducible refine (State.toDiscovery_frame _ _).after (by decide) ?_
  with_reducible refine (State.losePorch_frame _ _).after (by decide) ?_
  with_reducible exact SameBut.refl _ _
  with_reducible refine (State.losePorch_frame _ _).after (by decide) ?_
  with_reducible exact SameBut.refl _ _

theorem State.configure_frame (s : State) (p : Nat) :
    SameBut [.regs, .porches, .free] s (State.configure s p) := by
  unfold State.configure
  with_reducible refine (State.send_frame _ _ _ _).after (by decide) ?_
  with_reducible refine (State.updPorch_frame _ _ _).after (by decide) ?_
  with_reducible exact SameBut.refl _ _

theorem State.echo_frame (s : State) (p : Nat) :
    SameBut [.regs, .porches, .free] s (State.echo s p) := by
  unfold State.echo
  extract_lets
  with_reducible refine (State.send_frame _ _ _ _).after (by decide) ?_
  with_reducible refine (State.updPorch_frame _ _ _).after (by decide) ?_
  with_reducible exact SameBut.refl _ _

theorem State.takePorchOp_frame (s : State) (p : Nat) :
    SameBut [.regs, .porches, .free] s (State.takePorchOp s p) := by
  unfold State.takePorchOp
  extract_lets v1 v2
  dsimp only [v2]
  dsimp only [v1]
  split
  with_reducible refine SameBut.ite ?_ ?_
  with_reducible refine (State.updPorch_frame _ _ _).after (by decide) ?_
  with_reducible refine (State.toDiscovery_frame _ _).after (by decide) ?_
  with_reducible refine (State.updPorch_frame _ _ _).after (by decide) ?_
  with_reducible exact SameBut.refl _ _
  with_reducible refine (State.updPorch_frame _ _ _).after (by decide) ?_
  with_reducible exact SameBut.refl _ _
  with_reducible refine SameBut.ite ?_ ?_
  with_reducible refine (State.send_frame _ _ _ _).after (by decide) ?_
  with_reducible refine (State.updPorch_frame _ _ _).after (by decide) ?_
  with_reducible exact SameBut.refl _ _
  with_reducible refine (State.updPorch_frame _ _ _).after (by decide) ?_
  with_reducible exact SameBut.refl _ _
  with_reducible refine SameBut.ite ?_ ?_
  with_reducible refine (State.echo_frame _ _).after (by decide) ?_
  with_reducible refine (State.updPorch_frame _ _ _).after (by decide) ?_
  with_reducible exact SameBut.refl _ _
  with_reducible refine (State.updPorch_frame _ _ _).after (by decide) ?_
  with_reducible exact SameBut.refl _ _
  with_reducible refine (State.updPorch_frame _ _ _).after (by decide) ?_
  with_reducible exact SameBut.refl _ _

theorem State.porchCells_frame (s : State) (p : Nat) :
    SameBut [.regs, .porches, .free] s (State.porchCells s p) := by
  unfold State.porchCells
  extract_lets
  with_reducible refine SameBut.ite ?_ ?_
  with_reducible refine (State.takePorchOp_frame _ _).after (by decide) ?_
  with_reducible exact SameBut.refl _ _
  with_reducible refine SameBut.ite ?_ ?_
  with_reducible refine (State.configure_frame _ _).after (by decide) ?_
  with_reducible refine SameBut.ite ?_ ?_
  with_reducible refine (State.echo_frame _ _).after (by decide) ?_
  with_reducible refine SameBut.ite ?_ ?_
  with_reducible refine (State.send_frame _ _ _ _).after (by decide) ?_
  with_reducible refine (State.takePorchOp_frame _ _).after (by decide) ?_
  with_reducible exact SameBut.refl _ _
  with_reducible refine (State.takePorchOp_frame _ _).after (by decide) ?_
  with_reducible exact SameBut.refl _ _
  with_reducible refine SameBut.ite ?_ ?_
  with_reducible refine (State.send_frame _ _ _ _).after (by decide) ?_
  with_reducible refine (State.takePorchOp_frame _ _).after (by decide) ?_
  with_reducible exact SameBut.refl _ _
  with_reducible refine (State.takePorchOp_frame _ _).after (by decide) ?_
  with_reducible exact SameBut.refl _ _
  with_reducible refine SameBut.ite ?_ ?_
  with_reducible refine (State.echo_frame _ _).after (by decide) ?_
  with_reducible refine SameBut.ite ?_ ?_
  with_reducible refine (State.send_frame _ _ _ _).after (by decide) ?_
  with_reducible refine (State.takePorchOp_frame _ _).after (by decide) ?_
  with_reducible exact SameBut.refl _ _
  with_reducible refine (State.takePorchOp_frame _ _).after (by decide) ?_
  with_reducible exact SameBut.refl _ _
  with_reducible refine SameBut.ite ?_ ?_
  with_reducible refine (State.send_frame _ _ _ _).after (by decide) ?_
  with_reducible refine (State.takePorchOp_frame _ _).after (by decide) ?_
  with_reducible exact SameBut.refl _ _
  with_reducible refine (State.takePorchOp_frame _ _).after (by decide) ?_
  with_reducible exact SameBut.refl _ _

theorem State.headRecord_frame (s : State) (p role : Nat) (f : Porch → Porch) :
    SameBut [.regs, .porches] s (State.headRecord s p role f) := by
  unfold State.headRecord
  with_reducible refine SameBut.ite ?_ ?_
  with_reducible refine (State.updPorch_frame _ _ _).after (by decide) ?_
  with_reducible refine (State.receive_frame _ _).after (by decide) ?_
  with_reducible exact SameBut.refl _ _
  with_reducible refine SameBut.ite ?_ ?_
  with_reducible refine (State.receive_frame _ _).after (by decide) ?_
  with_reducible exact SameBut.refl _ _
  with_reducible exact SameBut.refl _ _

theorem State.holdPorch_frame (s : State) (ms : List Nat) (p : Nat) :
    SameBut [.regs, .porches, .free] s (State.holdPorch s ms p) := by
  unfold State.holdPorch
  extract_lets
  split
  with_reducible exact SameBut.refl _ _
  with_reducible refine (State.send_frame _ _ _ _).after (by decide) ?_
  with_reducible exact SameBut.refl _ _

theorem State.porchOp_frame (s : State) (p op : Nat) :
    SameBut [.porches] s (State.porchOp s p op) := by
  unfold State.porchOp
  with_reducible refine (State.updPorch_frame _ _ _).after (by decide) ?_
  with_reducible exact SameBut.refl _ _

theorem State.seeEpoch_frame (s : State) (e : Nat) :
    SameBut [.twn] s (State.seeEpoch s e) := by
  unfold State.seeEpoch
  extract_lets
  with_reducible refine (SameBut.twn_frame _ _).after (by decide) ?_
  with_reducible exact SameBut.refl _ _

theorem State.sendNext_frame (s : State) (p prio : Nat) (c : TxCell) :
    SameBut [.hrt, .regs, .porches, .free] s (State.sendNext s p prio c) := by
  unfold State.sendNext
  with_reducible refine SameBut.trans ?_ (State.inTick_frame _ _ (fun _ => ?_) (by decide))
  with_reducible exact SameBut.refl _ _
  with_reducible refine (State.send_frame _ _ _ _).after (by decide) ?_
  with_reducible exact SameBut.refl _ _

theorem execEchoNow_frame (porch : BitVec 4) (s : State) :
    Frames [.porches] s (execEchoNow porch s) := by
  unfold execEchoNow
  with_reducible refine Frames.next ?_
  with_reducible refine (State.porchOp_frame _ _ _).after (by decide) ?_
  with_reducible exact SameBut.refl _ _

theorem execHeadReset_frame (porch : BitVec 4) (s : State) :
    Frames [.porches] s (execHeadReset porch s) := by
  unfold execHeadReset
  with_reducible refine Frames.next ?_
  with_reducible refine (State.porchOp_frame _ _ _).after (by decide) ?_
  with_reducible exact SameBut.refl _ _

theorem execRediscover_frame (porch : BitVec 4) (s : State) :
    Frames [.porches] s (execRediscover porch s) := by
  unfold execRediscover
  with_reducible refine Frames.next ?_
  with_reducible refine (State.porchOp_frame _ _ _).after (by decide) ?_
  with_reducible exact SameBut.refl _ _

theorem execAckCell_frame (porch : BitVec 4) (a : AckCell) (s : State) :
    Frames [.regs, .porches, .twn] s (execAckCell porch a s) := by
  unfold execAckCell
  extract_lets
  with_reducible refine Frames.ite ?_ ?_
  with_reducible refine Frames.next ?_
  with_reducible exact SameBut.refl _ _
  with_reducible refine Frames.ite ?_ ?_
  with_reducible refine Frames.next ?_
  with_reducible refine (State.updPorch_frame _ _ _).after (by decide) ?_
  with_reducible refine (State.seeEpoch_frame _ _).after (by decide) ?_
  with_reducible refine (State.receive_frame _ _).after (by decide) ?_
  with_reducible exact SameBut.refl _ _
  with_reducible refine Frames.next ?_
  with_reducible refine (SameBut.twn_frame _ _).after (by decide) ?_
  with_reducible refine (State.updPorch_frame _ _ _).after (by decide) ?_
  with_reducible refine (State.seeEpoch_frame _ _).after (by decide) ?_
  with_reducible refine (State.receive_frame _ _).after (by decide) ?_
  with_reducible exact SameBut.refl _ _

theorem execConfigAck_frame (porch : BitVec 4) (result : BitVec 8) (effective : BitVec 32) (s : State) :
    Frames [.regs, .events, .porches] s (execConfigAck porch result effective s) := by
  unfold execConfigAck
  extract_lets
  with_reducible refine Frames.ite ?_ ?_
  with_reducible refine Frames.next ?_
  with_reducible exact SameBut.refl _ _
  extract_lets
  split
  with_reducible refine Frames.ite ?_ ?_
  with_reducible refine Frames.next ?_
  with_reducible refine (State.receive_frame _ _).after (by decide) ?_
  with_reducible exact SameBut.refl _ _
  with_reducible refine Frames.ite ?_ ?_
  with_reducible refine Frames.next ?_
  with_reducible refine (State.updPorch_frame _ _ _).after (by decide) ?_
  with_reducible refine (State.receive_frame _ _).after (by decide) ?_
  with_reducible exact SameBut.refl _ _
  with_reducible refine Frames.next ?_
  with_reducible refine (State.raise_frame _ _ _ _ _).after (by decide) ?_
  with_reducible refine (State.updPorch_frame _ _ _).after (by decide) ?_
  with_reducible refine (State.receive_frame _ _).after (by decide) ?_
  with_reducible exact SameBut.refl _ _
  with_reducible refine Frames.next ?_
  with_reducible refine (State.receive_frame _ _).after (by decide) ?_
  with_reducible exact SameBut.refl _ _

theorem execEchoReply_frame (porch : BitVec 4) (id : BitVec 32) (arrival : Nat) (turnPs : BitVec 32) (s : State) :
    Frames [.regs, .porches] s (execEchoReply porch id arrival turnPs s) := by
  unfold execEchoReply
  extract_lets
  with_reducible refine Frames.ite ?_ ?_
  with_reducible refine Frames.next ?_
  with_reducible exact SameBut.refl _ _
  extract_lets
  split
  with_reducible refine Frames.next ?_
  with_reducible refine (State.updPorch_frame _ _ _).after (by decide) ?_
  with_reducible refine (State.receive_frame _ _).after (by decide) ?_
  with_reducible exact SameBut.refl _ _
  with_reducible refine Frames.next ?_
  with_reducible refine (State.receive_frame _ _).after (by decide) ?_
  with_reducible exact SameBut.refl _ _

theorem execFaultCell_frame (porch : BitVec 4) (f : FaultCell) (s : State) :
    Frames [.hrt, .regs, .events, .loops, .porches, .free] s (execFaultCell porch f s) := by
  unfold execFaultCell
  extract_lets
  with_reducible refine Frames.ite ?_ ?_
  with_reducible refine Frames.next ?_
  with_reducible exact SameBut.refl _ _
  with_reducible refine Frames.next ?_
  with_reducible refine SameBut.ite ?_ ?_
  with_reducible refine (State.freezeWhere_frame _ _ _).after (by decide) ?_
  with_reducible refine (State.guardState_frame _ _).after (by decide) ?_
  with_reducible refine SameBut.ite ?_ ?_
  with_reducible refine SameBut.each (fun _ _ => ?_) ?_ _
  with_reducible refine (State.holdPorch_frame _ _ _).after (by decide) ?_
  with_reducible exact SameBut.refl _ _
  with_reducible refine (State.guardEvent_frame _ _).after (by decide) ?_
  with_reducible refine (State.raise_frame _ _ _ _ _).after (by decide) ?_
  with_reducible refine (State.updPorch_frame _ _ _).after (by decide) ?_
  with_reducible refine (State.receive_frame _ _).after (by decide) ?_
  with_reducible exact SameBut.refl _ _
  with_reducible refine (State.guardEvent_frame _ _).after (by decide) ?_
  with_reducible refine (State.raise_frame _ _ _ _ _).after (by decide) ?_
  with_reducible refine (State.updPorch_frame _ _ _).after (by decide) ?_
  with_reducible refine (State.receive_frame _ _).after (by decide) ?_
  with_reducible exact SameBut.refl _ _
  with_reducible refine (State.guardState_frame _ _).after (by decide) ?_
  with_reducible refine SameBut.ite ?_ ?_
  with_reducible refine SameBut.each (fun _ _ => ?_) ?_ _
  with_reducible refine (State.holdPorch_frame _ _ _).after (by decide) ?_
  with_reducible exact SameBut.refl _ _
  with_reducible refine (State.guardEvent_frame _ _).after (by decide) ?_
  with_reducible refine (State.raise_frame _ _ _ _ _).after (by decide) ?_
  with_reducible refine (State.updPorch_frame _ _ _).after (by decide) ?_
  with_reducible refine (State.receive_frame _ _).after (by decide) ?_
  with_reducible exact SameBut.refl _ _
  with_reducible refine (State.guardEvent_frame _ _).after (by decide) ?_
  with_reducible refine (State.raise_frame _ _ _ _ _).after (by decide) ?_
  with_reducible refine (State.updPorch_frame _ _ _).after (by decide) ?_
  with_reducible refine (State.receive_frame _ _).after (by decide) ?_
  with_reducible exact SameBut.refl _ _

theorem execHealthCell_frame (porch : BitVec 4) (h : HealthCell) (s : State) :
    Frames [.regs, .porches] s (execHealthCell porch h s) := by
  unfold execHealthCell
  extract_lets
  with_reducible refine Frames.ite ?_ ?_
  with_reducible refine Frames.next ?_
  with_reducible exact SameBut.refl _ _
  with_reducible refine Frames.next ?_
  with_reducible refine (State.updPorch_frame _ _ _).after (by decide) ?_
  with_reducible refine (State.receive_frame _ _).after (by decide) ?_
  with_reducible exact SameBut.refl _ _

theorem execHolding_frame (porch : BitVec 4) (entries : List (Nat × Int × Bool)) (s : State) :
    Frames [.regs, .porches] s (execHolding porch entries s) := by
  unfold execHolding
  with_reducible refine Frames.next ?_
  with_reducible refine (State.headRecord_frame _ _ _ _).after (by decide) ?_
  with_reducible exact SameBut.refl _ _

theorem execIdent_frame (porch : BitVec 4) (m : IdentMsg) (s : State) :
    Frames [.regs, .events, .porches, .free] s (execIdent porch m s) := by
  unfold execIdent
  extract_lets
  with_reducible refine Frames.ite ?_ ?_
  with_reducible refine Frames.next ?_
  with_reducible exact SameBut.refl _ _
  with_reducible refine Frames.ite ?_ ?_
  with_reducible refine Frames.next ?_
  with_reducible refine (State.updPorch_frame _ _ _).after (by decide) ?_
  with_reducible refine (State.receive_frame _ _).after (by decide) ?_
  with_reducible exact SameBut.refl _ _
  with_reducible refine Frames.ite ?_ ?_
  with_reducible refine Frames.next ?_
  with_reducible refine SameBut.ite ?_ ?_
  with_reducible refine (State.updPorch_frame _ _ _).after (by decide) ?_
  with_reducible refine (State.updPorch_frame _ _ _).after (by decide) ?_
  with_reducible refine (State.receive_frame _ _).after (by decide) ?_
  with_reducible exact SameBut.refl _ _
  with_reducible refine (State.raise_frame _ _ _ _ _).after (by decide) ?_
  with_reducible refine (State.updPorch_frame _ _ _).after (by decide) ?_
  with_reducible refine (State.updPorch_frame _ _ _).after (by decide) ?_
  with_reducible refine (State.receive_frame _ _).after (by decide) ?_
  with_reducible exact SameBut.refl _ _
  with_reducible refine Frames.ite ?_ ?_
  with_reducible refine Frames.next ?_
  with_reducible refine SameBut.ite ?_ ?_
  with_reducible refine (State.updPorch_frame _ _ _).after (by decide) ?_
  with_reducible refine (State.updPorch_frame _ _ _).after (by decide) ?_
  with_reducible refine (State.receive_frame _ _).after (by decide) ?_
  with_reducible exact SameBut.refl _ _
  with_reducible refine (State.raise_frame _ _ _ _ _).after (by decide) ?_
  with_reducible refine (State.updPorch_frame _ _ _).after (by decide) ?_
  with_reducible refine (State.updPorch_frame _ _ _).after (by decide) ?_
  with_reducible refine (State.receive_frame _ _).after (by decide) ?_
  with_reducible exact SameBut.refl _ _
  extract_lets
  split
  with_reducible refine Frames.next ?_
  with_reducible refine (State.send_frame _ _ _ _).after (by decide) ?_
  with_reducible refine (State.updPorch_frame _ _ _).after (by decide) ?_
  with_reducible refine (State.updPorch_frame _ _ _).after (by decide) ?_
  with_reducible refine (State.receive_frame _ _).after (by decide) ?_
  with_reducible exact SameBut.refl _ _
  with_reducible refine Frames.next ?_
  with_reducible refine (State.updPorch_frame _ _ _).after (by decide) ?_
  with_reducible refine (State.updPorch_frame _ _ _).after (by decide) ?_
  with_reducible refine (State.updPorch_frame _ _ _).after (by decide) ?_
  with_reducible refine (State.receive_frame _ _).after (by decide) ?_
  with_reducible exact SameBut.refl _ _

theorem execPorchLost_frame (porch : BitVec 4) (s : State) :
    Frames [.hrt, .pins, .att, .regs, .events, .loops, .porches, .twn, .free] s (execPorchLost porch s) := by
  unfold execPorchLost
  with_reducible refine Frames.next ?_
  with_reducible refine (State.losePorch_frame _ _).after (by decide) ?_
  with_reducible exact SameBut.refl _ _

theorem execScale_frame (porch : BitVec 4) (nw : BitVec 32) (s : State) :
    Frames [.regs, .porches] s (execScale porch nw s) := by
  unfold execScale
  with_reducible refine Frames.next ?_
  with_reducible refine (State.headRecord_frame _ _ _ _).after (by decide) ?_
  with_reducible exact SameBut.refl _ _

theorem execWindows_frame (porch : BitVec 4) (origins : List (Nat × Nat)) (s : State) :
    Frames [.regs, .porches] s (execWindows porch origins s) := by
  unfold execWindows
  with_reducible refine Frames.next ?_
  with_reducible refine (State.headRecord_frame _ _ _ _).after (by decide) ?_
  with_reducible exact SameBut.refl _ _

end Sys2Proof.Machine
end

