-- ==== Sys2Proof/Laws/Frame/Twins.lean ====
section
/-! SUPPORT. What the definitions of Machine/Twins.lean change of the state: one frame for each. -/
namespace Sys2Proof.Machine

theorem State.askBatch_frame (s : State) (b : Nat) :
    SameBut [.hrt, .regs, .porches, .free] s (State.askBatch s b) := by
  unfold State.askBatch
  with_reducible refine SameBut.trans ?_ (State.inTick_frame _ _ (fun _ => ?_) (by decide))
  with_reducible exact SameBut.refl _ _
  with_reducible refine (State.sendAll_frame _ _ _ _).after (by decide) ?_
  with_reducible exact SameBut.refl _ _

theorem State.retractClaim_frame (s : State) (c : Claim) :
    SameBut [.hrt, .regs, .events, .porches, .twn, .free] s (State.retractClaim s c) := by
  unfold State.retractClaim
  extract_lets
  with_reducible refine SameBut.ite ?_ ?_
  with_reducible refine (State.raise_frame _ _ _ _ _).after (by decide) ?_
  with_reducible refine (State.raise_frame _ _ _ _ _).after (by decide) ?_
  with_reducible refine (SameBut.twn_frame _ _).after (by decide) ?_
  with_reducible refine SameBut.ite ?_ ?_
  with_reducible refine SameBut.trans ?_ (State.inTick_frame _ _ (fun _ => ?_) (by decide))
  with_reducible exact SameBut.refl _ _
  with_reducible refine (State.sendAll_frame _ _ _ _).after (by decide) ?_
  with_reducible exact SameBut.refl _ _
  with_reducible exact SameBut.refl _ _
  with_reducible refine (State.raise_frame _ _ _ _ _).after (by decide) ?_
  with_reducible refine (SameBut.twn_frame _ _).after (by decide) ?_
  with_reducible refine SameBut.ite ?_ ?_
  with_reducible refine SameBut.trans ?_ (State.inTick_frame _ _ (fun _ => ?_) (by decide))
  with_reducible exact SameBut.refl _ _
  with_reducible refine (State.sendAll_frame _ _ _ _).after (by decide) ?_
  with_reducible exact SameBut.refl _ _
  with_reducible exact SameBut.refl _ _

theorem State.takeOverMoves_frame (s : State) :
    SameBut [.loops, .mov] s (State.takeOverMoves s) := by
  unfold State.takeOverMoves
  extract_lets
  with_reducible refine (SameBut.mov_frame _ _).after (by decide) ?_
  with_reducible refine SameBut.each (fun _ _ => ?_) ?_ _
  with_reducible refine (State.updLoop_frame _ _ _).after (by decide) ?_
  with_reducible exact SameBut.refl _ _
  with_reducible exact SameBut.refl _ _

theorem State.winClaim_frame (s : State) (c : Claim) :
    SameBut [.events, .loops, .mov, .twn] s (State.winClaim s c) := by
  unfold State.winClaim
  extract_lets
  with_reducible refine (State.raiseTo_frame _ _ _ _ _ _).after (by decide) ?_
  with_reducible refine (State.raiseTo_frame _ _ _ _ _ _).after (by decide) ?_
  with_reducible refine (State.takeOverMoves_frame _).after (by decide) ?_
  with_reducible refine (SameBut.twn_frame _ _).after (by decide) ?_
  with_reducible exact SameBut.refl _ _

theorem State.decideClaim_frame (s : State) :
    SameBut [.hrt, .regs, .events, .loops, .mov, .porches, .twn, .free] s (State.decideClaim s) := by
  unfold State.decideClaim
  split
  with_reducible refine SameBut.ite ?_ ?_
  with_reducible refine SameBut.ite ?_ ?_
  with_reducible refine (State.winClaim_frame _ _).after (by decide) ?_
  with_reducible exact SameBut.refl _ _
  with_reducible refine (State.retractClaim_frame _ _).after (by decide) ?_
  with_reducible exact SameBut.refl _ _
  with_reducible exact SameBut.refl _ _
  with_reducible exact SameBut.refl _ _

theorem State.heartbeatCounts_frame (s : State) :
    SameBut [.regs] s (State.heartbeatCounts s) := by
  unfold State.heartbeatCounts
  with_reducible refine SameBut.ite ?_ ?_
  with_reducible exact SameBut.refl _ _
  extract_lets
  split
  with_reducible refine (State.count_frame _ _ _ _ _).after (by decide) ?_
  with_reducible exact SameBut.refl _ _
  with_reducible refine (State.count_frame _ _ _ _ _).after (by decide) ?_
  with_reducible exact SameBut.refl _ _
  with_reducible refine (State.count_frame _ _ _ _ _).after (by decide) ?_
  with_reducible exact SameBut.refl _ _
  with_reducible exact SameBut.refl _ _

theorem State.loseHeartbeat_frame (s : State) :
    SameBut [.events, .twn] s (State.loseHeartbeat s) := by
  unfold State.loseHeartbeat
  extract_lets
  with_reducible refine SameBut.ite ?_ ?_
  with_reducible refine (State.raise_frame _ _ _ _ _).after (by decide) ?_
  with_reducible refine (SameBut.twn_frame _ _).after (by decide) ?_
  with_reducible exact SameBut.refl _ _
  with_reducible exact SameBut.refl _ _

theorem State.heartbeatTick_frame (s : State) :
    SameBut [.regs, .events, .twn] s (State.heartbeatTick s) := by
  unfold State.heartbeatTick
  extract_lets
  with_reducible refine (SameBut.twn_frame _ _).after (by decide) ?_
  with_reducible refine SameBut.ite ?_ ?_
  with_reducible refine (State.raise_frame _ _ _ _ _).after (by decide) ?_
  with_reducible refine SameBut.ite ?_ ?_
  with_reducible refine (State.raise_frame _ _ _ _ _).after (by decide) ?_
  with_reducible refine (State.loseHeartbeat_frame _).after (by decide) ?_
  with_reducible refine (State.heartbeatCounts_frame _).after (by decide) ?_
  with_reducible exact SameBut.refl _ _
  with_reducible refine (State.loseHeartbeat_frame _).after (by decide) ?_
  with_reducible refine (State.heartbeatCounts_frame _).after (by decide) ?_
  with_reducible exact SameBut.refl _ _
  with_reducible refine SameBut.ite ?_ ?_
  with_reducible refine (State.raise_frame _ _ _ _ _).after (by decide) ?_
  with_reducible refine (State.loseHeartbeat_frame _).after (by decide) ?_
  with_reducible refine (State.heartbeatCounts_frame _).after (by decide) ?_
  with_reducible exact SameBut.refl _ _
  with_reducible refine (State.loseHeartbeat_frame _).after (by decide) ?_
  with_reducible refine (State.heartbeatCounts_frame _).after (by decide) ?_
  with_reducible exact SameBut.refl _ _

theorem State.installBatch_frame (s : State) (b : Nat) (ls : List (Nat × Loop)) :
    SameBut [.loops] s (State.installBatch s b ls) := by
  unfold State.installBatch
  with_reducible refine SameBut.each (fun _ _ => ?_) ?_ _
  with_reducible refine (State.updLoop_frame _ _ _).after (by decide) ?_
  with_reducible exact SameBut.refl _ _
  with_reducible exact SameBut.refl _ _

theorem State.installTable_frame (s : State) (id : Nat) (bytes : List (Nat × Byte)) :
    SameBut [.plan] s (State.installTable s id bytes) := by
  unfold State.installTable
  with_reducible refine (State.updTable_frame _ _ _).after (by decide) ?_
  with_reducible exact SameBut.refl _ _

theorem State.resyncTick_frame (s : State) :
    SameBut [.hrt, .regs, .events, .loops, .plan, .porches, .twn, .free] s (State.resyncTick s) := by
  unfold State.resyncTick
  extract_lets
  split
  with_reducible exact SameBut.refl _ _
  with_reducible refine SameBut.ite ?_ ?_
  with_reducible refine (SameBut.twn_frame _ _).after (by decide) ?_
  with_reducible exact SameBut.refl _ _
  with_reducible refine SameBut.ite ?_ ?_
  with_reducible refine (State.raiseTo_frame _ _ _ _ _ _).after (by decide) ?_
  with_reducible refine (State.raise_frame _ _ _ _ _).after (by decide) ?_
  with_reducible refine (SameBut.twn_frame _ _).after (by decide) ?_
  with_reducible refine (SameBut.twn_frame _ _).after (by decide) ?_
  with_reducible refine SameBut.foldl (fun _ _ => ?_) ?_ _
  with_reducible refine (State.installTable_frame _ _ _).after (by decide) ?_
  with_reducible exact SameBut.refl _ _
  with_reducible refine SameBut.foldl (fun _ _ => ?_) ?_ _
  with_reducible refine (State.installBatch_frame _ _ _).after (by decide) ?_
  with_reducible exact SameBut.refl _ _
  with_reducible exact SameBut.refl _ _
  with_reducible refine SameBut.ite ?_ ?_
  with_reducible refine (State.askBatch_frame _ _).after (by decide) ?_
  with_reducible refine (SameBut.twn_frame _ _).after (by decide) ?_
  with_reducible refine SameBut.foldl (fun _ _ => ?_) ?_ _
  with_reducible refine (State.installTable_frame _ _ _).after (by decide) ?_
  with_reducible exact SameBut.refl _ _
  with_reducible refine SameBut.foldl (fun _ _ => ?_) ?_ _
  with_reducible refine (State.installBatch_frame _ _ _).after (by decide) ?_
  with_reducible exact SameBut.refl _ _
  with_reducible exact SameBut.refl _ _
  with_reducible refine (SameBut.twn_frame _ _).after (by decide) ?_
  with_reducible refine SameBut.foldl (fun _ _ => ?_) ?_ _
  with_reducible refine (State.installTable_frame _ _ _).after (by decide) ?_
  with_reducible exact SameBut.refl _ _
  with_reducible refine SameBut.foldl (fun _ _ => ?_) ?_ _
  with_reducible refine (State.installBatch_frame _ _ _).after (by decide) ?_
  with_reducible exact SameBut.refl _ _
  with_reducible exact SameBut.refl _ _

theorem State.setRole_frame (s : State) (r : Role) :
    SameBut [.events, .twn] s (State.setRole s r) := by
  unfold State.setRole
  extract_lets
  with_reducible refine SameBut.ite ?_ ?_
  with_reducible exact SameBut.refl _ _
  with_reducible refine (State.raiseTo_frame _ _ _ _ _ _).after (by decide) ?_
  with_reducible refine (SameBut.twn_frame _ _).after (by decide) ?_
  with_reducible exact SameBut.refl _ _

theorem State.startResync_frame (s : State) :
    SameBut [.hrt, .regs, .porches, .twn, .free] s (State.startResync s) := by
  unfold State.startResync
  extract_lets
  with_reducible refine SameBut.ite ?_ ?_
  with_reducible refine (State.askBatch_frame _ _).after (by decide) ?_
  with_reducible refine (SameBut.twn_frame _ _).after (by decide) ?_
  with_reducible exact SameBut.refl _ _
  with_reducible exact SameBut.refl _ _

theorem State.takeRejoin_frame (s : State) :
    SameBut [.ops, .twn] s (State.takeRejoin s) := by
  unfold State.takeRejoin
  extract_lets
  with_reducible refine SameBut.ite ?_ ?_
  with_reducible refine (SameBut.ops_twn_frame _ _ _).after (by decide) ?_
  with_reducible exact SameBut.refl _ _
  with_reducible exact SameBut.refl _ _

theorem State.takeMismatch_frame (s : State) :
    SameBut [.att, .events, .loops, .porches, .twn] s (State.takeMismatch s) := by
  unfold State.takeMismatch
  extract_lets
  with_reducible refine SameBut.ite ?_ ?_
  with_reducible exact SameBut.refl _ _
  with_reducible refine SameBut.ite ?_ ?_
  with_reducible refine (State.giveUp_frame _ _).after (by decide) ?_
  with_reducible refine (State.raise_frame _ _ _ _ _).after (by decide) ?_
  with_reducible refine (SameBut.twn_frame _ _).after (by decide) ?_
  with_reducible exact SameBut.refl _ _
  with_reducible refine (SameBut.twn_frame _ _).after (by decide) ?_
  with_reducible exact SameBut.refl _ _

theorem State.takeWithdrawal_frame (s : State) :
    SameBut [.att, .events, .loops, .porches, .twn] s (State.takeWithdrawal s) := by
  unfold State.takeWithdrawal
  extract_lets
  split
  with_reducible refine (State.setRole_frame _ _).after (by decide) ?_
  with_reducible refine (SameBut.twn_frame _ _).after (by decide) ?_
  with_reducible refine (State.takeMismatch_frame _).after (by decide) ?_
  with_reducible refine SameBut.ite ?_ ?_
  with_reducible refine (State.giveUp_frame _ _).after (by decide) ?_
  with_reducible refine (State.raise_frame _ _ _ _ _).after (by decide) ?_
  with_reducible exact SameBut.refl _ _
  with_reducible exact SameBut.refl _ _
  with_reducible refine (State.takeMismatch_frame _).after (by decide) ?_
  with_reducible refine SameBut.ite ?_ ?_
  with_reducible refine (State.giveUp_frame _ _).after (by decide) ?_
  with_reducible refine (State.raise_frame _ _ _ _ _).after (by decide) ?_
  with_reducible exact SameBut.refl _ _
  with_reducible exact SameBut.refl _ _

theorem State.roleTick_frame (s : State) :
    SameBut [.hrt, .att, .regs, .events, .ops, .loops, .plan, .mov, .porches, .twn, .free] s (State.roleTick s) := by
  unfold State.roleTick
  extract_lets
  with_reducible refine (SameBut.twn_frame _ _).after (by decide) ?_
  with_reducible refine SameBut.ite ?_ ?_
  with_reducible refine (State.raise_frame _ _ _ _ _).after (by decide) ?_
  with_reducible refine (SameBut.twn_frame _ _).after (by decide) ?_
  with_reducible refine (State.startResync_frame _).after (by decide) ?_
  with_reducible refine (State.resyncTick_frame _).after (by decide) ?_
  with_reducible refine (State.takeRejoin_frame _).after (by decide) ?_
  with_reducible refine SameBut.ite ?_ ?_
  with_reducible refine (State.setRole_frame _ _).after (by decide) ?_
  with_reducible refine (State.decideClaim_frame _).after (by decide) ?_
  with_reducible refine (State.takeWithdrawal_frame _).after (by decide) ?_
  with_reducible refine (State.heartbeatTick_frame _).after (by decide) ?_
  with_reducible exact SameBut.refl _ _
  with_reducible refine (State.decideClaim_frame _).after (by decide) ?_
  with_reducible refine (State.takeWithdrawal_frame _).after (by decide) ?_
  with_reducible refine (State.heartbeatTick_frame _).after (by decide) ?_
  with_reducible exact SameBut.refl _ _
  with_reducible refine (State.startResync_frame _).after (by decide) ?_
  with_reducible refine (State.resyncTick_frame _).after (by decide) ?_
  with_reducible refine (State.takeRejoin_frame _).after (by decide) ?_
  with_reducible refine SameBut.ite ?_ ?_
  with_reducible refine (State.setRole_frame _ _).after (by decide) ?_
  with_reducible refine (State.decideClaim_frame _).after (by decide) ?_
  with_reducible refine (State.takeWithdrawal_frame _).after (by decide) ?_
  with_reducible refine (State.heartbeatTick_frame _).after (by decide) ?_
  with_reducible exact SameBut.refl _ _
  with_reducible refine (State.decideClaim_frame _).after (by decide) ?_
  with_reducible refine (State.takeWithdrawal_frame _).after (by decide) ?_
  with_reducible refine (State.heartbeatTick_frame _).after (by decide) ?_
  with_reducible exact SameBut.refl _ _

theorem State.keepTime_frame (s : State) :
    SameBut [.hrt] s (State.keepTime s) := by
  unfold State.keepTime
  extract_lets
  with_reducible refine SameBut.ite ?_ ?_
  with_reducible refine (SameBut.hrt_frame _ _).after (by decide) ?_
  with_reducible exact SameBut.refl _ _
  with_reducible exact SameBut.refl _ _

theorem State.receiveLanding_frame (s : State) :
    SameBut [.regs, .porches] s (State.receiveLanding s) := by
  unfold State.receiveLanding
  split
  with_reducible refine (State.receive_frame _ _).after (by decide) ?_
  with_reducible exact SameBut.refl _ _
  with_reducible exact SameBut.refl _ _

theorem execRejoin_frame (s : State) :
    Frames [.ops] s (execRejoin s) := by
  unfold execRejoin
  extract_lets
  with_reducible refine Frames.next ?_
  with_reducible refine (SameBut.ops_frame _ _).after (by decide) ?_
  with_reducible exact SameBut.refl _ _

theorem execClaim_frame (trigger : BitVec 4) (s : State) :
    Frames [.regs, .porches, .twn, .free] s (execClaim trigger s) := by
  unfold execClaim
  extract_lets
  with_reducible refine Frames.ite ?_ ?_
  with_reducible refine Frames.next ?_
  with_reducible refine (State.startClaim_frame _ _ _).after (by decide) ?_
  with_reducible exact SameBut.refl _ _
  with_reducible refine Frames.next ?_
  with_reducible exact SameBut.refl _ _

theorem execClaimDecision_frame (s : State) :
    Frames [.hrt, .regs, .events, .loops, .mov, .porches, .twn, .free] s (execClaimDecision s) := by
  unfold execClaimDecision
  with_reducible refine Frames.next ?_
  with_reducible refine (State.decideClaim_frame _).after (by decide) ?_
  with_reducible exact SameBut.refl _ _

theorem execCommandCell_frame (c : CommandCell) (s : State) :
    Frames [.regs, .loops, .porches, .twn, .free] s (execCommandCell c s) := by
  unfold execCommandCell
  extract_lets
  with_reducible refine Frames.ite ?_ ?_
  with_reducible refine Frames.next ?_
  with_reducible exact SameBut.refl _ _
  with_reducible refine Frames.ite ?_ ?_
  with_reducible refine Frames.next ?_
  with_reducible refine SameBut.foldl (fun _ _ => ?_) ?_ _
  with_reducible refine (State.keepCommand_frame _ _ _).after (by decide) ?_
  with_reducible exact SameBut.refl _ _
  with_reducible refine (State.receiveLanding_frame _).after (by decide) ?_
  with_reducible exact SameBut.refl _ _
  extract_lets
  split
  with_reducible refine Frames.ite ?_ ?_
  with_reducible refine Frames.next ?_
  with_reducible refine (State.count_frame _ _ _ _ _).after (by decide) ?_
  with_reducible refine (State.receiveLanding_frame _).after (by decide) ?_
  with_reducible exact SameBut.refl _ _
  with_reducible refine Frames.ite ?_ ?_
  with_reducible refine Frames.next ?_
  with_reducible refine (State.count_frame _ _ _ _ _).after (by decide) ?_
  with_reducible refine (State.receiveLanding_frame _).after (by decide) ?_
  with_reducible exact SameBut.refl _ _
  with_reducible refine Frames.ite ?_ ?_
  with_reducible refine Frames.next ?_
  with_reducible refine SameBut.foldl (fun _ _ => ?_) ?_ _
  with_reducible refine (State.relayCommand_frame _ _ _).after (by decide) ?_
  with_reducible exact SameBut.refl _ _
  with_reducible refine (SameBut.twn_frame _ _).after (by decide) ?_
  with_reducible refine (State.count_frame _ _ _ _ _).after (by decide) ?_
  with_reducible refine (State.send_frame _ _ _ _).after (by decide) ?_
  with_reducible refine (State.receiveLanding_frame _).after (by decide) ?_
  with_reducible exact SameBut.refl _ _
  with_reducible refine Frames.next ?_
  with_reducible refine SameBut.foldl (fun _ _ => ?_) ?_ _
  with_reducible refine (State.keepCommand_frame _ _ _).after (by decide) ?_
  with_reducible exact SameBut.refl _ _
  with_reducible refine (State.receiveLanding_frame _).after (by decide) ?_
  with_reducible exact SameBut.refl _ _
  with_reducible refine Frames.next ?_
  with_reducible refine (State.count_frame _ _ _ _ _).after (by decide) ?_
  with_reducible refine (State.receiveLanding_frame _).after (by decide) ?_
  with_reducible exact SameBut.refl _ _

theorem execGrantCell_frame (porch : BitVec 4) (g : GrantCell) (s : State) :
    Frames [.regs, .porches, .twn] s (execGrantCell porch g s) := by
  unfold execGrantCell
  extract_lets
  with_reducible refine Frames.ite ?_ ?_
  with_reducible refine Frames.next ?_
  with_reducible exact SameBut.refl _ _
  with_reducible refine Frames.ite ?_ ?_
  with_reducible refine Frames.next ?_
  with_reducible refine SameBut.ite ?_ ?_
  with_reducible refine (SameBut.twn_frame _ _).after (by decide) ?_
  with_reducible refine (State.seeEpoch_frame _ _).after (by decide) ?_
  with_reducible refine (State.receive_frame _ _).after (by decide) ?_
  with_reducible exact SameBut.refl _ _
  with_reducible refine (State.seeEpoch_frame _ _).after (by decide) ?_
  with_reducible refine (State.receive_frame _ _).after (by decide) ?_
  with_reducible exact SameBut.refl _ _
  extract_lets
  split
  with_reducible refine Frames.ite ?_ ?_
  with_reducible refine Frames.next ?_
  with_reducible refine (State.seeEpoch_frame _ _).after (by decide) ?_
  with_reducible refine (State.receive_frame _ _).after (by decide) ?_
  with_reducible exact SameBut.refl _ _
  with_reducible refine Frames.next ?_
  with_reducible refine (SameBut.twn_frame _ _).after (by decide) ?_
  with_reducible refine (State.seeEpoch_frame _ _).after (by decide) ?_
  with_reducible refine (State.receive_frame _ _).after (by decide) ?_
  with_reducible exact SameBut.refl _ _
  with_reducible refine Frames.next ?_
  with_reducible refine (State.seeEpoch_frame _ _).after (by decide) ?_
  with_reducible refine (State.receive_frame _ _).after (by decide) ?_
  with_reducible exact SameBut.refl _ _

theorem execHeartbeatEdge_frame (s : State) :
    Frames [.twn] s (execHeartbeatEdge s) := by
  unfold execHeartbeatEdge
  extract_lets
  with_reducible refine Frames.next ?_
  with_reducible refine (SameBut.twn_frame _ _).after (by decide) ?_
  with_reducible exact SameBut.refl _ _

theorem execHeartbeatLost_frame (s : State) :
    Frames [.events, .twn] s (execHeartbeatLost s) := by
  unfold execHeartbeatLost
  with_reducible refine Frames.next ?_
  with_reducible refine (State.loseHeartbeat_frame _).after (by decide) ?_
  with_reducible exact SameBut.refl _ _

theorem execReassert_frame (s : State) :
    Frames [.regs, .porches, .free] s (execReassert s) := by
  unfold execReassert
  extract_lets
  with_reducible refine Frames.ite ?_ ?_
  with_reducible refine Frames.next ?_
  with_reducible refine (State.sendAll_frame _ _ _ _).after (by decide) ?_
  with_reducible exact SameBut.refl _ _
  with_reducible refine Frames.next ?_
  with_reducible exact SameBut.refl _ _

theorem execResyncCell_frame (part : ResyncPart) (s : State) :
    Frames [.regs, .porches, .twn, .upd] s (execResyncCell part s) := by
  unfold execResyncCell
  extract_lets
  with_reducible refine Frames.ite ?_ ?_
  with_reducible refine Frames.next ?_
  with_reducible exact SameBut.refl _ _
  extract_lets
  split
  with_reducible refine Frames.next ?_
  with_reducible refine (SameBut.upd_frame _ _).after (by decide) ?_
  with_reducible refine (State.receiveLanding_frame _).after (by decide) ?_
  with_reducible exact SameBut.refl _ _
  with_reducible refine Frames.ite ?_ ?_
  with_reducible refine Frames.next ?_
  with_reducible refine (SameBut.twn_frame _ _).after (by decide) ?_
  with_reducible refine (State.receiveLanding_frame _).after (by decide) ?_
  with_reducible exact SameBut.refl _ _
  with_reducible refine Frames.next ?_
  with_reducible refine (State.receiveLanding_frame _).after (by decide) ?_
  with_reducible exact SameBut.refl _ _
  with_reducible refine Frames.next ?_
  with_reducible refine (SameBut.twn_frame _ _).after (by decide) ?_
  with_reducible refine (State.receiveLanding_frame _).after (by decide) ?_
  with_reducible exact SameBut.refl _ _
  with_reducible refine Frames.ite ?_ ?_
  with_reducible refine Frames.next ?_
  with_reducible refine (SameBut.twn_frame _ _).after (by decide) ?_
  with_reducible refine (State.receiveLanding_frame _).after (by decide) ?_
  with_reducible exact SameBut.refl _ _
  with_reducible refine Frames.next ?_
  with_reducible refine (State.receiveLanding_frame _).after (by decide) ?_
  with_reducible exact SameBut.refl _ _

theorem execResyncStart_frame (s : State) :
    Frames [.hrt, .regs, .porches, .twn, .free] s (execResyncStart s) := by
  unfold execResyncStart
  with_reducible refine Frames.next ?_
  with_reducible refine (State.startResync_frame _).after (by decide) ?_
  with_reducible exact SameBut.refl _ _

theorem execStateCell_frame (c : StateCell) (s : State) :
    Frames [.regs, .porches, .twn] s (execStateCell c s) := by
  unfold execStateCell
  extract_lets
  with_reducible refine Frames.ite ?_ ?_
  with_reducible refine Frames.next ?_
  with_reducible exact SameBut.refl _ _
  with_reducible refine Frames.next ?_
  with_reducible refine (SameBut.twn_frame _ _).after (by decide) ?_
  with_reducible refine (State.seeEpoch_frame _ _).after (by decide) ?_
  with_reducible refine (State.receiveLanding_frame _).after (by decide) ?_
  with_reducible exact SameBut.refl _ _

theorem execTimeCellRx_frame (c : TimeCell) (offset : Int) (s : State) :
    Frames [.hrt, .regs, .porches, .twn] s (execTimeCellRx c offset s) := by
  unfold execTimeCellRx
  extract_lets
  with_reducible refine Frames.ite ?_ ?_
  with_reducible refine Frames.next ?_
  with_reducible exact SameBut.refl _ _
  with_reducible refine Frames.ite ?_ ?_
  with_reducible refine Frames.ite ?_ ?_
  with_reducible refine Frames.ite ?_ ?_
  with_reducible refine Frames.next ?_
  with_reducible refine SameBut.ite ?_ ?_
  with_reducible refine (SameBut.hrt_frame _ _).after (by decide) ?_
  with_reducible refine (State.seeEpoch_frame _ _).after (by decide) ?_
  with_reducible refine (State.receiveLanding_frame _).after (by decide) ?_
  with_reducible exact SameBut.refl _ _
  with_reducible refine (SameBut.hrt_frame _ _).after (by decide) ?_
  with_reducible refine (SameBut.hrt_frame _ _).after (by decide) ?_
  with_reducible refine (State.seeEpoch_frame _ _).after (by decide) ?_
  with_reducible refine (State.receiveLanding_frame _).after (by decide) ?_
  with_reducible exact SameBut.refl _ _
  with_reducible refine Frames.next ?_
  with_reducible refine (State.seeReference_frame _ _).after (by decide) ?_
  with_reducible refine SameBut.ite ?_ ?_
  with_reducible refine (SameBut.hrt_frame _ _).after (by decide) ?_
  with_reducible refine (State.seeEpoch_frame _ _).after (by decide) ?_
  with_reducible refine (State.receiveLanding_frame _).after (by decide) ?_
  with_reducible exact SameBut.refl _ _
  with_reducible refine (SameBut.hrt_frame _ _).after (by decide) ?_
  with_reducible refine (SameBut.hrt_frame _ _).after (by decide) ?_
  with_reducible refine (State.seeEpoch_frame _ _).after (by decide) ?_
  with_reducible refine (State.receiveLanding_frame _).after (by decide) ?_
  with_reducible exact SameBut.refl _ _
  with_reducible refine Frames.next ?_
  with_reducible refine (SameBut.hrt_frame _ _).after (by decide) ?_
  with_reducible refine (State.seeEpoch_frame _ _).after (by decide) ?_
  with_reducible refine (State.receiveLanding_frame _).after (by decide) ?_
  with_reducible exact SameBut.refl _ _
  with_reducible refine Frames.next ?_
  with_reducible refine (State.seeEpoch_frame _ _).after (by decide) ?_
  with_reducible refine (State.receiveLanding_frame _).after (by decide) ?_
  with_reducible exact SameBut.refl _ _

theorem execWithdrawCell_frame (w : WithdrawCell) (s : State) :
    Frames [.hrt, .regs, .porches, .twn, .free] s (execWithdrawCell w s) := by
  unfold execWithdrawCell
  extract_lets
  with_reducible refine Frames.ite ?_ ?_
  with_reducible refine Frames.next ?_
  with_reducible exact SameBut.refl _ _
  with_reducible refine Frames.next ?_
  with_reducible refine SameBut.ite ?_ ?_
  with_reducible refine (State.startClaim_frame _ _ _).after (by decide) ?_
  with_reducible refine (State.guardEvent_frame _ _).after (by decide) ?_
  with_reducible refine (State.receiveLanding_frame _).after (by decide) ?_
  with_reducible exact SameBut.refl _ _
  with_reducible refine (State.guardState_frame _ _).after (by decide) ?_
  with_reducible refine (State.guardEvent_frame _ _).after (by decide) ?_
  with_reducible refine (State.receiveLanding_frame _).after (by decide) ?_
  with_reducible exact SameBut.refl _ _

end Sys2Proof.Machine
end

