-- ==== Sys2Proof/Laws/Frame/Plans.lean ====
section
/-! SUPPORT. What the definitions of Machine/Plans.lean change of the state: one frame for each. -/
namespace Sys2Proof.Machine

theorem State.freezeLost_frame (s : State) :
    SameBut [.loops, .plan] s (State.freezeLost s) := by
  unfold State.freezeLost
  extract_lets
  split
  with_reducible refine SameBut.ite ?_ ?_
  with_reducible refine (SameBut.plan_frame _ _).after (by decide) ?_
  with_reducible refine (State.freezeWhere_frame _ _ _).after (by decide) ?_
  with_reducible exact SameBut.refl _ _
  with_reducible exact SameBut.refl _ _
  with_reducible exact SameBut.refl _ _

theorem State.noVariant_frame (s : State) :
    SameBut [.hrt, .pins, .att, .regs, .events, .loops, .plan, .porches, .twn, .free] s (State.noVariant s) := by
  unfold State.noVariant
  extract_lets
  split
  with_reducible refine SameBut.trans ?_ (State.inTick_frame _ _ (fun _ => ?_) (by decide))
  with_reducible exact SameBut.refl _ _
  with_reducible refine SameBut.trans ?_ (State.verdict_frame _ _ _ _ (fun _ => ?_) (by decide))
  with_reducible exact SameBut.refl _ _
  with_reducible refine (State.record_frame _ _ _ _ _).after (by decide) ?_
  with_reducible refine (State.faultOn_frame _ _ _).after (by decide) ?_
  with_reducible refine (SameBut.plan_frame _ _).after (by decide) ?_
  with_reducible exact SameBut.refl _ _
  with_reducible refine SameBut.trans ?_ (State.inTick_frame _ _ (fun _ => ?_) (by decide))
  with_reducible exact SameBut.refl _ _
  with_reducible refine SameBut.trans ?_ (State.verdict_frame _ _ _ _ (fun _ => ?_) (by decide))
  with_reducible exact SameBut.refl _ _
  with_reducible refine (State.record_frame _ _ _ _ _).after (by decide) ?_
  with_reducible refine (State.faultOn_frame _ _ _).after (by decide) ?_
  with_reducible refine (SameBut.plan_frame _ _).after (by decide) ?_
  with_reducible exact SameBut.refl _ _
  with_reducible refine SameBut.trans ?_ (State.inTick_frame _ _ (fun _ => ?_) (by decide))
  with_reducible exact SameBut.refl _ _
  with_reducible refine SameBut.trans ?_ (State.verdict_frame _ _ _ _ (fun _ => ?_) (by decide))
  with_reducible exact SameBut.refl _ _
  with_reducible refine (State.record_frame _ _ _ _ _).after (by decide) ?_
  with_reducible refine (State.faultOn_frame _ _ _).after (by decide) ?_
  with_reducible refine (SameBut.plan_frame _ _).after (by decide) ?_
  with_reducible exact SameBut.refl _ _
  with_reducible exact SameBut.refl _ _
  with_reducible exact SameBut.refl _ _

theorem State.dropWeights_frame (s : State) :
    SameBut [.plan, .est] s (State.dropWeights s) := by
  unfold State.dropWeights
  extract_lets
  with_reducible refine (SameBut.est_frame _ _).after (by decide) ?_
  with_reducible refine (SameBut.plan_frame _ _).after (by decide) ?_
  with_reducible exact SameBut.refl _ _

theorem State.placeService_frame (s : State) (j pages t : Nat) :
    SameBut [.til] s (State.placeService s j pages t) := by
  unfold State.placeService
  extract_lets
  with_reducible refine (State.updTile_frame _ _ _).after (by decide) ?_
  with_reducible refine SameBut.each (fun _ _ => ?_) ?_ _
  with_reducible refine (State.endAt_frame _ _ _).after (by decide) ?_
  with_reducible exact SameBut.refl _ _
  with_reducible exact SameBut.refl _ _

theorem State.moveService_frame (s : State) (v : Placement) (r : JobRec) :
    SameBut [.events, .til] s (State.moveService s v r) := by
  unfold State.moveService
  extract_lets
  with_reducible refine SameBut.ite ?_ ?_
  with_reducible exact SameBut.refl _ _
  with_reducible refine SameBut.ite ?_ ?_
  with_reducible refine SameBut.each (fun _ _ => ?_) ?_ _
  with_reducible refine (State.placeService_frame _ _ _ _).after (by decide) ?_
  with_reducible exact SameBut.refl _ _
  with_reducible refine (State.updJob_frame _ _ _).after (by decide) ?_
  with_reducible refine (SameBut.til_frame _ _).after (by decide) ?_
  with_reducible exact SameBut.refl _ _
  with_reducible refine SameBut.ite ?_ ?_
  with_reducible refine (State.setJob_frame _ _ _).after (by decide) ?_
  with_reducible refine SameBut.each (fun _ _ => ?_) ?_ _
  with_reducible refine (State.placeService_frame _ _ _ _).after (by decide) ?_
  with_reducible exact SameBut.refl _ _
  with_reducible refine (State.updJob_frame _ _ _).after (by decide) ?_
  with_reducible exact SameBut.refl _ _
  with_reducible exact SameBut.refl _ _

theorem State.moveServices_frame (s : State) (v : Placement) :
    SameBut [.events, .til] s (State.moveServices s v) := by
  unfold State.moveServices
  with_reducible refine SameBut.foldl (fun _ _ => ?_) ?_ _
  with_reducible refine (State.moveService_frame _ _ _).after (by decide) ?_
  with_reducible exact SameBut.refl _ _
  with_reducible exact SameBut.refl _ _

theorem State.fillPages_frame (s : State) (t digest : Nat) (pages : List Nat) :
    SameBut [.ram] s (State.fillPages s t digest pages) := by
  unfold State.fillPages
  with_reducible refine SameBut.foldl (fun _ _ => ?_) ?_ _
  with_reducible refine (State.writeBytes_frame _ _ _).after (by decide) ?_
  with_reducible exact SameBut.refl _ _
  with_reducible exact SameBut.refl _ _

theorem State.placeVariant_frame (s : State) (v : Placement) :
    SameBut [.til, .ram] s (State.placeVariant s v) := by
  unfold State.placeVariant
  with_reducible refine SameBut.each (fun _ _ => ?_) ?_ _
  with_reducible refine (State.updTile_frame _ _ _).after (by decide) ?_
  with_reducible refine SameBut.ite ?_ ?_
  with_reducible exact SameBut.refl _ _
  with_reducible refine (State.fillPages_frame _ _ _ _).after (by decide) ?_
  with_reducible exact SameBut.refl _ _
  with_reducible exact SameBut.refl _ _

theorem State.takePages_frame (s : State) :
    SameBut [.til] s (State.takePages s) := by
  unfold State.takePages
  with_reducible refine SameBut.each (fun _ _ => ?_) ?_ _
  with_reducible refine SameBut.ite ?_ ?_
  with_reducible exact SameBut.refl _ _
  with_reducible refine SameBut.each (fun _ _ => ?_) ?_ _
  with_reducible refine (State.endAt_frame _ _ _).after (by decide) ?_
  with_reducible exact SameBut.refl _ _
  with_reducible exact SameBut.refl _ _
  with_reducible exact SameBut.refl _ _

theorem State.switchVariant_frame (s : State) :
    SameBut [.events, .plan, .est, .til, .ram] s (State.switchVariant s) := by
  unfold State.switchVariant
  extract_lets
  split
  with_reducible refine SameBut.ite ?_ ?_
  extract_lets
  split
  with_reducible refine (State.raise_frame _ _ _ _ _).after (by decide) ?_
  with_reducible refine (State.dropWeights_frame _).after (by decide) ?_
  with_reducible refine (State.moveServices_frame _ _).after (by decide) ?_
  with_reducible refine (State.takePages_frame _).after (by decide) ?_
  with_reducible refine (State.placeVariant_frame _ _).after (by decide) ?_
  with_reducible refine (SameBut.plan_frame _ _).after (by decide) ?_
  with_reducible exact SameBut.refl _ _
  with_reducible refine (SameBut.plan_frame _ _).after (by decide) ?_
  with_reducible exact SameBut.refl _ _
  with_reducible exact SameBut.refl _ _
  with_reducible exact SameBut.refl _ _

theorem State.selectPlacement_frame (s : State) :
    SameBut [.hrt, .pins, .att, .regs, .events, .loops, .plan, .est, .porches, .twn, .til, .ram, .free] s (State.selectPlacement s) := by
  unfold State.selectPlacement
  extract_lets
  with_reducible refine SameBut.ite ?_ ?_
  with_reducible refine SameBut.ite ?_ ?_
  with_reducible refine (SameBut.plan_frame _ _).after (by decide) ?_
  with_reducible refine (State.switchVariant_frame _).after (by decide) ?_
  with_reducible exact SameBut.refl _ _
  extract_lets
  split
  with_reducible refine SameBut.ite ?_ ?_
  with_reducible refine (SameBut.plan_frame _ _).after (by decide) ?_
  with_reducible refine (State.switchVariant_frame _).after (by decide) ?_
  with_reducible exact SameBut.refl _ _
  with_reducible refine (SameBut.plan_frame _ _).after (by decide) ?_
  with_reducible refine (SameBut.plan_frame _ _).after (by decide) ?_
  with_reducible refine (State.switchVariant_frame _).after (by decide) ?_
  with_reducible exact SameBut.refl _ _
  with_reducible refine (State.noVariant_frame _).after (by decide) ?_
  with_reducible refine (SameBut.plan_frame _ _).after (by decide) ?_
  with_reducible refine (State.switchVariant_frame _).after (by decide) ?_
  with_reducible exact SameBut.refl _ _
  with_reducible exact SameBut.refl _ _

theorem State.commitDone_frame (s : State) :
    SameBut [.events, .plan] s (State.commitDone s) := by
  unfold State.commitDone
  extract_lets
  with_reducible refine (State.raise_frame _ _ _ _ _).after (by decide) ?_
  with_reducible refine (SameBut.plan_frame _ _).after (by decide) ?_
  with_reducible exact SameBut.refl _ _

theorem State.planResult_frame (s : State) (r : Nat) :
    SameBut [.plan] s (State.planResult s r) := by
  unfold State.planResult
  extract_lets
  with_reducible refine (SameBut.plan_frame _ _).after (by decide) ?_
  with_reducible exact SameBut.refl _ _

theorem State.commitFail_frame (s : State) (r : Nat) :
    SameBut [.events, .plan] s (State.commitFail s r) := by
  unfold State.commitFail
  extract_lets
  with_reducible refine SameBut.ite ?_ ?_
  with_reducible refine (State.raise_frame _ _ _ _ _).after (by decide) ?_
  with_reducible refine (State.planResult_frame _ _).after (by decide) ?_
  with_reducible exact SameBut.refl _ _
  with_reducible refine (State.planResult_frame _ _).after (by decide) ?_
  with_reducible exact SameBut.refl _ _

theorem State.clearJobs_frame (s : State) (kept : List Nat) :
    SameBut [.regs, .events, .plan, .est, .til, .mem, .shelves, .ram] s (State.clearJobs s kept) := by
  unfold State.clearJobs
  extract_lets
  with_reducible refine (SameBut.til_frame _ _).after (by decide) ?_
  with_reducible refine SameBut.each (fun _ _ => ?_) ?_ _
  with_reducible refine (State.evictJob_frame _ _).after (by decide) ?_
  with_reducible exact SameBut.refl _ _
  with_reducible refine SameBut.each (fun _ _ => ?_) ?_ _
  with_reducible refine (State.endNow_frame _ _ _).after (by decide) ?_
  with_reducible exact SameBut.refl _ _
  with_reducible exact SameBut.refl _ _

theorem State.loadImage_frame (s : State) (r : JobRec) :
    SameBut [.ram] s (State.loadImage s r) := by
  unfold State.loadImage
  split
  with_reducible refine SameBut.foldl (fun _ _ => ?_) ?_ _
  with_reducible refine (State.writeByte_frame _ _ _).after (by decide) ?_
  with_reducible exact SameBut.refl _ _
  with_reducible refine (State.zeroBytes_frame _ _ _).after (by decide) ?_
  with_reducible exact SameBut.refl _ _
  with_reducible exact SameBut.refl _ _

theorem State.commitJobs_frame (s : State) (q : Plan) (kept : List Nat) :
    SameBut [.att, .events, .til, .mem, .ram] s (State.commitJobs s q kept) := by
  unfold State.commitJobs
  with_reducible refine SameBut.foldl (fun _ _ => ?_) ?_ _
  with_reducible refine (State.placeJob_frame _ _ _ _).after (by decide) ?_
  with_reducible refine SameBut.ite ?_ ?_
  with_reducible refine (State.updJob_frame _ _ _).after (by decide) ?_
  with_reducible exact SameBut.refl _ _
  with_reducible refine (State.setJob_frame _ _ _).after (by decide) ?_
  with_reducible refine SameBut.ite ?_ ?_
  with_reducible refine (State.loadImage_frame _ _).after (by decide) ?_
  with_reducible refine (State.updJob_frame _ _ _).after (by decide) ?_
  with_reducible exact SameBut.refl _ _
  with_reducible refine (State.updJob_frame _ _ _).after (by decide) ?_
  with_reducible exact SameBut.refl _ _
  with_reducible refine (State.allotPages_frame _).after (by decide) ?_
  with_reducible exact SameBut.refl _ _

theorem State.commitLoops_frame (s : State) (q : Plan) (ls : List Nat) (first : Option Nat) :
    SameBut [.regs, .events, .loops, .eng] s (State.commitLoops s q ls first) := by
  unfold State.commitLoops
  extract_lets
  split
  with_reducible refine (SameBut.loops_frame _ _).after (by decide) ?_
  with_reducible refine (SameBut.eng_frame _ _).after (by decide) ?_
  with_reducible refine SameBut.ite ?_ ?_
  with_reducible refine (State.raise_frame _ _ _ _ _).after (by decide) ?_
  with_reducible refine (State.descResult_frame _ _).after (by decide) ?_
  with_reducible refine (SameBut.eng_frame _ _).after (by decide) ?_
  with_reducible refine SameBut.each (fun _ _ => ?_) ?_ _
  with_reducible refine (State.giveDesc_frame _ _ _ _).after (by decide) ?_
  with_reducible exact SameBut.refl _ _
  with_reducible exact SameBut.refl _ _
  with_reducible refine SameBut.each (fun _ _ => ?_) ?_ _
  with_reducible refine (State.giveDesc_frame _ _ _ _).after (by decide) ?_
  with_reducible exact SameBut.refl _ _
  with_reducible exact SameBut.refl _ _
  with_reducible refine (SameBut.eng_frame _ _).after (by decide) ?_
  with_reducible refine SameBut.ite ?_ ?_
  with_reducible refine (State.raise_frame _ _ _ _ _).after (by decide) ?_
  with_reducible refine (State.descResult_frame _ _).after (by decide) ?_
  with_reducible refine (SameBut.eng_frame _ _).after (by decide) ?_
  with_reducible refine SameBut.each (fun _ _ => ?_) ?_ _
  with_reducible refine (State.giveDesc_frame _ _ _ _).after (by decide) ?_
  with_reducible exact SameBut.refl _ _
  with_reducible exact SameBut.refl _ _
  with_reducible refine SameBut.each (fun _ _ => ?_) ?_ _
  with_reducible refine (State.giveDesc_frame _ _ _ _).after (by decide) ?_
  with_reducible exact SameBut.refl _ _
  with_reducible exact SameBut.refl _ _

theorem State.commitPorch_frame (old : List LaneEntry) (s : State) (p : Nat) :
    SameBut [.hrt, .regs, .events, .porches, .free] s (State.commitPorch old s p) := by
  unfold State.commitPorch
  extract_lets
  with_reducible refine SameBut.ite ?_ ?_
  with_reducible exact SameBut.refl _ _
  with_reducible refine SameBut.ite ?_ ?_
  with_reducible refine (State.raise_frame _ _ _ _ _).after (by decide) ?_
  with_reducible refine (State.updPorch_frame _ _ _).after (by decide) ?_
  with_reducible exact SameBut.refl _ _
  with_reducible refine SameBut.ite ?_ ?_
  with_reducible refine SameBut.trans ?_ (State.inTick_frame _ _ (fun _ => ?_) (by decide))
  with_reducible refine (State.updPorch_frame _ _ _).after (by decide) ?_
  with_reducible exact SameBut.refl _ _
  with_reducible refine (State.configure_frame _ _).after (by decide) ?_
  with_reducible exact SameBut.refl _ _
  with_reducible refine (State.updPorch_frame _ _ _).after (by decide) ?_
  with_reducible exact SameBut.refl _ _

theorem State.commitShelves_frame (s : State) (q : Plan) (bridged : Bool) :
    SameBut [.regs, .events, .shelves] s (State.commitShelves s q bridged) := by
  unfold State.commitShelves
  extract_lets
  with_reducible refine SameBut.foldl (fun _ _ => ?_) ?_ _
  with_reducible refine (State.updShelf_frame _ _ _).after (by decide) ?_
  with_reducible exact SameBut.refl _ _
  with_reducible refine SameBut.each (fun _ _ => ?_) ?_ _
  with_reducible refine SameBut.ite ?_ ?_
  with_reducible refine (State.emptyShelf_frame _ _).after (by decide) ?_
  with_reducible exact SameBut.refl _ _
  with_reducible refine (State.updShelf_frame _ _ _).after (by decide) ?_
  with_reducible refine (State.emptyShelf_frame _ _).after (by decide) ?_
  with_reducible exact SameBut.refl _ _
  with_reducible exact SameBut.refl _ _

theorem State.commitTables_frame (s : State) (q : Plan) :
    SameBut [.events, .plan, .mov, .est] s (State.commitTables s q) := by
  unfold State.commitTables
  extract_lets
  with_reducible refine (SameBut.plan_mov_est_frame _ _ _ _).after (by decide) ?_
  with_reducible refine SameBut.each (fun _ _ => ?_) ?_ _
  with_reducible refine (State.raise_frame _ _ _ _ _).after (by decide) ?_
  with_reducible exact SameBut.refl _ _
  with_reducible exact SameBut.refl _ _

theorem State.firstRole_frame (s : State) :
    SameBut [.events, .twn] s (State.firstRole s) := by
  unfold State.firstRole
  with_reducible refine SameBut.ite ?_ ?_
  with_reducible exact SameBut.refl _ _
  with_reducible refine (State.setRole_frame _ _).after (by decide) ?_
  with_reducible exact SameBut.refl _ _

theorem State.laterRole_frame (s : State) :
    SameBut [.events, .twn] s (State.laterRole s) := by
  unfold State.laterRole
  with_reducible refine SameBut.ite ?_ ?_
  with_reducible refine (State.setRole_frame _ _).after (by decide) ?_
  with_reducible exact SameBut.refl _ _
  with_reducible exact SameBut.refl _ _

theorem State.placeTiles_frame (s : State) (v : Placement) (rolled : Bool) (digest : Nat) :
    SameBut [.til, .ram] s (State.placeTiles s v rolled digest) := by
  unfold State.placeTiles
  with_reducible refine SameBut.each (fun _ _ => ?_) ?_ _
  with_reducible refine (State.updTile_frame _ _ _).after (by decide) ?_
  with_reducible refine SameBut.ite ?_ ?_
  with_reducible exact SameBut.refl _ _
  with_reducible refine (State.fillPages_frame _ _ _ _).after (by decide) ?_
  with_reducible exact SameBut.refl _ _
  with_reducible exact SameBut.refl _ _

theorem State.commitFull_frame (s : State) (q : Plan) (kind : Nat) :
    SameBut [.hrt, .att, .regs, .events, .loops, .eng, .plan, .mov, .est, .porches, .twn, .til, .mem, .shelves, .ram, .free] s (State.commitFull s q kind) := by
  unfold State.commitFull
  extract_lets
  with_reducible refine SameBut.ite ?_ ?_
  with_reducible refine (State.firstRole_frame _).after (by decide) ?_
  with_reducible refine SameBut.each (fun _ _ => ?_) ?_ _
  with_reducible refine (State.commitPorch_frame _ _ _).after (by decide) ?_
  with_reducible exact SameBut.refl _ _
  with_reducible refine (State.commitJobs_frame _ _ _).after (by decide) ?_
  with_reducible refine (State.placeTiles_frame _ _ _ _).after (by decide) ?_
  with_reducible refine (State.clearJobs_frame _ _).after (by decide) ?_
  with_reducible refine (State.commitShelves_frame _ _ _).after (by decide) ?_
  with_reducible refine (SameBut.hrt_plan_twn_mem_frame _ _ _ _ _).after (by decide) ?_
  with_reducible refine (State.commitTables_frame _ _).after (by decide) ?_
  with_reducible refine (State.commitLoops_frame _ _ _ _).after (by decide) ?_
  with_reducible refine (State.commitMoves_frame _ _ _).after (by decide) ?_
  with_reducible exact SameBut.refl _ _
  with_reducible refine (State.laterRole_frame _).after (by decide) ?_
  with_reducible refine SameBut.each (fun _ _ => ?_) ?_ _
  with_reducible refine (State.commitPorch_frame _ _ _).after (by decide) ?_
  with_reducible exact SameBut.refl _ _
  with_reducible refine (State.commitJobs_frame _ _ _).after (by decide) ?_
  with_reducible refine (State.placeTiles_frame _ _ _ _).after (by decide) ?_
  with_reducible refine (State.clearJobs_frame _ _).after (by decide) ?_
  with_reducible refine (State.commitShelves_frame _ _ _).after (by decide) ?_
  with_reducible refine (SameBut.hrt_plan_twn_mem_frame _ _ _ _ _).after (by decide) ?_
  with_reducible refine (State.commitTables_frame _ _).after (by decide) ?_
  with_reducible refine (State.commitLoops_frame _ _ _ _).after (by decide) ?_
  with_reducible refine (State.commitMoves_frame _ _ _).after (by decide) ?_
  with_reducible exact SameBut.refl _ _

theorem State.patchTables_frame (s : State) (q : Plan) :
    SameBut [.regs, .events, .plan, .mov] s (State.patchTables s q) := by
  unfold State.patchTables
  extract_lets
  with_reducible refine SameBut.each (fun _ _ => ?_) ?_ _
  with_reducible refine SameBut.ite ?_ ?_
  with_reducible refine (State.rearmAll_frame _).after (by decide) ?_
  with_reducible refine SameBut.ite ?_ ?_
  with_reducible refine (SameBut.mov_frame _ _).after (by decide) ?_
  with_reducible refine (State.restartPlanning_frame _).after (by decide) ?_
  with_reducible refine (State.raise_frame _ _ _ _ _).after (by decide) ?_
  with_reducible refine (State.updTable_frame _ _ _).after (by decide) ?_
  with_reducible exact SameBut.refl _ _
  with_reducible refine (State.raise_frame _ _ _ _ _).after (by decide) ?_
  with_reducible refine (State.updTable_frame _ _ _).after (by decide) ?_
  with_reducible exact SameBut.refl _ _
  with_reducible refine SameBut.ite ?_ ?_
  with_reducible refine (SameBut.mov_frame _ _).after (by decide) ?_
  with_reducible refine (State.restartPlanning_frame _).after (by decide) ?_
  with_reducible refine (State.raise_frame _ _ _ _ _).after (by decide) ?_
  with_reducible refine (State.updTable_frame _ _ _).after (by decide) ?_
  with_reducible exact SameBut.refl _ _
  with_reducible refine (State.raise_frame _ _ _ _ _).after (by decide) ?_
  with_reducible refine (State.updTable_frame _ _ _).after (by decide) ?_
  with_reducible exact SameBut.refl _ _
  with_reducible refine (SameBut.plan_frame _ _).after (by decide) ?_
  with_reducible exact SameBut.refl _ _

theorem State.commitPatch_frame (s : State) (q : Plan) :
    SameBut [.hrt, .att, .regs, .events, .loops, .eng, .plan, .mov, .porches, .til, .mem, .ram, .free] s (State.commitPatch s q) := by
  unfold State.commitPatch
  extract_lets
  with_reducible refine (State.retryRefused_frame _).after (by decide) ?_
  with_reducible refine SameBut.each (fun _ _ => ?_) ?_ _
  with_reducible refine (State.commitPorch_frame _ _ _).after (by decide) ?_
  with_reducible exact SameBut.refl _ _
  with_reducible refine (SameBut.plan_frame _ _).after (by decide) ?_
  with_reducible refine (State.patchTables_frame _ _).after (by decide) ?_
  with_reducible refine (State.commitLoops_frame _ _ _ _).after (by decide) ?_
  with_reducible refine (State.commitMoves_frame _ _ _).after (by decide) ?_
  with_reducible exact SameBut.refl _ _

theorem State.commitSide_frame (s : State) :
    SameBut [.regs, .twn] s (State.commitSide s) := by
  unfold State.commitSide
  extract_lets
  with_reducible refine (SameBut.twn_frame _ _).after (by decide) ?_
  with_reducible refine (State.setField_frame _ _ _ _ _).after (by decide) ?_
  with_reducible exact SameBut.refl _ _

theorem State.decideMoves_frame (s : State) :
    SameBut [.events, .loops, .mov] s (State.decideMoves s) := by
  unfold State.decideMoves
  extract_lets
  with_reducible refine SameBut.each (fun _ _ => ?_) ?_ _
  with_reducible refine (State.decideMove_frame _ _).after (by decide) ?_
  with_reducible exact SameBut.refl _ _
  with_reducible refine (State.handOvers_frame _).after (by decide) ?_
  with_reducible refine (State.moveLegs_frame _).after (by decide) ?_
  with_reducible exact SameBut.refl _ _

theorem State.finishLoads_frame (s : State) :
    SameBut [.events, .plan, .mov] s (State.finishLoads s) := by
  unfold State.finishLoads
  extract_lets
  with_reducible refine SameBut.each (fun _ _ => ?_) ?_ _
  with_reducible refine (State.raise_frame _ _ _ _ _).after (by decide) ?_
  with_reducible exact SameBut.refl _ _
  with_reducible refine (SameBut.plan_mov_frame _ _ _).after (by decide) ?_
  with_reducible exact SameBut.refl _ _

theorem State.patchRelease_frame (s : State) :
    SameBut [.plan] s (State.patchRelease s) := by
  unfold State.patchRelease
  extract_lets
  with_reducible refine (SameBut.plan_frame _ _).after (by decide) ?_
  with_reducible exact SameBut.refl _ _

theorem State.commitEffect_frame (s : State) :
    SameBut [.hrt, .att, .regs, .staged, .events, .loops, .eng, .plan, .mov, .est, .porches, .twn, .til, .mem, .shelves, .ram, .free] s (State.commitEffect s) := by
  unfold State.commitEffect
  extract_lets
  with_reducible refine SameBut.ite ?_ ?_
  extract_lets
  split
  with_reducible refine SameBut.ite ?_ ?_
  with_reducible refine (State.commitFail_frame _ _).after (by decide) ?_
  with_reducible refine (State.patchRelease_frame _).after (by decide) ?_
  with_reducible refine (SameBut.plan_frame _ _).after (by decide) ?_
  with_reducible refine (State.decideMoves_frame _).after (by decide) ?_
  with_reducible exact SameBut.refl _ _
  with_reducible refine SameBut.ite ?_ ?_
  with_reducible refine (SameBut.plan_frame _ _).after (by decide) ?_
  with_reducible refine (State.commitDone_frame _).after (by decide) ?_
  with_reducible refine (SameBut.plan_frame _ _).after (by decide) ?_
  with_reducible refine (SameBut.staged_frame _ _).after (by decide) ?_
  with_reducible refine (State.commitSide_frame _).after (by decide) ?_
  with_reducible refine SameBut.ite ?_ ?_
  with_reducible refine (State.commitPatch_frame _ _).after (by decide) ?_
  with_reducible refine (State.decideMoves_frame _).after (by decide) ?_
  with_reducible exact SameBut.refl _ _
  with_reducible refine (State.commitFull_frame _ _ _).after (by decide) ?_
  with_reducible refine (State.decideMoves_frame _).after (by decide) ?_
  with_reducible exact SameBut.refl _ _
  with_reducible refine SameBut.ite ?_ ?_
  with_reducible refine (State.commitDone_frame _).after (by decide) ?_
  with_reducible refine (SameBut.plan_frame _ _).after (by decide) ?_
  with_reducible refine (SameBut.staged_frame _ _).after (by decide) ?_
  with_reducible refine (State.commitSide_frame _).after (by decide) ?_
  with_reducible refine SameBut.ite ?_ ?_
  with_reducible refine (State.commitPatch_frame _ _).after (by decide) ?_
  with_reducible refine (State.decideMoves_frame _).after (by decide) ?_
  with_reducible exact SameBut.refl _ _
  with_reducible refine (State.commitFull_frame _ _ _).after (by decide) ?_
  with_reducible refine (State.decideMoves_frame _).after (by decide) ?_
  with_reducible exact SameBut.refl _ _
  with_reducible refine (State.commitDone_frame _).after (by decide) ?_
  with_reducible refine (State.finishLoads_frame _).after (by decide) ?_
  with_reducible refine (SameBut.plan_frame _ _).after (by decide) ?_
  with_reducible refine (SameBut.staged_frame _ _).after (by decide) ?_
  with_reducible refine (State.commitSide_frame _).after (by decide) ?_
  with_reducible refine SameBut.ite ?_ ?_
  with_reducible refine (State.commitPatch_frame _ _).after (by decide) ?_
  with_reducible refine (State.decideMoves_frame _).after (by decide) ?_
  with_reducible exact SameBut.refl _ _
  with_reducible refine (State.commitFull_frame _ _ _).after (by decide) ?_
  with_reducible refine (State.decideMoves_frame _).after (by decide) ?_
  with_reducible exact SameBut.refl _ _
  with_reducible refine (SameBut.plan_frame _ _).after (by decide) ?_
  with_reducible exact SameBut.refl _ _
  with_reducible exact SameBut.refl _ _

theorem State.endBridge_frame (s : State) :
    SameBut [.events, .plan, .mov] s (State.endBridge s) := by
  unfold State.endBridge
  extract_lets
  with_reducible refine SameBut.ite ?_ ?_
  with_reducible refine (SameBut.plan_frame _ _).after (by decide) ?_
  with_reducible refine (State.finishLoads_frame _).after (by decide) ?_
  with_reducible exact SameBut.refl _ _
  with_reducible exact SameBut.refl _ _

theorem State.keepCandidate_frame (s : State) (v : Verdict) (fig : Figures) :
    SameBut [.plan] s (State.keepCandidate s v fig) := by
  unfold State.keepCandidate
  extract_lets
  with_reducible refine (SameBut.plan_frame _ _).after (by decide) ?_
  with_reducible exact SameBut.refl _ _

theorem State.publish_frame (s : State) (v : Verdict) (fig : Figures) :
    SameBut [.plan] s (State.publish s v fig) := by
  unfold State.publish
  extract_lets
  with_reducible refine (SameBut.plan_frame _ _).after (by decide) ?_
  with_reducible exact SameBut.refl _ _

theorem State.finishValidation_frame (s : State) :
    SameBut [.events, .plan] s (State.finishValidation s) := by
  unfold State.finishValidation
  extract_lets
  split
  with_reducible refine SameBut.ite ?_ ?_
  with_reducible refine SameBut.ite ?_ ?_
  with_reducible refine (State.raise_frame _ _ _ _ _).after (by decide) ?_
  with_reducible refine (SameBut.plan_frame _ _).after (by decide) ?_
  with_reducible refine (State.keepCandidate_frame _ _ _).after (by decide) ?_
  with_reducible refine (State.publish_frame _ _ _).after (by decide) ?_
  with_reducible refine (SameBut.plan_frame _ _).after (by decide) ?_
  with_reducible exact SameBut.refl _ _
  with_reducible refine (State.raise_frame _ _ _ _ _).after (by decide) ?_
  with_reducible refine (SameBut.plan_frame _ _).after (by decide) ?_
  with_reducible refine (State.keepCandidate_frame _ _ _).after (by decide) ?_
  with_reducible refine (State.publish_frame _ _ _).after (by decide) ?_
  with_reducible refine (SameBut.plan_frame _ _).after (by decide) ?_
  with_reducible exact SameBut.refl _ _
  with_reducible refine (SameBut.plan_frame _ _).after (by decide) ?_
  with_reducible exact SameBut.refl _ _
  with_reducible exact SameBut.refl _ _

theorem State.preloadTick_frame (s : State) :
    SameBut [.plan, .til, .ram] s (State.preloadTick s) := by
  unfold State.preloadTick
  extract_lets
  with_reducible refine SameBut.ite ?_ ?_
  with_reducible refine (SameBut.plan_frame _ _).after (by decide) ?_
  with_reducible refine SameBut.each (fun _ _ => ?_) ?_ _
  with_reducible refine (State.updTile_frame _ _ _).after (by decide) ?_
  with_reducible refine (State.fillPages_frame _ _ _ _).after (by decide) ?_
  with_reducible exact SameBut.refl _ _
  with_reducible refine SameBut.each (fun _ _ => ?_) ?_ _
  with_reducible refine (State.evictJob_frame _ _).after (by decide) ?_
  with_reducible exact SameBut.refl _ _
  with_reducible exact SameBut.refl _ _
  with_reducible exact SameBut.refl _ _

theorem State.takeCancel_frame (s : State) :
    SameBut [.plan] s (State.takeCancel s) := by
  unfold State.takeCancel
  extract_lets
  split
  with_reducible refine (SameBut.plan_frame _ _).after (by decide) ?_
  with_reducible exact SameBut.refl _ _
  with_reducible refine (SameBut.plan_frame _ _).after (by decide) ?_
  with_reducible exact SameBut.refl _ _
  with_reducible refine (State.patchRelease_frame _).after (by decide) ?_
  with_reducible refine (SameBut.plan_frame _ _).after (by decide) ?_
  with_reducible exact SameBut.refl _ _
  with_reducible refine (State.patchRelease_frame _).after (by decide) ?_
  with_reducible refine (SameBut.plan_frame _ _).after (by decide) ?_
  with_reducible exact SameBut.refl _ _
  with_reducible refine (State.planResult_frame _ _).after (by decide) ?_
  with_reducible exact SameBut.refl _ _
  with_reducible refine (State.planResult_frame _ _).after (by decide) ?_
  with_reducible exact SameBut.refl _ _
  with_reducible refine (State.planResult_frame _ _).after (by decide) ?_
  with_reducible exact SameBut.refl _ _

theorem State.patchClaim_frame (s : State) (q : Plan) :
    SameBut [.plan] s (State.patchClaim s q) := by
  unfold State.patchClaim
  with_reducible refine SameBut.ite ?_ ?_
  with_reducible refine SameBut.foldl (fun _ _ => ?_) ?_ _
  with_reducible refine (State.updTable_frame _ _ _).after (by decide) ?_
  with_reducible exact SameBut.refl _ _
  with_reducible exact SameBut.refl _ _
  with_reducible exact SameBut.refl _ _

theorem State.takeCommit_frame (s : State) (force : Bool) :
    SameBut [.events, .plan] s (State.takeCommit s force) := by
  unfold State.takeCommit
  extract_lets
  with_reducible refine SameBut.ite ?_ ?_
  with_reducible refine (State.planResult_frame _ _).after (by decide) ?_
  with_reducible exact SameBut.refl _ _
  extract_lets
  split
  with_reducible refine SameBut.ite ?_ ?_
  with_reducible refine (State.commitFail_frame _ _).after (by decide) ?_
  with_reducible refine (State.keepCandidate_frame _ _ _).after (by decide) ?_
  with_reducible refine (State.publish_frame _ _ _).after (by decide) ?_
  with_reducible exact SameBut.refl _ _
  with_reducible refine SameBut.ite ?_ ?_
  with_reducible refine (State.commitFail_frame _ _).after (by decide) ?_
  with_reducible refine (State.keepCandidate_frame _ _ _).after (by decide) ?_
  with_reducible exact SameBut.refl _ _
  with_reducible refine SameBut.ite ?_ ?_
  with_reducible refine (State.commitFail_frame _ _).after (by decide) ?_
  with_reducible refine (State.keepCandidate_frame _ _ _).after (by decide) ?_
  with_reducible exact SameBut.refl _ _
  with_reducible refine (State.patchClaim_frame _ _).after (by decide) ?_
  with_reducible refine (SameBut.plan_frame _ _).after (by decide) ?_
  with_reducible refine (State.keepCandidate_frame _ _ _).after (by decide) ?_
  with_reducible exact SameBut.refl _ _
  with_reducible refine (State.commitFail_frame _ _).after (by decide) ?_
  with_reducible exact SameBut.refl _ _

theorem State.takeValidate_frame (s : State) :
    SameBut [.plan, .upd] s (State.takeValidate s) := by
  unfold State.takeValidate
  extract_lets
  with_reducible refine SameBut.ite ?_ ?_
  with_reducible refine (State.planResult_frame _ _).after (by decide) ?_
  with_reducible exact SameBut.refl _ _
  with_reducible refine (SameBut.plan_upd_frame _ _ _).after (by decide) ?_
  with_reducible exact SameBut.refl _ _

theorem State.takePlan_frame (s : State) :
    SameBut [.events, .ops, .plan, .upd] s (State.takePlan s) := by
  unfold State.takePlan
  extract_lets
  split
  with_reducible refine (State.takeValidate_frame _).after (by decide) ?_
  with_reducible refine (SameBut.ops_frame _ _).after (by decide) ?_
  with_reducible exact SameBut.refl _ _
  with_reducible refine (State.takeCommit_frame _ _).after (by decide) ?_
  with_reducible refine (SameBut.ops_frame _ _).after (by decide) ?_
  with_reducible exact SameBut.refl _ _
  with_reducible refine (State.takeCancel_frame _).after (by decide) ?_
  with_reducible refine (SameBut.ops_frame _ _).after (by decide) ?_
  with_reducible exact SameBut.refl _ _
  with_reducible refine (SameBut.ops_frame _ _).after (by decide) ?_
  with_reducible exact SameBut.refl _ _

theorem State.planOp_frame (s : State) (op : Nat) (force : Bool) :
    SameBut [.ops] s (State.planOp s op force) := by
  unfold State.planOp
  extract_lets
  with_reducible refine (SameBut.ops_frame _ _).after (by decide) ?_
  with_reducible exact SameBut.refl _ _

theorem execPlanCancel_frame (s : State) :
    Frames [.ops] s (execPlanCancel s) := by
  unfold execPlanCancel
  with_reducible refine Frames.next ?_
  with_reducible refine (State.planOp_frame _ _ _).after (by decide) ?_
  with_reducible exact SameBut.refl _ _

theorem execPlanCommit_frame (force : Bool) (s : State) :
    Frames [.ops] s (execPlanCommit force s) := by
  unfold execPlanCommit
  with_reducible refine Frames.next ?_
  with_reducible refine (State.planOp_frame _ _ _).after (by decide) ?_
  with_reducible exact SameBut.refl _ _

theorem execPlanValidate_frame (s : State) :
    Frames [.ops] s (execPlanValidate s) := by
  unfold execPlanValidate
  with_reducible refine Frames.next ?_
  with_reducible refine (State.planOp_frame _ _ _).after (by decide) ?_
  with_reducible exact SameBut.refl _ _

theorem execBridgeEnd_frame (s : State) :
    Frames [.events, .plan, .mov] s (execBridgeEnd s) := by
  unfold execBridgeEnd
  with_reducible refine Frames.next ?_
  with_reducible refine (State.endBridge_frame _).after (by decide) ?_
  with_reducible exact SameBut.refl _ _

theorem execCommitTakeEffect_frame (s : State) :
    Frames [.hrt, .att, .regs, .staged, .events, .loops, .eng, .plan, .mov, .est, .porches, .twn, .til, .mem, .shelves, .ram, .free] s (execCommitTakeEffect s) := by
  unfold execCommitTakeEffect
  with_reducible refine Frames.next ?_
  with_reducible refine (State.commitEffect_frame _).after (by decide) ?_
  with_reducible exact SameBut.refl _ _

theorem execPlacementSelect_frame (s : State) :
    Frames [.hrt, .pins, .att, .regs, .events, .loops, .plan, .est, .porches, .twn, .til, .ram, .free] s (execPlacementSelect s) := by
  unfold execPlacementSelect
  with_reducible refine Frames.next ?_
  with_reducible refine (State.selectPlacement_frame _).after (by decide) ?_
  with_reducible exact SameBut.refl _ _

theorem execValidationEnd_frame (fig : Figures) (s : State) :
    Frames [.plan] s (execValidationEnd fig s) := by
  unfold execValidationEnd
  extract_lets
  with_reducible refine Frames.ite ?_ ?_
  with_reducible refine Frames.next ?_
  with_reducible refine (SameBut.plan_frame _ _).after (by decide) ?_
  with_reducible exact SameBut.refl _ _
  with_reducible refine Frames.next ?_
  with_reducible exact SameBut.refl _ _

theorem execVariantSwitch_frame (s : State) :
    Frames [.events, .plan, .est, .til, .ram] s (execVariantSwitch s) := by
  unfold execVariantSwitch
  with_reducible refine Frames.next ?_
  with_reducible refine (State.switchVariant_frame _).after (by decide) ?_
  with_reducible exact SameBut.refl _ _

end Sys2Proof.Machine
end

