-- ==== Sys2Proof/Laws/Frame/Trace.lean ====
section
/-! SUPPORT. What the definitions of Machine/Trace.lean change of the state: one frame for each. -/
namespace Sys2Proof.Machine

theorem State.takeTraceArm_frame (s : State) (ch : Nat) :
    SameBut [.eng] s (State.takeTraceArm s ch) := by
  unfold State.takeTraceArm
  extract_lets
  with_reducible refine SameBut.ite ?_ ?_
  with_reducible refine (State.updChan_frame _ _ _).after (by decide) ?_
  with_reducible exact SameBut.refl _ _
  with_reducible refine (State.updChan_frame _ _ _).after (by decide) ?_
  with_reducible exact SameBut.refl _ _

theorem State.takeTraceArms_frame (s : State) :
    SameBut [.eng] s (State.takeTraceArms s) := by
  unfold State.takeTraceArms
  with_reducible refine SameBut.each (fun _ _ => ?_) ?_ _
  with_reducible refine (State.takeTraceArm_frame _ _).after (by decide) ?_
  with_reducible exact SameBut.refl _ _
  with_reducible exact SameBut.refl _ _

theorem State.traceSample_frame (s : State) (fired : List Nat) (ch : Nat) :
    SameBut [.eng] s (State.traceSample s fired ch) := by
  unfold State.traceSample
  extract_lets
  with_reducible refine SameBut.ite ?_ ?_
  with_reducible exact SameBut.refl _ _
  with_reducible refine SameBut.ite ?_ ?_
  with_reducible exact SameBut.refl _ _
  with_reducible refine SameBut.ite ?_ ?_
  with_reducible refine (State.updChan_frame _ _ _).after (by decide) ?_
  with_reducible exact SameBut.refl _ _
  with_reducible refine (State.updChan_frame _ _ _).after (by decide) ?_
  with_reducible exact SameBut.refl _ _

theorem State.traceFrame_frame (s : State) :
    SameBut [.eng] s (State.traceFrame s) := by
  unfold State.traceFrame
  extract_lets
  with_reducible refine SameBut.each (fun _ _ => ?_) ?_ _
  with_reducible refine (State.updChan_frame _ _ _).after (by decide) ?_
  with_reducible exact SameBut.refl _ _
  with_reducible refine SameBut.each (fun _ _ => ?_) ?_ _
  with_reducible refine (State.traceSample_frame _ _ _).after (by decide) ?_
  with_reducible exact SameBut.refl _ _
  with_reducible exact SameBut.refl _ _

theorem State.ringSample_frame (s : State) (c : Channel) (i : Nat) (w : Word) :
    SameBut [.ram] s (State.ringSample s c i w) := by
  unfold State.ringSample
  with_reducible refine (State.hallWrite_frame _ _ _ _).after (by decide) ?_
  with_reducible exact SameBut.refl _ _

theorem State.ringSamples_frame (s : State) (c : Channel) (i : Nat) (l : List Word) :
    SameBut [.ram] s (s.ringSamples c i l) := by
  induction l generalizing s i with
  | nil => exact SameBut.refl _ _
  | cons w ws ih => exact (State.ringSample_frame _ _ _ _).trans (ih _ _)

theorem execTraceArm_frame (channel : BitVec 6) (s : State) :
    Frames [.eng] s (execTraceArm channel s) := by
  unfold execTraceArm
  with_reducible refine Frames.next ?_
  with_reducible refine (State.updChan_frame _ _ _).after (by decide) ?_
  with_reducible exact SameBut.refl _ _

theorem execTraceWrite_frame (channel : BitVec 6) (count : BitVec 14) (s : State) :
    Frames [.eng, .ram] s (execTraceWrite channel count s) := by
  unfold execTraceWrite
  extract_lets
  with_reducible refine Frames.ite ?_ ?_
  with_reducible refine Frames.next ?_
  with_reducible exact SameBut.refl _ _
  with_reducible refine Frames.next ?_
  with_reducible refine (State.hallWrite_frame _ _ _ _).after (by decide) ?_
  with_reducible refine (State.zeroBytes_frame _ _ _).after (by decide) ?_
  with_reducible refine (State.updChan_frame _ _ _).after (by decide) ?_
  with_reducible refine (State.ringSamples_frame _ _ _ _).after (by decide) ?_
  with_reducible exact SameBut.refl _ _

theorem execTrigNow_frame (channel : BitVec 6) (s : State) :
    Frames [.eng] s (execTrigNow channel s) := by
  unfold execTrigNow
  with_reducible refine Frames.next ?_
  with_reducible refine (State.updChan_frame _ _ _).after (by decide) ?_
  with_reducible exact SameBut.refl _ _

end Sys2Proof.Machine
end

