-- ==== Sys2Proof/Laws/Frame/Seats.lean ====
section
/-! SUPPORT. What the definitions of Machine/Seats.lean change of the state: one frame for each. -/
namespace Sys2Proof.Machine

theorem State.answer_frame (s : State) (r : Reply) :
    SameBut [.port] s (State.answer s r) := by
  unfold State.answer
  extract_lets
  with_reducible refine (SameBut.port_frame _ _).after (by decide) ?_
  with_reducible exact SameBut.refl _ _

theorem State.takeFeat_frame (s : State) (i : Nat) :
    SameBut [.seats, .regs, .later] s (State.takeFeat s i) := by
  unfold State.takeFeat
  extract_lets
  with_reducible refine (SameBut.later_frame _ _).after (by decide) ?_
  with_reducible refine (State.setField_frame _ _ _ _ _).after (by decide) ?_
  with_reducible refine SameBut.ite ?_ ?_
  with_reducible refine (State.updSeat_frame _ _ _).after (by decide) ?_
  with_reducible refine SameBut.foldl (fun _ _ => ?_) ?_ _
  with_reducible refine (State.setReg_frame _ _ _).after (by decide) ?_
  with_reducible exact SameBut.refl _ _
  with_reducible refine (State.setField_frame _ _ _ _ _).after (by decide) ?_
  with_reducible exact SameBut.refl _ _
  with_reducible refine (State.setField_frame _ _ _ _ _).after (by decide) ?_
  with_reducible exact SameBut.refl _ _

theorem State.featTick_frame (s : State) :
    SameBut [.seats, .regs, .later, .ops] s (State.featTick s) := by
  unfold State.featTick
  extract_lets
  with_reducible refine (SameBut.ops_frame _ _).after (by decide) ?_
  with_reducible refine SameBut.each (fun _ _ => ?_) ?_ _
  with_reducible refine (State.takeFeat_frame _ _).after (by decide) ?_
  with_reducible exact SameBut.refl _ _
  with_reducible exact SameBut.refl _ _

theorem State.clearPage_frame (s : State) (i : Nat) :
    SameBut [.regs, .live] s (State.clearPage s i) := by
  unfold State.clearPage
  extract_lets
  with_reducible refine (SameBut.regs_live_frame _ _ _).after (by decide) ?_
  with_reducible exact SameBut.refl _ _

theorem State.dropStaging_frame (s : State) :
    SameBut [.hrt, .regs, .porches, .upd, .free] s (State.dropStaging s) := by
  unfold State.dropStaging
  split
  · exact (SameBut.upd_frame _ _).after (by decide)
      ((State.inTick_frame (m := [.hrt, .regs, .porches, .free]) _ _ (fun _ => (State.sendAll_frame _ _ _ _).mono (by decide))
        (by decide)).mono (by decide))
  · exact SameBut.refl _ _

theorem State.resetOwner_frame (s : State) :
    SameBut [.hrt, .att, .regs, .plan, .porches, .upd, .free] s (State.resetOwner s) := by
  unfold State.resetOwner
  extract_lets
  with_reducible refine (State.dropStaging_frame _).after (by decide) ?_
  with_reducible refine (SameBut.att_plan_frame _ _ _).after (by decide) ?_
  with_reducible refine SameBut.ite ?_ ?_
  with_reducible refine (SameBut.att_plan_frame _ _ _).after (by decide) ?_
  with_reducible exact SameBut.refl _ _
  with_reducible exact SameBut.refl _ _

theorem State.resetTick_frame (s : State) (i : Nat) :
    SameBut [.hrt, .seats, .att, .regs, .live, .events, .ops, .eng, .plan, .porches, .til, .shelves, .upd, .free] s (State.resetTick s i) := by
  unfold State.resetTick
  extract_lets
  with_reducible refine (State.updSeat_frame _ _ _).after (by decide) ?_
  with_reducible refine (SameBut.ops_frame _ _).after (by decide) ?_
  with_reducible refine (State.clearPage_frame _ _).after (by decide) ?_
  with_reducible refine SameBut.ite ?_ ?_
  with_reducible refine (State.resetOwner_frame _).after (by decide) ?_
  with_reducible refine SameBut.each (fun _ _ => ?_) ?_ _
  with_reducible refine (State.updChan_frame _ _ _).after (by decide) ?_
  with_reducible exact SameBut.refl _ _
  with_reducible refine SameBut.each (fun _ _ => ?_) ?_ _
  with_reducible refine (State.emptyShelf_frame _ _).after (by decide) ?_
  with_reducible exact SameBut.refl _ _
  with_reducible refine SameBut.each (fun _ _ => ?_) ?_ _
  with_reducible refine (State.endAt_frame _ _ _).after (by decide) ?_
  with_reducible exact SameBut.refl _ _
  with_reducible exact SameBut.refl _ _
  with_reducible refine SameBut.each (fun _ _ => ?_) ?_ _
  with_reducible refine (State.updChan_frame _ _ _).after (by decide) ?_
  with_reducible exact SameBut.refl _ _
  with_reducible refine SameBut.each (fun _ _ => ?_) ?_ _
  with_reducible refine (State.emptyShelf_frame _ _).after (by decide) ?_
  with_reducible exact SameBut.refl _ _
  with_reducible refine SameBut.each (fun _ _ => ?_) ?_ _
  with_reducible refine (State.endAt_frame _ _ _).after (by decide) ?_
  with_reducible exact SameBut.refl _ _
  with_reducible exact SameBut.refl _ _

theorem State.resetsTick_frame (s : State) :
    SameBut [.hrt, .seats, .att, .regs, .live, .events, .ops, .eng, .plan, .porches, .til, .shelves, .upd, .free] s (State.resetsTick s) := by
  unfold State.resetsTick
  with_reducible refine SameBut.each (fun _ _ => ?_) ?_ _
  with_reducible refine (State.resetTick_frame _ _).after (by decide) ?_
  with_reducible exact SameBut.refl _ _
  with_reducible exact SameBut.refl _ _

theorem State.ideKeys_frame (s : State) (ld : Nat) (io mem : Bool) :
    SameBut [.port] s (State.ideKeys s ld io mem) := by
  unfold State.ideKeys
  extract_lets
  with_reducible refine SameBut.ite ?_ ?_
  with_reducible refine (SameBut.port_frame _ _).after (by decide) ?_
  with_reducible exact SameBut.refl _ _
  with_reducible refine (State.answer_frame _ _).after (by decide) ?_
  with_reducible exact SameBut.refl _ _

theorem State.spdm_frame (s : State) (ld : Nat) (x2 : SpdmReq) :
    SameBut [.port, .upd] s (State.spdm s ld x2) := by
  unfold State.spdm
  extract_lets
  split
  with_reducible refine (State.answer_frame _ _).after (by decide) ?_
  with_reducible exact SameBut.refl _ _
  with_reducible refine (State.answer_frame _ _).after (by decide) ?_
  with_reducible exact SameBut.refl _ _
  with_reducible refine (State.answer_frame _ _).after (by decide) ?_
  with_reducible exact SameBut.refl _ _
  with_reducible refine (State.answer_frame _ _).after (by decide) ?_
  with_reducible exact SameBut.refl _ _
  with_reducible refine SameBut.ite ?_ ?_
  with_reducible refine (State.answer_frame _ _).after (by decide) ?_
  with_reducible refine (SameBut.upd_frame _ _).after (by decide) ?_
  with_reducible exact SameBut.refl _ _
  with_reducible refine (State.answer_frame _ _).after (by decide) ?_
  with_reducible exact SameBut.refl _ _
  with_reducible refine (State.answer_frame _ _).after (by decide) ?_
  with_reducible refine (SameBut.upd_frame _ _).after (by decide) ?_
  with_reducible exact SameBut.refl _ _
  with_reducible refine (State.answer_frame _ _).after (by decide) ?_
  with_reducible exact SameBut.refl _ _

theorem State.doeAnswer_frame (s : State) (ld : Nat) (x2 : DoeReq) :
    SameBut [.port, .upd] s (State.doeAnswer s ld x2) := by
  unfold State.doeAnswer
  split
  with_reducible refine (State.spdm_frame _ _ _).after (by decide) ?_
  with_reducible exact SameBut.refl _ _
  with_reducible refine (State.ideKeys_frame _ _ _ _).after (by decide) ?_
  with_reducible exact SameBut.refl _ _

theorem State.doe_frame (s : State) (ld : Nat) (r : DoeReq) :
    SameBut [.port, .upd] s (State.doe s ld r) := by
  unfold State.doe
  extract_lets
  with_reducible refine SameBut.ite ?_ ?_
  with_reducible exact SameBut.refl _ _
  with_reducible refine SameBut.ite ?_ ?_
  with_reducible refine (SameBut.port_frame _ _).after (by decide) ?_
  with_reducible exact SameBut.refl _ _
  with_reducible refine (State.doeAnswer_frame _ _ _).after (by decide) ?_
  with_reducible exact SameBut.refl _ _

theorem State.resetSeat_frame (s : State) (stays : Bool) (i : Nat) :
    SameBut [.seats, .taken, .port, .events, .mov, .upd] s (State.resetSeat s stays i) := by
  unfold State.resetSeat
  extract_lets
  with_reducible refine SameBut.ite ?_ ?_
  with_reducible refine (State.raise_frame _ _ _ _ _).after (by decide) ?_
  with_reducible refine (SameBut.taken_port_mov_upd_frame _ _ _ _ _).after (by decide) ?_
  with_reducible refine (State.updSeat_frame _ _ _).after (by decide) ?_
  with_reducible exact SameBut.refl _ _
  with_reducible exact SameBut.refl _ _

theorem State.resetSeats_frame (s : State) (stays : Bool) :
    SameBut [.seats, .taken, .port, .events, .mov, .upd] s (State.resetSeats s stays) := by
  unfold State.resetSeats
  extract_lets
  with_reducible refine (SameBut.port_frame _ _).after (by decide) ?_
  with_reducible refine SameBut.each (fun _ _ => ?_) ?_ _
  with_reducible refine (State.resetSeat_frame _ _ _).after (by decide) ?_
  with_reducible exact SameBut.refl _ _
  with_reducible exact SameBut.refl _ _

theorem execFeatureCommit_frame (seat : BitVec 3) (s : State) :
    Frames [.ops] s (execFeatureCommit seat s) := by
  unfold execFeatureCommit
  extract_lets
  with_reducible refine Frames.ite ?_ ?_
  with_reducible refine Frames.next ?_
  with_reducible exact SameBut.refl _ _
  with_reducible refine Frames.next ?_
  with_reducible refine (SameBut.ops_frame _ _).after (by decide) ?_
  with_reducible exact SameBut.refl _ _

theorem execClearingDone_frame (seat : BitVec 3) (s : State) :
    Frames [.seats, .ram] s (execClearingDone seat s) := by
  unfold execClearingDone
  extract_lets
  with_reducible refine Frames.ite ?_ ?_
  with_reducible refine Frames.next ?_
  with_reducible refine (State.updSeat_frame _ _ _).after (by decide) ?_
  with_reducible refine (State.zeroBytes_frame _ _ _).after (by decide) ?_
  with_reducible exact SameBut.refl _ _
  with_reducible refine Frames.next ?_
  with_reducible exact SameBut.refl _ _

theorem execFmApiCommand_frame (opcode : BitVec 16) (allocMb : BitVec 32) (s : State) :
    Frames [.port] s (execFmApiCommand opcode allocMb s) := by
  unfold execFmApiCommand
  with_reducible refine Frames.ite ?_ ?_
  with_reducible refine Frames.next ?_
  with_reducible exact SameBut.refl _ _
  extract_lets
  split
  with_reducible refine Frames.next ?_
  with_reducible refine (State.answer_frame _ _).after (by decide) ?_
  with_reducible exact SameBut.refl _ _
  with_reducible refine Frames.next ?_
  with_reducible refine (State.answer_frame _ _).after (by decide) ?_
  with_reducible exact SameBut.refl _ _
  with_reducible refine Frames.next ?_
  with_reducible refine (State.answer_frame _ _).after (by decide) ?_
  with_reducible exact SameBut.refl _ _
  with_reducible refine Frames.next ?_
  with_reducible refine (State.answer_frame _ _).after (by decide) ?_
  with_reducible exact SameBut.refl _ _

theorem execIdeFail_frame (s : State) :
    Frames [.seats, .taken, .port, .events, .mov, .upd] s (execIdeFail s) := by
  unfold execIdeFail
  extract_lets
  with_reducible refine Frames.next ?_
  with_reducible refine SameBut.each (fun _ _ => ?_) ?_ _
  with_reducible refine (State.resetSeat_frame _ _ _).after (by decide) ?_
  with_reducible exact SameBut.refl _ _
  with_reducible refine (State.raise_frame _ _ _ _ _).after (by decide) ?_
  with_reducible refine (SameBut.port_frame _ _).after (by decide) ?_
  with_reducible exact SameBut.refl _ _

theorem execIdeKeyManagement_frame (ld : Fin 9) (io mem : Bool) (s : State) :
    Frames [.port, .upd] s (execIdeKeyManagement ld io mem s) := by
  unfold execIdeKeyManagement
  with_reducible refine Frames.next ?_
  with_reducible refine (State.doe_frame _ _ _).after (by decide) ?_
  with_reducible exact SameBut.refl _ _

theorem execLinkDown_frame (s : State) :
    Frames [.seats, .taken, .port, .events, .mov, .upd] s (execLinkDown s) := by
  unfold execLinkDown
  extract_lets
  with_reducible refine Frames.ite ?_ ?_
  with_reducible refine Frames.next ?_
  with_reducible refine (SameBut.port_frame _ _).after (by decide) ?_
  with_reducible refine (State.raise_frame _ _ _ _ _).after (by decide) ?_
  with_reducible refine (State.resetSeats_frame _ _).after (by decide) ?_
  with_reducible exact SameBut.refl _ _
  with_reducible refine Frames.next ?_
  with_reducible exact SameBut.refl _ _

theorem execLinkRecovery_frame (s : State) :
    Frames [.regs] s (execLinkRecovery s) := by
  unfold execLinkRecovery
  with_reducible refine Frames.ite ?_ ?_
  with_reducible refine Frames.next ?_
  with_reducible refine (State.count_frame _ _ _ _ _).after (by decide) ?_
  with_reducible exact SameBut.refl _ _
  with_reducible refine Frames.next ?_
  with_reducible exact SameBut.refl _ _

theorem execLinkUp_frame (x8 gt64 : Bool) (s : State) :
    Frames [.port, .events] s (execLinkUp x8 gt64 s) := by
  unfold execLinkUp
  extract_lets
  with_reducible refine Frames.ite ?_ ?_
  with_reducible refine Frames.next ?_
  with_reducible refine SameBut.ite ?_ ?_
  with_reducible refine (State.raise_frame _ _ _ _ _).after (by decide) ?_
  with_reducible refine (SameBut.port_frame _ _).after (by decide) ?_
  with_reducible exact SameBut.refl _ _
  with_reducible refine (State.raise_frame _ _ _ _ _).after (by decide) ?_
  with_reducible refine (State.raise_frame _ _ _ _ _).after (by decide) ?_
  with_reducible refine (SameBut.port_frame _ _).after (by decide) ?_
  with_reducible exact SameBut.refl _ _
  with_reducible refine Frames.next ?_
  with_reducible exact SameBut.refl _ _

theorem execMailboxCommand_frame (seat : BitVec 3) (opcode : BitVec 16) (s : State) :
    Frames [.port] s (execMailboxCommand seat opcode s) := by
  unfold execMailboxCommand
  with_reducible refine Frames.ite ?_ ?_
  with_reducible refine Frames.next ?_
  with_reducible exact SameBut.refl _ _
  with_reducible refine Frames.ite ?_ ?_
  with_reducible refine Frames.next ?_
  with_reducible refine (State.answer_frame _ _).after (by decide) ?_
  with_reducible exact SameBut.refl _ _
  with_reducible refine Frames.next ?_
  with_reducible refine (State.answer_frame _ _).after (by decide) ?_
  with_reducible exact SameBut.refl _ _

theorem execPerst_frame (s : State) :
    Frames [.seats, .taken, .port, .events, .mov, .upd] s (execPerst s) := by
  unfold execPerst
  extract_lets
  with_reducible refine Frames.next ?_
  with_reducible refine (SameBut.port_frame _ _).after (by decide) ?_
  with_reducible refine (State.resetSeats_frame _ _).after (by decide) ?_
  with_reducible exact SameBut.refl _ _

theorem execSeatBound_frame (seat : BitVec 3) (s : State) :
    Frames [.seats, .events] s (execSeatBound seat s) := by
  unfold execSeatBound
  extract_lets
  with_reducible refine Frames.ite ?_ ?_
  with_reducible refine Frames.next ?_
  with_reducible exact SameBut.refl _ _
  with_reducible refine Frames.next ?_
  with_reducible refine (State.raise_frame _ _ _ _ _).after (by decide) ?_
  with_reducible refine (State.updSeat_frame _ _ _).after (by decide) ?_
  with_reducible exact SameBut.refl _ _

theorem execSeatReset_frame (seat : BitVec 3) (unbind : Bool) (s : State) :
    Frames [.seats, .taken, .port, .events, .mov, .upd] s (execSeatReset seat unbind s) := by
  unfold execSeatReset
  with_reducible refine Frames.next ?_
  with_reducible refine (State.resetSeat_frame _ _ _).after (by decide) ?_
  with_reducible exact SameBut.refl _ _

theorem execSlotWrite_frame (seat : BitVec 3) (offset : BitVec 28) (bytes : List Byte) (s : State) :
    Frames [.regs, .events, .ram] s (execSlotWrite seat offset bytes s) := by
  unfold execSlotWrite
  extract_lets
  with_reducible refine Frames.ite ?_ ?_
  with_reducible exact Frames.fault _ _ _
  with_reducible refine Frames.ite ?_ ?_
  with_reducible refine Frames.next ?_
  with_reducible exact SameBut.refl _ _
  with_reducible refine Frames.next ?_
  with_reducible refine SameBut.ite ?_ ?_
  with_reducible refine (State.seatEvt_frame _ _ _).after (by decide) ?_
  with_reducible refine SameBut.foldl (fun _ _ => ?_) ?_ _
  with_reducible refine SameBut.ite ?_ ?_
  with_reducible exact SameBut.refl _ _
  with_reducible refine (State.writeByte_frame _ _ _).after (by decide) ?_
  with_reducible exact SameBut.refl _ _
  with_reducible exact SameBut.refl _ _
  with_reducible refine SameBut.foldl (fun _ _ => ?_) ?_ _
  with_reducible refine SameBut.ite ?_ ?_
  with_reducible exact SameBut.refl _ _
  with_reducible refine (State.writeByte_frame _ _ _).after (by decide) ?_
  with_reducible exact SameBut.refl _ _
  with_reducible exact SameBut.refl _ _

theorem execSpdmRequest_frame (ld : Fin 9) (r : SpdmReq) (s : State) :
    Frames [.port, .upd] s (execSpdmRequest ld r s) := by
  unfold execSpdmRequest
  with_reducible refine Frames.next ?_
  with_reducible refine (State.doe_frame _ _ _).after (by decide) ?_
  with_reducible exact SameBut.refl _ _

end Sys2Proof.Machine
end

