-- ==== Sys2Proof/Laws/Frame/Update.lean ====
section
/-! SUPPORT. What the definitions of Machine/Update.lean change of the state: one frame for each. -/
namespace Sys2Proof.Machine

theorem State.setBulk_frame (s : State) (on : Bool) :
    SameBut [.regs, .live] s (State.setBulk s on) := by
  unfold State.setBulk
  extract_lets
  with_reducible refine (SameBut.live_frame _ _).after (by decide) ?_
  with_reducible refine (State.setField_frame _ _ _ _ _).after (by decide) ?_
  with_reducible exact SameBut.refl _ _

theorem State.beginRestart_frame (s : State) (cycles : Nat) :
    SameBut [.regs, .live, .upd] s (State.beginRestart s cycles) := by
  unfold State.beginRestart
  extract_lets
  with_reducible refine (SameBut.upd_frame _ _).after (by decide) ?_
  with_reducible refine (State.setBulk_frame _ _).after (by decide) ?_
  with_reducible exact SameBut.refl _ _

theorem State.updCup_frame (s : State) (c : Nat) (f : CupSlot → CupSlot) :
    SameBut [.flash] s (State.updCup s c f) := by
  unfold State.updCup
  extract_lets
  with_reducible refine (SameBut.flash_frame _ _).after (by decide) ?_
  with_reducible exact SameBut.refl _ _

theorem State.saveCup_frame (s : State) :
    SameBut [.flash] s (State.saveCup s) := by
  unfold State.saveCup
  split
  with_reducible refine (State.updCup_frame _ _ _).after (by decide) ?_
  with_reducible exact SameBut.refl _ _
  with_reducible exact SameBut.refl _ _

theorem State.migrate_frame (s : State) (old new : Nat) (fails : Bool) (schema : Nat) :
    SameBut [.att, .events, .upd, .flash] s (State.migrate s old new fails schema) := by
  unfold State.migrate
  extract_lets
  split
  with_reducible refine SameBut.ite ?_ ?_
  with_reducible refine (SameBut.upd_frame _ _).after (by decide) ?_
  with_reducible refine (State.raise_frame _ _ _ _ _).after (by decide) ?_
  with_reducible refine (State.record_frame _ _ _ _ _).after (by decide) ?_
  with_reducible refine (State.updCup_frame _ _ _).after (by decide) ?_
  with_reducible refine (State.updCup_frame _ _ _).after (by decide) ?_
  with_reducible refine (State.saveCup_frame _).after (by decide) ?_
  with_reducible exact SameBut.refl _ _
  with_reducible refine (State.updCup_frame _ _ _).after (by decide) ?_
  with_reducible refine (State.updCup_frame _ _ _).after (by decide) ?_
  with_reducible refine (State.saveCup_frame _).after (by decide) ?_
  with_reducible exact SameBut.refl _ _
  with_reducible refine (State.saveCup_frame _).after (by decide) ?_
  with_reducible exact SameBut.refl _ _

theorem State.setFwSlot_frame (s : State) (i : Nat) (x : FwSlot) :
    SameBut [.flash] s (State.setFwSlot s i x) := by
  unfold State.setFwSlot
  extract_lets
  with_reducible refine SameBut.ite ?_ ?_
  with_reducible refine (SameBut.flash_frame _ _).after (by decide) ?_
  with_reducible exact SameBut.refl _ _
  with_reducible refine (SameBut.flash_frame _ _).after (by decide) ?_
  with_reducible exact SameBut.refl _ _

theorem State.activateNow_frame (s : State) (cycles : Nat) (fails : Bool) (schema : Option Nat) :
    SameBut [.att, .regs, .live, .events, .upd, .flash] s (State.activateNow s cycles fails schema) := by
  unfold State.activateNow
  extract_lets
  with_reducible refine SameBut.ite ?_ ?_
  with_reducible refine (State.migrate_frame _ _ _ _ _).after (by decide) ?_
  with_reducible refine (State.raise_frame _ _ _ _ _).after (by decide) ?_
  with_reducible refine (State.beginRestart_frame _ _).after (by decide) ?_
  with_reducible refine (SameBut.upd_flash_frame _ _ _).after (by decide) ?_
  with_reducible refine (State.setFwSlot_frame _ _ _).after (by decide) ?_
  with_reducible exact SameBut.refl _ _
  with_reducible exact SameBut.refl _ _

theorem State.askHead_frame (s : State) (op len tick p : Nat) :
    SameBut [.regs, .porches, .upd, .free] s (State.askHead s op len tick p) := by
  unfold State.askHead
  extract_lets
  with_reducible refine (SameBut.upd_frame _ _).after (by decide) ?_
  with_reducible refine (State.send_frame _ _ _ _).after (by decide) ?_
  with_reducible exact SameBut.refl _ _

theorem State.askHeadNext_frame (s : State) (op len tick p : Nat) :
    SameBut [.hrt, .regs, .porches, .upd, .free] s (State.askHeadNext s op len tick p) := by
  unfold State.askHeadNext
  with_reducible refine SameBut.trans ?_ (State.inTick_frame _ _ (fun _ => ?_) (by decide))
  with_reducible exact SameBut.refl _ _
  with_reducible refine (State.askHead_frame _ _ _ _ _).after (by decide) ?_
  with_reducible exact SameBut.refl _ _

theorem State.beginFallback_frame (s : State) (cause : Nat) :
    SameBut [.hrt, .regs, .porches, .upd, .free] s (State.beginFallback s cause) := by
  unfold State.beginFallback
  extract_lets
  with_reducible refine SameBut.ite ?_ ?_
  with_reducible refine (SameBut.upd_frame _ _).after (by decide) ?_
  with_reducible refine SameBut.each (fun _ _ => ?_) ?_ _
  with_reducible refine (State.askHeadNext_frame _ _ _ _ _).after (by decide) ?_
  with_reducible exact SameBut.refl _ _
  with_reducible exact SameBut.refl _ _
  with_reducible exact SameBut.refl _ _

theorem State.burnTick_frame (s : State) :
    SameBut [.events, .upd, .flash] s (State.burnTick s) := by
  unfold State.burnTick
  extract_lets
  split
  with_reducible refine (State.raise_frame _ _ _ _ _).after (by decide) ?_
  with_reducible refine (SameBut.upd_flash_frame _ _ _).after (by decide) ?_
  with_reducible exact SameBut.refl _ _
  with_reducible exact SameBut.refl _ _

theorem State.deferActivation_frame (s : State) :
    SameBut [.hrt, .regs, .porches, .upd, .free] s (State.deferActivation s) := by
  unfold State.deferActivation
  extract_lets
  split
  with_reducible refine SameBut.ite ?_ ?_
  with_reducible refine (SameBut.upd_frame _ _).after (by decide) ?_
  with_reducible refine SameBut.each (fun _ _ => ?_) ?_ _
  with_reducible refine (State.askHeadNext_frame _ _ _ _ _).after (by decide) ?_
  with_reducible exact SameBut.refl _ _
  with_reducible exact SameBut.refl _ _
  with_reducible exact SameBut.refl _ _
  with_reducible exact SameBut.refl _ _

theorem State.recordFallback_frame (s : State) (cause slot : Nat) :
    SameBut [.att] s (State.recordFallback s cause slot) := by
  unfold State.recordFallback
  with_reducible refine (State.record_frame _ _ _ _ _).after (by decide) ?_
  with_reducible exact SameBut.refl _ _

theorem State.endRestart_frame (s : State) :
    SameBut [.port, .att, .regs, .live, .upd, .flash] s (State.endRestart s) := by
  unfold State.endRestart
  extract_lets
  with_reducible refine SameBut.ite ?_ ?_
  with_reducible refine SameBut.ite ?_ ?_
  with_reducible refine (State.recordFallback_frame _ _ _).after (by decide) ?_
  with_reducible refine (SameBut.upd_frame _ _).after (by decide) ?_
  with_reducible refine (State.setFwSlot_frame _ _ _).after (by decide) ?_
  with_reducible refine SameBut.foldl (fun _ _ => ?_) ?_ _
  with_reducible refine (State.doeAnswer_frame _ _ _).after (by decide) ?_
  with_reducible exact SameBut.refl _ _
  with_reducible refine (SameBut.port_frame _ _).after (by decide) ?_
  with_reducible refine (SameBut.upd_frame _ _).after (by decide) ?_
  with_reducible refine (State.setBulk_frame _ _).after (by decide) ?_
  with_reducible exact SameBut.refl _ _
  with_reducible refine SameBut.ite ?_ ?_
  with_reducible refine (SameBut.upd_frame _ _).after (by decide) ?_
  with_reducible refine SameBut.foldl (fun _ _ => ?_) ?_ _
  with_reducible refine (State.doeAnswer_frame _ _ _).after (by decide) ?_
  with_reducible exact SameBut.refl _ _
  with_reducible refine (SameBut.port_frame _ _).after (by decide) ?_
  with_reducible refine (SameBut.upd_frame _ _).after (by decide) ?_
  with_reducible refine (State.setBulk_frame _ _).after (by decide) ?_
  with_reducible exact SameBut.refl _ _
  with_reducible refine SameBut.foldl (fun _ _ => ?_) ?_ _
  with_reducible refine (State.doeAnswer_frame _ _ _).after (by decide) ?_
  with_reducible exact SameBut.refl _ _
  with_reducible refine (SameBut.port_frame _ _).after (by decide) ?_
  with_reducible refine (SameBut.upd_frame _ _).after (by decide) ?_
  with_reducible refine (State.setBulk_frame _ _).after (by decide) ?_
  with_reducible exact SameBut.refl _ _
  with_reducible exact SameBut.refl _ _

theorem State.findFallback_frame (s : State) (cause : Nat) :
    SameBut [.upd] s (State.findFallback s cause) := by
  unfold State.findFallback
  extract_lets
  with_reducible refine SameBut.ite ?_ ?_
  with_reducible refine (SameBut.upd_frame _ _).after (by decide) ?_
  with_reducible exact SameBut.refl _ _
  with_reducible exact SameBut.refl _ _

theorem State.endWindow_frame (s : State) (cycles : Nat) :
    SameBut [.upd] s (State.endWindow s cycles) := by
  unfold State.endWindow
  with_reducible refine SameBut.ite ?_ ?_
  with_reducible refine (State.findFallback_frame _ _).after (by decide) ?_
  with_reducible exact SameBut.refl _ _
  with_reducible exact SameBut.refl _ _

theorem State.loadCup_frame (s : State) (c : Nat) :
    SameBut [.mem, .upd] s (State.loadCup s c) := by
  unfold State.loadCup
  extract_lets
  with_reducible refine (SameBut.mem_upd_frame _ _ _).after (by decide) ?_
  with_reducible refine SameBut.foldl (fun _ _ => ?_) ?_ _
  with_reducible refine (State.updDev_frame _ _ _).after (by decide) ?_
  with_reducible exact SameBut.refl _ _
  with_reducible exact SameBut.refl _ _

theorem State.restoreCup_frame (s : State) (new : Nat) :
    SameBut [.mem, .upd, .flash] s (State.restoreCup s new) := by
  unfold State.restoreCup
  extract_lets v1
  split
  with_reducible refine (State.loadCup_frame _ _).after (by decide) ?_
  with_reducible refine (State.updCup_frame _ _ _).after (by decide) ?_
  extract_lets
  dsimp only [v1]
  split
  with_reducible refine (State.updCup_frame _ _ _).after (by decide) ?_
  with_reducible exact SameBut.refl _ _
  with_reducible exact SameBut.refl _ _
  dsimp only [v1]
  split
  with_reducible refine (State.updCup_frame _ _ _).after (by decide) ?_
  with_reducible exact SameBut.refl _ _
  with_reducible exact SameBut.refl _ _

theorem State.fallbackNow_frame (s : State) (cycles : Nat) :
    SameBut [.regs, .live, .events, .mem, .upd, .flash] s (State.fallbackNow s cycles) := by
  unfold State.fallbackNow
  extract_lets
  with_reducible refine SameBut.ite ?_ ?_
  with_reducible refine (State.raise_frame _ _ _ _ _).after (by decide) ?_
  with_reducible refine (State.beginRestart_frame _ _).after (by decide) ?_
  with_reducible refine (State.restoreCup_frame _ _).after (by decide) ?_
  with_reducible refine (SameBut.upd_flash_frame _ _ _).after (by decide) ?_
  with_reducible exact SameBut.refl _ _
  with_reducible exact SameBut.refl _ _

theorem State.updResult_frame (s : State) (r : Nat) (loc : optParam Nat 0) :
    SameBut [.upd] s (State.updResult s r loc) := by
  unfold State.updResult
  extract_lets
  with_reducible refine (SameBut.upd_frame _ _).after (by decide) ?_
  with_reducible exact SameBut.refl _ _

theorem State.keyTick_frame (s : State) :
    SameBut [.upd, .flash] s (State.keyTick s) := by
  unfold State.keyTick
  extract_lets
  split
  with_reducible refine SameBut.ite ?_ ?_
  with_reducible refine (State.updResult_frame _ _ _).after (by decide) ?_
  with_reducible refine (State.saveCup_frame _).after (by decide) ?_
  with_reducible refine (SameBut.upd_frame _ _).after (by decide) ?_
  with_reducible exact SameBut.refl _ _
  with_reducible exact SameBut.refl _ _
  with_reducible exact SameBut.refl _ _

theorem State.loadSkipped_frame (s : State) :
    SameBut [.hrt, .regs, .porches, .upd, .free] s (State.loadSkipped s) := by
  unfold State.loadSkipped
  split
  with_reducible refine SameBut.ite ?_ ?_
  with_reducible refine SameBut.each (fun _ _ => ?_) ?_ _
  with_reducible refine (SameBut.upd_frame _ _).after (by decide) ?_
  with_reducible refine (State.askHeadNext_frame _ _ _ _ _).after (by decide) ?_
  with_reducible exact SameBut.refl _ _
  with_reducible exact SameBut.refl _ _
  with_reducible exact SameBut.refl _ _
  with_reducible exact SameBut.refl _ _

theorem State.retimeActivation_frame (s : State) :
    SameBut [.hrt, .regs, .porches, .upd, .free] s (State.retimeActivation s) := by
  unfold State.retimeActivation
  split
  with_reducible refine SameBut.ite ?_ ?_
  with_reducible refine (SameBut.upd_frame _ _).after (by decide) ?_
  with_reducible refine SameBut.each (fun _ _ => ?_) ?_ _
  with_reducible refine (State.askHeadNext_frame _ _ _ _ _).after (by decide) ?_
  with_reducible exact SameBut.refl _ _
  with_reducible exact SameBut.refl _ _
  with_reducible exact SameBut.refl _ _
  with_reducible exact SameBut.refl _ _

theorem State.stageTick_frame (s : State) :
    SameBut [.hrt, .regs, .events, .porches, .upd, .free] s (State.stageTick s) := by
  unfold State.stageTick
  split
  · refine (State.raise_frame _ _ _ _ _).after (by decide) ((State.updResult_frame _ _ _).after (by decide) ?_)
    exact (SameBut.upd_frame _ _).mono (by decide)
  · refine (State.raise_frame _ _ _ _ _).after (by decide) ((State.updResult_frame _ _ _).after (by decide)
      ((SameBut.upd_frame _ _).after (by decide) ?_))
    exact (State.inTick_frame (m := [.hrt, .regs, .porches, .free]) _ _ (fun _ => (State.sendAll_frame _ _ _ _).mono (by decide))
      (by decide)).mono (by decide)
  · exact SameBut.refl _ _

theorem State.beginStaging_frame (s : State) (src len : Nat) (image : List (Nat × Byte)) (pair : Bool) :
    SameBut [.upd] s (State.beginStaging s src len image pair) := by
  unfold State.beginStaging
  extract_lets
  with_reducible refine (SameBut.upd_frame _ _).after (by decide) ?_
  with_reducible exact SameBut.refl _ _

theorem State.takeTwinStage_frame (s : State) (was : UpdState) :
    SameBut [.events, .upd] s (State.takeTwinStage s was) := by
  unfold State.takeTwinStage
  extract_lets
  split
  with_reducible refine SameBut.ite ?_ ?_
  with_reducible refine (State.raise_frame _ _ _ _ _).after (by decide) ?_
  with_reducible refine (SameBut.upd_frame _ _).after (by decide) ?_
  with_reducible exact SameBut.refl _ _
  with_reducible refine SameBut.ite ?_ ?_
  with_reducible refine (State.raise_frame _ _ _ _ _).after (by decide) ?_
  with_reducible refine (State.updResult_frame _ _ _).after (by decide) ?_
  with_reducible refine (SameBut.upd_frame _ _).after (by decide) ?_
  with_reducible exact SameBut.refl _ _
  with_reducible refine SameBut.ite ?_ ?_
  with_reducible refine (State.raise_frame _ _ _ _ _).after (by decide) ?_
  with_reducible refine (State.updResult_frame _ _ _).after (by decide) ?_
  with_reducible refine (SameBut.upd_frame _ _).after (by decide) ?_
  with_reducible exact SameBut.refl _ _
  with_reducible refine (State.beginStaging_frame _ _ _ _ _).after (by decide) ?_
  with_reducible refine (SameBut.upd_frame _ _).after (by decide) ?_
  with_reducible exact SameBut.refl _ _
  with_reducible exact SameBut.refl _ _

theorem State.takeActivate_frame (s : State) (timeNs : Bool) :
    SameBut [.hrt, .regs, .porches, .upd, .free] s (State.takeActivate s timeNs) := by
  unfold State.takeActivate
  extract_lets
  with_reducible refine SameBut.ite ?_ ?_
  with_reducible refine (State.updResult_frame _ _ _).after (by decide) ?_
  with_reducible exact SameBut.refl _ _
  with_reducible refine SameBut.ite ?_ ?_
  with_reducible refine (State.updResult_frame _ _ _).after (by decide) ?_
  with_reducible exact SameBut.refl _ _
  with_reducible refine (State.updResult_frame _ _ _).after (by decide) ?_
  with_reducible refine (SameBut.upd_frame _ _).after (by decide) ?_
  with_reducible refine SameBut.each (fun _ _ => ?_) ?_ _
  with_reducible refine (State.askHeadNext_frame _ _ _ _ _).after (by decide) ?_
  with_reducible exact SameBut.refl _ _
  with_reducible exact SameBut.refl _ _

theorem State.takeConfirm_frame (s : State) :
    SameBut [.events, .upd, .flash] s (State.takeConfirm s) := by
  unfold State.takeConfirm
  extract_lets v1 v2 v3 v4 v5 v6 v7 v8
  with_reducible refine SameBut.ite ?_ ?_
  with_reducible refine (State.updResult_frame _ _ _).after (by decide) ?_
  with_reducible exact SameBut.refl _ _
  with_reducible refine SameBut.ite ?_ ?_
  with_reducible refine (State.updResult_frame _ _ _).after (by decide) ?_
  with_reducible exact SameBut.refl _ _
  with_reducible refine SameBut.ite ?_ ?_
  with_reducible refine (State.updResult_frame _ _ _).after (by decide) ?_
  with_reducible exact SameBut.refl _ _
  with_reducible refine (State.raise_frame _ _ _ _ _).after (by decide) ?_
  with_reducible refine (State.updResult_frame _ _ _).after (by decide) ?_
  with_reducible refine (SameBut.upd_frame _ _).after (by decide) ?_
  extract_lets
  dsimp only [v8]
  split
  with_reducible refine (State.updCup_frame _ _ _).after (by decide) ?_
  with_reducible refine (SameBut.flash_frame _ _).after (by decide) ?_
  with_reducible refine (State.setFwSlot_frame _ _ _).after (by decide) ?_
  with_reducible refine (State.setFwSlot_frame _ _ _).after (by decide) ?_
  with_reducible exact SameBut.refl _ _
  with_reducible refine (SameBut.flash_frame _ _).after (by decide) ?_
  with_reducible refine (State.setFwSlot_frame _ _ _).after (by decide) ?_
  with_reducible refine (State.setFwSlot_frame _ _ _).after (by decide) ?_
  with_reducible exact SameBut.refl _ _

theorem State.takeFallback_frame (s : State) :
    SameBut [.hrt, .regs, .porches, .upd, .free] s (State.takeFallback s) := by
  unfold State.takeFallback
  with_reducible refine SameBut.ite ?_ ?_
  with_reducible refine (State.updResult_frame _ _ _).after (by decide) ?_
  with_reducible refine (State.beginFallback_frame _ _).after (by decide) ?_
  with_reducible exact SameBut.refl _ _
  with_reducible refine (State.updResult_frame _ _ _).after (by decide) ?_
  with_reducible exact SameBut.refl _ _

theorem State.takeEnroll_frame (s : State) :
    SameBut [.upd] s (State.takeEnroll s) := by
  unfold State.takeEnroll
  extract_lets
  split
  with_reducible refine (SameBut.upd_frame _ _).after (by decide) ?_
  with_reducible exact SameBut.refl _ _
  with_reducible refine (State.updResult_frame _ _ _).after (by decide) ?_
  with_reducible exact SameBut.refl _ _

theorem State.takeRevoke_frame (s : State) :
    SameBut [.upd] s (State.takeRevoke s) := by
  unfold State.takeRevoke
  extract_lets
  with_reducible refine SameBut.ite ?_ ?_
  with_reducible refine (SameBut.upd_frame _ _).after (by decide) ?_
  with_reducible exact SameBut.refl _ _
  with_reducible refine (State.updResult_frame _ _ _).after (by decide) ?_
  with_reducible exact SameBut.refl _ _

theorem State.takeKey_frame (s : State) (op : Nat) :
    SameBut [.upd] s (State.takeKey s op) := by
  unfold State.takeKey
  with_reducible refine SameBut.ite ?_ ?_
  with_reducible refine (State.updResult_frame _ _ _).after (by decide) ?_
  with_reducible exact SameBut.refl _ _
  with_reducible refine SameBut.ite ?_ ?_
  with_reducible refine (State.updResult_frame _ _ _).after (by decide) ?_
  with_reducible exact SameBut.refl _ _
  with_reducible refine SameBut.ite ?_ ?_
  with_reducible refine (State.takeEnroll_frame _).after (by decide) ?_
  with_reducible exact SameBut.refl _ _
  with_reducible refine (State.takeRevoke_frame _).after (by decide) ?_
  with_reducible exact SameBut.refl _ _

theorem State.takeStage_frame (s : State) (pair : Bool) :
    SameBut [.events, .upd] s (State.takeStage s pair) := by
  unfold State.takeStage
  extract_lets
  with_reducible refine SameBut.ite ?_ ?_
  with_reducible refine (State.updResult_frame _ _ _).after (by decide) ?_
  with_reducible exact SameBut.refl _ _
  with_reducible refine SameBut.ite ?_ ?_
  with_reducible refine (State.updResult_frame _ _ _).after (by decide) ?_
  with_reducible exact SameBut.refl _ _
  with_reducible refine SameBut.ite ?_ ?_
  with_reducible refine (State.raise_frame _ _ _ _ _).after (by decide) ?_
  with_reducible refine (State.updResult_frame _ _ _).after (by decide) ?_
  with_reducible exact SameBut.refl _ _
  with_reducible refine (State.beginStaging_frame _ _ _ _ _).after (by decide) ?_
  with_reducible exact SameBut.refl _ _

theorem State.takeUpdCancel_frame (s : State) :
    SameBut [.hrt, .regs, .porches, .upd, .free] s (State.takeUpdCancel s) := by
  unfold State.takeUpdCancel
  extract_lets
  with_reducible refine SameBut.ite ?_ ?_
  with_reducible refine (State.updResult_frame _ _ _).after (by decide) ?_
  with_reducible exact SameBut.refl _ _
  with_reducible refine SameBut.ite ?_ ?_
  with_reducible refine (State.updResult_frame _ _ _).after (by decide) ?_
  with_reducible exact SameBut.refl _ _
  with_reducible refine (State.updResult_frame _ _ _).after (by decide) ?_
  with_reducible refine (SameBut.upd_frame _ _).after (by decide) ?_
  with_reducible refine SameBut.each (fun _ _ => ?_) ?_ _
  with_reducible refine (State.askHeadNext_frame _ _ _ _ _).after (by decide) ?_
  with_reducible exact SameBut.refl _ _
  with_reducible exact SameBut.refl _ _

theorem State.takeUpdCmd_frame (s : State) :
    SameBut [.hrt, .regs, .events, .ops, .porches, .upd, .flash, .free] s (State.takeUpdCmd s) := by
  unfold State.takeUpdCmd
  extract_lets
  split
  with_reducible refine SameBut.ite ?_ ?_
  with_reducible refine (State.updResult_frame _ _ _).after (by decide) ?_
  with_reducible refine (SameBut.ops_frame _ _).after (by decide) ?_
  with_reducible exact SameBut.refl _ _
  extract_lets
  split
  with_reducible refine (State.takeStage_frame _ _).after (by decide) ?_
  with_reducible refine (SameBut.ops_frame _ _).after (by decide) ?_
  with_reducible exact SameBut.refl _ _
  with_reducible refine (State.takeActivate_frame _ _).after (by decide) ?_
  with_reducible refine (SameBut.ops_frame _ _).after (by decide) ?_
  with_reducible exact SameBut.refl _ _
  with_reducible refine (State.takeUpdCancel_frame _).after (by decide) ?_
  with_reducible refine (SameBut.ops_frame _ _).after (by decide) ?_
  with_reducible exact SameBut.refl _ _
  with_reducible refine (State.takeConfirm_frame _).after (by decide) ?_
  with_reducible refine (SameBut.ops_frame _ _).after (by decide) ?_
  with_reducible exact SameBut.refl _ _
  with_reducible refine (State.takeFallback_frame _).after (by decide) ?_
  with_reducible refine (SameBut.ops_frame _ _).after (by decide) ?_
  with_reducible exact SameBut.refl _ _
  with_reducible refine (State.takeKey_frame _ _).after (by decide) ?_
  with_reducible refine (SameBut.ops_frame _ _).after (by decide) ?_
  with_reducible exact SameBut.refl _ _
  with_reducible refine (State.takeKey_frame _ _).after (by decide) ?_
  with_reducible refine (SameBut.ops_frame _ _).after (by decide) ?_
  with_reducible exact SameBut.refl _ _
  with_reducible refine (SameBut.ops_frame _ _).after (by decide) ?_
  with_reducible exact SameBut.refl _ _
  with_reducible refine (SameBut.ops_frame _ _).after (by decide) ?_
  with_reducible exact SameBut.refl _ _

theorem State.updTick_frame (s : State) (cycles : Nat) :
    SameBut [.hrt, .port, .att, .regs, .live, .events, .ops, .porches, .mem, .upd, .flash, .free] s (State.updTick s cycles) := by
  unfold State.updTick
  extract_lets v1 v2 v3 v4 v5
  with_reducible refine (State.deferActivation_frame _).after (by decide) ?_
  with_reducible refine (State.loadSkipped_frame _).after (by decide) ?_
  with_reducible refine (State.takeTwinStage_frame _ _).after (by decide) ?_
  with_reducible refine (State.takeUpdCmd_frame _).after (by decide) ?_
  with_reducible refine (State.stageTick_frame _).after (by decide) ?_
  with_reducible refine (State.keyTick_frame _).after (by decide) ?_
  extract_lets
  dsimp only [v5]
  split
  with_reducible refine SameBut.ite ?_ ?_
  with_reducible refine (State.beginFallback_frame _ _).after (by decide) ?_
  with_reducible refine (State.activateNow_frame _ _ _ _).after (by decide) ?_
  with_reducible refine (State.fallbackNow_frame _ _).after (by decide) ?_
  with_reducible refine (State.endWindow_frame _ _).after (by decide) ?_
  with_reducible refine SameBut.ite ?_ ?_
  with_reducible refine (State.endRestart_frame _).after (by decide) ?_
  with_reducible refine SameBut.ite ?_ ?_
  with_reducible refine (State.retimeActivation_frame _).after (by decide) ?_
  with_reducible refine (State.burnTick_frame _).after (by decide) ?_
  with_reducible exact SameBut.refl _ _
  with_reducible refine (State.burnTick_frame _).after (by decide) ?_
  with_reducible exact SameBut.refl _ _
  with_reducible refine SameBut.ite ?_ ?_
  with_reducible refine (State.retimeActivation_frame _).after (by decide) ?_
  with_reducible refine (State.burnTick_frame _).after (by decide) ?_
  with_reducible exact SameBut.refl _ _
  with_reducible refine (State.burnTick_frame _).after (by decide) ?_
  with_reducible exact SameBut.refl _ _
  with_reducible refine (State.activateNow_frame _ _ _ _).after (by decide) ?_
  with_reducible refine (State.fallbackNow_frame _ _).after (by decide) ?_
  with_reducible refine (State.endWindow_frame _ _).after (by decide) ?_
  with_reducible refine SameBut.ite ?_ ?_
  with_reducible refine (State.endRestart_frame _).after (by decide) ?_
  with_reducible refine SameBut.ite ?_ ?_
  with_reducible refine (State.retimeActivation_frame _).after (by decide) ?_
  with_reducible refine (State.burnTick_frame _).after (by decide) ?_
  with_reducible exact SameBut.refl _ _
  with_reducible refine (State.burnTick_frame _).after (by decide) ?_
  with_reducible exact SameBut.refl _ _
  with_reducible refine SameBut.ite ?_ ?_
  with_reducible refine (State.retimeActivation_frame _).after (by decide) ?_
  with_reducible refine (State.burnTick_frame _).after (by decide) ?_
  with_reducible exact SameBut.refl _ _
  with_reducible refine (State.burnTick_frame _).after (by decide) ?_
  with_reducible exact SameBut.refl _ _
  with_reducible refine (State.activateNow_frame _ _ _ _).after (by decide) ?_
  with_reducible refine (State.fallbackNow_frame _ _).after (by decide) ?_
  with_reducible refine (State.endWindow_frame _ _).after (by decide) ?_
  with_reducible refine SameBut.ite ?_ ?_
  with_reducible refine (State.endRestart_frame _).after (by decide) ?_
  with_reducible refine SameBut.ite ?_ ?_
  with_reducible refine (State.retimeActivation_frame _).after (by decide) ?_
  with_reducible refine (State.burnTick_frame _).after (by decide) ?_
  with_reducible exact SameBut.refl _ _
  with_reducible refine (State.burnTick_frame _).after (by decide) ?_
  with_reducible exact SameBut.refl _ _
  with_reducible refine SameBut.ite ?_ ?_
  with_reducible refine (State.retimeActivation_frame _).after (by decide) ?_
  with_reducible refine (State.burnTick_frame _).after (by decide) ?_
  with_reducible exact SameBut.refl _ _
  with_reducible refine (State.burnTick_frame _).after (by decide) ?_
  with_reducible exact SameBut.refl _ _

theorem State.endStaging_frame (s : State) (r loc : Nat) :
    SameBut [.upd] s (State.endStaging s r loc) := by
  unfold State.endStaging
  extract_lets
  with_reducible refine (SameBut.upd_frame _ _).after (by decide) ?_
  with_reducible exact SameBut.refl _ _

theorem State.forwardBundle_frame (s : State) :
    SameBut [.regs, .porches, .free] s (State.forwardBundle s) := by
  unfold State.forwardBundle
  split
  with_reducible refine SameBut.ite ?_ ?_
  with_reducible refine (State.send_frame _ _ _ _).after (by decide) ?_
  with_reducible exact SameBut.refl _ _
  with_reducible exact SameBut.refl _ _
  with_reducible exact SameBut.refl _ _

theorem State.relayHeads_frame (s : State) (b : Bundle) :
    SameBut [.regs, .porches, .upd, .free] s (State.relayHeads s b) := by
  unfold State.relayHeads
  extract_lets
  with_reducible refine (SameBut.upd_frame _ _).after (by decide) ?_
  with_reducible refine SameBut.each (fun _ _ => ?_) ?_ _
  with_reducible refine (State.askHead_frame _ _ _ _ _).after (by decide) ?_
  with_reducible exact SameBut.refl _ _
  with_reducible exact SameBut.refl _ _

theorem State.updOp_frame (s : State) (op : Nat) (flag : Bool) :
    SameBut [.ops] s (State.updOp s op flag) := by
  unfold State.updOp
  extract_lets
  with_reducible refine (SameBut.ops_frame _ _).after (by decide) ?_
  with_reducible exact SameBut.refl _ _

theorem execActivate_frame (timeNs : Bool) (s : State) :
    Frames [.ops] s (execActivate timeNs s) := by
  unfold execActivate
  with_reducible refine Frames.next ?_
  with_reducible refine (State.updOp_frame _ _ _).after (by decide) ?_
  with_reducible exact SameBut.refl _ _

theorem execConfirm_frame (s : State) :
    Frames [.ops] s (execConfirm s) := by
  unfold execConfirm
  with_reducible refine Frames.next ?_
  with_reducible refine (State.updOp_frame _ _ _).after (by decide) ?_
  with_reducible exact SameBut.refl _ _

theorem execEnrollKey_frame (s : State) :
    Frames [.ops] s (execEnrollKey s) := by
  unfold execEnrollKey
  with_reducible refine Frames.next ?_
  with_reducible refine (State.updOp_frame _ _ _).after (by decide) ?_
  with_reducible exact SameBut.refl _ _

theorem execFallback_frame (s : State) :
    Frames [.ops] s (execFallback s) := by
  unfold execFallback
  with_reducible refine Frames.next ?_
  with_reducible refine (State.updOp_frame _ _ _).after (by decide) ?_
  with_reducible exact SameBut.refl _ _

theorem execRevokeKey_frame (s : State) :
    Frames [.ops] s (execRevokeKey s) := by
  unfold execRevokeKey
  with_reducible refine Frames.next ?_
  with_reducible refine (State.updOp_frame _ _ _).after (by decide) ?_
  with_reducible exact SameBut.refl _ _

theorem execStage_frame (pair : Bool) (s : State) :
    Frames [.ops] s (execStage pair s) := by
  unfold execStage
  with_reducible refine Frames.next ?_
  with_reducible refine (State.updOp_frame _ _ _).after (by decide) ?_
  with_reducible exact SameBut.refl _ _

theorem execUpdateCancel_frame (s : State) :
    Frames [.ops] s (execUpdateCancel s) := by
  unfold execUpdateCancel
  with_reducible refine Frames.next ?_
  with_reducible refine (State.updOp_frame _ _ _).after (by decide) ?_
  with_reducible exact SameBut.refl _ _

theorem State.writeSlot_frame (s : State) (b : Bundle) :
    SameBut [.flash] s (State.writeSlot s b) := by
  unfold State.writeSlot
  with_reducible refine (State.setFwSlot_frame _ _ _).after (by decide) ?_
  with_reducible exact SameBut.refl _ _

theorem execActivation_frame (migrationFails : Bool) (newSchema : BitVec 16) (s : State) :
    Frames [.att, .regs, .live, .events, .upd, .flash] s (execActivation migrationFails newSchema s) := by
  unfold execActivation
  with_reducible refine Frames.next ?_
  with_reducible refine (State.activateNow_frame _ _ _ _).after (by decide) ?_
  with_reducible exact SameBut.refl _ _

theorem execCupboardWriteDone_frame (s : State) :
    Frames [.upd] s (execCupboardWriteDone s) := by
  unfold execCupboardWriteDone
  extract_lets
  with_reducible refine Frames.ite ?_ ?_
  with_reducible refine Frames.next ?_
  with_reducible refine (SameBut.upd_frame _ _).after (by decide) ?_
  with_reducible exact SameBut.refl _ _
  with_reducible refine Frames.next ?_
  with_reducible exact SameBut.refl _ _

theorem execFallbackTakeEffect_frame (s : State) :
    Frames [.regs, .live, .events, .mem, .upd, .flash] s (execFallbackTakeEffect s) := by
  unfold execFallbackTakeEffect
  with_reducible refine Frames.next ?_
  with_reducible refine (State.fallbackNow_frame _ _).after (by decide) ?_
  with_reducible exact SameBut.refl _ _

theorem execHealthWindowEnd_frame (s : State) :
    Frames [.upd] s (execHealthWindowEnd s) := by
  unfold execHealthWindowEnd
  with_reducible refine Frames.next ?_
  with_reducible refine (State.endWindow_frame _ _).after (by decide) ?_
  with_reducible exact SameBut.refl _ _

theorem execImgResult_frame (porch : BitVec 4) (result : BitVec 8) (s : State) :
    Frames [.regs, .porches, .upd] s (execImgResult porch result s) := by
  unfold execImgResult
  extract_lets
  with_reducible refine Frames.ite ?_ ?_
  with_reducible refine Frames.next ?_
  with_reducible exact SameBut.refl _ _
  extract_lets
  split
  with_reducible refine Frames.next ?_
  with_reducible refine (State.receive_frame _ _).after (by decide) ?_
  with_reducible exact SameBut.refl _ _
  with_reducible refine Frames.ite ?_ ?_
  with_reducible refine Frames.next ?_
  with_reducible refine SameBut.ite ?_ ?_
  with_reducible refine (State.endStaging_frame _ _ _).after (by decide) ?_
  with_reducible refine (SameBut.upd_frame _ _).after (by decide) ?_
  with_reducible refine (State.receive_frame _ _).after (by decide) ?_
  with_reducible exact SameBut.refl _ _
  with_reducible refine (SameBut.upd_frame _ _).after (by decide) ?_
  with_reducible refine (State.receive_frame _ _).after (by decide) ?_
  with_reducible exact SameBut.refl _ _
  with_reducible refine Frames.next ?_
  with_reducible refine SameBut.ite ?_ ?_
  with_reducible refine (State.endStaging_frame _ _ _).after (by decide) ?_
  extract_lets
  split
  with_reducible refine (SameBut.upd_frame _ _).after (by decide) ?_
  with_reducible refine (State.receive_frame _ _).after (by decide) ?_
  with_reducible exact SameBut.refl _ _
  with_reducible refine (SameBut.upd_frame _ _).after (by decide) ?_
  with_reducible refine (State.receive_frame _ _).after (by decide) ?_
  with_reducible exact SameBut.refl _ _
  with_reducible refine (SameBut.upd_frame _ _).after (by decide) ?_
  with_reducible refine (State.receive_frame _ _).after (by decide) ?_
  with_reducible exact SameBut.refl _ _
  extract_lets
  split
  with_reducible refine (SameBut.upd_frame _ _).after (by decide) ?_
  with_reducible refine (State.receive_frame _ _).after (by decide) ?_
  with_reducible exact SameBut.refl _ _
  with_reducible refine (SameBut.upd_frame _ _).after (by decide) ?_
  with_reducible refine (State.receive_frame _ _).after (by decide) ?_
  with_reducible exact SameBut.refl _ _
  with_reducible refine (SameBut.upd_frame _ _).after (by decide) ?_
  with_reducible refine (State.receive_frame _ _).after (by decide) ?_
  with_reducible exact SameBut.refl _ _

theorem execRestartEnd_frame (s : State) :
    Frames [.port, .att, .regs, .live, .upd, .flash] s (execRestartEnd s) := by
  unfold execRestartEnd
  with_reducible refine Frames.next ?_
  with_reducible refine (State.endRestart_frame _).after (by decide) ?_
  with_reducible exact SameBut.refl _ _

theorem execSelftestEnd_frame (pass : Bool) (s : State) :
    Frames [.events, .upd] s (execSelftestEnd pass s) := by
  unfold execSelftestEnd
  extract_lets
  with_reducible refine Frames.ite ?_ ?_
  with_reducible refine Frames.next ?_
  with_reducible exact SameBut.refl _ _
  with_reducible refine Frames.ite ?_ ?_
  with_reducible refine Frames.next ?_
  with_reducible refine (SameBut.upd_frame _ _).after (by decide) ?_
  with_reducible exact SameBut.refl _ _
  with_reducible refine Frames.next ?_
  with_reducible refine (State.findFallback_frame _ _).after (by decide) ?_
  with_reducible refine (State.raise_frame _ _ _ _ _).after (by decide) ?_
  with_reducible refine (SameBut.upd_frame _ _).after (by decide) ?_
  with_reducible exact SameBut.refl _ _

theorem execStagingDone_frame (flashOk : Bool) (s : State) :
    Frames [.regs, .porches, .upd, .flash, .free] s (execStagingDone flashOk s) := by
  unfold execStagingDone
  extract_lets
  with_reducible refine Frames.ite ?_ ?_
  with_reducible refine Frames.next ?_
  with_reducible exact SameBut.refl _ _
  extract_lets
  split
  split
  with_reducible refine Frames.next ?_
  with_reducible refine (State.endStaging_frame _ _ _).after (by decide) ?_
  with_reducible exact SameBut.refl _ _
  with_reducible refine Frames.next ?_
  with_reducible exact SameBut.refl _ _
  split
  with_reducible refine Frames.next ?_
  with_reducible refine (State.endStaging_frame _ _ _).after (by decide) ?_
  with_reducible refine (State.forwardBundle_frame _).after (by decide) ?_
  with_reducible exact SameBut.refl _ _
  with_reducible refine Frames.ite ?_ ?_
  with_reducible refine Frames.next ?_
  with_reducible refine (State.endStaging_frame _ _ _).after (by decide) ?_
  with_reducible refine (State.forwardBundle_frame _).after (by decide) ?_
  with_reducible exact SameBut.refl _ _
  with_reducible refine Frames.next ?_
  with_reducible refine SameBut.ite ?_ ?_
  with_reducible refine (State.endStaging_frame _ _ _).after (by decide) ?_
  with_reducible refine (State.relayHeads_frame _ _).after (by decide) ?_
  with_reducible refine (State.writeSlot_frame _ _).after (by decide) ?_
  with_reducible refine (SameBut.upd_frame _ _).after (by decide) ?_
  with_reducible refine (State.forwardBundle_frame _).after (by decide) ?_
  with_reducible exact SameBut.refl _ _
  with_reducible refine (State.relayHeads_frame _ _).after (by decide) ?_
  with_reducible refine (State.writeSlot_frame _ _).after (by decide) ?_
  with_reducible refine (SameBut.upd_frame _ _).after (by decide) ?_
  with_reducible refine (State.forwardBundle_frame _).after (by decide) ?_
  with_reducible exact SameBut.refl _ _

end Sys2Proof.Machine
end

