-- ==== Sys2Proof/Laws/Frame/Attic.lean ====
section
/-! SUPPORT. What the definitions of Machine/Attic.lean change of the state: one frame for each. -/
namespace Sys2Proof.Machine

theorem State.endRead_frame (s : State) (x : AtticRead) (r : Nat) :
    SameBut [.att, .regs, .events] s (State.endRead s x r) := by
  unfold State.endRead
  extract_lets
  with_reducible refine (State.raise_frame _ _ _ _ _).after (by decide) ?_
  with_reducible refine (SameBut.att_frame _ _).after (by decide) ?_
  with_reducible refine (State.setReg_frame _ _ _).after (by decide) ?_
  with_reducible refine (State.setReg_frame _ _ _).after (by decide) ?_
  with_reducible exact SameBut.refl _ _

theorem State.takeRead_frame (s : State) :
    SameBut [.att, .regs] s (State.takeRead s) := by
  unfold State.takeRead
  extract_lets
  with_reducible refine SameBut.ite ?_ ?_
  with_reducible refine (State.setField_frame _ _ _ _ _).after (by decide) ?_
  with_reducible exact SameBut.refl _ _
  with_reducible refine SameBut.ite ?_ ?_
  with_reducible refine (State.setField_frame _ _ _ _ _).after (by decide) ?_
  with_reducible exact SameBut.refl _ _
  with_reducible refine (SameBut.att_frame _ _).after (by decide) ?_
  with_reducible refine (State.setReg_frame _ _ _).after (by decide) ?_
  with_reducible exact SameBut.refl _ _

theorem State.takeAtt_frame (s : State) :
    SameBut [.att, .regs, .events, .ops] s (State.takeAtt s) := by
  unfold State.takeAtt
  extract_lets v1 v2 v3 v4 v5
  with_reducible refine SameBut.ite ?_ ?_
  with_reducible refine (State.takeRead_frame _).after (by decide) ?_
  extract_lets
  dsimp only [v5]
  split
  with_reducible refine SameBut.ite ?_ ?_
  with_reducible refine (State.endRead_frame _ _ _).after (by decide) ?_
  with_reducible refine (SameBut.ops_frame _ _).after (by decide) ?_
  with_reducible exact SameBut.refl _ _
  with_reducible refine SameBut.ite ?_ ?_
  with_reducible refine (State.endRead_frame _ _ _).after (by decide) ?_
  with_reducible refine (SameBut.ops_frame _ _).after (by decide) ?_
  with_reducible exact SameBut.refl _ _
  with_reducible refine (SameBut.ops_frame _ _).after (by decide) ?_
  with_reducible exact SameBut.refl _ _
  with_reducible refine (SameBut.att_frame _ _).after (by decide) ?_
  with_reducible refine (SameBut.ops_frame _ _).after (by decide) ?_
  with_reducible exact SameBut.refl _ _
  extract_lets
  dsimp only [v5]
  split
  with_reducible refine SameBut.ite ?_ ?_
  with_reducible refine (State.endRead_frame _ _ _).after (by decide) ?_
  with_reducible refine (SameBut.ops_frame _ _).after (by decide) ?_
  with_reducible exact SameBut.refl _ _
  with_reducible refine SameBut.ite ?_ ?_
  with_reducible refine (State.endRead_frame _ _ _).after (by decide) ?_
  with_reducible refine (SameBut.ops_frame _ _).after (by decide) ?_
  with_reducible exact SameBut.refl _ _
  with_reducible refine (SameBut.ops_frame _ _).after (by decide) ?_
  with_reducible exact SameBut.refl _ _
  with_reducible refine (SameBut.att_frame _ _).after (by decide) ?_
  with_reducible refine (SameBut.ops_frame _ _).after (by decide) ?_
  with_reducible exact SameBut.refl _ _

theorem State.writeRecord_frame (s : State) (e : AtticEvent) :
    SameBut [.att, .regs, .events] s (State.writeRecord s e) := by
  unfold State.writeRecord
  extract_lets
  with_reducible refine SameBut.ite ?_ ?_
  with_reducible exact SameBut.refl _ _
  extract_lets
  split
  with_reducible refine (State.count_frame _ _ _ _ _).after (by decide) ?_
  with_reducible refine (SameBut.att_frame _ _).after (by decide) ?_
  with_reducible exact SameBut.refl _ _
  split
  with_reducible refine SameBut.ite ?_ ?_
  with_reducible refine (State.raise_frame _ _ _ _ _).after (by decide) ?_
  with_reducible refine (State.count_frame _ _ _ _ _).after (by decide) ?_
  with_reducible refine (SameBut.att_frame _ _).after (by decide) ?_
  with_reducible exact SameBut.refl _ _
  with_reducible refine SameBut.ite ?_ ?_
  with_reducible refine (State.raise_frame _ _ _ _ _).after (by decide) ?_
  with_reducible refine (State.count_frame _ _ _ _ _).after (by decide) ?_
  with_reducible refine (SameBut.att_frame _ _).after (by decide) ?_
  with_reducible exact SameBut.refl _ _
  with_reducible refine (State.count_frame _ _ _ _ _).after (by decide) ?_
  with_reducible refine (SameBut.att_frame _ _).after (by decide) ?_
  with_reducible exact SameBut.refl _ _
  with_reducible refine (State.raise_frame _ _ _ _ _).after (by decide) ?_
  with_reducible refine (State.count_frame _ _ _ _ _).after (by decide) ?_
  with_reducible exact SameBut.refl _ _

theorem State.atticTick_frame (s : State) :
    SameBut [.att, .regs, .events, .ops] s (State.atticTick s) := by
  unfold State.atticTick
  extract_lets
  with_reducible refine (State.takeAtt_frame _).after (by decide) ?_
  with_reducible refine SameBut.foldl (fun _ _ => ?_) ?_ _
  with_reducible refine (State.writeRecord_frame _ _).after (by decide) ?_
  with_reducible exact SameBut.refl _ _
  with_reducible refine (SameBut.att_frame _ _).after (by decide) ?_
  with_reducible refine (SameBut.att_frame _ _).after (by decide) ?_
  with_reducible exact SameBut.refl _ _

theorem State.copyRecords_frame (s : State) (x : AtticRead) (l : List AtticRec) : SameBut [.ram] s (s.copyRecords x l).1 := by
  induction l generalizing s x with
  | nil => exact SameBut.refl _ _
  | cons r l ih =>
    unfold State.copyRecords
    split
    · exact ih _ _
    · split
      · exact SameBut.refl _ _
      · split
        · exact ih _ _
        · split
          · exact SameBut.refl _ _
          · extract_lets b
            split
            · exact SameBut.refl _ _
            · exact SameBut.trans (t := if s.hallOpen 0 then s.hallWrite 0 (x.off + x.bytes) (r.envelope ++ r.asRead) else s)
                (SameBut.ite (State.hallWrite_frame _ _ _ _) (SameBut.refl _ _)) (ih _ _)

theorem execAtticCancel_frame (s : State) :
    Frames [.ops] s (execAtticCancel s) := by
  unfold execAtticCancel
  extract_lets
  with_reducible refine Frames.next ?_
  with_reducible refine (SameBut.ops_frame _ _).after (by decide) ?_
  with_reducible exact SameBut.refl _ _

theorem execAtticRead_frame (s : State) :
    Frames [.ops] s (execAtticRead s) := by
  unfold execAtticRead
  extract_lets
  with_reducible refine Frames.next ?_
  with_reducible refine (SameBut.ops_frame _ _).after (by decide) ?_
  with_reducible exact SameBut.refl _ _

theorem execCoalesceWindowEnd_frame (number : BitVec 48) (s : State) :
    Frames [.att] s (execCoalesceWindowEnd number s) := by
  unfold execCoalesceWindowEnd
  with_reducible refine Frames.next ?_
  with_reducible refine (SameBut.att_frame _ _).after (by decide) ?_
  with_reducible exact SameBut.refl _ _

theorem execFlashCommit_frame (images : List (BitVec 48 × Option (List Byte))) (s : State) :
    Frames [.att] s (execFlashCommit images s) := by
  unfold execFlashCommit
  extract_lets
  with_reducible refine Frames.ite ?_ ?_
  with_reducible refine Frames.next ?_
  with_reducible exact SameBut.refl _ _
  with_reducible refine Frames.next ?_
  with_reducible refine (SameBut.att_frame _ _).after (by decide) ?_
  with_reducible exact SameBut.refl _ _

theorem execFlashFail_frame (s : State) :
    Frames [.att, .events] s (execFlashFail s) := by
  unfold execFlashFail
  extract_lets
  with_reducible refine Frames.ite ?_ ?_
  with_reducible refine Frames.next ?_
  with_reducible exact SameBut.refl _ _
  with_reducible refine Frames.next ?_
  with_reducible refine (State.raise_frame _ _ _ _ _).after (by decide) ?_
  with_reducible refine (SameBut.att_frame _ _).after (by decide) ?_
  with_reducible exact SameBut.refl _ _

theorem execOpsecSave_frame (s : State) :
    Frames [.att] s (execOpsecSave s) := by
  unfold execOpsecSave
  with_reducible refine Frames.next ?_
  with_reducible refine (SameBut.att_frame _ _).after (by decide) ?_
  with_reducible exact SameBut.refl _ _

theorem execReadDone_frame (s : State) :
    Frames [.att, .ram] s (execReadDone s) := by
  unfold execReadDone
  split
  with_reducible refine Frames.ite ?_ ?_
  with_reducible refine Frames.next ?_
  with_reducible exact SameBut.refl _ _
  with_reducible refine Frames.next ?_
  with_reducible refine (SameBut.att_frame _ _).after (by decide) ?_
  with_reducible refine (State.copyRecords_frame _ _ _).after (by decide) ?_
  with_reducible exact SameBut.refl _ _
  with_reducible refine Frames.next ?_
  with_reducible exact SameBut.refl _ _

end Sys2Proof.Machine
end

