-- ==== Sys2Proof/Laws/Frame/Cages.lean ====
section
/-! SUPPORT. What the definitions of Machine/Cages.lean change of the state: one frame for each. -/
namespace Sys2Proof.Machine

theorem State.squelchCage_frame (s : State) (c : Nat) (on : Bool) :
    SameBut [.porches] s (State.squelchCage s c on) := by
  unfold State.squelchCage
  with_reducible refine SameBut.foldl (fun _ _ => ?_) ?_ _
  with_reducible refine (State.updPorch_frame _ _ _).after (by decide) ?_
  with_reducible exact SameBut.refl _ _
  with_reducible exact SameBut.refl _ _

theorem State.beginProbe_frame (s : State) (c : Nat) :
    SameBut [.porches, .cages] s (State.beginProbe s c) := by
  unfold State.beginProbe
  with_reducible refine (State.updCage_frame _ _ _).after (by decide) ?_
  with_reducible refine (State.squelchCage_frame _ _ _).after (by decide) ?_
  with_reducible exact SameBut.refl _ _

theorem State.darkLane_frame (s : State) (e : Nat × Nat) :
    SameBut [.regs, .events, .porches, .lanes, .cals] s (State.darkLane s e) := by
  unfold State.darkLane
  extract_lets
  with_reducible refine SameBut.ite ?_ ?_
  with_reducible refine (State.updLane_frame _ _ _ _).after (by decide) ?_
  with_reducible refine (State.loseSpare_frame _ _).after (by decide) ?_
  with_reducible refine (State.updPorch_frame _ _ _).after (by decide) ?_
  with_reducible exact SameBut.refl _ _
  with_reducible refine (State.updLane_frame _ _ _ _).after (by decide) ?_
  with_reducible refine (State.updPorch_frame _ _ _).after (by decide) ?_
  with_reducible exact SameBut.refl _ _

theorem State.darkRun_frame (s : State) (p : Nat) :
    SameBut [.regs, .events, .lanes, .cals] s (State.darkRun s p) := by
  unfold State.darkRun
  with_reducible refine SameBut.ite ?_ ?_
  with_reducible exact SameBut.refl _ _
  with_reducible refine (State.abandonRun_frame _ _ _ _).after (by decide) ?_
  with_reducible exact SameBut.refl _ _

theorem State.setLit_frame (s : State) (c lit : Nat) :
    SameBut [.porches] s (State.setLit s c lit) := by
  unfold State.setLit
  with_reducible refine SameBut.foldl (fun _ _ => ?_) ?_ _
  with_reducible refine (State.updPorch_frame _ _ _).after (by decide) ?_
  with_reducible exact SameBut.refl _ _
  with_reducible exact SameBut.refl _ _

theorem execLatchClear_frame (cage : Fin 18) (s : State) :
    Frames [.events, .porches, .cages] s (execLatchClear cage s) := by
  unfold execLatchClear
  extract_lets
  with_reducible refine Frames.ite ?_ ?_
  with_reducible refine Frames.next ?_
  with_reducible refine (State.raise_frame _ _ _ _ _).after (by decide) ?_
  with_reducible refine SameBut.ite ?_ ?_
  with_reducible refine (State.updPorch_frame _ _ _).after (by decide) ?_
  with_reducible refine (State.updCage_frame _ _ _).after (by decide) ?_
  with_reducible exact SameBut.refl _ _
  with_reducible refine (State.updCage_frame _ _ _).after (by decide) ?_
  with_reducible exact SameBut.refl _ _
  with_reducible refine Frames.next ?_
  with_reducible exact SameBut.refl _ _

theorem execLightReturn_frame (cage : Fin 18) (lit : BitVec 8) (s : State) :
    Frames [.porches, .cages] s (execLightReturn cage lit s) := by
  unfold execLightReturn
  extract_lets
  with_reducible refine Frames.ite ?_ ?_
  with_reducible refine Frames.next ?_
  with_reducible refine (State.beginProbe_frame _ _).after (by decide) ?_
  with_reducible refine (State.setLit_frame _ _ _).after (by decide) ?_
  with_reducible exact SameBut.refl _ _
  with_reducible refine Frames.next ?_
  with_reducible refine (State.setLit_frame _ _ _).after (by decide) ?_
  with_reducible exact SameBut.refl _ _

theorem execLossOfLight_frame (cage : Fin 18) (s : State) :
    Frames [.hrt, .regs, .events, .porches, .cages, .lanes, .cals, .free] s (execLossOfLight cage s) := by
  unfold execLossOfLight
  extract_lets
  with_reducible refine Frames.ite ?_ ?_
  with_reducible refine Frames.next ?_
  with_reducible exact SameBut.refl _ _
  with_reducible refine Frames.next ?_
  with_reducible refine (State.raise_frame _ _ _ _ _).after (by decide) ?_
  with_reducible refine SameBut.foldl (fun _ _ => ?_) ?_ _
  with_reducible refine (State.darkLane_frame _ _).after (by decide) ?_
  with_reducible exact SameBut.refl _ _
  with_reducible refine SameBut.ite ?_ ?_
  with_reducible refine (State.updPorch_frame _ _ _).after (by decide) ?_
  with_reducible refine (State.darkRun_frame _ _).after (by decide) ?_
  with_reducible refine (State.updCage_frame _ _ _).after (by decide) ?_
  with_reducible refine (State.squelchCage_frame _ _ _).after (by decide) ?_
  with_reducible refine (State.guardEvent_frame _ _).after (by decide) ?_
  with_reducible exact SameBut.refl _ _
  with_reducible refine (State.updCage_frame _ _ _).after (by decide) ?_
  with_reducible refine (State.squelchCage_frame _ _ _).after (by decide) ?_
  with_reducible refine (State.guardEvent_frame _ _).after (by decide) ?_
  with_reducible exact SameBut.refl _ _

theorem execModuleInsert_frame (cage : Fin 18) (qualified : Bool) (modState : BitVec 8 × List AppAd) (s : State) :
    Frames [.events, .cages] s (execModuleInsert cage qualified modState s) := by
  unfold execModuleInsert
  extract_lets
  with_reducible refine Frames.next ?_
  with_reducible refine (State.raise_frame _ _ _ _ _).after (by decide) ?_
  with_reducible refine (State.updCage_frame _ _ _).after (by decide) ?_
  with_reducible exact SameBut.refl _ _

theorem execModuleInt_frame (cage : Fin 18) (rxLos txLos modState : BitVec 8) (s : State) :
    Frames [.cages] s (execModuleInt cage rxLos txLos modState s) := by
  unfold execModuleInt
  with_reducible refine Frames.ite ?_ ?_
  with_reducible refine Frames.next ?_
  with_reducible refine (State.updCage_frame _ _ _).after (by decide) ?_
  with_reducible exact SameBut.refl _ _
  with_reducible refine Frames.next ?_
  with_reducible exact SameBut.refl _ _

theorem execModuleRemove_frame (cage : Fin 18) (s : State) :
    Frames [.events, .cages] s (execModuleRemove cage s) := by
  unfold execModuleRemove
  extract_lets
  with_reducible refine Frames.next ?_
  with_reducible refine (State.raise_frame _ _ _ _ _).after (by decide) ?_
  with_reducible refine (State.updCage_frame _ _ _).after (by decide) ?_
  with_reducible exact SameBut.refl _ _

theorem execMonitorPoll_frame (cage : Fin 18) (temp vcc : BitVec 16) (rx : List (BitVec 16)) (s : State) :
    Frames [.cages] s (execMonitorPoll cage temp vcc rx s) := by
  unfold execMonitorPoll
  with_reducible refine Frames.ite ?_ ?_
  with_reducible refine Frames.next ?_
  with_reducible refine (State.updCage_frame _ _ _).after (by decide) ?_
  with_reducible exact SameBut.refl _ _
  with_reducible refine Frames.next ?_
  with_reducible exact SameBut.refl _ _

theorem execProbe_frame (cage : Fin 18) (s : State) :
    Frames [.porches, .cages] s (execProbe cage s) := by
  unfold execProbe
  with_reducible refine Frames.ite ?_ ?_
  with_reducible refine Frames.next ?_
  with_reducible refine (State.beginProbe_frame _ _).after (by decide) ?_
  with_reducible exact SameBut.refl _ _
  with_reducible refine Frames.next ?_
  with_reducible exact SameBut.refl _ _

theorem execProbeEnd_frame (cage : Fin 18) (lit : BitVec 8) (s : State) :
    Frames [.porches, .cages] s (execProbeEnd cage lit s) := by
  unfold execProbeEnd
  extract_lets
  with_reducible refine Frames.ite ?_ ?_
  with_reducible refine Frames.ite ?_ ?_
  with_reducible refine Frames.next ?_
  with_reducible refine (State.setLit_frame _ _ _).after (by decide) ?_
  with_reducible exact SameBut.refl _ _
  with_reducible refine Frames.next ?_
  with_reducible refine (State.updCage_frame _ _ _).after (by decide) ?_
  with_reducible refine (State.squelchCage_frame _ _ _).after (by decide) ?_
  with_reducible refine (State.setLit_frame _ _ _).after (by decide) ?_
  with_reducible exact SameBut.refl _ _
  with_reducible refine Frames.next ?_
  with_reducible exact SameBut.refl _ _

end Sys2Proof.Machine
end

