-- ==== Sys2Proof/Laws/Frame/Power.lean ====
section
/-! SUPPORT. What the definitions of Machine/Power.lean change of the state: one frame for each. -/
namespace Sys2Proof.Machine

theorem State.powerUpTick_frame (s : State) :
    SameBut [.boot, .att] s (State.powerUpTick s) := by
  unfold State.powerUpTick
  extract_lets
  with_reducible refine SameBut.ite ?_ ?_
  with_reducible refine (State.record_frame _ _ _ _ _).after (by decide) ?_
  with_reducible refine (SameBut.boot_frame _ _).after (by decide) ?_
  with_reducible exact SameBut.refl _ _
  with_reducible exact SameBut.refl _ _

theorem State.clearShed_frame (s : State) (cycles : Nat) :
    SameBut [.thm, .events] s (State.clearShed s cycles) := by
  unfold State.clearShed
  extract_lets
  with_reducible refine SameBut.ite ?_ ?_
  with_reducible refine (State.raise_frame _ _ _ _ _).after (by decide) ?_
  with_reducible refine (SameBut.thm_frame _ _).after (by decide) ?_
  with_reducible exact SameBut.refl _ _
  with_reducible exact SameBut.refl _ _

theorem State.recordThermal_frame (s : State) (sev die level : Nat) (temp : Int) :
    SameBut [.att] s (State.recordThermal s sev die level temp) := by
  unfold State.recordThermal
  with_reducible refine (State.record_frame _ _ _ _ _).after (by decide) ?_
  with_reducible exact SameBut.refl _ _

theorem State.detectStep_frame (s : State) (from_ : Nat) :
    SameBut [.thm, .att, .events] s (State.detectStep s from_) := by
  unfold State.detectStep
  extract_lets
  with_reducible refine SameBut.ite ?_ ?_
  with_reducible exact SameBut.refl _ _
  extract_lets
  split
  with_reducible refine (State.recordThermal_frame _ _ _ _ _).after (by decide) ?_
  with_reducible refine (State.raise_frame _ _ _ _ _).after (by decide) ?_
  with_reducible refine (SameBut.thm_frame _ _).after (by decide) ?_
  with_reducible exact SameBut.refl _ _
  with_reducible exact SameBut.refl _ _

theorem State.endStep_frame (s : State) (cycles : Nat) :
    SameBut [.thm, .events] s (State.endStep s cycles) := by
  unfold State.endStep
  extract_lets
  with_reducible refine SameBut.ite ?_ ?_
  with_reducible refine (State.raise_frame _ _ _ _ _).after (by decide) ?_
  with_reducible refine (SameBut.thm_frame _ _).after (by decide) ?_
  with_reducible exact SameBut.refl _ _
  with_reducible exact SameBut.refl _ _

theorem State.enterShed_frame (s : State) (die : Nat) (temp : Int) :
    SameBut [.thm, .att, .events] s (State.enterShed s die temp) := by
  unfold State.enterShed
  extract_lets
  with_reducible refine (State.recordThermal_frame _ _ _ _ _).after (by decide) ?_
  with_reducible refine (State.raise_frame _ _ _ _ _).after (by decide) ?_
  with_reducible refine (SameBut.thm_frame _ _).after (by decide) ?_
  with_reducible exact SameBut.refl _ _

theorem State.enterWithdraw_frame (s : State) (die : Nat) (temp : Int) :
    SameBut [.hrt, .pins, .thm, .att, .regs, .events, .loops, .porches, .twn, .free] s (State.enterWithdraw s die temp) := by
  unfold State.enterWithdraw
  extract_lets
  with_reducible refine SameBut.trans ?_ (State.verdict_frame _ _ _ _ (fun _ => ?_) (by decide))
  with_reducible refine (State.recordThermal_frame _ _ _ _ _).after (by decide) ?_
  with_reducible refine (State.raise_frame _ _ _ _ _).after (by decide) ?_
  with_reducible refine (SameBut.thm_frame _ _).after (by decide) ?_
  with_reducible exact SameBut.refl _ _
  with_reducible refine (State.faultOn_frame _ _ _).after (by decide) ?_
  with_reducible exact SameBut.refl _ _

theorem State.tripNow_frame (s : State) (die : Nat) (temp : Int) :
    SameBut [.hrt, .pins, .boot, .thm, .att, .regs, .events, .loops, .porches, .twn, .free] s (State.tripNow s die temp) := by
  unfold State.tripNow
  extract_lets
  with_reducible refine SameBut.ite ?_ ?_
  with_reducible exact SameBut.refl _ _
  with_reducible refine (State.faultOn_frame _ _ _).after (by decide) ?_
  with_reducible refine (State.faultOn_frame _ _ _).after (by decide) ?_
  with_reducible refine (State.recordThermal_frame _ _ _ _ _).after (by decide) ?_
  with_reducible refine (State.fatal_frame _).after (by decide) ?_
  with_reducible refine (SameBut.boot_thm_frame _ _ _).after (by decide) ?_
  with_reducible exact SameBut.refl _ _

theorem State.ladder_frame (s : State) :
    SameBut [.hrt, .pins, .boot, .thm, .att, .regs, .events, .loops, .porches, .twn, .free] s (State.ladder s) := by
  unfold State.ladder
  extract_lets
  with_reducible refine SameBut.ite ?_ ?_
  with_reducible exact SameBut.refl _ _
  with_reducible refine SameBut.ite ?_ ?_
  with_reducible refine SameBut.trans ?_ (State.inTick_frame _ _ (fun _ => ?_) (by decide))
  with_reducible refine SameBut.ite ?_ ?_
  with_reducible refine SameBut.trans ?_ (State.inTick_frame _ _ (fun _ => ?_) (by decide))
  with_reducible refine SameBut.ite ?_ ?_
  with_reducible refine (State.enterShed_frame _ _ _).after (by decide) ?_
  with_reducible exact SameBut.refl _ _
  with_reducible exact SameBut.refl _ _
  with_reducible refine (State.enterWithdraw_frame _ _ _).after (by decide) ?_
  with_reducible exact SameBut.refl _ _
  with_reducible refine SameBut.ite ?_ ?_
  with_reducible refine (SameBut.thm_frame _ _).after (by decide) ?_
  with_reducible refine SameBut.ite ?_ ?_
  with_reducible refine (State.enterShed_frame _ _ _).after (by decide) ?_
  with_reducible exact SameBut.refl _ _
  with_reducible exact SameBut.refl _ _
  with_reducible refine SameBut.ite ?_ ?_
  with_reducible refine (State.enterShed_frame _ _ _).after (by decide) ?_
  with_reducible exact SameBut.refl _ _
  with_reducible exact SameBut.refl _ _
  with_reducible refine (State.tripNow_frame _ _ _).after (by decide) ?_
  with_reducible exact SameBut.refl _ _
  with_reducible refine SameBut.ite ?_ ?_
  with_reducible refine SameBut.trans ?_ (State.inTick_frame _ _ (fun _ => ?_) (by decide))
  with_reducible refine SameBut.ite ?_ ?_
  with_reducible refine (State.enterShed_frame _ _ _).after (by decide) ?_
  with_reducible exact SameBut.refl _ _
  with_reducible exact SameBut.refl _ _
  with_reducible refine (State.enterWithdraw_frame _ _ _).after (by decide) ?_
  with_reducible exact SameBut.refl _ _
  with_reducible refine SameBut.ite ?_ ?_
  with_reducible refine (SameBut.thm_frame _ _).after (by decide) ?_
  with_reducible refine SameBut.ite ?_ ?_
  with_reducible refine (State.enterShed_frame _ _ _).after (by decide) ?_
  with_reducible exact SameBut.refl _ _
  with_reducible exact SameBut.refl _ _
  with_reducible refine SameBut.ite ?_ ?_
  with_reducible refine (State.enterShed_frame _ _ _).after (by decide) ?_
  with_reducible exact SameBut.refl _ _
  with_reducible exact SameBut.refl _ _

theorem State.maxTempReg_frame (s : State) (d : Nat) (t : Int) :
    SameBut [.regs] s (State.maxTempReg s d t) := by
  unfold State.maxTempReg
  with_reducible refine SameBut.ite ?_ ?_
  with_reducible refine (State.setField_frame _ _ _ _ _).after (by decide) ?_
  with_reducible exact SameBut.refl _ _
  with_reducible exact SameBut.refl _ _

theorem State.powerTick_frame (s : State) (jobW : List (Nat × Nat)) :
    SameBut [.thm, .events] s (State.powerTick s jobW) := by
  unfold State.powerTick
  extract_lets
  with_reducible refine SameBut.ite ?_ ?_
  with_reducible refine (State.raise_frame _ _ _ _ _).after (by decide) ?_
  with_reducible refine (SameBut.thm_frame _ _).after (by decide) ?_
  with_reducible exact SameBut.refl _ _
  with_reducible refine (SameBut.thm_frame _ _).after (by decide) ?_
  with_reducible exact SameBut.refl _ _

theorem State.thermTick_frame (s : State) (x : TickIn) (from_ : Nat) :
    SameBut [.hrt, .pins, .boot, .thm, .att, .regs, .events, .loops, .porches, .twn, .free] s (State.thermTick s x from_) := by
  unfold State.thermTick
  extract_lets
  with_reducible refine SameBut.ite ?_ ?_
  with_reducible exact SameBut.refl _ _
  with_reducible refine (State.powerTick_frame _ _).after (by decide) ?_
  with_reducible refine (State.clearShed_frame _ _).after (by decide) ?_
  with_reducible refine (State.endStep_frame _ _).after (by decide) ?_
  with_reducible refine (State.ladder_frame _).after (by decide) ?_
  with_reducible refine (State.detectStep_frame _ _).after (by decide) ?_
  with_reducible refine (State.maxField_frame _ _ _ _ _).after (by decide) ?_
  with_reducible refine (SameBut.thm_frame _ _).after (by decide) ?_
  with_reducible refine SameBut.each (fun _ _ => ?_) ?_ _
  with_reducible refine (State.maxTempReg_frame _ _ _).after (by decide) ?_
  with_reducible refine (State.updDie_frame _ _ _).after (by decide) ?_
  with_reducible exact SameBut.refl _ _
  with_reducible exact SameBut.refl _ _

theorem State.bootCup_frame (s : State) :
    SameBut [.mem, .upd, .flash] s (State.bootCup s) := by
  unfold State.bootCup
  extract_lets v1 v2 v3
  with_reducible refine SameBut.foldl (fun _ _ => ?_) ?_ _
  with_reducible refine (State.takeSpare_frame _ _ _).after (by decide) ?_
  with_reducible exact SameBut.refl _ _
  with_reducible refine (SameBut.mem_frame _ _).after (by decide) ?_
  extract_lets
  dsimp only [v3]
  split
  with_reducible refine (SameBut.upd_frame _ _).after (by decide) ?_
  with_reducible exact SameBut.refl _ _
  with_reducible refine (State.restoreCup_frame _ _).after (by decide) ?_
  with_reducible exact SameBut.refl _ _

theorem State.bootFallback_frame (s : State) :
    SameBut [.att, .upd, .flash] s (State.bootFallback s) := by
  unfold State.bootFallback
  split
  with_reducible refine (State.recordFallback_frame _ _ _).after (by decide) ?_
  with_reducible refine (SameBut.upd_flash_frame _ _ _).after (by decide) ?_
  with_reducible refine (State.setFwSlot_frame _ _ _).after (by decide) ?_
  with_reducible exact SameBut.refl _ _
  with_reducible exact SameBut.refl _ _

theorem State.trySlot_frame (s : State) (i : Nat) : SameBut [.att, .flash] s (s.trySlot i).1 := by
  unfold State.trySlot
  extract_lets f
  split
  · exact SameBut.refl _ _
  · exact (State.record_frame _ _ _ _ _).after (by decide) ((State.setFwSlot_frame _ _ _).mono (by decide))

theorem State.chooseSlot_frame (s : State) :
    SameBut [.pins, .att, .regs, .events, .upd, .flash] s (State.chooseSlot s) := by
  unfold State.chooseSlot
  extract_lets
  with_reducible refine SameBut.ite ?_ ?_
  with_reducible refine (SameBut.att_upd_frame _ _ _).after (by decide) ?_
  with_reducible refine (State.trySlot_frame _ _).after (by decide) ?_
  with_reducible exact SameBut.refl _ _
  with_reducible refine SameBut.ite ?_ ?_
  with_reducible refine (SameBut.att_upd_frame _ _ _).after (by decide) ?_
  with_reducible refine (State.trySlot_frame _ _).after (by decide) ?_
  with_reducible refine (State.trySlot_frame _ _).after (by decide) ?_
  with_reducible exact SameBut.refl _ _
  with_reducible refine (State.faultOn_frame _ _ _).after (by decide) ?_
  with_reducible refine (State.raise_frame _ _ _ _ _).after (by decide) ?_
  with_reducible refine (SameBut.att_upd_frame _ _ _).after (by decide) ?_
  with_reducible refine (State.trySlot_frame _ _).after (by decide) ?_
  with_reducible refine (State.trySlot_frame _ _).after (by decide) ?_
  with_reducible exact SameBut.refl _ _

theorem State.lostAtBoot_frame (s : State) (d : Nat) :
    SameBut [.att, .events, .til, .mem] s (State.lostAtBoot s d) := by
  unfold State.lostAtBoot
  with_reducible refine (State.loseDevice_frame _ _).after (by decide) ?_
  with_reducible refine (State.updDev_frame _ _ _).after (by decide) ?_
  with_reducible exact SameBut.refl _ _

theorem State.startBoot_frame (s : State) :
    SameBut [.pins, .boot, .att, .regs, .events, .mem, .upd, .flash] s (State.startBoot s) := by
  unfold State.startBoot
  extract_lets
  with_reducible refine (State.bootCup_frame _).after (by decide) ?_
  with_reducible refine (State.chooseSlot_frame _).after (by decide) ?_
  with_reducible refine (State.bootFallback_frame _).after (by decide) ?_
  with_reducible refine (SameBut.boot_att_frame _ _ _).after (by decide) ?_
  with_reducible exact SameBut.refl _ _

theorem State.wholeReset_frame (s : State) :
    SameBut [.hrt, .pins, .boot, .thm, .seats, .taken, .port, .att, .regs, .live, .staged, .events, .later, .ops, .loops, .eng, .plan, .mov, .est, .porches, .cages, .lanes, .cals, .twn, .til, .mem, .shelves, .pantryRetired, .upd, .flash, .ram, .readData, .free] s (State.wholeReset s) := by
  intro p hp
  cases p <;> first | rfl | exact absurd (by decide) hp

theorem State.tripStop_frame (s : State) :
    SameBut [.pins, .boot, .porches] s (State.tripStop s) := by
  unfold State.tripStop
  extract_lets
  with_reducible refine SameBut.each (fun _ _ => ?_) ?_ _
  with_reducible refine (State.updPorch_frame _ _ _).after (by decide) ?_
  with_reducible exact SameBut.refl _ _
  with_reducible refine (SameBut.pins_boot_frame _ _ _).after (by decide) ?_
  with_reducible exact SameBut.refl _ _

theorem State.stopTick_frame (s : State) :
    SameBut [.pins, .boot, .porches] s (State.stopTick s) := by
  unfold State.stopTick
  with_reducible refine SameBut.ite ?_ ?_
  with_reducible refine (State.tripStop_frame _).after (by decide) ?_
  with_reducible exact SameBut.refl _ _
  with_reducible exact SameBut.refl _ _

theorem execFaultClear_frame (mask : BitVec 13) (s : State) :
    Frames [.pins, .regs] s (execFaultClear mask s) := by
  unfold execFaultClear
  extract_lets
  with_reducible refine Frames.next ?_
  with_reducible refine (SameBut.pins_frame _ _).after (by decide) ?_
  with_reducible refine SameBut.foldl (fun _ _ => ?_) ?_ _
  with_reducible refine (State.setField_frame _ _ _ _ _).after (by decide) ?_
  with_reducible exact SameBut.refl _ _
  with_reducible exact SameBut.refl _ _

theorem execConfigurationReady_frame (ms : BitVec 32) (badDevs : List (Fin 16)) (badHops : List (Fin 5)) (s : State) :
    Frames [.boot, .att, .events, .loops, .plan, .porches, .til, .mem] s (execConfigurationReady ms badDevs badHops s) := by
  unfold execConfigurationReady
  extract_lets
  with_reducible refine Frames.ite ?_ ?_
  with_reducible refine Frames.next ?_
  with_reducible exact SameBut.refl _ _
  with_reducible refine Frames.next ?_
  with_reducible refine SameBut.each (fun _ _ => ?_) ?_ _
  with_reducible refine (State.downHop_frame _ _).after (by decide) ?_
  with_reducible exact SameBut.refl _ _
  with_reducible refine SameBut.each (fun _ _ => ?_) ?_ _
  with_reducible refine (State.lostAtBoot_frame _ _).after (by decide) ?_
  with_reducible exact SameBut.refl _ _
  with_reducible refine SameBut.each (fun _ _ => ?_) ?_ _
  with_reducible refine (State.updPorch_frame _ _ _).after (by decide) ?_
  with_reducible exact SameBut.refl _ _
  with_reducible refine (SameBut.boot_frame _ _).after (by decide) ?_
  with_reducible exact SameBut.refl _ _

theorem execIodSupplyFault_frame (s : State) :
    Frames [.hrt, .pins, .boot, .thm, .seats, .taken, .port, .att, .regs, .live, .staged, .events, .later, .ops, .loops, .eng, .plan, .mov, .est, .porches, .cages, .lanes, .cals, .twn, .til, .mem, .shelves, .pantryRetired, .upd, .flash, .ram, .readData, .free] s (execIodSupplyFault s) := by
  unfold execIodSupplyFault
  extract_lets
  with_reducible refine Frames.next ?_
  with_reducible refine (SameBut.boot_frame _ _).after (by decide) ?_
  with_reducible refine (State.wholeReset_frame _).after (by decide) ?_
  with_reducible exact SameBut.refl _ _

theorem execIodSupplyReturn_frame (s : State) :
    Frames [.pins, .boot, .att, .regs, .events, .mem, .upd, .flash] s (execIodSupplyReturn s) := by
  unfold execIodSupplyReturn
  extract_lets
  with_reducible refine Frames.ite ?_ ?_
  with_reducible refine Frames.next ?_
  with_reducible refine SameBut.ite ?_ ?_
  with_reducible refine (State.startBoot_frame _).after (by decide) ?_
  with_reducible refine (SameBut.boot_frame _ _).after (by decide) ?_
  with_reducible exact SameBut.refl _ _
  with_reducible refine (SameBut.boot_frame _ _).after (by decide) ?_
  with_reducible exact SameBut.refl _ _
  with_reducible refine Frames.next ?_
  with_reducible exact SameBut.refl _ _

theorem execPorAssert_frame (s : State) :
    Frames [.hrt, .pins, .boot, .thm, .seats, .taken, .port, .att, .regs, .live, .staged, .events, .later, .ops, .loops, .eng, .plan, .mov, .est, .porches, .cages, .lanes, .cals, .twn, .til, .mem, .shelves, .pantryRetired, .upd, .flash, .ram, .readData, .free] s (execPorAssert s) := by
  unfold execPorAssert
  extract_lets
  with_reducible refine Frames.next ?_
  with_reducible refine (SameBut.pins_frame _ _).after (by decide) ?_
  with_reducible refine (State.wholeReset_frame _).after (by decide) ?_
  with_reducible exact SameBut.refl _ _

theorem execPorDeassert_frame (s : State) :
    Frames [.pins, .boot, .att, .regs, .events, .mem, .upd, .flash] s (execPorDeassert s) := by
  unfold execPorDeassert
  extract_lets
  with_reducible refine Frames.ite ?_ ?_
  with_reducible refine Frames.next ?_
  with_reducible refine (SameBut.pins_frame _ _).after (by decide) ?_
  with_reducible exact SameBut.refl _ _
  with_reducible refine Frames.next ?_
  with_reducible refine (State.startBoot_frame _).after (by decide) ?_
  with_reducible refine (SameBut.pins_frame _ _).after (by decide) ?_
  with_reducible exact SameBut.refl _ _

theorem execShedClear_frame (s : State) :
    Frames [.thm, .events] s (execShedClear s) := by
  unfold execShedClear
  with_reducible refine Frames.next ?_
  with_reducible refine (State.clearShed_frame _ _).after (by decide) ?_
  with_reducible exact SameBut.refl _ _

theorem execStepEnd_frame (s : State) :
    Frames [.thm, .events] s (execStepEnd s) := by
  unfold execStepEnd
  with_reducible refine Frames.next ?_
  with_reducible refine (State.endStep_frame _ _).after (by decide) ?_
  with_reducible exact SameBut.refl _ _

theorem execSupplyFail_frame (die : Fin 4) (s : State) :
    Frames [.pins, .thm, .att, .regs, .events, .loops, .plan, .til] s (execSupplyFail die s) := by
  unfold execSupplyFail
  extract_lets
  with_reducible refine Frames.ite ?_ ?_
  with_reducible refine Frames.next ?_
  with_reducible exact SameBut.refl _ _
  with_reducible refine Frames.next ?_
  with_reducible refine (State.faultOn_frame _ _ _).after (by decide) ?_
  with_reducible refine (State.raise_frame _ _ _ _ _).after (by decide) ?_
  with_reducible refine (State.loseDie_frame _ _).after (by decide) ?_
  with_reducible refine (State.updDie_frame _ _ _).after (by decide) ?_
  with_reducible exact SameBut.refl _ _

theorem execTrip_frame (die : Fin 5) (temp : BitVec 16) (s : State) :
    Frames [.hrt, .pins, .boot, .thm, .att, .regs, .events, .loops, .porches, .twn, .free] s (execTrip die temp s) := by
  unfold execTrip
  with_reducible refine Frames.ite ?_ ?_
  with_reducible refine Frames.next ?_
  with_reducible refine (State.tripNow_frame _ _ _).after (by decide) ?_
  with_reducible exact SameBut.refl _ _
  with_reducible refine Frames.next ?_
  with_reducible exact SameBut.refl _ _

theorem execTripStop_frame (s : State) :
    Frames [.pins, .boot, .porches] s (execTripStop s) := by
  unfold execTripStop
  with_reducible refine Frames.ite ?_ ?_
  with_reducible refine Frames.next ?_
  with_reducible refine (State.tripStop_frame _).after (by decide) ?_
  with_reducible exact SameBut.refl _ _
  with_reducible refine Frames.next ?_
  with_reducible exact SameBut.refl _ _

end Sys2Proof.Machine
end

