-- ==== Sys2Proof/Laws/Frame/Notices.lean ====
section
/-! SUPPORT. What the definitions of Machine/Notices.lean change of the state: one frame for each. -/
namespace Sys2Proof.Machine

theorem State.finishOrder_frame (s : State) (o : TakenOrder) :
    SameBut [.events, .ram] s (State.finishOrder s o) := by
  unfold State.finishOrder
  extract_lets
  with_reducible refine SameBut.ite ?_ ?_
  with_reducible exact SameBut.refl _ _
  with_reducible refine SameBut.ite ?_ ?_
  with_reducible refine (State.raiseRecord_frame _ _ _ _ _).after (by decide) ?_
  with_reducible refine (State.hallWrite_frame _ _ _ _).after (by decide) ?_
  with_reducible exact SameBut.refl _ _
  with_reducible refine (State.hallWrite_frame _ _ _ _).after (by decide) ?_
  with_reducible exact SameBut.refl _ _

theorem State.finishOrders_frame (s : State) :
    SameBut [.taken, .events, .ram] s (State.finishOrders s) := by
  unfold State.finishOrders
  extract_lets
  with_reducible refine (SameBut.taken_frame _ _).after (by decide) ?_
  with_reducible refine SameBut.foldl (fun _ _ => ?_) ?_ _
  with_reducible refine (State.finishOrder_frame _ _).after (by decide) ?_
  with_reducible exact SameBut.refl _ _
  with_reducible exact SameBut.refl _ _

theorem State.sendMsix_frame (s : State) (i : Nat) (srcs : List Nat) :
    SameBut [.port, .regs] s (State.sendMsix s i srcs) := by
  unfold State.sendMsix
  extract_lets
  with_reducible refine (SameBut.port_frame _ _).after (by decide) ?_
  with_reducible refine (State.setReg_frame _ _ _).after (by decide) ?_
  with_reducible exact SameBut.refl _ _

theorem State.setEvt_frame (s : State) (e : Event) :
    SameBut [.regs] s (State.setEvt s e) := by
  unfold State.setEvt
  split
  with_reducible refine (State.setField_frame _ _ _ _ _).after (by decide) ?_
  with_reducible exact SameBut.refl _ _
  with_reducible exact SameBut.refl _ _

theorem State.writeNotice_frame (s : State) (i : Nat) (e : Event × Nat) :
    SameBut [.seats, .regs, .events, .ram] s (State.writeNotice s i e) := by
  unfold State.writeNotice
  extract_lets
  with_reducible refine SameBut.ite ?_ ?_
  with_reducible refine SameBut.ite ?_ ?_
  with_reducible refine (State.updSeat_frame _ _ _).after (by decide) ?_
  with_reducible refine (State.count_frame _ _ _ _ _).after (by decide) ?_
  with_reducible exact SameBut.refl _ _
  with_reducible refine (State.seatEvt_frame _ _ _).after (by decide) ?_
  with_reducible refine (State.updSeat_frame _ _ _).after (by decide) ?_
  with_reducible refine (State.count_frame _ _ _ _ _).after (by decide) ?_
  with_reducible exact SameBut.refl _ _
  with_reducible refine (State.updSeat_frame _ _ _).after (by decide) ?_
  with_reducible refine (State.hallWrite_frame _ _ _ _).after (by decide) ?_
  with_reducible exact SameBut.refl _ _

theorem State.flushNotices_frame (s : State) :
    SameBut [.seats, .port, .regs, .events, .later, .ram] s (State.flushNotices s) := by
  unfold State.flushNotices
  extract_lets
  with_reducible refine SameBut.ite ?_ ?_
  with_reducible refine SameBut.foldl (fun _ _ => ?_) ?_ _
  with_reducible refine (State.setEvt_frame _ _).after (by decide) ?_
  with_reducible exact SameBut.refl _ _
  with_reducible refine (SameBut.port_events_later_frame _ _ _ _).after (by decide) ?_
  with_reducible exact SameBut.refl _ _
  with_reducible refine SameBut.each (fun _ _ => ?_) ?_ _
  with_reducible refine SameBut.ite ?_ ?_
  with_reducible refine (State.sendMsix_frame _ _ _).after (by decide) ?_
  with_reducible refine SameBut.ite ?_ ?_
  with_reducible refine SameBut.foldl (fun _ _ => ?_) ?_ _
  with_reducible refine (State.writeNotice_frame _ _ _).after (by decide) ?_
  with_reducible exact SameBut.refl _ _
  with_reducible exact SameBut.refl _ _
  with_reducible refine (State.setReg_frame _ _ _).after (by decide) ?_
  with_reducible refine SameBut.foldl (fun _ _ => ?_) ?_ _
  with_reducible refine (State.writeNotice_frame _ _ _).after (by decide) ?_
  with_reducible exact SameBut.refl _ _
  with_reducible exact SameBut.refl _ _
  with_reducible refine SameBut.ite ?_ ?_
  with_reducible refine SameBut.foldl (fun _ _ => ?_) ?_ _
  with_reducible refine (State.writeNotice_frame _ _ _).after (by decide) ?_
  with_reducible exact SameBut.refl _ _
  with_reducible exact SameBut.refl _ _
  with_reducible refine (State.setReg_frame _ _ _).after (by decide) ?_
  with_reducible refine SameBut.foldl (fun _ _ => ?_) ?_ _
  with_reducible refine (State.writeNotice_frame _ _ _).after (by decide) ?_
  with_reducible exact SameBut.refl _ _
  with_reducible exact SameBut.refl _ _
  with_reducible refine SameBut.foldl (fun _ _ => ?_) ?_ _
  with_reducible refine (State.setEvt_frame _ _).after (by decide) ?_
  with_reducible exact SameBut.refl _ _
  with_reducible refine (SameBut.port_events_later_frame _ _ _ _).after (by decide) ?_
  with_reducible exact SameBut.refl _ _

theorem State.writePages_frame (s : State) :
    SameBut [.seats, .mov] s (State.writePages s) := by
  unfold State.writePages
  extract_lets
  with_reducible refine SameBut.ite ?_ ?_
  with_reducible exact SameBut.refl _ _
  with_reducible refine (SameBut.mov_frame _ _).after (by decide) ?_
  with_reducible refine SameBut.each (fun _ _ => ?_) ?_ _
  with_reducible refine (State.updSeat_frame _ _ _).after (by decide) ?_
  with_reducible exact SameBut.refl _ _
  with_reducible exact SameBut.refl _ _

theorem State.carryOrder_frame (s : State) (o : TakenOrder) :
    SameBut [.taken, .att, .events, .mov, .til, .mem] s (State.carryOrder s o) := by
  unfold State.carryOrder
  with_reducible refine SameBut.ite ?_ ?_
  with_reducible exact SameBut.refl _ _
  extract_lets
  split
  with_reducible refine (State.takeMove_frame _ _).after (by decide) ?_
  with_reducible exact SameBut.refl _ _
  with_reducible refine (State.startJob_frame _ _).after (by decide) ?_
  with_reducible exact SameBut.refl _ _
  with_reducible exact SameBut.refl _ _

theorem State.carryOrders_frame (s : State) :
    SameBut [.taken, .att, .events, .mov, .til, .mem] s (State.carryOrders s) := by
  unfold State.carryOrders
  with_reducible refine SameBut.foldl (fun _ _ => ?_) ?_ _
  with_reducible refine (State.carryOrder_frame _ _).after (by decide) ?_
  with_reducible exact SameBut.refl _ _
  with_reducible exact SameBut.refl _ _

end Sys2Proof.Machine
end

