-- ==== Sys2Proof/Laws/Frame/Regs.lean ====
section
/-! SUPPORT. What the definitions of Machine/Regs.lean change of the state: one frame for each. -/
namespace Sys2Proof.Machine

theorem State.clearRc_frame (s : State) (a : Nat) (w : Width) :
    SameBut [.regs] s (State.clearRc s a w) := by
  unfold State.clearRc
  extract_lets
  with_reducible refine (State.setReg_frame _ _ _).after (by decide) ?_
  with_reducible exact SameBut.refl _ _

theorem State.readEnd_frame (s : State) (a : Nat) (w : Width) :
    SameBut [.til] s (State.readEnd s a w) := by
  unfold State.readEnd
  extract_lets
  with_reducible refine SameBut.ite ?_ ?_
  with_reducible refine (State.updJob_frame _ _ _).after (by decide) ?_
  with_reducible exact SameBut.refl _ _
  with_reducible exact SameBut.refl _ _

theorem State.returnReg_frame (s : State) (a : Nat) (w : Width) (cycle : Nat) :
    SameBut [.readData] s (State.returnReg s a w cycle) := by
  unfold State.returnReg
  with_reducible refine (SameBut.readData_frame _ _).after (by decide) ?_
  with_reducible exact SameBut.refl _ _

theorem State.readTime_frame (s : State) (a : Nat) (w : Width) (cycle : Nat) :
    SameBut [.regs, .readData] s (State.readTime s a w cycle) := by
  unfold State.readTime
  extract_lets
  split
  with_reducible refine (State.setReg_frame _ _ _).after (by decide) ?_
  with_reducible refine (State.returnReg_frame _ _ _ _).after (by decide) ?_
  with_reducible exact SameBut.refl _ _
  with_reducible refine (State.returnReg_frame _ _ _ _).after (by decide) ?_
  with_reducible exact SameBut.refl _ _

theorem State.readAt_frame (s : State) (seat o : Nat) (w : Width) (cycle : Nat) :
    Frames [.regs, .events, .plan, .til, .shelves, .pantryRetired, .readData] s (State.readAt s seat o w cycle) := by
  unfold State.readAt
  extract_lets
  with_reducible refine Frames.ite ?_ ?_
  with_reducible exact Frames.fault _ _ _
  extract_lets
  split
  with_reducible refine Frames.next ?_
  with_reducible refine (SameBut.readData_frame _ _).after (by decide) ?_
  with_reducible exact SameBut.refl _ _
  with_reducible refine Frames.ite ?_ ?_
  with_reducible refine (execTableWindowAccess_frame _ _ _ _).after (by decide) ?_
  with_reducible exact SameBut.refl _ _
  with_reducible refine Frames.ite ?_ ?_
  with_reducible refine (execShelfPop_frame _ _ _ _ _).after (by decide) ?_
  with_reducible exact SameBut.refl _ _
  with_reducible refine Frames.ite ?_ ?_
  with_reducible refine (execShelfPop_frame _ _ _ _ _).after (by decide) ?_
  with_reducible exact SameBut.refl _ _
  with_reducible refine Frames.next ?_
  with_reducible refine (State.readEnd_frame _ _ _).after (by decide) ?_
  with_reducible refine (State.clearRc_frame _ _ _).after (by decide) ?_
  with_reducible refine (State.readTime_frame _ _ _ _).after (by decide) ?_
  with_reducible exact SameBut.refl _ _

theorem State.sideWrite_frame (s : State) (seat v : Nat) :
    SameBut [.regs, .staged, .events] s (State.sideWrite s seat v) := by
  unfold State.sideWrite
  with_reducible refine SameBut.ite ?_ ?_
  with_reducible refine (State.seatEvt_frame _ _ _).after (by decide) ?_
  with_reducible exact SameBut.refl _ _
  with_reducible refine (SameBut.staged_frame _ _).after (by decide) ?_
  with_reducible exact SameBut.refl _ _

theorem State.storeReg_frame (s : State) (a m : Nat) (x : Word) :
    SameBut [.regs] s (State.storeReg s a m x) := by
  unfold State.storeReg
  extract_lets
  with_reducible refine (State.setReg_frame _ _ _).after (by decide) ?_
  with_reducible exact SameBut.refl _ _

theorem attWrite_frame (a : Nat) (x : Word) (s : State) :
    Frames [.ops] s (attWrite a x s) := by
  unfold attWrite
  with_reducible refine Frames.ite ?_ ?_
  extract_lets
  split
  with_reducible refine (execAtticRead_frame _).after (by decide) ?_
  with_reducible exact SameBut.refl _ _
  with_reducible refine (execAtticCancel_frame _).after (by decide) ?_
  with_reducible exact SameBut.refl _ _
  with_reducible refine Frames.next ?_
  with_reducible exact SameBut.refl _ _
  with_reducible refine Frames.next ?_
  with_reducible exact SameBut.refl _ _

theorem lnhWrite_frame (a m : Nat) (x : Word) (s : State) :
    Frames [.lanes, .cals] s (lnhWrite a m x s) := by
  unfold lnhWrite
  extract_lets
  with_reducible refine Frames.ite ?_ ?_
  extract_lets
  split
  with_reducible refine Frames.ite ?_ ?_
  with_reducible refine (execBaselineWrite_frame _ _ _ _).after (by decide) ?_
  with_reducible exact SameBut.refl _ _
  with_reducible refine Frames.next ?_
  with_reducible exact SameBut.refl _ _
  with_reducible refine Frames.next ?_
  with_reducible exact SameBut.refl _ _
  with_reducible refine Frames.ite ?_ ?_
  extract_lets
  split
  with_reducible refine (execCalNow_frame _ _ _).after (by decide) ?_
  with_reducible exact SameBut.refl _ _
  with_reducible refine (execRestore_frame _ _ _).after (by decide) ?_
  with_reducible exact SameBut.refl _ _
  with_reducible refine (execLaneReturn_frame _ _ _).after (by decide) ?_
  with_reducible exact SameBut.refl _ _
  with_reducible refine (execCalAbort_frame _ _).after (by decide) ?_
  with_reducible exact SameBut.refl _ _
  with_reducible refine Frames.next ?_
  with_reducible exact SameBut.refl _ _
  with_reducible refine Frames.next ?_
  with_reducible exact SameBut.refl _ _

theorem loopWrite_frame (a m : Nat) (x : Word) (s : State) :
    Frames [.ops, .loops] s (loopWrite a m x s) := by
  unfold loopWrite
  extract_lets
  with_reducible refine Frames.ite ?_ ?_
  extract_lets
  split
  with_reducible refine (execLoopCtlStart_frame _ _).after (by decide) ?_
  with_reducible exact SameBut.refl _ _
  with_reducible refine (execLoopCtlOff_frame _ _).after (by decide) ?_
  with_reducible exact SameBut.refl _ _
  with_reducible refine (execLoopCtlFreeze_frame _ _).after (by decide) ?_
  with_reducible exact SameBut.refl _ _
  with_reducible refine (execLoopCtlRelease_frame _ _).after (by decide) ?_
  with_reducible exact SameBut.refl _ _
  with_reducible refine Frames.next ?_
  with_reducible exact SameBut.refl _ _
  with_reducible refine Frames.ite ?_ ?_
  with_reducible refine (execSetpointWrite_frame _ _ _).after (by decide) ?_
  with_reducible exact SameBut.refl _ _
  with_reducible refine Frames.next ?_
  with_reducible exact SameBut.refl _ _

theorem movWrite_frame (a m : Nat) (x : Word) (s : State) :
    Frames [.taken, .regs, .events, .later, .ops, .loops, .mov, .ram] s (movWrite a m x s) := by
  unfold movWrite
  extract_lets
  with_reducible refine Frames.ite ?_ ?_
  extract_lets
  split
  with_reducible refine (execAbort_frame _ _).after (by decide) ?_
  with_reducible refine SameBut.ite ?_ ?_
  with_reducible exact SameBut.refl _ _
  with_reducible refine (State.setField_frame _ _ _ _ _).after (by decide) ?_
  with_reducible exact SameBut.refl _ _
  with_reducible refine (execRearm_frame _ _).after (by decide) ?_
  with_reducible refine SameBut.ite ?_ ?_
  with_reducible exact SameBut.refl _ _
  with_reducible refine (State.setField_frame _ _ _ _ _).after (by decide) ?_
  with_reducible exact SameBut.refl _ _
  with_reducible refine (execRearmAll_frame _).after (by decide) ?_
  with_reducible refine SameBut.ite ?_ ?_
  with_reducible exact SameBut.refl _ _
  with_reducible refine (State.setField_frame _ _ _ _ _).after (by decide) ?_
  with_reducible exact SameBut.refl _ _
  with_reducible refine Frames.next ?_
  with_reducible refine SameBut.ite ?_ ?_
  with_reducible exact SameBut.refl _ _
  with_reducible refine (State.setField_frame _ _ _ _ _).after (by decide) ?_
  with_reducible exact SameBut.refl _ _
  with_reducible refine Frames.next ?_
  with_reducible exact SameBut.refl _ _

theorem pchWrite_frame (a : Nat) (x : Word) (s : State) :
    Frames [.porches] s (pchWrite a x s) := by
  unfold pchWrite
  extract_lets
  with_reducible refine Frames.ite ?_ ?_
  extract_lets
  split
  with_reducible refine (execRediscover_frame _ _).after (by decide) ?_
  with_reducible exact SameBut.refl _ _
  with_reducible refine (execHeadReset_frame _ _).after (by decide) ?_
  with_reducible exact SameBut.refl _ _
  with_reducible refine (execEchoNow_frame _ _).after (by decide) ?_
  with_reducible exact SameBut.refl _ _
  with_reducible refine Frames.next ?_
  with_reducible exact SameBut.refl _ _
  with_reducible refine Frames.next ?_
  with_reducible exact SameBut.refl _ _

theorem plnWrite_frame (a : Nat) (x : Word) (s : State) :
    Frames [.ops] s (plnWrite a x s) := by
  unfold plnWrite
  with_reducible refine Frames.ite ?_ ?_
  extract_lets
  split
  with_reducible refine (execPlanValidate_frame _).after (by decide) ?_
  with_reducible exact SameBut.refl _ _
  with_reducible refine (execPlanCommit_frame _ _).after (by decide) ?_
  with_reducible exact SameBut.refl _ _
  with_reducible refine (execPlanCancel_frame _).after (by decide) ?_
  with_reducible exact SameBut.refl _ _
  with_reducible refine Frames.next ?_
  with_reducible exact SameBut.refl _ _
  with_reducible refine Frames.ite ?_ ?_
  extract_lets
  split
  with_reducible refine (execTableClaim_frame _ _).after (by decide) ?_
  with_reducible exact SameBut.refl _ _
  with_reducible refine (execTableReady_frame _).after (by decide) ?_
  with_reducible exact SameBut.refl _ _
  with_reducible refine (execTableRelease_frame _).after (by decide) ?_
  with_reducible exact SameBut.refl _ _
  with_reducible refine (execTableSwap_frame _).after (by decide) ?_
  with_reducible exact SameBut.refl _ _
  with_reducible refine (execTableRevert_frame _).after (by decide) ?_
  with_reducible exact SameBut.refl _ _
  with_reducible refine Frames.next ?_
  with_reducible exact SameBut.refl _ _
  with_reducible refine Frames.next ?_
  with_reducible exact SameBut.refl _ _

theorem seatWrite_frame (seat a : Nat) (x : Word) (s : State) :
    Frames [.ops] s (seatWrite seat a x s) := by
  unfold seatWrite
  with_reducible refine Frames.ite ?_ ?_
  with_reducible refine (execFeatureCommit_frame _ _).after (by decide) ?_
  with_reducible exact SameBut.refl _ _
  with_reducible refine Frames.next ?_
  with_reducible exact SameBut.refl _ _

theorem shfWrite_frame (a : Nat) (x : Word) (s : State) :
    Frames [.regs, .events, .shelves] s (shfWrite a x s) := by
  unfold shfWrite
  extract_lets
  with_reducible refine Frames.ite ?_ ?_
  extract_lets
  split
  with_reducible refine (execFlush_frame _ _).after (by decide) ?_
  with_reducible exact SameBut.refl _ _
  with_reducible refine (execEmpty_frame _ _).after (by decide) ?_
  with_reducible exact SameBut.refl _ _
  with_reducible refine Frames.next ?_
  with_reducible exact SameBut.refl _ _
  with_reducible refine Frames.next ?_
  with_reducible exact SameBut.refl _ _

theorem tilWrite_frame (a : Nat) (x : Word) (s : State) :
    Frames [.taken, .regs, .til, .ram] s (tilWrite a x s) := by
  unfold tilWrite
  extract_lets
  with_reducible refine Frames.ite ?_ ?_
  extract_lets
  split
  with_reducible refine (execJobPark_frame _ _ _).after (by decide) ?_
  with_reducible exact SameBut.refl _ _
  with_reducible refine (execJobResume_frame _ _ _).after (by decide) ?_
  with_reducible exact SameBut.refl _ _
  with_reducible refine (execJobStop_frame _ _ _).after (by decide) ?_
  with_reducible exact SameBut.refl _ _
  with_reducible refine Frames.next ?_
  with_reducible exact SameBut.refl _ _
  with_reducible refine Frames.next ?_
  with_reducible exact SameBut.refl _ _

theorem trcWrite_frame (a : Nat) (x : Word) (s : State) :
    Frames [.ops, .eng] s (trcWrite a x s) := by
  unfold trcWrite
  extract_lets
  with_reducible refine Frames.ite ?_ ?_
  with_reducible refine Frames.ite ?_ ?_
  with_reducible refine (execReleaseAll_frame _ _).after (by decide) ?_
  with_reducible exact SameBut.refl _ _
  with_reducible refine Frames.next ?_
  with_reducible exact SameBut.refl _ _
  with_reducible refine Frames.ite ?_ ?_
  extract_lets
  split
  with_reducible refine (execDescLoad_frame _).after (by decide) ?_
  with_reducible exact SameBut.refl _ _
  with_reducible refine (execDescWrite_frame _).after (by decide) ?_
  with_reducible exact SameBut.refl _ _
  with_reducible refine (execDescCancel_frame _).after (by decide) ?_
  with_reducible exact SameBut.refl _ _
  with_reducible refine Frames.next ?_
  with_reducible exact SameBut.refl _ _
  with_reducible refine Frames.ite ?_ ?_
  with_reducible refine Frames.ite ?_ ?_
  with_reducible refine Frames.next ?_
  with_reducible exact SameBut.refl _ _
  with_reducible refine (execClrCount_frame _ _).after (by decide) ?_
  with_reducible exact SameBut.refl _ _
  with_reducible refine Frames.ite ?_ ?_
  with_reducible refine Frames.next ?_
  with_reducible refine (State.updChan_frame _ _ _).after (by decide) ?_
  with_reducible exact SameBut.refl _ _
  with_reducible refine Frames.next ?_
  with_reducible exact SameBut.refl _ _

theorem twnWrite_frame (seat a m : Nat) (x : Word) (s : State) :
    Frames [.regs, .staged, .events, .ops] s (twnWrite seat a m x s) := by
  unfold twnWrite
  extract_lets
  with_reducible refine Frames.ite ?_ ?_
  with_reducible refine Frames.ite ?_ ?_
  with_reducible refine (execRejoin_frame _).after (by decide) ?_
  with_reducible refine (State.sideWrite_frame _ _ _).after (by decide) ?_
  with_reducible exact SameBut.refl _ _
  with_reducible refine Frames.next ?_
  with_reducible refine (State.sideWrite_frame _ _ _).after (by decide) ?_
  with_reducible exact SameBut.refl _ _
  with_reducible refine Frames.next ?_
  with_reducible exact SameBut.refl _ _

theorem updWrite_frame (a : Nat) (x : Word) (s : State) :
    Frames [.ops] s (updWrite a x s) := by
  unfold updWrite
  with_reducible refine Frames.ite ?_ ?_
  extract_lets
  split
  with_reducible refine (execStage_frame _ _).after (by decide) ?_
  with_reducible exact SameBut.refl _ _
  with_reducible refine (execActivate_frame _ _).after (by decide) ?_
  with_reducible exact SameBut.refl _ _
  with_reducible refine (execUpdateCancel_frame _).after (by decide) ?_
  with_reducible exact SameBut.refl _ _
  with_reducible refine (execConfirm_frame _).after (by decide) ?_
  with_reducible exact SameBut.refl _ _
  with_reducible refine (execFallback_frame _).after (by decide) ?_
  with_reducible exact SameBut.refl _ _
  with_reducible refine (execEnrollKey_frame _).after (by decide) ?_
  with_reducible exact SameBut.refl _ _
  with_reducible refine (execRevokeKey_frame _).after (by decide) ?_
  with_reducible exact SameBut.refl _ _
  with_reducible refine Frames.next ?_
  with_reducible exact SameBut.refl _ _
  with_reducible refine Frames.next ?_
  with_reducible exact SameBut.refl _ _

theorem opWrite_frame (seat a m : Nat) (x : Word) (s : State) :
    Frames [.pins, .taken, .regs, .staged, .events, .later, .ops, .loops, .eng, .mov, .porches, .lanes, .cals, .til, .mem, .shelves, .ram] s (opWrite seat a m x s) := by
  unfold opWrite
  with_reducible refine Frames.ite ?_ ?_
  with_reducible refine (seatWrite_frame _ _ _ _).after (by decide) ?_
  with_reducible exact SameBut.refl _ _
  with_reducible refine Frames.ite ?_ ?_
  with_reducible refine (loopWrite_frame _ _ _ _).after (by decide) ?_
  with_reducible exact SameBut.refl _ _
  extract_lets
  split
  with_reducible refine Frames.ite ?_ ?_
  with_reducible refine (execEpochArm_frame _).after (by decide) ?_
  with_reducible exact SameBut.refl _ _
  with_reducible refine Frames.next ?_
  with_reducible exact SameBut.refl _ _
  with_reducible refine (plnWrite_frame _ _ _).after (by decide) ?_
  with_reducible exact SameBut.refl _ _
  with_reducible refine (movWrite_frame _ _ _ _).after (by decide) ?_
  with_reducible exact SameBut.refl _ _
  with_reducible refine (tilWrite_frame _ _ _).after (by decide) ?_
  with_reducible exact SameBut.refl _ _
  with_reducible refine Frames.ite ?_ ?_
  with_reducible refine (execCellarApply_frame _).after (by decide) ?_
  with_reducible exact SameBut.refl _ _
  with_reducible refine Frames.next ?_
  with_reducible exact SameBut.refl _ _
  with_reducible refine (shfWrite_frame _ _ _).after (by decide) ?_
  with_reducible exact SameBut.refl _ _
  with_reducible refine (pchWrite_frame _ _ _).after (by decide) ?_
  with_reducible exact SameBut.refl _ _
  with_reducible refine (lnhWrite_frame _ _ _ _).after (by decide) ?_
  with_reducible exact SameBut.refl _ _
  with_reducible refine (twnWrite_frame _ _ _ _ _).after (by decide) ?_
  with_reducible exact SameBut.refl _ _
  with_reducible refine (updWrite_frame _ _ _).after (by decide) ?_
  with_reducible exact SameBut.refl _ _
  with_reducible refine (attWrite_frame _ _ _).after (by decide) ?_
  with_reducible exact SameBut.refl _ _
  with_reducible refine (trcWrite_frame _ _ _).after (by decide) ?_
  with_reducible exact SameBut.refl _ _
  with_reducible refine Frames.ite ?_ ?_
  with_reducible refine (execFaultClear_frame _ _).after (by decide) ?_
  with_reducible exact SameBut.refl _ _
  with_reducible refine Frames.next ?_
  with_reducible exact SameBut.refl _ _
  with_reducible refine Frames.next ?_
  with_reducible exact SameBut.refl _ _

theorem State.writeReg_frame (s : State) (seat a m : Nat) (x : Word) :
    Frames [.pins, .taken, .regs, .staged, .events, .later, .ops, .loops, .eng, .mov, .porches, .lanes, .cals, .til, .mem, .shelves, .ram] s (State.writeReg s seat a m x) := by
  unfold State.writeReg
  with_reducible refine Frames.ite ?_ ?_
  with_reducible refine Frames.next ?_
  with_reducible refine (State.storeReg_frame _ _ _ _).after (by decide) ?_
  with_reducible exact SameBut.refl _ _
  with_reducible refine Frames.ite ?_ ?_
  with_reducible refine Frames.next ?_
  with_reducible exact SameBut.refl _ _
  with_reducible refine Frames.ite ?_ ?_
  with_reducible refine (opWrite_frame _ _ _ _ _).after (by decide) ?_
  with_reducible exact SameBut.refl _ _
  with_reducible refine (opWrite_frame _ _ _ _ _).after (by decide) ?_
  with_reducible refine (State.storeReg_frame _ _ _ _).after (by decide) ?_
  with_reducible exact SameBut.refl _ _

theorem execRcRead_frame (seat : BitVec 3) (offset : BitVec 22) (w : Width) (s : State) :
    Frames [.regs, .events, .plan, .til, .shelves, .pantryRetired, .readData] s (execRcRead seat offset w s) := by
  unfold execRcRead
  with_reducible refine (State.readAt_frame _ _ _ _ _).after (by decide) ?_
  with_reducible exact SameBut.refl _ _

theorem execRegisterWrite_frame (seat : BitVec 3) (offset : BitVec 22) (w : Width) (v : Word) (s : State) :
    Frames [.pins, .taken, .regs, .staged, .events, .later, .ops, .loops, .eng, .plan, .mov, .porches, .lanes, .cals, .til, .mem, .shelves, .ram, .readData] s (execRegisterWrite seat offset w v s) := by
  unfold execRegisterWrite
  extract_lets
  with_reducible refine Frames.ite ?_ ?_
  with_reducible exact Frames.fault _ _ _
  extract_lets
  split
  with_reducible refine Frames.next ?_
  with_reducible exact SameBut.refl _ _
  with_reducible refine Frames.ite ?_ ?_
  with_reducible refine (execTableWindowAccess_frame _ _ _ _).after (by decide) ?_
  with_reducible exact SameBut.refl _ _
  with_reducible refine (State.writeReg_frame _ _ _ _ _).after (by decide) ?_
  with_reducible exact SameBut.refl _ _

theorem execTimeNsRead_frame (seat : BitVec 3) (offset : BitVec 22) (w : Width) (cycle : BitVec 21) (s : State) :
    Frames [.regs, .events, .plan, .til, .shelves, .pantryRetired, .readData] s (execTimeNsRead seat offset w cycle s) := by
  unfold execTimeNsRead
  with_reducible refine (State.readAt_frame _ _ _ _ _).after (by decide) ?_
  with_reducible exact SameBut.refl _ _

end Sys2Proof.Machine
end

