-- ==== Sys2Proof/Laws/Frame/Tick.lean ====
section
/-! SUPPORT. What the definitions of Machine/Tick.lean change of the state: one frame for each. -/
namespace Sys2Proof.Machine

theorem State.configTick_frame (s : State) :
    SameBut [.live] s (State.configTick s) := by
  unfold State.configTick
  with_reducible refine (SameBut.live_frame _ _).after (by decide) ?_
  with_reducible exact SameBut.refl _ _

theorem State.hearthTick_frame (s : State) :
    SameBut [.hrt, .regs, .events, .ops] s (State.hearthTick s) := by
  unfold State.hearthTick
  with_reducible refine (State.takeArm_frame _).after (by decide) ?_
  with_reducible refine (State.lockTick_frame _).after (by decide) ?_
  with_reducible exact SameBut.refl _ _

theorem State.linkTick_frame (s : State) :
    SameBut [.hrt, .pins, .att, .regs, .events, .ops, .loops, .eng, .plan, .mov, .est, .porches, .twn, .til, .ram, .free] s (State.linkTick s) := by
  unfold State.linkTick
  extract_lets
  with_reducible refine (State.freezeLost_frame _).after (by decide) ?_
  with_reducible refine (State.selectPlacement_frame _).after (by decide) ?_
  with_reducible refine (State.switchVariant_frame _).after (by decide) ?_
  with_reducible refine (State.roleTick_frame _).after (by decide) ?_
  with_reducible refine (State.loseDatapaths_frame _).after (by decide) ?_
  with_reducible refine SameBut.each (fun _ _ => ?_) ?_ _
  with_reducible refine (State.porchTick_frame _ _).after (by decide) ?_
  with_reducible exact SameBut.refl _ _
  with_reducible exact SameBut.refl _ _

theorem State.loopTick_frame (s : State) (x : TickIn) :
    SameBut [.hrt, .taken, .regs, .events, .later, .ops, .loops, .eng, .mov, .est, .porches, .free] s (State.loopTick s x) := by
  unfold State.loopTick
  extract_lets
  with_reducible refine (State.takeTraceArms_frame _).after (by decide) ?_
  with_reducible refine (State.latchInputs_frame _ _).after (by decide) ?_
  with_reducible refine (State.takeSetpoints_frame _).after (by decide) ?_
  with_reducible refine (State.tapTick_frame _).after (by decide) ?_
  with_reducible refine (State.movePaths_frame _).after (by decide) ?_
  with_reducible refine (State.lowChanges_frame _).after (by decide) ?_
  with_reducible refine (State.moveLegs_frame _).after (by decide) ?_
  with_reducible refine SameBut.ite ?_ ?_
  with_reducible refine (State.retimeMoves_frame _).after (by decide) ?_
  with_reducible exact SameBut.refl _ _
  with_reducible exact SameBut.refl _ _

theorem State.passTick_frame (s : State) (pass : Nat) :
    SameBut [.regs, .eng] s (State.passTick s pass) := by
  unfold State.passTick
  extract_lets
  with_reducible refine (State.maxField_frame _ _ _ _ _).after (by decide) ?_
  with_reducible refine (SameBut.eng_frame _ _).after (by decide) ?_
  with_reducible exact SameBut.refl _ _

theorem State.planTick_frame (s : State) :
    SameBut [.hrt, .att, .regs, .staged, .events, .ops, .loops, .eng, .plan, .mov, .est, .porches, .twn, .til, .mem, .shelves, .upd, .ram, .free] s (State.planTick s) := by
  unfold State.planTick
  with_reducible refine (State.tableTick_frame _).after (by decide) ?_
  with_reducible refine (State.swapTakeEffect_frame _).after (by decide) ?_
  with_reducible refine (State.takeDesc_frame _).after (by decide) ?_
  with_reducible refine (State.descTakeEffect_frame _).after (by decide) ?_
  with_reducible refine (State.takePlan_frame _).after (by decide) ?_
  with_reducible refine (State.commitEffect_frame _).after (by decide) ?_
  with_reducible refine (State.endBridge_frame _).after (by decide) ?_
  with_reducible refine (State.preloadTick_frame _).after (by decide) ?_
  with_reducible refine (State.finishValidation_frame _).after (by decide) ?_
  with_reducible exact SameBut.refl _ _

theorem State.workTick_frame (s : State) (x : TickIn) :
    SameBut [.taken, .att, .regs, .events, .plan, .est, .porches, .lanes, .cals, .til, .mem, .shelves, .ram, .free] s (State.workTick s x) := by
  unfold State.workTick
  with_reducible refine (State.laneTick_frame _ _ _).after (by decide) ?_
  with_reducible refine (State.shelfTick_frame _).after (by decide) ?_
  with_reducible refine (State.jobTick_frame _).after (by decide) ?_
  with_reducible refine (State.memTick_frame _ _).after (by decide) ?_
  with_reducible refine (State.tileTick_frame _).after (by decide) ?_
  with_reducible exact SameBut.refl _ _

theorem State.atTick_frame (s : State) (x : TickIn) (from_ : Nat) :
    SameBut [.hrt, .pins, .boot, .thm, .seats, .taken, .port, .att, .regs, .live, .staged, .events, .later, .ops, .loops, .eng, .plan, .mov, .est, .porches, .lanes, .cals, .twn, .til, .mem, .shelves, .upd, .flash, .ram, .free] s (State.atTick s x from_) := by
  unfold State.atTick
  extract_lets
  with_reducible refine (State.powerUpTick_frame _).after (by decide) ?_
  with_reducible refine (State.featTick_frame _).after (by decide) ?_
  with_reducible refine SameBut.ite ?_ ?_
  with_reducible refine (State.passTick_frame _ _).after (by decide) ?_
  with_reducible refine (State.workTick_frame _ _).after (by decide) ?_
  with_reducible refine (State.loopTick_frame _ _).after (by decide) ?_
  with_reducible refine (State.freezeRest_frame _).after (by decide) ?_
  with_reducible refine (State.planTick_frame _).after (by decide) ?_
  with_reducible refine (State.takeOrders_frame _).after (by decide) ?_
  with_reducible refine (State.updTick_frame _ _).after (by decide) ?_
  with_reducible refine (State.thermTick_frame _ _ _).after (by decide) ?_
  with_reducible refine (State.resetsTick_frame _).after (by decide) ?_
  with_reducible refine SameBut.ite ?_ ?_
  with_reducible refine (State.offAndFreeze_frame _).after (by decide) ?_
  with_reducible refine (State.hearthTick_frame _).after (by decide) ?_
  with_reducible refine SameBut.ite ?_ ?_
  with_reducible refine (State.linkTick_frame _).after (by decide) ?_
  with_reducible refine (State.configTick_frame _).after (by decide) ?_
  with_reducible exact SameBut.refl _ _
  with_reducible refine (State.configTick_frame _).after (by decide) ?_
  with_reducible exact SameBut.refl _ _
  with_reducible refine (State.hearthTick_frame _).after (by decide) ?_
  with_reducible refine SameBut.ite ?_ ?_
  with_reducible refine (State.linkTick_frame _).after (by decide) ?_
  with_reducible refine (State.configTick_frame _).after (by decide) ?_
  with_reducible exact SameBut.refl _ _
  with_reducible refine (State.configTick_frame _).after (by decide) ?_
  with_reducible exact SameBut.refl _ _
  with_reducible refine (State.takeOrders_frame _).after (by decide) ?_
  with_reducible refine (State.updTick_frame _ _).after (by decide) ?_
  with_reducible refine (State.thermTick_frame _ _ _).after (by decide) ?_
  with_reducible refine (State.resetsTick_frame _).after (by decide) ?_
  with_reducible refine SameBut.ite ?_ ?_
  with_reducible refine (State.offAndFreeze_frame _).after (by decide) ?_
  with_reducible refine (State.hearthTick_frame _).after (by decide) ?_
  with_reducible refine SameBut.ite ?_ ?_
  with_reducible refine (State.linkTick_frame _).after (by decide) ?_
  with_reducible refine (State.configTick_frame _).after (by decide) ?_
  with_reducible exact SameBut.refl _ _
  with_reducible refine (State.configTick_frame _).after (by decide) ?_
  with_reducible exact SameBut.refl _ _
  with_reducible refine (State.hearthTick_frame _).after (by decide) ?_
  with_reducible refine SameBut.ite ?_ ?_
  with_reducible refine (State.linkTick_frame _).after (by decide) ?_
  with_reducible refine (State.configTick_frame _).after (by decide) ?_
  with_reducible exact SameBut.refl _ _
  with_reducible refine (State.configTick_frame _).after (by decide) ?_
  with_reducible exact SameBut.refl _ _

theorem State.freshFrame_frame (s : State) :
    SameBut [.hrt, .loops, .eng, .plan] s (State.freshFrame s) := by
  unfold State.freshFrame
  extract_lets
  split
  with_reducible refine SameBut.ite ?_ ?_
  with_reducible refine (State.excuseLoops_frame _).after (by decide) ?_
  with_reducible refine (SameBut.hrt_loops_eng_frame _ _ _ _).after (by decide) ?_
  with_reducible exact SameBut.refl _ _
  with_reducible refine (SameBut.plan_frame _ _).after (by decide) ?_
  with_reducible refine (SameBut.hrt_loops_eng_frame _ _ _ _).after (by decide) ?_
  with_reducible exact SameBut.refl _ _
  with_reducible refine (SameBut.hrt_loops_eng_frame _ _ _ _).after (by decide) ?_
  with_reducible exact SameBut.refl _ _

theorem State.frameCells_frame (s : State) :
    SameBut [.regs, .porches, .free] s (State.frameCells s) := by
  unfold State.frameCells
  extract_lets
  split
  with_reducible refine SameBut.ite ?_ ?_
  with_reducible refine (State.send_frame _ _ _ _).after (by decide) ?_
  with_reducible refine SameBut.ite ?_ ?_
  with_reducible refine SameBut.each (fun _ _ => ?_) ?_ _
  with_reducible refine (State.freeTick_frame _).after (by decide) ?_
  with_reducible refine (State.send_frame _ _ _ _).after (by decide) ?_
  with_reducible exact SameBut.refl _ _
  with_reducible exact SameBut.refl _ _
  with_reducible exact SameBut.refl _ _
  with_reducible refine SameBut.ite ?_ ?_
  with_reducible refine SameBut.each (fun _ _ => ?_) ?_ _
  with_reducible refine (State.freeTick_frame _).after (by decide) ?_
  with_reducible refine (State.send_frame _ _ _ _).after (by decide) ?_
  with_reducible exact SameBut.refl _ _
  with_reducible exact SameBut.refl _ _
  with_reducible exact SameBut.refl _ _
  with_reducible refine SameBut.ite ?_ ?_
  with_reducible refine SameBut.each (fun _ _ => ?_) ?_ _
  with_reducible refine (State.freeTick_frame _).after (by decide) ?_
  with_reducible refine (State.send_frame _ _ _ _).after (by decide) ?_
  with_reducible exact SameBut.refl _ _
  with_reducible exact SameBut.refl _ _
  with_reducible exact SameBut.refl _ _

theorem State.startCells_frame (s : State) :
    SameBut [.porches] s (State.startCells s) := by
  unfold State.startCells
  with_reducible refine (SameBut.porches_frame _ _).after (by decide) ?_
  with_reducible exact SameBut.refl _ _

theorem State.newCells_frame (s : State) :
    SameBut [.regs, .porches, .cals, .free] s (State.newCells s) := by
  unfold State.newCells
  extract_lets
  with_reducible refine (State.frameCells_frame _).after (by decide) ?_
  with_reducible refine SameBut.each (fun _ _ => ?_) ?_ _
  with_reducible refine (State.porchCells_frame _ _).after (by decide) ?_
  with_reducible exact SameBut.refl _ _
  with_reducible refine SameBut.each (fun _ _ => ?_) ?_ _
  with_reducible refine (State.pumpLane_frame _ _).after (by decide) ?_
  with_reducible exact SameBut.refl _ _
  with_reducible refine (State.startCells_frame _).after (by decide) ?_
  with_reducible exact SameBut.refl _ _

theorem State.beginFrame_frame (s : State) :
    SameBut [.hrt, .pins, .seats, .taken, .port, .att, .regs, .events, .later, .ops, .loops, .eng, .plan, .mov, .est, .porches, .cals, .twn, .ram, .free] s (State.beginFrame s) := by
  unfold State.beginFrame
  extract_lets
  with_reducible refine (State.freshFrame_frame _).after (by decide) ?_
  with_reducible refine (State.writePages_frame _).after (by decide) ?_
  with_reducible refine (State.flushNotices_frame _).after (by decide) ?_
  with_reducible refine (State.atticTick_frame _).after (by decide) ?_
  with_reducible refine SameBut.ite ?_ ?_
  with_reducible refine (State.finishOrders_frame _).after (by decide) ?_
  with_reducible refine (State.newCells_frame _).after (by decide) ?_
  with_reducible refine (State.pinTick_frame _).after (by decide) ?_
  with_reducible refine (State.newFrame_frame _).after (by decide) ?_
  with_reducible exact SameBut.refl _ _
  with_reducible refine (State.startCells_frame _).after (by decide) ?_
  with_reducible refine (State.pinTick_frame _).after (by decide) ?_
  with_reducible refine (State.newFrame_frame _).after (by decide) ?_
  with_reducible exact SameBut.refl _ _

theorem State.clearSent_frame (s : State) :
    SameBut [.porches] s (State.clearSent s) := by
  unfold State.clearSent
  with_reducible refine (SameBut.porches_frame _ _).after (by decide) ?_
  with_reducible exact SameBut.refl _ _

theorem State.countFrame_frame (s : State) (x : TickIn) :
    SameBut [.regs, .til] s (State.countFrame s x) := by
  unfold State.countFrame
  with_reducible refine (State.count_frame _ _ _ _ _).after (by decide) ?_
  with_reducible refine (State.count_frame _ _ _ _ _).after (by decide) ?_
  with_reducible refine (State.countRan_frame _ _).after (by decide) ?_
  with_reducible refine (State.countState_frame _ _).after (by decide) ?_
  with_reducible exact SameBut.refl _ _

theorem State.endFrame_frame (s : State) :
    SameBut [.hrt, .pins, .att, .regs, .events, .loops, .eng, .est, .porches, .twn, .shelves, .free] s (State.endFrame s) := by
  unfold State.endFrame
  extract_lets
  with_reducible refine SameBut.ite ?_ ?_
  with_reducible exact SameBut.refl _ _
  with_reducible refine (State.patchTick_frame _).after (by decide) ?_
  with_reducible refine (State.silentImagers_frame _).after (by decide) ?_
  with_reducible refine (State.traceFrame_frame _).after (by decide) ?_
  with_reducible refine SameBut.ite ?_ ?_
  with_reducible exact SameBut.refl _ _
  with_reducible refine (State.emitDeadline_frame _).after (by decide) ?_
  with_reducible exact SameBut.refl _ _

theorem State.closeFrame_frame (s : State) (x : TickIn) :
    SameBut [.hrt, .pins, .taken, .att, .regs, .events, .loops, .eng, .mov, .est, .porches, .twn, .til, .mem, .shelves, .free] s (State.closeFrame s x) := by
  unfold State.closeFrame
  extract_lets
  with_reducible refine SameBut.ite ?_ ?_
  with_reducible refine (State.countFrame_frame _ _).after (by decide) ?_
  with_reducible refine (State.clearSent_frame _).after (by decide) ?_
  with_reducible refine (State.endFrame_frame _).after (by decide) ?_
  with_reducible exact SameBut.refl _ _
  with_reducible refine (State.carryOrders_frame _).after (by decide) ?_
  with_reducible refine (State.countFrame_frame _ _).after (by decide) ?_
  with_reducible refine (State.clearSent_frame _).after (by decide) ?_
  with_reducible refine (State.endFrame_frame _).after (by decide) ?_
  with_reducible exact SameBut.refl _ _

theorem State.hearthStart_frame (s : State) :
    SameBut [.hrt] s (State.hearthStart s) := by
  unfold State.hearthStart
  extract_lets
  with_reducible refine (SameBut.hrt_frame _ _).after (by decide) ?_
  with_reducible exact SameBut.refl _ _

theorem State.recoverTick_frame (s : State) :
    SameBut [.hrt, .pins, .boot, .thm, .seats, .taken, .port, .att, .regs, .live, .staged, .events, .later, .ops, .loops, .eng, .plan, .mov, .est, .porches, .cages, .lanes, .cals, .twn, .til, .mem, .shelves, .pantryRetired, .upd, .flash, .ram, .readData, .free] s (State.recoverTick s) := by
  unfold State.recoverTick
  extract_lets
  with_reducible refine SameBut.ite ?_ ?_
  with_reducible refine (State.startBoot_frame _).after (by decide) ?_
  with_reducible refine (State.wholeReset_frame _).after (by decide) ?_
  with_reducible refine (SameBut.upd_frame _ _).after (by decide) ?_
  with_reducible exact SameBut.refl _ _
  with_reducible exact SameBut.refl _ _

theorem execTick_frame (x : TickIn) (s : State) :
    Frames [.hrt, .pins, .boot, .thm, .seats, .taken, .port, .att, .regs, .live, .staged, .events, .later, .ops, .loops, .eng, .plan, .mov, .est, .porches, .cages, .lanes, .cals, .twn, .til, .mem, .shelves, .pantryRetired, .upd, .flash, .ram, .readData, .free] s (execTick x s) := by
  unfold execTick
  extract_lets
  with_reducible refine Frames.ite ?_ ?_
  with_reducible refine Frames.next ?_
  with_reducible exact SameBut.refl _ _
  with_reducible refine Frames.next ?_
  with_reducible refine (State.recoverTick_frame _).after (by decide) ?_
  with_reducible refine (State.beginFrame_frame _).after (by decide) ?_
  with_reducible refine (State.atTick_frame _ _ _).after (by decide) ?_
  with_reducible refine (State.stopTick_frame _).after (by decide) ?_
  with_reducible refine (State.advance_frame _ _).after (by decide) ?_
  with_reducible refine (State.stepEpoch_frame _).after (by decide) ?_
  with_reducible refine (State.keepTime_frame _).after (by decide) ?_
  with_reducible refine (State.closeFrame_frame _ _).after (by decide) ?_
  with_reducible exact SameBut.refl _ _

theorem execTickZero_frame (s : State) :
    Frames [.hrt, .pins, .boot, .thm, .seats, .taken, .port, .att, .regs, .live, .staged, .events, .later, .ops, .loops, .eng, .plan, .mov, .est, .porches, .cages, .lanes, .cals, .twn, .til, .mem, .shelves, .pantryRetired, .upd, .flash, .ram, .readData, .free] s (execTickZero s) := by
  unfold execTickZero
  extract_lets
  with_reducible refine Frames.ite ?_ ?_
  with_reducible refine Frames.next ?_
  with_reducible refine (State.recoverTick_frame _).after (by decide) ?_
  with_reducible refine (State.beginFrame_frame _).after (by decide) ?_
  with_reducible refine (State.atTick_frame _ _ _).after (by decide) ?_
  with_reducible refine (State.hearthStart_frame _).after (by decide) ?_
  with_reducible exact SameBut.refl _ _
  with_reducible refine Frames.next ?_
  with_reducible exact SameBut.refl _ _

end Sys2Proof.Machine
end

