-- ==== Sys2Proof/Laws/Table.lean ====
section
/-! SUPPORT. Tables: reading after writing, and the canonical form under every operation; the same of the addressed RAM. -/
namespace Sys2Proof.Machine

variable {α : Type} [DecidableEq α] {d : Nat → α}

/-- Every key of the table is above `i`. -/
def keysAbove (i : Nat) (t : List (Nat × α)) : Prop := ∀ p ∈ t, i < p.1

omit [DecidableEq α] in
theorem tget_of_keysAbove {t : List (Nat × α)} {i : Nat} (h : keysAbove i t) : tget d t i = d i := by
  induction t with
  | nil => rfl
  | cons p t ih =>
    obtain ⟨j, v⟩ := p
    have hj : i < j := h (j, v) List.mem_cons_self
    have ht := ih fun q hq => h q (List.mem_cons_of_mem _ hq)
    simp only [tget]
    rw [if_neg (by omega), ht]

theorem twfFrom_keysAbove {t : List (Nat × α)} {i : Nat} (h : twfFrom d (some i) t = true) : keysAbove i t := by
  induction t generalizing i with
  | nil => intro p hp; cases hp
  | cons q t ih =>
    obtain ⟨j, v⟩ := q
    simp only [twfFrom, Bool.and_eq_true, decide_eq_true_eq] at h
    intro p hp
    rcases List.mem_cons.1 hp with rfl | hp
    · exact h.1.1
    · exact Nat.lt_trans h.1.1 (ih h.2 p hp)

/-- A lower bound that is looser, or none, may take the place of a bound. -/
theorem twfFrom_weaken {t : List (Nat × α)} {i : Nat} {lo : Option Nat} (h : twfFrom d (some i) t = true)
    (hlo : ∀ l ∈ lo, l ≤ i) : twfFrom d lo t = true := by
  cases t with
  | nil => cases lo <;> rfl
  | cons p t =>
    obtain ⟨j, v⟩ := p
    cases lo with
    | none => simp only [twfFrom, Bool.and_eq_true, decide_eq_true_eq] at h ⊢; exact ⟨⟨trivial, h.1.2⟩, h.2⟩
    | some l =>
      have := hlo l rfl
      simp only [twfFrom, Bool.and_eq_true, decide_eq_true_eq] at h ⊢
      exact ⟨⟨by omega, h.1.2⟩, h.2⟩

theorem twfFrom_cons {i : Nat} {v : α} {t : List (Nat × α)} {lo : Option Nat} (h : twfFrom d lo ((i, v) :: t) = true) :
    (∀ l ∈ lo, l < i) ∧ v ≠ d i ∧ twfFrom d (some i) t = true := by
  cases lo with
  | none => simp [twfFrom] at h; exact ⟨by simp, h.1, h.2⟩
  | some l => simp [twfFrom] at h; exact ⟨by simpa using h.1.1, h.1.2, h.2⟩

theorem twfFrom_mk {i : Nat} {v : α} {t : List (Nat × α)} {lo : Option Nat} (h1 : ∀ l ∈ lo, l < i) (h2 : v ≠ d i)
    (h3 : twfFrom d (some i) t = true) : twfFrom d lo ((i, v) :: t) = true := by
  cases lo with
  | none => simp [twfFrom, h2, h3]
  | some l => simp [twfFrom, h2, h3, h1 l rfl]

theorem twfFrom_tcons {i : Nat} {v : α} {t : List (Nat × α)} {lo : Option Nat} (h1 : ∀ l ∈ lo, l < i)
    (h3 : twfFrom d (some i) t = true) : twfFrom d lo (tcons d i v t) = true := by
  unfold tcons
  split
  · exact twfFrom_weaken h3 fun l hl => Nat.le_of_lt (h1 l hl)
  · exact twfFrom_mk h1 ‹_› h3

theorem twfFrom_tset {i : Nat} {v : α} {t : List (Nat × α)} {lo : Option Nat} (h1 : ∀ l ∈ lo, l < i)
    (h : twfFrom d lo t = true) : twfFrom d lo (tset d t i v) = true := by
  induction t generalizing lo with
  | nil => exact twfFrom_tcons h1 rfl
  | cons p t ih =>
    obtain ⟨j, w⟩ := p
    obtain ⟨a, b, c⟩ := twfFrom_cons h
    unfold tset
    split
    · exact twfFrom_tcons h1 (twfFrom_mk (by simpa using ‹i < j›) b c)
    · split
      · subst_vars; exact twfFrom_tcons h1 c
      · exact twfFrom_mk a b (ih (by simp; omega) c)

/-- A write keeps the canonical form. -/
theorem twf_tset {t : List (Nat × α)} (h : twf d t = true) (i : Nat) (v : α) : twf d (tset d t i v) = true :=
  twfFrom_tset (by simp) h

theorem twf_tupd {t : List (Nat × α)} (h : twf d t = true) (i : Nat) (f : α → α) : twf d (tupd d t i f) = true :=
  twf_tset h i _

theorem twf_tsetList {t : List (Nat × α)} (h : twf d t = true) (i : Nat) (l : List α) : twf d (tsetList d t i l) = true := by
  induction l generalizing t i with
  | nil => exact h
  | cons v l ih => exact ih (twf_tset h i v) (i + 1)

theorem twfFrom_filter {t : List (Nat × α)} {lo : Option Nat} (h : twfFrom d lo t = true) (p : Nat × α → Bool) :
    twfFrom d lo (t.filter p) = true := by
  induction t generalizing lo with
  | nil => exact h
  | cons q t ih =>
    obtain ⟨j, w⟩ := q
    obtain ⟨a, b, c⟩ := twfFrom_cons h
    rw [List.filter_cons]
    split
    · exact twfFrom_mk a b (ih c)
    · exact twfFrom_weaken (ih c) fun l hl => Nat.le_of_lt (a l hl)

theorem twf_filter {t : List (Nat × α)} (h : twf d t = true) (p : Nat × α → Bool) : twf d (t.filter p) = true :=
  twfFrom_filter h p

theorem twf_terase {t : List (Nat × α)} (h : twf d t = true) (i n : Nat) : twf d (terase t i n) = true := twf_filter h _

theorem twfFrom_tmap {t : List (Nat × α)} {lo : Option Nat} (h : twfFrom d lo t = true) (f : Nat → α → α) :
    twfFrom d lo (tmap d f t) = true := by
  induction t generalizing lo with
  | nil => exact h
  | cons q t ih =>
    obtain ⟨j, w⟩ := q
    obtain ⟨a, b, c⟩ := twfFrom_cons h
    exact twfFrom_tcons a (ih c)

theorem twf_tmap {t : List (Nat × α)} (h : twf d t = true) (f : Nat → α → α) : twf d (tmap d f t) = true := twfFrom_tmap h f

-- Reading after writing -------------------------------------------------------------------------------------------------

theorem tget_tcons_self (i : Nat) (v : α) {t : List (Nat × α)} (h : keysAbove i t) : tget d (tcons d i v t) i = v := by
  unfold tcons
  split
  · rw [tget_of_keysAbove h]; exact Eq.symm ‹_›
  · simp [tget]

theorem tget_tcons_ne {i k : Nat} (v : α) (t : List (Nat × α)) (h : k ≠ i) : tget d (tcons d i v t) k = tget d t k := by
  unfold tcons
  split
  · rfl
  · simp only [tget]; rw [if_neg (fun e => h e.symm)]

/-- A write of another entry leaves an entry as it was: in every table. -/
theorem tget_tset_ne {i k : Nat} (v : α) (t : List (Nat × α)) (h : k ≠ i) : tget d (tset d t i v) k = tget d t k := by
  induction t with
  | nil => simp only [tset]; rw [tget_tcons_ne v [] h]
  | cons p t ih =>
    obtain ⟨j, w⟩ := p
    unfold tset
    split
    · rw [tget_tcons_ne v _ h]
    · split
      · subst_vars; rw [tget_tcons_ne v _ h]; simp only [tget]; rw [if_neg (fun e => h e.symm)]
      · simp only [tget]; rw [ih]

/-- A write gives the entry its value: in a canonical table. -/
theorem tget_tset_self {t : List (Nat × α)} (h : twf d t = true) (i : Nat) (v : α) : tget d (tset d t i v) i = v := by
  unfold twf at h
  revert h
  generalize (none : Option Nat) = lo
  intro h
  induction t generalizing lo with
  | nil => exact tget_tcons_self i v (by intro p hp; cases hp)
  | cons p t ih =>
    obtain ⟨j, w⟩ := p
    obtain ⟨a, b, c⟩ := twfFrom_cons h
    have k := twfFrom_keysAbove c
    unfold tset
    split
    · refine tget_tcons_self i v ?_
      intro q hq
      rcases List.mem_cons.1 hq with rfl | hq
      · assumption
      · have := k q hq; omega
    · split
      · subst_vars; exact tget_tcons_self _ v k
      · simp only [tget]; rw [if_neg (fun e => ‹¬i = j› e.symm)]; exact ih _ c

theorem tget_tupd_ne {i k : Nat} (f : α → α) (t : List (Nat × α)) (h : k ≠ i) : tget d (tupd d t i f) k = tget d t k :=
  tget_tset_ne _ t h

theorem tget_tupd_self {t : List (Nat × α)} (h : twf d t = true) (i : Nat) (f : α → α) :
    tget d (tupd d t i f) i = f (tget d t i) := tget_tset_self h i _

theorem tget_tsetList_ne (l : List α) (t : List (Nat × α)) (i k : Nat) (h : k < i ∨ i + l.length ≤ k) :
    tget d (tsetList d t i l) k = tget d t k := by
  induction l generalizing t i with
  | nil => rfl
  | cons v l ih =>
    simp only [List.length_cons] at h
    simp only [tsetList]
    rw [ih _ _ (by omega), tget_tset_ne v t (by omega)]

theorem tget_tsetList_at {l : List α} {t : List (Nat × α)} (h : twf d t = true) (i k : Nat) (hk : k < l.length) :
    tget d (tsetList d t i l) (i + k) = l[k] := by
  induction l generalizing t i k with
  | nil => exact absurd hk (Nat.not_lt_zero _)
  | cons v l ih =>
    simp only [tsetList]
    cases k with
    | zero => rw [tget_tsetList_ne l _ _ _ (Or.inl (by omega))]; exact tget_tset_self h i v
    | succ k =>
      have := ih (twf_tset h i v) (i + 1) k (by simpa using hk)
      rw [show i + 1 + k = i + (k + 1) by omega] at this
      simpa using this

omit [DecidableEq α] in
theorem tget_filter {t : List (Nat × α)} (p : Nat × α → Bool) (k : Nat) (hp : ∀ v, p (k, v) = true) :
    tget d (t.filter p) k = tget d t k := by
  induction t with
  | nil => rfl
  | cons q t ih =>
    obtain ⟨j, w⟩ := q
    rw [List.filter_cons]
    split
    · simp only [tget]; rw [ih]
    · by_cases e : j = k
      · subst e; exact absurd (hp w) ‹_›
      · simp only [tget]; rw [if_neg e]; exact ih

omit [DecidableEq α] in
theorem tget_filter_out {t : List (Nat × α)} (p : Nat × α → Bool) (k : Nat) (hp : ∀ v, p (k, v) = false) :
    tget d (t.filter p) k = d k := by
  induction t with
  | nil => rfl
  | cons q t ih =>
    obtain ⟨j, w⟩ := q
    rw [List.filter_cons]
    split
    · by_cases e : j = k
      · subst e; rename_i hq; rw [hp w] at hq; cases hq
      · simp only [tget]; rw [if_neg e]; exact ih
    · exact ih

-- The addressed RAM -------------------------------------------------------------------------------------------------------

theorem Memory.wf_writeByte {s : State} (h : Memory.wf s.ram = true) (a : Nat) (b : Byte) :
    Memory.wf (s.writeByte a b).ram = true := twf_tset h a b

theorem Memory.wf_writeBytes {s : State} (h : Memory.wf s.ram = true) (a : Nat) (l : List Byte) :
    Memory.wf (s.writeBytes a l).ram = true := twf_tsetList h a l

theorem Memory.wf_zeroBytes {s : State} (h : Memory.wf s.ram = true) (a n : Nat) : Memory.wf (s.zeroBytes a n).ram = true :=
  twf_terase h a n

theorem Memory.wf_hallWrite {s : State} (h : Memory.wf s.ram = true) (i off : Nat) (l : List Byte) :
    Memory.wf (s.hallWrite i off l).ram = true := Memory.wf_writeBytes h _ l

/-- Bytes outside those written read as before. -/
theorem State.readByte_writeBytes_ne (s : State) (a k : Nat) (l : List Byte) (h : k < a ∨ a + l.length ≤ k) :
    (s.writeBytes a l).readByte k = s.readByte k := tget_tsetList_ne l s.ram a k h

/-- The bytes written read back. -/
theorem State.readByte_writeBytes_at {s : State} (h : Memory.wf s.ram = true) (a k : Nat) (l : List Byte) (hk : k < l.length) :
    (s.writeBytes a l).readByte (a + k) = l[k] := tget_tsetList_at h a k hk

/-- Zeroed bytes read 0, and the others as before. -/
theorem State.readByte_zeroBytes (s : State) (a n k : Nat) :
    (s.zeroBytes a n).readByte k = if a ≤ k ∧ k < a + n then 0 else s.readByte k := by
  unfold State.zeroBytes State.readByte terase
  split
  · exact tget_filter_out _ _ (by intro v; simp; omega)
  · exact tget_filter _ _ (by intro v; simp; omega)

/-- A register that is not written keeps its value. -/
theorem State.reg_setReg_ne (s : State) {a b : Nat} (w : Word) (h : b ≠ a) : (s.setReg a w).reg b = s.reg b := tget_tset_ne w s.regs h

theorem State.reg_setReg_self {s : State} (h : twf regReset s.regs = true) (a : Nat) (w : Word) : (s.setReg a w).reg a = w :=
  tget_tset_self h a w

end Sys2Proof.Machine
end

