-- ==== Sys2Proof/Laws/Keep.lean ====
section
/-! SUPPORT. What holds through a whole command compose as frames do: time, the canonical form of the RAM, the fused security
version, and the trip latch. -/
namespace Sys2Proof.Machine

theorem After.next {R : State → State → Prop} {s t : State} (h : R s t) : After R s (.next t) := by
  intro u hu; cases hu; exact h

theorem After.fault (R : State → State → Prop) (s : State) (e : Fault) : After R s (.fault e) := by
  intro u hu; cases hu

theorem After.ite {R : State → State → Prop} {s : State} {a b : Host.Outcome State Fault Refusal} {c : Prop} [Decidable c]
    (ha : After R s a) (hb : After R s b) : After R s (if c then a else b) := by split <;> assumption

/-- A frame that leaves the part out gives the relation. -/
theorem After.of {l : List Part} {R : State → State → Prop} {s : State} {o : Host.Outcome State Fault Refusal}
    (h : Frames l s o) (k : ∀ t, SameBut l s t → R s t) : After R s o := fun t ht => k t (h t ht)

-- Time ------------------------------------------------------------------------------------------------------------------

theorem TimeKept.refl (s : State) : TimeKept s s := ⟨rfl, rfl, rfl, rfl, rfl, rfl⟩

theorem TimeKept.trans {s t u : State} (h : TimeKept s t) (k : TimeKept t u) : TimeKept s u :=
  ⟨k.1.trans h.1, k.2.1.trans h.2.1, k.2.2.1.trans h.2.2.1, k.2.2.2.1.trans h.2.2.2.1, k.2.2.2.2.1.trans h.2.2.2.2.1,
    k.2.2.2.2.2.trans h.2.2.2.2.2⟩

theorem SameBut.time {l : List Part} {s t : State} (h : SameBut l s t) (hl : Part.hrt ∉ l) : TimeKept s t := by
  have e : t.hrt = s.hrt := h .hrt hl
  unfold TimeKept; rw [e]; exact ⟨rfl, rfl, rfl, rfl, rfl, rfl⟩

/-- The Hearth of `x` shows the time of `s`. -/
def SameTime (s : State) (x : Hearth) : Prop :=
  x.running = s.hrt.running ∧ x.frame = s.hrt.frame ∧ x.time = s.hrt.time ∧ x.phase = s.hrt.phase
    ∧ x.cycles = s.hrt.cycles ∧ x.adopt = s.hrt.adopt

-- RAM -------------------------------------------------------------------------------------------------------------------

theorem RamKept.refl (s : State) : RamKept s s := id

theorem RamKept.trans {s t u : State} (h : RamKept s t) (k : RamKept t u) : RamKept s u := fun x => k (h x)

theorem SameBut.ram {l : List Part} {s t : State} (h : SameBut l s t) (hl : Part.ram ∉ l) : RamKept s t := by
  have e : t.ram = s.ram := h .ram hl
  unfold RamKept; rw [e]; exact id

-- The fused security version --------------------------------------------------------------------------------------------

theorem SvnKept.refl (s : State) : SvnKept s s := Nat.le_refl _

theorem SvnKept.trans {s t u : State} (h : SvnKept s t) (k : SvnKept t u) : SvnKept s u := Nat.le_trans h k

theorem SameBut.svn {l : List Part} {s t : State} (h : SameBut l s t) (hl : Part.flash ∉ l) : SvnKept s t := by
  have e : t.flash = s.flash := h .flash hl
  exact Nat.le_of_eq (congrArg (·.fusedSvn) e.symm)

-- The trip --------------------------------------------------------------------------------------------------------------

theorem TripKept.refl (s : State) : TripKept s s := ⟨id, id⟩

theorem TripKept.trans {s t u : State} (h : TripKept s t) (k : TripKept t u) : TripKept s u :=
  ⟨fun x => k.1 (h.1 x), fun x => k.2 (h.2 x)⟩

theorem SameBut.trip {l : List Part} {s t : State} (h : SameBut l s t) (hl : Part.boot ∉ l) : TripKept s t := by
  have e : t.boot = s.boot := h .boot hl
  unfold TripKept; rw [e]; exact ⟨id, id⟩

/-- The boot state `x` keeps the latch and the stop of `s`. -/
def SameTrip (s : State) (x : Boot) : Prop :=
  (s.boot.tripLatch = true → x.tripLatch = true) ∧ (s.boot.stopped = true → x.stopped = true)

theorem TimeKept.after {s t u : State} (k : TimeKept t u) (h : TimeKept s t) : TimeKept s u := h.trans k

theorem SameBut.timeAfter {l : List Part} {s t u : State} (k : SameBut l t u) (hl : Part.hrt ∉ l) (h : TimeKept s t) : TimeKept s u :=
  h.trans (k.time hl)

theorem After.timeAfter {s t : State} {o : Host.Outcome State Fault Refusal} (h : After TimeKept t o) (k : TimeKept s t) : After TimeKept s o :=
  fun u hu => k.trans (h u hu)

theorem Frames.timeAfter {l : List Part} {s t : State} {o : Host.Outcome State Fault Refusal} (h : Frames l t o) (hl : Part.hrt ∉ l)
    (k : TimeKept s t) : After TimeKept s o := fun u hu => k.trans ((h u hu).time hl)

-- TimeKept: folds and branches

theorem TimeKept.foldl {β : Type} {s t : State} {f : State → β → State} (hf : ∀ u x, TimeKept u (f u x)) (h : TimeKept s t) (l : List β) :
    TimeKept s (l.foldl f t) := by
  induction l generalizing t with
  | nil => exact h
  | cons x l ih => exact ih (h.trans (hf t x))

theorem TimeKept.each {s t : State} {f : Nat → State → State} (hf : ∀ i u, TimeKept u (f i u)) (h : TimeKept s t) (l : List Nat) :
    TimeKept s (State.each l f t) := TimeKept.foldl (fun u i => hf i u) h l

theorem TimeKept.ite {s a b : State} {c : Prop} [Decidable c] (ha : TimeKept s a) (hb : TimeKept s b) : TimeKept s (if c then a else b) := by
  split <;> assumption

theorem TimeKept.hrtAfter {r s : State} {xhrt} (h : SameTime s xhrt) (k : TimeKept r s) :
    TimeKept r { s with hrt := xhrt } := k.trans h

theorem TimeKept.hrt_loops_engAfter {r s : State} {xhrt} {xloops} {xeng} (h : SameTime s xhrt) (k : TimeKept r s) :
    TimeKept r { s with hrt := xhrt, loops := xloops, eng := xeng } := k.trans h

theorem TimeKept.hrt_pinsAfter {r s : State} {xhrt} {xpins} (h : SameTime s xhrt) (k : TimeKept r s) :
    TimeKept r { s with hrt := xhrt, pins := xpins } := k.trans h

theorem TimeKept.hrt_plan_twn_memAfter {r s : State} {xhrt} {xplan} {xtwn} {xmem} (h : SameTime s xhrt) (k : TimeKept r s) :
    TimeKept r { s with hrt := xhrt, plan := xplan, twn := xtwn, mem := xmem } := k.trans h

theorem TimeKept.hrt_porchesAfter {r s : State} {xhrt} {xporches} (h : SameTime s xhrt) (k : TimeKept r s) :
    TimeKept r { s with hrt := xhrt, porches := xporches } := k.trans h

theorem RamKept.after {s t u : State} (k : RamKept t u) (h : RamKept s t) : RamKept s u := h.trans k

theorem SameBut.ramAfter {l : List Part} {s t u : State} (k : SameBut l t u) (hl : Part.ram ∉ l) (h : RamKept s t) : RamKept s u :=
  h.trans (k.ram hl)

theorem After.ramAfter {s t : State} {o : Host.Outcome State Fault Refusal} (h : After RamKept t o) (k : RamKept s t) : After RamKept s o :=
  fun u hu => k.trans (h u hu)

theorem Frames.ramAfter {l : List Part} {s t : State} {o : Host.Outcome State Fault Refusal} (h : Frames l t o) (hl : Part.ram ∉ l)
    (k : RamKept s t) : After RamKept s o := fun u hu => k.trans ((h u hu).ram hl)

-- RamKept: folds and branches

theorem RamKept.foldl {β : Type} {s t : State} {f : State → β → State} (hf : ∀ u x, RamKept u (f u x)) (h : RamKept s t) (l : List β) :
    RamKept s (l.foldl f t) := by
  induction l generalizing t with
  | nil => exact h
  | cons x l ih => exact ih (h.trans (hf t x))

theorem RamKept.each {s t : State} {f : Nat → State → State} (hf : ∀ i u, RamKept u (f i u)) (h : RamKept s t) (l : List Nat) :
    RamKept s (State.each l f t) := RamKept.foldl (fun u i => hf i u) h l

theorem RamKept.ite {s a b : State} {c : Prop} [Decidable c] (ha : RamKept s a) (hb : RamKept s b) : RamKept s (if c then a else b) := by
  split <;> assumption

theorem SvnKept.after {s t u : State} (k : SvnKept t u) (h : SvnKept s t) : SvnKept s u := h.trans k

theorem SameBut.svnAfter {l : List Part} {s t u : State} (k : SameBut l t u) (hl : Part.flash ∉ l) (h : SvnKept s t) : SvnKept s u :=
  h.trans (k.svn hl)

theorem After.svnAfter {s t : State} {o : Host.Outcome State Fault Refusal} (h : After SvnKept t o) (k : SvnKept s t) : After SvnKept s o :=
  fun u hu => k.trans (h u hu)

theorem Frames.svnAfter {l : List Part} {s t : State} {o : Host.Outcome State Fault Refusal} (h : Frames l t o) (hl : Part.flash ∉ l)
    (k : SvnKept s t) : After SvnKept s o := fun u hu => k.trans ((h u hu).svn hl)

-- SvnKept: folds and branches

theorem SvnKept.foldl {β : Type} {s t : State} {f : State → β → State} (hf : ∀ u x, SvnKept u (f u x)) (h : SvnKept s t) (l : List β) :
    SvnKept s (l.foldl f t) := by
  induction l generalizing t with
  | nil => exact h
  | cons x l ih => exact ih (h.trans (hf t x))

theorem SvnKept.each {s t : State} {f : Nat → State → State} (hf : ∀ i u, SvnKept u (f i u)) (h : SvnKept s t) (l : List Nat) :
    SvnKept s (State.each l f t) := SvnKept.foldl (fun u i => hf i u) h l

theorem SvnKept.ite {s a b : State} {c : Prop} [Decidable c] (ha : SvnKept s a) (hb : SvnKept s b) : SvnKept s (if c then a else b) := by
  split <;> assumption

theorem SvnKept.flashAfter {r s : State} {xflash} (h : s.flash.fusedSvn ≤ xflash.fusedSvn) (k : SvnKept r s) :
    SvnKept r { s with flash := xflash } := k.trans h

theorem SvnKept.pins_att_mem_flashAfter {r s : State} {xpins} {xatt} {xmem} {xflash} (h : s.flash.fusedSvn ≤ xflash.fusedSvn) (k : SvnKept r s) :
    SvnKept r { s with pins := xpins, att := xatt, mem := xmem, flash := xflash } := k.trans h

theorem SvnKept.upd_flashAfter {r s : State} {xupd} {xflash} (h : s.flash.fusedSvn ≤ xflash.fusedSvn) (k : SvnKept r s) :
    SvnKept r { s with upd := xupd, flash := xflash } := k.trans h

theorem TripKept.after {s t u : State} (k : TripKept t u) (h : TripKept s t) : TripKept s u := h.trans k

theorem SameBut.tripAfter {l : List Part} {s t u : State} (k : SameBut l t u) (hl : Part.boot ∉ l) (h : TripKept s t) : TripKept s u :=
  h.trans (k.trip hl)

theorem After.tripAfter {s t : State} {o : Host.Outcome State Fault Refusal} (h : After TripKept t o) (k : TripKept s t) : After TripKept s o :=
  fun u hu => k.trans (h u hu)

theorem Frames.tripAfter {l : List Part} {s t : State} {o : Host.Outcome State Fault Refusal} (h : Frames l t o) (hl : Part.boot ∉ l)
    (k : TripKept s t) : After TripKept s o := fun u hu => k.trans ((h u hu).trip hl)

-- TripKept: folds and branches

theorem TripKept.foldl {β : Type} {s t : State} {f : State → β → State} (hf : ∀ u x, TripKept u (f u x)) (h : TripKept s t) (l : List β) :
    TripKept s (l.foldl f t) := by
  induction l generalizing t with
  | nil => exact h
  | cons x l ih => exact ih (h.trans (hf t x))

theorem TripKept.each {s t : State} {f : Nat → State → State} (hf : ∀ i u, TripKept u (f i u)) (h : TripKept s t) (l : List Nat) :
    TripKept s (State.each l f t) := TripKept.foldl (fun u i => hf i u) h l

theorem TripKept.ite {s a b : State} {c : Prop} [Decidable c] (ha : TripKept s a) (hb : TripKept s b) : TripKept s (if c then a else b) := by
  split <;> assumption

theorem TripKept.bootAfter {r s : State} {xboot} (h : SameTrip s xboot) (k : TripKept r s) :
    TripKept r { s with boot := xboot } := k.trans h

theorem TripKept.boot_attAfter {r s : State} {xboot} {xatt} (h : SameTrip s xboot) (k : TripKept r s) :
    TripKept r { s with boot := xboot, att := xatt } := k.trans h

theorem TripKept.boot_thmAfter {r s : State} {xboot} {xthm} (h : SameTrip s xboot) (k : TripKept r s) :
    TripKept r { s with boot := xboot, thm := xthm } := k.trans h

theorem TripKept.pins_bootAfter {r s : State} {xpins} {xboot} (h : SameTrip s xboot) (k : TripKept r s) :
    TripKept r { s with pins := xpins, boot := xboot } := k.trans h

-- The clock -------------------------------------------------------------------------------------------------------------

theorem ClockKept.refl (s : State) : ClockKept s s := ⟨TimeKept.refl s, rfl, rfl, rfl, rfl⟩

theorem ClockKept.trans {s t u : State} (h : ClockKept s t) (k : ClockKept t u) : ClockKept s u :=
  ⟨h.1.trans k.1, k.2.1.trans h.2.1, k.2.2.1.trans h.2.2.1, k.2.2.2.1.trans h.2.2.2.1, k.2.2.2.2.trans h.2.2.2.2⟩

theorem ClockKept.after {s t u : State} (k : ClockKept t u) (h : ClockKept s t) : ClockKept s u := h.trans k

theorem SameBut.clock {l : List Part} {s t : State} (h : SameBut l s t) (hl : Part.hrt ∉ l) : ClockKept s t := by
  have e : t.hrt = s.hrt := h .hrt hl
  exact ⟨h.time hl, by rw [e], by rw [e], by rw [e], by rw [e]⟩

theorem SameBut.clockAfter {l : List Part} {s t u : State} (k : SameBut l t u) (hl : Part.hrt ∉ l) (h : ClockKept s t) :
    ClockKept s u := h.trans (k.clock hl)

/-- The Hearth of `x` shows the clock of `s`. -/
def SameClock (s : State) (x : Hearth) : Prop :=
  SameTime s x ∧ x.cfg = s.hrt.cfg ∧ x.lock = s.hrt.lock ∧ x.steer = s.hrt.steer ∧ x.alignBy = s.hrt.alignBy

theorem ClockKept.foldl {β : Type} {s t : State} {f : State → β → State} (hf : ∀ u x, ClockKept u (f u x)) (h : ClockKept s t) (l : List β) :
    ClockKept s (l.foldl f t) := by
  induction l generalizing t with
  | nil => exact h
  | cons x l ih => exact ih (h.trans (hf t x))

theorem ClockKept.each {s t : State} {f : Nat → State → State} (hf : ∀ i u, ClockKept u (f i u)) (h : ClockKept s t) (l : List Nat) :
    ClockKept s (State.each l f t) := ClockKept.foldl (fun u i => hf i u) h l

theorem ClockKept.ite {s a b : State} {c : Prop} [Decidable c] (ha : ClockKept s a) (hb : ClockKept s b) : ClockKept s (if c then a else b) := by
  split <;> assumption

theorem ClockKept.hrtAfter {r s : State} {xhrt} (h : SameClock s xhrt) (k : ClockKept r s) :
    ClockKept r { s with hrt := xhrt } := k.trans h

theorem ClockKept.hrt_loops_engAfter {r s : State} {xhrt} {xloops} {xeng} (h : SameClock s xhrt) (k : ClockKept r s) :
    ClockKept r { s with hrt := xhrt, loops := xloops, eng := xeng } := k.trans h

theorem ClockKept.hrt_pinsAfter {r s : State} {xhrt} {xpins} (h : SameClock s xhrt) (k : ClockKept r s) :
    ClockKept r { s with hrt := xhrt, pins := xpins } := k.trans h

theorem ClockKept.hrt_plan_twn_memAfter {r s : State} {xhrt} {xplan} {xtwn} {xmem} (h : SameClock s xhrt) (k : ClockKept r s) :
    ClockKept r { s with hrt := xhrt, plan := xplan, twn := xtwn, mem := xmem } := k.trans h

theorem ClockKept.hrt_porchesAfter {r s : State} {xhrt} {xporches} (h : SameClock s xhrt) (k : ClockKept r s) :
    ClockKept r { s with hrt := xhrt, porches := xporches } := k.trans h


-- Recovery --------------------------------------------------------------------------------------------------------------

theorem RecoveryKept.refl (s : State) : RecoveryKept s s := rfl

theorem RecoveryKept.trans {s t u : State} (h : RecoveryKept s t) (k : RecoveryKept t u) : RecoveryKept s u := Eq.trans k h

theorem SameBut.rec {l : List Part} {s t : State} (h : SameBut l s t) (hl : Part.upd ∉ l) : RecoveryKept s t := by
  have e : t.upd = s.upd := h .upd hl
  exact congrArg (·.recovery) e

theorem RecoveryKept.after {s t u : State} (k : RecoveryKept t u) (h : RecoveryKept s t) : RecoveryKept s u := h.trans k

theorem SameBut.recAfter {l : List Part} {s t u : State} (k : SameBut l t u) (hl : Part.upd ∉ l) (h : RecoveryKept s t) : RecoveryKept s u :=
  h.trans (k.rec hl)

theorem RecoveryKept.foldl {β : Type} {s t : State} {f : State → β → State} (hf : ∀ u x, RecoveryKept u (f u x)) (h : RecoveryKept s t)
    (l : List β) : RecoveryKept s (l.foldl f t) := by
  induction l generalizing t with
  | nil => exact h
  | cons x l ih => exact ih (h.trans (hf t x))

theorem RecoveryKept.each {s t : State} {f : Nat → State → State} (hf : ∀ i u, RecoveryKept u (f i u)) (h : RecoveryKept s t)
    (l : List Nat) : RecoveryKept s (State.each l f t) := RecoveryKept.foldl (fun u i => hf i u) h l

theorem RecoveryKept.ite {s a b : State} {c : Prop} [Decidable c] (ha : RecoveryKept s a) (hb : RecoveryKept s b) :
    RecoveryKept s (if c then a else b) := by
  split <;> assumption

theorem RecoveryKept.mem_updAfter {r s : State} {xmem} {xupd : UpdBlock} (h : xupd.recovery = s.upd.recovery) (k : RecoveryKept r s) :
    RecoveryKept r { s with mem := xmem, upd := xupd } := k.trans h

theorem RecoveryKept.plan_updAfter {r s : State} {xplan} {xupd : UpdBlock} (h : xupd.recovery = s.upd.recovery) (k : RecoveryKept r s) :
    RecoveryKept r { s with plan := xplan, upd := xupd } := k.trans h

theorem RecoveryKept.updAfter {r s : State} {xupd : UpdBlock} (h : xupd.recovery = s.upd.recovery) (k : RecoveryKept r s) :
    RecoveryKept r { s with upd := xupd } := k.trans h

theorem RecoveryKept.upd_flashAfter {r s : State} {xupd : UpdBlock} {xflash} (h : xupd.recovery = s.upd.recovery) (k : RecoveryKept r s) :
    RecoveryKept r { s with upd := xupd, flash := xflash } := k.trans h

end Sys2Proof.Machine
end

