-- ==== Sys2Proof/Laws/Clock.lean ====
section
/-! SUPPORT. What a frame does at its end leaves the clock alone. -/
namespace Sys2Proof.Machine

theorem State.inTick_clock (f : State → State) (s : State) (hf : ∀ t, ClockKept t (f t)) : ClockKept s (State.inTick f s) := by
  unfold State.inTick
  extract_lets v1 v2 v3
  have h := hf { s with
    hrt := { s.hrt with frame := s.nextTick, adopt := none, guardNow := s.hrt.guardNext }
    porches := tmap (fun _ => {}) (fun _ q => { q with sent := [] }) s.porches }
  exact ⟨⟨h.1.1, rfl, h.1.2.2.1, h.1.2.2.2.1, h.1.2.2.2.2.1, rfl⟩, h.2.1, h.2.2.1, h.2.2.2.1, h.2.2.2.2⟩

theorem State.loopOverrun_clock (s : State) (l : Nat) :
    ClockKept s (State.loopOverrun s l) := by
  unfold State.loopOverrun
  extract_lets
  with_reducible refine ClockKept.ite ?_ ?_
  with_reducible exact ClockKept.refl _
  with_reducible refine (State.setField_frame _ _ _ _ _).clockAfter (by decide) ?_
  ((with_reducible refine ClockKept.hrtAfter ?_ ?_); · exact ⟨⟨rfl, rfl, rfl, rfl, rfl, rfl⟩, rfl, rfl, rfl, rfl⟩)
  with_reducible refine (State.count_frame _ _ _ _ _).clockAfter (by decide) ?_
  with_reducible refine (State.updLoop_frame _ _ _).clockAfter (by decide) ?_
  with_reducible exact ClockKept.refl _

theorem State.closeCell_clock (s : State) (p : Nat) (inTime : Bool) :
    ClockKept s (State.closeCell s p inTime) := by
  unfold State.closeCell
  extract_lets
  with_reducible refine ClockKept.ite ?_ ?_
  with_reducible refine (State.updPorch_frame _ _ _).clockAfter (by decide) ?_
  with_reducible exact ClockKept.refl _
  with_reducible refine ClockKept.ite ?_ ?_
  with_reducible refine ClockKept.foldl (fun _ _ => ?_) ?_ _
  with_reducible refine (State.commandLeft_frame _ _).clockAfter (by decide) ?_
  with_reducible exact ClockKept.refl _
  with_reducible refine ClockKept.ite ?_ ?_
  with_reducible refine (State.sendAll_frame _ _ _ _).clockAfter (by decide) ?_
  with_reducible refine ClockKept.ite ?_ ?_
  with_reducible refine (State.sendAll_frame _ _ _ _).clockAfter (by decide) ?_
  with_reducible refine (State.send_frame _ _ _ _).clockAfter (by decide) ?_
  with_reducible refine (State.updPorch_frame _ _ _).clockAfter (by decide) ?_
  with_reducible exact ClockKept.refl _
  with_reducible refine (State.send_frame _ _ _ _).clockAfter (by decide) ?_
  with_reducible refine (State.updPorch_frame _ _ _).clockAfter (by decide) ?_
  with_reducible exact ClockKept.refl _
  with_reducible refine ClockKept.ite ?_ ?_
  with_reducible refine (State.sendAll_frame _ _ _ _).clockAfter (by decide) ?_
  with_reducible refine (State.send_frame _ _ _ _).clockAfter (by decide) ?_
  with_reducible refine (State.updPorch_frame _ _ _).clockAfter (by decide) ?_
  with_reducible exact ClockKept.refl _
  with_reducible refine (State.send_frame _ _ _ _).clockAfter (by decide) ?_
  with_reducible refine (State.updPorch_frame _ _ _).clockAfter (by decide) ?_
  with_reducible exact ClockKept.refl _
  with_reducible refine ClockKept.foldl (fun _ _ => ?_) ?_ _
  with_reducible refine (State.updLoop_frame _ _ _).clockAfter (by decide) ?_
  with_reducible refine (State.overrunState_frame _ _).clockAfter (by decide) ?_
  with_reducible refine (State.loopOverrun_clock _ _).after ?_
  with_reducible exact ClockKept.refl _
  with_reducible refine (State.count_frame _ _ _ _ _).clockAfter (by decide) ?_
  with_reducible refine (State.updPorch_frame _ _ _).clockAfter (by decide) ?_
  with_reducible exact ClockKept.refl _

theorem State.addCommand_clock (s : State) (l : Nat) (u : Int) :
    ClockKept s (State.addCommand s l u) := by
  unfold State.addCommand
  extract_lets
  split
  with_reducible refine ClockKept.ite ?_ ?_
  with_reducible refine ClockKept.ite ?_ ?_
  with_reducible refine (State.closeCell_clock _ _ _).after ?_
  with_reducible refine (State.updPorch_frame _ _ _).clockAfter (by decide) ?_
  with_reducible refine (State.updLoop_frame _ _ _).clockAfter (by decide) ?_
  with_reducible exact ClockKept.refl _
  with_reducible refine (State.updPorch_frame _ _ _).clockAfter (by decide) ?_
  with_reducible refine (State.updLoop_frame _ _ _).clockAfter (by decide) ?_
  with_reducible exact ClockKept.refl _
  with_reducible refine (State.updLoop_frame _ _ _).clockAfter (by decide) ?_
  with_reducible exact ClockKept.refl _
  with_reducible exact ClockKept.refl _

theorem State.guardEvent_clock (s : State) (code : Nat) :
    ClockKept s (State.guardEvent s code) := by
  unfold State.guardEvent
  extract_lets
  with_reducible refine (State.freeTick_frame _).clockAfter (by decide) ?_
  with_reducible refine (State.maxField_frame _ _ _ _ _).clockAfter (by decide) ?_
  with_reducible refine (State.setField_frame _ _ _ _ _).clockAfter (by decide) ?_
  with_reducible refine (State.count_frame _ _ _ _ _).clockAfter (by decide) ?_
  ((with_reducible refine ClockKept.hrtAfter ?_ ?_); · exact ⟨⟨rfl, rfl, rfl, rfl, rfl, rfl⟩, rfl, rfl, rfl, rfl⟩)
  with_reducible exact ClockKept.refl _

theorem State.verdict_clock (s : State) (reason code : Nat) (solo : State → State) (hs : ∀ t, ClockKept t (solo t)) :
    ClockKept s (State.verdict s reason code solo) := by
  have hg : ClockKept s (s.guardEvent code) := (State.guardEvent_clock _ _)
  unfold State.verdict
  extract_lets v1
  have hk : ClockKept s (v1.guardState code) := hg.trans ((State.guardState_frame _ _).clock (by decide))
  split
  · exact hg.trans ((State.withdraw_frame _ _ _).clock (by decide))
  · exact hg.trans (hs _)
  · exact (hk.trans ((State.faultOn_frame _ _ _).clock (by decide))).trans ((State.giveUp_frame _ _).clock (by decide))
  · exact hk.trans ((State.faultOn_frame _ _ _).clock (by decide))
  · exact hk.trans ((State.faultOn_frame _ _ _).clock (by decide))

theorem State.soloOverrun_clock (s : State) :
    ClockKept s (State.soloOverrun s) := by
  unfold State.soloOverrun
  extract_lets
  with_reducible refine ClockKept.ite ?_ ?_
  with_reducible refine (State.withdraw_frame _ _ _).clockAfter (by decide) ?_
  with_reducible exact ClockKept.refl _
  ((with_reducible refine ClockKept.hrtAfter ?_ ?_); · exact ⟨⟨rfl, rfl, rfl, rfl, rfl, rfl⟩, rfl, rfl, rfl, rfl⟩)
  with_reducible refine (State.record_frame _ _ _ _ _).clockAfter (by decide) ?_
  with_reducible refine (State.faultOn_frame _ _ _).clockAfter (by decide) ?_
  with_reducible exact ClockKept.refl _

theorem State.overrunFrame_clock (s : State) :
    ClockKept s (State.overrunFrame s) := by
  unfold State.overrunFrame
  extract_lets
  with_reducible refine ClockKept.ite ?_ ?_
  with_reducible exact ClockKept.refl _
  with_reducible refine ClockKept.ite ?_ ?_
  with_reducible refine (State.setReg_frame _ _ _).clockAfter (by decide) ?_
  with_reducible refine (State.raise_frame _ _ _ _ _).clockAfter (by decide) ?_
  with_reducible exact ClockKept.refl _
  with_reducible refine ClockKept.ite ?_ ?_
  with_reducible refine (State.verdict_clock _ _ _ _ (fun _ => ?_)).after ?_
  with_reducible refine (State.soloOverrun_clock _).after ?_
  with_reducible exact ClockKept.refl _
  with_reducible refine (State.raise_frame _ _ _ _ _).clockAfter (by decide) ?_
  with_reducible refine (State.count_frame _ _ _ _ _).clockAfter (by decide) ?_
  ((with_reducible refine ClockKept.hrtAfter ?_ ?_); · exact ⟨⟨rfl, rfl, rfl, rfl, rfl, rfl⟩, rfl, rfl, rfl, rfl⟩)
  with_reducible refine (State.setReg_frame _ _ _).clockAfter (by decide) ?_
  with_reducible refine (State.raise_frame _ _ _ _ _).clockAfter (by decide) ?_
  with_reducible exact ClockKept.refl _
  with_reducible refine (State.count_frame _ _ _ _ _).clockAfter (by decide) ?_
  ((with_reducible refine ClockKept.hrtAfter ?_ ?_); · exact ⟨⟨rfl, rfl, rfl, rfl, rfl, rfl⟩, rfl, rfl, rfl, rfl⟩)
  with_reducible refine (State.setReg_frame _ _ _).clockAfter (by decide) ?_
  with_reducible refine (State.raise_frame _ _ _ _ _).clockAfter (by decide) ?_
  with_reducible exact ClockKept.refl _

theorem State.emitDeadline_clock (s : State) : ClockKept s (State.emitDeadline s) := by
  have h : ∀ u : State, ClockKept s u → ClockKept s ({ u.overrunFrame with hrt := { u.overrunFrame.hrt with emitted := true } } : State).feedTwin :=
    fun u k => (State.feedTwin_frame _).clockAfter (by decide) (ClockKept.hrtAfter ⟨⟨rfl, rfl, rfl, rfl, rfl, rfl⟩, rfl, rfl, rfl, rfl⟩ ((State.overrunFrame_clock u).after k))
  unfold State.emitDeadline
  split
  · exact ClockKept.hrtAfter ⟨⟨rfl, rfl, rfl, rfl, rfl, rfl⟩, rfl, rfl, rfl, rfl⟩ (ClockKept.refl _)
  · refine h _ ((SameBut.loops_frame _ _).clockAfter (by decide) ?_)
    refine ClockKept.each (fun l u => (State.overrunState_frame _ _).clockAfter (by decide) (State.loopOverrun_clock _ _)) ?_ _
    refine (State.passOverrun_frame _ _).clockAfter (by decide) ?_
    refine ClockKept.each (fun p u => State.closeCell_clock _ _ _) ?_ _
    split
    · exact ClockKept.each (fun l u => (State.addCommand_clock _ _ _)) (ClockKept.refl _) _
    · exact ClockKept.refl _

theorem State.endFrame_clock (s : State) :
    ClockKept s (State.endFrame s) := by
  unfold State.endFrame
  extract_lets
  with_reducible refine ClockKept.ite ?_ ?_
  with_reducible exact ClockKept.refl _
  with_reducible refine (State.patchTick_frame _).clockAfter (by decide) ?_
  with_reducible refine (State.silentImagers_frame _).clockAfter (by decide) ?_
  with_reducible refine (State.traceFrame_frame _).clockAfter (by decide) ?_
  with_reducible refine ClockKept.ite ?_ ?_
  with_reducible exact ClockKept.refl _
  with_reducible refine (State.emitDeadline_clock _).after ?_
  with_reducible exact ClockKept.refl _

end Sys2Proof.Machine
end

