-- ==== Sys2Proof/Laws/Ram.lean ====
section
/-! SUPPORT. Every definition that changes the RAM keeps its canonical form. -/
namespace Sys2Proof.Machine

theorem State.inTick_ram (f : State → State) (s : State) (hf : ∀ t, RamKept t (f t)) : RamKept s (State.inTick f s) := by
  unfold State.inTick
  extract_lets v1 v2
  refine (SameBut.hrt_porches_frame _ _ _).ramAfter (by decide) ?_
  refine (hf _).after ?_
  exact (SameBut.hrt_porches_frame _ _ _).ram (by decide)

theorem State.verdict_ram (s : State) (reason code : Nat) (solo : State → State) (hs : ∀ t, RamKept t (solo t)) :
    RamKept s (State.verdict s reason code solo) := by
  have hg : RamKept s (s.guardEvent code) := ((State.guardEvent_frame _ _).ram (by decide))
  unfold State.verdict
  extract_lets v1
  have hk : RamKept s (v1.guardState code) := hg.trans ((State.guardState_frame _ _).ram (by decide))
  split
  · exact hg.trans ((State.withdraw_frame _ _ _).ram (by decide))
  · exact hg.trans (hs _)
  · exact (hk.trans ((State.faultOn_frame _ _ _).ram (by decide))).trans ((State.giveUp_frame _ _).ram (by decide))
  · exact hk.trans ((State.faultOn_frame _ _ _).ram (by decide))
  · exact hk.trans ((State.faultOn_frame _ _ _).ram (by decide))

theorem State.writeBytes_ram (s : State) (a : Nat) (l : List Byte) : RamKept s (State.writeBytes s a l) :=
  fun h => Memory.wf_writeBytes h a l

theorem State.fillPages_ram (s : State) (t digest : Nat) (pages : List Nat) :
    RamKept s (State.fillPages s t digest pages) := by
  unfold State.fillPages
  with_reducible refine RamKept.foldl (fun _ _ => ?_) ?_ _
  with_reducible refine (State.writeBytes_ram _ _ _).after ?_
  with_reducible exact RamKept.refl _
  with_reducible exact RamKept.refl _

theorem State.placeVariant_ram (s : State) (v : Placement) :
    RamKept s (State.placeVariant s v) := by
  unfold State.placeVariant
  with_reducible refine RamKept.each (fun _ _ => ?_) ?_ _
  with_reducible refine (State.updTile_frame _ _ _).ramAfter (by decide) ?_
  with_reducible refine RamKept.ite ?_ ?_
  with_reducible exact RamKept.refl _
  with_reducible refine (State.fillPages_ram _ _ _ _).after ?_
  with_reducible exact RamKept.refl _
  with_reducible exact RamKept.refl _

theorem State.switchVariant_ram (s : State) :
    RamKept s (State.switchVariant s) := by
  unfold State.switchVariant
  extract_lets
  split
  with_reducible refine RamKept.ite ?_ ?_
  extract_lets
  split
  with_reducible refine (State.raise_frame _ _ _ _ _).ramAfter (by decide) ?_
  with_reducible refine (State.dropWeights_frame _).ramAfter (by decide) ?_
  with_reducible refine (State.moveServices_frame _ _).ramAfter (by decide) ?_
  with_reducible refine (State.takePages_frame _).ramAfter (by decide) ?_
  with_reducible refine (State.placeVariant_ram _ _).after ?_
  with_reducible refine (SameBut.plan_frame _ _).ramAfter (by decide) ?_
  with_reducible exact RamKept.refl _
  with_reducible refine (SameBut.plan_frame _ _).ramAfter (by decide) ?_
  with_reducible exact RamKept.refl _
  with_reducible exact RamKept.refl _
  with_reducible exact RamKept.refl _

theorem State.selectPlacement_ram (s : State) :
    RamKept s (State.selectPlacement s) := by
  unfold State.selectPlacement
  extract_lets
  with_reducible refine RamKept.ite ?_ ?_
  with_reducible refine RamKept.ite ?_ ?_
  with_reducible refine (SameBut.plan_frame _ _).ramAfter (by decide) ?_
  with_reducible refine (State.switchVariant_ram _).after ?_
  with_reducible exact RamKept.refl _
  extract_lets
  split
  with_reducible refine RamKept.ite ?_ ?_
  with_reducible refine (SameBut.plan_frame _ _).ramAfter (by decide) ?_
  with_reducible refine (State.switchVariant_ram _).after ?_
  with_reducible exact RamKept.refl _
  with_reducible refine (SameBut.plan_frame _ _).ramAfter (by decide) ?_
  with_reducible refine (SameBut.plan_frame _ _).ramAfter (by decide) ?_
  with_reducible refine (State.switchVariant_ram _).after ?_
  with_reducible exact RamKept.refl _
  with_reducible refine (State.noVariant_frame _).ramAfter (by decide) ?_
  with_reducible refine (SameBut.plan_frame _ _).ramAfter (by decide) ?_
  with_reducible refine (State.switchVariant_ram _).after ?_
  with_reducible exact RamKept.refl _
  with_reducible exact RamKept.refl _

theorem State.linkTick_ram (s : State) :
    RamKept s (State.linkTick s) := by
  unfold State.linkTick
  extract_lets
  with_reducible refine (State.freezeLost_frame _).ramAfter (by decide) ?_
  with_reducible refine (State.selectPlacement_ram _).after ?_
  with_reducible refine (State.switchVariant_ram _).after ?_
  with_reducible refine (State.roleTick_frame _).ramAfter (by decide) ?_
  with_reducible refine (State.loseDatapaths_frame _).ramAfter (by decide) ?_
  with_reducible refine RamKept.each (fun _ _ => ?_) ?_ _
  with_reducible refine (State.porchTick_frame _ _).ramAfter (by decide) ?_
  with_reducible exact RamKept.refl _
  with_reducible exact RamKept.refl _

theorem State.zeroBytes_ram (s : State) (a n : Nat) : RamKept s (State.zeroBytes s a n) :=
  fun h => Memory.wf_zeroBytes h a n

theorem State.freeMemory_ram (s : State) (j : Nat) (again : Bool) :
    RamKept s (State.freeMemory s j again) := by
  unfold State.freeMemory
  extract_lets
  with_reducible refine (SameBut.mem_frame _ _).ramAfter (by decide) ?_
  with_reducible refine RamKept.ite ?_ ?_
  with_reducible refine (State.zeroBytes_ram _ _ _).after ?_
  with_reducible exact RamKept.refl _
  with_reducible refine (State.zeroBytes_ram _ _ _).after ?_
  with_reducible exact RamKept.refl _

theorem State.endJob_ram (s : State) (r j : Nat) :
    RamKept s (State.endJob s r j) := by
  unfold State.endJob
  extract_lets
  with_reducible refine RamKept.ite ?_ ?_
  with_reducible refine (State.raise_frame _ _ _ _ _).ramAfter (by decide) ?_
  with_reducible refine (State.raise_frame _ _ _ _ _).ramAfter (by decide) ?_
  with_reducible refine (State.setJob_frame _ _ _).ramAfter (by decide) ?_
  with_reducible refine (State.updJob_frame _ _ _).ramAfter (by decide) ?_
  with_reducible refine (SameBut.est_frame _ _).ramAfter (by decide) ?_
  with_reducible refine (State.freeMemory_ram _ _ _).after ?_
  with_reducible refine (State.freeShelves_frame _ _).ramAfter (by decide) ?_
  with_reducible refine (State.freeClaims_frame _ _).ramAfter (by decide) ?_
  with_reducible refine (SameBut.til_frame _ _).ramAfter (by decide) ?_
  with_reducible exact RamKept.refl _
  with_reducible refine (State.raise_frame _ _ _ _ _).ramAfter (by decide) ?_
  with_reducible refine (State.setJob_frame _ _ _).ramAfter (by decide) ?_
  with_reducible refine (State.updJob_frame _ _ _).ramAfter (by decide) ?_
  with_reducible refine (SameBut.est_frame _ _).ramAfter (by decide) ?_
  with_reducible refine (State.freeMemory_ram _ _ _).after ?_
  with_reducible refine (State.freeShelves_frame _ _).ramAfter (by decide) ?_
  with_reducible refine (State.freeClaims_frame _ _).ramAfter (by decide) ?_
  with_reducible refine (SameBut.til_frame _ _).ramAfter (by decide) ?_
  with_reducible exact RamKept.refl _

theorem State.endNow_ram (s : State) (r j : Nat) :
    RamKept s (State.endNow s r j) := by
  unfold State.endNow
  with_reducible refine (State.endJob_ram _ _ _).after ?_
  with_reducible exact RamKept.refl _

theorem State.writeByte_ram (s : State) (a : Nat) (b : Byte) : RamKept s (State.writeByte s a b) :=
  fun h => Memory.wf_writeByte h a b

theorem State.copyRange_ram (s : State) (src dst n : Nat) :
    RamKept s (State.copyRange s src dst n) := by
  unfold State.copyRange
  with_reducible refine RamKept.foldl (fun _ _ => ?_) ?_ _
  with_reducible refine (State.writeByte_ram _ _ _).after ?_
  with_reducible exact RamKept.refl _
  with_reducible refine (State.zeroBytes_ram _ _ _).after ?_
  with_reducible exact RamKept.refl _

theorem State.storePages_ram (s : State) (j t : Nat) (back : Bool) :
    RamKept s (State.storePages s j t back) := by
  unfold State.storePages
  with_reducible refine RamKept.foldl (fun _ _ => ?_) ?_ _
  with_reducible refine RamKept.ite ?_ ?_
  with_reducible refine (State.copyRange_ram _ _ _ _).after ?_
  with_reducible exact RamKept.refl _
  with_reducible refine (State.copyRange_ram _ _ _ _).after ?_
  with_reducible exact RamKept.refl _
  with_reducible exact RamKept.refl _

theorem State.evictJob_ram (s : State) (j : Nat) :
    RamKept s (State.evictJob s j) := by
  unfold State.evictJob
  extract_lets
  with_reducible refine (State.updJob_frame _ _ _).ramAfter (by decide) ?_
  with_reducible refine RamKept.each (fun _ _ => ?_) ?_ _
  with_reducible refine RamKept.ite ?_ ?_
  with_reducible refine RamKept.ite ?_ ?_
  with_reducible refine (State.updTile_frame _ _ _).ramAfter (by decide) ?_
  with_reducible refine (State.giveWay_frame _ _).ramAfter (by decide) ?_
  with_reducible exact RamKept.refl _
  with_reducible exact RamKept.refl _
  with_reducible refine (State.storePages_ram _ _ _ _).after ?_
  with_reducible refine RamKept.ite ?_ ?_
  with_reducible refine (State.updTile_frame _ _ _).ramAfter (by decide) ?_
  with_reducible refine (State.giveWay_frame _ _).ramAfter (by decide) ?_
  with_reducible exact RamKept.refl _
  with_reducible exact RamKept.refl _
  with_reducible exact RamKept.refl _

theorem State.clearJobs_ram (s : State) (kept : List Nat) :
    RamKept s (State.clearJobs s kept) := by
  unfold State.clearJobs
  extract_lets
  with_reducible refine (SameBut.til_frame _ _).ramAfter (by decide) ?_
  with_reducible refine RamKept.each (fun _ _ => ?_) ?_ _
  with_reducible refine (State.evictJob_ram _ _).after ?_
  with_reducible exact RamKept.refl _
  with_reducible refine RamKept.each (fun _ _ => ?_) ?_ _
  with_reducible refine (State.endNow_ram _ _ _).after ?_
  with_reducible exact RamKept.refl _
  with_reducible exact RamKept.refl _

theorem State.loadImage_ram (s : State) (r : JobRec) :
    RamKept s (State.loadImage s r) := by
  unfold State.loadImage
  split
  with_reducible refine RamKept.foldl (fun _ _ => ?_) ?_ _
  with_reducible refine (State.writeByte_ram _ _ _).after ?_
  with_reducible exact RamKept.refl _
  with_reducible refine (State.zeroBytes_ram _ _ _).after ?_
  with_reducible exact RamKept.refl _
  with_reducible exact RamKept.refl _

theorem State.commitJobs_ram (s : State) (q : Plan) (kept : List Nat) :
    RamKept s (State.commitJobs s q kept) := by
  unfold State.commitJobs
  with_reducible refine RamKept.foldl (fun _ _ => ?_) ?_ _
  with_reducible refine (State.placeJob_frame _ _ _ _).ramAfter (by decide) ?_
  with_reducible refine RamKept.ite ?_ ?_
  with_reducible refine (State.updJob_frame _ _ _).ramAfter (by decide) ?_
  with_reducible exact RamKept.refl _
  with_reducible refine (State.setJob_frame _ _ _).ramAfter (by decide) ?_
  with_reducible refine RamKept.ite ?_ ?_
  with_reducible refine (State.loadImage_ram _ _).after ?_
  with_reducible refine (State.updJob_frame _ _ _).ramAfter (by decide) ?_
  with_reducible exact RamKept.refl _
  with_reducible refine (State.updJob_frame _ _ _).ramAfter (by decide) ?_
  with_reducible exact RamKept.refl _
  with_reducible refine (State.allotPages_frame _).ramAfter (by decide) ?_
  with_reducible exact RamKept.refl _

theorem State.placeTiles_ram (s : State) (v : Placement) (rolled : Bool) (digest : Nat) :
    RamKept s (State.placeTiles s v rolled digest) := by
  unfold State.placeTiles
  with_reducible refine RamKept.each (fun _ _ => ?_) ?_ _
  with_reducible refine (State.updTile_frame _ _ _).ramAfter (by decide) ?_
  with_reducible refine RamKept.ite ?_ ?_
  with_reducible exact RamKept.refl _
  with_reducible refine (State.fillPages_ram _ _ _ _).after ?_
  with_reducible exact RamKept.refl _
  with_reducible exact RamKept.refl _

theorem State.commitFull_ram (s : State) (q : Plan) (kind : Nat) :
    RamKept s (State.commitFull s q kind) := by
  unfold State.commitFull
  extract_lets
  with_reducible refine RamKept.ite ?_ ?_
  with_reducible refine (State.firstRole_frame _).ramAfter (by decide) ?_
  with_reducible refine RamKept.each (fun _ _ => ?_) ?_ _
  with_reducible refine (State.commitPorch_frame _ _ _).ramAfter (by decide) ?_
  with_reducible exact RamKept.refl _
  with_reducible refine (State.commitJobs_ram _ _ _).after ?_
  with_reducible refine (State.placeTiles_ram _ _ _ _).after ?_
  with_reducible refine (State.clearJobs_ram _ _).after ?_
  with_reducible refine (State.commitShelves_frame _ _ _).ramAfter (by decide) ?_
  with_reducible refine (SameBut.hrt_plan_twn_mem_frame _ _ _ _ _).ramAfter (by decide) ?_
  with_reducible refine (State.commitTables_frame _ _).ramAfter (by decide) ?_
  with_reducible refine (State.commitLoops_frame _ _ _ _).ramAfter (by decide) ?_
  with_reducible refine (State.commitMoves_frame _ _ _).ramAfter (by decide) ?_
  with_reducible exact RamKept.refl _
  with_reducible refine (State.laterRole_frame _).ramAfter (by decide) ?_
  with_reducible refine RamKept.each (fun _ _ => ?_) ?_ _
  with_reducible refine (State.commitPorch_frame _ _ _).ramAfter (by decide) ?_
  with_reducible exact RamKept.refl _
  with_reducible refine (State.commitJobs_ram _ _ _).after ?_
  with_reducible refine (State.placeTiles_ram _ _ _ _).after ?_
  with_reducible refine (State.clearJobs_ram _ _).after ?_
  with_reducible refine (State.commitShelves_frame _ _ _).ramAfter (by decide) ?_
  with_reducible refine (SameBut.hrt_plan_twn_mem_frame _ _ _ _ _).ramAfter (by decide) ?_
  with_reducible refine (State.commitTables_frame _ _).ramAfter (by decide) ?_
  with_reducible refine (State.commitLoops_frame _ _ _ _).ramAfter (by decide) ?_
  with_reducible refine (State.commitMoves_frame _ _ _).ramAfter (by decide) ?_
  with_reducible exact RamKept.refl _

theorem State.restartJob_ram (s : State) (j : Nat) :
    RamKept s (State.restartJob s j) := by
  unfold State.restartJob
  extract_lets
  split
  extract_lets
  split
  with_reducible refine (State.zeroBytes_ram _ _ _).after ?_
  with_reducible refine (State.copyRange_ram _ _ _ _).after ?_
  with_reducible refine (State.admitJob_frame _ _ _ _ _ _).ramAfter (by decide) ?_
  with_reducible refine (State.updJob_frame _ _ _).ramAfter (by decide) ?_
  with_reducible exact RamKept.refl _
  with_reducible refine (State.raise_frame _ _ _ _ _).ramAfter (by decide) ?_
  with_reducible refine (State.jobNotice_frame _ _).ramAfter (by decide) ?_
  with_reducible refine (State.updJob_frame _ _ _).ramAfter (by decide) ?_
  with_reducible refine (State.updJob_frame _ _ _).ramAfter (by decide) ?_
  with_reducible exact RamKept.refl _
  with_reducible exact RamKept.refl _

theorem State.retryRefused_ram (s : State) :
    RamKept s (State.retryRefused s) := by
  unfold State.retryRefused
  with_reducible refine RamKept.each (fun _ _ => ?_) ?_ _
  with_reducible refine (State.restartJob_ram _ _).after ?_
  with_reducible exact RamKept.refl _
  with_reducible exact RamKept.refl _

theorem State.commitPatch_ram (s : State) (q : Plan) :
    RamKept s (State.commitPatch s q) := by
  unfold State.commitPatch
  extract_lets
  with_reducible refine (State.retryRefused_ram _).after ?_
  with_reducible refine RamKept.each (fun _ _ => ?_) ?_ _
  with_reducible refine (State.commitPorch_frame _ _ _).ramAfter (by decide) ?_
  with_reducible exact RamKept.refl _
  with_reducible refine (SameBut.plan_frame _ _).ramAfter (by decide) ?_
  with_reducible refine (State.patchTables_frame _ _).ramAfter (by decide) ?_
  with_reducible refine (State.commitLoops_frame _ _ _ _).ramAfter (by decide) ?_
  with_reducible refine (State.commitMoves_frame _ _ _).ramAfter (by decide) ?_
  with_reducible exact RamKept.refl _

theorem State.commitEffect_ram (s : State) :
    RamKept s (State.commitEffect s) := by
  unfold State.commitEffect
  extract_lets
  with_reducible refine RamKept.ite ?_ ?_
  extract_lets
  split
  with_reducible refine RamKept.ite ?_ ?_
  with_reducible refine (State.commitFail_frame _ _).ramAfter (by decide) ?_
  with_reducible refine (State.patchRelease_frame _).ramAfter (by decide) ?_
  with_reducible refine (SameBut.plan_frame _ _).ramAfter (by decide) ?_
  with_reducible refine (State.decideMoves_frame _).ramAfter (by decide) ?_
  with_reducible exact RamKept.refl _
  with_reducible refine RamKept.ite ?_ ?_
  with_reducible refine (SameBut.plan_frame _ _).ramAfter (by decide) ?_
  with_reducible refine (State.commitDone_frame _).ramAfter (by decide) ?_
  with_reducible refine (SameBut.plan_frame _ _).ramAfter (by decide) ?_
  with_reducible refine (SameBut.staged_frame _ _).ramAfter (by decide) ?_
  with_reducible refine (State.commitSide_frame _).ramAfter (by decide) ?_
  with_reducible refine RamKept.ite ?_ ?_
  with_reducible refine (State.commitPatch_ram _ _).after ?_
  with_reducible refine (State.decideMoves_frame _).ramAfter (by decide) ?_
  with_reducible exact RamKept.refl _
  with_reducible refine (State.commitFull_ram _ _ _).after ?_
  with_reducible refine (State.decideMoves_frame _).ramAfter (by decide) ?_
  with_reducible exact RamKept.refl _
  with_reducible refine RamKept.ite ?_ ?_
  with_reducible refine (State.commitDone_frame _).ramAfter (by decide) ?_
  with_reducible refine (SameBut.plan_frame _ _).ramAfter (by decide) ?_
  with_reducible refine (SameBut.staged_frame _ _).ramAfter (by decide) ?_
  with_reducible refine (State.commitSide_frame _).ramAfter (by decide) ?_
  with_reducible refine RamKept.ite ?_ ?_
  with_reducible refine (State.commitPatch_ram _ _).after ?_
  with_reducible refine (State.decideMoves_frame _).ramAfter (by decide) ?_
  with_reducible exact RamKept.refl _
  with_reducible refine (State.commitFull_ram _ _ _).after ?_
  with_reducible refine (State.decideMoves_frame _).ramAfter (by decide) ?_
  with_reducible exact RamKept.refl _
  with_reducible refine (State.commitDone_frame _).ramAfter (by decide) ?_
  with_reducible refine (State.finishLoads_frame _).ramAfter (by decide) ?_
  with_reducible refine (SameBut.plan_frame _ _).ramAfter (by decide) ?_
  with_reducible refine (SameBut.staged_frame _ _).ramAfter (by decide) ?_
  with_reducible refine (State.commitSide_frame _).ramAfter (by decide) ?_
  with_reducible refine RamKept.ite ?_ ?_
  with_reducible refine (State.commitPatch_ram _ _).after ?_
  with_reducible refine (State.decideMoves_frame _).ramAfter (by decide) ?_
  with_reducible exact RamKept.refl _
  with_reducible refine (State.commitFull_ram _ _ _).after ?_
  with_reducible refine (State.decideMoves_frame _).ramAfter (by decide) ?_
  with_reducible exact RamKept.refl _
  with_reducible refine (SameBut.plan_frame _ _).ramAfter (by decide) ?_
  with_reducible exact RamKept.refl _
  with_reducible exact RamKept.refl _

theorem State.preloadTick_ram (s : State) :
    RamKept s (State.preloadTick s) := by
  unfold State.preloadTick
  extract_lets
  with_reducible refine RamKept.ite ?_ ?_
  with_reducible refine (SameBut.plan_frame _ _).ramAfter (by decide) ?_
  with_reducible refine RamKept.each (fun _ _ => ?_) ?_ _
  with_reducible refine (State.updTile_frame _ _ _).ramAfter (by decide) ?_
  with_reducible refine (State.fillPages_ram _ _ _ _).after ?_
  with_reducible exact RamKept.refl _
  with_reducible refine RamKept.each (fun _ _ => ?_) ?_ _
  with_reducible refine (State.evictJob_ram _ _).after ?_
  with_reducible exact RamKept.refl _
  with_reducible exact RamKept.refl _
  with_reducible exact RamKept.refl _

theorem State.planTick_ram (s : State) :
    RamKept s (State.planTick s) := by
  unfold State.planTick
  with_reducible refine (State.tableTick_frame _).ramAfter (by decide) ?_
  with_reducible refine (State.swapTakeEffect_frame _).ramAfter (by decide) ?_
  with_reducible refine (State.takeDesc_frame _).ramAfter (by decide) ?_
  with_reducible refine (State.descTakeEffect_frame _).ramAfter (by decide) ?_
  with_reducible refine (State.takePlan_frame _).ramAfter (by decide) ?_
  with_reducible refine (State.commitEffect_ram _).after ?_
  with_reducible refine (State.endBridge_frame _).ramAfter (by decide) ?_
  with_reducible refine (State.preloadTick_ram _).after ?_
  with_reducible refine (State.finishValidation_frame _).ramAfter (by decide) ?_
  with_reducible exact RamKept.refl _

theorem State.hallWrite_ram (s : State) (seat off : Nat) (l : List Byte) :
    RamKept s (State.hallWrite s seat off l) := by
  unfold State.hallWrite
  with_reducible refine (State.writeBytes_ram _ _ _).after ?_
  with_reducible exact RamKept.refl _

theorem State.takeSlot_ram (s : State) (i n : Nat) :
    RamKept s (State.takeSlot s i n) := by
  unfold State.takeSlot
  extract_lets
  with_reducible refine (SameBut.taken_frame _ _).ramAfter (by decide) ?_
  with_reducible refine (State.count_frame _ _ _ _ _).ramAfter (by decide) ?_
  with_reducible refine (State.hallWrite_ram _ _ _ _).after ?_
  with_reducible refine (State.hallWrite_ram _ _ _ _).after ?_
  with_reducible exact RamKept.refl _

theorem State.takeOrders_ram (s : State) :
    RamKept s (State.takeOrders s) := by
  unfold State.takeOrders
  with_reducible refine RamKept.foldl (fun _ _ => ?_) ?_ _
  with_reducible refine (State.takeSlot_ram _ _ _).after ?_
  with_reducible exact RamKept.refl _
  with_reducible exact RamKept.refl _

theorem State.control_ram (s : State) (op j : Nat) :
    RamKept s (State.control s op j) := by
  unfold State.control
  split
  with_reducible refine (State.settleParks_frame _ _).ramAfter (by decide) ?_
  with_reducible refine (State.updJob_frame _ _ _).ramAfter (by decide) ?_
  with_reducible exact RamKept.refl _
  with_reducible refine (State.settleParks_frame _ _).ramAfter (by decide) ?_
  with_reducible refine (State.updJob_frame _ _ _).ramAfter (by decide) ?_
  with_reducible exact RamKept.refl _
  with_reducible refine (State.endJob_ram _ _ _).after ?_
  with_reducible exact RamKept.refl _
  with_reducible exact RamKept.refl _

theorem State.controlOrder_ram (s : State) (o : TakenOrder) :
    RamKept s (State.controlOrder s o) := by
  unfold State.controlOrder
  extract_lets
  with_reducible refine (State.settle_frame _ _ _ _).ramAfter (by decide) ?_
  with_reducible refine RamKept.ite ?_ ?_
  with_reducible refine (State.control_ram _ _ _).after ?_
  with_reducible exact RamKept.refl _
  with_reducible exact RamKept.refl _

theorem State.controlOrders_ram (s : State) :
    RamKept s (State.controlOrders s) := by
  unfold State.controlOrders
  with_reducible refine RamKept.foldl (fun _ _ => ?_) ?_ _
  with_reducible refine (State.controlOrder_ram _ _).after ?_
  with_reducible exact RamKept.refl _
  with_reducible exact RamKept.refl _

theorem State.endJobs_ram (s : State) :
    RamKept s (State.endJobs s) := by
  unfold State.endJobs
  with_reducible refine RamKept.each (fun _ _ => ?_) ?_ _
  extract_lets
  split
  with_reducible refine (State.endJob_ram _ _ _).after ?_
  with_reducible exact RamKept.refl _
  with_reducible exact RamKept.refl _
  with_reducible exact RamKept.refl _

theorem State.reloadJob_ram (s : State) (j : Nat) :
    RamKept s (State.reloadJob s j) := by
  unfold State.reloadJob
  with_reducible refine (State.updJob_frame _ _ _).ramAfter (by decide) ?_
  with_reducible refine RamKept.each (fun _ _ => ?_) ?_ _
  with_reducible refine (State.storePages_ram _ _ _ _).after ?_
  with_reducible exact RamKept.refl _
  with_reducible exact RamKept.refl _

theorem State.schedule_ram (s : State) :
    RamKept s (State.schedule s) := by
  unfold State.schedule
  extract_lets
  with_reducible refine RamKept.each (fun _ _ => ?_) ?_ _
  with_reducible refine RamKept.each (fun _ _ => ?_) ?_ _
  with_reducible refine RamKept.ite ?_ ?_
  with_reducible refine (State.updTile_frame _ _ _).ramAfter (by decide) ?_
  with_reducible exact RamKept.refl _
  with_reducible refine (State.switchTo_frame _ _ _).ramAfter (by decide) ?_
  with_reducible exact RamKept.refl _
  with_reducible refine (State.setJob_frame _ _ _).ramAfter (by decide) ?_
  with_reducible refine RamKept.ite ?_ ?_
  with_reducible refine (State.reloadJob_ram _ _).after ?_
  with_reducible exact RamKept.refl _
  with_reducible exact RamKept.refl _
  with_reducible refine RamKept.each (fun _ _ => ?_) ?_ _
  with_reducible refine RamKept.ite ?_ ?_
  with_reducible refine (State.setJob_frame _ _ _).ramAfter (by decide) ?_
  with_reducible exact RamKept.refl _
  with_reducible exact RamKept.refl _
  with_reducible refine (SameBut.til_frame _ _).ramAfter (by decide) ?_
  with_reducible refine RamKept.each (fun _ _ => ?_) ?_ _
  with_reducible refine RamKept.ite ?_ ?_
  with_reducible refine (State.giveWay_frame _ _).ramAfter (by decide) ?_
  with_reducible exact RamKept.refl _
  with_reducible exact RamKept.refl _
  with_reducible exact RamKept.refl _

theorem State.takeJobCtl_ram (s : State) :
    RamKept s (State.takeJobCtl s) := by
  unfold State.takeJobCtl
  extract_lets
  split
  with_reducible refine RamKept.ite ?_ ?_
  with_reducible refine (State.control_ram _ _ _).after ?_
  with_reducible refine (SameBut.til_frame _ _).ramAfter (by decide) ?_
  with_reducible exact RamKept.refl _
  with_reducible refine (SameBut.til_frame _ _).ramAfter (by decide) ?_
  with_reducible exact RamKept.refl _
  with_reducible exact RamKept.refl _

theorem State.jobTick_ram (s : State) :
    RamKept s (State.jobTick s) := by
  unfold State.jobTick
  extract_lets
  with_reducible refine (State.freeNumbers_frame _).ramAfter (by decide) ?_
  with_reducible refine RamKept.each (fun _ _ => ?_) ?_ _
  with_reducible refine (State.settleParks_frame _ _).ramAfter (by decide) ?_
  with_reducible refine (State.setJob_frame _ _ _).ramAfter (by decide) ?_
  with_reducible refine (State.updJob_frame _ _ _).ramAfter (by decide) ?_
  with_reducible exact RamKept.refl _
  with_reducible refine (State.schedule_ram _).after ?_
  with_reducible refine (State.parkTick_frame _).ramAfter (by decide) ?_
  with_reducible refine (State.controlOrders_ram _).after ?_
  with_reducible refine (State.takeJobCtl_ram _).after ?_
  with_reducible refine RamKept.each (fun _ _ => ?_) ?_ _
  with_reducible refine (State.restartJob_ram _ _).after ?_
  with_reducible exact RamKept.refl _
  with_reducible refine (State.endJobs_ram _).after ?_
  with_reducible exact RamKept.refl _

theorem State.workTick_ram (s : State) (x : TickIn) :
    RamKept s (State.workTick s x) := by
  unfold State.workTick
  with_reducible refine (State.laneTick_frame _ _ _).ramAfter (by decide) ?_
  with_reducible refine (State.shelfTick_frame _).ramAfter (by decide) ?_
  with_reducible refine (State.jobTick_ram _).after ?_
  with_reducible refine (State.memTick_frame _ _).ramAfter (by decide) ?_
  with_reducible refine (State.tileTick_frame _).ramAfter (by decide) ?_
  with_reducible exact RamKept.refl _

theorem State.atTick_ram (s : State) (x : TickIn) (from_ : Nat) :
    RamKept s (State.atTick s x from_) := by
  unfold State.atTick
  extract_lets
  with_reducible refine (State.powerUpTick_frame _).ramAfter (by decide) ?_
  with_reducible refine (State.featTick_frame _).ramAfter (by decide) ?_
  with_reducible refine RamKept.ite ?_ ?_
  with_reducible refine (State.passTick_frame _ _).ramAfter (by decide) ?_
  with_reducible refine (State.workTick_ram _ _).after ?_
  with_reducible refine (State.loopTick_frame _ _).ramAfter (by decide) ?_
  with_reducible refine (State.freezeRest_frame _).ramAfter (by decide) ?_
  with_reducible refine (State.planTick_ram _).after ?_
  with_reducible refine (State.takeOrders_ram _).after ?_
  with_reducible refine (State.updTick_frame _ _).ramAfter (by decide) ?_
  with_reducible refine (State.thermTick_frame _ _ _).ramAfter (by decide) ?_
  with_reducible refine (State.resetsTick_frame _).ramAfter (by decide) ?_
  with_reducible refine RamKept.ite ?_ ?_
  with_reducible refine (State.offAndFreeze_frame _).ramAfter (by decide) ?_
  with_reducible refine (State.hearthTick_frame _).ramAfter (by decide) ?_
  with_reducible refine RamKept.ite ?_ ?_
  with_reducible refine (State.linkTick_ram _).after ?_
  with_reducible refine (State.configTick_frame _).ramAfter (by decide) ?_
  with_reducible exact RamKept.refl _
  with_reducible refine (State.configTick_frame _).ramAfter (by decide) ?_
  with_reducible exact RamKept.refl _
  with_reducible refine (State.hearthTick_frame _).ramAfter (by decide) ?_
  with_reducible refine RamKept.ite ?_ ?_
  with_reducible refine (State.linkTick_ram _).after ?_
  with_reducible refine (State.configTick_frame _).ramAfter (by decide) ?_
  with_reducible exact RamKept.refl _
  with_reducible refine (State.configTick_frame _).ramAfter (by decide) ?_
  with_reducible exact RamKept.refl _
  with_reducible refine (State.takeOrders_ram _).after ?_
  with_reducible refine (State.updTick_frame _ _).ramAfter (by decide) ?_
  with_reducible refine (State.thermTick_frame _ _ _).ramAfter (by decide) ?_
  with_reducible refine (State.resetsTick_frame _).ramAfter (by decide) ?_
  with_reducible refine RamKept.ite ?_ ?_
  with_reducible refine (State.offAndFreeze_frame _).ramAfter (by decide) ?_
  with_reducible refine (State.hearthTick_frame _).ramAfter (by decide) ?_
  with_reducible refine RamKept.ite ?_ ?_
  with_reducible refine (State.linkTick_ram _).after ?_
  with_reducible refine (State.configTick_frame _).ramAfter (by decide) ?_
  with_reducible exact RamKept.refl _
  with_reducible refine (State.configTick_frame _).ramAfter (by decide) ?_
  with_reducible exact RamKept.refl _
  with_reducible refine (State.hearthTick_frame _).ramAfter (by decide) ?_
  with_reducible refine RamKept.ite ?_ ?_
  with_reducible refine (State.linkTick_ram _).after ?_
  with_reducible refine (State.configTick_frame _).ramAfter (by decide) ?_
  with_reducible exact RamKept.refl _
  with_reducible refine (State.configTick_frame _).ramAfter (by decide) ?_
  with_reducible exact RamKept.refl _

theorem State.finishOrder_ram (s : State) (o : TakenOrder) :
    RamKept s (State.finishOrder s o) := by
  unfold State.finishOrder
  extract_lets
  with_reducible refine RamKept.ite ?_ ?_
  with_reducible exact RamKept.refl _
  with_reducible refine RamKept.ite ?_ ?_
  with_reducible refine (State.raiseRecord_frame _ _ _ _ _).ramAfter (by decide) ?_
  with_reducible refine (State.hallWrite_ram _ _ _ _).after ?_
  with_reducible exact RamKept.refl _
  with_reducible refine (State.hallWrite_ram _ _ _ _).after ?_
  with_reducible exact RamKept.refl _

theorem State.finishOrders_ram (s : State) :
    RamKept s (State.finishOrders s) := by
  unfold State.finishOrders
  extract_lets
  with_reducible refine (SameBut.taken_frame _ _).ramAfter (by decide) ?_
  with_reducible refine RamKept.foldl (fun _ _ => ?_) ?_ _
  with_reducible refine (State.finishOrder_ram _ _).after ?_
  with_reducible exact RamKept.refl _
  with_reducible exact RamKept.refl _

theorem State.writeNotice_ram (s : State) (i : Nat) (e : Event × Nat) :
    RamKept s (State.writeNotice s i e) := by
  unfold State.writeNotice
  extract_lets
  with_reducible refine RamKept.ite ?_ ?_
  with_reducible refine RamKept.ite ?_ ?_
  with_reducible refine (State.updSeat_frame _ _ _).ramAfter (by decide) ?_
  with_reducible refine (State.count_frame _ _ _ _ _).ramAfter (by decide) ?_
  with_reducible exact RamKept.refl _
  with_reducible refine (State.seatEvt_frame _ _ _).ramAfter (by decide) ?_
  with_reducible refine (State.updSeat_frame _ _ _).ramAfter (by decide) ?_
  with_reducible refine (State.count_frame _ _ _ _ _).ramAfter (by decide) ?_
  with_reducible exact RamKept.refl _
  with_reducible refine (State.updSeat_frame _ _ _).ramAfter (by decide) ?_
  with_reducible refine (State.hallWrite_ram _ _ _ _).after ?_
  with_reducible exact RamKept.refl _

theorem State.flushNotices_ram (s : State) :
    RamKept s (State.flushNotices s) := by
  unfold State.flushNotices
  extract_lets
  with_reducible refine RamKept.ite ?_ ?_
  with_reducible refine RamKept.foldl (fun _ _ => ?_) ?_ _
  with_reducible refine (State.setEvt_frame _ _).ramAfter (by decide) ?_
  with_reducible exact RamKept.refl _
  with_reducible refine (SameBut.port_events_later_frame _ _ _ _).ramAfter (by decide) ?_
  with_reducible exact RamKept.refl _
  with_reducible refine RamKept.each (fun _ _ => ?_) ?_ _
  with_reducible refine RamKept.ite ?_ ?_
  with_reducible refine (State.sendMsix_frame _ _ _).ramAfter (by decide) ?_
  with_reducible refine RamKept.ite ?_ ?_
  with_reducible refine RamKept.foldl (fun _ _ => ?_) ?_ _
  with_reducible refine (State.writeNotice_ram _ _ _).after ?_
  with_reducible exact RamKept.refl _
  with_reducible exact RamKept.refl _
  with_reducible refine (State.setReg_frame _ _ _).ramAfter (by decide) ?_
  with_reducible refine RamKept.foldl (fun _ _ => ?_) ?_ _
  with_reducible refine (State.writeNotice_ram _ _ _).after ?_
  with_reducible exact RamKept.refl _
  with_reducible exact RamKept.refl _
  with_reducible refine RamKept.ite ?_ ?_
  with_reducible refine RamKept.foldl (fun _ _ => ?_) ?_ _
  with_reducible refine (State.writeNotice_ram _ _ _).after ?_
  with_reducible exact RamKept.refl _
  with_reducible exact RamKept.refl _
  with_reducible refine (State.setReg_frame _ _ _).ramAfter (by decide) ?_
  with_reducible refine RamKept.foldl (fun _ _ => ?_) ?_ _
  with_reducible refine (State.writeNotice_ram _ _ _).after ?_
  with_reducible exact RamKept.refl _
  with_reducible exact RamKept.refl _
  with_reducible refine RamKept.foldl (fun _ _ => ?_) ?_ _
  with_reducible refine (State.setEvt_frame _ _).ramAfter (by decide) ?_
  with_reducible exact RamKept.refl _
  with_reducible refine (SameBut.port_events_later_frame _ _ _ _).ramAfter (by decide) ?_
  with_reducible exact RamKept.refl _

theorem State.beginFrame_ram (s : State) :
    RamKept s (State.beginFrame s) := by
  unfold State.beginFrame
  extract_lets
  with_reducible refine (State.freshFrame_frame _).ramAfter (by decide) ?_
  with_reducible refine (State.writePages_frame _).ramAfter (by decide) ?_
  with_reducible refine (State.flushNotices_ram _).after ?_
  with_reducible refine (State.atticTick_frame _).ramAfter (by decide) ?_
  with_reducible refine RamKept.ite ?_ ?_
  with_reducible refine (State.finishOrders_ram _).after ?_
  with_reducible refine (State.newCells_frame _).ramAfter (by decide) ?_
  with_reducible refine (State.pinTick_frame _).ramAfter (by decide) ?_
  with_reducible refine (State.newFrame_frame _).ramAfter (by decide) ?_
  with_reducible exact RamKept.refl _
  with_reducible refine (State.startCells_frame _).ramAfter (by decide) ?_
  with_reducible refine (State.pinTick_frame _).ramAfter (by decide) ?_
  with_reducible refine (State.newFrame_frame _).ramAfter (by decide) ?_
  with_reducible exact RamKept.refl _

theorem State.writeScratch_ram (s : State) (t : Nat) (pages : List Nat) (o : Nat) (l : List Byte) :
    RamKept s (State.writeScratch s t pages o l) := by
  unfold State.writeScratch
  with_reducible refine RamKept.foldl (fun _ _ => ?_) ?_ _
  extract_lets
  split
  with_reducible refine (State.writeByte_ram _ _ _).after ?_
  with_reducible exact RamKept.refl _
  with_reducible exact RamKept.refl _
  with_reducible exact RamKept.refl _

theorem State.writeLoc_ram (s : State) (l : List Byte) (x : Loc) : ∀ t, s.writeLoc l x = some t → RamKept s t := by
  intro t h
  unfold State.writeLoc at h
  split at h
  · cases h; exact State.writeBytes_ram _ _ _
  · cases h; exact State.writeScratch_ram _ _ _ _ _
  · cases h; exact (State.updTable_frame _ _ _).ram (by decide)
  · cases h; exact State.hallWrite_ram _ _ _ _
  · cases h; exact RamKept.refl _
  · exact (State.pushWords_frame _ _ _ _ h).ram (by decide)

theorem State.moveBeat_ram (s : State) (t q j : Nat) (c : Copy) (b : Nat) (cellar : List Byte) (lost : Option Nat)
    (win : Nat × Nat × Bool) : RamKept s (State.moveBeat s t q j c b cellar lost win) := by
  unfold State.moveBeat
  extract_lets
  split
  split
  with_reducible refine (State.copyFault_frame _ _ _ _ _ _ _ _).ramAfter (by decide) ?_
  with_reducible exact RamKept.refl _
  with_reducible refine (State.copyFault_frame _ _ _ _ _ _ _ _).ramAfter (by decide) ?_
  with_reducible exact RamKept.refl _
  with_reducible refine (State.copyFault_frame _ _ _ _ _ _ _ _).ramAfter (by decide) ?_
  with_reducible exact RamKept.refl _
  with_reducible refine (State.copyFault_frame _ _ _ _ _ _ _ _).ramAfter (by decide) ?_
  with_reducible exact RamKept.refl _
  extract_lets w1
  split
  with_reducible refine RamKept.ite ?_ ?_
  extract_lets w1
  dsimp only [w1]
  split
  with_reducible refine (State.advanceCopy_frame _ _ _ _ _).ramAfter (by decide) ?_
  with_reducible refine (State.writeLoc_ram _ _ _ _ (by assumption)).after ?_
  with_reducible exact RamKept.refl _
  with_reducible exact RamKept.refl _
  with_reducible refine (State.advanceCopy_frame _ _ _ _ _).ramAfter (by decide) ?_
  with_reducible refine (State.copyFault_frame _ _ _ _ _ _ _ _).ramAfter (by decide) ?_
  with_reducible exact RamKept.refl _
  with_reducible refine RamKept.ite ?_ ?_
  with_reducible refine (State.copyFault_frame _ _ _ _ _ _ _ _).ramAfter (by decide) ?_
  with_reducible exact RamKept.refl _
  with_reducible refine RamKept.ite ?_ ?_
  with_reducible exact RamKept.refl _
  extract_lets w1
  dsimp only [w1]
  split
  with_reducible refine (State.advanceCopy_frame _ _ _ _ _).ramAfter (by decide) ?_
  with_reducible refine (State.writeLoc_ram _ _ _ _ (by assumption)).after ?_
  with_reducible exact RamKept.refl _
  with_reducible exact RamKept.refl _
  dsimp only [w1]
  split
  with_reducible refine (State.advanceCopy_frame _ _ _ _ _).ramAfter (by decide) ?_
  with_reducible refine (State.writeLoc_ram _ _ _ _ (by assumption)).after ?_
  with_reducible exact RamKept.refl _
  with_reducible exact RamKept.refl _

theorem State.bulkBeat_ram (s : State) (t q j : Nat) (c : Copy) (b : Nat) (out : BeatOutcome) :
    RamKept s (s.bulkBeat t q j c b out) := by
  have hp := State.reserveFor_frame s t q j c
  unfold State.bulkBeat
  revert hp
  generalize s.reserveFor t q j c = p
  intro hp
  obtain ⟨s1, c1⟩ := p
  have hm : RamKept s s1 := hp.ram (by decide)
  dsimp only
  refine RamKept.ite (RamKept.ite ((State.advanceCopy_frame _ _ _ _ _).ramAfter (by decide) hm) hm) ?_
  have h2 : RamKept s (s1.checkBeat t j c1 (s1.lineOutcome out)) := (State.checkBeat_frame _ _ _ _ _).ramAfter (by decide) hm
  have hl : RamKept (s1.checkBeat t j c1 (s1.lineOutcome out)) ((s1.checkBeat t j c1 (s1.lineOutcome out)).lineError (s1.lineOutcome out)).1 := (State.lineError_frame (s1.checkBeat t j c1 (s1.lineOutcome out)) (s1.lineOutcome out)).ram (by decide)
  revert hl
  generalize (s1.checkBeat t j c1 (s1.lineOutcome out)).lineError (s1.lineOutcome out) = r
  intro hl
  obtain ⟨s3, f, lost⟩ := r
  have hn : RamKept s s3 := hl.after h2
  cases f with
  | none => exact (State.moveBeat_ram _ _ _ _ _ _ _ _ _).after hn
  | some f => exact (State.faultBeat_frame _ _ _ _ _ _ _).ramAfter (by decide) hn

theorem State.copyRecords_ram (s : State) (x : AtticRead) (l : List AtticRec) : RamKept s (s.copyRecords x l).1 := by
  induction l generalizing s x with
  | nil => exact RamKept.refl _
  | cons r l ih =>
    unfold State.copyRecords
    split
    · exact ih _ _
    · split
      · exact RamKept.refl _
      · split
        · exact ih _ _
        · split
          · exact RamKept.refl _
          · extract_lets b
            split
            · exact RamKept.refl _
            · exact (ih _ _).after (s := s) (RamKept.ite (State.hallWrite_ram _ _ _ _) (RamKept.refl _))

theorem State.frameBeat_ram (s : State) (t q : Nat) (c : Copy) (b : Nat) (out : BeatOutcome) :
    RamKept s (s.frameBeat t q c b out) := by
  unfold State.frameBeat
  refine RamKept.ite (RamKept.refl _) ?_
  have hl : RamKept s (s.lineError (s.lineOutcome out)).1 := (State.lineError_frame s (s.lineOutcome out)).ram (by decide)
  revert hl
  generalize s.lineError (s.lineOutcome out) = r
  intro hl
  obtain ⟨s1, f, lost⟩ := r
  have hf : ∀ (e : CopyFault) (a : Nat), RamKept s (if e = .protection ∧ a < 0x400000 then s1.loseTile t else s1) :=
    fun e a => RamKept.ite ((State.loseTile_frame _ _).ramAfter (by decide) hl) hl
  dsimp only
  split
  · exact hf _ _
  · exact hf _ _
  · exact hf _ _
  · exact hf _ _
  · split
    · rename_i u h
      exact (State.advanceCopy_frame _ _ _ _ _).ramAfter (by decide) ((State.writeLoc_ram _ _ _ _ h).after hl)
    · exact hl

theorem State.takeEarly_ram (s : State) (i n typ : Nat) :
    RamKept s (State.takeEarly s i n typ) := by
  unfold State.takeEarly
  with_reducible refine RamKept.ite ?_ ?_
  with_reducible refine (State.takeSlot_ram _ _ _).after ?_
  with_reducible exact RamKept.refl _
  with_reducible exact RamKept.refl _

theorem State.jobCtl_ram (s : State) (src : CtlSource) (op j : Nat) :
    RamKept s (State.jobCtl s src op j) := by
  unfold State.jobCtl
  extract_lets
  split
  with_reducible refine RamKept.ite ?_ ?_
  with_reducible refine (SameBut.til_frame _ _).ramAfter (by decide) ?_
  with_reducible exact RamKept.refl _
  with_reducible exact RamKept.refl _
  with_reducible refine RamKept.ite ?_ ?_
  with_reducible refine (State.takeEarly_ram _ _ _ _).after ?_
  with_reducible exact RamKept.refl _
  with_reducible exact RamKept.refl _

theorem State.wholeReset_ram (s : State) : RamKept s (State.wholeReset s) := fun _ => rfl

theorem State.recoverTick_ram (s : State) :
    RamKept s (State.recoverTick s) := by
  unfold State.recoverTick
  extract_lets
  with_reducible refine RamKept.ite ?_ ?_
  with_reducible refine (State.startBoot_frame _).ramAfter (by decide) ?_
  with_reducible refine (State.wholeReset_ram _).after ?_
  with_reducible refine (SameBut.upd_frame _ _).ramAfter (by decide) ?_
  with_reducible exact RamKept.refl _
  with_reducible exact RamKept.refl _

theorem State.ringSample_ram (s : State) (c : Channel) (i : Nat) (w : Word) :
    RamKept s (State.ringSample s c i w) := by
  unfold State.ringSample
  with_reducible refine (State.hallWrite_ram _ _ _ _).after ?_
  with_reducible exact RamKept.refl _

theorem State.ringSamples_ram (s : State) (c : Channel) (i : Nat) (l : List Word) : RamKept s (s.ringSamples c i l) := by
  induction l generalizing s i with
  | nil => exact RamKept.refl _
  | cons w ws ih => exact (ih _ _).after (State.ringSample_ram _ _ _ _)

theorem execAbort_ram (src : CtlSource) (s : State) :
    After RamKept s (execAbort src s) := by
  unfold execAbort
  extract_lets
  split
  with_reducible refine After.next ?_
  with_reducible refine (SameBut.ops_frame _ _).ramAfter (by decide) ?_
  with_reducible exact RamKept.refl _
  split
  with_reducible refine After.next ?_
  with_reducible refine (State.takeAbort_frame _ _).ramAfter (by decide) ?_
  with_reducible exact RamKept.refl _
  with_reducible refine After.next ?_
  with_reducible refine (State.takeEarly_ram _ _ _ _).after ?_
  with_reducible exact RamKept.refl _

theorem movWrite_ram (a m : Nat) (x : Word) (s : State) :
    After RamKept s (movWrite a m x s) := by
  unfold movWrite
  extract_lets
  with_reducible refine After.ite ?_ ?_
  extract_lets
  split
  with_reducible refine (execAbort_ram _ _).ramAfter ?_
  with_reducible refine RamKept.ite ?_ ?_
  with_reducible exact RamKept.refl _
  with_reducible refine (State.setField_frame _ _ _ _ _).ramAfter (by decide) ?_
  with_reducible exact RamKept.refl _
  with_reducible refine (execRearm_frame _ _).ramAfter (by decide) ?_
  with_reducible refine RamKept.ite ?_ ?_
  with_reducible exact RamKept.refl _
  with_reducible refine (State.setField_frame _ _ _ _ _).ramAfter (by decide) ?_
  with_reducible exact RamKept.refl _
  with_reducible refine (execRearmAll_frame _).ramAfter (by decide) ?_
  with_reducible refine RamKept.ite ?_ ?_
  with_reducible exact RamKept.refl _
  with_reducible refine (State.setField_frame _ _ _ _ _).ramAfter (by decide) ?_
  with_reducible exact RamKept.refl _
  with_reducible refine After.next ?_
  with_reducible refine RamKept.ite ?_ ?_
  with_reducible exact RamKept.refl _
  with_reducible refine (State.setField_frame _ _ _ _ _).ramAfter (by decide) ?_
  with_reducible exact RamKept.refl _
  with_reducible refine After.next ?_
  with_reducible exact RamKept.refl _

theorem execJobPark_ram (src : CtlSource) (job : BitVec 8) (s : State) :
    After RamKept s (execJobPark src job s) := by
  unfold execJobPark
  with_reducible refine After.next ?_
  with_reducible refine (State.jobCtl_ram _ _ _ _).after ?_
  with_reducible exact RamKept.refl _

theorem execJobResume_ram (src : CtlSource) (job : BitVec 8) (s : State) :
    After RamKept s (execJobResume src job s) := by
  unfold execJobResume
  with_reducible refine After.next ?_
  with_reducible refine (State.jobCtl_ram _ _ _ _).after ?_
  with_reducible exact RamKept.refl _

theorem execJobStop_ram (src : CtlSource) (job : BitVec 8) (s : State) :
    After RamKept s (execJobStop src job s) := by
  unfold execJobStop
  with_reducible refine After.next ?_
  with_reducible refine (State.jobCtl_ram _ _ _ _).after ?_
  with_reducible exact RamKept.refl _

theorem tilWrite_ram (a : Nat) (x : Word) (s : State) :
    After RamKept s (tilWrite a x s) := by
  unfold tilWrite
  extract_lets
  with_reducible refine After.ite ?_ ?_
  extract_lets
  split
  with_reducible refine (execJobPark_ram _ _ _).ramAfter ?_
  with_reducible exact RamKept.refl _
  with_reducible refine (execJobResume_ram _ _ _).ramAfter ?_
  with_reducible exact RamKept.refl _
  with_reducible refine (execJobStop_ram _ _ _).ramAfter ?_
  with_reducible exact RamKept.refl _
  with_reducible refine After.next ?_
  with_reducible exact RamKept.refl _
  with_reducible refine After.next ?_
  with_reducible exact RamKept.refl _

theorem opWrite_ram (seat a m : Nat) (x : Word) (s : State) :
    After RamKept s (opWrite seat a m x s) := by
  unfold opWrite
  with_reducible refine After.ite ?_ ?_
  with_reducible refine (seatWrite_frame _ _ _ _).ramAfter (by decide) ?_
  with_reducible exact RamKept.refl _
  with_reducible refine After.ite ?_ ?_
  with_reducible refine (loopWrite_frame _ _ _ _).ramAfter (by decide) ?_
  with_reducible exact RamKept.refl _
  extract_lets
  split
  with_reducible refine After.ite ?_ ?_
  with_reducible refine (execEpochArm_frame _).ramAfter (by decide) ?_
  with_reducible exact RamKept.refl _
  with_reducible refine After.next ?_
  with_reducible exact RamKept.refl _
  with_reducible refine (plnWrite_frame _ _ _).ramAfter (by decide) ?_
  with_reducible exact RamKept.refl _
  with_reducible refine (movWrite_ram _ _ _ _).ramAfter ?_
  with_reducible exact RamKept.refl _
  with_reducible refine (tilWrite_ram _ _ _).ramAfter ?_
  with_reducible exact RamKept.refl _
  with_reducible refine After.ite ?_ ?_
  with_reducible refine (execCellarApply_frame _).ramAfter (by decide) ?_
  with_reducible exact RamKept.refl _
  with_reducible refine After.next ?_
  with_reducible exact RamKept.refl _
  with_reducible refine (shfWrite_frame _ _ _).ramAfter (by decide) ?_
  with_reducible exact RamKept.refl _
  with_reducible refine (pchWrite_frame _ _ _).ramAfter (by decide) ?_
  with_reducible exact RamKept.refl _
  with_reducible refine (lnhWrite_frame _ _ _ _).ramAfter (by decide) ?_
  with_reducible exact RamKept.refl _
  with_reducible refine (twnWrite_frame _ _ _ _ _).ramAfter (by decide) ?_
  with_reducible exact RamKept.refl _
  with_reducible refine (updWrite_frame _ _ _).ramAfter (by decide) ?_
  with_reducible exact RamKept.refl _
  with_reducible refine (attWrite_frame _ _ _).ramAfter (by decide) ?_
  with_reducible exact RamKept.refl _
  with_reducible refine (trcWrite_frame _ _ _).ramAfter (by decide) ?_
  with_reducible exact RamKept.refl _
  with_reducible refine After.ite ?_ ?_
  with_reducible refine (execFaultClear_frame _ _).ramAfter (by decide) ?_
  with_reducible exact RamKept.refl _
  with_reducible refine After.next ?_
  with_reducible exact RamKept.refl _
  with_reducible refine After.next ?_
  with_reducible exact RamKept.refl _

theorem State.writeReg_ram (s : State) (seat a m : Nat) (x : Word) :
    After RamKept s (State.writeReg s seat a m x) := by
  unfold State.writeReg
  with_reducible refine After.ite ?_ ?_
  with_reducible refine After.next ?_
  with_reducible refine (State.storeReg_frame _ _ _ _).ramAfter (by decide) ?_
  with_reducible exact RamKept.refl _
  with_reducible refine After.ite ?_ ?_
  with_reducible refine After.next ?_
  with_reducible exact RamKept.refl _
  with_reducible refine After.ite ?_ ?_
  with_reducible refine (opWrite_ram _ _ _ _ _).ramAfter ?_
  with_reducible exact RamKept.refl _
  with_reducible refine (opWrite_ram _ _ _ _ _).ramAfter ?_
  with_reducible refine (State.storeReg_frame _ _ _ _).ramAfter (by decide) ?_
  with_reducible exact RamKept.refl _

theorem execBeatComplete_ram (tile : BitVec 7) (queue : BitVec 2) (beat : Option (BitVec 8) × Nat) (out : BeatOutcome) (s : State) :
    After RamKept s (execBeatComplete tile queue beat out s) := by
  unfold execBeatComplete
  extract_lets
  split
  with_reducible refine After.next ?_
  with_reducible refine (State.loadBeat_frame _ _ _ _ _).ramAfter (by decide) ?_
  with_reducible exact RamKept.refl _
  with_reducible refine After.next ?_
  with_reducible refine (State.raise_frame _ _ _ _ _).ramAfter (by decide) ?_
  with_reducible refine (State.loadBeat_frame _ _ _ _ _).ramAfter (by decide) ?_
  with_reducible exact RamKept.refl _
  with_reducible refine After.ite ?_ ?_
  with_reducible refine After.next ?_
  with_reducible exact RamKept.refl _
  extract_lets
  split
  split
  with_reducible refine After.next ?_
  with_reducible refine (State.frameBeat_ram _ _ _ _ _ _).after ?_
  with_reducible exact RamKept.refl _
  with_reducible refine After.next ?_
  with_reducible exact RamKept.refl _
  split
  split
  with_reducible refine After.next ?_
  with_reducible refine (State.bulkBeat_ram _ _ _ _ _ _ _).after ?_
  with_reducible exact RamKept.refl _
  with_reducible refine After.next ?_
  with_reducible exact RamKept.refl _
  with_reducible refine After.next ?_
  with_reducible exact RamKept.refl _

theorem execClearingDone_ram (seat : BitVec 3) (s : State) :
    After RamKept s (execClearingDone seat s) := by
  unfold execClearingDone
  extract_lets
  with_reducible refine After.ite ?_ ?_
  with_reducible refine After.next ?_
  with_reducible refine (State.updSeat_frame _ _ _).ramAfter (by decide) ?_
  with_reducible refine (State.zeroBytes_ram _ _ _).after ?_
  with_reducible exact RamKept.refl _
  with_reducible refine After.next ?_
  with_reducible exact RamKept.refl _

theorem execCommitTakeEffect_ram (s : State) :
    After RamKept s (execCommitTakeEffect s) := by
  unfold execCommitTakeEffect
  with_reducible refine After.next ?_
  with_reducible refine (State.commitEffect_ram _).after ?_
  with_reducible exact RamKept.refl _

theorem execIodSupplyFault_ram (s : State) :
    After RamKept s (execIodSupplyFault s) := by
  unfold execIodSupplyFault
  extract_lets
  with_reducible refine After.next ?_
  with_reducible refine (SameBut.boot_frame _ _).ramAfter (by decide) ?_
  with_reducible refine (State.wholeReset_ram _).after ?_
  with_reducible exact RamKept.refl _

theorem execJobAdmitted_ram (job : BitVec 8) (s : State) :
    After RamKept s (execJobAdmitted job s) := by
  unfold execJobAdmitted
  extract_lets
  split
  with_reducible refine After.ite ?_ ?_
  with_reducible refine After.next ?_
  with_reducible exact RamKept.refl _
  with_reducible refine After.ite ?_ ?_
  with_reducible refine After.next ?_
  with_reducible refine (State.updJob_frame _ _ _).ramAfter (by decide) ?_
  with_reducible refine (State.copyRange_ram _ _ _ _).after ?_
  with_reducible exact RamKept.refl _
  with_reducible refine After.next ?_
  with_reducible refine (State.endAt_frame _ _ _).ramAfter (by decide) ?_
  with_reducible refine (State.updJob_frame _ _ _).ramAfter (by decide) ?_
  with_reducible exact RamKept.refl _
  with_reducible refine After.next ?_
  with_reducible exact RamKept.refl _

theorem execPlacementSelect_ram (s : State) :
    After RamKept s (execPlacementSelect s) := by
  unfold execPlacementSelect
  with_reducible refine After.next ?_
  with_reducible refine (State.selectPlacement_ram _).after ?_
  with_reducible exact RamKept.refl _

theorem execPorAssert_ram (s : State) :
    After RamKept s (execPorAssert s) := by
  unfold execPorAssert
  extract_lets
  with_reducible refine After.next ?_
  with_reducible refine (SameBut.pins_frame _ _).ramAfter (by decide) ?_
  with_reducible refine (State.wholeReset_ram _).after ?_
  with_reducible exact RamKept.refl _

theorem execReadDone_ram (s : State) :
    After RamKept s (execReadDone s) := by
  unfold execReadDone
  split
  with_reducible refine After.ite ?_ ?_
  with_reducible refine After.next ?_
  with_reducible exact RamKept.refl _
  with_reducible refine After.next ?_
  with_reducible refine (SameBut.att_frame _ _).ramAfter (by decide) ?_
  with_reducible refine (State.copyRecords_ram _ _ _).after ?_
  with_reducible exact RamKept.refl _
  with_reducible refine After.next ?_
  with_reducible exact RamKept.refl _

theorem execRegisterWrite_ram (seat : BitVec 3) (offset : BitVec 22) (w : Width) (v : Word) (s : State) :
    After RamKept s (execRegisterWrite seat offset w v s) := by
  unfold execRegisterWrite
  extract_lets
  with_reducible refine After.ite ?_ ?_
  with_reducible exact After.fault _ _ _
  extract_lets
  split
  with_reducible refine After.next ?_
  with_reducible exact RamKept.refl _
  with_reducible refine After.ite ?_ ?_
  with_reducible refine (execTableWindowAccess_frame _ _ _ _).ramAfter (by decide) ?_
  with_reducible exact RamKept.refl _
  with_reducible refine (State.writeReg_ram _ _ _ _ _).ramAfter ?_
  with_reducible exact RamKept.refl _

theorem execSlotWrite_ram (seat : BitVec 3) (offset : BitVec 28) (bytes : List Byte) (s : State) :
    After RamKept s (execSlotWrite seat offset bytes s) := by
  unfold execSlotWrite
  extract_lets
  with_reducible refine After.ite ?_ ?_
  with_reducible exact After.fault _ _ _
  with_reducible refine After.ite ?_ ?_
  with_reducible refine After.next ?_
  with_reducible exact RamKept.refl _
  with_reducible refine After.next ?_
  with_reducible refine RamKept.ite ?_ ?_
  with_reducible refine (State.seatEvt_frame _ _ _).ramAfter (by decide) ?_
  with_reducible refine RamKept.foldl (fun _ _ => ?_) ?_ _
  with_reducible refine RamKept.ite ?_ ?_
  with_reducible exact RamKept.refl _
  with_reducible refine (State.writeByte_ram _ _ _).after ?_
  with_reducible exact RamKept.refl _
  with_reducible exact RamKept.refl _
  with_reducible refine RamKept.foldl (fun _ _ => ?_) ?_ _
  with_reducible refine RamKept.ite ?_ ?_
  with_reducible exact RamKept.refl _
  with_reducible refine (State.writeByte_ram _ _ _).after ?_
  with_reducible exact RamKept.refl _
  with_reducible exact RamKept.refl _

theorem execTick_ram (x : TickIn) (s : State) :
    After RamKept s (execTick x s) := by
  unfold execTick
  with_reducible refine After.ite ?_ ?_
  with_reducible refine After.next ?_
  with_reducible exact RamKept.refl _
  with_reducible refine After.next ?_
  with_reducible refine (State.recoverTick_ram _).after ?_
  with_reducible refine (State.beginFrame_ram _).after ?_
  with_reducible refine (State.atTick_ram _ _ _).after ?_
  with_reducible refine (State.stopTick_frame _).ramAfter (by decide) ?_
  with_reducible refine (State.advance_frame _ _).ramAfter (by decide) ?_
  with_reducible refine (State.stepEpoch_frame _).ramAfter (by decide) ?_
  with_reducible refine (State.keepTime_frame _).ramAfter (by decide) ?_
  with_reducible refine (State.closeFrame_frame _ _).ramAfter (by decide) ?_
  with_reducible exact RamKept.refl _

theorem execTickZero_ram (s : State) :
    After RamKept s (execTickZero s) := by
  unfold execTickZero
  with_reducible refine After.ite ?_ ?_
  with_reducible refine After.next ?_
  with_reducible refine (State.recoverTick_ram _).after ?_
  with_reducible refine (State.beginFrame_ram _).after ?_
  with_reducible refine (State.atTick_ram _ _ _).after ?_
  with_reducible refine (State.hearthStart_frame _).ramAfter (by decide) ?_
  with_reducible exact RamKept.refl _
  with_reducible refine After.next ?_
  with_reducible exact RamKept.refl _

theorem execTraceWrite_ram (channel : BitVec 6) (count : BitVec 14) (s : State) :
    After RamKept s (execTraceWrite channel count s) := by
  unfold execTraceWrite
  extract_lets
  with_reducible refine After.ite ?_ ?_
  with_reducible refine After.next ?_
  with_reducible exact RamKept.refl _
  with_reducible refine After.next ?_
  with_reducible refine (State.hallWrite_ram _ _ _ _).after ?_
  with_reducible refine (State.zeroBytes_ram _ _ _).after ?_
  with_reducible refine (State.updChan_frame _ _ _).ramAfter (by decide) ?_
  with_reducible refine (State.ringSamples_ram _ _ _ _).after ?_
  with_reducible exact RamKept.refl _

theorem execVariantSwitch_ram (s : State) :
    After RamKept s (execVariantSwitch s) := by
  unfold execVariantSwitch
  with_reducible refine After.next ?_
  with_reducible refine (State.switchVariant_ram _).after ?_
  with_reducible exact RamKept.refl _

end Sys2Proof.Machine
end

