-- ==== Sys2Proof/Laws/Recovery.lean ====
section
/-! SUPPORT. No tick but that of a whole-device reset changes whether the unit is in recovery. -/
namespace Sys2Proof.Machine

theorem State.inTick_rec (f : State → State) (s : State) (hf : ∀ t, RecoveryKept t (f t)) : RecoveryKept s (State.inTick f s) := by
  unfold State.inTick
  extract_lets v1 v2
  refine (SameBut.hrt_porches_frame _ _ _).recAfter (by decide) ?_
  refine (hf _).after ?_
  exact (SameBut.hrt_porches_frame _ _ _).rec (by decide)

theorem State.verdict_rec (s : State) (reason code : Nat) (solo : State → State) (hs : ∀ t, RecoveryKept t (solo t)) :
    RecoveryKept s (State.verdict s reason code solo) := by
  have hg : RecoveryKept s (s.guardEvent code) := ((State.guardEvent_frame _ _).rec (by decide))
  unfold State.verdict
  extract_lets v1
  have hk : RecoveryKept s (v1.guardState code) := hg.trans ((State.guardState_frame _ _).rec (by decide))
  split
  · exact hg.trans ((State.withdraw_frame _ _ _).rec (by decide))
  · exact hg.trans (hs _)
  · exact (hk.trans ((State.faultOn_frame _ _ _).rec (by decide))).trans ((State.giveUp_frame _ _).rec (by decide))
  · exact hk.trans ((State.faultOn_frame _ _ _).rec (by decide))
  · exact hk.trans ((State.faultOn_frame _ _ _).rec (by decide))

theorem State.beginRestart_rec (s : State) (cycles : Nat) :
    RecoveryKept s (State.beginRestart s cycles) := by
  unfold State.beginRestart
  extract_lets
  ((with_reducible refine RecoveryKept.updAfter ?_ ?_); · exact rfl)
  with_reducible refine (State.setBulk_frame _ _).recAfter (by decide) ?_
  with_reducible exact RecoveryKept.refl _

theorem State.migrate_rec (s : State) (old new : Nat) (fails : Bool) (schema : Nat) :
    RecoveryKept s (State.migrate s old new fails schema) := by
  unfold State.migrate
  extract_lets
  split
  with_reducible refine RecoveryKept.ite ?_ ?_
  ((with_reducible refine RecoveryKept.updAfter ?_ ?_); · exact rfl)
  with_reducible refine (State.raise_frame _ _ _ _ _).recAfter (by decide) ?_
  with_reducible refine (State.record_frame _ _ _ _ _).recAfter (by decide) ?_
  with_reducible refine (State.updCup_frame _ _ _).recAfter (by decide) ?_
  with_reducible refine (State.updCup_frame _ _ _).recAfter (by decide) ?_
  with_reducible refine (State.saveCup_frame _).recAfter (by decide) ?_
  with_reducible exact RecoveryKept.refl _
  with_reducible refine (State.updCup_frame _ _ _).recAfter (by decide) ?_
  with_reducible refine (State.updCup_frame _ _ _).recAfter (by decide) ?_
  with_reducible refine (State.saveCup_frame _).recAfter (by decide) ?_
  with_reducible exact RecoveryKept.refl _
  with_reducible refine (State.saveCup_frame _).recAfter (by decide) ?_
  with_reducible exact RecoveryKept.refl _

theorem State.activateNow_rec (s : State) (cycles : Nat) (fails : Bool) (schema : Option Nat) :
    RecoveryKept s (State.activateNow s cycles fails schema) := by
  unfold State.activateNow
  extract_lets
  with_reducible refine RecoveryKept.ite ?_ ?_
  with_reducible refine (State.migrate_rec _ _ _ _ _).after ?_
  with_reducible refine (State.raise_frame _ _ _ _ _).recAfter (by decide) ?_
  with_reducible refine (State.beginRestart_rec _ _).after ?_
  ((with_reducible refine RecoveryKept.upd_flashAfter ?_ ?_); · exact rfl)
  with_reducible refine (State.setFwSlot_frame _ _ _).recAfter (by decide) ?_
  with_reducible exact RecoveryKept.refl _
  with_reducible exact RecoveryKept.refl _

theorem State.askHead_rec (s : State) (op len tick p : Nat) :
    RecoveryKept s (State.askHead s op len tick p) := by
  unfold State.askHead
  extract_lets
  ((with_reducible refine RecoveryKept.updAfter ?_ ?_); · exact rfl)
  with_reducible refine (State.send_frame _ _ _ _).recAfter (by decide) ?_
  with_reducible exact RecoveryKept.refl _

theorem State.askHeadNext_rec (s : State) (op len tick p : Nat) :
    RecoveryKept s (State.askHeadNext s op len tick p) := by
  unfold State.askHeadNext
  with_reducible refine (State.inTick_rec _ _ (fun _ => ?_)).after ?_
  with_reducible refine (State.askHead_rec _ _ _ _ _).after ?_
  with_reducible exact RecoveryKept.refl _
  with_reducible exact RecoveryKept.refl _

theorem State.takeValidate_rec (s : State) :
    RecoveryKept s (State.takeValidate s) := by
  unfold State.takeValidate
  extract_lets
  with_reducible refine RecoveryKept.ite ?_ ?_
  with_reducible refine (State.planResult_frame _ _).recAfter (by decide) ?_
  with_reducible exact RecoveryKept.refl _
  ((with_reducible refine RecoveryKept.plan_updAfter ?_ ?_); · exact rfl)
  with_reducible exact RecoveryKept.refl _

theorem State.takePlan_rec (s : State) :
    RecoveryKept s (State.takePlan s) := by
  unfold State.takePlan
  extract_lets
  split
  with_reducible refine (State.takeValidate_rec _).after ?_
  with_reducible refine (SameBut.ops_frame _ _).recAfter (by decide) ?_
  with_reducible exact RecoveryKept.refl _
  with_reducible refine (State.takeCommit_frame _ _).recAfter (by decide) ?_
  with_reducible refine (SameBut.ops_frame _ _).recAfter (by decide) ?_
  with_reducible exact RecoveryKept.refl _
  with_reducible refine (State.takeCancel_frame _).recAfter (by decide) ?_
  with_reducible refine (SameBut.ops_frame _ _).recAfter (by decide) ?_
  with_reducible exact RecoveryKept.refl _
  with_reducible refine (SameBut.ops_frame _ _).recAfter (by decide) ?_
  with_reducible exact RecoveryKept.refl _

theorem State.planTick_rec (s : State) :
    RecoveryKept s (State.planTick s) := by
  unfold State.planTick
  with_reducible refine (State.tableTick_frame _).recAfter (by decide) ?_
  with_reducible refine (State.swapTakeEffect_frame _).recAfter (by decide) ?_
  with_reducible refine (State.takeDesc_frame _).recAfter (by decide) ?_
  with_reducible refine (State.descTakeEffect_frame _).recAfter (by decide) ?_
  with_reducible refine (State.takePlan_rec _).after ?_
  with_reducible refine (State.commitEffect_frame _).recAfter (by decide) ?_
  with_reducible refine (State.endBridge_frame _).recAfter (by decide) ?_
  with_reducible refine (State.preloadTick_frame _).recAfter (by decide) ?_
  with_reducible refine (State.finishValidation_frame _).recAfter (by decide) ?_
  with_reducible exact RecoveryKept.refl _

theorem State.dropStaging_rec (s : State) :
    RecoveryKept s (State.dropStaging s) := by
  unfold State.dropStaging
  extract_lets
  with_reducible refine RecoveryKept.ite ?_ ?_
  ((with_reducible refine RecoveryKept.updAfter ?_ ?_); · exact rfl)
  with_reducible refine (State.inTick_rec _ _ (fun _ => ?_)).after ?_
  with_reducible refine (State.sendAll_frame _ _ _ _).recAfter (by decide) ?_
  with_reducible exact RecoveryKept.refl _
  with_reducible exact RecoveryKept.refl _
  with_reducible exact RecoveryKept.refl _

theorem State.resetOwner_rec (s : State) :
    RecoveryKept s (State.resetOwner s) := by
  unfold State.resetOwner
  extract_lets
  with_reducible refine (State.dropStaging_rec _).after ?_
  with_reducible refine (SameBut.att_plan_frame _ _ _).recAfter (by decide) ?_
  with_reducible refine RecoveryKept.ite ?_ ?_
  with_reducible refine (SameBut.att_plan_frame _ _ _).recAfter (by decide) ?_
  with_reducible exact RecoveryKept.refl _
  with_reducible exact RecoveryKept.refl _

theorem State.resetTick_rec (s : State) (i : Nat) :
    RecoveryKept s (State.resetTick s i) := by
  unfold State.resetTick
  extract_lets
  with_reducible refine (State.updSeat_frame _ _ _).recAfter (by decide) ?_
  with_reducible refine (SameBut.ops_frame _ _).recAfter (by decide) ?_
  with_reducible refine (State.clearPage_frame _ _).recAfter (by decide) ?_
  with_reducible refine RecoveryKept.ite ?_ ?_
  with_reducible refine (State.resetOwner_rec _).after ?_
  with_reducible refine RecoveryKept.each (fun _ _ => ?_) ?_ _
  with_reducible refine (State.updChan_frame _ _ _).recAfter (by decide) ?_
  with_reducible exact RecoveryKept.refl _
  with_reducible refine RecoveryKept.each (fun _ _ => ?_) ?_ _
  with_reducible refine (State.emptyShelf_frame _ _).recAfter (by decide) ?_
  with_reducible exact RecoveryKept.refl _
  with_reducible refine RecoveryKept.each (fun _ _ => ?_) ?_ _
  with_reducible refine (State.endAt_frame _ _ _).recAfter (by decide) ?_
  with_reducible exact RecoveryKept.refl _
  with_reducible exact RecoveryKept.refl _
  with_reducible refine RecoveryKept.each (fun _ _ => ?_) ?_ _
  with_reducible refine (State.updChan_frame _ _ _).recAfter (by decide) ?_
  with_reducible exact RecoveryKept.refl _
  with_reducible refine RecoveryKept.each (fun _ _ => ?_) ?_ _
  with_reducible refine (State.emptyShelf_frame _ _).recAfter (by decide) ?_
  with_reducible exact RecoveryKept.refl _
  with_reducible refine RecoveryKept.each (fun _ _ => ?_) ?_ _
  with_reducible refine (State.endAt_frame _ _ _).recAfter (by decide) ?_
  with_reducible exact RecoveryKept.refl _
  with_reducible exact RecoveryKept.refl _

theorem State.resetsTick_rec (s : State) :
    RecoveryKept s (State.resetsTick s) := by
  unfold State.resetsTick
  with_reducible refine RecoveryKept.each (fun _ _ => ?_) ?_ _
  with_reducible refine (State.resetTick_rec _ _).after ?_
  with_reducible exact RecoveryKept.refl _
  with_reducible exact RecoveryKept.refl _

theorem State.beginFallback_rec (s : State) (cause : Nat) :
    RecoveryKept s (State.beginFallback s cause) := by
  unfold State.beginFallback
  extract_lets
  with_reducible refine RecoveryKept.ite ?_ ?_
  ((with_reducible refine RecoveryKept.updAfter ?_ ?_); · exact rfl)
  with_reducible refine RecoveryKept.each (fun _ _ => ?_) ?_ _
  with_reducible refine (State.askHeadNext_rec _ _ _ _ _).after ?_
  with_reducible exact RecoveryKept.refl _
  with_reducible exact RecoveryKept.refl _
  with_reducible exact RecoveryKept.refl _

theorem State.burnTick_rec (s : State) :
    RecoveryKept s (State.burnTick s) := by
  unfold State.burnTick
  extract_lets
  split
  with_reducible refine (State.raise_frame _ _ _ _ _).recAfter (by decide) ?_
  ((with_reducible refine RecoveryKept.upd_flashAfter ?_ ?_); · exact rfl)
  with_reducible exact RecoveryKept.refl _
  with_reducible exact RecoveryKept.refl _

theorem State.deferActivation_rec (s : State) :
    RecoveryKept s (State.deferActivation s) := by
  unfold State.deferActivation
  extract_lets
  split
  with_reducible refine RecoveryKept.ite ?_ ?_
  ((with_reducible refine RecoveryKept.updAfter ?_ ?_); · exact rfl)
  with_reducible refine RecoveryKept.each (fun _ _ => ?_) ?_ _
  with_reducible refine (State.askHeadNext_rec _ _ _ _ _).after ?_
  with_reducible exact RecoveryKept.refl _
  with_reducible exact RecoveryKept.refl _
  with_reducible exact RecoveryKept.refl _
  with_reducible exact RecoveryKept.refl _

theorem State.spdm_rec (s : State) (ld : Nat) (x2 : SpdmReq) :
    RecoveryKept s (State.spdm s ld x2) := by
  unfold State.spdm
  extract_lets
  split
  with_reducible refine (State.answer_frame _ _).recAfter (by decide) ?_
  with_reducible exact RecoveryKept.refl _
  with_reducible refine (State.answer_frame _ _).recAfter (by decide) ?_
  with_reducible exact RecoveryKept.refl _
  with_reducible refine (State.answer_frame _ _).recAfter (by decide) ?_
  with_reducible exact RecoveryKept.refl _
  with_reducible refine (State.answer_frame _ _).recAfter (by decide) ?_
  with_reducible exact RecoveryKept.refl _
  with_reducible refine RecoveryKept.ite ?_ ?_
  with_reducible refine (State.answer_frame _ _).recAfter (by decide) ?_
  ((with_reducible refine RecoveryKept.updAfter ?_ ?_); · exact rfl)
  with_reducible exact RecoveryKept.refl _
  with_reducible refine (State.answer_frame _ _).recAfter (by decide) ?_
  with_reducible exact RecoveryKept.refl _
  with_reducible refine (State.answer_frame _ _).recAfter (by decide) ?_
  ((with_reducible refine RecoveryKept.updAfter ?_ ?_); · exact rfl)
  with_reducible exact RecoveryKept.refl _
  with_reducible refine (State.answer_frame _ _).recAfter (by decide) ?_
  with_reducible exact RecoveryKept.refl _

theorem State.doeAnswer_rec (s : State) (ld : Nat) (x2 : DoeReq) :
    RecoveryKept s (State.doeAnswer s ld x2) := by
  unfold State.doeAnswer
  split
  with_reducible refine (State.spdm_rec _ _ _).after ?_
  with_reducible exact RecoveryKept.refl _
  with_reducible refine (State.ideKeys_frame _ _ _ _).recAfter (by decide) ?_
  with_reducible exact RecoveryKept.refl _

theorem State.endRestart_rec (s : State) :
    RecoveryKept s (State.endRestart s) := by
  unfold State.endRestart
  extract_lets
  with_reducible refine RecoveryKept.ite ?_ ?_
  with_reducible refine RecoveryKept.ite ?_ ?_
  with_reducible refine (State.recordFallback_frame _ _ _).recAfter (by decide) ?_
  ((with_reducible refine RecoveryKept.updAfter ?_ ?_); · exact rfl)
  with_reducible refine (State.setFwSlot_frame _ _ _).recAfter (by decide) ?_
  with_reducible refine RecoveryKept.foldl (fun _ _ => ?_) ?_ _
  with_reducible refine (State.doeAnswer_rec _ _ _).after ?_
  with_reducible exact RecoveryKept.refl _
  with_reducible refine (SameBut.port_frame _ _).recAfter (by decide) ?_
  ((with_reducible refine RecoveryKept.updAfter ?_ ?_); · exact rfl)
  with_reducible refine (State.setBulk_frame _ _).recAfter (by decide) ?_
  with_reducible exact RecoveryKept.refl _
  with_reducible refine RecoveryKept.ite ?_ ?_
  ((with_reducible refine RecoveryKept.updAfter ?_ ?_); · exact rfl)
  with_reducible refine RecoveryKept.foldl (fun _ _ => ?_) ?_ _
  with_reducible refine (State.doeAnswer_rec _ _ _).after ?_
  with_reducible exact RecoveryKept.refl _
  with_reducible refine (SameBut.port_frame _ _).recAfter (by decide) ?_
  ((with_reducible refine RecoveryKept.updAfter ?_ ?_); · exact rfl)
  with_reducible refine (State.setBulk_frame _ _).recAfter (by decide) ?_
  with_reducible exact RecoveryKept.refl _
  with_reducible refine RecoveryKept.foldl (fun _ _ => ?_) ?_ _
  with_reducible refine (State.doeAnswer_rec _ _ _).after ?_
  with_reducible exact RecoveryKept.refl _
  with_reducible refine (SameBut.port_frame _ _).recAfter (by decide) ?_
  ((with_reducible refine RecoveryKept.updAfter ?_ ?_); · exact rfl)
  with_reducible refine (State.setBulk_frame _ _).recAfter (by decide) ?_
  with_reducible exact RecoveryKept.refl _
  with_reducible exact RecoveryKept.refl _

theorem State.findFallback_rec (s : State) (cause : Nat) :
    RecoveryKept s (State.findFallback s cause) := by
  unfold State.findFallback
  extract_lets
  with_reducible refine RecoveryKept.ite ?_ ?_
  ((with_reducible refine RecoveryKept.updAfter ?_ ?_); · exact rfl)
  with_reducible exact RecoveryKept.refl _
  with_reducible exact RecoveryKept.refl _

theorem State.endWindow_rec (s : State) (cycles : Nat) :
    RecoveryKept s (State.endWindow s cycles) := by
  unfold State.endWindow
  with_reducible refine RecoveryKept.ite ?_ ?_
  with_reducible refine (State.findFallback_rec _ _).after ?_
  with_reducible exact RecoveryKept.refl _
  with_reducible exact RecoveryKept.refl _

theorem State.loadCup_rec (s : State) (c : Nat) :
    RecoveryKept s (State.loadCup s c) := by
  unfold State.loadCup
  extract_lets
  ((with_reducible refine RecoveryKept.mem_updAfter ?_ ?_); · exact rfl)
  with_reducible refine RecoveryKept.foldl (fun _ _ => ?_) ?_ _
  with_reducible refine (State.updDev_frame _ _ _).recAfter (by decide) ?_
  with_reducible exact RecoveryKept.refl _
  with_reducible exact RecoveryKept.refl _

theorem State.restoreCup_rec (s : State) (new : Nat) :
    RecoveryKept s (State.restoreCup s new) := by
  unfold State.restoreCup
  extract_lets v1
  split
  with_reducible refine (State.loadCup_rec _ _).after ?_
  with_reducible refine (State.updCup_frame _ _ _).recAfter (by decide) ?_
  extract_lets
  dsimp only [v1]
  split
  with_reducible refine (State.updCup_frame _ _ _).recAfter (by decide) ?_
  with_reducible exact RecoveryKept.refl _
  with_reducible exact RecoveryKept.refl _
  dsimp only [v1]
  split
  with_reducible refine (State.updCup_frame _ _ _).recAfter (by decide) ?_
  with_reducible exact RecoveryKept.refl _
  with_reducible exact RecoveryKept.refl _

theorem State.fallbackNow_rec (s : State) (cycles : Nat) :
    RecoveryKept s (State.fallbackNow s cycles) := by
  unfold State.fallbackNow
  extract_lets
  with_reducible refine RecoveryKept.ite ?_ ?_
  with_reducible refine (State.raise_frame _ _ _ _ _).recAfter (by decide) ?_
  with_reducible refine (State.beginRestart_rec _ _).after ?_
  with_reducible refine (State.restoreCup_rec _ _).after ?_
  ((with_reducible refine RecoveryKept.upd_flashAfter ?_ ?_); · exact rfl)
  with_reducible exact RecoveryKept.refl _
  with_reducible exact RecoveryKept.refl _

theorem State.updResult_rec (s : State) (r : Nat) (loc : optParam Nat 0) :
    RecoveryKept s (State.updResult s r loc) := by
  unfold State.updResult
  extract_lets
  ((with_reducible refine RecoveryKept.updAfter ?_ ?_); · exact rfl)
  with_reducible exact RecoveryKept.refl _

theorem State.keyTick_rec (s : State) :
    RecoveryKept s (State.keyTick s) := by
  unfold State.keyTick
  extract_lets
  split
  with_reducible refine RecoveryKept.ite ?_ ?_
  with_reducible refine (State.updResult_rec _ _ _).after ?_
  with_reducible refine (State.saveCup_frame _).recAfter (by decide) ?_
  ((with_reducible refine RecoveryKept.updAfter ?_ ?_); · exact rfl)
  with_reducible exact RecoveryKept.refl _
  with_reducible exact RecoveryKept.refl _
  with_reducible exact RecoveryKept.refl _

theorem State.loadSkipped_rec (s : State) :
    RecoveryKept s (State.loadSkipped s) := by
  unfold State.loadSkipped
  split
  with_reducible refine RecoveryKept.ite ?_ ?_
  with_reducible refine RecoveryKept.each (fun _ _ => ?_) ?_ _
  ((with_reducible refine RecoveryKept.updAfter ?_ ?_); · exact rfl)
  with_reducible refine (State.askHeadNext_rec _ _ _ _ _).after ?_
  with_reducible exact RecoveryKept.refl _
  with_reducible exact RecoveryKept.refl _
  with_reducible exact RecoveryKept.refl _
  with_reducible exact RecoveryKept.refl _

theorem State.retimeActivation_rec (s : State) :
    RecoveryKept s (State.retimeActivation s) := by
  unfold State.retimeActivation
  split
  with_reducible refine RecoveryKept.ite ?_ ?_
  ((with_reducible refine RecoveryKept.updAfter ?_ ?_); · exact rfl)
  with_reducible refine RecoveryKept.each (fun _ _ => ?_) ?_ _
  with_reducible refine (State.askHeadNext_rec _ _ _ _ _).after ?_
  with_reducible exact RecoveryKept.refl _
  with_reducible exact RecoveryKept.refl _
  with_reducible exact RecoveryKept.refl _
  with_reducible exact RecoveryKept.refl _

theorem State.stageTick_rec (s : State) :
    RecoveryKept s (State.stageTick s) := by
  unfold State.stageTick
  extract_lets
  split
  with_reducible refine (State.raise_frame _ _ _ _ _).recAfter (by decide) ?_
  with_reducible refine (State.updResult_rec _ _ _).after ?_
  ((with_reducible refine RecoveryKept.updAfter ?_ ?_); · exact rfl)
  with_reducible exact RecoveryKept.refl _
  with_reducible refine (State.raise_frame _ _ _ _ _).recAfter (by decide) ?_
  with_reducible refine (State.updResult_rec _ _ _).after ?_
  ((with_reducible refine RecoveryKept.updAfter ?_ ?_); · exact rfl)
  with_reducible refine (State.inTick_rec _ _ (fun _ => ?_)).after ?_
  with_reducible refine (State.sendAll_frame _ _ _ _).recAfter (by decide) ?_
  with_reducible exact RecoveryKept.refl _
  with_reducible exact RecoveryKept.refl _
  with_reducible exact RecoveryKept.refl _

theorem State.beginStaging_rec (s : State) (src len : Nat) (image : List (Nat × Byte)) (pair : Bool) :
    RecoveryKept s (State.beginStaging s src len image pair) := by
  unfold State.beginStaging
  extract_lets
  ((with_reducible refine RecoveryKept.updAfter ?_ ?_); · exact rfl)
  with_reducible exact RecoveryKept.refl _

theorem State.takeTwinStage_rec (s : State) (was : UpdState) :
    RecoveryKept s (State.takeTwinStage s was) := by
  unfold State.takeTwinStage
  extract_lets
  split
  with_reducible refine RecoveryKept.ite ?_ ?_
  with_reducible refine (State.raise_frame _ _ _ _ _).recAfter (by decide) ?_
  ((with_reducible refine RecoveryKept.updAfter ?_ ?_); · exact rfl)
  with_reducible exact RecoveryKept.refl _
  with_reducible refine RecoveryKept.ite ?_ ?_
  with_reducible refine (State.raise_frame _ _ _ _ _).recAfter (by decide) ?_
  with_reducible refine (State.updResult_rec _ _ _).after ?_
  ((with_reducible refine RecoveryKept.updAfter ?_ ?_); · exact rfl)
  with_reducible exact RecoveryKept.refl _
  with_reducible refine RecoveryKept.ite ?_ ?_
  with_reducible refine (State.raise_frame _ _ _ _ _).recAfter (by decide) ?_
  with_reducible refine (State.updResult_rec _ _ _).after ?_
  ((with_reducible refine RecoveryKept.updAfter ?_ ?_); · exact rfl)
  with_reducible exact RecoveryKept.refl _
  with_reducible refine (State.beginStaging_rec _ _ _ _ _).after ?_
  ((with_reducible refine RecoveryKept.updAfter ?_ ?_); · exact rfl)
  with_reducible exact RecoveryKept.refl _
  with_reducible exact RecoveryKept.refl _

theorem State.takeActivate_rec (s : State) (timeNs : Bool) :
    RecoveryKept s (State.takeActivate s timeNs) := by
  unfold State.takeActivate
  extract_lets
  with_reducible refine RecoveryKept.ite ?_ ?_
  with_reducible refine (State.updResult_rec _ _ _).after ?_
  with_reducible exact RecoveryKept.refl _
  with_reducible refine RecoveryKept.ite ?_ ?_
  with_reducible refine (State.updResult_rec _ _ _).after ?_
  with_reducible exact RecoveryKept.refl _
  with_reducible refine (State.updResult_rec _ _ _).after ?_
  ((with_reducible refine RecoveryKept.updAfter ?_ ?_); · exact rfl)
  with_reducible refine RecoveryKept.each (fun _ _ => ?_) ?_ _
  with_reducible refine (State.askHeadNext_rec _ _ _ _ _).after ?_
  with_reducible exact RecoveryKept.refl _
  with_reducible exact RecoveryKept.refl _

theorem State.takeConfirm_rec (s : State) :
    RecoveryKept s (State.takeConfirm s) := by
  unfold State.takeConfirm
  extract_lets v1 v2 v3 v4 v5 v6 v7 v8
  with_reducible refine RecoveryKept.ite ?_ ?_
  with_reducible refine (State.updResult_rec _ _ _).after ?_
  with_reducible exact RecoveryKept.refl _
  with_reducible refine RecoveryKept.ite ?_ ?_
  with_reducible refine (State.updResult_rec _ _ _).after ?_
  with_reducible exact RecoveryKept.refl _
  with_reducible refine RecoveryKept.ite ?_ ?_
  with_reducible refine (State.updResult_rec _ _ _).after ?_
  with_reducible exact RecoveryKept.refl _
  with_reducible refine (State.raise_frame _ _ _ _ _).recAfter (by decide) ?_
  with_reducible refine (State.updResult_rec _ _ _).after ?_
  ((with_reducible refine RecoveryKept.updAfter ?_ ?_); · exact rfl)
  extract_lets
  dsimp only [v8]
  split
  with_reducible refine (State.updCup_frame _ _ _).recAfter (by decide) ?_
  with_reducible refine (SameBut.flash_frame _ _).recAfter (by decide) ?_
  with_reducible refine (State.setFwSlot_frame _ _ _).recAfter (by decide) ?_
  with_reducible refine (State.setFwSlot_frame _ _ _).recAfter (by decide) ?_
  with_reducible exact RecoveryKept.refl _
  with_reducible refine (SameBut.flash_frame _ _).recAfter (by decide) ?_
  with_reducible refine (State.setFwSlot_frame _ _ _).recAfter (by decide) ?_
  with_reducible refine (State.setFwSlot_frame _ _ _).recAfter (by decide) ?_
  with_reducible exact RecoveryKept.refl _

theorem State.takeFallback_rec (s : State) :
    RecoveryKept s (State.takeFallback s) := by
  unfold State.takeFallback
  with_reducible refine RecoveryKept.ite ?_ ?_
  with_reducible refine (State.updResult_rec _ _ _).after ?_
  with_reducible refine (State.beginFallback_rec _ _).after ?_
  with_reducible exact RecoveryKept.refl _
  with_reducible refine (State.updResult_rec _ _ _).after ?_
  with_reducible exact RecoveryKept.refl _

theorem State.takeEnroll_rec (s : State) :
    RecoveryKept s (State.takeEnroll s) := by
  unfold State.takeEnroll
  extract_lets
  split
  ((with_reducible refine RecoveryKept.updAfter ?_ ?_); · exact rfl)
  with_reducible exact RecoveryKept.refl _
  with_reducible refine (State.updResult_rec _ _ _).after ?_
  with_reducible exact RecoveryKept.refl _

theorem State.takeRevoke_rec (s : State) :
    RecoveryKept s (State.takeRevoke s) := by
  unfold State.takeRevoke
  extract_lets
  with_reducible refine RecoveryKept.ite ?_ ?_
  ((with_reducible refine RecoveryKept.updAfter ?_ ?_); · exact rfl)
  with_reducible exact RecoveryKept.refl _
  with_reducible refine (State.updResult_rec _ _ _).after ?_
  with_reducible exact RecoveryKept.refl _

theorem State.takeKey_rec (s : State) (op : Nat) :
    RecoveryKept s (State.takeKey s op) := by
  unfold State.takeKey
  with_reducible refine RecoveryKept.ite ?_ ?_
  with_reducible refine (State.updResult_rec _ _ _).after ?_
  with_reducible exact RecoveryKept.refl _
  with_reducible refine RecoveryKept.ite ?_ ?_
  with_reducible refine (State.updResult_rec _ _ _).after ?_
  with_reducible exact RecoveryKept.refl _
  with_reducible refine RecoveryKept.ite ?_ ?_
  with_reducible refine (State.takeEnroll_rec _).after ?_
  with_reducible exact RecoveryKept.refl _
  with_reducible refine (State.takeRevoke_rec _).after ?_
  with_reducible exact RecoveryKept.refl _

theorem State.takeStage_rec (s : State) (pair : Bool) :
    RecoveryKept s (State.takeStage s pair) := by
  unfold State.takeStage
  extract_lets
  with_reducible refine RecoveryKept.ite ?_ ?_
  with_reducible refine (State.updResult_rec _ _ _).after ?_
  with_reducible exact RecoveryKept.refl _
  with_reducible refine RecoveryKept.ite ?_ ?_
  with_reducible refine (State.updResult_rec _ _ _).after ?_
  with_reducible exact RecoveryKept.refl _
  with_reducible refine RecoveryKept.ite ?_ ?_
  with_reducible refine (State.raise_frame _ _ _ _ _).recAfter (by decide) ?_
  with_reducible refine (State.updResult_rec _ _ _).after ?_
  with_reducible exact RecoveryKept.refl _
  with_reducible refine (State.beginStaging_rec _ _ _ _ _).after ?_
  with_reducible exact RecoveryKept.refl _

theorem State.takeUpdCancel_rec (s : State) :
    RecoveryKept s (State.takeUpdCancel s) := by
  unfold State.takeUpdCancel
  extract_lets
  with_reducible refine RecoveryKept.ite ?_ ?_
  with_reducible refine (State.updResult_rec _ _ _).after ?_
  with_reducible exact RecoveryKept.refl _
  with_reducible refine RecoveryKept.ite ?_ ?_
  with_reducible refine (State.updResult_rec _ _ _).after ?_
  with_reducible exact RecoveryKept.refl _
  with_reducible refine (State.updResult_rec _ _ _).after ?_
  ((with_reducible refine RecoveryKept.updAfter ?_ ?_); · exact rfl)
  with_reducible refine RecoveryKept.each (fun _ _ => ?_) ?_ _
  with_reducible refine (State.askHeadNext_rec _ _ _ _ _).after ?_
  with_reducible exact RecoveryKept.refl _
  with_reducible exact RecoveryKept.refl _

theorem State.takeUpdCmd_rec (s : State) :
    RecoveryKept s (State.takeUpdCmd s) := by
  unfold State.takeUpdCmd
  extract_lets
  split
  with_reducible refine RecoveryKept.ite ?_ ?_
  with_reducible refine (State.updResult_rec _ _ _).after ?_
  with_reducible refine (SameBut.ops_frame _ _).recAfter (by decide) ?_
  with_reducible exact RecoveryKept.refl _
  extract_lets
  split
  with_reducible refine (State.takeStage_rec _ _).after ?_
  with_reducible refine (SameBut.ops_frame _ _).recAfter (by decide) ?_
  with_reducible exact RecoveryKept.refl _
  with_reducible refine (State.takeActivate_rec _ _).after ?_
  with_reducible refine (SameBut.ops_frame _ _).recAfter (by decide) ?_
  with_reducible exact RecoveryKept.refl _
  with_reducible refine (State.takeUpdCancel_rec _).after ?_
  with_reducible refine (SameBut.ops_frame _ _).recAfter (by decide) ?_
  with_reducible exact RecoveryKept.refl _
  with_reducible refine (State.takeConfirm_rec _).after ?_
  with_reducible refine (SameBut.ops_frame _ _).recAfter (by decide) ?_
  with_reducible exact RecoveryKept.refl _
  with_reducible refine (State.takeFallback_rec _).after ?_
  with_reducible refine (SameBut.ops_frame _ _).recAfter (by decide) ?_
  with_reducible exact RecoveryKept.refl _
  with_reducible refine (State.takeKey_rec _ _).after ?_
  with_reducible refine (SameBut.ops_frame _ _).recAfter (by decide) ?_
  with_reducible exact RecoveryKept.refl _
  with_reducible refine (State.takeKey_rec _ _).after ?_
  with_reducible refine (SameBut.ops_frame _ _).recAfter (by decide) ?_
  with_reducible exact RecoveryKept.refl _
  with_reducible refine (SameBut.ops_frame _ _).recAfter (by decide) ?_
  with_reducible exact RecoveryKept.refl _
  with_reducible refine (SameBut.ops_frame _ _).recAfter (by decide) ?_
  with_reducible exact RecoveryKept.refl _

theorem State.updTick_rec (s : State) (cycles : Nat) :
    RecoveryKept s (State.updTick s cycles) := by
  unfold State.updTick
  extract_lets v1 v2 v3 v4 v5
  with_reducible refine (State.deferActivation_rec _).after ?_
  with_reducible refine (State.loadSkipped_rec _).after ?_
  with_reducible refine (State.takeTwinStage_rec _ _).after ?_
  with_reducible refine (State.takeUpdCmd_rec _).after ?_
  with_reducible refine (State.stageTick_rec _).after ?_
  with_reducible refine (State.keyTick_rec _).after ?_
  extract_lets
  dsimp only [v5]
  split
  with_reducible refine RecoveryKept.ite ?_ ?_
  with_reducible refine (State.beginFallback_rec _ _).after ?_
  with_reducible refine (State.activateNow_rec _ _ _ _).after ?_
  with_reducible refine (State.fallbackNow_rec _ _).after ?_
  with_reducible refine (State.endWindow_rec _ _).after ?_
  with_reducible refine RecoveryKept.ite ?_ ?_
  with_reducible refine (State.endRestart_rec _).after ?_
  with_reducible refine RecoveryKept.ite ?_ ?_
  with_reducible refine (State.retimeActivation_rec _).after ?_
  with_reducible refine (State.burnTick_rec _).after ?_
  with_reducible exact RecoveryKept.refl _
  with_reducible refine (State.burnTick_rec _).after ?_
  with_reducible exact RecoveryKept.refl _
  with_reducible refine RecoveryKept.ite ?_ ?_
  with_reducible refine (State.retimeActivation_rec _).after ?_
  with_reducible refine (State.burnTick_rec _).after ?_
  with_reducible exact RecoveryKept.refl _
  with_reducible refine (State.burnTick_rec _).after ?_
  with_reducible exact RecoveryKept.refl _
  with_reducible refine (State.activateNow_rec _ _ _ _).after ?_
  with_reducible refine (State.fallbackNow_rec _ _).after ?_
  with_reducible refine (State.endWindow_rec _ _).after ?_
  with_reducible refine RecoveryKept.ite ?_ ?_
  with_reducible refine (State.endRestart_rec _).after ?_
  with_reducible refine RecoveryKept.ite ?_ ?_
  with_reducible refine (State.retimeActivation_rec _).after ?_
  with_reducible refine (State.burnTick_rec _).after ?_
  with_reducible exact RecoveryKept.refl _
  with_reducible refine (State.burnTick_rec _).after ?_
  with_reducible exact RecoveryKept.refl _
  with_reducible refine RecoveryKept.ite ?_ ?_
  with_reducible refine (State.retimeActivation_rec _).after ?_
  with_reducible refine (State.burnTick_rec _).after ?_
  with_reducible exact RecoveryKept.refl _
  with_reducible refine (State.burnTick_rec _).after ?_
  with_reducible exact RecoveryKept.refl _
  with_reducible refine (State.activateNow_rec _ _ _ _).after ?_
  with_reducible refine (State.fallbackNow_rec _ _).after ?_
  with_reducible refine (State.endWindow_rec _ _).after ?_
  with_reducible refine RecoveryKept.ite ?_ ?_
  with_reducible refine (State.endRestart_rec _).after ?_
  with_reducible refine RecoveryKept.ite ?_ ?_
  with_reducible refine (State.retimeActivation_rec _).after ?_
  with_reducible refine (State.burnTick_rec _).after ?_
  with_reducible exact RecoveryKept.refl _
  with_reducible refine (State.burnTick_rec _).after ?_
  with_reducible exact RecoveryKept.refl _
  with_reducible refine RecoveryKept.ite ?_ ?_
  with_reducible refine (State.retimeActivation_rec _).after ?_
  with_reducible refine (State.burnTick_rec _).after ?_
  with_reducible exact RecoveryKept.refl _
  with_reducible refine (State.burnTick_rec _).after ?_
  with_reducible exact RecoveryKept.refl _

theorem State.atTick_rec (s : State) (x : TickIn) (from_ : Nat) :
    RecoveryKept s (State.atTick s x from_) := by
  unfold State.atTick
  extract_lets
  with_reducible refine (State.powerUpTick_frame _).recAfter (by decide) ?_
  with_reducible refine (State.featTick_frame _).recAfter (by decide) ?_
  with_reducible refine RecoveryKept.ite ?_ ?_
  with_reducible refine (State.passTick_frame _ _).recAfter (by decide) ?_
  with_reducible refine (State.workTick_frame _ _).recAfter (by decide) ?_
  with_reducible refine (State.loopTick_frame _ _).recAfter (by decide) ?_
  with_reducible refine (State.freezeRest_frame _).recAfter (by decide) ?_
  with_reducible refine (State.planTick_rec _).after ?_
  with_reducible refine (State.takeOrders_frame _).recAfter (by decide) ?_
  with_reducible refine (State.updTick_rec _ _).after ?_
  with_reducible refine (State.thermTick_frame _ _ _).recAfter (by decide) ?_
  with_reducible refine (State.resetsTick_rec _).after ?_
  with_reducible refine RecoveryKept.ite ?_ ?_
  with_reducible refine (State.offAndFreeze_frame _).recAfter (by decide) ?_
  with_reducible refine (State.hearthTick_frame _).recAfter (by decide) ?_
  with_reducible refine RecoveryKept.ite ?_ ?_
  with_reducible refine (State.linkTick_frame _).recAfter (by decide) ?_
  with_reducible refine (State.configTick_frame _).recAfter (by decide) ?_
  with_reducible exact RecoveryKept.refl _
  with_reducible refine (State.configTick_frame _).recAfter (by decide) ?_
  with_reducible exact RecoveryKept.refl _
  with_reducible refine (State.hearthTick_frame _).recAfter (by decide) ?_
  with_reducible refine RecoveryKept.ite ?_ ?_
  with_reducible refine (State.linkTick_frame _).recAfter (by decide) ?_
  with_reducible refine (State.configTick_frame _).recAfter (by decide) ?_
  with_reducible exact RecoveryKept.refl _
  with_reducible refine (State.configTick_frame _).recAfter (by decide) ?_
  with_reducible exact RecoveryKept.refl _
  with_reducible refine (State.takeOrders_frame _).recAfter (by decide) ?_
  with_reducible refine (State.updTick_rec _ _).after ?_
  with_reducible refine (State.thermTick_frame _ _ _).recAfter (by decide) ?_
  with_reducible refine (State.resetsTick_rec _).after ?_
  with_reducible refine RecoveryKept.ite ?_ ?_
  with_reducible refine (State.offAndFreeze_frame _).recAfter (by decide) ?_
  with_reducible refine (State.hearthTick_frame _).recAfter (by decide) ?_
  with_reducible refine RecoveryKept.ite ?_ ?_
  with_reducible refine (State.linkTick_frame _).recAfter (by decide) ?_
  with_reducible refine (State.configTick_frame _).recAfter (by decide) ?_
  with_reducible exact RecoveryKept.refl _
  with_reducible refine (State.configTick_frame _).recAfter (by decide) ?_
  with_reducible exact RecoveryKept.refl _
  with_reducible refine (State.hearthTick_frame _).recAfter (by decide) ?_
  with_reducible refine RecoveryKept.ite ?_ ?_
  with_reducible refine (State.linkTick_frame _).recAfter (by decide) ?_
  with_reducible refine (State.configTick_frame _).recAfter (by decide) ?_
  with_reducible exact RecoveryKept.refl _
  with_reducible refine (State.configTick_frame _).recAfter (by decide) ?_
  with_reducible exact RecoveryKept.refl _

end Sys2Proof.Machine
end

