-- ==== Sys2Proof/Laws/State.lean ====
section
/-! SUPPORT. What a named update leaves: every other part of the state, by definition, and what it puts where it writes. -/
namespace Sys2Proof.Machine

section -- updSeat
variable (s : State) (i : Nat) (f : Seat → Seat) (k m : Nat)
@[simp] theorem State.updSeat_hrt : (s.updSeat i f).hrt = s.hrt := rfl
@[simp] theorem State.updSeat_pins : (s.updSeat i f).pins = s.pins := rfl
@[simp] theorem State.updSeat_boot : (s.updSeat i f).boot = s.boot := rfl
@[simp] theorem State.updSeat_thm : (s.updSeat i f).thm = s.thm := rfl
@[simp] theorem State.updSeat_taken : (s.updSeat i f).taken = s.taken := rfl
@[simp] theorem State.updSeat_port : (s.updSeat i f).port = s.port := rfl
@[simp] theorem State.updSeat_att : (s.updSeat i f).att = s.att := rfl
@[simp] theorem State.updSeat_regs : (s.updSeat i f).regs = s.regs := rfl
@[simp] theorem State.updSeat_live : (s.updSeat i f).live = s.live := rfl
@[simp] theorem State.updSeat_staged : (s.updSeat i f).staged = s.staged := rfl
@[simp] theorem State.updSeat_events : (s.updSeat i f).events = s.events := rfl
@[simp] theorem State.updSeat_later : (s.updSeat i f).later = s.later := rfl
@[simp] theorem State.updSeat_ops : (s.updSeat i f).ops = s.ops := rfl
@[simp] theorem State.updSeat_loops : (s.updSeat i f).loops = s.loops := rfl
@[simp] theorem State.updSeat_eng : (s.updSeat i f).eng = s.eng := rfl
@[simp] theorem State.updSeat_plan : (s.updSeat i f).plan = s.plan := rfl
@[simp] theorem State.updSeat_mov : (s.updSeat i f).mov = s.mov := rfl
@[simp] theorem State.updSeat_est : (s.updSeat i f).est = s.est := rfl
@[simp] theorem State.updSeat_porches : (s.updSeat i f).porches = s.porches := rfl
@[simp] theorem State.updSeat_cages : (s.updSeat i f).cages = s.cages := rfl
@[simp] theorem State.updSeat_lanes : (s.updSeat i f).lanes = s.lanes := rfl
@[simp] theorem State.updSeat_cals : (s.updSeat i f).cals = s.cals := rfl
@[simp] theorem State.updSeat_twn : (s.updSeat i f).twn = s.twn := rfl
@[simp] theorem State.updSeat_til : (s.updSeat i f).til = s.til := rfl
@[simp] theorem State.updSeat_mem : (s.updSeat i f).mem = s.mem := rfl
@[simp] theorem State.updSeat_shelves : (s.updSeat i f).shelves = s.shelves := rfl
@[simp] theorem State.updSeat_pantryRetired : (s.updSeat i f).pantryRetired = s.pantryRetired := rfl
@[simp] theorem State.updSeat_upd : (s.updSeat i f).upd = s.upd := rfl
@[simp] theorem State.updSeat_flash : (s.updSeat i f).flash = s.flash := rfl
@[simp] theorem State.updSeat_ram : (s.updSeat i f).ram = s.ram := rfl
@[simp] theorem State.updSeat_readData : (s.updSeat i f).readData = s.readData := rfl
@[simp] theorem State.updSeat_free : (s.updSeat i f).free = s.free := rfl
@[simp] theorem State.updSeat_pending : (s.updSeat i f).pending = s.pending := rfl
@[simp] theorem State.loop_updSeat : (s.updSeat i f).loop k = s.loop k := rfl
@[simp] theorem State.porch_updSeat : (s.updSeat i f).porch k = s.porch k := rfl
@[simp] theorem State.cage_updSeat : (s.updSeat i f).cage k = s.cage k := rfl
@[simp] theorem State.lane_updSeat : (s.updSeat i f).lane k m = s.lane k m := rfl
@[simp] theorem State.cal_updSeat : (s.updSeat i f).cal k = s.cal k := rfl
@[simp] theorem State.shelf_updSeat : (s.updSeat i f).shelf k = s.shelf k := rfl
@[simp] theorem State.tile_updSeat : (s.updSeat i f).tile k = s.tile k := rfl
@[simp] theorem State.job_updSeat : (s.updSeat i f).job k = s.job k := rfl
@[simp] theorem State.dev_updSeat : (s.updSeat i f).dev k = s.dev k := rfl
@[simp] theorem State.path_updSeat : (s.updSeat i f).path k = s.path k := rfl
@[simp] theorem State.service_updSeat : (s.updSeat i f).service k = s.service k := rfl
@[simp] theorem State.reflex_updSeat : (s.updSeat i f).reflex k = s.reflex k := rfl
@[simp] theorem State.move?_updSeat : (s.updSeat i f).move? k = s.move? k := rfl
@[simp] theorem State.spIn_updSeat : (s.updSeat i f).spIn k = s.spIn k := rfl
@[simp] theorem State.chan_updSeat : (s.updSeat i f).chan k = s.chan k := rfl
@[simp] theorem State.patch_updSeat : (s.updSeat i f).patch k = s.patch k := rfl
@[simp] theorem State.die_updSeat : (s.updSeat i f).die k = s.die k := rfl
@[simp] theorem State.table?_updSeat : (s.updSeat i f).table? k = s.table? k := rfl
@[simp] theorem State.reg_updSeat : (s.updSeat i f).reg k = s.reg k := rfl
@[simp] theorem State.cfgReg_updSeat : (s.updSeat i f).cfgReg k = s.cfgReg k := rfl
@[simp] theorem State.readByte_updSeat : (s.updSeat i f).readByte k = s.readByte k := rfl
end

section -- updLoop
variable (s : State) (i : Nat) (f : Loop → Loop) (k m : Nat)
@[simp] theorem State.updLoop_hrt : (s.updLoop i f).hrt = s.hrt := rfl
@[simp] theorem State.updLoop_pins : (s.updLoop i f).pins = s.pins := rfl
@[simp] theorem State.updLoop_boot : (s.updLoop i f).boot = s.boot := rfl
@[simp] theorem State.updLoop_thm : (s.updLoop i f).thm = s.thm := rfl
@[simp] theorem State.updLoop_seats : (s.updLoop i f).seats = s.seats := rfl
@[simp] theorem State.updLoop_taken : (s.updLoop i f).taken = s.taken := rfl
@[simp] theorem State.updLoop_port : (s.updLoop i f).port = s.port := rfl
@[simp] theorem State.updLoop_att : (s.updLoop i f).att = s.att := rfl
@[simp] theorem State.updLoop_regs : (s.updLoop i f).regs = s.regs := rfl
@[simp] theorem State.updLoop_live : (s.updLoop i f).live = s.live := rfl
@[simp] theorem State.updLoop_staged : (s.updLoop i f).staged = s.staged := rfl
@[simp] theorem State.updLoop_events : (s.updLoop i f).events = s.events := rfl
@[simp] theorem State.updLoop_later : (s.updLoop i f).later = s.later := rfl
@[simp] theorem State.updLoop_ops : (s.updLoop i f).ops = s.ops := rfl
@[simp] theorem State.updLoop_eng : (s.updLoop i f).eng = s.eng := rfl
@[simp] theorem State.updLoop_plan : (s.updLoop i f).plan = s.plan := rfl
@[simp] theorem State.updLoop_mov : (s.updLoop i f).mov = s.mov := rfl
@[simp] theorem State.updLoop_est : (s.updLoop i f).est = s.est := rfl
@[simp] theorem State.updLoop_porches : (s.updLoop i f).porches = s.porches := rfl
@[simp] theorem State.updLoop_cages : (s.updLoop i f).cages = s.cages := rfl
@[simp] theorem State.updLoop_lanes : (s.updLoop i f).lanes = s.lanes := rfl
@[simp] theorem State.updLoop_cals : (s.updLoop i f).cals = s.cals := rfl
@[simp] theorem State.updLoop_twn : (s.updLoop i f).twn = s.twn := rfl
@[simp] theorem State.updLoop_til : (s.updLoop i f).til = s.til := rfl
@[simp] theorem State.updLoop_mem : (s.updLoop i f).mem = s.mem := rfl
@[simp] theorem State.updLoop_shelves : (s.updLoop i f).shelves = s.shelves := rfl
@[simp] theorem State.updLoop_pantryRetired : (s.updLoop i f).pantryRetired = s.pantryRetired := rfl
@[simp] theorem State.updLoop_upd : (s.updLoop i f).upd = s.upd := rfl
@[simp] theorem State.updLoop_flash : (s.updLoop i f).flash = s.flash := rfl
@[simp] theorem State.updLoop_ram : (s.updLoop i f).ram = s.ram := rfl
@[simp] theorem State.updLoop_readData : (s.updLoop i f).readData = s.readData := rfl
@[simp] theorem State.updLoop_free : (s.updLoop i f).free = s.free := rfl
@[simp] theorem State.updLoop_pending : (s.updLoop i f).pending = s.pending := rfl
@[simp] theorem State.seat_updLoop : (s.updLoop i f).seat k = s.seat k := rfl
@[simp] theorem State.porch_updLoop : (s.updLoop i f).porch k = s.porch k := rfl
@[simp] theorem State.cage_updLoop : (s.updLoop i f).cage k = s.cage k := rfl
@[simp] theorem State.lane_updLoop : (s.updLoop i f).lane k m = s.lane k m := rfl
@[simp] theorem State.cal_updLoop : (s.updLoop i f).cal k = s.cal k := rfl
@[simp] theorem State.shelf_updLoop : (s.updLoop i f).shelf k = s.shelf k := rfl
@[simp] theorem State.tile_updLoop : (s.updLoop i f).tile k = s.tile k := rfl
@[simp] theorem State.job_updLoop : (s.updLoop i f).job k = s.job k := rfl
@[simp] theorem State.dev_updLoop : (s.updLoop i f).dev k = s.dev k := rfl
@[simp] theorem State.path_updLoop : (s.updLoop i f).path k = s.path k := rfl
@[simp] theorem State.service_updLoop : (s.updLoop i f).service k = s.service k := rfl
@[simp] theorem State.reflex_updLoop : (s.updLoop i f).reflex k = s.reflex k := rfl
@[simp] theorem State.move?_updLoop : (s.updLoop i f).move? k = s.move? k := rfl
@[simp] theorem State.spIn_updLoop : (s.updLoop i f).spIn k = s.spIn k := rfl
@[simp] theorem State.chan_updLoop : (s.updLoop i f).chan k = s.chan k := rfl
@[simp] theorem State.patch_updLoop : (s.updLoop i f).patch k = s.patch k := rfl
@[simp] theorem State.die_updLoop : (s.updLoop i f).die k = s.die k := rfl
@[simp] theorem State.table?_updLoop : (s.updLoop i f).table? k = s.table? k := rfl
@[simp] theorem State.reg_updLoop : (s.updLoop i f).reg k = s.reg k := rfl
@[simp] theorem State.cfgReg_updLoop : (s.updLoop i f).cfgReg k = s.cfgReg k := rfl
@[simp] theorem State.readByte_updLoop : (s.updLoop i f).readByte k = s.readByte k := rfl
end

section -- updPorch
variable (s : State) (i : Nat) (f : Porch → Porch) (k m : Nat)
@[simp] theorem State.updPorch_hrt : (s.updPorch i f).hrt = s.hrt := rfl
@[simp] theorem State.updPorch_pins : (s.updPorch i f).pins = s.pins := rfl
@[simp] theorem State.updPorch_boot : (s.updPorch i f).boot = s.boot := rfl
@[simp] theorem State.updPorch_thm : (s.updPorch i f).thm = s.thm := rfl
@[simp] theorem State.updPorch_seats : (s.updPorch i f).seats = s.seats := rfl
@[simp] theorem State.updPorch_taken : (s.updPorch i f).taken = s.taken := rfl
@[simp] theorem State.updPorch_port : (s.updPorch i f).port = s.port := rfl
@[simp] theorem State.updPorch_att : (s.updPorch i f).att = s.att := rfl
@[simp] theorem State.updPorch_regs : (s.updPorch i f).regs = s.regs := rfl
@[simp] theorem State.updPorch_live : (s.updPorch i f).live = s.live := rfl
@[simp] theorem State.updPorch_staged : (s.updPorch i f).staged = s.staged := rfl
@[simp] theorem State.updPorch_events : (s.updPorch i f).events = s.events := rfl
@[simp] theorem State.updPorch_later : (s.updPorch i f).later = s.later := rfl
@[simp] theorem State.updPorch_ops : (s.updPorch i f).ops = s.ops := rfl
@[simp] theorem State.updPorch_loops : (s.updPorch i f).loops = s.loops := rfl
@[simp] theorem State.updPorch_eng : (s.updPorch i f).eng = s.eng := rfl
@[simp] theorem State.updPorch_plan : (s.updPorch i f).plan = s.plan := rfl
@[simp] theorem State.updPorch_mov : (s.updPorch i f).mov = s.mov := rfl
@[simp] theorem State.updPorch_est : (s.updPorch i f).est = s.est := rfl
@[simp] theorem State.updPorch_cages : (s.updPorch i f).cages = s.cages := rfl
@[simp] theorem State.updPorch_lanes : (s.updPorch i f).lanes = s.lanes := rfl
@[simp] theorem State.updPorch_cals : (s.updPorch i f).cals = s.cals := rfl
@[simp] theorem State.updPorch_twn : (s.updPorch i f).twn = s.twn := rfl
@[simp] theorem State.updPorch_til : (s.updPorch i f).til = s.til := rfl
@[simp] theorem State.updPorch_mem : (s.updPorch i f).mem = s.mem := rfl
@[simp] theorem State.updPorch_shelves : (s.updPorch i f).shelves = s.shelves := rfl
@[simp] theorem State.updPorch_pantryRetired : (s.updPorch i f).pantryRetired = s.pantryRetired := rfl
@[simp] theorem State.updPorch_upd : (s.updPorch i f).upd = s.upd := rfl
@[simp] theorem State.updPorch_flash : (s.updPorch i f).flash = s.flash := rfl
@[simp] theorem State.updPorch_ram : (s.updPorch i f).ram = s.ram := rfl
@[simp] theorem State.updPorch_readData : (s.updPorch i f).readData = s.readData := rfl
@[simp] theorem State.updPorch_free : (s.updPorch i f).free = s.free := rfl
@[simp] theorem State.updPorch_pending : (s.updPorch i f).pending = s.pending := rfl
@[simp] theorem State.seat_updPorch : (s.updPorch i f).seat k = s.seat k := rfl
@[simp] theorem State.loop_updPorch : (s.updPorch i f).loop k = s.loop k := rfl
@[simp] theorem State.cage_updPorch : (s.updPorch i f).cage k = s.cage k := rfl
@[simp] theorem State.lane_updPorch : (s.updPorch i f).lane k m = s.lane k m := rfl
@[simp] theorem State.cal_updPorch : (s.updPorch i f).cal k = s.cal k := rfl
@[simp] theorem State.shelf_updPorch : (s.updPorch i f).shelf k = s.shelf k := rfl
@[simp] theorem State.tile_updPorch : (s.updPorch i f).tile k = s.tile k := rfl
@[simp] theorem State.job_updPorch : (s.updPorch i f).job k = s.job k := rfl
@[simp] theorem State.dev_updPorch : (s.updPorch i f).dev k = s.dev k := rfl
@[simp] theorem State.path_updPorch : (s.updPorch i f).path k = s.path k := rfl
@[simp] theorem State.service_updPorch : (s.updPorch i f).service k = s.service k := rfl
@[simp] theorem State.reflex_updPorch : (s.updPorch i f).reflex k = s.reflex k := rfl
@[simp] theorem State.move?_updPorch : (s.updPorch i f).move? k = s.move? k := rfl
@[simp] theorem State.spIn_updPorch : (s.updPorch i f).spIn k = s.spIn k := rfl
@[simp] theorem State.chan_updPorch : (s.updPorch i f).chan k = s.chan k := rfl
@[simp] theorem State.patch_updPorch : (s.updPorch i f).patch k = s.patch k := rfl
@[simp] theorem State.die_updPorch : (s.updPorch i f).die k = s.die k := rfl
@[simp] theorem State.table?_updPorch : (s.updPorch i f).table? k = s.table? k := rfl
@[simp] theorem State.reg_updPorch : (s.updPorch i f).reg k = s.reg k := rfl
@[simp] theorem State.cfgReg_updPorch : (s.updPorch i f).cfgReg k = s.cfgReg k := rfl
@[simp] theorem State.readByte_updPorch : (s.updPorch i f).readByte k = s.readByte k := rfl
end

section -- updCage
variable (s : State) (i : Nat) (f : Cage → Cage) (k m : Nat)
@[simp] theorem State.updCage_hrt : (s.updCage i f).hrt = s.hrt := rfl
@[simp] theorem State.updCage_pins : (s.updCage i f).pins = s.pins := rfl
@[simp] theorem State.updCage_boot : (s.updCage i f).boot = s.boot := rfl
@[simp] theorem State.updCage_thm : (s.updCage i f).thm = s.thm := rfl
@[simp] theorem State.updCage_seats : (s.updCage i f).seats = s.seats := rfl
@[simp] theorem State.updCage_taken : (s.updCage i f).taken = s.taken := rfl
@[simp] theorem State.updCage_port : (s.updCage i f).port = s.port := rfl
@[simp] theorem State.updCage_att : (s.updCage i f).att = s.att := rfl
@[simp] theorem State.updCage_regs : (s.updCage i f).regs = s.regs := rfl
@[simp] theorem State.updCage_live : (s.updCage i f).live = s.live := rfl
@[simp] theorem State.updCage_staged : (s.updCage i f).staged = s.staged := rfl
@[simp] theorem State.updCage_events : (s.updCage i f).events = s.events := rfl
@[simp] theorem State.updCage_later : (s.updCage i f).later = s.later := rfl
@[simp] theorem State.updCage_ops : (s.updCage i f).ops = s.ops := rfl
@[simp] theorem State.updCage_loops : (s.updCage i f).loops = s.loops := rfl
@[simp] theorem State.updCage_eng : (s.updCage i f).eng = s.eng := rfl
@[simp] theorem State.updCage_plan : (s.updCage i f).plan = s.plan := rfl
@[simp] theorem State.updCage_mov : (s.updCage i f).mov = s.mov := rfl
@[simp] theorem State.updCage_est : (s.updCage i f).est = s.est := rfl
@[simp] theorem State.updCage_porches : (s.updCage i f).porches = s.porches := rfl
@[simp] theorem State.updCage_lanes : (s.updCage i f).lanes = s.lanes := rfl
@[simp] theorem State.updCage_cals : (s.updCage i f).cals = s.cals := rfl
@[simp] theorem State.updCage_twn : (s.updCage i f).twn = s.twn := rfl
@[simp] theorem State.updCage_til : (s.updCage i f).til = s.til := rfl
@[simp] theorem State.updCage_mem : (s.updCage i f).mem = s.mem := rfl
@[simp] theorem State.updCage_shelves : (s.updCage i f).shelves = s.shelves := rfl
@[simp] theorem State.updCage_pantryRetired : (s.updCage i f).pantryRetired = s.pantryRetired := rfl
@[simp] theorem State.updCage_upd : (s.updCage i f).upd = s.upd := rfl
@[simp] theorem State.updCage_flash : (s.updCage i f).flash = s.flash := rfl
@[simp] theorem State.updCage_ram : (s.updCage i f).ram = s.ram := rfl
@[simp] theorem State.updCage_readData : (s.updCage i f).readData = s.readData := rfl
@[simp] theorem State.updCage_free : (s.updCage i f).free = s.free := rfl
@[simp] theorem State.updCage_pending : (s.updCage i f).pending = s.pending := rfl
@[simp] theorem State.seat_updCage : (s.updCage i f).seat k = s.seat k := rfl
@[simp] theorem State.loop_updCage : (s.updCage i f).loop k = s.loop k := rfl
@[simp] theorem State.porch_updCage : (s.updCage i f).porch k = s.porch k := rfl
@[simp] theorem State.lane_updCage : (s.updCage i f).lane k m = s.lane k m := rfl
@[simp] theorem State.cal_updCage : (s.updCage i f).cal k = s.cal k := rfl
@[simp] theorem State.shelf_updCage : (s.updCage i f).shelf k = s.shelf k := rfl
@[simp] theorem State.tile_updCage : (s.updCage i f).tile k = s.tile k := rfl
@[simp] theorem State.job_updCage : (s.updCage i f).job k = s.job k := rfl
@[simp] theorem State.dev_updCage : (s.updCage i f).dev k = s.dev k := rfl
@[simp] theorem State.path_updCage : (s.updCage i f).path k = s.path k := rfl
@[simp] theorem State.service_updCage : (s.updCage i f).service k = s.service k := rfl
@[simp] theorem State.reflex_updCage : (s.updCage i f).reflex k = s.reflex k := rfl
@[simp] theorem State.move?_updCage : (s.updCage i f).move? k = s.move? k := rfl
@[simp] theorem State.spIn_updCage : (s.updCage i f).spIn k = s.spIn k := rfl
@[simp] theorem State.chan_updCage : (s.updCage i f).chan k = s.chan k := rfl
@[simp] theorem State.patch_updCage : (s.updCage i f).patch k = s.patch k := rfl
@[simp] theorem State.die_updCage : (s.updCage i f).die k = s.die k := rfl
@[simp] theorem State.table?_updCage : (s.updCage i f).table? k = s.table? k := rfl
@[simp] theorem State.reg_updCage : (s.updCage i f).reg k = s.reg k := rfl
@[simp] theorem State.cfgReg_updCage : (s.updCage i f).cfgReg k = s.cfgReg k := rfl
@[simp] theorem State.readByte_updCage : (s.updCage i f).readByte k = s.readByte k := rfl
end

section -- updLane
variable (s : State) (i l : Nat) (f : Lane → Lane) (k m : Nat)
@[simp] theorem State.updLane_hrt : (s.updLane i l f).hrt = s.hrt := rfl
@[simp] theorem State.updLane_pins : (s.updLane i l f).pins = s.pins := rfl
@[simp] theorem State.updLane_boot : (s.updLane i l f).boot = s.boot := rfl
@[simp] theorem State.updLane_thm : (s.updLane i l f).thm = s.thm := rfl
@[simp] theorem State.updLane_seats : (s.updLane i l f).seats = s.seats := rfl
@[simp] theorem State.updLane_taken : (s.updLane i l f).taken = s.taken := rfl
@[simp] theorem State.updLane_port : (s.updLane i l f).port = s.port := rfl
@[simp] theorem State.updLane_att : (s.updLane i l f).att = s.att := rfl
@[simp] theorem State.updLane_regs : (s.updLane i l f).regs = s.regs := rfl
@[simp] theorem State.updLane_live : (s.updLane i l f).live = s.live := rfl
@[simp] theorem State.updLane_staged : (s.updLane i l f).staged = s.staged := rfl
@[simp] theorem State.updLane_events : (s.updLane i l f).events = s.events := rfl
@[simp] theorem State.updLane_later : (s.updLane i l f).later = s.later := rfl
@[simp] theorem State.updLane_ops : (s.updLane i l f).ops = s.ops := rfl
@[simp] theorem State.updLane_loops : (s.updLane i l f).loops = s.loops := rfl
@[simp] theorem State.updLane_eng : (s.updLane i l f).eng = s.eng := rfl
@[simp] theorem State.updLane_plan : (s.updLane i l f).plan = s.plan := rfl
@[simp] theorem State.updLane_mov : (s.updLane i l f).mov = s.mov := rfl
@[simp] theorem State.updLane_est : (s.updLane i l f).est = s.est := rfl
@[simp] theorem State.updLane_porches : (s.updLane i l f).porches = s.porches := rfl
@[simp] theorem State.updLane_cages : (s.updLane i l f).cages = s.cages := rfl
@[simp] theorem State.updLane_cals : (s.updLane i l f).cals = s.cals := rfl
@[simp] theorem State.updLane_twn : (s.updLane i l f).twn = s.twn := rfl
@[simp] theorem State.updLane_til : (s.updLane i l f).til = s.til := rfl
@[simp] theorem State.updLane_mem : (s.updLane i l f).mem = s.mem := rfl
@[simp] theorem State.updLane_shelves : (s.updLane i l f).shelves = s.shelves := rfl
@[simp] theorem State.updLane_pantryRetired : (s.updLane i l f).pantryRetired = s.pantryRetired := rfl
@[simp] theorem State.updLane_upd : (s.updLane i l f).upd = s.upd := rfl
@[simp] theorem State.updLane_flash : (s.updLane i l f).flash = s.flash := rfl
@[simp] theorem State.updLane_ram : (s.updLane i l f).ram = s.ram := rfl
@[simp] theorem State.updLane_readData : (s.updLane i l f).readData = s.readData := rfl
@[simp] theorem State.updLane_free : (s.updLane i l f).free = s.free := rfl
@[simp] theorem State.updLane_pending : (s.updLane i l f).pending = s.pending := rfl
@[simp] theorem State.seat_updLane : (s.updLane i l f).seat k = s.seat k := rfl
@[simp] theorem State.loop_updLane : (s.updLane i l f).loop k = s.loop k := rfl
@[simp] theorem State.porch_updLane : (s.updLane i l f).porch k = s.porch k := rfl
@[simp] theorem State.cage_updLane : (s.updLane i l f).cage k = s.cage k := rfl
@[simp] theorem State.cal_updLane : (s.updLane i l f).cal k = s.cal k := rfl
@[simp] theorem State.shelf_updLane : (s.updLane i l f).shelf k = s.shelf k := rfl
@[simp] theorem State.tile_updLane : (s.updLane i l f).tile k = s.tile k := rfl
@[simp] theorem State.job_updLane : (s.updLane i l f).job k = s.job k := rfl
@[simp] theorem State.dev_updLane : (s.updLane i l f).dev k = s.dev k := rfl
@[simp] theorem State.path_updLane : (s.updLane i l f).path k = s.path k := rfl
@[simp] theorem State.service_updLane : (s.updLane i l f).service k = s.service k := rfl
@[simp] theorem State.reflex_updLane : (s.updLane i l f).reflex k = s.reflex k := rfl
@[simp] theorem State.move?_updLane : (s.updLane i l f).move? k = s.move? k := rfl
@[simp] theorem State.spIn_updLane : (s.updLane i l f).spIn k = s.spIn k := rfl
@[simp] theorem State.chan_updLane : (s.updLane i l f).chan k = s.chan k := rfl
@[simp] theorem State.patch_updLane : (s.updLane i l f).patch k = s.patch k := rfl
@[simp] theorem State.die_updLane : (s.updLane i l f).die k = s.die k := rfl
@[simp] theorem State.table?_updLane : (s.updLane i l f).table? k = s.table? k := rfl
@[simp] theorem State.reg_updLane : (s.updLane i l f).reg k = s.reg k := rfl
@[simp] theorem State.cfgReg_updLane : (s.updLane i l f).cfgReg k = s.cfgReg k := rfl
@[simp] theorem State.readByte_updLane : (s.updLane i l f).readByte k = s.readByte k := rfl
end

section -- updCal
variable (s : State) (i : Nat) (f : CalRun → CalRun) (k m : Nat)
@[simp] theorem State.updCal_hrt : (s.updCal i f).hrt = s.hrt := rfl
@[simp] theorem State.updCal_pins : (s.updCal i f).pins = s.pins := rfl
@[simp] theorem State.updCal_boot : (s.updCal i f).boot = s.boot := rfl
@[simp] theorem State.updCal_thm : (s.updCal i f).thm = s.thm := rfl
@[simp] theorem State.updCal_seats : (s.updCal i f).seats = s.seats := rfl
@[simp] theorem State.updCal_taken : (s.updCal i f).taken = s.taken := rfl
@[simp] theorem State.updCal_port : (s.updCal i f).port = s.port := rfl
@[simp] theorem State.updCal_att : (s.updCal i f).att = s.att := rfl
@[simp] theorem State.updCal_regs : (s.updCal i f).regs = s.regs := rfl
@[simp] theorem State.updCal_live : (s.updCal i f).live = s.live := rfl
@[simp] theorem State.updCal_staged : (s.updCal i f).staged = s.staged := rfl
@[simp] theorem State.updCal_events : (s.updCal i f).events = s.events := rfl
@[simp] theorem State.updCal_later : (s.updCal i f).later = s.later := rfl
@[simp] theorem State.updCal_ops : (s.updCal i f).ops = s.ops := rfl
@[simp] theorem State.updCal_loops : (s.updCal i f).loops = s.loops := rfl
@[simp] theorem State.updCal_eng : (s.updCal i f).eng = s.eng := rfl
@[simp] theorem State.updCal_plan : (s.updCal i f).plan = s.plan := rfl
@[simp] theorem State.updCal_mov : (s.updCal i f).mov = s.mov := rfl
@[simp] theorem State.updCal_est : (s.updCal i f).est = s.est := rfl
@[simp] theorem State.updCal_porches : (s.updCal i f).porches = s.porches := rfl
@[simp] theorem State.updCal_cages : (s.updCal i f).cages = s.cages := rfl
@[simp] theorem State.updCal_lanes : (s.updCal i f).lanes = s.lanes := rfl
@[simp] theorem State.updCal_twn : (s.updCal i f).twn = s.twn := rfl
@[simp] theorem State.updCal_til : (s.updCal i f).til = s.til := rfl
@[simp] theorem State.updCal_mem : (s.updCal i f).mem = s.mem := rfl
@[simp] theorem State.updCal_shelves : (s.updCal i f).shelves = s.shelves := rfl
@[simp] theorem State.updCal_pantryRetired : (s.updCal i f).pantryRetired = s.pantryRetired := rfl
@[simp] theorem State.updCal_upd : (s.updCal i f).upd = s.upd := rfl
@[simp] theorem State.updCal_flash : (s.updCal i f).flash = s.flash := rfl
@[simp] theorem State.updCal_ram : (s.updCal i f).ram = s.ram := rfl
@[simp] theorem State.updCal_readData : (s.updCal i f).readData = s.readData := rfl
@[simp] theorem State.updCal_free : (s.updCal i f).free = s.free := rfl
@[simp] theorem State.updCal_pending : (s.updCal i f).pending = s.pending := rfl
@[simp] theorem State.seat_updCal : (s.updCal i f).seat k = s.seat k := rfl
@[simp] theorem State.loop_updCal : (s.updCal i f).loop k = s.loop k := rfl
@[simp] theorem State.porch_updCal : (s.updCal i f).porch k = s.porch k := rfl
@[simp] theorem State.cage_updCal : (s.updCal i f).cage k = s.cage k := rfl
@[simp] theorem State.lane_updCal : (s.updCal i f).lane k m = s.lane k m := rfl
@[simp] theorem State.shelf_updCal : (s.updCal i f).shelf k = s.shelf k := rfl
@[simp] theorem State.tile_updCal : (s.updCal i f).tile k = s.tile k := rfl
@[simp] theorem State.job_updCal : (s.updCal i f).job k = s.job k := rfl
@[simp] theorem State.dev_updCal : (s.updCal i f).dev k = s.dev k := rfl
@[simp] theorem State.path_updCal : (s.updCal i f).path k = s.path k := rfl
@[simp] theorem State.service_updCal : (s.updCal i f).service k = s.service k := rfl
@[simp] theorem State.reflex_updCal : (s.updCal i f).reflex k = s.reflex k := rfl
@[simp] theorem State.move?_updCal : (s.updCal i f).move? k = s.move? k := rfl
@[simp] theorem State.spIn_updCal : (s.updCal i f).spIn k = s.spIn k := rfl
@[simp] theorem State.chan_updCal : (s.updCal i f).chan k = s.chan k := rfl
@[simp] theorem State.patch_updCal : (s.updCal i f).patch k = s.patch k := rfl
@[simp] theorem State.die_updCal : (s.updCal i f).die k = s.die k := rfl
@[simp] theorem State.table?_updCal : (s.updCal i f).table? k = s.table? k := rfl
@[simp] theorem State.reg_updCal : (s.updCal i f).reg k = s.reg k := rfl
@[simp] theorem State.cfgReg_updCal : (s.updCal i f).cfgReg k = s.cfgReg k := rfl
@[simp] theorem State.readByte_updCal : (s.updCal i f).readByte k = s.readByte k := rfl
end

section -- updShelf
variable (s : State) (i : Nat) (f : Shelf → Shelf) (k m : Nat)
@[simp] theorem State.updShelf_hrt : (s.updShelf i f).hrt = s.hrt := rfl
@[simp] theorem State.updShelf_pins : (s.updShelf i f).pins = s.pins := rfl
@[simp] theorem State.updShelf_boot : (s.updShelf i f).boot = s.boot := rfl
@[simp] theorem State.updShelf_thm : (s.updShelf i f).thm = s.thm := rfl
@[simp] theorem State.updShelf_seats : (s.updShelf i f).seats = s.seats := rfl
@[simp] theorem State.updShelf_taken : (s.updShelf i f).taken = s.taken := rfl
@[simp] theorem State.updShelf_port : (s.updShelf i f).port = s.port := rfl
@[simp] theorem State.updShelf_att : (s.updShelf i f).att = s.att := rfl
@[simp] theorem State.updShelf_regs : (s.updShelf i f).regs = s.regs := rfl
@[simp] theorem State.updShelf_live : (s.updShelf i f).live = s.live := rfl
@[simp] theorem State.updShelf_staged : (s.updShelf i f).staged = s.staged := rfl
@[simp] theorem State.updShelf_events : (s.updShelf i f).events = s.events := rfl
@[simp] theorem State.updShelf_later : (s.updShelf i f).later = s.later := rfl
@[simp] theorem State.updShelf_ops : (s.updShelf i f).ops = s.ops := rfl
@[simp] theorem State.updShelf_loops : (s.updShelf i f).loops = s.loops := rfl
@[simp] theorem State.updShelf_eng : (s.updShelf i f).eng = s.eng := rfl
@[simp] theorem State.updShelf_plan : (s.updShelf i f).plan = s.plan := rfl
@[simp] theorem State.updShelf_mov : (s.updShelf i f).mov = s.mov := rfl
@[simp] theorem State.updShelf_est : (s.updShelf i f).est = s.est := rfl
@[simp] theorem State.updShelf_porches : (s.updShelf i f).porches = s.porches := rfl
@[simp] theorem State.updShelf_cages : (s.updShelf i f).cages = s.cages := rfl
@[simp] theorem State.updShelf_lanes : (s.updShelf i f).lanes = s.lanes := rfl
@[simp] theorem State.updShelf_cals : (s.updShelf i f).cals = s.cals := rfl
@[simp] theorem State.updShelf_twn : (s.updShelf i f).twn = s.twn := rfl
@[simp] theorem State.updShelf_til : (s.updShelf i f).til = s.til := rfl
@[simp] theorem State.updShelf_mem : (s.updShelf i f).mem = s.mem := rfl
@[simp] theorem State.updShelf_pantryRetired : (s.updShelf i f).pantryRetired = s.pantryRetired := rfl
@[simp] theorem State.updShelf_upd : (s.updShelf i f).upd = s.upd := rfl
@[simp] theorem State.updShelf_flash : (s.updShelf i f).flash = s.flash := rfl
@[simp] theorem State.updShelf_ram : (s.updShelf i f).ram = s.ram := rfl
@[simp] theorem State.updShelf_readData : (s.updShelf i f).readData = s.readData := rfl
@[simp] theorem State.updShelf_free : (s.updShelf i f).free = s.free := rfl
@[simp] theorem State.updShelf_pending : (s.updShelf i f).pending = s.pending := rfl
@[simp] theorem State.seat_updShelf : (s.updShelf i f).seat k = s.seat k := rfl
@[simp] theorem State.loop_updShelf : (s.updShelf i f).loop k = s.loop k := rfl
@[simp] theorem State.porch_updShelf : (s.updShelf i f).porch k = s.porch k := rfl
@[simp] theorem State.cage_updShelf : (s.updShelf i f).cage k = s.cage k := rfl
@[simp] theorem State.lane_updShelf : (s.updShelf i f).lane k m = s.lane k m := rfl
@[simp] theorem State.cal_updShelf : (s.updShelf i f).cal k = s.cal k := rfl
@[simp] theorem State.tile_updShelf : (s.updShelf i f).tile k = s.tile k := rfl
@[simp] theorem State.job_updShelf : (s.updShelf i f).job k = s.job k := rfl
@[simp] theorem State.dev_updShelf : (s.updShelf i f).dev k = s.dev k := rfl
@[simp] theorem State.path_updShelf : (s.updShelf i f).path k = s.path k := rfl
@[simp] theorem State.service_updShelf : (s.updShelf i f).service k = s.service k := rfl
@[simp] theorem State.reflex_updShelf : (s.updShelf i f).reflex k = s.reflex k := rfl
@[simp] theorem State.move?_updShelf : (s.updShelf i f).move? k = s.move? k := rfl
@[simp] theorem State.spIn_updShelf : (s.updShelf i f).spIn k = s.spIn k := rfl
@[simp] theorem State.chan_updShelf : (s.updShelf i f).chan k = s.chan k := rfl
@[simp] theorem State.patch_updShelf : (s.updShelf i f).patch k = s.patch k := rfl
@[simp] theorem State.die_updShelf : (s.updShelf i f).die k = s.die k := rfl
@[simp] theorem State.table?_updShelf : (s.updShelf i f).table? k = s.table? k := rfl
@[simp] theorem State.reg_updShelf : (s.updShelf i f).reg k = s.reg k := rfl
@[simp] theorem State.cfgReg_updShelf : (s.updShelf i f).cfgReg k = s.cfgReg k := rfl
@[simp] theorem State.readByte_updShelf : (s.updShelf i f).readByte k = s.readByte k := rfl
end

section -- updTile
variable (s : State) (i : Nat) (f : Tile → Tile) (k m : Nat)
@[simp] theorem State.updTile_hrt : (s.updTile i f).hrt = s.hrt := rfl
@[simp] theorem State.updTile_pins : (s.updTile i f).pins = s.pins := rfl
@[simp] theorem State.updTile_boot : (s.updTile i f).boot = s.boot := rfl
@[simp] theorem State.updTile_thm : (s.updTile i f).thm = s.thm := rfl
@[simp] theorem State.updTile_seats : (s.updTile i f).seats = s.seats := rfl
@[simp] theorem State.updTile_taken : (s.updTile i f).taken = s.taken := rfl
@[simp] theorem State.updTile_port : (s.updTile i f).port = s.port := rfl
@[simp] theorem State.updTile_att : (s.updTile i f).att = s.att := rfl
@[simp] theorem State.updTile_regs : (s.updTile i f).regs = s.regs := rfl
@[simp] theorem State.updTile_live : (s.updTile i f).live = s.live := rfl
@[simp] theorem State.updTile_staged : (s.updTile i f).staged = s.staged := rfl
@[simp] theorem State.updTile_events : (s.updTile i f).events = s.events := rfl
@[simp] theorem State.updTile_later : (s.updTile i f).later = s.later := rfl
@[simp] theorem State.updTile_ops : (s.updTile i f).ops = s.ops := rfl
@[simp] theorem State.updTile_loops : (s.updTile i f).loops = s.loops := rfl
@[simp] theorem State.updTile_eng : (s.updTile i f).eng = s.eng := rfl
@[simp] theorem State.updTile_plan : (s.updTile i f).plan = s.plan := rfl
@[simp] theorem State.updTile_mov : (s.updTile i f).mov = s.mov := rfl
@[simp] theorem State.updTile_est : (s.updTile i f).est = s.est := rfl
@[simp] theorem State.updTile_porches : (s.updTile i f).porches = s.porches := rfl
@[simp] theorem State.updTile_cages : (s.updTile i f).cages = s.cages := rfl
@[simp] theorem State.updTile_lanes : (s.updTile i f).lanes = s.lanes := rfl
@[simp] theorem State.updTile_cals : (s.updTile i f).cals = s.cals := rfl
@[simp] theorem State.updTile_twn : (s.updTile i f).twn = s.twn := rfl
@[simp] theorem State.updTile_mem : (s.updTile i f).mem = s.mem := rfl
@[simp] theorem State.updTile_shelves : (s.updTile i f).shelves = s.shelves := rfl
@[simp] theorem State.updTile_pantryRetired : (s.updTile i f).pantryRetired = s.pantryRetired := rfl
@[simp] theorem State.updTile_upd : (s.updTile i f).upd = s.upd := rfl
@[simp] theorem State.updTile_flash : (s.updTile i f).flash = s.flash := rfl
@[simp] theorem State.updTile_ram : (s.updTile i f).ram = s.ram := rfl
@[simp] theorem State.updTile_readData : (s.updTile i f).readData = s.readData := rfl
@[simp] theorem State.updTile_free : (s.updTile i f).free = s.free := rfl
@[simp] theorem State.updTile_pending : (s.updTile i f).pending = s.pending := rfl
@[simp] theorem State.seat_updTile : (s.updTile i f).seat k = s.seat k := rfl
@[simp] theorem State.loop_updTile : (s.updTile i f).loop k = s.loop k := rfl
@[simp] theorem State.porch_updTile : (s.updTile i f).porch k = s.porch k := rfl
@[simp] theorem State.cage_updTile : (s.updTile i f).cage k = s.cage k := rfl
@[simp] theorem State.lane_updTile : (s.updTile i f).lane k m = s.lane k m := rfl
@[simp] theorem State.cal_updTile : (s.updTile i f).cal k = s.cal k := rfl
@[simp] theorem State.shelf_updTile : (s.updTile i f).shelf k = s.shelf k := rfl
@[simp] theorem State.job_updTile : (s.updTile i f).job k = s.job k := rfl
@[simp] theorem State.dev_updTile : (s.updTile i f).dev k = s.dev k := rfl
@[simp] theorem State.path_updTile : (s.updTile i f).path k = s.path k := rfl
@[simp] theorem State.service_updTile : (s.updTile i f).service k = s.service k := rfl
@[simp] theorem State.reflex_updTile : (s.updTile i f).reflex k = s.reflex k := rfl
@[simp] theorem State.move?_updTile : (s.updTile i f).move? k = s.move? k := rfl
@[simp] theorem State.spIn_updTile : (s.updTile i f).spIn k = s.spIn k := rfl
@[simp] theorem State.chan_updTile : (s.updTile i f).chan k = s.chan k := rfl
@[simp] theorem State.patch_updTile : (s.updTile i f).patch k = s.patch k := rfl
@[simp] theorem State.die_updTile : (s.updTile i f).die k = s.die k := rfl
@[simp] theorem State.table?_updTile : (s.updTile i f).table? k = s.table? k := rfl
@[simp] theorem State.reg_updTile : (s.updTile i f).reg k = s.reg k := rfl
@[simp] theorem State.cfgReg_updTile : (s.updTile i f).cfgReg k = s.cfgReg k := rfl
@[simp] theorem State.readByte_updTile : (s.updTile i f).readByte k = s.readByte k := rfl
end

section -- updJob
variable (s : State) (i : Nat) (f : Job → Job) (k m : Nat)
@[simp] theorem State.updJob_hrt : (s.updJob i f).hrt = s.hrt := rfl
@[simp] theorem State.updJob_pins : (s.updJob i f).pins = s.pins := rfl
@[simp] theorem State.updJob_boot : (s.updJob i f).boot = s.boot := rfl
@[simp] theorem State.updJob_thm : (s.updJob i f).thm = s.thm := rfl
@[simp] theorem State.updJob_seats : (s.updJob i f).seats = s.seats := rfl
@[simp] theorem State.updJob_taken : (s.updJob i f).taken = s.taken := rfl
@[simp] theorem State.updJob_port : (s.updJob i f).port = s.port := rfl
@[simp] theorem State.updJob_att : (s.updJob i f).att = s.att := rfl
@[simp] theorem State.updJob_regs : (s.updJob i f).regs = s.regs := rfl
@[simp] theorem State.updJob_live : (s.updJob i f).live = s.live := rfl
@[simp] theorem State.updJob_staged : (s.updJob i f).staged = s.staged := rfl
@[simp] theorem State.updJob_events : (s.updJob i f).events = s.events := rfl
@[simp] theorem State.updJob_later : (s.updJob i f).later = s.later := rfl
@[simp] theorem State.updJob_ops : (s.updJob i f).ops = s.ops := rfl
@[simp] theorem State.updJob_loops : (s.updJob i f).loops = s.loops := rfl
@[simp] theorem State.updJob_eng : (s.updJob i f).eng = s.eng := rfl
@[simp] theorem State.updJob_plan : (s.updJob i f).plan = s.plan := rfl
@[simp] theorem State.updJob_mov : (s.updJob i f).mov = s.mov := rfl
@[simp] theorem State.updJob_est : (s.updJob i f).est = s.est := rfl
@[simp] theorem State.updJob_porches : (s.updJob i f).porches = s.porches := rfl
@[simp] theorem State.updJob_cages : (s.updJob i f).cages = s.cages := rfl
@[simp] theorem State.updJob_lanes : (s.updJob i f).lanes = s.lanes := rfl
@[simp] theorem State.updJob_cals : (s.updJob i f).cals = s.cals := rfl
@[simp] theorem State.updJob_twn : (s.updJob i f).twn = s.twn := rfl
@[simp] theorem State.updJob_mem : (s.updJob i f).mem = s.mem := rfl
@[simp] theorem State.updJob_shelves : (s.updJob i f).shelves = s.shelves := rfl
@[simp] theorem State.updJob_pantryRetired : (s.updJob i f).pantryRetired = s.pantryRetired := rfl
@[simp] theorem State.updJob_upd : (s.updJob i f).upd = s.upd := rfl
@[simp] theorem State.updJob_flash : (s.updJob i f).flash = s.flash := rfl
@[simp] theorem State.updJob_ram : (s.updJob i f).ram = s.ram := rfl
@[simp] theorem State.updJob_readData : (s.updJob i f).readData = s.readData := rfl
@[simp] theorem State.updJob_free : (s.updJob i f).free = s.free := rfl
@[simp] theorem State.updJob_pending : (s.updJob i f).pending = s.pending := rfl
@[simp] theorem State.seat_updJob : (s.updJob i f).seat k = s.seat k := rfl
@[simp] theorem State.loop_updJob : (s.updJob i f).loop k = s.loop k := rfl
@[simp] theorem State.porch_updJob : (s.updJob i f).porch k = s.porch k := rfl
@[simp] theorem State.cage_updJob : (s.updJob i f).cage k = s.cage k := rfl
@[simp] theorem State.lane_updJob : (s.updJob i f).lane k m = s.lane k m := rfl
@[simp] theorem State.cal_updJob : (s.updJob i f).cal k = s.cal k := rfl
@[simp] theorem State.shelf_updJob : (s.updJob i f).shelf k = s.shelf k := rfl
@[simp] theorem State.tile_updJob : (s.updJob i f).tile k = s.tile k := rfl
@[simp] theorem State.dev_updJob : (s.updJob i f).dev k = s.dev k := rfl
@[simp] theorem State.path_updJob : (s.updJob i f).path k = s.path k := rfl
@[simp] theorem State.service_updJob : (s.updJob i f).service k = s.service k := rfl
@[simp] theorem State.reflex_updJob : (s.updJob i f).reflex k = s.reflex k := rfl
@[simp] theorem State.move?_updJob : (s.updJob i f).move? k = s.move? k := rfl
@[simp] theorem State.spIn_updJob : (s.updJob i f).spIn k = s.spIn k := rfl
@[simp] theorem State.chan_updJob : (s.updJob i f).chan k = s.chan k := rfl
@[simp] theorem State.patch_updJob : (s.updJob i f).patch k = s.patch k := rfl
@[simp] theorem State.die_updJob : (s.updJob i f).die k = s.die k := rfl
@[simp] theorem State.table?_updJob : (s.updJob i f).table? k = s.table? k := rfl
@[simp] theorem State.reg_updJob : (s.updJob i f).reg k = s.reg k := rfl
@[simp] theorem State.cfgReg_updJob : (s.updJob i f).cfgReg k = s.cfgReg k := rfl
@[simp] theorem State.readByte_updJob : (s.updJob i f).readByte k = s.readByte k := rfl
end

section -- updDev
variable (s : State) (i : Nat) (f : Gddr7 → Gddr7) (k m : Nat)
@[simp] theorem State.updDev_hrt : (s.updDev i f).hrt = s.hrt := rfl
@[simp] theorem State.updDev_pins : (s.updDev i f).pins = s.pins := rfl
@[simp] theorem State.updDev_boot : (s.updDev i f).boot = s.boot := rfl
@[simp] theorem State.updDev_thm : (s.updDev i f).thm = s.thm := rfl
@[simp] theorem State.updDev_seats : (s.updDev i f).seats = s.seats := rfl
@[simp] theorem State.updDev_taken : (s.updDev i f).taken = s.taken := rfl
@[simp] theorem State.updDev_port : (s.updDev i f).port = s.port := rfl
@[simp] theorem State.updDev_att : (s.updDev i f).att = s.att := rfl
@[simp] theorem State.updDev_regs : (s.updDev i f).regs = s.regs := rfl
@[simp] theorem State.updDev_live : (s.updDev i f).live = s.live := rfl
@[simp] theorem State.updDev_staged : (s.updDev i f).staged = s.staged := rfl
@[simp] theorem State.updDev_events : (s.updDev i f).events = s.events := rfl
@[simp] theorem State.updDev_later : (s.updDev i f).later = s.later := rfl
@[simp] theorem State.updDev_ops : (s.updDev i f).ops = s.ops := rfl
@[simp] theorem State.updDev_loops : (s.updDev i f).loops = s.loops := rfl
@[simp] theorem State.updDev_eng : (s.updDev i f).eng = s.eng := rfl
@[simp] theorem State.updDev_plan : (s.updDev i f).plan = s.plan := rfl
@[simp] theorem State.updDev_mov : (s.updDev i f).mov = s.mov := rfl
@[simp] theorem State.updDev_est : (s.updDev i f).est = s.est := rfl
@[simp] theorem State.updDev_porches : (s.updDev i f).porches = s.porches := rfl
@[simp] theorem State.updDev_cages : (s.updDev i f).cages = s.cages := rfl
@[simp] theorem State.updDev_lanes : (s.updDev i f).lanes = s.lanes := rfl
@[simp] theorem State.updDev_cals : (s.updDev i f).cals = s.cals := rfl
@[simp] theorem State.updDev_twn : (s.updDev i f).twn = s.twn := rfl
@[simp] theorem State.updDev_til : (s.updDev i f).til = s.til := rfl
@[simp] theorem State.updDev_shelves : (s.updDev i f).shelves = s.shelves := rfl
@[simp] theorem State.updDev_pantryRetired : (s.updDev i f).pantryRetired = s.pantryRetired := rfl
@[simp] theorem State.updDev_upd : (s.updDev i f).upd = s.upd := rfl
@[simp] theorem State.updDev_flash : (s.updDev i f).flash = s.flash := rfl
@[simp] theorem State.updDev_ram : (s.updDev i f).ram = s.ram := rfl
@[simp] theorem State.updDev_readData : (s.updDev i f).readData = s.readData := rfl
@[simp] theorem State.updDev_free : (s.updDev i f).free = s.free := rfl
@[simp] theorem State.updDev_pending : (s.updDev i f).pending = s.pending := rfl
@[simp] theorem State.seat_updDev : (s.updDev i f).seat k = s.seat k := rfl
@[simp] theorem State.loop_updDev : (s.updDev i f).loop k = s.loop k := rfl
@[simp] theorem State.porch_updDev : (s.updDev i f).porch k = s.porch k := rfl
@[simp] theorem State.cage_updDev : (s.updDev i f).cage k = s.cage k := rfl
@[simp] theorem State.lane_updDev : (s.updDev i f).lane k m = s.lane k m := rfl
@[simp] theorem State.cal_updDev : (s.updDev i f).cal k = s.cal k := rfl
@[simp] theorem State.shelf_updDev : (s.updDev i f).shelf k = s.shelf k := rfl
@[simp] theorem State.tile_updDev : (s.updDev i f).tile k = s.tile k := rfl
@[simp] theorem State.job_updDev : (s.updDev i f).job k = s.job k := rfl
@[simp] theorem State.path_updDev : (s.updDev i f).path k = s.path k := rfl
@[simp] theorem State.service_updDev : (s.updDev i f).service k = s.service k := rfl
@[simp] theorem State.reflex_updDev : (s.updDev i f).reflex k = s.reflex k := rfl
@[simp] theorem State.move?_updDev : (s.updDev i f).move? k = s.move? k := rfl
@[simp] theorem State.spIn_updDev : (s.updDev i f).spIn k = s.spIn k := rfl
@[simp] theorem State.chan_updDev : (s.updDev i f).chan k = s.chan k := rfl
@[simp] theorem State.patch_updDev : (s.updDev i f).patch k = s.patch k := rfl
@[simp] theorem State.die_updDev : (s.updDev i f).die k = s.die k := rfl
@[simp] theorem State.table?_updDev : (s.updDev i f).table? k = s.table? k := rfl
@[simp] theorem State.reg_updDev : (s.updDev i f).reg k = s.reg k := rfl
@[simp] theorem State.cfgReg_updDev : (s.updDev i f).cfgReg k = s.cfgReg k := rfl
@[simp] theorem State.readByte_updDev : (s.updDev i f).readByte k = s.readByte k := rfl
end

section -- updPath
variable (s : State) (i : Nat) (f : PathRec → PathRec) (k m : Nat)
@[simp] theorem State.updPath_hrt : (s.updPath i f).hrt = s.hrt := rfl
@[simp] theorem State.updPath_pins : (s.updPath i f).pins = s.pins := rfl
@[simp] theorem State.updPath_boot : (s.updPath i f).boot = s.boot := rfl
@[simp] theorem State.updPath_thm : (s.updPath i f).thm = s.thm := rfl
@[simp] theorem State.updPath_seats : (s.updPath i f).seats = s.seats := rfl
@[simp] theorem State.updPath_taken : (s.updPath i f).taken = s.taken := rfl
@[simp] theorem State.updPath_port : (s.updPath i f).port = s.port := rfl
@[simp] theorem State.updPath_att : (s.updPath i f).att = s.att := rfl
@[simp] theorem State.updPath_regs : (s.updPath i f).regs = s.regs := rfl
@[simp] theorem State.updPath_live : (s.updPath i f).live = s.live := rfl
@[simp] theorem State.updPath_staged : (s.updPath i f).staged = s.staged := rfl
@[simp] theorem State.updPath_events : (s.updPath i f).events = s.events := rfl
@[simp] theorem State.updPath_later : (s.updPath i f).later = s.later := rfl
@[simp] theorem State.updPath_ops : (s.updPath i f).ops = s.ops := rfl
@[simp] theorem State.updPath_loops : (s.updPath i f).loops = s.loops := rfl
@[simp] theorem State.updPath_eng : (s.updPath i f).eng = s.eng := rfl
@[simp] theorem State.updPath_plan : (s.updPath i f).plan = s.plan := rfl
@[simp] theorem State.updPath_est : (s.updPath i f).est = s.est := rfl
@[simp] theorem State.updPath_porches : (s.updPath i f).porches = s.porches := rfl
@[simp] theorem State.updPath_cages : (s.updPath i f).cages = s.cages := rfl
@[simp] theorem State.updPath_lanes : (s.updPath i f).lanes = s.lanes := rfl
@[simp] theorem State.updPath_cals : (s.updPath i f).cals = s.cals := rfl
@[simp] theorem State.updPath_twn : (s.updPath i f).twn = s.twn := rfl
@[simp] theorem State.updPath_til : (s.updPath i f).til = s.til := rfl
@[simp] theorem State.updPath_mem : (s.updPath i f).mem = s.mem := rfl
@[simp] theorem State.updPath_shelves : (s.updPath i f).shelves = s.shelves := rfl
@[simp] theorem State.updPath_pantryRetired : (s.updPath i f).pantryRetired = s.pantryRetired := rfl
@[simp] theorem State.updPath_upd : (s.updPath i f).upd = s.upd := rfl
@[simp] theorem State.updPath_flash : (s.updPath i f).flash = s.flash := rfl
@[simp] theorem State.updPath_ram : (s.updPath i f).ram = s.ram := rfl
@[simp] theorem State.updPath_readData : (s.updPath i f).readData = s.readData := rfl
@[simp] theorem State.updPath_free : (s.updPath i f).free = s.free := rfl
@[simp] theorem State.updPath_pending : (s.updPath i f).pending = s.pending := rfl
@[simp] theorem State.seat_updPath : (s.updPath i f).seat k = s.seat k := rfl
@[simp] theorem State.loop_updPath : (s.updPath i f).loop k = s.loop k := rfl
@[simp] theorem State.porch_updPath : (s.updPath i f).porch k = s.porch k := rfl
@[simp] theorem State.cage_updPath : (s.updPath i f).cage k = s.cage k := rfl
@[simp] theorem State.lane_updPath : (s.updPath i f).lane k m = s.lane k m := rfl
@[simp] theorem State.cal_updPath : (s.updPath i f).cal k = s.cal k := rfl
@[simp] theorem State.shelf_updPath : (s.updPath i f).shelf k = s.shelf k := rfl
@[simp] theorem State.tile_updPath : (s.updPath i f).tile k = s.tile k := rfl
@[simp] theorem State.job_updPath : (s.updPath i f).job k = s.job k := rfl
@[simp] theorem State.dev_updPath : (s.updPath i f).dev k = s.dev k := rfl
@[simp] theorem State.service_updPath : (s.updPath i f).service k = s.service k := rfl
@[simp] theorem State.reflex_updPath : (s.updPath i f).reflex k = s.reflex k := rfl
@[simp] theorem State.move?_updPath : (s.updPath i f).move? k = s.move? k := rfl
@[simp] theorem State.spIn_updPath : (s.updPath i f).spIn k = s.spIn k := rfl
@[simp] theorem State.chan_updPath : (s.updPath i f).chan k = s.chan k := rfl
@[simp] theorem State.patch_updPath : (s.updPath i f).patch k = s.patch k := rfl
@[simp] theorem State.die_updPath : (s.updPath i f).die k = s.die k := rfl
@[simp] theorem State.table?_updPath : (s.updPath i f).table? k = s.table? k := rfl
@[simp] theorem State.reg_updPath : (s.updPath i f).reg k = s.reg k := rfl
@[simp] theorem State.cfgReg_updPath : (s.updPath i f).cfgReg k = s.cfgReg k := rfl
@[simp] theorem State.readByte_updPath : (s.updPath i f).readByte k = s.readByte k := rfl
end

section -- updService
variable (s : State) (i : Nat) (f : Service → Service) (k m : Nat)
@[simp] theorem State.updService_hrt : (s.updService i f).hrt = s.hrt := rfl
@[simp] theorem State.updService_pins : (s.updService i f).pins = s.pins := rfl
@[simp] theorem State.updService_boot : (s.updService i f).boot = s.boot := rfl
@[simp] theorem State.updService_thm : (s.updService i f).thm = s.thm := rfl
@[simp] theorem State.updService_seats : (s.updService i f).seats = s.seats := rfl
@[simp] theorem State.updService_taken : (s.updService i f).taken = s.taken := rfl
@[simp] theorem State.updService_port : (s.updService i f).port = s.port := rfl
@[simp] theorem State.updService_att : (s.updService i f).att = s.att := rfl
@[simp] theorem State.updService_regs : (s.updService i f).regs = s.regs := rfl
@[simp] theorem State.updService_live : (s.updService i f).live = s.live := rfl
@[simp] theorem State.updService_staged : (s.updService i f).staged = s.staged := rfl
@[simp] theorem State.updService_events : (s.updService i f).events = s.events := rfl
@[simp] theorem State.updService_later : (s.updService i f).later = s.later := rfl
@[simp] theorem State.updService_ops : (s.updService i f).ops = s.ops := rfl
@[simp] theorem State.updService_loops : (s.updService i f).loops = s.loops := rfl
@[simp] theorem State.updService_eng : (s.updService i f).eng = s.eng := rfl
@[simp] theorem State.updService_plan : (s.updService i f).plan = s.plan := rfl
@[simp] theorem State.updService_est : (s.updService i f).est = s.est := rfl
@[simp] theorem State.updService_porches : (s.updService i f).porches = s.porches := rfl
@[simp] theorem State.updService_cages : (s.updService i f).cages = s.cages := rfl
@[simp] theorem State.updService_lanes : (s.updService i f).lanes = s.lanes := rfl
@[simp] theorem State.updService_cals : (s.updService i f).cals = s.cals := rfl
@[simp] theorem State.updService_twn : (s.updService i f).twn = s.twn := rfl
@[simp] theorem State.updService_til : (s.updService i f).til = s.til := rfl
@[simp] theorem State.updService_mem : (s.updService i f).mem = s.mem := rfl
@[simp] theorem State.updService_shelves : (s.updService i f).shelves = s.shelves := rfl
@[simp] theorem State.updService_pantryRetired : (s.updService i f).pantryRetired = s.pantryRetired := rfl
@[simp] theorem State.updService_upd : (s.updService i f).upd = s.upd := rfl
@[simp] theorem State.updService_flash : (s.updService i f).flash = s.flash := rfl
@[simp] theorem State.updService_ram : (s.updService i f).ram = s.ram := rfl
@[simp] theorem State.updService_readData : (s.updService i f).readData = s.readData := rfl
@[simp] theorem State.updService_free : (s.updService i f).free = s.free := rfl
@[simp] theorem State.updService_pending : (s.updService i f).pending = s.pending := rfl
@[simp] theorem State.seat_updService : (s.updService i f).seat k = s.seat k := rfl
@[simp] theorem State.loop_updService : (s.updService i f).loop k = s.loop k := rfl
@[simp] theorem State.porch_updService : (s.updService i f).porch k = s.porch k := rfl
@[simp] theorem State.cage_updService : (s.updService i f).cage k = s.cage k := rfl
@[simp] theorem State.lane_updService : (s.updService i f).lane k m = s.lane k m := rfl
@[simp] theorem State.cal_updService : (s.updService i f).cal k = s.cal k := rfl
@[simp] theorem State.shelf_updService : (s.updService i f).shelf k = s.shelf k := rfl
@[simp] theorem State.tile_updService : (s.updService i f).tile k = s.tile k := rfl
@[simp] theorem State.job_updService : (s.updService i f).job k = s.job k := rfl
@[simp] theorem State.dev_updService : (s.updService i f).dev k = s.dev k := rfl
@[simp] theorem State.path_updService : (s.updService i f).path k = s.path k := rfl
@[simp] theorem State.reflex_updService : (s.updService i f).reflex k = s.reflex k := rfl
@[simp] theorem State.move?_updService : (s.updService i f).move? k = s.move? k := rfl
@[simp] theorem State.spIn_updService : (s.updService i f).spIn k = s.spIn k := rfl
@[simp] theorem State.chan_updService : (s.updService i f).chan k = s.chan k := rfl
@[simp] theorem State.patch_updService : (s.updService i f).patch k = s.patch k := rfl
@[simp] theorem State.die_updService : (s.updService i f).die k = s.die k := rfl
@[simp] theorem State.table?_updService : (s.updService i f).table? k = s.table? k := rfl
@[simp] theorem State.reg_updService : (s.updService i f).reg k = s.reg k := rfl
@[simp] theorem State.cfgReg_updService : (s.updService i f).cfgReg k = s.cfgReg k := rfl
@[simp] theorem State.readByte_updService : (s.updService i f).readByte k = s.readByte k := rfl
end

section -- updReflex
variable (s : State) (i : Nat) (f : Reflex → Reflex) (k m : Nat)
@[simp] theorem State.updReflex_hrt : (s.updReflex i f).hrt = s.hrt := rfl
@[simp] theorem State.updReflex_pins : (s.updReflex i f).pins = s.pins := rfl
@[simp] theorem State.updReflex_boot : (s.updReflex i f).boot = s.boot := rfl
@[simp] theorem State.updReflex_thm : (s.updReflex i f).thm = s.thm := rfl
@[simp] theorem State.updReflex_seats : (s.updReflex i f).seats = s.seats := rfl
@[simp] theorem State.updReflex_taken : (s.updReflex i f).taken = s.taken := rfl
@[simp] theorem State.updReflex_port : (s.updReflex i f).port = s.port := rfl
@[simp] theorem State.updReflex_att : (s.updReflex i f).att = s.att := rfl
@[simp] theorem State.updReflex_regs : (s.updReflex i f).regs = s.regs := rfl
@[simp] theorem State.updReflex_live : (s.updReflex i f).live = s.live := rfl
@[simp] theorem State.updReflex_staged : (s.updReflex i f).staged = s.staged := rfl
@[simp] theorem State.updReflex_events : (s.updReflex i f).events = s.events := rfl
@[simp] theorem State.updReflex_later : (s.updReflex i f).later = s.later := rfl
@[simp] theorem State.updReflex_ops : (s.updReflex i f).ops = s.ops := rfl
@[simp] theorem State.updReflex_loops : (s.updReflex i f).loops = s.loops := rfl
@[simp] theorem State.updReflex_eng : (s.updReflex i f).eng = s.eng := rfl
@[simp] theorem State.updReflex_plan : (s.updReflex i f).plan = s.plan := rfl
@[simp] theorem State.updReflex_est : (s.updReflex i f).est = s.est := rfl
@[simp] theorem State.updReflex_porches : (s.updReflex i f).porches = s.porches := rfl
@[simp] theorem State.updReflex_cages : (s.updReflex i f).cages = s.cages := rfl
@[simp] theorem State.updReflex_lanes : (s.updReflex i f).lanes = s.lanes := rfl
@[simp] theorem State.updReflex_cals : (s.updReflex i f).cals = s.cals := rfl
@[simp] theorem State.updReflex_twn : (s.updReflex i f).twn = s.twn := rfl
@[simp] theorem State.updReflex_til : (s.updReflex i f).til = s.til := rfl
@[simp] theorem State.updReflex_mem : (s.updReflex i f).mem = s.mem := rfl
@[simp] theorem State.updReflex_shelves : (s.updReflex i f).shelves = s.shelves := rfl
@[simp] theorem State.updReflex_pantryRetired : (s.updReflex i f).pantryRetired = s.pantryRetired := rfl
@[simp] theorem State.updReflex_upd : (s.updReflex i f).upd = s.upd := rfl
@[simp] theorem State.updReflex_flash : (s.updReflex i f).flash = s.flash := rfl
@[simp] theorem State.updReflex_ram : (s.updReflex i f).ram = s.ram := rfl
@[simp] theorem State.updReflex_readData : (s.updReflex i f).readData = s.readData := rfl
@[simp] theorem State.updReflex_free : (s.updReflex i f).free = s.free := rfl
@[simp] theorem State.updReflex_pending : (s.updReflex i f).pending = s.pending := rfl
@[simp] theorem State.seat_updReflex : (s.updReflex i f).seat k = s.seat k := rfl
@[simp] theorem State.loop_updReflex : (s.updReflex i f).loop k = s.loop k := rfl
@[simp] theorem State.porch_updReflex : (s.updReflex i f).porch k = s.porch k := rfl
@[simp] theorem State.cage_updReflex : (s.updReflex i f).cage k = s.cage k := rfl
@[simp] theorem State.lane_updReflex : (s.updReflex i f).lane k m = s.lane k m := rfl
@[simp] theorem State.cal_updReflex : (s.updReflex i f).cal k = s.cal k := rfl
@[simp] theorem State.shelf_updReflex : (s.updReflex i f).shelf k = s.shelf k := rfl
@[simp] theorem State.tile_updReflex : (s.updReflex i f).tile k = s.tile k := rfl
@[simp] theorem State.job_updReflex : (s.updReflex i f).job k = s.job k := rfl
@[simp] theorem State.dev_updReflex : (s.updReflex i f).dev k = s.dev k := rfl
@[simp] theorem State.path_updReflex : (s.updReflex i f).path k = s.path k := rfl
@[simp] theorem State.service_updReflex : (s.updReflex i f).service k = s.service k := rfl
@[simp] theorem State.move?_updReflex : (s.updReflex i f).move? k = s.move? k := rfl
@[simp] theorem State.spIn_updReflex : (s.updReflex i f).spIn k = s.spIn k := rfl
@[simp] theorem State.chan_updReflex : (s.updReflex i f).chan k = s.chan k := rfl
@[simp] theorem State.patch_updReflex : (s.updReflex i f).patch k = s.patch k := rfl
@[simp] theorem State.die_updReflex : (s.updReflex i f).die k = s.die k := rfl
@[simp] theorem State.table?_updReflex : (s.updReflex i f).table? k = s.table? k := rfl
@[simp] theorem State.reg_updReflex : (s.updReflex i f).reg k = s.reg k := rfl
@[simp] theorem State.cfgReg_updReflex : (s.updReflex i f).cfgReg k = s.cfgReg k := rfl
@[simp] theorem State.readByte_updReflex : (s.updReflex i f).readByte k = s.readByte k := rfl
end

section -- updMove
variable (s : State) (i : Nat) (f : Move → Move) (k m : Nat)
@[simp] theorem State.updMove_hrt : (s.updMove i f).hrt = s.hrt := rfl
@[simp] theorem State.updMove_pins : (s.updMove i f).pins = s.pins := rfl
@[simp] theorem State.updMove_boot : (s.updMove i f).boot = s.boot := rfl
@[simp] theorem State.updMove_thm : (s.updMove i f).thm = s.thm := rfl
@[simp] theorem State.updMove_seats : (s.updMove i f).seats = s.seats := rfl
@[simp] theorem State.updMove_taken : (s.updMove i f).taken = s.taken := rfl
@[simp] theorem State.updMove_port : (s.updMove i f).port = s.port := rfl
@[simp] theorem State.updMove_att : (s.updMove i f).att = s.att := rfl
@[simp] theorem State.updMove_regs : (s.updMove i f).regs = s.regs := rfl
@[simp] theorem State.updMove_live : (s.updMove i f).live = s.live := rfl
@[simp] theorem State.updMove_staged : (s.updMove i f).staged = s.staged := rfl
@[simp] theorem State.updMove_events : (s.updMove i f).events = s.events := rfl
@[simp] theorem State.updMove_later : (s.updMove i f).later = s.later := rfl
@[simp] theorem State.updMove_ops : (s.updMove i f).ops = s.ops := rfl
@[simp] theorem State.updMove_loops : (s.updMove i f).loops = s.loops := rfl
@[simp] theorem State.updMove_eng : (s.updMove i f).eng = s.eng := rfl
@[simp] theorem State.updMove_plan : (s.updMove i f).plan = s.plan := rfl
@[simp] theorem State.updMove_est : (s.updMove i f).est = s.est := rfl
@[simp] theorem State.updMove_porches : (s.updMove i f).porches = s.porches := rfl
@[simp] theorem State.updMove_cages : (s.updMove i f).cages = s.cages := rfl
@[simp] theorem State.updMove_lanes : (s.updMove i f).lanes = s.lanes := rfl
@[simp] theorem State.updMove_cals : (s.updMove i f).cals = s.cals := rfl
@[simp] theorem State.updMove_twn : (s.updMove i f).twn = s.twn := rfl
@[simp] theorem State.updMove_til : (s.updMove i f).til = s.til := rfl
@[simp] theorem State.updMove_mem : (s.updMove i f).mem = s.mem := rfl
@[simp] theorem State.updMove_shelves : (s.updMove i f).shelves = s.shelves := rfl
@[simp] theorem State.updMove_pantryRetired : (s.updMove i f).pantryRetired = s.pantryRetired := rfl
@[simp] theorem State.updMove_upd : (s.updMove i f).upd = s.upd := rfl
@[simp] theorem State.updMove_flash : (s.updMove i f).flash = s.flash := rfl
@[simp] theorem State.updMove_ram : (s.updMove i f).ram = s.ram := rfl
@[simp] theorem State.updMove_readData : (s.updMove i f).readData = s.readData := rfl
@[simp] theorem State.updMove_free : (s.updMove i f).free = s.free := rfl
@[simp] theorem State.updMove_pending : (s.updMove i f).pending = s.pending := rfl
@[simp] theorem State.seat_updMove : (s.updMove i f).seat k = s.seat k := rfl
@[simp] theorem State.loop_updMove : (s.updMove i f).loop k = s.loop k := rfl
@[simp] theorem State.porch_updMove : (s.updMove i f).porch k = s.porch k := rfl
@[simp] theorem State.cage_updMove : (s.updMove i f).cage k = s.cage k := rfl
@[simp] theorem State.lane_updMove : (s.updMove i f).lane k m = s.lane k m := rfl
@[simp] theorem State.cal_updMove : (s.updMove i f).cal k = s.cal k := rfl
@[simp] theorem State.shelf_updMove : (s.updMove i f).shelf k = s.shelf k := rfl
@[simp] theorem State.tile_updMove : (s.updMove i f).tile k = s.tile k := rfl
@[simp] theorem State.job_updMove : (s.updMove i f).job k = s.job k := rfl
@[simp] theorem State.dev_updMove : (s.updMove i f).dev k = s.dev k := rfl
@[simp] theorem State.path_updMove : (s.updMove i f).path k = s.path k := rfl
@[simp] theorem State.service_updMove : (s.updMove i f).service k = s.service k := rfl
@[simp] theorem State.reflex_updMove : (s.updMove i f).reflex k = s.reflex k := rfl
@[simp] theorem State.spIn_updMove : (s.updMove i f).spIn k = s.spIn k := rfl
@[simp] theorem State.chan_updMove : (s.updMove i f).chan k = s.chan k := rfl
@[simp] theorem State.patch_updMove : (s.updMove i f).patch k = s.patch k := rfl
@[simp] theorem State.die_updMove : (s.updMove i f).die k = s.die k := rfl
@[simp] theorem State.table?_updMove : (s.updMove i f).table? k = s.table? k := rfl
@[simp] theorem State.reg_updMove : (s.updMove i f).reg k = s.reg k := rfl
@[simp] theorem State.cfgReg_updMove : (s.updMove i f).cfgReg k = s.cfgReg k := rfl
@[simp] theorem State.readByte_updMove : (s.updMove i f).readByte k = s.readByte k := rfl
end

section -- updSpIn
variable (s : State) (i : Nat) (f : SpInput → SpInput) (k m : Nat)
@[simp] theorem State.updSpIn_hrt : (s.updSpIn i f).hrt = s.hrt := rfl
@[simp] theorem State.updSpIn_pins : (s.updSpIn i f).pins = s.pins := rfl
@[simp] theorem State.updSpIn_boot : (s.updSpIn i f).boot = s.boot := rfl
@[simp] theorem State.updSpIn_thm : (s.updSpIn i f).thm = s.thm := rfl
@[simp] theorem State.updSpIn_seats : (s.updSpIn i f).seats = s.seats := rfl
@[simp] theorem State.updSpIn_taken : (s.updSpIn i f).taken = s.taken := rfl
@[simp] theorem State.updSpIn_port : (s.updSpIn i f).port = s.port := rfl
@[simp] theorem State.updSpIn_att : (s.updSpIn i f).att = s.att := rfl
@[simp] theorem State.updSpIn_regs : (s.updSpIn i f).regs = s.regs := rfl
@[simp] theorem State.updSpIn_live : (s.updSpIn i f).live = s.live := rfl
@[simp] theorem State.updSpIn_staged : (s.updSpIn i f).staged = s.staged := rfl
@[simp] theorem State.updSpIn_events : (s.updSpIn i f).events = s.events := rfl
@[simp] theorem State.updSpIn_later : (s.updSpIn i f).later = s.later := rfl
@[simp] theorem State.updSpIn_ops : (s.updSpIn i f).ops = s.ops := rfl
@[simp] theorem State.updSpIn_loops : (s.updSpIn i f).loops = s.loops := rfl
@[simp] theorem State.updSpIn_plan : (s.updSpIn i f).plan = s.plan := rfl
@[simp] theorem State.updSpIn_mov : (s.updSpIn i f).mov = s.mov := rfl
@[simp] theorem State.updSpIn_est : (s.updSpIn i f).est = s.est := rfl
@[simp] theorem State.updSpIn_porches : (s.updSpIn i f).porches = s.porches := rfl
@[simp] theorem State.updSpIn_cages : (s.updSpIn i f).cages = s.cages := rfl
@[simp] theorem State.updSpIn_lanes : (s.updSpIn i f).lanes = s.lanes := rfl
@[simp] theorem State.updSpIn_cals : (s.updSpIn i f).cals = s.cals := rfl
@[simp] theorem State.updSpIn_twn : (s.updSpIn i f).twn = s.twn := rfl
@[simp] theorem State.updSpIn_til : (s.updSpIn i f).til = s.til := rfl
@[simp] theorem State.updSpIn_mem : (s.updSpIn i f).mem = s.mem := rfl
@[simp] theorem State.updSpIn_shelves : (s.updSpIn i f).shelves = s.shelves := rfl
@[simp] theorem State.updSpIn_pantryRetired : (s.updSpIn i f).pantryRetired = s.pantryRetired := rfl
@[simp] theorem State.updSpIn_upd : (s.updSpIn i f).upd = s.upd := rfl
@[simp] theorem State.updSpIn_flash : (s.updSpIn i f).flash = s.flash := rfl
@[simp] theorem State.updSpIn_ram : (s.updSpIn i f).ram = s.ram := rfl
@[simp] theorem State.updSpIn_readData : (s.updSpIn i f).readData = s.readData := rfl
@[simp] theorem State.updSpIn_free : (s.updSpIn i f).free = s.free := rfl
@[simp] theorem State.updSpIn_pending : (s.updSpIn i f).pending = s.pending := rfl
@[simp] theorem State.seat_updSpIn : (s.updSpIn i f).seat k = s.seat k := rfl
@[simp] theorem State.loop_updSpIn : (s.updSpIn i f).loop k = s.loop k := rfl
@[simp] theorem State.porch_updSpIn : (s.updSpIn i f).porch k = s.porch k := rfl
@[simp] theorem State.cage_updSpIn : (s.updSpIn i f).cage k = s.cage k := rfl
@[simp] theorem State.lane_updSpIn : (s.updSpIn i f).lane k m = s.lane k m := rfl
@[simp] theorem State.cal_updSpIn : (s.updSpIn i f).cal k = s.cal k := rfl
@[simp] theorem State.shelf_updSpIn : (s.updSpIn i f).shelf k = s.shelf k := rfl
@[simp] theorem State.tile_updSpIn : (s.updSpIn i f).tile k = s.tile k := rfl
@[simp] theorem State.job_updSpIn : (s.updSpIn i f).job k = s.job k := rfl
@[simp] theorem State.dev_updSpIn : (s.updSpIn i f).dev k = s.dev k := rfl
@[simp] theorem State.path_updSpIn : (s.updSpIn i f).path k = s.path k := rfl
@[simp] theorem State.service_updSpIn : (s.updSpIn i f).service k = s.service k := rfl
@[simp] theorem State.reflex_updSpIn : (s.updSpIn i f).reflex k = s.reflex k := rfl
@[simp] theorem State.move?_updSpIn : (s.updSpIn i f).move? k = s.move? k := rfl
@[simp] theorem State.chan_updSpIn : (s.updSpIn i f).chan k = s.chan k := rfl
@[simp] theorem State.patch_updSpIn : (s.updSpIn i f).patch k = s.patch k := rfl
@[simp] theorem State.die_updSpIn : (s.updSpIn i f).die k = s.die k := rfl
@[simp] theorem State.table?_updSpIn : (s.updSpIn i f).table? k = s.table? k := rfl
@[simp] theorem State.reg_updSpIn : (s.updSpIn i f).reg k = s.reg k := rfl
@[simp] theorem State.cfgReg_updSpIn : (s.updSpIn i f).cfgReg k = s.cfgReg k := rfl
@[simp] theorem State.readByte_updSpIn : (s.updSpIn i f).readByte k = s.readByte k := rfl
end

section -- updChan
variable (s : State) (i : Nat) (f : Channel → Channel) (k m : Nat)
@[simp] theorem State.updChan_hrt : (s.updChan i f).hrt = s.hrt := rfl
@[simp] theorem State.updChan_pins : (s.updChan i f).pins = s.pins := rfl
@[simp] theorem State.updChan_boot : (s.updChan i f).boot = s.boot := rfl
@[simp] theorem State.updChan_thm : (s.updChan i f).thm = s.thm := rfl
@[simp] theorem State.updChan_seats : (s.updChan i f).seats = s.seats := rfl
@[simp] theorem State.updChan_taken : (s.updChan i f).taken = s.taken := rfl
@[simp] theorem State.updChan_port : (s.updChan i f).port = s.port := rfl
@[simp] theorem State.updChan_att : (s.updChan i f).att = s.att := rfl
@[simp] theorem State.updChan_regs : (s.updChan i f).regs = s.regs := rfl
@[simp] theorem State.updChan_live : (s.updChan i f).live = s.live := rfl
@[simp] theorem State.updChan_staged : (s.updChan i f).staged = s.staged := rfl
@[simp] theorem State.updChan_events : (s.updChan i f).events = s.events := rfl
@[simp] theorem State.updChan_later : (s.updChan i f).later = s.later := rfl
@[simp] theorem State.updChan_ops : (s.updChan i f).ops = s.ops := rfl
@[simp] theorem State.updChan_loops : (s.updChan i f).loops = s.loops := rfl
@[simp] theorem State.updChan_plan : (s.updChan i f).plan = s.plan := rfl
@[simp] theorem State.updChan_mov : (s.updChan i f).mov = s.mov := rfl
@[simp] theorem State.updChan_est : (s.updChan i f).est = s.est := rfl
@[simp] theorem State.updChan_porches : (s.updChan i f).porches = s.porches := rfl
@[simp] theorem State.updChan_cages : (s.updChan i f).cages = s.cages := rfl
@[simp] theorem State.updChan_lanes : (s.updChan i f).lanes = s.lanes := rfl
@[simp] theorem State.updChan_cals : (s.updChan i f).cals = s.cals := rfl
@[simp] theorem State.updChan_twn : (s.updChan i f).twn = s.twn := rfl
@[simp] theorem State.updChan_til : (s.updChan i f).til = s.til := rfl
@[simp] theorem State.updChan_mem : (s.updChan i f).mem = s.mem := rfl
@[simp] theorem State.updChan_shelves : (s.updChan i f).shelves = s.shelves := rfl
@[simp] theorem State.updChan_pantryRetired : (s.updChan i f).pantryRetired = s.pantryRetired := rfl
@[simp] theorem State.updChan_upd : (s.updChan i f).upd = s.upd := rfl
@[simp] theorem State.updChan_flash : (s.updChan i f).flash = s.flash := rfl
@[simp] theorem State.updChan_ram : (s.updChan i f).ram = s.ram := rfl
@[simp] theorem State.updChan_readData : (s.updChan i f).readData = s.readData := rfl
@[simp] theorem State.updChan_free : (s.updChan i f).free = s.free := rfl
@[simp] theorem State.updChan_pending : (s.updChan i f).pending = s.pending := rfl
@[simp] theorem State.seat_updChan : (s.updChan i f).seat k = s.seat k := rfl
@[simp] theorem State.loop_updChan : (s.updChan i f).loop k = s.loop k := rfl
@[simp] theorem State.porch_updChan : (s.updChan i f).porch k = s.porch k := rfl
@[simp] theorem State.cage_updChan : (s.updChan i f).cage k = s.cage k := rfl
@[simp] theorem State.lane_updChan : (s.updChan i f).lane k m = s.lane k m := rfl
@[simp] theorem State.cal_updChan : (s.updChan i f).cal k = s.cal k := rfl
@[simp] theorem State.shelf_updChan : (s.updChan i f).shelf k = s.shelf k := rfl
@[simp] theorem State.tile_updChan : (s.updChan i f).tile k = s.tile k := rfl
@[simp] theorem State.job_updChan : (s.updChan i f).job k = s.job k := rfl
@[simp] theorem State.dev_updChan : (s.updChan i f).dev k = s.dev k := rfl
@[simp] theorem State.path_updChan : (s.updChan i f).path k = s.path k := rfl
@[simp] theorem State.service_updChan : (s.updChan i f).service k = s.service k := rfl
@[simp] theorem State.reflex_updChan : (s.updChan i f).reflex k = s.reflex k := rfl
@[simp] theorem State.move?_updChan : (s.updChan i f).move? k = s.move? k := rfl
@[simp] theorem State.spIn_updChan : (s.updChan i f).spIn k = s.spIn k := rfl
@[simp] theorem State.patch_updChan : (s.updChan i f).patch k = s.patch k := rfl
@[simp] theorem State.die_updChan : (s.updChan i f).die k = s.die k := rfl
@[simp] theorem State.table?_updChan : (s.updChan i f).table? k = s.table? k := rfl
@[simp] theorem State.reg_updChan : (s.updChan i f).reg k = s.reg k := rfl
@[simp] theorem State.cfgReg_updChan : (s.updChan i f).cfgReg k = s.cfgReg k := rfl
@[simp] theorem State.readByte_updChan : (s.updChan i f).readByte k = s.readByte k := rfl
end

section -- updPatch
variable (s : State) (i : Nat) (f : Patch → Patch) (k m : Nat)
@[simp] theorem State.updPatch_hrt : (s.updPatch i f).hrt = s.hrt := rfl
@[simp] theorem State.updPatch_pins : (s.updPatch i f).pins = s.pins := rfl
@[simp] theorem State.updPatch_boot : (s.updPatch i f).boot = s.boot := rfl
@[simp] theorem State.updPatch_thm : (s.updPatch i f).thm = s.thm := rfl
@[simp] theorem State.updPatch_seats : (s.updPatch i f).seats = s.seats := rfl
@[simp] theorem State.updPatch_taken : (s.updPatch i f).taken = s.taken := rfl
@[simp] theorem State.updPatch_port : (s.updPatch i f).port = s.port := rfl
@[simp] theorem State.updPatch_att : (s.updPatch i f).att = s.att := rfl
@[simp] theorem State.updPatch_regs : (s.updPatch i f).regs = s.regs := rfl
@[simp] theorem State.updPatch_live : (s.updPatch i f).live = s.live := rfl
@[simp] theorem State.updPatch_staged : (s.updPatch i f).staged = s.staged := rfl
@[simp] theorem State.updPatch_events : (s.updPatch i f).events = s.events := rfl
@[simp] theorem State.updPatch_later : (s.updPatch i f).later = s.later := rfl
@[simp] theorem State.updPatch_ops : (s.updPatch i f).ops = s.ops := rfl
@[simp] theorem State.updPatch_loops : (s.updPatch i f).loops = s.loops := rfl
@[simp] theorem State.updPatch_eng : (s.updPatch i f).eng = s.eng := rfl
@[simp] theorem State.updPatch_plan : (s.updPatch i f).plan = s.plan := rfl
@[simp] theorem State.updPatch_mov : (s.updPatch i f).mov = s.mov := rfl
@[simp] theorem State.updPatch_porches : (s.updPatch i f).porches = s.porches := rfl
@[simp] theorem State.updPatch_cages : (s.updPatch i f).cages = s.cages := rfl
@[simp] theorem State.updPatch_lanes : (s.updPatch i f).lanes = s.lanes := rfl
@[simp] theorem State.updPatch_cals : (s.updPatch i f).cals = s.cals := rfl
@[simp] theorem State.updPatch_twn : (s.updPatch i f).twn = s.twn := rfl
@[simp] theorem State.updPatch_til : (s.updPatch i f).til = s.til := rfl
@[simp] theorem State.updPatch_mem : (s.updPatch i f).mem = s.mem := rfl
@[simp] theorem State.updPatch_shelves : (s.updPatch i f).shelves = s.shelves := rfl
@[simp] theorem State.updPatch_pantryRetired : (s.updPatch i f).pantryRetired = s.pantryRetired := rfl
@[simp] theorem State.updPatch_upd : (s.updPatch i f).upd = s.upd := rfl
@[simp] theorem State.updPatch_flash : (s.updPatch i f).flash = s.flash := rfl
@[simp] theorem State.updPatch_ram : (s.updPatch i f).ram = s.ram := rfl
@[simp] theorem State.updPatch_readData : (s.updPatch i f).readData = s.readData := rfl
@[simp] theorem State.updPatch_free : (s.updPatch i f).free = s.free := rfl
@[simp] theorem State.updPatch_pending : (s.updPatch i f).pending = s.pending := rfl
@[simp] theorem State.seat_updPatch : (s.updPatch i f).seat k = s.seat k := rfl
@[simp] theorem State.loop_updPatch : (s.updPatch i f).loop k = s.loop k := rfl
@[simp] theorem State.porch_updPatch : (s.updPatch i f).porch k = s.porch k := rfl
@[simp] theorem State.cage_updPatch : (s.updPatch i f).cage k = s.cage k := rfl
@[simp] theorem State.lane_updPatch : (s.updPatch i f).lane k m = s.lane k m := rfl
@[simp] theorem State.cal_updPatch : (s.updPatch i f).cal k = s.cal k := rfl
@[simp] theorem State.shelf_updPatch : (s.updPatch i f).shelf k = s.shelf k := rfl
@[simp] theorem State.tile_updPatch : (s.updPatch i f).tile k = s.tile k := rfl
@[simp] theorem State.job_updPatch : (s.updPatch i f).job k = s.job k := rfl
@[simp] theorem State.dev_updPatch : (s.updPatch i f).dev k = s.dev k := rfl
@[simp] theorem State.path_updPatch : (s.updPatch i f).path k = s.path k := rfl
@[simp] theorem State.service_updPatch : (s.updPatch i f).service k = s.service k := rfl
@[simp] theorem State.reflex_updPatch : (s.updPatch i f).reflex k = s.reflex k := rfl
@[simp] theorem State.move?_updPatch : (s.updPatch i f).move? k = s.move? k := rfl
@[simp] theorem State.spIn_updPatch : (s.updPatch i f).spIn k = s.spIn k := rfl
@[simp] theorem State.chan_updPatch : (s.updPatch i f).chan k = s.chan k := rfl
@[simp] theorem State.die_updPatch : (s.updPatch i f).die k = s.die k := rfl
@[simp] theorem State.table?_updPatch : (s.updPatch i f).table? k = s.table? k := rfl
@[simp] theorem State.reg_updPatch : (s.updPatch i f).reg k = s.reg k := rfl
@[simp] theorem State.cfgReg_updPatch : (s.updPatch i f).cfgReg k = s.cfgReg k := rfl
@[simp] theorem State.readByte_updPatch : (s.updPatch i f).readByte k = s.readByte k := rfl
end

section -- updDie
variable (s : State) (i : Nat) (f : Die → Die) (k m : Nat)
@[simp] theorem State.updDie_hrt : (s.updDie i f).hrt = s.hrt := rfl
@[simp] theorem State.updDie_pins : (s.updDie i f).pins = s.pins := rfl
@[simp] theorem State.updDie_boot : (s.updDie i f).boot = s.boot := rfl
@[simp] theorem State.updDie_seats : (s.updDie i f).seats = s.seats := rfl
@[simp] theorem State.updDie_taken : (s.updDie i f).taken = s.taken := rfl
@[simp] theorem State.updDie_port : (s.updDie i f).port = s.port := rfl
@[simp] theorem State.updDie_att : (s.updDie i f).att = s.att := rfl
@[simp] theorem State.updDie_regs : (s.updDie i f).regs = s.regs := rfl
@[simp] theorem State.updDie_live : (s.updDie i f).live = s.live := rfl
@[simp] theorem State.updDie_staged : (s.updDie i f).staged = s.staged := rfl
@[simp] theorem State.updDie_events : (s.updDie i f).events = s.events := rfl
@[simp] theorem State.updDie_later : (s.updDie i f).later = s.later := rfl
@[simp] theorem State.updDie_ops : (s.updDie i f).ops = s.ops := rfl
@[simp] theorem State.updDie_loops : (s.updDie i f).loops = s.loops := rfl
@[simp] theorem State.updDie_eng : (s.updDie i f).eng = s.eng := rfl
@[simp] theorem State.updDie_plan : (s.updDie i f).plan = s.plan := rfl
@[simp] theorem State.updDie_mov : (s.updDie i f).mov = s.mov := rfl
@[simp] theorem State.updDie_est : (s.updDie i f).est = s.est := rfl
@[simp] theorem State.updDie_porches : (s.updDie i f).porches = s.porches := rfl
@[simp] theorem State.updDie_cages : (s.updDie i f).cages = s.cages := rfl
@[simp] theorem State.updDie_lanes : (s.updDie i f).lanes = s.lanes := rfl
@[simp] theorem State.updDie_cals : (s.updDie i f).cals = s.cals := rfl
@[simp] theorem State.updDie_twn : (s.updDie i f).twn = s.twn := rfl
@[simp] theorem State.updDie_til : (s.updDie i f).til = s.til := rfl
@[simp] theorem State.updDie_mem : (s.updDie i f).mem = s.mem := rfl
@[simp] theorem State.updDie_shelves : (s.updDie i f).shelves = s.shelves := rfl
@[simp] theorem State.updDie_pantryRetired : (s.updDie i f).pantryRetired = s.pantryRetired := rfl
@[simp] theorem State.updDie_upd : (s.updDie i f).upd = s.upd := rfl
@[simp] theorem State.updDie_flash : (s.updDie i f).flash = s.flash := rfl
@[simp] theorem State.updDie_ram : (s.updDie i f).ram = s.ram := rfl
@[simp] theorem State.updDie_readData : (s.updDie i f).readData = s.readData := rfl
@[simp] theorem State.updDie_free : (s.updDie i f).free = s.free := rfl
@[simp] theorem State.updDie_pending : (s.updDie i f).pending = s.pending := rfl
@[simp] theorem State.seat_updDie : (s.updDie i f).seat k = s.seat k := rfl
@[simp] theorem State.loop_updDie : (s.updDie i f).loop k = s.loop k := rfl
@[simp] theorem State.porch_updDie : (s.updDie i f).porch k = s.porch k := rfl
@[simp] theorem State.cage_updDie : (s.updDie i f).cage k = s.cage k := rfl
@[simp] theorem State.lane_updDie : (s.updDie i f).lane k m = s.lane k m := rfl
@[simp] theorem State.cal_updDie : (s.updDie i f).cal k = s.cal k := rfl
@[simp] theorem State.shelf_updDie : (s.updDie i f).shelf k = s.shelf k := rfl
@[simp] theorem State.tile_updDie : (s.updDie i f).tile k = s.tile k := rfl
@[simp] theorem State.job_updDie : (s.updDie i f).job k = s.job k := rfl
@[simp] theorem State.dev_updDie : (s.updDie i f).dev k = s.dev k := rfl
@[simp] theorem State.path_updDie : (s.updDie i f).path k = s.path k := rfl
@[simp] theorem State.service_updDie : (s.updDie i f).service k = s.service k := rfl
@[simp] theorem State.reflex_updDie : (s.updDie i f).reflex k = s.reflex k := rfl
@[simp] theorem State.move?_updDie : (s.updDie i f).move? k = s.move? k := rfl
@[simp] theorem State.spIn_updDie : (s.updDie i f).spIn k = s.spIn k := rfl
@[simp] theorem State.chan_updDie : (s.updDie i f).chan k = s.chan k := rfl
@[simp] theorem State.patch_updDie : (s.updDie i f).patch k = s.patch k := rfl
@[simp] theorem State.table?_updDie : (s.updDie i f).table? k = s.table? k := rfl
@[simp] theorem State.reg_updDie : (s.updDie i f).reg k = s.reg k := rfl
@[simp] theorem State.cfgReg_updDie : (s.updDie i f).cfgReg k = s.cfgReg k := rfl
@[simp] theorem State.readByte_updDie : (s.updDie i f).readByte k = s.readByte k := rfl
end

section -- updTable
variable (s : State) (i : Nat) (f : PlanTable → PlanTable) (k m : Nat)
@[simp] theorem State.updTable_hrt : (s.updTable i f).hrt = s.hrt := rfl
@[simp] theorem State.updTable_pins : (s.updTable i f).pins = s.pins := rfl
@[simp] theorem State.updTable_boot : (s.updTable i f).boot = s.boot := rfl
@[simp] theorem State.updTable_thm : (s.updTable i f).thm = s.thm := rfl
@[simp] theorem State.updTable_seats : (s.updTable i f).seats = s.seats := rfl
@[simp] theorem State.updTable_taken : (s.updTable i f).taken = s.taken := rfl
@[simp] theorem State.updTable_port : (s.updTable i f).port = s.port := rfl
@[simp] theorem State.updTable_att : (s.updTable i f).att = s.att := rfl
@[simp] theorem State.updTable_regs : (s.updTable i f).regs = s.regs := rfl
@[simp] theorem State.updTable_live : (s.updTable i f).live = s.live := rfl
@[simp] theorem State.updTable_staged : (s.updTable i f).staged = s.staged := rfl
@[simp] theorem State.updTable_events : (s.updTable i f).events = s.events := rfl
@[simp] theorem State.updTable_later : (s.updTable i f).later = s.later := rfl
@[simp] theorem State.updTable_ops : (s.updTable i f).ops = s.ops := rfl
@[simp] theorem State.updTable_loops : (s.updTable i f).loops = s.loops := rfl
@[simp] theorem State.updTable_eng : (s.updTable i f).eng = s.eng := rfl
@[simp] theorem State.updTable_mov : (s.updTable i f).mov = s.mov := rfl
@[simp] theorem State.updTable_est : (s.updTable i f).est = s.est := rfl
@[simp] theorem State.updTable_porches : (s.updTable i f).porches = s.porches := rfl
@[simp] theorem State.updTable_cages : (s.updTable i f).cages = s.cages := rfl
@[simp] theorem State.updTable_lanes : (s.updTable i f).lanes = s.lanes := rfl
@[simp] theorem State.updTable_cals : (s.updTable i f).cals = s.cals := rfl
@[simp] theorem State.updTable_twn : (s.updTable i f).twn = s.twn := rfl
@[simp] theorem State.updTable_til : (s.updTable i f).til = s.til := rfl
@[simp] theorem State.updTable_mem : (s.updTable i f).mem = s.mem := rfl
@[simp] theorem State.updTable_shelves : (s.updTable i f).shelves = s.shelves := rfl
@[simp] theorem State.updTable_pantryRetired : (s.updTable i f).pantryRetired = s.pantryRetired := rfl
@[simp] theorem State.updTable_upd : (s.updTable i f).upd = s.upd := rfl
@[simp] theorem State.updTable_flash : (s.updTable i f).flash = s.flash := rfl
@[simp] theorem State.updTable_ram : (s.updTable i f).ram = s.ram := rfl
@[simp] theorem State.updTable_readData : (s.updTable i f).readData = s.readData := rfl
@[simp] theorem State.updTable_free : (s.updTable i f).free = s.free := rfl
@[simp] theorem State.updTable_pending : (s.updTable i f).pending = s.pending := rfl
@[simp] theorem State.seat_updTable : (s.updTable i f).seat k = s.seat k := rfl
@[simp] theorem State.loop_updTable : (s.updTable i f).loop k = s.loop k := rfl
@[simp] theorem State.porch_updTable : (s.updTable i f).porch k = s.porch k := rfl
@[simp] theorem State.cage_updTable : (s.updTable i f).cage k = s.cage k := rfl
@[simp] theorem State.lane_updTable : (s.updTable i f).lane k m = s.lane k m := rfl
@[simp] theorem State.cal_updTable : (s.updTable i f).cal k = s.cal k := rfl
@[simp] theorem State.shelf_updTable : (s.updTable i f).shelf k = s.shelf k := rfl
@[simp] theorem State.tile_updTable : (s.updTable i f).tile k = s.tile k := rfl
@[simp] theorem State.job_updTable : (s.updTable i f).job k = s.job k := rfl
@[simp] theorem State.dev_updTable : (s.updTable i f).dev k = s.dev k := rfl
@[simp] theorem State.path_updTable : (s.updTable i f).path k = s.path k := rfl
@[simp] theorem State.service_updTable : (s.updTable i f).service k = s.service k := rfl
@[simp] theorem State.reflex_updTable : (s.updTable i f).reflex k = s.reflex k := rfl
@[simp] theorem State.move?_updTable : (s.updTable i f).move? k = s.move? k := rfl
@[simp] theorem State.spIn_updTable : (s.updTable i f).spIn k = s.spIn k := rfl
@[simp] theorem State.chan_updTable : (s.updTable i f).chan k = s.chan k := rfl
@[simp] theorem State.patch_updTable : (s.updTable i f).patch k = s.patch k := rfl
@[simp] theorem State.die_updTable : (s.updTable i f).die k = s.die k := rfl
@[simp] theorem State.reg_updTable : (s.updTable i f).reg k = s.reg k := rfl
@[simp] theorem State.cfgReg_updTable : (s.updTable i f).cfgReg k = s.cfgReg k := rfl
@[simp] theorem State.readByte_updTable : (s.updTable i f).readByte k = s.readByte k := rfl
end

section -- setReg
variable (s : State) (a : Nat) (w : Word) (k m : Nat)
@[simp] theorem State.setReg_hrt : (s.setReg a w).hrt = s.hrt := rfl
@[simp] theorem State.setReg_pins : (s.setReg a w).pins = s.pins := rfl
@[simp] theorem State.setReg_boot : (s.setReg a w).boot = s.boot := rfl
@[simp] theorem State.setReg_thm : (s.setReg a w).thm = s.thm := rfl
@[simp] theorem State.setReg_seats : (s.setReg a w).seats = s.seats := rfl
@[simp] theorem State.setReg_taken : (s.setReg a w).taken = s.taken := rfl
@[simp] theorem State.setReg_port : (s.setReg a w).port = s.port := rfl
@[simp] theorem State.setReg_att : (s.setReg a w).att = s.att := rfl
@[simp] theorem State.setReg_live : (s.setReg a w).live = s.live := rfl
@[simp] theorem State.setReg_staged : (s.setReg a w).staged = s.staged := rfl
@[simp] theorem State.setReg_events : (s.setReg a w).events = s.events := rfl
@[simp] theorem State.setReg_later : (s.setReg a w).later = s.later := rfl
@[simp] theorem State.setReg_ops : (s.setReg a w).ops = s.ops := rfl
@[simp] theorem State.setReg_loops : (s.setReg a w).loops = s.loops := rfl
@[simp] theorem State.setReg_eng : (s.setReg a w).eng = s.eng := rfl
@[simp] theorem State.setReg_plan : (s.setReg a w).plan = s.plan := rfl
@[simp] theorem State.setReg_mov : (s.setReg a w).mov = s.mov := rfl
@[simp] theorem State.setReg_est : (s.setReg a w).est = s.est := rfl
@[simp] theorem State.setReg_porches : (s.setReg a w).porches = s.porches := rfl
@[simp] theorem State.setReg_cages : (s.setReg a w).cages = s.cages := rfl
@[simp] theorem State.setReg_lanes : (s.setReg a w).lanes = s.lanes := rfl
@[simp] theorem State.setReg_cals : (s.setReg a w).cals = s.cals := rfl
@[simp] theorem State.setReg_twn : (s.setReg a w).twn = s.twn := rfl
@[simp] theorem State.setReg_til : (s.setReg a w).til = s.til := rfl
@[simp] theorem State.setReg_mem : (s.setReg a w).mem = s.mem := rfl
@[simp] theorem State.setReg_shelves : (s.setReg a w).shelves = s.shelves := rfl
@[simp] theorem State.setReg_pantryRetired : (s.setReg a w).pantryRetired = s.pantryRetired := rfl
@[simp] theorem State.setReg_upd : (s.setReg a w).upd = s.upd := rfl
@[simp] theorem State.setReg_flash : (s.setReg a w).flash = s.flash := rfl
@[simp] theorem State.setReg_ram : (s.setReg a w).ram = s.ram := rfl
@[simp] theorem State.setReg_readData : (s.setReg a w).readData = s.readData := rfl
@[simp] theorem State.setReg_free : (s.setReg a w).free = s.free := rfl
@[simp] theorem State.setReg_pending : (s.setReg a w).pending = s.pending := rfl
@[simp] theorem State.seat_setReg : (s.setReg a w).seat k = s.seat k := rfl
@[simp] theorem State.loop_setReg : (s.setReg a w).loop k = s.loop k := rfl
@[simp] theorem State.porch_setReg : (s.setReg a w).porch k = s.porch k := rfl
@[simp] theorem State.cage_setReg : (s.setReg a w).cage k = s.cage k := rfl
@[simp] theorem State.lane_setReg : (s.setReg a w).lane k m = s.lane k m := rfl
@[simp] theorem State.cal_setReg : (s.setReg a w).cal k = s.cal k := rfl
@[simp] theorem State.shelf_setReg : (s.setReg a w).shelf k = s.shelf k := rfl
@[simp] theorem State.tile_setReg : (s.setReg a w).tile k = s.tile k := rfl
@[simp] theorem State.job_setReg : (s.setReg a w).job k = s.job k := rfl
@[simp] theorem State.dev_setReg : (s.setReg a w).dev k = s.dev k := rfl
@[simp] theorem State.path_setReg : (s.setReg a w).path k = s.path k := rfl
@[simp] theorem State.service_setReg : (s.setReg a w).service k = s.service k := rfl
@[simp] theorem State.reflex_setReg : (s.setReg a w).reflex k = s.reflex k := rfl
@[simp] theorem State.move?_setReg : (s.setReg a w).move? k = s.move? k := rfl
@[simp] theorem State.spIn_setReg : (s.setReg a w).spIn k = s.spIn k := rfl
@[simp] theorem State.chan_setReg : (s.setReg a w).chan k = s.chan k := rfl
@[simp] theorem State.patch_setReg : (s.setReg a w).patch k = s.patch k := rfl
@[simp] theorem State.die_setReg : (s.setReg a w).die k = s.die k := rfl
@[simp] theorem State.table?_setReg : (s.setReg a w).table? k = s.table? k := rfl
@[simp] theorem State.cfgReg_setReg : (s.setReg a w).cfgReg k = s.cfgReg k := rfl
@[simp] theorem State.readByte_setReg : (s.setReg a w).readByte k = s.readByte k := rfl
end

section -- setField
variable (s : State) (a lo n v : Nat) (k m : Nat)
@[simp] theorem State.setField_hrt : (s.setField a lo n v).hrt = s.hrt := rfl
@[simp] theorem State.setField_pins : (s.setField a lo n v).pins = s.pins := rfl
@[simp] theorem State.setField_boot : (s.setField a lo n v).boot = s.boot := rfl
@[simp] theorem State.setField_thm : (s.setField a lo n v).thm = s.thm := rfl
@[simp] theorem State.setField_seats : (s.setField a lo n v).seats = s.seats := rfl
@[simp] theorem State.setField_taken : (s.setField a lo n v).taken = s.taken := rfl
@[simp] theorem State.setField_port : (s.setField a lo n v).port = s.port := rfl
@[simp] theorem State.setField_att : (s.setField a lo n v).att = s.att := rfl
@[simp] theorem State.setField_live : (s.setField a lo n v).live = s.live := rfl
@[simp] theorem State.setField_staged : (s.setField a lo n v).staged = s.staged := rfl
@[simp] theorem State.setField_events : (s.setField a lo n v).events = s.events := rfl
@[simp] theorem State.setField_later : (s.setField a lo n v).later = s.later := rfl
@[simp] theorem State.setField_ops : (s.setField a lo n v).ops = s.ops := rfl
@[simp] theorem State.setField_loops : (s.setField a lo n v).loops = s.loops := rfl
@[simp] theorem State.setField_eng : (s.setField a lo n v).eng = s.eng := rfl
@[simp] theorem State.setField_plan : (s.setField a lo n v).plan = s.plan := rfl
@[simp] theorem State.setField_mov : (s.setField a lo n v).mov = s.mov := rfl
@[simp] theorem State.setField_est : (s.setField a lo n v).est = s.est := rfl
@[simp] theorem State.setField_porches : (s.setField a lo n v).porches = s.porches := rfl
@[simp] theorem State.setField_cages : (s.setField a lo n v).cages = s.cages := rfl
@[simp] theorem State.setField_lanes : (s.setField a lo n v).lanes = s.lanes := rfl
@[simp] theorem State.setField_cals : (s.setField a lo n v).cals = s.cals := rfl
@[simp] theorem State.setField_twn : (s.setField a lo n v).twn = s.twn := rfl
@[simp] theorem State.setField_til : (s.setField a lo n v).til = s.til := rfl
@[simp] theorem State.setField_mem : (s.setField a lo n v).mem = s.mem := rfl
@[simp] theorem State.setField_shelves : (s.setField a lo n v).shelves = s.shelves := rfl
@[simp] theorem State.setField_pantryRetired : (s.setField a lo n v).pantryRetired = s.pantryRetired := rfl
@[simp] theorem State.setField_upd : (s.setField a lo n v).upd = s.upd := rfl
@[simp] theorem State.setField_flash : (s.setField a lo n v).flash = s.flash := rfl
@[simp] theorem State.setField_ram : (s.setField a lo n v).ram = s.ram := rfl
@[simp] theorem State.setField_readData : (s.setField a lo n v).readData = s.readData := rfl
@[simp] theorem State.setField_free : (s.setField a lo n v).free = s.free := rfl
@[simp] theorem State.setField_pending : (s.setField a lo n v).pending = s.pending := rfl
@[simp] theorem State.seat_setField : (s.setField a lo n v).seat k = s.seat k := rfl
@[simp] theorem State.loop_setField : (s.setField a lo n v).loop k = s.loop k := rfl
@[simp] theorem State.porch_setField : (s.setField a lo n v).porch k = s.porch k := rfl
@[simp] theorem State.cage_setField : (s.setField a lo n v).cage k = s.cage k := rfl
@[simp] theorem State.lane_setField : (s.setField a lo n v).lane k m = s.lane k m := rfl
@[simp] theorem State.cal_setField : (s.setField a lo n v).cal k = s.cal k := rfl
@[simp] theorem State.shelf_setField : (s.setField a lo n v).shelf k = s.shelf k := rfl
@[simp] theorem State.tile_setField : (s.setField a lo n v).tile k = s.tile k := rfl
@[simp] theorem State.job_setField : (s.setField a lo n v).job k = s.job k := rfl
@[simp] theorem State.dev_setField : (s.setField a lo n v).dev k = s.dev k := rfl
@[simp] theorem State.path_setField : (s.setField a lo n v).path k = s.path k := rfl
@[simp] theorem State.service_setField : (s.setField a lo n v).service k = s.service k := rfl
@[simp] theorem State.reflex_setField : (s.setField a lo n v).reflex k = s.reflex k := rfl
@[simp] theorem State.move?_setField : (s.setField a lo n v).move? k = s.move? k := rfl
@[simp] theorem State.spIn_setField : (s.setField a lo n v).spIn k = s.spIn k := rfl
@[simp] theorem State.chan_setField : (s.setField a lo n v).chan k = s.chan k := rfl
@[simp] theorem State.patch_setField : (s.setField a lo n v).patch k = s.patch k := rfl
@[simp] theorem State.die_setField : (s.setField a lo n v).die k = s.die k := rfl
@[simp] theorem State.table?_setField : (s.setField a lo n v).table? k = s.table? k := rfl
@[simp] theorem State.cfgReg_setField : (s.setField a lo n v).cfgReg k = s.cfgReg k := rfl
@[simp] theorem State.readByte_setField : (s.setField a lo n v).readByte k = s.readByte k := rfl
end

section -- count
variable (s : State) (a lo n k : Nat) (k m : Nat)
@[simp] theorem State.count_hrt : (s.count a lo n k).hrt = s.hrt := rfl
@[simp] theorem State.count_pins : (s.count a lo n k).pins = s.pins := rfl
@[simp] theorem State.count_boot : (s.count a lo n k).boot = s.boot := rfl
@[simp] theorem State.count_thm : (s.count a lo n k).thm = s.thm := rfl
@[simp] theorem State.count_seats : (s.count a lo n k).seats = s.seats := rfl
@[simp] theorem State.count_taken : (s.count a lo n k).taken = s.taken := rfl
@[simp] theorem State.count_port : (s.count a lo n k).port = s.port := rfl
@[simp] theorem State.count_att : (s.count a lo n k).att = s.att := rfl
@[simp] theorem State.count_live : (s.count a lo n k).live = s.live := rfl
@[simp] theorem State.count_staged : (s.count a lo n k).staged = s.staged := rfl
@[simp] theorem State.count_events : (s.count a lo n k).events = s.events := rfl
@[simp] theorem State.count_later : (s.count a lo n k).later = s.later := rfl
@[simp] theorem State.count_ops : (s.count a lo n k).ops = s.ops := rfl
@[simp] theorem State.count_loops : (s.count a lo n k).loops = s.loops := rfl
@[simp] theorem State.count_eng : (s.count a lo n k).eng = s.eng := rfl
@[simp] theorem State.count_plan : (s.count a lo n k).plan = s.plan := rfl
@[simp] theorem State.count_mov : (s.count a lo n k).mov = s.mov := rfl
@[simp] theorem State.count_est : (s.count a lo n k).est = s.est := rfl
@[simp] theorem State.count_porches : (s.count a lo n k).porches = s.porches := rfl
@[simp] theorem State.count_cages : (s.count a lo n k).cages = s.cages := rfl
@[simp] theorem State.count_lanes : (s.count a lo n k).lanes = s.lanes := rfl
@[simp] theorem State.count_cals : (s.count a lo n k).cals = s.cals := rfl
@[simp] theorem State.count_twn : (s.count a lo n k).twn = s.twn := rfl
@[simp] theorem State.count_til : (s.count a lo n k).til = s.til := rfl
@[simp] theorem State.count_mem : (s.count a lo n k).mem = s.mem := rfl
@[simp] theorem State.count_shelves : (s.count a lo n k).shelves = s.shelves := rfl
@[simp] theorem State.count_pantryRetired : (s.count a lo n k).pantryRetired = s.pantryRetired := rfl
@[simp] theorem State.count_upd : (s.count a lo n k).upd = s.upd := rfl
@[simp] theorem State.count_flash : (s.count a lo n k).flash = s.flash := rfl
@[simp] theorem State.count_ram : (s.count a lo n k).ram = s.ram := rfl
@[simp] theorem State.count_readData : (s.count a lo n k).readData = s.readData := rfl
@[simp] theorem State.count_free : (s.count a lo n k).free = s.free := rfl
@[simp] theorem State.count_pending : (s.count a lo n k).pending = s.pending := rfl
@[simp] theorem State.seat_count : (s.count a lo n k).seat k = s.seat k := rfl
@[simp] theorem State.loop_count : (s.count a lo n k).loop k = s.loop k := rfl
@[simp] theorem State.porch_count : (s.count a lo n k).porch k = s.porch k := rfl
@[simp] theorem State.cage_count : (s.count a lo n k).cage k = s.cage k := rfl
@[simp] theorem State.lane_count : (s.count a lo n k).lane k m = s.lane k m := rfl
@[simp] theorem State.cal_count : (s.count a lo n k).cal k = s.cal k := rfl
@[simp] theorem State.shelf_count : (s.count a lo n k).shelf k = s.shelf k := rfl
@[simp] theorem State.tile_count : (s.count a lo n k).tile k = s.tile k := rfl
@[simp] theorem State.job_count : (s.count a lo n k).job k = s.job k := rfl
@[simp] theorem State.dev_count : (s.count a lo n k).dev k = s.dev k := rfl
@[simp] theorem State.path_count : (s.count a lo n k).path k = s.path k := rfl
@[simp] theorem State.service_count : (s.count a lo n k).service k = s.service k := rfl
@[simp] theorem State.reflex_count : (s.count a lo n k).reflex k = s.reflex k := rfl
@[simp] theorem State.move?_count : (s.count a lo n k).move? k = s.move? k := rfl
@[simp] theorem State.spIn_count : (s.count a lo n k).spIn k = s.spIn k := rfl
@[simp] theorem State.chan_count : (s.count a lo n k).chan k = s.chan k := rfl
@[simp] theorem State.patch_count : (s.count a lo n k).patch k = s.patch k := rfl
@[simp] theorem State.die_count : (s.count a lo n k).die k = s.die k := rfl
@[simp] theorem State.table?_count : (s.count a lo n k).table? k = s.table? k := rfl
@[simp] theorem State.cfgReg_count : (s.count a lo n k).cfgReg k = s.cfgReg k := rfl
@[simp] theorem State.readByte_count : (s.count a lo n k).readByte k = s.readByte k := rfl
end

section -- maxField
variable (s : State) (a lo n v : Nat) (k m : Nat)
@[simp] theorem State.maxField_hrt : (s.maxField a lo n v).hrt = s.hrt := rfl
@[simp] theorem State.maxField_pins : (s.maxField a lo n v).pins = s.pins := rfl
@[simp] theorem State.maxField_boot : (s.maxField a lo n v).boot = s.boot := rfl
@[simp] theorem State.maxField_thm : (s.maxField a lo n v).thm = s.thm := rfl
@[simp] theorem State.maxField_seats : (s.maxField a lo n v).seats = s.seats := rfl
@[simp] theorem State.maxField_taken : (s.maxField a lo n v).taken = s.taken := rfl
@[simp] theorem State.maxField_port : (s.maxField a lo n v).port = s.port := rfl
@[simp] theorem State.maxField_att : (s.maxField a lo n v).att = s.att := rfl
@[simp] theorem State.maxField_live : (s.maxField a lo n v).live = s.live := rfl
@[simp] theorem State.maxField_staged : (s.maxField a lo n v).staged = s.staged := rfl
@[simp] theorem State.maxField_events : (s.maxField a lo n v).events = s.events := rfl
@[simp] theorem State.maxField_later : (s.maxField a lo n v).later = s.later := rfl
@[simp] theorem State.maxField_ops : (s.maxField a lo n v).ops = s.ops := rfl
@[simp] theorem State.maxField_loops : (s.maxField a lo n v).loops = s.loops := rfl
@[simp] theorem State.maxField_eng : (s.maxField a lo n v).eng = s.eng := rfl
@[simp] theorem State.maxField_plan : (s.maxField a lo n v).plan = s.plan := rfl
@[simp] theorem State.maxField_mov : (s.maxField a lo n v).mov = s.mov := rfl
@[simp] theorem State.maxField_est : (s.maxField a lo n v).est = s.est := rfl
@[simp] theorem State.maxField_porches : (s.maxField a lo n v).porches = s.porches := rfl
@[simp] theorem State.maxField_cages : (s.maxField a lo n v).cages = s.cages := rfl
@[simp] theorem State.maxField_lanes : (s.maxField a lo n v).lanes = s.lanes := rfl
@[simp] theorem State.maxField_cals : (s.maxField a lo n v).cals = s.cals := rfl
@[simp] theorem State.maxField_twn : (s.maxField a lo n v).twn = s.twn := rfl
@[simp] theorem State.maxField_til : (s.maxField a lo n v).til = s.til := rfl
@[simp] theorem State.maxField_mem : (s.maxField a lo n v).mem = s.mem := rfl
@[simp] theorem State.maxField_shelves : (s.maxField a lo n v).shelves = s.shelves := rfl
@[simp] theorem State.maxField_pantryRetired : (s.maxField a lo n v).pantryRetired = s.pantryRetired := rfl
@[simp] theorem State.maxField_upd : (s.maxField a lo n v).upd = s.upd := rfl
@[simp] theorem State.maxField_flash : (s.maxField a lo n v).flash = s.flash := rfl
@[simp] theorem State.maxField_ram : (s.maxField a lo n v).ram = s.ram := rfl
@[simp] theorem State.maxField_readData : (s.maxField a lo n v).readData = s.readData := rfl
@[simp] theorem State.maxField_free : (s.maxField a lo n v).free = s.free := rfl
@[simp] theorem State.maxField_pending : (s.maxField a lo n v).pending = s.pending := rfl
@[simp] theorem State.seat_maxField : (s.maxField a lo n v).seat k = s.seat k := rfl
@[simp] theorem State.loop_maxField : (s.maxField a lo n v).loop k = s.loop k := rfl
@[simp] theorem State.porch_maxField : (s.maxField a lo n v).porch k = s.porch k := rfl
@[simp] theorem State.cage_maxField : (s.maxField a lo n v).cage k = s.cage k := rfl
@[simp] theorem State.lane_maxField : (s.maxField a lo n v).lane k m = s.lane k m := rfl
@[simp] theorem State.cal_maxField : (s.maxField a lo n v).cal k = s.cal k := rfl
@[simp] theorem State.shelf_maxField : (s.maxField a lo n v).shelf k = s.shelf k := rfl
@[simp] theorem State.tile_maxField : (s.maxField a lo n v).tile k = s.tile k := rfl
@[simp] theorem State.job_maxField : (s.maxField a lo n v).job k = s.job k := rfl
@[simp] theorem State.dev_maxField : (s.maxField a lo n v).dev k = s.dev k := rfl
@[simp] theorem State.path_maxField : (s.maxField a lo n v).path k = s.path k := rfl
@[simp] theorem State.service_maxField : (s.maxField a lo n v).service k = s.service k := rfl
@[simp] theorem State.reflex_maxField : (s.maxField a lo n v).reflex k = s.reflex k := rfl
@[simp] theorem State.move?_maxField : (s.maxField a lo n v).move? k = s.move? k := rfl
@[simp] theorem State.spIn_maxField : (s.maxField a lo n v).spIn k = s.spIn k := rfl
@[simp] theorem State.chan_maxField : (s.maxField a lo n v).chan k = s.chan k := rfl
@[simp] theorem State.patch_maxField : (s.maxField a lo n v).patch k = s.patch k := rfl
@[simp] theorem State.die_maxField : (s.maxField a lo n v).die k = s.die k := rfl
@[simp] theorem State.table?_maxField : (s.maxField a lo n v).table? k = s.table? k := rfl
@[simp] theorem State.cfgReg_maxField : (s.maxField a lo n v).cfgReg k = s.cfgReg k := rfl
@[simp] theorem State.readByte_maxField : (s.maxField a lo n v).readByte k = s.readByte k := rfl
end

section -- freeTick
variable (s : State) (k m : Nat)
@[simp] theorem State.freeTick_hrt : s.freeTick.hrt = s.hrt := rfl
@[simp] theorem State.freeTick_pins : s.freeTick.pins = s.pins := rfl
@[simp] theorem State.freeTick_boot : s.freeTick.boot = s.boot := rfl
@[simp] theorem State.freeTick_thm : s.freeTick.thm = s.thm := rfl
@[simp] theorem State.freeTick_seats : s.freeTick.seats = s.seats := rfl
@[simp] theorem State.freeTick_taken : s.freeTick.taken = s.taken := rfl
@[simp] theorem State.freeTick_port : s.freeTick.port = s.port := rfl
@[simp] theorem State.freeTick_att : s.freeTick.att = s.att := rfl
@[simp] theorem State.freeTick_regs : s.freeTick.regs = s.regs := rfl
@[simp] theorem State.freeTick_live : s.freeTick.live = s.live := rfl
@[simp] theorem State.freeTick_staged : s.freeTick.staged = s.staged := rfl
@[simp] theorem State.freeTick_events : s.freeTick.events = s.events := rfl
@[simp] theorem State.freeTick_later : s.freeTick.later = s.later := rfl
@[simp] theorem State.freeTick_ops : s.freeTick.ops = s.ops := rfl
@[simp] theorem State.freeTick_loops : s.freeTick.loops = s.loops := rfl
@[simp] theorem State.freeTick_eng : s.freeTick.eng = s.eng := rfl
@[simp] theorem State.freeTick_plan : s.freeTick.plan = s.plan := rfl
@[simp] theorem State.freeTick_mov : s.freeTick.mov = s.mov := rfl
@[simp] theorem State.freeTick_est : s.freeTick.est = s.est := rfl
@[simp] theorem State.freeTick_porches : s.freeTick.porches = s.porches := rfl
@[simp] theorem State.freeTick_cages : s.freeTick.cages = s.cages := rfl
@[simp] theorem State.freeTick_lanes : s.freeTick.lanes = s.lanes := rfl
@[simp] theorem State.freeTick_cals : s.freeTick.cals = s.cals := rfl
@[simp] theorem State.freeTick_twn : s.freeTick.twn = s.twn := rfl
@[simp] theorem State.freeTick_til : s.freeTick.til = s.til := rfl
@[simp] theorem State.freeTick_mem : s.freeTick.mem = s.mem := rfl
@[simp] theorem State.freeTick_shelves : s.freeTick.shelves = s.shelves := rfl
@[simp] theorem State.freeTick_pantryRetired : s.freeTick.pantryRetired = s.pantryRetired := rfl
@[simp] theorem State.freeTick_upd : s.freeTick.upd = s.upd := rfl
@[simp] theorem State.freeTick_flash : s.freeTick.flash = s.flash := rfl
@[simp] theorem State.freeTick_ram : s.freeTick.ram = s.ram := rfl
@[simp] theorem State.freeTick_readData : s.freeTick.readData = s.readData := rfl
@[simp] theorem State.freeTick_pending : s.freeTick.pending = s.pending := rfl
@[simp] theorem State.seat_freeTick : s.freeTick.seat k = s.seat k := rfl
@[simp] theorem State.loop_freeTick : s.freeTick.loop k = s.loop k := rfl
@[simp] theorem State.porch_freeTick : s.freeTick.porch k = s.porch k := rfl
@[simp] theorem State.cage_freeTick : s.freeTick.cage k = s.cage k := rfl
@[simp] theorem State.lane_freeTick : s.freeTick.lane k m = s.lane k m := rfl
@[simp] theorem State.cal_freeTick : s.freeTick.cal k = s.cal k := rfl
@[simp] theorem State.shelf_freeTick : s.freeTick.shelf k = s.shelf k := rfl
@[simp] theorem State.tile_freeTick : s.freeTick.tile k = s.tile k := rfl
@[simp] theorem State.job_freeTick : s.freeTick.job k = s.job k := rfl
@[simp] theorem State.dev_freeTick : s.freeTick.dev k = s.dev k := rfl
@[simp] theorem State.path_freeTick : s.freeTick.path k = s.path k := rfl
@[simp] theorem State.service_freeTick : s.freeTick.service k = s.service k := rfl
@[simp] theorem State.reflex_freeTick : s.freeTick.reflex k = s.reflex k := rfl
@[simp] theorem State.move?_freeTick : s.freeTick.move? k = s.move? k := rfl
@[simp] theorem State.spIn_freeTick : s.freeTick.spIn k = s.spIn k := rfl
@[simp] theorem State.chan_freeTick : s.freeTick.chan k = s.chan k := rfl
@[simp] theorem State.patch_freeTick : s.freeTick.patch k = s.patch k := rfl
@[simp] theorem State.die_freeTick : s.freeTick.die k = s.die k := rfl
@[simp] theorem State.table?_freeTick : s.freeTick.table? k = s.table? k := rfl
@[simp] theorem State.reg_freeTick : s.freeTick.reg k = s.reg k := rfl
@[simp] theorem State.cfgReg_freeTick : s.freeTick.cfgReg k = s.cfgReg k := rfl
@[simp] theorem State.readByte_freeTick : s.freeTick.readByte k = s.readByte k := rfl
end

section -- writeByte
variable (s : State) (a : Nat) (b : Byte) (k m : Nat)
@[simp] theorem State.writeByte_hrt : (s.writeByte a b).hrt = s.hrt := rfl
@[simp] theorem State.writeByte_pins : (s.writeByte a b).pins = s.pins := rfl
@[simp] theorem State.writeByte_boot : (s.writeByte a b).boot = s.boot := rfl
@[simp] theorem State.writeByte_thm : (s.writeByte a b).thm = s.thm := rfl
@[simp] theorem State.writeByte_seats : (s.writeByte a b).seats = s.seats := rfl
@[simp] theorem State.writeByte_taken : (s.writeByte a b).taken = s.taken := rfl
@[simp] theorem State.writeByte_port : (s.writeByte a b).port = s.port := rfl
@[simp] theorem State.writeByte_att : (s.writeByte a b).att = s.att := rfl
@[simp] theorem State.writeByte_regs : (s.writeByte a b).regs = s.regs := rfl
@[simp] theorem State.writeByte_live : (s.writeByte a b).live = s.live := rfl
@[simp] theorem State.writeByte_staged : (s.writeByte a b).staged = s.staged := rfl
@[simp] theorem State.writeByte_events : (s.writeByte a b).events = s.events := rfl
@[simp] theorem State.writeByte_later : (s.writeByte a b).later = s.later := rfl
@[simp] theorem State.writeByte_ops : (s.writeByte a b).ops = s.ops := rfl
@[simp] theorem State.writeByte_loops : (s.writeByte a b).loops = s.loops := rfl
@[simp] theorem State.writeByte_eng : (s.writeByte a b).eng = s.eng := rfl
@[simp] theorem State.writeByte_plan : (s.writeByte a b).plan = s.plan := rfl
@[simp] theorem State.writeByte_mov : (s.writeByte a b).mov = s.mov := rfl
@[simp] theorem State.writeByte_est : (s.writeByte a b).est = s.est := rfl
@[simp] theorem State.writeByte_porches : (s.writeByte a b).porches = s.porches := rfl
@[simp] theorem State.writeByte_cages : (s.writeByte a b).cages = s.cages := rfl
@[simp] theorem State.writeByte_lanes : (s.writeByte a b).lanes = s.lanes := rfl
@[simp] theorem State.writeByte_cals : (s.writeByte a b).cals = s.cals := rfl
@[simp] theorem State.writeByte_twn : (s.writeByte a b).twn = s.twn := rfl
@[simp] theorem State.writeByte_til : (s.writeByte a b).til = s.til := rfl
@[simp] theorem State.writeByte_mem : (s.writeByte a b).mem = s.mem := rfl
@[simp] theorem State.writeByte_shelves : (s.writeByte a b).shelves = s.shelves := rfl
@[simp] theorem State.writeByte_pantryRetired : (s.writeByte a b).pantryRetired = s.pantryRetired := rfl
@[simp] theorem State.writeByte_upd : (s.writeByte a b).upd = s.upd := rfl
@[simp] theorem State.writeByte_flash : (s.writeByte a b).flash = s.flash := rfl
@[simp] theorem State.writeByte_readData : (s.writeByte a b).readData = s.readData := rfl
@[simp] theorem State.writeByte_free : (s.writeByte a b).free = s.free := rfl
@[simp] theorem State.writeByte_pending : (s.writeByte a b).pending = s.pending := rfl
@[simp] theorem State.seat_writeByte : (s.writeByte a b).seat k = s.seat k := rfl
@[simp] theorem State.loop_writeByte : (s.writeByte a b).loop k = s.loop k := rfl
@[simp] theorem State.porch_writeByte : (s.writeByte a b).porch k = s.porch k := rfl
@[simp] theorem State.cage_writeByte : (s.writeByte a b).cage k = s.cage k := rfl
@[simp] theorem State.lane_writeByte : (s.writeByte a b).lane k m = s.lane k m := rfl
@[simp] theorem State.cal_writeByte : (s.writeByte a b).cal k = s.cal k := rfl
@[simp] theorem State.shelf_writeByte : (s.writeByte a b).shelf k = s.shelf k := rfl
@[simp] theorem State.tile_writeByte : (s.writeByte a b).tile k = s.tile k := rfl
@[simp] theorem State.job_writeByte : (s.writeByte a b).job k = s.job k := rfl
@[simp] theorem State.dev_writeByte : (s.writeByte a b).dev k = s.dev k := rfl
@[simp] theorem State.path_writeByte : (s.writeByte a b).path k = s.path k := rfl
@[simp] theorem State.service_writeByte : (s.writeByte a b).service k = s.service k := rfl
@[simp] theorem State.reflex_writeByte : (s.writeByte a b).reflex k = s.reflex k := rfl
@[simp] theorem State.move?_writeByte : (s.writeByte a b).move? k = s.move? k := rfl
@[simp] theorem State.spIn_writeByte : (s.writeByte a b).spIn k = s.spIn k := rfl
@[simp] theorem State.chan_writeByte : (s.writeByte a b).chan k = s.chan k := rfl
@[simp] theorem State.patch_writeByte : (s.writeByte a b).patch k = s.patch k := rfl
@[simp] theorem State.die_writeByte : (s.writeByte a b).die k = s.die k := rfl
@[simp] theorem State.table?_writeByte : (s.writeByte a b).table? k = s.table? k := rfl
@[simp] theorem State.reg_writeByte : (s.writeByte a b).reg k = s.reg k := rfl
@[simp] theorem State.cfgReg_writeByte : (s.writeByte a b).cfgReg k = s.cfgReg k := rfl
end

section -- raiseTo
variable (s : State) (l : List Nat) (src b obj arg : Nat) (k m : Nat)
@[simp] theorem State.raiseTo_hrt : (s.raiseTo l src b obj arg).hrt = s.hrt := rfl
@[simp] theorem State.raiseTo_pins : (s.raiseTo l src b obj arg).pins = s.pins := rfl
@[simp] theorem State.raiseTo_boot : (s.raiseTo l src b obj arg).boot = s.boot := rfl
@[simp] theorem State.raiseTo_thm : (s.raiseTo l src b obj arg).thm = s.thm := rfl
@[simp] theorem State.raiseTo_seats : (s.raiseTo l src b obj arg).seats = s.seats := rfl
@[simp] theorem State.raiseTo_taken : (s.raiseTo l src b obj arg).taken = s.taken := rfl
@[simp] theorem State.raiseTo_port : (s.raiseTo l src b obj arg).port = s.port := rfl
@[simp] theorem State.raiseTo_att : (s.raiseTo l src b obj arg).att = s.att := rfl
@[simp] theorem State.raiseTo_regs : (s.raiseTo l src b obj arg).regs = s.regs := rfl
@[simp] theorem State.raiseTo_live : (s.raiseTo l src b obj arg).live = s.live := rfl
@[simp] theorem State.raiseTo_staged : (s.raiseTo l src b obj arg).staged = s.staged := rfl
@[simp] theorem State.raiseTo_later : (s.raiseTo l src b obj arg).later = s.later := rfl
@[simp] theorem State.raiseTo_ops : (s.raiseTo l src b obj arg).ops = s.ops := rfl
@[simp] theorem State.raiseTo_loops : (s.raiseTo l src b obj arg).loops = s.loops := rfl
@[simp] theorem State.raiseTo_eng : (s.raiseTo l src b obj arg).eng = s.eng := rfl
@[simp] theorem State.raiseTo_plan : (s.raiseTo l src b obj arg).plan = s.plan := rfl
@[simp] theorem State.raiseTo_mov : (s.raiseTo l src b obj arg).mov = s.mov := rfl
@[simp] theorem State.raiseTo_est : (s.raiseTo l src b obj arg).est = s.est := rfl
@[simp] theorem State.raiseTo_porches : (s.raiseTo l src b obj arg).porches = s.porches := rfl
@[simp] theorem State.raiseTo_cages : (s.raiseTo l src b obj arg).cages = s.cages := rfl
@[simp] theorem State.raiseTo_lanes : (s.raiseTo l src b obj arg).lanes = s.lanes := rfl
@[simp] theorem State.raiseTo_cals : (s.raiseTo l src b obj arg).cals = s.cals := rfl
@[simp] theorem State.raiseTo_twn : (s.raiseTo l src b obj arg).twn = s.twn := rfl
@[simp] theorem State.raiseTo_til : (s.raiseTo l src b obj arg).til = s.til := rfl
@[simp] theorem State.raiseTo_mem : (s.raiseTo l src b obj arg).mem = s.mem := rfl
@[simp] theorem State.raiseTo_shelves : (s.raiseTo l src b obj arg).shelves = s.shelves := rfl
@[simp] theorem State.raiseTo_pantryRetired : (s.raiseTo l src b obj arg).pantryRetired = s.pantryRetired := rfl
@[simp] theorem State.raiseTo_upd : (s.raiseTo l src b obj arg).upd = s.upd := rfl
@[simp] theorem State.raiseTo_flash : (s.raiseTo l src b obj arg).flash = s.flash := rfl
@[simp] theorem State.raiseTo_ram : (s.raiseTo l src b obj arg).ram = s.ram := rfl
@[simp] theorem State.raiseTo_readData : (s.raiseTo l src b obj arg).readData = s.readData := rfl
@[simp] theorem State.raiseTo_free : (s.raiseTo l src b obj arg).free = s.free := rfl
@[simp] theorem State.raiseTo_pending : (s.raiseTo l src b obj arg).pending = s.pending := rfl
@[simp] theorem State.seat_raiseTo : (s.raiseTo l src b obj arg).seat k = s.seat k := rfl
@[simp] theorem State.loop_raiseTo : (s.raiseTo l src b obj arg).loop k = s.loop k := rfl
@[simp] theorem State.porch_raiseTo : (s.raiseTo l src b obj arg).porch k = s.porch k := rfl
@[simp] theorem State.cage_raiseTo : (s.raiseTo l src b obj arg).cage k = s.cage k := rfl
@[simp] theorem State.lane_raiseTo : (s.raiseTo l src b obj arg).lane k m = s.lane k m := rfl
@[simp] theorem State.cal_raiseTo : (s.raiseTo l src b obj arg).cal k = s.cal k := rfl
@[simp] theorem State.shelf_raiseTo : (s.raiseTo l src b obj arg).shelf k = s.shelf k := rfl
@[simp] theorem State.tile_raiseTo : (s.raiseTo l src b obj arg).tile k = s.tile k := rfl
@[simp] theorem State.job_raiseTo : (s.raiseTo l src b obj arg).job k = s.job k := rfl
@[simp] theorem State.dev_raiseTo : (s.raiseTo l src b obj arg).dev k = s.dev k := rfl
@[simp] theorem State.path_raiseTo : (s.raiseTo l src b obj arg).path k = s.path k := rfl
@[simp] theorem State.service_raiseTo : (s.raiseTo l src b obj arg).service k = s.service k := rfl
@[simp] theorem State.reflex_raiseTo : (s.raiseTo l src b obj arg).reflex k = s.reflex k := rfl
@[simp] theorem State.move?_raiseTo : (s.raiseTo l src b obj arg).move? k = s.move? k := rfl
@[simp] theorem State.spIn_raiseTo : (s.raiseTo l src b obj arg).spIn k = s.spIn k := rfl
@[simp] theorem State.chan_raiseTo : (s.raiseTo l src b obj arg).chan k = s.chan k := rfl
@[simp] theorem State.patch_raiseTo : (s.raiseTo l src b obj arg).patch k = s.patch k := rfl
@[simp] theorem State.die_raiseTo : (s.raiseTo l src b obj arg).die k = s.die k := rfl
@[simp] theorem State.table?_raiseTo : (s.raiseTo l src b obj arg).table? k = s.table? k := rfl
@[simp] theorem State.reg_raiseTo : (s.raiseTo l src b obj arg).reg k = s.reg k := rfl
@[simp] theorem State.cfgReg_raiseTo : (s.raiseTo l src b obj arg).cfgReg k = s.cfgReg k := rfl
@[simp] theorem State.readByte_raiseTo : (s.raiseTo l src b obj arg).readByte k = s.readByte k := rfl
end

section -- raise
variable (s : State) (src b obj arg : Nat) (k m : Nat)
@[simp] theorem State.raise_hrt : (s.raise src b obj arg).hrt = s.hrt := rfl
@[simp] theorem State.raise_pins : (s.raise src b obj arg).pins = s.pins := rfl
@[simp] theorem State.raise_boot : (s.raise src b obj arg).boot = s.boot := rfl
@[simp] theorem State.raise_thm : (s.raise src b obj arg).thm = s.thm := rfl
@[simp] theorem State.raise_seats : (s.raise src b obj arg).seats = s.seats := rfl
@[simp] theorem State.raise_taken : (s.raise src b obj arg).taken = s.taken := rfl
@[simp] theorem State.raise_port : (s.raise src b obj arg).port = s.port := rfl
@[simp] theorem State.raise_att : (s.raise src b obj arg).att = s.att := rfl
@[simp] theorem State.raise_regs : (s.raise src b obj arg).regs = s.regs := rfl
@[simp] theorem State.raise_live : (s.raise src b obj arg).live = s.live := rfl
@[simp] theorem State.raise_staged : (s.raise src b obj arg).staged = s.staged := rfl
@[simp] theorem State.raise_later : (s.raise src b obj arg).later = s.later := rfl
@[simp] theorem State.raise_ops : (s.raise src b obj arg).ops = s.ops := rfl
@[simp] theorem State.raise_loops : (s.raise src b obj arg).loops = s.loops := rfl
@[simp] theorem State.raise_eng : (s.raise src b obj arg).eng = s.eng := rfl
@[simp] theorem State.raise_plan : (s.raise src b obj arg).plan = s.plan := rfl
@[simp] theorem State.raise_mov : (s.raise src b obj arg).mov = s.mov := rfl
@[simp] theorem State.raise_est : (s.raise src b obj arg).est = s.est := rfl
@[simp] theorem State.raise_porches : (s.raise src b obj arg).porches = s.porches := rfl
@[simp] theorem State.raise_cages : (s.raise src b obj arg).cages = s.cages := rfl
@[simp] theorem State.raise_lanes : (s.raise src b obj arg).lanes = s.lanes := rfl
@[simp] theorem State.raise_cals : (s.raise src b obj arg).cals = s.cals := rfl
@[simp] theorem State.raise_twn : (s.raise src b obj arg).twn = s.twn := rfl
@[simp] theorem State.raise_til : (s.raise src b obj arg).til = s.til := rfl
@[simp] theorem State.raise_mem : (s.raise src b obj arg).mem = s.mem := rfl
@[simp] theorem State.raise_shelves : (s.raise src b obj arg).shelves = s.shelves := rfl
@[simp] theorem State.raise_pantryRetired : (s.raise src b obj arg).pantryRetired = s.pantryRetired := rfl
@[simp] theorem State.raise_upd : (s.raise src b obj arg).upd = s.upd := rfl
@[simp] theorem State.raise_flash : (s.raise src b obj arg).flash = s.flash := rfl
@[simp] theorem State.raise_ram : (s.raise src b obj arg).ram = s.ram := rfl
@[simp] theorem State.raise_readData : (s.raise src b obj arg).readData = s.readData := rfl
@[simp] theorem State.raise_free : (s.raise src b obj arg).free = s.free := rfl
@[simp] theorem State.raise_pending : (s.raise src b obj arg).pending = s.pending := rfl
@[simp] theorem State.seat_raise : (s.raise src b obj arg).seat k = s.seat k := rfl
@[simp] theorem State.loop_raise : (s.raise src b obj arg).loop k = s.loop k := rfl
@[simp] theorem State.porch_raise : (s.raise src b obj arg).porch k = s.porch k := rfl
@[simp] theorem State.cage_raise : (s.raise src b obj arg).cage k = s.cage k := rfl
@[simp] theorem State.lane_raise : (s.raise src b obj arg).lane k m = s.lane k m := rfl
@[simp] theorem State.cal_raise : (s.raise src b obj arg).cal k = s.cal k := rfl
@[simp] theorem State.shelf_raise : (s.raise src b obj arg).shelf k = s.shelf k := rfl
@[simp] theorem State.tile_raise : (s.raise src b obj arg).tile k = s.tile k := rfl
@[simp] theorem State.job_raise : (s.raise src b obj arg).job k = s.job k := rfl
@[simp] theorem State.dev_raise : (s.raise src b obj arg).dev k = s.dev k := rfl
@[simp] theorem State.path_raise : (s.raise src b obj arg).path k = s.path k := rfl
@[simp] theorem State.service_raise : (s.raise src b obj arg).service k = s.service k := rfl
@[simp] theorem State.reflex_raise : (s.raise src b obj arg).reflex k = s.reflex k := rfl
@[simp] theorem State.move?_raise : (s.raise src b obj arg).move? k = s.move? k := rfl
@[simp] theorem State.spIn_raise : (s.raise src b obj arg).spIn k = s.spIn k := rfl
@[simp] theorem State.chan_raise : (s.raise src b obj arg).chan k = s.chan k := rfl
@[simp] theorem State.patch_raise : (s.raise src b obj arg).patch k = s.patch k := rfl
@[simp] theorem State.die_raise : (s.raise src b obj arg).die k = s.die k := rfl
@[simp] theorem State.table?_raise : (s.raise src b obj arg).table? k = s.table? k := rfl
@[simp] theorem State.reg_raise : (s.raise src b obj arg).reg k = s.reg k := rfl
@[simp] theorem State.cfgReg_raise : (s.raise src b obj arg).cfgReg k = s.cfgReg k := rfl
@[simp] theorem State.readByte_raise : (s.raise src b obj arg).readByte k = s.readByte k := rfl
end

section -- raiseRecord
variable (s : State) (l : List Nat) (src e : Nat) (body : List Byte) (k m : Nat)
@[simp] theorem State.raiseRecord_hrt : (s.raiseRecord l src e body).hrt = s.hrt := rfl
@[simp] theorem State.raiseRecord_pins : (s.raiseRecord l src e body).pins = s.pins := rfl
@[simp] theorem State.raiseRecord_boot : (s.raiseRecord l src e body).boot = s.boot := rfl
@[simp] theorem State.raiseRecord_thm : (s.raiseRecord l src e body).thm = s.thm := rfl
@[simp] theorem State.raiseRecord_seats : (s.raiseRecord l src e body).seats = s.seats := rfl
@[simp] theorem State.raiseRecord_taken : (s.raiseRecord l src e body).taken = s.taken := rfl
@[simp] theorem State.raiseRecord_port : (s.raiseRecord l src e body).port = s.port := rfl
@[simp] theorem State.raiseRecord_att : (s.raiseRecord l src e body).att = s.att := rfl
@[simp] theorem State.raiseRecord_regs : (s.raiseRecord l src e body).regs = s.regs := rfl
@[simp] theorem State.raiseRecord_live : (s.raiseRecord l src e body).live = s.live := rfl
@[simp] theorem State.raiseRecord_staged : (s.raiseRecord l src e body).staged = s.staged := rfl
@[simp] theorem State.raiseRecord_later : (s.raiseRecord l src e body).later = s.later := rfl
@[simp] theorem State.raiseRecord_ops : (s.raiseRecord l src e body).ops = s.ops := rfl
@[simp] theorem State.raiseRecord_loops : (s.raiseRecord l src e body).loops = s.loops := rfl
@[simp] theorem State.raiseRecord_eng : (s.raiseRecord l src e body).eng = s.eng := rfl
@[simp] theorem State.raiseRecord_plan : (s.raiseRecord l src e body).plan = s.plan := rfl
@[simp] theorem State.raiseRecord_mov : (s.raiseRecord l src e body).mov = s.mov := rfl
@[simp] theorem State.raiseRecord_est : (s.raiseRecord l src e body).est = s.est := rfl
@[simp] theorem State.raiseRecord_porches : (s.raiseRecord l src e body).porches = s.porches := rfl
@[simp] theorem State.raiseRecord_cages : (s.raiseRecord l src e body).cages = s.cages := rfl
@[simp] theorem State.raiseRecord_lanes : (s.raiseRecord l src e body).lanes = s.lanes := rfl
@[simp] theorem State.raiseRecord_cals : (s.raiseRecord l src e body).cals = s.cals := rfl
@[simp] theorem State.raiseRecord_twn : (s.raiseRecord l src e body).twn = s.twn := rfl
@[simp] theorem State.raiseRecord_til : (s.raiseRecord l src e body).til = s.til := rfl
@[simp] theorem State.raiseRecord_mem : (s.raiseRecord l src e body).mem = s.mem := rfl
@[simp] theorem State.raiseRecord_shelves : (s.raiseRecord l src e body).shelves = s.shelves := rfl
@[simp] theorem State.raiseRecord_pantryRetired : (s.raiseRecord l src e body).pantryRetired = s.pantryRetired := rfl
@[simp] theorem State.raiseRecord_upd : (s.raiseRecord l src e body).upd = s.upd := rfl
@[simp] theorem State.raiseRecord_flash : (s.raiseRecord l src e body).flash = s.flash := rfl
@[simp] theorem State.raiseRecord_ram : (s.raiseRecord l src e body).ram = s.ram := rfl
@[simp] theorem State.raiseRecord_readData : (s.raiseRecord l src e body).readData = s.readData := rfl
@[simp] theorem State.raiseRecord_free : (s.raiseRecord l src e body).free = s.free := rfl
@[simp] theorem State.raiseRecord_pending : (s.raiseRecord l src e body).pending = s.pending := rfl
@[simp] theorem State.seat_raiseRecord : (s.raiseRecord l src e body).seat k = s.seat k := rfl
@[simp] theorem State.loop_raiseRecord : (s.raiseRecord l src e body).loop k = s.loop k := rfl
@[simp] theorem State.porch_raiseRecord : (s.raiseRecord l src e body).porch k = s.porch k := rfl
@[simp] theorem State.cage_raiseRecord : (s.raiseRecord l src e body).cage k = s.cage k := rfl
@[simp] theorem State.lane_raiseRecord : (s.raiseRecord l src e body).lane k m = s.lane k m := rfl
@[simp] theorem State.cal_raiseRecord : (s.raiseRecord l src e body).cal k = s.cal k := rfl
@[simp] theorem State.shelf_raiseRecord : (s.raiseRecord l src e body).shelf k = s.shelf k := rfl
@[simp] theorem State.tile_raiseRecord : (s.raiseRecord l src e body).tile k = s.tile k := rfl
@[simp] theorem State.job_raiseRecord : (s.raiseRecord l src e body).job k = s.job k := rfl
@[simp] theorem State.dev_raiseRecord : (s.raiseRecord l src e body).dev k = s.dev k := rfl
@[simp] theorem State.path_raiseRecord : (s.raiseRecord l src e body).path k = s.path k := rfl
@[simp] theorem State.service_raiseRecord : (s.raiseRecord l src e body).service k = s.service k := rfl
@[simp] theorem State.reflex_raiseRecord : (s.raiseRecord l src e body).reflex k = s.reflex k := rfl
@[simp] theorem State.move?_raiseRecord : (s.raiseRecord l src e body).move? k = s.move? k := rfl
@[simp] theorem State.spIn_raiseRecord : (s.raiseRecord l src e body).spIn k = s.spIn k := rfl
@[simp] theorem State.chan_raiseRecord : (s.raiseRecord l src e body).chan k = s.chan k := rfl
@[simp] theorem State.patch_raiseRecord : (s.raiseRecord l src e body).patch k = s.patch k := rfl
@[simp] theorem State.die_raiseRecord : (s.raiseRecord l src e body).die k = s.die k := rfl
@[simp] theorem State.table?_raiseRecord : (s.raiseRecord l src e body).table? k = s.table? k := rfl
@[simp] theorem State.reg_raiseRecord : (s.raiseRecord l src e body).reg k = s.reg k := rfl
@[simp] theorem State.cfgReg_raiseRecord : (s.raiseRecord l src e body).cfgReg k = s.cfgReg k := rfl
@[simp] theorem State.readByte_raiseRecord : (s.raiseRecord l src e body).readByte k = s.readByte k := rfl
end

section -- record
variable (s : State) (typ sev key : Nat) (payload : List Byte) (k m : Nat)
@[simp] theorem State.record_hrt : (s.record typ sev key payload).hrt = s.hrt := rfl
@[simp] theorem State.record_pins : (s.record typ sev key payload).pins = s.pins := rfl
@[simp] theorem State.record_boot : (s.record typ sev key payload).boot = s.boot := rfl
@[simp] theorem State.record_thm : (s.record typ sev key payload).thm = s.thm := rfl
@[simp] theorem State.record_seats : (s.record typ sev key payload).seats = s.seats := rfl
@[simp] theorem State.record_taken : (s.record typ sev key payload).taken = s.taken := rfl
@[simp] theorem State.record_port : (s.record typ sev key payload).port = s.port := rfl
@[simp] theorem State.record_regs : (s.record typ sev key payload).regs = s.regs := rfl
@[simp] theorem State.record_live : (s.record typ sev key payload).live = s.live := rfl
@[simp] theorem State.record_staged : (s.record typ sev key payload).staged = s.staged := rfl
@[simp] theorem State.record_events : (s.record typ sev key payload).events = s.events := rfl
@[simp] theorem State.record_later : (s.record typ sev key payload).later = s.later := rfl
@[simp] theorem State.record_ops : (s.record typ sev key payload).ops = s.ops := rfl
@[simp] theorem State.record_loops : (s.record typ sev key payload).loops = s.loops := rfl
@[simp] theorem State.record_eng : (s.record typ sev key payload).eng = s.eng := rfl
@[simp] theorem State.record_plan : (s.record typ sev key payload).plan = s.plan := rfl
@[simp] theorem State.record_mov : (s.record typ sev key payload).mov = s.mov := rfl
@[simp] theorem State.record_est : (s.record typ sev key payload).est = s.est := rfl
@[simp] theorem State.record_porches : (s.record typ sev key payload).porches = s.porches := rfl
@[simp] theorem State.record_cages : (s.record typ sev key payload).cages = s.cages := rfl
@[simp] theorem State.record_lanes : (s.record typ sev key payload).lanes = s.lanes := rfl
@[simp] theorem State.record_cals : (s.record typ sev key payload).cals = s.cals := rfl
@[simp] theorem State.record_twn : (s.record typ sev key payload).twn = s.twn := rfl
@[simp] theorem State.record_til : (s.record typ sev key payload).til = s.til := rfl
@[simp] theorem State.record_mem : (s.record typ sev key payload).mem = s.mem := rfl
@[simp] theorem State.record_shelves : (s.record typ sev key payload).shelves = s.shelves := rfl
@[simp] theorem State.record_pantryRetired : (s.record typ sev key payload).pantryRetired = s.pantryRetired := rfl
@[simp] theorem State.record_upd : (s.record typ sev key payload).upd = s.upd := rfl
@[simp] theorem State.record_flash : (s.record typ sev key payload).flash = s.flash := rfl
@[simp] theorem State.record_ram : (s.record typ sev key payload).ram = s.ram := rfl
@[simp] theorem State.record_readData : (s.record typ sev key payload).readData = s.readData := rfl
@[simp] theorem State.record_free : (s.record typ sev key payload).free = s.free := rfl
@[simp] theorem State.record_pending : (s.record typ sev key payload).pending = s.pending := rfl
@[simp] theorem State.seat_record : (s.record typ sev key payload).seat k = s.seat k := rfl
@[simp] theorem State.loop_record : (s.record typ sev key payload).loop k = s.loop k := rfl
@[simp] theorem State.porch_record : (s.record typ sev key payload).porch k = s.porch k := rfl
@[simp] theorem State.cage_record : (s.record typ sev key payload).cage k = s.cage k := rfl
@[simp] theorem State.lane_record : (s.record typ sev key payload).lane k m = s.lane k m := rfl
@[simp] theorem State.cal_record : (s.record typ sev key payload).cal k = s.cal k := rfl
@[simp] theorem State.shelf_record : (s.record typ sev key payload).shelf k = s.shelf k := rfl
@[simp] theorem State.tile_record : (s.record typ sev key payload).tile k = s.tile k := rfl
@[simp] theorem State.job_record : (s.record typ sev key payload).job k = s.job k := rfl
@[simp] theorem State.dev_record : (s.record typ sev key payload).dev k = s.dev k := rfl
@[simp] theorem State.path_record : (s.record typ sev key payload).path k = s.path k := rfl
@[simp] theorem State.service_record : (s.record typ sev key payload).service k = s.service k := rfl
@[simp] theorem State.reflex_record : (s.record typ sev key payload).reflex k = s.reflex k := rfl
@[simp] theorem State.move?_record : (s.record typ sev key payload).move? k = s.move? k := rfl
@[simp] theorem State.spIn_record : (s.record typ sev key payload).spIn k = s.spIn k := rfl
@[simp] theorem State.chan_record : (s.record typ sev key payload).chan k = s.chan k := rfl
@[simp] theorem State.patch_record : (s.record typ sev key payload).patch k = s.patch k := rfl
@[simp] theorem State.die_record : (s.record typ sev key payload).die k = s.die k := rfl
@[simp] theorem State.table?_record : (s.record typ sev key payload).table? k = s.table? k := rfl
@[simp] theorem State.reg_record : (s.record typ sev key payload).reg k = s.reg k := rfl
@[simp] theorem State.cfgReg_record : (s.record typ sev key payload).cfgReg k = s.cfgReg k := rfl
@[simp] theorem State.readByte_record : (s.record typ sev key payload).readByte k = s.readByte k := rfl
end

-- Where an update writes

theorem State.seat_updSeat_ne (s : State) {i k : Nat} (f : Seat → Seat) (h : k ≠ i) : (s.updSeat i f).seat k = s.seat k := tget_tupd_ne f _ h
theorem State.seat_updSeat_self {s : State} (h : twf (fun _ => ({} : Seat)) s.seats = true) (i : Nat) (f : Seat → Seat) :
    (s.updSeat i f).seat i = f (s.seat i) := tget_tupd_self h i f
theorem State.loop_updLoop_ne (s : State) {i k : Nat} (f : Loop → Loop) (h : k ≠ i) : (s.updLoop i f).loop k = s.loop k := tget_tupd_ne f _ h
theorem State.loop_updLoop_self {s : State} (h : twf (fun _ => ({} : Loop)) s.loops = true) (i : Nat) (f : Loop → Loop) :
    (s.updLoop i f).loop i = f (s.loop i) := tget_tupd_self h i f
theorem State.porch_updPorch_ne (s : State) {i k : Nat} (f : Porch → Porch) (h : k ≠ i) : (s.updPorch i f).porch k = s.porch k := tget_tupd_ne f _ h
theorem State.porch_updPorch_self {s : State} (h : twf (fun _ => ({} : Porch)) s.porches = true) (i : Nat) (f : Porch → Porch) :
    (s.updPorch i f).porch i = f (s.porch i) := tget_tupd_self h i f
theorem State.cage_updCage_ne (s : State) {i k : Nat} (f : Cage → Cage) (h : k ≠ i) : (s.updCage i f).cage k = s.cage k := tget_tupd_ne f _ h
theorem State.cage_updCage_self {s : State} (h : twf (fun _ => ({} : Cage)) s.cages = true) (i : Nat) (f : Cage → Cage) :
    (s.updCage i f).cage i = f (s.cage i) := tget_tupd_self h i f
theorem State.cal_updCal_ne (s : State) {i k : Nat} (f : CalRun → CalRun) (h : k ≠ i) : (s.updCal i f).cal k = s.cal k := tget_tupd_ne f _ h
theorem State.cal_updCal_self {s : State} (h : twf (fun _ => ({} : CalRun)) s.cals = true) (i : Nat) (f : CalRun → CalRun) :
    (s.updCal i f).cal i = f (s.cal i) := tget_tupd_self h i f
theorem State.shelf_updShelf_ne (s : State) {i k : Nat} (f : Shelf → Shelf) (h : k ≠ i) : (s.updShelf i f).shelf k = s.shelf k := tget_tupd_ne f _ h
theorem State.shelf_updShelf_self {s : State} (h : twf (fun _ => ({} : Shelf)) s.shelves = true) (i : Nat) (f : Shelf → Shelf) :
    (s.updShelf i f).shelf i = f (s.shelf i) := tget_tupd_self h i f
theorem State.tile_updTile_ne (s : State) {i k : Nat} (f : Tile → Tile) (h : k ≠ i) : (s.updTile i f).tile k = s.tile k := tget_tupd_ne f _ h
theorem State.tile_updTile_self {s : State} (h : twf (fun _ => ({} : Tile)) s.til.tiles = true) (i : Nat) (f : Tile → Tile) :
    (s.updTile i f).tile i = f (s.tile i) := tget_tupd_self h i f
theorem State.job_updJob_ne (s : State) {i k : Nat} (f : Job → Job) (h : k ≠ i) : (s.updJob i f).job k = s.job k := tget_tupd_ne f _ h
theorem State.job_updJob_self {s : State} (h : twf (fun _ => ({} : Job)) s.til.jobs = true) (i : Nat) (f : Job → Job) :
    (s.updJob i f).job i = f (s.job i) := tget_tupd_self h i f
theorem State.dev_updDev_ne (s : State) {i k : Nat} (f : Gddr7 → Gddr7) (h : k ≠ i) : (s.updDev i f).dev k = s.dev k := tget_tupd_ne f _ h
theorem State.dev_updDev_self {s : State} (h : twf (fun _ => ({} : Gddr7)) s.mem.devs = true) (i : Nat) (f : Gddr7 → Gddr7) :
    (s.updDev i f).dev i = f (s.dev i) := tget_tupd_self h i f
theorem State.path_updPath_ne (s : State) {i k : Nat} (f : PathRec → PathRec) (h : k ≠ i) : (s.updPath i f).path k = s.path k := tget_tupd_ne f _ h
theorem State.path_updPath_self {s : State} (h : twf (fun _ => ({} : PathRec)) s.mov.paths = true) (i : Nat) (f : PathRec → PathRec) :
    (s.updPath i f).path i = f (s.path i) := tget_tupd_self h i f
theorem State.service_updService_ne (s : State) {i k : Nat} (f : Service → Service) (h : k ≠ i) : (s.updService i f).service k = s.service k := tget_tupd_ne f _ h
theorem State.service_updService_self {s : State} (h : twf (fun _ => ({} : Service)) s.mov.service = true) (i : Nat) (f : Service → Service) :
    (s.updService i f).service i = f (s.service i) := tget_tupd_self h i f
theorem State.reflex_updReflex_ne (s : State) {i k : Nat} (f : Reflex → Reflex) (h : k ≠ i) : (s.updReflex i f).reflex k = s.reflex k := tget_tupd_ne f _ h
theorem State.reflex_updReflex_self {s : State} (h : twf (fun _ => ({} : Reflex)) s.mov.reflexes = true) (i : Nat) (f : Reflex → Reflex) :
    (s.updReflex i f).reflex i = f (s.reflex i) := tget_tupd_self h i f
theorem State.spIn_updSpIn_ne (s : State) {i k : Nat} (f : SpInput → SpInput) (h : k ≠ i) : (s.updSpIn i f).spIn k = s.spIn k := tget_tupd_ne f _ h
theorem State.spIn_updSpIn_self {s : State} (h : twf (fun _ => ({} : SpInput)) s.eng.inputs = true) (i : Nat) (f : SpInput → SpInput) :
    (s.updSpIn i f).spIn i = f (s.spIn i) := tget_tupd_self h i f
theorem State.chan_updChan_ne (s : State) {i k : Nat} (f : Channel → Channel) (h : k ≠ i) : (s.updChan i f).chan k = s.chan k := tget_tupd_ne f _ h
theorem State.chan_updChan_self {s : State} (h : twf (fun _ => ({} : Channel)) s.eng.channels = true) (i : Nat) (f : Channel → Channel) :
    (s.updChan i f).chan i = f (s.chan i) := tget_tupd_self h i f
theorem State.patch_updPatch_ne (s : State) {i k : Nat} (f : Patch → Patch) (h : k ≠ i) : (s.updPatch i f).patch k = s.patch k := tget_tupd_ne f _ h
theorem State.patch_updPatch_self {s : State} (h : twf (fun _ => ({} : Patch)) s.est.patches = true) (i : Nat) (f : Patch → Patch) :
    (s.updPatch i f).patch i = f (s.patch i) := tget_tupd_self h i f
theorem State.die_updDie_ne (s : State) {i k : Nat} (f : Die → Die) (h : k ≠ i) : (s.updDie i f).die k = s.die k := tget_tupd_ne f _ h
theorem State.die_updDie_self {s : State} (h : twf (fun _ => ({} : Die)) s.thm.dies = true) (i : Nat) (f : Die → Die) :
    (s.updDie i f).die i = f (s.die i) := tget_tupd_self h i f
theorem State.lane_updLane_ne (s : State) {p l q m : Nat} (f : Lane → Lane) (h : 16 * q + m ≠ 16 * p + l) :
    (s.updLane p l f).lane q m = s.lane q m := tget_tupd_ne f _ h
theorem State.lane_updLane_self {s : State} (h : twf (fun _ => ({} : Lane)) s.lanes = true) (p l : Nat) (f : Lane → Lane) :
    (s.updLane p l f).lane p l = f (s.lane p l) := tget_tupd_self h _ f
theorem State.readByte_writeByte_ne (s : State) {a k : Nat} (b : Byte) (h : k ≠ a) : (s.writeByte a b).readByte k = s.readByte k :=
  tget_tset_ne b _ h
theorem State.readByte_writeByte_self {s : State} (h : Memory.wf s.ram = true) (a : Nat) (b : Byte) : (s.writeByte a b).readByte a = b :=
  tget_tset_self h a b

end Sys2Proof.Machine
end

