-- ==== Sys2Proof/Laws/Svn.lean ====
section
/-! SUPPORT. No definition that changes the flash lowers the fused security version. -/
namespace Sys2Proof.Machine

theorem State.inTick_svn (f : State → State) (s : State) (hf : ∀ t, SvnKept t (f t)) : SvnKept s (State.inTick f s) := by
  unfold State.inTick
  extract_lets v1 v2
  refine (SameBut.hrt_porches_frame _ _ _).svnAfter (by decide) ?_
  refine (hf _).after ?_
  exact (SameBut.hrt_porches_frame _ _ _).svn (by decide)

theorem State.verdict_svn (s : State) (reason code : Nat) (solo : State → State) (hs : ∀ t, SvnKept t (solo t)) :
    SvnKept s (State.verdict s reason code solo) := by
  have hg : SvnKept s (s.guardEvent code) := ((State.guardEvent_frame _ _).svn (by decide))
  unfold State.verdict
  extract_lets v1
  have hk : SvnKept s (v1.guardState code) := hg.trans ((State.guardState_frame _ _).svn (by decide))
  split
  · exact hg.trans ((State.withdraw_frame _ _ _).svn (by decide))
  · exact hg.trans (hs _)
  · exact (hk.trans ((State.faultOn_frame _ _ _).svn (by decide))).trans ((State.giveUp_frame _ _).svn (by decide))
  · exact hk.trans ((State.faultOn_frame _ _ _).svn (by decide))
  · exact hk.trans ((State.faultOn_frame _ _ _).svn (by decide))

theorem State.updCup_svn (s : State) (c : Nat) (f : CupSlot → CupSlot) :
    SvnKept s (State.updCup s c f) := by
  unfold State.updCup
  extract_lets
  ((with_reducible refine SvnKept.flashAfter ?_ ?_); · first | exact Nat.le_refl _ | exact Nat.le_max_left _ _)
  with_reducible exact SvnKept.refl _

theorem State.saveCup_svn (s : State) :
    SvnKept s (State.saveCup s) := by
  unfold State.saveCup
  split
  with_reducible refine (State.updCup_svn _ _ _).after ?_
  with_reducible exact SvnKept.refl _
  with_reducible exact SvnKept.refl _

theorem State.migrate_svn (s : State) (old new : Nat) (fails : Bool) (schema : Nat) :
    SvnKept s (State.migrate s old new fails schema) := by
  unfold State.migrate
  extract_lets
  split
  with_reducible refine SvnKept.ite ?_ ?_
  with_reducible refine (SameBut.upd_frame _ _).svnAfter (by decide) ?_
  with_reducible refine (State.raise_frame _ _ _ _ _).svnAfter (by decide) ?_
  with_reducible refine (State.record_frame _ _ _ _ _).svnAfter (by decide) ?_
  with_reducible refine (State.updCup_svn _ _ _).after ?_
  with_reducible refine (State.updCup_svn _ _ _).after ?_
  with_reducible refine (State.saveCup_svn _).after ?_
  with_reducible exact SvnKept.refl _
  with_reducible refine (State.updCup_svn _ _ _).after ?_
  with_reducible refine (State.updCup_svn _ _ _).after ?_
  with_reducible refine (State.saveCup_svn _).after ?_
  with_reducible exact SvnKept.refl _
  with_reducible refine (State.saveCup_svn _).after ?_
  with_reducible exact SvnKept.refl _

theorem State.setFwSlot_svn (s : State) (i : Nat) (x : FwSlot) :
    SvnKept s (State.setFwSlot s i x) := by
  unfold State.setFwSlot
  extract_lets
  with_reducible refine SvnKept.ite ?_ ?_
  ((with_reducible refine SvnKept.flashAfter ?_ ?_); · first | exact Nat.le_refl _ | exact Nat.le_max_left _ _)
  with_reducible exact SvnKept.refl _
  ((with_reducible refine SvnKept.flashAfter ?_ ?_); · first | exact Nat.le_refl _ | exact Nat.le_max_left _ _)
  with_reducible exact SvnKept.refl _

theorem State.activateNow_svn (s : State) (cycles : Nat) (fails : Bool) (schema : Option Nat) :
    SvnKept s (State.activateNow s cycles fails schema) := by
  unfold State.activateNow
  extract_lets
  with_reducible refine SvnKept.ite ?_ ?_
  with_reducible refine (State.migrate_svn _ _ _ _ _).after ?_
  with_reducible refine (State.raise_frame _ _ _ _ _).svnAfter (by decide) ?_
  with_reducible refine (State.beginRestart_frame _ _).svnAfter (by decide) ?_
  ((with_reducible refine SvnKept.upd_flashAfter ?_ ?_); · first | exact Nat.le_refl _ | exact Nat.le_max_left _ _)
  with_reducible refine (State.setFwSlot_svn _ _ _).after ?_
  with_reducible exact SvnKept.refl _
  with_reducible exact SvnKept.refl _

theorem State.burnTick_svn (s : State) :
    SvnKept s (State.burnTick s) := by
  unfold State.burnTick
  extract_lets
  split
  with_reducible refine (State.raise_frame _ _ _ _ _).svnAfter (by decide) ?_
  ((with_reducible refine SvnKept.upd_flashAfter ?_ ?_); · first | exact Nat.le_refl _ | exact Nat.le_max_left _ _)
  with_reducible exact SvnKept.refl _
  with_reducible exact SvnKept.refl _

theorem State.endRestart_svn (s : State) :
    SvnKept s (State.endRestart s) := by
  unfold State.endRestart
  extract_lets
  with_reducible refine SvnKept.ite ?_ ?_
  with_reducible refine SvnKept.ite ?_ ?_
  with_reducible refine (State.recordFallback_frame _ _ _).svnAfter (by decide) ?_
  with_reducible refine (SameBut.upd_frame _ _).svnAfter (by decide) ?_
  with_reducible refine (State.setFwSlot_svn _ _ _).after ?_
  with_reducible refine SvnKept.foldl (fun _ _ => ?_) ?_ _
  with_reducible refine (State.doeAnswer_frame _ _ _).svnAfter (by decide) ?_
  with_reducible exact SvnKept.refl _
  with_reducible refine (SameBut.port_frame _ _).svnAfter (by decide) ?_
  with_reducible refine (SameBut.upd_frame _ _).svnAfter (by decide) ?_
  with_reducible refine (State.setBulk_frame _ _).svnAfter (by decide) ?_
  with_reducible exact SvnKept.refl _
  with_reducible refine SvnKept.ite ?_ ?_
  with_reducible refine (SameBut.upd_frame _ _).svnAfter (by decide) ?_
  with_reducible refine SvnKept.foldl (fun _ _ => ?_) ?_ _
  with_reducible refine (State.doeAnswer_frame _ _ _).svnAfter (by decide) ?_
  with_reducible exact SvnKept.refl _
  with_reducible refine (SameBut.port_frame _ _).svnAfter (by decide) ?_
  with_reducible refine (SameBut.upd_frame _ _).svnAfter (by decide) ?_
  with_reducible refine (State.setBulk_frame _ _).svnAfter (by decide) ?_
  with_reducible exact SvnKept.refl _
  with_reducible refine SvnKept.foldl (fun _ _ => ?_) ?_ _
  with_reducible refine (State.doeAnswer_frame _ _ _).svnAfter (by decide) ?_
  with_reducible exact SvnKept.refl _
  with_reducible refine (SameBut.port_frame _ _).svnAfter (by decide) ?_
  with_reducible refine (SameBut.upd_frame _ _).svnAfter (by decide) ?_
  with_reducible refine (State.setBulk_frame _ _).svnAfter (by decide) ?_
  with_reducible exact SvnKept.refl _
  with_reducible exact SvnKept.refl _

theorem State.restoreCup_svn (s : State) (new : Nat) :
    SvnKept s (State.restoreCup s new) := by
  unfold State.restoreCup
  extract_lets v1
  split
  with_reducible refine (State.loadCup_frame _ _).svnAfter (by decide) ?_
  with_reducible refine (State.updCup_svn _ _ _).after ?_
  extract_lets
  dsimp only [v1]
  split
  with_reducible refine (State.updCup_svn _ _ _).after ?_
  with_reducible exact SvnKept.refl _
  with_reducible exact SvnKept.refl _
  dsimp only [v1]
  split
  with_reducible refine (State.updCup_svn _ _ _).after ?_
  with_reducible exact SvnKept.refl _
  with_reducible exact SvnKept.refl _

theorem State.fallbackNow_svn (s : State) (cycles : Nat) :
    SvnKept s (State.fallbackNow s cycles) := by
  unfold State.fallbackNow
  extract_lets
  with_reducible refine SvnKept.ite ?_ ?_
  with_reducible refine (State.raise_frame _ _ _ _ _).svnAfter (by decide) ?_
  with_reducible refine (State.beginRestart_frame _ _).svnAfter (by decide) ?_
  with_reducible refine (State.restoreCup_svn _ _).after ?_
  ((with_reducible refine SvnKept.upd_flashAfter ?_ ?_); · first | exact Nat.le_refl _ | exact Nat.le_max_left _ _)
  with_reducible exact SvnKept.refl _
  with_reducible exact SvnKept.refl _

theorem State.keyTick_svn (s : State) :
    SvnKept s (State.keyTick s) := by
  unfold State.keyTick
  extract_lets
  split
  with_reducible refine SvnKept.ite ?_ ?_
  with_reducible refine (State.updResult_frame _ _ _).svnAfter (by decide) ?_
  with_reducible refine (State.saveCup_svn _).after ?_
  with_reducible refine (SameBut.upd_frame _ _).svnAfter (by decide) ?_
  with_reducible exact SvnKept.refl _
  with_reducible exact SvnKept.refl _
  with_reducible exact SvnKept.refl _

theorem State.takeConfirm_svn (s : State) :
    SvnKept s (State.takeConfirm s) := by
  unfold State.takeConfirm
  extract_lets v1 v2 v3 v4 v5 v6 v7 v8
  with_reducible refine SvnKept.ite ?_ ?_
  with_reducible refine (State.updResult_frame _ _ _).svnAfter (by decide) ?_
  with_reducible exact SvnKept.refl _
  with_reducible refine SvnKept.ite ?_ ?_
  with_reducible refine (State.updResult_frame _ _ _).svnAfter (by decide) ?_
  with_reducible exact SvnKept.refl _
  with_reducible refine SvnKept.ite ?_ ?_
  with_reducible refine (State.updResult_frame _ _ _).svnAfter (by decide) ?_
  with_reducible exact SvnKept.refl _
  with_reducible refine (State.raise_frame _ _ _ _ _).svnAfter (by decide) ?_
  with_reducible refine (State.updResult_frame _ _ _).svnAfter (by decide) ?_
  with_reducible refine (SameBut.upd_frame _ _).svnAfter (by decide) ?_
  extract_lets
  dsimp only [v8]
  split
  with_reducible refine (State.updCup_svn _ _ _).after ?_
  ((with_reducible refine SvnKept.flashAfter ?_ ?_); · first | exact Nat.le_refl _ | exact Nat.le_max_left _ _)
  with_reducible refine (State.setFwSlot_svn _ _ _).after ?_
  with_reducible refine (State.setFwSlot_svn _ _ _).after ?_
  with_reducible exact SvnKept.refl _
  ((with_reducible refine SvnKept.flashAfter ?_ ?_); · first | exact Nat.le_refl _ | exact Nat.le_max_left _ _)
  with_reducible refine (State.setFwSlot_svn _ _ _).after ?_
  with_reducible refine (State.setFwSlot_svn _ _ _).after ?_
  with_reducible exact SvnKept.refl _

theorem State.takeUpdCmd_svn (s : State) :
    SvnKept s (State.takeUpdCmd s) := by
  unfold State.takeUpdCmd
  extract_lets
  split
  with_reducible refine SvnKept.ite ?_ ?_
  with_reducible refine (State.updResult_frame _ _ _).svnAfter (by decide) ?_
  with_reducible refine (SameBut.ops_frame _ _).svnAfter (by decide) ?_
  with_reducible exact SvnKept.refl _
  extract_lets
  split
  with_reducible refine (State.takeStage_frame _ _).svnAfter (by decide) ?_
  with_reducible refine (SameBut.ops_frame _ _).svnAfter (by decide) ?_
  with_reducible exact SvnKept.refl _
  with_reducible refine (State.takeActivate_frame _ _).svnAfter (by decide) ?_
  with_reducible refine (SameBut.ops_frame _ _).svnAfter (by decide) ?_
  with_reducible exact SvnKept.refl _
  with_reducible refine (State.takeUpdCancel_frame _).svnAfter (by decide) ?_
  with_reducible refine (SameBut.ops_frame _ _).svnAfter (by decide) ?_
  with_reducible exact SvnKept.refl _
  with_reducible refine (State.takeConfirm_svn _).after ?_
  with_reducible refine (SameBut.ops_frame _ _).svnAfter (by decide) ?_
  with_reducible exact SvnKept.refl _
  with_reducible refine (State.takeFallback_frame _).svnAfter (by decide) ?_
  with_reducible refine (SameBut.ops_frame _ _).svnAfter (by decide) ?_
  with_reducible exact SvnKept.refl _
  with_reducible refine (State.takeKey_frame _ _).svnAfter (by decide) ?_
  with_reducible refine (SameBut.ops_frame _ _).svnAfter (by decide) ?_
  with_reducible exact SvnKept.refl _
  with_reducible refine (State.takeKey_frame _ _).svnAfter (by decide) ?_
  with_reducible refine (SameBut.ops_frame _ _).svnAfter (by decide) ?_
  with_reducible exact SvnKept.refl _
  with_reducible refine (SameBut.ops_frame _ _).svnAfter (by decide) ?_
  with_reducible exact SvnKept.refl _
  with_reducible refine (SameBut.ops_frame _ _).svnAfter (by decide) ?_
  with_reducible exact SvnKept.refl _

theorem State.updTick_svn (s : State) (cycles : Nat) :
    SvnKept s (State.updTick s cycles) := by
  unfold State.updTick
  extract_lets v1 v2 v3 v4 v5
  with_reducible refine (State.deferActivation_frame _).svnAfter (by decide) ?_
  with_reducible refine (State.loadSkipped_frame _).svnAfter (by decide) ?_
  with_reducible refine (State.takeTwinStage_frame _ _).svnAfter (by decide) ?_
  with_reducible refine (State.takeUpdCmd_svn _).after ?_
  with_reducible refine (State.stageTick_frame _).svnAfter (by decide) ?_
  with_reducible refine (State.keyTick_svn _).after ?_
  extract_lets
  dsimp only [v5]
  split
  with_reducible refine SvnKept.ite ?_ ?_
  with_reducible refine (State.beginFallback_frame _ _).svnAfter (by decide) ?_
  with_reducible refine (State.activateNow_svn _ _ _ _).after ?_
  with_reducible refine (State.fallbackNow_svn _ _).after ?_
  with_reducible refine (State.endWindow_frame _ _).svnAfter (by decide) ?_
  with_reducible refine SvnKept.ite ?_ ?_
  with_reducible refine (State.endRestart_svn _).after ?_
  with_reducible refine SvnKept.ite ?_ ?_
  with_reducible refine (State.retimeActivation_frame _).svnAfter (by decide) ?_
  with_reducible refine (State.burnTick_svn _).after ?_
  with_reducible exact SvnKept.refl _
  with_reducible refine (State.burnTick_svn _).after ?_
  with_reducible exact SvnKept.refl _
  with_reducible refine SvnKept.ite ?_ ?_
  with_reducible refine (State.retimeActivation_frame _).svnAfter (by decide) ?_
  with_reducible refine (State.burnTick_svn _).after ?_
  with_reducible exact SvnKept.refl _
  with_reducible refine (State.burnTick_svn _).after ?_
  with_reducible exact SvnKept.refl _
  with_reducible refine (State.activateNow_svn _ _ _ _).after ?_
  with_reducible refine (State.fallbackNow_svn _ _).after ?_
  with_reducible refine (State.endWindow_frame _ _).svnAfter (by decide) ?_
  with_reducible refine SvnKept.ite ?_ ?_
  with_reducible refine (State.endRestart_svn _).after ?_
  with_reducible refine SvnKept.ite ?_ ?_
  with_reducible refine (State.retimeActivation_frame _).svnAfter (by decide) ?_
  with_reducible refine (State.burnTick_svn _).after ?_
  with_reducible exact SvnKept.refl _
  with_reducible refine (State.burnTick_svn _).after ?_
  with_reducible exact SvnKept.refl _
  with_reducible refine SvnKept.ite ?_ ?_
  with_reducible refine (State.retimeActivation_frame _).svnAfter (by decide) ?_
  with_reducible refine (State.burnTick_svn _).after ?_
  with_reducible exact SvnKept.refl _
  with_reducible refine (State.burnTick_svn _).after ?_
  with_reducible exact SvnKept.refl _
  with_reducible refine (State.activateNow_svn _ _ _ _).after ?_
  with_reducible refine (State.fallbackNow_svn _ _).after ?_
  with_reducible refine (State.endWindow_frame _ _).svnAfter (by decide) ?_
  with_reducible refine SvnKept.ite ?_ ?_
  with_reducible refine (State.endRestart_svn _).after ?_
  with_reducible refine SvnKept.ite ?_ ?_
  with_reducible refine (State.retimeActivation_frame _).svnAfter (by decide) ?_
  with_reducible refine (State.burnTick_svn _).after ?_
  with_reducible exact SvnKept.refl _
  with_reducible refine (State.burnTick_svn _).after ?_
  with_reducible exact SvnKept.refl _
  with_reducible refine SvnKept.ite ?_ ?_
  with_reducible refine (State.retimeActivation_frame _).svnAfter (by decide) ?_
  with_reducible refine (State.burnTick_svn _).after ?_
  with_reducible exact SvnKept.refl _
  with_reducible refine (State.burnTick_svn _).after ?_
  with_reducible exact SvnKept.refl _

theorem State.atTick_svn (s : State) (x : TickIn) (from_ : Nat) :
    SvnKept s (State.atTick s x from_) := by
  unfold State.atTick
  extract_lets
  with_reducible refine (State.powerUpTick_frame _).svnAfter (by decide) ?_
  with_reducible refine (State.featTick_frame _).svnAfter (by decide) ?_
  with_reducible refine SvnKept.ite ?_ ?_
  with_reducible refine (State.passTick_frame _ _).svnAfter (by decide) ?_
  with_reducible refine (State.workTick_frame _ _).svnAfter (by decide) ?_
  with_reducible refine (State.loopTick_frame _ _).svnAfter (by decide) ?_
  with_reducible refine (State.freezeRest_frame _).svnAfter (by decide) ?_
  with_reducible refine (State.planTick_frame _).svnAfter (by decide) ?_
  with_reducible refine (State.takeOrders_frame _).svnAfter (by decide) ?_
  with_reducible refine (State.updTick_svn _ _).after ?_
  with_reducible refine (State.thermTick_frame _ _ _).svnAfter (by decide) ?_
  with_reducible refine (State.resetsTick_frame _).svnAfter (by decide) ?_
  with_reducible refine SvnKept.ite ?_ ?_
  with_reducible refine (State.offAndFreeze_frame _).svnAfter (by decide) ?_
  with_reducible refine (State.hearthTick_frame _).svnAfter (by decide) ?_
  with_reducible refine SvnKept.ite ?_ ?_
  with_reducible refine (State.linkTick_frame _).svnAfter (by decide) ?_
  with_reducible refine (State.configTick_frame _).svnAfter (by decide) ?_
  with_reducible exact SvnKept.refl _
  with_reducible refine (State.configTick_frame _).svnAfter (by decide) ?_
  with_reducible exact SvnKept.refl _
  with_reducible refine (State.hearthTick_frame _).svnAfter (by decide) ?_
  with_reducible refine SvnKept.ite ?_ ?_
  with_reducible refine (State.linkTick_frame _).svnAfter (by decide) ?_
  with_reducible refine (State.configTick_frame _).svnAfter (by decide) ?_
  with_reducible exact SvnKept.refl _
  with_reducible refine (State.configTick_frame _).svnAfter (by decide) ?_
  with_reducible exact SvnKept.refl _
  with_reducible refine (State.takeOrders_frame _).svnAfter (by decide) ?_
  with_reducible refine (State.updTick_svn _ _).after ?_
  with_reducible refine (State.thermTick_frame _ _ _).svnAfter (by decide) ?_
  with_reducible refine (State.resetsTick_frame _).svnAfter (by decide) ?_
  with_reducible refine SvnKept.ite ?_ ?_
  with_reducible refine (State.offAndFreeze_frame _).svnAfter (by decide) ?_
  with_reducible refine (State.hearthTick_frame _).svnAfter (by decide) ?_
  with_reducible refine SvnKept.ite ?_ ?_
  with_reducible refine (State.linkTick_frame _).svnAfter (by decide) ?_
  with_reducible refine (State.configTick_frame _).svnAfter (by decide) ?_
  with_reducible exact SvnKept.refl _
  with_reducible refine (State.configTick_frame _).svnAfter (by decide) ?_
  with_reducible exact SvnKept.refl _
  with_reducible refine (State.hearthTick_frame _).svnAfter (by decide) ?_
  with_reducible refine SvnKept.ite ?_ ?_
  with_reducible refine (State.linkTick_frame _).svnAfter (by decide) ?_
  with_reducible refine (State.configTick_frame _).svnAfter (by decide) ?_
  with_reducible exact SvnKept.refl _
  with_reducible refine (State.configTick_frame _).svnAfter (by decide) ?_
  with_reducible exact SvnKept.refl _

theorem State.bootCup_svn (s : State) :
    SvnKept s (State.bootCup s) := by
  unfold State.bootCup
  extract_lets v1 v2 v3
  with_reducible refine SvnKept.foldl (fun _ _ => ?_) ?_ _
  with_reducible refine (State.takeSpare_frame _ _ _).svnAfter (by decide) ?_
  with_reducible exact SvnKept.refl _
  with_reducible refine (SameBut.mem_frame _ _).svnAfter (by decide) ?_
  extract_lets
  dsimp only [v3]
  split
  with_reducible refine (SameBut.upd_frame _ _).svnAfter (by decide) ?_
  with_reducible exact SvnKept.refl _
  with_reducible refine (State.restoreCup_svn _ _).after ?_
  with_reducible exact SvnKept.refl _

theorem State.bootFallback_svn (s : State) :
    SvnKept s (State.bootFallback s) := by
  unfold State.bootFallback
  split
  with_reducible refine (State.recordFallback_frame _ _ _).svnAfter (by decide) ?_
  ((with_reducible refine SvnKept.upd_flashAfter ?_ ?_); · first | exact Nat.le_refl _ | exact Nat.le_max_left _ _)
  with_reducible refine (State.setFwSlot_svn _ _ _).after ?_
  with_reducible exact SvnKept.refl _
  with_reducible exact SvnKept.refl _

theorem State.trySlot_svn (s : State) (i : Nat) : SvnKept s (s.trySlot i).1 := by
  unfold State.trySlot
  extract_lets f
  split
  · exact SvnKept.refl _
  · exact (State.record_frame _ _ _ _ _).svnAfter (by decide) (State.setFwSlot_svn _ _ _)

theorem State.chooseSlot_svn (s : State) :
    SvnKept s (State.chooseSlot s) := by
  unfold State.chooseSlot
  extract_lets
  with_reducible refine SvnKept.ite ?_ ?_
  with_reducible refine (SameBut.att_upd_frame _ _ _).svnAfter (by decide) ?_
  with_reducible refine (State.trySlot_svn _ _).after ?_
  with_reducible exact SvnKept.refl _
  with_reducible refine SvnKept.ite ?_ ?_
  with_reducible refine (SameBut.att_upd_frame _ _ _).svnAfter (by decide) ?_
  with_reducible refine (State.trySlot_svn _ _).after ?_
  with_reducible refine (State.trySlot_svn _ _).after ?_
  with_reducible exact SvnKept.refl _
  with_reducible refine (State.faultOn_frame _ _ _).svnAfter (by decide) ?_
  with_reducible refine (State.raise_frame _ _ _ _ _).svnAfter (by decide) ?_
  with_reducible refine (SameBut.att_upd_frame _ _ _).svnAfter (by decide) ?_
  with_reducible refine (State.trySlot_svn _ _).after ?_
  with_reducible refine (State.trySlot_svn _ _).after ?_
  with_reducible exact SvnKept.refl _

theorem State.startBoot_svn (s : State) :
    SvnKept s (State.startBoot s) := by
  unfold State.startBoot
  extract_lets
  with_reducible refine (State.bootCup_svn _).after ?_
  with_reducible refine (State.chooseSlot_svn _).after ?_
  with_reducible refine (State.bootFallback_svn _).after ?_
  with_reducible refine (SameBut.boot_att_frame _ _ _).svnAfter (by decide) ?_
  with_reducible exact SvnKept.refl _

theorem State.wholeReset_svn (s : State) : SvnKept s (State.wholeReset s) := by
  show s.flash.fusedSvn ≤ s.fusedLeft
  unfold State.fusedLeft
  split
  · exact Nat.le_add_right _ _
  · exact Nat.le_refl _

theorem State.recoverTick_svn (s : State) :
    SvnKept s (State.recoverTick s) := by
  unfold State.recoverTick
  extract_lets
  with_reducible refine SvnKept.ite ?_ ?_
  with_reducible refine (State.startBoot_svn _).after ?_
  with_reducible refine (State.wholeReset_svn _).after ?_
  with_reducible refine (SameBut.upd_frame _ _).svnAfter (by decide) ?_
  with_reducible exact SvnKept.refl _
  with_reducible exact SvnKept.refl _

theorem State.writeSlot_svn (s : State) (b : Bundle) :
    SvnKept s (State.writeSlot s b) := by
  unfold State.writeSlot
  with_reducible refine (State.setFwSlot_svn _ _ _).after ?_
  with_reducible exact SvnKept.refl _

theorem execActivation_svn (migrationFails : Bool) (newSchema : BitVec 16) (s : State) :
    After SvnKept s (execActivation migrationFails newSchema s) := by
  unfold execActivation
  with_reducible refine After.next ?_
  with_reducible refine (State.activateNow_svn _ _ _ _).after ?_
  with_reducible exact SvnKept.refl _

theorem execFallbackTakeEffect_svn (s : State) :
    After SvnKept s (execFallbackTakeEffect s) := by
  unfold execFallbackTakeEffect
  with_reducible refine After.next ?_
  with_reducible refine (State.fallbackNow_svn _ _).after ?_
  with_reducible exact SvnKept.refl _

theorem execIodSupplyFault_svn (s : State) :
    After SvnKept s (execIodSupplyFault s) := by
  unfold execIodSupplyFault
  extract_lets
  with_reducible refine After.next ?_
  with_reducible refine (SameBut.boot_frame _ _).svnAfter (by decide) ?_
  with_reducible refine (State.wholeReset_svn _).after ?_
  with_reducible exact SvnKept.refl _

theorem execIodSupplyReturn_svn (s : State) :
    After SvnKept s (execIodSupplyReturn s) := by
  unfold execIodSupplyReturn
  extract_lets
  with_reducible refine After.ite ?_ ?_
  with_reducible refine After.next ?_
  with_reducible refine SvnKept.ite ?_ ?_
  with_reducible refine (State.startBoot_svn _).after ?_
  with_reducible refine (SameBut.boot_frame _ _).svnAfter (by decide) ?_
  with_reducible exact SvnKept.refl _
  with_reducible refine (SameBut.boot_frame _ _).svnAfter (by decide) ?_
  with_reducible exact SvnKept.refl _
  with_reducible refine After.next ?_
  with_reducible exact SvnKept.refl _

theorem execPorAssert_svn (s : State) :
    After SvnKept s (execPorAssert s) := by
  unfold execPorAssert
  extract_lets
  with_reducible refine After.next ?_
  with_reducible refine (SameBut.pins_frame _ _).svnAfter (by decide) ?_
  with_reducible refine (State.wholeReset_svn _).after ?_
  with_reducible exact SvnKept.refl _

theorem execPorDeassert_svn (s : State) :
    After SvnKept s (execPorDeassert s) := by
  unfold execPorDeassert
  extract_lets
  with_reducible refine After.ite ?_ ?_
  with_reducible refine After.next ?_
  with_reducible refine (SameBut.pins_frame _ _).svnAfter (by decide) ?_
  with_reducible exact SvnKept.refl _
  with_reducible refine After.next ?_
  with_reducible refine (State.startBoot_svn _).after ?_
  with_reducible refine (SameBut.pins_frame _ _).svnAfter (by decide) ?_
  with_reducible exact SvnKept.refl _

theorem execRestartEnd_svn (s : State) :
    After SvnKept s (execRestartEnd s) := by
  unfold execRestartEnd
  with_reducible refine After.next ?_
  with_reducible refine (State.endRestart_svn _).after ?_
  with_reducible exact SvnKept.refl _

theorem execStagingDone_svn (flashOk : Bool) (s : State) :
    After SvnKept s (execStagingDone flashOk s) := by
  unfold execStagingDone
  extract_lets
  with_reducible refine After.ite ?_ ?_
  with_reducible refine After.next ?_
  with_reducible exact SvnKept.refl _
  extract_lets
  split
  split
  with_reducible refine After.next ?_
  with_reducible refine (State.endStaging_frame _ _ _).svnAfter (by decide) ?_
  with_reducible exact SvnKept.refl _
  with_reducible refine After.next ?_
  with_reducible exact SvnKept.refl _
  split
  with_reducible refine After.next ?_
  with_reducible refine (State.endStaging_frame _ _ _).svnAfter (by decide) ?_
  with_reducible refine (State.forwardBundle_frame _).svnAfter (by decide) ?_
  with_reducible exact SvnKept.refl _
  with_reducible refine After.ite ?_ ?_
  with_reducible refine After.next ?_
  with_reducible refine (State.endStaging_frame _ _ _).svnAfter (by decide) ?_
  with_reducible refine (State.forwardBundle_frame _).svnAfter (by decide) ?_
  with_reducible exact SvnKept.refl _
  with_reducible refine After.next ?_
  with_reducible refine SvnKept.ite ?_ ?_
  with_reducible refine (State.endStaging_frame _ _ _).svnAfter (by decide) ?_
  with_reducible refine (State.relayHeads_frame _ _).svnAfter (by decide) ?_
  with_reducible refine (State.writeSlot_svn _ _).after ?_
  with_reducible refine (SameBut.upd_frame _ _).svnAfter (by decide) ?_
  with_reducible refine (State.forwardBundle_frame _).svnAfter (by decide) ?_
  with_reducible exact SvnKept.refl _
  with_reducible refine (State.relayHeads_frame _ _).svnAfter (by decide) ?_
  with_reducible refine (State.writeSlot_svn _ _).after ?_
  with_reducible refine (SameBut.upd_frame _ _).svnAfter (by decide) ?_
  with_reducible refine (State.forwardBundle_frame _).svnAfter (by decide) ?_
  with_reducible exact SvnKept.refl _

theorem execTick_svn (x : TickIn) (s : State) :
    After SvnKept s (execTick x s) := by
  unfold execTick
  with_reducible refine After.ite ?_ ?_
  with_reducible refine After.next ?_
  with_reducible exact SvnKept.refl _
  with_reducible refine After.next ?_
  with_reducible refine (State.recoverTick_svn _).after ?_
  with_reducible refine (State.beginFrame_frame _).svnAfter (by decide) ?_
  with_reducible refine (State.atTick_svn _ _ _).after ?_
  with_reducible refine (State.stopTick_frame _).svnAfter (by decide) ?_
  with_reducible refine (State.advance_frame _ _).svnAfter (by decide) ?_
  with_reducible refine (State.stepEpoch_frame _).svnAfter (by decide) ?_
  with_reducible refine (State.keepTime_frame _).svnAfter (by decide) ?_
  with_reducible refine (State.closeFrame_frame _ _).svnAfter (by decide) ?_
  with_reducible exact SvnKept.refl _

theorem execTickZero_svn (s : State) :
    After SvnKept s (execTickZero s) := by
  unfold execTickZero
  with_reducible refine After.ite ?_ ?_
  with_reducible refine After.next ?_
  with_reducible refine (State.recoverTick_svn _).after ?_
  with_reducible refine (State.beginFrame_frame _).svnAfter (by decide) ?_
  with_reducible refine (State.atTick_svn _ _ _).after ?_
  with_reducible refine (State.hearthStart_frame _).svnAfter (by decide) ?_
  with_reducible exact SvnKept.refl _
  with_reducible refine After.next ?_
  with_reducible exact SvnKept.refl _

end Sys2Proof.Machine
end

