-- ==== Sys2Proof/Laws/Time.lean ====
section
/-! SUPPORT. Every definition that changes the Hearth keeps the time, but for the tick itself. -/
namespace Sys2Proof.Machine

theorem State.loopOverrun_time (s : State) (l : Nat) :
    TimeKept s (State.loopOverrun s l) := by
  unfold State.loopOverrun
  extract_lets
  with_reducible refine TimeKept.ite ?_ ?_
  with_reducible exact TimeKept.refl _
  with_reducible refine (State.setField_frame _ _ _ _ _).timeAfter (by decide) ?_
  ((with_reducible refine TimeKept.hrtAfter ?_ ?_); · exact ⟨rfl, rfl, rfl, rfl, rfl, rfl⟩)
  with_reducible refine (State.count_frame _ _ _ _ _).timeAfter (by decide) ?_
  with_reducible refine (State.updLoop_frame _ _ _).timeAfter (by decide) ?_
  with_reducible exact TimeKept.refl _

theorem State.closeCell_time (s : State) (p : Nat) (inTime : Bool) :
    TimeKept s (State.closeCell s p inTime) := by
  unfold State.closeCell
  extract_lets
  with_reducible refine TimeKept.ite ?_ ?_
  with_reducible refine (State.updPorch_frame _ _ _).timeAfter (by decide) ?_
  with_reducible exact TimeKept.refl _
  with_reducible refine TimeKept.ite ?_ ?_
  with_reducible refine TimeKept.foldl (fun _ _ => ?_) ?_ _
  with_reducible refine (State.commandLeft_frame _ _).timeAfter (by decide) ?_
  with_reducible exact TimeKept.refl _
  with_reducible refine TimeKept.ite ?_ ?_
  with_reducible refine (State.sendAll_frame _ _ _ _).timeAfter (by decide) ?_
  with_reducible refine TimeKept.ite ?_ ?_
  with_reducible refine (State.sendAll_frame _ _ _ _).timeAfter (by decide) ?_
  with_reducible refine (State.send_frame _ _ _ _).timeAfter (by decide) ?_
  with_reducible refine (State.updPorch_frame _ _ _).timeAfter (by decide) ?_
  with_reducible exact TimeKept.refl _
  with_reducible refine (State.send_frame _ _ _ _).timeAfter (by decide) ?_
  with_reducible refine (State.updPorch_frame _ _ _).timeAfter (by decide) ?_
  with_reducible exact TimeKept.refl _
  with_reducible refine TimeKept.ite ?_ ?_
  with_reducible refine (State.sendAll_frame _ _ _ _).timeAfter (by decide) ?_
  with_reducible refine (State.send_frame _ _ _ _).timeAfter (by decide) ?_
  with_reducible refine (State.updPorch_frame _ _ _).timeAfter (by decide) ?_
  with_reducible exact TimeKept.refl _
  with_reducible refine (State.send_frame _ _ _ _).timeAfter (by decide) ?_
  with_reducible refine (State.updPorch_frame _ _ _).timeAfter (by decide) ?_
  with_reducible exact TimeKept.refl _
  with_reducible refine TimeKept.foldl (fun _ _ => ?_) ?_ _
  with_reducible refine (State.updLoop_frame _ _ _).timeAfter (by decide) ?_
  with_reducible refine (State.overrunState_frame _ _).timeAfter (by decide) ?_
  with_reducible refine (State.loopOverrun_time _ _).after ?_
  with_reducible exact TimeKept.refl _
  with_reducible refine (State.count_frame _ _ _ _ _).timeAfter (by decide) ?_
  with_reducible refine (State.updPorch_frame _ _ _).timeAfter (by decide) ?_
  with_reducible exact TimeKept.refl _

theorem State.addCommand_time (s : State) (l : Nat) (u : Int) :
    TimeKept s (State.addCommand s l u) := by
  unfold State.addCommand
  extract_lets
  split
  with_reducible refine TimeKept.ite ?_ ?_
  with_reducible refine TimeKept.ite ?_ ?_
  with_reducible refine (State.closeCell_time _ _ _).after ?_
  with_reducible refine (State.updPorch_frame _ _ _).timeAfter (by decide) ?_
  with_reducible refine (State.updLoop_frame _ _ _).timeAfter (by decide) ?_
  with_reducible exact TimeKept.refl _
  with_reducible refine (State.updPorch_frame _ _ _).timeAfter (by decide) ?_
  with_reducible refine (State.updLoop_frame _ _ _).timeAfter (by decide) ?_
  with_reducible exact TimeKept.refl _
  with_reducible refine (State.updLoop_frame _ _ _).timeAfter (by decide) ?_
  with_reducible exact TimeKept.refl _
  with_reducible exact TimeKept.refl _

theorem State.inTick_time (f : State → State) (s : State) (hf : ∀ t, TimeKept t (f t)) : TimeKept s (State.inTick f s) := by
  unfold State.inTick
  extract_lets v1 v2 v3
  have h := hf { s with
    hrt := { s.hrt with frame := s.nextTick, adopt := none, guardNow := s.hrt.guardNext }
    porches := tmap (fun _ => {}) (fun _ q => { q with sent := [] }) s.porches }
  exact ⟨h.1, rfl, h.2.2.1, h.2.2.2.1, h.2.2.2.2.1, rfl⟩

theorem State.askBatch_time (s : State) (b : Nat) :
    TimeKept s (State.askBatch s b) := by
  unfold State.askBatch
  with_reducible refine (State.inTick_time _ _ (fun _ => ?_)).after ?_
  with_reducible refine (State.sendAll_frame _ _ _ _).timeAfter (by decide) ?_
  with_reducible exact TimeKept.refl _
  with_reducible exact TimeKept.refl _

theorem State.askHeadNext_time (s : State) (op len tick p : Nat) :
    TimeKept s (State.askHeadNext s op len tick p) := by
  unfold State.askHeadNext
  with_reducible refine (State.inTick_time _ _ (fun _ => ?_)).after ?_
  with_reducible refine (State.askHead_frame _ _ _ _ _).timeAfter (by decide) ?_
  with_reducible exact TimeKept.refl _
  with_reducible exact TimeKept.refl _

theorem State.toLock_time (s : State) (l : Lock) :
    TimeKept s (State.toLock s l) := by
  unfold State.toLock
  extract_lets
  ((with_reducible refine TimeKept.hrtAfter ?_ ?_); · exact ⟨rfl, rfl, rfl, rfl, rfl, rfl⟩)
  with_reducible refine TimeKept.ite ?_ ?_
  with_reducible refine (State.raise_frame _ _ _ _ _).timeAfter (by decide) ?_
  with_reducible refine TimeKept.ite ?_ ?_
  with_reducible refine (State.raise_frame _ _ _ _ _).timeAfter (by decide) ?_
  with_reducible exact TimeKept.refl _
  with_reducible exact TimeKept.refl _
  with_reducible refine TimeKept.ite ?_ ?_
  with_reducible refine (State.raise_frame _ _ _ _ _).timeAfter (by decide) ?_
  with_reducible exact TimeKept.refl _
  with_reducible exact TimeKept.refl _

theorem State.loseReference_time (s : State) :
    TimeKept s (State.loseReference s) := by
  unfold State.loseReference
  with_reducible refine TimeKept.ite ?_ ?_
  extract_lets
  split
  with_reducible refine (State.toLock_time _ _).after ?_
  with_reducible exact TimeKept.refl _
  with_reducible refine (State.toLock_time _ _).after ?_
  with_reducible exact TimeKept.refl _
  with_reducible exact TimeKept.refl _
  with_reducible exact TimeKept.refl _

theorem State.toAcquire_time (s : State) :
    TimeKept s (State.toAcquire s) := by
  unfold State.toAcquire
  extract_lets
  ((with_reducible refine TimeKept.hrtAfter ?_ ?_); · exact ⟨rfl, rfl, rfl, rfl, rfl, rfl⟩)
  with_reducible refine (State.toLock_time _ _).after ?_
  with_reducible exact TimeKept.refl _

theorem State.lockTick_time (s : State) :
    TimeKept s (State.lockTick s) := by
  unfold State.lockTick
  extract_lets
  ((with_reducible refine TimeKept.hrtAfter ?_ ?_); · exact ⟨rfl, rfl, rfl, rfl, rfl, rfl⟩)
  with_reducible refine TimeKept.ite ?_ ?_
  with_reducible refine TimeKept.ite ?_ ?_
  with_reducible exact TimeKept.refl _
  with_reducible refine (State.toLock_time _ _).after ?_
  with_reducible exact TimeKept.refl _
  extract_lets
  split
  with_reducible refine (State.toAcquire_time _).after ?_
  with_reducible exact TimeKept.refl _
  with_reducible refine TimeKept.ite ?_ ?_
  with_reducible exact TimeKept.refl _
  with_reducible refine (State.toAcquire_time _).after ?_
  with_reducible exact TimeKept.refl _
  with_reducible refine TimeKept.ite ?_ ?_
  with_reducible refine (State.toLock_time _ _).after ?_
  with_reducible exact TimeKept.refl _
  with_reducible refine (State.toAcquire_time _).after ?_
  with_reducible exact TimeKept.refl _
  with_reducible refine TimeKept.ite ?_ ?_
  with_reducible refine (State.toLock_time _ _).after ?_
  with_reducible exact TimeKept.refl _
  with_reducible refine (State.loseReference_time _).after ?_
  with_reducible exact TimeKept.refl _
  with_reducible refine (State.loseReference_time _).after ?_
  with_reducible exact TimeKept.refl _

theorem State.takeArm_time (s : State) :
    TimeKept s (State.takeArm s) := by
  unfold State.takeArm
  extract_lets
  with_reducible refine TimeKept.ite ?_ ?_
  with_reducible refine TimeKept.ite ?_ ?_
  with_reducible refine (State.raise_frame _ _ _ _ _).timeAfter (by decide) ?_
  with_reducible refine (State.epochResult_frame _ _).timeAfter (by decide) ?_
  with_reducible refine (SameBut.ops_frame _ _).timeAfter (by decide) ?_
  with_reducible exact TimeKept.refl _
  with_reducible refine TimeKept.ite ?_ ?_
  with_reducible refine (State.raise_frame _ _ _ _ _).timeAfter (by decide) ?_
  with_reducible refine (State.epochResult_frame _ _).timeAfter (by decide) ?_
  with_reducible refine (SameBut.ops_frame _ _).timeAfter (by decide) ?_
  with_reducible exact TimeKept.refl _
  with_reducible refine TimeKept.ite ?_ ?_
  with_reducible refine (State.raise_frame _ _ _ _ _).timeAfter (by decide) ?_
  with_reducible refine (State.epochResult_frame _ _).timeAfter (by decide) ?_
  with_reducible refine (SameBut.ops_frame _ _).timeAfter (by decide) ?_
  with_reducible exact TimeKept.refl _
  with_reducible refine (State.epochResult_frame _ _).timeAfter (by decide) ?_
  ((with_reducible refine TimeKept.hrtAfter ?_ ?_); · exact ⟨rfl, rfl, rfl, rfl, rfl, rfl⟩)
  with_reducible refine (SameBut.ops_frame _ _).timeAfter (by decide) ?_
  with_reducible exact TimeKept.refl _
  with_reducible exact TimeKept.refl _

theorem State.hearthTick_time (s : State) :
    TimeKept s (State.hearthTick s) := by
  unfold State.hearthTick
  with_reducible refine (State.takeArm_time _).after ?_
  with_reducible refine (State.lockTick_time _).after ?_
  with_reducible exact TimeKept.refl _

theorem State.guardEvent_time (s : State) (code : Nat) :
    TimeKept s (State.guardEvent s code) := by
  unfold State.guardEvent
  extract_lets
  with_reducible refine (State.freeTick_frame _).timeAfter (by decide) ?_
  with_reducible refine (State.maxField_frame _ _ _ _ _).timeAfter (by decide) ?_
  with_reducible refine (State.setField_frame _ _ _ _ _).timeAfter (by decide) ?_
  with_reducible refine (State.count_frame _ _ _ _ _).timeAfter (by decide) ?_
  ((with_reducible refine TimeKept.hrtAfter ?_ ?_); · exact ⟨rfl, rfl, rfl, rfl, rfl, rfl⟩)
  with_reducible exact TimeKept.refl _

theorem State.verdict_time (s : State) (reason code : Nat) (solo : State → State) (hs : ∀ t, TimeKept t (solo t)) :
    TimeKept s (State.verdict s reason code solo) := by
  have hg : TimeKept s (s.guardEvent code) := (State.guardEvent_time _ _)
  unfold State.verdict
  extract_lets v1
  have hk : TimeKept s (v1.guardState code) := hg.trans ((State.guardState_frame _ _).time (by decide))
  split
  · exact hg.trans ((State.withdraw_frame _ _ _).time (by decide))
  · exact hg.trans (hs _)
  · exact (hk.trans ((State.faultOn_frame _ _ _).time (by decide))).trans ((State.giveUp_frame _ _).time (by decide))
  · exact hk.trans ((State.faultOn_frame _ _ _).time (by decide))
  · exact hk.trans ((State.faultOn_frame _ _ _).time (by decide))

theorem State.lossFollows_time (s : State) (p : Nat) :
    TimeKept s (State.lossFollows s p) := by
  unfold State.lossFollows
  extract_lets
  with_reducible refine TimeKept.ite ?_ ?_
  with_reducible refine (State.raise_frame _ _ _ _ _).timeAfter (by decide) ?_
  with_reducible exact TimeKept.refl _
  with_reducible refine TimeKept.ite ?_ ?_
  with_reducible refine (State.verdict_time _ _ _ _ (fun _ => ?_)).after ?_
  with_reducible exact TimeKept.refl _
  with_reducible refine (SameBut.twn_frame _ _).timeAfter (by decide) ?_
  with_reducible exact TimeKept.refl _
  with_reducible refine TimeKept.ite ?_ ?_
  with_reducible refine (State.freezeWhere_frame _ _ _).timeAfter (by decide) ?_
  with_reducible exact TimeKept.refl _
  with_reducible exact TimeKept.refl _

theorem State.losePorch_time (s : State) (p : Nat) :
    TimeKept s (State.losePorch s p) := by
  unfold State.losePorch
  extract_lets
  with_reducible refine TimeKept.ite ?_ ?_
  with_reducible exact TimeKept.refl _
  with_reducible refine (State.inTick_time _ _ (fun _ => ?_)).after ?_
  with_reducible refine TimeKept.ite ?_ ?_
  with_reducible exact TimeKept.refl _
  with_reducible refine (State.lossFollows_time _ _).after ?_
  with_reducible refine (State.record_frame _ _ _ _ _).timeAfter (by decide) ?_
  with_reducible refine (State.raise_frame _ _ _ _ _).timeAfter (by decide) ?_
  with_reducible exact TimeKept.refl _
  with_reducible refine (State.updPorch_frame _ _ _).timeAfter (by decide) ?_
  with_reducible exact TimeKept.refl _

theorem State.porchTick_time (s : State) (p : Nat) :
    TimeKept s (State.porchTick s p) := by
  unfold State.porchTick
  extract_lets
  with_reducible refine (State.updPorch_frame _ _ _).timeAfter (by decide) ?_
  with_reducible refine TimeKept.ite ?_ ?_
  with_reducible refine (State.becomeReady_frame _ _).timeAfter (by decide) ?_
  with_reducible refine TimeKept.ite ?_ ?_
  with_reducible refine (State.toDiscovery_frame _ _).timeAfter (by decide) ?_
  with_reducible refine (State.losePorch_time _ _).after ?_
  with_reducible exact TimeKept.refl _
  with_reducible refine (State.losePorch_time _ _).after ?_
  with_reducible exact TimeKept.refl _
  with_reducible refine TimeKept.ite ?_ ?_
  with_reducible refine (State.toDiscovery_frame _ _).timeAfter (by decide) ?_
  with_reducible refine (State.losePorch_time _ _).after ?_
  with_reducible exact TimeKept.refl _
  with_reducible refine (State.losePorch_time _ _).after ?_
  with_reducible exact TimeKept.refl _

theorem State.retractClaim_time (s : State) (c : Claim) :
    TimeKept s (State.retractClaim s c) := by
  unfold State.retractClaim
  extract_lets
  with_reducible refine TimeKept.ite ?_ ?_
  with_reducible refine (State.raise_frame _ _ _ _ _).timeAfter (by decide) ?_
  with_reducible refine (State.raise_frame _ _ _ _ _).timeAfter (by decide) ?_
  with_reducible refine (SameBut.twn_frame _ _).timeAfter (by decide) ?_
  with_reducible refine TimeKept.ite ?_ ?_
  with_reducible refine (State.inTick_time _ _ (fun _ => ?_)).after ?_
  with_reducible refine (State.sendAll_frame _ _ _ _).timeAfter (by decide) ?_
  with_reducible exact TimeKept.refl _
  with_reducible exact TimeKept.refl _
  with_reducible exact TimeKept.refl _
  with_reducible refine (State.raise_frame _ _ _ _ _).timeAfter (by decide) ?_
  with_reducible refine (SameBut.twn_frame _ _).timeAfter (by decide) ?_
  with_reducible refine TimeKept.ite ?_ ?_
  with_reducible refine (State.inTick_time _ _ (fun _ => ?_)).after ?_
  with_reducible refine (State.sendAll_frame _ _ _ _).timeAfter (by decide) ?_
  with_reducible exact TimeKept.refl _
  with_reducible exact TimeKept.refl _
  with_reducible exact TimeKept.refl _

theorem State.decideClaim_time (s : State) :
    TimeKept s (State.decideClaim s) := by
  unfold State.decideClaim
  split
  with_reducible refine TimeKept.ite ?_ ?_
  with_reducible refine TimeKept.ite ?_ ?_
  with_reducible refine (State.winClaim_frame _ _).timeAfter (by decide) ?_
  with_reducible exact TimeKept.refl _
  with_reducible refine (State.retractClaim_time _ _).after ?_
  with_reducible exact TimeKept.refl _
  with_reducible exact TimeKept.refl _
  with_reducible exact TimeKept.refl _

theorem State.resyncTick_time (s : State) :
    TimeKept s (State.resyncTick s) := by
  unfold State.resyncTick
  extract_lets
  split
  with_reducible exact TimeKept.refl _
  with_reducible refine TimeKept.ite ?_ ?_
  with_reducible refine (SameBut.twn_frame _ _).timeAfter (by decide) ?_
  with_reducible exact TimeKept.refl _
  with_reducible refine TimeKept.ite ?_ ?_
  with_reducible refine (State.raiseTo_frame _ _ _ _ _ _).timeAfter (by decide) ?_
  with_reducible refine (State.raise_frame _ _ _ _ _).timeAfter (by decide) ?_
  with_reducible refine (SameBut.twn_frame _ _).timeAfter (by decide) ?_
  with_reducible refine (SameBut.twn_frame _ _).timeAfter (by decide) ?_
  with_reducible refine TimeKept.foldl (fun _ _ => ?_) ?_ _
  with_reducible refine (State.installTable_frame _ _ _).timeAfter (by decide) ?_
  with_reducible exact TimeKept.refl _
  with_reducible refine TimeKept.foldl (fun _ _ => ?_) ?_ _
  with_reducible refine (State.installBatch_frame _ _ _).timeAfter (by decide) ?_
  with_reducible exact TimeKept.refl _
  with_reducible exact TimeKept.refl _
  with_reducible refine TimeKept.ite ?_ ?_
  with_reducible refine (State.askBatch_time _ _).after ?_
  with_reducible refine (SameBut.twn_frame _ _).timeAfter (by decide) ?_
  with_reducible refine TimeKept.foldl (fun _ _ => ?_) ?_ _
  with_reducible refine (State.installTable_frame _ _ _).timeAfter (by decide) ?_
  with_reducible exact TimeKept.refl _
  with_reducible refine TimeKept.foldl (fun _ _ => ?_) ?_ _
  with_reducible refine (State.installBatch_frame _ _ _).timeAfter (by decide) ?_
  with_reducible exact TimeKept.refl _
  with_reducible exact TimeKept.refl _
  with_reducible refine (SameBut.twn_frame _ _).timeAfter (by decide) ?_
  with_reducible refine TimeKept.foldl (fun _ _ => ?_) ?_ _
  with_reducible refine (State.installTable_frame _ _ _).timeAfter (by decide) ?_
  with_reducible exact TimeKept.refl _
  with_reducible refine TimeKept.foldl (fun _ _ => ?_) ?_ _
  with_reducible refine (State.installBatch_frame _ _ _).timeAfter (by decide) ?_
  with_reducible exact TimeKept.refl _
  with_reducible exact TimeKept.refl _

theorem State.startResync_time (s : State) :
    TimeKept s (State.startResync s) := by
  unfold State.startResync
  extract_lets
  with_reducible refine TimeKept.ite ?_ ?_
  with_reducible refine (State.askBatch_time _ _).after ?_
  with_reducible refine (SameBut.twn_frame _ _).timeAfter (by decide) ?_
  with_reducible exact TimeKept.refl _
  with_reducible exact TimeKept.refl _

theorem State.roleTick_time (s : State) :
    TimeKept s (State.roleTick s) := by
  unfold State.roleTick
  extract_lets
  with_reducible refine (SameBut.twn_frame _ _).timeAfter (by decide) ?_
  with_reducible refine TimeKept.ite ?_ ?_
  with_reducible refine (State.raise_frame _ _ _ _ _).timeAfter (by decide) ?_
  with_reducible refine (SameBut.twn_frame _ _).timeAfter (by decide) ?_
  with_reducible refine (State.startResync_time _).after ?_
  with_reducible refine (State.resyncTick_time _).after ?_
  with_reducible refine (State.takeRejoin_frame _).timeAfter (by decide) ?_
  with_reducible refine TimeKept.ite ?_ ?_
  with_reducible refine (State.setRole_frame _ _).timeAfter (by decide) ?_
  with_reducible refine (State.decideClaim_time _).after ?_
  with_reducible refine (State.takeWithdrawal_frame _).timeAfter (by decide) ?_
  with_reducible refine (State.heartbeatTick_frame _).timeAfter (by decide) ?_
  with_reducible exact TimeKept.refl _
  with_reducible refine (State.decideClaim_time _).after ?_
  with_reducible refine (State.takeWithdrawal_frame _).timeAfter (by decide) ?_
  with_reducible refine (State.heartbeatTick_frame _).timeAfter (by decide) ?_
  with_reducible exact TimeKept.refl _
  with_reducible refine (State.startResync_time _).after ?_
  with_reducible refine (State.resyncTick_time _).after ?_
  with_reducible refine (State.takeRejoin_frame _).timeAfter (by decide) ?_
  with_reducible refine TimeKept.ite ?_ ?_
  with_reducible refine (State.setRole_frame _ _).timeAfter (by decide) ?_
  with_reducible refine (State.decideClaim_time _).after ?_
  with_reducible refine (State.takeWithdrawal_frame _).timeAfter (by decide) ?_
  with_reducible refine (State.heartbeatTick_frame _).timeAfter (by decide) ?_
  with_reducible exact TimeKept.refl _
  with_reducible refine (State.decideClaim_time _).after ?_
  with_reducible refine (State.takeWithdrawal_frame _).timeAfter (by decide) ?_
  with_reducible refine (State.heartbeatTick_frame _).timeAfter (by decide) ?_
  with_reducible exact TimeKept.refl _

theorem State.noVariant_time (s : State) :
    TimeKept s (State.noVariant s) := by
  unfold State.noVariant
  extract_lets
  split
  with_reducible refine (State.inTick_time _ _ (fun _ => ?_)).after ?_
  with_reducible refine (State.verdict_time _ _ _ _ (fun _ => ?_)).after ?_
  with_reducible refine (State.record_frame _ _ _ _ _).timeAfter (by decide) ?_
  with_reducible refine (State.faultOn_frame _ _ _).timeAfter (by decide) ?_
  with_reducible refine (SameBut.plan_frame _ _).timeAfter (by decide) ?_
  with_reducible exact TimeKept.refl _
  with_reducible exact TimeKept.refl _
  with_reducible exact TimeKept.refl _
  with_reducible refine (State.inTick_time _ _ (fun _ => ?_)).after ?_
  with_reducible refine (State.verdict_time _ _ _ _ (fun _ => ?_)).after ?_
  with_reducible refine (State.record_frame _ _ _ _ _).timeAfter (by decide) ?_
  with_reducible refine (State.faultOn_frame _ _ _).timeAfter (by decide) ?_
  with_reducible refine (SameBut.plan_frame _ _).timeAfter (by decide) ?_
  with_reducible exact TimeKept.refl _
  with_reducible exact TimeKept.refl _
  with_reducible exact TimeKept.refl _
  with_reducible refine (State.inTick_time _ _ (fun _ => ?_)).after ?_
  with_reducible refine (State.verdict_time _ _ _ _ (fun _ => ?_)).after ?_
  with_reducible refine (State.record_frame _ _ _ _ _).timeAfter (by decide) ?_
  with_reducible refine (State.faultOn_frame _ _ _).timeAfter (by decide) ?_
  with_reducible refine (SameBut.plan_frame _ _).timeAfter (by decide) ?_
  with_reducible exact TimeKept.refl _
  with_reducible exact TimeKept.refl _
  with_reducible exact TimeKept.refl _
  with_reducible exact TimeKept.refl _
  with_reducible exact TimeKept.refl _

theorem State.selectPlacement_time (s : State) :
    TimeKept s (State.selectPlacement s) := by
  unfold State.selectPlacement
  extract_lets
  with_reducible refine TimeKept.ite ?_ ?_
  with_reducible refine TimeKept.ite ?_ ?_
  with_reducible refine (SameBut.plan_frame _ _).timeAfter (by decide) ?_
  with_reducible refine (State.switchVariant_frame _).timeAfter (by decide) ?_
  with_reducible exact TimeKept.refl _
  extract_lets
  split
  with_reducible refine TimeKept.ite ?_ ?_
  with_reducible refine (SameBut.plan_frame _ _).timeAfter (by decide) ?_
  with_reducible refine (State.switchVariant_frame _).timeAfter (by decide) ?_
  with_reducible exact TimeKept.refl _
  with_reducible refine (SameBut.plan_frame _ _).timeAfter (by decide) ?_
  with_reducible refine (SameBut.plan_frame _ _).timeAfter (by decide) ?_
  with_reducible refine (State.switchVariant_frame _).timeAfter (by decide) ?_
  with_reducible exact TimeKept.refl _
  with_reducible refine (State.noVariant_time _).after ?_
  with_reducible refine (SameBut.plan_frame _ _).timeAfter (by decide) ?_
  with_reducible refine (State.switchVariant_frame _).timeAfter (by decide) ?_
  with_reducible exact TimeKept.refl _
  with_reducible exact TimeKept.refl _

theorem State.linkTick_time (s : State) :
    TimeKept s (State.linkTick s) := by
  unfold State.linkTick
  extract_lets
  with_reducible refine (State.freezeLost_frame _).timeAfter (by decide) ?_
  with_reducible refine (State.selectPlacement_time _).after ?_
  with_reducible refine (State.switchVariant_frame _).timeAfter (by decide) ?_
  with_reducible refine (State.roleTick_time _).after ?_
  with_reducible refine (State.loseDatapaths_frame _).timeAfter (by decide) ?_
  with_reducible refine TimeKept.each (fun _ _ => ?_) ?_ _
  with_reducible refine (State.porchTick_time _ _).after ?_
  with_reducible exact TimeKept.refl _
  with_reducible exact TimeKept.refl _

theorem State.fireReflex_time (s : State) (e : Nat) (f : Fallback) (t : Int × Int × Int × Int) :
    TimeKept s (State.fireReflex s e f t) := by
  unfold State.fireReflex
  extract_lets
  with_reducible refine TimeKept.ite ?_ ?_
  with_reducible refine (State.inTick_time _ _ (fun _ => ?_)).after ?_
  with_reducible refine (State.sendSched_frame _ _).timeAfter (by decide) ?_
  with_reducible exact TimeKept.refl _
  with_reducible refine (State.count_frame _ _ _ _ _).timeAfter (by decide) ?_
  with_reducible refine (State.moveEvt_frame _ _ _ _).timeAfter (by decide) ?_
  with_reducible refine (State.stateNotice_frame _ _ _ _).timeAfter (by decide) ?_
  with_reducible refine (State.updReflex_frame _ _ _).timeAfter (by decide) ?_
  with_reducible refine (State.updPath_frame _ _ _).timeAfter (by decide) ?_
  with_reducible refine (SameBut.est_frame _ _).timeAfter (by decide) ?_
  with_reducible refine TimeKept.each (fun _ _ => ?_) ?_ _
  with_reducible refine (State.updLoop_frame _ _ _).timeAfter (by decide) ?_
  with_reducible exact TimeKept.refl _
  with_reducible refine (SameBut.mov_frame _ _).timeAfter (by decide) ?_
  with_reducible exact TimeKept.refl _
  with_reducible refine (State.count_frame _ _ _ _ _).timeAfter (by decide) ?_
  with_reducible refine (State.moveEvt_frame _ _ _ _).timeAfter (by decide) ?_
  with_reducible refine (State.stateNotice_frame _ _ _ _).timeAfter (by decide) ?_
  with_reducible refine (State.updReflex_frame _ _ _).timeAfter (by decide) ?_
  with_reducible refine (State.updPath_frame _ _ _).timeAfter (by decide) ?_
  with_reducible refine (SameBut.est_frame _ _).timeAfter (by decide) ?_
  with_reducible refine TimeKept.each (fun _ _ => ?_) ?_ _
  with_reducible refine (State.updLoop_frame _ _ _).timeAfter (by decide) ?_
  with_reducible exact TimeKept.refl _
  with_reducible refine (SameBut.mov_frame _ _).timeAfter (by decide) ?_
  with_reducible exact TimeKept.refl _

theorem State.tripReflex_time (s : State) (e : Nat) :
    TimeKept s (State.tripReflex s e) := by
  unfold State.tripReflex
  extract_lets
  split
  with_reducible refine (State.fireReflex_time _ _ _ _).after ?_
  with_reducible refine (State.updReflex_frame _ _ _).timeAfter (by decide) ?_
  with_reducible exact TimeKept.refl _
  with_reducible refine (State.skipReflex_frame _ _ _ _).timeAfter (by decide) ?_
  with_reducible refine (State.updReflex_frame _ _ _).timeAfter (by decide) ?_
  with_reducible exact TimeKept.refl _

theorem State.reflexTick_time (s : State) :
    TimeKept s (State.reflexTick s) := by
  unfold State.reflexTick
  extract_lets
  with_reducible refine TimeKept.foldl (fun _ _ => ?_) ?_ _
  with_reducible refine (State.updReflex_frame _ _ _).timeAfter (by decide) ?_
  with_reducible exact TimeKept.refl _
  with_reducible refine TimeKept.each (fun _ _ => ?_) ?_ _
  with_reducible refine (State.tripReflex_time _ _).after ?_
  with_reducible exact TimeKept.refl _
  with_reducible exact TimeKept.refl _

theorem State.movePaths_time (s : State) :
    TimeKept s (State.movePaths s) := by
  unfold State.movePaths
  extract_lets
  with_reducible refine (State.recheckTick_frame _).timeAfter (by decide) ?_
  with_reducible refine (State.dropPartial_frame _).timeAfter (by decide) ?_
  with_reducible refine TimeKept.each (fun _ _ => ?_) ?_ _
  with_reducible refine (State.moveReleases_frame _ _).timeAfter (by decide) ?_
  with_reducible exact TimeKept.refl _
  with_reducible refine (State.takeAborts_frame _).timeAfter (by decide) ?_
  with_reducible refine (State.takeMovCmd_frame _).timeAfter (by decide) ?_
  with_reducible refine TimeKept.each (fun _ _ => ?_) ?_ _
  extract_lets
  split
  with_reducible refine TimeKept.ite ?_ ?_
  with_reducible refine (State.missDeadline_frame _ _).timeAfter (by decide) ?_
  with_reducible exact TimeKept.refl _
  with_reducible exact TimeKept.refl _
  with_reducible exact TimeKept.refl _
  with_reducible refine TimeKept.each (fun _ _ => ?_) ?_ _
  with_reducible refine (State.decideMove_frame _ _).timeAfter (by decide) ?_
  with_reducible exact TimeKept.refl _
  with_reducible refine (State.reflexTick_time _).after ?_
  with_reducible refine (State.serviceTick_frame _).timeAfter (by decide) ?_
  with_reducible exact TimeKept.refl _

theorem State.loopTick_time (s : State) (x : TickIn) :
    TimeKept s (State.loopTick s x) := by
  unfold State.loopTick
  extract_lets
  with_reducible refine (State.takeTraceArms_frame _).timeAfter (by decide) ?_
  with_reducible refine (State.latchInputs_frame _ _).timeAfter (by decide) ?_
  with_reducible refine (State.takeSetpoints_frame _).timeAfter (by decide) ?_
  with_reducible refine (State.tapTick_frame _).timeAfter (by decide) ?_
  with_reducible refine (State.movePaths_time _).after ?_
  with_reducible refine (State.lowChanges_frame _).timeAfter (by decide) ?_
  with_reducible refine (State.moveLegs_frame _).timeAfter (by decide) ?_
  with_reducible refine TimeKept.ite ?_ ?_
  with_reducible refine (State.retimeMoves_frame _).timeAfter (by decide) ?_
  with_reducible exact TimeKept.refl _
  with_reducible exact TimeKept.refl _

theorem State.commitPorch_time (old : List LaneEntry) (s : State) (p : Nat) :
    TimeKept s (State.commitPorch old s p) := by
  unfold State.commitPorch
  extract_lets
  with_reducible refine TimeKept.ite ?_ ?_
  with_reducible exact TimeKept.refl _
  with_reducible refine TimeKept.ite ?_ ?_
  with_reducible refine (State.raise_frame _ _ _ _ _).timeAfter (by decide) ?_
  with_reducible refine (State.updPorch_frame _ _ _).timeAfter (by decide) ?_
  with_reducible exact TimeKept.refl _
  with_reducible refine TimeKept.ite ?_ ?_
  with_reducible refine (State.inTick_time _ _ (fun _ => ?_)).after ?_
  with_reducible refine (State.configure_frame _ _).timeAfter (by decide) ?_
  with_reducible exact TimeKept.refl _
  with_reducible refine (State.updPorch_frame _ _ _).timeAfter (by decide) ?_
  with_reducible exact TimeKept.refl _
  with_reducible refine (State.updPorch_frame _ _ _).timeAfter (by decide) ?_
  with_reducible exact TimeKept.refl _

theorem State.commitFull_time (s : State) (q : Plan) (kind : Nat) :
    TimeKept s (State.commitFull s q kind) := by
  unfold State.commitFull
  extract_lets
  with_reducible refine TimeKept.ite ?_ ?_
  with_reducible refine (State.firstRole_frame _).timeAfter (by decide) ?_
  with_reducible refine TimeKept.each (fun _ _ => ?_) ?_ _
  with_reducible refine (State.commitPorch_time _ _ _).after ?_
  with_reducible exact TimeKept.refl _
  with_reducible refine (State.commitJobs_frame _ _ _).timeAfter (by decide) ?_
  with_reducible refine (State.placeTiles_frame _ _ _ _).timeAfter (by decide) ?_
  with_reducible refine (State.clearJobs_frame _ _).timeAfter (by decide) ?_
  with_reducible refine (State.commitShelves_frame _ _ _).timeAfter (by decide) ?_
  ((with_reducible refine TimeKept.hrt_plan_twn_memAfter ?_ ?_); · exact ⟨rfl, rfl, rfl, rfl, rfl, rfl⟩)
  with_reducible refine (State.commitTables_frame _ _).timeAfter (by decide) ?_
  with_reducible refine (State.commitLoops_frame _ _ _ _).timeAfter (by decide) ?_
  with_reducible refine (State.commitMoves_frame _ _ _).timeAfter (by decide) ?_
  with_reducible exact TimeKept.refl _
  with_reducible refine (State.laterRole_frame _).timeAfter (by decide) ?_
  with_reducible refine TimeKept.each (fun _ _ => ?_) ?_ _
  with_reducible refine (State.commitPorch_time _ _ _).after ?_
  with_reducible exact TimeKept.refl _
  with_reducible refine (State.commitJobs_frame _ _ _).timeAfter (by decide) ?_
  with_reducible refine (State.placeTiles_frame _ _ _ _).timeAfter (by decide) ?_
  with_reducible refine (State.clearJobs_frame _ _).timeAfter (by decide) ?_
  with_reducible refine (State.commitShelves_frame _ _ _).timeAfter (by decide) ?_
  ((with_reducible refine TimeKept.hrt_plan_twn_memAfter ?_ ?_); · exact ⟨rfl, rfl, rfl, rfl, rfl, rfl⟩)
  with_reducible refine (State.commitTables_frame _ _).timeAfter (by decide) ?_
  with_reducible refine (State.commitLoops_frame _ _ _ _).timeAfter (by decide) ?_
  with_reducible refine (State.commitMoves_frame _ _ _).timeAfter (by decide) ?_
  with_reducible exact TimeKept.refl _

theorem State.commitPatch_time (s : State) (q : Plan) :
    TimeKept s (State.commitPatch s q) := by
  unfold State.commitPatch
  extract_lets
  with_reducible refine (State.retryRefused_frame _).timeAfter (by decide) ?_
  with_reducible refine TimeKept.each (fun _ _ => ?_) ?_ _
  with_reducible refine (State.commitPorch_time _ _ _).after ?_
  with_reducible exact TimeKept.refl _
  with_reducible refine (SameBut.plan_frame _ _).timeAfter (by decide) ?_
  with_reducible refine (State.patchTables_frame _ _).timeAfter (by decide) ?_
  with_reducible refine (State.commitLoops_frame _ _ _ _).timeAfter (by decide) ?_
  with_reducible refine (State.commitMoves_frame _ _ _).timeAfter (by decide) ?_
  with_reducible exact TimeKept.refl _

theorem State.commitEffect_time (s : State) :
    TimeKept s (State.commitEffect s) := by
  unfold State.commitEffect
  extract_lets
  with_reducible refine TimeKept.ite ?_ ?_
  extract_lets
  split
  with_reducible refine TimeKept.ite ?_ ?_
  with_reducible refine (State.commitFail_frame _ _).timeAfter (by decide) ?_
  with_reducible refine (State.patchRelease_frame _).timeAfter (by decide) ?_
  with_reducible refine (SameBut.plan_frame _ _).timeAfter (by decide) ?_
  with_reducible refine (State.decideMoves_frame _).timeAfter (by decide) ?_
  with_reducible exact TimeKept.refl _
  with_reducible refine TimeKept.ite ?_ ?_
  with_reducible refine (SameBut.plan_frame _ _).timeAfter (by decide) ?_
  with_reducible refine (State.commitDone_frame _).timeAfter (by decide) ?_
  with_reducible refine (SameBut.plan_frame _ _).timeAfter (by decide) ?_
  with_reducible refine (SameBut.staged_frame _ _).timeAfter (by decide) ?_
  with_reducible refine (State.commitSide_frame _).timeAfter (by decide) ?_
  with_reducible refine TimeKept.ite ?_ ?_
  with_reducible refine (State.commitPatch_time _ _).after ?_
  with_reducible refine (State.decideMoves_frame _).timeAfter (by decide) ?_
  with_reducible exact TimeKept.refl _
  with_reducible refine (State.commitFull_time _ _ _).after ?_
  with_reducible refine (State.decideMoves_frame _).timeAfter (by decide) ?_
  with_reducible exact TimeKept.refl _
  with_reducible refine TimeKept.ite ?_ ?_
  with_reducible refine (State.commitDone_frame _).timeAfter (by decide) ?_
  with_reducible refine (SameBut.plan_frame _ _).timeAfter (by decide) ?_
  with_reducible refine (SameBut.staged_frame _ _).timeAfter (by decide) ?_
  with_reducible refine (State.commitSide_frame _).timeAfter (by decide) ?_
  with_reducible refine TimeKept.ite ?_ ?_
  with_reducible refine (State.commitPatch_time _ _).after ?_
  with_reducible refine (State.decideMoves_frame _).timeAfter (by decide) ?_
  with_reducible exact TimeKept.refl _
  with_reducible refine (State.commitFull_time _ _ _).after ?_
  with_reducible refine (State.decideMoves_frame _).timeAfter (by decide) ?_
  with_reducible exact TimeKept.refl _
  with_reducible refine (State.commitDone_frame _).timeAfter (by decide) ?_
  with_reducible refine (State.finishLoads_frame _).timeAfter (by decide) ?_
  with_reducible refine (SameBut.plan_frame _ _).timeAfter (by decide) ?_
  with_reducible refine (SameBut.staged_frame _ _).timeAfter (by decide) ?_
  with_reducible refine (State.commitSide_frame _).timeAfter (by decide) ?_
  with_reducible refine TimeKept.ite ?_ ?_
  with_reducible refine (State.commitPatch_time _ _).after ?_
  with_reducible refine (State.decideMoves_frame _).timeAfter (by decide) ?_
  with_reducible exact TimeKept.refl _
  with_reducible refine (State.commitFull_time _ _ _).after ?_
  with_reducible refine (State.decideMoves_frame _).timeAfter (by decide) ?_
  with_reducible exact TimeKept.refl _
  with_reducible refine (SameBut.plan_frame _ _).timeAfter (by decide) ?_
  with_reducible exact TimeKept.refl _
  with_reducible exact TimeKept.refl _

theorem State.planTick_time (s : State) :
    TimeKept s (State.planTick s) := by
  unfold State.planTick
  with_reducible refine (State.tableTick_frame _).timeAfter (by decide) ?_
  with_reducible refine (State.swapTakeEffect_frame _).timeAfter (by decide) ?_
  with_reducible refine (State.takeDesc_frame _).timeAfter (by decide) ?_
  with_reducible refine (State.descTakeEffect_frame _).timeAfter (by decide) ?_
  with_reducible refine (State.takePlan_frame _).timeAfter (by decide) ?_
  with_reducible refine (State.commitEffect_time _).after ?_
  with_reducible refine (State.endBridge_frame _).timeAfter (by decide) ?_
  with_reducible refine (State.preloadTick_frame _).timeAfter (by decide) ?_
  with_reducible refine (State.finishValidation_frame _).timeAfter (by decide) ?_
  with_reducible exact TimeKept.refl _

theorem State.dropStaging_time (s : State) :
    TimeKept s (State.dropStaging s) := by
  unfold State.dropStaging
  extract_lets
  with_reducible refine TimeKept.ite ?_ ?_
  with_reducible refine (SameBut.upd_frame _ _).timeAfter (by decide) ?_
  with_reducible refine (State.inTick_time _ _ (fun _ => ?_)).after ?_
  with_reducible refine (State.sendAll_frame _ _ _ _).timeAfter (by decide) ?_
  with_reducible exact TimeKept.refl _
  with_reducible exact TimeKept.refl _
  with_reducible exact TimeKept.refl _

theorem State.resetOwner_time (s : State) :
    TimeKept s (State.resetOwner s) := by
  unfold State.resetOwner
  extract_lets
  with_reducible refine (State.dropStaging_time _).after ?_
  with_reducible refine (SameBut.att_plan_frame _ _ _).timeAfter (by decide) ?_
  with_reducible refine TimeKept.ite ?_ ?_
  with_reducible refine (SameBut.att_plan_frame _ _ _).timeAfter (by decide) ?_
  with_reducible exact TimeKept.refl _
  with_reducible exact TimeKept.refl _

theorem State.resetTick_time (s : State) (i : Nat) :
    TimeKept s (State.resetTick s i) := by
  unfold State.resetTick
  extract_lets
  with_reducible refine (State.updSeat_frame _ _ _).timeAfter (by decide) ?_
  with_reducible refine (SameBut.ops_frame _ _).timeAfter (by decide) ?_
  with_reducible refine (State.clearPage_frame _ _).timeAfter (by decide) ?_
  with_reducible refine TimeKept.ite ?_ ?_
  with_reducible refine (State.resetOwner_time _).after ?_
  with_reducible refine TimeKept.each (fun _ _ => ?_) ?_ _
  with_reducible refine (State.updChan_frame _ _ _).timeAfter (by decide) ?_
  with_reducible exact TimeKept.refl _
  with_reducible refine TimeKept.each (fun _ _ => ?_) ?_ _
  with_reducible refine (State.emptyShelf_frame _ _).timeAfter (by decide) ?_
  with_reducible exact TimeKept.refl _
  with_reducible refine TimeKept.each (fun _ _ => ?_) ?_ _
  with_reducible refine (State.endAt_frame _ _ _).timeAfter (by decide) ?_
  with_reducible exact TimeKept.refl _
  with_reducible exact TimeKept.refl _
  with_reducible refine TimeKept.each (fun _ _ => ?_) ?_ _
  with_reducible refine (State.updChan_frame _ _ _).timeAfter (by decide) ?_
  with_reducible exact TimeKept.refl _
  with_reducible refine TimeKept.each (fun _ _ => ?_) ?_ _
  with_reducible refine (State.emptyShelf_frame _ _).timeAfter (by decide) ?_
  with_reducible exact TimeKept.refl _
  with_reducible refine TimeKept.each (fun _ _ => ?_) ?_ _
  with_reducible refine (State.endAt_frame _ _ _).timeAfter (by decide) ?_
  with_reducible exact TimeKept.refl _
  with_reducible exact TimeKept.refl _

theorem State.resetsTick_time (s : State) :
    TimeKept s (State.resetsTick s) := by
  unfold State.resetsTick
  with_reducible refine TimeKept.each (fun _ _ => ?_) ?_ _
  with_reducible refine (State.resetTick_time _ _).after ?_
  with_reducible exact TimeKept.refl _
  with_reducible exact TimeKept.refl _

theorem State.enterWithdraw_time (s : State) (die : Nat) (temp : Int) :
    TimeKept s (State.enterWithdraw s die temp) := by
  unfold State.enterWithdraw
  extract_lets
  with_reducible refine (State.verdict_time _ _ _ _ (fun _ => ?_)).after ?_
  with_reducible refine (State.faultOn_frame _ _ _).timeAfter (by decide) ?_
  with_reducible exact TimeKept.refl _
  with_reducible refine (State.recordThermal_frame _ _ _ _ _).timeAfter (by decide) ?_
  with_reducible refine (State.raise_frame _ _ _ _ _).timeAfter (by decide) ?_
  with_reducible refine (SameBut.thm_frame _ _).timeAfter (by decide) ?_
  with_reducible exact TimeKept.refl _

theorem State.fatal_time (s : State) :
    TimeKept s (State.fatal s) := by
  unfold State.fatal
  with_reducible refine (State.faultOn_frame _ _ _).timeAfter (by decide) ?_
  with_reducible refine (State.verdict_time _ _ _ _ (fun _ => ?_)).after ?_
  with_reducible refine (State.withdraw_frame _ _ _).timeAfter (by decide) ?_
  with_reducible exact TimeKept.refl _
  with_reducible exact TimeKept.refl _

theorem State.tripNow_time (s : State) (die : Nat) (temp : Int) :
    TimeKept s (State.tripNow s die temp) := by
  unfold State.tripNow
  extract_lets
  with_reducible refine TimeKept.ite ?_ ?_
  with_reducible exact TimeKept.refl _
  with_reducible refine (State.faultOn_frame _ _ _).timeAfter (by decide) ?_
  with_reducible refine (State.faultOn_frame _ _ _).timeAfter (by decide) ?_
  with_reducible refine (State.recordThermal_frame _ _ _ _ _).timeAfter (by decide) ?_
  with_reducible refine (State.fatal_time _).after ?_
  with_reducible refine (SameBut.boot_thm_frame _ _ _).timeAfter (by decide) ?_
  with_reducible exact TimeKept.refl _

theorem State.ladder_time (s : State) :
    TimeKept s (State.ladder s) := by
  unfold State.ladder
  extract_lets
  with_reducible refine TimeKept.ite ?_ ?_
  with_reducible exact TimeKept.refl _
  with_reducible refine TimeKept.ite ?_ ?_
  with_reducible refine (State.inTick_time _ _ (fun _ => ?_)).after ?_
  with_reducible refine (State.tripNow_time _ _ _).after ?_
  with_reducible exact TimeKept.refl _
  with_reducible refine TimeKept.ite ?_ ?_
  with_reducible refine (State.inTick_time _ _ (fun _ => ?_)).after ?_
  with_reducible refine (State.enterWithdraw_time _ _ _).after ?_
  with_reducible exact TimeKept.refl _
  with_reducible refine TimeKept.ite ?_ ?_
  with_reducible refine (State.enterShed_frame _ _ _).timeAfter (by decide) ?_
  with_reducible exact TimeKept.refl _
  with_reducible exact TimeKept.refl _
  with_reducible refine TimeKept.ite ?_ ?_
  with_reducible refine (SameBut.thm_frame _ _).timeAfter (by decide) ?_
  with_reducible refine TimeKept.ite ?_ ?_
  with_reducible refine (State.enterShed_frame _ _ _).timeAfter (by decide) ?_
  with_reducible exact TimeKept.refl _
  with_reducible exact TimeKept.refl _
  with_reducible refine TimeKept.ite ?_ ?_
  with_reducible refine (State.enterShed_frame _ _ _).timeAfter (by decide) ?_
  with_reducible exact TimeKept.refl _
  with_reducible exact TimeKept.refl _
  with_reducible refine TimeKept.ite ?_ ?_
  with_reducible refine (State.inTick_time _ _ (fun _ => ?_)).after ?_
  with_reducible refine (State.enterWithdraw_time _ _ _).after ?_
  with_reducible exact TimeKept.refl _
  with_reducible refine TimeKept.ite ?_ ?_
  with_reducible refine (State.enterShed_frame _ _ _).timeAfter (by decide) ?_
  with_reducible exact TimeKept.refl _
  with_reducible exact TimeKept.refl _
  with_reducible refine TimeKept.ite ?_ ?_
  with_reducible refine (SameBut.thm_frame _ _).timeAfter (by decide) ?_
  with_reducible refine TimeKept.ite ?_ ?_
  with_reducible refine (State.enterShed_frame _ _ _).timeAfter (by decide) ?_
  with_reducible exact TimeKept.refl _
  with_reducible exact TimeKept.refl _
  with_reducible refine TimeKept.ite ?_ ?_
  with_reducible refine (State.enterShed_frame _ _ _).timeAfter (by decide) ?_
  with_reducible exact TimeKept.refl _
  with_reducible exact TimeKept.refl _

theorem State.thermTick_time (s : State) (x : TickIn) (from_ : Nat) :
    TimeKept s (State.thermTick s x from_) := by
  unfold State.thermTick
  extract_lets
  with_reducible refine TimeKept.ite ?_ ?_
  with_reducible exact TimeKept.refl _
  with_reducible refine (State.powerTick_frame _ _).timeAfter (by decide) ?_
  with_reducible refine (State.clearShed_frame _ _).timeAfter (by decide) ?_
  with_reducible refine (State.endStep_frame _ _).timeAfter (by decide) ?_
  with_reducible refine (State.ladder_time _).after ?_
  with_reducible refine (State.detectStep_frame _ _).timeAfter (by decide) ?_
  with_reducible refine (State.maxField_frame _ _ _ _ _).timeAfter (by decide) ?_
  with_reducible refine (SameBut.thm_frame _ _).timeAfter (by decide) ?_
  with_reducible refine TimeKept.each (fun _ _ => ?_) ?_ _
  with_reducible refine (State.maxTempReg_frame _ _ _).timeAfter (by decide) ?_
  with_reducible refine (State.updDie_frame _ _ _).timeAfter (by decide) ?_
  with_reducible exact TimeKept.refl _
  with_reducible exact TimeKept.refl _

theorem State.beginFallback_time (s : State) (cause : Nat) :
    TimeKept s (State.beginFallback s cause) := by
  unfold State.beginFallback
  extract_lets
  with_reducible refine TimeKept.ite ?_ ?_
  with_reducible refine (SameBut.upd_frame _ _).timeAfter (by decide) ?_
  with_reducible refine TimeKept.each (fun _ _ => ?_) ?_ _
  with_reducible refine (State.askHeadNext_time _ _ _ _ _).after ?_
  with_reducible exact TimeKept.refl _
  with_reducible exact TimeKept.refl _
  with_reducible exact TimeKept.refl _

theorem State.deferActivation_time (s : State) :
    TimeKept s (State.deferActivation s) := by
  unfold State.deferActivation
  extract_lets
  split
  with_reducible refine TimeKept.ite ?_ ?_
  with_reducible refine (SameBut.upd_frame _ _).timeAfter (by decide) ?_
  with_reducible refine TimeKept.each (fun _ _ => ?_) ?_ _
  with_reducible refine (State.askHeadNext_time _ _ _ _ _).after ?_
  with_reducible exact TimeKept.refl _
  with_reducible exact TimeKept.refl _
  with_reducible exact TimeKept.refl _
  with_reducible exact TimeKept.refl _

theorem State.loadSkipped_time (s : State) :
    TimeKept s (State.loadSkipped s) := by
  unfold State.loadSkipped
  split
  with_reducible refine TimeKept.ite ?_ ?_
  with_reducible refine TimeKept.each (fun _ _ => ?_) ?_ _
  with_reducible refine (SameBut.upd_frame _ _).timeAfter (by decide) ?_
  with_reducible refine (State.askHeadNext_time _ _ _ _ _).after ?_
  with_reducible exact TimeKept.refl _
  with_reducible exact TimeKept.refl _
  with_reducible exact TimeKept.refl _
  with_reducible exact TimeKept.refl _

theorem State.retimeActivation_time (s : State) :
    TimeKept s (State.retimeActivation s) := by
  unfold State.retimeActivation
  split
  with_reducible refine TimeKept.ite ?_ ?_
  with_reducible refine (SameBut.upd_frame _ _).timeAfter (by decide) ?_
  with_reducible refine TimeKept.each (fun _ _ => ?_) ?_ _
  with_reducible refine (State.askHeadNext_time _ _ _ _ _).after ?_
  with_reducible exact TimeKept.refl _
  with_reducible exact TimeKept.refl _
  with_reducible exact TimeKept.refl _
  with_reducible exact TimeKept.refl _

theorem State.stageTick_time (s : State) :
    TimeKept s (State.stageTick s) := by
  unfold State.stageTick
  extract_lets
  split
  with_reducible refine (State.raise_frame _ _ _ _ _).timeAfter (by decide) ?_
  with_reducible refine (State.updResult_frame _ _ _).timeAfter (by decide) ?_
  with_reducible refine (SameBut.upd_frame _ _).timeAfter (by decide) ?_
  with_reducible exact TimeKept.refl _
  with_reducible refine (State.raise_frame _ _ _ _ _).timeAfter (by decide) ?_
  with_reducible refine (State.updResult_frame _ _ _).timeAfter (by decide) ?_
  with_reducible refine (SameBut.upd_frame _ _).timeAfter (by decide) ?_
  with_reducible refine (State.inTick_time _ _ (fun _ => ?_)).after ?_
  with_reducible refine (State.sendAll_frame _ _ _ _).timeAfter (by decide) ?_
  with_reducible exact TimeKept.refl _
  with_reducible exact TimeKept.refl _
  with_reducible exact TimeKept.refl _

theorem State.takeActivate_time (s : State) (timeNs : Bool) :
    TimeKept s (State.takeActivate s timeNs) := by
  unfold State.takeActivate
  extract_lets
  with_reducible refine TimeKept.ite ?_ ?_
  with_reducible refine (State.updResult_frame _ _ _).timeAfter (by decide) ?_
  with_reducible exact TimeKept.refl _
  with_reducible refine TimeKept.ite ?_ ?_
  with_reducible refine (State.updResult_frame _ _ _).timeAfter (by decide) ?_
  with_reducible exact TimeKept.refl _
  with_reducible refine (State.updResult_frame _ _ _).timeAfter (by decide) ?_
  with_reducible refine (SameBut.upd_frame _ _).timeAfter (by decide) ?_
  with_reducible refine TimeKept.each (fun _ _ => ?_) ?_ _
  with_reducible refine (State.askHeadNext_time _ _ _ _ _).after ?_
  with_reducible exact TimeKept.refl _
  with_reducible exact TimeKept.refl _

theorem State.takeFallback_time (s : State) :
    TimeKept s (State.takeFallback s) := by
  unfold State.takeFallback
  with_reducible refine TimeKept.ite ?_ ?_
  with_reducible refine (State.updResult_frame _ _ _).timeAfter (by decide) ?_
  with_reducible refine (State.beginFallback_time _ _).after ?_
  with_reducible exact TimeKept.refl _
  with_reducible refine (State.updResult_frame _ _ _).timeAfter (by decide) ?_
  with_reducible exact TimeKept.refl _

theorem State.takeUpdCancel_time (s : State) :
    TimeKept s (State.takeUpdCancel s) := by
  unfold State.takeUpdCancel
  extract_lets
  with_reducible refine TimeKept.ite ?_ ?_
  with_reducible refine (State.updResult_frame _ _ _).timeAfter (by decide) ?_
  with_reducible exact TimeKept.refl _
  with_reducible refine TimeKept.ite ?_ ?_
  with_reducible refine (State.updResult_frame _ _ _).timeAfter (by decide) ?_
  with_reducible exact TimeKept.refl _
  with_reducible refine (State.updResult_frame _ _ _).timeAfter (by decide) ?_
  with_reducible refine (SameBut.upd_frame _ _).timeAfter (by decide) ?_
  with_reducible refine TimeKept.each (fun _ _ => ?_) ?_ _
  with_reducible refine (State.askHeadNext_time _ _ _ _ _).after ?_
  with_reducible exact TimeKept.refl _
  with_reducible exact TimeKept.refl _

theorem State.takeUpdCmd_time (s : State) :
    TimeKept s (State.takeUpdCmd s) := by
  unfold State.takeUpdCmd
  extract_lets
  split
  with_reducible refine TimeKept.ite ?_ ?_
  with_reducible refine (State.updResult_frame _ _ _).timeAfter (by decide) ?_
  with_reducible refine (SameBut.ops_frame _ _).timeAfter (by decide) ?_
  with_reducible exact TimeKept.refl _
  extract_lets
  split
  with_reducible refine (State.takeStage_frame _ _).timeAfter (by decide) ?_
  with_reducible refine (SameBut.ops_frame _ _).timeAfter (by decide) ?_
  with_reducible exact TimeKept.refl _
  with_reducible refine (State.takeActivate_time _ _).after ?_
  with_reducible refine (SameBut.ops_frame _ _).timeAfter (by decide) ?_
  with_reducible exact TimeKept.refl _
  with_reducible refine (State.takeUpdCancel_time _).after ?_
  with_reducible refine (SameBut.ops_frame _ _).timeAfter (by decide) ?_
  with_reducible exact TimeKept.refl _
  with_reducible refine (State.takeConfirm_frame _).timeAfter (by decide) ?_
  with_reducible refine (SameBut.ops_frame _ _).timeAfter (by decide) ?_
  with_reducible exact TimeKept.refl _
  with_reducible refine (State.takeFallback_time _).after ?_
  with_reducible refine (SameBut.ops_frame _ _).timeAfter (by decide) ?_
  with_reducible exact TimeKept.refl _
  with_reducible refine (State.takeKey_frame _ _).timeAfter (by decide) ?_
  with_reducible refine (SameBut.ops_frame _ _).timeAfter (by decide) ?_
  with_reducible exact TimeKept.refl _
  with_reducible refine (State.takeKey_frame _ _).timeAfter (by decide) ?_
  with_reducible refine (SameBut.ops_frame _ _).timeAfter (by decide) ?_
  with_reducible exact TimeKept.refl _
  with_reducible refine (SameBut.ops_frame _ _).timeAfter (by decide) ?_
  with_reducible exact TimeKept.refl _
  with_reducible refine (SameBut.ops_frame _ _).timeAfter (by decide) ?_
  with_reducible exact TimeKept.refl _

theorem State.updTick_time (s : State) (cycles : Nat) :
    TimeKept s (State.updTick s cycles) := by
  unfold State.updTick
  extract_lets v1 v2 v3 v4 v5
  with_reducible refine (State.deferActivation_time _).after ?_
  with_reducible refine (State.loadSkipped_time _).after ?_
  with_reducible refine (State.takeTwinStage_frame _ _).timeAfter (by decide) ?_
  with_reducible refine (State.takeUpdCmd_time _).after ?_
  with_reducible refine (State.stageTick_time _).after ?_
  with_reducible refine (State.keyTick_frame _).timeAfter (by decide) ?_
  extract_lets
  dsimp only [v5]
  split
  with_reducible refine TimeKept.ite ?_ ?_
  with_reducible refine (State.beginFallback_time _ _).after ?_
  with_reducible refine (State.activateNow_frame _ _ _ _).timeAfter (by decide) ?_
  with_reducible refine (State.fallbackNow_frame _ _).timeAfter (by decide) ?_
  with_reducible refine (State.endWindow_frame _ _).timeAfter (by decide) ?_
  with_reducible refine TimeKept.ite ?_ ?_
  with_reducible refine (State.endRestart_frame _).timeAfter (by decide) ?_
  with_reducible refine TimeKept.ite ?_ ?_
  with_reducible refine (State.retimeActivation_time _).after ?_
  with_reducible refine (State.burnTick_frame _).timeAfter (by decide) ?_
  with_reducible exact TimeKept.refl _
  with_reducible refine (State.burnTick_frame _).timeAfter (by decide) ?_
  with_reducible exact TimeKept.refl _
  with_reducible refine TimeKept.ite ?_ ?_
  with_reducible refine (State.retimeActivation_time _).after ?_
  with_reducible refine (State.burnTick_frame _).timeAfter (by decide) ?_
  with_reducible exact TimeKept.refl _
  with_reducible refine (State.burnTick_frame _).timeAfter (by decide) ?_
  with_reducible exact TimeKept.refl _
  with_reducible refine (State.activateNow_frame _ _ _ _).timeAfter (by decide) ?_
  with_reducible refine (State.fallbackNow_frame _ _).timeAfter (by decide) ?_
  with_reducible refine (State.endWindow_frame _ _).timeAfter (by decide) ?_
  with_reducible refine TimeKept.ite ?_ ?_
  with_reducible refine (State.endRestart_frame _).timeAfter (by decide) ?_
  with_reducible refine TimeKept.ite ?_ ?_
  with_reducible refine (State.retimeActivation_time _).after ?_
  with_reducible refine (State.burnTick_frame _).timeAfter (by decide) ?_
  with_reducible exact TimeKept.refl _
  with_reducible refine (State.burnTick_frame _).timeAfter (by decide) ?_
  with_reducible exact TimeKept.refl _
  with_reducible refine TimeKept.ite ?_ ?_
  with_reducible refine (State.retimeActivation_time _).after ?_
  with_reducible refine (State.burnTick_frame _).timeAfter (by decide) ?_
  with_reducible exact TimeKept.refl _
  with_reducible refine (State.burnTick_frame _).timeAfter (by decide) ?_
  with_reducible exact TimeKept.refl _
  with_reducible refine (State.activateNow_frame _ _ _ _).timeAfter (by decide) ?_
  with_reducible refine (State.fallbackNow_frame _ _).timeAfter (by decide) ?_
  with_reducible refine (State.endWindow_frame _ _).timeAfter (by decide) ?_
  with_reducible refine TimeKept.ite ?_ ?_
  with_reducible refine (State.endRestart_frame _).timeAfter (by decide) ?_
  with_reducible refine TimeKept.ite ?_ ?_
  with_reducible refine (State.retimeActivation_time _).after ?_
  with_reducible refine (State.burnTick_frame _).timeAfter (by decide) ?_
  with_reducible exact TimeKept.refl _
  with_reducible refine (State.burnTick_frame _).timeAfter (by decide) ?_
  with_reducible exact TimeKept.refl _
  with_reducible refine TimeKept.ite ?_ ?_
  with_reducible refine (State.retimeActivation_time _).after ?_
  with_reducible refine (State.burnTick_frame _).timeAfter (by decide) ?_
  with_reducible exact TimeKept.refl _
  with_reducible refine (State.burnTick_frame _).timeAfter (by decide) ?_
  with_reducible exact TimeKept.refl _

theorem State.atTick_time (s : State) (x : TickIn) (from_ : Nat) :
    TimeKept s (State.atTick s x from_) := by
  unfold State.atTick
  extract_lets
  with_reducible refine (State.powerUpTick_frame _).timeAfter (by decide) ?_
  with_reducible refine (State.featTick_frame _).timeAfter (by decide) ?_
  with_reducible refine TimeKept.ite ?_ ?_
  with_reducible refine (State.passTick_frame _ _).timeAfter (by decide) ?_
  with_reducible refine (State.workTick_frame _ _).timeAfter (by decide) ?_
  with_reducible refine (State.loopTick_time _ _).after ?_
  with_reducible refine (State.freezeRest_frame _).timeAfter (by decide) ?_
  with_reducible refine (State.planTick_time _).after ?_
  with_reducible refine (State.takeOrders_frame _).timeAfter (by decide) ?_
  with_reducible refine (State.updTick_time _ _).after ?_
  with_reducible refine (State.thermTick_time _ _ _).after ?_
  with_reducible refine (State.resetsTick_time _).after ?_
  with_reducible refine TimeKept.ite ?_ ?_
  with_reducible refine (State.offAndFreeze_frame _).timeAfter (by decide) ?_
  with_reducible refine (State.hearthTick_time _).after ?_
  with_reducible refine TimeKept.ite ?_ ?_
  with_reducible refine (State.linkTick_time _).after ?_
  with_reducible refine (State.configTick_frame _).timeAfter (by decide) ?_
  with_reducible exact TimeKept.refl _
  with_reducible refine (State.configTick_frame _).timeAfter (by decide) ?_
  with_reducible exact TimeKept.refl _
  with_reducible refine (State.hearthTick_time _).after ?_
  with_reducible refine TimeKept.ite ?_ ?_
  with_reducible refine (State.linkTick_time _).after ?_
  with_reducible refine (State.configTick_frame _).timeAfter (by decide) ?_
  with_reducible exact TimeKept.refl _
  with_reducible refine (State.configTick_frame _).timeAfter (by decide) ?_
  with_reducible exact TimeKept.refl _
  with_reducible refine (State.takeOrders_frame _).timeAfter (by decide) ?_
  with_reducible refine (State.updTick_time _ _).after ?_
  with_reducible refine (State.thermTick_time _ _ _).after ?_
  with_reducible refine (State.resetsTick_time _).after ?_
  with_reducible refine TimeKept.ite ?_ ?_
  with_reducible refine (State.offAndFreeze_frame _).timeAfter (by decide) ?_
  with_reducible refine (State.hearthTick_time _).after ?_
  with_reducible refine TimeKept.ite ?_ ?_
  with_reducible refine (State.linkTick_time _).after ?_
  with_reducible refine (State.configTick_frame _).timeAfter (by decide) ?_
  with_reducible exact TimeKept.refl _
  with_reducible refine (State.configTick_frame _).timeAfter (by decide) ?_
  with_reducible exact TimeKept.refl _
  with_reducible refine (State.hearthTick_time _).after ?_
  with_reducible refine TimeKept.ite ?_ ?_
  with_reducible refine (State.linkTick_time _).after ?_
  with_reducible refine (State.configTick_frame _).timeAfter (by decide) ?_
  with_reducible exact TimeKept.refl _
  with_reducible refine (State.configTick_frame _).timeAfter (by decide) ?_
  with_reducible exact TimeKept.refl _

theorem State.freshFrame_time (s : State) :
    TimeKept s (State.freshFrame s) := by
  unfold State.freshFrame
  extract_lets
  split
  with_reducible refine TimeKept.ite ?_ ?_
  with_reducible refine (State.excuseLoops_frame _).timeAfter (by decide) ?_
  ((with_reducible refine TimeKept.hrt_loops_engAfter ?_ ?_); · exact ⟨rfl, rfl, rfl, rfl, rfl, rfl⟩)
  with_reducible exact TimeKept.refl _
  with_reducible refine (SameBut.plan_frame _ _).timeAfter (by decide) ?_
  ((with_reducible refine TimeKept.hrt_loops_engAfter ?_ ?_); · exact ⟨rfl, rfl, rfl, rfl, rfl, rfl⟩)
  with_reducible exact TimeKept.refl _
  ((with_reducible refine TimeKept.hrt_loops_engAfter ?_ ?_); · exact ⟨rfl, rfl, rfl, rfl, rfl, rfl⟩)
  with_reducible exact TimeKept.refl _

theorem State.pinTick_time (s : State) :
    TimeKept s (State.pinTick s) := by
  unfold State.pinTick
  extract_lets
  ((with_reducible refine TimeKept.hrt_pinsAfter ?_ ?_); · exact ⟨rfl, rfl, rfl, rfl, rfl, rfl⟩)
  with_reducible exact TimeKept.refl _

theorem State.lineLost_time (s : State) (page cause : Nat) :
    TimeKept s (State.lineLost s page cause) := by
  unfold State.lineLost
  extract_lets
  with_reducible refine (State.verdict_time _ _ _ _ (fun _ => ?_)).after ?_
  with_reducible refine (State.retirePage_frame _ _ _).timeAfter (by decide) ?_
  with_reducible refine (State.retirePage_frame _ _ _).timeAfter (by decide) ?_
  with_reducible refine (State.record_frame _ _ _ _ _).timeAfter (by decide) ?_
  with_reducible refine (State.faultOn_frame _ _ _).timeAfter (by decide) ?_
  with_reducible exact TimeKept.refl _
  with_reducible refine (State.raise_frame _ _ _ _ _).timeAfter (by decide) ?_
  with_reducible refine (State.badLine_frame _ _).timeAfter (by decide) ?_
  with_reducible refine (State.badLine_frame _ _).timeAfter (by decide) ?_
  with_reducible exact TimeKept.refl _

theorem State.lineError_time (s : State) (o : BeatOutcome) : TimeKept s (s.lineError o).1 := by
  cases o with
  | corrected p =>
    dsimp only [State.lineError]
    with_reducible exact (State.correctedLine_frame _ _ _).time (by decide)
  | unprotected p =>
    dsimp only [State.lineError]
    split
    · exact TimeKept.refl _
    · dsimp only
      with_reducible exact (State.retirePage_frame _ _ _).timeAfter (by decide) ((State.badLine_frame _ _).time (by decide))
  | oneCopy p again =>
    dsimp only [State.lineError]
    with_reducible exact (State.oneCopy_frame _ _ _ _).time (by decide)
  | bothCopies p n =>
    dsimp only [State.lineError]
    with_reducible exact (State.freeTick_frame _).timeAfter (by decide) (State.lineLost_time _ _ _)
  | _ => exact TimeKept.refl _

theorem State.bulkBeat_time (s : State) (t q j : Nat) (c : Copy) (b : Nat) (out : BeatOutcome) :
    TimeKept s (s.bulkBeat t q j c b out) := by
  have hp := State.reserveFor_frame s t q j c
  unfold State.bulkBeat
  revert hp
  generalize s.reserveFor t q j c = p
  intro hp
  obtain ⟨s1, c1⟩ := p
  have hm : TimeKept s s1 := hp.time (by decide)
  dsimp only
  refine TimeKept.ite (TimeKept.ite ((State.advanceCopy_frame _ _ _ _ _).timeAfter (by decide) hm) hm) ?_
  have h2 : TimeKept s (s1.checkBeat t j c1 (s1.lineOutcome out)) := (State.checkBeat_frame _ _ _ _ _).timeAfter (by decide) hm
  have hl : TimeKept (s1.checkBeat t j c1 (s1.lineOutcome out)) ((s1.checkBeat t j c1 (s1.lineOutcome out)).lineError (s1.lineOutcome out)).1 := State.lineError_time (s1.checkBeat t j c1 (s1.lineOutcome out)) (s1.lineOutcome out)
  revert hl
  generalize (s1.checkBeat t j c1 (s1.lineOutcome out)).lineError (s1.lineOutcome out) = r
  intro hl
  obtain ⟨s3, f, lost⟩ := r
  have hn : TimeKept s s3 := hl.after h2
  cases f with
  | none => exact (State.moveBeat_frame _ _ _ _ _ _ _ _ _).timeAfter (by decide) hn
  | some f => exact (State.faultBeat_frame _ _ _ _ _ _ _).timeAfter (by decide) hn

theorem State.cellReady_time (s : State) (l : Nat) :
    TimeKept s (State.cellReady s l) := by
  unfold State.cellReady
  extract_lets
  split
  with_reducible refine TimeKept.ite ?_ ?_
  with_reducible exact TimeKept.refl _
  with_reducible refine (State.addCommand_time _ _ _).after ?_
  with_reducible exact TimeKept.refl _
  with_reducible exact TimeKept.refl _

theorem State.soloOverrun_time (s : State) :
    TimeKept s (State.soloOverrun s) := by
  unfold State.soloOverrun
  extract_lets
  with_reducible refine TimeKept.ite ?_ ?_
  with_reducible refine (State.withdraw_frame _ _ _).timeAfter (by decide) ?_
  with_reducible exact TimeKept.refl _
  ((with_reducible refine TimeKept.hrtAfter ?_ ?_); · exact ⟨rfl, rfl, rfl, rfl, rfl, rfl⟩)
  with_reducible refine (State.record_frame _ _ _ _ _).timeAfter (by decide) ?_
  with_reducible refine (State.faultOn_frame _ _ _).timeAfter (by decide) ?_
  with_reducible exact TimeKept.refl _

theorem State.overrunFrame_time (s : State) :
    TimeKept s (State.overrunFrame s) := by
  unfold State.overrunFrame
  extract_lets
  with_reducible refine TimeKept.ite ?_ ?_
  with_reducible exact TimeKept.refl _
  with_reducible refine TimeKept.ite ?_ ?_
  with_reducible refine (State.setReg_frame _ _ _).timeAfter (by decide) ?_
  with_reducible refine (State.raise_frame _ _ _ _ _).timeAfter (by decide) ?_
  with_reducible exact TimeKept.refl _
  with_reducible refine TimeKept.ite ?_ ?_
  with_reducible refine (State.verdict_time _ _ _ _ (fun _ => ?_)).after ?_
  with_reducible refine (State.soloOverrun_time _).after ?_
  with_reducible exact TimeKept.refl _
  with_reducible refine (State.raise_frame _ _ _ _ _).timeAfter (by decide) ?_
  with_reducible refine (State.count_frame _ _ _ _ _).timeAfter (by decide) ?_
  ((with_reducible refine TimeKept.hrtAfter ?_ ?_); · exact ⟨rfl, rfl, rfl, rfl, rfl, rfl⟩)
  with_reducible refine (State.setReg_frame _ _ _).timeAfter (by decide) ?_
  with_reducible refine (State.raise_frame _ _ _ _ _).timeAfter (by decide) ?_
  with_reducible exact TimeKept.refl _
  with_reducible refine (State.count_frame _ _ _ _ _).timeAfter (by decide) ?_
  ((with_reducible refine TimeKept.hrtAfter ?_ ?_); · exact ⟨rfl, rfl, rfl, rfl, rfl, rfl⟩)
  with_reducible refine (State.setReg_frame _ _ _).timeAfter (by decide) ?_
  with_reducible refine (State.raise_frame _ _ _ _ _).timeAfter (by decide) ?_
  with_reducible exact TimeKept.refl _

theorem State.emitDeadline_time (s : State) : TimeKept s (State.emitDeadline s) := by
  have h : ∀ u : State, TimeKept s u → TimeKept s ({ u.overrunFrame with hrt := { u.overrunFrame.hrt with emitted := true } } : State).feedTwin :=
    fun u k => (State.feedTwin_frame _).timeAfter (by decide) (TimeKept.hrtAfter ⟨rfl, rfl, rfl, rfl, rfl, rfl⟩ ((State.overrunFrame_time u).after k))
  unfold State.emitDeadline
  split
  · exact TimeKept.hrtAfter ⟨rfl, rfl, rfl, rfl, rfl, rfl⟩ (TimeKept.refl _)
  · refine h _ ((SameBut.loops_frame _ _).timeAfter (by decide) ?_)
    refine TimeKept.each (fun l u => (State.overrunState_frame _ _).timeAfter (by decide) (State.loopOverrun_time _ _)) ?_ _
    refine (State.passOverrun_frame _ _).timeAfter (by decide) ?_
    refine TimeKept.each (fun p u => State.closeCell_time _ _ _) ?_ _
    split
    · exact TimeKept.each (fun l u => (State.addCommand_time _ _ _)) (TimeKept.refl _) _
    · exact TimeKept.refl _

theorem State.endFrame_time (s : State) :
    TimeKept s (State.endFrame s) := by
  unfold State.endFrame
  extract_lets
  with_reducible refine TimeKept.ite ?_ ?_
  with_reducible exact TimeKept.refl _
  with_reducible refine (State.patchTick_frame _).timeAfter (by decide) ?_
  with_reducible refine (State.silentImagers_frame _).timeAfter (by decide) ?_
  with_reducible refine (State.traceFrame_frame _).timeAfter (by decide) ?_
  with_reducible refine TimeKept.ite ?_ ?_
  with_reducible exact TimeKept.refl _
  with_reducible refine (State.emitDeadline_time _).after ?_
  with_reducible exact TimeKept.refl _

theorem State.closeFrame_time (s : State) (x : TickIn) :
    TimeKept s (State.closeFrame s x) := by
  unfold State.closeFrame
  extract_lets
  with_reducible refine TimeKept.ite ?_ ?_
  with_reducible refine (State.countFrame_frame _ _).timeAfter (by decide) ?_
  with_reducible refine (State.clearSent_frame _).timeAfter (by decide) ?_
  with_reducible refine (State.endFrame_time _).after ?_
  with_reducible exact TimeKept.refl _
  with_reducible refine (State.carryOrders_frame _).timeAfter (by decide) ?_
  with_reducible refine (State.countFrame_frame _ _).timeAfter (by decide) ?_
  with_reducible refine (State.clearSent_frame _).timeAfter (by decide) ?_
  with_reducible refine (State.endFrame_time _).after ?_
  with_reducible exact TimeKept.refl _

theorem State.frameBeat_time (s : State) (t q : Nat) (c : Copy) (b : Nat) (out : BeatOutcome) :
    TimeKept s (s.frameBeat t q c b out) := by
  unfold State.frameBeat
  refine TimeKept.ite (TimeKept.refl _) ?_
  have hl : TimeKept s (s.lineError (s.lineOutcome out)).1 := State.lineError_time s (s.lineOutcome out)
  revert hl
  generalize s.lineError (s.lineOutcome out) = r
  intro hl
  obtain ⟨s1, f, lost⟩ := r
  have hf : ∀ (e : CopyFault) (a : Nat), TimeKept s (if e = .protection ∧ a < 0x400000 then s1.loseTile t else s1) :=
    fun e a => TimeKept.ite ((State.loseTile_frame _ _).timeAfter (by decide) hl) hl
  dsimp only
  split
  · exact hf _ _
  · exact hf _ _
  · exact hf _ _
  · exact hf _ _
  · split
    · rename_i u h
      exact (State.advanceCopy_frame _ _ _ _ _).timeAfter (by decide) ((State.writeLoc_frame _ _ _ _ h).timeAfter (by decide) hl)
    · exact hl

theorem State.landOut_time (s : State) (late : List Nat) (o : NetOut) :
    TimeKept s (State.landOut s late o) := by
  unfold State.landOut
  extract_lets
  with_reducible refine TimeKept.ite ?_ ?_
  with_reducible refine (State.cellReady_time _ _).after ?_
  with_reducible refine (State.cellReady_time _ _).after ?_
  with_reducible refine (State.landRecord_frame _ _ _).timeAfter (by decide) ?_
  with_reducible refine (State.noteSaturate_frame _ _).timeAfter (by decide) ?_
  with_reducible refine (State.fixFlags_frame _ _ _).timeAfter (by decide) ?_
  with_reducible exact TimeKept.refl _
  with_reducible exact TimeKept.refl _

theorem State.setPlanned_time (s : State) (m : Move) (plans : List MirrorPlan) (start last : Nat) :
    TimeKept s (State.setPlanned s m plans start last) := by
  unfold State.setPlanned
  extract_lets
  with_reducible refine TimeKept.ite ?_ ?_
  with_reducible refine (State.endMove_frame _ _ _ _ _).timeAfter (by decide) ?_
  with_reducible refine TimeKept.ite ?_ ?_
  with_reducible refine (State.inTick_time _ _ (fun _ => ?_)).after ?_
  with_reducible refine (State.sendSched_frame _ _).timeAfter (by decide) ?_
  with_reducible exact TimeKept.refl _
  with_reducible refine (State.stateNotice_frame _ _ _ _).timeAfter (by decide) ?_
  with_reducible refine (State.maxField_frame _ _ _ _ _).timeAfter (by decide) ?_
  with_reducible refine TimeKept.foldl (fun _ _ => ?_) ?_ _
  with_reducible refine TimeKept.ite ?_ ?_
  with_reducible exact TimeKept.refl _
  with_reducible refine (State.updPath_frame _ _ _).timeAfter (by decide) ?_
  with_reducible refine (State.recPath_frame _ _ _ _ _).timeAfter (by decide) ?_
  with_reducible exact TimeKept.refl _
  with_reducible refine (State.updMove_frame _ _ _).timeAfter (by decide) ?_
  with_reducible exact TimeKept.refl _
  with_reducible refine (State.stateNotice_frame _ _ _ _).timeAfter (by decide) ?_
  with_reducible refine (State.maxField_frame _ _ _ _ _).timeAfter (by decide) ?_
  with_reducible refine TimeKept.foldl (fun _ _ => ?_) ?_ _
  with_reducible refine TimeKept.ite ?_ ?_
  with_reducible exact TimeKept.refl _
  with_reducible refine (State.updPath_frame _ _ _).timeAfter (by decide) ?_
  with_reducible refine (State.recPath_frame _ _ _ _ _).timeAfter (by decide) ?_
  with_reducible exact TimeKept.refl _
  with_reducible refine (State.updMove_frame _ _ _).timeAfter (by decide) ?_
  with_reducible exact TimeKept.refl _
  with_reducible refine TimeKept.ite ?_ ?_
  with_reducible refine (State.inTick_time _ _ (fun _ => ?_)).after ?_
  with_reducible refine (State.sendSched_frame _ _).timeAfter (by decide) ?_
  with_reducible exact TimeKept.refl _
  with_reducible refine (State.stateNotice_frame _ _ _ _).timeAfter (by decide) ?_
  with_reducible refine (State.maxField_frame _ _ _ _ _).timeAfter (by decide) ?_
  with_reducible refine TimeKept.foldl (fun _ _ => ?_) ?_ _
  with_reducible refine TimeKept.ite ?_ ?_
  with_reducible exact TimeKept.refl _
  with_reducible refine (State.updPath_frame _ _ _).timeAfter (by decide) ?_
  with_reducible refine (State.recPath_frame _ _ _ _ _).timeAfter (by decide) ?_
  with_reducible exact TimeKept.refl _
  with_reducible refine (State.updMove_frame _ _ _).timeAfter (by decide) ?_
  with_reducible exact TimeKept.refl _
  with_reducible refine (State.stateNotice_frame _ _ _ _).timeAfter (by decide) ?_
  with_reducible refine (State.maxField_frame _ _ _ _ _).timeAfter (by decide) ?_
  with_reducible refine TimeKept.foldl (fun _ _ => ?_) ?_ _
  with_reducible refine TimeKept.ite ?_ ?_
  with_reducible exact TimeKept.refl _
  with_reducible refine (State.updPath_frame _ _ _).timeAfter (by decide) ?_
  with_reducible refine (State.recPath_frame _ _ _ _ _).timeAfter (by decide) ?_
  with_reducible exact TimeKept.refl _
  with_reducible refine (State.updMove_frame _ _ _).timeAfter (by decide) ?_
  with_reducible exact TimeKept.refl _

theorem State.planMove_time (s : State) (m : Move) (routes : List Route) (loose failed : List Nat) :
    TimeKept s (State.planMove s m routes loose failed) := by
  unfold State.planMove
  extract_lets
  with_reducible refine TimeKept.ite ?_ ?_
  with_reducible refine (State.failMove_frame _ _ _).timeAfter (by decide) ?_
  with_reducible exact TimeKept.refl _
  with_reducible refine TimeKept.ite ?_ ?_
  with_reducible refine TimeKept.ite ?_ ?_
  with_reducible refine (State.failMove_frame _ _ _).timeAfter (by decide) ?_
  with_reducible exact TimeKept.refl _
  with_reducible exact TimeKept.refl _
  with_reducible refine TimeKept.ite ?_ ?_
  with_reducible exact TimeKept.refl _
  with_reducible refine TimeKept.ite ?_ ?_
  with_reducible refine (State.failMove_frame _ _ _).timeAfter (by decide) ?_
  with_reducible exact TimeKept.refl _
  with_reducible refine (State.setPlanned_time _ _ _ _ _).after ?_
  with_reducible exact TimeKept.refl _

theorem State.scrubFinds_time (s : State) (p : Nat) (x2 : ScrubResult) :
    TimeKept s (State.scrubFinds s p x2) := by
  unfold State.scrubFinds
  split
  with_reducible exact TimeKept.refl _
  with_reducible refine (State.correctedLine_frame _ _ _).timeAfter (by decide) ?_
  with_reducible exact TimeKept.refl _
  with_reducible refine (State.scrubBad_frame _ _ _).timeAfter (by decide) ?_
  with_reducible exact TimeKept.refl _
  with_reducible refine TimeKept.ite ?_ ?_
  with_reducible refine (State.lineLost_time _ _ _).after ?_
  with_reducible exact TimeKept.refl _
  with_reducible refine (State.scrubBad_frame _ _ _).timeAfter (by decide) ?_
  with_reducible exact TimeKept.refl _
  split
  with_reducible exact TimeKept.refl _
  with_reducible refine (State.correctedLine_frame _ _ _).timeAfter (by decide) ?_
  with_reducible exact TimeKept.refl _
  with_reducible refine (State.scrubBad_frame _ _ _).timeAfter (by decide) ?_
  with_reducible exact TimeKept.refl _

theorem State.seeReference_time (s : State) (ps : Int) :
    TimeKept s (State.seeReference s ps) := by
  unfold State.seeReference
  extract_lets
  with_reducible refine (State.setReg_frame _ _ _).timeAfter (by decide) ?_
  ((with_reducible refine TimeKept.hrtAfter ?_ ?_); · exact ⟨rfl, rfl, rfl, rfl, rfl, rfl⟩)
  with_reducible exact TimeKept.refl _

theorem State.sendNext_time (s : State) (p prio : Nat) (c : TxCell) :
    TimeKept s (State.sendNext s p prio c) := by
  unfold State.sendNext
  with_reducible refine (State.inTick_time _ _ (fun _ => ?_)).after ?_
  with_reducible refine (State.send_frame _ _ _ _).timeAfter (by decide) ?_
  with_reducible exact TimeKept.refl _
  with_reducible exact TimeKept.refl _

theorem State.stepEpoch_time (s : State) :
    TimeKept s (State.stepEpoch s) := by
  unfold State.stepEpoch
  extract_lets
  split
  with_reducible refine TimeKept.ite ?_ ?_
  with_reducible refine (State.raise_frame _ _ _ _ _).timeAfter (by decide) ?_
  with_reducible refine (State.epochResult_frame _ _).timeAfter (by decide) ?_
  ((with_reducible refine TimeKept.hrtAfter ?_ ?_); · exact ⟨rfl, rfl, rfl, rfl, rfl, rfl⟩)
  with_reducible exact TimeKept.refl _
  with_reducible exact TimeKept.refl _
  with_reducible exact TimeKept.refl _

theorem State.uncountFrame_time (s : State) :
    TimeKept s (State.uncountFrame s) := by
  unfold State.uncountFrame
  extract_lets
  with_reducible refine TimeKept.ite ?_ ?_
  with_reducible refine (State.setField_frame _ _ _ _ _).timeAfter (by decide) ?_
  ((with_reducible refine TimeKept.hrtAfter ?_ ?_); · exact ⟨rfl, rfl, rfl, rfl, rfl, rfl⟩)
  with_reducible exact TimeKept.refl _
  with_reducible exact TimeKept.refl _

theorem execBeatComplete_time (tile : BitVec 7) (queue : BitVec 2) (beat : Option (BitVec 8) × Nat) (out : BeatOutcome) (s : State) :
    After TimeKept s (execBeatComplete tile queue beat out s) := by
  unfold execBeatComplete
  extract_lets
  split
  with_reducible refine After.next ?_
  with_reducible refine (State.loadBeat_frame _ _ _ _ _).timeAfter (by decide) ?_
  with_reducible exact TimeKept.refl _
  with_reducible refine After.next ?_
  with_reducible refine (State.raise_frame _ _ _ _ _).timeAfter (by decide) ?_
  with_reducible refine (State.loadBeat_frame _ _ _ _ _).timeAfter (by decide) ?_
  with_reducible exact TimeKept.refl _
  with_reducible refine After.ite ?_ ?_
  with_reducible refine After.next ?_
  with_reducible exact TimeKept.refl _
  extract_lets
  split
  split
  with_reducible refine After.next ?_
  with_reducible refine (State.frameBeat_time _ _ _ _ _ _).after ?_
  with_reducible exact TimeKept.refl _
  with_reducible refine After.next ?_
  with_reducible exact TimeKept.refl _
  split
  split
  with_reducible refine After.next ?_
  with_reducible refine (State.bulkBeat_time _ _ _ _ _ _ _).after ?_
  with_reducible exact TimeKept.refl _
  with_reducible refine After.next ?_
  with_reducible exact TimeKept.refl _
  with_reducible refine After.next ?_
  with_reducible exact TimeKept.refl _

theorem execCellClose_time (porch : BitVec 4) (cycle leaves : BitVec 21) (s : State) :
    After TimeKept s (execCellClose porch cycle leaves s) := by
  unfold execCellClose
  with_reducible refine After.ite ?_ ?_
  with_reducible refine After.next ?_
  with_reducible refine (State.closeCell_time _ _ _).after ?_
  with_reducible exact TimeKept.refl _
  with_reducible refine After.next ?_
  with_reducible exact TimeKept.refl _

theorem execClaimDecision_time (s : State) :
    After TimeKept s (execClaimDecision s) := by
  unfold execClaimDecision
  with_reducible refine After.next ?_
  with_reducible refine (State.decideClaim_time _).after ?_
  with_reducible exact TimeKept.refl _

theorem execCommitTakeEffect_time (s : State) :
    After TimeKept s (execCommitTakeEffect s) := by
  unfold execCommitTakeEffect
  with_reducible refine After.next ?_
  with_reducible refine (State.commitEffect_time _).after ?_
  with_reducible exact TimeKept.refl _

theorem execEmitDeadline_time (s : State) :
    After TimeKept s (execEmitDeadline s) := by
  unfold execEmitDeadline
  with_reducible refine After.ite ?_ ?_
  with_reducible refine After.next ?_
  with_reducible refine (State.emitDeadline_time _).after ?_
  with_reducible exact TimeKept.refl _
  with_reducible refine After.next ?_
  with_reducible exact TimeKept.refl _

theorem execEpochStep_time (s : State) :
    After TimeKept s (execEpochStep s) := by
  unfold execEpochStep
  with_reducible refine After.next ?_
  with_reducible refine (State.stepEpoch_time _).after ?_
  with_reducible exact TimeKept.refl _

theorem execEstimateLands_time (outs : List NetOut) (late : List (BitVec 14)) (s : State) :
    After TimeKept s (execEstimateLands outs late s) := by
  unfold execEstimateLands
  with_reducible refine After.ite ?_ ?_
  with_reducible refine After.next ?_
  with_reducible refine TimeKept.foldl (fun _ _ => ?_) ?_ _
  with_reducible refine (State.landOut_time _ _ _).after ?_
  with_reducible exact TimeKept.refl _
  with_reducible exact TimeKept.refl _
  with_reducible refine After.next ?_
  with_reducible exact TimeKept.refl _

theorem execFaultCell_time (porch : BitVec 4) (f : FaultCell) (s : State) :
    After TimeKept s (execFaultCell porch f s) := by
  unfold execFaultCell
  extract_lets
  with_reducible refine After.ite ?_ ?_
  with_reducible refine After.next ?_
  with_reducible exact TimeKept.refl _
  with_reducible refine After.next ?_
  with_reducible refine TimeKept.ite ?_ ?_
  with_reducible refine (State.freezeWhere_frame _ _ _).timeAfter (by decide) ?_
  with_reducible refine (State.guardState_frame _ _).timeAfter (by decide) ?_
  with_reducible refine TimeKept.ite ?_ ?_
  with_reducible refine TimeKept.each (fun _ _ => ?_) ?_ _
  with_reducible refine (State.holdPorch_frame _ _ _).timeAfter (by decide) ?_
  with_reducible exact TimeKept.refl _
  with_reducible refine (State.guardEvent_time _ _).after ?_
  with_reducible refine (State.raise_frame _ _ _ _ _).timeAfter (by decide) ?_
  with_reducible refine (State.updPorch_frame _ _ _).timeAfter (by decide) ?_
  with_reducible refine (State.receive_frame _ _).timeAfter (by decide) ?_
  with_reducible exact TimeKept.refl _
  with_reducible refine (State.guardEvent_time _ _).after ?_
  with_reducible refine (State.raise_frame _ _ _ _ _).timeAfter (by decide) ?_
  with_reducible refine (State.updPorch_frame _ _ _).timeAfter (by decide) ?_
  with_reducible refine (State.receive_frame _ _).timeAfter (by decide) ?_
  with_reducible exact TimeKept.refl _
  with_reducible refine (State.guardState_frame _ _).timeAfter (by decide) ?_
  with_reducible refine TimeKept.ite ?_ ?_
  with_reducible refine TimeKept.each (fun _ _ => ?_) ?_ _
  with_reducible refine (State.holdPorch_frame _ _ _).timeAfter (by decide) ?_
  with_reducible exact TimeKept.refl _
  with_reducible refine (State.guardEvent_time _ _).after ?_
  with_reducible refine (State.raise_frame _ _ _ _ _).timeAfter (by decide) ?_
  with_reducible refine (State.updPorch_frame _ _ _).timeAfter (by decide) ?_
  with_reducible refine (State.receive_frame _ _).timeAfter (by decide) ?_
  with_reducible exact TimeKept.refl _
  with_reducible refine (State.guardEvent_time _ _).after ?_
  with_reducible refine (State.raise_frame _ _ _ _ _).timeAfter (by decide) ?_
  with_reducible refine (State.updPorch_frame _ _ _).timeAfter (by decide) ?_
  with_reducible refine (State.receive_frame _ _).timeAfter (by decide) ?_
  with_reducible exact TimeKept.refl _

theorem execGuardMismatch_time (s : State) :
    After TimeKept s (execGuardMismatch s) := by
  unfold execGuardMismatch
  with_reducible refine After.next ?_
  with_reducible refine (State.verdict_time _ _ _ _ (fun _ => ?_)).after ?_
  with_reducible refine (State.withdraw_frame _ _ _).timeAfter (by decide) ?_
  with_reducible exact TimeKept.refl _
  with_reducible exact TimeKept.refl _

theorem execHalt_time (lowNs : Nat) (s : State) :
    After TimeKept s (execHalt lowNs s) := by
  unfold execHalt
  extract_lets
  with_reducible refine After.ite ?_ ?_
  with_reducible refine After.next ?_
  with_reducible refine (State.freezeWhere_frame _ _ _).timeAfter (by decide) ?_
  with_reducible refine TimeKept.ite ?_ ?_
  with_reducible refine (State.sendAll_frame _ _ _ _).timeAfter (by decide) ?_
  with_reducible refine (State.guardEvent_time _ _).after ?_
  with_reducible refine (SameBut.pins_frame _ _).timeAfter (by decide) ?_
  with_reducible refine (State.freeTick_frame _).timeAfter (by decide) ?_
  with_reducible exact TimeKept.refl _
  with_reducible refine (State.guardState_frame _ _).timeAfter (by decide) ?_
  with_reducible refine (State.guardEvent_time _ _).after ?_
  with_reducible refine (SameBut.pins_frame _ _).timeAfter (by decide) ?_
  with_reducible refine (State.freeTick_frame _).timeAfter (by decide) ?_
  with_reducible exact TimeKept.refl _
  with_reducible refine After.next ?_
  with_reducible refine (State.freeTick_frame _).timeAfter (by decide) ?_
  with_reducible exact TimeKept.refl _

theorem execLockGained_time (s : State) :
    After TimeKept s (execLockGained s) := by
  unfold execLockGained
  with_reducible refine After.ite ?_ ?_
  with_reducible refine After.next ?_
  with_reducible refine (State.toLock_time _ _).after ?_
  with_reducible exact TimeKept.refl _
  with_reducible refine After.next ?_
  with_reducible exact TimeKept.refl _

theorem execLossOfLight_time (cage : Fin 18) (s : State) :
    After TimeKept s (execLossOfLight cage s) := by
  unfold execLossOfLight
  extract_lets
  with_reducible refine After.ite ?_ ?_
  with_reducible refine After.next ?_
  with_reducible exact TimeKept.refl _
  with_reducible refine After.next ?_
  with_reducible refine (State.raise_frame _ _ _ _ _).timeAfter (by decide) ?_
  with_reducible refine TimeKept.foldl (fun _ _ => ?_) ?_ _
  with_reducible refine (State.darkLane_frame _ _).timeAfter (by decide) ?_
  with_reducible exact TimeKept.refl _
  with_reducible refine TimeKept.ite ?_ ?_
  with_reducible refine (State.updPorch_frame _ _ _).timeAfter (by decide) ?_
  with_reducible refine (State.darkRun_frame _ _).timeAfter (by decide) ?_
  with_reducible refine (State.updCage_frame _ _ _).timeAfter (by decide) ?_
  with_reducible refine (State.squelchCage_frame _ _ _).timeAfter (by decide) ?_
  with_reducible refine (State.guardEvent_time _ _).after ?_
  with_reducible exact TimeKept.refl _
  with_reducible refine (State.updCage_frame _ _ _).timeAfter (by decide) ?_
  with_reducible refine (State.squelchCage_frame _ _ _).timeAfter (by decide) ?_
  with_reducible refine (State.guardEvent_time _ _).after ?_
  with_reducible exact TimeKept.refl _

theorem execPatrolScrub_time (page : BitVec 24) (r : ScrubResult) (s : State) :
    After TimeKept s (execPatrolScrub page r s) := by
  unfold execPatrolScrub
  extract_lets
  with_reducible refine After.ite ?_ ?_
  with_reducible refine After.next ?_
  with_reducible exact TimeKept.refl _
  with_reducible refine After.next ?_
  with_reducible refine (State.scrubFinds_time _ _ _).after ?_
  with_reducible refine (State.updDev_frame _ _ _).timeAfter (by decide) ?_
  with_reducible exact TimeKept.refl _

theorem execPlacementSelect_time (s : State) :
    After TimeKept s (execPlacementSelect s) := by
  unfold execPlacementSelect
  with_reducible refine After.next ?_
  with_reducible refine (State.selectPlacement_time _).after ?_
  with_reducible exact TimeKept.refl _

theorem execPlanningDone_time (routes : List Route) (loose failed : List (BitVec 13)) (s : State) :
    After TimeKept s (execPlanningDone routes loose failed s) := by
  unfold execPlanningDone
  split
  with_reducible refine After.ite ?_ ?_
  with_reducible refine After.next ?_
  with_reducible refine (State.planMove_time _ _ _ _ _).after ?_
  with_reducible exact TimeKept.refl _
  with_reducible refine After.next ?_
  with_reducible exact TimeKept.refl _
  with_reducible refine After.next ?_
  with_reducible exact TimeKept.refl _

theorem execPorchLost_time (porch : BitVec 4) (s : State) :
    After TimeKept s (execPorchLost porch s) := by
  unfold execPorchLost
  with_reducible refine After.next ?_
  with_reducible refine (State.losePorch_time _ _).after ?_
  with_reducible exact TimeKept.refl _

theorem execPpsSecond_time (s : State) :
    After TimeKept s (execPpsSecond s) := by
  unfold execPpsSecond
  extract_lets
  with_reducible refine After.ite ?_ ?_
  with_reducible refine After.next ?_
  ((with_reducible refine TimeKept.hrt_pinsAfter ?_ ?_); · exact ⟨rfl, rfl, rfl, rfl, rfl, rfl⟩)
  with_reducible exact TimeKept.refl _
  with_reducible refine After.next ?_
  with_reducible exact TimeKept.refl _

theorem execReferenceLost_time (s : State) :
    After TimeKept s (execReferenceLost s) := by
  unfold execReferenceLost
  with_reducible refine After.next ?_
  with_reducible refine (State.loseReference_time _).after ?_
  with_reducible exact TimeKept.refl _

theorem execReflexTrip_time (entry : BitVec 12) (s : State) :
    After TimeKept s (execReflexTrip entry s) := by
  unfold execReflexTrip
  with_reducible refine After.next ?_
  with_reducible refine TimeKept.ite ?_ ?_
  with_reducible refine (State.tripReflex_time _ _).after ?_
  with_reducible exact TimeKept.refl _
  with_reducible exact TimeKept.refl _

theorem execResyncStart_time (s : State) :
    After TimeKept s (execResyncStart s) := by
  unfold execResyncStart
  with_reducible refine After.next ?_
  with_reducible refine (State.startResync_time _).after ?_
  with_reducible exact TimeKept.refl _

theorem execStateEcc_time (loop : BitVec 14) (s : State) :
    After TimeKept s (execStateEcc loop s) := by
  unfold execStateEcc
  extract_lets
  with_reducible refine After.next ?_
  with_reducible refine (State.verdict_time _ _ _ _ (fun _ => ?_)).after ?_
  with_reducible refine (State.record_frame _ _ _ _ _).timeAfter (by decide) ?_
  with_reducible refine (State.faultOn_frame _ _ _).timeAfter (by decide) ?_
  with_reducible refine (State.freezeLoop_frame _ _ _).timeAfter (by decide) ?_
  with_reducible exact TimeKept.refl _
  with_reducible refine (State.setField_frame _ _ _ _ _).timeAfter (by decide) ?_
  with_reducible refine (State.raise_frame _ _ _ _ _).timeAfter (by decide) ?_
  with_reducible exact TimeKept.refl _

theorem execSupervisorFatal_time (s : State) :
    After TimeKept s (execSupervisorFatal s) := by
  unfold execSupervisorFatal
  with_reducible refine After.next ?_
  with_reducible refine (State.fatal_time _).after ?_
  with_reducible exact TimeKept.refl _

theorem execTickInEdge_time (offset : Int) (s : State) :
    After TimeKept s (execTickInEdge offset s) := by
  unfold execTickInEdge
  extract_lets
  with_reducible refine After.ite ?_ ?_
  with_reducible refine After.next ?_
  with_reducible refine (State.seeReference_time _ _).after ?_
  ((with_reducible refine TimeKept.hrtAfter ?_ ?_); · exact ⟨rfl, rfl, rfl, rfl, rfl, rfl⟩)
  with_reducible exact TimeKept.refl _
  with_reducible refine After.next ?_
  ((with_reducible refine TimeKept.hrtAfter ?_ ?_); · exact ⟨rfl, rfl, rfl, rfl, rfl, rfl⟩)
  with_reducible exact TimeKept.refl _

theorem execTimeCellRx_time (c : TimeCell) (offset : Int) (s : State) :
    After TimeKept s (execTimeCellRx c offset s) := by
  unfold execTimeCellRx
  extract_lets
  with_reducible refine After.ite ?_ ?_
  with_reducible refine After.next ?_
  with_reducible exact TimeKept.refl _
  with_reducible refine After.ite ?_ ?_
  with_reducible refine After.ite ?_ ?_
  with_reducible refine After.ite ?_ ?_
  with_reducible refine After.next ?_
  with_reducible refine TimeKept.ite ?_ ?_
  ((with_reducible refine TimeKept.hrtAfter ?_ ?_); · exact ⟨rfl, rfl, rfl, rfl, rfl, rfl⟩)
  with_reducible refine (State.seeEpoch_frame _ _).timeAfter (by decide) ?_
  with_reducible refine (State.receiveLanding_frame _).timeAfter (by decide) ?_
  with_reducible exact TimeKept.refl _
  ((with_reducible refine TimeKept.hrtAfter ?_ ?_); · exact ⟨rfl, rfl, rfl, rfl, rfl, rfl⟩)
  ((with_reducible refine TimeKept.hrtAfter ?_ ?_); · exact ⟨rfl, rfl, rfl, rfl, rfl, rfl⟩)
  with_reducible refine (State.seeEpoch_frame _ _).timeAfter (by decide) ?_
  with_reducible refine (State.receiveLanding_frame _).timeAfter (by decide) ?_
  with_reducible exact TimeKept.refl _
  with_reducible refine After.next ?_
  with_reducible refine (State.seeReference_time _ _).after ?_
  with_reducible refine TimeKept.ite ?_ ?_
  ((with_reducible refine TimeKept.hrtAfter ?_ ?_); · exact ⟨rfl, rfl, rfl, rfl, rfl, rfl⟩)
  with_reducible refine (State.seeEpoch_frame _ _).timeAfter (by decide) ?_
  with_reducible refine (State.receiveLanding_frame _).timeAfter (by decide) ?_
  with_reducible exact TimeKept.refl _
  ((with_reducible refine TimeKept.hrtAfter ?_ ?_); · exact ⟨rfl, rfl, rfl, rfl, rfl, rfl⟩)
  ((with_reducible refine TimeKept.hrtAfter ?_ ?_); · exact ⟨rfl, rfl, rfl, rfl, rfl, rfl⟩)
  with_reducible refine (State.seeEpoch_frame _ _).timeAfter (by decide) ?_
  with_reducible refine (State.receiveLanding_frame _).timeAfter (by decide) ?_
  with_reducible exact TimeKept.refl _
  with_reducible refine After.next ?_
  ((with_reducible refine TimeKept.hrtAfter ?_ ?_); · exact ⟨rfl, rfl, rfl, rfl, rfl, rfl⟩)
  with_reducible refine (State.seeEpoch_frame _ _).timeAfter (by decide) ?_
  with_reducible refine (State.receiveLanding_frame _).timeAfter (by decide) ?_
  with_reducible exact TimeKept.refl _
  with_reducible refine After.next ?_
  with_reducible refine (State.seeEpoch_frame _ _).timeAfter (by decide) ?_
  with_reducible refine (State.receiveLanding_frame _).timeAfter (by decide) ?_
  with_reducible exact TimeKept.refl _

theorem execTimebaseLoss_time (s : State) :
    After TimeKept s (execTimebaseLoss s) := by
  unfold execTimebaseLoss
  extract_lets
  with_reducible refine After.ite ?_ ?_
  with_reducible refine After.next ?_
  with_reducible refine (State.record_frame _ _ _ _ _).timeAfter (by decide) ?_
  with_reducible refine (State.raise_frame _ _ _ _ _).timeAfter (by decide) ?_
  with_reducible refine (State.faultOn_frame _ _ _).timeAfter (by decide) ?_
  ((with_reducible refine TimeKept.hrtAfter ?_ ?_); · exact ⟨rfl, rfl, rfl, rfl, rfl, rfl⟩)
  with_reducible exact TimeKept.refl _
  with_reducible refine After.next ?_
  with_reducible exact TimeKept.refl _

theorem execTimebaseReturn_time (s : State) :
    After TimeKept s (execTimebaseReturn s) := by
  unfold execTimebaseReturn
  extract_lets
  with_reducible refine After.ite ?_ ?_
  with_reducible refine After.next ?_
  ((with_reducible refine TimeKept.hrtAfter ?_ ?_); · exact ⟨rfl, rfl, rfl, rfl, rfl, rfl⟩)
  with_reducible exact TimeKept.refl _
  with_reducible refine After.next ?_
  with_reducible exact TimeKept.refl _

theorem execTrip_time (die : Fin 5) (temp : BitVec 16) (s : State) :
    After TimeKept s (execTrip die temp s) := by
  unfold execTrip
  with_reducible refine After.ite ?_ ?_
  with_reducible refine After.next ?_
  with_reducible refine (State.tripNow_time _ _ _).after ?_
  with_reducible exact TimeKept.refl _
  with_reducible refine After.next ?_
  with_reducible exact TimeKept.refl _

theorem execWithdrawCell_time (w : WithdrawCell) (s : State) :
    After TimeKept s (execWithdrawCell w s) := by
  unfold execWithdrawCell
  extract_lets
  with_reducible refine After.ite ?_ ?_
  with_reducible refine After.next ?_
  with_reducible exact TimeKept.refl _
  with_reducible refine After.next ?_
  with_reducible refine TimeKept.ite ?_ ?_
  with_reducible refine (State.startClaim_frame _ _ _).timeAfter (by decide) ?_
  with_reducible refine (State.guardEvent_time _ _).after ?_
  with_reducible refine (State.receiveLanding_frame _).timeAfter (by decide) ?_
  with_reducible exact TimeKept.refl _
  with_reducible refine (State.guardState_frame _ _).timeAfter (by decide) ?_
  with_reducible refine (State.guardEvent_time _ _).after ?_
  with_reducible refine (State.receiveLanding_frame _).timeAfter (by decide) ?_
  with_reducible exact TimeKept.refl _

end Sys2Proof.Machine
end

