-- ==== Sys2Proof/Laws/Trip.lean ====
section
/-! SUPPORT. No definition but a whole-device reset clears the trip latch. -/
namespace Sys2Proof.Machine

theorem State.inTick_trip (f : State → State) (s : State) (hf : ∀ t, TripKept t (f t)) : TripKept s (State.inTick f s) := by
  unfold State.inTick
  extract_lets v1 v2
  refine (SameBut.hrt_porches_frame _ _ _).tripAfter (by decide) ?_
  refine (hf _).after ?_
  exact (SameBut.hrt_porches_frame _ _ _).trip (by decide)

theorem State.verdict_trip (s : State) (reason code : Nat) (solo : State → State) (hs : ∀ t, TripKept t (solo t)) :
    TripKept s (State.verdict s reason code solo) := by
  have hg : TripKept s (s.guardEvent code) := ((State.guardEvent_frame _ _).trip (by decide))
  unfold State.verdict
  extract_lets v1
  have hk : TripKept s (v1.guardState code) := hg.trans ((State.guardState_frame _ _).trip (by decide))
  split
  · exact hg.trans ((State.withdraw_frame _ _ _).trip (by decide))
  · exact hg.trans (hs _)
  · exact (hk.trans ((State.faultOn_frame _ _ _).trip (by decide))).trans ((State.giveUp_frame _ _).trip (by decide))
  · exact hk.trans ((State.faultOn_frame _ _ _).trip (by decide))
  · exact hk.trans ((State.faultOn_frame _ _ _).trip (by decide))

theorem State.powerUpTick_trip (s : State) :
    TripKept s (State.powerUpTick s) := by
  unfold State.powerUpTick
  extract_lets
  with_reducible refine TripKept.ite ?_ ?_
  with_reducible refine (State.record_frame _ _ _ _ _).tripAfter (by decide) ?_
  ((with_reducible refine TripKept.bootAfter ?_ ?_); · first | exact ⟨id, id⟩ | exact ⟨fun _ => rfl, id⟩ | exact ⟨id, fun _ => rfl⟩)
  with_reducible exact TripKept.refl _
  with_reducible exact TripKept.refl _

theorem State.tripNow_trip (s : State) (die : Nat) (temp : Int) :
    TripKept s (State.tripNow s die temp) := by
  unfold State.tripNow
  extract_lets
  with_reducible refine TripKept.ite ?_ ?_
  with_reducible exact TripKept.refl _
  with_reducible refine (State.faultOn_frame _ _ _).tripAfter (by decide) ?_
  with_reducible refine (State.faultOn_frame _ _ _).tripAfter (by decide) ?_
  with_reducible refine (State.recordThermal_frame _ _ _ _ _).tripAfter (by decide) ?_
  with_reducible refine (State.fatal_frame _).tripAfter (by decide) ?_
  ((with_reducible refine TripKept.boot_thmAfter ?_ ?_); · first | exact ⟨id, id⟩ | exact ⟨fun _ => rfl, id⟩ | exact ⟨id, fun _ => rfl⟩)
  with_reducible exact TripKept.refl _

theorem State.ladder_trip (s : State) :
    TripKept s (State.ladder s) := by
  unfold State.ladder
  extract_lets
  with_reducible refine TripKept.ite ?_ ?_
  with_reducible exact TripKept.refl _
  with_reducible refine TripKept.ite ?_ ?_
  with_reducible refine (State.inTick_trip _ _ (fun _ => ?_)).after ?_
  with_reducible refine (State.tripNow_trip _ _ _).after ?_
  with_reducible exact TripKept.refl _
  with_reducible refine TripKept.ite ?_ ?_
  with_reducible refine (State.inTick_trip _ _ (fun _ => ?_)).after ?_
  with_reducible refine (State.enterWithdraw_frame _ _ _).tripAfter (by decide) ?_
  with_reducible exact TripKept.refl _
  with_reducible refine TripKept.ite ?_ ?_
  with_reducible refine (State.enterShed_frame _ _ _).tripAfter (by decide) ?_
  with_reducible exact TripKept.refl _
  with_reducible exact TripKept.refl _
  with_reducible refine TripKept.ite ?_ ?_
  with_reducible refine (SameBut.thm_frame _ _).tripAfter (by decide) ?_
  with_reducible refine TripKept.ite ?_ ?_
  with_reducible refine (State.enterShed_frame _ _ _).tripAfter (by decide) ?_
  with_reducible exact TripKept.refl _
  with_reducible exact TripKept.refl _
  with_reducible refine TripKept.ite ?_ ?_
  with_reducible refine (State.enterShed_frame _ _ _).tripAfter (by decide) ?_
  with_reducible exact TripKept.refl _
  with_reducible exact TripKept.refl _
  with_reducible refine TripKept.ite ?_ ?_
  with_reducible refine (State.inTick_trip _ _ (fun _ => ?_)).after ?_
  with_reducible refine (State.enterWithdraw_frame _ _ _).tripAfter (by decide) ?_
  with_reducible exact TripKept.refl _
  with_reducible refine TripKept.ite ?_ ?_
  with_reducible refine (State.enterShed_frame _ _ _).tripAfter (by decide) ?_
  with_reducible exact TripKept.refl _
  with_reducible exact TripKept.refl _
  with_reducible refine TripKept.ite ?_ ?_
  with_reducible refine (SameBut.thm_frame _ _).tripAfter (by decide) ?_
  with_reducible refine TripKept.ite ?_ ?_
  with_reducible refine (State.enterShed_frame _ _ _).tripAfter (by decide) ?_
  with_reducible exact TripKept.refl _
  with_reducible exact TripKept.refl _
  with_reducible refine TripKept.ite ?_ ?_
  with_reducible refine (State.enterShed_frame _ _ _).tripAfter (by decide) ?_
  with_reducible exact TripKept.refl _
  with_reducible exact TripKept.refl _

theorem State.thermTick_trip (s : State) (x : TickIn) (from_ : Nat) :
    TripKept s (State.thermTick s x from_) := by
  unfold State.thermTick
  extract_lets
  with_reducible refine TripKept.ite ?_ ?_
  with_reducible exact TripKept.refl _
  with_reducible refine (State.powerTick_frame _ _).tripAfter (by decide) ?_
  with_reducible refine (State.clearShed_frame _ _).tripAfter (by decide) ?_
  with_reducible refine (State.endStep_frame _ _).tripAfter (by decide) ?_
  with_reducible refine (State.ladder_trip _).after ?_
  with_reducible refine (State.detectStep_frame _ _).tripAfter (by decide) ?_
  with_reducible refine (State.maxField_frame _ _ _ _ _).tripAfter (by decide) ?_
  with_reducible refine (SameBut.thm_frame _ _).tripAfter (by decide) ?_
  with_reducible refine TripKept.each (fun _ _ => ?_) ?_ _
  with_reducible refine (State.maxTempReg_frame _ _ _).tripAfter (by decide) ?_
  with_reducible refine (State.updDie_frame _ _ _).tripAfter (by decide) ?_
  with_reducible exact TripKept.refl _
  with_reducible exact TripKept.refl _

theorem State.atTick_trip (s : State) (x : TickIn) (from_ : Nat) :
    TripKept s (State.atTick s x from_) := by
  unfold State.atTick
  extract_lets
  with_reducible refine (State.powerUpTick_trip _).after ?_
  with_reducible refine (State.featTick_frame _).tripAfter (by decide) ?_
  with_reducible refine TripKept.ite ?_ ?_
  with_reducible refine (State.passTick_frame _ _).tripAfter (by decide) ?_
  with_reducible refine (State.workTick_frame _ _).tripAfter (by decide) ?_
  with_reducible refine (State.loopTick_frame _ _).tripAfter (by decide) ?_
  with_reducible refine (State.freezeRest_frame _).tripAfter (by decide) ?_
  with_reducible refine (State.planTick_frame _).tripAfter (by decide) ?_
  with_reducible refine (State.takeOrders_frame _).tripAfter (by decide) ?_
  with_reducible refine (State.updTick_frame _ _).tripAfter (by decide) ?_
  with_reducible refine (State.thermTick_trip _ _ _).after ?_
  with_reducible refine (State.resetsTick_frame _).tripAfter (by decide) ?_
  with_reducible refine TripKept.ite ?_ ?_
  with_reducible refine (State.offAndFreeze_frame _).tripAfter (by decide) ?_
  with_reducible refine (State.hearthTick_frame _).tripAfter (by decide) ?_
  with_reducible refine TripKept.ite ?_ ?_
  with_reducible refine (State.linkTick_frame _).tripAfter (by decide) ?_
  with_reducible refine (State.configTick_frame _).tripAfter (by decide) ?_
  with_reducible exact TripKept.refl _
  with_reducible refine (State.configTick_frame _).tripAfter (by decide) ?_
  with_reducible exact TripKept.refl _
  with_reducible refine (State.hearthTick_frame _).tripAfter (by decide) ?_
  with_reducible refine TripKept.ite ?_ ?_
  with_reducible refine (State.linkTick_frame _).tripAfter (by decide) ?_
  with_reducible refine (State.configTick_frame _).tripAfter (by decide) ?_
  with_reducible exact TripKept.refl _
  with_reducible refine (State.configTick_frame _).tripAfter (by decide) ?_
  with_reducible exact TripKept.refl _
  with_reducible refine (State.takeOrders_frame _).tripAfter (by decide) ?_
  with_reducible refine (State.updTick_frame _ _).tripAfter (by decide) ?_
  with_reducible refine (State.thermTick_trip _ _ _).after ?_
  with_reducible refine (State.resetsTick_frame _).tripAfter (by decide) ?_
  with_reducible refine TripKept.ite ?_ ?_
  with_reducible refine (State.offAndFreeze_frame _).tripAfter (by decide) ?_
  with_reducible refine (State.hearthTick_frame _).tripAfter (by decide) ?_
  with_reducible refine TripKept.ite ?_ ?_
  with_reducible refine (State.linkTick_frame _).tripAfter (by decide) ?_
  with_reducible refine (State.configTick_frame _).tripAfter (by decide) ?_
  with_reducible exact TripKept.refl _
  with_reducible refine (State.configTick_frame _).tripAfter (by decide) ?_
  with_reducible exact TripKept.refl _
  with_reducible refine (State.hearthTick_frame _).tripAfter (by decide) ?_
  with_reducible refine TripKept.ite ?_ ?_
  with_reducible refine (State.linkTick_frame _).tripAfter (by decide) ?_
  with_reducible refine (State.configTick_frame _).tripAfter (by decide) ?_
  with_reducible exact TripKept.refl _
  with_reducible refine (State.configTick_frame _).tripAfter (by decide) ?_
  with_reducible exact TripKept.refl _

theorem State.startBoot_trip (s : State) :
    TripKept s (State.startBoot s) := by
  unfold State.startBoot
  extract_lets
  with_reducible refine (State.bootCup_frame _).tripAfter (by decide) ?_
  with_reducible refine (State.chooseSlot_frame _).tripAfter (by decide) ?_
  with_reducible refine (State.bootFallback_frame _).tripAfter (by decide) ?_
  ((with_reducible refine TripKept.boot_attAfter ?_ ?_); · first | exact ⟨id, id⟩ | exact ⟨fun _ => rfl, id⟩ | exact ⟨id, fun _ => rfl⟩)
  with_reducible exact TripKept.refl _

theorem State.tripStop_trip (s : State) :
    TripKept s (State.tripStop s) := by
  unfold State.tripStop
  extract_lets
  with_reducible refine TripKept.each (fun _ _ => ?_) ?_ _
  with_reducible refine (State.updPorch_frame _ _ _).tripAfter (by decide) ?_
  with_reducible exact TripKept.refl _
  ((with_reducible refine TripKept.pins_bootAfter ?_ ?_); · first | exact ⟨id, id⟩ | exact ⟨fun _ => rfl, id⟩ | exact ⟨id, fun _ => rfl⟩)
  with_reducible exact TripKept.refl _

theorem State.stopTick_trip (s : State) :
    TripKept s (State.stopTick s) := by
  unfold State.stopTick
  with_reducible refine TripKept.ite ?_ ?_
  with_reducible refine (State.tripStop_trip _).after ?_
  with_reducible exact TripKept.refl _
  with_reducible exact TripKept.refl _

theorem execConfigurationReady_trip (ms : BitVec 32) (badDevs : List (Fin 16)) (badHops : List (Fin 5)) (s : State) :
    After TripKept s (execConfigurationReady ms badDevs badHops s) := by
  unfold execConfigurationReady
  extract_lets
  with_reducible refine After.ite ?_ ?_
  with_reducible refine After.next ?_
  with_reducible exact TripKept.refl _
  with_reducible refine After.next ?_
  with_reducible refine TripKept.each (fun _ _ => ?_) ?_ _
  with_reducible refine (State.downHop_frame _ _).tripAfter (by decide) ?_
  with_reducible exact TripKept.refl _
  with_reducible refine TripKept.each (fun _ _ => ?_) ?_ _
  with_reducible refine (State.lostAtBoot_frame _ _).tripAfter (by decide) ?_
  with_reducible exact TripKept.refl _
  with_reducible refine TripKept.each (fun _ _ => ?_) ?_ _
  with_reducible refine (State.updPorch_frame _ _ _).tripAfter (by decide) ?_
  with_reducible exact TripKept.refl _
  ((with_reducible refine TripKept.bootAfter ?_ ?_); · first | exact ⟨id, id⟩ | exact ⟨fun _ => rfl, id⟩ | exact ⟨id, fun _ => rfl⟩)
  with_reducible exact TripKept.refl _

theorem execIodSupplyReturn_trip (s : State) :
    After TripKept s (execIodSupplyReturn s) := by
  unfold execIodSupplyReturn
  extract_lets
  with_reducible refine After.ite ?_ ?_
  with_reducible refine After.next ?_
  with_reducible refine TripKept.ite ?_ ?_
  with_reducible refine (State.startBoot_trip _).after ?_
  ((with_reducible refine TripKept.bootAfter ?_ ?_); · first | exact ⟨id, id⟩ | exact ⟨fun _ => rfl, id⟩ | exact ⟨id, fun _ => rfl⟩)
  with_reducible exact TripKept.refl _
  ((with_reducible refine TripKept.bootAfter ?_ ?_); · first | exact ⟨id, id⟩ | exact ⟨fun _ => rfl, id⟩ | exact ⟨id, fun _ => rfl⟩)
  with_reducible exact TripKept.refl _
  with_reducible refine After.next ?_
  with_reducible exact TripKept.refl _

theorem execPorDeassert_trip (s : State) :
    After TripKept s (execPorDeassert s) := by
  unfold execPorDeassert
  extract_lets
  with_reducible refine After.ite ?_ ?_
  with_reducible refine After.next ?_
  with_reducible refine (SameBut.pins_frame _ _).tripAfter (by decide) ?_
  with_reducible exact TripKept.refl _
  with_reducible refine After.next ?_
  with_reducible refine (State.startBoot_trip _).after ?_
  with_reducible refine (SameBut.pins_frame _ _).tripAfter (by decide) ?_
  with_reducible exact TripKept.refl _

theorem execTrip_trip (die : Fin 5) (temp : BitVec 16) (s : State) :
    After TripKept s (execTrip die temp s) := by
  unfold execTrip
  with_reducible refine After.ite ?_ ?_
  with_reducible refine After.next ?_
  with_reducible refine (State.tripNow_trip _ _ _).after ?_
  with_reducible exact TripKept.refl _
  with_reducible refine After.next ?_
  with_reducible exact TripKept.refl _

theorem execTripStop_trip (s : State) :
    After TripKept s (execTripStop s) := by
  unfold execTripStop
  with_reducible refine After.ite ?_ ?_
  with_reducible refine After.next ?_
  with_reducible refine (State.tripStop_trip _).after ?_
  with_reducible exact TripKept.refl _
  with_reducible refine After.next ?_
  with_reducible exact TripKept.refl _

end Sys2Proof.Machine
end

