-- ==== Sys2Proof/Machine/Wire.lean ====
section
/-! DEFINITION. The bytes of cells and the codewords of a lane: payloads, headers and checks, the cell stream, and its delineation
(R311 to R320, R322 to R324, R328, R331, R333 to R338, R343, R447). -/
namespace Sys2Proof.Machine

-- Payloads -------------------------------------------------------------------------------------------------------------------------

/-- An entry of a COMMAND cell or of HOLDING (R324, R338): loop or axis in the top bits, bit 16 for KNOWN. -/
def entryBytes (known : Bool) (e : Nat × Int) : List Byte := leBytes 4 (e.1 * 2 ^ 18 + bit known * 2 ^ 16 + twos 16 e.2)

/-- Payload of a COMMAND cell (R324). -/
def commandBytes (c : CommandCell) : List Byte :=
  padTo8 (leBytes 4 c.applyTick ++ leBytes 4 c.epoch ++ leBytes 1 c.porch ++ leBytes 1 (c.side % 2 + 2 * bit c.fill)
    ++ leBytes 1 c.entries.length ++ leBytes 5 0 ++ c.entries.flatMap (entryBytes false))

/-- Payload of a TIME cell (R331); device times are kept in units of 2^-16 ns. -/
def timeBytes (c : TimeCell) : List Byte :=
  leBytes 8 c.frame ++ leBytes 8 (c.tickTime / 65536) ++ leBytes 2 (c.tickTime % 65536) ++ leBytes 2 (c.txTime % 65536)
    ++ leBytes 4 c.periodCyc ++ leBytes 8 (c.txTime / 65536) ++ leBytes 8 c.periodDt ++ leBytes 4 c.delayPs ++ leBytes 4 c.epoch
    ++ leBytes 8 c.stepTick ++ leBytes 8 (c.stepTime / 65536) ++ leBytes 2 (c.stepTime % 65536) ++ leBytes 1 c.side
    ++ leBytes 1 (bit c.stepPending + 2 * bit c.notLocked) ++ leBytes 4 0

/-- Payload of a STATE cell (R335). -/
def stateBytes (c : StateCell) : List Byte :=
  leBytes 8 c.frame ++ leBytes 4 c.epoch ++ leBytes 1 c.side ++ leBytes 1 c.role ++ leBytes 1 c.lock
    ++ leBytes 1 (bit c.commitPending + 2 * bit c.fault + 4 * bit c.halt + 8 * bit c.guard) ++ leBytes 2 c.reach ++ leBytes 2 c.edits
    ++ leBytes 2 c.ovrWindow ++ leBytes 1 c.guardEvent ++ leBytes 1 0 ++ leBytes 8 c.pendingTick ++ leBytes 64 c.planDigest
    ++ leBytes 64 c.pendingDigest

/-- Payload of an ECHO cell (R333); the device leaves `TURN_PS` 0. -/
def echoBytes (id tx turn : Nat) : List Byte :=
  leBytes 4 id ++ leBytes 2 (tx % 65536) ++ leBytes 2 0 ++ leBytes 8 (tx / 65536) ++ leBytes 4 turn ++ leBytes 4 0

/-- Payload of a LANE cell (R343). -/
def laneBytes (op lane result lseq : Nat) : List Byte :=
  leBytes 1 op ++ leBytes 1 lane ++ leBytes 1 result ++ leBytes 1 0 ++ leBytes 2 lseq ++ leBytes 2 0

/-- Header and data of one part of a MGMT message (R338). -/
def mgmtBytes (opcode msg part parts : Nat) (data : List Byte) : List Byte :=
  padTo8 (leBytes 2 opcode ++ leBytes 2 msg ++ leBytes 2 part ++ leBytes 2 parts ++ data)

/-- Data of CONFIG (R338). -/
def configBytes (c : ConfigMsg) : List Byte :=
  leBytes 1 c.role ++ leBytes 1 c.edge ++ leBytes 1 c.bits ++ leBytes 1 0 ++ leBytes 2 c.first ++ leBytes 2 c.count ++ leBytes 4 c.expose
    ++ leBytes 4 c.streamOff ++ leBytes 4 c.window ++ leBytes 4 c.planId ++ leBytes 8 c.effective ++ leBytes 1 c.porch ++ leBytes 7 0

/-- The relay header of a head image (R447). -/
def relayBytes (op len actTick : Nat) : List Byte := leBytes 1 op ++ leBytes 3 0 ++ leBytes 4 len ++ leBytes 8 actTick

/-- Parts of 512 bytes that `n` bytes of data take (R336, R338). -/
def partsOf (n : Nat) : Nat := max 1 ((n + 511) / 512)

/-- `n` bytes of data that the spec leaves opaque (R336, R338, log 53). -/
def opaqueBytes (key n : Nat) : List Byte := (List.range n).map (Config.cellByte key)

/-- One part of a SCHED or RESYNC stream (R336): its data is not a user interface. -/
def streamBytes (id part parts : Nat) : List Byte :=
  leBytes 4 id ++ leBytes 2 part ++ leBytes 2 parts ++ opaqueBytes (id * 2 ^ 16 + part) 512

/-- The stream of a piece of RESYNC data, whose layout is no user interface (R336): contexts in stream 0 by their batch, tables from
64 on, a bundle and a request behind them (log 53). -/
def resyncBytes : ResyncPart → List Byte
  | .contexts b _ => streamBytes 0 b 256
  | .table id _ => streamBytes (64 + id) 0 1
  | .bundle len _ => streamBytes 0x10040 0 (max 1 ((len + 511) / 512))
  | .again b => streamBytes 0x10041 b 256

/-- The payload of a cell that the unit sends. `msg` numbers MGMT messages, which no rule numbers (log 53); of a head image that spans
several cells it is part 0. -/
def cellPayload (msg : Nat) : TxCell → List Byte
  | .command c => commandBytes c
  | .time c => timeBytes c
  | .hold t e f n side cause =>
    leBytes 4 t ++ leBytes 4 e ++ leBytes 2 f ++ leBytes 2 n ++ leBytes 1 side ++ leBytes 1 cause ++ leBytes 2 0
  | .claim e side reason frame => leBytes 4 e ++ leBytes 1 side ++ leBytes 1 reason ++ leBytes 2 0 ++ leBytes 8 frame
  | .withdraw w => leBytes 4 w.epoch ++ leBytes 1 w.side ++ leBytes 1 w.reason ++ leBytes 2 0 ++ leBytes 8 w.frame
  | .state c => stateBytes c
  | .hello side porch plan => mgmtBytes 1 msg 0 1 (leBytes 1 side ++ leBytes 1 porch ++ leBytes 2 0 ++ leBytes 4 plan)
  | .req r => mgmtBytes 3 msg 0 1 (leBytes 2 r)
  | .config c => mgmtBytes 7 msg 0 1 (configBytes c)
  | .headReset => mgmtBytes 9 msg 0 1 []
  | .imgData op len t =>
    mgmtBytes 10 msg 0 (partsOf (16 + len)) (relayBytes op len t ++ opaqueBytes msg (min len 496))
  | .echo id tx => echoBytes id tx 0
  | .lane op lane result lseq => laneBytes op lane result lseq
  | .sched p => streamBytes p.move.toNat p.part p.parts
  | .resync p => resyncBytes p

/-- `TYPE` of a cell that the unit sends (R320). -/
def cellTyp : TxCell → Nat
  | .command _ => 0x03
  | .time _ => 0x05
  | .hold _ _ _ _ _ _ => 0x06
  | .claim _ _ _ _ => 0x08
  | .withdraw _ => 0x0A
  | .state _ => 0x0B
  | .hello _ _ _ => 0x0D
  | .req _ => 0x0D
  | .config _ => 0x0D
  | .headReset => 0x0D
  | .imgData _ _ _ => 0x0D
  | .echo _ _ => 0x0E
  | .lane _ _ _ _ => 0x0F
  | .sched _ => 0x10
  | .resync _ => 0x11

-- Cells ----------------------------------------------------------------------------------------------------------------------------

/-- The header word of a cell (R314). -/
def headerWord (typ cls len lseq : Nat) : Nat := typ * 2 ^ 26 + cls * 2 ^ 24 + len * 2 ^ 16 + lseq

/-- The bytes of a cell (R314, R315): header, payload, and their CRC-32C. -/
def cellBytes (typ cls lseq : Nat) (payload : List Byte) : List Byte :=
  let b := leBytes 4 (headerWord typ cls (payload.length / 8) lseq) ++ payload
  b ++ leBytes 4 (crc32c b)

/-- An IDLE cell (R316); it takes no `LSEQ`. -/
def idleCell : List Byte := cellBytes 0 3 0 []

/-- `CLASS` by the precedence that a cell is queued with (R22, R314, R319): 0 Guard, 1 Frame, 2 Bulk. -/
def prioClass (prio : Nat) : Nat := if prio < prioFrame then 0 else if prio < prioBulk then 1 else 2

/-- `LEN` range and classes of each type (R320); none for a reserved type. -/
def typeRule : Nat → Option (Nat × Nat × List Nat)
  | 0x00 => some (0, 0, [3])
  | 0x01 => some (2, 65, [1])
  | 0x02 => some (2, 65, [1])
  | 0x03 => some (3, 65, [1])
  | 0x04 => some (3, 3, [2])
  | 0x05 => some (9, 9, [1])
  | 0x06 => some (2, 2, [0])
  | 0x07 => some (2, 2, [0])
  | 0x08 => some (2, 2, [0])
  | 0x09 => some (2, 2, [0])
  | 0x0A => some (2, 2, [0])
  | 0x0B => some (20, 20, [0, 1])
  | 0x0C => some (4, 4, [2])
  | 0x0D => some (1, 65, [2])
  | 0x0E => some (3, 3, [2])
  | 0x0F => some (1, 1, [1])
  | 0x10 => some (1, 65, [2])
  | 0x11 => some (1, 65, [2])
  | _ => none

/-- Why a receiver drops a cell, from its bytes (R317); none for a good cell. -/
def dropCause (b : List Byte) : Option DropCause :=
  let h := leNat (b.take 4)
  let len := h / 2 ^ 16 % 128
  let n := 4 + 8 * len
  if 65 < len then some .length
  else if b.length ≠ n + 4 ∨ leNat (b.drop n) ≠ crc32c (b.take n) then some .crc
  else match typeRule (h / 2 ^ 26) with
    | none => some .reservedType
    | some (lo, hi, cls) =>
      if !cls.contains (h / 2 ^ 24 % 4) then some .wrongClass else if len < lo ∨ hi < len then some .length else none

/-- `LSEQ` of the cell that leaves a porch as number `i` of the current frame (R318). -/
def State.lseqOf (s : State) (p i : Nat) : Nat :=
  ((s.porch p).txSeq + 65536 - (s.porch p).sent.length % 65536 + i) % 65536

/-- The bytes of the cells that a porch sends in the current frame, in the order they leave (R318, R319). -/
def State.frameBytesOf (s : State) (p : Nat) : List (List Byte) :=
  (s.porch p).sent.zipIdx.map fun c =>
    let n := s.lseqOf p c.2
    cellBytes (cellTyp c.1.2) (prioClass c.1.1) n (cellPayload n c.1.2)

-- The stream of a lane -----------------------------------------------------------------------------------------------------------------

/-- The next bytes of a lane's stream: what is left of the cell in transmission, then the cells that wait, then IDLE cells (R314, R316). -/
def gather : Nat → List Byte → List (List Byte) → List Byte × List (List Byte)
  | 0, b, cells => (b, cells)
  | fuel + 1, b, cells =>
    if 640 ≤ b.length then (b, cells)
    else match cells with
      | [] => gather fuel (b ++ idleCell) []
      | c :: cs => gather fuel (b ++ c) cs

/-- The next codeword of a lane (R311): `carry` is the rest of a cell that began before it. Answers the codeword, the new rest, and the
cells that still wait. -/
def nextCodeword (seq : Nat) (carry : List Byte) (cells : List (List Byte)) : Codeword × List Byte × List (List Byte) :=
  let r := gather 81 carry cells
  ({ first := if carry.length < 640 then carry.length / 8 else 0x7F, seq := seq % 32, stream := r.1.take 640 }, r.1.drop 640, r.2)

/-- `CW_SEQ` of the codeword that leaves each lane at a cycle of the frame: one leaves every 51 core cycles exactly (R308, R311), counted
here from tick 0 (DESIGN CHOICE, log 53). -/
def State.cwSeq (s : State) (cycle : Nat) : Nat := (s.hrt.cycles + cycle) / 51 % 32

/-- The whole cells at the front of a stream, and the rest of it (R314). -/
def splitCells : Nat → List Byte → List (List Byte) × List Byte
  | 0, b => ([], b)
  | fuel + 1, b =>
    let n := 8 + 8 * (leNat (b.take 4) / 2 ^ 16 % 128)
    if b.length < 8 ∨ b.length < n then ([], b)
    else let r := splitCells fuel (b.drop n); (b.take n :: r.1, r.2)

/-- A receiver takes a codeword (R313): `carry` is the rest of a cell, none while delineation is lost, which the next correctable codeword's
`FIRST` restores. An uncorrectable codeword is given as none. -/
def takeCodeword (carry : Option (List Byte)) : Option Codeword → List (List Byte) × Option (List Byte)
  | none => ([], none)
  | some c =>
    match carry with
    | some b => let r := splitCells 209 (b ++ c.stream); (r.1, some r.2)
    | none => if c.first = 0x7F then ([], none) else let r := splitCells 81 (c.stream.drop (8 * c.first)); (r.1, some r.2)

/-- Received symbols are correctable to a codeword of RS(544,514): at most 15 of them differ (R311, R313). -/
def correctsTo (received word : List Nat) : Bool :=
  linkClean word && decide (word.length = 544) && decide (received.length = 544)
    && decide (((List.zip received word).filter fun x => x.1 ≠ x.2).length ≤ 15)

end Sys2Proof.Machine
end

