-- ==== Sys2Proof/WellFormed.lean ====
section
/-! DEFINITION. Well-formed commands: operands that the spec's formats can carry. A constructor's type already bounds a field of a
fixed width; the checks here bound what the types leave wider. The machine runs an ill-formed command too. -/
namespace Sys2Proof
open Sys2Proof.Machine

/-- A Q1.15 number in LSB (R133). -/
def isQ15 (x : Int) : Bool := decide (-32768 ≤ x) && decide (x ≤ 32767)

/-- Readings name dies 0 to 4, lanes 0 to 8 of porches 0 to 15, and job numbers (R116, R309, R483). -/
def TickIn.wellFormed (x : TickIn) : Bool :=
  (x.temps.all fun t => decide (t.1 ≤ 4)) && (x.vdd.all fun t => decide (t.1 ≤ 4)) && (x.regions.all fun t => decide (t.1 ≤ 15))
    && (x.fades.all fun t => decide (t.1 ≤ 15) && decide (t.2.1 ≤ 8)) && (x.ran.all fun t => decide (t.1 < 256))
    && (x.jobW.all fun t => decide (t.1 < 256)) && (x.analog.all fun t => decide (t.1 < 8))

/-- A copy moves at least one byte, and a row is no longer than its pitches (R103). -/
def copyFits (c : CopyDesc) : Bool :=
  decide (c.len ≠ 0) && (decide (c.row = 0) || (decide (c.row.toNat ≤ c.srcPitch.toNat) && decide (c.row.toNat ≤ c.dstPitch.toNat)))

/-- A beat lies in one page of 4,096 bytes (R103). -/
def beatFits : BeatOutcome → Bool
  | .ok l => decide (l.length ≤ 4096)
  | .tableLoad _ l => decide (l.length ≤ 4096)
  | _ => true

/-- Waypoints are angles, and the last of them is the target (R232). -/
def routeFits (r : Route) : Bool := !r.way.isEmpty && r.way.all fun w => isQ15 w.1 && isQ15 w.2

/-- A COMMAND cell carries 1 to 126 entries of loops 0 to 16,383 (R324). -/
def commandFits (c : CommandCell) : Bool :=
  decide (1 ≤ c.entries.length) && decide (c.entries.length ≤ 126) && decide (c.side ≤ 1)
    && c.entries.all fun e => decide (e.1 < 16384) && isQ15 e.2

/-- A batch of contexts is one of 256 and holds its own 64 loops (R399). -/
def resyncFits : ResyncPart → Bool
  | .contexts b ls => decide (b < 256) && ls.all fun e => decide (e.1 / 64 = b)
  | .table _ _ => true
  | .bundle len l => l.all fun e => decide (e.1 < len)
  | .again b => decide (b < 256)

/-- Calibration values within the fields of a record (R361). -/
def calFits (v : CalValues) : Bool :=
  decide (v.ctle ≤ 31) && decide (v.ffe.length ≤ 8) && decide (v.dfe.length ≤ 4) && decide (v.slicer.length ≤ 3)

/-- An access is naturally aligned (R8). -/
def widthFits (off : BitVec 22) : Width → Bool
  | .full => decide (off.toNat % 8 = 0)
  | .half => decide (off.toNat % 4 = 0)

/-- The command's operands are such as the spec's formats carry. -/
def Instr.wellFormed : Instr → Bool
  | .porAssert => true
  | .porDeassert => true
  | .configurationReady _ _ _ => true
  | .timebaseAbsent => true
  | .tickZero => true
  | .tick x => x.wellFormed
  | .ppsSecond => true
  | .timebaseLoss => true
  | .timebaseReturn => true
  | .tickInEdge _ => true
  | .timeCellRx c _ => decide (c.side ≤ 1) && decide (0 < c.periodCyc)
  | .alignmentStep _ => true
  | .lockGained => true
  | .referenceLost => true
  | .epochArm => true
  | .epochStep => true
  | .guardSlotStart _ => true
  | .yieldPoint _ => true
  | .forcedPreemption _ _ => true
  | .contextSwitch _ _ => true
  | .emitDeadline => true
  | .overrunFreeze _ => true
  | .lateFillSnapshot => true
  | .cellClose _ _ _ => true
  | .halt _ => true
  | .lossOfLight _ => true
  | .supervisorFatal => true
  | .guardMismatch => true
  | .planValidate => true
  | .validationEnd _ => true
  | .planCommit _ => true
  | .planCancel => true
  | .commitTakeEffect => true
  | .bridgeEnd => true
  | .tableClaim _ => true
  | .copyActiveDone _ => true
  | .tableReady => true
  | .tableRelease => true
  | .tableSwap => true
  | .tableRevert => true
  | .swapTakeEffect => true
  | .tableWindowAccess _ _ _ => true
  | .placementSelect => true
  | .variantSwitch => true
  | .copyIssue _ _ c => copyFits c
  | .copyFence _ _ => true
  | .beatComplete _ _ _ out => beatFits out
  | .cellarTimeout _ _ _ => true
  | .retireSwitch _ => true
  | .faultRetry _ _ => true
  | .faultLimit _ => true
  | .scratchUe _ _ => true
  | .partitionViolation _ _ => true
  | .hopDown _ => true
  | .jobStart _ _ => true
  | .jobAdmitted _ => true
  | .jobPark _ _ => true
  | .jobResume _ _ => true
  | .jobStop _ _ => true
  | .jobExit _ _ => true
  | .patchCell _ _ _ _ px => decide (px.length ≤ 512)
  | .tapCell _ _ first rs => decide (1 ≤ rs.1.length) && decide (rs.1.length ≤ 128) && decide (first.toNat + rs.1.length ≤ 4096)
  | .cutoff ms cs => decide (ms.1.toNat + ms.2.toNat ≤ 8192)
    && cs.all fun c => decide (ms.1.toNat ≤ c.1.toNat) && decide (c.1.toNat < ms.1.toNat + ms.2.toNat)
  | .estimateLands _ _ => true
  | .adaptCandidate _ _ => true
  | .adaptDone _ _ => true
  | .rebuildRoundEnd _ avg => avg.all fun a => decide (a.1 < 16777216) && isQ15 a.2.1 && isQ15 a.2.2.1 && isQ15 a.2.2.2.1 && isQ15 a.2.2.2.2
  | .loopCtlStart _ => true
  | .loopCtlOff _ => true
  | .loopCtlFreeze _ => true
  | .loopCtlRelease _ => true
  | .releaseAll _ => true
  | .setpointWrite _ _ => true
  | .handOver _ => true
  | .acquisitionComplete _ => true
  | .search _ => true
  | .acqTimeout _ => true
  | .warmUpEnd _ => true
  | .implausible _ => true
  | .stateEcc _ => true
  | .datapathMismatch _ => true
  | .descLoad => true
  | .descWrite => true
  | .descCancel => true
  | .descTakeEffect => true
  | .traceArm _ => true
  | .trigNow _ => true
  | .traceWrite _ _ => true
  | .stepEdge _ _ => true
  | .pwmPeriod _ high period => decide (high.toNat ≤ period.toNat) && decide (period.toNat ≠ 0)
  | .pwmStale _ => true
  | .clrCount _ => true
  | .move _ _ => true
  | .abort _ => true
  | .rearm _ => true
  | .rearmAll => true
  | .planningStart => true
  | .planningDone routes _ _ => routes.all routeFits
  | .moveStart _ => true
  | .legEnd _ _ => true
  | .pathReady _ => true
  | .settleTimeout _ => true
  | .deadlineMissed _ => true
  | .pathLoss _ => true
  | .reflexTrip _ => true
  | .schedCell p => decide (p.part < p.parts)
  | .gddr7DeviceLost _ => true
  | .cellarApply => true
  | .shelfWrite _ _ => true
  | .shelfSwap _ => true
  | .shelfPop _ _ _ _ => true
  | .staleTimer _ => true
  | .flush _ => true
  | .empty _ => true
  | .codewordLock _ lane => calFits lane.2
  | .lockLoss _ _ => true
  | .lseqGap _ _ => true
  | .commandCell c => commandFits c
  | .ackCell _ _ => true
  | .faultCell _ _ => true
  | .grantCell _ g => decide (g.toSide ≤ 1)
  | .withdrawCell w => decide (w.side ≤ 1)
  | .stateCell c => decide (c.side ≤ 1) && decide (c.role ≤ 3) && decide (c.lock ≤ 3)
  | .healthCell _ _ => true
  | .echoReply _ _ _ _ => true
  | .laneCell _ _ _ _ _ => true
  | .resyncCell p => resyncFits p
  | .ident _ _ => true
  | .windows _ o => decide (o.length ≤ 2048)
  | .holding _ es => es.all fun e => isQ15 e.2.1
  | .scale _ _ => true
  | .configAck _ _ _ => true
  | .imgResult _ _ => true
  | .porchLost _ => true
  | .rediscover _ => true
  | .headReset _ => true
  | .echoNow _ => true
  | .moduleInsert _ _ _ => true
  | .moduleRemove _ => true
  | .moduleInt _ _ _ _ => true
  | .monitorPoll _ _ _ rx => decide (rx.length ≤ 8)
  | .probe _ => true
  | .probeEnd _ _ => true
  | .lightReturn _ _ => true
  | .latchClear _ => true
  | .calRunStart _ => true
  | .rampStep _ v => calFits v
  | .noAnswer _ => true
  | .calLockRegained _ => true
  | .lockFailed _ => true
  | .compatApply _ v => calFits v
  | .baselineFormed _ _ => true
  | .baselineWrite _ _ _ => true
  | .calNow _ _ => true
  | .restore _ _ => true
  | .laneReturn _ _ => true
  | .calAbort _ => true
  | .heartbeatEdge => true
  | .heartbeatLost => true
  | .claim _ => true
  | .claimDecision => true
  | .reassert => true
  | .rejoin => true
  | .resyncStart => true
  | .seatBound _ => true
  | .clearingDone _ => true
  | .seatReset _ _ => true
  | .perst => true
  | .linkDown => true
  | .linkUp _ _ => true
  | .featureCommit _ => true
  | .slotWrite _ off bytes => decide (1 ≤ bytes.length) && decide (off.toNat + bytes.length ≤ 268435456)
  | .ideFail => true
  | .spdmRequest _ _ => true
  | .ideKeyManagement _ _ _ => true
  | .mailboxCommand _ _ => true
  | .fmApiCommand _ _ => true
  | .enrollKey => true
  | .revokeKey => true
  | .cupboardWriteDone => true
  | .stage _ => true
  | .stagingDone _ => true
  | .activate _ => true
  | .updateCancel => true
  | .confirm => true
  | .fallback => true
  | .activation _ _ => true
  | .restartEnd => true
  | .selftestEnd _ => true
  | .healthWindowEnd => true
  | .fallbackTakeEffect => true
  | .coalesceWindowEnd _ => true
  | .flashCommit _ => true
  | .flashFail => true
  | .opsecSave => true
  | .atticRead => true
  | .atticCancel => true
  | .readDone => true
  | .shedClear => true
  | .stepEnd => true
  | .trip _ _ => true
  | .tripStop => true
  | .supplyFail _ => true
  | .iodSupplyFault => true
  | .faultClear _ => true
  | .timeNsRead _ off w _ => widthFits off w
  | .rcRead _ off w => widthFits off w
  | .registerWrite _ off w _ => widthFits off w
  | .haltNDeasserted => true
  | .iodSupplyReturn => true
  | .uncorrectableCodeword _ _ => true
  | .cellDropped _ _ _ => true
  | .frameProgramEnd _ => true
  | .patrolScrub _ _ => true
  | .pageZeroed _ _ => true
  | .jobTableClaim _ _ _ => true
  | .channelRetraining _ _ => true
  | .linkRecovery => true

end Sys2Proof
end

