-- ==== Sys2Proof/Tests/Slice0.lean ====
section
/-! SUPPORT. The model's own tests: ill-formed commands, the figures of the spec's own examples, one step of each kind, and for every
statement with hypotheses a state and operands that meet them. -/
namespace Sys2Proof.Tests

-- One theorem at a time: many kernel evaluations at once would each take a thread of their own.
set_option Elab.async false
open Sys2Proof Sys2Proof.Machine

-- States -------------------------------------------------------------------------------------------------------------------

/-- A unit whose boot has ended and whose Hearth runs, in frame 100. -/
def up : State := { State.reset with
  boot := { started := true, ready := true }, hrt := { running := true, frame := 100, cycles := 7500000, timebaseOk := true } }

/-- The same with a role. -/
def holding (r : Role) : State := { up with twn := { role := r, epoch := 7, seen := 7 } }

/-- A committed plan with an image porch 0, a drive porch 1 with mirrors 0 to 63, a tap porch 2 and the Landing 3, all READY. -/
def planned (r : Role) : State := { holding r with
  plan := { committed := true, plan := { lanes := [{ role := 1, count := 64 }, { role := 2, count := 64 }, { role := 3, count := 64 }, { role := 4 }] } }
  porches := (span 0 4).map fun p => (p, { state := .ready, locked := 255 }) }

-- Witnesses ------------------------------------------------------------------------------------------------------------------
-- For each statement, in the order of its clauses: states and operands that meet its hypotheses.

theorem canonical_reset : Canonical State.reset := by constructor <;> decide
theorem canonical_up : Canonical up := by constructor <;> decide
theorem canonical_holding (r : Role) : Canonical (holding r) := by constructor <;> rfl

theorem wit_StepRunsFrontCommand :
    { up with pending := [.epochArm, .tickZero] }.pending = Instr.epochArm :: [.tickZero] ∧ up.pending = [] := ⟨rfl, rfl⟩
theorem wit_StepFrame : ∃ t, step { up with pending := [.epochArm, .tickZero] } = .next t := ⟨_, rfl⟩
theorem wit_StepKeepsTables : Canonical up ∧ ∃ t, step { up with pending := [.epochArm] } = .next t := ⟨canonical_up, _, rfl⟩
theorem wit_OnlyTicksMoveTime : movesTime .epochArm = false ∧ ∃ t, exec .epochArm up = .next t := ⟨rfl, _, rfl⟩
theorem wit_FusedVersionNeverFalls : ∃ t, exec .confirm up = .next t := ⟨_, rfl⟩
theorem wit_TripHoldsUntilReset : (∃ t, exec .epochArm { up with boot := { up.boot with tripLatch := true } } = .next t) := ⟨_, rfl⟩
theorem wit_OnlyBadAccessesStop :
    unalignedAccess (.rcRead 0 0x3FFFFF .half) = true ∧ pastHall (.slotWrite 7 0xFFFFFFF [1, 2]) = true
      ∧ unalignedAccess (.rcRead 0 0x3FFFFC .half) = false ∧ pastHall (.slotWrite 7 0xFFFFFFF [1]) = false := by
  (repeat' apply And.intro) <;> decide
theorem wit_WholeDeviceReset :
    State.reset.boot.started = false ∧ State.reset.boot.supplyHold = false
      ∧ { State.reset with boot := { supplyHold := true }, pins := { porN := true } }.boot.supplyHold = true
      ∧ { State.reset with boot := { started := true } }.boot.ready = false
      ∧ (let f : Flash := { State.reset.flash with burnTo := some 2 }; f.burnTo = some 2 ∧ f.fusedSvn ≤ 2)
      ∧ State.reset.flash.burnTo = none ∧ twf (fun _ => ({} : Porch)) State.reset.porches = true := by
  (repeat' apply And.intro) <;> decide
theorem wit_TickAdvancesTheFrame :
    up.hrt.running = true ∧ steerMax up.hrt.cfg ≤ up.hrt.cfg.period ∧ up.upd.recovery = false
      ∧ { up with hrt := { up.hrt with adopt := some (7, 0) } }.nextTick = 7
      ∧ { State.reset with boot := { started := true } }.boot.started = true
      ∧ { State.reset with boot := { started := true } }.hrt.running = false := by
  (repeat' apply And.intro) <;> decide
theorem wit_TimebaseAndPps :
    RegsCanonical up ∧ up.hrt.timebaseOk = true
      ∧ { up with hrt := { up.hrt with timebaseOk := false } }.hrt.running = true
      ∧ { State.reset with boot := { started := true } }.hrt.running = false
      ∧ (let s := { up with hrt := { up.hrt with time := 0 } }; s.secondInFrame = true ∧ bitAt (s.cfgReg Reg.HRT_CTL) 6 = true) := by
  (repeat' apply And.intro) <;> decide

/-- A unit that follows TICK_IN in mode `m`, in a state of the lock. -/
def follower (m : Nat) (k : Lock) : State := { holding .standby with
  regs := [(Reg.HRT_CTL, BitVec.ofNat 64 (0x60 + m))], live := [(Reg.HRT_CTL, BitVec.ofNat 64 (0x60 + m))]
  hrt := { up.hrt with lock := k } }

theorem wit_FollowingTheReference :
    RegsCanonical (follower 2 .acquire) ∧ (follower 2 .acquire).follows = true
      ∧ withinCycles (steerMax up.hrt.cfg + 16) (1000000 - ((follower 2 .locked).inForce Reg.HRT_TICKIN_CFG 32 16 : Nat)) = false
      ∧ (follower 1 .acquire).landingUp = true ∧ (follower 1 .acquire).isRef = false ∧ (follower 1 .acquire).tickinMode = 1
      ∧ (follower 1 .acquire).hrt.aligned = false ∧ (follower 2 .acquire).tickinMode ≠ 1 ∧ (74999 : BitVec 21).toNat < up.hrt.cfg.period
      ∧ (let s : State := { follower 1 .acquire with hrt := { (follower 1 .acquire).hrt with refCell := some ⟨0, 0, 0, 75000, 0, 0, 7, 0, 0, 1, true, false⟩ } }
         s.hrt.refCell.isSome = true ∧ s.follows = true)
      ∧ (let s := { follower 2 .acquire with hrt := { (follower 2 .acquire).hrt with near := 63, phaseNow := some 0, aligned := true } }
         64 ≤ s.nearNext ∧ s.follows = true)
      ∧ (let s := { follower 2 .locked with hrt := { (follower 2 .locked).hrt with silent := 2 } }; 3 ≤ s.silentNext)
      ∧ (let s := { follower 2 .acquire with hrt := { (follower 2 .acquire).hrt with silent := 2 } }; 3 ≤ s.silentNext) := by
  (repeat' apply And.intro) <;> decide

/-- An EPOCH_ARM for tick `k` of a unit with the role. -/
def arming (r : Role) (k : Nat) : State := { holding r with
  regs := [(Reg.HRT_EPOCH_TICK, BitVec.ofNat 64 k)], ops := { epochArm := true } }

theorem wit_EpochSteps :
    (let s := { up with hrt := { up.hrt with epochStep := some (101, 5) } }; s.hrt.epochStep = some (101, 5) ∧ 101 ≤ s.nextTick)
      ∧ (let s := { up with hrt := { up.hrt with epochStep := some (102, 5) } }; s.nextTick < 102)
      ∧ RegsCanonical (arming .solo 104)
      ∧ ((arming .solo 104).reg Reg.HRT_EPOCH_TICK).toNat < (arming .solo 104).nextTick + 4
      ∧ (arming .standby 105).nextTick + 4 ≤ ((arming .standby 105).reg Reg.HRT_EPOCH_TICK).toNat
      ∧ (arming .standby 105).isRef = false ∧ (arming .solo 105).isRef = true ∧ (arming .solo 105).hrt.epochStep = none := by
  (repeat' apply And.intro) <;> decide
theorem wit_HaltPulses : 40 ≤ 40 ∧ 39 < 40 := by
  (repeat' apply And.intro) <;> decide
theorem wit_HaltFreezesEveryLoop :
    let s : State := { up with loops := [(3, { cls := .hold })] }
    twf (fun _ => ({} : Loop)) s.loops = true ∧ (s.loop 3).cls ≠ .off ∧ (s.loop 4).cls = .off := by
  (repeat' apply And.intro) <;> decide
theorem wit_TripAndStop :
    RegsCanonical up ∧ twf (fun _ => ({} : Porch)) up.porches = true ∧ up.boot.started = true ∧ up.boot.tripLatch = false
      ∧ { up with boot := { up.boot with tripLatch := true } }.boot.tripLatch = true
      ∧ (let s : State := { up with boot := { up.boot with tripLatch := true, tripFrom := 7500000 } }
         s.hrt.cycles + s.hrt.cfg.period < s.boot.tripFrom + cyclesMs 1 ∧ s.boot.stopped = false)
      ∧ (let s : State := { up with boot := { up.boot with tripLatch := true, tripFrom := 6375000 } }
         s.boot.tripFrom + cyclesMs 1 ≤ s.hrt.cycles + s.hrt.cfg.period)
      ∧ (holding .active).twn.withdrawAt = none ∧ (holding .active).twn.role = .active ∧ (holding .standby).twn.role = .standby
      ∧ (holding .solo).twn.role = .solo := by
  (repeat' apply And.intro) <;> decide

/-- Every die has stayed cool and calm since cycle 0. -/
def cool (level : Nat) (step : Bool) : State := { up with
  hrt := { up.hrt with cycles := 120000000 }
  thm := { level := level, stepActive := step
           dies := (span 0 5).map fun d => (d, { temp := 10240, coolSince := some 0, calmSince := some (0, 10240) }) } }

theorem wit_GovernorClears :
    RegsCanonical (cool 1 false) ∧ (cool 1 false).thm.level = 1
      ∧ (cool 1 false).coolDies ((cool 1 false).hrt.cycles + (cool 1 false).hrt.cfg.period) = true
      ∧ (cool 1 true).thm.stepActive = true
      ∧ (cool 0 true).calmDies ((cool 0 true).hrt.cycles + (cool 0 true).hrt.cfg.period) = true
      ∧ twf (fun _ => ({} : Die)) (cool 0 true).thm.dies = true ∧ ((cool 0 true).die 3).state ≠ 1
      ∧ (let s : State := { up with thm := { dies := [(3, { state := 1 })] } }; (s.die 3).state = 1) := by
  (repeat' apply And.intro) <;> decide

/-- Tile 5 with the given record. -/
def tiled (x : Tile) : State := { up with til := { tiles := [(5, x)] } }

theorem wit_TilesGiveWay :
    Canonical (tiled { request := true, bulkOn := true, running := some 2 })
      ∧ ((tiled { request := true, bulkOn := true }).tile 5).request = true
      ∧ (let s : State := { tiled {} with til := { tiles := [(5, { contexts := [(2, span 10 4)] })], jobs := [(2, { state := .ready, tiles := [5] })] } }
         s.tileIn 5 = true ∧ s.mayRun 5 2 = true ∧ (s.tile 5).sense = false ∧ (s.tile 5).running = none)
      ∧ (let s : State := { tiled {} with til := { tiles := [(5, { contexts := [(2, [10]), (3, [11])], running := some 3, waiting := true })]
                                                   jobs := [(2, { state := .ready, tiles := [5] }), (3, { state := .running, tiles := [5] })] } }
         s.mayRun 5 2 = true ∧ s.mayRun 5 3 = true ∧ twf (fun _ => ({} : Bank)) (s.tile 5).saved = true ∧ (s.tile 5).bulkOn = false)
      ∧ ((tiled { stage := 0 }).tile 5).sense = true ∧ ((tiled { stage := 0 }).tile 5).fcDone = false
      ∧ ((tiled { stage := 0 }).tile 5).frame.waitOn = [] ∧ ((tiled { stage := 0, frame := { waitOn := [0] } }).tile 5).frame.waitOn ≠ []
      ∧ (let s : State := { tiled {} with til := { tiles := [(5, { contexts := [(2, [10])], stage := 0, nextJob := some 2 })]
                                                   jobs := [(2, { state := .ready, tiles := [5] })] } }
         (s.tile 5).nextJob = some 2 ∧ s.mayRun 5 2 = true)
      ∧ (tiled { stage := 0, bulkOn := true }).senseNext 5 = true
      ∧ ((tiled { stage := 0, bulkOn := true }).tile 5).waiting = false ∧ ((tiled { stage := 0, waiting := true }).tile 5).waiting = true
      ∧ (tiled { stage := 0 }).tileIn 5 = true
      ∧ ((tiled { missed := 1 }).tile 5).lost = false ∧ ((tiled { missed := 1 }).tile 5).lostNow = false
      ∧ 0 < ((tiled { missed := 1 }).tile 5).missed ∧ ((tiled {}).tile 5).missed = 0
      ∧ (5 : BitVec 7) ∈ [(5 : BitVec 7)] ∧ (6 : BitVec 7) ∉ [(5 : BitVec 7)] := by
  refine ⟨by constructor <;> decide, ?_⟩
  (repeat' apply And.intro) <;> decide

/-- Tile 5 holds contexts of the jobs 2 and 3 behind 10 frame-critical pages; job 2 runs. -/
def contexts : State := { up with til := {
  tiles := [(5, { fcMap := span 0 10, contexts := [(2, span 10 4), (3, span 14 6)], running := some 2, bulkOn := true })]
  jobs := [(2, { state := .running, tiles := [5] }), (3, { state := .ready, tiles := [5] })] } }

/-- Placement 0 needs tile 5, which is lost; placement 1 does not. -/
def displaced (fails : Nat) : State := { planned .active with
  til := { tiles := [(5, { lost := true })] }
  plan := { (planned .active).plan with
    selectNow := true
    plan := { (planned .active).plan.plan with
      place0 := { mask := 32 }, places := [{ mask := 64, fail := fails, stages := [(6, 2)], scratch := [(6, 8192)] }] } } }

theorem wit_LosingTilesAndDies :
    Canonical contexts ∧ (contexts.tile 5).lost = false ∧ (contexts.tile 5).lostNow = false
      ∧ 9 ∈ (contexts.tile 5).fcMap ∧ 992 ≤ 992 ∧ 10 ∉ (contexts.tile 5).fcMap ∧ 991 < 992 ∧ 991 ∉ (contexts.tile 5).retired
      ∧ (contexts.tile 5).contexts.find? (fun c => c.2.contains 14) = some (3, span 14 6) ∧ (contexts.tile 5).bulkOn = true
      ∧ 4 ∈ ({ retired := [4] } : Tile).retired ∧ (tiled {}).tile 5 = {}
      ∧ (contexts.job 3).state = .ready ∧ (contexts.job 2).state = .running ∧ (contexts.tile 5).running = some 2
      ∧ 4 ∉ contexts.til.hops ∧ { up with til := { hops := [4] } }.til.hops = [4]
      ∧ Canonical (displaced 0) ∧ (displaced 0).fits 1 = true ∧ (displaced 0).fits 0 = false ∧ 1 ≠ (displaced 0).plan.variant
      ∧ (∀ v, v < 5 → (displaced 9).fits v = false) ∧ (displaced 9).roleNow = .active ∧ up.plan.selectNow = false
      ∧ (displaced 0).plan.switchAt = none ∧ (displaced 0).plan.selectNow = true ∧ (displaced 9).plan.committed = true
      ∧ (displaced 0).placement 1 = some { mask := 64, stages := [(6, 2)], scratch := [(6, 8192)] }
      ∧ ((displaced 0).plan.committed = true)
      ∧ { up.plan with switchAt := some (1, 101) }.switchAt = some (1, up.nextTick) := by
  refine ⟨by constructor <;> decide, ?_, ?_, ?_, ?_, ?_, ?_, ?_, ?_, ?_, ?_, ?_, ?_, ?_, ?_, ?_, ?_, by constructor <;> decide, ?_⟩
  all_goals (repeat' apply And.intro) <;> decide

/-- Porch 1 has an open cell with a command of loop 3, and loop 4 has no command yet. -/
def emitting : State := { planned .solo with
  loops := [(3, { cls := .hold, ready := some 9, celled := true }), (4, { cls := .hold })]
  porches := tupd (fun _ => {}) (planned .solo).porches 1 fun q => { q with openCell := { entries := [(3, 9)] } } }

/-- A standby whose loop 3 may fill, and loop 4 is frozen. -/
def filling : State := { planned .standby with
  loops := [(3, { cls := .hold, ready := some 9 }), (4, { cls := .freeze, ready := some 5 })]
  hrt := { up.hrt with lock := .locked }
  twn := { (planned .standby).twn with twin := some ⟨99, 7, 1, 0, 2, false, false, false, false, 0, 0, 0, 0, 0, 0, 0⟩ } }

theorem wit_CellsAndTheEmitDeadline :
    Canonical emitting ∧ emitting.hrt.running = true ∧ emitting.hrt.emitted = false
      ∧ (60000 : BitVec 21).toNat ≤ emitting.hrt.cfg.emitDl ∧ emitting.hrt.cfg.emitDl < (60001 : BitVec 21).toNat
      ∧ (emitting.porch 1).openCell.entries ≠ [] ∧ ((emitting.porch 1).openCell.entries.map Prod.fst).Nodup
      ∧ emitting.boot.stopped = false ∧ (emitting.loop 4).due emitting.hrt.frame = true ∧ (emitting.loop 4).ready = none
      ∧ (emitting.loop 4).excused = false ∧ 4 ∉ emitting.hrt.ovrNow
      ∧ (∀ p, p < 4 → ∀ e ∈ (emitting.porch p).openCell.entries, e.1 ≠ 4)
      ∧ Canonical filling ∧ filling.twn.twin.isSome = true ∧ filling.twn.snapshot = false ∧ filling.makesFill = true
      ∧ filling.drivePorch 3 = some 1 ∧ (filling.porch 1).state = .ready ∧ filling.fills 3 (filling.loop 3) = true
      ∧ filling.fills 4 (filling.loop 4) = false := by
  refine ⟨by constructor <;> decide, ?_, ?_, ?_, ?_, ?_, ?_, ?_, ?_, ?_, ?_, ?_, ?_, by constructor <;> decide, ?_⟩
  all_goals (repeat' apply And.intro) <;> decide
theorem wit_NoLateFillOutsideRun :
    Canonical filling ∧ (filling.loop 4).cls = .freeze ∧ (filling.loop 5).cls = .off
      ∧ ({ filling with loops := [(3, { cls := .acquire })] }.loop 3).cls = .acquire := by
  refine ⟨by constructor <;> decide, by decide, by decide, by decide⟩

/-- A plain copy of 100 bytes within the scratch of the tile. -/
def desc (src dst : Nat) (frame : Bool) : CopyDesc :=
  { src := BitVec.ofNat 48 src, dst := BitVec.ofNat 48 dst, len := 100, row := 0, srcPitch := 0, dstPitch := 0, frame := frame }

/-- The same as a queue holds it. -/
def queued (src dst : Nat) : Copy := { src := src, dst := dst, len := 100, row := 0, srcPitch := 0, dstPitch := 0, cls := 2 }

/-- Tile 5 runs job 2 with one copy in queue 0 of its bulk bank, or of its frame bank. -/
def copying (frame : Bool) : State := { up with
  ram := [(scratchBase 5 + 41000, 7), (scratchBase 5 + 41099, 8)]
  til := { tiles := [(5, if frame then { stage := 1, fcMap := span 0 11, frame := { queues := [[queued 41000 20000], [], [], []] } }
                        else { fcMap := span 0 10, contexts := [(2, span 10 2)], running := some 2, bulkOn := true
                               bulk := { queues := [[queued 40 8000], [], [], []] } })]
           jobs := [(2, { state := .running, tiles := [5] })] } }

/-- A taken JOB_START of seat 0 in slot 3: one tile, 25 pages, an image of 4096 bytes at 16 MB. -/
def startOrder : TakenOrder :=
  { seat := 0, slot := 3, typ := 3, flags := 0, cookie := 0, taken := 100, result := 0, obj := 0,
    body := tgetList (fun _ => (0 : Byte)) [(3, 1), (9, 16), (0x50, 1), (0x52, 1), (0x55, 0x80), (0x56, 1), (0x60, 0xFF),
      (0x70, 255), (0x71, 255), (0x72, 255), (0x73, 255), (0x74, 255), (0x75, 255), (0x76, 255), (0x77, 255),
      (0x78, 255), (0x79, 255), (0x7A, 255), (0x7B, 255), (0x7C, 255), (0x7D, 255), (0x7E, 255), (0x7F, 255)] 0 224 }

/-- A taken JOB_CTL of seat 0 in slot 4 on job 64. -/
def ctlOrder (op : Byte) : TakenOrder :=
  { seat := 0, slot := 4, typ := 4, flags := 0, cookie := 0, taken := 100, result := 0, obj := 0,
    body := tgetList (fun _ => (0 : Byte)) [(0, 64), (2, op)] 0 224 }

/-- Both orders wait, and job 64 is in a state with park reasons. -/
def ordered (k : JobState) (parks : List Nat) : State := { planned .solo with
  taken := [startOrder, ctlOrder 1]
  til := { tiles := [(5, { contexts := [(64, span 0 25)] })], jobs := [(64, { state := k, parks := parks, seat := 0, tiles := [5] })] } }

/-- A place in RAM or in scratch, without a fault. -/
def isScratch : Except CopyFault Loc → Bool
  | .ok (.scratch _ m _) => decide m.Nodup
  | _ => false
/-- The load of a table that is not complete. -/
def loading : State := { up with plan := { st := .scheduled, loads := [(3, { bytes := [(1, 2)] })] } }

theorem wit_CopyStatements :
    (Issued (desc 0 99 false)).overlaps (frameCanon 5) = true ∧ (Issued (desc 0 100 false)).overlaps (frameCanon 5) = false
      ∧ (Issued (desc 0 0x40000032 false)).overlaps ((copying false).canon 5 2) = true
      ∧ (Issued (desc 0 100 false)).overlaps ((copying false).canon 5 2) = false
      ∧ (desc 0 99 false).len ≠ 0 ∧ Canonical (copying false) ∧ (copying false).tileIn 5 = true
      ∧ ((copying false).tile 5).running = some 2 ∧ ((copying false).tile 5).bulkOn = true
      ∧ (((copying false).tile 5).bulk.queue 0).length < 64 ∧ ((copying true).tile 5).sense = true
      ∧ ((copying true).tile 5).fcDone = false ∧ ((copying true).tile 5).frame.waitOn = [] ∧ ((copying true).tile 5).bulkOn = false
      ∧ (((copying true).tile 5).frame.queue 0).length < 64
      ∧ ((copying false).tile 5).bulk.busy 9 = [0] ∧ ((copying true).tile 5).frame.busy 9 = [0]
      ∧ (∀ i ∈ members 4 14, ((copying false).tile 5).bulk.queue i = [])
      ∧ ((copying false).tile 6).bulkOn = false ∧ ((copying false).tile 6).sense = false
      ∧ (copying false).boot.stopped = false ∧ twf (fun _ => ({} : Bank)) ((copying false).tile 5).saved = true
      ∧ ((copying false).tile 5).bankOf (some 2) = some { queues := [[queued 40 8000], [], [], []] }
      ∧ ((copying false).tile 5).bulk.queue 0 = queued 40 8000 :: [] ∧ (queued 40 8000).past 0 = false ∧ (queued 40 8000).reserved = false
      ∧ isScratch ((copying false).translate 5 2 ((queued 40 8000).beat 0).2.1 false) = true
      ∧ isScratch ((copying false).translate 5 2 ((queued 40 8000).beat 0).2.2.1 true) = true
      ∧ isScratch ((copying false).translate 5 2 (((queued 40 8000).beat 0).2.2.1 + ((queued 40 8000).beat 0).2.2.2 - 1) true) = true
      ∧ ((copying false).readLoc [] ((queued 40 8000).beat 0).1 ((queued 40 8000).beat 0).2.2.2 (.scratch 5 (span 10 2) 40)).length
          = ((queued 40 8000).beat 0).2.2.2
      ∧ ((copying true).tile 5).frame.queue 0 = queued 41000 20000 :: [] ∧ Canonical (copying true)
      ∧ isScratch ((copying true).frameLoc 5 ((queued 41000 20000).beat 0).2.1 false) = true
      ∧ isScratch ((copying true).frameLoc 5 ((queued 41000 20000).beat 0).2.2.1 true) = true
      ∧ (let s : State := { copying true with til := { tiles := [(5, { fcMap := span 0 4, frame := { queues := [[queued 41000 20000]] } })] } }
         ((queued 41000 20000).beat 0).2.1 < 0x400000 ∧ 4096 * (s.tile 5).fcMap.length ≤ ((queued 41000 20000).beat 0).2.1)
      ∧ loading.plan.st = .scheduled
      ∧ twf (fun _ => (0 : Byte)) (tget (fun _ => ({} : TableLoad)) loading.plan.loads 3).bytes = true := by
  (repeat' apply And.intro) <;> first | decide | (constructor <;> decide)
/-- The job of `copying`, with the Cellar, copies 100 bytes out of a window of 1 MB: beat 0 of the copy touches the Cellar. -/
def cellaring : State :=
  let r : JobRec := { job := 2, seat := 0xFF, weight := 1, flags := 4, service := 0, tiles := 0, count := 1, scratch := 98304, gddr7Kb := 0,
                      tables := [], digest := 0, args := [], imgOff := 0, imgLen := 0 }
  let s := copying false
  ({ s with mem := { s.mem with cellar := (0, 2 ^ 20, true) } }.updJob 2 fun x => { x with info := some r }).updTile 5 fun x =>
    { x with bulk := { queues := [[queued 0x100000000040 8000], [], [], []] } }

/-- A time-out at the head of a queue, of a beat that touches the Cellar and of one that does not, and the fault of a parked job. -/
theorem wit_CopyFaultsOfJobs :
    Canonical cellaring ∧ (cellaring.tile 5).bankOf (some 2) = some { queues := [[queued 0x100000000040 8000], [], [], []] }
      ∧ cellaring.cellarAddr 5 2 (queued 0x100000000040 8000) 0 = some 0x100000000040
      ∧ (queued 0x100000000040 8000).past 0 = false
      ∧ ((copying false).tile 5).bankOf (some 2) = some { queues := [[queued 40 8000], [], [], []] }
      ∧ (copying false).cellarAddr 5 2 (queued 40 8000) 0 = none
      ∧ 5 ∈ ((copying false).job 2).tiles
      ∧ (let f : JobFault := { cause := .cellarTimeout, addr := 0x100000000040, queue := 0, prog := 0, len := 100, tick := 84 }
         let s : State := cellaring.updJob 2 fun x => { x with state := .parked, parks := [Park.fault], fault := some f }
         (s.job 2).fault = some f ∧ Park.fault ∈ (s.job 2).parks ∧ f.tick < s.hrt.frame ∧ s.faultMaps 2 f = true
           ∧ s.faultMaps 2 { f with addr := 0x100000100000 } = false
           ∧ (s.hrt.frame - f.tick) % max 1 (s.inForce Reg.MEM_FAULT_CFG 0 16) = 0
           ∧ (let u : State := { s with hrt := { s.hrt with cycles := 1300000000 } }
              u.limitDue (u.hrt.cycles + u.hrt.cfg.period) 2 = true ∧ (u.job 2).state = .parked)) := by
  refine ⟨by constructor <;> decide, ?_⟩
  (repeat' apply And.intro) <;> decide
theorem wit_MemoryTiers :
    (let s : State := { up with mem := { devs := [(3, { failed := 3 })] } }; s.devDue 3 ≠ 0 ∧ (s.dev 3).state ≠ 2)
      ∧ up.inForce Reg.MEM_CTL 0 1 = 1 ∧ up.protectedPage 0xFF0000 = false ∧ 0xFF0000 ∉ up.mem.retired
      ∧ pageExists 0xFF0000 = true ∧ (∀ r ∈ up.mem.retiring, r.page ≠ 0xFF0000) ∧ up.protectedPage 7 = true
      ∧ (up.dev 15).spares ≠ 0 ∧ pageDev 0xFF0000 = 15
      ∧ { up with mem := { devs := [(15, { spares := 0 })] } }.dev 15 = { spares := 0 }
      ∧ { up with mem := { retiring := [{ page := 7, cause := 1 }] } }.mem.retiring.length = 1
      ∧ { up with live := [(Reg.MEM_CTL, 0)] }.inForce Reg.MEM_CTL 0 1 = 0
      ∧ tget (fun _ => 0) up.mem.occasions 7 ≠ 3 := by
  (repeat' apply And.intro) <;> decide
theorem wit_JobsBegin :
    (let s := ordered .none []
     s.order? 0 3 3 = some startOrder ∧ s.admitCheck 0 startOrder.jobRec = 0 ∧ s.jobNumber = some 64)
      ∧ (let s : State := { ordered .none [] with regs := [(Reg.SYS_SEATs_CFG 0, 0)] }
         let o := { startOrder with seat := 1 }
         { s with taken := [o] }.order? 1 3 3 = some o ∧ { s with taken := [o] }.admitCheck 1 o.jobRec ≠ 0)
      ∧ startOrder.jobRec.imageOk = true ∧ { startOrder.jobRec with imgOff := 0 }.imageOk = false
      ∧ (let s : State := { up with til := { jobs := [(64, { state := .admitting, info := some startOrder.jobRec, tiles := [5] })] } }
         (s.job 64).state = .admitting ∧ (s.job 64).admitted = false ∧ (s.job 64).info = some startOrder.jobRec) := by
  (repeat' apply And.intro) <;> decide +kernel
/-- Seat 1 is READY, and its slot 4 holds a posted JOB_CTL with an operation for job 64. -/
def posted (op : Byte) : State := { ordered .ready [] with
  taken := [], seats := [(1, { bound := true, state := .ready, readyAt := 50, agreed := 7 })]
  ram := [(hallBase 1 + 1024, 1), (hallBase 1 + 1025, 4), (hallBase 1 + 1056, 64), (hallBase 1 + 1058, op)] }
/-- JOB_PARK has been written for the job that `TIL_JOB_SEL` selects. -/
def selected : State := { ordered .ready [] with
  regs := [(Reg.TIL_JOB_SEL, 64)], til := { (ordered .ready []).til with ctlOp := some 1 } }
theorem wit_JobsControlled :
    Canonical (posted 1) ∧ Canonical selected ∧ selected.field Reg.TIL_JOB_SEL 0 8 = (64 : BitVec 8).toNat
      ∧ selected.til.ctlOp = some 1 ∧ selected.ctlCheck 0 (selected.field Reg.TIL_JOB_SEL 0 8) 1 = 0
      ∧ (1, 4) ∈ (posted 1).slotsToTake ∧ (posted 1).hallNat 1 1025 1 = 4 ∧ (posted 1).hallNat 1 1056 2 = 64
      ∧ (posted 1).hallNat 1 1058 1 = 1 ∧ (posted 2).hallNat 1 1058 1 = 2 ∧ (posted 3).hallNat 1 1058 1 = 3
      ∧ ((ordered .ready []).job 64).state = .ready ∧ ((ordered .parked [Park.order]).job 64).parks = [Park.order]
      ∧ ((ordered .parked [Park.order]).job 64).state = .parked ∧ ((ordered .running []).job 64).state = .running := by
  (repeat' apply And.intro) <;> first | decide +kernel | (constructor <;> decide)

/-- A unit with an operation of `PLN_CMD` waiting and the plan in a state. -/
def planning (op : Nat) (k : PlanState) : State := { planned .solo with
  ops := { plan := some (op, false) }, plan := { (planned .solo).plan with st := k }
  regs := [(Reg.PLN_STAGE_OFF, 0x1000000), (Reg.PLN_STAGE_LEN, 4096)] }

theorem wit_PlanOperationsTakenUp :
    (planning 1 .idle).ops.plan = some (1, false) ∧ (planning 1 .idle).commitBusy = false
      ∧ 0x1000000 ≤ (planning 1 .idle).field Reg.PLN_STAGE_OFF 0 28 ∧ (planning 1 .idle).field Reg.PLN_STAGE_OFF 0 28 % 4096 = 0
      ∧ (planning 1 .idle).field Reg.PLN_STAGE_OFF 0 28 + (planning 1 .idle).field Reg.PLN_STAGE_LEN 0 28 ≤ hallSize
      ∧ (planning 1 .bridge).commitBusy = true ∧ (planning 2 .scheduled).commitBusy = true
      ∧ (planning 2 .idle).plan.st ≠ .valid ∧ (planning 2 .idle).commitBusy = false
      ∧ (planning 3 .valid).plan.st = .valid ∧ (planning 3 .preload).plan.st = .preload ∧ (planning 3 .bridge).plan.st = .bridge := by
  (repeat' apply And.intro) <;> decide +kernel

/-- A commit of the candidate is due at the coming tick. -/
def committing (q : Plan) (force : Bool) : State := { planned .solo with
  plan := { (planned .solo).plan with st := .scheduled, cand := some q, commitAt := 101, force := force } }
/-- The same while a move runs. -/
def committingMove : State := { committing {} false with
  mov := { moves := [(1, { id := 1, state := .moving, paths := [{ inp := 0, out := 1 }] })] } }

theorem wit_CommitTakesEffect :
    (committing {} false).commitDue = true ∧ (committing {} false).decideMoves.movesRun = false
      ∧ (committing {} false).plan.cand = some {} ∧ ({} : Plan).kind = 0
      ∧ (let s : State := { committing {} true with plan := { (committing {} true).plan with candKind := 3, bridge := 40 } }
         s.commitDue = true ∧ s.plan.candKind = 3)
      ∧ { up with plan := { st := .validating } }.plan.st = .validating
      ∧ (committing { kind := 1 } true).plan.force = true ∧ (committing { kind := 1 } true).plan.candKind ≠ 3
      ∧ committingMove.commitDue = true ∧ committingMove.plan.force = false ∧ committingMove.decideMoves.movesRun = true
      ∧ { up with plan := { st := .bridge, bridgeEnd := 101 } }.plan.bridgeEnd ≤ up.nextTick
      ∧ up.nextTick < { up with plan := { st := .bridge, bridgeEnd := 102 } }.plan.bridgeEnd ∧ up.plan.st ≠ .bridge
      ∧ up.plan.st ≠ .validating := by
  (repeat' apply And.intro) <;> decide +kernel

/-- Table 9 with 64 entries of 8 bytes and the given bank states, and an operation of `PLN_TBL_CTL` waiting. -/
def tabled (x : PlanTable) (op : Nat) : State := { planned .solo with
  ops := { table := some (op, false) }
  regs := [(Reg.PLN_TBL_SEL, 9)]
  til := { jobs := [(2, { state := .running, tiles := [5], info := some ⟨2, 255, 1, 0, 2, 32, 1, 98304, 0, [9], 0, [], 0, 0⟩ })] }
  plan := { (planned .solo).plan with tables := [(9, x)] } }
def descOf (flags : Nat) : TableDesc := ⟨9, 0, 0, flags, 8, 64, 0, 512, 0, []⟩

theorem wit_TableOperationsTakenUp :
    (tabled { desc := descOf 4 } 1).table? ((tabled { desc := descOf 4 } 1).field Reg.PLN_TBL_SEL 0 16) = some { desc := descOf 4 }
      ∧ (descOf 4).flags / 4 % 2 = 1 ∧ (descOf 0).flags / 4 % 2 = 0
      ∧ (tabled { desc := descOf 4, inactive := 3 } 4).ops.table = some (4, false)
      ∧ ((tabled { desc := descOf 4, inactive := 3 } 4).reg Reg.PLN_TBL_SWAP_TICK).toNat = 0
      ∧ (let s := tabled { desc := descOf 4, inactive := 3 } 4
         let u := { s with regs := s.regs ++ [(Reg.PLN_TBL_SWAP_TICK, 101)] }
         (u.reg Reg.PLN_TBL_SWAP_TICK).toNat ≠ 0 ∧ (u.reg Reg.PLN_TBL_SWAP_TICK).toNat < u.nextTick + 1)
      ∧ (tabled { desc := descOf 4, inactive := 4, swapAt := some (101, 0) } 0).swapsDue = [9]
      ∧ [9].Nodup ∧ 8 ∉ [9] := by
  (repeat' apply And.intro) <;> decide +kernel
theorem wit_BanksAreWritten :
    (let s := tabled { desc := descOf 4, inactive := 2, writer := 1 } 0
     aligned .full (0 : BitVec 21).toNat = true ∧ (∀ x ∈ s.table? 9, x.ownerHolds = true)
       ∧ (∀ x ∈ (tabled { desc := descOf 4, inactive := 3, writer := 1 } 0).table? 9, x.ownerHolds = true)
       ∧ s.windowAt 504 + 8 ≤ (descOf 4).bankBytes ∧ (∀ x ∈ (tabled { desc := descOf 4 } 0).table? 9, x.ownerHolds = false))
      ∧ (tabled { desc := descOf 4, copying := true } 0).table? 9 = some { desc := descOf 4, copying := true }
      ∧ (let s := tabled { desc := descOf 12, inactive := 2, writer := 2, writerJob := 2 } 0
         (s.job 2).live = true ∧ s.jobMayWrite 2 9 = true ∧ (∀ x ∈ s.table? 9, x.heldBy 2 2 = true) ∧ s.jobMayWrite 3 9 = false) := by
  (repeat' apply And.intro) <;> decide +kernel

/-- Porch 0 has sensing entries and mirrors 0 to 63 with patches of 8 by 8 pixels of one bit. -/
def sensing : State := { planned .solo with
  hrt := { up.hrt with frame := 100 }
  plan := { committed := true, plan := { lanes := [{ role := 1, count := 64, edge := 8, bits := 1 }, { role := 2, count := 64 }
                                                 , { role := 3, count := 64 }, { role := 4 }]
                                         senses := [⟨0, 10, 100, 60000⟩, ⟨2, 10, 100, 60000⟩] } }
  shelves := [(0, { cls := 1, minPages := 64, maxPages := 64, prodKind := 3, consKind := 1 })] }

theorem wit_PatchesAndReadings :
    Canonical sensing ∧ sensing.passes 0 = true ∧ (sensing.laneEntry 0).role = 1 ∧ (sensing.laneEntry 0).holds 63 = true
      ∧ 0 < (sensing.laneEntry 0).patchBits ∧ (sensing.expected 0).find? (fun x => x % 2 ^ 32 = 99) = some 99
      ∧ 8 * 8 = (sensing.laneEntry 0).patchBits ∧ (sensing.laneEntry 0).first + (sensing.laneEntry 0).count ≤ 8192
      ∧ sensing.untapped = false ∧ [(⟨1, 2⟩ : TapReading)][0]? = some ⟨1, 2⟩ ∧ (sensing.patchOf 99 63).bits = 0 ∧ (sensing.patchOf 99 63).missing = false
      ∧ ((sensing.receive 0).shelfCell 0 1 (sensing.porch 0).rxSeq (PatchPayload 99 63 0 [1, 2, 3, 4, 5, 6, 7, 8])).2 = true
      ∧ (let s := { sensing with shelves := [(0, { fill := [List.replicate 512 0], drain := [[0]] })] }
         ((s.receive 0).shelfCell 0 1 (s.porch 0).rxSeq (PatchPayload 99 63 0 [1, 2, 3, 4, 5, 6, 7, 8])).2 = false)
      ∧ (∀ x ∈ sensing.expected 0, x % 2 ^ 32 ≠ 98) ∧ (sensing.laneEntry 2).role = 3 ∧ sensing.hrt.frame % 2 ^ 32 = 100
      ∧ (sensing.sense 2).isSome = true ∧ (sensing.laneEntry 2).holds 63 = true ∧ sensing.passes 2 = true
      ∧ (let e := sensing.openExposure 10
         let s : State := { sensing with est := { patches := [(patchKey e 10, { expo := e, bits := 64 })] } }
         sensing.imagerPorch 10 = some 0 ∧ (s.patchOf (s.openExposure 10) 10).fixed = none
           ∧ 0 < (s.patchOf (s.openExposure 10) 10).bits)
      ∧ sensing.linked 0 = true ∧ sensing.imagerPorch 63 = some 0 ∧ sensing.imagerPorch 64 = none := by
  refine ⟨by constructor <;> decide, ?_⟩
  (repeat' apply And.intro) <;> decide +kernel

/-- Adaptation runs for job 2 on table 9, which it holds; or a rebuild round that began in frame `r`. -/
def serving (svc : Nat) (r : Option Nat) : State :=
  let s := tabled { desc := descOf 12, inactive := 2, writer := 2, writerJob := 2 } 0
  { s with
    hrt := { s.hrt with frame := 5000 }
    est := { adaptJob := if svc = 2 then some 2 else none, training := decide (svc = 2), round := r }
    til := { jobs := [(2, { state := .running, tiles := [5], service := svc
                            info := some ⟨2, 255, 1, 0, svc, 32, 1, 98304, 0, [9, 9], 0, [], 0, 0⟩ })] } }

theorem wit_EstimatesAndServices :
    sensing.estimates = true ∧ up.estimates = false ∧ (sensing.loop 126).record = none ∧ sensing.eng.dpOut = []
      ∧ (let s := { sensing with loops := [(126, { cls := .hold })] }; s.computes 126 (s.loop 126) = true)
      ∧ (let s := { serving 2 none with est := {} }
         (s.job 2).live = true ∧ (s.job 2).service = 2 ∧ s.twn.role ≠ .standby ∧ s.est.adaptJob = none
           ∧ (s.adaptParams 2).samples ≤ (16384 : BitVec 32).toNat)
      ∧ (let s := serving 2 none
         s.est.adaptJob = some 2 ∧ s.est.training = true ∧ s.workTable 2 = 9
           ∧ (∀ x ∈ s.table? 9, x.heldBy 2 2 = true ∧ x.copying = false))
      ∧ (let s := serving 3 (some 905)
         s.est.round = some 905 ∧ 905 + (s.rebuildParams 2).round ≤ s.hrt.frame + 1
           ∧ (∀ x ∈ s.table? (s.workTable 2), x.heldBy 2 2 = true ∧ x.copying = false)) := by
  (repeat' apply And.intro) <;> decide +kernel

/-- A descriptor: the bytes given, by offset. -/
def descBits (b : List (Nat × Byte)) : BitVec 512 := BitVec.ofNat 512 (leNat (tgetList (fun _ => (0 : Byte)) b 0 64))
/-- Loop 3 is as given; its descriptor has run class HOLD, `PARK` 16, the range -100 to 200, and `HOLD_IN` 256. -/
def looped (x : Loop) : State := { planned .solo with
  loops := [(3, { x with desc := descBits [(0, 3), (8, 0x9C), (9, 0xFF), (10, 200), (12, 16), (15, 1)] })] }
/-- The PLANT table, whose model of loop 3 counts one bad frame as too many. -/
def plantTable : Nat × PlanTable := (2, { desc := ⟨2, 2, 0, 0, 16, 8192, 0, 131072, 0, []⟩, bank := [(57, 1)] })

theorem wit_LoopsChangeClass :
    (let s := looped { cls := .slew, handRun := 4, heldCmd := 9 }
     Canonical s ∧ s.handOverDue 3 = true ∧ (s.loop 3).warm ≤ 1 ∧ { s with hrt := { s.hrt with emitted := true } }.hrt.emitted = true)
      ∧ (let s := looped { cls := .acquire, phase := .wait, confRun := 64, angles := [5], heldCmd := 9 }
         s.acquiredDue 3 = true ∧ s.handOverDue 3 = false)
      ∧ (let s := looped { cls := .acquire, phase := .wait, fromPark := true, waitFrames := 64, confRun := 0, cmd := { u := 12 } }
         s.searchDue 3 = true)
      ∧ (let s := looped { cls := .acquire, acqFrames := 1048576 }
         s.acqTimedOut (s.loop 3) = true ∧ s.freeFor 3 2 = true ∧ (s.loop 3).cls ≠ .off ∧ (s.loop 3).cls ≠ .freeze)
      ∧ (let s := looped { cls := .hold, ovrRun := 3 }
         3 ≤ (s.loop 3).ovrRun ∧ s.freeFor 3 2 = true ∧ (s.loop 3).cls ≠ .off ∧ (s.loop 3).cls ≠ .freeze)
      ∧ (let s := { looped { cls := .hold, bad := 1 } with plan := { (planned .solo).plan with tables := [plantTable] } }
         s.implausible 3 (s.loop 3) = true ∧ s.freeFor 3 2 = true ∧ (s.loop 3).cls ≠ .off ∧ (s.loop 3).cls ≠ .freeze) := by
  refine ⟨⟨by constructor <;> decide +kernel, ?_⟩, ?_⟩
  all_goals (repeat' apply And.intro) <;> decide +kernel
theorem wit_LoopOperationsTakenUp :
    (let s := looped {}
     Canonical s ∧ (s.loop 3).cls = .off ∧ Desc.runClass (s.loop 3).desc ≠ 0 ∧ s.freeFor 3 7 = true)
      ∧ (let s := looped { cls := .freeze, reason := 3 }
         (s.loop 3).cls ≠ .off ∧ (s.loop 3).cls = .freeze ∧ (s.loop 3).reason ≠ 1 ∧ s.porchStillLost 3 = false
           ∧ s.freeFor 3 8 = true)
      ∧ (let s := looped { cls := .freeze, reason := 1 }
         { s with pins := { s.pins with haltN := true } }.pins.haltN = true ∧ (s.loop 3).reason = 1
           ∧ { s with pins := { s.pins with haltN := false } }.pins.haltN = false) := by
  refine ⟨⟨by constructor <;> decide +kernel, ?_⟩, ?_⟩
  all_goals (repeat' apply And.intro) <;> decide +kernel
theorem wit_EngineErrorsAndDescriptors :
    Canonical (looped { cls := .hold }) ∧ (looped { cls := .hold }).roleNow = .solo ∧ ((looped { cls := .hold }).loop 3).cls ≠ .off
      ∧ (planned .active).roleNow = .active ∧ 5 ∉ (planned .solo).eng.dpOut ∧ 5 ∉ (planned .solo).eng.dpStopped
      ∧ { up with eng := { change := some (3, 1, 101) } }.eng.change = some (3, 1, 101) ∧ 101 ≤ up.nextTick
      ∧ ((looped {}).loop 3).cls = .off ∧ Desc.runClass 0 = 0 ∧ (0 : BitVec 512) ≠ ((looped {}).loop 3).desc ∧ Desc.runClass 3 ≠ 0
      ∧ up.nextTick < 102 := by
  refine ⟨by constructor <;> decide +kernel, ?_⟩
  all_goals (repeat' apply And.intro) <;> decide +kernel

/-- Input 1 has a mode, and channel 5 a ring of 8 samples at 16 MB of the Hall of seat 0 with three samples waiting. -/
def tracing (mode : Byte) : State := { planned .solo with
  plan := { (planned .solo).plan with tables := [(3, { desc := ⟨3, 3, 0, 0, 8, 8, 0, 64, 0, []⟩, bank := [(8, mode)] })] }
  eng := { channels := [(5, { state := 1, off := 0x1000000, sizeLog2 := 3, staged := [1, 2, 3], writeIdx := 6 })] } }

theorem wit_InputsAndTraces :
    Canonical (tracing 2) ∧ (tracing 2).spMode 1 = 2 ∧ (tracing 3).spMode 1 = 3 ∧ (1 : BitVec 21) ≠ 0 ∧ (1 : BitVec 21).toNat ≤ 1
      ∧ ((tracing 3).spIn 1).stale = false ∧ ((tracing 2).chan 5).state ≠ 0 ∧ ((tracing 2).chan 5).staged.take 8 ≠ []
      ∧ 8 ≤ ((tracing 2).chan 5).capacity := by
  refine ⟨by constructor <;> decide +kernel, ?_⟩
  all_goals (repeat' apply And.intro) <;> decide +kernel

/-- The ATLAS, in which every path but 2 to 5 has the angles 0. -/
def atlasTable : Nat × PlanTable :=
  (4, { desc := ⟨4, 4, 0, 0, 8, 16777216, 0, 134217728, 0, []⟩, bank := [(65577, 0x80)] })
/-- The FALLBACK table: entry 0 replaces path 2 to 3 by path 2 to 4. -/
def fallbackTable : Nat × PlanTable :=
  (6, { desc := ⟨6, 6, 0, 0, 16, 1, 0, 16, 0, []⟩, bank := [(0, 2), (2, 3), (4, 2), (6, 4), (10, 1), (11, 1)] })
/-- A running planner, both tables, and the loops of the mirrors 2, 4099 and 4100 in a class. -/
def switching (r : Role) (k : LoopClass) : State := { planned r with
  plan := { (planned r).plan with tables := [atlasTable, fallbackTable] }
  loops := [4, 5, 8198, 8199, 8200, 8201].map fun l => (l, { cls := k, desc := 3 })
  til := { jobs := [(2, { state := .running, service := 1, tiles := [5] })] } }
/-- A taken MOVE of seat 0 in slot 6 for path 2 to 3 with `n` entries, and a taken MOVE_ABORT in slot 7 of move 1. -/
def moveOrder (n : Byte) : TakenOrder :=
  { seat := 0, slot := 6, typ := 1, flags := 0, cookie := 0, taken := 100, result := 0, obj := 0
    body := [0, 0, 0, 1, 0, 0, 0, 0, n, 0, 0, 0] ++ leBytes 4 (crc32c [2, 0, 3, 0]) ++ List.replicate 208 0 }
def abortOrder : TakenOrder :=
  { seat := 0, slot := 7, typ := 2, flags := 0, cookie := 0, taken := 100, result := 0, obj := 0, body := 1 :: List.replicate 223 0 }
/-- The two orders with move 1 as given. -/
def moveOrdered (n : Byte) (m : Move) : State := { switching .solo .hold with
  taken := [moveOrder n, abortOrder], ram := [(hallBase 0 + 0x1000000, 2), (hallBase 0 + 0x1000002, 3)]
  mov := { nextId := 2, moves := [(1, m)] } }
/-- One part of a schedule of the twin. -/
def schedPart : SchedPart := ⟨9, 0, 0, 1, 99, 110, false, [(2, 3)], [{ mirror := 2, start := 110, legs := [], parked := false, unguarded := false }]⟩

theorem wit_MoveOrders :
    (let s := moveOrdered 1 { id := 1, paths := [{ inp := 7, out := 8 }] }
     let o := moveOrder 1
     Canonical s ∧ s.order? 0 6 1 = some o ∧ (0 = if o.num 10 2 / 8 % 2 = 1 ∧ o.num 0x18 8 ≠ 0 then s.tickOfNs (o.num 0x18 8) else o.num 0x18 8)
       ∧ s.moveCheck o (if o.moveFormat then s.moveList o else []) 0 o.taken = 0 ∧ s.move? s.mov.nextId = none
       ∧ s.order? 0 7 2 = some abortOrder ∧ s.twn.role ≠ .standby ∧ s.twn.role ≠ .withdrawn ∧ s.seatRole abortOrder.seat = 2
       ∧ s.move? (abortOrder.num 0 4) = some { id := 1, paths := [{ inp := 7, out := 8 }] } ∧ ({ id := 1 } : Move).state.ended = false
       ∧ s.order? 1 4 2 = none)
      ∧ (let s := { posted 0 with ram := [(hallBase 1 + 1024, 1), (hallBase 1 + 1025, 2)] }
         s.order? 1 4 2 = none ∧ (1, 4) ∈ s.slotsToTake ∧ s.hallNat 1 1025 1 = 2)
      ∧ ¬ schedPart.planned + 1 < (switching .standby .hold).hrt.frame
      ∧ { schedPart with planned := 98 }.planned + 1 < (switching .standby .hold).hrt.frame
      ∧ (let s := moveOrdered 0 { id := 1 }
         s.order? 0 6 1 = some (moveOrder 0) ∧ s.moveCheck (moveOrder 0) [] 0 100 ≠ 0 ∧ (moveOrder 0).moveFormat = false)
      ∧ (switching .standby .hold).twn.role.holds = false ∧ (switching .standby .hold).landing.isSome = true
      ∧ (switching .standby .hold).move? schedPart.move.toNat = none := by
  refine ⟨⟨by constructor <;> decide +kernel, ?_⟩, ?_⟩
  all_goals (repeat' apply And.intro) <;> decide +kernel

/-- Move 1 for path 2 to `j`, waiting or in planning. -/
def openMove (j : Nat) (going : Bool) : Move :=
  { id := 1, conns := [(2, j)], paths := [{ inp := 2, out := j }], limit := 1024, planning := going }
def routing (j : Nat) (going : Bool) (k : LoopClass) : State := { switching .solo k with
  mov := { nextId := 2, moves := [(1, openMove j going)] } }
def routes : List Route := [⟨2, 0, [(0, 0)]⟩, ⟨4099, 3, [(0, 0)]⟩]
def routed (s : State) : List MirrorPlan :=
  ((((s.creates [(2, 3)]).filter fun c => (openMove 3 true).openPaths.any fun p => p.inp = c.1).flatMap pathMirrors)
    ++ s.parks [(2, 3)]).filterMap (s.routePlan (openMove 3 true) 103 routes [] (s.parks [(2, 3)]))

theorem wit_MovePlanning :
    (let s := routing 3 false .hold
     Canonical s ∧ s.plannerRuns = true ∧ s.move? 1 = some (openMove 3 false) ∧ s.nextToPlan = some (openMove 3 false)
       ∧ (∀ l ∈ (s.moves [(2, 3)]).flatMap mirrorLoops, (s.loop l).cls = .hold))
      ∧ (let s := routing 3 false .freeze
         s.nextToPlan = some (openMove 3 false) ∧ (s.loop 4).cls ≠ .hold ∧ 4 ∈ (s.moves [(2, 3)]).flatMap mirrorLoops)
      ∧ (let s := routing 3 true .hold
         let m := openMove 3 true
         s.mov.moves.find? (fun e => e.2.planning) = some (m.id, m)
           ∧ (∀ c ∈ s.creates m.conns, (∃ p ∈ m.openPaths, p.inp = c.1) → (s.atlas c.1 c.2).isSome = true)
           ∧ m.strict = false ∧ s.inForce Reg.MOV_CTL 2 1 = 0 ∧ 103 = max m.startAt (s.nextTick + 2)
           ∧ (routed s).length = 2 ∧ ((s.creates m.conns).flatMap pathMirrors ++ s.parks m.conns).length = 2
           ∧ routed s ≠ [] ∧ s.scheduleOk m (routed s) = true ∧ m.deadline = 0 ∧ s.atlasEmpty = false)
      ∧ (let s := routing 5 true .hold
         s.mov.moves.find? (fun e => e.2.planning) = some (1, openMove 5 true)
           ∧ (∃ c ∈ s.creates [(2, 5)], (∃ p ∈ (openMove 5 true).openPaths, p.inp = c.1) ∧ s.atlas c.1 c.2 = none))
      ∧ (let s := { routing 3 true .hold with plan := { (routing 3 true .hold).plan with tables := [(4, { atlasTable.2 with loaded := false })] } }
         s.atlasEmpty = true ∧ s.plannerRuns = true) := by
  refine ⟨⟨by constructor <;> decide +kernel, ?_⟩, ?_⟩
  all_goals (repeat' apply And.intro) <;> decide +kernel

/-- Move 1 goes on: its mirrors as given, its path open, the deadline at the coming tick; all four loops in HOLD since tick `h`. -/
def underway (k : MoveState) (t0 : Nat) (ps : List MirrorPlan) (blind : Bool) (h : Nat) : Move :=
  { openMove 3 false with state := k, tStart := t0, startAt := 101, mirrors := ps, blind := blind, deadline := 101, abortDl := decide (h = 7) }
def moving (m : Move) (h : Nat) (k : LoopClass) : State := { switching .solo k with
  mov := { nextId := 2, moves := [(1, m)], paths := [(2, { out := 3, state := .settling, moveId := 1, hTick := some h })] } }
def firstLeg : MirrorLeg := ⟨5, 6, 1, 1, 1, 1, 9⟩
def leggedAt (n : Nat) : MirrorPlan :=
  { mirror := 2, start := 90, legs := [firstLeg, firstLeg], parked := false, unguarded := false, begun := n, nextAt := 101 }

theorem wit_MovesRun :
    (let m := underway .planned 0 [leggedAt 0] false 0
     Canonical (moving m 50 .hold) ∧ (moving m 50 .hold).move? 1 = some m ∧ (moving m 50 .hold).startDue m = true)
      ∧ (let m := underway .moving 90 [leggedAt 1] false 0
         let s := moving m 50 .slew
         s.move? 1 = some m ∧ m.mirrors.find? (fun p => p.mirror = 2) = some (leggedAt 1) ∧ s.legDue m (leggedAt 1) = true
           ∧ (leggedAt 1).legs[1]? = some firstLeg ∧ (s.loop 4).cls = .slew ∧ (s.loop 5).cls = .slew)
      ∧ (let m := underway .moving 90 [leggedAt 2] false 0
         (moving m 50 .slew).legDue m (leggedAt 2) = true ∧ (leggedAt 2).legs.length ≤ (leggedAt 2).begun
           ∧ m.mirrors.find? (fun p => p.mirror = 2) = some (leggedAt 2))
      ∧ (let m := underway .settling 90 [] true 0
         let s := moving m 50 .hold
         s.openPath? 2 = some (m, { inp := 2, out := 3 }) ∧ (s.path 2).moveId = m.id ∧ s.readyNow m { inp := 2, out := 3 } = true)
      ∧ (let m := underway .settling 90 [] false 7
         let s := moving m 1 .hold
         let u : State := { s with hrt := { s.hrt with frame := 70000 } }
         u.openPath? 2 = some (m, { inp := 2, out := 3 }) ∧ u.readyNow m { inp := 2, out := 3 } = false
           ∧ u.settleOver { inp := 2, out := 3 } = true ∧ (moving m 99 .hold).move? 1 = some m ∧ (moving m 99 .hold).deadlineDue m = true
           ∧ (moving m 99 .hold).stillOpen m = true ∧ m.abortDl = true)
      ∧ (underway .settling 90 [] false 0).abortDl = false := by
  refine ⟨⟨by constructor <;> decide +kernel, ?_⟩, ?_⟩
  all_goals (repeat' apply And.intro) <;> decide +kernel

/-- Path 2 to 3 is in service, and its port is dark in this frame. -/
def servicing (r : Role) (low : Nat) (b : Bool) : State := { switching r .hold with
  mov := { nextId := 7, tapNow := [(3, { flags := 8 })], service := [(2, { out := 3, refPower := some 40000, low := low })]
           paths := [(2, { out := 3, state := .inService })], reflexes := if b then [(0, {})] else [] } }

theorem wit_LossAndReflex :
    Canonical (servicing .solo 1 false) ∧ (servicing .solo 1 false).pathLossDue 2 = true ∧ (servicing .solo 1 false).twn.role.holds = true
      ∧ (servicing .standby 1 false).pathLossDue 2 = true ∧ (servicing .standby 1 false).twn.role.holds = false
      ∧ (servicing .solo 0 false).tripDue 0 = true ∧ (servicing .solo 0 false).skipReason ((servicing .solo 0 false).fallback 0) = 0
      ∧ (servicing .solo 0 false).move? 7 = none
      ∧ (let s := servicing .solo 0 false
         let u := { s with mov := { s.mov with service := s.mov.service ++ [(6, ({ out := 4 } : Service))] } }
         u.tripDue 0 = true ∧ u.skipReason (u.fallback 0) ≠ 0)
      ∧ (servicing .solo 0 false).tripDue 1 = false := by
  refine ⟨by constructor <;> decide +kernel, ?_⟩
  all_goals (repeat' apply And.intro) <;> decide +kernel

/-- Shelf 60 has 1 page and is drained by seat 0; porch 0's shelf has one page, full, behind a word still to be drained. -/
def shelved (x : Shelf) : State := { planned .solo with
  plan := { committed := true, plan := { lanes := [{ role := 3, count := 64 }] } }
  shelves := [(0, { fill := [List.replicate 512 0], drain := [[0]] })
            , (60, { x with cls := 1, minPages := 1, maxPages := 1, prodKind := 1, consKind := 4, notice := 1 })] }

theorem wit_Shelves :
    Canonical (shelved {}) ∧ (shelved {}).shelfCls 60 ≠ 0 ∧ wordPoison 0x4000000000000001 = false ∧ wordEnd 0x4000000000000001 = true
      ∧ wordPoison 1 = false ∧ wordEnd 1 = false ∧ (shelved {}).hasRoom 60 = true
      ∧ ((shelved {}).shelf 60).opened.length + 1 < 512 * (shelved {}).maxPages 60
      ∧ (shelved {}).shelfCls 0 ≠ 0 ∧ (shelved {}).makeRoom 0 = none ∧ porchShelf 0 = true
      ∧ (let s := shelved { fill := [List.replicate 512 0], drain := [[0]] }
         s.makeRoom 60 = none ∧ porchShelf 60 = false)
      ∧ ((shelved { opened := [1] }).shelf 60).opened ≠ [] ∧ (shelved {}).shelfCls 61 = 0
      ∧ (let s := shelved { fill := [[1]] }
         s.swapDue 60 (!s.hasRoom 60 && !s.canGrow 60) = true ∧ (s.shelf 60).waiting = [] ∧ (s.shelf 60).fill ≠ [] ∧ (s.shelf 60).notice = 1
           ∧ (s.shelf 60).fired = false ∧ (s.shelf 60).drain = [] ∧ (s.shelf 60).reserved = [])
      ∧ (let s := shelved { fill := [[1]], waiting := [1] }
         s.swapDue 60 (!s.hasRoom 60 && !s.canGrow 60) = true ∧ (s.shelf 60).waiting = [1] ∧ wordPoison 1 = false
           ∧ (s.swapShelf 60).hasRoom 60 = true)
      ∧ ((shelved { fill := [[1]], reserved := [[2]] }).shelf 60).reserved ≠ [] ∧ ((shelved {}).shelf 60).fill = []
      ∧ ((shelved { fill := [[1]], drain := [[2]] }).shelf 60).drain ≠ [] ∧ ((shelved {}).shelf 60).swapMode = 0
      ∧ (let s := shelved {}
         s.swapDue 60 (!s.hasRoom 60 && !s.canGrow 60) = false)
      ∧ (let s := shelved { drain := [[1, 2]] }
         (s.shelf 60).cls ≠ 0 ∧ (s.shelf 60).consKind = 4 ∧ (s.shelf 60).consIndex = 0 ∧ (s.shelf 60).drain = [1, 2] :: []
           ∧ (s.shelf 60).poison = false ∧ (s.shelf 60).waiting = [] ∧ (s.shelf 60).consIndex ≠ 1)
      ∧ ((shelved { drain := [[1]] }).shelf 60).drain = [1] :: []
      ∧ ((shelved { fired := true }).shelf 60).fired = true := by
  refine ⟨by constructor <;> decide +kernel, ?_⟩
  all_goals (repeat' apply And.intro) <;> decide +kernel

/-- Porch 1 is in discovery with a head of type `h` and an ECHO request out. -/
def discovering (k : PorchState) (h : Nat) : State := { holding .solo with
  porches := [(1, { state := k, headType := h, echoes := [(4, 9)], echoLeft := 3
                    config := some ⟨2, 0, 0, 0, 64, 0, 0, 0, 1, 200, 1⟩ })] }
theorem wit_HeadsAreFound :
    (let s := discovering .discovery 0x2001
     let m : IdentMsg := ⟨0x2001, 5, 0, 0, 0, 64⟩
     Canonical s ∧ s.linked 1 = true ∧ (s.porch 1).state ≠ .ready ∧ (s.porch 1).state ≠ .miswired
       ∧ { m with port := 1 }.port ≠ s.twn.side ∧ m.port = s.twn.side ∧ s.identFits 1 m = true
       ∧ recordOf (m.headType / 4096) = some 5 ∧ recordOf 4 = none ∧ s.boot.stopped = false ∧ (s.porch 1).squelch % 256 ≠ 255
       ∧ s.passes 1 = true ∧ (s.porch 1).headType / 4096 = 2
       ∧ (s.porch 1).config = some ⟨2, 0, 0, 0, 64, 0, 0, 0, 1, 200, 1⟩ ∧ 200 % 2 ^ 32 = (200 : BitVec 32).toNat
       ∧ (s.porch 1).echoes.find? (fun e => e.1 = 4) = some (4, 9))
      ∧ (let s := { discovering .discovery 0 with plan := (planned .solo).plan }
         s.identFits 1 ⟨0x1001, 5, 0, 0, 0, 64⟩ = false)
      ∧ ((discovering .discovery 0x1000).porch 1).headType / 4096 = 1 ∧ ((discovering .discovery 0x3000).porch 1).headType / 4096 = 3 := by
  refine ⟨⟨by constructor <;> decide +kernel, ?_⟩, ?_⟩
  all_goals (repeat' apply And.intro) <;> decide +kernel

/-- Drive porch 1 was up at the last tick, and its twin reaches it or not. -/
def lossy (r : Role) (reach : Nat) : State := { planned r with
  porches := tupd (fun _ => {}) (planned r).porches 1 fun q => { q with up := true }
  loops := [(3, { cls := .hold })]
  twn := { (planned r).twn with twin := some ⟨99, 7, 1, 1, 2, false, false, false, false, reach, 0, 0, 0, 0, 0, 0⟩ } }
theorem wit_CellsOfHeadsAndLoss :
    Canonical (lossy .solo 0) ∧ (lossy .solo 0).passes 1 = true ∧ (lossy .solo 0).linked 1 = true ∧ (lossy .solo 0).porchRole 1 = 2
      ∧ (lossy .solo 0).twn.epoch < 8 ∧ (lossy .solo 0).twn.epoch = 7 ∧ ((lossy .solo 0).laneEntry 1).role = 2
      ∧ 3 / 2 ∈ faultMirrors ((lossy .solo 0).laneEntry 1) ⟨5, 1, 1, 1⟩ ∧ ((lossy .solo 0).loop 3).cls ≠ .off
      ∧ 5 / 2 ∉ faultMirrors ((lossy .solo 0).laneEntry 1) ⟨5, 1, 1, 1⟩ ∧ (lossy .solo 0).commands = true
      ∧ 1 ∈ (lossy .solo 0).readyOf 2 ∧ (lossy .solo 0).boot.stopped = false ∧ ((lossy .solo 0).porch 1).squelch % 256 ≠ 255
      ∧ (∃ m ∈ faultMirrors ((lossy .solo 0).laneEntry 1) ⟨5, 1, 1, 1⟩, ((lossy .solo 0).laneEntry 1).holds m = true)
      ∧ (lossy .solo 0).lossDue 1 = true ∧ ((lossy .solo 0).porch 1).state = .ready ∧ (lossy .solo 0).roleNow ≠ .active
      ∧ (lossy .solo 0).porchFor 2 (3 / 2) = some 1 ∧ (lossy .active 2).roleNow = .active ∧ (lossy .active 2).twinHas 1 = true
      ∧ (lossy .active 2).lossDue 1 = true ∧ (lossy .active 0).twinHas 1 = false ∧ (lossy .solo 0).lossDue 2 = false := by
  refine ⟨by constructor <;> decide +kernel, ?_⟩
  all_goals (repeat' apply And.intro) <;> decide +kernel

/-- Cage 3 with the given record, and the lit lanes of its porch. -/
def caged (x : Cage) (lit : Nat) : State := { planned .solo with
  cages := [(3, { x with present := true })]
  porches := tupd (fun _ => {}) (planned .solo).porches 3 fun q => { q with lit := lit } }
theorem wit_Cages :
    Canonical (caged {} 255) ∧ ((caged {} 255).cage 3).present = true ∧ ((caged { dark := true } 0).cage 3).dark = true
      ∧ ((caged { dark := true } 0).cage 3).probing = false ∧ ((caged { probing := true } 0).cage 3).probing = true
      ∧ 7 ≤ ((caged { dark := true } 0).setLit 3 127).litLanes 3 ∧ ((caged { probing := true } 0).setLit 3 63).litLanes 3 < 7
      ∧ ((caged { dark := true, probing := true } 127).cage 3).dark = true ∧ 7 ≤ (caged { dark := true, probing := true } 127).litLanes 3
      ∧ (caged {} 0).detectorOn 3 = true ∧ ((caged {} 0).cage 3).dark = false
      ∧ appSelect [⟨4, 4, true⟩, ⟨8, 8, false⟩, ⟨8, 8, true⟩] = 2 + 1 ∧ appSelect [⟨4, 4, true⟩, ⟨8, 8, false⟩] = 0 := by
  refine ⟨by constructor <;> decide +kernel, ?_⟩
  all_goals (repeat' apply And.intro) <;> decide +kernel

/-- Porch 1 with a run and one lane of interest. -/
def laned (l : Nat) (x : Lane) (c : CalRun) (req : Option (Nat × Nat)) : State := { planned .solo with
  porches := tupd (fun _ => {}) (planned .solo).porches 1 fun q => { q with laneReq := req }
  lanes := [(16 + l, { x with vals := { cdr := 5 } })], cals := [(1, { c with regionT := 5 })]
  cages := [(1, { qualified := true, dataPath := true })] }
theorem wit_LinkOfAPorch :
    (let s := laned 2 {} {} none
     Canonical s ∧ s.boot.started = true ∧ s.boot.stopped = false ∧ (s.porch 1).state ≠ .dark ∧ (s.porch 1).state = .ready
       ∧ s.cageCarries 1 2 = true ∧ s.cageCarries 1 8 = false ∧ (s.lane 1 2).lockLost = false ∧ (s.lane 1 2).badCw < 7
       ∧ (s.lane 1 2).state = .down ∧ (s.lane 1 2).level < 3 ∧ s.hasLock 1 2 = true ∧ s.hasLock 1 8 = false
       ∧ (s.cal 1).phase = .idle ∧ s.linked 1 = true ∧ (s.porch 1).squelch % 256 ≠ 255)
      ∧ ((laned 2 { state := .inService } {} none).lane 1 2).state = .inService
      ∧ (({ up with porches := [(1, { state := .training, locked := 127 })] } : State).porch 1).state = .training
      ∧ (let s := laned 2 {} { phase := .ramp, lane := 2 } none
         (s.cal 1).phase ≠ .idle ∧ (s.cal 1).lane = 2)
      ∧ (({ up with porches := [(1, { state := .ready, locked := 4 })] } : State).porch 1).state ≠ .dark
      ∧ (let s := laned 2 {} {} (some (1, 2))
         (s.porch 1).laneReq = some ((2 : BitVec 8).toNat - 1, 2) ∧ (s.cal 1).requests = [])
      ∧ ((laned 2 {} {} (some (5, 2))).porch 1).laneReq = some (5, 2)
      ∧ (let s := laned 2 { badCw := 7, lockLost := true, level := 3 } {} none
         7 ≤ (s.lane 1 2).badCw ∧ s.hasLock 1 2 = true ∧ (s.lane 1 2).lockLost = true ∧ 3 ≤ (s.lane 1 2).level)
      ∧ (7 : BitVec 8).toNat ≤ 7 ∧ 7 < (8 : BitVec 8).toNat := by
  refine ⟨⟨by constructor <;> decide +kernel, ?_⟩, ?_⟩
  all_goals (repeat' apply And.intro) <;> decide +kernel
theorem wit_CalibrationRuns :
    (let s := laned 8 { state := .inService, queued := true } {} none
     Canonical s ∧ s.runDue 1 = some (8, 1))
      ∧ (let s := { laned 2 { state := .inService, queued := true } {} none with regs := [(Reg.LNH_Pp_CTL 1, 13)], live := [(Reg.LNH_Pp_CTL 1, 13)] }
         let u := { s with porches := [(1, { state := .ready, locked := 511, mirror := 0 })] ,
                           lanes := (span 16 9).map fun l => (l, { state := if l = 24 then .carrying else .inService, queued := decide (l = 18) }) }
         u.runDue 1 = some (2, 2))
      ∧ (laned 2 {} {} none).runDue 1 = none
      ∧ (let s := laned 2 {} { phase := .ramp, lane := 2, start := 27, step := 9 } none
         s.rampDue 1 ≠ 0 ∧ (s.cal 1).step < s.rampDue 1 ∧ s.rampDue 1 < 256)
      ∧ (let s := { laned 2 {} { phase := .ramp, lane := 2, start := 27, step := 255 } none with hrt := { up.hrt with frame := 400 } }
         s.rampDue 1 = 256 ∧ (s.cal 1).step < 256 ∧ (s.cal 1).lane ≠ 8 ∧ s.hasLock 1 (s.cal 1).lane = true)
      ∧ ((laned 2 {} { phase := .adapt, lane := 2, start := 27 } none).cal 1).phase = .adapt
      ∧ (laned 2 {} { phase := .mirroring, lane := 2, start := 85 } none).noAnswerDue 1 = true
      ∧ (let s := laned 2 {} { phase := .lockWait, lane := 2, heldFor := 15 } none
         s.regainDue 1 = true ∧ (s.cal 1).lane ≠ 8)
      ∧ (let s := laned 8 {} { phase := .lockWait, lane := 8, heldFor := 15 } none
         { s with porches := tupd (fun _ => {}) s.porches 1 fun q => { q with locked := 511 } }.regainDue 1 = true ∧ (s.cal 1).lane = 8)
      ∧ (let s := laned 8 {} { phase := .lockWait, lane := 8, lostAt := 0 } none
         { s with hrt := { s.hrt with frame := 300 } }.lockFailDue 1 = true ∧ (s.cal 1).compat = false ∧ (s.porch 1).mirror ≠ (s.cal 1).lane)
      ∧ ((laned 2 {} { phase := .lockWait, lane := 2, compat := true } none).cal 1).compat = true
      ∧ (({ laned 2 {} { phase := .lockWait, lane := 2 } none with porches := [(1, { mirror := 2 })] } : State).porch 1).mirror = 2
      ∧ (let s := laned 2 { state := .compatOut } { phase := .compat, lane := 2 } none
         (s.cal 1).phase = .compat ∧ (s.cal 1).step = 0 ∧ (s.lane 1 2).state = .compatOut ∧ s.compatDue 1 = true)
      ∧ (let s := laned 2 { baseFrames := 4095 } {} none
         (s.lane 1 2).baseFrames = 4095 ∧ (s.lane 1 2).baseOk = false ∧ s.hasLock 1 2 = true) := by
  refine ⟨⟨by constructor <;> decide +kernel, ?_⟩, ?_⟩
  all_goals (repeat' apply And.intro) <;> decide +kernel

/-- What the twin said in its last STATE cell: an epoch, and its role as a code. -/
def twinCell (epoch role : Nat) : StateCell := ⟨99, epoch, 1, role, 2, false, false, false, false, 0, 0, 0, 0, 0, 0, 0⟩
/-- A unit of the role with its twin block changed. -/
def twinned (r : Role) (f : Twin → Twin) : State := { planned r with
  porches := tupd (fun _ => {}) (planned r).porches 1 fun q => { q with ackEpoch := some 6 }
  twn := f { (planned r).twn with twin := some (twinCell 7 0) } }

theorem wit_ClaimsAndRoles :
    Canonical (twinned .standby id) ∧ (twinned .standby id).landing.isSome = true ∧ (twinned .standby id).twn.hbLost = false
      ∧ (twinned .standby id).twn.stateNow = false ∧ (twinned .standby id).twn.edgeNow = false
      ∧ 2 ≤ (twinned .standby fun x => { x with silent := 2 }).twn.silent ∧ (twinned .standby id).twn.silent < 2
      ∧ (let s := twinned .standby fun x => { x with hbLost := true }
         s.triggerHolds 2 = true ∧ s.claimAgain 2 = true ∧ s.mayClaim = true ∧ s.twn.hbLost = true ∧ s.twinHolds = true ∧ 1 ∈ s.readyOf roleDrive
           ∧ s.boot.stopped = false ∧ (s.porch 1).squelch % 256 ≠ 255)
      ∧ (twinned .standby id).triggerHolds 2 = false ∧ (twinned .standby id).twinHolds = true
      ∧ (twinned .standby fun x => { x with twin := some (twinCell 7 2) }).twinHolds = false
      ∧ (let c : Claim := { epoch := 8, frame := 99, trigger := 2, granted := [1], live := [1] }
         let s := twinned .standby fun x => { x with claim := some c }
         s.twn.claim = some c ∧ c.frame + 2 ≤ s.nextTick ∧ s.claimWins c = true ∧ s.roleNow = .standby)
      ∧ (let c : Claim := { epoch := 8, frame := 99, trigger := 2, live := [1] }
         let s := twinned .standby fun x => { x with claim := some c, side := 1 }
         c.frame + 2 ≤ s.nextTick ∧ s.claimWins c = false)
      ∧ (let c : Claim := { epoch := 8, frame := 99, trigger := 2, granted := [1], live := [1] }
         let s := twinned .withdrawn fun x => { x with claim := some c }
         s.roleNow ≠ .standby ∧ 1 ∈ c.granted)
      ∧ (twinned .standby id).twn.claim = none
      ∧ (let s := { twinned .solo id with hrt := { up.hrt with frame := 112 } }
         s.hrt.running = true ∧ s.commands = true ∧ s.hrt.frame % 16 = 0 ∧ 1 ∈ s.readyOf roleDrive
           ∧ (s.porch 1).ackEpoch = some 6 ∧ 6 < s.twn.epoch ∧ (s.porch 0).ackEpoch = none)
      ∧ (twinned .standby id).commands = false ∧ (twinned .withdrawn id).landing = some 3
      ∧ (twinned .withdrawn id).resyncDue = true ∧ (twinned .standby id).resyncDue = false := by
  refine ⟨by constructor <;> decide +kernel, ?_⟩
  all_goals (repeat' apply And.intro) <;> decide +kernel

theorem wit_CellsOfTheTwin :
    (let s := twinned .standby id
     let c : CommandCell := ⟨101, 7, 1, 1, false, [(3, 9)]⟩
     Canonical s ∧ s.landingUp = true ∧ (c.entries.map (·.1)).Nodup ∧ s.relays = true ∧ s.twn.twin = some (twinCell 7 0)
       ∧ (twinCell 7 0).epoch = c.epoch ∧ (twinCell 7 0).epoch ≠ { c with epoch := 6 }.epoch
       ∧ (∀ e ∈ c.entries, (s.fullTick c.applyTick, e.1) ∉ s.twn.filled) ∧ c.porch < 16 ∧ (s.porch c.porch).state = .ready
       ∧ s.porchRole c.porch = roleDrive
       ∧ (let u := twinned .standby fun x => { x with filled := [(101, 3)] }
          u.relays = true ∧ ∃ e ∈ c.entries, (u.fullTick c.applyTick, e.1) ∈ u.twn.filled))
      ∧ (twinned .solo id).relays = false ∧ ((twinned .standby id).porch 5).state ≠ .ready ∧ { up with plan := { committed := true, plan := { lanes := [{ role := 4 }] } } }.landingUp = false
      ∧ (twinned .withdrawn id).twn.sync = none ∧ 255 < 256
      ∧ (let c : Claim := { epoch := 8, frame := 99, trigger := 2, live := [1] }
         let s := twinned .standby fun x => { x with claim := some c }
         let g : GrantCell := ⟨8, 5, 0x2001, 0, 1⟩
         s.passes 1 = true ∧ g.toSide = s.twn.side ∧ s.twn.claim = some c ∧ c.epoch = g.epoch ∧ g.verdict = 1
           ∧ { g with verdict := 3 }.verdict ≠ 1 ∧ { g with verdict := 3 }.verdict ≠ 2 ∧ { g with toSide := 1 }.toSide ≠ s.twn.side)
      ∧ (twinned .standby id).mayClaim = true ∧ (twinned .solo id).mayClaim = false ∧ (twinned .solo id).landing = some 3
      ∧ (twinned .solo id).boot.stopped = false ∧ ((twinned .solo id).porch 3).squelch % 256 ≠ 255
      ∧ (twinned .standby id).roleNow = .standby ∧ { twinCell 7 0 with planDigest := 1 }.planDigest ≠ (twinned .standby id).plan.digest
      ∧ (twinCell 7 0).planDigest = (twinned .standby id).plan.digest ∧ (twinCell 7 0).edits = (twinned .standby id).eng.edits
      ∧ (twinned .standby id).twn.mismatch < 2 ∧ (twinned .withdrawn fun x => { x with sync := some [] }).landingUp = true
      ∧ (twinned .withdrawn fun x => { x with sync := some [] }).twn.sync.isSome = true := by
  refine ⟨⟨by constructor <;> decide +kernel, ?_⟩, ?_⟩
  all_goals (repeat' apply And.intro) <;> decide +kernel

/-- The port is up, and seat 1 is in a state. -/
def seated (k : SeatState) (bound : Bool) : State := { up with
  port := { linkUp := true }, seats := [(1, { state := k, bound := bound, readyAt := 1 })] }
/-- Seat 1 negotiates, and its host has accepted features. -/
def accepting (a : BitVec 64) : State := { seated .negotiate true with
  regs := [(Reg.SYS_SEATs_CFG 1, 0), (Reg.SEAT_FEAT_ACC 1 0, a)], live := [(Reg.SYS_SEATs_CFG 1, 0)], ops := { feat := [1] } }

theorem wit_SeatsAndTheLink :
    Canonical (seated .unbound false) ∧ (seated .unbound false).boot.ready = true ∧ (seated .unbound false).port.linkUp = true
      ∧ ((seated .unbound false).seat 1).bound = false ∧ (seated .unbound false).upd.recovery = false
      ∧ { up with upd := { recovery := true } }.upd.recovery = true ∧ (1 : BitVec 3).toNat ≠ 0
      ∧ ((seated .clearing true).seat 1).state = .clearing ∧ ((seated .clearing true).seat 1).resetting = false
      ∧ ((seated .ready true).seat 1).bound = true ∧ up.boot.started = true ∧ up.port.linkUp = false
      ∧ (seated .ready true).port.perst = false ∧ { up with port := { linkUp := true, perst := true } }.port.perst = true
      ∧ { up with live := [(Reg.SYS_SEATs_CFG 1, 256)] }.inForce (Reg.SYS_SEATs_CFG 1) 8 1 = 1
      ∧ up.inForce (Reg.SYS_SEATs_CFG 1) 8 1 = 0 ∧ (accepting 1).featResult 1 = 1 ∧ (accepting 0).featResult 1 ≠ 1
      ∧ (accepting 0).accepted 1 % 2 = 0 := by
  refine ⟨by constructor <;> decide +kernel, ?_⟩
  all_goals (repeat' apply And.intro) <;> decide +kernel

/-- Slot 0 of seat 1 is taken. -/
def slotted : State := { seated .ready true with
  ram := [(hallBase 1, 2)]
  taken := [{ seat := 1, slot := 0, typ := 3, flags := 0, cookie := 0, taken := 100, result := 0, obj := 0, body := [] }] }
theorem wit_HostWrites :
    Canonical slotted ∧ (0x53FFFF : BitVec 28).toNat + [1, 2, 3].length ≤ 2 ^ 28 ∧ slotted.boot.ready = true ∧ slotted.boot.stopped = false
      ∧ (slotted.seat 1).bound = true ∧ slotted.slotTaken 1 (256 + 2) = false ∧ hallReserved 256 = false
      ∧ slotted.slotTaken 1 31 = true ∧ 31 % 256 < 32 ∧ hallReserved 0x541000 = true ∧ (slotted.seat 2).bound = false := by
  refine ⟨by constructor <;> decide +kernel, ?_⟩
  all_goals (repeat' apply And.intro) <;> decide +kernel
theorem wit_MailboxesAnswer :
    (seated .ready true).boot.ready = true ∧ ((seated .ready true).seat 1).bound = true ∧ ((seated .ready true).seat 2).bound = false
      ∧ (255 : BitVec 32) ≠ 256 ∧ (seated .ready true).upd.restart = false
      ∧ (seated .ready true).upd.sessions.count 1 < 2 ∧ (seated .ready true).upd.sessions.length < 8
      ∧ 2 ≤ { up with upd := { sessions := [1, 1] } }.upd.sessions.count 1
      ∧ 8 ∈ { up with upd := { sessions := [1, 8] } }.upd.sessions ∧ (seated .ready true).port.linkUp = true
      ∧ 0 ∉ { up with upd := { sessions := [1, 8] } }.upd.sessions ∧ { up with upd := { restart := true } }.upd.restart = true := by
  (repeat' apply And.intro) <;> decide +kernel

theorem wit_OrdersAndNotices :
    Canonical (seated .ready true) ∧ 0 < 8 ∧ 0 < 4096 ∧ 1 < 2 ∧ (4 : Nat) < 5 ∧ (1 : Nat) / 2 % 2 = 0
      ∧ { startOrder with gone := true }.gone = true ∧ startOrder.gone = false ∧ (seated .ready true).ringUsed 1 < 65536
      ∧ 65536 ≤ { seated .ready true with seats := [(1, { bound := true, prod := 65536 })] }.ringUsed 1
      ∧ (Event.mk Src.sys 0 1 7 0 [] [0]).kind = 0 := by
  refine ⟨by constructor <;> decide +kernel, ?_⟩
  all_goals (repeat' apply And.intro) <;> decide +kernel

/-- A bundle of seven empty components with security version 3. -/
def bundle7 : List (Nat × Byte) :=
  [(0, 0x4D), (1, 0x48), (2, 0x55), (3, 0x50), (4, 1), (6, 7), (9, 0x20), (0x10, 0x96), (0x11, 0x40), (0x14, 0xB0), (0x15, 3)]
    ++ (span 0 7).flatMap (fun i => [(0x20 + 96 * i, BitVec.ofNat 8 (i + 1)), (0x29 + 96 * i, 0x20)]) ++ [(0x1000, 1)]
/-- The unit stages an image. -/
def staging (b : List (Nat × Byte)) : State := { up with upd := { st := .staging, lockSrc := 0, imageLen := 0x2000, image := b } }
/-- Porch 1 is asked for the head-image operation `op`; a key change is in flash or not. -/
def relaying (op : Nat) (done : Bool) : State := { planned .solo with
  upd := { asked := [(1, op)], keyWrite := some [(0, [1])], keyDone := done } }

theorem wit_FirmwareIsStaged :
    Canonical (staging []) ∧ (staging []).upd.st = .staging ∧ (staging []).upd.stageEnd = none ∧ (staging []).upd.relayed = none
      ∧ (staging []).bundleFault = some (3, 255) ∧ bunFault bundle7 0x2000 = none ∧ (staging bundle7).bundleOf.heads = []
      ∧ (staging bundle7).flashOut = false ∧ bunNat bundle7 0x15 1 < { up with flash := { fusedSvn := 4 } }.flash.fusedSvn
      ∧ (staging []).manifestFault ≠ none ∧ (staging []).upd.pair = false
      ∧ (let s : State := { planned .solo with upd := { stageEnd := some (9, 0), loaded := [1] } }
         s.upd.stageEnd = some (9, 0) ∧ 1 ∈ s.upd.loaded ∧ s.boot.stopped = false ∧ (s.porch 1).squelch % 256 ≠ 255)
      ∧ up.upd.st ≠ .staging ∧ { up with upd := { stageEnd := some (5, 0) } }.upd.stageEnd = some (5, 0)
      ∧ { up with upd := { stageEnd := some (1, 0) } }.upd.stageEnd = some (1, 0) ∧ (relaying 1 false).passes 1 = true
      ∧ (relaying 1 false).upd.asked.find? (fun a => a.1 = 1) = some (1, 1)
      ∧ (relaying 2 false).upd.asked.find? (fun a => a.1 = 1) = some (1, 2) ∧ (∀ op, (2, op) ∉ (relaying 1 false).upd.asked)
      ∧ (relaying 1 true).upd.keyWrite = some [(0, [1])] ∧ (relaying 1 true).upd.keyDone = true ∧ (relaying 1 false).upd.keyDone = false
      ∧ up.upd.keyWrite = none := by
  refine ⟨by constructor <;> decide +kernel, ?_, ?_, ?_, ?_, ?_, ?_, ?_, ?_, ?_, ?_, ?_, ?_, ?_, ?_, ?_, ?_, ?_, ?_, ?_⟩
  case refine_18 => intro op; simp [relaying]
  all_goals (repeat' apply And.intro) <;> decide +kernel
/-- Where the signature and the digests hold, which are constants that no model evaluates, the bundle above passes its checks; with a
higher fused version it is refused. -/
theorem wit_FirmwareIsStaged_signed (h : bunSigned bundle7 = true) (d : bunBadDigest bundle7 = none) :
    (staging bundle7).bundleFault = none ∧ (staging bundle7).manifestFault = none
      ∧ (let s : State := { planned .solo with upd := { st := .staging, lockSrc := 0, imageLen := 0x2000, image := bundle7, pair := true } }
         s.upd.pair = true ∧ s.landing = some 3 ∧ s.boot.stopped = false ∧ (s.porch 3).squelch % 256 ≠ 255)
      ∧ (let s := { staging bundle7 with flash := { fusedSvn := 4 } }
         bunFault s.upd.image s.upd.imageLen = none ∧ bunSigned s.upd.image = true ∧ bunNat s.upd.image 0x15 1 < s.flash.fusedSvn) := by
  have f : bunFault bundle7 0x2000 = none := by decide +kernel
  have v : ¬ bunNat bundle7 0x15 1 < up.flash.fusedSvn := by decide +kernel
  have m : (staging bundle7).manifestFault = none := by
    show (match bunFault bundle7 0x2000 with
      | some w => some (UpdResult.badBundle, w)
      | none => if !bunSigned bundle7 then some (UpdResult.signature, 0)
                else if bunNat bundle7 0x15 1 < up.flash.fusedSvn then some (UpdResult.rollback, 0) else none) = none
    simp [f, h, v]
  refine ⟨?_, m, ?_, f, h, by decide +kernel⟩
  · show (match (staging bundle7).manifestFault with
      | some w => some w
      | none => (bunBadDigest bundle7).map fun i => (UpdResult.badBundle, i)) = none
    simp [m, d]
  · decide +kernel

/-- An update in a state, with its restart, its self-test and its window. -/
def updating (k : UpdState) (f : UpdBlock → UpdBlock) : State := { up with
  upd := f { up.upd with st := k }, flash := { up.flash with slotB := { state := 1, svn := 3 } } }
theorem wit_FirmwareIsActivated :
    Canonical (updating .scheduled fun x => { x with actTick := 101 })
      ∧ (updating .scheduled fun x => { x with actTick := 101 }).activationDue = true
      ∧ (updating .scheduled fun x => { x with actTick := 102 }).activationDue = false
      ∧ (updating .restarting fun x => { x with restart := true }).upd.restart = true
      ∧ (updating .restarting fun x => { x with restart := true }).upd.falling = false
      ∧ (updating .restarting fun x => { x with restart := true }).upd.st = .restarting
      ∧ (updating .fallingBack fun x => { x with restart := true, falling := true }).upd.falling = true ∧ up.upd.restart = false
      ∧ (updating .pending fun x => { x with selftest := 1 }).upd.selftest = 1
      ∧ (updating .pending fun x => { x with selftest := 1 }).upd.st = .pending
      ∧ (updating .pending fun x => { x with selftest := 1 }).upd.fbFound = none ∧ up.upd.selftest ≠ 1
      ∧ (updating .pending id).upd.windowCyc ≤ up.hrt.cycles + up.hrt.cfg.period
      ∧ up.hrt.cycles + up.hrt.cfg.period < (updating .pending fun x => { x with windowCyc := 10 ^ 9 }).upd.windowCyc
      ∧ (updating .fallingBack id).upd.st = .fallingBack ∧ (updating .fallingBack id).upd.falling = false
      ∧ (updating .fallingBack id).upd.actTick ≤ up.nextTick ∧ up.upd.st ≠ .fallingBack
      ∧ (updating .pending fun x => { x with selftest := 2 }).upd.migrFailed = false
      ∧ (updating .pending fun x => { x with selftest := 2 }).upd.selftest = 2 ∧ up.upd.st ≠ .pending
      ∧ (updating .pending fun x => { x with migrFailed := true }).upd.migrFailed = true ∧ up.flash.burnTo = none
      ∧ up.flash.fusedSvn < ((updating .pending fun x => { x with selftest := 2, runSlot := 1 }).fwSlot 1).svn
      ∧ ((updating .pending fun x => { x with selftest := 2 }).fwSlot 0).svn ≤ up.flash.fusedSvn
      ∧ { up with flash := { up.flash with burnTo := some 3 } }.flash.burnTo = some 3
      ∧ (updating .pending id).upd.selftest ≠ 2 := by
  refine ⟨by constructor <;> decide +kernel, ?_⟩
  all_goals (repeat' apply And.intro) <;> decide +kernel

/-- An open record 5 of type 9 and severity 3, with a READ of the Attic under way. -/
def record5 : AtticRec := { number := 5, tick := 90, cycles := 0, opsec := 0, typ := 9, sev := 3, key := 3, payload := [1, 2, 3, 4, 5, 6, 7, 8]
                            rep := 1, lastMs := 0, born := 0, ends := 7500000, isOpen := true, saved := none, reserve := false }
def event9 (sev : Nat) : AtticEvent := ⟨9, sev, 3, [1, 2, 3, 4, 5, 6, 7, 8]⟩
def recording (b : Bool) : State := { up with
  att := { recs := [record5], nextNum := 6, failed := b, opsec := 60
           reading := some { off := 0x1000000, len := 4096, cur := 5, maxRec := 0, maxSev := 4, newest := 5, gap := false } } }
theorem wit_AtticRecords :
    Canonical (recording false) ∧ up.minSev < (event9 9).sev ∧ (event9 3).sev ≤ (recording false).minSev ∧ (recording false).coalesceMs ≠ 0
      ∧ (recording false).att.openFor (event9 3) = some record5 ∧ up.att.openFor (event9 3) = none ∧ up.att.recs = []
      ∧ up.att.failed = false ∧ (event9 3).payload.length ≤ 1024 ∧ record5.number = (5 : BitVec 48).toNat
      ∧ record5.ends ≤ up.hrt.cycles + up.hrt.cfg.period ∧ record5.number ≠ (6 : BitVec 48).toNat
      ∧ (recording true).att.failed = true ∧ (recording false).att.opsecSaved + 60 ≤ (recording false).att.opsec
      ∧ up.att.opsec < up.att.opsecSaved + 60 ∧ (recording false).att.reading.isSome = true ∧ (recording false).att.done = false
      ∧ (recording false).att.aborting = false ∧ up.att.reading = none := by
  refine ⟨by constructor <;> decide +kernel, ?_⟩
  all_goals (repeat' apply And.intro) <;> decide +kernel
theorem wit_RegisterReads :
    Canonical up ∧ aligned .full (BitVec.ofNat 22 Reg.HRT_TIME_NS).toNat = true ∧ regAddr 0 Reg.HRT_TIME_NS = some Reg.HRT_TIME_NS
      ∧ regAddr 1 0x3FFFF8 = none ∧ aligned .full (0x3FFFF8 : BitVec 22).toNat = true
      ∧ regOf Reg.HRT_TIME_NS = Reg.HRT_TIME_NS ∧ regAddr 1 0 = some 0x1010000 ∧ regAddr 0 Reg.ATT_COUNTS = some Reg.ATT_COUNTS
      ∧ Reg.ATT_COUNTS < 0x200000 ∧ (Reg.ATT_COUNTS < 0x60000 ∨ 0x70000 ≤ Reg.ATT_COUNTS)
      ∧ (0x70000 ≤ 0x1010000 ∧ 0x1000000 ≤ 0x1010000 ∧ 0x1010000 % 0x10000 < 0x1000) := by
  refine ⟨by constructor <;> decide +kernel, ?_⟩
  all_goals (repeat' apply And.intro) <;> decide +kernel
theorem wit_RegisterWrites :
    Canonical up ∧ aligned .full (0x3FFFF8 : BitVec 22).toNat = true ∧ regAddr 1 0x3FFFF8 = none
      ∧ aligned .half (0x308 : BitVec 22).toNat = true ∧ (0x308 : BitVec 22).toNat < 0x10000
      ∧ 0 < (1 : BitVec 3).toNat ∧ (0x58 : BitVec 22).toNat % 8 = 0 ∧ 0x50 ≤ (0x58 : BitVec 22).toNat
      ∧ bitsOf 1 0 4 = 1 ∧ bitsOf 4 0 4 = 4 ∧ bitsOf 2 0 4 = 2 ∧ bitsOf 1 8 4 ≠ 1
      ∧ { up with plan := { cand := some {}, commitAt := 105, st := .scheduled } }.plan.pending = true ∧ up.plan.pending = false := by
  refine ⟨by constructor <;> decide +kernel, ?_⟩
  all_goals (repeat' apply And.intro) <;> decide +kernel

-- Ill-formed commands -----------------------------------------------------------------------------------------------------------

theorem test_illformed_readings :
    (Instr.tick { temps := [(5, 0)] }).wellFormed = false ∧ (Instr.tick { vdd := [(5, 0)] }).wellFormed = false
      ∧ (Instr.tick { regions := [(16, 0)] }).wellFormed = false ∧ (Instr.tick { jobW := [(256, 1)] }).wellFormed = false
      ∧ (Instr.tick { analog := [(8, [])] }).wellFormed = false ∧ (Instr.tick {}).wellFormed = true := by
  (repeat' apply And.intro) <;> decide
theorem test_illformed_time :
    (Instr.timeCellRx ⟨0, 0, 0, 75000, 0, 0, 0, 0, 0, 2, false, false⟩ 0).wellFormed = false
      ∧ (Instr.timeCellRx ⟨0, 0, 0, 0, 0, 0, 0, 0, 0, 1, false, false⟩ 0).wellFormed = false := by
  (repeat' apply And.intro) <;> decide
theorem test_illformed_copies :
    (Instr.copyIssue 5 0 { desc 0 4096 false with len := 0 }).wellFormed = false
      ∧ (Instr.copyIssue 5 0 { desc 0 4096 false with row := 8, srcPitch := 7, dstPitch := 8 }).wellFormed = false
      ∧ (Instr.copyIssue 5 0 { desc 0 4096 false with row := 8, srcPitch := 8, dstPitch := 8 }).wellFormed = true
      ∧ (Instr.beatComplete 5 0 (none, 0) (.ok (List.replicate 4097 0))).wellFormed = false := by
  (repeat' apply And.intro) <;> decide +kernel
theorem test_illformed_sense :
    (Instr.patchCell 0 99 63 0 (List.replicate 513 0)).wellFormed = false
      ∧ (Instr.tapCell 2 100 4095 ([{}, {}], .good)).wellFormed = false ∧ (Instr.tapCell 2 100 0 ([], .good)).wellFormed = false
      ∧ (Instr.cutoff (8191, 2) []).wellFormed = false ∧ (Instr.cutoff (8191, 1) [(8191, .corrected)]).wellFormed = true
      ∧ (Instr.cutoff (0, 1) [(1, .good)]).wellFormed = false
      ∧ (Instr.rebuildRoundEnd 2 [(16777216, 0, 0, 0, 0)]).wellFormed = false
      ∧ (Instr.rebuildRoundEnd 2 [(1, 0, 0, 32768, 0)]).wellFormed = false := by
  (repeat' apply And.intro) <;> decide +kernel
theorem test_illformed_rest :
    (Instr.pwmPeriod 1 2 1).wellFormed = false ∧ (Instr.pwmPeriod 1 0 0).wellFormed = false
      ∧ (Instr.planningDone [⟨2, 0, []⟩] [2] []).wellFormed = false ∧ (Instr.planningDone [⟨2, 0, [(0, 40000)]⟩] [2] []).wellFormed = false
      ∧ (Instr.schedCell { schedPart with part := 1 }).wellFormed = false
      ∧ (Instr.commandCell ⟨1, 1, 1, 1, false, []⟩).wellFormed = false ∧ (Instr.commandCell ⟨1, 1, 1, 1, false, [(16384, 0)]⟩).wellFormed = false
      ∧ (Instr.grantCell 1 ⟨8, 5, 0, 2, 1⟩).wellFormed = false ∧ (Instr.withdrawCell ⟨8, 2, 1, 1⟩).wellFormed = false
      ∧ (Instr.stateCell (twinCell 7 4)).wellFormed = false ∧ (Instr.resyncCell (.contexts 1 [(63, {})])).wellFormed = false
      ∧ (Instr.resyncCell (.bundle 4 [(4, 1)])).wellFormed = false ∧ (Instr.holding 1 [(0, 32768, true)]).wellFormed = false
      ∧ (Instr.windows 0 (List.replicate 2049 (0, 0))).wellFormed = false
      ∧ (Instr.monitorPoll 3 0 0 (List.replicate 9 0)).wellFormed = false ∧ (Instr.rampStep 1 { ctle := 32 }).wellFormed = false
      ∧ (Instr.slotWrite 1 0xFFFFFFF [1, 2]).wellFormed = false ∧ (Instr.rcRead 0 4 .full).wellFormed = false
      ∧ (Instr.registerWrite 0 2 .half 0).wellFormed = false ∧ (Instr.rcRead 0 4 .half).wellFormed = true := by
  (repeat' apply And.intro) <;> decide +kernel

-- The spec's own figures ----------------------------------------------------------------------------------------------------------

/-- The check value of CRC-32C over "123456789" (the family's, log entry 11). -/
theorem test_crc : crc32c [0x31, 0x32, 0x33, 0x34, 0x35, 0x36, 0x37, 0x38, 0x39] = 0xE3069283 := by decide +kernel
/-- The section of 05: 0.75 times 0x7FFF less 0.5 times 0.5, with shifts 1 and 0, and the sum that saturates. -/
theorem test_section : toQ15 (macQ [(0x6000, 0x7FFF), (-0x4000, 0x4000)]) 1 = 0x7FFE
    ∧ toQ15 (macQ [(0x6000, 0x7FFF), (-0x4000, 0x4000)]) 0 = 0x3FFF ∧ toQ15 (macQ [(0x6000, 0x7FFF), (-0x4000, -0x4000)]) 1 = 0x7FFF := by
  decide +kernel
/-- The block of 05 with amax 3.1: 3.1, -0.01 and 0.0002 at the scale 2^-7. -/
theorem test_mxfp8 : (fmtE4m3.convert .nearest true ((ofFp32 0x40466666).scale 7)).1 = 0x7C
    ∧ (fmtE4m3.convert .nearest true ((ofFp32 0xBC23D70A).scale 7)).1 = 0xBA
    ∧ (fmtE4m3.convert .nearest true ((ofFp32 0x3951B717).scale 7)).1 = 0x0D
    ∧ MxFmt.e4m3.blockExp [ofFp32 0x40466666, ofFp32 0xBC23D70A] = -7 := by decide +kernel
/-- The set-point of 07: at 5,000 and rising by 64, with the target 0, it reaches 5,056. -/
theorem test_limiter : limit { u := 5000, v := 64 } 0 64 8 = { u := 5056, v := 56 } := by decide +kernel
/-- The front command runs and leaves the queue; a unit with none idles. -/
theorem test_front : (match step { up with pending := [.heartbeatEdge, .tick {}] } with
    | .next t => t.twn.edgeNow && decide (t.pending = [.tick {}]) | _ => false) = true := by decide +kernel
theorem test_idle : step up = .next up := rfl

end Sys2Proof.Tests
end

-- Pulses on HALT_N --------------------------------------------------------------------------------------------------------------

section
/-! What a pulse on `HALT_N` does, said once: a pulse that is seen leads to one state, a pulse that is not seen takes only its free
value (R23, R24, R26, R206). -/
namespace Sys2Proof.Machine

@[simp] theorem State.guardEvent_hrt (s : State) (code : Nat) : (s.guardEvent code).hrt = { s.hrt with guardNow := true } := rfl

@[simp] theorem State.guardEvent_pins (s : State) (code : Nat) : (s.guardEvent code).pins = s.pins := rfl

/-- The Guard cells an asserted `HALT_N` calls for: HOLD to every drive head, or a STATE cell where the role forbids them (R24). -/
def State.haltCells (s : State) : State :=
  if s.commands then State.sendAll (s.readyOf 2) GuardCode.halt (s.holdCell 0 0 GuardCode.halt) s else s.guardState GuardCode.halt

theorem State.haltCells_frame (s : State) : SameBut [.regs, .porches, .free] s s.haltCells :=
  SameBut.ite (State.sendAll_frame _ _ _ _) (State.guardState_frame _ _)

/-- The state a seen pulse leads to: the pin low, the Guard event counted, its cells sent, every loop that is not OFF about to
freeze. -/
def State.haltSeen (s : State) : State :=
  (({ s.freeTick with pins := { s.pins with haltN := false } }.guardEvent GuardCode.halt).haltCells).freezeWhere 1 fun _ => true

/-- The cells and the freeze leave the pins and the Hearth as the Guard event made them. -/
theorem State.haltSeen_frame (s : State) :
    SameBut [.regs, .porches, .free, .loops]
      ({ s.freeTick with pins := { s.pins with haltN := false } }.guardEvent GuardCode.halt) s.haltSeen :=
  (State.freezeWhere_frame _ _ _).after (by decide) ((State.haltCells_frame _).mono (by decide))

@[simp] theorem State.haltSeen_pins (s : State) : s.haltSeen.pins = { s.pins with haltN := false } :=
  s.haltSeen_frame .pins (by decide)

@[simp] theorem State.haltSeen_hrt (s : State) : s.haltSeen.hrt = { s.hrt with guardNow := true } :=
  s.haltSeen_frame .hrt (by decide)

/-- A pulse of 40 ns or longer is seen, and so is a shorter one when the free value says so (log 3). -/
theorem exec_halt_seen {low : Nat} {s : State} (h : 40 ≤ low ∨ Config.freeBool s.free = true) :
    exec (.halt low) s = .next s.haltSeen := by
  have hseen : (decide (40 ≤ low) || Config.freeBool s.free) = true := by simpa using h
  change execHalt low s = _
  simp only [execHalt, hseen, if_true]
  rfl

/-- A shorter pulse is not seen when the free value says so (log 3). -/
theorem exec_halt_unseen {low : Nat} {s : State} (hlow : low < 40) (hfree : Config.freeBool s.free = false) :
    exec (.halt low) s = .next s.freeTick := by
  change execHalt low s = _
  simp [execHalt, hfree, Nat.not_le.2 hlow]

/-- Settles O14: a pulse of 40 ns leads to `haltSeen`, and the free value decides whether a shorter one does too or is ignored. -/
theorem haltPulses : Obligations.HaltPulses := by
  intro s low
  constructor
  · intro hlow
    exact ⟨s.haltSeen, exec_halt_seen (.inl hlow), by simp, by simp⟩
  · intro hlow
    cases hfree : Config.freeBool s.free with
    | false => exact .inl (exec_halt_unseen hlow hfree)
    | true => exact .inr ((exec_halt_seen (.inr hfree)).trans (exec_halt_seen (.inl (Nat.le_refl 40))).symm)

end Sys2Proof.Machine
end

-- Late fill ---------------------------------------------------------------------------------------------------------------------

section
/-! What the late fill leaves of a loop it does not fill: the loop, the record of the fills and the queued cells that name the loop
stand (R30, R210). Every operation of the snapshot keeps these three, so the snapshot does. -/
namespace Sys2Proof.Machine

-- What the operations of the fill do to tables, queues and pieces

/-- A table in canonical form lists each key once, with the entry that a read of the key returns. -/
theorem tget_of_mem {α : Type} [DecidableEq α] {d : Nat → α} {t : List (Nat × α)} (h : twf d t = true) {i : Nat} {v : α}
    (hm : (i, v) ∈ t) : tget d t i = v := by
  unfold twf at h
  generalize (none : Option Nat) = lo at h
  induction t generalizing lo with
  | nil => cases hm
  | cons e t ih =>
    obtain ⟨j, w⟩ := e
    obtain ⟨-, -, ht⟩ := twfFrom_cons h
    rcases List.mem_cons.1 hm with heq | hm
    · cases heq; exact if_pos rfl
    · have hji : j < i := twfFrom_keysAbove ht _ hm
      simp only [tget]
      rw [if_neg (Nat.ne_of_lt hji)]
      exact ih hm _ ht

/-- A loop that `loopsWhere` lists satisfies the condition as the state reads it. -/
theorem State.of_mem_loopsWhere {s : State} {q : Nat → Loop → Bool} {l : Nat} (h : twf (fun _ => ({} : Loop)) s.loops = true)
    (hl : l ∈ s.loopsWhere q) : q l (s.loop l) = true := by
  obtain ⟨⟨i, x⟩, hmem, rfl⟩ := List.mem_map.1 hl
  obtain ⟨hlisted, hq⟩ := List.mem_filter.1 hmem
  have hread : s.loop i = x := tget_of_mem h hlisted
  rw [hread]
  exact hq

/-- Queueing a cell leaves every selection of the queue that does not take it. -/
theorem filter_enqueue (f : Nat × TxCell → Bool) {prio : Nat} {c : TxCell} (hc : f (prio, c) = false) (q : List (Nat × TxCell)) :
    (enqueue prio c q).filter f = q.filter f := by
  induction q with
  | nil => simp [enqueue, hc]
  | cons e q ih =>
    unfold enqueue
    split
    · rw [List.filter_cons_of_neg (by simp [hc])]
    · simp [List.filter_cons, ih]

/-- A send queues the cell on its porch or leaves every porch as it was. -/
theorem State.send_porches (s : State) (p prio : Nat) (c : TxCell) :
    (s.send p prio c).porches = s.porches
      ∨ (s.send p prio c).porches
        = (s.updPorch p fun q => { q with sent := enqueue prio c q.sent, txSeq := (q.txSeq + 1) % 65536 }).porches := by
  unfold State.send
  split
  · exact .inl rfl
  · refine .inr ?_
    by_cases hguard : prio < prioFrame <;> cases c <;> simp [hguard]

/-- The pieces of a list hold only its own entries. -/
theorem mem_of_mem_pieces {n : Nat} {fuel : Nat} {es piece : List (Nat × Int)} {e : Nat × Int} (hp : piece ∈ pieces n fuel es)
    (he : e ∈ piece) : e ∈ es := by
  induction fuel generalizing es with
  | zero => cases hp
  | succ fuel ih =>
    cases es with
    | nil => cases hp
    | cons a es =>
      rcases List.mem_cons.1 hp with rfl | hp
      · exact List.mem_of_mem_take he
      · exact List.mem_of_mem_drop (ih hp)

-- A loop that is not filled

/-- A queued cell is a COMMAND cell with an entry for loop `l`. -/
def namesLoop (l : Nat) (x : Nat × TxCell) : Bool :=
  match x.2 with
  | .command c => decide (l ∈ c.entries.map Prod.fst)
  | _ => false

/-- From `s` to `t` loop `l` has not been filled: the loop stands, no fill of it is recorded, and the queues of a canonical porch
table, which stays canonical, hold the same cells that name it. -/
structure Unfilled (l : Nat) (s t : State) : Prop where
  loop    : t.loop l = s.loop l
  filled  : ∀ n, (n, l) ∈ t.twn.filled → (n, l) ∈ s.twn.filled
  porches : twf (fun _ => ({} : Porch)) s.porches = true → twf (fun _ => ({} : Porch)) t.porches = true
  cells   : twf (fun _ => ({} : Porch)) s.porches = true →
    ∀ p, (t.porch p).sent.filter (namesLoop l) = (s.porch p).sent.filter (namesLoop l)

namespace Unfilled

theorem refl (l : Nat) (s : State) : Unfilled l s s := ⟨rfl, fun _ => id, id, fun _ _ => rfl⟩

theorem trans {l : Nat} {s t u : State} (h : Unfilled l s t) (k : Unfilled l t u) : Unfilled l s u where
  loop := k.loop.trans h.loop
  filled n := h.filled n ∘ k.filled n
  porches := k.porches ∘ h.porches
  cells hs p := (k.cells (h.porches hs) p).trans (h.cells hs p)

theorem foldl {β : Type} {l : Nat} {f : State → β → State} {xs : List β} (hf : ∀ x ∈ xs, ∀ u, Unfilled l u (f u x)) (s : State) :
    Unfilled l s (xs.foldl f s) := by
  induction xs generalizing s with
  | nil => exact refl l s
  | cons x xs ih =>
    exact (hf x List.mem_cons_self s).trans (ih (fun y hy => hf y (List.mem_cons_of_mem x hy)) (f s x))

/-- A change that leaves the porches as they were concerns the loop and the record alone. -/
theorem of_porches_eq {l : Nat} {s t : State} (hloop : t.loop l = s.loop l)
    (hfilled : ∀ n, (n, l) ∈ t.twn.filled → (n, l) ∈ s.twn.filled) (hporches : t.porches = s.porches) : Unfilled l s t where
  loop := hloop
  filled := hfilled
  porches hs := hporches ▸ hs
  cells _ p := by unfold State.porch; rw [hporches]

/-- A change outside loops, porches and the twin. -/
theorem of_sameBut {l : Nat} {m : List Part} {s t : State} (h : SameBut m s t) (hloops : .loops ∉ m) (hporches : .porches ∉ m)
    (htwn : .twn ∉ m) : Unfilled l s t := by
  have hl : t.loops = s.loops := h .loops hloops
  have ht : t.twn = s.twn := h .twn htwn
  exact of_porches_eq (by unfold State.loop; rw [hl]) (fun n hn => ht ▸ hn) (h .porches hporches)

end Unfilled

-- The operations of the snapshot

theorem State.updPorch_unfilled {l : Nat} {f : Porch → Porch} (s : State) (p : Nat)
    (hf : ∀ q, (f q).sent.filter (namesLoop l) = q.sent.filter (namesLoop l)) : Unfilled l s (s.updPorch p f) where
  loop := rfl
  filled _ := id
  porches hs := twf_tupd hs p f
  cells hs q := by
    by_cases hq : q = p
    · subst hq; rw [State.porch_updPorch_self hs, hf]
    · rw [State.porch_updPorch_ne s f hq]

/-- Sending a cell that does not name the loop. -/
theorem State.send_unfilled {l : Nat} (s : State) (p prio : Nat) {c : TxCell} (hc : namesLoop l (prio, c) = false) :
    Unfilled l s (s.send p prio c) := by
  have hframe := s.send_frame p prio c
  have hloops : (s.send p prio c).loops = s.loops := hframe .loops (by decide)
  have htwn : (s.send p prio c).twn = s.twn := hframe .twn (by decide)
  have hloop : (s.send p prio c).loop l = s.loop l := by unfold State.loop; rw [hloops]
  have hfilled : ∀ n, (n, l) ∈ (s.send p prio c).twn.filled → (n, l) ∈ s.twn.filled := fun n hn => htwn ▸ hn
  rcases s.send_porches p prio c with h | h
  · exact .of_porches_eq hloop hfilled h
  · exact (s.updPorch_unfilled p fun q => filter_enqueue _ hc q.sent).trans (.of_porches_eq hloop hfilled h)

/-- A command that leaves for another loop. -/
theorem State.commandLeft_unfilled {l : Nat} (s : State) {e : Nat × Int} (he : e.1 ≠ l) : Unfilled l s (s.commandLeft e) := by
  refine .of_porches_eq ?_ (fun _ => id) rfl
  unfold State.commandLeft State.keepCommand
  rw [State.loop_updLoop_ne _ _ he.symm, State.loop_updLoop_ne _ _ he.symm]

/-- The record of the fills of other loops. -/
theorem State.recordFills_unfilled {l : Nat} (s : State) (n : Nat) {es : List (Nat × Int)} (hes : ∀ e ∈ es, e.1 ≠ l) :
    Unfilled l s { s with twn := { s.twn with filled := s.twn.filled ++ es.map fun e => (n, e.1) } } := by
  refine .of_porches_eq rfl (fun k hk => ?_) rfl
  rcases List.mem_append.1 hk with hk | hk
  · exact hk
  · obtain ⟨e, he, heq⟩ := List.mem_map.1 hk
    exact absurd (congrArg Prod.snd heq) (hes e he)

/-- The fill of a porch with commands of other loops: its cells, the count, the commands that left, the record. -/
theorem State.fillPorch_unfilled {l : Nat} (s : State) (epoch p : Nat) {es : List (Nat × Int)} (hes : ∀ e ∈ es, e.1 ≠ l) :
    Unfilled l s (s.fillPorch epoch p es) := by
  unfold State.fillPorch
  split
  · exact .refl l s
  · refine .trans ?_ (State.recordFills_unfilled _ _ hes)
    refine .trans ?_ (.foldl (fun e he u => u.commandLeft_unfilled (hes e he)) _)
    refine .trans ?_ (.of_sameBut (State.count_frame _ _ _ _ _) (by decide) (by decide) (by decide))
    refine .foldl (fun piece hpiece u => u.send_unfilled p _ ?_) s
    have hother : l ∉ piece.map Prod.fst := fun hl => by
      obtain ⟨e, he, heq⟩ := List.mem_map.1 hl
      exact hes e (mem_of_mem_pieces hpiece he) heq
    exact decide_eq_false hother

/-- Only a loop in SLEW, HOLD or TRACK fills. -/
theorem State.not_fills {s : State} {l : Nat} {x : Loop} (h : x.cls = .off ∨ x.cls = .acquire ∨ x.cls = .freeze) :
    s.fills l x = false := by
  rcases h with h | h | h <;> simp [State.fills, h]

/-- The snapshot does not fill a loop whose command may not fill. -/
theorem execLateFillSnapshot_unfilled {s : State} {l : Nat} (hs : twf (fun _ => ({} : Loop)) s.loops = true)
    (hl : s.fills l (s.loop l) = false) : ∃ t, execLateFillSnapshot s = .next t ∧ Unfilled l s t := by
  have hout : l ∉ s.loopsWhere fun k x => s.fills k x := fun hmem =>
    Bool.false_ne_true (hl.symm.trans (State.of_mem_loopsWhere hs hmem))
  unfold execLateFillSnapshot
  split
  · split
    · refine ⟨_, rfl, .trans (.foldl (fun p _ u => ?_) s) (.of_porches_eq rfl (fun _ => id) rfl)⟩
      refine u.fillPorch_unfilled _ p fun e he heq => ?_
      obtain ⟨k, hk, rfl⟩ := List.mem_map.1 he
      exact hout (heq ▸ (List.mem_filter.1 hk).1)
    · exact ⟨s, rfl, .refl l s⟩
  · exact ⟨s, rfl, .refl l s⟩

/-- Settles O21: a loop in OFF, ACQUIRE or FREEZE may not fill, and the snapshot leaves such a loop unfilled. -/
theorem noLateFillOutsideRun : Obligations.NoLateFillOutsideRun := by
  intro s l hs hcls
  obtain ⟨t, ht, hunfilled⟩ := execLateFillSnapshot_unfilled hs.loops (State.not_fills hcls)
  refine ⟨t, ht, hunfilled.loop, hunfilled.filled, hunfilled.cells hs.porches⟩

end Sys2Proof.Machine
end

-- Steps --------------------------------------------------------------------------------------------------------------------------

section
/-! What every command keeps, gathered from the laws of the commands: its frame first, and from the frame whatever the command does
not touch; the commands that touch a part are named one by one. -/
namespace Sys2Proof.Machine

/-- Each command changes only what `touches` lists for it. -/
theorem exec_frame (c : Instr) (s : State) : Frames (touches c) s (exec c s) := by
  cases c with
  | porAssert => exact execPorAssert_frame s
  | porDeassert => exact execPorDeassert_frame s
  | configurationReady _ _ _ => exact execConfigurationReady_frame _ _ _ s
  | timebaseAbsent => exact execTimebaseAbsent_frame s
  | tickZero => exact execTickZero_frame s
  | tick _ => exact execTick_frame _ s
  | ppsSecond => exact execPpsSecond_frame s
  | timebaseLoss => exact execTimebaseLoss_frame s
  | timebaseReturn => exact execTimebaseReturn_frame s
  | tickInEdge _ => exact execTickInEdge_frame _ s
  | timeCellRx _ _ => exact execTimeCellRx_frame _ _ s
  | alignmentStep _ => exact execAlignmentStep_frame _ s
  | lockGained => exact execLockGained_frame s
  | referenceLost => exact execReferenceLost_frame s
  | epochArm => exact execEpochArm_frame s
  | epochStep => exact execEpochStep_frame s
  | guardSlotStart _ => exact execGuardSlotStart_frame _ s
  | yieldPoint _ => exact execYieldPoint_frame _ s
  | forcedPreemption _ _ => exact execForcedPreemption_frame _ _ s
  | contextSwitch _ _ => exact execContextSwitch_frame _ _ s
  | emitDeadline => exact execEmitDeadline_frame s
  | overrunFreeze _ => exact execOverrunFreeze_frame _ s
  | lateFillSnapshot => exact execLateFillSnapshot_frame s
  | cellClose _ _ _ => exact execCellClose_frame _ _ _ s
  | halt _ => exact execHalt_frame _ s
  | lossOfLight _ => exact execLossOfLight_frame _ s
  | supervisorFatal => exact execSupervisorFatal_frame s
  | guardMismatch => exact execGuardMismatch_frame s
  | planValidate => exact execPlanValidate_frame s
  | validationEnd _ => exact execValidationEnd_frame _ s
  | planCommit _ => exact execPlanCommit_frame _ s
  | planCancel => exact execPlanCancel_frame s
  | commitTakeEffect => exact execCommitTakeEffect_frame s
  | bridgeEnd => exact execBridgeEnd_frame s
  | tableClaim _ => exact execTableClaim_frame _ s
  | copyActiveDone _ => exact execCopyActiveDone_frame _ s
  | tableReady => exact execTableReady_frame s
  | tableRelease => exact execTableRelease_frame s
  | tableSwap => exact execTableSwap_frame s
  | tableRevert => exact execTableRevert_frame s
  | swapTakeEffect => exact execSwapTakeEffect_frame s
  | tableWindowAccess _ _ _ => exact execTableWindowAccess_frame _ _ _ s
  | placementSelect => exact execPlacementSelect_frame s
  | variantSwitch => exact execVariantSwitch_frame s
  | copyIssue _ _ _ => exact execCopyIssue_frame _ _ _ s
  | copyFence _ _ => exact execCopyFence_frame _ _ s
  | beatComplete _ _ _ _ => exact execBeatComplete_frame _ _ _ _ s
  | cellarTimeout _ _ _ => exact execCellarTimeout_frame _ _ _ s
  | retireSwitch _ => exact execRetireSwitch_frame _ s
  | faultRetry _ _ => exact execFaultRetry_frame _ _ s
  | faultLimit _ => exact execFaultLimit_frame _ s
  | scratchUe _ _ => exact execScratchUe_frame _ _ s
  | partitionViolation _ _ => exact execPartitionViolation_frame _ _ s
  | hopDown _ => exact execHopDown_frame _ s
  | jobStart _ _ => exact execJobStart_frame _ _ s
  | jobAdmitted _ => exact execJobAdmitted_frame _ s
  | jobPark _ _ => exact execJobPark_frame _ _ s
  | jobResume _ _ => exact execJobResume_frame _ _ s
  | jobStop _ _ => exact execJobStop_frame _ _ s
  | jobExit _ _ => exact execJobExit_frame _ _ s
  | patchCell _ _ _ _ _ => exact execPatchCell_frame _ _ _ _ _ s
  | tapCell _ _ _ _ => exact execTapCell_frame _ _ _ _ s
  | cutoff _ _ => exact execCutoff_frame _ _ s
  | estimateLands _ _ => exact execEstimateLands_frame _ _ s
  | adaptCandidate _ _ => exact execAdaptCandidate_frame _ _ s
  | adaptDone _ _ => exact execAdaptDone_frame _ _ s
  | rebuildRoundEnd _ _ => exact execRebuildRoundEnd_frame _ _ s
  | loopCtlStart _ => exact execLoopCtlStart_frame _ s
  | loopCtlOff _ => exact execLoopCtlOff_frame _ s
  | loopCtlFreeze _ => exact execLoopCtlFreeze_frame _ s
  | loopCtlRelease _ => exact execLoopCtlRelease_frame _ s
  | releaseAll _ => exact execReleaseAll_frame _ s
  | setpointWrite _ _ => exact execSetpointWrite_frame _ _ s
  | handOver _ => exact execHandOver_frame _ s
  | acquisitionComplete _ => exact execAcquisitionComplete_frame _ s
  | search _ => exact execSearch_frame _ s
  | acqTimeout _ => exact execAcqTimeout_frame _ s
  | warmUpEnd _ => exact execWarmUpEnd_frame _ s
  | implausible _ => exact execImplausible_frame _ s
  | stateEcc _ => exact execStateEcc_frame _ s
  | datapathMismatch _ => exact execDatapathMismatch_frame _ s
  | descLoad => exact execDescLoad_frame s
  | descWrite => exact execDescWrite_frame s
  | descCancel => exact execDescCancel_frame s
  | descTakeEffect => exact execDescTakeEffect_frame s
  | traceArm _ => exact execTraceArm_frame _ s
  | trigNow _ => exact execTrigNow_frame _ s
  | traceWrite _ _ => exact execTraceWrite_frame _ _ s
  | stepEdge _ _ => exact execStepEdge_frame _ _ s
  | pwmPeriod _ _ _ => exact execPwmPeriod_frame _ _ _ s
  | pwmStale _ => exact execPwmStale_frame _ s
  | clrCount _ => exact execClrCount_frame _ s
  | move _ _ => exact execMove_frame _ _ s
  | abort _ => exact execAbort_frame _ s
  | rearm _ => exact execRearm_frame _ s
  | rearmAll => exact execRearmAll_frame s
  | planningStart => exact execPlanningStart_frame s
  | planningDone _ _ _ => exact execPlanningDone_frame _ _ _ s
  | moveStart _ => exact execMoveStart_frame _ s
  | legEnd _ _ => exact execLegEnd_frame _ _ s
  | pathReady _ => exact execPathReady_frame _ s
  | settleTimeout _ => exact execSettleTimeout_frame _ s
  | deadlineMissed _ => exact execDeadlineMissed_frame _ s
  | pathLoss _ => exact execPathLoss_frame _ s
  | reflexTrip _ => exact execReflexTrip_frame _ s
  | schedCell _ => exact execSchedCell_frame _ s
  | gddr7DeviceLost _ => exact execGddr7DeviceLost_frame _ s
  | cellarApply => exact execCellarApply_frame s
  | shelfWrite _ _ => exact execShelfWrite_frame _ _ s
  | shelfSwap _ => exact execShelfSwap_frame _ s
  | shelfPop _ _ _ _ => exact execShelfPop_frame _ _ _ _ s
  | staleTimer _ => exact execStaleTimer_frame _ s
  | flush _ => exact execFlush_frame _ s
  | empty _ => exact execEmpty_frame _ s
  | codewordLock _ _ => exact execCodewordLock_frame _ _ s
  | lockLoss _ _ => exact execLockLoss_frame _ _ s
  | lseqGap _ _ => exact execLseqGap_frame _ _ s
  | commandCell _ => exact execCommandCell_frame _ s
  | ackCell _ _ => exact execAckCell_frame _ _ s
  | faultCell _ _ => exact execFaultCell_frame _ _ s
  | grantCell _ _ => exact execGrantCell_frame _ _ s
  | withdrawCell _ => exact execWithdrawCell_frame _ s
  | stateCell _ => exact execStateCell_frame _ s
  | healthCell _ _ => exact execHealthCell_frame _ _ s
  | echoReply _ _ _ _ => exact execEchoReply_frame _ _ _ _ s
  | laneCell _ _ _ _ lseq => exact execLaneCell_frame _ _ _ _ lseq s
  | resyncCell _ => exact execResyncCell_frame _ s
  | ident _ _ => exact execIdent_frame _ _ s
  | windows _ _ => exact execWindows_frame _ _ s
  | holding _ _ => exact execHolding_frame _ _ s
  | scale _ _ => exact execScale_frame _ _ s
  | configAck _ _ _ => exact execConfigAck_frame _ _ _ s
  | imgResult _ _ => exact execImgResult_frame _ _ s
  | porchLost _ => exact execPorchLost_frame _ s
  | rediscover _ => exact execRediscover_frame _ s
  | headReset _ => exact execHeadReset_frame _ s
  | echoNow _ => exact execEchoNow_frame _ s
  | moduleInsert _ _ _ => exact execModuleInsert_frame _ _ _ s
  | moduleRemove _ => exact execModuleRemove_frame _ s
  | moduleInt _ _ _ _ => exact execModuleInt_frame _ _ _ _ s
  | monitorPoll _ _ _ _ => exact execMonitorPoll_frame _ _ _ _ s
  | probe _ => exact execProbe_frame _ s
  | probeEnd _ _ => exact execProbeEnd_frame _ _ s
  | lightReturn _ _ => exact execLightReturn_frame _ _ s
  | latchClear _ => exact execLatchClear_frame _ s
  | calRunStart _ => exact execCalRunStart_frame _ s
  | rampStep _ _ => exact execRampStep_frame _ _ s
  | noAnswer _ => exact execNoAnswer_frame _ s
  | calLockRegained _ => exact execCalLockRegained_frame _ s
  | lockFailed _ => exact execLockFailed_frame _ s
  | compatApply _ _ => exact execCompatApply_frame _ _ s
  | baselineFormed _ _ => exact execBaselineFormed_frame _ _ s
  | baselineWrite _ _ _ => exact execBaselineWrite_frame _ _ _ s
  | calNow _ _ => exact execCalNow_frame _ _ s
  | restore _ _ => exact execRestore_frame _ _ s
  | laneReturn _ _ => exact execLaneReturn_frame _ _ s
  | calAbort _ => exact execCalAbort_frame _ s
  | heartbeatEdge => exact execHeartbeatEdge_frame s
  | heartbeatLost => exact execHeartbeatLost_frame s
  | claim _ => exact execClaim_frame _ s
  | claimDecision => exact execClaimDecision_frame s
  | reassert => exact execReassert_frame s
  | rejoin => exact execRejoin_frame s
  | resyncStart => exact execResyncStart_frame s
  | seatBound _ => exact execSeatBound_frame _ s
  | clearingDone _ => exact execClearingDone_frame _ s
  | seatReset _ _ => exact execSeatReset_frame _ _ s
  | perst => exact execPerst_frame s
  | linkDown => exact execLinkDown_frame s
  | linkUp _ _ => exact execLinkUp_frame _ _ s
  | featureCommit _ => exact execFeatureCommit_frame _ s
  | slotWrite _ _ _ => exact execSlotWrite_frame _ _ _ s
  | ideFail => exact execIdeFail_frame s
  | spdmRequest _ _ => exact execSpdmRequest_frame _ _ s
  | ideKeyManagement _ _ _ => exact execIdeKeyManagement_frame _ _ _ s
  | mailboxCommand _ _ => exact execMailboxCommand_frame _ _ s
  | fmApiCommand _ _ => exact execFmApiCommand_frame _ _ s
  | enrollKey => exact execEnrollKey_frame s
  | revokeKey => exact execRevokeKey_frame s
  | cupboardWriteDone => exact execCupboardWriteDone_frame s
  | stage _ => exact execStage_frame _ s
  | stagingDone _ => exact execStagingDone_frame _ s
  | activate _ => exact execActivate_frame _ s
  | updateCancel => exact execUpdateCancel_frame s
  | confirm => exact execConfirm_frame s
  | fallback => exact execFallback_frame s
  | activation _ _ => exact execActivation_frame _ _ s
  | restartEnd => exact execRestartEnd_frame s
  | selftestEnd _ => exact execSelftestEnd_frame _ s
  | healthWindowEnd => exact execHealthWindowEnd_frame s
  | fallbackTakeEffect => exact execFallbackTakeEffect_frame s
  | coalesceWindowEnd _ => exact execCoalesceWindowEnd_frame _ s
  | flashCommit _ => exact execFlashCommit_frame _ s
  | flashFail => exact execFlashFail_frame s
  | opsecSave => exact execOpsecSave_frame s
  | atticRead => exact execAtticRead_frame s
  | atticCancel => exact execAtticCancel_frame s
  | readDone => exact execReadDone_frame s
  | shedClear => exact execShedClear_frame s
  | stepEnd => exact execStepEnd_frame s
  | trip _ _ => exact execTrip_frame _ _ s
  | tripStop => exact execTripStop_frame s
  | supplyFail _ => exact execSupplyFail_frame _ s
  | iodSupplyFault => exact execIodSupplyFault_frame s
  | faultClear _ => exact execFaultClear_frame _ s
  | timeNsRead _ _ _ _ => exact execTimeNsRead_frame _ _ _ _ s
  | rcRead _ _ _ => exact execRcRead_frame _ _ _ s
  | registerWrite _ _ _ _ => exact execRegisterWrite_frame _ _ _ _ s
  | haltNDeasserted => exact execHaltNDeasserted_frame s
  | iodSupplyReturn => exact execIodSupplyReturn_frame s
  | uncorrectableCodeword _ _ => exact execUncorrectableCodeword_frame _ _ s
  | cellDropped _ _ _ => exact execCellDropped_frame _ _ _ s
  | frameProgramEnd _ => exact execFrameProgramEnd_frame _ s
  | patrolScrub _ _ => exact execPatrolScrub_frame _ _ s
  | pageZeroed _ _ => exact execPageZeroed_frame _ _ s
  | jobTableClaim _ _ _ => exact execJobTableClaim_frame _ _ _ s
  | channelRetraining _ _ => exact execChannelRetraining_frame _ _ s
  | linkRecovery => exact execLinkRecovery_frame s

/-- No command touches the queue. -/
theorem pending_notMem_touches (c : Instr) : Part.pending ∉ touches c := by
  cases c <;> exact of_decide_eq_false rfl

/-- Settles O1: both clauses are the two cases of `step`. -/
theorem stepRunsFrontCommand : Obligations.StepRunsFrontCommand := by
  constructor
  · intro s c r h
    simp [step, h]
  · intro s h
    simp [step, h]

/-- Settles O2: the frame of the front command, run with the rest of the queue. -/
theorem stepFrame : Obligations.StepFrame := by
  intro s t c r hs ht
  rw [stepRunsFrontCommand.1 s c r hs] at ht
  have hframe := exec_frame c _ t ht
  refine ⟨hframe .pending (pending_notMem_touches c), ?_⟩
  exact hframe.after (by simp +contextual) ((SameBut.pending_frame s r).mono (by simp))

/-- The addressed RAM stays canonical under every command. -/
theorem exec_ram (c : Instr) (s : State) : After RamKept s (exec c s) := by
  by_cases hc : Part.ram ∈ touches c
  case neg => exact .of (exec_frame c s) fun _ h => h.ram hc
  cases c with
  | porAssert => exact execPorAssert_ram s
  | tickZero => exact execTickZero_ram s
  | tick _ => exact execTick_ram _ s
  | commitTakeEffect => exact execCommitTakeEffect_ram s
  | placementSelect => exact execPlacementSelect_ram s
  | variantSwitch => exact execVariantSwitch_ram s
  | beatComplete _ _ _ _ => exact execBeatComplete_ram _ _ _ _ s
  | jobAdmitted _ => exact execJobAdmitted_ram _ s
  | jobPark _ _ => exact execJobPark_ram _ _ s
  | jobResume _ _ => exact execJobResume_ram _ _ s
  | jobStop _ _ => exact execJobStop_ram _ _ s
  | traceWrite _ _ => exact execTraceWrite_ram _ _ s
  | abort _ => exact execAbort_ram _ s
  | clearingDone _ => exact execClearingDone_ram _ s
  | slotWrite _ _ _ => exact execSlotWrite_ram _ _ _ s
  | readDone => exact execReadDone_ram s
  | iodSupplyFault => exact execIodSupplyFault_ram s
  | registerWrite _ _ _ _ => exact execRegisterWrite_ram _ _ _ _ s
  | _ => exact absurd hc (of_decide_eq_false rfl)

/-- The fused security version does not fall under any command. -/
theorem exec_svn (c : Instr) (s : State) : After SvnKept s (exec c s) := by
  by_cases hc : Part.flash ∈ touches c
  case neg => exact .of (exec_frame c s) fun _ h => h.svn hc
  cases c with
  | porAssert => exact execPorAssert_svn s
  | porDeassert => exact execPorDeassert_svn s
  | tickZero => exact execTickZero_svn s
  | tick _ => exact execTick_svn _ s
  | stagingDone _ => exact execStagingDone_svn _ s
  | activation _ _ => exact execActivation_svn _ _ s
  | restartEnd => exact execRestartEnd_svn s
  | fallbackTakeEffect => exact execFallbackTakeEffect_svn s
  | iodSupplyFault => exact execIodSupplyFault_svn s
  | iodSupplyReturn => exact execIodSupplyReturn_svn s
  | _ => exact absurd hc (of_decide_eq_false rfl)

/-- Settles O5. -/
theorem fusedVersionNeverFalls : Obligations.FusedVersionNeverFalls := fun c s t h => exec_svn c s t h

/-- A command that does not move time keeps it. -/
theorem exec_time (c : Instr) (s : State) (h : movesTime c = false) : After TimeKept s (exec c s) := by
  by_cases hc : Part.hrt ∈ touches c
  case neg => exact .of (exec_frame c s) fun _ k => k.time hc
  cases c with
  | porAssert => cases h
  | tickZero => cases h
  | tick _ => cases h
  | ppsSecond => exact execPpsSecond_time s
  | timebaseLoss => exact execTimebaseLoss_time s
  | timebaseReturn => exact execTimebaseReturn_time s
  | tickInEdge _ => exact execTickInEdge_time _ s
  | timeCellRx _ _ => exact execTimeCellRx_time _ _ s
  | alignmentStep _ => cases h
  | lockGained => exact execLockGained_time s
  | referenceLost => exact execReferenceLost_time s
  | epochStep => exact execEpochStep_time s
  | emitDeadline => exact execEmitDeadline_time s
  | cellClose _ _ _ => exact execCellClose_time _ _ _ s
  | halt _ => exact execHalt_time _ s
  | lossOfLight _ => exact execLossOfLight_time _ s
  | supervisorFatal => exact execSupervisorFatal_time s
  | guardMismatch => exact execGuardMismatch_time s
  | commitTakeEffect => exact execCommitTakeEffect_time s
  | placementSelect => exact execPlacementSelect_time s
  | beatComplete _ _ _ _ => exact execBeatComplete_time _ _ _ _ s
  | estimateLands _ _ => exact execEstimateLands_time _ _ s
  | stateEcc _ => exact execStateEcc_time _ s
  | planningDone _ _ _ => exact execPlanningDone_time _ _ _ s
  | reflexTrip _ => exact execReflexTrip_time _ s
  | faultCell _ _ => exact execFaultCell_time _ _ s
  | withdrawCell _ => exact execWithdrawCell_time _ s
  | porchLost _ => exact execPorchLost_time _ s
  | claimDecision => exact execClaimDecision_time s
  | resyncStart => exact execResyncStart_time s
  | trip _ _ => exact execTrip_time _ _ s
  | iodSupplyFault => cases h
  | patrolScrub _ _ => exact execPatrolScrub_time _ _ s
  | _ => exact absurd hc (of_decide_eq_false rfl)

/-- Settles O4. -/
theorem onlyTicksMoveTime : Obligations.OnlyTicksMoveTime := fun c s t hc ht => exec_time c s hc t ht

-- The trip

/-- The trip holds, or the reset that ends a recovery has stopped the Hearth. -/
def TripHeld (s t : State) : Prop := TripKept s t ∨ t.hrt.running = false

/-- The end of a recovery resets the device and boots it again, with the Hearth stopped. -/
theorem State.recoverTick_trip (s : State) : TripHeld s s.recoverTick := by
  unfold State.recoverTick
  split
  · right
    have h : ∀ u : State, u.startBoot.hrt = u.hrt := fun u => u.startBoot_frame .hrt (by decide)
    rw [h]
    rfl
  · exact .inl (TripKept.refl s)

theorem TripHeld.after {s t u : State} (k : TripHeld t u) (h : TripKept s t) : TripHeld s u := k.imp_left h.trans

/-- TICK: the frame that ends and the new one leave the boot alone, and what falls at the tick keeps the trip. -/
theorem execTick_trip (x : TickIn) (s : State) : After TripHeld s (execTick x s) := by
  unfold execTick
  split
  · exact .next (.inl (TripKept.refl s))
  · refine .next ((State.recoverTick_trip _).after ?_)
    refine (State.beginFrame_frame _).tripAfter (by decide) ((State.atTick_trip _ _ _).after ?_)
    refine (State.stopTick_trip _).after ((State.advance_frame _ _).tripAfter (by decide) ?_)
    refine (State.stepEpoch_frame _).tripAfter (by decide) ((State.keepTime_frame _).tripAfter (by decide) ?_)
    exact (State.closeFrame_frame s x).trip (by decide)

theorem execTickZero_trip (s : State) : After TripHeld s (execTickZero s) := by
  unfold execTickZero
  split
  · refine .next ((State.recoverTick_trip _).after ?_)
    refine (State.beginFrame_frame _).tripAfter (by decide) ((State.atTick_trip _ _ _).after ?_)
    exact (State.hearthStart_frame s).trip (by decide)
  · exact .next (.inl (TripKept.refl s))

/-- Every command but the ticks and the whole-device resets keeps the trip. -/
theorem exec_trip (c : Instr) (s : State) (hpor : c ≠ .porAssert) (hiod : c ≠ .iodSupplyFault) (hzero : c ≠ .tickZero)
    (htick : ∀ x, c ≠ .tick x) : After TripKept s (exec c s) := by
  by_cases hc : Part.boot ∈ touches c
  case neg => exact .of (exec_frame c s) fun _ h => h.trip hc
  cases c with
  | porAssert => exact absurd rfl hpor
  | iodSupplyFault => exact absurd rfl hiod
  | tickZero => exact absurd rfl hzero
  | tick x => exact absurd rfl (htick x)
  | porDeassert => exact execPorDeassert_trip s
  | configurationReady _ _ _ => exact execConfigurationReady_trip _ _ _ s
  | trip _ _ => exact execTrip_trip _ _ s
  | tripStop => exact execTripStop_trip s
  | iodSupplyReturn => exact execIodSupplyReturn_trip s
  | _ => exact absurd hc (of_decide_eq_false rfl)

/-- Settles O6: the two ticks by their own laws, every other command by `exec_trip`. -/
theorem tripHoldsUntilReset : Obligations.TripHoldsUntilReset := by
  intro c s t hpor hiod ht htrip
  by_cases htick : ∃ x, c = .tick x
  · obtain ⟨x, rfl⟩ := htick
    exact (execTick_trip x s t ht).imp (fun h => h.1 htrip) fun h => ⟨h, .inl ⟨x, rfl⟩⟩
  by_cases hzero : c = .tickZero
  · subst hzero
    exact (execTickZero_trip s t ht).imp (fun h => h.1 htrip) fun h => ⟨h, .inr rfl⟩
  · exact .inl ((exec_trip c s hpor hiod hzero (fun x hx => htick ⟨x, hx⟩) t ht).1 htrip)

end Sys2Proof.Machine
end

-- Stops --------------------------------------------------------------------------------------------------------------------------

section
/-! Which commands stop: no branch of a command's meaning answers anything but a next state, except the checks of alignment and of the
end of a Hall window. -/
namespace Sys2Proof.Machine

/-- The outcome is a next state. -/
def Completes (o : Host.Outcome State Fault Refusal) : Prop := ∃ t, o = .next t

theorem Completes.next (t : State) : Completes (.next t) := ⟨t, rfl⟩

theorem execPorDeassert_completes (s : State) :
    Completes (execPorDeassert s) := by
  unfold execPorDeassert
  repeat' split
  all_goals exact .next _

theorem execConfigurationReady_completes (ms : BitVec 32) (badDevs : List (Fin 16)) (badHops : List (Fin 5)) (s : State) :
    Completes (execConfigurationReady ms badDevs badHops s) := by
  unfold execConfigurationReady
  repeat' split
  all_goals exact .next _

theorem execTimebaseAbsent_completes (s : State) :
    Completes (execTimebaseAbsent s) := by
  unfold execTimebaseAbsent
  repeat' split
  all_goals exact .next _

theorem execTickZero_completes (s : State) :
    Completes (execTickZero s) := by
  unfold execTickZero
  repeat' split
  all_goals exact .next _

theorem execTick_completes (x : TickIn) (s : State) :
    Completes (execTick x s) := by
  unfold execTick
  repeat' split
  all_goals exact .next _

theorem execPpsSecond_completes (s : State) :
    Completes (execPpsSecond s) := by
  unfold execPpsSecond
  repeat' split
  all_goals exact .next _

theorem execTimebaseLoss_completes (s : State) :
    Completes (execTimebaseLoss s) := by
  unfold execTimebaseLoss
  repeat' split
  all_goals exact .next _

theorem execTimebaseReturn_completes (s : State) :
    Completes (execTimebaseReturn s) := by
  unfold execTimebaseReturn
  repeat' split
  all_goals exact .next _

theorem execTickInEdge_completes (offset : Int) (s : State) :
    Completes (execTickInEdge offset s) := by
  unfold execTickInEdge
  extract_lets
  repeat' split
  all_goals exact .next _

theorem execTimeCellRx_completes (c : TimeCell) (offset : Int) (s : State) :
    Completes (execTimeCellRx c offset s) := by
  unfold execTimeCellRx
  extract_lets
  repeat' split
  all_goals exact .next _

theorem execAlignmentStep_completes (cycles : BitVec 21) (s : State) :
    Completes (execAlignmentStep cycles s) := by
  unfold execAlignmentStep
  extract_lets
  repeat' split
  all_goals exact .next _

theorem execLockGained_completes (s : State) :
    Completes (execLockGained s) := by
  unfold execLockGained
  repeat' split
  all_goals exact .next _

theorem execGuardSlotStart_completes (missed : List (BitVec 7)) (s : State) :
    Completes (execGuardSlotStart missed s) := by
  unfold execGuardSlotStart
  repeat' split
  all_goals exact .next _

theorem execYieldPoint_completes (tile : BitVec 7) (s : State) :
    Completes (execYieldPoint tile s) := by
  unfold execYieldPoint
  extract_lets
  repeat' split
  all_goals exact .next _

theorem execForcedPreemption_completes (tile : BitVec 7) (pc : BitVec 48) (s : State) :
    Completes (execForcedPreemption tile pc s) := by
  unfold execForcedPreemption
  extract_lets
  repeat' split
  all_goals exact .next _

theorem execContextSwitch_completes (tile : BitVec 7) (job : BitVec 8) (s : State) :
    Completes (execContextSwitch tile job s) := by
  unfold execContextSwitch
  extract_lets
  repeat' split
  all_goals exact .next _

theorem execEmitDeadline_completes (s : State) :
    Completes (execEmitDeadline s) := by
  unfold execEmitDeadline
  repeat' split
  all_goals exact .next _

theorem execLateFillSnapshot_completes (s : State) :
    Completes (execLateFillSnapshot s) := by
  unfold execLateFillSnapshot
  repeat' split
  all_goals exact .next _

theorem execCellClose_completes (porch : BitVec 4) (cycle leaves : BitVec 21) (s : State) :
    Completes (execCellClose porch cycle leaves s) := by
  unfold execCellClose
  repeat' split
  all_goals exact .next _

theorem execHalt_completes (lowNs : Nat) (s : State) :
    Completes (execHalt lowNs s) := by
  unfold execHalt
  extract_lets
  repeat' split
  all_goals exact .next _

theorem execLossOfLight_completes (cage : Fin 18) (s : State) :
    Completes (execLossOfLight cage s) := by
  unfold execLossOfLight
  extract_lets
  repeat' split
  all_goals exact .next _

theorem execValidationEnd_completes (fig : Figures) (s : State) :
    Completes (execValidationEnd fig s) := by
  unfold execValidationEnd
  repeat' split
  all_goals exact .next _

theorem execCopyIssue_completes (tile : BitVec 7) (queue : BitVec 2) (d : CopyDesc) (s : State) :
    Completes (execCopyIssue tile queue d s) := by
  unfold execCopyIssue
  extract_lets
  repeat' split
  all_goals exact .next _

theorem execCopyFence_completes (tile : BitVec 7) (queues : BitVec 4) (s : State) :
    Completes (execCopyFence tile queues s) := by
  unfold execCopyFence
  extract_lets
  repeat' split
  all_goals exact .next _

theorem execBeatComplete_completes (tile : BitVec 7) (queue : BitVec 2) (beat : Option (BitVec 8) × Nat) (out : BeatOutcome) (s : State) :
    Completes (execBeatComplete tile queue beat out s) := by
  unfold execBeatComplete
  extract_lets
  repeat' split
  all_goals exact .next _

theorem execCellarTimeout_completes (tile : BitVec 7) (queue : BitVec 2) (beat : BitVec 8 × Nat) (s : State) :
    Completes (execCellarTimeout tile queue beat s) := by
  unfold execCellarTimeout
  extract_lets
  repeat' split
  all_goals exact .next _

theorem execFaultRetry_completes (job : BitVec 8) (completes : Bool) (s : State) :
    Completes (execFaultRetry job completes s) := by
  unfold execFaultRetry
  extract_lets
  repeat' split
  all_goals exact .next _

theorem execFaultLimit_completes (job : BitVec 8) (s : State) :
    Completes (execFaultLimit job s) := by
  unfold execFaultLimit
  extract_lets
  repeat' split
  all_goals exact .next _

theorem execScratchUe_completes (tile : BitVec 7) (page : BitVec 10) (s : State) :
    Completes (execScratchUe tile page s) := by
  unfold execScratchUe
  extract_lets
  repeat' split
  all_goals exact .next _

theorem execPartitionViolation_completes (tile : BitVec 7) (frameCritical : Bool) (s : State) :
    Completes (execPartitionViolation tile frameCritical s) := by
  unfold execPartitionViolation
  extract_lets
  repeat' split
  all_goals exact .next _

theorem execJobStart_completes (seat : BitVec 3) (slot : BitVec 12) (s : State) :
    Completes (execJobStart seat slot s) := by
  unfold execJobStart
  repeat' split
  all_goals exact .next _

theorem execJobAdmitted_completes (job : BitVec 8) (s : State) :
    Completes (execJobAdmitted job s) := by
  unfold execJobAdmitted
  extract_lets
  repeat' split
  all_goals exact .next _

theorem execJobExit_completes (job : BitVec 8) (code : BitVec 32) (s : State) :
    Completes (execJobExit job code s) := by
  unfold execJobExit
  extract_lets
  repeat' split
  all_goals exact .next _

theorem execPatchCell_completes (porch : BitVec 4) (expo : BitVec 32) (mirror : BitVec 13) (bit : BitVec 16) (pixels : List Byte) (s : State) :
    Completes (execPatchCell porch expo mirror bit pixels s) := by
  unfold execPatchCell
  extract_lets
  repeat' split
  all_goals exact .next _

theorem execTapCell_completes (porch : BitVec 4) (tick : BitVec 32) (first : BitVec 12) (readings : List TapReading × WordCheck) (s : State) :
    Completes (execTapCell porch tick first readings s) := by
  unfold execTapCell
  extract_lets
  repeat' split
  all_goals exact .next _

theorem execEstimateLands_completes (outs : List NetOut) (late : List (BitVec 14)) (s : State) :
    Completes (execEstimateLands outs late s) := by
  unfold execEstimateLands
  repeat' split
  all_goals exact .next _

theorem execAdaptCandidate_completes (job : BitVec 8) (samples : BitVec 32) (s : State) :
    Completes (execAdaptCandidate job samples s) := by
  unfold execAdaptCandidate
  extract_lets
  repeat' split
  all_goals exact .next _

theorem execAdaptDone_completes (committed candidate : BitVec 32) (s : State) :
    Completes (execAdaptDone committed candidate s) := by
  unfold execAdaptDone
  split
  · extract_lets
    split <;> exact .next _
  · exact .next _

theorem execRebuildRoundEnd_completes (job : BitVec 8) (averages : List (Nat × Int × Int × Int × Int)) (s : State) :
    Completes (execRebuildRoundEnd job averages s) := by
  unfold execRebuildRoundEnd
  extract_lets
  repeat' split
  all_goals exact .next _

theorem execHandOver_completes (l : BitVec 14) (s : State) :
    Completes (execHandOver l s) := by
  unfold execHandOver
  repeat' split
  all_goals exact .next _

theorem execAcquisitionComplete_completes (l : BitVec 14) (s : State) :
    Completes (execAcquisitionComplete l s) := by
  unfold execAcquisitionComplete
  repeat' split
  all_goals exact .next _

theorem execSearch_completes (l : BitVec 14) (s : State) :
    Completes (execSearch l s) := by
  unfold execSearch
  repeat' split
  all_goals exact .next _

theorem execWarmUpEnd_completes (l : BitVec 14) (s : State) :
    Completes (execWarmUpEnd l s) := by
  unfold execWarmUpEnd
  repeat' split
  all_goals exact .next _

theorem execDatapathMismatch_completes (dp : BitVec 6) (s : State) :
    Completes (execDatapathMismatch dp s) := by
  unfold execDatapathMismatch
  repeat' split
  all_goals exact .next _

theorem execTraceWrite_completes (channel : BitVec 6) (count : BitVec 14) (s : State) :
    Completes (execTraceWrite channel count s) := by
  unfold execTraceWrite
  extract_lets
  repeat' split
  all_goals exact .next _

theorem execStepEdge_completes (input : BitVec 3) (up : Bool) (s : State) :
    Completes (execStepEdge input up s) := by
  unfold execStepEdge
  extract_lets
  repeat' split
  all_goals exact .next _

theorem execPwmPeriod_completes (input : BitVec 3) (high period : BitVec 21) (s : State) :
    Completes (execPwmPeriod input high period s) := by
  unfold execPwmPeriod
  extract_lets
  repeat' split
  all_goals exact .next _

theorem execPwmStale_completes (input : BitVec 3) (s : State) :
    Completes (execPwmStale input s) := by
  unfold execPwmStale
  extract_lets
  repeat' split
  all_goals exact .next _

theorem execMove_completes (seat : BitVec 3) (slot : BitVec 12) (s : State) :
    Completes (execMove seat slot s) := by
  unfold execMove
  repeat' split
  all_goals exact .next _

theorem execAbort_completes (src : CtlSource) (s : State) :
    Completes (execAbort src s) := by
  unfold execAbort
  repeat' split
  all_goals exact .next _

theorem execPlanningStart_completes (s : State) :
    Completes (execPlanningStart s) := by
  unfold execPlanningStart
  repeat' split
  all_goals exact .next _

theorem execPlanningDone_completes (routes : List Route) (loose failed : List (BitVec 13)) (s : State) :
    Completes (execPlanningDone routes loose failed s) := by
  unfold execPlanningDone
  repeat' split
  all_goals exact .next _

theorem execMoveStart_completes (id : BitVec 32) (s : State) :
    Completes (execMoveStart id s) := by
  unfold execMoveStart
  repeat' split
  all_goals exact .next _

theorem execLegEnd_completes (id : BitVec 32) (mirror : BitVec 13) (s : State) :
    Completes (execLegEnd id mirror s) := by
  unfold execLegEnd
  repeat' split
  all_goals exact .next _

theorem execPathReady_completes (port : BitVec 12) (s : State) :
    Completes (execPathReady port s) := by
  unfold execPathReady
  repeat' split
  all_goals exact .next _

theorem execSettleTimeout_completes (port : BitVec 12) (s : State) :
    Completes (execSettleTimeout port s) := by
  unfold execSettleTimeout
  repeat' split
  all_goals exact .next _

theorem execDeadlineMissed_completes (id : BitVec 32) (s : State) :
    Completes (execDeadlineMissed id s) := by
  unfold execDeadlineMissed
  repeat' split
  all_goals exact .next _

theorem execSchedCell_completes (p : SchedPart) (s : State) :
    Completes (execSchedCell p s) := by
  unfold execSchedCell
  dsimp only
  repeat' split
  all_goals exact .next _

theorem execShelfWrite_completes (shelf : BitVec 10) (op : ShelfOp) (s : State) :
    Completes (execShelfWrite shelf op s) := by
  unfold execShelfWrite
  extract_lets
  repeat' split
  all_goals exact .next _

theorem execShelfPop_completes (seat : BitVec 3) (shelf : BitVec 10) (w : Width) (check : WordCheck) (s : State) :
    Completes (execShelfPop seat shelf w check s) := by
  unfold execShelfPop
  extract_lets
  repeat' split
  all_goals exact .next _

theorem execStaleTimer_completes (shelf : BitVec 10) (s : State) :
    Completes (execStaleTimer shelf s) := by
  unfold execStaleTimer
  extract_lets
  repeat' split
  all_goals exact .next _

theorem execFlush_completes (shelf : BitVec 10) (s : State) :
    Completes (execFlush shelf s) := by
  unfold execFlush
  repeat' split
  all_goals exact .next _

theorem execEmpty_completes (shelf : BitVec 10) (s : State) :
    Completes (execEmpty shelf s) := by
  unfold execEmpty
  repeat' split
  all_goals exact .next _

theorem execCodewordLock_completes (porch : BitVec 4) (lane : Fin 9 × CalValues) (s : State) :
    Completes (execCodewordLock porch lane s) := by
  unfold execCodewordLock
  extract_lets
  repeat' split
  all_goals exact .next _

theorem execLockLoss_completes (porch : BitVec 4) (lane : Fin 9) (s : State) :
    Completes (execLockLoss porch lane s) := by
  unfold execLockLoss
  repeat' split
  all_goals exact .next _

theorem execLseqGap_completes (porch : BitVec 4) (lseq : BitVec 16) (s : State) :
    Completes (execLseqGap porch lseq s) := by
  unfold execLseqGap
  extract_lets
  repeat' split
  all_goals exact .next _

theorem execCommandCell_completes (c : CommandCell) (s : State) :
    Completes (execCommandCell c s) := by
  unfold execCommandCell
  extract_lets
  repeat' split
  all_goals exact .next _

theorem execAckCell_completes (porch : BitVec 4) (a : AckCell) (s : State) :
    Completes (execAckCell porch a s) := by
  unfold execAckCell
  extract_lets
  repeat' split
  all_goals exact .next _

theorem execFaultCell_completes (porch : BitVec 4) (f : FaultCell) (s : State) :
    Completes (execFaultCell porch f s) := by
  unfold execFaultCell
  extract_lets
  repeat' split
  all_goals exact .next _

theorem execGrantCell_completes (porch : BitVec 4) (g : GrantCell) (s : State) :
    Completes (execGrantCell porch g s) := by
  unfold execGrantCell
  extract_lets
  repeat' split
  all_goals exact .next _

theorem execWithdrawCell_completes (w : WithdrawCell) (s : State) :
    Completes (execWithdrawCell w s) := by
  unfold execWithdrawCell
  repeat' split
  all_goals exact .next _

theorem execStateCell_completes (c : StateCell) (s : State) :
    Completes (execStateCell c s) := by
  unfold execStateCell
  repeat' split
  all_goals exact .next _

theorem execHealthCell_completes (porch : BitVec 4) (h : HealthCell) (s : State) :
    Completes (execHealthCell porch h s) := by
  unfold execHealthCell
  extract_lets
  repeat' split
  all_goals exact .next _

theorem execEchoReply_completes (porch : BitVec 4) (id : BitVec 32) (arrival : Nat) (turnPs : BitVec 32) (s : State) :
    Completes (execEchoReply porch id arrival turnPs s) := by
  unfold execEchoReply
  extract_lets
  repeat' split
  all_goals exact .next _

theorem execLaneCell_completes (porch : BitVec 4) (op lane result : BitVec 8) (_lseq : BitVec 16) (s : State) :
    Completes (execLaneCell porch op lane result _lseq s) := by
  unfold execLaneCell
  extract_lets
  repeat' split
  all_goals exact .next _

theorem execResyncCell_completes (part : ResyncPart) (s : State) :
    Completes (execResyncCell part s) := by
  unfold execResyncCell
  extract_lets
  repeat' split
  all_goals exact .next _

theorem execIdent_completes (porch : BitVec 4) (m : IdentMsg) (s : State) :
    Completes (execIdent porch m s) := by
  unfold execIdent
  extract_lets
  repeat' split
  all_goals exact .next _

theorem execConfigAck_completes (porch : BitVec 4) (result : BitVec 8) (effective : BitVec 32) (s : State) :
    Completes (execConfigAck porch result effective s) := by
  unfold execConfigAck
  extract_lets
  repeat' split
  all_goals exact .next _

theorem execImgResult_completes (porch : BitVec 4) (result : BitVec 8) (s : State) :
    Completes (execImgResult porch result s) := by
  unfold execImgResult
  dsimp only
  repeat' split
  all_goals exact .next _

theorem execModuleInt_completes (cage : Fin 18) (rxLos txLos modState : BitVec 8) (s : State) :
    Completes (execModuleInt cage rxLos txLos modState s) := by
  unfold execModuleInt
  repeat' split
  all_goals exact .next _

theorem execMonitorPoll_completes (cage : Fin 18) (temp vcc : BitVec 16) (rx : List (BitVec 16)) (s : State) :
    Completes (execMonitorPoll cage temp vcc rx s) := by
  unfold execMonitorPoll
  repeat' split
  all_goals exact .next _

theorem execProbe_completes (cage : Fin 18) (s : State) :
    Completes (execProbe cage s) := by
  unfold execProbe
  repeat' split
  all_goals exact .next _

theorem execProbeEnd_completes (cage : Fin 18) (lit : BitVec 8) (s : State) :
    Completes (execProbeEnd cage lit s) := by
  unfold execProbeEnd
  extract_lets
  repeat' split
  all_goals exact .next _

theorem execLightReturn_completes (cage : Fin 18) (lit : BitVec 8) (s : State) :
    Completes (execLightReturn cage lit s) := by
  unfold execLightReturn
  extract_lets
  repeat' split
  all_goals exact .next _

theorem execLatchClear_completes (cage : Fin 18) (s : State) :
    Completes (execLatchClear cage s) := by
  unfold execLatchClear
  extract_lets
  repeat' split
  all_goals exact .next _

theorem execRampStep_completes (porch : BitVec 4) (targets : CalValues) (s : State) :
    Completes (execRampStep porch targets s) := by
  unfold execRampStep
  extract_lets
  repeat' split
  all_goals exact .next _

theorem execCompatApply_completes (porch : BitVec 4) (targets : CalValues) (s : State) :
    Completes (execCompatApply porch targets s) := by
  unfold execCompatApply
  extract_lets
  repeat' split
  all_goals exact .next _

theorem execBaselineFormed_completes (porch : BitVec 4) (lane : Fin 9 × BitVec 16) (s : State) :
    Completes (execBaselineFormed porch lane s) := by
  unfold execBaselineFormed
  repeat' split
  all_goals exact .next _

theorem execClaim_completes (trigger : BitVec 4) (s : State) :
    Completes (execClaim trigger s) := by
  unfold execClaim
  extract_lets
  repeat' split
  all_goals exact .next _

theorem execReassert_completes (s : State) :
    Completes (execReassert s) := by
  unfold execReassert
  repeat' split
  all_goals exact .next _

theorem execSeatBound_completes (seat : BitVec 3) (s : State) :
    Completes (execSeatBound seat s) := by
  unfold execSeatBound
  extract_lets
  repeat' split
  all_goals exact .next _

theorem execClearingDone_completes (seat : BitVec 3) (s : State) :
    Completes (execClearingDone seat s) := by
  unfold execClearingDone
  extract_lets
  repeat' split
  all_goals exact .next _

theorem execLinkDown_completes (s : State) :
    Completes (execLinkDown s) := by
  unfold execLinkDown
  repeat' split
  all_goals exact .next _

theorem execLinkUp_completes (x8 gt64 : Bool) (s : State) :
    Completes (execLinkUp x8 gt64 s) := by
  unfold execLinkUp
  repeat' split
  all_goals exact .next _

theorem execFeatureCommit_completes (seat : BitVec 3) (s : State) :
    Completes (execFeatureCommit seat s) := by
  unfold execFeatureCommit
  repeat' split
  all_goals exact .next _

theorem execMailboxCommand_completes (seat : BitVec 3) (opcode : BitVec 16) (s : State) :
    Completes (execMailboxCommand seat opcode s) := by
  unfold execMailboxCommand
  repeat' split
  all_goals exact .next _

theorem execFmApiCommand_completes (opcode : BitVec 16) (allocMb : BitVec 32) (s : State) :
    Completes (execFmApiCommand opcode allocMb s) := by
  unfold execFmApiCommand
  repeat' split
  all_goals exact .next _

theorem execCupboardWriteDone_completes (s : State) :
    Completes (execCupboardWriteDone s) := by
  unfold execCupboardWriteDone
  repeat' split
  all_goals exact .next _

theorem execStagingDone_completes (flashOk : Bool) (s : State) :
    Completes (execStagingDone flashOk s) := by
  unfold execStagingDone
  extract_lets
  repeat' split
  all_goals exact .next _

theorem execSelftestEnd_completes (pass : Bool) (s : State) :
    Completes (execSelftestEnd pass s) := by
  unfold execSelftestEnd
  repeat' split
  all_goals exact .next _

theorem execFlashCommit_completes (images : List (BitVec 48 × Option (List Byte))) (s : State) :
    Completes (execFlashCommit images s) := by
  unfold execFlashCommit
  repeat' split
  all_goals exact .next _

theorem execFlashFail_completes (s : State) :
    Completes (execFlashFail s) := by
  unfold execFlashFail
  repeat' split
  all_goals exact .next _

theorem execReadDone_completes (s : State) :
    Completes (execReadDone s) := by
  unfold execReadDone
  repeat' split
  all_goals exact .next _

theorem execTrip_completes (die : Fin 5) (temp : BitVec 16) (s : State) :
    Completes (execTrip die temp s) := by
  unfold execTrip
  repeat' split
  all_goals exact .next _

theorem execTripStop_completes (s : State) :
    Completes (execTripStop s) := by
  unfold execTripStop
  repeat' split
  all_goals exact .next _

theorem execSupplyFail_completes (die : Fin 4) (s : State) :
    Completes (execSupplyFail die s) := by
  unfold execSupplyFail
  extract_lets
  repeat' split
  all_goals exact .next _

theorem execIodSupplyReturn_completes (s : State) :
    Completes (execIodSupplyReturn s) := by
  unfold execIodSupplyReturn
  repeat' split
  all_goals exact .next _

theorem execCellDropped_completes (porch : BitVec 4) (cause : DropCause) (mirror : Option (BitVec 13)) (s : State) :
    Completes (execCellDropped porch cause mirror s) := by
  unfold execCellDropped
  extract_lets
  repeat' split
  all_goals exact .next _

theorem execFrameProgramEnd_completes (tile : BitVec 7) (s : State) :
    Completes (execFrameProgramEnd tile s) := by
  unfold execFrameProgramEnd
  extract_lets
  repeat' split
  all_goals exact .next _

theorem execPatrolScrub_completes (page : BitVec 24) (r : ScrubResult) (s : State) :
    Completes (execPatrolScrub page r s) := by
  unfold execPatrolScrub
  repeat' split
  all_goals exact .next _

theorem execJobTableClaim_completes (job : BitVec 8) (table : BitVec 16) (op : TableOp) (s : State) :
    Completes (execJobTableClaim job table op s) := by
  unfold execJobTableClaim
  extract_lets
  repeat' split
  all_goals exact .next _

theorem execChannelRetraining_completes (dev : Fin 16) (success : Bool) (s : State) :
    Completes (execChannelRetraining dev success s) := by
  unfold execChannelRetraining
  extract_lets
  repeat' split
  all_goals exact .next _

theorem execLinkRecovery_completes (s : State) :
    Completes (execLinkRecovery s) := by
  unfold execLinkRecovery
  repeat' split
  all_goals exact .next _

-- The accesses

/-- A window access that is aligned completes. -/
theorem execTableWindowAccess_completes {offset : BitVec 21} {w : Width} (data : Option Word) (s : State)
    (h : aligned w offset.toNat = true) : Completes (execTableWindowAccess offset w data s) := by
  have hn : ¬offset.toNat % (if w = .full then 8 else 4) ≠ 0 := by
    cases w <;> simpa [aligned] using h
  unfold execTableWindowAccess
  extract_lets
  rw [if_neg hn]
  repeat' split
  all_goals exact .next _

/-- The window of the seat map is aligned as the map is. -/
theorem aligned_window {w : Width} {seat off a : Nat} (h : aligned w off = true) (ha : regAddr seat off = some a)
    (hlo : 0x200000 ≤ a) (hhi : a < 0x400000) : aligned w (BitVec.ofNat 21 (a - 0x200000)).toNat = true := by
  have hoff : a = off := by
    simp only [regAddr] at ha
    split at ha
    · have := Option.some.inj ha
      split at this <;> omega
    · split at ha
      · have := Option.some.inj ha
        omega
      · cases ha
  subst hoff
  cases w <;> simp only [aligned, decide_eq_true_eq, BitVec.toNat_ofNat] at h ⊢ <;> omega

theorem State.readAt_completes (s : State) (seat : Nat) {o : Nat} {w : Width} (cycle : Nat) (h : aligned w o = true) :
    Completes (s.readAt seat o w cycle) := by
  unfold State.readAt
  rw [if_neg (by simp [h])]
  split
  · exact .next _
  next a ha =>
    dsimp only
    split
    next hwin => exact execTableWindowAccess_completes _ s (aligned_window h ha hwin.1 hwin.2)
    split
    · exact execShelfPop_completes _ _ _ _ s
    split
    · exact execShelfPop_completes _ _ _ _ s
    · exact .next _

-- The operations that a write to a register asks for

theorem seatWrite_completes (seat a : Nat) (x : Word) (s : State) : Completes (seatWrite seat a x s) := by
  unfold seatWrite
  split
  · exact execFeatureCommit_completes _ s
  · exact .next _

theorem movWrite_completes (a m : Nat) (x : Word) (s : State) : Completes (movWrite a m x s) := by
  have habort : ∀ u, Completes (execAbort .register u) := execAbort_completes _
  unfold movWrite
  dsimp only
  split
  · split
    · exact habort _
    all_goals exact .next _
  · exact .next _

theorem shfWrite_completes (a : Nat) (x : Word) (s : State) : Completes (shfWrite a x s) := by
  unfold shfWrite
  dsimp only
  split
  · split
    · exact execFlush_completes _ s
    · exact execEmpty_completes _ s
    · exact .next _
  · exact .next _

/-- The operation of a write completes: every one that a register names is a command, and most of them only wait for the tick. -/
theorem opWrite_completes (seat a m : Nat) (x : Word) (s : State) : Completes (opWrite seat a m x s) := by
  unfold opWrite
  split
  · exact seatWrite_completes _ _ _ s
  split
  · unfold loopWrite; dsimp only; repeat' split
    all_goals exact .next _
  split
  · split <;> exact .next _
  · unfold plnWrite; repeat' split
    all_goals exact .next _
  · exact movWrite_completes _ _ _ s
  · unfold tilWrite; dsimp only; repeat' split
    all_goals exact .next _
  · split <;> exact .next _
  · exact shfWrite_completes _ _ s
  · unfold pchWrite; dsimp only; repeat' split
    all_goals exact .next _
  · unfold lnhWrite; dsimp only; repeat' split
    all_goals exact .next _
  · unfold twnWrite; dsimp only; repeat' split
    all_goals exact .next _
  · unfold updWrite; repeat' split
    all_goals exact .next _
  · unfold attWrite; repeat' split
    all_goals exact .next _
  · unfold trcWrite; dsimp only; repeat' split
    all_goals exact .next _
  · split <;> exact .next _
  · exact .next _

theorem State.writeReg_completes (s : State) (seat a m : Nat) (x : Word) : Completes (s.writeReg seat a m x) := by
  unfold State.writeReg
  split
  · exact .next _
  split
  · exact .next _
  split <;> exact opWrite_completes _ _ _ _ _

theorem execRegisterWrite_completes (seat : BitVec 3) {offset : BitVec 22} {w : Width} (v : Word) (s : State)
    (h : aligned w offset.toNat = true) : Completes (execRegisterWrite seat offset w v s) := by
  unfold execRegisterWrite
  dsimp only
  rw [if_neg (by simp [h])]
  split
  · exact .next _
  next a ha =>
    split
    next hwin => exact execTableWindowAccess_completes _ s (aligned_window h ha hwin.1 hwin.2)
    · exact s.writeReg_completes _ _ _ _

/-- A host write within the window completes. -/
theorem execSlotWrite_completes (seat : BitVec 3) {offset : BitVec 28} {bytes : List Byte} (s : State)
    (h : offset.toNat + bytes.length ≤ 2 ^ 28) : Completes (execSlotWrite seat offset bytes s) := by
  unfold execSlotWrite
  dsimp only
  rw [if_neg (show ¬hallSize < _ from Nat.not_lt.2 h)]
  split <;> exact .next _

/-- An access that is not aligned stops. -/
theorem exec_unaligned {c : Instr} (s : State) (h : unalignedAccess c = true) : exec c s = .fault .unaligned := by
  cases c with
  | timeNsRead seat o w cycle => exact if_pos h
  | rcRead seat o w => exact if_pos h
  | registerWrite seat o w v => exact if_pos h
  | tableWindowAccess o w data =>
    refine if_pos ?_
    cases w <;> simpa [unalignedAccess, aligned] using h
  | _ => cases h

/-- A host write past the end of its window stops. -/
theorem exec_pastHall {c : Instr} (s : State) (h : pastHall c = true) : exec c s = .fault .outsideHall := by
  cases c with
  | slotWrite seat o l => exact if_pos (of_decide_eq_true h)
  | _ => cases h

/-- Every other command completes. -/
theorem exec_completes (c : Instr) (s : State) (haligned : unalignedAccess c = false) (hhall : pastHall c = false) :
    Completes (exec c s) := by
  cases c with
  | timeNsRead seat o w cycle => exact s.readAt_completes _ _ (by simpa [unalignedAccess] using haligned)
  | rcRead seat o w => exact s.readAt_completes _ _ (by simpa [unalignedAccess] using haligned)
  | registerWrite seat o w v => exact execRegisterWrite_completes _ _ s (by simpa [unalignedAccess] using haligned)
  | tableWindowAccess o w data => exact execTableWindowAccess_completes _ s (by simpa [unalignedAccess] using haligned)
  | slotWrite seat o l => exact execSlotWrite_completes _ s (by simpa [pastHall] using hhall)
  | porDeassert => exact execPorDeassert_completes s
  | configurationReady _ _ _ => exact execConfigurationReady_completes _ _ _ s
  | timebaseAbsent => exact execTimebaseAbsent_completes s
  | tickZero => exact execTickZero_completes s
  | tick _ => exact execTick_completes _ s
  | ppsSecond => exact execPpsSecond_completes s
  | timebaseLoss => exact execTimebaseLoss_completes s
  | timebaseReturn => exact execTimebaseReturn_completes s
  | tickInEdge _ => exact execTickInEdge_completes _ s
  | timeCellRx _ _ => exact execTimeCellRx_completes _ _ s
  | alignmentStep _ => exact execAlignmentStep_completes _ s
  | lockGained => exact execLockGained_completes s
  | guardSlotStart _ => exact execGuardSlotStart_completes _ s
  | yieldPoint _ => exact execYieldPoint_completes _ s
  | forcedPreemption _ _ => exact execForcedPreemption_completes _ _ s
  | contextSwitch _ _ => exact execContextSwitch_completes _ _ s
  | emitDeadline => exact execEmitDeadline_completes s
  | lateFillSnapshot => exact execLateFillSnapshot_completes s
  | cellClose _ _ _ => exact execCellClose_completes _ _ _ s
  | halt _ => exact execHalt_completes _ s
  | lossOfLight _ => exact execLossOfLight_completes _ s
  | validationEnd _ => exact execValidationEnd_completes _ s
  | copyIssue _ _ _ => exact execCopyIssue_completes _ _ _ s
  | copyFence _ _ => exact execCopyFence_completes _ _ s
  | beatComplete _ _ _ _ => exact execBeatComplete_completes _ _ _ _ s
  | cellarTimeout _ _ _ => exact execCellarTimeout_completes _ _ _ s
  | faultRetry _ _ => exact execFaultRetry_completes _ _ s
  | faultLimit _ => exact execFaultLimit_completes _ s
  | scratchUe _ _ => exact execScratchUe_completes _ _ s
  | partitionViolation _ _ => exact execPartitionViolation_completes _ _ s
  | jobStart _ _ => exact execJobStart_completes _ _ s
  | jobAdmitted _ => exact execJobAdmitted_completes _ s
  | jobExit _ _ => exact execJobExit_completes _ _ s
  | patchCell _ _ _ _ _ => exact execPatchCell_completes _ _ _ _ _ s
  | tapCell _ _ _ _ => exact execTapCell_completes _ _ _ _ s
  | estimateLands _ _ => exact execEstimateLands_completes _ _ s
  | adaptCandidate _ _ => exact execAdaptCandidate_completes _ _ s
  | adaptDone _ _ => exact execAdaptDone_completes _ _ s
  | rebuildRoundEnd _ _ => exact execRebuildRoundEnd_completes _ _ s
  | handOver _ => exact execHandOver_completes _ s
  | acquisitionComplete _ => exact execAcquisitionComplete_completes _ s
  | search _ => exact execSearch_completes _ s
  | warmUpEnd _ => exact execWarmUpEnd_completes _ s
  | datapathMismatch _ => exact execDatapathMismatch_completes _ s
  | traceWrite _ _ => exact execTraceWrite_completes _ _ s
  | stepEdge _ _ => exact execStepEdge_completes _ _ s
  | pwmPeriod _ _ _ => exact execPwmPeriod_completes _ _ _ s
  | pwmStale _ => exact execPwmStale_completes _ s
  | move _ _ => exact execMove_completes _ _ s
  | abort _ => exact execAbort_completes _ s
  | planningStart => exact execPlanningStart_completes s
  | planningDone _ _ _ => exact execPlanningDone_completes _ _ _ s
  | moveStart _ => exact execMoveStart_completes _ s
  | legEnd _ _ => exact execLegEnd_completes _ _ s
  | pathReady _ => exact execPathReady_completes _ s
  | settleTimeout _ => exact execSettleTimeout_completes _ s
  | deadlineMissed _ => exact execDeadlineMissed_completes _ s
  | schedCell _ => exact execSchedCell_completes _ s
  | shelfWrite _ _ => exact execShelfWrite_completes _ _ s
  | shelfPop _ _ _ _ => exact execShelfPop_completes _ _ _ _ s
  | staleTimer _ => exact execStaleTimer_completes _ s
  | flush _ => exact execFlush_completes _ s
  | empty _ => exact execEmpty_completes _ s
  | codewordLock _ _ => exact execCodewordLock_completes _ _ s
  | lockLoss _ _ => exact execLockLoss_completes _ _ s
  | lseqGap _ _ => exact execLseqGap_completes _ _ s
  | commandCell _ => exact execCommandCell_completes _ s
  | ackCell _ _ => exact execAckCell_completes _ _ s
  | faultCell _ _ => exact execFaultCell_completes _ _ s
  | grantCell _ _ => exact execGrantCell_completes _ _ s
  | withdrawCell _ => exact execWithdrawCell_completes _ s
  | stateCell _ => exact execStateCell_completes _ s
  | healthCell _ _ => exact execHealthCell_completes _ _ s
  | echoReply _ _ _ _ => exact execEchoReply_completes _ _ _ _ s
  | laneCell _ _ _ _ lseq => exact execLaneCell_completes _ _ _ _ lseq s
  | resyncCell _ => exact execResyncCell_completes _ s
  | ident _ _ => exact execIdent_completes _ _ s
  | configAck _ _ _ => exact execConfigAck_completes _ _ _ s
  | imgResult _ _ => exact execImgResult_completes _ _ s
  | moduleInt _ _ _ _ => exact execModuleInt_completes _ _ _ _ s
  | monitorPoll _ _ _ _ => exact execMonitorPoll_completes _ _ _ _ s
  | probe _ => exact execProbe_completes _ s
  | probeEnd _ _ => exact execProbeEnd_completes _ _ s
  | lightReturn _ _ => exact execLightReturn_completes _ _ s
  | latchClear _ => exact execLatchClear_completes _ s
  | rampStep _ _ => exact execRampStep_completes _ _ s
  | compatApply _ _ => exact execCompatApply_completes _ _ s
  | baselineFormed _ _ => exact execBaselineFormed_completes _ _ s
  | claim _ => exact execClaim_completes _ s
  | reassert => exact execReassert_completes s
  | seatBound _ => exact execSeatBound_completes _ s
  | clearingDone _ => exact execClearingDone_completes _ s
  | linkDown => exact execLinkDown_completes s
  | linkUp _ _ => exact execLinkUp_completes _ _ s
  | featureCommit _ => exact execFeatureCommit_completes _ s
  | mailboxCommand _ _ => exact execMailboxCommand_completes _ _ s
  | fmApiCommand _ _ => exact execFmApiCommand_completes _ _ s
  | cupboardWriteDone => exact execCupboardWriteDone_completes s
  | stagingDone _ => exact execStagingDone_completes _ s
  | selftestEnd _ => exact execSelftestEnd_completes _ s
  | flashCommit _ => exact execFlashCommit_completes _ s
  | flashFail => exact execFlashFail_completes s
  | readDone => exact execReadDone_completes s
  | trip _ _ => exact execTrip_completes _ _ s
  | tripStop => exact execTripStop_completes s
  | supplyFail _ => exact execSupplyFail_completes _ s
  | iodSupplyReturn => exact execIodSupplyReturn_completes s
  | cellDropped _ _ _ => exact execCellDropped_completes _ _ _ s
  | frameProgramEnd _ => exact execFrameProgramEnd_completes _ s
  | patrolScrub _ _ => exact execPatrolScrub_completes _ _ s
  | jobTableClaim _ _ _ => exact execJobTableClaim_completes _ _ _ s
  | channelRetraining _ _ => exact execChannelRetraining_completes _ _ s
  | linkRecovery => exact execLinkRecovery_completes s
  | _ => exact .next _

/-- Settles O7. -/
theorem onlyBadAccessesStop : Obligations.OnlyBadAccessesStop := fun c s =>
  ⟨exec_unaligned s, exec_pastHall s, exec_completes c s⟩

end Sys2Proof.Machine
end

-- Words, registers and tables -------------------------------------------------------------------------------------------------------

section
/-! What a read returns after a write: of a field of a word, of a field of a register, of an entry of a mapped table. -/
namespace Sys2Proof.Machine

-- Lists without repetition

theorem nodup_map_of_inj {α β : Type} {f : α → β} {l : List α} (hf : ∀ a ∈ l, ∀ b ∈ l, f a = f b → a = b) (h : l.Nodup) :
    (l.map f).Nodup :=
  List.pairwise_map.2 (List.Pairwise.imp_of_mem (fun ha hb hne heq => hne (hf _ ha _ hb heq)) h)

theorem eq_of_nodup_map {α β : Type} {f : α → β} {l : List α} (h : (l.map f).Nodup) {a b : α} (ha : a ∈ l) (hb : b ∈ l)
    (heq : f a = f b) : a = b := by
  induction l with
  | nil => cases ha
  | cons x l ih =>
    obtain ⟨hx, hl⟩ := List.nodup_cons.1 (List.map_cons ▸ h)
    rcases List.mem_cons.1 ha with rfl | ha'
    · rcases List.mem_cons.1 hb with rfl | hb'
      · rfl
      · exact absurd (heq ▸ List.mem_map_of_mem hb') hx
    · rcases List.mem_cons.1 hb with rfl | hb'
      · exact absurd (heq ▸ List.mem_map_of_mem ha') hx
      · exact ih hl ha' hb'

-- Fields of a word

theorem bitsOf_lt (w : Word) (lo n : Nat) : bitsOf w lo n < 2 ^ n := Nat.mod_lt _ (Nat.two_pow_pos n)

/-- A bit of a field, as a bit of the word. -/
theorem testBit_bitsOf (w : Word) (lo n i : Nat) :
    (bitsOf w lo n).testBit i = (decide (i < n) && w.toNat.testBit (lo + i)) := by
  simp [bitsOf, Nat.testBit_mod_two_pow, Nat.testBit_div_two_pow, Nat.add_comm]

theorem bitAt_eq_testBit (w : Word) (i : Nat) : bitAt w i = w.toNat.testBit i := by
  rw [bitAt, Nat.testBit, Nat.shiftRight_eq_div_pow, Nat.one_and_eq_mod_two]
  rcases Nat.mod_two_eq_zero_or_one (w.toNat / 2 ^ i) with h | h <;> simp [h]

/-- The word with a field replaced, as the part above the field, the field, and the part below. -/
theorem toNat_setBits (w : Word) {lo n : Nat} (v : Nat) (h : lo + n ≤ 64) :
    (setBits w lo n v).toNat = 2 ^ lo * (2 ^ n * (w.toNat / 2 ^ (lo + n)) + v % 2 ^ n) + w.toNat % 2 ^ lo := by
  have hlo := Nat.div_add_mod w.toNat (2 ^ lo)
  have hn := Nat.div_add_mod (w.toNat / 2 ^ lo) (2 ^ n)
  rw [Nat.div_div_eq_div_mul, ← Nat.pow_add] at hn
  have hv : v % 2 ^ n < 2 ^ n := Nat.mod_lt _ (Nat.two_pow_pos n)
  have hr : w.toNat % 2 ^ lo < 2 ^ lo := Nat.mod_lt _ (Nat.two_pow_pos lo)
  have hq : w.toNat / 2 ^ (lo + n) < 2 ^ (64 - (lo + n)) := by
    rw [Nat.div_lt_iff_lt_mul (Nat.two_pow_pos _), ← Nat.pow_add, Nat.sub_add_cancel h]
    exact w.isLt
  have hval : w.toNat - bitsOf w lo n * 2 ^ lo + v % 2 ^ n * 2 ^ lo
      = 2 ^ lo * (2 ^ n * (w.toNat / 2 ^ (lo + n)) + v % 2 ^ n) + w.toNat % 2 ^ lo := by
    have hw : w.toNat
        = 2 ^ lo * (2 ^ n * (w.toNat / 2 ^ (lo + n))) + 2 ^ lo * bitsOf w lo n + w.toNat % 2 ^ lo := by
      rw [bitsOf, ← Nat.mul_add, hn, hlo]
    have hcomm : bitsOf w lo n * 2 ^ lo = 2 ^ lo * bitsOf w lo n := Nat.mul_comm _ _
    have hcomm' : v % 2 ^ n * 2 ^ lo = 2 ^ lo * (v % 2 ^ n) := Nat.mul_comm _ _
    rw [Nat.mul_add, hcomm, hcomm']
    omega
  have hsmall : 2 ^ n * (w.toNat / 2 ^ (lo + n)) + v % 2 ^ n < 2 ^ (64 - lo) := by
    calc 2 ^ n * (w.toNat / 2 ^ (lo + n)) + v % 2 ^ n
        < 2 ^ n * (w.toNat / 2 ^ (lo + n) + 1) := by rw [Nat.mul_succ]; omega
      _ ≤ 2 ^ n * 2 ^ (64 - (lo + n)) := Nat.mul_le_mul_left _ hq
      _ = 2 ^ (64 - lo) := by rw [← Nat.pow_add]; congr 1; omega
  have hfit : 2 ^ lo * (2 ^ n * (w.toNat / 2 ^ (lo + n)) + v % 2 ^ n) + w.toNat % 2 ^ lo < 2 ^ 64 := by
    calc 2 ^ lo * (2 ^ n * (w.toNat / 2 ^ (lo + n)) + v % 2 ^ n) + w.toNat % 2 ^ lo
        < 2 ^ lo * (2 ^ n * (w.toNat / 2 ^ (lo + n)) + v % 2 ^ n + 1) := by rw [Nat.mul_succ]; omega
      _ ≤ 2 ^ lo * 2 ^ (64 - lo) := Nat.mul_le_mul_left _ hsmall
      _ = 2 ^ 64 := by rw [← Nat.pow_add]; congr 1; omega
  rw [setBits, BitVec.toNat_ofNat, hval, Nat.mod_eq_of_lt hfit]

/-- A bit of a word with a field replaced. -/
theorem testBit_setBits (w : Word) {lo n : Nat} (v : Nat) (i : Nat) (h : lo + n ≤ 64) :
    (setBits w lo n v).toNat.testBit i
      = if lo ≤ i ∧ i < lo + n then v.testBit (i - lo) else w.toNat.testBit i := by
  have hr : w.toNat % 2 ^ lo < 2 ^ lo := Nat.mod_lt _ (Nat.two_pow_pos lo)
  have hv : v % 2 ^ n < 2 ^ n := Nat.mod_lt _ (Nat.two_pow_pos n)
  rw [toNat_setBits w v h, Nat.testBit_two_pow_mul_add _ hr, Nat.testBit_two_pow_mul_add _ hv]
  by_cases h1 : i < lo
  · simp [h1, Nat.testBit_mod_two_pow, Nat.not_le.2 h1]
  · by_cases h2 : i - lo < n
    · have h3 : lo ≤ i ∧ i < lo + n := by omega
      simp [h1, h2, h3, Nat.testBit_mod_two_pow]
    · have h3 : ¬(lo ≤ i ∧ i < lo + n) := by omega
      have h4 : i - lo - n + (lo + n) = i := by omega
      simp [h1, h2, h3, Nat.testBit_div_two_pow, h4]

/-- The replaced field reads back. -/
theorem bitsOf_setBits_self (w : Word) {lo n : Nat} (v : Nat) (h : lo + n ≤ 64) : bitsOf (setBits w lo n v) lo n = v % 2 ^ n := by
  apply Nat.eq_of_testBit_eq
  intro i
  rw [testBit_bitsOf, testBit_setBits w v _ h, Nat.testBit_mod_two_pow]
  by_cases hi : i < n
  · simp [hi]
  · simp [hi]

/-- A field apart from the replaced one stands. -/
theorem bitsOf_setBits_disjoint (w : Word) {lo n : Nat} (v : Nat) {lo' n' : Nat} (h : lo + n ≤ 64)
    (hd : lo' + n' ≤ lo ∨ lo + n ≤ lo') : bitsOf (setBits w lo n v) lo' n' = bitsOf w lo' n' := by
  apply Nat.eq_of_testBit_eq
  intro i
  rw [testBit_bitsOf, testBit_bitsOf, testBit_setBits w v _ h]
  by_cases hi : i < n'
  · rw [if_neg (by omega)]
  · simp [hi]

theorem bitAt_setBits_ne (w : Word) {lo n : Nat} (v : Nat) {i : Nat} (h : lo + n ≤ 64) (hi : i < lo ∨ lo + n ≤ i) :
    bitAt (setBits w lo n v) i = bitAt w i := by
  rw [bitAt_eq_testBit, bitAt_eq_testBit, testBit_setBits w v _ h, if_neg (by omega)]

/-- A single bit that is set reads as set. -/
theorem bitAt_setBits_one (w : Word) {i : Nat} (h : i < 64) : bitAt (setBits w i 1 1) i = true := by
  rw [bitAt_eq_testBit, testBit_setBits w 1 _ h, if_pos ⟨Nat.le_refl i, Nat.lt_succ_self i⟩]
  simp

-- Fields of a register

theorem RegsCanonical.setReg {s : State} (h : RegsCanonical s) (a : Nat) (w : Word) : RegsCanonical (s.setReg a w) := twf_tset h a w

theorem RegsCanonical.setField {s : State} (h : RegsCanonical s) (a lo n v : Nat) : RegsCanonical (s.setField a lo n v) :=
  h.setReg a _

theorem RegsCanonical.count {s : State} (h : RegsCanonical s) (a lo n k : Nat) : RegsCanonical (s.count a lo n k) := h.setField ..

theorem RegsCanonical.maxField {s : State} (h : RegsCanonical s) (a lo n v : Nat) : RegsCanonical (s.maxField a lo n v) := h.setField ..

theorem State.reg_setField_self {s : State} (h : RegsCanonical s) (a lo n v : Nat) :
    (s.setField a lo n v).reg a = setBits (s.reg a) lo n v := State.reg_setReg_self h a _

theorem State.reg_setField_ne (s : State) {a b : Nat} (lo n v : Nat) (h : b ≠ a) : (s.setField a lo n v).reg b = s.reg b :=
  State.reg_setReg_ne s _ h

theorem State.reg_count_ne (s : State) {a b : Nat} (lo n k : Nat) (h : b ≠ a) : (s.count a lo n k).reg b = s.reg b :=
  State.reg_setReg_ne s _ h

theorem State.reg_maxField_ne (s : State) {a b : Nat} (lo n k : Nat) (h : b ≠ a) : (s.maxField a lo n k).reg b = s.reg b :=
  State.reg_setReg_ne s _ h

theorem State.field_setField_self {s : State} (h : RegsCanonical s) (a : Nat) {lo n : Nat} (v : Nat) (hn : lo + n ≤ 64) :
    (s.setField a lo n v).field a lo n = v % 2 ^ n := by
  rw [State.field, State.reg_setField_self h, bitsOf_setBits_self _ _ hn]

theorem State.field_setField_ne (s : State) {a b : Nat} (lo n v lo' n' : Nat) (h : b ≠ a) :
    (s.setField a lo n v).field b lo' n' = s.field b lo' n' := by
  rw [State.field, State.reg_setField_ne s _ _ _ h, State.field]

/-- A write of a field leaves the fields apart from it, in the same register or in another. -/
theorem State.field_setField_disjoint {s : State} (h : RegsCanonical s) (a b : Nat) {lo n : Nat} (v : Nat) {lo' n' : Nat}
    (hn : lo + n ≤ 64) (hd : lo' + n' ≤ lo ∨ lo + n ≤ lo') : (s.setField a lo n v).field b lo' n' = s.field b lo' n' := by
  by_cases hb : b = a
  · subst hb
    rw [State.field, State.reg_setField_self h, bitsOf_setBits_disjoint _ _ hn hd, State.field]
  · exact s.field_setField_ne _ _ _ _ _ hb

theorem State.field_lt (s : State) (a lo n : Nat) : s.field a lo n < 2 ^ n := bitsOf_lt _ _ _

/-- A counter grows by what is added and saturates. -/
theorem State.field_count_self {s : State} (h : RegsCanonical s) (a : Nat) {lo n : Nat} (k : Nat) (hn : lo + n ≤ 64) :
    (s.count a lo n k).field a lo n = min (2 ^ n - 1) (s.field a lo n + k) := by
  rw [State.count, State.field_setField_self h a _ hn, Nat.mod_eq_of_lt]
  have := Nat.two_pow_pos n
  omega

theorem State.field_count_ne (s : State) {a b : Nat} (lo n k lo' n' : Nat) (h : b ≠ a) :
    (s.count a lo n k).field b lo' n' = s.field b lo' n' := s.field_setField_ne _ _ _ _ _ h

theorem State.field_count_disjoint {s : State} (h : RegsCanonical s) (a b : Nat) {lo n : Nat} (k : Nat) {lo' n' : Nat}
    (hn : lo + n ≤ 64) (hd : lo' + n' ≤ lo ∨ lo + n ≤ lo') : (s.count a lo n k).field b lo' n' = s.field b lo' n' :=
  State.field_setField_disjoint h a b _ hn hd

theorem State.field_maxField_disjoint {s : State} (h : RegsCanonical s) (a b : Nat) {lo n : Nat} (v : Nat) {lo' n' : Nat}
    (hn : lo + n ≤ 64) (hd : lo' + n' ≤ lo ∨ lo + n ≤ lo') : (s.maxField a lo n v).field b lo' n' = s.field b lo' n' :=
  State.field_setField_disjoint h a b _ hn hd

theorem State.field_maxField_ne (s : State) {a b : Nat} (lo n k lo' n' : Nat) (h : b ≠ a) :
    (s.maxField a lo n k).field b lo' n' = s.field b lo' n' := s.field_setField_ne _ _ _ _ _ h

-- Tables

/-- A map that leaves reset values alone acts on every entry of a canonical table. -/
theorem tget_tmap {α : Type} [DecidableEq α] {d : Nat → α} {t : List (Nat × α)} (h : twf d t = true) {f : Nat → α → α}
    (hf : ∀ i, f i (d i) = d i) (k : Nat) : tget d (tmap d f t) k = f k (tget d t k) := by
  unfold twf at h
  generalize (none : Option Nat) = lo at h
  induction t generalizing lo with
  | nil => exact (hf k).symm
  | cons e t ih =>
    obtain ⟨j, w⟩ := e
    obtain ⟨-, -, ht⟩ := twfFrom_cons h
    simp only [tmap]
    by_cases hk : k = j
    · subst hk
      have habove : keysAbove k (tmap d f t) := twfFrom_keysAbove (twfFrom_tmap ht f)
      rw [tget_tcons_self _ _ habove]
      simp [tget]
    · rw [tget_tcons_ne _ _ hk, ih _ ht]
      simp [tget, Ne.symm hk]

-- Names of parts that a frame leaves alone

theorem SameBut.reg_eq {l : List Part} {s t : State} (h : SameBut l s t) (hl : .regs ∉ l) (a : Nat) : t.reg a = s.reg a := by
  have hregs : t.regs = s.regs := h .regs hl
  unfold State.reg
  rw [hregs]

theorem SameBut.loop_eq {l : List Part} {s t : State} (h : SameBut l s t) (hl : .loops ∉ l) (i : Nat) : t.loop i = s.loop i := by
  have hloops : t.loops = s.loops := h .loops hl
  unfold State.loop
  rw [hloops]

theorem SameBut.porch_eq {l : List Part} {s t : State} (h : SameBut l s t) (hl : .porches ∉ l) (p : Nat) : t.porch p = s.porch p := by
  have hporches : t.porches = s.porches := h .porches hl
  unfold State.porch
  rw [hporches]

-- What asserting FAULT_N does

/-- The bit of the cause is set and the pin low. -/
theorem State.faultOn_asserted {s : State} (h : RegsCanonical s) {c : Nat} (hc : c < 64) (other : Bool) :
    FaultAsserted c s (s.faultOn c other) := by
  unfold State.faultOn
  split
  next hset => exact ⟨hset, fun hclear => absurd (hset.symm.trans hclear) (by decide)⟩
  · have hbit : bitAt ((s.setField Reg.THM_FAULT c 1 1).reg Reg.THM_FAULT) c = true := by
      rw [State.reg_setField_self h]
      exact bitAt_setBits_one _ hc
    split
    · exact ⟨hbit, fun _ => rfl⟩
    · exact ⟨hbit, fun _ => rfl⟩

/-- Only `THM_FAULT` changes. -/
theorem State.reg_faultOn_ne (s : State) (c : Nat) (other : Bool) {a : Nat} (ha : a ≠ Reg.THM_FAULT) :
    (s.faultOn c other).reg a = s.reg a := by
  unfold State.faultOn
  split
  · rfl
  · split <;> exact s.reg_setField_ne _ _ _ ha

theorem RegsCanonical.faultOn {s : State} (h : RegsCanonical s) (c : Nat) (other : Bool) : RegsCanonical (s.faultOn c other) := by
  unfold State.faultOn
  split
  · exact h
  · split <;> exact h.setField _ _ _ _

end Sys2Proof.Machine
end

-- Operations and reset --------------------------------------------------------------------------------------------------------------

section
/-! Operations that wait for the tick, and the state after reset. -/
namespace Sys2Proof.Machine

/-- What waits for a loop is the operation last written. -/
theorem State.loopOp_own (s : State) (l op : Nat) : (s.loopOp l op).ops.loops.filter (·.1 = l) = [(l, op)] := by
  simp [State.loopOp, List.filter_append, List.filter_filter]

theorem State.loopOp_other (s : State) {l m : Nat} (op : Nat) (h : m ≠ l) :
    (s.loopOp l op).ops.loops.filter (·.1 = m) = s.ops.loops.filter (·.1 = m) := by
  have hdrop : (s.ops.loops.filter fun p => p.1 ≠ l).filter (·.1 = m) = s.ops.loops.filter (·.1 = m) := by
    rw [List.filter_filter]
    refine List.filter_congr fun p _ => ?_
    by_cases hp : p.1 = m
    · simp [hp, h]
    · simp [hp]
  simpa [State.loopOp, List.filter_append, Ne.symm h] using hdrop

/-- Settles O29: each row stores its operation, by computation; an operation of a loop replaces the loop's own. -/
theorem operationsWaitForTheTick : Obligations.OperationsWaitForTheTick := by
  intro s
  refine ⟨⟨rfl, fun _ => rfl, rfl⟩, ⟨fun _ => rfl, rfl, rfl, rfl, rfl⟩, ⟨rfl, rfl, rfl⟩, fun l => ?_,
    ⟨fun _ => rfl, fun _ => rfl, rfl, fun _ => rfl, rfl⟩, ⟨fun _ => rfl, fun _ => rfl, rfl, rfl, rfl, rfl, rfl⟩, ⟨rfl, rfl, rfl⟩⟩
  exact ⟨_, _, _, _, rfl, rfl, rfl, rfl, s.loopOp_own _ 1, s.loopOp_own _ 2, s.loopOp_own _ 3, s.loopOp_own _ 4,
    fun _ hm => s.loopOp_other 1 hm, s.loopOp_frame _ 1, s.loopOp_frame _ 2, s.loopOp_frame _ 3, s.loopOp_frame _ 4⟩

/-- Every table of the state after reset is empty but that of the porches, whose lanes are squelched. -/
theorem State.reset_canonical : Canonical State.reset := by constructor <;> exact of_decide_eq_true rfl

/-- After reset the porches are down; those of the device squelch all their lanes. -/
theorem State.reset_porch (p : Nat) : State.reset.porch p = if p < 16 then { squelch := 511 } else {} := by
  by_cases hp : p < 16
  · rw [if_pos hp]
    revert p
    decide
  · rw [if_neg hp]
    have hne : ∀ i, i < 16 → i ≠ p := fun i hi heq => hp (heq ▸ hi)
    simp [State.porch, State.reset, List.range, List.range.loop, tget, hne]

/-- Settles O8. -/
theorem resetLeaves : Obligations.ResetLeaves := by
  refine ⟨rfl, rfl, rfl, rfl, rfl, rfl, rfl, rfl, rfl, rfl, rfl, fun _ => rfl, fun _ => rfl, fun p => ?_, fun p hp => ?_, rfl,
    fun _ => rfl, State.reset_canonical⟩
  · rw [State.reset_porch]
    split <;> rfl
  · rw [State.reset_porch, if_pos hp]

end Sys2Proof.Machine
end

-- Whole-device resets and the boot ------------------------------------------------------------------------------------------------

section
/-! The whole-device resets and the boot (R438, R462, R476, R478): what the choice of a firmware slot leaves of pins and counts. -/
namespace Sys2Proof.Machine

/-- Updating each entry of a list without repeats updates those entries once. -/
theorem tget_foldl_tupd {α : Type} [DecidableEq α] {d : Nat → α} (f : Nat → α → α) {l : List Nat} (hl : l.Nodup)
    {t : List (Nat × α)} (h : twf d t = true) (k : Nat) :
    tget d (l.foldl (fun t i => tupd d t i (f i)) t) k = if k ∈ l then f k (tget d t k) else tget d t k := by
  induction l generalizing t with
  | nil => simp
  | cons i l ih =>
    obtain ⟨hi, hl⟩ := List.nodup_cons.1 hl
    rw [List.foldl_cons, ih hl (twf_tupd h i _)]
    by_cases hk : k = i
    · subst hk
      simp [hi, tget_tupd_self h]
    · simp [hk, tget_tupd_ne _ _ hk]

theorem twf_foldl_tupd {α : Type} [DecidableEq α] {d : Nat → α} (f : Nat → α → α) (l : List Nat) {t : List (Nat × α)}
    (h : twf d t = true) : twf d (l.foldl (fun t i => tupd d t i (f i)) t) = true := by
  induction l generalizing t with
  | nil => exact h
  | cons i l ih => exact ih (twf_tupd h i _)

theorem State.each_updPorch (s : State) (l : List Nat) (f : Nat → Porch → Porch) :
    State.each l (fun p s => s.updPorch p (f p)) s
      = { s with porches := l.foldl (fun t p => tupd (fun _ => {}) t p (f p)) s.porches } := by
  induction l generalizing s with
  | nil => rfl
  | cons p l ih => exact ih (s.updPorch p (f p))

theorem State.porch_each_updPorch {s : State} (h : twf (fun _ => ({} : Porch)) s.porches = true) {l : List Nat} (hl : l.Nodup)
    (f : Nat → Porch → Porch) (p : Nat) :
    (State.each l (fun p s => s.updPorch p (f p)) s).porch p = if p ∈ l then f p (s.porch p) else s.porch p := by
  rw [State.each_updPorch]
  exact tget_foldl_tupd f hl h p

-- What the boot leaves

/-- The level of `POR_N` and the Attic's counts stand. -/
structure BootCounts (s t : State) : Prop where
  porN   : t.pins.porN = s.pins.porN
  cycles : t.att.cycles = s.att.cycles
  opsec  : t.att.opsec = s.att.opsec

theorem BootCounts.refl (s : State) : BootCounts s s := ⟨rfl, rfl, rfl⟩

theorem BootCounts.trans {s t u : State} (h : BootCounts s t) (k : BootCounts t u) : BootCounts s u :=
  ⟨k.porN.trans h.porN, k.cycles.trans h.cycles, k.opsec.trans h.opsec⟩

theorem SameBut.bootCounts {l : List Part} {s t : State} (h : SameBut l s t) (hpins : .pins ∉ l) (hatt : .att ∉ l) :
    BootCounts s t := by
  have ep : t.pins = s.pins := h .pins hpins
  have ea : t.att = s.att := h .att hatt
  exact ⟨by rw [ep], by rw [ea], by rw [ea]⟩

theorem State.faultOn_bootCounts (s : State) (c : Nat) (other : Bool) : BootCounts s (s.faultOn c other) := by
  unfold State.faultOn
  split
  · exact .refl s
  · split <;> exact ⟨rfl, rfl, rfl⟩

theorem State.trySlot_bootCounts (s : State) (i : Nat) : BootCounts s (s.trySlot i).1 := by
  unfold State.trySlot
  dsimp only
  split
  · exact .refl s
  · have h : BootCounts s (s.setFwSlot i { s.fwSlot i with state := 3 }) :=
      (State.setFwSlot_frame _ _ _).bootCounts (by decide) (by decide)
    exact h.trans ⟨rfl, rfl, rfl⟩

theorem State.chooseSlot_bootCounts (s : State) : BootCounts s s.chooseSlot := by
  unfold State.chooseSlot
  dsimp only
  split
  · exact (s.trySlot_bootCounts _).trans ⟨rfl, rfl, rfl⟩
  have h := (s.trySlot_bootCounts s.flash.confirmed).trans (State.trySlot_bootCounts _ (1 - s.flash.confirmed))
  split
  · exact h.trans ⟨rfl, rfl, rfl⟩
  · refine .trans ?_ (State.faultOn_bootCounts _ _ _)
    exact h.trans ⟨rfl, rfl, rfl⟩

theorem State.bootFallback_bootCounts (s : State) : BootCounts s s.bootFallback := by
  unfold State.bootFallback
  split
  next i _ =>
    have h : BootCounts s (s.setFwSlot i { s.fwSlot i with state := 3 }) :=
      (State.setFwSlot_frame _ _ _).bootCounts (by decide) (by decide)
    exact h.trans ⟨rfl, rfl, rfl⟩
  · exact .refl s

/-- The boot starts, counts its power cycle and resumes the operating seconds; pins, Hearth and the rest of the boot stand. -/
theorem State.startBoot_effect (s : State) :
    s.startBoot.pins.porN = s.pins.porN ∧ s.startBoot.boot = { s.boot with started := true, supplyHold := false }
      ∧ s.startBoot.hrt = s.hrt ∧ s.startBoot.att.cycles = (s.att.cycles + 1) % 2 ^ 32
      ∧ s.startBoot.att.opsec = s.att.opsecSaved + 60 := by
  have hboot : ∀ u : State, u.bootFallback.chooseSlot.bootCup.boot = u.boot := fun u =>
    (State.bootCup_frame _ .boot (by decide)).trans
      ((State.chooseSlot_frame _ .boot (by decide)).trans (u.bootFallback_frame .boot (by decide)))
  have hcounts : ∀ u : State, BootCounts u u.bootFallback.chooseSlot.bootCup := fun u =>
    (u.bootFallback_bootCounts.trans (State.chooseSlot_bootCounts _)).trans
      ((State.bootCup_frame _).bootCounts (by decide) (by decide))
  exact ⟨(hcounts _).porN, hboot _, s.startBoot_frame .hrt (by decide), (hcounts _).cycles, (hcounts _).opsec⟩

/-- A burn that a reset cuts short leaves a count between the old and the new one (R439). -/
theorem State.fusedLeft_between {s : State} {n : Nat} (hb : s.flash.burnTo = some n) (hn : s.flash.fusedSvn ≤ n) :
    s.flash.fusedSvn ≤ s.fusedLeft ∧ s.fusedLeft ≤ n := by
  have hlt : Config.freeNat s.free % (n - s.flash.fusedSvn + 1) < n - s.flash.fusedSvn + 1 := Nat.mod_lt _ (Nat.succ_pos _)
  have hleft : s.fusedLeft = s.flash.fusedSvn + Config.freeNat s.free % (n - s.flash.fusedSvn + 1) := by
    simp only [State.fusedLeft, hb]
  omega

theorem State.fusedLeft_of_none {s : State} (hb : s.flash.burnTo = none) : s.fusedLeft = s.flash.fusedSvn := by
  simp only [State.fusedLeft, hb]

/-- With no channel and no hop that failed its training, the boot ends with the porches transmitting. -/
theorem execConfigurationReady_effect {s : State} (ms : BitVec 32) (hstarted : s.boot.started = true) (hready : s.boot.ready = false)
    (hp : twf (fun _ => ({} : Porch)) s.porches = true) :
    ∃ t, execConfigurationReady ms [] [] s = .next t
      ∧ t.boot = { s.boot with ready := true, ms := ms.toNat, stage := if s.upd.recovery then 0xFE else 5, powerUp := true }
      ∧ (∀ p, p < 16 → t.porch p = { s.porch p with squelch := 0 }) ∧ SameBut [.boot, .porches] s t := by
  let u : State := { s with boot := { s.boot with
    ready := true, ms := ms.toNat, stage := if s.upd.recovery then 0xFE else 5, powerUp := true } }
  refine ⟨State.each (List.range 16) (fun p s => s.updPorch p fun q => { q with squelch := 0 }) u, ?_, ?_, ?_, ?_⟩
  · unfold execConfigurationReady
    rw [if_neg (by simp [hstarted, hready])]
    rfl
  · rw [State.each_updPorch]
  · intro p hlt
    rw [State.porch_each_updPorch (s := u) hp List.nodup_range fun _ q => { q with squelch := 0 }, if_pos (List.mem_range.2 hlt)]
    rfl
  · exact SameBut.each (fun p v => (v.updPorch_frame p _).mono (by decide)) ((SameBut.boot_frame s _).mono (by decide)) _

/-- Settles O9. -/
theorem wholeDeviceReset : Obligations.WholeDeviceReset := by
  refine ⟨fun s => ?_, fun s => ⟨_, rfl, rfl, rfl, rfl⟩, fun s hs hh => ?_, fun s hh hp => ?_,
    fun s ms hs hr hp => execConfigurationReady_effect ms hs hr hp⟩
  · exact ⟨_, rfl, rfl, State.fusedLeft_of_none, fun _ => State.fusedLeft_between, rfl, rfl, rfl, rfl, rfl, rfl, rfl, rfl⟩
  · obtain ⟨hpor, hboot, hhrt, hcycles, hopsec⟩ := State.startBoot_effect { s with pins := { s.pins with porN := true } }
    refine ⟨_, if_neg (by simp [hs, hh]), hpor, hboot.trans ?_, hhrt, hcycles, hopsec⟩
    rw [← hh]
  · obtain ⟨-, hboot, hhrt, hcycles, hopsec⟩ := State.startBoot_effect { s with boot := { s.boot with supplyHold := false } }
    refine ⟨State.startBoot { s with boot := { s.boot with supplyHold := false } }, ?_, hboot, hhrt, hcycles, hopsec⟩
    exact (if_pos hh).trans (congrArg Host.Outcome.next (if_pos hp))

end Sys2Proof.Machine
end

-- The tick and the frame ----------------------------------------------------------------------------------------------------------

section
/-! A tick and the frame it begins (R15, R18, R47, R438): the frame that ends keeps the clock, `advance` counts its length, and the new
frame takes its number; only the reset that ends a recovery stops the Hearth. -/
namespace Sys2Proof.Machine

-- The frame that ends keeps the clock

theorem State.closeFrame_clock (s : State) (x : TickIn) : ClockKept s (s.closeFrame x) := by
  unfold State.closeFrame
  dsimp only
  have h : ClockKept s ((s.endFrame.clearSent).countFrame x) :=
    (State.countFrame_frame _ x).clockAfter (by decide) ((State.clearSent_frame _).clockAfter (by decide) s.endFrame_clock)
  split
  · exact h
  · exact (State.carryOrders_frame _).clockAfter (by decide) h

theorem State.stepEpoch_clock (s : State) : ClockKept s s.stepEpoch := by
  unfold State.stepEpoch
  split
  · split
    · exact ⟨⟨rfl, rfl, rfl, rfl, rfl, rfl⟩, rfl, rfl, rfl, rfl⟩
    · exact .refl s
  · exact .refl s

-- The length of the frame

theorem clampInt_within {m x : Int} (hm : 0 ≤ m) : -m ≤ clampInt (-m) m x ∧ clampInt (-m) m x ≤ m := by
  unfold clampInt
  split
  · omega
  · split <;> omega

/-- Steering corrects a frame by at most S cycles (R18). -/
theorem State.steering_within (s : State) (want : Int) :
    -(steerMax s.hrt.cfg : Int) ≤ s.steering want ∧ s.steering want ≤ steerMax s.hrt.cfg := by
  have hclamp : ∀ x, -(steerMax s.hrt.cfg : Int) ≤ clampInt (-(steerMax s.hrt.cfg : Int)) (steerMax s.hrt.cfg) x
      ∧ clampInt (-(steerMax s.hrt.cfg : Int)) (steerMax s.hrt.cfg) x ≤ steerMax s.hrt.cfg := fun x =>
    clampInt_within (Int.natCast_nonneg _)
  unfold State.steering
  dsimp only
  split
  · exact hclamp _
  · exact hclamp _
  · split
    · exact hclamp _
    · omega
  · split
    · exact hclamp _
    · omega

/-- The cycles that a tick adds: the period, the steering correction and the alignment step. -/
theorem State.advance_cycles (s : State) (want : Int) (h : steerMax s.hrt.cfg ≤ s.hrt.cfg.period) :
    s.hrt.cycles + s.hrt.cfg.period + s.hrt.alignBy - steerMax s.hrt.cfg ≤ (s.advance want).hrt.cycles
      ∧ (s.advance want).hrt.cycles ≤ s.hrt.cycles + s.hrt.cfg.period + s.hrt.alignBy + steerMax s.hrt.cfg := by
  have hsteer := s.steering_within want
  have hcycles : (s.advance want).hrt.cycles
      = s.hrt.cycles + ((s.hrt.cfg.period : Int) + s.steering want + s.hrt.alignBy).toNat := rfl
  omega

-- The new frame

/-- All of the new frame but its number and the cells' flag: time stands. -/
theorem State.beginFrame_hearth (s : State) :
    s.beginFrame.hrt.running = s.hrt.running ∧ s.beginFrame.hrt.frame = s.nextTick ∧ s.beginFrame.hrt.time = s.hrt.time
      ∧ s.beginFrame.hrt.cycles = s.hrt.cycles ∧ s.beginFrame.hrt.adopt = none := by
  have hnew : s.newFrame.hrt = { s.hrt with frame := s.nextTick, adopt := none } := by
    unfold State.newFrame
    dsimp only
    split <;> rfl
  have htime : TimeKept s.newFrame s.beginFrame := by
    unfold State.beginFrame
    dsimp only
    refine (State.freshFrame_time _).after ((State.writePages_frame _).timeAfter (by decide) ?_)
    refine (State.flushNotices_frame _).timeAfter (by decide) ((State.atticTick_frame _).timeAfter (by decide) ?_)
    split
    · refine (State.finishOrders_frame _).timeAfter (by decide) ((State.newCells_frame _).timeAfter (by decide) ?_)
      exact s.newFrame.pinTick_time
    · exact (State.startCells_frame _).timeAfter (by decide) s.newFrame.pinTick_time
  obtain ⟨hrun, hframe, htime, -, hcycles, hadopt⟩ := htime
  rw [hnew] at hrun hframe htime hcycles hadopt
  exact ⟨hrun, hframe, htime, hcycles, hadopt⟩

/-- The new frame has not reached its emit deadline. -/
theorem State.beginFrame_emitted (s : State) : s.beginFrame.hrt.emitted = false := by
  have h : ∀ u : State, u.freshFrame.hrt.emitted = false := fun u => by
    unfold State.freshFrame
    dsimp only
    split
    · split
      · rw [State.excuseLoops_frame _ .hrt (by decide)]
      · rfl
    · rfl
  exact h _

/-- Out of recovery the end of the tick changes nothing; in it, it may stop the Hearth. -/
theorem State.recoverTick_cases (s : State) :
    s.recoverTick = s ∨ (s.upd.recovery = true ∧ s.recoverTick.hrt.running = false) := by
  unfold State.recoverTick
  split
  next h =>
    simp only [Bool.and_eq_true] at h
    have hhrt : ∀ u : State, u.startBoot.hrt = u.hrt := fun u => u.startBoot_frame .hrt (by decide)
    exact .inr ⟨h.1.1, by rw [hhrt]; rfl⟩
  · exact .inl rfl

/-- A tick of a state that has reached it as `u`, with the Hearth advanced: what falls at the tick and begins with the frame. -/
theorem State.tickFrom_effect (u : State) (x : TickIn) (from_ : Nat) (hrun : u.hrt.running = true) :
    (u.upd.recovery = false → (u.atTick x from_).beginFrame.recoverTick.hrt.running = true)
    ∧ ((u.atTick x from_).beginFrame.recoverTick.hrt.running = true →
        (u.atTick x from_).beginFrame.recoverTick.hrt.frame = u.nextTick
        ∧ (u.atTick x from_).beginFrame.recoverTick.hrt.time = u.hrt.time
        ∧ (u.atTick x from_).beginFrame.recoverTick.hrt.cycles = u.hrt.cycles
        ∧ (u.atTick x from_).beginFrame.recoverTick.hrt.adopt = none
        ∧ (u.atTick x from_).beginFrame.recoverTick.hrt.emitted = false) := by
  obtain ⟨arun, aframe, atime, -, acycles, aadopt⟩ := u.atTick_time x from_
  obtain ⟨brun, bframe, btime, bcycles, badopt⟩ := (u.atTick x from_).beginFrame_hearth
  have hnext : (u.atTick x from_).nextTick = u.nextTick := by unfold State.nextTick; rw [aframe, aadopt]
  have hrec : (u.atTick x from_).beginFrame.upd.recovery = u.upd.recovery :=
    RecoveryKept.trans (u.atTick_rec x from_) ((State.beginFrame_frame _).rec (by decide))
  rcases State.recoverTick_cases (u.atTick x from_).beginFrame with heq | ⟨hyes, hstop⟩
  · rw [heq]
    exact ⟨fun _ => brun.trans (arun.trans hrun), fun _ => ⟨bframe.trans hnext, btime.trans atime, bcycles.trans acycles, badopt,
      State.beginFrame_emitted _⟩⟩
  · refine ⟨fun hno => ?_, fun h => absurd (h.symm.trans hstop) (by decide)⟩
    exact absurd (hyes.symm.trans (hrec.trans hno)) (by decide)

/-- What a tick has done before anything falls at it: the frame has ended, and the Hearth has advanced. -/
def State.frameEnded (s : State) (x : TickIn) : State := ((s.closeFrame x).keepTime.stepEpoch.advance x.steer).stopTick

theorem execTick_running {s : State} (x : TickIn) (h : s.hrt.running = true) :
    exec (.tick x) s = .next ((s.frameEnded x).atTick x s.hrt.cycles).beginFrame.recoverTick := if_neg (by simp [h])

/-- The clock that `advance` counts from is that of the frame, but for the step that `keepTime` drops. -/
theorem State.keepTime_clock (s : State) (x : TickIn) :
    let c := s.closeFrame x
    c.keepTime.hrt.running = s.hrt.running ∧ c.keepTime.hrt.frame = s.hrt.frame ∧ c.keepTime.hrt.cycles = s.hrt.cycles
      ∧ c.keepTime.hrt.cfg = s.hrt.cfg ∧ c.keepTime.hrt.alignBy = (if c.timeGoesOn then 0 else s.hrt.alignBy)
      ∧ c.keepTime.hrt.adopt = (if c.timeGoesOn then none else s.hrt.adopt) := by
  obtain ⟨⟨hrun, hframe, -, -, hcycles, hadopt⟩, hcfg, -, -, halign⟩ := s.closeFrame_clock x
  intro c
  unfold State.keepTime
  split
  · exact ⟨hrun, hframe, hcycles, hcfg, rfl, rfl⟩
  · exact ⟨hrun, hframe, hcycles, hcfg, halign, hadopt⟩

/-- The Hearth where the frame has ended: the frame's length has passed, and the next tick's number is that of R15 and R47. -/
theorem State.frameEnded_hearth (s : State) (x : TickIn) (h : steerMax s.hrt.cfg ≤ s.hrt.cfg.period) :
    let goesOn := (s.closeFrame x).timeGoesOn
    let step := if goesOn then 0 else s.hrt.alignBy
    (s.frameEnded x).hrt.running = s.hrt.running
      ∧ (s.frameEnded x).nextTick
        = (match s.hrt.adopt with | some (f, _) => if goesOn then s.hrt.frame + 1 else f | none => s.hrt.frame + 1)
      ∧ s.hrt.cycles + s.hrt.cfg.period + step - steerMax s.hrt.cfg ≤ (s.frameEnded x).hrt.cycles
      ∧ (s.frameEnded x).hrt.cycles ≤ s.hrt.cycles + s.hrt.cfg.period + step + steerMax s.hrt.cfg := by
  intro goesOn step
  obtain ⟨krun, kframe, kcycles, kcfg, kalign, kadopt⟩ := s.keepTime_clock x
  obtain ⟨⟨erun, eframe, -, -, ecycles, eadopt⟩, ecfg, -, -, ealign⟩ := (s.closeFrame x).keepTime.stepEpoch_clock
  have hlen := (s.closeFrame x).keepTime.stepEpoch.advance_cycles x.steer (by rw [ecfg, kcfg]; exact h)
  rw [ecycles, ecfg, ealign, kcycles, kcfg, kalign] at hlen
  have hstop : (s.frameEnded x).hrt = ((s.closeFrame x).keepTime.stepEpoch.advance x.steer).hrt :=
    State.stopTick_frame _ .hrt (by decide)
  have hadopt : ((s.closeFrame x).keepTime.stepEpoch.advance x.steer).hrt.adopt = if goesOn then none else s.hrt.adopt :=
    eadopt.trans kadopt
  have hframe : ((s.closeFrame x).keepTime.stepEpoch.advance x.steer).hrt.frame = s.hrt.frame := eframe.trans kframe
  refine ⟨(congrArg (·.running) hstop).trans (erun.trans krun), ?_, ?_⟩
  · unfold State.nextTick
    rw [hstop, hadopt, hframe]
    cases s.hrt.adopt <;> cases goesOn <;> rfl
  · rw [hstop]
    exact hlen

theorem State.frameEnded_rec (s : State) (x : TickIn) : RecoveryKept s (s.frameEnded x) :=
  (State.stopTick_frame _).recAfter (by decide) ((State.advance_frame _ _).recAfter (by decide)
    ((State.stepEpoch_frame _).recAfter (by decide) ((State.keepTime_frame _).recAfter (by decide)
      ((s.closeFrame_frame x).rec (by decide)))))

/-- Settles O10. -/
theorem tickAdvancesTheFrame : Obligations.TickAdvancesTheFrame := by
  refine ⟨fun s x hrun hsteer => ?_, fun s hstarted hrun => ?_⟩
  · obtain ⟨hkeep, hnext, hlen⟩ := s.frameEnded_hearth x hsteer
    obtain ⟨hgo, hthen⟩ := (s.frameEnded x).tickFrom_effect x s.hrt.cycles (hkeep.trans hrun)
    refine ⟨_, execTick_running x hrun, fun hrec => hgo (Eq.trans (s.frameEnded_rec x) hrec), fun ht => ?_⟩
    obtain ⟨hframe, -, hcycles, hadopt, hemitted⟩ := hthen ht
    rw [hcycles]
    exact ⟨hframe.trans hnext, hadopt, hemitted, hlen⟩
  · obtain ⟨hgo, hthen⟩ := s.hearthStart.tickFrom_effect {} 0 rfl
    refine ⟨_, if_pos (by simp [hstarted, hrun]), hgo, fun ht => ?_⟩
    obtain ⟨hframe, htime, hcycles, hadopt, -⟩ := hthen ht
    exact ⟨hframe, htime, hcycles, hadopt⟩

end Sys2Proof.Machine
end

-- The time base, the reference and epoch steps --------------------------------------------------------------------------------------

section
/-! The Hearth between ticks (R39, R43 to R49, R479). Each row's guard holds under the hypotheses of its clause, so that the row answers
one state, and the frame of the row covers what the clause does not name. -/
namespace Sys2Proof.Machine

/-- Settles O11. -/
theorem timebaseAndPps : Obligations.TimebaseAndPps := by
  intro s hregs
  refine ⟨fun hok => ?_, fun hrun hok => ?_, fun hstarted hrun => ?_, fun hrun hsecond hpps => ?_⟩
  · let u : State := { s with hrt := { s.hrt with timebaseOk := false, timebaseBack := false } }
    have hexec : exec .timebaseLoss s
        = .next (((u.faultOn FaultCause.timebaseLoss true).raise Src.hrt 4).record 0x0003 Sev.critical 0
          (u.faultOn FaultCause.timebaseLoss true).frameBytes) := by
      have hframe : (u.faultOn FaultCause.timebaseLoss true).frameBytes = u.frameBytes := by
        unfold State.frameBytes
        rw [State.faultOn_frame u _ _ .hrt (by decide)]
      rw [hframe]
      exact if_pos hok
    have hframe := exec_frame _ _ _ hexec
    refine ⟨_, hexec, State.faultOn_frame u _ _ .hrt (by decide), State.faultOn_asserted (s := u) hregs (by decide) true,
      List.mem_append_right _ (List.mem_singleton.2 rfl), ?_, fun a ha => u.reg_faultOn_ne _ _ ha, hframe⟩
    have hbytes : (u.faultOn FaultCause.timebaseLoss true).frameBytes = s.frameBytes := by
      unfold State.frameBytes
      rw [State.faultOn_frame u _ _ .hrt (by decide)]
    rw [hbytes]
    exact List.mem_append_right _ (List.mem_singleton.2 rfl)
  · exact if_pos (by simp [hrun, hok])
  · have hexec : exec .timebaseAbsent s = .next (s.faultOn FaultCause.timebaseAbsent false) := if_pos (by simp [hstarted, hrun])
    exact ⟨_, hexec, State.faultOn_asserted hregs (by decide) false, fun a ha => s.reg_faultOn_ne _ _ ha, exec_frame _ _ _ hexec⟩
  · exact if_pos (by simp [hrun, hsecond, hpps])

-- The reference

/-- The state in which a TIME cell is looked at: the cell is received and its epoch seen. -/
def State.timeCellSeen (s : State) (c : TimeCell) : State := s.receiveLanding.seeEpoch c.epoch

theorem State.timeCellSeen_frame (s : State) (c : TimeCell) : SameBut [.regs, .porches, .twn] s (s.timeCellSeen c) :=
  (State.seeEpoch_frame _ _).after (by decide) (s.receiveLanding_frame.mono (by decide))

theorem State.timeCellSeen_isRef (s : State) (c : TimeCell) : (s.timeCellSeen c).isRef = s.isRef := by
  have htwn : s.receiveLanding.twn = s.twn := s.receiveLanding_frame .twn (by decide)
  change s.receiveLanding.twn.role.holds = s.twn.role.holds
  rw [htwn]

/-- What a TIME cell in TWIN mode leaves of the reference: the cell with its frame and phase, and its pending step. -/
def State.refCellKept (u : State) (c : TimeCell) (ps : Int) : State :=
  { u with hrt := { u.hrt with
    cellNow := true
    epochStep := if c.stepPending then some (c.stepTick, c.stepTime) else u.hrt.epochStep
    refCell := some c
    refFrame := u.hrt.frame
    refPhase := ps } }

/-- Past the guards of its row, a TIME cell in TWIN mode is kept; its phase is looked at unless an edge gave one in this frame. -/
theorem exec_timeCellRx_twin {s : State} (c : TimeCell) (off : Int) (hup : s.landingUp = true)
    (hrun : (s.timeCellSeen c).hrt.running = true) (href : (s.timeCellSeen c).isRef = false)
    (hmode : (s.timeCellSeen c).tickinMode = 1) (hlock : (s.timeCellSeen c).hrt.lock ≠ .free) :
    ∃ t ps, exec (.timeCellRx c off) s = .next t
      ∧ (t = (s.timeCellSeen c).refCellKept c ps ∨ t = ((s.timeCellSeen c).refCellKept c ps).seeReference ps) := by
  change ∃ t ps, execTimeCellRx c off s = _ ∧ _
  unfold execTimeCellRx
  rw [if_neg (by simp [hup])]
  unfold State.timeCellSeen at *
  obtain ⟨u, hu⟩ : ∃ u, s.receiveLanding.seeEpoch c.epoch = u := ⟨_, rfl⟩
  simp only [hu] at *
  rw [if_pos (by simp [hrun, href])]
  simp only [hmode, hlock, if_true, if_false, decide_true, Bool.true_or]
  split
  · exact ⟨_, _, rfl, .inl rfl⟩
  · exact ⟨_, _, rfl, .inr rfl⟩

/-- A TIME cell in TWIN mode and in ACQUIRE is kept as the reference's newest; its step becomes the pending one. -/
theorem exec_timeCellRx_acquire {s : State} (c : TimeCell) (off : Int) (hup : s.landingUp = true) (hrun : s.hrt.running = true)
    (href : s.isRef = false) (hmode : s.tickinMode = 1) (hlock : s.hrt.lock = .acquire) :
    ∃ t, exec (.timeCellRx c off) s = .next t
      ∧ t.hrt.cellNow = true ∧ t.hrt.refCell = some c ∧ t.hrt.refFrame = s.hrt.frame
      ∧ t.hrt.frame = s.hrt.frame ∧ t.hrt.lock = .acquire
      ∧ (c.stepPending = true → t.hrt.epochStep = some (c.stepTick, c.stepTime)) := by
  have hhrt : (s.timeCellSeen c).hrt = s.hrt := s.timeCellSeen_frame c .hrt (by decide)
  have hlive : (s.timeCellSeen c).live = s.live := s.timeCellSeen_frame c .live (by decide)
  have hmode' : (s.timeCellSeen c).tickinMode = 1 := by
    unfold State.tickinMode State.inForce State.cfgReg at hmode ⊢
    rw [hlive]
    exact hmode
  have hframe : (s.timeCellSeen c).hrt.frame = s.hrt.frame := congrArg Hearth.frame hhrt
  have hlock' : (s.timeCellSeen c).hrt.lock = .acquire := (congrArg Hearth.lock hhrt).trans hlock
  obtain ⟨t, ps, hexec, rfl | rfl⟩ := exec_timeCellRx_twin c off hup (by rw [hhrt]; exact hrun)
    ((s.timeCellSeen_isRef c).trans href) hmode' (by rw [hhrt, hlock]; decide)
  · exact ⟨_, hexec, rfl, rfl, hframe, hframe, hlock', fun h => if_pos h⟩
  · exact ⟨_, hexec, rfl, rfl, hframe, hframe, hlock', fun h => if_pos h⟩

/-- Taking back the overrun count of a lengthened frame leaves time and every other register. -/
theorem State.reg_uncountFrame_ne (s : State) {a : Nat} (ha : a ≠ Reg.HRT_OVR_TOTAL) : s.uncountFrame.reg a = s.reg a := by
  unfold State.uncountFrame
  split
  · exact State.reg_setField_ne _ _ _ _ ha
  · rfl

theorem State.uncountFrame_frameNumber (s : State) : s.uncountFrame.hrt.frame = s.hrt.frame := s.uncountFrame_time.2.1

/-- The alignment step of an ACQUIRE. -/
theorem exec_alignmentStep {s : State} (n : BitVec 21) (hrun : s.hrt.running = true) (hlock : s.hrt.lock = .acquire)
    (haligned : s.hrt.aligned = false) (href : s.isRef = false) (hfollows : s.follows = true)
    (hcell : s.tickinMode = 1 → s.hrt.refCell.isSome = true) (hn : n.toNat < s.hrt.cfg.period) :
    ∃ t, exec (.alignmentStep n) s = .next t ∧ t.hrt.alignBy = n.toNat ∧ t.hrt.aligned = true
      ∧ t.hrt.frame = s.hrt.frame ∧ (s.tickinMode ≠ 1 → t.hrt.adopt = none)
      ∧ (∀ a, a ≠ Reg.HRT_OVR_TOTAL → t.reg a = s.reg a) := by
  have hguard : (s.hrt.running && decide (s.hrt.lock = .acquire) && !s.hrt.aligned && !s.isRef && s.follows
      && (!decide (s.tickinMode = 1) || s.hrt.refCell.isSome) && decide (n.toNat < s.hrt.cfg.period)) = true := by
    by_cases hm : s.tickinMode = 1
    · simp [hrun, hlock, haligned, href, hfollows, hn, hm, hcell hm]
    · simp [hrun, hlock, haligned, href, hfollows, hn, hm]
  refine ⟨_, if_pos hguard, rfl, rfl, s.uncountFrame_frameNumber, fun hm => ?_, fun a ha => s.reg_uncountFrame_ne ha⟩
  simp [hm]

theorem State.toLock_hrt (s : State) (l : Lock) : (s.toLock l).hrt = { s.hrt with lock := l } := by
  unfold State.toLock
  dsimp only
  split <;> split <;> rfl

theorem State.toLock_gains {s : State} (h : s.hrt.lock ≠ .locked) : Notified Src.hrt 3 noObj 0 (s.toLock .locked) := by
  unfold State.toLock
  rw [if_neg (fun hboth => h hboth.1)]
  dsimp only
  rw [if_pos ⟨h, rfl⟩]
  exact List.mem_append_right _ (List.mem_singleton.2 rfl)

theorem State.toLock_loses {s : State} {l : Lock} (h : s.hrt.lock = .locked) (hl : l ≠ .locked) :
    Notified Src.hrt 2 noObj 0 (s.toLock l) := by
  unfold State.toLock
  rw [if_pos ⟨h, hl⟩]
  dsimp only
  rw [if_neg (fun hboth => hl hboth.2)]
  exact List.mem_append_right _ (List.mem_singleton.2 rfl)

/-- Settles O12. -/
theorem followingTheReference : Obligations.FollowingTheReference := by
  intro s hregs
  refine ⟨fun off hrun hfollows hlocked hholdover => ?_, fun off hlock hfar => ?_, fun c off hup hrun href hmode hlock => ?_,
    fun n hrun hlock haligned href hfollows hcell hn => ?_, fun hlock hnear haligned hfollows => ?_, fun hlock hsilent => ?_,
    fun hlock hsilent => ?_⟩
  · have hexec : exec (.tickInEdge off) s = .next (State.seeReference { s with hrt := { s.hrt with edgeNow := true } }
        (off - (s.inForce Reg.HRT_TICKIN_CFG 32 16 : Nat))) := by
      refine if_pos ?_
      have hwindow : (decide (s.hrt.lock = .locked) || decide (s.hrt.lock = .holdover)) = false := by simp [hlocked, hholdover]
      change (s.hrt.running && s.follows && (!(decide (s.hrt.lock = .locked) || decide (s.hrt.lock = .holdover)) || _)) = true
      simp [hrun, hfollows, hwindow]
    exact ⟨_, hexec, rfl, exec_frame _ _ _ hexec, fun a ha => State.reg_setReg_ne _ _ ha⟩
  · refine if_neg ?_
    change ¬(s.hrt.running && s.follows && (!(decide (s.hrt.lock = .locked) || decide (s.hrt.lock = .holdover)) ||
      withinCycles (steerMax s.hrt.cfg + 16) (off - (s.inForce Reg.HRT_TICKIN_CFG 32 16 : Nat)))) = true
    simp [hlock, hfar]
  · obtain ⟨t, hexec, hnow, hcell, hcellFrame, hframe, hlock', hstep⟩ :=
      exec_timeCellRx_acquire c off hup hrun href hmode hlock
    exact ⟨t, hexec, hnow, hcell, hcellFrame, hframe, hlock', hstep, (exec_frame _ _ _ hexec).mono (by simp [touches])⟩
  · obtain ⟨t, hexec, hby, haligned', hframe, hadopt, hreg⟩ := exec_alignmentStep n hrun hlock haligned href hfollows hcell hn
    exact ⟨t, hexec, hby, haligned', hframe, hadopt, hreg, exec_frame _ _ _ hexec⟩
  · have hexec : exec .lockGained s = .next (s.toLock .locked) :=
      if_pos (by simp [State.lockDue, hlock, hnear, haligned, hfollows])
    exact ⟨_, hexec, s.toLock_hrt _, State.toLock_gains (by simp [hlock]), exec_frame _ _ _ hexec⟩
  · have hexec : exec .referenceLost s = .next (s.toLock .holdover) := by
      change Host.Outcome.next s.loseReference = _
      simp [State.loseReference, hsilent, hlock]
    exact ⟨_, hexec, s.toLock_hrt _, State.toLock_loses hlock (by decide), exec_frame _ _ _ hexec⟩
  · have hexec : exec .referenceLost s = .next (s.toLock .free) := by
      change Host.Outcome.next s.loseReference = _
      simp [State.loseReference, hsilent, hlock]
    exact ⟨_, hexec, s.toLock_hrt _, exec_frame _ _ _ hexec⟩

-- Epoch steps

/-- `EPOCH_RESULT` reads back. -/
theorem State.field_epochResult {s : State} (h : RegsCanonical s) {r : Nat} (hr : r < 8) :
    (s.epochResult r).field Reg.HRT_STATUS 8 3 = r := by
  unfold State.epochResult
  exact (State.field_setField_self h _ _ (by decide)).trans (Nat.mod_eq_of_lt hr)

/-- A refused arm shows its result and raises its notice. -/
theorem State.takeArm_late {s : State} (harm : s.ops.epochArm = true)
    (hne : (s.reg Reg.HRT_EPOCH_TICK).toNat ≠ 0) (hlate : (s.reg Reg.HRT_EPOCH_TICK).toNat < s.nextTick + 4) :
    s.takeArm = (({ s with ops := { s.ops with epochArm := false } } : State).epochResult 3).raise Src.hrt 1 := by
  unfold State.takeArm
  rw [if_pos harm]
  exact if_pos ⟨hne, hlate⟩

theorem State.takeArm_follower {s : State} (harm : s.ops.epochArm = true)
    (hat : (s.reg Reg.HRT_EPOCH_TICK).toNat = 0 ∨ s.nextTick + 4 ≤ (s.reg Reg.HRT_EPOCH_TICK).toNat) (href : s.isRef = false) :
    s.takeArm = (({ s with ops := { s.ops with epochArm := false } } : State).epochResult 4).raise Src.hrt 1 := by
  unfold State.takeArm
  rw [if_pos harm]
  refine (if_neg fun h => ?_).trans (if_pos (show (!s.isRef) = true by simp [href]))
  exact hat.elim h.1 (Nat.not_le.2 h.2)

/-- The step that an arm makes pending: the tick it names, or the fourth tick on, and the new time. -/
def State.armedStep (s : State) : Nat × Nat :=
  (if (s.reg Reg.HRT_EPOCH_TICK).toNat = 0 then s.nextTick + 4 else (s.reg Reg.HRT_EPOCH_TICK).toNat,
    (s.reg Reg.HRT_EPOCH_NS).toNat * 65536 + s.field Reg.HRT_EPOCH_FRAC 0 16)

theorem State.takeArm_taken {s : State} (harm : s.ops.epochArm = true)
    (hat : (s.reg Reg.HRT_EPOCH_TICK).toNat = 0 ∨ s.nextTick + 4 ≤ (s.reg Reg.HRT_EPOCH_TICK).toNat) (href : s.isRef = true)
    (hnone : s.hrt.epochStep = none) :
    s.takeArm = ({ s with
      ops := { s.ops with epochArm := false }
      hrt := { s.hrt with epochStep := some s.armedStep } } : State).epochResult 1 := by
  unfold State.takeArm
  rw [if_pos harm]
  refine (if_neg fun h => ?_).trans ((if_neg (show ¬(!s.isRef) = true by simp [href])).trans (if_neg ?_))
  · exact hat.elim h.1 (Nat.not_le.2 h.2)
  · change ¬s.hrt.epochStep.isSome = true
    simp [hnone]

/-- Whatever becomes of an arm, it has been taken up. -/
theorem State.takeArm_ops {s : State} (harm : s.ops.epochArm = true) : s.takeArm.ops = { s.ops with epochArm := false } := by
  unfold State.takeArm
  rw [if_pos harm]
  dsimp only
  split
  · rfl
  split
  · rfl
  split <;> rfl

/-- Settles O13. -/
theorem epochSteps : Obligations.EpochSteps := by
  refine ⟨fun s hregs => ⟨rfl, fun k v hstep hdue => ?_, fun k v hstep hdue => ?_⟩, fun s hregs harm => ?_⟩
  · have hexec : exec .epochStep s = .next ((({ s with
        hrt := { s.hrt with epochStep := none, setTime := some v } } : State).epochResult 2).raise Src.hrt 0) := by
      change Host.Outcome.next s.stepEpoch = _
      simp [State.stepEpoch, hstep, hdue]
    exact ⟨_, hexec, rfl, State.field_epochResult (s := { s with hrt := _ }) hregs (by decide),
      List.mem_append_right _ (List.mem_singleton.2 rfl), fun a ha => State.reg_setField_ne _ _ _ _ ha, exec_frame _ _ _ hexec⟩
  · change Host.Outcome.next s.stepEpoch = _
    simp [State.stepEpoch, hstep, Nat.not_le.2 hdue]
  · refine ⟨fun hne hlate => ?_, fun hat href => ?_, fun hat href hnone => ?_, State.takeArm_ops harm⟩
    · rw [State.takeArm_late harm hne hlate]
      exact ⟨State.field_epochResult (s := { s with ops := _ }) hregs (by decide), rfl⟩
    · rw [State.takeArm_follower harm hat href]
      exact ⟨State.field_epochResult (s := { s with ops := _ }) hregs (by decide), rfl⟩
    · rw [State.takeArm_taken harm hat href hnone]
      exact ⟨State.field_epochResult (s := { s with ops := _, hrt := _ }) hregs (by decide), rfl⟩

end Sys2Proof.Machine
end

-- Guard events, the trip and the governor -----------------------------------------------------------------------------------------

section
/-! Guard events and `FAULT_N`. What a verdict does is followed through `FaultsStand`: no step of it takes a bit of `THM_FAULT`
back, so that a cause asserted on the way is asserted in the end (R383, R486, R490). -/
namespace Sys2Proof.Machine

-- A freeze of many loops

/-- Every loop that is not OFF and satisfies `p` takes the cause; the others stand. -/
theorem State.loop_freezeWhere {s : State} (h : twf (fun _ => ({} : Loop)) s.loops = true) (r : Nat) (p : Nat → Bool) (l : Nat) :
    (s.freezeWhere r p).loop l
      = if (s.loop l).cls = .off || !p l then s.loop l else { s.loop l with frzWait := joinFreeze r (s.loop l).frzWait } := by
  unfold State.loop State.freezeWhere
  rw [tget_tmap h fun i => by simp]

theorem State.haltSeen_loop {s : State} (h : twf (fun _ => ({} : Loop)) s.loops = true) (l : Nat) :
    s.haltSeen.loop l
      = if (s.loop l).cls = .off then s.loop l else { s.loop l with frzWait := joinFreeze 1 (s.loop l).frzWait } := by
  let u := { s.freeTick with pins := { s.pins with haltN := false } }.guardEvent GuardCode.halt
  have hu : SameBut [.regs, .porches, .free, .pins, .hrt] s u.haltCells :=
    u.haltCells_frame.after (by decide) ((State.guardEvent_frame _ _).after (by decide)
      ((SameBut.pins_frame _ _).after (by decide) (s.freeTick_frame.mono (by decide))))
  have hloops : u.haltCells.loops = s.loops := hu .loops (by decide)
  have hl := State.loop_freezeWhere (s := u.haltCells) (by rw [hloops]; exact h) 1 (fun _ => true) l
  rw [hu.loop_eq (by decide)] at hl
  refine hl.trans ?_
  simp

/-- Settles O15. -/
theorem haltFreezesEveryLoop : Obligations.HaltFreezesEveryLoop := by
  intro s hloops
  refine ⟨fun low hlow => ?_, rfl⟩
  have hexec := exec_halt_seen (s := s) (.inl hlow)
  refine ⟨_, hexec, fun l hl => ?_, fun l hl => ?_, exec_frame _ _ _ hexec⟩
  · rw [State.haltSeen_loop hloops, if_neg hl]
  · rw [State.haltSeen_loop hloops, if_pos hl]

-- Causes that stand

/-- No cause of `THM_FAULT` clears and the pin does not rise; a cause that is new has asserted the pin. -/
structure FaultsStand (s t : State) : Prop where
  canonical : RegsCanonical t
  stands    : ∀ c, bitAt (s.reg Reg.THM_FAULT) c = true → bitAt (t.reg Reg.THM_FAULT) c = true
  low       : s.pins.faultN = false → t.pins.faultN = false
  fresh     : ∀ c, bitAt (s.reg Reg.THM_FAULT) c = false → bitAt (t.reg Reg.THM_FAULT) c = true → t.pins.faultN = false

theorem FaultsStand.of_same {s t : State} (hc : RegsCanonical t) (hr : t.reg Reg.THM_FAULT = s.reg Reg.THM_FAULT)
    (hp : t.pins = s.pins) : FaultsStand s t :=
  ⟨hc, fun _ h => by rw [hr]; exact h, fun h => by rw [hp]; exact h,
    fun _ h k => by rw [hr, h] at k; exact absurd k (by decide)⟩

theorem FaultsStand.refl {s : State} (h : RegsCanonical s) : FaultsStand s s := .of_same h rfl rfl

theorem FaultsStand.trans {s t u : State} (h : FaultsStand s t) (k : FaultsStand t u) : FaultsStand s u := by
  refine ⟨k.canonical, fun c hs => k.stands c (h.stands c hs), fun hs => k.low (h.low hs), fun c hs hu => ?_⟩
  cases ht : bitAt (t.reg Reg.THM_FAULT) c with
  | false => exact k.fresh c ht hu
  | true => exact k.low (h.fresh c hs ht)

theorem FaultsStand.asserted {s t : State} (h : FaultsStand s t) {c : Nat} (hc : bitAt (t.reg Reg.THM_FAULT) c = true) :
    FaultAsserted c s t := ⟨hc, fun hs => h.fresh c hs hc⟩

theorem SameBut.faultsStand {l : List Part} {s t : State} (h : SameBut l s t) (hs : RegsCanonical s) (hregs : .regs ∉ l)
    (hpins : .pins ∉ l) : FaultsStand s t := by
  have hr : t.regs = s.regs := h .regs hregs
  refine .of_same ?_ (h.reg_eq hregs _) (h .pins hpins)
  unfold RegsCanonical
  rw [hr]
  exact hs

theorem State.faultOn_stands {s : State} (h : RegsCanonical s) {c : Nat} (hc : c < 64) (other : Bool) :
    FaultsStand s (s.faultOn c other) := by
  unfold State.faultOn
  split
  · exact .refl h
  · let u := (s.setField Reg.THM_FAULT c 1 1).raise Src.thm 6 noObj c
    have hu : FaultsStand s { u with pins := { s.pins with faultN := false } } := by
      refine ⟨h.setField _ _ _ _, fun i hi => ?_, fun _ => rfl, fun _ _ _ => rfl⟩
      by_cases hic : i = c
      · subst hic
        exact (congrArg (bitAt · i) (State.reg_setField_self h Reg.THM_FAULT i 1 1)).trans (bitAt_setBits_one _ hc)
      · exact (congrArg (bitAt · i) (State.reg_setField_self h Reg.THM_FAULT c 1 1)).trans
          ((bitAt_setBits_ne _ _ hc (by omega)).trans hi)
    cases other with
    | false => exact hu.trans (.of_same (h.setField _ _ _ _) rfl rfl)
    | true => exact hu

theorem State.faultOn_bit {s : State} (h : RegsCanonical s) {c : Nat} (hc : c < 64) (other : Bool) :
    bitAt ((s.faultOn c other).reg Reg.THM_FAULT) c = true := (State.faultOn_asserted h hc other).1

-- Cells write only the counts of their porch

/-- What a sent Guard or management cell counts of its wait. -/
def State.countWait (s : State) (p prio : Nat) : State :=
  if prio < prioFrame then
    ((s.count (Reg.PCH_Pp_TX p) 16 16 1).maxField (Reg.PCH_Pp_TX p) 0 16 (min 43 (Config.freeNat s.free))).freeTick
  else s

/-- A cell that can leave joins the cells sent and is counted; the entries of a COMMAND cell are counted too. -/
theorem State.send_eq {s : State} {p : Nat} (h : ¬(s.boot.stopped || decide ((s.porch p).squelch % 256 = 255)) = true) (prio : Nat)
    (c : TxCell) :
    ∃ f n, s.send p prio c = State.countWait ((s.updPorch p f).count (Reg.PCH_Pp_TX p) 32 32 1) p prio
      ∨ s.send p prio c
        = State.countWait (((s.updPorch p f).count (Reg.PCH_Pp_TX p) 32 32 1).count (Reg.PCH_Pp_CMD p) 32 32 n) p prio := by
  unfold State.send
  rw [if_neg h]
  cases c with
  | command c => exact ⟨_, _, .inr rfl⟩
  | _ => exact ⟨_, 0, .inl rfl⟩

/-- The counts of a porch stand at offsets 0x30 and 0x38 of its registers. -/
theorem Reg.PCH_Pp_TX_ne {a : Nat} (ha : a % 128 ≠ 48) (p : Nat) : a ≠ Reg.PCH_Pp_TX p := by
  unfold Reg.PCH_Pp_TX
  omega

theorem Reg.PCH_Pp_CMD_ne {a : Nat} (ha : a % 128 ≠ 56) (p : Nat) : a ≠ Reg.PCH_Pp_CMD p := by
  unfold Reg.PCH_Pp_CMD
  omega

theorem State.reg_countWait_ne (s : State) (p prio : Nat) {a : Nat} (ha : a % 128 ≠ 48) : (s.countWait p prio).reg a = s.reg a := by
  have htx := Reg.PCH_Pp_TX_ne ha p
  unfold State.countWait
  split
  · rw [State.reg_freeTick, State.reg_maxField_ne _ _ _ _ htx, State.reg_count_ne _ _ _ _ htx]
  · rfl

theorem State.reg_send_ne (s : State) (p prio : Nat) (c : TxCell) {a : Nat} (ha : a % 128 ≠ 48 ∧ a % 128 ≠ 56) :
    (s.send p prio c).reg a = s.reg a := by
  have htx := Reg.PCH_Pp_TX_ne ha.1 p
  have hcmd := Reg.PCH_Pp_CMD_ne ha.2 p
  by_cases h : (s.boot.stopped || decide ((s.porch p).squelch % 256 = 255)) = true
  · exact congrArg (State.reg · a) (if_pos h)
  · obtain ⟨f, n, he | he⟩ := State.send_eq h prio c
    · rw [he, State.reg_countWait_ne _ _ _ ha.1, State.reg_count_ne _ _ _ _ htx, State.reg_updPorch]
    · rw [he, State.reg_countWait_ne _ _ _ ha.1, State.reg_count_ne _ _ _ _ hcmd, State.reg_count_ne _ _ _ _ htx, State.reg_updPorch]

theorem RegsCanonical.freeTick {s : State} (h : RegsCanonical s) : RegsCanonical s.freeTick := h

theorem RegsCanonical.updPorch {s : State} (h : RegsCanonical s) (p : Nat) (f : Porch → Porch) : RegsCanonical (s.updPorch p f) := h

theorem RegsCanonical.countWait {s : State} (h : RegsCanonical s) (p prio : Nat) : RegsCanonical (s.countWait p prio) := by
  unfold State.countWait
  split
  · exact ((h.count _ _ _ _).maxField _ _ _ _).freeTick
  · exact h

theorem RegsCanonical.send {s : State} (h : RegsCanonical s) (p prio : Nat) (c : TxCell) : RegsCanonical (s.send p prio c) := by
  by_cases hs : (s.boot.stopped || decide ((s.porch p).squelch % 256 = 255)) = true
  · have he : s.send p prio c = s := if_pos hs
    rw [he]
    exact h
  · obtain ⟨f, n, he | he⟩ := State.send_eq hs prio c
    · rw [he]
      exact ((h.updPorch p f).count _ _ _ _).countWait p prio
    · rw [he]
      exact (((h.updPorch p f).count _ _ _ _).count _ _ _ _).countWait p prio

theorem State.reg_sendAll_ne (s : State) (ps : List Nat) (prio : Nat) (c : TxCell) {a : Nat} (ha : a % 128 ≠ 48 ∧ a % 128 ≠ 56) :
    (State.sendAll ps prio c s).reg a = s.reg a := by
  induction ps generalizing s with
  | nil => rfl
  | cons p ps ih => exact (ih (s.send p prio c)).trans (s.reg_send_ne p prio c ha)

theorem RegsCanonical.sendAll {s : State} (h : RegsCanonical s) (ps : List Nat) (prio : Nat) (c : TxCell) :
    RegsCanonical (State.sendAll ps prio c s) := by
  induction ps generalizing s with
  | nil => exact h
  | cons p ps ih => exact ih (h.send p prio c)

theorem State.sendAll_stands {s : State} (h : RegsCanonical s) (ps : List Nat) (prio : Nat) (c : TxCell) :
    FaultsStand s (State.sendAll ps prio c s) :=
  .of_same (h.sendAll ps prio c) (s.reg_sendAll_ne ps prio c (by decide)) (State.sendAll_frame _ _ _ _ .pins (by decide))

-- The steps of a verdict

theorem RegsCanonical.guardEvent {s : State} (h : RegsCanonical s) (code : Nat) : RegsCanonical (s.guardEvent code) :=
  RegsCanonical.maxField (RegsCanonical.setField (RegsCanonical.count h _ _ _ _) _ _ _ _) _ _ _ _

theorem State.reg_guardEvent_ne (s : State) (code : Nat) {a : Nat} (ha : a ≠ Reg.HRT_GUARD_STAT) :
    (s.guardEvent code).reg a = s.reg a := by
  unfold State.guardEvent
  rw [State.reg_freeTick, State.reg_maxField_ne _ _ _ _ ha, State.reg_setField_ne _ _ _ _ ha, State.reg_count_ne _ _ _ _ ha]
  rfl

theorem State.guardEvent_stands {s : State} (h : RegsCanonical s) (code : Nat) : FaultsStand s (s.guardEvent code) :=
  .of_same (h.guardEvent code) (s.reg_guardEvent_ne code (by decide)) rfl

theorem State.withdraw_stands {s : State} (h : RegsCanonical s) (reason code : Nat) : FaultsStand s (s.withdraw reason code) := by
  have hsend : FaultsStand s (s.sendWithdraw reason code) := State.sendAll_stands h _ _ _
  have hfault := hsend.trans (State.faultOn_stands hsend.canonical (c := FaultCause.verdict) (by decide) true)
  exact hfault.trans ((State.giveUp_frame _ _).faultsStand hfault.canonical (by decide) (by decide))

theorem State.guardState_stands {s : State} (h : RegsCanonical s) (code : Nat) : FaultsStand s (s.guardState code) :=
  State.sendAll_stands h _ _ _

theorem State.verdict_stands {s : State} (h : RegsCanonical s) (reason code : Nat) {solo : State → State}
    (hsolo : ∀ u, RegsCanonical u → FaultsStand u (solo u)) : FaultsStand s (s.verdict reason code solo) := by
  have hg := State.guardEvent_stands h code
  have hk := hg.trans (State.guardState_stands hg.canonical code)
  have hv := fun other => hk.trans (State.faultOn_stands hk.canonical (c := FaultCause.verdict) (by decide) other)
  unfold State.verdict
  dsimp only
  split
  · exact hg.trans (State.withdraw_stands hg.canonical _ _)
  · exact hg.trans (hsolo _ hg.canonical)
  · exact (hv true).trans ((State.giveUp_frame _ _).faultsStand (hv true).canonical (by decide) (by decide))
  · exact hv false
  · exact hv false

theorem State.fatal_stands {s : State} (h : RegsCanonical s) : FaultsStand s s.fatal := by
  have hv := State.verdict_stands h 6 GuardCode.fatal (solo := fun s => s.withdraw 6 GuardCode.fatal)
    fun u hu => State.withdraw_stands hu _ _
  exact hv.trans (State.faultOn_stands hv.canonical (by decide) true)

-- Giving up control

/-- What a unit that gives up control leaves: the reason taken, the record written with the epoch and frame it had. -/
structure GaveUp (reason : Nat) (s t : State) : Prop where
  twn    : t.twn = { s.twn with withdrawAt := some reason }
  record : ⟨0x0004, Sev.critical, 1, [BitVec.ofNat 8 reason, 0, 0, 0] ++ leBytes 4 s.twn.epoch ++ s.frameBytes⟩ ∈ t.att.waiting

theorem State.giveUp_gaveUp {s u : State} (htwn : u.twn = s.twn) (hframe : u.hrt.frame = s.hrt.frame) (reason : Nat) :
    GaveUp reason s (u.giveUp reason) := by
  refine ⟨congrArg (fun x : Twin => { x with withdrawAt := some reason }) htwn, List.mem_append_right _ (List.mem_singleton.2 ?_)⟩
  have hbytes : s.frameBytes = u.frameBytes := by unfold State.frameBytes; rw [hframe]
  rw [hbytes, ← htwn]
  rfl

theorem State.waiting_faultOn (s : State) (c : Nat) (other : Bool) {e : AtticEvent} (he : e ∈ s.att.waiting) :
    e ∈ (s.faultOn c other).att.waiting := by
  unfold State.faultOn
  split
  · exact he
  · split
    · exact he
    · exact List.mem_append_left _ he

theorem GaveUp.faultOn {reason : Nat} {s t : State} (h : GaveUp reason s t) (c : Nat) (other : Bool) :
    GaveUp reason s (t.faultOn c other) :=
  ⟨(State.faultOn_frame _ _ _ .twn (by decide)).trans h.twn, State.waiting_faultOn _ _ _ h.record⟩

/-- A unit with a role gives up control at a verdict whose rule for SOLO is a withdrawal. -/
theorem State.verdict_gaveUp {s : State} (h : RegsCanonical s) (reason code : Nat) (hat : s.twn.withdrawAt = none)
    (hrole : s.twn.role = .active ∨ s.twn.role = .standby ∨ s.twn.role = .solo) :
    GaveUp reason s (s.verdict reason code fun s => s.withdraw reason code)
      ∧ FaultsStand s (s.verdict reason code fun s => s.withdraw reason code)
      ∧ bitAt ((s.verdict reason code fun s => s.withdraw reason code).reg Reg.THM_FAULT) FaultCause.verdict = true := by
  have hstands := State.verdict_stands h reason code (solo := fun s => s.withdraw reason code)
    fun u hu => State.withdraw_stands hu _ _
  have hnow : (s.guardEvent code).roleNow = s.twn.role := by
    have htwn : (s.guardEvent code).twn = s.twn := s.guardEvent_frame code .twn (by decide)
    unfold State.roleNow
    rw [htwn, hat]
    rfl
  -- whatever was sent, the pin is asserted and control given up
  have hend : ∀ u : State, SameBut [.regs, .porches, .free] (s.guardEvent code) u → RegsCanonical u →
      GaveUp reason s ((u.faultOn FaultCause.verdict true).giveUp reason)
        ∧ bitAt (((u.faultOn FaultCause.verdict true).giveUp reason).reg Reg.THM_FAULT) FaultCause.verdict = true := by
    intro u hu hc
    have hs : SameBut [.hrt, .pins, .att, .events, .regs, .porches, .free] s (u.faultOn FaultCause.verdict true) :=
      (State.faultOn_frame _ _ _).after (by decide) (hu.after (by decide) ((s.guardEvent_frame code).mono (by decide)))
    have hhrt : (u.faultOn FaultCause.verdict true).hrt = (s.guardEvent code).hrt :=
      (State.faultOn_frame _ _ _ .hrt (by decide)).trans (hu .hrt (by decide))
    refine ⟨State.giveUp_gaveUp (hs .twn (by decide)) (by rw [hhrt]; rfl) reason, ?_⟩
    rw [(State.giveUp_frame _ _).reg_eq (by decide)]
    exact State.faultOn_bit hc (by decide) true
  have hg := h.guardEvent code
  refine ⟨?_, hstands, ?_⟩ <;> (unfold State.verdict; dsimp only; rw [hnow])
  · rcases hrole with hr | hr | hr <;> rw [hr]
    · exact (hend _ (State.sendWithdraw_frame _ _ _) (hg.sendAll _ _ _)).1
    · exact (hend _ (State.guardState_frame _ _) (hg.sendAll _ _ _)).1
    · exact (hend _ (State.sendWithdraw_frame _ _ _) (hg.sendAll _ _ _)).1
  · rcases hrole with hr | hr | hr <;> rw [hr]
    · exact (hend _ (State.sendWithdraw_frame _ _ _) (hg.sendAll _ _ _)).2
    · exact (hend _ (State.guardState_frame _ _) (hg.sendAll _ _ _)).2
    · exact (hend _ (State.sendWithdraw_frame _ _ _) (hg.sendAll _ _ _)).2

theorem GaveUp.role {reason : Nat} {s t : State} (h : GaveUp reason s t) : t.twn.role = s.twn.role := by rw [h.twn]

theorem GaveUp.epoch {reason : Nat} {s t : State} (h : GaveUp reason s t) : t.twn.epoch = s.twn.epoch := by rw [h.twn]

theorem GaveUp.reason {reason : Nat} {s t : State} (h : GaveUp reason s t) : t.twn.withdrawAt = some reason := by rw [h.twn]

-- The trip

/-- The comparator of a running device. -/
theorem State.tripNow_effect {s : State} (h : RegsCanonical s) (d : Nat) (temp : Int) (hlatch : s.boot.tripLatch = false) :
    (s.tripNow d temp).boot = { s.boot with tripLatch := true, tripFrom := s.hrt.cycles } ∧ (s.tripNow d temp).thm.level = 3
      ∧ FaultAsserted 1 s (s.tripNow d temp) ∧ FaultAsserted 2 s (s.tripNow d temp) ∧ FaultAsserted 9 s (s.tripNow d temp) := by
  let u : State := { s with
    boot := { s.boot with tripLatch := true, tripFrom := s.hrt.cycles }, thm := { s.thm with level := 3 } }
  let v := u.fatal.recordThermal Sev.critical d 3 temp
  have htrip : s.tripNow d temp = (v.faultOn FaultCause.verdict true).faultOn FaultCause.trip true := if_neg (by simp [hlatch])
  have hu : FaultsStand s u := .of_same h rfl rfl
  have hfatal := hu.trans (State.fatal_stands hu.canonical)
  have hv : FaultsStand s v := hfatal.trans ((State.recordThermal_frame _ _ _ _ _).faultsStand hfatal.canonical (by decide) (by decide))
  have hverdict := hv.trans (State.faultOn_stands hv.canonical (c := FaultCause.verdict) (by decide) true)
  have hlast := State.faultOn_stands hverdict.canonical (c := FaultCause.trip) (by decide) true
  have hframe : SameBut [.hrt, .pins, .att, .regs, .events, .loops, .porches, .twn, .free] u (s.tripNow d temp) := by
    rw [htrip]
    exact (State.faultOn_frame _ _ _).after (by decide) ((State.faultOn_frame _ _ _).after (by decide)
      ((State.recordThermal_frame _ _ _ _ _).after (by decide) u.fatal_frame))
  have hthm : (s.tripNow d temp).thm = u.thm := hframe .thm (by decide)
  have hbit1 : bitAt (v.reg Reg.THM_FAULT) 1 = true := by
    have hverd := State.verdict_stands hu.canonical 6 GuardCode.fatal (solo := fun s => s.withdraw 6 GuardCode.fatal)
      fun u hu => State.withdraw_stands hu _ _
    exact State.faultOn_bit hverd.canonical (by decide) true
  refine ⟨hframe .boot (by decide), by rw [hthm], ?_⟩
  rw [htrip]
  have hall := hverdict.trans hlast
  exact ⟨hall.asserted (hlast.stands 1 ((State.faultOn_stands hv.canonical (by decide) true).stands 1 hbit1)),
    hall.asserted (hlast.stands 2 (State.faultOn_bit hv.canonical (by decide) true)),
    hall.asserted (State.faultOn_bit hverdict.canonical (by decide) true)⟩

/-- The stop of a tripped unit downs every porch. -/
theorem State.tripStop_effect {s : State} (hp : twf (fun _ => ({} : Porch)) s.porches = true) :
    s.tripStop.boot = { s.boot with stopped := true }
      ∧ (∀ p, p < 16 → (s.tripStop.porch p).state = .down ∧ (s.tripStop.porch p).squelch = 511 ∧ (s.tripStop.porch p).sent = [])
      ∧ s.tripStop.pins = { s.pins with hbOut := false } := by
  let u : State := { s with boot := { s.boot with stopped := true }, pins := { s.pins with hbOut := false } }
  let f : Nat → Porch → Porch := fun _ q =>
    { q with squelch := 511, state := .down, locked := 0, heard := false, openCell := {}, sent := [], next := [], up := false }
  have heach : s.tripStop = State.each (List.range 16) (fun p s => s.updPorch p (f p)) u := rfl
  rw [heach]
  refine ⟨?_, fun p hlt => ?_, ?_⟩
  · rw [State.each_updPorch]
  · rw [State.porch_each_updPorch (s := u) hp List.nodup_range f, if_pos (List.mem_range.2 hlt)]
    exact ⟨rfl, rfl, rfl⟩
  · rw [State.each_updPorch]

/-- Settles O16. -/
theorem tripAndStop : Obligations.TripAndStop := by
  refine ⟨fun s hregs hporches => ⟨fun d temp hstarted hlatch => ?_, fun d temp hlatch => ?_, fun hlatch hstopped hrun hlate => ?_,
    fun hlatch hstopped hdue => ?_⟩, fun s hregs hat hrole => ⟨?_, ?_⟩⟩
  · exact ⟨_, if_pos hstarted, State.tripNow_effect hregs d.val (signed 16 temp.toNat) hlatch⟩
  · change execTrip d temp s = _
    unfold execTrip State.tripNow
    rw [if_pos hlatch]
    split <;> rfl
  · exact if_neg (by simp [State.stopDue, hrun, Nat.not_le.2 hlate])
  · have hexec : exec .tripStop s = .next s.tripStop := if_pos (by simp [State.stopDue, hlatch, hstopped, hdue])
    obtain ⟨hboot, hdown, hpins⟩ := State.tripStop_effect hporches
    exact ⟨_, hexec, hboot, hdown, hpins, s.tripStop_frame.mono (by decide)⟩
  · obtain ⟨hgave, hstands, hbit⟩ := State.verdict_gaveUp hregs 6 GuardCode.fatal hat hrole
    have hlast := State.faultOn_stands hstands.canonical (c := FaultCause.fatal) (by decide) true
    have hgave' := hgave.faultOn FaultCause.fatal true
    have hall := hstands.trans hlast
    exact ⟨_, rfl, hgave'.reason, hall.asserted (State.faultOn_bit hstands.canonical (by decide) true),
      hall.asserted (hlast.stands _ hbit), hgave'.record, hgave'.role, hgave'.epoch⟩
  · obtain ⟨hgave, hstands, hbit⟩ := State.verdict_gaveUp hregs 3 GuardCode.verdict hat hrole
    exact ⟨_, rfl, hgave.reason, hstands.asserted hbit, hgave.record, hgave.role, hgave.epoch⟩

-- The governor

theorem bitAt_setBits_zero (w : Word) {i : Nat} (h : i < 64) : bitAt (setBits w i 1 0) i = false := by
  rw [bitAt_eq_testBit, testBit_setBits w 0 _ h, if_pos ⟨Nat.le_refl i, Nat.lt_succ_self i⟩]
  simp

/-- Clearing listed bits of a register clears those bits of it. -/
def State.clearBits (a : Nat) (cs : List Nat) (s : State) : State := cs.foldl (fun s c => s.setField a c 1 0) s

theorem State.bitAt_clearBits {s : State} (h : RegsCanonical s) (a : Nat) {cs : List Nat} (hcs : ∀ c ∈ cs, c < 64) (i : Nat) :
    bitAt ((s.clearBits a cs).reg a) i = (bitAt (s.reg a) i && !cs.contains i) := by
  induction cs generalizing s with
  | nil => simp [State.clearBits]
  | cons c cs ih =>
    have hc : c < 64 := hcs c (List.mem_cons_self ..)
    refine (ih (h.setField a c 1 0) fun d hd => hcs d (List.mem_cons_of_mem _ hd)).trans ?_
    rw [State.reg_setField_self h]
    by_cases hi : i = c
    · subst hi
      rw [bitAt_setBits_zero _ hc]
      simp
    · rw [bitAt_setBits_ne _ _ hc (by omega)]
      simp [hi]

theorem State.reg_clearBits_ne (s : State) {a b : Nat} (cs : List Nat) (hb : b ≠ a) : (s.clearBits a cs).reg b = s.reg b := by
  induction cs generalizing s with
  | nil => rfl
  | cons c cs ih => exact (ih _).trans (s.reg_setField_ne _ _ _ hb)

theorem State.clearBits_frame (s : State) (a : Nat) (cs : List Nat) : SameBut [.regs] s (s.clearBits a cs) :=
  SameBut.foldl (fun _ _ => State.setField_frame _ _ _ _ _) (.refl _ _) cs

theorem exec_faultClear {s : State} (hregs : RegsCanonical s) (mask : BitVec 13) :
    ∃ t, exec (.faultClear mask) s = .next t
      ∧ (∀ c, c < 13 → bitAt (t.reg Reg.THM_FAULT) c = (bitAt (s.reg Reg.THM_FAULT) c && !(mask.getLsbD c && !s.causeHolds c)))
      ∧ t.pins = { s.pins with faultN := decide (t.reg Reg.THM_FAULT = 0) }
      ∧ (∀ a, a ≠ Reg.THM_FAULT → t.reg a = s.reg a) := by
  let cs := (List.range 13).filter fun c => mask.getLsbD c && !s.causeHolds c
  have hpins : (s.clearBits Reg.THM_FAULT cs).pins = s.pins := s.clearBits_frame _ _ .pins (by decide)
  refine ⟨_, rfl, fun c hc => ?_, ?_, fun a ha => s.reg_clearBits_ne cs ha⟩
  · refine (State.bitAt_clearBits hregs Reg.THM_FAULT (cs := cs) (fun c hc => ?_) c).trans ?_
    · have := List.mem_range.1 (List.mem_filter.1 hc).1
      omega
    · have hmem : cs.contains c = (mask.getLsbD c && !s.causeHolds c) := by
        simp only [cs, List.contains_eq_mem, List.mem_filter, List.mem_range, hc, true_and, Bool.decide_eq_true]
      rw [hmem]
  · exact congrArg (fun x : Pins => { x with faultN := decide ((s.clearBits Reg.THM_FAULT cs).reg Reg.THM_FAULT = 0) }) hpins

/-- Settles O17. -/
theorem governorClears : Obligations.GovernorClears := by
  refine ⟨fun s hregs => ⟨fun hlevel hstep hcool => ?_, fun hstep => ?_, fun hstep hcool hcalm => ?_, fun mask => ?_⟩,
    fun s d hregs hdies => ⟨fun hup => ?_, fun hfailed => if_pos hfailed⟩⟩
  · exact congrArg Host.Outcome.next (if_pos ⟨hlevel, by simp [hstep], hcool⟩)
  · exact congrArg Host.Outcome.next (if_neg fun hguard => by simp [hstep] at hguard)
  · exact congrArg Host.Outcome.next (if_pos ⟨hstep, hcool, hcalm⟩)
  · obtain ⟨t, hexec, hbits, hpins, hreg⟩ := exec_faultClear hregs mask
    exact ⟨t, hexec, hbits, hpins, hreg, exec_frame _ _ _ hexec⟩
  · let u := ((s.updDie d fun x => { x with state := 1 }).loseDie d).raise Src.thm ThmEvt.supplyFail d
    have hframe : SameBut [.loops, .plan, .til, .events] (s.updDie d fun x => { x with state := 1 }) u :=
      (State.raise_frame _ _ _ _ _).after (by decide) ((State.loseDie_frame _ _).mono (by decide))
    have hend : SameBut [.loops, .plan, .til, .events, .pins, .att, .regs] (s.updDie d fun x => { x with state := 1 })
        (u.faultOn FaultCause.supply false) := (State.faultOn_frame _ _ _).after (by decide) (hframe.mono (by decide))
    have hthm : (u.faultOn FaultCause.supply false).thm = (s.updDie d fun x => { x with state := 1 }).thm := hend .thm (by decide)
    have hdie : ∀ e, (u.faultOn FaultCause.supply false).die e = (s.updDie d fun x => { x with state := 1 }).die e :=
      fun e => congrArg (fun x : Thm => tget (fun _ => ({} : Die)) x.dies e) hthm
    have hu : FaultsStand s u := SameBut.faultsStand (l := [.thm, .loops, .plan, .til, .events])
      (hframe.after (by decide) ((s.updDie_frame _ _).mono (by decide))) hregs (by decide) (by decide)
    have hcause := State.faultOn_stands hu.canonical (c := FaultCause.supply) (by decide) false
    refine ⟨_, if_neg hup, ?_, ?_, (hu.trans hcause).asserted (State.faultOn_bit hu.canonical (by decide) false), ?_, fun e he => ?_,
      hend .hrt (by decide)⟩
    · rw [hdie, State.die_updDie_self hdies]
    · rw [hdie, State.die_updDie_self hdies]
    · unfold State.faultOn
      split
      · exact List.mem_append_right _ (List.mem_singleton.2 rfl)
      · exact List.mem_append_left _ (List.mem_append_right _ (List.mem_singleton.2 rfl))
    · rw [hdie, State.die_updDie_ne _ _ he]

end Sys2Proof.Machine
end

-- Tiles give way and switch -------------------------------------------------------------------------------------------------------

section
/-! What giving way, a switch, a token and a request do to one tile, said once for the tile; the Guard slot then does it to every
tile in turn (R104, R109, R112 to R114, R127, R128). -/
namespace Sys2Proof.Machine

abbrev TilesCanonical (s : State) : Prop := twf (fun _ => ({} : Tile)) s.til.tiles = true

theorem State.tile_counted (s : State) (a lo n k t : Nat) : (s.count a lo n k).tile t = s.tile t := rfl

theorem State.job_counted (s : State) (a lo n k j : Nat) : (s.count a lo n k).job j = s.job j := rfl

-- Giving way

/-- The tile whose bulk context has given way. -/
def Tile.gaveWay (x : Tile) : Tile := { x with bulkOn := false, waiting := false, request := false }

theorem State.tiles_giveWay (s : State) (t : Nat) :
    (s.giveWay t).til.tiles = tupd (fun _ => {}) s.til.tiles t Tile.gaveWay := by
  unfold State.giveWay
  dsimp only
  split <;> rfl

theorem TilesCanonical.giveWay {s : State} (h : TilesCanonical s) (t : Nat) : TilesCanonical (s.giveWay t) := by
  unfold TilesCanonical
  rw [State.tiles_giveWay]
  exact twf_tupd h t _

theorem TilesCanonical.updTile {s : State} (h : TilesCanonical s) (t : Nat) (f : Tile → Tile) : TilesCanonical (s.updTile t f) :=
  twf_tupd h t f

theorem State.tile_giveWay_self {s : State} (h : TilesCanonical s) (t : Nat) : (s.giveWay t).tile t = (s.tile t).gaveWay := by
  unfold State.tile
  rw [State.tiles_giveWay]
  exact tget_tupd_self h t _

theorem State.tile_giveWay_ne (s : State) {t u : Nat} (h : u ≠ t) : (s.giveWay t).tile u = s.tile u := by
  unfold State.tile
  rw [State.tiles_giveWay]
  exact tget_tupd_ne _ _ h

/-- The job whose context gives way records the head of its queue 0. -/
theorem State.job_giveWay_running {s : State} (h : twf (fun _ => ({} : Job)) s.til.jobs = true) {t j : Nat}
    (hj : (s.tile t).running = some j) :
    (s.giveWay t).job j
      = { s.job j with copyProg := (s.tile t).bulk.headCopy.1, copyLen := (s.tile t).bulk.headCopy.2 } := by
  unfold State.giveWay
  dsimp only
  rw [hj]
  exact (State.job_updTile ..).trans (State.job_updJob_self h j _)

theorem State.job_giveWay_ne (s : State) {t j : Nat} (hj : (s.tile t).running ≠ some j) : (s.giveWay t).job j = s.job j := by
  unfold State.giveWay
  dsimp only
  split
  next i hi =>
    have hji : j ≠ i := fun h => hj (by rw [hi, h])
    exact (State.job_updTile ..).trans (s.job_updJob_ne _ hji)
  · rfl

-- A switch

/-- The tile whose outgoing bank has gone to its save area and that has the saved bank of job `j` on its bulk bank. -/
def Tile.swapped (x : Tile) (j : Nat) : Tile :=
  Tile.enter { x.stow with
    saved := tset (fun _ => ({} : Bank)) x.stow.saved j {}
    bulk := (tget (fun _ => ({} : Bank)) x.stow.saved j).resume
    running := some j }

/-- The tile whose bulk bank has been switched to the context of job `j`. -/
def Tile.switched (x : Tile) (j : Nat) : Tile :=
  if x.running = some j then Tile.enter { x with bulk := if x.bulkOn || x.waiting then x.bulk else x.bulk.resume }
  else x.swapped j

theorem Tile.stow_gaveWay (x : Tile) : x.gaveWay.stow = x.stow.gaveWay := by
  unfold Tile.stow
  cases hr : x.running <;> simp [Tile.gaveWay, hr]

theorem State.tile_switchTo_self {s : State} (h : TilesCanonical s) (t j : Nat) :
    (s.switchTo t j).tile t = (s.tile t).switched j := by
  unfold State.switchTo Tile.switched
  dsimp only
  by_cases hj : (s.tile t).running = some j
  · rw [if_pos hj, if_pos hj, State.tile_updTile_self h]
  · rw [if_neg hj, if_neg hj]
    split
    · rw [State.tile_updTile_self (h.giveWay t), State.tile_giveWay_self h, Tile.stow_gaveWay]
      rfl
    · rw [State.tile_updTile_self h]
      rfl

theorem State.tile_switchTo_ne (s : State) {t u : Nat} (j : Nat) (hu : u ≠ t) : (s.switchTo t j).tile u = s.tile u := by
  unfold State.switchTo
  dsimp only
  split
  · exact s.tile_updTile_ne _ hu
  · rw [State.tile_updTile_ne _ _ hu]
    split
    · exact s.tile_giveWay_ne hu
    · rfl

theorem Tile.switched_enters (x : Tile) (j : Nat) :
    (x.switched j).running = some j ∧ (x.switched j).bulkOn = (x.switched j).bulk.waitOn.isEmpty
      ∧ (x.switched j).waiting = !(x.switched j).bulk.waitOn.isEmpty ∧ (x.switched j).request = false
      ∧ (x.switched j).nextJob = none := by
  unfold Tile.switched
  split
  next hj => exact ⟨hj, rfl, rfl, rfl, rfl⟩
  · exact ⟨rfl, rfl, rfl, rfl, rfl⟩

theorem Tile.switched_bulk_of_same {x : Tile} {j : Nat} (h : x.running = some j) :
    (x.switched j).bulk = if x.bulkOn || x.waiting then x.bulk else x.bulk.resume :=
  congrArg Tile.bulk (if_pos h)

theorem Tile.switched_bulk_of_none {x : Tile} {j : Nat} (h : x.running = none) :
    (x.switched j).bulk = (tget (fun _ => ({} : Bank)) x.saved j).resume := by
  have hstow : x.stow = x := by simp [Tile.stow, h]
  simp [Tile.switched, Tile.swapped, Tile.enter, h, hstow]

/-- Another job's bank comes from its save area, and the outgoing bank goes to its own. -/
theorem Tile.switched_bulk_of_other {x : Tile} {i j : Nat} (h : x.running = some i) (hij : i ≠ j) :
    (x.switched j).bulk = (tget (fun _ => ({} : Bank)) x.saved j).resume
      ∧ (twf (fun _ => ({} : Bank)) x.saved = true → tget (fun _ => ({} : Bank)) (x.switched j).saved i = x.bulk) := by
  have hstow : x.stow = { x with saved := tset (fun _ => ({} : Bank)) x.saved i x.bulk, bulk := {}, running := none } := by
    simp [Tile.stow, h]
  have hsw : x.switched j = x.swapped j := if_neg (by simp [h, hij])
  rw [hsw]
  unfold Tile.swapped
  rw [hstow]
  refine ⟨?_, fun hwf => ?_⟩
  · exact congrArg Bank.resume (tget_tset_ne _ _ (Ne.symm hij))
  · exact (tget_tset_ne _ _ hij).trans (tget_tset_self hwf i _)

theorem Tile.stow_frame (x : Tile) : x.stow.frame = x.frame ∧ x.stow.fcDone = x.fcDone := by
  unfold Tile.stow
  split <;> exact ⟨rfl, rfl⟩

theorem Tile.switched_frame (x : Tile) (j : Nat) : (x.switched j).frame = x.frame ∧ (x.switched j).fcDone = x.fcDone := by
  unfold Tile.switched
  split
  · exact ⟨rfl, rfl⟩
  · exact x.stow_frame

-- One tile after another

/-- An operation on each of the listed indices in turn, each of which acts on its own entry alone, acts once on each listed entry. -/
theorem State.each_at {α : Type} {f : Nat → State → State} {get : State → Nat → α} {g : Nat → α → α} {P : State → Prop}
    (hP : ∀ i s, P s → P (f i s)) (hself : ∀ i s, P s → get (f i s) i = g i (get s i))
    (hne : ∀ i k s, P s → k ≠ i → get (f i s) k = get s k) {l : List Nat} (hl : l.Nodup) {s : State} (hs : P s) (k : Nat) :
    get (State.each l f s) k = if k ∈ l then g k (get s k) else get s k := by
  induction l generalizing s with
  | nil => simp [State.each]
  | cons i l ih =>
    obtain ⟨hi, hl⟩ := List.nodup_cons.1 hl
    refine (ih hl (hP i s hs)).trans ?_
    by_cases hk : k = i
    · subst hk
      simp [hi, hself _ s hs]
    · simp [hk, hne i k s hs hk]

theorem State.each_keeps {f : Nat → State → State} {P : State → Prop} (hP : ∀ i s, P s → P (f i s)) (l : List Nat) {s : State}
    (hs : P s) : P (State.each l f s) := by
  induction l generalizing s with
  | nil => exact hs
  | cons i l ih => exact ih (hP i s hs)

/-- What an operation establishes on one listed index, and every other keeps, holds in the end. -/
theorem State.each_establishes {α : Type} {f : Nat → State → State} {get : State → Nat → α} {P Q : State → Prop}
    (hP : ∀ i s, P s → P (f i s)) (hne : ∀ i k s, P s → k ≠ i → get (f i s) k = get s k) (hQ : ∀ i s, Q s → Q (f i s)) {k : Nat}
    {c : α → Prop} (hself : ∀ s, P s → c (get s k) → Q (f k s)) {l : List Nat} (hk : k ∈ l) {s : State} (hs : P s)
    (hc : c (get s k)) : Q (State.each l f s) := by
  induction l generalizing s with
  | nil => cases hk
  | cons i l ih =>
    by_cases hi : k = i
    · subst hi
      exact State.each_keeps hQ l (hself s hs hc)
    · refine ih ((List.mem_cons.1 hk).resolve_left hi) (hP i s hs) ?_
      rw [hne i k s hs hi]
      exact hc

-- Tokens

/-- The tile after its tokens of a frame have been looked at. -/
def Tile.token (x : Tile) (missing : Bool) : Tile :=
  if x.lost || x.lostNow then x
  else if missing then
    if 2 ≤ x.missed + 1 then { x with missed := x.missed + 1, lostNow := true, bulkOn := false, waiting := false, request := false }
    else { x with missed := x.missed + 1 }
  else { x with missed := 0 }

theorem State.tiles_loseTile (s : State) (t : Nat) (h : ((s.tile t).lost || (s.tile t).lostNow) = false) :
    (s.loseTile t).til.tiles
      = tupd (fun _ => {}) s.til.tiles t fun x => { x with lostNow := true, bulkOn := false, waiting := false, request := false } := by
  unfold State.loseTile
  rw [if_neg (by simp [h])]
  dsimp only
  split <;> rfl

theorem State.loseTile_of_lost (s : State) (t : Nat) (h : ((s.tile t).lost || (s.tile t).lostNow) = true) : s.loseTile t = s :=
  if_pos h

theorem TilesCanonical.loseTile {s : State} (h : TilesCanonical s) (t : Nat) : TilesCanonical (s.loseTile t) := by
  cases hlost : (s.tile t).lost || (s.tile t).lostNow with
  | true => rw [s.loseTile_of_lost t hlost]; exact h
  | false =>
    unfold TilesCanonical
    rw [s.tiles_loseTile t hlost]
    exact twf_tupd h t _

theorem State.tile_loseTile_ne (s : State) {t u : Nat} (hu : u ≠ t) : (s.loseTile t).tile u = s.tile u := by
  cases hlost : (s.tile t).lost || (s.tile t).lostNow with
  | true => rw [s.loseTile_of_lost t hlost]
  | false =>
    unfold State.tile
    rw [s.tiles_loseTile t hlost]
    exact tget_tupd_ne _ _ hu

theorem State.tile_loseTile_self {s : State} (hs : TilesCanonical s) (t : Nat)
    (h : ((s.tile t).lost || (s.tile t).lostNow) = false) :
    (s.loseTile t).tile t = { s.tile t with lostNow := true, bulkOn := false, waiting := false, request := false } := by
  unfold State.tile
  rw [s.tiles_loseTile t h]
  exact tget_tupd_self hs t _

theorem TilesCanonical.tokenTile {s : State} (h : TilesCanonical s) (missed : List Nat) (t : Nat) :
    TilesCanonical (s.tokenTile missed t) := by
  unfold State.tokenTile
  dsimp only
  split
  · exact h
  split
  · split
    · exact (h.updTile t _).loseTile t
    · exact h.updTile t _
  split
  · exact h
  · exact h.updTile t _

theorem State.tile_tokenTile_self {s : State} (h : TilesCanonical s) (missed : List Nat) (t : Nat) :
    (s.tokenTile missed t).tile t = (s.tile t).token (missed.contains t) := by
  unfold State.tokenTile Tile.token
  dsimp only
  split
  · rfl
  next hlost =>
    have hup : (((s.updTile t fun x => { x with missed := x.missed + 1 }).tile t).lost
        || ((s.updTile t fun x => { x with missed := x.missed + 1 }).tile t).lostNow) = false := by
      rw [State.tile_updTile_self h]
      simpa using hlost
    split
    · split
      · rw [State.tile_loseTile_self (h.updTile t _) t hup, State.tile_updTile_self h]
      · rw [State.tile_updTile_self h]
    split
    next hzero => rw [← hzero]
    · rw [State.tile_updTile_self h]

theorem State.tile_tokenTile_ne (s : State) (missed : List Nat) {t u : Nat} (hu : u ≠ t) :
    (s.tokenTile missed t).tile u = s.tile u := by
  unfold State.tokenTile
  dsimp only
  split
  · rfl
  split
  · split
    · rw [State.tile_loseTile_ne _ hu, State.tile_updTile_ne _ _ hu]
    · exact s.tile_updTile_ne _ hu
  split
  · rfl
  · exact s.tile_updTile_ne _ hu

/-- A second miss in a row makes the device choose its placement anew. -/
theorem State.tokenTile_selects {s : State} (h : TilesCanonical s) {missed : List Nat} {t : Nat} (hm : missed.contains t = true)
    (hup : (s.tile t).lost = false ∧ (s.tile t).lostNow = false ∧ 0 < (s.tile t).missed) :
    (s.tokenTile missed t).plan.selectNow = true := by
  obtain ⟨hlost, hnow, hmissed⟩ := hup
  unfold State.tokenTile
  dsimp only
  rw [if_neg (by simp [hlost, hnow]), if_pos hm, if_pos (by omega)]
  unfold State.loseTile
  rw [State.tile_updTile_self h, if_neg (by simp [hlost, hnow])]
  dsimp only
  split <;> rfl

/-- Losing a tile touches nothing of the plan but the choice of a placement that comes of it. -/
structure PlacementStands (s t : State) : Prop where
  hrt   : t.hrt = s.hrt
  plan  : ∃ now till, t.plan = { s.plan with selectNow := now, excuseTo := till }
  holds : s.plan.selectNow = true → t.plan.selectNow = true

theorem PlacementStands.refl (s : State) : PlacementStands s s := ⟨rfl, ⟨_, _, rfl⟩, id⟩

theorem PlacementStands.trans {s t u : State} (h : PlacementStands s t) (k : PlacementStands t u) : PlacementStands s u := by
  obtain ⟨a, b, hp⟩ := h.plan
  obtain ⟨c, d, kp⟩ := k.plan
  exact ⟨k.hrt.trans h.hrt, ⟨c, d, by rw [kp, hp]⟩, fun hs => k.holds (h.holds hs)⟩

theorem PlacementStands.nextPlacement {s t : State} (h : PlacementStands s t) : t.nextPlacement = s.nextPlacement := by
  obtain ⟨now, till, hp⟩ := h.plan
  unfold State.nextPlacement State.placement State.nextTick
  rw [hp, h.hrt]

theorem State.loseTile_placementStands (s : State) (t : Nat) : PlacementStands s (s.loseTile t) := by
  unfold State.loseTile
  dsimp only
  split
  · exact .refl s
  split
  · exact ⟨rfl, ⟨_, _, rfl⟩, fun _ => rfl⟩
  · exact ⟨rfl, ⟨_, s.plan.excuseTo, rfl⟩, fun _ => rfl⟩

theorem State.updTile_placementStands (s : State) (t : Nat) (f : Tile → Tile) : PlacementStands s (s.updTile t f) :=
  ⟨rfl, ⟨_, _, rfl⟩, id⟩

theorem State.tokenTile_placementStands (s : State) (missed : List Nat) (t : Nat) : PlacementStands s (s.tokenTile missed t) := by
  unfold State.tokenTile
  dsimp only
  split
  · exact .refl s
  split
  · split
    · exact (s.updTile_placementStands _ _).trans (State.loseTile_placementStands _ _)
    · exact s.updTile_placementStands _ _
  split
  · exact .refl s
  · exact s.updTile_placementStands _ _

-- Requests

/-- The tile that the runtime has asked to give way. -/
def Tile.requested (x : Tile) : Tile :=
  if x.waiting then x.gaveWay else if x.bulkOn then { x with request := true } else x

theorem TilesCanonical.requestTile {s : State} (h : TilesCanonical s) (t : Nat) : TilesCanonical (s.requestTile t) := by
  unfold State.requestTile
  split
  · exact h.giveWay t
  · exact h.updTile t _

theorem State.tile_requestTile_self {s : State} (h : TilesCanonical s) (t : Nat) :
    (s.requestTile t).tile t = (s.tile t).requested := by
  unfold State.requestTile Tile.requested
  split
  · exact State.tile_giveWay_self h t
  · exact State.tile_updTile_self h t _

theorem State.tile_requestTile_ne (s : State) {t u : Nat} (hu : u ≠ t) : (s.requestTile t).tile u = s.tile u := by
  unfold State.requestTile
  split
  · exact s.tile_giveWay_ne hu
  · exact s.tile_updTile_ne _ hu

-- The Guard slot

/-- The state after every tile's token has been looked at. -/
def State.tokensSeen (s : State) (missed : List (BitVec 7)) : State :=
  s.each (List.range 128) fun t s => s.tokenTile (missed.map BitVec.toNat) t

theorem TilesCanonical.tokensSeen {s : State} (h : TilesCanonical s) (missed : List (BitVec 7)) :
    TilesCanonical (s.tokensSeen missed) := by
  unfold State.tokensSeen
  generalize List.range 128 = l
  exact State.each_keeps (P := TilesCanonical) (fun t _ hs => hs.tokenTile _ t) l h

theorem contains_map_toNat (missed : List (BitVec 7)) (n : BitVec 7) :
    (missed.map BitVec.toNat).contains n.toNat = missed.contains n := by
  rw [Bool.eq_iff_iff]
  simp [BitVec.toNat_inj]

theorem State.tile_tokensSeen {s : State} (h : TilesCanonical s) (missed : List (BitVec 7)) (n : BitVec 7) :
    (s.tokensSeen missed).tile n.toNat = (s.tile n.toNat).token (missed.contains n) := by
  refine (State.each_at (P := TilesCanonical) (get := State.tile) (fun t _ hs => hs.tokenTile _ t)
    (g := fun t x => x.token ((missed.map BitVec.toNat).contains t)) (fun t u hu => State.tile_tokenTile_self hu _ t)
    (fun t u v _ hu => v.tile_tokenTile_ne _ hu) List.nodup_range h n.toNat).trans ?_
  rw [if_pos (List.mem_range.2 n.isLt), contains_map_toNat]

theorem State.tokensSeen_placementStands (s : State) (missed : List (BitVec 7)) : PlacementStands s (s.tokensSeen missed) := by
  unfold State.tokensSeen
  generalize List.range 128 = l
  exact State.each_keeps (P := PlacementStands s) (fun t u hu => hu.trans (u.tokenTile_placementStands _ t)) l (.refl s)

theorem State.tokensSeen_selects {s : State} (h : TilesCanonical s) {missed : List (BitVec 7)} {n : BitVec 7} (hn : n ∈ missed)
    (hup : (s.tile n.toNat).lost = false ∧ (s.tile n.toNat).lostNow = false ∧ 0 < (s.tile n.toNat).missed) :
    (s.tokensSeen missed).plan.selectNow = true := by
  have hmem : n.toNat ∈ List.range 128 := List.mem_range.2 n.isLt
  unfold State.tokensSeen
  revert hmem
  generalize List.range 128 = l
  intro hmem
  refine State.each_establishes (P := TilesCanonical) (Q := fun s => s.plan.selectNow = true) (get := State.tile)
    (c := fun x => x.lost = false ∧ x.lostNow = false ∧ 0 < x.missed) (k := n.toNat)
    (fun t _ hs => hs.tokenTile _ t) (fun t u v _ hu => v.tile_tokenTile_ne _ hu)
    (fun t u hu => (u.tokenTile_placementStands _ t).holds hu) (fun u hu hc => State.tokenTile_selects hu ?_ hc)
    hmem h hup
  rw [contains_map_toNat]
  simpa using hn

/-- The state at the start of the Guard slot of a running Hearth. -/
def State.guardSlot (s : State) (missed : List (BitVec 7)) : State :=
  (s.tokensSeen missed).each (s.tokensSeen missed).guardRequests fun t s => s.requestTile t

theorem State.tile_guardSlot {s : State} (h : TilesCanonical s) (missed : List (BitVec 7)) (n : BitVec 7) :
    (s.guardSlot missed).tile n.toNat
      = if n.toNat ∈ (s.tokensSeen missed).guardRequests then ((s.tile n.toNat).token (missed.contains n)).requested
        else (s.tile n.toNat).token (missed.contains n) := by
  rw [← State.tile_tokensSeen h]
  exact State.each_at (P := TilesCanonical) (get := State.tile) (fun t _ hs => hs.requestTile t)
    (g := fun _ x => x.requested) (fun t u hu => State.tile_requestTile_self hu t)
    (fun t u v _ hu => v.tile_requestTile_ne hu) (List.Nodup.sublist List.filter_sublist List.nodup_range) (h.tokensSeen missed) n.toNat

theorem State.guardSlot_plan (s : State) (missed : List (BitVec 7)) : (s.guardSlot missed).plan = (s.tokensSeen missed).plan :=
  State.each_frame (m := [.til]) _ _ _ (fun t u => u.requestTile_frame t) .plan (by decide)

/-- A tile with frame-critical work in the next frame gets a request; its own token changes nothing of that. -/
theorem State.mem_guardRequests {s : State} (h : TilesCanonical s) {missed : List (BitVec 7)} {n : BitVec 7}
    (hs : s.senseNext n.toNat = true) : n.toNat ∈ (s.tokensSeen missed).guardRequests := by
  refine List.mem_filter.2 ⟨List.mem_range.2 n.isLt, ?_⟩
  have hsense : (s.tokensSeen missed).senseNext n.toNat = s.senseNext n.toNat := by
    have hx : ((s.tile n.toNat).token (missed.contains n)).sense = (s.tile n.toNat).sense := by
      unfold Tile.token Tile.sense
      split
      · rfl
      split
      · split <;> rfl
      · rfl
    unfold State.senseNext
    rw [(s.tokensSeen_placementStands missed).nextPlacement, State.tile_tokensSeen h, hx]
  rw [hsense, hs]
  rfl

theorem Tile.requested_missed (x : Tile) : x.requested.missed = x.missed ∧ x.requested.lostNow = x.lostNow := by
  unfold Tile.requested
  split
  · exact ⟨rfl, rfl⟩
  · split <;> exact ⟨rfl, rfl⟩

theorem State.guardSlot_missed {s : State} (h : TilesCanonical s) (missed : List (BitVec 7)) (n : BitVec 7) :
    ((s.guardSlot missed).tile n.toNat).missed = ((s.tile n.toNat).token (missed.contains n)).missed
      ∧ ((s.guardSlot missed).tile n.toNat).lostNow = ((s.tile n.toNat).token (missed.contains n)).lostNow := by
  rw [State.tile_guardSlot h]
  split
  · exact Tile.requested_missed _
  · exact ⟨rfl, rfl⟩

theorem Tile.token_first {x : Tile} (hlost : x.lost = false) (hnow : x.lostNow = false) (hm : x.missed = 0) :
    x.token true = { x with missed := 1 } := by
  simp [Tile.token, hlost, hnow, hm]

theorem Tile.token_second {x : Tile} (hlost : x.lost = false) (hnow : x.lostNow = false) (hm : 0 < x.missed) :
    (x.token true).lostNow = true := by
  have h2 : 2 ≤ x.missed + 1 := by omega
  simp [Tile.token, hlost, hnow, h2]

theorem Tile.token_seen {x : Tile} (hlost : x.lost = false) (hnow : x.lostNow = false) : x.token false = { x with missed := 0 } := by
  simp [Tile.token, hlost, hnow]

-- The rows

theorem exec_yieldPoint {s : State} {n : BitVec 7} (hreq : (s.tile n.toNat).request = true)
    (hon : (s.tile n.toNat).bulkOn = true) : exec (.yieldPoint n) s = .next ((s.giveWay n.toNat).count Reg.TIL_PREEMPT 0 32 1) :=
  if_pos (by simp [hreq, hon])

theorem RegsCanonical.giveWay {s : State} (h : RegsCanonical s) (t : Nat) : RegsCanonical (s.giveWay t) := by
  have hregs : (s.giveWay t).regs = s.regs := s.giveWay_frame t .regs (by decide)
  unfold RegsCanonical
  rw [hregs]
  exact h

theorem RegsCanonical.updTile {s : State} (h : RegsCanonical s) (t : Nat) (f : Tile → Tile) : RegsCanonical (s.updTile t f) := h

/-- The state in which a program has been forced to give way at `pc`. -/
def State.forced (s : State) (t pc : Nat) : State :=
  ((s.giveWay t).updTile t fun x => { x with bulk := { x.bulk with pc := pc } }).count Reg.TIL_PREEMPT 32 32 1

theorem State.forced_cfg (s : State) (t pc a : Nat) : (s.forced t pc).cfgReg a = s.cfgReg a := by
  have hlive : (s.forced t pc).live = s.live := s.giveWay_frame t .live (by decide)
  unfold State.cfgReg
  rw [hlive]

theorem exec_forcedPreemption_traced {s : State} {n : BitVec 7} (pc : BitVec 48) (hreq : (s.tile n.toNat).request = true)
    (hon : (s.tile n.toNat).bulkOn = true) (ht : bitAt (s.cfgReg Reg.TIL_CTL) 1 = true) :
    exec (.forcedPreemption n pc) s = .next ((s.forced n.toNat pc.toNat).record 0x0006 Sev.info 2
      [BitVec.ofNat 8 n.toNat, BitVec.ofNat 8 ((s.tile n.toNat).running.getD 0)]) := by
  rw [← s.forced_cfg n.toNat pc.toNat] at ht
  refine (if_pos (by simp [hreq, hon])).trans (congrArg Host.Outcome.next ?_)
  exact if_pos ht

theorem exec_forcedPreemption_untraced {s : State} {n : BitVec 7} (pc : BitVec 48) (hreq : (s.tile n.toNat).request = true)
    (hon : (s.tile n.toNat).bulkOn = true) (ht : bitAt (s.cfgReg Reg.TIL_CTL) 1 = false) :
    exec (.forcedPreemption n pc) s = .next (s.forced n.toNat pc.toNat) := by
  rw [← s.forced_cfg n.toNat pc.toNat] at ht
  refine (if_pos (by simp [hreq, hon])).trans (congrArg Host.Outcome.next ?_)
  exact if_neg fun hf => absurd (ht.symm.trans hf) (by decide)

theorem State.tile_forced_self {s : State} (h : TilesCanonical s) (t pc : Nat) :
    (s.forced t pc).tile t = { (s.tile t).gaveWay with bulk := { (s.tile t).bulk with pc := pc } } := by
  unfold State.forced
  rw [State.tile_counted, State.tile_updTile_self (h.giveWay t), State.tile_giveWay_self h]
  rfl

theorem State.tile_forced_ne (s : State) {t u : Nat} (pc : Nat) (hu : u ≠ t) : (s.forced t pc).tile u = s.tile u := by
  unfold State.forced
  rw [State.tile_counted, State.tile_updTile_ne _ _ hu, State.tile_giveWay_ne _ hu]

theorem State.reg_forced_ne (s : State) (t pc : Nat) {a : Nat} (ha : a ≠ Reg.TIL_PREEMPT) : (s.forced t pc).reg a = s.reg a := by
  unfold State.forced
  rw [State.reg_count_ne _ _ _ _ ha, State.reg_updTile, (s.giveWay_frame t).reg_eq (by decide)]

theorem State.forced_counts {s : State} (h : RegsCanonical s) (t pc : Nat) :
    (s.forced t pc).field Reg.TIL_PREEMPT 32 32 = min (2 ^ 32 - 1) (s.field Reg.TIL_PREEMPT 32 32 + 1) := by
  unfold State.forced
  rw [State.field_count_self ((h.giveWay t).updTile t _) _ _ (by decide)]
  unfold State.field
  rw [State.reg_updTile, (s.giveWay_frame t).reg_eq (by decide)]

theorem State.forced_frame (s : State) (t pc : Nat) : SameBut [.til, .regs] s (s.forced t pc) :=
  (State.count_frame _ _ _ _ _).after (by decide) ((State.updTile_frame _ _ _).after (by decide)
    ((s.giveWay_frame t).mono (by decide)))

theorem exec_frameProgramEnd {s : State} {n : BitVec 7} (hsense : (s.tile n.toNat).sense = true) (hin : s.tileIn n.toNat = true)
    (hdone : (s.tile n.toNat).fcDone = false) (hwait : (s.tile n.toNat).frame.waitOn = []) :
    exec (.frameProgramEnd n) s
      = (match (s.tile n.toNat).nextJob with
        | some j => Host.Outcome.next (if (s.updTile n.toNat fun x => { x with fcDone := true }).mayRun n.toNat j then
            (s.updTile n.toNat fun x => { x with fcDone := true }).switchTo n.toNat j
          else s.updTile n.toNat fun x => { x with fcDone := true })
        | none => .next (s.updTile n.toNat fun x => { x with fcDone := true })) :=
  if_pos (by simp [hsense, hin, hdone, hwait])

/-- The end of the last frame-critical program runs the job that waited for it. -/
theorem exec_frameProgramEnd_effect {s : State} {n : BitVec 7} (h : Canonical s) (hsense : (s.tile n.toNat).sense = true)
    (hin : s.tileIn n.toNat = true) (hdone : (s.tile n.toNat).fcDone = false) (hwait : (s.tile n.toNat).frame.waitOn = []) :
    ∃ t, exec (.frameProgramEnd n) s = .next t ∧ (t.tile n.toNat).fcDone = true
      ∧ (∀ j, (s.tile n.toNat).nextJob = some j → s.mayRun n.toNat j = true → (t.tile n.toNat).running = some j
          ∧ (t.tile n.toNat).bulkOn = (t.tile n.toNat).bulk.waitOn.isEmpty)
      ∧ ((s.tile n.toNat).nextJob = none → t.tile n.toNat = { s.tile n.toNat with fcDone := true })
      ∧ (∀ u, u ≠ n.toNat → t.tile u = s.tile u) := by
  let v := s.updTile n.toNat fun x => { x with fcDone := true }
  have hv : TilesCanonical v := TilesCanonical.updTile h.tiles _ _
  have hself : v.tile n.toNat = { s.tile n.toNat with fcDone := true } := State.tile_updTile_self h.tiles _ _
  have hne : ∀ u, u ≠ n.toNat → v.tile u = s.tile u := fun u hu => s.tile_updTile_ne _ hu
  have hmay : ∀ j, v.mayRun n.toNat j = s.mayRun n.toNat j := by
    intro j
    unfold State.mayRun
    rw [hself]
    rfl
  have hexec := exec_frameProgramEnd hsense hin hdone hwait
  cases hnext : (s.tile n.toNat).nextJob with
  | none =>
    rw [hnext] at hexec
    exact ⟨v, hexec, by rw [hself], fun j hj => absurd hj (by simp), fun _ => hself, hne⟩
  | some j =>
    rw [hnext] at hexec
    dsimp only at hexec
    cases hrun : s.mayRun n.toNat j with
    | false =>
      rw [hmay, hrun] at hexec
      refine ⟨v, hexec, by rw [hself], fun i hi hi' => ?_, fun hi => absurd hi (by simp), hne⟩
      rw [← Option.some.inj hi, hrun] at hi'
      exact absurd hi' (by decide)
    | true =>
      rw [hmay, hrun] at hexec
      have hsw := State.tile_switchTo_self hv n.toNat j
      obtain ⟨hrunning, hon, -⟩ := (v.tile n.toNat).switched_enters j
      refine ⟨v.switchTo n.toNat j, hexec, ?_, fun i hi _ => ?_, fun hi => absurd hi (by simp), fun u hu => ?_⟩
      · rw [hsw, (Tile.switched_frame _ _).2, hself]
      · rw [hsw, ← Option.some.inj hi]
        exact ⟨hrunning, hon⟩
      · rw [State.tile_switchTo_ne _ _ hu, hne u hu]

/-- Settles O18. -/
theorem tilesGiveWay : Obligations.TilesGiveWay := by
  refine ⟨fun s n hcan => ⟨fun hreq hon => ?_, fun pc hreq hon => ?_, fun j hin hmay hsense => ?_, fun j hsense hdone => ?_,
    fun hwait => ?_, fun hsense hin hdone hwait => ?_⟩, fun s missed hcan hrun => ?_⟩
  · have hexec := exec_yieldPoint hreq hon
    have hself := State.tile_giveWay_self hcan.tiles n.toNat
    refine ⟨_, hexec, ?_, ?_, ?_, fun u hu => ?_, fun j hj => ?_, fun j hj => ?_, ?_, fun a ha => ?_,
      (exec_frame _ _ _ hexec).mono (by simp [touches])⟩
    · rw [State.tile_counted, hself]; rfl
    · rw [State.tile_counted, hself]; rfl
    · rw [State.tile_counted, hself]; rfl
    · rw [State.tile_counted, State.tile_giveWay_ne _ hu]
    · rw [State.job_counted, State.job_giveWay_ne _ hj]
    · rw [State.job_counted, State.job_giveWay_running hcan.jobs hj]
    · rw [State.field_count_self ((RegsCanonical.giveWay hcan.regs n.toNat)) _ _ (by decide)]
      unfold State.field
      rw [(s.giveWay_frame n.toNat).reg_eq (by decide)]
    · rw [State.reg_count_ne _ _ _ _ ha, (s.giveWay_frame n.toNat).reg_eq (by decide)]
  · have hself := State.tile_forced_self hcan.tiles n.toNat pc.toNat
    cases ht : bitAt (s.cfgReg Reg.TIL_CTL) 1 with
    | true =>
      have hexec := exec_forcedPreemption_traced pc hreq hon ht
      refine ⟨_, hexec, ?_, ?_, ?_, fun u hu => s.tile_forced_ne pc.toNat hu, State.forced_counts hcan.regs _ _,
        fun _ => List.mem_append_right _ (List.mem_singleton.2 rfl), fun hf => absurd hf (by decide),
        fun a ha => s.reg_forced_ne _ _ ha, (exec_frame _ _ _ hexec).mono (by simp [touches])⟩
      all_goals simp [hself, Tile.gaveWay]
    | false =>
      have hexec := exec_forcedPreemption_untraced pc hreq hon ht
      refine ⟨_, hexec, ?_, ?_, ?_, fun u hu => s.tile_forced_ne pc.toNat hu, State.forced_counts hcan.regs _ _,
        fun hf => absurd hf (by decide), fun _ => s.forced_frame _ _ .att (by decide),
        fun a ha => s.reg_forced_ne _ _ ha, (exec_frame _ _ _ hexec).mono (by simp [touches])⟩
      all_goals simp [hself, Tile.gaveWay]
  · have hexec : exec (.contextSwitch n j) s = .next (s.switchTo n.toNat j.toNat) := if_pos (by simpa [hin, hmay] using hsense)
    obtain ⟨hrunning, hon, hwaiting, hreq, hnext⟩ := (s.tile n.toNat).switched_enters j.toNat
    refine ⟨_, hexec, ?_⟩
    rw [State.tile_switchTo_self hcan.tiles]
    exact ⟨hrunning, hon, hwaiting, hreq, hnext, Tile.switched_bulk_of_none, fun i hi hij => Tile.switched_bulk_of_other hi hij,
      Tile.switched_bulk_of_same, (Tile.switched_frame _ _).1, fun u hu => s.tile_switchTo_ne _ hu, exec_frame _ _ _ hexec⟩
  · exact if_neg (by simp [hsense, hdone])
  · exact if_neg (by simp [hwait])
  · obtain ⟨t, hexec, hdone', hjob, hnone, hne⟩ := exec_frameProgramEnd_effect hcan hsense hin hdone hwait
    exact ⟨t, hexec, hdone', hjob, hnone, hne, exec_frame _ _ _ hexec⟩
  · have hexec : exec (.guardSlotStart missed) s = .next (s.guardSlot missed) := if_pos hrun
    have hframe := exec_frame _ _ _ hexec
    refine ⟨_, hexec, hframe .hrt (by simp [touches]), hframe.mono (by simp [touches]), fun n hlost hnow => ⟨fun hn hm => ?_,
      fun hn hm => ?_, fun hn => ?_⟩⟩
    · obtain ⟨hmissed, hlostNow⟩ := State.guardSlot_missed hcan.tiles missed n
      rw [hmissed, hlostNow, List.contains_eq_mem, decide_eq_true hn, Tile.token_first hlost hnow hm]
      exact ⟨rfl, hnow⟩
    · obtain ⟨-, hlostNow⟩ := State.guardSlot_missed hcan.tiles missed n
      rw [hlostNow, List.contains_eq_mem, decide_eq_true hn, State.guardSlot_plan]
      exact ⟨Tile.token_second hlost hnow hm, State.tokensSeen_selects hcan.tiles hn ⟨hlost, hnow, hm⟩⟩
    · obtain ⟨hmissed, hlostNow⟩ := State.guardSlot_missed hcan.tiles missed n
      have hmem : missed.contains n = false := by simpa using hn
      rw [hmem, Tile.token_seen hlost hnow] at hmissed hlostNow
      refine ⟨hmissed, hlostNow.trans hnow, fun hs hon hw => ?_, fun hs hw => ?_⟩
      · rw [State.tile_guardSlot hcan.tiles, if_pos (State.mem_guardRequests hcan.tiles hs), hmem, Tile.token_seen hlost hnow]
        simp [Tile.requested, hw, hon]
      · rw [State.tile_guardSlot hcan.tiles, if_pos (State.mem_guardRequests hcan.tiles hs), hmem, Tile.token_seen hlost hnow]
        simp [Tile.requested, hw, Tile.gaveWay]

end Sys2Proof.Machine
end

-- Lost tiles and dies, and the placement that follows ------------------------------------------------------------------------------

section
/-! What loses tiles and dies (R94, R97, R100, R101), and the placement that follows (R88, R89, R129, R160). Requests and endings touch
a tile or a job in a few fields only: `TilesKeep` and `JobsKeep` say of an operation which part of every entry it leaves. -/
namespace Sys2Proof.Machine

abbrev JobsCanonical (s : State) : Prop := twf (fun _ => ({} : Job)) s.til.jobs = true

theorem JobsCanonical.updJob {s : State} (h : JobsCanonical s) (j : Nat) (f : Job → Job) : JobsCanonical (s.updJob j f) :=
  twf_tupd h j f

/-- The tiles stay canonical, and each keeps its part `part`. -/
structure TilesKeep {α : Type} (part : Tile → α) (s t : State) : Prop where
  canonical : TilesCanonical t
  keeps     : ∀ u, part (t.tile u) = part (s.tile u)

theorem TilesKeep.refl {α : Type} {part : Tile → α} {s : State} (h : TilesCanonical s) : TilesKeep part s s := ⟨h, fun _ => rfl⟩

theorem TilesKeep.trans {α : Type} {part : Tile → α} {s t u : State} (h : TilesKeep part s t) (k : TilesKeep part t u) :
    TilesKeep part s u := ⟨k.canonical, fun i => (k.keeps i).trans (h.keeps i)⟩

theorem TilesKeep.of_tiles {α : Type} {part : Tile → α} {s t : State} (h : TilesCanonical s) (ht : t.til.tiles = s.til.tiles) :
    TilesKeep part s t :=
  ⟨by unfold TilesCanonical; rw [ht]; exact h, fun u => by unfold State.tile; rw [ht]⟩

theorem State.updTile_keeps {α : Type} {part : Tile → α} {s : State} (h : TilesCanonical s) (t : Nat) {f : Tile → Tile}
    (hf : part (f (s.tile t)) = part (s.tile t)) : TilesKeep part s (s.updTile t f) := by
  refine ⟨h.updTile t f, fun u => ?_⟩
  by_cases hu : u = t
  · subst hu
    rw [State.tile_updTile_self h, hf]
  · rw [State.tile_updTile_ne _ _ hu]

theorem TilesKeep.foldl {α β : Type} {part : Tile → α} {f : State → β → State}
    (hf : ∀ s b, TilesCanonical s → TilesKeep part s (f s b)) (l : List β) {s : State} (h : TilesCanonical s) :
    TilesKeep part s (l.foldl f s) := by
  induction l generalizing s with
  | nil => exact .refl h
  | cons b l ih => exact (hf s b h).trans (ih (hf s b h).canonical)

/-- The jobs stay canonical, and each keeps its part `part`. -/
structure JobsKeep {α : Type} (part : Nat → Job → α) (s t : State) : Prop where
  canonical : JobsCanonical t
  keeps     : ∀ j, part j (t.job j) = part j (s.job j)

theorem JobsKeep.refl {α : Type} {part : Nat → Job → α} {s : State} (h : JobsCanonical s) : JobsKeep part s s := ⟨h, fun _ => rfl⟩

theorem JobsKeep.trans {α : Type} {part : Nat → Job → α} {s t u : State} (h : JobsKeep part s t) (k : JobsKeep part t u) :
    JobsKeep part s u := ⟨k.canonical, fun j => (k.keeps j).trans (h.keeps j)⟩

theorem JobsKeep.of_jobs {α : Type} {part : Nat → Job → α} {s t : State} (h : JobsCanonical s) (ht : t.til.jobs = s.til.jobs) :
    JobsKeep part s t :=
  ⟨by unfold JobsCanonical; rw [ht]; exact h, fun j => by unfold State.job; rw [ht]⟩

theorem State.updJob_keeps {α : Type} {part : Nat → Job → α} {s : State} (h : JobsCanonical s) (j : Nat) {f : Job → Job}
    (hf : part j (f (s.job j)) = part j (s.job j)) : JobsKeep part s (s.updJob j f) := by
  refine ⟨twf_tupd h j f, fun i => ?_⟩
  by_cases hi : i = j
  · subst hi
    rw [State.job_updJob_self h, hf]
  · rw [State.job_updJob_ne _ _ hi]

-- Endings and requests

theorem State.tiles_endAt (s : State) (r j : Nat) : (s.endAt r j).til.tiles = s.til.tiles := by
  unfold State.endAt
  dsimp only
  split <;> rfl

theorem JobsCanonical.endAt {s : State} (h : JobsCanonical s) (r j : Nat) : JobsCanonical (s.endAt r j) := by
  unfold State.endAt
  dsimp only
  split
  · exact h
  · exact h.updJob _ _

theorem State.job_endAt_ne (s : State) (r : Nat) {i j : Nat} (hi : i ≠ j) : (s.endAt r j).job i = s.job i := by
  unfold State.endAt
  dsimp only
  split
  · rfl
  · exact s.job_updJob_ne _ hi

/-- A job that lives is to end for the reason. -/
theorem State.job_endAt_self {s : State} (h : JobsCanonical s) (r j : Nat)
    (hj : ¬((s.job j).state = .none ∨ (s.job j).state = .ended)) :
    (s.endAt r j).job j
      = { s.job j with ending := if (s.job j).ending.contains r then (s.job j).ending else (s.job j).ending ++ [r] } := by
  unfold State.endAt
  rw [if_neg hj]
  exact State.job_updJob_self h j _

theorem State.endAt_ending {s : State} (h : JobsCanonical s) (r j : Nat)
    (hj : ¬((s.job j).state = .none ∨ (s.job j).state = .ended)) : r ∈ ((s.endAt r j).job j).ending := by
  rw [State.job_endAt_self h r j hj]
  dsimp only
  split
  next hr => simpa using hr
  · simp

theorem Tile.requested_gaveWay (x : Tile) : x.requested.gaveWay = x.gaveWay := by
  unfold Tile.requested
  split
  · rfl
  · split <;> rfl

theorem State.requestTile_keeps {s : State} (h : TilesCanonical s) (t : Nat) : TilesKeep Tile.gaveWay s (s.requestTile t) := by
  refine ⟨h.requestTile t, fun u => ?_⟩
  by_cases hu : u = t
  · subst hu
    rw [State.tile_requestTile_self h, Tile.requested_gaveWay]
  · rw [State.tile_requestTile_ne _ hu]

theorem State.requestJob_keeps {s : State} (h : TilesCanonical s) (j : Nat) : TilesKeep Tile.gaveWay s (s.requestJob j) :=
  TilesKeep.foldl (fun _ t hs => State.requestTile_keeps hs t) _ h

/-- A context that does not run and does not wait has nothing to give way. -/
theorem State.tile_requestJob_off {s : State} (h : TilesCanonical s) (j : Nat) {n : Nat}
    (hoff : (s.tile n).bulkOn = false ∧ (s.tile n).waiting = false) :
    ((s.requestJob j).tile n).bulkOn = false ∧ ((s.requestJob j).tile n).waiting = false := by
  refine (State.each_keeps (P := fun u => TilesCanonical u ∧ (u.tile n).bulkOn = false ∧ (u.tile n).waiting = false)
    (fun t u hu => ⟨hu.1.requestTile t, ?_⟩) _ ⟨h, hoff⟩).2
  by_cases ht : n = t
  · subst ht
    rw [State.tile_requestTile_self hu.1]
    simp [Tile.requested, hu.2]
  · rw [State.tile_requestTile_ne _ ht]
    exact hu.2

theorem State.giveWay_jobs {α : Type} {part : Nat → Job → α} {s : State} (h : JobsCanonical s) {t : Nat}
    (hpart : ∀ j, (s.tile t).running = some j → ∀ x p l, part j { x with copyProg := p, copyLen := l } = part j x) :
    JobsKeep part s (s.giveWay t) := by
  unfold State.giveWay
  dsimp only
  split
  next j hj => 
    have hnote : JobsKeep part s (s.noteCopy j (s.tile t).bulk) := State.updJob_keeps h j (hpart j hj _ _ _)
    exact hnote.trans (.of_jobs hnote.canonical rfl)
  · exact .of_jobs h rfl

theorem State.requestTile_jobs {α : Type} {part : Nat → Job → α} {s : State} (h : JobsCanonical s) {t : Nat}
    (hpart : ∀ j, (s.tile t).running = some j → ∀ x p l, part j { x with copyProg := p, copyLen := l } = part j x) :
    JobsKeep part s (s.requestTile t) := by
  unfold State.requestTile
  split
  · exact State.giveWay_jobs h hpart
  · exact .of_jobs h rfl

/-- What is asked to give way runs the job, so no other job records a copy. -/
theorem State.requestJob_jobs {α : Type} {part : Nat → Job → α} {s : State} (h : JobsCanonical s) (ht : TilesCanonical s) {j : Nat}
    (hpart : ∀ x p l, part j { x with copyProg := p, copyLen := l } = part j x) : JobsKeep part s (s.requestJob j) := by
  unfold State.requestJob
  have hl : ∀ t ∈ ((s.job j).tiles.filter fun u => (s.tile u).running = some j), (s.tile t).running = some j :=
    fun t hmem => by simpa using (List.mem_filter.1 hmem).2
  generalize ((s.job j).tiles.filter fun u => (s.tile u).running = some j) = l at hl ⊢
  induction l generalizing s with
  | nil => exact .refl h
  | cons t l ih =>
    have hstep := State.requestTile_jobs (part := part) h (t := t) fun i hi => by
      rw [hl t (List.mem_cons_self ..)] at hi
      rw [← Option.some.inj hi]
      exact hpart
    have hkeep := State.requestTile_keeps ht t
    exact hstep.trans (ih hstep.canonical hkeep.canonical fun u hu =>
      (congrArg Tile.running (hkeep.keeps u)).trans (hl u (List.mem_cons_of_mem _ hu)))

-- Scratch errors

/-- The state in which a scratch error has been counted and told. -/
def State.scratchCounted (s : State) (t : Nat) : State :=
  ((s.count Reg.TIL_SCRATCH_ECC 16 16 1).setField Reg.TIL_SCRATCH_ECC 0 8 t).raise Src.til 2 t

/-- Giving way leaves the retired pages and the loss of a tile. -/
theorem Tile.eq_of_gaveWay {x y : Tile} (h : x.gaveWay = y.gaveWay) : x.retired = y.retired ∧ x.lostNow = y.lostNow := by
  have hret := congrArg Tile.retired h
  have hnow := congrArg Tile.lostNow h
  exact ⟨hret, hnow⟩

/-- The tile with a scratch page retired, once. -/
def Tile.retire (x : Tile) (g : Nat) : Tile := { x with retired := if x.retired.contains g then x.retired else x.retired ++ [g] }

/-- The state after an error outside the pages that the tile needs: the page is retired, and the job that holds it is to end. -/
def State.scratchRetired (s : State) (t g : Nat) : State :=
  let u := (s.scratchCounted t).updTile t fun x => x.retire g
  match (s.tile t).contexts.find? fun c => c.2.contains g with
  | some c => (u.endAt EndReason.fault c.1).requestJob c.1
  | none => u

theorem exec_scratchUe_lost {s : State} {n : BitVec 7} {g : BitVec 10} (h : g.toNat ∈ (s.tile n.toNat).fcMap ∨ 992 ≤ g.toNat) :
    exec (.scratchUe n g) s = .next ((s.scratchCounted n.toNat).loseTile n.toNat) := if_pos h

theorem exec_scratchUe_retired {s : State} {n : BitVec 7} {g : BitVec 10}
    (h : ¬(g.toNat ∈ (s.tile n.toNat).fcMap ∨ 992 ≤ g.toNat)) :
    exec (.scratchUe n g) s = .next (s.scratchRetired n.toNat g.toNat) := by
  change execScratchUe n g s = _
  unfold execScratchUe State.scratchRetired
  dsimp only
  rw [if_neg h]
  cases (s.tile n.toNat).contexts.find? fun c => c.2.contains g.toNat <;> rfl

theorem State.scratchCounted_regs {s : State} (h : RegsCanonical s) (n : BitVec 7) :
    (s.scratchCounted n.toNat).field Reg.TIL_SCRATCH_ECC 0 8 = n.toNat
      ∧ (s.scratchCounted n.toNat).field Reg.TIL_SCRATCH_ECC 16 16 = min (2 ^ 16 - 1) (s.field Reg.TIL_SCRATCH_ECC 16 16 + 1)
      ∧ ∀ a, a ≠ Reg.TIL_SCRATCH_ECC → (s.scratchCounted n.toNat).reg a = s.reg a := by
  have hc := h.count Reg.TIL_SCRATCH_ECC 16 16 1
  have hn := n.isLt
  refine ⟨?_, ?_, fun a ha => ?_⟩
  · refine (State.field_setField_self hc _ _ (by decide)).trans (Nat.mod_eq_of_lt ?_)
    omega
  · exact (State.field_setField_disjoint hc _ _ _ (by decide) (by decide)).trans (State.field_count_self h _ _ (by decide))
  · exact (State.reg_setField_ne _ _ _ _ ha).trans (State.reg_count_ne _ _ _ _ ha)

/-- What is left of the counted error, whatever follows it. -/
theorem State.scratch_told {s u : State} (h : RegsCanonical s) {n : BitVec 7}
    (hu : SameBut [.til, .plan, .loops] (s.scratchCounted n.toNat) u) :
    Notified Src.til 2 n.toNat 0 u ∧ u.field Reg.TIL_SCRATCH_ECC 0 8 = n.toNat
      ∧ u.field Reg.TIL_SCRATCH_ECC 16 16 = min (2 ^ 16 - 1) (s.field Reg.TIL_SCRATCH_ECC 16 16 + 1)
      ∧ ∀ a, a ≠ Reg.TIL_SCRATCH_ECC → u.reg a = s.reg a := by
  obtain ⟨htile, hcount, hreg⟩ := State.scratchCounted_regs h n
  have hevents : u.events = (s.scratchCounted n.toNat).events := hu .events (by decide)
  have hur := fun a => hu.reg_eq (by decide) a
  refine ⟨?_, ?_, ?_, fun a ha => (hur a).trans (hreg a ha)⟩
  · unfold Notified
    rw [hevents]
    exact List.mem_append_right _ (List.mem_singleton.2 rfl)
  · unfold State.field at htile ⊢
    rw [hur]
    exact htile
  · unfold State.field at hcount ⊢
    rw [hur]
    exact hcount

theorem State.scratchRetired_frame (s : State) (t g : Nat) : SameBut [.til] (s.scratchCounted t) (s.scratchRetired t g) := by
  unfold State.scratchRetired
  dsimp only
  split
  · exact (State.requestJob_frame _ _).after (by decide) ((State.endAt_frame _ _ _).after (by decide) (State.updTile_frame _ _ _))
  · exact State.updTile_frame _ _ _

/-- The tile of the error, but for what a request changes. -/
theorem State.scratchRetired_tile {s : State} (h : TilesCanonical s) (t g : Nat) :
    ((s.scratchRetired t g).tile t).gaveWay = ((s.tile t).retire g).gaveWay := by
  have hu : TilesCanonical ((s.scratchCounted t).updTile t fun x => x.retire g) := TilesCanonical.updTile h t _
  have hself : ((s.scratchCounted t).updTile t fun x => x.retire g).tile t = (s.tile t).retire g :=
    State.tile_updTile_self (s := s.scratchCounted t) h t _
  unfold State.scratchRetired
  dsimp only
  rw [← hself]
  split
  next c _ =>
    have hend : TilesKeep Tile.gaveWay ((s.scratchCounted t).updTile t fun x => x.retire g)
        (((s.scratchCounted t).updTile t fun x => x.retire g).endAt EndReason.fault c.1) := .of_tiles hu (State.tiles_endAt _ _ _)
    exact (hend.trans (State.requestJob_keeps hend.canonical c.1)).keeps t
  · rfl

theorem State.scratchRetired_job {s : State} (h : Canonical s) {t g j : Nat} {l : List Nat}
    (hfind : (s.tile t).contexts.find? (fun c => c.2.contains g) = some (j, l))
    (hj : (s.job j).state = .running ∨ (s.job j).state = .ready) :
    EndReason.fault ∈ ((s.scratchRetired t g).job j).ending
      ∧ ∀ i, i ≠ j → ((s.scratchRetired t g).job i).ending = (s.job i).ending := by
  let u := (s.scratchCounted t).updTile t fun x => x.retire g
  have hu : TilesCanonical u := TilesCanonical.updTile h.tiles t _
  have hjobs : JobsCanonical u := h.jobs
  have hlive : ¬((u.job j).state = .none ∨ (u.job j).state = .ended) := by
    change ¬((s.job j).state = .none ∨ (s.job j).state = .ended)
    rcases hj with hj | hj <;> simp [hj]
  have hreq := State.requestJob_jobs (part := fun _ => Job.ending) (hjobs.endAt EndReason.fault j)
    (TilesKeep.of_tiles (part := id) hu (State.tiles_endAt u EndReason.fault j)).canonical (j := j) fun _ _ _ => rfl
  have heq : s.scratchRetired t g = (u.endAt EndReason.fault j).requestJob j := by
    unfold State.scratchRetired
    dsimp only
    rw [hfind]
  rw [heq]
  refine ⟨?_, fun i hi => ?_⟩
  · rw [hreq.keeps j]
    exact State.endAt_ending hjobs _ _ hlive
  · rw [hreq.keeps i, State.job_endAt_ne _ _ hi]
    rfl

theorem Tile.mem_retire (x : Tile) (g : Nat) :
    g ∈ (x.retire g).retired ∧ (∀ k, k ≠ g → (k ∈ (x.retire g).retired ↔ k ∈ x.retired))
      ∧ (x.retire g).retired.length ≤ x.retired.length + 1 ∧ (g ∈ x.retired → (x.retire g).retired = x.retired) := by
  unfold Tile.retire
  dsimp only
  split
  next hg => exact ⟨by simpa using hg, fun _ _ => Iff.rfl, Nat.le_succ _, fun _ => rfl⟩
  next hg => exact ⟨by simp, fun k hk => by simp [hk], by simp, fun hmem => absurd hmem (by simpa using hg)⟩

theorem State.loseTile_selects (s : State) (t : Nat) (h : ((s.tile t).lost || (s.tile t).lostNow) = false) :
    (s.loseTile t).plan.selectNow = true := by
  unfold State.loseTile
  rw [if_neg (by simp [h])]
  dsimp only
  split <;> rfl

/-- An uncorrectable scratch error on a tile that is not lost. -/
theorem exec_scratchUe {s : State} (h : Canonical s) (n : BitVec 7) (g : BitVec 10) (hlost : (s.tile n.toNat).lost = false)
    (hnow : (s.tile n.toNat).lostNow = false) :
    ∃ t, exec (.scratchUe n g) s = .next t ∧ Notified Src.til 2 n.toNat 0 t ∧ t.field Reg.TIL_SCRATCH_ECC 0 8 = n.toNat
      ∧ t.field Reg.TIL_SCRATCH_ECC 16 16 = min (2 ^ 16 - 1) (s.field Reg.TIL_SCRATCH_ECC 16 16 + 1)
      ∧ (∀ a, a ≠ Reg.TIL_SCRATCH_ECC → t.reg a = s.reg a) ∧ SameBut [.regs, .events, .til, .plan, .loops] s t
      ∧ (g.toNat ∈ (s.tile n.toNat).fcMap ∨ 992 ≤ g.toNat → (t.tile n.toNat).lostNow = true ∧ t.plan.selectNow = true)
      ∧ (g.toNat ∉ (s.tile n.toNat).fcMap → g.toNat < 992 →
          g.toNat ∈ (t.tile n.toNat).retired
          ∧ (∀ k, k ≠ g.toNat → (k ∈ (t.tile n.toNat).retired ↔ k ∈ (s.tile n.toNat).retired))
          ∧ (t.tile n.toNat).retired.length ≤ (s.tile n.toNat).retired.length + 1
          ∧ (g.toNat ∈ (s.tile n.toNat).retired → (t.tile n.toNat).retired = (s.tile n.toNat).retired)
          ∧ (t.tile n.toNat).lostNow = false ∧ t.loops = s.loops)
      ∧ (∀ j l, (s.tile n.toNat).contexts.find? (fun c => c.2.contains g.toNat) = some (j, l) →
          g.toNat ∉ (s.tile n.toNat).fcMap → g.toNat < 992 → (s.job j).state = .running ∨ (s.job j).state = .ready →
          EndReason.fault ∈ (t.job j).ending ∧ ∀ i, i ≠ j → (t.job i).ending = (s.job i).ending) := by
  by_cases hfc : g.toNat ∈ (s.tile n.toNat).fcMap ∨ 992 ≤ g.toNat
  · have hexec := exec_scratchUe_lost hfc
    have hup : (((s.scratchCounted n.toNat).tile n.toNat).lost || ((s.scratchCounted n.toNat).tile n.toNat).lostNow) = false := by
      change ((s.tile n.toNat).lost || (s.tile n.toNat).lostNow) = false
      simp [hlost, hnow]
    obtain ⟨htold, htile, hcount, hreg⟩ := State.scratch_told h.regs
      (((s.scratchCounted n.toNat).loseTile_frame n.toNat).mono (by decide))
    refine ⟨_, hexec, htold, htile, hcount, hreg, (exec_frame _ _ _ hexec).mono (by simp [touches]), fun _ => ⟨?_, ?_⟩,
      fun hn hlt => ?_, fun _ _ _ hn hlt => ?_⟩
    · rw [State.tile_loseTile_self (s := s.scratchCounted n.toNat) h.tiles _ hup]
    · exact State.loseTile_selects _ _ hup
    · exact absurd hfc (by simp [hn, Nat.not_le.2 hlt])
    · exact absurd hfc (by simp [hn, Nat.not_le.2 hlt])
  · have hexec := exec_scratchUe_retired hfc
    have hframe := s.scratchRetired_frame n.toNat g.toNat
    obtain ⟨htold, htile, hcount, hreg⟩ := State.scratch_told h.regs (hframe.mono (by decide))
    have hx := State.scratchRetired_tile h.tiles n.toNat g.toNat
    obtain ⟨hret, hlostNow⟩ := Tile.eq_of_gaveWay hx
    obtain ⟨hmem, hother, hlen, hsame⟩ := (s.tile n.toNat).mem_retire g.toNat
    refine ⟨_, hexec, htold, htile, hcount, hreg, (exec_frame _ _ _ hexec).mono (by simp [touches]), fun hn => absurd hn hfc,
      fun _ _ => ?_, fun j l hfind _ _ hj => State.scratchRetired_job h hfind hj⟩
    rw [hret, hlostNow]
    exact ⟨hmem, hother, hlen, hsame, hnow, hframe .loops (by decide)⟩

-- Partition violations

/-- The state after a violation by the program of job `j`: its context gives way, and the job is to end. -/
def State.violated (s : State) (t j : Nat) : State := ((s.giveWay t).endAt EndReason.fault j).requestJob j

theorem exec_partitionViolation_job {s : State} (h : Canonical s) {n : BitVec 7} {j : Nat} (hnow : (s.tile n.toNat).lostNow = false)
    (hrun : (s.tile n.toNat).running = some j) (hj : (s.job j).state = .running) (hon : (s.tile n.toNat).bulkOn = true) :
    exec (.partitionViolation n false) s = .next (s.violated n.toNat j)
      ∧ EndReason.fault ∈ ((s.violated n.toNat j).job j).ending
      ∧ ((s.violated n.toNat j).tile n.toNat).bulkOn = false ∧ ((s.violated n.toNat j).tile n.toNat).waiting = false
      ∧ ((s.violated n.toNat j).tile n.toNat).lostNow = false ∧ (∀ i, i ≠ j → (s.violated n.toNat j).job i = s.job i) := by
  have hgive : TilesCanonical (s.giveWay n.toNat) := TilesCanonical.giveWay h.tiles _
  have hself := State.tile_giveWay_self h.tiles n.toNat
  have htiles := State.tiles_endAt (s.giveWay n.toNat) EndReason.fault j
  have hend := TilesKeep.of_tiles (part := id) hgive htiles
  have hx : ((s.giveWay n.toNat).endAt EndReason.fault j).tile n.toNat = (s.tile n.toNat).gaveWay := (hend.keeps _).trans hself
  have hgj := State.giveWay_jobs (part := fun _ x => x.state) (t := n.toNat) h.jobs fun _ _ _ _ _ => rfl
  have hgo := State.giveWay_jobs (part := fun i x => if i = j then none else some x) (t := n.toNat) h.jobs fun i hi _ _ _ => by
    rw [hrun] at hi
    simp [Option.some.inj hi]
  have hej : JobsCanonical ((s.giveWay n.toNat).endAt EndReason.fault j) := JobsCanonical.endAt hgj.canonical _ _
  have hreq := State.requestJob_jobs (part := fun _ x => x.ending) (j := j) hej hend.canonical fun _ _ _ => rfl
  have hreqo := State.requestJob_jobs (part := fun i x => if i = j then none else some x) (j := j) hej hend.canonical
    fun _ _ _ => by simp
  obtain ⟨hoff, hwait⟩ := State.tile_requestJob_off hend.canonical j (n := n.toNat) (by rw [hx]; exact ⟨rfl, rfl⟩)
  refine ⟨?_, ?_, hoff, hwait, ?_, fun i hi => ?_⟩
  · change execPartitionViolation n false s = _
    unfold execPartitionViolation
    dsimp only
    rw [hrun]
    exact (if_neg (by decide)).trans (congrArg Host.Outcome.next (if_pos hon))
  · unfold State.violated
    rw [hreq.keeps j]
    refine State.endAt_ending hgj.canonical _ _ ?_
    rw [hgj.keeps j, hj]
    decide
  · refine (congrArg Tile.lostNow ((State.requestJob_keeps hend.canonical j).keeps n.toNat)).trans ?_
    rw [hx]
    exact hnow
  · have hlast := hreqo.keeps i
    have hfirst := hgo.keeps i
    simp only [hi, if_false, Option.some.injEq] at hlast hfirst
    exact hlast.trans ((State.job_endAt_ne _ _ hi).trans hfirst)

-- Hops

/-- The tile that is lost from now on, if it was not lost before. -/
def Tile.losing (x : Tile) : Tile :=
  if x.lost || x.lostNow then x else { x with lostNow := true, bulkOn := false, waiting := false, request := false }

theorem Tile.losing_lost (x : Tile) : x.losing.lost = true ∨ x.losing.lostNow = true := by
  unfold Tile.losing
  split
  next h => simpa using h
  · exact .inr rfl

theorem State.tile_loseTile {s : State} (h : TilesCanonical s) (t : Nat) : (s.loseTile t).tile t = (s.tile t).losing := by
  cases hlost : (s.tile t).lost || (s.tile t).lostNow with
  | true => rw [s.loseTile_of_lost t hlost, Tile.losing, if_pos hlost]
  | false => rw [State.tile_loseTile_self h t hlost, Tile.losing, hlost]; rfl

theorem span_nodup (a n : Nat) : (span a n).Nodup := nodup_map_of_inj (fun _ _ _ _ h => Nat.add_left_cancel h) List.nodup_range

theorem mem_span {a n k : Nat} : k ∈ span a n ↔ a ≤ k ∧ k < a + n := by
  unfold span
  simp only [List.mem_map, List.mem_range]
  constructor
  · rintro ⟨i, hi, rfl⟩
    omega
  · intro h
    exact ⟨k - a, by omega, by omega⟩

theorem TilesCanonical.loseDie {s : State} (h : TilesCanonical s) (d : Nat) : TilesCanonical (s.loseDie d) := by
  unfold State.loseDie
  generalize span (32 * d) 32 = l
  exact State.each_keeps (P := TilesCanonical) (fun t _ hs => hs.loseTile t) l h

theorem State.tile_loseDie {s : State} (h : TilesCanonical s) (d u : Nat) :
    (s.loseDie d).tile u = if u / 32 = d then (s.tile u).losing else s.tile u := by
  have hl := span_nodup (32 * d) 32
  have hmem : u ∈ span (32 * d) 32 ↔ u / 32 = d := mem_span.trans (by omega)
  unfold State.loseDie
  generalize span (32 * d) 32 = l at hl hmem
  refine (State.each_at (P := TilesCanonical) (get := State.tile) (g := fun _ x => x.losing) (fun t _ hs => hs.loseTile t)
    (fun t v hv => State.tile_loseTile hv t) (fun t k v _ hk => v.tile_loseTile_ne hk) hl h u).trans ?_
  exact ite_congr (propext hmem) (fun _ => rfl) fun _ => rfl

theorem State.loseTile_hops (s : State) (t : Nat) : (s.loseTile t).til.hops = s.til.hops := by
  unfold State.loseTile
  dsimp only
  split
  · rfl
  · split <;> rfl

theorem State.loseDie_hops (s : State) (d : Nat) : (s.loseDie d).til.hops = s.til.hops := by
  unfold State.loseDie
  generalize span (32 * d) 32 = l
  exact State.each_keeps (P := fun u => u.til.hops = s.til.hops) (fun t u hu => (u.loseTile_hops t).trans hu) l rfl

/-- The tiles of the listed dies are lost. -/
theorem State.tile_loseDies {s : State} (h : TilesCanonical s) {l : List Nat} (hl : l.Nodup) (u : Nat) :
    (State.each l (fun d s => s.loseDie d) s).tile u = if u / 32 ∈ l then (s.tile u).losing else s.tile u := by
  have hdie := State.each_at (P := TilesCanonical) (get := fun s d (i : Fin 32) => s.tile (32 * d + i))
    (g := fun _ f i => (f i).losing) (f := fun d s => s.loseDie d) (fun d _ hs => hs.loseDie d)
    (fun d v hv => funext fun i => (State.tile_loseDie hv d _).trans (if_pos (by omega)))
    (fun d k v hv hk => funext fun i => (State.tile_loseDie hv d _).trans (if_neg (by omega))) hl h (u / 32)
  have hu : 32 * (u / 32) + u % 32 = u := Nat.div_add_mod u 32
  have hat := congrFun hdie ⟨u % 32, Nat.mod_lt _ (by decide)⟩
  simp only [hu] at hat
  rw [hat]
  split <;> simp [hu]

/-- The dies that are lost with a hop, on top of those lost before. -/
theorem State.downHop_effect {s : State} (hs : TilesCanonical s) {h : Nat} (hup : h ∉ s.til.hops) :
    (s.downHop h).til.hops = s.til.hops ++ [h] ∧ Notified Src.til 5 h 0 (s.downHop h)
      ∧ (∀ u, u < 128 → (u / 32 = hopDie h ∨ joined (s.til.hops ++ [h]) (u / 32) = false) →
          ((s.downHop h).tile u).lost = true ∨ ((s.downHop h).tile u).lostNow = true)
      ∧ (∀ u, u < 128 → u / 32 ≠ hopDie h → joined (s.til.hops ++ [h]) (u / 32) = true → (s.downHop h).tile u = s.tile u) := by
  let v := ({ s with til := { s.til with hops := s.til.hops ++ [h] } } : State).raise Src.til 5 h
  let l := (List.range 4).filter fun d => !joined (v.loseDie (hopDie h)).til.hops d
  have heq : s.downHop h = State.each l (fun d s => s.loseDie d) (v.loseDie (hopDie h)) := by
    unfold State.downHop
    rw [if_neg (by simpa using hup)]
  have hhops : (v.loseDie (hopDie h)).til.hops = s.til.hops ++ [h] := v.loseDie_hops _
  have hv : TilesCanonical v := hs
  have htile : ∀ u, (s.downHop h).tile u = if u / 32 ∈ l then ((v.loseDie (hopDie h)).tile u).losing
      else (v.loseDie (hopDie h)).tile u := by
    intro u
    rw [heq]
    exact State.tile_loseDies (hv.loseDie _) (List.Nodup.sublist List.filter_sublist List.nodup_range) u
  have hmem : ∀ u, u < 128 → (u / 32 ∈ l ↔ joined (s.til.hops ++ [h]) (u / 32) = false) := by
    intro u hu
    simp only [l, hhops, List.mem_filter, List.mem_range, Bool.not_eq_true']
    exact ⟨fun k => k.2, fun k => ⟨by omega, k⟩⟩
  refine ⟨?_, ?_, fun u hu hd => ?_, fun u hu hd hj => ?_⟩
  · rw [heq]
    exact State.each_keeps (P := fun u => u.til.hops = s.til.hops ++ [h]) (fun t u hu => (u.loseDie_hops t).trans hu) _ hhops
  · have hframe : SameBut [.loops, .plan, .til] v (s.downHop h) := by
      rw [heq]
      exact SameBut.each (fun d u => u.loseDie_frame d) (v.loseDie_frame _) _
    have hevents : (s.downHop h).events = v.events := hframe .events (by decide)
    unfold Notified
    rw [hevents]
    exact List.mem_append_right _ (List.mem_singleton.2 rfl)
  · rw [htile]
    split
    · exact Tile.losing_lost _
    next hout =>
      rw [State.tile_loseDie hv, if_pos (hd.resolve_right fun hj => hout ((hmem u hu).2 hj))]
      exact Tile.losing_lost _
  · rw [htile, if_neg fun k => by rw [(hmem u hu).1 k] at hj; exact absurd hj (by decide), State.tile_loseDie hv, if_neg hd]
    rfl

-- The choice of a placement

theorem State.switchVariant_early {s : State} (h : ∀ w k, s.plan.switchAt = some (w, k) → s.nextTick < k) : s.switchVariant = s := by
  unfold State.switchVariant
  cases hw : s.plan.switchAt with
  | none => rfl
  | some p =>
    obtain ⟨w, k⟩ := p
    exact if_neg (Nat.not_le.2 (h w k hw))

/-- The state in which the choice has been taken up. -/
def State.chosen (s : State) : State := { s with plan := { s.plan with selectNow := false } }

/-- The lowest placement that fits, of the five that a plan can hold (R88). -/
theorem find_lowest {p : Nat → Bool} {n v : Nat} (hv : p v = true) (hn : v < n) (hlow : ∀ u, u < v → p u = false) :
    (List.range n).find? p = some v := by
  rw [List.find?_range_eq_some]
  exact ⟨hv, List.mem_range.2 hn, fun j hj => by simp [hlow j hj]⟩

theorem State.selectPlacement_fits {s : State} {v : Nat} (hsel : s.plan.selectNow = true) (hcom : s.plan.committed = true)
    (hsw : ∀ w k, s.plan.switchAt = some (w, k) → s.nextTick < k) (hfit : s.fits v = true) (hv : v < 5)
    (hlow : ∀ u, u < v → s.fits u = false) (hne : v ≠ s.plan.variant) :
    s.selectPlacement = { s with plan := { s.plan with selectNow := false, switchAt := some (v, s.nextTick + 1) } } := by
  have hfind : (List.range 5).find? s.chosen.fits = some v := find_lowest hfit hv hlow
  unfold State.selectPlacement
  rw [if_pos hsel, State.switchVariant_early hsw]
  refine (if_neg (by simp [hcom])).trans ?_
  change (match (List.range 5).find? s.chosen.fits with
    | some v => if v = s.plan.variant then s.chosen
      else { s.chosen with plan := { s.chosen.plan with switchAt := some (v, s.chosen.nextTick + 1) } }
    | none => s.chosen.noVariant) = _
  rw [hfind]
  exact if_neg hne

theorem State.selectPlacement_none {s : State} (hsel : s.plan.selectNow = true) (hcom : s.plan.committed = true)
    (hsw : ∀ w k, s.plan.switchAt = some (w, k) → s.nextTick < k) (hfit : ∀ v, v < 5 → s.fits v = false) :
    s.selectPlacement = s.chosen.noVariant := by
  have hfind : (List.range 5).find? s.chosen.fits = none :=
    List.find?_eq_none.2 fun v hv hfits => absurd ((hfit v (List.mem_range.1 hv)).symm.trans hfits) (by decide)
  unfold State.selectPlacement
  rw [if_pos hsel, State.switchVariant_early hsw]
  refine (if_neg (by simp [hcom])).trans ?_
  change (match (List.range 5).find? s.chosen.fits with
    | some v => if v = s.plan.variant then s.chosen
      else { s.chosen with plan := { s.chosen.plan with switchAt := some (v, s.chosen.nextTick + 1) } }
    | none => s.chosen.noVariant) = _
  rw [hfind]

/-- The state that an operation of the coming tick begins with. -/
def State.comingTick (s : State) : State :=
  { s with hrt := { s.hrt with frame := s.nextTick, adopt := none, guardNow := s.hrt.guardNext }
           porches := tmap (fun _ => {}) (fun _ q => { q with sent := [] }) s.porches }

theorem State.inTick_stands {s : State} {f : State → State} (h : FaultsStand s.comingTick (f s.comingTick)) :
    FaultsStand s (s.inTick f) := ⟨h.canonical, h.stands, h.low, h.fresh⟩

theorem State.verdict_active {s : State} (hrole : s.roleNow = .active) (reason code : Nat) (solo : State → State) :
    s.verdict reason code solo = (s.guardEvent code).withdraw reason code := by
  have hnow : (s.guardEvent code).roleNow = .active := by
    have htwn : (s.guardEvent code).twn = s.twn := s.guardEvent_frame code .twn (by decide)
    unfold State.roleNow at hrole ⊢
    rw [htwn]
    exact hrole
  unfold State.verdict
  dsimp only
  rw [hnow]

theorem State.withdraw_bit {s : State} (h : RegsCanonical s) (reason code : Nat) :
    bitAt ((s.withdraw reason code).reg Reg.THM_FAULT) FaultCause.verdict = true := by
  unfold State.withdraw
  rw [(State.giveUp_frame _ _).reg_eq (by decide)]
  exact State.faultOn_bit (RegsCanonical.sendAll h _ _ _) (by decide) true

/-- An ACTIVE unit with no placement left gives up control (R89). -/
theorem State.noVariant_active {s : State} (h : RegsCanonical s) (hrole : s.roleNow = .active) :
    s.noVariant.twn.withdrawAt = some 7 ∧ FaultAsserted 2 s s.noVariant ∧ s.noVariant.plan = s.plan := by
  have hrole' : s.comingTick.roleNow = .active := hrole
  have hg : RegsCanonical (s.comingTick.guardEvent GuardCode.verdict) := RegsCanonical.guardEvent h _
  obtain ⟨solo, hsolo⟩ : ∃ solo, s.noVariant = s.inTick fun s => s.verdict 7 GuardCode.verdict solo := by
    unfold State.noVariant
    dsimp only
    rw [hrole]
    exact ⟨_, rfl⟩
  have hverdict := State.verdict_active hrole' 7 GuardCode.verdict solo
  have hstands : FaultsStand s.comingTick (s.comingTick.verdict 7 GuardCode.verdict solo) := by
    rw [hverdict]
    exact (State.guardEvent_stands (s := s.comingTick) h _).trans (State.withdraw_stands hg _ _)
  have hbit : bitAt ((s.comingTick.verdict 7 GuardCode.verdict solo).reg Reg.THM_FAULT) 2 = true := by
    rw [hverdict]
    exact State.withdraw_bit hg _ _
  have hplan : (s.comingTick.verdict 7 GuardCode.verdict solo).plan = s.plan := by
    rw [hverdict]
    exact (State.withdraw_frame _ _ _ .plan (by decide)).trans (State.guardEvent_frame _ _ .plan (by decide))
  have hat : (s.comingTick.verdict 7 GuardCode.verdict solo).twn.withdrawAt = some 7 := by
    rw [hverdict]
    rfl
  rw [hsolo]
  exact ⟨hat, (State.inTick_stands hstands).asserted hbit, hplan⟩

-- The switch to a placement

/-- A table whose pending weights have been dropped. -/
def PlanTable.dropped (x : PlanTable) : PlanTable :=
  { x with inactive := 0, writer := 0, writerJob := 0, other := [], copying := false, swapAt := none }

theorem State.dropWeights_tables (s : State) : ∀ e ∈ s.dropWeights.plan.tables,
    e.2.desc.kind = 5 → e.2.inactive = 0 ∧ e.2.other = [] ∧ e.2.swapAt = none := by
  intro e he hkind
  obtain ⟨p, -, rfl⟩ := List.mem_map.1 he
  dsimp only at hkind ⊢
  split at hkind
  next hp => rw [if_pos hp]; exact ⟨rfl, rfl, rfl⟩
  next hp => exact absurd hkind hp

/-- What a placement governs of a tile. -/
def Tile.placed (x : Tile) (v : Placement) (t : Nat) : Tile :=
  { x with fcMap := x.variantMap (v.fcPages t), stage := tget (fun _ => 15) v.stages t }

/-- One tile takes its part of a placement. -/
def State.placeTile (v : Placement) (t : Nat) (s : State) : State :=
  let l := (s.tile t).variantMap (v.fcPages t)
  (if l = (s.tile t).fcMap then s else s.fillPages t s.plan.plan.digest l).updTile t fun x =>
    { x with fcMap := l, stage := tget (fun _ => 15) v.stages t }

theorem State.tiles_placeTile (v : Placement) (t : Nat) (s : State) :
    (s.placeTile v t).til.tiles = tupd (fun _ => {}) s.til.tiles t fun x =>
      { x with fcMap := (s.tile t).variantMap (v.fcPages t), stage := tget (fun _ => 15) v.stages t } := by
  unfold State.placeTile
  dsimp only
  split
  · rfl
  · have htil : (s.fillPages t s.plan.plan.digest ((s.tile t).variantMap (v.fcPages t))).til = s.til :=
      s.fillPages_frame _ _ _ .til (by decide)
    unfold State.updTile
    rw [htil]

theorem State.placeVariant_tiles {s : State} (h : TilesCanonical s) (v : Placement) :
    TilesCanonical (s.placeVariant v) ∧ ∀ u, u < 128 → (s.placeVariant v).tile u = (s.tile u).placed v u := by
  have hmem : ∀ u, u < 128 → u ∈ List.range 128 := fun u hu => List.mem_range.2 hu
  have hl : (List.range 128).Nodup := List.nodup_range
  have hcan : ∀ t s, TilesCanonical s → TilesCanonical (s.placeTile v t) := fun t s hs => by
    unfold TilesCanonical
    rw [State.tiles_placeTile]
    exact twf_tupd hs t _
  unfold State.placeVariant
  generalize List.range 128 = l at hmem hl
  change TilesCanonical (State.each l (State.placeTile v) s)
    ∧ ∀ u, u < 128 → (State.each l (State.placeTile v) s).tile u = _
  refine ⟨State.each_keeps (P := TilesCanonical) hcan l h, fun u hu => ?_⟩
  refine (State.each_at (P := TilesCanonical) (get := State.tile) (g := fun t x => x.placed v t) hcan (fun t s hs => ?_)
    (fun t k s _ hk => ?_) hl h u).trans (if_pos (hmem u hu))
  · unfold State.tile
    rw [State.tiles_placeTile]
    exact tget_tupd_self hs t _
  · unfold State.tile
    rw [State.tiles_placeTile]
    exact tget_tupd_ne _ _ hk

theorem State.tiles_takePages (s : State) : s.takePages.til.tiles = s.til.tiles := by
  unfold State.takePages
  generalize List.range 128 = l
  refine State.each_keeps (P := fun u => u.til.tiles = s.til.tiles) (fun t u hu => ?_) l rfl
  dsimp only
  split
  · exact hu
  · exact State.each_keeps (P := fun v => v.til.tiles = s.til.tiles) (fun j v hv => (v.tiles_endAt _ j).trans hv) _ hu

/-- The state in which no tile holds a context of job `j`. -/
def State.dropContexts (s : State) (j : Nat) : State :=
  { s with til := { s.til with tiles := tmap (fun _ => {}) (fun _ y => y.drop j) s.til.tiles } }

/-- What a placement governs of a tile: its partition and its stage. -/
def Tile.governed (x : Tile) : List Nat × Nat := (x.fcMap, x.stage)

theorem Tile.drop_governed (x : Tile) (j : Nat) : (x.drop j).governed = x.governed := by
  unfold Tile.drop
  dsimp only
  split <;> rfl

theorem Tile.drop_default (j : Nat) : ({} : Tile).drop j = {} := rfl

theorem State.placeService_keeps {s : State} (h : TilesCanonical s) (j pages t : Nat) :
    TilesKeep Tile.governed s (s.placeService j pages t) := by
  unfold State.placeService
  dsimp only
  generalize (victims pages _ _ _).map _ = l
  have hl : ∀ u : State, TilesCanonical u →
      TilesKeep Tile.governed u (State.each l (fun i s => s.endAt EndReason.placement i) u) :=
    fun u hu => TilesKeep.foldl (fun v i hv => .of_tiles hv (v.tiles_endAt _ i)) l hu
  exact (hl s h).trans (State.updTile_keeps (hl s h).canonical t rfl)

theorem State.setJob_tiles (s : State) (j : Nat) (st : JobState) : (s.setJob j st).til.tiles = s.til.tiles := by
  unfold State.setJob
  split <;> rfl

theorem State.dropContexts_keeps {s : State} (h : TilesCanonical s) (j : Nat) :
    TilesKeep Tile.governed s (s.dropContexts j) := by
  refine ⟨twf_tmap h _, fun u => ?_⟩
  refine (congrArg Tile.governed ?_).trans ((s.tile u).drop_governed j)
  exact tget_tmap h (fun _ => Tile.drop_default j) u

theorem State.moveService_keeps {s : State} (h : TilesCanonical s) (v : Placement) (r : JobRec) :
    TilesKeep Tile.governed s (s.moveService v r) := by
  have hplace : ∀ (u : State) (j pages : Nat) (l : List Nat), TilesCanonical u →
      TilesKeep Tile.governed u (State.each l (fun t s => s.placeService j pages t) u) :=
    fun u j pages l hu => TilesKeep.foldl (fun _ t hv => State.placeService_keeps hv j pages t) l hu
  unfold State.moveService
  dsimp only
  split
  · exact .refl h
  split
  · have hdrop := State.dropContexts_keeps h r.job
    have hupd : TilesKeep Tile.governed (s.dropContexts r.job)
      ((s.dropContexts r.job).updJob r.job fun x => { x with tiles := members 128 (v.tilesOf r) }) := .of_tiles hdrop.canonical rfl
    exact (hdrop.trans hupd).trans (hplace _ _ _ _ hupd.canonical)
  split
  · have hl := hplace (s.updJob r.job fun _ => { residentJob r with tiles := members 128 (v.tilesOf r), parks := [] }) r.job r.pages
      (members 128 (v.tilesOf r)) h
    have hupd : TilesKeep Tile.governed s (s.updJob r.job fun _ =>
      { residentJob r with tiles := members 128 (v.tilesOf r), parks := [] }) := .of_tiles h rfl
    exact (hupd.trans hl).trans (.of_tiles hl.canonical (State.setJob_tiles _ _ _))
  · exact .refl h

theorem State.moveServices_keeps {s : State} (h : TilesCanonical s) (v : Placement) :
    TilesKeep Tile.governed s (s.moveServices v) :=
  TilesKeep.foldl (fun _ r hs => State.moveService_keeps hs v r) _ h

/-- The state in which the tiles and services follow a placement. -/
def State.servicesMoved (s : State) (p : Placement) : State := ((s.placeVariant p).takePages).moveServices p

theorem State.servicesMoved_frame (s : State) (p : Placement) : SameBut [.events, .til, .ram] s (s.servicesMoved p) :=
  (State.moveServices_frame _ _).after (by decide) ((State.takePages_frame _).after (by decide)
    ((s.placeVariant_frame p).mono (by decide)))

theorem State.servicesMoved_tile {s : State} (h : TilesCanonical s) (p : Placement) {t : Nat} (ht : t < 128) :
    ((s.servicesMoved p).tile t).governed = ((s.tile t).placed p t).governed := by
  obtain ⟨hcan, hplace⟩ := State.placeVariant_tiles h p
  have htake : TilesKeep Tile.governed (s.placeVariant p) (s.placeVariant p).takePages := .of_tiles hcan (State.tiles_takePages _)
  rw [← hplace t ht]
  exact (htake.trans (State.moveServices_keeps htake.canonical p)).keeps t

/-- The state in which variant `v` is the one in force. -/
def State.inVariant (s : State) (v : Nat) : State := { s with plan := { s.plan with variant := v, switchAt := none } }

/-- The state in which a placement governs. -/
def State.governedBy (s : State) (v : Nat) (p : Placement) : State := ((s.inVariant v).servicesMoved p).dropWeights

theorem State.switchVariant_due {s : State} {v k : Nat} {p : Placement} (hsw : s.plan.switchAt = some (v, k))
    (hk : k ≤ s.nextTick) (hp : s.placement v = some p) : s.switchVariant = (s.governedBy v p).raise Src.pln 5 v := by
  unfold State.switchVariant
  rw [hsw]
  dsimp only
  rw [if_pos hk]
  have hp' : State.placement { s with plan := { s.plan with variant := v, switchAt := none } } v = some p := hp
  rw [hp']
  rfl

theorem State.governedBy_plan (s : State) (v : Nat) (p : Placement) :
    (s.governedBy v p).plan.variant = v ∧ (s.governedBy v p).plan.switchAt = none ∧ (s.governedBy v p).plan.plan = s.plan.plan := by
  have hplan : ((s.inVariant v).servicesMoved p).plan = (s.inVariant v).plan := State.servicesMoved_frame _ _ .plan (by decide)
  unfold State.governedBy
  generalize (s.inVariant v).servicesMoved p = w at hplan
  change w.plan.variant = v ∧ w.plan.switchAt = none ∧ w.plan.plan = s.plan.plan
  rw [hplan]
  exact ⟨rfl, rfl, rfl⟩

theorem SameBut.tile_eq {l : List Part} {s t : State} (h : SameBut l s t) (hl : .til ∉ l) (u : Nat) : t.tile u = s.tile u := by
  have htil : t.til = s.til := h .til hl
  unfold State.tile
  rw [htil]

theorem State.governedBy_tiles {s : State} (h : TilesCanonical s) (v : Nat) (p : Placement) (t : Nat) (ht : t < 128) :
    ((s.governedBy v p).tile t).stage = tget (fun _ => 15) p.stages t
      ∧ ((s.governedBy v p).tile t).fcMap = (s.tile t).variantMap (p.fcPages t) := by
  have hkeep := State.servicesMoved_tile (s := s.inVariant v) h p ht
  unfold State.governedBy
  rw [(State.dropWeights_frame _).tile_eq (by decide)]
  generalize ((s.inVariant v).servicesMoved p).tile t = x at hkeep ⊢
  exact ⟨congrArg Prod.snd hkeep, congrArg Prod.fst hkeep⟩

/-- Settles O19. -/
theorem losingTilesAndDies : Obligations.LosingTilesAndDies := by
  refine ⟨fun s hcan => ⟨fun n g hlost hnow => exec_scratchUe hcan n g hlost hnow, fun n hlost hnow => ⟨?_, fun j hrun hj hon => ?_,
      fun hoff => ?_⟩, fun h hup => ?_, fun h hdown => ?_⟩,
    fun s hcan => ⟨fun v hsel hcom hsw hfit hv hlow hne => ?_, fun hsel hcom hsw hfit hrole => ?_, fun hsel => ?_,
      fun v k p hsw hk hp => ?_, fun v k hsw hk => ?_⟩⟩
  · have hexec : exec (.partitionViolation n true) s = .next (s.loseTile n.toNat) := rfl
    refine ⟨_, hexec, ?_, fun u hu => s.tile_loseTile_ne hu, (s.loseTile_frame _).mono (by decide)⟩
    rw [State.tile_loseTile_self hcan.tiles _ (by simp [hlost, hnow])]
  · obtain ⟨hexec, hend, hoff, hwait, hnow', hjobs⟩ := exec_partitionViolation_job hcan hnow hrun hj hon
    refine ⟨_, hexec, hend, hoff, hwait, hnow', hjobs, ?_⟩
    exact (State.requestJob_frame _ _).after (by decide) ((State.endAt_frame _ _ _).after (by decide) (s.giveWay_frame _))
  · change execPartitionViolation n false s = _
    unfold execPartitionViolation
    dsimp only
    rw [if_neg (by decide)]
    split
    · rw [if_neg (by simp [hoff])]
    · rfl
  · obtain ⟨hhops, htold, hgone, hkept⟩ := State.downHop_effect hcan.tiles hup
    exact ⟨_, rfl, hhops, htold, hgone, hkept, (s.downHop_frame _).mono (by decide)⟩
  · exact congrArg Host.Outcome.next (if_pos (by simpa using hdown))
  · exact congrArg Host.Outcome.next (State.selectPlacement_fits hsel hcom hsw hfit hv hlow hne)
  · have hexec : exec .placementSelect s = .next s.chosen.noVariant :=
      congrArg Host.Outcome.next (State.selectPlacement_none hsel hcom hsw hfit)
    obtain ⟨hat, hfault, hplan⟩ := State.noVariant_active (s := s.chosen) hcan.regs hrole
    exact ⟨_, hexec, hat, hfault, by rw [hplan]; rfl, by rw [hplan]; rfl⟩
  · refine congrArg Host.Outcome.next (if_neg ?_)
    simp [hsel]
  · have hexec : exec .variantSwitch s = .next ((s.governedBy v p).raise Src.pln 5 v) :=
      congrArg Host.Outcome.next (State.switchVariant_due hsw hk hp)
    obtain ⟨hvar, hat, hplan⟩ := s.governedBy_plan v p
    have htiles := State.governedBy_tiles hcan.tiles v p
    have htables : ∀ e ∈ (s.governedBy v p).plan.tables, _ := State.dropWeights_tables _
    have hframe := exec_frame _ _ _ hexec
    generalize s.governedBy v p = w at hexec hvar hat hplan htiles htables hframe
    exact ⟨_, hexec, hvar, hat, List.mem_append_right _ (List.mem_singleton.2 rfl), htiles, htables, hplan, hframe.mono (by decide)⟩
  · refine congrArg Host.Outcome.next (State.switchVariant_early fun w i hwi => ?_)
    rw [hsw] at hwi
    obtain ⟨-, rfl⟩ := Prod.mk.inj (Option.some.inj hwi)
    exact hk

end Sys2Proof.Machine
end

-- Command cells and the emit deadline -----------------------------------------------------------------------------------------------

section
/-! Command cells leave by the emit deadline or not at all (R28, R30, R31, R325, R380). A cell that leaves is a fold of `commandLeft`
over its entries; one that does not is a fold of overruns. The deadline is followed for one loop that no cell names. -/
namespace Sys2Proof.Machine

abbrev LoopsCanonical (s : State) : Prop := twf (fun _ => ({} : Loop)) s.loops = true

abbrev PorchesCanonical (s : State) : Prop := twf (fun _ => ({} : Porch)) s.porches = true

theorem LoopsCanonical.updLoop {s : State} (h : LoopsCanonical s) (l : Nat) (f : Loop → Loop) : LoopsCanonical (s.updLoop l f) :=
  twf_tupd h l f

theorem PorchesCanonical.updPorch {s : State} (h : PorchesCanonical s) (p : Nat) (f : Porch → Porch) :
    PorchesCanonical (s.updPorch p f) := twf_tupd h p f

theorem SameBut.loopsCanonical {l : List Part} {s t : State} (h : SameBut l s t) (hl : .loops ∉ l) (hs : LoopsCanonical s) :
    LoopsCanonical t := by
  have hloops : t.loops = s.loops := h .loops hl
  unfold LoopsCanonical
  rw [hloops]
  exact hs

theorem SameBut.porchesCanonical {l : List Part} {s t : State} (h : SameBut l s t) (hl : .porches ∉ l) (hs : PorchesCanonical s) :
    PorchesCanonical t := by
  have hporches : t.porches = s.porches := h .porches hl
  unfold PorchesCanonical
  rw [hporches]
  exact hs

-- The lists of loops

theorem keysAbove_of_twf {α : Type} [DecidableEq α] {d : Nat → α} {t : List (Nat × α)} (h : twf d t = true) :
    (t.map Prod.fst).Nodup := by
  unfold twf at h
  generalize (none : Option Nat) = lo at h
  induction t generalizing lo with
  | nil => exact List.nodup_nil
  | cons e t ih =>
    obtain ⟨-, -, ht⟩ := twfFrom_cons h
    refine List.nodup_cons.2 ⟨fun hmem => ?_, ih _ ht⟩
    obtain ⟨p, hp, heq⟩ := List.mem_map.1 hmem
    have hlt : e.1 < p.1 := twfFrom_keysAbove ht _ hp
    omega

theorem State.loopsWhere_nodup {s : State} (h : LoopsCanonical s) (q : Nat → Loop → Bool) : (s.loopsWhere q).Nodup :=
  (keysAbove_of_twf h).sublist (List.Sublist.map _ List.filter_sublist)

/-- An entry that does not read as its reset value is listed. -/
theorem mem_of_tget_ne {α : Type} [DecidableEq α] {d : Nat → α} {t : List (Nat × α)} {k : Nat} (h : tget d t k ≠ d k) :
    (k, tget d t k) ∈ t := by
  induction t with
  | nil => exact absurd rfl h
  | cons e t ih =>
    obtain ⟨j, v⟩ := e
    by_cases hj : j = k
    · subst hj
      simp [tget]
    · simp only [tget, if_neg hj] at h ⊢
      exact List.mem_cons_of_mem _ (ih h)

theorem State.mem_loopsWhere {s : State} {q : Nat → Loop → Bool} {l : Nat} (hq : q l (s.loop l) = true) (hd : q l {} = false) :
    l ∈ s.loopsWhere q := by
  have hne : s.loop l ≠ {} := fun he => by rw [he, hd] at hq; exact absurd hq (by decide)
  exact List.mem_map.2 ⟨(l, s.loop l), List.mem_filter.2 ⟨mem_of_tget_ne hne, hq⟩, rfl⟩

-- Commands that leave

/-- The loop whose command of a frame has left. -/
def Loop.left (x : Loop) (tick : Nat) (u : Int) : Loop :=
  { x with
    heldCmd := u, sentCmds := (enterCmd tick u x.cmdList).take 4, ovrRun := 0
    now := { x.now with cmdTick := tick, cmd := u, sent := true } }

theorem State.commandLeft_canonical {s : State} (h : LoopsCanonical s) (e : Nat × Int) : LoopsCanonical (s.commandLeft e) :=
  (h.updLoop _ _).updLoop _ _

theorem State.loop_commandLeft_self {s : State} (h : LoopsCanonical s) (e : Nat × Int) :
    (s.commandLeft e).loop e.1 = (s.loop e.1).left (s.hrt.frame + 1) e.2 := by
  unfold State.commandLeft State.keepCommand
  rw [State.loop_updLoop_self (h.updLoop _ _), State.loop_updLoop_self h]
  rfl

theorem State.loop_commandLeft_ne (s : State) {e : Nat × Int} {l : Nat} (hl : l ≠ e.1) : (s.commandLeft e).loop l = s.loop l := by
  unfold State.commandLeft State.keepCommand
  rw [State.loop_updLoop_ne _ _ hl, State.loop_updLoop_ne _ _ hl]

/-- The commands of the listed entries have left. -/
def State.commandsLeft (s : State) (es : List (Nat × Int)) : State := es.foldl State.commandLeft s

theorem State.commandsLeft_frame (s : State) (es : List (Nat × Int)) : SameBut [.loops] s (s.commandsLeft es) :=
  SameBut.foldl (fun u e => u.commandLeft_frame e) (.refl _ _) es

theorem State.commandsLeft_canonical {s : State} (h : LoopsCanonical s) (es : List (Nat × Int)) :
    LoopsCanonical (s.commandsLeft es) := by
  induction es generalizing s with
  | nil => exact h
  | cons e es ih => exact ih (State.commandLeft_canonical h e)

theorem State.loop_commandsLeft_ne (s : State) {es : List (Nat × Int)} {l : Nat} (hl : l ∉ es.map Prod.fst) :
    (s.commandsLeft es).loop l = s.loop l := by
  induction es generalizing s with
  | nil => rfl
  | cons e es ih =>
    have h1 : l ≠ e.1 := fun h => hl (by simp [h])
    exact (ih (s.commandLeft e) fun h => hl (by simp [h])).trans (s.loop_commandLeft_ne h1)

/-- Once an entry has named a loop with a command, and none with another, the loop holds it. -/
theorem State.loop_commandsLeft_held {s : State} (h : LoopsCanonical s) {es : List (Nat × Int)} {l : Nat} {u : Int}
    (hu : ∀ e ∈ es, e.1 = l → e.2 = u)
    (hl : l ∈ es.map Prod.fst ∨ (s.loop l).heldCmd = u ∧ (s.loop l).ovrRun = 0) :
    ((s.commandsLeft es).loop l).heldCmd = u ∧ ((s.commandsLeft es).loop l).ovrRun = 0 := by
  induction es generalizing s with
  | nil => exact hl.resolve_left (by simp)
  | cons e es ih =>
    refine ih (State.commandLeft_canonical h e) (fun f hf => hu f (List.mem_cons_of_mem _ hf)) ?_
    by_cases he : e.1 = l
    · refine .inr ?_
      subst he
      rw [State.loop_commandLeft_self h]
      exact ⟨hu e (List.mem_cons_self ..) rfl, rfl⟩
    · rw [State.loop_commandLeft_ne s (Ne.symm he)]
      refine hl.imp (fun hmem => ?_) id
      simpa [Ne.symm he] using hmem

theorem State.commandsLeft_ready {s : State} (h : LoopsCanonical s) (es : List (Nat × Int)) (l : Nat) :
    ((s.commandsLeft es).loop l).ready = (s.loop l).ready := by
  induction es generalizing s with
  | nil => rfl
  | cons e es ih =>
    refine (ih (State.commandLeft_canonical h e)).trans ?_
    by_cases he : l = e.1
    · subst he
      rw [State.loop_commandLeft_self h]
      rfl
    · rw [State.loop_commandLeft_ne s he]

-- What is sent stays in the queues

theorem mem_enqueue {x : Nat × TxCell} {prio : Nat} {c : TxCell} {q : List (Nat × TxCell)} :
    x ∈ enqueue prio c q ↔ x = (prio, c) ∨ x ∈ q := by
  induction q with
  | nil => simp [enqueue]
  | cons e q ih =>
    obtain ⟨p, d⟩ := e
    unfold enqueue
    split
    · simp
    · simp only [List.mem_cons, ih]
      exact or_left_comm

/-- The queues of a canonical porch table only grow, and what is still open stays as it is. -/
structure QueuesGrow (s t : State) : Prop where
  canonical : PorchesCanonical t
  sent      : ∀ p, ∀ x ∈ (s.porch p).sent, x ∈ (t.porch p).sent
  openCell  : ∀ p, (t.porch p).openCell = (s.porch p).openCell

theorem QueuesGrow.refl {s : State} (h : PorchesCanonical s) : QueuesGrow s s := ⟨h, fun _ _ => id, fun _ => rfl⟩

theorem QueuesGrow.trans {s t u : State} (h : QueuesGrow s t) (k : QueuesGrow t u) : QueuesGrow s u :=
  ⟨k.canonical, fun p x hx => k.sent p x (h.sent p x hx), fun p => (k.openCell p).trans (h.openCell p)⟩

theorem SameBut.queuesGrow {l : List Part} {s t : State} (h : SameBut l s t) (hl : .porches ∉ l) (hs : PorchesCanonical s) :
    QueuesGrow s t :=
  ⟨h.porchesCanonical hl hs, fun p x hx => by rw [h.porch_eq hl]; exact hx, fun p => by rw [h.porch_eq hl]⟩

/-- What a porch that can send holds after a send. -/
theorem State.porches_send {s : State} {p : Nat} (h : ¬(s.boot.stopped || decide ((s.porch p).squelch % 256 = 255)) = true)
    (prio : Nat) (c : TxCell) :
    (s.send p prio c).porches
      = (s.updPorch p fun q => { q with sent := enqueue prio c q.sent, txSeq := (q.txSeq + 1) % 65536 }).porches := by
  unfold State.send
  rw [if_neg h]
  by_cases hguard : prio < prioFrame <;> cases c <;> simp [hguard]

theorem State.send_grows {s : State} (h : PorchesCanonical s) (p prio : Nat) (c : TxCell) : QueuesGrow s (s.send p prio c) := by
  by_cases hs : (s.boot.stopped || decide ((s.porch p).squelch % 256 = 255)) = true
  · have he : s.send p prio c = s := if_pos hs
    rw [he]
    exact .refl h
  · have hp := State.porches_send hs prio c
    have hq : ∀ q, (s.send p prio c).porch q
        = (s.updPorch p fun q => { q with sent := enqueue prio c q.sent, txSeq := (q.txSeq + 1) % 65536 }).porch q :=
      fun q => congrArg (fun t => tget (fun _ => ({} : Porch)) t q) hp
    refine ⟨?_, fun q x hx => ?_, fun q => ?_⟩
    · unfold PorchesCanonical
      rw [hp]
      exact h.updPorch p _
    · rw [hq]
      by_cases hqp : q = p
      · subst hqp
        rw [State.porch_updPorch_self h]
        exact mem_enqueue.2 (.inr hx)
      · rw [State.porch_updPorch_ne _ _ hqp]
        exact hx
    · rw [hq]
      by_cases hqp : q = p
      · subst hqp
        rw [State.porch_updPorch_self h]
      · rw [State.porch_updPorch_ne _ _ hqp]

theorem State.mem_sent_send {s : State} (h : PorchesCanonical s) {p : Nat} (hs : s.boot.stopped = false)
    (hq : (s.porch p).squelch % 256 ≠ 255) (prio : Nat) (c : TxCell) : (prio, c) ∈ ((s.send p prio c).porch p).sent := by
  have hp := State.porches_send (s := s) (p := p) (by simp [hs, hq]) prio c
  have hqe : (s.send p prio c).porch p
      = (s.updPorch p fun q => { q with sent := enqueue prio c q.sent, txSeq := (q.txSeq + 1) % 65536 }).porch p :=
    congrArg (fun t => tget (fun _ => ({} : Porch)) t p) hp
  rw [hqe, State.porch_updPorch_self h]
  exact mem_enqueue.2 (.inl rfl)

theorem State.sendAll_grows {s : State} (h : PorchesCanonical s) (ps : List Nat) (prio : Nat) (c : TxCell) :
    QueuesGrow s (State.sendAll ps prio c s) := by
  induction ps generalizing s with
  | nil => exact .refl h
  | cons p ps ih => exact (State.send_grows h p prio c).trans (ih (State.send_grows h p prio c).canonical)

theorem QueuesGrow.ite {s a b : State} {c : Prop} [Decidable c] (ha : QueuesGrow s a) (hb : QueuesGrow s b) :
    QueuesGrow s (if c then a else b) := by split <;> assumption

-- A cell that closes

/-- The COMMAND cell that a porch closes. -/
def State.closedCell (s : State) (p : Nat) : CommandCell :=
  { applyTick := (s.hrt.frame + 1) % 2 ^ 32, epoch := s.cellEpoch, porch := p, side := s.twn.side, fill := false
    entries := (s.porch p).openCell.entries }

/-- The porch whose cell has been taken. -/
def State.cellTaken (s : State) (p : Nat) : State := s.updPorch p fun q => { q with openCell := {} }

/-- The cell is sent, with its copies on the Landing and on MONITOR porches. -/
def State.cellSent (s : State) (p : Nat) : State :=
  let c := TxCell.command (s.closedCell p)
  let u := (s.cellTaken p).send p prioFrame c
  let u := if u.commands && decide (u.twn.role = .active) then State.sendAll u.landing.toList prioFrame c u else u
  if u.commands then State.sendAll (u.readyOf 5) prioFrame c u else u

theorem State.cellSent_frame (s : State) (p : Nat) : SameBut [.regs, .porches, .free] s (s.cellSent p) := by
  have hsend : SameBut [.regs, .porches, .free] s ((s.cellTaken p).send p prioFrame (.command (s.closedCell p))) :=
    (State.send_frame _ _ _ _).after (by decide) ((s.updPorch_frame p _).mono (by decide))
  unfold State.cellSent
  dsimp only
  refine SameBut.ite ((State.sendAll_frame _ _ _ _).after (by decide) ?_) ?_
  · exact SameBut.ite ((State.sendAll_frame _ _ _ _).after (by decide) hsend) hsend
  · exact SameBut.ite ((State.sendAll_frame _ _ _ _).after (by decide) hsend) hsend

theorem State.cellSent_grows {s : State} (h : PorchesCanonical s) (p : Nat) :
    QueuesGrow ((s.cellTaken p).send p prioFrame (.command (s.closedCell p))) (s.cellSent p) := by
  have h1 := State.send_grows (h.updPorch p fun q => { q with openCell := {} }) p prioFrame (.command (s.closedCell p))
  unfold State.cellSent State.cellTaken at *
  dsimp only
  have h2 : ∀ u : State, PorchesCanonical u → QueuesGrow u
      (if u.commands && decide (u.twn.role = .active) then
        State.sendAll u.landing.toList prioFrame (.command (s.closedCell p)) u else u) :=
    fun u hu => .ite (State.sendAll_grows hu _ _ _) (.refl hu)
  have h3 := h2 _ h1.canonical
  exact .ite (h3.trans (State.sendAll_grows h3.canonical _ _ _)) h3

theorem State.closeCell_empty {s : State} {p : Nat} (h : (s.porch p).openCell.entries = []) (b : Bool) :
    s.closeCell p b = s.cellTaken p := by
  unfold State.closeCell
  dsimp only
  rw [if_pos (by simp [h])]
  rfl

theorem State.closeCell_inTime {s : State} {p : Nat} (h : (s.porch p).openCell.entries ≠ []) :
    s.closeCell p true = (s.cellSent p).commandsLeft (s.porch p).openCell.entries := by
  unfold State.closeCell
  dsimp only
  rw [if_neg (by simpa using h), if_pos rfl]
  rfl

theorem State.porch_taken_self {s : State} (h : PorchesCanonical s) (p : Nat) :
    (s.cellTaken p).porch p = { s.porch p with openCell := {} } := State.porch_updPorch_self h p _

theorem State.porch_taken_ne (s : State) {p q : Nat} (h : q ≠ p) : (s.cellTaken p).porch q = s.porch q := s.porch_updPorch_ne _ h

theorem State.cellSent_openCell {s : State} (h : PorchesCanonical s) (p q : Nat) :
    ((s.cellSent p).porch q).openCell = if q = p then {} else (s.porch q).openCell := by
  have hsend := State.send_grows (h.updPorch p fun q => { q with openCell := {} }) p prioFrame (.command (s.closedCell p))
  refine ((hsend.trans (State.cellSent_grows h p)).openCell q).trans ?_
  split
  next hq => subst hq; exact congrArg Porch.openCell (State.porch_taken_self h q)
  next hq => exact congrArg Porch.openCell (s.porch_taken_ne hq)

theorem State.mem_sent_taken {s : State} (h : PorchesCanonical s) {p : Nat} (hs : s.boot.stopped = false)
    (hq : (s.porch p).squelch % 256 ≠ 255) :
    (prioFrame, TxCell.command (s.closedCell p))
      ∈ (((s.cellTaken p).send p prioFrame (.command (s.closedCell p))).porch p).sent := by
  have hstopped : (s.cellTaken p).boot.stopped = false := hs
  have hsquelch : ((s.cellTaken p).porch p).squelch % 256 ≠ 255 := by
    rw [State.porch_taken_self h]
    exact hq
  have hcan : PorchesCanonical (s.cellTaken p) := h.updPorch p _
  generalize s.cellTaken p = u at hstopped hsquelch hcan ⊢
  exact State.mem_sent_send hcan hstopped hsquelch _ _

/-- A cell that leaves in time. -/
theorem State.closeCell_effect {s : State} (h : Canonical s) {p : Nat} (hne : (s.porch p).openCell.entries ≠ [])
    (hnodup : ((s.porch p).openCell.entries.map Prod.fst).Nodup) :
    ((s.closeCell p true).porch p).openCell = {}
      ∧ (∀ e ∈ (s.porch p).openCell.entries,
          ((s.closeCell p true).loop e.1).heldCmd = e.2 ∧ ((s.closeCell p true).loop e.1).ovrRun = 0)
      ∧ (s.boot.stopped = false → (s.porch p).squelch % 256 ≠ 255 →
          (prioFrame, TxCell.command (s.closedCell p)) ∈ ((s.closeCell p true).porch p).sent)
      ∧ (∀ l, l ∉ (s.porch p).openCell.entries.map Prod.fst → (s.closeCell p true).loop l = s.loop l) := by
  have hsent := s.cellSent_frame p
  have hloops : LoopsCanonical (s.cellSent p) := hsent.loopsCanonical (by decide) h.loops
  have hleft := (s.cellSent p).commandsLeft_frame (s.porch p).openCell.entries
  have hsame : ∀ e ∈ (s.porch p).openCell.entries, ∀ f ∈ (s.porch p).openCell.entries, f.1 = e.1 → f.2 = e.2 :=
    fun e he f hf hfe => congrArg Prod.snd (eq_of_nodup_map hnodup hf he hfe)
  rw [State.closeCell_inTime hne]
  refine ⟨?_, fun e he => ?_, fun hs hq => ?_, fun l hl => ?_⟩
  · rw [hleft.porch_eq (by decide), State.cellSent_openCell h.porches, if_pos rfl]
  · exact State.loop_commandsLeft_held hloops (hsame e he) (.inl (List.mem_map_of_mem he))
  · rw [hleft.porch_eq (by decide)]
    exact (State.cellSent_grows h.porches p).sent p _ (State.mem_sent_taken h.porches hs hq)
  · rw [State.loop_commandsLeft_ne _ hl, hsent.loop_eq (by decide)]

-- A cell that cannot leave

/-- Overruns of some loops: every loop keeps its held command, none that is in no cell gets into one, and no overrun is taken back. -/
structure OverrunOnly (s t : State) : Prop where
  canonical : LoopsCanonical t
  held      : ∀ l, (t.loop l).heldCmd = (s.loop l).heldCmd
  celled    : ∀ l, (s.loop l).celled = false → (t.loop l).celled = false
  ovr       : ∀ l, l ∈ s.hrt.ovrNow → l ∈ t.hrt.ovrNow
  porches   : t.porches = s.porches

theorem OverrunOnly.refl {s : State} (h : LoopsCanonical s) : OverrunOnly s s := ⟨h, fun _ => rfl, fun _ => id, fun _ => id, rfl⟩

theorem OverrunOnly.trans {s t u : State} (h : OverrunOnly s t) (k : OverrunOnly t u) : OverrunOnly s u :=
  ⟨k.canonical, fun l => (k.held l).trans (h.held l), fun l => k.celled l ∘ h.celled l, fun l => k.ovr l ∘ h.ovr l,
    k.porches.trans h.porches⟩

theorem State.updLoop_overrunOnly {s : State} (h : LoopsCanonical s) (l : Nat) {f : Loop → Loop}
    (hheld : ∀ x, (f x).heldCmd = x.heldCmd) (hcelled : ∀ x, x.celled = false → (f x).celled = false) :
    OverrunOnly s (s.updLoop l f) := by
  refine ⟨h.updLoop l f, fun k => ?_, fun k hk => ?_, fun _ => id, rfl⟩
  · by_cases hkl : k = l
    · subst hkl
      rw [State.loop_updLoop_self h, hheld]
    · rw [State.loop_updLoop_ne _ _ hkl]
  · by_cases hkl : k = l
    · subst hkl
      rw [State.loop_updLoop_self h]
      exact hcelled _ hk
    · rw [State.loop_updLoop_ne _ _ hkl]
      exact hk

theorem State.loops_loopOverrun (s : State) (l : Nat) :
    (s.loopOverrun l).loops = if s.hrt.ovrNow.contains l then s.loops
      else (s.updLoop l fun x => { x with ovrRun := x.ovrRun + 1 }).loops := by
  unfold State.loopOverrun
  split <;> rfl

theorem State.ovrNow_loopOverrun (s : State) (l : Nat) :
    (s.loopOverrun l).hrt.ovrNow = if s.hrt.ovrNow.contains l then s.hrt.ovrNow else s.hrt.ovrNow ++ [l] := by
  unfold State.loopOverrun
  split <;> rfl

theorem State.mem_ovrNow_loopOverrun (s : State) (l k : Nat) :
    k ∈ (s.loopOverrun l).hrt.ovrNow ↔ k = l ∨ k ∈ s.hrt.ovrNow := by
  rw [State.ovrNow_loopOverrun]
  split
  next h =>
    have hl : l ∈ s.hrt.ovrNow := by simpa using h
    exact ⟨.inr, fun hk => hk.elim (fun he => he ▸ hl) id⟩
  · rw [List.mem_append, List.mem_singleton, or_comm]

theorem State.loopOverrun_only {s : State} (h : LoopsCanonical s) (l : Nat) : OverrunOnly s (s.loopOverrun l) := by
  have hframe := s.loopOverrun_frame l
  have hu := State.updLoop_overrunOnly h l (f := fun x => { x with ovrRun := x.ovrRun + 1 }) (fun _ => rfl) fun _ => id
  have hovr : ∀ k, k ∈ s.hrt.ovrNow → k ∈ (s.loopOverrun l).hrt.ovrNow := fun k hk => (s.mem_ovrNow_loopOverrun l k).2 (.inr hk)
  have hl := s.loops_loopOverrun l
  have hp : (s.loopOverrun l).porches = s.porches := hframe .porches (by decide)
  split at hl
  · refine ⟨?_, fun k => ?_, fun k hk => ?_, hovr, hp⟩
    · unfold LoopsCanonical; rw [hl]; exact h
    · unfold State.loop; rw [hl]
    · unfold State.loop at hk ⊢; rw [hl]; exact hk
  · refine ⟨?_, fun k => ?_, fun k hk => ?_, hovr, hp⟩
    · unfold LoopsCanonical; rw [hl]; exact hu.canonical
    · have := hu.held k; unfold State.loop at this ⊢; rw [hl]; exact this
    · have := hu.celled k hk; unfold State.loop at this ⊢; rw [hl]; exact this

theorem State.overrunState_only {s : State} (h : LoopsCanonical s) (l : Nat) : OverrunOnly s (s.overrunState l) := by
  refine State.updLoop_overrunOnly h l (fun x => ?_) fun x hx => ?_
  · dsimp only
    split <;> rfl
  · dsimp only
    split <;> exact hx

/-- One loop of a cell that is withdrawn. -/
def State.withdrawEntry (s : State) (e : Nat × Int) : State :=
  ((s.loopOverrun e.1).overrunState e.1).updLoop e.1 fun x => { x with celled := false }

theorem State.overran_only {s : State} (h : LoopsCanonical s) (l : Nat) : OverrunOnly s ((s.loopOverrun l).overrunState l) :=
  (State.loopOverrun_only h l).trans (State.overrunState_only (State.loopOverrun_only h l).canonical l)

theorem State.withdrawn_only {s : State} (h : LoopsCanonical s) (e : Nat × Int) : OverrunOnly s (s.withdrawEntry e) :=
  (State.overran_only h e.1).trans (State.updLoop_overrunOnly (State.overran_only h e.1).canonical e.1 (fun _ => rfl) fun _ _ => rfl)

theorem State.withdrawn_self {s : State} (h : LoopsCanonical s) (e : Nat × Int) :
    e.1 ∈ (s.withdrawEntry e).hrt.ovrNow ∧ ((s.withdrawEntry e).loop e.1).celled = false := by
  refine ⟨?_, ?_⟩
  · exact (s.mem_ovrNow_loopOverrun e.1 e.1).2 (.inl rfl)
  · unfold State.withdrawEntry
    rw [State.loop_updLoop_self (State.overran_only h e.1).canonical]

theorem State.withdrawnAll {s : State} (h : LoopsCanonical s) (es : List (Nat × Int)) :
    OverrunOnly s (es.foldl State.withdrawEntry s)
      ∧ ∀ e ∈ es, e.1 ∈ (es.foldl State.withdrawEntry s).hrt.ovrNow ∧ ((es.foldl State.withdrawEntry s).loop e.1).celled = false := by
  induction es generalizing s with
  | nil => exact ⟨.refl h, fun e he => by cases he⟩
  | cons e es ih =>
    have hone := State.withdrawn_only h e
    obtain ⟨hrest, hself⟩ := ih hone.canonical
    refine ⟨hone.trans hrest, fun f hf => ?_⟩
    rcases List.mem_cons.1 hf with rfl | hf
    · obtain ⟨ho, hc⟩ := State.withdrawn_self h f
      exact ⟨hrest.ovr _ ho, hrest.celled _ hc⟩
    · exact hself f hf

/-- A cell that cannot leave in time. -/
theorem State.closeCell_late {s : State} (h : Canonical s) (p : Nat) :
    ((s.closeCell p false).porch p).openCell = {} ∧ ((s.closeCell p false).porch p).sent = (s.porch p).sent
      ∧ (∀ e ∈ (s.porch p).openCell.entries, e.1 ∈ (s.closeCell p false).hrt.ovrNow
          ∧ ((s.closeCell p false).loop e.1).celled = false
          ∧ ((s.closeCell p false).loop e.1).heldCmd = (s.loop e.1).heldCmd) := by
  have htaken := State.porch_taken_self h.porches p
  by_cases hne : (s.porch p).openCell.entries = []
  · rw [State.closeCell_empty hne, htaken, hne]
    exact ⟨rfl, rfl, fun e he => by cases he⟩
  · let u := (s.cellTaken p).count (Reg.PCH_Pp_CMD p) 16 16 (s.porch p).openCell.entries.length
    have heq : s.closeCell p false = (s.porch p).openCell.entries.foldl State.withdrawEntry u := by
      unfold State.closeCell
      dsimp only
      rw [if_neg (by simpa using hne), if_neg (by decide)]
      rfl
    obtain ⟨honly, hself⟩ := State.withdrawnAll (s := u) h.loops (s.porch p).openCell.entries
    rw [← heq] at honly hself
    have hporch : (s.closeCell p false).porch p = (s.cellTaken p).porch p :=
      congrArg (fun t => tget (fun _ => ({} : Porch)) t p) honly.porches
    rw [hporch, htaken]
    exact ⟨rfl, rfl, fun e he => ⟨(hself e he).1, (hself e he).2, honly.held e.1⟩⟩

end Sys2Proof.Machine
end

-- The emit deadline and the late fill ---------------------------------------------------------------------------------------------

section
/-! The emit deadline, followed for one loop that no cell names, and the late fill of one loop (R28, R30, R31, R380). -/
namespace Sys2Proof.Machine

-- Cells that close without naming a loop

/-- From `s` to `t` cells of other loops than `l` have been filled or have left: the loop stands, and no open cell names it. -/
structure LoopAside (l : Nat) (s t : State) : Prop where
  loops   : LoopsCanonical t
  porches : PorchesCanonical t
  loop    : t.loop l = s.loop l
  hrt     : t.hrt = s.hrt
  aside   : ∀ p, ∀ e ∈ (t.porch p).openCell.entries, e.1 ≠ l

/-- A state whose open cells do not name the loop. -/
structure Aside (l : Nat) (s : State) : Prop where
  loops   : LoopsCanonical s
  porches : PorchesCanonical s
  aside   : ∀ p, ∀ e ∈ (s.porch p).openCell.entries, e.1 ≠ l

theorem LoopAside.refl {l : Nat} {s : State} (h : Aside l s) : LoopAside l s s := ⟨h.loops, h.porches, rfl, rfl, h.aside⟩

theorem LoopAside.still {l : Nat} {s t : State} (h : LoopAside l s t) : Aside l t := ⟨h.loops, h.porches, h.aside⟩

theorem LoopAside.trans {l : Nat} {s t u : State} (h : LoopAside l s t) (k : LoopAside l t u) : LoopAside l s u :=
  ⟨k.loops, k.porches, k.loop.trans h.loop, k.hrt.trans h.hrt, k.aside⟩

theorem State.closeCell_openCell {s : State} (h : PorchesCanonical s) (p q : Nat) :
    ((s.closeCell p true).porch q).openCell = if q = p then {} else (s.porch q).openCell := by
  by_cases hne : (s.porch p).openCell.entries = []
  · rw [State.closeCell_empty hne]
    split
    next hq => subst hq; exact congrArg Porch.openCell (State.porch_taken_self h q)
    next hq => exact congrArg Porch.openCell (s.porch_taken_ne hq)
  · rw [State.closeCell_inTime hne, ((s.cellSent p).commandsLeft_frame _).porch_eq (by decide), State.cellSent_openCell h]

theorem State.closeCell_canonical {s : State} (h : PorchesCanonical s) (hl : LoopsCanonical s) (p : Nat) :
    PorchesCanonical (s.closeCell p true) ∧ LoopsCanonical (s.closeCell p true) ∧ (s.closeCell p true).hrt = s.hrt := by
  by_cases hne : (s.porch p).openCell.entries = []
  · rw [State.closeCell_empty hne]
    exact ⟨h.updPorch p _, hl, rfl⟩
  · rw [State.closeCell_inTime hne]
    have hsent := s.cellSent_frame p
    have hleft := (s.cellSent p).commandsLeft_frame (s.porch p).openCell.entries
    exact ⟨hleft.porchesCanonical (by decide) (State.cellSent_grows h p).canonical,
      State.commandsLeft_canonical (hsent.loopsCanonical (by decide) hl) _,
      (hleft .hrt (by decide)).trans (hsent .hrt (by decide))⟩

theorem State.closeCell_aside {l : Nat} {s : State} (h : Aside l s) (p : Nat) : LoopAside l s (s.closeCell p true) := by
  obtain ⟨hp, hl, hhrt⟩ := State.closeCell_canonical h.porches h.loops p
  refine ⟨hl, hp, ?_, hhrt, fun q e he => ?_⟩
  · by_cases hne : (s.porch p).openCell.entries = []
    · rw [State.closeCell_empty hne]
      rfl
    · have hout : l ∉ (s.porch p).openCell.entries.map Prod.fst := fun hmem => by
        obtain ⟨e, he, heq⟩ := List.mem_map.1 hmem
        exact h.aside p e he heq
      rw [State.closeCell_inTime hne, State.loop_commandsLeft_ne _ hout, (s.cellSent_frame p).loop_eq (by decide)]
  · rw [State.closeCell_openCell h.porches] at he
    split at he
    · cases he
    · exact h.aside q e he

/-- The porch whose open cell has taken an entry. -/
def State.addEntry (s : State) (p : Nat) (e : Nat × Int) : State :=
  s.updPorch p fun q => { q with openCell := { q.openCell with entries := q.openCell.entries ++ [e] } }

/-- A porch that takes an entry of another loop. -/
theorem State.addEntry_aside {l : Nat} {s : State} (h : Aside l s) (p : Nat) {e : Nat × Int} (he : e.1 ≠ l) :
    LoopAside l s (s.addEntry p e) := by
  unfold State.addEntry
  refine ⟨h.loops, h.porches.updPorch p _, rfl, rfl, fun q f hf => ?_⟩
  by_cases hq : q = p
  · subst hq
    rw [State.porch_updPorch_self h.porches] at hf
    rcases List.mem_append.1 hf with hf | hf
    · exact h.aside q f hf
    · rw [List.mem_singleton.1 hf]
      exact he
  · rw [State.porch_updPorch_ne _ _ hq] at hf
    exact h.aside q f hf

/-- The loop whose command is in a cell. -/
def State.putInCell (s : State) (l : Nat) : State := s.updLoop l fun x => { x with celled := true }

theorem State.putInCell_aside {l k : Nat} {s : State} (h : Aside l s) (hk : k ≠ l) : LoopAside l s (s.putInCell k) :=
  ⟨h.loops.updLoop k _, h.porches, State.loop_updLoop_ne _ _ (Ne.symm hk), rfl, h.aside⟩

theorem State.addCommand_aside {l k : Nat} {s : State} (h : Aside l s) (hk : k ≠ l) (u : Int) :
    LoopAside l s (s.addCommand k u) := by
  unfold State.addCommand
  split
  next p _ =>
    have hcelled := State.putInCell_aside h hk
    have hentry := hcelled.trans (State.addEntry_aside hcelled.still p (e := (k, u)) hk)
    change LoopAside l s (if ((s.putInCell k).porch p).state = .ready then
      if 126 ≤ (((s.putInCell k).addEntry p (k, u)).porch p).openCell.entries.length then
        ((s.putInCell k).addEntry p (k, u)).closeCell p true else (s.putInCell k).addEntry p (k, u)
      else s.putInCell k)
    split
    · split
      · exact hentry.trans (State.closeCell_aside hentry.still p)
      · exact hentry
    · exact hcelled
  · exact .refl h

theorem LoopAside.each {l : Nat} {ks : List Nat} {f : Nat → State → State}
    (hf : ∀ k ∈ ks, ∀ s, Aside l s → LoopAside l s (f k s)) {s : State} (h : Aside l s) : LoopAside l s (State.each ks f s) := by
  induction ks generalizing s with
  | nil => exact .refl h
  | cons k ks ih =>
    have hone := hf k (List.mem_cons_self ..) s h
    exact hone.trans (ih (fun i hi => hf i (List.mem_cons_of_mem _ hi)) hone.still)

/-- The state at the deadline once frozen loops have sent their commands and every open cell has closed. -/
def State.cellsClosed (s : State) : State :=
  let frozen := s.loopsWhere fun _ x => decide (x.cls = .freeze) && !x.celled && !x.excused
  let s := if s.sendsOwn && !s.bridging then s.each frozen fun l s => s.addCommand l (s.loop l).frzCmd else s
  s.each (List.range 16) fun p s => s.closeCell p true

theorem State.cellsClosed_aside {l : Nat} {s : State} (h : Aside l s) (hcls : (s.loop l).cls ≠ .freeze) :
    LoopAside l s s.cellsClosed := by
  have hfrozen : ∀ k ∈ s.loopsWhere (fun _ x => decide (x.cls = .freeze) && !x.celled && !x.excused), k ≠ l := fun k hk hkl => by
    have hq := State.of_mem_loopsWhere h.loops hk
    rw [hkl] at hq
    simp [hcls] at hq
  unfold State.cellsClosed
  dsimp only
  have hadd : LoopAside l s (if s.sendsOwn && !s.bridging then
      s.each (s.loopsWhere fun _ x => decide (x.cls = .freeze) && !x.celled && !x.excused) fun l s =>
        s.addCommand l (s.loop l).frzCmd else s) := by
    split
    · exact .each (fun k hk u hu => State.addCommand_aside hu (hfrozen k hk) _) h
    · exact .refl h
  exact hadd.trans (.each (fun p _ u hu => State.closeCell_aside hu p) hadd.still)

theorem State.each_closeCell_openCell {s : State} (h : PorchesCanonical s) (hl : LoopsCanonical s) {ps : List Nat} (hps : ps.Nodup)
    (p : Nat) :
    ((State.each ps (fun p s => s.closeCell p true) s).porch p).openCell = if p ∈ ps then {} else (s.porch p).openCell :=
  State.each_at (P := fun s => PorchesCanonical s ∧ LoopsCanonical s) (get := fun s p => (s.porch p).openCell) (g := fun _ _ => {})
    (fun p u hu => ⟨(State.closeCell_canonical hu.1 hu.2 p).1, (State.closeCell_canonical hu.1 hu.2 p).2.1⟩)
    (fun p u hu => (State.closeCell_openCell hu.1 p p).trans (if_pos rfl))
    (fun p q u hu hq => (State.closeCell_openCell hu.1 p q).trans (if_neg hq)) hps ⟨h, hl⟩ p

-- The overruns of the deadline

/-- What the deadline leaves of a loop that overran already, or that sends nothing. -/
structure DeadlineKeeps (s t : State) : Prop where
  loops   : LoopsCanonical t
  porches : PorchesCanonical t
  ovr     : t.hrt.ovrNow = s.hrt.ovrNow
  loop    : ∀ l, (t.loop l).ovrRun = (s.loop l).ovrRun ∧ (t.loop l).heldCmd = (s.loop l).heldCmd
  cells   : ∀ p, (s.porch p).openCell = {} → (t.porch p).openCell = {}

theorem DeadlineKeeps.refl {s : State} (hl : LoopsCanonical s) (hp : PorchesCanonical s) : DeadlineKeeps s s :=
  ⟨hl, hp, rfl, fun _ => ⟨rfl, rfl⟩, fun _ => id⟩

theorem DeadlineKeeps.trans {s t u : State} (h : DeadlineKeeps s t) (k : DeadlineKeeps t u) : DeadlineKeeps s u :=
  ⟨k.loops, k.porches, k.ovr.trans h.ovr, fun l => ⟨(k.loop l).1.trans (h.loop l).1, (k.loop l).2.trans (h.loop l).2⟩,
    fun p => k.cells p ∘ h.cells p⟩

theorem SameBut.deadlineKeeps {ps : List Part} {s t : State} (h : SameBut ps s t) (hloops : .loops ∉ ps) (hporches : .porches ∉ ps)
    (hhrt : t.hrt.ovrNow = s.hrt.ovrNow) (hl : LoopsCanonical s) (hp : PorchesCanonical s) : DeadlineKeeps s t :=
  ⟨h.loopsCanonical hloops hl, h.porchesCanonical hporches hp, hhrt,
    fun l => by rw [h.loop_eq hloops]; exact ⟨rfl, rfl⟩, fun p hc => by rw [h.porch_eq hporches]; exact hc⟩

theorem State.dropOpen_keeps {s : State} (hl : LoopsCanonical s) (hp : PorchesCanonical s) : DeadlineKeeps s s.dropOpen := by
  refine ⟨twf_tmap hl _, twf_tmap hp _, rfl, fun l => ?_, fun p _ => ?_⟩
  · have hloop : s.dropOpen.loop l = { s.loop l with celled := false } := tget_tmap hl (fun _ => rfl) l
    rw [hloop]
    exact ⟨rfl, rfl⟩
  · have hporch : s.dropOpen.porch p = { s.porch p with openCell := {} } := tget_tmap hp (fun _ => rfl) p
    rw [hporch]

theorem State.giveUp_keeps {s : State} (hl : LoopsCanonical s) (hp : PorchesCanonical s) (cause : Nat) :
    DeadlineKeeps s (s.giveUp cause) := by
  have hdrop := State.dropOpen_keeps hl hp
  exact hdrop.trans (SameBut.deadlineKeeps (ps := [.twn, .att])
    ((State.recordWithdrawal_frame _ _).after (by decide) ((SameBut.twn_frame _ _).mono (by decide))) (by decide) (by decide) rfl
    hdrop.loops hdrop.porches)

theorem State.sendAll_keeps {s : State} (hl : LoopsCanonical s) (hp : PorchesCanonical s) (ps : List Nat) (prio : Nat) (c : TxCell) :
    DeadlineKeeps s (State.sendAll ps prio c s) := by
  have hframe := State.sendAll_frame ps prio c s
  have hgrow := State.sendAll_grows hp ps prio c
  have hhrt : (State.sendAll ps prio c s).hrt = s.hrt := hframe .hrt (by decide)
  exact ⟨hframe.loopsCanonical (by decide) hl, hgrow.canonical, by rw [hhrt],
    fun l => by rw [hframe.loop_eq (by decide)]; exact ⟨rfl, rfl⟩, fun p hc => (hgrow.openCell p).trans hc⟩

theorem State.faultOn_keeps {s : State} (hl : LoopsCanonical s) (hp : PorchesCanonical s) (c : Nat) (other : Bool) :
    DeadlineKeeps s (s.faultOn c other) := by
  have hframe := s.faultOn_frame c other
  have hhrt : (s.faultOn c other).hrt = s.hrt := hframe .hrt (by decide)
  exact hframe.deadlineKeeps (by decide) (by decide) (by rw [hhrt]) hl hp

theorem State.withdraw_keeps {s : State} (hl : LoopsCanonical s) (hp : PorchesCanonical s) (reason code : Nat) :
    DeadlineKeeps s (s.withdraw reason code) := by
  have hsend : DeadlineKeeps s (s.sendWithdraw reason code) := State.sendAll_keeps hl hp _ _ _
  have hfault := hsend.trans (State.faultOn_keeps hsend.loops hsend.porches FaultCause.verdict true)
  exact hfault.trans (State.giveUp_keeps hfault.loops hfault.porches reason)

theorem State.soloOverrun_keeps {s : State} (hl : LoopsCanonical s) (hp : PorchesCanonical s) : DeadlineKeeps s s.soloOverrun := by
  unfold State.soloOverrun
  split
  · exact State.withdraw_keeps hl hp _ _
  · have hfault := State.faultOn_keeps hl hp FaultCause.soloOverrun true
    dsimp only
    refine hfault.trans (SameBut.deadlineKeeps (ps := [.hrt, .att])
      ((SameBut.hrt_frame _ _).after (by decide) ((State.record_frame _ _ _ _ _).mono (by decide))) (by decide) (by decide) rfl
      hfault.loops hfault.porches)

theorem State.guardEvent_keeps {s : State} (hl : LoopsCanonical s) (hp : PorchesCanonical s) (code : Nat) :
    DeadlineKeeps s (s.guardEvent code) := by
  have hhrt := s.guardEvent_hrt code
  exact (s.guardEvent_frame code).deadlineKeeps (by decide) (by decide) (by rw [hhrt]) hl hp

theorem State.verdict_keeps {s : State} (hl : LoopsCanonical s) (hp : PorchesCanonical s) (reason code : Nat) {solo : State → State}
    (hsolo : ∀ u, LoopsCanonical u → PorchesCanonical u → DeadlineKeeps u (solo u)) :
    DeadlineKeeps s (s.verdict reason code solo) := by
  have hg := State.guardEvent_keeps hl hp code
  have hk : DeadlineKeeps s ((s.guardEvent code).guardState code) := hg.trans (State.sendAll_keeps hg.loops hg.porches _ _ _)
  have hv := fun other => hk.trans (State.faultOn_keeps hk.loops hk.porches FaultCause.verdict other)
  unfold State.verdict
  dsimp only
  split
  · exact hg.trans (State.withdraw_keeps hg.loops hg.porches _ _)
  · exact hg.trans (hsolo _ hg.loops hg.porches)
  · exact (hv true).trans (State.giveUp_keeps (hv true).loops (hv true).porches _)
  · exact hv false
  · exact hv false

/-- The state in which the overrun of the frame has been told. -/
def State.overrunTold (s : State) : State := (s.raise Src.hrt 5).setReg Reg.HRT_OVR_LAST (BitVec.ofNat 64 s.hrt.frame)

/-- The state in which the overrun of the frame has been counted in its window. -/
def State.overrunCounted (s : State) : State :=
  ({ s.overrunTold with hrt := { s.overrunTold.hrt with ovrFrames := s.overrunTold.hrt.windowAfter } } : State).count
    Reg.HRT_OVR_TOTAL 0 32 1

theorem State.overrunTold_keeps {s : State} (hl : LoopsCanonical s) (hp : PorchesCanonical s) : DeadlineKeeps s s.overrunTold :=
  SameBut.deadlineKeeps (ps := [.regs, .events]) ((State.setReg_frame _ _ _).after (by decide) ((State.raise_frame _ _ _ _ _).mono
    (by decide))) (by decide) (by decide) rfl hl hp

theorem State.overrunCounted_keeps {s : State} (hl : LoopsCanonical s) (hp : PorchesCanonical s) :
    DeadlineKeeps s s.overrunCounted := by
  have htold := State.overrunTold_keeps hl hp
  exact htold.trans (SameBut.deadlineKeeps (ps := [.hrt, .regs]) ((State.count_frame _ _ _ _ _).after (by decide)
    ((SameBut.hrt_frame _ _).mono (by decide))) (by decide) (by decide) rfl htold.loops htold.porches)

theorem State.overrunFrame_keeps {s : State} (hl : LoopsCanonical s) (hp : PorchesCanonical s) : DeadlineKeeps s s.overrunFrame := by
  have hcounted := State.overrunCounted_keeps hl hp
  have hraised : DeadlineKeeps s.overrunCounted (s.overrunCounted.raise Src.hrt 7) :=
    SameBut.deadlineKeeps (State.raise_frame _ _ _ _ _) (by decide) (by decide) rfl hcounted.loops hcounted.porches
  have htold := State.overrunTold_keeps hl hp
  change DeadlineKeeps s (if s.hrt.ovrNow.isEmpty then s else if s.overrunTold.hrt.alignBy ≠ 0 then s.overrunTold else
    if s.overrunCounted.hrt.ovrFrames.length = 16 then
      (s.overrunCounted.raise Src.hrt 7).verdict 2 GuardCode.verdict State.soloOverrun else s.overrunCounted)
  split
  · exact .refl hl hp
  split
  · exact htold
  split
  · exact (hcounted.trans hraised).trans (State.verdict_keeps hraised.loops hraised.porches _ _ fun _ hu hv =>
      State.soloOverrun_keeps hu hv)
  · exact hcounted

-- The loops that miss the deadline

/-- A loop that overran. -/
def State.overran : Nat → State → State := fun l s => (s.loopOverrun l).overrunState l

/-- What an overrun shows of one loop: class, command and held command, the run of overruns, and whether it overran in the frame. -/
def State.overrunView (s : State) (l : Nat) : (LoopClass × Option Int × Int) × Nat × Bool :=
  (((s.loop l).cls, (s.loop l).ready, (s.loop l).heldCmd), (s.loop l).ovrRun, s.hrt.ovrNow.contains l)

theorem State.overran_canonical {s : State} (h : LoopsCanonical s) (l : Nat) : LoopsCanonical (State.overran l s) :=
  (State.overran_only h l).canonical

theorem State.loop_overrunState_ne (s : State) {l k : Nat} (hk : k ≠ l) : (s.overrunState l).loop k = s.loop k :=
  s.loop_updLoop_ne _ hk

theorem State.overrunState_view {s : State} (h : LoopsCanonical s) (l : Nat) :
    (s.overrunState l).overrunView l = s.overrunView l := by
  unfold State.overrunView State.overrunState
  rw [State.loop_updLoop_self h]
  dsimp only
  split <;> rfl

theorem State.loopOverrun_view {s : State} (h : LoopsCanonical s) (l : Nat) :
    (s.loopOverrun l).overrunView l
      = ((s.overrunView l).1, if (s.overrunView l).2.2 then (s.overrunView l).2.1 else (s.overrunView l).2.1 + 1, true) := by
  have hin : (s.loopOverrun l).hrt.ovrNow.contains l = true := by
    simpa using (s.mem_ovrNow_loopOverrun l l).2 (.inl rfl)
  have hloops := s.loops_loopOverrun l
  unfold State.overrunView
  rw [hin]
  cases hc : s.hrt.ovrNow.contains l with
  | true =>
    rw [hc, if_pos rfl] at hloops
    have hloop : (s.loopOverrun l).loop l = s.loop l := by unfold State.loop; rw [hloops]
    rw [hloop]
    rfl
  | false =>
    rw [hc, if_neg (by decide)] at hloops
    have hloop : (s.loopOverrun l).loop l = { s.loop l with ovrRun := (s.loop l).ovrRun + 1 } := by
      refine Eq.trans ?_ (State.loop_updLoop_self h l fun x => { x with ovrRun := x.ovrRun + 1 })
      unfold State.loop
      rw [hloops]
    rw [hloop]
    rfl

theorem State.loopOverrun_view_ne (s : State) {l k : Nat} (hk : k ≠ l) : (s.loopOverrun l).overrunView k = s.overrunView k := by
  have hloop : (s.loopOverrun l).loop k = s.loop k := by
    have hloops := s.loops_loopOverrun l
    split at hloops
    · unfold State.loop; rw [hloops]
    · refine Eq.trans ?_ (s.loop_updLoop_ne (i := l) (fun x => { x with ovrRun := x.ovrRun + 1 }) hk)
      unfold State.loop; rw [hloops]
  have hcontains : (s.loopOverrun l).hrt.ovrNow.contains k = s.hrt.ovrNow.contains k := by
    rw [Bool.eq_iff_iff]
    simpa [hk] using s.mem_ovrNow_loopOverrun l k
  unfold State.overrunView
  rw [hloop, hcontains]

theorem State.overran_view_ne (s : State) {l k : Nat} (hk : k ≠ l) : (State.overran l s).overrunView k = s.overrunView k := by
  refine Eq.trans ?_ (s.loopOverrun_view_ne hk)
  unfold State.overrunView State.overran
  rw [State.loop_overrunState_ne _ hk]
  rfl

/-- Each listed loop overruns once. -/
theorem State.each_overran_view {s : State} (h : LoopsCanonical s) {ls : List Nat} (hls : ls.Nodup) {l : Nat} (hl : l ∈ ls) :
    (State.each ls State.overran s).overrunView l
      = ((s.overrunView l).1, if (s.overrunView l).2.2 then (s.overrunView l).2.1 else (s.overrunView l).2.1 + 1, true) :=
  (State.each_at (P := LoopsCanonical) (get := State.overrunView)
    (g := fun _ v => (v.1, if v.2.2 then v.2.1 else v.2.1 + 1, true)) (fun l u hu => State.overran_canonical hu l)
    (fun l u hu => (State.overrunState_view (State.loopOverrun_only hu l).canonical l).trans (State.loopOverrun_view hu l))
    (fun l k u _ hk => u.overran_view_ne hk) hls h l).trans (if_pos hl)

theorem State.each_overran_only {s : State} (h : LoopsCanonical s) (ls : List Nat) : OverrunOnly s (State.each ls State.overran s) := by
  induction ls generalizing s with
  | nil => exact .refl h
  | cons l ls ih => exact (State.overran_only h l).trans (ih (State.overran_canonical h l))

-- The deadline

/-- The loops that have no command at the deadline. -/
def State.missedLoops (s : State) : List Nat := s.loopsWhere fun _ x => x.due s.hrt.frame && x.ready.isNone && !x.excused

/-- The state at the deadline once the cells have left and every loop without a command has overrun. -/
def State.missedOverran (s : State) : State :=
  State.each s.missedLoops State.overran
    (s.passOverrun (s.loopsWhere fun _ x => x.due s.hrt.frame && x.ready.isNone && x.record.isSome).length)

/-- The state at the deadline in which the loops that sent a command begin their run of overruns anew. -/
def State.runsCleared (s : State) : State :=
  { s with loops := tmap (fun _ => {}) (fun _ x =>
    if x.cls = LoopClass.freeze ∨ (x.ready.isSome ∧ !s.sendsOwn) then { x with ovrRun := 0 } else x) s.loops }

/-- The state in which the pass of the frame is over. -/
def State.passOver (s : State) : State := { s.overrunFrame with hrt := { s.overrunFrame.hrt with emitted := true } }

theorem State.emitDeadline_eq {s : State} (h : s.boot.stopped = false) :
    s.emitDeadline = s.cellsClosed.missedOverran.runsCleared.passOver.feedTwin := by
  unfold State.emitDeadline State.passOver State.runsCleared State.missedOverran State.missedLoops State.overran State.cellsClosed
  rw [if_neg (by simp [h])]

theorem State.feedTwin_grows {s : State} (h : PorchesCanonical s) : QueuesGrow s s.feedTwin := by
  have hfold : ∀ (cs : List TxCell) (p : Nat) (u : State), PorchesCanonical u →
      QueuesGrow u (cs.foldl (fun s c => s.send p prioBulk c) u) := by
    intro cs p
    induction cs with
    | nil => exact fun u hu => .refl hu
    | cons c cs ih => exact fun u hu => (State.send_grows hu p prioBulk c).trans (ih _ (State.send_grows hu p prioBulk c).canonical)
  have htwn : ∀ (u : State) (f : Option Nat), PorchesCanonical u → QueuesGrow u { u with twn := { u.twn with feeding := f } } :=
    fun u f hu => ⟨hu, fun _ _ => id, fun _ => rfl⟩
  unfold State.feedTwin
  split
  · dsimp only
    split
    next i p _ _ _ =>
      have h1 := hfold (if i = 0 then s.resyncFirst else []) p s h
      have h2 := h1.trans (State.send_grows h1.canonical p prioBulk (.resync (.contexts i (State.contextsOf
        ((if i = 0 then s.resyncFirst else []).foldl (fun s c => s.send p prioBulk c) s) i))))
      exact h2.trans (htwn _ _ h2.canonical)
    · exact htwn s none h
  · exact htwn s none h
  · exact .refl h

theorem State.missedOverran_view {s : State} (h : LoopsCanonical s) {l : Nat} (hl : l ∈ s.missedLoops) :
    s.missedOverran.overrunView l
      = ((s.overrunView l).1, if (s.overrunView l).2.2 then (s.overrunView l).2.1 else (s.overrunView l).2.1 + 1, true) := by
  unfold State.missedOverran
  generalize (s.loopsWhere _).length = n
  have hpass := s.passOverrun_frame n
  have hhrt : (s.passOverrun n).hrt = s.hrt := hpass .hrt (by decide)
  have hview : (s.passOverrun n).overrunView l = s.overrunView l := by
    unfold State.overrunView
    rw [hpass.loop_eq (by decide), hhrt]
  rw [← hview]
  exact State.each_overran_view (hpass.loopsCanonical (by decide) h) (State.loopsWhere_nodup h _) hl

theorem State.missedOverran_keeps {s : State} (h : LoopsCanonical s) :
    LoopsCanonical s.missedOverran ∧ s.missedOverran.porches = s.porches := by
  unfold State.missedOverran
  generalize (s.loopsWhere _).length = n
  have hpass := s.passOverrun_frame n
  have honly := State.each_overran_only (hpass.loopsCanonical (by decide) h) s.missedLoops
  exact ⟨honly.canonical, honly.porches.trans (hpass .porches (by decide))⟩

theorem State.loop_runsCleared {s : State} (h : LoopsCanonical s) {l : Nat} (hcls : (s.loop l).cls ≠ .freeze)
    (hready : (s.loop l).ready = none) : s.runsCleared.loop l = s.loop l := by
  have hloop := tget_tmap h (f := fun _ x => if x.cls = LoopClass.freeze ∨ (x.ready.isSome ∧ !s.sendsOwn) then
    { x with ovrRun := 0 } else x) (fun i => by simp) l
  refine hloop.trans (if_neg ?_)
  change ¬((s.loop l).cls = .freeze ∨ ((s.loop l).ready.isSome ∧ !s.sendsOwn))
  simp [hcls, hready]

/-- After the overruns the pass keeps every loop, the overruns, and the cells that are closed. -/
theorem State.passOver_keeps {s : State} (hl : LoopsCanonical s) (hp : PorchesCanonical s) : DeadlineKeeps s s.passOver.feedTwin := by
  have hover := State.overrunFrame_keeps hl hp
  have hpass : DeadlineKeeps s s.passOver := hover.trans
    (SameBut.deadlineKeeps (SameBut.hrt_frame _ _) (by decide) (by decide) rfl hover.loops hover.porches)
  have hgrow := State.feedTwin_grows hpass.porches
  have hframe := s.passOver.feedTwin_frame
  have hhrt : s.passOver.feedTwin.hrt = s.passOver.hrt := hframe .hrt (by decide)
  refine hpass.trans ⟨hframe.loopsCanonical (by decide) hpass.loops, hgrow.canonical, by rw [hhrt], fun l => ?_, fun p hc => ?_⟩
  · rw [hframe.loop_eq (by decide)]
    exact ⟨rfl, rfl⟩
  · exact (hgrow.openCell p).trans hc

theorem State.passOver_emitted (s : State) : s.passOver.feedTwin.hrt.emitted = true := by
  have hhrt : s.passOver.feedTwin.hrt = s.passOver.hrt := s.passOver.feedTwin_frame .hrt (by decide)
  rw [hhrt]
  rfl

/-- A loop that is due, has no command and is in no open cell overruns once at the deadline, and its held command stands. -/
theorem State.emitDeadline_overruns {s : State} (hcan : Canonical s) (hstopped : s.boot.stopped = false) {l : Nat}
    (hdue : (s.loop l).due s.hrt.frame = true) (hready : (s.loop l).ready = none) (hexcused : (s.loop l).excused = false)
    (hovr : l ∉ s.hrt.ovrNow) (haside : ∀ p e, e ∈ (s.porch p).openCell.entries → e.1 ≠ l) :
    l ∈ s.emitDeadline.hrt.ovrNow ∧ (s.emitDeadline.loop l).ovrRun = (s.loop l).ovrRun + 1
      ∧ (s.emitDeadline.loop l).heldCmd = (s.loop l).heldCmd := by
  have hcls : (s.loop l).cls ≠ .freeze := by
    unfold Loop.due at hdue
    simp only [Bool.and_eq_true, decide_eq_true_eq] at hdue
    exact hdue.1.2
  have hclosed := State.cellsClosed_aside ⟨hcan.loops, hcan.porches, haside⟩ hcls
  rw [State.emitDeadline_eq hstopped]
  rw [← hclosed.hrt] at hovr hdue
  rw [← hclosed.loop] at hdue hready hexcused hcls ⊢
  have hmem : l ∈ s.cellsClosed.missedLoops := State.mem_loopsWhere (by simp [hdue, hready, hexcused]) (by simp [Loop.due])
  have hview := State.missedOverran_view hclosed.loops hmem
  obtain ⟨hcan', hporches⟩ := State.missedOverran_keeps hclosed.loops
  have hpcan : PorchesCanonical s.cellsClosed.missedOverran := by
    unfold PorchesCanonical
    rw [hporches]
    exact hclosed.porches
  generalize s.cellsClosed = c at hclosed hovr hready hcls hview hcan' hpcan ⊢
  generalize c.missedOverran = m at hview hcan' hpcan ⊢
  have hc : c.hrt.ovrNow.contains l = false := by simpa using hovr
  simp only [State.overrunView, hc, Bool.false_eq_true, if_false, Prod.mk.injEq] at hview
  obtain ⟨⟨hmcls, hmready, hmheld⟩, hmrun, hmovr⟩ := hview
  have hloop := State.loop_runsCleared hcan' (l := l) (by rw [hmcls]; exact hcls) (hmready.trans hready)
  have hkeeps := State.passOver_keeps (s := m.runsCleared) (twf_tmap hcan' _) hpcan
  obtain ⟨hrun, hheld⟩ := hkeeps.loop l
  rw [hloop] at hrun hheld
  refine ⟨?_, hrun.trans hmrun, hheld.trans hmheld⟩
  rw [hkeeps.ovr]
  change l ∈ m.hrt.ovrNow
  simpa using hmovr

theorem State.addCommand_canonical {s : State} (hl : LoopsCanonical s) (hp : PorchesCanonical s) (l : Nat) (u : Int) :
    PorchesCanonical (s.addCommand l u) ∧ LoopsCanonical (s.addCommand l u) := by
  unfold State.addCommand
  split
  next p _ =>
    have hc : LoopsCanonical (s.putInCell l) ∧ PorchesCanonical (s.putInCell l) := ⟨hl.updLoop _ _, hp⟩
    have he : LoopsCanonical ((s.putInCell l).addEntry p (l, u)) ∧ PorchesCanonical ((s.putInCell l).addEntry p (l, u)) :=
      ⟨hc.1, hc.2.updPorch _ _⟩
    change PorchesCanonical (if ((s.putInCell l).porch p).state = .ready then
      if 126 ≤ (((s.putInCell l).addEntry p (l, u)).porch p).openCell.entries.length then
        ((s.putInCell l).addEntry p (l, u)).closeCell p true else (s.putInCell l).addEntry p (l, u)
      else s.putInCell l) ∧ LoopsCanonical (if ((s.putInCell l).porch p).state = .ready then
      if 126 ≤ (((s.putInCell l).addEntry p (l, u)).porch p).openCell.entries.length then
        ((s.putInCell l).addEntry p (l, u)).closeCell p true else (s.putInCell l).addEntry p (l, u)
      else s.putInCell l)
    split
    · split
      · have hclose := State.closeCell_canonical he.2 he.1 p
        exact ⟨hclose.1, hclose.2.1⟩
      · exact ⟨he.2, he.1⟩
    · exact ⟨hc.2, hc.1⟩
  · exact ⟨hp, hl⟩

/-- Every porch's cell has closed. -/
theorem State.cellsClosed_openCell {s : State} (hl : LoopsCanonical s) (hp : PorchesCanonical s) :
    LoopsCanonical s.cellsClosed ∧ PorchesCanonical s.cellsClosed ∧ ∀ p, p < 16 → (s.cellsClosed.porch p).openCell = {} := by
  have hmem : ∀ p, p < 16 → p ∈ List.range 16 := fun p h => List.mem_range.2 h
  have hnodup : (List.range 16).Nodup := List.nodup_range
  unfold State.cellsClosed
  dsimp only
  generalize List.range 16 = ps at hmem hnodup
  have hadd : PorchesCanonical (if s.sendsOwn && !s.bridging then
      s.each (s.loopsWhere fun _ x => decide (x.cls = .freeze) && !x.celled && !x.excused) fun l s =>
        s.addCommand l (s.loop l).frzCmd else s) ∧ LoopsCanonical (if s.sendsOwn && !s.bridging then
      s.each (s.loopsWhere fun _ x => decide (x.cls = .freeze) && !x.celled && !x.excused) fun l s =>
        s.addCommand l (s.loop l).frzCmd else s) := by
    split
    · exact State.each_keeps (P := fun s => PorchesCanonical s ∧ LoopsCanonical s)
        (fun k u hu => State.addCommand_canonical hu.2 hu.1 k _) _ ⟨hp, hl⟩
    · exact ⟨hp, hl⟩
  have hclose := State.each_keeps (P := fun s => PorchesCanonical s ∧ LoopsCanonical s) (f := fun p s => s.closeCell p true)
    (fun p u hu => ⟨(State.closeCell_canonical hu.1 hu.2 p).1, (State.closeCell_canonical hu.1 hu.2 p).2.1⟩) ps hadd
  exact ⟨hclose.2, hclose.1, fun p h => (State.each_closeCell_openCell hadd.1 hadd.2 hnodup p).trans (if_pos (hmem p h))⟩

theorem State.emitDeadline_closes {s : State} (hcan : Canonical s) (hstopped : s.boot.stopped = false) :
    s.emitDeadline.hrt.emitted = true ∧ ∀ p, p < 16 → (s.emitDeadline.porch p).openCell = {} := by
  obtain ⟨hl, hp, hcells⟩ := State.cellsClosed_openCell hcan.loops hcan.porches
  obtain ⟨hml, hmp⟩ := State.missedOverran_keeps hl
  rw [State.emitDeadline_eq hstopped]
  generalize s.cellsClosed = c at hl hp hcells hml hmp ⊢
  generalize c.missedOverran = m at hml hmp ⊢
  have hmcan : PorchesCanonical m := by
    unfold PorchesCanonical
    rw [hmp]
    exact hp
  have hkeeps := State.passOver_keeps (s := m.runsCleared) (twf_tmap hml _) hmcan
  refine ⟨State.passOver_emitted _, fun p h => hkeeps.cells p ?_⟩
  have hporch : m.runsCleared.porch p = c.porch p := congrArg (fun t => tget (fun _ => ({} : Porch)) t p) hmp
  rw [hporch]
  exact hcells p h

-- The late fill

/-- What the late fill of one porch leaves for the next: the drive porches and what is ready for them. -/
structure FillKeeps (s t : State) : Prop where
  loops   : LoopsCanonical t
  hrt     : t.hrt = s.hrt
  plan    : t.plan = s.plan
  ready   : ∀ l, (t.loop l).ready = (s.loop l).ready
  states  : PorchesCanonical t ∧ ∀ p, (t.porch p).state = (s.porch p).state

theorem FillKeeps.trans {s t u : State} (h : FillKeeps s t) (k : FillKeeps t u) : FillKeeps s u :=
  ⟨k.loops, k.hrt.trans h.hrt, k.plan.trans h.plan, fun l => (k.ready l).trans (h.ready l), k.states.1,
    fun p => (k.states.2 p).trans (h.states.2 p)⟩

theorem FillKeeps.refl {s : State} (hl : LoopsCanonical s) (hp : PorchesCanonical s) : FillKeeps s s :=
  ⟨hl, rfl, rfl, fun _ => rfl, hp, fun _ => rfl⟩

theorem State.send_state {s : State} (h : PorchesCanonical s) (p prio : Nat) (c : TxCell) (q : Nat) :
    ((s.send p prio c).porch q).state = (s.porch q).state := by
  rcases s.send_porches p prio c with he | he
  · unfold State.porch
    rw [he]
  · refine (congrArg (fun t => (tget (fun _ => ({} : Porch)) t q).state) he).trans ?_
    change ((s.updPorch p _).porch q).state = _
    by_cases hq : q = p
    · subst hq
      rw [State.porch_updPorch_self h]
    · rw [State.porch_updPorch_ne _ _ hq]

theorem State.send_fillKeeps {s : State} (hl : LoopsCanonical s) (hp : PorchesCanonical s) (p prio : Nat) (c : TxCell) :
    FillKeeps s (s.send p prio c) := by
  have hframe := s.send_frame p prio c
  exact ⟨hframe.loopsCanonical (by decide) hl, hframe .hrt (by decide), hframe .plan (by decide),
    fun l => by rw [hframe.loop_eq (by decide)], (State.send_grows hp p prio c).canonical, State.send_state hp p prio c⟩

/-- The cells of a late fill of one porch. -/
def State.fillCells (s : State) (epoch p : Nat) (es : List (Nat × Int)) : State :=
  (pieces 126 130 es).foldl (fun s e => s.send p prioFrame (.command
    { applyTick := (s.hrt.frame + 1) % 2 ^ 32, epoch := epoch, porch := p, side := s.twn.side, fill := true, entries := e })) s

theorem State.fillCells_keeps {s : State} (hl : LoopsCanonical s) (hp : PorchesCanonical s) (epoch p : Nat) (es : List (Nat × Int)) :
    FillKeeps s (s.fillCells epoch p es) ∧ SameBut [.regs, .porches, .free] s (s.fillCells epoch p es) := by
  unfold State.fillCells
  generalize pieces 126 130 es = ps
  induction ps generalizing s with
  | nil => exact ⟨.refl hl hp, .refl _ _⟩
  | cons e ps ih =>
    have hone := State.send_fillKeeps hl hp p prioFrame (.command
      { applyTick := (s.hrt.frame + 1) % 2 ^ 32, epoch := epoch, porch := p, side := s.twn.side, fill := true, entries := e })
    obtain ⟨hkeep, hframe⟩ := ih hone.loops hone.states.1
    exact ⟨hone.trans hkeep, (s.send_frame _ _ _).trans hframe⟩

/-- The state in which the commands of a late fill have been counted and have left. -/
def State.fillLeft (s : State) (epoch p : Nat) (es : List (Nat × Int)) : State :=
  ((s.fillCells epoch p es).count (Reg.PCH_Pp_CMD p) 0 16 es.length).commandsLeft es

theorem State.fillPorch_eq {s : State} {p : Nat} {es : List (Nat × Int)}
    (h : ¬(es.isEmpty || decide ((s.porch p).state ≠ .ready)) = true) (epoch : Nat) :
    s.fillPorch epoch p es = { s.fillLeft epoch p es with twn := { (s.fillLeft epoch p es).twn with
      filled := (s.fillLeft epoch p es).twn.filled ++ es.map fun e => ((s.fillLeft epoch p es).hrt.frame + 1, e.1) } } := by
  unfold State.fillPorch
  rw [if_neg h]
  rfl

theorem State.fillLeft_frame {s : State} (hl : LoopsCanonical s) (hp : PorchesCanonical s) (epoch p : Nat) (es : List (Nat × Int)) :
    SameBut [.loops, .regs, .porches, .free] s (s.fillLeft epoch p es) :=
  (State.commandsLeft_frame _ _).after (by decide) ((State.count_frame _ _ _ _ _).after (by decide)
    ((State.fillCells_keeps hl hp epoch p es).2.mono (by decide)))

theorem State.fillLeft_keeps {s : State} (hl : LoopsCanonical s) (hp : PorchesCanonical s) (epoch p : Nat) (es : List (Nat × Int)) :
    FillKeeps s (s.fillLeft epoch p es) := by
  obtain ⟨hcells, -⟩ := State.fillCells_keeps hl hp epoch p es
  unfold State.fillLeft
  generalize s.fillCells epoch p es = u at hcells ⊢
  have hleft := (u.count (Reg.PCH_Pp_CMD p) 0 16 es.length).commandsLeft_frame es
  refine hcells.trans ⟨State.commandsLeft_canonical (s := u.count _ _ _ _) hcells.loops es, hleft .hrt (by decide),
    hleft .plan (by decide), fun l => State.commandsLeft_ready (s := u.count _ _ _ _) hcells.loops es l,
    hleft.porchesCanonical (by decide) hcells.states.1, fun q => by rw [hleft.porch_eq (by decide)]; rfl⟩

theorem State.fillPorch_keeps {s : State} (hl : LoopsCanonical s) (hp : PorchesCanonical s) (epoch p : Nat) (es : List (Nat × Int)) :
    FillKeeps s (s.fillPorch epoch p es) := by
  by_cases h : (es.isEmpty || decide ((s.porch p).state ≠ .ready)) = true
  · have he : s.fillPorch epoch p es = s := if_pos h
    rw [he]
    exact .refl hl hp
  · rw [State.fillPorch_eq h]
    have hkeep := State.fillLeft_keeps hl hp epoch p es
    exact ⟨hkeep.loops, hkeep.hrt, hkeep.plan, hkeep.ready, hkeep.states⟩

/-- A loop that has been filled with command `u` for the coming tick. -/
def State.filledWith (s : State) (l : Nat) (u : Int) : Prop :=
  (s.hrt.frame + 1, l) ∈ s.twn.filled ∧ (s.loop l).heldCmd = u ∧ (s.loop l).ovrRun = 0

/-- A fill that gives the loop that command, or leaves it alone, leaves it filled. -/
theorem State.fillPorch_filledWith {s : State} (hl : LoopsCanonical s) (hp : PorchesCanonical s) (epoch p : Nat)
    {es : List (Nat × Int)} {l : Nat} {u : Int} (hu : ∀ e ∈ es, e.1 = l → e.2 = u)
    (hin : (s.porch p).state = .ready ∧ l ∈ es.map Prod.fst ∨ s.filledWith l u) : (s.fillPorch epoch p es).filledWith l u := by
  by_cases h : (es.isEmpty || decide ((s.porch p).state ≠ .ready)) = true
  · have he : s.fillPorch epoch p es = s := if_pos h
    rw [he]
    refine hin.resolve_left fun hnow => ?_
    cases es with
    | nil => simp at hnow
    | cons e es => simp [hnow.1] at h
  · obtain ⟨hcells, hcframe⟩ := State.fillCells_keeps hl hp epoch p es
    have hframe := State.fillLeft_frame hl hp epoch p es
    have hhrt : (s.fillLeft epoch p es).hrt = s.hrt := hframe .hrt (by decide)
    have htwn : (s.fillLeft epoch p es).twn = s.twn := hframe .twn (by decide)
    have hheld := State.loop_commandsLeft_held (s := (s.fillCells epoch p es).count (Reg.PCH_Pp_CMD p) 0 16 es.length) (l := l) (u := u)
      hcells.loops hu <| hin.imp And.right fun hf => by
        have hloop : ((s.fillCells epoch p es).count (Reg.PCH_Pp_CMD p) 0 16 es.length).loop l = s.loop l :=
          hcframe.loop_eq (by decide) l
        rw [hloop]
        exact hf.2
    rw [State.fillPorch_eq h]
    refine ⟨List.mem_append.2 (hin.symm.imp (fun hf => ?_) fun hnow => ?_), hheld⟩
    · rw [htwn]
      change (_, l) ∈ s.twn.filled
      rw [hhrt]
      exact hf.1
    · obtain ⟨e, he, rfl⟩ := List.mem_map.1 hnow.2
      exact List.mem_map.2 ⟨e, he, rfl⟩

/-- The entries of a porch's late fill: the loops of a list that it drives, with what is ready for them. -/
def State.fillEntries (s : State) (ls : List Nat) (p : Nat) : List (Nat × Int) :=
  (ls.filter fun l => s.drivePorch l = some p).map fun l => (l, ((s.loop l).ready).getD 0)

theorem FillKeeps.drivePorch {s t : State} (h : FillKeeps s t) (l : Nat) : t.drivePorch l = s.drivePorch l := by
  unfold State.drivePorch State.porchFor State.porchesOf State.porchRole State.laneEntry
  rw [h.plan]

/-- A drive porch that is READY is among those that the late fill serves. -/
theorem State.mem_readyOf {s : State} {l p : Nat} (hp : s.drivePorch l = some p) (hready : (s.porch p).state = .ready) :
    p ∈ s.readyOf 2 := by
  refine List.mem_filter.2 ⟨?_, by simpa using hready⟩
  exact List.mem_of_find?_eq_some hp

/-- The late fill of every porch in turn. -/
def State.fillAll (s : State) (epoch : Nat) : State :=
  s.each (s.readyOf 2) fun p u => u.fillPorch epoch p (u.fillEntries (s.loopsWhere fun l x => s.fills l x) p)

theorem State.fillAll_fills {s : State} (h : Canonical s) (epoch : Nat) {l p : Nat} (hp : s.drivePorch l = some p)
    (hready : (s.porch p).state = .ready) (hfill : s.fills l (s.loop l) = true) :
    (s.fillAll epoch).filledWith l ((s.loop l).ready.getD 0) ∧ (s.fillAll epoch).hrt = s.hrt := by
  let f : Nat → State → State := fun p u => u.fillPorch epoch p (u.fillEntries (s.loopsWhere fun l x => s.fills l x) p)
  have hl : l ∈ s.loopsWhere fun l x => s.fills l x := State.mem_loopsWhere hfill (State.not_fills (.inl rfl))
  have hP : ∀ i u, FillKeeps s u → FillKeeps s (f i u) := fun i u hu => hu.trans (State.fillPorch_keeps hu.loops hu.states.1 _ _ _)
  have hval : ∀ u, FillKeeps s u → ∀ i, ∀ e ∈ u.fillEntries (s.loopsWhere fun l x => s.fills l x) i, e.1 = l →
      e.2 = (s.loop l).ready.getD 0 := by
    intro u hu i e he hel
    obtain ⟨k, -, rfl⟩ := List.mem_map.1 he
    rw [← hu.ready, ← hel]
  have hend := State.each_establishes (f := f) (P := FillKeeps s) (get := fun _ _ => ()) (k := p) (c := fun _ => True)
    (Q := fun u => FillKeeps s u ∧ u.filledWith l ((s.loop l).ready.getD 0)) hP (fun _ _ _ _ _ => rfl)
    (fun i u hu => ⟨hP i u hu.1, State.fillPorch_filledWith hu.1.loops hu.1.states.1 _ _ (hval u hu.1 i) (.inr hu.2)⟩)
    (fun u hu _ => ⟨hP p u hu, State.fillPorch_filledWith hu.loops hu.states.1 _ _ (hval u hu p) (.inl ⟨?_, ?_⟩)⟩)
    (State.mem_readyOf hp hready) (.refl h.loops h.porches) trivial
  · exact ⟨hend.2, hend.1.hrt⟩
  · rw [hu.states.2, hready]
  · refine List.mem_map.2 ⟨(l, (u.loop l).ready.getD 0), List.mem_map.2 ⟨l, List.mem_filter.2 ⟨hl, ?_⟩, rfl⟩, rfl⟩
    simpa [hu.drivePorch] using hp

theorem exec_lateFillSnapshot {s : State} {h : StateCell} (htwin : s.twn.twin = some h) (hrun : s.hrt.running = true)
    (hsnap : s.twn.snapshot = false) (hmakes : s.makesFill = true) :
    exec .lateFillSnapshot s
      = .next { s.fillAll h.epoch with twn := { (s.fillAll h.epoch).twn with snapshot := true } } := by
  change execLateFillSnapshot s = _
  unfold execLateFillSnapshot
  rw [htwin]
  exact if_pos (by simp [hrun, hsnap, hmakes])

/-- Settles O20. -/
theorem cellsAndTheEmitDeadline : Obligations.CellsAndTheEmitDeadline := by
  refine ⟨fun s hcan hrun hemitted => ⟨fun p cycle leaves hle htime hne hnodup => ?_, fun p cycle leaves hle hlate => ?_,
    fun hstopped => ?_⟩, fun s h hcan htwin hrun hsnap hmakes => ?_⟩
  · have hexec : exec (.cellClose p cycle leaves) s = .next (s.closeCell p.toNat (decide (leaves.toNat ≤ s.hrt.cfg.emitDl))) :=
      if_pos (by simp [hrun, hemitted, hle])
    rw [decide_eq_true htime] at hexec
    obtain ⟨hclosed, hheld, hsent, hothers⟩ := State.closeCell_effect hcan hne hnodup
    exact ⟨_, hexec, hclosed, hheld, hsent, hothers, (exec_frame _ _ _ hexec).mono (by simp [touches])⟩
  · have hexec : exec (.cellClose p cycle leaves) s = .next (s.closeCell p.toNat (decide (leaves.toNat ≤ s.hrt.cfg.emitDl))) :=
      if_pos (by simp [hrun, hemitted, hle])
    rw [decide_eq_false (Nat.not_le.2 hlate)] at hexec
    obtain ⟨hclosed, hsent, hover⟩ := State.closeCell_late hcan p.toNat
    exact ⟨_, hexec, hclosed, hsent, hover⟩
  · have hexec : exec .emitDeadline s = .next s.emitDeadline := if_pos (by simp [hrun, hemitted])
    obtain ⟨hdone, hcells⟩ := State.emitDeadline_closes hcan hstopped
    exact ⟨_, hexec, hdone, hcells, fun l hdue hready hexcused hovr haside =>
      State.emitDeadline_overruns hcan hstopped hdue hready hexcused hovr haside⟩
  · have hexec := exec_lateFillSnapshot htwin hrun hsnap hmakes
    refine ⟨_, hexec, rfl, fun l p hp hready hfill => ?_, fun l hfill => ?_, exec_frame _ _ _ hexec⟩
    · obtain ⟨⟨hfilled, hheld, -⟩, hhrt⟩ := State.fillAll_fills hcan h.epoch hp hready hfill
      rw [hhrt] at hfilled
      exact ⟨hfilled, hheld⟩
    · obtain ⟨t, ht, hunfilled⟩ := execLateFillSnapshot_unfilled hcan.loops hfill
      have hloop := hunfilled.loop
      rw [← Host.Outcome.next.inj (hexec.symm.trans ht)] at hloop
      exact hloop

end Sys2Proof.Machine
end

-- Copies are issued, and fences wait ------------------------------------------------------------------------------------------------

section
/-! Copies join their queues or are refused, and a fence waits for its queues (R105, R106, R109, R127, R269). -/
namespace Sys2Proof.Machine

-- Queues of a bank

theorem Bank.queue_setQueue (b : Bank) (q : Nat) (l : List Copy) {i : Nat} (hi : i < 4) :
    (b.setQueue q l).queue i = if i = q then l else b.queue i := by
  unfold Bank.setQueue Bank.queue
  simp [hi]

-- What a request does to the tiles of a job

theorem Tile.requested_asks (x : Tile) :
    (x.bulkOn = true → x.waiting = false → x.requested.request = true)
      ∧ (x.waiting = true → x.requested.bulkOn = false ∧ x.requested.waiting = false) := by
  unfold Tile.requested
  constructor
  · intro hon hwait
    simp [hon, hwait]
  · intro hwait
    rw [if_pos hwait]
    exact ⟨rfl, rfl⟩

/-- A second request changes nothing that the first has brought about. -/
theorem Tile.requested_keeps (x : Tile) :
    (x.request = true → x.bulkOn = true → x.waiting = false → x.requested = x)
      ∧ (x.bulkOn = false → x.waiting = false → x.requested = x) := by
  unfold Tile.requested
  constructor
  · intro hreq hon hwait
    rw [if_neg (by simp [hwait]), if_pos hon, ← hreq]
  · intro hon hwait
    rw [if_neg (by simp [hwait]), if_neg (by simp [hon])]

theorem State.tile_requestTile {s : State} (h : TilesCanonical s) (t u : Nat) :
    (s.requestTile t).tile u = if u = t then (s.tile u).requested else s.tile u := by
  split
  next hu => subst hu; exact State.tile_requestTile_self h u
  next hu => exact s.tile_requestTile_ne hu

/-- A tile that was asked, however often: as it was, or asked once. -/
theorem State.each_requestTile {s : State} (h : TilesCanonical s) (l : List Nat) (u : Nat) :
    (State.each l (fun t s => s.requestTile t) s).tile u = if u ∈ l then (s.tile u).requested else s.tile u := by
  have hidem : ∀ x : Tile, x.requested.requested = x.requested := by
    intro x
    by_cases hwait : x.waiting = true
    · have hx : x.requested = x.gaveWay := if_pos hwait
      rw [hx]
      exact (Tile.requested_keeps _).2 rfl rfl
    · by_cases hon : x.bulkOn = true
      · have hx : x.requested = { x with request := true } := (if_neg hwait).trans (if_pos hon)
        rw [hx]
        exact (Tile.requested_keeps _).1 rfl hon (by simpa using hwait)
      · have hx : x.requested = x := (Tile.requested_keeps x).2 (by simpa using hon) (by simpa using hwait)
        rw [hx, hx]
  induction l generalizing s with
  | nil => simp [State.each]
  | cons t l ih =>
    refine (ih (h.requestTile t)).trans ?_
    rw [State.tile_requestTile h]
    by_cases hu : u = t
    · subst hu
      simp only [if_true, List.mem_cons_self]
      split
      · exact hidem _
      · rfl
    · simp [hu]

theorem State.requestJob_asks {s : State} (h : TilesCanonical s) {j u : Nat} (hu : u ∈ (s.job j).tiles) :
    Asked j (s.tile u) ((s.requestJob j).tile u) := by
  intro hrun
  have hmem : u ∈ (s.job j).tiles.filter fun u => (s.tile u).running = some j := List.mem_filter.2 ⟨hu, by simpa using hrun⟩
  have htile : (s.requestJob j).tile u = (s.tile u).requested := (State.each_requestTile h _ u).trans (if_pos hmem)
  rw [htile]
  exact Tile.requested_asks _

-- A copy that is refused

theorem Tile.banks_of_gaveWay {x y : Tile} (h : x.gaveWay = y.gaveWay) : x.bulk = y.bulk ∧ x.frame = y.frame := by
  have hbulk := congrArg Tile.bulk h
  have hframe := congrArg Tile.frame h
  exact ⟨hbulk, hframe⟩

/-- The fault of a refused copy, before the job is asked to give way. -/
def State.overlapKept (s : State) (t q j : Nat) (c : Copy) : State :=
  { s with mem := { s.mem with faults := s.mem.faults ++
    [(t, q, j, { cause := .overlap, addr := c.src, queue := q, prog := c.progress, len := c.len, tick := 0 })] } }

theorem State.copyFault_overlap (s : State) (t q j : Nat) (c : Copy) :
    s.copyFault t q j c none .overlap c.src = (s.overlapKept t q j c).requestJob j := by
  unfold State.copyFault
  dsimp only
  rw [if_neg (by decide)]
  rfl

/-- An overlapping copy of a background context ends in one of two ways: nothing happens, or its fault is kept. -/
theorem exec_copyIssue_overlap {s : State} {n : BitVec 7} {q : BitVec 2} {d : CopyDesc} {j : Nat} (hbulk : d.frame = false)
    (hrun : (s.tile n.toNat).running = some j) (hover : (Issued d).overlaps (s.canon n.toNat j) = true) :
    exec (.copyIssue n q d) s
      = if ((Issued d).len = 0 ∨ !s.tileIn n.toNat) ∨ (!(s.tile n.toNat).bulkOn ∨ 64 ≤ ((s.tile n.toNat).bulk.queue q.toNat).length) then
          .next s
        else .next ((s.overlapKept n.toNat q.toNat j (Issued d)).requestJob j) := by
  change execCopyIssue n q d s = _
  unfold execCopyIssue
  dsimp only
  rw [hrun, hbulk]
  dsimp only
  by_cases h1 : d.len.toNat = 0 ∨ (!s.tileIn n.toNat) = true
  · rw [if_pos h1, if_pos (.inl h1)]
  · rw [if_neg h1, if_neg (by decide)]
    by_cases h2 : (!(s.tile n.toNat).bulkOn) = true ∨ 64 ≤ ((s.tile n.toNat).bulk.queue q.toNat).length
    · rw [if_pos h2, if_pos (.inr h2)]
    · rw [if_neg h2, if_neg (not_or.2 ⟨h1, h2⟩)]
      have hcls : (if (false : Bool) = true then 1 else 2) = (if d.frame then 1 else 2) := by rw [hbulk]
      rw [hcls]
      exact (if_pos hover).trans (congrArg Host.Outcome.next (State.copyFault_overlap _ _ _ _ _))

theorem toNat_ne_zero {w : Nat} {x : BitVec w} (h : x ≠ 0) : x.toNat ≠ 0 := fun he => h (BitVec.eq_of_toNat_eq (by simpa using he))

/-- Settles O22. -/
theorem overlapRefused : Obligations.OverlapRefused := by
  refine fun s n q d hcan => ⟨fun hframe hover => ?_, fun j hbulk hrun hover => ?_⟩
  · change execCopyIssue n q d s = _
    unfold execCopyIssue
    dsimp only
    split
    · rfl
    · simp only [Issued, hframe, if_true] at hover
      rw [if_neg (by simp [hover])]
  · have hexec := exec_copyIssue_overlap (q := q) hbulk hrun hover
    by_cases hguard : ((Issued d).len = 0 ∨ !s.tileIn n.toNat)
        ∨ (!(s.tile n.toNat).bulkOn ∨ 64 ≤ ((s.tile n.toNat).bulk.queue q.toNat).length)
    · rw [if_pos hguard] at hexec
      refine ⟨s, hexec, rfl, fun u => ⟨rfl, rfl⟩, fun hlen hin hon hq => ?_, .refl _ _⟩
      rcases hguard with (h | h) | (h | h)
      · exact absurd h (toNat_ne_zero hlen)
      · simp [hin] at h
      · simp [hon] at h
      · omega
    · rw [if_neg hguard] at hexec
      have htiles : TilesCanonical (s.overlapKept n.toNat q.toNat j (Issued d)) := hcan.tiles
      have hframe := (s.overlapKept n.toNat q.toNat j (Issued d)).requestJob_frame j
      have hram : ((s.overlapKept n.toNat q.toNat j (Issued d)).requestJob j).ram = s.ram := hframe .ram (by decide)
      have hmem := hframe .mem (by decide)
      refine ⟨_, hexec, hram, fun u => Tile.banks_of_gaveWay ((State.requestJob_keeps htiles j).keeps u), fun _ _ _ _ => ⟨hmem, ?_⟩,
        (exec_frame _ _ _ hexec).mono (by simp [touches])⟩
      exact fun u hu => State.requestJob_asks htiles hu

-- A copy that joins its queue

theorem exec_copyIssue_bulk {s : State} {n : BitVec 7} {q : BitVec 2} {d : CopyDesc} {j : Nat}
    (hover : (Issued d).overlaps (s.canon n.toNat j) = false) (hlen : d.len ≠ 0) (hbulk : d.frame = false)
    (hin : s.tileIn n.toNat = true) (hrun : (s.tile n.toNat).running = some j) (hon : (s.tile n.toNat).bulkOn = true)
    (hroom : ((s.tile n.toNat).bulk.queue q.toNat).length < 64) :
    exec (.copyIssue n q d) s
      = .next (s.updBank n.toNat (some j) fun b => b.setQueue q.toNat (b.queue q.toNat ++ [Issued d])) := by
  have hcls : (2 : Nat) = (if d.frame then 1 else 2) := by rw [hbulk]; rfl
  have h0 : ¬(d.len.toNat = 0 ∨ (!s.tileIn n.toNat) = true) := by simp [toNat_ne_zero hlen, hin]
  change execCopyIssue n q d s = _
  unfold execCopyIssue
  dsimp only
  rw [hrun, if_neg h0, if_neg (by simp [hbulk])]
  dsimp only
  rw [if_neg (by simp [hon, hroom])]
  exact if_neg (by rw [hover]; decide)

theorem State.tile_updBank_running {s : State} (h : TilesCanonical s) {t j : Nat} (hrun : (s.tile t).running = some j)
    (f : Bank → Bank) : (s.updBank t (some j) f).tile t = { s.tile t with bulk := f (s.tile t).bulk } := by
  unfold State.updBank
  rw [State.tile_updTile_self h]
  exact if_pos hrun

theorem State.tile_updBank_frame {s : State} (h : TilesCanonical s) (t : Nat) (f : Bank → Bank) :
    (s.updBank t none f).tile t = { s.tile t with frame := f (s.tile t).frame } := State.tile_updTile_self h t _

theorem State.tile_updBank_ne (s : State) {t u : Nat} (owner : Option Nat) (f : Bank → Bank) (hu : u ≠ t) :
    (s.updBank t owner f).tile u = s.tile u := s.tile_updTile_ne _ hu

theorem exec_copyIssue_frame {s : State} {n : BitVec 7} {q : BitVec 2} {d : CopyDesc}
    (hover : (Issued d).overlaps (frameCanon n.toNat) = false) (hlen : d.len ≠ 0) (hframe : d.frame = true)
    (hin : s.tileIn n.toNat = true) (hsense : (s.tile n.toNat).sense = true) (hdone : (s.tile n.toNat).fcDone = false)
    (hwait : (s.tile n.toNat).frame.waitOn = []) (hroom : ((s.tile n.toNat).frame.queue q.toNat).length < 64) :
    exec (.copyIssue n q d) s
      = .next (s.updBank n.toNat none fun b => b.setQueue q.toNat (b.queue q.toNat ++ [Issued d])) := by
  have h0 : ¬(d.len.toNat = 0 ∨ (!s.tileIn n.toNat) = true) := by simp [toNat_ne_zero hlen, hin]
  change execCopyIssue n q d s = _
  unfold execCopyIssue
  dsimp only
  rw [if_neg h0, if_pos hframe]
  refine if_pos ?_
  change ((s.tile n.toNat).sense && !(s.tile n.toNat).fcDone && (s.tile n.toNat).frame.waitOn.isEmpty
    && decide (((s.tile n.toNat).frame.queue q.toNat).length < 64) && !(Issued d).overlaps (frameCanon n.toNat)) = true
  simp [hsense, hdone, hwait, hroom, hover]

-- Fences

/-- The tile whose program waits on a fence of its bulk bank. -/
def Tile.fenced (x : Tile) (qs : List Nat) : Tile :=
  { x with bulk := { x.bulk with waitOn := qs }, bulkOn := false, waiting := !x.request, request := false }

/-- The state in which the fence of a background context is set. -/
def State.fenceSet (s : State) (t : Nat) (qs : List Nat) : State :=
  s.updTile t fun x => { x with bulk := { x.bulk with waitOn := qs } }

theorem State.fenceSet_tile {s : State} (h : TilesCanonical s) (t : Nat) (qs : List Nat) :
    (s.fenceSet t qs).tile t = { s.tile t with bulk := { (s.tile t).bulk with waitOn := qs } } := State.tile_updTile_self h t _

theorem State.tile_noteCopy (s : State) (j : Nat) (b : Bank) (u : Nat) : (s.noteCopy j b).tile u = s.tile u := rfl

theorem TilesCanonical.noteCopy {s : State} (h : TilesCanonical s) (j : Nat) (b : Bank) : TilesCanonical (s.noteCopy j b) := h

/-- The state in which a background context waits on a fence: it gives way to an outstanding request. -/
def State.fenceWaits (s : State) (t j : Nat) (qs : List Nat) : State :=
  if (s.tile t).request then (s.fenceSet t qs).giveWay t
  else ((s.fenceSet t qs).noteCopy j (s.tile t).bulk).updTile t fun x => { x with bulkOn := false, waiting := true }

theorem exec_copyFence_bulk {s : State} {n : BitVec 7} {m : BitVec 4} {j : Nat} (hrun : (s.tile n.toNat).running = some j)
    (hon : (s.tile n.toNat).bulkOn = true) (hbusy : (s.tile n.toNat).bulk.busy m.toNat ≠ []) :
    exec (.copyFence n m) s = .next (s.fenceWaits n.toNat j ((s.tile n.toNat).bulk.busy m.toNat)) := by
  change execCopyFence n m s = _
  unfold execCopyFence State.fenceWaits
  dsimp only
  rw [if_pos hon, hrun]
  cases hb : (s.tile n.toNat).bulk.busy m.toNat with
  | nil => exact absurd hb hbusy
  | cons q qs => rfl

theorem State.fenceWaits_tile {s : State} (h : TilesCanonical s) (t j : Nat) (qs : List Nat) :
    (s.fenceWaits t j qs).tile t = (s.tile t).fenced qs := by
  have hu : TilesCanonical (s.fenceSet t qs) := h.updTile t _
  unfold State.fenceWaits Tile.fenced
  cases hreq : (s.tile t).request with
  | true =>
    rw [if_pos rfl, State.tile_giveWay_self hu, State.fenceSet_tile h]
    rfl
  | false =>
    rw [if_neg (by decide), State.tile_updTile_self (hu.noteCopy j _), State.tile_noteCopy, State.fenceSet_tile h]
    simp [hreq]

theorem State.fenceWaits_tile_ne (s : State) {t u : Nat} (j : Nat) (qs : List Nat) (hu : u ≠ t) :
    (s.fenceWaits t j qs).tile u = s.tile u := by
  have hset : (s.fenceSet t qs).tile u = s.tile u := s.tile_updTile_ne _ hu
  unfold State.fenceWaits
  split
  · rw [State.tile_giveWay_ne _ hu, hset]
  · rw [State.tile_updTile_ne _ _ hu, State.tile_noteCopy, hset]

theorem State.fenceWaits_job {s : State} (h : TilesCanonical s) (hj : JobsCanonical s) {t j : Nat} (qs : List Nat)
    (hrun : (s.tile t).running = some j) :
    (s.fenceWaits t j qs).job j
        = { s.job j with copyProg := (s.tile t).bulk.headCopy.1, copyLen := (s.tile t).bulk.headCopy.2 }
      ∧ ∀ i, i ≠ j → (s.fenceWaits t j qs).job i = s.job i := by
  have hself := State.fenceSet_tile h t qs
  have hrun' : ((s.fenceSet t qs).tile t).running = some j := by
    rw [hself]
    exact hrun
  unfold State.fenceWaits
  split
  · refine ⟨?_, fun i hi => ?_⟩
    · rw [State.job_giveWay_running (s := s.fenceSet t qs) hj hrun', hself]
      rfl
    · rw [State.job_giveWay_ne _ (by rw [hrun']; simpa using Ne.symm hi)]
      rfl
  · exact ⟨(State.job_updTile ..).trans (State.job_updJob_self (s := s.fenceSet t qs) hj j _),
      fun i hi => (State.job_updTile ..).trans ((s.fenceSet t qs).job_updJob_ne _ hi)⟩

/-- Settles O23. -/
theorem copiesQueue : Obligations.CopiesQueue := by
  intro s n q hcan
  have hq : q.toNat < 4 := q.isLt
  refine ⟨fun d j hover hlen hbulk hin hrun hon hroom => ?_, fun d hover hlen hframe hin hsense hdone hwait hroom => ?_,
    fun m j hrun hon hbusy => ?_, fun m hon hidle => ?_, fun m hoff hsense hdone => ?_, fun m hoff hno => ?_⟩
  · have hexec := exec_copyIssue_bulk hover hlen hbulk hin hrun hon hroom
    have hself := State.tile_updBank_running hcan.tiles hrun fun b => b.setQueue q.toNat (b.queue q.toNat ++ [Issued d])
    refine ⟨_, hexec, ?_, fun i hi hne => ?_, ?_, fun u hu => s.tile_updBank_ne _ _ hu, s.updBank_frame _ _ _⟩
    · rw [hself, Bank.queue_setQueue _ _ _ hq, if_pos rfl]
    · rw [hself, Bank.queue_setQueue _ _ _ hi, if_neg hne]
    · rw [hself]
  · have hexec := exec_copyIssue_frame hover hlen hframe hin hsense hdone hwait hroom
    have hself := State.tile_updBank_frame hcan.tiles n.toNat fun b => b.setQueue q.toNat (b.queue q.toNat ++ [Issued d])
    refine ⟨_, hexec, ?_, ?_, fun u hu => s.tile_updBank_ne _ _ hu, s.updBank_frame _ _ _⟩
    · rw [hself, Bank.queue_setQueue _ _ _ hq, if_pos rfl]
    · rw [hself]
  · have hexec := exec_copyFence_bulk hrun hon hbusy
    obtain ⟨hjob, hothers⟩ := State.fenceWaits_job hcan.tiles hcan.jobs ((s.tile n.toNat).bulk.busy m.toNat) hrun
    exact ⟨_, hexec, State.fenceWaits_tile hcan.tiles _ _ _, hjob, hothers, fun u hu => s.fenceWaits_tile_ne _ _ hu,
      exec_frame _ _ _ hexec⟩
  · have hbusy : (s.tile n.toNat).bulk.busy m.toNat = [] :=
      List.filter_eq_nil_iff.2 fun i hi => by simp [hidle i hi]
    change execCopyFence n m s = _
    unfold execCopyFence
    dsimp only
    rw [if_pos hon, hbusy]
    cases (s.tile n.toNat).running <;> rfl
  · have hexec : exec (.copyFence n m) s
        = .next (s.updTile n.toNat fun x => { x with frame := { x.frame with waitOn := x.frame.busy m.toNat } }) :=
      (if_neg (by simp [hoff])).trans (if_pos (by simp [hsense, hdone]))
    exact ⟨_, hexec, State.tile_updTile_self hcan.tiles _ _, fun u hu => s.tile_updTile_ne _ hu, s.updTile_frame _ _⟩
  · exact (if_neg (by simp [hoff])).trans (if_neg (by rcases hno with h | h <;> simp [h]))

end Sys2Proof.Machine
end

-- Copy faults of jobs, and the memory tiers -----------------------------------------------------------------------------------------

section
/-! Faults of copies in flight (R110, R270 to R274), and GDDR7: lost devices, retraining and the patrol (R256 to R268, R275, R282). -/
namespace Sys2Proof.Machine

-- A Cellar time-out

theorem State.cellarSide_addr {s : State} {t j : Nat} {c : Copy} {b a : Nat} (h : s.cellarSide t j c b = some a) :
    a = (c.beat b).2.1 ∨ a = (c.beat b).2.2.1 := by
  unfold State.cellarSide at h
  generalize c.beat b = x at h ⊢
  obtain ⟨o, src, dst, n⟩ := x
  dsimp only at h
  split at h
  · exact .inl (Option.some.inj h).symm
  · exact .inr (Option.some.inj h).symm
  · exact absurd h (by simp)

theorem State.cellarAddr_addr {s : State} {t j : Nat} {c : Copy} {b a : Nat} (h : s.cellarAddr t j c b = some a) :
    a = (c.beat b).2.1 ∨ a = (c.beat b).2.2.1 := by
  unfold State.cellarAddr at h
  split at h
  next a' ha =>
    rw [← Option.some.inj h]
    exact State.cellarSide_addr ha
  · exact State.cellarSide_addr h

/-- The state in which the fault of a beat is kept. -/
def State.timeoutKept (s : State) (t q j : Nat) (c : Copy) (a : Nat) : State :=
  { s with mem := { s.mem with faults := s.mem.faults ++
    [(t, q, j, { cause := .cellarTimeout, addr := a, queue := q, prog := c.progress, len := c.len, tick := 0 })] } }

/-- The bank whose queue stops at beat `b` of its head. -/
def Bank.stopped (x : Bank) (q : Nat) (c : Copy) (b : Nat) : Bank := x.setQueue q ({ c with stop := some b } :: (x.queue q).tail)

/-- The state after a Cellar time-out of a beat. -/
def State.timedOut (s : State) (t q j : Nat) (c : Copy) (b a : Nat) : State :=
  ((s.timeoutKept t q j c a).updBank t (some j) fun x => x.stopped q c b).requestJob j

theorem exec_cellarTimeout {s : State} {n : BitVec 7} {q : BitVec 2} {j : BitVec 8} {b a : Nat} {x : Bank} {c : Copy} {rest : List Copy}
    (hbank : (s.tile n.toNat).bankOf (some j.toNat) = some x) (hq : x.queue q.toNat = c :: rest) (hpast : c.past b = false)
    (ha : s.cellarAddr n.toNat j.toNat c b = some a) :
    exec (.cellarTimeout n q (j, b)) s = .next (s.timedOut n.toNat q.toNat j.toNat c b a) := by
  change execCellarTimeout n q (j, b) s = _
  unfold execCellarTimeout State.faultBeat
  dsimp only
  rw [hbank]
  dsimp only
  rw [hq]
  dsimp only
  rw [if_neg (by simp [hpast]), if_pos (.inr rfl), ha]
  unfold State.copyFault
  dsimp only
  rw [if_neg (by decide)]
  rfl

theorem exec_cellarTimeout_elsewhere {s : State} {n : BitVec 7} {q : BitVec 2} {j : BitVec 8} {b : Nat} {x : Bank} {c : Copy}
    {rest : List Copy} (hbank : (s.tile n.toNat).bankOf (some j.toNat) = some x) (hq : x.queue q.toNat = c :: rest)
    (ha : s.cellarAddr n.toNat j.toNat c b = none) : exec (.cellarTimeout n q (j, b)) s = .next s := by
  change execCellarTimeout n q (j, b) s = _
  unfold execCellarTimeout State.faultBeat
  dsimp only
  rw [hbank]
  dsimp only
  rw [hq]
  dsimp only
  refine congrArg Host.Outcome.next ?_
  split
  · rfl
  · rw [if_pos (.inr rfl), ha]

/-- The tile with the bank of one of its contexts changed. -/
def Tile.inBank (x : Tile) (j : Nat) (f : Bank → Bank) : Tile :=
  if x.running = some j then { x with bulk := f x.bulk } else { x with saved := tupd (fun _ => ({} : Bank)) x.saved j f }

theorem State.tile_updBank_some {s : State} (h : TilesCanonical s) (t j : Nat) (f : Bank → Bank) :
    (s.updBank t (some j) f).tile t = (s.tile t).inBank j f := State.tile_updTile_self h t _

/-- The bank of a context after a change of it. -/
theorem Tile.bankOf_inBank {x : Tile} {j : Nat} {b : Bank} (hsaved : twf (fun _ => ({} : Bank)) x.saved = true)
    (hbank : x.bankOf (some j) = some b) (f : Bank → Bank) : (x.inBank j f).bankOf (some j) = some (f b) := by
  unfold Tile.bankOf at hbank
  unfold Tile.inBank
  dsimp only at hbank
  by_cases hrun : x.running = some j
  · rw [if_pos hrun] at hbank ⊢
    rw [← Option.some.inj hbank]
    exact if_pos hrun
  · rw [if_neg hrun] at hbank ⊢
    split at hbank
    next hctx =>
      rw [← Option.some.inj hbank]
      refine (if_neg hrun).trans ((if_pos hctx).trans ?_)
      rw [tget_tupd_self hsaved]
    · exact absurd hbank (by simp)

theorem Tile.bankOf_of_gaveWay {x y : Tile} (h : x.gaveWay = y.gaveWay) (o : Option Nat) : x.bankOf o = y.bankOf o := by
  have hframe := congrArg Tile.frame h
  have hbulk := congrArg Tile.bulk h
  have hrun := congrArg Tile.running h
  have hctx := congrArg Tile.contexts h
  have hsaved := congrArg Tile.saved h
  change x.frame = y.frame at hframe
  change x.bulk = y.bulk at hbulk
  change x.running = y.running at hrun
  change x.contexts = y.contexts at hctx
  change x.saved = y.saved at hsaved
  unfold Tile.bankOf
  rw [hframe, hbulk, hrun, hctx, hsaved]

/-- A change of a bulk bank leaves what runs on every tile, and its frame bank. -/
theorem State.updBank_runs {s : State} (h : TilesCanonical s) (t j : Nat) (f : Bank → Bank) :
    TilesKeep (fun x => (x.running, x.bulkOn, x.waiting, x.frame)) s (s.updBank t (some j) f) :=
  State.updTile_keeps h t (by dsimp only; split <;> rfl)

theorem Asked.congr {j : Nat} {x x' y : Tile} (h : Asked j x' y)
    (hx : (x'.running, x'.bulkOn, x'.waiting, x'.frame) = (x.running, x.bulkOn, x.waiting, x.frame)) : Asked j x y := by
  simp only [Prod.mk.injEq] at hx
  obtain ⟨hrun, hon, hwait, -⟩ := hx
  intro hr
  rw [← hrun] at hr
  rw [← hon, ← hwait]
  exact h hr

theorem State.timedOut_effect {s : State} (h : Canonical s) {t q j : Nat} {x : Bank} {c : Copy} {rest : List Copy} (b a : Nat) (hq4 : q < 4)
    (hsaved : twf (fun _ => ({} : Bank)) (s.tile t).saved = true) (hbank : (s.tile t).bankOf (some j) = some x)
    (hq : x.queue q = c :: rest) :
    ((s.timedOut t q j c b a).tile t).bankOf (some j) = some (x.stopped q c b)
      ∧ (x.stopped q c b).queue q = { c with stop := some b } :: rest
      ∧ (∀ i, i < 4 → i ≠ q → (x.stopped q c b).queue i = x.queue i)
      ∧ (∀ u ∈ (s.job j).tiles, Asked j (s.tile u) ((s.timedOut t q j c b a).tile u))
      ∧ (∀ u, ((s.timedOut t q j c b a).tile u).frame = (s.tile u).frame)
      ∧ (∀ i, i ≠ j → (s.timedOut t q j c b a).job i = s.job i) := by
  have hk : TilesCanonical (s.timeoutKept t q j c a) := h.tiles
  have hj : JobsCanonical (s.timeoutKept t q j c a) := h.jobs
  have hruns := State.updBank_runs hk t j fun x => x.stopped q c b
  have hreq := State.requestJob_keeps hruns.canonical j
  have hjobs := State.requestJob_jobs (part := fun i x => if i = j then none else some x) (j := j)
    (s := (s.timeoutKept t q j c a).updBank t (some j) fun x => x.stopped q c b) hj hruns.canonical fun _ _ _ => by simp
  refine ⟨?_, ?_, fun i hi hne => ?_, fun u hu => ?_, fun u => ?_, fun i hi => ?_⟩
  · refine (Tile.bankOf_of_gaveWay (hreq.keeps t) _).trans ?_
    rw [State.tile_updBank_some hk]
    exact Tile.bankOf_inBank hsaved hbank _
  · unfold Bank.stopped
    rw [Bank.queue_setQueue _ _ _ hq4, if_pos rfl, hq]
    rfl
  · unfold Bank.stopped
    rw [Bank.queue_setQueue _ _ _ hi, if_neg hne]
  · exact Asked.congr (State.requestJob_asks hruns.canonical hu) (hruns.keeps u)
  · have hfr := (Tile.banks_of_gaveWay (hreq.keeps u)).2
    have hrun := congrArg (fun x => x.2.2.2) (hruns.keeps u)
    exact hfr.trans hrun
  · have hkeep := hjobs.keeps i
    simp only [hi, if_false, Option.some.injEq] at hkeep
    exact hkeep

/-- A job that is parked lives. -/
theorem Job.parked_live {x : Job} (h : x.state = .parked) : ¬(x.state = .none ∨ x.state = .ended) := by simp [h]

/-- Settles O25. -/
theorem copyFaultsOfJobs : Obligations.CopyFaultsOfJobs := by
  intro s hcan
  refine ⟨fun n q j b a x c rest hsaved hbank hq hpast ha => ?_, fun n q j b x c rest hbank hq ha =>
    exec_cellarTimeout_elsewhere hbank hq ha, fun j f hfault hpark htick hdue => ⟨fun hmaps => ?_, fun hmaps => ?_, ?_⟩,
    fun j hdue hparked => ?_⟩
  · have hexec := exec_cellarTimeout hbank hq hpast ha
    obtain ⟨hbank', hstop, hothers, hasked, hframes, hjobs⟩ := State.timedOut_effect hcan b a q.isLt hsaved hbank hq
    refine ⟨_, _, hexec, State.cellarAddr_addr ha, ?_, hbank', hstop, hothers, hasked, hframes, hjobs,
      (exec_frame _ _ _ hexec).mono (by simp [touches])⟩
    exact (State.requestJob_frame _ _ .mem (by decide)).trans (State.updBank_frame _ _ _ _ .mem (by decide))
  · have hexec : exec (.faultRetry j true) s
        = .next (s.updJob j.toNat fun y => { y with fault := some { f with clear := true } }) := by
      change execFaultRetry j true s = _
      unfold execFaultRetry
      dsimp only
      rw [hfault]
      exact if_pos ⟨by simpa using hpark, htick, hdue, rfl, hmaps⟩
    exact ⟨_, hexec, State.job_updJob_self hcan.jobs _ _, fun i hi => s.job_updJob_ne _ hi, s.updJob_frame _ _⟩
  · change execFaultRetry j true s = _
    unfold execFaultRetry
    dsimp only
    rw [hfault]
    exact if_neg fun hguard => by simp [hmaps] at hguard
  · change execFaultRetry j false s = _
    unfold execFaultRetry
    dsimp only
    rw [hfault]
    exact if_neg fun hguard => by simp at hguard
  · have hexec : exec (.faultLimit j) s = .next (s.endAt EndReason.fault j.toNat) := if_pos hdue
    exact ⟨_, hexec, State.endAt_ending hcan.jobs _ _ (Job.parked_live hparked), fun i hi => s.job_endAt_ne _ hi, s.endAt_frame _ _⟩

-- GDDR7: a lost device

/-- Endings of the listed jobs change no tile and nothing of a job but its endings, and end those that live. -/
theorem State.endAll_effect {s : State} (h : JobsCanonical s) (r : Nat) (l : List Nat) :
    SameBut [.til] s (State.each l (fun j s => s.endAt r j) s)
      ∧ ∀ j ∈ l, (s.job j).live = true → r ∈ ((State.each l (fun j s => s.endAt r j) s).job j).ending := by
  refine ⟨SameBut.each (fun j u => u.endAt_frame r j) (.refl _ _) l, fun j hj hlive => ?_⟩
  have hstate : ∀ u i, JobsCanonical u → ((u.endAt r i).job j).state = (u.job j).state := by
    intro u i hu
    by_cases hi : j = i
    · subst hi
      by_cases hl : (u.job j).state = .none ∨ (u.job j).state = .ended
      · exact congrArg (fun v : State => (v.job j).state) (if_pos hl)
      · rw [State.job_endAt_self hu r j hl]
    · rw [State.job_endAt_ne u r hi]
  have hkeeps : ∀ u i, JobsCanonical u → r ∈ (u.job j).ending → r ∈ ((u.endAt r i).job j).ending := by
    intro u i hu hr
    by_cases hi : j = i
    · subst hi
      by_cases hl : (u.job j).state = .none ∨ (u.job j).state = .ended
      · have he : u.endAt r j = u := if_pos hl
        rw [he]
        exact hr
      · exact State.endAt_ending hu r j hl
    · rw [State.job_endAt_ne u r hi]
      exact hr
  have hnot : ∀ x : Job, x.live = true → ¬(x.state = .none ∨ x.state = .ended) := by
    intro x hx
    simpa [Job.live] using hx
  have hlive' : ¬((s.job j).state = .none ∨ (s.job j).state = .ended) := hnot _ hlive
  refine (State.each_establishes (f := fun j s => s.endAt r j) (get := fun _ _ => ()) (k := j) (c := fun _ => True)
    (P := fun u => JobsCanonical u ∧ (u.job j).state = (s.job j).state)
    (Q := fun u => JobsCanonical u ∧ r ∈ (u.job j).ending) (fun i u hu => ⟨hu.1.endAt r i, (hstate u i hu.1).trans hu.2⟩)
    (fun _ _ _ _ _ => rfl) (fun i u hu => ⟨hu.1.endAt r i, hkeeps u i hu.1 hu.2⟩)
    (fun u hu _ => ⟨hu.1.endAt r j, State.endAt_ending hu.1 r j (by rw [hu.2]; exact hlive')⟩) hj ⟨h, rfl⟩ trivial).2

/-- The state in which a device has left service, before the jobs end. -/
def State.deviceOut (s : State) (d : Nat) : State :=
  let u := (s.updDev d fun x => { x with state := 2 }).raise Src.mem 0 d
  let u := { u with mem := { u.mem with degraded := true } }
  u.record 0x000E Sev.critical 1 ([BitVec.ofNat 8 d, BitVec.ofNat 8 (s.devDue d), 0, 0, 0, 0, 0, 0] ++ u.frameBytes)

/-- The jobs that live. -/
def State.liveListed (s : State) : List Nat := (s.til.jobs.filter fun j => j.2.live).map (·.1)

theorem State.mem_liveListed {s : State} {j : Nat} (h : (s.job j).live = true) : j ∈ s.liveListed := by
  have hne : s.job j ≠ {} := fun he => by rw [he] at h; exact absurd h (by decide)
  exact List.mem_map.2 ⟨(j, s.job j), List.mem_filter.2 ⟨mem_of_tget_ne hne, h⟩, rfl⟩

theorem State.loseDevice_eq {s : State} {d : Nat} (h : s.devDue d ≠ 0) :
    s.loseDevice d = State.each s.liveListed (fun j s => s.endAt EndReason.fault j) (s.deviceOut d) := by
  unfold State.loseDevice
  dsimp only
  rw [if_neg h]
  rfl

theorem exec_gddr7DeviceLost {s : State} (h : Canonical s) (d : Fin 16) (hdue : s.devDue d.val ≠ 0) :
    ∃ t, exec (.gddr7DeviceLost d) s = .next t ∧ (t.dev d.val).state = 2
      ∧ t.mem = { s.mem with devs := t.mem.devs, degraded := true } ∧ (∀ e, e ≠ d.val → t.dev e = s.dev e)
      ∧ Notified Src.mem 0 d.val 0 t ∧ (∀ j, (s.job j).live = true → EndReason.fault ∈ (t.job j).ending) := by
  have hexec : exec (.gddr7DeviceLost d) s = _ := congrArg Host.Outcome.next (State.loseDevice_eq hdue)
  have hjobs : JobsCanonical (s.deviceOut d.val) := h.jobs
  obtain ⟨hframe, hend⟩ := State.endAll_effect hjobs EndReason.fault s.liveListed
  have hmem : (State.each s.liveListed (fun j s => s.endAt EndReason.fault j) (s.deviceOut d.val)).mem = (s.deviceOut d.val).mem :=
    hframe .mem (by decide)
  have hdevs := congrArg MemBlock.devs hmem
  have hevents := hframe .events (by decide)
  have hdev : ∀ e, (State.each s.liveListed (fun j s => s.endAt EndReason.fault j) (s.deviceOut d.val)).dev e
      = (s.updDev d.val fun x => { x with state := 2 }).dev e :=
    fun e => congrArg (fun l => tget (fun _ => ({} : Gddr7)) l e) hdevs
  refine ⟨_, hexec, ?_, ?_, fun e he => ?_, ?_, fun j hj => hend j (State.mem_liveListed hj) hj⟩
  · rw [hdev, State.dev_updDev_self h.devs]
  · rw [hmem]
    rfl
  · rw [hdev, State.dev_updDev_ne _ _ he]
  · have hin : Event.mk Src.mem 0 0 d.val 0 [] [0] ∈ (s.deviceOut d.val).events := List.mem_append_right _ (List.mem_singleton.2 rfl)
    unfold Notified
    rw [hevents]
    exact hin

-- The patrol

abbrev DevsCanonical (s : State) : Prop := twf (fun _ => ({} : Gddr7)) s.mem.devs = true

theorem DevsCanonical.updDev {s : State} (h : DevsCanonical s) (d : Nat) (f : Gddr7 → Gddr7) : DevsCanonical (s.updDev d f) :=
  twf_tupd h d f

/-- The devices stay canonical, and each keeps its part `part`. -/
structure DevsKeep {α : Type} (part : Gddr7 → α) (s t : State) : Prop where
  canonical : DevsCanonical t
  keeps     : ∀ d, part (t.dev d) = part (s.dev d)

theorem State.updDev_keeps {α : Type} {part : Gddr7 → α} {s : State} (h : DevsCanonical s) (d : Nat) {f : Gddr7 → Gddr7}
    (hf : ∀ x, part (f x) = part x) : DevsKeep part s (s.updDev d f) := by
  refine ⟨twf_tupd h d f, fun e => ?_⟩
  by_cases he : e = d
  · subst he
    rw [State.dev_updDev_self h, hf]
  · rw [State.dev_updDev_ne _ _ he]

/-- The page that the patrol has reached. -/
def State.patrolled (s : State) (p : Nat) : State := s.updDev (pageDev p) fun x => { x with scrub := pageIndex p }

theorem exec_patrolScrub {s : State} (hen : s.inForce Reg.MEM_CTL 0 1 = 1) (p : BitVec 24) (r : ScrubResult) :
    exec (.patrolScrub p r) s = .next ((s.patrolled p.toNat).scrubFinds p.toNat r) := if_neg (by simp [hen])

theorem DevsKeep.protectedPage {s t : State} (h : DevsKeep Gddr7.map s t) (hbuilt : t.mem.builtWith = s.mem.builtWith) (p : Nat) :
    t.protectedPage p = s.protectedPage p := by
  unfold State.protectedPage State.origin State.halfPages
  rw [h.keeps, hbuilt]

theorem Reg.MEM_DEV_ne (d : Nat) : Reg.MEM_ECC ≠ Reg.MEM_DEV d := by
  unfold Reg.MEM_ECC Reg.MEM_DEV
  omega

/-- The counts of an uncorrectable line. -/
def State.badCounted (s : State) (p : Nat) : State :=
  (s.count Reg.MEM_ECC 16 16 1).count (Reg.MEM_DEV (pageDev p)) 16 16 1

theorem State.badLine_eq (s : State) (p : Nat) :
    s.badLine p = (s.badCounted p).updDev (pageDev p) fun x => { x with ues := ((s.badCounted p).hrt.cycles :: x.ues).take 16 } := rfl

theorem RegsCanonical.badLine {s : State} (h : RegsCanonical s) (p : Nat) : RegsCanonical (s.badLine p) :=
  ((h.count Reg.MEM_ECC 16 16 1).count (Reg.MEM_DEV (pageDev p)) 16 16 1 : RegsCanonical (s.badCounted p))

theorem State.field_badLine {s : State} (h : RegsCanonical s) (p : Nat) :
    (s.badLine p).field Reg.MEM_ECC 16 16 = min (2 ^ 16 - 1) (s.field Reg.MEM_ECC 16 16 + 1)
      ∧ (s.badLine p).field Reg.MEM_ECC 0 16 = s.field Reg.MEM_ECC 0 16 := by
  have hne := Reg.MEM_DEV_ne (pageDev p)
  have hfield : ∀ lo n, (s.badLine p).field Reg.MEM_ECC lo n = (s.badCounted p).field Reg.MEM_ECC lo n := fun _ _ => rfl
  rw [hfield, hfield]
  unfold State.badCounted
  rw [State.field_count_ne _ _ _ _ _ _ hne, State.field_count_ne _ _ _ _ _ _ hne]
  exact ⟨State.field_count_self h _ _ (by decide), State.field_count_disjoint h _ _ _ (by decide) (by decide)⟩

/-- An uncorrectable line is noted with its device; map, spares and the patrol's place stand. -/
theorem State.badLine_keeps {s : State} (h : DevsCanonical s) (p : Nat) :
    DevsKeep (fun x => (x.map, x.spares, x.scrub)) s (s.badLine p) := by
  rw [State.badLine_eq]
  have hkeeps := State.updDev_keeps (s := s.badCounted p) (part := fun x => (x.map, x.spares, x.scrub)) h (pageDev p)
    (f := fun x => { x with ues := ((s.badCounted p).hrt.cycles :: x.ues).take 16 }) fun _ => rfl
  exact ⟨hkeeps.canonical, hkeeps.keeps⟩

theorem State.badLine_mem (s : State) (p : Nat) : (s.badLine p).mem = { s.mem with devs := (s.badLine p).mem.devs } := rfl

/-- A page that is to be retired at once: it is unprotected, exists, and is neither retired nor about to be. -/
structure Retirable (s : State) (p : Nat) : Prop where
  unprotected : s.protectedPage p = false
  inService   : p ∉ s.mem.retired
  notYet      : ∀ r ∈ s.mem.retiring, r.page ≠ p
  exists_     : pageExists p = true

theorem State.retirePage_eq {s : State} {p : Nat} (h : Retirable s p) (cause : Nat) :
    s.retirePage p cause = s.finishRetire p cause none := by
  have hany : (s.mem.retiring.any fun r => r.page = p) = false := by
    rw [List.any_eq_false]
    intro r hr
    simpa using h.notYet r hr
  unfold State.retirePage
  rw [if_neg (by simp [h.inService, hany, h.exists_])]
  split
  · rw [if_neg (by simp [h.unprotected])]
  · rfl

/-- The lists of an unprotected page that is retired. -/
def State.retireListed (s : State) (p : Nat) : State :=
  { s with mem := { s.mem with
    retired := s.mem.retired ++ [p], lastRetired := p
    cupboard := if s.mem.cupboard.length < 16384 then s.mem.cupboard ++ [p] else s.mem.cupboard
    retiring := s.mem.retiring.filter fun r => r.page ≠ p } }

/-- The place of the page waits for a spare, or is gone where the device has none. -/
def State.placeLeft (s : State) (p : Nat) : State :=
  if (s.dev (pageDev p)).spares = 0 then
    { s.retireListed p with mem := { (s.retireListed p).mem with gone := s.mem.gone + 1 } }
  else { s.retireListed p with mem := { (s.retireListed p).mem with unallotted := s.mem.unallotted ++ [p] } }

theorem State.placeLeft_dev (s : State) (p d : Nat) : (s.placeLeft p).dev d = s.dev d := by
  unfold State.placeLeft
  split <;> rfl

theorem State.finishRetire_unprotected {s : State} {p : Nat} (h : s.protectedPage p = false) (cause : Nat) :
    s.finishRetire p cause none
      = ((s.placeLeft p).raise Src.mem 2 p).record 0x000C Sev.error 5 (leBytes 4 p ++ [BitVec.ofNat 8 cause]) := by
  have hprot : (s.retireListed p).protectedPage p = false := h
  have hplace : (if (s.retireListed p).protectedPage p || decide ((s.dev (pageDev p)).spares = 0) then
      (s.retireListed p).takeSpare p none
      else { s.retireListed p with mem := { (s.retireListed p).mem with unallotted := (s.retireListed p).mem.unallotted ++ [p] } })
      = s.placeLeft p := by
    unfold State.placeLeft
    by_cases hn : (s.dev (pageDev p)).spares = 0
    · rw [if_pos (by simp [hn]), if_pos hn]
      rfl
    · rw [if_neg (by simp [hprot, hn]), if_neg hn]
      rfl
  unfold State.finishRetire
  dsimp only
  change State.sparesLow (((if (s.retireListed p).protectedPage p || decide ((s.dev (pageDev p)).spares = 0) then
      (s.retireListed p).takeSpare p none
      else { s.retireListed p with mem := { (s.retireListed p).mem with
        unallotted := (s.retireListed p).mem.unallotted ++ [p] } }).raise Src.mem 2 p).record 0x000C Sev.error 5
          (leBytes 4 p ++ [BitVec.ofNat 8 cause])) (pageDev p) (s.dev (pageDev p)).spares = _
  rw [hplace]
  refine if_neg fun hlow => ?_
  have hspares : ((((s.placeLeft p).raise Src.mem 2 p).record 0x000C Sev.error 5
      (leBytes 4 p ++ [BitVec.ofNat 8 cause])).dev (pageDev p)).spares = (s.dev (pageDev p)).spares := by
    rw [State.dev_record, State.dev_raise, State.placeLeft_dev]
  omega

theorem State.placeLeft_mem (s : State) (p : Nat) :
    (s.placeLeft p).mem.retired = s.mem.retired ++ [p]
      ∧ ((s.dev (pageDev p)).spares ≠ 0 → (s.placeLeft p).mem.unallotted = s.mem.unallotted ++ [p] ∧ (s.placeLeft p).mem.gone = s.mem.gone)
      ∧ ((s.dev (pageDev p)).spares = 0 → (s.placeLeft p).mem.unallotted = s.mem.unallotted ∧ (s.placeLeft p).mem.gone = s.mem.gone + 1) := by
  unfold State.placeLeft
  split
  next h => exact ⟨rfl, fun hn => absurd h hn, fun _ => ⟨rfl, rfl⟩⟩
  next h => exact ⟨rfl, fun _ => ⟨rfl, rfl⟩, fun hn => absurd hn h⟩

theorem State.placeLeft_frame (s : State) (p : Nat) : SameBut [.mem] s (s.placeLeft p) := by
  unfold State.placeLeft
  exact SameBut.ite ((SameBut.mem_frame _ _).after (by decide) (SameBut.mem_frame _ _))
    ((SameBut.mem_frame _ _).after (by decide) (SameBut.mem_frame _ _))

theorem State.placeLeft_regs (s : State) (p : Nat) : (s.placeLeft p).regs = s.regs := by
  unfold State.placeLeft
  split <;> rfl

/-- An uncorrectable line of an unprotected page retires the page. -/
theorem exec_patrolScrub_retires {s : State} (h : Canonical s) (p : BitVec 24) (again : Bool) (hen : s.inForce Reg.MEM_CTL 0 1 = 1)
    (hret : Retirable s p.toNat) :
    ∃ t, exec (.patrolScrub p (.uncorrectable again)) s = .next t
      ∧ t.mem.retired = s.mem.retired ++ [p.toNat] ∧ Notified Src.mem 2 p.toNat 0 t
      ∧ ⟨0x000C, Sev.error, 5, leBytes 4 p.toNat ++ [BitVec.ofNat 8 RetireCause.scrub]⟩ ∈ t.att.waiting
      ∧ t.field Reg.MEM_ECC 16 16 = min (2 ^ 16 - 1) (s.field Reg.MEM_ECC 16 16 + 1)
      ∧ (t.dev (pageDev p.toNat)).spares = (s.dev (pageDev p.toNat)).spares
      ∧ (t.dev (pageDev p.toNat)).scrub = pageIndex p.toNat
      ∧ ((s.dev (pageDev p.toNat)).spares ≠ 0 → t.mem.unallotted = s.mem.unallotted ++ [p.toNat] ∧ t.mem.gone = s.mem.gone)
      ∧ ((s.dev (pageDev p.toNat)).spares = 0 → t.mem.unallotted = s.mem.unallotted ∧ t.mem.gone = s.mem.gone + 1)
      ∧ SameBut [.mem, .events, .att, .regs] s t := by
  have hdevs : DevsCanonical (s.patrolled p.toNat) := DevsCanonical.updDev h.devs _ _
  have hscrub : (s.patrolled p.toNat).dev (pageDev p.toNat) = { s.dev (pageDev p.toNat) with scrub := pageIndex p.toNat } :=
    State.dev_updDev_self h.devs _ _
  have hmap : DevsKeep Gddr7.map s (s.patrolled p.toNat) := State.updDev_keeps h.devs _ fun _ => rfl
  have hbad := State.badLine_keeps hdevs p.toNat
  have hbmap : DevsKeep Gddr7.map (s.patrolled p.toNat) ((s.patrolled p.toNat).badLine p.toNat) :=
    ⟨hbad.canonical, fun d => congrArg (fun x => x.1) (hbad.keeps d)⟩
  have hprot := hmap.protectedPage rfl p.toNat
  have hprot' := hbmap.protectedPage rfl p.toNat
  have hret' : Retirable ((s.patrolled p.toNat).badLine p.toNat) p.toNat :=
    ⟨hprot'.trans (hprot.trans hret.unprotected), hret.inService, hret.notYet, hret.exists_⟩
  have hexec := exec_patrolScrub hen p (.uncorrectable again)
  have hfinds : (s.patrolled p.toNat).scrubFinds p.toNat (.uncorrectable again)
      = ((((s.patrolled p.toNat).badLine p.toNat).placeLeft p.toNat).raise Src.mem 2 p.toNat).record 0x000C Sev.error 5
        (leBytes 4 p.toNat ++ [BitVec.ofNat 8 RetireCause.scrub]) := by
    refine (if_neg (by rw [hprot, hret.unprotected]; decide)).trans ?_
    rw [State.retirePage_eq hret', State.finishRetire_unprotected hret'.unprotected]
  rw [hfinds] at hexec
  obtain ⟨hretired, hsome, hnone⟩ := ((s.patrolled p.toNat).badLine p.toNat).placeLeft_mem p.toNat
  have hfield := (State.field_badLine (s := s.patrolled p.toNat) h.regs p.toNat).1
  have hx := hbad.keeps (pageDev p.toNat)
  rw [hscrub] at hx
  have hspares := congrArg (fun x => x.2.1) hx
  have hplace := congrArg (fun x => x.2.2) hx
  dsimp only at hspares hplace
  rw [hspares] at hsome hnone
  have hregs := ((s.patrolled p.toNat).badLine p.toNat).placeLeft_regs p.toNat
  refine ⟨_, hexec, hretired, List.mem_append_right _ (List.mem_singleton.2 rfl), List.mem_append_right _ (List.mem_singleton.2 rfl), ?_,
    ?_, ?_, hsome, hnone, ?_⟩
  · unfold State.field State.reg at hfield ⊢
    rw [State.record_regs, State.raise_regs, hregs]
    exact hfield
  · rw [State.dev_record, State.dev_raise, State.placeLeft_dev, hspares]
  · rw [State.dev_record, State.dev_raise, State.placeLeft_dev, hplace]
  · exact (State.record_frame _ _ _ _ _).after (by decide) ((State.raise_frame _ _ _ _ _).after (by decide)
      ((State.placeLeft_frame _ _).after (by decide) ((State.badLine_frame _ _).after (by decide) ((s.updDev_frame _ _).mono (by decide)))))

-- Protected pages

theorem exec_patrolScrub_oneCopy {s : State} (h : Canonical s) (p : BitVec 24) (hen : s.inForce Reg.MEM_CTL 0 1 = 1)
    (hprot : s.protectedPage p.toNat = true) :
    ∃ t, exec (.patrolScrub p (.uncorrectable false)) s = .next t ∧ t.mem = { s.mem with devs := t.mem.devs }
      ∧ t.field Reg.MEM_ECC 0 16 = min (2 ^ 16 - 1) (s.field Reg.MEM_ECC 0 16 + 1)
      ∧ t.field Reg.MEM_ECC 16 16 = min (2 ^ 16 - 1) (s.field Reg.MEM_ECC 16 16 + 1)
      ∧ (t.dev (pageDev p.toNat)).scrub = pageIndex p.toNat ∧ SameBut [.mem, .regs] s t := by
  have hdevs : DevsCanonical (s.patrolled p.toNat) := DevsCanonical.updDev h.devs _ _
  have hscrub : (s.patrolled p.toNat).dev (pageDev p.toNat) = { s.dev (pageDev p.toNat) with scrub := pageIndex p.toNat } :=
    State.dev_updDev_self h.devs _ _
  have hmap : DevsKeep Gddr7.map s (s.patrolled p.toNat) := State.updDev_keeps h.devs _ fun _ => rfl
  have hprot' := hmap.protectedPage rfl p.toNat
  have hexec := exec_patrolScrub hen p (.uncorrectable false)
  have hfinds : (s.patrolled p.toNat).scrubFinds p.toNat (.uncorrectable false)
      = ((s.patrolled p.toNat).badLine p.toNat).count Reg.MEM_ECC 0 16 1 :=
    (if_pos (by rw [hprot', hprot])).trans (by
      unfold State.oneCopy
      exact if_neg (by decide))
  rw [hfinds] at hexec
  have hregs : RegsCanonical ((s.patrolled p.toNat).badLine p.toNat) := RegsCanonical.badLine (s := s.patrolled p.toNat) h.regs _
  obtain ⟨hbad, hone⟩ := State.field_badLine (s := s.patrolled p.toNat) h.regs p.toNat
  have hx := congrArg (fun x => x.2.2) ((State.badLine_keeps hdevs p.toNat).keeps (pageDev p.toNat))
  rw [hscrub] at hx
  refine ⟨_, hexec, rfl, ?_, ?_, hx, (State.count_frame _ _ _ _ _).after (by decide)
    ((State.badLine_frame _ _).after (by decide) ((s.updDev_frame _ _).mono (by decide)))⟩
  · rw [State.field_count_self hregs _ _ (by decide), hone]
    rfl
  · rw [State.field_count_disjoint hregs _ _ _ (by decide) (by decide), hbad]
    rfl

/-- A notice that waits goes on waiting. -/
abbrev EventsStay (s t : State) : Prop := ∀ e ∈ s.events, e ∈ t.events

theorem SameBut.eventsStay {l : List Part} {s t : State} (h : SameBut l s t) (hl : .events ∉ l) : EventsStay s t := by
  have hevents : t.events = s.events := h .events hl
  intro e he
  rw [hevents]
  exact he

theorem State.faultOn_eventsStay (s : State) (c : Nat) (other : Bool) : EventsStay s (s.faultOn c other) := by
  intro e he
  unfold State.faultOn
  split
  · exact he
  · split <;> exact List.mem_append_left _ he

theorem State.withdraw_eventsStay (s : State) (reason code : Nat) : EventsStay s (s.withdraw reason code) := fun e he =>
  (State.giveUp_frame _ _).eventsStay (by decide) e
    (State.faultOn_eventsStay _ _ _ e ((s.sendWithdraw_frame _ _).eventsStay (by decide) e he))

theorem State.verdict_eventsStay (s : State) (reason code : Nat) {solo : State → State} (hsolo : ∀ u, EventsStay u (solo u)) :
    EventsStay s (s.verdict reason code solo) := by
  intro e he
  have hg := (s.guardEvent_frame code).eventsStay (by decide) e he
  have hk := ((s.guardEvent code).guardState_frame code).eventsStay (by decide) e hg
  unfold State.verdict
  dsimp only
  split
  · exact State.withdraw_eventsStay _ _ _ e hg
  · exact hsolo _ e hg
  · exact (State.giveUp_frame _ _).eventsStay (by decide) e (State.faultOn_eventsStay _ _ _ e hk)
  · exact State.faultOn_eventsStay _ _ _ e hk
  · exact State.faultOn_eventsStay _ _ _ e hk

theorem State.sparesLow_eventsStay (s : State) (d before : Nat) : EventsStay s (s.sparesLow d before) := by
  intro e he
  unfold State.sparesLow
  split
  · exact List.mem_append_left _ he
  · exact he

theorem State.takeSpare_eventsStay (s : State) (p : Nat) (spare : Option Nat) : EventsStay s (s.takeSpare p spare) :=
  (s.takeSpare_frame p spare).eventsStay (by decide)

theorem State.finishRetire_eventsStay (s : State) (p cause : Nat) (spare : Option Nat) : EventsStay s (s.finishRetire p cause spare) := by
  intro e he
  unfold State.finishRetire
  dsimp only
  refine State.sparesLow_eventsStay _ _ _ e (List.mem_append_left _ ?_)
  change e ∈ (if (s.retireListed p).protectedPage p || decide ((s.dev (pageDev p)).spares = 0) then (s.retireListed p).takeSpare p spare
    else { s.retireListed p with mem := { (s.retireListed p).mem with
      unallotted := (s.retireListed p).mem.unallotted ++ [p] } }).events
  split
  · exact State.takeSpare_eventsStay _ _ _ e he
  · exact he

theorem State.retirePage_eventsStay (s : State) (p cause : Nat) : EventsStay s (s.retirePage p cause) := by
  intro e he
  unfold State.retirePage
  split
  · exact he
  · split
    · split
      · exact he
      · exact State.finishRetire_eventsStay _ _ _ _ e he
    · exact State.finishRetire_eventsStay _ _ _ _ e he

/-- A line lost in both copies is told. -/
theorem State.lineLost_told (s : State) (p cause : Nat) : Notified Src.mem 1 p 0 (s.lineLost p cause) := by
  unfold State.lineLost
  refine State.verdict_eventsStay _ _ _ (fun u e he => ?_) _ (List.mem_append_right _ (List.mem_singleton.2 rfl))
  refine State.retirePage_eventsStay _ _ _ e (State.retirePage_eventsStay _ _ _ e ?_)
  exact State.faultOn_eventsStay _ _ _ e he

-- Corrected lines

/-- The counts of a corrected line. -/
def State.correctedCounted (s : State) (p : Nat) : State :=
  (s.count Reg.MEM_ECC 32 32 1).count (Reg.MEM_DEV (pageDev p)) 32 32 1

/-- One more occasion on which a line of the page was corrected. -/
def State.occasionSeen (s : State) (p : Nat) : State :=
  { s with mem := { s.mem with occasions := tset (fun _ => 0) s.mem.occasions p (tget (fun _ => 0) s.mem.occasions p + 1) } }

theorem State.correctedLine_eq (s : State) {p : Nat} (h : tget (fun _ => 0) s.mem.occasions p ≠ 3) (cause : Nat) :
    s.correctedLine p cause = (s.correctedCounted p).occasionSeen p := by
  have hocc : (s.correctedCounted p).mem.occasions = s.mem.occasions := rfl
  have hne : ¬(tget (fun _ => 0) (s.correctedCounted p).mem.occasions p + 1 = 4) := by rw [hocc]; omega
  unfold State.correctedLine
  exact if_neg hne

theorem exec_patrolScrub_corrected {s : State} (h : Canonical s) (p : BitVec 24) (hen : s.inForce Reg.MEM_CTL 0 1 = 1)
    (hocc : tget (fun _ => 0) s.mem.occasions p.toNat ≠ 3) :
    ∃ t, exec (.patrolScrub p .corrected) s = .next t
      ∧ tget (fun _ => 0) t.mem.occasions p.toNat = tget (fun _ => 0) s.mem.occasions p.toNat + 1
      ∧ t.mem = { s.mem with occasions := t.mem.occasions, devs := t.mem.devs }
      ∧ (t.dev (pageDev p.toNat)).scrub = pageIndex p.toNat
      ∧ t.field Reg.MEM_ECC 32 32 = min (2 ^ 32 - 1) (s.field Reg.MEM_ECC 32 32 + 1) ∧ SameBut [.mem, .regs] s t := by
  have hexec := (exec_patrolScrub hen p .corrected).trans (congrArg Host.Outcome.next
    ((s.patrolled p.toNat).correctedLine_eq (p := p.toNat) hocc RetireCause.scrub))
  refine ⟨_, hexec, tget_tset_self h.occasions _ _, rfl, ?_, ?_, (SameBut.mem_frame _ _).after (by decide)
    ((State.count_frame _ _ _ _ _).after (by decide) ((State.count_frame _ _ _ _ _).after (by decide)
      ((s.updDev_frame _ _).mono (by decide))))⟩
  · have hscrub : (s.patrolled p.toNat).dev (pageDev p.toNat) = { s.dev (pageDev p.toNat) with scrub := pageIndex p.toNat } :=
      State.dev_updDev_self h.devs _ _
    exact congrArg Gddr7.scrub hscrub
  · have hregs : RegsCanonical (s.patrolled p.toNat) := h.regs
    have hfield : ∀ u : State, (u.occasionSeen p.toNat).field Reg.MEM_ECC 32 32 = u.field Reg.MEM_ECC 32 32 := fun _ => rfl
    rw [hfield]
    unfold State.correctedCounted
    rw [State.field_count_ne _ _ _ _ _ _ (Reg.MEM_DEV_ne _)]
    exact State.field_count_self hregs _ _ (by decide)

/-- Settles O26. -/
theorem memoryTiers : Obligations.MemoryTiers := by
  intro s hcan
  refine ⟨fun d hdue => ?_, fun d ok hin => ?_, fun p r hoff => if_pos hoff, fun p again hen hprot hret hexists hyet => ?_,
    fun p hen hprot => ⟨?_, ?_⟩, fun p hen hocc => ?_, fun p => ?_, fun j n => ?_, rfl⟩
  · obtain ⟨t, hexec, hstate, hmem, hothers, htold, hjobs⟩ := exec_gddr7DeviceLost hcan d hdue
    exact ⟨t, hexec, hstate, hmem, hothers, htold, hjobs, (exec_frame _ _ _ hexec).mono (by simp [touches])⟩
  · have hexec : exec (.channelRetraining d ok) s = .next (s.updDev d.val fun x =>
        if ok then { x with state := 0, failed := 0 } else { x with state := 1, failed := x.failed + 1 }) := if_neg hin
    refine ⟨_, hexec, ?_, ?_, ?_, fun e he => s.dev_updDev_ne _ he, s.updDev_frame _ _⟩
    all_goals
      rw [State.dev_updDev_self hcan.devs]
      cases ok <;> rfl
  · exact exec_patrolScrub_retires hcan p again hen ⟨hprot, hret, hyet, hexists⟩
  · exact exec_patrolScrub_oneCopy hcan p hen hprot
  · have hmap : DevsKeep Gddr7.map s (s.patrolled p.toNat) := State.updDev_keeps hcan.devs _ fun _ => rfl
    have hprot' : (s.patrolled p.toNat).protectedPage p.toNat = true := (hmap.protectedPage rfl p.toNat).trans hprot
    refine ⟨_, exec_patrolScrub hen p .bothCopies, ?_⟩
    have hfinds : (s.patrolled p.toNat).scrubFinds p.toNat .bothCopies
        = (s.patrolled p.toNat).lineLost p.toNat RetireCause.scrub := if_pos hprot'
    rw [hfinds]
    exact State.lineLost_told _ _ _
  · exact exec_patrolScrub_corrected hcan p hen hocc
  · refine ⟨_, rfl, rfl, by simp, fun r hr hp => ?_, ?_⟩
    · obtain ⟨r', -, rfl⟩ := List.mem_map.1 hr
      split
      · rfl
      next hne => rw [if_neg hne] at hp; exact absurd hp hne
    · exact (SameBut.mem_frame s _).mono (by decide)
  · have hstep : tget (fun _ => 0) (tupd (fun _ => 0) s.mem.zeroing j.toNat (· - n.toNat)) j.toNat
        = tget (fun _ => 0) s.mem.zeroing j.toNat - n.toNat := tget_tupd_self hcan.zeroing _ _
    have hothers : ∀ i, i ≠ j.toNat → tget (fun _ => 0) (tupd (fun _ => 0) s.mem.zeroing j.toNat (· - n.toNat)) i
        = tget (fun _ => 0) s.mem.zeroing i := fun i hi => tget_tupd_ne _ _ hi
    exact ⟨_, rfl, hstep, hothers, rfl, (SameBut.mem_frame s _).mono (by decide)⟩

end Sys2Proof.Machine
end

-- Jobs begin ---------------------------------------------------------------------------------------------------------------
section
/-! O27: admission and refusal of a job, and the check of its image. -/
namespace Sys2Proof.Machine

-- Copies of ranges of memory

/-- A slice of a table reads, from 0 on, what the table reads from the place of the slice on. -/
theorem tget_tslice {α : Type} (d : α) (t : List (Nat × α)) (i n k : Nat) :
    tget (fun _ => d) (tslice t i n) k = if k < n then tget (fun _ => d) t (i + k) else d := by
  induction t with
  | nil => simp [tslice, tget]
  | cons e t ih =>
    obtain ⟨j, v⟩ := e
    unfold tslice at ih ⊢
    by_cases hin : i ≤ j ∧ j < i + n
    · have hkeep : (decide (i ≤ j) && decide (j < i + n)) = true := by simpa using hin
      rw [List.filter_cons, if_pos hkeep, List.map_cons]
      simp only [tget, ih]
      by_cases hk : j = i + k
      · subst hk
        simp [show k < n by omega]
      · rw [if_neg (by omega), if_neg hk]
    · have hdrop : ¬(decide (i ≤ j) && decide (j < i + n)) = true := by simpa using hin
      rw [List.filter_cons, if_neg hdrop, ih]
      by_cases hk : k < n
      · rw [if_pos hk, if_pos hk, tget, if_neg (by omega)]
      · rw [if_neg hk, if_neg hk]

theorem tslice_keys_nodup {α : Type} {t : List (Nat × α)} (h : (t.map Prod.fst).Nodup) (i n : Nat) :
    ((tslice t i n).map Prod.fst).Nodup := by
  unfold tslice
  have hsub : ((t.filter fun p => decide (i ≤ p.1) && decide (p.1 < i + n)).map Prod.fst).Nodup :=
    h.sublist (List.Sublist.map _ List.filter_sublist)
  have hkeys : ((t.filter fun p => decide (i ≤ p.1) && decide (p.1 < i + n)).map fun p => (p.1 - i, p.2)).map Prod.fst
      = ((t.filter fun p => decide (i ≤ p.1) && decide (p.1 < i + n)).map Prod.fst).map (· - i) := by
    rw [List.map_map, List.map_map]
    rfl
  rw [hkeys]
  refine nodup_map_of_inj (fun a ha b hb hab => ?_) hsub
  obtain ⟨p, hp, rfl⟩ := List.mem_map.1 ha
  obtain ⟨q, hq, rfl⟩ := List.mem_map.1 hb
  have hp' : i ≤ p.1 ∧ p.1 < i + n := by simpa using (List.mem_filter.1 hp).2
  have hq' : i ≤ q.1 ∧ q.1 < i + n := by simpa using (List.mem_filter.1 hq).2
  omega

theorem tget_of_not_key {α : Type} {d : Nat → α} {l : List (Nat × α)} {k : Nat} (h : k ∉ l.map Prod.fst) : tget d l k = d k := by
  induction l with
  | nil => rfl
  | cons e l ih =>
    obtain ⟨hne, hrest⟩ := not_or.1 fun hk => h (List.mem_cons.2 hk)
    rw [tget, if_neg fun he => hne he.symm]
    exact ih hrest

/-- Bytes written one after another, each to a place of its own. -/
theorem State.readByte_foldl_writeByte (l : List (Nat × Byte)) (hl : (l.map Prod.fst).Nodup) (a : Nat) {s : State}
    (hs : Memory.wf s.ram = true) (k : Nat) :
    (l.foldl (fun s c => s.writeByte (a + c.1) c.2) s).readByte k
      = if a ≤ k ∧ k - a ∈ l.map Prod.fst then tget (fun _ => 0) l (k - a) else s.readByte k := by
  induction l generalizing s with
  | nil => simp
  | cons e l ih =>
    obtain ⟨he, hl⟩ := List.nodup_cons.1 hl
    have hwf : Memory.wf (s.writeByte (a + e.1) e.2).ram = true := twf_tset hs _ _
    refine (ih hl hwf).trans ?_
    by_cases hk : k = a + e.1
    · subst hk
      have hsub : a + e.1 - a = e.1 := by omega
      rw [hsub, if_neg fun h => he h.2, if_pos ⟨by omega, List.mem_cons_self ..⟩, State.readByte_writeByte_self hs, tget, if_pos rfl]
    · rw [State.readByte_writeByte_ne _ _ hk]
      by_cases hle : a ≤ k
      · have hne : ¬e.1 = k - a := by omega
        rw [tget, if_neg hne]
        have hmem : k - a ∈ (e :: l).map Prod.fst ↔ k - a ∈ l.map Prod.fst := by
          rw [List.map_cons, List.mem_cons]
          exact ⟨fun h => h.resolve_left fun h => hne h.symm, Or.inr⟩
        simp only [hmem]
      · rw [if_neg fun h => hle h.1, if_neg fun h => hle h.1]

/-- A copied range reads what its source read before; every other byte stands. -/
theorem State.readByte_copyRange {s : State} (h : Memory.wf s.ram = true) (src dst n k : Nat) :
    (s.copyRange src dst n).readByte k = if dst ≤ k ∧ k < dst + n then s.readByte (src + (k - dst)) else s.readByte k := by
  unfold State.copyRange
  rw [State.readByte_foldl_writeByte _ (tslice_keys_nodup (keysAbove_of_twf h) src n) _ (Memory.wf_zeroBytes h dst n),
    State.readByte_zeroBytes]
  have hslice := tget_tslice (0 : Byte) s.ram src n (k - dst)
  by_cases hin : dst ≤ k ∧ k < dst + n
  · rw [if_pos hin, if_pos hin]
    rw [if_pos (by omega)] at hslice
    refine Eq.trans ?_ hslice
    by_cases hkey : k - dst ∈ (tslice s.ram src n).map Prod.fst
    · rw [if_pos ⟨hin.1, hkey⟩]
    · rw [if_neg fun h => hkey h.2, tget_of_not_key hkey]
  · rw [if_neg hin, if_neg hin, if_neg]
    rintro ⟨hle, hkey⟩
    obtain ⟨p, hp, heq⟩ := List.mem_map.1 hkey
    obtain ⟨q, hq, rfl⟩ := List.mem_map.1 hp
    have hbounds : src ≤ q.1 ∧ q.1 < src + n := by simpa using (List.mem_filter.1 hq).2
    exact hin ⟨hle, by omega⟩

-- Orders

theorem State.order?_mem {s : State} {seat slot typ : Nat} {o : TakenOrder} (h : s.order? seat slot typ = some o) : o ∈ s.taken :=
  List.mem_of_find?_eq_some h

theorem State.settle_carried {s : State} {o : TakenOrder} (h : o ∈ s.taken) (result obj : Nat) :
    ∃ p ∈ (s.settle o result obj).taken, p.seat = o.seat ∧ p.slot = o.slot ∧ p.carried = true ∧ p.result = result ∧ p.obj = obj :=
  ⟨_, List.mem_map_of_mem h, by simp⟩

-- The state of a job

theorem State.job_setJob_self {s : State} (h : JobsCanonical s) (j : Nat) (st : JobState) :
    (s.setJob j st).job j = { s.job j with state := st } := by
  unfold State.setJob
  split
  next hst => rw [← hst]
  · exact State.job_updJob_self h j _

theorem State.job_setJob_ne (s : State) {i j : Nat} (st : JobState) (hi : i ≠ j) : (s.setJob j st).job i = s.job i := by
  unfold State.setJob
  split
  · rfl
  · exact s.job_updJob_ne _ hi

theorem JobsCanonical.setJob {s : State} (h : JobsCanonical s) (j : Nat) (st : JobState) : JobsCanonical (s.setJob j st) := by
  unfold State.setJob
  split
  · exact h
  · exact h.updJob _ _

-- Placement

/-- An operation on each of the listed indices leaves the entries that are not listed. -/
theorem State.each_unlisted {α : Type} {f : Nat → State → State} {get : State → Nat → α}
    (hne : ∀ i k s, k ≠ i → get (f i s) k = get s k) {l : List Nat} {k : Nat} (hk : k ∉ l) (s : State) :
    get (State.each l f s) k = get s k := by
  induction l generalizing s with
  | nil => rfl
  | cons i l ih =>
    obtain ⟨hki, hkl⟩ := not_or.1 fun h => hk (List.mem_cons.2 h)
    exact (ih hkl (f i s)).trans (hne i k s hki)

/-- The tile gives the job free background pages. -/
def Tile.holds (x : Tile) (j pages : Nat) : Prop :=
  ∃ l, (j, l) ∈ x.contexts ∧ l.length ≤ pages ∧ ∀ p ∈ l, p < 992 ∧ p ∉ x.fcMap ∧ p ∉ x.retired

theorem Tile.mem_free {x : Tile} {p : Nat} (h : p ∈ x.free) : p < 992 ∧ p ∉ x.fcMap ∧ p ∉ x.retired := by
  obtain ⟨hp, hfree⟩ := List.mem_filter.1 h
  have hfree' := hfree
  simp only [Tile.isFree, Bool.and_eq_true, Bool.not_eq_true'] at hfree'
  obtain ⟨⟨hmap, hret⟩, -⟩ := hfree'
  exact ⟨List.mem_range.1 hp, by simpa using hmap, by simpa using hret⟩

/-- A tile with one more context, on free pages. -/
def Tile.joined (j pages : Nat) (x : Tile) : Tile := { x with contexts := x.contexts ++ [(j, x.free.take pages)] }

theorem Tile.joined_holds (x : Tile) (j pages : Nat) : (x.joined j pages).holds j pages := by
  have hfree : ∀ p ∈ x.free, p < 992 ∧ p ∉ x.fcMap ∧ p ∉ x.retired := fun p => Tile.mem_free
  unfold Tile.joined Tile.holds
  dsimp only
  generalize x.free = l at hfree ⊢
  exact ⟨l.take pages, List.mem_append_right _ (List.mem_singleton.2 rfl), List.length_take_le _ _,
    fun p hp => hfree p (List.mem_of_mem_take hp)⟩

theorem Tile.holds.joined {x : Tile} {j pages : Nat} (h : x.holds j pages) (i n : Nat) : (x.joined i n).holds j pages := by
  obtain ⟨l, hl, hrest⟩ := h
  exact ⟨l, List.mem_append_left _ hl, hrest⟩

theorem State.placeJob_holds {s : State} (h : TilesCanonical s) (j pages : Nat) {l : List Nat} {u : Nat} (hu : u ∈ l) :
    ((s.placeJob j pages l).tile u).holds j pages :=
  (State.each_establishes (f := fun t s => s.updTile t (Tile.joined j pages)) (get := fun _ _ => ()) (k := u) (c := fun _ => True)
    (P := TilesCanonical) (Q := fun v => TilesCanonical v ∧ (v.tile u).holds j pages)
    (fun i v hv => hv.updTile i _) (fun _ _ _ _ _ => rfl)
    (fun i v ⟨hv, hold⟩ => ⟨hv.updTile i _, by
      by_cases hi : u = i
      · subst hi
        rw [State.tile_updTile_self hv]
        exact hold.joined j pages
      · rw [State.tile_updTile_ne _ _ hi]
        exact hold⟩)
    (fun v hv _ => ⟨hv.updTile u _, by rw [State.tile_updTile_self hv]; exact Tile.joined_holds _ _ _⟩) hu h trivial).2

theorem State.placeJob_tile_ne (s : State) (j pages : Nat) {l : List Nat} {u : Nat} (hu : u ∉ l) :
    (s.placeJob j pages l).tile u = s.tile u :=
  State.each_unlisted (f := fun t s => s.updTile t (Tile.joined j pages)) (get := State.tile)
    (fun _ _ s hk => s.tile_updTile_ne _ hk) hu s

theorem State.placeJob_jobs (s : State) (j pages : Nat) (l : List Nat) : (s.placeJob j pages l).til.jobs = s.til.jobs :=
  State.each_keeps (f := fun t s => s.updTile t (Tile.joined j pages)) (P := fun u => u.til.jobs = s.til.jobs)
    (fun _ _ h => h) l rfl

-- Admission

/-- The new job of an order. -/
def State.admitted (s : State) (seat : Nat) (r : JobRec) (held resident : Bool) : Job :=
  { state := .none, info := some r, seat := seat, service := r.service, tiles := (s.pickTiles r).getD [], pages := r.pages
    gddr7Kb := r.gddr7Kb, admitted := held, imageHeld := held, resident := resident }

/-- The state in which an admitted job is placed, before it shows ADMITTING. -/
def State.admitPlaced (s : State) (j seat : Nat) (r : JobRec) (held resident : Bool) : State :=
  ((s.allotPages).updJob j fun _ => s.admitted seat r held resident).placeJob j r.pages ((s.pickTiles r).getD [])

theorem State.admitJob_eq (s : State) (j seat : Nat) (r : JobRec) (held resident : Bool) :
    s.admitJob j seat r held resident = (s.admitPlaced j seat r held resident).setJob j .admitting := rfl

theorem State.allotPages_til (s : State) : s.allotPages.til = s.til := s.allotPages_frame .til (by decide)

theorem State.admitPlaced_jobs (s : State) (j seat : Nat) (r : JobRec) (held resident : Bool) :
    (s.admitPlaced j seat r held resident).til.jobs
      = tupd (fun _ => ({} : Job)) s.til.jobs j fun _ => s.admitted seat r held resident := by
  unfold State.admitPlaced
  rw [State.placeJob_jobs]
  unfold State.updJob
  dsimp only
  rw [State.allotPages_til]

theorem State.admitPlaced_canonical {s : State} (h : JobsCanonical s) (j seat : Nat) (r : JobRec) (held resident : Bool) :
    JobsCanonical (s.admitPlaced j seat r held resident) := by
  unfold JobsCanonical
  rw [State.admitPlaced_jobs]
  exact twf_tupd h j _

theorem State.admitJob_job_self {s : State} (h : JobsCanonical s) (j seat : Nat) (r : JobRec) (held resident : Bool) :
    (s.admitJob j seat r held resident).job j = { s.admitted seat r held resident with state := .admitting } := by
  rw [State.admitJob_eq, State.job_setJob_self (State.admitPlaced_canonical h ..)]
  unfold State.job
  rw [State.admitPlaced_jobs, tget_tupd_self h]

theorem State.admitJob_job_ne (s : State) {i j : Nat} (seat : Nat) (r : JobRec) (held resident : Bool) (hi : i ≠ j) :
    (s.admitJob j seat r held resident).job i = s.job i := by
  rw [State.admitJob_eq, State.job_setJob_ne _ _ hi]
  unfold State.job
  rw [State.admitPlaced_jobs, tget_tupd_ne _ _ hi]

theorem State.admitJob_tile (s : State) (j seat : Nat) (r : JobRec) (held resident : Bool) (u : Nat) :
    (s.admitJob j seat r held resident).tile u = (s.admitPlaced j seat r held resident).tile u := by
  unfold State.tile
  rw [State.admitJob_eq, State.setJob_tiles]

theorem State.admitJob_tile_ne (s : State) (j seat : Nat) (r : JobRec) (held resident : Bool) {u : Nat}
    (hu : u ∉ (s.pickTiles r).getD []) : (s.admitJob j seat r held resident).tile u = s.tile u := by
  rw [State.admitJob_tile]
  unfold State.admitPlaced
  rw [State.placeJob_tile_ne _ _ _ hu, State.tile_updJob]
  unfold State.tile
  rw [State.allotPages_til]

theorem State.admitJob_holds {s : State} (h : TilesCanonical s) (j seat : Nat) (r : JobRec) (held resident : Bool) {u : Nat}
    (hu : u ∈ (s.pickTiles r).getD []) : ((s.admitJob j seat r held resident).tile u).holds j r.pages := by
  rw [State.admitJob_tile]
  have hc : TilesCanonical (s.allotPages.updJob j fun _ => s.admitted seat r held resident) := by
    unfold TilesCanonical
    change twf _ s.allotPages.til.tiles = true
    rw [State.allotPages_til]
    exact h
  exact State.placeJob_holds hc _ _ hu

/-- A job whose checks pass is admitted with the number found. -/
theorem State.startJob_accepted {s : State} {o : TakenOrder} {j : Nat} (hcode : s.admitCheck o.seat o.jobRec = 0)
    (hj : s.jobNumber = some j) :
    s.startJob o = (s.admitJob j o.seat { o.jobRec with job := j } false false).settle o 0 j := by
  unfold State.startJob
  dsimp only
  rw [hcode, hj]
  rfl

theorem State.startJob_refused {s : State} {o : TakenOrder} (hcode : s.admitCheck o.seat o.jobRec ≠ 0) :
    s.startJob o
      = (s.raise Src.til 1 noObj (s.admitCheck o.seat o.jobRec)).settle o (s.admitCheck o.seat o.jobRec) 0 := by
  unfold State.startJob
  dsimp only
  split
  next h _ => exact absurd h hcode
  · rfl

/-- The checks pass only where tiles are found. -/
theorem State.pickTiles_of_admitCheck {s : State} {seat : Nat} {r : JobRec} (h : s.admitCheck seat r = 0) :
    ∃ l, s.pickTiles r = some l := by
  refine Classical.byContradiction fun hnone => ?_
  have hpick : (s.pickTiles r).isNone = true := by
    rw [Option.isNone_iff_eq_none]
    exact Option.eq_none_iff_forall_ne_some.2 fun l hl => hnone ⟨l, hl⟩
  unfold State.admitCheck at h
  rw [hpick] at h
  split at h
  · cases h
  · split at h
    · cases h
    · rw [if_pos rfl] at h
      cases h

theorem exec_jobStart {s : State} {seat : BitVec 3} {slot : BitVec 12} {o : TakenOrder}
    (ho : s.order? seat.toNat slot.toNat 3 = some o) : exec (.jobStart seat slot) s = .next (s.startJob o) := by
  change execJobStart seat slot s = _
  unfold execJobStart
  rw [ho]

theorem exec_jobStart_accepted {s : State} (h : Canonical s) {seat : BitVec 3} {slot : BitVec 12} {o : TakenOrder} {j : Nat}
    (ho : s.order? seat.toNat slot.toNat 3 = some o) (hcode : s.admitCheck o.seat o.jobRec = 0) (hj : s.jobNumber = some j) :
    ∃ t, exec (.jobStart seat slot) s = .next t ∧ t.job j = { s.admitted o.seat { o.jobRec with job := j } false false with state := .admitting }
      ∧ (∀ u ∈ (s.pickTiles o.jobRec).getD [], (t.tile u).holds j o.jobRec.pages)
      ∧ (∀ u, u ∉ (s.pickTiles o.jobRec).getD [] → t.tile u = s.tile u) ∧ (∀ i, i ≠ j → t.job i = s.job i)
      ∧ (∃ p ∈ t.taken, p.seat = o.seat ∧ p.slot = o.slot ∧ p.carried = true ∧ p.result = 0 ∧ p.obj = j)
      ∧ SameBut [.taken, .til, .events, .mem, .att] s t := by
  have hexec := (exec_jobStart ho).trans (congrArg Host.Outcome.next (State.startJob_accepted hcode hj))
  have hmem : o ∈ (s.admitJob j o.seat { o.jobRec with job := j } false false).taken := by
    rw [(s.admitJob_frame j o.seat _ false false) .taken (by decide)]
    exact State.order?_mem ho
  exact ⟨_, hexec, State.admitJob_job_self h.jobs .., fun u hu => State.admitJob_holds h.tiles j o.seat { o.jobRec with job := j } false false hu,
    fun u hu => s.admitJob_tile_ne j o.seat { o.jobRec with job := j } false false hu,
    fun i hi => s.admitJob_job_ne o.seat _ false false hi, State.settle_carried hmem 0 j,
    (exec_frame _ _ _ hexec).mono (by simp [touches])⟩

-- The image

theorem exec_jobAdmitted_passed {s : State} {j : BitVec 8} {r : JobRec} (hinfo : (s.job j.toNat).info = some r)
    (hst : (s.job j.toNat).state = .admitting) (had : (s.job j.toNat).admitted = false) (hok : r.imageOk = true)
    (hdig : Config.shake256 r.imgLen (tslice s.ram (hallBase (s.job j.toNat).hallSeat + r.imgOff) r.imgLen) = r.digest) :
    exec (.jobAdmitted j) s
      = .next ((s.copyRange (hallBase (s.job j.toNat).hallSeat + r.imgOff) (jobImage j.toNat) r.imgLen).updJob j.toNat fun y =>
          { y with admitted := true, imageHeld := true }) := by
  change execJobAdmitted j s = _
  unfold execJobAdmitted
  dsimp only
  rw [hinfo]
  dsimp only
  rw [if_neg (by simp [hst, had]), if_pos (by simp [hok, hdig])]

theorem exec_jobAdmitted_failed {s : State} {j : BitVec 8} {r : JobRec} (hinfo : (s.job j.toNat).info = some r)
    (hst : (s.job j.toNat).state = .admitting) (had : (s.job j.toNat).admitted = false)
    (hbad : r.imageOk = false ∨
      Config.shake256 r.imgLen (tslice s.ram (hallBase (s.job j.toNat).hallSeat + r.imgOff) r.imgLen) ≠ r.digest) :
    exec (.jobAdmitted j) s = .next ((s.updJob j.toNat fun y => { y with admission := 6 }).endAt EndReason.refused j.toNat) := by
  change execJobAdmitted j s = _
  unfold execJobAdmitted
  dsimp only
  rw [hinfo]
  dsimp only
  rw [if_neg (by simp [hst, had]), if_neg]
  simp only [Bool.and_eq_true, decide_eq_true_eq, not_and]
  intro hok
  exact hbad.resolve_left (by simp [hok])

/-- Settles O27. -/
theorem jobsBegin : Obligations.JobsBegin := by
  intro s hcan
  refine ⟨fun seat slot o j ho hcode hj => ?_, fun seat slot o ho hcode => ?_, fun j r hinfo hst had => ⟨fun hok hdig => ?_, fun hbad => ?_⟩⟩
  · obtain ⟨t, hexec, hjob, hhold, hothers, hjobs, hcarried, hframe⟩ := exec_jobStart_accepted hcan ho hcode hj
    obtain ⟨l, hl⟩ := State.pickTiles_of_admitCheck hcode
    have htiles : (t.job j).tiles = (s.pickTiles o.jobRec).getD [] := congrArg Job.tiles hjob
    refine ⟨t, hexec, ?_, ?_, ?_, ?_, ?_, ?_, ?_, hjobs, hcarried, hframe⟩
    · rw [hjob]
    · exact congrArg Job.seat hjob
    · exact congrArg Job.info hjob
    · rw [htiles, hl]; rfl
    · exact congrArg Job.pages hjob
    · rw [htiles]; exact hhold
    · rw [htiles]; exact hothers
  · have hexec := (exec_jobStart ho).trans (congrArg Host.Outcome.next (State.startJob_refused hcode))
    refine ⟨_, hexec, List.mem_append_right _ (List.mem_singleton.2 rfl), ?_,
      (State.settle_frame _ _ _ _).after (by decide) ((State.raise_frame _ _ _ _ _).mono (by decide))⟩
    obtain ⟨p, hp, hseat, hslot, hcar, hres, -⟩ :=
      State.settle_carried (s := s.raise Src.til 1 noObj (s.admitCheck o.seat o.jobRec)) (State.order?_mem ho) (s.admitCheck o.seat o.jobRec) 0
    exact ⟨p, hp, hseat, hslot, hcar, hres⟩
  · have hjobs : (s.copyRange (hallBase (s.job j.toNat).hallSeat + r.imgOff) (jobImage j.toNat) r.imgLen).til = s.til :=
      (s.copyRange_frame _ _ _) .til (by decide)
    have hread := fun k => State.readByte_copyRange hcan.ram (hallBase (s.job j.toNat).hallSeat + r.imgOff) (jobImage j.toNat) r.imgLen k
    have hexec := exec_jobAdmitted_passed hinfo hst had hok hdig
    generalize s.copyRange (hallBase (s.job j.toNat).hallSeat + r.imgOff) (jobImage j.toNat) r.imgLen = u at hjobs hread hexec
    have hc : JobsCanonical u := by unfold JobsCanonical; rw [hjobs]; exact hcan.jobs
    have hjob : ∀ i, u.job i = s.job i := fun i => by unfold State.job; rw [hjobs]
    refine ⟨_, hexec, ?_, fun k hk => ?_, fun a ha => ?_, fun i hi => ?_, (exec_frame _ _ _ hexec).mono (by simp [touches])⟩
    · rw [State.job_updJob_self hc, hjob]
    · rw [State.readByte_updJob, hread, if_pos (by omega), Nat.add_sub_cancel_left]
    · rw [State.readByte_updJob, hread, if_neg (by omega)]
    · rw [State.job_updJob_ne _ _ hi, hjob]
  · have hexec := exec_jobAdmitted_failed hinfo hst had hbad
    have hc : JobsCanonical (s.updJob j.toNat fun y => { y with admission := 6 }) := JobsCanonical.updJob hcan.jobs _ _
    have hself : (s.updJob j.toNat fun y => { y with admission := 6 }).job j.toNat = { s.job j.toNat with admission := 6 } :=
      State.job_updJob_self hcan.jobs _ _
    have hlive : ¬(((s.updJob j.toNat fun y => { y with admission := 6 }).job j.toNat).state = .none
        ∨ ((s.updJob j.toNat fun y => { y with admission := 6 }).job j.toNat).state = .ended) := by
      rw [hself]
      simp [hst]
    have hend := State.job_endAt_self hc EndReason.refused j.toNat hlive
    rw [hself] at hend
    exact ⟨_, hexec, congrArg Job.admission hend, State.endAt_ending hc _ _ hlive, (congrArg Job.admitted hend).trans had,
      fun i hi => (State.job_endAt_ne _ _ hi).trans (State.job_updJob_ne _ _ hi),
      (State.endAt_frame _ _ _).after (by decide) ((s.updJob_frame _ _).mono (by decide))⟩

end Sys2Proof.Machine
end

-- Jobs are controlled -------------------------------------------------------------------------------------------------------
section
/-! O28: control of a job by register and by order, its stop and its exit. -/
namespace Sys2Proof.Machine

-- Fields of a Hall slot

theorem bytesAt_readBytes (s : State) (a n o m : Nat) (h : o + m ≤ n) :
    bytesAt (s.readBytes a n) o m = s.readBytes (a + o) m := by
  unfold bytesAt State.readBytes tgetList span
  refine List.ext_getElem (by simp; omega) fun k hk hk' => ?_
  simp [Nat.add_assoc]

/-- A field of the bytes read from a place of a Hall. -/
theorem fieldAt_readBytes (s : State) (seat at_ n o m : Nat) (h : o + m ≤ n) :
    fieldAt (s.readBytes (hallBase seat + at_) n) o m = s.hallNat seat (at_ + o) m := by
  unfold fieldAt State.hallNat
  rw [bytesAt_readBytes _ _ _ _ _ h, Nat.add_assoc]

theorem State.hallNat_byte (s : State) (seat off : Nat) : s.hallNat seat off 1 = (s.readByte (hallBase seat + off)).toNat := by
  simp [State.hallNat, State.readBytes, tgetList, span, leNat, State.readByte]

-- Taking up an order

/-- The order that taking up a slot keeps. -/
def State.orderAt (s : State) (i n : Nat) : TakenOrder :=
  let h := s.readBytes (hallBase i + 256 * n) 32
  let body := s.readBytes (hallBase i + 256 * n + 32) 224
  let r := genericCheck (s.seat i).agreed (fieldAt h 1 1) (fieldAt h 2 1) (fieldAt h 0x14 4) body
  { seat := i, slot := n, typ := fieldAt h 1 1, flags := fieldAt h 2 1, cookie := fieldAt h 4 4, taken := s.nextTick
    result := r, obj := 0, body := body, carried := decide (r ≠ 0) }

theorem State.orderAt_typ (s : State) (i n : Nat) : (s.orderAt i n).typ = s.hallNat i (256 * n + 1) 1 :=
  fieldAt_readBytes s i (256 * n) 32 1 1 (by decide)

theorem State.orderAt_num (s : State) (i n o m : Nat) (h : o + m ≤ 224) :
    (s.orderAt i n).num o m = s.hallNat i (256 * n + 32 + o) m :=
  fieldAt_readBytes s i (256 * n + 32) 224 o m h

theorem State.takeSlot_taken (s : State) (i n : Nat) : (s.takeSlot i n).taken = s.taken ++ [s.orderAt i n] := rfl

theorem State.takeSlot_writes (s : State) (i n : Nat) :
    (s.takeSlot i n).ram = ((s.hallWrite i (256 * n) [2]).hallWrite i (256 * n + 8) (leBytes 8 s.nextTick)).ram := rfl

/-- The slot is marked TAKEN. -/
theorem State.takeSlot_marks {s : State} (h : Memory.wf s.ram = true) (i n : Nat) : (s.takeSlot i n).hallNat i (256 * n) 1 = 2 := by
  rw [State.hallNat_byte]
  unfold State.readByte
  rw [State.takeSlot_writes]
  have hlater : ((s.hallWrite i (256 * n) [2]).hallWrite i (256 * n + 8) (leBytes 8 s.nextTick)).readByte (hallBase i + 256 * n)
      = (s.hallWrite i (256 * n) [2]).readByte (hallBase i + 256 * n) :=
    State.readByte_writeBytes_ne _ _ _ _ (by omega)
  have hmark : (s.hallWrite i (256 * n) [2]).readByte (hallBase i + 256 * n) = 2 :=
    State.readByte_writeBytes_at h (hallBase i + 256 * n) 0 [2] (by decide)
  exact congrArg BitVec.toNat (hlater.trans hmark)

/-- The order form takes up the slot of its seat. -/
theorem State.jobCtl_order {s : State} {seat : BitVec 3} {slot : BitVec 12} {op j : Nat} (hslot : (seat.toNat, slot.toNat) ∈ s.slotsToTake)
    (htyp : s.hallNat seat.toNat (256 * slot.toNat + 1) 1 = 4) (hjob : s.hallNat seat.toNat (256 * slot.toNat + 32) 2 = j)
    (hop : s.hallNat seat.toNat (256 * slot.toNat + 34) 1 = op) :
    s.jobCtl (.order seat slot) op j = s.takeSlot seat.toNat slot.toNat := by
  unfold State.jobCtl
  dsimp only
  rw [if_pos ⟨hop, hjob⟩]
  unfold State.takeEarly
  exact if_pos (by simp [hslot, htyp])

-- Park and resume

/-- What a request leaves of a job. -/
theorem State.job_requestJob {s : State} (hj : JobsCanonical s) (ht : TilesCanonical s) (j : Nat) :
    ((s.requestJob j).job j).state = (s.job j).state ∧ ((s.requestJob j).job j).parks = (s.job j).parks
      ∧ ((s.requestJob j).job j).exitCode = (s.job j).exitCode ∧ ((s.requestJob j).job j).ending = (s.job j).ending
      ∧ ∀ i, i ≠ j → (s.requestJob j).job i = s.job i := by
  have hself := State.requestJob_jobs (part := fun _ x => (x.state, x.parks, x.exitCode, x.ending)) hj ht (j := j) fun _ _ _ => rfl
  have hothers := State.requestJob_jobs (part := fun i x => if i = j then ({} : Job) else x) hj ht (j := j) fun _ _ _ => by simp
  have hself' := hself.keeps j
  simp only [Prod.mk.injEq] at hself'
  obtain ⟨hst, hparks, hcode, hend⟩ := hself'
  refine ⟨hst, hparks, hcode, hend, fun i hi => ?_⟩
  have hi' := hothers.keeps i
  simpa [hi] using hi'

theorem JobsCanonical.requestJob {s : State} (hj : JobsCanonical s) (ht : TilesCanonical s) (j : Nat) : JobsCanonical (s.requestJob j) :=
  (State.requestJob_jobs (part := fun _ _ => ()) hj ht fun _ _ _ => rfl).canonical

/-- A job that has a park reason becomes PARKED. -/
theorem State.settleParks_parks {s : State} (hj : JobsCanonical s) (ht : TilesCanonical s) {j : Nat}
    (hst : (s.job j).state = .ready ∨ (s.job j).state = .running) (hparks : (s.job j).parks ≠ []) :
    ((s.settleParks j).job j).state = .parked ∧ ((s.settleParks j).job j).parks = (s.job j).parks
      ∧ ∀ i, i ≠ j → (s.settleParks j).job i = s.job i := by
  have heq : s.settleParks j = (s.requestJob j).setJob j .parked := by
    unfold State.settleParks
    dsimp only
    rw [if_neg, if_pos (by simpa using hparks)]
    obtain hst | hst := hst <;> simp [hst, Job.live]
  have hself := State.job_setJob_self (hj.requestJob ht j) j .parked
  obtain ⟨-, hp, -, -, hothers⟩ := State.job_requestJob hj ht j
  rw [heq]
  refine ⟨?_, ?_, fun i hi => (State.job_setJob_ne _ _ hi).trans (hothers i hi)⟩
  · rw [hself]
  · rw [hself]
    exact hp

/-- A parked job without a park reason becomes READY. -/
theorem State.settleParks_resumes {s : State} (hj : JobsCanonical s) {j : Nat} (hst : (s.job j).state = .parked)
    (hparks : (s.job j).parks = []) :
    ((s.settleParks j).job j).state = .ready ∧ ((s.settleParks j).job j).parks = []
      ∧ ∀ i, i ≠ j → (s.settleParks j).job i = s.job i := by
  have heq : s.settleParks j = s.setJob j .ready := by
    unfold State.settleParks
    dsimp only
    rw [if_neg (by simp [hst, Job.live]), if_neg (by simp [hparks]), if_pos hst]
  have hself := State.job_setJob_self hj j .ready
  rw [heq]
  refine ⟨?_, ?_, fun i hi => State.job_setJob_ne _ _ hi⟩
  · rw [hself]
  · rw [hself]
    exact hparks

/-- The state in which an order has parked a job, before its state follows. -/
def State.orderParked (s : State) (j : Nat) : State :=
  s.updJob j fun x => { x with parks := (x.parks.filter (· ≠ Park.order)) ++ [Park.order] }

theorem State.job_orderParked {s : State} (hj : JobsCanonical s) (j : Nat) :
    (s.orderParked j).job j = { s.job j with parks := ((s.job j).parks.filter (· ≠ Park.order)) ++ [Park.order] } :=
  State.job_updJob_self hj j _

theorem State.control_park {s : State} (hj : JobsCanonical s) (ht : TilesCanonical s) {j : Nat}
    (hst : (s.job j).state = .ready ∨ (s.job j).state = .running) :
    ((s.control 1 j).job j).state = .parked ∧ Park.order ∈ ((s.control 1 j).job j).parks
      ∧ ∀ i, i ≠ j → (s.control 1 j).job i = s.job i := by
  have heq : s.control 1 j = (s.orderParked j).settleParks j := rfl
  have hc : JobsCanonical (s.orderParked j) := JobsCanonical.updJob hj _ _
  have hself := State.job_orderParked hj j
  obtain ⟨hstate, hparks, hothers⟩ := State.settleParks_parks hc ht (j := j) (by rw [hself]; exact hst) (by rw [hself]; simp)
  rw [heq]
  refine ⟨hstate, ?_, fun i hi => (hothers i hi).trans (State.job_updJob_ne _ _ hi)⟩
  rw [hparks, hself]
  simp

/-- The state in which an order no longer parks a job, before its state follows. -/
def State.orderResumed (s : State) (j : Nat) : State :=
  s.updJob j fun x => { x with parks := x.parks.filter (· ≠ Park.order) }

theorem State.job_orderResumed {s : State} (hj : JobsCanonical s) (j : Nat) :
    (s.orderResumed j).job j = { s.job j with parks := (s.job j).parks.filter (· ≠ Park.order) } :=
  State.job_updJob_self hj j _

theorem State.control_resume {s : State} (hj : JobsCanonical s) {j : Nat} (hst : (s.job j).state = .parked)
    (hparks : (s.job j).parks = [Park.order]) :
    ((s.control 2 j).job j).state = .ready ∧ ((s.control 2 j).job j).parks = []
      ∧ ∀ i, i ≠ j → (s.control 2 j).job i = s.job i := by
  have heq : s.control 2 j = (s.orderResumed j).settleParks j := rfl
  have hc : JobsCanonical (s.orderResumed j) := JobsCanonical.updJob hj _ _
  have hself := State.job_orderResumed hj j
  obtain ⟨hstate, hnone, hothers⟩ := State.settleParks_resumes hc (j := j) (by rw [hself]; exact hst) (by rw [hself]; simp [hparks])
  rw [heq]
  exact ⟨hstate, hnone, fun i hi => (hothers i hi).trans (State.job_updJob_ne _ _ hi)⟩

-- The end of a job

/-- The state in which what a job holds is free, before the job shows its end. -/
def State.holdingsFreed (s : State) (j : Nat) (again : Bool) : State :=
  let s := (((s.dropContexts j).freeClaims j).freeShelves j).freeMemory j again
  { s with est := if s.est.adaptJob = some j then { s.est with adaptJob := none, training := false } else s.est }

/-- A job that has ended. -/
def Job.over (r : Nat) (restart : Option Nat) (y : Job) : Job :=
  { y with parks := [], endReason := r, ending := [], tiles := [], pages := 0, fault := none, admitted := false
           restart := restart, evicted := false, endRead := false }

theorem State.endJob_eq (s : State) {r : Nat} (j : Nat) (hr : r ≠ EndReason.refused) :
    s.endJob r j = (((s.holdingsFreed j ((s.job j).restarts r)).updJob j
      (Job.over r (if (s.job j).restarts r then some ((s.holdingsFreed j ((s.job j).restarts r)).nextTick + 1) else none))).setJob j .ended).raise Src.til 0 j r := by
  unfold State.endJob
  dsimp only
  rw [if_neg hr]
  rfl

theorem Job.restarts_stopped (x : Job) : x.restarts EndReason.stopped = false := by
  unfold Job.restarts
  split
  · simp [EndReason.stopped]
  · rfl

theorem State.holdingsFreed_til (s : State) (j : Nat) (again : Bool) : (s.holdingsFreed j again).til = (s.dropContexts j).til := by
  have hframe : SameBut [.regs, .events, .plan, .est, .mem, .shelves, .ram] (s.dropContexts j) (s.holdingsFreed j again) :=
    (SameBut.est_frame _ _).after (by decide) ((State.freeMemory_frame _ _ _).after (by decide)
      ((State.freeShelves_frame _ _).after (by decide) ((State.freeClaims_frame _ _).mono (by decide))))
  exact hframe .til (by decide)

theorem State.holdingsFreed_ram (s : State) (j : Nat) : (s.holdingsFreed j false).ram = (s.zeroBytes (jobBase j) (2 ^ 37)).ram := by
  have hclaims : ((s.dropContexts j).freeClaims j).ram = (s.dropContexts j).ram := State.freeClaims_frame _ _ .ram (by decide)
  have hshelves : (((s.dropContexts j).freeClaims j).freeShelves j).ram = ((s.dropContexts j).freeClaims j).ram :=
    State.freeShelves_frame _ _ .ram (by decide)
  change terase (((s.dropContexts j).freeClaims j).freeShelves j).ram _ _ = terase s.ram _ _
  rw [hshelves, hclaims]
  rfl

theorem State.tile_dropContexts {s : State} (h : TilesCanonical s) (j u : Nat) : (s.dropContexts j).tile u = (s.tile u).drop j :=
  tget_tmap h (fun _ => Tile.drop_default j) u

theorem Tile.drop_free (x : Tile) (j : Nat) : (∀ c, c ∈ (x.drop j).contexts → c.1 ≠ j) ∧ (x.drop j).running ≠ some j := by
  have hctx : ∀ c, c ∈ x.contexts.filter (fun c => c.1 ≠ j) → c.1 ≠ j := fun c hc => by simpa using (List.mem_filter.1 hc).2
  unfold Tile.drop
  dsimp only
  split
  · exact ⟨hctx, by simp⟩
  next hrun => exact ⟨hctx, hrun⟩

theorem State.setJob_ram (s : State) (j : Nat) (st : JobState) : (s.setJob j st).ram = s.ram :=
  (s.setJob_frame j st) .ram (by decide)

/-- What ending a job leaves of the jobs, the tiles and memory, where the job is not admitted again. -/
theorem State.endJob_effect {s : State} (hj : JobsCanonical s) (ht : TilesCanonical s) {r : Nat} (j : Nat) (hr : r ≠ EndReason.refused) :
    (s.endJob r j).job j = { Job.over r
          (if (s.job j).restarts r then some ((s.holdingsFreed j ((s.job j).restarts r)).nextTick + 1) else none) (s.job j) with state := .ended }
      ∧ (∀ i, i ≠ j → (s.endJob r j).job i = s.job i) ∧ (∀ u, (s.endJob r j).tile u = (s.tile u).drop j)
      ∧ (s.endJob r j).ram = (s.holdingsFreed j ((s.job j).restarts r)).ram := by
  rw [State.endJob_eq s j hr]
  generalize (if (s.job j).restarts r then some ((s.holdingsFreed j ((s.job j).restarts r)).nextTick + 1) else none) = again
  have htil := s.holdingsFreed_til j ((s.job j).restarts r)
  generalize s.holdingsFreed j ((s.job j).restarts r) = v at htil
  have hvjob : ∀ i, v.job i = s.job i := fun i => by unfold State.job; rw [htil]; rfl
  have hvc : JobsCanonical v := by unfold JobsCanonical; rw [htil]; exact hj
  have hvtile : ∀ u, v.tile u = (s.tile u).drop j := fun u => by
    have hsame : v.tile u = (s.dropContexts j).tile u := by unfold State.tile; rw [htil]
    rw [hsame, State.tile_dropContexts ht]
  refine ⟨?_, fun i hi => ?_, fun u => ?_, ?_⟩
  · rw [State.job_raise, State.job_setJob_self (hvc.updJob _ _), State.job_updJob_self hvc, hvjob]
  · rw [State.job_raise, State.job_setJob_ne _ _ hi, State.job_updJob_ne _ _ hi, hvjob]
  · rw [State.tile_raise]
    unfold State.tile
    rw [State.setJob_tiles]
    exact hvtile u
  · rw [State.raise_ram, State.setJob_ram]
    rfl

-- An exit

theorem exec_jobExit {s : State} {j : BitVec 8} (hrun : (s.job j.toNat).state = .running) (code : BitVec 32) :
    exec (.jobExit j code) s
      = .next (((s.updJob j.toNat fun x => { x with exitCode := code.toNat }).endAt EndReason.done j.toNat).requestJob j.toNat) :=
  if_pos hrun

/-- Settles O28. -/
theorem jobsControlled : Obligations.JobsControlled := by
  intro s hcan
  refine ⟨fun j hsel => ?_, fun op hop hcheck => ?_, fun seat slot j hslot htyp hjob c hc => ?_, fun j => ⟨fun hst => ?_, fun hst hparks => ?_, ?_⟩,
    fun j code hrun => ?_⟩
  · exact ⟨congrArg Host.Outcome.next (if_pos hsel), congrArg Host.Outcome.next (if_pos hsel), congrArg Host.Outcome.next (if_pos hsel)⟩
  · unfold State.takeJobCtl
    rw [hop]
    exact if_pos hcheck
  · have hexec : exec c s = .next (s.takeSlot seat.toNat slot.toNat) := by
      obtain ⟨hop, rfl⟩ | ⟨hop, rfl⟩ | ⟨hop, rfl⟩ := hc
      · exact congrArg Host.Outcome.next (State.jobCtl_order hslot htyp hjob hop)
      · exact congrArg Host.Outcome.next (State.jobCtl_order hslot htyp hjob hop)
      · exact congrArg Host.Outcome.next (State.jobCtl_order hslot htyp hjob hop)
    refine ⟨_, s.orderAt seat.toNat slot.toNat, hexec, State.takeSlot_taken _ _ _, rfl, rfl, ?_, rfl, ?_, ?_,
      State.takeSlot_marks hcan.ram _ _, (s.takeSlot_frame _ _).mono (by decide)⟩
    · exact (State.orderAt_typ _ _ _).trans htyp
    · exact (State.orderAt_num _ _ _ _ _ (by decide)).trans hjob
    · exact State.orderAt_num _ _ _ _ _ (by decide)
  · obtain ⟨hstate, hpark, hothers⟩ := State.control_park hcan.jobs hcan.tiles hst
    exact ⟨hstate, hpark, hothers, (State.settleParks_frame _ _).after (by decide) ((s.updJob_frame j _).mono (by decide))⟩
  · obtain ⟨hstate, hnone, hothers⟩ := State.control_resume hcan.jobs hst hparks
    exact ⟨hstate, hnone, hothers, (State.settleParks_frame _ _).after (by decide) ((s.updJob_frame j _).mono (by decide))⟩
  · have heq : s.control 3 j = s.endJob EndReason.stopped j := rfl
    obtain ⟨hself, hothers, htile, hram⟩ := State.endJob_effect hcan.jobs hcan.tiles (r := EndReason.stopped) j (by decide)
    rw [Job.restarts_stopped] at hram
    have hread : ∀ a, (s.endJob EndReason.stopped j).readByte a = (s.zeroBytes (jobBase j) (2 ^ 37)).readByte a := fun a => by
      unfold State.readByte
      rw [hram, State.holdingsFreed_ram]
    dsimp only
    rw [heq]
    refine ⟨?_, ?_, ?_, fun u c hc => ?_, fun u => ?_, fun a hlo hhi => ?_, fun a ha => ?_, hothers⟩
    · rw [hself]
    · rw [hself]; rfl
    · rw [hself]; rfl
    · rw [htile] at hc
      exact (Tile.drop_free _ j).1 c hc
    · rw [htile]
      exact (Tile.drop_free _ j).2
    · rw [hread, State.readByte_zeroBytes, if_pos ⟨hlo, hhi⟩]
    · rw [hread, State.readByte_zeroBytes, if_neg (by omega)]
  · have hexec := exec_jobExit hrun code
    have hself : (s.updJob j.toNat fun x => { x with exitCode := code.toNat }).job j.toNat
        = { s.job j.toNat with exitCode := code.toNat } := State.job_updJob_self hcan.jobs _ _
    have hc : JobsCanonical (s.updJob j.toNat fun x => { x with exitCode := code.toNat }) := JobsCanonical.updJob hcan.jobs _ _
    have hc' := hc.endAt EndReason.done j.toNat
    have hlive : ¬(((s.updJob j.toNat fun x => { x with exitCode := code.toNat }).job j.toNat).state = .none
        ∨ ((s.updJob j.toNat fun x => { x with exitCode := code.toNat }).job j.toNat).state = .ended) := by
      rw [hself]
      simp [hrun]
    have hend := State.job_endAt_self hc EndReason.done j.toNat hlive
    have hdone := State.endAt_ending hc EndReason.done j.toNat hlive
    have htiles := (s.updJob j.toNat fun x => { x with exitCode := code.toNat }).tiles_endAt EndReason.done j.toNat
    have hne : ∀ i, i ≠ j.toNat → ((s.updJob j.toNat fun x => { x with exitCode := code.toNat }).endAt EndReason.done j.toNat).job i
        = s.job i := fun i hi => (State.job_endAt_ne _ _ hi).trans (State.job_updJob_ne _ _ hi)
    rw [hself] at hend
    generalize (s.updJob j.toNat fun x => { x with exitCode := code.toNat }).endAt EndReason.done j.toNat = v at hexec hc' hend hdone htiles hne
    have hvt : TilesCanonical v := by unfold TilesCanonical; rw [htiles]; exact hcan.tiles
    obtain ⟨hst, -, hcode, hending, hothers⟩ := State.job_requestJob hc' hvt j.toNat
    refine ⟨_, hexec, ?_, ?_, ?_, fun u hu => ?_, fun i hi => (hothers i hi).trans (hne i hi), (exec_frame _ _ _ hexec).mono (by simp [touches])⟩
    · rw [hcode, hend]
    · rw [hending]
      exact hdone
    · rw [hst, hend]
      exact hrun
    · have htile : v.tile u = s.tile u := by unfold State.tile; rw [htiles]; rfl
      rw [← htile]
      exact State.requestJob_asks hvt (by rw [hend]; exact hu)

end Sys2Proof.Machine
end

-- Operations on plans --------------------------------------------------------------------------------------------------------
section
/-! O30: the operations of `PLN_CMD` at their tick. -/
namespace Sys2Proof.Machine

/-- The state in which the operation of `PLN_CMD` has been taken from its field. -/
def State.planOpTaken (s : State) : State := { s with ops := { s.ops with plan := none } }

theorem State.takePlan_validate {s : State} {f : Bool} (h : s.ops.plan = some (1, f)) : s.takePlan = s.planOpTaken.takeValidate := by
  unfold State.takePlan
  rw [h]
  rfl

theorem State.takePlan_commit {s : State} {f : Bool} (h : s.ops.plan = some (2, f)) : s.takePlan = s.planOpTaken.takeCommit f := by
  unfold State.takePlan
  rw [h]
  rfl

theorem State.takePlan_cancel {s : State} {f : Bool} (h : s.ops.plan = some (3, f)) : s.takePlan = s.planOpTaken.takeCancel := by
  unfold State.takePlan
  rw [h]
  rfl

theorem State.takeValidate_busy {s : State} (h : s.commitBusy = true) : s.takeValidate = s.planResult PlnResult.busy := if_pos h

theorem State.takeCommit_busy {s : State} (h : s.commitBusy = true) (f : Bool) : s.takeCommit f = s.planResult PlnResult.busy := if_pos h

/-- A commit needs a candidate. -/
theorem State.takeCommit_idle {s : State} (hbusy : s.commitBusy = false) (h : s.plan.st ≠ .valid) (f : Bool) :
    s.takeCommit f = s.planResult PlnResult.noCandidate := by
  unfold State.takeCommit
  dsimp only
  rw [if_neg (by simp [hbusy])]
  split
  next hst _ => exact absurd hst h
  · rfl

/-- A validation that is taken up: VALIDATING, without a candidate. -/
theorem State.takeValidate_free {s : State} (h : s.commitBusy = false) :
    s.takeValidate.plan.st = .validating ∧ s.takeValidate.plan.cand = none ∧ s.takeValidate.plan.plan = s.plan.plan
      ∧ s.takeValidate.plan.tables = s.plan.tables ∧ SameBut [.plan, .upd] s s.takeValidate := by
  have hframe := s.takeValidate_frame
  revert hframe
  unfold State.takeValidate
  rw [if_neg (by simp [h])]
  exact fun hframe => ⟨rfl, rfl, rfl, rfl, hframe.mono (by decide)⟩

/-- A staged image within the Bulk area is what is validated. -/
theorem State.takeValidate_image {s : State} (h : s.commitBusy = false) (hlow : 0x1000000 ≤ s.field Reg.PLN_STAGE_OFF 0 28)
    (halign : s.field Reg.PLN_STAGE_OFF 0 28 % 4096 = 0)
    (hend : s.field Reg.PLN_STAGE_OFF 0 28 + s.field Reg.PLN_STAGE_LEN 0 28 ≤ hallSize) :
    s.takeValidate.plan.imageLen = s.field Reg.PLN_STAGE_LEN 0 28
      ∧ s.takeValidate.plan.image
        = tslice s.ram (hallBase 0 + s.field Reg.PLN_STAGE_OFF 0 28) (s.field Reg.PLN_STAGE_LEN 0 28) := by
  have hok : (decide (0x1000000 ≤ s.field Reg.PLN_STAGE_OFF 0 28) && decide (s.field Reg.PLN_STAGE_OFF 0 28 % 4096 = 0)
      && decide (s.field Reg.PLN_STAGE_OFF 0 28 + s.field Reg.PLN_STAGE_LEN 0 28 ≤ hallSize)) = true := by
    simp [hlow, halign, hend]
  unfold State.takeValidate
  rw [if_neg (by simp [h])]
  exact ⟨if_pos hok, if_pos hok⟩

/-- No table is held by a PATCH once its banks are released. -/
theorem State.patchRelease_writers (s : State) : ∀ p ∈ s.patchRelease.plan.tables, p.2.writer ≠ 3 := by
  intro p hp
  obtain ⟨q, -, rfl⟩ := List.mem_map.1 hp
  split
  · simp
  next h => exact h

/-- Settles O30. -/
theorem planOperationsTakenUp : Obligations.PlanOperationsTakenUp := by
  intro s
  refine ⟨fun hop hbusy => ?_, fun f hbusy hop => ?_, fun f hop hbusy hst => ?_, fun hop hst => ?_, fun hop hst => ?_, fun hop hst => ?_⟩
  · have hfree : s.planOpTaken.commitBusy = false := hbusy
    rw [State.takePlan_validate hop]
    obtain ⟨hst, hcand, hplan, htables, hframe⟩ := State.takeValidate_free hfree
    exact ⟨hst, hcand, fun hlow halign hend => State.takeValidate_image hfree hlow halign hend, hplan, htables,
      hframe.after (by decide) ((SameBut.ops_frame s _).mono (by decide))⟩
  · have hb : s.planOpTaken.commitBusy = true := hbusy
    obtain hop | hop := hop
    · rw [State.takePlan_validate hop, State.takeValidate_busy hb]
      rfl
    · rw [State.takePlan_commit hop, State.takeCommit_busy hb]
      rfl
  · rw [State.takePlan_commit hop, State.takeCommit_idle (s := s.planOpTaken) hbusy hst]
    rfl
  · rw [State.takePlan_cancel hop]
    have hst' : s.planOpTaken.plan.st = .valid ∨ s.planOpTaken.plan.st = .validating := hst
    unfold State.takeCancel
    obtain hst | hst := hst'
    · rw [hst]
      exact ⟨rfl, rfl, rfl⟩
    · rw [hst]
      exact ⟨rfl, rfl, rfl⟩
  · rw [State.takePlan_cancel hop]
    have hst' : s.planOpTaken.plan.st = .scheduled ∨ s.planOpTaken.plan.st = .preload := hst
    unfold State.takeCancel
    obtain hst | hst := hst'
    · rw [hst]
      exact ⟨rfl, rfl, rfl, State.patchRelease_writers _⟩
    · rw [hst]
      exact ⟨rfl, rfl, rfl, State.patchRelease_writers _⟩
  · rw [State.takePlan_cancel hop]
    have hst' : s.planOpTaken.plan.st = .bridge := hst
    unfold State.takeCancel
    rw [hst']
    exact ⟨hst, rfl⟩

end Sys2Proof.Machine
end

-- A commit takes effect ------------------------------------------------------------------------------------------------------
section
/-! O31: a FULL plan and a PATCH at their tick, a commit that a move turns back, the end of a bridge. -/
namespace Sys2Proof.Machine

-- What the operations of a commit leave of the plan block

/-- The plan block but for the contents of its tables, the loads under way and the state of the commit, with the numbers of its tables. -/
def PlanBlock.core (p : PlanBlock) : PlanBlock × List Nat :=
  ({ p with tables := [], loads := [], st := .idle, cmdResult := 0, candKind := 0, preload := 0, bridge := 0 }, p.tables.map Prod.fst)

/-- The core of the plan block, the configured frame and the clock stand. -/
structure Governed (s t : State) : Prop where
  core  : t.plan.core = s.plan.core
  clock : ClockKept s t

theorem Governed.refl (s : State) : Governed s s := ⟨rfl, .refl s⟩

theorem Governed.trans {s t u : State} (h : Governed s t) (k : Governed t u) : Governed s u :=
  ⟨k.core.trans h.core, h.clock.trans k.clock⟩

theorem SameBut.governed {l : List Part} {s t : State} (h : SameBut l s t) (hplan : .plan ∉ l) (hhrt : .hrt ∉ l) : Governed s t :=
  ⟨congrArg PlanBlock.core (h .plan hplan), h.clock hhrt⟩

/-- A change of the plan block that leaves its core. -/
theorem SameBut.governed_of_core {l : List Part} {s t : State} (h : SameBut l s t) (hhrt : .hrt ∉ l) (hcore : t.plan.core = s.plan.core) :
    Governed s t := ⟨hcore, h.clock hhrt⟩

theorem Governed.foldl {β : Type} {f : State → β → State} (hf : ∀ s b, Governed s (f s b)) (l : List β) (s : State) :
    Governed s (l.foldl f s) := by
  induction l generalizing s with
  | nil => exact .refl s
  | cons b l ih => exact (hf s b).trans (ih _)

theorem Governed.each {f : Nat → State → State} (hf : ∀ i s, Governed s (f i s)) (l : List Nat) (s : State) :
    Governed s (State.each l f s) := Governed.foldl (fun s i => hf i s) l s

theorem Governed.keys {s t : State} (h : Governed s t) : t.plan.tables.map Prod.fst = s.plan.tables.map Prod.fst := congrArg Prod.snd h.core

theorem Governed.nextTick {s t : State} (h : Governed s t) : t.nextTick = s.nextTick := by
  obtain ⟨⟨-, hframe, -, -, -, hadopt⟩, -⟩ := h.clock
  unfold State.nextTick
  rw [hadopt, hframe]

/-- A change of each table that leaves the numbers. -/
theorem keys_map {α β : Type} (f : Nat × α → Nat × β) (hf : ∀ p, (f p).1 = p.1) (l : List (Nat × α)) :
    (l.map f).map Prod.fst = l.map Prod.fst := by
  rw [List.map_map]
  exact List.map_congr_left fun p _ => hf p

theorem PlanBlock.core_tables (p : PlanBlock) {f : Nat × PlanTable → Nat × PlanTable} (hf : ∀ e, (f e).1 = e.1) :
    ({ p with tables := p.tables.map f } : PlanBlock).core = p.core := by
  unfold PlanBlock.core
  dsimp only
  rw [keys_map f hf]

theorem State.updTable_governed (s : State) (id : Nat) (f : PlanTable → PlanTable) : Governed s (s.updTable id f) :=
  ((SameBut.plan_frame s _).governed_of_core (by decide)) (PlanBlock.core_tables _ fun e => by split <;> rfl)

theorem State.freeClaims_governed (s : State) (j : Nat) : Governed s (s.freeClaims j) :=
  (s.freeClaims_frame j).governed_of_core (by decide) (PlanBlock.core_tables _ fun e => by split <;> rfl)

theorem State.patchRelease_governed (s : State) : Governed s s.patchRelease :=
  s.patchRelease_frame.governed_of_core (by decide) (PlanBlock.core_tables _ fun e => by split <;> rfl)

theorem State.holdingsFreed_governed (s : State) (j : Nat) (again : Bool) : Governed s (s.holdingsFreed j again) := by
  have hdrop : Governed s (s.dropContexts j) := (SameBut.til_frame s _).governed (by decide) (by decide)
  have hclaims := (s.dropContexts j).freeClaims_governed j
  have hrest : SameBut [.est, .mem, .ram, .regs, .events, .shelves] ((s.dropContexts j).freeClaims j) (s.holdingsFreed j again) :=
    (SameBut.est_frame _ _).after (by decide) ((State.freeMemory_frame _ _ _).after (by decide) ((State.freeShelves_frame _ _).mono (by decide)))
  exact (hdrop.trans hclaims).trans (hrest.governed (by decide) (by decide))

theorem State.endJob_governed (s : State) (r j : Nat) : Governed s (s.endJob r j) := by
  unfold State.endJob
  dsimp only
  refine (s.holdingsFreed_governed j ((s.job j).restarts r)).trans ?_
  have hrest : ∀ u : State, ∀ f, Governed u (((u.updJob j f).setJob j .ended).raise Src.til 0 j r) := fun u f =>
    ((State.raise_frame _ _ _ _ _).after (by decide) ((State.setJob_frame _ _ _).after (m := [.events, .til]) (by decide)
      ((u.updJob_frame _ _).mono (by decide)))).governed (by decide) (by decide)
  split
  · exact (hrest _ _).trans ((State.raise_frame _ _ _ _ _).governed (by decide) (by decide))
  · exact hrest _ _

theorem State.endNow_governed (s : State) (r j : Nat) : Governed s (s.endNow r j) := s.endJob_governed _ j

theorem State.clearJobs_governed (s : State) (kept : List Nat) : Governed s (s.clearJobs kept) := by
  unfold State.clearJobs
  dsimp only
  have hends : ∀ l, Governed s (State.each l (fun j u => u.endNow EndReason.commit j) s) := fun l =>
    Governed.each (fun j u => u.endNow_governed _ j) l s
  have hkept : ∀ u : State, Governed u (State.each kept (fun j v => v.evictJob j) u) := fun u =>
    Governed.each (fun j v => (v.evictJob_frame j).governed (by decide) (by decide)) kept u
  exact ((hends _).trans (hkept _)).trans ((SameBut.til_frame _ _).governed (by decide) (by decide))

theorem State.commitPorch_governed (old : List LaneEntry) (s : State) (p : Nat) : Governed s (State.commitPorch old s p) := by
  refine ⟨congrArg PlanBlock.core (s.commitPorch_frame old p .plan (by decide)), ?_⟩
  unfold State.commitPorch
  dsimp only
  split
  · exact .refl s
  · split
    · exact ((State.raise_frame _ _ _ _ _).after (m := [.events, .porches]) (by decide) ((s.updPorch_frame _ _).mono (by decide))).clock (by decide)
    · split
      · exact ((s.updPorch_frame _ _).clock (by decide)).trans (State.inTick_clock _ _ fun t => (t.configure_frame p).clock (by decide))
      · exact (s.updPorch_frame _ _).clock (by decide)

-- A FULL plan governs

/-- The state that a FULL plan governs, before shelves, jobs and porches follow. -/
def State.fullGoverns (s : State) (q : Plan) (kind : Nat) : State :=
  let t := s.nextTick
  let bridged := decide (kind = 3)
  let bend := if bridged then t + s.plan.bridge else t
  let ls := s.changedLoops q
  let s := s.commitMoves ls false
  let s := s.commitLoops q ls (if bridged then some bend else none)
  let loads := s.plan.loads
  let s := s.commitTables q
  { s with
    plan := { s.plan with
      plan := q, committed := true, digest := s.nextDigest q, planId := q.planId, commitFrame := t, bridgeEnd := bend
      variant := 0, switchAt := none, selectNow := false, freezeAt := none, excuseTo := none, loads := loads
      noVariant := false }
    hrt := { s.hrt with cfg := q.frame }
    twn := { s.twn with sync := none, syncBatches := [], syncTables := [] }
    mem := { s.mem with builtOn := s.devsIn, degraded := false, pinnedKb := q.pinned s.plan.fig, spillKb := s.plan.spillKb, spilled := s.plan.spilled } }

/-- Shelves, jobs, tiles and porches take up a FULL plan. -/
def State.fullFollows (s : State) (q : Plan) (kind : Nat) (old : List LaneEntry) : State :=
  let kept := s.keptJobs q
  let s := (((s.commitShelves q (decide (kind = 3))).clearJobs kept).placeTiles q.place0 (decide (kind = 2)) q.digest).commitJobs q kept
  s.each (List.range 16) fun p s => State.commitPorch old s p

theorem State.commitFull_eq (s : State) (q : Plan) (kind : Nat) :
    s.commitFull q kind = if !s.plan.committed then ((s.fullGoverns q kind).fullFollows q kind s.plan.plan.lanes).firstRole
      else ((s.fullGoverns q kind).fullFollows q kind s.plan.plan.lanes).laterRole := rfl

theorem State.fullFollows_governed (s : State) (q : Plan) (kind : Nat) (old : List LaneEntry) : Governed s (s.fullFollows q kind old) := by
  unfold State.fullFollows
  dsimp only
  generalize s.keptJobs q = kept
  have hshelves : Governed s (s.commitShelves q (decide (kind = 3))) := (s.commitShelves_frame _ _).governed (by decide) (by decide)
  have hclear := (s.commitShelves q (decide (kind = 3))).clearJobs_governed kept
  have hplace : ∀ u : State, Governed u ((u.placeTiles q.place0 (decide (kind = 2)) q.digest).commitJobs q kept) := fun u =>
    ((u.placeTiles_frame _ _ _).governed (by decide) (by decide)).trans ((State.commitJobs_frame _ _ _).governed (by decide) (by decide))
  exact ((hshelves.trans hclear).trans (hplace _)).trans (Governed.each (fun p u => State.commitPorch_governed old u p) _ _)

theorem State.commitFull_governed (s : State) (q : Plan) (kind : Nat) : Governed (s.fullGoverns q kind) (s.commitFull q kind) := by
  rw [State.commitFull_eq]
  split
  · exact (State.fullFollows_governed _ _ _ _).trans ((State.firstRole_frame _).governed (by decide) (by decide))
  · exact (State.fullFollows_governed _ _ _ _).trans ((State.laterRole_frame _).governed (by decide) (by decide))

theorem State.nextDigest_full (s : State) {q : Plan} (h : q.kind = 0) : s.nextDigest q = q.digest := if_neg (by simp [h])

/-- What governs from the tick of a FULL commit. -/
theorem State.fullGoverns_plan (s : State) {q : Plan} (hq : q.kind = 0) (kind : Nat) :
    (s.fullGoverns q kind).plan.plan = q ∧ (s.fullGoverns q kind).plan.committed = true ∧ (s.fullGoverns q kind).plan.digest = q.digest
      ∧ (s.fullGoverns q kind).plan.planId = q.planId ∧ (s.fullGoverns q kind).plan.commitFrame = s.nextTick
      ∧ (s.fullGoverns q kind).plan.variant = 0 ∧ (s.fullGoverns q kind).plan.tables.map Prod.fst = q.tables.map (·.id)
      ∧ (s.fullGoverns q kind).plan.bridgeEnd = (if kind = 3 then s.nextTick + s.plan.bridge else s.nextTick)
      ∧ (s.fullGoverns q kind).hrt.cfg = q.frame ∧ (s.fullGoverns q kind).hrt.frame = s.hrt.frame
      ∧ (s.fullGoverns q kind).hrt.time = s.hrt.time := by
  unfold State.fullGoverns
  dsimp only
  have hloops := fun first => ((s.commitMoves (s.changedLoops q) false).commitLoops_frame q (s.changedLoops q) first).after
    (m := [.events, .loops, .mov, .regs, .eng]) (by decide) ((s.commitMoves_frame (s.changedLoops q) false).mono (by decide))
  generalize hbend : (if decide (kind = 3) = true then s.nextTick + s.plan.bridge else s.nextTick) = bend
  generalize (if decide (kind = 3) = true then some bend else none) = first
  have hu := hloops first
  generalize (s.commitMoves (s.changedLoops q) false).commitLoops q (s.changedLoops q) first = u at hu
  have hhrt : (u.commitTables q).hrt = s.hrt := ((u.commitTables_frame q) .hrt (by decide)).trans (hu .hrt (by decide))
  have htables : (u.commitTables q).plan.tables.map Prod.fst = q.tables.map (·.id) := by
    unfold State.commitTables
    dsimp only
    rw [List.map_map]
    rfl
  refine ⟨rfl, rfl, State.nextDigest_full _ hq, rfl, rfl, rfl, htables, ?_, rfl, congrArg Hearth.frame hhrt, congrArg Hearth.time hhrt⟩
  rw [← hbend]
  by_cases hk : kind = 3
  · rw [if_pos hk, if_pos (by simpa using hk)]
  · rw [if_neg hk, if_neg (by simpa using hk)]

-- The tail of a commit

/-- The state in which a commit has taken effect, before loads and results follow. -/
def State.commitSettled (s : State) : State :=
  let s := { s.commitSide with staged := none }
  { s with plan := { s.plan with cand := none } }

/-- What a commit leaves in the end. -/
structure CommitMade (s t : State) : Prop where
  core   : t.plan.core = ({ s.plan with cand := none } : PlanBlock).core
  clock  : ClockKept s t
  cand   : t.plan.cand = none
  staged : t.staged = none
  done   : t.plan.cmdResult = PlnResult.done
  told   : Notified Src.pln 3 noObj 0 t

theorem CommitMade.keys {s t : State} (h : CommitMade s t) : t.plan.tables.map Prod.fst = s.plan.tables.map Prod.fst :=
  congrArg Prod.snd h.core

theorem CommitMade.commitFrame {s t : State} (h : CommitMade s t) : t.plan.commitFrame = s.plan.commitFrame :=
  congrArg (fun c => c.1.commitFrame) h.core

theorem State.commitSettled_made (s : State) : s.commitSettled.plan = { s.plan with cand := none } ∧ s.commitSettled.staged = none
    ∧ ClockKept s s.commitSettled := by
  have hplan : s.commitSide.plan = s.plan := s.commitSide_frame .plan (by decide)
  refine ⟨?_, rfl, (s.commitSide_frame.clock (by decide))⟩
  change ({ s.commitSide.plan with cand := none } : PlanBlock) = _
  rw [hplan]

theorem State.commitDone_told (s : State) : Notified Src.pln 3 noObj 0 s.commitDone := List.mem_append_right _ (List.mem_singleton.2 rfl)

theorem State.finishLoads_governed (s : State) : Governed s s.finishLoads := by
  unfold State.finishLoads
  dsimp only
  have htables : ∀ f : Nat × PlanTable → Nat × PlanTable, (∀ e, (f e).1 = e.1) → ∀ m,
      Governed s { s with plan := { s.plan with tables := s.plan.tables.map f, loads := [] }, mov := m } := fun f hf m =>
    ⟨PlanBlock.core_tables { s.plan with loads := [] } hf, .refl s⟩
  exact (htables _ (fun e => by split <;> rfl) _).trans
    (Governed.each (fun id u => (u.raise_frame _ _ _ _).governed (by decide) (by decide)) _ _)

/-- A commit without a bridge is done. -/
theorem CommitMade.of_done {s t : State} (h : Governed s.commitSettled t) (hstaged : t.staged = none) : CommitMade s t.commitDone := by
  obtain ⟨hplan, -, hclock⟩ := s.commitSettled_made
  have hcand : t.plan.cand = none := (congrArg (fun c => c.1.cand) h.core).trans (congrArg PlanBlock.cand hplan)
  exact ⟨h.core.trans (congrArg PlanBlock.core hplan), hclock.trans h.clock, hcand, hstaged, rfl, t.commitDone_told⟩

/-- The state of a commit whose bridge begins. -/
def State.commitBridged (s : State) : State := { s.commitDone with plan := { s.commitDone.plan with st := .bridge } }

theorem CommitMade.bridged {s t : State} (h : CommitMade s t.commitDone) : CommitMade s t.commitBridged :=
  ⟨h.core, h.clock, h.cand, h.staged, h.done, h.told⟩

-- The commit as a whole

/-- The commit of a plan governs: a PATCH, or a FULL plan. -/
def State.commitGoverns (s : State) (q : Plan) : State := if q.kind = 1 then s.commitPatch q else s.commitFull q s.plan.candKind

theorem State.decideMoves_governed (s : State) : Governed s s.decideMoves := s.decideMoves_frame.governed (by decide) (by decide)

theorem State.commitEffect_goes {s : State} {q : Plan} (hdue : s.commitDue = true) (hcand : s.plan.cand = some q)
    (hgo : s.plan.force = true ∨ s.decideMoves.movesRun = false) :
    s.commitEffect = if s.plan.candKind = 3 then (s.decideMoves.commitGoverns q).commitSettled.commitBridged
      else if q.kind = 1 then (s.decideMoves.commitGoverns q).commitSettled.commitDone
      else (s.decideMoves.commitGoverns q).commitSettled.finishLoads.commitDone := by
  have hplan : s.decideMoves.plan = s.plan := s.decideMoves_frame .plan (by decide)
  have hrun : ¬(s.decideMoves.movesRun = true ∧ (!s.decideMoves.plan.force) = true) := by
    rw [hplan]
    obtain h | h := hgo <;> simp [h]
  unfold State.commitEffect
  rw [if_pos hdue, hcand]
  dsimp only
  rw [if_neg hrun, hplan]
  unfold State.commitGoverns
  rw [hplan]
  rfl

/-- What a commit leaves, whatever it governs, and its state. -/
theorem State.commitEffect_made {s : State} {q : Plan} (hdue : s.commitDue = true) (hcand : s.plan.cand = some q)
    (hgo : s.plan.force = true ∨ s.decideMoves.movesRun = false) :
    CommitMade (s.decideMoves.commitGoverns q) s.commitEffect ∧ (s.plan.candKind = 3 → s.commitEffect.plan.st = .bridge)
      ∧ (s.plan.candKind ≠ 3 → s.commitEffect.plan.st = .idle) := by
  rw [State.commitEffect_goes hdue hcand hgo]
  generalize s.decideMoves.commitGoverns q = u
  have hstaged := u.commitSettled_made.2.1
  by_cases hk : s.plan.candKind = 3
  · rw [if_pos hk]
    exact ⟨(CommitMade.of_done (.refl _) hstaged).bridged, fun _ => rfl, fun h => absurd hk h⟩
  · rw [if_neg hk]
    split
    · exact ⟨CommitMade.of_done (.refl _) hstaged, fun h => absurd h hk, fun _ => rfl⟩
    · exact ⟨CommitMade.of_done (State.finishLoads_governed _) ((State.finishLoads_frame _ .staged (by decide)).trans hstaged),
        fun h => absurd h hk, fun _ => rfl⟩

/-- A commit that a move in progress turns back. -/
theorem State.commitEffect_turnedBack {s : State} {q : Plan} (hdue : s.commitDue = true) (hcand : s.plan.cand = some q)
    (hforce : s.plan.force = false) (hrun : s.decideMoves.movesRun = true) :
    s.commitEffect = (({ s.decideMoves with plan := { s.plan with st := .valid } }).patchRelease).commitFail PlnResult.moveBusy := by
  have hplan : s.decideMoves.plan = s.plan := s.decideMoves_frame .plan (by decide)
  unfold State.commitEffect
  rw [if_pos hdue, hcand]
  dsimp only
  rw [if_pos (by rw [hplan, hforce]; exact ⟨hrun, rfl⟩), hplan]

-- A PATCH

theorem State.rearmAll_governed (s : State) : Governed s s.rearmAll := (SameBut.mov_frame s _).governed (by decide) (by decide)

theorem State.restartPlanning_governed (s : State) : Governed s s.restartPlanning :=
  s.restartPlanning_frame.governed (by decide) (by decide)

/-- The kind of a table, 0 for none. -/
def State.tableKind (s : State) (id : Nat) : Nat := match s.table? id with | some t => t.desc.kind | none => 0

/-- One table of a patch exchanges its banks. -/
def State.patchTable (id : Nat) (s : State) : State :=
  let kind := s.tableKind id
  let s := (s.updTable id (PlanTable.swap s.nextTick)).raise Src.pln 4 id
  let s := if kind = 4 then { s.restartPlanning with mov := { s.restartPlanning.mov with recheck := true } } else s
  if kind = 6 then s.rearmAll else s

theorem State.patchTable_governed (id : Nat) (s : State) : Governed s (State.patchTable id s) := by
  unfold State.patchTable
  dsimp only
  generalize s.tableKind id = kind
  have hswap : Governed s ((s.updTable id (PlanTable.swap s.nextTick)).raise Src.pln 4 id) :=
    (s.updTable_governed _ _).trans ((State.raise_frame _ _ _ _ _).governed (by decide) (by decide))
  generalize (s.updTable id (PlanTable.swap s.nextTick)).raise Src.pln 4 id = u at hswap
  have hatlas : Governed u { u.restartPlanning with mov := { u.restartPlanning.mov with recheck := true } } :=
    u.restartPlanning_governed.trans ((SameBut.mov_frame _ _).governed (by decide) (by decide))
  have hkind : Governed u (if kind = 4 then { u.restartPlanning with mov := { u.restartPlanning.mov with recheck := true } } else u) := by
    split
    · exact hatlas
    · exact .refl u
  have hfallback : ∀ v : State, Governed v (if kind = 6 then v.rearmAll else v) := fun v => by
    split
    · exact v.rearmAll_governed
    · exact .refl v
  exact hswap.trans (hkind.trans (hfallback _))

theorem State.patchTables_governed (s : State) (q : Plan) : Governed s (s.patchTables q) := by
  have hgen : Governed s { s with plan := { s.plan with tables := s.plan.tables.map (fun (p : Nat × PlanTable) => (p.1, { p.2 with gen := 0 })) } } :=
    (SameBut.plan_frame s _).governed_of_core (by decide) (PlanBlock.core_tables _ fun _ => rfl)
  exact hgen.trans (Governed.each State.patchTable_governed _ _)

/-- The state that a PATCH governs, before porches and refused jobs follow. -/
def State.patchGoverns (s : State) (q : Plan) : State :=
  let t := s.nextTick
  let ls := s.changedLoops q
  let m := s.merged q
  let s := ((s.commitMoves ls true).commitLoops q ls none).patchTables q
  { s with plan := { s.plan with plan := { m with kind := 0 }, digest := s.nextDigest q, commitFrame := t, bridgeEnd := t } }

theorem State.commitPatch_governed (s : State) (q : Plan) : Governed (s.patchGoverns q) (s.commitPatch q) :=
  (Governed.each (fun p u => State.commitPorch_governed _ u p) _ _).trans ((State.retryRefused_frame _).governed (by decide) (by decide))

theorem State.patchGoverns_plan (s : State) (q : Plan) :
    (s.patchGoverns q).plan.commitFrame = s.nextTick ∧ (s.patchGoverns q).plan.tables.map Prod.fst = s.plan.tables.map Prod.fst := by
  refine ⟨rfl, ?_⟩
  have hloops : Governed s ((s.commitMoves (s.changedLoops q) true).commitLoops q (s.changedLoops q) none) :=
    ((s.commitMoves_frame _ _).governed (by decide) (by decide)).trans ((State.commitLoops_frame _ _ _ _).governed (by decide) (by decide))
  exact congrArg Prod.snd (hloops.trans (State.patchTables_governed _ q)).core

theorem State.finishLoads_result (s : State) : s.finishLoads.plan.cmdResult = s.plan.cmdResult := by
  unfold State.finishLoads
  dsimp only
  have hplan : ∀ l (u : State), (State.each l (fun id v => v.raise Src.pln 9 id) u).plan = u.plan := fun l u =>
    State.each_frame l (fun id v => v.raise Src.pln 9 id) u (fun id v => v.raise_frame Src.pln 9 id 0) .plan (by decide)
  rw [hplan]

theorem State.commitFail_moveBusy (s : State) : s.commitFail PlnResult.moveBusy = (s.planResult PlnResult.moveBusy).raise Src.pln 2 noObj PlnResult.moveBusy := rfl

/-- Settles O31. -/
theorem commitTakesEffect : Obligations.CommitTakesEffect := by
  refine ⟨fun s q hdue hcand => ⟨fun hq hgo => ?_, fun hq hkind hgo => ?_, fun hforce hrun => ?_⟩,
    fun s => ⟨fun hst hend => ?_, fun h => ?_, fun fig hst => if_pos hst, fun fig hst => if_neg hst⟩⟩
  · obtain ⟨hmade, hbridge, hidle⟩ := State.commitEffect_made hdue hcand hgo
    have hgov : s.decideMoves.commitGoverns q = s.decideMoves.commitFull q s.decideMoves.plan.candKind := if_neg (by simp [hq])
    have hplan : s.decideMoves.plan = s.plan := s.decideMoves_frame .plan (by decide)
    have hhrt : s.decideMoves.hrt = s.hrt := s.decideMoves_frame .hrt (by decide)
    rw [hgov, hplan] at hmade
    have hgoverned := s.decideMoves.commitFull_governed q s.plan.candKind
    have hfacts := s.decideMoves.fullGoverns_plan hq s.plan.candKind
    rw [s.decideMoves_governed.nextTick, hhrt, hplan] at hfacts
    obtain ⟨hp, hcom, hdig, hid, hcf, hvar, hkeys, hbend, hcfg, hframe, htime⟩ := hfacts
    generalize s.decideMoves.fullGoverns q s.plan.candKind = g at hgoverned hp hcom hdig hid hcf hvar hkeys hbend hcfg hframe htime
    generalize s.decideMoves.commitFull q s.plan.candKind = u at hgoverned hmade
    have hcore : s.commitEffect.plan.core = ({ u.plan with cand := none } : PlanBlock).core := hmade.core
    have hfield : ∀ {β : Type} (f : PlanBlock → β), (∀ p : PlanBlock, f p = f p.core.1) →
        (∀ p : PlanBlock, f { p with cand := none } = f p) → f s.commitEffect.plan = f g.plan := fun f hf hc => by
      rw [hf s.commitEffect.plan, hcore, ← hf, hc, hf u.plan, hgoverned.core, ← hf]
    obtain ⟨⟨-, hframe', htime', -⟩, hcfg', -⟩ := hgoverned.clock.trans hmade.clock
    refine ⟨_, rfl, ?_, ?_, ?_, ?_, ?_, ?_, hmade.cand, hcfg'.trans hcfg, ?_, hmade.staged, hframe'.trans hframe, htime'.trans htime,
      hmade.done, hmade.told, fun hk => ⟨hbridge hk, ?_⟩, hidle⟩
    · exact (hfield PlanBlock.plan (fun _ => rfl) fun _ => rfl).trans hp
    · exact (hfield PlanBlock.committed (fun _ => rfl) fun _ => rfl).trans hcom
    · exact (hfield PlanBlock.digest (fun _ => rfl) fun _ => rfl).trans hdig
    · exact (hfield PlanBlock.planId (fun _ => rfl) fun _ => rfl).trans hid
    · exact (hfield PlanBlock.commitFrame (fun _ => rfl) fun _ => rfl).trans hcf
    · exact (hfield PlanBlock.variant (fun _ => rfl) fun _ => rfl).trans hvar
    · exact (hmade.keys.trans hgoverned.keys).trans hkeys
    · rw [if_pos hk] at hbend
      exact (hfield PlanBlock.bridgeEnd (fun _ => rfl) fun _ => rfl).trans hbend
  · obtain ⟨hmade, -, hidle⟩ := State.commitEffect_made hdue hcand hgo
    have hgov : s.decideMoves.commitGoverns q = s.decideMoves.commitPatch q := if_pos hq
    have hplan : s.decideMoves.plan = s.plan := s.decideMoves_frame .plan (by decide)
    rw [hgov] at hmade
    have hgoverned := s.decideMoves.commitPatch_governed q
    obtain ⟨hcf, hkeys⟩ := s.decideMoves.patchGoverns_plan q
    rw [s.decideMoves_governed.nextTick] at hcf
    rw [hplan] at hkeys
    generalize s.decideMoves.patchGoverns q = g at hgoverned hcf hkeys
    generalize s.decideMoves.commitPatch q = u at hgoverned hmade
    have hframe : u.plan.commitFrame = g.plan.commitFrame := congrArg (fun c => c.1.commitFrame) hgoverned.core
    exact ⟨_, rfl, hidle hkind, hmade.done, hmade.cand, hmade.commitFrame.trans (hframe.trans hcf),
      hmade.keys.trans (hgoverned.keys.trans hkeys), hmade.told, hmade.staged⟩
  · have heq := State.commitEffect_turnedBack hdue hcand hforce hrun
    have hhrt : ({ s.decideMoves with plan := { s.plan with st := .valid } } : State).hrt = s.hrt := s.decideMoves_frame .hrt (by decide)
    have hst : ({ s.decideMoves with plan := { s.plan with st := .valid } } : State).plan.st = .valid := rfl
    have hplan : ({ s.decideMoves with plan := { s.plan with st := .valid } } : State).plan.plan = s.plan.plan := rfl
    have hcand' : ({ s.decideMoves with plan := { s.plan with st := .valid } } : State).plan.cand = some q := hcand
    generalize ({ s.decideMoves with plan := { s.plan with st := .valid } } : State) = w at heq hhrt hst hplan hcand'
    rw [State.commitFail_moveBusy] at heq
    refine ⟨_, congrArg Host.Outcome.next heq, hst, rfl, hplan, hcand', hhrt,
      List.mem_append_right _ (List.mem_singleton.2 rfl)⟩
  · have heq : s.endBridge = { s.finishLoads with plan := { s.finishLoads.plan with st := .idle } } := if_pos ⟨hst, hend⟩
    have hexec : exec .bridgeEnd s = .next s.endBridge := rfl
    rw [heq] at hexec
    have hcore := s.finishLoads_governed.core
    exact ⟨_, hexec, rfl, s.finishLoads_result, congrArg (fun c => c.1.plan) hcore, (exec_frame _ _ _ hexec).mono (by simp [touches])⟩
  · have heq : s.endBridge = s := if_neg fun ⟨hst, hend⟩ => h.elim (fun hn => hn hst) (by omega)
    exact congrArg Host.Outcome.next heq

end Sys2Proof.Machine
end

-- Tables -------------------------------------------------------------------------------------------------------------------
section
/-! O32, O33: operations on tables, swaps, the staging window, the writers of a bank. -/
namespace Sys2Proof.Machine

-- One table of the list

theorem State.table?_updTable (s : State) (id k : Nat) (f : PlanTable → PlanTable) :
    (s.updTable id f).table? k = if k = id then (s.table? k).map f else s.table? k := by
  unfold State.table? State.updTable
  dsimp only
  induction s.plan.tables with
  | nil => simp
  | cons e l ih =>
    rw [List.map_cons, List.find?_cons, List.find?_cons]
    have hkey : (if e.1 = id then (e.1, f e.2) else e).1 = e.1 := by split <;> rfl
    rw [hkey]
    by_cases hk : e.1 = k
    · subst hk
      simp only [decide_true, Option.map_some]
      split <;> rfl
    · simp only [hk, decide_false]
      exact ih

theorem State.table?_updTable_self {s : State} {id : Nat} {x : PlanTable} (h : s.table? id = some x) (f : PlanTable → PlanTable) :
    (s.updTable id f).table? id = some (f x) := by
  rw [State.table?_updTable, if_pos rfl, h]
  rfl

theorem State.table?_updTable_ne (s : State) {id k : Nat} (f : PlanTable → PlanTable) (h : k ≠ id) :
    (s.updTable id f).table? k = s.table? k := by
  rw [State.table?_updTable, if_neg h]

-- Operations of PLN_TBL_CTL

/-- The state in which the operation of `PLN_TBL_CTL` has been taken from its field, for a table of the plan. -/
def State.tableOpTaken (s : State) : State :=
  { s with ops := { s.ops with table := none }, plan := { s.plan with noTable := none } }

/-- CLAIM, READY and RELEASE at their tick. -/
theorem State.takeTable_owner {s : State} {op : Nat} {copy : Bool} {x : PlanTable} (hop : s.ops.table = some (op, copy)) (hlow : 1 ≤ op)
    (hhigh : op ≤ 3) (hx : s.table? (s.field Reg.PLN_TBL_SEL 0 16) = some x) :
    s.takeTable.table? (s.field Reg.PLN_TBL_SEL 0 16) = some (x.ownerOp op copy (s.field Reg.PLN_TBL_CRC 0 32)) := by
  have heq : s.takeTable = s.tableOpTaken.updTable (s.field Reg.PLN_TBL_SEL 0 16) fun t => t.ownerOp op copy (s.field Reg.PLN_TBL_CRC 0 32) := by
    unfold State.takeTable
    rw [hop]
    dsimp only
    rw [if_neg (by omega), if_neg (by
      change ¬(s.table? (s.field Reg.PLN_TBL_SEL 0 16)).isNone = true
      simp [hx]), if_pos hhigh]
    rfl
  rw [heq]
  exact State.table?_updTable_self (s := s.tableOpTaken) hx _

/-- SWAP and REVERT at their tick. -/
theorem State.takeTable_swap {s : State} {op : Nat} {copy : Bool} {x : PlanTable} (hop : s.ops.table = some (op, copy)) (hlow : 4 ≤ op)
    (hhigh : op ≤ 5) (hx : s.table? (s.field Reg.PLN_TBL_SEL 0 16) = some x) :
    s.takeTable.table? (s.field Reg.PLN_TBL_SEL 0 16)
      = some (x.swapOp (decide (op = 5)) s.nextTick (s.reg Reg.PLN_TBL_SWAP_TICK).toNat s.plan.swapSeq) := by
  have heq : s.takeTable = ({ s.tableOpTaken with plan := { s.tableOpTaken.plan with swapSeq := s.plan.swapSeq + 1 } }).updTable
      (s.field Reg.PLN_TBL_SEL 0 16) fun t =>
        t.swapOp (decide (op = 5)) s.nextTick (s.reg Reg.PLN_TBL_SWAP_TICK).toNat s.plan.swapSeq := by
    unfold State.takeTable
    rw [hop]
    dsimp only
    rw [if_neg (by omega), if_neg (by
      change ¬(s.table? (s.field Reg.PLN_TBL_SEL 0 16)).isNone = true
      simp [hx]), if_neg (by omega)]
    rfl
  rw [heq]
  exact State.table?_updTable_self (s := { s.tableOpTaken with plan := { s.tableOpTaken.plan with swapSeq := s.plan.swapSeq + 1 } }) hx _

theorem State.takeTable_table?_ne (s : State) {i : Nat} (hi : i ≠ s.field Reg.PLN_TBL_SEL 0 16) : s.takeTable.table? i = s.table? i := by
  unfold State.takeTable
  split
  · dsimp only
    split
    · rfl
    · split
      · rfl
      · split
        · exact State.table?_updTable_ne _ _ hi
        · exact State.table?_updTable_ne _ _ hi
  · rfl

theorem PlanTable.heldBy_owner {x : PlanTable} (hst : x.inactive = 2 ∨ x.inactive = 3) (hw : x.writer = 1) (hj : x.writerJob = 0) :
    x.heldBy 1 0 = true := by
  unfold PlanTable.heldBy
  obtain h | h := hst <;> simp [h, hw, hj]

/-- SWAP of a READY bank and REVERT of a CLEAN one are taken up. -/
theorem PlanTable.swapOp_fits {x : PlanTable} {op : Nat} (h : (op = 4 ∧ x.inactive = 3) ∨ (op = 5 ∧ x.inactive = 1)) (k want seq : Nat) :
    x.swapOp (decide (op = 5)) k want seq = if want ≠ 0 ∧ want < k + 1 then { x with result := 7 }
      else { x with inactive := 4, swapAt := some (if want = 0 then k + 1 else want, seq), result := 0 } := by
  unfold PlanTable.swapOp
  obtain ⟨rfl, h⟩ | ⟨rfl, h⟩ := h
  · rw [if_neg (by simp), if_neg (by simp [h])]
    rfl
  · rw [if_neg (by simp [h]), if_neg (by simp)]
    rfl

-- Swaps

theorem State.swapTakeEffect_eq (s : State) : s.swapTakeEffect = State.each s.swapsDue State.patchTable s := rfl

theorem State.restartPlanning_eventsStay (s : State) : EventsStay s s.restartPlanning := by
  unfold State.restartPlanning
  split
  · exact fun e he => List.mem_append_left _ he
  · exact fun e he => he

/-- What follows the exchange of a table's banks: planning starts again, reflexes are armed again. -/
theorem State.patchTable_follows (s : State) (id : Nat) :
    SameBut [.regs, .events, .mov] ((s.updTable id (PlanTable.swap s.nextTick)).raise Src.pln 4 id) (State.patchTable id s)
      ∧ EventsStay ((s.updTable id (PlanTable.swap s.nextTick)).raise Src.pln 4 id) (State.patchTable id s) := by
  unfold State.patchTable
  dsimp only
  generalize s.tableKind id = kind
  generalize (s.updTable id (PlanTable.swap s.nextTick)).raise Src.pln 4 id = u
  have hatlas : SameBut [.regs, .events, .mov] u { u.restartPlanning with mov := { u.restartPlanning.mov with recheck := true } } :=
    (SameBut.mov_frame _ _).after (by decide) (u.restartPlanning_frame.mono (by decide))
  have hkind : SameBut [.regs, .events, .mov] u (if kind = 4 then { u.restartPlanning with mov := { u.restartPlanning.mov with recheck := true } } else u)
      ∧ EventsStay u (if kind = 4 then { u.restartPlanning with mov := { u.restartPlanning.mov with recheck := true } } else u) := by
    split
    · exact ⟨hatlas, u.restartPlanning_eventsStay⟩
    · exact ⟨.refl _ u, fun e he => he⟩
  have hfallback : ∀ v : State, SameBut [.mov] v (if kind = 6 then v.rearmAll else v) ∧ EventsStay v (if kind = 6 then v.rearmAll else v) :=
    fun v => by
      split
      · exact ⟨v.rearmAll_frame.mono (by decide), fun e he => he⟩
      · exact ⟨.refl _ v, fun e he => he⟩
  exact ⟨(hfallback _).1.after (by decide) hkind.1, fun e he => (hfallback _).2 e (hkind.2 e he)⟩

theorem State.table?_patchTable (s : State) (id k : Nat) :
    (State.patchTable id s).table? k = if k = id then (s.table? k).map (PlanTable.swap s.nextTick) else s.table? k := by
  rw [← State.table?_updTable]
  have hplan : (State.patchTable id s).plan = (s.updTable id (PlanTable.swap s.nextTick)).plan :=
    (s.patchTable_follows id).1 .plan (by decide)
  unfold State.table?
  rw [hplan]

theorem State.patchTable_told (s : State) (id : Nat) :
    EventsStay ((s.updTable id (PlanTable.swap s.nextTick)).raise Src.pln 4 id) (State.patchTable id s) := (s.patchTable_follows id).2

theorem State.patchTable_notified (s : State) (id : Nat) : Notified Src.pln 4 id 0 (State.patchTable id s) :=
  s.patchTable_told id _ (List.mem_append_right _ (List.mem_singleton.2 rfl))

theorem State.patchTable_eventsStay (s : State) (id : Nat) : EventsStay s (State.patchTable id s) := fun e he =>
  s.patchTable_told id e (List.mem_append_left _ he)

/-- Every due table exchanges its banks once, and the others stand. -/
theorem State.swapTakeEffect_table (s : State) (hdue : s.swapsDue.Nodup) (k : Nat) :
    s.swapTakeEffect.table? k
      = if k ∈ s.swapsDue then (s.table? k).map (PlanTable.swap s.nextTick) else s.table? k := by
  rw [State.swapTakeEffect_eq]
  refine State.each_at (f := State.patchTable) (get := State.table?) (g := fun _ o => o.map (PlanTable.swap s.nextTick))
    (P := fun u => u.nextTick = s.nextTick) (fun i u hu => (State.patchTable_governed i u).nextTick.trans hu) (fun i u hu => ?_)
    (fun i k u _ hk => ?_) hdue rfl k
  · rw [State.table?_patchTable, if_pos rfl, hu]
  · rw [State.table?_patchTable, if_neg hk]

theorem State.swapTakeEffect_notified (s : State) {id : Nat} (h : id ∈ s.swapsDue) : Notified Src.pln 4 id 0 s.swapTakeEffect := by
  rw [State.swapTakeEffect_eq]
  exact State.each_establishes (f := State.patchTable) (get := fun _ _ => ()) (P := fun _ => True) (c := fun _ => True)
    (Q := fun u => Notified Src.pln 4 id 0 u) (fun _ _ _ => trivial) (fun _ _ _ _ _ => rfl)
    (fun i u hu => u.patchTable_eventsStay i _ hu) (fun u _ _ => u.patchTable_notified id) h trivial trivial

/-- Settles O32. -/
theorem tableOperationsTakenUp : Obligations.TableOperationsTakenUp := by
  refine ⟨fun s x hx => ⟨fun c hop hown hfree => ?_, fun c hop hown hbusy => ?_, fun c hop hnot => ?_, fun c hop hst hw hj => ?_,
    fun c hop hst hw hj => ?_, fun c hop hst => ?_, fun c hop hst => ?_, fun c hop hwant hlate => ?_, fun c hop hwant => ?_,
    s.takeTable_frame.mono (by decide), fun i hi => s.takeTable_table?_ne hi⟩, fun s hdue => ?_⟩
  · refine (State.takeTable_owner hop (by decide) (by decide) hx).trans (congrArg some ?_)
    exact (if_neg (by omega)).trans (if_pos (by simpa [PlanTable.free] using hfree))
  · refine (State.takeTable_owner hop (by decide) (by decide) hx).trans (congrArg some ?_)
    exact (if_neg (by omega)).trans (if_neg (by simp [PlanTable.free]; omega))
  · refine (State.takeTable_owner hop (by decide) (by decide) hx).trans (congrArg some ?_)
    exact if_pos hnot
  · refine (State.takeTable_owner hop (by decide) (by decide) hx).trans (congrArg some ?_)
    exact if_neg (fun h => h ⟨PlanTable.heldBy_owner (Or.inl hst) hw hj, hst⟩)
  · refine (State.takeTable_owner hop (by decide) (by decide) hx).trans (congrArg some ?_)
    exact if_pos (PlanTable.heldBy_owner hst hw hj)
  · refine (State.takeTable_swap hop (by decide) (by decide) hx).trans (congrArg some ?_)
    exact (if_neg (by simp)).trans (if_pos (by simpa using hst))
  · refine (State.takeTable_swap hop (by decide) (by decide) hx).trans (congrArg some ?_)
    exact if_pos (by simpa using hst)
  · have htaken : ∃ op, s.ops.table = some (op, c) ∧ ((op = 4 ∧ x.inactive = 3) ∨ (op = 5 ∧ x.inactive = 1)) :=
      hop.elim (fun h => ⟨4, h.1, Or.inl ⟨rfl, h.2⟩⟩) fun h => ⟨5, h.1, Or.inr ⟨rfl, h.2⟩⟩
    obtain ⟨op, hop, hfits⟩ := htaken
    refine (State.takeTable_swap hop (by omega) (by omega) hx).trans (congrArg some ?_)
    rw [PlanTable.swapOp_fits hfits]
    exact if_pos ⟨hwant, hlate⟩
  · have htaken : ∃ op, s.ops.table = some (op, c) ∧ ((op = 4 ∧ x.inactive = 3) ∨ (op = 5 ∧ x.inactive = 1)) :=
      hop.elim (fun h => ⟨4, h.1, Or.inl ⟨rfl, h.2⟩⟩) fun h => ⟨5, h.1, Or.inr ⟨rfl, h.2⟩⟩
    obtain ⟨op, hop, hfits⟩ := htaken
    refine (State.takeTable_swap hop (by omega) (by omega) hx).trans (congrArg some ?_)
    rw [PlanTable.swapOp_fits hfits]
    exact if_neg (by omega)
  · refine ⟨_, rfl, fun id x hid hx => ?_, fun id hid => ?_, ?_, s.swapTakeEffect_frame.mono (by decide)⟩
    · have htable := s.swapTakeEffect_table hdue id
      rw [if_pos hid, hx] at htable
      exact ⟨_, htable, rfl, rfl, rfl, rfl, rfl, rfl, fun hloaded => if_pos hloaded, s.swapTakeEffect_notified hid⟩
    · rw [s.swapTakeEffect_table hdue, if_neg hid]
    · unfold State.swapsDue
      rw [List.length_map]
      exact Nat.le_trans (List.length_take_le _ _) (Nat.sub_le _ _)

-- The staging window

theorem mod_of_aligned {w : Width} {o : Nat} (h : aligned w o = true) : o % (if w = .full then 8 else 4) = 0 := by
  cases w with
  | full => simpa [aligned] using h
  | half => simpa [aligned] using h

theorem exec_tableWindowAccess_held {s : State} {o : BitVec 21} {w : Width} {x : PlanTable} (hal : aligned w o.toNat = true)
    (hx : s.table? (s.field Reg.PLN_TBL_SEL 0 16) = some x) (hheld : x.ownerHolds = true)
    (hin : s.windowAt o.toNat + (if w = .full then 8 else 4) ≤ x.desc.bankBytes) (data : Option Word) :
    exec (.tableWindowAccess o w data) s = match data with
      | some v => .next (s.updTable (s.field Reg.PLN_TBL_SEL 0 16) fun t =>
          { t with other := tsetList (fun _ => 0) t.other (s.windowAt o.toNat) (leBytes (if w = .full then 8 else 4) v.toNat) })
      | none => .next { s with readData := BitVec.ofNat 64 (bankNat x.other (s.windowAt o.toNat) (if w = .full then 8 else 4)) } := by
  change execTableWindowAccess o w data s = _
  unfold execTableWindowAccess
  dsimp only
  rw [if_neg (Classical.not_not.2 (mod_of_aligned hal)), hx]
  dsimp only
  cases data with
  | some v => exact if_pos ⟨hheld, hin⟩
  | none => exact if_pos ⟨hheld, hin⟩

theorem exec_tableWindowAccess_free {s : State} {o : BitVec 21} {w : Width} (hal : aligned w o.toNat = true)
    (hfree : ∀ x, s.table? (s.field Reg.PLN_TBL_SEL 0 16) = some x → x.ownerHolds = false) (data : Option Word) :
    exec (.tableWindowAccess o w data) s = if data.isSome then .next s else .next { s with readData := 0 } := by
  change execTableWindowAccess o w data s = _
  unfold execTableWindowAccess
  dsimp only
  rw [if_neg (Classical.not_not.2 (mod_of_aligned hal))]
  split
  next x hx => exact if_neg (by simp [hfree x hx])
  · rfl

-- Claims of jobs

theorem exec_jobTableClaim {s : State} {j : BitVec 8} {id : BitVec 16} (hlive : (s.job j.toNat).live = true)
    (hmay : s.jobMayWrite j.toNat id.toNat = true) (op : TableOp) :
    exec (.jobTableClaim j id op) s = match op with
      | .claim copy => .next { s with plan := { s.plan with jobClaims := s.plan.jobClaims ++ [(j.toNat, id.toNat, copy)] } }
      | .ready => .next (s.updTable id.toNat fun t => if t.heldBy 2 j.toNat then { t with inactive := 3, copying := false } else t)
      | .release => .next (s.updTable id.toNat fun t => if t.heldBy 2 j.toNat then t.release else t) :=
  if_neg (by simp [hlive, hmay])

/-- Settles O33. -/
theorem banksAreWritten : Obligations.BanksAreWritten := by
  intro s
  refine ⟨fun o w x hal hx hheld hin => ⟨fun v => ?_, ?_⟩, fun o w hal hfree => ⟨fun v => ?_, ?_⟩, fun id x hx hcopy => ?_,
    fun j id hlive hmay => ⟨fun c => ?_, fun x hx hheld => ⟨?_, ?_⟩⟩, fun j id op hmay => ?_⟩
  · exact ⟨_, exec_tableWindowAccess_held hal hx hheld hin (some v), State.table?_updTable_self hx _,
      fun i hi => s.table?_updTable_ne _ hi, s.updTable_frame _ _⟩
  · exact exec_tableWindowAccess_held hal hx hheld hin none
  · exact exec_tableWindowAccess_free hal hfree (some v)
  · exact exec_tableWindowAccess_free hal hfree none
  · refine ⟨_, rfl, (State.table?_updTable_self hx _).trans (congrArg some (if_pos hcopy)), fun i hi => s.table?_updTable_ne _ hi,
      s.updTable_frame _ _⟩
  · exact exec_jobTableClaim hlive hmay (.claim c)
  · exact ⟨_, exec_jobTableClaim hlive hmay .ready, (State.table?_updTable_self hx _).trans (congrArg some (if_pos hheld)),
      s.updTable_frame _ _⟩
  · exact ⟨_, exec_jobTableClaim hlive hmay .release, (State.table?_updTable_self hx _).trans (congrArg some (if_pos hheld)),
      s.updTable_frame _ _⟩
  · exact if_pos (by simp [hmay])

end Sys2Proof.Machine
end

-- Patches and readings -----------------------------------------------------------------------------------------------------
section
/-! O34: patches and readings of sensing porches, dropped cells and the cutoff. -/
namespace Sys2Proof.Machine

-- What a packet's place in a shelf depends on

/-- The parts of the state that decide whether a shelf has room. -/
def State.shelfPart (s : State) : State :=
  { shelves := s.shelves, plan := s.plan, mem := s.mem, pantryRetired := s.pantryRetired }

theorem State.hasRoom_shelfPart (s : State) (n : Nat) : s.hasRoom n = s.shelfPart.hasRoom n := rfl

theorem State.canGrow_shelfPart (s : State) (n : Nat) : s.canGrow n = s.shelfPart.canGrow n := rfl

theorem State.swapDue_shelfPart (s : State) (n : Nat) (b : Bool) : s.swapDue n b = s.shelfPart.swapDue n b := rfl

theorem State.swapShelf_shelfPart (s : State) (n : Nat) : (s.swapShelf n).shelfPart = (s.shelfPart.swapShelf n).shelfPart := rfl

theorem State.updShelf_shelfPart (s : State) (n : Nat) (f : Shelf → Shelf) :
    (s.updShelf n f).shelfPart = (s.shelfPart.updShelf n f).shelfPart := rfl

theorem State.rewind_shelfPart (s : State) (n lo evt : Nat) : (s.rewind n lo evt).shelfPart = (s.shelfPart.rewind n lo evt).shelfPart := rfl

theorem State.swapNow_shelfPart (s : State) (n : Nat) : (s.swapNow n).shelfPart = (s.shelfPart.swapNow n).shelfPart := by
  unfold State.swapNow
  rw [s.swapDue_shelfPart, s.hasRoom_shelfPart, s.canGrow_shelfPart]
  split
  · exact s.swapShelf_shelfPart n
  · rfl

theorem State.storeWord_shelfPart (s : State) (n : Nat) (w : Word) :
    (s.storeWord n w).shelfPart = (s.shelfPart.storeWord n w).shelfPart := by
  unfold State.storeWord
  dsimp only
  have hmax : s.maxPages n = s.shelfPart.maxPages n := rfl
  have hshelf : s.shelf n = s.shelfPart.shelf n := rfl
  rw [hmax, hshelf]
  split
  · rw [State.swapNow_shelfPart, State.updShelf_shelfPart, ← State.swapNow_shelfPart]
  · split
    · exact s.rewind_shelfPart n 16 3
    · rfl

theorem State.makeRoom_shelfPart (s : State) (n : Nat) :
    (s.makeRoom n).map State.shelfPart = (s.shelfPart.makeRoom n).map State.shelfPart := by
  unfold State.makeRoom
  have hswapped : (s.swapShelf n).hasRoom n = (s.shelfPart.swapShelf n).hasRoom n := rfl
  rw [s.hasRoom_shelfPart, s.canGrow_shelfPart, s.swapDue_shelfPart, hswapped]
  split
  · rfl
  · split
    · rfl
    · split <;> rfl

/-- Two states alike in those parts take or refuse the same packets. -/
theorem State.pushPacket_alike (n : Nat) (ws : List Word) {s t : State} (h : s.shelfPart = t.shelfPart) :
    (s.pushPacket n ws).2 = (t.pushPacket n ws).2 := by
  induction ws generalizing s t with
  | nil => rfl
  | cons w ws ih =>
    have hroom : (s.makeRoom n).map State.shelfPart = (t.makeRoom n).map State.shelfPart := by
      rw [s.makeRoom_shelfPart, h, ← t.makeRoom_shelfPart]
    unfold State.pushPacket
    cases hs : s.makeRoom n with
    | none =>
      rw [hs] at hroom
      rw [Option.map_eq_none_iff.1 hroom.symm]
    | some u =>
      rw [hs] at hroom
      obtain ⟨v, hv, huv⟩ := Option.map_eq_some_iff.1 hroom.symm
      rw [hv]
      refine ih ?_
      rw [u.storeWord_shelfPart, ← huv, ← v.storeWord_shelfPart]

theorem SameBut.shelfPart {l : List Part} {s t : State} (h : SameBut l s t) (hshelves : .shelves ∉ l) (hplan : .plan ∉ l) (hmem : .mem ∉ l)
    (hret : .pantryRetired ∉ l) : t.shelfPart = s.shelfPart := by
  have h1 : t.shelves = s.shelves := h .shelves hshelves
  have h2 : t.plan = s.plan := h .plan hplan
  have h3 : t.mem = s.mem := h .mem hmem
  have h4 : t.pantryRetired = s.pantryRetired := h .pantryRetired hret
  unfold State.shelfPart
  rw [h1, h2, h3, h4]

-- What is known of a patch

/-- The patches are in their canonical form. -/
abbrev PatchesCanonical (s : State) : Prop := twf (fun _ => ({} : Patch)) s.est.patches = true

theorem SameBut.patches {l : List Part} {s t : State} (h : SameBut l s t) (hl : .est ∉ l) (e m : Nat) : t.patchOf e m = s.patchOf e m := by
  have hest : t.est = s.est := h .est hl
  unfold State.patchOf State.patch
  rw [hest]

theorem SameBut.patchesCanonical {l : List Part} {s t : State} (h : SameBut l s t) (hl : .est ∉ l) (hs : PatchesCanonical s) :
    PatchesCanonical t := by
  have hest : t.est = s.est := h .est hl
  unfold PatchesCanonical
  rw [hest]
  exact hs

theorem State.patchOf_expo (s : State) (e m : Nat) : (s.patchOf e m).expo = e % 2 ^ 32 := by
  unfold State.patchOf
  dsimp only
  split
  next h => exact h
  · rfl

theorem PatchesCanonical.setPatch {s : State} (h : PatchesCanonical s) (e m : Nat) (q : Patch) : PatchesCanonical (s.setPatch e m q) :=
  twf_tupd h (patchKey e m) fun _ => q

theorem State.patchOf_setPatch_self {s : State} (h : PatchesCanonical s) (e m : Nat) {q : Patch} (hq : q.expo = e % 2 ^ 32) :
    (s.setPatch e m q).patchOf e m = q := by
  have hself : (s.setPatch e m q).patch (patchKey e m) = q := State.patch_updPatch_self h _ _
  unfold State.patchOf
  dsimp only
  rw [hself, if_pos hq]

theorem State.patchOf_setPatch_ne (s : State) {e m e' m' : Nat} (q : Patch) (h : patchKey e' m' ≠ patchKey e m) :
    (s.setPatch e m q).patchOf e' m' = s.patchOf e' m' := by
  have hother : (s.setPatch e m q).patch (patchKey e' m') = s.patch (patchKey e' m') := State.patch_updPatch_ne s _ h
  unfold State.patchOf
  rw [hother]

theorem patchKey_ne_of_mirror {e m m' : Nat} (h : m' ≠ m) : patchKey e m' ≠ patchKey e m := by
  unfold patchKey
  omega

theorem patchKey_ne_of_expo {e m m' : Nat} (he : 0 < e) (hm : m < 8192) (hm' : m' < 8192) : patchKey e m' ≠ patchKey (e - 1) m := by
  unfold patchKey
  omega

theorem PatchesCanonical.losePatch {s : State} (h : PatchesCanonical s) (p e m : Nat) : PatchesCanonical (s.losePatch p e m) := by
  unfold State.losePatch
  dsimp only
  split
  · exact h
  · exact PatchesCanonical.setPatch h e m _

theorem State.patchOf_losePatch_self {s : State} (h : PatchesCanonical s) (p e m : Nat) :
    (s.losePatch p e m).patchOf e m = { s.patchOf e m with missing := true } := by
  unfold State.losePatch
  dsimp only
  split
  next hm => rw [← hm]
  · exact State.patchOf_setPatch_self h e m (s.patchOf_expo e m)

theorem State.patchOf_losePatch_ne (s : State) (p : Nat) {e m e' m' : Nat} (h : patchKey e' m' ≠ patchKey e m) :
    (s.losePatch p e m).patchOf e' m' = s.patchOf e' m' := by
  unfold State.losePatch
  dsimp only
  split
  · rfl
  · exact State.patchOf_setPatch_ne s _ h

/-- A patch that the stream has passed without all its `total` bits is lost. -/
def Patch.passed (total : Nat) (q : Patch) : Patch := if q.bits < total then { q with missing := true } else q

/-- One mirror that the stream has passed. -/
def State.passMirror (p e i : Nat) (s : State) (total : Nat) : State := if (s.patchOf e i).bits < total then s.losePatch p e i else s

theorem PatchesCanonical.passMirror {s : State} (h : PatchesCanonical s) (p e i total : Nat) : PatchesCanonical (s.passMirror p e i total) := by
  unfold State.passMirror
  split
  · exact h.losePatch p e i
  · exact h

theorem State.patchOf_passMirror_self {s : State} (h : PatchesCanonical s) (p e i total : Nat) :
    (s.passMirror p e i total).patchOf e i = (s.patchOf e i).passed total := by
  unfold State.passMirror Patch.passed
  split
  · exact State.patchOf_losePatch_self h p e i
  · rfl

theorem State.patchOf_passMirror_ne (s : State) (p total : Nat) {e i e' k : Nat} (hk : patchKey e' k ≠ patchKey e i) :
    (s.passMirror p e i total).patchOf e' k = s.patchOf e' k := by
  unfold State.passMirror
  split
  · exact s.patchOf_losePatch_ne p hk
  · rfl

theorem State.losePassed_eq (s : State) (p e m : Nat) :
    s.losePassed p e m = State.each (span (s.laneEntry p).first (m - (s.laneEntry p).first))
      (fun i u => u.passMirror p e i (s.laneEntry p).patchBits) s := rfl

theorem PatchesCanonical.losePassed {s : State} (h : PatchesCanonical s) (p e m : Nat) : PatchesCanonical (s.losePassed p e m) := by
  rw [State.losePassed_eq]
  exact State.each_keeps (P := PatchesCanonical) (fun i u hu => hu.passMirror p e i _) _ h

/-- Of the exposure whose stream has come to mirror `m`, the mirrors of the porch before it have all their bits or are lost. -/
theorem State.patchOf_losePassed {s : State} (h : PatchesCanonical s) (p e m i : Nat) :
    (s.losePassed p e m).patchOf e i
      = if (s.laneEntry p).first ≤ i ∧ i < m then (s.patchOf e i).passed (s.laneEntry p).patchBits else s.patchOf e i := by
  rw [State.losePassed_eq, State.each_at (f := fun i u => u.passMirror p e i (s.laneEntry p).patchBits) (get := fun u i => u.patchOf e i)
    (g := fun _ q => q.passed (s.laneEntry p).patchBits) (P := PatchesCanonical) (fun i u hu => hu.passMirror p e i _)
    (fun i u hu => State.patchOf_passMirror_self hu p e i _) (fun i k u _ hk => u.patchOf_passMirror_ne p _ (patchKey_ne_of_mirror hk))
    (span_nodup _ _) h i]
  have hiff : i ∈ span (s.laneEntry p).first (m - (s.laneEntry p).first) ↔ (s.laneEntry p).first ≤ i ∧ i < m := by
    rw [mem_span]
    omega
  simp only [hiff]

/-- An operation on each of the listed indices keeps what it keeps on a listed index. -/
theorem State.each_keeps_listed {f : Nat → State → State} {P : State → Prop} {l : List Nat} (hP : ∀ i ∈ l, ∀ s, P s → P (f i s)) {s : State}
    (hs : P s) : P (State.each l f s) := by
  induction l generalizing s with
  | nil => exact hs
  | cons i l ih => exact ih (fun k hk => hP k (List.mem_cons_of_mem _ hk)) (hP i (List.mem_cons_self ..) s hs)

/-- The end of the exposure before leaves the patches of this one. -/
theorem State.patchOf_loseRest {s : State} (p : Nat) {e i : Nat} (he : 0 < e) (hi : i < 8192)
    (hrange : (s.laneEntry p).first + (s.laneEntry p).count ≤ 8192) : (s.loseRest p (e - 1)).patchOf e i = s.patchOf e i := by
  unfold State.loseRest
  rw [State.losePassed_eq]
  refine State.each_keeps_listed (P := fun u => u.patchOf e i = s.patchOf e i) (fun j hj u hu => ?_) rfl
  have hj' := mem_span.1 hj
  exact (u.patchOf_passMirror_ne p _ (patchKey_ne_of_expo he (by omega) hi)).trans hu

-- A cell that brings a whole patch

theorem bytesBits_length (l : List Byte) : (bytesBits l).length = 8 * l.length := by
  unfold bytesBits
  induction l with
  | nil => rfl
  | cons b l ih => simp [List.flatMap_cons, ih]; omega

theorem leBytes_mod (n x : Nat) : leBytes n (x % 2 ^ (8 * n)) = leBytes n x := by
  induction n generalizing x with
  | zero => rfl
  | succ n ih =>
    have hpow : 2 ^ (8 * (n + 1)) = 256 * 2 ^ (8 * n) := by
      rw [Nat.mul_succ, Nat.pow_add, Nat.mul_comm]
    have hbyte : BitVec.ofNat 8 (x % (256 * 2 ^ (8 * n))) = BitVec.ofNat 8 x := by
      apply BitVec.eq_of_toNat_eq
      simp only [BitVec.toNat_ofNat]
      exact Nat.mod_mul_right_mod x 256 _
    unfold leBytes
    rw [hpow, hbyte, Nat.mod_mul_right_div_self, ih]

theorem patchPieces_whole {n : Nat} (hn : 0 < n) (m : Nat) : patchPieces n 600 m 0 n = [(m, 0, n)] := by
  have hrest : patchPieces n 599 (m + 1) 0 0 = [] := by
    unfold patchPieces
    exact if_pos (Or.inl rfl)
  unfold patchPieces
  rw [if_neg (by omega), Nat.sub_zero, Nat.min_self, Nat.sub_self, hrest]

/-- The state in which a porch has counted the foreign patches of a cell and, where the cell is of a new exposure, what the one before
has lost. -/
def State.exposureMet (s : State) (k p x : Nat) : State :=
  if x = s.hrt.frame ∧ 0 < x then (s.count (Reg.PCH_Pp_PATCH p) 16 16 k).loseRest p (x - 1) else s.count (Reg.PCH_Pp_PATCH p) 16 16 k

/-- The state in which a porch has met a cell, before it stores the cell's packet. -/
def State.patchMet (s : State) (k p x m : Nat) : State :=
  ((s.exposureMet k p x).losePassed p x m).updPorch p fun q => { q with holed := false }

theorem State.exposureMet_frame (s : State) (k p x : Nat) : SameBut [.regs, .est] s (s.exposureMet k p x) := by
  unfold State.exposureMet
  split
  · exact (State.loseRest_frame _ _ _).after (by decide) ((s.count_frame _ _ _ _).mono (by decide))
  · exact (s.count_frame _ _ _ _).mono (by decide)

theorem State.patchMet_frame (s : State) (k p x m : Nat) : SameBut [.regs, .est, .porches] s (s.patchMet k p x m) := by
  unfold State.patchMet
  exact (State.updPorch_frame _ _ _).after (by decide) ((State.losePassed_frame _ _ _ _).after (by decide)
    ((s.exposureMet_frame k p x).mono (by decide)))

theorem PatchesCanonical.exposureMet {s : State} (h : PatchesCanonical s) (k p x : Nat) : PatchesCanonical (s.exposureMet k p x) := by
  unfold State.exposureMet
  split
  · exact PatchesCanonical.losePassed (s := s.count _ 16 16 k) h p _ _
  · exact h

theorem PatchesCanonical.patchMet {s : State} (h : PatchesCanonical s) (k p x m : Nat) : PatchesCanonical (s.patchMet k p x m) :=
  (h.exposureMet k p x).losePassed p x m

theorem State.patchOf_exposureMet {s : State} (k p x i : Nat) (hi : i < 8192)
    (hrange : (s.laneEntry p).first + (s.laneEntry p).count ≤ 8192) : (s.exposureMet k p x).patchOf x i = s.patchOf x i := by
  unfold State.exposureMet
  split
  next h => exact State.patchOf_loseRest (s := s.count _ 16 16 k) p h.2 hi hrange
  · rfl

theorem SameBut.laneEntry_eq {l : List Part} {s t : State} (h : SameBut l s t) (hl : .plan ∉ l) (p : Nat) : t.laneEntry p = s.laneEntry p := by
  have hplan : t.plan = s.plan := h .plan hl
  unfold State.laneEntry
  rw [hplan]

/-- What a porch knows of the patches of an exposure when a cell has come in. -/
theorem State.patchOf_patchMet {s : State} (h : PatchesCanonical s) (k p x m i : Nat) (hi : i < 8192)
    (hrange : (s.laneEntry p).first + (s.laneEntry p).count ≤ 8192) :
    (s.patchMet k p x m).patchOf x i
      = if (s.laneEntry p).first ≤ i ∧ i < m then (s.patchOf x i).passed (s.laneEntry p).patchBits else s.patchOf x i := by
  have hpass := State.patchOf_losePassed (h.exposureMet k p x) p x m i
  rw [(s.exposureMet_frame k p x).laneEntry_eq (by decide), State.patchOf_exposureMet k p x i hi hrange] at hpass
  exact hpass

theorem State.porch_patchMet {s : State} (h : PorchesCanonical s) (k p x m : Nat) :
    (s.patchMet k p x m).porch p = { s.porch p with holed := false } := by
  have hframe : SameBut [.regs, .est] s ((s.exposureMet k p x).losePassed p x m) :=
    (State.losePassed_frame _ _ _ _).after (by decide) (s.exposureMet_frame k p x)
  unfold State.patchMet
  rw [State.porch_updPorch_self (hframe.porchesCanonical (by decide) h), hframe.porch_eq (by decide)]

/-- A cell of an expected exposure, by what its porch has met. -/
theorem State.takePatch_eq (s : State) (p x seq m b : Nat) (pieces : List (Nat × Nat × Nat)) (pixels : List Byte) :
    s.takePatch p x seq m b pieces pixels =
      let mine := pieces.takeWhile fun y => (s.laneEntry p).holds y.1
      let k := begins (pieces.drop mine.length)
      if mine.all ((s.exposureMet k p x).again x) then
        mine.foldl (fun s y => s.patchBitsIn p x y.1 y.2.1 (List.replicate y.2.2 false)) (s.exposureMet k p x)
      else
        let r := (s.patchMet k p x m).shelfCell p 1 seq (leBytes 4 x ++ leBytes 2 m ++ leBytes 2 b ++ pixels)
        if r.2 then r.1.patchSpread p x mine (bytesBits pixels)
        else (mine.filter fun y => !(s.patchMet k p x m).again x y).foldl (fun s y => s.losePatch p x y.1) r.1 := rfl

/-- A cell of one whole patch is stored and delivered, or loses its patch where it finds no room. -/
theorem State.takePatch_whole {s : State} (h : PatchesCanonical s) {p x m : Nat} (seq : Nat) {pixels : List Byte}
    (hholds : (s.laneEntry p).holds m = true) (hm : m < 8192) (hrange : (s.laneEntry p).first + (s.laneEntry p).count ≤ 8192)
    (hbits : (s.patchOf x m).bits = 0) (n : Nat) {u : State} {stored : Bool}
    (hr : (s.patchMet 0 p x m).shelfCell p 1 seq (leBytes 4 x ++ leBytes 2 m ++ leBytes 2 0 ++ pixels) = (u, stored)) :
    s.takePatch p x seq m 0 [(m, 0, n)] pixels
      = if stored then u.patchBitsIn p x m 0 ((bytesBits pixels).take n) else u.losePatch p x m := by
  have hmine : ([(m, 0, n)] : List (Nat × Nat × Nat)).takeWhile (fun y => (s.laneEntry p).holds y.1) = [(m, 0, n)] := by
    simp [List.takeWhile, hholds]
  have hbegun : (s.exposureMet 0 p x).again x (m, 0, n) = false := by
    unfold State.again
    rw [State.patchOf_exposureMet 0 p x m hm hrange, hbits]
    rfl
  have hmet : (s.patchMet 0 p x m).again x (m, 0, n) = false := by
    unfold State.again
    rw [State.patchOf_patchMet h 0 p x m m hm hrange, if_neg (by omega), hbits]
    rfl
  have hnone : begins (([(m, 0, n)] : List (Nat × Nat × Nat)).drop [(m, 0, n)].length) = 0 := rfl
  have hfilter : [(m, 0, n)].filter (fun y => !(s.patchMet 0 p x m).again x y) = [(m, 0, n)] := by
    simp [List.filter, hmet]
  rw [State.takePatch_eq]
  dsimp only
  rw [hmine, hnone, if_neg (by simp [hbegun]), hr, hfilter]
  rfl

/-- A patch with all its bits. -/
def Patch.whole (q : Patch) (n : Nat × Nat) (bits : Nat) : Patch :=
  { q with bits := bits, ones := n.1, full := n.2, late := q.late || q.fixed.isSome }

/-- A whole patch is delivered: in, or late behind its cutoff. -/
theorem State.patchBitsIn_whole {s : State} {p x m : Nat} {l : List Bool} (hbits : (s.patchOf x m).bits = 0)
    (hmiss : (s.patchOf x m).missing = false) (hl : l.length = (s.laneEntry p).patchBits) :
    ∃ n, s.patchBitsIn p x m 0 l = if (s.patchOf x m).fixed.isSome then s.setPatch x m ((s.patchOf x m).whole n l.length)
      else (s.setPatch x m ((s.patchOf x m).whole n l.length)).updPorch p fun r => { r with patchesIn := r.patchesIn + 1 } := by
  unfold State.patchBitsIn
  simp only [hbits, Nat.lt_irrefl, ↓reduceIte, Nat.zero_add, hmiss, hl, Nat.le_refl, decide_true, Bool.not_false, Bool.and_true, Bool.true_and]
  generalize scanPixels (s.laneEntry p).bits 0 l _ = n
  refine ⟨n, ?_⟩
  unfold Patch.whole
  cases (s.patchOf x m).fixed with
  | none => simp [hmiss]
  | some f => simp [hmiss]


theorem exec_patchCell_expected {s : State} {p : BitVec 4} {expo : BitVec 32} {m : BitVec 13} {x : Nat} (hpass : s.passes p.toNat = true)
    (hx : (s.expected p.toNat).find? (fun x => x % 2 ^ 32 = expo.toNat) = some x) (hrole : (s.laneEntry p.toNat).role = 1)
    (hholds : (s.laneEntry p.toNat).holds m.toNat = true) (b : BitVec 16) (pixels : List Byte) :
    exec (.patchCell p expo m b pixels) s = .next ((s.receive p.toNat).takePatch p.toNat x (s.porch p.toNat).rxSeq m.toNat b.toNat
      (patchPieces (s.laneEntry p.toNat).patchBits 600 m.toNat b.toNat (8 * pixels.length)) pixels) := by
  change execPatchCell p expo m b pixels s = _
  unfold execPatchCell
  dsimp only
  rw [if_neg (by simp [hpass])]
  have hx' : ((s.receive p.toNat).expected p.toNat).find? (fun x => x % 2 ^ 32 = expo.toNat) = some x := hx
  rw [hx']
  exact if_pos ⟨hrole, hholds⟩

theorem State.receive_porch {s : State} (h : PorchesCanonical s) (p : Nat) :
    (s.receive p).porch p = { s.porch p with heard := true, rxSeq := ((s.porch p).rxSeq + 1) % 65536 } :=
  State.porch_updPorch_self h p fun q => { q with heard := true, rxSeq := (q.rxSeq + 1) % 65536 }

theorem PorchesCanonical.receive {s : State} (h : PorchesCanonical s) (p : Nat) : PorchesCanonical (s.receive p) :=
  PorchesCanonical.updPorch h p fun q => { q with heard := true, rxSeq := (q.rxSeq + 1) % 65536 }

theorem State.receive_patchesIn {s : State} (h : PorchesCanonical s) (p : Nat) : ((s.receive p).porch p).patchesIn = (s.porch p).patchesIn := by
  rw [State.receive_porch h]

theorem Reg.PCH_Pp_RX_ne_PATCH (p : Nat) : Reg.PCH_Pp_PATCH p ≠ Reg.PCH_Pp_RX p := by
  unfold Reg.PCH_Pp_PATCH Reg.PCH_Pp_RX
  omega

theorem State.field_receive (s : State) (p : Nat) :
    (s.receive p).field (Reg.PCH_Pp_PATCH p) 16 16 = s.field (Reg.PCH_Pp_PATCH p) 16 16 :=
  State.field_count_ne _ _ _ _ _ _ (Reg.PCH_Pp_RX_ne_PATCH p)

theorem RegsCanonical.receive {s : State} (h : RegsCanonical s) (p : Nat) : RegsCanonical (s.receive p) :=
  RegsCanonical.count (RegsCanonical.updPorch h _ _) _ _ _ _

theorem exec_patchCell_foreign {s : State} {p : BitVec 4} {expo : BitVec 32} (hpass : s.passes p.toNat = true)
    (hx : ∀ x ∈ s.expected p.toNat, x % 2 ^ 32 ≠ expo.toNat) (m : BitVec 13) (b : BitVec 16) (pixels : List Byte) :
    exec (.patchCell p expo m b pixels) s = .next ((s.receive p.toNat).count (Reg.PCH_Pp_PATCH p.toNat) 16 16
      (begins (patchPieces (s.laneEntry p.toNat).patchBits 600 m.toNat b.toNat (8 * pixels.length)))) := by
  change execPatchCell p expo m b pixels s = _
  unfold execPatchCell
  dsimp only
  rw [if_neg (by simp [hpass])]
  have hx' : ((s.receive p.toNat).expected p.toNat).find? (fun x => x % 2 ^ 32 = expo.toNat) = none :=
    List.find?_eq_none.2 fun x hmem => by simpa using hx x hmem
  rw [hx']

/-- The state in which a whole patch has been stored and delivered. -/
theorem State.patchIn_effect {s : State} (hp : PatchesCanonical s) (hq : PorchesCanonical s) {p x m : Nat} {l : List Bool}
    (hbits : (s.patchOf x m).bits = 0) (hmiss : (s.patchOf x m).missing = false) (hl : l.length = (s.laneEntry p).patchBits) :
    ((s.patchBitsIn p x m 0 l).patchOf x m).bits = (s.laneEntry p).patchBits ∧ ((s.patchBitsIn p x m 0 l).patchOf x m).missing = false
      ∧ ((s.patchBitsIn p x m 0 l).patchOf x m).late = ((s.patchOf x m).late || (s.patchOf x m).fixed.isSome)
      ∧ ((s.patchBitsIn p x m 0 l).porch p).patchesIn = (s.porch p).patchesIn + (if (s.patchOf x m).fixed.isSome then 0 else 1)
      ∧ ∀ i, i ≠ m → (s.patchBitsIn p x m 0 l).patchOf x i = s.patchOf x i := by
  obtain ⟨n, heq⟩ := State.patchBitsIn_whole hbits hmiss hl
  have hself : (s.setPatch x m ((s.patchOf x m).whole n l.length)).patchOf x m = (s.patchOf x m).whole n l.length :=
    State.patchOf_setPatch_self hp x m (s.patchOf_expo x m)
  have hne : ∀ i, i ≠ m → (s.setPatch x m ((s.patchOf x m).whole n l.length)).patchOf x i = s.patchOf x i := fun i hi =>
    s.patchOf_setPatch_ne _ (patchKey_ne_of_mirror hi)
  have hporch : (s.setPatch x m ((s.patchOf x m).whole n l.length)).porches = s.porches := rfl
  rw [heq]
  generalize s.setPatch x m ((s.patchOf x m).whole n l.length) = u at hself hne hporch
  have huq : PorchesCanonical u := by unfold PorchesCanonical; rw [hporch]; exact hq
  have hup : u.porch p = s.porch p := by unfold State.porch; rw [hporch]
  by_cases hfix : (s.patchOf x m).fixed.isSome = true
  · rw [if_pos hfix, if_pos hfix, hself, hup]
    exact ⟨hl, hmiss, rfl, rfl, hne⟩
  · rw [if_neg hfix, if_neg hfix]
    have hpatch : ∀ i, (u.updPorch p fun r => { r with patchesIn := r.patchesIn + 1 }).patchOf x i = u.patchOf x i := fun i => rfl
    refine ⟨?_, ?_, ?_, ?_, fun i hi => (hpatch i).trans (hne i hi)⟩
    · rw [hpatch, hself]; exact hl
    · rw [hpatch, hself]; exact hmiss
    · rw [hpatch, hself]; rfl
    · rw [State.porch_updPorch_self huq, hup]

/-- What the store of a packet leaves of patches and porches. -/
theorem State.patchStored {s : State} (hp : PatchesCanonical s) (hq : PorchesCanonical s) {k p x m seq : Nat} {payload : List Byte}
    (hrange : (s.laneEntry p).first + (s.laneEntry p).count ≤ 8192) {u : State} {stored : Bool}
    (hr : (s.patchMet k p x m).shelfCell p 1 seq payload = (u, stored)) :
    PatchesCanonical u ∧ PorchesCanonical u ∧ (u.porch p).patchesIn = (s.porch p).patchesIn ∧ u.laneEntry p = s.laneEntry p
      ∧ (∀ i, i < 8192 → u.patchOf x i
        = if (s.laneEntry p).first ≤ i ∧ i < m then (s.patchOf x i).passed (s.laneEntry p).patchBits else s.patchOf x i)
      ∧ SameBut [.regs, .events, .est, .porches, .shelves] s u := by
  have hcell : SameBut [.regs, .events, .shelves] (s.patchMet k p x m) u := by
    have h := (s.patchMet k p x m).shelfCell_frame p 1 seq payload
    rw [hr] at h
    exact h
  have hmet := s.patchMet_frame k p x m
  have hporch := State.porch_patchMet hq k p x m
  have hpc : PorchesCanonical (s.patchMet k p x m) := by
    unfold State.patchMet
    exact PorchesCanonical.updPorch (((State.losePassed_frame _ _ _ _).after (by decide) (s.exposureMet_frame k p x)).porchesCanonical (by decide) hq) _ _
  refine ⟨hcell.patchesCanonical (by decide) (hp.patchMet k p x m), hcell.porchesCanonical (by decide) hpc, ?_,
    (hcell.laneEntry_eq (by decide) p).trans (hmet.laneEntry_eq (by decide) p),
    fun i hi => (hcell.patches (by decide) x i).trans (State.patchOf_patchMet hp k p x m i hi hrange),
    hcell.after (by decide) (hmet.mono (by decide))⟩
  rw [hcell.porch_eq (by decide), hporch]

theorem exec_patchCell_whole {s : State} (h : Canonical s) (p : BitVec 4) (expo : BitVec 32) (m : BitVec 13) (pixels : List Byte) (x : Nat)
    (hpass : s.passes p.toNat = true) (hrole : (s.laneEntry p.toNat).role = 1) (hholds : (s.laneEntry p.toNat).holds m.toNat = true)
    (hpos : 0 < (s.laneEntry p.toNat).patchBits) (hx : (s.expected p.toNat).find? (fun x => x % 2 ^ 32 = expo.toNat) = some x)
    (hlen : 8 * pixels.length = (s.laneEntry p.toNat).patchBits) (hbits : (s.patchOf x m.toNat).bits = 0)
    (hrange : (s.laneEntry p.toNat).first + (s.laneEntry p.toNat).count ≤ 8192) :
    ∃ u, exec (.patchCell p expo m 0 pixels) s
        = .next (if ((s.receive p.toNat).shelfCell p.toNat 1 (s.porch p.toNat).rxSeq (PatchPayload expo m 0 pixels)).2 then
            u.patchBitsIn p.toNat x m.toNat 0 (bytesBits pixels) else u.losePatch p.toNat x m.toNat)
      ∧ PatchesCanonical u ∧ PorchesCanonical u ∧ (u.porch p.toNat).patchesIn = (s.porch p.toNat).patchesIn
      ∧ u.laneEntry p.toNat = s.laneEntry p.toNat
      ∧ ∀ i, i < 8192 → u.patchOf x i = if (s.laneEntry p.toNat).first ≤ i ∧ i < m.toNat then
          (s.patchOf x i).passed (s.laneEntry p.toNat).patchBits else s.patchOf x i := by
  have hrec := s.receive_frame p.toNat
  have hexec := exec_patchCell_expected hpass hx hrole hholds 0 pixels
  have hzero : (0 : BitVec 16).toNat = 0 := rfl
  rw [hlen, hzero, patchPieces_whole hpos] at hexec
  have hpayload : leBytes 4 x ++ leBytes 2 m.toNat ++ leBytes 2 0 ++ pixels = PatchPayload expo m 0 pixels := by
    have hmod : x % 2 ^ 32 = expo.toNat := by simpa using List.find?_some hx
    have hexpo : leBytes 4 x = leBytes 4 expo.toNat := by
      rw [← hmod]
      exact (leBytes_mod 4 x).symm
    unfold PatchPayload
    rw [hexpo, hzero]
  have hlane : (s.receive p.toNat).laneEntry p.toNat = s.laneEntry p.toNat := rfl
  have hpatch : ∀ i, (s.receive p.toNat).patchOf x i = s.patchOf x i := fun i => rfl
  have hporch : ((s.receive p.toNat).porch p.toNat).patchesIn = (s.porch p.toNat).patchesIn :=
    State.receive_patchesIn h.porches p.toNat
  have hpc : PorchesCanonical (s.receive p.toNat) := PorchesCanonical.receive h.porches p.toNat
  have hpat : PatchesCanonical (s.receive p.toNat) := h.patches
  generalize s.receive p.toNat = v at hrec hexec hlane hpatch hporch hpc hpat ⊢
  obtain ⟨u, stored⟩ : ∃ u stored, (v.patchMet 0 p.toNat x m.toNat).shelfCell p.toNat 1 (s.porch p.toNat).rxSeq (PatchPayload expo m 0 pixels)
      = (u, stored) := ⟨_, _, rfl⟩
  obtain ⟨stored, hr⟩ := stored
  have hsame : ((v.patchMet 0 p.toNat x m.toNat).shelfCell p.toNat 1 (s.porch p.toNat).rxSeq (PatchPayload expo m 0 pixels)).2
      = (v.shelfCell p.toNat 1 (s.porch p.toNat).rxSeq (PatchPayload expo m 0 pixels)).2 :=
    State.pushPacket_alike _ _ ((v.patchMet_frame _ _ _ _).shelfPart (by decide) (by decide) (by decide) (by decide))
  rw [hr] at hsame
  have hrange' : (v.laneEntry p.toNat).first + (v.laneEntry p.toNat).count ≤ 8192 := by rw [hlane]; exact hrange
  obtain ⟨hup, huq, hin, hle, hpo, -⟩ := State.patchStored hpat hpc hrange' hr
  refine ⟨u, ?_, hup, huq, hin.trans hporch, hle.trans hlane, fun i hi => ?_⟩
  · have hholds' : (v.laneEntry p.toNat).holds m.toNat = true := by rw [hlane]; exact hholds
    have hbits' : (v.patchOf x m.toNat).bits = 0 := by rw [hpatch]; exact hbits
    rw [← hpayload] at hr
    rw [hexec, State.takePatch_whole hpat _ hholds' (by omega) hrange' hbits' _ hr, ← hsame]
    have htake : (bytesBits pixels).take (s.laneEntry p.toNat).patchBits = bytesBits pixels := by
      rw [← hlen, ← bytesBits_length]
      exact List.take_length
    rw [htake]
  · rw [hpo i hi, hlane, hpatch]

-- Tap readings

/-- Entries written one after another, each at a key of its own. -/
theorem tget_foldl_tset {α : Type} [DecidableEq α] {d : Nat → α} {l : List (Nat × α)} (hl : (l.map Prod.fst).Nodup) {t : List (Nat × α)}
    (h : twf d t = true) :
    (∀ e ∈ l, tget d (l.foldl (fun t r => tset d t r.1 r.2) t) e.1 = e.2)
      ∧ ∀ k, k ∉ l.map Prod.fst → tget d (l.foldl (fun t r => tset d t r.1 r.2) t) k = tget d t k := by
  induction l generalizing t with
  | nil => simp
  | cons e l ih =>
    obtain ⟨he, hl⟩ := List.nodup_cons.1 hl
    obtain ⟨hin, hout⟩ := ih hl (twf_tset h e.1 e.2)
    refine ⟨fun r hr => ?_, fun k hk => ?_⟩
    · obtain rfl | hr := List.mem_cons.1 hr
      · exact (hout _ he).trans (tget_tset_self h _ _)
      · exact hin r hr
    · obtain ⟨hne, hrest⟩ := not_or.1 fun h => hk (List.mem_cons.2 h)
      exact (hout k hrest).trans (tget_tset_ne _ _ hne)

/-- The readings of a packet for the ports of a range, by port. -/
def readingsFor (e : LaneEntry) (first : Nat) (rs : List TapReading) : List (Nat × TapReading) :=
  (rs.zipIdx.filter fun r => e.holds (first + r.2)).map fun r => (first + r.2, { r.1 with flags := r.1.flags % 16 })

theorem readingsFor_nodup (e : LaneEntry) (first : Nat) (rs : List TapReading) : ((readingsFor e first rs).map Prod.fst).Nodup := by
  have hkeys : (readingsFor e first rs).map Prod.fst = ((rs.zipIdx.filter fun r => e.holds (first + r.2)).map Prod.snd).map (first + ·) := by
    unfold readingsFor
    rw [List.map_map, List.map_map]
    rfl
  rw [hkeys]
  refine nodup_map_of_inj (fun a _ b _ hab => Nat.add_left_cancel hab) ?_
  refine List.Nodup.sublist (List.Sublist.map _ List.filter_sublist) ?_
  rw [List.zipIdx_map_snd]
  exact List.nodup_range'

theorem mem_readingsFor {e : LaneEntry} {first i : Nat} {rs : List TapReading} {r : TapReading} (h : rs[i]? = some r)
    (hin : e.holds (first + i) = true) : (first + i, { r with flags := r.flags % 16 }) ∈ readingsFor e first rs :=
  List.mem_map.2 ⟨(r, i), List.mem_filter.2 ⟨List.mem_zipIdx_iff_getElem?.2 h, hin⟩, rfl⟩

theorem readingsFor_keys {e : LaneEntry} {first k : Nat} {rs : List TapReading} (h : k ∈ (readingsFor e first rs).map Prod.fst) :
    first ≤ k ∧ k < first + rs.length := by
  obtain ⟨q, hq, rfl⟩ := List.mem_map.1 h
  obtain ⟨r, hr, rfl⟩ := List.mem_map.1 hq
  have hlt := List.mem_zipIdx_iff_getElem?.1 (List.mem_filter.1 hr).1
  have hbound : r.2 < rs.length := (List.getElem?_eq_some_iff.1 hlt).1
  dsimp only
  omega

theorem exec_tapCell_good {s : State} {p : BitVec 4} {tick : BitVec 32} (hpass : s.passes p.toNat = true)
    (hrole : (s.laneEntry p.toNat).role = 3) (htick : tick.toNat = s.hrt.frame % 2 ^ 32) (hsense : (s.sense p.toNat).isSome = true)
    (htapped : s.untapped = false) (first : BitVec 12) (rs : List TapReading) :
    exec (.tapCell p tick first (rs, .good)) s = .next { s.receive p.toNat with mov := { s.mov with
      tapNow := (readingsFor (s.laneEntry p.toNat) first.toNat rs).foldl (fun t r => tset (fun _ => ({} : TapReading)) t r.1 r.2) s.mov.tapNow } } := by
  change execTapCell p tick first (rs, .good) s = _
  unfold execTapCell
  dsimp only
  rw [if_neg (by simp [hpass])]
  exact if_pos ⟨hrole, htick, hsense, htapped⟩

theorem exec_tapCell_uncorrectable (s : State) (p : BitVec 4) (tick : BitVec 32) (first : BitVec 12) (rs : List TapReading) :
    ∃ t, exec (.tapCell p tick first (rs, .uncorrectable)) s = .next t ∧ t.mov = s.mov := by
  have hnote : ∀ u : State, (u.noteWord p.toNat .uncorrectable).mov = u.mov := fun u => u.noteWord_frame _ _ .mov (by decide)
  change ∃ t, execTapCell p tick first (rs, .uncorrectable) s = .next t ∧ t.mov = s.mov
  unfold execTapCell
  dsimp only
  split
  · exact ⟨s, rfl, rfl⟩
  · split
    · exact ⟨_, rfl, hnote _⟩
    · exact ⟨_, rfl, rfl⟩

-- A dropped cell

/-- The state in which a cell dropped at a porch of a role has been counted and its packet rewound. -/
def State.cellCounted (s : State) (p role : Nat) (cause : DropCause) : State :=
  let s := s.count (Reg.PCH_Pp_RX p) 16 16 1
  if (role = 1 ∨ role = 3) ∧ cause = .crc then s.rewind p 32 2 else s

theorem State.cellCounted_frame (s : State) (p role : Nat) (cause : DropCause) :
    SameBut [.regs, .events, .shelves] s (s.cellCounted p role cause) := by
  unfold State.cellCounted
  dsimp only
  split
  · exact (State.rewind_frame _ _ _ _).after (by decide) ((s.count_frame _ _ _ _).mono (by decide))
  · exact (s.count_frame _ _ _ _).mono (by decide)

theorem State.field_rewind (s : State) (n lo evt a lo' n' : Nat) (hdrop : a ≠ Reg.SHF_DROP n) (hevt : a ≠ Reg.SHF_EVT n) :
    (s.rewind n lo evt).field a lo' n' = s.field a lo' n' := by
  unfold State.rewind State.shelfEvt
  dsimp only
  have hraise : ∀ (u : State) (l : List Nat), (u.raiseTo l Src.shf evt n).field a lo' n' = u.field a lo' n' := fun _ _ => rfl
  rw [hraise, State.field_setField_ne _ _ _ _ _ _ hevt, State.field_count_ne _ _ _ _ _ _ hdrop]
  rfl

theorem State.field_cellCounted {s : State} (h : RegsCanonical s) {p : Nat} (hp : p < 16) (role : Nat) (cause : DropCause) :
    (s.cellCounted p role cause).field (Reg.PCH_Pp_RX p) 16 16 = min (2 ^ 16 - 1) (s.field (Reg.PCH_Pp_RX p) 16 16 + 1) := by
  have hcount : (s.count (Reg.PCH_Pp_RX p) 16 16 1).field (Reg.PCH_Pp_RX p) 16 16 = min (2 ^ 16 - 1) (s.field (Reg.PCH_Pp_RX p) 16 16 + 1) :=
    State.field_count_self h _ _ (by decide)
  unfold State.cellCounted
  dsimp only
  split
  · rw [State.field_rewind _ _ _ _ _ _ _ (by unfold Reg.PCH_Pp_RX Reg.SHF_DROP; omega) (by unfold Reg.PCH_Pp_RX Reg.SHF_EVT; omega), hcount]
  · exact hcount

theorem State.field_losePatch (s : State) (p e m a lo n : Nat) (ha : a ≠ Reg.PCH_Pp_PATCH p) :
    (s.losePatch p e m).field a lo n = s.field a lo n := by
  unfold State.losePatch
  dsimp only
  split
  · rfl
  · exact State.field_count_ne _ _ _ _ _ _ ha

theorem SameBut.lostExposure {l : List Part} {s t : State} (h : SameBut l s t) (hest : .est ∉ l) (hplan : .plan ∉ l) (hhrt : .hrt ∉ l) (p m : Nat) :
    t.lostExposure p m = s.lostExposure p m := by
  have hp : t.plan = s.plan := h .plan hplan
  have hh : t.hrt = s.hrt := h .hrt hhrt
  unfold State.lostExposure State.unsensed
  dsimp only
  rw [h.laneEntry_eq hplan, h.patches hest, hp, hh]

theorem exec_cellDropped_patch {s : State} {p : BitVec 4} {m : BitVec 13} (hlink : s.linked p.toNat = true)
    (hrole : (s.laneEntry p.toNat).role = 1) (hholds : (s.laneEntry p.toNat).holds m.toNat = true) (c : DropCause) :
    exec (.cellDropped p c (some m)) s = .next (((s.cellCounted p.toNat 1 c).updPorch p.toNat fun q => { q with holed := true }).losePatch
      p.toNat (s.lostExposure p.toNat m.toNat) m.toNat) := by
  have hframe : SameBut [.regs, .events, .shelves, .porches] s ((s.cellCounted p.toNat 1 c).updPorch p.toNat fun q => { q with holed := true }) :=
    (State.updPorch_frame _ _ _).after (by decide) ((s.cellCounted_frame _ _ _).mono (by decide))
  rw [← hframe.lostExposure (by decide) (by decide) (by decide)]
  change execCellDropped p c (some m) s = _
  unfold execCellDropped
  dsimp only
  rw [if_neg (by simp [hlink]), hrole]
  exact congrArg Host.Outcome.next (if_pos hholds)

theorem exec_cellDropped_effect {s : State} (h : Canonical s) {p : BitVec 4} {m : BitVec 13} (hlink : s.linked p.toNat = true)
    (hrole : (s.laneEntry p.toNat).role = 1) (hholds : (s.laneEntry p.toNat).holds m.toNat = true) (c : DropCause) :
    ∃ t, exec (.cellDropped p c (some m)) s = .next t
      ∧ (t.patchOf (s.lostExposure p.toNat m.toNat) m.toNat).missing = true
      ∧ t.field (Reg.PCH_Pp_RX p.toNat) 16 16 = min (2 ^ 16 - 1) (s.field (Reg.PCH_Pp_RX p.toNat) 16 16 + 1)
      ∧ t.porch p.toNat = { s.porch p.toNat with holed := true } ∧ (∀ q, q ≠ p.toNat → t.porch q = s.porch q)
      ∧ SameBut [.regs, .events, .est, .porches, .shelves] s t := by
  have hexec := exec_cellDropped_patch hlink hrole hholds c
  have hcounted := s.cellCounted_frame p.toNat 1 c
  have hfield := State.field_cellCounted h.regs (by omega : p.toNat < 16) 1 c
  have hfield' : ((s.cellCounted p.toNat 1 c).updPorch p.toNat fun q => { q with holed := true }).field (Reg.PCH_Pp_RX p.toNat) 16 16
      = min (2 ^ 16 - 1) (s.field (Reg.PCH_Pp_RX p.toNat) 16 16 + 1) := hfield
  have hself : ((s.cellCounted p.toNat 1 c).updPorch p.toNat fun q => { q with holed := true }).porch p.toNat = { s.porch p.toNat with holed := true } := by
    rw [State.porch_updPorch_self (hcounted.porchesCanonical (by decide) h.porches), hcounted.porch_eq (by decide)]
  have hne : ∀ q, q ≠ p.toNat → ((s.cellCounted p.toNat 1 c).updPorch p.toNat fun q => { q with holed := true }).porch q = s.porch q :=
    fun q hq => (State.porch_updPorch_ne _ _ hq).trans (hcounted.porch_eq (by decide) q)
  have hpat : PatchesCanonical ((s.cellCounted p.toNat 1 c).updPorch p.toNat fun q => { q with holed := true }) :=
    hcounted.patchesCanonical (by decide) h.patches
  generalize (s.cellCounted p.toNat 1 c).updPorch p.toNat (fun q => { q with holed := true }) = u at hexec hfield' hself hne hpat
  have hlose := u.losePatch_frame p.toNat (s.lostExposure p.toNat m.toNat) m.toNat
  refine ⟨_, hexec, ?_, ?_, (hlose.porch_eq (by decide) _).trans hself, fun q hq => (hlose.porch_eq (by decide) q).trans (hne q hq), ?_⟩
  · rw [State.patchOf_losePatch_self hpat]
  · rw [State.field_losePatch _ _ _ _ _ _ _ (Reg.PCH_Pp_RX_ne_PATCH _).symm, hfield']
  · exact (exec_frame _ _ _ hexec).mono (by simp [touches])

-- The cutoff

/-- The flags of a patch at the cutoff of its mirror. -/
def State.flagged (s : State) (m : Nat) (q : Patch) : Patch :=
  match s.imagerPorch m with
  | some p => { q with fixed := some (q.fixed.getD (patchFlags (s.laneEntry p).patchBits (s.porch p).holed q)) }
  | none => q

theorem PatchesCanonical.fixFlags {s : State} (h : PatchesCanonical s) (e m : Nat) : PatchesCanonical (s.fixFlags e m) := by
  unfold State.fixFlags
  split
  · dsimp only
    split
    · exact h
    · exact PatchesCanonical.setPatch h e m _
  · exact h

theorem State.patchOf_fixFlags_self {s : State} (h : PatchesCanonical s) (e m : Nat) :
    (s.fixFlags e m).patchOf e m = s.flagged m (s.patchOf e m) := by
  unfold State.fixFlags State.flagged
  cases s.imagerPorch m with
  | none => rfl
  | some p =>
    dsimp only
    cases hfix : (s.patchOf e m).fixed with
    | none => exact State.patchOf_setPatch_self h e m (s.patchOf_expo e m)
    | some f =>
      simp only [Option.isSome_some, ↓reduceIte, Option.getD_some]
      rw [← hfix]

theorem State.patchOf_fixFlags_ne (s : State) {e m e' k : Nat} (hk : patchKey e' k ≠ patchKey e m) :
    (s.fixFlags e m).patchOf e' k = s.patchOf e' k := by
  unfold State.fixFlags
  split
  · dsimp only
    split
    · rfl
    · exact State.patchOf_setPatch_ne s _ hk
  · rfl

theorem SameBut.flagged {l : List Part} {s t : State} (h : SameBut l s t) (hplan : .plan ∉ l) (hporches : .porches ∉ l) (m : Nat) (q : Patch) :
    t.flagged m q = s.flagged m q := by
  have hp : t.plan = s.plan := h .plan hplan
  have hq : t.porches = s.porches := h .porches hporches
  unfold State.flagged State.imagerPorch State.porchFor State.porchesOf State.porchRole State.laneEntry State.porch
  rw [hp, hq]

/-- The flags of every listed mirror are fixed once. -/
theorem State.patchOf_fixAll {s : State} (h : PatchesCanonical s) (e : Nat) {ms : List Nat} (hms : ms.Nodup) (k : Nat) :
    (State.each ms (fun m u => u.fixFlags e m) s).patchOf e k = if k ∈ ms then s.flagged k (s.patchOf e k) else s.patchOf e k :=
  State.each_at (f := fun m u => u.fixFlags e m) (get := fun u m => u.patchOf e m) (g := s.flagged)
    (P := fun u => PatchesCanonical u ∧ SameBut [.est] s u)
    (fun m u hu => ⟨hu.1.fixFlags e m, (u.fixFlags_frame e m).after (by decide) hu.2⟩)
    (fun m u hu => (State.patchOf_fixFlags_self hu.1 e m).trans (hu.2.flagged (by decide) (by decide) m _))
    (fun m k u _ hk => u.patchOf_fixFlags_ne (patchKey_ne_of_mirror hk)) hms ⟨h, .refl _ s⟩ k

/-- The mirrors of a micro-batch. -/
def batchMirrors (first count : Nat) : List Nat := (span first count).filter fun m => decide (m < 8192)

theorem mem_batchMirrors {first count m : Nat} : m ∈ batchMirrors first count ↔ (first ≤ m ∧ m < first + count) ∧ m < 8192 := by
  unfold batchMirrors
  rw [List.mem_filter, mem_span, decide_eq_true_eq]

theorem batchMirrors_nodup (first count : Nat) : (batchMirrors first count).Nodup := (span_nodup _ _).filter _

/-- The state of a cutoff when the words of its packets have been checked. -/
def State.cutoffChecked (s : State) (e : Nat) (ms : List Nat) (checks : List (BitVec 13 × WordCheck)) : State :=
  (checks.filter fun c => ms.contains c.1.toNat).foldl (fun s c => s.checkPatch e c) s

theorem exec_cutoff (s : State) (first : BitVec 13) (count : BitVec 14) (checks : List (BitVec 13 × WordCheck)) :
    ∃ t, exec (.cutoff (first, count) checks) s = .next t
      ∧ SameBut [.shelves] (State.each (batchMirrors first.toNat count.toNat) (fun m u => u.fixFlags (s.openExposure first.toNat) m)
          (s.cutoffChecked (s.openExposure first.toNat) (batchMirrors first.toNat count.toNat) checks)) t :=
  ⟨_, rfl, State.each_frame _ _ _ fun p u => u.dropPackets_frame p _⟩

/-- A packet with an uncorrectable word loses its patch. -/
theorem State.checkPatch_lost {s : State} (h : PatchesCanonical s) {e q : Nat} {m : BitVec 13} (hq : s.imagerPorch m.toNat = some q)
    (hbits : 0 < (s.patchOf e m.toNat).bits) :
    PatchesCanonical (s.checkPatch e (m, .uncorrectable))
      ∧ (s.checkPatch e (m, .uncorrectable)).patchOf e m.toNat = { s.patchOf e m.toNat with missing := true } := by
  have hnote := s.noteWord_frame q .uncorrectable
  have hpatch := hnote.patches (by decide) e m.toNat
  have hc := hnote.patchesCanonical (by decide) h
  have heq : s.checkPatch e (m, .uncorrectable) = (s.noteWord q .uncorrectable).losePatch q e m.toNat := by
    unfold State.checkPatch
    dsimp only
    rw [hq]
    exact if_pos ⟨rfl, by rw [hpatch]; exact hbits⟩
  rw [heq]
  exact ⟨hc.losePatch q e m.toNat, by rw [State.patchOf_losePatch_self hc, hpatch]⟩

theorem patchFlags_lost (total : Nat) (holed : Bool) {q : Patch} (h : q.missing = true) : patchFlags total holed q % 8 = 2 := by
  unfold patchFlags
  rw [if_pos (Or.inr h)]
  omega

theorem exec_patchCell_foreign_effect {s : State} (h : Canonical s) {p : BitVec 4} {expo : BitVec 32} (hpass : s.passes p.toNat = true)
    (hx : ∀ x ∈ s.expected p.toNat, x % 2 ^ 32 ≠ expo.toNat) (m : BitVec 13) (b : BitVec 16) (pixels : List Byte) :
    ∃ t, exec (.patchCell p expo m b pixels) s = .next t ∧ t.est = s.est ∧ t.shelves = s.shelves
        ∧ t.porch p.toNat = { s.porch p.toNat with heard := true, rxSeq := ((s.porch p.toNat).rxSeq + 1) % 65536 }
        ∧ t.field (Reg.PCH_Pp_PATCH p.toNat) 16 16
            = min (2 ^ 16 - 1) (s.field (Reg.PCH_Pp_PATCH p.toNat) 16 16
                + begins (patchPieces (s.laneEntry p.toNat).patchBits 600 m.toNat b.toNat (8 * pixels.length))) := by
  have hexec := exec_patchCell_foreign hpass hx m b pixels
  have hfield := State.field_count_self (RegsCanonical.receive h.regs p.toNat) (Reg.PCH_Pp_PATCH p.toNat) (lo := 16) (n := 16)
    (begins (patchPieces (s.laneEntry p.toNat).patchBits 600 m.toNat b.toNat (8 * pixels.length))) (by decide)
  have hporch := State.receive_porch h.porches p.toNat
  have hrec := s.receive_frame p.toNat
  rw [State.field_receive] at hfield
  have hcount := (s.receive p.toNat).count_frame (Reg.PCH_Pp_PATCH p.toNat) 16 16
    (begins (patchPieces (s.laneEntry p.toNat).patchBits 600 m.toNat b.toNat (8 * pixels.length)))
  exact ⟨_, hexec, (hcount .est (by decide)).trans (hrec .est (by decide)), (hcount .shelves (by decide)).trans (hrec .shelves (by decide)),
    (hcount.porch_eq (by decide) _).trans hporch, hfield⟩

/-- Settles O34. -/
theorem patchesAndReadings : Obligations.PatchesAndReadings := by
  intro s p hcan
  refine ⟨fun expo m pixels x hpass hrole hholds hpos hx hlen hbits hmiss hrange => ⟨fun hstore => ?_, fun hstore => ?_⟩,
    fun expo m b pixels hpass hforeign => ?_, fun tick first rs i r hpass hrole htick hsense htap hr hin => ?_,
    fun tick first rs => exec_tapCell_uncorrectable s p tick first rs, fun c m hlink hrole hholds => exec_cellDropped_effect hcan hlink hrole hholds c,
    fun first count => ?_, fun first m count q hlo hhi hq hbits hfix => ?_⟩
  · obtain ⟨u, hexec, hup, huq, hin, hlane, hpatch⟩ := exec_patchCell_whole hcan p expo m pixels x hpass hrole hholds hpos hx hlen hbits hrange
    rw [if_pos hstore] at hexec
    have hm : m.toNat < 8192 := by omega
    have hself : u.patchOf x m.toNat = s.patchOf x m.toNat := (hpatch _ hm).trans (if_neg (by omega))
    obtain ⟨hb, hmi, hla, hpi, hoth⟩ := State.patchIn_effect (l := bytesBits pixels) hup huq (by rw [hself]; exact hbits)
      (by rw [hself]; exact hmiss) (by rw [bytesBits_length, hlane]; exact hlen)
    rw [hself] at hla hpi
    refine ⟨_, hexec, hb.trans (congrArg LaneEntry.patchBits hlane), hmi, hla, by rw [hpi, hin], fun i hlo hhi hlow => ?_, fun i hi hgt => ?_,
      (exec_frame _ _ _ hexec).mono (by simp [touches])⟩
    · rw [hoth i (by omega), hpatch i (by omega), if_pos ⟨hlo, hhi⟩]
      unfold Patch.passed
      rw [if_pos hlow]
    · rw [hoth i (by omega), hpatch i hi, if_neg (by omega)]
  · obtain ⟨u, hexec, hup, huq, hin, -, hpatch⟩ := exec_patchCell_whole hcan p expo m pixels x hpass hrole hholds hpos hx hlen hbits hrange
    rw [if_neg (by rw [hstore]; exact Bool.false_ne_true)] at hexec
    refine ⟨_, hexec, ?_, ?_⟩
    · rw [State.patchOf_losePatch_self hup]
    · rw [(u.losePatch_frame _ _ _).porch_eq (by decide), hin]
  · exact exec_patchCell_foreign_effect hcan hpass hforeign m b pixels
  · have hexec := exec_tapCell_good hpass hrole htick hsense htap first rs
    obtain ⟨hread, hstand⟩ := tget_foldl_tset (readingsFor_nodup (s.laneEntry p.toNat) first.toNat rs) hcan.tapNow
    exact ⟨_, hexec, hread _ (mem_readingsFor hr hin), fun k hk => hstand k fun hmem => by have := readingsFor_keys hmem; omega,
      (SameBut.mov_frame _ _).after (by decide) ((s.receive_frame _).mono (by decide))⟩
  · obtain ⟨t, hexec, hshelves⟩ := exec_cutoff s first count []
    have hnone : s.cutoffChecked (s.openExposure first.toNat) (batchMirrors first.toNat count.toNat) [] = s := by
      unfold State.cutoffChecked
      rw [List.filter_nil, List.foldl_nil]
    rw [hnone] at hshelves
    have hfix := fun m => (hshelves.patches (by decide) (s.openExposure first.toNat) m).trans
      (State.patchOf_fixAll hcan.patches (s.openExposure first.toNat) (batchMirrors_nodup first.toNat count.toNat) m)
    refine ⟨t, hexec, hshelves.after (by decide) ((State.each_frame _ _ _ fun m u => u.fixFlags_frame _ m).mono (by decide)),
      fun m q hlo hhi hm hq => ?_, fun m hm hout => ?_⟩
    · rw [hfix, if_pos (mem_batchMirrors.2 ⟨⟨hlo, hhi⟩, hm⟩)]
      unfold State.flagged
      rw [hq]
    · rw [hfix, if_neg fun h => by have := (mem_batchMirrors.1 h).1; omega]
  · obtain ⟨t, hexec, hshelves⟩ := exec_cutoff s first count [(m, .uncorrectable)]
    have hmem : m.toNat ∈ batchMirrors first.toNat count.toNat := mem_batchMirrors.2 ⟨⟨hlo, hhi⟩, by omega⟩
    have hone : s.cutoffChecked (s.openExposure first.toNat) (batchMirrors first.toNat count.toNat) [(m, .uncorrectable)]
        = s.checkPatch (s.openExposure first.toNat) (m, .uncorrectable) := by
      unfold State.cutoffChecked
      rw [List.filter_cons, if_pos (by simpa using hmem)]
      rfl
    rw [hone] at hshelves
    obtain ⟨hc, hlost⟩ := State.checkPatch_lost hcan.patches hq hbits
    have hfixed := (hshelves.patches (by decide) (s.openExposure first.toNat) m.toNat).trans
      (State.patchOf_fixAll hc (s.openExposure first.toNat) (batchMirrors_nodup first.toNat count.toNat) m.toNat)
    rw [if_pos hmem, (s.checkPatch_frame _ _).flagged (by decide) (by decide), hlost] at hfixed
    unfold State.flagged at hfixed
    rw [hq] at hfixed
    refine ⟨t, _, hexec, congrArg Patch.fixed hfixed, ?_⟩
    dsimp only
    rw [hfix]
    exact patchFlags_lost _ _ rfl

end Sys2Proof.Machine
end

-- Estimates and services -----------------------------------------------------------------------------------------------------
section
/-! O35: estimates land in the loops of their mirror; adaptation and rebuild rounds. -/
namespace Sys2Proof.Machine

-- What the cells leave of the loops

/-- The loops stay canonical, and each keeps its part `part`. -/
structure LoopsKeep {α : Type} (part : Loop → α) (s t : State) : Prop where
  canonical : LoopsCanonical t
  keeps     : ∀ l, part (t.loop l) = part (s.loop l)

theorem LoopsKeep.refl {α : Type} {part : Loop → α} {s : State} (h : LoopsCanonical s) : LoopsKeep part s s := ⟨h, fun _ => rfl⟩

theorem LoopsKeep.trans {α : Type} {part : Loop → α} {s t u : State} (h : LoopsKeep part s t) (k : LoopsKeep part t u) :
    LoopsKeep part s u := ⟨k.canonical, fun l => (k.keeps l).trans (h.keeps l)⟩

theorem SameBut.loopsKeep {α : Type} {part : Loop → α} {l : List Part} {s t : State} (h : SameBut l s t) (hl : .loops ∉ l)
    (hs : LoopsCanonical s) : LoopsKeep part s t :=
  ⟨h.loopsCanonical hl hs, fun l => by rw [h.loop_eq hl]⟩

theorem State.updLoop_keeps {α : Type} {part : Loop → α} {s : State} (h : LoopsCanonical s) (l : Nat) {f : Loop → Loop}
    (hf : part (f (s.loop l)) = part (s.loop l)) : LoopsKeep part s (s.updLoop l f) := by
  refine ⟨h.updLoop l f, fun k => ?_⟩
  by_cases hk : k = l
  · subst hk
    rw [State.loop_updLoop_self h, hf]
  · rw [State.loop_updLoop_ne _ _ hk]

theorem LoopsKeep.foldl {α β : Type} {part : Loop → α} {f : State → β → State}
    (hf : ∀ s b, LoopsCanonical s → LoopsKeep part s (f s b)) (l : List β) {s : State} (h : LoopsCanonical s) :
    LoopsKeep part s (l.foldl f s) := by
  induction l generalizing s with
  | nil => exact .refl h
  | cons b l ih => exact (hf s b h).trans (ih (hf s b h).canonical)

/-- The record that a loop has taken up, and its command. -/
def Loop.landed (x : Loop) : Option EstRec × Option Int := (x.record, x.ready)

theorem State.commandLeft_landed {s : State} (h : LoopsCanonical s) (e : Nat × Int) : LoopsKeep Loop.landed s (s.commandLeft e) :=
  (State.updLoop_keeps h e.1 rfl).trans (State.updLoop_keeps (h.updLoop _ _) e.1 rfl)

theorem State.closeCell_landed {s : State} (h : LoopsCanonical s) (p : Nat) : LoopsKeep Loop.landed s (s.closeCell p true) := by
  by_cases hne : (s.porch p).openCell.entries = []
  · rw [State.closeCell_empty hne]
    exact (s.updPorch_frame p _).loopsKeep (by decide) h
  · rw [State.closeCell_inTime hne]
    have hsent : LoopsKeep Loop.landed s (s.cellSent p) := (s.cellSent_frame p).loopsKeep (by decide) h
    exact hsent.trans (LoopsKeep.foldl (fun u e hu => State.commandLeft_landed hu e) _ hsent.canonical)

theorem State.addCommand_landed {s : State} (h : LoopsCanonical s) (l : Nat) (u : Int) : LoopsKeep Loop.landed s (s.addCommand l u) := by
  unfold State.addCommand
  split
  next p hp =>
    have hcell : LoopsKeep Loop.landed s (s.updLoop l fun x => { x with celled := true }) := State.updLoop_keeps h l rfl
    dsimp only
    split
    · have hopen : ∀ v : State, LoopsCanonical v →
          LoopsKeep Loop.landed v (v.updPorch p fun q => { q with openCell := { q.openCell with entries := q.openCell.entries ++ [(l, u)] } }) :=
        fun v hv => (v.updPorch_frame p _).loopsKeep (by decide) hv
      split
      · exact (hcell.trans (hopen _ hcell.canonical)).trans (State.closeCell_landed (hopen _ hcell.canonical).canonical p)
      · exact hcell.trans (hopen _ hcell.canonical)
    · exact hcell
  · exact .refl h

theorem State.cellReady_landed {s : State} (h : LoopsCanonical s) (l : Nat) : LoopsKeep Loop.landed s (s.cellReady l) := by
  unfold State.cellReady
  dsimp only
  split
  · split
    · exact .refl h
    · exact State.addCommand_landed h l _
  · exact .refl h

-- A record lands

/-- Every phase of ACQUIRE computes a command. -/
theorem State.computeAcquire_ready (s : State) (l : Nat) (x : Loop) (r : EstRec) (leave : Bool) :
    (s.computeAcquire l x r leave).ready.isSome = true := by
  unfold State.computeAcquire
  dsimp only
  split
  · split <;> rfl
  · rfl
  · split <;> rfl

/-- The command that a loop computes from a record. -/
def State.computed (s : State) (l : Nat) (r : EstRec) (leave : Bool) : Loop :=
  if (s.loop l).cls = .acquire then s.computeAcquire l (s.loop l) r leave else s.computeRun l (s.loop l) r

theorem State.computed_ready (s : State) (l : Nat) (r : EstRec) (leave : Bool) : (s.computed l r leave).ready.isSome = true := by
  unfold State.computed
  split
  · exact s.computeAcquire_ready l _ r leave
  · rfl

theorem State.landLoop_computes {s : State} {r : EstRec} {leave : Bool} {l : Nat} (hrec : (s.loop l).record = none)
    (hcomp : (s.computes l (s.loop l) && !late) = true) : s.landLoop r leave late l
      = (if (s.computed l r leave).cls ≠ .acquire ∧ 0 < (s.computed l r leave).bad then s.count (Reg.LOOP_COUNT l) 16 16 1 else s).updLoop l
          fun _ => { s.computed l r leave with record := some r } := by
  unfold State.landLoop
  dsimp only
  rw [if_neg (by simp [hrec]), if_pos hcomp]
  rfl

theorem State.landLoop_waits {s : State} {r : EstRec} {leave late : Bool} {l : Nat} (hrec : (s.loop l).record = none)
    (hcomp : (s.computes l (s.loop l) && !late) = false) : s.landLoop r leave late l = s.updLoop l fun x => { x with record := some r } := by
  unfold State.landLoop
  dsimp only
  rw [if_neg (by simp [hrec]), if_neg (by rw [hcomp]; exact Bool.false_ne_true)]

/-- What the landing of a record leaves of the loops. -/
theorem State.landLoop_effect {s : State} (h : LoopsCanonical s) (r : EstRec) (leave late : Bool) (l : Nat) :
    LoopsCanonical (s.landLoop r leave late l) ∧ (∀ k, k ≠ l → (s.landLoop r leave late l).loop k = s.loop k)
      ∧ ((s.loop l).record = none → ((s.landLoop r leave late l).loop l).record = some r
        ∧ ((s.computes l (s.loop l) && !late) = true → ((s.landLoop r leave late l).loop l).ready.isSome = true)) := by
  by_cases hrec : (s.loop l).record = none
  · by_cases hcomp : (s.computes l (s.loop l) && !late) = true
    · rw [State.landLoop_computes hrec hcomp]
      have hready := s.computed_ready l r leave
      generalize s.computed l r leave = y at hready
      have hcount : SameBut [.regs] s (if y.cls ≠ .acquire ∧ 0 < y.bad then s.count (Reg.LOOP_COUNT l) 16 16 1 else s) :=
        SameBut.ite (s.count_frame _ _ _ _) (.refl _ s)
      have hc := hcount.loopsCanonical (by decide) h
      refine ⟨hc.updLoop l _, fun k hk => ?_, fun _ => ⟨?_, fun _ => ?_⟩⟩
      · rw [State.loop_updLoop_ne _ _ hk, hcount.loop_eq (by decide)]
      · rw [State.loop_updLoop_self hc]
      · rw [State.loop_updLoop_self hc]
        exact hready
    · rw [State.landLoop_waits hrec (Bool.eq_false_iff.2 hcomp)]
      refine ⟨h.updLoop l _, fun k hk => State.loop_updLoop_ne _ _ hk, fun _ => ⟨?_, fun hc => absurd hc hcomp⟩⟩
      rw [State.loop_updLoop_self h]
  · have heq : s.landLoop r leave late l = s := if_pos (by simpa [Option.isSome_iff_ne_none] using hrec)
    rw [heq]
    exact ⟨h, fun _ _ => rfl, fun hn => absurd hn hrec⟩

/-- Where no datapath is out of service, a loop computes by its own state and the frame alone. -/
theorem State.computes_congr {s t : State} {l : Nat} (hdp : s.eng.dpOut = []) (hhrt : t.hrt = s.hrt) (heng : t.eng = s.eng)
    (hloop : t.loop l = s.loop l) : t.computes l (t.loop l) = s.computes l (s.loop l) := by
  have hdpOf : t.dpOf l = s.dpOf l := by
    unfold State.dpOf
    rw [heng, hdp, hloop]
    rfl
  unfold State.computes
  rw [hhrt, heng, hloop, hdpOf]

/-- A record of a mirror lands in its two loops. -/
theorem State.landRecord_effect {s : State} (h : LoopsCanonical s) (r : EstRec) (late : List Nat) :
    LoopsCanonical (s.landRecord r late) ∧ (∀ k, k ≠ 2 * r.mirror → k ≠ 2 * r.mirror + 1 → (s.landRecord r late).loop k = s.loop k)
      ∧ (∀ l, l = 2 * r.mirror ∨ l = 2 * r.mirror + 1 → (s.loop l).record = none → ((s.landRecord r late).loop l).record = some r
        ∧ (s.eng.dpOut = [] → s.computes l (s.loop l) = true → late.contains l = false → ((s.landRecord r late).loop l).ready.isSome = true)) := by
  unfold State.landRecord
  dsimp only
  generalize s.leavesSearch r = leave
  obtain ⟨hc, hothers, hself⟩ := State.landLoop_effect h r leave (late.contains (2 * r.mirror)) (2 * r.mirror)
  have hframe := s.landLoop_frame r leave (late.contains (2 * r.mirror)) (2 * r.mirror)
  generalize s.landLoop r leave (late.contains (2 * r.mirror)) (2 * r.mirror) = u at hc hothers hself hframe
  obtain ⟨hc', hothers', hself'⟩ := State.landLoop_effect hc r leave (late.contains (2 * r.mirror + 1)) (2 * r.mirror + 1)
  generalize u.landLoop r leave (late.contains (2 * r.mirror + 1)) (2 * r.mirror + 1) = v at hc' hothers' hself'
  refine ⟨hc', fun k hx hy => (hothers' k hy).trans (hothers k hx), fun l hl hrec => ?_⟩
  obtain rfl | rfl := hl
  · obtain ⟨hr, hready⟩ := hself hrec
    rw [hothers' _ (by omega)]
    exact ⟨hr, fun _ hcomp hlate => hready (by rw [hcomp, hlate]; rfl)⟩
  · have hsame : u.loop (2 * r.mirror + 1) = s.loop (2 * r.mirror + 1) := hothers _ (by omega)
    obtain ⟨hr, hready⟩ := hself' (by rw [hsame]; exact hrec)
    refine ⟨hr, fun hdp hcomp hlate => hready ?_⟩
    have hcomp' := State.computes_congr hdp (hframe .hrt (by decide)) (hframe .eng (by decide)) hsame
    rw [hcomp', hcomp, hlate]
    rfl

-- An output lands

/-- The record of a mirror's output in the current frame. -/
def State.recordOf (s : State) (o : NetOut) : EstRec :=
  estRecord ((s.hrt.frame - 1) % 2 ^ 32) (((s.fixFlags (s.hrt.frame - 1) o.mirror.toNat).patchOf (s.hrt.frame - 1) o.mirror.toNat).fixed.getD 2) o

theorem State.landOut_eq {s : State} {o : NetOut} {p : Nat} (hp : s.imagerPorch o.mirror.toNat = some p) (late : List Nat) :
    s.landOut late o = (((((s.fixFlags (s.hrt.frame - 1) o.mirror.toNat).noteSaturate o).landRecord (s.recordOf o) late).cellReady
      (2 * o.mirror.toNat)).cellReady (2 * o.mirror.toNat + 1)) := by
  unfold State.landOut
  dsimp only
  rw [if_pos (by simp [hp])]
  rfl

theorem State.recordOf_flags {s : State} (h : PatchesCanonical s) {o : NetOut} {p : Nat} (hp : s.imagerPorch o.mirror.toNat = some p) :
    s.recordOf o = estRecord ((s.hrt.frame - 1) % 2 ^ 32) ((s.patchOf (s.hrt.frame - 1) o.mirror.toNat).fixed.getD
      (patchFlags (s.laneEntry p).patchBits (s.porch p).holed (s.patchOf (s.hrt.frame - 1) o.mirror.toNat))) o := by
  unfold State.recordOf
  rw [State.patchOf_fixFlags_self h]
  unfold State.flagged
  rw [hp]
  rfl

theorem State.noteSaturate_saturates {s : State} (h : TilesCanonical s) {o : NetOut} (hsat : netSaturates o = true) (ht : o.tile.toNat < 96) :
    ((s.noteSaturate o).tile o.tile.toNat).frame.saturate = true := by
  unfold State.noteSaturate
  rw [if_pos ⟨hsat, ht⟩, State.tile_updTile_self h]

theorem exec_estimateLands_one {s : State} (h : Canonical s) (o : NetOut) (late : List (BitVec 14)) {p : Nat} (hest : s.estimates = true)
    (hp : s.imagerPorch o.mirror.toNat = some p) :
    ∃ t, exec (.estimateLands [o] late) s = .next t
      ∧ (∀ l, l = 2 * o.mirror.toNat ∨ l = 2 * o.mirror.toNat + 1 → (s.loop l).record = none → (t.loop l).record = some (s.recordOf o)
        ∧ (s.eng.dpOut = [] → s.computes l (s.loop l) = true → (∀ b ∈ late, b.toNat ≠ l) → (t.loop l).ready.isSome = true))
      ∧ (∀ l, l ≠ 2 * o.mirror.toNat → l ≠ 2 * o.mirror.toNat + 1 → (t.loop l).record = (s.loop l).record ∧ (t.loop l).ready = (s.loop l).ready)
      ∧ (netSaturates o = true → o.tile.toNat < 96 → (t.tile o.tile.toNat).frame.saturate = true)
      ∧ t.hrt.frame = s.hrt.frame ∧ SameBut [.hrt, .regs, .loops, .est, .porches, .til, .free] s t := by
  have hexec : exec (.estimateLands [o] late) s = .next (s.landOut (late.map BitVec.toNat) o) := if_pos hest
  have htime := s.landOut_time (late.map BitVec.toNat) o
  have hframe := s.landOut_frame (late.map BitVec.toNat) o
  have heq := State.landOut_eq hp (late.map BitVec.toNat)
  have hfix := s.fixFlags_frame (s.hrt.frame - 1) o.mirror.toNat
  have hnote : SameBut [.est, .til] s ((s.fixFlags (s.hrt.frame - 1) o.mirror.toNat).noteSaturate o) :=
    (State.noteSaturate_frame _ _).after (by decide) (hfix.mono (by decide))
  have htiles : TilesCanonical (s.fixFlags (s.hrt.frame - 1) o.mirror.toNat) := by
    unfold TilesCanonical
    rw [hfix .til (by decide)]
    exact h.tiles
  have hsat := fun hs ht => State.noteSaturate_saturates (o := o) htiles hs ht
  generalize (s.fixFlags (s.hrt.frame - 1) o.mirror.toNat).noteSaturate o = u at heq hnote hsat
  have hmirror : (s.recordOf o).mirror = o.mirror.toNat := rfl
  have hland := State.landRecord_effect (hnote.loopsCanonical (by decide) h.loops) (s.recordOf o) (late.map BitVec.toNat)
  rw [hmirror] at hland
  have hlandFrame := u.landRecord_frame (s.recordOf o) (late.map BitVec.toNat)
  generalize s.recordOf o = r at heq hland hlandFrame ⊢
  generalize u.landRecord r (late.map BitVec.toNat) = v at heq hland hlandFrame
  obtain ⟨hvc, hothers, hself⟩ := hland
  have hcells := (State.cellReady_landed hvc (2 * o.mirror.toNat)).trans
    (State.cellReady_landed (State.cellReady_landed hvc (2 * o.mirror.toNat)).canonical (2 * o.mirror.toNat + 1))
  have hcellsFrame := ((v.cellReady (2 * o.mirror.toNat)).cellReady_frame (2 * o.mirror.toNat + 1)).after (by decide)
    (v.cellReady_frame (2 * o.mirror.toNat))
  rw [← heq] at hcells hcellsFrame
  have hrecord := fun l => congrArg Prod.fst (hcells.keeps l)
  have hready := fun l => congrArg Prod.snd (hcells.keeps l)
  dsimp only [Loop.landed] at hrecord hready
  generalize s.landOut (late.map BitVec.toNat) o = t at hexec htime hframe hrecord hready hcellsFrame
  obtain ⟨-, hfr, -⟩ := htime
  refine ⟨t, hexec, fun l hl hrec => ?_, fun l hx hy => ?_, fun hs ht => ?_, hfr, hframe⟩
  · have hul : u.loop l = s.loop l := hnote.loop_eq (by decide) l
    obtain ⟨hr, hcomp⟩ := hself l hl (by rw [hul]; exact hrec)
    refine ⟨(hrecord l).trans hr, fun hdp hc hlate => ?_⟩
    rw [hready]
    have hudp : u.eng.dpOut = [] := by rw [hnote .eng (by decide)]; exact hdp
    have huc := State.computes_congr hdp (hnote .hrt (by decide)) (hnote .eng (by decide)) hul
    refine hcomp hudp (huc.trans hc) ?_
    rw [← Bool.not_eq_true, List.contains_iff_mem]
    intro hmem
    obtain ⟨b, hb, rfl⟩ := List.mem_map.1 hmem
    exact hlate b hb rfl
  · rw [hrecord, hready, hothers l hx hy, hnote.loop_eq (by decide)]
    exact ⟨rfl, rfl⟩
  · rw [hcellsFrame.tile_eq (by decide), hlandFrame.tile_eq (by decide)]
    exact hsat hs ht

theorem State.estimates_congr {s t : State} (h : SameBut [.hrt, .regs, .loops, .est, .porches, .til, .free] s t) (htime : TimeKept s t) :
    t.estimates = s.estimates := by
  have hboot : t.boot = s.boot := h .boot (by decide)
  have hplan : t.plan = s.plan := h .plan (by decide)
  obtain ⟨hrun, hframe, -⟩ := htime
  unfold State.estimates
  rw [hboot, hplan, hrun, hframe]

theorem exec_estimateLands_cons {s t : State} {o : NetOut} {late : List (BitVec 14)} (h : exec (.estimateLands [o] late) s = .next t)
    (os : List NetOut) : exec (.estimateLands (o :: os) late) s = exec (.estimateLands os late) t := by
  by_cases hest : s.estimates = true
  · have hone : exec (.estimateLands [o] late) s = .next (s.landOut (late.map BitVec.toNat) o) := if_pos hest
    obtain rfl : s.landOut (late.map BitVec.toNat) o = t := by
      rw [hone] at h
      exact Host.Outcome.next.inj h
    have hest' : (s.landOut (late.map BitVec.toNat) o).estimates = true :=
      (State.estimates_congr (s.landOut_frame _ o) (s.landOut_time _ o)).trans hest
    have hall : exec (.estimateLands (o :: os) late) s
        = .next (os.foldl (fun s o => s.landOut (late.map BitVec.toNat) o) (s.landOut (late.map BitVec.toNat) o)) := if_pos hest
    have hrest : exec (.estimateLands os late) (s.landOut (late.map BitVec.toNat) o)
        = .next (os.foldl (fun s o => s.landOut (late.map BitVec.toNat) o) (s.landOut (late.map BitVec.toNat) o)) := if_pos hest'
    exact hall.trans hrest.symm
  · have hone : ∀ l, exec (.estimateLands l late) s = .next s := fun l => if_neg hest
    obtain rfl : s = t := by
      rw [hone] at h
      exact Host.Outcome.next.inj h
    rw [hone, hone]

-- The services

theorem exec_adaptDone_held {s : State} {j : Nat} {x : PlanTable} (hjob : s.est.adaptJob = some j) (htrain : s.est.training = true)
    (hx : s.table? (s.workTable j) = some x) (hheld : x.heldBy 2 j = true) (hcopy : x.copying = false) (a b : BitVec 32) :
    exec (.adaptDone a b) s = .next ((({ s.updTable (s.workTable j) fun t => if accepts (s.adaptParams j).accept a b then { t with inactive := 3 } else t.release with
        est := { s.est with adaptJob := none, training := false, samples := 0, heldOut := 0 } }).raise Src.pln 7 (s.workTable j)
          (bit (accepts (s.adaptParams j).accept a b))).record 0x0008 Sev.info 0
        ([BitVec.ofNat 8 (bit (accepts (s.adaptParams j).accept a b)), 0, 0, 0] ++ leBytes 4 a.toNat ++ leBytes 4 b.toNat)) := by
  change execAdaptDone a b s = _
  unfold execAdaptDone
  rw [hjob]
  dsimp only
  rw [hx]
  dsimp only
  rw [if_pos (by simp [htrain, hheld, hcopy])]
  rfl

/-- The entries that a rebuild round rewrites. -/
def State.rebuilt (s : State) (j : Nat) (avg : List (Nat × Int × Int × Int × Int)) (x : PlanTable) : List (Nat × Int × Int × Int × Int) :=
  avg.filter fun a => s.averaged (s.rebuildParams j).settle a && moved (s.rebuildParams j).change x.other (8 * a.1) a.2

/-- The work table of a rebuild round that ends. -/
def PlanTable.roundEnded (new : List (Nat × Int × Int × Int × Int)) (t : PlanTable) : PlanTable :=
  if new.length = 0 then t.release else { t with inactive := 3, other := new.foldl (fun b a => putEntry b (8 * a.1) a.2) t.other }

theorem PlanTable.roundEnded_new {new : List (Nat × Int × Int × Int × Int)} (h : 0 < new.length) (t : PlanTable) :
    (t.roundEnded new).inactive = 3 ∧ (t.roundEnded new).bank = t.bank := by
  unfold PlanTable.roundEnded
  rw [if_neg (Nat.pos_iff_ne_zero.1 h)]
  exact ⟨rfl, rfl⟩

theorem PlanTable.roundEnded_same {new : List (Nat × Int × Int × Int × Int)} (h : new.length = 0) (t : PlanTable) :
    (t.roundEnded new).inactive = 0 ∧ (t.roundEnded new).other = [] := by
  unfold PlanTable.roundEnded
  rw [if_pos h]
  exact ⟨rfl, rfl⟩

theorem exec_rebuildRoundEnd_due {s : State} {j : BitVec 8} {r : Nat} {x : PlanTable} (hround : s.est.round = some r)
    (hx : s.table? (s.workTable j.toNat) = some x) (hheld : x.heldBy 2 j.toNat = true) (hcopy : x.copying = false)
    (hdue : r + (s.rebuildParams j.toNat).round ≤ s.hrt.frame + 1) (avg : List (Nat × Int × Int × Int × Int)) :
    exec (.rebuildRoundEnd j avg) s = .next (({ s.updTable (s.workTable j.toNat) (PlanTable.roundEnded (s.rebuilt j.toNat avg x)) with
      est := { s.est with round := none, written := (s.rebuilt j.toNat avg x).length, settles := [] } }).raise Src.pln 8 (s.workTable j.toNat)
        (s.rebuilt j.toNat avg x).length) := by
  change execRebuildRoundEnd j avg s = _
  unfold execRebuildRoundEnd
  dsimp only
  rw [hround, hx]
  dsimp only
  rw [if_pos (by simp [hheld, hcopy, hdue])]
  rfl

/-- Settles O35. -/
theorem estimatesAndServices : Obligations.EstimatesAndServices := by
  intro s hcan
  refine ⟨fun o late p hest hp => ?_, fun o os late t h => exec_estimateLands_cons h os, fun os late hest => if_neg (by simp [hest]),
    fun j n hlive hserv hrole hjob hsamples => ?_, fun a b j x hjob htrain hx hheld hcopy => ?_,
    fun j avg r x hround hx hheld hcopy hdue => ?_⟩
  · dsimp only
    rw [← State.recordOf_flags hcan.patches hp]
    exact exec_estimateLands_one hcan o late hest hp
  · exact if_pos (by
      change ((s.job j.toNat).live && decide ((s.job j.toNat).service = 2) && decide (s.twn.role ≠ .standby) && s.est.adaptJob.isNone
        && decide ((s.adaptParams j.toNat).samples ≤ n.toNat)) = true
      simp [hlive, hserv, hrole, hjob, hsamples])
  · have hexec := exec_adaptDone_held hjob htrain hx hheld hcopy a b
    refine ⟨_, hexec, ?_, rfl, List.mem_append_right _ (List.mem_singleton.2 rfl), (exec_frame _ _ _ hexec).mono (by simp [touches])⟩
    have htable := State.table?_updTable_self hx fun t => if accepts (s.adaptParams j).accept a b then { t with inactive := 3 } else t.release
    exact htable
  · have hexec := exec_rebuildRoundEnd_due hround hx hheld hcopy hdue avg
    have htable := State.table?_updTable_self hx (PlanTable.roundEnded (s.rebuilt j.toNat avg x))
    exact ⟨_, hexec, rfl, rfl, fun hpos => ⟨_, htable, PlanTable.roundEnded_new hpos x⟩, fun hzero => ⟨_, htable, PlanTable.roundEnded_same hzero x⟩,
      List.mem_append_right _ (List.mem_singleton.2 rfl), (exec_frame _ _ _ hexec).mono (by simp [touches])⟩

end Sys2Proof.Machine
end

-- The loop engine ------------------------------------------------------------------------------------------------------------
section
/-! O36 to O38: class changes of a loop, `LOOP_CTL`, errors inside the engine and descriptor changes. -/
namespace Sys2Proof.Machine

-- Class changes

/-- The loop as a freeze with reason `r` leaves it (R206, R208). -/
def Loop.frozen (r : Nat) (x : Loop) : Loop :=
  ({ x with cls := .freeze, reason := r, frzCmd := x.heldCmd, frzWait := 0, bad := 0, handRun := 0 }).takes 2

theorem State.freezeAt_running {s : State} {l : Nat} (r : Nat) (hoff : (s.loop l).cls ≠ .off) (hfrz : (s.loop l).cls ≠ .freeze) :
    s.freezeAt r l = (((s.updLoop l (Loop.frozen r)).count (Reg.LOOP_COUNT l) 0 16 1).raiseTo
        (s.ownersOf [mirrorPort (l / 2)]) Src.trc 1 l r).record 0x0009 Sev.warning 3
          (leBytes 2 l ++ [BitVec.ofNat 8 r, 0, 0, 0, 0, 0] ++ s.tickBytes) := by
  unfold State.freezeAt
  dsimp only
  cases hcls : (s.loop l).cls with
  | off => exact absurd hcls hoff
  | freeze => exact absurd hcls hfrz
  | acquire => rfl
  | slew => rfl
  | hold => rfl
  | track => rfl

theorem exec_freezes {s : State} {c : Instr} {l : BitVec 14}
    (h : (c = Instr.acqTimeout l ∧ s.acqTimedOut (s.loop l.toNat) = true) ∨ (c = .overrunFreeze l ∧ 3 ≤ (s.loop l.toNat).ovrRun)
      ∨ (c = .implausible l ∧ s.implausible l.toNat (s.loop l.toNat) = true))
    (hfree : s.freeFor l.toNat 2 = true) :
    exec c s = .next (s.freezeAt (s.freezeCause l.toNat (s.loop l.toNat)) l.toNat) := by
  rcases h with ⟨rfl, hdue⟩ | ⟨rfl, hdue⟩ | ⟨rfl, hdue⟩
  · exact congrArg _ (if_pos (by rw [hdue, hfree]; rfl))
  · exact congrArg _ (if_pos (by rw [decide_eq_true hdue, hfree]; rfl))
  · exact congrArg _ (if_pos (by rw [hdue, hfree]; rfl))

theorem State.loop_leaveAcquire {s : State} (h : LoopsCanonical s) (l : Nat) :
    ((s.leaveAcquire l).loop l).warm = 64 ∧ ((s.leaveAcquire l).loop l).took = 6
    ∧ ((s.leaveAcquire l).loop l).heldCmd = (s.loop l).heldCmd
    ∧ ((s.leaveAcquire l).loop l).sp = { u := ((s.loop l).angles.head?).getD (s.loop l).heldCmd, v := 0 }
    ∧ ((s.leaveAcquire l).loop l).cls
        = (if Desc.holdIn (s.loop l).desc < ((s.source l (s.loop l) - ((s.loop l).angles.head?).getD (s.loop l).heldCmd).natAbs : Int)
          then .slew else Desc.run (s.loop l).desc) := by
  rw [State.leaveAcquire, State.loop_updLoop_self h]
  by_cases hfar : Desc.holdIn (s.loop l).desc < ((s.source l (s.loop l) - ((s.loop l).angles.head?).getD (s.loop l).heldCmd).natAbs : Int)
    <;> simp only [hfar, decide_true, decide_false, if_true, if_false, Bool.false_eq_true, Loop.toSlew, Loop.toRun, Loop.takes, and_self]

/-- Settles O36. -/
theorem loopsChangeClass : Obligations.LoopsChangeClass := by
  intro s l hcan
  dsimp only
  have hloops := hcan.loops
  refine ⟨fun hdue => ?_, fun hdue => ?_, fun hdue => ?_, fun hwarm hemit => ?_, fun c hc hfree hoff hfrz => ?_, fun hdue => ?_⟩
  · exact ⟨_, if_pos hdue, State.loop_updLoop_self hloops _ _, fun m => State.loop_updLoop_ne s _, State.updLoop_frame _ _ _⟩
  · obtain ⟨hwarm, htook, hheld, hsp, hcls⟩ := State.loop_leaveAcquire hloops l.toNat
    exact ⟨_, if_pos hdue, hwarm, htook, hheld, hsp, hcls, fun m => State.loop_updLoop_ne s _, State.leaveAcquire_frame _ _⟩
  · exact ⟨_, if_pos hdue, State.loop_updLoop_self hloops _ _, fun m => State.loop_updLoop_ne s _, State.updLoop_frame _ _ _⟩
  · exact ⟨_, if_pos ⟨hwarm, hemit⟩, State.loop_updLoop_self hloops _ _, fun m => State.loop_updLoop_ne s _, State.updLoop_frame _ _ _⟩
  · have hexec := exec_freezes hc hfree
    have hframe : SameBut [.loops, .regs, .events, .att] s (s.freezeAt (s.freezeCause l.toNat (s.loop l.toNat)) l.toNat) :=
      (State.freezeAt_frame _ _ _).mono (by simp)
    generalize s.freezeCause l.toNat (s.loop l.toNat) = r at hexec hframe ⊢
    rw [State.freezeAt_running r hoff hfrz] at hexec hframe
    have hself : (s.updLoop l.toNat (Loop.frozen r)).loop l.toNat = Loop.frozen r (s.loop l.toNat) := State.loop_updLoop_self hloops _ _
    have hregs : RegsCanonical (s.updLoop l.toNat (Loop.frozen r)) := hcan.regs
    exact ⟨_, hexec, congrArg Loop.cls hself, congrArg Loop.reason hself, (congrArg Loop.frzCmd hself :), (congrArg Loop.heldCmd hself :),
      congrArg Loop.took hself, State.field_count_self hregs _ _ (by decide), List.mem_append_right _ (List.mem_singleton.2 rfl),
      List.mem_append_right _ (List.mem_singleton.2 rfl), fun m hm => State.loop_updLoop_ne s _ hm, hframe⟩
  · exact if_neg (by rw [hdue]; exact Bool.false_ne_true)

-- Operations of `LOOP_CTL`

theorem State.loop_loopResult_self {s : State} (h : LoopsCanonical s) (l r : Nat) :
    (s.loopResult l r).loop l = { s.loop l with result := r } := State.loop_updLoop_self h l _

theorem State.loop_takeStart_ne (s : State) {l m : Nat} (h : m ≠ l) : (s.takeStart l).loop m = s.loop m := by
  unfold State.takeStart
  dsimp only
  split
  · exact State.loop_updLoop_ne s _ h
  · exact State.loop_updLoop_ne s _ h

theorem State.loop_takeRelease_ne (s : State) {l m : Nat} (h : m ≠ l) : (s.takeRelease l).loop m = s.loop m := by
  unfold State.takeRelease
  dsimp only
  split
  · exact State.loop_updLoop_ne s _ h
  · exact State.loop_updLoop_ne s _ h

theorem signed_toInt (v : BitVec 16) : signed 16 v.toNat = v.toInt := by
  rw [BitVec.toInt_eq_toNat_cond]
  unfold signed
  rw [Nat.mod_eq_of_lt v.isLt]

/-- Settles O37. -/
theorem loopOperationsTakenUp : Obligations.LoopOperationsTakenUp := by
  intro s l hcan
  have hloops := hcan.loops
  refine ⟨fun hoff hrun hfree => ?_, fun hoff => ?_, ?_, fun hfrz hhalt hporch hfree => ?_, fun hreason hhalt => ?_,
    fun m hm => ⟨State.loop_takeStart_ne s hm, State.loop_updLoop_ne s _ hm, State.loop_takeRelease_ne s hm⟩,
    State.takeStart_frame _ _, State.takeOff_frame _ _, State.takeRelease_frame _ _, fun i v => ?_⟩
  · have htake : s.takeStart l = s.updLoop l fun x => { x.start.takes 7 with result := 0 } := if_pos ⟨hoff, hrun, hfree⟩
    rw [htake, State.loop_updLoop_self hloops]
    exact ⟨rfl, rfl, rfl, rfl, rfl, rfl⟩
  · have htake : s.takeStart l = s.loopResult l 1 := if_neg fun h => hoff h.1
    rw [htake, State.loop_loopResult_self hloops]
  · rw [State.takeOff, State.loop_updLoop_self hloops]
    exact ⟨rfl, rfl, rfl⟩
  · have hheld : ((decide ((s.loop l).reason = 1) && !s.pins.haltN) || (decide ((s.loop l).reason = 3) && s.porchStillLost l)) = false := by
      have hpin : (decide ((s.loop l).reason = 1) && !s.pins.haltN) = false := by
        rcases hhalt with h | h
        · rw [decide_eq_false h, Bool.false_and]
        · rw [h, Bool.not_true, Bool.and_false]
      by_cases h3 : (s.loop l).reason = 3
      · rw [hpin, hporch h3, Bool.and_false, Bool.or_false]
      · rw [hpin, decide_eq_false h3, Bool.false_and, Bool.or_false]
    have htake : s.takeRelease l = s.updLoop l fun x => { x.toAcquire.takes 8 with result := 0 } :=
      if_pos ⟨hfrz, by rw [hheld]; rfl, hfree⟩
    rw [htake, State.loop_updLoop_self hloops]
    exact ⟨rfl, rfl, rfl⟩
  · have htake : s.takeRelease l = s.loopResult l 1 := if_neg fun h => by
      have hheld := h.2.1
      rw [decide_eq_true hreason, hhalt] at hheld
      exact Bool.false_ne_true hheld
    rw [htake, State.loop_loopResult_self hloops]
  · have hexec : exec (.setpointWrite i v) s = .next (s.updLoop i.toNat fun x => { x with spWrite := some (signed 16 v.toNat) }) := rfl
    exact ⟨_, hexec, by rw [State.loop_updLoop_self hloops, signed_toInt], fun m hm => State.loop_updLoop_ne s _ hm, exec_frame _ _ _ hexec⟩

-- Errors inside the engine

theorem State.verdict_solo {s : State} (hrole : s.roleNow = .solo) (reason code : Nat) (solo : State → State) :
    s.verdict reason code solo = solo (s.guardEvent code) := by
  have hnow : (s.guardEvent code).roleNow = .solo := by
    have htwn : (s.guardEvent code).twn = s.twn := s.guardEvent_frame code .twn (by decide)
    unfold State.roleNow at hrole ⊢
    rw [htwn]
    exact hrole
  unfold State.verdict
  dsimp only
  rw [hnow]

/-- What SOLO does at a verdict is of no concern to a unit of another role. -/
theorem State.verdict_not_solo {s : State} (hrole : s.roleNow ≠ .solo) (reason code : Nat) (f g : State → State) :
    s.verdict reason code f = s.verdict reason code g := by
  have hnow : (s.guardEvent code).roleNow ≠ .solo := by
    have htwn : (s.guardEvent code).twn = s.twn := s.guardEvent_frame code .twn (by decide)
    unfold State.roleNow at hrole ⊢
    rw [htwn]
    exact hrole
  unfold State.verdict
  dsimp only
  cases hcase : (s.guardEvent code).roleNow with
  | solo => exact absurd hcase hnow
  | active => rfl
  | standby => rfl
  | withdrawn => rfl
  | none => rfl

theorem State.roleNow_holds {s : State} {r : Role} (h : s.roleNow = r) (hr : r ≠ .withdrawn) :
    s.twn.withdrawAt = none ∧ s.twn.role = r := by
  unfold State.roleNow at h
  split at h
  · exact absurd h.symm hr
  next hat => exact ⟨Option.not_isSome_iff_eq_none.1 hat, h⟩

/-- The notice and the register of an uncorrectable context error (R212). -/
def State.eccReported (s : State) (l : Nat) : State := (s.raise Src.trc 2 l).setField Reg.TRC_LE_ECC 0 14 l

theorem State.eccReported_frame (s : State) (l : Nat) : SameBut [.regs, .events] s (s.eccReported l) :=
  (State.setField_frame _ _ _ _ _).after (by decide) ((State.raise_frame _ _ _ _ _).mono (by decide))

theorem State.eccReported_stands {s : State} (h : RegsCanonical s) (l : Nat) : FaultsStand s (s.eccReported l) :=
  .of_same (RegsCanonical.setField (s := s.raise Src.trc 2 l) h _ _ _ _) (State.reg_setField_ne _ _ _ _ (by decide)) rfl

/-- A unit in SOLO that finds an uncorrectable context error freezes the loop, and its pin is asserted (R212). -/
def State.eccFrozen (l : Nat) (s : State) : State :=
  ((s.freezeLoop 4 l).faultOn FaultCause.stateEcc true).record 0x000A Sev.critical 2
    (leBytes 2 l ++ [0, 0, 0, 0, 0, 0] ++ s.frameBytes)

theorem State.eccFrozen_frame (l : Nat) (s : State) : SameBut [.loops, .regs, .pins, .att, .events] s (State.eccFrozen l s) :=
  (State.record_frame _ _ _ _ _).after (by decide) ((State.faultOn_frame _ _ _).after (by decide) ((State.freezeLoop_frame _ _ _).mono (by decide)))

theorem State.eccFrozen_stands {s : State} (h : RegsCanonical s) (l : Nat) :
    FaultsStand s (State.eccFrozen l s) ∧ bitAt ((State.eccFrozen l s).reg Reg.THM_FAULT) FaultCause.stateEcc = true := by
  have hfreeze : FaultsStand s (s.freezeLoop 4 l) := (State.freezeLoop_frame _ _ _).faultsStand h (by decide) (by decide)
  have hfault := State.faultOn_stands hfreeze.canonical (c := FaultCause.stateEcc) (by decide) true
  exact ⟨(hfreeze.trans hfault).trans (.of_same hfault.canonical rfl rfl), State.faultOn_bit hfreeze.canonical (by decide) true⟩

theorem State.loop_eccFrozen {s : State} (h : LoopsCanonical s) {l : Nat} (hcls : (s.loop l).cls ≠ .off) :
    (State.eccFrozen l s).loop l = { s.loop l with frzWait := joinFreeze 4 (s.loop l).frzWait } := by
  have hloop : (s.freezeLoop 4 l).loop l = { s.loop l with frzWait := joinFreeze 4 (s.loop l).frzWait } :=
    (State.loop_updLoop_self h l _).trans (if_neg hcls)
  exact ((State.faultOn_frame _ _ _).loop_eq (by decide) l).trans hloop

theorem State.loop_eccFrozen_ne (s : State) {l m : Nat} (h : m ≠ l) : (State.eccFrozen l s).loop m = s.loop m :=
  ((State.faultOn_frame _ _ _).loop_eq (by decide) m).trans (State.loop_updLoop_ne s _ h)

theorem exec_stateEcc_solo {s : State} (hcan : Canonical s) {l : BitVec 14} (hsolo : s.roleNow = .solo) (hcls : (s.loop l.toNat).cls ≠ .off) :
    ∃ t, exec (.stateEcc l) s = .next t
      ∧ t.loop l.toNat = { s.loop l.toNat with frzWait := joinFreeze 4 (s.loop l.toNat).frzWait } ∧ t.twn = s.twn
      ∧ t.field Reg.TRC_LE_ECC 0 14 = l.toNat ∧ FaultAsserted 6 s t ∧ Notified Src.trc 2 l.toNat 0 t
      ∧ ⟨0x000A, Sev.critical, 2, leBytes 2 l.toNat ++ [0, 0, 0, 0, 0, 0] ++ s.frameBytes⟩ ∈ t.att.waiting
      ∧ (∀ m, m ≠ l.toNat → t.loop m = s.loop m) := by
  have hexec : exec (.stateEcc l) s = .next ((s.eccReported l.toNat).verdict 1 GuardCode.verdict (State.eccFrozen l.toNat)) := rfl
  have hrole : (s.eccReported l.toNat).roleNow = .solo := by
    unfold State.roleNow at hsolo ⊢
    exact hsolo
  rw [State.verdict_solo hrole] at hexec
  have hreport := State.eccReported_stands hcan.regs l.toNat
  have hguard := State.guardEvent_stands hreport.canonical GuardCode.verdict
  obtain ⟨hstands, hbit⟩ := State.eccFrozen_stands hguard.canonical l.toNat
  have hall := (hreport.trans hguard).trans hstands
  have hgframe := State.guardEvent_frame (s.eccReported l.toNat) GuardCode.verdict
  have hloops := hgframe.loopsCanonical (by decide) ((s.eccReported_frame l.toNat).loopsCanonical (by decide) hcan.loops)
  have hloop : ∀ m, ((s.eccReported l.toNat).guardEvent GuardCode.verdict).loop m = s.loop m := fun m =>
    (hgframe.loop_eq (by decide) m).trans ((s.eccReported_frame l.toNat).loop_eq (by decide) m)
  refine ⟨_, hexec, ?_, ?_, ?_, hall.asserted hbit, ?_, ?_, fun m hm => ?_⟩
  · rw [State.loop_eccFrozen hloops (by rw [hloop]; exact hcls), hloop]
  · exact (State.eccFrozen_frame _ _ .twn (by decide)).trans ((hgframe .twn (by decide)).trans (s.eccReported_frame _ .twn (by decide)))
  · have hreg : (State.eccFrozen l.toNat ((s.eccReported l.toNat).guardEvent GuardCode.verdict)).reg Reg.TRC_LE_ECC
        = (s.eccReported l.toNat).reg Reg.TRC_LE_ECC :=
      (State.reg_faultOn_ne _ _ _ (by decide)).trans
        (((State.freezeLoop_frame _ _ _).reg_eq (by decide) _).trans (State.reg_guardEvent_ne _ _ (by decide)))
    rw [State.field, hreg]
    exact (State.field_setField_self (s := s.raise Src.trc 2 l.toNat) hcan.regs _ _ (by decide)).trans (Nat.mod_eq_of_lt l.isLt)
  · exact State.faultOn_eventsStay _ _ _ _ ((State.freezeLoop_frame _ 4 l.toNat).eventsStay (by decide) _ (hgframe.eventsStay (by decide) _ (List.mem_append_right _ (List.mem_singleton.2 rfl))))
  · have hbytes : s.frameBytes = ((s.eccReported l.toNat).guardEvent GuardCode.verdict).frameBytes := by
      rw [State.frameBytes, State.frameBytes, State.guardEvent_hrt]
      rfl
    exact List.mem_append_right _ (List.mem_singleton.2 (by rw [hbytes]))
  · rw [State.loop_eccFrozen_ne _ hm, hloop]

theorem exec_stateEcc_held {s : State} (hcan : Canonical s) {l : BitVec 14} (hrole : s.roleNow = .active ∨ s.roleNow = .standby) :
    ∃ t, exec (.stateEcc l) s = .next t ∧ t.twn.withdrawAt = some 1 ∧ FaultAsserted 2 s t ∧ Notified Src.trc 2 l.toNat 0 t := by
  have hnot : s.roleNow ≠ .solo := by rcases hrole with h | h <;> (rw [h]; decide)
  obtain ⟨hat, hnow⟩ : s.twn.withdrawAt = none ∧ (s.twn.role = .active ∨ s.twn.role = .standby) := by
    rcases hrole with h | h
    · exact ⟨(State.roleNow_holds h (by decide)).1, Or.inl (State.roleNow_holds h (by decide)).2⟩
    · exact ⟨(State.roleNow_holds h (by decide)).1, Or.inr (State.roleNow_holds h (by decide)).2⟩
  have hexec : exec (.stateEcc l) s = .next ((s.eccReported l.toNat).verdict 1 GuardCode.verdict (State.eccFrozen l.toNat)) := rfl
  rw [State.verdict_not_solo (s := s.eccReported l.toNat) hnot 1 GuardCode.verdict _ fun s => s.withdraw 1 GuardCode.verdict] at hexec
  have hreport := State.eccReported_stands hcan.regs l.toNat
  obtain ⟨hgave, hstands, hbit⟩ := State.verdict_gaveUp hreport.canonical 1 GuardCode.verdict hat
    (hnow.imp_right Or.inl)
  exact ⟨_, hexec, hgave.reason, (hreport.trans hstands).asserted hbit,
    State.verdict_eventsStay _ _ _ (fun u => u.withdraw_eventsStay _ _) _ (List.mem_append_right _ (List.mem_singleton.2 rfl))⟩

-- Descriptor changes

theorem State.giveDesc_effect {s : State} (h : LoopsCanonical s) (l : Nat) (d : BitVec 512) :
    ((s.giveDesc false l d).loop l).desc = d
    ∧ (Desc.runClass d = 0 → d ≠ (s.loop l).desc → ((s.giveDesc false l d).loop l).cls = .off)
    ∧ ((s.loop l).cls = .off → ((s.giveDesc false l d).loop l).cls = .off)
    ∧ (Desc.runClass d ≠ 0 → d ≠ (s.loop l).desc → (s.loop l).cls ≠ .off →
        ((s.giveDesc false l d).loop l).warm = 64 ∧ ((s.giveDesc false l d).loop l).secs = []) := by
  unfold State.giveDesc
  dsimp only
  by_cases hsame : d = (s.loop l).desc
  · rw [if_pos hsame]
    exact ⟨hsame.symm, fun _ hne => absurd hsame hne, id, fun _ hne => absurd hsame hne⟩
  rw [if_neg hsame]
  by_cases hrun : Desc.runClass d = 0
  · rw [if_pos (decide_eq_true hrun), State.loop_updLoop_self h]
    by_cases hoff : (s.loop l).cls = .off
    · rw [if_pos hoff]
      exact ⟨rfl, fun _ _ => hoff, fun _ => hoff, fun hne => absurd hrun hne⟩
    · rw [if_neg hoff]
      exact ⟨rfl, fun _ _ => rfl, fun _ => rfl, fun hne => absurd hrun hne⟩
  · rw [if_neg (by rw [decide_eq_false hrun]; exact Bool.false_ne_true)]
    cases hcls : (s.loop l).cls with
    | off =>
      dsimp only
      rw [State.loop_updLoop_self h]
      exact ⟨rfl, fun hz => absurd hz hrun, fun _ => congrArg Loop.cls (if_neg Bool.false_ne_true), fun _ _ hne => absurd rfl hne⟩
    | acquire | slew | hold | track | freeze =>
      dsimp only
      rw [State.loop_updLoop_self h]
      split <;> exact ⟨rfl, fun hz => absurd hz hrun, fun hne => absurd hne (by decide), fun _ _ _ => ⟨rfl, rfl⟩⟩

theorem State.loop_giveDesc_ne (s : State) (starts : Bool) {l m : Nat} (d : BitVec 512) (h : m ≠ l) :
    (s.giveDesc starts l d).loop m = s.loop m := by
  unfold State.giveDesc
  dsimp only
  split
  · rfl
  split
  · exact State.loop_updLoop_ne s _ h
  split
  · exact State.loop_updLoop_ne s _ h
  · exact State.loop_updLoop_ne s _ h

/-- The state a pending descriptor change leaves at its tick (R217). -/
def State.descGiven (s : State) (l : Nat) (d : BitVec 512) : State :=
  { s.giveDesc false l d with eng := { s.eng with change := none, edits := min 0xFFFF (s.eng.edits + 1) } }

theorem State.descTakeEffect_due {s : State} {l : Nat} {d : BitVec 512} {k : Nat} (hchange : s.eng.change = some (l, d, k))
    (hk : k ≤ s.nextTick) : s.descTakeEffect = ((s.descGiven l d).descResult 1).raise Src.trc 4 l := by
  unfold State.descTakeEffect
  rw [hchange]
  dsimp only
  rw [if_pos hk]
  unfold State.descGiven
  rw [State.giveDesc_frame _ _ _ _ .eng (by decide)]

theorem State.loop_descGiven (s : State) (l : Nat) (d : BitVec 512) (m : Nat) :
    (((s.descGiven l d).descResult 1).raise Src.trc 4 l).loop m = (s.giveDesc false l d).loop m := by
  rw [State.descResult, State.loop_raise, State.loop_setField]
  rfl

theorem State.eng_descGiven (s : State) (l : Nat) (d : BitVec 512) :
    (((s.descGiven l d).descResult 1).raise Src.trc 4 l).eng = { s.eng with change := none, edits := min 0xFFFF (s.eng.edits + 1) } := by
  rw [State.descResult, State.raise_eng, State.setField_eng]
  rfl

/-- Settles O38. -/
theorem engineErrorsAndDescriptors : Obligations.EngineErrorsAndDescriptors := by
  intro s hcan
  refine ⟨fun l hsolo hcls => ?_, fun l hrole => ?_, fun d hout hstop => ?_, fun hcommit => ?_, fun l d k hchange hk hcommit => ?_,
    fun l d k hchange hk => ?_⟩
  · exact exec_stateEcc_solo hcan hsolo hcls
  · exact exec_stateEcc_held hcan hrole
  · exact if_neg (by simp [hout, hstop])
  · exact congrArg _ (if_pos hcommit)
  · have hexec : exec .descTakeEffect s = .next (((s.descGiven l d).descResult 1).raise Src.trc 4 l) := by
      rw [← State.descTakeEffect_due hchange hk]
      exact congrArg _ (if_neg (by rw [hcommit]; exact Bool.false_ne_true))
    obtain ⟨hdesc, hoff, hstay, hwarm⟩ := State.giveDesc_effect hcan.loops l d
    have hregs : RegsCanonical (s.descGiven l d) := by
      have hsame : (s.descGiven l d).regs = s.regs := State.giveDesc_frame s false l d .regs (by decide)
      rw [RegsCanonical, hsame]
      exact hcan.regs
    have hloop := s.loop_descGiven l d
    refine ⟨_, hexec, ?_, ?_, ?_, ?_, ?_, ?_, State.field_setField_self hregs _ _ (by decide),
      List.mem_append_right _ (List.mem_singleton.2 rfl), fun m hm => (hloop m).trans (State.loop_giveDesc_ne s _ _ hm), exec_frame _ _ _ hexec⟩
    · rw [hloop]
      exact hdesc
    · exact congrArg Engine.change (s.eng_descGiven l d)
    · exact congrArg Engine.edits (s.eng_descGiven l d)
    · rw [hloop]
      exact hoff
    · rw [hloop]
      exact hstay
    · rw [hloop]
      exact hwarm
  · have hstay : s.descTakeEffect = s := by
      unfold State.descTakeEffect
      rw [hchange]
      exact if_neg (Nat.not_le.2 hk)
    have hexec : exec .descTakeEffect s = .next (if s.commitDue then s else s.descTakeEffect) := rfl
    rw [hexec, hstay, ite_self]

end Sys2Proof.Machine
end

-- Set-point inputs and trace channels -----------------------------------------------------------------------------------------
section
/-! O39: set-point inputs, and trace rings in a Hall, with the facts about bytes written to and read from the addressed RAM. -/
namespace Sys2Proof.Machine

-- Bytes of the addressed RAM

@[simp] theorem leBytes_length (n v : Nat) : (leBytes n v).length = n := by
  induction n generalizing v with
  | zero => rfl
  | succ n ih => simp [leBytes, ih]

theorem leNat_leBytes (n v : Nat) : leNat (leBytes n v) = v % 2 ^ (8 * n) := by
  induction n generalizing v with
  | zero => simp [leBytes, leNat, Nat.mod_one]
  | succ n ih =>
    have hpow : 2 ^ (8 * (n + 1)) = 2 ^ 8 * 2 ^ (8 * n) := (congrArg (2 ^ ·) (by omega)).trans (Nat.pow_add 2 8 (8 * n))
    rw [leBytes, leNat, ih, BitVec.toNat_ofNat, hpow]
    exact Nat.mod_mul.symm

theorem State.readBytes_congr {s t : State} {a n : Nat} (h : ∀ k, k < n → t.readByte (a + k) = s.readByte (a + k)) :
    t.readBytes a n = s.readBytes a n := by
  unfold State.readBytes tgetList span
  rw [List.map_map, List.map_map]
  exact List.map_congr_left fun k hk => h k (List.mem_range.1 hk)

/-- What was written to memory reads back. -/
theorem State.readBytes_writeBytes {s : State} (h : Memory.wf s.ram = true) (a : Nat) {o n : Nat} {l : List Byte} (hn : o + n ≤ l.length) :
    (s.writeBytes a l).readBytes (a + o) n = bytesAt l o n := by
  unfold State.readBytes tgetList span bytesAt
  refine List.ext_getElem (by simp; omega) fun k hk _ => ?_
  have hlt : k < n := by simpa using hk
  have hbyte := State.readByte_writeBytes_at h a (o + k) l (by omega)
  rw [← Nat.add_assoc] at hbyte
  simpa [State.readByte] using hbyte

/-- A number read from a Hall after a write that covers it. -/
theorem State.hallNat_hallWrite {s : State} (h : Memory.wf s.ram = true) (seat off : Nat) {o n : Nat} {l : List Byte}
    (hn : o + n ≤ l.length) : (s.hallWrite seat off l).hallNat seat (off + o) n = fieldAt l o n := by
  have hread := State.readBytes_writeBytes h (hallBase seat + off) hn
  rw [Nat.add_assoc] at hread
  exact congrArg leNat hread

/-- A number within bytes that spell it after a prefix of the length of its offset. -/
theorem fieldAt_middle {l a c : List Byte} {o n v : Nat} (hl : l = a ++ leBytes n v ++ c) (ho : a.length = o) :
    fieldAt l o n = v % 2 ^ (8 * n) := by
  rw [← leNat_leBytes, fieldAt, bytesAt, hl, ← ho, List.append_assoc, List.drop_left,
    List.take_append_of_le_length (by simp), List.take_of_length_le (by simp)]

/-- A number read from a Hall is that of its bytes. -/
theorem State.hallNat_congr {s t : State} {seat off n : Nat}
    (h : ∀ k, k < n → t.readByte (hallBase seat + off + k) = s.readByte (hallBase seat + off + k)) :
    t.hallNat seat off n = s.hallNat seat off n := congrArg leNat (State.readBytes_congr h)

-- Samples in a ring

/-- The place in memory of the sample with count `i`. -/
def Channel.slotAt (c : Channel) (i : Nat) : Nat := hallBase c.seat + (c.off + 4096 + 8 * (i % c.capacity))

theorem Channel.capacity_pos (c : Channel) : 0 < c.capacity := Nat.two_pow_pos _

theorem Channel.slotAt_in (c : Channel) (i : Nat) :
    hallBase c.seat + c.off + 4096 ≤ c.slotAt i ∧ c.slotAt i + 8 ≤ hallBase c.seat + c.off + ringBytes c.sizeLog2 := by
  have hmod := Nat.mod_lt i c.capacity_pos
  unfold Channel.slotAt ringBytes
  unfold Channel.capacity at hmod ⊢
  omega

/-- Two counts that differ by less than the capacity have places of their own. -/
theorem Channel.slotAt_apart (c : Channel) {i j : Nat} (hij : i < j) (hcap : j < i + c.capacity) :
    c.slotAt i + 8 ≤ c.slotAt j ∨ c.slotAt j + 8 ≤ c.slotAt i := by
  have hne : i % c.capacity ≠ j % c.capacity := by
    intro heq
    have hdvd : c.capacity ∣ j - i := Nat.dvd_of_mod_eq_zero (Nat.sub_mod_eq_zero_of_mod_eq heq.symm)
    have := Nat.le_of_dvd (by omega) hdvd
    omega
  unfold Channel.slotAt
  omega

theorem State.ringSample_wf {s : State} (h : Memory.wf s.ram = true) (c : Channel) (i : Nat) (w : Word) :
    Memory.wf (s.ringSample c i w).ram = true := Memory.wf_writeBytes h _ _

theorem State.ringSamples_wf (c : Channel) (ws : List Word) {s : State} (h : Memory.wf s.ram = true) (i : Nat) :
    Memory.wf (s.ringSamples c i ws).ram = true := by
  induction ws generalizing s i with
  | nil => exact h
  | cons w ws ih => exact ih (State.ringSample_wf h c i w) (i + 1)

/-- A byte outside the places of the samples is as before. -/
theorem State.ringSamples_readByte_ne (c : Channel) (ws : List Word) (s : State) (i a : Nat)
    (h : ∀ k, k < ws.length → a < c.slotAt (i + k) ∨ c.slotAt (i + k) + 8 ≤ a) :
    (s.ringSamples c i ws).readByte a = s.readByte a := by
  induction ws generalizing s i with
  | nil => rfl
  | cons w ws ih =>
    refine (ih _ (i + 1) fun k hk => ?_).trans ?_
    · have hnext := h (k + 1) (by simpa using hk)
      rwa [show i + (k + 1) = i + 1 + k by omega] at hnext
    · exact State.readByte_writeBytes_ne _ _ _ _ (by rw [leBytes_length]; exact h 0 (Nat.succ_pos _))

/-- Each of at most a ring's capacity of samples is read back. -/
theorem State.ringSamples_hallNat (c : Channel) (ws : List Word) {s : State} (h : Memory.wf s.ram = true) (i : Nat)
    (hcap : ws.length ≤ c.capacity) {k : Nat} {w : Word} (hk : ws[k]? = some w) :
    (s.ringSamples c i ws).hallNat c.seat (c.off + 4096 + 8 * ((i + k) % c.capacity)) 8 = w.toNat := by
  induction ws generalizing s i k with
  | nil => simp at hk
  | cons v ws ih =>
    have hlen : ws.length + 1 ≤ c.capacity := hcap
    have hwf := State.ringSample_wf h c i v
    cases k with
    | succ k =>
      have hrest := ih hwf (i + 1) (by omega) (k := k) (by simpa using hk)
      rwa [show i + 1 + k = i + (k + 1) by omega] at hrest
    | zero =>
      obtain rfl : v = w := by simpa using hk
      have hkept : (s.ringSamples c i (v :: ws)).hallNat c.seat (c.off + 4096 + 8 * (i % c.capacity)) 8
          = (s.ringSample c i v).hallNat c.seat (c.off + 4096 + 8 * (i % c.capacity)) 8 := by
        refine State.hallNat_congr fun b hb => State.ringSamples_readByte_ne c ws _ (i + 1) _ fun j hj => ?_
        have hapart := c.slotAt_apart (i := i) (j := i + 1 + j) (by omega) (by omega)
        unfold Channel.slotAt at hapart ⊢
        omega
      have hread := State.hallNat_hallWrite h c.seat (c.off + 4096 + 8 * (i % c.capacity)) (o := 0) (n := 8) (l := leBytes 8 v.toNat)
        (by simp)
      refine hkept.trans (hread.trans ?_)
      have hall : fieldAt (leBytes 8 v.toNat) 0 8 = leNat (leBytes 8 v.toNat) := by
        rw [fieldAt, bytesAt, List.drop_zero, List.take_of_length_le (by simp)]
      rw [hall, leNat_leBytes]
      exact Nat.mod_eq_of_lt v.isLt

-- The header of a ring

theorem Channel.header_length (ch : Nat) (c : Channel) : (c.header ch).length = 64 := by simp [Channel.header]

theorem Channel.header_magic (ch : Nat) (c : Channel) : fieldAt (c.header ch) 0 4 = 0x434E5254 := by
  have hsplit : ∃ e, c.header ch = [] ++ leBytes 4 0x434E5254 ++ e :=
    ⟨_, by simp only [Channel.header, List.append_assoc, List.nil_append]; rfl⟩
  obtain ⟨e, he⟩ := hsplit
  exact fieldAt_middle he rfl

theorem Channel.header_writeIdx (ch : Nat) (c : Channel) : fieldAt (c.header ch) 24 8 = c.writeIdx % 2 ^ 64 := by
  have hsplit : ∃ e, c.header ch = (leBytes 4 0x434E5254 ++ leBytes 2 1 ++ [BitVec.ofNat 8 ch, BitVec.ofNat 8 c.node] ++ leBytes 2 c.loopIx
      ++ [BitVec.ofNat 8 c.sizeLog2, BitVec.ofNat 8 c.state] ++ leBytes 4 c.period ++ leBytes 8 c.armFrame) ++ leBytes 8 c.writeIdx ++ e :=
    ⟨_, by simp only [Channel.header, List.append_assoc]; rfl⟩
  obtain ⟨e, he⟩ := hsplit
  exact fieldAt_middle he (by simp)

/-- The channel after a batch (R220). -/
def Channel.written (c : Channel) (n : Nat) : Channel :=
  { c with staged := c.staged.drop n, writeIdx := c.writeIdx + (c.staged.take n).length, seq := (c.seq + 2) % 2 ^ 32 }

/-- The state a batch leaves: its samples, the page of the header cleared, and the header (R219, R220). -/
def State.batchWritten (s : State) (ch n : Nat) : State :=
  ((((s.ringSamples (s.chan ch) (s.chan ch).writeIdx ((s.chan ch).staged.take n)).updChan ch fun _ => (s.chan ch).written n).zeroBytes
    (hallBase (s.chan ch).seat + (s.chan ch).off) 4096).hallWrite (s.chan ch).seat (s.chan ch).off (((s.chan ch).written n).header ch))

theorem exec_traceWrite_batch {s : State} {c : BitVec 6} {n : BitVec 14} (hstate : (s.chan c.toNat).state ≠ 0)
    (hbatch : (s.chan c.toNat).staged.take n.toNat ≠ []) : exec (.traceWrite c n) s = .next (s.batchWritten c.toNat n.toNat) :=
  if_neg fun h => h.elim hstate fun hempty => hbatch (List.isEmpty_iff.1 hempty)

theorem State.channels_batchWritten (s : State) (ch n : Nat) :
    (s.batchWritten ch n).eng.channels = tupd (fun _ => {}) s.eng.channels ch fun _ => (s.chan ch).written n := by
  have hsamples := State.ringSamples_frame s (s.chan ch) (s.chan ch).writeIdx ((s.chan ch).staged.take n) .eng (by decide)
  rw [State.batchWritten, State.hallWrite_frame _ _ _ _ .eng (by decide), State.zeroBytes_frame _ _ _ .eng (by decide), State.updChan, hsamples]

theorem State.chan_batchWritten {s : State} (h : twf (fun _ => ({} : Channel)) s.eng.channels = true) (ch n : Nat) :
    (s.batchWritten ch n).chan ch = (s.chan ch).written n := by
  rw [State.chan, State.channels_batchWritten, tget_tupd_self h]

theorem State.chan_batchWritten_ne (s : State) {ch k : Nat} (n : Nat) (hk : k ≠ ch) : (s.batchWritten ch n).chan k = s.chan k := by
  rw [State.chan, State.channels_batchWritten, tget_tupd_ne _ _ hk, State.chan]

/-- Past its header a ring holds the samples. -/
theorem State.readByte_batchWritten_past (s : State) (ch n : Nat) {a : Nat} (ha : hallBase (s.chan ch).seat + (s.chan ch).off + 4096 ≤ a) :
    (s.batchWritten ch n).readByte a
      = (s.ringSamples (s.chan ch) (s.chan ch).writeIdx ((s.chan ch).staged.take n)).readByte a := by
  refine (State.readByte_writeBytes_ne _ _ _ _ (Or.inr ?_)).trans ((State.readByte_zeroBytes _ _ _ _).trans (if_neg (by omega)))
  rw [Channel.header_length]
  omega

/-- The rest of the header's page is cleared. -/
theorem State.readByte_batchWritten_rest (s : State) (ch n : Nat) {k : Nat} (h64 : 64 ≤ k) (hk : k < 4096) :
    (s.batchWritten ch n).readByte (hallBase (s.chan ch).seat + (s.chan ch).off + k) = 0 := by
  refine (State.readByte_writeBytes_ne _ _ _ _ (Or.inr ?_)).trans ((State.readByte_zeroBytes _ _ _ _).trans (if_pos (by omega)))
  rw [Channel.header_length]
  omega

/-- Nothing outside the ring changes. -/
theorem State.readByte_batchWritten_outside (s : State) (ch n : Nat) {a : Nat} (ha : a < hallBase (s.chan ch).seat + (s.chan ch).off
      ∨ hallBase (s.chan ch).seat + (s.chan ch).off + ringBytes (s.chan ch).sizeLog2 ≤ a) :
    (s.batchWritten ch n).readByte a = s.readByte a := by
  have hring : 4096 ≤ ringBytes (s.chan ch).sizeLog2 := Nat.le_add_right _ _
  have hsamples := State.ringSamples_readByte_ne (s.chan ch) ((s.chan ch).staged.take n) s (s.chan ch).writeIdx a fun k _ => by
    have := (s.chan ch).slotAt_in ((s.chan ch).writeIdx + k)
    omega
  refine (State.readByte_writeBytes_ne _ _ _ _ ?_).trans ((State.readByte_zeroBytes _ _ _ _).trans ((if_neg (by omega)).trans hsamples))
  rw [Channel.header_length]
  omega

/-- A number of the header that a batch leaves. -/
theorem State.hallNat_batchWritten_header {s : State} (h : Memory.wf s.ram = true) (ch n : Nat) {o m : Nat} (hm : o + m ≤ 64) :
    (s.batchWritten ch n).hallNat (s.chan ch).seat ((s.chan ch).off + o) m = fieldAt (((s.chan ch).written n).header ch) o m :=
  State.hallNat_hallWrite (Memory.wf_zeroBytes (s := (s.ringSamples (s.chan ch) (s.chan ch).writeIdx ((s.chan ch).staged.take n)).updChan ch _)
    (State.ringSamples_wf _ _ h _) _ _) _ _ (by rw [Channel.header_length]; exact hm)

/-- Settles O39. -/
theorem inputsAndTraces : Obligations.InputsAndTraces := by
  intro s hcan
  refine ⟨fun i up hmode => ?_, fun i h p hmode hp hh => ?_, fun i hmode hstale => ?_, fun c => ⟨?_, ?_⟩, fun c n hstate hbatch hcap => ?_⟩
  · have hexec : exec (.stepEdge i up) s = .next (s.updSpIn i.toNat fun x =>
        { x with count := signed 32 (twos 32 (x.count + if up then 1 else -1)) }) := if_pos hmode
    exact ⟨_, hexec, State.spIn_updSpIn_self hcan.inputs _ _, fun k => State.spIn_updSpIn_ne s _, rfl, exec_frame _ _ _ hexec⟩
  · have hpos : 0 < p.toNat := by bv_omega
    have hexec : exec (.pwmPeriod i h p) s = .next (s.updSpIn i.toNat fun x =>
        { x with high := h.toNat, period := p.toNat, fresh := true, stale := false, nowStale := false }) := if_pos ⟨hmode, hpos, hh⟩
    exact ⟨_, hexec, State.spIn_updSpIn_self hcan.inputs _ _, fun k => State.spIn_updSpIn_ne s _, rfl, exec_frame _ _ _ hexec⟩
  · have hexec : exec (.pwmStale i) s = .next ((s.updSpIn i.toNat fun x => { x with stale := true, fresh := false, nowStale := true }).raise
        Src.trc 0 i.toNat) := if_pos ⟨hmode, by rw [hstale]; rfl⟩
    exact ⟨_, hexec, State.spIn_updSpIn_self hcan.inputs _ _, List.mem_append_right _ (List.mem_singleton.2 rfl),
      fun k => State.spIn_updSpIn_ne s _, (exec_frame _ _ _ hexec).mono (by simp [touches])⟩
  · have hexec : exec (.traceArm c) s = .next (s.updChan c.toNat fun x => { x with armNow := true }) := rfl
    exact ⟨_, hexec, State.chan_updChan_self hcan.channels _ _, fun k => State.chan_updChan_ne s _, exec_frame _ _ _ hexec⟩
  · have hexec : exec (.trigNow c) s = .next (s.updChan c.toNat fun x => { x with trigNow := true }) := rfl
    exact ⟨_, hexec, State.chan_updChan_self hcan.channels _ _, fun k => State.chan_updChan_ne s _, exec_frame _ _ _ hexec⟩
  · have hexec := exec_traceWrite_batch hstate hbatch
    have hchan := State.chan_batchWritten hcan.channels c.toNat n.toNat
    refine ⟨_, hexec, by rw [hchan]; rfl, by rw [hchan]; rfl, fun k w hk => ?_, ?_, ?_, fun k => State.readByte_batchWritten_rest s _ _,
      fun a => State.readByte_batchWritten_outside s _ _, fun k => State.chan_batchWritten_ne s _, (exec_frame _ _ _ hexec).mono (by simp [touches])⟩
    · refine (State.hallNat_congr fun b _ => State.readByte_batchWritten_past s _ _ (by omega)).trans ?_
      exact State.ringSamples_hallNat _ _ hcan.ram _ (Nat.le_trans (List.length_take_le _ _) hcap) hk
    · exact (State.hallNat_batchWritten_header hcan.ram c.toNat n.toNat (o := 0) (by decide)).trans (Channel.header_magic _ _)
    · rw [State.hallNat_batchWritten_header hcan.ram c.toNat n.toNat (by decide), Channel.header_writeIdx, hchan]

end Sys2Proof.Machine
end

-- Moves ------------------------------------------------------------------------------------------------------------------------
section
/-! O40: orders for moves, aborts, and the twin's schedules; how an operation changes one move. -/
namespace Sys2Proof.Machine

-- One move of the list

theorem State.move?_updMove (s : State) (id k : Nat) (f : Move → Move) :
    (s.updMove id f).move? k = if k = id then (s.move? k).map f else s.move? k := by
  unfold State.move? State.updMove
  dsimp only
  induction s.mov.moves with
  | nil => simp
  | cons e l ih =>
    rw [List.map_cons, List.find?_cons, List.find?_cons]
    have hkey : (if e.1 = id then (e.1, f e.2) else e).1 = e.1 := by split <;> rfl
    rw [hkey]
    by_cases hk : e.1 = k
    · subst hk
      simp only [decide_true, Option.map_some]
      split <;> rfl
    · simp only [hk, decide_false]
      exact ih

/-- From `s` to `t` only the move `id` changes, as `R` says, and no service. -/
structure MoveTo (id : Nat) (R : Move → Move → Prop) (s t : State) : Prop where
  others  : ∀ i, i ≠ id → t.move? i = s.move? i
  own     : ∀ m, s.move? id = some m → ∃ m', t.move? id = some m' ∧ R m m'
  service : t.mov.service = s.mov.service

section
variable {id : Nat} {R S T : Move → Move → Prop} {s t u : State}

theorem MoveTo.refl (hR : ∀ m, R m m) (s : State) : MoveTo id R s s := ⟨fun _ _ => rfl, fun m h => ⟨m, h, hR m⟩, rfl⟩

theorem MoveTo.trans (h : MoveTo id R s t) (k : MoveTo id S t u) (hT : ∀ a b c, R a b → S b c → T a c) : MoveTo id T s u := by
  refine ⟨fun i hi => (k.others i hi).trans (h.others i hi), fun a ha => ?_, k.service.trans h.service⟩
  obtain ⟨b, hb, hab⟩ := h.own a ha
  obtain ⟨c, hc, hbc⟩ := k.own b hb
  exact ⟨c, hc, hT a b c hab hbc⟩

theorem MoveTo.imp (h : MoveTo id R s t) (hR : ∀ a b, R a b → S a b) : MoveTo id S s t :=
  ⟨h.others, fun m hm => (h.own m hm).imp fun _ hb => ⟨hb.1, hR _ _ hb.2⟩, h.service⟩

/-- What leaves the moves and the services alone may follow. -/
theorem MoveTo.after (h : MoveTo id R s t) (k : MoveTo id Eq t u) : MoveTo id R s u := h.trans k fun _ _ _ hab hbc => hbc ▸ hab

theorem MoveTo.before (k : MoveTo id Eq s t) (h : MoveTo id R t u) : MoveTo id R s u := k.trans h fun _ _ _ hab hbc => hab ▸ hbc

theorem MoveTo.of_moves (hmoves : t.mov.moves = s.mov.moves) (hservice : t.mov.service = s.mov.service) : MoveTo id Eq s t := by
  have hmove : ∀ i, t.move? i = s.move? i := fun i => by unfold State.move?; rw [hmoves]
  exact ⟨fun i _ => hmove i, fun m hm => ⟨m, (hmove id).trans hm, rfl⟩, hservice⟩

theorem SameBut.moveTo {l : List Part} (h : SameBut l s t) (hl : .mov ∉ l) : MoveTo id Eq s t := by
  have hmov : t.mov = s.mov := h .mov hl
  exact .of_moves (by rw [hmov]) (by rw [hmov])

theorem MoveTo.foldl {α : Type} {f : State → α → State} (hR : ∀ m, R m m) (htrans : ∀ a b c, R a b → R b c → R a c)
    (hf : ∀ a u, MoveTo id R u (f u a)) (l : List α) (s : State) : MoveTo id R s (l.foldl f s) := by
  induction l generalizing s with
  | nil => exact .refl hR s
  | cons a l ih => exact (hf a s).trans (ih _) htrans

end

theorem State.updMove_moveTo {id : Nat} {R : Move → Move → Prop} {f : Move → Move} (hf : ∀ m, R m (f m)) (s : State) :
    MoveTo id R s (s.updMove id f) := by
  refine ⟨fun i hi => by rw [State.move?_updMove, if_neg hi], fun m hm => ⟨f m, ?_, hf m⟩, rfl⟩
  rw [State.move?_updMove, if_pos rfl, hm]
  rfl

theorem State.updPath_moveTo (s : State) (id inp : Nat) (f : PathRec → PathRec) : MoveTo id Eq s (s.updPath inp f) := .of_moves rfl rfl

theorem State.recPath_moveTo (s : State) (id k inp : Nat) (st : PathState) (reason : Nat) : MoveTo id Eq s (s.recPath k inp st reason) := by
  unfold State.recPath
  split
  · exact .of_moves rfl rfl
  · exact .refl (fun _ => rfl) s

-- Paths that close, and moves that end

/-- From `m` to `m'` paths close for the reason `r`, among them those with an input port in `l`; no path opens. -/
structure Move.Closes (r : Nat) (l : List Nat) (m m' : Move) : Prop where
  isOpen  : ∀ p ∈ m'.paths, p.state = 0 → p ∈ m.paths ∧ p.inp ∉ l
  reason  : m'.reason = m.reason ∨ (m.reason = 0 ∧ m'.reason = r)
  holds   : m'.holds = m.holds
  missed  : m'.missed = m.missed
  started : m'.tStart = m.tStart
  conns   : m'.conns = m.conns

theorem Move.Closes.refl (r : Nat) (m : Move) : m.Closes r [] m :=
  ⟨fun _ hp _ => ⟨hp, List.not_mem_nil⟩, Or.inl rfl, rfl, rfl, rfl, rfl⟩

theorem Move.Closes.trans {r : Nat} {l k : List Nat} {a b c : Move} (h : a.Closes r l b) (g : b.Closes r k c) : a.Closes r (l ++ k) c := by
  refine ⟨fun p hp h0 => ?_, ?_, g.holds.trans h.holds, g.missed.trans h.missed, g.started.trans h.started, g.conns.trans h.conns⟩
  · obtain ⟨hb, hk⟩ := g.isOpen p hp h0
    obtain ⟨ha, hl⟩ := h.isOpen p hb h0
    exact ⟨ha, fun hmem => (List.mem_append.1 hmem).elim hl hk⟩
  · have hr := h.reason
    have hg := g.reason
    omega

theorem Move.Closes.trans_nil {r : Nat} {a b c : Move} (h : a.Closes r [] b) (g : b.Closes r [] c) : a.Closes r [] c := h.trans g

/-- The reason that a move keeps or takes. -/
theorem Move.reason_taken (m : Move) (r : Nat) :
    (if m.reason = 0 then r else m.reason) = m.reason ∨ (m.reason = 0 ∧ (if m.reason = 0 then r else m.reason) = r) := by
  by_cases h : m.reason = 0
  · exact Or.inr ⟨h, if_pos h⟩
  · exact Or.inl (if_neg h)

theorem State.closePath_moveTo (s : State) (id i : Nat) {code : Nat} (hcode : code ≠ 0) (st : PathState) (r : Nat) :
    MoveTo id (Move.Closes r [i]) s (s.closePath id i code st r) := by
  unfold State.closePath
  refine (State.updMove_moveTo (fun m => ⟨fun p hp h0 => ?_, m.reason_taken r, rfl, rfl, rfl, rfl⟩) s).after
    (State.recPath_moveTo _ _ _ _ _ _)
  obtain ⟨q, hq, rfl⟩ := List.mem_map.1 hp
  split at h0
  · exact absurd h0 hcode
  next hne => rw [if_neg hne]; exact ⟨hq, fun hmem => hne (List.mem_singleton.1 hmem)⟩

theorem State.closePaths_moveTo (id : Nat) {code : Nat} (hcode : code ≠ 0) (st : PathState) (r : Nat) (l : List Nat) (s : State) :
    MoveTo id (Move.Closes r l) s (State.each l (fun i s => s.closePath id i code st r) s) := by
  induction l generalizing s with
  | nil => exact .refl (Move.Closes.refl r) s
  | cons i l ih => exact (s.closePath_moveTo id i hcode st r).trans (ih _) fun _ _ _ => Move.Closes.trans

/-- The move as its end leaves it (R228). -/
def Move.endAs (st : MoveState) (reason tick : Nat) (m : Move) : Move :=
  { m with
    state := st, tEnd := tick, planning := false, reason := if m.reason = 0 then reason else m.reason
    mirrors := m.mirrors.map fun p => if m.tStart = 0 ∧ st = .aborted then { p with abortedM := true } else p }

theorem Move.endAs_closes (st : MoveState) {reason r : Nat} (tick : Nat) (m : Move) (hr : reason = r ∨ reason = m.reason) :
    m.Closes r [] (m.endAs st reason tick) := by
  refine ⟨fun p hp _ => ⟨hp, List.not_mem_nil⟩, ?_, rfl, rfl, rfl, rfl⟩
  rcases hr with rfl | rfl
  · exact m.reason_taken reason
  · exact Or.inl (ite_self _)

theorem State.endMove_moveTo (s : State) (id : Nat) (st : MoveState) (reason tick : Nat) :
    MoveTo id (fun m m' => m' = m.endAs st reason tick) s (s.endMove id st reason tick) := by
  unfold State.endMove
  dsimp only
  exact ((State.updMove_moveTo (R := fun m m' => m' = m.endAs st reason tick) (f := Move.endAs st reason tick) (fun _ => rfl) s).after
    ((State.stateNotice_frame _ _ _ _).moveTo (by decide))).after ((State.moveEvt_frame _ _ _ _).moveTo (by decide))

theorem State.endIfComplete_moveTo (s : State) (id tick r : Nat) : MoveTo id (Move.Closes r []) s (s.endIfComplete id tick) := by
  unfold State.endIfComplete
  split
  next m hm =>
    split
    · refine ⟨(s.endMove_moveTo id m.outcome m.reason tick).others, fun x hx => ?_, (s.endMove_moveTo id m.outcome m.reason tick).service⟩
      obtain rfl : m = x := Option.some.inj (hm.symm.trans hx)
      obtain ⟨m', hm', rfl⟩ := (s.endMove_moveTo id m.outcome m.reason tick).own m hm
      exact ⟨_, hm', Move.endAs_closes _ _ _ (Or.inr rfl)⟩
    · exact .refl (Move.Closes.refl r) s
  · exact .refl (Move.Closes.refl r) s

/-- No path of a move is open but those whose service it leaves untouched. -/
def Move.Settled (s : State) (m : Move) : Prop := ∀ p ∈ m.paths, p.state = 0 → (s.service p.inp).out = p.out

/-- A move whose new open paths are closed has none open but those that it leaves in service. -/
theorem Move.Closes.settled {s : State} {r : Nat} {l : List Nat} {m m' : Move} (h : m.Closes r l m')
    (hl : ∀ p ∈ s.openNew m, p.inp ∈ l) : m'.Settled s := by
  intro p hp h0
  obtain ⟨hm, hnot⟩ := h.isOpen p hp h0
  refine Classical.byContradiction fun hne => ?_
  exact hnot (hl p (List.mem_filter.2 ⟨List.mem_filter.2 ⟨hm, decide_eq_true h0⟩, decide_eq_true hne⟩))

theorem State.openNew_congr {s t : State} (h : t.mov.service = s.mov.service) (m : Move) : t.openNew m = s.openNew m := by
  unfold State.openNew State.service
  rw [h]

-- Aborts

theorem State.abortMirror_moveTo (s : State) (id r : Nat) (p : MirrorPlan) : MoveTo id (Move.Closes r []) s (s.abortMirror id p) := by
  have hmirror : ∀ u : State, MoveTo id (Move.Closes r []) u (u.updMirror id p.mirror fun q => { q with abortedM := !q.arrived || q.parked }) :=
    fun u => State.updMove_moveTo (fun m => ⟨fun _ hp _ => ⟨hp, List.not_mem_nil⟩, Or.inl rfl, rfl, rfl, rfl, rfl⟩) u
  unfold State.abortMirror
  dsimp only
  split
  · exact MoveTo.before ((State.each_frame _ _ s fun _ u => u.stopLoop_frame _).moveTo (by decide)) (hmirror _)
  · exact hmirror s

/-- What an abort for `reason` makes of the move (R245 to R247). -/
structure Move.Aborted (s : State) (reason tick : Nat) (m m' : Move) : Prop where
  settled : m'.Settled s
  missed  : m'.missed = m.missed
  ended   : m.tStart = 0 → m'.state = .aborted ∧ m'.tEnd = tick

theorem State.abortMove_moveTo (s : State) (id reason tick : Nat) :
    MoveTo id (Move.Aborted s reason tick) s (s.abortMove id reason tick) := by
  cases hm : s.move? id with
  | none =>
    have hsame : s.abortMove id reason tick = s := by unfold State.abortMove; rw [hm]
    rw [hsame]
    exact ⟨fun _ _ => rfl, fun m h => absurd (hm.symm.trans h) (by simp), rfl⟩
  | some m =>
    let u := m.openMirrors.foldl (fun s p => s.abortMirror id p) s
    let l := (u.openNew m).map (·.inp)
    let v := (State.each l (fun i s => s.closePath id i 3 .aborted reason) u).updMove id fun x =>
      { x with reason := if x.reason = 0 then reason else x.reason }
    have habort : s.abortMove id reason tick = if m.tStart = 0 then v.endMove id .aborted reason tick else v.endIfComplete id tick := by
      unfold State.abortMove
      rw [hm]
    have hreason : ∀ w : State, MoveTo id (Move.Closes reason []) w
        (w.updMove id fun x => { x with reason := if x.reason = 0 then reason else x.reason }) := fun w =>
      State.updMove_moveTo (fun x => ⟨fun _ hp _ => ⟨hp, List.not_mem_nil⟩, x.reason_taken reason, rfl, rfl, rfl, rfl⟩) w
    have hu : MoveTo id (Move.Closes reason []) s u :=
      .foldl (Move.Closes.refl _) (fun _ _ _ => Move.Closes.trans_nil) (fun p w => w.abortMirror_moveTo id reason p) _ s
    have hv : MoveTo id (Move.Closes reason l) s v :=
      (hu.trans (State.closePaths_moveTo id (by decide) _ _ _ _) fun _ _ _ => Move.Closes.trans).trans (hreason _)
        fun _ _ _ h k => by simpa using h.trans k
    have hnew : ∀ p ∈ s.openNew m, p.inp ∈ l := fun p hp =>
      List.mem_map_of_mem (by rw [State.openNew_congr hu.service]; exact hp)
    have hown : ∀ x, s.move? id = some x → x = m := fun x hx => Option.some.inj (hx.symm.trans hm)
    rw [habort]
    by_cases hstart : m.tStart = 0
    · rw [if_pos hstart]
      have hend := v.endMove_moveTo id .aborted reason tick
      refine ⟨fun i hi => (hend.others i hi).trans (hv.others i hi), fun x hx => ?_, hend.service.trans hv.service⟩
      obtain rfl := hown x hx
      obtain ⟨m₁, hm₁, hclosed⟩ := hv.own x hx
      obtain ⟨m', hm', rfl⟩ := hend.own m₁ hm₁
      exact ⟨_, hm', fun p hp h0 => hclosed.settled hnew p hp h0, hclosed.missed, fun _ => ⟨rfl, rfl⟩⟩
    · rw [if_neg hstart]
      have hend := v.endIfComplete_moveTo id tick reason
      refine ⟨fun i hi => (hend.others i hi).trans (hv.others i hi), fun x hx => ?_, hend.service.trans hv.service⟩
      obtain rfl := hown x hx
      obtain ⟨m₁, hm₁, hclosed⟩ := hv.own x hx
      obtain ⟨m', hm', hlast⟩ := hend.own m₁ hm₁
      have hall := hclosed.trans hlast
      exact ⟨m', hm', hall.settled fun p hp => List.mem_append_left _ (hnew p hp), hall.missed, fun h0 => absurd h0 hstart⟩

-- Orders

/-- The state in which an order has taken the next number. -/
def State.numberTaken (s : State) : State := { s with mov := { s.mov with nextId := s.mov.nextId + 1 } }

/-- A tick of an order's body, given as a tick or as a device time (R40, R226). -/
def State.orderTick (s : State) (o : TakenOrder) (off : Nat) : Nat :=
  if decide (o.num 10 2 / 8 % 2 = 1) && decide (o.num off 8 ≠ 0) then s.tickOfNs (o.num off 8) else o.num off 8

/-- A device time of an order's body (R40, R226). -/
def TakenOrder.deviceTime (o : TakenOrder) (off : Nat) : Option Nat :=
  if decide (o.num 10 2 / 8 % 2 = 1) && decide (o.num off 8 ≠ 0) then some (o.num off 8) else none

/-- The connections that an order lists. -/
def State.orderConns (s : State) (o : TakenOrder) : List (Nat × Nat) := if o.moveFormat then s.moveList o else []

/-- The move that an order asks for, under the number `id` (R226, R227). -/
def State.orderedMove (s : State) (o : TakenOrder) (id : Nat) : Move :=
  { id := id, tag := o.num 0x20 4, seat := o.seat, strict := decide (o.num 10 2 % 2 = 1), blind := decide (o.num 10 2 / 2 % 2 = 1)
    abortDl := decide (o.num 10 2 / 4 % 2 = 1), startAt := s.orderTick o 0x10, deadline := s.orderTick o 0x18, conns := s.orderConns o
    startNs := o.deviceTime 0x10, deadlineNs := o.deviceTime 0x18
    paths := ((s.orderConns o).filter fun c => c.2 ≠ disconnect).map fun c => { inp := c.1, out := c.2 }
    tTakeup := o.taken }

/-- The move in the list, and its notice. -/
def State.moveAccepted (s : State) (o : TakenOrder) : State :=
  ({ s.numberTaken with mov := { s.numberTaken.mov with moves := s.mov.moves ++ [(s.mov.nextId, s.orderedMove o s.mov.nextId)] } }).moveNotice
    (s.orderedMove o s.mov.nextId) MoveEvent.accepted 0 0 0xFFFF 0xFFFF o.taken

theorem State.moveCheck_numberTaken (s : State) (o : TakenOrder) (conns : List (Nat × Nat)) (dl k : Nat) :
    s.numberTaken.moveCheck o conns dl k = s.moveCheck o conns dl k := rfl

/-- An order that passes its checks is well formed (R227). -/
theorem State.moveFormat_of_check {s : State} {o : TakenOrder} {conns : List (Nat × Nat)} {dl k : Nat} (h : s.moveCheck o conns dl k = 0) :
    o.moveFormat = true := by
  refine Classical.byContradiction fun hbad => ?_
  unfold State.moveCheck at h
  split at h
  · exact absurd h (by decide)
  · rw [if_pos (by simpa using hbad)] at h
    exact absurd h (by decide)

theorem State.takeMove_accepted {s : State} {o : TakenOrder} (h : s.moveCheck o (s.orderConns o) (s.orderTick o 0x18) o.taken = 0) :
    s.takeMove o = (s.moveAccepted o).settle o 0 s.mov.nextId := by
  rw [← State.moveCheck_numberTaken] at h
  exact if_pos h

theorem State.takeMove_refused {s : State} {o : TakenOrder} (h : s.moveCheck o (s.orderConns o) (s.orderTick o 0x18) o.taken ≠ 0) :
    s.takeMove o = ((s.numberTaken.moveNotice { s.orderedMove o s.mov.nextId with paths := [] } MoveEvent.refused 0
        (s.moveCheck o (s.orderConns o) (s.orderTick o 0x18) o.taken) 0xFFFF 0xFFFF o.taken).raise Src.mov 1 s.mov.nextId
          (s.moveCheck o (s.orderConns o) (s.orderTick o 0x18) o.taken)).settle o
            (s.moveCheck o (s.orderConns o) (s.orderTick o 0x18) o.taken) s.mov.nextId := by
  rw [← State.moveCheck_numberTaken] at h ⊢
  exact if_neg h

theorem State.moveAccepted_mov (s : State) (o : TakenOrder) :
    (s.moveAccepted o).mov = { s.mov with
      nextId := s.mov.nextId + 1, moves := s.mov.moves ++ [(s.mov.nextId, s.orderedMove o s.mov.nextId)] } :=
  State.moveNotice_frame _ _ _ _ _ _ _ _ .mov (by decide)

theorem exec_move_order {s : State} {seat : BitVec 3} {slot : BitVec 12} {o : TakenOrder}
    (h : s.order? seat.toNat slot.toNat 1 = some o) : exec (.move seat slot) s = .next (s.takeMove o) := by
  change execMove seat slot s = _
  unfold execMove
  rw [h]

theorem exec_move_accepted {s : State} {seat : BitVec 3} {slot : BitVec 12} {o : TakenOrder}
    (horder : s.order? seat.toNat slot.toNat 1 = some o) (hcheck : s.moveCheck o (s.orderConns o) (s.orderTick o 0x18) o.taken = 0)
    (hnew : s.move? s.mov.nextId = none) :
    ∃ t m, exec (.move seat slot) s = .next t ∧ t.move? s.mov.nextId = some m ∧ m.state = .openS ∧ m.conns = s.moveList o
      ∧ m.deadline = s.orderTick o 0x18 ∧ m.seat = o.seat ∧ m.holds = [] ∧ t.mov.nextId = s.mov.nextId + 1
      ∧ Settled o 0 s.mov.nextId t ∧ SameBut [.taken, .events, .mov] s t := by
  have hexec := (exec_move_order horder).trans (congrArg _ (State.takeMove_accepted hcheck))
  have hmov := s.moveAccepted_mov o
  have htaken : (s.moveAccepted o).taken = s.taken := State.moveNotice_frame _ _ _ _ _ _ _ _ .taken (by decide)
  refine ⟨_, s.orderedMove o s.mov.nextId, hexec, ?_, rfl, if_pos (State.moveFormat_of_check hcheck), rfl, rfl, rfl, ?_, ?_, exec_frame _ _ _ hexec⟩
  · have hnone : s.mov.moves.find? (·.1 = s.mov.nextId) = none := by simpa [State.move?] using hnew
    change (((s.moveAccepted o).mov.moves.find? (·.1 = s.mov.nextId)).map (·.2)) = _
    rw [hmov, List.find?_append, hnone]
    simp
  · exact congrArg MoveBlock.nextId hmov
  · exact State.settle_carried (by rw [htaken]; exact State.order?_mem horder) _ _

theorem exec_move_refused {s : State} {seat : BitVec 3} {slot : BitVec 12} {o : TakenOrder}
    (horder : s.order? seat.toNat slot.toNat 1 = some o) {r : Nat}
    (hr : s.moveCheck o (s.orderConns o) (s.orderTick o 0x18) o.taken = r) (hcheck : r ≠ 0) :
    ∃ t, exec (.move seat slot) s = .next t ∧ t.mov = { s.mov with nextId := s.mov.nextId + 1 } ∧ Settled o r s.mov.nextId t
      ∧ Notified Src.mov 1 s.mov.nextId r t ∧ SameBut [.taken, .events, .mov] s t := by
  have hexec := (exec_move_order horder).trans (congrArg _ (State.takeMove_refused (hr ▸ hcheck)))
  rw [hr] at hexec
  have hnotice := State.moveNotice_frame s.numberTaken { s.orderedMove o s.mov.nextId with paths := [] } MoveEvent.refused 0 r
    0xFFFF 0xFFFF o.taken
  refine ⟨_, hexec, hnotice .mov (by decide), ?_, List.mem_append_right _ (List.mem_singleton.2 rfl), exec_frame _ _ _ hexec⟩
  exact State.settle_carried ((hnotice .taken (by decide)).symm ▸ State.order?_mem horder) _ _

-- Aborts by order

theorem State.abortCheck_open {s : State} {id k : Nat} {allowed : Move → Bool} {m : Move} (hstandby : s.twn.role ≠ .standby)
    (hwithdrawn : s.twn.role ≠ .withdrawn) (hm : s.move? id = some m) (hallowed : allowed m = true) (hopen : m.state.ended = false) :
    s.abortCheck id k allowed = 1 := by
  unfold State.abortCheck
  rw [if_neg (by simp [hstandby, hwithdrawn]), hm]
  dsimp only
  rw [if_neg (by simp [hallowed]), if_pos (by simp [hopen])]

theorem exec_abort_order {s : State} (seat : BitVec 3) (slot : BitVec 12) {o : TakenOrder} {m : Move}
    (horder : s.order? seat.toNat slot.toNat 2 = some o) (hstandby : s.twn.role ≠ .standby) (hwithdrawn : s.twn.role ≠ .withdrawn)
    (hseat : s.seatRole o.seat = 2) (hm : s.move? (o.num 0 4) = some m) (hopen : m.state.ended = false) :
    exec (.abort (.order seat slot)) s = .next
      (((s.abortMove (o.num 0 4) PathReason.abortOrder o.taken).noticeLater fun s => s.abortNotice (o.num 0 4) o.seat 1 o.taken).settle
        o 1 (o.num 0 4)) := by
  change execAbort (.order seat slot) s = _
  unfold execAbort
  dsimp only
  rw [horder]
  dsimp only
  unfold State.takeAbort
  dsimp only
  rw [State.abortCheck_open hstandby hwithdrawn hm (by rw [hseat]; rfl) hopen]
  rfl

theorem exec_abort_early {s : State} {seat : BitVec 3} {slot : BitVec 12} (hnone : s.order? seat.toNat slot.toNat 2 = none)
    (hslot : (seat.toNat, slot.toNat) ∈ s.slotsToTake) (htyp : s.hallNat seat.toNat (256 * slot.toNat + 1) 1 = 2) :
    exec (.abort (.order seat slot)) s = .next (s.takeSlot seat.toNat slot.toNat) := by
  change execAbort (.order seat slot) s = _
  unfold execAbort
  dsimp only
  rw [hnone]
  dsimp only
  exact congrArg _ (if_pos (by rw [List.contains_iff_mem.2 hslot, htyp]; rfl))

-- Schedules of the twin

/-- Loops that a move takes hold of are held; the others stand. -/
theorem State.loop_each_held {s : State} (h : LoopsCanonical s) (ls : List Nat) (k : Nat) :
    (State.each ls (fun l s => s.updLoop l fun x => { x with held := true }) s).loop k
      = if k ∈ ls then { s.loop k with held := true } else s.loop k := by
  induction ls generalizing s with
  | nil => simp [State.each]
  | cons l ls ih =>
    refine (ih (h.updLoop l _)).trans ?_
    by_cases hk : k = l
    · subst hk
      rw [State.loop_updLoop_self h, if_pos (List.mem_cons_self ..)]
      split <;> rfl
    · rw [State.loop_updLoop_ne _ _ hk]
      simp [hk]

theorem mem_mirrorLoops {l m : Nat} : l ∈ mirrorLoops m ↔ l / 2 = m := by
  unfold mirrorLoops
  rw [List.mem_cons, List.mem_singleton]
  omega

/-- A fold of operations that leave the loops alone. -/
theorem State.loop_foldl {α : Type} {f : State → α → State} (hf : ∀ a u, SameBut [.mov] u (f u a)) (l : List α) (s : State) (k : Nat) :
    (l.foldl f s).loop k = s.loop k := by
  induction l generalizing s with
  | nil => rfl
  | cons a l ih => exact (ih _).trans ((hf a s).loop_eq (by decide) k)

/-- The move that a first part makes known (R237). -/
def schedMove (p : SchedPart) (id : Nat) : Move :=
  { id := id, tag := p.tag.toNat, blind := p.blind, startAt := p.start, tPlanned := p.planned, stream := p.planned, state := .planned
    fromTwin := true, whole := false }

/-- The state in which a first part has made its move known. -/
def State.schedKnown (s : State) (p : SchedPart) (id : Nat) : State :=
  { s with mov := { s.mov with moves := s.mov.moves ++ [(id, schedMove p id)] } }

theorem exec_schedCell_new {s : State} {p : SchedPart} (hrole : s.twn.role.holds = false) (hport : s.landing.isSome = true)
    (hnew : s.move? p.move.toNat = none) :
    exec (.schedCell p) s = .next (execSchedCell.addPart (s.schedKnown p p.move.toNat) p.move.toNat p) := by
  change execSchedCell p s = _
  unfold execSchedCell
  dsimp only
  have hland : s.landing.isNone = false := by
    rw [← Option.not_isSome, hport]
    rfl
  rw [hrole, hland, Bool.or_false, if_neg Bool.false_ne_true, hnew]
  rfl

/-- What the part of a schedule adds to its move (R237). -/
structure Move.PartAdded (p : SchedPart) (frame : Nat) (m m' : Move) : Prop where
  fromTwin : m'.fromTwin = m.fromTwin
  parts    : m'.parts = m.parts ++ [p.part]
  whole    : m'.whole = (decide ((m.parts ++ [p.part]).length = p.parts) && !(m.late || decide (p.planned + 1 < frame)))
  conns    : m'.conns = m.conns ++ p.paths
  mirrors  : m'.mirrors = m.mirrors ++ p.mirrors

theorem addPart_effect {s : State} (h : LoopsCanonical s) (id : Nat) (p : SchedPart) :
    MoveTo id (Move.PartAdded p s.hrt.frame) s (execSchedCell.addPart s id p)
      ∧ ∀ k, (execSchedCell.addPart s id p).loop k
          = if k ∈ p.mirrors.flatMap (fun q => mirrorLoops q.mirror) then { s.loop k with held := true } else s.loop k := by
  unfold execSchedCell.addPart
  dsimp only
  constructor
  · refine MoveTo.after ?_ (.foldl (fun _ => rfl) (fun _ _ _ => Eq.trans) ?_ _ _)
    case refine_2 => exact fun _ u => u.updPath_moveTo _ _ _
    refine MoveTo.after ?_ ((State.each_frame _ _ _ fun _ u => u.updLoop_frame _ _).moveTo (by decide))
    exact State.updMove_moveTo (fun m => ⟨rfl, rfl, rfl, rfl, rfl⟩) s
  · intro k
    refine (State.loop_foldl ?_ _ _ k).trans (State.loop_each_held (s := s.updMove id _) h _ k)
    exact fun _ u => u.updPath_frame _ _

/-- Settles O40. -/
theorem moveOrders : Obligations.MoveOrders := by
  intro s hcan
  refine ⟨fun seat slot o dl horder hdl => ?_, fun seat slot o m horder hstandby hwithdrawn hseat hm hopen => ?_,
    fun seat slot hnone hslot htyp => ?_, fun p hrole hport hnew => ?_⟩
  · have hdl' : dl = s.orderTick o 0x18 := by
      rw [hdl]
      unfold State.orderTick
      simp only [Bool.and_eq_true, decide_eq_true_eq]
    subst hdl'
    exact ⟨fun hcheck => exec_move_accepted horder hcheck, fun hcheck => exec_move_refused horder rfl hcheck⟩
  · have hexec := exec_abort_order seat slot horder hstandby hwithdrawn hseat hm hopen
    have habort := s.abortMove_moveTo (o.num 0 4) PathReason.abortOrder o.taken
    have hnotice := State.noticeLater_frame (s.abortMove (o.num 0 4) PathReason.abortOrder o.taken)
      fun s => s.abortNotice (o.num 0 4) o.seat 1 o.taken
    have htaken := ((State.abortMove_frame s (o.num 0 4) PathReason.abortOrder o.taken).mono (by decide)).trans
      (hnotice.mono (m := [.events, .later, .loops, .mov]) (by decide)) .taken (by decide)
    have hall := (habort.after (hnotice.moveTo (by decide))).after ((State.settle_frame _ o 1 (o.num 0 4)).moveTo (by decide))
    obtain ⟨m', hm', haborted⟩ := hall.own m hm
    refine ⟨_, m', hexec, hm', fun p hp h0 => haborted.settled p hp h0, haborted.ended, ?_, hall.others,
      (State.settle_frame _ _ _ _).after (by decide) (hnotice.after (by decide) ((State.abortMove_frame _ _ _ _).mono (by decide)))⟩
    exact State.settle_carried (htaken.symm ▸ State.order?_mem horder) _ _
  · have hexec := exec_abort_early hnone hslot htyp
    exact ⟨_, s.orderAt seat.toNat slot.toNat, hexec, rfl, rfl, rfl, (s.orderAt_typ _ _).trans htyp, rfl,
      State.takeSlot_frame _ _ _ .mov (by decide), (State.takeSlot_frame _ _ _).mono (by decide)⟩
  · have hexec := exec_schedCell_new hrole hport hnew
    obtain ⟨hmove, hloop⟩ := addPart_effect (s := s.schedKnown p p.move.toNat) hcan.loops p.move.toNat p
    have hknown : (s.schedKnown p p.move.toNat).move? p.move.toNat = some (schedMove p p.move.toNat) := by
      have hnone : s.mov.moves.find? (·.1 = p.move.toNat) = none := by simpa [State.move?] using hnew
      change (((s.mov.moves ++ [(p.move.toNat, schedMove p p.move.toNat)]).find? (·.1 = p.move.toNat)).map (·.2)) = _
      rw [List.find?_append, hnone]
      simp
    obtain ⟨m, hm, hadded⟩ := hmove.own _ hknown
    refine ⟨_, m, hexec, hm, hadded.fromTwin, hadded.parts, ?_, hadded.conns, hadded.mirrors, fun q hq => ?_, fun l hl => ?_, exec_frame _ _ _ hexec⟩
    · have hcount : decide (([] ++ [p.part]).length = p.parts) = decide (p.parts = 1) := decide_eq_decide.2 eq_comm
      exact hadded.whole.trans (congrArg (· && _) hcount)
    · have hmem : ∀ k, k / 2 = q.mirror → k ∈ p.mirrors.flatMap fun q => mirrorLoops q.mirror := fun k hk =>
        List.mem_flatMap.2 ⟨q, hq, mem_mirrorLoops.2 hk⟩
      rw [hloop, hloop, if_pos (hmem _ (by omega)), if_pos (hmem _ (by omega))]
      exact ⟨rfl, rfl⟩
    · rw [hloop, if_neg]
      · rfl
      · intro hmem
        obtain ⟨q, hq, hin⟩ := List.mem_flatMap.1 hmem
        exact hl q hq (mem_mirrorLoops.1 hin)

end Sys2Proof.Machine
end

-- Planning ---------------------------------------------------------------------------------------------------------------------
section
/-! O41: planning begins and ends. -/
namespace Sys2Proof.Machine

-- A move fails in planning

/-- What a failure in planning for `reason` makes of the move (R230, R231). -/
structure Move.PlanFailed (s : State) (reason : Nat) (m m' : Move) : Prop where
  state    : m'.state = .failed
  planning : m'.planning = false
  reason   : m.reason = 0 → m'.reason = reason
  holds    : m'.holds = m.holds
  settled  : m'.Settled s

theorem State.failMove_moveTo (s : State) (id reason : Nat) : MoveTo id (Move.PlanFailed s reason) s (s.failMove id reason) := by
  cases hm : s.move? id with
  | none =>
    have hsame : s.failMove id reason = s := by unfold State.failMove; rw [hm]
    rw [hsame]
    exact ⟨fun _ _ => rfl, fun m h => absurd (hm.symm.trans h) (by simp), rfl⟩
  | some m =>
    let l := (s.openNew m).map (·.inp)
    let v := State.each l (fun i s => s.closePath id i 2 .failed reason) s
    have hfail : s.failMove id reason = v.endMove id .failed reason := by
      unfold State.failMove
      rw [hm]
    have hv : MoveTo id (Move.Closes reason l) s v := State.closePaths_moveTo id (by decide) _ _ _ _
    have hend := v.endMove_moveTo id .failed reason v.nextTick
    rw [hfail]
    refine ⟨fun i hi => (hend.others i hi).trans (hv.others i hi), fun x hx => ?_, hend.service.trans hv.service⟩
    obtain rfl : x = m := Option.some.inj (hx.symm.trans hm)
    obtain ⟨m₁, hm₁, hclosed⟩ := hv.own x hx
    obtain ⟨m', hm', rfl⟩ := hend.own m₁ hm₁
    refine ⟨_, hm', rfl, rfl, fun h0 => ?_, hclosed.holds,
      fun p hp h0 => hclosed.settled (fun p hp => List.mem_map_of_mem hp) p hp h0⟩
    rcases hclosed.reason with h | h
    · exact if_pos (h.trans h0)
    · exact (congrArg (fun r => if r = 0 then reason else r) h.2).trans (by split <;> rfl)

-- Planning begins

/-- The loops of the mirrors that a move moves. -/
def State.planLoops (s : State) (m : Move) : List Nat := (s.moves m.conns).flatMap mirrorLoops

/-- The move whose planning has begun, with the loops it holds (R230). -/
def State.planningMove (s : State) (m x : Move) : Move :=
  { x with
    planning := true, holds := s.planLoops m, limit := clampNat 1 1024 (s.inForce Reg.MOV_SLEW_MAX 0 11)
    zone := s.inForce Reg.MOV_SWEEP_CFG 16 16 + s.inForce Reg.MOV_SWEEP_CFG 0 16 }

/-- The move holds its loops, and its mirrors are not dithered (R230). -/
def State.planHeld (s : State) (m : Move) : State :=
  let s' := State.each (s.planLoops m) (fun l s => s.updLoop l fun x => { x with held := true }) (s.updMove m.id (s.planningMove m))
  { s' with est := { s'.est with dithered := s'.est.dithered.filter fun d => !(s.moves m.conns).contains d.1 } }

/-- The records of the ports that the move names (R229). -/
def State.planRecords (s : State) (m : Move) : State :=
  let u := s.each (m.conns.map (·.1)) fun i s => s.updPath i fun r => { r with moveId := m.id }
  let v := u.each ((m.conns.filter fun c => decide (c.2 = disconnect)).map (·.1)) fun i s =>
    if (s.path i).state = .failed ∨ (s.path i).state = .aborted then
      s.updPath i fun r => { r with state := .none, reason := 0, out := 0xFFFF } else s
  (v.creates m.conns).foldl (fun s c => s.updPath c.1 fun _ => { out := c.2, state := .planning, moveId := m.id }) v

theorem State.planRecords_frame (s : State) (m : Move) : SameBut [.mov] s (s.planRecords m) := by
  unfold State.planRecords
  extract_lets u v
  refine SameBut.foldl (fun _ _ => State.updPath_frame _ _ _) ?_ _
  refine SameBut.each (fun _ _ => SameBut.ite (State.updPath_frame _ _ _) (SameBut.refl _ _)) ?_ _
  exact State.each_frame _ _ _ fun _ _ => State.updPath_frame _ _ _

theorem State.planRecords_moveTo (s : State) (id : Nat) (m : Move) : MoveTo id Eq s (s.planRecords m) := by
  have hpath : ∀ (u : State) i f, MoveTo id Eq u (u.updPath i f) := fun u i f => u.updPath_moveTo id i f
  unfold State.planRecords
  extract_lets u v
  have hu : MoveTo id Eq s u := by
    refine MoveTo.foldl (fun _ => rfl) (fun _ _ _ => Eq.trans) ?_ _ _
    exact fun i w => hpath w i _
  have hv : MoveTo id Eq u v := by
    refine MoveTo.foldl (fun _ => rfl) (fun _ _ _ => Eq.trans) ?_ _ _
    intro i w
    dsimp only
    split
    · exact hpath w i _
    · exact .refl (fun _ => rfl) w
  refine (hu.after hv).after (MoveTo.foldl (fun _ => rfl) (fun _ _ _ => Eq.trans) ?_ _ _)
  exact fun c w => hpath w c.1 _

/-- The state in which planning has begun, before the classes of the loops are looked at. -/
def State.planBegun (s : State) (m : Move) : State := (s.planHeld m).planRecords m

theorem State.beginPlanning_eq (s : State) (m : Move) :
    s.beginPlanning m = if (s.planLoops m).all fun l => ((s.planBegun m).loop l).cls = .hold then s.planBegun m
      else (s.planBegun m).failMove m.id PathReason.loopClass := rfl

theorem State.planBegun_moveTo (s : State) (m : Move) : MoveTo m.id (fun a b => b = s.planningMove m a) s (s.planBegun m) := by
  refine MoveTo.after ?_ (State.planRecords_moveTo _ _ _)
  refine MoveTo.after (t := State.each (s.planLoops m) (fun l s => s.updLoop l fun x => { x with held := true })
    (s.updMove m.id (s.planningMove m))) ?_ (.of_moves rfl rfl)
  refine MoveTo.after ?_ ((State.each_frame _ _ _ fun _ u => u.updLoop_frame _ _).moveTo (by decide))
  exact State.updMove_moveTo (R := fun a b => b = s.planningMove m a) (fun _ => rfl) s

theorem State.loop_planBegun {s : State} (h : LoopsCanonical s) (m : Move) (k : Nat) :
    (s.planBegun m).loop k = if k ∈ s.planLoops m then { s.loop k with held := true } else s.loop k :=
  ((State.planRecords_frame _ _).loop_eq (by decide) k).trans (State.loop_each_held (s := s.updMove m.id (s.planningMove m)) h _ k)

theorem State.planBegun_cls {s : State} (h : LoopsCanonical s) (m : Move) (k : Nat) : ((s.planBegun m).loop k).cls = (s.loop k).cls := by
  rw [State.loop_planBegun h]
  split <;> rfl

theorem exec_planningStart_next {s : State} {m : Move} (hruns : s.plannerRuns = true) (hnext : s.nextToPlan = some m) :
    exec .planningStart s = .next (s.beginPlanning m) := by
  change execPlanningStart s = _
  unfold execPlanningStart
  rw [if_pos hruns, hnext]

theorem exec_planningStart_begins {s : State} {m : Move} (hcan : Canonical s) (hruns : s.plannerRuns = true) (hm : s.move? m.id = some m)
    (hnext : s.nextToPlan = some m) : ∃ t m', exec .planningStart s = .next t ∧ t.move? m.id = some m'
      ∧ m'.holds = s.planLoops m ∧ (∀ l ∈ s.planLoops m, (t.loop l).held = true ∧ (t.loop l).cls = (s.loop l).cls)
      ∧ (∀ l, l ∉ s.planLoops m → t.loop l = s.loop l)
      ∧ ((∀ l ∈ s.planLoops m, (s.loop l).cls = .hold) → m'.planning = true ∧ m'.state = m.state)
      ∧ ((∃ l ∈ s.planLoops m, (s.loop l).cls ≠ .hold) → m'.state = .failed ∧ m'.planning = false ∧ (m.reason = 0 → m'.reason = 4))
      ∧ SameBut [.events, .loops, .mov, .est] s t := by
  have hexec := exec_planningStart_next hruns hnext
  have hframe := State.beginPlanning_frame s m
  obtain ⟨m₁, hm₁, rfl⟩ := (s.planBegun_moveTo m).own m hm
  have hin : ∀ l ∈ s.planLoops m, ((s.planBegun m).loop l).held = true ∧ ((s.planBegun m).loop l).cls = (s.loop l).cls := by
    intro l hl
    rw [State.loop_planBegun hcan.loops, if_pos hl]
    exact ⟨rfl, rfl⟩
  have hout : ∀ l, l ∉ s.planLoops m → (s.planBegun m).loop l = s.loop l := fun l hl => by
    rw [State.loop_planBegun hcan.loops, if_neg hl]
  have hall : ((s.planLoops m).all fun l => ((s.planBegun m).loop l).cls = .hold) = true ↔ ∀ l ∈ s.planLoops m, (s.loop l).cls = .hold := by
    simp only [List.all_eq_true, decide_eq_true_eq, State.planBegun_cls hcan.loops]
  rw [State.beginPlanning_eq] at hexec hframe
  by_cases hhold : ∀ l ∈ s.planLoops m, (s.loop l).cls = .hold
  · rw [if_pos (hall.2 hhold)] at hexec hframe
    exact ⟨_, _, hexec, hm₁, rfl, hin, hout, fun _ => ⟨rfl, rfl⟩, fun ⟨l, hl, hne⟩ => absurd (hhold l hl) hne, hframe⟩
  · rw [if_neg fun h => hhold (hall.1 h)] at hexec hframe
    have hfail := State.failMove_frame (s.planBegun m) m.id PathReason.loopClass
    have hloop : ∀ l, ((s.planBegun m).failMove m.id PathReason.loopClass).loop l = (s.planBegun m).loop l := fun l => hfail.loop_eq (by decide) l
    obtain ⟨m', hm', hfailed⟩ := ((s.planBegun m).failMove_moveTo m.id PathReason.loopClass).own _ hm₁
    refine ⟨_, m', hexec, hm', hfailed.holds, fun l hl => ?_, fun l hl => ?_, fun h => absurd h hhold,
      fun _ => ⟨hfailed.state, hfailed.planning, hfailed.reason⟩, hframe⟩
    · rw [hloop]
      exact hin l hl
    · rw [hloop]
      exact hout l hl

-- Planning ends

/-- The move as its schedule leaves it (R236, R254). -/
structure Move.Scheduled (s : State) (plans : List MirrorPlan) (start last : Nat) (m' : Move) : Prop where
  state    : m'.state = .planned
  planning : m'.planning = false
  mirrors  : m'.mirrors = plans
  startAt  : m'.startAt = start
  endTick  : m'.endTick = last
  waves    : m'.waves = min 255 (s.wavesOf plans)

theorem State.setPlanned_moveTo {s : State} {m : Move} {plans : List MirrorPlan} (hplans : plans ≠ []) (start last : Nat) :
    MoveTo m.id (fun _ b => b.Scheduled s plans start last) s (s.setPlanned m plans start last) := by
  unfold State.setPlanned
  extract_lets k same s₁ s₂ s₃ s₄ s₅
  have h₁ : MoveTo m.id (fun _ b => b.Scheduled s plans start last) s s₁ :=
    State.updMove_moveTo (fun _ => ⟨rfl, rfl, rfl, rfl, rfl, rfl⟩) s
  have h₂ : MoveTo m.id Eq s₁ s₂ := by
    refine MoveTo.foldl (fun _ => rfl) (fun _ _ _ => Eq.trans) ?_ _ _
    intro p u
    dsimp only
    split
    · exact .refl (fun _ => rfl) u
    · exact (State.recPath_moveTo _ _ _ _ _ _).after (State.updPath_moveTo _ _ _ _)
  have h₃ : MoveTo m.id Eq s₂ s₃ := (State.maxField_frame _ _ _ _ _).moveTo (by decide)
  have h₄ : MoveTo m.id Eq s₃ s₄ := (State.stateNotice_frame _ _ _ _).moveTo (by decide)
  have h₅ : MoveTo m.id Eq s₄ s₅ := by
    refine SameBut.moveTo (l := [.hrt, .regs, .porches, .free]) (SameBut.ite ?_ (SameBut.refl _ _)) (by decide)
    exact State.inTick_frame _ _ (fun u => (u.sendSched_frame m.id).mono (by decide)) (by decide)
  rw [if_neg (by rw [List.isEmpty_iff]; exact hplans)]
  exact (((h₁.after h₂).after h₃).after h₄).after h₅

/-- The connections for which a move makes a path (R225). -/
def State.madeBy (s : State) (m : Move) : List (Nat × Nat) := (s.creates m.conns).filter fun c => m.openPaths.any fun p => p.inp = c.1

/-- The mirrors that a move moves, its paths' first. -/
def State.planMirrors (s : State) (m : Move) : List Nat := (s.madeBy m).flatMap pathMirrors ++ s.parks m.conns

theorem State.planMove_atlas {s : State} {m : Move}
    (h : s.atlasEmpty = true ∨ ∃ c ∈ s.creates m.conns, (∃ p ∈ m.openPaths, p.inp = c.1) ∧ s.atlas c.1 c.2 = none)
    (routes : List Route) (loose failed : List Nat) : s.planMove m routes loose failed = s.failMove m.id PathReason.atlasUnknown := by
  have hunknown : (s.atlasEmpty || (s.madeBy m).any fun c => (s.atlas c.1 c.2).isNone) = true := by
    rw [Bool.or_eq_true]
    refine h.imp_right fun ⟨c, hc, ⟨p, hp, hinp⟩, hnone⟩ => ?_
    have hmade : c ∈ s.madeBy m := List.mem_filter.2 ⟨hc, List.any_eq_true.2 ⟨p, hp, decide_eq_true hinp⟩⟩
    exact List.any_eq_true.2 ⟨c, hmade, by rw [hnone]; rfl⟩
  exact if_pos hunknown

theorem State.planMove_planned {s : State} {m : Move} {routes : List Route} {loose failed : List Nat} {plans : List MirrorPlan} {start last : Nat}
    (hatlas : s.atlasEmpty = false) (hknown : ∀ c ∈ s.creates m.conns, (∃ p ∈ m.openPaths, p.inp = c.1) → (s.atlas c.1 c.2).isSome = true)
    (hstrict : m.strict = true ∨ s.inForce Reg.MOV_CTL 2 1 = 1 → failed = [] ∧ loose = []) (hstart : start = max m.startAt (s.nextTick + 2))
    (hplans : plans = (s.planMirrors m).filterMap (s.routePlan m start routes loose (s.parks m.conns)))
    (hlen : plans.length = (s.planMirrors m).length) (hne : plans ≠ []) (hok : s.scheduleOk m plans = true)
    (hlast : last = (plans.map fun p => p.start + p.frames).foldl max 0 + 15) (hdl : m.deadline = 0 ∨ last ≤ m.deadline) :
    s.planMove m routes loose failed = s.setPlanned m plans start last := by
  have hfound : (s.atlasEmpty || (s.madeBy m).any fun c => (s.atlas c.1 c.2).isNone) = false := by
    rw [hatlas, Bool.false_or, List.any_eq_false]
    intro c hc
    obtain ⟨hc, hopen⟩ := List.mem_filter.1 hc
    obtain ⟨p, hp, hinp⟩ := List.any_eq_true.1 hopen
    have := hknown c hc ⟨p, hp, of_decide_eq_true hinp⟩
    rw [Option.isNone_iff_eq_none]
    intro hnone
    rw [hnone] at this
    exact absurd this (by decide)
  have hfree : ((m.strict || decide (s.inForce Reg.MOV_CTL 2 1 = 1)) && !(failed ++ loose).isEmpty) = false := by
    by_cases h : m.strict = true ∨ s.inForce Reg.MOV_CTL 2 1 = 1
    · obtain ⟨rfl, rfl⟩ := hstrict h
      exact Bool.and_false _
    · obtain ⟨hs, hc⟩ := not_or.1 h
      simp [hs, hc]
  have hempty : plans.isEmpty = false := by simpa using hne
  unfold State.planMove
  extract_lets k made none_ parked xs start' plans' last'
  rw [if_neg (by rw [show (s.atlasEmpty || made.any fun c => (s.atlas c.1 c.2).isNone) = false from hfound]; exact Bool.false_ne_true),
    if_neg (by rw [show ((m.strict || decide (s.inForce Reg.MOV_CTL 2 1 = 1)) && !none_.isEmpty) = false from hfree]; exact Bool.false_ne_true)]
  have hs : start' = start := hstart.symm
  have hp : plans' = plans := by
    rw [hplans, ← hs]
    rfl
  have hl : last' = last := by
    change (if plans'.isEmpty then k else (plans'.map fun p => p.start + p.frames).foldl max 0 + 15) = last
    rw [hp, hempty, if_neg Bool.false_ne_true, hlast]
  rw [hs, hp, hl, if_neg, if_neg]
  · omega
  · rw [show xs.length = plans.length from hlen.symm, hok]
    simp

theorem exec_planningDone_runs {s : State} {m : Move} (hruns : s.plannerRuns = true)
    (hm : s.mov.moves.find? (fun e => e.2.planning) = some (m.id, m)) (routes : List Route) (loose failed : List (BitVec 13)) :
    exec (.planningDone routes loose failed) s
      = .next (s.planMove m routes (loose.map BitVec.toNat) (failed.map BitVec.toNat)) := by
  change execPlanningDone routes loose failed s = _
  unfold execPlanningDone
  rw [hm]
  exact if_pos hruns

/-- Settles O41. -/
theorem movePlanning : Obligations.MovePlanning := by
  intro s m hcan hruns hm
  refine ⟨fun hnext => exec_planningStart_begins hcan hruns hm hnext,
    fun routes loose failed plans start last hfind hatlas hknown hstrict hstart hplans hlen hne hok hlast hdl => ?_,
    fun routes loose failed hfind hunknown => ?_⟩
  · have hplan := State.planMove_planned (loose := loose.map BitVec.toNat) (failed := failed.map BitVec.toNat) hatlas hknown
      (fun h => by rw [(hstrict h).1, (hstrict h).2]; exact ⟨rfl, rfl⟩) hstart hplans hlen hne hok hlast hdl
    have hexec := exec_planningDone_runs hruns hfind routes loose failed
    rw [hplan] at hexec
    have hmove := State.setPlanned_moveTo (s := s) (m := m) hne start last
    obtain ⟨m', hm', hsched⟩ := hmove.own m hm
    exact ⟨_, m', hexec, hm', hsched.state, hsched.planning, hsched.mirrors, hsched.startAt, hsched.endTick, hsched.waves,
      State.setPlanned_frame _ _ _ _ _ .loops (by decide), hmove.others⟩
  · have hexec := exec_planningDone_runs hruns hfind routes loose failed
    rw [State.planMove_atlas hunknown] at hexec
    obtain ⟨m', hm', hfailed⟩ := (s.failMove_moveTo m.id PathReason.atlasUnknown).own m hm
    exact ⟨_, m', hexec, hm', hfailed.state, hfailed.planning, fun p hp h0 => hfailed.settled p hp h0,
      State.failMove_frame _ _ _ .loops (by decide)⟩

end Sys2Proof.Machine
end

-- Moves run ------------------------------------------------------------------------------------------------------------------
section
/-! O42: starts, legs, readiness and failure of paths, and deadlines. -/
namespace Sys2Proof.Machine

-- Starts and legs

/-- From `s` to `t` only the move `id` changes, as `R` says; services may end. -/
structure MoveRuns (id : Nat) (R : Move → Move → Prop) (s t : State) : Prop where
  others : ∀ i, i ≠ id → t.move? i = s.move? i
  own    : ∀ m, s.move? id = some m → ∃ m', t.move? id = some m' ∧ R m m'

section
variable {id : Nat} {R S T : Move → Move → Prop} {s t u : State}

theorem MoveTo.runs (h : MoveTo id R s t) : MoveRuns id R s t := ⟨h.others, h.own⟩

theorem MoveRuns.refl (hR : ∀ m, R m m) (s : State) : MoveRuns id R s s := (MoveTo.refl hR s).runs

theorem MoveRuns.trans (h : MoveRuns id R s t) (k : MoveRuns id S t u) (hT : ∀ a b c, R a b → S b c → T a c) : MoveRuns id T s u := by
  refine ⟨fun i hi => (k.others i hi).trans (h.others i hi), fun a ha => ?_⟩
  obtain ⟨b, hb, hab⟩ := h.own a ha
  obtain ⟨c, hc, hbc⟩ := k.own b hb
  exact ⟨c, hc, hT a b c hab hbc⟩

theorem MoveRuns.foldl {α : Type} {f : State → α → State} (hR : ∀ m, R m m) (htrans : ∀ a b c, R a b → R b c → R a c)
    (hf : ∀ a u, MoveRuns id R u (f u a)) (l : List α) (s : State) : MoveRuns id R s (l.foldl f s) := by
  induction l generalizing s with
  | nil => exact .refl hR s
  | cons a l ih => exact (hf a s).trans (ih _) htrans

end

theorem State.leaveService_runs (s : State) (id reason : Nat) (p : Nat × Nat) : MoveRuns id Eq s (s.leaveService reason p) := by
  have hmoves : (s.leaveService reason p).mov.moves = s.mov.moves := by
    unfold State.leaveService
    dsimp only
    split <;> rfl
  have hmove : ∀ i, (s.leaveService reason p).move? i = s.move? i := fun i => by unfold State.move?; rw [hmoves]
  exact ⟨fun i _ => hmove i, fun m hm => ⟨m, (hmove id).trans hm, rfl⟩⟩

/-- The legs of a move leave its paths, its state and its start alone. -/
structure Move.LegsOnly (m m' : Move) : Prop where
  paths  : m'.paths = m.paths
  state  : m'.state = m.state
  tStart : m'.tStart = m.tStart

theorem Move.LegsOnly.refl (m : Move) : m.LegsOnly m := ⟨rfl, rfl, rfl⟩

theorem Move.LegsOnly.trans {a b c : Move} (h : a.LegsOnly b) (k : b.LegsOnly c) : a.LegsOnly c :=
  ⟨k.paths.trans h.paths, k.state.trans h.state, k.tStart.trans h.tStart⟩

theorem State.legStep_runs (s : State) (id : Nat) (p : MirrorPlan) : MoveRuns id Move.LegsOnly s (s.legStep id p) := by
  have hmirror : ∀ (u : State) (f : MirrorPlan → MirrorPlan), MoveRuns id Move.LegsOnly u (u.updMirror id p.mirror f) := fun u f => by
    have hto : MoveTo id Move.LegsOnly u (u.updMirror id p.mirror f) := State.updMove_moveTo (fun m => ⟨rfl, rfl, rfl⟩) u
    exact hto.runs
  have heq : ∀ a b c : Move, a = b → b.LegsOnly c → a.LegsOnly c := fun a b c hab hbc => hab ▸ hbc
  unfold State.legStep
  split
  next g hg =>
    extract_lets last s₁ s₂ s₃
    have h₁ : MoveRuns id Eq s s₁ := by
      change MoveRuns id Eq s (if p.begun = 0 then (s.serviceOn p.mirror).foldl (fun s q => s.leaveService 0 q) s else s)
      split
      · exact .foldl (fun _ => rfl) (fun _ _ _ => Eq.trans) (fun q u => u.leaveService_runs id 0 q) _ s
      · exact .refl (fun _ => rfl) s
    have h₂ : MoveRuns id Eq s₁ s₂ := ((State.setLeg_frame _ _ _).moveTo (by decide)).runs
    have h₃ : MoveRuns id Eq s₂ s₃ := ((State.setLeg_frame _ _ _).moveTo (by decide)).runs
    exact (((h₁.trans h₂ fun _ _ _ => Eq.trans).trans h₃ fun _ _ _ => Eq.trans).trans (hmirror s₃ _) heq)
  · exact hmirror s _

theorem State.moveSteps_runs (s : State) (id : Nat) : MoveRuns id Move.LegsOnly s (s.moveSteps id) := by
  unfold State.moveSteps
  split
  · exact .foldl Move.LegsOnly.refl (fun _ _ _ => Move.LegsOnly.trans) (fun p u => u.legStep_runs id p) _ s
  · exact .refl Move.LegsOnly.refl s

/-- What the start of a move makes of it (R228, R238). -/
structure Move.Started (tick : Nat) (m m' : Move) : Prop where
  state  : m'.state = .moving
  tStart : m'.tStart = tick
  paths  : m'.paths = m.paths

theorem State.startMove_runs (s : State) (m : Move) : MoveRuns m.id (Move.Started s.nextTick) s (s.startMove m) := by
  unfold State.startMove
  extract_lets s₁ s₂ s₃
  have h₁ : MoveRuns m.id Eq s s₁ ∧ SameBut [.mov] s s₁ := by
    dsimp only [s₁]
    split
    · split
      · exact ⟨s.leaveService_runs _ _ _, State.leaveService_frame _ _ _⟩
      · exact ⟨.refl (fun _ => rfl) s, SameBut.refl _ _⟩
    · exact ⟨.refl (fun _ => rfl) s, SameBut.refl _ _⟩
  have htick : s₁.nextTick = s.nextTick := by
    unfold State.nextTick
    rw [h₁.2 .hrt (by decide)]
  have h₂ : MoveTo m.id (Move.Started s.nextTick) s₁ s₂ := State.updMove_moveTo (fun x => ⟨rfl, htick, rfl⟩) s₁
  have h₃ : MoveTo m.id Eq s₂ s₃ := by
    refine MoveTo.foldl (fun _ => rfl) (fun _ _ _ => Eq.trans) ?_ _ _
    exact fun i u => u.recPath_moveTo _ _ _ _ _
  exact (h₁.1.trans h₂.runs fun _ _ _ hab hbc => hab ▸ hbc).trans ((h₃.after ((State.stateNotice_frame _ _ _ _).moveTo (by decide))).runs)
    fun _ _ _ hab hbc => hbc ▸ hab

theorem exec_moveStart_due {s : State} {id : BitVec 32} {m : Move} (hm : s.move? id.toNat = some m) (hdue : s.startDue m = true) :
    exec (.moveStart id) s = .next ((s.startMove m).moveSteps id.toNat) := by
  change execMoveStart id s = _
  unfold execMoveStart
  rw [hm]
  exact congrArg _ (if_pos hdue)

-- One leg

theorem State.setLeg_slew {s : State} {l : Nat} (h : (s.loop l).cls = .slew) (g : Leg) :
    s.setLeg l g = s.updLoop l fun x => { x with leg := some g, handRun := 0 } := by
  unfold State.setLeg
  rw [h]

/-- The loops of a slewing mirror take the legs given. -/
theorem State.loop_setLegs {s : State} (h : LoopsCanonical s) {x : Nat} (hx : (s.loop (2 * x)).cls = .slew)
    (hy : (s.loop (2 * x + 1)).cls = .slew) (gx gy : Leg) :
    (((s.setLeg (2 * x) gx).setLeg (2 * x + 1) gy).loop (2 * x)).leg = some gx
    ∧ (((s.setLeg (2 * x) gx).setLeg (2 * x + 1) gy).loop (2 * x + 1)).leg = some gy
    ∧ ∀ l, l / 2 ≠ x → ((s.setLeg (2 * x) gx).setLeg (2 * x + 1) gy).loop l = s.loop l := by
  have hy' : ((s.setLeg (2 * x) gx).loop (2 * x + 1)).cls = .slew := by
    rw [State.setLeg_slew hx, State.loop_updLoop_ne _ _ (by omega), hy]
  rw [State.setLeg_slew hy', State.setLeg_slew hx]
  refine ⟨?_, ?_, fun l hl => ?_⟩
  · rw [State.loop_updLoop_ne _ _ (by omega), State.loop_updLoop_self h]
  · rw [State.loop_updLoop_self (h.updLoop _ _)]
  · rw [State.loop_updLoop_ne _ _ (by omega), State.loop_updLoop_ne _ _ (by omega)]

theorem exec_legEnd_due {s : State} {id : BitVec 32} {x : BitVec 13} {m : Move} {p : MirrorPlan} (hm : s.move? id.toNat = some m)
    (hp : m.mirrors.find? (fun p => p.mirror = x.toNat) = some p) (hdue : s.legDue m p = true) (hbegun : 0 < p.begun) :
    exec (.legEnd id x) s = .next (s.legStep id.toNat p) := by
  change execLegEnd id x s = _
  unfold execLegEnd
  rw [hm]
  dsimp only
  rw [hp]
  exact congrArg _ (if_pos (by rw [hdue, decide_eq_true hbegun]; rfl))

/-- The plan of a mirror that has begun its next leg. -/
theorem State.updMirror_mem {s : State} {id : Nat} {m : Move} {p : MirrorPlan} (hm : s.move? id = some m) (hp : p ∈ m.mirrors)
    (f : MirrorPlan → MirrorPlan) : ∃ m', (s.updMirror id p.mirror f).move? id = some m' ∧ f p ∈ m'.mirrors := by
  refine ⟨{ m with mirrors := m.mirrors.map fun q => if q.mirror = p.mirror then f q else q }, ?_, List.mem_map.2 ⟨p, hp, if_pos rfl⟩⟩
  rw [State.updMirror, State.move?_updMove, if_pos rfl, hm]
  rfl

/-- A mirror under way takes its next leg (R232, R238). -/
theorem exec_legEnd_next {s : State} (h : LoopsCanonical s) {id : BitVec 32} {x : BitVec 13} {m : Move} {p : MirrorPlan}
    (hm : s.move? id.toNat = some m) (hp : m.mirrors.find? (fun p => p.mirror = x.toNat) = some p) (hdue : s.legDue m p = true)
    (hbegun : 0 < p.begun) {g : MirrorLeg} (hg : p.legs[p.begun]? = some g) (hx : (s.loop (2 * x.toNat)).cls = .slew)
    (hy : (s.loop (2 * x.toNat + 1)).cls = .slew) :
    ∃ t m' q, exec (.legEnd id x) s = .next t ∧ t.move? id.toNat = some m' ∧ q ∈ m'.mirrors ∧ q.mirror = x.toNat
      ∧ q.begun = p.begun + 1 ∧ q.nextAt = s.nextTick + g.len
      ∧ (t.loop (2 * x.toNat)).leg = some ⟨g.x, g.rateX, g.accX, decide (p.begun + 1 = p.legs.length), false⟩
      ∧ (t.loop (2 * x.toNat + 1)).leg = some ⟨g.y, g.rateY, g.accY, decide (p.begun + 1 = p.legs.length), false⟩
      ∧ (∀ l, l / 2 ≠ x.toNat → t.loop l = s.loop l) ∧ SameBut [.loops, .mov] s t := by
  have hmem : p ∈ m.mirrors := List.mem_of_find?_eq_some hp
  have hmirror : p.mirror = x.toNat := by simpa using List.find?_some hp
  let u := (s.setLeg (2 * x.toNat) ⟨g.x, g.rateX, g.accX, decide (p.begun + 1 = p.legs.length), false⟩).setLeg (2 * x.toNat + 1)
    ⟨g.y, g.rateY, g.accY, decide (p.begun + 1 = p.legs.length), false⟩
  have hstep : s.legStep id.toNat p
      = u.updMirror id.toNat p.mirror fun q => { q with begun := q.begun + 1, nextAt := u.nextTick + g.len } := by
    unfold State.legStep
    rw [hg]
    dsimp only
    rw [if_neg (by omega), hmirror]
  have hframe : SameBut [.loops] s u := (State.setLeg_frame _ _ _).after (by decide) (State.setLeg_frame _ _ _)
  have hexec := exec_legEnd_due hm hp hdue hbegun
  rw [hstep] at hexec
  have hmu : u.move? id.toNat = some m := by
    unfold State.move?
    rw [hframe .mov (by decide)]
    exact hm
  have htick : u.nextTick = s.nextTick := by
    unfold State.nextTick
    rw [hframe .hrt (by decide)]
  obtain ⟨hlx, hly, hother⟩ := State.loop_setLegs h hx hy ⟨g.x, g.rateX, g.accX, decide (p.begun + 1 = p.legs.length), false⟩
    ⟨g.y, g.rateY, g.accY, decide (p.begun + 1 = p.legs.length), false⟩
  obtain ⟨m', hm', hq⟩ := State.updMirror_mem hmu hmem fun q => { q with begun := q.begun + 1, nextAt := u.nextTick + g.len }
  exact ⟨_, m', _, hexec, hm', hq, hmirror, rfl, congrArg (· + g.len) htick, hlx, hly, hother,
    (State.updMirror_frame _ _ _ _).after (by decide) (hframe.mono (by decide))⟩

/-- A mirror whose legs are all begun has arrived (R232). -/
theorem exec_legEnd_arrived {s : State} {id : BitVec 32} {x : BitVec 13} {m : Move} {p : MirrorPlan} (hm : s.move? id.toNat = some m)
    (hp : m.mirrors.find? (fun p => p.mirror = x.toNat) = some p) (hdue : s.legDue m p = true) (hbegun : 0 < p.begun)
    (hlast : p.legs.length ≤ p.begun) : ∃ t m' q, exec (.legEnd id x) s = .next t ∧ t.move? id.toNat = some m' ∧ q ∈ m'.mirrors
      ∧ q.mirror = x.toNat ∧ q.arrived = true ∧ SameBut [.mov] s t := by
  have hmirror : p.mirror = x.toNat := by simpa using List.find?_some hp
  have hstep : s.legStep id.toNat p = s.updMirror id.toNat p.mirror fun q => { q with arrived := true } := by
    unfold State.legStep
    rw [List.getElem?_eq_none hlast]
  have hexec := exec_legEnd_due hm hp hdue hbegun
  rw [hstep] at hexec
  obtain ⟨m', hm', hq⟩ := State.updMirror_mem hm (List.mem_of_find?_eq_some hp) fun q => { q with arrived := true }
  exact ⟨_, m', _, hexec, hm', hq, hmirror, rfl, State.updMirror_frame _ _ _ _⟩

-- Paths that settle

theorem State.openPath?_inp {s : State} {i : Nat} {m : Move} {p : MovePath} (h : s.openPath? i = some (m, p)) : p.inp = i := by
  unfold State.openPath? at h
  obtain ⟨e, -, he⟩ := List.exists_of_findSome?_eq_some h
  split at he
  · cases he
  · obtain ⟨q, hq, heq⟩ := Option.map_eq_some_iff.1 he
    obtain ⟨-, rfl⟩ := Prod.mk.inj heq
    simpa using List.find?_some hq

abbrev PathsCanonical (s : State) : Prop := twf (fun _ => ({} : PathRec)) s.mov.paths = true

theorem PathsCanonical.updPath {s : State} (h : PathsCanonical s) (i : Nat) (f : PathRec → PathRec) : PathsCanonical (s.updPath i f) :=
  twf_tupd h i f

/-- The move with its paths of one input port closed. -/
def Move.closeAt (i code r : Nat) (m : Move) : Move :=
  { m with
    paths := m.paths.map fun p => if p.inp = i then { p with state := code } else p
    reason := if m.reason = 0 then r else m.reason }

/-- The record of a path that its last move closes. -/
theorem State.path_closePath {s : State} (h : PathsCanonical s) {id i : Nat} (hid : (s.path i).moveId = id) (code : Nat) (st : PathState)
    (r : Nat) : (s.closePath id i code st r).path i = { s.path i with state := st, reason := r }
      ∧ (∀ k, k ≠ i → (s.closePath id i code st r).path k = s.path k) ∧ PathsCanonical (s.closePath id i code st r) := by
  have hclose : s.closePath id i code st r = (s.updMove id (Move.closeAt i code r)).updPath i fun x => { x with state := st, reason := r } :=
    if_pos hid
  rw [hclose]
  exact ⟨State.path_updPath_self (s := s.updMove id (Move.closeAt i code r)) h _ _, fun k hk => State.path_updPath_ne _ _ hk,
    PathsCanonical.updPath (s := s.updMove id (Move.closeAt i code r)) h _ _⟩

/-- The paths of a move that close one by one. -/
theorem State.closePath_states {s : State} {id i : Nat} {m : Move} (hm : s.move? id = some m) (code : Nat) (st : PathState) (r : Nat) :
    ∃ m', (s.closePath id i code st r).move? id = some m' ∧ ∀ q ∈ m'.paths, q.inp = i → q.state = code := by
  have hclosed : (s.updMove id (Move.closeAt i code r)).move? id = some (m.closeAt i code r) := by
    rw [State.move?_updMove, if_pos rfl, hm]
    rfl
  obtain ⟨m', hm', rfl⟩ := (State.recPath_moveTo (s.updMove id (Move.closeAt i code r)) id id i st r).own _ hclosed
  refine ⟨_, hm', fun q hq hi => ?_⟩
  obtain ⟨p, -, rfl⟩ := List.mem_map.1 hq
  split
  · rfl
  next hne => rw [if_neg hne] at hi; exact absurd hi hne

theorem exec_pathReady_ready {s : State} {i : BitVec 12} {m : Move} {p : MovePath} (hopen : s.openPath? i.toNat = some (m, p))
    (hready : s.readyNow m p = true) : exec (.pathReady i) s = .next (s.makeReady m p) := by
  change execPathReady i s = _
  unfold execPathReady
  rw [hopen]
  exact congrArg _ (if_pos hready)

theorem exec_settleTimeout_over {s : State} {i : BitVec 12} {m : Move} {p : MovePath} (hopen : s.openPath? i.toNat = some (m, p))
    (hready : s.readyNow m p = false) (hover : s.settleOver p = true) :
    exec (.settleTimeout i) s = .next (s.closePath m.id p.inp 2 .failed (s.settleReason (s.countedNow p.inp))) := by
  change execSettleTimeout i s = _
  unfold execSettleTimeout
  rw [hopen]
  exact congrArg _ (if_pos (by rw [hready, hover]; rfl))

/-- The best reading of those that made a path ready; a BLIND move has none (R242, R248). -/
def State.readyRef (s : State) (m : Move) (p : MovePath) : Option Nat :=
  if m.blind then none else bestPower ((s.countedNow p.inp).take s.readyFrames)

/-- The path closed as ready, with the record that its readiness leaves. -/
def State.readyRecorded (s : State) (m : Move) (p : MovePath) : State :=
  let c := s.closePath m.id p.inp 1 .inService 0
  c.updPath p.inp fun r => { r with out := p.out, unverified := m.blind, readyTick := c.nextTick, hTick := none, counted := [] }

/-- The planner is asked to check the armed entries again (R250). -/
def State.recheckAsked (s : State) : State := { s with mov := { s.mov with recheck := true } }

theorem State.makeReady_eq (s : State) (m : Move) (p : MovePath) : s.makeReady m p
    = ((s.readyRecorded m p).updService p.inp fun _ => { out := p.out, refPower := s.readyRef m p }).recheckAsked := by
  unfold State.makeReady State.readyRecorded State.readyRef State.recheckAsked
  rfl

theorem State.makeReady_reads (s : State) (m : Move) (p : MovePath) :
    (∀ k, (s.makeReady m p).path k = (s.readyRecorded m p).path k)
    ∧ (∀ k, (s.makeReady m p).service k
        = ((s.readyRecorded m p).updService p.inp fun _ => { out := p.out, refPower := s.readyRef m p }).service k)
    ∧ (∀ k, (s.makeReady m p).move? k = (s.readyRecorded m p).move? k) := by
  rw [State.makeReady_eq]
  generalize s.readyRecorded m p = u
  exact ⟨fun _ => rfl, fun _ => rfl, fun _ => rfl⟩

/-- A path becomes ready and enters service (R224, R240, R242, R248). -/
theorem State.makeReady_effect {s : State} (hpaths : PathsCanonical s) (hservice : twf (fun _ => ({} : Service)) s.mov.service = true)
    {m : Move} {p : MovePath} (hm : s.move? m.id = some m) (hid : (s.path p.inp).moveId = m.id) :
    (∃ m', (s.makeReady m p).move? m.id = some m' ∧ ∀ q ∈ m'.paths, q.inp = p.inp → q.state = 1)
    ∧ (s.makeReady m p).path p.inp = { s.path p.inp with
        state := .inService, reason := 0, out := p.out, unverified := m.blind, readyTick := s.nextTick, hTick := none, counted := [] }
    ∧ (s.makeReady m p).service p.inp = { out := p.out, refPower := s.readyRef m p }
    ∧ ∀ k, k ≠ p.inp → (s.makeReady m p).service k = s.service k ∧ (s.makeReady m p).path k = s.path k := by
  obtain ⟨hself, hother, hc⟩ := State.path_closePath hpaths hid 1 .inService 0
  have htick : (s.closePath m.id p.inp 1 .inService 0).nextTick = s.nextTick := by
    unfold State.nextTick
    rw [State.closePath_frame _ _ _ _ _ _ .hrt (by decide)]
  have hserv : (s.readyRecorded m p).mov.service = s.mov.service :=
    (s.closePath_moveTo m.id p.inp (code := 1) (by decide) .inService 0).service
  obtain ⟨hpath, hservices, hmoves⟩ := s.makeReady_reads m p
  refine ⟨?_, ?_, ?_, fun k hk => ⟨?_, ?_⟩⟩
  · rw [hmoves]
    exact State.closePath_states hm 1 .inService 0
  · rw [hpath, State.readyRecorded, State.path_updPath_self hc, hself, htick]
  · rw [hservices]
    exact State.service_updService_self (s := s.readyRecorded m p) (hserv.symm ▸ hservice) _ _
  · rw [hservices, State.service_updService_ne _ _ hk, State.service, hserv, State.service]
  · rw [hpath, State.readyRecorded, State.path_updPath_ne _ _ hk, hother k hk]

-- Deadlines

theorem State.moveNotice_eventsStay (s : State) (m : Move) (event reason result inp out tick : Nat) :
    EventsStay s (s.moveNotice m event reason result inp out tick) := by
  intro e he
  unfold State.moveNotice
  split
  · exact List.mem_append_left _ he
  · exact he

theorem State.stateNotice_eventsStay (s : State) (id event tick : Nat) : EventsStay s (s.stateNotice id event tick) := by
  unfold State.stateNotice
  split
  · exact s.moveNotice_eventsStay _ _ _ _ _ _ _
  · exact fun _ he => he

theorem State.moveEvt_eventsStay (s : State) (b obj arg : Nat) : EventsStay s (s.moveEvt b obj arg) := by
  intro e he
  unfold State.moveEvt
  split
  · exact List.mem_append_left _ he
  · exact he

theorem State.endMove_eventsStay (s : State) (id : Nat) (st : MoveState) (reason tick : Nat) : EventsStay s (s.endMove id st reason tick) := by
  intro e he
  unfold State.endMove
  exact State.moveEvt_eventsStay _ _ _ _ e (State.stateNotice_eventsStay _ _ _ _ e he)

theorem State.abortMove_eventsStay (s : State) (id reason tick : Nat) : EventsStay s (s.abortMove id reason tick) := by
  unfold State.abortMove
  split
  next m hm =>
    extract_lets u v w
    have hu : SameBut [.loops, .mov] s u := SameBut.foldl (fun _ _ => State.abortMirror_frame _ _ _) (SameBut.refl _ _) _
    have hw : SameBut [.loops, .mov] s w :=
      (State.updMove_frame _ _ _).after (by decide) (SameBut.each (fun _ _ => (State.closePath_frame _ _ _ _ _ _).mono (by decide)) hu _)
    have hstay : EventsStay s w := hw.eventsStay (by decide)
    split
    · exact fun e he => State.endMove_eventsStay _ _ _ _ _ e (hstay e he)
    · unfold State.endIfComplete
      split
      · split
        · exact fun e he => State.endMove_eventsStay _ _ _ _ _ e (hstay e he)
        · exact hstay
      · exact hstay
  · exact fun _ he => he

theorem exec_deadlineMissed_due {s : State} {id : BitVec 32} {m : Move} (hm : s.move? id.toNat = some m) (hdue : s.deadlineDue m = true)
    (hopen : s.stillOpen m = true) : exec (.deadlineMissed id) s = .next (s.missDeadline m) := by
  change execDeadlineMissed id s = _
  unfold execDeadlineMissed
  rw [hm]
  exact congrArg _ (if_pos (by rw [hdue, hopen]; rfl))

/-- The deadline marked and told, before the abort that the order may ask for (R244). -/
def State.deadlineTold (s : State) (m : Move) : State :=
  ((s.updMove m.id fun x => { x with missed := true }).stateNotice m.id MoveEvent.deadlineMissed).moveEvt 2 m.id 0

theorem State.deadlineTold_moveTo (s : State) (m : Move) : MoveTo m.id (fun a b => b = { a with missed := true }) s (s.deadlineTold m) := by
  refine MoveTo.after (MoveTo.after ?_ ((State.stateNotice_frame _ _ _ _).moveTo (by decide))) ((State.moveEvt_frame _ _ _ _).moveTo (by decide))
  exact State.updMove_moveTo (R := fun a b => b = { a with missed := true }) (fun _ => rfl) s

theorem State.deadlineTold_frame (s : State) (m : Move) : SameBut [.events, .mov] s (s.deadlineTold m) :=
  (State.moveEvt_frame _ _ _ _).after (by decide) ((State.stateNotice_frame _ _ _ _).after (by decide)
    ((State.updMove_frame _ _ _).mono (by decide)))

theorem State.deadlineTold_notified {s : State} (h : s.twn.role.holds = true) (m : Move) : Notified Src.mov 2 m.id 0 (s.deadlineTold m) := by
  have hrole : ((s.updMove m.id fun x => { x with missed := true }).stateNotice m.id MoveEvent.deadlineMissed).twn = s.twn :=
    (State.stateNotice_frame _ _ _ _ .twn (by decide)).trans rfl
  unfold State.deadlineTold State.moveEvt
  rw [if_pos (by rw [hrole]; exact h)]
  exact List.mem_append_right _ (List.mem_singleton.2 rfl)

theorem State.missDeadline_eq (s : State) (m : Move) :
    s.missDeadline m = if m.abortDl then (s.deadlineTold m).abortMove m.id PathReason.abortDeadline else s.deadlineTold m := rfl

/-- Settles O42. -/
theorem movesRun : Obligations.MovesRun := by
  intro s hcan
  refine ⟨fun id m hm hid hdue => ?_, fun id x m p hm hp hdue hbegun => ⟨fun g => exec_legEnd_next hcan.loops hm hp hdue hbegun,
    exec_legEnd_arrived hm hp hdue hbegun⟩, fun i m p hopen hm hrec => ?_, fun id m hm hid hdue hopen => ?_⟩
  · have hexec := exec_moveStart_due hm hdue
    have hstart := s.startMove_runs m
    rw [hid] at hstart
    have hruns := hstart.trans ((s.startMove m).moveSteps_runs id.toNat) (T := Move.Started s.nextTick) fun a b c hab hbc =>
      ⟨hbc.state.trans hab.state, hbc.tStart.trans hab.tStart, hbc.paths.trans hab.paths⟩
    obtain ⟨m', hm', hstarted⟩ := hruns.own m hm
    exact ⟨_, m', hexec, hm', hstarted.state, hstarted.tStart, hstarted.paths, hruns.others,
      (State.moveSteps_frame _ _).after (by decide) ((State.startMove_frame _ _).mono (by decide))⟩
  · have hi := State.openPath?_inp hopen
    rw [← hi] at hrec ⊢
    refine ⟨fun hready => ?_, fun hready hover => ?_⟩
    · obtain ⟨⟨m', hm', hclosed⟩, hpath, hservice, hother⟩ := State.makeReady_effect hcan.paths hcan.service hm hrec
      refine ⟨_, m', exec_pathReady_ready hopen hready, hm', hclosed, ?_, ?_, ?_, ?_, ?_, ?_, hother, State.makeReady_frame _ _ _⟩
      · rw [hpath]
      · rw [hpath]
      · rw [hpath]
      · rw [hpath]
      · rw [hservice]
      · rw [hservice]
        rfl
    · obtain ⟨hself, hne, -⟩ := State.path_closePath hcan.paths hrec 2 .failed (s.settleReason (s.countedNow p.inp))
      obtain ⟨m', hm', hclosed⟩ := State.closePath_states (i := p.inp) hm 2 .failed (s.settleReason (s.countedNow p.inp))
      refine ⟨_, m', exec_settleTimeout_over hopen hready hover, hm', hclosed, ?_, ?_, hne,
        (s.closePath_moveTo m.id p.inp (by decide) .failed _).service, State.closePath_frame _ _ _ _ _ _⟩
      · rw [hself]
      · rw [hself]
  · have hexec := exec_deadlineMissed_due hm hdue hopen
    have hframe := State.missDeadline_frame s m
    rw [State.missDeadline_eq, hid] at hexec hframe
    have htold := s.deadlineTold_moveTo m
    have hloops := (s.deadlineTold_frame m) .loops (by decide)
    rw [hid] at htold
    obtain ⟨m₁, hm₁, rfl⟩ := htold.own m hm
    by_cases habort : m.abortDl = true
    · rw [if_pos habort] at hexec hframe
      have hmove := (s.deadlineTold m).abortMove_moveTo m.id PathReason.abortDeadline (s.deadlineTold m).nextTick
      rw [hid] at hmove
      obtain ⟨m', hm', haborted⟩ := hmove.own _ hm₁
      refine ⟨_, m', hexec, hm', haborted.missed, fun h => absurd (habort.symm.trans h) (by decide), fun _ p hp h0 => ?_, fun hrole => ?_, hframe⟩
      · rw [← haborted.settled p hp h0]
        exact congrArg Service.out (congrArg (fun t => tget (fun _ => ({} : Service)) t p.inp) htold.service.symm)
      · rw [← hid]
        exact State.abortMove_eventsStay _ _ _ _ _ (State.deadlineTold_notified hrole m)
    · rw [if_neg habort] at hexec hframe
      exact ⟨_, _, hexec, hm₁, rfl, fun _ => ⟨rfl, hloops⟩, fun h => absurd h habort, fun hrole => hid ▸ State.deadlineTold_notified hrole m, hframe⟩

end Sys2Proof.Machine
end

-- The shelves ----------------------------------------------------------------------------------------------------------------
section
/-! O44: words written to a shelf, swaps of its banks, pops, the stale-tail timer, FLUSH and EMPTY. -/
namespace Sys2Proof.Machine

abbrev ShelvesCanonical (s : State) : Prop := twf (fun _ => ({} : Shelf)) s.shelves = true

theorem ShelvesCanonical.updShelf {s : State} (h : ShelvesCanonical s) (n : Nat) (f : Shelf → Shelf) : ShelvesCanonical (s.updShelf n f) :=
  twf_tupd h n f

theorem SameBut.shelvesCanonical {l : List Part} {s t : State} (h : SameBut l s t) (hl : .shelves ∉ l) (hs : ShelvesCanonical s) :
    ShelvesCanonical t := by
  have hshelves : t.shelves = s.shelves := h .shelves hl
  unfold ShelvesCanonical
  rw [hshelves]
  exact hs

theorem SameBut.shelf_eq {l : List Part} {s t : State} (h : SameBut l s t) (hl : .shelves ∉ l) (k : Nat) : t.shelf k = s.shelf k := by
  have hshelves : t.shelves = s.shelves := h .shelves hl
  unfold State.shelf
  rw [hshelves]

-- Swaps

/-- The shelf after the exchange of its banks (R294). -/
def Shelf.swapped (m : Nat) (x : Shelf) : Shelf :=
  { x with drain := x.fill, fill := [], swapPend := false, popped := 0
           drainExtra := pagesFor (wordsOf x.fill) - m, fillExtra := pagesFor x.opened.length - m }

theorem State.shelf_swapShelf {s : State} (h : ShelvesCanonical s) (n : Nat) :
    (s.swapShelf n).shelf n = (s.shelf n).swapped (s.minPages n) := State.shelf_updShelf_self h n _

theorem State.swapNow_due {s : State} {n : Nat} (h : s.swapDue n (!s.hasRoom n && !s.canGrow n) = true) : s.swapNow n = s.swapShelf n :=
  if_pos h

theorem State.swapNow_not {s : State} {n : Nat} (h : s.swapDue n (!s.hasRoom n && !s.canGrow n) = false) : s.swapNow n = s :=
  if_neg (by rw [h]; exact Bool.false_ne_true)

/-- No swap while the drain bank holds a packet, or while there is none to read (R294). -/
theorem State.swapDue_not {s : State} {n : Nat} (h : (s.shelf n).drain ≠ [] ∨ (s.shelf n).reserved ≠ [] ∨ (s.shelf n).fill = [])
    (stuck : Bool) : s.swapDue n stuck = false := by
  unfold State.swapDue
  dsimp only
  rcases h with h | h | h
  · simp [h]
  · simp [h]
  · simp [h]

/-- A swap is due as soon as the mode of the shelf, or what is pending, asks for it (R294). -/
theorem State.swapDue_ready {s : State} {n : Nat} (hdrain : (s.shelf n).drain = []) (hreserved : (s.shelf n).reserved = [])
    (hfill : (s.shelf n).fill ≠ []) (hmode : (s.shelf n).swapMode = 0 ∨ (s.shelf n).swapPend = true) (stuck : Bool) :
    s.swapDue n stuck = true := by
  unfold State.swapDue
  dsimp only
  rcases hmode with h | h <;> simp [hdrain, hreserved, hfill, h]

/-- What a swap, made or not, leaves of a shelf whose own part is known. -/
theorem State.swapNow_stays {s : State} {n : Nat} (h : (s.shelf n).drain ≠ [] ∨ (s.shelf n).reserved ≠ [] ∨ (s.shelf n).fill = []) :
    s.swapNow n = s := State.swapNow_not (State.swapDue_not h _)

theorem State.shelf_swapNow_ready {s : State} (h : ShelvesCanonical s) {n : Nat} (hdrain : (s.shelf n).drain = [])
    (hreserved : (s.shelf n).reserved = []) (hfill : (s.shelf n).fill ≠ [])
    (hmode : (s.shelf n).swapMode = 0 ∨ (s.shelf n).swapPend = true) : (s.swapNow n).shelf n = (s.shelf n).swapped (s.minPages n) := by
  rw [State.swapNow_due (State.swapDue_ready hdrain hreserved hfill hmode _), State.shelf_swapShelf h]

theorem State.shelf_swapNow_ne (s : State) {n k : Nat} (hk : k ≠ n) : (s.swapNow n).shelf k = s.shelf k := by
  unfold State.swapNow
  split
  · exact State.shelf_updShelf_ne s _ hk
  · rfl

theorem State.waiting_swapNow {s : State} (h : ShelvesCanonical s) (n : Nat) : ((s.swapNow n).shelf n).waiting = (s.shelf n).waiting := by
  unfold State.swapNow
  split
  · rw [State.shelf_swapShelf h]
    rfl
  · rfl

theorem State.resume_none {s : State} {n : Nat} (h : (s.shelf n).waiting = []) : s.resume n = s := by
  unfold State.resume
  rw [h]
  rfl

theorem State.resume_swapNow {s : State} (h : ShelvesCanonical s) {n : Nat} (hw : (s.shelf n).waiting = []) :
    (s.swapNow n).resume n = s.swapNow n := State.resume_none (by rw [State.waiting_swapNow h, hw])

-- Words written

theorem State.pushWord_first {s : State} {n : Nat} (h : (s.shelf n).waiting = []) {w : Word} (hw : wordPoison w = false) :
    (∀ t, s.makeRoom n = some t → s.pushWord n w = t.storeWord n w)
    ∧ (s.makeRoom n = none → s.pushWord n w = if porchShelf n then s.rewind n 0 4
        else (s.updShelf n fun x => { x with waiting := [w] }).shelfEvt n 0) := by
  have htry : s.tryWord n w = (s.makeRoom n).map fun t => t.storeWord n w := if_neg (by rw [hw]; exact Bool.false_ne_true)
  unfold State.pushWord
  rw [if_pos (by rw [h]; rfl), htry]
  constructor
  · intro t ht
    rw [ht]
    rfl
  · intro hnone
    rw [hnone]
    rfl

theorem State.makeRoom_room {s : State} {n : Nat} (h : s.hasRoom n = true) : s.makeRoom n = some s := if_pos h

/-- A word that ends its packet commits it (R290, R291). -/
theorem State.storeWord_end (s : State) (n : Nat) {w : Word} (h : wordEnd w = true) :
    s.storeWord n w = (s.updShelf n fun x => { x with fill := x.fill ++ [x.opened ++ [storedWord w]], opened := [] }).swapNow n := by
  unfold State.storeWord
  dsimp only
  rw [if_pos h]

theorem State.storeWord_more {s : State} {n : Nat} {w : Word} (h : wordEnd w = false)
    (hmax : (s.shelf n).opened.length + 1 < 512 * s.maxPages n) :
    s.storeWord n w = s.updShelf n fun x => { x with opened := x.opened ++ [storedWord w] } := by
  unfold State.storeWord
  dsimp only
  rw [if_neg (by rw [h]; exact Bool.false_ne_true), if_neg (by omega)]

theorem State.field_shelfEvt {s : State} (h : RegsCanonical s) (n : Nat) {b : Nat} (hb : b < 64) (seats : List Nat) :
    (s.shelfEvt n b seats).field (Reg.SHF_EVT n) b 1 = 1 := State.field_setField_self h _ _ (by omega)

/-- The shelf after its open packet is discarded (R291). -/
def Shelf.rewound (m : Nat) (x : Shelf) : Shelf :=
  { x with opened := [], fillExtra := min x.fillExtra (pagesFor (wordsOf x.fill) - m) }

theorem State.shelf_rewind {s : State} (h : ShelvesCanonical s) (n lo evt : Nat) :
    (s.rewind n lo evt).shelf n = (s.shelf n).rewound (s.minPages n) :=
  ((State.shelfEvt_frame _ _ _ _).shelf_eq (by decide) n).trans (((State.count_frame _ _ _ _ _).shelf_eq (by decide) n).trans
    (State.shelf_updShelf_self h n _))

theorem State.shelf_rewind_ne (s : State) {n k : Nat} (lo evt : Nat) (hk : k ≠ n) : (s.rewind n lo evt).shelf k = s.shelf k :=
  ((State.shelfEvt_frame _ _ _ _).shelf_eq (by decide) k).trans (((State.count_frame _ _ _ _ _).shelf_eq (by decide) k).trans
    (State.shelf_updShelf_ne s _ hk))

theorem State.field_rewind_self {s : State} (h : RegsCanonical s) (n : Nat) {lo : Nat} (hlo : lo + 16 ≤ 64) (evt : Nat) :
    (s.rewind n lo evt).field (Reg.SHF_DROP n) lo 16 = min (2 ^ 16 - 1) (s.field (Reg.SHF_DROP n) lo 16 + 1) := by
  unfold State.rewind State.shelfEvt
  dsimp only
  have hraise : ∀ (u : State) (l : List Nat), (u.raiseTo l Src.shf evt n).field (Reg.SHF_DROP n) lo 16 = u.field (Reg.SHF_DROP n) lo 16 :=
    fun _ _ => rfl
  rw [hraise, State.field_setField_ne _ _ _ _ _ _ (by unfold Reg.SHF_DROP Reg.SHF_EVT; omega)]
  exact State.field_count_self h _ _ hlo

theorem exec_shelfWrite_word {s : State} {n : BitVec 10} (h : s.shelfCls n.toNat ≠ 0) (w : Word) :
    exec (.shelfWrite n (.word w)) s = .next (s.pushWord n.toNat w) := by
  change execShelfWrite n (.word w) s = _
  unfold execShelfWrite
  dsimp only
  rw [if_neg h]

theorem exec_shelfWrite_abort {s : State} {n : BitVec 10} (h : s.shelfCls n.toNat ≠ 0) :
    exec (.shelfWrite n .abort) s = .next (s.abortPacket n.toNat) := by
  change execShelfWrite n .abort s = _
  unfold execShelfWrite
  dsimp only
  rw [if_neg h]

/-- A packet is committed, and the banks swap if they may (R290, R294). -/
theorem exec_shelfWrite_end {s : State} (h : ShelvesCanonical s) {n : BitVec 10} (hcls : s.shelfCls n.toNat ≠ 0)
    (hwait : (s.shelf n.toNat).waiting = []) {w : Word} (hw : wordPoison w = false) (hroom : s.hasRoom n.toNat = true) (hend : wordEnd w = true) :
    ∃ t, exec (.shelfWrite n (.word w)) s = .next t
      ∧ ((s.shelf n.toNat).drain ≠ [] ∨ (s.shelf n.toNat).reserved ≠ [] → t.shelf n.toNat = { s.shelf n.toNat with
          fill := (s.shelf n.toNat).fill ++ [(s.shelf n.toNat).opened ++ [storedWord w]], opened := [] })
      ∧ ((s.shelf n.toNat).drain = [] → (s.shelf n.toNat).reserved = [] → (s.shelf n.toNat).swapMode = 0 →
          (t.shelf n.toNat).drain = (s.shelf n.toNat).fill ++ [(s.shelf n.toNat).opened ++ [storedWord w]] ∧ (t.shelf n.toNat).fill = []
          ∧ (t.shelf n.toNat).opened = [])
      ∧ (∀ k, k ≠ n.toNat → t.shelf k = s.shelf k) ∧ SameBut [.shelves] s t := by
  have hexec := exec_shelfWrite_word hcls w
  rw [(State.pushWord_first hwait hw).1 s (State.makeRoom_room hroom), State.storeWord_end _ _ hend] at hexec
  let u := s.updShelf n.toNat fun x => { x with fill := x.fill ++ [x.opened ++ [storedWord w]], opened := [] }
  have hself : u.shelf n.toNat = { s.shelf n.toNat with
      fill := (s.shelf n.toNat).fill ++ [(s.shelf n.toNat).opened ++ [storedWord w]], opened := [] } := State.shelf_updShelf_self h _ _
  have hcan : ShelvesCanonical u := h.updShelf _ _
  refine ⟨_, hexec, fun hfull => ?_, fun hdrain hreserved hmode => ?_, fun k hk => ?_,
    (State.swapNow_frame _ _).after (by decide) (State.updShelf_frame _ _ _)⟩
  · rw [State.swapNow_stays (s := u) (by rw [hself]; exact hfull.imp_right Or.inl), hself]
  · have hswap := State.shelf_swapNow_ready hcan (n := n.toNat) (by rw [hself]; exact hdrain) (by rw [hself]; exact hreserved)
      (by rw [hself]; simp) (by rw [hself]; exact Or.inl hmode)
    rw [hswap, hself]
    exact ⟨rfl, rfl, rfl⟩
  · exact (State.shelf_swapNow_ne u hk).trans (State.shelf_updShelf_ne s _ hk)

-- Writes that wait

/-- The contributions of a table's entries, where an unlisted one contributes nothing. -/
theorem sum_tset {α : Type} [DecidableEq α] {d : Nat → α} {t : List (Nat × α)} (h : twf d t = true) (g : Nat × α → Nat)
    (hg : ∀ i, g (i, d i) = 0) (i : Nat) (v : α) :
    ((tset d t i v).map g).sum + g (i, tget d t i) = (t.map g).sum + g (i, v) := by
  have hcons : ∀ t : List (Nat × α), ((tcons d i v t).map g).sum = (t.map g).sum + g (i, v) := by
    intro t
    unfold tcons
    split
    next heq => rw [heq, hg, Nat.add_zero]
    · rw [List.map_cons, List.sum_cons, Nat.add_comm]
  unfold twf at h
  generalize (none : Option Nat) = lo at h
  induction t generalizing lo with
  | nil => simp only [tset, hcons, tget, hg, Nat.add_zero]
  | cons e t ih =>
    obtain ⟨j, w⟩ := e
    obtain ⟨-, -, ht⟩ := twfFrom_cons h
    have habove : keysAbove j t := twfFrom_keysAbove ht
    rw [tset]
    by_cases hlt : i < j
    · have hget : tget d ((j, w) :: t) i = d i := by
        rw [tget, if_neg (by omega)]
        exact tget_of_keysAbove fun p hp => Nat.lt_trans hlt (habove p hp)
      rw [if_pos hlt, hcons, hget, hg, Nat.add_zero]
    · rw [if_neg hlt]
      by_cases heq : i = j
      · subst heq
        rw [if_pos rfl, hcons, tget, if_pos rfl, List.map_cons, List.sum_cons]
        omega
      · rw [if_neg heq, List.map_cons, List.map_cons, List.sum_cons, List.sum_cons, tget, if_neg (Ne.symm heq)]
        have hrest := ih _ ht
        omega

/-- Room in a bank does not depend on the writes that wait for it. -/
theorem State.hasRoom_waiting {s : State} (h : ShelvesCanonical s) (n : Nat) (ws : List Word) :
    (s.updShelf n fun x => { x with waiting := ws }).hasRoom n = s.hasRoom n := by
  let u := s.updShelf n fun x => { x with waiting := ws }
  have hself : u.shelf n = { s.shelf n with waiting := ws } := State.shelf_updShelf_self h _ _
  have hmin : ∀ k, u.minPages k = s.minPages k := by
    intro k
    have hpages : (u.shelf k).minPages = (s.shelf k).minPages := by
      by_cases hk : k = n
      · subst hk
        rw [hself]
      · rw [State.shelf_updShelf_ne s _ hk]
    unfold State.minPages
    rw [hpages]
    rfl
  have hused : u.poolUsed = s.poolUsed := by
    have hsum := sum_tset h (fun p => if 64 ≤ p.1 then 2 * p.2.minPages + p.2.fillExtra + p.2.drainExtra else 0) (by simp) n
      { s.shelf n with waiting := ws }
    have hsame : (u.shelves.map fun p => if 64 ≤ p.1 then 2 * p.2.minPages + p.2.fillExtra + p.2.drainExtra else 0).sum
        = (s.shelves.map fun p => if 64 ≤ p.1 then 2 * p.2.minPages + p.2.fillExtra + p.2.drainExtra else 0).sum :=
      Nat.add_right_cancel hsum
    have hlanes : (List.range 16).map (fun n => 2 * u.minPages n) = (List.range 16).map fun n => 2 * s.minPages n :=
      List.map_congr_left fun k _ => by rw [hmin]
    unfold State.poolUsed
    dsimp only
    rw [hsame, hlanes]
    rfl
  have hshort : u.poolShort = s.poolShort := by
    unfold State.poolShort
    rw [hused]
    rfl
  change u.hasRoom n = _
  unfold State.hasRoom
  rw [hmin, hshort, hself]
  rfl

theorem State.waiting_storeWord {s : State} (h : ShelvesCanonical s) (n : Nat) (w : Word) :
    ((s.storeWord n w).shelf n).waiting = (s.shelf n).waiting := by
  unfold State.storeWord
  dsimp only
  split
  · rw [State.waiting_swapNow (h.updShelf _ _), State.shelf_updShelf_self h]
  split
  · rw [State.shelf_rewind h]
    rfl
  · rw [State.shelf_updShelf_self h]

/-- The one word that waits goes on where there is room (R295). -/
theorem State.resume_one {s : State} (h : ShelvesCanonical s) {n : Nat} {w : Word} (hwait : (s.shelf n).waiting = [w])
    (hw : wordPoison w = false) (hroom : s.hasRoom n = true) : ((s.resume n).shelf n).waiting = [] := by
  let u := s.updShelf n fun x => { x with waiting := [] }
  have hself : u.shelf n = { s.shelf n with waiting := [] } := State.shelf_updShelf_self h _ _
  have htry : u.tryWord n w = some (u.storeWord n w) := by
    unfold State.tryWord
    rw [if_neg (by rw [hw]; exact Bool.false_ne_true), State.makeRoom_room ((State.hasRoom_waiting h n []).trans hroom)]
    rfl
  have hresume : s.resume n = u.storeWord n w := by
    unfold State.resume
    rw [hwait]
    change State.resumeShelf n 1 s = _
    unfold State.resumeShelf
    rw [hwait]
    dsimp only
    rw [htry]
    rfl
  rw [hresume, State.waiting_storeWord (h.updShelf _ _), hself]

-- Pops

/-- The shelf after a pop of a sound word that leaves the packets `ds` (R287, R298). -/
def Shelf.poppedTo (m : Nat) (ds : List (List Word)) (x : Shelf) : Shelf := Shelf.countPop m { x with drain := ds, poison := false }

theorem State.popWord_sound {s : State} {n : Nat} {w : Word} {ws : List Word} {ps : List (List Word)}
    (hdrain : (s.shelf n).drain = (w :: ws) :: ps) (hpoison : (s.shelf n).poison = false) :
    s.popWord n .good = ({ s.updShelf n (Shelf.poppedTo (s.minPages n) (if ws.isEmpty then ps else ws :: ps)) with
      readData := poppedWord w false .good }).swapNow n := by
  unfold State.popWord
  rw [hdrain]
  dsimp only
  have hsound : (false || decide (WordCheck.good = .uncorrectable)) = false := by decide
  rw [hpoison, hsound, Bool.false_and]
  rfl

/-- A consumer seat pops a sound word (R292, R298). -/
theorem exec_shelfPop_sound {s : State} (h : ShelvesCanonical s) {seat : BitVec 3} {n : BitVec 10} {w : Word} {ws : List Word}
    {ps : List (List Word)} (hcls : (s.shelf n.toNat).cls ≠ 0) (hkind : (s.shelf n.toNat).consKind = 4)
    (hindex : (s.shelf n.toNat).consIndex = seat.toNat) (hdrain : (s.shelf n.toNat).drain = (w :: ws) :: ps)
    (hpoison : (s.shelf n.toNat).poison = false) (hwait : (s.shelf n.toNat).waiting = []) :
    ∃ t, exec (.shelfPop seat n .full .good) s = .next t ∧ t.readData = poppedWord w false .good
      ∧ (ws ≠ [] ∨ ps ≠ [] → (t.shelf n.toNat).drain = (if ws.isEmpty then ps else ws :: ps) ∧ (t.shelf n.toNat).fill = (s.shelf n.toNat).fill
          ∧ (t.shelf n.toNat).popped = (s.shelf n.toNat).popped + 1)
      ∧ (ws = [] → ps = [] → (s.shelf n.toNat).reserved = [] → (s.shelf n.toNat).swapMode = 0 →
          (t.shelf n.toNat).drain = (s.shelf n.toNat).fill ∧ (t.shelf n.toNat).fill = [])
      ∧ (∀ k, k ≠ n.toNat → t.shelf k = s.shelf k) ∧ SameBut [.shelves, .readData] s t := by
  have hpop : exec (.shelfPop seat n .full .good) s = .next ((s.popWord n.toNat .good).resume n.toNat) :=
    if_pos ⟨rfl, hcls, hkind, hindex⟩
  rw [State.popWord_sound hdrain hpoison] at hpop
  generalize poppedWord w false .good = d at hpop ⊢
  let v := s.updShelf n.toNat (Shelf.poppedTo (s.minPages n.toNat) (if ws.isEmpty then ps else ws :: ps))
  let u : State := { v with readData := d }
  have huv : SameBut [.readData] v u := SameBut.readData_frame _ _
  have hself : u.shelf n.toNat = (s.shelf n.toNat).poppedTo (s.minPages n.toNat) (if ws.isEmpty then ps else ws :: ps) :=
    (huv.shelf_eq (by decide) _).trans (State.shelf_updShelf_self h _ _)
  have hcan : ShelvesCanonical u := huv.shelvesCanonical (by decide) (h.updShelf _ _)
  have hexec : exec (.shelfPop seat n .full .good) s = .next (u.swapNow n.toNat) := by
    rw [hpop, State.resume_swapNow hcan (by rw [hself]; exact hwait)]
  have hframe : SameBut [.shelves, .readData] s (u.swapNow n.toNat) :=
    (State.swapNow_frame _ _).after (by decide) ((SameBut.readData_frame _ _).after (by decide) ((State.updShelf_frame _ _ _).mono (by decide)))
  refine ⟨_, hexec, State.swapNow_frame u n.toNat .readData (by decide), fun hmore => ?_, fun hws hps hreserved hmode => ?_, fun k hk => ?_, hframe⟩
  · have hdrain' : (u.shelf n.toNat).drain ≠ [] := by
      rw [hself]
      change (if ws.isEmpty then ps else ws :: ps) ≠ []
      cases ws with
      | nil => exact hmore.resolve_left fun hne => hne rfl
      | cons => exact List.cons_ne_nil _ _
    rw [State.swapNow_stays (Or.inl hdrain'), hself]
    exact ⟨rfl, rfl, rfl⟩
  · subst hws hps
    by_cases hfill : (s.shelf n.toNat).fill = []
    · rw [State.swapNow_stays (s := u) (Or.inr (Or.inr (by rw [hself]; exact hfill))), hself]
      exact ⟨hfill.symm, hfill⟩
    · have hswap := State.shelf_swapNow_ready hcan (n := n.toNat) (by rw [hself]; rfl) (by rw [hself]; exact hreserved) (by rw [hself]; exact hfill)
        (by rw [hself]; exact Or.inl hmode)
      rw [hswap, hself]
      exact ⟨rfl, rfl⟩
  · exact (State.shelf_swapNow_ne u hk).trans ((huv.shelf_eq (by decide) k).trans (State.shelf_updShelf_ne s _ hk))

-- A swap that is pending

/-- Where a swap is pending, the banks swap as soon as the drain bank is empty (R294, R300). -/
theorem State.swapNow_pending {s : State} (h : ShelvesCanonical s) {n : Nat} (hpend : (s.shelf n).swapPend = true) :
    ((s.shelf n).drain ≠ [] ∨ (s.shelf n).reserved ≠ [] ∨ (s.shelf n).fill = [] → (s.swapNow n).shelf n = s.shelf n)
    ∧ ((s.shelf n).drain = [] → (s.shelf n).reserved = [] → (s.shelf n).fill ≠ [] →
        (s.swapNow n).shelf n = (s.shelf n).swapped (s.minPages n)) :=
  ⟨fun hnot => by rw [State.swapNow_stays hnot],
    fun hdrain hreserved hfill => State.shelf_swapNow_ready h hdrain hreserved hfill (Or.inr hpend)⟩

/-- The stale-tail timer asks for a swap and tells the seat (R300). -/
theorem exec_staleTimer_fires {s : State} (hcan : Canonical s) {n : BitVec 10} (hnotice : (s.shelf n.toNat).notice = 1)
    (hfired : (s.shelf n.toNat).fired = false) (hwait : (s.shelf n.toNat).waiting = [])
    (hany : (s.shelf n.toNat).drain ≠ [] ∨ (s.shelf n.toNat).fill ≠ []) :
    ∃ t, exec (.staleTimer n) s = .next t
      ∧ ((s.shelf n.toNat).drain ≠ [] ∨ (s.shelf n.toNat).reserved ≠ [] → t.shelf n.toNat = { s.shelf n.toNat with swapPend := true, fired := true })
      ∧ ((s.shelf n.toNat).drain = [] → (s.shelf n.toNat).reserved = [] → (t.shelf n.toNat).drain = (s.shelf n.toNat).fill
          ∧ (t.shelf n.toNat).fill = [] ∧ (t.shelf n.toNat).fired = true ∧ (t.shelf n.toNat).swapPend = false)
      ∧ t.field (Reg.SHF_EVT n.toNat) 1 1 = 1 ∧ Event.mk Src.shf 0 1 n.toNat 0 [] [(s.shelf n.toNat).seatOf] ∈ t.events
      ∧ (∀ k, k ≠ n.toNat → t.shelf k = s.shelf k) ∧ SameBut [.shelves, .regs, .events] s t := by
  have h : ShelvesCanonical s := hcan.shelves
  let v := s.updShelf n.toNat fun x => { x with swapPend := true, fired := true }
  let u := v.shelfEvt n.toNat 1 [(s.shelf n.toNat).seatOf]
  have hevt := State.shelfEvt_frame v n.toNat 1 [(s.shelf n.toNat).seatOf]
  have hself : u.shelf n.toNat = { s.shelf n.toNat with swapPend := true, fired := true } :=
    (hevt.shelf_eq (by decide) _).trans (State.shelf_updShelf_self h _ _)
  have hother : ∀ k, k ≠ n.toNat → u.shelf k = s.shelf k := fun k hk =>
    (hevt.shelf_eq (by decide) _).trans (State.shelf_updShelf_ne s _ hk)
  have hcu : ShelvesCanonical u := hevt.shelvesCanonical (by decide) (h.updShelf _ _)
  have hfires : exec (.staleTimer n) s = .next ((u.swapNow n.toNat).resume n.toNat) := by
    refine if_pos ⟨hnotice, by rw [hfired]; rfl, ?_⟩
    rcases hany with hne | hne <;> simp [hne]
  have hexec : exec (.staleTimer n) s = .next (u.swapNow n.toNat) := by
    rw [hfires, State.resume_swapNow hcu (by rw [hself]; exact hwait)]
  have hswap := State.swapNow_frame u n.toNat
  obtain ⟨hstays, hgoes⟩ := State.swapNow_pending hcu (n := n.toNat) (by rw [hself])
  rw [hself] at hstays hgoes
  refine ⟨_, hexec, fun hfull => hstays (hfull.imp_right Or.inl), fun hdrain hreserved => ?_, ?_, ?_, fun k hk => ?_, ?_⟩
  · rw [hgoes hdrain hreserved (hany.resolve_left fun hne => hne hdrain)]
    exact ⟨rfl, rfl, rfl, rfl⟩
  · rw [State.field, hswap.reg_eq (by decide)]
    exact State.field_shelfEvt (s := v) hcan.regs _ (by decide) _
  · rw [hswap .events (by decide)]
    exact List.mem_append_right _ (List.mem_singleton.2 rfl)
  · exact (State.shelf_swapNow_ne u hk).trans (hother k hk)
  · exact hswap.after (by decide) (hevt.after (by decide) ((State.updShelf_frame _ _ _).mono (by decide)))

/-- FLUSH leaves a swap pending (R307). -/
theorem exec_flush_pends {s : State} (h : ShelvesCanonical s) {n : BitVec 10} (hcls : s.shelfCls n.toNat ≠ 0)
    (hwait : (s.shelf n.toNat).waiting = []) : ∃ t, exec (.flush n) s = .next t
      ∧ ((s.shelf n.toNat).drain ≠ [] ∨ (s.shelf n.toNat).reserved ≠ [] ∨ (s.shelf n.toNat).fill = [] →
          t.shelf n.toNat = { s.shelf n.toNat with swapPend := true })
      ∧ ((s.shelf n.toNat).drain = [] → (s.shelf n.toNat).reserved = [] → (s.shelf n.toNat).fill ≠ [] →
          (t.shelf n.toNat).drain = (s.shelf n.toNat).fill ∧ (t.shelf n.toNat).fill = [])
      ∧ (∀ k, k ≠ n.toNat → t.shelf k = s.shelf k) ∧ SameBut [.shelves] s t := by
  let u := s.updShelf n.toNat fun x => { x with swapPend := true }
  have hself : u.shelf n.toNat = { s.shelf n.toNat with swapPend := true } := State.shelf_updShelf_self h _ _
  have hcu : ShelvesCanonical u := h.updShelf _ _
  have hpends : exec (.flush n) s = .next ((u.swapNow n.toNat).resume n.toNat) := if_neg hcls
  have hexec : exec (.flush n) s = .next (u.swapNow n.toNat) := by
    rw [hpends, State.resume_swapNow hcu (by rw [hself]; exact hwait)]
  obtain ⟨hstays, hgoes⟩ := State.swapNow_pending hcu (n := n.toNat) (by rw [hself])
  rw [hself] at hstays hgoes
  refine ⟨_, hexec, hstays, fun hdrain hreserved hfill => ?_, fun k hk => ?_,
    (State.swapNow_frame _ _).after (by decide) (State.updShelf_frame _ _ _)⟩
  · rw [hgoes hdrain hreserved hfill]
    exact ⟨rfl, rfl⟩
  · exact (State.shelf_swapNow_ne u hk).trans (State.shelf_updShelf_ne s _ hk)

/-- ABORT discards the open packet and the writes that wait (R291). -/
theorem exec_shelfWrite_aborts {s : State} (hcan : Canonical s) {n : BitVec 10} (hcls : s.shelfCls n.toNat ≠ 0)
    (hopened : (s.shelf n.toNat).opened ≠ []) : ∃ t, exec (.shelfWrite n .abort) s = .next t
      ∧ (t.shelf n.toNat).opened = [] ∧ (t.shelf n.toNat).waiting = [] ∧ (t.shelf n.toNat).fill = (s.shelf n.toNat).fill
      ∧ (t.shelf n.toNat).drain = (s.shelf n.toNat).drain
      ∧ t.field (Reg.SHF_DROP n.toNat) 32 16 = min (2 ^ 16 - 1) (s.field (Reg.SHF_DROP n.toNat) 32 16 + 1)
      ∧ (∀ k, k ≠ n.toNat → t.shelf k = s.shelf k) ∧ SameBut [.shelves, .regs, .events] s t := by
  have h : ShelvesCanonical s := hcan.shelves
  let u := if (s.shelf n.toNat).waiting.isEmpty then s else s.updShelf n.toNat fun x => { x with waiting := [] }
  have hu : u.shelf n.toNat = { s.shelf n.toNat with waiting := [] } ∧ (∀ k, k ≠ n.toNat → u.shelf k = s.shelf k) ∧ ShelvesCanonical u
      ∧ SameBut [.shelves] s u := by
    by_cases hempty : (s.shelf n.toNat).waiting.isEmpty = true
    · have hus : u = s := if_pos hempty
      have hnil : (s.shelf n.toNat).waiting = [] := List.isEmpty_iff.1 hempty
      rw [hus, ← hnil]
      exact ⟨rfl, fun _ _ => rfl, h, SameBut.refl _ _⟩
    · have hus : u = s.updShelf n.toNat fun x => { x with waiting := [] } := if_neg hempty
      rw [hus]
      exact ⟨State.shelf_updShelf_self h _ _, fun k hk => State.shelf_updShelf_ne s _ hk, h.updShelf _ _, State.updShelf_frame _ _ _⟩
  obtain ⟨hself, hother, hcu, hframe⟩ := hu
  have habort : s.abortPacket n.toNat = u.rewind n.toNat 32 2 := if_neg (by simp [hopened])
  have hexec := exec_shelfWrite_abort hcls
  rw [habort] at hexec
  have hrewound := State.shelf_rewind hcu n.toNat 32 2
  rw [hself] at hrewound
  have hregs : RegsCanonical u := by
    unfold RegsCanonical
    rw [hframe .regs (by decide)]
    exact hcan.regs
  refine ⟨_, hexec, ?_, ?_, ?_, ?_, ?_, fun k hk => (State.shelf_rewind_ne u _ _ hk).trans (hother k hk),
    (State.rewind_frame _ _ _ _).after (by decide) (hframe.mono (by decide))⟩
  · rw [hrewound]
    rfl
  · rw [hrewound]
    rfl
  · rw [hrewound]
    rfl
  · rw [hrewound]
    rfl
  · rw [State.field_rewind_self hregs _ (by decide), State.field, hframe.reg_eq (by decide), State.field]

/-- Settles O44. -/
theorem shelves : Obligations.Shelves := by
  intro s n hcan
  have h : ShelvesCanonical s := hcan.shelves
  refine ⟨fun hcls hwait w hw hroom => ⟨exec_shelfWrite_end h hcls hwait hw hroom, fun hmore hmax => ?_⟩,
    fun hcls hwait w hw hnone => ⟨fun hporch => ?_, fun hporch => ?_⟩, fun hcls hwait w => ?_, fun hcls hopened => ?_,
    fun hcls op => if_pos hcls, fun hdue hwait => ?_, fun w hdue hwait hw hroom => ?_, fun hdue hwait => ?_,
    fun seat w ws ps hcls hkind hindex hdrain hpoison hwait => ?_, fun seat w c hnot => ?_, fun hnotice hfired hwait hany => ?_, fun hfired => ?_,
    fun hcls hwait => ⟨?_, ?_⟩⟩
  · have hexec := exec_shelfWrite_word hcls w
    rw [(State.pushWord_first hwait hw).1 s (State.makeRoom_room hroom), State.storeWord_more hmore hmax] at hexec
    exact ⟨_, hexec, State.shelf_updShelf_self h _ _, fun k hk => State.shelf_updShelf_ne s _ hk, State.updShelf_frame _ _ _⟩
  · have hexec := exec_shelfWrite_word hcls w
    rw [(State.pushWord_first hwait hw).2 hnone, if_neg (by rw [hporch]; exact Bool.false_ne_true)] at hexec
    refine ⟨_, hexec, ?_, fun k hk => ?_, State.field_shelfEvt (s := s.updShelf n.toNat _) hcan.regs _ (by decide) _, (exec_frame _ _ _ hexec).mono (by simp [touches])⟩
    · exact ((State.shelfEvt_frame _ _ _ _).shelf_eq (by decide) _).trans (State.shelf_updShelf_self h _ _)
    · exact ((State.shelfEvt_frame _ _ _ _).shelf_eq (by decide) _).trans (State.shelf_updShelf_ne s _ hk)
  · have hexec := exec_shelfWrite_word hcls w
    rw [(State.pushWord_first hwait hw).2 hnone, if_pos hporch] at hexec
    exact ⟨_, hexec, by rw [State.shelf_rewind h]; rfl, by rw [State.shelf_rewind h]; rfl, State.field_rewind_self hcan.regs _ (by decide) _⟩
  · have hexec := exec_shelfWrite_word hcls w
    have hpush : s.pushWord n.toNat w = s.updShelf n.toNat fun x => { x with waiting := x.waiting ++ [w] } :=
      if_neg (by rw [List.isEmpty_iff]; exact hwait)
    rw [hpush] at hexec
    exact ⟨_, hexec, State.shelf_updShelf_self h _ _, fun k hk => State.shelf_updShelf_ne s _ hk, State.updShelf_frame _ _ _⟩
  · exact exec_shelfWrite_aborts hcan hcls hopened
  · have hexec : exec (.shelfSwap n) s = .next ((s.swapNow n.toNat).resume n.toNat) := rfl
    rw [State.resume_swapNow h hwait, State.swapNow_due hdue] at hexec
    have hself := State.shelf_swapShelf h n.toNat
    exact ⟨_, hexec, by rw [hself]; rfl, by rw [hself]; rfl, by rw [hself]; rfl, by rw [hself]; rfl,
      fun k hk => State.shelf_updShelf_ne s _ hk, State.swapShelf_frame _ _⟩
  · have hexec : exec (.shelfSwap n) s = .next ((s.swapNow n.toNat).resume n.toNat) := rfl
    rw [State.swapNow_due hdue] at hexec
    exact ⟨_, hexec, State.resume_one (s := s.swapShelf n.toNat) (h.updShelf _ _) (by rw [State.shelf_swapShelf h]; exact hwait) hw hroom⟩
  · have hexec : exec (.shelfSwap n) s = .next ((s.swapNow n.toNat).resume n.toNat) := rfl
    rw [State.resume_swapNow h hwait, State.swapNow_not hdue] at hexec
    exact hexec
  · exact exec_shelfPop_sound h hcls hkind hindex hdrain hpoison hwait
  · exact if_neg fun hfit => hnot.elim (fun h => h hfit.1) fun h => h.elim (fun h => h hfit.2.2.1) fun h => h hfit.2.2.2
  · exact exec_staleTimer_fires hcan hnotice hfired hwait hany
  · exact if_neg fun hfit => by
      have hopen := hfit.2.1
      rw [hfired] at hopen
      exact Bool.false_ne_true hopen
  · exact exec_flush_pends h hcls hwait
  · have hexec : exec (.empty n) s = .next (s.updShelf n.toNat fun x => { x with emptyNow := true }) := if_neg hcls
    exact ⟨_, hexec, State.shelf_updShelf_self h _ _, fun k hk => State.shelf_updShelf_ne s _ hk, State.updShelf_frame _ _ _⟩

end Sys2Proof.Machine
end

-- Porches and heads --------------------------------------------------------------------------------------------------------------
section
/-! O45: discovery of heads, their records and configuration, and the measurement of delay; what cells leave of a porch. -/
namespace Sys2Proof.Machine

-- What a cell leaves of a porch

theorem State.receive_porch_ne (s : State) {p q : Nat} (h : q ≠ p) : (s.receive p).porch q = s.porch q :=
  ((State.count_frame _ _ _ _ _).porch_eq (by decide) q).trans (State.porch_updPorch_ne s _ h)

theorem State.receive_shows {s : State} (p : Nat) : (s.receive p).twn = s.twn ∧ (s.receive p).plan = s.plan ∧ (s.receive p).live = s.live
    ∧ (s.receive p).events = s.events ∧ (s.receive p).boot = s.boot :=
  have h := s.receive_frame p
  ⟨h .twn (by decide), h .plan (by decide), h .live (by decide), h .events (by decide), h .boot (by decide)⟩

theorem State.send_porch_ne (s : State) {p q : Nat} (prio : Nat) (c : TxCell) (h : q ≠ p) : (s.send p prio c).porch q = s.porch q := by
  by_cases hs : (s.boot.stopped || decide ((s.porch p).squelch % 256 = 255)) = true
  · have he : s.send p prio c = s := if_pos hs
    rw [he]
  · have hq := congrArg (fun t => tget (fun _ => ({} : Porch)) t q) (State.porches_send hs prio c)
    exact hq.trans (State.porch_updPorch_ne s _ h)

-- IDENT

/-- The porch with what an IDENT says of its head (R338). -/
def Porch.identified (m : IdentMsg) (q : Porch) : Porch :=
  { q with headType := m.headType, headId := m.headId, headPort := m.port, other := m.other, countMax := m.countMax }

/-- The state that has taken in an IDENT. -/
def State.identRead (s : State) (p : Nat) (m : IdentMsg) : State := (s.receive p).updPorch p (Porch.identified m)

theorem State.identRead_canonical {s : State} (h : PorchesCanonical s) (p : Nat) (m : IdentMsg) : PorchesCanonical (s.identRead p m) :=
  (h.receive p).updPorch p _

theorem State.porch_identRead {s : State} (h : PorchesCanonical s) (p : Nat) (m : IdentMsg) :
    (s.identRead p m).porch p
      = Porch.identified m { s.porch p with heard := true, rxSeq := ((s.porch p).rxSeq + 1) % 65536 } := by
  rw [State.identRead, State.porch_updPorch_self (h.receive p), State.receive_porch h]

theorem State.porch_identRead_ne (s : State) {p q : Nat} (m : IdentMsg) (h : q ≠ p) : (s.identRead p m).porch q = s.porch q :=
  (State.porch_updPorch_ne _ _ h).trans (s.receive_porch_ne h)

theorem State.identRead_frame (s : State) (p : Nat) (m : IdentMsg) : SameBut [.regs, .porches] s (s.identRead p m) :=
  (State.updPorch_frame _ _ _).after (by decide) (s.receive_frame p)

theorem State.identFits_identRead (s : State) (p : Nat) (m : IdentMsg) : (s.identRead p m).identFits p m = s.identFits p m := by
  unfold State.identFits State.laneEntry
  rw [s.identRead_frame p m .plan (by decide)]

section
variable {s : State} {p : BitVec 4} {m : IdentMsg}

theorem exec_ident_miswired (hlinked : s.linked p.toNat = true) (hstate : (s.porch p.toNat).state ≠ .ready) (hport : m.port ≠ s.twn.side) :
    exec (.ident p m) s = .next (if (s.porch p.toNat).state = .miswired
      then (s.identRead p.toNat m).updPorch p.toNat fun q => { q with state := .miswired, identOk := false }
      else ((s.identRead p.toNat m).updPorch p.toNat fun q => { q with state := .miswired, identOk := false }).raise Src.pch 3 p.toNat) := by
  have hside : (s.identRead p.toNat m).twn = s.twn := s.identRead_frame _ _ .twn (by decide)
  change execIdent p m s = _
  unfold execIdent
  extract_lets n st u v w
  rw [if_neg (by rw [show s.linked n = true from hlinked]; exact Bool.false_ne_true), if_neg hstate,
    if_pos (by rw [show u.twn = s.twn from hside]; exact hport)]
  rfl

theorem exec_ident_misfit (hlinked : s.linked p.toNat = true) (hstate : (s.porch p.toNat).state ≠ .ready) (hport : m.port = s.twn.side)
    (hfits : s.identFits p.toNat m = false) :
    exec (.ident p m) s = .next (if (s.porch p.toNat).state = .wrongHead
      then (s.identRead p.toNat m).updPorch p.toNat fun q => { q with state := .wrongHead, identOk := false }
      else ((s.identRead p.toNat m).updPorch p.toNat fun q => { q with state := .wrongHead, identOk := false }).raise Src.pch 2 p.toNat) := by
  have hside : (s.identRead p.toNat m).twn = s.twn := s.identRead_frame _ _ .twn (by decide)
  have hmisfit := (s.identFits_identRead p.toNat m).trans hfits
  change execIdent p m s = _
  unfold execIdent
  extract_lets n st u v w
  rw [if_neg (by rw [show s.linked n = true from hlinked]; exact Bool.false_ne_true), if_neg hstate,
    if_neg (by rw [show u.twn = s.twn from hside]; exact Classical.not_not.2 hport), if_pos (by rw [show u.identFits n m = false from hmisfit]; rfl)]
  rfl

/-- The state after an IDENT that fits, before its record is asked for (R340). -/
def State.identKnown (s : State) (p : Nat) (m : IdentMsg) : State :=
  (s.identRead p m).updPorch p fun q => { q with state := .discovery, identOk := true }

theorem exec_ident_fits (hlinked : s.linked p.toNat = true) (hstate : (s.porch p.toNat).state ≠ .ready) (hport : m.port = s.twn.side)
    (hfits : s.identFits p.toNat m = true) :
    (∀ r, recordOf (m.headType / 4096) = some r →
      exec (.ident p m) s = .next ((s.identKnown p.toNat m).send p.toNat prioBulk (.req r)))
    ∧ (recordOf (m.headType / 4096) = none →
      exec (.ident p m) s = .next ((s.identKnown p.toNat m).updPorch p.toNat fun q => { q with recordOk := true })) := by
  have hside : (s.identRead p.toNat m).twn = s.twn := s.identRead_frame _ _ .twn (by decide)
  have hfit := (s.identFits_identRead p.toNat m).trans hfits
  have hexec : exec (.ident p m) s = execIdent p m s := rfl
  rw [hexec]
  unfold execIdent
  extract_lets n st u v w x
  rw [if_neg (by rw [show s.linked n = true from hlinked]; exact Bool.false_ne_true), if_neg hstate,
    if_neg (by rw [show u.twn = s.twn from hside]; exact Classical.not_not.2 hport),
    if_neg (by rw [show u.identFits n m = true from hfit]; exact Bool.false_ne_true)]
  constructor
  · intro r hr
    rw [hr]
    rfl
  · intro hnone
    rw [hnone]
    rfl

end

/-- An IDENT of another port, or of a head that does not fit, leaves the porch so (R340). -/
theorem State.identRead_marked {s : State} (h : PorchesCanonical s) (p : Nat) (m : IdentMsg) (st : PorchState) (b : Nat) (same : Prop)
    [Decidable same] (t : State)
    (ht : t = if same then (s.identRead p m).updPorch p fun q => { q with state := st, identOk := false }
      else ((s.identRead p m).updPorch p fun q => { q with state := st, identOk := false }).raise Src.pch b p) :
    (t.porch p).state = st ∧ (t.porch p).identOk = false ∧ (¬same → Notified Src.pch b p 0 t) := by
  have hself : ((s.identRead p m).updPorch p fun q => { q with state := st, identOk := false }).porch p
      = { (s.identRead p m).porch p with state := st, identOk := false } := State.porch_updPorch_self (State.identRead_canonical h p m) _ _
  subst ht
  split
  next hsame => exact ⟨by rw [hself], by rw [hself], fun hne => absurd hsame hne⟩
  · rw [State.porch_raise, hself]
    exact ⟨rfl, rfl, fun _ => List.mem_append_right _ (List.mem_singleton.2 rfl)⟩

theorem State.porch_identKnown {s : State} (h : PorchesCanonical s) (p : Nat) (m : IdentMsg) :
    (s.identKnown p m).porch p = { Porch.identified m { s.porch p with heard := true, rxSeq := ((s.porch p).rxSeq + 1) % 65536 } with
      state := .discovery, identOk := true } := by
  rw [State.identKnown, State.porch_updPorch_self (State.identRead_canonical h p m), State.porch_identRead h]

theorem State.porch_identKnown_ne (s : State) {p q : Nat} (m : IdentMsg) (h : q ≠ p) : (s.identKnown p m).porch q = s.porch q :=
  (State.porch_updPorch_ne _ _ h).trans (s.porch_identRead_ne m h)

theorem State.identKnown_frame (s : State) (p : Nat) (m : IdentMsg) : SameBut [.regs, .porches] s (s.identKnown p m) :=
  (State.updPorch_frame _ _ _).after (by decide) (s.identRead_frame p m)

theorem State.identKnown_canonical {s : State} (h : PorchesCanonical s) (p : Nat) (m : IdentMsg) : PorchesCanonical (s.identKnown p m) :=
  (State.identRead_canonical h p m).updPorch p _

/-- What sends and their marks leave of a porch. -/
def Porch.core (q : Porch) : Porch := { q with sent := [], next := [], txSeq := 0, openCell := {} }

/-- The porches stay canonical, and each keeps all but its queues and its open cell. -/
structure PorchesKeep (s t : State) : Prop where
  canonical : PorchesCanonical t
  core      : ∀ q, (t.porch q).core = (s.porch q).core

theorem PorchesKeep.refl {s : State} (h : PorchesCanonical s) : PorchesKeep s s := ⟨h, fun _ => rfl⟩

theorem PorchesKeep.trans {s t u : State} (h : PorchesKeep s t) (k : PorchesKeep t u) : PorchesKeep s u :=
  ⟨k.canonical, fun q => (k.core q).trans (h.core q)⟩

theorem SameBut.porchesKeep {l : List Part} {s t : State} (h : SameBut l s t) (hl : .porches ∉ l) (hs : PorchesCanonical s) :
    PorchesKeep s t := ⟨h.porchesCanonical hl hs, fun q => by rw [h.porch_eq hl]⟩

theorem State.updPorch_porchesKeep {s : State} (h : PorchesCanonical s) (p : Nat) {f : Porch → Porch} (hf : ∀ q, (f q).core = q.core) :
    PorchesKeep s (s.updPorch p f) := by
  refine ⟨h.updPorch p f, fun q => ?_⟩
  by_cases hq : q = p
  · rw [hq, State.porch_updPorch_self h, hf]
  · rw [State.porch_updPorch_ne _ _ hq]

theorem State.send_porchesKeep {s : State} (h : PorchesCanonical s) (p prio : Nat) (c : TxCell) : PorchesKeep s (s.send p prio c) := by
  by_cases hs : (s.boot.stopped || decide ((s.porch p).squelch % 256 = 255)) = true
  · have he : s.send p prio c = s := if_pos hs
    rw [he]
    exact .refl h
  · have hkeep := State.updPorch_porchesKeep h p (f := fun q => { q with sent := enqueue prio c q.sent, txSeq := (q.txSeq + 1) % 65536 })
      fun _ => rfl
    have hp := State.porches_send hs prio c
    refine ⟨(State.send_grows h p prio c).canonical, fun q => ?_⟩
    exact (congrArg (fun t => (tget (fun _ => ({} : Porch)) t q).core) hp).trans (hkeep.core q)

/-- A record of the head's role is kept (R338). -/
theorem State.headRecord_kept {s : State} (h : PorchesCanonical s) {p role : Nat} (hpass : s.passes p = true)
    (hrole : (s.porch p).headType / 4096 = role) (f : Porch → Porch) :
    (s.headRecord p role f).porch p
        = { f { s.porch p with heard := true, rxSeq := ((s.porch p).rxSeq + 1) % 65536 } with recordOk := true }
      ∧ ∀ q, q ≠ p → (s.headRecord p role f).porch q = s.porch q := by
  have hkept : s.headRecord p role f = (s.receive p).updPorch p fun q => { f q with recordOk := true } := if_pos ⟨hpass, hrole⟩
  rw [hkept]
  refine ⟨?_, fun q hq => ?_⟩
  · rw [State.porch_updPorch_self (h.receive p), State.receive_porch h]
  · exact (State.porch_updPorch_ne _ _ hq).trans (s.receive_porch_ne hq)

section
variable {s : State} {p : BitVec 4}

theorem exec_configAck_awaited {r : BitVec 8} {e : BitVec 32} {c : ConfigMsg} (h : PorchesCanonical s) (hpass : s.passes p.toNat = true)
    (hconfig : (s.porch p.toNat).config = some c) (htick : c.effective % 2 ^ 32 = e.toNat) :
    (r.toNat = 0 → exec (.configAck p r e) s = .next ((s.receive p.toNat).updPorch p.toNat fun q =>
        { q with config := none, readyNext := decide (q.state ≠ .ready) }))
    ∧ (r.toNat ≠ 0 → exec (.configAck p r e) s = .next (((s.receive p.toNat).updPorch p.toNat fun q =>
        { q with config := none, state := .wrongHead }).raise Src.pch 2 p.toNat)) := by
  have hawaits : ((s.receive p.toNat).porch p.toNat).config = some c := by rw [State.receive_porch h]; exact hconfig
  have hexec : exec (.configAck p r e) s = execConfigAck p r e s := rfl
  rw [hexec]
  unfold execConfigAck
  dsimp only
  rw [if_neg (by rw [hpass]; exact Bool.false_ne_true), hawaits]
  dsimp only
  rw [if_neg (by rw [htick]; exact Classical.not_not.2 rfl)]
  exact ⟨fun hr => if_pos hr, fun hr => if_neg hr⟩

/-- One measurement of the delay (R333). -/
def Porch.measuredWith (m : Int) (id : Nat) (q : Porch) : Porch :=
  { q with echoes := q.echoes.filter fun e => e.1 ≠ id, measured := (m :: q.measured).take 16
           delayPs := (rneDiv (((m :: q.measured).take 16).foldl (· + ·) 0) ((m :: q.measured).take 16).length).toNat
           echoLeft := q.echoLeft - 1 }

theorem exec_echoReply_awaited (h : PorchesCanonical s) {id turn : BitVec 32} {arr tx : Nat} (hlinked : s.linked p.toNat = true)
    (hecho : (s.porch p.toNat).echoes.find? (fun e => e.1 = id.toNat) = some (id.toNat, tx)) :
    exec (.echoReply p id arr turn) s = .next ((s.receive p.toNat).updPorch p.toNat (Porch.measuredWith
      ((((arr : Int) - (tx : Int)) * 1000 / 65536 - (turn.toNat : Int)) / 2 + signed 32 (s.inForce (Reg.PCH_Pp_DELAY p.toNat) 32 32)) id.toNat)) := by
  have hawaits : ((s.receive p.toNat).porch p.toNat).echoes.find? (fun e => e.1 = id.toNat) = some (id.toNat, tx) := by
    rw [State.receive_porch h]
    exact hecho
  have hlive : (s.receive p.toNat).inForce (Reg.PCH_Pp_DELAY p.toNat) 32 32 = s.inForce (Reg.PCH_Pp_DELAY p.toNat) 32 32 := by
    unfold State.inForce State.cfgReg
    rw [s.receive_frame p.toNat .live (by decide)]
  change execEchoReply p id arr turn s = _
  unfold execEchoReply
  dsimp only
  rw [if_neg (by rw [hlinked]; exact Bool.false_ne_true), hawaits]
  dsimp only
  rw [hlive]
  rfl

end

/-- Settles O45. -/
theorem headsAreFound : Obligations.HeadsAreFound := by
  intro s p hcan
  have h : PorchesCanonical s := hcan.porches
  refine ⟨fun m hlinked hstate => ⟨fun hport => ?_, fun hport hfits => ?_, fun hport hfits => ?_⟩,
    fun l hold nw hpass => ⟨fun hrole => ?_, fun hrole => ?_, fun hrole => ?_⟩, fun r e c hpass hconfig htick => ⟨fun hr => ?_, fun hr => ?_⟩,
    fun id turn arr tx hlinked hecho => ?_, ?_, ?_, ?_⟩
  · exact ⟨_, exec_ident_miswired hlinked hstate hport, State.identRead_marked h _ m .miswired 3 _ _ rfl⟩
  · exact ⟨_, exec_ident_misfit hlinked hstate hport hfits, State.identRead_marked h _ m .wrongHead 2 _ _ rfl⟩
  · obtain ⟨hasks, hskips⟩ := exec_ident_fits hlinked hstate hport hfits
    have hknown := State.porch_identKnown h p.toNat m
    have hcanon := State.identKnown_canonical h p.toNat m
    have hframe := s.identKnown_frame p.toNat m
    cases hrec : recordOf (m.headType / 4096) with
    | none =>
      have hself : ((s.identKnown p.toNat m).updPorch p.toNat fun q => { q with recordOk := true }).porch p.toNat
          = { (s.identKnown p.toNat m).porch p.toNat with recordOk := true } := State.porch_updPorch_self hcanon _ _
      rw [hknown] at hself
      exact ⟨_, hskips hrec, by rw [hself], by rw [hself], by rw [hself]; rfl, by rw [hself]; rfl, fun _ => by rw [hself],
        fun _ hr => absurd hr (by simp), fun q hq => (State.porch_updPorch_ne _ _ hq).trans (s.porch_identKnown_ne m hq),
        (State.updPorch_frame _ _ _).after (by decide) (hframe.mono (by decide))⟩
    | some r =>
      have hkeep := (State.send_porchesKeep hcanon p.toNat prioBulk (.req r)).core p.toNat
      rw [hknown] at hkeep
      refine ⟨_, hasks r hrec, (congrArg Porch.state hkeep :), (congrArg Porch.identOk hkeep :), (congrArg Porch.headType hkeep :),
        (congrArg Porch.headId hkeep :), fun hnone => absurd hnone (by simp), fun r' hr hstopped hsquelch => ?_,
        fun q hq => (State.send_porch_ne _ _ _ hq).trans (s.porch_identKnown_ne m hq),
        (State.send_frame _ _ _ _).after (by decide) (hframe.mono (by decide))⟩
      obtain rfl : r = r' := Option.some.inj hr
      exact State.mem_sent_send hcanon ((congrArg Boot.stopped (hframe .boot (by decide))).trans hstopped)
        (by rw [hknown]; exact hsquelch) _ _
  · obtain ⟨hself, hother⟩ := State.headRecord_kept (role := roleImager) h hpass hrole fun q => { q with windows := l }
    exact ⟨_, rfl, by rw [hself], by rw [hself], hother, State.headRecord_frame _ _ _ _⟩
  · obtain ⟨hself, hother⟩ := State.headRecord_kept (role := roleDrive) h hpass hrole fun q => { q with holding := hold }
    exact ⟨_, rfl, by rw [hself], by rw [hself], hother, State.headRecord_frame _ _ _ _⟩
  · obtain ⟨hself, hother⟩ := State.headRecord_kept (role := roleTap) h hpass hrole fun q => { q with scale := nw.toNat }
    exact ⟨_, rfl, by rw [hself], by rw [hself], hother, State.headRecord_frame _ _ _ _⟩
  · have hexec := (exec_configAck_awaited (r := r) h hpass hconfig htick).1 (by rw [hr]; rfl)
    have hself : ((s.receive p.toNat).updPorch p.toNat fun q => { q with config := none, readyNext := decide (q.state ≠ .ready) }).porch p.toNat
        = { (s.receive p.toNat).porch p.toNat with config := none, readyNext := decide (((s.receive p.toNat).porch p.toNat).state ≠ .ready) } :=
      State.porch_updPorch_self (h.receive _) _ _
    rw [State.receive_porch h] at hself
    exact ⟨_, hexec, by rw [hself], fun hne => by rw [hself]; exact decide_eq_true hne, by rw [hself],
      (State.updPorch_frame _ _ _).after (by decide) (s.receive_frame _)⟩
  · have hexec := (exec_configAck_awaited (r := r) h hpass hconfig htick).2 (fun h0 => hr (BitVec.eq_of_toNat_eq h0))
    have hself : ((s.receive p.toNat).updPorch p.toNat fun q => { q with config := none, state := .wrongHead }).porch p.toNat
        = { (s.receive p.toNat).porch p.toNat with config := none, state := .wrongHead } := State.porch_updPorch_self (h.receive _) _ _
    exact ⟨_, hexec, by rw [State.porch_raise, hself], by rw [State.porch_raise, hself], List.mem_append_right _ (List.mem_singleton.2 rfl),
      (State.raise_frame _ _ _ _ _).after (by decide) ((State.updPorch_frame _ _ _).after (by decide) ((s.receive_frame _).mono (by decide)))⟩
  · have hexec := exec_echoReply_awaited (arr := arr) (turn := turn) h hlinked hecho
    generalize (((arr : Int) - (tx : Int)) * 1000 / 65536 - (turn.toNat : Int)) / 2
      + signed 32 (s.inForce (Reg.PCH_Pp_DELAY p.toNat) 32 32) = m at hexec ⊢
    have hself := State.porch_updPorch_self (h.receive p.toNat) p.toNat (Porch.measuredWith m id.toNat)
    rw [State.receive_porch h] at hself
    refine ⟨_, hexec, by rw [hself]; rfl, by rw [hself]; rfl, fun e he => ?_, (State.updPorch_frame _ _ _).after (by decide) (s.receive_frame _)⟩
    rw [hself] at he
    exact of_decide_eq_true (List.mem_filter.1 he).2
  · exact ⟨_, rfl, State.porch_updPorch_self h _ _, State.updPorch_frame _ _ _⟩
  · exact ⟨_, rfl, State.porch_updPorch_self h _ _, State.updPorch_frame _ _ _⟩
  · exact ⟨_, rfl, State.porch_updPorch_self h _ _, State.updPorch_frame _ _ _⟩

end Sys2Proof.Machine
end

-- Cells of heads, and lost porches -----------------------------------------------------------------------------------------------
section
/-! O46: ACK, HEALTH and FAULT cells, and the loss of a porch. -/
namespace Sys2Proof.Machine

-- What keeps the porches

theorem State.each_porchesKeep {f : Nat → State → State} (hf : ∀ i u, PorchesCanonical u → PorchesKeep u (f i u)) (l : List Nat) {s : State}
    (h : PorchesCanonical s) : PorchesKeep s (State.each l f s) := by
  induction l generalizing s with
  | nil => exact .refl h
  | cons i l ih => exact (hf i s h).trans (ih (hf i s h).canonical)

theorem State.sendAll_porchesKeep {s : State} (h : PorchesCanonical s) (ps : List Nat) (prio : Nat) (c : TxCell) :
    PorchesKeep s (State.sendAll ps prio c s) := State.each_porchesKeep (fun p _ hu => State.send_porchesKeep hu p prio c) ps h

theorem State.giveUp_porchesKeep {s : State} (h : PorchesCanonical s) (cause : Nat) : PorchesKeep s (s.giveUp cause) := by
  have hporches : (s.giveUp cause).porches = tmap (fun _ => {}) (fun _ q => { q with openCell := {} }) s.porches := rfl
  refine ⟨?_, fun q => ?_⟩
  · unfold PorchesCanonical
    rw [hporches]
    exact twf_tmap h _
  · rw [State.porch, hporches, tget_tmap h (fun _ => rfl)]
    rfl

theorem State.withdraw_porchesKeep {s : State} (h : PorchesCanonical s) (reason code : Nat) : PorchesKeep s (s.withdraw reason code) := by
  have hsent : PorchesKeep s (s.sendWithdraw reason code) := State.sendAll_porchesKeep h _ _ _
  have hfault := hsent.trans ((State.faultOn_frame _ FaultCause.verdict true).porchesKeep (by decide) hsent.canonical)
  exact hfault.trans (State.giveUp_porchesKeep hfault.canonical reason)

theorem State.verdict_porchesKeep {s : State} (h : PorchesCanonical s) (reason code : Nat) {solo : State → State}
    (hsolo : ∀ u, PorchesCanonical u → PorchesKeep u (solo u)) : PorchesKeep s (s.verdict reason code solo) := by
  have hguard := (s.guardEvent_frame code).porchesKeep (by decide) h
  have hstate : PorchesKeep s ((s.guardEvent code).guardState code) := hguard.trans (State.sendAll_porchesKeep hguard.canonical _ _ _)
  have hfault := fun other => hstate.trans ((State.faultOn_frame _ FaultCause.verdict other).porchesKeep (by decide) hstate.canonical)
  unfold State.verdict
  dsimp only
  split
  · exact hguard.trans (State.withdraw_porchesKeep hguard.canonical _ _)
  · exact hguard.trans (hsolo _ hguard.canonical)
  · exact (hfault true).trans (State.giveUp_porchesKeep (hfault true).canonical _)
  · exact hfault false
  · exact hfault false

theorem State.comingTick_porchesKeep {s : State} (h : PorchesCanonical s) : PorchesKeep s s.comingTick := by
  have hporches : s.comingTick.porches = tmap (fun _ => {}) (fun _ q => { q with sent := [] }) s.porches := rfl
  refine ⟨?_, fun q => ?_⟩
  · unfold PorchesCanonical
    rw [hporches]
    exact twf_tmap h _
  · rw [State.porch, hporches, tget_tmap h (fun _ => rfl)]
    rfl

/-- An operation of the coming tick keeps the porches as it keeps those of that tick. -/
theorem State.inTick_porchesKeep {s : State} (h : PorchesCanonical s) {f : State → State}
    (hf : PorchesCanonical s.comingTick → PorchesKeep s.comingTick (f s.comingTick)) : PorchesKeep s (s.inTick f) := by
  have hkeep := (State.comingTick_porchesKeep h).trans (hf (State.comingTick_porchesKeep h).canonical)
  have hporches : (s.inTick f).porches = (List.range 16).foldl (fun t p =>
      tupd (fun _ => {}) t p fun q => { q with sent := (s.porch p).sent, next := q.next ++ q.sent }) (f s.comingTick).porches := by
    simp only [State.inTick, State.comingTick]
  generalize f s.comingTick = u at hkeep hporches
  refine ⟨?_, fun k => ?_⟩
  · unfold PorchesCanonical
    rw [hporches]
    exact twf_foldl_tupd _ _ hkeep.canonical
  · rw [← hkeep.core k, State.porch, hporches, tget_foldl_tupd _ (List.nodup_range (n := 16)) hkeep.canonical]
    split <;> rfl

-- ACK and HEALTH

section
variable {s : State} {p : BitVec 4}

/-- The state that has taken in an ACK (R329, R387). -/
def State.ackRead (s : State) (p : Nat) (a : AckCell) : State :=
  ((s.receive p).seeEpoch a.epoch).updPorch p fun q =>
    { q with repeated := a.repeated, stale := a.stale, ackEpoch := some a.epoch, ackTick := a.applyTick }

/-- The heads that answer for the apply tick of an ACK (R386). -/
def Twin.ackCount (t : Twin) (p : Nat) (a : AckCell) : Twin :=
  let t := if t.ackTick = a.applyTick then t else { t with ackTick := a.applyTick, ackAbove := [], ackEqual := [] }
  if t.epoch < a.epoch then { t with ackAbove := (t.ackAbove ++ [p]).eraseDups }
  else if a.epoch = t.epoch then { t with ackEqual := (t.ackEqual ++ [p]).eraseDups } else t

theorem exec_ackCell_passes {a : AckCell} (hpass : s.passes p.toNat = true) :
    exec (.ackCell p a) s = .next (if s.porchRole p.toNat ≠ roleDrive then s.ackRead p.toNat a
      else { s.ackRead p.toNat a with twn := (s.ackRead p.toNat a).twn.ackCount p.toNat a }) := by
  have hexec : exec (.ackCell p a) s = execAckCell p a s := rfl
  have hrole : (s.ackRead p.toNat a).porchRole p.toNat = s.porchRole p.toNat := by
    have hplan : (s.ackRead p.toNat a).plan = s.plan := s.receive_frame p.toNat .plan (by decide)
    unfold State.porchRole State.laneEntry
    rw [hplan]
  rw [hexec]
  unfold execAckCell
  extract_lets n u t
  rw [if_neg (by rw [show s.passes n = true from hpass]; exact Bool.false_ne_true), show u.porchRole n = s.porchRole n from hrole]
  split <;> rfl

theorem Twin.ackCount_keeps (t : Twin) (p : Nat) (a : AckCell) :
    (t.ackCount p a).seen = t.seen ∧ (t.ackCount p a).role = t.role ∧ (t.ackCount p a).epoch = t.epoch
    ∧ (t.epoch < a.epoch → p ∈ (t.ackCount p a).ackAbove) ∧ (a.epoch = t.epoch → p ∈ (t.ackCount p a).ackEqual) := by
  unfold Twin.ackCount
  extract_lets t'
  have hsame : t'.seen = t.seen ∧ t'.role = t.role ∧ t'.epoch = t.epoch := by
    dsimp only [t']
    split <;> exact ⟨rfl, rfl, rfl⟩
  obtain ⟨hseen, hrole, hepoch⟩ := hsame
  split
  · exact ⟨hseen, hrole, hepoch, fun _ => List.mem_eraseDups.2 (List.mem_append_right _ (List.mem_singleton.2 rfl)), fun h => by omega⟩
  split
  · exact ⟨hseen, hrole, hepoch, fun h => by omega, fun _ => List.mem_eraseDups.2 (List.mem_append_right _ (List.mem_singleton.2 rfl))⟩
  next hne => exact ⟨hseen, hrole, hepoch, fun h => by omega, fun h => absurd (h.trans hepoch.symm) hne⟩

theorem State.porch_ackRead (h : PorchesCanonical s) (p : Nat) (a : AckCell) : (s.ackRead p a).porch p = { s.porch p with
    heard := true, rxSeq := ((s.porch p).rxSeq + 1) % 65536, repeated := a.repeated, stale := a.stale, ackEpoch := some a.epoch
    ackTick := a.applyTick } := by
  have hself : (s.ackRead p a).porch p = { ((s.receive p).seeEpoch a.epoch).porch p with
      repeated := a.repeated, stale := a.stale, ackEpoch := some a.epoch, ackTick := a.applyTick } :=
    State.porch_updPorch_self (s := (s.receive p).seeEpoch a.epoch) (h.receive p) p _
  rw [hself, (State.seeEpoch_frame _ _).porch_eq (by decide), State.receive_porch h]

theorem exec_healthCell_linked {c : HealthCell} (hlinked : s.linked p.toNat = true) :
    exec (.healthCell p c) s = .next ((s.receive p.toNat).updPorch p.toNat fun q => { q with health := some c, temp := c.temp }) :=
  if_neg (by rw [hlinked]; exact Bool.false_ne_true)

end

-- FAULT

/-- The state that has taken in a FAULT cell, as Guard event 3 (R23, R330). -/
def State.faultRead (s : State) (p : Nat) (f : FaultCell) : State :=
  (((s.receive p).updPorch p fun q => { q with faultCode := f.code }).raise Src.pch 6 p).guardEvent GuardCode.headFault

/-- The cells that a FAULT cell makes the unit send. -/
def State.faultSent (s : State) (p : Nat) (f : FaultCell) : State :=
  (if (s.faultRead p f).commands then (s.faultRead p f).each ((s.faultRead p f).readyOf roleDrive) fun d u =>
    u.holdPorch (faultMirrors (s.laneEntry p) f) d else s.faultRead p f).guardState GuardCode.headFault

theorem exec_faultCell_passes {s : State} {p : BitVec 4} {f : FaultCell} (hpass : s.passes p.toNat = true) :
    exec (.faultCell p f) s = .next (if (s.laneEntry p.toNat).role = roleDrive
      then (s.faultSent p.toNat f).freezeWhere 2 fun l => (faultMirrors (s.laneEntry p.toNat) f).contains (l / 2)
      else s.faultSent p.toNat f) := if_neg (by rw [hpass]; exact Bool.false_ne_true)

theorem State.holdPorch_grows {s : State} (h : PorchesCanonical s) (ms : List Nat) (p : Nat) : QueuesGrow s (s.holdPorch ms p) := by
  unfold State.holdPorch
  dsimp only
  split
  · exact .refl h
  · exact State.send_grows h _ _ _

theorem State.holdPorch_porchesKeep {s : State} (h : PorchesCanonical s) (ms : List Nat) (p : Nat) : PorchesKeep s (s.holdPorch ms p) := by
  unfold State.holdPorch
  dsimp only
  split
  · exact .refl h
  · exact State.send_porchesKeep h _ _ _

/-- A porch that carries a named mirror is sent a HOLD (R328). -/
theorem State.holdPorch_sends {s : State} (h : PorchesCanonical s) (hstop : s.boot.stopped = false) {ms : List Nat} {d : Nat}
    (hsquelch : (s.porch d).squelch % 256 ≠ 255) (hcarries : ∃ m ∈ ms, (s.laneEntry d).holds m = true) :
    ∃ first count, (GuardCode.headFault, s.holdCell first count GuardCode.headFault) ∈ ((s.holdPorch ms d).porch d).sent := by
  obtain ⟨m, hm, hholds⟩ := hcarries
  unfold State.holdPorch
  dsimp only
  split
  next hnil => exact absurd (List.mem_filter.2 ⟨hm, hholds⟩) (by rw [hnil]; exact List.not_mem_nil)
  next a t _ =>
    split
    · exact ⟨0, 0, State.mem_sent_send h hstop hsquelch _ _⟩
    · exact ⟨2 * a, 2 * (t.length + 1), State.mem_sent_send h hstop hsquelch _ _⟩

theorem State.holdCell_congr {s t : State} (hhrt : t.hrt.frame = s.hrt.frame) (htwn : t.twn = s.twn) (first count cause : Nat) :
    t.holdCell first count cause = s.holdCell first count cause := by
  unfold State.holdCell
  rw [hhrt, htwn]

theorem State.laneEntry_congr {s t : State} (hplan : t.plan = s.plan) (p : Nat) : t.laneEntry p = s.laneEntry p := by
  unfold State.laneEntry
  rw [hplan]

theorem State.holdPorches_grows {s : State} (h : PorchesCanonical s) (ms l : List Nat) :
    QueuesGrow s (State.each l (fun d u => u.holdPorch ms d) s) := by
  induction l generalizing s with
  | nil => exact .refl h
  | cons p l ih => exact (State.holdPorch_grows h ms p).trans (ih (State.holdPorch_grows h ms p).canonical)

/-- Among porches held in turn, each that carries a named mirror is sent its HOLD. -/
theorem State.each_holdPorch_sends {s : State} (h : PorchesCanonical s) (hstop : s.boot.stopped = false) {ms l : List Nat} {d : Nat}
    (hd : d ∈ l) (hsquelch : (s.porch d).squelch % 256 ≠ 255) (hcarries : ∃ m ∈ ms, (s.laneEntry d).holds m = true) :
    ∃ first count, (GuardCode.headFault, s.holdCell first count GuardCode.headFault)
      ∈ ((State.each l (fun d u => u.holdPorch ms d) s).porch d).sent := by
  induction l generalizing s with
  | nil => cases hd
  | cons p l ih =>
    have hframe := s.holdPorch_frame ms p
    have hcanon := (State.holdPorch_grows h ms p).canonical
    by_cases hp : d = p
    · subst hp
      obtain ⟨first, count, hsent⟩ := State.holdPorch_sends h hstop hsquelch hcarries
      exact ⟨first, count, (State.holdPorches_grows hcanon ms l).sent d _ hsent⟩
    · have hkeep := (State.holdPorch_porchesKeep h ms p).core d
      have hsq : ((s.holdPorch ms p).porch d).squelch = (s.porch d).squelch := (congrArg Porch.squelch hkeep :)
      have hrest := ih hcanon ((congrArg Boot.stopped (hframe .boot (by decide))).trans hstop)
        ((List.mem_cons.1 hd).resolve_left hp)
        (by rw [hsq]; exact hsquelch)
        (by rw [State.laneEntry_congr (hframe .plan (by decide))]; exact hcarries)
      obtain ⟨first, count, hsent⟩ := hrest
      rw [State.holdCell_congr (congrArg Hearth.frame (hframe .hrt (by decide))) (hframe .twn (by decide))] at hsent
      exact ⟨first, count, hsent⟩


-- The FAULT cell's state, read by parts

section
variable {s : State} {p : Nat} {f : FaultCell}

theorem State.faultRead_frame (s : State) (p : Nat) (f : FaultCell) : SameBut [.hrt, .regs, .events, .porches, .free] s (s.faultRead p f) :=
  (State.guardEvent_frame _ _).after (by decide) ((State.raise_frame _ _ _ _ _).after (by decide)
    ((State.updPorch_frame _ _ _).after (by decide) ((s.receive_frame p).mono (by decide))))

theorem State.faultSent_frame (s : State) (p : Nat) (f : FaultCell) : SameBut [.regs, .porches, .free] (s.faultRead p f) (s.faultSent p f) :=
  (State.guardState_frame _ _).after (by decide) (SameBut.ite (State.each_frame _ _ _ fun _ _ => State.holdPorch_frame _ _ _) (.refl _ _))

theorem State.porch_faultRead (p : Nat) (f : FaultCell) (d : Nat) :
    (s.faultRead p f).porch d = ((s.receive p).updPorch p fun q => { q with faultCode := f.code }).porch d :=
  ((State.guardEvent_frame _ _).porch_eq (by decide) d).trans ((State.raise_frame _ _ _ _ _).porch_eq (by decide) d)

theorem State.faultRead_canonical (h : PorchesCanonical s) (p : Nat) (f : FaultCell) : PorchesCanonical (s.faultRead p f) :=
  (State.guardEvent_frame _ _).porchesCanonical (by decide)
    ((State.raise_frame _ _ _ _ _).porchesCanonical (by decide) ((h.receive p).updPorch p _))

theorem State.porch_faultRead_self (h : PorchesCanonical s) (p : Nat) (f : FaultCell) : (s.faultRead p f).porch p
    = { s.porch p with heard := true, rxSeq := ((s.porch p).rxSeq + 1) % 65536, faultCode := f.code } := by
  rw [State.porch_faultRead, State.porch_updPorch_self (h.receive p), State.receive_porch h]

theorem State.porch_faultRead_ne {d : Nat} (hd : d ≠ p) : (s.faultRead p f).porch d = s.porch d := by
  rw [State.porch_faultRead, State.porch_updPorch_ne _ _ hd, State.receive_porch_ne _ hd]

/-- No porch changes its state or its squelch when a FAULT cell comes in. -/
theorem State.faultRead_keeps (h : PorchesCanonical s) (p : Nat) (f : FaultCell) (d : Nat) :
    ((s.faultRead p f).porch d).state = (s.porch d).state ∧ ((s.faultRead p f).porch d).squelch = (s.porch d).squelch := by
  by_cases hd : d = p
  · rw [hd, State.porch_faultRead_self h]
    exact ⟨rfl, rfl⟩
  · rw [State.porch_faultRead_ne hd]
    exact ⟨rfl, rfl⟩

theorem State.readyOf_congr {s t : State} (hplan : t.plan = s.plan) (hstate : ∀ d, (t.porch d).state = (s.porch d).state) (r : Nat) :
    t.readyOf r = s.readyOf r := by
  unfold State.readyOf State.porchesOf State.porchRole State.laneEntry
  simp only [hplan, hstate]

theorem State.faultSent_porchesKeep (h : PorchesCanonical s) (p : Nat) (f : FaultCell) :
    PorchesKeep (s.faultRead p f) (s.faultSent p f) := by
  have hread := State.faultRead_canonical h p f
  unfold State.faultSent
  split
  · have hheld := State.each_porchesKeep (f := fun d u => u.holdPorch (faultMirrors (s.laneEntry p) f) d)
      (fun d u hu => State.holdPorch_porchesKeep hu _ d) ((s.faultRead p f).readyOf roleDrive) hread
    exact hheld.trans (State.sendAll_porchesKeep hheld.canonical _ _ _)
  · exact State.sendAll_porchesKeep hread _ _ _

/-- A unit that commands sends HOLD on the READY drive porches that carry the named mirrors (R330). -/
theorem State.faultSent_holds (h : PorchesCanonical s) {d : Nat} (hcommands : s.commands = true) (hd : d ∈ s.readyOf 2)
    (hstop : s.boot.stopped = false) (hsquelch : (s.porch d).squelch % 256 ≠ 255)
    (hcarries : ∃ m ∈ faultMirrors (s.laneEntry p) f, (s.laneEntry d).holds m = true) :
    ∃ first count, (GuardCode.headFault, s.holdCell first count GuardCode.headFault) ∈ ((s.faultSent p f).porch d).sent := by
  have hframe := s.faultRead_frame p f
  have hread := State.faultRead_canonical h p f
  have htwn : (s.faultRead p f).twn = s.twn := hframe .twn (by decide)
  have hplan : (s.faultRead p f).plan = s.plan := hframe .plan (by decide)
  have hcom : (s.faultRead p f).commands = true := by
    unfold State.commands at hcommands ⊢
    rw [htwn]
    exact hcommands
  have hready : d ∈ (s.faultRead p f).readyOf roleDrive := by
    rw [State.readyOf_congr hplan fun d => (State.faultRead_keeps h p f d).1]
    exact hd
  have hhrt : (s.faultRead p f).hrt.frame = s.hrt.frame := rfl
  have hheld := State.holdPorches_grows hread (faultMirrors (s.laneEntry p) f) ((s.faultRead p f).readyOf roleDrive)
  obtain ⟨first, count, hsent⟩ := State.each_holdPorch_sends hread ((congrArg Boot.stopped (hframe .boot (by decide))).trans hstop) hready
    (by rw [(State.faultRead_keeps h p f d).2]; exact hsquelch) (by rw [State.laneEntry_congr hplan]; exact hcarries)
  rw [State.holdCell_congr hhrt htwn] at hsent
  refine ⟨first, count, ?_⟩
  unfold State.faultSent
  rw [if_pos hcom]
  exact (State.sendAll_grows hheld.canonical _ _ _).sent d _ hsent

end

-- The loss of a porch (R342, R384, R491)

theorem State.comingTick_frame (s : State) : SameBut [.hrt, .porches] s s.comingTick := SameBut.hrt_porches_frame _ _ _

theorem State.inTick_shows (s : State) (f : State → State) : (s.inTick f).loops = (f s.comingTick).loops
    ∧ (s.inTick f).twn = (f s.comingTick).twn ∧ (s.inTick f).events = (f s.comingTick).events := by
  simp only [State.inTick, State.comingTick, and_self]

theorem State.withdraw_twn (s : State) (reason code : Nat) : (s.withdraw reason code).twn = { s.twn with withdrawAt := some reason } := by
  have hsent : (s.sendWithdraw reason code).twn = s.twn := s.sendWithdraw_frame reason code .twn (by decide)
  have hfault : ((s.sendWithdraw reason code).faultOn FaultCause.verdict true).twn = s.twn :=
    (State.faultOn_frame _ _ _ .twn (by decide)).trans hsent
  rw [← hfault]
  rfl

theorem State.porchRole_congr {s t : State} (hplan : t.plan = s.plan) (p : Nat) : t.porchRole p = s.porchRole p := by
  unfold State.porchRole
  rw [State.laneEntry_congr hplan]

theorem State.porchFor_congr {s t : State} (hplan : t.plan = s.plan) (r i : Nat) : t.porchFor r i = s.porchFor r i := by
  unfold State.porchFor State.porchesOf State.porchRole State.laneEntry
  rw [hplan]

theorem State.roleNow_congr {s t : State} (htwn : t.twn = s.twn) : t.roleNow = s.roleNow := by
  unfold State.roleNow
  rw [htwn]

theorem State.twinHas_congr {s t : State} (htwn : t.twn = s.twn) (hplan : t.plan = s.plan) (p : Nat) : t.twinHas p = s.twinHas p := by
  unfold State.twinHas
  rw [htwn, hplan]

section
variable {s : State} {p : Nat}

/-- The unit gives up the porches to a twin that still has the lost one (R384). -/
def State.cedes (s : State) (p : Nat) : Prop := s.roleNow = .active ∧ s.twinHas p = true

theorem State.lossFollows_freezes (hrole : s.porchRole p = roleImager ∨ s.porchRole p = roleDrive) (hkeeps : ¬s.cedes p) :
    s.lossFollows p = s.freezeWhere 3 fun l => decide (s.porchFor (s.porchRole p) (l / 2) = some p) := by
  have hlanding : s.porchRole p ≠ roleLanding := by rcases hrole with h | h <;> rw [h] <;> decide
  unfold State.lossFollows
  dsimp only
  rw [if_neg hlanding, if_neg fun hc => hkeeps hc.2, if_pos hrole]

theorem State.lossFollows_cedes (hrole : s.porchRole p = roleImager ∨ s.porchRole p = roleDrive ∨ s.porchRole p = roleTap)
    (hcedes : s.cedes p) :
    s.lossFollows p = ({ s with twn := { s.twn with causePorch := p } }).verdict 5 GuardCode.verdict fun u => u := by
  have hlanding : s.porchRole p ≠ roleLanding := by rcases hrole with h | h | h <;> rw [h] <;> decide
  unfold State.lossFollows
  dsimp only
  rw [if_neg hlanding, if_pos ⟨hrole, hcedes⟩]

theorem State.lossFollows_withdraws (hrole : s.porchRole p = roleImager ∨ s.porchRole p = roleDrive ∨ s.porchRole p = roleTap)
    (hcedes : s.cedes p) : (s.lossFollows p).twn.withdrawAt = some 5 ∧ (s.lossFollows p).twn.causePorch = p := by
  have hactive : ({ s with twn := { s.twn with causePorch := p } } : State).roleNow = .active := hcedes.1
  rw [State.lossFollows_cedes hrole hcedes, State.verdict_active hactive, State.withdraw_twn]
  exact ⟨rfl, rfl⟩

theorem State.lossFollows_cases (s : State) (p : Nat) : s.lossFollows p = s.raise Src.twn 10
    ∨ s.lossFollows p = (({ s with twn := { s.twn with causePorch := p } }).verdict 5 GuardCode.verdict fun u => u)
    ∨ (∃ f, s.lossFollows p = s.freezeWhere 3 f) ∨ s.lossFollows p = s := by
  unfold State.lossFollows
  extract_lets r u
  split
  · exact .inl rfl
  split
  · exact .inr (.inl rfl)
  split
  · exact .inr (.inr (.inl ⟨_, rfl⟩))
  · exact .inr (.inr (.inr rfl))

theorem State.lossFollows_porchesKeep (h : PorchesCanonical s) (p : Nat) : PorchesKeep s (s.lossFollows p) := by
  rcases s.lossFollows_cases p with hf | hf | ⟨f, hf⟩ | hf <;> rw [hf]
  · exact (s.raise_frame _ _ _ _).porchesKeep (by decide) h
  · have htwn := (SameBut.twn_frame s { s.twn with causePorch := p }).porchesKeep (by decide) h
    exact htwn.trans (State.verdict_porchesKeep htwn.canonical _ _ fun u hu => .refl hu)
  · exact (s.freezeWhere_frame _ _).porchesKeep (by decide) h
  · exact .refl h

theorem State.lossFollows_eventsStay (s : State) (p : Nat) : EventsStay s (s.lossFollows p) := by
  rcases s.lossFollows_cases p with hf | hf | ⟨f, hf⟩ | hf <;> rw [hf]
  · exact fun e he => List.mem_append_left _ he
  · exact State.verdict_eventsStay { s with twn := { s.twn with causePorch := p } } 5 GuardCode.verdict fun u e he => he
  · exact fun e he => he
  · exact fun e he => he

/-- The notice and the record of a lost porch (R342). -/
def State.lossTold (s : State) (p : Nat) : State := (s.raise Src.pch 1 p).record 0x0014 Sev.error 1
  ([BitVec.ofNat 8 p, BitVec.ofNat 8 (((s.raise Src.pch 1 p).porch p).state.code), 0, 0, 0, 0, 0, 0] ++ (s.raise Src.pch 1 p).frameBytes)

theorem State.lossTold_frame (s : State) (p : Nat) : SameBut [.att, .events] s (s.lossTold p) :=
  (State.record_frame _ _ _ _ _).after (by decide) ((State.raise_frame _ _ _ _ _).mono (by decide))

theorem State.lossTold_notified (s : State) (p : Nat) : Notified Src.pch 1 p 0 (s.lossTold p) := by
  have hevents : (s.lossTold p).events = (s.raise Src.pch 1 p).events := State.record_frame _ _ _ _ _ .events (by decide)
  unfold Notified
  rw [hevents]
  exact List.mem_append_right _ (List.mem_singleton.2 rfl)

/-- What the loss of a porch does in the coming tick. -/
def State.lossTaken (p : Nat) (s : State) : State := if s.porchRole p = 0 then s else (s.lossTold p).lossFollows p

/-- The porch that is lost. -/
def State.porchDown (s : State) (p : Nat) : State :=
  s.updPorch p fun q => { q with up := false, lost := true, state := if q.state = .ready then .lost else q.state }

theorem State.losePorch_due (hdue : s.lossDue p = true) : s.losePorch p = (s.porchDown p).inTick (State.lossTaken p) :=
  if_neg (by rw [hdue]; exact Bool.false_ne_true)

theorem State.lossTaken_porchesKeep (h : PorchesCanonical s) (p : Nat) : PorchesKeep s (s.lossTaken p) := by
  have htold := (s.lossTold_frame p).porchesKeep (by decide) h
  unfold State.lossTaken
  split
  · exact .refl h
  · exact htold.trans (State.lossFollows_porchesKeep htold.canonical p)

/-- What a lost porch finds at the coming tick is what the state held before. -/
theorem State.lossTold_finds (s : State) (p : Nat) :
    SameBut [.hrt, .att, .events, .porches] s ((s.porchDown p).comingTick.lossTold p) :=
  (State.lossTold_frame _ p).after (by decide) ((State.comingTick_frame _).after (by decide) ((s.updPorch_frame p _).mono (by decide)))

end

-- The obligation

section
variable {s : State} {p : BitVec 4}

theorem exec_ackCell_shows (hcan : PorchesCanonical s) (a : AckCell) (hpass : s.passes p.toNat = true) :
    ∃ t, exec (.ackCell p a) s = .next t
      ∧ (t.porch p.toNat).ackEpoch = some a.epoch ∧ (t.porch p.toNat).ackTick = a.applyTick ∧ t.twn.seen = max s.twn.seen a.epoch
      ∧ (s.porchRole p.toNat = 2 → s.twn.epoch < a.epoch → p.toNat ∈ t.twn.ackAbove)
      ∧ (s.porchRole p.toNat = 2 → a.epoch = s.twn.epoch → p.toNat ∈ t.twn.ackEqual)
      ∧ t.twn.role = s.twn.role ∧ t.twn.epoch = s.twn.epoch ∧ SameBut [.regs, .porches, .twn] s t := by
  have hexec := exec_ackCell_passes (a := a) hpass
  have hframe := exec_frame _ _ _ hexec
  have hread := State.porch_ackRead hcan p.toNat a
  have htwn : (s.ackRead p.toNat a).twn = { s.twn with seen := max s.twn.seen a.epoch } := by
    have hrec : (s.receive p.toNat).twn = s.twn := s.receive_frame _ .twn (by decide)
    rw [← hrec]
    rfl
  by_cases hrole : s.porchRole p.toNat = roleDrive
  · obtain ⟨hseen, hkrole, hkepoch, habove, hequal⟩ := (s.ackRead p.toNat a).twn.ackCount_keeps p.toNat a
    rw [if_neg (Classical.not_not.2 hrole)] at hexec hframe
    have hepoch : (s.ackRead p.toNat a).twn.epoch = s.twn.epoch := (congrArg Twin.epoch htwn :)
    exact ⟨_, hexec, (congrArg Porch.ackEpoch hread :), (congrArg Porch.ackTick hread :), hseen.trans (congrArg Twin.seen htwn),
      fun _ h => habove (hepoch ▸ h), fun _ h => hequal (h.trans hepoch.symm), hkrole.trans (congrArg Twin.role htwn :),
      hkepoch.trans hepoch, hframe⟩
  · rw [if_pos hrole] at hexec hframe
    exact ⟨_, hexec, congrArg Porch.ackEpoch hread, congrArg Porch.ackTick hread, congrArg Twin.seen htwn, fun h => absurd h hrole,
      fun h => absurd h hrole, (congrArg Twin.role htwn :), (congrArg Twin.epoch htwn :), hframe⟩

theorem exec_faultCell_shows (hcan : Canonical s) (f : FaultCell) (hpass : s.passes p.toNat = true) :
    ∃ t, exec (.faultCell p f) s = .next t
      ∧ (t.porch p.toNat).faultCode = f.code ∧ t.hrt = { s.hrt with guardNow := true } ∧ Notified Src.pch 6 p.toNat 0 t
      ∧ ((s.laneEntry p.toNat).role = 2 → ∀ l, l / 2 ∈ faultMirrors (s.laneEntry p.toNat) f → (s.loop l).cls ≠ .off →
          t.loop l = { s.loop l with frzWait := joinFreeze 2 (s.loop l).frzWait })
      ∧ (∀ l, (s.laneEntry p.toNat).role ≠ 2 ∨ l / 2 ∉ faultMirrors (s.laneEntry p.toNat) f → t.loop l = s.loop l)
      ∧ (∀ d, s.commands = true → d ∈ s.readyOf 2 → s.boot.stopped = false → (s.porch d).squelch % 256 ≠ 255 →
          (∃ m ∈ faultMirrors (s.laneEntry p.toNat) f, (s.laneEntry d).holds m = true) →
          ∃ first count, (GuardCode.headFault, s.holdCell first count GuardCode.headFault) ∈ (t.porch d).sent)
      ∧ SameBut [.hrt, .regs, .events, .loops, .porches, .free] s t := by
  have hporches : PorchesCanonical s := hcan.porches
  have hread := s.faultRead_frame p.toNat f
  have hsent := s.faultSent_frame p.toNat f
  have hboth : SameBut [.hrt, .regs, .events, .porches, .free] s (s.faultSent p.toNat f) := hsent.after (by decide) hread
  have hcode : ((s.faultSent p.toNat f).porch p.toNat).faultCode = f.code := by
    have hkeep : ((s.faultSent p.toNat f).porch p.toNat).faultCode = ((s.faultRead p.toNat f).porch p.toNat).faultCode :=
      (congrArg Porch.faultCode ((State.faultSent_porchesKeep hporches p.toNat f).core p.toNat) :)
    rw [hkeep, State.porch_faultRead_self hporches]
  have hhrt : (s.faultSent p.toNat f).hrt = { s.hrt with guardNow := true } := by
    have hraise : (s.faultRead p.toNat f).hrt = { s.hrt with guardNow := true } := by
      have hrec : (s.receive p.toNat).hrt = s.hrt := s.receive_frame _ .hrt (by decide)
      rw [← hrec]
      rfl
    rw [← hraise]
    exact hsent .hrt (by decide)
  have htold : Notified Src.pch 6 p.toNat 0 (s.faultSent p.toNat f) := by
    have hevents : (s.faultSent p.toNat f).events = (((s.receive p.toNat).updPorch p.toNat fun q =>
        { q with faultCode := f.code }).raise Src.pch 6 p.toNat).events :=
      (hsent .events (by decide)).trans (State.guardEvent_frame _ _ .events (by decide))
    unfold Notified
    rw [hevents]
    exact List.mem_append_right _ (List.mem_singleton.2 rfl)
  have hloop := hboth.loop_eq (by decide)
  have hloops : LoopsCanonical (s.faultSent p.toNat f) := hboth.loopsCanonical (by decide) hcan.loops
  have hholds := fun d hc hd hstop hsq hcarries =>
    State.faultSent_holds (p := p.toNat) (f := f) (d := d) hporches hc hd hstop hsq hcarries
  have hexec := exec_faultCell_passes (f := f) hpass
  by_cases hrole : (s.laneEntry p.toNat).role = roleDrive
  · rw [if_pos hrole] at hexec
    refine ⟨_, hexec, hcode, hhrt, htold, fun _ l hl hcls => ?_, fun l hl => ?_, hholds,
      (State.freezeWhere_frame _ _ _).after (by decide) (hboth.mono (by decide))⟩
    · rw [State.loop_freezeWhere hloops, hloop, if_neg]
      rw [Bool.or_eq_true, not_or, decide_eq_true_eq]
      exact ⟨hcls, by rw [List.contains_iff_mem.2 hl]; exact Bool.false_ne_true⟩
    · have hout := hl.resolve_left (Classical.not_not.2 hrole)
      rw [State.loop_freezeWhere hloops, hloop, if_pos]
      rw [Bool.or_eq_true]
      exact .inr (by rw [Bool.eq_false_iff.2 (mt List.contains_iff_mem.1 hout)]; rfl)
  · rw [if_neg hrole] at hexec
    exact ⟨_, hexec, hcode, hhrt, htold, fun h => absurd h hrole, fun l _ => hloop l, hholds, hboth.mono (by decide)⟩

theorem State.losePorch_shows (hcan : Canonical s) {p : Nat} (hdue : s.lossDue p = true) :
    ((s.losePorch p).porch p).lost = true ∧ ((s.losePorch p).porch p).up = false
      ∧ ((s.porch p).state = .ready → ((s.losePorch p).porch p).state = .lost) := by
  have hporches : PorchesCanonical s := hcan.porches
  have hdown : PorchesCanonical (s.porchDown p) := hporches.updPorch p _
  have hkeep := (State.inTick_porchesKeep hdown fun h => State.lossTaken_porchesKeep h p).core p
  have hself : (s.porchDown p).porch p
      = { s.porch p with up := false, lost := true, state := if (s.porch p).state = .ready then .lost else (s.porch p).state } :=
    State.porch_updPorch_self hporches p _
  rw [State.losePorch_due hdue]
  rw [hself] at hkeep
  generalize ((s.porchDown p).inTick (State.lossTaken p)).porch p = q at hkeep
  exact ⟨(congrArg Porch.lost hkeep :), (congrArg Porch.up hkeep :), fun hready => (congrArg Porch.state hkeep :).trans (if_pos hready)⟩

theorem State.losePorch_follows (hcan : Canonical s) {p : Nat} (hdue : s.lossDue p = true) (hrole : s.porchRole p ≠ 0) :
    Notified Src.pch 1 p 0 (s.losePorch p)
      ∧ ((s.porchRole p = 1 ∨ s.porchRole p = 2) → (s.roleNow ≠ .active ∨ s.twinHas p = false) →
          ∀ l, s.porchFor (s.porchRole p) (l / 2) = some p → (s.loop l).cls ≠ .off →
            ((s.losePorch p).loop l).frzWait = joinFreeze 3 (s.loop l).frzWait)
      ∧ ((s.porchRole p = 1 ∨ s.porchRole p = 2 ∨ s.porchRole p = 3) → s.roleNow = .active → s.twinHas p = true →
          (s.losePorch p).twn.withdrawAt = some 5 ∧ (s.losePorch p).twn.causePorch = p) := by
  have hfinds := s.lossTold_finds p
  have hplan : (s.porchDown p).comingTick.plan = s.plan := rfl
  have htaken : State.lossTaken p (s.porchDown p).comingTick = ((s.porchDown p).comingTick.lossTold p).lossFollows p :=
    if_neg (by rw [State.porchRole_congr hplan]; exact hrole)
  obtain ⟨hloops, htwn, hevents⟩ := (s.porchDown p).inTick_shows (State.lossTaken p)
  rw [State.losePorch_due hdue]
  unfold Notified State.loop
  rw [hloops, htwn, hevents, htaken]
  have htold := (s.porchDown p).comingTick.lossTold_notified p
  generalize (s.porchDown p).comingTick.lossTold p = u at hfinds htold
  have hprole := State.porchRole_congr (hfinds .plan (by decide)) p
  have hcede : u.cedes p ↔ s.roleNow = .active ∧ s.twinHas p = true := by
    unfold State.cedes
    rw [State.roleNow_congr (hfinds .twn (by decide)), State.twinHas_congr (hfinds .twn (by decide)) (hfinds .plan (by decide))]
  refine ⟨u.lossFollows_eventsStay p _ htold, fun hr hkeeps l hl hcls => ?_, fun hr hactive htwin => ?_⟩
  · have hcedes : ¬u.cedes p := fun hc => hkeeps.elim (absurd (hcede.1 hc).1) (fun h => by rw [(hcede.1 hc).2] at h; cases h)
    rw [State.lossFollows_freezes (hprole ▸ hr) hcedes]
    have hfrozen := State.loop_freezeWhere (hfinds.loopsCanonical (by decide) hcan.loops) 3
      (fun l => decide (u.porchFor (u.porchRole p) (l / 2) = some p)) l
    rw [if_neg, hfinds.loop_eq (by decide)] at hfrozen
    · exact (congrArg Loop.frzWait hfrozen :)
    · rw [hfinds.loop_eq (by decide), Bool.or_eq_true, not_or, decide_eq_true_eq, State.porchFor_congr (hfinds .plan (by decide)), hprole]
      exact ⟨hcls, by rw [decide_eq_true hl]; exact Bool.false_ne_true⟩
  · exact State.lossFollows_withdraws (hprole ▸ hr) (hcede.2 ⟨hactive, htwin⟩)

end

/-- Settles O46. -/
theorem cellsOfHeadsAndLoss : Obligations.CellsOfHeadsAndLoss := by
  intro s p hcan
  have hporches : PorchesCanonical s := hcan.porches
  refine ⟨fun a hpass => exec_ackCell_shows hporches a hpass, fun c hlinked => ?_, fun f hpass => exec_faultCell_shows hcan f hpass,
    fun hdue => ?_, fun hdue => ?_⟩
  · have hexec := exec_healthCell_linked (c := c) hlinked
    have hself := State.porch_updPorch_self (hporches.receive p.toNat) p.toNat fun q => { q with health := some c, temp := c.temp }
    exact ⟨_, hexec, congrArg Porch.health hself, congrArg Porch.temp hself, (exec_frame _ _ _ hexec).mono (by simp [touches])⟩
  · obtain ⟨hlost, hup, hstate⟩ := State.losePorch_shows hcan hdue
    refine ⟨_, rfl, hlost, hup, hstate, fun hrole => (State.losePorch_follows hcan hdue hrole).1, fun hr => ?_, fun hr => ?_⟩
    · exact (State.losePorch_follows hcan hdue (by omega)).2.1 hr
    · exact (State.losePorch_follows hcan hdue (by omega)).2.2 hr
  · exact congrArg Host.Outcome.next (if_pos (by rw [hdue]; rfl))

end Sys2Proof.Machine
end

-- Cages ----------------------------------------------------------------------------------------------------------------------------
section
/-! O47: modules, loss of light and its return. -/
namespace Sys2Proof.Machine

-- Bits of a small bit set

theorem natBit_eq_testBit (n i : Nat) : natBit n i = n.testBit i := (Nat.testBit_eq_decide_div_mod_eq).symm

/-- A bit set is its upper part, the bit that is written, and its lower part. -/
theorem testBit_putBit (n i : Nat) (b : Bool) (j : Nat) : (putBit n i b).testBit j = if j = i then b else n.testBit j := by
  have hparity : bit (natBit n i) = n / 2 ^ i % 2 := by
    have hlt := Nat.mod_lt (n / 2 ^ i) (by decide : 0 < 2)
    unfold natBit bit
    split <;> simp_all <;> omega
  have hlow : n % 2 ^ i < 2 ^ i := Nat.mod_lt _ (Nat.two_pow_pos i)
  have hn : n = 2 ^ i * (n / 2 ^ i) + n % 2 ^ i := (Nat.div_add_mod n (2 ^ i)).symm
  have hput : putBit n i b = 2 ^ i * (n / 2 ^ i - n / 2 ^ i % 2 + bit b) + n % 2 ^ i := by
    have hle : n / 2 ^ i % 2 * 2 ^ i ≤ n / 2 ^ i * 2 ^ i := Nat.mul_le_mul_right _ (Nat.mod_le _ _)
    unfold putBit
    rw [hparity, Nat.mul_add, Nat.mul_sub, Nat.mul_comm (2 ^ i) (n / 2 ^ i), Nat.mul_comm (2 ^ i) (n / 2 ^ i % 2), Nat.mul_comm (2 ^ i) (bit b)]
    have := Nat.div_add_mod' n (2 ^ i)
    omega
  rw [hput, Nat.testBit_two_pow_mul_add _ hlow]
  conv => rhs; rw [hn, Nat.testBit_two_pow_mul_add _ hlow]
  have hbit : bit b = if b then 1 else 0 := rfl
  rcases Nat.lt_trichotomy j i with hj | rfl | hj
  · rw [if_pos hj, if_neg (Nat.ne_of_lt hj), if_pos hj]
  · rw [if_neg (Nat.lt_irrefl _), if_pos rfl, Nat.sub_self, Nat.testBit_zero, hbit]
    cases b <;> simp <;> omega
  · obtain ⟨k, hk⟩ := Nat.exists_eq_add_of_lt hj
    have hshift : j - i = k + 1 := by omega
    rw [if_neg (by omega), if_neg (Nat.ne_of_gt hj), if_neg (by omega), hshift, Nat.testBit_succ, Nat.testBit_succ, hbit]
    have hhalf : (n / 2 ^ i - n / 2 ^ i % 2 + if b then 1 else 0) / 2 = n / 2 ^ i / 2 := by
      generalize n / 2 ^ i = m
      split <;> omega
    rw [hhalf]

@[simp] theorem natBit_putBit_self (n i : Nat) (b : Bool) : natBit (putBit n i b) i = b := by
  rw [natBit_eq_testBit, testBit_putBit, if_pos rfl]

theorem natBit_putBit_ne (n : Nat) {i j : Nat} (b : Bool) (h : j ≠ i) : natBit (putBit n i b) j = natBit n j := by
  rw [natBit_eq_testBit, testBit_putBit, if_neg h, natBit_eq_testBit]

/-- What every step keeps, and the step of an element establishes, holds for every element after all steps. -/
theorem foldl_establishes {α β : Type} {step : β → α → β} {I : β → Prop} {P : α → β → Prop} (hI : ∀ b a, I b → I (step b a))
    (hset : ∀ b a, I b → P a (step b a)) (hkeep : ∀ b a a', I b → P a b → P a (step b a')) (l : List α) {b : β} (hb : I b) :
    ∀ a ∈ l, P a (l.foldl step b) := by
  have hstay : ∀ (l : List α) (a : α) {b : β}, I b → P a b → P a (l.foldl step b) := by
    intro l a
    induction l with
    | nil => exact fun _ h => h
    | cons x l ih => exact fun hb h => ih (hI _ x hb) (hkeep _ a x hb h)
  induction l generalizing b with
  | nil => exact fun a ha => absurd ha List.not_mem_nil
  | cons x l ih =>
    intro a ha
    rcases List.mem_cons.1 ha with rfl | ha
    · exact hstay l a (hI b a hb) (hset b a hb)
    · exact ih (hI b x hb) a ha

-- The lanes of a cage

section
variable {s : State} {c : Nat}

/-- Only the squelch of a porch changes. -/
theorem State.squelchCage_canonical (h : PorchesCanonical s) (c : Nat) (on : Bool) : PorchesCanonical (s.squelchCage c on) := by
  unfold State.squelchCage
  generalize cageLanes c = l
  induction l generalizing s with
  | nil => exact h
  | cons e l ih => exact ih (h.updPorch e.1 _)

theorem State.squelchCage_squelched (h : PorchesCanonical s) (c : Nat) (on : Bool) :
    ∀ e ∈ cageLanes c, natBit ((s.squelchCage c on).porch e.1).squelch e.2 = on :=
  foldl_establishes (α := Nat × Nat) (I := PorchesCanonical) (P := fun e u => natBit (u.porch e.1).squelch e.2 = on)
    (fun u e hu => hu.updPorch e.1 _)
    (fun u e hu => by rw [State.porch_updPorch_self hu]; exact natBit_putBit_self _ _ _)
    (fun u e e' hu hset => by
      by_cases hp : e.1 = e'.1
      · rw [hp, State.porch_updPorch_self hu]
        by_cases hl : e.2 = e'.2
        · rw [hl]
          exact natBit_putBit_self _ _ _
        · rw [← hp]
          exact (natBit_putBit_ne _ _ hl).trans hset
      · rw [State.porch_updPorch_ne _ _ hp]
        exact hset) _ h

theorem State.setLit_canonical (h : PorchesCanonical s) (c lit : Nat) : PorchesCanonical (s.setLit c lit) := by
  unfold State.setLit
  generalize (cageLanes c).zipIdx = l
  induction l generalizing s with
  | nil => exact h
  | cons e l ih => exact ih (h.updPorch e.1.1 _)

-- Modules

theorem appSelect_agrees {apps : List AppAd} {i : Nat} (hi : i < apps.length) (hsel : appSelect apps = i + 1) {a : AppAd}
    (ha : apps[i]? = some a) : a.host = 8 ∧ a.media = 8 ∧ a.listed = true := by
  unfold appSelect at hsel
  dsimp only at hsel
  split at hsel
  next hlt =>
    have hidx : List.findIdx (fun a => decide (a.host = 8) && decide (a.media = 8) && a.listed) apps = i := by omega
    have hfound := List.findIdx_getElem (w := hlt)
    simp only [hidx] at hfound
    rw [List.getElem?_eq_getElem hi, Option.some_inj] at ha
    rw [ha] at hfound
    simpa [Bool.and_eq_true, and_assoc] using hfound
  · omega

theorem SameBut.cage_eq {l : List Part} {s t : State} (h : SameBut l s t) (hl : .cages ∉ l) (d : Nat) : t.cage d = s.cage d := by
  have hcages : t.cages = s.cages := h .cages hl
  unfold State.cage
  rw [hcages]

end

-- The light of a cage

/-- What the transmit and receive lanes of a porch show. -/
def Porch.light (q : Porch) : PorchState × Nat × Nat × Nat := (q.state, q.squelch, q.lit, q.locked)

/-- The porches stay canonical, and each shows the same light. -/
structure LightKeeps (s t : State) : Prop where
  canonical : PorchesCanonical t
  light     : ∀ q, (t.porch q).light = (s.porch q).light

theorem LightKeeps.refl {s : State} (h : PorchesCanonical s) : LightKeeps s s := ⟨h, fun _ => rfl⟩

theorem LightKeeps.trans {s t u : State} (h : LightKeeps s t) (k : LightKeeps t u) : LightKeeps s u :=
  ⟨k.canonical, fun q => (k.light q).trans (h.light q)⟩

theorem SameBut.lightKeeps {l : List Part} {s t : State} (h : SameBut l s t) (hl : .porches ∉ l) (hs : PorchesCanonical s) :
    LightKeeps s t := ⟨h.porchesCanonical hl hs, fun q => by rw [h.porch_eq hl]⟩

theorem State.updPorch_lightKeeps {s : State} (h : PorchesCanonical s) (p : Nat) {f : Porch → Porch} (hf : ∀ q, (f q).light = q.light) :
    LightKeeps s (s.updPorch p f) := by
  refine ⟨h.updPorch p f, fun q => ?_⟩
  by_cases hq : q = p
  · rw [hq, State.porch_updPorch_self h, hf]
  · rw [State.porch_updPorch_ne _ _ hq]

/-- A lane that lane 8 gives back goes into service on its own. -/
def State.giveBack (s : State) (p j : Nat) : State := (s.backInService p j).updPorch p fun q => { q with mirror := 15 }

theorem State.giveBack_lightKeeps {s : State} (h : PorchesCanonical s) (p j : Nat) : LightKeeps s (s.giveBack p j) := by
  have hback := (s.backInService_frame p j).lightKeeps (by decide) h
  exact hback.trans (State.updPorch_lightKeeps hback.canonical p fun _ => rfl)

/-- The state in which lane 8 has left service (R367). -/
def State.spareOut (s : State) (p : Nat) : State :=
  let u := if (s.cal p).phase ≠ .idle ∧ !(s.cal p).compat then s.abandonRun p true true else s
  (u.updLane p 8 fun x => { x with state := if u.hasLock p 8 then .shed else .down }).dropMirrorRequests p

theorem State.spareOut_frame (s : State) (p : Nat) : SameBut [.regs, .events, .lanes, .cals] s (s.spareOut p) :=
  (State.dropMirrorRequests_frame _ _).after (by decide) ((State.updLane_frame _ _ _ _).after (by decide)
    (SameBut.ite (s.abandonRun_frame p true true) (.refl _ _)))

theorem State.loseSpare_eq (s : State) (p : Nat) : s.loseSpare p = match ((s.spareOut p).lane p (s.porch p).mirror).state with
    | .spared => if (s.spareOut p).hasLock p (s.porch p).mirror
        then ((s.spareOut p).giveBack p (s.porch p).mirror).updLane p (s.porch p).mirror fun x => { x with spareWanted := true }
        else ((s.spareOut p).askLane p 5 (s.porch p).mirror).askLane p 3 (s.porch p).mirror
    | .replaced => ((s.spareOut p).askLane p 5 (s.porch p).mirror).askLane p 3 (s.porch p).mirror
    | .cal => (s.spareOut p).giveBack p (s.porch p).mirror
    | _ => s.spareOut p := rfl

theorem State.loseSpare_lightKeeps {s : State} (h : PorchesCanonical s) (p : Nat) : LightKeeps s (s.loseSpare p) := by
  have hout := (s.spareOut_frame p).lightKeeps (by decide) h
  have hback := hout.trans (State.giveBack_lightKeeps hout.canonical p (s.porch p).mirror)
  have hasks : LightKeeps s (((s.spareOut p).askLane p 5 (s.porch p).mirror).askLane p 3 (s.porch p).mirror) :=
    hout.trans (((State.askLane_frame _ _ _ _).after (l := [.cals]) (by decide) (State.askLane_frame _ _ _ _)).lightKeeps (by decide) hout.canonical)
  rw [State.loseSpare_eq]
  split
  · split
    · exact hback.trans ((State.updLane_frame _ _ _ _).lightKeeps (by decide) hback.canonical)
    · exact hasks
  · exact hasks
  · exact hback
  · exact hout

section
variable {s : State}

/-- The marks of a dark lane on its porch. -/
def State.unlit (s : State) (e : Nat × Nat) : State :=
  s.updPorch e.1 fun q => { q with locked := putBit q.locked e.2 false, lit := putBit q.lit e.2 false }

theorem State.darkLane_lightKeeps (h : PorchesCanonical s) (e : Nat × Nat) : LightKeeps (s.unlit e) (s.darkLane e) := by
  have hunlit : PorchesCanonical (s.unlit e) := h.updPorch e.1 _
  have hlost := State.loseSpare_lightKeeps hunlit e.1
  unfold State.darkLane
  dsimp only
  split
  · exact hlost.trans ((State.updLane_frame _ _ _ _).lightKeeps (by decide) hlost.canonical)
  · exact (State.updLane_frame _ _ _ _).lightKeeps (by decide) hunlit

/-- A dark lane is not lit and holds no lock. -/
def State.laneDark (e : Nat × Nat) (s : State) : Prop := natBit (s.porch e.1).lit e.2 = false ∧ natBit (s.porch e.1).locked e.2 = false

theorem LightKeeps.laneDark {s t : State} (h : LightKeeps s t) {e : Nat × Nat} (hs : State.laneDark e s) : State.laneDark e t := by
  have hlit : (t.porch e.1).lit = (s.porch e.1).lit := congrArg (fun x => x.2.2.1) (h.light e.1)
  have hlock : (t.porch e.1).locked = (s.porch e.1).locked := congrArg (fun x => x.2.2.2) (h.light e.1)
  unfold State.laneDark
  rw [hlit, hlock]
  exact hs

theorem State.unlit_dark (h : PorchesCanonical s) (e : Nat × Nat) : State.laneDark e (s.unlit e) := by
  unfold State.laneDark State.unlit
  rw [State.porch_updPorch_self h]
  exact ⟨natBit_putBit_self _ _ _, natBit_putBit_self _ _ _⟩

theorem State.unlit_stays (h : PorchesCanonical s) (e e' : Nat × Nat) (hs : State.laneDark e s) : State.laneDark e (s.unlit e') := by
  by_cases hp : e.1 = e'.1
  · by_cases hl : e.2 = e'.2
    · rw [show e = e' from Prod.ext hp hl]
      exact State.unlit_dark h e'
    · unfold State.laneDark at hs ⊢
      unfold State.unlit
      rw [← hp, State.porch_updPorch_self h]
      exact ⟨(natBit_putBit_ne _ _ hl).trans hs.1, (natBit_putBit_ne _ _ hl).trans hs.2⟩
  · unfold State.laneDark State.unlit
    rw [State.porch_updPorch_ne _ _ hp]
    exact hs

theorem State.darkLanes_dark (h : PorchesCanonical s) (l : List (Nat × Nat)) : ∀ e ∈ l, State.laneDark e (l.foldl State.darkLane s) :=
  foldl_establishes (α := Nat × Nat) (I := PorchesCanonical) (P := State.laneDark)
    (fun _ e hu => (State.darkLane_lightKeeps hu e).canonical)
    (fun _ e hu => (State.darkLane_lightKeeps hu e).laneDark (State.unlit_dark hu e))
    (fun _ e e' hu hs => (State.darkLane_lightKeeps hu e').laneDark (State.unlit_stays hu e e' hs)) l h

theorem State.darkLanes_keep (h : PorchesCanonical s) (l : List (Nat × Nat)) (p : Nat) :
    ((l.foldl State.darkLane s).porch p).state = (s.porch p).state ∧ ((l.foldl State.darkLane s).porch p).squelch = (s.porch p).squelch := by
  induction l generalizing s with
  | nil => exact ⟨rfl, rfl⟩
  | cons e l ih =>
    have hkeep := State.darkLane_lightKeeps h e
    have hstep : ((s.darkLane e).porch p).state = (s.porch p).state ∧ ((s.darkLane e).porch p).squelch = (s.porch p).squelch := by
      have hstate : ((s.darkLane e).porch p).state = ((s.unlit e).porch p).state := congrArg (fun x => x.1) (hkeep.light p)
      have hsquelch : ((s.darkLane e).porch p).squelch = ((s.unlit e).porch p).squelch := congrArg (fun x => x.2.1) (hkeep.light p)
      rw [hstate, hsquelch]
      unfold State.unlit
      by_cases hp : p = e.1
      · rw [hp, State.porch_updPorch_self h]
        exact ⟨rfl, rfl⟩
      · rw [State.porch_updPorch_ne _ _ hp]
        exact ⟨rfl, rfl⟩
    obtain ⟨hstate, hsquelch⟩ := ih hkeep.canonical
    exact ⟨hstate.trans hstep.1, hsquelch.trans hstep.2⟩

-- Loss of light (R23, R347, R348)

/-- The cage that has latched DARK, with its transmit lanes squelched. -/
def State.lightLost (s : State) (c : Nat) : State :=
  ((s.guardEvent GuardCode.light).squelchCage c true).updCage c fun x => { x with dark := true, txDisabled := true, probing := false }

/-- The porch of a dark working cage is DARK, and its run ends. -/
def State.porchDark (s : State) (c : Nat) : State := if c < 16 then (s.darkRun c).updPorch c fun q => { q with state := .dark } else s

theorem exec_lossOfLight_seen {c : Fin 18} (hon : s.detectorOn c.val = true) (hdark : (s.cage c.val).dark = false ∨ (s.cage c.val).probing = true) :
    exec (.lossOfLight c) s
      = .next (((cageLanes c.val).foldl State.darkLane ((s.lightLost c.val).porchDark c.val)).raise Src.pch 4 c.val) := by
  refine if_neg ?_
  rw [hon, Bool.not_true, Bool.false_or, Bool.and_eq_true, Bool.not_eq_true']
  rintro ⟨hd, hp⟩
  rcases hdark with h | h
  · rw [h] at hd; cases hd
  · rw [h] at hp; cases hp

theorem State.lightLost_frame (s : State) (c : Nat) : SameBut [.hrt, .regs, .free, .porches] s { s.lightLost c with cages := s.cages } := by
  have hsq : SameBut [.hrt, .regs, .free, .porches] s ((s.guardEvent GuardCode.light).squelchCage c true) :=
    (State.squelchCage_frame _ _ _).after (by decide) ((State.guardEvent_frame _ _).mono (by decide))
  have hcages : ((s.guardEvent GuardCode.light).squelchCage c true).cages = s.cages := hsq .cages (by decide)
  rw [← hcages]
  exact hsq

theorem State.lightLost_canonical (h : PorchesCanonical s) (c : Nat) : PorchesCanonical (s.lightLost c) :=
  State.squelchCage_canonical ((State.guardEvent_frame _ _).porchesCanonical (by decide) h) c true

theorem State.cage_lightLost (h : twf (fun _ => ({} : Cage)) s.cages = true) (c d : Nat) : (s.lightLost c).cage d
    = if d = c then { s.cage c with dark := true, txDisabled := true, probing := false } else s.cage d := by
  have hcages : ((s.guardEvent GuardCode.light).squelchCage c true).cages = s.cages :=
    (State.squelchCage_frame _ _ _ .cages (by decide)).trans (State.guardEvent_frame _ _ .cages (by decide))
  have hcage : ∀ d, ((s.guardEvent GuardCode.light).squelchCage c true).cage d = s.cage d := fun d => by unfold State.cage; rw [hcages]
  unfold State.lightLost
  split
  next hd => rw [hd, State.cage_updCage_self (by rw [hcages]; exact h), hcage]
  next hd => rw [State.cage_updCage_ne _ _ hd, hcage]

theorem State.porchDark_canonical (h : PorchesCanonical s) (c : Nat) : PorchesCanonical (s.porchDark c) := by
  unfold State.porchDark
  split
  · exact ((s.darkRun_frame c).porchesCanonical (by decide) h).updPorch c _
  · exact h

theorem State.porchDark_frame (s : State) (c : Nat) : SameBut [.regs, .events, .porches, .lanes, .cals] s (s.porchDark c) :=
  SameBut.ite ((State.updPorch_frame _ _ _).after (by decide) ((s.darkRun_frame c).mono (by decide))) (.refl _ _)

theorem State.porch_porchDark (h : PorchesCanonical s) (c p : Nat) : ((s.porchDark c).porch p).squelch = (s.porch p).squelch
    ∧ (c < 16 → ((s.porchDark c).porch c).state = .dark) := by
  unfold State.porchDark
  split
  next hc =>
    have hrun := s.darkRun_frame c
    have hself := State.porch_updPorch_self (hrun.porchesCanonical (by decide) h) c fun q => { q with state := .dark }
    refine ⟨?_, fun _ => (congrArg Porch.state hself :)⟩
    by_cases hp : p = c
    · rw [hp, hself, hrun.porch_eq (by decide)]
    · rw [State.porch_updPorch_ne _ _ hp, hrun.porch_eq (by decide)]
  next hc => exact ⟨rfl, fun h => absurd h hc⟩

theorem State.darkLanes_frame (s : State) (l : List (Nat × Nat)) :
    SameBut [.regs, .events, .porches, .lanes, .cals] s (l.foldl State.darkLane s) := by
  induction l generalizing s with
  | nil => exact .refl _ _
  | cons e l ih => exact (s.darkLane_frame e).trans (ih _)

end

-- The obligation

section
variable {s : State} {c : Fin 18}

/-- A cage changed in a state that holds the same cages. -/
theorem State.cage_updCage_of {u : State} (hcan : Canonical s) (hcages : u.cages = s.cages) (c : Nat) (f : Cage → Cage) :
    (u.updCage c f).cage c = f (s.cage c) ∧ ∀ d, d ≠ c → (u.updCage c f).cage d = s.cage d := by
  have hcage : ∀ d, u.cage d = s.cage d := fun d => by unfold State.cage; rw [hcages]
  refine ⟨?_, fun d hd => ?_⟩
  · rw [State.cage_updCage_self (by rw [hcages]; exact hcan.cages), hcage]
  · rw [State.cage_updCage_ne _ _ hd, hcage]

theorem State.beginProbe_shows (hcan : Canonical s) (c : Nat) :
    (s.beginProbe c).cage c = { s.cage c with probing := true, txDisabled := false }
    ∧ (∀ e ∈ cageLanes c, natBit ((s.beginProbe c).porch e.1).squelch e.2 = false)
    ∧ (∀ d, d ≠ c → (s.beginProbe c).cage d = s.cage d) ∧ SameBut [.cages, .porches] s (s.beginProbe c) := by
  obtain ⟨hself, hne⟩ := State.cage_updCage_of (u := s.squelchCage c false) hcan (s.squelchCage_frame c false .cages (by decide)) c
    fun x => { x with probing := true, txDisabled := false }
  exact ⟨hself, State.squelchCage_squelched hcan.porches c false, hne, (s.beginProbe_frame c).mono (by decide)⟩

theorem exec_moduleInsert_shows (hcan : Canonical s) (q : Bool) (m : BitVec 8) (apps : List AppAd) :
    ∃ t, exec (.moduleInsert c q (m, apps)) s = .next t
      ∧ t.cage c.val = { s.cage c.val with
          present := true, qualified := q, modState := m.toNat, app := if q then appSelect apps else 0
          dataPath := q && decide (appSelect apps ≠ 0), squelchOn := q && decide (appSelect apps ≠ 0) }
      ∧ Notified Src.pch 7 c.val 0 t
      ∧ (∀ d, d ≠ c.val → t.cage d = s.cage d) ∧ SameBut [.cages, .events] s t := by
  have hcage := State.cage_updCage_of (u := s) hcan rfl c.val fun x => { x with
    present := true, qualified := q, modState := m.toNat, app := if q then appSelect apps else 0
    dataPath := decide ((if q then appSelect apps else 0) ≠ 0), squelchOn := decide ((if q then appSelect apps else 0) ≠ 0) }
  have hpath : decide ((if q then appSelect apps else 0) ≠ 0) = (q && decide (appSelect apps ≠ 0)) := by cases q <;> rfl
  exact ⟨_, rfl, hcage.1.trans (by rw [hpath]), List.mem_append_right _ (List.mem_singleton.2 rfl), hcage.2,
    (State.raise_frame _ _ _ _ _).after (by decide) ((State.updCage_frame _ _ _).mono (by decide))⟩

theorem exec_lossOfLight_shows (hcan : Canonical s) (hon : s.detectorOn c.val = true)
    (hdark : (s.cage c.val).dark = false ∨ (s.cage c.val).probing = true) :
    ∃ t, exec (.lossOfLight c) s = .next t ∧ (t.cage c.val).dark = true ∧ (t.cage c.val).txDisabled = true
      ∧ (t.cage c.val).probing = false ∧ t.hrt = { s.hrt with guardNow := true } ∧ Notified Src.pch 4 c.val 0 t
      ∧ (∀ e ∈ cageLanes c.val, natBit (t.porch e.1).squelch e.2 = true ∧ natBit (t.porch e.1).lit e.2 = false
          ∧ natBit (t.porch e.1).locked e.2 = false)
      ∧ (c.val < 16 → (t.porch c.val).state = .dark)
      ∧ (∀ d, d ≠ c.val → t.cage d = s.cage d) := by
  have hlost := State.lightLost_canonical hcan.porches c.val
  have hporch := State.porchDark_canonical hlost c.val
  have hframe : SameBut [.regs, .events, .porches, .lanes, .cals] (s.lightLost c.val)
      (((cageLanes c.val).foldl State.darkLane ((s.lightLost c.val).porchDark c.val)).raise Src.pch 4 c.val) :=
    (State.raise_frame _ _ _ _ _).after (by decide) ((State.darkLanes_frame _ _).after (by decide)
      ((State.porchDark_frame _ _).mono (by decide)))
  have hcage := fun d => (hframe.cage_eq (by decide) d).trans (State.cage_lightLost hcan.cages c.val d)
  have hself := (hcage c.val).trans (if_pos rfl)
  have hhrt : (s.lightLost c.val).hrt = { s.hrt with guardNow := true } := (State.squelchCage_frame _ _ _ .hrt (by decide))
  refine ⟨_, exec_lossOfLight_seen hon hdark, (congrArg Cage.dark hself :), (congrArg Cage.txDisabled hself :),
    (congrArg Cage.probing hself :), (hframe .hrt (by decide)).trans hhrt, List.mem_append_right _ (List.mem_singleton.2 rfl),
    fun e he => ⟨?_, State.darkLanes_dark hporch (cageLanes c.val) e he⟩, fun hc => ?_, fun d hd => (hcage d).trans (if_neg hd)⟩
  · have hkeep : (((cageLanes c.val).foldl State.darkLane ((s.lightLost c.val).porchDark c.val)).porch e.1).squelch
        = ((s.lightLost c.val).porch e.1).squelch :=
      (State.darkLanes_keep hporch _ e.1).2.trans (State.porch_porchDark hlost c.val e.1).1
    exact (congrArg (natBit · e.2) hkeep).trans (State.squelchCage_squelched ((State.guardEvent_frame s _).porchesCanonical (by decide)
      hcan.porches) c.val true e he)
  · exact (State.darkLanes_keep hporch _ c.val).1.trans ((State.porch_porchDark hlost c.val c.val).2 hc)

theorem exec_probeEnd_shows (hcan : Canonical s) (l : BitVec 8) (hprobing : (s.cage c.val).probing = true) :
    (7 ≤ (s.setLit c.val l.toNat).litLanes c.val → ∃ t, exec (.probeEnd c l) s = .next t ∧ t.cages = s.cages ∧ SameBut [.porches] s t)
    ∧ ((s.setLit c.val l.toNat).litLanes c.val < 7 → ∃ t, exec (.probeEnd c l) s = .next t
      ∧ t.cage c.val = { s.cage c.val with probing := false, txDisabled := true }
      ∧ (∀ e ∈ cageLanes c.val, natBit (t.porch e.1).squelch e.2 = true) ∧ SameBut [.cages, .porches] s t) := by
  have hlit := s.setLit_frame c.val l.toNat
  have hexec : exec (.probeEnd c l) s = if 7 ≤ (s.setLit c.val l.toNat).litLanes c.val then .next (s.setLit c.val l.toNat)
      else .next (((s.setLit c.val l.toNat).squelchCage c.val true).updCage c.val fun x => { x with probing := false, txDisabled := true }) :=
    if_pos hprobing
  refine ⟨fun h7 => ⟨_, hexec.trans (if_pos h7), hlit .cages (by decide), hlit⟩, fun h7 => ?_⟩
  have hsq : SameBut [.porches] s ((s.setLit c.val l.toNat).squelchCage c.val true) := (State.squelchCage_frame _ _ _).after (by decide) hlit
  have hcanLit : PorchesCanonical (s.setLit c.val l.toNat) := State.setLit_canonical hcan.porches c.val l.toNat
  exact ⟨_, hexec.trans (if_neg (by omega)), (State.cage_updCage_of hcan (hsq .cages (by decide)) c.val _).1,
    State.squelchCage_squelched hcanLit c.val true, (State.updCage_frame _ _ _).after (by decide) (hsq.mono (by decide))⟩

end

/-- Settles O47. -/
theorem cages : Obligations.Cages := by
  refine ⟨fun s c hcan => ⟨fun q m apps => ?_, ?_, fun r x m hpresent => ?_, fun a v l hpresent => ?_, fun hdark hprobing => ?_,
    fun l hprobing => exec_probeEnd_shows hcan l hprobing, fun l hdark hprobing h7 => ?_, fun hdark hprobing h7 => ?_⟩,
    fun s c hcan hon hdark => exec_lossOfLight_shows hcan hon hdark⟩
  · obtain ⟨t, hexec, hself, htold, hne, hframe⟩ := exec_moduleInsert_shows (c := c) hcan q m apps
    exact ⟨t, hexec, hself, fun i hi hsel a ha => appSelect_agrees hi hsel ha, htold, hne, hframe⟩
  · obtain ⟨hself, hne⟩ := State.cage_updCage_of (u := s) hcan rfl c.val
      fun x => { dark := x.dark, txDisabled := x.txDisabled, probing := x.probing }
    exact ⟨_, rfl, (congrArg Cage.present hself :), (congrArg Cage.dark hself :), (congrArg Cage.probing hself :),
      (congrArg Cage.txDisabled hself :), (congrArg Cage.dataPath hself :), List.mem_append_right _ (List.mem_singleton.2 rfl), hne,
      (State.raise_frame _ _ _ _ _).after (by decide) ((State.updCage_frame _ _ _).mono (by decide))⟩
  · obtain ⟨hself, hne⟩ := State.cage_updCage_of (u := s) hcan rfl c.val
      fun y => { y with intN := true, rxLos := r.toNat, txLos := x.toNat, modState := m.toNat }
    exact ⟨_, if_pos hpresent, hself, hne, State.updCage_frame _ _ _⟩
  · obtain ⟨hself, hne⟩ := State.cage_updCage_of (u := s) hcan rfl c.val
      fun x => { x with intN := false, temp := signed 16 a.toNat, vcc := v.toNat, rxPower := (l.take 8).map BitVec.toNat }
    exact ⟨_, if_pos hpresent, hself.trans (by rw [signed_toInt]), hne, State.updCage_frame _ _ _⟩
  · exact ⟨_, if_pos (by rw [hdark, hprobing]; rfl), State.beginProbe_shows hcan c.val⟩
  · have hlit := s.setLit_frame c.val l.toNat
    have hcage := hlit.cage_eq (by decide) c.val
    have hdue : (((s.setLit c.val l.toNat).cage c.val).dark && !((s.setLit c.val l.toNat).cage c.val).probing
        && decide (7 ≤ (s.setLit c.val l.toNat).litLanes c.val)) = true := by
      rw [hcage, hdark, hprobing, decide_eq_true h7]
      rfl
    have hbegin := (State.cage_updCage_of (u := (s.setLit c.val l.toNat).squelchCage c.val false) hcan
      ((State.squelchCage_frame _ _ _ .cages (by decide)).trans (hlit .cages (by decide))) c.val
      fun x => { x with probing := true, txDisabled := false }).1
    exact ⟨_, if_pos hdue, hbegin, (State.beginProbe_frame _ _).after (by decide) (hlit.mono (by decide))⟩
  · have hcage := State.cage_updCage_of (u := s) hcan rfl c.val fun x => { x with dark := false, probing := false }
    have hexec : exec (.latchClear c) s = .next ((if c.val < 16 then (s.updCage c.val fun x => { x with dark := false, probing := false
        }).updPorch c.val fun q => { q with state := .training } else s.updCage c.val fun x => { x with dark := false, probing := false
        }).raise Src.pch 5 c.val) := if_pos (by rw [hdark, hprobing, decide_eq_true h7]; rfl)
    have hframe : SameBut [.cages, .porches] s (if c.val < 16 then (s.updCage c.val fun x => { x with dark := false, probing := false
        }).updPorch c.val fun q => { q with state := .training } else s.updCage c.val fun x => { x with dark := false, probing := false }) :=
      SameBut.ite ((State.updPorch_frame _ _ _).after (by decide) ((State.updCage_frame _ _ _).mono (by decide)))
        ((State.updCage_frame _ _ _).mono (by decide))
    refine ⟨_, hexec, ?_, List.mem_append_right _ (List.mem_singleton.2 rfl), fun hc => ?_,
      (State.raise_frame _ _ _ _ _).after (by decide) (hframe.mono (by decide))⟩
    · by_cases hc : c.val < 16
      · rw [if_pos hc]; exact hcage.1
      · rw [if_neg hc]; exact hcage.1
    · rw [if_pos hc]
      exact (congrArg Porch.state (State.porch_updPorch_self (s := s.updCage c.val fun x => { x with dark := false, probing := false })
        hcan.porches c.val fun q => { q with state := .training }) :)

end Sys2Proof.Machine
end

-- The link of a porch --------------------------------------------------------------------------------------------------------------
section
/-! O48: lock, loss of lock, gaps and LANE cells. -/
namespace Sys2Proof.Machine

abbrev LanesCanonical (s : State) : Prop := twf (fun _ => ({} : Lane)) s.lanes = true

abbrev CalsCanonical (s : State) : Prop := twf (fun _ => ({} : CalRun)) s.cals = true

theorem LanesCanonical.updLane {s : State} (h : LanesCanonical s) (p l : Nat) (f : Lane → Lane) : LanesCanonical (s.updLane p l f) :=
  twf_tupd h (16 * p + l) f

theorem CalsCanonical.updCal {s : State} (h : CalsCanonical s) (p : Nat) (f : CalRun → CalRun) : CalsCanonical (s.updCal p f) :=
  twf_tupd h p f

theorem SameBut.lanesCanonical {l : List Part} {s t : State} (h : SameBut l s t) (hl : .lanes ∉ l) (hs : LanesCanonical s) :
    LanesCanonical t := by
  have hlanes : t.lanes = s.lanes := h .lanes hl
  unfold LanesCanonical
  rw [hlanes]
  exact hs

theorem SameBut.calsCanonical {l : List Part} {s t : State} (h : SameBut l s t) (hl : .cals ∉ l) (hs : CalsCanonical s) :
    CalsCanonical t := by
  have hcals : t.cals = s.cals := h .cals hl
  unfold CalsCanonical
  rw [hcals]
  exact hs

theorem SameBut.lane_eq {l : List Part} {s t : State} (h : SameBut l s t) (hl : .lanes ∉ l) (p j : Nat) : t.lane p j = s.lane p j := by
  have hlanes : t.lanes = s.lanes := h .lanes hl
  unfold State.lane
  rw [hlanes]

theorem SameBut.cal_eq {l : List Part} {s t : State} (h : SameBut l s t) (hl : .cals ∉ l) (p : Nat) : t.cal p = s.cal p := by
  have hcals : t.cals = s.cals := h .cals hl
  unfold State.cal
  rw [hcals]

section
variable {s : State} {p l : Nat}

/-- Lock of the lanes of a porch whose lock bits are written. -/
theorem State.hasLock_putBit {t : State} {b : Bool} (h : (t.porch p).locked = putBit (s.porch p).locked l b) :
    t.hasLock p l = b ∧ ∀ i, i ≠ l → t.hasLock p i = s.hasLock p i := by
  unfold State.hasLock
  rw [h]
  exact ⟨natBit_putBit_self _ _ _, fun i hi => natBit_putBit_ne _ _ hi⟩

theorem State.hasLock_congr {t : State} (h : (t.porch p).locked = (s.porch p).locked) (i : Nat) : t.hasLock p i = s.hasLock p i := by
  unfold State.hasLock
  rw [h]

-- Codeword lock (R313, R340)

/-- A lane that has found lock; one that locks for the first time takes the values that its adaptation found (R351). -/
def Lane.relocked (v : CalValues) (temp : Int) (x : Lane) : Lane :=
  let x := { x with goodCw := 4, badCw := 0, undelin := false }
  if x.state = .down ∧ x.level < 3 ∧ !x.lockLost then { x with state := .inService, vals := v, hasVals := true, runT := temp } else x

theorem Lane.relocked_shows (v : CalValues) (temp : Int) (x : Lane) : (x.relocked v temp).goodCw = 4 ∧ (x.relocked v temp).undelin = false
    ∧ (x.state = .down → x.level < 3 → x.lockLost = false →
        (x.relocked v temp).state = .inService ∧ (x.relocked v temp).vals = v)
    ∧ (x.state ≠ .down ∨ 3 ≤ x.level ∨ x.lockLost = true →
        (x.relocked v temp).state = x.state ∧ (x.relocked v temp).vals = x.vals) := by
  unfold Lane.relocked
  dsimp only
  split
  next h =>
    obtain ⟨hstate, hlevel, hlost⟩ := h
    refine ⟨rfl, rfl, fun _ _ _ => ⟨rfl, rfl⟩, fun hor => ?_⟩
    rw [Bool.not_eq_true'] at hlost
    rcases hor with h | h | h
    · exact absurd hstate h
    · omega
    · rw [hlost] at h; cases h
  next h => exact ⟨rfl, rfl, fun h₁ h₂ h₃ => absurd ⟨h₁, h₂, by rw [h₃]; rfl⟩ h, fun _ => ⟨rfl, rfl⟩⟩

/-- The state in which lane `l` has found lock. -/
def State.lockFound (s : State) (p l : Nat) (v : CalValues) : State :=
  (s.updPorch p fun q => { q with locked := putBit q.locked l true, state := if q.state = .down then .training else q.state }).updLane p l
    (Lane.relocked v (s.cal p).regionT)

/-- A porch that has trained: every lane that holds lock records the temperature (R354). -/
def State.trained (s : State) (p : Nat) : State :=
  (s.updPorch p fun q => { q with state := .discovery, identOk := false, recordOk := false, echoLeft := 16 }).each (List.range 9) fun i u =>
    if u.hasLock p i then u.updLane p i fun x => { x with runT := (u.cal p).regionT } else u

/-- Lanes of a porch that hold lock. -/
def State.held (s : State) (p : Nat) : Nat := ((List.range 9).filter fun i => s.hasLock p i).length

theorem exec_codewordLock_carried {q : BitVec 4} {j : Fin 9} (v : CalValues) (hstart : s.boot.started = true) (hstop : s.boot.stopped = false)
    (hdark : (s.porch q.toNat).state ≠ .dark) (hcarries : s.cageCarries q.toNat j.val = true) :
    exec (.codewordLock q (j, v)) s = .next (if ((s.lockFound q.toNat j.val v).porch q.toNat).state = .training
        ∧ 8 ≤ (s.lockFound q.toNat j.val v).held q.toNat
      then (s.lockFound q.toNat j.val v).trained q.toNat else s.lockFound q.toNat j.val v) := by
  have hexec : exec (.codewordLock q (j, v)) s = execCodewordLock q (j, v) s := rfl
  rw [hexec]
  unfold execCodewordLock
  extract_lets n i u w held d
  rw [if_neg (by rw [hstart, hstop, show s.cageCarries n i = true from hcarries, decide_eq_false hdark]; exact Bool.false_ne_true)]
  have hw : w = s.lockFound n i v := rfl
  change (if (w.porch n).state = .training ∧ 8 ≤ w.held n then Host.Outcome.next (w.trained n) else .next w) = _
  rw [hw]
  split <;> rfl

/-- The lanes stay canonical, and each keeps all but the temperature of its last run. -/
structure LanesKeep (s t : State) : Prop where
  canonical : LanesCanonical t
  lane      : ∀ p l, { t.lane p l with runT := 0 } = { s.lane p l with runT := 0 }

theorem LanesKeep.refl (h : LanesCanonical s) : LanesKeep s s := ⟨h, fun _ _ => rfl⟩

theorem LanesKeep.trans {s t u : State} (h : LanesKeep s t) (k : LanesKeep t u) : LanesKeep s u :=
  ⟨k.canonical, fun p l => (k.lane p l).trans (h.lane p l)⟩

theorem State.updLane_lanesKeep (h : LanesCanonical s) (p l : Nat) (temp : Int) :
    LanesKeep s (s.updLane p l fun x => { x with runT := temp }) := by
  refine ⟨h.updLane p l _, fun q m => ?_⟩
  by_cases hk : 16 * q + m = 16 * p + l
  · have hq : ∀ u : State, u.lane q m = u.lane p l := fun u => congrArg (tget _ u.lanes) hk
    rw [hq, hq, State.lane_updLane_self h]
  · rw [State.lane_updLane_ne _ _ hk]

theorem State.trained_lanesKeep (h : LanesCanonical s) (p : Nat) : LanesKeep s (s.trained p) := by
  have heach : ∀ (l : List Nat) {u : State}, LanesCanonical u → LanesKeep u (State.each l (fun i u =>
      if u.hasLock p i then u.updLane p i fun x => { x with runT := (u.cal p).regionT } else u) u) := by
    intro l
    induction l with
    | nil => exact fun hu => .refl hu
    | cons i l ih =>
      intro u hu
      have hstep : LanesKeep u (if u.hasLock p i then u.updLane p i fun x => { x with runT := (u.cal p).regionT } else u) := by
        split
        · exact State.updLane_lanesKeep hu p i _
        · exact .refl hu
      exact hstep.trans (ih hstep.canonical)
  unfold State.trained
  refine LanesKeep.trans ?_ (heach (List.range 9) ?_)
  · exact ⟨h, fun _ _ => rfl⟩
  · exact h

theorem State.trained_porch (h : PorchesCanonical s) (p : Nat) : (s.trained p).porch p
    = { s.porch p with state := .discovery, identOk := false, recordOk := false, echoLeft := 16 } := by
  have hframe : SameBut [.lanes] (s.updPorch p fun q => { q with state := .discovery, identOk := false, recordOk := false, echoLeft := 16 })
      (s.trained p) := State.each_frame _ _ _ fun _ _ => SameBut.ite (State.updLane_frame _ _ _ _) (.refl _ _)
  rw [hframe.porch_eq (by decide), State.porch_updPorch_self h]

theorem State.lockFound_porch (h : PorchesCanonical s) (p l : Nat) (v : CalValues) : (s.lockFound p l v).porch p
    = { s.porch p with locked := putBit (s.porch p).locked l true
                       state := if (s.porch p).state = .down then .training else (s.porch p).state } :=
  State.porch_updPorch_self h p fun q =>
    { q with locked := putBit q.locked l true, state := if q.state = .down then .training else q.state }

theorem State.lockFound_lane (h : LanesCanonical s) (p l : Nat) (v : CalValues) :
    (s.lockFound p l v).lane p l = (s.lane p l).relocked v (s.cal p).regionT := State.lane_updLane_self h p l _

theorem State.held_congr {t : State} (h : ∀ i, t.hasLock p i = s.hasLock p i) : t.held p = s.held p := by
  unfold State.held
  simp only [h]

theorem exec_codewordLock_shows (hcan : Canonical s) {q : BitVec 4} {j : Fin 9} (v : CalValues) (hstart : s.boot.started = true)
    (hstop : s.boot.stopped = false) (hdark : (s.porch q.toNat).state ≠ .dark) (hcarries : s.cageCarries q.toNat j.val = true) :
    ∃ t, exec (.codewordLock q (j, v)) s = .next t ∧ t.hasLock q.toNat j.val = true ∧ (t.lane q.toNat j.val).goodCw = 4
      ∧ (t.lane q.toNat j.val).undelin = false
      ∧ ((s.lane q.toNat j.val).state = .down → (s.lane q.toNat j.val).level < 3 → (s.lane q.toNat j.val).lockLost = false →
          (t.lane q.toNat j.val).state = .inService ∧ (t.lane q.toNat j.val).vals = v)
      ∧ ((s.lane q.toNat j.val).state ≠ .down ∨ 3 ≤ (s.lane q.toNat j.val).level ∨ (s.lane q.toNat j.val).lockLost = true →
          (t.lane q.toNat j.val).state = (s.lane q.toNat j.val).state ∧ (t.lane q.toNat j.val).vals = (s.lane q.toNat j.val).vals)
      ∧ ((s.porch q.toNat).state = .training ∨ (s.porch q.toNat).state = .down →
          (t.porch q.toNat).state = if 8 ≤ ((List.range 9).filter fun i => t.hasLock q.toNat i).length then .discovery else .training)
      ∧ ((s.porch q.toNat).state = .ready → (t.porch q.toNat).state = .ready)
      ∧ (∀ i, i < 9 → i ≠ j.val → t.hasLock q.toNat i = s.hasLock q.toNat i) ∧ SameBut [.porches, .lanes] s t := by
  have hexec := exec_codewordLock_carried v hstart hstop hdark hcarries
  have hframe := exec_frame _ _ _ hexec
  have hporch := State.lockFound_porch hcan.porches q.toNat j.val v
  have hlane := State.lockFound_lane hcan.lanes q.toNat j.val v
  obtain ⟨hgood, hdelin, hnew, hold⟩ := (s.lane q.toNat j.val).relocked_shows v (s.cal q.toNat).regionT
  rw [← hlane] at hgood hdelin hnew hold
  obtain ⟨hlock, hne⟩ := State.hasLock_putBit (t := s.lockFound q.toNat j.val v) (congrArg Porch.locked hporch :)
  have hstate : ((s.lockFound q.toNat j.val v).porch q.toNat).state
      = if (s.porch q.toNat).state = .down then .training else (s.porch q.toNat).state := (congrArg Porch.state hporch :)
  have hyoung : (s.porch q.toNat).state = .training ∨ (s.porch q.toNat).state = .down →
      ((s.lockFound q.toNat j.val v).porch q.toNat).state = .training := by
    rintro (h | h) <;> rw [hstate, h] <;> rfl
  have hready : (s.porch q.toNat).state = .ready → ((s.lockFound q.toNat j.val v).porch q.toNat).state = .ready := fun h => by
    rw [hstate, h]; rfl
  have hcanPorch : PorchesCanonical (s.lockFound q.toNat j.val v) := 
    (State.updLane_frame _ _ _ _).porchesCanonical (by decide) (PorchesCanonical.updPorch (s := s) hcan.porches q.toNat _)
  have hcanLane : LanesCanonical (s.lockFound q.toNat j.val v) := LanesCanonical.updLane (s := s.updPorch q.toNat _) hcan.lanes _ _ _
  generalize s.lockFound q.toNat j.val v = u at hexec hframe hgood hdelin hnew hold hlock hne hyoung hready hcanPorch hcanLane
  by_cases hdue : (u.porch q.toNat).state = .training ∧ 8 ≤ u.held q.toNat
  · rw [if_pos hdue] at hexec hframe
    have hkeep := (State.trained_lanesKeep hcanLane q.toNat).lane q.toNat j.val
    have hpt := State.trained_porch hcanPorch q.toNat
    have hlocks := fun i => State.hasLock_congr (s := u) (t := u.trained q.toNat) (congrArg Porch.locked hpt :) i
    have hst : ((u.trained q.toNat).lane q.toNat j.val).state = (u.lane q.toNat j.val).state := (congrArg Lane.state hkeep :)
    have hvals : ((u.trained q.toNat).lane q.toNat j.val).vals = (u.lane q.toNat j.val).vals := (congrArg Lane.vals hkeep :)
    refine ⟨_, hexec, (hlocks _).trans hlock, (congrArg Lane.goodCw hkeep :).trans hgood, (congrArg Lane.undelin hkeep :).trans hdelin,
      by rw [hst, hvals]; exact hnew, by rw [hst, hvals]; exact hold, fun _ => ?_, fun h => ?_,
      fun i _ hi => (hlocks i).trans (hne i hi), hframe⟩
    · have hheld : 8 ≤ (u.trained q.toNat).held q.toNat := by rw [State.held_congr hlocks]; exact hdue.2
      exact (congrArg Porch.state hpt :).trans (if_pos hheld).symm
    · rw [hready h] at hdue
      cases hdue.1
  · rw [if_neg hdue] at hexec hframe
    refine ⟨_, hexec, hlock, hgood, hdelin, hnew, hold, fun h => ?_, hready, fun i _ hi => hne i hi, hframe⟩
    rw [hyoung h]
    exact (if_neg fun hheld => hdue ⟨hyoung h, hheld⟩).symm

-- Loss of lock (R313, R357, R527)

/-- Lane `l` of a porch without its lock. -/
def State.unlocked (s : State) (p l : Nat) : State :=
  (s.updPorch p fun q => { q with locked := putBit q.locked l false }).updLane p l fun x => { x with goodCw := 0, undelin := true }

/-- What the loss of lock makes of its lane and of its run. -/
def State.lossOfLock (s : State) (p l : Nat) : State :=
  if (s.cal p).phase ≠ .idle ∧ (s.cal p).lane = l then
    ((s.unlocked p l).updLane p l fun x => { x with vals := x.old }).updCal p fun c =>
      { c with phase := .lockWait, lostAt := s.hrt.frame, heldFor := 0 }
  else (s.unlocked p l).updLane p l fun x =>
    { x with lockLost := true, state := if x.state = .inService ∨ x.state = .carrying then .down else x.state }

theorem State.loseLock_eq (s : State) (p l : Nat) : s.loseLock p l =
    if ((s.lossOfLock p l).porch p).locked = 0 ∧ ((s.lossOfLock p l).porch p).state ≠ .dark
    then (s.lossOfLock p l).updPorch p fun q => { q with state := .down } else s.lossOfLock p l := rfl

theorem State.unlocked_lane (h : LanesCanonical s) (p l : Nat) :
    (s.unlocked p l).lane p l = { s.lane p l with goodCw := 0, undelin := true } := State.lane_updLane_self h p l _

theorem State.lossOfLock_own (hlanes : LanesCanonical s) (hcals : CalsCanonical s) (hrun : (s.cal p).phase ≠ .idle ∧ (s.cal p).lane = l) :
    (s.lossOfLock p l).lane p l = { s.lane p l with goodCw := 0, undelin := true, vals := (s.lane p l).old }
      ∧ (s.lossOfLock p l).cal p = { s.cal p with phase := .lockWait, lostAt := s.hrt.frame, heldFor := 0 } := by
  have hcan : LanesCanonical (s.unlocked p l) := LanesCanonical.updLane (s := s.updPorch p _) hlanes _ _ _
  have hlane := State.lane_updLane_self hcan p l fun x => { x with vals := x.old }
  rw [State.unlocked_lane hlanes] at hlane
  unfold State.lossOfLock
  rw [if_pos hrun]
  exact ⟨hlane, State.cal_updCal_self hcals p _⟩

theorem State.lossOfLock_other (hlanes : LanesCanonical s) (hrun : ¬((s.cal p).phase ≠ .idle ∧ (s.cal p).lane = l)) :
    (s.lossOfLock p l).lane p l = { s.lane p l with
        goodCw := 0, undelin := true, lockLost := true
        state := if (s.lane p l).state = .inService ∨ (s.lane p l).state = .carrying then .down else (s.lane p l).state }
      ∧ (s.lossOfLock p l).cal p = s.cal p := by
  have hcan : LanesCanonical (s.unlocked p l) := LanesCanonical.updLane (s := s.updPorch p _) hlanes _ _ _
  have hlane := State.lane_updLane_self hcan p l fun x =>
    { x with lockLost := true, state := if x.state = .inService ∨ x.state = .carrying then .down else x.state }
  rw [State.unlocked_lane hlanes] at hlane
  unfold State.lossOfLock
  rw [if_neg hrun]
  exact ⟨hlane, rfl⟩

theorem State.lossOfLock_porch (h : PorchesCanonical s) (p l : Nat) :
    (s.lossOfLock p l).porch p = { s.porch p with locked := putBit (s.porch p).locked l false } := by
  have hself := State.porch_updPorch_self h p fun q => { q with locked := putBit q.locked l false }
  unfold State.lossOfLock
  split <;> exact hself

/-- The loss of lock leaves the lanes and the runs as the loss itself does. -/
theorem State.loseLock_keeps (h : PorchesCanonical s) (p l : Nat) : (s.loseLock p l).lane p l = (s.lossOfLock p l).lane p l
    ∧ (s.loseLock p l).cal p = (s.lossOfLock p l).cal p ∧ (s.loseLock p l).hasLock p l = false
    ∧ (((s.loseLock p l).porch p).locked = 0 → (s.porch p).state ≠ .dark → ((s.loseLock p l).porch p).state = .down) := by
  have hporch := State.lossOfLock_porch h p l
  have hlock := (State.hasLock_putBit (t := s.lossOfLock p l) (congrArg Porch.locked hporch :)).1
  have hst : ((s.lossOfLock p l).porch p).state = (s.porch p).state := (congrArg Porch.state hporch :)
  have hcan : PorchesCanonical (s.lossOfLock p l) := by
    have hun : PorchesCanonical (s.unlocked p l) := (State.updLane_frame _ _ _ _).porchesCanonical (by decide) (h.updPorch p _)
    have hframe : SameBut [.lanes, .cals] (s.unlocked p l) (s.lossOfLock p l) :=
      SameBut.ite ((State.updCal_frame _ _ _).after (by decide) ((State.updLane_frame _ _ _ _).mono (by decide)))
        ((State.updLane_frame _ _ _ _).mono (by decide))
    exact hframe.porchesCanonical (by decide) hun
  rw [State.loseLock_eq]
  split
  · have hself := State.porch_updPorch_self hcan p fun q => { q with state := .down }
    exact ⟨rfl, rfl, (State.hasLock_congr (s := s.lossOfLock p l) (congrArg Porch.locked hself :) l).trans hlock,
      fun _ _ => (congrArg Porch.state hself :)⟩
  next hno => exact ⟨rfl, rfl, hlock, fun hzero hdark => absurd ⟨hzero, by rw [hst]; exact hdark⟩ hno⟩

theorem exec_lockLoss_shows (hcan : Canonical s) {q : BitVec 4} {j : Fin 9} (hlock : s.hasLock q.toNat j.val = true) :
    ∃ t, exec (.lockLoss q j) s = .next t ∧ t.hasLock q.toNat j.val = false
      ∧ ((s.cal q.toNat).phase = .idle ∨ (s.cal q.toNat).lane ≠ j.val → (t.lane q.toNat j.val).lockLost = true
          ∧ ((s.lane q.toNat j.val).state = .inService ∨ (s.lane q.toNat j.val).state = .carrying →
              (t.lane q.toNat j.val).state = .down) ∧ t.cal q.toNat = s.cal q.toNat)
      ∧ ((s.cal q.toNat).phase ≠ .idle → (s.cal q.toNat).lane = j.val →
          (t.lane q.toNat j.val).vals = (s.lane q.toNat j.val).old ∧ (t.cal q.toNat).phase = .lockWait
          ∧ (t.cal q.toNat).lostAt = s.hrt.frame)
      ∧ ((t.porch q.toNat).locked = 0 → (s.porch q.toNat).state ≠ .dark → (t.porch q.toNat).state = .down)
      ∧ SameBut [.porches, .lanes, .cals] s t := by
  obtain ⟨hlane, hcal, hlost, hdown⟩ := State.loseLock_keeps hcan.porches q.toNat j.val
  refine ⟨_, if_pos hlock, hlost, fun hother => ?_, fun hphase hown => ?_, hdown, State.loseLock_frame _ _ _⟩
  · obtain ⟨hl, hc⟩ := State.lossOfLock_other hcan.lanes fun h => hother.elim h.1 (· h.2)
    exact ⟨by rw [hlane, hl], fun hst => by rw [hlane, hl]; exact if_pos hst, hcal.trans hc⟩
  · obtain ⟨hl, hc⟩ := State.lossOfLock_own hcan.lanes hcan.cals ⟨hphase, hown⟩
    exact ⟨by rw [hlane, hl], by rw [hcal, hc], by rw [hcal, hc]⟩

-- Uncorrectable codewords (R313) and gaps (R318)

/-- A lane with an uncorrectable codeword. -/
def State.badCodeword (s : State) (p l : Nat) : State :=
  s.updLane p l fun x => { x with badCw := min 8 (x.badCw + 1), goodCw := 0, undelin := true }

theorem exec_uncorrectableCodeword (q : BitVec 4) (j : Fin 9) : exec (.uncorrectableCodeword q j) s = .next (
    if 8 ≤ ((s.badCodeword q.toNat j.val).lane q.toNat j.val).badCw ∧ (s.badCodeword q.toNat j.val).hasLock q.toNat j.val
    then (s.badCodeword q.toNat j.val).loseLock q.toNat j.val else s.badCodeword q.toNat j.val) := rfl

theorem exec_uncorrectableCodeword_eighth (hcan : Canonical s) {q : BitVec 4} {j : Fin 9} (hbad : 7 ≤ (s.lane q.toNat j.val).badCw)
    (hlock : s.hasLock q.toNat j.val = true) :
    ∃ t, exec (.uncorrectableCodeword q j) s = .next t ∧ t.hasLock q.toNat j.val = false ∧ (t.lane q.toNat j.val).undelin = true
      ∧ ((s.cal q.toNat).phase = .idle ∨ (s.cal q.toNat).lane ≠ j.val → (t.lane q.toNat j.val).lockLost = true
          ∧ ((s.lane q.toNat j.val).state = .inService → (t.lane q.toNat j.val).state = .down))
      ∧ SameBut [.porches, .lanes, .cals] s t := by
  have hself := State.lane_updLane_self hcan.lanes q.toNat j.val fun x =>
    { x with badCw := min 8 (x.badCw + 1), goodCw := 0, undelin := true }
  have hlanes : LanesCanonical (s.badCodeword q.toNat j.val) := LanesCanonical.updLane hcan.lanes _ _ _
  have hcount : ((s.badCodeword q.toNat j.val).lane q.toNat j.val).badCw = min 8 ((s.lane q.toNat j.val).badCw + 1) :=
    (congrArg Lane.badCw hself :)
  have hstate : ((s.badCodeword q.toNat j.val).lane q.toNat j.val).state = (s.lane q.toNat j.val).state := (congrArg Lane.state hself :)
  obtain ⟨hlane, -, hlost, -⟩ := State.loseLock_keeps (s := s.badCodeword q.toNat j.val) hcan.porches q.toNat j.val
  have hexec := (exec_uncorrectableCodeword (s := s) q j).trans (congrArg Host.Outcome.next (if_pos ⟨by rw [hcount]; omega, hlock⟩))
  refine ⟨_, hexec, hlost, ?_, fun hother => ?_,
    (State.loseLock_frame _ _ _).after (by decide) ((State.updLane_frame _ _ _ _).mono (by decide))⟩
  · rw [hlane]
    by_cases hrun : ((s.badCodeword q.toNat j.val).cal q.toNat).phase ≠ .idle ∧ ((s.badCodeword q.toNat j.val).cal q.toNat).lane = j.val
    · rw [(State.lossOfLock_own hlanes hcan.cals hrun).1]
    · rw [(State.lossOfLock_other hlanes hrun).1]
  · have hl := (State.lossOfLock_other hlanes fun h => hother.elim h.1 (· h.2)).1
    exact ⟨by rw [hlane, hl], fun hst => by rw [hlane, hl]; exact if_pos (.inl (hstate.trans hst))⟩

theorem exec_uncorrectableCodeword_counted (hcan : Canonical s) {q : BitVec 4} {j : Fin 9}
    (hfew : (s.lane q.toNat j.val).badCw < 7 ∨ s.hasLock q.toNat j.val = false) :
    ∃ t, exec (.uncorrectableCodeword q j) s = .next t ∧ t.lane q.toNat j.val = { s.lane q.toNat j.val with
      badCw := min 8 ((s.lane q.toNat j.val).badCw + 1), goodCw := 0, undelin := true } ∧ SameBut [.lanes] s t := by
  have hself := State.lane_updLane_self hcan.lanes q.toNat j.val fun x =>
    { x with badCw := min 8 (x.badCw + 1), goodCw := 0, undelin := true }
  have hcount : ((s.badCodeword q.toNat j.val).lane q.toNat j.val).badCw = min 8 ((s.lane q.toNat j.val).badCw + 1) :=
    (congrArg Lane.badCw hself :)
  have hstays : ¬(8 ≤ ((s.badCodeword q.toNat j.val).lane q.toNat j.val).badCw ∧ (s.badCodeword q.toNat j.val).hasLock q.toNat j.val = true) := by
    rintro ⟨h8, hlock⟩
    rw [hcount] at h8
    have hheld : s.hasLock q.toNat j.val = true := hlock
    rcases hfew with h | h
    · omega
    · rw [h] at hheld; cases hheld
  exact ⟨_, (exec_uncorrectableCodeword (s := s) q j).trans (congrArg Host.Outcome.next (if_neg hstays)), hself, State.updLane_frame _ _ _ _⟩

theorem exec_lseqGap_shows (hcan : Canonical s) {q : BitVec 4} (n : BitVec 16) (hlinked : s.linked q.toNat = true) :
    ∃ t, exec (.lseqGap q n) s = .next t
      ∧ t.porch q.toNat = { s.porch q.toNat with rxSeq := (n.toNat + 1) % 65536, holed := true }
      ∧ t.field (Reg.PCH_Pp_RX q.toNat) 0 16 = min (2 ^ 16 - 1) (s.field (Reg.PCH_Pp_RX q.toNat) 0 16 + 1)
      ∧ SameBut [.porches, .regs] s t := by
  have hexec : exec (.lseqGap q n) s = .next ((s.updPorch q.toNat fun q => { q with rxSeq := (n.toNat + 1) % 65536, holed := true }).count
      (Reg.PCH_Pp_RX q.toNat) 0 16 1) := if_neg (by rw [hlinked]; exact Bool.false_ne_true)
  have hframe := exec_frame _ _ _ hexec
  have hself := State.porch_updPorch_self hcan.porches q.toNat fun q => { q with rxSeq := (n.toNat + 1) % 65536, holed := true }
  have hcount := State.field_count_self (s := s.updPorch q.toNat fun q => { q with rxSeq := (n.toNat + 1) % 65536, holed := true })
    hcan.regs (Reg.PCH_Pp_RX q.toNat) (lo := 0) (n := 16) 1 (by decide)
  exact ⟨_, hexec, ((State.count_frame _ _ _ _ _).porch_eq (by decide) _).trans hself, hcount, hframe.mono (by simp [touches])⟩

-- Requests of the far end (R343, R344, R352)

/-- A porch on which a request of the far end is noted. -/
def Porch.laneAsked (op l : Nat) (q : Porch) : Porch := match op with
  | 1 => { q with txMirror := l }
  | 3 => { q with txMirror := 15 }
  | 5 => { q with txShed := putBit q.txShed l true }
  | _ => { q with txShed := putBit q.txShed l false }

theorem Porch.laneAsked_same (op l : Nat) (q : Porch) : (q.laneAsked op l).txSeq = q.txSeq ∧ (q.laneAsked op l).squelch = q.squelch := by
  unfold Porch.laneAsked
  split <;> exact ⟨rfl, rfl⟩

theorem State.answerLane_eq (h : PorchesCanonical s) (hl : ¬7 < l) (op : Nat) : s.answerLane p op l
    = (s.updPorch p (Porch.laneAsked op l)).send p prioFrame (.lane (op + 1) l 0 (s.porch p).txSeq) := by
  have hself := State.porch_updPorch_self h p (Porch.laneAsked op l)
  have hseq : ((s.updPorch p (Porch.laneAsked op l)).porch p).txSeq = (s.porch p).txSeq := by
    rw [hself]
    exact ((s.porch p).laneAsked_same op l).1
  rw [← hseq]
  exact if_neg hl

/-- The request of a LANE cell is noted on the porch, and answered (R343). -/
theorem State.answerLane_shows (h : PorchesCanonical s) (hl : ¬7 < l) (op : Nat) :
    ((s.answerLane p op l).porch p).txMirror = ((s.porch p).laneAsked op l).txMirror
    ∧ ((s.answerLane p op l).porch p).txShed = ((s.porch p).laneAsked op l).txShed
    ∧ (s.boot.stopped = false → (s.porch p).squelch % 256 ≠ 255 →
        (prioFrame, TxCell.lane (op + 1) l 0 (s.porch p).txSeq) ∈ ((s.answerLane p op l).porch p).sent) := by
  have hu := h.updPorch p (Porch.laneAsked op l)
  have hself := State.porch_updPorch_self h p (Porch.laneAsked op l)
  have hkeep := (State.send_porchesKeep hu p prioFrame (.lane (op + 1) l 0 (s.porch p).txSeq)).core p
  rw [State.answerLane_eq h hl]
  refine ⟨(congrArg Porch.txMirror hkeep :).trans (congrArg Porch.txMirror hself :),
    (congrArg Porch.txShed hkeep :).trans (congrArg Porch.txShed hself :), fun hstop hsq => State.mem_sent_send hu hstop ?_ _ _⟩
  rw [hself, ((s.porch p).laneAsked_same op l).2]
  exact hsq

theorem exec_laneCell_request {q : BitVec 4} {o k r : BitVec 8} {n : BitVec 16} (hlinked : s.linked q.toNat = true)
    (ho : o = 1 ∨ o = 3 ∨ o = 5 ∨ o = 7) :
    exec (.laneCell q o k r n) s = .next ((s.receive q.toNat).answerLane q.toNat o.toNat k.toNat) := by
  have hnat : o.toNat = 1 ∨ o.toNat = 3 ∨ o.toNat = 5 ∨ o.toNat = 7 := by
    rcases ho with rfl | rfl | rfl | rfl <;> decide
  exact (if_neg (by rw [hlinked]; exact Bool.false_ne_true)).trans (if_pos hnat)

theorem State.receive_same (h : PorchesCanonical s) (p : Nat) : ((s.receive p).porch p).squelch = (s.porch p).squelch
    ∧ ((s.receive p).porch p).txSeq = (s.porch p).txSeq ∧ ((s.receive p).porch p).laneReq = (s.porch p).laneReq
    ∧ ((s.receive p).porch p).txMirror = (s.porch p).txMirror ∧ ((s.receive p).porch p).txShed = (s.porch p).txShed := by
  rw [State.receive_porch h]
  exact ⟨rfl, rfl, rfl, rfl, rfl⟩

theorem exec_laneCell_noted (hcan : Canonical s) {q : BitVec 4} {o k r : BitVec 8} {n : BitVec 16} (hlinked : s.linked q.toNat = true)
    (hk : k.toNat ≤ 7) (ho : o = 1 ∨ o = 3 ∨ o = 5 ∨ o = 7) : ∃ t, exec (.laneCell q o k r n) s = .next t
      ∧ (o = 1 → (t.porch q.toNat).txMirror = k.toNat) ∧ (o = 3 → (t.porch q.toNat).txMirror = 15)
      ∧ (o = 5 → natBit (t.porch q.toNat).txShed k.toNat = true) ∧ (o = 7 → natBit (t.porch q.toNat).txShed k.toNat = false)
      ∧ (s.boot.stopped = false → (s.porch q.toNat).squelch % 256 ≠ 255 →
          (prioFrame, TxCell.lane (o.toNat + 1) k.toNat 0 (s.porch q.toNat).txSeq) ∈ (t.porch q.toNat).sent)
      ∧ t.lanes = s.lanes := by
  have hrec : PorchesCanonical (s.receive q.toNat) := PorchesCanonical.receive hcan.porches q.toNat
  obtain ⟨hsq, hseq, -, -, -⟩ := State.receive_same hcan.porches q.toNat
  obtain ⟨hmirror, hshed, hsent⟩ := State.answerLane_shows (p := q.toNat) (l := k.toNat) hrec (by omega) o.toNat
  rw [hsq, hseq] at hsent
  have hstop : (s.receive q.toNat).boot = s.boot := s.receive_frame q.toNat .boot (by decide)
  rw [hstop] at hsent
  refine ⟨_, exec_laneCell_request hlinked ho, fun h => ?_, fun h => ?_, fun h => ?_, fun h => ?_, hsent,
    (State.answerLane_frame _ _ _ _ .lanes (by decide)).trans (s.receive_frame q.toNat .lanes (by decide))⟩
  · subst h; exact hmirror
  · subst h; exact hmirror
  · subst h; rw [hshed]; exact natBit_putBit_self _ _ _
  · subst h; rw [hshed]; exact natBit_putBit_self _ _ _

theorem exec_laneCell_badLane (hcan : Canonical s) {q : BitVec 4} {o k r : BitVec 8} {n : BitVec 16} (hlinked : s.linked q.toNat = true)
    (hk : 7 < k.toNat) (ho : o = 1 ∨ o = 3 ∨ o = 5 ∨ o = 7) : ∃ t, exec (.laneCell q o k r n) s = .next t
      ∧ (t.porch q.toNat).txMirror = (s.porch q.toNat).txMirror ∧ (t.porch q.toNat).txShed = (s.porch q.toNat).txShed
      ∧ (s.boot.stopped = false → (s.porch q.toNat).squelch % 256 ≠ 255 →
          (prioFrame, TxCell.lane (o.toNat + 1) k.toNat 2 (s.porch q.toNat).txSeq) ∈ (t.porch q.toNat).sent)
      ∧ t.lanes = s.lanes := by
  have hrec : PorchesCanonical (s.receive q.toNat) := PorchesCanonical.receive hcan.porches q.toNat
  obtain ⟨hsq, hseq, -, hmirror, hshed⟩ := State.receive_same hcan.porches q.toNat
  have hanswer : (s.receive q.toNat).answerLane q.toNat o.toNat k.toNat
      = (s.receive q.toNat).send q.toNat prioFrame (.lane (o.toNat + 1) k.toNat 2 (s.porch q.toNat).txSeq) := by
    rw [← hseq]
    exact if_pos hk
  have hexec := (exec_laneCell_request (r := r) (n := n) (k := k) hlinked ho).trans (congrArg Host.Outcome.next hanswer)
  have hkeep := (State.send_porchesKeep hrec q.toNat prioFrame (.lane (o.toNat + 1) k.toNat 2 (s.porch q.toNat).txSeq)).core q.toNat
  have hstop : (s.receive q.toNat).boot = s.boot := s.receive_frame q.toNat .boot (by decide)
  exact ⟨_, hexec, (congrArg Porch.txMirror hkeep :).trans hmirror, (congrArg Porch.txShed hkeep :).trans hshed,
    fun h hs => State.mem_sent_send hrec (by rw [hstop]; exact h) (by rw [hsq]; exact hs) _ _,
    (State.send_frame _ _ _ _ .lanes (by decide)).trans (s.receive_frame q.toNat .lanes (by decide))⟩

-- Answers to a request of this receiver (R344)

/-- Asking again: a request that no other waits behind goes out at once. -/
theorem State.pumpLane_asks {op j : Nat} {rest : List (Nat × Nat)} (hreq : (s.porch p).laneReq = none)
    (hwait : (s.cal p).requests = (op, j) :: rest) : s.pumpLane p
      = ((s.updCal p fun c => { c with requests := rest }).updPorch p fun q => { q with laneReq := some (op, j) }).send p prioFrame
          (.lane op j 0 0) := by
  unfold State.pumpLane
  rw [hreq, hwait]

theorem State.pumpLane_idle (hreq : (s.porch p).laneReq = none) (hwait : (s.cal p).requests = []) : s.pumpLane p = s := by
  unfold State.pumpLane
  rw [hreq, hwait]

theorem exec_laneCell_answer (hcan : Canonical s) {q : BitVec 4} {o k r : BitVec 8} {n : BitVec 16} (hlinked : s.linked q.toNat = true)
    (ho : o.toNat = 2 ∨ o.toNat = 4 ∨ o.toNat = 6 ∨ o.toNat = 8) (hreq : (s.porch q.toNat).laneReq = some (o.toNat - 1, k.toNat)) :
    (r.toNat = 0 → exec (.laneCell q o k r n) s = .next (((s.receive q.toNat).laneDone q.toNat o.toNat k.toNat).pumpLane q.toNat))
    ∧ (r.toNat = 1 → exec (.laneCell q o k r n) s = .next ((((s.receive q.toNat).updPorch q.toNat fun q => { q with laneReq := none }).updCal
        q.toNat fun c => { c with requests := (o.toNat - 1, k.toNat) :: c.requests }).pumpLane q.toNat)) := by
  have hwaits : ((s.receive q.toNat).porch q.toNat).laneReq = some (o.toNat - 1, k.toNat) :=
    (State.receive_same hcan.porches q.toNat).2.2.1.trans hreq
  have hexec : exec (.laneCell q o k r n) s = execLaneCell q o k r n s := rfl
  rw [hexec]
  unfold execLaneCell
  dsimp only
  rw [if_neg (by rw [hlinked]; exact Bool.false_ne_true), if_neg (by omega), if_pos ⟨hwaits, ho⟩]
  generalize r.toNat = x
  exact ⟨fun hx => by subst hx; rfl, fun hx => by subst hx; rfl⟩

/-- The state in which a request of this receiver has ended. -/
def State.laneEnded (s : State) (p : Nat) : State := (s.receive p).updPorch p fun q => { q with laneReq := none }

theorem State.laneEnded_frame (s : State) (p : Nat) : SameBut [.regs, .porches] s (s.laneEnded p) :=
  (State.updPorch_frame _ _ _).after (by decide) (s.receive_frame p)

theorem State.laneEnded_canonical (h : PorchesCanonical s) (p : Nat) : PorchesCanonical (s.laneEnded p) :=
  PorchesCanonical.updPorch (PorchesCanonical.receive h p) p _

theorem State.laneEnded_laneReq (h : PorchesCanonical s) (p : Nat) : ((s.laneEnded p).porch p).laneReq = none :=
  (congrArg Porch.laneReq (State.porch_updPorch_self (PorchesCanonical.receive h p) p fun q => { q with laneReq := none }) :)

theorem exec_laneCell_busy (hcan : Canonical s) {q : BitVec 4} {o k : BitVec 8} {n : BitVec 16} (hlinked : s.linked q.toNat = true)
    (ho : o.toNat = 2 ∨ o.toNat = 4 ∨ o.toNat = 6 ∨ o.toNat = 8) (hreq : (s.porch q.toNat).laneReq = some (o.toNat - 1, k.toNat)) :
    ∃ t, exec (.laneCell q o k 1 n) s = .next t
      ∧ (t.porch q.toNat).laneReq = some (o.toNat - 1, k.toNat) ∧ t.cal q.toNat = s.cal q.toNat ∧ t.lanes = s.lanes
      ∧ (s.boot.stopped = false → (s.porch q.toNat).squelch % 256 ≠ 255 →
          (prioFrame, TxCell.lane (o.toNat - 1) k.toNat 0 0) ∈ (t.porch q.toNat).sent) := by
  have hframe := s.laneEnded_frame q.toNat
  have hcals : CalsCanonical (s.laneEnded q.toNat) := hframe.calsCanonical (by decide) hcan.cals
  have hput := State.cal_updCal_self hcals q.toNat fun c => { c with requests := (o.toNat - 1, k.toNat) :: c.requests }
  rw [hframe.cal_eq (by decide)] at hput
  have hexec := (exec_laneCell_answer (r := 1) (n := n) hcan hlinked ho hreq).2 rfl
  change _ = Host.Outcome.next (((s.laneEnded q.toNat).updCal q.toNat fun c =>
    { c with requests := (o.toNat - 1, k.toNat) :: c.requests }).pumpLane q.toNat) at hexec
  have hpump := State.pumpLane_asks (s := (s.laneEnded q.toNat).updCal q.toNat fun c =>
    { c with requests := (o.toNat - 1, k.toNat) :: c.requests }) (op := o.toNat - 1) (j := k.toNat) (rest := (s.cal q.toNat).requests)
    (State.laneEnded_laneReq hcan.porches q.toNat) (congrArg CalRun.requests hput :)
  rw [hpump] at hexec
  have hwait : SameBut [.cals] (s.laneEnded q.toNat) (((s.laneEnded q.toNat).updCal q.toNat fun c =>
      { c with requests := (o.toNat - 1, k.toNat) :: c.requests }).updCal q.toNat fun c => { c with requests := (s.cal q.toNat).requests }) :=
    (State.updCal_frame _ _ _).after (by decide) (State.updCal_frame _ _ _)
  have hback := State.cal_updCal_self (CalsCanonical.updCal hcals q.toNat fun c =>
    { c with requests := (o.toNat - 1, k.toNat) :: c.requests }) q.toNat fun c => { c with requests := (s.cal q.toNat).requests }
  rw [hput] at hback
  have hu := hwait.porchesCanonical (by decide) (State.laneEnded_canonical hcan.porches q.toNat)
  have hporch := hwait.porch_eq (by decide) q.toNat
  generalize (((s.laneEnded q.toNat).updCal q.toNat fun c => { c with requests := (o.toNat - 1, k.toNat) :: c.requests }).updCal q.toNat
    fun c => { c with requests := (s.cal q.toNat).requests }) = u at hexec hwait hback hu hporch
  have hasked := State.porch_updPorch_self hu q.toNat fun x => { x with laneReq := some (o.toNat - 1, k.toNat) }
  have hkeep := (State.send_porchesKeep (hu.updPorch q.toNat fun x => { x with laneReq := some (o.toNat - 1, k.toNat) }) q.toNat
    prioFrame (.lane (o.toNat - 1) k.toNat 0 0)).core q.toNat
  have hboth : SameBut [.regs, .porches, .cals] s u := hwait.after (by decide) (hframe.mono (by decide))
  refine ⟨_, hexec, (congrArg Porch.laneReq hkeep :).trans (congrArg Porch.laneReq hasked :),
    ((State.send_frame _ _ _ _).cal_eq (by decide) _).trans hback,
    (State.send_frame _ _ _ _ .lanes (by decide)).trans (hboth .lanes (by decide)), fun hstop hsq => ?_⟩
  refine State.mem_sent_send (hu.updPorch q.toNat _) ((congrArg Boot.stopped (hboth .boot (by decide))).trans hstop) ?_ _ _
  have hsquelch : ((s.laneEnded q.toNat).porch q.toNat).squelch = (s.porch q.toNat).squelch :=
    (congrArg Porch.squelch (State.porch_updPorch_self (PorchesCanonical.receive hcan.porches q.toNat) q.toNat fun x =>
      { x with laneReq := none }) :).trans (State.receive_same hcan.porches q.toNat).1
  rw [hasked, hporch]
  exact hsquelch ▸ hsq

/-- An answer that is noted where no request waits sends nothing more. -/
theorem State.answerNoted (hcals : CalsCanonical s) (hreq : (s.porch p).laneReq = none) (hwait : (s.cal p).requests = []) (e : Nat × Nat) :
    (s.updCal p fun c => { c with answered := c.answered ++ [e] }).pumpLane p
        = (s.updCal p fun c => { c with answered := c.answered ++ [e] })
      ∧ ((s.updCal p fun c => { c with answered := c.answered ++ [e] }).cal p).answered = (s.cal p).answered ++ [e] := by
  have hput := State.cal_updCal_self hcals p fun c => { c with answered := c.answered ++ [e] }
  exact ⟨State.pumpLane_idle (s := s.updCal p fun c => { c with answered := c.answered ++ [e] }) hreq
    ((congrArg CalRun.requests hput :).trans hwait), (congrArg CalRun.answered hput :)⟩

/-- MIRROR_ON and MIRROR_OFF change the porch's mirror; every answer but SHED_DONE waits for the tick. -/
theorem State.laneDone_mirror (s : State) (p l : Nat) :
    ((s.receive p).laneDone p 2 l = ((s.laneEnded p).updPorch p fun q => { q with mirror := l }).updCal p fun c =>
        { c with answered := c.answered ++ [(2, l)] })
    ∧ ((s.receive p).laneDone p 4 l = ((s.laneEnded p).updPorch p fun q => { q with mirror := 15 }).updCal p fun c =>
        { c with answered := c.answered ++ [(4, l)] })
    ∧ (s.receive p).laneDone p 8 l = (s.laneEnded p).updCal p fun c => { c with answered := c.answered ++ [(8, l)] } := ⟨rfl, rfl, rfl⟩

theorem exec_laneCell_mirrored (hcan : Canonical s) {q : BitVec 4} {o k : BitVec 8} {n : BitVec 16} (hlinked : s.linked q.toNat = true)
    (ho : o.toNat = 2 ∨ o.toNat = 4 ∨ o.toNat = 8) (hreq : (s.porch q.toNat).laneReq = some (o.toNat - 1, k.toNat))
    (hnone : (s.cal q.toNat).requests = []) :
    ∃ t, exec (.laneCell q o k 0 n) s = .next t ∧ (t.porch q.toNat).laneReq = none
      ∧ (o.toNat = 2 → (t.porch q.toNat).mirror = k.toNat) ∧ (o.toNat = 4 → (t.porch q.toNat).mirror = 15)
      ∧ (t.cal q.toNat).answered = (s.cal q.toNat).answered ++ [(o.toNat, k.toNat)] := by
  have hexec := (exec_laneCell_answer (r := 0) (n := n) hcan hlinked (by omega) hreq).1 rfl
  have hended := State.laneEnded_laneReq hcan.porches q.toNat
  have hporches := State.laneEnded_canonical hcan.porches q.toNat
  have hframe := s.laneEnded_frame q.toNat
  have hcal : (s.laneEnded q.toNat).cal q.toNat = s.cal q.toNat := hframe.cal_eq (by decide) q.toNat
  have hcals : CalsCanonical (s.laneEnded q.toNat) := hframe.calsCanonical (by decide) hcan.cals
  have hwait : ((s.laneEnded q.toNat).cal q.toNat).requests = [] := by rw [hcal]; exact hnone
  have hset : ∀ m, (((s.laneEnded q.toNat).updPorch q.toNat fun x => { x with mirror := m }).porch q.toNat).laneReq = none
      ∧ (((s.laneEnded q.toNat).updPorch q.toNat fun x => { x with mirror := m }).porch q.toNat).mirror = m := fun m => by
    rw [State.porch_updPorch_self hporches]
    exact ⟨hended, rfl⟩
  obtain ⟨hon, hoff, hback⟩ := s.laneDone_mirror q.toNat k.toNat
  rcases ho with ho | ho | ho <;> rw [ho] at hexec ⊢
  · obtain ⟨hpump, hanswered⟩ := State.answerNoted (s := (s.laneEnded q.toNat).updPorch q.toNat fun x => { x with mirror := k.toNat })
      hcals (hset k.toNat).1 hwait (2, k.toNat)
    rw [hon, hpump] at hexec
    exact ⟨_, hexec, (hset k.toNat).1, fun _ => (hset k.toNat).2, fun h => by omega, hanswered.trans (by rw [← hcal]; rfl)⟩
  · obtain ⟨hpump, hanswered⟩ := State.answerNoted (s := (s.laneEnded q.toNat).updPorch q.toNat fun x => { x with mirror := 15 })
      hcals (hset 15).1 hwait (4, k.toNat)
    rw [hoff, hpump] at hexec
    exact ⟨_, hexec, (hset 15).1, fun h => by omega, fun _ => (hset 15).2, hanswered.trans (by rw [← hcal]; rfl)⟩
  · obtain ⟨hpump, hanswered⟩ := State.answerNoted hcals hended hwait (8, k.toNat)
    rw [hback, hpump] at hexec
    exact ⟨_, hexec, hended, fun h => by omega, fun h => by omega, hanswered.trans (by rw [hcal])⟩

theorem State.laneDone_shed (s : State) (p l : Nat) : (s.receive p).laneDone p 6 l
    = if ((s.laneEnded p).cal p).compat ∧ ((s.laneEnded p).cal p).lane = l
      then ((s.laneEnded p).updLane p l fun x => { x with state := .compatOut }).updCal p fun c =>
        { c with shedAt := (s.laneEnded p).hrt.frame }
      else (s.laneEnded p).updLane p l fun x => { x with state := .shed } := rfl

theorem exec_laneCell_shed (hcan : Canonical s) {q : BitVec 4} {k : BitVec 8} {n : BitVec 16} (hlinked : s.linked q.toNat = true)
    (hreq : (s.porch q.toNat).laneReq = some (5, k.toNat)) :
    ∃ t, exec (.laneCell q 6 k 0 n) s = .next t ∧ (t.lane q.toNat k.toNat).state
      = if (s.cal q.toNat).compat && decide ((s.cal q.toNat).lane = k.toNat) then .compatOut else .shed := by
  have hexec := (exec_laneCell_answer (r := 0) (n := n) (o := 6) hcan hlinked (by decide) hreq).1 rfl
  have hframe := s.laneEnded_frame q.toNat
  have hlanes : LanesCanonical (s.laneEnded q.toNat) := hframe.lanesCanonical (by decide) hcan.lanes
  have hlane : ∀ f : Lane → Lane, ((s.laneEnded q.toNat).updLane q.toNat k.toNat f).lane q.toNat k.toNat
      = f ((s.laneEnded q.toNat).lane q.toNat k.toNat) := State.lane_updLane_self hlanes _ _
  refine ⟨_, hexec, ?_⟩
  rw [(State.pumpLane_frame _ _).lane_eq (by decide), show (6 : BitVec 8).toNat = 6 from rfl, State.laneDone_shed,
    hframe.cal_eq (by decide)]
  by_cases hcompat : (s.cal q.toNat).compat = true ∧ (s.cal q.toNat).lane = k.toNat
  · rw [if_pos hcompat, if_pos (by rw [hcompat.1, decide_eq_true hcompat.2]; rfl)]
    exact (congrArg Lane.state (hlane fun x => { x with state := .compatOut }) :)
  · rw [if_neg hcompat, if_neg (by rw [Bool.and_eq_true, decide_eq_true_eq]; exact hcompat), hlane]

end

/-- Settles O48. -/
theorem linkOfAPorch : Obligations.LinkOfAPorch := by
  intro s p l hcan
  refine ⟨fun v hstart hstop hdark hcarries => exec_codewordLock_shows hcan v hstart hstop hdark hcarries, fun v hcarries => ?_,
    fun hlock => exec_lockLoss_shows hcan hlock, fun hlock => if_neg (by rw [hlock]; exact Bool.false_ne_true),
    fun hfew => exec_uncorrectableCodeword_counted hcan hfew, fun hbad hlock => exec_uncorrectableCodeword_eighth hcan hbad hlock,
    fun n hlinked => exec_lseqGap_shows hcan n hlinked, fun o k r q hlinked hk ho => exec_laneCell_noted hcan hlinked hk ho,
    fun o k r q hlinked hk ho => exec_laneCell_badLane hcan hlinked hk ho,
    fun o k q hlinked ho hreq => exec_laneCell_busy hcan hlinked ho hreq,
    fun o k q hlinked ho hreq hnone => exec_laneCell_mirrored hcan hlinked ho hreq hnone,
    fun k q hlinked hreq => exec_laneCell_shed hcan hlinked hreq⟩
  exact if_pos (by rw [hcarries, Bool.not_false, Bool.or_true])

end Sys2Proof.Machine
end

-- Calibration runs and baselines ---------------------------------------------------------------------------------------------------
section
/-! O49: runs begin, move the values of their lane, and end; baselines form and are written. -/
namespace Sys2Proof.Machine

section
variable {s : State} {p : Nat}

-- The end of a run

/-- The lane and the run of a run that has ended. -/
def State.runEnded (s : State) (p result : Nat) (stays : Bool) : State :=
  (s.updLane p (s.cal p).lane fun x =>
    { x with runs := min (2 ^ 32 - 1) (x.runs + 1), calResult := result, queued := x.queued && stays
             runT := if (s.cal p).restore then (s.lane p (s.cal p).lane).runT else (s.cal p).regionT, runFrame := s.nextTick }).updCal p fun c =>
    { c with phase := .idle, lane := 15, step := 0, restore := false, compat := false, heldFor := 0
             deferred := if result = 5 then c.deferred ++ [(s.cal p).lane] else c.deferred.filter (· ≠ (s.cal p).lane) }

theorem State.endRun_eq (s : State) (p result : Nat) (stays : Bool) : s.endRun p result stays
    = ((s.runEnded p result stays).count Reg.LNH_STATUS 48 16 1).raise Src.lnh (if result = 1 then 0 else if result = 2 then 1 else 2)
        (laneObj p (s.cal p).lane) result := rfl

theorem State.endRun_cal (h : CalsCanonical s) (p result : Nat) (stays : Bool) : (s.endRun p result stays).cal p = { s.cal p with
    phase := .idle, lane := 15, step := 0, restore := false, compat := false, heldFor := 0
    deferred := if result = 5 then (s.cal p).deferred ++ [(s.cal p).lane] else (s.cal p).deferred.filter (· ≠ (s.cal p).lane) } := by
  rw [State.endRun_eq, (State.raise_frame _ _ _ _ _).cal_eq (by decide), (State.count_frame _ _ _ _ _).cal_eq (by decide)]
  exact State.cal_updCal_self (s := s.updLane p (s.cal p).lane _) h p _

theorem State.endRun_lane (h : LanesCanonical s) (p result : Nat) (stays : Bool) :
    (s.endRun p result stays).lane p (s.cal p).lane = { s.lane p (s.cal p).lane with
      runs := min (2 ^ 32 - 1) ((s.lane p (s.cal p).lane).runs + 1), calResult := result
      queued := (s.lane p (s.cal p).lane).queued && stays
      runT := if (s.cal p).restore then (s.lane p (s.cal p).lane).runT else (s.cal p).regionT, runFrame := s.nextTick } := by
  rw [State.endRun_eq, (State.raise_frame _ _ _ _ _).lane_eq (by decide), (State.count_frame _ _ _ _ _).lane_eq (by decide)]
  exact State.lane_updLane_self h p (s.cal p).lane fun x =>
    { x with runs := min (2 ^ 32 - 1) (x.runs + 1), calResult := result, queued := x.queued && stays
             runT := if (s.cal p).restore then (s.lane p (s.cal p).lane).runT else (s.cal p).regionT, runFrame := s.nextTick }

theorem State.endRun_notified (s : State) (p : Nat) {result : Nat} (hr : 2 < result) (stays : Bool) :
    Notified Src.lnh 2 (laneObj p (s.cal p).lane) result (s.endRun p result stays) := by
  have hbit : (if result = 1 then 0 else if result = 2 then 1 else 2) = 2 := by rw [if_neg (by omega), if_neg (by omega)]
  rw [State.endRun_eq, hbit]
  exact List.mem_append_right _ (List.mem_singleton.2 rfl)

/-- A request that is asked waits behind the others. -/
theorem State.askLane_cal (h : CalsCanonical s) (p op l : Nat) :
    (s.askLane p op l).cal p = { s.cal p with requests := (s.cal p).requests ++ [(op, l)] } :=
  State.cal_updCal_self h p fun c => { c with requests := c.requests ++ [(op, l)] }

-- The beginning of a run (R355, R356, R358, R359)

/-- A run of lane `l` that asks for nothing yet. -/
def State.runBegun (s : State) (p l mode : Nat) (restore : Bool) : State :=
  (s.updLane p l fun x => { x with old := x.vals }).updCal p fun c =>
    { c with phase := if l = 8 then (if restore then .ramp else .adapt) else if mode = 2 then .compat else .mirroring
             lane := l, start := s.nextTick, step := 0, restore := restore, compat := decide (mode = 2), heldFor := 0, result := 1 }

theorem State.beginRun_eq (s : State) (p l mode : Nat) (restore : Bool) : s.beginRun p l mode restore
    = if l = 8 then s.runBegun p l mode restore else (s.runBegun p l mode restore).askLane p (if mode = 2 then 5 else 1) l := rfl

theorem exec_calRunStart_shows (hcan : Canonical s) {q : BitVec 4} {l mode : Nat} (hdue : s.runDue q.toNat = some (l, mode)) :
    ∃ t, exec (.calRunStart q) s = .next t
      ∧ (t.cal q.toNat).lane = l ∧ (t.cal q.toNat).start = s.nextTick ∧ (t.cal q.toNat).step = 0
      ∧ (t.cal q.toNat).phase = (if l = 8 then .adapt else if mode = 2 then .compat else .mirroring)
      ∧ (t.lane q.toNat l).old = (s.lane q.toNat l).vals ∧ (t.lane q.toNat l).vals = (s.lane q.toNat l).vals
      ∧ (l ≠ 8 → (t.cal q.toNat).requests = (s.cal q.toNat).requests ++ [(if mode = 2 then 5 else 1, l)])
      ∧ SameBut [.lanes, .cals] s t := by
  have hstart : s.startRun q.toNat = s.beginRun q.toNat l mode false := by
    unfold State.startRun
    rw [hdue]
  have hexec : exec (.calRunStart q) s = .next (s.beginRun q.toNat l mode false) := congrArg Host.Outcome.next hstart
  have hcal := State.cal_updCal_self (s := s.updLane q.toNat l fun x => { x with old := x.vals }) hcan.cals q.toNat fun c =>
    { c with phase := if l = 8 then (if false then .ramp else .adapt) else if mode = 2 then .compat else .mirroring
             lane := l, start := s.nextTick, step := 0, restore := false, compat := decide (mode = 2), heldFor := 0, result := 1 }
  have hlane := State.lane_updLane_self hcan.lanes q.toNat l fun x => { x with old := x.vals }
  have hcals : CalsCanonical (s.runBegun q.toNat l mode false) :=
    CalsCanonical.updCal (s := s.updLane q.toNat l fun x => { x with old := x.vals }) hcan.cals q.toNat _
  change (s.runBegun q.toNat l mode false).cal q.toNat = _ at hcal
  change (s.runBegun q.toNat l mode false).lane q.toNat l = _ at hlane
  have hframe := s.beginRun_frame q.toNat l mode false
  rw [State.beginRun_eq] at hexec hframe
  by_cases hl : l = 8
  · rw [if_pos hl] at hexec hframe
    exact ⟨_, hexec, (congrArg CalRun.lane hcal :), (congrArg CalRun.start hcal :), (congrArg CalRun.step hcal :),
      (congrArg CalRun.phase hcal :), (congrArg Lane.old hlane :), (congrArg Lane.vals hlane :), fun h => absurd hl h, hframe⟩
  · rw [if_neg hl] at hexec hframe
    have hasked := State.askLane_cal hcals q.toNat (if mode = 2 then 5 else 1) l
    rw [hcal] at hasked
    have hkept := (State.askLane_frame (s.runBegun q.toNat l mode false) q.toNat (if mode = 2 then 5 else 1) l).lane_eq (by decide) q.toNat l
    rw [hlane] at hkept
    exact ⟨_, hexec, (congrArg CalRun.lane hasked :), (congrArg CalRun.start hasked :), (congrArg CalRun.step hasked :),
      (congrArg CalRun.phase hasked :), (congrArg Lane.old hkept :), (congrArg Lane.vals hkept :),
      fun _ => (congrArg CalRun.requests hasked :), hframe⟩

-- Ramp steps (R356)

/-- The values of the run's lane at ramp step `i`. -/
def State.ramped (s : State) (p i : Nat) : State :=
  (s.updLane p (s.cal p).lane fun x => { x with vals := x.old.stepTo x.target i }).updCal p fun c => { c with phase := .ramp, step := i }

theorem State.rampTo_eq (s : State) (p i : Nat) : s.rampTo p i
    = if i = 256 ∧ (s.cal p).lane ≠ 8 ∧ (s.ramped p i).hasLock p (s.cal p).lane
      then ((s.ramped p i).updCal p fun c => { c with phase := .unmirroring }).askLane p 3 (s.cal p).lane else s.ramped p i := rfl

theorem State.ramped_cal (h : CalsCanonical s) (p i : Nat) : (s.ramped p i).cal p = { s.cal p with phase := .ramp, step := i } :=
  State.cal_updCal_self (s := s.updLane p (s.cal p).lane fun x => { x with vals := x.old.stepTo x.target i }) h p fun c =>
    { c with phase := .ramp, step := i }

theorem State.ramped_lane (h : LanesCanonical s) (p i : Nat) : (s.ramped p i).lane p (s.cal p).lane
    = { s.lane p (s.cal p).lane with vals := (s.lane p (s.cal p).lane).old.stepTo (s.lane p (s.cal p).lane).target i } :=
  State.lane_updLane_self h p (s.cal p).lane fun x => { x with vals := x.old.stepTo x.target i }

theorem State.rampTo_shows (hlanes : LanesCanonical s) (hcals : CalsCanonical s) (p i : Nat) :
    ((s.rampTo p i).cal p).step = i
    ∧ ((s.rampTo p i).lane p (s.cal p).lane).vals = (s.lane p (s.cal p).lane).old.stepTo (s.lane p (s.cal p).lane).target i
    ∧ (i < 256 → ((s.rampTo p i).cal p).phase = .ramp)
    ∧ (i = 256 → (s.cal p).lane ≠ 8 → s.hasLock p (s.cal p).lane = true →
        ((s.rampTo p i).cal p).phase = .unmirroring ∧ ((s.rampTo p i).cal p).requests = (s.cal p).requests ++ [(3, (s.cal p).lane)]) := by
  have hcal := State.ramped_cal hcals p i
  have hlane := State.ramped_lane hlanes p i
  have hcanon : CalsCanonical (s.ramped p i) :=
    CalsCanonical.updCal (s := s.updLane p (s.cal p).lane fun x => { x with vals := x.old.stepTo x.target i }) hcals p _
  rw [State.rampTo_eq]
  by_cases hend : i = 256 ∧ (s.cal p).lane ≠ 8 ∧ (s.ramped p i).hasLock p (s.cal p).lane = true
  · rw [if_pos hend]
    have hturned := State.cal_updCal_self hcanon p fun c => { c with phase := .unmirroring }
    have hasked := State.askLane_cal (CalsCanonical.updCal hcanon p fun c => { c with phase := .unmirroring }) p 3 (s.cal p).lane
    rw [hturned, hcal] at hasked
    have hkept := ((State.askLane_frame _ p 3 (s.cal p).lane).after (l := [.cals]) (by decide)
      (State.updCal_frame (s.ramped p i) p fun c => { c with phase := .unmirroring })).lane_eq (by decide) p (s.cal p).lane
    exact ⟨(congrArg CalRun.step hasked :), (congrArg Lane.vals (hkept.trans hlane) :), fun h => by omega,
      fun _ _ _ => ⟨(congrArg CalRun.phase hasked :), (congrArg CalRun.requests hasked :)⟩⟩
  · rw [if_neg hend]
    exact ⟨(congrArg CalRun.step hcal :), (congrArg Lane.vals hlane :), fun _ => (congrArg CalRun.phase hcal :),
      fun h₁ h₂ h₃ => absurd ⟨h₁, h₂, h₃⟩ hend⟩

theorem exec_rampStep_shows (hcan : Canonical s) {q : BitVec 4} (v : CalValues) (hdue : s.rampDue q.toNat ≠ 0)
    (hnew : (s.cal q.toNat).step < s.rampDue q.toNat) : ∃ t, exec (.rampStep q v) s = .next t
      ∧ (t.cal q.toNat).step = s.rampDue q.toNat
      ∧ (t.lane q.toNat (s.cal q.toNat).lane).vals = (s.lane q.toNat (s.cal q.toNat).lane).old.stepTo
          (if (s.cal q.toNat).phase = .adapt then v else (s.lane q.toNat (s.cal q.toNat).lane).target) (s.rampDue q.toNat)
      ∧ (s.rampDue q.toNat < 256 → (t.cal q.toNat).phase = .ramp)
      ∧ (s.rampDue q.toNat = 256 → (s.cal q.toNat).lane ≠ 8 → s.hasLock q.toNat (s.cal q.toNat).lane = true →
          (t.cal q.toNat).phase = .unmirroring ∧ (t.cal q.toNat).requests = (s.cal q.toNat).requests ++ [(3, (s.cal q.toNat).lane)])
      ∧ SameBut [.lanes, .cals] s t := by
  have hexec : exec (.rampStep q v) s = .next ((if (s.cal q.toNat).phase = .adapt
      then s.updLane q.toNat (s.cal q.toNat).lane fun x => { x with target := v } else s).rampTo q.toNat (s.rampDue q.toNat)) :=
    if_neg (by omega)
  by_cases hadapt : (s.cal q.toNat).phase = .adapt
  · rw [if_pos hadapt] at hexec
    have hself := State.lane_updLane_self hcan.lanes q.toNat (s.cal q.toNat).lane fun x => { x with target := v }
    obtain ⟨hstep, hvals, hramp, hend⟩ := State.rampTo_shows (s := s.updLane q.toNat (s.cal q.toNat).lane fun x => { x with target := v })
      (LanesCanonical.updLane hcan.lanes _ _ _) hcan.cals q.toNat (s.rampDue q.toNat)
    refine ⟨_, hexec, hstep, ?_, hramp, hend, (State.rampTo_frame _ _ _).after (by decide) ((State.updLane_frame _ _ _ _).mono (by decide))⟩
    rw [if_pos hadapt]
    exact hvals.trans (congrArg (fun x : Lane => x.old.stepTo x.target (s.rampDue q.toNat)) hself)
  · rw [if_neg hadapt] at hexec
    obtain ⟨hstep, hvals, hramp, hend⟩ := State.rampTo_shows hcan.lanes hcan.cals q.toNat (s.rampDue q.toNat)
    refine ⟨_, hexec, hstep, ?_, hramp, hend, State.rampTo_frame _ _ _⟩
    rw [if_neg hadapt]
    exact hvals

-- No answer, lock regained, lock failed (R356, R357)

/-- The porch and the requests of a run that got no answer. -/
def State.unanswered (s : State) (p : Nat) : State :=
  (s.updPorch p fun q => if q.laneReq = some (1, (s.cal p).lane) then { q with laneReq := none } else q).updCal p fun c =>
    { c with requests := c.requests.filter (· ≠ (1, (s.cal p).lane)) }

theorem exec_noAnswer_shows (hcan : Canonical s) {q : BitVec 4} (hdue : s.noAnswerDue q.toNat = true) :
    ∃ t, exec (.noAnswer q) s = .next t ∧ (t.cal q.toNat).phase = .idle
      ∧ (t.lane q.toNat (s.cal q.toNat).lane).calResult = 5
      ∧ (t.lane q.toNat (s.cal q.toNat).lane).queued = (s.lane q.toNat (s.cal q.toNat).lane).queued
      ∧ (s.cal q.toNat).lane ∈ (t.cal q.toNat).deferred
      ∧ Notified Src.lnh 2 (laneObj q.toNat (s.cal q.toNat).lane) 5 t := by
  have hexec : exec (.noAnswer q) s = .next ((s.unanswered q.toNat).endRun q.toNat 5 true) :=
    congrArg Host.Outcome.next (if_pos hdue)
  have hcals : CalsCanonical (s.unanswered q.toNat) := CalsCanonical.updCal (s := s.updPorch q.toNat _) hcan.cals q.toNat _
  have hcal := State.cal_updCal_self (s := s.updPorch q.toNat fun x =>
    if x.laneReq = some (1, (s.cal q.toNat).lane) then { x with laneReq := none } else x) hcan.cals q.toNat fun c =>
      { c with requests := c.requests.filter (· ≠ (1, (s.cal q.toNat).lane)) }
  have hk : ((s.unanswered q.toNat).cal q.toNat).lane = (s.cal q.toNat).lane := (congrArg CalRun.lane hcal :)
  have hend := State.endRun_cal hcals q.toNat 5 true
  have hlane := State.endRun_lane (s := s.unanswered q.toNat) hcan.lanes q.toNat 5 true
  have htold := State.endRun_notified (s.unanswered q.toNat) q.toNat (result := 5) (by decide) true
  rw [hk] at hend hlane htold
  refine ⟨_, hexec, (congrArg CalRun.phase hend :), (congrArg Lane.calResult hlane :),
    (congrArg Lane.queued hlane :).trans (Bool.and_true _), ?_, htold⟩
  rw [hend]
  exact List.mem_append_right _ (List.mem_singleton.2 rfl)

/-- The run whose lane has regained lock goes on to its end. -/
def State.regained (s : State) (p : Nat) : State :=
  s.updCal p fun c => { c with result := 3, phase := if c.compat then .compat else .unmirroring }

theorem State.regain_due (hdue : s.regainDue p = true) : s.regain p = if (s.cal p).lane = 8 then (s.regained p).endRun p 3 false
    else (s.regained p).askLane p (if (s.cal p).compat then 7 else 3) (s.cal p).lane := if_pos hdue

theorem State.regained_cal (h : CalsCanonical s) (p : Nat) : (s.regained p).cal p
    = { s.cal p with result := 3, phase := if (s.cal p).compat then .compat else .unmirroring } :=
  State.cal_updCal_self h p fun c => { c with result := 3, phase := if c.compat then .compat else .unmirroring }

/-- The lane of a run that has failed to find lock again (R357). -/
def State.lockFailed (s : State) (p : Nat) : State := s.updLane p (s.cal p).lane fun x =>
  if (s.cal p).compat then { x with state := .shed, lockLost := true }
  else if (s.porch p).mirror = (s.cal p).lane then { x with state := .spared, level := max 2 x.level, lockFailed := true }
  else { x with state := .down, lockLost := true }

theorem exec_lockFailed_shows (hcan : Canonical s) {q : BitVec 4} (hdue : s.lockFailDue q.toNat = true) :
    ∃ t, exec (.lockFailed q) s = .next t ∧ (t.cal q.toNat).phase = .idle
      ∧ (t.lane q.toNat (s.cal q.toNat).lane).calResult = 4
      ∧ (t.lane q.toNat (s.cal q.toNat).lane).state
          = (if (s.cal q.toNat).compat then .shed
             else if (s.porch q.toNat).mirror = (s.cal q.toNat).lane then .spared else .down)
      ∧ Notified Src.lnh 2 (laneObj q.toNat (s.cal q.toNat).lane) 4 t := by
  have hexec : exec (.lockFailed q) s = .next ((s.lockFailed q.toNat).endRun q.toNat 4 false) := congrArg Host.Outcome.next (if_pos hdue)
  have hself := State.lane_updLane_self hcan.lanes q.toNat (s.cal q.toNat).lane fun x =>
    if (s.cal q.toNat).compat then { x with state := .shed, lockLost := true }
    else if (s.porch q.toNat).mirror = (s.cal q.toNat).lane then { x with state := .spared, level := max 2 x.level, lockFailed := true }
    else { x with state := .down, lockLost := true }
  have hend := State.endRun_cal (s := s.lockFailed q.toNat) hcan.cals q.toNat 4 false
  have hlane := State.endRun_lane (s := s.lockFailed q.toNat) (LanesCanonical.updLane hcan.lanes _ _ _) q.toNat 4 false
  have htold := State.endRun_notified (s.lockFailed q.toNat) q.toNat (result := 4) (by decide) false
  refine ⟨_, hexec, (congrArg CalRun.phase hend :), (congrArg Lane.calResult hlane :), ?_, htold⟩
  refine (congrArg Lane.state hlane :).trans ((congrArg Lane.state hself :).trans ?_)
  split
  · rfl
  · split <;> rfl

-- A run in MH-3000 mode (R359)

theorem State.pumpLane_cal (h : CalsCanonical s) (p : Nat) :
    ((s.pumpLane p).cal p).step = (s.cal p).step ∧ ((s.pumpLane p).cal p).phase = (s.cal p).phase := by
  unfold State.pumpLane
  split
  next op l rest _ _ =>
    have hself := State.cal_updCal_self h p fun c => { c with requests := rest }
    rw [(State.send_frame _ _ _ _).cal_eq (by decide), (State.updPorch_frame _ _ _).cal_eq (by decide), hself]
    exact ⟨rfl, rfl⟩
  · exact ⟨rfl, rfl⟩

theorem exec_compatApply_shows (hcan : Canonical s) {q : BitVec 4} (v : CalValues) (hphase : (s.cal q.toNat).phase = .compat)
    (hstep : (s.cal q.toNat).step = 0) (hout : (s.lane q.toNat (s.cal q.toNat).lane).state = .compatOut)
    (hdue : s.compatDue q.toNat = true) : ∃ t, exec (.compatApply q v) s = .next t
      ∧ (t.lane q.toNat (s.cal q.toNat).lane).vals = v ∧ (t.cal q.toNat).step = 256 ∧ (t.cal q.toNat).phase = .compat := by
  have hexec : exec (.compatApply q v) s = .next ((((s.updLane q.toNat (s.cal q.toNat).lane fun x =>
      { x with target := v, vals := v, hasVals := true }).updCal q.toNat fun c => { c with step := 256 }).askLane q.toNat 7
        (s.cal q.toNat).lane).pumpLane q.toNat) := if_pos ⟨hphase, hstep, hout, hdue⟩
  have hlane := State.lane_updLane_self hcan.lanes q.toNat (s.cal q.toNat).lane fun x => { x with target := v, vals := v, hasVals := true }
  have hcal := State.cal_updCal_self (s := s.updLane q.toNat (s.cal q.toNat).lane fun x => { x with target := v, vals := v, hasVals := true })
    hcan.cals q.toNat fun c => { c with step := 256 }
  have hcals := CalsCanonical.updCal (s := s.updLane q.toNat (s.cal q.toNat).lane fun x => { x with target := v, vals := v, hasVals := true })
    hcan.cals q.toNat fun c => { c with step := 256 }
  have hasked := State.askLane_cal hcals q.toNat 7 (s.cal q.toNat).lane
  rw [hcal] at hasked
  obtain ⟨hstep', hphase'⟩ := State.pumpLane_cal (CalsCanonical.updCal hcals q.toNat fun c =>
    { c with requests := c.requests ++ [(7, (s.cal q.toNat).lane)] }) q.toNat
  refine ⟨_, hexec, ?_, hstep'.trans (congrArg CalRun.step hasked :), hphase'.trans ((congrArg CalRun.phase hasked :).trans hphase)⟩
  rw [(State.pumpLane_frame _ _).lane_eq (by decide), (State.askLane_frame _ _ _ _).lane_eq (by decide),
    (State.updCal_frame _ _ _).lane_eq (by decide), hlane]

-- Baselines (R364)

theorem exec_baselineFormed_shows (hcan : Canonical s) {q : BitVec 4} {l : Fin 9} (a : BitVec 16)
    (hframes : (s.lane q.toNat l.val).baseFrames = 4095) (hok : (s.lane q.toNat l.val).baseOk = false)
    (hlock : s.hasLock q.toNat l.val = true) : ∃ t, exec (.baselineFormed q (l, a)) s = .next t
      ∧ t.lane q.toNat l.val = { s.lane q.toNat l.val with
          baseFrames := 4096, baseSum := (s.lane q.toNat l.val).baseSum + a.toNat, baseOk := true
          baseline := min 65535 ((2 * ((s.lane q.toNat l.val).baseSum + a.toNat) + 4096) / 8192) }
      ∧ Notified Src.lnh 6 (laneObj q.toNat l.val) 0 t ∧ SameBut [.lanes, .events] s t := by
  have hform : s.baseFrame q.toNat l.val a.toNat = (s.updLane q.toNat l.val fun x => { x with
      baseFrames := 4096, baseSum := x.baseSum + a.toNat, baseOk := true, baseline := baseMean (x.baseSum + a.toNat) }).raise
        Src.lnh 6 (laneObj q.toNat l.val) := by
    refine (if_neg ?_).trans (if_neg ?_)
    · rw [hok, hlock]
      decide
    · rw [hframes]
      decide
  have hexec : exec (.baselineFormed q (l, a)) s = _ := (if_pos hframes).trans (congrArg Host.Outcome.next hform)
  have hself := State.lane_updLane_self hcan.lanes q.toNat l.val fun x =>
    { x with baseFrames := 4096, baseSum := x.baseSum + a.toNat, baseOk := true, baseline := baseMean (x.baseSum + a.toNat) }
  exact ⟨_, hexec, hself, List.mem_append_right _ (List.mem_singleton.2 rfl),
    (State.raise_frame _ _ _ _ _).after (by decide) ((State.updLane_frame _ _ _ _).mono (by decide))⟩

/-- An operation of a porch's lanes waits for the tick (R370). -/
theorem State.laneOp_shows (hcan : Canonical s) (p op l : Nat) :
    (s.laneOp p op l).cal p = { s.cal p with op := (op, l) } ∧ SameBut [.cals] s (s.laneOp p op l) :=
  ⟨State.cal_updCal_self hcan.cals p _, State.updCal_frame _ _ _⟩

end

/-- Settles O49. -/
theorem calibrationRuns : Obligations.CalibrationRuns := by
  intro s p hcan
  refine ⟨fun l mode hdue => exec_calRunStart_shows hcan hdue, fun hdue => ?_, fun v hdue hnew => exec_rampStep_shows hcan v hdue hnew,
    fun hdue => exec_noAnswer_shows hcan hdue, fun hdue hl => ?_, fun hdue hl => ?_, fun hdue => exec_lockFailed_shows hcan hdue,
    fun v hphase hstep hout hdue => exec_compatApply_shows hcan v hphase hstep hout hdue,
    fun l a hframes hok hlock => exec_baselineFormed_shows hcan a hframes hok hlock,
    fun l v => ⟨_, rfl, State.lane_updLane_self hcan.lanes p.toNat l.val _, State.updLane_frame _ _ _ _⟩,
    fun l => ⟨⟨_, rfl, State.laneOp_shows hcan p.toNat 1 l.toNat⟩, ⟨_, rfl, State.laneOp_shows hcan p.toNat 2 l.toNat⟩,
      ⟨_, rfl, State.laneOp_shows hcan p.toNat 3 l.toNat⟩, ⟨_, rfl, State.laneOp_shows hcan p.toNat 4 0⟩⟩⟩
  · have hstart : s.startRun p.toNat = s := by
      unfold State.startRun
      rw [hdue]
    exact congrArg Host.Outcome.next hstart
  · have hexec : exec (.calLockRegained p) s = _ := congrArg Host.Outcome.next ((State.regain_due hdue).trans (if_neg hl))
    have hasked := State.askLane_cal (CalsCanonical.updCal hcan.cals p.toNat fun c =>
      { c with result := 3, phase := if c.compat then .compat else .unmirroring }) p.toNat (if (s.cal p.toNat).compat then 7 else 3)
      (s.cal p.toNat).lane
    rw [show ((s.updCal p.toNat fun c => { c with result := 3, phase := if c.compat then .compat else .unmirroring }).cal p.toNat) = _
      from State.regained_cal hcan.cals p.toNat] at hasked
    exact ⟨_, hexec, (congrArg CalRun.result hasked :), (congrArg CalRun.phase hasked :), (congrArg CalRun.requests hasked :),
      (State.askLane_frame _ _ _ _).after (by decide) (State.updCal_frame _ _ _)⟩
  · have hexec : exec (.calLockRegained p) s = _ := congrArg Host.Outcome.next ((State.regain_due hdue).trans (if_pos hl))
    have hk : ((s.regained p.toNat).cal p.toNat).lane = 8 := (congrArg CalRun.lane (State.regained_cal hcan.cals p.toNat) :).trans hl
    have hend := State.endRun_cal (s := s.regained p.toNat) (CalsCanonical.updCal hcan.cals p.toNat _) p.toNat 3 false
    have hlane := State.endRun_lane (s := s.regained p.toNat) hcan.lanes p.toNat 3 false
    have htold := State.endRun_notified (s.regained p.toNat) p.toNat (result := 3) (by decide) false
    rw [hk] at hlane htold
    exact ⟨_, hexec, (congrArg CalRun.phase hend :), (congrArg Lane.calResult hlane :), htold⟩

end Sys2Proof.Machine
end

-- Claims and roles -----------------------------------------------------------------------------------------------------------------
section
/-! O50: the heartbeat, claims and their decision, assertions and resynchronisation. -/
namespace Sys2Proof.Machine

section
variable {s : State} {p : Nat}

-- Sending to several porches

/-- Every porch that can send gets the cell into its queue. -/
theorem State.mem_sent_sendAll (h : PorchesCanonical s) (hstop : s.boot.stopped = false) {ps : List Nat} (hp : p ∈ ps)
    (hsq : (s.porch p).squelch % 256 ≠ 255) (prio : Nat) (c : TxCell) : (prio, c) ∈ ((State.sendAll ps prio c s).porch p).sent := by
  induction ps generalizing s with
  | nil => cases hp
  | cons q ps ih =>
    have hkeep := State.send_porchesKeep h q prio c
    by_cases hq : p = q
    · subst hq
      exact (State.sendAll_grows hkeep.canonical ps prio c).sent p _ (State.mem_sent_send h hstop hsq prio c)
    · have hsquelch : ((s.send q prio c).porch p).squelch = (s.porch p).squelch := (congrArg Porch.squelch (hkeep.core p) :)
      exact ih hkeep.canonical ((congrArg Boot.stopped (s.send_frame q prio c .boot (by decide))).trans hstop)
        ((List.mem_cons.1 hp).resolve_left hq) (by rw [hsquelch]; exact hsq)

theorem State.sendAll_porch_ne (s : State) {ps : List Nat} (hp : p ∉ ps) (prio : Nat) (c : TxCell) :
    (State.sendAll ps prio c s).porch p = s.porch p := by
  induction ps generalizing s with
  | nil => rfl
  | cons q ps ih =>
    exact (ih (s.send q prio c) fun h => hp (List.mem_cons_of_mem q h)).trans
      (s.send_porch_ne prio c fun h => hp (h ▸ List.mem_cons_self))

/-- Only Guard cells draw on the free choices (R315). -/
theorem State.sendAll_free (s : State) (ps : List Nat) {prio : Nat} (hprio : ¬prio < prioFrame) (c : TxCell) :
    (State.sendAll ps prio c s).free = s.free := by
  have hsend : ∀ (u : State) (q : Nat), (u.send q prio c).free = u.free := by
    intro u q
    unfold State.send
    split
    · rfl
    · extract_lets v w x
      cases c <;> rfl
  induction ps generalizing s with
  | nil => rfl
  | cons q ps ih => exact (ih _).trans (hsend s q)

/-- A porch after an operation of the coming tick: what that sent leaves in the next frame. -/
theorem State.inTick_porch {f : State → State} (hf : PorchesCanonical (f s.comingTick)) (k : Nat) (hk : k < 16) :
    ((s.inTick f).porch k).next = ((f s.comingTick).porch k).next ++ ((f s.comingTick).porch k).sent := by
  have hporches : (s.inTick f).porches = (List.range 16).foldl (fun t p =>
      tupd (fun _ => {}) t p fun q => { q with sent := (s.porch p).sent, next := q.next ++ q.sent }) (f s.comingTick).porches := by
    simp only [State.inTick, State.comingTick]
  generalize f s.comingTick = u at hf hporches
  rw [State.porch, hporches, tget_foldl_tupd _ (List.nodup_range (n := 16)) hf, if_pos (List.mem_range.2 hk)]
  rfl

/-- A cell that the coming tick sends leaves in the frame that it begins. -/
theorem State.mem_next_inTick (h : PorchesCanonical s) (hstop : s.boot.stopped = false) {ps : List Nat} (hp : p ∈ ps) (hlt : p < 16)
    (hsq : (s.porch p).squelch % 256 ≠ 255) (prio : Nat) (c : State → TxCell) :
    (prio, c s.comingTick) ∈ ((s.inTick fun u => State.sendAll ps prio (c u) u).porch p).next := by
  have hkeep := State.comingTick_porchesKeep h
  have hsquelch : (s.comingTick.porch p).squelch = (s.porch p).squelch := (congrArg Porch.squelch (hkeep.core p) :)
  rw [State.inTick_porch (f := fun u => State.sendAll ps prio (c u) u) (State.sendAll_grows hkeep.canonical _ _ _).canonical p hlt]
  exact List.mem_append_right _ (State.mem_sent_sendAll hkeep.canonical hstop hp (by rw [hsquelch]; exact hsq) prio (c s.comingTick))

-- The heartbeat (R378)

theorem exec_heartbeatLost_shows (hlanding : s.landing.isSome = true) (hlost : s.twn.hbLost = false) (hstate : s.twn.stateNow = false)
    (hedge : s.twn.edgeNow = false) (hsilent : 2 ≤ s.twn.silent) : ∃ t, exec .heartbeatLost s = .next t
      ∧ t.twn = { s.twn with hbLost := true } ∧ Notified Src.twn 1 noObj 0 t ∧ SameBut [.twn, .events] s t := by
  have hthree : s.twinSilent = s.twn.silent + 1 := if_neg (by rw [hstate, hedge]; exact Bool.false_ne_true)
  have hdue : s.heartbeatDue = true := by
    unfold State.heartbeatDue
    rw [hlanding, hlost, hthree, decide_eq_true (by omega)]
    rfl
  exact ⟨_, congrArg Host.Outcome.next (if_pos hdue), rfl, List.mem_append_right _ (List.mem_singleton.2 rfl),
    (State.raise_frame _ _ _ _ _).after (by decide) ((SameBut.twn_frame _ _).mono (by decide))⟩

theorem exec_heartbeatLost_present (h : s.twn.hbLost = true ∨ s.twn.edgeNow = true ∨ s.twn.silent < 2) :
    exec .heartbeatLost s = .next s := by
  have hdue : s.heartbeatDue = false := by
    unfold State.heartbeatDue State.twinSilent
    rcases h with h | h | h
    · rw [h, Bool.not_true, Bool.and_false, Bool.false_and]
    · rw [h, Bool.or_true, if_pos rfl, decide_eq_false (by decide), Bool.and_false]
    · rw [decide_eq_false (by split <;> omega), Bool.and_false]
  exact congrArg Host.Outcome.next (if_neg (by rw [hdue]; exact Bool.false_ne_true))

-- Claims (R388 to R394)

theorem State.startClaim_twn (s : State) (trigger prio : Nat) : (s.startClaim trigger prio).twn = { s.twn with
    claim := some { epoch := s.claimEpoch, frame := s.hrt.frame, trigger := trigger, live := s.readyOf 2 }
    claimRes := 1, claimTrig := trigger, claimGranted := [], claimRefused := [], claimFrame := s.hrt.frame
    lastClaims := (s.twn.lastClaims.filter fun p => p.1 ≠ trigger) ++ [(trigger, s.hrt.frame)] } := by
  have hframe := State.sendAll_frame (s.readyOf 2) prio (.claim s.claimEpoch s.twn.side (claimReason trigger) s.hrt.frame) s
  have htwn := hframe .twn (by decide)
  have hhrt := hframe .hrt (by decide)
  dsimp only [Part.same] at htwn hhrt
  unfold State.startClaim
  dsimp only
  rw [htwn, hhrt]

theorem exec_claim_shows (hcan : Canonical s) {g : BitVec 4} (htrigger : s.triggerHolds g.toNat = true)
    (hagain : s.claimAgain g.toNat = true) (hmay : s.mayClaim = true) (htwin : s.twinHolds = false ∨ s.twn.hbLost = true) :
    ∃ t, exec (.claim g) s = .next t
      ∧ t.twn.claim = some { epoch := s.claimEpoch, frame := s.hrt.frame, trigger := g.toNat, live := s.readyOf roleDrive }
      ∧ t.twn.claimRes = 1 ∧ t.twn.role = s.twn.role ∧ t.twn.epoch = s.twn.epoch ∧ s.twn.epoch < s.claimEpoch
      ∧ (∀ p ∈ s.readyOf roleDrive, s.boot.stopped = false → (s.porch p).squelch % 256 ≠ 255 →
          (prioGuard, TxCell.claim s.claimEpoch s.twn.side (claimReason g.toNat) s.hrt.frame) ∈ (t.porch p).sent)
      ∧ SameBut [.regs, .porches, .twn, .free] s t := by
  have hguard : (s.triggerHolds g.toNat && s.claimAgain g.toNat && s.mayClaim && !(s.twinHolds && !s.twn.hbLost)) = true := by
    rw [htrigger, hagain, hmay]
    rcases htwin with h | h <;> rw [h] <;> simp
  have htwn := s.startClaim_twn g.toNat prioGuard
  have hepoch : s.twn.epoch < s.claimEpoch := by unfold State.claimEpoch; omega
  exact ⟨_, if_pos hguard, congrArg Twin.claim htwn, congrArg Twin.claimRes htwn, (congrArg Twin.role htwn :), (congrArg Twin.epoch htwn :), hepoch,
    fun p hp hstop hsq => State.mem_sent_sendAll hcan.porches hstop hp hsq _ _, s.startClaim_frame _ _⟩

-- Decisions (R391, R392, R397)

theorem State.decideClaim_due {c : Claim} (hclaim : s.twn.claim = some c) (hdue : c.frame + 2 ≤ s.nextTick) :
    s.decideClaim = if s.claimWins c && decide (s.roleNow = .standby) then s.winClaim c else s.retractClaim c := by
  unfold State.decideClaim
  rw [hclaim]
  exact if_pos hdue

theorem State.takeOverMoves_own (s : State) : ∀ m ∈ s.takeOverMoves.mov.moves, m.2.fromTwin = false := by
  intro m hm
  obtain ⟨n, -, rfl⟩ := List.mem_map.1 hm
  rfl

/-- The unit that holds the claimed epoch (R391). -/
def State.claimHeld (s : State) (c : Claim) : State := { s with twn := { s.twn with
  epoch := c.epoch, claim := none, claimRes := 2, takeover := s.nextTick, role := s.holderRole } }

theorem State.winClaim_eq (s : State) (c : Claim) : s.winClaim c = ((s.claimHeld c).takeOverMoves.raiseTo allSeats Src.twn 3 c.epoch).raiseTo
    allSeats Src.twn 0 noObj (s.claimHeld c).takeOverMoves.twn.role.code := rfl

theorem exec_claimDecision_won {c : Claim} (hclaim : s.twn.claim = some c) (hdue : c.frame + 2 ≤ s.nextTick)
    (hwins : s.claimWins c = true) (hrole : s.roleNow = .standby) :
    ∃ t, exec .claimDecision s = .next t ∧ t.twn.epoch = c.epoch ∧ t.twn.role = s.holderRole ∧ t.twn.claim = none
      ∧ t.twn.claimRes = 2 ∧ t.twn.takeover = s.nextTick ∧ Event.mk Src.twn 0 3 c.epoch 0 [] allSeats ∈ t.events
      ∧ (∀ m ∈ t.mov.moves, m.2.fromTwin = false) ∧ SameBut [.events, .loops, .mov, .twn] s t := by
  have hwon := (State.decideClaim_due hclaim hdue).trans (if_pos (by rw [hwins, hrole]; rfl))
  have hframe := s.winClaim_frame c
  have htwn : (s.claimHeld c).takeOverMoves.twn = (s.claimHeld c).twn := State.takeOverMoves_frame _ .twn (by decide)
  have hmoves := (s.claimHeld c).takeOverMoves_own
  rw [State.winClaim_eq] at hwon hframe
  generalize (s.claimHeld c).takeOverMoves = u at hwon hframe htwn hmoves
  exact ⟨_, congrArg Host.Outcome.next hwon, (congrArg Twin.epoch htwn :), (congrArg Twin.role htwn :), (congrArg Twin.claim htwn :),
    (congrArg Twin.claimRes htwn :), (congrArg Twin.takeover htwn :),
    List.mem_append_left _ (List.mem_append_right _ (List.mem_singleton.2 rfl)), hmoves, hframe⟩

/-- A retracted claim's WITHDRAW cells leave (R392). -/
def State.claimWithdrawn (s : State) (c : Claim) : State := if s.roleNow = .standby
  then s.inTick fun u => State.sendAll c.granted prioGuard (.withdraw ⟨c.epoch, u.twn.side, 9, u.hrt.frame⟩) u else s

/-- The unit no longer claims. -/
def State.claimDropped (s : State) (c : Claim) : State :=
  ({ s.claimWithdrawn c with twn := { (s.claimWithdrawn c).twn with claim := none, claimRes := if c.granted.isEmpty then 4 else 3 } }).raise
    Src.twn 4

theorem State.retractClaim_eq (s : State) (c : Claim) : s.retractClaim c
    = if ((s.claimDropped c).porchesOf roleDrive).all fun p => c.ownerLive.contains p then (s.claimDropped c).raise Src.twn 5
      else s.claimDropped c := rfl

theorem State.claimWithdrawn_twn (s : State) (c : Claim) : (s.claimWithdrawn c).twn = s.twn := by
  unfold State.claimWithdrawn
  split
  · exact (State.inTick_shows _ _).2.1.trans ((State.sendAll_frame _ _ _ _ .twn (by decide)).trans
      (s.comingTick_frame .twn (by decide)))
  · rfl

theorem exec_claimDecision_retracted (hcan : Canonical s) {c : Claim} (hclaim : s.twn.claim = some c) (hdue : c.frame + 2 ≤ s.nextTick)
    (hfails : s.claimWins c = false ∨ s.roleNow ≠ .standby) :
    ∃ t, exec .claimDecision s = .next t ∧ t.twn.epoch = s.twn.epoch ∧ t.twn.role = s.twn.role ∧ t.twn.claim = none
      ∧ t.twn.claimRes = (if c.granted = [] then 4 else 3) ∧ Notified Src.twn 4 noObj 0 t
      ∧ (∀ p ∈ c.granted, p < 16 → s.roleNow = .standby → s.boot.stopped = false → (s.porch p).squelch % 256 ≠ 255 →
          (prioGuard, TxCell.withdraw ⟨c.epoch, s.twn.side, 9, s.nextTick⟩) ∈ (t.porch p).next)
      ∧ SameBut [.hrt, .regs, .events, .porches, .twn, .free] s t := by
  have hlost : ¬((s.claimWins c && decide (s.roleNow = .standby)) = true) := by
    rw [Bool.and_eq_true, decide_eq_true_eq]
    rintro ⟨hw, hr⟩
    rcases hfails with h | h
    · rw [h] at hw; cases hw
    · exact h hr
  have hretract := (State.decideClaim_due hclaim hdue).trans (if_neg hlost)
  have htwn : (s.claimDropped c).twn = { s.twn with claim := none, claimRes := if c.granted = [] then 4 else 3 } := by
    have hres : (if c.granted.isEmpty then 4 else 3) = if c.granted = [] then 4 else 3 := by
      simp only [List.isEmpty_iff]
    rw [← hres, ← s.claimWithdrawn_twn c]
    rfl
  have htold : Notified Src.twn 4 noObj 0 (s.claimDropped c) := List.mem_append_right _ (List.mem_singleton.2 rfl)
  have hsent : ∀ p ∈ c.granted, p < 16 → s.roleNow = .standby → s.boot.stopped = false → (s.porch p).squelch % 256 ≠ 255 →
      (prioGuard, TxCell.withdraw ⟨c.epoch, s.twn.side, 9, s.nextTick⟩) ∈ ((s.claimDropped c).porch p).next := by
    intro p hp hlt hrole hstop hsq
    have hnext := State.mem_next_inTick hcan.porches hstop hp hlt hsq prioGuard
      fun u => .withdraw ⟨c.epoch, u.twn.side, 9, u.hrt.frame⟩
    have hporch : (s.claimDropped c).porch p = (s.claimWithdrawn c).porch p := rfl
    rw [hporch, State.claimWithdrawn, if_pos hrole]
    exact hnext
  have hend : (s.retractClaim c).twn = (s.claimDropped c).twn ∧ EventsStay (s.claimDropped c) (s.retractClaim c)
      ∧ ∀ p, (s.retractClaim c).porch p = (s.claimDropped c).porch p := by
    rw [State.retractClaim_eq]
    split
    · exact ⟨rfl, fun e he => List.mem_append_left _ he, fun _ => rfl⟩
    · exact ⟨rfl, fun e he => he, fun _ => rfl⟩
  obtain ⟨htwnEnd, hstay, hporches⟩ := hend
  have htwn' := htwnEnd.trans htwn
  exact ⟨_, congrArg Host.Outcome.next hretract, (congrArg Twin.epoch htwn' :), (congrArg Twin.role htwn' :), (congrArg Twin.claim htwn' :),
    (congrArg Twin.claimRes htwn' :), hstay _ htold, fun p hp hlt hrole hstop hsq => by rw [hporches]; exact hsent p hp hlt hrole hstop hsq,
    s.retractClaim_frame c⟩

/-- READY drive porches whose last ACK shows a lower epoch (R394). -/
def State.lowEpochs (s : State) : List Nat :=
  (s.readyOf roleDrive).filter fun p => match (s.porch p).ackEpoch with | some e => decide (e < s.twn.epoch) | none => false

theorem State.mem_lowEpochs : p ∈ s.lowEpochs ↔ p ∈ s.readyOf roleDrive ∧ ∃ e, (s.porch p).ackEpoch = some e ∧ e < s.twn.epoch := by
  unfold State.lowEpochs
  rw [List.mem_filter]
  cases (s.porch p).ackEpoch <;> simp

theorem exec_reassert_shows (hcan : Canonical s) (hrunning : s.hrt.running = true) (hcommands : s.commands = true)
    (hframe : s.hrt.frame % 16 = 0) : ∃ t, exec .reassert s = .next t
      ∧ (∀ p ∈ s.readyOf roleDrive, (∃ e, (s.porch p).ackEpoch = some e ∧ e < s.twn.epoch) → s.boot.stopped = false →
          (s.porch p).squelch % 256 ≠ 255 →
          (prioGuard, TxCell.claim s.twn.epoch s.twn.side 3 s.hrt.frame) ∈ (t.porch p).sent)
      ∧ (∀ p, (∀ e, (s.porch p).ackEpoch = some e → s.twn.epoch ≤ e) → t.porch p = s.porch p)
      ∧ SameBut [.regs, .porches, .free] s t := by
  have hexec : exec .reassert s = .next (State.sendAll s.lowEpochs prioGuard (.claim s.twn.epoch s.twn.side 3 s.hrt.frame) s) :=
    if_pos (by rw [hrunning, hcommands, decide_eq_true hframe]; rfl)
  refine ⟨_, hexec, fun p hp he hstop hsq => State.mem_sent_sendAll hcan.porches hstop (State.mem_lowEpochs.2 ⟨hp, he⟩) hsq _ _,
    fun p hhigh => State.sendAll_porch_ne s (fun hp => ?_) _ _, State.sendAll_frame _ _ _ _⟩
  obtain ⟨-, e, he, hlow⟩ := State.mem_lowEpochs.1 hp
  have := hhigh e he
  omega

-- Rejoining (R399)

/-- A run of resynchronisation begins with nothing installed. -/
def State.syncBegun (s : State) : State :=
  { s with twn := { s.twn with sync := some [], syncFrom := s.nextTick, syncBatches := [], syncTables := [] } }

theorem State.startResync_due (hdue : s.resyncDue = true) : s.startResync = s.syncBegun.inTick fun u =>
    State.sendAll u.landing.toList prioBulk (.resync (.again 0)) u := if_pos hdue

theorem State.inTick_free (s : State) (f : State → State) : (s.inTick f).free = (f s.comingTick).free := by
  simp only [State.inTick, State.comingTick]

theorem State.landing_lt (h : s.landing = some p) : p < 16 := by
  have hmem : p ∈ s.porchesOf 4 := List.mem_of_head? h
  exact List.mem_range.1 (List.mem_filter.1 hmem).1

theorem exec_resyncStart_shows (hcan : Canonical s) (hdue : s.resyncDue = true) : ∃ t, exec .resyncStart s = .next t
    ∧ t.twn = { s.twn with sync := some [], syncFrom := s.nextTick, syncBatches := [], syncTables := [] }
    ∧ (∀ p, s.landing = some p → s.boot.stopped = false → (s.porch p).squelch % 256 ≠ 255 →
        (prioBulk, TxCell.resync (.again 0)) ∈ (t.porch p).next)
    ∧ SameBut [.hrt, .regs, .porches, .twn] s t := by
  have hexec : exec .resyncStart s = .next (s.startResync) := rfl
  have hframe := s.startResync_frame
  rw [State.startResync_due hdue] at hexec hframe
  have hplan : ∀ u : State, u.plan = s.plan → u.landing = s.landing := fun u hu => by
    unfold State.landing State.porchesOf State.porchRole State.laneEntry
    rw [hu]
  refine ⟨_, hexec, ?_, fun p hp hstop hsq => ?_, fun q hq => ?_⟩
  · exact (State.inTick_shows _ _).2.1.trans ((State.sendAll_frame _ _ _ _ .twn (by decide)).trans
      (s.syncBegun.comingTick_frame .twn (by decide)))
  · have hland : s.syncBegun.comingTick.landing = some p := (hplan _ rfl).trans hp
    have hkeep := State.comingTick_porchesKeep (s := s.syncBegun) hcan.porches
    have hsquelch : (s.syncBegun.comingTick.porch p).squelch = (s.porch p).squelch := (congrArg Porch.squelch (hkeep.core p) :)
    rw [State.inTick_porch (f := fun u => State.sendAll u.landing.toList prioBulk (.resync (.again 0)) u) (State.sendAll_grows hkeep.canonical _ _ _).canonical p (State.landing_lt hp)]
    exact List.mem_append_right _ (State.mem_sent_sendAll hkeep.canonical hstop (by rw [hland]; exact List.mem_singleton.2 rfl)
      (by rw [hsquelch]; exact hsq) _ _)
  · by_cases hfree : q = .free
    · subst hfree
      exact (State.inTick_free _ _).trans (State.sendAll_free _ _ (by decide) _)
    · refine hframe q ?_
      simp only [List.mem_cons, List.not_mem_nil, or_false, not_or] at hq ⊢
      exact ⟨hq.1, hq.2.1, hq.2.2.1, hq.2.2.2, hfree⟩

end

/-- Settles O50. -/
theorem claimsAndRoles : Obligations.ClaimsAndRoles := by
  intro s hcan
  refine ⟨rfl, exec_heartbeatLost_shows, exec_heartbeatLost_present, fun g => exec_claim_shows hcan, fun g h => if_neg ?_,
    fun g hholds hlost => if_neg ?_, fun c => exec_claimDecision_won, fun c => exec_claimDecision_retracted hcan, fun hnot => ?_,
    exec_reassert_shows hcan, fun hcommands => if_neg ?_, exec_resyncStart_shows hcan, fun hdue => ?_⟩
  · rcases h with h | h | h <;> rw [h] <;> simp
  · rw [hholds, hlost]
    simp
  · have hstays : s.decideClaim = s := by
      unfold State.decideClaim
      cases hclaim : s.twn.claim with
      | none => rfl
      | some c => exact if_neg (by have := hnot c hclaim; omega)
    exact congrArg Host.Outcome.next hstays
  · rw [hcommands]
    simp
  · exact congrArg Host.Outcome.next (if_neg (by rw [hdue]; exact Bool.false_ne_true))

end Sys2Proof.Machine
end

-- Cells of the twin ----------------------------------------------------------------------------------------------------------------
section
/-! O51: COMMAND, GRANT, WITHDRAW, STATE and RESYNC cells. -/
namespace Sys2Proof.Machine

section
variable {s : State}

-- Entries with different loops

/-- An operation that changes the loop of each entry alone changes each loop by its own entry. -/
theorem State.loop_foldl_entries {f : State → Nat × Int → State} {F : Nat × Int → Loop → Loop}
    (hcan : ∀ u e, LoopsCanonical u → LoopsCanonical (f u e)) (hself : ∀ u e, LoopsCanonical u → (f u e).loop e.1 = F e (u.loop e.1))
    (hne : ∀ u e l, l ≠ e.1 → (f u e).loop l = u.loop l) {es : List (Nat × Int)} (hnodup : (es.map (·.1)).Nodup) (h : LoopsCanonical s) :
    (∀ e ∈ es, (es.foldl f s).loop e.1 = F e (s.loop e.1)) ∧ ∀ l, l ∉ es.map (·.1) → (es.foldl f s).loop l = s.loop l := by
  induction es generalizing s with
  | nil => exact ⟨fun e he => absurd he List.not_mem_nil, fun _ _ => rfl⟩
  | cons x es ih =>
    obtain ⟨hx, hnodup⟩ := List.nodup_cons.1 hnodup
    obtain ⟨hin, hout⟩ := ih hnodup (hcan s x h)
    refine ⟨fun e he => ?_, fun l hl => ?_⟩
    · rcases List.mem_cons.1 he with rfl | he
      · exact (hout e.1 hx).trans (hself s e h)
      · have hne' : e.1 ≠ x.1 := fun heq => hx (List.mem_map.2 ⟨e, he, heq⟩)
        exact (hin e he).trans (congrArg (F e) (hne s x e.1 hne'))
    · have hl' := not_or.1 (mt List.mem_cons.2 hl)
      exact (hout l hl'.2).trans (hne s x l hl'.1)

/-- A loop that keeps a command of its holder (R194). -/
def Loop.keeps (n : Nat) (v : Int) (x : Loop) : Loop := { x with
  heldCmd := v, sentCmds := (enterCmd n v x.cmdList).take 4
  now := { x.now with cmdTick := n, cmd := v, sent := x.now.sent && decide (x.now.cmdTick = n) } }

/-- A loop whose command the unit has relayed (R379). -/
def Loop.relays (n : Nat) (v : Int) (x : Loop) : Loop := { x.keeps n v with now := { (x.keeps n v).now with sent := true } }

theorem State.keepCommands_loop (h : LoopsCanonical s) (n : Nat) {es : List (Nat × Int)} (hnodup : (es.map (·.1)).Nodup) :
    (∀ e ∈ es, (es.foldl (fun u e => u.keepCommand n e) s).loop e.1 = (s.loop e.1).keeps n e.2)
    ∧ ∀ l, l ∉ es.map (·.1) → (es.foldl (fun u e => u.keepCommand n e) s).loop l = s.loop l :=
  State.loop_foldl_entries (F := fun e x => x.keeps n e.2) (fun _ e hu => LoopsCanonical.updLoop hu e.1 _)
    (fun _ e hu => State.loop_updLoop_self hu e.1 _) (fun _ _ _ hl => State.loop_updLoop_ne _ _ hl) hnodup h

theorem State.relayCommands_loop (h : LoopsCanonical s) (n : Nat) {es : List (Nat × Int)} (hnodup : (es.map (·.1)).Nodup) :
    (∀ e ∈ es, (es.foldl (fun u e => u.relayCommand n e) s).loop e.1 = (s.loop e.1).relays n e.2)
    ∧ ∀ l, l ∉ es.map (·.1) → (es.foldl (fun u e => u.relayCommand n e) s).loop l = s.loop l := by
  have hkeep : ∀ (u : State) (e : Nat × Int), LoopsCanonical u → (u.keepCommand n e).loop e.1 = (u.loop e.1).keeps n e.2 :=
    fun u e hu => State.loop_updLoop_self hu e.1 _
  refine State.loop_foldl_entries (F := fun e x => x.relays n e.2)
    (fun u e hu => LoopsCanonical.updLoop (LoopsCanonical.updLoop hu e.1 _) e.1 _) (fun u e hu => ?_) (fun u e l hl => ?_) hnodup h
  · have hself := State.loop_updLoop_self (s := u.keepCommand n e) (LoopsCanonical.updLoop hu e.1 _) e.1
      fun x => { x with now := { x.now with sent := true } }
    rw [hkeep u e hu] at hself
    exact hself
  · exact (State.loop_updLoop_ne _ _ hl).trans (State.loop_updLoop_ne _ _ hl)

theorem State.keepCommands_frame (s : State) (n : Nat) (es : List (Nat × Int)) :
    SameBut [.loops] s (es.foldl (fun u e => u.keepCommand n e) s) := by
  induction es generalizing s with
  | nil => exact .refl _ _
  | cons e es ih => exact (s.keepCommand_frame n e).trans (ih _)

theorem State.relayCommands_frame (s : State) (n : Nat) (es : List (Nat × Int)) :
    SameBut [.loops] s (es.foldl (fun u e => u.relayCommand n e) s) := by
  induction es generalizing s with
  | nil => exact .refl _ _
  | cons e es ih => exact (s.relayCommand_frame n e).trans (ih _)

-- What a received cell leaves

theorem State.receiveLanding_canonical (h : PorchesCanonical s) : PorchesCanonical s.receiveLanding := by
  unfold State.receiveLanding
  split
  · exact PorchesCanonical.receive h _
  · exact h

theorem State.receiveLanding_regs (h : RegsCanonical s) : RegsCanonical s.receiveLanding := by
  unfold State.receiveLanding
  split
  · exact RegsCanonical.receive h _
  · exact h

theorem State.receiveLanding_keeps (h : PorchesCanonical s) (p : Nat) : (s.receiveLanding.porch p).state = (s.porch p).state
    ∧ (s.receiveLanding.porch p).squelch = (s.porch p).squelch ∧ (s.receiveLanding.porch p).sent = (s.porch p).sent := by
  unfold State.receiveLanding
  split
  next q _ =>
    by_cases hp : p = q
    · rw [hp, State.receive_porch h]
      exact ⟨rfl, rfl, rfl⟩
    · rw [State.receive_porch_ne _ hp]
      exact ⟨rfl, rfl, rfl⟩
  · exact ⟨rfl, rfl, rfl⟩

theorem State.receiveLanding_field {a : Nat} (ha : ∀ p, a ≠ Reg.PCH_Pp_RX p) (lo n : Nat) :
    s.receiveLanding.field a lo n = s.field a lo n := by
  unfold State.receiveLanding
  split
  · exact State.field_count_ne _ _ _ _ _ _ (ha _)
  · rfl

/-- The counts of received cells stand at 0x71020 and above. -/
theorem Reg.ne_PCH_Pp_RX {a : Nat} (ha : a < 0x71000 ∨ 0x80000 ≤ a ∧ a % 128 ≠ 32) (p : Nat) : a ≠ Reg.PCH_Pp_RX p := by
  unfold Reg.PCH_Pp_RX
  omega

-- COMMAND cells (R30, R194, R379)

/-- A received cell changes nothing of what the reading of a COMMAND cell asks for. -/
theorem State.receiveLanding_reads (s : State) : s.receiveLanding.twn = s.twn ∧ s.receiveLanding.relays = s.relays
    ∧ (∀ n, s.receiveLanding.fullTick n = s.fullTick n) ∧ ∀ p, s.receiveLanding.porchRole p = s.porchRole p := by
  have htwn : s.receiveLanding.twn = s.twn := s.receiveLanding_frame .twn (by decide)
  have hhrt : s.receiveLanding.hrt = s.hrt := s.receiveLanding_frame .hrt (by decide)
  refine ⟨htwn, ?_, fun n => ?_, fun p => State.porchRole_congr (s.receiveLanding_frame .plan (by decide)) p⟩
  · unfold State.relays
    rw [State.roleNow_congr htwn, htwn]
  · unfold State.fullTick
    rw [hhrt]

/-- A COMMAND cell of the twin that the unit has sent on, as it was received, and counted. -/
def State.cellRelayed (s : State) (c : CommandCell) : State :=
  (s.receiveLanding.send c.porch prioFrame (.command c)).count Reg.TWN_RELAY 32 32 1

/-- The state in which a COMMAND cell of the twin has been relayed (R379). -/
def State.relayed (s : State) (c : CommandCell) : State := { s.cellRelayed c with
  twn := { (s.cellRelayed c).twn with relayed := (s.cellRelayed c).twn.relayed ++ c.entries.map fun e => (s.fullTick c.applyTick, e.1) } }

theorem State.relayed_twn (s : State) (c : CommandCell) :
    (s.relayed c).twn.relayed = s.twn.relayed ++ c.entries.map fun e => (s.fullTick c.applyTick, e.1) := by
  have htwn : (s.cellRelayed c).twn = s.twn := (State.count_frame _ _ _ _ _ .twn (by decide)).trans
    ((State.send_frame _ _ _ _ .twn (by decide)).trans (s.receiveLanding_frame .twn (by decide)))
  rw [← htwn]
  rfl

theorem State.relayed_frame (s : State) (c : CommandCell) : SameBut [.regs, .porches, .twn, .free] s (s.relayed c) :=
  (SameBut.twn_frame _ _).after (by decide) ((State.count_frame _ _ _ _ _).after (by decide)
    ((State.send_frame _ _ _ _).after (by decide) (s.receiveLanding_frame.mono (by decide))))

theorem State.relayed_field (h : RegsCanonical s) (c : CommandCell) :
    (s.relayed c).field Reg.TWN_RELAY 32 32 = min (2 ^ 32 - 1) (s.field Reg.TWN_RELAY 32 32 + 1) := by
  have hcount := State.field_count_self ((State.receiveLanding_regs h).send c.porch prioFrame (.command c)) Reg.TWN_RELAY (lo := 32)
    (n := 32) 1 (by decide)
  have hsend : (s.receiveLanding.send c.porch prioFrame (.command c)).field Reg.TWN_RELAY 32 32 = s.receiveLanding.field Reg.TWN_RELAY 32 32 := by
    unfold State.field
    rw [State.reg_send_ne _ _ _ _ (by decide)]
  rw [hsend, State.receiveLanding_field (Reg.ne_PCH_Pp_RX (.inr (by decide))) 32 32] at hcount
  exact hcount

theorem State.relayed_sent (hcan : Canonical s) (c : CommandCell) (hstop : s.boot.stopped = false)
    (hsq : (s.porch c.porch).squelch % 256 ≠ 255) : (prioFrame, TxCell.command c) ∈ ((s.relayed c).porch c.porch).sent := by
  have hboot : s.receiveLanding.boot = s.boot := s.receiveLanding_frame .boot (by decide)
  have hkeeps := State.receiveLanding_keeps hcan.porches c.porch
  exact State.mem_sent_send (State.receiveLanding_canonical hcan.porches) (by rw [hboot]; exact hstop) (by rw [hkeeps.2.1]; exact hsq) _ _

section
variable {c : CommandCell} (hup : s.landingUp = true)
include hup

theorem exec_commandCell_kept (hrelays : s.relays = false) : exec (.commandCell c) s
    = .next (c.entries.foldl (fun u e => u.keepCommand (s.fullTick c.applyTick) e) s.receiveLanding) := by
  obtain ⟨-, hrel, htick, -⟩ := s.receiveLanding_reads
  have hexec : exec (.commandCell c) s = execCommandCell c s := rfl
  rw [hexec]
  unfold execCommandCell
  dsimp only
  rw [if_neg (by rw [hup]; exact Bool.false_ne_true), hrel, hrelays, htick]
  rfl

/-- A cell of another epoch than the twin's is not relayed, and is counted (R379). -/
theorem exec_commandCell_foreign (hrelays : s.relays = true) (htwin : ∀ w, s.twn.twin = some w → w.epoch ≠ c.epoch) :
    exec (.commandCell c) s = .next (s.receiveLanding.count Reg.TWN_RELAY 0 16 1) := by
  obtain ⟨htwn, hrel, -, -⟩ := s.receiveLanding_reads
  have hexec : exec (.commandCell c) s = execCommandCell c s := rfl
  rw [hexec]
  unfold execCommandCell
  dsimp only
  rw [if_neg (by rw [hup]; exact Bool.false_ne_true), hrel, hrelays, if_neg (by decide), htwn]
  cases hw : s.twn.twin with
  | none => rfl
  | some w => exact if_pos (htwin w hw)

section
variable {w : StateCell} (hrelays : s.relays = true) (htwin : s.twn.twin = some w) (hepoch : w.epoch = c.epoch)
include hrelays htwin hepoch

/-- A cell of the twin's epoch is read with what the unit holds. -/
theorem exec_commandCell_twin (h : PorchesCanonical s) : exec (.commandCell c) s
    = if (c.entries.any fun e => s.twn.filled.contains (s.fullTick c.applyTick, e.1)) then .next (s.receiveLanding.count Reg.TWN_RELAY 16 16 1)
      else if (s.porch c.porch).state = .ready ∧ s.porchRole c.porch = roleDrive then
        .next (c.entries.foldl (fun u e => u.relayCommand (s.fullTick c.applyTick) e) (s.relayed c))
      else .next (c.entries.foldl (fun u e => u.keepCommand (s.fullTick c.applyTick) e) s.receiveLanding) := by
  obtain ⟨htwn, hrel, htick, hrole⟩ := s.receiveLanding_reads
  have hexec : exec (.commandCell c) s = execCommandCell c s := rfl
  rw [hexec]
  unfold execCommandCell
  dsimp only
  rw [if_neg (by rw [hup]; exact Bool.false_ne_true), hrel, hrelays, if_neg (by decide), htwn, htwin]
  dsimp only
  rw [if_neg (Classical.not_not.2 hepoch), htick, (State.receiveLanding_keeps h c.porch).1, hrole] <;> rfl

end

omit hup in
/-- What a kept COMMAND cell leaves (R194). -/
theorem commandCell_kept (hcan : Canonical s) (hnodup : (c.entries.map (·.1)).Nodup)
    (hexec : exec (.commandCell c) s = .next (c.entries.foldl (fun u e => u.keepCommand (s.fullTick c.applyTick) e) s.receiveLanding)) :
    ∃ t, exec (.commandCell c) s = .next t
      ∧ (∀ e ∈ c.entries, (t.loop e.1).heldCmd = e.2 ∧ (t.loop e.1).cls = (s.loop e.1).cls)
      ∧ (∀ l, l ∉ c.entries.map (·.1) → t.loop l = s.loop l) ∧ (∀ p, (t.porch p).sent = (s.porch p).sent)
      ∧ SameBut [.regs, .loops, .porches] s t := by
  have hrec := s.receiveLanding_frame
  obtain ⟨hin, hout⟩ := State.keepCommands_loop (hrec.loopsCanonical (by decide) hcan.loops) (s.fullTick c.applyTick) hnodup
  have hkept := State.keepCommands_frame s.receiveLanding (s.fullTick c.applyTick) c.entries
  refine ⟨_, hexec, fun e he => ?_, fun l hl => (hout l hl).trans (hrec.loop_eq (by decide) l), fun p => ?_,
    hkept.after (by decide) (hrec.mono (by decide))⟩
  · rw [hin e he, hrec.loop_eq (by decide)]
    exact ⟨rfl, rfl⟩
  · rw [hkept.porch_eq (by decide)]
    exact (State.receiveLanding_keeps hcan.porches p).2.2

omit hup in
/-- A COMMAND cell that is only counted. -/
theorem commandCell_counted (hcan : Canonical s) {lo : Nat} (hlo : lo + 16 ≤ 64)
    (hexec : exec (.commandCell c) s = .next (s.receiveLanding.count Reg.TWN_RELAY lo 16 1)) :
    ∃ t, exec (.commandCell c) s = .next t
      ∧ t.field Reg.TWN_RELAY lo 16 = min (2 ^ 16 - 1) (s.field Reg.TWN_RELAY lo 16 + 1)
      ∧ (∀ p, (t.porch p).sent = (s.porch p).sent) ∧ SameBut [.regs, .porches] s t := by
  have hfield : s.receiveLanding.field Reg.TWN_RELAY lo 16 = s.field Reg.TWN_RELAY lo 16 :=
    State.receiveLanding_field (Reg.ne_PCH_Pp_RX (.inr (by decide))) lo 16
  have hcount := State.field_count_self (State.receiveLanding_regs hcan.regs) Reg.TWN_RELAY (lo := lo) (n := 16) 1 hlo
  rw [hfield] at hcount
  exact ⟨_, hexec, hcount, fun p => (State.receiveLanding_keeps hcan.porches p).2.2,
    (State.count_frame _ _ _ _ _).after (by decide) s.receiveLanding_frame⟩

omit hup in
/-- What a relayed COMMAND cell leaves (R379). -/
theorem commandCell_relayed (hcan : Canonical s) (hnodup : (c.entries.map (·.1)).Nodup) (hexec : exec (.commandCell c) s
      = .next (c.entries.foldl (fun u e => u.relayCommand (s.fullTick c.applyTick) e) (s.relayed c))) :
    ∃ t, exec (.commandCell c) s = .next t
      ∧ t.field Reg.TWN_RELAY 32 32 = min (2 ^ 32 - 1) (s.field Reg.TWN_RELAY 32 32 + 1)
      ∧ (s.boot.stopped = false → (s.porch c.porch).squelch % 256 ≠ 255 →
          (prioFrame, TxCell.command c) ∈ (t.porch c.porch).sent)
      ∧ t.twn.relayed = s.twn.relayed ++ c.entries.map (fun e => (s.fullTick c.applyTick, e.1))
      ∧ (∀ e ∈ c.entries, (t.loop e.1).heldCmd = e.2) ∧ SameBut [.regs, .loops, .porches, .twn, .free] s t := by
  have hrel := s.relayed_frame c
  have hloops := (State.relayCommands_loop (hrel.loopsCanonical (by decide) hcan.loops) (s.fullTick c.applyTick) hnodup).1
  have hframe := State.relayCommands_frame (s.relayed c) (s.fullTick c.applyTick) c.entries
  have hfield := State.relayed_field hcan.regs c
  have hsent := State.relayed_sent hcan c
  have htwn := s.relayed_twn c
  refine ⟨_, hexec, ?_, fun hstop hsq => ?_, ?_, fun e he => ?_, hframe.after (by decide) (hrel.mono (by decide))⟩
  · unfold State.field at hfield ⊢
    rw [hframe.reg_eq (by decide)]
    exact hfield
  · rw [hframe.porch_eq (by decide)]
    exact hsent hstop hsq
  · rw [← htwn]
    exact congrArg Twin.relayed (hframe .twn (by decide))
  · rw [hloops e he]
    rfl

omit hup in
theorem notFilled {n : Nat} (h : ∀ e ∈ c.entries, (n, e.1) ∉ s.twn.filled) :
    ¬(c.entries.any fun e => s.twn.filled.contains (n, e.1)) = true := by
  rw [List.any_eq_true]
  rintro ⟨e, he, hin⟩
  exact h e he (List.contains_iff_mem.1 hin)

end

-- GRANT cells (R387, R388, R390)

/-- The state that has taken in a GRANT. -/
def State.grantRead (s : State) (p : Nat) (g : GrantCell) : State := (s.receive p).seeEpoch g.epoch

theorem State.grantRead_twn (s : State) (p : Nat) (g : GrantCell) :
    (s.grantRead p g).twn = { s.twn with seen := max s.twn.seen g.epoch } := by
  have hrec : (s.receive p).twn = s.twn := s.receive_frame p .twn (by decide)
  rw [← hrec]
  rfl

theorem State.grantRead_frame (s : State) (p : Nat) (g : GrantCell) : SameBut [.regs, .porches, .twn] s (s.grantRead p g) :=
  (State.seeEpoch_frame _ _).after (by decide) ((s.receive_frame p).mono (by decide))

/-- A claim that a head has answered (R390). -/
def Claim.answered (c : Claim) (p verdict : Nat) : Claim :=
  if decide (verdict = 1) || decide (verdict = 2) then { c with granted := (c.granted ++ [p]).eraseDups }
  else { c with refused := (c.refused ++ [p]).eraseDups, ownerLive := if verdict = 3 then (c.ownerLive ++ [p]).eraseDups else c.ownerLive }

theorem mem_eraseDups_append {α : Type} [BEq α] [LawfulBEq α] (l : List α) (a : α) : a ∈ (l ++ [a]).eraseDups :=
  List.mem_eraseDups.2 (List.mem_append_right _ (List.mem_singleton.2 rfl))

theorem Claim.answered_granted (c : Claim) (p : Nat) {v : Nat} (hv : v = 1 ∨ v = 2) :
    p ∈ (c.answered p v).granted ∧ (c.answered p v).refused = c.refused := by
  unfold Claim.answered
  rw [if_pos (by rw [Bool.or_eq_true, decide_eq_true_eq, decide_eq_true_eq]; exact hv)]
  exact ⟨mem_eraseDups_append _ _, rfl⟩

theorem Claim.answered_refused (c : Claim) (p : Nat) {v : Nat} (h1 : v ≠ 1) (h2 : v ≠ 2) : p ∈ (c.answered p v).refused
    ∧ (c.answered p v).granted = c.granted ∧ (v = 3 → p ∈ (c.answered p v).ownerLive) := by
  unfold Claim.answered
  rw [if_neg (by rw [decide_eq_false h1, decide_eq_false h2]; decide)]
  refine ⟨mem_eraseDups_append _ _, rfl, fun h3 => ?_⟩
  dsimp only
  rw [if_pos h3]
  exact mem_eraseDups_append _ _

section
variable {p : BitVec 4} {g : GrantCell} (hpass : s.passes p.toNat = true)
include hpass

theorem exec_grantCell_other (hside : g.toSide ≠ s.twn.side) : exec (.grantCell p g) s = .next (
    if decide (g.verdict = 1) || decide (g.verdict = 2) then { s.grantRead p.toNat g with
      twn := { (s.grantRead p.toNat g).twn with grantedOther := ((s.grantRead p.toNat g).twn.grantedOther ++ [g.epoch]).eraseDups } }
    else s.grantRead p.toNat g) := by
  have hread : g.toSide ≠ (s.grantRead p.toNat g).twn.side := by rw [State.grantRead_twn]; exact hside
  exact (if_neg (by rw [hpass]; exact Bool.false_ne_true)).trans (if_pos hread)

theorem exec_grantCell_own (hside : g.toSide = s.twn.side) {c : Claim} (hclaim : s.twn.claim = some c) (hepoch : c.epoch = g.epoch) :
    exec (.grantCell p g) s = .next { s.grantRead p.toNat g with twn := { (s.grantRead p.toNat g).twn with
      claim := some (c.answered p.toNat g.verdict), claimGranted := (c.answered p.toNat g.verdict).granted
      claimRefused := (c.answered p.toNat g.verdict).refused } } := by
  have htwn : ((s.receive p.toNat).seeEpoch g.epoch).twn = { s.twn with seen := max s.twn.seen g.epoch } := s.grantRead_twn p.toNat g
  have hread : g.toSide = ((s.receive p.toNat).seeEpoch g.epoch).twn.side := by rw [htwn]; exact hside
  have hwait : ((s.receive p.toNat).seeEpoch g.epoch).twn.claim = some c := by rw [htwn]; exact hclaim
  have hexec : exec (.grantCell p g) s = execGrantCell p g s := rfl
  rw [hexec]
  unfold execGrantCell
  dsimp only
  rw [if_neg (by rw [hpass]; exact Bool.false_ne_true), if_neg (Classical.not_not.2 hread), hwait]
  exact if_neg (Classical.not_not.2 hepoch)

/-- A GRANT for this unit that answers no claim of it changes no claim. -/
theorem exec_grantCell_unasked (hside : g.toSide = s.twn.side) (hnone : ∀ c, s.twn.claim = some c → c.epoch ≠ g.epoch) :
    exec (.grantCell p g) s = .next (s.grantRead p.toNat g) := by
  have htwn : ((s.receive p.toNat).seeEpoch g.epoch).twn = { s.twn with seen := max s.twn.seen g.epoch } := s.grantRead_twn p.toNat g
  have hread : g.toSide = ((s.receive p.toNat).seeEpoch g.epoch).twn.side := by rw [htwn]; exact hside
  have hwait : ((s.receive p.toNat).seeEpoch g.epoch).twn.claim = s.twn.claim := by rw [htwn]
  have hexec : exec (.grantCell p g) s = execGrantCell p g s := rfl
  rw [hexec]
  unfold execGrantCell
  dsimp only
  rw [if_neg (by rw [hpass]; exact Bool.false_ne_true), if_neg (Classical.not_not.2 hread), hwait]
  cases hclaim : s.twn.claim with
  | none => rfl
  | some c => exact if_pos (hnone c hclaim)

theorem exec_grantCell_shows : ∃ t, exec (.grantCell p g) s = .next t
    ∧ t.twn.seen = max s.twn.seen g.epoch ∧ t.twn.role = s.twn.role ∧ t.twn.epoch = s.twn.epoch
    ∧ (g.toSide ≠ s.twn.side → t.twn.claim = s.twn.claim
        ∧ (g.verdict = 1 ∨ g.verdict = 2 → g.epoch ∈ t.twn.grantedOther))
    ∧ (∀ c, g.toSide = s.twn.side → s.twn.claim = some c → c.epoch = g.epoch →
        (g.verdict = 1 ∨ g.verdict = 2 → ∃ d, t.twn.claim = some d ∧ p.toNat ∈ d.granted ∧ d.refused = c.refused)
        ∧ (g.verdict ≠ 1 → g.verdict ≠ 2 → ∃ d, t.twn.claim = some d ∧ p.toNat ∈ d.refused ∧ d.granted = c.granted
            ∧ (g.verdict = 3 → p.toNat ∈ d.ownerLive)))
    ∧ SameBut [.regs, .porches, .twn] s t := by
  have htwn := s.grantRead_twn p.toNat g
  have hseen : (s.grantRead p.toNat g).twn.seen = max s.twn.seen g.epoch := (congrArg Twin.seen htwn :)
  have hrole : (s.grantRead p.toNat g).twn.role = s.twn.role := (congrArg Twin.role htwn :)
  have hepoch : (s.grantRead p.toNat g).twn.epoch = s.twn.epoch := (congrArg Twin.epoch htwn :)
  have hclaims : (s.grantRead p.toNat g).twn.claim = s.twn.claim := (congrArg Twin.claim htwn :)
  have hframe := s.grantRead_frame p.toNat g
  by_cases hside : g.toSide = s.twn.side
  · by_cases hasked : ∃ c, s.twn.claim = some c ∧ c.epoch = g.epoch
    · obtain ⟨c, hclaim, hc⟩ := hasked
      refine ⟨_, exec_grantCell_own hpass hside hclaim hc, hseen, hrole, hepoch, fun h => absurd hside h, fun d _ hd _ => ?_,
        (SameBut.twn_frame _ _).after (by decide) hframe⟩
      obtain rfl := Option.some_inj.1 (hclaim.symm.trans hd)
      exact ⟨fun hv => ⟨_, rfl, c.answered_granted p.toNat hv⟩, fun h1 h2 => ⟨_, rfl, c.answered_refused p.toNat h1 h2⟩⟩
    · refine ⟨_, exec_grantCell_unasked hpass hside fun c hclaim hc => hasked ⟨c, hclaim, hc⟩, hseen, hrole, hepoch,
        fun h => absurd hside h, fun c _ hclaim hc => absurd ⟨c, hclaim, hc⟩ hasked, hframe⟩
  · have hexec := exec_grantCell_other hpass hside
    by_cases hgiven : (decide (g.verdict = 1) || decide (g.verdict = 2)) = true
    · rw [if_pos hgiven] at hexec
      exact ⟨_, hexec, hseen, hrole, hepoch, fun _ => ⟨hclaims, fun _ => mem_eraseDups_append _ _⟩, fun c h => absurd h hside,
        (SameBut.twn_frame _ _).after (by decide) hframe⟩
    · rw [if_neg hgiven] at hexec
      rw [Bool.or_eq_true, decide_eq_true_eq, decide_eq_true_eq] at hgiven
      exact ⟨_, hexec, hseen, hrole, hepoch, fun _ => ⟨hclaims, fun hv => absurd hv hgiven⟩, fun c h => absurd h hside, hframe⟩

end

-- WITHDRAW cells (R23, R388)

/-- A Guard event's sends stand above the Hearth's registers. -/
theorem State.reg_send_low (s : State) (p prio : Nat) (c : TxCell) {a : Nat} (ha : a < 0x71000) : (s.send p prio c).reg a = s.reg a := by
  have htx : a ≠ Reg.PCH_Pp_TX p := by unfold Reg.PCH_Pp_TX; omega
  have hcmd : a ≠ Reg.PCH_Pp_CMD p := by unfold Reg.PCH_Pp_CMD; omega
  have hwait : ∀ u : State, (u.countWait p prio).reg a = u.reg a := by
    intro u
    unfold State.countWait
    split
    · rw [State.reg_freeTick, State.reg_maxField_ne _ _ _ _ htx, State.reg_count_ne _ _ _ _ htx]
    · rfl
  by_cases h : (s.boot.stopped || decide ((s.porch p).squelch % 256 = 255)) = true
  · exact congrArg (State.reg · a) (if_pos h)
  · obtain ⟨f, n, he | he⟩ := State.send_eq h prio c
    · rw [he, hwait, State.reg_count_ne _ _ _ _ htx, State.reg_updPorch]
    · rw [he, hwait, State.reg_count_ne _ _ _ _ hcmd, State.reg_count_ne _ _ _ _ htx, State.reg_updPorch]

theorem State.reg_sendAll_low (s : State) (ps : List Nat) (prio : Nat) (c : TxCell) {a : Nat} (ha : a < 0x71000) :
    (State.sendAll ps prio c s).reg a = s.reg a := by
  induction ps generalizing s with
  | nil => rfl
  | cons p ps ih => exact (ih (s.send p prio c)).trans (s.reg_send_low p prio c ha)

theorem State.field_guardEvent_code {u : State} (h : RegsCanonical u) {code : Nat} (hcode : code < 2 ^ 8) :
    (u.guardEvent code).field Reg.HRT_GUARD_STAT 16 8 = code := by
  have hfree : ∀ v : State, v.freeTick.field Reg.HRT_GUARD_STAT 16 8 = v.field Reg.HRT_GUARD_STAT 16 8 := fun v => rfl
  unfold State.guardEvent
  extract_lets x v w
  have hw : RegsCanonical w := RegsCanonical.setField (RegsCanonical.count h _ _ _ _) _ _ _ _
  have hset := State.field_setField_self (RegsCanonical.count (s := v) h Reg.HRT_GUARD_STAT 32 32 1) Reg.HRT_GUARD_STAT (lo := 16)
    (n := 8) code (by decide)
  rw [Nat.mod_eq_of_lt hcode] at hset
  rw [hfree, State.field_maxField_disjoint hw _ _ _ (by decide) (by decide)]
  exact hset

/-- The state that has taken in a WITHDRAW, as Guard event 4. -/
def State.withdrawRead (s : State) : State := s.receiveLanding.guardEvent GuardCode.withdraw

theorem State.mayClaim_congr {t : State} (htwn : t.twn = s.twn) (hplan : t.plan = s.plan)
    (hstate : ∀ d, (t.porch d).state = (s.porch d).state) : t.mayClaim = s.mayClaim ∧ t.claimEpoch = s.claimEpoch := by
  unfold State.mayClaim State.claimEpoch
  rw [State.roleNow_congr htwn, State.readyOf_congr hplan hstate, htwn]
  exact ⟨rfl, rfl⟩

theorem exec_withdrawCell_shows (hcan : Canonical s) (w : WithdrawCell) (hup : s.landingUp = true) :
    ∃ t, exec (.withdrawCell w) s = .next t ∧ t.hrt = { s.hrt with guardNow := true }
      ∧ t.field Reg.HRT_GUARD_STAT 16 8 = 4
      ∧ (w.reason ≠ 9 → s.mayClaim = true → ∃ c, t.twn.claim = some c ∧ c.trigger = 1 ∧ c.epoch = s.claimEpoch)
      ∧ (w.reason = 9 ∨ s.mayClaim = false → t.twn = s.twn ∧ (∀ p, s.landing = some p → s.boot.stopped = false →
          (s.porch p).squelch % 256 ≠ 255 → ∃ x, (GuardCode.withdraw, TxCell.state x) ∈ (t.porch p).sent))
      ∧ SameBut [.hrt, .regs, .porches, .twn, .free] s t := by
  have hexec : exec (.withdrawCell w) s = .next (if w.reason ≠ 9 ∧ s.withdrawRead.mayClaim
      then s.withdrawRead.startClaim 1 GuardCode.withdraw else s.withdrawRead.guardState GuardCode.withdraw) :=
    if_neg (by rw [hup]; exact Bool.false_ne_true)
  have hframe : SameBut [.hrt, .regs, .porches, .free] s s.withdrawRead :=
    (State.guardEvent_frame _ _).after (by decide) (s.receiveLanding_frame.mono (by decide))
  have hhrt : s.withdrawRead.hrt = { s.hrt with guardNow := true } := by
    have hrec : s.receiveLanding.hrt = s.hrt := s.receiveLanding_frame .hrt (by decide)
    rw [← hrec]
    rfl
  have htwn : s.withdrawRead.twn = s.twn := hframe .twn (by decide)
  have hplan : s.withdrawRead.plan = s.plan := hframe .plan (by decide)
  have hcode : s.withdrawRead.field Reg.HRT_GUARD_STAT 16 8 = 4 :=
    State.field_guardEvent_code (State.receiveLanding_regs hcan.regs) (by decide)
  have hporches : PorchesCanonical s.withdrawRead :=
    (State.guardEvent_frame _ _).porchesCanonical (by decide) (State.receiveLanding_canonical hcan.porches)
  have hkeeps : ∀ d, (s.withdrawRead.porch d).state = (s.porch d).state ∧ (s.withdrawRead.porch d).squelch = (s.porch d).squelch :=
    fun d => by
      have hporch : s.withdrawRead.porch d = s.receiveLanding.porch d := (State.guardEvent_frame _ _).porch_eq (by decide) d
      rw [hporch]
      exact ⟨(State.receiveLanding_keeps hcan.porches d).1, (State.receiveLanding_keeps hcan.porches d).2.1⟩
  obtain ⟨hmay, hepoch⟩ := State.mayClaim_congr htwn hplan fun d => (hkeeps d).1
  have hboot : s.withdrawRead.boot = s.boot := hframe .boot (by decide)
  have hlanding : s.withdrawRead.landing = s.landing := by
    unfold State.landing State.porchesOf State.porchRole State.laneEntry
    rw [hplan]
  generalize s.withdrawRead = u at hexec hframe hhrt htwn hplan hcode hporches hkeeps hmay hepoch hboot hlanding
  by_cases hclaims : w.reason ≠ 9 ∧ u.mayClaim = true
  · rw [if_pos hclaims] at hexec
    have hstart := u.startClaim_frame 1 GuardCode.withdraw
    have hclaim := u.startClaim_twn 1 GuardCode.withdraw
    have hreg : (u.startClaim 1 GuardCode.withdraw).field Reg.HRT_GUARD_STAT 16 8 = u.field Reg.HRT_GUARD_STAT 16 8 := by
      unfold State.field
      rw [show (u.startClaim 1 GuardCode.withdraw).reg Reg.HRT_GUARD_STAT = u.reg Reg.HRT_GUARD_STAT from
        State.reg_sendAll_low u _ _ _ (by decide)]
    refine ⟨_, hexec, (hstart .hrt (by decide)).trans hhrt, hreg.trans hcode, fun _ _ => ⟨_, congrArg Twin.claim hclaim, rfl, hepoch⟩,
      fun hno => ?_, hstart.after (by decide) (hframe.mono (by decide))⟩
    rcases hno with h | h
    · exact absurd h hclaims.1
    · rw [← hmay, hclaims.2] at h; cases h
  · rw [if_neg hclaims] at hexec
    have hstate := u.guardState_frame GuardCode.withdraw
    have hreg : (u.guardState GuardCode.withdraw).field Reg.HRT_GUARD_STAT 16 8 = u.field Reg.HRT_GUARD_STAT 16 8 := by
      unfold State.field
      rw [show (u.guardState GuardCode.withdraw).reg Reg.HRT_GUARD_STAT = u.reg Reg.HRT_GUARD_STAT from
        State.reg_sendAll_low u _ _ _ (by decide)]
    refine ⟨_, hexec, (hstate .hrt (by decide)).trans hhrt, hreg.trans hcode, fun h9 hm => absurd ⟨h9, hmay.trans hm⟩ hclaims,
      fun _ => ⟨(hstate .twn (by decide)).trans htwn, fun p hp hstop hsq => ⟨u.stateCell GuardCode.withdraw, ?_⟩⟩, hstate.after (by decide) (hframe.mono (by decide))⟩
    exact State.mem_sent_sendAll hporches (by rw [hboot]; exact hstop) (by rw [hlanding, hp]; exact List.mem_singleton.2 rfl)
      (by rw [(hkeeps p).2]; exact hsq) _ _

-- STATE cells (R335, R378, R381)

/-- A plan that differs, in a frame in a row (R381). -/
def State.mismatchNext (s : State) (c : StateCell) : Nat :=
  if decide (s.roleNow = .standby) && s.planDiffers c then s.twn.mismatch + 1 else if 2 ≤ s.twn.mismatch then s.twn.mismatch else 0

theorem exec_stateCell_shows (c : StateCell) (hup : s.landingUp = true) : ∃ t, exec (.stateCell c) s = .next t
    ∧ t.twn.twin = some c ∧ t.twn.stateNow = true ∧ t.twn.seen = max s.twn.seen c.epoch ∧ t.twn.role = s.twn.role
    ∧ t.twn.epoch = s.twn.epoch
    ∧ (s.roleNow = .standby → c.planDigest ≠ s.plan.digest → t.twn.mismatch = s.twn.mismatch + 1)
    ∧ (c.planDigest = s.plan.digest → c.edits = s.eng.edits → s.twn.mismatch < 2 → t.twn.mismatch = 0)
    ∧ SameBut [.regs, .events, .porches, .twn] s t := by
  have hrec : s.receiveLanding.twn = s.twn := s.receiveLanding_frame .twn (by decide)
  have htwn : (s.receiveLanding.seeEpoch c.epoch).twn = { s.twn with seen := max s.twn.seen c.epoch } := by
    rw [← hrec]
    rfl
  have hframe : SameBut [.regs, .porches, .twn] s (s.receiveLanding.seeEpoch c.epoch) :=
    (State.seeEpoch_frame _ _).after (by decide) (s.receiveLanding_frame.mono (by decide))
  have hmis : (s.receiveLanding.seeEpoch c.epoch).mismatchNext c = s.mismatchNext c := by
    have hplan : (s.receiveLanding.seeEpoch c.epoch).plan = s.plan := hframe .plan (by decide)
    have heng : (s.receiveLanding.seeEpoch c.epoch).eng = s.eng := hframe .eng (by decide)
    unfold State.mismatchNext State.planDiffers State.roleNow
    rw [hplan, heng, htwn]
  have hexec : ∃ pend, exec (.stateCell c) s = .next { s.receiveLanding.seeEpoch c.epoch with
      twn := { (s.receiveLanding.seeEpoch c.epoch).twn with
        twin := some c, stateNow := true, mismatch := (s.receiveLanding.seeEpoch c.epoch).mismatchNext c, pendMis := pend } } :=
    ⟨_, if_neg (by rw [hup]; exact Bool.false_ne_true)⟩
  obtain ⟨pend, hexec⟩ := hexec
  rw [hmis] at hexec
  refine ⟨_, hexec, rfl, rfl, (congrArg Twin.seen htwn :), (congrArg Twin.role htwn :), (congrArg Twin.epoch htwn :), fun hrole hdiff => ?_,
    fun hdigest hedits hfew => ?_, (SameBut.twn_frame _ _).after (by decide) (hframe.mono (by decide))⟩
  · refine if_pos ?_
    rw [decide_eq_true hrole, Bool.true_and]
    exact Bool.or_eq_true_iff.2 (.inl (decide_eq_true hdiff))
  · have hsame : s.planDiffers c = false := by
      unfold State.planDiffers
      rw [hdigest, hedits]
      simp
    exact (if_neg (by rw [hsame, Bool.and_false]; exact Bool.false_ne_true)).trans (if_neg (by omega))

-- RESYNC cells (R399, R446)

theorem State.receiveLanding_twn (s : State) : s.receiveLanding.twn = s.twn := s.receiveLanding_frame .twn (by decide)

section
variable (hup : s.landingUp = true)
include hup

theorem exec_resyncCell_bundle {n : Nat} {l : List (Nat × Byte)} : ∃ t, exec (.resyncCell (.bundle n l)) s = .next t
    ∧ t.upd = { s.upd with twinBundle := some (n, l) } ∧ SameBut [.regs, .porches, .upd] s t := by
  have hupd : s.receiveLanding.upd = s.upd := s.receiveLanding_frame .upd (by decide)
  exact ⟨_, if_neg (by rw [hup]; exact Bool.false_ne_true), by rw [← hupd],
    (SameBut.upd_frame _ _).after (by decide) (s.receiveLanding_frame.mono (by decide))⟩

theorem exec_resyncCell_again {b : Nat} : ∃ t, exec (.resyncCell (.again b)) s = .next t
    ∧ t.twn = { s.twn with feeding := if s.commands then some b else s.twn.feeding } ∧ SameBut [.regs, .porches, .twn] s t := by
  have hcommands : s.receiveLanding.commands = s.commands := by
    unfold State.commands
    rw [s.receiveLanding_twn]
  exact ⟨_, if_neg (by rw [hup]; exact Bool.false_ne_true), by rw [hcommands, s.receiveLanding_twn],
    (SameBut.twn_frame _ _).after (by decide) (s.receiveLanding_frame.mono (by decide))⟩

theorem exec_resyncCell_batch {b : Nat} {ls : List (Nat × Loop)} (hsync : s.twn.sync.isSome = true) (hb : b < 256) :
    ∃ t, exec (.resyncCell (.contexts b ls)) s = .next t
      ∧ t.twn = { s.twn with syncBatches := s.twn.syncBatches ++ [(b, ls)] } ∧ SameBut [.regs, .porches, .twn] s t := by
  have hasked : s.receiveLanding.twn.sync.isSome = true ∧ b < 256 := ⟨by rw [s.receiveLanding_twn]; exact hsync, hb⟩
  exact ⟨_, (if_neg (by rw [hup]; exact Bool.false_ne_true)).trans (if_pos hasked), by rw [s.receiveLanding_twn],
    (SameBut.twn_frame _ _).after (by decide) (s.receiveLanding_frame.mono (by decide))⟩

theorem exec_resyncCell_table {n : Nat} {l : List (Nat × Byte)} (hsync : s.twn.sync.isSome = true) :
    ∃ t, exec (.resyncCell (.table n l)) s = .next t
      ∧ t.twn = { s.twn with syncTables := s.twn.syncTables ++ [(n, l)] } ∧ SameBut [.regs, .porches, .twn] s t := by
  have hasked : s.receiveLanding.twn.sync.isSome = true := by rw [s.receiveLanding_twn]; exact hsync
  exact ⟨_, (if_neg (by rw [hup]; exact Bool.false_ne_true)).trans (if_pos hasked), by rw [s.receiveLanding_twn],
    (SameBut.twn_frame _ _).after (by decide) (s.receiveLanding_frame.mono (by decide))⟩

theorem exec_resyncCell_unasked {b : Nat} {ls : List (Nat × Loop)} (hsync : s.twn.sync = none) :
    ∃ t, exec (.resyncCell (.contexts b ls)) s = .next t ∧ t.twn = s.twn ∧ SameBut [.regs, .porches] s t := by
  have hasked : ¬(s.receiveLanding.twn.sync.isSome = true ∧ b < 256) := by
    rw [s.receiveLanding_twn, hsync]
    exact fun h => Bool.false_ne_true h.1
  exact ⟨_, (if_neg (by rw [hup]; exact Bool.false_ne_true)).trans (if_neg hasked), s.receiveLanding_twn, s.receiveLanding_frame⟩

end

end

/-- Settles O51. -/
theorem cellsOfTheTwin : Obligations.CellsOfTheTwin := by
  intro s hcan
  refine ⟨fun c hup hnodup => ⟨fun hrelays => commandCell_kept hcan hnodup (exec_commandCell_kept hup hrelays),
      fun hrelays htwin => commandCell_counted hcan (by decide) (exec_commandCell_foreign hup hrelays htwin),
      fun w hrelays htwin hepoch hfilled => ?_, fun w hrelays htwin hepoch hfilled hlt hready hrole => ?_,
      fun w hrelays htwin hepoch hfilled hnot => ?_⟩,
    fun p g hpass => exec_grantCell_shows hpass, fun w hup => exec_withdrawCell_shows hcan w hup, fun c hup => exec_stateCell_shows c hup,
    fun b ls hup hsync hb => ?_, fun n l hup hsync => ?_, fun n l hup => ?_, fun b hup => ?_, fun b ls hup hsync => ?_, fun c hup => ?_⟩
  · refine commandCell_counted hcan (by decide) ((exec_commandCell_twin hup hrelays htwin hepoch hcan.porches).trans (if_pos ?_))
    obtain ⟨e, he, hin⟩ := hfilled
    exact List.any_eq_true.2 ⟨e, he, List.contains_iff_mem.2 hin⟩
  · exact commandCell_relayed hcan hnodup ((exec_commandCell_twin hup hrelays htwin hepoch hcan.porches).trans
      ((if_neg (notFilled hfilled)).trans (if_pos ⟨hready, hrole⟩)))
  · obtain ⟨t, hexec, hin, -, hsent, hframe⟩ := commandCell_kept hcan hnodup ((exec_commandCell_twin hup hrelays htwin hepoch
      hcan.porches).trans ((if_neg (notFilled hfilled)).trans (if_neg fun h => hnot.elim (· h.1) (· h.2))))
    exact ⟨t, hexec, fun e he => (hin e he).1, hsent, hframe⟩
  · exact exec_resyncCell_batch hup hsync hb
  · exact exec_resyncCell_table hup hsync
  · exact exec_resyncCell_bundle hup
  · exact exec_resyncCell_again hup
  · exact exec_resyncCell_unasked hup hsync
  · exact if_pos (by rw [hup]; rfl)

end Sys2Proof.Machine
end

-- Seats and the link ---------------------------------------------------------------------------------------------------------------
section
/-! O52: seats are bound, cleared, reset and agree features; the link. -/
namespace Sys2Proof.Machine

abbrev SeatsCanonical (s : State) : Prop := twf (fun _ => ({} : Seat)) s.seats = true

theorem SeatsCanonical.updSeat {s : State} (h : SeatsCanonical s) (i : Nat) (f : Seat → Seat) : SeatsCanonical (s.updSeat i f) :=
  twf_tupd h i f

theorem SameBut.seatsCanonical {l : List Part} {s t : State} (h : SameBut l s t) (hl : .seats ∉ l) (hs : SeatsCanonical s) :
    SeatsCanonical t := by
  have hseats : t.seats = s.seats := h .seats hl
  unfold SeatsCanonical
  rw [hseats]
  exact hs

theorem SameBut.seat_eq {l : List Part} {s t : State} (h : SameBut l s t) (hl : .seats ∉ l) (i : Nat) : t.seat i = s.seat i := by
  have hseats : t.seats = s.seats := h .seats hl
  unfold State.seat
  rw [hseats]

section
variable {s : State} {i : Nat}

-- Clearing (R404, R425)

theorem exec_clearingDone_shows (hcan : Canonical s) {k : BitVec 3} (hstate : (s.seat k.toNat).state = .clearing)
    (hreset : (s.seat k.toNat).resetting = false) : ∃ t, exec (.clearingDone k) s = .next t
      ∧ t.seat k.toNat = { s.seat k.toNat with state := if (s.seat k.toNat).bound then .negotiate else .unbound }
      ∧ (∀ o, o < hallSize → t.hallByte k.toNat o = 0)
      ∧ (∀ a, (a < hallBase k.toNat ∨ hallBase (k.toNat + 1) ≤ a) → t.readByte a = s.readByte a)
      ∧ (∀ j, j ≠ k.toNat → t.seat j = s.seat j) ∧ SameBut [.seats, .ram] s t := by
  have hnext : hallBase (k.toNat + 1) = hallBase k.toNat + hallSize := by unfold hallBase hallSize; omega
  have hread : ∀ a, (((s.zeroBytes (hallBase k.toNat) hallSize).updSeat k.toNat fun x =>
      { x with state := if x.bound then .negotiate else .unbound }).readByte a)
        = if hallBase k.toNat ≤ a ∧ a < hallBase k.toNat + hallSize then 0 else s.readByte a :=
    fun a => s.readByte_zeroBytes (hallBase k.toNat) hallSize a
  refine ⟨_, if_pos ⟨hstate, by rw [hreset]; rfl⟩, State.seat_updSeat_self (s := s.zeroBytes (hallBase k.toNat) hallSize) hcan.seats _ _,
    fun o ho => ?_, fun a ha => ?_, fun j hj => State.seat_updSeat_ne _ _ hj,
    (State.updSeat_frame _ _ _).after (by decide) ((State.zeroBytes_frame _ _ _).mono (by decide))⟩
  · rw [State.hallByte, hread, if_pos ⟨by omega, by omega⟩]
  · rw [hread, if_neg (by omega)]

-- Resets of seats (R424, R425)

/-- The seat as its reset leaves it. -/
def State.seatDown (s : State) (stays : Bool) (i : Nat) : State :=
  s.updSeat i fun x => { x with state := .clearing, resetting := true, bound := stays }

/-- The orders, the moves and the sessions of a seat that is reset. -/
def State.seatGone (s : State) (stays : Bool) (i : Nat) : State := { s.seatDown stays i with
  taken := s.taken.map (fun (o : TakenOrder) => if o.seat = i then { o with gone := true } else o)
  mov := { s.mov with moves := s.mov.moves.map (fun (p : Nat × Move) =>
    if p.2.seat = i then (p.1, { p.2 with gone := true }) else p) }
  upd := { s.upd with sessions := s.upd.sessions.filter (· ≠ i) }
  port := { s.port with waiting := s.port.waiting.filter (fun (r : Nat × DoeReq) => r.1 ≠ i) } }

theorem State.resetSeat_bound (hbound : (s.seat i).bound = true) (stays : Bool) :
    s.resetSeat stays i = (s.seatGone stays i).raise Src.sys SysEvt.reset i := if_pos hbound

theorem State.resetSeat_unbound (hbound : (s.seat i).bound = false) (stays : Bool) : s.resetSeat stays i = s :=
  if_neg (by rw [hbound]; exact Bool.false_ne_true)

theorem State.resetSeat_canonical (h : SeatsCanonical s) (stays : Bool) (i : Nat) : SeatsCanonical (s.resetSeat stays i) := by
  cases hbound : (s.seat i).bound with
  | false =>
    rw [State.resetSeat_unbound hbound]
    exact h
  | true =>
    have hdown : SeatsCanonical (s.seatDown stays i) := h.updSeat i _
    rw [State.resetSeat_bound hbound]
    exact hdown

theorem State.resetSeat_seat_ne (stays : Bool) {i j : Nat} (hj : j ≠ i) : (s.resetSeat stays i).seat j = s.seat j := by
  cases hbound : (s.seat i).bound with
  | false => rw [State.resetSeat_unbound hbound]
  | true =>
    have hdown : (s.seatDown stays i).seat j = s.seat j := State.seat_updSeat_ne s _ hj
    rw [State.resetSeat_bound hbound]
    exact hdown

theorem State.resetSeat_seat (h : SeatsCanonical s) (hbound : (s.seat i).bound = true) (stays : Bool) :
    (s.resetSeat stays i).seat i = { s.seat i with state := .clearing, resetting := true, bound := stays } := by
  rw [State.resetSeat_bound hbound]
  exact State.seat_updSeat_self h i fun x => { x with state := .clearing, resetting := true, bound := stays }

theorem State.resetSeat_told (hbound : (s.seat i).bound = true) (stays : Bool) : Notified Src.sys 1 i 0 (s.resetSeat stays i) := by
  rw [State.resetSeat_bound hbound]
  exact List.mem_append_right _ (List.mem_singleton.2 rfl)

theorem State.resetSeat_eventsStay (s : State) (stays : Bool) (i : Nat) : EventsStay s (s.resetSeat stays i) := by
  cases hbound : (s.seat i).bound with
  | false => rw [State.resetSeat_unbound hbound]; exact fun e he => he
  | true => rw [State.resetSeat_bound hbound]; exact fun e he => List.mem_append_left _ he

/-- Seat `i` has been reset, with its notice. -/
structure State.SeatReset (stays : Bool) (i : Nat) (s : State) : Prop where
  canonical : SeatsCanonical s
  bound     : (s.seat i).bound = stays
  state     : (s.seat i).state = .clearing
  resetting : (s.seat i).resetting = true
  told      : Notified Src.sys 1 i 0 s

theorem State.SeatReset.keep {stays : Bool} (h : State.SeatReset stays i s) (j : Nat) : State.SeatReset stays i (s.resetSeat stays j) := by
  have hcan := State.resetSeat_canonical h.canonical stays j
  have htold := s.resetSeat_eventsStay stays j _ h.told
  by_cases hj : i = j
  · subst hj
    cases hbound : (s.seat i).bound with
    | false =>
      rw [State.resetSeat_unbound hbound]
      exact h
    | true =>
      have hself := State.resetSeat_seat h.canonical hbound stays
      exact ⟨hcan, (congrArg Seat.bound hself :), (congrArg Seat.state hself :), (congrArg Seat.resetting hself :), htold⟩
  · have hne := State.resetSeat_seat_ne (s := s) stays hj
    exact ⟨hcan, by rw [hne]; exact h.bound, by rw [hne]; exact h.state, by rw [hne]; exact h.resetting, htold⟩

/-- Every listed seat that was bound is reset. -/
theorem State.resetEach_resets (h : SeatsCanonical s) (stays : Bool) {l : List Nat} (hi : i ∈ l) (hbound : (s.seat i).bound = true) :
    State.SeatReset stays i (State.each l (fun j u => u.resetSeat stays j) s) :=
  State.each_establishes (f := fun j u => u.resetSeat stays j) (get := State.seat) (P := SeatsCanonical) (c := fun x => x.bound = true)
    (fun j _ hu => State.resetSeat_canonical hu stays j) (fun _ _ _ _ hk => State.resetSeat_seat_ne stays hk)
    (fun j _ hu => hu.keep j)
    (fun u hu hb => by
      have hself := State.resetSeat_seat hu hb stays
      exact ⟨State.resetSeat_canonical hu stays i, (congrArg Seat.bound hself :), (congrArg Seat.state hself :),
        (congrArg Seat.resetting hself :), State.resetSeat_told hb stays⟩) hi h hbound

theorem State.resetEach_keeps (stays : Bool) {l : List Nat} (hi : i ∉ l) : (State.each l (fun j u => u.resetSeat stays j) s).seat i = s.seat i :=
  by
  induction l generalizing s with
  | nil => rfl
  | cons j l ih =>
    exact (ih (s := s.resetSeat stays j) fun h => hi (List.mem_cons_of_mem _ h)).trans
      (State.resetSeat_seat_ne stays fun h => hi (h ▸ List.mem_cons_self))

theorem State.mem_boundSeats : i ∈ s.boundSeats ↔ i < 8 ∧ (s.seat i).bound = true := by
  unfold State.boundSeats
  rw [List.mem_filter, List.mem_range]

theorem exec_seatReset_bound (hcan : Canonical s) {k : BitVec 3} (u : Bool) (hbound : (s.seat k.toNat).bound = true) :
    ∃ t, exec (.seatReset k u) s = .next t
      ∧ t.seat k.toNat = { s.seat k.toNat with state := .clearing, resetting := true, bound := !u }
      ∧ (∀ j, j ≠ k.toNat → t.seat j = s.seat j) ∧ Notified Src.sys 1 k.toNat 0 t
      ∧ (∀ o ∈ t.taken, o.seat = k.toNat → o.gone = true) ∧ k.toNat ∉ t.upd.sessions
      ∧ SameBut [.seats, .taken, .port, .events, .mov, .upd] s t := by
  have hreset := State.resetSeat_bound hbound (!u)
  have htaken : (s.resetSeat (!u) k.toNat).taken = s.taken.map (fun (o : TakenOrder) => if o.seat = k.toNat then { o with gone := true } else o) := by
    rw [hreset]; rfl
  have hsessions : (s.resetSeat (!u) k.toNat).upd.sessions = s.upd.sessions.filter (· ≠ k.toNat) := by rw [hreset]; rfl
  refine ⟨_, rfl, State.resetSeat_seat hcan.seats hbound (!u), fun j hj => State.resetSeat_seat_ne _ hj, State.resetSeat_told hbound _,
    fun o ho hseat => ?_, fun hin => ?_, s.resetSeat_frame _ _⟩
  · rw [htaken] at ho
    obtain ⟨x, -, rfl⟩ := List.mem_map.1 ho
    split at hseat
    next hx => rw [if_pos hx]
    next hx => exact absurd hseat hx
  · rw [hsessions, List.mem_filter, decide_eq_true_eq] at hin
    exact hin.2 rfl

theorem State.resetSeats_resets (hcan : SeatsCanonical s) (stays : Bool) :
    (∀ i, i < 8 → (s.seat i).bound = true → State.SeatReset stays i (s.resetSeats stays))
    ∧ ∀ i, (s.seat i).bound = false → (s.resetSeats stays).seat i = s.seat i := by
  refine ⟨fun i hi hbound => ?_, fun i hbound => ?_⟩
  · obtain ⟨hc, hb, hst, hr, ht⟩ := State.resetEach_resets hcan stays (State.mem_boundSeats.2 ⟨hi, hbound⟩) hbound
    exact ⟨hc, hb, hst, hr, ht⟩
  · refine State.resetEach_keeps (s := s) stays fun hin => ?_
    rw [(State.mem_boundSeats.1 hin).2] at hbound
    cases hbound

-- PERST, the link and IDE (R423, R424, R426)

theorem exec_perst_shows (hcan : Canonical s) : ∃ t, exec .perst s = .next t ∧ t.port.perst = true ∧ t.port.ioSecure = false
    ∧ t.port.memSecure = false
    ∧ (∀ i, i < 8 → (s.seat i).bound = true → (t.seat i).bound = true ∧ (t.seat i).state = .clearing
        ∧ (t.seat i).resetting = true ∧ Notified Src.sys 1 i 0 t)
    ∧ (∀ i, (s.seat i).bound = false → t.seat i = s.seat i)
    ∧ SameBut [.seats, .taken, .port, .events, .mov, .upd] s t := by
  obtain ⟨hin, hout⟩ := State.resetSeats_resets hcan.seats true
  refine ⟨_, rfl, rfl, rfl, rfl, fun i hi hbound => ?_, hout,
    (SameBut.port_frame _ _).after (by decide) ((s.resetSeats_frame true).mono (by decide))⟩
  obtain ⟨-, hb, hst, hr, ht⟩ := hin i hi hbound
  exact ⟨hb, hst, hr, ht⟩

theorem exec_linkDown_shows (hcan : Canonical s) (hup : s.port.linkUp = true) : ∃ t, exec .linkDown s = .next t ∧ t.port.linkUp = false
    ∧ t.port.width = 0 ∧ Notified Src.sys 2 noObj 0 t
    ∧ (∀ i, i < 8 → (s.seat i).bound = true → (t.seat i).bound = false ∧ (t.seat i).state = .clearing)
    ∧ SameBut [.seats, .taken, .port, .events, .mov, .upd] s t := by
  obtain ⟨hin, -⟩ := State.resetSeats_resets hcan.seats false
  refine ⟨_, if_pos hup, rfl, rfl, List.mem_append_right _ (List.mem_singleton.2 rfl), fun i hi hbound => ?_,
    (SameBut.port_frame _ _).after (by decide) ((State.raise_frame _ _ _ _ _).after (by decide) ((s.resetSeats_frame false).mono (by decide)))⟩
  obtain ⟨-, hb, hst, -, -⟩ := hin i hi hbound
  exact ⟨hb, hst⟩

/-- The link that has come up (R402, R403, R426). -/
def State.linkedUp (s : State) (x g : Bool) : State := ({ s with port := { s.port with
  linkUp := true, perst := false, width := if x then 8 else 4, speed := if g then 2 else 1, flit256 := g } }).raise Src.sys SysEvt.up

theorem exec_linkUp_shows (x g : Bool) (hstart : s.boot.started = true) (hdown : s.port.linkUp = false ∨ s.port.perst = true) :
    ∃ t, exec (.linkUp x g) s = .next t
      ∧ t.port = { s.port with
          linkUp := true, perst := false, width := if x then 8 else 4, speed := if g then 2 else 1, flit256 := g }
      ∧ Notified Src.sys 3 noObj 0 t ∧ (x = false ∨ g = false → Notified Src.sys 4 noObj 0 t) ∧ SameBut [.port, .events] s t := by
  have hexec : exec (.linkUp x g) s = .next (if x && g then s.linkedUp x g else (s.linkedUp x g).raise Src.sys SysEvt.degraded) := by
    refine if_pos ?_
    rw [hstart, Bool.true_and]
    rcases hdown with h | h <;> rw [h]
    · rfl
    · exact Bool.or_true _
  have hup : SameBut [.port, .events] s (s.linkedUp x g) :=
    (State.raise_frame _ _ _ _ _).after (by decide) ((SameBut.port_frame _ _).mono (by decide))
  have htold : Notified Src.sys 3 noObj 0 (s.linkedUp x g) := List.mem_append_right _ (List.mem_singleton.2 rfl)
  by_cases hfull : (x && g) = true
  · rw [if_pos hfull] at hexec
    rw [Bool.and_eq_true] at hfull
    exact ⟨_, hexec, rfl, htold, fun h => by rcases h with h | h <;> simp_all, hup⟩
  · rw [if_neg hfull] at hexec
    exact ⟨_, hexec, rfl, List.mem_append_left _ htold, fun _ => List.mem_append_right _ (List.mem_singleton.2 rfl),
      (State.raise_frame _ _ _ _ _).after (by decide) hup⟩

/-- The IDE streams have left the secure state, and the Owner is told (R423). -/
def State.ideLost (s : State) : State :=
  ({ s with port := { s.port with ioSecure := false, memSecure := false } }).raise Src.sys SysEvt.ideFail

/-- Bound seats that require IDE. -/
def State.ideSeats (s : State) : List Nat := s.boundSeats.filter fun i => s.inForce (Reg.SYS_SEATs_CFG i) 8 1 = 1

theorem State.resetEach_frame (s : State) (stays : Bool) (l : List Nat) :
    SameBut [.seats, .taken, .port, .events, .mov, .upd] s (State.each l (fun j u => u.resetSeat stays j) s) :=
  State.each_frame _ _ _ fun _ _ => State.resetSeat_frame _ _ _

theorem exec_ideFail_shows (hcan : Canonical s) : ∃ t, exec .ideFail s = .next t ∧ t.port.ioSecure = false ∧ t.port.memSecure = false
    ∧ Notified Src.sys 5 noObj 0 t
    ∧ (∀ i, i < 8 → (s.seat i).bound = true → s.inForce (Reg.SYS_SEATs_CFG i) 8 1 = 1 →
        (t.seat i).state = .clearing ∧ (t.seat i).bound = true)
    ∧ (∀ i, s.inForce (Reg.SYS_SEATs_CFG i) 8 1 = 0 → t.seat i = s.seat i)
    ∧ SameBut [.seats, .taken, .port, .events, .mov, .upd] s t := by
  have hexec : exec .ideFail s = .next (State.each s.ideSeats (fun j u => u.resetSeat true j) s.ideLost) := rfl
  have hport : ∀ (l : List Nat) (u : State), u.port.ioSecure = false ∧ u.port.memSecure = false →
      (State.each l (fun j u => u.resetSeat true j) u).port.ioSecure = false
      ∧ (State.each l (fun j u => u.resetSeat true j) u).port.memSecure = false := fun l u hu =>
    State.each_keeps (P := fun v => v.port.ioSecure = false ∧ v.port.memSecure = false) (fun j v hv => by
      cases hbound : (v.seat j).bound with
      | false => rw [State.resetSeat_unbound hbound]; exact hv
      | true => rw [State.resetSeat_bound hbound]; exact hv) l hu
  have hstay : EventsStay s.ideLost (State.each s.ideSeats (fun j u => u.resetSeat true j) s.ideLost) :=
    State.each_keeps (P := fun v => EventsStay s.ideLost v)
      (fun j v hv e he => v.resetSeat_eventsStay true j e (hv e he)) _ fun e he => he
  obtain ⟨hio, hmem⟩ := hport s.ideSeats s.ideLost ⟨rfl, rfl⟩
  have hcanon : SeatsCanonical s.ideLost := hcan.seats
  refine ⟨_, hexec, hio, hmem, hstay _ (List.mem_append_right _ (List.mem_singleton.2 rfl)), fun i hi hbound hide => ?_, fun i hide => ?_,
    (State.resetEach_frame _ _ _).after (by decide) ((State.raise_frame _ _ _ _ _).after (by decide)
      ((SameBut.port_frame _ _).mono (by decide)))⟩
  · have hmember : i ∈ s.ideSeats := List.mem_filter.2 ⟨State.mem_boundSeats.2 ⟨hi, hbound⟩, decide_eq_true hide⟩
    obtain ⟨-, hb, hst, -, -⟩ := State.resetEach_resets hcanon true hmember hbound
    exact ⟨hst, hb⟩
  · refine State.resetEach_keeps (s := s.ideLost) true fun hin => ?_
    have hone := of_decide_eq_true (List.mem_filter.1 hin).2
    omega

-- Features (R421, R422)

theorem State.featResult_lt (s : State) (i : Nat) : s.featResult i < 2 ^ 8 := by
  unfold State.featResult
  dsimp only
  (repeat' split) <;> decide

theorem Reg.featCmd_ne (i j : Nat) (hj : j < 4) : Reg.SEAT_FEAT_ACC i j ≠ Reg.SEAT_FEAT_CMD i
    ∧ Reg.SEAT_FEAT_CMD i ≠ Reg.SEAT_FEAT_AGREED i j ∧ Reg.SEAT_FEAT_CMD i ≠ Reg.SEAT_EVT i := by
  unfold Reg.SEAT_FEAT_ACC Reg.SEAT_FEAT_CMD Reg.SEAT_FEAT_AGREED Reg.SEAT_EVT
  omega

/-- The result of a COMMIT is in its register, and changes nothing of what it reads. -/
theorem State.accepted_setField (s : State) (i v : Nat) : (s.setField (Reg.SEAT_FEAT_CMD i) 8 8 v).accepted i = s.accepted i := by
  unfold State.accepted
  refine congrArg List.sum (List.map_congr_left fun j hj => ?_)
  rw [State.reg_setField_ne _ _ _ _ (Reg.featCmd_ne i j (List.mem_range.1 hj)).1]

/-- The agreed feature words of a seat are written. -/
def State.agree (s : State) (i a : Nat) : State :=
  (List.range 4).foldl (fun u j => u.setReg (Reg.SEAT_FEAT_AGREED i j) (BitVec.ofNat 64 (a / 2 ^ (64 * j)))) s

theorem State.agree_keeps (s : State) (i a : Nat) : (s.agree i a).reg (Reg.SEAT_FEAT_CMD i) = s.reg (Reg.SEAT_FEAT_CMD i)
    ∧ SameBut [.regs] s (s.agree i a) := by
  have hall : ∀ (l : List Nat) (u : State), (∀ j ∈ l, j < 4) →
      (l.foldl (fun u j => u.setReg (Reg.SEAT_FEAT_AGREED i j) (BitVec.ofNat 64 (a / 2 ^ (64 * j)))) u).reg (Reg.SEAT_FEAT_CMD i)
        = u.reg (Reg.SEAT_FEAT_CMD i)
      ∧ SameBut [.regs] u (l.foldl (fun u j => u.setReg (Reg.SEAT_FEAT_AGREED i j) (BitVec.ofNat 64 (a / 2 ^ (64 * j)))) u) := by
    intro l
    induction l with
    | nil => exact fun u _ => ⟨rfl, .refl _ _⟩
    | cons j l ih =>
      intro u hl
      obtain ⟨hreg, hframe⟩ := ih (u.setReg (Reg.SEAT_FEAT_AGREED i j) (BitVec.ofNat 64 (a / 2 ^ (64 * j))))
        fun k hk => hl k (List.mem_cons_of_mem _ hk)
      exact ⟨hreg.trans (State.reg_setReg_ne _ _ (Reg.featCmd_ne i j (hl j List.mem_cons_self)).2.1), (u.setReg_frame _ _).trans hframe⟩
  exact hall (List.range 4) s fun j hj => List.mem_range.1 hj

/-- The seat as its COMMIT leaves it (R422). -/
def State.featTaken (s : State) (i : Nat) : State :=
  let u := s.setField (Reg.SEAT_FEAT_CMD i) 8 8 (s.featResult i)
  if s.featResult i = 1 then (u.agree i (u.accepted i)).updSeat i fun x =>
    { x with state := .ready, readyAt := (u.agree i (u.accepted i)).nextTick, agreed := u.accepted i } else u

theorem State.takeFeat_eq (s : State) (i : Nat) : s.takeFeat i = { (s.featTaken i).setField (Reg.SEAT_EVT i) 0 1 1 with
    later := ((s.featTaken i).setField (Reg.SEAT_EVT i) 0 1 1).later ++ [⟨Src.seatSrc, 0, 0, noObj, s.featResult i, [], [i]⟩] } := by
  unfold State.takeFeat State.featTaken State.agree
  rfl

theorem State.featTaken_field (h : RegsCanonical s) (i : Nat) : (s.featTaken i).field (Reg.SEAT_FEAT_CMD i) 8 8 = s.featResult i := by
  have hset := State.field_setField_self h (Reg.SEAT_FEAT_CMD i) (lo := 8) (n := 8) (s.featResult i) (by decide)
  rw [Nat.mod_eq_of_lt (s.featResult_lt i)] at hset
  unfold State.featTaken
  dsimp only
  split
  · unfold State.field at hset ⊢
    rw [(State.updSeat_frame _ _ _).reg_eq (by decide), (State.agree_keeps _ i _).1]
    exact hset
  · exact hset

theorem State.takeFeat_field (h : RegsCanonical s) (i : Nat) : (s.takeFeat i).field (Reg.SEAT_FEAT_CMD i) 8 8 = s.featResult i := by
  have hne := (Reg.featCmd_ne i 0 (by decide)).2.2
  rw [← State.featTaken_field h i, State.takeFeat_eq, ← State.field_setField_ne (s.featTaken i) 0 1 1 8 8 hne]
  unfold State.field
  rw [(SameBut.later_frame _ _).reg_eq (by decide)]

theorem State.takeFeat_seat (s : State) (i j : Nat) : (s.takeFeat i).seat j = (s.featTaken i).seat j := by
  rw [State.takeFeat_eq]
  exact ((SameBut.later_frame _ _).seat_eq (by decide) j).trans ((State.setField_frame _ _ _ _ _).seat_eq (by decide) j)

theorem State.takeFeat_done (hcan : Canonical s) (hdone : s.featResult i = 1) :
    (s.takeFeat i).seat i = { s.seat i with state := .ready, readyAt := s.nextTick, agreed := s.accepted i } := by
  have hkeep : SameBut [.regs] s ((s.setField (Reg.SEAT_FEAT_CMD i) 8 8 (s.featResult i)).agree i (s.accepted i)) :=
    (State.agree_keeps _ i _).2.after (by decide) (State.setField_frame _ _ _ _ _)
  have htick : ((s.setField (Reg.SEAT_FEAT_CMD i) 8 8 (s.featResult i)).agree i (s.accepted i)).nextTick = s.nextTick := by
    have hhrt := hkeep .hrt (by decide)
    dsimp only [Part.same] at hhrt
    unfold State.nextTick
    rw [hhrt]
  rw [State.takeFeat_seat, State.featTaken, if_pos hdone, State.accepted_setField, State.seat_updSeat_self (hkeep.seatsCanonical (by decide) hcan.seats), htick,
    hkeep.seat_eq (by decide)]

end

/-- Settles O52. -/
theorem seatsAndTheLink : Obligations.SeatsAndTheLink := by
  intro s hcan
  refine ⟨fun i hready hup hfree hrec => ?_, fun i hrec hi => if_pos ?_, fun i hstate hreset => exec_clearingDone_shows hcan hstate hreset,
    fun i u hbound => exec_seatReset_bound hcan u hbound, fun i u hbound => congrArg Host.Outcome.next (State.resetSeat_unbound hbound _),
    exec_perst_shows hcan, exec_linkDown_shows hcan, fun x g hstart hup hperst => if_neg ?_,
    fun x g hstart hdown => exec_linkUp_shows x g hstart hdown, fun hup => ?_, exec_ideFail_shows hcan, fun i => ?_,
    fun i hi hdone => ⟨State.takeFeat_done hcan hdone, (State.takeFeat_field hcan.regs i).trans hdone⟩,
    fun i hi hnot => ⟨?_, State.takeFeat_field hcan.regs i⟩, fun i heven => if_pos heven⟩
  · have hexec : exec (.seatBound i) s = .next ((s.updSeat i.toNat fun x => { x with bound := true, state := .clearing }).raise Src.sys
        SysEvt.bound i.toNat) := by
      refine if_neg ?_
      rw [hready, hup, hfree]
      rcases hrec with h | h <;> rw [h] <;> simp
    have hself := State.seat_updSeat_self hcan.seats i.toNat fun x => { x with bound := true, state := .clearing }
    exact ⟨_, hexec, hself, List.mem_append_right _ (List.mem_singleton.2 rfl),
      fun j hj => State.seat_updSeat_ne s (fun x => { x with bound := true, state := .clearing }) hj,
      (State.raise_frame _ _ _ _ _).after (by decide) ((State.updSeat_frame _ _ _).mono (by decide))⟩
  · rw [hrec, decide_eq_true hi, Bool.and_true, Bool.or_true]
  · rw [hup, hperst, hstart]
    decide
  · have hexec : exec .linkRecovery s = .next (s.count Reg.SYS_LINK 32 32 1) := if_pos hup
    exact ⟨_, hexec, State.field_count_self hcan.regs Reg.SYS_LINK (lo := 32) (n := 32) 1 (by decide),
      fun a ha => State.reg_count_ne _ _ _ _ ha, State.count_frame _ _ _ _ _⟩
  · by_cases hin : s.ops.feat.contains i.toNat = true
    · exact ⟨s, if_pos hin, List.contains_iff_mem.1 hin, rfl, .refl _ _⟩
    · exact ⟨_, if_neg hin, List.mem_append_right _ (List.mem_singleton.2 rfl), rfl, SameBut.ops_frame _ _⟩
  · rw [State.takeFeat_seat, State.featTaken, if_neg hnot]
    exact (State.setField_frame _ _ _ _ _).seat_eq (by decide) i

end Sys2Proof.Machine
end

-- Host writes ----------------------------------------------------------------------------------------------------------------------
section
/-! O53: a host writes its own Hall and no other memory. -/
namespace Sys2Proof.Machine

section
variable {s : State} {i : Nat}

/-- Bytes of a Hall that a host cannot write: those of a slot that is taken, and the reserved area (R408, R416). -/
def State.hallShut (s : State) (i off : Nat) : Bool := s.slotTaken i off || hallReserved off

/-- A host's bytes, each at its place, as they land. -/
def State.hallStore (s : State) (i : Nat) (l : List (Nat × Byte)) (u : State) : State :=
  l.foldl (fun u p => if s.hallShut i p.1 then u else u.writeByte (hallBase i + p.1) p.2) u

theorem span_succ (o n : Nat) : span o (n + 1) = o :: span (o + 1) n := by
  unfold span
  rw [List.range_succ_eq_map, List.map_cons, List.map_map]
  refine congr (congrArg List.cons (Nat.add_zero o)) (List.map_congr_left fun k _ => ?_)
  rw [Function.comp_apply]
  omega

/-- Every byte of a host's write that is not shut off lands, and no other byte changes. -/
theorem State.readByte_hallStore (s : State) (i : Nat) (bytes : List Byte) (o : Nat) {u : State} (h : Memory.wf u.ram = true) (a : Nat) :
    (s.hallStore i ((span o bytes.length).zip bytes) u).readByte a
      = if hallBase i + o ≤ a ∧ a < hallBase i + o + bytes.length ∧ s.hallShut i (a - hallBase i) = false
        then bytes.getD (a - hallBase i - o) 0 else u.readByte a := by
  induction bytes generalizing o u with
  | nil =>
    rw [if_neg (by rw [List.length_nil]; omega)]
    rfl
  | cons b bytes ih =>
    have hstep : s.hallStore i ((span o (b :: bytes).length).zip (b :: bytes)) u
        = s.hallStore i ((span (o + 1) bytes.length).zip bytes) (if s.hallShut i o then u else u.writeByte (hallBase i + o) b) := by
      rw [List.length_cons, span_succ]
      rfl
    have hwf : Memory.wf (if s.hallShut i o then u else u.writeByte (hallBase i + o) b).ram = true := by
      split
      · exact h
      · exact twf_tset h _ _
    rw [hstep, ih (o + 1) hwf, List.length_cons]
    by_cases ha : a = hallBase i + o
    · subst ha
      rw [if_neg (by omega), Nat.add_sub_cancel_left, Nat.sub_self]
      cases hshut : s.hallShut i o with
      | true => rw [if_pos rfl, if_neg (by simp)]
      | false =>
        rw [if_neg Bool.false_ne_true, if_pos ⟨by omega, by omega, rfl⟩, State.readByte_writeByte_self h]
        rfl
    · have hkeep : (if s.hallShut i o then u else u.writeByte (hallBase i + o) b).readByte a = u.readByte a := by
        split
        · rfl
        · exact State.readByte_writeByte_ne _ _ ha
      rw [hkeep]
      by_cases hin : hallBase i + (o + 1) ≤ a ∧ a < hallBase i + (o + 1) + bytes.length ∧ s.hallShut i (a - hallBase i) = false
      · obtain ⟨hlo, hhi, hopen⟩ := hin
        have hidx : a - hallBase i - o = a - hallBase i - (o + 1) + 1 := by omega
        rw [if_pos ⟨hlo, hhi, hopen⟩, if_pos ⟨by omega, by omega, hopen⟩, hidx, List.getD_cons_succ]
      · rw [if_neg hin, if_neg]
        rintro ⟨hlo, hhi, hopen⟩
        exact hin ⟨by omega, by omega, hopen⟩

theorem State.hallStore_frame (s : State) (i : Nat) (l : List (Nat × Byte)) (u : State) : SameBut [.ram] u (s.hallStore i l u) := by
  induction l generalizing u with
  | nil => exact .refl _ _
  | cons p l ih =>
    have hstep : SameBut [.ram] u (if s.hallShut i p.1 then u else u.writeByte (hallBase i + p.1) p.2) :=
      SameBut.ite (.refl _ _) (State.writeByte_frame _ _ _)
    exact hstep.trans (ih _)

theorem mem_span_zip {o : Nat} {bytes : List Byte} {p : Nat × Byte} (h : p ∈ (span o bytes.length).zip bytes) :
    ∃ k, k < bytes.length ∧ p.1 = o + k := by
  obtain ⟨k, hk, hp⟩ := List.mem_map.1 (List.of_mem_zip h).1
  exact ⟨k, List.mem_range.1 hk, hp.symm⟩

theorem exists_mem_span_zip (o : Nat) {bytes : List Byte} {k : Nat} (hk : k < bytes.length) :
    ∃ b, (o + k, b) ∈ (span o bytes.length).zip bytes := by
  refine ⟨bytes[k], List.mem_iff_getElem.2 ⟨k, ?_, ?_⟩⟩
  · simp [span, hk]
  · simp [span]

/-- The write reaches a header of a slot that is taken (R416). -/
def State.headerTaken (s : State) (i o : Nat) (bytes : List Byte) : Bool :=
  ((span o bytes.length).zip bytes).any fun p => s.slotTaken i p.1 && decide (p.1 % 256 < 32)

theorem State.headerTaken_iff {o : Nat} {bytes : List Byte} : s.headerTaken i o bytes = true
    ↔ ∃ k, k < bytes.length ∧ s.slotTaken i (o + k) = true ∧ (o + k) % 256 < 32 := by
  unfold State.headerTaken
  rw [List.any_eq_true]
  constructor
  · rintro ⟨p, hp, hflag⟩
    obtain ⟨k, hk, hpk⟩ := mem_span_zip hp
    rw [Bool.and_eq_true, decide_eq_true_eq, hpk] at hflag
    exact ⟨k, hk, hflag⟩
  · rintro ⟨k, hk, htaken, hhead⟩
    obtain ⟨b, hb⟩ := exists_mem_span_zip o hk
    exact ⟨_, hb, by rw [Bool.and_eq_true, decide_eq_true_eq]; exact ⟨htaken, hhead⟩⟩

/-- What a host's write leaves (R408, R416). -/
def State.hostWritten (s : State) (i o : Nat) (bytes : List Byte) : State :=
  if s.headerTaken i o bytes then (s.hallStore i ((span o bytes.length).zip bytes) s).seatEvt i 3
  else s.hallStore i ((span o bytes.length).zip bytes) s

theorem exec_slotWrite_bound {k : BitVec 3} {o : BitVec 28} {l : List Byte} (hwindow : o.toNat + l.length ≤ 2 ^ 28)
    (hready : s.boot.ready = true) (hstop : s.boot.stopped = false) (hbound : (s.seat k.toNat).bound = true) :
    exec (.slotWrite k o l) s = .next (s.hostWritten k.toNat o.toNat l) :=
  (if_neg (Nat.not_lt.2 hwindow)).trans (if_neg (by rw [hready, hstop, hbound]; decide))

theorem State.readByte_hostWritten (h : Memory.wf s.ram = true) (i o : Nat) (bytes : List Byte) (a : Nat) :
    (s.hostWritten i o bytes).readByte a
      = if hallBase i + o ≤ a ∧ a < hallBase i + o + bytes.length ∧ s.hallShut i (a - hallBase i) = false
        then bytes.getD (a - hallBase i - o) 0 else s.readByte a := by
  rw [← s.readByte_hallStore i bytes o h a]
  unfold State.hostWritten
  split <;> rfl

theorem State.hostWritten_frame (s : State) (i o : Nat) (bytes : List Byte) :
    SameBut [.ram, .regs, .events] s (s.hostWritten i o bytes)
    ∧ (s.headerTaken i o bytes = false → SameBut [.ram] s (s.hostWritten i o bytes)) := by
  have hstore := s.hallStore_frame i ((span o bytes.length).zip bytes) s
  unfold State.hostWritten
  cases s.headerTaken i o bytes with
  | true => exact ⟨(State.seatEvt_frame _ _ _).after (by decide) (hstore.mono (by decide)), fun h => Bool.noConfusion h⟩
  | false => exact ⟨hstore.mono (by decide), fun _ => hstore⟩

theorem State.hostWritten_flagged (h : RegsCanonical s) {o : Nat} {bytes : List Byte} (hheader : s.headerTaken i o bytes = true) :
    bitAt ((s.hostWritten i o bytes).reg (Reg.SEAT_EVT i)) 3 = true := by
  have hregs : (s.hallStore i ((span o bytes.length).zip bytes) s).regs = s.regs := s.hallStore_frame i _ s .regs (by decide)
  unfold State.hostWritten
  rw [hheader, if_pos rfl]
  have hset : ((s.hallStore i ((span o bytes.length).zip bytes) s).seatEvt i 3).reg (Reg.SEAT_EVT i)
      = setBits ((s.hallStore i ((span o bytes.length).zip bytes) s).reg (Reg.SEAT_EVT i)) 3 1 1 :=
    State.reg_setReg_self (by rw [hregs]; exact h) _ _
  rw [hset]
  exact bitAt_setBits_one _ (by decide)

end

/-- Settles O53. -/
theorem hostWrites : Obligations.HostWrites := by
  intro s i o l hcan hwindow
  have hread := State.readByte_hostWritten hcan.ram i.toNat o.toNat l
  obtain ⟨hframe, hquiet⟩ := s.hostWritten_frame i.toNat o.toNat l
  refine ⟨fun hready hstop hbound => ⟨_, exec_slotWrite_bound hwindow hready hstop hbound, fun k hk hfree hopen => ?_,
    fun k hk hshut => ?_, fun a ha => ?_, fun hheader => State.hostWritten_flagged hcan.regs (State.headerTaken_iff.2 hheader),
    fun hnone => hquiet (Bool.eq_false_iff.2 fun h => ?_), hframe⟩, fun hoff => (if_neg (Nat.not_lt.2 hwindow)).trans (if_pos ?_)⟩
  · have hplace : hallBase i.toNat + (o.toNat + k) - hallBase i.toNat = o.toNat + k := by omega
    rw [State.hallByte, hread, hplace, if_pos ⟨by omega, by omega, by unfold State.hallShut; rw [hfree, hopen]; rfl⟩,
      Nat.add_sub_cancel_left, List.getD_eq_getElem?_getD, List.getElem?_eq_getElem hk, Option.getD_some]
  · have hplace : hallBase i.toNat + (o.toNat + k) - hallBase i.toNat = o.toNat + k := by omega
    rw [State.hallByte, hread, hplace, if_neg]
    · rfl
    rintro ⟨-, -, hopen⟩
    unfold State.hallShut at hopen
    rcases hshut with h | h <;> rw [h] at hopen <;> simp at hopen
  · rw [hread, if_neg (by omega)]
  · obtain ⟨k, hk, htaken, -⟩ := State.headerTaken_iff.1 h
    rw [hnone k hk] at htaken
    cases htaken
  · rcases hoff with h | h | h <;> rw [h] <;> simp

end Sys2Proof.Machine
end

-- Mailboxes ------------------------------------------------------------------------------------------------------------------------
section
/-! O54: CXL mailboxes, the FM API, SPDM and the IDE keys. -/
namespace Sys2Proof.Machine

section
variable {s : State}

/-- The commands of a mailbox that the device supports (R402). -/
theorem mailbox_supported (o : BitVec 16) :
    [0x4000, 0x0400, 0x0401].contains o.toNat = true ↔ (o = 0x4000 ∨ o = 0x0400 ∨ o = 0x0401) := by
  have hnat : ∀ v : BitVec 16, o = v ↔ o.toNat = v.toNat := fun v => BitVec.toNat_inj.symm
  rw [hnat, hnat, hnat]
  simp

theorem exec_mailboxCommand_bound (hready : s.boot.ready = true) {i : BitVec 3} (o : BitVec 16) (hbound : (s.seat i.toNat).bound = true) :
    exec (.mailboxCommand i o) s = .next (s.answer
      (if o = 0x4000 ∨ o = 0x0400 ∨ o = 0x0401 then .answer (Config.cxlReply o.toNat) else .unsupported)) := by
  have hexec : exec (.mailboxCommand i o) s = if [0x4000, 0x0400, 0x0401].contains o.toNat
      then .next (s.answer (.answer (Config.cxlReply o.toNat))) else .next (s.answer .unsupported) :=
    if_neg (by rw [hready, hbound]; decide)
  rw [hexec]
  by_cases ho : o = 0x4000 ∨ o = 0x0400 ∨ o = 0x0401
  · rw [if_pos ho, if_pos ((mailbox_supported o).2 ho)]
  · rw [if_neg ho, if_neg (mt (mailbox_supported o).1 ho)]

/-- A DOE request that does not wait is answered (R433). -/
theorem State.doe_answers (hready : s.boot.ready = true) (hrestart : s.upd.restart = false) (ld : Nat) (r : DoeReq) :
    s.doe ld r = s.doeAnswer ld r :=
  (if_neg (by rw [hready]; decide)).trans (if_neg (by rw [hrestart]; decide))

theorem exec_spdmRequest_answers (hready : s.boot.ready = true) (hrestart : s.upd.restart = false) (ld : Fin 9) (r : SpdmReq) :
    exec (.spdmRequest ld r) s = .next (s.spdm ld.val r) := congrArg Host.Outcome.next (State.doe_answers hready hrestart ld.val (.spdm r))

theorem exec_ideKeyManagement_answers (hready : s.boot.ready = true) (hrestart : s.upd.restart = false) (ld : Fin 9) (io mem : Bool) :
    exec (.ideKeyManagement ld io mem) s = .next (s.ideKeys ld.val io mem) :=
  congrArg Host.Outcome.next (State.doe_answers hready hrestart ld.val (.ide io mem))

theorem sessions_filter_length (l : List Nat) (ld : Nat) : (l.filter (· = ld)).length = l.count ld := by
  rw [List.count_eq_length_filter]
  rfl

theorem exec_keyExchange_opens (hready : s.boot.ready = true) (hrestart : s.upd.restart = false) {ld : Fin 9}
    (hown : s.upd.sessions.count ld.val < 2) (hall : s.upd.sessions.length < 8) : ∃ t, exec (.spdmRequest ld .keyExchange) s = .next t
      ∧ t.upd = { s.upd with sessions := s.upd.sessions ++ [ld.val] } ∧ t.port.reply ≠ .refused ∧ SameBut [.port, .upd] s t := by
  have hspdm : s.spdm ld.val .keyExchange = ({ s with upd := { s.upd with sessions := s.upd.sessions ++ [ld.val] } }).answer
      (.answer (Config.spdmReply 4 ld.val s.flash.serial 0)) := if_pos ⟨by rw [sessions_filter_length]; exact hown, hall⟩
  exact ⟨_, (exec_spdmRequest_answers hready hrestart ld .keyExchange).trans (congrArg Host.Outcome.next hspdm), rfl, Reply.noConfusion,
    (SameBut.port_frame _ _).after (by decide) ((SameBut.upd_frame _ _).mono (by decide))⟩

theorem exec_keyExchange_refused (hready : s.boot.ready = true) (hrestart : s.upd.restart = false) {ld : Fin 9}
    (hfull : 2 ≤ s.upd.sessions.count ld.val ∨ 8 ≤ s.upd.sessions.length) :
    exec (.spdmRequest ld .keyExchange) s = .next (s.answer .refused) := by
  have hspdm : s.spdm ld.val .keyExchange = s.answer .refused := if_neg (by rw [sessions_filter_length]; omega)
  exact (exec_spdmRequest_answers hready hrestart ld .keyExchange).trans (congrArg Host.Outcome.next hspdm)

theorem exec_ideKeyManagement_sets (hready : s.boot.ready = true) (hrestart : s.upd.restart = false) {ld : Fin 9} (io mem : Bool)
    (hld : ld.val = 0 ∨ ld.val = 8) (hsession : ld.val ∈ s.upd.sessions) (hup : s.port.linkUp = true) :
    ∃ t, exec (.ideKeyManagement ld io mem) s = .next t
      ∧ t.port = { s.port with ioSecure := s.port.ioSecure || io, memSecure := s.port.memSecure || mem, reply := .answer [] }
      ∧ SameBut [.port] s t := by
  have hkeys : s.ideKeys ld.val io mem = { s with port := { s.port with
      ioSecure := s.port.ioSecure || io, memSecure := s.port.memSecure || mem, reply := .answer [] } } :=
    if_pos ⟨hld, List.contains_iff_mem.2 hsession, hup⟩
  exact ⟨_, (exec_ideKeyManagement_answers hready hrestart ld io mem).trans (congrArg Host.Outcome.next hkeys), rfl, SameBut.port_frame _ _⟩

theorem exec_ideKeyManagement_refused (hready : s.boot.ready = true) (hrestart : s.upd.restart = false) {ld : Fin 9} (io mem : Bool)
    (hnot : ld.val ∉ s.upd.sessions ∨ (ld.val ≠ 0 ∧ ld.val ≠ 8)) : exec (.ideKeyManagement ld io mem) s = .next (s.answer .refused) := by
  have hkeys : s.ideKeys ld.val io mem = s.answer .refused := by
    refine if_neg ?_
    rintro ⟨hld, hsession, -⟩
    rcases hnot with h | h
    · exact h (List.contains_iff_mem.1 hsession)
    · exact hld.elim h.1 h.2
  exact (exec_ideKeyManagement_answers hready hrestart ld io mem).trans (congrArg Host.Outcome.next hkeys)

end

/-- Settles O54. -/
theorem mailboxesAnswer : Obligations.MailboxesAnswer := by
  intro s hready
  have hfm : ¬(!s.boot.ready) = true := by rw [hready]; decide
  refine ⟨fun i o hbound => exec_mailboxCommand_bound hready o hbound, fun i o hbound => if_pos ?_, fun n hn => ?_,
    fun n => ⟨if_neg hfm, if_neg hfm⟩, fun hrestart ld => ⟨exec_spdmRequest_answers hready hrestart ld _,
      exec_spdmRequest_answers hready hrestart ld _, fun hown hall => exec_keyExchange_opens hready hrestart hown hall,
      fun hfull => exec_keyExchange_refused hready hrestart hfull,
      fun io mem hld hsession hup => exec_ideKeyManagement_sets hready hrestart io mem hld hsession hup,
      fun io mem hnot => exec_ideKeyManagement_refused hready hrestart io mem hnot⟩, fun ld r hrestart => ?_⟩
  · rw [hbound, Bool.not_false, Bool.or_true]
  · have hexec : exec (.fmApiCommand 0x5402 n) s
        = .next (s.answer (if n = 256 then .answer (Config.cxlReply 0x5402) else .refused)) := if_neg hfm
    rw [hexec, if_neg hn]
  · exact congrArg Host.Outcome.next ((if_neg hfm).trans (if_pos hrestart))

end Sys2Proof.Machine
end

-- Orders and notices ---------------------------------------------------------------------------------------------------------------
section
/-! O55: the generic checks of an order, its take-up and its end, and the notice ring of a seat. -/
namespace Sys2Proof.Machine

-- The generic checks

theorem genericCheck_header (agreed typ : Nat) {flags reserved : Nat} (body : List Byte) (h : 2 ≤ flags ∨ reserved ≠ 0) :
    genericCheck agreed typ flags reserved body = 0x82 := if_pos h

theorem genericCheck_type (agreed : Nat) {typ flags : Nat} (body : List Byte) (hflags : flags < 2) (htyp : typ = 0 ∨ 4 < typ) :
    genericCheck agreed typ flags 0 body = 0x80 := by
  have hgood : ¬ (2 ≤ flags ∨ (0 : Nat) ≠ 0) := by omega
  unfold genericCheck
  dsimp only
  rw [if_neg hgood]
  split
  all_goals omega

theorem genericCheck_feature {agreed flags : Nat} (body : List Byte) (hflags : flags < 2) (hno : agreed / 2 % 2 = 0) :
    genericCheck agreed 1 flags 0 body = 0x81 ∧ genericCheck agreed 2 flags 0 body = 0x81 := by
  have hgood : ¬ (2 ≤ flags ∨ (0 : Nat) ≠ 0) := by omega
  have hhas : ¬ decide (agreed / 2 ^ 1 % 2 = 1) = true := fun h => by
    have := of_decide_eq_true h
    omega
  unfold genericCheck
  dsimp only
  rw [if_neg hgood, if_neg hgood]
  exact ⟨if_neg fun h => hhas (Bool.and_eq_true_iff.1 h).1, if_neg hhas⟩

section
variable {s : State} {i n : Nat}

-- Take-up of a slot

/-- Memory after the take-up of a slot: its state byte, and the tick at which it was taken. -/
theorem State.readByte_takeSlot (s : State) (i n a : Nat) :
    (s.takeSlot i n).readByte a = ((s.hallWrite i (256 * n) [2]).hallWrite i (256 * n + 8) (leBytes 8 s.nextTick)).readByte a := by
  unfold State.readByte
  rw [State.takeSlot_writes]

theorem State.takeSlot_mark (h : Memory.wf s.ram = true) (i n : Nat) : (s.takeSlot i n).hallByte i (256 * n) = 2 := by
  have hmark := State.takeSlot_marks h i n
  rw [State.hallNat_byte] at hmark
  exact BitVec.eq_of_toNat_eq hmark

theorem State.takeSlot_tick (h : Memory.wf s.ram = true) (i n : Nat) :
    (s.takeSlot i n).hallNat i (256 * n + 8) 8 = s.nextTick % 2 ^ 64 := by
  have hfirst : Memory.wf (s.hallWrite i (256 * n) [2]).ram = true := Memory.wf_hallWrite h _ _ _
  have hread := State.hallNat_hallWrite hfirst i (256 * n + 8) (o := 0) (n := 8) (l := leBytes 8 s.nextTick) (by simp)
  rw [State.hallNat_congr fun k _ => s.readByte_takeSlot i n _]
  exact hread.trans (fieldAt_middle (a := []) (c := []) (by simp) rfl)

theorem State.readByte_takeSlot_outside (s : State) (i n : Nat) {a : Nat} (ha : a < hallBase i + 256 * n ∨ hallBase i + 256 * n + 16 ≤ a) :
    (s.takeSlot i n).readByte a = s.readByte a := by
  rw [s.readByte_takeSlot]
  refine (State.readByte_writeBytes_ne _ _ _ _ ?_).trans (State.readByte_writeBytes_ne _ _ _ _ ?_)
  · rw [leBytes_length]
    omega
  · rw [List.length_singleton]
    omega

/-- Every byte of a slot that has been taken up is shut to its host. -/
theorem State.takeSlot_shuts (s : State) (i : Nat) (hn : n < 4096) {b : Nat} (hb : b < 256) :
    (s.takeSlot i n).slotTaken i (256 * n + b) = true := by
  have hslot : (256 * n + b) / 256 = n := by omega
  unfold State.slotTaken
  rw [s.takeSlot_taken, hslot, decide_eq_true (by omega : 256 * n + b < 0x100000), Bool.true_and, List.any_append]
  simp [State.orderAt]

-- The end of an order

/-- The header that an order leaves in its slot (R414). -/
def State.doneHeader (s : State) (o : TakenOrder) : List Byte :=
  [3, BitVec.ofNat 8 o.typ, BitVec.ofNat 8 o.flags, BitVec.ofNat 8 o.result] ++ leBytes 4 o.cookie ++ leBytes 8 o.taken ++ leBytes 4 o.obj
    ++ leBytes 4 0 ++ leBytes 8 s.hrt.frame

theorem State.doneHeader_length (s : State) (o : TakenOrder) : (s.doneHeader o).length = 32 := by simp [State.doneHeader]

theorem State.finishOrder_gone (s : State) {o : TakenOrder} (h : o.gone = true) : s.finishOrder o = s := if_pos h

/-- Besides its slot, the end of an order writes to no memory. -/
theorem State.readByte_finishOrder (s : State) {o : TakenOrder} (h : o.gone = false) (a : Nat) :
    (s.finishOrder o).readByte a = (s.hallWrite o.seat (256 * o.slot) (s.doneHeader o)).readByte a := by
  have hopen : ¬ o.gone = true := by simp [h]
  have hnotice : SameBut [.events] (s.hallWrite o.seat (256 * o.slot) (s.doneHeader o)) (s.finishOrder o) := by
    rw [show s.finishOrder o = if o.flags % 2 = 1 then State.raiseRecord (s.hallWrite o.seat (256 * o.slot) (s.doneHeader o)) _ _ _ _
      else s.hallWrite o.seat (256 * o.slot) (s.doneHeader o) from if_neg hopen]
    exact SameBut.ite (State.raiseRecord_frame _ _ _ _ _) (SameBut.refl _ _)
  exact congrArg (fun r => tget (fun _ => 0) r a) (hnotice .ram (by decide))

theorem State.finishOrder_header (h : Memory.wf s.ram = true) {o : TakenOrder} (hgone : o.gone = false) {k : Nat} (hk : k < 32) :
    (s.finishOrder o).hallByte o.seat (256 * o.slot + k) = (s.doneHeader o)[k]'((s.doneHeader_length o).symm ▸ hk) := by
  unfold State.hallByte
  rw [s.readByte_finishOrder hgone, ← Nat.add_assoc]
  exact State.readByte_writeBytes_at h _ _ _ _

theorem State.readByte_finishOrder_outside (s : State) {o : TakenOrder} (hgone : o.gone = false) {a : Nat}
    (ha : a < hallBase o.seat + 256 * o.slot ∨ hallBase o.seat + 256 * o.slot + 32 ≤ a) :
    (s.finishOrder o).readByte a = s.readByte a := by
  rw [s.readByte_finishOrder hgone]
  exact State.readByte_writeBytes_ne _ _ _ _ (by rw [s.doneHeader_length]; omega)

-- The notice ring

theorem noticeBytes_length (index tick : Nat) (lost : Bool) (e : Event) (count : Nat) :
    (noticeBytes index tick lost e count).length = 64 := by
  unfold noticeBytes
  simp only [List.length_append, leBytes_length, List.length_cons, List.length_nil, List.length_take, List.length_replicate]
  omega

/-- The state in which a seat's ring has taken a record. -/
def State.noticeKept (s : State) (i : Nat) (e : Event × Nat) : State :=
  (s.hallWrite i (0x100000 + 64 * ((s.seat i).prod % 65536))
    (noticeBytes (s.seat i).prod s.hrt.frame (s.seat i).lost e.1 e.2)).updSeat i
      fun x => { x with prod := ((s.seat i).prod + 1) % 2 ^ 32, lost := false }

/-- The state in which a seat's ring has dropped a record, before the host learns of it. -/
def State.noticeLost (s : State) (i : Nat) : State :=
  (s.count (Reg.SEAT_NTC_LOST i) 0 32 1).updSeat i fun x => { x with lost := true }

theorem State.writeNotice_room {e : Event × Nat} (h : s.ringUsed i < 65536) : s.writeNotice i e = s.noticeKept i e :=
  if_neg (Nat.not_le.2 h)

theorem State.writeNotice_full {e : Event × Nat} (h : 65536 ≤ s.ringUsed i) :
    s.writeNotice i e = if bitAt ((s.noticeLost i).reg (Reg.SEAT_EVT i)) 1 then s.noticeLost i else (s.noticeLost i).seatEvt i 1 :=
  if_pos h

theorem State.noticeKept_bytes (h : Memory.wf s.ram = true) (i : Nat) (e : Event × Nat) :
    (s.noticeKept i e).readBytes (hallBase i + 0x100000 + 64 * ((s.seat i).prod % 65536)) 64
      = noticeBytes (s.seat i).prod s.hrt.frame (s.seat i).lost e.1 e.2 := by
  have hlen := noticeBytes_length (s.seat i).prod s.hrt.frame (s.seat i).lost e.1 e.2
  have hplace : hallBase i + 0x100000 + 64 * ((s.seat i).prod % 65536) = hallBase i + (0x100000 + 64 * ((s.seat i).prod % 65536)) + 0 := by
    omega
  unfold State.noticeKept
  rw [hplace]
  generalize noticeBytes (s.seat i).prod s.hrt.frame (s.seat i).lost e.1 e.2 = l at hlen ⊢
  have hread := State.readBytes_writeBytes h (hallBase i + (0x100000 + 64 * ((s.seat i).prod % 65536))) (o := 0) (n := 64) (l := l) (by omega)
  exact hread.trans (List.take_of_length_le (Nat.le_of_eq hlen))

theorem State.noticeKept_frame (s : State) (i : Nat) (e : Event × Nat) : SameBut [.ram, .seats] s (s.noticeKept i e) :=
  (State.updSeat_frame _ _ _).after (by decide) ((State.hallWrite_frame _ _ _ _).mono (by decide))

theorem State.noticeLost_frame (s : State) (i : Nat) : SameBut [.regs, .seats] s (s.noticeLost i) :=
  (State.updSeat_frame _ _ _).after (by decide) ((State.count_frame _ _ _ _ _).mono (by decide))

/-- The host learns of a lost record by an event alone. -/
theorem State.writeNotice_full_frame (s : State) {e : Event × Nat} (h : 65536 ≤ s.ringUsed i) :
    SameBut [.regs, .events] (s.noticeLost i) (s.writeNotice i e) := by
  rw [State.writeNotice_full h]
  exact SameBut.ite (SameBut.refl _ _) (State.seatEvt_frame _ _ _)

theorem State.writeNotice_full_field {e : Event × Nat} (hc : RegsCanonical s) (h : 65536 ≤ s.ringUsed i) :
    (s.writeNotice i e).field (Reg.SEAT_NTC_LOST i) 0 32 = min (2 ^ 32 - 1) (s.field (Reg.SEAT_NTC_LOST i) 0 32 + 1) := by
  have hcount : (s.noticeLost i).field (Reg.SEAT_NTC_LOST i) 0 32 = min (2 ^ 32 - 1) (s.field (Reg.SEAT_NTC_LOST i) 0 32 + 1) :=
    State.field_count_self hc (Reg.SEAT_NTC_LOST i) 1 (by decide)
  rw [State.writeNotice_full h]
  split
  · exact hcount
  · exact (State.field_setField_ne (s.noticeLost i) (a := Reg.SEAT_EVT i) (b := Reg.SEAT_NTC_LOST i) 1 1 1 0 32
      (by unfold Reg.SEAT_EVT Reg.SEAT_NTC_LOST; omega)).trans hcount

end

/-- Two occurrences of one event are one record with the count 2. -/
theorem mergeEvents_twice {e : Event} (h : e.kind = 0) : mergeEvents [e, e] [] = [(e, 2)] := by
  simp [mergeEvents, h]

/-- Settles O55. -/
theorem ordersAndNotices : Obligations.OrdersAndNotices := by
  intro s hcan
  refine ⟨fun agreed typ _ _ body h => genericCheck_header agreed typ body h, fun agreed _ _ body => genericCheck_type agreed body,
    fun _ _ body => genericCheck_feature body, fun i n _ hn => ⟨State.takeSlot_mark hcan.ram i n, State.takeSlot_tick hcan.ram i n,
      ⟨_, s.takeSlot_taken i n, rfl, rfl, rfl⟩, fun b hb => s.takeSlot_shuts i hn hb, fun a => s.readByte_takeSlot_outside i n⟩,
    fun o => s.finishOrder_gone, fun o hgone => ⟨State.finishOrder_header hcan.ram hgone (k := 0) (by decide),
      State.finishOrder_header hcan.ram hgone (k := 3) (by decide), fun a => s.readByte_finishOrder_outside hgone⟩,
    fun i e hroom => ?_, fun i e _ hfull => ?_, fun e => mergeEvents_twice⟩
  · rw [State.writeNotice_room hroom]
    exact ⟨State.noticeKept_bytes hcan.ram i e, State.seat_updSeat_self (s := s.hallWrite i _ _) hcan.seats i _, s.noticeKept_frame i e⟩
  · have hafter := s.writeNotice_full_frame (e := e) hfull
    have hlost := s.noticeLost_frame i
    refine ⟨(hafter .ram (by decide)).trans (hlost .ram (by decide)), ?_, State.writeNotice_full_field hcan.regs hfull⟩
    exact (hafter.seat_eq (by decide) i).trans (State.seat_updSeat_self (s := s.count _ 0 32 1) hcan.seats i _)

end Sys2Proof.Machine
end

-- Staging of firmware --------------------------------------------------------------------------------------------------------------
section
/-! O56: the steps of a staging and its end, the answers of heads, and a change of the keys. -/
namespace Sys2Proof.Machine

section
variable {s t : State}

-- Forwarding to the twin

theorem SameBut.withoutFree {l : List Part} (h : SameBut (.free :: l) s t) (hfree : t.free = s.free) : SameBut l s t := by
  intro q hq
  by_cases hf : q = .free
  · subst hf
    exact hfree
  · exact h q (by simp [hf, hq])

/-- A bulk cell draws on no free choice. -/
theorem State.send_bulk_frame (s : State) (p : Nat) (c : TxCell) : SameBut [.regs, .porches] s (s.send p prioBulk c) :=
  SameBut.withoutFree ((State.send_frame s p prioBulk c).mono (by decide)) (State.sendAll_free s [p] (by decide) c)

theorem State.forwardBundle_bulk_frame (s : State) : SameBut [.regs, .porches] s s.forwardBundle := by
  unfold State.forwardBundle
  split
  · exact SameBut.ite (State.send_bulk_frame _ _ _) (SameBut.refl _ _)
  · exact SameBut.refl _ _

theorem State.forwardBundle_silent (h : s.upd.pair = false ∨ s.manifestFault ≠ none) : s.forwardBundle = s := by
  unfold State.forwardBundle
  split
  · refine if_neg ?_
    rcases h with h | h <;> simp [h]
  · rfl

theorem State.forwardBundle_grows (h : PorchesCanonical s) : QueuesGrow s s.forwardBundle := by
  unfold State.forwardBundle
  split
  · exact QueuesGrow.ite (State.send_grows h _ _ _) (.refl h)
  · exact .refl h

theorem State.forwardBundle_sends (h : PorchesCanonical s) {p : Nat} (hlanding : s.landing = some p) (hpair : s.upd.pair = true)
    (hgood : s.manifestFault = none) (hstop : s.boot.stopped = false) (hsq : (s.porch p).squelch % 256 ≠ 255) :
    (prioBulk, TxCell.resync (.bundle s.upd.imageLen s.upd.image)) ∈ (s.forwardBundle.porch p).sent := by
  have heq : s.forwardBundle = s.send p prioBulk (.resync (.bundle s.upd.imageLen s.upd.image)) := by
    unfold State.forwardBundle
    rw [hlanding]
    exact if_pos (by simp [hpair, hgood])
  rw [heq]
  exact State.mem_sent_send h hstop hsq _ _

-- The checks of a bundle

theorem State.bundleFault_congr (hupd : t.upd = s.upd) (hflash : t.flash = s.flash) : t.bundleFault = s.bundleFault := by
  unfold State.bundleFault State.manifestFault
  rw [hupd, hflash]

theorem State.bundleFault_forwarded (s : State) : s.forwardBundle.bundleFault = s.bundleFault :=
  State.bundleFault_congr (s.forwardBundle_bulk_frame .upd (by decide)) (s.forwardBundle_bulk_frame .flash (by decide))

theorem State.bundleFault_rollback (hform : bunFault s.upd.image s.upd.imageLen = none) (hsigned : bunSigned s.upd.image = true)
    (hold : bunNat s.upd.image 0x15 1 < s.flash.fusedSvn) : s.bundleFault = some (5, 0) := by
  have hmanifest : s.manifestFault = some (5, 0) := by
    unfold State.manifestFault
    dsimp only
    rw [hform, hsigned]
    exact if_pos hold
  unfold State.bundleFault
  rw [hmanifest]

-- Firmware slots

theorem State.fwSlot_setFwSlot_self (s : State) (i : Nat) (x : FwSlot) : (s.setFwSlot i x).fwSlot i = x := by
  unfold State.setFwSlot State.fwSlot
  split <;> rfl

theorem State.fwSlot_setFwSlot_ne (s : State) {i j : Nat} (h : i = 0 ↔ j ≠ 0) (x : FwSlot) : (s.setFwSlot i x).fwSlot j = s.fwSlot j := by
  unfold State.setFwSlot State.fwSlot
  by_cases hi : i = 0
  · rw [if_pos hi, if_neg (h.1 hi), if_neg (h.1 hi)]
  · have hj : j = 0 := by
      refine Classical.byContradiction fun hj => ?_
      exact hi (h.2 hj)
    rw [if_neg hi, if_pos hj, if_pos hj]

/-- Of the two firmware slots one runs, and the other does not. -/
theorem otherSlot_zero (r : Nat) : 1 - r = 0 ↔ r ≠ 0 := by omega

theorem State.fwSlot_congr (h : t.flash = s.flash) (i : Nat) : t.fwSlot i = s.fwSlot i := by
  unfold State.fwSlot
  rw [h]

theorem State.setFwSlot_fusedSvn (s : State) (i : Nat) (x : FwSlot) : (s.setFwSlot i x).flash.fusedSvn = s.flash.fusedSvn := by
  unfold State.setFwSlot
  split <;> rfl

-- Writing a bundle and relaying its head images

/-- The state in which a bundle that passed its checks is in the flash. -/
def State.bundleWritten (s : State) (b : Bundle) : State := ({ s with upd := { s.upd with bundle := some b } }).writeSlot b

/-- The state after the head images have been relayed, where the staging ends at once with none to wait for. -/
def State.bundleStaged (s : State) (b : Bundle) : State :=
  if ((s.bundleWritten b).relayHeads b).relayAnswered then ((s.bundleWritten b).relayHeads b).endStaging UpdResult.done 0
  else (s.bundleWritten b).relayHeads b

theorem State.bundleWritten_frame (s : State) (b : Bundle) : SameBut [.upd, .flash] s (s.bundleWritten b) :=
  (State.writeSlot_frame _ b).after (by decide) ((SameBut.upd_frame s _).mono (by decide))

theorem State.bundleWritten_upd (s : State) (b : Bundle) : (s.bundleWritten b).upd = { s.upd with bundle := some b } :=
  State.writeSlot_frame { s with upd := { s.upd with bundle := some b } } b .upd (by decide)

theorem State.askHead_upd (s : State) (op len tick p : Nat) :
    (s.askHead op len tick p).upd = { s.upd with asked := s.upd.asked ++ [(p, op)] } := by
  have hsend := s.send_frame p prioBulk (.imgData op len tick) .upd (by decide)
  exact (congrArg (fun u : UpdBlock => { u with asked := u.asked ++ [(p, op)] }) hsend :)

theorem State.askHead_grows (h : PorchesCanonical s) (op len tick p : Nat) : QueuesGrow s (s.askHead op len tick p) := by
  have hsent := State.send_grows h p prioBulk (.imgData op len tick)
  exact hsent.trans ((SameBut.upd_frame _ _).queuesGrow (by decide) hsent.canonical)

/-- What the relay leaves of the bundle in the staging, and of the queues of the porches. -/
theorem State.relayHeads_keeps (h : PorchesCanonical s) (b : Bundle) :
    (s.relayHeads b).upd.bundle = s.upd.bundle ∧ (s.relayHeads b).upd.st = s.upd.st ∧ QueuesGrow s (s.relayHeads b) := by
  have hstep : ∀ p u, (u.upd.bundle = s.upd.bundle ∧ u.upd.st = s.upd.st ∧ QueuesGrow s u) →
      ((u.askHead 1 ((u.imageFor b p).getD 0) 0 p).upd.bundle = s.upd.bundle
        ∧ (u.askHead 1 ((u.imageFor b p).getD 0) 0 p).upd.st = s.upd.st
        ∧ QueuesGrow s (u.askHead 1 ((u.imageFor b p).getD 0) 0 p)) := by
    rintro p u ⟨hbundle, hst, hgrow⟩
    rw [State.askHead_upd]
    exact ⟨hbundle, hst, hgrow.trans (State.askHead_grows hgrow.canonical _ _ _ _)⟩
  obtain ⟨hbundle, hst, hgrow⟩ := State.each_keeps (f := fun p u => u.askHead 1 ((u.imageFor b p).getD 0) 0 p)
    (P := fun u => u.upd.bundle = s.upd.bundle ∧ u.upd.st = s.upd.st ∧ QueuesGrow s u) hstep
    (s.headPorches.filter fun p => (s.imageFor b p).isSome) ⟨rfl, rfl, .refl h⟩
  exact ⟨hbundle, hst, hgrow.trans ((SameBut.upd_frame _ _).queuesGrow (by decide) hgrow.canonical)⟩

/-- Without head images there is nothing to relay, and no answer to wait for. -/
theorem State.relayHeads_none (s : State) {b : Bundle} (h : b.heads = []) :
    s.relayHeads b = { s with upd := { s.upd with relayed := some [], skipped := [] } } := by
  have hnone : (s.headPorches.filter fun p => (s.imageFor b p).isSome) = [] := by
    refine List.filter_eq_nil_iff.2 fun p _ => ?_
    unfold State.imageFor
    split <;> simp [h]
  unfold State.relayHeads
  dsimp only
  rw [hnone, h]
  rfl

theorem State.bundleStaged_none (s : State) {b : Bundle} (h : b.heads = []) :
    (s.bundleStaged b).upd.stageEnd = some (1, 0) ∧ (s.bundleStaged b).upd.asked = s.upd.asked := by
  have hasked : (s.bundleWritten b).upd.asked = s.upd.asked := by rw [s.bundleWritten_upd]
  unfold State.bundleStaged
  rw [State.relayHeads_none _ h]
  exact ⟨rfl, hasked⟩

/-- The end of a staging is noted in the update block alone. -/
theorem State.bundleStaged_frame (s : State) (b : Bundle) : SameBut [.upd] ((s.bundleWritten b).relayHeads b) (s.bundleStaged b) :=
  SameBut.ite (State.endStaging_frame _ _ _) (SameBut.refl _ _)

theorem State.bundleStaged_shows (h : PorchesCanonical s) (b : Bundle) :
    (s.bundleStaged b).upd.bundle = some b ∧ (s.bundleStaged b).upd.st = s.upd.st ∧ QueuesGrow s (s.bundleStaged b) := by
  have hwritten := (s.bundleWritten_frame b).queuesGrow (by decide) h
  obtain ⟨hbundle, hst, hgrow⟩ := State.relayHeads_keeps hwritten.canonical b
  rw [s.bundleWritten_upd b] at hbundle hst
  refine ⟨?_, ?_, hwritten.trans (hgrow.trans ((s.bundleStaged_frame b).queuesGrow (by decide) hgrow.canonical))⟩
  · unfold State.bundleStaged
    split <;> exact hbundle
  · unfold State.bundleStaged
    split <;> exact hst

theorem State.bundleStaged_flash (s : State) (b : Bundle) : (s.bundleStaged b).flash = (s.bundleWritten b).flash :=
  (s.bundleStaged_frame b .flash (by decide)).trans (State.relayHeads_frame _ b .flash (by decide))

-- The steps of a staging

section
variable (hst : s.upd.st = .staging) (hend : s.upd.stageEnd = none) (hrelayed : s.upd.relayed = none)
include hst hend hrelayed

theorem exec_stagingDone_fault (ok : Bool) {r w : Nat} (hfault : s.bundleFault = some (r, w)) :
    exec (.stagingDone ok) s = .next (s.forwardBundle.endStaging r w) := by
  have hexec : exec (.stagingDone ok) s = execStagingDone ok s := rfl
  rw [hexec]
  unfold execStagingDone
  rw [if_neg (by simp [hst, hend]), hrelayed]
  dsimp only
  rw [State.bundleFault_forwarded, hfault]

theorem exec_stagingDone_unwritten (hgood : s.bundleFault = none) :
    exec (.stagingDone false) s = .next (s.forwardBundle.endStaging UpdResult.flash 0) := by
  have hexec : exec (.stagingDone false) s = execStagingDone false s := rfl
  rw [hexec]
  unfold execStagingDone
  rw [if_neg (by simp [hst, hend]), hrelayed]
  dsimp only
  rw [State.bundleFault_forwarded, hgood]
  rfl

theorem exec_stagingDone_written (hgood : s.bundleFault = none) :
    exec (.stagingDone true) s
      = .next (if s.forwardBundle.flashOut then s.forwardBundle.endStaging UpdResult.flash 0
          else s.forwardBundle.bundleStaged s.forwardBundle.bundleOf) := by
  have hexec : exec (.stagingDone true) s = execStagingDone true s := rfl
  rw [hexec]
  unfold execStagingDone
  rw [if_neg (by simp [hst, hend]), hrelayed]
  dsimp only
  rw [State.bundleFault_forwarded, hgood]
  cases s.forwardBundle.flashOut <;> rfl

/-- Whatever the outcome of the checks, what the unit has sent by then stays sent. -/
theorem exec_stagingDone_grows (h : PorchesCanonical s) (ok : Bool) :
    ∃ t, exec (.stagingDone ok) s = .next t ∧ QueuesGrow s.forwardBundle t := by
  have hcan := (State.forwardBundle_grows h).canonical
  have hended : ∀ r w, QueuesGrow s.forwardBundle (s.forwardBundle.endStaging r w) := fun r w =>
    (State.endStaging_frame _ r w).queuesGrow (by decide) hcan
  cases hfault : s.bundleFault with
  | some f => exact ⟨_, exec_stagingDone_fault hst hend hrelayed ok hfault, hended _ _⟩
  | none =>
    cases ok with
    | false => exact ⟨_, exec_stagingDone_unwritten hst hend hrelayed hfault, hended _ _⟩
    | true =>
      obtain ⟨-, -, hgrow⟩ := State.bundleStaged_shows hcan s.forwardBundle.bundleOf
      exact ⟨_, exec_stagingDone_written hst hend hrelayed hfault, QueuesGrow.ite (hended _ _) hgrow⟩

end

-- The end of a staging

/-- The state in which the heads with a loaded image have been asked to discard it, from the coming tick on. -/
def State.discardsSent (s : State) : State := s.inTick fun t => State.sendAll s.upd.loaded prioBulk (.imgData 4 0 0) t

/-- The state after a staging that failed. -/
def State.stagingFailed (s : State) (r w : Nat) : State :=
  (({ s.discardsSent with upd := { s.discardsSent.upd with
      st := .idle, lockSrc := 15, stageEnd := none, image := [], imageLen := 0, bundle := none, relayed := none
      asked := s.discardsSent.upd.asked ++ s.discardsSent.upd.loaded.map (·, 4), loaded := [] } }).updResult r w).raise Src.upd 1 noObj r

theorem State.stageTick_failed {r w : Nat} (hend : s.upd.stageEnd = some (r, w)) (hr : r ≠ 1) : s.stageTick = s.stagingFailed r w := by
  unfold State.stageTick
  rw [hend]
  split
  case h_1 heq => exact absurd (Prod.mk.inj (Option.some.inj heq)).1 hr
  case h_2 heq =>
    obtain ⟨rfl, rfl⟩ := Prod.mk.inj (Option.some.inj heq)
    unfold State.stagingFailed State.discardsSent
    rfl
  case h_3 heq => cases heq

theorem State.stageTick_passed {w : Nat} (hend : s.upd.stageEnd = some (1, w)) :
    s.stageTick = (({ s with upd := { s.upd with st := .staged, stageEnd := none, image := [], imageLen := 0 } }).updResult
      UpdResult.done).raise Src.upd 0 := by
  unfold State.stageTick
  rw [hend]
  rfl

theorem State.stagingFailed_frame (s : State) (r w : Nat) : SameBut [.upd, .events] s.discardsSent (s.stagingFailed r w) :=
  (State.raise_frame _ _ _ _ _).after (by decide) ((State.updResult_frame _ _ _).after (by decide)
    ((SameBut.upd_frame _ _).mono (by decide)))

theorem State.stagingFailed_flash (s : State) (r w : Nat) : (s.stagingFailed r w).flash = s.flash :=
  (s.stagingFailed_frame r w .flash (by decide)).trans
    (State.inTick_frame (m := [.hrt, .porches, .regs, .free]) (fun t => State.sendAll s.upd.loaded prioBulk (.imgData 4 0 0) t) s
      (fun t => (State.sendAll_frame _ _ _ t).mono (by decide)) (by decide) .flash (by decide))

theorem State.stagingFailed_asks (h : PorchesCanonical s) (r w : Nat) {p : Nat} (hp : p ∈ s.upd.loaded) (hlt : p < 16)
    (hstop : s.boot.stopped = false) (hsq : (s.porch p).squelch % 256 ≠ 255) :
    (prioBulk, TxCell.imgData 4 0 0) ∈ ((s.stagingFailed r w).porch p).next := by
  rw [(s.stagingFailed_frame r w).porch_eq (by decide)]
  exact State.mem_next_inTick h hstop hp hlt hsq prioBulk fun _ => .imgData 4 0 0

-- Answers of heads

/-- The update block after a head's answer to its oldest operation (R447). -/
def UpdBlock.answered (u : UpdBlock) (p op r : Nat) : UpdBlock :=
  let v := { u with asked := u.asked.erase (p, op) }
  if r ≠ 0 then { v with failed := (v.failed ++ [p]).eraseDups }
  else if op = 1 then { v with loaded := (v.loaded ++ [p]).eraseDups }
  else if op = 2 then { v with accepted := (v.accepted ++ [p]).eraseDups }
  else v

theorem State.receive_upd (s : State) (p : Nat) : (s.receive p).upd = s.upd := s.receive_frame p .upd (by decide)

theorem exec_imgResult_none {p : BitVec 4} (hpass : s.passes p.toNat = true) (r : BitVec 8)
    (hnone : s.upd.asked.find? (fun a => a.1 = p.toNat) = none) : exec (.imgResult p r) s = .next (s.receive p.toNat) := by
  have hexec : exec (.imgResult p r) s = execImgResult p r s := rfl
  rw [hexec]
  unfold execImgResult
  dsimp only
  rw [if_neg (by simp [hpass]), State.receive_upd, hnone]

/-- The state after a head's answer, where it may also be the last step of the staging. -/
theorem State.answered_ends (s : State) (v : UpdBlock) (p : Nat) (c : Prop) [Decidable c] (r w : Nat) :
    ∃ t e, Host.Outcome.next (if c then State.endStaging { s.receive p with upd := v } r w else { s.receive p with upd := v })
        = (.next t : Host.Outcome State Fault Refusal)
      ∧ t.upd = { v with stageEnd := e } ∧ SameBut [.regs, .porches, .upd] s t := by
  have hframe : SameBut [.regs, .porches, .upd] s { s.receive p with upd := v } :=
    (SameBut.upd_frame _ v).after (by decide) ((s.receive_frame p).mono (by decide))
  by_cases hc : c
  · rw [if_pos hc]
    exact ⟨_, some (r, w), rfl, rfl, (State.endStaging_frame _ r w).after (by decide) hframe⟩
  · rw [if_neg hc]
    exact ⟨_, v.stageEnd, rfl, rfl, hframe⟩

/-- An answer is noted for the head's oldest operation. -/
theorem exec_imgResult_answer {p : BitVec 4} (hpass : s.passes p.toNat = true) (r : BitVec 8) {op : Nat}
    (hfound : s.upd.asked.find? (fun a => a.1 = p.toNat) = some (p.toNat, op)) : ∃ t e, exec (.imgResult p r) s = .next t
      ∧ t.upd = { s.upd.answered p.toNat op r.toNat with stageEnd := e } ∧ SameBut [.regs, .porches, .upd] s t := by
  have hexec : exec (.imgResult p r) s = execImgResult p r s := rfl
  rw [hexec]
  unfold execImgResult
  dsimp only
  rw [if_neg (by simp [hpass]), State.receive_upd, hfound]
  dsimp only
  unfold UpdBlock.answered
  dsimp only
  by_cases hr : r = 0
  · have hzero : ¬ r.toNat ≠ 0 := by simp [hr]
    rw [if_neg (Classical.not_not.2 hr), if_neg hzero]
    by_cases hload : op = 1
    · subst hload
      exact s.answered_ends _ p.toNat _ _ _
    · rw [if_neg hload]
      by_cases hact : op = 2
      · subst hact
        exact s.answered_ends _ p.toNat _ _ _
      · rw [if_neg hact]
        split
        · exact absurd rfl hload
        · exact absurd rfl hact
        · exact s.answered_ends _ p.toNat _ _ _
  · have hbad : r.toNat ≠ 0 := fun h => hr (BitVec.eq_of_toNat_eq h)
    rw [if_pos hr, if_pos hbad]
    exact s.answered_ends _ p.toNat _ _ _

section
variable (u : UpdBlock) (p op : Nat)

theorem UpdBlock.answered_bad {r : Nat} (h : r ≠ 0) :
    p ∈ (u.answered p op r).failed ∧ (u.answered p op r).loaded = u.loaded ∧ (u.answered p op r).accepted = u.accepted := by
  unfold UpdBlock.answered
  dsimp only
  rw [if_pos h]
  exact ⟨by simp, rfl, rfl⟩

theorem UpdBlock.answered_asked (r : Nat) : (u.answered p op r).asked = u.asked.erase (p, op) := by
  unfold UpdBlock.answered
  dsimp only
  (repeat' split) <;> rfl

theorem UpdBlock.answered_good : (u.answered p op 0).failed = u.failed ∧ (op = 1 → p ∈ (u.answered p op 0).loaded)
    ∧ (op = 2 → p ∈ (u.answered p op 0).accepted) := by
  unfold UpdBlock.answered
  dsimp only
  rw [if_neg (Classical.not_not.2 rfl)]
  refine ⟨by (repeat' split) <;> rfl, fun h => ?_, fun h => ?_⟩
  · rw [if_pos h]
    simp
  · rw [if_neg (by omega), if_pos h]
    simp

end

-- A change of the keys

theorem State.keyTick_done {w : List (Nat × List Byte)} (hwrite : s.upd.keyWrite = some w) (hdone : s.upd.keyDone = true) :
    s.keyTick.upd.keys = w ∧ s.keyTick.upd.cmdResult = 1 := by
  have heq : s.keyTick = (State.saveCup { s with upd := { s.upd with keys := w, keyWrite := none, keyDone := false } }).updResult
      UpdResult.done := by
    unfold State.keyTick
    rw [hwrite]
    exact if_pos hdone
  have hsave := State.saveCup_frame { s with upd := { s.upd with keys := w, keyWrite := none, keyDone := false } } .upd (by decide)
  rw [heq]
  exact ⟨congrArg UpdBlock.keys hsave, rfl⟩

theorem State.keyTick_undone (hdone : s.upd.keyDone = false) : s.keyTick = s := by
  unfold State.keyTick
  split
  · exact if_neg (by simp [hdone])
  · rfl

end

/-- Settles O56. -/
theorem firmwareIsStaged : Obligations.FirmwareIsStaged := by
  intro s hcan
  have hforward := s.forwardBundle_bulk_frame
  have hupd : s.forwardBundle.upd = s.upd := hforward .upd (by decide)
  refine ⟨fun hst hend hrelayed => ⟨fun ok r w hfault => ?_, fun hgood => ?_, fun hgood hout => ?_,
    fun ok p hpair hgood hlanding hstop hsq => ?_, fun hform hsigned hold => State.bundleFault_rollback hform hsigned hold⟩,
    fun ok hst => if_pos (.inl hst), fun r w hend hr => ?_, fun w hend => ?_, fun p r hpass => ?_, fun w hw => if_pos (by simp [hw]),
    fun hw => if_neg (by simp [hw]), fun w => State.keyTick_done, State.keyTick_undone⟩
  · refine ⟨_, exec_stagingDone_fault hst hend hrelayed ok hfault, congrArg (fun u : UpdBlock => { u with stageEnd := some (r, w) }) hupd,
      (State.endStaging_frame _ _ _).after (by decide) (hforward.mono (by decide)), fun hquiet => ?_⟩
    rw [State.forwardBundle_silent hquiet]
    exact State.endStaging_frame _ _ _ .porches (by decide)
  · exact ⟨_, exec_stagingDone_unwritten hst hend hrelayed hgood,
      congrArg (fun u : UpdBlock => { u with stageEnd := some (11, 0) }) hupd,
      (State.endStaging_frame _ _ _).after (by decide) (hforward.mono (by decide))⟩
  · have hout' : s.forwardBundle.flashOut = false := by
      unfold State.flashOut at hout ⊢
      rw [hupd, hforward .att (by decide)]
      exact hout
    have hbundle : s.forwardBundle.bundleOf = s.bundleOf := by
      unfold State.bundleOf
      rw [hupd]
    have hexec := exec_stagingDone_written hst hend hrelayed hgood
    rw [hout', hbundle, if_neg Bool.false_ne_true] at hexec
    obtain ⟨hkept, hstaging, -⟩ := State.bundleStaged_shows (State.forwardBundle_grows hcan.porches).canonical s.bundleOf
    have hflash := s.forwardBundle.bundleStaged_flash s.bundleOf
    have hrun : s.forwardBundle.upd.runSlot = s.upd.runSlot := congrArg UpdBlock.runSlot hupd
    refine ⟨_, hexec, hkept, hstaging.trans ((congrArg UpdBlock.st hupd).trans hst), ?_, ?_, ?_, fun hheads => ?_, ?_⟩
    · rw [State.fwSlot_congr hflash, ← hrun]
      exact State.fwSlot_setFwSlot_self _ _ _
    · rw [State.fwSlot_congr hflash, ← hrun]
      refine (State.fwSlot_setFwSlot_ne _ (otherSlot_zero _) _).trans (State.fwSlot_congr ?_ _)
      exact hforward .flash (by decide)
    · rw [hflash]
      exact (State.setFwSlot_fusedSvn _ _ _).trans (congrArg Flash.fusedSvn (hforward .flash (by decide)))
    · obtain ⟨hended, hasked⟩ := s.forwardBundle.bundleStaged_none hheads
      exact ⟨hended, hasked.trans (congrArg UpdBlock.asked hupd)⟩
    · exact (s.forwardBundle.bundleStaged_frame _).after (by decide) ((State.relayHeads_frame _ _).after (by decide)
        ((State.bundleWritten_frame _ _).after (by decide) (hforward.mono (by decide))))
  · obtain ⟨t, hexec, hgrow⟩ := exec_stagingDone_grows hst hend hrelayed hcan.porches ok
    exact ⟨t, hexec, hgrow.sent p _ (State.forwardBundle_sends hcan.porches hlanding hpair hgood hstop hsq)⟩
  · rw [State.stageTick_failed hend hr]
    exact ⟨rfl, rfl, rfl, rfl, rfl, s.stagingFailed_flash r w, fun p hp hlt => State.stagingFailed_asks hcan.porches r w hp hlt⟩
  · rw [State.stageTick_passed hend]
    exact ⟨rfl, rfl, rfl, rfl⟩
  · have hreceive := s.receive_frame p.toNat
    cases hfound : s.upd.asked.find? (fun a => a.1 = p.toNat) with
    | none =>
      exact ⟨_, exec_imgResult_none hpass r hfound, fun _ => s.receive_upd p.toNat, fun op h => (by cases h),
        hreceive.mono (by decide)⟩
    | some x =>
      obtain ⟨q, op⟩ := x
      have hq : q = p.toNat := by simpa using List.find?_some hfound
      subst hq
      obtain ⟨t, e, hexec, hupd', hframe⟩ := exec_imgResult_answer hpass r hfound
      refine ⟨t, hexec, fun hnone => absurd (List.mem_of_find?_eq_some hfound) (hnone op), fun op' h => ?_, hframe⟩
      obtain ⟨-, rfl⟩ := Prod.mk.inj (Option.some.inj h)
      rw [hupd']
      refine ⟨UpdBlock.answered_asked _ _ _ _, UpdBlock.answered_bad _ _ _, fun hr => ?_, fun hr => ?_, fun hr => ?_⟩ <;> rw [hr] <;>
        obtain ⟨hfailed, hloaded, haccepted⟩ := UpdBlock.answered_good s.upd p.toNat op
      · exact hloaded
      · exact haccepted
      · exact hfailed

end Sys2Proof.Machine
end

-- Activation of firmware -----------------------------------------------------------------------------------------------------------
section
/-! O57: activation, the supervisors' restart, self-test, confirmation and fallback. -/
namespace Sys2Proof.Machine

-- What the Cupboard's settings leave of the flash and of the update block

/-- Of the flash only the Cupboard has changed. -/
def CupsChange (s t : State) : Prop := ∃ c, t.flash = { s.flash with cups := c }

theorem CupsChange.of_eq {s t : State} (h : t.flash = s.flash) : CupsChange s t := ⟨s.flash.cups, h⟩

theorem CupsChange.trans {s t u : State} (h : CupsChange s t) (k : CupsChange t u) : CupsChange s u := by
  obtain ⟨c, hc⟩ := h
  obtain ⟨d, hd⟩ := k
  exact ⟨d, by rw [hd, hc]⟩

theorem CupsChange.ite {s a b : State} {c : Prop} [Decidable c] (ha : CupsChange s a) (hb : CupsChange s b) :
    CupsChange s (if c then a else b) := by split <;> assumption

theorem CupsChange.fwSlot {s t : State} (h : CupsChange s t) (i : Nat) : t.fwSlot i = s.fwSlot i := by
  obtain ⟨c, hc⟩ := h
  unfold State.fwSlot
  rw [hc]

theorem State.updCup_changes (s : State) (c : Nat) (f : CupSlot → CupSlot) : CupsChange s (s.updCup c f) := ⟨_, rfl⟩

theorem State.saveCup_changes (s : State) : CupsChange s s.saveCup := by
  unfold State.saveCup
  split
  · exact s.updCup_changes _ _
  · exact .of_eq rfl

theorem State.saveCup_upd (s : State) : s.saveCup.upd = s.upd := s.saveCup_frame .upd (by decide)

/-- What a migration leaves: the rest of the flash, every notice that waits, and all of the update block but its own outcome. -/
structure Migrated (s t : State) : Prop where
  cups   : CupsChange s t
  events : EventsStay s t
  upd    : ∃ m f, t.upd = { s.upd with migrFailed := m, fbFound := f }

theorem Migrated.updCup {s t : State} (h : Migrated s t) (c : Nat) (f : CupSlot → CupSlot) : Migrated s (t.updCup c f) :=
  ⟨h.cups.trans (t.updCup_changes c f), h.events, h.upd⟩

theorem Migrated.told {s t : State} (h : Migrated s t) (typ sev key : Nat) (payload : List Byte) (b : Nat) :
    Migrated s ((t.record typ sev key payload).raise Src.upd b) :=
  ⟨h.cups, fun e he => List.mem_append_left _ (h.events e he), h.upd⟩

theorem Migrated.outcome {s t : State} (h : Migrated s t) (m : Bool) (f : Option (Nat × Nat)) :
    Migrated s { t with upd := { t.upd with migrFailed := m, fbFound := f } } := by
  obtain ⟨hcups, hevents, m', f', hupd⟩ := h
  exact ⟨hcups, hevents, m, f, congrArg (fun u : UpdBlock => { u with migrFailed := m, fbFound := f }) hupd⟩

theorem State.saveCup_migrated (s : State) : Migrated s s.saveCup :=
  ⟨s.saveCup_changes, (s.saveCup_frame).eventsStay (by decide), s.upd.migrFailed, s.upd.fbFound, s.saveCup_upd⟩

theorem State.migrate_migrated (s : State) (old new : Nat) (fails : Bool) (schema : Nat) : Migrated s (s.migrate old new fails schema) := by
  have hsave := s.saveCup_migrated
  unfold State.migrate
  dsimp only
  generalize s.saveCup = u at hsave ⊢
  split
  · split
    · exact (((hsave.updCup _ _).updCup _ _).told _ _ _ _ _).outcome _ _
    · exact (hsave.updCup _ _).updCup _ _
  · exact hsave

theorem State.loadCup_flash (s : State) (c : Nat) : (s.loadCup c).flash = s.flash := s.loadCup_frame c .flash (by decide)

/-- Taking settings from the Cupboard changes the keys alone in the update block. -/
theorem State.loadCup_upd (s : State) (c : Nat) : ∃ k, (s.loadCup c).upd = { s.upd with keys := k } := by
  refine ⟨(s.cup c).keys, ?_⟩
  unfold State.loadCup
  extract_lets x back u
  have hback : SameBut [.mem] s u := SameBut.foldl (fun _ _ => State.updDev_frame _ _ _) (SameBut.refl _ _) back
  exact congrArg (fun b : UpdBlock => { b with keys := x.keys }) (hback .upd (by decide))

theorem State.restoreCup_changes (s : State) (new : Nat) :
    CupsChange s (s.restoreCup new) ∧ ∃ k, (s.restoreCup new).upd = { s.upd with keys := k } := by
  unfold State.restoreCup
  extract_lets u
  have hfirst : CupsChange s u ∧ u.upd = s.upd := by
    unfold u
    split
    · exact ⟨s.updCup_changes _ _, rfl⟩
    · exact ⟨.of_eq rfl, rfl⟩
  obtain ⟨hcups, hupd⟩ := hfirst
  split
  case h_1 a _ =>
    obtain ⟨k, hk⟩ := (u.updCup a fun y => { y with state := 1 }).loadCup_upd a
    exact ⟨hcups.trans ((u.updCup_changes _ _).trans (.of_eq (State.loadCup_flash _ _))), k,
      hk.trans (congrArg (fun b : UpdBlock => { b with keys := k }) hupd)⟩
  case h_2 => exact ⟨hcups, s.upd.keys, hupd⟩

-- The switch for bulk work

theorem State.setBulk_field {s : State} (h : RegsCanonical s) (on : Bool) : (s.setBulk on).field Reg.TIL_CTL 0 1 = bit on := by
  have hset : (s.setBulk on).field Reg.TIL_CTL 0 1 = bit on % 2 ^ 1 := State.field_setField_self h Reg.TIL_CTL (bit on) (by decide)
  rw [hset]
  cases on <;> rfl

theorem State.setBulk_reg_ne (s : State) (on : Bool) {a : Nat} (h : a ≠ Reg.TIL_CTL) : (s.setBulk on).reg a = s.reg a :=
  State.reg_setField_ne s 0 1 (bit on) h

-- Activation

/-- The state in which the new slot is to run, before the supervisors restart. -/
def State.activationMade (s : State) (cycles : Nat) : State :=
  let u := s.setFwSlot (1 - s.upd.runSlot) { s.fwSlot (1 - s.upd.runSlot) with state := 2 }
  { u with
    flash := { u.flash with pending := some (1 - s.upd.runSlot) }
    upd := { u.upd with
      st := .restarting, runSlot := 1 - s.upd.runSlot, lockSrc := 15, switched := u.upd.accepted
      loaded := u.upd.loaded.filter fun p => !u.upd.accepted.contains p, selftest := 0, migrFailed := false, fbFound := none
      windowEnd := u.timeAfter (cycles - u.hrt.cycles) / 2 ^ 48 + 10 ^ 9 * u.windowS, windowCyc := cycles + 1200000000 * u.windowS } }

/-- The state in which the supervisors restart after an activation, before the settings migrate. -/
def State.activationTold (s : State) (cycles : Nat) : State := ((s.activationMade cycles).beginRestart cycles).raise Src.upd 4

theorem exec_activation_due {s : State} (hdue : s.activationDue = true) (m : Bool) (v : BitVec 16) :
    exec (.activation m v) s = .next ((s.activationTold (s.hrt.cycles + s.hrt.cfg.period)).migrate s.upd.runSlot (1 - s.upd.runSlot) m
      v.toNat) :=
  congrArg Host.Outcome.next (if_pos hdue)

theorem State.activationMade_frame (s : State) (cycles : Nat) : SameBut [.upd, .flash] s (s.activationMade cycles) :=
  (SameBut.upd_flash_frame _ _ _).after (by decide) ((State.setFwSlot_frame _ _ _).mono (by decide))

theorem State.activationTold_frame (s : State) (cycles : Nat) :
    SameBut [.regs, .live, .upd, .events] (s.activationMade cycles) (s.activationTold cycles) :=
  (State.raise_frame _ _ _ _ _).after (by decide) ((State.beginRestart_frame _ _).mono (by decide))

theorem State.activationMade_fwSlot (s : State) (cycles : Nat) : (s.activationMade cycles).fwSlot (1 - s.upd.runSlot)
    = { s.fwSlot (1 - s.upd.runSlot) with state := 2 } :=
  State.fwSlot_setFwSlot_self s (1 - s.upd.runSlot) { s.fwSlot (1 - s.upd.runSlot) with state := 2 }

theorem State.beginRestart_regs (s : State) (cycles : Nat) : (s.beginRestart cycles).regs = (s.setBulk false).regs := rfl

theorem State.beginRestart_upd (s : State) (cycles : Nat) :
    ∃ c b, (s.beginRestart cycles).upd = { s.upd with restart := true, restartCyc := c, savedBulk := b } := ⟨_, _, rfl⟩

theorem State.activationTold_regs (s : State) (cycles : Nat) :
    (s.activationTold cycles).regs = ((s.activationMade cycles).setBulk false).regs :=
  (s.activationMade cycles).beginRestart_regs cycles

theorem State.activationMade_flash (s : State) (cycles : Nat) : (s.activationMade cycles).flash.pending = some (1 - s.upd.runSlot)
    ∧ (s.activationMade cycles).flash.confirmed = s.flash.confirmed ∧ (s.activationMade cycles).flash.fusedSvn = s.flash.fusedSvn := by
  unfold State.activationMade State.setFwSlot
  dsimp only
  split <;> exact ⟨rfl, rfl, rfl⟩

theorem activation_effect {s : State} (h : RegsCanonical s) (hdue : s.activationDue = true) (m : Bool) (v : BitVec 16) :
    ∃ t, exec (.activation m v) s = .next t
      ∧ t.upd.st = .restarting ∧ t.upd.restart = true ∧ t.upd.runSlot = 1 - s.upd.runSlot ∧ t.upd.lockSrc = 15
      ∧ t.upd.selftest = 0 ∧ t.flash.pending = some (1 - s.upd.runSlot) ∧ t.flash.confirmed = s.flash.confirmed
      ∧ t.flash.fusedSvn = s.flash.fusedSvn
      ∧ t.fwSlot (1 - s.upd.runSlot) = { s.fwSlot (1 - s.upd.runSlot) with state := 2 }
      ∧ t.field Reg.TIL_CTL 0 1 = 0 ∧ Notified Src.upd 4 noObj 0 t ∧ (∀ a, a ≠ Reg.TIL_CTL → t.reg a = s.reg a)
      ∧ SameBut [.att, .regs, .live, .events, .upd, .flash] s t := by
  have hexec := exec_activation_due hdue m v
  generalize s.hrt.cycles + s.hrt.cfg.period = cycles at hexec
  have hmade := s.activationMade_frame cycles
  have htold := s.activationTold_frame cycles
  have hmigrate := State.migrate_frame (s.activationTold cycles) s.upd.runSlot (1 - s.upd.runSlot) m v.toNat
  obtain ⟨hcups, hevents, mf, fb, hupd⟩ := (s.activationTold cycles).migrate_migrated s.upd.runSlot (1 - s.upd.runSlot) m v.toNat
  obtain ⟨c, b, hrestart⟩ := (s.activationMade cycles).beginRestart_upd cycles
  obtain ⟨hpending, hconfirmed, hfused⟩ := s.activationMade_flash cycles
  have hslot := hcups.fwSlot (1 - s.upd.runSlot)
  obtain ⟨cups, hflash⟩ := hcups
  have hflash' : (s.activationTold cycles).flash = (s.activationMade cycles).flash := htold .flash (by decide)
  have hregs := (hmigrate .regs (by decide)).trans (s.activationTold_regs cycles)
  have hreg : ∀ a, State.reg _ a = ((s.activationMade cycles).setBulk false).reg a := fun a => congrArg (fun t => tget regReset t a) hregs
  rw [hflash'] at hflash
  rw [show (s.activationTold cycles).upd = ((s.activationMade cycles).beginRestart cycles).upd from rfl, hrestart] at hupd
  refine ⟨_, hexec, ?_⟩
  generalize (s.activationTold cycles).migrate s.upd.runSlot (1 - s.upd.runSlot) m v.toNat = t at *
  have hmadeRegs : RegsCanonical (s.activationMade cycles) := by
    unfold RegsCanonical
    rw [show (s.activationMade cycles).regs = s.regs from hmade .regs (by decide)]
    exact h
  rw [hupd, hflash, hslot, State.fwSlot_congr hflash', s.activationMade_fwSlot]
  refine ⟨rfl, rfl, rfl, rfl, rfl, hpending, hconfirmed, hfused, rfl, ?_, hevents _ ?_, fun a ha => ?_, ?_⟩
  · exact (congrArg (bitsOf · 0 1) (hreg Reg.TIL_CTL)).trans (State.setBulk_field hmadeRegs false)
  · exact List.mem_append_right _ (List.mem_singleton.2 rfl)
  · rw [hreg, State.setBulk_reg_ne _ _ ha]
    exact hmade.reg_eq (by decide) a
  · exact hmigrate.after (by decide) (htold.after (by decide) (hmade.mono (by decide)))

-- The end of the restart

/-- What answering the requests that wait leaves: the queue of those that wait, and all of the update block but the sessions. -/
structure Answered (s t : State) : Prop where
  sessions : ∃ l, t.upd = { s.upd with sessions := l }
  waiting  : t.port.waiting = s.port.waiting
  frame    : SameBut [.port, .upd] s t

theorem Answered.refl (s : State) : Answered s s := ⟨⟨s.upd.sessions, rfl⟩, rfl, SameBut.refl _ _⟩

theorem Answered.trans {s t u : State} (h : Answered s t) (k : Answered t u) : Answered s u := by
  obtain ⟨⟨l, hl⟩, hw, hf⟩ := h
  obtain ⟨⟨l', hl'⟩, hw', hf'⟩ := k
  exact ⟨⟨l', by rw [hl', hl]⟩, hw'.trans hw, hf.trans hf'⟩

theorem State.answer_answered (s : State) (r : Reply) : Answered s (s.answer r) :=
  ⟨⟨s.upd.sessions, rfl⟩, rfl, (State.answer_frame s r).mono (by decide)⟩

theorem State.sessions_answered (s : State) (l : List Nat) : Answered s { s with upd := { s.upd with sessions := l } } :=
  ⟨⟨l, rfl⟩, rfl, (SameBut.upd_frame _ _).mono (by decide)⟩

theorem State.doeAnswer_answered (s : State) (ld : Nat) (r : DoeReq) : Answered s (s.doeAnswer ld r) := by
  cases r with
  | spdm q =>
    cases q with
    | keyExchange =>
      have heq : s.doeAnswer ld (.spdm .keyExchange) = if (s.upd.sessions.filter (· = ld)).length < 2 ∧ s.upd.sessions.length < 8
          then State.answer { s with upd := { s.upd with sessions := s.upd.sessions ++ [ld] } } (.answer (Config.spdmReply 4 ld s.flash.serial 0))
          else s.answer .refused := rfl
      rw [heq]
      split
      · exact (s.sessions_answered _).trans (State.answer_answered _ _)
      · exact s.answer_answered _
    | endSession => exact (s.sessions_answered _).trans (State.answer_answered _ _)
    | negotiate offered => exact s.answer_answered _
    | getCertificate slot => exact s.answer_answered _
    | challenge => exact s.answer_answered _
    | getMeasurement i => exact s.answer_answered _
    | unsupported => exact s.answer_answered _
  | ide io mem =>
    have heq : s.doeAnswer ld (.ide io mem) = if (ld = 0 ∨ ld = 8) ∧ s.upd.sessions.contains ld ∧ s.port.linkUp then
        { s with port := { s.port with
          ioSecure := s.port.ioSecure || io, memSecure := s.port.memSecure || mem, reply := .answer [] } } else s.answer .refused := rfl
    rw [heq]
    split
    · exact ⟨⟨s.upd.sessions, rfl⟩, rfl, (SameBut.port_frame _ _).mono (by decide)⟩
    · exact s.answer_answered _

/-- The state in which the supervisors run again. -/
def State.restarted (s : State) : State :=
  { s.setBulk s.upd.savedBulk with upd := { (s.setBulk s.upd.savedBulk).upd with restart := false } }

/-- The state in which the supervisors run again and the requests that waited have been answered. -/
def State.restartAnswered (s : State) : State :=
  s.restarted.port.waiting.foldl (fun s r => s.doeAnswer r.1 r.2) { s.restarted with port := { s.restarted.port with waiting := [] } }

theorem State.restartAnswered_shows (s : State) : (∃ l, s.restartAnswered.upd = { s.upd with restart := false, sessions := l })
    ∧ s.restartAnswered.port.waiting = [] ∧ SameBut [.port, .upd] (s.setBulk s.upd.savedBulk) s.restartAnswered := by
  have hall : ∀ (w : List (Nat × DoeReq)) (u : State), Answered u (w.foldl (fun s r => s.doeAnswer r.1 r.2) u) := by
    intro w
    induction w with
    | nil => exact fun u => .refl u
    | cons r w ih => exact fun u => (u.doeAnswer_answered r.1 r.2).trans (ih _)
  obtain ⟨⟨l, hl⟩, hw, hf⟩ := hall s.restarted.port.waiting { s.restarted with port := { s.restarted.port with waiting := [] } }
  exact ⟨⟨l, hl⟩, hw, SameBut.trans ((SameBut.port_frame _ _).after (by decide) ((SameBut.upd_frame _ _).mono (by decide))) hf⟩

theorem State.endRestart_restarting {s : State} (hrestart : s.upd.restart = true) (hfalling : s.upd.falling = false)
    (hst : s.upd.st = .restarting) :
    s.endRestart = { s.restartAnswered with upd := { s.restartAnswered.upd with st := .pending, selftest := 1 } } := by
  obtain ⟨⟨l, hl⟩, -, -⟩ := s.restartAnswered_shows
  have hfall : ¬ s.restartAnswered.upd.falling = true := by simp [hl, hfalling]
  have hst' : s.restartAnswered.upd.st = .restarting := by rw [hl]; exact hst
  exact (if_pos hrestart).trans ((if_neg hfall).trans (if_pos hst'))

/-- The state after the restart of a fallback. -/
def State.fallbackEnded (s : State) : State :=
  let u := s.setFwSlot (1 - s.upd.runSlot) { s.fwSlot (1 - s.upd.runSlot) with state := 3 }
  ({ u with upd := { u.upd with st := .idle, falling := false, bundle := none, relayed := none } }).recordFallback u.upd.fbCause
    (1 - s.upd.runSlot)

theorem State.endRestart_falling {s : State} (hrestart : s.upd.restart = true) (hfalling : s.upd.falling = true) :
    s.endRestart = s.restartAnswered.fallbackEnded := by
  obtain ⟨⟨l, hl⟩, -, -⟩ := s.restartAnswered_shows
  have hfall : s.restartAnswered.upd.falling = true := by rw [hl]; exact hfalling
  exact (if_pos hrestart).trans (if_pos hfall)

theorem restartEnd_restarting {s : State} (h : RegsCanonical s) (hrestart : s.upd.restart = true) (hfalling : s.upd.falling = false)
    (hst : s.upd.st = .restarting) : ∃ t, exec .restartEnd s = .next t
      ∧ t.upd.restart = false ∧ t.upd.st = .pending ∧ t.upd.selftest = 1 ∧ t.port.waiting = []
      ∧ t.field Reg.TIL_CTL 0 1 = (if s.upd.savedBulk then 1 else 0) ∧ t.flash = s.flash
      ∧ SameBut [.port, .regs, .live, .upd] s t := by
  have hexec : exec .restartEnd s = .next s.endRestart := rfl
  rw [State.endRestart_restarting hrestart hfalling hst] at hexec
  obtain ⟨⟨l, hl⟩, hwaiting, hframe⟩ := s.restartAnswered_shows
  have hbulk := State.setBulk_field h s.upd.savedBulk
  have hset := State.setBulk_frame s s.upd.savedBulk
  generalize s.restartAnswered = u at hexec hl hwaiting hframe
  have hreg := hframe.reg_eq (by decide) Reg.TIL_CTL
  refine ⟨_, hexec, by rw [hl], rfl, rfl, hwaiting, ?_, (hframe .flash (by decide)).trans (hset .flash (by decide)), ?_⟩
  · exact ((congrArg (bitsOf · 0 1) hreg).trans hbulk :)
  · exact (SameBut.upd_frame _ _).after (by decide) (hframe.after (by decide) (hset.mono (by decide)))

theorem State.fallbackEnded_frame (s : State) : SameBut [.att, .upd, .flash] s s.fallbackEnded :=
  (State.recordFallback_frame _ _ _).after (by decide) ((SameBut.upd_frame _ _).after (by decide)
    ((State.setFwSlot_frame _ _ _).mono (by decide)))

theorem restartEnd_falling {s : State} (hrestart : s.upd.restart = true) (hfalling : s.upd.falling = true) :
    ∃ t, exec .restartEnd s = .next t
      ∧ t.upd.restart = false ∧ t.upd.st = .idle ∧ t.upd.falling = false
      ∧ t.fwSlot (1 - s.upd.runSlot) = { s.fwSlot (1 - s.upd.runSlot) with state := 3 }
      ∧ SameBut [.port, .att, .regs, .live, .upd, .flash] s t := by
  have hexec : exec .restartEnd s = .next s.endRestart := rfl
  rw [State.endRestart_falling hrestart hfalling] at hexec
  obtain ⟨⟨l, hl⟩, -, hframe⟩ := s.restartAnswered_shows
  have hset := State.setBulk_frame s s.upd.savedBulk
  have hflash := (hframe .flash (by decide)).trans (hset .flash (by decide))
  generalize s.restartAnswered = u at hexec hl hframe hflash
  have hrun : u.upd.runSlot = s.upd.runSlot := by rw [hl]
  have hupd : (u.setFwSlot (1 - u.upd.runSlot) { u.fwSlot (1 - u.upd.runSlot) with state := 3 }).upd = u.upd :=
    State.setFwSlot_frame _ _ _ .upd (by decide)
  have hslot := u.fwSlot_setFwSlot_self (1 - u.upd.runSlot) { u.fwSlot (1 - u.upd.runSlot) with state := 3 }
  refine ⟨_, hexec, ?_, rfl, rfl, ?_, ?_⟩
  · exact (congrArg UpdBlock.restart (hupd.trans hl) :)
  · rw [← hrun, ← State.fwSlot_congr (t := u) hflash]
    exact hslot
  · exact u.fallbackEnded_frame.after (by decide) (hframe.after (by decide) (hset.mono (by decide)))

-- The self-test and the health window

theorem State.findFallback_finds {s : State} (hst : s.upd.st = .pending) (hnone : s.upd.fbFound = none) (hburn : s.flash.burnTo = none)
    (cause : Nat) : s.findFallback cause = { s with upd := { s.upd with fbFound := some (cause, s.nextTick) } } :=
  if_pos ⟨.inr hst, by rw [hnone]; rfl, by rw [hburn]; rfl⟩

/-- The state in which the self-test has failed and the Owner is told. -/
def State.selftestFailed (s : State) : State := ({ s with upd := { s.upd with selftest := 3 } }).raise Src.upd 2

theorem exec_selftestEnd_fails {s : State} (hrun : s.upd.selftest = 1) (hst : s.upd.st = .pending) (hnone : s.upd.fbFound = none)
    (hburn : s.flash.burnTo = none) : ∃ t, exec (.selftestEnd false) s = .next t
      ∧ t.upd = { s.upd with selftest := 3, fbFound := some (1, s.nextTick) } ∧ Notified Src.upd 2 noObj 0 t
      ∧ SameBut [.events, .upd] s t := by
  have hexec : exec (.selftestEnd false) s = .next (s.selftestFailed.findFallback FbCause.selftest) :=
    (if_neg (Classical.not_not.2 hrun)).trans (if_neg Bool.false_ne_true)
  have hfound := State.findFallback_finds (s := s.selftestFailed) hst hnone hburn FbCause.selftest
  exact ⟨_, hexec.trans (congrArg Host.Outcome.next hfound), rfl, List.mem_append_right _ (List.mem_singleton.2 rfl),
    (SameBut.upd_frame _ _).after (by decide) ((State.raise_frame _ _ _ _ _).after (by decide) ((SameBut.upd_frame _ _).mono (by decide)))⟩

theorem exec_healthWindowEnd_ends {s : State} (hover : s.upd.windowCyc ≤ s.hrt.cycles + s.hrt.cfg.period) (hst : s.upd.st = .pending)
    (hnone : s.upd.fbFound = none) (hburn : s.flash.burnTo = none) :
    exec .healthWindowEnd s = .next { s with upd := { s.upd with fbFound := some (2, s.nextTick) } } :=
  congrArg Host.Outcome.next ((if_pos hover).trans (State.findFallback_finds hst hnone hburn 2))

-- The fallback

/-- The state in which the old slot is to run again, before its settings are restored. -/
def State.fallbackMade (s : State) : State :=
  { s with flash := { s.flash with pending := none }, upd := { s.upd with runSlot := 1 - s.upd.runSlot, falling := true } }

theorem exec_fallbackTakeEffect_due {s : State} (hst : s.upd.st = .fallingBack) (hfalling : s.upd.falling = false)
    (hdue : s.upd.actTick ≤ s.nextTick) : exec .fallbackTakeEffect s
      = .next (((s.fallbackMade.restoreCup s.upd.runSlot).beginRestart (s.hrt.cycles + s.hrt.cfg.period)).raise Src.upd 6) :=
  congrArg Host.Outcome.next (if_pos ⟨hst, by simp [hfalling], hdue⟩)

theorem fallbackTakeEffect_effect {s : State} (h : RegsCanonical s) (hst : s.upd.st = .fallingBack) (hfalling : s.upd.falling = false)
    (hdue : s.upd.actTick ≤ s.nextTick) : ∃ t, exec .fallbackTakeEffect s = .next t
      ∧ t.upd.runSlot = 1 - s.upd.runSlot ∧ t.upd.falling = true ∧ t.upd.restart = true ∧ t.flash.pending = none
      ∧ t.flash.confirmed = s.flash.confirmed ∧ t.flash.fusedSvn = s.flash.fusedSvn ∧ t.field Reg.TIL_CTL 0 1 = 0
      ∧ Notified Src.upd 6 noObj 0 t ∧ SameBut [.regs, .live, .events, .mem, .upd, .flash] s t := by
  have hexec := exec_fallbackTakeEffect_due hst hfalling hdue
  have hmade : SameBut [.upd, .flash] s s.fallbackMade := SameBut.upd_flash_frame s _ _
  have hrestore := s.fallbackMade.restoreCup_frame s.upd.runSlot
  obtain ⟨⟨cups, hflash⟩, keys, hupd⟩ := s.fallbackMade.restoreCup_changes s.upd.runSlot
  have hcan : RegsCanonical (s.fallbackMade.restoreCup s.upd.runSlot) := by
    unfold RegsCanonical
    rw [show (s.fallbackMade.restoreCup s.upd.runSlot).regs = s.regs from (hrestore .regs (by decide)).trans (hmade .regs (by decide))]
    exact h
  generalize s.fallbackMade.restoreCup s.upd.runSlot = u at hexec hrestore hflash hupd hcan
  have hrestart := u.beginRestart_frame (s.hrt.cycles + s.hrt.cfg.period)
  have hbulk := State.setBulk_field hcan false
  have hflash' := (hrestart .flash (by decide)).trans hflash
  refine ⟨_, hexec, ?_, ?_, rfl, ?_, ?_, ?_, hbulk, List.mem_append_right _ (List.mem_singleton.2 rfl), ?_⟩
  · exact (congrArg UpdBlock.runSlot hupd :)
  · exact (congrArg UpdBlock.falling hupd :)
  · exact (congrArg Flash.pending hflash' :)
  · exact (congrArg Flash.confirmed hflash' :)
  · exact (congrArg Flash.fusedSvn hflash' :)
  · exact (State.raise_frame _ _ _ _ _).after (by decide) (hrestart.after (by decide) (hrestore.after (by decide) (hmade.mono (by decide))))

-- Confirmation

/-- The state in which the running slot is the confirmed one, before the settings follow. -/
def State.slotConfirmed (s : State) : State :=
  let u := (s.setFwSlot s.upd.runSlot { s.fwSlot s.upd.runSlot with state := 1 }).setFwSlot (1 - s.upd.runSlot)
    { s.fwSlot (1 - s.upd.runSlot) with state := 0 }
  { u with flash := { u.flash with
      confirmed := s.upd.runSlot, pending := none
      burnTo := if decide (s.flash.fusedSvn < (s.fwSlot s.upd.runSlot).svn) then some (s.fwSlot s.upd.runSlot).svn else none } }

theorem State.slotConfirmed_flash (s : State) : s.slotConfirmed.flash.confirmed = s.upd.runSlot
    ∧ s.slotConfirmed.flash.pending = none ∧ s.slotConfirmed.flash.fusedSvn = s.flash.fusedSvn
    ∧ s.slotConfirmed.flash.burnTo
      = if s.flash.fusedSvn < (s.fwSlot s.upd.runSlot).svn then some (s.fwSlot s.upd.runSlot).svn else none := by
  refine ⟨rfl, rfl, (State.setFwSlot_fusedSvn _ _ _).trans (State.setFwSlot_fusedSvn _ _ _), ?_⟩
  unfold State.slotConfirmed
  dsimp only
  simp only [decide_eq_true_eq]

/-- The PREVIOUS settings are given up. -/
def State.prevFreed (s : State) : State :=
  match s.prevCup with
  | some c => s.updCup c fun y => { y with state := 0 }
  | none => s

theorem State.prevFreed_changes (s : State) : CupsChange s s.prevFreed := by
  unfold State.prevFreed
  split
  · exact s.updCup_changes _ _
  · exact .of_eq rfl

theorem State.takeConfirm_accepts {s : State} (hst : s.upd.st = .pending) (hgood : s.upd.migrFailed = false) (htest : s.upd.selftest = 2) :
    s.takeConfirm = (({ s.slotConfirmed.prevFreed with upd := { s.slotConfirmed.prevFreed.upd with
      st := if decide (s.flash.fusedSvn < (s.fwSlot s.upd.runSlot).svn) then .pending else .idle, bundle := none, relayed := none } }).updResult
        UpdResult.done).raise Src.upd 5 :=
  (if_neg (Classical.not_not.2 hst)).trans ((if_neg (by simp [hgood])).trans (if_neg (Classical.not_not.2 htest)))

theorem State.takeConfirm_effect {s : State} (hst : s.upd.st = .pending) (hgood : s.upd.migrFailed = false) (htest : s.upd.selftest = 2) :
    s.takeConfirm.flash.confirmed = s.upd.runSlot ∧ s.takeConfirm.flash.pending = none
      ∧ s.takeConfirm.flash.fusedSvn = s.flash.fusedSvn ∧ s.takeConfirm.upd.cmdResult = 1
      ∧ (s.flash.fusedSvn < (s.fwSlot s.upd.runSlot).svn →
          s.takeConfirm.flash.burnTo = some (s.fwSlot s.upd.runSlot).svn ∧ s.takeConfirm.upd.st = .pending)
      ∧ ((s.fwSlot s.upd.runSlot).svn ≤ s.flash.fusedSvn → s.takeConfirm.flash.burnTo = none ∧ s.takeConfirm.upd.st = .idle)
      ∧ Notified Src.upd 5 noObj 0 s.takeConfirm := by
  obtain ⟨hconfirmed, hpending, hfused, hburn⟩ := s.slotConfirmed_flash
  obtain ⟨cups, hflash⟩ := s.slotConfirmed.prevFreed_changes
  have heq := State.takeConfirm_accepts hst hgood htest
  generalize s.slotConfirmed.prevFreed = u at hflash heq
  have hflash' : s.takeConfirm.flash = { s.slotConfirmed.flash with cups := cups } := by
    rw [heq]
    exact hflash
  have hst' : s.takeConfirm.upd.st = if s.flash.fusedSvn < (s.fwSlot s.upd.runSlot).svn then .pending else .idle := by
    rw [heq]
    exact ite_congr (propext decide_eq_true_iff) (fun _ => rfl) fun _ => rfl
  rw [hst', hflash']
  refine ⟨hconfirmed, hpending, hfused, by rw [heq]; rfl, fun h => ?_, fun h => ?_, ?_⟩
  · rw [if_pos h] at hburn ⊢
    exact ⟨hburn, rfl⟩
  · rw [if_neg (Nat.not_lt.2 h)] at hburn ⊢
    exact ⟨hburn, rfl⟩
  · rw [heq]
    exact List.mem_append_right _ (List.mem_singleton.2 rfl)

theorem State.burnTick_burns {s : State} {n : Nat} (h : s.flash.burnTo = some n) :
    s.burnTick.flash = { s.flash with fusedSvn := max s.flash.fusedSvn n, burnTo := none }
      ∧ s.burnTick.upd = { s.upd with st := .idle } ∧ Notified Src.upd 7 noObj 0 s.burnTick := by
  unfold State.burnTick
  rw [h]
  exact ⟨rfl, rfl, List.mem_append_right _ (List.mem_singleton.2 rfl)⟩

/-- Settles O57. -/
theorem firmwareIsActivated : Obligations.FirmwareIsActivated := by
  intro s hcan
  refine ⟨fun m v hdue => activation_effect hcan.regs hdue m v, fun m v hdue => congrArg Host.Outcome.next (if_neg (by simp [hdue])),
    restartEnd_restarting hcan.regs, restartEnd_falling, fun h => congrArg Host.Outcome.next (if_neg (by simp [h])),
    fun h => (if_neg (Classical.not_not.2 h)).trans (if_pos rfl), exec_selftestEnd_fails, fun b h => if_pos h, exec_healthWindowEnd_ends,
    fun h => congrArg Host.Outcome.next (if_neg (Nat.not_le.2 h)), fallbackTakeEffect_effect hcan.regs,
    fun h => congrArg Host.Outcome.next (if_neg ?_), State.takeConfirm_effect, fun n => State.burnTick_burns,
    fun hst hbad => (if_neg (Classical.not_not.2 hst)).trans (if_pos hbad), fun hst => if_pos hst,
    fun hst hgood htest => (if_neg (Classical.not_not.2 hst)).trans ((if_neg (by simp [hgood])).trans (if_pos htest))⟩
  rintro ⟨hst, -, hdue⟩
  rcases h with h | h
  · exact h hst
  · omega

end Sys2Proof.Machine
end

-- Register accesses ------------------------------------------------------------------------------------------------------------------
section
/-! O59 and O60: reads of registers, with what they clear and latch, and writes. -/
namespace Sys2Proof.Machine

-- Bits under a mask

theorem bitAt_eq_getLsbD (w : Word) (i : Nat) : bitAt w i = w.getLsbD i := bitAt_eq_testBit w i

theorem natBit_toNat (w : Word) (i : Nat) : natBit w.toNat i = bitAt w i := by rw [natBit_eq_testBit, bitAt_eq_testBit]

theorem bitAt_ofNat (m : Nat) {i : Nat} (hi : i < 64) : bitAt (BitVec.ofNat 64 m) i = natBit m i := by
  rw [bitAt_eq_getLsbD, natBit_eq_testBit, BitVec.getLsbD_ofNat, decide_eq_true hi, Bool.true_and]

theorem bitAt_or (x y : Word) (i : Nat) : bitAt (x ||| y) i = (bitAt x i || bitAt y i) := by
  simp only [bitAt_eq_getLsbD, BitVec.getLsbD_or]

theorem bitAt_and (x y : Word) (i : Nat) : bitAt (x &&& y) i = (bitAt x i && bitAt y i) := by
  simp only [bitAt_eq_getLsbD, BitVec.getLsbD_and]

theorem bitAt_keepBits (x : Word) (m : Nat) {i : Nat} (hi : i < 64) : bitAt (keepBits x m) i = (bitAt x i && natBit m i) := by
  rw [keepBits, bitAt_and, bitAt_ofNat m hi]

theorem bitAt_dropBits (x : Word) (m : Nat) {i : Nat} (hi : i < 64) : bitAt (dropBits x m) i = (bitAt x i && !natBit m i) := by
  rw [dropBits, bitAt_and, ← bitAt_ofNat m hi, bitAt_eq_getLsbD (~~~_), BitVec.getLsbD_not, decide_eq_true hi, Bool.true_and,
    bitAt_eq_getLsbD (BitVec.ofNat 64 m)]

/-- A bit common to two masks. -/
theorem natBit_common (m n : Nat) {i : Nat} (hi : i < 64) :
    natBit (BitVec.ofNat 64 m &&& BitVec.ofNat 64 n).toNat i = (natBit m i && natBit n i) := by
  rw [natBit_toNat, bitAt_and, bitAt_ofNat m hi, bitAt_ofNat n hi]

theorem keepBits_zero (x : Word) : keepBits x 0 = 0#64 := by simp [keepBits]

theorem dropBits_zero (x : Word) : dropBits x 0 = x := by
  have hall : ~~~(BitVec.ofNat 64 0) = BitVec.allOnes 64 := by decide
  rw [dropBits, hall, BitVec.and_allOnes]

theorem laneWrite_full (a : Nat) (v : Word) : laneWrite .full a v = v := by
  have hv := v.isLt
  refine BitVec.eq_of_toNat_eq ?_
  simp [laneWrite, lane, setBits, bitsOf, Nat.mod_eq_of_lt hv]

-- Writing what is already there

/-- Writing an entry with the value that it has changes nothing in a table of canonical form. -/
theorem tset_tget {α : Type} [DecidableEq α] {d : Nat → α} {t : List (Nat × α)} {lo : Option Nat} (h : twfFrom d lo t = true) (i : Nat) :
    tset d t i (tget d t i) = t := by
  induction t generalizing lo with
  | nil => exact if_pos rfl
  | cons e t ih =>
    obtain ⟨j, v⟩ := e
    obtain ⟨-, hv, ht⟩ := twfFrom_cons h
    unfold tset
    by_cases hlt : i < j
    · have hnone : tget d ((j, v) :: t) i = d i := by
        rw [tget, if_neg (by omega)]
        exact tget_of_keysAbove fun e he => Nat.lt_trans hlt (twfFrom_keysAbove ht e he)
      rw [if_pos hlt, hnone]
      exact if_pos rfl
    · rw [if_neg hlt]
      by_cases heq : i = j
      · subst heq
        rw [if_pos rfl, tget, if_pos rfl]
        exact if_neg hv
      · rw [if_neg heq, tget, if_neg (Ne.symm heq), ih ht]

section
variable {s : State}

theorem State.setReg_reg (h : RegsCanonical s) (a : Nat) : s.setReg a (s.reg a) = s := by
  have hregs : tset regReset s.regs a (tget regReset s.regs a) = s.regs := tset_tget (lo := none) h a
  unfold State.setReg State.reg
  rw [hregs]

-- Reads

/-- A plain read goes to a register, and to no table window or shelf. -/
theorem readAt_plain {seat o a : Nat} {w : Width} (halign : aligned w o = true) (haddr : regAddr seat o = some a)
    (hplain : plainRead a = true) (cycle : Nat) : s.readAt seat o w cycle = .next (((s.readTime a w cycle).clearRc a w).readEnd a w) := by
  simp only [plainRead, Bool.and_eq_true, Bool.or_eq_true, decide_eq_true_eq] at hplain
  have hshelf : a / 0x10000 ≠ 6 := by omega
  unfold State.readAt
  rw [halign, haddr]
  dsimp only
  rw [if_neg (by simp), if_neg (by omega), if_neg fun h => hshelf h.1, if_neg (by omega)]

theorem fracOf_ne {a f : Nat} (h : fracOf a = some f) : f ≠ a := by
  unfold fracOf at h
  split at h
  · subst_vars
    cases h
    decide
  · split at h
    · cases h
      omega
    · cases h

/-- Only the register that latches the fraction differs after a read of device time. -/
theorem State.readTime_reg {a b : Nat} (w : Width) (cycle : Nat) (h : fracOf (regOf a) ≠ some b) : (s.readTime a w cycle).reg b = s.reg b := by
  unfold State.readTime
  dsimp only
  split
  case h_1 f _ heq =>
    refine State.reg_setReg_ne _ _ fun hb => h ?_
    rw [hb]
    exact heq
  case h_2 => rfl

theorem State.readTime_returns (s : State) (a : Nat) (w : Width) (cycle : Nat) : SameBut [.regs] (s.returnReg a w cycle) (s.readTime a w cycle) := by
  unfold State.readTime
  dsimp only
  split
  · exact State.setReg_frame _ _ _
  · exact SameBut.refl _ _

theorem RegsCanonical.readTime (h : RegsCanonical s) (a : Nat) (w : Width) (cycle : Nat) : RegsCanonical (s.readTime a w cycle) := by
  unfold State.readTime
  dsimp only
  split
  · exact RegsCanonical.setReg (s := s.returnReg a _ cycle) h _ _
  · exact h

theorem State.clearRc_bit (h : RegsCanonical s) (a : Nat) (w : Width) {b : Nat} (hb : b < 64) :
    bitAt ((s.clearRc a w).reg (regOf a)) b
      = if natBit (regRow (regOf a)).rc b && natBit (laneMask w a) b then bitAt (regReset (regOf a)) b else bitAt (s.reg (regOf a)) b := by
  unfold State.clearRc
  dsimp only
  rw [State.reg_setReg_self h, bitAt_or, bitAt_dropBits _ _ hb, bitAt_keepBits _ _ hb, natBit_common _ _ hb]
  cases natBit (regRow (regOf a)).rc b && natBit (laneMask w a) b <;> simp

theorem State.clearRc_reg_ne (s : State) {a b : Nat} (w : Width) (h : b ≠ regOf a) : (s.clearRc a w).reg b = s.reg b :=
  State.reg_setReg_ne s _ h

theorem State.readEnd_frame_of (s : State) (a : Nat) (w : Width) : SameBut [.til] s (s.readEnd a w) :=
  SameBut.ite (State.updJob_frame _ _ _) (SameBut.refl _ _)

theorem State.readEnd_other {a : Nat} (h : regOf a ≠ Reg.TIL_JOB_STATUS) (w : Width) : s.readEnd a w = s := if_neg fun hend => h hend.1

/-- A full read of the status of a job that has ended is noted. -/
theorem State.readEnd_noted (hj : JobsCanonical s) {a : Nat} (h : regOf a = Reg.TIL_JOB_STATUS)
    (hended : (s.job (s.field Reg.TIL_JOB_SEL 0 8)).state = .ended) :
    ((s.readEnd a .full).job (s.field Reg.TIL_JOB_SEL 0 8)).endRead = true := by
  have hshown : laneMask .full a / 2 ^ 52 % 2 = 1 := (by decide : maskBits 0 64 / 2 ^ 52 % 2 = 1)
  have heq : s.readEnd a .full = s.updJob (s.field Reg.TIL_JOB_SEL 0 8) fun x => { x with endRead := true } :=
    if_pos ⟨h, hshown, hended⟩
  rw [heq, State.job_updJob_self hj]

/-- What every read of a register leaves. -/
theorem readOf_read (hcan : Canonical s) (a : Nat) (w : Width) (cycle : Nat) :
    ReadOf s (((s.readTime a w cycle).clearRc a w).readEnd a w) a w cycle := by
  have hreturns := s.readTime_returns a w cycle
  have htime := s.readTime_frame a w cycle
  have hclear : SameBut [.regs] (s.readTime a w cycle) ((s.readTime a w cycle).clearRc a w) := State.setReg_frame _ _ _
  have hend := ((s.readTime a w cycle).clearRc a w).readEnd_frame_of a w
  have hreg := hend.reg_eq (by decide)
  have hcanTime := RegsCanonical.readTime hcan.regs a w cycle
  have htil : ((s.readTime a w cycle).clearRc a w).til = s.til := (hclear .til (by decide)).trans (htime .til (by decide))
  have hjob : ∀ j, ((s.readTime a w cycle).clearRc a w).job j = s.job j := fun j => by
    unfold State.job
    rw [htil]
  refine ⟨?_, fun b hb => ?_, fun b hb hfrac => ?_, fun hother => ?_, fun hstatus hfull hended => ?_, ?_⟩
  · exact (hend .readData (by decide)).trans ((hclear .readData (by decide)).trans (hreturns .readData (by decide)))
  · rw [hreg, State.clearRc_bit hcanTime a w hb, State.readTime_reg w cycle fun h => fracOf_ne h rfl]
  · rw [hreg, State.clearRc_reg_ne _ w hb, State.readTime_reg w cycle hfrac]
  · rw [State.readEnd_other hother]
    exact htil
  · subst hfull
    have hsel : ((s.readTime a .full cycle).clearRc a .full).field Reg.TIL_JOB_SEL 0 8 = s.field Reg.TIL_JOB_SEL 0 8 := by
      unfold State.field
      rw [State.clearRc_reg_ne _ _ (by rw [hstatus]; decide), State.readTime_reg _ cycle (by rw [hstatus]; decide)]
    have hnoted := State.readEnd_noted (s := (s.readTime a .full cycle).clearRc a .full)
      (by unfold JobsCanonical; rw [htil]; exact hcan.jobs) hstatus (by rw [hsel, hjob]; exact hended)
    rwa [hsel] at hnoted
  · exact hend.after (by decide) (hclear.after (by decide) (htime.mono (by decide)))

/-- A full read of device time latches the fraction of its instant. -/
theorem readTime_latches (hcan : RegsCanonical s) {a : Nat} (h : regOf a = Reg.HRT_TIME_NS) (cycle : Nat) :
    ((((s.readTime a .full cycle).clearRc a .full).readEnd a .full).reg Reg.HRT_TIME_FRAC)
      = BitVec.ofNat 64 (s.timeNow cycle / 2 ^ 32 % 2 ^ 16) := by
  have heq : s.readTime a .full cycle = (s.returnReg a .full cycle).setReg Reg.HRT_TIME_FRAC
      (BitVec.ofNat 64 (s.timeNow cycle / 2 ^ 32 % 2 ^ 16)) := by
    unfold State.readTime
    rw [h]
    rfl
  rw [State.readEnd_other (by rw [h]; decide), State.clearRc_reg_ne _ _ (by rw [h]; decide), heq]
  exact State.reg_setReg_self (s := s.returnReg a .full cycle) hcan _ _

end

/-- Settles O59. -/
theorem registerReads : Obligations.RegisterReads := by
  intro s i o w hcan halign
  have hnone : ∀ cycle, regAddr i.toNat o.toNat = none → s.readAt i.toNat o.toNat w cycle = .next { s with readData := 0 } := by
    intro cycle haddr
    unfold State.readAt
    rw [halign, haddr]
    rfl
  refine ⟨fun c haddr => ⟨hnone _ haddr, hnone _ haddr⟩, fun c a haddr hplain =>
    ⟨_, readAt_plain halign haddr hplain c.toNat, readOf_read hcan a w c.toNat, fun htime hfull => ?_⟩,
    fun a haddr hplain => ⟨_, readAt_plain halign haddr hplain 0, readOf_read hcan a w 0⟩⟩
  subst hfull
  exact readTime_latches hcan.regs htime c.toNat

end Sys2Proof.Machine
end

-- Register writes --------------------------------------------------------------------------------------------------------------------
section
/-! O60: the bits that a write changes, the operations it asks for, and the writes that reach nothing. -/
namespace Sys2Proof.Machine

section
variable {s : State}

-- Stored bits

theorem State.storeReg_bit (h : RegsCanonical s) (a m : Nat) (x : Word) {b : Nat} (hb : b < 64) :
    bitAt ((s.storeReg a m x).reg a) b = if natBit (regRow a).rw b && natBit m b then bitAt x b
      else if natBit (regRow a).w1c b && bitAt x b then false else bitAt (s.reg a) b := by
  have hset : (s.storeReg a m x).reg a = _ := State.reg_setReg_self h a _
  rw [hset, bitAt_or, bitAt_dropBits _ _ hb, bitAt_dropBits _ _ hb, bitAt_keepBits _ _ hb, natBit_common _ _ hb, natBit_toNat,
    bitAt_keepBits _ _ hb]
  cases natBit (regRow a).rw b && natBit m b
  · cases bitAt x b <;> cases natBit (regRow a).w1c b <;> simp
  · simp

theorem State.storeReg_ne (s : State) {a c : Nat} (m : Nat) (x : Word) (h : c ≠ a) : (s.storeReg a m x).reg c = s.reg c :=
  State.reg_setReg_ne s _ h

/-- A register without stored bits that a host may write keeps its word. -/
theorem State.storeReg_readOnly (h : RegsCanonical s) {a : Nat} (hrw : (regRow a).rw = 0) (hw1c : (regRow a).w1c = 0) (m : Nat) (x : Word) :
    s.storeReg a m x = s := by
  have hnone : (BitVec.ofNat 64 0 &&& BitVec.ofNat 64 m).toNat = 0 := by simp
  have hzero : (0#64 : Word).toNat = 0 := rfl
  unfold State.storeReg
  dsimp only
  rw [hrw, hw1c, hnone, keepBits_zero, hzero, dropBits_zero, dropBits_zero, BitVec.or_zero, State.setReg_reg h]

-- Writes within the map

/-- A full write by the Owner seat to a register of its own map. -/
theorem exec_registerWrite_owner {a : Nat} (hlt : a < 0xA0000 ∨ (0xB0000 ≤ a ∧ a < 0x200000)) (halign : a % 8 = 0) (v : Word) :
    exec (.registerWrite 0 (BitVec.ofNat 22 a) .full v) s = s.writeReg 0 a (maskBits 0 64) v := by
  have hval : (BitVec.ofNat 22 a).toNat = a := Nat.mod_eq_of_lt (by omega)
  have hreg : regOf a = a := by
    unfold regOf
    omega
  have haddr : regAddr 0 a = some a := (if_pos rfl).trans (congrArg some (if_neg (by omega)))
  have hexec : exec (.registerWrite 0 (BitVec.ofNat 22 a) .full v) s = execRegisterWrite 0 (BitVec.ofNat 22 a) .full v s := rfl
  have hzero : (0 : BitVec 3).toNat = 0 := rfl
  rw [hexec]
  unfold execRegisterWrite
  dsimp only
  rw [hval, hzero, haddr, if_neg (by simp [aligned, halign])]
  dsimp only
  rw [if_neg (by omega), hreg, laneWrite_full]
  rfl

/-- A register with an operation alone: the write is the operation. -/
theorem writeReg_operation (h : RegsCanonical s) {a : Nat} (hrange : 0x300 ≤ a ∧ a < 0x1000000) (hrw : (regRow a).rw = 0)
    (hw1c : (regRow a).w1c = 0) (m : Nat) (x : Word) : s.writeReg 0 a m x = opWrite 0 a m x s := by
  unfold State.writeReg
  rw [if_neg (by omega), if_neg (by omega), State.storeReg_readOnly h hrw hw1c]
  exact ite_self _

-- Operations

theorem updWrite_stage {x : Word} (h : bitsOf x 0 4 = 1) : updWrite Reg.UPD_CMD x s = execStage (bitAt x 16) s := by
  simp [updWrite, h]

theorem updWrite_confirm {x : Word} (h : bitsOf x 0 4 = 4) : updWrite Reg.UPD_CMD x s = execConfirm s := by
  simp [updWrite, h]

theorem plnWrite_validate {x : Word} (h : bitsOf x 0 4 = 1) : plnWrite Reg.PLN_CMD x s = execPlanValidate s := by
  simp [plnWrite, h]

theorem plnWrite_commit {x : Word} (h : bitsOf x 0 4 = 2) : plnWrite Reg.PLN_CMD x s = execPlanCommit (bitAt x 8) s := by
  simp [plnWrite, h]

theorem attWrite_read {x : Word} (h : bitsOf x 0 4 = 1) : attWrite Reg.ATT_CMD x s = execAtticRead s := by
  simp [attWrite, h]

theorem trcWrite_descWrite {x : Word} (h : bitsOf x 0 4 = 2) : trcWrite Reg.TRC_LE_DCMD x s = execDescWrite s := by
  simp [trcWrite, h, Reg.TRC_LE_DCMD, Reg.TRC_LE_CMD]

section
variable (h : RegsCanonical s) (v : Word)
include h

theorem exec_write_UPD_CMD : exec (.registerWrite 0 (BitVec.ofNat 22 Reg.UPD_CMD) .full v) s = updWrite Reg.UPD_CMD v s :=
  (exec_registerWrite_owner (by decide) (by decide) v).trans (writeReg_operation h (by decide) (by decide) (by decide) _ v)

theorem exec_write_PLN_CMD : exec (.registerWrite 0 (BitVec.ofNat 22 Reg.PLN_CMD) .full v) s = plnWrite Reg.PLN_CMD v s :=
  (exec_registerWrite_owner (by decide) (by decide) v).trans (writeReg_operation h (by decide) (by decide) (by decide) _ v)

theorem exec_write_ATT_CMD : exec (.registerWrite 0 (BitVec.ofNat 22 Reg.ATT_CMD) .full v) s = attWrite Reg.ATT_CMD v s :=
  (exec_registerWrite_owner (by decide) (by decide) v).trans (writeReg_operation h (by decide) (by decide) (by decide) _ v)

theorem exec_write_TRC_LE_DCMD : exec (.registerWrite 0 (BitVec.ofNat 22 Reg.TRC_LE_DCMD) .full v) s = trcWrite Reg.TRC_LE_DCMD v s :=
  (exec_registerWrite_owner (by decide) (by decide) v).trans (writeReg_operation h (by decide) (by decide) (by decide) _ v)

theorem exec_write_TWN_CTL : exec (.registerWrite 0 (BitVec.ofNat 22 Reg.TWN_CTL) .full v) s
    = twnWrite 0 Reg.TWN_CTL (maskBits 0 64) v s :=
  (exec_registerWrite_owner (by decide) (by decide) v).trans (writeReg_operation h (by decide) (by decide) (by decide) _ v)

/-- Without a rejoin, a write of `TWN_CTL` is that of its side. -/
theorem exec_write_side (hop : bitsOf v 8 4 ≠ 1) :
    exec (.registerWrite 0 (BitVec.ofNat 22 Reg.TWN_CTL) .full v) s = .next (s.sideWrite 0 (bitsOf v 0 1)) := by
  rw [exec_write_TWN_CTL h v]
  exact (if_pos ⟨rfl, by decide⟩).trans (if_neg hop)

end

theorem exec_write_THM_FAULT (v : Word) :
    exec (.registerWrite 0 (BitVec.ofNat 22 Reg.THM_FAULT) .full v) s = execFaultClear (BitVec.ofNat 13 v.toNat) s := by
  rw [exec_registerWrite_owner (by decide) (by decide) v]
  unfold State.writeReg
  rw [if_neg (by decide), if_neg fun h => absurd h.1 (by decide), if_pos rfl]
  rfl

-- Writes without an operation

/-- A write of the Owner seat to a register of the `SYS_` block that is no seat's role. -/
theorem exec_registerWrite_sys {o : BitVec 22} {w : Width} (v : Word) (halign : aligned w o.toNat = true) (hlt : o.toNat < 0x10000)
    (hrole : o.toNat < 0x100 ∨ 0x300 ≤ o.toNat ∨ 8 ≤ o.toNat % 64) :
    exec (.registerWrite 0 o w v) s = .next (s.storeReg (regOf o.toNat) (laneMask w o.toNat) (laneWrite w o.toNat v)) := by
  have hexec : exec (.registerWrite 0 o w v) s = execRegisterWrite 0 o w v s := rfl
  have haddr : regAddr (0 : BitVec 3).toNat o.toNat = some o.toNat := (if_pos rfl).trans (congrArg some (if_neg (by omega)))
  have hblock : regOf o.toNat / 0x10000 = 0 := by
    unfold regOf
    omega
  have hsmall : ¬ 0x1000000 ≤ regOf o.toNat ∧ ¬ 0x100000 ≤ regOf o.toNat := by
    unfold regOf
    omega
  have hother : ¬ (0x100 ≤ regOf o.toNat ∧ regOf o.toNat < 0x300 ∧ regOf o.toNat % 64 = 0) := by
    unfold regOf
    omega
  have hfault : regOf o.toNat ≠ Reg.THM_FAULT := by
    unfold regOf Reg.THM_FAULT
    omega
  rw [hexec]
  unfold execRegisterWrite
  dsimp only
  rw [haddr, if_neg (by simp [halign])]
  dsimp only
  rw [if_neg (by omega)]
  unfold State.writeReg opWrite
  rw [if_neg hother, if_neg fun h => hsmall.1 h.1, if_neg hfault, if_neg hsmall.1, if_neg hsmall.2, hblock]
  rfl

/-- A write of another seat to its own page, past its notice configuration. -/
theorem exec_registerWrite_page {i : BitVec 3} {o : BitVec 22} (v : Word) (hi : 0 < i.toNat) (hlt : o.toNat < 0x10000)
    (halign : o.toNat % 8 = 0) (hpast : 0x50 ≤ o.toNat) : exec (.registerWrite i o .full v) s
      = .next (s.storeReg (0x1000000 + 0x10000 * i.toNat + o.toNat) (maskBits 0 64) v) := by
  have hexec : exec (.registerWrite i o .full v) s = execRegisterWrite i o .full v s := rfl
  have haddr : regAddr i.toNat o.toNat = some (0x1000000 + 0x10000 * i.toNat + o.toNat) := (if_neg (by omega)).trans (if_pos hlt)
  have hreg : regOf (0x1000000 + 0x10000 * i.toNat + o.toNat) = 0x1000000 + 0x10000 * i.toNat + o.toNat := by
    unfold regOf
    omega
  have hfault : 0x1000000 + 0x10000 * i.toNat + o.toNat ≠ Reg.THM_FAULT := by
    unfold Reg.THM_FAULT
    omega
  rw [hexec]
  unfold execRegisterWrite
  dsimp only
  rw [haddr, if_neg (by simp [aligned, halign])]
  dsimp only
  rw [if_neg (by omega), hreg, laneWrite_full]
  unfold State.writeReg opWrite seatWrite
  rw [if_neg (by omega), if_neg (by omega), if_neg hfault, if_pos (by omega), if_neg (by omega)]
  rfl

end

/-- Settles O60. -/
theorem registerWrites : Obligations.RegisterWrites := by
  intro s hcan
  have hregs := hcan.regs
  refine ⟨fun a m x b hb => State.storeReg_bit hregs a m x hb, fun a m x c hc => s.storeReg_ne m x hc,
    fun i o w v halign hnone => ?_, fun o w v halign hlt hrole => exec_registerWrite_sys v halign hlt hrole,
    fun i o v hi hlt halign hpast => exec_registerWrite_page v hi hlt halign hpast, fun v => ⟨fun h => ?_, fun h => ?_, fun h => ?_,
      fun h => ?_, fun h => ?_, fun h => ?_, exec_write_THM_FAULT v⟩, fun v hpending hop => ?_, fun v hpending hop => ?_⟩
  · have hexec : exec (.registerWrite i o w v) s = execRegisterWrite i o w v s := rfl
    rw [hexec]
    unfold execRegisterWrite
    dsimp only
    rw [halign, hnone]
    rfl
  · exact (exec_write_UPD_CMD hregs v).trans (updWrite_stage h)
  · exact (exec_write_UPD_CMD hregs v).trans (updWrite_confirm h)
  · exact (exec_write_PLN_CMD hregs v).trans (plnWrite_validate h)
  · exact (exec_write_PLN_CMD hregs v).trans (plnWrite_commit h)
  · exact (exec_write_ATT_CMD hregs v).trans (attWrite_read h)
  · exact (exec_write_TRC_LE_DCMD hregs v).trans (trcWrite_descWrite h)
  · have hside : s.sideWrite 0 (bitsOf v 0 1) = s.seatEvt 0 2 := if_pos hpending
    have hframe := State.seatEvt_frame s 0 2
    have hset : (s.seatEvt 0 2).reg (Reg.SEAT_EVT 0) = setBits (s.reg (Reg.SEAT_EVT 0)) 2 1 1 := State.reg_setReg_self hregs _ _
    refine ⟨_, (exec_write_side hregs v hop).trans (congrArg Host.Outcome.next hside), hframe .staged (by decide),
      hframe .twn (by decide), ?_, hframe⟩
    rw [hset]
    exact bitAt_setBits_one _ (by decide)
  · have hside : s.sideWrite 0 (bitsOf v 0 1) = { s with staged := if bitsOf v 0 1 = s.twn.side then none else some (bitsOf v 0 1) } :=
      if_neg (by simp [hpending])
    exact ⟨_, (exec_write_side hregs v hop).trans (congrArg Host.Outcome.next hside), rfl, rfl, fun a => rfl,
      (SameBut.staged_frame s _).mono (by decide)⟩

end Sys2Proof.Machine
end

-- What keeps the tables canonical ------------------------------------------------------------------------------------------------
section
/-! O3: the tables of the state, and what a change of one part of the state leaves of them. Every table is written through `tset`, `tupd`,
`tmap` or `tsetList`, or loses entries, and each of these keeps its canonical form. -/
namespace Sys2Proof.Machine

/-- A numbered table of the state, or the addressed RAM. -/
inductive Table where
  | regs | ram | seats | loops | porches | cages | lanes | cals | shelves | tiles | jobs | devs | zeroing | occasions | paths | service
  | reflexes | tapNow | inputs | channels | patches | dies | loads

/-- The table is in its canonical form. -/
def Table.ok : Table → State → Prop
  | .regs, s => twf regReset s.regs = true
  | .ram, s => Memory.wf s.ram = true
  | .seats, s => twf (fun _ => ({} : Seat)) s.seats = true
  | .loops, s => twf (fun _ => ({} : Loop)) s.loops = true
  | .porches, s => twf (fun _ => ({} : Porch)) s.porches = true
  | .cages, s => twf (fun _ => ({} : Cage)) s.cages = true
  | .lanes, s => twf (fun _ => ({} : Lane)) s.lanes = true
  | .cals, s => twf (fun _ => ({} : CalRun)) s.cals = true
  | .shelves, s => twf (fun _ => ({} : Shelf)) s.shelves = true
  | .tiles, s => twf (fun _ => ({} : Tile)) s.til.tiles = true
  | .jobs, s => twf (fun _ => ({} : Job)) s.til.jobs = true
  | .devs, s => twf (fun _ => ({} : Gddr7)) s.mem.devs = true
  | .zeroing, s => twf (fun _ => 0) s.mem.zeroing = true
  | .occasions, s => twf (fun _ => 0) s.mem.occasions = true
  | .paths, s => twf (fun _ => ({} : PathRec)) s.mov.paths = true
  | .service, s => twf (fun _ => ({} : Service)) s.mov.service = true
  | .reflexes, s => twf (fun _ => ({} : Reflex)) s.mov.reflexes = true
  | .tapNow, s => twf (fun _ => ({} : TapReading)) s.mov.tapNow = true
  | .inputs, s => twf (fun _ => ({} : SpInput)) s.eng.inputs = true
  | .channels, s => twf (fun _ => ({} : Channel)) s.eng.channels = true
  | .patches, s => twf (fun _ => ({} : Patch)) s.est.patches = true
  | .dies, s => twf (fun _ => ({} : Die)) s.thm.dies = true
  | .loads, s => twf (fun _ => ({} : TableLoad)) s.plan.loads = true

theorem canonical_iff (s : State) : Canonical s ↔ ∀ k : Table, k.ok s := by
  constructor
  · intro h k
    cases k with
    | regs => exact h.regs
    | ram => exact h.ram
    | seats => exact h.seats
    | loops => exact h.loops
    | porches => exact h.porches
    | cages => exact h.cages
    | lanes => exact h.lanes
    | cals => exact h.cals
    | shelves => exact h.shelves
    | tiles => exact h.tiles
    | jobs => exact h.jobs
    | devs => exact h.devs
    | zeroing => exact h.zeroing
    | occasions => exact h.occasions
    | paths => exact h.paths
    | service => exact h.service
    | reflexes => exact h.reflexes
    | tapNow => exact h.tapNow
    | inputs => exact h.inputs
    | channels => exact h.channels
    | patches => exact h.patches
    | dies => exact h.dies
    | loads => exact h.loads
  · exact fun h => ⟨h .regs, h .ram, h .seats, h .loops, h .porches, h .cages, h .lanes, h .cals, h .shelves, h .tiles, h .jobs, h .devs,
      h .zeroing, h .occasions, h .paths, h .service, h .reflexes, h .tapNow, h .inputs, h .channels, h .patches, h .dies, h .loads⟩

/-- The part of the state that holds a table. -/
def Table.part : Table → Part
  | .regs => .regs
  | .ram => .ram
  | .seats => .seats
  | .loops => .loops
  | .porches => .porches
  | .cages => .cages
  | .lanes => .lanes
  | .cals => .cals
  | .shelves => .shelves
  | .tiles | .jobs => .til
  | .devs | .zeroing | .occasions => .mem
  | .paths | .service | .reflexes | .tapNow => .mov
  | .inputs | .channels => .eng
  | .patches => .est
  | .dies => .thm
  | .loads => .plan

/-- The parts of the state that hold no table. -/
def Part.tableless (p : Part) : Bool :=
  !([.regs, .ram, .seats, .loops, .porches, .cages, .lanes, .cals, .shelves, .til, .mem, .mov, .eng, .est, .thm, .plan] : List Part).contains p

theorem Table.part_not_tableless (k : Table) : k.part.tableless = false := by cases k <;> rfl

theorem Table.ok_congr {s t : State} (k : Table) (h : k.part.same s t) : k.ok s → k.ok t := by
  cases k <;> (simp only [Table.part, Part.same] at h; simp only [Table.ok, h]; exact id)

/-- Every table that is canonical in the first state is so in the second. -/
def TablesKept (s t : State) : Prop := ∀ k : Table, k.ok s → k.ok t

section
variable {s₀ s t : State}

theorem TablesKept.refl (s : State) : TablesKept s s := fun _ => id

theorem TablesKept.trans (h : TablesKept s₀ s) (k : TablesKept s t) : TablesKept s₀ t := fun x hx => k x (h x hx)

theorem SameBut.tables {l : List Part} (h : SameBut l s t) (hl : l.all Part.tableless = true) : TablesKept s t := by
  refine fun k => k.ok_congr (h k.part fun hk => ?_)
  have hnot := List.all_eq_true.1 hl _ hk
  rw [k.part_not_tableless] at hnot
  cases hnot

/-- A change of parts without tables. -/
theorem TablesKept.same {l : List Part} (h : TablesKept s₀ s) (k : SameBut l s t) (hl : l.all Part.tableless = true) : TablesKept s₀ t :=
  h.trans (k.tables hl)

theorem Frames.tables {l : List Part} {o : Host.Outcome State Fault Refusal} (k : Frames l s o) (h : TablesKept s₀ s)
    (hl : l.all Part.tableless = true) : After TablesKept s₀ o := fun t ht => h.same (k t ht) hl

theorem TablesKept.ite {a b : State} {c : Prop} [Decidable c] (ha : TablesKept s₀ a) (hb : TablesKept s₀ b) :
    TablesKept s₀ (if c then a else b) := by split <;> assumption

theorem TablesKept.foldl {β : Type} {f : State → β → State} {l : List β} (hf : ∀ u x, TablesKept s₀ u → TablesKept s₀ (f u x))
    (h : TablesKept s₀ s) : TablesKept s₀ (l.foldl f s) := by
  induction l generalizing s with
  | nil => exact h
  | cons x l ih => exact ih (hf s x h)

theorem TablesKept.each {f : Nat → State → State} {l : List Nat} (hf : ∀ i u, TablesKept s₀ u → TablesKept s₀ (f i u))
    (h : TablesKept s₀ s) : TablesKept s₀ (State.each l f s) := TablesKept.foldl (fun u i => hf i u) h

-- A part of the state is replaced

theorem TablesKept.withAtt {xatt} (h : TablesKept s₀ s) : TablesKept s₀ { s with att := xatt } :=
  h.same (SameBut.att_frame _ _) (by decide)

theorem TablesKept.withBoot {xboot} (h : TablesKept s₀ s) : TablesKept s₀ { s with boot := xboot } :=
  h.same (SameBut.boot_frame _ _) (by decide)

theorem TablesKept.withCages {xcages} (h : TablesKept s₀ s)
    (hcages : twf (fun _ => ({} : Cage)) s.cages = true → twf (fun _ => ({} : Cage)) xcages = true)
    : TablesKept s₀ { s with cages := xcages } := by
  intro k hk
  cases k with
  | cages => exact hcages (h _ hk)
  | _ => exact h _ hk

theorem TablesKept.withCals {xcals} (h : TablesKept s₀ s)
    (hcals : twf (fun _ => ({} : CalRun)) s.cals = true → twf (fun _ => ({} : CalRun)) xcals = true)
    : TablesKept s₀ { s with cals := xcals } := by
  intro k hk
  cases k with
  | cals => exact hcals (h _ hk)
  | _ => exact h _ hk

theorem TablesKept.withEng {xeng} (h : TablesKept s₀ s)
    (hinputs : twf (fun _ => ({} : SpInput)) s.eng.inputs = true → twf (fun _ => ({} : SpInput)) xeng.inputs = true)
    (hchannels : twf (fun _ => ({} : Channel)) s.eng.channels = true → twf (fun _ => ({} : Channel)) xeng.channels = true)
    : TablesKept s₀ { s with eng := xeng } := by
  intro k hk
  cases k with
  | inputs => exact hinputs (h _ hk)
  | channels => exact hchannels (h _ hk)
  | _ => exact h _ hk

theorem TablesKept.withEst {xest} (h : TablesKept s₀ s)
    (hpatches : twf (fun _ => ({} : Patch)) s.est.patches = true → twf (fun _ => ({} : Patch)) xest.patches = true)
    : TablesKept s₀ { s with est := xest } := by
  intro k hk
  cases k with
  | patches => exact hpatches (h _ hk)
  | _ => exact h _ hk

theorem TablesKept.withHrt {xhrt} (h : TablesKept s₀ s) : TablesKept s₀ { s with hrt := xhrt } :=
  h.same (SameBut.hrt_frame _ _) (by decide)

theorem TablesKept.withLanes {xlanes} (h : TablesKept s₀ s)
    (hlanes : twf (fun _ => ({} : Lane)) s.lanes = true → twf (fun _ => ({} : Lane)) xlanes = true)
    : TablesKept s₀ { s with lanes := xlanes } := by
  intro k hk
  cases k with
  | lanes => exact hlanes (h _ hk)
  | _ => exact h _ hk

theorem TablesKept.withLater {xlater} (h : TablesKept s₀ s) : TablesKept s₀ { s with later := xlater } :=
  h.same (SameBut.later_frame _ _) (by decide)

theorem TablesKept.withLive {xlive} (h : TablesKept s₀ s) : TablesKept s₀ { s with live := xlive } :=
  h.same (SameBut.live_frame _ _) (by decide)

theorem TablesKept.withLoops {xloops} (h : TablesKept s₀ s)
    (hloops : twf (fun _ => ({} : Loop)) s.loops = true → twf (fun _ => ({} : Loop)) xloops = true)
    : TablesKept s₀ { s with loops := xloops } := by
  intro k hk
  cases k with
  | loops => exact hloops (h _ hk)
  | _ => exact h _ hk

theorem TablesKept.withMem {xmem} (h : TablesKept s₀ s)
    (hdevs : twf (fun _ => ({} : Gddr7)) s.mem.devs = true → twf (fun _ => ({} : Gddr7)) xmem.devs = true)
    (hzeroing : twf (fun _ => 0) s.mem.zeroing = true → twf (fun _ => 0) xmem.zeroing = true)
    (hoccasions : twf (fun _ => 0) s.mem.occasions = true → twf (fun _ => 0) xmem.occasions = true)
    : TablesKept s₀ { s with mem := xmem } := by
  intro k hk
  cases k with
  | devs => exact hdevs (h _ hk)
  | zeroing => exact hzeroing (h _ hk)
  | occasions => exact hoccasions (h _ hk)
  | _ => exact h _ hk

theorem TablesKept.withMov {xmov} (h : TablesKept s₀ s)
    (hpaths : twf (fun _ => ({} : PathRec)) s.mov.paths = true → twf (fun _ => ({} : PathRec)) xmov.paths = true)
    (hservice : twf (fun _ => ({} : Service)) s.mov.service = true → twf (fun _ => ({} : Service)) xmov.service = true)
    (hreflexes : twf (fun _ => ({} : Reflex)) s.mov.reflexes = true → twf (fun _ => ({} : Reflex)) xmov.reflexes = true)
    (htapNow : twf (fun _ => ({} : TapReading)) s.mov.tapNow = true → twf (fun _ => ({} : TapReading)) xmov.tapNow = true)
    : TablesKept s₀ { s with mov := xmov } := by
  intro k hk
  cases k with
  | paths => exact hpaths (h _ hk)
  | service => exact hservice (h _ hk)
  | reflexes => exact hreflexes (h _ hk)
  | tapNow => exact htapNow (h _ hk)
  | _ => exact h _ hk

theorem TablesKept.withOps {xops} (h : TablesKept s₀ s) : TablesKept s₀ { s with ops := xops } :=
  h.same (SameBut.ops_frame _ _) (by decide)

theorem TablesKept.withPantryRetired {xpantryRetired} (h : TablesKept s₀ s) : TablesKept s₀ { s with pantryRetired := xpantryRetired } :=
  h.same (SameBut.pantryRetired_frame _ _) (by decide)

theorem TablesKept.withPins {xpins} (h : TablesKept s₀ s) : TablesKept s₀ { s with pins := xpins } :=
  h.same (SameBut.pins_frame _ _) (by decide)

theorem TablesKept.withPlan {xplan} (h : TablesKept s₀ s)
    (hloads : twf (fun _ => ({} : TableLoad)) s.plan.loads = true → twf (fun _ => ({} : TableLoad)) xplan.loads = true)
    : TablesKept s₀ { s with plan := xplan } := by
  intro k hk
  cases k with
  | loads => exact hloads (h _ hk)
  | _ => exact h _ hk

theorem TablesKept.withPorches {xporches} (h : TablesKept s₀ s)
    (hporches : twf (fun _ => ({} : Porch)) s.porches = true → twf (fun _ => ({} : Porch)) xporches = true)
    : TablesKept s₀ { s with porches := xporches } := by
  intro k hk
  cases k with
  | porches => exact hporches (h _ hk)
  | _ => exact h _ hk

theorem TablesKept.withPort {xport} (h : TablesKept s₀ s) : TablesKept s₀ { s with port := xport } :=
  h.same (SameBut.port_frame _ _) (by decide)

theorem TablesKept.withRam {xram} (h : TablesKept s₀ s)
    (hram : Memory.wf s.ram = true → Memory.wf xram = true)
    : TablesKept s₀ { s with ram := xram } := by
  intro k hk
  cases k with
  | ram => exact hram (h _ hk)
  | _ => exact h _ hk

theorem TablesKept.withReadData {xreadData} (h : TablesKept s₀ s) : TablesKept s₀ { s with readData := xreadData } :=
  h.same (SameBut.readData_frame _ _) (by decide)

theorem TablesKept.withRegs {xregs} (h : TablesKept s₀ s)
    (hregs : twf regReset s.regs = true → twf regReset xregs = true)
    : TablesKept s₀ { s with regs := xregs } := by
  intro k hk
  cases k with
  | regs => exact hregs (h _ hk)
  | _ => exact h _ hk

theorem TablesKept.withSeats {xseats} (h : TablesKept s₀ s)
    (hseats : twf (fun _ => ({} : Seat)) s.seats = true → twf (fun _ => ({} : Seat)) xseats = true)
    : TablesKept s₀ { s with seats := xseats } := by
  intro k hk
  cases k with
  | seats => exact hseats (h _ hk)
  | _ => exact h _ hk

theorem TablesKept.withShelves {xshelves} (h : TablesKept s₀ s)
    (hshelves : twf (fun _ => ({} : Shelf)) s.shelves = true → twf (fun _ => ({} : Shelf)) xshelves = true)
    : TablesKept s₀ { s with shelves := xshelves } := by
  intro k hk
  cases k with
  | shelves => exact hshelves (h _ hk)
  | _ => exact h _ hk

theorem TablesKept.withStaged {xstaged} (h : TablesKept s₀ s) : TablesKept s₀ { s with staged := xstaged } :=
  h.same (SameBut.staged_frame _ _) (by decide)

theorem TablesKept.withTaken {xtaken} (h : TablesKept s₀ s) : TablesKept s₀ { s with taken := xtaken } :=
  h.same (SameBut.taken_frame _ _) (by decide)

theorem TablesKept.withThm {xthm} (h : TablesKept s₀ s)
    (hdies : twf (fun _ => ({} : Die)) s.thm.dies = true → twf (fun _ => ({} : Die)) xthm.dies = true)
    : TablesKept s₀ { s with thm := xthm } := by
  intro k hk
  cases k with
  | dies => exact hdies (h _ hk)
  | _ => exact h _ hk

theorem TablesKept.withTil {xtil} (h : TablesKept s₀ s)
    (htiles : twf (fun _ => ({} : Tile)) s.til.tiles = true → twf (fun _ => ({} : Tile)) xtil.tiles = true)
    (hjobs : twf (fun _ => ({} : Job)) s.til.jobs = true → twf (fun _ => ({} : Job)) xtil.jobs = true)
    : TablesKept s₀ { s with til := xtil } := by
  intro k hk
  cases k with
  | tiles => exact htiles (h _ hk)
  | jobs => exact hjobs (h _ hk)
  | _ => exact h _ hk

theorem TablesKept.withTwn {xtwn} (h : TablesKept s₀ s) : TablesKept s₀ { s with twn := xtwn } :=
  h.same (SameBut.twn_frame _ _) (by decide)

theorem TablesKept.withUpd {xupd} (h : TablesKept s₀ s) : TablesKept s₀ { s with upd := xupd } :=
  h.same (SameBut.upd_frame _ _) (by decide)

theorem TablesKept.withAttPlan {xatt} {xplan} (h : TablesKept s₀ s)
    (hloads : twf (fun _ => ({} : TableLoad)) s.plan.loads = true → twf (fun _ => ({} : TableLoad)) xplan.loads = true)
    : TablesKept s₀ { s with att := xatt, plan := xplan } := by
  intro k hk
  cases k with
  | loads => exact hloads (h _ hk)
  | _ => exact h _ hk

theorem TablesKept.withAttUpd {xatt} {xupd} (h : TablesKept s₀ s) : TablesKept s₀ { s with att := xatt, upd := xupd } :=
  h.same (SameBut.att_upd_frame _ _ _) (by decide)

theorem TablesKept.withBootAtt {xboot} {xatt} (h : TablesKept s₀ s) : TablesKept s₀ { s with boot := xboot, att := xatt } :=
  h.same (SameBut.boot_att_frame _ _ _) (by decide)

theorem TablesKept.withBootThm {xboot} {xthm} (h : TablesKept s₀ s)
    (hdies : twf (fun _ => ({} : Die)) s.thm.dies = true → twf (fun _ => ({} : Die)) xthm.dies = true)
    : TablesKept s₀ { s with boot := xboot, thm := xthm } := by
  intro k hk
  cases k with
  | dies => exact hdies (h _ hk)
  | _ => exact h _ hk

theorem TablesKept.withEstFree {xest} {xfree} (h : TablesKept s₀ s)
    (hpatches : twf (fun _ => ({} : Patch)) s.est.patches = true → twf (fun _ => ({} : Patch)) xest.patches = true)
    : TablesKept s₀ { s with est := xest, free := xfree } := by
  intro k hk
  cases k with
  | patches => exact hpatches (h _ hk)
  | _ => exact h _ hk

theorem TablesKept.withHrtPorches {xhrt} {xporches} (h : TablesKept s₀ s)
    (hporches : twf (fun _ => ({} : Porch)) s.porches = true → twf (fun _ => ({} : Porch)) xporches = true)
    : TablesKept s₀ { s with hrt := xhrt, porches := xporches } := by
  intro k hk
  cases k with
  | porches => exact hporches (h _ hk)
  | _ => exact h _ hk

theorem TablesKept.withLoopsPorches {xloops} {xporches} (h : TablesKept s₀ s)
    (hloops : twf (fun _ => ({} : Loop)) s.loops = true → twf (fun _ => ({} : Loop)) xloops = true)
    (hporches : twf (fun _ => ({} : Porch)) s.porches = true → twf (fun _ => ({} : Porch)) xporches = true)
    : TablesKept s₀ { s with loops := xloops, porches := xporches } := by
  intro k hk
  cases k with
  | loops => exact hloops (h _ hk)
  | porches => exact hporches (h _ hk)
  | _ => exact h _ hk

theorem TablesKept.withMemUpd {xmem} {xupd} (h : TablesKept s₀ s)
    (hdevs : twf (fun _ => ({} : Gddr7)) s.mem.devs = true → twf (fun _ => ({} : Gddr7)) xmem.devs = true)
    (hzeroing : twf (fun _ => 0) s.mem.zeroing = true → twf (fun _ => 0) xmem.zeroing = true)
    (hoccasions : twf (fun _ => 0) s.mem.occasions = true → twf (fun _ => 0) xmem.occasions = true)
    : TablesKept s₀ { s with mem := xmem, upd := xupd } := by
  intro k hk
  cases k with
  | devs => exact hdevs (h _ hk)
  | zeroing => exact hzeroing (h _ hk)
  | occasions => exact hoccasions (h _ hk)
  | _ => exact h _ hk

theorem TablesKept.withPinsBoot {xpins} {xboot} (h : TablesKept s₀ s) : TablesKept s₀ { s with pins := xpins, boot := xboot } :=
  h.same (SameBut.pins_boot_frame _ _ _) (by decide)

theorem TablesKept.withPlanEst {xplan} {xest} (h : TablesKept s₀ s)
    (hloads : twf (fun _ => ({} : TableLoad)) s.plan.loads = true → twf (fun _ => ({} : TableLoad)) xplan.loads = true)
    (hpatches : twf (fun _ => ({} : Patch)) s.est.patches = true → twf (fun _ => ({} : Patch)) xest.patches = true)
    : TablesKept s₀ { s with plan := xplan, est := xest } := by
  intro k hk
  cases k with
  | loads => exact hloads (h _ hk)
  | patches => exact hpatches (h _ hk)
  | _ => exact h _ hk

theorem TablesKept.withPlanMov {xplan} {xmov} (h : TablesKept s₀ s)
    (hloads : twf (fun _ => ({} : TableLoad)) s.plan.loads = true → twf (fun _ => ({} : TableLoad)) xplan.loads = true)
    (hpaths : twf (fun _ => ({} : PathRec)) s.mov.paths = true → twf (fun _ => ({} : PathRec)) xmov.paths = true)
    (hservice : twf (fun _ => ({} : Service)) s.mov.service = true → twf (fun _ => ({} : Service)) xmov.service = true)
    (hreflexes : twf (fun _ => ({} : Reflex)) s.mov.reflexes = true → twf (fun _ => ({} : Reflex)) xmov.reflexes = true)
    (htapNow : twf (fun _ => ({} : TapReading)) s.mov.tapNow = true → twf (fun _ => ({} : TapReading)) xmov.tapNow = true)
    : TablesKept s₀ { s with plan := xplan, mov := xmov } := by
  intro k hk
  cases k with
  | loads => exact hloads (h _ hk)
  | paths => exact hpaths (h _ hk)
  | service => exact hservice (h _ hk)
  | reflexes => exact hreflexes (h _ hk)
  | tapNow => exact htapNow (h _ hk)
  | _ => exact h _ hk

theorem TablesKept.withPlanUpd {xplan} {xupd} (h : TablesKept s₀ s)
    (hloads : twf (fun _ => ({} : TableLoad)) s.plan.loads = true → twf (fun _ => ({} : TableLoad)) xplan.loads = true)
    : TablesKept s₀ { s with plan := xplan, upd := xupd } := by
  intro k hk
  cases k with
  | loads => exact hloads (h _ hk)
  | _ => exact h _ hk

theorem TablesKept.withRegsLive {xregs} {xlive} (h : TablesKept s₀ s)
    (hregs : twf regReset s.regs = true → twf regReset xregs = true)
    : TablesKept s₀ { s with regs := xregs, live := xlive } := by
  intro k hk
  cases k with
  | regs => exact hregs (h _ hk)
  | _ => exact h _ hk

theorem TablesKept.withUpdFlash {xupd} {xflash} (h : TablesKept s₀ s) : TablesKept s₀ { s with upd := xupd, flash := xflash } :=
  h.same (SameBut.upd_flash_frame _ _ _) (by decide)

theorem TablesKept.withEstCalsTwn {xest} {xcals} {xtwn} (h : TablesKept s₀ s)
    (hpatches : twf (fun _ => ({} : Patch)) s.est.patches = true → twf (fun _ => ({} : Patch)) xest.patches = true)
    (hcals : twf (fun _ => ({} : CalRun)) s.cals = true → twf (fun _ => ({} : CalRun)) xcals = true)
    : TablesKept s₀ { s with est := xest, cals := xcals, twn := xtwn } := by
  intro k hk
  cases k with
  | patches => exact hpatches (h _ hk)
  | cals => exact hcals (h _ hk)
  | _ => exact h _ hk

theorem TablesKept.withHrtLoopsEng {xhrt} {xloops} {xeng} (h : TablesKept s₀ s)
    (hloops : twf (fun _ => ({} : Loop)) s.loops = true → twf (fun _ => ({} : Loop)) xloops = true)
    (hinputs : twf (fun _ => ({} : SpInput)) s.eng.inputs = true → twf (fun _ => ({} : SpInput)) xeng.inputs = true)
    (hchannels : twf (fun _ => ({} : Channel)) s.eng.channels = true → twf (fun _ => ({} : Channel)) xeng.channels = true)
    : TablesKept s₀ { s with hrt := xhrt, loops := xloops, eng := xeng } := by
  intro k hk
  cases k with
  | loops => exact hloops (h _ hk)
  | inputs => exact hinputs (h _ hk)
  | channels => exact hchannels (h _ hk)
  | _ => exact h _ hk

theorem TablesKept.withPlanMovEst {xplan} {xmov} {xest} (h : TablesKept s₀ s)
    (hloads : twf (fun _ => ({} : TableLoad)) s.plan.loads = true → twf (fun _ => ({} : TableLoad)) xplan.loads = true)
    (hpaths : twf (fun _ => ({} : PathRec)) s.mov.paths = true → twf (fun _ => ({} : PathRec)) xmov.paths = true)
    (hservice : twf (fun _ => ({} : Service)) s.mov.service = true → twf (fun _ => ({} : Service)) xmov.service = true)
    (hreflexes : twf (fun _ => ({} : Reflex)) s.mov.reflexes = true → twf (fun _ => ({} : Reflex)) xmov.reflexes = true)
    (htapNow : twf (fun _ => ({} : TapReading)) s.mov.tapNow = true → twf (fun _ => ({} : TapReading)) xmov.tapNow = true)
    (hpatches : twf (fun _ => ({} : Patch)) s.est.patches = true → twf (fun _ => ({} : Patch)) xest.patches = true)
    : TablesKept s₀ { s with plan := xplan, mov := xmov, est := xest } := by
  intro k hk
  cases k with
  | loads => exact hloads (h _ hk)
  | paths => exact hpaths (h _ hk)
  | service => exact hservice (h _ hk)
  | reflexes => exact hreflexes (h _ hk)
  | tapNow => exact htapNow (h _ hk)
  | patches => exact hpatches (h _ hk)
  | _ => exact h _ hk

theorem TablesKept.withPortEventsLater {xport} {xevents} {xlater} (h : TablesKept s₀ s)
    : TablesKept s₀ { s with port := xport, events := xevents, later := xlater } :=
  h.same (SameBut.port_events_later_frame _ _ _ _) (by decide)

theorem TablesKept.withHrtPlanTwnMem {xhrt} {xplan} {xtwn} {xmem} (h : TablesKept s₀ s)
    (hloads : twf (fun _ => ({} : TableLoad)) s.plan.loads = true → twf (fun _ => ({} : TableLoad)) xplan.loads = true)
    (hdevs : twf (fun _ => ({} : Gddr7)) s.mem.devs = true → twf (fun _ => ({} : Gddr7)) xmem.devs = true)
    (hzeroing : twf (fun _ => 0) s.mem.zeroing = true → twf (fun _ => 0) xmem.zeroing = true)
    (hoccasions : twf (fun _ => 0) s.mem.occasions = true → twf (fun _ => 0) xmem.occasions = true)
    : TablesKept s₀ { s with hrt := xhrt, plan := xplan, twn := xtwn, mem := xmem } := by
  intro k hk
  cases k with
  | loads => exact hloads (h _ hk)
  | devs => exact hdevs (h _ hk)
  | zeroing => exact hzeroing (h _ hk)
  | occasions => exact hoccasions (h _ hk)
  | _ => exact h _ hk

theorem TablesKept.withTakenPortMovUpd {xtaken} {xport} {xmov} {xupd} (h : TablesKept s₀ s)
    (hpaths : twf (fun _ => ({} : PathRec)) s.mov.paths = true → twf (fun _ => ({} : PathRec)) xmov.paths = true)
    (hservice : twf (fun _ => ({} : Service)) s.mov.service = true → twf (fun _ => ({} : Service)) xmov.service = true)
    (hreflexes : twf (fun _ => ({} : Reflex)) s.mov.reflexes = true → twf (fun _ => ({} : Reflex)) xmov.reflexes = true)
    (htapNow : twf (fun _ => ({} : TapReading)) s.mov.tapNow = true → twf (fun _ => ({} : TapReading)) xmov.tapNow = true)
    : TablesKept s₀ { s with taken := xtaken, port := xport, mov := xmov, upd := xupd } := by
  intro k hk
  cases k with
  | paths => exact hpaths (h _ hk)
  | service => exact hservice (h _ hk)
  | reflexes => exact hreflexes (h _ hk)
  | tapNow => exact htapNow (h _ hk)
  | _ => exact h _ hk

-- Definitions that reach no table

theorem TablesKept.raiseTo {seats : List Nat} {src b : Nat} {obj : Nat} {arg : Nat} (h : TablesKept s₀ s)
    : TablesKept s₀ (s.raiseTo seats src b obj arg) :=
  h.same (State.raiseTo_frame _ _ _ _ _ _) (by decide)

theorem TablesKept.raise {src b : Nat} {obj : Nat} {arg : Nat} (h : TablesKept s₀ s) : TablesKept s₀ (s.raise src b obj arg) :=
  h.same (State.raise_frame _ _ _ _ _) (by decide)

theorem TablesKept.raiseRecord {seats : List Nat} {src event : Nat} {body : List Byte} (h : TablesKept s₀ s)
    : TablesKept s₀ (s.raiseRecord seats src event body) :=
  h.same (State.raiseRecord_frame _ _ _ _ _) (by decide)

theorem TablesKept.record {typ sev key : Nat} {payload : List Byte} (h : TablesKept s₀ s)
    : TablesKept s₀ (s.record typ sev key payload) :=
  h.same (State.record_frame _ _ _ _ _) (by decide)

theorem TablesKept.freeTick (h : TablesKept s₀ s) : TablesKept s₀ s.freeTick :=
  h.same (State.freeTick_frame _) (by decide)

theorem TablesKept.recordWithdrawal {cause : Nat} (h : TablesKept s₀ s) : TablesKept s₀ (s.recordWithdrawal cause) :=
  h.same (State.recordWithdrawal_frame _ _) (by decide)

theorem TablesKept.advance {want : Int} (h : TablesKept s₀ s) : TablesKept s₀ (s.advance want) :=
  h.same (State.advance_frame _ _) (by decide)

theorem TablesKept.lockTick (h : TablesKept s₀ s) : TablesKept s₀ s.lockTick :=
  h.same (State.lockTick_frame _) (by decide)

theorem TablesKept.pinTick (h : TablesKept s₀ s) : TablesKept s₀ s.pinTick :=
  h.same (State.pinTick_frame _) (by decide)

theorem execEpochArm_tables (h : TablesKept s₀ s) : After TablesKept s₀ (execEpochArm s) :=
  (execEpochArm_frame _).tables h (by decide)

theorem execLoopCtlFreeze_tables {l : BitVec 14} (h : TablesKept s₀ s) : After TablesKept s₀ (execLoopCtlFreeze l s) :=
  (execLoopCtlFreeze_frame _ _).tables h (by decide)

theorem execLoopCtlOff_tables {l : BitVec 14} (h : TablesKept s₀ s) : After TablesKept s₀ (execLoopCtlOff l s) :=
  (execLoopCtlOff_frame _ _).tables h (by decide)

theorem execLoopCtlRelease_tables {l : BitVec 14} (h : TablesKept s₀ s) : After TablesKept s₀ (execLoopCtlRelease l s) :=
  (execLoopCtlRelease_frame _ _).tables h (by decide)

theorem execLoopCtlStart_tables {l : BitVec 14} (h : TablesKept s₀ s) : After TablesKept s₀ (execLoopCtlStart l s) :=
  (execLoopCtlStart_frame _ _).tables h (by decide)

theorem execClrCount_tables {mask : BitVec 8} (h : TablesKept s₀ s) : After TablesKept s₀ (execClrCount mask s) :=
  (execClrCount_frame _ _).tables h (by decide)

theorem execDescCancel_tables (h : TablesKept s₀ s) : After TablesKept s₀ (execDescCancel s) :=
  (execDescCancel_frame _).tables h (by decide)

theorem execDescLoad_tables (h : TablesKept s₀ s) : After TablesKept s₀ (execDescLoad s) :=
  (execDescLoad_frame _).tables h (by decide)

theorem execDescWrite_tables (h : TablesKept s₀ s) : After TablesKept s₀ (execDescWrite s) :=
  (execDescWrite_frame _).tables h (by decide)

theorem execReleaseAll_tables {maxReason : BitVec 4} (h : TablesKept s₀ s) : After TablesKept s₀ (execReleaseAll maxReason s) :=
  (execReleaseAll_frame _ _).tables h (by decide)

theorem TablesKept.sparesLow {d before : Nat} (h : TablesKept s₀ s) : TablesKept s₀ (s.sparesLow d before) :=
  h.same (State.sparesLow_frame _ _ _) (by decide)

theorem TablesKept.jobNotice {j : Nat} (h : TablesKept s₀ s) : TablesKept s₀ (s.jobNotice j) :=
  h.same (State.jobNotice_frame _ _) (by decide)

theorem TablesKept.settle {o : TakenOrder} {result obj : Nat} (h : TablesKept s₀ s) : TablesKept s₀ (s.settle o result obj) :=
  h.same (State.settle_frame _ _ _ _) (by decide)

theorem TablesKept.moveEvt {b obj arg : Nat} (h : TablesKept s₀ s) : TablesKept s₀ (s.moveEvt b obj arg) :=
  h.same (State.moveEvt_frame _ _ _ _) (by decide)

theorem TablesKept.moveNotice {m : Move} {event reason result inp out : Nat} {tick : Nat} (h : TablesKept s₀ s)
    : TablesKept s₀ (s.moveNotice m event reason result inp out tick) :=
  h.same (State.moveNotice_frame _ _ _ _ _ _ _ _) (by decide)

theorem TablesKept.stateNotice {num event : Nat} {tick : Nat} (h : TablesKept s₀ s) : TablesKept s₀ (s.stateNotice num event tick) :=
  h.same (State.stateNotice_frame _ _ _ _) (by decide)

theorem TablesKept.noticeLater {f : State → State} (h : TablesKept s₀ s) : TablesKept s₀ (s.noticeLater f) :=
  h.same (State.noticeLater_frame _ _) (by decide)

theorem execRearm_tables {entry : BitVec 12} (h : TablesKept s₀ s) : After TablesKept s₀ (execRearm entry s) :=
  (execRearm_frame _ _).tables h (by decide)

theorem execRearmAll_tables (h : TablesKept s₀ s) : After TablesKept s₀ (execRearmAll s) :=
  (execRearmAll_frame _).tables h (by decide)

theorem TablesKept.seeEpoch {e : Nat} (h : TablesKept s₀ s) : TablesKept s₀ (s.seeEpoch e) :=
  h.same (State.seeEpoch_frame _ _) (by decide)

theorem TablesKept.loseHeartbeat (h : TablesKept s₀ s) : TablesKept s₀ s.loseHeartbeat :=
  h.same (State.loseHeartbeat_frame _) (by decide)

theorem TablesKept.setRole {r : Role} (h : TablesKept s₀ s) : TablesKept s₀ (s.setRole r) :=
  h.same (State.setRole_frame _ _) (by decide)

theorem TablesKept.takeRejoin (h : TablesKept s₀ s) : TablesKept s₀ s.takeRejoin :=
  h.same (State.takeRejoin_frame _) (by decide)

theorem TablesKept.keepTime (h : TablesKept s₀ s) : TablesKept s₀ s.keepTime :=
  h.same (State.keepTime_frame _) (by decide)

theorem execRejoin_tables (h : TablesKept s₀ s) : After TablesKept s₀ (execRejoin s) :=
  (execRejoin_frame _).tables h (by decide)

theorem TablesKept.firstRole (h : TablesKept s₀ s) : TablesKept s₀ s.firstRole :=
  h.same (State.firstRole_frame _) (by decide)

theorem TablesKept.laterRole (h : TablesKept s₀ s) : TablesKept s₀ s.laterRole :=
  h.same (State.laterRole_frame _) (by decide)

theorem TablesKept.doeAnswer {ld : Nat} {x2 : DoeReq} (h : TablesKept s₀ s) : TablesKept s₀ (s.doeAnswer ld x2) :=
  h.same (State.doeAnswer_frame _ _ _) (by decide)

theorem TablesKept.updCup {c : Nat} {f : CupSlot → CupSlot} (h : TablesKept s₀ s) : TablesKept s₀ (s.updCup c f) :=
  h.same (State.updCup_frame _ _ _) (by decide)

theorem TablesKept.migrate {old new : Nat} {fails : Bool} {schema : Nat} (h : TablesKept s₀ s)
    : TablesKept s₀ (s.migrate old new fails schema) :=
  h.same (State.migrate_frame _ _ _ _ _) (by decide)

theorem TablesKept.setFwSlot {i : Nat} {x : FwSlot} (h : TablesKept s₀ s) : TablesKept s₀ (s.setFwSlot i x) :=
  h.same (State.setFwSlot_frame _ _ _) (by decide)

theorem TablesKept.burnTick (h : TablesKept s₀ s) : TablesKept s₀ s.burnTick :=
  h.same (State.burnTick_frame _) (by decide)

theorem TablesKept.recordFallback {cause slot : Nat} (h : TablesKept s₀ s) : TablesKept s₀ (s.recordFallback cause slot) :=
  h.same (State.recordFallback_frame _ _ _) (by decide)

theorem TablesKept.endWindow {cycles : Nat} (h : TablesKept s₀ s) : TablesKept s₀ (s.endWindow cycles) :=
  h.same (State.endWindow_frame _ _) (by decide)

theorem TablesKept.updResult {r : Nat} {loc : Nat} (h : TablesKept s₀ s) : TablesKept s₀ (s.updResult r loc) :=
  h.same (State.updResult_frame _ _ _) (by decide)

theorem TablesKept.keyTick (h : TablesKept s₀ s) : TablesKept s₀ s.keyTick :=
  h.same (State.keyTick_frame _) (by decide)

theorem TablesKept.takeTwinStage {was : UpdState} (h : TablesKept s₀ s) : TablesKept s₀ (s.takeTwinStage was) :=
  h.same (State.takeTwinStage_frame _ _) (by decide)

theorem TablesKept.takeConfirm (h : TablesKept s₀ s) : TablesKept s₀ s.takeConfirm :=
  h.same (State.takeConfirm_frame _) (by decide)

theorem TablesKept.takeKey {op : Nat} (h : TablesKept s₀ s) : TablesKept s₀ (s.takeKey op) :=
  h.same (State.takeKey_frame _ _) (by decide)

theorem TablesKept.takeStage {pair : Bool} (h : TablesKept s₀ s) : TablesKept s₀ (s.takeStage pair) :=
  h.same (State.takeStage_frame _ _) (by decide)

theorem TablesKept.endStaging {r loc : Nat} (h : TablesKept s₀ s) : TablesKept s₀ (s.endStaging r loc) :=
  h.same (State.endStaging_frame _ _ _) (by decide)

theorem TablesKept.writeSlot {b : Bundle} (h : TablesKept s₀ s) : TablesKept s₀ (s.writeSlot b) :=
  h.same (State.writeSlot_frame _ _) (by decide)

theorem TablesKept.powerUpTick (h : TablesKept s₀ s) : TablesKept s₀ s.powerUpTick :=
  h.same (State.powerUpTick_frame _) (by decide)

theorem TablesKept.recordThermal {sev die level : Nat} {temp : Int} (h : TablesKept s₀ s)
    : TablesKept s₀ (s.recordThermal sev die level temp) :=
  h.same (State.recordThermal_frame _ _ _ _ _) (by decide)

theorem TablesKept.bootFallback (h : TablesKept s₀ s) : TablesKept s₀ s.bootFallback :=
  h.same (State.bootFallback_frame _) (by decide)

theorem TablesKept.returnReg {a : Nat} {w : Width} {cycle : Nat} (h : TablesKept s₀ s) : TablesKept s₀ (s.returnReg a w cycle) :=
  h.same (State.returnReg_frame _ _ _ _) (by decide)

theorem attWrite_tables {a : Nat} {x : Word} (h : TablesKept s₀ s) : After TablesKept s₀ (attWrite a x s) :=
  (attWrite_frame _ _ _).tables h (by decide)

theorem plnWrite_tables {a : Nat} {x : Word} (h : TablesKept s₀ s) : After TablesKept s₀ (plnWrite a x s) :=
  (plnWrite_frame _ _ _).tables h (by decide)

theorem seatWrite_tables {seat a : Nat} {x : Word} (h : TablesKept s₀ s) : After TablesKept s₀ (seatWrite seat a x s) :=
  (seatWrite_frame _ _ _ _).tables h (by decide)

theorem updWrite_tables {a : Nat} {x : Word} (h : TablesKept s₀ s) : After TablesKept s₀ (updWrite a x s) :=
  (updWrite_frame _ _ _).tables h (by decide)

theorem TablesKept.configTick (h : TablesKept s₀ s) : TablesKept s₀ s.configTick :=
  h.same (State.configTick_frame _) (by decide)

theorem TablesKept.hearthStart (h : TablesKept s₀ s) : TablesKept s₀ s.hearthStart :=
  h.same (State.hearthStart_frame _) (by decide)

end

end Sys2Proof.Machine
end

-- Tables through the shared operations, the Hearth, the loops and the shelves ------------------------------------------------------------
section
/-! O3: every definition that reaches a table keeps the tables canonical, in the order of the model's files. `h` speaks of the state
before; each proof follows the definition's own lets and branches and names what each of its changes leaves. -/
namespace Sys2Proof.Machine

section
variable {s₀ s : State}

-- Shared operations

theorem TablesKept.updCal {p : Nat} {f : CalRun → CalRun} (h : TablesKept s₀ s) : TablesKept s₀ (s.updCal p f) := by
  unfold State.updCal
  with_reducible exact TablesKept.withCals h (fun k => twf_tupd k _ _)

theorem TablesKept.setReg {a : Nat} {w : Word} (h : TablesKept s₀ s) : TablesKept s₀ (s.setReg a w) := by
  unfold State.setReg
  with_reducible exact TablesKept.withRegs h (fun k => twf_tset k _ _)

theorem TablesKept.setField {a lo n v : Nat} (h : TablesKept s₀ s) : TablesKept s₀ (s.setField a lo n v) := by
  unfold State.setField
  with_reducible exact TablesKept.setReg h

theorem TablesKept.count {a lo n k : Nat} (h : TablesKept s₀ s) : TablesKept s₀ (s.count a lo n k) := by
  unfold State.count
  with_reducible exact TablesKept.setField h

theorem TablesKept.updLane {p l : Nat} {f : Lane → Lane} (h : TablesKept s₀ s) : TablesKept s₀ (s.updLane p l f) := by
  unfold State.updLane
  with_reducible exact TablesKept.withLanes h (fun k => twf_tupd k _ _)

theorem TablesKept.updLoop {i : Nat} {f : Loop → Loop} (h : TablesKept s₀ s) : TablesKept s₀ (s.updLoop i f) := by
  unfold State.updLoop
  with_reducible exact TablesKept.withLoops h (fun k => twf_tupd k _ _)

theorem TablesKept.updMove {num : Nat} {f : Move → Move} (h : TablesKept s₀ s) : TablesKept s₀ (s.updMove num f) := by
  unfold State.updMove
  extract_lets
  with_reducible exact TablesKept.withMov h id id id id

theorem TablesKept.updPath {i : Nat} {f : PathRec → PathRec} (h : TablesKept s₀ s) : TablesKept s₀ (s.updPath i f) := by
  unfold State.updPath
  extract_lets
  with_reducible exact TablesKept.withMov h (fun k => twf_tupd k _ _) id id id

theorem TablesKept.shelfEvt {n b : Nat} {seats : (List Nat)} (h : TablesKept s₀ s) : TablesKept s₀ (s.shelfEvt n b seats) := by
  unfold State.shelfEvt
  with_reducible exact TablesKept.raiseTo (.setField h)

theorem TablesKept.updShelf {n : Nat} {f : Shelf → Shelf} (h : TablesKept s₀ s) : TablesKept s₀ (s.updShelf n f) := by
  unfold State.updShelf
  with_reducible exact TablesKept.withShelves h (fun k => twf_tupd k _ _)

theorem TablesKept.maxField {a lo n v : Nat} (h : TablesKept s₀ s) : TablesKept s₀ (s.maxField a lo n v) := by
  unfold State.maxField
  with_reducible exact TablesKept.setField h

theorem TablesKept.updPorch {p : Nat} {f : Porch → Porch} (h : TablesKept s₀ s) : TablesKept s₀ (s.updPorch p f) := by
  unfold State.updPorch
  with_reducible exact TablesKept.withPorches h (fun k => twf_tupd k _ _)

theorem TablesKept.send {p prio : Nat} {c : TxCell} (h : TablesKept s₀ s) : TablesKept s₀ (s.send p prio c) := by
  unfold State.send
  extract_lets s₁ s₂ s₃
  have h₁ : TablesKept s₀ s₁ := .updPorch h
  have h₃ : TablesKept s₀ s₃ := by
    dsimp only [s₃]
    split
    · with_reducible exact .count (.count h₁)
    · with_reducible exact .count h₁
  with_reducible exact .ite h (.ite (.freeTick (.maxField (.count h₃))) h₃)

theorem TablesKept.sendAll {ps : List Nat} {prio : Nat} {c : TxCell} (h : TablesKept s₀ s)
    : TablesKept s₀ (State.sendAll ps prio c s) := by
  unfold State.sendAll
  with_reducible exact TablesKept.each (fun _ _ h => .send h) h

theorem TablesKept.updDev {d : Nat} {f : Gddr7 → Gddr7} (h : TablesKept s₀ s) : TablesKept s₀ (s.updDev d f) := by
  unfold State.updDev
  extract_lets
  with_reducible exact TablesKept.withMem h (fun k => twf_tupd k _ _) id id

theorem TablesKept.updTile {t : Nat} {f : Tile → Tile} (h : TablesKept s₀ s) : TablesKept s₀ (s.updTile t f) := by
  unfold State.updTile
  extract_lets
  with_reducible exact TablesKept.withTil h (fun k => twf_tupd k _ _) id

theorem TablesKept.updJob {j : Nat} {f : Job → Job} (h : TablesKept s₀ s) : TablesKept s₀ (s.updJob j f) := by
  unfold State.updJob
  extract_lets
  with_reducible exact TablesKept.withTil h id (fun k => twf_tupd k _ _)

theorem TablesKept.inTick {f : State → State} (hf : ∀ u, TablesKept s₀ u → TablesKept s₀ (f u)) (h : TablesKept s₀ s) :
    TablesKept s₀ (State.inTick f s) := by
  unfold State.inTick
  extract_lets _ u
  have hu : TablesKept s₀ u := hf _ (.withHrtPorches h fun k => twf_tmap k _)
  exact .withHrtPorches hu fun k => twf_foldl_tupd _ _ k

theorem TablesKept.updSeat {i : Nat} {f : Seat → Seat} (h : TablesKept s₀ s) : TablesKept s₀ (s.updSeat i f) := by
  unfold State.updSeat
  with_reducible exact TablesKept.withSeats h (fun k => twf_tupd k _ _)

theorem TablesKept.faultOn {c : Nat} {other : Bool} (h : TablesKept s₀ s) : TablesKept s₀ (s.faultOn c other) := by
  unfold State.faultOn
  extract_lets
  with_reducible exact TablesKept.ite h (.ite (.withPins (.raise (.setField h))) (.record (.withPins (.raise (.setField h)))))

theorem TablesKept.updTable {t : Nat} {f : PlanTable → PlanTable} (h : TablesKept s₀ s) : TablesKept s₀ (s.updTable t f) := by
  unfold State.updTable
  extract_lets
  with_reducible exact TablesKept.withPlan h id

theorem TablesKept.writeBytes {a : Nat} {l : List Byte} (h : TablesKept s₀ s) : TablesKept s₀ (s.writeBytes a l) := by
  unfold State.writeBytes
  exact TablesKept.withRam h fun k => twf_tsetList k _ _

theorem TablesKept.updSpIn {i : Nat} {f : SpInput → SpInput} (h : TablesKept s₀ s) : TablesKept s₀ (s.updSpIn i f) := by
  unfold State.updSpIn
  extract_lets
  with_reducible exact TablesKept.withEng h (fun k => twf_tupd k _ _) id

theorem TablesKept.updService {i : Nat} {f : Service → Service} (h : TablesKept s₀ s) : TablesKept s₀ (s.updService i f) := by
  unfold State.updService
  extract_lets
  with_reducible exact TablesKept.withMov h id (fun k => twf_tupd k _ _) id id

theorem TablesKept.updReflex {e : Nat} {f : Reflex → Reflex} (h : TablesKept s₀ s) : TablesKept s₀ (s.updReflex e f) := by
  unfold State.updReflex
  extract_lets
  with_reducible exact TablesKept.withMov h id id (fun k => twf_tupd k _ _) id

theorem TablesKept.updChan {c : Nat} {f : Channel → Channel} (h : TablesKept s₀ s) : TablesKept s₀ (s.updChan c f) := by
  unfold State.updChan
  extract_lets
  with_reducible exact TablesKept.withEng h id (fun k => twf_tupd k _ _)

theorem TablesKept.zeroBytes {a n : Nat} (h : TablesKept s₀ s) : TablesKept s₀ (s.zeroBytes a n) := by
  unfold State.zeroBytes
  exact TablesKept.withRam h fun k => twf_terase k _ _

theorem TablesKept.writeByte {a : Nat} {b : Byte} (h : TablesKept s₀ s) : TablesKept s₀ (s.writeByte a b) := by
  unfold State.writeByte
  exact TablesKept.withRam h fun k => twf_tset k _ _

theorem TablesKept.copyRange {src dst n : Nat} (h : TablesKept s₀ s) : TablesKept s₀ (s.copyRange src dst n) := by
  unfold State.copyRange
  with_reducible exact TablesKept.foldl (fun _ _ h => .writeByte h) (.zeroBytes h)

theorem TablesKept.hallWrite {seat off : Nat} {l : List Byte} (h : TablesKept s₀ s) : TablesKept s₀ (s.hallWrite seat off l) := by
  unfold State.hallWrite
  with_reducible exact TablesKept.writeBytes h

theorem TablesKept.updDie {d : Nat} {f : Die → Die} (h : TablesKept s₀ s) : TablesKept s₀ (s.updDie d f) := by
  unfold State.updDie
  extract_lets
  with_reducible exact TablesKept.withThm h (fun k => twf_tupd k _ _)

theorem TablesKept.seatEvt {seat b : Nat} (h : TablesKept s₀ s) : TablesKept s₀ (s.seatEvt seat b) := by
  unfold State.seatEvt
  with_reducible exact TablesKept.raiseTo (.setField h)

theorem TablesKept.updCage {c : Nat} {f : Cage → Cage} (h : TablesKept s₀ s) : TablesKept s₀ (s.updCage c f) := by
  unfold State.updCage
  with_reducible exact TablesKept.withCages h (fun k => twf_tupd k _ _)

theorem TablesKept.updPatch {m : Nat} {f : Patch → Patch} (h : TablesKept s₀ s) : TablesKept s₀ (s.updPatch m f) := by
  unfold State.updPatch
  extract_lets
  with_reducible exact TablesKept.withEst h (fun k => twf_tupd k _ _)

-- The Guard path

theorem TablesKept.freezeWhere {r : Nat} {p : Nat → Bool} (h : TablesKept s₀ s) : TablesKept s₀ (s.freezeWhere r p) := by
  unfold State.freezeWhere
  with_reducible exact TablesKept.withLoops h (fun k => twf_tmap k _)

theorem TablesKept.dropOpen (h : TablesKept s₀ s) : TablesKept s₀ s.dropOpen := by
  unfold State.dropOpen
  with_reducible exact TablesKept.withLoopsPorches h (fun k => twf_tmap k _) (fun k => twf_tmap k _)

theorem TablesKept.giveUp {cause : Nat} (h : TablesKept s₀ s) : TablesKept s₀ (s.giveUp cause) := by
  unfold State.giveUp
  extract_lets
  with_reducible exact TablesKept.recordWithdrawal (.withTwn (.dropOpen h))

theorem TablesKept.guardEvent {code : Nat} (h : TablesKept s₀ s) : TablesKept s₀ (s.guardEvent code) := by
  unfold State.guardEvent
  extract_lets
  with_reducible exact TablesKept.freeTick (.maxField (.setField (.count (.withHrt h))))

theorem TablesKept.guardState {code : Nat} (h : TablesKept s₀ s) : TablesKept s₀ (s.guardState code) := by
  unfold State.guardState
  with_reducible exact TablesKept.sendAll h

theorem TablesKept.sendWithdraw {reason code : Nat} (h : TablesKept s₀ s) : TablesKept s₀ (s.sendWithdraw reason code) := by
  unfold State.sendWithdraw
  with_reducible exact TablesKept.sendAll h

theorem TablesKept.withdraw {reason code : Nat} (h : TablesKept s₀ s) : TablesKept s₀ (s.withdraw reason code) := by
  unfold State.withdraw
  with_reducible exact TablesKept.giveUp (.faultOn (.sendWithdraw h))

theorem TablesKept.verdict {reason code : Nat} {solo : State → State} (hsolo : ∀ u, TablesKept s₀ u → TablesKept s₀ (solo u))
    (h : TablesKept s₀ s) : TablesKept s₀ (s.verdict reason code solo) := by
  unfold State.verdict
  extract_lets s₁
  have h₁ : TablesKept s₀ s₁ := .guardEvent h
  split
  · with_reducible exact .withdraw h₁
  · exact hsolo _ h₁
  · with_reducible exact .giveUp (.faultOn (.guardState h₁))
  · with_reducible exact .faultOn (.guardState h₁)
  · with_reducible exact .faultOn (.guardState h₁)

theorem TablesKept.fatal (h : TablesKept s₀ s) : TablesKept s₀ s.fatal := by
  unfold State.fatal
  with_reducible exact TablesKept.faultOn (.verdict (fun _ h => .withdraw h) h)

theorem TablesKept.freezeLoop {r l : Nat} (h : TablesKept s₀ s) : TablesKept s₀ (s.freezeLoop r l) := by
  unfold State.freezeLoop
  with_reducible exact TablesKept.updLoop h

theorem TablesKept.startClaim {trigger prio : Nat} (h : TablesKept s₀ s) : TablesKept s₀ (s.startClaim trigger prio) := by
  unfold State.startClaim
  extract_lets
  with_reducible exact TablesKept.withTwn (.sendAll h)

theorem execGuardMismatch_tables (h : TablesKept s₀ s) : After TablesKept s₀ (execGuardMismatch s) := by
  unfold execGuardMismatch
  with_reducible exact After.next (.verdict (fun _ h => .withdraw h) h)

theorem execHalt_tables {lowNs : Nat} (h : TablesKept s₀ s) : After TablesKept s₀ (execHalt lowNs s) := by
  unfold execHalt
  extract_lets
  with_reducible exact After.ite (.next (.freezeWhere (.ite (.sendAll (.guardEvent (.withPins (.freeTick h)))) (.guardState (.guardEvent
    (.withPins (.freeTick h))))))) (.next (.freeTick h))

theorem execSupervisorFatal_tables (h : TablesKept s₀ s) : After TablesKept s₀ (execSupervisorFatal s) := by
  unfold execSupervisorFatal
  with_reducible exact After.next (.fatal h)

-- The Hearth

theorem TablesKept.loopOverrun {l : Nat} (h : TablesKept s₀ s) : TablesKept s₀ (s.loopOverrun l) := by
  unfold State.loopOverrun
  extract_lets
  with_reducible exact TablesKept.ite h (.setField (.withHrt (.count (.updLoop h))))

theorem TablesKept.epochResult {r : Nat} (h : TablesKept s₀ s) : TablesKept s₀ (s.epochResult r) := by
  unfold State.epochResult
  with_reducible exact TablesKept.setField h

theorem TablesKept.takeArm (h : TablesKept s₀ s) : TablesKept s₀ s.takeArm := by
  unfold State.takeArm
  extract_lets
  with_reducible exact TablesKept.ite (.ite (.raise (.epochResult (.withOps h))) (.ite (.raise (.epochResult (.withOps h))) (.ite (.raise
    (.epochResult (.withOps h))) (.epochResult (.withHrt (.withOps h)))))) h

theorem TablesKept.renumberAll {d : Int} (h : TablesKept s₀ s) : TablesKept s₀ (s.renumberAll d) := by
  unfold State.renumberAll
  extract_lets
  with_reducible exact TablesKept.withEstCalsTwn h id (fun k => twf_tmap k _)

theorem TablesKept.newFrame (h : TablesKept s₀ s) : TablesKept s₀ s.newFrame := by
  unfold State.newFrame
  extract_lets
  with_reducible exact TablesKept.withHrt (.ite h (.renumberAll h))

theorem TablesKept.soloOverrun (h : TablesKept s₀ s) : TablesKept s₀ s.soloOverrun := by
  unfold State.soloOverrun
  extract_lets
  with_reducible exact TablesKept.ite (.withdraw h) (.withHrt (.record (.faultOn h)))

theorem TablesKept.overrunFrame (h : TablesKept s₀ s) : TablesKept s₀ s.overrunFrame := by
  unfold State.overrunFrame
  extract_lets
  with_reducible exact TablesKept.ite h (.ite (.setReg (.raise h)) (.ite (.verdict (fun _ h => .soloOverrun h) (.raise (.count (.withHrt
    (.setReg (.raise h)))))) (.count (.withHrt (.setReg (.raise h))))))

theorem TablesKept.passOverrun {n : Nat} (h : TablesKept s₀ s) : TablesKept s₀ (s.passOverrun n) := by
  unfold State.passOverrun
  with_reducible exact TablesKept.ite h (.record (.raise (.count h)))

theorem TablesKept.seeReference {ps : Int} (h : TablesKept s₀ s) : TablesKept s₀ (s.seeReference ps) := by
  unfold State.seeReference
  extract_lets
  with_reducible exact TablesKept.setReg (.withHrt h)

theorem TablesKept.stepEpoch (h : TablesKept s₀ s) : TablesKept s₀ s.stepEpoch := by
  unfold State.stepEpoch
  extract_lets
  split
  · with_reducible exact TablesKept.ite (.raise (.epochResult (.withHrt h))) h
  · exact h

theorem TablesKept.uncountFrame (h : TablesKept s₀ s) : TablesKept s₀ s.uncountFrame := by
  unfold State.uncountFrame
  extract_lets
  with_reducible exact TablesKept.ite (.setField (.withHrt h)) h

theorem execAlignmentStep_tables {cycles : BitVec 21} (h : TablesKept s₀ s) : After TablesKept s₀ (execAlignmentStep cycles s) := by
  unfold execAlignmentStep
  extract_lets
  with_reducible exact After.ite (.next (.withHrt (.uncountFrame h))) (.next h)

theorem execEpochStep_tables (h : TablesKept s₀ s) : After TablesKept s₀ (execEpochStep s) := by
  unfold execEpochStep
  with_reducible exact After.next (.stepEpoch h)

theorem execTickInEdge_tables {offset : Int} (h : TablesKept s₀ s) : After TablesKept s₀ (execTickInEdge offset s) := by
  unfold execTickInEdge
  extract_lets
  with_reducible exact After.ite (.next (.seeReference (.withHrt h))) (.next (.withHrt h))

theorem execTimebaseAbsent_tables (h : TablesKept s₀ s) : After TablesKept s₀ (execTimebaseAbsent s) := by
  unfold execTimebaseAbsent
  with_reducible exact After.ite (.next (.faultOn h)) (.next h)

theorem execTimebaseLoss_tables (h : TablesKept s₀ s) : After TablesKept s₀ (execTimebaseLoss s) := by
  unfold execTimebaseLoss
  extract_lets
  with_reducible exact After.ite (.next (.record (.raise (.faultOn (.withHrt h))))) (.next h)

-- The loop's calculation

theorem TablesKept.landLoop {r : EstRec} {leave late : Bool} {l : Nat} (h : TablesKept s₀ s)
    : TablesKept s₀ (s.landLoop r leave late l) := by
  unfold State.landLoop
  extract_lets
  with_reducible exact TablesKept.ite h (.ite (.updLoop (.ite (.count h) h)) (.updLoop h))

theorem TablesKept.landRecord {r : EstRec} {late : List Nat} (h : TablesKept s₀ s) : TablesKept s₀ (s.landRecord r late) := by
  unfold State.landRecord
  extract_lets
  with_reducible exact TablesKept.landLoop (.landLoop h)

-- Command cells

theorem TablesKept.keepCommand {tick : Nat} {e : Nat × Int} (h : TablesKept s₀ s) : TablesKept s₀ (s.keepCommand tick e) := by
  unfold State.keepCommand
  with_reducible exact TablesKept.updLoop h

theorem TablesKept.commandLeft {e : Nat × Int} (h : TablesKept s₀ s) : TablesKept s₀ (s.commandLeft e) := by
  unfold State.commandLeft
  with_reducible exact TablesKept.updLoop (.keepCommand h)

theorem TablesKept.overrunState {l : Nat} (h : TablesKept s₀ s) : TablesKept s₀ (s.overrunState l) := by
  unfold State.overrunState
  with_reducible exact TablesKept.updLoop h

theorem TablesKept.closeCell {p : Nat} {inTime : Bool} (h : TablesKept s₀ s) : TablesKept s₀ (s.closeCell p inTime) := by
  unfold State.closeCell
  extract_lets
  with_reducible exact TablesKept.ite (.updPorch h) (.ite (.foldl (fun _ _ h => .commandLeft h) (.ite (.sendAll (.ite (.sendAll (.send
    (.updPorch h))) (.send (.updPorch h)))) (.ite (.sendAll (.send (.updPorch h))) (.send (.updPorch h))))) (.foldl (fun _ _ h => .updLoop
    (.overrunState (.loopOverrun h))) (.count (.updPorch h))))

theorem TablesKept.addCommand {l : Nat} {u : Int} (h : TablesKept s₀ s) : TablesKept s₀ (s.addCommand l u) := by
  unfold State.addCommand
  extract_lets
  split
  · with_reducible exact TablesKept.ite (.ite (.closeCell (.updPorch (.updLoop h))) (.updPorch (.updLoop h))) (.updLoop h)
  · exact h

theorem TablesKept.cellReady {l : Nat} (h : TablesKept s₀ s) : TablesKept s₀ (s.cellReady l) := by
  unfold State.cellReady
  extract_lets
  split
  · with_reducible exact TablesKept.ite h (.addCommand h)
  · exact h

theorem TablesKept.feedTwin (h : TablesKept s₀ s) : TablesKept s₀ s.feedTwin := by
  unfold State.feedTwin
  extract_lets
  split
  · with_reducible exact TablesKept.ite (.withTwn (.send (.foldl (fun _ _ h => .send h) h))) (.withTwn h)
  · with_reducible exact TablesKept.withTwn h
  · exact h

theorem TablesKept.emitDeadline (h : TablesKept s₀ s) : TablesKept s₀ s.emitDeadline := by
  unfold State.emitDeadline
  refine .ite (.withHrt h) ?_
  extract_lets frozen s₁ s₂ missed passed s₃ s₄ s₅
  have h₂ : TablesKept s₀ s₂ := .each (fun _ _ h => .closeCell h) (.ite (.each (fun _ _ h => .addCommand h) h) h)
  have h₄ : TablesKept s₀ s₄ := .each (fun _ _ h => .overrunState (.loopOverrun h)) (.passOverrun h₂)
  have h₅ : TablesKept s₀ s₅ := .withLoops h₄ fun k => twf_tmap k _
  exact .feedTwin (.withHrt (.overrunFrame h₅))

theorem TablesKept.fillPorch {epoch p : Nat} {es : List (Nat × Int)} (h : TablesKept s₀ s) : TablesKept s₀ (s.fillPorch epoch p es) := by
  unfold State.fillPorch
  extract_lets
  with_reducible exact TablesKept.ite h (.withTwn (.foldl (fun _ _ h => .commandLeft h) (.count (.foldl (fun _ _ h => .send h) h))))

theorem TablesKept.relayCommand {tick : Nat} {e : Nat × Int} (h : TablesKept s₀ s) : TablesKept s₀ (s.relayCommand tick e) := by
  unfold State.relayCommand
  with_reducible exact TablesKept.updLoop (.keepCommand h)

theorem execCellClose_tables {porch : BitVec 4} {cycle leaves : BitVec 21} (h : TablesKept s₀ s)
    : After TablesKept s₀ (execCellClose porch cycle leaves s) := by
  unfold execCellClose
  with_reducible exact After.ite (.next (.closeCell h)) (.next h)

theorem execEmitDeadline_tables (h : TablesKept s₀ s) : After TablesKept s₀ (execEmitDeadline s) := by
  unfold execEmitDeadline
  with_reducible exact After.ite (.next (.emitDeadline h)) (.next h)

theorem execLateFillSnapshot_tables (h : TablesKept s₀ s) : After TablesKept s₀ (execLateFillSnapshot s) := by
  unfold execLateFillSnapshot
  extract_lets
  split
  · with_reducible exact After.ite (.next (.withTwn (.each (fun _ _ h => .fillPorch h) h))) (.next h)
  · with_reducible exact After.next h

-- Loops

theorem TablesKept.freezeAt {r l : Nat} (h : TablesKept s₀ s) : TablesKept s₀ (s.freezeAt r l) := by
  unfold State.freezeAt
  extract_lets
  split
  · exact h
  · with_reducible exact TablesKept.updLoop h
  · with_reducible exact TablesKept.record (.raiseTo (.count (.updLoop h)))

theorem TablesKept.freezeDue {p : Nat → Bool} (h : TablesKept s₀ s) : TablesKept s₀ (s.freezeDue p) := by
  unfold State.freezeDue
  extract_lets
  with_reducible exact TablesKept.each (fun _ _ h => .freezeAt h) h

theorem TablesKept.loopResult {l r : Nat} (h : TablesKept s₀ s) : TablesKept s₀ (s.loopResult l r) := by
  unfold State.loopResult
  with_reducible exact TablesKept.updLoop h

theorem TablesKept.freezeResult {l : Nat} (h : TablesKept s₀ s) : TablesKept s₀ (s.freezeResult l) := by
  unfold State.freezeResult
  with_reducible exact TablesKept.loopResult h

theorem TablesKept.freezeRest (h : TablesKept s₀ s) : TablesKept s₀ s.freezeRest := by
  unfold State.freezeRest
  extract_lets
  with_reducible exact TablesKept.each (fun _ _ h => .freezeResult h) (.freezeDue h)

theorem TablesKept.loseDatapaths (h : TablesKept s₀ s) : TablesKept s₀ s.loseDatapaths := by
  unfold State.loseDatapaths
  extract_lets
  with_reducible exact TablesKept.withEng (.each (fun _ _ h => .raise h) h) id id

theorem TablesKept.latchInput {analog : List (Nat × List Int)} {i : Nat} (h : TablesKept s₀ s)
    : TablesKept s₀ (s.latchInput analog i) := by
  unfold State.latchInput
  split
  · split
    · with_reducible exact TablesKept.ite h (.updSpIn h)
    · exact h
  · with_reducible exact TablesKept.updSpIn h
  · with_reducible exact TablesKept.updSpIn h
  · with_reducible exact TablesKept.updSpIn h

theorem TablesKept.latchInputs {analog : List (Nat × List Int)} (h : TablesKept s₀ s) : TablesKept s₀ (s.latchInputs analog) := by
  unfold State.latchInputs
  extract_lets
  with_reducible exact TablesKept.withOps (.each (fun _ _ h => .latchInput h) (.each (fun _ _ h => .updSpIn h) h))

theorem TablesKept.handOvers (h : TablesKept s₀ s) : TablesKept s₀ s.handOvers := by
  unfold State.handOvers
  with_reducible exact TablesKept.each (fun _ _ h => .updLoop h) h

theorem TablesKept.leaveAcquire {l : Nat} (h : TablesKept s₀ s) : TablesKept s₀ (s.leaveAcquire l) := by
  unfold State.leaveAcquire
  with_reducible exact TablesKept.updLoop h

theorem TablesKept.takeRelease {l : Nat} (h : TablesKept s₀ s) : TablesKept s₀ (s.takeRelease l) := by
  unfold State.takeRelease
  extract_lets
  with_reducible exact TablesKept.ite (.updLoop h) (.loopResult h)

theorem TablesKept.takeStart {l : Nat} (h : TablesKept s₀ s) : TablesKept s₀ (s.takeStart l) := by
  unfold State.takeStart
  extract_lets
  with_reducible exact TablesKept.ite (.updLoop h) (.loopResult h)

theorem TablesKept.lowChanges (h : TablesKept s₀ s) : TablesKept s₀ s.lowChanges := by
  unfold State.lowChanges
  extract_lets s₁ s₂ s₃ s₄ s₅
  have h₃ : TablesKept s₀ s₃ := .each (fun _ _ h => .takeStart h) (.each (fun _ _ h => .leaveAcquire h) (.handOvers h))
  have h₄ : TablesKept s₀ s₄ := .each (fun _ _ h => .takeRelease h) h₃
  have h₅ : TablesKept s₀ s₅ := by
    dsimp only [s₅]
    split
    · with_reducible exact .each (fun _ _ h => .takeRelease h) h₄
    · exact h₄
  with_reducible exact .withOps (.each (fun _ _ h => .updLoop h) h₅)

theorem TablesKept.takeSetpoints (h : TablesKept s₀ s) : TablesKept s₀ s.takeSetpoints := by
  unfold State.takeSetpoints
  extract_lets
  with_reducible exact TablesKept.withLoops (.each (fun _ _ h => .raise (.updLoop h)) h) (fun k => twf_tmap k _)

theorem TablesKept.takeOff {l : Nat} (h : TablesKept s₀ s) : TablesKept s₀ (s.takeOff l) := by
  unfold State.takeOff
  with_reducible exact TablesKept.updLoop h

theorem TablesKept.offAndFreeze (h : TablesKept s₀ s) : TablesKept s₀ s.offAndFreeze := by
  unfold State.offAndFreeze
  extract_lets
  with_reducible exact TablesKept.freezeDue (.each (fun _ _ h => .takeOff h) h)

theorem TablesKept.descResult {r : Nat} (h : TablesKept s₀ s) : TablesKept s₀ (s.descResult r) := by
  unfold State.descResult
  with_reducible exact TablesKept.setField h

theorem TablesKept.giveDesc {starts : Bool} {l : Nat} {d : BitVec 512} (h : TablesKept s₀ s) : TablesKept s₀ (s.giveDesc starts l d) := by
  unfold State.giveDesc
  extract_lets
  with_reducible refine TablesKept.ite h (.ite (.updLoop h) ?_)
  extract_lets
  split
  · with_reducible exact TablesKept.updLoop h
  · with_reducible exact TablesKept.updLoop h

theorem TablesKept.descTakeEffect (h : TablesKept s₀ s) : TablesKept s₀ s.descTakeEffect := by
  unfold State.descTakeEffect
  split
  · with_reducible exact TablesKept.ite (.raise (.descResult (.withEng (.giveDesc h) id id))) h
  · exact h

theorem TablesKept.takeDescLoad (h : TablesKept s₀ s) : TablesKept s₀ s.takeDescLoad := by
  unfold State.takeDescLoad
  extract_lets
  with_reducible exact TablesKept.descResult (.each (fun _ _ h => .setReg h) h)

theorem TablesKept.takeDescWrite (h : TablesKept s₀ s) : TablesKept s₀ s.takeDescWrite := by
  unfold State.takeDescWrite
  extract_lets
  with_reducible exact TablesKept.ite (.raise (.descResult h)) (.ite (.raise (.descResult h)) (.ite (.raise (.descResult h)) (.ite (.raise
    (.descResult h)) (.descResult (.withEng h id id)))))

theorem TablesKept.takeDesc (h : TablesKept s₀ s) : TablesKept s₀ s.takeDesc := by
  unfold State.takeDesc
  extract_lets op _ s₁
  have h₁ : TablesKept s₀ s₁ := .withOps h
  clear_value s₁ op
  split
  · with_reducible exact .takeDescLoad h₁
  · with_reducible exact .takeDescWrite h₁
  · refine .ite (.descResult ?_) h₁
    exact .withEng h₁ id id
  · exact h₁

theorem TablesKept.countState {ls : List (BitVec 14)} (h : TablesKept s₀ s) : TablesKept s₀ (s.countState ls) := by
  unfold State.countState
  split
  · with_reducible exact TablesKept.setField (.count h)
  · exact h

theorem TablesKept.freezeIf {due : Bool} {l : Nat} (h : TablesKept s₀ s) : TablesKept s₀ (s.freezeIf due l) := by
  unfold State.freezeIf
  with_reducible exact TablesKept.ite (.freezeAt h) h

theorem execSetpointWrite_tables {l : BitVec 14} {v : BitVec 16} (h : TablesKept s₀ s)
    : After TablesKept s₀ (execSetpointWrite l v s) := by
  unfold execSetpointWrite
  with_reducible exact After.next (.updLoop h)

theorem execAcqTimeout_tables {l : BitVec 14} (h : TablesKept s₀ s) : After TablesKept s₀ (execAcqTimeout l s) := by
  unfold execAcqTimeout
  with_reducible exact After.next (.freezeIf h)

theorem execAcquisitionComplete_tables {l : BitVec 14} (h : TablesKept s₀ s) : After TablesKept s₀ (execAcquisitionComplete l s) := by
  unfold execAcquisitionComplete
  with_reducible exact After.ite (.next (.leaveAcquire h)) (.next h)

theorem execDatapathMismatch_tables {dp : BitVec 6} (h : TablesKept s₀ s) : After TablesKept s₀ (execDatapathMismatch dp s) := by
  unfold execDatapathMismatch
  extract_lets
  with_reducible exact After.ite (.next h) (.next (.withEng h id id))

theorem execDescTakeEffect_tables (h : TablesKept s₀ s) : After TablesKept s₀ (execDescTakeEffect s) := by
  unfold execDescTakeEffect
  with_reducible exact After.next (.ite h (.descTakeEffect h))

theorem execHandOver_tables {l : BitVec 14} (h : TablesKept s₀ s) : After TablesKept s₀ (execHandOver l s) := by
  unfold execHandOver
  with_reducible exact After.ite (.next (.updLoop h)) (.next h)

theorem execImplausible_tables {l : BitVec 14} (h : TablesKept s₀ s) : After TablesKept s₀ (execImplausible l s) := by
  unfold execImplausible
  with_reducible exact After.next (.freezeIf h)

theorem execOverrunFreeze_tables {l : BitVec 14} (h : TablesKept s₀ s) : After TablesKept s₀ (execOverrunFreeze l s) := by
  unfold execOverrunFreeze
  with_reducible exact After.next (.freezeIf h)

theorem execPwmPeriod_tables {input : BitVec 3} {high period : BitVec 21} (h : TablesKept s₀ s)
    : After TablesKept s₀ (execPwmPeriod input high period s) := by
  unfold execPwmPeriod
  extract_lets
  with_reducible exact After.ite (.next (.updSpIn h)) (.next h)

theorem execPwmStale_tables {input : BitVec 3} (h : TablesKept s₀ s) : After TablesKept s₀ (execPwmStale input s) := by
  unfold execPwmStale
  extract_lets
  with_reducible exact After.ite (.next (.raise (.updSpIn h))) (.next h)

theorem execSearch_tables {l : BitVec 14} (h : TablesKept s₀ s) : After TablesKept s₀ (execSearch l s) := by
  unfold execSearch
  with_reducible exact After.ite (.next (.updLoop h)) (.next h)

theorem execStateEcc_tables {loop : BitVec 14} (h : TablesKept s₀ s) : After TablesKept s₀ (execStateEcc loop s) := by
  unfold execStateEcc
  extract_lets
  with_reducible exact After.next (.verdict (fun _ h => .record (.faultOn (.freezeLoop h))) (.setField (.raise h)))

theorem execStepEdge_tables {input : BitVec 3} {up : Bool} (h : TablesKept s₀ s) : After TablesKept s₀ (execStepEdge input up s) := by
  unfold execStepEdge
  extract_lets
  with_reducible exact After.ite (.next (.updSpIn h)) (.next h)

theorem execWarmUpEnd_tables {l : BitVec 14} (h : TablesKept s₀ s) : After TablesKept s₀ (execWarmUpEnd l s) := by
  unfold execWarmUpEnd
  with_reducible exact After.ite (.next (.updLoop h)) (.next h)

-- Shelves

theorem TablesKept.rewind {n lo evt : Nat} (h : TablesKept s₀ s) : TablesKept s₀ (s.rewind n lo evt) := by
  unfold State.rewind
  extract_lets
  with_reducible exact TablesKept.shelfEvt (.count (.updShelf h))

theorem TablesKept.abortPacket {n : Nat} (h : TablesKept s₀ s) : TablesKept s₀ (s.abortPacket n) := by
  unfold State.abortPacket
  extract_lets
  with_reducible exact TablesKept.ite (.ite h (.updShelf h)) (.rewind (.ite h (.updShelf h)))

theorem TablesKept.swapShelf {n : Nat} (h : TablesKept s₀ s) : TablesKept s₀ (s.swapShelf n) := by
  unfold State.swapShelf
  extract_lets
  with_reducible exact TablesKept.updShelf h

theorem TablesKept.makeRoom {n : Nat} {t : State} (h : TablesKept s₀ s) (ht : s.makeRoom n = some t) : TablesKept s₀ t := by
  unfold State.makeRoom at ht
  split at ht
  · cases ht; exact h
  · split at ht
    · cases ht; with_reducible exact .updShelf h
    · split at ht
      · cases ht; with_reducible exact .swapShelf h
      · cases ht

theorem TablesKept.swapNow {n : Nat} (h : TablesKept s₀ s) : TablesKept s₀ (s.swapNow n) := by
  unfold State.swapNow
  with_reducible exact TablesKept.ite (.swapShelf h) h

theorem TablesKept.storeWord {n : Nat} {w : Word} (h : TablesKept s₀ s) : TablesKept s₀ (s.storeWord n w) := by
  unfold State.storeWord
  extract_lets
  with_reducible exact TablesKept.ite (.swapNow (.updShelf h)) (.ite (.rewind h) (.updShelf h))

theorem TablesKept.tryWord {n : Nat} {w : Word} {t : State} (h : TablesKept s₀ s) (ht : s.tryWord n w = some t) : TablesKept s₀ t := by
  unfold State.tryWord at ht
  split at ht
  · cases ht; with_reducible exact .rewind h
  · obtain ⟨u, hu, rfl⟩ := Option.map_eq_some_iff.1 ht
    exact .storeWord (h.makeRoom hu)

theorem TablesKept.resumeShelf {n fuel : Nat} (h : TablesKept s₀ s) : TablesKept s₀ (s.resumeShelf n fuel) := by
  induction fuel generalizing s with
  | zero => exact h
  | succ fuel ih =>
    unfold State.resumeShelf
    split
    · exact h
    · split
      case h_1 t ht => exact ih (.tryWord (.updShelf h) ht)
      case h_2 => exact h

theorem TablesKept.resume {n : Nat} (h : TablesKept s₀ s) : TablesKept s₀ (s.resume n) := by
  unfold State.resume
  with_reducible exact TablesKept.resumeShelf h

theorem TablesKept.releaseShelf {n : Nat} (h : TablesKept s₀ s) : TablesKept s₀ (s.releaseShelf n) := by
  unfold State.releaseShelf
  extract_lets
  with_reducible exact TablesKept.resume (.swapNow (.updShelf h))

theorem TablesKept.returnShelf {n : Nat} (h : TablesKept s₀ s) : TablesKept s₀ (s.returnShelf n) := by
  unfold State.returnShelf
  with_reducible exact TablesKept.updShelf h

theorem TablesKept.emptyShelf {n : Nat} (h : TablesKept s₀ s) : TablesKept s₀ (s.emptyShelf n) := by
  unfold State.emptyShelf
  with_reducible exact TablesKept.updShelf (.abortPacket h)

theorem TablesKept.shelfTick (h : TablesKept s₀ s) : TablesKept s₀ s.shelfTick := by
  unfold State.shelfTick
  extract_lets
  with_reducible exact TablesKept.each (fun _ _ h => .resume (.swapNow h)) (.each (fun _ _ h => .emptyShelf h) h)

theorem TablesKept.badWord {n : Nat} (h : TablesKept s₀ s) : TablesKept s₀ (s.badWord n) := by
  unfold State.badWord
  extract_lets
  with_reducible exact TablesKept.shelfEvt (.count (.withPantryRetired (.ite (.updShelf h) h)))

theorem TablesKept.noteWord {n : Nat} {x2 : WordCheck} (h : TablesKept s₀ s) : TablesKept s₀ (s.noteWord n x2) := by
  unfold State.noteWord
  split
  · exact h
  · with_reducible exact TablesKept.count h
  · with_reducible exact TablesKept.badWord h

theorem TablesKept.checkReserved {n : Nat} {checks : List (Nat × WordCheck)} (h : TablesKept s₀ s)
    : TablesKept s₀ (s.checkReserved n checks) := by
  unfold State.checkReserved
  extract_lets
  with_reducible exact TablesKept.foldl (fun _ _ h => .noteWord h) (.updShelf h)

theorem TablesKept.reserveShelf {n len : Nat} (h : TablesKept s₀ s) : TablesKept s₀ (s.reserveShelf n len) := by
  unfold State.reserveShelf
  with_reducible exact TablesKept.updShelf h

theorem TablesKept.popWord {n : Nat} {check : WordCheck} (h : TablesKept s₀ s) : TablesKept s₀ (s.popWord n check) := by
  unfold State.popWord
  extract_lets
  split
  · with_reducible exact TablesKept.swapNow (.noteWord (.withReadData (.updShelf h)))
  · with_reducible exact TablesKept.withReadData h

theorem TablesKept.pushPacket {n : Nat} {ws : List Word} (h : TablesKept s₀ s) : TablesKept s₀ (s.pushPacket n ws).1 := by
  induction ws generalizing s with
  | nil => exact h
  | cons w ws ih =>
    unfold State.pushPacket
    split
    case h_1 t ht => exact ih (.storeWord (h.makeRoom ht))
    case h_2 => with_reducible exact .rewind h

theorem TablesKept.pushWord {n : Nat} {w : Word} (h : TablesKept s₀ s) : TablesKept s₀ (s.pushWord n w) := by
  unfold State.pushWord
  refine .ite ?_ (.updShelf h)
  extract_lets
  split
  case h_1 t ht => exact h.tryWord ht
  case h_2 => with_reducible exact .ite (.rewind h) (.shelfEvt (.updShelf h))

theorem execShelfPop_tables {seat : BitVec 3} {shelf : BitVec 10} {w : Width} {check : WordCheck} (h : TablesKept s₀ s)
    : After TablesKept s₀ (execShelfPop seat shelf w check s) := by
  unfold execShelfPop
  extract_lets
  with_reducible exact After.ite (.next (.resume (.popWord h))) (.next (.withReadData h))

theorem execEmpty_tables {shelf : BitVec 10} (h : TablesKept s₀ s) : After TablesKept s₀ (execEmpty shelf s) := by
  unfold execEmpty
  with_reducible exact After.ite (.next h) (.next (.updShelf h))

theorem execFlush_tables {shelf : BitVec 10} (h : TablesKept s₀ s) : After TablesKept s₀ (execFlush shelf s) := by
  unfold execFlush
  with_reducible exact After.ite (.next h) (.next (.resume (.swapNow (.updShelf h))))

theorem execShelfSwap_tables {shelf : BitVec 10} (h : TablesKept s₀ s) : After TablesKept s₀ (execShelfSwap shelf s) := by
  unfold execShelfSwap
  with_reducible exact After.next (.resume (.swapNow h))

theorem execShelfWrite_tables {shelf : BitVec 10} {op : ShelfOp} (h : TablesKept s₀ s)
    : After TablesKept s₀ (execShelfWrite shelf op s) := by
  unfold execShelfWrite
  extract_lets
  with_reducible refine After.ite (.next h) ?_
  extract_lets
  split
  · with_reducible exact After.next (.pushWord h)
  · with_reducible exact After.next (.abortPacket h)

theorem execStaleTimer_tables {shelf : BitVec 10} (h : TablesKept s₀ s) : After TablesKept s₀ (execStaleTimer shelf s) := by
  unfold execStaleTimer
  extract_lets
  with_reducible exact After.ite (.next (.resume (.swapNow (.shelfEvt (.updShelf h))))) (.next h)

end

end Sys2Proof.Machine
end

-- Tables through tiles, memory, jobs and table banks -------------------------------------------------------------------------------------
section
/-! O3: every definition that reaches a table keeps the tables canonical, in the order of the model's files. `h` speaks of the state
before; each proof follows the definition's own lets and branches and names what each of its changes leaves. -/
namespace Sys2Proof.Machine

section
variable {s₀ s : State}

-- Tiles

theorem TablesKept.noteCopy {j : Nat} {b : Bank} (h : TablesKept s₀ s) : TablesKept s₀ (s.noteCopy j b) := by
  unfold State.noteCopy
  with_reducible exact TablesKept.updJob h

theorem TablesKept.endAt {r j : Nat} (h : TablesKept s₀ s) : TablesKept s₀ (s.endAt r j) := by
  unfold State.endAt
  extract_lets
  with_reducible exact TablesKept.ite h (.updJob h)

theorem TablesKept.giveWay {t : Nat} (h : TablesKept s₀ s) : TablesKept s₀ (s.giveWay t) := by
  unfold State.giveWay
  extract_lets x s₁
  have h₁ : TablesKept s₀ s₁ := by
    dsimp only [s₁]
    split
    · exact .noteCopy h
    · exact h
  exact .updTile h₁

theorem TablesKept.requestTile {t : Nat} (h : TablesKept s₀ s) : TablesKept s₀ (s.requestTile t) := by
  unfold State.requestTile
  with_reducible exact TablesKept.ite (.giveWay h) (.updTile h)

theorem TablesKept.requestJob {j : Nat} (h : TablesKept s₀ s) : TablesKept s₀ (s.requestJob j) := by
  unfold State.requestJob
  with_reducible exact TablesKept.each (fun _ _ h => .requestTile h) h

theorem TablesKept.switchTo {t j : Nat} (h : TablesKept s₀ s) : TablesKept s₀ (s.switchTo t j) := by
  unfold State.switchTo
  extract_lets
  with_reducible exact TablesKept.ite (.updTile h) (.updTile (.ite (.giveWay h) h))

theorem TablesKept.tileTick (h : TablesKept s₀ s) : TablesKept s₀ s.tileTick := by
  unfold State.tileTick
  extract_lets
  with_reducible exact TablesKept.withTil (.each (fun _ _ h => .raise h) (.each (fun _ _ h => .each (fun _ _ h => .endAt h) (.raise
    (.updTile h))) h)) id id

theorem TablesKept.excuseLoops (h : TablesKept s₀ s) : TablesKept s₀ s.excuseLoops := by
  unfold State.excuseLoops
  with_reducible exact TablesKept.withLoops h (fun k => twf_tmap k _)

theorem TablesKept.loseTile {t : Nat} (h : TablesKept s₀ s) : TablesKept s₀ (s.loseTile t) := by
  unfold State.loseTile
  extract_lets
  exact TablesKept.ite h (.ite (.withPlan (.excuseLoops (.withPlan (.updTile h) id)) id) (.withPlan (.updTile h) id))

theorem TablesKept.loseDie {d : Nat} (h : TablesKept s₀ s) : TablesKept s₀ (s.loseDie d) := by
  unfold State.loseDie
  with_reducible exact TablesKept.each (fun _ _ h => .loseTile h) h

theorem TablesKept.downHop {n : Nat} (h : TablesKept s₀ s) : TablesKept s₀ (s.downHop n) := by
  unfold State.downHop
  extract_lets
  with_reducible exact TablesKept.ite h (.each (fun _ _ h => .loseDie h) (.loseDie (.raise (.withTil h id id))))

theorem TablesKept.tokenTile {missed : List Nat} {t : Nat} (h : TablesKept s₀ s) : TablesKept s₀ (s.tokenTile missed t) := by
  unfold State.tokenTile
  extract_lets
  with_reducible exact TablesKept.ite h (.ite (.ite (.loseTile (.updTile h)) (.updTile h)) (.ite h (.updTile h)))

theorem execContextSwitch_tables {tile : BitVec 7} {job : BitVec 8} (h : TablesKept s₀ s)
    : After TablesKept s₀ (execContextSwitch tile job s) := by
  unfold execContextSwitch
  extract_lets
  with_reducible exact After.ite (.next (.switchTo h)) (.next h)

theorem execForcedPreemption_tables {tile : BitVec 7} {pc : BitVec 48} (h : TablesKept s₀ s)
    : After TablesKept s₀ (execForcedPreemption tile pc s) := by
  unfold execForcedPreemption
  extract_lets
  with_reducible exact After.ite (.next (.ite (.record (.count (.updTile (.giveWay h)))) (.count (.updTile (.giveWay h))))) (.next h)

theorem execFrameProgramEnd_tables {tile : BitVec 7} (h : TablesKept s₀ s) : After TablesKept s₀ (execFrameProgramEnd tile s) := by
  unfold execFrameProgramEnd
  extract_lets
  with_reducible refine After.ite ?_ ?_
  · extract_lets
    split
    · with_reducible exact After.next (.ite (.switchTo (.updTile h)) (.updTile h))
    · with_reducible exact After.next (.updTile h)
  · with_reducible exact After.next h

theorem execHopDown_tables {hop : Fin 5} (h : TablesKept s₀ s) : After TablesKept s₀ (execHopDown hop s) := by
  unfold execHopDown
  with_reducible exact After.next (.downHop h)

theorem execPartitionViolation_tables {tile : BitVec 7} {frameCritical : Bool} (h : TablesKept s₀ s)
    : After TablesKept s₀ (execPartitionViolation tile frameCritical s) := by
  unfold execPartitionViolation
  extract_lets
  with_reducible refine After.ite (.next (.loseTile h)) ?_
  extract_lets
  split
  · with_reducible exact After.next (.ite (.requestJob (.endAt (.giveWay h))) h)
  · with_reducible exact After.next h

theorem execScratchUe_tables {tile : BitVec 7} {page : BitVec 10} (h : TablesKept s₀ s)
    : After TablesKept s₀ (execScratchUe tile page s) := by
  unfold execScratchUe
  extract_lets
  with_reducible refine After.ite (.next (.loseTile (.raise (.setField (.count h))))) ?_
  extract_lets
  split
  · with_reducible exact After.next (.requestJob (.endAt (.updTile (.raise (.setField (.count h))))))
  · with_reducible exact After.next (.updTile (.raise (.setField (.count h))))

theorem execYieldPoint_tables {tile : BitVec 7} (h : TablesKept s₀ s) : After TablesKept s₀ (execYieldPoint tile s) := by
  unfold execYieldPoint
  extract_lets
  with_reducible exact After.ite (.next (.count (.giveWay h))) (.next h)

-- Memory

theorem TablesKept.takeSpare {page : Nat} {spare : Option Nat} (h : TablesKept s₀ s) : TablesKept s₀ (s.takeSpare page spare) := by
  unfold State.takeSpare
  extract_lets
  split
  · with_reducible exact TablesKept.updDev h
  · with_reducible exact TablesKept.withMem h id id id

theorem TablesKept.allotPages (h : TablesKept s₀ s) : TablesKept s₀ s.allotPages := by
  unfold State.allotPages
  extract_lets
  with_reducible exact TablesKept.foldl (fun _ _ h => .sparesLow (.takeSpare h)) (.withMem h id id id)

theorem TablesKept.runOnTile {t : Nat} (h : TablesKept s₀ s) : TablesKept s₀ (s.runOnTile t) := by
  unfold State.runOnTile
  with_reducible exact TablesKept.updTile h

theorem TablesKept.updBank {t : Nat} {owner : Option Nat} {f : Bank → Bank} (h : TablesKept s₀ s)
    : TablesKept s₀ (s.updBank t owner f) := by
  unfold State.updBank
  with_reducible exact TablesKept.updTile h

theorem TablesKept.advanceCopy {t q : Nat} {owner : Option Nat} {c : Copy} (h : TablesKept s₀ s)
    : TablesKept s₀ (s.advanceCopy t q owner c) := by
  unfold State.advanceCopy
  extract_lets
  split
  · with_reducible exact TablesKept.ite (.releaseShelf (.updBank h)) (.updBank h)
  · with_reducible refine TablesKept.ite (.runOnTile (.ite (.releaseShelf (.updBank h)) (.updBank h))) ?_
    extract_lets
    split
    · with_reducible exact TablesKept.noteCopy (.ite (.releaseShelf (.updBank h)) (.updBank h))
    · with_reducible exact TablesKept.ite (.releaseShelf (.updBank h)) (.updBank h)

theorem TablesKept.cellarTick (h : TablesKept s₀ s) : TablesKept s₀ s.cellarTick := by
  unfold State.cellarTick
  extract_lets
  with_reducible exact TablesKept.ite (.withMem h id id id) h

theorem TablesKept.reportFault {frame : Nat} {e : Nat × Nat × Nat × JobFault} (h : TablesKept s₀ s)
    : TablesKept s₀ (s.reportFault frame e) := by
  unfold State.reportFault
  extract_lets
  with_reducible exact TablesKept.withMem h id id id

theorem TablesKept.takeFault {cycles : Nat} {e : Nat × Nat × Nat × JobFault} (h : TablesKept s₀ s)
    : TablesKept s₀ (s.takeFault cycles e) := by
  unfold State.takeFault
  with_reducible exact TablesKept.ite (.raise h) (.ite h (.ite (.updJob (.raise (.raise h))) (.endAt (.raise h))))

theorem TablesKept.faultTick {cycles : Nat} (h : TablesKept s₀ s) : TablesKept s₀ (s.faultTick cycles) := by
  unfold State.faultTick
  extract_lets
  split
  · with_reducible exact TablesKept.foldl (fun _ _ h => .takeFault h) (.withMem (.reportFault h) id id id)
  · exact h

theorem TablesKept.loseDevice {d : Nat} (h : TablesKept s₀ s) : TablesKept s₀ (s.loseDevice d) := by
  unfold State.loseDevice
  extract_lets
  with_reducible exact TablesKept.ite h (.each (fun _ _ h => .endAt h) (.record (.withMem (.raise (.updDev h)) id id id)))

theorem TablesKept.finishRetire {page cause : Nat} {spare : Option Nat} (h : TablesKept s₀ s)
    : TablesKept s₀ (s.finishRetire page cause spare) := by
  unfold State.finishRetire
  extract_lets
  with_reducible exact TablesKept.sparesLow (.record (.raise (.ite (.takeSpare (.withMem h id id id)) (.withMem (.withMem h id id id) id
    id id))))

theorem TablesKept.retireTick (h : TablesKept s₀ s) : TablesKept s₀ s.retireTick := by
  unfold State.retireTick
  with_reducible exact TablesKept.foldl (fun _ _ h => .finishRetire h) h

theorem TablesKept.memTick {cycles : Nat} (h : TablesKept s₀ s) : TablesKept s₀ (s.memTick cycles) := by
  unfold State.memTick
  extract_lets
  with_reducible exact TablesKept.each (fun _ _ h => .endAt h) (.faultTick (.cellarTick (.each (fun _ _ h => .loseDevice h) (.retireTick
    h))))

theorem TablesKept.badLine {page : Nat} (h : TablesKept s₀ s) : TablesKept s₀ (s.badLine page) := by
  unfold State.badLine
  extract_lets
  with_reducible exact TablesKept.updDev (.count (.count h))

theorem TablesKept.checkBeat {t j : Nat} {c : Copy} {x4 : BeatOutcome} (h : TablesKept s₀ s) : TablesKept s₀ (s.checkBeat t j c x4) := by
  unfold State.checkBeat
  split
  · split
    · with_reducible exact TablesKept.checkReserved h
    · exact h
  · exact h

theorem TablesKept.copyFault {t q j : Nat} {c : Copy} {beat : Option Nat} {f : CopyFault} {addr : Nat} (h : TablesKept s₀ s) :
    TablesKept s₀ (s.copyFault t q j c beat f addr) := by
  unfold State.copyFault
  extract_lets e _ s₁ s₂
  have h₁ : TablesKept s₀ s₁ := .withMem h id id id
  have h₂ : TablesKept s₀ s₂ := by
    dsimp only [s₂]
    split
    · exact .updBank h₁
    · exact h₁
  exact .ite h₁ (.requestJob h₂)

theorem TablesKept.retirePage {page cause : Nat} (h : TablesKept s₀ s) : TablesKept s₀ (s.retirePage page cause) := by
  unfold State.retirePage
  extract_lets
  with_reducible refine TablesKept.ite h ?_
  extract_lets
  split
  · with_reducible exact TablesKept.ite (.withMem h id id id) (.finishRetire h)
  · with_reducible exact TablesKept.finishRetire h

theorem TablesKept.correctedLine {page cause : Nat} (h : TablesKept s₀ s) : TablesKept s₀ (s.correctedLine page cause) := by
  unfold State.correctedLine
  extract_lets s₁ n _ s₂
  have h₁ : TablesKept s₀ s₁ := .count (.count h)
  have h₂ : TablesKept s₀ s₂ := .withMem h₁ id id (fun k => twf_tset k _ _)
  with_reducible exact .ite (.retirePage h₂) h₂

theorem TablesKept.lineLost {page cause : Nat} (h : TablesKept s₀ s) : TablesKept s₀ (s.lineLost page cause) := by
  unfold State.lineLost
  extract_lets
  with_reducible exact TablesKept.verdict (fun _ h => .retirePage (.retirePage (.record (.faultOn h)))) (.raise (.badLine (.badLine h)))

theorem TablesKept.oneCopy {page cause : Nat} {again : Bool} (h : TablesKept s₀ s) : TablesKept s₀ (s.oneCopy page cause again) := by
  unfold State.oneCopy
  extract_lets
  with_reducible exact TablesKept.ite (.retirePage (.count (.badLine h))) (.count (.badLine h))

theorem TablesKept.lineError {o : BeatOutcome} (h : TablesKept s₀ s) : TablesKept s₀ (s.lineError o).1 := by
  cases o with
  | corrected p =>
    dsimp only [State.lineError]
    with_reducible exact .correctedLine h
  | unprotected p =>
    dsimp only [State.lineError]
    split
    · exact h
    · with_reducible exact .retirePage (.badLine h)
  | oneCopy p again =>
    dsimp only [State.lineError]
    with_reducible exact .oneCopy h
  | bothCopies p n =>
    dsimp only [State.lineError]
    with_reducible exact .freeTick (.lineLost h)
  | _ => exact h

theorem TablesKept.pushWords {n : Nat} {ws : List Word} {t : State} (h : TablesKept s₀ s) (ht : s.pushWords n ws = some t) :
    TablesKept s₀ t := by
  induction ws generalizing s with
  | nil => cases ht; exact h
  | cons w ws ih =>
    unfold State.pushWords at ht
    split at ht
    · exact ih (.rewind h) ht
    · split at ht
      case h_1 u hu => exact ih (.storeWord (h.makeRoom hu)) ht
      case h_2 => cases ht

theorem TablesKept.writeScratch {t : Nat} {pages : List Nat} {o : Nat} {l : List Byte} (h : TablesKept s₀ s)
    : TablesKept s₀ (s.writeScratch t pages o l) := by
  unfold State.writeScratch
  with_reducible refine TablesKept.foldl (fun _ _ h => ?_) ?_
  · extract_lets
    split
    · with_reducible exact TablesKept.writeByte h
    · exact h
  · exact h

theorem TablesKept.writeLoc {l : List Byte} {x : Loc} {t : State} (h : TablesKept s₀ s) (ht : s.writeLoc l x = some t) :
    TablesKept s₀ t := by
  cases x with
  | ram a => cases ht; exact .writeBytes h
  | scratch i pages o => cases ht; exact .writeScratch h
  | bank i other o => cases ht; exact .updTable h
  | hall seat o => cases ht; exact .hallWrite h
  | cellar a => cases ht; exact h
  | shelf k => exact h.pushWords ht

theorem TablesKept.faultBeat {t q j : Nat} {c : Copy} {b : Nat} {f : CopyFault} (h : TablesKept s₀ s) :
    TablesKept s₀ (s.faultBeat t q j c b f) := by
  unfold State.faultBeat
  split
  · exact .copyFault h
  · exact h

/-- What a beat leaves that writes its bytes and advances its copy. -/
theorem TablesKept.movedTo {l : List Byte} {x : Loc} {t q : Nat} {j : Option Nat} {c : Copy} (h : TablesKept s₀ s) :
    TablesKept s₀ (match s.writeLoc l x with | some u => u.advanceCopy t q j c | none => s) := by
  split
  case h_1 u hu => exact .advanceCopy (h.writeLoc hu)
  case h_2 => exact h

theorem TablesKept.moveBeat {t q j : Nat} {c : Copy} {b : Nat} {cellar : List Byte} {lost : Option Nat}
    {win : Nat × Nat × Bool} (h : TablesKept s₀ s) : TablesKept s₀ (s.moveBeat t q j c b cellar lost win) := by
  unfold State.moveBeat
  extract_lets
  split
  split
  · exact .copyFault h
  · exact .copyFault h
  · exact .copyFault h
  · exact .copyFault h
  · extract_lets put
    have hput : TablesKept s₀ (put s) := h.movedTo
    split
    · exact .ite hput (.advanceCopy (.copyFault h))
    · exact .ite (.copyFault h) (.ite h hput)
    · exact hput

theorem TablesKept.reserveCopy {t q j : Nat} {c : Copy} {n : Nat} (h : TablesKept s₀ s) : TablesKept s₀ (s.reserveCopy t q j c n).1 := by
  unfold State.reserveCopy
  split
  · exact h
  · extract_lets s₁ c₁
    dsimp only
    exact .updBank (.reserveShelf h)

theorem TablesKept.reserveFor {t q j : Nat} {c : Copy} (h : TablesKept s₀ s) : TablesKept s₀ (s.reserveFor t q j c).1 := by
  unfold State.reserveFor
  split
  · exact .reserveCopy h
  · exact h

theorem TablesKept.bulkBeat {t q j : Nat} {c : Copy} {b : Nat} {out : BeatOutcome} (h : TablesKept s₀ s) :
    TablesKept s₀ (s.bulkBeat t q j c b out) := by
  have hr := h.reserveFor (t := t) (q := q) (j := j) (c := c)
  unfold State.bulkBeat
  revert hr
  generalize s.reserveFor t q j c = r
  obtain ⟨s₁, c₁⟩ := r
  intro hr
  dsimp only at hr ⊢
  refine .ite (.ite (.advanceCopy hr) hr) ?_
  generalize s₁.lineOutcome out = o
  have hl : TablesKept s₀ ((s₁.checkBeat t j c₁ o).lineError o).1 := .lineError (.checkBeat hr)
  revert hl
  generalize (s₁.checkBeat t j c₁ o).lineError o = e
  obtain ⟨s₂, f, lost⟩ := e
  intro hl
  cases f with
  | none => exact .moveBeat hl
  | some f => exact .faultBeat hl

theorem TablesKept.frameBeat {t q : Nat} {c : Copy} {b : Nat} {out : BeatOutcome} (h : TablesKept s₀ s) :
    TablesKept s₀ (s.frameBeat t q c b out) := by
  unfold State.frameBeat
  refine .ite h ?_
  have hl := h.lineError (o := s.lineOutcome out)
  revert hl
  generalize s.lineError (s.lineOutcome out) = e
  obtain ⟨s₁, f, lost⟩ := e
  intro hl
  have hfail (f : CopyFault) (a : Nat) : TablesKept s₀ (if f = .protection ∧ a < 0x400000 then s₁.loseTile t else s₁) := .ite (.loseTile hl) hl
  dsimp only
  split
  · exact hfail _ _
  · exact hfail _ _
  · exact hfail _ _
  · exact hfail _ _
  · exact .movedTo hl

theorem TablesKept.loadBeat {num b : Nat} {bytes : List Byte} {failed : Bool} (h : TablesKept s₀ s)
    : TablesKept s₀ (s.loadBeat num b bytes failed) := by
  unfold State.loadBeat
  extract_lets
  with_reducible exact TablesKept.ite h (.withPlan h (fun k => twf_tupd k _ _))

theorem TablesKept.scrubBad {p : Nat} {again : Bool} (h : TablesKept s₀ s) : TablesKept s₀ (s.scrubBad p again) := by
  unfold State.scrubBad
  with_reducible exact TablesKept.ite (.oneCopy h) (.retirePage (.badLine h))

theorem TablesKept.scrubFinds {p : Nat} {x2 : ScrubResult} (h : TablesKept s₀ s) : TablesKept s₀ (s.scrubFinds p x2) := by
  unfold State.scrubFinds
  split
  · exact h
  · with_reducible exact TablesKept.correctedLine h
  · with_reducible exact TablesKept.scrubBad h
  · with_reducible exact TablesKept.ite (.lineLost h) (.scrubBad h)
  · split
    · exact h
    · with_reducible exact TablesKept.correctedLine h
    · with_reducible exact TablesKept.scrubBad h

theorem execCellarApply_tables (h : TablesKept s₀ s) : After TablesKept s₀ (execCellarApply s) := by
  unfold execCellarApply
  extract_lets
  with_reducible exact After.next (.withMem h id id id)

theorem execBeatComplete_tables {tile : BitVec 7} {queue : BitVec 2} {beat : Option (BitVec 8) × Nat} {out : BeatOutcome}
    (h : TablesKept s₀ s) : After TablesKept s₀ (execBeatComplete tile queue beat out s) := by
  unfold execBeatComplete
  extract_lets
  split
  · with_reducible exact After.next (.loadBeat h)
  · with_reducible exact After.next (.raise (.loadBeat h))
  · with_reducible refine After.ite (.next h) ?_
    extract_lets
    split
    · split
      · with_reducible exact After.next (.frameBeat h)
      · with_reducible exact After.next h
    · split
      · split
        · with_reducible exact After.next (.bulkBeat h)
        · with_reducible exact After.next h
      · with_reducible exact After.next h

theorem execCellarTimeout_tables {tile : BitVec 7} {queue : BitVec 2} {beat : BitVec 8 × Nat} (h : TablesKept s₀ s)
    : After TablesKept s₀ (execCellarTimeout tile queue beat s) := by
  unfold execCellarTimeout
  extract_lets
  split
  · split
    · with_reducible exact After.next (.ite h (.faultBeat h))
    · with_reducible exact After.next h
  · with_reducible exact After.next h

theorem execChannelRetraining_tables {dev : Fin 16} {success : Bool} (h : TablesKept s₀ s)
    : After TablesKept s₀ (execChannelRetraining dev success s) := by
  unfold execChannelRetraining
  extract_lets
  with_reducible exact After.ite (.next h) (.next (.updDev h))

theorem execCopyFence_tables {tile : BitVec 7} {queues : BitVec 4} (h : TablesKept s₀ s)
    : After TablesKept s₀ (execCopyFence tile queues s) := by
  unfold execCopyFence
  extract_lets
  with_reducible refine After.ite ?_ ?_
  · extract_lets
    split
    · with_reducible exact After.next (.ite (.giveWay (.updTile h)) (.updTile (.noteCopy (.updTile h))))
    · with_reducible exact After.next h
  · with_reducible exact After.ite (.next (.updTile h)) (.next h)

theorem execCopyIssue_tables {tile : BitVec 7} {queue : BitVec 2} {d : CopyDesc} (h : TablesKept s₀ s)
    : After TablesKept s₀ (execCopyIssue tile queue d s) := by
  unfold execCopyIssue
  extract_lets
  with_reducible refine After.ite (.next h) (.ite (.ite (.next (.updBank h)) (.next h)) ?_)
  extract_lets
  split
  · with_reducible exact After.ite (.next h) (.ite (.next (.copyFault h)) (.next (.updBank h)))
  · with_reducible exact After.next h

theorem execFaultLimit_tables {job : BitVec 8} (h : TablesKept s₀ s) : After TablesKept s₀ (execFaultLimit job s) := by
  unfold execFaultLimit
  extract_lets
  with_reducible exact After.ite (.next (.endAt h)) (.next h)

theorem execFaultRetry_tables {job : BitVec 8} {completes : Bool} (h : TablesKept s₀ s)
    : After TablesKept s₀ (execFaultRetry job completes s) := by
  unfold execFaultRetry
  extract_lets
  split
  · with_reducible exact After.ite (.next (.updJob h)) (.next h)
  · with_reducible exact After.next h

theorem execGddr7DeviceLost_tables {dev : Fin 16} (h : TablesKept s₀ s) : After TablesKept s₀ (execGddr7DeviceLost dev s) := by
  unfold execGddr7DeviceLost
  with_reducible exact After.next (.loseDevice h)

theorem execPageZeroed_tables {job : BitVec 8} {pages : BitVec 24} (h : TablesKept s₀ s)
    : After TablesKept s₀ (execPageZeroed job pages s) := by
  unfold execPageZeroed
  extract_lets
  with_reducible exact After.next (.withMem h id (fun k => twf_tupd k _ _) id)

theorem execPatrolScrub_tables {page : BitVec 24} {r : ScrubResult} (h : TablesKept s₀ s)
    : After TablesKept s₀ (execPatrolScrub page r s) := by
  unfold execPatrolScrub
  extract_lets
  with_reducible exact After.ite (.next h) (.next (.scrubFinds (.updDev h)))

theorem execRetireSwitch_tables {page : BitVec 24} (h : TablesKept s₀ s) : After TablesKept s₀ (execRetireSwitch page s) := by
  unfold execRetireSwitch
  extract_lets
  with_reducible exact After.next (.withMem h id id id)

-- Jobs

theorem TablesKept.placeJob {j pages : Nat} {l : List Nat} (h : TablesKept s₀ s) : TablesKept s₀ (s.placeJob j pages l) := by
  unfold State.placeJob
  with_reducible exact TablesKept.each (fun _ _ h => .updTile h) h

theorem TablesKept.setJob {j : Nat} {st : JobState} (h : TablesKept s₀ s) : TablesKept s₀ (s.setJob j st) := by
  unfold State.setJob
  with_reducible exact TablesKept.ite h (.jobNotice (.updJob h))

theorem TablesKept.admitJob {j seat : Nat} {r : JobRec} {held resident : Bool} (h : TablesKept s₀ s)
    : TablesKept s₀ (s.admitJob j seat r held resident) := by
  unfold State.admitJob
  extract_lets
  with_reducible exact TablesKept.setJob (.placeJob (.updJob (.allotPages h)))

theorem TablesKept.freeClaims {j : Nat} (h : TablesKept s₀ s) : TablesKept s₀ (s.freeClaims j) := by
  unfold State.freeClaims
  extract_lets
  with_reducible exact TablesKept.withPlan h id

theorem TablesKept.freeMemory {j : Nat} {again : Bool} (h : TablesKept s₀ s) : TablesKept s₀ (s.freeMemory j again) := by
  unfold State.freeMemory
  extract_lets
  with_reducible exact TablesKept.withMem (.ite (.zeroBytes h) (.zeroBytes h)) id (fun k => twf_tupd k _ _) id

theorem TablesKept.freeShelves {j : Nat} (h : TablesKept s₀ s) : TablesKept s₀ (s.freeShelves j) := by
  unfold State.freeShelves
  with_reducible exact TablesKept.each (fun _ _ h => .ite (.returnShelf (.ite (.abortPacket h) h)) (.ite (.abortPacket h) h)) h

theorem TablesKept.endJob {r j : Nat} (h : TablesKept s₀ s) : TablesKept s₀ (s.endJob r j) := by
  unfold State.endJob
  extract_lets again _ s₁ s₂ _ s₃ s₄ s₅
  have h₁ : TablesKept s₀ s₁ := .withTil h (fun k => twf_tmap k _) id
  have h₂ : TablesKept s₀ s₂ := .freeMemory (.freeShelves (.freeClaims h₁))
  have h₃ : TablesKept s₀ s₃ := .withEst h₂ (by split <;> exact id)
  have h₅ : TablesKept s₀ s₅ := .raise (.setJob (.updJob h₃))
  with_reducible exact .ite (.raise h₅) h₅

theorem TablesKept.endNow {r j : Nat} (h : TablesKept s₀ s) : TablesKept s₀ (s.endNow r j) := by
  unfold State.endNow
  with_reducible exact TablesKept.endJob h

theorem TablesKept.storePages {j t : Nat} {back : Bool} (h : TablesKept s₀ s) : TablesKept s₀ (s.storePages j t back) := by
  unfold State.storePages
  with_reducible exact TablesKept.foldl (fun _ _ h => .ite (.copyRange h) (.copyRange h)) h

theorem TablesKept.evictJob {j : Nat} (h : TablesKept s₀ s) : TablesKept s₀ (s.evictJob j) := by
  unfold State.evictJob
  extract_lets
  with_reducible exact TablesKept.updJob (.each (fun _ _ h => .ite (.ite (.updTile (.giveWay h)) h) (.storePages (.ite (.updTile (.giveWay
    h)) h))) h)

theorem TablesKept.restartJob {j : Nat} (h : TablesKept s₀ s) : TablesKept s₀ (s.restartJob j) := by
  unfold State.restartJob
  extract_lets
  split
  · extract_lets
    split
    · with_reducible exact TablesKept.zeroBytes (.copyRange (.admitJob (.updJob h)))
    · with_reducible exact TablesKept.raise (.jobNotice (.updJob (.updJob h)))
  · exact h

theorem TablesKept.retryRefused (h : TablesKept s₀ s) : TablesKept s₀ s.retryRefused := by
  unfold State.retryRefused
  with_reducible exact TablesKept.each (fun _ _ h => .restartJob h) h

theorem TablesKept.takeSlot {i n : Nat} (h : TablesKept s₀ s) : TablesKept s₀ (s.takeSlot i n) := by
  unfold State.takeSlot
  extract_lets
  with_reducible exact TablesKept.withTaken (.count (.hallWrite (.hallWrite h)))

theorem TablesKept.takeOrders (h : TablesKept s₀ s) : TablesKept s₀ s.takeOrders := by
  unfold State.takeOrders
  with_reducible exact TablesKept.foldl (fun _ _ h => .takeSlot h) h

theorem TablesKept.settleParks {j : Nat} (h : TablesKept s₀ s) : TablesKept s₀ (s.settleParks j) := by
  unfold State.settleParks
  extract_lets
  with_reducible exact TablesKept.ite h (.ite (.setJob (.requestJob h)) (.ite (.setJob h) h))

theorem TablesKept.control {op j : Nat} (h : TablesKept s₀ s) : TablesKept s₀ (s.control op j) := by
  unfold State.control
  split
  · with_reducible exact TablesKept.settleParks (.updJob h)
  · with_reducible exact TablesKept.settleParks (.updJob h)
  · with_reducible exact TablesKept.endJob h
  · exact h

theorem TablesKept.controlOrder {o : TakenOrder} (h : TablesKept s₀ s) : TablesKept s₀ (s.controlOrder o) := by
  unfold State.controlOrder
  extract_lets
  with_reducible exact TablesKept.settle (.ite (.control h) h)

theorem TablesKept.controlOrders (h : TablesKept s₀ s) : TablesKept s₀ s.controlOrders := by
  unfold State.controlOrders
  with_reducible exact TablesKept.foldl (fun _ _ h => .controlOrder h) h

theorem TablesKept.endJobs (h : TablesKept s₀ s) : TablesKept s₀ s.endJobs := by
  unfold State.endJobs
  with_reducible refine TablesKept.each (fun _ _ h => ?_) ?_
  · extract_lets
    split
    · with_reducible exact TablesKept.endJob h
    · exact h
  · exact h

theorem TablesKept.freeNumbers (h : TablesKept s₀ s) : TablesKept s₀ s.freeNumbers := by
  unfold State.freeNumbers
  extract_lets
  with_reducible exact TablesKept.withTil h id (fun k => twf_tmap k _)

theorem TablesKept.parkTick (h : TablesKept s₀ s) : TablesKept s₀ s.parkTick := by
  unfold State.parkTick
  with_reducible exact TablesKept.each (fun _ _ h => .settleParks (.updJob h)) h

theorem TablesKept.reloadJob {j : Nat} (h : TablesKept s₀ s) : TablesKept s₀ (s.reloadJob j) := by
  unfold State.reloadJob
  with_reducible exact TablesKept.updJob (.each (fun _ _ h => .storePages h) h)

theorem TablesKept.schedule (h : TablesKept s₀ s) : TablesKept s₀ s.schedule := by
  unfold State.schedule
  extract_lets run held s₁ _ s₂ s₃
  have h₁ : TablesKept s₀ s₁ := .each (fun _ _ h => .ite (.giveWay h) h) h
  have h₂ : TablesKept s₀ s₂ := .withTil h₁ (fun k => twf_tmap k _) id
  have h₃ : TablesKept s₀ s₃ := .each (fun _ _ h => .ite (.setJob h) h) h₂
  with_reducible exact .each (fun _ _ h => .each (fun _ _ h => .ite (.updTile h) (.switchTo h)) (.setJob (.ite (.reloadJob h) h))) h₃

theorem TablesKept.takeJobCtl (h : TablesKept s₀ s) : TablesKept s₀ s.takeJobCtl := by
  unfold State.takeJobCtl
  extract_lets
  split
  · with_reducible exact TablesKept.ite (.control (.withTil h id id)) (.withTil h id id)
  · exact h

theorem TablesKept.jobTick (h : TablesKept s₀ s) : TablesKept s₀ s.jobTick := by
  unfold State.jobTick
  extract_lets
  with_reducible exact TablesKept.freeNumbers (.each (fun _ _ h => .settleParks (.setJob (.updJob h))) (.schedule (.parkTick
    (.controlOrders (.takeJobCtl (.each (fun _ _ h => .restartJob h) (.endJobs h)))))))

theorem TablesKept.startJob {o : TakenOrder} (h : TablesKept s₀ s) : TablesKept s₀ (s.startJob o) := by
  unfold State.startJob
  extract_lets
  split
  · with_reducible exact TablesKept.settle (.admitJob h)
  · with_reducible exact TablesKept.settle (.raise h)

theorem TablesKept.countRan {ran : List (Nat × Nat)} (h : TablesKept s₀ s) : TablesKept s₀ (s.countRan ran) := by
  unfold State.countRan
  extract_lets
  with_reducible exact TablesKept.foldl (fun _ _ h => .updJob h) h

theorem TablesKept.takeEarly {i n typ : Nat} (h : TablesKept s₀ s) : TablesKept s₀ (s.takeEarly i n typ) := by
  unfold State.takeEarly
  with_reducible exact TablesKept.ite (.takeSlot h) h

theorem TablesKept.jobCtl {src : CtlSource} {op j : Nat} (h : TablesKept s₀ s) : TablesKept s₀ (s.jobCtl src op j) := by
  unfold State.jobCtl
  extract_lets
  split
  · with_reducible exact TablesKept.ite (.withTil h id id) h
  · with_reducible exact TablesKept.ite (.takeEarly h) h

theorem execJobPark_tables {src : CtlSource} {job : BitVec 8} (h : TablesKept s₀ s) : After TablesKept s₀ (execJobPark src job s) := by
  unfold execJobPark
  with_reducible exact After.next (.jobCtl h)

theorem execJobResume_tables {src : CtlSource} {job : BitVec 8} (h : TablesKept s₀ s)
    : After TablesKept s₀ (execJobResume src job s) := by
  unfold execJobResume
  with_reducible exact After.next (.jobCtl h)

theorem execJobStop_tables {src : CtlSource} {job : BitVec 8} (h : TablesKept s₀ s) : After TablesKept s₀ (execJobStop src job s) := by
  unfold execJobStop
  with_reducible exact After.next (.jobCtl h)

theorem execGuardSlotStart_tables {missed : List (BitVec 7)} (h : TablesKept s₀ s)
    : After TablesKept s₀ (execGuardSlotStart missed s) := by
  unfold execGuardSlotStart
  extract_lets
  with_reducible exact After.ite (.next (.each (fun _ _ h => .requestTile h) (.each (fun _ _ h => .tokenTile h) h))) (.next h)

theorem execJobAdmitted_tables {job : BitVec 8} (h : TablesKept s₀ s) : After TablesKept s₀ (execJobAdmitted job s) := by
  unfold execJobAdmitted
  extract_lets
  split
  · with_reducible exact After.ite (.next h) (.ite (.next (.updJob (.copyRange h))) (.next (.endAt (.updJob h))))
  · with_reducible exact After.next h

theorem execJobExit_tables {job : BitVec 8} {code : BitVec 32} (h : TablesKept s₀ s) : After TablesKept s₀ (execJobExit job code s) := by
  unfold execJobExit
  extract_lets
  with_reducible exact After.ite (.next (.requestJob (.endAt (.updJob h)))) (.next h)

theorem execJobStart_tables {seat : BitVec 3} {slot : BitVec 12} (h : TablesKept s₀ s)
    : After TablesKept s₀ (execJobStart seat slot s) := by
  unfold execJobStart
  split
  · with_reducible exact After.next (.startJob h)
  · with_reducible exact After.next h

-- Table banks

theorem TablesKept.rearmAll (h : TablesKept s₀ s) : TablesKept s₀ s.rearmAll := by
  unfold State.rearmAll
  extract_lets
  with_reducible exact TablesKept.withMov h id id (fun k => twf_tmap k _) id

theorem TablesKept.restartPlanning (h : TablesKept s₀ s) : TablesKept s₀ s.restartPlanning := by
  unfold State.restartPlanning
  with_reducible exact TablesKept.ite (.raise (.count h)) h

theorem TablesKept.swapTakeEffect (h : TablesKept s₀ s) : TablesKept s₀ s.swapTakeEffect := by
  unfold State.swapTakeEffect
  with_reducible exact TablesKept.each (fun _ _ h => .ite (.rearmAll (.ite (.withMov (.restartPlanning (.raise (.updTable h))) id id id
    id) (.raise (.updTable h)))) (.ite (.withMov (.restartPlanning (.raise (.updTable h))) id id id id) (.raise (.updTable h)))) h

theorem TablesKept.ditherTick (h : TablesKept s₀ s) : TablesKept s₀ s.ditherTick := by
  unfold State.ditherTick
  extract_lets
  split
  · with_reducible exact TablesKept.withEstFree h id
  · with_reducible exact TablesKept.ite h (.withEstFree h id)

theorem TablesKept.dropParams (h : TablesKept s₀ s) : TablesKept s₀ s.dropParams := by
  unfold State.dropParams
  extract_lets
  with_reducible exact TablesKept.ite (.withEst (.ite (.withEst h id) h) id) (.ite (.withEst h id) h)

theorem TablesKept.rebuildAsk (h : TablesKept s₀ s) : TablesKept s₀ s.rebuildAsk := by
  unfold State.rebuildAsk
  extract_lets
  split
  · with_reducible exact TablesKept.ite (.withPlan h id) h
  · exact h

theorem TablesKept.settleTick {j : Nat} (h : TablesKept s₀ s) : TablesKept s₀ (s.settleTick j) := by
  unfold State.settleTick
  extract_lets
  with_reducible exact TablesKept.withEst h id

theorem TablesKept.rebuildTick (h : TablesKept s₀ s) : TablesKept s₀ s.rebuildTick := by
  unfold State.rebuildTick
  extract_lets
  split
  · split
    · with_reducible exact TablesKept.ite (.withEst h id) h
    · with_reducible exact TablesKept.ite (.settleTick h) (.withEst h id)
    · with_reducible exact TablesKept.withEst h id
  · with_reducible exact TablesKept.ite h (.withEst h id)

theorem TablesKept.readParams {j : Nat} (h : TablesKept s₀ s) : TablesKept s₀ (s.readParams j) := by
  unfold State.readParams
  extract_lets
  split
  · with_reducible exact TablesKept.withEst h id
  · with_reducible exact TablesKept.withEst h id
  · exact h

theorem TablesKept.takeClaim {c : Nat × Nat × Bool} (h : TablesKept s₀ s) : TablesKept s₀ (s.takeClaim c) := by
  unfold State.takeClaim
  extract_lets
  split
  · with_reducible exact TablesKept.ite (.readParams (.updJob (.updTable h))) (.ite (.withEst (.updJob h) id) (.updJob h))
  · exact h

theorem TablesKept.takeClaims (h : TablesKept s₀ s) : TablesKept s₀ s.takeClaims := by
  unfold State.takeClaims
  extract_lets
  with_reducible exact TablesKept.foldl (fun _ _ h => .takeClaim h) (.withPlan h id)

theorem TablesKept.takeTable (h : TablesKept s₀ s) : TablesKept s₀ s.takeTable := by
  unfold State.takeTable
  extract_lets
  split
  · with_reducible exact TablesKept.ite (.withOps h) (.ite (.withPlan (.withOps h) id) (.ite (.updTable (.withPlan (.withOps h) id))
      (.updTable (.withPlan (.withPlan (.withOps h) id) id))))
  · exact h

theorem TablesKept.tableTick (h : TablesKept s₀ s) : TablesKept s₀ s.tableTick := by
  unfold State.tableTick
  with_reducible exact TablesKept.ditherTick (.dropParams (.rebuildTick (.takeClaims (.rebuildAsk (.takeTable h)))))

theorem execTableWindowAccess_tables {offset : BitVec 21} {w : Width} {data : Option Word} (h : TablesKept s₀ s)
    : After TablesKept s₀ (execTableWindowAccess offset w data s) := by
  unfold execTableWindowAccess
  extract_lets
  with_reducible refine After.ite (.fault _ _ _) ?_
  extract_lets
  split
  · with_reducible refine After.ite ?_ ?_
    · extract_lets
      split
      · with_reducible exact After.next (.updTable h)
      · with_reducible exact After.next (.withReadData h)
    · with_reducible exact After.ite (.next h) (.next (.withReadData h))
  · with_reducible exact After.ite (.next h) (.next (.withReadData h))

theorem execAdaptCandidate_tables {job : BitVec 8} {samples : BitVec 32} (h : TablesKept s₀ s)
    : After TablesKept s₀ (execAdaptCandidate job samples s) := by
  unfold execAdaptCandidate
  extract_lets
  with_reducible exact After.ite (.next (.withPlanEst (.withPlanEst h id id) id id)) (.next (.withPlanEst h id id))

theorem execAdaptDone_tables {committed candidate : BitVec 32} (h : TablesKept s₀ s)
    : After TablesKept s₀ (execAdaptDone committed candidate s) := by
  unfold execAdaptDone
  split
  · with_reducible exact After.ite (.next (.record (.raise (.withEst (.updTable h) id)))) (.next h)
  · with_reducible exact After.next h

theorem execCopyActiveDone_tables {table : BitVec 16} (h : TablesKept s₀ s) : After TablesKept s₀ (execCopyActiveDone table s) := by
  unfold execCopyActiveDone
  with_reducible exact After.next (.updTable h)

theorem execJobTableClaim_tables {job : BitVec 8} {table : BitVec 16} {op : TableOp} (h : TablesKept s₀ s)
    : After TablesKept s₀ (execJobTableClaim job table op s) := by
  unfold execJobTableClaim
  extract_lets
  with_reducible refine After.ite (.next h) ?_
  extract_lets
  split
  · with_reducible exact After.next (.withPlan h id)
  · with_reducible exact After.next (.updTable h)
  · with_reducible exact After.next (.updTable h)

theorem execRebuildRoundEnd_tables {job : BitVec 8} {averages : List (Nat × Int × Int × Int × Int)} (h : TablesKept s₀ s)
    : After TablesKept s₀ (execRebuildRoundEnd job averages s) := by
  unfold execRebuildRoundEnd
  extract_lets
  split
  · with_reducible exact After.ite (.next (.raise (.withEst (.updTable h) id))) (.next h)
  · with_reducible exact After.next h

theorem execSwapTakeEffect_tables (h : TablesKept s₀ s) : After TablesKept s₀ (execSwapTakeEffect s) := by
  unfold execSwapTakeEffect
  with_reducible exact After.next (.swapTakeEffect h)

end

end Sys2Proof.Machine
end

-- Tables through moves and the estimation ------------------------------------------------------------------------------------------------
section
/-! O3: every definition that reaches a table keeps the tables canonical, in the order of the model's files. `h` speaks of the state
before; each proof follows the definition's own lets and branches and names what each of its changes leaves. -/
namespace Sys2Proof.Machine

section
variable {s₀ s : State}

-- The planner

theorem TablesKept.recPath {num inp : Nat} {st : PathState} {reason : Nat} (h : TablesKept s₀ s)
    : TablesKept s₀ (s.recPath num inp st reason) := by
  unfold State.recPath
  with_reducible exact TablesKept.ite (.updPath h) h

theorem TablesKept.closePath {num inp code : Nat} {st : PathState} {reason : Nat} (h : TablesKept s₀ s)
    : TablesKept s₀ (s.closePath num inp code st reason) := by
  unfold State.closePath
  with_reducible exact TablesKept.recPath (.updMove h)

theorem TablesKept.endMove {num : Nat} {st : MoveState} {reason : Nat} {tick : Nat} (h : TablesKept s₀ s)
    : TablesKept s₀ (s.endMove num st reason tick) := by
  unfold State.endMove
  extract_lets
  with_reducible exact TablesKept.moveEvt (.stateNotice (.updMove h))

theorem TablesKept.sendSched {num : Nat} (h : TablesKept s₀ s) : TablesKept s₀ (s.sendSched num) := by
  unfold State.sendSched
  split
  · with_reducible exact TablesKept.foldl (fun _ _ h => .sendAll h) h
  · exact h

theorem TablesKept.failMove {num reason : Nat} (h : TablesKept s₀ s) : TablesKept s₀ (s.failMove num reason) := by
  unfold State.failMove
  split
  · with_reducible exact TablesKept.endMove (.each (fun _ _ h => .closePath h) h)
  · exact h

theorem TablesKept.beginPlanning {m : Move} (h : TablesKept s₀ s) : TablesKept s₀ (s.beginPlanning m) := by
  unfold State.beginPlanning
  extract_lets
  with_reducible exact TablesKept.ite (.foldl (fun _ _ h => .updPath h) (.each (fun _ _ h => .ite (.updPath h) h) (.each (fun _ _ h =>
    .updPath h) (.withEst (.each (fun _ _ h => .updLoop h) (.updMove h)) id)))) (.failMove (.foldl (fun _ _ h => .updPath h) (.each (fun _
    _ h => .ite (.updPath h) h) (.each (fun _ _ h => .updPath h) (.withEst (.each (fun _ _ h => .updLoop h) (.updMove h)) id)))))

theorem TablesKept.takeMove {o : TakenOrder} (h : TablesKept s₀ s) : TablesKept s₀ (s.takeMove o) := by
  unfold State.takeMove
  extract_lets
  with_reducible exact TablesKept.ite (.settle (.moveNotice (.withMov (.withMov h id id id id) id id id id))) (.settle (.raise
    (.moveNotice (.withMov h id id id id))))

theorem TablesKept.setPlanned {m : Move} {plans : List MirrorPlan} {start last : Nat} (h : TablesKept s₀ s)
    : TablesKept s₀ (s.setPlanned m plans start last) := by
  unfold State.setPlanned
  extract_lets
  with_reducible exact TablesKept.ite (.endMove (.ite (.inTick (fun _ h => .sendSched h) (.stateNotice (.maxField (.foldl (fun _ _ h =>
    .ite h (.updPath (.recPath h))) (.updMove h))))) (.stateNotice (.maxField (.foldl (fun _ _ h => .ite h (.updPath (.recPath h)))
    (.updMove h)))))) (.ite (.inTick (fun _ h => .sendSched h) (.stateNotice (.maxField (.foldl (fun _ _ h => .ite h (.updPath (.recPath
    h))) (.updMove h))))) (.stateNotice (.maxField (.foldl (fun _ _ h => .ite h (.updPath (.recPath h))) (.updMove h)))))

theorem TablesKept.planMove {m : Move} {routes : List Route} {loose failed : List Nat} (h : TablesKept s₀ s)
    : TablesKept s₀ (s.planMove m routes loose failed) := by
  unfold State.planMove
  extract_lets
  with_reducible exact TablesKept.ite (.failMove h) (.ite (.ite (.failMove h) h) (.ite h (.ite (.failMove h) (.setPlanned h))))

theorem execMove_tables {seat : BitVec 3} {slot : BitVec 12} (h : TablesKept s₀ s) : After TablesKept s₀ (execMove seat slot s) := by
  unfold execMove
  split
  · with_reducible exact After.next (.takeMove h)
  · with_reducible exact After.next h

theorem execPlanningDone_tables {routes : List Route} {loose failed : List (BitVec 13)} (h : TablesKept s₀ s)
    : After TablesKept s₀ (execPlanningDone routes loose failed s) := by
  unfold execPlanningDone
  split
  · with_reducible exact After.ite (.next (.planMove h)) (.next h)
  · with_reducible exact After.next h

theorem execPlanningStart_tables (h : TablesKept s₀ s) : After TablesKept s₀ (execPlanningStart s) := by
  unfold execPlanningStart
  with_reducible refine After.ite ?_ ?_
  · extract_lets
    split
    · with_reducible exact After.next (.beginPlanning h)
    · with_reducible exact After.next h
  · with_reducible exact After.next h

theorem TablesKept.addPart {num : Nat} {p : SchedPart} (h : TablesKept s₀ s) : TablesKept s₀ (execSchedCell.addPart s num p) := by
  unfold execSchedCell.addPart
  extract_lets
  with_reducible exact .foldl (fun _ _ h => .updPath h) (.each (fun _ _ h => .updLoop h) (.updMove h))

theorem execSchedCell_tables {p : SchedPart} (h : TablesKept s₀ s) : After TablesKept s₀ (execSchedCell p s) := by
  unfold execSchedCell
  refine .ite (.next h) ?_
  dsimp only
  split
  · with_reducible exact .ite (.next h) (.ite (.next (.addPart (.updMove h))) (.ite (.next h) (.next (.addPart h))))
  · with_reducible exact .next (.addPart (.withMov h id id id id))

-- Moves

theorem TablesKept.stopLoop {l : Nat} (h : TablesKept s₀ s) : TablesKept s₀ (s.stopLoop l) := by
  unfold State.stopLoop
  with_reducible exact TablesKept.updLoop h

theorem TablesKept.updMirror {num m : Nat} {f : MirrorPlan → MirrorPlan} (h : TablesKept s₀ s) : TablesKept s₀ (s.updMirror num m f) := by
  unfold State.updMirror
  with_reducible exact TablesKept.updMove h

theorem TablesKept.abortMirror {num : Nat} {p : MirrorPlan} (h : TablesKept s₀ s) : TablesKept s₀ (s.abortMirror num p) := by
  unfold State.abortMirror
  extract_lets
  with_reducible exact TablesKept.updMirror (.ite (.each (fun _ _ h => .stopLoop h) h) h)

theorem TablesKept.endIfComplete {num : Nat} {tick : Nat} (h : TablesKept s₀ s) : TablesKept s₀ (s.endIfComplete num tick) := by
  unfold State.endIfComplete
  split
  · with_reducible exact TablesKept.ite (.endMove h) h
  · exact h

theorem TablesKept.abortMove {num reason : Nat} {tick : Nat} (h : TablesKept s₀ s) : TablesKept s₀ (s.abortMove num reason tick) := by
  unfold State.abortMove
  split
  · with_reducible
      exact TablesKept.ite (.endMove (.updMove (.each (fun _ _ h => .closePath h) (.foldl (fun _ _ h => .abortMirror h) h))))
        (.endIfComplete (.updMove (.each (fun _ _ h => .closePath h) (.foldl (fun _ _ h => .abortMirror h) h))))
  · exact h

theorem TablesKept.leaveService {reason : Nat} {p : Nat × Nat} (h : TablesKept s₀ s) : TablesKept s₀ (s.leaveService reason p) := by
  unfold State.leaveService
  extract_lets
  with_reducible exact TablesKept.withMov (.updService (.ite (.updPath h) h)) id id id id

theorem TablesKept.setLeg {l : Nat} {g : Leg} (h : TablesKept s₀ s) : TablesKept s₀ (s.setLeg l g) := by
  unfold State.setLeg
  split
  · with_reducible exact TablesKept.updLoop h
  · with_reducible exact TablesKept.updLoop h
  · exact h

theorem TablesKept.legStep {num : Nat} {p : MirrorPlan} (h : TablesKept s₀ s) : TablesKept s₀ (s.legStep num p) := by
  unfold State.legStep
  extract_lets
  split
  · with_reducible exact TablesKept.updMirror (.setLeg (.setLeg (.ite (.foldl (fun _ _ h => .leaveService h) h) h)))
  · with_reducible exact TablesKept.updMirror h

theorem TablesKept.moveSteps {num : Nat} (h : TablesKept s₀ s) : TablesKept s₀ (s.moveSteps num) := by
  unfold State.moveSteps
  split
  · with_reducible exact TablesKept.foldl (fun _ _ h => .legStep h) h
  · exact h

theorem TablesKept.restoreRec {num i : Nat} (h : TablesKept s₀ s) : TablesKept s₀ (s.restoreRec num i) := by
  unfold State.restoreRec
  extract_lets
  with_reducible exact TablesKept.ite (.updPath h) h

theorem TablesKept.reopen {num : Nat} (h : TablesKept s₀ s) : TablesKept s₀ (s.reopen num) := by
  unfold State.reopen
  split
  · with_reducible exact TablesKept.ite (.withMov (.each (fun _ _ h => .updLoop h) h) id id id id) (.updMove (.each (fun _ _ h =>
      .restoreRec h) (.each (fun _ _ h => .updLoop h) h)))
  · exact h

theorem TablesKept.startMove {m : Move} (h : TablesKept s₀ s) : TablesKept s₀ (s.startMove m) := by
  unfold State.startMove
  extract_lets s₁ s₂ s₃
  have h₁ : TablesKept s₀ s₁ := by
    dsimp only [s₁]
    split
    · exact .ite (.leaveService h) h
    · exact h
  with_reducible exact .stateNotice (.each (fun _ _ h => .recPath h) (.updMove h₁))

theorem TablesKept.moveLegs (h : TablesKept s₀ s) : TablesKept s₀ s.moveLegs := by
  unfold State.moveLegs
  extract_lets
  with_reducible refine TablesKept.each (fun _ _ h => .moveSteps h) (.each (fun _ _ h => ?_) ?_)
  · extract_lets
    split
    · with_reducible exact TablesKept.ite (.reopen h) (.ite (.startMove h) h)
    · exact h
  · exact h

theorem TablesKept.makeReady {m : Move} {p : MovePath} (h : TablesKept s₀ s) : TablesKept s₀ (s.makeReady m p) := by
  unfold State.makeReady
  extract_lets
  with_reducible exact TablesKept.withMov (.updService (.updPath (.closePath h))) id id id id

theorem TablesKept.judgePath {m : Move} {p : MovePath} (h : TablesKept s₀ s) : TablesKept s₀ (s.judgePath m p) := by
  unfold State.judgePath
  extract_lets
  with_reducible exact TablesKept.ite (.makeReady h) (.ite (.closePath h) (.ite (.closePath h) (.ite (.updPath h) h)))

theorem TablesKept.moveSettles {num : Nat} (h : TablesKept s₀ s) : TablesKept s₀ (s.moveSettles num) := by
  unfold State.moveSettles
  split
  · with_reducible exact TablesKept.ite (.stateNotice (.updMove h)) h
  · exact h

theorem TablesKept.settleParked {num : Nat} (h : TablesKept s₀ s) : TablesKept s₀ (s.settleParked num) := by
  unfold State.settleParked
  with_reducible exact TablesKept.updMove h

theorem TablesKept.settlePath {m : Move} {p : MovePath} (h : TablesKept s₀ s) : TablesKept s₀ (s.settlePath m p) := by
  unfold State.settlePath
  extract_lets
  with_reducible exact TablesKept.ite (.ite (.updPath (.ite (.recPath h) h)) (.ite (.recPath h) h)) h

theorem TablesKept.decideMove {num : Nat} (h : TablesKept s₀ s) : TablesKept s₀ (s.decideMove num) := by
  unfold State.decideMove
  split
  · with_reducible exact TablesKept.ite h (.endIfComplete (.foldl (fun _ _ h => .judgePath h) (.moveSettles (.settleParked (.foldl (fun _ _
      h => .settlePath h) h)))))
  · exact h

theorem TablesKept.dropPartial (h : TablesKept s₀ s) : TablesKept s₀ s.dropPartial := by
  unfold State.dropPartial
  extract_lets
  with_reducible exact TablesKept.withMov (.each (fun _ _ h => .updLoop h) h) id id id id

theorem TablesKept.missDeadline {m : Move} (h : TablesKept s₀ s) : TablesKept s₀ (s.missDeadline m) := by
  unfold State.missDeadline
  extract_lets
  with_reducible exact TablesKept.ite (.abortMove (.moveEvt (.stateNotice (.updMove h)))) (.moveEvt (.stateNotice (.updMove h)))

theorem TablesKept.releaseLoop {m : Move} {l : Nat} (h : TablesKept s₀ s) : TablesKept s₀ (s.releaseLoop m l) := by
  unfold State.releaseLoop
  extract_lets
  with_reducible exact TablesKept.updLoop h

theorem TablesKept.moveReleases {num : Nat} (h : TablesKept s₀ s) : TablesKept s₀ (s.moveReleases num) := by
  unfold State.moveReleases
  split
  · with_reducible exact TablesKept.updMove (.each (fun _ _ h => .releaseLoop h) h)
  · exact h

theorem TablesKept.recheckTick (h : TablesKept s₀ s) : TablesKept s₀ s.recheckTick := by
  unfold State.recheckTick
  extract_lets
  with_reducible exact TablesKept.ite (.each (fun _ _ h => .updReflex h) (.withMov h id id id id)) h

theorem TablesKept.fireReflex {e : Nat} {f : Fallback} {t : Int × Int × Int × Int} (h : TablesKept s₀ s) :
    TablesKept s₀ (s.fireReflex e f t) := by
  unfold State.fireReflex
  extract_lets i m ung _ s₁ s₂ ms _ s₃ s₄ s₅ s₆ s₇
  have h₁ : TablesKept s₀ s₁ := .withMov h id id id id
  have h₂ : TablesKept s₀ s₂ := .each (fun _ _ h => .updLoop h) h₁
  have h₃ : TablesKept s₀ s₃ := .withEst h₂ id
  have h₅ : TablesKept s₀ s₅ := .updReflex (.updPath h₃)
  have h₇ : TablesKept s₀ s₇ := .count (.moveEvt (.stateNotice h₅))
  with_reducible exact .ite (.inTick (fun _ h => .sendSched h) h₇) h₇

theorem TablesKept.skipReflex {e reason : Nat} {f : Fallback} (h : TablesKept s₀ s) : TablesKept s₀ (s.skipReflex e reason f) := by
  unfold State.skipReflex
  extract_lets
  with_reducible exact TablesKept.count (.raise (.raiseRecord h))

theorem TablesKept.tripReflex {e : Nat} (h : TablesKept s₀ s) : TablesKept s₀ (s.tripReflex e) := by
  unfold State.tripReflex
  extract_lets
  split
  · with_reducible exact TablesKept.fireReflex (.updReflex h)
  · with_reducible exact TablesKept.skipReflex (.updReflex h)

theorem TablesKept.reflexTick (h : TablesKept s₀ s) : TablesKept s₀ s.reflexTick := by
  unfold State.reflexTick
  extract_lets
  with_reducible exact TablesKept.foldl (fun _ _ h => .updReflex h) (.each (fun _ _ h => .tripReflex h) h)

theorem TablesKept.losePath {i : Nat} (h : TablesKept s₀ s) : TablesKept s₀ (s.losePath i) := by
  unfold State.losePath
  extract_lets
  with_reducible exact TablesKept.ite (.raise (.raiseRecord (.updPath (.updService h)))) (.updPath (.updService h))

theorem TablesKept.serviceTick (h : TablesKept s₀ s) : TablesKept s₀ s.serviceTick := by
  unfold State.serviceTick
  extract_lets
  with_reducible exact TablesKept.withMov (.each (fun _ _ h => .losePath h) h) id (fun k => twf_tmap k _) id id

theorem TablesKept.takeAbort {o : TakenOrder} (h : TablesKept s₀ s) : TablesKept s₀ (s.takeAbort o) := by
  unfold State.takeAbort
  extract_lets
  with_reducible exact TablesKept.settle (.noticeLater (.ite (.abortMove h) h))

theorem TablesKept.takeAborts (h : TablesKept s₀ s) : TablesKept s₀ s.takeAborts := by
  unfold State.takeAborts
  with_reducible exact TablesKept.foldl (fun _ _ h => .takeAbort h) h

theorem TablesKept.rearmEntry {e : Nat} (h : TablesKept s₀ s) : TablesKept s₀ (s.rearmEntry e) := by
  unfold State.rearmEntry
  extract_lets
  with_reducible exact TablesKept.withMov (.updReflex h) id id id id

theorem TablesKept.takeMovCmd (h : TablesKept s₀ s) : TablesKept s₀ s.takeMovCmd := by
  unfold State.takeMovCmd
  extract_lets
  split
  · with_reducible exact TablesKept.setField (.noticeLater (.ite (.abortMove (.withOps h)) (.withOps h)))
  · with_reducible exact TablesKept.ite (.setField (.rearmEntry (.withOps h))) (.setField (.withOps h))
  · with_reducible exact TablesKept.setField (.rearmAll (.withOps h))
  · with_reducible exact TablesKept.withOps h

theorem TablesKept.movePaths (h : TablesKept s₀ s) : TablesKept s₀ s.movePaths := by
  unfold State.movePaths
  extract_lets
  with_reducible refine TablesKept.recheckTick (.dropPartial (.each (fun _ _ h => .moveReleases h) (.takeAborts (.takeMovCmd (.each (fun _
    _ h => ?_) ?_)))))
  · extract_lets
    split
    · with_reducible exact TablesKept.ite (.missDeadline h) h
    · exact h
  · with_reducible exact TablesKept.each (fun _ _ h => .decideMove h) (.reflexTick (.serviceTick h))

theorem TablesKept.retimeMoves (h : TablesKept s₀ s) : TablesKept s₀ s.retimeMoves := by
  unfold State.retimeMoves
  with_reducible refine TablesKept.each (fun _ _ h => ?_) ?_
  · extract_lets
    split
    · with_reducible exact TablesKept.ite h (.updMove (.ite (.reopen h) h))
    · exact h
  · exact h

theorem TablesKept.commitMoves {restarted : List Nat} {patch : Bool} (h : TablesKept s₀ s)
    : TablesKept s₀ (s.commitMoves restarted patch) := by
  unfold State.commitMoves
  extract_lets
  with_reducible refine TablesKept.foldl (fun _ _ h => .leaveService h) (.each (fun _ _ h => ?_) ?_)
  · extract_lets
    split
    · with_reducible exact TablesKept.ite h (.ite (.abortMove h) (.ite (.reopen h) h))
    · exact h
  · exact h

theorem execAbort_tables {src : CtlSource} (h : TablesKept s₀ s) : After TablesKept s₀ (execAbort src s) := by
  unfold execAbort
  extract_lets
  split
  · with_reducible exact After.next (.withOps h)
  · split
    · with_reducible exact After.next (.takeAbort h)
    · with_reducible exact After.next (.takeEarly h)

theorem execDeadlineMissed_tables {num : BitVec 32} (h : TablesKept s₀ s) : After TablesKept s₀ (execDeadlineMissed num s) := by
  unfold execDeadlineMissed
  split
  · with_reducible exact After.next (.ite (.missDeadline h) h)
  · with_reducible exact After.next h

theorem execLegEnd_tables {num : BitVec 32} {mirror : BitVec 13} (h : TablesKept s₀ s)
    : After TablesKept s₀ (execLegEnd num mirror s) := by
  unfold execLegEnd
  split
  · split
    · with_reducible exact After.next (.ite (.legStep h) h)
    · with_reducible exact After.next h
  · with_reducible exact After.next h

theorem execMoveStart_tables {num : BitVec 32} (h : TablesKept s₀ s) : After TablesKept s₀ (execMoveStart num s) := by
  unfold execMoveStart
  split
  · with_reducible exact After.next (.ite (.moveSteps (.startMove h)) h)
  · with_reducible exact After.next h

theorem execPathLoss_tables {port : BitVec 12} (h : TablesKept s₀ s) : After TablesKept s₀ (execPathLoss port s) := by
  unfold execPathLoss
  with_reducible exact After.next (.ite (.losePath h) h)

theorem execPathReady_tables {port : BitVec 12} (h : TablesKept s₀ s) : After TablesKept s₀ (execPathReady port s) := by
  unfold execPathReady
  split
  · with_reducible exact After.next (.ite (.makeReady h) h)
  · with_reducible exact After.next h

theorem execReflexTrip_tables {entry : BitVec 12} (h : TablesKept s₀ s) : After TablesKept s₀ (execReflexTrip entry s) := by
  unfold execReflexTrip
  with_reducible exact After.next (.ite (.tripReflex h) h)

theorem execSettleTimeout_tables {port : BitVec 12} (h : TablesKept s₀ s) : After TablesKept s₀ (execSettleTimeout port s) := by
  unfold execSettleTimeout
  split
  · with_reducible exact After.next (.ite (.closePath h) h)
  · with_reducible exact After.next h

-- Sensing

theorem TablesKept.tapTick (h : TablesKept s₀ s) : TablesKept s₀ s.tapTick := by
  unfold State.tapTick
  extract_lets
  with_reducible exact TablesKept.withMov h id id id (fun _ => rfl)

theorem TablesKept.setPatch {expo mirror : Nat} {q : Patch} (h : TablesKept s₀ s) : TablesKept s₀ (s.setPatch expo mirror q) := by
  unfold State.setPatch
  with_reducible exact TablesKept.updPatch h

theorem TablesKept.losePatch {p expo mirror : Nat} (h : TablesKept s₀ s) : TablesKept s₀ (s.losePatch p expo mirror) := by
  unfold State.losePatch
  extract_lets
  with_reducible exact TablesKept.ite h (.count (.setPatch h))

theorem TablesKept.checkPatch {x : Nat} {c : BitVec 13 × WordCheck} (h : TablesKept s₀ s) : TablesKept s₀ (s.checkPatch x c) := by
  unfold State.checkPatch
  split
  · with_reducible exact TablesKept.ite (.losePatch (.noteWord h)) (.noteWord h)
  · exact h

theorem TablesKept.dropPackets {n : Nat} {p : List Word → Bool} (h : TablesKept s₀ s) : TablesKept s₀ (s.dropPackets n p) := by
  unfold State.dropPackets
  with_reducible exact TablesKept.updShelf h

theorem TablesKept.losePassed {p expo m : Nat} (h : TablesKept s₀ s) : TablesKept s₀ (s.losePassed p expo m) := by
  unfold State.losePassed
  extract_lets
  with_reducible exact TablesKept.each (fun _ _ h => .ite (.losePatch h) h) h

theorem TablesKept.loseRest {p expo : Nat} (h : TablesKept s₀ s) : TablesKept s₀ (s.loseRest p expo) := by
  unfold State.loseRest
  extract_lets
  with_reducible exact TablesKept.losePassed h

theorem TablesKept.patchTick (h : TablesKept s₀ s) : TablesKept s₀ s.patchTick := by
  unfold State.patchTick
  extract_lets n s₁ late ps keys s₂ s₃
  have h₁ : TablesKept s₀ s₁ := .each (fun _ _ h => .loseRest h) h
  have h₃ : TablesKept s₀ s₃ := .each (fun _ _ h => .dropPackets h) (.ite (.each (fun _ _ h => .count h) h₁) h₁)
  have hkeys : Table.ok .patches s₀ → twf (fun _ => ({} : Patch)) keys = true := fun hk => twf_filter (h₁ .patches hk) _
  clear_value s₃ keys
  intro k hk
  cases k with
  | patches => exact hkeys hk
  | _ => exact h₃ _ hk

theorem TablesKept.silentImagers (h : TablesKept s₀ s) : TablesKept s₀ s.silentImagers := by
  unfold State.silentImagers
  extract_lets
  with_reducible exact TablesKept.each (fun _ _ h => .updPorch h) (.each (fun _ _ h => .record (.raise h)) h)

theorem TablesKept.fixFlags {expo m : Nat} (h : TablesKept s₀ s) : TablesKept s₀ (s.fixFlags expo m) := by
  unfold State.fixFlags
  extract_lets
  split
  · with_reducible exact TablesKept.ite h (.setPatch h)
  · exact h

theorem TablesKept.receive {p : Nat} (h : TablesKept s₀ s) : TablesKept s₀ (s.receive p) := by
  unfold State.receive
  with_reducible exact TablesKept.count (.updPorch h)

theorem TablesKept.noteSaturate {o : NetOut} (h : TablesKept s₀ s) : TablesKept s₀ (s.noteSaturate o) := by
  unfold State.noteSaturate
  with_reducible exact TablesKept.ite (.updTile h) h

theorem TablesKept.landOut {late : List Nat} {o : NetOut} (h : TablesKept s₀ s) : TablesKept s₀ (s.landOut late o) := by
  unfold State.landOut
  extract_lets
  with_reducible exact TablesKept.ite (.cellReady (.cellReady (.landRecord (.noteSaturate (.fixFlags h))))) h

theorem TablesKept.patchBitsIn {p expo m b : Nat} {l : List Bool} (h : TablesKept s₀ s) : TablesKept s₀ (s.patchBitsIn p expo m b l) := by
  unfold State.patchBitsIn
  extract_lets
  with_reducible exact TablesKept.ite (.ite (.count h) h) (.ite (.updPorch (.setPatch (.ite (.losePatch h) h))) (.setPatch (.ite
    (.losePatch h) h)))

theorem TablesKept.patchSpread {p expo : Nat} {l : List (Nat × Nat × Nat)} {bs : List Bool} (h : TablesKept s₀ s) :
    TablesKept s₀ (s.patchSpread p expo l bs) := by
  induction l generalizing s bs with
  | nil => exact h
  | cons x xs ih => exact ih (.patchBitsIn h)

theorem TablesKept.shelfCell {p typ lseq : Nat} {payload : List Byte} (h : TablesKept s₀ s) :
    TablesKept s₀ (s.shelfCell p typ lseq payload).1 := .pushPacket h

theorem TablesKept.takePatch {p x seq mirror bit : Nat} {pieces : List (Nat × Nat × Nat)} {pixels : List Byte} (h : TablesKept s₀ s) :
    TablesKept s₀ (s.takePatch p x seq mirror bit pieces pixels) := by
  unfold State.takePatch
  extract_lets e mine s₁ s₂ s₃ r
  have h₁ : TablesKept s₀ s₁ := .count h
  have h₂ : TablesKept s₀ s₂ := .ite (.loseRest h₁) h₁
  have h₃ : TablesKept s₀ s₃ := .updPorch (.losePassed h₂)
  have h₄ : TablesKept s₀ r.1 := .shelfCell h₃
  exact .ite (.foldl (fun _ _ h => .patchBitsIn h) h₂) (.ite (.patchSpread h₄) (.foldl (fun _ _ h => .losePatch h) h₄))

theorem execCellDropped_tables {porch : BitVec 4} {cause : DropCause} {mirror : Option (BitVec 13)} (h : TablesKept s₀ s)
    : After TablesKept s₀ (execCellDropped porch cause mirror s) := by
  unfold execCellDropped
  extract_lets
  with_reducible refine After.ite (.next h) ?_
  extract_lets
  split
  · with_reducible exact After.next (.ite (.losePatch (.updPorch (.ite (.rewind (.count h)) (.count h)))) (.updPorch (.ite (.rewind (.count
      h)) (.count h))))
  · with_reducible exact After.next (.count (.updPorch (.ite (.rewind (.count h)) (.count h))))
  · with_reducible exact After.next (.updPorch (.ite (.rewind (.count h)) (.count h)))

theorem execCutoff_tables {mirrors : BitVec 13 × BitVec 14} {checks : List (BitVec 13 × WordCheck)} (h : TablesKept s₀ s)
    : After TablesKept s₀ (execCutoff mirrors checks s) := by
  unfold execCutoff
  extract_lets
  with_reducible exact After.next (.each (fun _ _ h => .dropPackets h) (.each (fun _ _ h => .fixFlags h) (.foldl (fun _ _ h => .checkPatch
    h) h)))

theorem execEstimateLands_tables {outs : List NetOut} {late : List (BitVec 14)} (h : TablesKept s₀ s)
    : After TablesKept s₀ (execEstimateLands outs late s) := by
  unfold execEstimateLands
  with_reducible exact After.ite (.next (.foldl (fun _ _ h => .landOut h) h)) (.next h)

theorem execPatchCell_tables {porch : BitVec 4} {expo : BitVec 32} {mirror : BitVec 13} {bit : BitVec 16} {pixels : List Byte}
    (h : TablesKept s₀ s) : After TablesKept s₀ (execPatchCell porch expo mirror bit pixels s) := by
  unfold execPatchCell
  extract_lets
  with_reducible refine After.ite (.next h) ?_
  extract_lets
  split
  · with_reducible exact After.ite (.next (.takePatch (.receive h))) (.next (.count (.receive h)))
  · with_reducible exact After.next (.count (.receive h))

theorem twf_foldl_tset {α β : Type} [DecidableEq α] {d : Nat → α} {f : β → Nat} {g : β → α} {l : List β} {t : List (Nat × α)}
    (h : twf d t = true) : twf d (l.foldl (fun t x => tset d t (f x) (g x)) t) = true := by
  induction l generalizing t with
  | nil => exact h
  | cons x l ih => exact ih (twf_tset h _ _)

theorem execTapCell_tables {porch : BitVec 4} {tick : BitVec 32} {first : BitVec 12}
    {readings : List TapReading × WordCheck} (h : TablesKept s₀ s) : After TablesKept s₀ (execTapCell porch tick first readings s) := by
  unfold execTapCell
  extract_lets p e s₁ s₂ new taps
  have h₁ : TablesKept s₀ s₁ := .receive h
  have h₂ : TablesKept s₀ s₂ := .noteWord h₁
  exact .ite (.next h) (.ite (.ite (.next h₂) (.next (.withMov h₂ id id id twf_foldl_tset))) (.next h₁))

end

end Sys2Proof.Machine
end

-- Tables through lanes, porches and the twin ---------------------------------------------------------------------------------------------
section
/-! O3: every definition that reaches a table keeps the tables canonical, in the order of the model's files. `h` speaks of the state
before; each proof follows the definition's own lets and branches and names what each of its changes leaves. -/
namespace Sys2Proof.Machine

section
variable {s₀ s : State}

-- Lanes

theorem TablesKept.askLane {p op l : Nat} (h : TablesKept s₀ s) : TablesKept s₀ (s.askLane p op l) := by
  unfold State.askLane
  with_reducible exact TablesKept.updCal h

theorem TablesKept.endRun {p result : Nat} {stays : Bool} (h : TablesKept s₀ s) : TablesKept s₀ (s.endRun p result stays) := by
  unfold State.endRun
  extract_lets
  with_reducible exact TablesKept.raise (.count (.updCal (.updLane h)))

theorem TablesKept.abandonRun {p : Nat} {stays move : Bool} (h : TablesKept s₀ s) : TablesKept s₀ (s.abandonRun p stays move) := by
  unfold State.abandonRun
  extract_lets
  with_reducible exact TablesKept.ite h (.ite (.endRun h) (.ite (.ite (.endRun h) (.askLane (.endRun h))) (.ite (.endRun h) (.askLane
    (.endRun h)))))

theorem TablesKept.answerLane {p op l : Nat} (h : TablesKept s₀ s) : TablesKept s₀ (s.answerLane p op l) := by
  unfold State.answerLane
  extract_lets
  with_reducible exact TablesKept.ite (.send h) (.send (.updPorch h))

theorem TablesKept.baseFrame {p l a : Nat} (h : TablesKept s₀ s) : TablesKept s₀ (s.baseFrame p l a) := by
  unfold State.baseFrame
  extract_lets
  with_reducible exact TablesKept.ite h (.ite (.updLane h) (.raise (.updLane h)))

theorem TablesKept.fadeFrame {p l a bits : Nat} (h : TablesKept s₀ s) : TablesKept s₀ (s.fadeFrame p l a bits) := by
  unfold State.fadeFrame
  extract_lets
  with_reducible exact TablesKept.ite (.updLane (.ite (.freeTick (.updLane (.count h))) (.updLane (.count h)))) (.baseFrame (.ite
    (.freeTick (.updLane (.count h))) (.updLane (.count h))))

theorem TablesKept.keepDuplicate {p j : Nat} (h : TablesKept s₀ s) : TablesKept s₀ (s.keepDuplicate p j) := by
  unfold State.keepDuplicate
  extract_lets
  with_reducible exact TablesKept.ite (.updLane (.abandonRun h)) (.abandonRun h)

theorem TablesKept.backInService {p l : Nat} (h : TablesKept s₀ s) : TablesKept s₀ (s.backInService p l) := by
  unfold State.backInService
  with_reducible exact TablesKept.updLane h

theorem TablesKept.dropMirrorRequests {p : Nat} (h : TablesKept s₀ s) : TablesKept s₀ (s.dropMirrorRequests p) := by
  unfold State.dropMirrorRequests
  extract_lets
  with_reducible exact TablesKept.foldl (fun _ _ h => .updLane h) (.updCal h)

theorem TablesKept.loseSpare {p : Nat} (h : TablesKept s₀ s) : TablesKept s₀ (s.loseSpare p) := by
  unfold State.loseSpare
  extract_lets
  split
  · with_reducible
      exact TablesKept.ite (.updLane (.updPorch (.backInService (.dropMirrorRequests (.updLane (.ite (.abandonRun h) h)))))) (.askLane
        (.askLane (.dropMirrorRequests (.updLane (.ite (.abandonRun h) h)))))
  · with_reducible exact TablesKept.askLane (.askLane (.dropMirrorRequests (.updLane (.ite (.abandonRun h) h))))
  · with_reducible exact TablesKept.updPorch (.backInService (.dropMirrorRequests (.updLane (.ite (.abandonRun h) h))))
  · with_reducible exact TablesKept.dropMirrorRequests (.updLane (.ite (.abandonRun h) h))

theorem TablesKept.fadeShed {p j : Nat} (h : TablesKept s₀ s) : TablesKept s₀ (s.fadeShed p j) := by
  unfold State.fadeShed
  with_reducible refine TablesKept.ite (.loseSpare h) ?_
  extract_lets
  split
  · with_reducible exact TablesKept.updLane h
  · with_reducible exact TablesKept.askLane h
  · with_reducible exact TablesKept.askLane h
  · with_reducible exact TablesKept.ite (.keepDuplicate h) (.askLane h)
  · exact h

theorem TablesKept.fadeSpare {p j : Nat} (h : TablesKept s₀ s) : TablesKept s₀ (s.fadeSpare p j) := by
  unfold State.fadeSpare
  extract_lets
  with_reducible exact TablesKept.ite h (.ite h (.ite (.keepDuplicate h) (.ite (.updLane h) (.ite (.askLane (.updLane (.abandonRun h)))
    (.ite (.askLane (.updLane (.abandonRun h))) (.ite (.askLane (.updLane h)) (.updLane h)))))))

theorem TablesKept.enterLevel {p j n : Nat} (h : TablesKept s₀ s) : TablesKept s₀ (s.enterLevel p j n) := by
  unfold State.enterLevel
  extract_lets
  with_reducible exact TablesKept.ite (.fadeShed (.record (.raise (.updLane h)))) (.ite (.fadeSpare (.record (.raise (.updLane h))))
    (.record (.raise (.updLane h))))

theorem TablesKept.fadeTick {p : Nat} (h : TablesKept s₀ s) : TablesKept s₀ (s.fadeTick p) := by
  unfold State.fadeTick
  extract_lets f nexts rises at_ s₁ s₂ s₃ s₄ wants order
  have h₁ : TablesKept s₀ s₁ := .each (fun _ _ h => .ite (.updLane h) (.enterLevel h)) h
  have h₂ : TablesKept s₀ s₂ := .each (fun _ _ h => .enterLevel h) h₁
  have h₃ : TablesKept s₀ s₃ := .each (fun _ _ h => .enterLevel h) h₂
  have h₄ : TablesKept s₀ s₄ := .each (fun _ _ h => .updLane h) h₃
  clear_value order s₄
  split
  · with_reducible exact .ite (.fadeSpare h₄) h₄
  · exact h₄

theorem TablesKept.lockFail {p : Nat} (h : TablesKept s₀ s) : TablesKept s₀ (s.lockFail p) := by
  unfold State.lockFail
  extract_lets
  with_reducible exact TablesKept.ite (.endRun (.updLane h)) h

theorem TablesKept.noAnswer {p : Nat} (h : TablesKept s₀ s) : TablesKept s₀ (s.noAnswer p) := by
  unfold State.noAnswer
  extract_lets
  with_reducible exact TablesKept.ite (.endRun (.updCal (.updPorch h))) h

theorem TablesKept.rampTo {p i : Nat} (h : TablesKept s₀ s) : TablesKept s₀ (s.rampTo p i) := by
  unfold State.rampTo
  extract_lets
  with_reducible exact TablesKept.ite (.askLane (.updCal (.updCal (.updLane h)))) (.updCal (.updLane h))

theorem TablesKept.regain {p : Nat} (h : TablesKept s₀ s) : TablesKept s₀ (s.regain p) := by
  unfold State.regain
  extract_lets
  with_reducible exact TablesKept.ite (.ite (.endRun (.updCal h)) (.askLane (.updCal h))) h

theorem TablesKept.beginRun {p l mode : Nat} {restore : Bool} (h : TablesKept s₀ s) : TablesKept s₀ (s.beginRun p l mode restore) := by
  unfold State.beginRun
  extract_lets
  with_reducible exact TablesKept.ite (.updCal (.updLane h)) (.askLane (.updCal (.updLane h)))

theorem TablesKept.startRun {p : Nat} (h : TablesKept s₀ s) : TablesKept s₀ (s.startRun p) := by
  unfold State.startRun
  split
  · with_reducible exact TablesKept.beginRun h
  · exact h

theorem TablesKept.freeCal {p except_ : Nat} (h : TablesKept s₀ s) : TablesKept s₀ (s.freeCal p except_) := by
  unfold State.freeCal
  with_reducible exact TablesKept.each (fun _ _ h => .ite (.backInService h) h) h

theorem TablesKept.takeAnswer {p : Nat} {r : Nat × Nat} (h : TablesKept s₀ s) : TablesKept s₀ (s.takeAnswer p r) := by
  unfold State.takeAnswer
  extract_lets
  split
  · with_reducible exact TablesKept.ite (.askLane (.updPorch (.updLane h))) (.ite (.updCal (.updLane (.updLane h))) (.updLane (.freeCal
      (.updLane h))))
  · with_reducible exact TablesKept.ite (.endRun (.ite (.updLane h) (.backInService (.updLane h)))) (.ite (.updLane h) (.backInService
      (.updLane h)))
  · with_reducible exact TablesKept.ite (.endRun (.backInService h)) (.backInService h)

theorem TablesKept.takeAnswers {p : Nat} (h : TablesKept s₀ s) : TablesKept s₀ (s.takeAnswers p) := by
  unfold State.takeAnswers
  extract_lets
  with_reducible exact TablesKept.foldl (fun _ _ h => .takeAnswer h) (.updCal h)

theorem TablesKept.laneResult {p r : Nat} (h : TablesKept s₀ s) : TablesKept s₀ (s.laneResult p r) := by
  unfold State.laneResult
  with_reducible exact TablesKept.updCal h

theorem TablesKept.takeRestore {p l : Nat} (h : TablesKept s₀ s) : TablesKept s₀ (s.takeRestore p l) := by
  unfold State.takeRestore
  extract_lets
  with_reducible exact TablesKept.ite (.laneResult h) (.ite (.laneResult h) (.ite (.laneResult h) (.ite (.updLane (.updLane (.laneResult
    h))) (.ite (.laneResult h) (.beginRun (.updLane (.laneResult h)))))))

theorem TablesKept.takeReturn {p l : Nat} (h : TablesKept s₀ s) : TablesKept s₀ (s.takeReturn p l) := by
  unfold State.takeReturn
  extract_lets
  with_reducible refine TablesKept.ite (.laneResult h) (.ite (.laneResult h) ?_)
  extract_lets
  split
  · with_reducible exact TablesKept.askLane (.updLane (.laneResult h))
  · with_reducible exact TablesKept.askLane (.updLane (.laneResult h))
  · with_reducible exact TablesKept.ite (.updLane (.updLane (.laneResult h))) (.askLane (.updLane (.laneResult h)))
  · with_reducible exact TablesKept.ite (.updLane (.updLane (.laneResult h))) (.askLane (.updLane (.laneResult h)))
  · with_reducible exact TablesKept.updLane (.laneResult h)

theorem TablesKept.takeLaneOp {p : Nat} (h : TablesKept s₀ s) : TablesKept s₀ (s.takeLaneOp p) := by
  unfold State.takeLaneOp
  extract_lets c s₁ s₂
  have h₁ : TablesKept s₀ s₁ := by
    dsimp only [s₁]
    split
    · exact .updCal h
    · exact h
  have h₂ : TablesKept s₀ s₂ := .updCal h₁
  clear_value s₂
  split
  · with_reducible exact .ite (.laneResult h₂) (.each (fun _ _ h => .updLane h) (.laneResult h₂))
  · with_reducible exact .takeRestore h₂
  · with_reducible exact .takeReturn h₂
  · with_reducible exact .ite (.laneResult h₂) (.abandonRun (.laneResult h₂))
  · exact h₂

theorem TablesKept.lanePorchTick {p : Nat} (h : TablesKept s₀ s) : TablesKept s₀ (s.lanePorchTick p) := by
  unfold State.lanePorchTick
  extract_lets
  with_reducible exact TablesKept.startRun (.ite (.each (fun _ _ h => .ite (.updLane h) h) (.takeLaneOp (.fadeTick (.ite (.endRun (.ite
    (.rampTo (.ite (.updCal (.lockFail (.regain (.noAnswer (.takeAnswers h))))) (.lockFail (.regain (.noAnswer (.takeAnswers h)))))) (.ite
    (.updCal (.lockFail (.regain (.noAnswer (.takeAnswers h))))) (.lockFail (.regain (.noAnswer (.takeAnswers h))))))) (.ite (.rampTo
    (.ite (.updCal (.lockFail (.regain (.noAnswer (.takeAnswers h))))) (.lockFail (.regain (.noAnswer (.takeAnswers h)))))) (.ite (.updCal
    (.lockFail (.regain (.noAnswer (.takeAnswers h))))) (.lockFail (.regain (.noAnswer (.takeAnswers h)))))))))) (.takeLaneOp (.fadeTick
    (.ite (.endRun (.ite (.rampTo (.ite (.updCal (.lockFail (.regain (.noAnswer (.takeAnswers h))))) (.lockFail (.regain (.noAnswer
    (.takeAnswers h)))))) (.ite (.updCal (.lockFail (.regain (.noAnswer (.takeAnswers h))))) (.lockFail (.regain (.noAnswer (.takeAnswers
    h))))))) (.ite (.rampTo (.ite (.updCal (.lockFail (.regain (.noAnswer (.takeAnswers h))))) (.lockFail (.regain (.noAnswer
    (.takeAnswers h)))))) (.ite (.updCal (.lockFail (.regain (.noAnswer (.takeAnswers h))))) (.lockFail (.regain (.noAnswer (.takeAnswers
    h))))))))))

theorem TablesKept.takeBaseline {p l : Nat} (h : TablesKept s₀ s) : TablesKept s₀ (s.takeBaseline p l) := by
  unfold State.takeBaseline
  with_reducible exact TablesKept.updLane h

theorem TablesKept.showLanes {p : Nat} (h : TablesKept s₀ s) : TablesKept s₀ (s.showLanes p) := by
  unfold State.showLanes
  extract_lets
  with_reducible exact TablesKept.each (fun _ _ h => .updLane h) (.updCal h)

theorem TablesKept.laneTick {regions : List (Nat × Int)} {fades : List (Nat × Nat × Nat × Nat)} (h : TablesKept s₀ s)
    : TablesKept s₀ (s.laneTick regions fades) := by
  unfold State.laneTick
  extract_lets
  with_reducible exact TablesKept.each (fun _ _ h => .showLanes h) (.each (fun _ _ h => .lanePorchTick h) (.foldl (fun _ _ h => .fadeFrame
    h) (.foldl (fun _ _ h => .updCal h) (.each (fun _ _ h => .each (fun _ _ h => .takeBaseline h) h) h))))

theorem TablesKept.pumpLane {p : Nat} (h : TablesKept s₀ s) : TablesKept s₀ (s.pumpLane p) := by
  unfold State.pumpLane
  split
  · with_reducible exact TablesKept.send (.updPorch (.updCal h))
  · exact h

theorem TablesKept.laneDone {p op l : Nat} (h : TablesKept s₀ s) : TablesKept s₀ (s.laneDone p op l) := by
  unfold State.laneDone
  extract_lets
  split
  · with_reducible exact TablesKept.updCal (.updPorch (.updPorch h))
  · with_reducible exact TablesKept.updCal (.updPorch (.updPorch h))
  · with_reducible exact TablesKept.ite (.updCal (.updLane (.updPorch h))) (.updLane (.updPorch h))
  · with_reducible exact TablesKept.updCal (.updPorch h)

theorem TablesKept.laneOp {p op l : Nat} (h : TablesKept s₀ s) : TablesKept s₀ (s.laneOp p op l) := by
  unfold State.laneOp
  with_reducible exact TablesKept.updCal h

theorem TablesKept.loseLock {p l : Nat} (h : TablesKept s₀ s) : TablesKept s₀ (s.loseLock p l) := by
  unfold State.loseLock
  extract_lets
  with_reducible
    exact TablesKept.ite (.updPorch (.ite (.updCal (.updLane (.updLane (.updPorch h)))) (.updLane (.updLane (.updPorch h))))) (.ite
      (.updCal (.updLane (.updLane (.updPorch h)))) (.updLane (.updLane (.updPorch h))))

theorem execBaselineWrite_tables {porch : BitVec 4} {lane : Fin 9} {v : BitVec 16} (h : TablesKept s₀ s)
    : After TablesKept s₀ (execBaselineWrite porch lane v s) := by
  unfold execBaselineWrite
  with_reducible exact After.next (.updLane h)

theorem execCalAbort_tables {porch : BitVec 4} (h : TablesKept s₀ s) : After TablesKept s₀ (execCalAbort porch s) := by
  unfold execCalAbort
  with_reducible exact After.next (.laneOp h)

theorem execCalNow_tables {porch lane : BitVec 4} (h : TablesKept s₀ s) : After TablesKept s₀ (execCalNow porch lane s) := by
  unfold execCalNow
  with_reducible exact After.next (.laneOp h)

theorem execLaneReturn_tables {porch lane : BitVec 4} (h : TablesKept s₀ s) : After TablesKept s₀ (execLaneReturn porch lane s) := by
  unfold execLaneReturn
  with_reducible exact After.next (.laneOp h)

theorem execRestore_tables {porch lane : BitVec 4} (h : TablesKept s₀ s) : After TablesKept s₀ (execRestore porch lane s) := by
  unfold execRestore
  with_reducible exact After.next (.laneOp h)

theorem execBaselineFormed_tables {porch : BitVec 4} {lane : Fin 9 × BitVec 16} (h : TablesKept s₀ s)
    : After TablesKept s₀ (execBaselineFormed porch lane s) := by
  unfold execBaselineFormed
  with_reducible exact After.ite (.next (.baseFrame h)) (.next h)

theorem execCalLockRegained_tables {porch : BitVec 4} (h : TablesKept s₀ s) : After TablesKept s₀ (execCalLockRegained porch s) := by
  unfold execCalLockRegained
  with_reducible exact After.next (.regain h)

theorem execCalRunStart_tables {porch : BitVec 4} (h : TablesKept s₀ s) : After TablesKept s₀ (execCalRunStart porch s) := by
  unfold execCalRunStart
  with_reducible exact After.next (.startRun h)

theorem execCodewordLock_tables {porch : BitVec 4} {lane : Fin 9 × CalValues} (h : TablesKept s₀ s)
    : After TablesKept s₀ (execCodewordLock porch lane s) := by
  unfold execCodewordLock
  extract_lets
  with_reducible exact After.ite (.next h) (.ite (.next (.each (fun _ _ h => .ite (.updLane h) h) (.updPorch (.updLane (.updPorch h)))))
    (.next (.updLane (.updPorch h))))

theorem execCompatApply_tables {porch : BitVec 4} {targets : CalValues} (h : TablesKept s₀ s)
    : After TablesKept s₀ (execCompatApply porch targets s) := by
  unfold execCompatApply
  extract_lets
  with_reducible exact After.ite (.next (.pumpLane (.askLane (.updCal (.updLane h))))) (.next h)

theorem execLaneCell_tables {porch : BitVec 4} {op lane result : BitVec 8} {lseq : BitVec 16} (h : TablesKept s₀ s)
    : After TablesKept s₀ (execLaneCell porch op lane result lseq s) := by
  unfold execLaneCell
  extract_lets
  with_reducible refine After.ite (.next h) (.ite (.next (.answerLane (.receive h))) (.ite ?_ ?_))
  · extract_lets
    split
    · with_reducible exact After.next (.pumpLane (.laneDone (.receive h)))
    · with_reducible exact After.next (.pumpLane (.updCal (.updPorch (.receive h))))
    · with_reducible exact After.next (.pumpLane (.updPorch (.receive h)))
  · with_reducible exact After.next (.receive h)

theorem execLockFailed_tables {porch : BitVec 4} (h : TablesKept s₀ s) : After TablesKept s₀ (execLockFailed porch s) := by
  unfold execLockFailed
  with_reducible exact After.next (.lockFail h)

theorem execLockLoss_tables {porch : BitVec 4} {lane : Fin 9} (h : TablesKept s₀ s)
    : After TablesKept s₀ (execLockLoss porch lane s) := by
  unfold execLockLoss
  with_reducible exact After.ite (.next (.loseLock h)) (.next h)

theorem execLseqGap_tables {porch : BitVec 4} {lseq : BitVec 16} (h : TablesKept s₀ s)
    : After TablesKept s₀ (execLseqGap porch lseq s) := by
  unfold execLseqGap
  extract_lets
  with_reducible exact After.ite (.next h) (.next (.count (.updPorch h)))

theorem execNoAnswer_tables {porch : BitVec 4} (h : TablesKept s₀ s) : After TablesKept s₀ (execNoAnswer porch s) := by
  unfold execNoAnswer
  with_reducible exact After.next (.noAnswer h)

theorem execRampStep_tables {porch : BitVec 4} {targets : CalValues} (h : TablesKept s₀ s)
    : After TablesKept s₀ (execRampStep porch targets s) := by
  unfold execRampStep
  extract_lets
  with_reducible exact After.ite (.next h) (.next (.rampTo (.ite (.updLane h) h)))

theorem execUncorrectableCodeword_tables {porch : BitVec 4} {lane : Fin 9} (h : TablesKept s₀ s)
    : After TablesKept s₀ (execUncorrectableCodeword porch lane s) := by
  unfold execUncorrectableCodeword
  extract_lets
  with_reducible exact After.next (.ite (.loseLock (.updLane h)) (.updLane h))

-- Porches

theorem TablesKept.takeHolding {p : Nat} (h : TablesKept s₀ s) : TablesKept s₀ (s.takeHolding p) := by
  unfold State.takeHolding
  extract_lets
  with_reducible exact TablesKept.ite h (.each (fun _ _ h => .updLoop h) h)

theorem TablesKept.becomeReady {p : Nat} (h : TablesKept s₀ s) : TablesKept s₀ (s.becomeReady p) := by
  unfold State.becomeReady
  with_reducible exact TablesKept.raise (.takeHolding (.updPorch h))

theorem TablesKept.lossFollows {p : Nat} (h : TablesKept s₀ s) : TablesKept s₀ (s.lossFollows p) := by
  unfold State.lossFollows
  extract_lets
  with_reducible exact TablesKept.ite (.raise h) (.ite (.verdict (fun _ h => h) (.withTwn h)) (.ite (.freezeWhere h) h))

theorem TablesKept.losePorch {p : Nat} (h : TablesKept s₀ s) : TablesKept s₀ (s.losePorch p) := by
  unfold State.losePorch
  extract_lets
  with_reducible exact TablesKept.ite h (.inTick (fun _ h => .ite h (.lossFollows (.record (.raise h)))) (.updPorch h))

theorem TablesKept.toDiscovery {p : Nat} (h : TablesKept s₀ s) : TablesKept s₀ (s.toDiscovery p) := by
  unfold State.toDiscovery
  with_reducible exact TablesKept.updPorch h

theorem TablesKept.porchTick {p : Nat} (h : TablesKept s₀ s) : TablesKept s₀ (s.porchTick p) := by
  unfold State.porchTick
  extract_lets
  with_reducible exact TablesKept.updPorch (.ite (.becomeReady (.ite (.toDiscovery (.losePorch h)) (.losePorch h))) (.ite (.toDiscovery
    (.losePorch h)) (.losePorch h)))

theorem TablesKept.configure {p : Nat} (h : TablesKept s₀ s) : TablesKept s₀ (s.configure p) := by
  unfold State.configure
  with_reducible exact TablesKept.send (.updPorch h)

theorem TablesKept.echo {p : Nat} (h : TablesKept s₀ s) : TablesKept s₀ (s.echo p) := by
  unfold State.echo
  extract_lets
  with_reducible exact TablesKept.send (.updPorch h)

theorem TablesKept.takePorchOp {p : Nat} (h : TablesKept s₀ s) : TablesKept s₀ (s.takePorchOp p) := by
  unfold State.takePorchOp
  extract_lets op s₁
  have h₁ : TablesKept s₀ s₁ := .updPorch h
  clear_value s₁ op
  split
  · with_reducible exact .ite (.updPorch (.toDiscovery h₁)) h₁
  · with_reducible exact .ite (.send h₁) h₁
  · with_reducible exact .ite (.echo h₁) h₁
  · exact h₁

theorem TablesKept.porchCells {p : Nat} (h : TablesKept s₀ s) : TablesKept s₀ (s.porchCells p) := by
  unfold State.porchCells
  extract_lets
  with_reducible exact TablesKept.ite (.takePorchOp h) (.ite (.configure (.ite (.echo (.ite (.send (.takePorchOp h)) (.takePorchOp h)))
    (.ite (.send (.takePorchOp h)) (.takePorchOp h)))) (.ite (.echo (.ite (.send (.takePorchOp h)) (.takePorchOp h))) (.ite (.send
    (.takePorchOp h)) (.takePorchOp h))))

theorem TablesKept.headRecord {p role : Nat} {f : Porch → Porch} (h : TablesKept s₀ s) : TablesKept s₀ (s.headRecord p role f) := by
  unfold State.headRecord
  with_reducible exact TablesKept.ite (.updPorch (.receive h)) (.ite (.receive h) h)

theorem TablesKept.holdPorch {ms : List Nat} {p : Nat} (h : TablesKept s₀ s) : TablesKept s₀ (s.holdPorch ms p) := by
  unfold State.holdPorch
  extract_lets
  split
  · exact h
  · with_reducible exact TablesKept.send h

theorem TablesKept.porchOp {p op : Nat} (h : TablesKept s₀ s) : TablesKept s₀ (s.porchOp p op) := by
  unfold State.porchOp
  with_reducible exact TablesKept.updPorch h

theorem TablesKept.sendNext {p prio : Nat} {c : TxCell} (h : TablesKept s₀ s) : TablesKept s₀ (s.sendNext p prio c) := by
  unfold State.sendNext
  with_reducible exact TablesKept.inTick (fun _ h => .send h) h

theorem execEchoNow_tables {porch : BitVec 4} (h : TablesKept s₀ s) : After TablesKept s₀ (execEchoNow porch s) := by
  unfold execEchoNow
  with_reducible exact After.next (.porchOp h)

theorem execHeadReset_tables {porch : BitVec 4} (h : TablesKept s₀ s) : After TablesKept s₀ (execHeadReset porch s) := by
  unfold execHeadReset
  with_reducible exact After.next (.porchOp h)

theorem execRediscover_tables {porch : BitVec 4} (h : TablesKept s₀ s) : After TablesKept s₀ (execRediscover porch s) := by
  unfold execRediscover
  with_reducible exact After.next (.porchOp h)

theorem execAckCell_tables {porch : BitVec 4} {a : AckCell} (h : TablesKept s₀ s) : After TablesKept s₀ (execAckCell porch a s) := by
  unfold execAckCell
  extract_lets
  with_reducible exact After.ite (.next h) (.ite (.next (.updPorch (.seeEpoch (.receive h)))) (.next (.withTwn (.updPorch (.seeEpoch
    (.receive h))))))

theorem execConfigAck_tables {porch : BitVec 4} {result : BitVec 8} {effective : BitVec 32} (h : TablesKept s₀ s)
    : After TablesKept s₀ (execConfigAck porch result effective s) := by
  unfold execConfigAck
  extract_lets
  with_reducible refine After.ite (.next h) ?_
  extract_lets
  split
  · with_reducible exact After.ite (.next (.receive h)) (.ite (.next (.updPorch (.receive h))) (.next (.raise (.updPorch (.receive h)))))
  · with_reducible exact After.next (.receive h)

theorem execEchoReply_tables {porch : BitVec 4} {num : BitVec 32} {arrival : Nat} {turnPs : BitVec 32} (h : TablesKept s₀ s)
    : After TablesKept s₀ (execEchoReply porch num arrival turnPs s) := by
  unfold execEchoReply
  extract_lets
  with_reducible refine After.ite (.next h) ?_
  extract_lets
  split
  · with_reducible exact After.next (.updPorch (.receive h))
  · with_reducible exact After.next (.receive h)

theorem execFaultCell_tables {porch : BitVec 4} {f : FaultCell} (h : TablesKept s₀ s)
    : After TablesKept s₀ (execFaultCell porch f s) := by
  unfold execFaultCell
  extract_lets
  with_reducible exact After.ite (.next h) (.next (.ite (.freezeWhere (.guardState (.ite (.each (fun _ _ h => .holdPorch h) (.guardEvent
    (.raise (.updPorch (.receive h))))) (.guardEvent (.raise (.updPorch (.receive h))))))) (.guardState (.ite (.each (fun _ _ h =>
    .holdPorch h) (.guardEvent (.raise (.updPorch (.receive h))))) (.guardEvent (.raise (.updPorch (.receive h))))))))

theorem execHealthCell_tables {porch : BitVec 4} {x : HealthCell} (h : TablesKept s₀ s)
    : After TablesKept s₀ (execHealthCell porch x s) := by
  unfold execHealthCell
  extract_lets
  with_reducible exact After.ite (.next h) (.next (.updPorch (.receive h)))

theorem execHolding_tables {porch : BitVec 4} {entries : List (Nat × Int × Bool)} (h : TablesKept s₀ s)
    : After TablesKept s₀ (execHolding porch entries s) := by
  unfold execHolding
  with_reducible exact After.next (.headRecord h)

theorem execIdent_tables {porch : BitVec 4} {m : IdentMsg} (h : TablesKept s₀ s) : After TablesKept s₀ (execIdent porch m s) := by
  unfold execIdent
  extract_lets
  with_reducible refine After.ite (.next h) (.ite (.next (.updPorch (.receive h))) (.ite (.next (.ite (.updPorch (.updPorch (.receive h)))
    (.raise (.updPorch (.updPorch (.receive h)))))) (.ite (.next (.ite (.updPorch (.updPorch (.receive h))) (.raise (.updPorch (.updPorch
    (.receive h)))))) ?_)))
  extract_lets
  split
  · with_reducible exact After.next (.send (.updPorch (.updPorch (.receive h))))
  · with_reducible exact After.next (.updPorch (.updPorch (.updPorch (.receive h))))

theorem execPorchLost_tables {porch : BitVec 4} (h : TablesKept s₀ s) : After TablesKept s₀ (execPorchLost porch s) := by
  unfold execPorchLost
  with_reducible exact After.next (.losePorch h)

theorem execScale_tables {porch : BitVec 4} {nw : BitVec 32} (h : TablesKept s₀ s) : After TablesKept s₀ (execScale porch nw s) := by
  unfold execScale
  with_reducible exact After.next (.headRecord h)

theorem execWindows_tables {porch : BitVec 4} {origins : List (Nat × Nat)} (h : TablesKept s₀ s)
    : After TablesKept s₀ (execWindows porch origins s) := by
  unfold execWindows
  with_reducible exact After.next (.headRecord h)

-- The twin

theorem TablesKept.askBatch {b : Nat} (h : TablesKept s₀ s) : TablesKept s₀ (s.askBatch b) := by
  unfold State.askBatch
  with_reducible exact TablesKept.inTick (fun _ h => .sendAll h) h

theorem TablesKept.retractClaim {c : Claim} (h : TablesKept s₀ s) : TablesKept s₀ (s.retractClaim c) := by
  unfold State.retractClaim
  extract_lets
  with_reducible exact TablesKept.ite (.raise (.raise (.withTwn (.ite (.inTick (fun _ h => .sendAll h) h) h)))) (.raise (.withTwn (.ite
    (.inTick (fun _ h => .sendAll h) h) h)))

theorem TablesKept.takeOverMoves (h : TablesKept s₀ s) : TablesKept s₀ s.takeOverMoves := by
  unfold State.takeOverMoves
  extract_lets
  with_reducible exact TablesKept.withMov (.each (fun _ _ h => .updLoop h) h) id id id id

theorem TablesKept.winClaim {c : Claim} (h : TablesKept s₀ s) : TablesKept s₀ (s.winClaim c) := by
  unfold State.winClaim
  extract_lets
  with_reducible exact TablesKept.raiseTo (.raiseTo (.takeOverMoves (.withTwn h)))

theorem TablesKept.decideClaim (h : TablesKept s₀ s) : TablesKept s₀ s.decideClaim := by
  unfold State.decideClaim
  split
  · with_reducible exact TablesKept.ite (.ite (.winClaim h) (.retractClaim h)) h
  · exact h

theorem TablesKept.heartbeatCounts (h : TablesKept s₀ s) : TablesKept s₀ s.heartbeatCounts := by
  unfold State.heartbeatCounts
  with_reducible refine TablesKept.ite h ?_
  extract_lets
  split
  · with_reducible exact TablesKept.count h
  · with_reducible exact TablesKept.count h
  · with_reducible exact TablesKept.count h
  · exact h

theorem TablesKept.heartbeatTick (h : TablesKept s₀ s) : TablesKept s₀ s.heartbeatTick := by
  unfold State.heartbeatTick
  extract_lets
  with_reducible exact TablesKept.withTwn (.ite (.raise (.ite (.raise (.loseHeartbeat (.heartbeatCounts h))) (.loseHeartbeat
    (.heartbeatCounts h)))) (.ite (.raise (.loseHeartbeat (.heartbeatCounts h))) (.loseHeartbeat (.heartbeatCounts h))))

theorem TablesKept.installBatch {b : Nat} {ls : List (Nat × Loop)} (h : TablesKept s₀ s) : TablesKept s₀ (s.installBatch b ls) := by
  unfold State.installBatch
  with_reducible exact TablesKept.each (fun _ _ h => .updLoop h) h

theorem TablesKept.installTable {num : Nat} {bytes : List (Nat × Byte)} (h : TablesKept s₀ s)
    : TablesKept s₀ (s.installTable num bytes) := by
  unfold State.installTable
  with_reducible exact TablesKept.updTable h

theorem TablesKept.resyncTick (h : TablesKept s₀ s) : TablesKept s₀ s.resyncTick := by
  unfold State.resyncTick
  extract_lets
  split
  · exact h
  · with_reducible exact TablesKept.ite (.withTwn h) (.ite (.raiseTo (.raise (.withTwn (.withTwn (.foldl (fun _ _ h => .installTable h)
      (.foldl (fun _ _ h => .installBatch h) h)))))) (.ite (.askBatch (.withTwn (.foldl (fun _ _ h => .installTable h) (.foldl (fun _ _ h =>
      .installBatch h) h)))) (.withTwn (.foldl (fun _ _ h => .installTable h) (.foldl (fun _ _ h => .installBatch h) h)))))

theorem TablesKept.startResync (h : TablesKept s₀ s) : TablesKept s₀ s.startResync := by
  unfold State.startResync
  extract_lets
  with_reducible exact TablesKept.ite (.askBatch (.withTwn h)) h

theorem TablesKept.takeMismatch (h : TablesKept s₀ s) : TablesKept s₀ s.takeMismatch := by
  unfold State.takeMismatch
  extract_lets
  with_reducible exact TablesKept.ite h (.ite (.giveUp (.raise (.withTwn h))) (.withTwn h))

theorem TablesKept.takeWithdrawal (h : TablesKept s₀ s) : TablesKept s₀ s.takeWithdrawal := by
  unfold State.takeWithdrawal
  extract_lets
  split
  · with_reducible exact TablesKept.setRole (.withTwn (.takeMismatch (.ite (.giveUp (.raise h)) h)))
  · with_reducible exact TablesKept.takeMismatch (.ite (.giveUp (.raise h)) h)

theorem TablesKept.roleTick (h : TablesKept s₀ s) : TablesKept s₀ s.roleTick := by
  unfold State.roleTick
  extract_lets
  with_reducible exact TablesKept.withTwn (.ite (.raise (.withTwn (.startResync (.resyncTick (.takeRejoin (.ite (.setRole (.decideClaim
    (.takeWithdrawal (.heartbeatTick h)))) (.decideClaim (.takeWithdrawal (.heartbeatTick h))))))))) (.startResync (.resyncTick
    (.takeRejoin (.ite (.setRole (.decideClaim (.takeWithdrawal (.heartbeatTick h)))) (.decideClaim (.takeWithdrawal (.heartbeatTick
    h))))))))

theorem TablesKept.receiveLanding (h : TablesKept s₀ s) : TablesKept s₀ s.receiveLanding := by
  unfold State.receiveLanding
  split
  · with_reducible exact TablesKept.receive h
  · exact h

theorem execClaim_tables {trigger : BitVec 4} (h : TablesKept s₀ s) : After TablesKept s₀ (execClaim trigger s) := by
  unfold execClaim
  extract_lets
  with_reducible exact After.ite (.next (.startClaim h)) (.next h)

theorem execClaimDecision_tables (h : TablesKept s₀ s) : After TablesKept s₀ (execClaimDecision s) := by
  unfold execClaimDecision
  with_reducible exact After.next (.decideClaim h)

theorem execCommandCell_tables {c : CommandCell} (h : TablesKept s₀ s) : After TablesKept s₀ (execCommandCell c s) := by
  unfold execCommandCell
  extract_lets
  with_reducible refine After.ite (.next h) (.ite (.next (.foldl (fun _ _ h => .keepCommand h) (.receiveLanding h))) ?_)
  extract_lets
  split
  · with_reducible exact After.ite (.next (.count (.receiveLanding h))) (.ite (.next (.count (.receiveLanding h))) (.ite (.next (.foldl (fun
      _ _ h => .relayCommand h) (.withTwn (.count (.send (.receiveLanding h)))))) (.next (.foldl (fun _ _ h => .keepCommand h)
      (.receiveLanding h)))))
  · with_reducible exact After.next (.count (.receiveLanding h))

theorem execGrantCell_tables {porch : BitVec 4} {g : GrantCell} (h : TablesKept s₀ s)
    : After TablesKept s₀ (execGrantCell porch g s) := by
  unfold execGrantCell
  extract_lets
  with_reducible refine After.ite (.next h) (.ite (.next (.ite (.withTwn (.seeEpoch (.receive h))) (.seeEpoch (.receive h)))) ?_)
  extract_lets
  split
  · with_reducible exact After.ite (.next (.seeEpoch (.receive h))) (.next (.withTwn (.seeEpoch (.receive h))))
  · with_reducible exact After.next (.seeEpoch (.receive h))

theorem execReassert_tables (h : TablesKept s₀ s) : After TablesKept s₀ (execReassert s) := by
  unfold execReassert
  extract_lets
  with_reducible exact After.ite (.next (.sendAll h)) (.next h)

theorem execResyncCell_tables {part : ResyncPart} (h : TablesKept s₀ s) : After TablesKept s₀ (execResyncCell part s) := by
  unfold execResyncCell
  extract_lets
  with_reducible refine After.ite (.next h) ?_
  extract_lets
  split
  · with_reducible exact After.next (.withUpd (.receiveLanding h))
  · with_reducible exact After.ite (.next (.withTwn (.receiveLanding h))) (.next (.receiveLanding h))
  · with_reducible exact After.next (.withTwn (.receiveLanding h))
  · with_reducible exact After.ite (.next (.withTwn (.receiveLanding h))) (.next (.receiveLanding h))

theorem execResyncStart_tables (h : TablesKept s₀ s) : After TablesKept s₀ (execResyncStart s) := by
  unfold execResyncStart
  with_reducible exact After.next (.startResync h)

theorem execStateCell_tables {c : StateCell} (h : TablesKept s₀ s) : After TablesKept s₀ (execStateCell c s) := by
  unfold execStateCell
  extract_lets
  with_reducible exact After.ite (.next h) (.next (.withTwn (.seeEpoch (.receiveLanding h))))

theorem execTimeCellRx_tables {c : TimeCell} {offset : Int} (h : TablesKept s₀ s) : After TablesKept s₀ (execTimeCellRx c offset s) := by
  unfold execTimeCellRx
  extract_lets
  with_reducible exact After.ite (.next h) (.ite (.ite (.ite (.next (.ite (.withHrt (.seeEpoch (.receiveLanding h))) (.withHrt (.withHrt
    (.seeEpoch (.receiveLanding h)))))) (.next (.seeReference (.ite (.withHrt (.seeEpoch (.receiveLanding h))) (.withHrt (.withHrt
    (.seeEpoch (.receiveLanding h)))))))) (.next (.withHrt (.seeEpoch (.receiveLanding h))))) (.next (.seeEpoch (.receiveLanding h))))

theorem execWithdrawCell_tables {w : WithdrawCell} (h : TablesKept s₀ s) : After TablesKept s₀ (execWithdrawCell w s) := by
  unfold execWithdrawCell
  extract_lets
  with_reducible exact After.ite (.next h) (.next (.ite (.startClaim (.guardEvent (.receiveLanding h))) (.guardState (.guardEvent
    (.receiveLanding h)))))

end

end Sys2Proof.Machine
end

-- Tables through plans, seats, firmware, the Attic and cages -----------------------------------------------------------------------------
section
/-! O3: every definition that reaches a table keeps the tables canonical, in the order of the model's files. `h` speaks of the state
before; each proof follows the definition's own lets and branches and names what each of its changes leaves. -/
namespace Sys2Proof.Machine

section
variable {s₀ s : State}

-- Plans

theorem TablesKept.freezeLost (h : TablesKept s₀ s) : TablesKept s₀ s.freezeLost := by
  unfold State.freezeLost
  split
  · refine .ite ?_ h
    have h₁ := TablesKept.freezeWhere h (r := 5) (p := fun _ => true)
    exact .withPlan h₁ id
  · exact h

theorem TablesKept.noVariant (h : TablesKept s₀ s) : TablesKept s₀ s.noVariant := by
  unfold State.noVariant
  extract_lets
  split
  · with_reducible exact TablesKept.inTick (fun _ h => .verdict (fun _ h => .record (.faultOn (.withPlan h id))) h) h
  · with_reducible exact TablesKept.inTick (fun _ h => .verdict (fun _ h => .record (.faultOn (.withPlan h id))) h) h
  · with_reducible exact TablesKept.inTick (fun _ h => .verdict (fun _ h => .record (.faultOn (.withPlan h id))) h) h
  · exact h
  · exact h

theorem TablesKept.dropWeights (h : TablesKept s₀ s) : TablesKept s₀ s.dropWeights := by
  unfold State.dropWeights
  extract_lets
  with_reducible exact TablesKept.withEst (.withPlan h id) id

theorem TablesKept.placeService {j pages t : Nat} (h : TablesKept s₀ s) : TablesKept s₀ (s.placeService j pages t) := by
  unfold State.placeService
  extract_lets
  with_reducible exact TablesKept.updTile (.each (fun _ _ h => .endAt h) h)

theorem TablesKept.moveService {v : Placement} {r : JobRec} (h : TablesKept s₀ s) : TablesKept s₀ (s.moveService v r) := by
  unfold State.moveService
  extract_lets
  with_reducible exact TablesKept.ite h (.ite (.each (fun _ _ h => .placeService h) (.updJob (.withTil h (fun k => twf_tmap k _) id)))
    (.ite (.setJob (.each (fun _ _ h => .placeService h) (.updJob h))) h))

theorem TablesKept.moveServices {v : Placement} (h : TablesKept s₀ s) : TablesKept s₀ (s.moveServices v) := by
  unfold State.moveServices
  with_reducible exact TablesKept.foldl (fun _ _ h => .moveService h) h

theorem TablesKept.fillPages {t digest : Nat} {pages : List Nat} (h : TablesKept s₀ s) : TablesKept s₀ (s.fillPages t digest pages) := by
  unfold State.fillPages
  with_reducible exact TablesKept.foldl (fun _ _ h => .writeBytes h) h

theorem TablesKept.placeVariant {v : Placement} (h : TablesKept s₀ s) : TablesKept s₀ (s.placeVariant v) := by
  unfold State.placeVariant
  with_reducible exact TablesKept.each (fun _ _ h => .updTile (.ite h (.fillPages h))) h

theorem TablesKept.takePages (h : TablesKept s₀ s) : TablesKept s₀ s.takePages := by
  unfold State.takePages
  with_reducible exact TablesKept.each (fun _ _ h => .ite h (.each (fun _ _ h => .endAt h) h)) h

theorem TablesKept.switchVariant (h : TablesKept s₀ s) : TablesKept s₀ s.switchVariant := by
  unfold State.switchVariant
  extract_lets
  split
  · with_reducible refine TablesKept.ite ?_ ?_
    · extract_lets
      split
      · with_reducible exact TablesKept.raise (.dropWeights (.moveServices (.takePages (.placeVariant (.withPlan h id)))))
      · with_reducible exact TablesKept.withPlan h id
    · exact h
  · exact h

theorem TablesKept.selectPlacement (h : TablesKept s₀ s) : TablesKept s₀ s.selectPlacement := by
  unfold State.selectPlacement
  extract_lets
  with_reducible refine TablesKept.ite (.ite (.withPlan (.switchVariant h) id) ?_) ?_
  · extract_lets
    split
    · with_reducible exact TablesKept.ite (.withPlan (.switchVariant h) id) (.withPlan (.withPlan (.switchVariant h) id) id)
    · with_reducible exact TablesKept.noVariant (.withPlan (.switchVariant h) id)
  · exact h

theorem TablesKept.commitDone (h : TablesKept s₀ s) : TablesKept s₀ s.commitDone := by
  unfold State.commitDone
  extract_lets
  with_reducible exact TablesKept.raise (.withPlan h id)

theorem TablesKept.planResult {r : Nat} (h : TablesKept s₀ s) : TablesKept s₀ (s.planResult r) := by
  unfold State.planResult
  extract_lets
  with_reducible exact TablesKept.withPlan h id

theorem TablesKept.commitFail {r : Nat} (h : TablesKept s₀ s) : TablesKept s₀ (s.commitFail r) := by
  unfold State.commitFail
  extract_lets
  with_reducible exact TablesKept.ite (.raise (.planResult h)) (.planResult h)

theorem TablesKept.clearJobs {kept : List Nat} (h : TablesKept s₀ s) : TablesKept s₀ (s.clearJobs kept) := by
  unfold State.clearJobs
  extract_lets s₁ s₂
  have h₂ : TablesKept s₀ s₂ := .each (fun _ _ h => .evictJob h) (.each (fun _ _ h => .endNow h) h)
  exact .withTil h₂ (fun k => twf_tmap k _) id

theorem TablesKept.loadImage {r : JobRec} (h : TablesKept s₀ s) : TablesKept s₀ (s.loadImage r) := by
  unfold State.loadImage
  split
  · with_reducible exact TablesKept.foldl (fun _ _ h => .writeByte h) (.zeroBytes h)
  · exact h

theorem TablesKept.commitJobs {q : Plan} {kept : List Nat} (h : TablesKept s₀ s) : TablesKept s₀ (s.commitJobs q kept) := by
  unfold State.commitJobs
  with_reducible
    exact TablesKept.foldl (fun _ _ h => .placeJob (.ite (.updJob h) (.setJob (.ite (.loadImage (.updJob h)) (.updJob h))))) (.allotPages
      h)

theorem TablesKept.commitLoops {q : Plan} {ls : List Nat} {first : Option Nat} (h : TablesKept s₀ s)
    : TablesKept s₀ (s.commitLoops q ls first) := by
  unfold State.commitLoops
  extract_lets s₁ dropped _ s₂ _ s₃
  have h₁ : TablesKept s₀ s₁ := .each (fun _ _ h => .giveDesc h) h
  have h₂ : TablesKept s₀ s₂ := .ite (.raise (.descResult (.withEng h₁ id id))) h₁
  have h₃ : TablesKept s₀ s₃ := .withEng h₂ id id
  split
  · exact .withLoops h₃ fun k => twf_tmap k _
  · exact h₃

theorem TablesKept.commitPorch {old : List LaneEntry} {p : Nat} (h : TablesKept s₀ s) : TablesKept s₀ (State.commitPorch old s p) := by
  unfold State.commitPorch
  extract_lets
  with_reducible exact TablesKept.ite h (.ite (.raise (.updPorch h)) (.ite (.inTick (fun _ h => .configure h) (.updPorch h)) (.updPorch
    h)))

theorem TablesKept.commitShelves {q : Plan} {bridged : Bool} (h : TablesKept s₀ s) : TablesKept s₀ (s.commitShelves q bridged) := by
  unfold State.commitShelves
  extract_lets
  with_reducible exact TablesKept.foldl (fun _ _ h => .updShelf h) (.each (fun _ _ h => .ite (.emptyShelf h) (.updShelf (.emptyShelf h)))
    h)

theorem TablesKept.commitTables {q : Plan} (h : TablesKept s₀ s) : TablesKept s₀ (s.commitTables q) := by
  unfold State.commitTables
  extract_lets
  with_reducible exact TablesKept.withPlanMovEst (.each (fun _ _ h => .raise h) h) id id id (fun _ => rfl) id id

theorem TablesKept.placeTiles {v : Placement} {rolled : Bool} {digest : Nat} (h : TablesKept s₀ s)
    : TablesKept s₀ (s.placeTiles v rolled digest) := by
  unfold State.placeTiles
  with_reducible exact TablesKept.each (fun _ _ h => .updTile (.ite h (.fillPages h))) h

theorem TablesKept.commitFull {q : Plan} {kind : Nat} (h : TablesKept s₀ s) : TablesKept s₀ (s.commitFull q kind) := by
  unfold State.commitFull
  extract_lets t old first bridged bend ls s₁ s₂ loads s₃ _ _ _ _ s₄ kept s₅ s₆
  have h₂ : TablesKept s₀ s₂ := .commitLoops (.commitMoves h)
  have h₃ : TablesKept s₀ s₃ := .commitTables h₂
  have hloads : Table.ok .loads s₀ → twf (fun _ => ({} : TableLoad)) loads = true := h₂ .loads
  clear_value s₃ loads
  have h₄ : TablesKept s₀ s₄ := by
    intro k hk
    cases k with
    | loads => exact hloads hk
    | _ => exact h₃ _ hk
  clear_value s₄
  have h₆ : TablesKept s₀ s₆ := .each (fun _ _ h => .commitPorch h) (.commitJobs (.placeTiles (.clearJobs (.commitShelves h₄))))
  exact .ite (.firstRole h₆) (.laterRole h₆)

theorem TablesKept.patchTables {q : Plan} (h : TablesKept s₀ s) : TablesKept s₀ (s.patchTables q) := by
  unfold State.patchTables
  extract_lets
  with_reducible
    exact TablesKept.each (fun _ _ h => .ite (.rearmAll (.ite (.withMov (.restartPlanning (.raise (.updTable h))) id id id id) (.raise
      (.updTable h)))) (.ite (.withMov (.restartPlanning (.raise (.updTable h))) id id id id) (.raise (.updTable h)))) (.withPlan h id)

theorem TablesKept.commitPatch {q : Plan} (h : TablesKept s₀ s) : TablesKept s₀ (s.commitPatch q) := by
  unfold State.commitPatch
  extract_lets
  with_reducible exact TablesKept.retryRefused (.each (fun _ _ h => .commitPorch h) (.withPlan (.patchTables (.commitLoops (.commitMoves
    h))) id))

theorem TablesKept.commitSide (h : TablesKept s₀ s) : TablesKept s₀ s.commitSide := by
  unfold State.commitSide
  extract_lets
  with_reducible exact TablesKept.withTwn (.setField h)

theorem TablesKept.decideMoves (h : TablesKept s₀ s) : TablesKept s₀ s.decideMoves := by
  unfold State.decideMoves
  extract_lets
  with_reducible exact TablesKept.each (fun _ _ h => .decideMove h) (.handOvers (.moveLegs h))

theorem TablesKept.finishLoads (h : TablesKept s₀ s) : TablesKept s₀ s.finishLoads := by
  unfold State.finishLoads
  extract_lets
  with_reducible exact TablesKept.each (fun _ _ h => .raise h) (.withPlanMov h (fun _ => rfl) id id id id)

theorem TablesKept.patchRelease (h : TablesKept s₀ s) : TablesKept s₀ s.patchRelease := by
  unfold State.patchRelease
  extract_lets
  with_reducible exact TablesKept.withPlan h id

theorem TablesKept.commitEffect (h : TablesKept s₀ s) : TablesKept s₀ s.commitEffect := by
  unfold State.commitEffect
  extract_lets
  with_reducible refine TablesKept.ite ?_ ?_
  · extract_lets
    split
    · with_reducible exact TablesKept.ite (.commitFail (.patchRelease (.withPlan (.decideMoves h) id))) (.ite (.withPlan (.commitDone
        (.withPlan (.withStaged (.commitSide (.ite (.commitPatch (.decideMoves h)) (.commitFull (.decideMoves h))))) id)) id) (.ite
        (.commitDone (.withPlan (.withStaged (.commitSide (.ite (.commitPatch (.decideMoves h)) (.commitFull (.decideMoves h))))) id))
        (.commitDone (.finishLoads (.withPlan (.withStaged (.commitSide (.ite (.commitPatch (.decideMoves h)) (.commitFull (.decideMoves
        h))))) id)))))
    · with_reducible exact TablesKept.withPlan h id
  · exact h

theorem TablesKept.endBridge (h : TablesKept s₀ s) : TablesKept s₀ s.endBridge := by
  unfold State.endBridge
  extract_lets
  with_reducible exact TablesKept.ite (.withPlan (.finishLoads h) id) h

theorem TablesKept.keepCandidate {v : Verdict} {fig : Figures} (h : TablesKept s₀ s) : TablesKept s₀ (s.keepCandidate v fig) := by
  unfold State.keepCandidate
  extract_lets
  with_reducible exact TablesKept.withPlan h id

theorem TablesKept.publish {v : Verdict} {fig : Figures} (h : TablesKept s₀ s) : TablesKept s₀ (s.publish v fig) := by
  unfold State.publish
  extract_lets
  with_reducible exact TablesKept.withPlan h id

theorem TablesKept.finishValidation (h : TablesKept s₀ s) : TablesKept s₀ s.finishValidation := by
  unfold State.finishValidation
  extract_lets
  split
  · with_reducible exact TablesKept.ite (.ite (.raise (.withPlan (.keepCandidate (.publish (.withPlan h id))) id)) (.raise (.withPlan
      (.keepCandidate (.publish (.withPlan h id))) id))) (.withPlan h id)
  · exact h

theorem TablesKept.preloadTick (h : TablesKept s₀ s) : TablesKept s₀ s.preloadTick := by
  unfold State.preloadTick
  extract_lets
  with_reducible exact TablesKept.ite (.withPlan (.each (fun _ _ h => .updTile (.fillPages h)) (.each (fun _ _ h => .evictJob h) h)) id) h

theorem TablesKept.takeCancel (h : TablesKept s₀ s) : TablesKept s₀ s.takeCancel := by
  unfold State.takeCancel
  extract_lets
  split
  · with_reducible exact TablesKept.withPlan h id
  · with_reducible exact TablesKept.withPlan h id
  · with_reducible exact TablesKept.patchRelease (.withPlan h id)
  · with_reducible exact TablesKept.patchRelease (.withPlan h id)
  · with_reducible exact TablesKept.planResult h
  · with_reducible exact TablesKept.planResult h
  · with_reducible exact TablesKept.planResult h

theorem TablesKept.patchClaim {q : Plan} (h : TablesKept s₀ s) : TablesKept s₀ (s.patchClaim q) := by
  unfold State.patchClaim
  with_reducible exact TablesKept.ite (.foldl (fun _ _ h => .updTable h) h) h

theorem TablesKept.takeCommit {force : Bool} (h : TablesKept s₀ s) : TablesKept s₀ (s.takeCommit force) := by
  unfold State.takeCommit
  extract_lets
  with_reducible refine TablesKept.ite (.planResult h) ?_
  extract_lets
  split
  · with_reducible exact TablesKept.ite (.commitFail (.keepCandidate (.publish h))) (.ite (.commitFail (.keepCandidate h)) (.ite
      (.commitFail (.keepCandidate h)) (.patchClaim (.withPlan (.keepCandidate h) (fun _ => rfl)))))
  · with_reducible exact TablesKept.commitFail h

theorem TablesKept.takeValidate (h : TablesKept s₀ s) : TablesKept s₀ s.takeValidate := by
  unfold State.takeValidate
  extract_lets
  with_reducible exact TablesKept.ite (.planResult h) (.withPlanUpd h id)

theorem TablesKept.takePlan (h : TablesKept s₀ s) : TablesKept s₀ s.takePlan := by
  unfold State.takePlan
  extract_lets
  split
  · with_reducible exact TablesKept.takeValidate (.withOps h)
  · with_reducible exact TablesKept.takeCommit (.withOps h)
  · with_reducible exact TablesKept.takeCancel (.withOps h)
  · with_reducible exact TablesKept.withOps h

theorem execBridgeEnd_tables (h : TablesKept s₀ s) : After TablesKept s₀ (execBridgeEnd s) := by
  unfold execBridgeEnd
  with_reducible exact After.next (.endBridge h)

theorem execCommitTakeEffect_tables (h : TablesKept s₀ s) : After TablesKept s₀ (execCommitTakeEffect s) := by
  unfold execCommitTakeEffect
  with_reducible exact After.next (.commitEffect h)

theorem execPlacementSelect_tables (h : TablesKept s₀ s) : After TablesKept s₀ (execPlacementSelect s) := by
  unfold execPlacementSelect
  with_reducible exact After.next (.selectPlacement h)

theorem execValidationEnd_tables {fig : Figures} (h : TablesKept s₀ s) : After TablesKept s₀ (execValidationEnd fig s) := by
  unfold execValidationEnd
  extract_lets
  with_reducible exact After.ite (.next (.withPlan h id)) (.next h)

theorem execVariantSwitch_tables (h : TablesKept s₀ s) : After TablesKept s₀ (execVariantSwitch s) := by
  unfold execVariantSwitch
  with_reducible exact After.next (.switchVariant h)

-- Traces

theorem TablesKept.takeTraceArm {ch : Nat} (h : TablesKept s₀ s) : TablesKept s₀ (s.takeTraceArm ch) := by
  unfold State.takeTraceArm
  extract_lets
  with_reducible exact TablesKept.ite (.updChan h) (.updChan h)

theorem TablesKept.takeTraceArms (h : TablesKept s₀ s) : TablesKept s₀ s.takeTraceArms := by
  unfold State.takeTraceArms
  with_reducible exact TablesKept.each (fun _ _ h => .takeTraceArm h) h

theorem TablesKept.traceSample {fired : List Nat} {ch : Nat} (h : TablesKept s₀ s) : TablesKept s₀ (s.traceSample fired ch) := by
  unfold State.traceSample
  extract_lets
  with_reducible exact TablesKept.ite h (.ite h (.ite (.updChan h) (.updChan h)))

theorem TablesKept.traceFrame (h : TablesKept s₀ s) : TablesKept s₀ s.traceFrame := by
  unfold State.traceFrame
  extract_lets
  with_reducible exact TablesKept.each (fun _ _ h => .updChan h) (.each (fun _ _ h => .traceSample h) h)

theorem TablesKept.ringSample {c : Channel} {i : Nat} {w : Word} (h : TablesKept s₀ s) : TablesKept s₀ (s.ringSample c i w) := by
  unfold State.ringSample
  with_reducible exact TablesKept.hallWrite h

theorem TablesKept.ringSamples {c : Channel} {i : Nat} {l : List Word} (h : TablesKept s₀ s) : TablesKept s₀ (s.ringSamples c i l) := by
  induction l generalizing s i with
  | nil => exact h
  | cons w ws ih => exact ih (.ringSample h)

theorem execTraceArm_tables {channel : BitVec 6} (h : TablesKept s₀ s) : After TablesKept s₀ (execTraceArm channel s) := by
  unfold execTraceArm
  with_reducible exact After.next (.updChan h)

theorem execTraceWrite_tables {channel : BitVec 6} {count : BitVec 14} (h : TablesKept s₀ s)
    : After TablesKept s₀ (execTraceWrite channel count s) := by
  unfold execTraceWrite
  extract_lets
  with_reducible exact After.ite (.next h) (.next (.hallWrite (.zeroBytes (.updChan (.ringSamples h)))))

theorem execTrigNow_tables {channel : BitVec 6} (h : TablesKept s₀ s) : After TablesKept s₀ (execTrigNow channel s) := by
  unfold execTrigNow
  with_reducible exact After.next (.updChan h)

-- Seats

theorem TablesKept.takeFeat {i : Nat} (h : TablesKept s₀ s) : TablesKept s₀ (s.takeFeat i) := by
  unfold State.takeFeat
  extract_lets
  with_reducible exact TablesKept.withLater (.setField (.ite (.updSeat (.foldl (fun _ _ h => .setReg h) (.setField h))) (.setField h)))

theorem TablesKept.featTick (h : TablesKept s₀ s) : TablesKept s₀ s.featTick := by
  unfold State.featTick
  extract_lets
  with_reducible exact TablesKept.withOps (.each (fun _ _ h => .takeFeat h) h)

theorem TablesKept.clearPage {i : Nat} (h : TablesKept s₀ s) : TablesKept s₀ (s.clearPage i) := by
  unfold State.clearPage
  extract_lets
  with_reducible exact TablesKept.withRegsLive h fun k => twf_filter k _

theorem TablesKept.dropStaging (h : TablesKept s₀ s) : TablesKept s₀ s.dropStaging := by
  unfold State.dropStaging
  split
  · exact .withUpd (.inTick (fun _ h => .sendAll h) h)
  · exact h

theorem TablesKept.resetOwner (h : TablesKept s₀ s) : TablesKept s₀ s.resetOwner := by
  unfold State.resetOwner
  extract_lets
  with_reducible exact TablesKept.dropStaging (.withAttPlan (.ite (.withAttPlan h id) h) id)

theorem TablesKept.resetTick {i : Nat} (h : TablesKept s₀ s) : TablesKept s₀ (s.resetTick i) := by
  unfold State.resetTick
  extract_lets
  with_reducible exact TablesKept.updSeat (.withOps (.clearPage (.ite (.resetOwner (.each (fun _ _ h => .updChan h) (.each (fun _ _ h =>
    .emptyShelf h) (.each (fun _ _ h => .endAt h) h)))) (.each (fun _ _ h => .updChan h) (.each (fun _ _ h => .emptyShelf h) (.each (fun _
    _ h => .endAt h) h))))))

theorem TablesKept.resetsTick (h : TablesKept s₀ s) : TablesKept s₀ s.resetsTick := by
  unfold State.resetsTick
  with_reducible exact TablesKept.each (fun _ _ h => .resetTick h) h

theorem TablesKept.resetSeat {stays : Bool} {i : Nat} (h : TablesKept s₀ s) : TablesKept s₀ (s.resetSeat stays i) := by
  unfold State.resetSeat
  extract_lets
  with_reducible exact TablesKept.ite (.raise (.withTakenPortMovUpd (.updSeat h) id id id id)) h

theorem TablesKept.resetSeats {stays : Bool} (h : TablesKept s₀ s) : TablesKept s₀ (s.resetSeats stays) := by
  unfold State.resetSeats
  extract_lets
  with_reducible exact TablesKept.withPort (.each (fun _ _ h => .resetSeat h) h)

theorem execClearingDone_tables {seat : BitVec 3} (h : TablesKept s₀ s) : After TablesKept s₀ (execClearingDone seat s) := by
  unfold execClearingDone
  extract_lets
  with_reducible exact After.ite (.next (.updSeat (.zeroBytes h))) (.next h)

theorem execIdeFail_tables (h : TablesKept s₀ s) : After TablesKept s₀ (execIdeFail s) := by
  unfold execIdeFail
  extract_lets
  with_reducible exact After.next (.each (fun _ _ h => .resetSeat h) (.raise (.withPort h)))

theorem execLinkDown_tables (h : TablesKept s₀ s) : After TablesKept s₀ (execLinkDown s) := by
  unfold execLinkDown
  extract_lets
  with_reducible exact After.ite (.next (.withPort (.raise (.resetSeats h)))) (.next h)

theorem execLinkRecovery_tables (h : TablesKept s₀ s) : After TablesKept s₀ (execLinkRecovery s) := by
  unfold execLinkRecovery
  with_reducible exact After.ite (.next (.count h)) (.next h)

theorem execPerst_tables (h : TablesKept s₀ s) : After TablesKept s₀ (execPerst s) := by
  unfold execPerst
  extract_lets
  with_reducible exact After.next (.withPort (.resetSeats h))

theorem execSeatBound_tables {seat : BitVec 3} (h : TablesKept s₀ s) : After TablesKept s₀ (execSeatBound seat s) := by
  unfold execSeatBound
  extract_lets
  with_reducible exact After.ite (.next h) (.next (.raise (.updSeat h)))

theorem execSeatReset_tables {seat : BitVec 3} {unbind : Bool} (h : TablesKept s₀ s)
    : After TablesKept s₀ (execSeatReset seat unbind s) := by
  unfold execSeatReset
  with_reducible exact After.next (.resetSeat h)

theorem execSlotWrite_tables {seat : BitVec 3} {offset : BitVec 28} {bytes : List Byte} (h : TablesKept s₀ s)
    : After TablesKept s₀ (execSlotWrite seat offset bytes s) := by
  unfold execSlotWrite
  extract_lets
  with_reducible exact After.ite (.fault _ _ _) (.ite (.next h) (.next (.ite (.seatEvt (.foldl (fun _ _ h => .ite h (.writeByte h)) h))
    (.foldl (fun _ _ h => .ite h (.writeByte h)) h))))

-- Firmware

theorem TablesKept.setBulk {on : Bool} (h : TablesKept s₀ s) : TablesKept s₀ (s.setBulk on) := by
  unfold State.setBulk
  extract_lets
  with_reducible exact TablesKept.withLive (.setField h)

theorem TablesKept.beginRestart {cycles : Nat} (h : TablesKept s₀ s) : TablesKept s₀ (s.beginRestart cycles) := by
  unfold State.beginRestart
  extract_lets
  with_reducible exact TablesKept.withUpd (.setBulk h)

theorem TablesKept.activateNow {cycles : Nat} {fails : Bool} {schema : Option Nat} (h : TablesKept s₀ s)
    : TablesKept s₀ (s.activateNow cycles fails schema) := by
  unfold State.activateNow
  extract_lets
  with_reducible exact TablesKept.ite (.migrate (.raise (.beginRestart (.withUpdFlash (.setFwSlot h))))) h

theorem TablesKept.askHead {op len tick p : Nat} (h : TablesKept s₀ s) : TablesKept s₀ (s.askHead op len tick p) := by
  unfold State.askHead
  extract_lets
  with_reducible exact TablesKept.withUpd (.send h)

theorem TablesKept.askHeadNext {op len tick p : Nat} (h : TablesKept s₀ s) : TablesKept s₀ (s.askHeadNext op len tick p) := by
  unfold State.askHeadNext
  with_reducible exact TablesKept.inTick (fun _ h => .askHead h) h

theorem TablesKept.beginFallback {cause : Nat} (h : TablesKept s₀ s) : TablesKept s₀ (s.beginFallback cause) := by
  unfold State.beginFallback
  extract_lets
  with_reducible exact TablesKept.ite (.withUpd (.each (fun _ _ h => .askHeadNext h) h)) h

theorem TablesKept.deferActivation (h : TablesKept s₀ s) : TablesKept s₀ s.deferActivation := by
  unfold State.deferActivation
  extract_lets
  split
  · with_reducible exact TablesKept.ite (.withUpd (.each (fun _ _ h => .askHeadNext h) h)) h
  · exact h

theorem TablesKept.endRestart (h : TablesKept s₀ s) : TablesKept s₀ s.endRestart := by
  unfold State.endRestart
  extract_lets
  with_reducible exact TablesKept.ite (.ite (.recordFallback (.withUpd (.setFwSlot (.foldl (fun _ _ h => .doeAnswer h) (.withPort
    (.withUpd (.setBulk h))))))) (.ite (.withUpd (.foldl (fun _ _ h => .doeAnswer h) (.withPort (.withUpd (.setBulk h))))) (.foldl (fun _
    _ h => .doeAnswer h) (.withPort (.withUpd (.setBulk h)))))) h

theorem TablesKept.loadCup {c : Nat} (h : TablesKept s₀ s) : TablesKept s₀ (s.loadCup c) := by
  unfold State.loadCup
  extract_lets
  with_reducible exact TablesKept.withMemUpd (.foldl (fun _ _ h => .updDev h) h) id id id

theorem TablesKept.restoreCup {new : Nat} (h : TablesKept s₀ s) : TablesKept s₀ (s.restoreCup new) := by
  unfold State.restoreCup
  extract_lets s₁
  have h₁ : TablesKept s₀ s₁ := by
    dsimp only [s₁]
    split
    · exact .updCup h
    · exact h
  split
  · exact .loadCup (.updCup h₁)
  · exact h₁

theorem TablesKept.fallbackNow {cycles : Nat} (h : TablesKept s₀ s) : TablesKept s₀ (s.fallbackNow cycles) := by
  unfold State.fallbackNow
  extract_lets
  with_reducible exact TablesKept.ite (.raise (.beginRestart (.restoreCup (.withUpdFlash h)))) h

theorem TablesKept.loadSkipped (h : TablesKept s₀ s) : TablesKept s₀ s.loadSkipped := by
  unfold State.loadSkipped
  split
  · with_reducible exact TablesKept.ite (.each (fun _ _ h => .withUpd (.askHeadNext h)) h) h
  · exact h

theorem TablesKept.retimeActivation (h : TablesKept s₀ s) : TablesKept s₀ s.retimeActivation := by
  unfold State.retimeActivation
  split
  · with_reducible exact TablesKept.ite (.withUpd (.each (fun _ _ h => .askHeadNext h) h)) h
  · exact h

theorem TablesKept.stageTick (h : TablesKept s₀ s) : TablesKept s₀ s.stageTick := by
  unfold State.stageTick
  split
  · exact .raise (.updResult (.withUpd h))
  · exact .raise (.updResult (.withUpd (.inTick (fun _ h => .sendAll h) h)))
  · exact h

theorem TablesKept.takeActivate {timeNs : Bool} (h : TablesKept s₀ s) : TablesKept s₀ (s.takeActivate timeNs) := by
  unfold State.takeActivate
  extract_lets
  with_reducible exact TablesKept.ite (.updResult h) (.ite (.updResult h) (.updResult (.withUpd (.each (fun _ _ h => .askHeadNext h) h))))

theorem TablesKept.takeFallback (h : TablesKept s₀ s) : TablesKept s₀ s.takeFallback := by
  unfold State.takeFallback
  with_reducible exact TablesKept.ite (.updResult (.beginFallback h)) (.updResult h)

theorem TablesKept.takeUpdCancel (h : TablesKept s₀ s) : TablesKept s₀ s.takeUpdCancel := by
  unfold State.takeUpdCancel
  extract_lets
  with_reducible exact TablesKept.ite (.updResult h) (.ite (.updResult h) (.updResult (.withUpd (.each (fun _ _ h => .askHeadNext h) h))))

theorem TablesKept.takeUpdCmd (h : TablesKept s₀ s) : TablesKept s₀ s.takeUpdCmd := by
  unfold State.takeUpdCmd
  extract_lets
  split
  · with_reducible refine TablesKept.ite (.updResult (.withOps h)) ?_
    extract_lets
    split
    · with_reducible exact TablesKept.takeStage (.withOps h)
    · with_reducible exact TablesKept.takeActivate (.withOps h)
    · with_reducible exact TablesKept.takeUpdCancel (.withOps h)
    · with_reducible exact TablesKept.takeConfirm (.withOps h)
    · with_reducible exact TablesKept.takeFallback (.withOps h)
    · with_reducible exact TablesKept.takeKey (.withOps h)
    · with_reducible exact TablesKept.takeKey (.withOps h)
    · with_reducible exact TablesKept.withOps h
  · with_reducible exact TablesKept.withOps h

theorem TablesKept.updTick {cycles : Nat} (h : TablesKept s₀ s) : TablesKept s₀ (s.updTick cycles) := by
  unfold State.updTick
  extract_lets s₁ s₂ s₃ s₄ s₅
  have h₁ : TablesKept s₀ s₁ := .ite (.retimeActivation (.burnTick h)) (.burnTick h)
  have h₂ : TablesKept s₀ s₂ := .ite (.endRestart h₁) h₁
  have h₄ : TablesKept s₀ s₄ := .activateNow (.fallbackNow (.endWindow h₂))
  have h₅ : TablesKept s₀ s₅ := by
    dsimp only [s₅]
    split
    · exact .ite (.beginFallback h₄) h₄
    · exact h₄
  with_reducible exact .deferActivation (.loadSkipped (.takeTwinStage (.takeUpdCmd (.stageTick (.keyTick h₅)))))

theorem TablesKept.forwardBundle (h : TablesKept s₀ s) : TablesKept s₀ s.forwardBundle := by
  unfold State.forwardBundle
  split
  · with_reducible exact TablesKept.ite (.send h) h
  · exact h

theorem TablesKept.relayHeads {b : Bundle} (h : TablesKept s₀ s) : TablesKept s₀ (s.relayHeads b) := by
  unfold State.relayHeads
  extract_lets
  with_reducible exact TablesKept.withUpd (.each (fun _ _ h => .askHead h) h)

theorem execActivation_tables {migrationFails : Bool} {newSchema : BitVec 16} (h : TablesKept s₀ s)
    : After TablesKept s₀ (execActivation migrationFails newSchema s) := by
  unfold execActivation
  with_reducible exact After.next (.activateNow h)

theorem execFallbackTakeEffect_tables (h : TablesKept s₀ s) : After TablesKept s₀ (execFallbackTakeEffect s) := by
  unfold execFallbackTakeEffect
  with_reducible exact After.next (.fallbackNow h)

theorem execImgResult_tables {porch : BitVec 4} {result : BitVec 8} (h : TablesKept s₀ s)
    : After TablesKept s₀ (execImgResult porch result s) := by
  unfold execImgResult
  extract_lets
  with_reducible refine After.ite (.next h) ?_
  extract_lets
  split
  · with_reducible exact After.next (.receive h)
  · with_reducible refine After.ite (.next (.ite (.endStaging (.withUpd (.receive h))) (.withUpd (.receive h)))) (.next (.ite (.endStaging
      ?_) ?_))
    · extract_lets
      split
      · with_reducible exact TablesKept.withUpd (.receive h)
      · with_reducible exact TablesKept.withUpd (.receive h)
      · with_reducible exact TablesKept.withUpd (.receive h)
    · extract_lets
      split
      · with_reducible exact TablesKept.withUpd (.receive h)
      · with_reducible exact TablesKept.withUpd (.receive h)
      · with_reducible exact TablesKept.withUpd (.receive h)

theorem execRestartEnd_tables (h : TablesKept s₀ s) : After TablesKept s₀ (execRestartEnd s) := by
  unfold execRestartEnd
  with_reducible exact After.next (.endRestart h)

theorem execStagingDone_tables {flashOk : Bool} (h : TablesKept s₀ s) : After TablesKept s₀ (execStagingDone flashOk s) := by
  unfold execStagingDone
  extract_lets
  with_reducible refine After.ite (.next h) ?_
  extract_lets
  split
  · split
    · with_reducible exact After.next (.endStaging h)
    · with_reducible exact After.next h
  · split
    · with_reducible exact After.next (.endStaging (.forwardBundle h))
    · with_reducible exact After.ite (.next (.endStaging (.forwardBundle h))) (.next (.ite (.endStaging (.relayHeads (.writeSlot (.withUpd
        (.forwardBundle h))))) (.relayHeads (.writeSlot (.withUpd (.forwardBundle h))))))

-- The Attic

theorem TablesKept.endRead {x : AtticRead} {r : Nat} (h : TablesKept s₀ s) : TablesKept s₀ (s.endRead x r) := by
  unfold State.endRead
  extract_lets
  with_reducible exact TablesKept.raise (.withAtt (.setReg (.setReg h)))

theorem TablesKept.takeRead (h : TablesKept s₀ s) : TablesKept s₀ s.takeRead := by
  unfold State.takeRead
  extract_lets
  with_reducible exact TablesKept.ite (.setField h) (.ite (.setField h) (.withAtt (.setReg h)))

theorem TablesKept.takeAtt (h : TablesKept s₀ s) : TablesKept s₀ s.takeAtt := by
  unfold State.takeAtt
  extract_lets op _ s₁ _ s₂
  have h₁ : TablesKept s₀ s₁ := .withOps h
  have h₂ : TablesKept s₀ s₂ := by
    dsimp only [s₂]
    split
    · exact .ite (.endRead h₁) (.ite (.endRead h₁) h₁)
    · exact .withAtt h₁
  with_reducible exact .ite (.takeRead h₂) h₂

theorem TablesKept.writeRecord {e : AtticEvent} (h : TablesKept s₀ s) : TablesKept s₀ (s.writeRecord e) := by
  unfold State.writeRecord
  extract_lets
  with_reducible refine TablesKept.ite h ?_
  extract_lets
  split
  · with_reducible exact TablesKept.count (.withAtt h)
  · split
    · with_reducible exact TablesKept.ite (.raise (.count (.withAtt h))) (.ite (.raise (.count (.withAtt h))) (.count (.withAtt h)))
    · with_reducible exact TablesKept.raise (.count h)

theorem TablesKept.atticTick (h : TablesKept s₀ s) : TablesKept s₀ s.atticTick := by
  unfold State.atticTick
  extract_lets
  with_reducible exact TablesKept.takeAtt (.foldl (fun _ _ h => .writeRecord h) (.withAtt (.withAtt h)))

theorem TablesKept.copyRecords {x : AtticRead} {l : List AtticRec} (h : TablesKept s₀ s) : TablesKept s₀ (s.copyRecords x l).1 := by
  induction l generalizing s x with
  | nil => exact h
  | cons r l ih =>
    unfold State.copyRecords
    split
    · exact ih h
    split
    · exact h
    split
    · exact ih h
    split
    · exact h
    extract_lets bytes
    split
    · exact h
    · exact ih (.ite (.hallWrite h) h)

theorem execReadDone_tables (h : TablesKept s₀ s) : After TablesKept s₀ (execReadDone s) := by
  unfold execReadDone
  split
  · with_reducible exact After.ite (.next h) (.next (.withAtt (.copyRecords h)))
  · with_reducible exact After.next h

-- Cages

theorem TablesKept.squelchCage {c : Nat} {on : Bool} (h : TablesKept s₀ s) : TablesKept s₀ (s.squelchCage c on) := by
  unfold State.squelchCage
  with_reducible exact TablesKept.foldl (fun _ _ h => .updPorch h) h

theorem TablesKept.beginProbe {c : Nat} (h : TablesKept s₀ s) : TablesKept s₀ (s.beginProbe c) := by
  unfold State.beginProbe
  with_reducible exact TablesKept.updCage (.squelchCage h)

theorem TablesKept.darkLane {e : Nat × Nat} (h : TablesKept s₀ s) : TablesKept s₀ (s.darkLane e) := by
  unfold State.darkLane
  extract_lets
  with_reducible exact TablesKept.ite (.updLane (.loseSpare (.updPorch h))) (.updLane (.updPorch h))

theorem TablesKept.darkRun {p : Nat} (h : TablesKept s₀ s) : TablesKept s₀ (s.darkRun p) := by
  unfold State.darkRun
  with_reducible exact TablesKept.ite h (.abandonRun h)

theorem TablesKept.setLit {c lit : Nat} (h : TablesKept s₀ s) : TablesKept s₀ (s.setLit c lit) := by
  unfold State.setLit
  with_reducible exact TablesKept.foldl (fun _ _ h => .updPorch h) h

theorem execLatchClear_tables {cage : Fin 18} (h : TablesKept s₀ s) : After TablesKept s₀ (execLatchClear cage s) := by
  unfold execLatchClear
  extract_lets
  with_reducible exact After.ite (.next (.raise (.ite (.updPorch (.updCage h)) (.updCage h)))) (.next h)

theorem execLightReturn_tables {cage : Fin 18} {lit : BitVec 8} (h : TablesKept s₀ s)
    : After TablesKept s₀ (execLightReturn cage lit s) := by
  unfold execLightReturn
  extract_lets
  with_reducible exact After.ite (.next (.beginProbe (.setLit h))) (.next (.setLit h))

theorem execLossOfLight_tables {cage : Fin 18} (h : TablesKept s₀ s) : After TablesKept s₀ (execLossOfLight cage s) := by
  unfold execLossOfLight
  extract_lets
  with_reducible exact After.ite (.next h) (.next (.raise (.foldl (fun _ _ h => .darkLane h) (.ite (.updPorch (.darkRun (.updCage
    (.squelchCage (.guardEvent h))))) (.updCage (.squelchCage (.guardEvent h)))))))

theorem execModuleInsert_tables {cage : Fin 18} {qualified : Bool} {modState : BitVec 8 × List AppAd} (h : TablesKept s₀ s)
    : After TablesKept s₀ (execModuleInsert cage qualified modState s) := by
  unfold execModuleInsert
  extract_lets
  with_reducible exact After.next (.raise (.updCage h))

theorem execModuleInt_tables {cage : Fin 18} {rxLos txLos modState : BitVec 8} (h : TablesKept s₀ s)
    : After TablesKept s₀ (execModuleInt cage rxLos txLos modState s) := by
  unfold execModuleInt
  with_reducible exact After.ite (.next (.updCage h)) (.next h)

theorem execModuleRemove_tables {cage : Fin 18} (h : TablesKept s₀ s) : After TablesKept s₀ (execModuleRemove cage s) := by
  unfold execModuleRemove
  extract_lets
  with_reducible exact After.next (.raise (.updCage h))

theorem execMonitorPoll_tables {cage : Fin 18} {temp vcc : BitVec 16} {rx : List (BitVec 16)} (h : TablesKept s₀ s)
    : After TablesKept s₀ (execMonitorPoll cage temp vcc rx s) := by
  unfold execMonitorPoll
  with_reducible exact After.ite (.next (.updCage h)) (.next h)

theorem execProbe_tables {cage : Fin 18} (h : TablesKept s₀ s) : After TablesKept s₀ (execProbe cage s) := by
  unfold execProbe
  with_reducible exact After.ite (.next (.beginProbe h)) (.next h)

theorem execProbeEnd_tables {cage : Fin 18} {lit : BitVec 8} (h : TablesKept s₀ s) : After TablesKept s₀ (execProbeEnd cage lit s) := by
  unfold execProbeEnd
  extract_lets
  with_reducible exact After.ite (.ite (.next (.setLit h)) (.next (.updCage (.squelchCage (.setLit h))))) (.next h)

end

end Sys2Proof.Machine
end

-- Tables through power, notices, registers and the tick ----------------------------------------------------------------------------------
section
/-! O3: every definition that reaches a table keeps the tables canonical, in the order of the model's files. `h` speaks of the state
before; each proof follows the definition's own lets and branches and names what each of its changes leaves. -/
namespace Sys2Proof.Machine

section
variable {s₀ s : State}

-- Power and resets

theorem TablesKept.clearShed {cycles : Nat} (h : TablesKept s₀ s) : TablesKept s₀ (s.clearShed cycles) := by
  unfold State.clearShed
  extract_lets
  with_reducible exact TablesKept.ite (.raise (.withThm h id)) h

theorem TablesKept.detectStep {from_ : Nat} (h : TablesKept s₀ s) : TablesKept s₀ (s.detectStep from_) := by
  unfold State.detectStep
  extract_lets
  with_reducible refine TablesKept.ite h ?_
  extract_lets
  split
  · with_reducible exact TablesKept.recordThermal (.raise (.withThm h id))
  · exact h

theorem TablesKept.endStep {cycles : Nat} (h : TablesKept s₀ s) : TablesKept s₀ (s.endStep cycles) := by
  unfold State.endStep
  extract_lets
  with_reducible exact TablesKept.ite (.raise (.withThm h id)) h

theorem TablesKept.enterShed {die : Nat} {temp : Int} (h : TablesKept s₀ s) : TablesKept s₀ (s.enterShed die temp) := by
  unfold State.enterShed
  extract_lets
  with_reducible exact TablesKept.recordThermal (.raise (.withThm h id))

theorem TablesKept.enterWithdraw {die : Nat} {temp : Int} (h : TablesKept s₀ s) : TablesKept s₀ (s.enterWithdraw die temp) := by
  unfold State.enterWithdraw
  extract_lets
  with_reducible exact TablesKept.verdict (fun _ h => .faultOn h) (.recordThermal (.raise (.withThm h id)))

theorem TablesKept.tripNow {die : Nat} {temp : Int} (h : TablesKept s₀ s) : TablesKept s₀ (s.tripNow die temp) := by
  unfold State.tripNow
  extract_lets
  with_reducible exact TablesKept.ite h (.faultOn (.faultOn (.recordThermal (.fatal (.withBootThm h id)))))

theorem TablesKept.ladder (h : TablesKept s₀ s) : TablesKept s₀ s.ladder := by
  unfold State.ladder
  extract_lets
  with_reducible exact TablesKept.ite h (.ite (.inTick (fun _ h => .tripNow h) (.ite (.inTick (fun _ h => .enterWithdraw h) (.ite
    (.enterShed h) h)) (.ite (.withThm (.ite (.enterShed h) h) id) (.ite (.enterShed h) h)))) (.ite (.inTick (fun _ h => .enterWithdraw h)
    (.ite (.enterShed h) h)) (.ite (.withThm (.ite (.enterShed h) h) id) (.ite (.enterShed h) h))))

theorem TablesKept.maxTempReg {d : Nat} {t : Int} (h : TablesKept s₀ s) : TablesKept s₀ (s.maxTempReg d t) := by
  unfold State.maxTempReg
  with_reducible exact TablesKept.ite (.setField h) h

theorem TablesKept.powerTick {jobW : List (Nat × Nat)} (h : TablesKept s₀ s) : TablesKept s₀ (s.powerTick jobW) := by
  unfold State.powerTick
  extract_lets
  with_reducible exact TablesKept.ite (.raise (.withThm h id)) (.withThm h id)

theorem TablesKept.thermTick {x : TickIn} {from_ : Nat} (h : TablesKept s₀ s) : TablesKept s₀ (s.thermTick x from_) := by
  unfold State.thermTick
  extract_lets
  with_reducible exact TablesKept.ite h (.powerTick (.clearShed (.endStep (.ladder (.detectStep (.maxField (.withThm (.each (fun _ _ h =>
    .maxTempReg (.updDie h)) h) id)))))))

theorem TablesKept.bootCup (h : TablesKept s₀ s) : TablesKept s₀ s.bootCup := by
  unfold State.bootCup
  extract_lets r _ s₁ _ s₂
  have h₁ : TablesKept s₀ s₁ := by
    dsimp only [s₁]
    split
    · exact .withUpd h
    · exact .restoreCup h
  have h₂ : TablesKept s₀ s₂ := .withMem h₁ id id id
  with_reducible exact .foldl (fun _ _ h => .takeSpare h) h₂

theorem TablesKept.trySlot {i : Nat} (h : TablesKept s₀ s) : TablesKept s₀ (s.trySlot i).1 :=
  h.same (State.trySlot_frame _ _) (by decide)

theorem TablesKept.chooseSlot (h : TablesKept s₀ s) : TablesKept s₀ s.chooseSlot := by
  unfold State.chooseSlot
  extract_lets
  with_reducible exact TablesKept.ite (.withAttUpd (.trySlot h)) (.ite (.withAttUpd (.trySlot (.trySlot h))) (.faultOn (.raise
    (.withAttUpd (.trySlot (.trySlot h))))))

theorem TablesKept.lostAtBoot {d : Nat} (h : TablesKept s₀ s) : TablesKept s₀ (s.lostAtBoot d) := by
  unfold State.lostAtBoot
  with_reducible exact TablesKept.loseDevice (.updDev h)

theorem TablesKept.startBoot (h : TablesKept s₀ s) : TablesKept s₀ s.startBoot := by
  unfold State.startBoot
  extract_lets
  with_reducible exact TablesKept.bootCup (.chooseSlot (.bootFallback (.withBootAtt h)))

theorem TablesKept.wholeReset : TablesKept s₀ s.wholeReset := fun k _ => by cases k <;> rfl

theorem TablesKept.tripStop (h : TablesKept s₀ s) : TablesKept s₀ s.tripStop := by
  unfold State.tripStop
  extract_lets
  with_reducible exact TablesKept.each (fun _ _ h => .updPorch h) (.withPinsBoot h)

theorem TablesKept.stopTick (h : TablesKept s₀ s) : TablesKept s₀ s.stopTick := by
  unfold State.stopTick
  with_reducible exact TablesKept.ite (.tripStop h) h

theorem execFaultClear_tables {mask : BitVec 13} (h : TablesKept s₀ s) : After TablesKept s₀ (execFaultClear mask s) := by
  unfold execFaultClear
  extract_lets
  with_reducible exact After.next (.withPins (.foldl (fun _ _ h => .setField h) h))

theorem execConfigurationReady_tables {ms : BitVec 32} {badDevs : List (Fin 16)} {badHops : List (Fin 5)} (h : TablesKept s₀ s)
    : After TablesKept s₀ (execConfigurationReady ms badDevs badHops s) := by
  unfold execConfigurationReady
  extract_lets
  with_reducible exact After.ite (.next h) (.next (.each (fun _ _ h => .downHop h) (.each (fun _ _ h => .lostAtBoot h) (.each (fun _ _ h
    => .updPorch h) (.withBoot h)))))

theorem execIodSupplyFault_tables : After TablesKept s₀ (execIodSupplyFault s) := by
  unfold execIodSupplyFault
  extract_lets
  with_reducible exact After.next (.withBoot .wholeReset)

theorem execIodSupplyReturn_tables (h : TablesKept s₀ s) : After TablesKept s₀ (execIodSupplyReturn s) := by
  unfold execIodSupplyReturn
  extract_lets
  with_reducible exact After.ite (.next (.ite (.startBoot (.withBoot h)) (.withBoot h))) (.next h)

theorem execPorAssert_tables : After TablesKept s₀ (execPorAssert s) := by
  unfold execPorAssert
  extract_lets
  with_reducible exact After.next (.withPins .wholeReset)

theorem execPorDeassert_tables (h : TablesKept s₀ s) : After TablesKept s₀ (execPorDeassert s) := by
  unfold execPorDeassert
  extract_lets
  with_reducible exact After.ite (.next (.withPins h)) (.next (.startBoot (.withPins h)))

theorem execShedClear_tables (h : TablesKept s₀ s) : After TablesKept s₀ (execShedClear s) := by
  unfold execShedClear
  with_reducible exact After.next (.clearShed h)

theorem execStepEnd_tables (h : TablesKept s₀ s) : After TablesKept s₀ (execStepEnd s) := by
  unfold execStepEnd
  with_reducible exact After.next (.endStep h)

theorem execSupplyFail_tables {die : Fin 4} (h : TablesKept s₀ s) : After TablesKept s₀ (execSupplyFail die s) := by
  unfold execSupplyFail
  extract_lets
  with_reducible exact After.ite (.next h) (.next (.faultOn (.raise (.loseDie (.updDie h)))))

theorem execTrip_tables {die : Fin 5} {temp : BitVec 16} (h : TablesKept s₀ s) : After TablesKept s₀ (execTrip die temp s) := by
  unfold execTrip
  with_reducible exact After.ite (.next (.tripNow h)) (.next h)

theorem execTripStop_tables (h : TablesKept s₀ s) : After TablesKept s₀ (execTripStop s) := by
  unfold execTripStop
  with_reducible exact After.ite (.next (.tripStop h)) (.next h)

-- Notices

theorem TablesKept.finishOrder {o : TakenOrder} (h : TablesKept s₀ s) : TablesKept s₀ (s.finishOrder o) := by
  unfold State.finishOrder
  extract_lets
  with_reducible exact TablesKept.ite h (.ite (.raiseRecord (.hallWrite h)) (.hallWrite h))

theorem TablesKept.finishOrders (h : TablesKept s₀ s) : TablesKept s₀ s.finishOrders := by
  unfold State.finishOrders
  extract_lets
  with_reducible exact TablesKept.withTaken (.foldl (fun _ _ h => .finishOrder h) h)

theorem TablesKept.sendMsix {i : Nat} {srcs : List Nat} (h : TablesKept s₀ s) : TablesKept s₀ (s.sendMsix i srcs) := by
  unfold State.sendMsix
  extract_lets
  with_reducible exact TablesKept.withPort (.setReg h)

theorem TablesKept.setEvt {e : Event} (h : TablesKept s₀ s) : TablesKept s₀ (s.setEvt e) := by
  unfold State.setEvt
  split
  · with_reducible exact TablesKept.setField h
  · exact h

theorem TablesKept.writeNotice {i : Nat} {e : Event × Nat} (h : TablesKept s₀ s) : TablesKept s₀ (s.writeNotice i e) := by
  unfold State.writeNotice
  extract_lets
  with_reducible exact TablesKept.ite (.ite (.updSeat (.count h)) (.seatEvt (.updSeat (.count h)))) (.updSeat (.hallWrite h))

theorem TablesKept.flushNotices (h : TablesKept s₀ s) : TablesKept s₀ s.flushNotices := by
  unfold State.flushNotices
  extract_lets
  with_reducible exact TablesKept.ite (.foldl (fun _ _ h => .setEvt h) (.withPortEventsLater h)) (.each (fun _ _ h => .ite (.sendMsix
    (.ite (.foldl (fun _ _ h => .writeNotice h) h) (.setReg (.foldl (fun _ _ h => .writeNotice h) h)))) (.ite (.foldl (fun _ _ h =>
    .writeNotice h) h) (.setReg (.foldl (fun _ _ h => .writeNotice h) h)))) (.foldl (fun _ _ h => .setEvt h) (.withPortEventsLater h)))

theorem TablesKept.writePages (h : TablesKept s₀ s) : TablesKept s₀ s.writePages := by
  unfold State.writePages
  extract_lets
  with_reducible exact TablesKept.ite h (.withMov (.each (fun _ _ h => .updSeat h) h) id id id id)

theorem TablesKept.carryOrder {o : TakenOrder} (h : TablesKept s₀ s) : TablesKept s₀ (s.carryOrder o) := by
  unfold State.carryOrder
  with_reducible refine TablesKept.ite h ?_
  extract_lets
  split
  · with_reducible exact TablesKept.takeMove h
  · with_reducible exact TablesKept.startJob h
  · exact h

theorem TablesKept.carryOrders (h : TablesKept s₀ s) : TablesKept s₀ s.carryOrders := by
  unfold State.carryOrders
  with_reducible exact TablesKept.foldl (fun _ _ h => .carryOrder h) h

-- Register accesses

theorem TablesKept.clearRc {a : Nat} {w : Width} (h : TablesKept s₀ s) : TablesKept s₀ (s.clearRc a w) := by
  unfold State.clearRc
  extract_lets
  with_reducible exact TablesKept.setReg h

theorem TablesKept.readEnd {a : Nat} {w : Width} (h : TablesKept s₀ s) : TablesKept s₀ (s.readEnd a w) := by
  unfold State.readEnd
  extract_lets
  with_reducible exact TablesKept.ite (.updJob h) h

theorem TablesKept.readTime {a : Nat} {w : Width} {cycle : Nat} (h : TablesKept s₀ s) : TablesKept s₀ (s.readTime a w cycle) := by
  unfold State.readTime
  extract_lets
  split
  · with_reducible exact TablesKept.setReg (.returnReg h)
  · with_reducible exact TablesKept.returnReg h

theorem State.readAt_tables {seat o : Nat} {w : Width} {cycle : Nat} (h : TablesKept s₀ s)
    : After TablesKept s₀ (s.readAt seat o w cycle) := by
  unfold State.readAt
  extract_lets
  with_reducible refine After.ite (.fault _ _ _) ?_
  extract_lets
  split
  · with_reducible exact After.next (.withReadData h)
  · with_reducible exact After.ite (execTableWindowAccess_tables h) (.ite (execShelfPop_tables h) (.ite (execShelfPop_tables h) (.next
      (.readEnd (.clearRc (.readTime h))))))

theorem TablesKept.sideWrite {seat v : Nat} (h : TablesKept s₀ s) : TablesKept s₀ (s.sideWrite seat v) := by
  unfold State.sideWrite
  with_reducible exact TablesKept.ite (.seatEvt h) (.withStaged h)

theorem TablesKept.storeReg {a m : Nat} {x : Word} (h : TablesKept s₀ s) : TablesKept s₀ (s.storeReg a m x) := by
  unfold State.storeReg
  extract_lets
  with_reducible exact TablesKept.setReg h

theorem lnhWrite_tables {a m : Nat} {x : Word} (h : TablesKept s₀ s) : After TablesKept s₀ (lnhWrite a m x s) := by
  unfold lnhWrite
  extract_lets
  with_reducible refine After.ite ?_ ?_
  · extract_lets
    split
    · with_reducible exact After.ite (execBaselineWrite_tables h) (.next h)
    · with_reducible exact After.next h
  · with_reducible refine After.ite ?_ ?_
    · extract_lets
      split
      · with_reducible exact execCalNow_tables h
      · with_reducible exact execRestore_tables h
      · with_reducible exact execLaneReturn_tables h
      · with_reducible exact execCalAbort_tables h
      · with_reducible exact After.next h
    · with_reducible exact After.next h

theorem loopWrite_tables {a m : Nat} {x : Word} (h : TablesKept s₀ s) : After TablesKept s₀ (loopWrite a m x s) := by
  unfold loopWrite
  extract_lets
  with_reducible refine After.ite ?_ ?_
  · extract_lets
    split
    · with_reducible exact execLoopCtlStart_tables h
    · with_reducible exact execLoopCtlOff_tables h
    · with_reducible exact execLoopCtlFreeze_tables h
    · with_reducible exact execLoopCtlRelease_tables h
    · with_reducible exact After.next h
  · with_reducible exact After.ite (execSetpointWrite_tables h) (.next h)

theorem movWrite_tables {a m : Nat} {x : Word} (h : TablesKept s₀ s) : After TablesKept s₀ (movWrite a m x s) := by
  unfold movWrite
  extract_lets
  with_reducible refine After.ite ?_ ?_
  · extract_lets
    split
    · with_reducible exact execAbort_tables (.ite h (.setField h))
    · with_reducible exact execRearm_tables (.ite h (.setField h))
    · with_reducible exact execRearmAll_tables (.ite h (.setField h))
    · with_reducible exact After.next (.ite h (.setField h))
  · with_reducible exact After.next h

theorem pchWrite_tables {a : Nat} {x : Word} (h : TablesKept s₀ s) : After TablesKept s₀ (pchWrite a x s) := by
  unfold pchWrite
  extract_lets
  with_reducible refine After.ite ?_ ?_
  · extract_lets
    split
    · with_reducible exact execRediscover_tables h
    · with_reducible exact execHeadReset_tables h
    · with_reducible exact execEchoNow_tables h
    · with_reducible exact After.next h
  · with_reducible exact After.next h

theorem shfWrite_tables {a : Nat} {x : Word} (h : TablesKept s₀ s) : After TablesKept s₀ (shfWrite a x s) := by
  unfold shfWrite
  extract_lets
  with_reducible refine After.ite ?_ ?_
  · extract_lets
    split
    · with_reducible exact execFlush_tables h
    · with_reducible exact execEmpty_tables h
    · with_reducible exact After.next h
  · with_reducible exact After.next h

theorem tilWrite_tables {a : Nat} {x : Word} (h : TablesKept s₀ s) : After TablesKept s₀ (tilWrite a x s) := by
  unfold tilWrite
  extract_lets
  with_reducible refine After.ite ?_ ?_
  · extract_lets
    split
    · with_reducible exact execJobPark_tables h
    · with_reducible exact execJobResume_tables h
    · with_reducible exact execJobStop_tables h
    · with_reducible exact After.next h
  · with_reducible exact After.next h

theorem trcWrite_tables {a : Nat} {x : Word} (h : TablesKept s₀ s) : After TablesKept s₀ (trcWrite a x s) := by
  unfold trcWrite
  extract_lets
  with_reducible refine After.ite (.ite (execReleaseAll_tables h) (.next h)) (.ite ?_ ?_)
  · extract_lets
    split
    · with_reducible exact execDescLoad_tables h
    · with_reducible exact execDescWrite_tables h
    · with_reducible exact execDescCancel_tables h
    · with_reducible exact After.next h
  · with_reducible exact After.ite (.ite (.next h) (execClrCount_tables h)) (.ite (.next (.updChan h)) (.next h))

theorem twnWrite_tables {seat a m : Nat} {x : Word} (h : TablesKept s₀ s) : After TablesKept s₀ (twnWrite seat a m x s) := by
  unfold twnWrite
  extract_lets
  with_reducible exact After.ite (.ite (execRejoin_tables (.sideWrite h)) (.next (.sideWrite h))) (.next h)

theorem opWrite_tables {seat a m : Nat} {x : Word} (h : TablesKept s₀ s) : After TablesKept s₀ (opWrite seat a m x s) := by
  unfold opWrite
  with_reducible refine After.ite (seatWrite_tables h) (.ite (loopWrite_tables h) ?_)
  extract_lets
  split
  · with_reducible exact After.ite (execEpochArm_tables h) (.next h)
  · with_reducible exact plnWrite_tables h
  · with_reducible exact movWrite_tables h
  · with_reducible exact tilWrite_tables h
  · with_reducible exact After.ite (execCellarApply_tables h) (.next h)
  · with_reducible exact shfWrite_tables h
  · with_reducible exact pchWrite_tables h
  · with_reducible exact lnhWrite_tables h
  · with_reducible exact twnWrite_tables h
  · with_reducible exact updWrite_tables h
  · with_reducible exact attWrite_tables h
  · with_reducible exact trcWrite_tables h
  · with_reducible exact After.ite (execFaultClear_tables h) (.next h)
  · with_reducible exact After.next h

theorem State.writeReg_tables {seat a m : Nat} {x : Word} (h : TablesKept s₀ s) : After TablesKept s₀ (s.writeReg seat a m x) := by
  unfold State.writeReg
  with_reducible exact After.ite (.next (.storeReg h)) (.ite (.next h) (.ite (opWrite_tables h) (opWrite_tables (.storeReg h))))

theorem execRcRead_tables {seat : BitVec 3} {offset : BitVec 22} {w : Width} (h : TablesKept s₀ s)
    : After TablesKept s₀ (execRcRead seat offset w s) := by
  unfold execRcRead
  with_reducible exact State.readAt_tables h

theorem execRegisterWrite_tables {seat : BitVec 3} {offset : BitVec 22} {w : Width} {v : Word} (h : TablesKept s₀ s)
    : After TablesKept s₀ (execRegisterWrite seat offset w v s) := by
  unfold execRegisterWrite
  extract_lets
  with_reducible refine After.ite (.fault _ _ _) ?_
  extract_lets
  split
  · with_reducible exact After.next h
  · with_reducible exact After.ite (execTableWindowAccess_tables h) (State.writeReg_tables h)

theorem execTimeNsRead_tables {seat : BitVec 3} {offset : BitVec 22} {w : Width} {cycle : BitVec 21} (h : TablesKept s₀ s)
    : After TablesKept s₀ (execTimeNsRead seat offset w cycle s) := by
  unfold execTimeNsRead
  with_reducible exact State.readAt_tables h

-- The tick

theorem TablesKept.hearthTick (h : TablesKept s₀ s) : TablesKept s₀ s.hearthTick := by
  unfold State.hearthTick
  with_reducible exact TablesKept.takeArm (.lockTick h)

theorem TablesKept.linkTick (h : TablesKept s₀ s) : TablesKept s₀ s.linkTick := by
  unfold State.linkTick
  extract_lets
  with_reducible exact TablesKept.freezeLost (.selectPlacement (.switchVariant (.roleTick (.loseDatapaths (.each (fun _ _ h => .porchTick
    h) h)))))

theorem TablesKept.loopTick {x : TickIn} (h : TablesKept s₀ s) : TablesKept s₀ (s.loopTick x) := by
  unfold State.loopTick
  extract_lets
  with_reducible exact TablesKept.takeTraceArms (.latchInputs (.takeSetpoints (.tapTick (.movePaths (.lowChanges (.moveLegs (.ite
    (.retimeMoves h) h)))))))

theorem TablesKept.passTick {pass : Nat} (h : TablesKept s₀ s) : TablesKept s₀ (s.passTick pass) := by
  unfold State.passTick
  extract_lets
  with_reducible exact TablesKept.maxField (.withEng h id id)

theorem TablesKept.planTick (h : TablesKept s₀ s) : TablesKept s₀ s.planTick := by
  unfold State.planTick
  with_reducible exact TablesKept.tableTick (.swapTakeEffect (.takeDesc (.descTakeEffect (.takePlan (.commitEffect (.endBridge
    (.preloadTick (.finishValidation h))))))))

theorem TablesKept.workTick {x : TickIn} (h : TablesKept s₀ s) : TablesKept s₀ (s.workTick x) := by
  unfold State.workTick
  with_reducible exact TablesKept.laneTick (.shelfTick (.jobTick (.memTick (.tileTick h))))

theorem TablesKept.atTick {x : TickIn} {from_ : Nat} (h : TablesKept s₀ s) : TablesKept s₀ (s.atTick x from_) := by
  unfold State.atTick
  extract_lets
  with_reducible exact TablesKept.powerUpTick (.featTick (.ite (.passTick (.workTick (.loopTick (.freezeRest (.planTick (.takeOrders
    (.updTick (.thermTick (.resetsTick (.ite (.offAndFreeze (.hearthTick (.ite (.linkTick (.configTick h)) (.configTick h)))) (.hearthTick
    (.ite (.linkTick (.configTick h)) (.configTick h))))))))))))) (.takeOrders (.updTick (.thermTick (.resetsTick (.ite (.offAndFreeze
    (.hearthTick (.ite (.linkTick (.configTick h)) (.configTick h)))) (.hearthTick (.ite (.linkTick (.configTick h)) (.configTick
    h))))))))))

theorem TablesKept.freshFrame (h : TablesKept s₀ s) : TablesKept s₀ s.freshFrame := by
  unfold State.freshFrame
  extract_lets loops _ _ s₁
  have h₁ : TablesKept s₀ s₁ := .withHrtLoopsEng h (fun k => twf_tmap k _) (fun k => twf_tmap k _) (fun k => twf_tmap k _)
  clear_value s₁
  split
  · exact .ite (.excuseLoops h₁) (.withPlan h₁ id)
  · exact h₁

theorem TablesKept.frameCells (h : TablesKept s₀ s) : TablesKept s₀ s.frameCells := by
  unfold State.frameCells
  extract_lets
  split
  · with_reducible exact TablesKept.ite (.send (.ite (.each (fun _ _ h => .freeTick (.send h)) h) h)) (.ite (.each (fun _ _ h => .freeTick
      (.send h)) h) h)
  · with_reducible exact TablesKept.ite (.each (fun _ _ h => .freeTick (.send h)) h) h

theorem TablesKept.startCells (h : TablesKept s₀ s) : TablesKept s₀ s.startCells := by
  unfold State.startCells
  with_reducible exact TablesKept.withPorches h fun k => twf_tmap k _

theorem TablesKept.newCells (h : TablesKept s₀ s) : TablesKept s₀ s.newCells := by
  unfold State.newCells
  extract_lets
  with_reducible exact TablesKept.frameCells (.each (fun _ _ h => .porchCells h) (.each (fun _ _ h => .pumpLane h) (.startCells h)))

theorem TablesKept.beginFrame (h : TablesKept s₀ s) : TablesKept s₀ s.beginFrame := by
  unfold State.beginFrame
  extract_lets
  with_reducible exact TablesKept.freshFrame (.writePages (.flushNotices (.atticTick (.ite (.finishOrders (.newCells (.pinTick (.newFrame
    h)))) (.startCells (.pinTick (.newFrame h)))))))

theorem TablesKept.clearSent (h : TablesKept s₀ s) : TablesKept s₀ s.clearSent := by
  unfold State.clearSent
  with_reducible exact TablesKept.withPorches h fun k => twf_tmap k _

theorem TablesKept.countFrame {x : TickIn} (h : TablesKept s₀ s) : TablesKept s₀ (s.countFrame x) := by
  unfold State.countFrame
  with_reducible exact TablesKept.count (.count (.countRan (.countState h)))

theorem TablesKept.endFrame (h : TablesKept s₀ s) : TablesKept s₀ s.endFrame := by
  unfold State.endFrame
  extract_lets
  with_reducible exact TablesKept.ite h (.patchTick (.silentImagers (.traceFrame (.ite h (.emitDeadline h)))))

theorem TablesKept.closeFrame {x : TickIn} (h : TablesKept s₀ s) : TablesKept s₀ (s.closeFrame x) := by
  unfold State.closeFrame
  extract_lets
  with_reducible exact TablesKept.ite (.countFrame (.clearSent (.endFrame h))) (.carryOrders (.countFrame (.clearSent (.endFrame h))))

theorem TablesKept.recoverTick (h : TablesKept s₀ s) : TablesKept s₀ s.recoverTick := by
  unfold State.recoverTick
  extract_lets
  with_reducible exact TablesKept.ite (.startBoot .wholeReset) h

theorem execTick_tables {x : TickIn} (h : TablesKept s₀ s) : After TablesKept s₀ (execTick x s) := by
  unfold execTick
  with_reducible exact After.ite (.next h) (.next (.recoverTick (.beginFrame (.atTick (.stopTick (.advance (.stepEpoch (.keepTime
    (.closeFrame h)))))))))

theorem execTickZero_tables (h : TablesKept s₀ s) : After TablesKept s₀ (execTickZero s) := by
  unfold execTickZero
  with_reducible exact After.ite (.next (.recoverTick (.beginFrame (.atTick (.hearthStart h))))) (.next h)

end

end Sys2Proof.Machine
end

-- Every command keeps the tables canonical ----------------------------------------------------------------------------------------
section
/-! O3: what each command leaves of the tables, and the step. -/
namespace Sys2Proof.Machine

/-- Every table stays canonical under every command. -/
theorem exec_tables (c : Instr) (s : State) : After TablesKept s (exec c s) := by
  have h := TablesKept.refl s
  by_cases hc : (touches c).all Part.tableless = true
  case pos => exact (exec_frame c s).tables h hc
  cases c with
  | porAssert => exact execPorAssert_tables
  | porDeassert => exact execPorDeassert_tables h
  | configurationReady _ _ _ => exact execConfigurationReady_tables h
  | timebaseAbsent => exact execTimebaseAbsent_tables h
  | tickZero => exact execTickZero_tables h
  | tick _ => exact execTick_tables h
  | timebaseLoss => exact execTimebaseLoss_tables h
  | tickInEdge _ => exact execTickInEdge_tables h
  | timeCellRx _ _ => exact execTimeCellRx_tables h
  | alignmentStep _ => exact execAlignmentStep_tables h
  | epochStep => exact execEpochStep_tables h
  | guardSlotStart _ => exact execGuardSlotStart_tables h
  | yieldPoint _ => exact execYieldPoint_tables h
  | forcedPreemption _ _ => exact execForcedPreemption_tables h
  | contextSwitch _ _ => exact execContextSwitch_tables h
  | emitDeadline => exact execEmitDeadline_tables h
  | overrunFreeze _ => exact execOverrunFreeze_tables h
  | lateFillSnapshot => exact execLateFillSnapshot_tables h
  | cellClose _ _ _ => exact execCellClose_tables h
  | halt _ => exact execHalt_tables h
  | lossOfLight _ => exact execLossOfLight_tables h
  | supervisorFatal => exact execSupervisorFatal_tables h
  | guardMismatch => exact execGuardMismatch_tables h
  | validationEnd _ => exact execValidationEnd_tables h
  | commitTakeEffect => exact execCommitTakeEffect_tables h
  | bridgeEnd => exact execBridgeEnd_tables h
  | copyActiveDone _ => exact execCopyActiveDone_tables h
  | swapTakeEffect => exact execSwapTakeEffect_tables h
  | tableWindowAccess _ _ _ => exact execTableWindowAccess_tables h
  | placementSelect => exact execPlacementSelect_tables h
  | variantSwitch => exact execVariantSwitch_tables h
  | copyIssue _ _ _ => exact execCopyIssue_tables h
  | copyFence _ _ => exact execCopyFence_tables h
  | beatComplete _ _ _ _ => exact execBeatComplete_tables h
  | cellarTimeout _ _ _ => exact execCellarTimeout_tables h
  | retireSwitch _ => exact execRetireSwitch_tables h
  | faultRetry _ _ => exact execFaultRetry_tables h
  | faultLimit _ => exact execFaultLimit_tables h
  | scratchUe _ _ => exact execScratchUe_tables h
  | partitionViolation _ _ => exact execPartitionViolation_tables h
  | hopDown _ => exact execHopDown_tables h
  | jobStart _ _ => exact execJobStart_tables h
  | jobAdmitted _ => exact execJobAdmitted_tables h
  | jobPark _ _ => exact execJobPark_tables h
  | jobResume _ _ => exact execJobResume_tables h
  | jobStop _ _ => exact execJobStop_tables h
  | jobExit _ _ => exact execJobExit_tables h
  | patchCell _ _ _ _ _ => exact execPatchCell_tables h
  | tapCell _ _ _ _ => exact execTapCell_tables h
  | cutoff _ _ => exact execCutoff_tables h
  | estimateLands _ _ => exact execEstimateLands_tables h
  | adaptCandidate _ _ => exact execAdaptCandidate_tables h
  | adaptDone _ _ => exact execAdaptDone_tables h
  | rebuildRoundEnd _ _ => exact execRebuildRoundEnd_tables h
  | setpointWrite _ _ => exact execSetpointWrite_tables h
  | handOver _ => exact execHandOver_tables h
  | acquisitionComplete _ => exact execAcquisitionComplete_tables h
  | search _ => exact execSearch_tables h
  | acqTimeout _ => exact execAcqTimeout_tables h
  | warmUpEnd _ => exact execWarmUpEnd_tables h
  | implausible _ => exact execImplausible_tables h
  | stateEcc _ => exact execStateEcc_tables h
  | datapathMismatch _ => exact execDatapathMismatch_tables h
  | descTakeEffect => exact execDescTakeEffect_tables h
  | traceArm _ => exact execTraceArm_tables h
  | trigNow _ => exact execTrigNow_tables h
  | traceWrite _ _ => exact execTraceWrite_tables h
  | stepEdge _ _ => exact execStepEdge_tables h
  | pwmPeriod _ _ _ => exact execPwmPeriod_tables h
  | pwmStale _ => exact execPwmStale_tables h
  | move _ _ => exact execMove_tables h
  | abort _ => exact execAbort_tables h
  | planningStart => exact execPlanningStart_tables h
  | planningDone _ _ _ => exact execPlanningDone_tables h
  | moveStart _ => exact execMoveStart_tables h
  | legEnd _ _ => exact execLegEnd_tables h
  | pathReady _ => exact execPathReady_tables h
  | settleTimeout _ => exact execSettleTimeout_tables h
  | deadlineMissed _ => exact execDeadlineMissed_tables h
  | pathLoss _ => exact execPathLoss_tables h
  | reflexTrip _ => exact execReflexTrip_tables h
  | schedCell _ => exact execSchedCell_tables h
  | gddr7DeviceLost _ => exact execGddr7DeviceLost_tables h
  | cellarApply => exact execCellarApply_tables h
  | shelfWrite _ _ => exact execShelfWrite_tables h
  | shelfSwap _ => exact execShelfSwap_tables h
  | shelfPop _ _ _ _ => exact execShelfPop_tables h
  | staleTimer _ => exact execStaleTimer_tables h
  | flush _ => exact execFlush_tables h
  | empty _ => exact execEmpty_tables h
  | codewordLock _ _ => exact execCodewordLock_tables h
  | lockLoss _ _ => exact execLockLoss_tables h
  | lseqGap _ _ => exact execLseqGap_tables h
  | commandCell _ => exact execCommandCell_tables h
  | ackCell _ _ => exact execAckCell_tables h
  | faultCell _ _ => exact execFaultCell_tables h
  | grantCell _ _ => exact execGrantCell_tables h
  | withdrawCell _ => exact execWithdrawCell_tables h
  | stateCell _ => exact execStateCell_tables h
  | healthCell _ _ => exact execHealthCell_tables h
  | echoReply _ _ _ _ => exact execEchoReply_tables h
  | laneCell _ _ _ _ lseq => exact execLaneCell_tables h (lseq := lseq)
  | resyncCell _ => exact execResyncCell_tables h
  | ident _ _ => exact execIdent_tables h
  | windows _ _ => exact execWindows_tables h
  | holding _ _ => exact execHolding_tables h
  | scale _ _ => exact execScale_tables h
  | configAck _ _ _ => exact execConfigAck_tables h
  | imgResult _ _ => exact execImgResult_tables h
  | porchLost _ => exact execPorchLost_tables h
  | rediscover _ => exact execRediscover_tables h
  | headReset _ => exact execHeadReset_tables h
  | echoNow _ => exact execEchoNow_tables h
  | moduleInsert _ _ _ => exact execModuleInsert_tables h
  | moduleRemove _ => exact execModuleRemove_tables h
  | moduleInt _ _ _ _ => exact execModuleInt_tables h
  | monitorPoll _ _ _ _ => exact execMonitorPoll_tables h
  | probe _ => exact execProbe_tables h
  | probeEnd _ _ => exact execProbeEnd_tables h
  | lightReturn _ _ => exact execLightReturn_tables h
  | latchClear _ => exact execLatchClear_tables h
  | calRunStart _ => exact execCalRunStart_tables h
  | rampStep _ _ => exact execRampStep_tables h
  | noAnswer _ => exact execNoAnswer_tables h
  | calLockRegained _ => exact execCalLockRegained_tables h
  | lockFailed _ => exact execLockFailed_tables h
  | compatApply _ _ => exact execCompatApply_tables h
  | baselineFormed _ _ => exact execBaselineFormed_tables h
  | baselineWrite _ _ _ => exact execBaselineWrite_tables h
  | calNow _ _ => exact execCalNow_tables h
  | restore _ _ => exact execRestore_tables h
  | laneReturn _ _ => exact execLaneReturn_tables h
  | calAbort _ => exact execCalAbort_tables h
  | claim _ => exact execClaim_tables h
  | claimDecision => exact execClaimDecision_tables h
  | reassert => exact execReassert_tables h
  | resyncStart => exact execResyncStart_tables h
  | seatBound _ => exact execSeatBound_tables h
  | clearingDone _ => exact execClearingDone_tables h
  | seatReset _ _ => exact execSeatReset_tables h
  | perst => exact execPerst_tables h
  | linkDown => exact execLinkDown_tables h
  | slotWrite _ _ _ => exact execSlotWrite_tables h
  | ideFail => exact execIdeFail_tables h
  | stagingDone _ => exact execStagingDone_tables h
  | activation _ _ => exact execActivation_tables h
  | restartEnd => exact execRestartEnd_tables h
  | fallbackTakeEffect => exact execFallbackTakeEffect_tables h
  | readDone => exact execReadDone_tables h
  | shedClear => exact execShedClear_tables h
  | stepEnd => exact execStepEnd_tables h
  | trip _ _ => exact execTrip_tables h
  | tripStop => exact execTripStop_tables h
  | supplyFail _ => exact execSupplyFail_tables h
  | iodSupplyFault => exact execIodSupplyFault_tables
  | faultClear _ => exact execFaultClear_tables h
  | timeNsRead _ _ _ _ => exact execTimeNsRead_tables h
  | rcRead _ _ _ => exact execRcRead_tables h
  | registerWrite _ _ _ _ => exact execRegisterWrite_tables h
  | iodSupplyReturn => exact execIodSupplyReturn_tables h
  | uncorrectableCodeword _ _ => exact execUncorrectableCodeword_tables h
  | cellDropped _ _ _ => exact execCellDropped_tables h
  | frameProgramEnd _ => exact execFrameProgramEnd_tables h
  | patrolScrub _ _ => exact execPatrolScrub_tables h
  | pageZeroed _ _ => exact execPageZeroed_tables h
  | jobTableClaim _ _ _ => exact execJobTableClaim_tables h
  | channelRetraining _ _ => exact execChannelRetraining_tables h
  | linkRecovery => exact execLinkRecovery_tables h
  | _ => exact absurd rfl hc

/-- Settles O3: every table is kept by the front command, and the queue is none of them. -/
theorem stepKeepsTables : Obligations.StepKeepsTables := by
  intro s t hst
  have hkept : TablesKept s t := by
    cases hq : s.pending with
    | nil =>
      rw [stepRunsFrontCommand.2 s hq] at hst
      cases hst
      exact .refl s
    | cons c r =>
      rw [stepRunsFrontCommand.1 s c r hq] at hst
      exact ((SameBut.pending_frame s r).tables (by decide)).trans (exec_tables c _ t hst)
  exact ⟨hkept .ram, fun hs => (canonical_iff t).2 fun k => hkept k ((canonical_iff s).1 hs k)⟩

end Sys2Proof.Machine
end
